-- ==== Sys2Proof/Word.lean ====
section
/-! DEFINITION. Word types, bit fields and the sparse table every array of the state is held in.
-/

set_option linter.unusedVariables false

namespace Sys2Proof

/-- One register word of the Device Control Space. -/
abbrev W32 := BitVec 32
/-- One byte. -/
abbrev Byte := BitVec 8

/-- A sparse table: the entries that differ from the table's default, keys strictly rising.
Which value an unlisted key has is said by the operation that reads it (`Tab.get`). -/
abbrev Tab (α : Type) := List (Nat × α)

/-- The entry of key `k`, or nothing when `k` is unlisted. -/
def tabFind {α : Type} : Tab α → Nat → Option α
  | [], _ => none
  | (j, v) :: rest, k => if k = j then some v else tabFind rest k

/-- Entry `k` of a table whose unlisted keys read as `d k`. -/
def tabGet {α : Type} (d : Nat → α) (m : Tab α) (k : Nat) : α := (tabFind m k).getD (d k)

/-- The table without key `k`. -/
def tabErase {α : Type} : Tab α → Nat → Tab α
  | [], _ => []
  | (j, v) :: rest, k => if k = j then tabErase rest k else (j, v) :: tabErase rest k

/-- The table with key `k` listed at `v`. -/
def tabPut {α : Type} : Tab α → Nat → α → Tab α
  | [], k, v => [(k, v)]
  | (j, u) :: rest, k, v =>
    if k < j then (k, v) :: (j, u) :: rest
    else if k = j then (k, v) :: rest
    else (j, u) :: tabPut rest k v

/-- Writing entry `k`: a value equal to the default is not listed, so equal tables are equal lists. -/
def tabSet {α : Type} [DecidableEq α] (d : Nat → α) (m : Tab α) (k : Nat) (v : α) : Tab α :=
  if v = d k then tabErase m k else tabPut m k v

/-- The canonical form, keys: strictly rising and all above the bound given. -/
def tabSortedFrom {α : Type} : Nat → Tab α → Bool
  | _, [] => true
  | lo, (j, _) :: rest => decide (lo ≤ j) && tabSortedFrom (j + 1) rest

/-- The canonical form of a table: keys strictly rising, no entry equal to what an unlisted key reads as. -/
def tabWf {α : Type} [DecidableEq α] (d : Nat → α) (m : Tab α) : Bool :=
  tabSortedFrom 0 m && m.all (fun p => decide (p.2 ≠ d p.1))

/-- Bits `hi` down to `lo` of a word, as a number. -/
def bits (w : W32) (hi lo : Nat) : Nat := (w.toNat / 2 ^ lo) % 2 ^ (hi + 1 - lo)

/-- The mask of bits `hi` down to `lo`. -/
def fieldMask (hi lo : Nat) : W32 := BitVec.ofNat 32 ((2 ^ (hi + 1 - lo) - 1) * 2 ^ lo)

/-- The word with bits `hi` down to `lo` replaced by the low bits of `v`. -/
def putBits (w : W32) (hi lo : Nat) (v : Nat) : W32 :=
  (w &&& ~~~ (fieldMask hi lo)) ||| (BitVec.ofNat 32 (v * 2 ^ lo) &&& fieldMask hi lo)

/-- A truth value as a bit. -/
def b2n (b : Bool) : Nat := if b then 1 else 0

/-- `a` divided by `b`, rounded up; 0 when `b` is 0. -/
def ceilDiv (a b : Nat) : Nat := if b = 0 then 0 else (a + b - 1) / b

/-- A count that stops at `cap`. -/
def satAdd (cap a b : Nat) : Nat := min cap (a + b)

/-- The list with the entry at place `k` replaced (unchanged past its end). -/
def listSet {α : Type} : List α → Nat → α → List α
  | [], _, _ => []
  | _ :: xs, 0, v => v :: xs
  | x :: xs, k + 1, v => x :: listSet xs k v

/-- The numbers 0 to `n` − 1 for which `p` holds. -/
def countBelow (n : Nat) (p : Nat → Bool) : Nat := ((List.range n).filter p).length

end Sys2Proof
end

