-- ==== Sys2Proof/Syntax.lean ====
section
/-! DEFINITION. The commands: one constructor of Instr for each row of the opcode table, and the operand types.
The table gives its rows no operands; these are the model's own choice (log entry 1): what the outside world or another
unit hands over with the event. -/

set_option linter.unusedVariables false

namespace Sys2Proof

/-- A mailbox request as the transport hands it over for execution (R400, R403, R407): the path it came on
(function f, or 0x100 + source EID on the management port), the header fields and the payload bytes. -/
structure MbxReq where
  path : Nat
  version : Nat
  tag : Nat
  length : Nat
  resvZero : Bool          -- reserved header bits are zero
  payload : List Nat       -- bytes
  deriving DecidableEq, Repr

/-- A fetched I/O submission queue entry (Table 12-3): the fields the device acts on. -/
structure IoEntry where
  fn : Nat
  sq : Nat
  cid : Nat
  nsid : Nat
  slba : Nat
  nlb : Nat                -- NLB, 0's based
  fua : Bool
  lr : Bool                -- Limited Retry
  deac : Bool
  fuse : Nat
  dtype : Nat
  wrap : Bool              -- a reserved or impossible pointer field (fails validation)
  win : Option Nat         -- the function whose BAR4 holds the data pointer; none: host memory
  check : Nat              -- what the checks of its data come to: 0 right, 1 compare mismatch, 2 guard, 3 application tag, 4 reference tag
  lists : Nat              -- device reads of PRP lists and SGL segments its data pointer needs (R30)
  deriving DecidableEq, Repr

/-- An admin command's header. -/
structure AdminHdr where
  fn : Nat
  cid : Nat
  nsid : Nat
  deriving DecidableEq, Repr

/-- How a T-word's fetch went (R265): parity right, wrong once, wrong on the re-fetch too. -/
inductive Fetch where
  | clean | retried | failed
  deriving DecidableEq, Repr

/-- A plan handed to a die context (R271, Table 08-6). -/
structure DiePlan where
  entry : Nat
  row : Nat
  col : Nat
  tile : Nat
  planeMask : Nat
  param : List Nat
  epoch : Nat
  kind : Nat               -- 0 read, 1 program, 2 erase
  deriving DecidableEq, Repr

/-- What the booted image brings for one kind of microcoded engine (R267, R268). -/
structure Patch where
  kind : Nat               -- in the order of R269, Traverse 0
  romOk : Bool             -- the ROM version it names is the kind's
  ver : Nat                -- PATCH_VER
  ram : List (BitVec 128)  -- both patch segments, from address 0xE00 on
  redirects : List (Nat × Nat)  -- redirect table: ROM address, patch address
  deriving DecidableEq, Repr

/-- What a target answered during discovery (R228 to R231). -/
structure Target where
  resetOk : Bool           -- RB_N went high within 10 ms
  statusOk : Bool          -- one of three attempts read a status other than 0xFF
  idOk : Bool              -- Read ID answered "ONFI"
  crcOk : Bool             -- one copy of the parameter page had a good CRC
  luns : Nat
  mfr : List Nat           -- parameter page bytes 32 to 43
  model : List Nat         -- bytes 44 to 63
  jedec : Nat              -- byte 64
  deriving DecidableEq, Repr

/-- A write to the MSI-X state of a function (R343). -/
inductive MsixWrite where
  | vector (v : Nat) (masked : Bool)
  | function (masked : Bool)
  | enable (on : Bool)
  deriving DecidableEq, Repr

/-- A DRAM request (R446). -/
structure DramReq where
  id : Nat
  port : Nat
  bank : Nat
  row : Nat
  addr : Nat
  wr : Bool
  deriving DecidableEq, Repr

/-- What a DRAM unit holds (Table 14-9): a map segment, a staging slot, a stripe journal slot, an Atlas journal tail unit, metadata,
firmware, or direct window bytes of a command. -/
inductive DramUnit where
  | map (pool seg : Nat)
  | staging (offset : Nat)
  | stripe (slot : Nat)
  | tail
  | metadata
  | firmware
  | window (cmd : Option (Nat × Nat × Nat))
  deriving DecidableEq, Repr

/-- An allocation of a tile (R436): its holders; `damaged`: the link read at the head of the free list fails its check half (R439). -/
structure TileAsk where
  holders : Nat
  damaged : Bool
  deriving DecidableEq, Repr

/-- A fault as an instance detects it (R531, R545). -/
structure FaultReport where
  block : Nat
  inst : Nat
  cause : Nat
  sub : Nat                -- sub-unit number or failing address, 0 where the cause has none
  injected : Bool
  link : Option (Nat × Nat)  -- the link partner (block, instance) the error concerns
  deriving DecidableEq, Repr

/-- A cipher job (R464, R476): what a lane does with a slot of data. -/
structure CipherJob where
  lane : Nat
  kind : Nat               -- 0 encrypt, 1 decrypt, 2 seal, 3 open, 4 and 5 open and seal internal metadata, 6 and 7 into and out of staging (R461)
  slot : Nat               -- key slot
  word : Option Nat        -- the quarter word read; none: LBAF 1 (R430)
  dupOk : Bool             -- both datapaths agreed
  curOk : Bool             -- XTS: every protection information guard passes under CURRENT (R476)
  shadowOk : Bool          -- under SHADOW
  injected : Bool
  cmd : Option (Nat × Nat × Nat)  -- the I/O command it works for: function, queue, identifier
  lba : Nat                -- LBA within the namespace; of internal metadata its structure number (R458)
  side : Nat               -- side band bytes 4 to 11
  addr : Nat               -- its position on flash: map address, quarter at bit 36 (Table 15-2)
  data : List Nat          -- one LBA or one metadata quarter, as the lane takes it
  tag : Nat                -- side band bytes 12 to 27 read
  deriving DecidableEq, Repr

/-- The four access paths of R660. -/
inductive Path where
  | pf0 | pf1 | mgmt | firmware
  deriving DecidableEq, Repr

/-- Where a register access goes: a DCS offset on one of the four paths, or an offset of a function's BAR2 window. -/
inductive RegVia where
  | dcs (path : Path) (offset : Nat)
  | window (fn offset : Nat)
  deriving DecidableEq, Repr

/-- What a Survey test returned (R611, R613). -/
structure TestResult where
  conditions : Bool        -- the end conditions hold
  signature : Nat
  golden : Nat
  repairs : Nat
  burnFail : Bool
  deriving DecidableEq, Repr

/-- A JTAG instruction (R481). -/
inductive JtagIr where
  | idcode | bypass
  | other (code : Nat)
  deriving DecidableEq, Repr

/-- What the start-up finds (R666): the steps' outcomes that come from outside the block's own state. -/
structure StartEnv where
  rstHigh : Bool           -- SYS_RST_N is high (R634)
  testMode : Bool          -- TESTMODE is high at the release of SYS_RST_N (R629)
  cartouche : Bool         -- the Cartouche row's check passes (R580)
  signed : List Nat        -- image slots whose signature verifies under the Keacia key (R603)
  patches : List Patch     -- patches of the booted image
  dramGib : Nat            -- GiB per channel, 16, 24 or 32
  dramRanks : Nat
  dramWidth : Nat          -- 4 or 8
  dramRate : Nat           -- DRC_CFG.RATE code at which every channel trains
  channels : Nat           -- bit mask of DRAM channels that trained
  marched : List Nat       -- DRAM channels whose fenced regions pass DRAM_MARCH
  marchFails : List (Nat × Nat)  -- regions that fail the march of a first boot (R670): DRAM channel, region
  failed : List (Nat × Nat)  -- units, block and instance, that fail the bring-up Survey
  diodes : List Int        -- readings of the channel diodes, 1/16 °C
  badBlocks : List (Nat × Nat)  -- factory bad-block marks: die, block (read at a first boot, R670)
  corrupt : List Nat       -- stripe journal slots of the dump whose CRC or STATE check fails (R194)
  deriving DecidableEq, Repr

/-- The commands of the block: one constructor for each row of the opcode table, in its order. -/
inductive Instr where
  /-- FLIT_CRC_ERROR (R11): A die link end receives a flit with a CRC error and requests its replay; a flit delivered after a replay counts as a CORRECTED fault. -/
  | flitCrcError (j : Nat) (delivered : Bool)
  /-- SQ_DOORBELL_WRITE (R363): The host writes a submission queue tail doorbell; an invalid value or a missing queue is ignored and raises an Error asynchronous event. -/
  | sqDoorbellWrite (fn q value : Nat)
  /-- CQ_DOORBELL_WRITE (R363): The host writes a completion queue head doorbell, freeing entries; an invalid write is ignored and raises an Error event. -/
  | cqDoorbellWrite (fn q value : Nat)
  /-- SQ_ENTRY_FETCH (R363): The Waypoint engine issues the read of the next eligible submission queue entry in round robin, within rate tokens and class rules. -/
  | sqEntryFetch (fn : Nat) (heads : List (Nat × Nat))
  /-- HOLD_PROBE (R83): The Waypoint engine reads the head entry of a hold-class queue without advancing it and the Plotter runs the admission check on it. -/
  | holdProbe (e : IoEntry) (op : Nat) (ad : Bool) (ranges : List (Nat × Nat))
  /-- HOLD_LIMIT_EXPIRY (R46): A hold-class head entry has waited HOLD_LIMIT; a last fit check decides, and otherwise it is fetched and refused. -/
  | holdLimitExpiry (e : IoEntry) (op : Nat) (ad : Bool) (ranges : List (Nat × Nat))
  /-- READ (R368): A fetched Read entry arrives, starts its deadline clock, is validated, looked up and offered to admission. -/
  | read (e : IoEntry)
  /-- WRITE (R372): A fetched Write entry arrives, starts its deadline clock and is offered to admission as write or FUA write. -/
  | write (e : IoEntry)
  /-- FLUSH (R372): A fetched Flush entry arrives and is admitted with a bound set by the programs of staged data of its namespace. -/
  | flush (e : IoEntry)
  /-- WRITE_UNCORRECTABLE (R142): A fetched Write Uncorrectable poisons whole IUs or marks LBAs of partial IUs in the poison mask. -/
  | writeUncorrectable (e : IoEntry)
  /-- COMPARE (R369): A fetched Compare reads the LBAs and compares them with host data, completing with Compare Failure on mismatch. -/
  | compare (e : IoEntry)
  /-- WRITE_ZEROES (R370): A fetched Write Zeroes is admitted as a write or, with DEAC set, as a deallocate. -/
  | writeZeroes (e : IoEntry)
  /-- DATASET_MANAGEMENT (R138): A fetched Dataset Management deallocates its ranges when AD is set and otherwise completes with no effect. -/
  | datasetManagement (e : IoEntry) (ad : Bool) (ranges : List (Nat × Nat))
  /-- VERIFY (R369): A fetched Verify reads and decodes the LBAs and checks protection information without transferring data. -/
  | verify (e : IoEntry)
  /-- ATLAS_LOOKUP (R123): An Atlas engine receives a lookup request and returns the entry as it stands, within 1.5 µs. -/
  | atlasLookup (pool iu : Nat)
  /-- ADMIT (R79): The Plotter runs the admission check, booking direct or detour plans and all resources tentatively, then commits or refuses. -/
  | plotAdmit (fn sq cid : Nat)
  /-- HOST_READ_COMPLETION (R30): A completion for a device read of host memory arrives, ending that part of the command's host wait. -/
  | hostReadCompletion (fn sq cid : Nat)
  /-- HOST_ALLOWANCE_EXPIRY (R30): A command's host wait exceeds the 10 µs allowance and its deadline clock stands stopped. -/
  | hostAllowanceExpiry (fn sq cid : Nat)
  /-- COMPLETION_TIMEOUT (R348): A non-posted host memory read times out, ending the command with Data Transfer Error and releasing its bookings. -/
  | completionTimeout (fn sq : Nat) (cid : Option Nat)
  /-- HOST_READ_ERROR (R349): A host memory read returns UR, CA, poisoned or ECRC-failed data; data reads end the command, and an SQ entry read is retried once then stalls the queue. -/
  | hostReadError (fn sq : Nat) (cid : Option Nat) (err : Nat)
  /-- COMPLETION_ENTRY_SENT (R28): The last byte of a completion entry leaves the port, stopping the deadline clock, checking lateness and signalling MSI-X. -/
  | completionEntrySent (fn sq cid : Nat)
  /-- COALESCING_TIMER_EXPIRY (R364): The interrupt coalescing aggregation time of a vector expires and the MSI-X message is sent. -/
  | coalescingTimerExpiry (fn vec : Nat)
  /-- FRAME_BOUNDARY (R58): Every 1 ms frame 0 retires, frame indices shift, a new frame 63 enters, unused bookings are released and PLT_FRAME increments. -/
  | frameBoundary (activity : List Nat)
  /-- QUIET_SLOT_END (R105): A quiet slot's 20 frames end, QUIET_DONE sets and an anchor reading is requested. -/
  | quietSlotEnd
  /-- DECODE_COMPLETE (R297): An LDPC lane finishes decoding a slot and posts the mode, corrected-bit count and ladder set to the Plotter and firmware. -/
  | decodeComplete (lane mode : Nat) (ok : Bool) (corrected ladder : Nat) (die block page plane cwMask : Nat)
  /-- SOFT_RESERVATION_START (R294): A booked soft-decode reservation begins on a B lane and any decode running ahead there yields. -/
  | softReservationStart (lane id : Nat)
  /-- DIE_OPERATION_COMPLETE (R101): A die operation completes and is used or discarded by its epoch, updating counts, WRITTEN bits and band state. -/
  | dieOperationComplete (die : Nat) (passed : Bool)
  /-- HOST_STAGE (R126): The holding Atlas engine unconditionally sets an entry to STAGED and journals it, adjusting the old address's valid count. -/
  | hostStage (fn sq cid iu : Nat)
  /-- PROGRAM_DONE (R126): A compare-and-swap moves an entry from STAGED to MAPPED after its program, releasing the staging slot. -/
  | programDone (pool iu slot addr : Nat)
  /-- RELOCATE (R126): A compare-and-swap moves an entry between MAPPED addresses after a relocation. -/
  | relocate (pool iu old new : Nat)
  /-- DISCARD (R126): An entry is unconditionally set UNMAPPED and journalled. -/
  | discard (pool iu : Nat)
  /-- POISON (R126): An entry is set POISONED with its reason and journalled. -/
  | poison (pool iu reason : Nat)
  /-- GET (R118): The directory receives GET for a segment and grants it from DRAM or snoops its holder. -/
  | segGet (seg requester : Nat)
  /-- SNOOP (R118): An engine receives SNOOP and sends the segment with its DIRTY mark to the requester from its cache or eviction buffer. -/
  | snoop (holder seg requester : Nat)
  /-- SNOOP_DONE (R118): The directory receives SNOOP_DONE and records the requester as holder. -/
  | snoopDone (seg requester : Nat)
  /-- SEGMENT_EVICT (R119): An engine moves a segment to an eviction buffer, sends EVICT_NOTICE and starts the DRAM write if DIRTY. -/
  | segmentEvict (engine seg : Nat)
  /-- EVICT_NOTICE (R120): The directory receives EVICT_NOTICE and sets EVICTING, keeping any snoop pending. -/
  | evictNotice (engine seg : Nat)
  /-- SEGMENT_WRITEBACK_COMPLETE (R119): A segment's DRAM write completes and the directory sends EVICT_ACK. -/
  | segmentWritebackComplete (engine seg : Nat)
  /-- EVICT_ACK (R119): The evicting engine receives EVICT_ACK, passing ownership to DRAM if still EVICTING, and retires the buffer. -/
  | evictAck (engine seg : Nat)
  /-- SEGMENT_LOAD_COMPLETE (R118): A granted segment load from DRAM completes, checking SEG_GEN and entry states. -/
  | segmentLoadComplete (engine seg gen : Nat) (valid : Bool)
  /-- DIRTY_MAX_EXPIRY (R122): A segment has been DIRTY for DIRTY_MAX_MS and its holder writes it back while keeping it HELD. -/
  | dirtyMaxExpiry (engine seg : Nat)
  /-- ASSEMBLY_WINDOW_END (R133): An assembly slot's window ends and missing LBAs are filled from the previous value. -/
  | assemblyWindowEnd (slot : Nat) (readOk : Bool)
  /-- JOURNAL_BLOCK_SPILL (R144): Firmware spills a filled 1 MiB Atlas journal tail block to map bands. -/
  | journalBlockSpill
  /-- CHECKPOINT_COPY (R145): Firmware writes the next segment of the checkpoint pass to map bands and logs a CHECKPOINT record. -/
  | checkpointCopy (location : Nat)
  /-- CKPT_PASS_OVERRUN (R145): A checkpoint pass overruns CKPT_PASS_S and CKPT_LATE sets. -/
  | ckptPassOverrun
  /-- DISCARD_SWEEP (R139): Firmware sweeps a DISCARDED segment, applying valid-count effects and writing it UNMAPPED. -/
  | discardSweep (pool seg : Nat)
  /-- SEGMENT_RECOVERY (R148): A corrupt or lost map segment is recovered from DRAM or checkpoint copy plus newer journal records. -/
  | segmentRecovery (pool seg : Nat) (fromDram : Bool)
  /-- GC_VICTIM_PICK (R161): Firmware scores the candidates of a stripe group and picks the highest as VICTIM. -/
  | gcVictimPick (group : Nat)
  /-- DEBT_CONVERSION (R89): Firmware converts booked debt into concrete relocation, refresh or erase operations booked without further check. -/
  | debtConversion (group : Nat)
  /-- RELOCATION (R164): Firmware reads a valid IU, programs it through the stripe path and issues RELOCATE. -/
  | relocation (pool iu old new : Nat)
  /-- WA_ESTIMATE (R165): Every 100 ms firmware computes A_MEAS, A_PRED and A_BOOKED and publishes SVY_WA. -/
  | waEstimate
  /-- BAND_OPEN (R166): Firmware opens the least-worn FREE band of a group for a class, recording SHEETS, W_b and OPEN_SEQ. -/
  | bandOpen (group cls : Nat)
  /-- BAND_ERASE_START (R158): A DRAINED band with no pins or older-epoch reads moves to ERASING and its erases are booked. -/
  | bandEraseStart (band : Nat)
  /-- REFRESH_START (R173): Firmware converts a queued band's refresh debt and moves it to VICTIM for relocation. -/
  | refreshStart
  /-- READ_LIMIT_CLOSE (R174): An OPEN band crossing the read limit is padded, closed with parity and footer, and queued. -/
  | readLimitClose (band : Nat)
  /-- MIN_FREE_PUBLISH (R171): Firmware publishes MIN_FREE and the free-band watermarks update ABOVE, CROSSED and COUNT. -/
  | minFreePublish
  /-- RETENTION_SAMPLE (R175): A CLOSED band's retention sample falls due and is booked as debt on the sampled member. -/
  | retentionSample (band : Nat)
  /-- SPARE_REBUILD (R179): Firmware rebuilds a substituted member's programmed pages into its spare block as debt. -/
  | spareRebuild (band sheet : Nat)
  /-- STRIPE_OPEN (R191): Firmware takes a FREE journal slot, zeroes copy 0 and writes a FILLING header. -/
  | stripeOpen (band row : Nat)
  /-- FOLD (R192): A parity engine folds an arriving data slot into the spare partial P and Q copy and commits by flipping COPY. -/
  | fold (slot sheet : Nat) (data : List Nat) (from_ : List Nat)
  /-- PARITY_PROGRAM (R191): Once every data position is WRITTEN, Traverse engines program P and Q from the current copy. -/
  | parityProgram (slot : Nat)
  /-- RECONSTRUCT (R197): A parity engine rebuilds the erased positions of a row from the positions read. -/
  | reconstruct (band row : Nat) (data : List (List Nat)) (erased : List Nat)
  /-- LAYOUT_CHANGE (R205): A change of usable sheets increments LAYOUT_GEN and restarts the reshape sweep at 0. -/
  | layoutChange (present usable : Nat)
  /-- RESHAPE_ADVANCE (R206): Firmware relocates a band needing reshape or passes a current one and advances the frontier. -/
  | reshapeAdvance
  /-- EVACUATION (R212): After the abort window firmware marks the sheet unusable, closes its open bands, moves map bands and the HOLDUP reserve, then sets EVAC_DONE. -/
  | evacuation (sheet : Nat)
  /-- CHANNEL_DISCOVERY (R228): A channel's targets are reset, probed, identified and matched to profiles. -/
  | channelDiscovery (ch : Nat) (targets : List Target)
  /-- CHANNEL_TRAINING (R234): The PHY trains every present die at the chosen rate, stepping down on failure and fencing dies that fail. -/
  | channelTraining (ch : Nat) (eyes : List (Nat × Nat × Nat × Nat))
  /-- RETRAIN_STEP (R236): One retraining step runs as a closed window of the channel's dies. -/
  | retrainStep (ch : Nat) (fails : List Nat)
  /-- RETRAIN_LATE (R237): A retraining's last step is not booked within RETRAIN_MAX_MS and RETRAIN_LATE sets. -/
  | retrainLate (ch : Nat)
  /-- ABSENT_HOLD_EXPIRY (R241): The 250 ms window after a die absence ends without bay presence loss and the held records are written. -/
  | absentHoldExpiry (sheet : Nat)
  /-- POLL_TIMEOUT (R242): A poll budget is exhausted and the engine issues LUN Reset, a status check and a record. -/
  | pollTimeout (die statusAfter : Nat)
  /-- RUN_TIMER_EXPIRY (R245): A die's run timer expires and a held SUSPEND request may be taken at the next boundary. -/
  | runTimerExpiry (die : Nat)
  /-- SUSPEND_LONG (R247): A suspension reaches 10 ms and the Plotter names a resume at the first allowed boundary. -/
  | suspendLong (die : Nat)
  /-- NOP (R259): A T-word performs only its counter operation and branch. -/
  | nop (die : Nat) (w : BitVec 128) (fetch : Fetch)
  /-- WAIT (R264): A T-word makes its context wait DWELL + 1 cycles, limited in long operations, freeing the engine. -/
  | wait (die : Nat) (w : BitVec 128) (fetch : Fetch)
  /-- WAIT_END (R256): A WAIT word's dwell ends and its context becomes runnable again. -/
  | waitEnd (die : Nat)
  /-- RESTORE (R259): A T-word restores C0 to C3 from their saved copies and continues at RESUME_PC. -/
  | restore (die : Nat) (w : BitVec 128) (fetch : Fetch)
  /-- MSG (R259): A T-word posts a message with the last status byte and issue epoch to the Plotter. -/
  | msg (die : Nat) (w : BitVec 128) (fetch : Fetch)
  /-- IDLE (R259): A T-word ends the routine and the context becomes IDLE unless SUSPENDED. -/
  | idle (die : Nat) (w : BitVec 128) (fetch : Fetch)
  /-- CMD (R273): A T-word drives one command cycle, with suspend and resume opcodes checked against the run timer and MAX_SUSPENDS. -/
  | cmd (die : Nat) (w : BitVec 128) (fetch : Fetch)
  /-- ADDR (R259): A T-word drives ACYC address cycles from its address source. -/
  | addr (die : Nat) (w : BitVec 128) (fetch : Fetch)
  /-- STAT_IN (R259): A T-word reads one status byte into the die context. -/
  | statIn (die : Nat) (w : BitVec 128) (fetch : Fetch) (status : Nat)
  /-- PINS (R259): A T-word drives the named channel pins for the whole word. -/
  | pins (die : Nat) (w : BitVec 128) (fetch : Fetch)
  /-- MOVE (R259): A T-word hands a burst to the channel mover in the given direction. -/
  | move (die : Nat) (w : BitVec 128) (fetch : Fetch)
  /-- MOVER_BURST_COMPLETE (R258): The channel mover finishes, or reports an error on, a burst handed to it. -/
  | moverBurstComplete (die : Nat) (error : Bool)
  /-- DIE_FENCE_REQUEST (R271): A FENCE request is taken at a die context boundary, abandoning any suspended operation and returning pending requests. -/
  | dieFenceRequest (die : Nat)
  /-- DIE_RELEASE_REQUEST (R279): A RELEASE request is taken and the die context is handed to its new owner after in-progress reads finish. -/
  | dieReleaseRequest (die newOwner : Nat)
  /-- DIE_SUSPEND_REQUEST (R276): A SUSPEND request is taken; the handler sends the suspend opcode, polls and marks the context SUSPENDED. -/
  | dieSuspendRequest (die : Nat) (completed : Bool)
  /-- DIE_START_REQUEST (R271): A START request is taken and the plan's entry address runs under its issue epoch. -/
  | dieStartRequest (die : Nat) (plan : DiePlan)
  /-- DIE_RESUME (R276): The die's last read ends and the engine sends the resume opcode and continues the long operation. -/
  | dieResume (die : Nat)
  /-- DIE_HANDOVER (R278): The Plotter moves a die to another engine of its channel, incrementing the die epoch. -/
  | dieHandover (die newOwner : Nat)
  /-- DIE_TAKEOVER (R280): A die of a fenced owner is bound to a new engine, which sends Read Status Enhanced and acts on the committed context. -/
  | dieTakeover (die newOwner status : Nat)
  /-- PRESENCE_EDGE (R301): SHB_PRSNT_N changes level and the bay starts or abandons its debounce. -/
  | presenceEdge (bay : Nat) (present : Bool)
  /-- PRESENCE_DEBOUNCED (R301): Presence holds its new level for 100 ms and the bay acts on insertion or loss. -/
  | presenceDebounced (bay : Nat)
  /-- BUTTON_PRESS (R301): A press held 20 ms latches BUTTON and is acted on, refused or ignored by bay state. -/
  | buttonPress (bay : Nat)
  /-- BAY_POWER_START (R303): A bay in WAIT_POWER raises SHB_PWREN once no other bay powers and the mode allows. -/
  | bayPowerStart (bay : Nat)
  /-- PWRGD_RISE (R309): SHB_PWRGD rises and the bay moves to IDENTIFY after a 1 ms settle. -/
  | pwrgdRise (bay : Nat)
  /-- PWRGD_TIMEOUT (R302): SHB_PWRGD fails to rise within RAMP_MS + PG_MARGIN_MS; PG_FAIL is recorded and power lowered. -/
  | pwrgdTimeout (bay : Nat)
  /-- PWRGD_FALL (R318): SHB_PWRGD falls, completing a power-off or, unasked, faulting the bay. -/
  | pwrgdFall (bay : Nat)
  /-- IDENTITY_CHECK (R310): The sheet's identity record read completes and is checked. -/
  | identityCheck (bay : Nat) (answered : Bool) (record : List Nat)
  /-- BAY_DISCOVERY_END (R309): Discovery and training of a sheet end and the bay enters HELD or REJECTED. -/
  | bayDiscoveryEnd (bay : Nat)
  /-- BAY_OFFER (R312): A HELD bay enters OFFERED and the sheet is made usable. -/
  | bayOffer (bay : Nat)
  /-- ABORT_WINDOW_EXPIRY (R316): The 5 s abort window ends and the bay enters EVACUATING. -/
  | abortWindowExpiry (bay : Nat)
  /-- REFUSAL_BLINK_END (R315): The 5 s refusal blink of a bay ends. -/
  | refusalBlinkEnd (bay : Nat)
  /-- CONVENTIONAL_RESET (R352): PERST assertion, hot reset or data link down resets every function of a port. -/
  | conventionalReset (port cause : Nat)
  /-- PERST_RELEASE (R641): PERST_x_N is released and the port begins link training, also waking DORMANT. -/
  | perstRelease (port : Nat)
  /-- FLR (R353): A function level reset abandons and discards the function's commands and returns its state to reset values. -/
  | flr (fn : Nat)
  /-- VF_ENABLE_WRITE (R328): The host writes VF Enable and NumVFs, enabling or disabling VFs. -/
  | vfEnableWrite (port : Nat) (enable : Bool) (numVfs : Nat) (ari : Bool)
  /-- BAR_SIZE_WRITE (R332): The host changes a BAR4 size, discarding the window and ending commands using it. -/
  | barSizeWrite (fn log2 : Nat)
  /-- CMBMSC_WRITE (R334): Setting CMSE allocates direct window backing; clearing it returns the backing. -/
  | cmbmscWrite (fn : Nat) (cre cmse : Bool)
  /-- MSIX_UNMASK (R343): A vector or function unmask, or MSI-X Enable, sends the pending messages. -/
  | msixUnmask (fn : Nat) (what : MsixWrite)
  /-- GAZ_RECORD_LATCH_READ (R341): A read of a Gazetteer record's first dword latches the whole record for the function. -/
  | gazRecordLatchRead (fn record : Nat)
  /-- POISONED_WRITE (R350): A poisoned write to a BAR is discarded and POISONED_WR set. -/
  | poisonedWrite (fn bar : Nat)
  /-- RECEIVED_TLP_ERROR (R350): A received TLP is malformed, unsupported, unexpected or fails ECRC and is discarded or answered and reported in AER. -/
  | receivedTlpError (port : Nat) (fn : Option Nat) (err : Nat)
  /-- ATS_INVALIDATE (R346): An ATS invalidation completes after every request that used the translation has completed. -/
  | atsInvalidate (fn page : Nat)
  /-- LINK_RATE_CHANGE (R325): A port's trained rate or width changes, applying from the next frame and recomputing floors. -/
  | linkRateChange (port gen width : Nat) (flit : Bool)
  /-- CC_EN_SET (R359): The host sets CC.EN and the controller becomes ready once MAP_READY is 1, or faults on invalid AQA. -/
  | ccEnSet (fn iosqes iocqes asqs acqs : Nat)
  /-- CC_EN_CLEAR (R376): The host clears CC.EN and the controller resets its queues and registers. -/
  | ccEnClear (fn : Nat)
  /-- CC_SHN_WRITE (R377): A shutdown notification stops fetching and SHST reads 10b once accepted commands complete. -/
  | ccShnWrite (fn shn : Nat)
  /-- DEVICE_SHUTDOWN_FLUSH (R377): Once every enabled controller reaches SHST 10b the device programs staged data and spills the journal tail. -/
  | deviceShutdownFlush
  /-- DELETE_IO_SUBMISSION_QUEUE (R374): The queue stops being fetched, its outstanding commands abort and the delete completes within 100 µs. -/
  | deleteIoSubmissionQueue (a : AdminHdr) (qid : Nat)
  /-- CREATE_IO_SUBMISSION_QUEUE (R362): A submission queue is created and takes the default class, or refused. -/
  | createIoSubmissionQueue (a : AdminHdr) (qid size cqid : Nat) (pc : Bool)
  /-- GET_LOG_PAGE (R386): A log page is returned, and Lost Ranges with LSP bit 0 removes covered records. -/
  | getLogPage (a : AdminHdr) (lid lsp numd lpo : Nat) (rae : Bool)
  /-- DELETE_IO_COMPLETION_QUEUE (R375): A completion queue is deleted unless a submission queue still names it. -/
  | deleteIoCompletionQueue (a : AdminHdr) (qid : Nat)
  /-- CREATE_IO_COMPLETION_QUEUE (R362): A completion queue is created or refused. -/
  | createIoCompletionQueue (a : AdminHdr) (qid size vector : Nat) (pc ien : Bool)
  /-- IDENTIFY (R382): Identify returns controller or namespace data for a supported CNS. -/
  | identify (a : AdminHdr) (cns cntid : Nat)
  /-- ABORT (R373): Abort removes nothing and reports not aborted. -/
  | abort (a : AdminHdr) (sqid victim : Nat)
  /-- SET_FEATURES (R384): A supported feature is set, including Number of Queues, Arbitration, power state, APST and Timestamp. -/
  | setFeatures (a : AdminHdr) (fid : Nat) (sv : Bool) (dw11 : BitVec 32) (data : List Nat)
  /-- GET_FEATURES (R384): A supported feature value is returned, including the vendor Queue Contract. -/
  | getFeatures (a : AdminHdr) (fid sel : Nat) (dw11 : BitVec 32)
  /-- ASYNCHRONOUS_EVENT_REQUEST (R391): An Asynchronous Event Request is held outstanding until an event type fires. -/
  | asynchronousEventRequest (a : AdminHdr)
  /-- ASYNC_EVENT_REPORT (R391): An enabled event occurs and an outstanding request completes with it, masking the type. -/
  | asyncEventReport (fn event : Nat)
  /-- FORMAT_NVM (R378): Format waits for accepted commands and discards, or rekeys and discards, one namespace. -/
  | formatNvm (a : AdminHdr) (lbaf pi pil mset ses : Nat)
  /-- PS_EXIT_TIMER (R394): The device leaves a non-operational state EXLAT before the known event that set t_next. -/
  | psExitTimer
  /-- PS4_ENTRY (R396): Every enabled controller selects PS4 and both links enter L2, and DORMANT entry begins. -/
  | ps4Entry
  /-- RING (R403): The host rings a function mailbox; the device copies the request or segment, or sets OVERRUN if busy. -/
  | ring (fn : Nat)
  /-- RESP_DONE (R403): The host returns the outbound mailbox, and the device posts any next response segment. -/
  | respDone (fn : Nat)
  /-- MCTP_MAILBOX_MESSAGE (R399): A type 7Eh MCTP message arrives on the management port and is taken as a mailbox request segment or discarded. -/
  | mctpMailboxMessage (ep eid : Nat) (ic tagOwner : Bool) (body : List Nat)
  /-- SEGMENT_TIMEOUT (R406): 100 ms pass after SEG_TAKEN without the next segment and the request fails with SEGMENT_ERROR. -/
  | segmentTimeout (path : Nat)
  /-- HELLO (R408): A session is opened at the highest common version, replacing any existing session. -/
  | hello (q : MbxReq)
  /-- GOODBYE (R409): The mailbox's session ends. -/
  | goodbye (q : MbxReq)
  /-- OP_STATUS (R413): The state and result of a long operation's handle is returned. -/
  | opStatus (q : MbxReq)
  /-- DEVICE_INFO (R414): Ordering code, serial, mode, stepping, booted slot and firmware version are returned. -/
  | deviceInfo (q : MbxReq)
  /-- CLASS_GET (R414): A contract class record is returned. -/
  | classGet (q : MbxReq)
  /-- CLASS_SET (R415): A contract class is defined whole or refused, and its UNFIT is rechecked. -/
  | classSet (q : MbxReq)
  /-- MASK_SET (R37): A function's permitted-class mask is set, holding queues bound to removed classes. -/
  | maskSet (q : MbxReq)
  /-- DEFAULT_SET (R38): A function's default class for new queues is set. -/
  | defaultSet (q : MbxReq)
  /-- QUEUE_BIND (R39): A submission queue is bound to a permitted enabled class from the next fetch. -/
  | queueBind (q : MbxReq)
  /-- FLOORS_GET (R87): The current deadline floors are returned. -/
  | floorsGet (q : MbxReq)
  /-- QUOTA_SET (R360): A function's queue quota is changed or refused. -/
  | quotaSet (q : MbxReq)
  /-- RESERVE_SET (R415): HK, TH and RECON values are set together or refused. -/
  | reserveSet (q : MbxReq)
  /-- POOL_CREATE (R416): A namespace pool is created with its IU size, DRAM mask and capacity, or refused. -/
  | poolCreate (q : MbxReq)
  /-- POOL_RESIZE (R416): A pool's capacity is changed or refused. -/
  | poolResize (q : MbxReq)
  /-- POOL_DELETE (R416): An empty pool is deleted. -/
  | poolDelete (q : MbxReq)
  /-- NS_CREATE (R416): A namespace is created in a pool with format, PI and cipher, or refused. -/
  | nsCreate (q : MbxReq)
  /-- NS_RESIZE (R416): A namespace grows into following free IUs or shrinks by discarding LBAs. -/
  | nsResize (q : MbxReq)
  /-- NS_DELETE (R471): A detached namespace is deleted and its key slot unbound and erased. -/
  | nsDelete (q : MbxReq)
  /-- NS_ATTACH (R416): A namespace is attached to a function and the change event raised. -/
  | nsAttach (q : MbxReq)
  /-- NS_DETACH (R416): A namespace is detached from a function and the change event raised. -/
  | nsDetach (q : MbxReq)
  /-- NS_LIST (R414): Namespace IDs from a first NSID are returned. -/
  | nsList (q : MbxReq)
  /-- NS_INFO (R414): A namespace's properties are returned. -/
  | nsInfo (q : MbxReq)
  /-- KEY_IMPORT (R470): A wrapped key is unwrapped with TK into a slot's CURRENT entry with a new generation. -/
  | keyImport (q : MbxReq)
  /-- REKEY (R473): A new namespace key enters CURRENT, the old moves to SHADOW, and an asynchronous re-encryption sweep begins. -/
  | rekey (q : MbxReq)
  /-- REKEY_SWEEP_STEP (R474): Firmware relocates the next IUs of the namespace under the new generation and saves the cursor. -/
  | rekeySweepStep (slot count : Nat) (moves : List (Nat × Nat × Nat))
  /-- REKEY_DONE (R473): The sweep passes the last IU; SHADOW is erased and the operation reported done. -/
  | rekeyDone (slot : Nat)
  /-- KEY_ERASE (R471): Both entries of an unbound slot are zeroed and its Portolan copies invalidated. -/
  | keyErase (q : MbxReq)
  /-- SLOT_ASSIGN (R417): Unbound key slots are assigned to a function. -/
  | slotAssign (q : MbxReq)
  /-- KEY_STATUS (R414): A slot's kind, owner, generation and bound namespace are returned. -/
  | keyStatus (q : MbxReq)
  /-- UNLOCK_CHALLENGE (R482): A fresh nonce is issued, superseding the requester's previous one. -/
  | unlockChallenge (q : MbxReq)
  /-- UNLOCK_RESPONSE (R484): A proof over a nonce is verified, opening field access or counting a failure toward lockout. -/
  | unlockResponse (q : MbxReq)
  /-- NONCE_LAPSE (R482): A nonce lapses 60,000 frames after issue. -/
  | nonceLapse (value : Nat)
  /-- LOCKOUT_END (R484): An unlock lockout's hour of ticks elapses and the failure count returns to 0. -/
  | lockoutEnd
  /-- GAZ_READ (R418): Gazetteer records are returned, each whole. -/
  | gazRead (q : MbxReq)
  /-- GAZ_CLEAR (R575): The Gazetteer is emptied and a CLEARED record written and persisted. -/
  | gazClear (q : MbxReq)
  /-- GAZ_LAYOUT (R418): The Gazetteer layout changes and the Gazetteer is cleared. -/
  | gazLayout (q : MbxReq)
  /-- DATUM_GET (R414): The Datum time is returned. -/
  | datumGet (q : MbxReq)
  /-- DATUM_SET (R566): Datum is stepped or slewed to a new value. -/
  | datumSet (q : MbxReq)
  /-- DATUM_ALARM (R568): A Datum alarm is armed or cancelled. -/
  | datumAlarm (q : MbxReq)
  /-- ALARM_FIRE (R568): Datum reaches the alarm time; ALARM sets, the alarm disarms and wake follows. -/
  | alarmFire
  /-- SLEW_END (R566): A Datum slew removes the last of its difference and SLEW_DONE sets. -/
  | slewEnd
  /-- VBAT_LOST (R565): VBAT falls below range; Datum restarts UNSET and the lockout restarts. -/
  | vbatLost
  /-- SHEET_STATUS (R414): The sixteen bay registers are returned. -/
  | sheetStatus (q : MbxReq)
  /-- SHEET_OFFER (R419): A HELD bay is offered as capacity. -/
  | sheetOffer (q : MbxReq)
  /-- SHEET_REMOVE (R314): An orderly removal is requested and checked, entering the abort window or refused. -/
  | sheetRemove (q : MbxReq)
  /-- SHEET_ABORT (R316): A removal in its abort window is aborted and the bay returns to OFFERED. -/
  | sheetAbort (q : MbxReq)
  /-- SHEET_IDENTITY (R414): A bay's sheet identity record is returned. -/
  | sheetIdentity (q : MbxReq)
  /-- UPD_BEGIN (R420): The device-wide update session opens for a slot. -/
  | updBegin (q : MbxReq)
  /-- UPD_CHUNK (R420): An image chunk is checked for CRC and order and queued for storing. -/
  | updChunk (q : MbxReq)
  /-- CHUNK_STORED (R589): A chunk's sector is erased and programmed, and it is forwarded downstream if enabled. -/
  | chunkStored (ok : Bool)
  /-- UPD_END (R590): The session ends; the slot is verified locally and the chain awaited asynchronously. -/
  | updEnd (q : MbxReq)
  /-- UPD_END_CHAIN_TIMEOUT (R596): 10 s after END was forwarded, unreported devices count as failed and UPD_END completes. -/
  | updEndChainTimeout
  /-- UPD_SCHEDULE (R598): A group activation is scheduled, recorded in the boot record and forwarded. -/
  | updSchedule (q : MbxReq)
  /-- UPD_CANCEL (R599): A pending schedule is removed and CANCEL forwarded. -/
  | updCancel (q : MbxReq)
  /-- UPD_STATUS (R414): The booted slot, last boot result and slot entries are returned. -/
  | updStatus (q : MbxReq)
  /-- SURVEY_START (R618): A self-test of a named unit is queued or refused. -/
  | surveyStart (q : MbxReq) (conditions sibling : Bool)
  /-- UNIT_RESET (R548): A unit is isolated, reset and re-qualified, lifting its fence on a pass. -/
  | unitReset (q : MbxReq) (sibling : Bool)
  /-- FAULT_GET (R414): A unit's fault status, mask and fence state are returned. -/
  | faultGet (q : MbxReq)
  /-- FAULT_MASK (R537): A unit's fault interrupt mask is set. -/
  | faultMask (q : MbxReq)
  /-- FAULT_PIN (R550): FLT_PIN_CTL is written through the mailbox. -/
  | faultPin (q : MbxReq)
  /-- ENVELOPE_SET (R422): The flash envelope and every sheet power value are written as one change and copied to the always-on domain. -/
  | envelopeSet (q : MbxReq)
  /-- POWER_STATUS (R414): Mode, power state, power, staging budget and holdup measurement are returned. -/
  | powerStatus (q : MbxReq)
  /-- MODE_REQUEST (R491): A change to DORMANT, READY or SERVICE is requested and accepted or refused. -/
  | modeRequest (q : MbxReq)
  /-- HOLDUP_TEST (R502): A capacitor-health test is started asynchronously. -/
  | holdupTest (q : MbxReq)
  /-- THERMAL_GET (R414): Model value, bound and anchor age of every region are returned. -/
  | thermalGet (q : MbxReq)
  /-- INJECT (R553): A check-bit injection on an instance's checker is armed for N transactions. -/
  | inject (q : MbxReq)
  /-- DIAG_CLOSE (R481): Field access is closed. -/
  | diagClose (q : MbxReq)
  /-- TILE_RELEASE (R436): A tile's count decrements and at zero it returns to a free list, moves pools or retires. -/
  | tileRelease (t : Nat)
  /-- ADD_REF (R436): A tile's count increments for another holder. -/
  | addRef (t : Nat)
  /-- RESERVE (R436): n tiles of a pool are reserved if available. -/
  | tileReserve (p n : Nat)
  /-- UNRESERVE (R436): n tile reservations of a pool are returned. -/
  | tileUnreserve (p n : Nat)
  /-- ALLOC_RESERVED (R436): A reserved tile is taken from the head of the free list. -/
  | allocReserved (p : Nat) (a : TileAsk)
  /-- ALLOC_SPOT (R436): An unreserved tile is taken, or EMPTY returned. -/
  | allocSpot (p : Nat) (a : TileAsk)
  /-- TILE_SRAM_UE (R440): An uncorrectable tile error fails the reading job and marks the tile to retire. -/
  | tileSramUe (t : Nat) (injected : Bool)
  /-- APPLY (R433): New tile pool targets are checked and pools move toward them. -/
  | tileApply
  /-- DRAM_REQUEST (R446): A requestor port's request enters a DRAM channel queue. -/
  | dramRequest (ch : Nat) (r : DramReq)
  /-- DRAM_ISSUE_SLOT (R448): A DRAM channel issues its next request by urgency, row hit and age. -/
  | dramIssueSlot (ch : Nat)
  /-- DRAM_REFRESH_DUE (R444): A refresh interval elapses and a refresh becomes due. -/
  | dramRefreshDue (ch rank : Nat) (hot : Bool)
  /-- DRAM_MAINTENANCE_DUE (R444): Periodic ZQ calibration or DQS oscillator retraining falls due. -/
  | dramMaintenanceDue (ch kind : Nat)
  /-- DRAM_UE (R451): An uncorrectable DRAM error is returned, recorded and handled by region. -/
  | dramUe (ch port addr : Nat) (unit : DramUnit) (injected : Bool)
  /-- CIPHER_JOB (R465): A cipher lane encrypts, decrypts, seals or opens a slot, choosing its key and comparing both datapaths. -/
  | cipherJob (job : CipherJob)
  /-- PWR_FAIL_N_FALL (R489): PWR_FAIL_N falls and the device enters HOLDUP within 2 µs. -/
  | pwrFailNFall
  /-- RAIL_TRIP (R495): A rail stays below its threshold, entering HOLDUP, stopping the device or entering VAULT by mode. -/
  | railTrip (rail : Nat)
  /-- DUMP_END (R498): The dump ends; the dump record is written, WP_N driven low and the device stops. -/
  | dumpEnd (complete : Bool)
  /-- POWER_RESTART (R663): After a stop for power failure, PWR_FAIL_N and every rail hold good 10 ms and the device resets. -/
  | powerRestart
  /-- VDD_AON_LOST (R489): VDD_AON is lost while VBAT holds and the device enters VAULT. -/
  | vddAonLost
  /-- DORMANT_ENTRY (R490): The device drains programs, closes stripes, spills the journal, powers down dies and DRAM and turns VDD_CORE off. -/
  | dormantEntry
  /-- WAKE_N_ASSERTED (R489): WAKE_N is held low 1 ms by the board and wakes the device. -/
  | wakeNAsserted
  /-- AVS_REQUEST (R496): The device sends a VDD_CORE setpoint step to the regulator, at most once per ms. -/
  | avsRequest (target : Nat)
  /-- CAPACITOR_TEST (R502): The capacitor-health test falls due, waits for a steady bank and staging at B_test, then raises HOLD_TEST_EN. -/
  | capacitorTest (v1 vs : Nat)
  /-- BANK_REACHES_V2 (R519): The bank sense comparator sees V2; HOLD_TEST_EN falls and capacitance, ESR and energy are computed. -/
  | bankReachesV2
  /-- CAPACITOR_TEST_TIMEOUT (R502): V2 is not reached within 2 s and the test fails with budget 0. -/
  | capacitorTestTimeout
  /-- BANK_RECHARGED (R502): The bank recharges to 0.98 × V1 and the new staging budget applies. -/
  | bankRecharged
  /-- ADC_SAMPLE_END (R517): A housekeeping ADC conversion ends and its result is corrected and used, then the next sample starts. -/
  | adcSampleEnd (input : Nat) (value : Int)
  /-- ON_DEMAND_SAMPLE_REQUEST (R518): An on-demand sample is requested and queued to run between round samples. -/
  | onDemandSampleRequest (input : Nat)
  /-- ROUND_END (R511): A housekeeping round ends; calibration scales update and round statistics are reported. -/
  | roundEnd
  /-- CANDIDATE_UNQUIETABLE (R516): A named quiet-slot candidate is not granted within 1 s and is marked UNQUIETABLE. -/
  | candidateUnquietable
  /-- CRIT_TRIP_CLEAR (R525): T_EFF stays below T_CRIT − 10 °C for 1,000 frames and the trip clears. -/
  | critTripClear
  /-- CRIT_TRIP_TIMEOUT (R526): A critical trip lasts 60 s and becomes a DEVICE-class fault. -/
  | critTripTimeout
  /-- FAULT_DETECTED (R531): An instance detects a fault, classifies it and applies its reaction, fence or HOLDUP. -/
  | faultDetected (r : FaultReport)
  /-- PULSE_END (R551): The FAULT_N pulse ends and the pin follows LEVEL. -/
  | pulseEnd
  /-- FENCE_IND_RELEASE (R546): A re-qualified unit's fence indication is released once its link is idle. -/
  | fenceIndRelease (block inst : Nat)
  /-- FENCE (R542): Writing FENCE in FLT_CTL fences a unit as SOFTWARE_FENCE. -/
  | fence (block inst : Nat)
  /-- CNT_CLEAR (R556): Writing CNT_CLEAR zeroes a unit's fault counts. -/
  | cntClear (block inst : Nat)
  /-- REARM (R551): Writing REARM sets ARMED for the next fault pulse. -/
  | rearm
  /-- LEVEL_WRITE (R550): Writing LEVEL drives or releases FAULT_N outside pulses. -/
  | levelWrite (level : Bool)
  /-- GO (R553): Writing GO starts the injection named by FLT_INJ_SEL, or refuses it. -/
  | go (path : Path)
  /-- COMMIT (R586): Writing COMMIT checks and stores the staged board configuration record. -/
  | commit (path : Path)
  /-- ATL_STEER_WRITE (R152): A steering register write is applied to later requests or refused for fenced engines. -/
  | atlSteerWrite (j : Nat) (value : BitVec 32)
  /-- PLT_RESERVE_WRITE (R108): A reserve write is ignored with CFG_ERR when HK + TH + RECON exceeds 0.5. -/
  | pltReserveWrite (value : BitVec 32)
  /-- PLT_LAGS_WRITE (R109): A lag write recomputes the floors. -/
  | pltLagsWrite (value : BitVec 32)
  /-- SVY_FREE_WM_WRITE (R168): A watermark level write that breaks STOP < URGENT < LOW is ignored with CFG_ERR. -/
  | svyFreeWmWrite (wm : Nat) (value : BitVec 32)
  /-- FCH_CFG_WRITE (R254): A channel configuration write is ignored with CFG_ERR for a reserved rate cap. -/
  | fchCfgWrite (ch : Nat) (value : BitVec 32)
  /-- TRV_POLL_WRITE (R283): A poll interval write applies to later plans or is ignored with CFG_ERR in every channel. -/
  | trvPollWrite (value : BitVec 32)
  /-- SHB_IND_WRITE (R306): The host takes over the attention indicator while the bay is EMPTY or OFFERED. -/
  | shbIndWrite (bay : Nat) (value : BitVec 32)
  /-- MBX_VECTOR_WRITE (R344): The mailbox vector is set, or ignored with CFG_ERR beyond the table size. -/
  | mbxVectorWrite (fn : Nat) (value : BitVec 32)
  /-- REGISTER_WRITE (R6): A write to a register without a row of its own acts by access code, with out-of-range values ignored and CFG_ERR set. -/
  | registerWrite (via : RegVia) (bytes : Nat) (value : BitVec 32)
  /-- RC_FIELD_READ (R661): A read of an RC field returns it and resets it for every path. -/
  | rcFieldRead (via : RegVia)
  /-- DAT_TIME_LO_READ (R567): A read of DAT_TIME_LO latches DAT_TIME_HI from the same cycle. -/
  | datTimeLoRead (path : Path)
  /-- SET_ENDPOINT_ID (R560): An MCTP endpoint ID is set, ending that endpoint's sessions. -/
  | setEndpointId (ep eid : Nat)
  /-- GET_ENDPOINT_ID (R560): The MCTP endpoint ID is returned. -/
  | getEndpointId (ep : Nat)
  /-- GET_ENDPOINT_UUID (R560): The MCTP endpoint UUID is returned. -/
  | getEndpointUuid (ep : Nat)
  /-- GET_MCTP_VERSION_SUPPORT (R560): Supported MCTP versions are returned. -/
  | getMctpVersionSupport (ep type : Nat)
  /-- GET_MESSAGE_TYPE_SUPPORT (R560): Message types 0h, 5h and 7Eh are reported. -/
  | getMessageTypeSupport (ep : Nat)
  /-- NVME_MI_BASIC_MANAGEMENT (R561): The SMBus basic management read returns status, warnings, temperature and usage. -/
  | nvmeMiBasicManagement
  /-- GET_VERSION (R562): The SPDM version is negotiated. -/
  | getVersion (ep : Nat)
  /-- GET_CAPABILITIES (R562): SPDM capabilities are returned. -/
  | getCapabilities (ep : Nat)
  /-- NEGOTIATE_ALGORITHMS (R562): SPDM algorithms are negotiated. -/
  | negotiateAlgorithms (ep : Nat)
  /-- GET_DIGESTS (R562): Certificate chain digests are returned. -/
  | getDigests (ep : Nat)
  /-- GET_CERTIFICATE (R562): The slot 0 certificate chain is returned. -/
  | getCertificate (ep slot offset length : Nat)
  /-- CHALLENGE (R562): The device signs a challenge with its identity key. -/
  | challenge (ep slot nonce : Nat)
  /-- GET_MEASUREMENTS (R562): Signed measurements 1 to 5 are returned. -/
  | getMeasurements (ep index nonce : Nat) (signed : Bool)
  /-- KEY_EXCHANGE (R562): A secured session key exchange begins, within the four-session limit. -/
  | keyExchange (ep reqSession : Nat)
  /-- FINISH (R562): A secured session is established. -/
  | finish (session : Nat) (ok mutAuth : Bool)
  /-- HEARTBEAT (R562): A session heartbeat restarts its 120 s timer. -/
  | heartbeat (session : Nat)
  /-- KEY_UPDATE (R562): Session keys are updated. -/
  | keyUpdate (session : Nat)
  /-- END_SESSION (R562): A secured session ends. -/
  | endSession (session : Nat)
  /-- SESSION_HEARTBEAT_TIMEOUT (R562): A secured session sees no heartbeat for 120 s and ends. -/
  | sessionHeartbeatTimeout (session : Nat)
  /-- GET_TRANSPORT_KEY (R563): Inside a mutually authenticated owner session TK is returned. -/
  | getTransportKey (session : Nat)
  /-- PROVISION_OWNER (R563): The owner public key and optional password verifier are written to the Cartouche row once. -/
  | provisionOwner (session : Nat) (key password : List Nat)
  /-- ALERT_RESPONSE_ADDRESS_READ (R564): A read of the Alert Response Address returns the device address and releases ALERT_N. -/
  | alertResponseAddressRead
  /-- GAZETTEER_RECORD (R572): A record is merged into the most recent one or written at the next position with the next SEQ. -/
  | gazetteerRecord (block inst sev code data : Nat)
  /-- GAZ_PERSIST (R574): Changed Gazetteer sectors are written to the Portolan area within 1 s. -/
  | gazPersist
  /-- ERASE_SECTOR (R581): The ROM service routine erases one store sector, suspendable for reads. -/
  | eraseSector (caller addr : Nat)
  /-- PROGRAM_ROW (R581): The ROM service routine programs and verifies one 256-byte row. -/
  | programRow (caller addr : Nat) (data : List Nat)
  /-- PROGRAM_OTP (R581): The ROM service routine programs bytes of the Cartouche row, refusing 1-to-0 changes. -/
  | programOtp (addr : Nat) (data : List Nat)
  /-- STORE_READ (R582): A store read suspends a running erase and is served within 50 µs. -/
  | storeRead (addr : Nat)
  /-- ERASE_RESUME (R582): No read has waited for 10 µs and a suspended erase resumes. -/
  | eraseResume
  /-- LINK_UP (R593): A relay LINK_UP frame arrives and the link runs at the lower version, resetting SEQ. -/
  | linkUp (down : Bool) (version position roundTrip credit : Nat)
  /-- LINK_UP_RESEND (R593): Every 100 ms until one is received, an end sends LINK_UP. -/
  | linkUpResend (down : Bool)
  /-- HOP_REMEASURE (R593): Every 60 s the round trip of the LINK_UP exchange is measured again for HOP_NS. -/
  | hopRemeasure (roundTrip : Nat)
  /-- ACK (R594): A relay ACK value is validated and retires acknowledged frames. -/
  | relayAck (down : Bool) (value credit : Nat)
  /-- RELAY_REPLAY_TIMEOUT (R594): 2 ms pass without a valid ACK and all outstanding frames are sent again. -/
  | relayReplayTimeout (down : Bool)
  /-- RELAY_LINK_DOWN (R593): Loss of signal or 16 replays without progress takes a relay link down and fails sessions beyond it. -/
  | relayLinkDown (down : Bool)
  /-- BEACON (R597): A received BEACON sets Datum when FOLLOW is set and is forwarded downstream. -/
  | beacon (count : Nat)
  /-- BEACON_SEND (R597): The head sends a BEACON every 1 s while its Datum is set. -/
  | beaconSend
  /-- BEGIN (R595): A relay BEGIN opens a remote update session or is answered BUSY. -/
  | relayBegin (seq slot len imageId : Nat)
  /-- CHUNK (R595): A relay CHUNK is stored and then forwarded. -/
  | relayChunk (seq index crc : Nat) (data : List Nat)
  /-- END (R595): A relay END makes the device check its slot and report KIND 0. -/
  | relayEnd (seq : Nat)
  /-- SCHEDULE (R598): A relay SCHEDULE is checked, stored and reported as KIND 2. -/
  | relaySchedule (seq t group drainMs slot imageId : Nat)
  /-- CANCEL (R599): A relay CANCEL removes the schedule with its group and is forwarded. -/
  | relayCancel (seq group : Nat)
  /-- REPORT (R595): A REPORT is recorded in the chain table and forwarded upstream unchanged. -/
  | relayReport (seq position kind result imageId slot fw : Nat)
  /-- ACTIVATION_DRAIN (R600): The activation countdown reaches zero and the drain stops fetching, completes commands and writes the boot record. -/
  | activationDrain
  /-- ACTIVATION_RESTART (R663): At the later of T and the end of the drain the device puts DRAM in self-refresh and restarts. -/
  | activationRestart
  /-- TRIAL_RESET (R601): A trial image is not confirmed within 60 s and the device resets to boot PREVIOUS. -/
  | trialReset
  /-- REFERENCE_WINDOW_END (R610): A 1,024-cycle Datum window ends and the reference count is checked against 781,250. -/
  | referenceWindowEnd (count : Nat)
  /-- IN_SERVICE_TEST_DUE (R619): PERIOD_H or 24 h pass since an instance's last passed test and a FULL test is queued or forced. -/
  | inServiceTestDue (block inst : Nat)
  /-- TEST_END (R613): A Survey test ends; end conditions are rechecked and the signature judged, repairs burnt and failures fenced. -/
  | testEnd (block inst : Nat) (r : TestResult)
  /-- POWER_ON (R663): VDD_AON rises after loss and a power-on device reset begins. -/
  | powerOn
  /-- SYSTEM_RESET (R663): SYS_RST_N is asserted and a system device reset begins. -/
  | systemReset
  /-- START_UP (R666): After device reset the device runs the start-up steps from Cartouche check to map restore. -/
  | startUp (env : StartEnv)
  /-- ADMISSION_OPEN (R667): At the first frame boundary with the map ready, test done, staged IUs programmed and envelope programmed, admission opens. -/
  | admissionOpen
  /-- FLOW_CONTROL_CREDIT (R30): A PCIe flow-control credit update arrives and a posted write of a command held for lack of credit is sent, ending that part of its host wait. -/
  | flowControlCredit (fn sq cid held : Nat)
  /-- ATS_TRANSLATION_COMPLETION (R346): The completion of an ATS translation request arrives, and a refusal or no-access result ends the command with Data Transfer Error. -/
  | atsTranslationCompletion (fn sq cid page : Nat) (ok : Bool)
  /-- DRAM_READ_RETURN (R446): Read data returns from a DRAM channel, ending the request's latency, checked by the symbol code and counted when corrected. -/
  | dramReadReturn (ch id : Nat) (corrected : Bool)
  /-- SEGMENT_RECEIVED (R118): A requesting Atlas engine receives a segment sent by a snooped holder or eviction buffer, installs it with its DIRTY mark and serves its lookup. -/
  | segmentReceived (engine seg : Nat) (dirty : Bool)
  /-- ADMIN_INVALID_OPCODE (R365): An admin command whose opcode is not supported arrives and ends with Invalid Opcode. -/
  | adminInvalidOpcode (a : AdminHdr) (opcode : Nat)
  /-- IO_INVALID_OPCODE (R366): An I/O command whose opcode is not supported arrives, ends with Invalid Opcode and is not accepted. -/
  | ioInvalidOpcode (e : IoEntry) (opcode : Nat)
  /-- MAILBOX_INVALID_OPCODE (R414): A mailbox request with an opcode not in the catalogue is executed and refused with INVALID_OPCODE. -/
  | mailboxInvalidOpcode (q : MbxReq) (opcode : Nat)
  /-- MCTP_UNSUPPORTED_MESSAGE (R560): An MCTP control command not supported, or a message of type 4h or another unlisted type, arrives and receives ERROR_UNSUPPORTED_CMD or is discarded and counted in ERRORS. -/
  | mctpUnsupportedMessage (ep type command : Nat)
  /-- RELAY_FRAME_CRC_ERROR (R592): A relay frame whose CRC fails arrives and is discarded and counted. -/
  | relayFrameCrcError (down : Bool)
  /-- ERASE_MIN_RUN_EXPIRY (R582): A resumed Portolan erase completes its 2 ms minimum run while a store read waits, and the erase is suspended so the read is served. -/
  | eraseMinRunExpiry
  /-- STORE_OPERATION_END (R581): A ROM service routine erase or program ends; programmed rows are verified by read-back, retried once, or the operation fails with VERIFY_FAIL. -/
  | storeOperationEnd (verified : Bool)
  /-- JTAG_ACCESS (R481): A JTAG instruction arrives on the test port and is answered only as IDCODE or BYPASS while field access is closed. -/
  | jtagAccess (ir : JtagIr)
  /-- DIRECT_WINDOW_WRITE (R338): A host or peer memory write to BAR4 is applied to the backed bytes it addresses, and ignored beyond the backed size. -/
  | directWindowWrite (fn offset : Nat) (data : List Nat)
  /-- INBOUND_MAILBOX_WRITE (R398): The host writes header and payload bytes into the 4 KiB inbound mailbox of a function. -/
  | inboundMailboxWrite (fn offset : Nat) (data : List Nat)
  deriving DecidableEq, Repr

end Sys2Proof
end

