-- ==== Sys2Proof/Decode.lean ====
section
/-! DEFINITION. The decoder of the table's bits. No row of the opcode table has bits: the block's commands are events and
operations with operands of their own, so no word spells one. -/

set_option linter.unusedVariables false

namespace Sys2Proof

/-- The command that a word spells by the table's bits: the table gives no row any, so none. -/
def decodeTableWord (nbits w : Nat) : Option Instr := none

end Sys2Proof
end

