-- ==== Sys2Proof/Config.lean ====
section
/-! DEFINITION. What the spec leaves open, as constants with no body, and the functions that other standards define
(cryptography), which the model leaves uninterpreted. -/

namespace Sys2Proof

/-- A value the spec leaves open, by the count of values drawn before it (log entry 5). -/
opaque Config.free : Nat → Nat
/-- ROM_VER of a microcoded kind (R269: the value is not stated; log entry 7). -/
opaque Config.romVer : Nat → BitVec 8
/-- The words of a kind's control store in ROM, by kind and address (R266: mask ROM, whose contents are Keacia's). -/
opaque Config.romWord : Nat → Nat → BitVec 128
/-- The command bytes that begin array activity (R274: which they are is not stated). -/
opaque Config.confirms : Nat → Bool
/-- The CODE of Gazetteer records that the spec asks for and Table 19-5 does not list (log entry 25): 1 an invalid profile record,
2 records passed over, 3 a die without a profile, 4 a poll timeout, 5 an absent structure, 6 an image that failed verification,
7 patches skipped, 8 a retraining that ran late, 9 another. -/
opaque Config.recordCode : Nat → Nat
/-- AES key wrap (RFC 3394, with TK): the identity of the key a wrapping unwraps to, or nothing where it does not verify or the two
halves of an XTS key are equal (R470). -/
opaque Config.unwrap : List Nat → Option Nat
/-- Verification of an unlock proof (R483): method, nonce, proof, and the owner password verifier held. -/
opaque Config.proofOk : Nat → Nat → List Nat → List Nat → Bool
/-- The verifier the device stores for an owner password, with a salt drawn (R483, R563). -/
opaque Config.pwVerifier : List Nat → Nat → List Nat
/-- A random value of the CTR_DRBG, by the count of values drawn (R467, R482). -/
opaque Config.drbg : Nat → Nat
/-- The transport key TK of the device (R467, R563). -/
opaque Config.transportKey : List Nat
/-- The bytes of an SPDM answer of a kind over the state it reports (R562; DMTF formats). -/
opaque Config.spdmAnswer : Nat → List Nat → List Nat
/-- The endpoint's UUID (R560). -/
opaque Config.uuid : List Nat
/-- The MCTP versions reported for a message type (R560: not stated). -/
opaque Config.mctpVersions : Nat → List Nat
/-- Contour's node model (R509, whose constants R510 puts into Portolan): a node's temperature one frame later, in 1/16 °C, from
its number, all nodes, T_SINK in 1/128 °C, the calibration scales, the last voltages and the activity of the frame. -/
opaque Config.nodeStep : Nat → List Int → Int → List Nat → List Int → List Nat → Int
/-- R_LOCAL × P_c of a channel over a frame, in 1/16 °C, from its number, the scales and the activity (Table 17-1). -/
opaque Config.chanRise : Nat → List Nat → List Nat → Int
/-- A region's modelled power over a frame lies below 5% of its peak (R512), from its number, the scales and the activity. -/
opaque Config.calm : Nat → List Nat → List Nat → Bool
/-- The calibration ratio g_d × 1,024 of a sense domain over a round (R511), from its number and the round's samples. -/
opaque Config.calRatio : Nat → List Int → Nat
/-- The capacitance in µF that a discharge of `t` ticks from `v1` to `v2` mV through `r` tenths of an ohm measures
(R502: it holds a natural logarithm whose rounding is not stated; log entry 8). -/
opaque Config.capacitance : Nat → Nat → Nat → Nat → Nat
/-- The bytes of the Cartouche row that manufacture programmed (Table 20-4), by offset. -/
opaque Config.cartouche : Nat → BitVec 8
/-- The DIGEST of an image matches its body (R590, R603: SHA-384), by the image's bytes. -/
opaque Config.digestOk : List Nat → Bool
/-- The version of the Chartroom ROM, against which an image is held (R603; not stated). -/
opaque Config.chrRomVer : Nat
/-- The version of the layout of the configuration area (R603; not stated). -/
opaque Config.configLayout : Nat
/-- TAG of a structure of Table 20-2 (R584: 4 ASCII bytes that are not stated), by its offset. -/
opaque Config.structTag : Nat → Nat
/-- The entry of a retry ladder of 16 steps that lies past the sixteen entries of RETRY_SETS (Table 07-4 lets RETRY_LEN be 16, R287 gives entries
0 to 15; log entry 56), by profile record. -/
opaque Config.retryEntry : Nat → List Nat
/-- AES-256 in counter mode as GCM uses it (NIST SP 800-38D): key identity, 96-bit nonce, bytes; its own inverse (R456). -/
opaque Config.gcmCrypt : Nat → Nat → List Nat → List Nat
/-- The 16-byte tag of AES-256-GCM: key identity, nonce, additional authenticated data, ciphertext (R458). -/
opaque Config.gcmTag : Nat → Nat → List Nat → List Nat → Nat
/-- XTS-AES-256 (IEEE 1619): encrypting or not, key identity, tweak, bytes (R457). -/
opaque Config.xts : Bool → Nat → Nat → List Nat → List Nat
/-- The identity of MK and of SK_STG(e) (Table 15-3, R467: derived from the root secret, which is not visible). -/
opaque Config.metaKey : Nat
opaque Config.stagingKey : Nat → Nat
/-- The DRAM address of a segment within its channel (R116: where a channel's map region holds it is not stated), by its key, its channel and
the times a region fence has moved it (R452). -/
opaque Config.segAddr : Nat → Nat → Nat → Nat
/-- The base of the staging region, in 4 KiB units of the rotation over the channels (R445: firmware sets it; no value is stated). -/
opaque Config.stagingBase : Nat
/-- Content of a sector or row whose erase or program was cut short (R584), by address and count. -/
opaque Config.cutByte : Nat → Nat → BitVec 8

end Sys2Proof
end

