-- ==== Sys2Proof/Machine/Regs.lean ====
section
/-! DEFINITION. The register map of the Device Control Space and of the function window (23 R654 to R662, Tables 23-4 to 23-6):
every register's address, and every field's bits, access code, reset value and legal range, from the field tables of
the chapters (the table is named beside each register).  -/

set_option linter.unusedVariables false

namespace Sys2Proof.Machine

/-- Access codes of Table 00-5 (R6); `rwl` is a field under a LOCK (R7). -/
inductive Access where
  | ro | rw | rw1c | w1s | wo | rc | rwl
  deriving DecidableEq, Repr

/-- Every named register of Tables 23-4 to 23-6 and of the function window (Tables 11-10 to 11-18, 02-8 to 02-10, 13-15 to 13-18). -/
inductive Reg where
  | PLT_STATUS
  | PLT_FRAME
  | PLT_EVENTS
  | PLT_RESERVE
  | PLT_LAGS
  | PLT_ENVELOPE
  | PLT_FLOOR_RD
  | PLT_FLOOR_WR
  | PLT_STALE
  | PLT_RECON
  | PLT_SHEET_PWR
  | PLT_FN
  | PLT_DIE
  | ATL_STATUS
  | ATL_EVENTS
  | ATL_CTRL
  | ATL_JRNL_WM
  | ATL_JSEQ_LO
  | ATL_CAS_FAIL
  | ATL_UCODE_VER
  | ATL_STEER
  | ATL_POOL
  | ATL_ENG
  | SVY_MEDIA_STATUS
  | SVY_MEDIA_EVENTS
  | SVY_GC_CFG
  | SVY_WA
  | SVY_UPKEEP_CFG
  | SVY_SCAN_CFG
  | SVY_REFRESH_Q
  | SVY_POISON_TBL
  | SVY_FREE_WM
  | SVY_GROUP
  | TIL_CTRL
  | TIL_STATUS
  | TIL_EVENTS
  | TIL_ROUTE
  | TIL_ECC
  | TIL_POOL_TGT
  | TIL_POOL_STATUS
  | TIL_POOL_RES
  | TIL_POOL_WM
  | DRC_CFG
  | DRC_PORT_CFG
  | DRC_PORT_STATUS
  | DRC_CH_STATUS
  | DRC_CH_EVENTS
  | DRC_CH_ECC
  | DRC_UE_ADDR
  | CIP_STATUS
  | CIP_EVENTS
  | CIP_CNT_AUTH
  | CIP_UCODE_VER
  | CIP_LANE
  | LEG_STATUS
  | LEG_EVENTS
  | LEG_SLOT_SEL
  | LEG_SLOT_INFO
  | LEG_SLOT_NS
  | LEG_LOCKOUT
  | PAR_STATUS
  | PAR_EVENTS
  | PAR_CTRL
  | PAR_FRONTIER
  | PAR_SHEETS
  | PAR_JRNL_WM
  | PAR_LOST
  | PAR_SLOTS
  | PAR_UCODE_VER
  | PAR_GROUP
  | PAR_ENG
  | WPT_UCODE_VER
  | FCH_RETRAIN_CFG
  | FCH_SSC
  | FCH_DIE_SEL
  | FCH_DIE_INFO
  | FCH_MOV_UCODE_VER
  | FCH_CFG
  | FCH_STATUS
  | FCH_EVENTS
  | FCH_TRAIN
  | FCH_PROFILE
  | TRV_CTX_SEL
  | TRV_CTX_INFO
  | TRV_CTX_OP
  | TRV_CTX_CNT_A
  | TRV_CTX_CNT_B
  | TRV_UCODE_VER
  | TRV_POLL
  | TRV_PATCH_MAP
  | TRV_ENG
  | LDP_CFG
  | LDP_STATUS
  | LDP_EVENTS
  | LDP_CNT_HARD_FAIL
  | LDP_CNT_SOFT_OK
  | LDP_CNT_LADDER_OK
  | LDP_CNT_UNCORR
  | LDP_LANE
  | SHB_CFG
  | SHB_ID_SEL
  | SHB_ID_DATA
  | SHB_BAY
  | SHB_IND
  | SHB_EVENTS
  | PWR_MODE
  | PWR_EVENTS
  | PWR_HOLD_CFG
  | PWR_HOLD_BANK
  | PWR_HOLD_LIMITS
  | PWR_HOLD_STATUS
  | PWR_HOLD_E
  | PWR_HOLD_ESR
  | PWR_STAGING
  | PWR_STAGING_USE
  | PWR_AVS
  | CTR_STATUS
  | CTR_EVENTS
  | CTR_CFG
  | CTR_ROUND
  | CTR_ROUND_CNT
  | CTR_TEMP_WM
  | CTR_CAL
  | CTR_REGION
  | CHR_DCS_LAYOUT
  | CHR_MGMT_CFG
  | CHR_MGMT_STATUS
  | CHR_MGMT_ERR
  | CHR_ALERT_STATUS
  | CHR_ALERT_MASK
  | CHR_PAD_CFG
  | FLT_PIN_CTL
  | FLT_INJ_SEL
  | FLT_INJ_CTL
  | FLT_INJ_STATUS
  | CHR_LINK_STAT
  | GAZ_STATUS
  | GAZ_SEQ
  | GAZ_COUNTS
  | DAT_TIME_LO
  | DAT_TIME_HI
  | DAT_ALARM_LO
  | DAT_ALARM_HI
  | DAT_ADJ
  | DAT_EVENTS
  | SRV_STATUS
  | SRV_EVENTS
  | SRV_CFG
  | SRV_LAST_UNIT
  | SRV_LAST_SIG_LO
  | SRV_LAST_SIG_HI
  | SRV_FUSES
  | POR_STATUS
  | POR_WEAR
  | POR_EVENTS
  | POR_CFG_SEL
  | POR_CFG_DATA
  | POR_CFG_CTL
  | UPD_BOOT
  | UPD_SESSION
  | UPD_SCHED
  | UPD_SCHED_GROUP
  | UPD_SCHED_LEFT
  | UPD_RELAY_CFG
  | UPD_RELAY_STATUS
  | UPD_RELAY_CNT
  | UPD_EVENTS
  | UPD_CHAIN_SEL
  | UPD_CHAIN_INFO
  | UPD_CHAIN_VER
  | HST_SENTINEL
  | HST_FN_INFO
  | HST_FN_CTRL
  | HST_FN_STATUS
  | HST_FN_EVENTS
  | HST_LINK
  | HST_GAZ_PAGE
  | HST_DCS_WIN
  | HST_CLASS_MASK_LO
  | HST_CLASS_MASK_HI
  | HST_CLASS_DEFAULT
  | HST_QCLASS
  | HST_PROMISE_STATUS
  | HST_PROMISE_EVENTS
  | HST_DEADLINE_MISS
  | MBX_DOORBELL
  | MBX_STATUS
  | MBX_EVENTS
  | MBX_SESSION
  deriving DecidableEq, Repr

/-- First address of a register. DCS registers lie at their DCS offset (R656, R657). The registers of the function
window are not part of the DCS; the model numbers them above the 16 MiB of the DCS (DESIGN CHOICE, log entry 3). -/
def Reg.base : Reg → Nat
  | .PLT_STATUS => 0x00000000
  | .PLT_FRAME => 0x00000004
  | .PLT_EVENTS => 0x00000008
  | .PLT_RESERVE => 0x0000000C
  | .PLT_LAGS => 0x00000010
  | .PLT_ENVELOPE => 0x00000014
  | .PLT_FLOOR_RD => 0x00000018
  | .PLT_FLOOR_WR => 0x0000001C
  | .PLT_STALE => 0x00000020
  | .PLT_RECON => 0x00000200
  | .PLT_SHEET_PWR => 0x00000400
  | .PLT_FN => 0x00000800
  | .PLT_DIE => 0x00002000
  | .ATL_STATUS => 0x00010000
  | .ATL_EVENTS => 0x00010004
  | .ATL_CTRL => 0x00010008
  | .ATL_JRNL_WM => 0x0001000C
  | .ATL_JSEQ_LO => 0x00010010
  | .ATL_CAS_FAIL => 0x00010014
  | .ATL_UCODE_VER => 0x00010018
  | .ATL_STEER => 0x00010100
  | .ATL_POOL => 0x00010200
  | .ATL_ENG => 0x00010300
  | .SVY_MEDIA_STATUS => 0x00020000
  | .SVY_MEDIA_EVENTS => 0x00020004
  | .SVY_GC_CFG => 0x00020008
  | .SVY_WA => 0x0002000C
  | .SVY_UPKEEP_CFG => 0x00020010
  | .SVY_SCAN_CFG => 0x00020014
  | .SVY_REFRESH_Q => 0x00020018
  | .SVY_POISON_TBL => 0x0002001C
  | .SVY_FREE_WM => 0x00020100
  | .SVY_GROUP => 0x00020200
  | .TIL_CTRL => 0x00030000
  | .TIL_STATUS => 0x00030004
  | .TIL_EVENTS => 0x00030008
  | .TIL_ROUTE => 0x0003000C
  | .TIL_ECC => 0x00030010
  | .TIL_POOL_TGT => 0x00030100
  | .TIL_POOL_STATUS => 0x00030120
  | .TIL_POOL_RES => 0x00030140
  | .TIL_POOL_WM => 0x00030160
  | .DRC_CFG => 0x00040000
  | .DRC_PORT_CFG => 0x00040100
  | .DRC_PORT_STATUS => 0x00040140
  | .DRC_CH_STATUS => 0x00040200
  | .DRC_CH_EVENTS => 0x00040240
  | .DRC_CH_ECC => 0x00040280
  | .DRC_UE_ADDR => 0x000402C0
  | .CIP_STATUS => 0x00050000
  | .CIP_EVENTS => 0x00050004
  | .CIP_CNT_AUTH => 0x00050008
  | .CIP_UCODE_VER => 0x0005000C
  | .CIP_LANE => 0x00050100
  | .LEG_STATUS => 0x00060000
  | .LEG_EVENTS => 0x00060004
  | .LEG_SLOT_SEL => 0x00060008
  | .LEG_SLOT_INFO => 0x0006000C
  | .LEG_SLOT_NS => 0x00060010
  | .LEG_LOCKOUT => 0x00060014
  | .PAR_STATUS => 0x00070000
  | .PAR_EVENTS => 0x00070004
  | .PAR_CTRL => 0x00070008
  | .PAR_FRONTIER => 0x0007000C
  | .PAR_SHEETS => 0x00070010
  | .PAR_JRNL_WM => 0x00070014
  | .PAR_LOST => 0x00070018
  | .PAR_SLOTS => 0x0007001C
  | .PAR_UCODE_VER => 0x00070020
  | .PAR_GROUP => 0x00070200
  | .PAR_ENG => 0x00070400
  | .WPT_UCODE_VER => 0x00120000
  | .FCH_RETRAIN_CFG => 0x00080000
  | .FCH_SSC => 0x00080004
  | .FCH_DIE_SEL => 0x00080008
  | .FCH_DIE_INFO => 0x0008000C
  | .FCH_MOV_UCODE_VER => 0x00080010
  | .FCH_CFG => 0x00080200
  | .FCH_STATUS => 0x00080400
  | .FCH_EVENTS => 0x00080600
  | .FCH_TRAIN => 0x00080800
  | .FCH_PROFILE => 0x00080A00
  | .TRV_CTX_SEL => 0x00090000
  | .TRV_CTX_INFO => 0x00090004
  | .TRV_CTX_OP => 0x00090008
  | .TRV_CTX_CNT_A => 0x0009000C
  | .TRV_CTX_CNT_B => 0x00090010
  | .TRV_UCODE_VER => 0x00090014
  | .TRV_POLL => 0x00090018
  | .TRV_PATCH_MAP => 0x00090100
  | .TRV_ENG => 0x00091000
  | .LDP_CFG => 0x000A0000
  | .LDP_STATUS => 0x000A0010
  | .LDP_EVENTS => 0x000A0020
  | .LDP_CNT_HARD_FAIL => 0x000A0030
  | .LDP_CNT_SOFT_OK => 0x000A0040
  | .LDP_CNT_LADDER_OK => 0x000A0050
  | .LDP_CNT_UNCORR => 0x000A0060
  | .LDP_LANE => 0x000A0400
  | .SHB_CFG => 0x000B0000
  | .SHB_ID_SEL => 0x000B0004
  | .SHB_ID_DATA => 0x000B0008
  | .SHB_BAY => 0x000B0100
  | .SHB_IND => 0x000B0140
  | .SHB_EVENTS => 0x000B0180
  | .PWR_MODE => 0x000C0000
  | .PWR_EVENTS => 0x000C0004
  | .PWR_HOLD_CFG => 0x000C0008
  | .PWR_HOLD_BANK => 0x000C000C
  | .PWR_HOLD_LIMITS => 0x000C0010
  | .PWR_HOLD_STATUS => 0x000C0014
  | .PWR_HOLD_E => 0x000C0018
  | .PWR_HOLD_ESR => 0x000C001C
  | .PWR_STAGING => 0x000C0020
  | .PWR_STAGING_USE => 0x000C0024
  | .PWR_AVS => 0x000C0028
  | .CTR_STATUS => 0x000D0000
  | .CTR_EVENTS => 0x000D0004
  | .CTR_CFG => 0x000D0008
  | .CTR_ROUND => 0x000D000C
  | .CTR_ROUND_CNT => 0x000D0010
  | .CTR_TEMP_WM => 0x000D0020
  | .CTR_CAL => 0x000D0100
  | .CTR_REGION => 0x000D0400
  | .CHR_DCS_LAYOUT => 0x000E0000
  | .CHR_MGMT_CFG => 0x000E0004
  | .CHR_MGMT_STATUS => 0x000E0008
  | .CHR_MGMT_ERR => 0x000E000C
  | .CHR_ALERT_STATUS => 0x000E0010
  | .CHR_ALERT_MASK => 0x000E0014
  | .CHR_PAD_CFG => 0x000E0018
  | .FLT_PIN_CTL => 0x000E0100
  | .FLT_INJ_SEL => 0x000E0104
  | .FLT_INJ_CTL => 0x000E0108
  | .FLT_INJ_STATUS => 0x000E010C
  | .CHR_LINK_STAT => 0x000E0200
  | .GAZ_STATUS => 0x000F0000
  | .GAZ_SEQ => 0x000F0004
  | .GAZ_COUNTS => 0x000F0008
  | .DAT_TIME_LO => 0x000F0100
  | .DAT_TIME_HI => 0x000F0104
  | .DAT_ALARM_LO => 0x000F0108
  | .DAT_ALARM_HI => 0x000F010C
  | .DAT_ADJ => 0x000F0110
  | .DAT_EVENTS => 0x000F0114
  | .SRV_STATUS => 0x00100000
  | .SRV_EVENTS => 0x00100004
  | .SRV_CFG => 0x00100008
  | .SRV_LAST_UNIT => 0x0010000C
  | .SRV_LAST_SIG_LO => 0x00100010
  | .SRV_LAST_SIG_HI => 0x00100014
  | .SRV_FUSES => 0x00100018
  | .POR_STATUS => 0x00110000
  | .POR_WEAR => 0x00110004
  | .POR_EVENTS => 0x00110008
  | .POR_CFG_SEL => 0x0011000C
  | .POR_CFG_DATA => 0x00110010
  | .POR_CFG_CTL => 0x00110014
  | .UPD_BOOT => 0x00110100
  | .UPD_SESSION => 0x00110104
  | .UPD_SCHED => 0x00110108
  | .UPD_SCHED_GROUP => 0x0011010C
  | .UPD_SCHED_LEFT => 0x00110110
  | .UPD_RELAY_CFG => 0x00110114
  | .UPD_RELAY_STATUS => 0x00110118
  | .UPD_RELAY_CNT => 0x0011011C
  | .UPD_EVENTS => 0x00110120
  | .UPD_CHAIN_SEL => 0x00110124
  | .UPD_CHAIN_INFO => 0x00110128
  | .UPD_CHAIN_VER => 0x0011012C
  | .HST_SENTINEL => 0x01000000
  | .HST_FN_INFO => 0x02000000
  | .HST_FN_CTRL => 0x03000000
  | .HST_FN_STATUS => 0x04000000
  | .HST_FN_EVENTS => 0x05000000
  | .HST_LINK => 0x06000000
  | .HST_GAZ_PAGE => 0x07000000
  | .HST_DCS_WIN => 0x08000000
  | .HST_CLASS_MASK_LO => 0x09000000
  | .HST_CLASS_MASK_HI => 0x0A000000
  | .HST_CLASS_DEFAULT => 0x0B000000
  | .HST_QCLASS => 0x0C000000
  | .HST_PROMISE_STATUS => 0x0D000000
  | .HST_PROMISE_EVENTS => 0x0E000000
  | .HST_DEADLINE_MISS => 0x0F000000
  | .MBX_DOORBELL => 0x10000000
  | .MBX_STATUS => 0x11000000
  | .MBX_EVENTS => 0x12000000
  | .MBX_SESSION => 0x13000000

/-- How many elements a register array has (R657); the selectors of R660 have one copy for each of the four access
paths; the function window registers have one for each function (HST_DCS_WIN: 16 f + k; HST_QCLASS: 1,024 f + q). -/
def Reg.count : Reg → Nat
  | .PLT_STATUS => 1
  | .PLT_FRAME => 1
  | .PLT_EVENTS => 1
  | .PLT_RESERVE => 1
  | .PLT_LAGS => 1
  | .PLT_ENVELOPE => 1
  | .PLT_FLOOR_RD => 1
  | .PLT_FLOOR_WR => 1
  | .PLT_STALE => 1
  | .PLT_RECON => 128
  | .PLT_SHEET_PWR => 16
  | .PLT_FN => 256
  | .PLT_DIE => 2048
  | .ATL_STATUS => 1
  | .ATL_EVENTS => 1
  | .ATL_CTRL => 1
  | .ATL_JRNL_WM => 1
  | .ATL_JSEQ_LO => 1
  | .ATL_CAS_FAIL => 1
  | .ATL_UCODE_VER => 1
  | .ATL_STEER => 8
  | .ATL_POOL => 32
  | .ATL_ENG => 16
  | .SVY_MEDIA_STATUS => 1
  | .SVY_MEDIA_EVENTS => 1
  | .SVY_GC_CFG => 1
  | .SVY_WA => 1
  | .SVY_UPKEEP_CFG => 1
  | .SVY_SCAN_CFG => 1
  | .SVY_REFRESH_Q => 1
  | .SVY_POISON_TBL => 1
  | .SVY_FREE_WM => 3
  | .SVY_GROUP => 128
  | .TIL_CTRL => 1
  | .TIL_STATUS => 1
  | .TIL_EVENTS => 1
  | .TIL_ROUTE => 1
  | .TIL_ECC => 1
  | .TIL_POOL_TGT => 8
  | .TIL_POOL_STATUS => 8
  | .TIL_POOL_RES => 8
  | .TIL_POOL_WM => 8
  | .DRC_CFG => 1
  | .DRC_PORT_CFG => 12
  | .DRC_PORT_STATUS => 12
  | .DRC_CH_STATUS => 12
  | .DRC_CH_EVENTS => 12
  | .DRC_CH_ECC => 12
  | .DRC_UE_ADDR => 12
  | .CIP_STATUS => 1
  | .CIP_EVENTS => 1
  | .CIP_CNT_AUTH => 1
  | .CIP_UCODE_VER => 1
  | .CIP_LANE => 32
  | .LEG_STATUS => 1
  | .LEG_EVENTS => 1
  | .LEG_SLOT_SEL => 4
  | .LEG_SLOT_INFO => 1
  | .LEG_SLOT_NS => 1
  | .LEG_LOCKOUT => 1
  | .PAR_STATUS => 1
  | .PAR_EVENTS => 1
  | .PAR_CTRL => 1
  | .PAR_FRONTIER => 1
  | .PAR_SHEETS => 1
  | .PAR_JRNL_WM => 1
  | .PAR_LOST => 1
  | .PAR_SLOTS => 1
  | .PAR_UCODE_VER => 1
  | .PAR_GROUP => 128
  | .PAR_ENG => 64
  | .WPT_UCODE_VER => 1
  | .FCH_RETRAIN_CFG => 1
  | .FCH_SSC => 1
  | .FCH_DIE_SEL => 4
  | .FCH_DIE_INFO => 1
  | .FCH_MOV_UCODE_VER => 1
  | .FCH_CFG => 128
  | .FCH_STATUS => 128
  | .FCH_EVENTS => 128
  | .FCH_TRAIN => 128
  | .FCH_PROFILE => 32
  | .TRV_CTX_SEL => 4
  | .TRV_CTX_INFO => 1
  | .TRV_CTX_OP => 1
  | .TRV_CTX_CNT_A => 1
  | .TRV_CTX_CNT_B => 1
  | .TRV_UCODE_VER => 1
  | .TRV_POLL => 1
  | .TRV_PATCH_MAP => 16
  | .TRV_ENG => 512
  | .LDP_CFG => 1
  | .LDP_STATUS => 4
  | .LDP_EVENTS => 4
  | .LDP_CNT_HARD_FAIL => 4
  | .LDP_CNT_SOFT_OK => 4
  | .LDP_CNT_LADDER_OK => 4
  | .LDP_CNT_UNCORR => 4
  | .LDP_LANE => 256
  | .SHB_CFG => 1
  | .SHB_ID_SEL => 4
  | .SHB_ID_DATA => 1
  | .SHB_BAY => 16
  | .SHB_IND => 16
  | .SHB_EVENTS => 16
  | .PWR_MODE => 1
  | .PWR_EVENTS => 1
  | .PWR_HOLD_CFG => 1
  | .PWR_HOLD_BANK => 1
  | .PWR_HOLD_LIMITS => 1
  | .PWR_HOLD_STATUS => 1
  | .PWR_HOLD_E => 1
  | .PWR_HOLD_ESR => 1
  | .PWR_STAGING => 1
  | .PWR_STAGING_USE => 1
  | .PWR_AVS => 1
  | .CTR_STATUS => 1
  | .CTR_EVENTS => 1
  | .CTR_CFG => 1
  | .CTR_ROUND => 1
  | .CTR_ROUND_CNT => 1
  | .CTR_TEMP_WM => 2
  | .CTR_CAL => 19
  | .CTR_REGION => 137
  | .CHR_DCS_LAYOUT => 1
  | .CHR_MGMT_CFG => 1
  | .CHR_MGMT_STATUS => 1
  | .CHR_MGMT_ERR => 1
  | .CHR_ALERT_STATUS => 1
  | .CHR_ALERT_MASK => 1
  | .CHR_PAD_CFG => 1
  | .FLT_PIN_CTL => 1
  | .FLT_INJ_SEL => 4
  | .FLT_INJ_CTL => 4
  | .FLT_INJ_STATUS => 1
  | .CHR_LINK_STAT => 10
  | .GAZ_STATUS => 1
  | .GAZ_SEQ => 1
  | .GAZ_COUNTS => 1
  | .DAT_TIME_LO => 1
  | .DAT_TIME_HI => 1
  | .DAT_ALARM_LO => 1
  | .DAT_ALARM_HI => 1
  | .DAT_ADJ => 1
  | .DAT_EVENTS => 1
  | .SRV_STATUS => 1
  | .SRV_EVENTS => 1
  | .SRV_CFG => 1
  | .SRV_LAST_UNIT => 1
  | .SRV_LAST_SIG_LO => 1
  | .SRV_LAST_SIG_HI => 1
  | .SRV_FUSES => 1
  | .POR_STATUS => 1
  | .POR_WEAR => 1
  | .POR_EVENTS => 1
  | .POR_CFG_SEL => 4
  | .POR_CFG_DATA => 32
  | .POR_CFG_CTL => 1
  | .UPD_BOOT => 1
  | .UPD_SESSION => 1
  | .UPD_SCHED => 1
  | .UPD_SCHED_GROUP => 1
  | .UPD_SCHED_LEFT => 1
  | .UPD_RELAY_CFG => 1
  | .UPD_RELAY_STATUS => 1
  | .UPD_RELAY_CNT => 1
  | .UPD_EVENTS => 1
  | .UPD_CHAIN_SEL => 4
  | .UPD_CHAIN_INFO => 1
  | .UPD_CHAIN_VER => 1
  | .HST_SENTINEL => 256
  | .HST_FN_INFO => 256
  | .HST_FN_CTRL => 256
  | .HST_FN_STATUS => 256
  | .HST_FN_EVENTS => 256
  | .HST_LINK => 256
  | .HST_GAZ_PAGE => 256
  | .HST_DCS_WIN => 4096
  | .HST_CLASS_MASK_LO => 256
  | .HST_CLASS_MASK_HI => 256
  | .HST_CLASS_DEFAULT => 256
  | .HST_QCLASS => 262144
  | .HST_PROMISE_STATUS => 256
  | .HST_PROMISE_EVENTS => 256
  | .HST_DEADLINE_MISS => 256
  | .MBX_DOORBELL => 256
  | .MBX_STATUS => 256
  | .MBX_EVENTS => 256
  | .MBX_SESSION => 256

/-- Distance between two elements: 4 bytes (R657), or, for the copies of R660, a number past the DCS. -/
def Reg.stride : Reg → Nat
  | .FCH_DIE_SEL => 0x100000000
  | .TRV_CTX_SEL => 0x100000000
  | .LEG_SLOT_SEL => 0x100000000
  | .SHB_ID_SEL => 0x100000000
  | .UPD_CHAIN_SEL => 0x100000000
  | .POR_CFG_SEL => 0x100000000
  | .FLT_INJ_SEL => 0x100000000
  | .FLT_INJ_CTL => 0x100000000
  | .POR_CFG_DATA => 0x100000000
  | _ => 4

/-- The DCS offset of element `i` of a register (R656, R657). -/
def Reg.addr (r : Reg) (i : Nat) : Nat := r.base + r.stride * i

/-- The registers, part 1. -/
def Reg.part1 : List Reg :=
  [.PLT_STATUS, .PLT_FRAME, .PLT_EVENTS, .PLT_RESERVE, .PLT_LAGS, .PLT_ENVELOPE, .PLT_FLOOR_RD, .PLT_FLOOR_WR,
   .PLT_STALE, .PLT_RECON, .PLT_SHEET_PWR, .PLT_FN, .PLT_DIE, .ATL_STATUS, .ATL_EVENTS, .ATL_CTRL, .ATL_JRNL_WM,
   .ATL_JSEQ_LO, .ATL_CAS_FAIL, .ATL_UCODE_VER, .ATL_STEER, .ATL_POOL, .ATL_ENG, .SVY_MEDIA_STATUS,
   .SVY_MEDIA_EVENTS, .SVY_GC_CFG, .SVY_WA, .SVY_UPKEEP_CFG, .SVY_SCAN_CFG, .SVY_REFRESH_Q, .SVY_POISON_TBL,
   .SVY_FREE_WM, .SVY_GROUP, .TIL_CTRL, .TIL_STATUS, .TIL_EVENTS, .TIL_ROUTE, .TIL_ECC, .TIL_POOL_TGT,
   .TIL_POOL_STATUS]

/-- The registers, part 2. -/
def Reg.part2 : List Reg :=
  [.TIL_POOL_RES, .TIL_POOL_WM, .DRC_CFG, .DRC_PORT_CFG, .DRC_PORT_STATUS, .DRC_CH_STATUS, .DRC_CH_EVENTS,
   .DRC_CH_ECC, .DRC_UE_ADDR, .CIP_STATUS, .CIP_EVENTS, .CIP_CNT_AUTH, .CIP_UCODE_VER, .CIP_LANE, .LEG_STATUS,
   .LEG_EVENTS, .LEG_SLOT_SEL, .LEG_SLOT_INFO, .LEG_SLOT_NS, .LEG_LOCKOUT, .PAR_STATUS, .PAR_EVENTS, .PAR_CTRL,
   .PAR_FRONTIER, .PAR_SHEETS, .PAR_JRNL_WM, .PAR_LOST, .PAR_SLOTS, .PAR_UCODE_VER, .PAR_GROUP, .PAR_ENG,
   .WPT_UCODE_VER, .FCH_RETRAIN_CFG, .FCH_SSC, .FCH_DIE_SEL, .FCH_DIE_INFO, .FCH_MOV_UCODE_VER, .FCH_CFG,
   .FCH_STATUS, .FCH_EVENTS]

/-- The registers, part 3. -/
def Reg.part3 : List Reg :=
  [.FCH_TRAIN, .FCH_PROFILE, .TRV_CTX_SEL, .TRV_CTX_INFO, .TRV_CTX_OP, .TRV_CTX_CNT_A, .TRV_CTX_CNT_B,
   .TRV_UCODE_VER, .TRV_POLL, .TRV_PATCH_MAP, .TRV_ENG, .LDP_CFG, .LDP_STATUS, .LDP_EVENTS, .LDP_CNT_HARD_FAIL,
   .LDP_CNT_SOFT_OK, .LDP_CNT_LADDER_OK, .LDP_CNT_UNCORR, .LDP_LANE, .SHB_CFG, .SHB_ID_SEL, .SHB_ID_DATA, .SHB_BAY,
   .SHB_IND, .SHB_EVENTS, .PWR_MODE, .PWR_EVENTS, .PWR_HOLD_CFG, .PWR_HOLD_BANK, .PWR_HOLD_LIMITS, .PWR_HOLD_STATUS,
   .PWR_HOLD_E, .PWR_HOLD_ESR, .PWR_STAGING, .PWR_STAGING_USE, .PWR_AVS, .CTR_STATUS, .CTR_EVENTS, .CTR_CFG,
   .CTR_ROUND]

/-- The registers, part 4. -/
def Reg.part4 : List Reg :=
  [.CTR_ROUND_CNT, .CTR_TEMP_WM, .CTR_CAL, .CTR_REGION, .CHR_DCS_LAYOUT, .CHR_MGMT_CFG, .CHR_MGMT_STATUS,
   .CHR_MGMT_ERR, .CHR_ALERT_STATUS, .CHR_ALERT_MASK, .CHR_PAD_CFG, .FLT_PIN_CTL, .FLT_INJ_SEL, .FLT_INJ_CTL,
   .FLT_INJ_STATUS, .CHR_LINK_STAT, .GAZ_STATUS, .GAZ_SEQ, .GAZ_COUNTS, .DAT_TIME_LO, .DAT_TIME_HI, .DAT_ALARM_LO,
   .DAT_ALARM_HI, .DAT_ADJ, .DAT_EVENTS, .SRV_STATUS, .SRV_EVENTS, .SRV_CFG, .SRV_LAST_UNIT, .SRV_LAST_SIG_LO,
   .SRV_LAST_SIG_HI, .SRV_FUSES, .POR_STATUS, .POR_WEAR, .POR_EVENTS, .POR_CFG_SEL, .POR_CFG_DATA, .POR_CFG_CTL,
   .UPD_BOOT, .UPD_SESSION]

/-- The registers, part 5. -/
def Reg.part5 : List Reg :=
  [.UPD_SCHED, .UPD_SCHED_GROUP, .UPD_SCHED_LEFT, .UPD_RELAY_CFG, .UPD_RELAY_STATUS, .UPD_RELAY_CNT, .UPD_EVENTS,
   .UPD_CHAIN_SEL, .UPD_CHAIN_INFO, .UPD_CHAIN_VER, .HST_SENTINEL, .HST_FN_INFO, .HST_FN_CTRL, .HST_FN_STATUS,
   .HST_FN_EVENTS, .HST_LINK, .HST_GAZ_PAGE, .HST_DCS_WIN, .HST_CLASS_MASK_LO, .HST_CLASS_MASK_HI,
   .HST_CLASS_DEFAULT, .HST_QCLASS, .HST_PROMISE_STATUS, .HST_PROMISE_EVENTS, .HST_DEADLINE_MISS, .MBX_DOORBELL,
   .MBX_STATUS, .MBX_EVENTS, .MBX_SESSION]

/-- Every register, in the order of the tables. -/
def Reg.all : List Reg := Reg.part1 ++ Reg.part2 ++ Reg.part3 ++ Reg.part4 ++ Reg.part5

/-- A register's place in `Reg.all`. -/
def Reg.num : Reg → Nat
  | .PLT_STATUS => 0
  | .PLT_FRAME => 1
  | .PLT_EVENTS => 2
  | .PLT_RESERVE => 3
  | .PLT_LAGS => 4
  | .PLT_ENVELOPE => 5
  | .PLT_FLOOR_RD => 6
  | .PLT_FLOOR_WR => 7
  | .PLT_STALE => 8
  | .PLT_RECON => 9
  | .PLT_SHEET_PWR => 10
  | .PLT_FN => 11
  | .PLT_DIE => 12
  | .ATL_STATUS => 13
  | .ATL_EVENTS => 14
  | .ATL_CTRL => 15
  | .ATL_JRNL_WM => 16
  | .ATL_JSEQ_LO => 17
  | .ATL_CAS_FAIL => 18
  | .ATL_UCODE_VER => 19
  | .ATL_STEER => 20
  | .ATL_POOL => 21
  | .ATL_ENG => 22
  | .SVY_MEDIA_STATUS => 23
  | .SVY_MEDIA_EVENTS => 24
  | .SVY_GC_CFG => 25
  | .SVY_WA => 26
  | .SVY_UPKEEP_CFG => 27
  | .SVY_SCAN_CFG => 28
  | .SVY_REFRESH_Q => 29
  | .SVY_POISON_TBL => 30
  | .SVY_FREE_WM => 31
  | .SVY_GROUP => 32
  | .TIL_CTRL => 33
  | .TIL_STATUS => 34
  | .TIL_EVENTS => 35
  | .TIL_ROUTE => 36
  | .TIL_ECC => 37
  | .TIL_POOL_TGT => 38
  | .TIL_POOL_STATUS => 39
  | .TIL_POOL_RES => 40
  | .TIL_POOL_WM => 41
  | .DRC_CFG => 42
  | .DRC_PORT_CFG => 43
  | .DRC_PORT_STATUS => 44
  | .DRC_CH_STATUS => 45
  | .DRC_CH_EVENTS => 46
  | .DRC_CH_ECC => 47
  | .DRC_UE_ADDR => 48
  | .CIP_STATUS => 49
  | .CIP_EVENTS => 50
  | .CIP_CNT_AUTH => 51
  | .CIP_UCODE_VER => 52
  | .CIP_LANE => 53
  | .LEG_STATUS => 54
  | .LEG_EVENTS => 55
  | .LEG_SLOT_SEL => 56
  | .LEG_SLOT_INFO => 57
  | .LEG_SLOT_NS => 58
  | .LEG_LOCKOUT => 59
  | .PAR_STATUS => 60
  | .PAR_EVENTS => 61
  | .PAR_CTRL => 62
  | .PAR_FRONTIER => 63
  | .PAR_SHEETS => 64
  | .PAR_JRNL_WM => 65
  | .PAR_LOST => 66
  | .PAR_SLOTS => 67
  | .PAR_UCODE_VER => 68
  | .PAR_GROUP => 69
  | .PAR_ENG => 70
  | .WPT_UCODE_VER => 71
  | .FCH_RETRAIN_CFG => 72
  | .FCH_SSC => 73
  | .FCH_DIE_SEL => 74
  | .FCH_DIE_INFO => 75
  | .FCH_MOV_UCODE_VER => 76
  | .FCH_CFG => 77
  | .FCH_STATUS => 78
  | .FCH_EVENTS => 79
  | .FCH_TRAIN => 80
  | .FCH_PROFILE => 81
  | .TRV_CTX_SEL => 82
  | .TRV_CTX_INFO => 83
  | .TRV_CTX_OP => 84
  | .TRV_CTX_CNT_A => 85
  | .TRV_CTX_CNT_B => 86
  | .TRV_UCODE_VER => 87
  | .TRV_POLL => 88
  | .TRV_PATCH_MAP => 89
  | .TRV_ENG => 90
  | .LDP_CFG => 91
  | .LDP_STATUS => 92
  | .LDP_EVENTS => 93
  | .LDP_CNT_HARD_FAIL => 94
  | .LDP_CNT_SOFT_OK => 95
  | .LDP_CNT_LADDER_OK => 96
  | .LDP_CNT_UNCORR => 97
  | .LDP_LANE => 98
  | .SHB_CFG => 99
  | .SHB_ID_SEL => 100
  | .SHB_ID_DATA => 101
  | .SHB_BAY => 102
  | .SHB_IND => 103
  | .SHB_EVENTS => 104
  | .PWR_MODE => 105
  | .PWR_EVENTS => 106
  | .PWR_HOLD_CFG => 107
  | .PWR_HOLD_BANK => 108
  | .PWR_HOLD_LIMITS => 109
  | .PWR_HOLD_STATUS => 110
  | .PWR_HOLD_E => 111
  | .PWR_HOLD_ESR => 112
  | .PWR_STAGING => 113
  | .PWR_STAGING_USE => 114
  | .PWR_AVS => 115
  | .CTR_STATUS => 116
  | .CTR_EVENTS => 117
  | .CTR_CFG => 118
  | .CTR_ROUND => 119
  | .CTR_ROUND_CNT => 120
  | .CTR_TEMP_WM => 121
  | .CTR_CAL => 122
  | .CTR_REGION => 123
  | .CHR_DCS_LAYOUT => 124
  | .CHR_MGMT_CFG => 125
  | .CHR_MGMT_STATUS => 126
  | .CHR_MGMT_ERR => 127
  | .CHR_ALERT_STATUS => 128
  | .CHR_ALERT_MASK => 129
  | .CHR_PAD_CFG => 130
  | .FLT_PIN_CTL => 131
  | .FLT_INJ_SEL => 132
  | .FLT_INJ_CTL => 133
  | .FLT_INJ_STATUS => 134
  | .CHR_LINK_STAT => 135
  | .GAZ_STATUS => 136
  | .GAZ_SEQ => 137
  | .GAZ_COUNTS => 138
  | .DAT_TIME_LO => 139
  | .DAT_TIME_HI => 140
  | .DAT_ALARM_LO => 141
  | .DAT_ALARM_HI => 142
  | .DAT_ADJ => 143
  | .DAT_EVENTS => 144
  | .SRV_STATUS => 145
  | .SRV_EVENTS => 146
  | .SRV_CFG => 147
  | .SRV_LAST_UNIT => 148
  | .SRV_LAST_SIG_LO => 149
  | .SRV_LAST_SIG_HI => 150
  | .SRV_FUSES => 151
  | .POR_STATUS => 152
  | .POR_WEAR => 153
  | .POR_EVENTS => 154
  | .POR_CFG_SEL => 155
  | .POR_CFG_DATA => 156
  | .POR_CFG_CTL => 157
  | .UPD_BOOT => 158
  | .UPD_SESSION => 159
  | .UPD_SCHED => 160
  | .UPD_SCHED_GROUP => 161
  | .UPD_SCHED_LEFT => 162
  | .UPD_RELAY_CFG => 163
  | .UPD_RELAY_STATUS => 164
  | .UPD_RELAY_CNT => 165
  | .UPD_EVENTS => 166
  | .UPD_CHAIN_SEL => 167
  | .UPD_CHAIN_INFO => 168
  | .UPD_CHAIN_VER => 169
  | .HST_SENTINEL => 170
  | .HST_FN_INFO => 171
  | .HST_FN_CTRL => 172
  | .HST_FN_STATUS => 173
  | .HST_FN_EVENTS => 174
  | .HST_LINK => 175
  | .HST_GAZ_PAGE => 176
  | .HST_DCS_WIN => 177
  | .HST_CLASS_MASK_LO => 178
  | .HST_CLASS_MASK_HI => 179
  | .HST_CLASS_DEFAULT => 180
  | .HST_QCLASS => 181
  | .HST_PROMISE_STATUS => 182
  | .HST_PROMISE_EVENTS => 183
  | .HST_DEADLINE_MISS => 184
  | .MBX_DOORBELL => 185
  | .MBX_STATUS => 186
  | .MBX_EVENTS => 187
  | .MBX_SESSION => 188

/-- The key of element `i` of a register in the register store: no two registers share one. -/
def Reg.key (r : Reg) (i : Nat) : Nat := i * 256 + r.num

/-- A field: its register's bits `hi` down to `lo`, its access code, its reset value and the range a write may give it. -/
structure FieldSpec where
  hi : Nat
  lo : Nat
  acc : Access
  rst : Nat
  min : Nat
  max : Nat
  deriving DecidableEq, Repr

/-- A field with no range of its own: every value its bits can hold. -/
def fs (hi lo : Nat) (acc : Access) (rst : Nat) : FieldSpec := ⟨hi, lo, acc, rst, 0, 2 ^ (hi + 1 - lo) - 1⟩
/-- A field whose table gives a range. -/
def fr (hi lo : Nat) (acc : Access) (rst min max : Nat) : FieldSpec := ⟨hi, lo, acc, rst, min, max⟩

/-- The fields of a register, reserved bits left out (R8), each from the field table named. -/
def Reg.fields : Reg → List FieldSpec
  -- Table 03-8
  | .PLT_STATUS => [fs 31 16 .ro 0, fs 15 9 .ro 0, fs 8 8 .ro 0, fs 6 4 .ro 0,
      fs 3 3 .ro 0, fs 1 1 .ro 0, fs 0 0 .ro 0]
  -- Table 03-9
  | .PLT_FRAME => [fs 31 0 .ro 0]
  -- Table 03-10
  | .PLT_EVENTS => [fs 5 5 .rw1c 0, fs 4 4 .rw1c 0, fs 3 3 .rw1c 0, fs 2 2 .rw1c 0,
      fs 1 1 .rw1c 0, fs 0 0 .rw1c 0]
  -- Table 03-11
  | .PLT_RESERVE => [fr 25 16 .rw 100 50 400, fr 9 0 .rw 30 10 200]
  -- Table 03-13
  | .PLT_LAGS => [fr 15 8 .rw 32 4 63, fr 7 0 .rw 6 2 60]
  -- Table 03-14
  | .PLT_ENVELOPE => [fr 15 0 .rw 15000 15000 60000]
  -- Table 03-18
  | .PLT_FLOOR_RD => [fs 31 16 .ro 0, fs 15 0 .ro 0]
  -- Table 03-18
  | .PLT_FLOOR_WR => [fs 31 16 .ro 0, fs 15 0 .ro 0]
  -- Table 03-18
  | .PLT_STALE => [fs 31 0 .rc 0]
  -- Table 03-12
  | .PLT_RECON => [fs 31 16 .rc 0, fr 9 0 .rw 20 0 200]
  -- Table 03-15
  | .PLT_SHEET_PWR => [fr 31 16 .rw 50 10 1000, fr 15 0 .rw 1000 500 10000]
  -- Table 03-17
  | .PLT_FN => [fs 23 16 .ro 0, fs 15 0 .ro 0]
  -- Table 03-16
  | .PLT_DIE => [fs 19 19 .ro 0, fs 18 18 .ro 0, fs 17 16 .ro 0, fs 15 0 .ro 0]
  -- Table 04-9
  | .ATL_STATUS => [fs 31 24 .ro 0, fs 14 8 .ro 0, fs 2 2 .ro 0, fs 1 1 .ro 0,
      fs 0 0 .ro 0]
  -- Table 04-10
  | .ATL_EVENTS => [fs 6 6 .rw1c 0, fs 5 5 .rw1c 0, fs 4 4 .rw1c 0, fs 3 3 .rw1c 0,
      fs 2 2 .rw1c 0, fs 0 0 .rw1c 0]
  -- Table 04-11
  | .ATL_CTRL => [fr 31 24 .rw 60 10 240, fr 23 16 .rw 100 20 200, fr 9 0 .rw 200 50 1000]
  -- Table 04-12
  | .ATL_JRNL_WM => [fs 31 16 .rc 0, fs 9 9 .ro 0, fs 8 8 .rw1c 0, fr 6 0 .rw 75 10 95]
  -- Table 04-13
  | .ATL_JSEQ_LO => [fs 31 0 .ro 0]
  -- Table 04-13
  | .ATL_CAS_FAIL => [fs 31 0 .rc 0]
  -- Table 08-13
  | .ATL_UCODE_VER => [fs 31 24 .ro 0, fs 23 16 .ro 0, fs 15 15 .ro 0, fs 14 14 .ro 0,
      fs 13 12 .ro 3, fs 11 0 .ro 0]
  -- Table 04-14
  | .ATL_STEER => [fr 3 0 .rw 0 0 15, fr 7 4 .rw 0 0 15, fr 11 8 .rw 0 0 15, fr 15 12 .rw 0 0 15,
      fr 19 16 .rw 0 0 15, fr 23 20 .rw 0 0 15, fr 27 24 .rw 0 0 15, fr 31 28 .rw 0 0 15]
  -- Table 04-15
  | .ATL_POOL => [fs 31 31 .ro 0, fs 30 30 .ro 0, fs 27 16 .ro 0, fs 11 0 .ro 0]
  -- Table 04-16
  | .ATL_ENG => [fs 31 31 .ro 0, fs 18 16 .ro 0, fs 15 8 .ro 0, fs 7 0 .ro 0]
  -- Table 05-7
  | .SVY_MEDIA_STATUS => [fs 31 30 .ro 0, fs 29 29 .ro 0, fs 28 28 .ro 0, fs 17 0 .ro 0]
  -- Table 05-8
  | .SVY_MEDIA_EVENTS => [fs 6 6 .rw1c 0, fs 5 5 .rw1c 0, fs 4 4 .rw1c 0, fs 3 3 .rw1c 0,
      fs 2 2 .rw1c 0, fs 1 1 .rw1c 0, fs 0 0 .rw1c 0]
  -- Table 05-9
  | .SVY_GC_CFG => [fr 23 16 .rw 60 10 255, fr 15 8 .rw 8 2 16, fr 7 0 .rw 24 1 255]
  -- Table 05-10
  | .SVY_WA => [fs 31 16 .ro 256, fs 15 0 .ro 2048]
  -- Table 05-11
  | .SVY_UPKEEP_CFG => [fs 25 16 .ro 25, fr 12 8 .rw 5 1 20, fr 7 0 .rw 7 1 30]
  -- Table 05-12
  | .SVY_SCAN_CFG => [fr 7 0 .rw 64 1 255]
  -- Table 05-12
  | .SVY_REFRESH_Q => [fs 23 0 .ro 0]
  -- Table 14-20
  | .SVY_POISON_TBL => [fs 31 31 .ro 0, fs 20 0 .ro 0]
  -- Table 05-13
  | .SVY_FREE_WM => [fs 31 16 .rc 0, fs 9 9 .ro 0, fs 8 8 .rw1c 0, fr 7 0 .rw 0 2 255]
  -- Table 05-14
  | .SVY_GROUP => [fs 31 30 .ro 0, fs 17 0 .ro 0]
  -- Table 14-11
  | .TIL_CTRL => [fs 0 0 .w1s 0]
  -- Table 14-12
  | .TIL_STATUS => [fs 31 31 .ro 0, fs 28 16 .ro 0, fs 12 0 .ro 4096]
  -- Table 14-13
  | .TIL_EVENTS => [fs 5 5 .rw1c 0, fs 4 4 .rw1c 0, fs 3 3 .rw1c 0, fs 2 2 .rw1c 0,
      fs 1 1 .rw1c 0, fs 0 0 .rw1c 0]
  -- Table 14-14
  | .TIL_ROUTE => [fr 2 0 .rw 0 0 7, fr 6 4 .rw 1 0 7, fr 10 8 .rw 2 0 7, fr 14 12 .rw 3 0 7,
      fr 18 16 .rw 4 0 7, fr 22 20 .rw 5 0 7, fr 26 24 .rw 6 0 7, fr 30 28 .rw 7 0 7]
  -- Table 14-15
  | .TIL_ECC => [fs 31 16 .rc 0, fs 15 0 .rc 0]
  -- Table 14-16
  | .TIL_POOL_TGT => [fr 12 0 .rw 0 8 4096]
  -- Table 14-17
  | .TIL_POOL_STATUS => [fs 28 16 .ro 0, fs 12 0 .ro 0]
  -- Table 14-18
  | .TIL_POOL_RES => [fs 28 16 .ro 0, fs 12 0 .ro 0]
  -- Table 14-19
  | .TIL_POOL_WM => [fs 31 16 .rc 0, fs 14 14 .ro 1, fs 13 13 .rw1c 0, fr 12 0 .rw 64 1 4096]
  -- Table 14-21
  | .DRC_CFG => [fs 23 16 .ro 0, fs 9 8 .ro 0, fs 7 6 .ro 0, fs 3 0 .ro 0]
  -- Table 14-22
  | .DRC_PORT_CFG => [fr 19 0 .rw 0 100 1000000]
  -- Table 14-22
  | .DRC_PORT_STATUS => [fs 31 30 .ro 0, fs 15 0 .rc 0]
  -- Table 14-23
  | .DRC_CH_STATUS => [fs 31 31 .ro 0, fs 30 30 .ro 0, fs 29 29 .ro 0, fs 9 0 .ro 0]
  -- Table 14-23
  | .DRC_CH_EVENTS => [fs 4 4 .rw1c 0, fs 3 3 .rw1c 0, fs 2 2 .rw1c 0, fs 1 1 .rw1c 0,
      fs 0 0 .rw1c 0]
  -- Table 14-24
  | .DRC_CH_ECC => [fs 31 16 .rc 0, fs 15 0 .rc 0]
  -- Table 14-24
  | .DRC_UE_ADDR => [fs 31 28 .ro 0, fs 27 0 .ro 0]
  -- Table 15-5
  | .CIP_STATUS => [fs 21 16 .ro 32, fs 9 0 .ro 1000]
  -- Table 15-6
  | .CIP_EVENTS => [fs 4 4 .rw1c 0, fs 3 3 .rw1c 0, fs 2 2 .rw1c 0, fs 1 1 .rw1c 0,
      fs 0 0 .rw1c 0]
  -- Table 15-8
  | .CIP_CNT_AUTH => [fs 31 16 .rc 0, fs 15 0 .rc 0]
  -- Table 08-13
  | .CIP_UCODE_VER => [fs 31 24 .ro 0, fs 23 16 .ro 0, fs 15 15 .ro 0, fs 14 14 .ro 0,
      fs 13 12 .ro 3, fs 11 0 .ro 0]
  -- Table 15-7
  | .CIP_LANE => [fs 31 31 .ro 0, fs 7 0 .ro 0]
  -- Table 15-9
  | .LEG_STATUS => [fs 31 31 .ro 0, fs 30 30 .ro 0, fs 29 29 .ro 0, fs 28 28 .ro 0,
      fs 27 24 .ro 0, fs 10 0 .ro 0]
  -- Table 15-10
  | .LEG_EVENTS => [fs 4 4 .rw1c 0, fs 3 3 .rw1c 0, fs 2 2 .rw1c 0, fs 1 1 .rw1c 0,
      fs 0 0 .rw1c 0]
  -- Table 15-11
  | .LEG_SLOT_SEL => [fs 9 0 .rw 0]
  -- Table 15-11
  | .LEG_SLOT_INFO => [fs 31 30 .ro 0, fs 29 29 .ro 0, fs 28 28 .ro 0, fs 23 16 .ro 0,
      fs 15 0 .ro 0]
  -- Table 15-11
  | .LEG_SLOT_NS => [fs 31 0 .ro 0]
  -- Table 15-12
  | .LEG_LOCKOUT => [fs 11 0 .ro 0]
  -- Table 06-7
  | .PAR_STATUS => [fs 31 16 .ro 0, fs 15 8 .ro 0, fs 4 4 .ro 0, fs 3 3 .ro 0,
      fs 2 2 .ro 0, fs 1 1 .ro 0, fs 0 0 .ro 0]
  -- Table 06-8
  | .PAR_EVENTS => [fs 9 9 .rw1c 0, fs 8 8 .rw1c 0, fs 7 7 .rw1c 0, fs 6 6 .rw1c 0,
      fs 5 5 .rw1c 0, fs 4 4 .rw1c 0, fs 3 3 .rw1c 0, fs 2 2 .rw1c 0,
      fs 1 1 .rw1c 0, fs 0 0 .rw1c 0]
  -- Table 06-9
  | .PAR_CTRL => [fr 25 16 .rw 100 10 500, fr 10 8 .rw 2 1 4, fr 3 0 .rw 4 1 8]
  -- Table 06-10
  | .PAR_FRONTIER => [fs 23 0 .ro 0]
  -- Table 06-11
  | .PAR_SHEETS => [fs 31 16 .ro 0, fs 15 0 .ro 0]
  -- Table 06-12
  | .PAR_JRNL_WM => [fs 31 16 .rc 0, fs 9 9 .ro 0, fs 8 8 .rw1c 0, fr 6 0 .rw 75 10 95]
  -- Table 06-13
  | .PAR_LOST => [fs 31 16 .ro 0, fs 15 0 .rc 0]
  -- Table 06-13
  | .PAR_SLOTS => [fs 11 0 .ro 0]
  -- Table 08-13
  | .PAR_UCODE_VER => [fs 31 24 .ro 0, fs 23 16 .ro 0, fs 15 15 .ro 0, fs 14 14 .ro 0,
      fs 13 12 .ro 3, fs 11 0 .ro 0]
  -- Table 06-14
  | .PAR_GROUP => [fs 16 16 .ro 0, fs 9 8 .ro 0, fs 4 0 .ro 0]
  -- Table 06-15
  | .PAR_ENG => [fs 31 31 .ro 0, fs 15 8 .ro 0, fs 7 0 .ro 0]
  -- Table 08-13
  | .WPT_UCODE_VER => [fs 31 24 .ro 0, fs 23 16 .ro 0, fs 15 15 .ro 0, fs 14 14 .ro 0,
      fs 13 12 .ro 3, fs 11 0 .ro 0]
  -- Table 07-9
  | .FCH_RETRAIN_CFG => [fr 15 8 .rw 50 10 200, fr 4 0 .rw 8 4 16]
  -- Table 07-10
  | .FCH_SSC => [fs 1 1 .rw 1, fs 0 0 .rw 1]
  -- Table 07-11
  | .FCH_DIE_SEL => [fs 10 0 .rw 0]
  -- Table 07-11
  | .FCH_DIE_INFO => [fs 31 26 .ro 0, fs 25 20 .ro 0, fs 19 10 .ro 0, fs 9 9 .ro 0,
      fs 8 8 .ro 0, fs 7 7 .ro 0, fs 6 6 .ro 0, fs 4 0 .ro 0]
  -- Table 08-13
  | .FCH_MOV_UCODE_VER => [fs 31 24 .ro 0, fs 23 16 .ro 0, fs 15 15 .ro 0, fs 14 14 .ro 0,
      fs 13 12 .ro 3, fs 11 0 .ro 0]
  -- Table 07-5
  | .FCH_CFG => [fs 5 4 .rw 1, fr 3 0 .rw 11 1 11]
  -- Table 07-6
  | .FCH_STATUS => [fs 31 16 .ro 0, fs 9 9 .ro 0, fs 8 8 .ro 0, fs 7 7 .ro 0,
      fs 4 4 .ro 0, fs 3 0 .ro 0]
  -- Table 07-7
  | .FCH_EVENTS => [fs 11 11 .rw1c 0, fs 10 10 .rw1c 0, fs 9 9 .rw1c 0, fs 8 8 .rw1c 0,
      fs 7 7 .rw1c 0, fs 6 6 .rw1c 0, fs 5 5 .rw1c 0, fs 4 4 .rw1c 0,
      fs 3 3 .rw1c 0, fs 2 2 .rw1c 0, fs 1 1 .rw1c 0, fs 0 0 .rw1c 0]
  -- Table 07-8
  | .FCH_TRAIN => [fs 31 24 .ro 0, fs 20 16 .ro 0, fs 15 0 .ro 0]
  -- Table 07-12
  | .FCH_PROFILE => [fs 31 31 .ro 0, fs 27 24 .ro 0, fs 23 12 .ro 0, fs 11 0 .ro 0]
  -- Table 08-12
  | .TRV_CTX_SEL => [fs 10 0 .rw 0]
  -- Table 08-12
  | .TRV_CTX_INFO => [fs 31 20 .ro 0, fs 19 12 .ro 0, fs 11 10 .ro 0, fs 9 8 .ro 0,
      fs 7 0 .ro 0]
  -- Table 08-12
  | .TRV_CTX_OP => [fs 31 16 .ro 0, fs 11 0 .ro 0]
  -- Table 08-12
  | .TRV_CTX_CNT_A => [fs 31 16 .ro 0, fs 15 0 .ro 0]
  -- Table 08-12
  | .TRV_CTX_CNT_B => [fs 31 16 .ro 0, fs 15 0 .ro 0]
  -- Table 08-13
  | .TRV_UCODE_VER => [fs 31 24 .ro 0, fs 23 16 .ro 0, fs 15 15 .ro 0, fs 14 14 .ro 0,
      fs 13 12 .ro 3, fs 11 0 .ro 0]
  -- Table 08-14
  | .TRV_POLL => [fr 31 24 .rw 10 1 100, fr 23 16 .rw 5 1 100, fr 11 0 .rw 960 160 4000]
  -- Table 08-14
  | .TRV_PATCH_MAP => [fs 31 31 .ro 0, fs 23 12 .ro 0, fs 11 0 .ro 0]
  -- Table 08-11
  | .TRV_ENG => [fs 31 31 .ro 0, fs 30 30 .ro 0, fs 27 27 .rw1c 0, fs 26 26 .rw1c 0,
      fs 25 25 .rw1c 0, fs 24 24 .rw1c 0, fs 19 16 .ro 4, fs 15 8 .ro 0]
  -- Table 09-6
  | .LDP_CFG => [fr 15 8 .rw 64 1 255, fr 4 0 .rw 16 0 16]
  -- Table 09-7
  | .LDP_STATUS => [fs 23 16 .ro 0, fs 15 8 .ro 0, fs 7 0 .ro 0]
  -- Table 09-8
  | .LDP_EVENTS => [fs 5 5 .rw1c 0, fs 4 4 .rw1c 0, fs 3 3 .rw1c 0, fs 2 2 .rw1c 0,
      fs 1 1 .rw1c 0, fs 0 0 .rw1c 0]
  -- Table 09-9
  | .LDP_CNT_HARD_FAIL => [fs 31 0 .rc 0]
  -- Table 09-9
  | .LDP_CNT_SOFT_OK => [fs 31 0 .rc 0]
  -- Table 09-9
  | .LDP_CNT_LADDER_OK => [fs 31 0 .rc 0]
  -- Table 09-9
  | .LDP_CNT_UNCORR => [fs 31 0 .rc 0]
  -- Table 09-10
  | .LDP_LANE => [fs 31 31 .ro 0, fs 30 30 .ro 0, fs 29 29 .ro 0, fs 28 28 .ro 0,
      fs 7 0 .ro 0]
  -- Table 10-8
  | .SHB_CFG => [fs 31 31 .rw 0, fs 30 30 .rw 1, fr 23 16 .rw 20 1 100, fr 15 8 .rw 10 1 100,
      fs 0 0 .ro 0]
  -- Table 10-12
  | .SHB_ID_SEL => [fs 9 6 .rw 0, fr 5 0 .rw 0 0 63]
  -- Table 10-12
  | .SHB_ID_DATA => [fs 31 0 .ro 0]
  -- Table 10-9
  | .SHB_BAY => [fs 31 28 .ro 0, fs 27 27 .ro 0, fs 26 26 .ro 0, fs 25 25 .ro 0,
      fs 24 24 .rw1c 0, fs 23 22 .ro 0, fs 21 20 .ro 0, fs 19 19 .ro 0,
      fs 18 18 .ro 0, fs 7 0 .ro 0]
  -- Table 10-10
  | .SHB_IND => [fs 2 2 .rw 0, fs 1 0 .rw 0]
  -- Table 10-11
  | .SHB_EVENTS => [fs 10 10 .rw1c 0, fs 9 9 .rw1c 0, fs 8 8 .rw1c 0, fs 7 7 .rw1c 0,
      fs 6 6 .rw1c 0, fs 5 5 .rw1c 0, fs 4 4 .rw1c 0, fs 3 3 .rw1c 0,
      fs 2 2 .rw1c 0, fs 1 1 .rw1c 0, fs 0 0 .rw1c 0]
  -- Table 16-7
  | .PWR_MODE => [fs 11 8 .ro 0, fs 5 5 .ro 0, fs 4 4 .ro 0, fs 3 0 .ro 3]
  -- Table 16-8
  | .PWR_EVENTS => [fs 7 7 .rw1c 0, fs 6 6 .rw1c 0, fs 5 5 .rw1c 0, fs 4 4 .rw1c 0,
      fs 3 3 .rw1c 0, fs 2 2 .rw1c 0, fs 1 1 .rw1c 0, fs 0 0 .rw1c 0]
  -- Table 16-9
  | .PWR_HOLD_CFG => [fr 31 16 .rw 1500 500 10000, fr 15 0 .rw 800 400 4000]
  -- Table 16-9
  | .PWR_HOLD_BANK => [fr 31 24 .rw 100 10 255, fr 23 16 .rw 10 5 20, fr 15 0 .rw 4000 1000 60000]
  -- Table 16-10
  | .PWR_HOLD_LIMITS => [fr 31 16 .rw 100 1 10000, fr 15 8 .rw 24 1 168]
  -- Table 16-10
  | .PWR_HOLD_STATUS => [fs 31 24 .ro 0, fs 19 16 .ro 0, fs 15 8 .ro 0, fs 2 2 .ro 0,
      fs 1 1 .ro 0, fs 0 0 .ro 0]
  -- Table 16-11
  | .PWR_HOLD_E => [fs 31 0 .ro 0]
  -- Table 16-11
  | .PWR_HOLD_ESR => [fs 15 0 .ro 0]
  -- Table 16-11
  | .PWR_STAGING => [fs 31 0 .ro 0]
  -- Table 16-11
  | .PWR_STAGING_USE => [fs 31 0 .ro 0]
  -- Table 16-12
  | .PWR_AVS => [fs 31 16 .ro 0, fs 15 0 .ro 800]
  -- Table 17-7
  | .CTR_STATUS => [fs 31 31 .ro 0, fs 30 30 .ro 0, fs 29 27 .ro 2, fs 26 24 .ro 0,
      fs 23 16 .ro 0, fs 15 0 .ro 0]
  -- Table 17-8
  | .CTR_EVENTS => [fs 10 10 .rw1c 0, fs 9 9 .rw1c 0, fs 8 8 .rw1c 0, fs 7 7 .rw1c 0,
      fs 6 6 .rw1c 0, fs 5 5 .rw1c 0, fs 4 4 .rw1c 0, fs 3 3 .rw1c 0,
      fs 2 2 .rw1c 0, fs 1 1 .rw1c 0, fs 0 0 .rw1c 0]
  -- Table 17-9
  | .CTR_CFG => [fr 31 24 .rw 10 1 255, fr 23 16 .rw 10 1 100, fr 15 8 .rw 10 1 255, fr 7 4 .rw 3 1 15]
  -- Table 17-10
  | .CTR_ROUND => [fs 31 16 .ro 0, fs 15 0 .ro 0]
  -- Table 17-10
  | .CTR_ROUND_CNT => [fs 31 16 .rc 0, fs 15 0 .ro 0]
  -- Table 17-13
  | .CTR_TEMP_WM => [fs 31 16 .rc 0, fs 9 9 .ro 0, fs 8 8 .rw1c 0, fs 7 0 .ro 0]
  -- Table 17-12
  | .CTR_CAL => [fs 15 0 .ro 1024]
  -- Table 17-11
  | .CTR_REGION => [fs 31 16 .ro 0, fs 15 8 .ro 64, fs 7 0 .ro 255]
  -- Table 23-7
  | .CHR_DCS_LAYOUT => [fs 15 0 .ro 4]
  -- Table 19-12
  | .CHR_MGMT_CFG => [fs 8 8 .ro 0, fs 6 0 .ro 0]
  -- Table 19-12
  | .CHR_MGMT_STATUS => [fs 31 24 .ro 0, fs 23 16 .ro 0, fs 15 8 .ro 0, fs 7 4 .ro 0,
      fs 3 0 .ro 0]
  -- Table 19-12
  | .CHR_MGMT_ERR => [fs 31 0 .rc 0]
  -- Table 19-13
  | .CHR_ALERT_STATUS => [fs 3 3 .rw1c 0, fs 2 2 .rw1c 0, fs 1 1 .rw1c 0, fs 0 0 .rw1c 0]
  -- Table 19-13
  | .CHR_ALERT_MASK => [fs 31 16 .rw 88, fs 3 0 .rw 11]
  -- Table 22-18
  | .CHR_PAD_CFG => [fs 7 6 .rw 1, fs 5 4 .rw 1, fs 3 2 .rw 1]
  -- Table 18-11
  | .FLT_PIN_CTL => [fr 15 8 .rw 10 10 255, fs 3 3 .ro 0, fs 2 2 .w1s 0, fs 1 1 .ro 1,
      fs 0 0 .rw 0]
  -- Table 18-12
  | .FLT_INJ_SEL => [fs 31 20 .rw 0, fs 19 8 .rw 0, fs 7 7 .rw 0, fs 3 0 .rw 0]
  -- Table 18-12
  | .FLT_INJ_CTL => [fs 8 8 .wo 0, fr 7 0 .rw 1 1 255]
  -- Table 18-13
  | .FLT_INJ_STATUS => [fs 31 24 .ro 0, fs 2 2 .rw1c 0, fs 1 1 .rw1c 0, fs 0 0 .rw1c 0]
  -- Table 18-10
  | .CHR_LINK_STAT => [fs 31 31 .ro 0, fs 27 16 .rc 0, fs 15 0 .rc 0]
  -- Table 19-7
  | .GAZ_STATUS => [fs 31 31 .ro 0, fs 30 30 .ro 0, fs 27 14 .ro 0, fs 12 0 .ro 0]
  -- Table 19-8
  | .GAZ_SEQ => [fs 31 0 .ro 0]
  -- Table 19-8
  | .GAZ_COUNTS => [fs 31 16 .rc 0, fs 15 0 .rc 0]
  -- Table 19-9
  | .DAT_TIME_LO => [fs 31 0 .ro 0]
  -- Table 19-9
  | .DAT_TIME_HI => [fs 31 31 .ro 0, fs 14 10 .ro 0, fs 9 0 .ro 0]
  -- Table 19-10
  | .DAT_ALARM_LO => [fs 31 0 .ro 0]
  -- Table 19-10
  | .DAT_ALARM_HI => [fs 31 31 .ro 0, fs 9 0 .ro 0]
  -- Table 19-10
  | .DAT_ADJ => [fs 31 31 .ro 0, fs 30 0 .ro 0]
  -- Table 19-11
  | .DAT_EVENTS => [fs 3 3 .rw1c 0, fs 2 2 .rw1c 0, fs 1 1 .rw1c 0, fs 0 0 .rw1c 0]
  -- Table 21-4
  | .SRV_STATUS => [fs 31 31 .ro 0, fs 30 30 .ro 0, fs 18 16 .ro 0, fs 10 0 .ro 0]
  -- Table 21-5
  | .SRV_EVENTS => [fs 7 7 .rw1c 0, fs 6 6 .rw1c 0, fs 5 5 .rw1c 0, fs 4 4 .rw1c 0,
      fs 3 3 .rw1c 0, fs 2 2 .rw1c 0, fs 1 1 .rw1c 0, fs 0 0 .rw1c 0]
  -- Table 21-6
  | .SRV_CFG => [fr 10 8 .rw 4 1 4, fr 4 0 .rw 12 1 23]
  -- Table 21-7
  | .SRV_LAST_UNIT => [fs 31 20 .ro 0, fs 19 8 .ro 0, fs 7 4 .ro 0, fs 3 0 .ro 0]
  -- Table 21-7
  | .SRV_LAST_SIG_LO => [fs 31 0 .ro 0]
  -- Table 21-7
  | .SRV_LAST_SIG_HI => [fs 31 0 .ro 0]
  -- Table 21-7
  | .SRV_FUSES => [fs 25 16 .ro 512, fs 15 0 .ro 0]
  -- Table 20-11
  | .POR_STATUS => [fs 31 31 .ro 0, fs 30 29 .ro 0, fs 28 28 .ro 0, fs 9 0 .ro 0]
  -- Table 20-11
  | .POR_WEAR => [fs 31 16 .ro 0, fs 13 0 .ro 0]
  -- Table 20-12
  | .POR_EVENTS => [fs 5 5 .rw1c 0, fs 4 4 .rw1c 0, fs 3 3 .rw1c 0, fs 2 2 .rw1c 0,
      fs 1 1 .rw1c 0, fs 0 0 .rw1c 0]
  -- Table 20-13
  | .POR_CFG_SEL => [fr 2 0 .rw 0 0 7]
  -- Table 20-13
  | .POR_CFG_DATA => [fs 31 0 .rw 0]
  -- Table 20-13
  | .POR_CFG_CTL => [fs 0 0 .wo 0]
  -- Table 20-14
  | .UPD_BOOT => [fs 31 30 .ro 0, fs 29 29 .ro 0, fs 28 28 .ro 0, fs 27 26 .ro 0,
      fs 25 24 .ro 0]
  -- Table 20-14
  | .UPD_SESSION => [fs 31 31 .ro 0, fs 30 30 .ro 0, fs 29 28 .ro 0, fs 27 26 .ro 0,
      fs 25 21 .ro 0, fs 12 0 .ro 0]
  -- Table 20-15
  | .UPD_SCHED => [fs 31 31 .ro 0, fs 30 30 .ro 0, fs 29 28 .ro 0, fs 15 0 .ro 0]
  -- Table 20-15
  | .UPD_SCHED_GROUP => [fs 31 0 .ro 0]
  -- Table 20-15
  | .UPD_SCHED_LEFT => [fs 31 0 .ro 0]
  -- Table 20-16
  | .UPD_RELAY_CFG => [fs 1 1 .rw 0, fs 0 0 .rw 0]
  -- Table 20-16
  | .UPD_RELAY_STATUS => [fs 31 31 .ro 0, fs 30 30 .ro 0, fs 27 24 .ro 0, fs 23 20 .ro 0,
      fs 19 14 .ro 0, fs 13 0 .ro 0]
  -- Table 20-16
  | .UPD_RELAY_CNT => [fs 31 24 .rc 0, fs 23 16 .rc 0, fs 15 8 .rc 0, fs 7 0 .rc 0]
  -- Table 20-16
  | .UPD_EVENTS => [fs 7 7 .rw1c 0, fs 6 6 .rw1c 0, fs 5 5 .rw1c 0, fs 4 4 .rw1c 0,
      fs 3 3 .rw1c 0, fs 2 2 .rw1c 0, fs 1 1 .rw1c 0, fs 0 0 .rw1c 0]
  -- Table 20-16
  | .UPD_CHAIN_SEL => [fs 5 0 .rw 0]
  -- Table 20-16
  | .UPD_CHAIN_INFO => [fs 31 31 .ro 0, fs 30 30 .ro 0, fs 29 28 .ro 0, fs 27 26 .ro 0,
      fs 25 24 .ro 0]
  -- Table 20-16
  | .UPD_CHAIN_VER => [fs 31 0 .ro 0]
  -- Table 11-10
  | .HST_SENTINEL => [fs 31 16 .ro 32350, fs 15 0 .ro 2]
  -- Table 11-11
  | .HST_FN_INFO => [fs 31 31 .ro 0, fs 30 30 .ro 0, fs 23 20 .ro 0, fs 19 16 .ro 0,
      fs 7 0 .ro 0]
  -- Table 11-12
  | .HST_FN_CTRL => [fs 10 0 .rw 0]
  -- Table 11-13
  | .HST_FN_STATUS => [fs 2 2 .ro 0, fs 1 1 .ro 0, fs 0 0 .ro 0]
  -- Table 11-14
  | .HST_FN_EVENTS => [fs 4 4 .rw1c 0, fs 3 3 .rw1c 0, fs 2 2 .rw1c 0, fs 1 1 .rw1c 0,
      fs 0 0 .rw1c 0]
  -- Table 11-15
  | .HST_LINK => [fs 23 16 .ro 0, fs 12 12 .ro 0, fs 11 8 .ro 0, fs 4 0 .ro 0]
  -- Table 11-16
  | .HST_GAZ_PAGE => [fr 3 0 .rw 0 0 15]
  -- Table 11-16
  | .HST_DCS_WIN => [fs 7 0 .rw 0]
  -- Table 11-17
  | .HST_CLASS_MASK_LO => [fs 31 0 .ro 0]
  -- Table 11-17
  | .HST_CLASS_MASK_HI => [fs 31 0 .ro 0]
  -- Table 11-17
  | .HST_CLASS_DEFAULT => [fs 5 0 .ro 0]
  -- Table 11-18
  | .HST_QCLASS => [fs 31 31 .ro 0, fs 30 30 .ro 0, fs 5 0 .ro 0]
  -- Table 02-8
  | .HST_PROMISE_STATUS => [fs 6 6 .ro 0, fs 5 5 .ro 0, fs 4 4 .ro 0, fs 0 0 .ro 0]
  -- Table 02-9
  | .HST_PROMISE_EVENTS => [fs 7 7 .rw1c 0, fs 6 6 .rw1c 0, fs 5 5 .rw1c 0, fs 4 4 .rw1c 0,
      fs 3 3 .rw1c 0, fs 2 2 .rw1c 1, fs 1 1 .rw1c 0, fs 0 0 .rw1c 0]
  -- Table 02-10
  | .HST_DEADLINE_MISS => [fs 15 0 .rc 0]
  -- Table 13-15
  | .MBX_DOORBELL => [fs 1 1 .wo 0, fs 0 0 .wo 0]
  -- Table 13-16
  | .MBX_STATUS => [fs 20 16 .ro 0, fs 3 3 .ro 0, fs 2 2 .ro 0, fs 1 1 .ro 0,
      fs 0 0 .ro 0]
  -- Table 13-17
  | .MBX_EVENTS => [fs 4 4 .rw1c 1, fs 3 3 .rw1c 0, fs 2 2 .rw1c 0, fs 1 1 .rw1c 0,
      fs 0 0 .rw1c 0]
  -- Table 13-18
  | .MBX_SESSION => [fs 15 8 .ro 3, fs 7 0 .ro 0]

/-- Pool sizes at reset (Table 14-3). -/
def tilePoolReset (p : Nat) : Nat := [1024, 1024, 512, 512, 256, 384, 256, 128].getD p 0

/-- Latency targets at reset, in ns (Table 14-7). -/
def dramTargetReset (p : Nat) : Nat := [400, 2000, 4000, 1000, 600, 500, 5000, 300, 1000, 800, 20000, 7800].getD p 0

/-- The reset values that differ from element to element (Tables 03-16, 03-17, 04-14, 05-13, 09-10, 11-11, 11-16, 11-17,
14-16, 14-22, 17-13) and those another place gives (SRV: none). -/
def Reg.resetOver (r : Reg) (i : Nat) (w : W32) : W32 :=
  match r with
  | .PLT_DIE => putBits w 17 16 ((i % 16) / 4)
  | .PLT_FN => putBits w 23 16 i
  | .ATL_STEER => (List.range 8).foldl (fun u k => putBits u (4 * k + 3) (4 * k) ((8 * i + k) % 16)) w
  | .SVY_FREE_WM => putBits w 7 0 (if i = 0 then 32 else if i = 1 then 16 else 8)
  | .LDP_LANE => putBits w 30 30 (i % 2)
  | .HST_FN_INFO => putBits (putBits (putBits w 7 0 i) 31 31 (if i % 128 = 0 then 1 else 0)) 30 30 (i / 128)
  | .HST_DCS_WIN => putBits w 7 0 (i % 16 - 1)
  | .HST_CLASS_MASK_LO => putBits w 31 0 (if i % 128 = 0 then 0xFFFFFFFF else 3)
  | .HST_CLASS_MASK_HI => putBits w 31 0 (if i % 128 = 0 then 0xFFFFFFFF else 0)
  | .CTR_TEMP_WM => putBits w 7 0 (if i = 0 then 100 else 115)
  | .TIL_POOL_TGT => putBits w 12 0 (tilePoolReset i)
  | .TIL_POOL_STATUS => putBits (putBits w 12 0 (tilePoolReset i)) 28 16 (tilePoolReset i)
  | .DRC_PORT_CFG => putBits w 19 0 (dramTargetReset i)
  | _ => w

/-- A register's word after device reset. -/
def Reg.resetWord (r : Reg) (i : Nat) : W32 :=
  r.resetOver i (r.fields.foldl (fun w f => putBits w f.hi f.lo f.rst) 0#32)

/-- What an unlisted key of the register store reads as: its register's reset word. -/
def regDefault (k : Nat) : W32 :=
  match Reg.all[k % 256]? with
  | some r => r.resetWord (k / 256)
  | none => 0#32

/-- One field of a register, by name. -/
structure Fld where
  reg : Reg
  hi : Nat
  lo : Nat
  deriving DecidableEq, Repr

namespace F
/-- PLT_STATUS.FRAME_LOW, bits 31 to 16. -/
def PLT_STATUS_FRAME_LOW : Fld := ⟨.PLT_STATUS, 31, 16⟩
/-- PLT_STATUS.QUIET_CHANNEL, bits 15 to 9. -/
def PLT_STATUS_QUIET_CHANNEL : Fld := ⟨.PLT_STATUS, 15, 9⟩
/-- PLT_STATUS.QUIET_ACTIVE, bits 8 to 8. -/
def PLT_STATUS_QUIET_ACTIVE : Fld := ⟨.PLT_STATUS, 8, 8⟩
/-- PLT_STATUS.THROTTLE_STEP, bits 6 to 4. -/
def PLT_STATUS_THROTTLE_STEP : Fld := ⟨.PLT_STATUS, 6, 4⟩
/-- PLT_STATUS.DEGRADED_FLOORS, bits 3 to 3. -/
def PLT_STATUS_DEGRADED_FLOORS : Fld := ⟨.PLT_STATUS, 3, 3⟩
/-- PLT_STATUS.DRAIN, bits 1 to 1. -/
def PLT_STATUS_DRAIN : Fld := ⟨.PLT_STATUS, 1, 1⟩
/-- PLT_STATUS.ADMIT_OPEN, bits 0 to 0. -/
def PLT_STATUS_ADMIT_OPEN : Fld := ⟨.PLT_STATUS, 0, 0⟩
/-- PLT_FRAME.COUNT, bits 31 to 0. -/
def PLT_FRAME_COUNT : Fld := ⟨.PLT_FRAME, 31, 0⟩
/-- PLT_EVENTS.FLOORS_CHANGED, bits 5 to 5. -/
def PLT_EVENTS_FLOORS_CHANGED : Fld := ⟨.PLT_EVENTS, 5, 5⟩
/-- PLT_EVENTS.QUIET_DONE, bits 4 to 4. -/
def PLT_EVENTS_QUIET_DONE : Fld := ⟨.PLT_EVENTS, 4, 4⟩
/-- PLT_EVENTS.CFG_ERR, bits 3 to 3. -/
def PLT_EVENTS_CFG_ERR : Fld := ⟨.PLT_EVENTS, 3, 3⟩
/-- PLT_EVENTS.DEBT_OVERRUN, bits 2 to 2. -/
def PLT_EVENTS_DEBT_OVERRUN : Fld := ⟨.PLT_EVENTS, 2, 2⟩
/-- PLT_EVENTS.STALE_DISCARD, bits 1 to 1. -/
def PLT_EVENTS_STALE_DISCARD : Fld := ⟨.PLT_EVENTS, 1, 1⟩
/-- PLT_EVENTS.RECON_EXHAUST, bits 0 to 0. -/
def PLT_EVENTS_RECON_EXHAUST : Fld := ⟨.PLT_EVENTS, 0, 0⟩
/-- PLT_RESERVE.THERMAL_PERMILLE, bits 25 to 16. -/
def PLT_RESERVE_THERMAL_PERMILLE : Fld := ⟨.PLT_RESERVE, 25, 16⟩
/-- PLT_RESERVE.HK_PERMILLE, bits 9 to 0. -/
def PLT_RESERVE_HK_PERMILLE : Fld := ⟨.PLT_RESERVE, 9, 0⟩
/-- PLT_LAGS.DEBT_LAG, bits 15 to 8. -/
def PLT_LAGS_DEBT_LAG : Fld := ⟨.PLT_LAGS, 15, 8⟩
/-- PLT_LAGS.PROG_LAG, bits 7 to 0. -/
def PLT_LAGS_PROG_LAG : Fld := ⟨.PLT_LAGS, 7, 0⟩
/-- PLT_ENVELOPE.TOTAL_TOKENS, bits 15 to 0. -/
def PLT_ENVELOPE_TOTAL_TOKENS : Fld := ⟨.PLT_ENVELOPE, 15, 0⟩
/-- PLT_FLOOR_RD.DETOUR_US, bits 31 to 16. -/
def PLT_FLOOR_RD_DETOUR_US : Fld := ⟨.PLT_FLOOR_RD, 31, 16⟩
/-- PLT_FLOOR_RD.READ_US, bits 15 to 0. -/
def PLT_FLOOR_RD_READ_US : Fld := ⟨.PLT_FLOOR_RD, 15, 0⟩
/-- PLT_FLOOR_WR.FLUSH_US, bits 31 to 16. -/
def PLT_FLOOR_WR_FLUSH_US : Fld := ⟨.PLT_FLOOR_WR, 31, 16⟩
/-- PLT_FLOOR_WR.FUA_US, bits 15 to 0. -/
def PLT_FLOOR_WR_FUA_US : Fld := ⟨.PLT_FLOOR_WR, 15, 0⟩
/-- PLT_STALE.COUNT, bits 31 to 0. -/
def PLT_STALE_COUNT : Fld := ⟨.PLT_STALE, 31, 0⟩
/-- PLT_RECON.EXHAUST_COUNT, bits 31 to 16. -/
def PLT_RECON_EXHAUST_COUNT : Fld := ⟨.PLT_RECON, 31, 16⟩
/-- PLT_RECON.RECON_PERMILLE, bits 9 to 0. -/
def PLT_RECON_RECON_PERMILLE : Fld := ⟨.PLT_RECON, 9, 0⟩
/-- PLT_SHEET_PWR.LADDER_10MA, bits 31 to 16. -/
def PLT_SHEET_PWR_LADDER_10MA : Fld := ⟨.PLT_SHEET_PWR, 31, 16⟩
/-- PLT_SHEET_PWR.SHEET_TOKENS, bits 15 to 0. -/
def PLT_SHEET_PWR_SHEET_TOKENS : Fld := ⟨.PLT_SHEET_PWR, 15, 0⟩
/-- PLT_FN.WAYPOINT, bits 23 to 16. -/
def PLT_FN_WAYPOINT : Fld := ⟨.PLT_FN, 23, 16⟩
/-- PLT_FN.EPOCH, bits 15 to 0. -/
def PLT_FN_EPOCH : Fld := ⟨.PLT_FN, 15, 0⟩
/-- PLT_DIE.CLOSED, bits 19 to 19. -/
def PLT_DIE_CLOSED : Fld := ⟨.PLT_DIE, 19, 19⟩
/-- PLT_DIE.FENCED, bits 18 to 18. -/
def PLT_DIE_FENCED : Fld := ⟨.PLT_DIE, 18, 18⟩
/-- PLT_DIE.OWNER, bits 17 to 16. -/
def PLT_DIE_OWNER : Fld := ⟨.PLT_DIE, 17, 16⟩
/-- PLT_DIE.EPOCH, bits 15 to 0. -/
def PLT_DIE_EPOCH : Fld := ⟨.PLT_DIE, 15, 0⟩
/-- ATL_STATUS.SEG_RECOVERING, bits 31 to 24. -/
def ATL_STATUS_SEG_RECOVERING : Fld := ⟨.ATL_STATUS, 31, 24⟩
/-- ATL_STATUS.JOURNAL_FILL, bits 14 to 8. -/
def ATL_STATUS_JOURNAL_FILL : Fld := ⟨.ATL_STATUS, 14, 8⟩
/-- ATL_STATUS.CKPT_BEHIND, bits 2 to 2. -/
def ATL_STATUS_CKPT_BEHIND : Fld := ⟨.ATL_STATUS, 2, 2⟩
/-- ATL_STATUS.SWEEP_PENDING, bits 1 to 1. -/
def ATL_STATUS_SWEEP_PENDING : Fld := ⟨.ATL_STATUS, 1, 1⟩
/-- ATL_STATUS.MAP_READY, bits 0 to 0. -/
def ATL_STATUS_MAP_READY : Fld := ⟨.ATL_STATUS, 0, 0⟩
/-- ATL_EVENTS.CFG_ERR, bits 6 to 6. -/
def ATL_EVENTS_CFG_ERR : Fld := ⟨.ATL_EVENTS, 6, 6⟩
/-- ATL_EVENTS.STATE_INVALID, bits 5 to 5. -/
def ATL_EVENTS_STATE_INVALID : Fld := ⟨.ATL_EVENTS, 5, 5⟩
/-- ATL_EVENTS.SEG_UE, bits 4 to 4. -/
def ATL_EVENTS_SEG_UE : Fld := ⟨.ATL_EVENTS, 4, 4⟩
/-- ATL_EVENTS.ENGINE_FENCED, bits 3 to 3. -/
def ATL_EVENTS_ENGINE_FENCED : Fld := ⟨.ATL_EVENTS, 3, 3⟩
/-- ATL_EVENTS.CKPT_LATE, bits 2 to 2. -/
def ATL_EVENTS_CKPT_LATE : Fld := ⟨.ATL_EVENTS, 2, 2⟩
/-- ATL_EVENTS.RECOVERY_DONE, bits 0 to 0. -/
def ATL_EVENTS_RECOVERY_DONE : Fld := ⟨.ATL_EVENTS, 0, 0⟩
/-- ATL_CTRL.CKPT_PASS_S, bits 31 to 24. -/
def ATL_CTRL_CKPT_PASS_S : Fld := ⟨.ATL_CTRL, 31, 24⟩
/-- ATL_CTRL.DIRTY_MAX_MS, bits 23 to 16. -/
def ATL_CTRL_DIRTY_MAX_MS : Fld := ⟨.ATL_CTRL, 23, 16⟩
/-- ATL_CTRL.ASSEMBLY_US, bits 9 to 0. -/
def ATL_CTRL_ASSEMBLY_US : Fld := ⟨.ATL_CTRL, 9, 0⟩
/-- ATL_JRNL_WM.COUNT, bits 31 to 16. -/
def ATL_JRNL_WM_COUNT : Fld := ⟨.ATL_JRNL_WM, 31, 16⟩
/-- ATL_JRNL_WM.ABOVE, bits 9 to 9. -/
def ATL_JRNL_WM_ABOVE : Fld := ⟨.ATL_JRNL_WM, 9, 9⟩
/-- ATL_JRNL_WM.CROSSED, bits 8 to 8. -/
def ATL_JRNL_WM_CROSSED : Fld := ⟨.ATL_JRNL_WM, 8, 8⟩
/-- ATL_JRNL_WM.LEVEL_PCT, bits 6 to 0. -/
def ATL_JRNL_WM_LEVEL_PCT : Fld := ⟨.ATL_JRNL_WM, 6, 0⟩
/-- ATL_JSEQ_LO.JSEQ, bits 31 to 0. -/
def ATL_JSEQ_LO_JSEQ : Fld := ⟨.ATL_JSEQ_LO, 31, 0⟩
/-- ATL_CAS_FAIL.COUNT, bits 31 to 0. -/
def ATL_CAS_FAIL_COUNT : Fld := ⟨.ATL_CAS_FAIL, 31, 0⟩
/-- ATL_UCODE_VER.ROM_VER, bits 31 to 24. -/
def ATL_UCODE_VER_ROM_VER : Fld := ⟨.ATL_UCODE_VER, 31, 24⟩
/-- ATL_UCODE_VER.PATCH_VER, bits 23 to 16. -/
def ATL_UCODE_VER_PATCH_VER : Fld := ⟨.ATL_UCODE_VER, 23, 16⟩
/-- ATL_UCODE_VER.LOCKED, bits 15 to 15. -/
def ATL_UCODE_VER_LOCKED : Fld := ⟨.ATL_UCODE_VER, 15, 15⟩
/-- ATL_UCODE_VER.PATCH_SKIPPED, bits 14 to 14. -/
def ATL_UCODE_VER_PATCH_SKIPPED : Fld := ⟨.ATL_UCODE_VER, 14, 14⟩
/-- ATL_UCODE_VER.SLOT, bits 13 to 12. -/
def ATL_UCODE_VER_SLOT : Fld := ⟨.ATL_UCODE_VER, 13, 12⟩
/-- ATL_UCODE_VER.IMAGE_BUILD, bits 11 to 0. -/
def ATL_UCODE_VER_IMAGE_BUILD : Fld := ⟨.ATL_UCODE_VER, 11, 0⟩
/-- ATL_STEER.SLOT_0, bits 3 to 0. -/
def ATL_STEER_SLOT_0 : Fld := ⟨.ATL_STEER, 3, 0⟩
/-- ATL_STEER.SLOT_1, bits 7 to 4. -/
def ATL_STEER_SLOT_1 : Fld := ⟨.ATL_STEER, 7, 4⟩
/-- ATL_STEER.SLOT_2, bits 11 to 8. -/
def ATL_STEER_SLOT_2 : Fld := ⟨.ATL_STEER, 11, 8⟩
/-- ATL_STEER.SLOT_3, bits 15 to 12. -/
def ATL_STEER_SLOT_3 : Fld := ⟨.ATL_STEER, 15, 12⟩
/-- ATL_STEER.SLOT_4, bits 19 to 16. -/
def ATL_STEER_SLOT_4 : Fld := ⟨.ATL_STEER, 19, 16⟩
/-- ATL_STEER.SLOT_5, bits 23 to 20. -/
def ATL_STEER_SLOT_5 : Fld := ⟨.ATL_STEER, 23, 20⟩
/-- ATL_STEER.SLOT_6, bits 27 to 24. -/
def ATL_STEER_SLOT_6 : Fld := ⟨.ATL_STEER, 27, 24⟩
/-- ATL_STEER.SLOT_7, bits 31 to 28. -/
def ATL_STEER_SLOT_7 : Fld := ⟨.ATL_STEER, 31, 28⟩
/-- ATL_POOL.VALID, bits 31 to 31. -/
def ATL_POOL_VALID : Fld := ⟨.ATL_POOL, 31, 31⟩
/-- ATL_POOL.IU_4K, bits 30 to 30. -/
def ATL_POOL_IU_4K : Fld := ⟨.ATL_POOL, 30, 30⟩
/-- ATL_POOL.DRAM_MASK, bits 27 to 16. -/
def ATL_POOL_DRAM_MASK : Fld := ⟨.ATL_POOL, 27, 16⟩
/-- ATL_POOL.MAP_GIB, bits 11 to 0. -/
def ATL_POOL_MAP_GIB : Fld := ⟨.ATL_POOL, 11, 0⟩
/-- ATL_ENG.FENCED, bits 31 to 31. -/
def ATL_ENG_FENCED : Fld := ⟨.ATL_ENG, 31, 31⟩
/-- ATL_ENG.EVICTING, bits 18 to 16. -/
def ATL_ENG_EVICTING : Fld := ⟨.ATL_ENG, 18, 16⟩
/-- ATL_ENG.DIRTY, bits 15 to 8. -/
def ATL_ENG_DIRTY : Fld := ⟨.ATL_ENG, 15, 8⟩
/-- ATL_ENG.HELD, bits 7 to 0. -/
def ATL_ENG_HELD : Fld := ⟨.ATL_ENG, 7, 0⟩
/-- SVY_MEDIA_STATUS.URGENCY_MAX, bits 31 to 30. -/
def SVY_MEDIA_STATUS_URGENCY_MAX : Fld := ⟨.SVY_MEDIA_STATUS, 31, 30⟩
/-- SVY_MEDIA_STATUS.WRITES_STOPPED, bits 29 to 29. -/
def SVY_MEDIA_STATUS_WRITES_STOPPED : Fld := ⟨.SVY_MEDIA_STATUS, 29, 29⟩
/-- SVY_MEDIA_STATUS.SCAN_BACKLOG, bits 28 to 28. -/
def SVY_MEDIA_STATUS_SCAN_BACKLOG : Fld := ⟨.SVY_MEDIA_STATUS, 28, 28⟩
/-- SVY_MEDIA_STATUS.MIN_FREE, bits 17 to 0. -/
def SVY_MEDIA_STATUS_MIN_FREE : Fld := ⟨.SVY_MEDIA_STATUS, 17, 0⟩
/-- SVY_MEDIA_EVENTS.CFG_ERR, bits 6 to 6. -/
def SVY_MEDIA_EVENTS_CFG_ERR : Fld := ⟨.SVY_MEDIA_EVENTS, 6, 6⟩
/-- SVY_MEDIA_EVENTS.WRITES_STOPPED, bits 5 to 5. -/
def SVY_MEDIA_EVENTS_WRITES_STOPPED : Fld := ⟨.SVY_MEDIA_EVENTS, 5, 5⟩
/-- SVY_MEDIA_EVENTS.DIE_FENCED, bits 4 to 4. -/
def SVY_MEDIA_EVENTS_DIE_FENCED : Fld := ⟨.SVY_MEDIA_EVENTS, 4, 4⟩
/-- SVY_MEDIA_EVENTS.BAND_RETIRED, bits 3 to 3. -/
def SVY_MEDIA_EVENTS_BAND_RETIRED : Fld := ⟨.SVY_MEDIA_EVENTS, 3, 3⟩
/-- SVY_MEDIA_EVENTS.GBB, bits 2 to 2. -/
def SVY_MEDIA_EVENTS_GBB : Fld := ⟨.SVY_MEDIA_EVENTS, 2, 2⟩
/-- SVY_MEDIA_EVENTS.RETENTION_REFRESH, bits 1 to 1. -/
def SVY_MEDIA_EVENTS_RETENTION_REFRESH : Fld := ⟨.SVY_MEDIA_EVENTS, 1, 1⟩
/-- SVY_MEDIA_EVENTS.READ_REFRESH, bits 0 to 0. -/
def SVY_MEDIA_EVENTS_READ_REFRESH : Fld := ⟨.SVY_MEDIA_EVENTS, 0, 0⟩
/-- SVY_GC_CFG.WA_WINDOW_S, bits 23 to 16. -/
def SVY_GC_CFG_WA_WINDOW_S : Fld := ⟨.SVY_GC_CFG, 23, 16⟩
/-- SVY_GC_CFG.A_MAX, bits 15 to 8. -/
def SVY_GC_CFG_A_MAX : Fld := ⟨.SVY_GC_CFG, 15, 8⟩
/-- SVY_GC_CFG.AGE_SCALE_H, bits 7 to 0. -/
def SVY_GC_CFG_AGE_SCALE_H : Fld := ⟨.SVY_GC_CFG, 7, 0⟩
/-- SVY_WA.A_MEAS, bits 31 to 16. -/
def SVY_WA_A_MEAS : Fld := ⟨.SVY_WA, 31, 16⟩
/-- SVY_WA.A_BOOKED, bits 15 to 0. -/
def SVY_WA_A_BOOKED : Fld := ⟨.SVY_WA, 15, 0⟩
/-- SVY_UPKEEP_CFG.SPARE_PERMILLE, bits 25 to 16. -/
def SVY_UPKEEP_CFG_SPARE_PERMILLE : Fld := ⟨.SVY_UPKEEP_CFG, 25, 16⟩
/-- SVY_UPKEEP_CFG.GBB_FENCE_PCT, bits 12 to 8. -/
def SVY_UPKEEP_CFG_GBB_FENCE_PCT : Fld := ⟨.SVY_UPKEEP_CFG, 12, 8⟩
/-- SVY_UPKEEP_CFG.RETENTION_DAYS, bits 7 to 0. -/
def SVY_UPKEEP_CFG_RETENTION_DAYS : Fld := ⟨.SVY_UPKEEP_CFG, 7, 0⟩
/-- SVY_SCAN_CFG.SCAN_MAX, bits 7 to 0. -/
def SVY_SCAN_CFG_SCAN_MAX : Fld := ⟨.SVY_SCAN_CFG, 7, 0⟩
/-- SVY_REFRESH_Q.DEPTH, bits 23 to 0. -/
def SVY_REFRESH_Q_DEPTH : Fld := ⟨.SVY_REFRESH_Q, 23, 0⟩
/-- SVY_POISON_TBL.FULL, bits 31 to 31. -/
def SVY_POISON_TBL_FULL : Fld := ⟨.SVY_POISON_TBL, 31, 31⟩
/-- SVY_POISON_TBL.USED, bits 20 to 0. -/
def SVY_POISON_TBL_USED : Fld := ⟨.SVY_POISON_TBL, 20, 0⟩
/-- SVY_FREE_WM.COUNT, bits 31 to 16. -/
def SVY_FREE_WM_COUNT : Fld := ⟨.SVY_FREE_WM, 31, 16⟩
/-- SVY_FREE_WM.ABOVE, bits 9 to 9. -/
def SVY_FREE_WM_ABOVE : Fld := ⟨.SVY_FREE_WM, 9, 9⟩
/-- SVY_FREE_WM.CROSSED, bits 8 to 8. -/
def SVY_FREE_WM_CROSSED : Fld := ⟨.SVY_FREE_WM, 8, 8⟩
/-- SVY_FREE_WM.LEVEL, bits 7 to 0. -/
def SVY_FREE_WM_LEVEL : Fld := ⟨.SVY_FREE_WM, 7, 0⟩
/-- SVY_GROUP.URGENCY, bits 31 to 30. -/
def SVY_GROUP_URGENCY : Fld := ⟨.SVY_GROUP, 31, 30⟩
/-- SVY_GROUP.FREE_BANDS, bits 17 to 0. -/
def SVY_GROUP_FREE_BANDS : Fld := ⟨.SVY_GROUP, 17, 0⟩
/-- TIL_CTRL.APPLY, bits 0 to 0. -/
def TIL_CTRL_APPLY : Fld := ⟨.TIL_CTRL, 0, 0⟩
/-- TIL_STATUS.RESIZING, bits 31 to 31. -/
def TIL_STATUS_RESIZING : Fld := ⟨.TIL_STATUS, 31, 31⟩
/-- TIL_STATUS.RETIRED, bits 28 to 16. -/
def TIL_STATUS_RETIRED : Fld := ⟨.TIL_STATUS, 28, 16⟩
/-- TIL_STATUS.FREE, bits 12 to 0. -/
def TIL_STATUS_FREE : Fld := ⟨.TIL_STATUS, 12, 0⟩
/-- TIL_EVENTS.RESIZE_DONE, bits 5 to 5. -/
def TIL_EVENTS_RESIZE_DONE : Fld := ⟨.TIL_EVENTS, 5, 5⟩
/-- TIL_EVENTS.CFG_ERR, bits 4 to 4. -/
def TIL_EVENTS_CFG_ERR : Fld := ⟨.TIL_EVENTS, 4, 4⟩
/-- TIL_EVENTS.REF_OVERFLOW, bits 3 to 3. -/
def TIL_EVENTS_REF_OVERFLOW : Fld := ⟨.TIL_EVENTS, 3, 3⟩
/-- TIL_EVENTS.REL_UNDERFLOW, bits 2 to 2. -/
def TIL_EVENTS_REL_UNDERFLOW : Fld := ⟨.TIL_EVENTS, 2, 2⟩
/-- TIL_EVENTS.SRAM_UE, bits 1 to 1. -/
def TIL_EVENTS_SRAM_UE : Fld := ⟨.TIL_EVENTS, 1, 1⟩
/-- TIL_EVENTS.LIST_REBUILT, bits 0 to 0. -/
def TIL_EVENTS_LIST_REBUILT : Fld := ⟨.TIL_EVENTS, 0, 0⟩
/-- TIL_ROUTE.POOL_0, bits 2 to 0. -/
def TIL_ROUTE_POOL_0 : Fld := ⟨.TIL_ROUTE, 2, 0⟩
/-- TIL_ROUTE.POOL_1, bits 6 to 4. -/
def TIL_ROUTE_POOL_1 : Fld := ⟨.TIL_ROUTE, 6, 4⟩
/-- TIL_ROUTE.POOL_2, bits 10 to 8. -/
def TIL_ROUTE_POOL_2 : Fld := ⟨.TIL_ROUTE, 10, 8⟩
/-- TIL_ROUTE.POOL_3, bits 14 to 12. -/
def TIL_ROUTE_POOL_3 : Fld := ⟨.TIL_ROUTE, 14, 12⟩
/-- TIL_ROUTE.POOL_4, bits 18 to 16. -/
def TIL_ROUTE_POOL_4 : Fld := ⟨.TIL_ROUTE, 18, 16⟩
/-- TIL_ROUTE.POOL_5, bits 22 to 20. -/
def TIL_ROUTE_POOL_5 : Fld := ⟨.TIL_ROUTE, 22, 20⟩
/-- TIL_ROUTE.POOL_6, bits 26 to 24. -/
def TIL_ROUTE_POOL_6 : Fld := ⟨.TIL_ROUTE, 26, 24⟩
/-- TIL_ROUTE.POOL_7, bits 30 to 28. -/
def TIL_ROUTE_POOL_7 : Fld := ⟨.TIL_ROUTE, 30, 28⟩
/-- TIL_ECC.UE, bits 31 to 16. -/
def TIL_ECC_UE : Fld := ⟨.TIL_ECC, 31, 16⟩
/-- TIL_ECC.CE, bits 15 to 0. -/
def TIL_ECC_CE : Fld := ⟨.TIL_ECC, 15, 0⟩
/-- TIL_POOL_TGT.TARGET, bits 12 to 0. -/
def TIL_POOL_TGT_TARGET : Fld := ⟨.TIL_POOL_TGT, 12, 0⟩
/-- TIL_POOL_STATUS.FREE, bits 28 to 16. -/
def TIL_POOL_STATUS_FREE : Fld := ⟨.TIL_POOL_STATUS, 28, 16⟩
/-- TIL_POOL_STATUS.SIZE, bits 12 to 0. -/
def TIL_POOL_STATUS_SIZE : Fld := ⟨.TIL_POOL_STATUS, 12, 0⟩
/-- TIL_POOL_RES.IN_USE, bits 28 to 16. -/
def TIL_POOL_RES_IN_USE : Fld := ⟨.TIL_POOL_RES, 28, 16⟩
/-- TIL_POOL_RES.RESERVED, bits 12 to 0. -/
def TIL_POOL_RES_RESERVED : Fld := ⟨.TIL_POOL_RES, 12, 0⟩
/-- TIL_POOL_WM.COUNT, bits 31 to 16. -/
def TIL_POOL_WM_COUNT : Fld := ⟨.TIL_POOL_WM, 31, 16⟩
/-- TIL_POOL_WM.ABOVE, bits 14 to 14. -/
def TIL_POOL_WM_ABOVE : Fld := ⟨.TIL_POOL_WM, 14, 14⟩
/-- TIL_POOL_WM.CROSSED, bits 13 to 13. -/
def TIL_POOL_WM_CROSSED : Fld := ⟨.TIL_POOL_WM, 13, 13⟩
/-- TIL_POOL_WM.LEVEL, bits 12 to 0. -/
def TIL_POOL_WM_LEVEL : Fld := ⟨.TIL_POOL_WM, 12, 0⟩
/-- DRC_CFG.GIB_PER_CH, bits 23 to 16. -/
def DRC_CFG_GIB_PER_CH : Fld := ⟨.DRC_CFG, 23, 16⟩
/-- DRC_CFG.RANKS, bits 9 to 8. -/
def DRC_CFG_RANKS : Fld := ⟨.DRC_CFG, 9, 8⟩
/-- DRC_CFG.WIDTH, bits 7 to 6. -/
def DRC_CFG_WIDTH : Fld := ⟨.DRC_CFG, 7, 6⟩
/-- DRC_CFG.RATE, bits 3 to 0. -/
def DRC_CFG_RATE : Fld := ⟨.DRC_CFG, 3, 0⟩
/-- DRC_PORT_CFG.TARGET_NS, bits 19 to 0. -/
def DRC_PORT_CFG_TARGET_NS : Fld := ⟨.DRC_PORT_CFG, 19, 0⟩
/-- DRC_PORT_STATUS.URGENCY_MAX, bits 31 to 30. -/
def DRC_PORT_STATUS_URGENCY_MAX : Fld := ⟨.DRC_PORT_STATUS, 31, 30⟩
/-- DRC_PORT_STATUS.L3_COUNT, bits 15 to 0. -/
def DRC_PORT_STATUS_L3_COUNT : Fld := ⟨.DRC_PORT_STATUS, 15, 0⟩
/-- DRC_CH_STATUS.FENCED, bits 31 to 31. -/
def DRC_CH_STATUS_FENCED : Fld := ⟨.DRC_CH_STATUS, 31, 31⟩
/-- DRC_CH_STATUS.TRAINED, bits 30 to 30. -/
def DRC_CH_STATUS_TRAINED : Fld := ⟨.DRC_CH_STATUS, 30, 30⟩
/-- DRC_CH_STATUS.HIGH_TEMP, bits 29 to 29. -/
def DRC_CH_STATUS_HIGH_TEMP : Fld := ⟨.DRC_CH_STATUS, 29, 29⟩
/-- DRC_CH_STATUS.REGIONS_FENCED, bits 9 to 0. -/
def DRC_CH_STATUS_REGIONS_FENCED : Fld := ⟨.DRC_CH_STATUS, 9, 0⟩
/-- DRC_CH_EVENTS.REF_FORCED, bits 4 to 4. -/
def DRC_CH_EVENTS_REF_FORCED : Fld := ⟨.DRC_CH_EVENTS, 4, 4⟩
/-- DRC_CH_EVENTS.CFG_ERR, bits 3 to 3. -/
def DRC_CH_EVENTS_CFG_ERR : Fld := ⟨.DRC_CH_EVENTS, 3, 3⟩
/-- DRC_CH_EVENTS.CH_FENCED, bits 2 to 2. -/
def DRC_CH_EVENTS_CH_FENCED : Fld := ⟨.DRC_CH_EVENTS, 2, 2⟩
/-- DRC_CH_EVENTS.REGION_FENCED, bits 1 to 1. -/
def DRC_CH_EVENTS_REGION_FENCED : Fld := ⟨.DRC_CH_EVENTS, 1, 1⟩
/-- DRC_CH_EVENTS.UE, bits 0 to 0. -/
def DRC_CH_EVENTS_UE : Fld := ⟨.DRC_CH_EVENTS, 0, 0⟩
/-- DRC_CH_ECC.UE, bits 31 to 16. -/
def DRC_CH_ECC_UE : Fld := ⟨.DRC_CH_ECC, 31, 16⟩
/-- DRC_CH_ECC.CE, bits 15 to 0. -/
def DRC_CH_ECC_CE : Fld := ⟨.DRC_CH_ECC, 15, 0⟩
/-- DRC_UE_ADDR.PORT, bits 31 to 28. -/
def DRC_UE_ADDR_PORT : Fld := ⟨.DRC_UE_ADDR, 31, 28⟩
/-- DRC_UE_ADDR.ADDR, bits 27 to 0. -/
def DRC_UE_ADDR_ADDR : Fld := ⟨.DRC_UE_ADDR, 27, 0⟩
/-- CIP_STATUS.LANES_UP, bits 21 to 16. -/
def CIP_STATUS_LANES_UP : Fld := ⟨.CIP_STATUS, 21, 16⟩
/-- CIP_STATUS.KAPPA_PERMILLE, bits 9 to 0. -/
def CIP_STATUS_KAPPA_PERMILLE : Fld := ⟨.CIP_STATUS, 9, 0⟩
/-- CIP_EVENTS.DERATED, bits 4 to 4. -/
def CIP_EVENTS_DERATED : Fld := ⟨.CIP_EVENTS, 4, 4⟩
/-- CIP_EVENTS.GEN_TRIAL, bits 3 to 3. -/
def CIP_EVENTS_GEN_TRIAL : Fld := ⟨.CIP_EVENTS, 3, 3⟩
/-- CIP_EVENTS.META_UNTRUSTED, bits 2 to 2. -/
def CIP_EVENTS_META_UNTRUSTED : Fld := ⟨.CIP_EVENTS, 2, 2⟩
/-- CIP_EVENTS.SEALED_AUTH_FAIL, bits 1 to 1. -/
def CIP_EVENTS_SEALED_AUTH_FAIL : Fld := ⟨.CIP_EVENTS, 1, 1⟩
/-- CIP_EVENTS.LANE_FENCED, bits 0 to 0. -/
def CIP_EVENTS_LANE_FENCED : Fld := ⟨.CIP_EVENTS, 0, 0⟩
/-- CIP_CNT_AUTH.META, bits 31 to 16. -/
def CIP_CNT_AUTH_META : Fld := ⟨.CIP_CNT_AUTH, 31, 16⟩
/-- CIP_CNT_AUTH.SEALED, bits 15 to 0. -/
def CIP_CNT_AUTH_SEALED : Fld := ⟨.CIP_CNT_AUTH, 15, 0⟩
/-- CIP_UCODE_VER.ROM_VER, bits 31 to 24. -/
def CIP_UCODE_VER_ROM_VER : Fld := ⟨.CIP_UCODE_VER, 31, 24⟩
/-- CIP_UCODE_VER.PATCH_VER, bits 23 to 16. -/
def CIP_UCODE_VER_PATCH_VER : Fld := ⟨.CIP_UCODE_VER, 23, 16⟩
/-- CIP_UCODE_VER.LOCKED, bits 15 to 15. -/
def CIP_UCODE_VER_LOCKED : Fld := ⟨.CIP_UCODE_VER, 15, 15⟩
/-- CIP_UCODE_VER.PATCH_SKIPPED, bits 14 to 14. -/
def CIP_UCODE_VER_PATCH_SKIPPED : Fld := ⟨.CIP_UCODE_VER, 14, 14⟩
/-- CIP_UCODE_VER.SLOT, bits 13 to 12. -/
def CIP_UCODE_VER_SLOT : Fld := ⟨.CIP_UCODE_VER, 13, 12⟩
/-- CIP_UCODE_VER.IMAGE_BUILD, bits 11 to 0. -/
def CIP_UCODE_VER_IMAGE_BUILD : Fld := ⟨.CIP_UCODE_VER, 11, 0⟩
/-- CIP_LANE.FENCED, bits 31 to 31. -/
def CIP_LANE_FENCED : Fld := ⟨.CIP_LANE, 31, 31⟩
/-- CIP_LANE.QUEUED, bits 7 to 0. -/
def CIP_LANE_QUEUED : Fld := ⟨.CIP_LANE, 7, 0⟩
/-- LEG_STATUS.ACCESS_OPEN, bits 31 to 31. -/
def LEG_STATUS_ACCESS_OPEN : Fld := ⟨.LEG_STATUS, 31, 31⟩
/-- LEG_STATUS.LOCKED_OUT, bits 30 to 30. -/
def LEG_STATUS_LOCKED_OUT : Fld := ⟨.LEG_STATUS, 30, 30⟩
/-- LEG_STATUS.OWNER_KEY, bits 29 to 29. -/
def LEG_STATUS_OWNER_KEY : Fld := ⟨.LEG_STATUS, 29, 29⟩
/-- LEG_STATUS.OWNER_PW, bits 28 to 28. -/
def LEG_STATUS_OWNER_PW : Fld := ⟨.LEG_STATUS, 28, 28⟩
/-- LEG_STATUS.FAILURES, bits 27 to 24. -/
def LEG_STATUS_FAILURES : Fld := ⟨.LEG_STATUS, 27, 24⟩
/-- LEG_STATUS.SLOTS_FENCED, bits 10 to 0. -/
def LEG_STATUS_SLOTS_FENCED : Fld := ⟨.LEG_STATUS, 10, 0⟩
/-- LEG_EVENTS.REKEY_DONE, bits 4 to 4. -/
def LEG_EVENTS_REKEY_DONE : Fld := ⟨.LEG_EVENTS, 4, 4⟩
/-- LEG_EVENTS.BAD_AUTH, bits 3 to 3. -/
def LEG_EVENTS_BAD_AUTH : Fld := ⟨.LEG_EVENTS, 3, 3⟩
/-- LEG_EVENTS.LOCKOUT, bits 2 to 2. -/
def LEG_EVENTS_LOCKOUT : Fld := ⟨.LEG_EVENTS, 2, 2⟩
/-- LEG_EVENTS.UNLOCKED, bits 1 to 1. -/
def LEG_EVENTS_UNLOCKED : Fld := ⟨.LEG_EVENTS, 1, 1⟩
/-- LEG_EVENTS.SLOT_FENCED, bits 0 to 0. -/
def LEG_EVENTS_SLOT_FENCED : Fld := ⟨.LEG_EVENTS, 0, 0⟩
/-- LEG_SLOT_SEL.SLOT, bits 9 to 0. -/
def LEG_SLOT_SEL_SLOT : Fld := ⟨.LEG_SLOT_SEL, 9, 0⟩
/-- LEG_SLOT_INFO.STATE, bits 31 to 30. -/
def LEG_SLOT_INFO_STATE : Fld := ⟨.LEG_SLOT_INFO, 31, 30⟩
/-- LEG_SLOT_INFO.KIND, bits 29 to 29. -/
def LEG_SLOT_INFO_KIND : Fld := ⟨.LEG_SLOT_INFO, 29, 29⟩
/-- LEG_SLOT_INFO.SHADOW, bits 28 to 28. -/
def LEG_SLOT_INFO_SHADOW : Fld := ⟨.LEG_SLOT_INFO, 28, 28⟩
/-- LEG_SLOT_INFO.OWNER, bits 23 to 16. -/
def LEG_SLOT_INFO_OWNER : Fld := ⟨.LEG_SLOT_INFO, 23, 16⟩
/-- LEG_SLOT_INFO.GENERATION, bits 15 to 0. -/
def LEG_SLOT_INFO_GENERATION : Fld := ⟨.LEG_SLOT_INFO, 15, 0⟩
/-- LEG_SLOT_NS.NSID, bits 31 to 0. -/
def LEG_SLOT_NS_NSID : Fld := ⟨.LEG_SLOT_NS, 31, 0⟩
/-- LEG_LOCKOUT.REMAIN_S, bits 11 to 0. -/
def LEG_LOCKOUT_REMAIN_S : Fld := ⟨.LEG_LOCKOUT, 11, 0⟩
/-- PAR_STATUS.LAYOUT_GEN, bits 31 to 16. -/
def PAR_STATUS_LAYOUT_GEN : Fld := ⟨.PAR_STATUS, 31, 16⟩
/-- PAR_STATUS.ENG_FENCED, bits 15 to 8. -/
def PAR_STATUS_ENG_FENCED : Fld := ⟨.PAR_STATUS, 15, 8⟩
/-- PAR_STATUS.EVAC_ACTIVE, bits 4 to 4. -/
def PAR_STATUS_EVAC_ACTIVE : Fld := ⟨.PAR_STATUS, 4, 4⟩
/-- PAR_STATUS.SPARE_ZERO, bits 3 to 3. -/
def PAR_STATUS_SPARE_ZERO : Fld := ⟨.PAR_STATUS, 3, 3⟩
/-- PAR_STATUS.SWEEP_ACTIVE, bits 2 to 2. -/
def PAR_STATUS_SWEEP_ACTIVE : Fld := ⟨.PAR_STATUS, 2, 2⟩
/-- PAR_STATUS.SLOTS_EMPTY, bits 1 to 1. -/
def PAR_STATUS_SLOTS_EMPTY : Fld := ⟨.PAR_STATUS, 1, 1⟩
/-- PAR_STATUS.REPLAY_DONE, bits 0 to 0. -/
def PAR_STATUS_REPLAY_DONE : Fld := ⟨.PAR_STATUS, 0, 0⟩
/-- PAR_EVENTS.CFG_ERR, bits 9 to 9. -/
def PAR_EVENTS_CFG_ERR : Fld := ⟨.PAR_EVENTS, 9, 9⟩
/-- PAR_EVENTS.LIST_FULL, bits 8 to 8. -/
def PAR_EVENTS_LIST_FULL : Fld := ⟨.PAR_EVENTS, 8, 8⟩
/-- PAR_EVENTS.NO_PARITY_REPLAY, bits 7 to 7. -/
def PAR_EVENTS_NO_PARITY_REPLAY : Fld := ⟨.PAR_EVENTS, 7, 7⟩
/-- PAR_EVENTS.JRNL_CORRUPT, bits 6 to 6. -/
def PAR_EVENTS_JRNL_CORRUPT : Fld := ⟨.PAR_EVENTS, 6, 6⟩
/-- PAR_EVENTS.EVAC_DONE, bits 5 to 5. -/
def PAR_EVENTS_EVAC_DONE : Fld := ⟨.PAR_EVENTS, 5, 5⟩
/-- PAR_EVENTS.RESHAPE_RESTART, bits 4 to 4. -/
def PAR_EVENTS_RESHAPE_RESTART : Fld := ⟨.PAR_EVENTS, 4, 4⟩
/-- PAR_EVENTS.RESHAPE_DONE, bits 3 to 3. -/
def PAR_EVENTS_RESHAPE_DONE : Fld := ⟨.PAR_EVENTS, 3, 3⟩
/-- PAR_EVENTS.SHORT_STRIPE, bits 2 to 2. -/
def PAR_EVENTS_SHORT_STRIPE : Fld := ⟨.PAR_EVENTS, 2, 2⟩
/-- PAR_EVENTS.SECOND_ERASURE, bits 1 to 1. -/
def PAR_EVENTS_SECOND_ERASURE : Fld := ⟨.PAR_EVENTS, 1, 1⟩
/-- PAR_EVENTS.LOST_STRIPE, bits 0 to 0. -/
def PAR_EVENTS_LOST_STRIPE : Fld := ⟨.PAR_EVENTS, 0, 0⟩
/-- PAR_CTRL.RESHAPE_PERMILLE, bits 25 to 16. -/
def PAR_CTRL_RESHAPE_PERMILLE : Fld := ⟨.PAR_CTRL, 25, 16⟩
/-- PAR_CTRL.RESHAPE_WINDOW, bits 10 to 8. -/
def PAR_CTRL_RESHAPE_WINDOW : Fld := ⟨.PAR_CTRL, 10, 8⟩
/-- PAR_CTRL.STRIPES_IN_FLIGHT, bits 3 to 0. -/
def PAR_CTRL_STRIPES_IN_FLIGHT : Fld := ⟨.PAR_CTRL, 3, 0⟩
/-- PAR_FRONTIER.BAND, bits 23 to 0. -/
def PAR_FRONTIER_BAND : Fld := ⟨.PAR_FRONTIER, 23, 0⟩
/-- PAR_SHEETS.USABLE, bits 31 to 16. -/
def PAR_SHEETS_USABLE : Fld := ⟨.PAR_SHEETS, 31, 16⟩
/-- PAR_SHEETS.PRESENT, bits 15 to 0. -/
def PAR_SHEETS_PRESENT : Fld := ⟨.PAR_SHEETS, 15, 0⟩
/-- PAR_JRNL_WM.COUNT, bits 31 to 16. -/
def PAR_JRNL_WM_COUNT : Fld := ⟨.PAR_JRNL_WM, 31, 16⟩
/-- PAR_JRNL_WM.ABOVE, bits 9 to 9. -/
def PAR_JRNL_WM_ABOVE : Fld := ⟨.PAR_JRNL_WM, 9, 9⟩
/-- PAR_JRNL_WM.CROSSED, bits 8 to 8. -/
def PAR_JRNL_WM_CROSSED : Fld := ⟨.PAR_JRNL_WM, 8, 8⟩
/-- PAR_JRNL_WM.LEVEL_PCT, bits 6 to 0. -/
def PAR_JRNL_WM_LEVEL_PCT : Fld := ⟨.PAR_JRNL_WM, 6, 0⟩
/-- PAR_LOST.LIST_ENTRIES, bits 31 to 16. -/
def PAR_LOST_LIST_ENTRIES : Fld := ⟨.PAR_LOST, 31, 16⟩
/-- PAR_LOST.COUNT, bits 15 to 0. -/
def PAR_LOST_COUNT : Fld := ⟨.PAR_LOST, 15, 0⟩
/-- PAR_SLOTS.IN_USE, bits 11 to 0. -/
def PAR_SLOTS_IN_USE : Fld := ⟨.PAR_SLOTS, 11, 0⟩
/-- PAR_UCODE_VER.ROM_VER, bits 31 to 24. -/
def PAR_UCODE_VER_ROM_VER : Fld := ⟨.PAR_UCODE_VER, 31, 24⟩
/-- PAR_UCODE_VER.PATCH_VER, bits 23 to 16. -/
def PAR_UCODE_VER_PATCH_VER : Fld := ⟨.PAR_UCODE_VER, 23, 16⟩
/-- PAR_UCODE_VER.LOCKED, bits 15 to 15. -/
def PAR_UCODE_VER_LOCKED : Fld := ⟨.PAR_UCODE_VER, 15, 15⟩
/-- PAR_UCODE_VER.PATCH_SKIPPED, bits 14 to 14. -/
def PAR_UCODE_VER_PATCH_SKIPPED : Fld := ⟨.PAR_UCODE_VER, 14, 14⟩
/-- PAR_UCODE_VER.SLOT, bits 13 to 12. -/
def PAR_UCODE_VER_SLOT : Fld := ⟨.PAR_UCODE_VER, 13, 12⟩
/-- PAR_UCODE_VER.IMAGE_BUILD, bits 11 to 0. -/
def PAR_UCODE_VER_IMAGE_BUILD : Fld := ⟨.PAR_UCODE_VER, 11, 0⟩
/-- PAR_GROUP.NO_BANDS, bits 16 to 16. -/
def PAR_GROUP_NO_BANDS : Fld := ⟨.PAR_GROUP, 16, 16⟩
/-- PAR_GROUP.ERASED_MAX, bits 9 to 8. -/
def PAR_GROUP_ERASED_MAX : Fld := ⟨.PAR_GROUP, 9, 8⟩
/-- PAR_GROUP.W_G, bits 4 to 0. -/
def PAR_GROUP_W_G : Fld := ⟨.PAR_GROUP, 4, 0⟩
/-- PAR_ENG.FENCED, bits 31 to 31. -/
def PAR_ENG_FENCED : Fld := ⟨.PAR_ENG, 31, 31⟩
/-- PAR_ENG.REBUILDS, bits 15 to 8. -/
def PAR_ENG_REBUILDS : Fld := ⟨.PAR_ENG, 15, 8⟩
/-- PAR_ENG.FOLDS, bits 7 to 0. -/
def PAR_ENG_FOLDS : Fld := ⟨.PAR_ENG, 7, 0⟩
/-- WPT_UCODE_VER.ROM_VER, bits 31 to 24. -/
def WPT_UCODE_VER_ROM_VER : Fld := ⟨.WPT_UCODE_VER, 31, 24⟩
/-- WPT_UCODE_VER.PATCH_VER, bits 23 to 16. -/
def WPT_UCODE_VER_PATCH_VER : Fld := ⟨.WPT_UCODE_VER, 23, 16⟩
/-- WPT_UCODE_VER.LOCKED, bits 15 to 15. -/
def WPT_UCODE_VER_LOCKED : Fld := ⟨.WPT_UCODE_VER, 15, 15⟩
/-- WPT_UCODE_VER.PATCH_SKIPPED, bits 14 to 14. -/
def WPT_UCODE_VER_PATCH_SKIPPED : Fld := ⟨.WPT_UCODE_VER, 14, 14⟩
/-- WPT_UCODE_VER.SLOT, bits 13 to 12. -/
def WPT_UCODE_VER_SLOT : Fld := ⟨.WPT_UCODE_VER, 13, 12⟩
/-- WPT_UCODE_VER.IMAGE_BUILD, bits 11 to 0. -/
def WPT_UCODE_VER_IMAGE_BUILD : Fld := ⟨.WPT_UCODE_VER, 11, 0⟩
/-- FCH_RETRAIN_CFG.RETRAIN_MAX_MS, bits 15 to 8. -/
def FCH_RETRAIN_CFG_RETRAIN_MAX_MS : Fld := ⟨.FCH_RETRAIN_CFG, 15, 8⟩
/-- FCH_RETRAIN_CFG.DELTA_C, bits 4 to 0. -/
def FCH_RETRAIN_CFG_DELTA_C : Fld := ⟨.FCH_RETRAIN_CFG, 4, 0⟩
/-- FCH_SSC.STAGGER_EN, bits 1 to 1. -/
def FCH_SSC_STAGGER_EN : Fld := ⟨.FCH_SSC, 1, 1⟩
/-- FCH_SSC.SSC_EN, bits 0 to 0. -/
def FCH_SSC_SSC_EN : Fld := ⟨.FCH_SSC, 0, 0⟩
/-- FCH_DIE_SEL.DIE, bits 10 to 0. -/
def FCH_DIE_SEL_DIE : Fld := ⟨.FCH_DIE_SEL, 10, 0⟩
/-- FCH_DIE_INFO.READ_TRIM, bits 31 to 26. -/
def FCH_DIE_INFO_READ_TRIM : Fld := ⟨.FCH_DIE_INFO, 31, 26⟩
/-- FCH_DIE_INFO.WRITE_TRIM, bits 25 to 20. -/
def FCH_DIE_INFO_WRITE_TRIM : Fld := ⟨.FCH_DIE_INFO, 25, 20⟩
/-- FCH_DIE_INFO.RUN_LEFT_US, bits 19 to 10. -/
def FCH_DIE_INFO_RUN_LEFT_US : Fld := ⟨.FCH_DIE_INFO, 19, 10⟩
/-- FCH_DIE_INFO.SUSPENDED, bits 9 to 9. -/
def FCH_DIE_INFO_SUSPENDED : Fld := ⟨.FCH_DIE_INFO, 9, 9⟩
/-- FCH_DIE_INFO.FENCED, bits 8 to 8. -/
def FCH_DIE_INFO_FENCED : Fld := ⟨.FCH_DIE_INFO, 8, 8⟩
/-- FCH_DIE_INFO.UNPROFILED, bits 7 to 7. -/
def FCH_DIE_INFO_UNPROFILED : Fld := ⟨.FCH_DIE_INFO, 7, 7⟩
/-- FCH_DIE_INFO.ABSENT, bits 6 to 6. -/
def FCH_DIE_INFO_ABSENT : Fld := ⟨.FCH_DIE_INFO, 6, 6⟩
/-- FCH_DIE_INFO.SLOT, bits 4 to 0. -/
def FCH_DIE_INFO_SLOT : Fld := ⟨.FCH_DIE_INFO, 4, 0⟩
/-- FCH_MOV_UCODE_VER.ROM_VER, bits 31 to 24. -/
def FCH_MOV_UCODE_VER_ROM_VER : Fld := ⟨.FCH_MOV_UCODE_VER, 31, 24⟩
/-- FCH_MOV_UCODE_VER.PATCH_VER, bits 23 to 16. -/
def FCH_MOV_UCODE_VER_PATCH_VER : Fld := ⟨.FCH_MOV_UCODE_VER, 23, 16⟩
/-- FCH_MOV_UCODE_VER.LOCKED, bits 15 to 15. -/
def FCH_MOV_UCODE_VER_LOCKED : Fld := ⟨.FCH_MOV_UCODE_VER, 15, 15⟩
/-- FCH_MOV_UCODE_VER.PATCH_SKIPPED, bits 14 to 14. -/
def FCH_MOV_UCODE_VER_PATCH_SKIPPED : Fld := ⟨.FCH_MOV_UCODE_VER, 14, 14⟩
/-- FCH_MOV_UCODE_VER.SLOT, bits 13 to 12. -/
def FCH_MOV_UCODE_VER_SLOT : Fld := ⟨.FCH_MOV_UCODE_VER, 13, 12⟩
/-- FCH_MOV_UCODE_VER.IMAGE_BUILD, bits 11 to 0. -/
def FCH_MOV_UCODE_VER_IMAGE_BUILD : Fld := ⟨.FCH_MOV_UCODE_VER, 11, 0⟩
/-- FCH_CFG.SLEW, bits 5 to 4. -/
def FCH_CFG_SLEW : Fld := ⟨.FCH_CFG, 5, 4⟩
/-- FCH_CFG.RATE_CAP, bits 3 to 0. -/
def FCH_CFG_RATE_CAP : Fld := ⟨.FCH_CFG, 3, 0⟩
/-- FCH_STATUS.DIE_PRESENT, bits 31 to 16. -/
def FCH_STATUS_DIE_PRESENT : Fld := ⟨.FCH_STATUS, 31, 16⟩
/-- FCH_STATUS.RETRAIN_DUE, bits 9 to 9. -/
def FCH_STATUS_RETRAIN_DUE : Fld := ⟨.FCH_STATUS, 9, 9⟩
/-- FCH_STATUS.FENCED, bits 8 to 8. -/
def FCH_STATUS_FENCED : Fld := ⟨.FCH_STATUS, 8, 8⟩
/-- FCH_STATUS.TRAINED, bits 7 to 7. -/
def FCH_STATUS_TRAINED : Fld := ⟨.FCH_STATUS, 7, 7⟩
/-- FCH_STATUS.LPDDR4, bits 4 to 4. -/
def FCH_STATUS_LPDDR4 : Fld := ⟨.FCH_STATUS, 4, 4⟩
/-- FCH_STATUS.RATE, bits 3 to 0. -/
def FCH_STATUS_RATE : Fld := ⟨.FCH_STATUS, 3, 0⟩
/-- FCH_EVENTS.CFG_ERR, bits 11 to 11. -/
def FCH_EVENTS_CFG_ERR : Fld := ⟨.FCH_EVENTS, 11, 11⟩
/-- FCH_EVENTS.SUSPEND_LONG, bits 10 to 10. -/
def FCH_EVENTS_SUSPEND_LONG : Fld := ⟨.FCH_EVENTS, 10, 10⟩
/-- FCH_EVENTS.SUSPEND_REFUSED, bits 9 to 9. -/
def FCH_EVENTS_SUSPEND_REFUSED : Fld := ⟨.FCH_EVENTS, 9, 9⟩
/-- FCH_EVENTS.SUSPEND_HELD, bits 8 to 8. -/
def FCH_EVENTS_SUSPEND_HELD : Fld := ⟨.FCH_EVENTS, 8, 8⟩
/-- FCH_EVENTS.RETRAIN_LATE, bits 7 to 7. -/
def FCH_EVENTS_RETRAIN_LATE : Fld := ⟨.FCH_EVENTS, 7, 7⟩
/-- FCH_EVENTS.TRAIN_FAIL, bits 6 to 6. -/
def FCH_EVENTS_TRAIN_FAIL : Fld := ⟨.FCH_EVENTS, 6, 6⟩
/-- FCH_EVENTS.DIE_ABSENT, bits 5 to 5. -/
def FCH_EVENTS_DIE_ABSENT : Fld := ⟨.FCH_EVENTS, 5, 5⟩
/-- FCH_EVENTS.STATUS_FF, bits 4 to 4. -/
def FCH_EVENTS_STATUS_FF : Fld := ⟨.FCH_EVENTS, 4, 4⟩
/-- FCH_EVENTS.UNPROFILED, bits 3 to 3. -/
def FCH_EVENTS_UNPROFILED : Fld := ⟨.FCH_EVENTS, 3, 3⟩
/-- FCH_EVENTS.PARAM_BAD, bits 2 to 2. -/
def FCH_EVENTS_PARAM_BAD : Fld := ⟨.FCH_EVENTS, 2, 2⟩
/-- FCH_EVENTS.EXTRA_LUN, bits 1 to 1. -/
def FCH_EVENTS_EXTRA_LUN : Fld := ⟨.FCH_EVENTS, 1, 1⟩
/-- FCH_EVENTS.RB_STUCK, bits 0 to 0. -/
def FCH_EVENTS_RB_STUCK : Fld := ⟨.FCH_EVENTS, 0, 0⟩
/-- FCH_TRAIN.T_LAST, bits 31 to 24. -/
def FCH_TRAIN_T_LAST : Fld := ⟨.FCH_TRAIN, 31, 24⟩
/-- FCH_TRAIN.STEPS_LEFT, bits 20 to 16. -/
def FCH_TRAIN_STEPS_LEFT : Fld := ⟨.FCH_TRAIN, 20, 16⟩
/-- FCH_TRAIN.COUNT, bits 15 to 0. -/
def FCH_TRAIN_COUNT : Fld := ⟨.FCH_TRAIN, 15, 0⟩
/-- FCH_PROFILE.VALID, bits 31 to 31. -/
def FCH_PROFILE_VALID : Fld := ⟨.FCH_PROFILE, 31, 31⟩
/-- FCH_PROFILE.MAX_RATE, bits 27 to 24. -/
def FCH_PROFILE_MAX_RATE : Fld := ⟨.FCH_PROFILE, 27, 24⟩
/-- FCH_PROFILE.DIES, bits 23 to 12. -/
def FCH_PROFILE_DIES : Fld := ⟨.FCH_PROFILE, 23, 12⟩
/-- FCH_PROFILE.PROFILE_ID, bits 11 to 0. -/
def FCH_PROFILE_PROFILE_ID : Fld := ⟨.FCH_PROFILE, 11, 0⟩
/-- TRV_CTX_SEL.DIE, bits 10 to 0. -/
def TRV_CTX_SEL_DIE : Fld := ⟨.TRV_CTX_SEL, 10, 0⟩
/-- TRV_CTX_INFO.RESUME_PC, bits 31 to 20. -/
def TRV_CTX_INFO_RESUME_PC : Fld := ⟨.TRV_CTX_INFO, 31, 20⟩
/-- TRV_CTX_INFO.SUSP_COUNT, bits 19 to 12. -/
def TRV_CTX_INFO_SUSP_COUNT : Fld := ⟨.TRV_CTX_INFO, 19, 12⟩
/-- TRV_CTX_INFO.LONG, bits 11 to 10. -/
def TRV_CTX_INFO_LONG : Fld := ⟨.TRV_CTX_INFO, 11, 10⟩
/-- TRV_CTX_INFO.STATE, bits 9 to 8. -/
def TRV_CTX_INFO_STATE : Fld := ⟨.TRV_CTX_INFO, 9, 8⟩
/-- TRV_CTX_INFO.LAST_STATUS, bits 7 to 0. -/
def TRV_CTX_INFO_LAST_STATUS : Fld := ⟨.TRV_CTX_INFO, 7, 0⟩
/-- TRV_CTX_OP.ISSUE_EPOCH, bits 31 to 16. -/
def TRV_CTX_OP_ISSUE_EPOCH : Fld := ⟨.TRV_CTX_OP, 31, 16⟩
/-- TRV_CTX_OP.PC, bits 11 to 0. -/
def TRV_CTX_OP_PC : Fld := ⟨.TRV_CTX_OP, 11, 0⟩
/-- TRV_CTX_CNT_A.C1, bits 31 to 16. -/
def TRV_CTX_CNT_A_C1 : Fld := ⟨.TRV_CTX_CNT_A, 31, 16⟩
/-- TRV_CTX_CNT_A.C0, bits 15 to 0. -/
def TRV_CTX_CNT_A_C0 : Fld := ⟨.TRV_CTX_CNT_A, 15, 0⟩
/-- TRV_CTX_CNT_B.C3, bits 31 to 16. -/
def TRV_CTX_CNT_B_C3 : Fld := ⟨.TRV_CTX_CNT_B, 31, 16⟩
/-- TRV_CTX_CNT_B.C2, bits 15 to 0. -/
def TRV_CTX_CNT_B_C2 : Fld := ⟨.TRV_CTX_CNT_B, 15, 0⟩
/-- TRV_UCODE_VER.ROM_VER, bits 31 to 24. -/
def TRV_UCODE_VER_ROM_VER : Fld := ⟨.TRV_UCODE_VER, 31, 24⟩
/-- TRV_UCODE_VER.PATCH_VER, bits 23 to 16. -/
def TRV_UCODE_VER_PATCH_VER : Fld := ⟨.TRV_UCODE_VER, 23, 16⟩
/-- TRV_UCODE_VER.LOCKED, bits 15 to 15. -/
def TRV_UCODE_VER_LOCKED : Fld := ⟨.TRV_UCODE_VER, 15, 15⟩
/-- TRV_UCODE_VER.PATCH_SKIPPED, bits 14 to 14. -/
def TRV_UCODE_VER_PATCH_SKIPPED : Fld := ⟨.TRV_UCODE_VER, 14, 14⟩
/-- TRV_UCODE_VER.SLOT, bits 13 to 12. -/
def TRV_UCODE_VER_SLOT : Fld := ⟨.TRV_UCODE_VER, 13, 12⟩
/-- TRV_UCODE_VER.IMAGE_BUILD, bits 11 to 0. -/
def TRV_UCODE_VER_IMAGE_BUILD : Fld := ⟨.TRV_UCODE_VER, 11, 0⟩
/-- TRV_POLL.ERASE_POLL_US, bits 31 to 24. -/
def TRV_POLL_ERASE_POLL_US : Fld := ⟨.TRV_POLL, 31, 24⟩
/-- TRV_POLL.PROG_POLL_US, bits 23 to 16. -/
def TRV_POLL_PROG_POLL_US : Fld := ⟨.TRV_POLL, 23, 16⟩
/-- TRV_POLL.READ_POLL_NS, bits 11 to 0. -/
def TRV_POLL_READ_POLL_NS : Fld := ⟨.TRV_POLL, 11, 0⟩
/-- TRV_PATCH_MAP.VALID, bits 31 to 31. -/
def TRV_PATCH_MAP_VALID : Fld := ⟨.TRV_PATCH_MAP, 31, 31⟩
/-- TRV_PATCH_MAP.PATCH_ADDR, bits 23 to 12. -/
def TRV_PATCH_MAP_PATCH_ADDR : Fld := ⟨.TRV_PATCH_MAP, 23, 12⟩
/-- TRV_PATCH_MAP.ROM_ADDR, bits 11 to 0. -/
def TRV_PATCH_MAP_ROM_ADDR : Fld := ⟨.TRV_PATCH_MAP, 11, 0⟩
/-- TRV_ENG.FENCED, bits 31 to 31. -/
def TRV_ENG_FENCED : Fld := ⟨.TRV_ENG, 31, 31⟩
/-- TRV_ENG.ISOLATED, bits 30 to 30. -/
def TRV_ENG_ISOLATED : Fld := ⟨.TRV_ENG, 30, 30⟩
/-- TRV_ENG.CHAIN_OVERRUN, bits 27 to 27. -/
def TRV_ENG_CHAIN_OVERRUN : Fld := ⟨.TRV_ENG, 27, 27⟩
/-- TRV_ENG.CHECK_FAULT, bits 26 to 26. -/
def TRV_ENG_CHECK_FAULT : Fld := ⟨.TRV_ENG, 26, 26⟩
/-- TRV_ENG.PARITY_RETRY, bits 25 to 25. -/
def TRV_ENG_PARITY_RETRY : Fld := ⟨.TRV_ENG, 25, 25⟩
/-- TRV_ENG.SUSPEND_MOOT, bits 24 to 24. -/
def TRV_ENG_SUSPEND_MOOT : Fld := ⟨.TRV_ENG, 24, 24⟩
/-- TRV_ENG.DIES, bits 19 to 16. -/
def TRV_ENG_DIES : Fld := ⟨.TRV_ENG, 19, 16⟩
/-- TRV_ENG.SLOTS_BUSY, bits 15 to 8. -/
def TRV_ENG_SLOTS_BUSY : Fld := ⟨.TRV_ENG, 15, 8⟩
/-- LDP_CFG.CORR_WARN, bits 15 to 8. -/
def LDP_CFG_CORR_WARN : Fld := ⟨.LDP_CFG, 15, 8⟩
/-- LDP_CFG.LADDER_MAX, bits 4 to 0. -/
def LDP_CFG_LADDER_MAX : Fld := ⟨.LDP_CFG, 4, 0⟩
/-- LDP_STATUS.RES_HELD, bits 23 to 16. -/
def LDP_STATUS_RES_HELD : Fld := ⟨.LDP_STATUS, 23, 16⟩
/-- LDP_STATUS.LANES_FENCED, bits 15 to 8. -/
def LDP_STATUS_LANES_FENCED : Fld := ⟨.LDP_STATUS, 15, 8⟩
/-- LDP_STATUS.LANES_BUSY, bits 7 to 0. -/
def LDP_STATUS_LANES_BUSY : Fld := ⟨.LDP_STATUS, 7, 0⟩
/-- LDP_EVENTS.CFG_ERR, bits 5 to 5. -/
def LDP_EVENTS_CFG_ERR : Fld := ⟨.LDP_EVENTS, 5, 5⟩
/-- LDP_EVENTS.LANE_FENCED, bits 4 to 4. -/
def LDP_EVENTS_LANE_FENCED : Fld := ⟨.LDP_EVENTS, 4, 4⟩
/-- LDP_EVENTS.UNCORRECTED, bits 3 to 3. -/
def LDP_EVENTS_UNCORRECTED : Fld := ⟨.LDP_EVENTS, 3, 3⟩
/-- LDP_EVENTS.HIGH_CORR, bits 2 to 2. -/
def LDP_EVENTS_HIGH_CORR : Fld := ⟨.LDP_EVENTS, 2, 2⟩
/-- LDP_EVENTS.LADDER_USED, bits 1 to 1. -/
def LDP_EVENTS_LADDER_USED : Fld := ⟨.LDP_EVENTS, 1, 1⟩
/-- LDP_EVENTS.SOFT_USED, bits 0 to 0. -/
def LDP_EVENTS_SOFT_USED : Fld := ⟨.LDP_EVENTS, 0, 0⟩
/-- LDP_CNT_HARD_FAIL.COUNT, bits 31 to 0. -/
def LDP_CNT_HARD_FAIL_COUNT : Fld := ⟨.LDP_CNT_HARD_FAIL, 31, 0⟩
/-- LDP_CNT_SOFT_OK.COUNT, bits 31 to 0. -/
def LDP_CNT_SOFT_OK_COUNT : Fld := ⟨.LDP_CNT_SOFT_OK, 31, 0⟩
/-- LDP_CNT_LADDER_OK.COUNT, bits 31 to 0. -/
def LDP_CNT_LADDER_OK_COUNT : Fld := ⟨.LDP_CNT_LADDER_OK, 31, 0⟩
/-- LDP_CNT_UNCORR.COUNT, bits 31 to 0. -/
def LDP_CNT_UNCORR_COUNT : Fld := ⟨.LDP_CNT_UNCORR, 31, 0⟩
/-- LDP_LANE.FENCED, bits 31 to 31. -/
def LDP_LANE_FENCED : Fld := ⟨.LDP_LANE, 31, 31⟩
/-- LDP_LANE.ROLE, bits 30 to 30. -/
def LDP_LANE_ROLE : Fld := ⟨.LDP_LANE, 30, 30⟩
/-- LDP_LANE.BUSY, bits 29 to 29. -/
def LDP_LANE_BUSY : Fld := ⟨.LDP_LANE, 29, 29⟩
/-- LDP_LANE.HARD_MOVED, bits 28 to 28. -/
def LDP_LANE_HARD_MOVED : Fld := ⟨.LDP_LANE, 28, 28⟩
/-- LDP_LANE.RES_QUEUED, bits 7 to 0. -/
def LDP_LANE_RES_QUEUED : Fld := ⟨.LDP_LANE, 7, 0⟩
/-- SHB_CFG.INTERLOCK_EN, bits 31 to 31. -/
def SHB_CFG_INTERLOCK_EN : Fld := ⟨.SHB_CFG, 31, 31⟩
/-- SHB_CFG.AUTO_OFFER, bits 30 to 30. -/
def SHB_CFG_AUTO_OFFER : Fld := ⟨.SHB_CFG, 30, 30⟩
/-- SHB_CFG.RAMP_MS, bits 23 to 16. -/
def SHB_CFG_RAMP_MS : Fld := ⟨.SHB_CFG, 23, 16⟩
/-- SHB_CFG.PG_MARGIN_MS, bits 15 to 8. -/
def SHB_CFG_PG_MARGIN_MS : Fld := ⟨.SHB_CFG, 15, 8⟩
/-- SHB_CFG.SOLDERED, bits 0 to 0. -/
def SHB_CFG_SOLDERED : Fld := ⟨.SHB_CFG, 0, 0⟩
/-- SHB_ID_SEL.BAY, bits 9 to 6. -/
def SHB_ID_SEL_BAY : Fld := ⟨.SHB_ID_SEL, 9, 6⟩
/-- SHB_ID_SEL.WORD, bits 5 to 0. -/
def SHB_ID_SEL_WORD : Fld := ⟨.SHB_ID_SEL, 5, 0⟩
/-- SHB_ID_DATA.DATA, bits 31 to 0. -/
def SHB_ID_DATA_DATA : Fld := ⟨.SHB_ID_DATA, 31, 0⟩
/-- SHB_BAY.STATE, bits 31 to 28. -/
def SHB_BAY_STATE : Fld := ⟨.SHB_BAY, 31, 28⟩
/-- SHB_BAY.PRESENT, bits 27 to 27. -/
def SHB_BAY_PRESENT : Fld := ⟨.SHB_BAY, 27, 27⟩
/-- SHB_BAY.PWR_EN, bits 26 to 26. -/
def SHB_BAY_PWR_EN : Fld := ⟨.SHB_BAY, 26, 26⟩
/-- SHB_BAY.PWR_GOOD, bits 25 to 25. -/
def SHB_BAY_PWR_GOOD : Fld := ⟨.SHB_BAY, 25, 25⟩
/-- SHB_BAY.BUTTON, bits 24 to 24. -/
def SHB_BAY_BUTTON : Fld := ⟨.SHB_BAY, 24, 24⟩
/-- SHB_BAY.ATTN, bits 23 to 22. -/
def SHB_BAY_ATTN : Fld := ⟨.SHB_BAY, 23, 22⟩
/-- SHB_BAY.PWR_IND, bits 21 to 20. -/
def SHB_BAY_PWR_IND : Fld := ⟨.SHB_BAY, 21, 20⟩
/-- SHB_BAY.LOCKED, bits 19 to 19. -/
def SHB_BAY_LOCKED : Fld := ⟨.SHB_BAY, 19, 19⟩
/-- SHB_BAY.ID_VALID, bits 18 to 18. -/
def SHB_BAY_ID_VALID : Fld := ⟨.SHB_BAY, 18, 18⟩
/-- SHB_BAY.DIES, bits 7 to 0. -/
def SHB_BAY_DIES : Fld := ⟨.SHB_BAY, 7, 0⟩
/-- SHB_IND.HOST_OWNS, bits 2 to 2. -/
def SHB_IND_HOST_OWNS : Fld := ⟨.SHB_IND, 2, 2⟩
/-- SHB_IND.ATTN_HOST, bits 1 to 0. -/
def SHB_IND_ATTN_HOST : Fld := ⟨.SHB_IND, 1, 0⟩
/-- SHB_EVENTS.CFG_ERR, bits 10 to 10. -/
def SHB_EVENTS_CFG_ERR : Fld := ⟨.SHB_EVENTS, 10, 10⟩
/-- SHB_EVENTS.BTN_IGNORED, bits 9 to 9. -/
def SHB_EVENTS_BTN_IGNORED : Fld := ⟨.SHB_EVENTS, 9, 9⟩
/-- SHB_EVENTS.INSERT_ABORTED, bits 8 to 8. -/
def SHB_EVENTS_INSERT_ABORTED : Fld := ⟨.SHB_EVENTS, 8, 8⟩
/-- SHB_EVENTS.NO_DIES, bits 7 to 7. -/
def SHB_EVENTS_NO_DIES : Fld := ⟨.SHB_EVENTS, 7, 7⟩
/-- SHB_EVENTS.PG_FAIL, bits 6 to 6. -/
def SHB_EVENTS_PG_FAIL : Fld := ⟨.SHB_EVENTS, 6, 6⟩
/-- SHB_EVENTS.ID_FAIL, bits 5 to 5. -/
def SHB_EVENTS_ID_FAIL : Fld := ⟨.SHB_EVENTS, 5, 5⟩
/-- SHB_EVENTS.REFUSED, bits 4 to 4. -/
def SHB_EVENTS_REFUSED : Fld := ⟨.SHB_EVENTS, 4, 4⟩
/-- SHB_EVENTS.ABORTED, bits 3 to 3. -/
def SHB_EVENTS_ABORTED : Fld := ⟨.SHB_EVENTS, 3, 3⟩
/-- SHB_EVENTS.SURPRISE, bits 2 to 2. -/
def SHB_EVENTS_SURPRISE : Fld := ⟨.SHB_EVENTS, 2, 2⟩
/-- SHB_EVENTS.REMOVED, bits 1 to 1. -/
def SHB_EVENTS_REMOVED : Fld := ⟨.SHB_EVENTS, 1, 1⟩
/-- SHB_EVENTS.INSERTED, bits 0 to 0. -/
def SHB_EVENTS_INSERTED : Fld := ⟨.SHB_EVENTS, 0, 0⟩
/-- PWR_MODE.PSTATE, bits 11 to 8. -/
def PWR_MODE_PSTATE : Fld := ⟨.PWR_MODE, 11, 8⟩
/-- PWR_MODE.FENCED_UNITS, bits 5 to 5. -/
def PWR_MODE_FENCED_UNITS : Fld := ⟨.PWR_MODE, 5, 5⟩
/-- PWR_MODE.ENTERING, bits 4 to 4. -/
def PWR_MODE_ENTERING : Fld := ⟨.PWR_MODE, 4, 4⟩
/-- PWR_MODE.MODE, bits 3 to 0. -/
def PWR_MODE_MODE : Fld := ⟨.PWR_MODE, 3, 0⟩
/-- PWR_EVENTS.CFG_ERR, bits 7 to 7. -/
def PWR_EVENTS_CFG_ERR : Fld := ⟨.PWR_EVENTS, 7, 7⟩
/-- PWR_EVENTS.MODE_CHANGE, bits 6 to 6. -/
def PWR_EVENTS_MODE_CHANGE : Fld := ⟨.PWR_EVENTS, 6, 6⟩
/-- PWR_EVENTS.RAIL_TRIP, bits 5 to 5. -/
def PWR_EVENTS_RAIL_TRIP : Fld := ⟨.PWR_EVENTS, 5, 5⟩
/-- PWR_EVENTS.BUDGET_DROP, bits 4 to 4. -/
def PWR_EVENTS_BUDGET_DROP : Fld := ⟨.PWR_EVENTS, 4, 4⟩
/-- PWR_EVENTS.TEST_FAIL, bits 3 to 3. -/
def PWR_EVENTS_TEST_FAIL : Fld := ⟨.PWR_EVENTS, 3, 3⟩
/-- PWR_EVENTS.TEST_DONE, bits 2 to 2. -/
def PWR_EVENTS_TEST_DONE : Fld := ⟨.PWR_EVENTS, 2, 2⟩
/-- PWR_EVENTS.DUMP_INCOMPLETE, bits 1 to 1. -/
def PWR_EVENTS_DUMP_INCOMPLETE : Fld := ⟨.PWR_EVENTS, 1, 1⟩
/-- PWR_EVENTS.HOLDUP, bits 0 to 0. -/
def PWR_EVENTS_HOLDUP : Fld := ⟨.PWR_EVENTS, 0, 0⟩
/-- PWR_HOLD_CFG.E_FIXED_MJ, bits 31 to 16. -/
def PWR_HOLD_CFG_E_FIXED_MJ : Fld := ⟨.PWR_HOLD_CFG, 31, 16⟩
/-- PWR_HOLD_CFG.E_FLUSH_PJ, bits 15 to 0. -/
def PWR_HOLD_CFG_E_FLUSH_PJ : Fld := ⟨.PWR_HOLD_CFG, 15, 0⟩
/-- PWR_HOLD_BANK.R_TEST, bits 31 to 24. -/
def PWR_HOLD_BANK_R_TEST : Fld := ⟨.PWR_HOLD_BANK, 31, 24⟩
/-- PWR_HOLD_BANK.DROP_PCT, bits 23 to 16. -/
def PWR_HOLD_BANK_DROP_PCT : Fld := ⟨.PWR_HOLD_BANK, 23, 16⟩
/-- PWR_HOLD_BANK.V_MIN_MV, bits 15 to 0. -/
def PWR_HOLD_BANK_V_MIN_MV : Fld := ⟨.PWR_HOLD_BANK, 15, 0⟩
/-- PWR_HOLD_LIMITS.ESR_MAX_MOHM, bits 31 to 16. -/
def PWR_HOLD_LIMITS_ESR_MAX_MOHM : Fld := ⟨.PWR_HOLD_LIMITS, 31, 16⟩
/-- PWR_HOLD_LIMITS.INTERVAL_H, bits 15 to 8. -/
def PWR_HOLD_LIMITS_INTERVAL_H : Fld := ⟨.PWR_HOLD_LIMITS, 15, 8⟩
/-- PWR_HOLD_STATUS.ARMED_GROUPS, bits 31 to 24. -/
def PWR_HOLD_STATUS_ARMED_GROUPS : Fld := ⟨.PWR_HOLD_STATUS, 31, 24⟩
/-- PWR_HOLD_STATUS.LAST_CAUSE, bits 19 to 16. -/
def PWR_HOLD_STATUS_LAST_CAUSE : Fld := ⟨.PWR_HOLD_STATUS, 19, 16⟩
/-- PWR_HOLD_STATUS.RAILS_TRIPPED, bits 15 to 8. -/
def PWR_HOLD_STATUS_RAILS_TRIPPED : Fld := ⟨.PWR_HOLD_STATUS, 15, 8⟩
/-- PWR_HOLD_STATUS.ARMED_SET, bits 2 to 2. -/
def PWR_HOLD_STATUS_ARMED_SET : Fld := ⟨.PWR_HOLD_STATUS, 2, 2⟩
/-- PWR_HOLD_STATUS.TEST_RUNNING, bits 1 to 1. -/
def PWR_HOLD_STATUS_TEST_RUNNING : Fld := ⟨.PWR_HOLD_STATUS, 1, 1⟩
/-- PWR_HOLD_STATUS.HOLD_EN, bits 0 to 0. -/
def PWR_HOLD_STATUS_HOLD_EN : Fld := ⟨.PWR_HOLD_STATUS, 0, 0⟩
/-- PWR_HOLD_E.E_MJ, bits 31 to 0. -/
def PWR_HOLD_E_E_MJ : Fld := ⟨.PWR_HOLD_E, 31, 0⟩
/-- PWR_HOLD_ESR.ESR_MOHM, bits 15 to 0. -/
def PWR_HOLD_ESR_ESR_MOHM : Fld := ⟨.PWR_HOLD_ESR, 15, 0⟩
/-- PWR_STAGING.BUDGET_KIB, bits 31 to 0. -/
def PWR_STAGING_BUDGET_KIB : Fld := ⟨.PWR_STAGING, 31, 0⟩
/-- PWR_STAGING_USE.IN_USE_KIB, bits 31 to 0. -/
def PWR_STAGING_USE_IN_USE_KIB : Fld := ⟨.PWR_STAGING_USE, 31, 0⟩
/-- PWR_AVS.MEASURED_MV, bits 31 to 16. -/
def PWR_AVS_MEASURED_MV : Fld := ⟨.PWR_AVS, 31, 16⟩
/-- PWR_AVS.SETPOINT_MV, bits 15 to 0. -/
def PWR_AVS_SETPOINT_MV : Fld := ⟨.PWR_AVS, 15, 0⟩
/-- CTR_STATUS.CRIT_TRIP, bits 31 to 31. -/
def CTR_STATUS_CRIT_TRIP : Fld := ⟨.CTR_STATUS, 31, 31⟩
/-- CTR_STATUS.QUIET_NAMED, bits 30 to 30. -/
def CTR_STATUS_QUIET_NAMED : Fld := ⟨.CTR_STATUS, 30, 30⟩
/-- CTR_STATUS.K_MAX, bits 29 to 27. -/
def CTR_STATUS_K_MAX : Fld := ⟨.CTR_STATUS, 29, 27⟩
/-- CTR_STATUS.STEP, bits 26 to 24. -/
def CTR_STATUS_STEP : Fld := ⟨.CTR_STATUS, 26, 24⟩
/-- CTR_STATUS.HOTTEST, bits 23 to 16. -/
def CTR_STATUS_HOTTEST : Fld := ⟨.CTR_STATUS, 23, 16⟩
/-- CTR_STATUS.T_EFF, bits 15 to 0. -/
def CTR_STATUS_T_EFF : Fld := ⟨.CTR_STATUS, 15, 0⟩
/-- CTR_EVENTS.CFG_ERR, bits 10 to 10. -/
def CTR_EVENTS_CFG_ERR : Fld := ⟨.CTR_EVENTS, 10, 10⟩
/-- CTR_EVENTS.OSC_RETRIM, bits 9 to 9. -/
def CTR_EVENTS_OSC_RETRIM : Fld := ⟨.CTR_EVENTS, 9, 9⟩
/-- CTR_EVENTS.UNQUIETABLE, bits 8 to 8. -/
def CTR_EVENTS_UNQUIETABLE : Fld := ⟨.CTR_EVENTS, 8, 8⟩
/-- CTR_EVENTS.CAL_RANGE, bits 7 to 7. -/
def CTR_EVENTS_CAL_RANGE : Fld := ⟨.CTR_EVENTS, 7, 7⟩
/-- CTR_EVENTS.ANCHOR_MISS, bits 6 to 6. -/
def CTR_EVENTS_ANCHOR_MISS : Fld := ⟨.CTR_EVENTS, 6, 6⟩
/-- CTR_EVENTS.CRIT_CLEAR, bits 5 to 5. -/
def CTR_EVENTS_CRIT_CLEAR : Fld := ⟨.CTR_EVENTS, 5, 5⟩
/-- CTR_EVENTS.CRIT_TRIP, bits 4 to 4. -/
def CTR_EVENTS_CRIT_TRIP : Fld := ⟨.CTR_EVENTS, 4, 4⟩
/-- CTR_EVENTS.RISE_THROTTLE, bits 3 to 3. -/
def CTR_EVENTS_RISE_THROTTLE : Fld := ⟨.CTR_EVENTS, 3, 3⟩
/-- CTR_EVENTS.RISE_WARN, bits 2 to 2. -/
def CTR_EVENTS_RISE_WARN : Fld := ⟨.CTR_EVENTS, 2, 2⟩
/-- CTR_EVENTS.THROTTLE_DOWN, bits 1 to 1. -/
def CTR_EVENTS_THROTTLE_DOWN : Fld := ⟨.CTR_EVENTS, 1, 1⟩
/-- CTR_EVENTS.THROTTLE_UP, bits 0 to 0. -/
def CTR_EVENTS_THROTTLE_UP : Fld := ⟨.CTR_EVENTS, 0, 0⟩
/-- CTR_CFG.QUIET_AGE_S, bits 31 to 24. -/
def CTR_CFG_QUIET_AGE_S : Fld := ⟨.CTR_CFG, 31, 24⟩
/-- CTR_CFG.STEP_DWELL_MS, bits 23 to 16. -/
def CTR_CFG_STEP_DWELL_MS : Fld := ⟨.CTR_CFG, 23, 16⟩
/-- CTR_CFG.RELAX_10MS, bits 15 to 8. -/
def CTR_CFG_RELAX_10MS : Fld := ⟨.CTR_CFG, 15, 8⟩
/-- CTR_CFG.HYST_C, bits 7 to 4. -/
def CTR_CFG_HYST_C : Fld := ⟨.CTR_CFG, 7, 4⟩
/-- CTR_ROUND.LAST_US, bits 31 to 16. -/
def CTR_ROUND_LAST_US : Fld := ⟨.CTR_ROUND, 31, 16⟩
/-- CTR_ROUND.STRETCH_US, bits 15 to 0. -/
def CTR_ROUND_STRETCH_US : Fld := ⟨.CTR_ROUND, 15, 0⟩
/-- CTR_ROUND_CNT.MAX_STRETCH_US, bits 31 to 16. -/
def CTR_ROUND_CNT_MAX_STRETCH_US : Fld := ⟨.CTR_ROUND_CNT, 31, 16⟩
/-- CTR_ROUND_CNT.ROUNDS, bits 15 to 0. -/
def CTR_ROUND_CNT_ROUNDS : Fld := ⟨.CTR_ROUND_CNT, 15, 0⟩
/-- CTR_TEMP_WM.COUNT, bits 31 to 16. -/
def CTR_TEMP_WM_COUNT : Fld := ⟨.CTR_TEMP_WM, 31, 16⟩
/-- CTR_TEMP_WM.ABOVE, bits 9 to 9. -/
def CTR_TEMP_WM_ABOVE : Fld := ⟨.CTR_TEMP_WM, 9, 9⟩
/-- CTR_TEMP_WM.CROSSED, bits 8 to 8. -/
def CTR_TEMP_WM_CROSSED : Fld := ⟨.CTR_TEMP_WM, 8, 8⟩
/-- CTR_TEMP_WM.LEVEL, bits 7 to 0. -/
def CTR_TEMP_WM_LEVEL : Fld := ⟨.CTR_TEMP_WM, 7, 0⟩
/-- CTR_CAL.SCALE, bits 15 to 0. -/
def CTR_CAL_SCALE : Fld := ⟨.CTR_CAL, 15, 0⟩
/-- CTR_REGION.MODEL, bits 31 to 16. -/
def CTR_REGION_MODEL : Fld := ⟨.CTR_REGION, 31, 16⟩
/-- CTR_REGION.BOUND, bits 15 to 8. -/
def CTR_REGION_BOUND : Fld := ⟨.CTR_REGION, 15, 8⟩
/-- CTR_REGION.ANCHOR_AGE, bits 7 to 0. -/
def CTR_REGION_ANCHOR_AGE : Fld := ⟨.CTR_REGION, 7, 0⟩
/-- CHR_DCS_LAYOUT.LAYOUT, bits 15 to 0. -/
def CHR_DCS_LAYOUT_LAYOUT : Fld := ⟨.CHR_DCS_LAYOUT, 15, 0⟩
/-- CHR_MGMT_CFG.I3C, bits 8 to 8. -/
def CHR_MGMT_CFG_I3C : Fld := ⟨.CHR_MGMT_CFG, 8, 8⟩
/-- CHR_MGMT_CFG.ADDR, bits 6 to 0. -/
def CHR_MGMT_CFG_ADDR : Fld := ⟨.CHR_MGMT_CFG, 6, 0⟩
/-- CHR_MGMT_STATUS.EID_BUS, bits 31 to 24. -/
def CHR_MGMT_STATUS_EID_BUS : Fld := ⟨.CHR_MGMT_STATUS, 31, 24⟩
/-- CHR_MGMT_STATUS.EID_A, bits 23 to 16. -/
def CHR_MGMT_STATUS_EID_A : Fld := ⟨.CHR_MGMT_STATUS, 23, 16⟩
/-- CHR_MGMT_STATUS.EID_B, bits 15 to 8. -/
def CHR_MGMT_STATUS_EID_B : Fld := ⟨.CHR_MGMT_STATUS, 15, 8⟩
/-- CHR_MGMT_STATUS.CONTEXTS, bits 7 to 4. -/
def CHR_MGMT_STATUS_CONTEXTS : Fld := ⟨.CHR_MGMT_STATUS, 7, 4⟩
/-- CHR_MGMT_STATUS.SESSIONS, bits 3 to 0. -/
def CHR_MGMT_STATUS_SESSIONS : Fld := ⟨.CHR_MGMT_STATUS, 3, 0⟩
/-- CHR_MGMT_ERR.ERRORS, bits 31 to 0. -/
def CHR_MGMT_ERR_ERRORS : Fld := ⟨.CHR_MGMT_ERR, 31, 0⟩
/-- CHR_ALERT_STATUS.FAULT, bits 3 to 3. -/
def CHR_ALERT_STATUS_FAULT : Fld := ⟨.CHR_ALERT_STATUS, 3, 3⟩
/-- CHR_ALERT_STATUS.MBX_RESP, bits 2 to 2. -/
def CHR_ALERT_STATUS_MBX_RESP : Fld := ⟨.CHR_ALERT_STATUS, 2, 2⟩
/-- CHR_ALERT_STATUS.CRIT_WARN, bits 1 to 1. -/
def CHR_ALERT_STATUS_CRIT_WARN : Fld := ⟨.CHR_ALERT_STATUS, 1, 1⟩
/-- CHR_ALERT_STATUS.GAZ, bits 0 to 0. -/
def CHR_ALERT_STATUS_GAZ : Fld := ⟨.CHR_ALERT_STATUS, 0, 0⟩
/-- CHR_ALERT_MASK.SEV_MASK, bits 31 to 16. -/
def CHR_ALERT_MASK_SEV_MASK : Fld := ⟨.CHR_ALERT_MASK, 31, 16⟩
/-- CHR_ALERT_MASK.MASK, bits 3 to 0. -/
def CHR_ALERT_MASK_MASK : Fld := ⟨.CHR_ALERT_MASK, 3, 0⟩
/-- CHR_PAD_CFG.SLEW_BAY, bits 7 to 6. -/
def CHR_PAD_CFG_SLEW_BAY : Fld := ⟨.CHR_PAD_CFG, 7, 6⟩
/-- CHR_PAD_CFG.SLEW_BOARD, bits 5 to 4. -/
def CHR_PAD_CFG_SLEW_BOARD : Fld := ⟨.CHR_PAD_CFG, 5, 4⟩
/-- CHR_PAD_CFG.SLEW_MGMT, bits 3 to 2. -/
def CHR_PAD_CFG_SLEW_MGMT : Fld := ⟨.CHR_PAD_CFG, 3, 2⟩
/-- FLT_PIN_CTL.PULSE_MS, bits 15 to 8. -/
def FLT_PIN_CTL_PULSE_MS : Fld := ⟨.FLT_PIN_CTL, 15, 8⟩
/-- FLT_PIN_CTL.PULSING, bits 3 to 3. -/
def FLT_PIN_CTL_PULSING : Fld := ⟨.FLT_PIN_CTL, 3, 3⟩
/-- FLT_PIN_CTL.REARM, bits 2 to 2. -/
def FLT_PIN_CTL_REARM : Fld := ⟨.FLT_PIN_CTL, 2, 2⟩
/-- FLT_PIN_CTL.ARMED, bits 1 to 1. -/
def FLT_PIN_CTL_ARMED : Fld := ⟨.FLT_PIN_CTL, 1, 1⟩
/-- FLT_PIN_CTL.LEVEL, bits 0 to 0. -/
def FLT_PIN_CTL_LEVEL : Fld := ⟨.FLT_PIN_CTL, 0, 0⟩
/-- FLT_INJ_SEL.BLOCK, bits 31 to 20. -/
def FLT_INJ_SEL_BLOCK : Fld := ⟨.FLT_INJ_SEL, 31, 20⟩
/-- FLT_INJ_SEL.INSTANCE, bits 19 to 8. -/
def FLT_INJ_SEL_INSTANCE : Fld := ⟨.FLT_INJ_SEL, 19, 8⟩
/-- FLT_INJ_SEL.SINGLE, bits 7 to 7. -/
def FLT_INJ_SEL_SINGLE : Fld := ⟨.FLT_INJ_SEL, 7, 7⟩
/-- FLT_INJ_SEL.CHECKER, bits 3 to 0. -/
def FLT_INJ_SEL_CHECKER : Fld := ⟨.FLT_INJ_SEL, 3, 0⟩
/-- FLT_INJ_CTL.GO, bits 8 to 8. -/
def FLT_INJ_CTL_GO : Fld := ⟨.FLT_INJ_CTL, 8, 8⟩
/-- FLT_INJ_CTL.N, bits 7 to 0. -/
def FLT_INJ_CTL_N : Fld := ⟨.FLT_INJ_CTL, 7, 0⟩
/-- FLT_INJ_STATUS.LEFT, bits 31 to 24. -/
def FLT_INJ_STATUS_LEFT : Fld := ⟨.FLT_INJ_STATUS, 31, 24⟩
/-- FLT_INJ_STATUS.CFG_ERR, bits 2 to 2. -/
def FLT_INJ_STATUS_CFG_ERR : Fld := ⟨.FLT_INJ_STATUS, 2, 2⟩
/-- FLT_INJ_STATUS.BUSY, bits 1 to 1. -/
def FLT_INJ_STATUS_BUSY : Fld := ⟨.FLT_INJ_STATUS, 1, 1⟩
/-- FLT_INJ_STATUS.REFUSED, bits 0 to 0. -/
def FLT_INJ_STATUS_REFUSED : Fld := ⟨.FLT_INJ_STATUS, 0, 0⟩
/-- CHR_LINK_STAT.FAILED, bits 31 to 31. -/
def CHR_LINK_STAT_FAILED : Fld := ⟨.CHR_LINK_STAT, 31, 31⟩
/-- CHR_LINK_STAT.CRC_ERRORS, bits 27 to 16. -/
def CHR_LINK_STAT_CRC_ERRORS : Fld := ⟨.CHR_LINK_STAT, 27, 16⟩
/-- CHR_LINK_STAT.REPLAYS, bits 15 to 0. -/
def CHR_LINK_STAT_REPLAYS : Fld := ⟨.CHR_LINK_STAT, 15, 0⟩
/-- GAZ_STATUS.LAYOUT, bits 31 to 31. -/
def GAZ_STATUS_LAYOUT : Fld := ⟨.GAZ_STATUS, 31, 31⟩
/-- GAZ_STATUS.FULL, bits 30 to 30. -/
def GAZ_STATUS_FULL : Fld := ⟨.GAZ_STATUS, 30, 30⟩
/-- GAZ_STATUS.COUNT, bits 27 to 14. -/
def GAZ_STATUS_COUNT : Fld := ⟨.GAZ_STATUS, 27, 14⟩
/-- GAZ_STATUS.NEXT, bits 12 to 0. -/
def GAZ_STATUS_NEXT : Fld := ⟨.GAZ_STATUS, 12, 0⟩
/-- GAZ_SEQ.SEQ, bits 31 to 0. -/
def GAZ_SEQ_SEQ : Fld := ⟨.GAZ_SEQ, 31, 0⟩
/-- GAZ_COUNTS.DROPPED, bits 31 to 16. -/
def GAZ_COUNTS_DROPPED : Fld := ⟨.GAZ_COUNTS, 31, 16⟩
/-- GAZ_COUNTS.CRC_BAD, bits 15 to 0. -/
def GAZ_COUNTS_CRC_BAD : Fld := ⟨.GAZ_COUNTS, 15, 0⟩
/-- DAT_TIME_LO.TIME_LO, bits 31 to 0. -/
def DAT_TIME_LO_TIME_LO : Fld := ⟨.DAT_TIME_LO, 31, 0⟩
/-- DAT_TIME_HI.UNSET, bits 31 to 31. -/
def DAT_TIME_HI_UNSET : Fld := ⟨.DAT_TIME_HI, 31, 31⟩
/-- DAT_TIME_HI.SUB, bits 14 to 10. -/
def DAT_TIME_HI_SUB : Fld := ⟨.DAT_TIME_HI, 14, 10⟩
/-- DAT_TIME_HI.TIME_HI, bits 9 to 0. -/
def DAT_TIME_HI_TIME_HI : Fld := ⟨.DAT_TIME_HI, 9, 0⟩
/-- DAT_ALARM_LO.ALARM_LO, bits 31 to 0. -/
def DAT_ALARM_LO_ALARM_LO : Fld := ⟨.DAT_ALARM_LO, 31, 0⟩
/-- DAT_ALARM_HI.ARMED, bits 31 to 31. -/
def DAT_ALARM_HI_ARMED : Fld := ⟨.DAT_ALARM_HI, 31, 31⟩
/-- DAT_ALARM_HI.ALARM_HI, bits 9 to 0. -/
def DAT_ALARM_HI_ALARM_HI : Fld := ⟨.DAT_ALARM_HI, 9, 0⟩
/-- DAT_ADJ.SLEWING, bits 31 to 31. -/
def DAT_ADJ_SLEWING : Fld := ⟨.DAT_ADJ, 31, 31⟩
/-- DAT_ADJ.REMAIN, bits 30 to 0. -/
def DAT_ADJ_REMAIN : Fld := ⟨.DAT_ADJ, 30, 0⟩
/-- DAT_EVENTS.VBAT_LOST, bits 3 to 3. -/
def DAT_EVENTS_VBAT_LOST : Fld := ⟨.DAT_EVENTS, 3, 3⟩
/-- DAT_EVENTS.ALARM, bits 2 to 2. -/
def DAT_EVENTS_ALARM : Fld := ⟨.DAT_EVENTS, 2, 2⟩
/-- DAT_EVENTS.STEP, bits 1 to 1. -/
def DAT_EVENTS_STEP : Fld := ⟨.DAT_EVENTS, 1, 1⟩
/-- DAT_EVENTS.SLEW_DONE, bits 0 to 0. -/
def DAT_EVENTS_SLEW_DONE : Fld := ⟨.DAT_EVENTS, 0, 0⟩
/-- SRV_STATUS.BRINGUP_DONE, bits 31 to 31. -/
def SRV_STATUS_BRINGUP_DONE : Fld := ⟨.SRV_STATUS, 31, 31⟩
/-- SRV_STATUS.FORCED_PENDING, bits 30 to 30. -/
def SRV_STATUS_FORCED_PENDING : Fld := ⟨.SRV_STATUS, 30, 30⟩
/-- SRV_STATUS.RUNNING, bits 18 to 16. -/
def SRV_STATUS_RUNNING : Fld := ⟨.SRV_STATUS, 18, 16⟩
/-- SRV_STATUS.QUEUED, bits 10 to 0. -/
def SRV_STATUS_QUEUED : Fld := ⟨.SRV_STATUS, 10, 0⟩
/-- SRV_EVENTS.CFG_ERR, bits 7 to 7. -/
def SRV_EVENTS_CFG_ERR : Fld := ⟨.SRV_EVENTS, 7, 7⟩
/-- SRV_EVENTS.FUSE_FAIL, bits 6 to 6. -/
def SRV_EVENTS_FUSE_FAIL : Fld := ⟨.SRV_EVENTS, 6, 6⟩
/-- SRV_EVENTS.FUSES_FULL, bits 5 to 5. -/
def SRV_EVENTS_FUSES_FULL : Fld := ⟨.SRV_EVENTS, 5, 5⟩
/-- SRV_EVENTS.FORCED, bits 4 to 4. -/
def SRV_EVENTS_FORCED : Fld := ⟨.SRV_EVENTS, 4, 4⟩
/-- SRV_EVENTS.ABORTED, bits 3 to 3. -/
def SRV_EVENTS_ABORTED : Fld := ⟨.SRV_EVENTS, 3, 3⟩
/-- SRV_EVENTS.REPAIRED, bits 2 to 2. -/
def SRV_EVENTS_REPAIRED : Fld := ⟨.SRV_EVENTS, 2, 2⟩
/-- SRV_EVENTS.TEST_FAIL, bits 1 to 1. -/
def SRV_EVENTS_TEST_FAIL : Fld := ⟨.SRV_EVENTS, 1, 1⟩
/-- SRV_EVENTS.TEST_DONE, bits 0 to 0. -/
def SRV_EVENTS_TEST_DONE : Fld := ⟨.SRV_EVENTS, 0, 0⟩
/-- SRV_CFG.MAX_RUN, bits 10 to 8. -/
def SRV_CFG_MAX_RUN : Fld := ⟨.SRV_CFG, 10, 8⟩
/-- SRV_CFG.PERIOD_H, bits 4 to 0. -/
def SRV_CFG_PERIOD_H : Fld := ⟨.SRV_CFG, 4, 0⟩
/-- SRV_LAST_UNIT.BLOCK, bits 31 to 20. -/
def SRV_LAST_UNIT_BLOCK : Fld := ⟨.SRV_LAST_UNIT, 31, 20⟩
/-- SRV_LAST_UNIT.INSTANCE, bits 19 to 8. -/
def SRV_LAST_UNIT_INSTANCE : Fld := ⟨.SRV_LAST_UNIT, 19, 8⟩
/-- SRV_LAST_UNIT.TEST, bits 7 to 4. -/
def SRV_LAST_UNIT_TEST : Fld := ⟨.SRV_LAST_UNIT, 7, 4⟩
/-- SRV_LAST_UNIT.VERDICT, bits 3 to 0. -/
def SRV_LAST_UNIT_VERDICT : Fld := ⟨.SRV_LAST_UNIT, 3, 0⟩
/-- SRV_LAST_SIG_LO.SIG_LO, bits 31 to 0. -/
def SRV_LAST_SIG_LO_SIG_LO : Fld := ⟨.SRV_LAST_SIG_LO, 31, 0⟩
/-- SRV_LAST_SIG_HI.SIG_HI, bits 31 to 0. -/
def SRV_LAST_SIG_HI_SIG_HI : Fld := ⟨.SRV_LAST_SIG_HI, 31, 0⟩
/-- SRV_FUSES.LEFT_MIN, bits 25 to 16. -/
def SRV_FUSES_LEFT_MIN : Fld := ⟨.SRV_FUSES, 25, 16⟩
/-- SRV_FUSES.SOFT, bits 15 to 0. -/
def SRV_FUSES_SOFT : Fld := ⟨.SRV_FUSES, 15, 0⟩
/-- POR_STATUS.BUSY, bits 31 to 31. -/
def POR_STATUS_BUSY : Fld := ⟨.POR_STATUS, 31, 31⟩
/-- POR_STATUS.OP, bits 30 to 29. -/
def POR_STATUS_OP : Fld := ⟨.POR_STATUS, 30, 29⟩
/-- POR_STATUS.SUSPENDED, bits 28 to 28. -/
def POR_STATUS_SUSPENDED : Fld := ⟨.POR_STATUS, 28, 28⟩
/-- POR_STATUS.SPARES_LEFT, bits 9 to 0. -/
def POR_STATUS_SPARES_LEFT : Fld := ⟨.POR_STATUS, 9, 0⟩
/-- POR_WEAR.MAX_KCYCLES, bits 31 to 16. -/
def POR_WEAR_MAX_KCYCLES : Fld := ⟨.POR_WEAR, 31, 16⟩
/-- POR_WEAR.SECTOR, bits 13 to 0. -/
def POR_WEAR_SECTOR : Fld := ⟨.POR_WEAR, 13, 0⟩
/-- POR_EVENTS.WORN, bits 5 to 5. -/
def POR_EVENTS_WORN : Fld := ⟨.POR_EVENTS, 5, 5⟩
/-- POR_EVENTS.REMAPPED, bits 4 to 4. -/
def POR_EVENTS_REMAPPED : Fld := ⟨.POR_EVENTS, 4, 4⟩
/-- POR_EVENTS.REPAIRED, bits 3 to 3. -/
def POR_EVENTS_REPAIRED : Fld := ⟨.POR_EVENTS, 3, 3⟩
/-- POR_EVENTS.REFUSED, bits 2 to 2. -/
def POR_EVENTS_REFUSED : Fld := ⟨.POR_EVENTS, 2, 2⟩
/-- POR_EVENTS.VERIFY_FAIL, bits 1 to 1. -/
def POR_EVENTS_VERIFY_FAIL : Fld := ⟨.POR_EVENTS, 1, 1⟩
/-- POR_EVENTS.CFG_ERR, bits 0 to 0. -/
def POR_EVENTS_CFG_ERR : Fld := ⟨.POR_EVENTS, 0, 0⟩
/-- POR_CFG_SEL.WORD, bits 2 to 0. -/
def POR_CFG_SEL_WORD : Fld := ⟨.POR_CFG_SEL, 2, 0⟩
/-- POR_CFG_DATA.DATA, bits 31 to 0. -/
def POR_CFG_DATA_DATA : Fld := ⟨.POR_CFG_DATA, 31, 0⟩
/-- POR_CFG_CTL.COMMIT, bits 0 to 0. -/
def POR_CFG_CTL_COMMIT : Fld := ⟨.POR_CFG_CTL, 0, 0⟩
/-- UPD_BOOT.SLOT, bits 31 to 30. -/
def UPD_BOOT_SLOT : Fld := ⟨.UPD_BOOT, 31, 30⟩
/-- UPD_BOOT.LAST_BOOT, bits 29 to 29. -/
def UPD_BOOT_LAST_BOOT : Fld := ⟨.UPD_BOOT, 29, 29⟩
/-- UPD_BOOT.TRIAL, bits 28 to 28. -/
def UPD_BOOT_TRIAL : Fld := ⟨.UPD_BOOT, 28, 28⟩
/-- UPD_BOOT.PRIMARY, bits 27 to 26. -/
def UPD_BOOT_PRIMARY : Fld := ⟨.UPD_BOOT, 27, 26⟩
/-- UPD_BOOT.PREVIOUS, bits 25 to 24. -/
def UPD_BOOT_PREVIOUS : Fld := ⟨.UPD_BOOT, 25, 24⟩
/-- UPD_SESSION.ACTIVE, bits 31 to 31. -/
def UPD_SESSION_ACTIVE : Fld := ⟨.UPD_SESSION, 31, 31⟩
/-- UPD_SESSION.REMOTE, bits 30 to 30. -/
def UPD_SESSION_REMOTE : Fld := ⟨.UPD_SESSION, 30, 30⟩
/-- UPD_SESSION.SLOT, bits 29 to 28. -/
def UPD_SESSION_SLOT : Fld := ⟨.UPD_SESSION, 29, 28⟩
/-- UPD_SESSION.ROUTE, bits 27 to 26. -/
def UPD_SESSION_ROUTE : Fld := ⟨.UPD_SESSION, 27, 26⟩
/-- UPD_SESSION.QUEUED, bits 25 to 21. -/
def UPD_SESSION_QUEUED : Fld := ⟨.UPD_SESSION, 25, 21⟩
/-- UPD_SESSION.NEXT_CHUNK, bits 12 to 0. -/
def UPD_SESSION_NEXT_CHUNK : Fld := ⟨.UPD_SESSION, 12, 0⟩
/-- UPD_SCHED.VALID, bits 31 to 31. -/
def UPD_SCHED_VALID : Fld := ⟨.UPD_SCHED, 31, 31⟩
/-- UPD_SCHED.DRAINING, bits 30 to 30. -/
def UPD_SCHED_DRAINING : Fld := ⟨.UPD_SCHED, 30, 30⟩
/-- UPD_SCHED.SLOT, bits 29 to 28. -/
def UPD_SCHED_SLOT : Fld := ⟨.UPD_SCHED, 29, 28⟩
/-- UPD_SCHED.DRAIN_MS, bits 15 to 0. -/
def UPD_SCHED_DRAIN_MS : Fld := ⟨.UPD_SCHED, 15, 0⟩
/-- UPD_SCHED_GROUP.GROUP_ID, bits 31 to 0. -/
def UPD_SCHED_GROUP_GROUP_ID : Fld := ⟨.UPD_SCHED_GROUP, 31, 0⟩
/-- UPD_SCHED_LEFT.MS, bits 31 to 0. -/
def UPD_SCHED_LEFT_MS : Fld := ⟨.UPD_SCHED_LEFT, 31, 0⟩
/-- UPD_RELAY_CFG.DN_ENABLE, bits 1 to 1. -/
def UPD_RELAY_CFG_DN_ENABLE : Fld := ⟨.UPD_RELAY_CFG, 1, 1⟩
/-- UPD_RELAY_CFG.FOLLOW, bits 0 to 0. -/
def UPD_RELAY_CFG_FOLLOW : Fld := ⟨.UPD_RELAY_CFG, 0, 0⟩
/-- UPD_RELAY_STATUS.UP_LINK, bits 31 to 31. -/
def UPD_RELAY_STATUS_UP_LINK : Fld := ⟨.UPD_RELAY_STATUS, 31, 31⟩
/-- UPD_RELAY_STATUS.DN_LINK, bits 30 to 30. -/
def UPD_RELAY_STATUS_DN_LINK : Fld := ⟨.UPD_RELAY_STATUS, 30, 30⟩
/-- UPD_RELAY_STATUS.UP_VERSION, bits 27 to 24. -/
def UPD_RELAY_STATUS_UP_VERSION : Fld := ⟨.UPD_RELAY_STATUS, 27, 24⟩
/-- UPD_RELAY_STATUS.DN_VERSION, bits 23 to 20. -/
def UPD_RELAY_STATUS_DN_VERSION : Fld := ⟨.UPD_RELAY_STATUS, 23, 20⟩
/-- UPD_RELAY_STATUS.POSITION, bits 19 to 14. -/
def UPD_RELAY_STATUS_POSITION : Fld := ⟨.UPD_RELAY_STATUS, 19, 14⟩
/-- UPD_RELAY_STATUS.HOP_NS, bits 13 to 0. -/
def UPD_RELAY_STATUS_HOP_NS : Fld := ⟨.UPD_RELAY_STATUS, 13, 0⟩
/-- UPD_RELAY_CNT.DISCARDED, bits 31 to 24. -/
def UPD_RELAY_CNT_DISCARDED : Fld := ⟨.UPD_RELAY_CNT, 31, 24⟩
/-- UPD_RELAY_CNT.ACK_DROPPED, bits 23 to 16. -/
def UPD_RELAY_CNT_ACK_DROPPED : Fld := ⟨.UPD_RELAY_CNT, 23, 16⟩
/-- UPD_RELAY_CNT.CRC_ERRORS, bits 15 to 8. -/
def UPD_RELAY_CNT_CRC_ERRORS : Fld := ⟨.UPD_RELAY_CNT, 15, 8⟩
/-- UPD_RELAY_CNT.REPLAYS, bits 7 to 0. -/
def UPD_RELAY_CNT_REPLAYS : Fld := ⟨.UPD_RELAY_CNT, 7, 0⟩
/-- UPD_EVENTS.CHAIN_LONG, bits 7 to 7. -/
def UPD_EVENTS_CHAIN_LONG : Fld := ⟨.UPD_EVENTS, 7, 7⟩
/-- UPD_EVENTS.LINK_DOWN, bits 6 to 6. -/
def UPD_EVENTS_LINK_DOWN : Fld := ⟨.UPD_EVENTS, 6, 6⟩
/-- UPD_EVENTS.ACTIVATION_LATE, bits 5 to 5. -/
def UPD_EVENTS_ACTIVATION_LATE : Fld := ⟨.UPD_EVENTS, 5, 5⟩
/-- UPD_EVENTS.SCHED_REJECTED, bits 4 to 4. -/
def UPD_EVENTS_SCHED_REJECTED : Fld := ⟨.UPD_EVENTS, 4, 4⟩
/-- UPD_EVENTS.DRAIN_START, bits 3 to 3. -/
def UPD_EVENTS_DRAIN_START : Fld := ⟨.UPD_EVENTS, 3, 3⟩
/-- UPD_EVENTS.FALLBACK, bits 2 to 2. -/
def UPD_EVENTS_FALLBACK : Fld := ⟨.UPD_EVENTS, 2, 2⟩
/-- UPD_EVENTS.STORE_FAIL, bits 1 to 1. -/
def UPD_EVENTS_STORE_FAIL : Fld := ⟨.UPD_EVENTS, 1, 1⟩
/-- UPD_EVENTS.STORE_DONE, bits 0 to 0. -/
def UPD_EVENTS_STORE_DONE : Fld := ⟨.UPD_EVENTS, 0, 0⟩
/-- UPD_CHAIN_SEL.POSITION, bits 5 to 0. -/
def UPD_CHAIN_SEL_POSITION : Fld := ⟨.UPD_CHAIN_SEL, 5, 0⟩
/-- UPD_CHAIN_INFO.PRESENT, bits 31 to 31. -/
def UPD_CHAIN_INFO_PRESENT : Fld := ⟨.UPD_CHAIN_INFO, 31, 31⟩
/-- UPD_CHAIN_INFO.LAST_BOOT, bits 30 to 30. -/
def UPD_CHAIN_INFO_LAST_BOOT : Fld := ⟨.UPD_CHAIN_INFO, 30, 30⟩
/-- UPD_CHAIN_INFO.SLOT, bits 29 to 28. -/
def UPD_CHAIN_INFO_SLOT : Fld := ⟨.UPD_CHAIN_INFO, 29, 28⟩
/-- UPD_CHAIN_INFO.STORE, bits 27 to 26. -/
def UPD_CHAIN_INFO_STORE : Fld := ⟨.UPD_CHAIN_INFO, 27, 26⟩
/-- UPD_CHAIN_INFO.SCHED, bits 25 to 24. -/
def UPD_CHAIN_INFO_SCHED : Fld := ⟨.UPD_CHAIN_INFO, 25, 24⟩
/-- UPD_CHAIN_VER.FW_VERSION, bits 31 to 0. -/
def UPD_CHAIN_VER_FW_VERSION : Fld := ⟨.UPD_CHAIN_VER, 31, 0⟩
/-- HST_SENTINEL.MAGIC, bits 31 to 16. -/
def HST_SENTINEL_MAGIC : Fld := ⟨.HST_SENTINEL, 31, 16⟩
/-- HST_SENTINEL.LAYOUT, bits 15 to 0. -/
def HST_SENTINEL_LAYOUT : Fld := ⟨.HST_SENTINEL, 15, 0⟩
/-- HST_FN_INFO.PF, bits 31 to 31. -/
def HST_FN_INFO_PF : Fld := ⟨.HST_FN_INFO, 31, 31⟩
/-- HST_FN_INFO.PORT, bits 30 to 30. -/
def HST_FN_INFO_PORT : Fld := ⟨.HST_FN_INFO, 30, 30⟩
/-- HST_FN_INFO.WIN_SIZE, bits 23 to 20. -/
def HST_FN_INFO_WIN_SIZE : Fld := ⟨.HST_FN_INFO, 23, 20⟩
/-- HST_FN_INFO.DCS_WINDOWS, bits 19 to 16. -/
def HST_FN_INFO_DCS_WINDOWS : Fld := ⟨.HST_FN_INFO, 19, 16⟩
/-- HST_FN_INFO.FUNCTION, bits 7 to 0. -/
def HST_FN_INFO_FUNCTION : Fld := ⟨.HST_FN_INFO, 7, 0⟩
/-- HST_FN_CTRL.MBX_VECTOR, bits 10 to 0. -/
def HST_FN_CTRL_MBX_VECTOR : Fld := ⟨.HST_FN_CTRL, 10, 0⟩
/-- HST_FN_STATUS.SQ_STALLED, bits 2 to 2. -/
def HST_FN_STATUS_SQ_STALLED : Fld := ⟨.HST_FN_STATUS, 2, 2⟩
/-- HST_FN_STATUS.DIRECT_SHORT, bits 1 to 1. -/
def HST_FN_STATUS_DIRECT_SHORT : Fld := ⟨.HST_FN_STATUS, 1, 1⟩
/-- HST_FN_STATUS.FN_READY, bits 0 to 0. -/
def HST_FN_STATUS_FN_READY : Fld := ⟨.HST_FN_STATUS, 0, 0⟩
/-- HST_FN_EVENTS.CFG_ERR, bits 4 to 4. -/
def HST_FN_EVENTS_CFG_ERR : Fld := ⟨.HST_FN_EVENTS, 4, 4⟩
/-- HST_FN_EVENTS.ACCESS_ERR, bits 3 to 3. -/
def HST_FN_EVENTS_ACCESS_ERR : Fld := ⟨.HST_FN_EVENTS, 3, 3⟩
/-- HST_FN_EVENTS.POISONED_WR, bits 2 to 2. -/
def HST_FN_EVENTS_POISONED_WR : Fld := ⟨.HST_FN_EVENTS, 2, 2⟩
/-- HST_FN_EVENTS.SQ_STALLED, bits 1 to 1. -/
def HST_FN_EVENTS_SQ_STALLED : Fld := ⟨.HST_FN_EVENTS, 1, 1⟩
/-- HST_FN_EVENTS.CPL_TIMEOUT, bits 0 to 0. -/
def HST_FN_EVENTS_CPL_TIMEOUT : Fld := ⟨.HST_FN_EVENTS, 0, 0⟩
/-- HST_LINK.RATE_GBPS, bits 23 to 16. -/
def HST_LINK_RATE_GBPS : Fld := ⟨.HST_LINK, 23, 16⟩
/-- HST_LINK.FLIT, bits 12 to 12. -/
def HST_LINK_FLIT : Fld := ⟨.HST_LINK, 12, 12⟩
/-- HST_LINK.GEN, bits 11 to 8. -/
def HST_LINK_GEN : Fld := ⟨.HST_LINK, 11, 8⟩
/-- HST_LINK.WIDTH, bits 4 to 0. -/
def HST_LINK_WIDTH : Fld := ⟨.HST_LINK, 4, 0⟩
/-- HST_GAZ_PAGE.PAGE, bits 3 to 0. -/
def HST_GAZ_PAGE_PAGE : Fld := ⟨.HST_GAZ_PAGE, 3, 0⟩
/-- HST_DCS_WIN.BLOCK, bits 7 to 0. -/
def HST_DCS_WIN_BLOCK : Fld := ⟨.HST_DCS_WIN, 7, 0⟩
/-- HST_CLASS_MASK_LO.MASK, bits 31 to 0. -/
def HST_CLASS_MASK_LO_MASK : Fld := ⟨.HST_CLASS_MASK_LO, 31, 0⟩
/-- HST_CLASS_MASK_HI.MASK, bits 31 to 0. -/
def HST_CLASS_MASK_HI_MASK : Fld := ⟨.HST_CLASS_MASK_HI, 31, 0⟩
/-- HST_CLASS_DEFAULT.CLASS, bits 5 to 0. -/
def HST_CLASS_DEFAULT_CLASS : Fld := ⟨.HST_CLASS_DEFAULT, 5, 0⟩
/-- HST_QCLASS.BOUND, bits 31 to 31. -/
def HST_QCLASS_BOUND : Fld := ⟨.HST_QCLASS, 31, 31⟩
/-- HST_QCLASS.WAITING, bits 30 to 30. -/
def HST_QCLASS_WAITING : Fld := ⟨.HST_QCLASS, 30, 30⟩
/-- HST_QCLASS.CLASS, bits 5 to 0. -/
def HST_QCLASS_CLASS : Fld := ⟨.HST_QCLASS, 5, 0⟩
/-- HST_PROMISE_STATUS.DRAIN, bits 6 to 6. -/
def HST_PROMISE_STATUS_DRAIN : Fld := ⟨.HST_PROMISE_STATUS, 6, 6⟩
/-- HST_PROMISE_STATUS.CLASS_UNFIT, bits 5 to 5. -/
def HST_PROMISE_STATUS_CLASS_UNFIT : Fld := ⟨.HST_PROMISE_STATUS, 5, 5⟩
/-- HST_PROMISE_STATUS.MAP_REBUILD, bits 4 to 4. -/
def HST_PROMISE_STATUS_MAP_REBUILD : Fld := ⟨.HST_PROMISE_STATUS, 4, 4⟩
/-- HST_PROMISE_STATUS.CRIT_TRIP, bits 0 to 0. -/
def HST_PROMISE_STATUS_CRIT_TRIP : Fld := ⟨.HST_PROMISE_STATUS, 0, 0⟩
/-- HST_PROMISE_EVENTS.DEADLINE_MISS, bits 7 to 7. -/
def HST_PROMISE_EVENTS_DEADLINE_MISS : Fld := ⟨.HST_PROMISE_EVENTS, 7, 7⟩
/-- HST_PROMISE_EVENTS.ACTIVATION, bits 6 to 6. -/
def HST_PROMISE_EVENTS_ACTIVATION : Fld := ⟨.HST_PROMISE_EVENTS, 6, 6⟩
/-- HST_PROMISE_EVENTS.CLASS_UNFIT, bits 5 to 5. -/
def HST_PROMISE_EVENTS_CLASS_UNFIT : Fld := ⟨.HST_PROMISE_EVENTS, 5, 5⟩
/-- HST_PROMISE_EVENTS.MAP_REBUILD, bits 4 to 4. -/
def HST_PROMISE_EVENTS_MAP_REBUILD : Fld := ⟨.HST_PROMISE_EVENTS, 4, 4⟩
/-- HST_PROMISE_EVENTS.FN_RESET, bits 3 to 3. -/
def HST_PROMISE_EVENTS_FN_RESET : Fld := ⟨.HST_PROMISE_EVENTS, 3, 3⟩
/-- HST_PROMISE_EVENTS.DEVICE_RESET, bits 2 to 2. -/
def HST_PROMISE_EVENTS_DEVICE_RESET : Fld := ⟨.HST_PROMISE_EVENTS, 2, 2⟩
/-- HST_PROMISE_EVENTS.HOLDUP, bits 1 to 1. -/
def HST_PROMISE_EVENTS_HOLDUP : Fld := ⟨.HST_PROMISE_EVENTS, 1, 1⟩
/-- HST_PROMISE_EVENTS.CRIT_TRIP, bits 0 to 0. -/
def HST_PROMISE_EVENTS_CRIT_TRIP : Fld := ⟨.HST_PROMISE_EVENTS, 0, 0⟩
/-- HST_DEADLINE_MISS.COUNT, bits 15 to 0. -/
def HST_DEADLINE_MISS_COUNT : Fld := ⟨.HST_DEADLINE_MISS, 15, 0⟩
/-- MBX_DOORBELL.RESP_DONE, bits 1 to 1. -/
def MBX_DOORBELL_RESP_DONE : Fld := ⟨.MBX_DOORBELL, 1, 1⟩
/-- MBX_DOORBELL.RING, bits 0 to 0. -/
def MBX_DOORBELL_RING : Fld := ⟨.MBX_DOORBELL, 0, 0⟩
/-- MBX_STATUS.HANDLES, bits 20 to 16. -/
def MBX_STATUS_HANDLES : Fld := ⟨.MBX_STATUS, 20, 16⟩
/-- MBX_STATUS.SEG_TAKEN, bits 3 to 3. -/
def MBX_STATUS_SEG_TAKEN : Fld := ⟨.MBX_STATUS, 3, 3⟩
/-- MBX_STATUS.RESP_MORE, bits 2 to 2. -/
def MBX_STATUS_RESP_MORE : Fld := ⟨.MBX_STATUS, 2, 2⟩
/-- MBX_STATUS.RESP_READY, bits 1 to 1. -/
def MBX_STATUS_RESP_READY : Fld := ⟨.MBX_STATUS, 1, 1⟩
/-- MBX_STATUS.BUSY, bits 0 to 0. -/
def MBX_STATUS_BUSY : Fld := ⟨.MBX_STATUS, 0, 0⟩
/-- MBX_EVENTS.SESSION_RESET, bits 4 to 4. -/
def MBX_EVENTS_SESSION_RESET : Fld := ⟨.MBX_EVENTS, 4, 4⟩
/-- MBX_EVENTS.OVERRUN, bits 3 to 3. -/
def MBX_EVENTS_OVERRUN : Fld := ⟨.MBX_EVENTS, 3, 3⟩
/-- MBX_EVENTS.OP_DONE, bits 2 to 2. -/
def MBX_EVENTS_OP_DONE : Fld := ⟨.MBX_EVENTS, 2, 2⟩
/-- MBX_EVENTS.SEG_TAKEN, bits 1 to 1. -/
def MBX_EVENTS_SEG_TAKEN : Fld := ⟨.MBX_EVENTS, 1, 1⟩
/-- MBX_EVENTS.RESP, bits 0 to 0. -/
def MBX_EVENTS_RESP : Fld := ⟨.MBX_EVENTS, 0, 0⟩
/-- MBX_SESSION.MAX_VERSION, bits 15 to 8. -/
def MBX_SESSION_MAX_VERSION : Fld := ⟨.MBX_SESSION, 15, 8⟩
/-- MBX_SESSION.VERSION, bits 7 to 0. -/
def MBX_SESSION_VERSION : Fld := ⟨.MBX_SESSION, 7, 0⟩
end F

/-- Event register numbers of Table 23-8 (R662). -/
def Reg.eventNumber : Reg → Option Nat
  | .PLT_EVENTS => some 1
  | .ATL_EVENTS => some 2
  | .ATL_JRNL_WM => some 3
  | .SVY_MEDIA_EVENTS => some 4
  | .SVY_FREE_WM => some 5
  | .PAR_EVENTS => some 6
  | .PAR_JRNL_WM => some 7
  | .FCH_EVENTS => some 8
  | .TRV_ENG => some 9
  | .LDP_EVENTS => some 10
  | .SHB_EVENTS => some 11
  | .SHB_BAY => some 12
  | .TIL_EVENTS => some 13
  | .TIL_POOL_WM => some 14
  | .DRC_CH_EVENTS => some 15
  | .CIP_EVENTS => some 16
  | .LEG_EVENTS => some 17
  | .PWR_EVENTS => some 18
  | .CTR_EVENTS => some 19
  | .CTR_TEMP_WM => some 20
  | .DAT_EVENTS => some 21
  | .SRV_EVENTS => some 22
  | .POR_EVENTS => some 23
  | .UPD_EVENTS => some 24
  | .FLT_INJ_STATUS => some 25
  | .CHR_ALERT_STATUS => some 26
  | .HST_FN_EVENTS => some 27
  | .HST_PROMISE_EVENTS => some 28
  | .MBX_EVENTS => some 29
  | _ => none

end Sys2Proof.Machine
end

