-- ==== Sys2Proof/Machine/StChartroom.lean ====
section
/-! DEFINITION. State of the Chartroom die's own services: fault words and FAULT_N (chapter 18), the Gazetteer, Datum
and the management port (chapter 19), modes, power and holdup (chapter 16). -/

namespace Sys2Proof.Machine

/-- An injection armed on one checker (R553): transactions left and SINGLE. -/
structure Injection where
  checker : Nat
  left : Nat
  single : Bool
  deriving DecidableEq, Repr

/-- The fault words and fence state of one instance of Table 18-2 (R536, R544, R547). -/
structure FltUnit where
  fenced : Bool          -- FLT_STATUS.FENCED
  ind : Bool             -- FLT_STATUS.FENCE_IND (R544, R546)
  isolated : Bool        -- FLT_STATUS.ISOLATED (R539)
  lastClass : Nat        -- LAST_CLASS, Table 18-1
  lastCause : Nat        -- LAST_CAUSE, Table 18-3
  ev : W32               -- event bits [8:3] of FLT_STATUS, in place
  mask : Nat             -- FLT_MASK.MASK
  corr : Nat             -- FLT_CTL.CORR_CNT
  cont : Nat             -- FLT_CTL.CONT_CNT
  inj : List Injection   -- FLT_CTL.INJ_ACTIVE and FLT_INJ_STATUS.LEFT
  causes : List Nat      -- causes already recorded within this fence (R538)
  partners : List Nat    -- fenced partners already recorded (R545)
  corrFrame : Option Nat -- frame of the last CORRECTED record (R535)
  corrSince : Nat        -- corrected faults since that record
  requal : Option Nat    -- a unit reset running, with the handle of its requester (R547, R548)
  requalBad : Bool       -- a fault of the instance during its re-qualification (Table 18-6)
  deriving DecidableEq, Repr

def FltUnit.reset : FltUnit :=
  ⟨false, false, false, 0, 0, 0#32, 1, 0, 0, [], [], [], none, 0, none, false⟩

/-- A Gazetteer record (Table 19-4). -/
structure GazRec where
  time : Nat       -- [41:0] Datum time of the first occurrence
  lastDelta : Nat  -- [63:42]
  block : Nat      -- SOURCE [11:0]
  inst : Nat       -- SOURCE [23:12]
  sev : Nat        -- SOURCE [27:24]
  unset : Bool     -- SOURCE [28]
  code : Nat
  rep : Nat        -- REPEAT
  data : Nat       -- 64 bits
  seq : Nat        -- 32 bits
  crc : Nat        -- CRC-16 over bytes 0 to 29
  deriving DecidableEq, Repr

/-- An empty position reads all zeros (R569). -/
def GazRec.empty : GazRec := ⟨0, 0, 0, 0, 0, false, 0, 0, 0, 0, 0⟩

/-- The live Gazetteer (R569 to R575) and its persisted copy (R574). -/
structure Gaz where
  vg40 : Bool              -- LAYOUT: false native, true VG-40
  next : Nat               -- NEXT
  full : Bool              -- FULL
  count : Nat              -- COUNT
  seq : Nat                -- SEQ of the next new record
  recent : Option Nat      -- position of the most recent record
  recs : Tab GazRec        -- 8,192 positions; unlisted = empty
  dirty : List Nat         -- changed 4 KiB sectors not yet persisted
  saved : Tab GazRec       -- the Portolan Gazetteer area
  tail : List GazRec       -- records in the tail rows (R574), at most 256
  deriving DecidableEq, Repr

def Gaz.reset : Gaz := ⟨false, 0, false, 0, 0, none, [], [], [], []⟩

/-- Datum, on VBAT (R565 to R568): the count as it stood at clock time `since`, and what is still to slew. -/
structure Datum where
  count : Nat              -- 47-bit count of 32,768 Hz cycles at `since`
  since : Nat              -- clock tick of that count
  frac : Nat               -- the part of a cycle beyond it, over `datumDen`
  compT : Int              -- temperature its rate is compensated for, 1/16 °C (R527)
  unset : Bool
  slewLeft : Int           -- cycles still to add (negative: to drop)
  slewAcc : Nat            -- cycles since the last one added or dropped
  slewing : Bool
  armed : Bool
  alarm : Nat              -- 42-bit alarm time
  hiLatch : W32            -- DAT_TIME_HI as latched by a read of DAT_TIME_LO (R567)
  deriving DecidableEq, Repr

/-- The VBAT domain at its first power: UNSET; the rate is that of 25 °C. -/
def Datum.reset : Datum := ⟨0, 0, 0, 400, true, 0, 0, false, false, 0, 0#32⟩

/-- A secured SPDM session (R562). -/
structure SpdmSession where
  id : Nat
  ep : Nat                 -- endpoint: 0 bus, 1 port A, 2 port B
  mutAuth : Bool           -- mutually authenticated with an owner certificate (R563)
  established : Bool       -- FINISH has completed
  lastBeat : Nat           -- clock tick of the last heartbeat
  keyGen : Nat             -- key updates applied
  deriving DecidableEq, Repr

/-- The SPDM connection of one endpoint: how far its negotiation has come (R562). -/
structure SpdmConn where
  stage : Nat              -- 0 none, 1 version, 2 capabilities, 3 algorithms
  challenged : Bool
  deriving DecidableEq, Repr

def SpdmConn.reset : SpdmConn := ⟨0, false⟩

/-- The management port (R559 to R564). -/
structure Mgmt where
  i3c : Bool               -- bus mode, from Portolan
  addr : Nat               -- bus address, from Portolan
  eid : Tab Nat            -- EID of endpoint 0 bus, 1 port A, 2 port B; unlisted 0
  conn : Tab SpdmConn
  sessions : List SpdmSession
  nextSession : Nat
  araHold : Bool           -- ALERT_N released by an Alert Response Address read until a further cause sets
  deriving DecidableEq, Repr

def Mgmt.reset : Mgmt := ⟨false, 0x1D, [], [], [], 1, false⟩

/-- The six modes of Table 16-1, and stopped after HOLDUP (R487). -/
inductive Mode where
  | vault | dormant | ready | service | degraded | holdup | stopped
  deriving DecidableEq, Repr

/-- The dump of R498 and its record (Table 16-5). -/
structure DumpRec where
  cause : Nat
  complete : Bool
  datum : Nat
  datumUnset : Bool
  stageEpoch : Nat
  set : Nat
  stagedBytes : Nat
  slots : Nat
  tailBlocks : Nat
  seq : Nat
  deriving DecidableEq, Repr

/-- The capacitor-health test (R502). -/
inductive CapPhase where
  | idle | steady | draining | discharging | recharging
  deriving DecidableEq, Repr

structure CapTest where
  phase : CapPhase
  handle : Option Nat      -- OP handle of a HOLDUP_TEST requester
  v1 : Nat                 -- mV
  vs : Nat                 -- mV, 10 µs after HOLD_TEST_EN
  eTest : Nat              -- mJ: the energy of B_test (R504)
  startAt : Nat            -- clock tick at which the discharge began
  newBudget : Nat          -- bytes, applied when the bank has recharged
  deriving DecidableEq, Repr

def CapTest.reset : CapTest := ⟨.idle, none, 0, 0, 0, 0, 0⟩

/-- Modes, power and holdup (chapter 16). -/
structure Power where
  mode : Mode
  pstate : Nat             -- PSTATE, 0 to 4
  entering : Option Nat    -- step of R490 in progress
  held : Bool              -- READY held in PS3 by MODE_REQUEST (R491)
  cause : Nat              -- cause of the HOLDUP in progress or last: 1 PWR_FAIL_N, 2 rail, 3 DEVICE
  lowOnStop : Bool         -- FAULT_N driven low after a DEVICE-class stop (R552)
  dumpParts : Bool         -- every part of the dump so far passed its program
  dumpAbort : Bool         -- the dump record will not be written (R495)
  dumps : List DumpRec     -- dump records in Portolan, newest first (two copies each, R498)
  dumpSeq : Nat
  armedSet : Nat           -- armed HOLDUP set, 0 or 1 (R501)
  writtenSet : Option Nat  -- set written by the last dump, not yet replayed
  eraseSet : Option Nat    -- set replayed and being erased: armed again once it is FREE (R501)
  stageEpoch : Nat         -- staging epoch e of R461
  budget : Nat             -- staging budget in bytes (R503)
  stagingUse : Nat         -- staging bytes booked (R505)
  cPrev : Option Nat       -- capacitance of the last passed test, in µF
  eMeasured : Nat          -- mJ, last passed test
  esr : Nat                -- mΩ, last test
  lastTestFrame : Nat      -- frame of the last test
  lastTestAt : Nat         -- Datum time of the last test (HOLDUP_AT)
  testDormant : Nat        -- frames of DORMANT since it, as the always-on domain counts them (R502)
  dormantAt : Nat          -- clock tick at which DORMANT was entered
  tested : Bool            -- the bring-up test has ended (R502)
  failed : Bool            -- the last test failed: the budget is 0 until one passes (R502)
  test : CapTest
  holdEn : Bool            -- HOLD_EN pin
  holdTestEn : Bool        -- HOLD_TEST_EN pin
  pwrFailN : Bool          -- level of PWR_FAIL_N
  wakeOut : Bool           -- the device drives WAKE_N low (R493)
  railsTripped : Nat       -- RAILS_TRIPPED
  avsAt : Option Nat       -- clock tick of the last AVS request (R496)
  entryDatum : Nat         -- Datum word at HOLDUP entry (Table 16-5)
  deriving DecidableEq, Repr

/-- The FAULT_N pin (R549 to R552); ARMED, LEVEL, PULSE_MS are FLT_PIN_CTL's fields. -/
structure FaultPin where
  pulsing : Bool
  deriving DecidableEq, Repr

end Sys2Proof.Machine
end

