-- ==== Sys2Proof/Machine/StCore.lean ====
section
/-! DEFINITION. State of tiles and DRAM (chapter 14), the cipher engine and Legend (15), Contour (17), Portolan, update and
relay (20), Survey (21) and start-up (24). -/

namespace Sys2Proof.Machine

/-- A tile's state (R427). -/
inductive TileState where
  | free | allocated | retired
  deriving DecidableEq, Repr

/-- A tile control word (Table 14-1). -/
structure Tile where
  st : TileState
  retire : Bool
  pool : Nat
  ref : Nat
  deriving DecidableEq, Repr

/-- A tile pool (R432, R434, R435). -/
structure TPool where
  size : Nat
  free : List Nat          -- free list, head first
  reserved : Nat
  inUse : Nat
  target : Nat             -- applied target
  limit : Nat              -- target the Plotter uses, taken at a frame boundary (R434)
  deriving DecidableEq, Repr

/-- The tile pool (chapter 14). -/
structure Til where
  tile : Tab Tile          -- unlisted = FREE in its reset pool
  pool : List TPool
  resizing : Bool
  retired : Nat
  deriving DecidableEq, Repr

/-- A request in a DRAM channel queue (R446 to R450). -/
structure DReq where
  id : Nat
  port : Nat
  arrival : Nat
  bank : Nat
  row : Nat
  addr : Nat
  wr : Bool
  deriving DecidableEq, Repr

/-- A DRAM channel (R442 to R453). -/
structure Dram where
  trained : Bool
  fenced : Bool
  highTemp : Bool
  selfRef : Bool           -- self-refresh
  queue : List DReq
  waiting : List DReq      -- reads issued, data not yet returned
  rows : Tab Nat           -- open row of a bank, plus 1; 0 closed
  refDue : List (Nat × Nat) -- refreshes due and not issued, oldest first: rank, clock tick at which it fell due
  maint : List (Nat × Nat) -- calibration due, oldest first: 1 ZQ or 2 DQS retraining, clock tick at which it fell due
  ues : List (Nat × Nat)   -- remembered uncorrectable errors: (region, frame), at most 16
  regions : List Nat       -- fenced 64 MiB regions
  returning : Bool         -- DRAM_MARCH of them has passed: they return at the next device reset (R617)
  deriving DecidableEq, Repr

def Dram.reset : Dram := ⟨false, false, false, false, [], [], [], [], [], [], [], false⟩

/-- One entry of a Legend slot (R468). -/
structure KeyEnt where
  kind : Nat               -- 0 XTS-AES-256, 1 AES-256-GCM
  gen : Nat
  key : Nat                -- identity of the key held (the key itself is not visible)
  deriving DecidableEq, Repr

/-- A Legend slot (R468 to R477). -/
structure KSlot where
  cur : Option KeyEnt
  shadow : Option KeyEnt
  owner : Nat
  nsid : Nat
  lastGen : Nat
  fenced : Bool
  cursor : Nat             -- rekey sweep cursor
  waits : List Nat         -- staging slots of the namespace staged before step 2 of its REKEY (R473)
  handle : Option Nat      -- OP handle of the REKEY running
  deriving DecidableEq, Repr

def KSlot.reset : KSlot := ⟨none, none, 0, 0, 0, false, 0, [], none⟩

/-- A live nonce (R482): requester path, nonce identity, frame of issue. -/
structure Nonce where
  path : Nat
  value : Nat
  frame : Nat
  deriving DecidableEq, Repr

/-- The cipher engine, Legend and field access (chapter 15). -/
structure Cip where
  slot : Tab KSlot
  jobs : Tab Nat           -- jobs queued by lane
  kappa : Nat              -- κ_c × 1,000
  nonces : List Nonce
  failures : Nat           -- always-on
  lockFrom : Option Nat    -- clock tick at which the lockout in force began (always-on)
  lockAgain : Bool         -- VBAT was lost in a lockout: its hour starts again at the next power-up (R484)
  open_ : Bool             -- field access open
  keyCount : Nat           -- identity of the next key drawn or imported
  cache : Tab (List Nat)   -- keys whose schedules a lane holds, latest first, at most 8 (R469): 65,536 × slot + GENERATION
  deriving DecidableEq, Repr

def Cip.reset : Cip := ⟨[], [], 1000, [], 0, none, false, false, 0, []⟩

/-- A region of Contour (R508, R512 to R515, R521). Temperatures in 1/16 °C. -/
structure Region where
  model : Int              -- model value
  anchored : Bool          -- it has been anchored since device reset
  ageAt : Nat              -- clock tick of the last anchor
  hist : List Int          -- model values of the last 100 frames, newest first, anchors taken out
  calm : Nat               -- consecutive frames with its power below 5% of peak
  deriving DecidableEq, Repr

def Region.reset : Region := ⟨0, false, 0, [], 0⟩

/-- Contour (chapter 17). -/
structure Ctr where
  node : Tab Int           -- the 96 nodes of Table 17-1
  chanRise : Tab Int       -- R_LOCAL × P_c of the last frame, by channel
  tSink : Int              -- T_SINK in 1/128 °C
  region : Tab Region
  sample : Tab Int         -- last result by ADC input: 0 to 63 the round's, 64 + c the diode of channel c, above: on demand
  misses : Nat             -- anchors that missed (R514)
  pos : Nat                -- round sample in progress
  roundAt : Nat            -- clock tick at which the round began
  running : Option Nat     -- on-demand sample in progress
  demand : List Nat        -- on-demand samples waiting, first to run first
  step : Nat
  kMax : Nat
  changedAt : Option Nat   -- frame of the last step change
  riseAt : Option Nat      -- frame of the last step taken for a rise
  trip : Bool
  tripFrom : Nat           -- clock tick at which the trip began
  below : Nat              -- consecutive frames below T_CRIT − 10 °C
  cand : Option Nat        -- quiet-slot candidate
  candAt : Nat             -- clock tick at which it was named
  unquiet : List Nat       -- candidates marked UNQUIETABLE
  anchorDue : Option Nat   -- channel whose anchor reading is requested after a quiet slot (R105, R512)
  tEff : Int
  hottest : Nat
  oscTemp : Int            -- region 136 at the last trim of the always-on oscillator
  wakeDue : List Nat       -- regions to be set from the first reading after a wake from DORMANT (R528)
  deriving DecidableEq, Repr

/-- A store operation running (R581 to R585). -/
structure StoreOp where
  kind : Nat               -- 1 erase, 2 program, 3 OTP
  addr : Nat
  data : List Nat
  suspended : Bool
  minEnd : Nat             -- running: end of the minimum run after a resume; suspended: 10 µs after the last read (R582)
  retried : Bool
  deriving DecidableEq, Repr

/-- A slot entry of the boot record (R587, R588). -/
structure BootSlot where
  st : Nat                 -- 0 empty, 1 receiving, 2 complete, 3 failed verification
  imageId : Nat
  fwVersion : Nat
  len : Nat
  deriving DecidableEq, Repr

def BootSlot.reset : BootSlot := ⟨0, 0, 0, 0⟩

/-- A scheduled activation (R598). -/
structure Sched where
  t : Nat                  -- Datum time
  due : Int                -- Datum count in cycles at which its drain begins, moved with every step of Datum (R598)
  group : Nat
  drainMs : Nat
  slot : Nat
  deriving DecidableEq, Repr

/-- An update session (R420, R589 to R591, R595). -/
structure UpdSess where
  opener : Nat             -- mailbox path; 0x1000 a relay BEGIN
  remote : Bool
  slot : Nat
  route : Nat
  len : Nat
  imageId : Nat
  next : Nat               -- next chunk expected
  queue : List (Nat × List Nat)  -- chunks waiting to be stored
  ending : Bool            -- UPD_END accepted
  handle : Option Nat
  forwarded : Bool
  held : Option MbxReq     -- an UPD_CHUNK that met a full queue (R589)
  stored : Bool            -- the local store has ended well
  endAt : Nat              -- clock tick at which END was forwarded (R596)
  deriving DecidableEq, Repr

/-- A relay link (R592 to R594): direction up or down. -/
structure RLink where
  up : Bool
  version : Nat
  nextSeq : Nat
  expected : Nat
  oldest : Nat
  sent : List (Nat × Nat × List Nat)  -- outstanding frames: SEQ, TYPE, payload
  wait : List (Nat × List Nat)        -- sequenced frames the window has no room for yet: TYPE, payload
  credit : Nat             -- last CREDIT received
  replays : Nat            -- consecutive replays without progress
  hopNs : Nat
  since : Nat              -- clock tick from which the outstanding frames have seen no valid ACK (R594 rule 5)
  upAt : Option Nat        -- clock tick of the last LINK_UP sent (R593)
  hopAt : Nat              -- clock tick of the last measurement of the round trip (R593)
  deriving DecidableEq, Repr

def RLink.reset : RLink := ⟨false, 0, 0, 0, 0, [], [], 0, 0, 0, 0, none, 0⟩

/-- What is known of a device further down the chain (R595, UPD_CHAIN_INFO). -/
structure ChainDev where
  present : Bool
  lastBoot : Bool
  slot : Nat
  store : Nat
  sched : Nat
  ver : Nat
  deriving DecidableEq, Repr

def ChainDev.reset : ChainDev := ⟨false, false, 0, 0, 0, 0⟩

/-- Portolan, firmware update and relay (chapter 20). -/
structure Por where
  store : Tab (BitVec 8)   -- Portolan bytes; unlisted = 0xFF, erased
  otp : Tab (BitVec 8)     -- Cartouche row
  op : Option StoreOp
  reads : List Nat         -- reads waiting: addresses
  cut : Tab Nat            -- sectors whose erase or program was cut short (R584), with the free value drawn, plus 1
  erases : Tab Nat         -- erase count by sector
  remap : List (Nat × Nat) -- remapped sectors
  spares : Nat
  booted : Nat             -- slot booted, 3 ROM recovery
  primary : Nat
  previous : Nat
  trial : Bool
  lastBoot : Bool          -- fell back
  slots : Tab BootSlot
  sched : Option Sched
  draining : Bool
  drainEnd : Bool          -- step 4 of R600 has ended
  actDue : Int             -- Datum count in cycles at which the restart is due
  sess : Option UpdSess
  upL : RLink
  dnL : RLink
  position : Nat
  chain : Tab ChainDev
  beaconAt : Option Nat    -- clock tick of the last BEACON of a head (R597)
  deriving DecidableEq, Repr

/-- A Survey test (R607 to R619). -/
structure Test where
  block : Nat
  inst : Nat
  test : Nat
  opts : Nat
  handle : Option Nat
  requal : Bool            -- run for a unit reset
  forced : Bool
  deriving DecidableEq, Repr

/-- Survey (chapter 21). -/
structure Srv where
  queued : List Test
  running : List Test
  passed : Tab Nat         -- frame of the last passed test, plus 1, by unit key
  fuses : Tab Nat          -- fuse entries used by die of the package (6)
  soft : Nat               -- soft repairs in force
  forcedPending : Bool
  refLast : Nat            -- last reference count
  deriving DecidableEq, Repr

def Srv.reset : Srv := ⟨[], [], [], [], 0, false, 0⟩

/-- The kinds of reset (Table 24-1) and how far the start-up has come (R666). -/
structure Start where
  kind : Nat               -- reset kind of Table 24-1
  step : Nat               -- start-up steps ended
  running : Bool
  envelope : Bool          -- the envelope has been programmed (R667)
  aoEnvelope : Nat         -- always-on copy of the envelope (R668)
  aoSheets : List Nat
  bootAt : Nat             -- clock tick at which the booted image started (R601)
  railsAt : Nat            -- clock tick from which every rail has stood above its threshold for 10 ms (R634)
  testHeld : Bool          -- TESTMODE was high at the release of SYS_RST_N: the device stays in reset (R629)
  susp : List (Nat × Nat)  -- suspensions that end on entry to SERVICE: row of Table 02-7, first affected NSID (R50, R55)
  keepMap : Bool           -- an activation restart that keeps DRAM_LAYOUT: the map in DRAM is kept (R600, R671)
  deriving DecidableEq, Repr

end Sys2Proof.Machine
end

