-- ==== Sys2Proof/Machine/StHost.lean ====
section
/-! DEFINITION. State of the host side: ports and functions (chapter 11), controllers and queues (chapter 12),
outstanding commands and contract classes (chapter 2), mailboxes (chapter 13). -/

namespace Sys2Proof.Machine

/-- A PCIe port (R323 to R326, R347): its trained link as it stands, and the rate admissions use (R325). -/
structure Port where
  up : Bool
  gen : Nat                -- 4 to 7
  width : Nat              -- 1, 2, 4, 8, 16
  flit : Bool
  rate : Nat               -- trained port rate in GB/s × 16 (R324)
  rateUsed : Nat           -- the rate admissions use, taken at a frame boundary (R325)
  perst : Bool             -- PERST_x_N asserted
  l2 : Bool                -- link in L2
  snoop : Nat              -- Max Snoop Latency in ns
  noSnoop : Nat            -- Max No-Snoop Latency in ns
  deriving DecidableEq, Repr

def Port.reset : Port := ⟨false, 0, 0, false, 0, 0, false, false, 0, 0⟩

/-- One MSI-X vector (R343): its mask and pending bits. -/
structure MsixVec where
  masked : Bool
  pending : Bool
  deriving DecidableEq, Repr

def MsixVec.reset : MsixVec := ⟨true, false⟩

/-- What the endpoint holds of one function (R327 to R354). -/
structure Fn where
  enabled : Bool           -- a PF, or a VF enabled by VF Enable and NumVFs (R328, R329)
  ready : Bool             -- HST_FN_STATUS.FN_READY
  mse : Bool               -- Memory Space Enable
  bar4 : Nat               -- BAR4 size in bytes
  backing : Nat            -- direct window backing in bytes (R334)
  cre : Bool               -- CMBMSC.CRE
  cmse : Bool              -- CMBMSC.CMSE
  msixEn : Bool            -- MSI-X Enable
  msixMask : Bool          -- Function Mask
  vec : Tab MsixVec        -- by vector number; unlisted = reset
  vfEnable : Bool          -- PF: SR-IOV VF Enable
  numVfs : Nat             -- PF: NumVFs
  ari : Bool               -- PF: ARI Capable Hierarchy
  ats : Bool               -- ATS enabled
  atsHeld : List Nat       -- pages whose translation the function holds
  atsInval : List Nat      -- invalidations that wait for requests in progress (R346)
  cto : Nat                -- completion timeout encoding (Table 11-7)
  ctd : Bool               -- Completion Timeout Disable
  aer : List Nat           -- AER errors logged, latest first (Table 11-8 rows)
  gazLatch : Option Nat    -- Gazetteer record latched (R341)
  gazCopy : List Nat       -- the latched record's 32 bytes
  quota : Nat              -- queue quota set (R360)
  quotaUsed : Nat          -- the quota in force, taken at a controller reset
  engine : Nat             -- Waypoint engine serving the function (PLT_FN.WAYPOINT)
  deriving DecidableEq, Repr

/-- R327, R332, R343, R360: a function after device reset. MSI-X table entries are masked at reset (the PCIe
specification's value). -/
def Fn.reset (f : Nat) : Fn :=
  ⟨f % 128 = 0, true, false, if f % 128 = 0 then 2 ^ 30 else 2 ^ 24, 0, false, false, false, false, [], false, 0, false,
    false, [], [], 0, false, [], none, [], if f % 128 = 0 then 512 else 28, if f % 128 = 0 then 512 else 28, f⟩

/-- An autonomous transition entry (R394). -/
structure ApstEntry where
  idleMs : Nat
  target : Nat
  deriving DecidableEq, Repr

/-- An NVMe controller (R358 to R362, R376, R377, R384, R391, R393). -/
structure Ctl where
  en : Bool                -- CC.EN
  shn : Nat                -- CC.SHN
  iosqes : Nat             -- CC.IOSQES
  iocqes : Nat             -- CC.IOCQES
  asqs : Nat               -- AQA.ASQS
  acqs : Nat               -- AQA.ACQS
  rdy : Bool               -- CSTS.RDY
  cfs : Bool               -- CSTS.CFS
  cfsAqa : Bool            -- CFS set for an invalid AQA (R359)
  shst : Nat               -- CSTS.SHST
  grantSq : Nat            -- Number of Queues granted (R361)
  grantCq : Nat
  burst : Nat              -- Arbitration Burst (R363)
  coalThr : Nat            -- Interrupt Coalescing aggregation threshold
  coalTime : Nat           -- aggregation time in 100 µs
  cdVec : List Nat         -- vectors with Coalescing Disable
  tempOver : Nat           -- over-temperature threshold, K
  tempUnder : Nat          -- under-temperature threshold, K
  aec : W32                -- Asynchronous Event Configuration
  aerMasked : List Nat     -- events reported whose log page has not been read (R391)
  aerPend : List Nat       -- events that found no request outstanding, oldest first (log entry 16)
  aers : List Nat          -- Asynchronous Event Requests outstanding: their CIDs, oldest first
  apstOn : Bool
  apst : List ApstEntry    -- by power state 0 to 31
  ps : Nat                 -- power state held
  aborts : List Nat        -- Abort commands outstanding: their CIDs
  errs : List Nat          -- Error Information log, newest first, at most 64: status + 2^16 CID + 2^32 queue
  changedNs : List Nat     -- Changed Namespace List (page 04h)
  errCount : Nat
  atomNormal : W32         -- Write Atomicity Normal
  idleSince : Nat          -- clock tick of the last completion
  rrNext : Nat             -- round-robin place among the submission queues (R363)
  rrLeft : Nat             -- entries left of that queue's turn
  warned : Nat             -- Critical Warning as last looked at (R391)
  deriving DecidableEq, Repr

def Ctl.reset : Ctl :=
  ⟨false, 0, 0, 0, 0, 0, false, false, false, 0, 0, 0, 0, 0, 0, [], 388, 0, 0#32, [], [], [], false, [], 0, [], [], [], 0, 0#32, 0, 0, 0, 0⟩

/-- A submission queue (R362, R363, R38, R39, R46, R349). Key: 1,024 f + q. -/
structure Sq where
  size : Nat
  tail : Nat               -- last doorbell value
  head : Nat               -- entries fetched
  cq : Nat
  cls : Nat                -- class bound
  newCls : Option Nat      -- binding that applies from the next fetch (R39)
  stalled : Bool           -- R349
  retried : Bool           -- the read of the head entry has been issued again (R349)
  fetching : List (Nat × Nat × Nat)  -- entries whose read is outstanding, oldest first: place, class they are fetched under,
                           -- function epoch the fetch carries (R98)
  deleting : Bool          -- R374
  headSince : Option Nat   -- hold class: clock tick at which the head entry became eligible (R46)
  probing : Bool           -- hold class: the last probe found no fit
  probed : Option Nat      -- hold class: clock tick of the head entry's last probe (R83)
  deriving DecidableEq, Repr

/-- A completion queue (R362, R375). Key: 1,024 f + q. -/
structure Cq where
  size : Nat
  head : Nat
  tail : Nat
  phase : Bool
  vector : Nat
  ien : Bool
  deleting : Bool
  coalCount : Nat          -- entries posted since the last message (R364)
  coalFrom : Option Nat    -- clock tick at which the aggregation time started
  deriving DecidableEq, Repr

/-- Kinds of I/O command (Table 02-1). -/
inductive Kind where
  | read | write | fua | flush | dealloc | other
  deriving DecidableEq, Repr

/-- What a command waits on before its completion is posted. -/
inductive CmdPhase where
  | offered      -- validated, waiting for admission
  | running      -- admitted, running
  | posting      -- its completion entry is decided and waits to be sent
  deriving DecidableEq, Repr

/-- One booking of a command: resource kind, index, frame number, units (Table 03-1). -/
structure Booking where
  res : Nat                -- 0 die, 1 channel, 2 LDPC quadrant, 3 parity, 4 port in, 5 port out, 6 sheet tokens, 7 total tokens, 8 tiles, 9 staging,
                           -- 10 reconstruction reserve (dies, then channels from 2,048), 11 start ladder (frame: 10 µs window), 12 die time and
                           -- 13 channel time of a detour of a quiet die
  idx : Nat
  frame : Nat              -- absolute frame number
  units : Nat
  deriving DecidableEq, Repr

/-- The plan of one IU of a command that is read from flash (R71 to R76): the target and what each member read has come
to: 0 outstanding, 1 decoded, 2 hard decode failed, 3 soft attempt failed too, 4 read and not decoded yet. A direct plan has the target as its one
member. -/
structure IuPlan where
  iu : Nat
  die : Nat                -- target die
  slot : Nat               -- S within it
  band : Nat
  row : Nat                -- page
  detour : Bool
  members : List (Nat × Nat)
  conting : Option Nat     -- contingency member's die
  soft : Option Nat        -- die under a soft attempt
  ended : Bool
  resv : Option Nat        -- its soft-decode reservation (R294)
  claim : List Booking     -- its contingency member's claim on the reconstruction reserve (R76)
  bad : Tab Nat            -- codewords of a member's slot that have failed to decode, by die (R290)
  deriving DecidableEq, Repr

/-- An I/O command fetched and not yet ended (R23 to R32). -/
structure Cmd where
  fn : Nat
  sq : Nat
  cid : Nat
  op : Nat                 -- NVMe opcode
  kind : Kind
  cls : Nat
  deadline : Nat           -- µs, of its class and kind at admission
  start : Nat              -- clock tick at which its deadline clock started (R28)
  phase : CmdPhase
  accepted : Bool
  nsid : Nat
  slba : Nat
  nlb : Nat                -- LBAs (1's based)
  bytes : Nat
  lr : Bool                -- Limited Retry (R368)
  fuaBit : Bool
  epoch : Nat              -- function epoch its fetch carried (R98)
  readEpochs : List Nat    -- function epochs its completed device reads carried, oldest first (R128, R143)
  lists : Nat              -- PRP lists, SGL segments and range lists to be read for it
  waitFrom : Option Nat    -- clock tick from which a host wait is open (R30)
  openReads : Nat          -- device reads of host memory outstanding
  spans : List (Nat × Nat) -- host waits that have ended: disjoint spans of clock ticks (R30)
  stopped : Bool           -- its deadline clock stands stopped (R30)
  suspended : Bool         -- a suspension of Table 02-7 covered it
  earliest : Nat           -- µs, earliest booking found, 0xFFFFFFFF none (R80)
  bookings : List Booking
  toStage : List Nat       -- IUs of a write not yet staged
  stageLeft : Nat          -- staging bytes booked and not yet in a slot
  by_ : Nat                -- absolute frame by whose end its program is booked (R84, R86)
  group : Nat              -- stripe group a write is booked to (R169)
  zeroLbas : List Nat      -- LBAs of it that read as deallocated, in a format with protection information (R381)
  outcome : Nat            -- what the checks of its data come to: 0 right, 1 compare mismatch, 2 guard, 3 application tag, 4 reference tag
  slotReads : List Nat     -- staging slots its reads are planned against (R129)
  staged : List Nat        -- staging slots it wrote
  waitsFor : List Nat      -- staging slots whose programs must pass (FUA, Flush)
  ius : List IuPlan        -- flash reads of its plan
  pinned : List Nat        -- bands its reads pin (R125)
  replanned : Bool         -- its command was re-planned (R101)
  prog : Nat               -- µs from the clock's start to the end of its FUA programs, 0 none (R85)
  rmw : List (Nat × List Booking)  -- read-modify-writes booked and not yet taken over by an assembly slot (R134)
  waitsSeg : List Nat      -- segments under recovery that updates of it wait for (R131, R148)
  ranges : List (Nat × Nat) -- ranges of a deallocate: SLBA, count
  win : Option Nat         -- function whose direct window holds its data
  status : Nat             -- 256 × SCT + SC once decided
  deriving DecidableEq, Repr

/-- A completion entry decided and not yet sent (R28, R374). -/
structure Cpl where
  fn : Nat
  sq : Nat
  cid : Nat
  cq : Nat
  status : Nat             -- 256 × SCT + SC
  dnr : Bool
  dw0 : W32
  deriving DecidableEq, Repr

/-- A contract class (R33 to R36). Deadlines in µs. -/
structure Cls where
  enable : Bool
  hold : Bool              -- BEHAVIOUR
  holdLimit : Nat          -- ms
  dlRead : Nat
  dlWrite : Nat
  dlFua : Nat
  dlFlush : Nat
  dlDealloc : Nat
  dlOther : Nat
  rateCmds : Nat           -- commands/s, 0 no cap
  rateBytes : Nat          -- MB/s, 0 no cap
  unfit : Bool
  deriving DecidableEq, Repr

/-- A rate bucket (R41): command tokens in thousandths, byte tokens whole, as filled at the last refill. -/
structure Bucket where
  cmds : Nat               -- in thousandths
  bytes : Int              -- may go negative by an excess (R42)
  deriving DecidableEq, Repr

/-- A request being assembled from segments (R406). -/
structure SegBuf where
  version : Nat
  opcode : Nat
  tag : Nat
  length : Nat
  resvZero : Bool
  bytes : List Nat
  takenAt : Nat            -- clock tick at which SEG_TAKEN was set
  deriving DecidableEq, Repr

/-- A response being returned in segments (R406): what has not been posted yet. -/
structure RespBuf where
  version : Nat
  opcode : Nat
  tag : Nat
  status : Nat
  isAsync : Bool
  length : Nat
  left : List Nat          -- payload bytes not yet posted
  deriving DecidableEq, Repr

/-- One mailbox or management context (R398, R399, R403 to R413). Key: f, or 0x100 + EID. -/
structure Mbx where
  busy : Bool              -- MBX_STATUS.BUSY
  respReady : Bool
  respMore : Bool
  segTaken : Bool
  version : Nat            -- MBX_SESSION.VERSION; 0 no session
  ended : Bool             -- the session that issued the handles has ended and no HELLO has followed (R413)
  seg : Option SegBuf
  req : Option (Nat × MbxReq)  -- the request taken and not yet carried out: opcode and request
  dropResp : Bool          -- its function was reset: the response is discarded (R353)
  resp : Option RespBuf
  out : List Nat           -- the segment in the outbound mailbox: header and payload bytes
  ep : Nat                 -- endpoint of a management context's last request: 0 bus, 1 port A, 2 port B
  deriving DecidableEq, Repr

def Mbx.reset : Mbx := ⟨false, false, false, false, 0, false, none, none, false, none, [], 0⟩

/-- A long operation's handle (R413). Key: the handle. -/
structure OpRec where
  path : Nat
  done : Bool
  result : Nat             -- status, Table 13-13
  progress : Nat           -- permille
  data : List Nat          -- opcode-specific result bytes
  deriving DecidableEq, Repr

/-- What the device sends to the outside: the model's own record (log entry 4), newest first. -/
inductive Out where
  | entry (c : Cpl) (late : Bool)                         -- a completion entry leaves the port
  | adminData (fn cid : Nat) (data : List Nat)            -- the data an admin command returns
  | answer (block : Nat) (values : List Nat)              -- what a unit answers its requester inside the device
  | msix (fn vec : Nat)                                   -- an MSI-X message
  | aer (fn err : Nat)                                    -- an error reported through AER (Table 11-8 row)
  | asyncEvent (fn cid info : Nat)                        -- an Asynchronous Event Request completes
  | mbxSegment (path : Nat) (bytes : List Nat)            -- a response segment is posted
  | mctp (ep : Nat) (bytes : List Nat)                    -- an MCTP, SPDM or SMBus answer
  | relay (down : Bool) (kind : Nat) (fields : List Nat)  -- a relay frame
  | die (die : Nat) (kind : Nat) (value : Nat)            -- a cycle on a die's bus (command 0, address 1, pins 2, burst 3)
  | hostWrite (fn : Nat) (bytes : Nat)                    -- a posted write of data to host memory
  | firmware (src : Nat)                                  -- an interrupt to Surveyor firmware, by `irqOf`
  | ibi                                                   -- an In-Band Interrupt with mandatory byte 0xAE
  | avs (mv : Nat)                                        -- a VOUT_COMMAND setpoint
  | readBack (path value : Nat)                           -- the value a register read returned
  deriving DecidableEq, Repr

end Sys2Proof.Machine
end

