-- ==== Sys2Proof/Machine/StFlash.lean ====
section
/-! DEFINITION. State of the flash side: the Plotter (chapter 3), Atlas (4), media upkeep (5), stripes (6), channels and
dies (7), Traverse contexts (8), LDPC lanes (9), sheet bays (10). -/

namespace Sys2Proof.Machine

/-- A closed window of a die (R68 to R70): clock ticks. -/
structure Closed where
  from_ : Nat
  until_ : Nat
  why : Nat                -- 0 retraining, 1 wake, 2 quiet slot, 3 a minimum run or segments not suspendable
  op : Nat                 -- the die operation it belongs to, plus 1; 0 none
  deriving DecidableEq, Repr

/-- The reference state a die holds or a read needs (R288): a reference-voltage set, 0 for the profile's own and i for ladder step i, or
the offset of soft read j (R289). -/
inductive RefState where
  | set (i : Nat)
  | soft (j : Nat)
  deriving DecidableEq, Repr

/-- A queued die operation (R63 to R65). Times in clock ticks, cost in 1/16 µs. -/
structure DieOp where
  id : Nat
  kind : Nat               -- Table 03-4: 0 read, 1 program, 2 erase, 3 reconstruction or member read, 4 relocation read
  latest : Nat             -- latest start
  cost : Nat               -- 1/16 µs
  epoch : Nat              -- issue epoch
  window : Nat             -- start-ladder window granted to it, plus 1; 0 none (R95)
  bytes : Nat              -- bytes one array read of it moves (Table 03-4)
  cmd : Option (Nat × Nat × Nat)  -- the I/O command it works for: function, queue, identifier
  fnEpoch : Option (Nat × Nat)  -- the function it works for and the function epoch it was issued under (R98, R102)
  tiles : List Booking     -- its tiles
  orphan : Bool            -- its command has ended: its tiles return when it ends (R82, R438)
  iu : Nat                 -- the IU it works for, plus 1; 0 none
  ref : RefState           -- the reference state it needs (R288)
  held : Bool              -- a soft read held until the hard decode has failed (R291)
  stale : Bool             -- what it reads has been re-planned without it (R101)
  col : Nat                -- column at which its transfer begins (R284)
  resume : List Booking    -- t_RES booked for the resume of what it suspends (R244)
  deriving DecidableEq, Repr

/-- The operation running on a die (R72). -/
structure Running where
  op : DieOp
  start : Nat              -- clock tick of its start, or of its last resume
  minEnd : Nat             -- end of the minimum run (R72, R245)
  suspended : Bool
  ran : Nat                -- clock ticks it had run before that start
  deriving DecidableEq, Repr

/-- The Plotter (chapter 3). Booking tables are keyed frame × 4,096 + index, frame being the absolute frame number. -/
structure Plotter where
  frame : Nat              -- PLT_FRAME.COUNT
  frameAt : Nat            -- clock tick at which frame 0 began
  admitOpen : Bool         -- PLT_STATUS.ADMIT_OPEN
  drain : Bool             -- PLT_STATUS.DRAIN
  step : Nat               -- throttle step k last read
  die : Tab Nat            -- die-time ledger, 1/16 µs booked (R57)
  recon : Tab Nat          -- reconstruction reserve claimed per die, 1/16 µs (R76, R81)
  chan : Tab Nat           -- channel time booked, 1/16 µs
  ldpc : Tab Nat           -- LDPC lane time per quadrant, 1/16 µs
  parity : Tab Nat         -- parity engine time, 1/16 µs
  portIn : Tab Nat         -- host port bytes toward the device, per port
  portOut : Tab Nat
  power : Tab Nat          -- tokens per sheet rail
  powerAll : Tab Nat       -- tokens of the whole envelope
  ladder : Tab Nat         -- start current booked, key: 10 µs window × 16 + sheet, in 10 mA
  queue : Tab (List DieOp) -- die queues, by latest start (R63)
  running : Tab (Option Running)
  reading : Tab (Option Running)  -- the read running on a die whose program or erase is suspended
  later : List (Nat × Nat × DieOp)  -- operations booked from frame 2 on: absolute frame, die (R63)
  released : List Nat      -- ends of the 10 µs spans of this frame in which some booking was released, newest first (R83)
  dieMoves : List (Nat × Nat × Nat)  -- moves of dies that wait: die, engine, epoch that must retire first (R99)
  fnMoves : List (Nat × Nat × Nat)   -- moves of functions that wait: function, engine, epoch
  excess : Tab Nat         -- relocation time reported beyond the booked debt, by die, 1/16 µs (R89)
  converted : Tab Nat      -- debt converted into relocations that have not been carried out yet, by die, 1/16 µs (R89)
  closed : Tab (List Closed)
  dieEpoch : Tab Nat       -- PLT_DIE.EPOCH
  dieOwner : Tab Nat       -- Traverse engine within the channel; unlisted = home (R16)
  dieFenced : Tab Bool     -- PLT_DIE.FENCED
  fnEpoch : Tab Nat        -- PLT_FN.EPOCH
  debt : Tab Nat           -- debt booked per die and frame, 1/16 µs (R88, R89)
  debtLeft : Tab Nat       -- relocation debt still to book, per group, 1/16 µs
  refreshLeft : Tab Nat    -- refresh and other debt still to book, per group
  bandLeft : Tab Nat       -- refresh debt still to book of one band, over its group (R173)
  dieLeft : Tab Nat        -- debt still to book on one die (Table 05-5)
  quiet : Option Nat       -- channel under quiet slot (R104)
  quietLeft : Nat          -- frames left of it
  hkUsed : Tab Nat         -- units of the housekeeping fraction used in this frame, by channel
  capPs1 : Bool            -- flash energy limited to 10,000 tokens (R395)
  degradedFloors : Bool
  nextOp : Nat             -- identity of the next die operation
  hkNow : Nat              -- HK, TH and RECON_g × 1,000 in force, taken at a frame boundary (R91)
  thNow : Nat
  reconNow : Tab Nat       -- by group; unlisted = 20
  stagingNow : Nat         -- the staging budget in force (R503)
  deriving DecidableEq, Repr

def Plotter.reset : Plotter :=
  { frame := 0, frameAt := 0, admitOpen := false, drain := false, step := 0, die := [], recon := [], chan := [], ldpc := [], parity := [],
    portIn := [], portOut := [], power := [], powerAll := [], ladder := [], queue := [], running := [], reading := [], later := [],
    released := [], dieMoves := [], fnMoves := [], excess := [], converted := [], closed := [], dieEpoch := [], dieOwner := [], dieFenced := [],
    fnEpoch := [], debt := [], debtLeft := [], refreshLeft := [], bandLeft := [], dieLeft := [], quiet := none, quietLeft := 0, hkUsed := [], capPs1 := false,
    degradedFloors := false, nextOp := 0, hkNow := 30, thNow := 100, reconNow := [], stagingNow := 0 }

/-- A map entry's state (R113, Table 04-1). -/
inductive EntState where
  | unmapped | mapped | staged | poisoned
  deriving DecidableEq, Repr

/-- A map entry: 40 bits (R113): STATE with its quarter, and ADDRESS (Table 04-2): D × 2^25 + S of a MAPPED entry, the
staging offset in 4 KiB units of a STAGED one, the reason × 2^32 of a POISONED one. -/
structure Ent where
  st : EntState
  addr : Nat
  quarter : Nat
  deriving DecidableEq, Repr

def Ent.reset : Ent := ⟨.unmapped, 0, 0⟩

/-- A pool (R110). -/
structure Pool where
  iu4k : Bool
  mask : Nat               -- DRAM_MASK
  segs : Nat               -- capacity in segments of 819 IUs
  deriving DecidableEq, Repr

/-- A namespace (R111, R416). Key: NSID. -/
structure Ns where
  pool : Nat
  lbaf : Nat
  pi : Nat
  cipher : Nat
  slot : Nat
  nlba : Nat
  base : Nat               -- N_BASE, first IU index
  attached : List Nat      -- functions, rising
  guid : Nat               -- NGUID, as the count of namespaces created before it
  format : Option (Nat × Nat × Nat)  -- a Format runs: function, CID, SES (R378)
  deriving DecidableEq, Repr

/-- A segment descriptor (R116). Key: pool × 2^32 + segment. -/
structure Seg where
  gen : Nat                -- SEG_GEN
  wbSeq : Nat
  ckptSeq : Nat
  ckptAt : Nat             -- map band location of the checkpoint copy
  discarded : Bool
  chan : Nat               -- DRAM channel it was moved to, plus 1; 0: where it was first put (log entry 13)
  moved : Nat              -- times a region fence has moved it within its channel (R452)
  deriving DecidableEq, Repr

def Seg.reset : Seg := ⟨0, 0, 0, 0, false, 0, 0⟩

/-- A segment in an Atlas engine's cache (R117, R119, R122). -/
structure Held where
  seg : Nat
  dirty : Bool
  since : Nat              -- clock tick at which it became DIRTY
  deriving DecidableEq, Repr

/-- An eviction buffer (R119 to R121). -/
structure Evict where
  seg : Nat
  dirty : Bool
  acked : Bool
  written : Bool
  deriving DecidableEq, Repr

/-- A DRAM write of a segment that awaits its EVICT_ACK (R119, R121, R122). -/
structure WBack where
  seg : Nat
  eng : Nat
  seq : Nat                -- JSEQ when it started (WB_SEQ)
  done : Bool              -- the DRAM write has completed
  redirtied : Bool         -- an update arrived during the write
  image : List (Nat × Ent) -- its entries as the write started: what the DRAM copy will hold
  deriving DecidableEq, Repr

/-- A directory record (R117 to R120). -/
inductive Dir where
  | uncached
  | held (e : Nat)
  | evicting (e : Nat)
  deriving DecidableEq, Repr

/-- An Atlas engine (R117, R122). -/
structure AtlEng where
  held : List Held
  bufs : List Evict
  deriving DecidableEq, Repr

/-- A staging slot (R129 to R131). -/
structure Stage where
  fn : Nat
  iu : Nat                 -- pool × 2^40 + IU index
  live : Bool              -- false: superseded
  reads : Nat              -- reads outstanding
  progs : Nat              -- programs in flight
  epoch : Nat              -- staging epoch
  bytes : Nat
  by_ : Nat                -- absolute frame by whose end its program is booked (R84, R86)
  deriving DecidableEq, Repr

/-- An assembly slot (R132 to R136). -/
structure Assembly where
  iu : Nat
  slot : Nat
  present : Nat            -- LBA mask
  full : Nat               -- mask of the IU's LBAs
  prev : Ent               -- previous value
  rmw : Bool               -- a read-modify-write is booked
  pres : Nat               -- LBA poison table entries reserved by its partial writes (R431)
  openedAt : Nat
  books : List Booking     -- the bookings of its read-modify-write (R133, R134)
  pin : Option Nat         -- the band its read-modify-write pins (R125)
  deriving DecidableEq, Repr

/-- A journal record (Table 04-7). -/
structure JRec where
  seq : Nat                -- JSEQ
  kind : Nat               -- TYPE: 1 SET_RUN, 2 SET_LIST, 3 UNMAP_RUN, 4 SEG_DISCARD, 5 CHECKPOINT, 6 POOL
  pool : Nat
  iu : Nat                 -- FIRST: an IU index, or a segment number of SEG_DISCARD and CHECKPOINT
  arg : Nat                -- IU count of UNMAP_RUN, segment count of SEG_DISCARD, map band location, pool properties
  items : List (Nat × Ent × Nat)  -- entries set by SET_RUN and SET_LIST: IU index, entry, epoch (R128)
  at_ : Nat                -- clock tick at which it was written (R144)
  deriving DecidableEq, Repr

/-- An update that waits for the recovery of its segment (R148): kind 0 a swap to `ent`, 1 PROGRAM_DONE of staging slot `a`
at address `b`, 2 RELOCATE from `a` to `b`. -/
structure QUpd where
  kind : Nat               -- 0: swaps of one journal record, 1: PROGRAM_DONE, 2: RELOCATE, 3: a segment discarded whole
  key : Nat                -- the IU; of kind 3 the segment
  a : Nat                  -- staging slot, old address; of kind 0 the record's TYPE
  b : Nat                  -- new address
  items : List (Nat × Ent × Nat)  -- kind 0: IU, entry and epoch of each swap
  epoch : Nat              -- epoch of the operation that produced its data (R128)
  deriving DecidableEq, Repr

/-- Band states (R156, Table 05-1). -/
inductive BandState where
  | free | opened | closed | victim | drained | erasing | retired
  deriving DecidableEq, Repr

/-- A band record (R155, R184). Key: the global band index B = 128 k + g (R154). -/
structure Band where
  st : BandState
  cls : Nat                -- class of data: 0 HOST, 1 RELOC, 2 MAP, 3 HOLDUP (Table 06-3)
  wb : Nat                 -- W_b
  sheets : Nat             -- SHEETS, bit s for sheet s
  block : Tab Nat          -- member block by sheet; unlisted = k
  pages : Nat              -- geometry recorded at open: pages of a member block, the footer row among them
  planes : Nat
  openSeq : Nat
  nextRow : Nat            -- next stripe row
  valid : Nat              -- valid count, in 4 KiB units
  closedAt : Option Nat    -- close stamp, Datum time; none while Datum was UNSET
  reads : Tab Nat          -- read count by sheet, saturating at 2^24 − 1
  erases : Tab Nat         -- erase count by sheet, saturating at 2^24 − 1
  reason : Nat             -- refresh reason: 0 none, 1 READ, 2 RETENTION, 3 REBUILD
  retire : Bool            -- marked for retirement
  short : List (Nat × Nat × Nat)  -- short-stripe list: row, PAD mask, erased mask (R189)
  lost : List Nat          -- rows lost
  samples : Nat            -- retention samples taken (R175)
  sampledAt : Nat          -- Datum time of the last
  rebuild : Nat            -- bit mask of members under rebuild into a spare (R179)
  gbb : Nat                -- bit mask of members to be replaced at the erase (Table 05-4)
  erased : Tab Nat         -- page reads that ended uncorrectable, bit mask by row (R196)
  erasing : Nat            -- member erases not yet passed, bit mask
  layoutGen : Nat          -- layout generation when it opened
  gone : Nat               -- members lost with their sheet: bit mask by sheet (R313)
  passes : Nat             -- class MAP: checkpoint passes completed since it closed (R145)
  hset : Nat               -- class HOLDUP: its set, 0 or 1 (R501)
  epochs : Tab Nat         -- die epoch under which the program of a position passed, plus 1, by 16 × row + sheet (R98); 0 none
  priced : Bool            -- the debt of what drained it covers its erase (Table 05-5)
  slcPages : Nat           -- geometry recorded at open: pages in SLC mode (R184)
  deriving DecidableEq, Repr

def Band.reset : Band :=
  ⟨.free, 0, 0, 0, [], 0, 0, 0, 0, 0, none, [], [], 0, false, [], [], 0, 0, 0, 0, [], 0, 0, 0, 0, 0, [], false, 0⟩

/-- Atlas (chapter 4). IU keys are pool × 2^40 + index. -/
structure Atlas where
  mapReady : Bool
  pools : Tab (Option Pool)
  ns : Tab (Option Ns)
  nsCount : Nat            -- namespaces ever created (their NGUIDs)
  ent : Tab Ent
  copy : Tab Ent           -- the DRAM copies of the segments, as of their last write-back (R119, R148)
  seg : Tab Seg
  eng : Tab AtlEng
  dir : Tab Dir
  snoops : List (Nat × Nat)  -- snoops pending: (segment, requester)
  writes : List WBack      -- segment write-backs in progress
  pins : Tab Nat           -- pins per band (R125)
  stage : Tab (Option Stage)
  nextStage : Nat
  asm : List Assembly
  poison : Tab Nat         -- LBA poison mask per IU (R137)
  poisonRes : Nat          -- reservations of the poison table (R430)
  jseq : Nat
  tail : List JRec         -- Atlas journal tail, newest first (R144)
  tailBytes : Nat          -- bytes of the ring in use
  bandTail : List (Nat × Nat × Band)  -- band records journalled and not spilled, newest first: JSEQ, band, record (R155, R158)
  parked : List (Nat × Nat)  -- spilled blocks that keep their place in it, oldest first: bytes, tick of the newest record (R144)
  jrnlFull : Bool          -- the tail reached 100% and has not fallen below LEVEL_PCT (R146)
  spilled : List JRec      -- spilled to map bands: those of the last two passes (R145)
  passSeq : Nat            -- JSEQ at the start of the checkpoint pass, and of the one before it
  lastPass : Nat
  durable : Tab Ent        -- the map as checkpoint copies and spilled records restore it (R147)
  ckptNext : Nat           -- next segment of the checkpoint pass
  ckptAt : Nat             -- clock tick at which the pass began
  ckptBehind : Bool        -- CKPT_BEHIND
  recovering : List Nat    -- segments under recovery
  queued : List QUpd       -- updates queued for them
  suspended : List (Nat × Nat)  -- namespaces under a DRAM channel fence suspension, each with the fenced channel (R51)
  segLost : List Nat       -- segments lost with a DRAM region or channel
  evac : List Nat          -- staging slots in a fenced DRAM region: programmed ahead of other staged data (R452)
  deriving DecidableEq, Repr

def Atlas.reset : Atlas :=
  { mapReady := false, pools := [], ns := [], nsCount := 0, ent := [], copy := [], seg := [], eng := [], dir := [], snoops := [], writes := [],
    pins := [], stage := [], nextStage := 0, asm := [], poison := [], poisonRes := 0, jseq := 0, tail := [], tailBytes := 0, bandTail := [],
    parked := [], jrnlFull := false, spilled := [], passSeq := 0, lastPass := 0, durable := [], ckptNext := 0, ckptAt := 0, ckptBehind := false,
    recovering := [], queued := [], suspended := [], segLost := [], evac := [] }

/-- Media upkeep (chapter 5). -/
structure Svy where
  band : Tab Band
  published : Bool         -- MIN_FREE has been published (R171)
  minFree : Nat
  writesStopped : Bool
  refreshQ : List Nat      -- refresh queue: band keys, in order (R173)
  hostBytes : Nat          -- host bytes programmed since the last estimate of A
  relocBytes : Nat         -- relocated bytes programmed since then
  waHist : List (Nat × Nat)  -- the same two of the estimates before, newest first (R165)
  aMeas : Nat              -- × 256
  aBooked : Nat            -- × 256
  bad : Tab (List Nat)     -- bad-block table by die (R178)
  spares : Tab (Option (List Nat))  -- spare blocks left by die; unlisted: all of R153
  gbbFenced : List Nat     -- dies fenced under R180
  sampling : List (Nat × Nat × Nat)  -- retention samples booked and not read yet: band, die, page
  sampledNow : Nat         -- samples booked in this frame (R177)
  openSeq : Nat            -- OPEN_SEQ counter
  cursor : Nat             -- placement cursor (R169)
  footer : Tab (Option (Nat × Band))  -- the footers on flash: JSEQ and the band record at close (R189)
  saved : Tab (Option (Nat × Band))   -- the band records that map bands hold, checkpointed or journalled and spilled, with their JSEQ (R155)
  spareSet : Bool          -- a first boot has set SPARE_PERMILLE (Table 05-11)
  sparePermille : Nat      -- what it set
  deriving DecidableEq, Repr

def Svy.reset : Svy :=
  ⟨[], false, 0, false, [], 0, 0, [], 256, 2048, [], [], [], [], 0, 0, 0, [], [], false, 0⟩

/-- Stripe journal slot states (R190): 0 to 3 of STATE, and a reserved one. -/
inductive SlotState where
  | free | filling | parity | short | reserved
  deriving DecidableEq, Repr

/-- A stripe journal slot (Table 06-2): its header and the partial P and Q, copies 0 and 1. -/
structure Slot where
  st : SlotState
  cls : Nat
  wb : Nat
  planes : Nat
  band : Nat
  row : Nat
  sheets : Nat
  folded : Nat             -- FOLDED mask
  written : Nat            -- WRITTEN mask
  pSheet : Nat
  qSheet : Nat
  copy : Nat               -- COPY
  layoutGen : Nat
  sseq : Nat
  epochs : List Nat        -- EPOCHS[16]
  p : List (List Nat)      -- copies 0 and 1 of partial P, bytes
  q : List (List Nat)
  crc : Nat                -- CRC of the header, as it stands (R192)
  from_ : List (Nat × Nat) -- the staging slots whose IUs its positions hold: sheet, staging slot (R213)
  deriving DecidableEq, Repr

def Slot.reset : Slot := ⟨.free, 0, 0, 0, 0, 0, 0, 0, 0, 0, 0, 0, 0, 0, [], [[], []], [[], []], 0, []⟩

/-- A record of the lost-stripe list (R204). -/
structure LostRow where
  band : Nat
  row : Nat
  erased : Nat
  ius : List Nat
  time : Nat
  unset : Bool
  deriving DecidableEq, Repr

/-- A parity engine's queues (PAR_ENG). -/
structure ParEng where
  folds : Nat
  rebuilds : Nat
  deriving DecidableEq, Repr

/-- Stripes, rebuild and reshape (chapter 6). -/
structure Par where
  present : Nat            -- PAR_SHEETS.PRESENT
  usable : Nat             -- PAR_SHEETS.USABLE
  layoutGen : Nat
  frontier : Nat
  sweep : Bool             -- SWEEP_ACTIVE
  replayDone : Bool
  slot : Tab Slot          -- 3,583 stripe slots, keys 1 to 3,583 (slot 0: the layout record)
  sseq : Nat
  lost : List LostRow
  evac : Option Nat        -- sheet under evacuation
  serials : List (Nat × List Nat)  -- the layout record: SERIAL of each usable sheet (R668)
  groups : Tab Nat         -- the usable sheets of each stripe group when the layout last changed (R205)
  slotsOut : Bool          -- no stripe slot was FREE, and no frame has begun with one since (R193)
  deriving DecidableEq, Repr

def Par.reset : Par := ⟨0, 0, 0, 0, false, false, [], 0, [], none, [], [], false⟩

/-- A flash channel (R219 to R238). -/
structure Chan where
  rate : Nat
  lpddr4 : Bool
  trained : Bool
  wpHigh : Bool            -- level of WP_N
  due : Bool               -- RETRAIN_DUE
  dueAt : Nat              -- clock tick at which the retraining became due
  stepsLeft : Nat
  late : Bool
  tLast : Int
  count : Nat
  discovered : Bool
  deriving DecidableEq, Repr

def Chan.reset : Chan := ⟨0, false, false, false, false, 0, 0, false, 0, 0, false⟩

/-- A die position (R225 to R249). -/
structure Die where
  present : Bool
  absent : Bool            -- marked absent in service (R17, R239)
  fenced : Bool
  profile : Option Nat     -- profile slot bound; none: UNPROFILED
  readTrim : Nat
  writeTrim : Nat
  ffCount : Nat            -- consecutive 0xFF status reads (R239)
  runEnd : Nat             -- clock tick at which the run timer expires
  runKind : Nat            -- 0 none, 1 program, 2 erase
  held : Bool              -- a SUSPEND is held by the run timer (R245)
  suspAt : Option Nat      -- clock tick at which the suspension began (R247)
  trainFails : Nat         -- failures of its die step: 2 once fenced by training
  resumeDue : Bool         -- a suspension reached 10 ms: its resume is named (R247)
  deriving DecidableEq, Repr

def Die.reset : Die := ⟨false, false, false, none, 0, 0, 0, 0, 0, false, none, 0, false⟩

/-- A profile slot: the record of Table 07-4 bound to it (R231 to R233). Times in 1/16 µs, energies in 1/256 power
token. -/
structure Profile where
  record : Nat             -- index of the record
  id : Nat                 -- PROFILE_ID
  rev : Nat
  modes : Nat
  maxRate : Nat
  bpc : Nat                -- BITS_PER_CELL
  planes : Nat
  pages : Nat              -- PAGES_PER_BLOCK
  blocks : Nat
  spare : Nat              -- SPARE_BYTES
  tR : Nat
  tPROG : Nat
  tBERS : Nat
  tSUSE : Nat
  tSUSP : Nat
  tRES : Nat
  minE : Nat               -- T_MINRUN_E, its default where the record holds 0
  minP : Nat
  tWAKE : Nat
  tZQ : Nat
  tRDT : Nat
  tWRT : Nat
  maxSusp : Nat
  softReads : Nat
  retryLen : Nat
  ratedPE : Nat
  readLimit : Nat
  retThr : Nat             -- RETENTION_THRESHOLD
  progSeg : List (Nat × Bool)   -- segments: length, suspendable
  eraseSeg : List (Nat × Bool)
  eRead : Nat
  eProg : Nat
  eErase : Nat
  eByte : Nat              -- per KiB
  iPeak : Nat              -- 10 mA
  iWake : Nat
  suspP : Nat              -- suspend and resume opcodes
  resP : Nat
  suspE : Nat
  resE : Nat
  slc : Nat
  code : Nat               -- LDPC code
  softDelta : Nat
  sets : List (List Nat)   -- RETRY_SETS
  deriving DecidableEq, Repr

/-- Flash channels and dies (chapter 7). -/
structure Fch where
  chan : Tab Chan
  die : Tab Die
  profile : Tab (Option Profile)
  absentHold : List (Nat × Nat × List Nat)  -- sheets under the 250 ms window: (sheet, since, dies) (R241)
  deriving DecidableEq, Repr

def Fch.reset : Fch := ⟨[], [], [], []⟩

/-- Die context states (R255). -/
inductive CtxState where
  | idle | running | suspended | fenced
  deriving DecidableEq, Repr

/-- A die context (R255, R260). -/
structure Ctx where
  st : CtxState
  pc : Nat
  resumePc : Nat
  c : List Nat             -- C0 to C3
  saved : List Nat         -- saved C0 to C3
  long : Nat               -- LONG
  suspCount : Nat
  lastStatus : Nat
  issueEpoch : Nat
  pend : List Nat          -- pending requests: 0 FENCE, 1 RELEASE, 2 SUSPEND, 3 START
  entry : Nat              -- plan's entry address
  row : Nat                -- plan's row, column, tile, plane mask
  col : Nat
  tile : Nat
  planeMask : Nat
  param : List Nat         -- P0 to P15
  waitUntil : Nat          -- clock tick at which a WAIT ends
  waiting : Bool
  moving : Option Nat      -- a mover burst outstanding: direction
  inRead : Bool
  chain : Nat              -- chained cycles since the last boundary (R262)
  refetch : Bool           -- the current word is being fetched again (R265)
  newOwner : Nat
  atomic : Bool            -- the word before this boundary carried ATOMIC
  handler : Nat            -- entry address of the handler that runs (Table 08-6); 0: none
  word : Nat               -- the WAIT word being waited out
  moveErr : Bool           -- the burst last handed over ended in an error
  plans : List DiePlan     -- the plans of the pending STARTs, oldest first
  ref : RefState           -- the reference state its die holds (R288)
  confirmed : Bool         -- the confirm of the operation in flight has been driven (R274)
  savedEpoch : Nat         -- the issue epoch of the suspended operation (R277)
  migrated : Bool          -- the saved copies wait for a new owner's RESTORE (R280, Table 08-12)
  deriving DecidableEq, Repr

def Ctx.reset : Ctx :=
  { st := .idle, pc := 0, resumePc := 0, c := [0, 0, 0, 0], saved := [0, 0, 0, 0], long := 0, suspCount := 0, lastStatus := 0, issueEpoch := 0, pend := [],
    entry := 0, row := 0, col := 0, tile := 0, planeMask := 0, param := [], waitUntil := 0, waiting := false, moving := none, inRead := false, chain := 0,
    refetch := false, newOwner := 0, atomic := false, handler := 0, word := 0, moveErr := false, plans := [], ref := .set 0, confirmed := false,
    savedEpoch := 0, migrated := false }

/-- The microcode of one kind of engine: UCODE_VER (R266 to R269). -/
structure Ucode where
  patchVer : Nat
  locked : Bool
  skipped : Bool
  slot : Nat
  build : Nat
  ram : Tab (BitVec 128)   -- patch RAM, by offset from address 0xE00 (R266)
  redirect : List (Nat × Nat)  -- redirect table: ROM address, patch address, at most 16 (R267)
  deriving DecidableEq, Repr

def Ucode.reset : Ucode := ⟨0, false, false, 3, 0, [], []⟩

/-- Traverse engines (chapter 8). -/
structure Trv where
  ctx : Tab Ctx
  ucode : Tab Ucode        -- in the order of R269: 0 Traverse, 1 Waypoint, 2 channel mover, 3 parity, 4 cipher, 5 Atlas
  busHold : Tab Nat        -- who holds the bus grant of a channel: 0 none, a die's chain: the die plus 1, the mover: 4,097 plus the die it serves
  served : Tab Nat         -- the die an engine served last, plus 1 (R256)
  busServed : Tab Nat      -- the engine of a channel that had the bus last, plus 1 (R258)
  ce : Tab Nat             -- the chip enable of a channel that stays asserted, plus 1; 0 none (R259)
  deriving DecidableEq, Repr

def Trv.reset : Trv := ⟨[], [], [], [], [], []⟩

/-- A decode or reservation on an LDPC lane (R293 to R299). -/
structure LdpJob where
  id : Nat
  mode : Nat               -- 0 hard, 1 soft, 2 ladder
  start : Nat
  bits : Nat               -- bits a cell its reads combine to: 1, or of a soft decode 2 or 3 (R289)
  die : Nat
  cmd : Option (Nat × Nat × Nat)  -- the command it decodes for, and its IU plus 1
  iu : Nat
  step : Nat               -- of a ladder decode: its set
  len : Nat                -- of a reservation: the clock ticks of its interval (R294)
  ready : Bool             -- of a reservation: its data lies in the tiles and waits for a lane (R294)
  tiles : List Booking     -- the tiles it decodes from
  orphan : Bool            -- its command has ended: its tiles return when it ends (R438)
  deriving DecidableEq, Repr

structure Lane where
  busy : Option LdpJob
  hardMoved : Bool
  res : List LdpJob        -- soft reservations placed
  yielded : List LdpJob    -- decodes that yielded
  deriving DecidableEq, Repr

def Lane.reset : Lane := ⟨none, false, [], []⟩

/-- Bay states (Table 10-3), in the table's order. -/
inductive BayState where
  | empty | debounce | waitPower | powering | identify | discover | held | offered | abortWindow | evacuating
  | poweringOff | off | rejected | faulted
  deriving DecidableEq, Repr

/-- A sheet bay (R300 to R322). -/
structure Bay where
  st : BayState
  level : Bool             -- SHB_PRSNT_N low (a sheet is there)
  edgeAt : Option Nat      -- clock tick of the last edge not yet debounced
  present : Bool           -- debounced
  pwrEn : Bool
  pwrGood : Bool
  attn : Nat
  pwrInd : Nat
  locked : Bool
  idValid : Bool
  id : List Nat            -- identity record, 256 bytes
  dies : Nat
  since : Nat              -- clock tick of the last state change
  blinkEnd : Option Nat    -- refusal blink (R315)
  press : Bool             -- a press latched in DORMANT or HOLDUP (R320)
  handle : Option Nat      -- OP handle of the SHEET_REMOVE being served
  offer : Bool             -- an offer has been requested (R312)
  deriving DecidableEq, Repr

def Bay.reset : Bay :=
  ⟨.empty, false, none, false, false, false, 0, 0, false, false, [], 0, 0, none, false, none, false⟩

end Sys2Proof.Machine
end

