-- ==== Sys2Proof/Machine/State.lean ====
section
/-! DEFINITION. The state of the TQ128 as plain data, its faults and refusals, and the state after reset.
The device is a block: it takes commands from a queue, first in, first out. -/

namespace Sys2Proof.Machine

/-- The reasons a command can stop the model. There is none: every command of the table has an effect the spec gives. -/
inductive Fault where
  /-- Raised by no command: the model has no fault of its own. The device's own faults (Table 18-1) are effects on the
  state, not stops. Kept so that the type is not empty. Safe. -/
  | unreachable
  deriving DecidableEq, Repr

/-- The reasons a command can be refused by the model. -/
inductive Refusal where
  /-- A command whose meaning is not written yet, by its mnemonic. Safe: nothing can be proved of it. -/
  | notModelled (mnemonic : String)
  deriving DecidableEq, Repr

/-- The whole state of the device. -/
structure State where
  /-- Commands waiting, first in, first out (the queue of a block). -/
  pending : List Instr
  /-- The model's clock, in ticks of 1.25 ns (R14: 800 MHz). -/
  now : Nat
  /-- Counter of free values drawn: the model's own field (log entry 5). -/
  fresh : Nat
  /-- What has been sent to the outside, newest first: the model's own record (log entry 4). -/
  out : List Out
  /-- Register words that differ from their reset value, by key (`Reg.key`). -/
  regs : Tab W32
  /-- Fault words and fences, key block × 4,096 + instance (R536). -/
  flt : Tab FltUnit
  /-- Sends of the flit in hand that failed, by die link end (R12). -/
  links : Tab Nat
  pin : FaultPin
  gaz : Gaz
  dat : Datum
  mgmt : Mgmt
  pwr : Power
  ports : Tab Port
  fns : Tab Fn
  ctls : Tab Ctl
  /-- Submission queues, key 1,024 f + q. -/
  sqs : Tab (Option Sq)
  /-- Completion queues, key 1,024 f + q. -/
  cqs : Tab (Option Cq)
  /-- I/O commands fetched and not ended, oldest first. -/
  cmds : List Cmd
  /-- Completion entries decided and not sent, oldest first. -/
  cpls : List Cpl
  classes : Tab Cls
  /-- Rate buckets, key 64 f + class (R41); unlisted = full. -/
  buckets : Tab (Option Bucket)
  /-- Direct window contents, key f × 2^40 + offset; unlisted = 0 (log entry 6). -/
  window : Tab Byte
  /-- Inbound mailboxes, key 4,096 f + offset; unlisted = 0 (log entry 6). -/
  inbox : Tab Byte
  mbx : Tab Mbx
  ops : Tab (Option OpRec)
  nextHandle : Nat
  /-- Deadline Statistics counters of Table 12-10, key 128 f + row; saturating. -/
  stats : Tab Nat
  /-- Media Counters of Table 12-12, by row. -/
  media : Tab Nat
  plt : Plotter
  atl : Atlas
  svy : Svy
  par : Par
  fch : Fch
  trv : Trv
  lanes : Tab Lane
  bays : Tab Bay
  til : Til
  dram : Tab Dram
  cip : Cip
  ctr : Ctr
  por : Por
  srv : Srv
  start : Start
  deriving DecidableEq, Repr

def Power.reset : Power :=
  { mode := .service, pstate := 0, entering := none, held := false, cause := 0, lowOnStop := false, dumpParts := true,
    dumpAbort := false, dumps := [], dumpSeq := 0, armedSet := 0, writtenSet := none, eraseSet := none, stageEpoch := 0, budget := 0,
    stagingUse := 0, cPrev := none, eMeasured := 0, esr := 0, lastTestFrame := 0, lastTestAt := 0, testDormant := 0, dormantAt := 0, tested := false, failed := false, test := CapTest.reset,
    holdEn := true, holdTestEn := false, pwrFailN := true, wakeOut := false, railsTripped := 0, avsAt := none,
    entryDatum := 0 }

/-- Table 02-4 (R36): the classes after device reset; classes 2 to 63 hold class 1's values, not enabled. -/
def Cls.reset (c : Nat) : Cls :=
  { enable := decide (c < 2), hold := decide (c ≠ 0), holdLimit := 100, dlRead := if c = 0 then 250 else 2000,
    dlWrite := 30, dlFua := 4000, dlFlush := 8000, dlDealloc := 1000, dlOther := 8000, rateCmds := 0, rateBytes := 0,
    unfit := false }

/-- The pools of Table 14-3 after device reset: the tiles numbered through the pools in order, free lists rising (the order
of the lists is the model's choice, log entry 10). -/
def tilePoolsReset : List TPool :=
  [⟨1024, List.range' 0 1024, 0, 0, 1024, 1024⟩, ⟨1024, List.range' 1024 1024, 0, 0, 1024, 1024⟩,
   ⟨512, List.range' 2048 512, 0, 0, 512, 512⟩, ⟨512, List.range' 2560 512, 0, 0, 512, 512⟩,
   ⟨256, List.range' 3072 256, 0, 0, 256, 256⟩, ⟨384, List.range' 3328 384, 0, 0, 384, 384⟩,
   ⟨256, List.range' 3712 256, 0, 0, 256, 256⟩, ⟨128, List.range' 3968 128, 0, 0, 128, 128⟩]

def Til.reset : Til := ⟨[], tilePoolsReset, false, 0⟩
def Ctr.reset : Ctr :=
  ⟨[], [], 35 * 128, [], [], 0, 0, 0, none, [], 0, 2, none, none, false, 0, 0, none, 0, [], none, 0, 0, 0, []⟩
def Por.reset : Por :=
  ⟨[], [], none, [], [], [], [], 512, 0, 0, 3, false, false, [], none, false, false, 0, none, RLink.reset, RLink.reset, 0, [], none⟩

/-- The machine right after device reset. -/
def State.reset : State :=
  { pending := [], now := 0, fresh := 0, out := [], regs := [], flt := [], links := [], pin := ⟨false⟩, gaz := Gaz.reset,
    dat := Datum.reset, mgmt := Mgmt.reset, pwr := Power.reset, ports := [], fns := [], ctls := [], sqs := [], cqs := [],
    cmds := [], cpls := [], classes := [], buckets := [], window := [], inbox := [], mbx := [], ops := [],
    nextHandle := 0, stats := [], media := [], plt := Plotter.reset, atl := Atlas.reset, svy := Svy.reset,
    par := Par.reset, fch := Fch.reset, trv := Trv.reset, lanes := [], bays := [], til := Til.reset, dram := [],
    cip := Cip.reset, ctr := Ctr.reset, por := Por.reset, srv := Srv.reset,
    start := ⟨1, 0, true, false, 0, [], 0, 0, false, [], false⟩ }

end Sys2Proof.Machine
end

