-- ==== Sys2Proof/Machine/Operands.lean ====
section
/-! DEFINITION. The operand forms: little-endian fields of payloads and records, byte lists, CRCs, the Gazetteer record's
bytes, and how a register access names its register. -/

set_option linter.unusedVariables false

namespace Sys2Proof.Machine

/-- Little-endian value of `size` bytes from offset `off` of a byte list; absent bytes read 0. -/
def le (bs : List Nat) (off : Nat) : Nat → Nat
  | 0 => 0
  | n + 1 => bs.getD off 0 % 256 + 256 * le bs (off + 1) n

/-- `v` as `n` bytes, least significant first (R400). -/
def bytesLe : Nat → Nat → List Nat
  | 0, _ => []
  | n + 1, v => v % 256 :: bytesLe n (v / 256)

/-- `n` zero bytes. -/
def zeros (n : Nat) : List Nat := List.replicate n 0

/-- One step of a bitwise CRC, most significant bit first, of `w` bits with polynomial `poly`. -/
def crcMsbStep (w poly acc : Nat) : Nat :=
  if acc / 2 ^ (w - 1) % 2 = 1 then (acc * 2 % 2 ^ w) ^^^ poly else acc * 2 % 2 ^ w

/-- `n` steps of `crcMsbStep`. -/
def crcMsbSteps (w poly : Nat) : Nat → Nat → Nat
  | 0, acc => acc
  | n + 1, acc => crcMsbSteps w poly n (crcMsbStep w poly acc)

/-- CRC-16 of R569: polynomial 0x1021, initial value 0xFFFF, no reflection, no inversion. -/
def crc16 (bs : List Nat) : Nat :=
  bs.foldl (fun acc b => crcMsbSteps 16 0x1021 8 (acc ^^^ ((b % 256) * 256))) 0xFFFF

/-- The 16-bit guard of protection information (R379, R676: the NVM Command Set's CRC-16, polynomial 0x8BB7, initial value 0). -/
def guardCrc (bs : List Nat) : Nat := bs.foldl (fun acc b => crcMsbSteps 16 0x8BB7 8 (acc ^^^ ((b % 256) * 256))) 0

/-- The protection information of a deallocated LBA (R381): the guard of the zeros, Application Tag 0xFFFF, Reference Tag 0xFFFF_FFFF, most
significant byte first. -/
def zeroPi (lba : Nat) : List Nat := let g := guardCrc (zeros lba); [g / 256, g % 256, 0xFF, 0xFF, 0xFF, 0xFF, 0xFF, 0xFF]

/-- One reflected CRC step with the reversed polynomial. -/
def crcLsbStep (rpoly acc : Nat) : Nat := if acc % 2 = 1 then (acc / 2) ^^^ rpoly else acc / 2

/-- `n` steps of `crcLsbStep`. -/
def crcLsbSteps (rpoly : Nat) : Nat → Nat → Nat
  | 0, acc => acc
  | n + 1, acc => crcLsbSteps rpoly n (crcLsbStep rpoly acc)

/-- A reflected 32-bit CRC, initial value and final inversion all ones (R675). -/
def crc32With (rpoly : Nat) (bs : List Nat) : Nat :=
  (bs.foldl (fun acc b => crcLsbSteps rpoly 8 (acc ^^^ (b % 256))) 0xFFFFFFFF) ^^^ 0xFFFFFFFF

/-- CRC-32, polynomial 0x04C11DB7 (R675). -/
def crc32 (bs : List Nat) : Nat := crc32With 0xEDB88320 bs
/-- CRC-32C, polynomial 0x1EDC6F41 (R675). -/
def crc32c (bs : List Nat) : Nat := crc32With 0x82F63B78 bs

/-- Bytes 0 to 29 of a Gazetteer record (Table 19-4). -/
def GazRec.body (r : GazRec) : List Nat :=
  bytesLe 8 (r.time % 2 ^ 42 + r.lastDelta % 2 ^ 22 * 2 ^ 42)
    ++ bytesLe 4 (r.block % 2 ^ 12 + r.inst % 2 ^ 12 * 2 ^ 12 + r.sev % 16 * 2 ^ 24 + b2n r.unset * 2 ^ 28)
    ++ bytesLe 2 r.code ++ bytesLe 2 r.rep ++ bytesLe 8 r.data ++ bytesLe 4 r.seq ++ zeros 2

/-- The 32 bytes of a record as it stands. -/
def GazRec.bytes (r : GazRec) : List Nat := r.body ++ bytesLe 2 r.crc

/-- The record with its CRC computed (R569). -/
def GazRec.sealCrc (r : GazRec) : GazRec := { r with crc := crc16 r.body }

/-- Keys of the fault words (R536). -/
def unitKey (block inst : Nat) : Nat := block * 4096 + inst

/-- Keys of the per-function queues. -/
def qKey (fn q : Nat) : Nat := fn * 1024 + q

/-- Mailbox paths: functions are 0 to 255; a management context is 0x100 + its EID. -/
def isFnPath (p : Nat) : Bool := decide (p < 256)

/-- R410: PFs and management contexts hold device privilege. -/
def hasDevicePrivilege (p : Nat) : Bool := decide (256 ≤ p) || decide (p % 128 = 0)

/-- A die's channel, sheet, group, and place within the channel (R15: D = 16 c + 2 e + n). -/
def dieChan (d : Nat) : Nat := d / 16
def dieSheet (d : Nat) : Nat := d / 128
def dieGroup (d : Nat) : Nat := d % 128
/-- The home Traverse engine of a die within its channel (R16). -/
def dieHome (d : Nat) : Nat := d % 16 / 4
/-- The quadrant of a channel (R15). -/
def chanQuad (c : Nat) : Nat := c / 32

/-- A register named by a DCS offset: the register and the element, for a dword-aligned offset (R9, R657). The copies
of R660 are named by the path. -/
def regAt (offset : Nat) : Option (Reg × Nat) :=
  (Reg.all.filterMap (fun r =>
    if r.base < 0x1000000 ∧ r.base ≤ offset ∧ offset % 4 = 0 then
      if r.stride = 4 then
        if (offset - r.base) / 4 < r.count then some (r, (offset - r.base) / 4) else none
      else if offset = r.base then some (r, 0) else none
    else none)).head?

/-- The copy of R660 a path uses. -/
def pathNum : Path → Nat
  | .pf0 => 0 | .pf1 => 1 | .mgmt => 2 | .firmware => 3

/-- The fault word named by a DCS offset: block code, word (0 STATUS, 1 MASK, 2 CTL) and element (R656, Table 23-2). -/
def fltWordAt (offset : Nat) : Option (Nat × Nat × Nat) :=
  let b := offset / 0x10000
  let o := offset % 0x10000
  let word := if o < 0x8000 then none else if o < 0xA000 then some 0 else if o < 0xC000 then some 1
    else if o < 0xE000 then some 2 else none
  let inPart := o % 0x2000
  let second := (b = 0x08 ∨ b = 0x0E) ∧ 0x800 ≤ inPart
  let code := match b with
    | 0x00 => some 0x030 | 0x01 => some 0x040 | 0x02 => some 0x050 | 0x03 => some 0x060 | 0x04 => some 0x070
    | 0x05 => some 0x080 | 0x06 => some 0x081 | 0x07 => some 0x090
    | 0x08 => some (if second then 0x0A1 else 0x0A0) | 0x09 => some 0x0A2 | 0x0A => some 0x0B0 | 0x0B => some 0x0C0
    | 0x0E => some (if second then 0x0D0 else 0x0E0) | 0x12 => some 0x020 | 0x13 => some 0x010 | _ => none
  match word, code with
  | some w, some c => some (c, w, (if second then inPart - 0x800 else inPart) / 4)
  | _, _ => none

/-- A register of a function window, by its BAR2 offset (Table 11-5, R398): the register and the element. -/
def windowRegAt (fn offset : Nat) : Option (Reg × Nat) :=
  if offset % 4 ≠ 0 then none
  else match offset with
    | 0x00 => some (.HST_SENTINEL, fn) | 0x04 => some (.HST_FN_INFO, fn) | 0x08 => some (.HST_FN_CTRL, fn)
    | 0x0C => some (.HST_FN_STATUS, fn) | 0x10 => some (.HST_FN_EVENTS, fn) | 0x14 => some (.HST_PROMISE_STATUS, fn)
    | 0x18 => some (.HST_PROMISE_EVENTS, fn) | 0x1C => some (.HST_DEADLINE_MISS, fn) | 0x20 => some (.HST_LINK, fn)
    | 0x24 => some (.HST_GAZ_PAGE, fn)
    | 0x100 => some (.MBX_DOORBELL, fn) | 0x104 => some (.MBX_STATUS, fn) | 0x108 => some (.MBX_EVENTS, fn)
    | 0x10C => some (.MBX_SESSION, fn) | 0x800 => some (.HST_CLASS_MASK_LO, fn)
    | 0x804 => some (.HST_CLASS_MASK_HI, fn) | 0x808 => some (.HST_CLASS_DEFAULT, fn)
    | o =>
      if 0x44 ≤ o ∧ o ≤ 0x7C then (if fn % 128 = 0 then some (.HST_DCS_WIN, 16 * fn + (o - 0x40) / 4) else none)
      else if 0x1000 ≤ o ∧ o ≤ 0x1800 then some (.HST_QCLASS, 1024 * fn + (o - 0x1000) / 4)
      else none

end Sys2Proof.Machine
end

