-- ==== Sys2Proof/Machine/Flags.lean ====
section
/-! DEFINITION. The tables that decide flags and statuses: fault classes and units (18), event notifications (each
chapter's register rule), the DNR of completions (R677), status codes (R423, R676). -/

set_option linter.unusedVariables false

namespace Sys2Proof.Machine

/-- Table 18-2: instances of each unit. -/
def unitCount (block : Nat) : Nat :=
  match block with
  | 0x010 => 2 | 0x020 => 256 | 0x030 => 16 | 0x040 => 16 | 0x050 => 16 | 0x060 => 1 | 0x070 => 12 | 0x080 => 32
  | 0x081 => 1 | 0x090 => 64 | 0x0A0 => 128 | 0x0A1 => 128 | 0x0A2 => 512 | 0x0B0 => 256 | 0x0C0 => 16 | 0x0D0 => 10
  | 0x0E0 => 1 | _ => 0

/-- Table 18-2: a unit with a fence effect. -/
def hasFence (block : Nat) : Bool :=
  match block with
  | 0x060 | 0x081 | 0x0D0 | 0x0E0 => false
  | b => decide (0 < unitCount b)

/-- Table 18-2, "DEVICE when": the fewest instances that may stay unfenced. -/
def unitLeast (block : Nat) : Nat :=
  match block with
  | 0x030 => 8 | 0x040 => 1 | 0x050 => 8 | 0x070 => 6 | 0x080 => 8 | 0x090 => 8 | _ => 0

/-- Fault classes of Table 18-1. -/
inductive FClass where
  | corrected | contained | unit | device | partnerFenced
  deriving DecidableEq, Repr

def FClass.num : FClass → Nat
  | .corrected => 1 | .contained => 2 | .unit => 3 | .device => 4 | .partnerFenced => 5

/-- The FLT_STATUS bit of a class (Table 18-7). -/
def FClass.bit : FClass → Nat
  | .corrected => 3 | .contained => 4 | .unit => 5 | .device => 6 | .partnerFenced => 7

/-- Class of a cause (Table 18-3) before R540's "none cannot be fenced". -/
def causeClass (block cause : Nat) : FClass :=
  match cause with
  | 0x01 | 0x04 | 0x06 | 0x08 | 0x0B => .corrected
  | 0x02 | 0x05 | 0x0C | 0x12 | 0x13 | 0x14 => .contained
  | 0x03 => if block = 0x030 ∨ block = 0x060 ∨ block = 0x0E0 then .device else .unit
  | 0x07 | 0x17 | 0x18 => .device
  | 0x19 => .partnerFenced
  | _ => .unit

/-- Causes that fence a sub-unit and not the instance (Table 18-4): a DRAM region, a die, a key slot. -/
def isSubUnit (cause : Nat) : Bool := decide (cause = 0x0D ∨ cause = 0x0F ∨ cause = 0x11)

/-- R540: a UNIT-class cause of a unit that cannot be fenced is raised as DEVICE. -/
def faultClass (block cause : Nat) : FClass :=
  match causeClass block cause with
  | .unit => if hasFence block || isSubUnit cause then .unit else .device
  | c => c

/-- Table 18-2, "Link partners" (R544): `a` exchanges traffic with `b`. Where the table names a kind, every instance
of it is a partner, except where the row says "its". -/
def partnerOf (b1 i1 b2 i2 : Nat) : Bool :=
  match b1, b2 with
  | 0x010, 0x020 => decide (i2 / 128 = i1)
  | 0x020, 0x010 => decide (i1 / 128 = i2)
  | 0x020, 0x030 => true | 0x030, 0x020 => true
  | 0x020, 0x040 => true | 0x040, 0x020 => true
  | 0x030, 0x0A2 => true | 0x0A2, 0x030 => true
  | 0x030, 0x040 => true | 0x040, 0x030 => true
  | 0x040, 0x070 => true | 0x070, 0x040 => true
  | 0x050, b => decide (b ≤ 0x090) | b, 0x050 => decide (b ≤ 0x090) || decide (b = 0x0E0)
  | 0x060, b => decide (b ≤ 0x0B0) | b, 0x060 => decide (b = 0x080 ∨ b = 0x090 ∨ b = 0x070)
  | 0x070, 0x090 => true | 0x090, 0x070 => true
  | 0x070, 0x020 => true | 0x070, 0x010 => true | 0x020, 0x070 => true | 0x010, 0x070 => true
  | 0x070, 0x080 => true | 0x080, 0x070 => true | 0x070, 0x0E0 => true
  | 0x080, 0x081 => true | 0x081, 0x080 => true
  | 0x0A0, 0x0A2 => decide (i2 / 4 = i1) | 0x0A2, 0x0A0 => decide (i1 / 4 = i2)
  | 0x0A0, 0x0A1 => decide (i1 = i2) | 0x0A1, 0x0A0 => decide (i1 = i2)
  | 0x0A0, 0x0B0 => decide (i2 / 2 = i1) | 0x0B0, 0x0A0 => decide (i1 / 2 = i2)
  | 0x0A1, 0x0A2 => decide (i2 / 4 = i1) | 0x0A2, 0x0A1 => decide (i1 / 4 = i2)
  | 0x0B0, 0x030 => true | 0x030, 0x0B0 => true
  | 0x0C0, 0x0A0 => decide (i2 / 8 = i1) | 0x0A0, 0x0C0 => decide (i1 / 8 = i2)
  | 0x0D0, 0x0D0 => decide (i1 / 2 = i2 / 2 ∧ i1 ≠ i2)
  | _, _ => false

/-- The interrupt to Surveyor firmware that an event register signals (the register rules of each chapter): the block code of the unit that
interrupts, the Chartroom's 0x0E0 and the hub's 0x080, + 4,096 × channel or quadrant. -/
def irqOf (r : Reg) (i : Nat) : Nat :=
  match r with
  | .PLT_EVENTS => 0x030
  | .ATL_EVENTS | .ATL_JRNL_WM => 0x040
  | .PAR_EVENTS | .PAR_JRNL_WM => 0x090
  | .FCH_EVENTS => 0x0A0 + 4096 * i
  | .TRV_ENG => 0x0A0 + 4096 * (i / 4)
  | .LDP_EVENTS => 0x0B0 + 4096 * i
  | .TIL_EVENTS | .TIL_POOL_WM => 0x060
  | .DRC_CH_EVENTS => 0x070
  | .CIP_EVENTS | .LEG_EVENTS => 0x080
  | _ => 0x0E0

/-- Whom setting an event bit tells (the register rule of each chapter): Surveyor firmware, a Gazetteer record, and the
mailbox MSI-X vectors: 0 none, 1 PF0 and PF1, 2 the function's own. -/
structure Notice where
  firmware : Bool
  record : Bool
  vector : Nat
  block : Nat              -- block code of the record (R570)
  deriving DecidableEq, Repr

/-- R107, R151, R183 (R171), R217, R253, R282, R299, R322, R455, R486, R507, R530, R577, R606, R622, R54, R357, R426. -/
def notice (r : Reg) (bit : Nat) : Notice :=
  match r with
  | .PLT_EVENTS => ⟨true, false, 0, 0x030⟩
  | .ATL_EVENTS => ⟨true, false, 0, 0x040⟩
  | .ATL_JRNL_WM => ⟨true, false, 0, 0x040⟩
  | .SVY_MEDIA_EVENTS => ⟨false, true, 1, 0x050⟩
  | .SVY_FREE_WM => ⟨false, true, 1, 0x050⟩
  | .PAR_EVENTS => ⟨true, true, if bit = 0 ∨ bit = 3 ∨ bit = 5 then 1 else 0, 0x090⟩
  | .PAR_JRNL_WM => ⟨true, true, 0, 0x090⟩
  | .FCH_EVENTS => ⟨true, true, 0, 0x0A0⟩
  | .TRV_ENG => ⟨decide (bit = 26 ∨ bit = 27), decide (bit = 26 ∨ bit = 27), 0, 0x0A2⟩
  | .LDP_EVENTS => ⟨true, decide (3 ≤ bit), 0, 0x0B0⟩
  | .SHB_EVENTS =>
    ⟨true, true, if bit = 0 ∨ bit = 1 ∨ bit = 2 ∨ bit = 4 ∨ bit = 5 ∨ bit = 6 ∨ bit = 7 then 1 else 0, 0x0C0⟩
  | .TIL_EVENTS => ⟨true, false, 0, 0x060⟩
  | .TIL_POOL_WM => ⟨true, false, 0, 0x060⟩
  | .DRC_CH_EVENTS => ⟨true, true, if bit = 1 ∨ bit = 2 then 1 else 0, 0x070⟩
  | .CIP_EVENTS => ⟨true, true, if bit = 0 ∨ bit = 4 then 1 else 0, 0x080⟩
  | .LEG_EVENTS => ⟨true, true, if bit = 0 ∨ bit = 1 ∨ bit = 2 then 1 else 0, 0x081⟩
  | .PWR_EVENTS => ⟨true, true, if bit = 0 ∨ bit = 3 ∨ bit = 4 then 1 else 0, 0x0E6⟩
  | .CTR_EVENTS => ⟨true, true, if bit = 0 ∨ bit = 4 ∨ bit = 5 then 1 else 0, 0x0E3⟩
  | .CTR_TEMP_WM => ⟨true, true, 0, 0x0E3⟩
  | .DAT_EVENTS => ⟨true, true, 0, 0x0E1⟩
  | .POR_EVENTS => ⟨true, true, if bit = 5 then 1 else 0, 0x0E5⟩
  | .UPD_EVENTS => ⟨true, true, if bit = 1 ∨ bit = 2 ∨ bit = 4 then 1 else 0, 0x0E5⟩
  | .SRV_EVENTS => ⟨true, true, if bit = 1 ∨ bit = 5 then 1 else 0, 0x0E4⟩
  | .HST_FN_EVENTS => ⟨false, false, 2, 0x010⟩
  | .HST_PROMISE_EVENTS => ⟨false, false, 2, 0x010⟩
  | .MBX_EVENTS => ⟨false, false, 2, 0x0E7⟩
  | _ => ⟨false, false, 0, 0x0E0⟩

/- Completion statuses as 256 × SCT + SC (R676, Table 12-15 and the rules that name them). -/
namespace Sc
def success : Nat := 0x000
def invalidOpcode : Nat := 0x001
def invalidField : Nat := 0x002
def dataTransferError : Nat := 0x004
def sqDeletion : Nat := 0x008
def invalidNamespace : Nat := 0x00B
def sequenceError : Nat := 0x00C
def lbaRange : Nat := 0x080
def formatInProgress : Nat := 0x084
def cqInvalid : Nat := 0x100
def invalidQueueId : Nat := 0x101
def invalidQueueSize : Nat := 0x102
def abortLimit : Nat := 0x103
def aerLimit : Nat := 0x105
def invalidVector : Nat := 0x108
def invalidLogPage : Nat := 0x109
def invalidFormat : Nat := 0x10A
def invalidQueueDeletion : Nat := 0x10C
def notSaveable : Nat := 0x10D
def unrecoveredRead : Nat := 0x281
def guardCheck : Nat := 0x282
def appTagCheck : Nat := 0x283
def refTagCheck : Nat := 0x284
def compareFailure : Nat := 0x285
def accessDenied : Nat := 0x286
def deadlineUnattainable : Nat := 0x780
end Sc

/-- Table 12-15: DNR of a completion status (R677); a success carries none. -/
def dnrOf (status : Nat) : Bool :=
  if status = Sc.success then false
  else if status = Sc.deadlineUnattainable ∨ status = Sc.unrecoveredRead ∨ status = Sc.dataTransferError
      ∨ status = Sc.sqDeletion ∨ status = Sc.formatInProgress then false
  else true

/- Mailbox status codes (Table 13-13). -/
namespace Ms
def success : Nat := 0x0000
def invalidOpcode : Nat := 0x0001
def invalidLength : Nat := 0x0002
def invalidField : Nat := 0x0003
def privilege : Nat := 0x0004
def version : Nat := 0x0005
def sessionRequired : Nat := 0x0006
def segmentError : Nat := 0x0007
def busy : Nat := 0x0008
def closed : Nat := 0x0009
def orderingCode : Nat := 0x000A
def mode : Nat := 0x000B
def unknownHandle : Nat := 0x000C
def classBound : Nat := 0x0101
def notPermitted : Nat := 0x0102
def quotaExceeded : Nat := 0x0103
def reserveLimit : Nat := 0x0104
def mapSpace : Nat := 0x0201
def inUse : Nat := 0x0202
def format : Nat := 0x0203
def nsLimit : Nat := 0x0204
def noObject : Nat := 0x0205
def slotNotReady : Nat := 0x0301
def unwrapFailed : Nat := 0x0302
def slotBound : Nat := 0x0303
def rekeyActive : Nat := 0x0304
def badAuth : Nat := 0x0305
def stale : Nat := 0x0306
def lockedOut : Nat := 0x0307
def datumUnset : Nat := 0x0401
def removeRefused : Nat := 0x0501
def notOfferable : Nat := 0x0502
def noWindow : Nat := 0x0503
def soldered : Nat := 0x0504
def noUpdateSession : Nat := 0x0601
def chunkCrc : Nat := 0x0602
def chunkOrder : Nat := 0x0603
def slotActive : Nat := 0x0604
def timePast : Nat := 0x0605
def storeFail : Nat := 0x0606
def unknownUnit : Nat := 0x0701
def testConditions : Nat := 0x0702
def noSibling : Nat := 0x0703
def modeTransition : Nat := 0x0801
def testRunning : Nat := 0x0802
def injectBusy : Nat := 0x0901
end Ms

end Sys2Proof.Machine
end

