-- ==== Sys2Proof/Machine/Ops.lean ====
section
/-! DEFINITION. The named operations on the state: registers and events, Datum, the Gazetteer, MSI-X, completions, mailbox
events, mode changes. -/

set_option linter.unusedVariables false

namespace Sys2Proof.Machine

/-- Time passes by one clock tick of 1.25 ns (what the block does while its queue is empty; log entry 2). -/
def State.tick (s : State) : State := { s with now := s.now + 1 }

/-- Ticks in a microsecond, a millisecond (one frame) and a second. -/
def usTicks : Nat := 800
def msTicks : Nat := 800000
def sTicks : Nat := 800000000

/-- Draws a free value: the state's counter advances, the value is `Config.free` at it (log entry 5). -/
def State.draw (s : State) : Nat × State := (Config.free s.fresh, { s with fresh := s.fresh + 1 })

/-! ### Registers -/

/-- A register's word. -/
def State.rg (s : State) (r : Reg) (i : Nat) : W32 := tabGet regDefault s.regs (r.key i)

/-- A register's word replaced. -/
def State.setReg (s : State) (r : Reg) (i : Nat) (w : W32) : State :=
  { s with regs := tabSet regDefault s.regs (r.key i) w }

/-- A field's value. -/
def State.fld (s : State) (f : Fld) (i : Nat) : Nat := bits (s.rg f.reg i) f.hi f.lo

/-- A field replaced. -/
def State.setFld (s : State) (f : Fld) (i v : Nat) : State := s.setReg f.reg i (putBits (s.rg f.reg i) f.hi f.lo v)

/-- A counter field raised by `n`, saturating at its field's largest value (the RC counters of every chapter). -/
def State.bump (s : State) (f : Fld) (i n : Nat) : State :=
  s.setFld f i (satAdd (2 ^ (f.hi + 1 - f.lo) - 1) (s.fld f i) n)

/-- What an access code makes of a written value in one field (Table 00-5, R6): the word after the write. W1S and WO
fields act through their own commands. -/
def FieldSpec.write (f : FieldSpec) (old new : W32) : W32 :=
  match f.acc with
  | .rw => putBits old f.hi f.lo (bits new f.hi f.lo)
  | .rw1c => old &&& ~~~ (new &&& fieldMask f.hi f.lo)
  | .w1s => old ||| (new &&& fieldMask f.hi f.lo)
  | .rwl => putBits old f.hi f.lo (bits new f.hi f.lo)
  | .ro | .wo | .rc => old

/-- A written value lies in a field's range, where the field has one. -/
def FieldSpec.takes (f : FieldSpec) (new : W32) : Bool :=
  match f.acc with
  | .rw | .rwl => decide (f.min ≤ bits new f.hi f.lo ∧ bits new f.hi f.lo ≤ f.max)
  | _ => true

/-- A written value lies in the range of every RW field (the out-of-range rules of each chapter). -/
def Reg.inRange (r : Reg) (new : W32) : Bool := r.fields.all (fun f => f.takes new)

/-- The registers whose out-of-range write is ignored field by field (R97; Tables 03-10, 04-10, 05-8, 06-8 and 07-7: "a write to a …
field was out of range and was ignored"); every other register's is ignored whole. -/
def Reg.perField : Reg → Bool
  | .PLT_RESERVE | .PLT_RECON | .PLT_LAGS | .PLT_ENVELOPE | .PLT_SHEET_PWR | .ATL_CTRL | .ATL_JRNL_WM | .SVY_GC_CFG | .SVY_UPKEEP_CFG
  | .SVY_SCAN_CFG | .SVY_FREE_WM | .PAR_CTRL | .PAR_JRNL_WM | .FCH_RETRAIN_CFG | .FCH_SSC => true
  | _ => false

/-- The word a write of `new` leaves, by the access codes of the register's fields. -/
def Reg.written (r : Reg) (old new : W32) : W32 := r.fields.foldl (fun w f => f.write w new) old

/-- The word that is left where some field is out of range: the fields in range of a register that is ignored field by field. -/
def Reg.writtenBad (r : Reg) (old new : W32) : W32 :=
  if r.perField then r.fields.foldl (fun w f => if f.takes new then f.write w new else w) old else old

/-- The word a write leaves, in range or not. -/
def Reg.after (r : Reg) (old new : W32) : W32 := if r.inRange new then r.written old new else r.writtenBad old new

/-- What reading the register leaves: RC fields return to their reset value (R6, R661). -/
def Reg.afterRead (r : Reg) (i : Nat) (w : W32) : W32 :=
  r.fields.foldl (fun u f => match f.acc with
    | .rc => putBits u f.hi f.lo (bits (r.resetWord i) f.hi f.lo)
    | _ => u) w

/-! ### Datum (R565 to R568) -/

/-- Parts of a cycle the count is kept in: 8 × 10^8 ticks a second × 256 × 10^9 of the compensation (R527). -/
def datumDen : Nat := 204800000000000000000

/-- Parts of a cycle a tick adds: 32,768 × (1 + 0.034 ppm × (T − 25)²), T in 1/16 °C (R527). -/
def Datum.rate (d : Datum) : Nat := 32768 * (256000000000 + 34 * ((d.compT - 400) * (d.compT - 400)).toNat)

/-- Parts accumulated since the count was last brought up to date. -/
def State.datumParts (s : State) : Nat := s.dat.frac + (s.now - s.dat.since) * s.dat.rate

/-- A slew has moved Datum by this much after `c` cycles (one in every 1,024, R566). -/
def slewMoved (left : Int) (c : Nat) : Int :=
  if 0 ≤ left then min left (c / 1024 : Nat) else max left (- ((c / 1024 : Nat) : Int))

/-- What the slew in progress adds now. -/
def State.slewNow (s : State) : Int :=
  if s.dat.slewing then slewMoved s.dat.slewLeft (s.dat.slewAcc + s.datumParts / datumDen) else 0

/-- The 47-bit count now. -/
def State.datumCycles (s : State) : Nat :=
  (((s.dat.count + s.datumParts / datumDen : Nat) : Int) + s.slewNow).toNat % 2 ^ 47

/-- Datum brought up to now, so that a change of its rate, its slew or its count can start from here. -/
def State.rebase (s : State) : State :=
  let moved := s.slewNow
  let left := s.dat.slewLeft - moved
  { s with dat := { s.dat with
      count := s.datumCycles, since := s.now, frac := s.datumParts % datumDen, slewLeft := left,
      slewAcc := (s.dat.slewAcc + s.datumParts / datumDen) % 1024, slewing := s.dat.slewing } }

/-- The Datum time: bits [46:5] of the count. -/
def State.datumTime (s : State) : Nat := s.datumCycles / 32

/-- DATUM as the mailbox and the records carry it: [41:0] time, [63] UNSET. -/
def State.datumWord (s : State) : Nat := s.datumTime + b2n s.dat.unset * 2 ^ 63

/-! ### MSI-X (R343, R344) -/

def State.fnOf (s : State) (f : Nat) : Fn := tabGet Fn.reset s.fns f
def State.setFn (s : State) (f : Nat) (x : Fn) : State := { s with fns := tabSet Fn.reset s.fns f x }
def State.ctl (s : State) (f : Nat) : Ctl := tabGet (fun _ => Ctl.reset) s.ctls f
def State.setCtl (s : State) (f : Nat) (x : Ctl) : State := { s with ctls := tabSet (fun _ => Ctl.reset) s.ctls f x }
def State.port (s : State) (p : Nat) : Port := tabGet (fun _ => Port.reset) s.ports p
def State.setPort (s : State) (p : Nat) (x : Port) : State := { s with ports := tabSet (fun _ => Port.reset) s.ports p x }

/-- Something leaves the device. -/
def State.emit (s : State) (o : Out) : State := { s with out := o :: s.out }

/-- MSI-X vectors of a function (R343). -/
def msixCount (f : Nat) : Nat := if f % 128 = 0 then 2048 else 64

/-- A vector is signalled: sent, or left pending while masked (R343). -/
def State.signal (s : State) (f v : Nat) : State :=
  let x := s.fnOf f
  let m := tabGet (fun _ => MsixVec.reset) x.vec v
  if x.msixEn && !x.msixMask && !m.masked then s.emit (.msix f v)
  else s.setFn f { x with vec := tabSet (fun _ => MsixVec.reset) x.vec v { m with pending := true } }

/-- The function's mailbox vector is signalled (R344). -/
def State.signalMbx (s : State) (f : Nat) : State := s.signal f (s.fld F.HST_FN_CTRL_MBX_VECTOR f)

/-- The mailbox vectors of PF0 and PF1. -/
def State.signalPfs (s : State) : State := (s.signalMbx 0).signalMbx 128

/-! ### ALERT_N (R564) -/

/-- A cause of CHR_ALERT_STATUS sets: a released ALERT_N may be driven again; in I3C mode each cause that sets also sends
an In-Band Interrupt. -/
def State.alert (s : State) (bit : Nat) : State :=
  let w := s.rg .CHR_ALERT_STATUS 0
  if bits w bit bit = 1 then s
  else
    let s := s.setReg .CHR_ALERT_STATUS 0 (putBits w bit bit 1)
    let s := { s with mgmt := { s.mgmt with araHold := false } }
    if s.mgmt.i3c then s.emit .ibi else s

/-- ALERT_N is driven low (R564): a status bit stands with its mask bit, outside VAULT, and no read of the Alert Response
Address has released it. -/
def State.alertLow (s : State) : Bool :=
  !s.mgmt.araHold && decide (s.pwr.mode ≠ .vault)
    && decide (s.rg .CHR_ALERT_STATUS 0 &&& s.rg .CHR_ALERT_MASK 0 &&& fieldMask 3 0 ≠ 0#32)

/-! ### The Gazetteer (R569 to R575) -/

/-- Position after `p` for the layout in force (R573). -/
def gazAfter (vg40 : Bool) (p : Nat) : Nat :=
  if vg40 then p + 1 else if p + 1 = 8192 then 1024 else p + 1

/-- The live Gazetteer's record at a position. -/
def Gaz.at (g : Gaz) (p : Nat) : GazRec := tabGet (fun _ => GazRec.empty) g.recs p

/-- A record put at a position; its sector is then changed. -/
def Gaz.put (g : Gaz) (p : Nat) (r : GazRec) : Gaz :=
  { g with recs := tabSet (fun _ => GazRec.empty) g.recs p r,
           dirty := if g.dirty.contains (p / 128) then g.dirty else g.dirty ++ [p / 128] }

/-- Changed sectors are written to the Portolan area (R574). -/
def Gaz.persist (g : Gaz) : Gaz := { g with saved := g.recs, dirty := [], tail := [] }

/-- The most recent record, when the new one merges into it (R572): its position and the difference in ticks. -/
def Gaz.mergeInto (g : Gaz) (r : GazRec) : Option Nat :=
  match g.recent with
  | none => none
  | some p =>
    let m := g.at p
    if m.block = r.block ∧ m.inst = r.inst ∧ m.code = r.code ∧ m.data = r.data
        ∧ m.time ≤ r.time ∧ r.time - m.time ≤ 0x3FFFFF then some p else none

/-- COALESCE's merge (R572). -/
def Gaz.merge (g : Gaz) (p t : Nat) : Gaz :=
  let m := g.at p
  g.put p ({ m with rep := satAdd 65535 m.rep 1, lastDelta := t - m.time }.sealCrc)

/-- A new record at the position of R573. In the VG-40 layout a full Gazetteer takes none. -/
def Gaz.append (g : Gaz) (r : GazRec) : Gaz :=
  let p := g.next
  let g' := g.put p ({ r with rep := 0, lastDelta := 0, seq := g.seq }.sealCrc)
  let fullNow := g.vg40 && decide (p + 1 = 8192)
  { g' with seq := (g.seq + 1) % 2 ^ 32, recent := some p, next := gazAfter g.vg40 p % 8192,
            full := g.full || fullNow, count := max g.count (p + 1) }

/-- A record put among others by SEQ, the oldest first; `next` is the SEQ of the next new record, which may have wrapped. -/
def gazInsert (next : Nat) (r : GazRec) : List GazRec → List GazRec
  | [] => [r]
  | x :: rest =>
    if (next + 2 ^ 32 - x.seq) % 2 ^ 32 < (next + 2 ^ 32 - r.seq) % 2 ^ 32 then r :: x :: rest else x :: gazInsert next r rest

/-- The records not yet persisted, in SEQ order. -/
def Gaz.unsaved (g : Gaz) : List GazRec :=
  (g.recs.filter (fun e => decide (tabGet (fun _ => GazRec.empty) g.saved e.1 ≠ e.2))).foldl (fun l e => gazInsert g.seq e.2 l) []

/-- Records not yet persisted go to the tail rows in HOLDUP and DORMANT, at most 256 of them (R574, log entry 60). -/
def Gaz.toTail (g : Gaz) : Gaz := { g with tail := g.unsaved.take 256 }

/-- What is persisted of the Gazetteer when it has changed (R574): the tail rows take it in HOLDUP and DORMANT; elsewhere the
records that are to be written at once are. -/
def Gaz.keep (g : Gaz) (m : Mode) (atOnce : Bool) : Gaz :=
  match m with
  | .holdup | .dormant | .stopped => g.toTail
  | .vault | .ready | .service | .degraded => if atOnce then g.persist else g

/-- Every record is offered to COALESCE (R572), then stands in SRAM; severities 0x4 and 0x6 and CLEARED are persisted at
once (R574); a severity enabled in SEV_MASK sets the GAZ alert (Table 19-13). -/
def State.record (s : State) (block inst sev code data : Nat) : State :=
  let t := s.datumTime
  let r : GazRec := ⟨t, 0, block, inst, sev, s.dat.unset, code, 0, data % 2 ^ 64, 0, 0⟩
  match s.gaz.mergeInto r with
  | some p => { s with gaz := (s.gaz.merge p t).keep s.pwr.mode false }
  | none =>
    if s.gaz.vg40 && s.gaz.full then s.bump F.GAZ_COUNTS_DROPPED 0 1
    else
      let s := { s with gaz := (s.gaz.append r).keep s.pwr.mode (decide (sev = 4 ∨ sev = 6 ∨ code = 1)) }
      if s.fld F.CHR_ALERT_MASK_SEV_MASK 0 / 2 ^ sev % 2 = 1 then s.alert 0 else s

/-- A clear of the Gazetteer (R575): empty every position, NEXT 0, FULL 0, CLEARED at position 0, persisted at once. -/
def State.gazClearBy (s : State) (agent who : Nat) : State :=
  let n := s.gaz.count
  let g := { s.gaz with recs := [], next := 0, full := false, count := 0, recent := none,
                        dirty := List.range 64, tail := [] }
  let s := { s with gaz := g }
  let s := s.record 0x0E2 0 0 0x0001 (agent + who % 256 * 2 ^ 8 + n % 65536 * 2 ^ 16)
  { s with gaz := s.gaz.persist }

/-! ### Event bits -/

/-- An event bit becomes set: its register rule's notices follow. A bit already set does nothing more (R107, R151, R217,
R253, R282, R299, R322, R357, R426, R455, R486, R507, R530, R577, R606, R622). `sub` is the sub-unit of the record. -/
def State.event (s : State) (f : Fld) (i sub : Nat) : State :=
  if s.fld f i = 1 then s
  else
    let s := s.setFld f i 1
    let n := notice f.reg f.lo
    let s := if n.firmware then s.emit (.firmware (irqOf f.reg i)) else s
    let s := if n.record then s.record n.block i 0 (0x4000 + 32 * f.reg.eventNumber.getD 0 + f.lo) sub else s
    if n.vector = 1 then s.signalPfs else if n.vector = 2 then s.signalMbx i else s

/-- CFG_ERR of the block a register belongs to: the event bit an out-of-range write sets. -/
def cfgErrOf (r : Reg) (i : Nat) : Option (Fld × Nat) :=
  match r with
  | .PLT_RESERVE | .PLT_RECON | .PLT_LAGS | .PLT_ENVELOPE | .PLT_SHEET_PWR => some (F.PLT_EVENTS_CFG_ERR, 0)
  | .ATL_CTRL | .ATL_JRNL_WM | .ATL_STEER => some (F.ATL_EVENTS_CFG_ERR, 0)
  | .SVY_GC_CFG | .SVY_UPKEEP_CFG | .SVY_SCAN_CFG | .SVY_FREE_WM => some (F.SVY_MEDIA_EVENTS_CFG_ERR, 0)
  | .PAR_CTRL | .PAR_JRNL_WM => some (F.PAR_EVENTS_CFG_ERR, 0)
  | .FCH_CFG => some (F.FCH_EVENTS_CFG_ERR, i)
  | .TIL_CTRL | .TIL_ROUTE | .TIL_POOL_TGT | .TIL_POOL_WM => some (F.TIL_EVENTS_CFG_ERR, 0)
  | .PWR_HOLD_CFG | .PWR_HOLD_BANK | .PWR_HOLD_LIMITS => some (F.PWR_EVENTS_CFG_ERR, 0)
  | .CTR_CFG => some (F.CTR_EVENTS_CFG_ERR, 0)
  | .FLT_PIN_CTL | .FLT_INJ_SEL | .FLT_INJ_CTL | .CHR_ALERT_MASK | .CHR_PAD_CFG => some (F.FLT_INJ_STATUS_CFG_ERR, 0)
  | .SRV_CFG => some (F.SRV_EVENTS_CFG_ERR, 0)
  | .POR_CFG_SEL | .POR_CFG_DATA | .UPD_RELAY_CFG | .UPD_CHAIN_SEL => some (F.POR_EVENTS_CFG_ERR, 0)
  | .HST_FN_CTRL => some (F.HST_FN_EVENTS_CFG_ERR, i)
  | .HST_GAZ_PAGE => some (F.HST_FN_EVENTS_CFG_ERR, i)
  | .HST_DCS_WIN => some (F.HST_FN_EVENTS_CFG_ERR, i / 16)
  | _ => none

/-- The registers whose out-of-range write is reported in several places: every channel (FCH_RETRAIN_CFG, FCH_SSC,
TRV_POLL: R254, R283), every quadrant (LDP_CFG: R299), every bay (SHB_CFG: R322), every DRAM channel (DRC_PORT_CFG). -/
def cfgErrAll (r : Reg) : List (Fld × Nat) :=
  match r with
  | .FCH_RETRAIN_CFG | .FCH_SSC | .TRV_POLL => (List.range 128).map (fun c => (F.FCH_EVENTS_CFG_ERR, c))
  | .LDP_CFG => (List.range 4).map (fun q => (F.LDP_EVENTS_CFG_ERR, q))
  | .SHB_CFG => (List.range 16).map (fun b => (F.SHB_EVENTS_CFG_ERR, b))
  | .DRC_PORT_CFG => (List.range 12).map (fun n => (F.DRC_CH_EVENTS_CFG_ERR, n))
  | _ => []

/-- CFG_ERR for a refused write of a register. -/
def State.cfgErr (s : State) (r : Reg) (i : Nat) : State :=
  let s := match cfgErrOf r i with
    | some (f, j) => s.event f j 0
    | none => s
  (cfgErrAll r).foldl (fun s p => s.event p.1 p.2 0) s

/-- A write of a register by its fields' access codes; a value out of range leaves it, or the field, unchanged and sets CFG_ERR. -/
def State.writeReg (s : State) (r : Reg) (i : Nat) (new : W32) : State :=
  let t := s.setReg r i (r.after (s.rg r i) new)
  if r.inRange new then t else t.cfgErr r i

/-! ### Modes (R487 to R491) -/

/-- The device serves host commands: hub and quadrants run (Table 16-1). -/
def State.hubOn (s : State) : Bool :=
  match s.pwr.mode with
  | .ready | .service | .degraded => true
  | .vault | .dormant | .holdup | .stopped => false

/-- MODE as DEVICE_INFO and PWR_MODE code it (Table 16-7). -/
def Mode.code : Mode → Nat
  | .vault => 0 | .dormant => 1 | .ready => 2 | .service => 3 | .degraded => 4 | .holdup | .stopped => 5

/-- A mode change: PWR_MODE follows the mode, MODE_CHANGE sets, and the Gazetteer has its record (R489); with MODE_CHANGE set
already the change is recorded without a further interrupt (R507). -/
def State.toMode (s : State) (m : Mode) : State :=
  if s.pwr.mode = m then s
  else
    let t := { s with pwr := { s.pwr with mode := m } }
    if t.fld F.PWR_EVENTS_MODE_CHANGE 0 = 1 then
      t.record 0x0E6 0 0 (0x4000 + 32 * Reg.PWR_EVENTS.eventNumber.getD 0 + F.PWR_EVENTS_MODE_CHANGE.lo) 0
    else t.event F.PWR_EVENTS_MODE_CHANGE 0 0

/-! ### Contour's regions (R508, R515) -/

def State.regionOf (s : State) (r : Nat) : Region := tabGet (fun _ => Region.reset) s.ctr.region r
def State.setRegion (s : State) (r : Nat) (x : Region) : State :=
  { s with ctr := { s.ctr with region := tabSet (fun _ => Region.reset) s.ctr.region r x } }

/-- ANCHOR_AGE in s (Table 17-11). -/
def State.anchorAge (s : State) (r : Nat) : Nat :=
  let x := s.regionOf r
  if x.anchored then min 255 ((s.now - x.ageAt) / sTicks) else 255

/-- The bound of a region in 1/8 °C (R515): 0.5 °C at an anchor, 1/8 °C more every 15 s, 8 °C at most. -/
def State.bound (s : State) (r : Nat) : Nat :=
  let x := s.regionOf r
  if x.anchored then min 64 (4 + (s.now - x.ageAt) / (15 * sTicks)) else 64

/-- The effective temperature of a region in 1/16 °C (R515). -/
def State.effective (s : State) (r : Nat) : Int := (s.regionOf r).model + 2 * (s.bound r : Nat)

/-! ### Fault words -/

def State.unit (s : State) (block inst : Nat) : FltUnit := tabGet (fun _ => FltUnit.reset) s.flt (unitKey block inst)
def State.setUnit (s : State) (block inst : Nat) (u : FltUnit) : State :=
  { s with flt := tabSet (fun _ => FltUnit.reset) s.flt (unitKey block inst) u }

def State.fenced (s : State) (block inst : Nat) : Bool := (s.unit block inst).fenced

/-- Fenced instances of a kind. -/
def State.fencedCount (s : State) (block : Nat) : Nat := countBelow (unitCount block) (fun i => s.fenced block i)

/-- A partner's fence indication is asserted now (FLT_STATUS.PARTNER_IND, R544). -/
def State.partnerInd (s : State) (block inst : Nat) : Bool :=
  s.flt.any (fun p => p.2.ind && partnerOf block inst (p.1 / 4096) (p.1 % 4096))

/-- A unit or sub-unit is fenced (R541): FENCED_UNITS of PWR_MODE. -/
def State.fencedUnits (s : State) : Bool :=
  s.flt.any (fun p => p.2.fenced) || s.fch.die.any (fun p => p.2.fenced) || s.dram.any (fun p => !p.2.regions.isEmpty)
    || s.cip.slot.any (fun p => p.2.fenced) || decide (0 < s.til.retired)

end Sys2Proof.Machine
end

