-- ==== Sys2Proof/Machine/OpsHost.lean ====
section
/-! DEFINITION. Shared operations of the host side: the deadline clock and completions (chapter 2, R677), queues and rate
buckets, mailbox responses and long operations (chapter 13), admin completions, function reset (R353). -/

set_option linter.unusedVariables false

namespace Sys2Proof.Machine

/-! ### The deadline clock (R28 to R32) -/

/-- The host allowance of R30, in ticks. -/
def allowance : Nat := 10 * usTicks

/-- Ticks that disjoint spans last. -/
def spanTicks (l : List (Nat × Nat)) : Nat := l.foldl (fun n e => n + (e.2 - e.1)) 0

/-- The span from `a` to `z` joined to disjoint ones: those it touches become one with it (R30: time that overlaps counts once). -/
def addSpan (l : List (Nat × Nat)) (a z : Nat) : List (Nat × Nat) :=
  let hit := l.filter (fun e => decide (e.1 ≤ z ∧ a ≤ e.2))
  (hit.foldl (fun m e => min m e.1) a, hit.foldl (fun m e => max m e.2) z) :: l.filter (fun e => !decide (e.1 ≤ z ∧ a ≤ e.2))

/-- The spans in which a command has waited on the host, up to now. -/
def Cmd.waitSpans (c : Cmd) (now : Nat) : List (Nat × Nat) :=
  match c.waitFrom with
  | some t => addSpan c.spans t now
  | none => c.spans

/-- Host wait of a command up to now (R30): one total, however many reads and writes wait at once. -/
def Cmd.hostWait (c : Cmd) (now : Nat) : Nat := spanTicks ((c.waitSpans now).map (fun e => (e.1, min e.2 now)))

/-- Host-stopped time (R30): the host wait beyond the allowance. -/
def Cmd.hostStop (c : Cmd) (now : Nat) : Nat := c.hostWait now - allowance

/-- The clock reading in 10 ns steps, rounded up to the later step (R29). -/
def Cmd.reading (c : Cmd) (now : Nat) : Nat := ceilDiv (now - c.start - c.hostStop now) 8

/-- The command meets its deadline at `now` (R29): 100 steps a microsecond. -/
def Cmd.inTime (c : Cmd) (now : Nat) : Bool := decide (c.reading now ≤ 100 * c.deadline)

/-- Dword 0 of its completion (Table 02-2; R44 for a refusal). -/
def Cmd.dw0 (c : Cmd) (now : Nat) : W32 :=
  if c.status = Sc.deadlineUnattainable then BitVec.ofNat 32 c.earliest
  else
    let stop := c.hostStop now
    BitVec.ofNat 32 (min 0xFFFFFF (ceilDiv stop usTicks) + b2n c.suspended * 2 ^ 30 + b2n (decide (0 < stop)) * 2 ^ 31)

/-- A host wait opens: a read outstanding. -/
def Cmd.openWait (c : Cmd) (now : Nat) : Cmd :=
  { c with waitFrom := some (c.waitFrom.getD now) }

/-- The host wait ends when nothing of the command waits any more. -/
def Cmd.closeWait (c : Cmd) (now : Nat) : Cmd :=
  if c.openReads = 0 then { c with spans := c.waitSpans now, waitFrom := none, stopped := false } else c

/-- One device read of host memory for a command is over (R30). -/
def Cmd.readEnds (c : Cmd) (now : Nat) : Cmd := ({ c with openReads := c.openReads - 1 } : Cmd).closeWait now

/-- A command is named by its function, queue and identifier. -/
def Cmd.is (c : Cmd) (fn sq cid : Nat) : Bool := decide (c.fn = fn ∧ c.sq = sq ∧ c.cid = cid)

def State.findCmd (s : State) (fn sq cid : Nat) : Option Cmd := s.cmds.find? (fun c => c.is fn sq cid)

/-- The commands with one of them changed. -/
def State.mapCmd (s : State) (fn sq cid : Nat) (g : Cmd → Cmd) : State :=
  { s with cmds := s.cmds.map (fun c => if c.is fn sq cid then g c else c) }

/-! ### Queues and classes -/

def State.sqOf (s : State) (fn q : Nat) : Option Sq := tabGet (fun _ => none) s.sqs (qKey fn q)
def State.setSq (s : State) (fn q : Nat) (x : Option Sq) : State :=
  { s with sqs := tabSet (fun _ => none) s.sqs (qKey fn q) x }
def State.cqOf (s : State) (fn q : Nat) : Option Cq := tabGet (fun _ => none) s.cqs (qKey fn q)
def State.setCq (s : State) (fn q : Nat) (x : Option Cq) : State :=
  { s with cqs := tabSet (fun _ => none) s.cqs (qKey fn q) x }
def State.cls (s : State) (c : Nat) : Cls := tabGet Cls.reset s.classes c
def State.setCls (s : State) (c : Nat) (x : Cls) : State := { s with classes := tabSet Cls.reset s.classes c x }

/-- Class `c` is permitted to function `f` (R37). -/
def State.permitted (s : State) (f c : Nat) : Bool :=
  if c < 32 then (s.rg .HST_CLASS_MASK_LO f).getLsbD c else (s.rg .HST_CLASS_MASK_HI f).getLsbD (c - 32)

/-- A queue bound to `c` may be fetched: its class is permitted and enabled (R37, R38). -/
def State.bindable (s : State) (f c : Nat) : Bool := s.permitted f c && (s.cls c).enable

/-- The deadline of a class for a kind, in µs. -/
def Cls.deadline (c : Cls) : Kind → Nat
  | .read => c.dlRead | .write => c.dlWrite | .fua => c.dlFua | .flush => c.dlFlush | .dealloc => c.dlDealloc
  | .other => c.dlOther

/-- What a frame adds to the buckets of a class (R41): thousandths of a command token, and byte tokens. -/
def Cls.cmdRefill (c : Cls) : Nat := c.rateCmds
def Cls.byteRefill (c : Cls) : Nat := c.rateBytes * 1000
/-- The limits of the buckets (R41). -/
def Cls.cmdLimit (c : Cls) : Nat := max c.cmdRefill 1000
def Cls.byteLimit (c : Cls) : Nat := c.byteRefill

/-- A full bucket. -/
def Cls.full (c : Cls) : Bucket := ⟨c.cmdLimit, c.byteLimit⟩

/-- The bucket of a function and class; none listed: full. -/
def State.bucket (s : State) (f c : Nat) : Bucket := (tabGet (fun _ => none) s.buckets (64 * f + c)).getD (s.cls c).full

/-- Tokens for an entry of `bytes` are there (R41, R42): no cap, or a whole command token and the bytes; an entry larger
than the full byte bucket needs the bucket full. -/
def Bucket.covers (b : Bucket) (c : Cls) (bytes : Nat) : Bool :=
  (decide (c.rateCmds = 0) || decide (1000 ≤ b.cmds))
    && (decide (c.rateBytes = 0) || decide (bytes = 0) || decide ((bytes : Int) ≤ b.bytes)
      || (decide (c.byteLimit < bytes) && decide (b.bytes = c.byteLimit)))

/-- The bucket after the entry is fetched. -/
def Bucket.take (b : Bucket) (c : Cls) (bytes : Nat) : Bucket :=
  ⟨if c.rateCmds = 0 then b.cmds else b.cmds - 1000, if c.rateBytes = 0 then b.bytes else b.bytes - bytes⟩

/-- The frame boundary's refill (R41). -/
def Bucket.refill (b : Bucket) (c : Cls) : Bucket :=
  ⟨min c.cmdLimit (b.cmds + c.cmdRefill), min (c.byteLimit : Int) (b.bytes + c.byteRefill)⟩

def State.setBucket (s : State) (f c : Nat) (b : Bucket) : State :=
  { s with buckets := tabSet (fun _ => none) s.buckets (64 * f + c) (if b = (s.cls c).full then none else some b) }

/-! ### Statistics (Tables 12-10, 12-12) -/

/-- One of the Deadline Statistics counters of a function is raised, saturating (R388). -/
def State.stat (s : State) (f row : Nat) : State :=
  { s with stats := tabSet (fun _ => 0) s.stats (128 * f + row)
                      (satAdd (2 ^ 64 - 1) (tabGet (fun _ => 0) s.stats (128 * f + row)) 1) }

/-- One of the Media Counters is raised (R390). -/
def State.mediaCount (s : State) (row n : Nat) : State :=
  { s with media := tabSet (fun _ => 0) s.media row (tabGet (fun _ => 0) s.media row + n) }

/-! ### Completions -/

/-- An error enters the error log of a function (Table 12-8, page 01h). -/
def State.logError (s : State) (f sq cid status : Nat) : State :=
  let x := s.ctl f
  if status = Sc.success then s
  else s.setCtl f { x with errs := ((status + cid % 2 ^ 16 * 2 ^ 16 + sq * 2 ^ 32) :: x.errs).take 64, errCount := x.errCount + 1 }

/-- The command's completion is decided: whichever of its outcomes comes first is posted, and never both (R374). The
entry waits to be sent. -/
def State.endCmd (s : State) (fn sq cid status : Nat) : State :=
  match s.findCmd fn sq cid with
  | none => s
  | some c =>
    if c.phase = .posting then s
    else
      let c' := { c with phase := .posting, status := status }
      let cq := match s.sqOf fn sq with
        | some q => q.cq
        | none => 0
      let s := s.mapCmd fn sq cid (fun _ => c')
      let s := if status = Sc.unrecoveredRead ∨ status = Sc.guardCheck then s.mediaCount 9 1 else s
      let s := s.logError fn sq cid status
      { s with cpls := s.cpls ++ [⟨fn, sq, cid, cq, status, dnrOf status, c'.dw0 s.now⟩] }

/-- An admin command completes: its entry waits to be sent, its data goes out, and an error enters the error log (R677,
Table 12-8 page 01h). -/
def State.adminDone (s : State) (a : AdminHdr) (status : Nat) (dw0 : W32) (data : List Nat) : State :=
  let s := if data.isEmpty then s else s.emit (.adminData a.fn a.cid data)
  ({ s with cpls := s.cpls ++ [⟨a.fn, 0, a.cid, 0, status, dnrOf status, dw0⟩] } : State).logError a.fn 0 a.cid status

/-- An admin command ends with an error. -/
def State.adminErr (s : State) (a : AdminHdr) (status : Nat) : State := s.adminDone a status 0#32 []

/-! ### Asynchronous events (R391). An event is coded type + 256 × information + 65,536 × log page. -/

/-- The events of R391. -/
def evInvalidDoorbell : Nat := 0x010000
def evInvalidDoorbellValue : Nat := 0x010100
def evSmart (info : Nat) : Nat := 0x020001 + 256 * info
def evNsChanged : Nat := 0x040002
def evActivation : Nat := 0x030102
def evPromise : Nat := 0xC00007
def evLost : Nat := 0xC10107

/-- The type of an event (R391): its type code and the log page it names, without the information byte. -/
def evType (ev : Nat) : Nat := ev / 65536 * 65536 + ev % 8

/-- Asynchronous Event Configuration enables the event: SMART bit 0 spare, 1 temperature, [7:2] reliability, namespace attribute [8], firmware activation [9];
the others have no enable. -/
def evEnabled (aec : W32) (ev : Nat) : Bool :=
  if ev % 8 = 1 then match ev / 256 % 256 with
    | 2 => aec.getLsbD 0
    | 1 => aec.getLsbD 1
    | _ => decide (bits aec 7 2 ≠ 0)
  else if ev = evNsChanged then aec.getLsbD 8
  else if ev = evActivation then aec.getLsbD 9
  else true

/-- An event occurs on a function: reported once, masked until the log page it names is read; where no request is
outstanding it waits for one (log entry 16). -/
def State.asyncEvent (s : State) (f ev : Nat) : State :=
  let x := s.ctl f
  if !x.rdy || !evEnabled x.aec ev || (x.aerMasked ++ x.aerPend).any (fun e => decide (evType e = evType ev)) then s
  else match x.aers with
    | [] => s.setCtl f { x with aerPend := x.aerPend ++ [ev] }
    | cid :: rest =>
      let s := s.setCtl f { x with aers := rest, aerMasked := ev :: x.aerMasked }
      let s := s.emit (.asyncEvent f cid ev)
      { s with cpls := s.cpls ++ [⟨f, 0, cid, 0, Sc.success, false, BitVec.ofNat 32 ev⟩] }

/-- A bit of HST_PROMISE_EVENTS sets on a function (R54), which is also an asynchronous event (R391). -/
def State.promise (s : State) (f : Nat) (x : Fld) : State :=
  if s.fld x f = 1 then s else (s.event x f 0).asyncEvent f evPromise

/-- A suspension begins or ends: one record for the device (R55). `row` counts the rows of Table 02-7 from 1. -/
def State.suspRecord (s : State) (begins : Bool) (row nsid : Nat) : State :=
  s.record 0x0E6 0 0 (if begins then 0x0006 else 0x0007) (row + nsid % 2 ^ 32 * 2 ^ 32)

/-! ### The mailbox transport (R398 to R413) -/

def State.mb (s : State) (p : Nat) : Mbx := tabGet (fun _ => Mbx.reset) s.mbx p
def State.setMb (s : State) (p : Nat) (m : Mbx) : State := { s with mbx := tabSet (fun _ => Mbx.reset) s.mbx p m }

/-- A mailbox event bit of a path (R426); on the management port a waiting response is an ALERT_N cause (Table 19-13). -/
def State.mbEvent (s : State) (p : Nat) (f : Fld) : State :=
  if isFnPath p then s.event f p 0 else if f = F.MBX_EVENTS_RESP ∨ f = F.MBX_EVENTS_OP_DONE then s.alert 2 else s

/-- The 16-byte header of Table 13-1 in a message sent by the device. -/
def mbHeader (version opcode tag status length : Nat) (more isAsync segAck : Bool) : List Nat :=
  [version % 256, 1 + 2 * b2n more + 4 * b2n isAsync + 8 * b2n segAck]
    ++ bytesLe 2 opcode ++ bytesLe 2 tag ++ bytesLe 2 status ++ bytesLe 4 length ++ zeros 4

/-- The version a response carries: the session version, or 1 (R401). -/
def Mbx.respVersion (m : Mbx) : Nat := if m.version = 0 then 1 else m.version

/-- The next segment of a response is posted (R403, R406): at most 4,080 payload bytes, MORE while some are left. -/
def State.postSegment (s : State) (p : Nat) (r : RespBuf) : State :=
  let m := s.mb p
  let now := r.left.take 4080
  let rest := r.left.drop 4080
  let more := !rest.isEmpty
  let seg := mbHeader r.version r.opcode r.tag r.status r.length more r.isAsync false ++ now
  let s := s.setMb p { m with busy := false, respReady := true, respMore := more, out := seg,
                              resp := if more then some { r with left := rest } else none }
  (s.emit (.mbxSegment p seg)).mbEvent p F.MBX_EVENTS_RESP

/-- On the management port the segments of a response go out one after the other with no acknowledgement (R407). -/
def mgmtSegments (fuel : Nat) (r : RespBuf) : List (List Nat) :=
  match fuel with
  | 0 => []
  | n + 1 =>
    let rest := r.left.drop 4080
    let more := !rest.isEmpty
    (mbHeader r.version r.opcode r.tag r.status r.length more r.isAsync false ++ r.left.take 4080)
      :: (if more then mgmtSegments n { r with left := rest } else [])

/-- A request is answered (R403 step 5, R407): the outbound mailbox holds the response's first segment; a response whose
function was reset meanwhile is discarded (R353). A context that holds nothing any more is freed (R399). -/
def State.respond (s : State) (q : MbxReq) (opcode status : Nat) (isAsync : Bool) (payload : List Nat) : State :=
  let m := s.mb q.path
  if m.dropResp then s.setMb q.path { m with busy := false, req := none, dropResp := false }
  else
    let r : RespBuf := ⟨m.respVersion, opcode, q.tag, status, isAsync, payload.length, payload⟩
    let s := s.setMb q.path { m with req := none }
    if isFnPath q.path then s.postSegment q.path r
    else
      let s := (mgmtSegments 65 r).foldl (fun s b => s.emit (.mbxSegment q.path b)) s
      (s.setMb q.path { m with req := none, busy := false }).alert 2

/-- A refusal: its status and no payload (R423). -/
def State.refuse (s : State) (q : MbxReq) (opcode status : Nat) : State := s.respond q opcode status false []

/-- Handles a path holds (R413). -/
def State.handlesOf (s : State) (p : Nat) : Nat :=
  (s.ops.filter (fun e => match e.2 with
    | some o => decide (o.path = p)
    | none => false)).length

/-- R413: a request other than HELLO, after the session that issued them ended, discards the handles of its mailbox. -/
def State.dropHandles (s : State) (p : Nat) : State :=
  { s with ops := s.ops.filter (fun e => (e.2.map (fun o => decide (o.path ≠ p))).getD true) }

/-- A long operation starts (R413): a handle with the opcode group in [31:24] and a count below. -/
def State.newHandle (s : State) (p group : Nat) : Nat × State :=
  let h := group * 2 ^ 24 + s.nextHandle % 2 ^ 24
  (h, { s with nextHandle := s.nextHandle + 1, ops := tabSet (fun _ => none) s.ops h (some ⟨p, false, 0, 0, []⟩) })

/-- A long operation ends: OP_DONE on the mailbox that issued it (R413). -/
def State.opDone (s : State) (h : Option Nat) (result : Nat) (data : List Nat) : State :=
  match h with
  | none => s
  | some h =>
    match tabGet (fun _ => none) s.ops h with
    | none => s
    | some o =>
      let o' := { o with done := true, result := result, progress := 1000, data := data }
      let s := { s with ops := tabSet (fun _ => none) s.ops h (some o') }
      s.mbEvent o.path F.MBX_EVENTS_OP_DONE

/-- The length of a request fits (R402), as a range. -/
structure ReqForm where
  opcode : Nat
  ver : Nat                -- lowest version that provides the opcode
  vf : Bool                -- a VF may use it
  lenMin : Nat
  lenMax : Nat
  isLong : Bool            -- responds under R413

/-- Opcodes served in DORMANT on the management port (R424). -/
def dormantOpcodes : List Nat := [0x0404, 0x0405, 0x0401, 0x0802, 0x0803]

/-- Requests whose work books Plotter capacity (R488). -/
def bookingOpcodes : List Nat := [0x0503, 0x0302, 0x0602, 0x0701, 0x0702, 0x0804]

/-- The device stays in ROM recovery (R604). -/
def State.romRecovery (s : State) : Bool := decide (s.por.booted = 3) && !s.start.running

/-- A request that the present mode does not serve receives MODE (R424, R604, R672). -/
def State.modeRefuses (s : State) (op : Nat) : Bool :=
  if s.romRecovery then decide (op / 256 ≠ 0 ∧ op / 256 ≠ 6 ∧ op ≠ 0x0401)
  else
    (decide (s.pwr.mode = .dormant ∧ op / 256 ≠ 0) && !dormantOpcodes.contains op)
      || (decide (s.start.step < 13) && bookingOpcodes.contains op)
      || (s.plt.drain && decide (op / 256 = 2 ∨ op / 256 = 3 ∨ op / 256 = 5 ∨ op / 256 = 6))

/-- The checks every request passes before its opcode's own (R401, R402, R409 to R411, R413, R424), in the order the
rules of this chapter stand; none: the request may be carried out (log entry 9). -/
def State.preCheck (s : State) (q : MbxReq) (f : ReqForm) : Option Nat :=
  let m := s.mb q.path
  let v := m.version
  if f.opcode ≠ 0x0001 ∧ v = 0 ∧ q.version ≠ 1 then some Ms.sessionRequired
  else if f.opcode ≠ 0x0001 ∧ q.version ≠ m.respVersion then some Ms.version
  else if f.opcode = 0x0001 ∧ (q.version = 0 ∨ 3 < q.version) then some Ms.version
  else if f.opcode ≠ 0x0001 ∧ m.respVersion < f.ver then some Ms.version
  else if !f.vf && !hasDevicePrivilege q.path then some Ms.privilege
  else if s.modeRefuses f.opcode then some Ms.mode
  else if q.length < f.lenMin ∨ f.lenMax < q.length ∨ (m.respVersion = 1 ∧ 4080 < q.length) then some Ms.invalidLength
  else if !q.resvZero then some Ms.invalidField
  else if f.isLong && decide (16 ≤ s.handlesOf q.path) then some Ms.busy
  else none

/-- A DRAM channel fence suspends the promise for a namespace (R51). -/
def State.nsHeld (s : State) (nsid : Nat) : Bool := s.atl.suspended.any (fun e => decide (e.1 = nsid))

/-- The fenced DRAM channels whose suspensions run, and the first namespace each affects (Table 02-7). -/
def State.fenceSuspensions (s : State) : List Nat := (s.atl.suspended.map Prod.snd).dedup
def State.suspFirst (s : State) (ch : Nat) : Nat := ((s.atl.suspended.find? (fun e => decide (e.2 = ch))).map Prod.fst).getD 0

/-- A suspension that lasts until SERVICE is entered begins (R50, R55); one that has begun goes on. -/
def State.suspend (s : State) (row nsid : Nat) : State :=
  if s.start.susp.any (fun x => decide (x.1 = row)) then s
  else ({ s with start := { s.start with susp := s.start.susp ++ [(row, nsid)] } } : State).suspRecord true row nsid

/-- The suspensions that last until SERVICE is entered end, with a record each (R55). -/
def State.endSuspends (s : State) : State :=
  s.start.susp.foldl (fun s x => s.suspRecord false x.1 x.2) { s with start := { s.start with susp := [] } }

/-- The mailboxes are served: not in HOLDUP, VAULT or while stopped; in DORMANT only the management port (R424); at
start-up from the end of step 5 (R672). -/
def State.mbxServed (s : State) (p : Nat) : Bool :=
  if s.start.running ∧ s.start.step < 5 then false
  else match s.pwr.mode with
  | .ready | .service | .degraded => true
  | .dormant => !isFnPath p
  | .holdup | .vault | .stopped => false

/-- Carrying out a request (R412): handles discarded under R413, the common checks, then the opcode's own body. A path
that is not served gets no answer (R424). -/
def State.serve (s : State) (q : MbxReq) (f : ReqForm) (body : State → State) : State :=
  if !s.mbxServed q.path then s
  else
    let s := if (s.mb q.path).ended && decide (f.opcode ≠ 0x0001) then
        (s.dropHandles q.path).setMb q.path { s.mb q.path with ended := false } else s
    match s.preCheck q f with
    | some st => s.refuse q f.opcode st
    | none => body s

/-- R411: the FUNCTION a request names, for its path: 0xFF is the requester itself on a VF. None: PRIVILEGE. -/
def fnNamed (p x : Nat) : Option Nat :=
  if hasDevicePrivilege p then some x
  else if x = 0xFF ∨ x = p then some p else none

/-- An update session ends otherwise than by UPD_END: its slot has failed verification (R591). -/
def State.endUpd (s : State) : State :=
  match s.por.sess with
  | none => s
  | some u =>
    let slots := if u.route % 2 = 1 then
        tabSet (fun _ => BootSlot.reset) s.por.slots u.slot { tabGet (fun _ => BootSlot.reset) s.por.slots u.slot with st := 3 }
      else s.por.slots
    { s with por := { s.por with sess := none, slots := slots } }

/-- The end of a mailbox's session (R409): VERSION reads 0 and SESSION_RESET sets; its update session ends with it (R420)
where the caller says so. -/
def State.endSession (s : State) (p : Nat) : State :=
  let m := s.mb p
  if m.version = 0 then s
  else
    let s := s.setMb p { m with version := 0, ended := true }
    let s := if isFnPath p then s.event F.MBX_EVENTS_SESSION_RESET p 0 else s
    match s.por.sess with
    | some u => if u.opener = p ∧ !u.ending then s.endUpd else s
    | none => s

/-! ### Bookings (Table 03-1) -/

/-- The units booked under a key lowered. -/
def unbookTab (t : Tab Nat) (k n : Nat) : Tab Nat := tabSet (fun _ => 0) t k (tabGet (fun _ => 0) t k - n)
/-- The units booked under a key raised. -/
def bookTab (t : Tab Nat) (k n : Nat) : Tab Nat := tabSet (fun _ => 0) t k (tabGet (fun _ => 0) t k + n)

/-- Key of a booking table entry. -/
def bkKey (frame idx : Nat) : Nat := frame * 4096 + idx

/-- Key of a booking: the start ladder is booked by sheet and 10 µs window, all else by frame and index. -/
def Booking.key (b : Booking) : Nat := if b.res = 11 then b.frame * 16 + b.idx else bkKey b.frame b.idx

/-- One booking entered in its table (`add`) or taken out of it. -/
def Plotter.apply (p : Plotter) (add : Bool) (b : Booking) : Plotter :=
  let g := fun t => if add then bookTab t b.key b.units else unbookTab t b.key b.units
  match b.res with
  | 0 | 12 => { p with die := g p.die }
  | 10 => { p with recon := g p.recon }
  | 1 | 13 => { p with chan := g p.chan }
  | 2 => { p with ldpc := g p.ldpc }
  | 3 => { p with parity := g p.parity }
  | 4 => { p with portIn := g p.portIn }
  | 5 => { p with portOut := g p.portOut }
  | 6 => { p with power := g p.power }
  | 7 => { p with powerAll := g p.powerAll }
  | 11 => { p with ladder := g p.ladder }
  | _ => p

/-- FREE and available count of a pool (R436). -/
def TPool.avail (t : TPool) : Nat := t.free.length - t.reserved

/-- A tile pool changes: a fall of the available count below LEVEL is counted (R441). ABOVE is read from the count. -/
def State.setTPool (s : State) (p : Nat) (t : TPool) : State :=
  let was := ((s.til.pool[p]?).map TPool.avail).getD 0
  let l := s.fld F.TIL_POOL_WM_LEVEL p
  let s := { s with til := { s.til with pool := listSet s.til.pool p t } }
  if t.avail < l ∧ l ≤ was then (s.bump F.TIL_POOL_WM_COUNT p 1).event F.TIL_POOL_WM_CROSSED p 0 else s

/-- Tiles and staging of a booking list return to their pools. -/
def State.releaseExtra (s : State) (b : Booking) : State :=
  if b.res = 9 then { s with pwr := { s.pwr with stagingUse := s.pwr.stagingUse - b.units } }
  else if b.res = 8 then
    match s.til.pool[b.idx]? with
    | some t => s.setTPool b.idx { t with reserved := t.reserved - b.units }
    | none => s
  else s

/-- Staging slots, by staging offset in 4 KiB units. -/
def State.slotOf (s : State) (a : Nat) : Option Stage := tabGet (fun _ => none) s.atl.stage a
def State.setStage (s : State) (a : Nat) (x : Option Stage) : State :=
  { s with atl := { s.atl with stage := tabSet (fun _ => none) s.atl.stage a x } }

/-- A staging slot is released when nothing holds it any more (R129). -/
def State.freeSlot (s : State) (a : Nat) : State :=
  match s.slotOf a with
  | some x =>
    if !x.live && decide (x.reads = 0) && decide (x.progs = 0) then
      let s := s.setStage a none
      { s with pwr := { s.pwr with stagingUse := s.pwr.stagingUse - x.bytes } }
    else s
  | none => s

/-- One read fewer is planned against a staging slot; the last one of a superseded slot releases it (R129). -/
def State.slotReadDown (s : State) (a : Nat) : State :=
  match s.slotOf a with
  | some x => (s.setStage a (some { x with reads := x.reads - 1 })).freeSlot a
  | none => s

/-- The reads a command planned against staging slots end, and its pins on bands go (R125, R129). -/
def State.slotReadsEnd (s : State) (c : Cmd) : State :=
  let s := c.slotReads.foldl State.slotReadDown s
  { s with atl := { s.atl with pins := c.pinned.foldl (fun t b => tabSet (fun _ => 0) t b (tabGet (fun _ => 0) t b - 1)) s.atl.pins } }

/-- Soft-decode reservations are withdrawn from their lanes (R291, R294). -/
def State.withdraw (s : State) (ids : List Nat) : State :=
  if ids.isEmpty then s
  else { s with lanes := s.lanes.map (fun (e : Nat × Lane) => (e.1, { e.2 with res := e.2.res.filter (fun j => !ids.contains j.id) })) }

/-- Die operations work for a command. -/
def DieOp.of (o : DieOp) (c : Cmd) : Bool := decide (o.cmd = some (c.fn, c.sq, c.cid))

/-- A lane's job works for a command. -/
def LdpJob.of (j : LdpJob) (c : Cmd) : Bool := decide (j.cmd = some (c.fn, c.sq, c.cid))

/-- The tiles of the operations of a command that run now, and of its decodes (R438). -/
def State.tilesInFlight (s : State) (c : Cmd) : List Booking :=
  ((s.plt.running ++ s.plt.reading).filterMap (fun e => e.2.bind (fun r => if r.op.of c then some r.op.tiles else none))).flatten
    ++ s.lanes.flatMap (fun e => (e.2.busy.toList ++ e.2.yielded).flatMap (fun j => if j.of c then j.tiles else []))

/-- Bookings lowered by others of the same resource and index, each taken out once. -/
def lessBookings (bs : List Booking) : List Booking → List Booking
  | [] => bs
  | h :: rest =>
    let rec go : List Booking → Nat → List Booking
      | [], _ => []
      | b :: l, n => if b.res = h.res ∧ b.idx = h.idx then { b with units := b.units - n } :: go l (n - b.units) else b :: go l n
    lessBookings (go bs h.units) rest

/-- The die operations and decodes of a command that has ended (R82, R438): those not started go, those that run are its no more and keep their
tiles until they end. -/
def State.endOps (s : State) (c : Cmd) : State :=
  let job := fun (j : LdpJob) => if j.of c then { j with orphan := true } else j
  let s := { s with lanes := s.lanes.map (fun (e : Nat × Lane) =>
    (e.1, { e.2 with busy := e.2.busy.map job, yielded := e.2.yielded.map job })) }
  let left : Option Running → Option Running := fun r => r.map (fun (r : Running) =>
    if r.op.of c then { r with op := { r.op with orphan := true } } else r)
  { s with plt := { s.plt with
      queue := (s.plt.queue.map (fun (e : Nat × List DieOp) => (e.1, e.2.filter (fun o => !o.of c)))).filter (fun e => !e.2.isEmpty),
      later := s.plt.later.filter (fun e => !e.2.2.of c),
      running := s.plt.running.map (fun (e : Nat × Option Running) => (e.1, left e.2)),
      reading := s.plt.reading.map (fun (e : Nat × Option Running) => (e.1, left e.2)) } }

/-- Bookings released: they leave the ledger, their tiles and staging return; a probe may follow (R83). -/
def State.unbook (s : State) (bs : List Booking) : State :=
  let s := bs.foldl (fun s b => s.releaseExtra b) s
  let mark := s.plt.frameAt + ((s.now - s.plt.frameAt) / (10 * usTicks) + 1) * (10 * usTicks)
  { s with plt := { bs.foldl (fun p b => p.apply false b) s.plt with
    released := if bs.isEmpty ∨ s.plt.released.contains mark then s.plt.released else mark :: s.plt.released } }

/-- A booked read-modify-write that is not needed (R133, R134, R136): its bookings and its reads go. -/
def State.dropRmw (s : State) (iu : Nat) (bs : List Booking) : State :=
  let keep := fun (o : DieOp) => !decide (o.cmd = none ∧ o.iu = iu + 1)
  ({ s with plt := { s.plt with
      queue := (s.plt.queue.map (fun (e : Nat × List DieOp) => (e.1, e.2.filter keep))).filter (fun e => !e.2.isEmpty),
      later := s.plt.later.filter (fun e => keep e.2.2) } } : State).unbook bs

/-- A read pinned a band no more (R125). -/
def State.unpinBand (s : State) (b : Nat) : State :=
  { s with atl := { s.atl with pins := tabSet (fun _ => 0) s.atl.pins b (tabGet (fun _ => 0) s.atl.pins b - 1) } }
def State.pinBand (s : State) (b : Nat) : State :=
  { s with atl := { s.atl with pins := tabSet (fun _ => 0) s.atl.pins b (tabGet (fun _ => 0) s.atl.pins b + 1) } }

/-- A command's bookings are released (R31, R353): all of them where nothing of it is staged; else its tiles and the part of the others
that its unstaged rest accounts for, since what is staged still reaches flash. Tiles through which data still moves stay (R438); staging
bytes that reached no slot return. -/
def State.release (s : State) (c : Cmd) : State :=
  let tiles := lessBookings (c.bookings.filter (fun b => decide (b.res = 8))) (s.tilesInFlight c)
  let all := c.bookings.foldl (fun n b => if b.res = 9 then n + b.units else n) 0
  let rest := (c.bookings.filter (fun b => decide (b.res ≠ 8 ∧ b.res ≠ 9))).map (fun b =>
    if c.staged.isEmpty then b else { b with units := b.units * c.stageLeft / max 1 all })
  let s := ((s.slotReadsEnd c).withdraw (c.ius.filterMap IuPlan.resv)).endOps c
  let s := c.rmw.foldl (fun s e => s.dropRmw e.1 e.2) (s.unbook (tiles ++ rest))
  { s with pwr := { s.pwr with stagingUse := s.pwr.stagingUse - c.stageLeft } }

/-- A command that completes keeps its per-frame bookings until their frames pass; its tiles and unused staging return. -/
def State.settle (s : State) (c : Cmd) : State :=
  let tiles := lessBookings (c.bookings.filter (fun b => decide (b.res = 8))) (s.tilesInFlight c)
  let s := (((s.slotReadsEnd c).withdraw (c.ius.filterMap IuPlan.resv)).endOps c).unbook tiles
  { s with pwr := { s.pwr with stagingUse := s.pwr.stagingUse - c.stageLeft } }

/-- The command is gone, with its bookings. -/
def State.dropCmd (s : State) (fn sq cid : Nat) : State :=
  match s.findCmd fn sq cid with
  | none => s
  | some c => let s := s.release c; { s with cmds := s.cmds.filter (fun c => !c.is fn sq cid) }

/-- Invalidations of a function's translations complete once none of its requests is in progress (R346; which request used which page is
not kept: every one counts). -/
def State.atsDone (s : State) (fn : Nat) : State :=
  let x := s.fnOf fn
  if x.atsInval.isEmpty ∨ s.cmds.any (fun c => decide (c.fn = fn ∧ c.openReads ≠ 0)) then s
  else x.atsInval.foldl (fun s p => s.emit (.answer 0x010 [fn, p])) (s.setFn fn { x with atsInval := [] })

/-! ### Function reset (R353, R376) -/

/-- An accepted command that a reset of its function discards (steps 2 and 3): a read, or a write whose data has not all reached
staging. -/
def Cmd.discarded (c : Cmd) : Bool := c.accepted && (c.staged.isEmpty || !c.toStage.isEmpty) && decide (c.phase ≠ .posting)

/-- A function's commands, completions, queues and rate buckets are gone (R353, steps 2 to 4 and 6). -/
def State.dropQueues (s : State) (f : Nat) : State :=
  { s with cmds := s.cmds.filter (fun c => decide (c.fn ≠ f)), cpls := s.cpls.filter (fun c => decide (c.fn ≠ f)),
           sqs := s.sqs.filter (fun e => decide (e.1 / 1024 ≠ f)), cqs := s.cqs.filter (fun e => decide (e.1 / 1024 ≠ f)),
           buckets := s.buckets.filter (fun e => decide (e.1 / 64 ≠ f)) }

/-- A function's direct window and inbound mailbox read zero again. -/
def State.dropBytes (s : State) (f : Nat) : State :=
  { s with window := s.window.filter (fun e => decide (e.1 / 2 ^ 40 ≠ f)),
           inbox := s.inbox.filter (fun e => decide (e.1 / 4096 ≠ f)) }

/-- The first dword of a Gazetteer record is read in a function's page: the whole record is latched (R341). -/
def State.latchGaz (s : State) (f i : Nat) : State :=
  let b := (s.gaz.at i).bytes
  (s.setFn f { s.fnOf f with gazLatch := some i, gazCopy := b }).emit (.readBack f (le b 0 4))

/-- A function's own registers and its response window return to their reset values (R353, step 6). -/
def State.restoreFn (s : State) (f : Nat) : State :=
  let x := s.fnOf f
  let s := s.setFn f { Fn.reset f with enabled := x.enabled, bar4 := x.bar4, quota := x.quota, quotaUsed := x.quota,
                                       engine := x.engine, numVfs := x.numVfs, vfEnable := x.vfEnable, ari := x.ari,
                                       aer := x.aer }
  let s := s.dropBytes f
  let s := s.setReg .HST_FN_CTRL f (Reg.resetWord .HST_FN_CTRL f)
  let s := s.setReg .HST_FN_EVENTS f (Reg.resetWord .HST_FN_EVENTS f)
  let s := s.setReg .HST_GAZ_PAGE f (Reg.resetWord .HST_GAZ_PAGE f)
  let s := (List.range 16).foldl (fun s k => s.setReg .HST_DCS_WIN (16 * f + k) (Reg.resetWord .HST_DCS_WIN (16 * f + k))) s
  s.setMb f { s.mb f with respReady := false, respMore := false, out := [], resp := none }

/-- Reset of one function: kind 0 FLR, 1 conventional, 2 controller (R353, R352, R376). The answer says whether it discarded accepted
commands. -/
def State.resetFn1 (s : State) (f kind : Nat) : State :=
  let mine := s.cmds.filter (fun c => decide (c.fn = f))
  let lost := mine.any Cmd.discarded
  let s := mine.foldl (fun s c => s.release c) s
  let s := (s.dropQueues f).atsDone f
  -- step 5: the mailbox
  let m := s.mb f
  let s := s.setMb f { m with seg := none, dropResp := m.busy && m.req.isSome, segTaken := false }
  let s := if kind = 2 then s else s.endSession f
  -- step 6: BAR0 controller registers and queue state; for 0 and 1 also the window, MSI-X and the BAR4 backing
  let s := s.setCtl f Ctl.reset
  let x := s.fnOf f
  let s := s.setFn f { x with quotaUsed := x.quota }
  let s := if kind = 2 then s else s.restoreFn f
  -- step 7
  let s := if lost then s.promise f F.HST_PROMISE_EVENTS_FN_RESET else s
  s.record 0x010 (f / 128) 0 0x0009 (f + kind * 2 ^ 8)

/-- Functions reset together: the two suspension records are written once for the device (R55). -/
def State.resetFns (s : State) (fs : List Nat) (kind : Nat) : State :=
  if fs.isEmpty then s
  else (fs.foldl (fun (s : State) f => s.resetFn1 f kind) (s.suspRecord true 4 0)).suspRecord false 4 0

/-- Reset of one function with its records. -/
def State.resetFn (s : State) (f kind : Nat) : State := s.resetFns [f] kind

end Sys2Proof.Machine
end

