-- ==== Sys2Proof/Machine/OpsFault.lean ====
section
/-! DEFINITION. HOLDUP entry (R489, R498), the FAULT_N pin (R549 to R552) and the fault words (R531 to R545): how a fault is
classified, recorded and reacted to. What a fence means for the unit's own work is in OpsFence.lean. -/

set_option linter.unusedVariables false

namespace Sys2Proof.Machine

/-! ### FAULT_N -/

/-- A UNIT-class or DEVICE-class fault pulses FAULT_N while ARMED (R551); a running pulse is neither lengthened nor
restarted. -/
def State.pulse (s : State) : State :=
  if s.fld F.FLT_PIN_CTL_ARMED 0 = 1 ∧ s.pin.pulsing = false then
    { s.setFld F.FLT_PIN_CTL_ARMED 0 0 with pin := ⟨true⟩ }
  else s

/-- The level of FAULT_N: driven low (R550 to R552). -/
def State.faultNLow (s : State) : Bool :=
  match s.pwr.mode with
  | .stopped => s.pwr.lowOnStop
  | .vault => false
  | _ => s.start.testHeld || s.pin.pulsing || decide (s.fld F.FLT_PIN_CTL_LEVEL 0 = 1)

/-! ### HOLDUP -/

def State.bay (s : State) (b : Nat) : Bay := tabGet (fun _ => Bay.reset) s.bays b
def State.setBay (s : State) (b : Nat) (x : Bay) : State := { s with bays := tabSet (fun _ => Bay.reset) s.bays b x }

/-- The number, SHB_PWREN, attention and power indication of a state (Table 10-3). -/
def BayState.num : BayState → Nat
  | .empty => 0 | .debounce => 1 | .waitPower => 2 | .powering => 3 | .identify => 4 | .discover => 5 | .held => 6
  | .offered => 7 | .abortWindow => 8 | .evacuating => 9 | .poweringOff => 10 | .off => 11 | .rejected => 12 | .faulted => 13
def BayState.pwrEn : BayState → Bool
  | .powering | .identify | .discover | .held | .offered | .abortWindow | .evacuating => true
  | _ => false
def BayState.attn : BayState → Nat
  | .abortWindow => 2 | .evacuating | .poweringOff => 1 | .rejected | .faulted => 3 | _ => 0
def BayState.pwrInd : BayState → Nat
  | .powering | .identify | .discover | .evacuating | .poweringOff => 2 | .held | .offered | .abortWindow => 1 | _ => 0

/-- A bay's transition (R304, R306 to R308): the outputs of Table 10-3, the span of its latch, HOST_OWNS cleared, an offer asked for and not
made gone unless the bay stays held, one record. -/
def State.moveBay (s : State) (b : Nat) (st : BayState) : State :=
  let x := s.bay b
  let s := s.setBay b { x with st := st, pwrEn := st.pwrEn, attn := st.attn, pwrInd := st.pwrInd, since := s.now,
                               locked := st.pwrEn || decide (st.pwrInd ≠ 0), idValid := x.idValid && st.pwrEn, blinkEnd := none,
                               offer := x.offer && decide (st = .held) }
  let s := s.setFld F.SHB_IND_HOST_OWNS b 0
  s.record 0x0C0 b 0 0x000B (b + x.st.num * 2 ^ 4 + st.num * 2 ^ 8 + le x.id 8 6 * 2 ^ 16)

/-- The resume opcodes that a HOLDUP sends to the dies with a suspended program (R249), and the run timers they start (R245). -/
def State.resumeProgs (s : State) : State :=
  s.trv.ctx.foldl (fun (s : State) e =>
    if e.2.st = .suspended ∧ e.2.long = 1 then
      let x := tabGet (fun _ => Die.reset) s.fch.die e.1
      match x.profile.bind (fun k => tabGet (fun _ => none) s.fch.profile k) with
      | some p =>
        let x := { x with runKind := 1, runEnd := s.now + 50 * p.minP, suspAt := none, resumeDue := false }
        ({ s with fch := { s.fch with die := tabSet (fun _ => Die.reset) s.fch.die e.1 x } } : State).emit (.die e.1 0 p.resP)
      | none => s
    else s) s

/-- The erases that run end by LUN Reset (R498 step 4). -/
def State.resetErases (s : State) : State :=
  s.plt.running.foldl (fun (s : State) e => match e.2 with
    | some r => if r.op.kind = 2 ∧ r.suspended = false then s.emit (.die e.1 0 0xFA) else s
    | none => s) s

/-- A die's context in HOLDUP (R249, R498 steps 4 and 5): a suspended program is resumed, a program runs on; a suspended erase stays so and is
run no more; reads and running erases are over; no START that waits is taken. -/
def Ctx.heldUp (x : Ctx) : Ctx :=
  let y := { x with inRead := false, handler := 0, pend := x.pend.filter (fun k => decide (k ≠ 3)), plans := [] }
  match x.st with
  | .suspended => if x.long = 1 then { y with st := .running, c := x.saved, pc := x.resumePc, issueEpoch := x.savedEpoch } else y
  | .running => if x.long = 1 then { x with pend := y.pend, plans := [] } else { y with st := .idle, long := 0 }
  | .idle | .fenced => { x with pend := y.pend, plans := [] }

/-- Steps 1 to 5 of R498 as they stand when HOLDUP has been entered: the cause recorded, admission closed, no fetch and no
completion, mailboxes stopped, reads abandoned, writes not wholly staged discarded (writes whose HOST_STAGE was applied
keep their staging slots), erases ended and their bands left ERASING, programs left running. HOLD_TEST_EN falls (R506).
Only SERVICE, DEGRADED and READY enter HOLDUP (Table 16-2, Table 16-6). -/
def State.enterHoldup (s : State) (cause : Nat) : State :=
  if !s.hubOn then s
  else
    let paths := s.mbx.map Prod.fst
    let s := (paths.foldl (fun s p => s.endSession p) s).endUpd
    let s := s.suspend 2 0
    let s := s.resumeProgs.resetErases
    let s := { s with
      cmds := [], cpls := [], ops := [], atl := { s.atl with evac := [] },
      dram := s.dram.map (fun (e : Nat × Dram) => (e.1, { e.2 with selfRef := false })),
      mbx := s.mbx.map (fun (e : Nat × Mbx) => (e.1, { e.2 with busy := false, seg := none, req := none, resp := none })),
      mgmt := { s.mgmt with sessions := [] }, srv := { s.srv with queued := [], running := [], forcedPending := false },
      plt := { s.plt with admitOpen := false,
                          -- R249: a suspended program is resumed, a suspended erase abandoned
                          running := s.plt.running.filterMap (fun (e : Nat × Option Running) => match e.2 with
                            | some r => if r.op.kind = 1 then
                                some (e.1, some (if r.suspended then { r with suspended := false, start := s.now } else r)) else none
                            | none => none),
                          reading := [] },
      trv := { s.trv with ctx := s.trv.ctx.map (fun (e : Nat × Ctx) => (e.1, e.2.heldUp)) },
      pwr := { s.pwr with cause := cause, entryDatum := s.datumWord, holdTestEn := false, entering := none, dumpParts := true, dumpAbort := false,
                          test := { s.pwr.test with phase := .idle, handle := none } } }
    -- Table 10-7: insertions lower SHB_PWREN and restart from WAIT_POWER at the next start-up
    let going := fun (x : Bay) => match x.st with
      | .powering | .identify | .discover | .held => true
      | _ => false
    let off := (s.bays.filter (fun e => going e.2)).map Prod.fst
    let s := { s with
      fch := { s.fch with chan := s.fch.chan.map (fun (e : Nat × Chan) =>
        (e.1, if off.contains (e.1 / 8) then { e.2 with wpHigh := false, trained := false, rate := 0, lpddr4 := false } else e.2)) } }
    let s := off.foldl (fun s b => s.moveBay b .waitPower) s
    s.toMode .holdup

/-! ### Fault words -/

/-- One more record slot for a CORRECTED fault of the unit is due: none yet, or 1,000 frames past the last (R535). -/
def FltUnit.corrDue (u : FltUnit) (frame : Nat) : Bool :=
  match u.corrFrame with
  | none => true
  | some f => decide (f + 1000 ≤ frame)

/-- The event word with a class's bit, and INJECTED, set. -/
def FltUnit.mark (u : FltUnit) (c : FClass) (cause : Nat) (injected : Bool) : FltUnit :=
  { u with lastClass := c.num, lastCause := cause,
           ev := putBits (if injected then putBits u.ev 8 8 1 else u.ev) c.bit c.bit 1 }

/-- The data field of a fault's record (R535). -/
def faultData (injected : Bool) (sub : Nat) : Nat := sub % 2 ^ 48 + b2n injected * 2 ^ 63

/-- The owner interrupt of an instance is asserted (R537). -/
def FltUnit.owner (u : FltUnit) : Bool := decide (bits u.ev 8 3 &&& (63 - u.mask % 64) ≠ 0)

/-- The fence bits of an instance: FENCED and its indication (R544); what was recorded within an earlier fence is over. -/
def State.markFenced (s : State) (block inst : Nat) : State :=
  let u := s.unit block inst
  s.setUnit block inst { u with fenced := true, ind := true, causes := [u.lastCause] }

/-- Fencing it would leave fewer instances than Table 18-2 permits (TOO_FEW). -/
def State.tooFew (s : State) (block : Nat) : Bool :=
  decide (unitLeast block ≠ 0 ∧ unitCount block - (s.fencedCount block + 1) < unitLeast block)

/-- The DEVICE reaction (R531, R350, R359, R533): Uncorrectable Internal Error on PF0 and PF1, CFS on every enabled
controller, the pulse, HOLDUP. -/
def State.deviceReaction (s : State) : State :=
  let s := (s.emit (.aer 0 10)).emit (.aer 128 10)
  let s := { s with ctls := s.ctls.map (fun (e : Nat × Ctl) => (e.1, if e.2.en then { e.2 with cfs := true } else e.2)) }
  (s.pulse.alert 3).enterHoldup 3

/-- An error on the link to a fenced partner (R545): recorded once per partner and fence, with no other effect. -/
def State.partnerError (s : State) (r : FaultReport) (b i : Nat) : State :=
  let u := s.unit r.block r.inst
  let k := unitKey b i
  if u.partners.contains k then s
  else
    let s := s.setUnit r.block r.inst { u.mark .partnerFenced 0x19 false with partners := k :: u.partners }
    s.record r.block r.inst 5 0x1019 (b % 4096 + i % 4096 * 2 ^ 12)

/-- A fault in an instance that is already fenced sets its bit and counts; only the first of each cause writes a record
(R538). -/
def State.fencedFault (s : State) (r : FaultReport) (c : FClass) : State :=
  let u := s.unit r.block r.inst
  let u' := { u.mark c r.cause r.injected with
    corr := if c = .corrected then satAdd 255 u.corr 1 else u.corr,
    cont := if c = .contained then satAdd 255 u.cont 1 else u.cont,
    causes := if u.causes.contains r.cause then u.causes else r.cause :: u.causes,
    requalBad := u.requalBad || u.requal.isSome }
  let s := s.setUnit r.block r.inst u'
  if u.causes.contains r.cause then s
  else s.record r.block r.inst c.num (0x1000 + r.cause) (faultData r.injected r.sub)

/-- A CORRECTED fault: counted, and at most one record per 1,000 frames, with the number since the last (R535). -/
def State.correctedFault (s : State) (r : FaultReport) : State :=
  let u := s.unit r.block r.inst
  let due := u.corrDue s.plt.frame
  let n := u.corrSince + 1
  let u' := { u.mark .corrected r.cause r.injected with
    corr := satAdd 255 u.corr 1, corrFrame := if due then some s.plt.frame else u.corrFrame,
    corrSince := if due then 0 else n }
  let s := s.setUnit r.block r.inst u'
  if due then s.record r.block r.inst 1 (0x1000 + r.cause) (faultData r.injected n) else s

/-- A CONTAINED fault: counted and recorded; the command or job concerned fails as its own rule states. -/
def State.containedFault (s : State) (r : FaultReport) : State :=
  let u := s.unit r.block r.inst
  let s := s.setUnit r.block r.inst { u.mark .contained r.cause r.injected with cont := satAdd 255 u.cont 1 }
  s.record r.block r.inst 2 (0x1000 + r.cause) (faultData r.injected r.sub)

/-- A DEVICE fault: recorded, then the reaction. -/
def State.deviceFault (s : State) (r : FaultReport) : State :=
  let u := s.unit r.block r.inst
  let s := s.setUnit r.block r.inst (u.mark .device r.cause r.injected)
  (s.record r.block r.inst 4 (0x1000 + r.cause) (faultData r.injected r.sub)).deviceReaction

/-- The words, record, pulse and notices of a UNIT fault, before its fence (R531, R551, R350). -/
def State.unitNotice (s : State) (r : FaultReport) : State :=
  let u := s.unit r.block r.inst
  let s := s.setUnit r.block r.inst (u.mark .unit r.cause r.injected)
  let s := s.record r.block r.inst 3 (0x1000 + r.cause) (faultData r.injected r.sub)
  let s := (s.emit (.aer 0 2)).emit (.aer 128 2)
  s.pulse.alert 3

end Sys2Proof.Machine
end

