-- ==== Sys2Proof/Machine/OpsFlash.lean ====
section
/-! DEFINITION. Shared operations of the flash side: profiles and groups, bands (chapter 5), the map and its updates (4),
staging, the journal, stripes (6). -/

set_option linter.unusedVariables false

namespace Sys2Proof.Machine

/-! ### Dies and groups -/

def State.dieOf (s : State) (d : Nat) : Die := tabGet (fun _ => Die.reset) s.fch.die d
def State.setDie (s : State) (d : Nat) (x : Die) : State :=
  { s with fch := { s.fch with die := tabSet (fun _ => Die.reset) s.fch.die d x } }
def State.chan (s : State) (c : Nat) : Chan := tabGet (fun _ => Chan.reset) s.fch.chan c
def State.setChan (s : State) (c : Nat) (x : Chan) : State :=
  { s with fch := { s.fch with chan := tabSet (fun _ => Chan.reset) s.fch.chan c x } }
def State.profSlot (s : State) (p : Nat) : Option Profile := tabGet (fun _ => none) s.fch.profile p

/-- The profile bound to a die. -/
def State.profileOf (s : State) (d : Nat) : Option Profile := (s.dieOf d).profile.bind s.profSlot

/-- A sheet is usable: present and not fenced (PAR_SHEETS.USABLE). -/
def State.sheetUsable (s : State) (sh : Nat) : Bool := decide (s.par.usable / 2 ^ sh % 2 = 1)

/-- A die that can be read and written: present, with a profile (R232), not absent, neither it nor its channel fenced. -/
def State.dieLive (s : State) (d : Nat) : Bool :=
  let x := s.dieOf d
  x.present && x.profile.isSome && !x.absent && !x.fenced && !s.fenced 0x0A0 (dieChan d)

/-- The dies of a stripe group, by sheet (R15, R154): g + 128 s. -/
def groupDies (g : Nat) : List Nat := (List.range 16).map (fun sh => 128 * sh + g)

/-- A sheet is usable for a group (R184). -/
def State.usableFor (s : State) (g sh : Nat) : Bool := s.sheetUsable sh && s.dieLive (128 * sh + g)

/-- SHEETS of a band opened now (R184). -/
def State.groupSheets (s : State) (g : Nat) : Nat :=
  (List.range 16).foldl (fun m sh => if s.usableFor g sh then m + 2 ^ sh else m) 0

/-- The current width W_g of a group (R184). -/
def State.width (s : State) (g : Nat) : Nat := countBelow 16 (s.usableFor g)

/-- Bits of a sheet mask. -/
def maskBit (m sh : Nat) : Bool := decide (m / 2 ^ sh % 2 = 1)
def maskSet (m sh : Nat) : Nat := if maskBit m sh then m else m + 2 ^ sh
def maskClear (m sh : Nat) : Nat := if maskBit m sh then m - 2 ^ sh else m
/-- The sheets of a mask, ascending. -/
def maskList (m : Nat) : List Nat := (List.range 16).filter (maskBit m)

/-- Spare blocks of a die of `n` blocks (R153). -/
def spareCount (n permille : Nat) : Nat := ceilDiv (n * permille) 1000

/-- K_g (R153): the smallest N_band among the present dies of the group. -/
def State.bandsOf (s : State) (g : Nat) : Nat :=
  let ns := (groupDies g).filterMap (fun d =>
    if (s.dieOf d).present then (s.profileOf d).map (fun p =>
      p.blocks - spareCount p.blocks (s.fld F.SVY_UPKEEP_CFG_SPARE_PERMILLE 0)) else none)
  match ns with
  | [] => 0
  | n :: rest => rest.foldl min n

/-! ### Bands -/

def State.bandRec (s : State) (b : Nat) : Band := tabGet (fun _ => Band.reset) s.svy.band b
def State.setBand (s : State) (b : Nat) (x : Band) : State :=
  { s with svy := { s.svy with band := tabSet (fun _ => Band.reset) s.svy.band b x } }

/-- A band record journalled as it changes (R155, R158): every transition is journalled before it is acted on. Table 04-7 has no record
type for it: it takes no lines of the ring and no JSEQ of its own (DEDUCED, log entry 54). -/
def State.moveBand (s : State) (b : Nat) (x : Band) : State :=
  let s := s.setBand b x
  { s with atl := { s.atl with bandTail := (s.atl.jseq, b, x) :: s.atl.bandTail } }

/-- The member block of band `b` on a sheet (R154). -/
def Band.member (x : Band) (b sh : Nat) : Nat := tabGet (fun _ => b / 128) x.block sh

/-- The band a block of a die belongs to: the one whose member it is. -/
def State.bandOf (s : State) (d blk : Nat) : Nat :=
  match s.svy.band.find? (fun e => decide (e.1 % 128 = dieGroup d) && decide (e.2.member e.1 (dieSheet d) = blk)
      && maskBit e.2.sheets (dieSheet d)) with
  | some e => e.1
  | none => 128 * blk + dieGroup d

/-- The free count of a group (R168): its bands in FREE, without the HOLDUP reserve. -/
def State.freeCount (s : State) (g : Nat) : Nat :=
  s.bandsOf g - (s.svy.band.filter (fun e =>
    decide (e.1 % 128 = g) && (decide (e.2.st ≠ .free) || decide (e.2.cls = 3)))).length

/-- The urgency level of a free count (Table 05-3). -/
def State.urgencyOf (s : State) (n : Nat) : Nat :=
  if s.fld F.SVY_FREE_WM_LEVEL 0 ≤ n then 0
  else if s.fld F.SVY_FREE_WM_LEVEL 1 ≤ n then 1
  else if s.fld F.SVY_FREE_WM_LEVEL 2 ≤ n then 2 else 3

/-- The urgency of a group; one with W_g below 4 stands at level 3 for new writes (R185). -/
def State.urgency (s : State) (g : Nat) : Nat := if s.width g < 4 then 3 else s.urgencyOf (s.freeCount g)

/-- The groups with present members. -/
def State.liveGroups (s : State) : List Nat :=
  (List.range 128).filter (fun g => (groupDies g).any (fun d => (s.dieOf d).present && (s.dieOf d).profile.isSome))

/-- A stripe group with a die on the channel of the quiet slot in force (R105). -/
def State.quietGroup (s : State) (g : Nat) : Bool :=
  match s.plt.quiet with
  | some c => (List.range 16).any (fun k => decide ((16 * c + k) % 128 = g))
  | none => false

/-- The group the next write is booked to (R169), from the cursor on in rotation, outside a quiet slot (R105); none: no group can
take a write. -/
def State.writeGroup (s : State) : Option Nat :=
  let order := ((List.range 128).map (fun k => (s.svy.cursor + k) % 128)).filter (fun g => !s.quietGroup g)
  match order.find? (fun g => decide (s.urgency g ≤ 1)) with
  | some g => some g
  | none => order.find? (fun g => decide (s.urgency g = 2))

/-- C_b (R157): 4 KiB units of the data members, without footers. -/
def Band.capacity (x : Band) : Nat := (x.pages * x.planes * (x.wb - 2) - (x.wb - 2)) * 4

/-- The position of P and of Q in a row (R186), as sheets. -/
def Band.posSheet (x : Band) (j : Nat) : Nat := (maskList x.sheets).getD (j % max x.wb 1) 0
def Band.pSheet (x : Band) (row : Nat) : Nat := x.posSheet (row % max x.wb 1)
def Band.qSheet (x : Band) (row : Nat) : Nat := x.posSheet ((row + 1) % max x.wb 1)

/-- PAD positions of a row (R188, R189). -/
def Band.padMask (x : Band) (row : Nat) : Nat := ((x.short.find? (fun e => e.1 = row)).map (fun e => e.2.1)).getD 0

/-- The member block of a band on a sheet is a retired one (R178): it stands in its die's bad-block table. -/
def State.badMember (s : State) (b sh : Nat) : Bool :=
  (tabGet (fun _ => ([] : List Nat)) s.svy.bad (128 * sh + b % 128)).contains ((s.bandRec b).member b sh)

/-- The position of a sheet in a row is an erasure (R196). -/
def State.isErasure (s : State) (b row sh : Nat) : Bool :=
  let x := s.bandRec b
  maskBit x.sheets sh && !maskBit (x.padMask row) sh
    && (!s.sheetUsable sh || !s.dieLive (128 * sh + b % 128) || maskBit x.rebuild sh || maskBit x.gone sh
      || maskBit (tabGet (fun _ => 0) x.erased row) sh
      || maskBit (((x.short.find? (fun e => e.1 = row)).map (fun e => e.2.2)).getD 0) sh)

/-- A position that no plan reads: an erasure, or one in a retired block (R178). -/
def State.unreadable (s : State) (b row sh : Nat) : Bool := s.isErasure b row sh || s.badMember b sh

/-- Erasures of a row. -/
def State.erasures (s : State) (b row : Nat) : Nat := countBelow 16 (s.isErasure b row)

/-- Erasures of the rows of a band that are like any other row (no short entry, no read error of their own). -/
def State.plainErasures (s : State) (b : Nat) : Nat :=
  let x := s.bandRec b
  countBelow 16 (fun sh => maskBit x.sheets sh
    && (!s.sheetUsable sh || !s.dieLive (128 * sh + b % 128) || maskBit x.rebuild sh || maskBit x.gone sh))

/-- The largest erasure count over the rows of a band (ERASED_MAX). -/
def State.erasedMax (s : State) (b : Nat) : Nat :=
  let x := s.bandRec b
  ((x.short.map Prod.fst ++ x.erased.map Prod.fst).map (s.erasures b)).foldl max (s.plainErasures b)

/-- The live dies of a group and their profiles. -/
def State.members (s : State) (g : Nat) : List (Nat × Profile) :=
  (groupDies g).filterMap (fun d => if s.usableFor g (dieSheet d) then (s.profileOf d).map (fun p => (d, p)) else none)

/-- A term of the profiles, its largest value over the members (R87, R88). -/
def maxOf {α : Type} (l : List α) (f : α → Nat) : Nat := l.foldl (fun m x => max m (f x)) 0

/-- Program-unit bytes of a profile: every plane's page, every bit of a cell. -/
def Profile.unitBytes (p : Profile) : Nat := p.planes * 16384 * p.bpc

/-- The debt volume of a refresh of `nv` IUs of a band (Table 05-5), in 1/16 µs over the whole group: reads, programs at the width of
the receiving group, erases; for REBUILD (3) the reads of erased members are replaced by reads of the W_b − 2 others, and for a
reshape (4, R210) only the members that remain are erased, as R210's worked example counts them (log entry 47). -/
def State.refreshVol (s : State) (b nv reason : Nat) : Nat :=
  let x := s.bandRec b
  let g := b % 128
  let l := s.members g
  let w := s.width g
  let lost := countBelow 16 (fun sh => maskBit x.sheets sh && (s.isErasure b x.pages sh || s.badMember b sh))
  let bad := if reason = 3 ∨ reason = 4 then nv * lost / max 1 x.wb else 0
  let reads := (nv - bad + bad * (x.wb - 2)) * maxOf l (fun m => m.2.tR)
  let progs := maxOf l (fun m => ceilDiv (nv * 16384 * m.2.tPROG * w) (max 1 (m.2.unitBytes * (w - 2))))
  reads + progs + (if reason = 4 then x.wb - lost else x.wb) * maxOf l (fun m => m.2.tBERS)

/-- The debt volume of a band that enters the refresh queue. -/
def State.refreshUnits (s : State) (b reason : Nat) : Nat := s.refreshVol b (ceilDiv (s.bandRec b).valid 4) reason

/-- Debt of a group that is still to be booked (R90). -/
def State.owe (s : State) (g units : Nat) : State :=
  { s with plt := { s.plt with refreshLeft := tabSet (fun _ => 0) s.plt.refreshLeft g (tabGet (fun _ => 0) s.plt.refreshLeft g + units) } }

/-- Debt of one die that is still to be booked (Table 05-5, R90). -/
def State.oweDie (s : State) (d units : Nat) : State :=
  { s with plt := { s.plt with dieLeft := tabSet (fun _ => 0) s.plt.dieLeft d (tabGet (fun _ => 0) s.plt.dieLeft d + units) } }

/-- Refresh debt of a band still to be booked over its group (R173, R90), and that debt given up. -/
def State.oweBand (s : State) (b units : Nat) : State :=
  { s with plt := { s.plt with bandLeft := tabSet (fun _ => 0) s.plt.bandLeft b (tabGet (fun _ => 0) s.plt.bandLeft b + units) } }
def State.dropOwed (s : State) (b : Nat) : State :=
  { s with plt := { s.plt with bandLeft := tabSet (fun _ => 0) s.plt.bandLeft b 0 } }

/-- A band enters the refresh queue (R172, R173, R201): at its end, or at its head for reason REBUILD; its debt is due to be booked.
A band already queued, or in VICTIM, DRAINED, ERASING or RETIRED, is left as it stands. -/
def State.queueRefresh (s : State) (b reason : Nat) (front : Bool) : State :=
  let x := s.bandRec b
  if x.st = .victim ∨ x.st = .drained ∨ x.st = .erasing ∨ x.st = .retired ∨ x.st = .free then s
  else if s.svy.refreshQ.contains b then
    if front then
      let s := s.moveBand b { x with reason := reason }
      { s with svy := { s.svy with refreshQ := b :: s.svy.refreshQ.filter (fun k => k ≠ b) } }
    else s
  else
    let s := (s.moveBand b { x with reason := reason }).oweBand b (s.refreshUnits b reason)
    { s with svy := { s.svy with refreshQ := if front then b :: s.svy.refreshQ else s.svy.refreshQ ++ [b] } }

/-- A band leaves the refresh queue. -/
def State.unqueue (s : State) (b : Nat) : State :=
  { s with svy := { s.svy with refreshQ := s.svy.refreshQ.filter (fun k => k ≠ b) } }

/-- A band becomes DRAINED (Table 05-2, R173): it leaves the refresh queue, and debt of it not yet booked is owed no longer. -/
def State.drainBand (s : State) (b : Nat) : State :=
  ((s.moveBand b { s.bandRec b with st := .drained }).unqueue b).dropOwed b

/-- The spare blocks of a die that are left (R153): at first all its blocks from K_g on, ascending. -/
def State.sparesOf (s : State) (d : Nat) : List Nat :=
  match tabGet (fun _ => none) s.svy.spares d with
  | some l => l
  | none => match s.profileOf d with
    | some p => List.range' (s.bandsOf (dieGroup d)) (p.blocks - s.bandsOf (dieGroup d))
    | none => []
def State.setSpares (s : State) (d : Nat) (l : List Nat) : State :=
  { s with svy := { s.svy with spares := tabSet (fun _ => none) s.svy.spares d (some l) } }

/-- A checkpoint pass has completed (R145, R155): the band records are checkpointed with the segments; a CLOSED MAP band with two newer
passes becomes DRAINED (Table 05-2), and so does one in VICTIM, whose copies no later pass needs; the spilled journal of the last two
passes is kept. -/
def State.mapPass (s : State) : State :=
  let s := s.svy.band.foldl (fun (s : State) (e : Nat × Band) =>
    if e.2.cls = 2 ∧ (e.2.st = BandState.closed ∨ e.2.st = BandState.victim) then
      let s := s.setBand e.1 { e.2 with passes := e.2.passes + 1 }
      if 1 ≤ e.2.passes then s.drainBand e.1 else s
    else s) s
  { s with svy := { s.svy with saved := s.svy.band.map (fun (e : Nat × Band) => (e.1, some (s.atl.jseq, e.2))) },
           atl := { s.atl with bandTail := [], passSeq := s.atl.jseq, lastPass := s.atl.passSeq,
                               spilled := s.atl.spilled.filter (fun r => decide (s.atl.lastPass < r.seq)) } }

/-! ### The Atlas journal (R144, R151) -/

/-- JOURNAL_FILL: percent of the 256 MiB ring. -/
def journalFill (bytes : Nat) : Nat := min 100 (bytes * 100 / (256 * 2 ^ 20))

/-- The journal watermark: CROSSED sets, and COUNT rises, when a record raises the fill to LEVEL_PCT. A write of LEVEL_PCT at or below the
present fill sets nothing (DESIGN CHOICE, log entry 75: R151 does not speak of it). -/
def State.journalMark (s : State) (before after : Nat) : State :=
  let l := s.fld F.ATL_JRNL_WM_LEVEL_PCT 0
  if journalFill before < l ∧ l ≤ journalFill after then
    (s.bump F.ATL_JRNL_WM_COUNT 0 1).event F.ATL_JRNL_WM_CROSSED 0 0
  else s

/-- LINES of a record (Table 04-7): its header and its payload. -/
def JRec.lines (r : JRec) : Nat :=
  match r.kind with
  | 1 => 1 + ceilDiv r.items.length 3
  | 2 => 1 + r.items.length
  | _ => 2

/-- The 40 bits of an entry (R113, Table 04-1). -/
def Ent.word (e : Ent) : Nat :=
  e.addr % 2 ^ 36 + (match e.st with
    | .unmapped => 0 | .staged => 1 | .poisoned => 2 | .mapped => 4 + e.quarter % 4) * 2 ^ 36

/-- Entries three to a line (SET_RUN). -/
def runLines : List Nat → List Nat
  | a :: b :: c :: rest => (a + b * 2 ^ 40 + c * 2 ^ 80) :: runLines rest
  | [a, b] => [a + b * 2 ^ 40]
  | [a] => [a]
  | [] => []

/-- The payload of a record, one number of 128 bits for each line. -/
def JRec.payload (r : JRec) : List Nat :=
  match r.kind with
  | 1 => runLines (r.items.map (fun x => x.2.1.word))
  | 2 => r.items.map (fun x => x.1 % 2 ^ 40 + x.2.1.word * 2 ^ 40 + x.2.2 % 2 ^ 16 * 2 ^ 80)
  | 5 => [r.iu % 2 ^ 40 + r.arg % 2 ^ 80 * 2 ^ 40]
  | 6 => [r.arg]
  | _ => [r.arg % 2 ^ 40]

/-- COUNT of a record: its payload items less one. -/
def JRec.countField (r : JRec) : Nat := match r.kind with | 1 | 2 => r.items.length - 1 | _ => 0

/-- The record as it stands in the ring (Table 04-7): its lines, each as 16 bytes, least significant first. -/
def JRec.image (r : JRec) : List Nat :=
  let head := r.kind % 2 ^ 8 + r.lines % 2 ^ 8 * 2 ^ 8 + r.pool % 2 ^ 8 * 2 ^ 16 + r.seq % 2 ^ 48 * 2 ^ 32 + r.iu % 2 ^ 40 * 2 ^ 80
    + r.countField % 2 ^ 8 * 2 ^ 120
  (head :: r.payload).flatMap (bytesLe 16)

/-- Debt of programming `bytes` of map data (R145): over the stripe groups of the OPEN MAP bands, or where none is open over every group
that has members. -/
def State.oweMap (s : State) (bytes : Nat) : State :=
  let open_ := ((s.svy.band.filter (fun e => decide (e.2.cls = 2 ∧ e.2.st = .opened))).map (fun e => e.1 % 128)).dedup
  let gs := if open_.isEmpty then s.liveGroups else open_
  let each := ceilDiv bytes (max 1 gs.length)
  gs.foldl (fun s g =>
    let w := s.width g
    s.owe g (maxOf (s.members g) (fun m => ceilDiv (each * m.2.tPROG * w) (max 1 (m.2.unitBytes * (w - 2)))))) s

/-- Bytes of the ring that have not been spilled. -/
def State.unspilled (s : State) : Nat := s.atl.tailBytes - s.atl.parked.foldl (fun n e => n + e.1) 0

/-- One record in the journal tail (R144): JSEQ rises by one, the record takes its 16-byte lines; each 1 MiB block that fills is spill
volume to be booked (R145). -/
def State.journal (s : State) (kind pool iu arg : Nat) (items : List (Nat × Ent × Nat)) : State :=
  let q := (s.atl.jseq + 1) % 2 ^ 48
  let b := s.atl.tailBytes
  let r : JRec := ⟨q, kind, pool, iu, arg, items, s.now⟩
  let n := 16 * r.lines
  let fills := decide (s.unspilled / 2 ^ 20 < (s.unspilled + n) / 2 ^ 20)
  let s := { s with atl := { s.atl with jseq := q, tail := r :: s.atl.tail, tailBytes := b + n,
                                        jrnlFull := s.atl.jrnlFull || decide (100 ≤ journalFill (b + n)) } }
  (if fills then s.oweMap (2 ^ 20) else s).journalMark b (b + n)

/-- A record of one entry set under an epoch: SET_RUN, or SET_LIST where the epoch is to be kept (R128). -/
def State.journalSet (s : State) (kind key : Nat) (e : Ent) (epoch : Nat) : State :=
  s.journal kind (key / 2 ^ 40) (key % 2 ^ 40) 0 [(key % 2 ^ 40, e, epoch)]

/-- Bytes of the ring are given up; below LEVEL_PCT a full tail counts as full no longer (R146). -/
def State.ringLess (s : State) (n : Nat) : State :=
  let left := s.atl.tailBytes - n
  { s with atl := { s.atl with tailBytes := left, jrnlFull := s.atl.jrnlFull && decide (s.fld F.ATL_JRNL_WM_LEVEL_PCT 0 ≤ journalFill left) } }

/-- Spilled blocks leave the ring once every record of theirs is older than DIRTY_MAX_MS (R144). -/
def State.freeParked (s : State) : State :=
  let old := fun (e : Nat × Nat) => decide (e.2 + s.fld F.ATL_CTRL_DIRTY_MAX_MS 0 * msTicks < s.now)
  let gone := s.atl.parked.takeWhile old
  if gone.isEmpty then s
  else ({ s with atl := { s.atl with parked := s.atl.parked.dropWhile old } } : State).ringLess (gone.foldl (fun n e => n + e.1) 0)

/-! ### The map (R110 to R142) -/

/-- Key of an IU: pool × 2^40 + index. -/
def iuKey (pool iu : Nat) : Nat := pool * 2 ^ 40 + iu
/-- Key of the segment an IU lies in (R115). -/
def segOfIu (key : Nat) : Nat := key / 2 ^ 40 * 2 ^ 32 + key % 2 ^ 40 / 819

def State.poolOf (s : State) (p : Nat) : Option Pool := tabGet (fun _ => none) s.atl.pools p
def State.nsOf (s : State) (n : Nat) : Option Ns := tabGet (fun _ => none) s.atl.ns n
def State.segOf (s : State) (k : Nat) : Seg := tabGet (fun _ => Seg.reset) s.atl.seg k
def State.setSeg (s : State) (k : Nat) (x : Seg) : State :=
  { s with atl := { s.atl with seg := tabSet (fun _ => Seg.reset) s.atl.seg k x } }
def State.rawEnt (s : State) (key : Nat) : Ent := tabGet (fun _ => Ent.reset) s.atl.ent key
def State.setEnt (s : State) (key : Nat) (e : Ent) : State :=
  { s with atl := { s.atl with ent := tabSet (fun _ => Ent.reset) s.atl.ent key e } }

/-- A lookup (R123, R124): an entry of a DISCARDED segment reads UNMAPPED. -/
def State.lookup (s : State) (key : Nat) : Ent := if (s.segOf (segOfIu key)).discarded then Ent.reset else s.rawEnt key

/-- IU size of a pool in bytes (R110). -/
def Pool.iuBytes (p : Pool) : Nat := if p.iu4k then 4096 else 16384
/-- 4 KiB units of an IU. -/
def State.iuUnits (s : State) (key : Nat) : Nat :=
  match s.poolOf (key / 2 ^ 40) with
  | some p => if p.iu4k then 1 else 4
  | none => 4

/-- LBA size of a format (Table 12-4). -/
def lbaBytes (lbaf : Nat) : Nat := if lbaf < 2 then 512 else 4096

/-- IU keys a range of a namespace covers (R111), and the LBAs of an IU. -/
def State.lbasPerIu (s : State) (n : Ns) : Nat :=
  match s.poolOf n.pool with
  | some p => p.iuBytes / lbaBytes n.lbaf
  | none => 1
def State.iuOfLba (s : State) (n : Ns) (lba : Nat) : Nat := iuKey n.pool (n.base + lba / max 1 (s.lbasPerIu n))
/-- First LBA of the IU `key` within the namespace. -/
def State.lbaOfIu (s : State) (n : Ns) (key : Nat) : Nat := (key % 2 ^ 40 - n.base) * max 1 (s.lbasPerIu n)
/-- The IUs of a range of `n` > 0 LBAs. -/
def State.iusOf (s : State) (n : Ns) (lba count : Nat) : List Nat :=
  let a := s.iuOfLba n lba
  let z := s.iuOfLba n (lba + count - 1)
  (List.range (z + 1 - a)).map (fun k => a + k)

/-- Mask of the LBAs of IU `key` that a range covers. -/
def State.coverMask (s : State) (n : Ns) (key lba count : Nat) : Nat :=
  let first := s.lbaOfIu n key
  let l := max 1 (s.lbasPerIu n)
  (List.range l).foldl (fun m i => if lba ≤ first + i ∧ first + i < lba + count then m + 2 ^ i else m) 0
/-- Mask of all LBAs of an IU. -/
def State.fullMask (s : State) (n : Ns) : Nat := 2 ^ max 1 (s.lbasPerIu n) - 1

/-- A staging slot is superseded or released under Table 04-4. -/
def State.supersede (s : State) (a : Nat) : State :=
  match s.slotOf a with
  | some x => (s.setStage a (some { x with live := false })).freeSlot a
  | none => s

/-- What the valid count of a band reaching 0 does (Table 05-2, R173): CLOSED and VICTIM bands become DRAINED and leave the refresh queue.
MAP bands drain with the checkpoint passes. -/
def State.drainIf (s : State) (b : Nat) : State :=
  let x := s.bandRec b
  if x.valid = 0 ∧ (x.st = .closed ∨ x.st = .victim) ∧ x.cls < 2 then s.drainBand b else s

/-- The band of a map address. -/
def State.bandOfAddr (s : State) (addr : Nat) : Nat :=
  let d := addr / 2 ^ 25
  match s.profileOf d with
  | some p => s.bandOf d (addr % 2 ^ 25 / max 1 (p.pages * p.planes))
  | none => 128 * 0 + dieGroup d
/-- Page and plane of a map address. -/
def State.pageOfAddr (s : State) (addr : Nat) : Nat :=
  match s.profileOf (addr / 2 ^ 25) with
  | some p => addr % 2 ^ 25 / max 1 p.planes % max 1 p.pages
  | none => 0
def State.planeOfAddr (s : State) (addr : Nat) : Nat :=
  match s.profileOf (addr / 2 ^ 25) with
  | some p => addr % 2 ^ 25 % max 1 p.planes
  | none => 0

/-- The valid count of a band lowered or raised by an IU (R130). -/
def State.validDown (s : State) (addr units : Nat) : State :=
  let b := s.bandOfAddr addr
  let x := s.bandRec b
  (s.setBand b { x with valid := x.valid - units }).drainIf b
def State.validUp (s : State) (addr units : Nat) : State :=
  let b := s.bandOfAddr addr
  let x := s.bandRec b
  s.setBand b { x with valid := x.valid + units }

/-- What replacing an old value does to it (Table 04-4): its band's count, or its staging slot. -/
def State.leaveOld (s : State) (key : Nat) (old : Ent) : State :=
  match old.st with
  | .mapped => s.validDown old.addr (s.iuUnits key)
  | .staged => s.supersede old.addr
  | .unmapped | .poisoned => s

/-- A table with the entries of one segment replaced. -/
def replaceSeg (m : Tab Ent) (k : Nat) (l : List (Nat × Ent)) : Tab Ent :=
  l.foldl (fun m e => tabSet (fun _ => Ent.reset) m e.1 e.2) (m.filter (fun e => decide (segOfIu e.1 ≠ k)))

/-- The sweep of one DISCARDED segment (R139): the effects of Table 04-4 for each entry, the segment written as UNMAPPED, DISCARDED
clear. -/
def State.sweepSeg (s : State) (k : Nat) : State :=
  let mine := s.atl.ent.filter (fun e => decide (segOfIu e.1 = k))
  let s := mine.foldl (fun s e => (s.leaveOld e.1 e.2).setEnt e.1 Ent.reset) s
  let s := s.setSeg k { s.segOf k with discarded := false, wbSeq := s.atl.jseq }
  { s with atl := { s.atl with copy := replaceSeg s.atl.copy k [] } }

/-! ### Segments: images, DRAM copies, the directory (R115 to R122) -/

/-- DRAM channels of a mask, ascending. -/
def chanList (m : Nat) : List Nat := (List.range 12).filter (maskBit m)

/-- The DRAM channel of a segment: its pool's mask in rotation, or where a rebuild put it (log entry 13). -/
def State.segChan (s : State) (k : Nat) : Nat :=
  let x := s.segOf k
  if x.chan ≠ 0 then x.chan - 1
  else
    let m := ((s.poolOf (k / 2 ^ 32)).map Pool.mask).getD 0
    let l := chanList m
    l.getD (k % 2 ^ 32 % max 1 l.length) 0

/-- The DRAM address of a segment (R116). -/
def State.segAddr (s : State) (k : Nat) : Nat := Config.segAddr k (s.segChan k) (s.segOf k).moved

/-- The 4 KiB image of a segment with these entries (R115): entry i at byte 5 i, least significant byte first, unlisted ones and those
beyond the pool's capacity UNMAPPED; byte 4,095 SEG_GEN. -/
def segImage (k gen : Nat) (l : List (Nat × Ent)) : List Nat :=
  (List.range 819).flatMap (fun i =>
    bytesLe 5 (tabGet (fun _ => Ent.reset) l (k / 2 ^ 32 * 2 ^ 40 + k % 2 ^ 32 * 819 + i)).word) ++ [gen % 256]

/-- The entries of a segment. -/
def State.segEnts (s : State) (k : Nat) : List (Nat × Ent) :=
  if (s.segOf k).discarded then [] else s.atl.ent.filter (fun e => decide (segOfIu e.1 = k))

def State.atlEng (s : State) (e : Nat) : AtlEng := tabGet (fun _ => AtlEng.mk [] []) s.atl.eng e
def State.setAtlEng (s : State) (e : Nat) (x : AtlEng) : State :=
  { s with atl := { s.atl with eng := tabSet (fun _ => AtlEng.mk [] []) s.atl.eng e x } }
def State.dirOf (s : State) (k : Nat) : Dir := tabGet (fun _ => Dir.uncached) s.atl.dir k
def State.setDir (s : State) (k : Nat) (x : Dir) : State :=
  { s with atl := { s.atl with dir := tabSet (fun _ => Dir.uncached) s.atl.dir k x } }

/-- A write-back of the segment awaits its ACK (R121). -/
def State.wbPending (s : State) (k : Nat) : Option WBack := s.atl.writes.find? (fun w => decide (w.seg = k))

/-- A snoop is pending for the segment: its requester. -/
def State.snoopOf (s : State) (k : Nat) : Option Nat := (s.atl.snoops.find? (fun p => decide (p.1 = k))).map Prod.snd

/-- A write-back starts (R119, R122): its journal position and what it writes are taken. -/
def State.startWb (s : State) (engine seg : Nat) : State :=
  { s with atl := { s.atl with writes := s.atl.writes ++ [⟨seg, engine, s.atl.jseq, false, false, s.segEnts seg⟩] } }

/-- The Atlas engine that serves a segment (R118, Table 04-14): steering slot (segment number mod 64). -/
def State.steer (s : State) (k : Nat) : Nat :=
  let n := k % 2 ^ 32 % 64
  bits (s.rg .ATL_STEER (n / 8)) (4 * (n % 8) + 3) (4 * (n % 8))

/-- Segments an engine holds or has been granted (R117). -/
def State.grantedTo (s : State) (e : Nat) : Nat :=
  (s.atl.dir.filter (fun x => decide (x.2 = .held e))).length + (s.atl.snoops.filter (fun p => decide (p.2 = e))).length

/-- Room for one more segment in an engine's cache (R117, R119): with 128 granted, the oldest CLEAN one leaves at once, else the oldest DIRTY
one goes to an eviction buffer (which is evicted is the model's choice, log entry 53). -/
def State.makeRoom (s : State) (e : Nat) : Option State :=
  if s.grantedTo e < 128 then some s
  else
    let g := s.atlEng e
    let mine := g.held.filter (fun h => decide (s.dirOf h.seg = .held e) && (s.snoopOf h.seg).isNone && (s.wbPending h.seg).isNone)
    let drop := fun (h : Held) => s.setAtlEng e { g with held := g.held.filter (fun x => decide (x.seg ≠ h.seg)) }
    match mine.find? (fun h => !h.dirty) with
    | some h => some ((drop h).setDir h.seg .uncached)
    | none =>
      match mine.head? with
      | none => none
      | some h =>
        if 4 ≤ g.bufs.length then none
        else
          let s := (drop h).setAtlEng e { held := g.held.filter (fun x => decide (x.seg ≠ h.seg)), bufs := g.bufs ++ [⟨h.seg, true, false, false⟩] }
          some ((s.startWb e h.seg).setDir h.seg (.evicting e))

/-- A request for a segment reaches engine `e` (R118, Table 04-3): GET, the load or the snoop, and the answer to it, all of them within the
request (R123). While messages for the segment are under way, its engine fenced, or the segment under recovery, it stays where it is. -/
def State.obtain (s : State) (k e : Nat) : State :=
  let take := fun (s : State) (dirty : Bool) =>
    let g := s.atlEng e
    (s.setAtlEng e { g with held := g.held ++ [⟨k, dirty, s.now⟩] }).setDir k (.held e)
  if s.fenced 0x040 e ∨ (s.snoopOf k).isSome ∨ s.atl.recovering.contains k then s
  else match s.dirOf k with
  | .held h =>
    if h = e then
      if (s.atlEng e).held.any (fun x => decide (x.seg = k)) then s else take s false
    else
      match s.makeRoom e with
      | none => s
      | some s =>
        let g := s.atlEng h
        let dirty := g.held.any (fun x => decide (x.seg = k) && x.dirty)
        take (s.setAtlEng h { g with held := g.held.filter (fun x => decide (x.seg ≠ k)) }) dirty
  | .evicting _ => match s.makeRoom e with
    | none => s
    | some s => take s true
  | .uncached => match s.makeRoom e with
    | none => s
    | some s => take s false

/-- The segment's DIRTY mark in its holder (R122); a write-back under way does not clear it. -/
def State.markDirty (s : State) (k : Nat) : State :=
  match s.dirOf k with
  | .held e =>
    let g := s.atlEng e
    let s := s.setAtlEng e { g with held := g.held.map (fun h => if h.seg = k ∧ !h.dirty then { h with dirty := true, since := s.now } else h) }
    { s with atl := { s.atl with writes := s.atl.writes.map (fun (w : WBack) => if w.seg = k then { w with redirtied := true } else w) } }
  | _ => s

/-- An update is put in by the engine that holds its segment (R126): the segment swept first where it stands DISCARDED (R139), the old
value left, the new one in place. -/
def State.putEnt (s : State) (key : Nat) (e : Ent) : State :=
  let k := segOfIu key
  let s := if (s.segOf k).discarded then s.sweepSeg k else s
  let s := s.leaveOld key (s.rawEnt key)
  (s.setEnt key e).markDirty k

/-- An update that cannot be applied yet queues, in order of arrival (R126, R148). -/
def State.queueUpd (s : State) (u : QUpd) : State := { s with atl := { s.atl with queued := s.atl.queued ++ [u] } }

/-- The segment of an IU is under recovery. -/
def State.inRecovery (s : State) (key : Nat) : Bool := s.atl.recovering.contains (segOfIu key)

/-- The segments an update is to. -/
def QUpd.segs (u : QUpd) : List Nat :=
  match u.kind with
  | 0 => (u.items.map (fun x => segOfIu x.1)).dedup
  | 3 => [u.key]
  | _ => [segOfIu u.key]

/-- An earlier update to the segment still waits, or the segment is recovered: updates to it wait behind (R126, R148). -/
def State.segWaits (s : State) (k : Nat) : Bool := s.atl.recovering.contains k || s.atl.queued.any (fun u => u.segs.contains k)

/-- The segment is held by an engine and in its cache (R117). -/
def State.holds (s : State) (k e : Nat) : Bool := decide (s.dirOf k = .held e) && (s.atlEng e).held.any (fun h => decide (h.seg = k))

/-- One engine obtains every segment of an update, in rising order (R118, R126, R143): the engine that serves the lowest of them. None
where an update waits: for a recovery, an earlier update, a snoop under way, room in the cache, or a steering slot of a fenced engine. -/
def State.readySegs (s : State) (l : List Nat) : Option State :=
  if l.any s.segWaits then none
  else
    let l := l.mergeSort (fun a b => decide (a ≤ b))
    let e := s.steer (l.headD 0)
    let t := l.foldl (fun (s : State) k => s.obtain k e) s
    if l.all (fun k => t.holds k e) then some t else none

/-- Swaps of one journal record, each engine update applied by the holder of its segment and the record written (R126, R143, R144). -/
def State.putAll (s : State) (ty : Nat) (items : List (Nat × Ent × Nat)) : State :=
  let s := items.foldl (fun (s : State) x => s.putEnt x.1 x.2.1) s
  match items with
  | [] => s
  | x :: _ =>
    if ty = 3 then s.journal 3 (x.1 / 2 ^ 40) (x.1 % 2 ^ 40) items.length []
    else s.journal ty (x.1 / 2 ^ 40) (x.1 % 2 ^ 40) 0 (items.map (fun y => (y.1 % 2 ^ 40, y.2)))

/-- HOST_STAGE, DISCARD and POISON: unconditional swaps (Table 04-4), all or none of those of one record, under the epochs of their
operations (R128). -/
def State.swapAll (s : State) (ty : Nat) (items : List (Nat × Ent × Nat)) : State :=
  if items.isEmpty then s
  else
    let u : QUpd := ⟨0, (items.map Prod.fst).headD 0, ty, 0, items, 0⟩
    match s.readySegs u.segs with
    | some t => t.putAll ty items
    | none => s.queueUpd u

/-- The entry of an IU once every update that waits has been applied: what an assembly slot opened now has as its previous value (R132). -/
def State.pendingEnt (s : State) (key : Nat) : Ent :=
  let l := s.atl.queued.filterMap (fun u =>
    if u.kind = 0 then (u.items.find? (fun x => decide (x.1 = key))).map (fun x => x.2.1)
    else if u.kind = 3 ∧ u.key = segOfIu key then some Ent.reset else none)
  l.getLastD (s.lookup key)

/-- A segment is discarded whole (R138): DISCARDED set in its descriptor; one that an engine holds is zeroed there and so DIRTY; one
record. -/
def State.discardNow (s : State) (k : Nat) : State :=
  ((s.setSeg k { s.segOf k with discarded := true }).markDirty k).journal 0x04 (k / 2 ^ 32) (k % 2 ^ 32) 1 []

/-- It waits behind earlier updates to the segment, and for its recovery. -/
def State.discardSeg (s : State) (k : Nat) : State :=
  if s.segWaits k then s.queueUpd ⟨3, k, 0, 0, [], 0⟩ else s.discardNow k

/-- A failed compare-and-swap (R127). -/
def State.casFail (s : State) : State := s.bump F.ATL_CAS_FAIL_COUNT 0 1

/-- The epoch of the die operation that produced data at an address (R98, R128): that under which the program of its position passed; of one
whose end has not been seen, that of the program on its die, else the die's. -/
def State.dataEpoch (s : State) (addr : Nat) : Nat :=
  let a := addr % 2 ^ 36
  let d := a / 2 ^ 25
  match tabGet (fun _ => 0) (s.bandRec (s.bandOfAddr a)).epochs (16 * s.pageOfAddr a + dieSheet d) with
  | e + 1 => e
  | 0 => match tabGet (fun _ => none) s.plt.running d with
  | some r => if r.op.kind = 1 then r.op.epoch else tabGet (fun _ => 0) s.plt.dieEpoch d
  | none => tabGet (fun _ => 0) s.plt.dieEpoch d

/-- A MAPPED entry from an address with its quarter above it (bits [37:36]). -/
def mappedAt (a : Nat) : Ent := ⟨.mapped, a % 2 ^ 36, a / 2 ^ 36 % 4⟩

/-- PROGRAM_DONE (Table 04-4, R129, R130): STAGED(a) → MAPPED(p). -/
def State.programDone (s : State) (key a p epoch : Nat) : State :=
  let e := s.lookup key
  let dropProg := fun (s : State) =>
    match s.slotOf a with
    | some x => (s.setStage a (some { x with progs := x.progs - 1 }))
    | none => s
  if e.st = .staged ∧ e.addr = a then
    let s := (dropProg s).putEnt key (mappedAt p)
    (s.validUp (p % 2 ^ 36) (s.iuUnits key)).journalSet 2 key (mappedAt p) epoch
  else ((dropProg s).supersede a).casFail

/-- RELOCATE (Table 04-4): MAPPED(p_old) → MAPPED(p_new), all 40 bits of the old entry compared (R126). -/
def State.relocateEnt (s : State) (key old new epoch : Nat) : State :=
  if s.lookup key = mappedAt old then
    let s := s.putEnt key (mappedAt new)
    (s.validUp (new % 2 ^ 36) (s.iuUnits key)).journalSet 2 key (mappedAt new) epoch
  else s.casFail

/-- RELOCATE as it arrives: it queues where its segment cannot be held yet (R126, R148). -/
def State.relocate (s : State) (key old new : Nat) : State :=
  let ep := s.dataEpoch new
  match s.readySegs [segOfIu key] with
  | some t => t.relocateEnt key old new ep
  | none => s.queueUpd ⟨2, key, old, new, [], ep⟩

/-- The LBA poison mask of an IU (R137). -/
def State.poisonMask (s : State) (key : Nat) : Nat := tabGet (fun _ => 0) s.atl.poison key
def State.setPoison (s : State) (key m : Nat) : State :=
  { s with atl := { s.atl with poison := tabSet (fun _ => 0) s.atl.poison key m } }

/-- An open assembly slot of an IU (R132). -/
def State.asmOf (s : State) (key : Nat) : Option Assembly := s.atl.asm.find? (fun a => decide (a.iu = key))
def State.dropAsm (s : State) (key : Nat) : State :=
  { s with atl := { s.atl with asm := s.atl.asm.filter (fun a => decide (a.iu ≠ key)) } }

/-! ### Stripe journal slots (R190 to R193) -/

def State.jslot (s : State) (k : Nat) : Slot := tabGet (fun _ => Slot.reset) s.par.slot k

/-- Slots in use, and their percentage of 3,583 (R193). -/
def State.slotsUsed (s : State) : Nat := (s.par.slot.filter (fun e => decide (e.2.st ≠ .free))).length
def slotPct (n : Nat) : Nat := n * 100 / 3583

/-- The entry header (Table 06-2) but for its CRC, and the CRC (R190). -/
def Slot.head (x : Slot) : List Nat :=
  let st := match x.st with | .free => 0 | .filling => 1 | .parity => 2 | .short => 3 | .reserved => 4
  [st, x.cls % 256, x.wb % 256, x.planes % 256] ++ bytesLe 4 (x.band % 2 ^ 24) ++ bytesLe 2 x.row ++ bytesLe 2 x.sheets
    ++ bytesLe 2 x.folded ++ bytesLe 2 x.written ++ [x.pSheet % 256, x.qSheet % 256, x.copy % 2, 0] ++ bytesLe 2 x.layoutGen ++ [0, 0]
    ++ bytesLe 8 x.sseq ++ ((List.range 16).map (fun k => bytesLe 2 (x.epochs.getD k 0))).flatten ++ zeros 60
def Slot.headCrc (x : Slot) : Nat := crc32 x.head

/-- A slot written, its header with its CRC (R192); the watermark follows the number in use (R193). -/
def State.setJslot (s : State) (k : Nat) (x : Slot) : State :=
  let before := s.slotsUsed
  let x := if x.st = .free then x else { x with crc := x.headCrc }
  let s := { s with par := { s.par with slot := tabSet (fun _ => Slot.reset) s.par.slot k x } }
  let s := { s with par := { s.par with slotsOut := s.par.slotsOut || decide (3583 ≤ s.slotsUsed) } }
  let l := s.fld F.PAR_JRNL_WM_LEVEL_PCT 0
  if slotPct before < l ∧ l ≤ slotPct s.slotsUsed then
    (s.bump F.PAR_JRNL_WM_COUNT 0 1).event F.PAR_JRNL_WM_CROSSED 0 0
  else s

/-- Slots of one band that are not FREE. -/
def State.slotsOfBand (s : State) (b : Nat) : List (Nat × Slot) :=
  s.par.slot.filter (fun e => decide (e.2.st ≠ .free ∧ e.2.band = b))

/-- Debt of filler programs of a band, one page on each of the sheets `l` (R174, R188): one of the pages of a program unit. -/
def State.oweFiller (s : State) (b : Nat) (l : List Nat) : State :=
  l.foldl (fun (s : State) sh =>
    let d := 128 * sh + b % 128
    match s.profileOf d with
    | some p => if s.usableFor (b % 128) sh then s.oweDie d (ceilDiv p.tPROG (max 1 p.bpc)) else s
    | none => s) s

/-- A stripe that is FILLING is closed short (R213): its unfolded positions become PAD; positions on the sheets that left,
folded and not written, are erasures, and their staged IUs stay STAGED to be placed again. -/
def State.closeShort (s : State) (k gone : Nat) : State :=
  let x := s.jslot k
  if x.st ≠ .filling then s
  else
    let data := (maskList x.sheets).filter (fun sh => decide (sh ≠ x.pSheet ∧ sh ≠ x.qSheet))
    let pad := data.foldl (fun m sh => if maskBit x.folded sh then m else maskSet m sh) 0
    let era := data.foldl (fun m sh =>
      if maskBit x.folded sh && !maskBit x.written sh && maskBit gone sh then maskSet m sh else m) 0
    -- the programs of the IUs lost with a sheet are in flight no more: they are placed again (R213)
    let lost := (x.from_.filter (fun e => maskBit era e.1)).map Prod.snd
    let s := lost.foldl (fun (s : State) a => match s.slotOf a with
      | some y => s.setStage a (some { y with progs := y.progs - 1 })
      | none => s) s
    let s := s.setJslot k { x with st := .short, from_ := x.from_.filter (fun e => !maskBit era e.1) }
    let b := s.bandRec x.band
    let s := s.setBand x.band { b with short := (x.row, pad, era) :: b.short }
    (s.oweFiller x.band ((maskList pad).filter (fun sh => !maskBit gone sh))).event F.PAR_EVENTS_SHORT_STRIPE 0 x.band

/-- A band is current (R205). -/
def State.current (s : State) (b : Nat) : Bool := decide ((s.bandRec b).sheets = s.groupSheets (b % 128))

/-- An OPEN band is closed (R174, R189, R212, R213): the open stripes close short, the rows left are padded and the footer, a copy of the
band record, is programmed; the close stamp is the Datum time, none while it is UNSET (R163). -/
def State.closeBand (s : State) (b gone : Nat) : State :=
  let s := (s.slotsOfBand b).foldl (fun s e => s.closeShort e.1 gone) s
  let x := s.bandRec b
  if x.st ≠ .opened then s
  else
    let y : Band := { x with st := .closed, closedAt := if s.dat.unset then none else some s.datumTime }
    let s := s.moveBand b y
    let s := (List.range (x.pages - x.nextRow)).foldl (fun (s : State) _ => s.oweFiller b ((maskList x.sheets).filter (fun sh => !maskBit gone sh))) s
    let s := { s with svy := { s.svy with footer := tabSet (fun _ => none) s.svy.footer b (some (s.atl.jseq, y)) } }
    -- the readable IUs of its lost rows are relocated with it (R203 step 1)
    (if y.lost.isEmpty then s else s.queueRefresh b 3 true).drainIf b

/-- An OPEN band closed in the course of things. One that no longer suits the layout is taken by the sweep: no CLOSED band below the frontier
is left behind (R206). -/
def State.closeFull (s : State) (b gone : Nat) : State :=
  let s := s.closeBand b gone
  if (s.bandRec b).st = .closed ∧ s.current b = false then
    { s with par := { s.par with frontier := if s.par.sweep then min s.par.frontier b else b, sweep := true } }
  else s

/-- Bands with a member on the dies that `p` names and that are not FREE or RETIRED. -/
def State.bandsWith (s : State) (p : Nat → Bool) : List Nat :=
  (s.svy.band.filter (fun e => decide (e.2.st ≠ .free ∧ e.2.st ≠ .retired)
    && (maskList e.2.sheets).any (fun sh => p (128 * sh + e.1 % 128)))).map Prod.fst

/-! ### The staging budget (R501, R503, R505) -/

/-- Bytes of the journals of a dump (R499). -/
def dumpJournals : Nat := 998564864
/-- The staging region (Table 14-5). -/
def stagingRegionFull : Nat := 16 * 2 ^ 30
/-- The staging region keeps its size only when the remaining DRAM channels hold it (R453). -/
def State.stagingRegion (s : State) : Nat :=
  min stagingRegionFull ((12 - s.fencedCount 0x070) * s.fld F.DRC_CFG_GIB_PER_CH 0 * 2 ^ 30)

/-- The HOLDUP bands of a group, of one set (R501). -/
def State.holdBands (s : State) (g : Nat) : List (Nat × Band) :=
  s.svy.band.filter (fun e => decide (e.1 % 128 = g ∧ e.2.cls = 3 ∧ e.2.st ≠ .retired))
def State.holdBand (s : State) (g set : Nat) : Option (Nat × Band) := (s.holdBands g).find? (fun e => decide (e.2.hset = set))

/-- SLC capacity of a HOLDUP band (R501). -/
def State.slcBytes (s : State) (g : Nat) (x : Band) : Nat :=
  (x.wb - 2) * x.slcPages * x.planes * 16384

/-- C_armed (R501): the FREE bands of the armed set. -/
def State.cArmed (s : State) : Nat :=
  (List.range 128).foldl (fun n g => match s.holdBand g s.pwr.armedSet with
    | some e => if e.2.st = .free then n + s.slcBytes g e.2 else n
    | none => n) 0

/-- Groups with an armed HOLDUP band. -/
def State.armedGroups (s : State) : Nat := countBelow 128 (fun g => (s.holdBand g s.pwr.armedSet).any (fun e => decide (e.2.st = .free)))

/-- BUDGET of an energy in mJ (R503). -/
def State.budgetOf (s : State) (e : Nat) : Nat :=
  let ns := countBelow 16 s.sheetUsable
  if ns = 0 then 0
  else
    let fix := s.fld F.PWR_HOLD_CFG_E_FIXED_MJ 0
    let flush := s.fld F.PWR_HOLD_CFG_E_FLUSH_PJ 0
    let b := (7 * e * ns - 160 * fix) * 10 ^ 9 / (10 * ns * max 1 flush)
    let b := min b (min (min (16 * 2 ^ 30) s.stagingRegion) (s.cArmed - dumpJournals))
    b / 16384 * 16384

/-- A new budget (R503, R505): BUDGET_DROP where it lies below the staging in use. -/
def State.setBudget (s : State) (b : Nat) : State :=
  let s := { s with pwr := { s.pwr with budget := b } }
  if b < s.pwr.stagingUse then s.event F.PWR_EVENTS_BUDGET_DROP 0 0 else s

/-- The budget recomputed (R505), at a layout change or the fence of a staging channel: from the last passed test; while a test has lowered
it, B_test, and the budget that applies when the bank has recharged. After a failed test it stays 0 (R502). -/
def State.recomputeBudget (s : State) : State :=
  if !s.pwr.tested ∨ s.pwr.failed then s
  else match s.pwr.test.phase with
    | .idle | .steady => if s.pwr.cPrev.isSome then s.setBudget (s.budgetOf s.pwr.eMeasured) else s
    | .draining | .discharging => s.setBudget (s.budgetOf s.pwr.test.eTest)
    | .recharging =>
      let s := { s with pwr := { s.pwr with test := { s.pwr.test with newBudget := s.budgetOf s.pwr.eMeasured } } }
      s.setBudget (s.budgetOf s.pwr.test.eTest)

end Sys2Proof.Machine
end

