-- ==== Sys2Proof/Machine/OpsPlot.lean ====
section
/-! DEFINITION. The Plotter's planning (R57 to R97): costs, limits, bookings, direct and detour plans, write bookings and the
floors of Table 03-6. Bounds are held exactly, in units q of 1/55,440 ns, which divides every term (log entry 11). -/

set_option linter.unusedVariables false

namespace Sys2Proof.Machine

/-- q in a microsecond, in 1/16 µs, in a clock tick, in a frame. -/
def qUs : Nat := 55440000
def q16 : Nat := 3465000
def qTick : Nat := 69300
def qFrame : Nat := 55440000000

/- Fixed path terms (Table 03-3, R224). -/
def tAdmMax : Nat := 2 * qUs
def tHand : Nat := qUs / 2
def tBnd : Nat := 17740800
def tCiph : Nat := qUs
def tLink : Nat := qUs / 2
def tPar : Nat := 2 * qUs
def tStage : Nat := qUs
def tAllow : Nat := 10 * qUs
def tPost : Nat := qUs
def tCA : Nat := 8870400

/-- T_CIPH of a namespace's reads: 1.40 µs while a rekey of one in LBAF 1 runs (R478). -/
def State.ciphQ (s : State) (nsid : Nat) : Nat :=
  match s.nsOf nsid with
  | some n => if n.lbaf = 1 ∧ (tabGet (fun _ => KSlot.reset) s.cip.slot n.slot).shadow.isSome then tCiph * 14 / 10 else tCiph
  | none => tCiph

/-- Rates of Table 07-2 in MT/s. -/
def rateMTs (code : Nat) : Nat :=
  [10, 800, 1200, 1600, 2000, 2400, 2400, 3200, 3600, 4000, 4400, 4800].getD code 10

/-- t_XFER of `bytes` on channel `c` (R224). -/
def State.xferQ (s : State) (c bytes : Nat) : Nat := bytes * (qUs / rateMTs (s.chan c).rate) + tCA

/-- t_HOST of `bytes` through a port of `rate` sixteenths of a GB/s. -/
def hostQ (rate bytes : Nat) : Nat := if rate = 0 then 0 else bytes * 16 * 55440 / rate

/-- Decode times per codeword in ns (Table 09-1). -/
def hardNs (code : Nat) : Nat := match code with | 1 => 750 | 2 => 900 | 3 => 500 | _ => 0
def softNs (code reads : Nat) : Nat :=
  match code, reads with
  | 1, 2 => 1500 | 1, _ => 1875 | 2, 2 => 1750 | 2, _ => 2200 | 3, 2 => 1000 | 3, _ => 1250 | _, _ => 0
/-- L_CW of a code (Table 09-1). -/
def cwBytes (code : Nat) : Nat := match code with | 1 => 4608 | 2 => 4704 | 3 => 4352 | _ => 0
/-- SPARE_BYTES of a code. -/
def spareOf (code : Nat) : Nat := match code with | 1 => 2048 | 2 => 2432 | 3 => 1024 | _ => 0

/-- Rounding up once to a whole 1/16 µs (R66). -/
def unitsOf (q : Nat) : Nat := ceilDiv q q16

/-- κ_k × 1,000 (Table 17-4). -/
def kappaStep (k : Nat) : Nat := [1000, 950, 900, 700, 500, 400, 250, 100].getD k 100

/-! ### Limits (R60, R92) -/

/-- A time limit per frame: the smaller of the two terms of R92. -/
def State.timeLimit (s : State) (base recon hk : Nat) : Nat :=
  let th := s.plt.thNow
  min (base * (1000 - hk - th - recon) / 1000) (base * (1000 - hk - recon) * kappaStep s.plt.step / 1000000)

/-- HK and RECON_g in force (R91). -/
def State.hk (s : State) : Nat := s.plt.hkNow
def State.recon (s : State) (g : Nat) : Nat := tabGet (fun _ => 20) s.plt.reconNow g
/-- The largest RECON_g over the 16 groups of a channel's dies (R60). -/
def State.chanRecon (s : State) (c : Nat) : Nat :=
  (List.range 16).foldl (fun m k => max m (s.recon ((16 * c + k) % 128))) 0

/-- A sheet's ladder limit (R95, R311): LADDER_10MA, or a smaller I_MAX of the sheet's identity record that is not 0. -/
def State.ladderLimit (s : State) (sheet : Nat) : Nat :=
  let b := tabGet (fun _ => Bay.reset) s.bays sheet
  let l := s.fld F.PLT_SHEET_PWR_LADDER_10MA sheet
  let i := le b.id 28 2
  if b.idValid && decide (i ≠ 0) then min l i else l

/-- The limit of a per-frame resource (Table 03-1, R60, R92, R105, R466), and of a start-ladder window (R95). Resources 12 and 13 are die
and channel time of a detour of a quiet die, for which the housekeeping share is bookable. -/
def State.limit (s : State) (res idx : Nat) : Nat :=
  match res with
  | 0 => s.timeLimit 16000 (s.recon (dieGroup idx)) s.hk
  | 12 => s.timeLimit 16000 (s.recon (dieGroup idx)) 0
  | 1 => s.timeLimit 16000 (s.chanRecon idx) s.hk * s.cip.kappa / 1000
  | 13 => s.timeLimit 16000 (s.chanRecon idx) 0 * s.cip.kappa / 1000
  | 2 => s.timeLimit (64 * 16000) 0 s.hk
  | 3 => s.timeLimit (64 * 16000) 0 s.hk
  | 4 => (s.port idx).rateUsed * 62500 * s.cip.kappa / 1000
  | 5 => (s.port idx).rateUsed * 62500
  | 6 => s.fld F.PLT_SHEET_PWR_SHEET_TOKENS idx
  | 7 => let t := s.fld F.PLT_ENVELOPE_TOTAL_TOKENS 0; if s.plt.capPs1 then min t 10000 else t
  | 10 => if idx < 2048 then 16 * s.recon (dieGroup idx) else 16 * s.chanRecon (idx - 2048)
  | 11 => s.ladderLimit idx
  | _ => 0

/-- A die of the quiet slot in force, in a frame of the slot (R105). -/
def State.quietDie (s : State) (d frame : Nat) : Bool :=
  decide (s.plt.quiet = some (dieChan d) ∧ frame < s.plt.frame + s.plt.quietLeft)

/-- The limit in one frame: nothing is booked on the quiet dies of a slot (R105). -/
def State.limitAt (s : State) (res idx frame : Nat) : Nat :=
  if (res = 0 ∨ res = 12 ∨ (res = 10 ∧ idx < 2048)) ∧ s.quietDie idx frame then 0 else s.limit res idx

/-- The booking table of a resource. -/
def Plotter.tab (p : Plotter) (res : Nat) : Tab Nat :=
  match res with
  | 0 | 12 => p.die | 1 | 13 => p.chan | 2 => p.ldpc | 3 => p.parity | 4 => p.portIn | 5 => p.portOut | 6 => p.power
  | 7 => p.powerAll | 10 => p.recon | 11 => p.ladder | _ => []

/-- Units booked of a resource in a frame, or in a start-ladder window. -/
def Plotter.booked (p : Plotter) (res idx frame : Nat) : Nat := tabGet (fun _ => 0) (p.tab res) (Booking.key ⟨res, idx, frame, 0⟩)

/-- Room left in a frame. -/
def State.room (s : State) (res idx frame : Nat) : Nat := s.limitAt res idx frame - s.plt.booked res idx frame

/-- Ticks of a start-ladder window (R95), and the window a tick lies in. -/
def ladderTicks : Nat := 10 * usTicks
def windowOf (tick : Nat) : Nat := tick / ladderTicks

/-- The pool that serves a user (TIL_ROUTE, R432). -/
def State.route (s : State) (u : Nat) : Nat := bits (s.rg .TIL_ROUTE 0) (4 * u + 2) (4 * u)

/-- Reserves `n` tiles of a pool (R436, R437); the Plotter's limit is the smaller of size and target (R434). -/
def State.reserveTiles (s : State) (p n : Nat) : Option State :=
  match s.til.pool[p]? with
  | some t =>
    if n ≤ t.avail ∧ t.inUse + t.reserved + n ≤ min t.size t.limit then some (s.setTPool p { t with reserved := t.reserved + n })
    else none
  | none => none

/-- A booking lies within the horizon: frames 0 to 63, or a ladder window not yet past. -/
def State.inHorizon (s : State) (b : Booking) : Bool :=
  if b.res = 11 then decide (windowOf s.now ≤ b.frame) else decide (s.plt.frame ≤ b.frame ∧ b.frame ≤ s.plt.frame + 63)

/-- One booking tested against its limit and added (R61): nothing where it does not fit, or lies beyond frame 63. -/
def State.book1 (s : State) (b : Booking) : Option State :=
  if b.units = 0 then some s
  else if b.res = 8 then s.reserveTiles b.idx b.units
  else if b.res = 9 then
    if s.pwr.stagingUse + b.units ≤ s.plt.stagingNow then
      some { s with pwr := { s.pwr with stagingUse := s.pwr.stagingUse + b.units } }
    else none
  else if !s.inHorizon b then none
  else if s.limitAt b.res b.idx b.frame < s.plt.booked b.res b.idx b.frame + b.units then none
  else some { s with plt := s.plt.apply true b }

/-- A list of bookings, all or none. -/
def State.bookAll (s : State) : List Booking → Option State
  | [] => some s
  | b :: rest => (s.book1 b).bind (fun t => t.bookAll rest)

/-! ### Shares over frames (R58, R94) -/

/-- Units reached at `t` of `n` units spread over `len` from `start`, rounded up and never beyond `n`. -/
def reached (n len start t : Nat) : Nat := if t ≤ start then 0 else if len = 0 then n else min n (ceilDiv (n * (t - start)) len)

/-- The shares of `n` units of a resource over the frames that `len` from `off` (q, from the start of the frame in
progress) touches. -/
def shares (frame0 res idx n len off : Nat) : List Booking :=
  let first := off / qFrame
  let last := (off + len) / qFrame
  ((List.range (last + 1 - first)).map (fun k =>
    let a := (first + k) * qFrame
    ({ res := res, idx := idx, frame := frame0 + first + k,
       units := reached n len off (a + qFrame) - reached n len off (max a off) } : Booking))).filter (fun b => decide (b.units ≠ 0))

/-- Energy of one operation in whole power tokens (R66, R94): `e` in 1/256 token, plus E_BYTE per KiB moved. -/
def tokensOf (p : Profile) (e bytes : Nat) : Nat := ceilDiv (e * 1024 + p.eByte * bytes) (256 * 1024)

/-! ### Die queues and closed windows (R63 to R70) -/

def State.dieQueue (s : State) (d : Nat) : List DieOp := tabGet (fun _ => []) s.plt.queue d
def State.runningOp (s : State) (d : Nat) : Option Running := tabGet (fun _ => none) s.plt.running d
def State.closedList (s : State) (d : Nat) : List Closed := tabGet (fun _ => []) s.plt.closed d
def State.setClosed (s : State) (d : Nat) (l : List Closed) : State :=
  { s with plt := { s.plt with closed := tabSet (fun _ => []) s.plt.closed d l } }

/-- A minimum run booked for the resume of an operation that still stands suspended does not close its die (R68, R70). -/
def State.standsOpen (s : State) (d : Nat) (w : Closed) : Bool :=
  decide (w.why = 3 ∧ w.from_ ≤ s.now) && ((s.runningOp d).map Running.suspended).getD false

/-- The closed windows of a die (R68): a suspended one is open. -/
def State.windows (s : State) (d : Nat) : List Closed := (s.closedList d).filter (fun w => !s.standsOpen d w)

/-- End of the closed window a die is in at `t` (R68). -/
def State.closedUntil (s : State) (d t : Nat) : Option Nat :=
  ((s.windows d).filter (fun c => decide (c.from_ ≤ t ∧ t < c.until_))).foldl
    (fun m c => some (max (m.getD 0) c.until_)) none

/-- Another member of the die's group has a closed window overlapping `len` ticks from `t` (R69): the latest end of one. -/
def State.groupClash (s : State) (d t len : Nat) : Option Nat :=
  (groupDies (dieGroup d)).foldl (fun m k =>
    if k = d then m
    else (s.windows k).foldl (fun m c =>
      if c.from_ < t + len ∧ t < c.until_ then some (max (m.getD 0) c.until_) else m) m) none

/-- Another member of the die's group waits for its named resume: no closed window begins on this one before it (R247). -/
def State.resumeAwaited (s : State) (d : Nat) : Bool :=
  !(s.dieOf d).resumeDue && (groupDies (dieGroup d)).any (fun k => decide (k ≠ d) && (s.dieOf k).resumeDue)

/-- End of the closed window other than a minimum run or a segment of a program or erase that a die is in at `t` (R68). -/
def State.shutUntil (s : State) (d t : Nat) : Option Nat :=
  ((s.closedList d).filter (fun c => decide (c.from_ ≤ t ∧ t < c.until_ ∧ c.why < 3))).foldl (fun m c => some (max (m.getD 0) c.until_)) none

/-- Closed windows to be entered, as offsets and lengths in ticks from `t`, meet one of another member of the group (R69): how far the
latest such window asks for a later start. -/
def State.runsClash (s : State) (d t : Nat) (l : List (Nat × Nat)) : Option Nat :=
  l.foldl (fun m w =>
    if w.2 = 0 then m
    else match s.groupClash d (t + w.1) w.2 with
      | some e => some (max (m.getD 0) (e - w.1))
      | none => m) none

/-- Closed windows may not begin on a die at `t` now (R69, R247). -/
def State.runsBarred (s : State) (d t : Nat) (l : List (Nat × Nat)) : Bool :=
  (s.runsClash d t l).isSome || (l.any (fun w => decide (w.2 ≠ 0)) && s.resumeAwaited d)

/-- The first start at or after `t` at which a list of closed windows fits R69: each turn leaves one window of the group behind. -/
def State.placeFrom (s : State) (d : Nat) (l : List (Nat × Nat)) : Nat → Nat → Nat
  | 0, t => t
  | fuel + 1, t => match s.runsClash d t l with
    | none => t
    | some e => s.placeFrom d l fuel (max e (t + 1))

/-- The turns `placeFrom` may need: one for each closed window of the group against each window placed. -/
def State.placeTurns (s : State) (d : Nat) (l : List (Nat × Nat)) : Nat :=
  1 + ((groupDies (dieGroup d)).map (fun k => (s.closedList k).length)).foldl (fun n k => n + k) 0 * max 1 l.length

/-- No window of a die begins before the resume that another member of its group awaits, nor in the minimum run that follows it (R247); the
resume comes when no other member is in a closed window. -/
def State.afterResume (s : State) (d t : Nat) : Nat :=
  if s.resumeAwaited d then
    let shut := (groupDies (dieGroup d)).foldl (fun m k => max m ((s.closedUntil k s.now).getD s.now)) s.now
    (groupDies (dieGroup d)).foldl (fun m k =>
      if (s.dieOf k).resumeDue then
        match s.runningOp k, s.profileOf k with
        | some r, some p => max m (shut + 50 * (if r.op.kind = 2 then p.minE else p.minP))
        | _, _ => m
      else m) (max t shut)
  else t

/-- The first start at or after `t` at which closed windows of a die can stand (R69, R247). -/
def State.placeRuns (s : State) (d t : Nat) (l : List (Nat × Nat)) : Nat := s.placeFrom d l (s.placeTurns d l) (s.afterResume d t)
/-- The same for one window of `len` ticks. -/
def State.placeClosed (s : State) (d len t : Nat) : Nat := s.placeRuns d t [(0, len)]

/-- The runs of segments a profile marks not suspendable (R68), from `ran` ticks into the operation on: offsets from there and
lengths. -/
def runWindows (segs : List (Nat × Bool)) (ran : Nat) : List (Nat × Nat) :=
  let r := segs.foldl (fun (a : Nat × List (Nat × Nat)) e =>
    let len := 50 * e.1
    let l := if e.2 then a.2
      else match a.2 with
        | (o, n) :: rest => if o + n = a.1 then (o, n + len) :: rest else (a.1, len) :: a.2
        | [] => [(a.1, len)]
    (a.1 + len, l)) (0, [])
  r.2.reverse.filterMap (fun w => if w.1 + w.2 ≤ ran then none else some (w.1 - ran, w.1 + w.2 - max w.1 ran))

/-- The segments of an operation of a kind. -/
def Profile.segs (p : Profile) (kind : Nat) : List (Nat × Bool) := if kind = 2 then p.eraseSeg else if kind = 1 then p.progSeg else []

/-- A closed window booked on a die. -/
def State.addClosed (s : State) (d from_ len why : Nat) : State :=
  if len = 0 then s else s.setClosed d (s.closedList d ++ [⟨from_, from_ + len, why, 0⟩])

/-- The closed windows of operation `op` of a die from `t` on (R69); those booked for it before that begin at `keep` or later are
replaced. -/
def State.addRuns (s : State) (d t op keep : Nat) (l : List (Nat × Nat)) : State :=
  let old := (s.closedList d).filter (fun c => decide (c.op ≠ op + 1 ∨ c.from_ < keep))
  s.setClosed d (old ++ (l.filter (fun w => decide (w.2 ≠ 0))).map (fun w => ⟨t + w.1, t + w.1 + w.2, 3, op + 1⟩))

/-- The die holds a program or erase that a read must suspend. -/
def State.mustSuspend (s : State) (d : Nat) : Bool :=
  match s.runningOp d with
  | some r => !r.suspended && decide (r.op.kind = 1 ∨ r.op.kind = 2)
  | none => false

/-- tSUS of the running operation, in 1/16 µs, 0 where no suspend is needed (R71). -/
def State.susUnits (s : State) (d : Nat) (p : Profile) : Nat :=
  match s.runningOp d with
  | some r => if r.suspended then 0 else if r.op.kind = 2 then p.tSUSE else if r.op.kind = 1 then p.tSUSP else 0
  | none => 0

/-- Ticks as q. -/
def ticksQ (t : Nat) : Nat := t * qTick

/-- What is left of a read that runs (Table 03-4), in q. -/
def State.readRemainder (s : State) (d : Nat) (p : Profile) (r : Running) : Nat :=
  p.tR * q16 + s.xferQ (dieChan d) r.op.bytes - ticksQ (s.now - r.start)

/-- Remainder of the running operation (Table 03-4), in q: a read, also one that runs under a suspended operation; a program or erase to
its next boundary, or to the end of the closed window it is in; else the end of a wake, ZQ, retraining or quiet window. -/
def State.remainder (s : State) (d : Nat) (p : Profile) : Nat :=
  let shut := match s.shutUntil d s.now with
    | some e => ticksQ (e - s.now)
    | none => 0
  match s.runningOp d with
  | none => shut
  | some r =>
    if r.suspended then
      match tabGet (fun _ => none) s.plt.reading d with
      | some x => max shut (s.readRemainder d p x)
      | none => shut
    else if r.op.kind = 1 ∨ r.op.kind = 2 then
      match s.closedUntil d s.now with
      | some e => ticksQ (e - s.now) + tBnd
      | none => tBnd
    else max shut (s.readRemainder d p r)

/-- I_PEAK fits a ladder window of a sheet (R95). -/
def State.ladderFits (s : State) (sheet window peak : Nat) : Bool :=
  decide (s.plt.booked 11 sheet window + peak ≤ s.ladderLimit sheet)

/-- Delay in ticks to the first ladder window that admits a start at or after `tick` (R65); none: the peak current exceeds the limit of
every window. A window nothing is booked in is reached within as many windows as the ladder lists. -/
def State.ladderDelay (s : State) (sheet tick peak : Nat) : Option Nat :=
  ((List.range (s.plt.ladder.length + 2)).find? (fun k => s.ladderFits sheet (windowOf tick + k) peak)).map (fun k =>
    if k = 0 then 0 else (windowOf tick + k) * ladderTicks - tick)

/-- The first delay from now, in q, at or after `d` at which the ladder admits a start (R65). -/
def State.ladderFrom (s : State) (sheet d peak : Nat) : Option Nat :=
  let tick := s.now + d / qTick
  (s.ladderDelay sheet tick peak).map (fun k => if k = 0 then d else ticksQ (tick + k - s.now))

/-- The die cost of every queued operation with an earlier latest start time than `latest`, and the remainder of the running one: the
first two parts of W_d (R65), in q. -/
def State.aheadQ (s : State) (d latest : Nat) (p : Profile) : Nat :=
  ((s.dieQueue d).filter (fun o => decide (o.latest < latest))).foldl (fun n o => n + o.cost * q16) (s.remainder d p)

/-- W_d for an operation with latest start `latest` (R65), in q; none where no ladder window ever admits it. -/
def State.waitQ (s : State) (d latest : Nat) (p : Profile) : Option Nat :=
  (s.ladderFrom (dieSheet d) (tHand + s.aheadQ d latest p) p.iPeak).map (fun x => x - tHand)

/-- The earliest latest start time that an operation planned now can be given: no earlier than its own start behind the operations that
precede it, one more turn for each of them. -/
def State.leastLatest (s : State) (d : Nat) (p : Profile) : Nat → Nat → Nat
  | 0, t => t
  | fuel + 1, t => s.leastLatest d p fuel (max t (s.now + (tHand + s.aheadQ d t p) / qTick))

/-- The places an operation planned now can take in a die queue, as latest start times, first to last (R80): the earliest, and one behind
each operation queued after it. -/
def State.places (s : State) (d : Nat) (p : Profile) : List Nat :=
  let t := s.leastLatest d p ((s.dieQueue d).length + 1) s.now
  t :: ((s.dieQueue d).filter (fun o => decide (t ≤ o.latest))).map (fun o => o.latest + 1)

/-- A die queue can take an operation of a latest start and a cost (R64): the cost is within the slack of every later one, and there is
room. -/
def State.slackOk (s : State) (d latest cost : Nat) (p : Profile) : Bool :=
  let q := s.dieQueue d
  let base := s.now + s.remainder d p / qTick
  let before := q.filter (fun o => decide (o.latest ≤ latest))
  let later := q.filter (fun o => decide (latest < o.latest))
  decide (q.length < 64) && (List.range later.length).all (fun i =>
    let ahead := (before ++ later.take i).foldl (fun n o => n + 50 * o.cost) 0
    decide (base + ahead + 50 * cost ≤ ((later[i]?).map DieOp.latest).getD 0))

/-- Insertion into a die queue of an operation booked in frames 0 or 1 (R63, R64), by its latest start. -/
def State.insertOp (s : State) (d : Nat) (op : DieOp) (p : Profile) : Option State :=
  let q := s.dieQueue d
  let q' := q.filter (fun o => decide (o.latest ≤ op.latest)) ++ op :: q.filter (fun o => decide (op.latest < o.latest))
  if s.slackOk d op.latest op.cost p then some { s with plt := { s.plt with queue := tabSet (fun _ => []) s.plt.queue d q' } } else none

/-- An operation that starts `off` q after the start of the frame in progress: in frames 0 and 1 it enters the die's queue; one booked
later enters it when its frame has come that near (R63). -/
def State.enqueue (s : State) (d off : Nat) (op : DieOp) (p : Profile) : Option State :=
  if off / qFrame < 2 then s.insertOp d op p
  else some { s with plt := { s.plt with later := s.plt.later ++ [(s.plt.frame + off / qFrame, d, op)] } }

def State.dieEpochOf (s : State) (d : Nat) : Nat := tabGet (fun _ => 0) s.plt.dieEpoch d
def State.fnEpoch (s : State) (f : Nat) : Nat := tabGet (fun _ => 0) s.plt.fnEpoch f

/-- A die operation of the device's own: no command, no window granted yet. -/
def State.newOp (s : State) (d kind cost latest : Nat) : DieOp :=
  { id := s.plt.nextOp, kind := kind, latest := latest, cost := cost, epoch := s.dieEpochOf d, window := 0, bytes := 0, cmd := none,
    fnEpoch := none, tiles := [], orphan := false, iu := 0, ref := .set 0, held := false, stale := false, col := 0, resume := [] }

/-- A die operation entered behind what is booked (R89: no further check of the ledger). One the queue cannot take yet waits outside it and
is tried again at each frame boundary (R63, R64); so does one for a quiet die, until the slot is over (R105). -/
def State.pushDieOp (s : State) (d : Nat) (op : DieOp) : State :=
  let s := { s with plt := { s.plt with nextOp := s.plt.nextOp + 1 } }
  if s.quietDie d s.plt.frame then { s with plt := { s.plt with later := s.plt.later ++ [(s.plt.frame + s.plt.quietLeft + 1, d, op)] } }
  else match (s.profileOf d).bind (fun p => s.insertOp d op p) with
  | some t => t
  | none => { s with plt := { s.plt with later := s.plt.later ++ [(s.plt.frame, d, op)] } }

def State.pushOp (s : State) (d kind cost latest : Nat) : State := s.pushDieOp d (s.newOp d kind cost latest)

/-- Debt of a die has been converted into relocations (R89). -/
def State.convert (s : State) (d n : Nat) : State := { s with plt := { s.plt with converted := bookTab s.plt.converted d n } }

/-- A block erase booked on a die: its closed windows in the first place R69 leaves (R159), on a quiet die behind the slot (R105). -/
def State.pushErase (s : State) (d : Nat) : State :=
  match s.profileOf d with
  | none => s
  | some p =>
    let runs := runWindows p.eraseSeg 0
    let op := s.newOp d 2 p.tBERS (s.now + 64 * msTicks)
    let from_ := if s.quietDie d s.plt.frame then max s.now (s.plt.frameAt + s.plt.quietLeft * msTicks) else s.now
    (s.pushDieOp d op).addRuns d (s.placeRuns d from_ runs) op.id 0 runs

/-! ### Plans -/

/-- What a command brings to its plans: T_EL and t_HOST in q, its deadline (none: admitted without one, R51), the tick at
which its clock started, and the tile user of its direct reads (Table 14-3). -/
structure PlanReq where
  el : Nat
  host : Nat
  limit : Option Nat
  start : Nat
  user : Nat
  ciph : Nat               -- T_CIPH (R478)
  cmd : Option (Nat × Nat × Nat)
  fnEpoch : Option (Nat × Nat)
  best : Bool              -- the smallest bound is sought, for the report of R80
  deriving DecidableEq, Repr

/-- Offset of now from the start of the frame in progress, in q. -/
def State.nowOff (s : State) : Nat := ticksQ (s.now - s.plt.frameAt)

/-- A plan placed: its bound in q from the clock's start, the state with its bookings, the bookings, the IU's record. -/
structure Placed where
  bound : Nat
  st : State
  books : List Booking
  iu : IuPlan

/-- What a plan placed has: its bound, its state with the bookings, the bookings, its soft-decode reservation. -/
structure Fit where
  bound : Nat
  st : State
  books : List Booking
  resv : Option Nat

/-- The first of the frames 0 to 63 in which a plan fits; `mk` is given the least delay from now of a start in that frame, in q. Where the
smallest bound is sought (`best`), a later frame counts where it gives a smaller one; `least` is what any plan takes after its start. -/
def State.firstFit (s : State) (best : Bool) (least : Nat) (mk : Nat → Option Fit) : Option Fit :=
  if best then
    (List.range 64).foldl (fun (m : Option Fit) k =>
      let d := k * qFrame - s.nowOff
      match m with
      | none => mk d
      | some b => if b.bound ≤ d + least then m else match mk d with
        | some x => if x.bound < b.bound then some x else m
        | none => m) none
  else (List.range 64).findSome? (fun k => mk (k * qFrame - s.nowOff))

/-- Latest start ticks to be tried for an operation whose work after its start takes `after` q (R63): the one its deadline gives, or, where
the smallest bound is sought (R80), every place in the queue, the earliest first. -/
def State.latestOf (s : State) (r : PlanReq) (d : Nat) (p : Profile) (after : Nat) : List Nat :=
  if r.best then s.places d p
  else match r.limit with
    | some D => [r.start + (D - after) / qTick]
    | none => [s.now + 64 * msTicks]

/-- A read of a die to be booked: its kind (Table 03-4), the resource its die time is (0, 10 or 12), array reads and the bytes one of
them moves, its die time, what precedes its first transfer and its decodes (delay from the start, lane time), all in q, its latest start, the
command and IU (plus 1; 0 none) it works for, the reference state of its first array read, its tiles, the soft reads held behind it (R291), and
the column its transfer begins at (R284). -/
structure ReadReq where
  die : Nat
  kind : Nat
  res : Nat
  reads : Nat
  bytes : Nat
  dieQ : Nat
  lead : Nat
  lanes : List (Nat × Nat)
  latest : Nat
  cmd : Option (Nat × Nat × Nat)
  fnEpoch : Option (Nat × Nat)
  iu : Nat
  ref : RefState
  tiles : List Booking
  softs : Nat
  col : Nat
  deriving DecidableEq, Repr

/-- The channel resource beside die time of a resource. -/
def chanRes (res die : Nat) : Nat × Nat :=
  match res with
  | 10 => (10, 2048 + dieChan die)
  | 12 => (13, dieChan die)
  | _ => (1, dieChan die)

/-- The soft reads of a plan behind its first read (R289, R291): each its own array read, in the order of the attempt; behind a hard read
they are held. Like it they enter the die's queue when their frame has come near (R63). -/
def State.holdSofts (s : State) (r : ReadReq) (p : Profile) (off : Nat) : List Nat → Option State
  | [] => some s
  | j :: rest =>
    let op : DieOp := { s.newOp r.die r.kind p.tR (r.latest + 50 * p.tR * j) with
      bytes := r.bytes, cmd := r.cmd, fnEpoch := r.fnEpoch, iu := r.iu, ref := .soft j, held := decide (r.ref = .set 0),
      tiles := r.tiles.map (fun b => { b with units := 1 }), col := r.col }
    (({ s with plt := { s.plt with nextOp := s.plt.nextOp + 1 } } : State).enqueue r.die off op p).bind (fun t => t.holdSofts r p off rest)

/-- The soft reads behind the first read of a request (R289): δ_1 to δ_n behind a hard read, the rest behind soft read 1. -/
def ReadReq.softList (r : ReadReq) : List Nat := (List.range r.softs).map (fun k => if r.ref = .set 0 then k + 1 else k + 2)

/-- One read of a die booked to start at delay `d` from now (R58, R59, R63, R64, R94, R95): die time, channel, lane, tokens in proportion
to its die time, the start-ladder window of its start; its queue entries; the minimum run that follows the resume of what it suspends,
in the first place R69 leaves (R70). -/
def State.readOn (s : State) (r : ReadReq) (d : Nat) (p : Profile) : Option (State × List Booking) :=
  let off := s.nowOff + d
  let f := s.plt.frame
  let du := unitsOf r.dieQ
  let xu := unitsOf (r.reads * s.xferQ (dieChan r.die) r.bytes)
  let e := tokensOf p (r.reads * p.eRead) (r.reads * r.bytes)
  let tick := s.now + d / qTick
  let ch := chanRes r.res r.die
  let books := ⟨11, dieSheet r.die, windowOf tick, p.iPeak⟩ :: r.tiles
    ++ shares f r.res r.die du (du * q16) off ++ shares f ch.1 ch.2 xu (xu * q16) (off + r.lead)
    ++ r.lanes.flatMap (fun e => shares f 2 (chanQuad (dieChan r.die)) (unitsOf e.2) (unitsOf e.2 * q16) (off + e.1))
    ++ shares f 6 (dieSheet r.die) e (du * q16) off ++ shares f 7 0 e (du * q16) off
  (s.bookAll books).bind (fun t =>
    let op : DieOp := { t.newOp r.die r.kind (du - r.softs * p.tR) (max r.latest tick) with
      window := windowOf tick + 1, bytes := r.bytes, cmd := r.cmd, fnEpoch := r.fnEpoch, iu := r.iu, ref := r.ref,
      tiles := r.tiles.map (fun b => { b with units := 1 }), col := r.col,
      resume := if t.mustSuspend r.die then shares f r.res r.die p.tRES (p.tRES * q16) (off + (du - p.tRES) * q16) else [] }
    (({ t with plt := { t.plt with nextOp := t.plt.nextOp + 1 } } : State).enqueue r.die off op p).bind (fun t =>
      (t.holdSofts { r with latest := max r.latest tick } p off r.softList).map (fun t =>
        let t := match t.runningOp r.die with
          | some x => if t.mustSuspend r.die then
              let len := 50 * (if x.op.kind = 2 then p.minE else p.minP)
              t.addRuns r.die (t.placeClosed r.die len (tick + du * 50)) x.op.id tick [(0, len)]
            else t
          | none => t
        (t, books))))

/-- The column at which codeword `k` of a slot begins (R284). -/
def Profile.cwCol (p : Profile) (k : Nat) : Nat := k * cwBytes p.code
/-- The 4,160 information bytes of codeword `k` (R284): its quarter of the slot's data, then its quarter of the side band. -/
def cwInfo (data side : List Nat) (k : Nat) : List Nat := (data.drop (4096 * k)).take 4096 ++ (side.drop (64 * k)).take 64

/-- Bytes moved of a page for an IU, and codewords decoded (R284). -/
def Profile.moved (p : Profile) (units : Nat) : Nat := if units = 1 then cwBytes p.code else 16384 + p.spare
def cwCount (units : Nat) : Nat := if units = 1 then 1 else 4

/-- The column and the information bytes of each codeword a read of an IU moves, in order (R284). -/
def Profile.codewords (p : Profile) (data side : List Nat) : List (Nat × List Nat) := (List.range 4).map (fun k => (p.cwCol k, cwInfo data side k))

def State.laneOf (s : State) (l : Nat) : Lane := tabGet (fun _ => Lane.reset) s.lanes l
def State.setLane (s : State) (l : Nat) (x : Lane) : State := { s with lanes := tabSet (fun _ => Lane.reset) s.lanes l x }

/-- The B lanes of a quadrant that are neither fenced nor isolated, in rising order. -/
def State.lanesB (s : State) (quad : Nat) : List Nat :=
  ((List.range 32).map (fun k => 64 * quad + 2 * k + 1)).filter (fun l => !s.fenced 0x0B0 l && !(s.unit 0x0B0 l).isolated)

/-- The interval of a reservation meets none of those placed on a lane. -/
def Lane.freeFor (x : Lane) (j : LdpJob) : Bool := x.res.all (fun k => decide (k.start + k.len ≤ j.start ∨ j.start + j.len ≤ k.start))

/-- A soft attempt's reservation (R294): its interval on the first of the B lanes `l` that has it free (which one is the model's, log entry
50); none where no lane has. -/
def State.reserveOn (s : State) (l : List Nat) (j : LdpJob) : Option State :=
  (l.find? (fun b => (s.laneOf b).freeFor j)).map (fun b => s.setLane b { s.laneOf b with res := (s.laneOf b).res ++ [j] })

/-- The column a read of an IU begins at (R284): that of the codeword with its quarter, for a 4 KiB IU. -/
def State.colOf (s : State) (key : Nat) (p : Profile) : Nat := if s.iuUnits key = 1 then p.cwCol (s.lookup key).quarter else 0

/-- The direct plan of an IU at a map address (R67, R71). No plan reads an erasure of its row (R178, R196) or a quiet die (R105). -/
def State.planDirect (s : State) (r : PlanReq) (key addr : Nat) : Option Placed :=
  let die := addr / 2 ^ 25
  match s.profileOf die with
  | none => none
  | some p =>
    if !s.dieLive die || decide (s.plt.quiet = some (dieChan die)) || s.unreadable (s.bandOfAddr addr) (s.pageOfAddr addr) (dieSheet die) then none
    else
      let u := s.iuUnits key
      let n := p.moved u
      let x := s.xferQ (dieChan die) n
      let hard := hardNs p.code * cwCount u * 55440
      let sd := softNs p.code p.softReads * cwCount u * 55440
      let soft := p.softReads * (p.tR * q16 + x) + sd
      let sus := s.susUnits die p
      let tail := r.ciph + tLink + r.host + tAllow + tPost
      let after := sus * q16 + p.tR * q16 + x + hard + soft + tail
      let req : ReadReq :=
        { die := die, kind := 0, res := 0, reads := 1 + p.softReads, bytes := n,
          dieQ := (sus + p.tR + p.softReads * p.tR + (if s.mustSuspend die then p.tRES else 0)) * q16, lead := (sus + p.tR) * q16,
          lanes := [((sus + p.tR) * q16 + x, hard), (after - tail - sd, sd)], latest := 0,
          cmd := r.cmd, fnEpoch := r.fnEpoch, iu := key + 1, ref := .set 0, tiles := [⟨8, s.route r.user, s.plt.frame, 1 + p.softReads⟩],
          softs := p.softReads, col := s.colOf key p }
      (s.firstFit r.best (r.el + after) (fun d0 => (s.latestOf r die p after).findSome? (fun latest =>
        (s.ladderFrom (dieSheet die) (max d0 (tHand + s.aheadQ die latest p)) p.iPeak).bind (fun d =>
          (s.readOn { req with latest := latest } d p).bind (fun t =>
            let bound := r.el + d + after
            let j : LdpJob := ⟨s.plt.nextOp, 1, r.start + (bound - (tail + sd)) / qTick, p.softReads, die, r.cmd, key + 1, 0, ceilDiv sd qTick, false, [], false⟩
            if p.softReads = 0 then some ⟨bound, t.1, t.2, none⟩
            else (t.1.reserveOn (t.1.lanesB (chanQuad (dieChan die))) j).map (fun u => ⟨bound, u, t.2, some j.id⟩)))))).map (fun q =>
        let iu : IuPlan := { iu := key, die := die, slot := addr % 2 ^ 25, band := s.bandOfAddr addr, row := s.pageOfAddr addr, detour := false,
                             members := [(die, 0)], conting := none, soft := none, ended := false, resv := q.resv, claim := [], bad := [] }
        ⟨q.bound, q.st, q.books, iu⟩)

/-- Survivors of a row for a detour of `target` (R196, R199): non-PAD positions that are no erasures and in no retired block (R178), without the target and without a
quiet die, which is not read (R105). -/
def State.survivors (s : State) (b row target : Nat) : List Nat :=
  let x := s.bandRec b
  ((maskList x.sheets).filter (fun sh => !maskBit (x.padMask row) sh && !s.unreadable b row sh
    && decide (128 * sh + b % 128 ≠ target) && decide (s.plt.quiet ≠ some (dieChan (128 * sh + b % 128))))).map (fun sh => 128 * sh + b % 128)

/-- W of a row (R199): its non-PAD positions. -/
def State.rowWidth (s : State) (b row : Nat) : Nat :=
  let x := s.bandRec b
  ((maskList x.sheets).filter (fun sh => !maskBit (x.padMask row) sh)).length

/-- A survivor of a detour (R75): its die and profile, its own part of the path (suspend, array read, transfer) and hard decode in q,
and its place in its die's queue. -/
structure Member where
  die : Nat
  prof : Profile
  own : Nat
  hard : Nat
  latest : Nat
  ahead : Nat

/-- Die time of a detour member's read, in 1/16 µs (R66): the suspend and the resume where it suspends an operation. -/
def State.memberUnits (s : State) (d : Nat) (p : Profile) : Nat := s.susUnits d p + p.tR + (if s.mustSuspend d then p.tRES else 0)

/-- The survivors of a detour; `tail` is what follows the last decode. -/
def State.memberOf (s : State) (r : PlanReq) (units tail d : Nat) : Option Member :=
  (s.profileOf d).map (fun p =>
    let own := s.susUnits d p * q16 + p.tR * q16 + s.xferQ (dieChan d) (p.moved units)
    let hard := hardNs p.code * cwCount units * 55440
    let l := s.latestOf r d p (own + hard + tail)
    let latest := (l.find? (fun t => s.slackOk d t (s.memberUnits d p) p)).getD (l.headD 0)
    ⟨d, p, own, hard, latest, s.aheadQ d latest p⟩)

/-- The start of a member's read at delay `d0` or later, with its path from now (R75). -/
def State.memberStart (s : State) (d0 : Nat) (m : Member) : Option (Nat × Nat) :=
  (s.ladderFrom (dieSheet m.die) (max d0 (tHand + m.ahead)) m.prof.iPeak).map (fun d => (d, d + m.own))

/-- The contingency member among W − 1 survivors (R74): the largest path, the highest sheet on a tie. -/
def contingOf (ps : List (Nat × Nat)) : Option Nat :=
  (ps.foldl (fun (m : Option (Nat × Nat)) q =>
    match m with
    | none => some q
    | some b => if b.2 < q.2 ∨ (b.2 = q.2 ∧ dieSheet b.1 ≤ dieSheet q.1) then some q else some b) none).map Prod.fst

/-- A detour's member reads booked one after the other, each at its own start. -/
def State.bookMembers (s : State) (r : PlanReq) (key res units d0 : Nat) : List Member → Option (State × List Booking)
  | [] => some (s, [])
  | m :: rest =>
    let req : ReadReq :=
      { die := m.die, kind := 3, res := res, reads := 1, bytes := m.prof.moved units, dieQ := s.memberUnits m.die m.prof * q16,
        lead := m.own - s.xferQ (dieChan m.die) (m.prof.moved units), lanes := [(m.own, m.hard)], latest := m.latest, cmd := r.cmd, fnEpoch := r.fnEpoch, iu := key + 1,
        ref := .set 0, tiles := [⟨8, s.route 3, s.plt.frame, 1⟩], softs := 0, col := s.colOf key m.prof }
    (s.memberStart d0 m).bind (fun q => (s.readOn req q.1 m.prof).bind (fun t =>
      (t.1.bookMembers r key res units d0 rest).map (fun u => (u.1, t.2 ++ u.2))))

/-- The contingency claim on the reconstruction reserve of a die and its channel (R76), with its energy (R94), `off` q after the start of
the frame in progress and divided over frames as every per-frame resource is (R58): taken where there is room for it. -/
def State.claim (s : State) (m : Member) (units off : Nat) : State × List Booking :=
  let f := s.plt.frame
  let du := s.memberUnits m.die m.prof
  let n := m.prof.moved units
  let xu := unitsOf (s.xferQ (dieChan m.die) n)
  let e := tokensOf m.prof m.prof.eRead n
  let bs := shares f 10 m.die du (du * q16) off ++ shares f 10 (2048 + dieChan m.die) xu (xu * q16) off
    ++ shares f 6 (dieSheet m.die) e (du * q16) off ++ shares f 7 0 e (du * q16) off
  match s.bookAll bs with
  | some t => (t, bs)
  | none => (s, [])

/-- The detour plan of an IU at a map address (R74 to R78). The parity engine's time is booked where the last member's decode ends. -/
def State.planDetour (s : State) (r : PlanReq) (key addr : Nat) : Option Placed :=
  let die := addr / 2 ^ 25
  let b := s.bandOfAddr addr
  let row := s.pageOfAddr addr
  let u := s.iuUnits key
  let surv := s.survivors b row die
  let w := s.rowWidth b row
  if surv.length < w - 2 ∨ w < 3 then none
  else
    let tail := tPar + r.ciph + tLink + r.host + tAllow + tPost
    let ms := surv.filterMap (s.memberOf r u tail)
    let hard := ms.foldl (fun m x => max m x.hard) 0
    let cont := if surv.length = w - 2 then none
      else contingOf (ms.filterMap (fun m => (s.memberStart 0 m).map (fun q => (m.die, q.2))))
    let members := ms.filter (fun m => some m.die ≠ cont)
    let res := if s.plt.quiet = some (dieChan die) then 12 else 0
    let out : Booking := ⟨8, s.route 3, s.plt.frame, 1⟩
    (s.firstFit r.best (r.el + hard + tail) (fun d0 =>
      let paths := ms.filterMap (s.memberStart d0)
      if paths.length < ms.length then none
      else
        let worst := paths.foldl (fun m q => max m q.2) 0
        (s.bookMembers r key res u d0 members).bind (fun t =>
          let par := out :: shares s.plt.frame 3 0 (unitsOf tPar) tPar (s.nowOff + worst + hard)
          (t.1.bookAll par).map (fun v => ⟨r.el + worst + hard + tail, v, t.2 ++ par, none⟩)))).map (fun q =>
      let c := match ms.find? (fun m => decide (some m.die = cont)) with
        | some m => q.st.claim m u (s.nowOff + tHand + m.ahead)
        | none => (q.st, [])
      let iu : IuPlan := { iu := key, die := die, slot := addr % 2 ^ 25, band := b, row := row, detour := true,
                           members := members.map (fun m => (m.die, 0)), conting := if c.2.isEmpty then none else cont,
                           soft := none, ended := false, resv := none, claim := c.2, bad := [] }
      ⟨q.bound, c.1, q.books ++ c.2, iu⟩)

/-- R79's choice for one flash IU: the direct plan if it is in time, else the detour; where the smallest bound is sought (R80), whichever
of the two has it. -/
def State.planIu (s : State) (r : PlanReq) (key addr : Nat) : Option Placed :=
  let inTime := fun (p : Placed) => match r.limit with
    | some D => decide (p.bound ≤ D)
    | none => true
  match s.planDirect r key addr with
  | some p =>
    if r.best then match s.planDetour r key addr with
      | some q => some (if q.bound < p.bound then q else p)
      | none => some p
    else if inTime p then some p
    else (s.planDetour r key addr).filter inTime
  | none => (s.planDetour r key addr).filter inTime

/-- The running outcome of planning a command: the state with its bookings, the largest bound, the bookings and the IU records. -/
structure PlanAcc where
  st : State
  bound : Nat
  books : List (Nat × List Booking)  -- by IU
  ius : List IuPlan

/-- The flash IUs of a command, in IU order (R79, R80); `none` once one of them has no plan in time. -/
def planIus (r : PlanReq) : List (Nat × Nat) → PlanAcc → Option PlanAcc
  | [], a => some a
  | (key, addr) :: rest, a =>
    match a.st.planIu r key addr with
    | none => none
    | some p => planIus r rest ⟨p.st, max a.bound p.bound, a.books ++ [(key, p.books)], a.ius ++ [p.iu]⟩

/-! ### Spread bookings (R84, R88, R90) -/

/-- `units` of a resource in the earliest frames with room, from frame `lo` to frame `hi` (absolute). -/
def State.spread (s : State) (res idx units lo : Nat) : Nat → Option (State × List Booking)
  | 0 => if units = 0 then some (s, []) else none
  | fuel + 1 =>
    if units = 0 then some (s, [])
    else
      let n := min units (s.room res idx lo)
      let b : Booking := ⟨res, idx, lo, n⟩
      match s.book1 b with
      | none => none
      | some t => (t.spread res idx (units - n) (lo + 1) fuel).map (fun r => (r.1, if n = 0 then r.2 else b :: r.2))

/-- What one member's share of a write's programs books: die time in 1/16 µs and, in proportion to it in each frame (R94), channel time and
tokens. -/
structure Share where
  die : Nat
  units : Nat
  sides : List (Nat × Nat × Nat)   -- resource, index, units over the whole share
  deriving DecidableEq, Repr

/-- Units of a side reached with `k` of `total` units of die time, divided as R58 divides. -/
def sideAt (n total k : Nat) : Nat := if total = 0 then n else min n (ceilDiv (n * k) total)

/-- Of a share, `k` units of whose die time are placed, what one frame has room for: at most `cap` units of die time, and of each side what
goes with them. Answers how much is placed then. -/
def State.placeShare (s : State) (x : Share) (k lo cap : Nat) : Option (State × Nat × List Booking) :=
  let most := x.sides.foldl (fun m e =>
    if e.2.2 = 0 then m else min m ((sideAt e.2.2 x.units k + s.room e.1 e.2.1 lo) * x.units / e.2.2)) (min x.units (k + min cap (s.room 0 x.die lo)))
  let k' := max k most
  let bs := (⟨0, x.die, lo, k' - k⟩ :: x.sides.map (fun e =>
    (⟨e.1, e.2.1, lo, sideAt e.2.2 x.units k' - sideAt e.2.2 x.units k⟩ : Booking))).filter (fun b => decide (b.units ≠ 0))
  (s.bookAll bs).map (fun t => (t, k', bs))

/-- A share in the earliest frames with room for all of it, from frame `lo` on, `k` units of its die time placed already. -/
def State.spreadShare (s : State) (x : Share) (k lo : Nat) : Nat → Option (State × List Booking)
  | 0 => if x.units ≤ k then some (s, []) else none
  | fuel + 1 =>
    if x.units ≤ k then some (s, [])
    else (s.placeShare x k lo x.units).bind (fun r =>
      (r.1.spreadShare x r.2.1 (lo + 1) fuel).map (fun u => (u.1, r.2.2 ++ u.2)))

def State.spreadShares (s : State) (lo hi : Nat) : List Share → Option (State × List Booking)
  | [] => some (s, [])
  | x :: rest =>
    (s.spreadShare x 0 lo (hi + 1 - lo)).bind (fun t => (t.1.spreadShares lo hi rest).map (fun u => (u.1, t.2 ++ u.2)))

/-- The program share of a write of `bytes` on each member of a group (R84, log entry 12): bytes × W ÷ (W − 2) spread evenly over the W
members, at each one's own program time, channel rate and energy; every amount formed exactly and rounded up once (R66). -/
def State.programShares (s : State) (g bytes : Nat) : List Share :=
  let w := s.width g
  (s.members g).map (fun m =>
    let p := m.2
    let each := max 1 (w - 2)
    -- `bytes ÷ each` bytes of data and parity fall to this member
    let page := 16384 + p.spare
    let tok := ceilDiv (bytes * (p.eProg * 16384 * 1024 + p.eByte * page * p.unitBytes)) (each * p.unitBytes * 16384 * 256 * 1024)
    { die := m.1, units := ceilDiv (bytes * p.tPROG) (each * max 1 p.unitBytes),
      sides := [(1, dieChan m.1, ceilDiv (bytes * s.xferQ (dieChan m.1) page) (each * 16384 * q16)), (6, dieSheet m.1, tok), (7, 0, tok)] })

/-- Parity engine time of a write (R84): T_FOLD for each 16 KiB data slot, in 1/16 µs. -/
def foldUnits (bytes : Nat) : Nat := ceilDiv bytes 16384 * 8

/-- Program starts of a write over a group: bytes × W ÷ (W − 2) in whole program units. -/
def State.programStarts (s : State) (g bytes : Nat) : Nat :=
  let w := s.width g
  ceilDiv (bytes * w) (max 1 (w - 2) * max 1 (minOfUnits (s.members g)))
where
  minOfUnits (l : List (Nat × Profile)) : Nat := l.foldl (fun m x => if m = 0 then x.2.unitBytes else min m x.2.unitBytes) 0

/-- The ladder starts of a write's programs (R84, R95): each on the member whose sheet admits it first, no later than frame `hi`; the order
among sheets is the model's (log entry 12). -/
def State.bookStarts (s : State) (l : List (Nat × Profile)) (hi : Nat) : Nat → Option (State × List Booking)
  | 0 => some (s, [])
  | n + 1 =>
    let best := l.foldl (fun (m : Option (Nat × Nat × Nat)) x =>
      match s.ladderDelay (dieSheet x.1) s.now x.2.iPeak, m with
      | none, m => m
      | some k, none => some (k, dieSheet x.1, x.2.iPeak)
      | some k, some y => if k < y.1 then some (k, dieSheet x.1, x.2.iPeak) else some y) none
    match best with
    | none => if l.isEmpty then some (s, []) else none
    | some (k, sheet, peak) =>
      if (hi + 1 - s.plt.frame) * msTicks ≤ s.now - s.plt.frameAt + k then none
      else
        let b : Booking := ⟨11, sheet, windowOf (s.now + k), peak⟩
        (s.book1 b).bind (fun t => (t.bookStarts l hi n).map (fun u => (u.1, b :: u.2)))

/-- Exact fractions, as numerator and denominator. -/
def fracMax (l : List (Nat × Nat)) : Nat × Nat := l.foldl (fun m x => if m.1 * x.2 < x.1 * m.2 then x else m) (0, 1)
def fracAdd (a b : Nat × Nat) : Nat × Nat := (a.1 * b.2 + b.1 * a.2, a.2 * b.2)
def fracScale (n : Nat) (a : Nat × Nat) : Nat × Nat := (n * a.1, a.2)

/-- A_BOOKED × 256 (R165): A_MAX until the first estimate. -/
def State.aBookedNow (s : State) : Nat := if s.svy.waHist.isEmpty then s.fld F.SVY_GC_CFG_A_MAX 0 * 256 else s.svy.aBooked

/-- R88's debt for `bytes` written in a group, in 1/16 µs over the whole group, exactly: A in 1/256. -/
def State.debtFrac (s : State) (g bytes : Nat) : Nat × Nat :=
  let l := s.members g
  let w := s.width g
  let a := s.aBookedNow
  let cr := fracMax (l.map (fun m => (m.2.tR, 16384)))
  let cp := fracMax (l.map (fun m => (m.2.tPROG * w, max 1 (m.2.unitBytes * (w - 2)))))
  let ce := fracMax (l.map (fun m => (m.2.tBERS, max 1 (m.2.pages * m.2.planes * 16384))))
  let sum := fracAdd (fracScale (a - 256) (fracAdd cr cp)) (fracScale a ce)
  (bytes * sum.1, 256 * sum.2)

/-- The same rounded up once (R66). -/
def State.debtUnits (s : State) (g bytes : Nat) : Nat := ceilDiv (s.debtFrac g bytes).1 (s.debtFrac g bytes).2

/-- What goes with `n` units of a member's relocation time (R181, R66): for each 16 KiB page its transfers, decode, fold and energy, against
its die time tR + tPROG × 16 KiB ÷ P_U × W ÷ (W − 2). -/
def State.reloSides (s : State) (g d n : Nat) (p : Profile) : List (Nat × Nat × Nat) :=
  let w := s.width g
  let k := max 1 (w - 2)
  let page := 16384 + p.spare
  let perPage := p.tR * p.unitBytes * k + 16384 * p.tPROG * w   -- × (P_U × k)
  let side := fun (num den : Nat) => ceilDiv (n * p.unitBytes * k * num) (max 1 (perPage * den))
  [(1, dieChan d, side (s.xferQ (dieChan d) page * (k + w)) (q16 * k)),
   (2, chanQuad (dieChan d), side (hardNs p.code * 4 * 55440) q16),
   (3, 0, side 8 1),
   (6, dieSheet d, side (p.eRead * 1024 * p.unitBytes * k + p.eProg * 1024 * 16384 * w + p.eByte * page * p.unitBytes * (k + w)) (p.unitBytes * k * 256 * 1024)),
   (7, 0, side (p.eRead * 1024 * p.unitBytes * k + p.eProg * 1024 * 16384 * w + p.eByte * page * p.unitBytes * (k + w)) (p.unitBytes * k * 256 * 1024))]

/-- What goes with one page read of a die for its own sake (R66): transfer, decode, energy. -/
def State.readSides (s : State) (d : Nat) (p : Profile) : List (Nat × Nat × Nat) :=
  let page := 16384 + p.spare
  let e := tokensOf p p.eRead page
  [(1, dieChan d, unitsOf (s.xferQ (dieChan d) page)), (2, chanQuad (dieChan d), unitsOf (hardNs p.code * 4 * 55440)), (6, dieSheet d, e), (7, 0, e)]

/-- The die time among bookings entered as debt of its frames (R89). -/
def State.enterDebt (s : State) (bs : List Booking) : State :=
  { s with plt := { s.plt with debt := (bs.filter (fun b => decide (b.res = 0))).foldl (fun d b => bookTab d (bkKey b.frame b.idx) b.units) s.plt.debt } }

/-- Debt booked evenly over the members of a group in the earliest frames with room up to `hi` (R88): die time, entered as debt of its frame,
and what goes with it (R181). -/
def State.bookDebt (s : State) (g : Nat) (units : Nat × Nat) (hi : Nat) : Option (State × List Booking) :=
  let l := s.members g
  let each := ceilDiv units.1 (units.2 * max 1 l.length)
  (s.spreadShares s.plt.frame hi (l.map (fun m => ⟨m.1, each, s.reloSides g m.1 each m.2⟩))).map (fun t => (t.1.enterDebt t.2, t.2))

/-- A program's transfer of all planes and bits of a cell (R87), in q. -/
def State.programXfer (s : State) (d : Nat) (p : Profile) : Nat := s.xferQ (dieChan d) (p.bpc * p.planes * (16384 + p.spare))

/-- One member's program of a stripe that must reach flash (R85): the first frame up to PROG_LAG in which its closed windows can be placed
under R69 and all it needs fits the ledger; the program enters the die's queue. The answer holds where it ends, in q from now. -/
def State.fuaProgram (s : State) (from_ lag d : Nat) (p : Profile) : Option (State × Nat × List Booking) :=
  let xf := s.programXfer d p
  let runs := runWindows p.progSeg 0
  let tok := tokensOf p p.eProg (p.bpc * p.planes * (16384 + p.spare))
  (List.range (lag + 1)).findSome? (fun k =>
    (s.ladderFrom (dieSheet d) (max (from_ + xf) (k * qFrame - s.nowOff)) p.iPeak).bind (fun d0 =>
      let tick := s.placeRuns d (s.now + ceilDiv d0 qTick) runs
      let off := s.nowOff + ticksQ (tick - s.now)
      let fin := ticksQ (tick - s.now) + p.tPROG * q16
      if (lag + 1) * qFrame < off + p.tPROG * q16 then none
      else
        let f := s.plt.frame
        let xu := unitsOf xf
        let books := (⟨11, dieSheet d, windowOf tick, p.iPeak⟩ : Booking) :: shares f 0 d p.tPROG (p.tPROG * q16) off
          ++ shares f 1 (dieChan d) xu (xu * q16) (off - xf)
          ++ shares f 6 (dieSheet d) tok (p.tPROG * q16) off ++ shares f 7 0 tok (p.tPROG * q16) off
        (s.bookAll books).bind (fun t =>
          let op : DieOp := { t.newOp d 1 p.tPROG tick with window := windowOf tick + 1 }
          (({ t with plt := { t.plt with nextOp := t.plt.nextOp + 1 } } : State).enqueue d off op p).map (fun t =>
            (t.addRuns d tick op.id 0 runs, fin, books)))))

/-- The FUA programs (R85): one on every usable member; the answer is the latest end, in q from now. -/
def State.fuaPrograms (s : State) (from_ lag : Nat) : List (Nat × Profile) → Nat → List Booking → Option (State × Nat × List Booking)
  | [], e, bs => some (s, e, bs)
  | m :: rest, e, bs =>
    (s.fuaProgram from_ lag m.1 m.2).bind (fun r => r.1.fuaPrograms from_ lag rest (max e r.2.1) (bs ++ r.2.2))

/-! ### Floors (R87, Table 03-6) -/

/-- The profiles of the present dies, with their channels; a die marked absent (R17, R239) is not present. -/
def State.presentProfiles (s : State) : List (Nat × Profile) :=
  s.fch.die.filterMap (fun e => if e.2.present && !e.2.absent then (s.profileOf e.1).map (fun p => (e.1, p)) else none)

/-- Longest closed window (R68), in 1/16 µs: a run not suspendable, a minimum run, a wake, one step of a retraining (R236: DLL 10 µs, ZQ, or a
die's trainings), a flash channel's test, which counts as one (R608: 600 µs). A quiet slot's 20 ms is no part of it (DEDUCED, log entry 48: no
class of Table 02-4 would meet the floor it gives). -/
def maxWindow (l : List (Nat × Profile)) : Nat :=
  max (max 160 9600) (maxOf l (fun m => max (max (longestRun m.2.progSeg) (longestRun m.2.eraseSeg))
    (max (max m.2.minE m.2.minP) (max m.2.tWAKE (max m.2.tZQ (m.2.tRDT + m.2.tWRT))))))
where
  longestRun (segs : List (Nat × Bool)) : Nat := maxOf (runWindows segs 0) (fun w => w.2) / 50

/-- Members of a band that can be read. -/
def State.liveMembers (s : State) (b : Nat) : Nat :=
  countBelow 16 (fun sh => maskBit (s.bandRec b).sheets sh && s.usableFor (b % 128) sh && !maskBit (s.bandRec b).gone sh)

/-- A floor in whole µs, rounded up. -/
def floorUs (q : Nat) : Nat := ceilDiv q qUs

/-- The floors in µs. -/
structure Floors where
  read : Nat
  detour : Nat
  write : Nat
  fua : Nat
  flush : Nat
  dealloc : Nat
  other : Nat
  deriving DecidableEq, Repr

/-- The slower trained port's t_HOST for 16 KiB. -/
def State.floorHost (s : State) : Nat :=
  let a := (s.port 0).rateUsed
  let b := (s.port 1).rateUsed
  hostQ (if a = 0 then b else if b = 0 then a else min a b) 16384

/-- Table 03-6, over the profiles of all present dies, each term at its largest. -/
def State.floors (s : State) : Floors :=
  let l := s.presentProfiles
  let tR := maxOf l (fun m => m.2.tR) * q16
  let x := maxOf l (fun m => s.xferQ (dieChan m.1) (16384 + m.2.spare))
  let hard := maxOf l (fun m => hardNs m.2.code * 4 * 55440)
  let soft := maxOf l (fun m => m.2.softReads * (m.2.tR * q16 + s.xferQ (dieChan m.1) (16384 + m.2.spare))
    + softNs m.2.code m.2.softReads * 4 * 55440)
  let sus := maxOf l (fun m => max m.2.tSUSE m.2.tSUSP) * q16
  let wmax := max (tR + x) (tBnd + sus)
  let host := s.floorHost
  let fDir := tAdmMax + tHand + wmax + tR + x + hard + soft + tCiph + tLink + host + tAllow + tPost
  let fDet := tAdmMax + tHand + wmax + tR + x + hard + tPar + tCiph + tLink + host + tAllow + tPost
  let able := s.svy.band.all (fun e =>
    decide (e.2.st ≠ .opened ∧ e.2.st ≠ .closed ∧ e.2.st ≠ .victim) || decide (e.2.wb ≤ s.liveMembers e.1 + 1))
  let rd := if able then max (150 * qUs) fDet else max (150 * qUs) (fDir + maxWindow l * q16)
  let wr := tAdmMax + tAllow + host + tCiph + tStage + tPost
  let px := maxOf l (fun m => s.programXfer m.1 m.2)
  let fua := tAdmMax + tAllow + host + tCiph + tStage + maxWindow l * q16 + tBnd + sus + px
    + maxOf l (fun m => m.2.tPROG) * q16 + tPost
  let fl := tAdmMax + s.fld F.PLT_LAGS_PROG_LAG 0 * 1000 * qUs + tPost
  ⟨floorUs rd, floorUs fDet, floorUs wr, floorUs fua, floorUs fl, floorUs wr, floorUs (tAdmMax + tPost)⟩

/-- The floor of a kind. -/
def Floors.of (f : Floors) : Kind → Nat
  | .read => f.read | .write => f.write | .fua => f.fua | .flush => f.flush | .dealloc => f.dealloc | .other => f.other

/-- A class fits the floors (R48). -/
def Cls.fits (c : Cls) (f : Floors) : Bool :=
  decide (f.read ≤ c.dlRead ∧ f.write ≤ c.dlWrite ∧ f.fua ≤ c.dlFua ∧ f.flush ≤ c.dlFlush ∧ f.dealloc ≤ c.dlDealloc
    ∧ f.other ≤ c.dlOther)

/-- Functions with a queue bound to class `c` (R39). The admin queue, number 0, has no class (R26). -/
def State.boundFns (s : State) (c : Nat) : List Nat :=
  (s.sqs.filterMap (fun e => e.2.bind (fun q => if e.1 % 1024 ≠ 0 ∧ q.newCls.getD q.cls = c then some (e.1 / 1024) else none))).dedup

/-- UNFIT of one class follows the floors; functions bound to a class that becomes UNFIT are told (R48, R54). -/
def State.recheck1 (s : State) (c : Nat) : State :=
  let x := s.cls c
  let bad := !x.fits s.floors
  let s' := s.setCls c { x with unfit := bad }
  if bad && !x.unfit then (s'.boundFns c).foldl (fun s f => s.promise f F.HST_PROMISE_EVENTS_CLASS_UNFIT) s' else s'

/-- The re-check of every enabled class (R48), and the floor registers with FLOORS_CHANGED (R87, R107, R109). The floors
read 0 until a profile has been matched; one beyond its 16 bits reads 65,535 (DESIGN CHOICE, log entry 49). -/
def State.recheck (s : State) : State :=
  let f := s.floors
  let rd := if s.presentProfiles.isEmpty then 0#32 else BitVec.ofNat 32 (min 65535 f.read + 65536 * min 65535 f.detour)
  let wr := if s.presentProfiles.isEmpty then 0#32 else BitVec.ofNat 32 (min 65535 f.fua + 65536 * min 65535 f.flush)
  let changed := decide (s.rg .PLT_FLOOR_RD 0 ≠ rd ∨ s.rg .PLT_FLOOR_WR 0 ≠ wr)
  let s := (s.setReg .PLT_FLOOR_RD 0 rd).setReg .PLT_FLOOR_WR 0 wr
  let s := if changed then s.event F.PLT_EVENTS_FLOORS_CHANGED 0 0 else s
  let degraded := s.fch.die.any (fun e => e.2.present && e.2.profile.isSome && !s.dieLive e.1)
  let s := { s with plt := { s.plt with degradedFloors := degraded } }
  (List.range 64).foldl (fun s c => if (s.cls c).enable then s.recheck1 c else s) s

end Sys2Proof.Machine
end

