-- ==== Sys2Proof/Machine/OpsBand.lean ====
section
/-! DEFINITION. Shared operations on bands: spares and substitution, retirement, the HOLDUP reserve, erases, and what a change of layout,
a fence or a removal does to them (chapters 5 and 6). -/

set_option linter.unusedVariables false

namespace Sys2Proof.Machine

/-- Sheets of the dies present in a group. -/
def State.presentSheets (s : State) (g : Nat) : List Nat := (List.range 16).filter (fun sh => (s.dieOf (128 * sh + g)).present && (s.dieOf (128 * sh + g)).profile.isSome)

/-- The least worn FREE band of a group (R166): the lowest sum of erase counts over the members present, the lowest index on a tie. The HOLDUP
reserve is not taken. -/
def State.freeBand (s : State) (g : Nat) : Option Nat :=
  let sheets := s.presentSheets g
  ((List.range (s.bandsOf g)).foldl (fun (m : Option (Nat × Nat)) k =>
    let b := 128 * k + g
    let x := s.bandRec b
    if x.st = .free ∧ x.cls ≠ 3 then
      let e := sheets.foldl (fun n sh => n + tabGet (fun _ => 0) x.erases sh) 0
      match m with
      | none => some (b, e)
      | some y => if e < y.2 then some (b, e) else some y
    else m) none).map Prod.fst

/-- The smallest of a term over a group's members. -/
def minOf {α : Type} (l : List α) (f : α → Nat) : Nat :=
  match l with
  | [] => 0
  | x :: rest => rest.foldl (fun m y => min m (f y)) (f x)

/-- A FREE band's record with the member set, width and geometry as they stand (R184), for a class. -/
def State.fitted (s : State) (b cls : Nat) : Band :=
  let g := b % 128
  let l := s.members g
  let x := s.bandRec b
  { Band.reset with
    cls := cls, wb := s.width g, sheets := s.groupSheets g, block := x.block,
    pages := minOf l (fun m => m.2.pages), planes := minOf l (fun m => m.2.planes), reads := x.reads, erases := x.erases,
    layoutGen := s.par.layoutGen, slcPages := minOf l (fun m => m.2.pages / max 1 m.2.bpc) }

/-- A band of a group joins the HOLDUP reserve in one of its sets (R166, R501). -/
def State.reserveBand (s : State) (g set : Nat) : State :=
  if s.width g < 4 then s
  else match s.freeBand g with
    | none => s
    | some b => s.moveBand b { s.fitted b 3 with hset := set }

/-- The HOLDUP reserve of a group made whole. -/
def State.fillReserve (s : State) (g : Nat) : State :=
  [0, 1].foldl (fun (s : State) k => if (s.holdBand g k).isSome then s else s.reserveBand g k) s

/-- A band becomes RETIRED (R160): its good member blocks join the spares of their dies. One of the HOLDUP reserve is replaced (R166). -/
def State.retireBand (s : State) (b : Nat) : State :=
  let x := s.bandRec b
  let sheets := if x.sheets = 0 then s.presentSheets (b % 128) else maskList x.sheets
  let s := sheets.foldl (fun s sh =>
    let d := 128 * sh + b % 128
    let k := x.member b sh
    if (tabGet (fun _ => []) s.svy.bad d).contains k then s else s.setSpares d (s.sparesOf d ++ [k])) s
  let s := ((s.moveBand b { x with st := .retired, cls := if x.cls = 3 then 0 else x.cls }).unqueue b).dropOwed b
  let s := (s.mediaCount 7 1).event F.SVY_MEDIA_EVENTS_BAND_RETIRED 0 b
  if x.cls = 3 then s.reserveBand (b % 128) x.hset else s

/-- A spare block of the die takes the place of a member (R178): the lowest-numbered good one left (as R154 takes it at first
build); none where the die has none. -/
def State.substitute (s : State) (b sh : Nat) : Option State :=
  let d := 128 * sh + b % 128
  let bad := tabGet (fun _ => []) s.svy.bad d
  match (s.sparesOf d).filter (fun k => !bad.contains k) with
  | [] => none
  | k :: rest =>
    let m := rest.foldl min k
    let s := s.setSpares d ((s.sparesOf d).filter (fun j => decide (j ≠ m)))
    let x := s.bandRec b
    some (s.moveBand b { x with block := tabPut x.block sh m, reads := tabSet (fun _ => 0) x.reads sh 0,
                                erases := tabSet (fun _ => 0) x.erases sh 0 })

/-- A band's members on the dies present with no bad block among them (R154); none where a die has no good spare left. -/
def State.fitMembers (s : State) (b : Nat) : Option State :=
  let x := s.bandRec b
  ((s.presentSheets (b % 128)).filter (fun sh => (tabGet (fun _ => []) s.svy.bad (128 * sh + b % 128)).contains (x.member b sh))).foldl
    (fun (t : Option State) sh => t.bind (fun s => s.substitute b sh)) (some s)

/-- The last member erase has passed: the band is FREE (R159); one of the HOLDUP reserve stays in it. -/
def State.freeUp (s : State) (b : Nat) : State :=
  let x := s.bandRec b
  let y : Band := { Band.reset with block := x.block, reads := x.reads, erases := x.erases }
  s.moveBand b (if x.cls = 3 then { y with cls := 3, sheets := x.sheets, wb := x.wb, pages := x.pages, planes := x.planes, slcPages := x.slcPages, hset := x.hset } else y)

/-- DRAINED to ERASING (Table 05-2, R159, Table 05-4): marked members are replaced, or with no spare left for one the band is RETIRED; the erases
of the members that can be erased are booked, and owed where nothing that drained it has priced them (Table 05-5); its footer goes with them. -/
def State.startErase (s : State) (b : Nat) : State :=
  let x := s.bandRec b
  let s? := (maskList x.gbb).foldl (fun (t : Option State) sh => t.bind (fun s => s.substitute b sh)) (some s)
  match s? with
  | none => s.retireBand b
  | some s =>
  let s := if x.priced then s else s.owe (b % 128) (x.wb * maxOf (s.members (b % 128)) (fun m => m.2.tBERS))
  let y := s.bandRec b
  let l := (maskList x.sheets).filter (s.usableFor (b % 128))
  let s := s.moveBand b { y with st := .erasing, erasing := l.foldl maskSet 0, gbb := 0 }
  let s := { s with svy := { s.svy with footer := tabSet (fun _ => none) s.svy.footer b none } }
  if l.isEmpty then s.freeUp b else l.foldl (fun s sh => s.pushErase (128 * sh + b % 128)) s

/-- Member erases that can no more be run, on dies that `p` names, are waited for no longer. -/
def State.erasesGone (s : State) (p : Nat → Bool) : State :=
  s.svy.band.foldl (fun (s : State) (e : Nat × Band) =>
    let l := (maskList e.2.erasing).filter (fun sh => p (128 * sh + e.1 % 128))
    if e.2.st ≠ .erasing ∨ l.isEmpty then s
    else
      let x : Band := { e.2 with erasing := l.foldl maskClear e.2.erasing }
      if x.erasing = 0 then (s.setBand e.1 x).freeUp e.1 else s.setBand e.1 x) s

/-- The bands of a group's HOLDUP reserve are erased. -/
def State.eraseReserve (s : State) (g : Nat) : State :=
  (s.holdBands g).foldl (fun (s : State) e => if e.2.st = .free then s.startErase e.1 else s) s

/-- The HOLDUP reserve of a group rebuilt (R212 step 4, R501): its bands are given back, and FREE bands of the layout as it stands are taken
and erased. -/
def State.rebuildReserve (s : State) (g : Nat) : State :=
  let s := (s.holdBands g).foldl (fun (s : State) e =>
    if e.2.st = .free then s.moveBand e.1 { e.2 with cls := 0, hset := 0, sheets := 0, wb := 0 } else s) s
  (s.fillReserve g).eraseReserve g

/-- The groups whose reserve the layout no longer fits have it rebuilt (R501). -/
def State.rebuildReserves (s : State) : State :=
  (List.range 128).foldl (fun (s : State) g =>
    if (s.holdBands g).any (fun e => decide (e.2.st = .free ∧ e.2.sheets ≠ s.groupSheets g)) then s.rebuildReserve g else s) s

/-- A layout change (R205, R206, R208): LAYOUT_GEN rises, the frontier goes to 0, and a sweep runs while a CLOSED band needs reshape; one that was running is restarted; the HOLDUP reserve and the staging budget follow (R501,
R505). -/
def State.layoutStep (s : State) : State :=
  let was := s.par.sweep
  let due := s.svy.band.any (fun e => decide (e.2.st = .closed) && !s.current e.1)
  let sheets := (List.range 16).filterMap (fun b =>
    if maskBit s.par.usable b then some (b, ((tabGet (fun _ => Bay.reset) s.bays b).id.drop 8).take 16) else none)
  let groups := (List.range 128).foldl (fun t g => tabSet (fun _ => 0) t g (s.groupSheets g)) []
  let s := { s with par := { s.par with layoutGen := (s.par.layoutGen + 1) % 65536, frontier := 0, sweep := due, serials := sheets,
                                        groups := groups } }
  (if was then s.event F.PAR_EVENTS_RESHAPE_RESTART 0 0 else s).rebuildReserves.recomputeBudget

/-- What the fence or removal of dies means for the bands (R201): OPEN bands with a member there close, CLOSED bands that
reached two erasures go first in the refresh queue with reason REBUILD; of several, the last in table order comes to stand first (DESIGN
CHOICE, log entry 50: the rule gives no order among them). `gone` is the mask of sheets concerned. -/
def State.rebuildAfter (s : State) (p : Nat → Bool) (gone : Nat) : State :=
  let s := s.erasesGone p
  (s.bandsWith p).foldl (fun s b =>
    let s := if (s.bandRec b).st = .opened then s.closeBand b gone else s
    if (s.bandRec b).st = .closed ∧ 2 ≤ s.erasedMax b then
      (s.event F.PAR_EVENTS_SECOND_ERASURE 0 b).queueRefresh b 3 true
    else if (s.bandRec b).st = .victim ∧ 2 ≤ s.erasedMax b then
      -- one that is being relocated goes to the head of the queue (Table 06-6)
      let s := s.event F.PAR_EVENTS_SECOND_ERASURE 0 b
      { s with svy := { s.svy with refreshQ := b :: s.svy.refreshQ.filter (fun k => decide (k ≠ b)) } }
    else s) s

end Sys2Proof.Machine
end

