-- ==== Sys2Proof/Machine/OpsFall.lean ====
section
/-! DEFINITION. Fallbacks of flash reads that need nothing beyond the plan: reconstruction from the reserve (Table 03-5), the
end of a read without a path, and the re-planning of reads whose die or engine is lost (R82, R100, R240). -/

set_option linter.unusedVariables false

namespace Sys2Proof.Machine

/-- t_HOST of the command's data; 0 for the direct window (R335) and for what transfers nothing. -/
def State.hostTime (s : State) (c : Cmd) : Nat := if c.win.isSome then 0 else hostQ (s.port (c.fn / 128)).rateUsed c.bytes

/-- The record of one IU of a command replaced. -/
def State.setIu (s : State) (c : Cmd) (k : Nat) (i : IuPlan) : State :=
  s.mapCmd c.fn c.sq c.cid (fun c => { c with ius := listSet c.ius k i })

/-- A slot's codewords have failed to decode on a member's die (R290): only they go on to the next mode. -/
def IuPlan.failed (i : IuPlan) (die mask : Nat) : IuPlan :=
  if mask = 0 then i else { i with bad := tabSet (fun _ => 0) i.bad die mask }

/-- Codewords of a member's slot still to be decoded (R284, R290). -/
def State.cwLeft (s : State) (i : IuPlan) (die : Nat) : Nat :=
  match tabGet (fun _ => 0) i.bad die with
  | 0 => cwCount (s.iuUnits i.iu)
  | m => countBelow 4 (maskBit m)

/-- A member's state in an IU's record. -/
def IuPlan.mark (i : IuPlan) (die v : Nat) : IuPlan :=
  { i with members := i.members.map (fun m => if m.1 = die then (die, v) else m) }

/-- Time left to a command's deadline, in q; none: it has no deadline to meet. -/
def State.leftQ (s : State) (c : Cmd) : Option Nat :=
  if c.suspended then none
  else some (c.deadline * qUs - ticksQ (s.now - c.start - c.hostStop s.now))

/-- The tail of a read's path after its last decode, in q. -/
def State.tailQ (s : State) (c : Cmd) : Nat := s.ciphQ c.nsid + tLink + s.hostTime c + tAllow + tPost

/-- A path fits the time left. -/
def fitsLeft (left : Option Nat) (path : Nat) : Bool := (left.map (fun t => decide (path ≤ t))).getD true

/-- What a fallback comes to: a state in which it runs; the reserve could not take it; it does not fit the time or is not
there. -/
inductive Fallback where
  | runs (s : State)
  | noReserve
  | noTime

/-- The reconstruction reserve of a read's die and channel has room for it (R60). -/
def State.reserveHas (s : State) (r : ReadReq) (p : Profile) : Bool :=
  ((s.ladderFrom (dieSheet r.die) (tHand + s.aheadQ r.die r.latest p) p.iPeak).bind (fun d =>
    s.bookAll (shares s.plt.frame 10 r.die (unitsOf r.dieQ) (unitsOf r.dieQ * q16) (s.nowOff + d)
      ++ shares s.plt.frame 10 (2048 + dieChan r.die) (unitsOf (r.reads * s.xferQ (dieChan r.die) r.bytes))
        (unitsOf (r.reads * s.xferQ (dieChan r.die) r.bytes) * q16) (s.nowOff + d + r.lead)))).isSome

/-- Reads on the reconstruction reserve (R59, R60, R81): each is booked on the reserve of its die and channel, with its lane time, its energy,
its start-ladder window and its tile, and enters its die's queue. -/
def State.takeReserve (s : State) : List (ReadReq × Profile) → Option (State × List Booking)
  | [] => some (s, [])
  | (r, p) :: rest =>
    (s.ladderFrom (dieSheet r.die) (tHand + s.aheadQ r.die r.latest p) p.iPeak).bind (fun d =>
      (s.readOn r d p).bind (fun t => (t.1.takeReserve rest).map (fun u => (u.1, t.2 ++ u.2))))

/-- A command holds further bookings. -/
def State.addBookings (s : State) (c : Cmd) (bs : List Booking) : State :=
  s.mapCmd c.fn c.sq c.cid (fun c => { c with bookings := c.bookings ++ bs })

/-- The reads of a fallback as the Plotter takes them: where they do not fit, whether the reserve itself was short (R82). -/
def State.onReserve (s : State) (l : List (ReadReq × Profile)) (k : State × List Booking → Option State) : Fallback :=
  match (s.takeReserve l).bind k with
  | some t => .runs t
  | none => if l.all (fun r => s.reserveHas r.1 r.2) then .noTime else .noReserve

/-- A read of a fallback: one die, on the reserve, `n` array reads from `ref` on and a decode of `dec` q, its latest start the last moment
that leaves `after` q to the deadline. -/
def State.reserveRead (s : State) (c : Cmd) (iu die : Nat) (p : Profile) (n : Nat) (ref : RefState) (dec after : Nat) : ReadReq :=
  { die := die, kind := 3, res := 10, reads := n, bytes := p.moved (s.iuUnits iu),
    dieQ := (s.susUnits die p + n * p.tR + (if s.mustSuspend die then p.tRES else 0)) * q16, lead := (s.susUnits die p + p.tR) * q16,
    lanes := [((s.susUnits die p + n * p.tR) * q16 + n * s.xferQ (dieChan die) (p.moved (s.iuUnits iu)), dec)],
    latest := (match s.leftQ c with
      | some t => s.now + (t - after) / qTick
      | none => s.now + 64 * msTicks),
    cmd := some (c.fn, c.sq, c.cid), fnEpoch := some (c.fn, c.epoch), iu := iu + 1, ref := ref, tiles := [⟨8, s.route 3, s.plt.frame, n⟩],
    softs := n - 1, col := s.colOf iu p }

/-- The contingency member of a detour is read on its claim (Table 03-5, R76), where that fits the time left. -/
def State.contingFrom (s : State) (c : Cmd) (k : Nat) (i : IuPlan) : Fallback :=
  match i.conting with
  | none => .noTime
  | some m => match s.profileOf m with
    | none => .noTime
    | some p =>
      let u := s.iuUnits i.iu
      let own := (s.susUnits m p + p.tR) * q16 + s.xferQ (dieChan m) (p.moved u) + hardNs p.code * cwCount u * 55440
      let tail := tPar + s.tailQ c
      let latest := match s.leftQ c with
        | some t => s.now + (t - (own + tail)) / qTick
        | none => s.now + 64 * msTicks
      match s.waitQ m latest p with
      | none => .noTime
      | some w =>
        if !s.dieLive m || !fitsLeft (s.leftQ c) (tHand + w + own + tail) then .noTime
        else
          let tile : Booking := ⟨8, s.route 3, s.plt.frame, 1⟩
          let dec := unitsOf (hardNs p.code * cwCount u * 55440)
          let bs := tile :: shares s.plt.frame 2 (chanQuad (dieChan m)) dec (dec * q16) (s.nowOff + tHand + w)
          let op : DieOp := { s.newOp m 3 (s.memberUnits m p) latest with
            bytes := p.moved u, cmd := some (c.fn, c.sq, c.cid), fnEpoch := some (c.fn, c.epoch), tiles := [tile], iu := i.iu + 1, col := s.colOf i.iu p }
          match (s.bookAll bs).bind (fun t =>
              ({ t with plt := { t.plt with nextOp := t.plt.nextOp + 1 } } : State).insertOp m op p) with
          | some t => .runs ((t.addBookings c bs).setIu c k { i with members := i.members ++ [(m, 0)], conting := none })
          | none => .noTime

/-- A read ends with Unrecovered Read Error (R82): its work is dropped, its bookings and tiles return as R438 states, the IU is reported. -/
def State.readLost (s : State) (c : Cmd) : State :=
  let s := s.release c
  let s := s.mapCmd c.fn c.sq c.cid (fun c => { c with bookings := [], slotReads := [], pinned := [], stageLeft := 0 })
  s.endCmd c.fn c.sq c.cid Sc.unrecoveredRead

/-- Reconstruction of a direct read from the reserve (Table 03-5): W − 2 survivors of the row, and the parity engine's time where the last
decode ends (R59). -/
def State.reconFrom (s : State) (c : Cmd) (k : Nat) (i : IuPlan) : Fallback :=
  let w := s.rowWidth i.band i.row
  let surv := (s.survivors i.band i.row i.die).take (w - 2)
  if w < 3 ∨ surv.length < w - 2 then .noTime
  else
    let u := s.iuUnits i.iu
    let tail := tPar + s.tailQ c
    let l := surv.filterMap (fun d => (s.profileOf d).map (fun p =>
      let hard := hardNs p.code * cwCount u * 55440
      let own := (s.susUnits d p + p.tR) * q16 + s.xferQ (dieChan d) (p.moved u) + hard
      let r := s.reserveRead c i.iu d p 1 (.set 0) hard (own + tail)
      (r, p, ((s.waitQ d r.latest p).map (fun x => tHand + x + own)))))
    if l.any (fun e => e.2.2.isNone) then .noTime
    else
      let worst := l.foldl (fun m e => max m (e.2.2.getD 0)) 0
      if !fitsLeft (s.leftQ c) (worst + tail) then .noTime
      else
        let par := shares s.plt.frame 3 0 (unitsOf tPar) tPar (s.nowOff + worst)
        s.onReserve (l.map (fun e => (e.1, e.2.1))) (fun t => (t.1.bookAll par).map (fun v =>
          (((v.withdraw i.resv.toList).addBookings c (t.2 ++ par)).setIu c k { i with
            detour := true, members := surv.map (fun d => (d, 0)), conting := none, soft := none, resv := none })))

/-- Extra array reads of one die from the reserve, the first in reference state `ref`, then a decode of `dec` q. -/
def State.extraReads (s : State) (c : Cmd) (k : Nat) (i : IuPlan) (die n : Nat) (ref : RefState) (dec : Nat) : Fallback :=
  match s.profileOf die with
  | none => .noTime
  | some p =>
    let x := s.xferQ (dieChan die) (p.moved (s.iuUnits i.iu))
    let own := (s.susUnits die p + n * p.tR) * q16 + n * x + dec
    let tail := (if i.detour then tPar else 0) + s.tailQ c
    let r := s.reserveRead c i.iu die p n ref dec (own + tail)
    match s.waitQ die r.latest p with
    | none => .noTime
    | some w =>
      if !s.dieLive die || !fitsLeft (s.leftQ c) (tHand + w + own + tail) then .noTime
      else s.onReserve [(r, p)] (fun t => some ((t.1.addBookings c t.2).setIu c k i))

/-- A soft attempt on a member from the reserve: of the codewords that failed (R290). -/
def State.softFrom (s : State) (c : Cmd) (k : Nat) (i : IuPlan) (die : Nat) : Fallback :=
  match s.profileOf die with
  | none => .noTime
  | some p => s.extraReads c k { i with soft := some die } die p.softReads (.soft 1) (softNs p.code p.softReads * s.cwLeft i die * 55440)

/-- A retry-ladder step from the reserve: one array read at its set and a hard decode of the codewords that failed (R290); none for a command
with Limited Retry (R368). -/
def State.ladderStep (s : State) (c : Cmd) (k : Nat) (i : IuPlan) (die step : Nat) : Fallback :=
  match s.profileOf die with
  | none => .noTime
  | some p =>
    if c.lr ∨ min p.retryLen (s.fld F.LDP_CFG_LADDER_MAX 0) < step then .noTime
    else s.extraReads c k i die 1 (.set step) (hardNs p.code * s.cwLeft i die * 55440)

/-- A member's read issued anew from the reserve, where its die still answers (R100: no detour is possible); a further soft attempt would be
paid from the reserve as well. -/
def State.reread (s : State) (c : Cmd) (k : Nat) (i : IuPlan) (die : Nat) : Fallback :=
  match s.profileOf die with
  | none => .noTime
  | some p => (s.withdraw i.resv.toList).extraReads c k (({ i with soft := none, resv := none } : IuPlan).mark die 0) die 1 (.set 0) (hardNs p.code * cwCount (s.iuUnits i.iu) * 55440)

/-- The outcomes of the paths tried in order: the first that runs; otherwise whether the reserve was what failed one. -/
def firstRun : List Fallback → Bool → State ⊕ Bool
  | [], e => .inr e
  | .runs s :: _, _ => .inl s
  | .noReserve :: rest, _ => firstRun rest true
  | .noTime :: rest, e => firstRun rest e

/-- The paths of a read are exhausted by the reserve (R82). -/
def State.reserveOut (s : State) (g : Nat) (exhausted : Bool) : State :=
  if exhausted then (s.bump F.PLT_RECON_EXHAUST_COUNT g 1).event F.PLT_EVENTS_RECON_EXHAUST 0 g else s

/-- The plane of an IU's target slot. -/
def State.iuPlane (s : State) (i : IuPlan) : Nat :=
  match s.profileOf i.die with
  | some p => i.slot % max 1 p.planes
  | none => 0

/-- A page of a die: band, row, plane and sheet of what a lane decoded. -/
structure PageRef where
  die : Nat
  block : Nat
  page : Nat
  plane : Nat
  mask : Nat               -- codewords that failed
  deriving DecidableEq, Repr

/-- What a lane posts of a slot (R297): the slot, the mode that succeeded, 3 where it ended UNCORRECTED, or 4 + the mode of a decode that failed and
is not the last; the corrected bits, the ladder set, the codewords that failed. -/
def postOf (g : PageRef) (result corrected ladder : Nat) : Out := .answer 0x0B0 [g.die, g.block, g.page, g.plane, result, corrected, ladder, g.mask]

/-- A position of one row becomes an erasure (R196): SECOND_ERASURE at the second. -/
def State.eraseAt (s : State) (b row sh : Nat) : State :=
  let x := s.bandRec b
  let m := tabGet (fun _ => 0) x.erased row
  if maskBit m sh then s
  else
    let s := s.setBand b { x with erased := tabSet (fun _ => 0) x.erased row (maskSet m sh) }
    if s.erasures b row = 2 then s.event F.PAR_EVENTS_SECOND_ERASURE 0 b else s

/-- A slot ends UNCORRECTED (R297, R298): the post, the counter, the event, one record; its position is an erasure of its row (R196). -/
def State.uncorrected (s : State) (lane : Nat) (g : PageRef) : State :=
  let q := chanQuad (dieChan g.die)
  let s := (((s.emit (postOf g 3 0 0)).bump F.LDP_CNT_UNCORR_COUNT q 1).mediaCount 3 1).event F.LDP_EVENTS_UNCORRECTED q g.die
  let s := s.record 0x0B0 lane 0 0x000D (g.die % 2 ^ 11 + g.block % 2 ^ 13 * 2 ^ 11 + g.page % 2 ^ 16 * 2 ^ 24
    + g.plane % 8 * 2 ^ 40 + g.mask % 16 * 2 ^ 43)
  s.eraseAt (s.bandOf g.die g.block) g.page (dieSheet g.die)

/-- The target slot of an IU whose decode has failed (R298), where it has been decoded at all. -/
def State.targetFailed (s : State) (i : IuPlan) : Option PageRef :=
  match tabGet (fun _ => 0) i.bad i.die with
  | 0 => none
  | m => some ⟨i.die, (s.bandRec i.band).member i.band (dieSheet i.die), i.row, s.iuPlane i, m⟩

/-- No path is left for one IU (R82): a target slot whose decode failed is UNCORRECTED (R298); RECON_EXHAUST where the reserve was what failed,
the IU reported to Surveyor firmware, the read's end. -/
def State.iuLost (s : State) (c : Cmd) (i : IuPlan) (exhausted : Bool) : State :=
  let s := match s.targetFailed i with
    | some g => s.uncorrected (2 * dieChan i.die) g
    | none => s
  let s := ((s.reserveOut (dieGroup i.die) exhausted).emit (.answer 0x030 [i.iu])).emit (.firmware (irqOf .PLT_EVENTS 0))
  match s.findCmd c.fn c.sq c.cid with
  | some c => s.readLost c
  | none => s

/-- A member whose read is still to come: its first, or a further one of a soft attempt or a ladder step (R296). -/
def IuPlan.awaits (i : IuPlan) (m : Nat × Nat) : Bool :=
  decide (m.2 = 0 ∨ (m.2 = 2 ∧ (i.detour = false ∨ i.soft = some m.1)))

/-- The reads of an IU of a command on the dies `p` names count for it no more (R101): those not started leave the queues, those that run are
stale. -/
def State.dropReads (s : State) (c : Cmd) (i : IuPlan) (p : Nat → Bool) : State :=
  let mine := fun (d : Nat) (o : DieOp) => p d && decide (o.cmd = some (c.fn, c.sq, c.cid) ∧ o.iu = i.iu + 1)
  let mark := fun (e : Nat × Option Running) =>
    (e.1, e.2.map (fun (r : Running) => if mine e.1 r.op then { r with op := { r.op with stale := true } } else r))
  { s with plt := { s.plt with
      queue := (s.plt.queue.map (fun (e : Nat × List DieOp) => (e.1, e.2.filter (fun o => !mine e.1 o)))).filter (fun e => !e.2.isEmpty),
      later := s.plt.later.filter (fun e => !mine e.2.1 e.2.2),
      running := s.plt.running.map mark, reading := s.plt.reading.map mark } }

/-- One IU of a command whose reads from the dies `p` names will not come (R100, R240, R296): a direct read becomes a detour paid for by
the reconstruction reserve, a detour takes its contingency member, and where neither can be the read is issued anew on its die; with no path
left the read ends as in R82. -/
def State.replanIu (s : State) (c : Cmd) (k : Nat) (i : IuPlan) (p : Nat → Bool) : State :=
  let out := i.members.filter (fun m => p m.1 && i.awaits m)
  if i.ended || out.isEmpty then s
  else
    let s := (s.mapCmd c.fn c.sq c.cid (fun c => { c with replanned := true })).dropReads c i p
    let paths := if !i.detour then s.reconFrom c k i :: out.map (fun m => s.reread c k i m.1)
      else match out with
        | [m] =>
          let i' := { i with members := i.members.filter (fun x => decide (x.1 ≠ m.1)), conting := i.conting.filter (fun m => !p m),
                             soft := if i.soft = some m.1 then none else i.soft }
          [s.contingFrom c k i', s.reread c k i m.1]
        | _ => []
    match firstRun paths false with
    | .inl t => t
    | .inr e => s.iuLost c i e

/-! ### Decodes that fail (Table 03-5, R290, R298) -/

/-- A reservation of a soft decode is placed, or its decode is on a lane. -/
def State.softHeld (s : State) (id : Nat) : Bool :=
  s.lanes.any (fun e => (e.2.res ++ (e.2.busy.toList ++ e.2.yielded).filter (fun j => decide (j.mode = 1))).any (fun j => decide (j.id = id)))

/-- The soft reads held behind an IU's hard read on a die are withdrawn (`free` false) or released to the die (R291). -/
def State.softReads (s : State) (c : Cmd) (i : IuPlan) (die : Nat) (free : Bool) : State :=
  let mine := fun (d : Nat) (o : DieOp) => decide (d = die) && o.held && o.of c && decide (o.iu = i.iu + 1)
  let q := s.dieQueue die
  let q := if free then q.map (fun o => if mine die o then { o with held := false } else o) else q.filter (fun o => !mine die o)
  let l := if free then s.plt.later.map (fun e => if mine e.2.1 e.2.2 then (e.1, e.2.1, { e.2.2 with held := false }) else e)
    else s.plt.later.filter (fun e => !mine e.2.1 e.2.2)
  { s with plt := { s.plt with queue := tabSet (fun _ => []) s.plt.queue die q, later := l } }

/-- Reads an IU needs: its own page, or W − 2 members of its row. -/
def State.needed (s : State) (i : IuPlan) : Nat := if i.detour then s.rowWidth i.band i.row - 2 else 1

/-- The next step of Table 03-5, or the end of the read: its slot, where no decode of it was tried the one that failed last, ends
UNCORRECTED (R298). -/
def State.orLost (s : State) (c : Cmd) (lane : Nat) (g : PageRef) (i : IuPlan) (l : List Fallback) : State :=
  match firstRun l false with
  | .inl t => t
  | .inr e => (if (s.targetFailed i).isSome then s else s.uncorrected lane g).iuLost c i e

/-- Members of an IU's plan that may still come to be decoded without more work than is under way. -/
def IuPlan.hopeful (i : IuPlan) : Nat :=
  (i.members.filter (fun m => decide (m.2 = 0 ∨ m.2 = 1 ∨ m.2 = 4 ∨ i.soft = some m.1))).length

/-- What Table 03-5 leaves for a detour that has lost a member: nothing more while the others suffice; else the contingency member, else
a soft attempt on a member that failed its hard decode and has had none. -/
def State.detourNext (s : State) (c : Cmd) (k : Nat) (i : IuPlan) (lane : Nat) (g : PageRef) : State :=
  if s.needed i ≤ i.hopeful then s.setIu c k i
  else s.orLost c lane g i (s.contingFrom c k i :: (if i.soft.isSome then [] else
    ((i.members.filter (fun m => decide (m.2 = 2))).map (fun m => s.softFrom c k i m.1))))

/-- A decode for a read that ended in failure (Table 03-5). `mode` is 0 hard, 1 soft, 2 ladder step `step`. -/
def State.decodeFailed (s : State) (c : Cmd) (k : Nat) (i : IuPlan) (lane mode step : Nat) (g : PageRef) : State :=
  let i := i.failed g.die g.mask
  if !i.detour then
    if mode = 0 then
      if (i.resv.map s.softHeld).getD false then (s.setIu c k { i.mark g.die 2 with soft := some g.die }).softReads c i g.die true
      else
        -- its reservation has been dropped: paid from the reserve (R295)
        let i : IuPlan := { i.mark g.die 2 with resv := none }
        let s := s.softReads c i g.die false
        s.orLost c lane g i [s.softFrom c k i g.die, s.reconFrom c k i, s.ladderStep c k i g.die 1]
    else
      let i := i.mark g.die 2
      let s := s.withdraw i.resv.toList
      s.orLost c lane g i [s.reconFrom c k i, s.ladderStep c k i g.die (if mode = 2 then step + 1 else 1)]
  else if mode = 0 then s.detourNext c k (i.mark g.die 2) lane g
  else s.detourNext c k { i.mark g.die 3 with soft := if i.soft = some g.die then none else i.soft } lane g

/-- The page of an IU's plan that a die holds; every codeword of it counts as failed. -/
def State.pageOf (s : State) (i : IuPlan) (die : Nat) : PageRef :=
  ⟨die, (s.bandRec i.band).member i.band (dieSheet die), i.row, s.iuPlane i, if s.iuUnits i.iu = 1 then 2 ^ (s.lookup i.iu).quarter else 15⟩

/-- The read that runs on a die is re-planned, its owner fenced (R100). -/
def State.replanStarted (s : State) (d : Nat) : State :=
  let ops := ((tabGet (fun _ => none) s.plt.reading d).toList ++ (tabGet (fun _ => none) s.plt.running d).toList).map Running.op
  ops.foldl (fun s o => match o.cmd.bind (fun x => s.findCmd x.1 x.2.1 x.2.2) with
    | none => s
    | some c => match ((List.range c.ius.length).zip c.ius).find? (fun e => decide (e.2.iu + 1 = o.iu)) with
      | some (k, i) => if c.phase = .running then s.replanIu c k i (fun x => decide (x = d)) else s
      | none => s) s

/-- The reads outstanding on the dies `p` names are re-planned. -/
def State.replanReads (s : State) (p : Nat → Bool) : State :=
  s.cmds.foldl (fun s c =>
    if c.phase ≠ .running then s
    else (List.range c.ius.length).foldl (fun s k =>
      match s.findCmd c.fn c.sq c.cid with
      | some c => if c.phase ≠ .running then s else match c.ius[k]? with
        | some i => s.replanIu c k i p
        | none => s
      | none => s) s) s

/-! ### What a DRAM unit held (Table 14-9) -/

def State.dramCh (s : State) (n : Nat) : Dram := tabGet (fun _ => Dram.reset) s.dram n
def State.setDram (s : State) (n : Nat) (x : Dram) : State := { s with dram := tabSet (fun _ => Dram.reset) s.dram n x }

/-- A read or copy is outstanding against a staging slot. -/
def State.holdSlot (s : State) (a : Nat) : State :=
  match s.slotOf a with
  | some x => s.setStage a (some { x with reads := x.reads + 1 })
  | none => s
def State.unholdSlot (s : State) (a : Nat) : State :=
  match s.slotOf a with
  | some x => (s.setStage a (some { x with reads := x.reads - 1 })).freeSlot a
  | none => s

/-- An assembly slot closes (R133): a held previous slot returns, the reservation of the poison table goes (R431), its band is unpinned.
The read-modify-write it did not use is released whole, of one it `used` the tiles (R133, R136). -/
def State.closeAsm (s : State) (a : Assembly) (used : Bool) : State :=
  let s := if a.prev.st = .staged then s.unholdSlot a.prev.addr else s
  let s := match a.pin with
    | some b => s.unpinBand b
    | none => s
  let s := if used then s.unbook (a.books.filter (fun b => decide (b.res = 8))) else s.dropRmw a.iu a.books
  let s := s.dropAsm a.iu
  { s with atl := { s.atl with poisonRes := s.atl.poisonRes - a.pres } }

/-- Assembly slots of discarded IUs close unused (R129, R133). -/
def State.closeSlots (s : State) (p : Nat → Bool) : State := (s.atl.asm.filter (fun a => p a.iu)).foldl (fun s a => s.closeAsm a false) s

/-- POISON of an IU (R126, R142): its assembly slot closes, its mask entry goes, the update is journalled. -/
def State.poisonIu (s : State) (key reason : Nat) : State :=
  let e : Ent := ⟨.poisoned, reason * 2 ^ 32, 0⟩
  ((s.closeSlots (fun k => decide (k = key))).setPoison key 0).swapAll 1 [(key, e, 0)]

/-- The DRAM channels over which units are interleaved (R445): those not fenced, in rising order. -/
def State.chansUp (s : State) : List Nat := (List.range 12).filter (fun n => !(s.dramCh n).fenced && !s.fenced 0x070 n)

/-- Channel and channel address of the 4 KiB unit `a` of the staging region, in rotation over the channels `l` (R445). -/
def stagingUnit (l : List Nat) (a : Nat) : Nat × Nat :=
  (l.getD ((Config.stagingBase + a) % max 1 l.length) 0, (Config.stagingBase + a) / max 1 l.length * 4096)

/-- The staging slots with a unit of which `p` holds, by channel and channel address. -/
def State.stagedIn (s : State) (l : List Nat) (p : Nat → Nat → Bool) : List Nat :=
  s.atl.stage.filterMap (fun e => e.2.bind (fun x =>
    if (List.range (s.iuUnits x.iu)).any (fun k => let u := stagingUnit l (e.1 + k); p u.1 u.2) then some e.1 else none))

/-- A staged IU is lost with its DRAM unit (Table 14-9): POISON with reason 1, a record naming pool and IU; programs from it are
abandoned. -/
def State.stagingLost (s : State) (a : Nat) : State :=
  match s.slotOf a with
  | none => s
  | some x =>
    let s := if x.live then
        (s.poisonIu x.iu 1).record 0x070 0 0 0x000E (x.iu % 2 ^ 40 + x.iu / 2 ^ 40 * 2 ^ 40 + 3 * 2 ^ 45) else s
    match s.slotOf a with
    | some y => (s.setStage a (some { y with progs := 0, live := false })).freeSlot a
    | none => s

/-- A stripe journal entry is lost with its DRAM unit (Table 14-9): the parity engine builds its partial P and Q anew, to the bytes they
were, from the WRITTEN positions read from flash and the FOLDED ones still in staging; the reads are booked as debt. -/
def State.stripeLost (s : State) (k : Nat) : State :=
  let x := s.jslot k
  let l := (maskList x.written).filterMap (fun sh => (s.profileOf (128 * sh + x.band % 128)).map Profile.tR)
  if x.st = .free then s else s.owe (x.band % 128) (l.foldl (fun n t => n + t) 0 * max 1 x.planes)

end Sys2Proof.Machine
end

