-- ==== Sys2Proof/Machine/OpsFence.lean ====
section
/-! DEFINITION. What a fence means for the work of each unit (Table 18-2, the chapters' own fence rules), the bays' transitions
(Table 10-3), and `State.raise`: a fault raised and reacted to (R531 to R545). -/

set_option linter.unusedVariables false

namespace Sys2Proof.Machine

/-- Every die operation outstanding with its die: queued, booked for later, running, or a read under a suspended operation. -/
def State.allOps (s : State) : List (Nat × DieOp) :=
  s.plt.queue.flatMap (fun (e : Nat × List DieOp) => e.2.map (fun o => (e.1, o))) ++ s.plt.later.map Prod.snd
    ++ (s.plt.running ++ s.plt.reading).filterMap (fun (e : Nat × Option Running) => e.2.map (fun r => (e.1, r.op)))

/-! ### Host ports and Waypoint engines -/

/-- Functions of a port. -/
def portFns (p : Nat) : List Nat := (List.range 128).map (fun k => 128 * p + k)

/-- VF Enable of a PF is clear: its VFs are not enabled and hold their reset values (R329, R353). -/
def State.clearVfs (s : State) (p : Nat) : State :=
  let x := s.fnOf (128 * p)
  let s := s.setFn (128 * p) { x with vfEnable := false, numVfs := 0 }
  (List.range' 1 127).foldl (fun s v =>
    let f := 128 * p + v
    let x := s.fnOf f
    if x.enabled then s.setFn f { Fn.reset f with bar4 := x.bar4, quota := x.quota, quotaUsed := x.quota, engine := x.engine } else s) s

/-- R352: a conventional reset of a port resets every enabled function of it. -/
def State.resetPort (s : State) (p : Nat) : State :=
  (s.resetFns ((portFns p).filter (fun f => (s.fnOf f).enabled)) 1).clearVfs p

/-- A port whose link goes down (R352, R354). -/
def State.linkDown (s : State) (p : Nat) : State :=
  let x := s.port p
  (s.setPort p { x with up := false, rate := 0, gen := 0, width := 0 }).resetPort p

/-- The next unfenced Waypoint engine of a port, ascending from `e`. -/
def State.nextWaypoint (s : State) (p e : Nat) : Option Nat :=
  ((List.range 128).map (fun k => 128 * p + (e + 1 + k) % 128)).find? (fun j => !s.fenced 0x020 j)

/-- Live epochs of a function: those that its fetches, commands and die operations outstanding carry (R99). -/
def State.liveFnEpochs (s : State) (f : Nat) : List Nat :=
  ((s.cmds.filter (fun c => decide (c.fn = f))).map Cmd.epoch
    ++ (s.sqs.filterMap (fun e => if e.1 / 1024 = f then e.2.map (fun q => q.fetching.map (fun x => x.2.2)) else none)).flatten
    ++ (s.allOps.filter (fun o => decide ((o.2.fnEpoch.map Prod.fst) = some f))).filterMap (fun o => o.2.fnEpoch.map Prod.snd)).dedup

/-- The epoch whose operations must retire before a move from epoch `cur` (R99): a move that would make a fifth epoch live waits for the
oldest, and one to a value still outstanding for that. -/
def moveBar (cur : Nat) (live : List Nat) : Option Nat :=
  let age := fun e => (cur + 65536 - e % 65536) % 65536
  if live.contains ((cur + 1) % 65536) then some ((cur + 1) % 65536)
  else if 4 ≤ live.length then
    live.foldl (fun (m : Option Nat) e => match m with
      | none => some e
      | some x => if age x < age e then some e else m) none
  else none

/-- A function moves to another Waypoint engine of its port under a new epoch (R98), or its move waits (R99). -/
def State.moveFn (s : State) (f j : Nat) : State :=
  let rest := s.plt.fnMoves.filter (fun e => decide (e.1 ≠ f))
  match moveBar (s.fnEpoch f) (s.liveFnEpochs f) with
  | some old => { s with plt := { s.plt with fnMoves := rest ++ [(f, j, old)] } }
  | none =>
    let s := s.setFn f { s.fnOf f with engine := j }
    { s with plt := { s.plt with fnMoves := rest, fnEpoch := tabSet (fun _ => 0) s.plt.fnEpoch f ((s.fnEpoch f + 1) % 65536) } }

/-- The functions of a fenced Waypoint engine move (R98). -/
def State.moveFns (s : State) (e j : Nat) : State :=
  (portFns (e / 128)).foldl (fun s f => if (s.fnOf f).engine = e then s.moveFn f j else s) s

/-! ### Atlas engines and DRAM -/

/-- Segments go under recovery (R148): SEG_RECOVERING follows. -/
def State.startRecovery (s : State) (ks : List Nat) : State :=
  { s with atl := { s.atl with recovering := (s.atl.recovering ++ ks).dedup } }

/-- Steering slots that name a fenced engine move to surviving ones (R148): all of them to the next unfenced one, ascending (DESIGN CHOICE,
log entry 50: the rule says only that they move to surviving engines). -/
def State.resteer (s : State) (e : Nat) : State :=
  match ((List.range 16).map (fun k => (e + 1 + k) % 16)).find? (fun j => !s.fenced 0x040 j) with
  | none => s
  | some j =>
    (List.range 64).foldl (fun s k =>
      let w := s.rg .ATL_STEER (k / 8)
      let lo := 4 * (k % 8)
      if bits w (lo + 3) lo = e then s.setReg .ATL_STEER (k / 8) (putBits w (lo + 3) lo j) else s) s


/-- The fence of an Atlas engine (R148): its segments are recovered, its steering slots move. -/
def State.fenceAtlas (s : State) (e : Nat) : State :=
  let x := s.atlEng e
  let ks := x.held.map Held.seg ++ x.bufs.map Evict.seg
  let s := ks.foldl (fun s k => s.setDir k .uncached) (s.setAtlEng e ⟨[], []⟩)
  ((s.startRecovery ks).resteer e).event F.ATL_EVENTS_ENGINE_FENCED 0 e


/-- The namespaces of a list of pools. -/
def State.nsOfPools (s : State) (ps : List Nat) : List Nat :=
  s.atl.ns.filterMap (fun e => e.2.bind (fun n => if ps.contains n.pool then some e.1 else none))

/-- The segments of a pool that lie on a DRAM channel. -/
def State.segsOn (s : State) (p n : Nat) : List Nat :=
  ((List.range (((s.poolOf p).map Pool.segs).getD 0)).map (fun i => p * 2 ^ 32 + i)).filter (fun k => decide (s.segChan k = n))

/-- The fence of a DRAM channel (R149, R453, R50, R51, R55): its map segments are lost and recovered; the promise is suspended for the
namespaces of their pools, with MAP_REBUILD on their functions and one record. Its interleaved units are lost as by an uncorrectable error
(Table 14-9): staged IUs with a unit there, every stripe journal entry (one spans every channel); what else it held is restored. Reads
in flight there are answered with an error (Table 14-10). -/
def State.fenceDram (s : State) (n : Nat) : State :=
  let x := s.dramCh n
  let s := ((x.queue ++ x.waiting).filter (fun r => !r.wr)).foldl (fun s r => s.emit (.answer 0x070 [r.port, r.id, 0])) s
  let before := (List.range 12).filter (fun k => decide (k = n) || s.chansUp.contains k)
  let s := s.setDram n { x with fenced := true, queue := [], waiting := [] }
  let s := (s.event F.DRC_CH_EVENTS_CH_FENCED n 0).recomputeBudget
  let s := (s.stagedIn before (fun c _ => decide (c = n))).foldl State.stagingLost s
  let s := (s.par.slot.map Prod.fst).foldl State.stripeLost s
  let segs := (s.atl.pools.filter (fun e => e.2.isSome)).flatMap (fun e => s.segsOn e.1 n)
  let nss := s.nsOfPools ((segs.map (fun k => k / 2 ^ 32)).dedup)
  let s := { (s.startRecovery segs) with atl :=
    { (s.startRecovery segs).atl with segLost := (s.atl.segLost ++ segs).dedup, suspended := (s.atl.suspended ++ nss.map (fun k => (k, n))).dedup } }
  if nss.isEmpty then s
  else
    let s := { s with cmds := s.cmds.map (fun (c : Cmd) => if nss.contains c.nsid then { c with suspended := true } else c) }
    let fs := (nss.flatMap (fun k => ((s.nsOf k).map Ns.attached).getD [])).dedup
    let s := fs.foldl (fun s f => s.promise f F.HST_PROMISE_EVENTS_MAP_REBUILD) s
    s.suspRecord true 5 (nss.getD 0 0)

/-- The fence of a 64 MiB region of a channel (R452): its map segments are recovered elsewhere, its staged IUs are programmed ahead of other
staged data, and it is not accessed again. Its other interleaved units go to other regions unchanged. -/
def State.fenceRegion (s : State) (ch region : Nat) : State :=
  let x := s.dramCh ch
  let s := (s.setDram ch { x with regions := if x.regions.contains region then x.regions else x.regions ++ [region], returning := false }).event
    F.DRC_CH_EVENTS_REGION_FENCED ch region
  let segs := ((s.atl.pools.filter (fun e => e.2.isSome)).flatMap (fun e => s.segsOn e.1 ch)).filter (fun k => decide (s.segAddr k / 2 ^ 26 = region))
  let s := segs.foldl (fun s k => s.setSeg k { s.segOf k with moved := (s.segOf k).moved + 1 }) (s.startRecovery segs)
  { s with atl := { s.atl with evac := (s.atl.evac ++ s.stagedIn s.chansUp (fun c a => decide (c = ch ∧ a / 2 ^ 26 = region))).dedup } }

/-! ### Dies, channels, engines and lanes -/

/-- The tiles of a die operation that has ended return, where its command no longer holds them (R438). -/
def State.opEnds (s : State) (op : DieOp) : State := if op.orphan then s.unbook op.tiles else s

/-- The operations a die runs are over without a result. -/
def State.dropRunning (s : State) (d : Nat) : State :=
  let s := ((s.runningOp d).toList ++ (tabGet (fun _ => none) s.plt.reading d).toList).foldl (fun s r => s.opEnds r.op) s
  { s with plt := { s.plt with running := tabSet (fun _ => none) s.plt.running d none,
                               reading := tabSet (fun _ => none) s.plt.reading d none } }

def State.ctxOf (s : State) (d : Nat) : Ctx := tabGet (fun _ => Ctx.reset) s.trv.ctx d
def State.setCtx (s : State) (d : Nat) (x : Ctx) : State :=
  { s with trv := { s.trv with ctx := tabSet (fun _ => Ctx.reset) s.trv.ctx d x } }

/-- The Traverse engine within its channel that owns a die; the home engine where none is recorded (R16). -/
def State.owner (s : State) (d : Nat) : Nat := tabGet dieHome s.plt.dieOwner d

/-- The address fetched for an address of a kind's control store: that of the redirect table's entry for it (R267). -/
def State.fetchAddr (s : State) (kind addr : Nat) : Nat :=
  match (tabGet (fun _ => Ucode.reset) s.trv.ucode kind).redirect.find? (fun e => decide (e.1 = addr)) with
  | some e => e.2
  | none => addr

/-- The word at an address of a kind's control store (R266): ROM, or patch RAM from 0xE00 on. -/
def State.storeAt (s : State) (kind addr : Nat) : BitVec 128 :=
  if addr < 0xE00 then Config.romWord kind addr else tabGet (fun _ => 0#128) (tabGet (fun _ => Ucode.reset) s.trv.ucode kind).ram (addr - 0xE00)

/-- The word fetched for an address. -/
def State.storeWord (s : State) (kind addr : Nat) : BitVec 128 := s.storeAt kind (s.fetchAddr kind addr)

/-- The engine enters one of its handlers for a die (R270, Table 08-6): the answer names the die and the word of the store it begins with. -/
def State.enterAt (s : State) (d a : Nat) : State :=
  (s.setCtx d { s.ctxOf d with pc := a, handler := a }).emit (.die d 7 (s.fetchAddr 0 a))

/-- The mover of a channel takes the bus when it is free (R258). -/
def State.grantMover (s : State) (c : Nat) : State :=
  if tabGet (fun _ => 0) s.trv.busHold c ≠ 0 then s
  else match ((List.range 16).map (fun k => 16 * c + k)).find? (fun d => (s.ctxOf d).moving.isSome) with
    | some d => { s with trv := { s.trv with busHold := tabSet (fun _ => 0) s.trv.busHold c (4097 + d) } }
    | none => s

/-- The bus grant of a die's channel goes, where the die's chain or its burst holds it (R258). -/
def State.freeBus (s : State) (d : Nat) : State :=
  let h := tabGet (fun _ => 0) s.trv.busHold (dieChan d)
  if h = d + 1 ∨ h = 4097 + d then
    { s with trv := { s.trv with busHold := tabSet (fun _ => 0) s.trv.busHold (dieChan d) 0 } }
  else s

/-- CE_N of a die goes high (R259, R280). -/
def State.ceHigh (s : State) (d : Nat) : State :=
  if tabGet (fun _ => 0) s.trv.ce (dieChan d) = d % 16 / 2 + 1 then
    { s with trv := { s.trv with ce := tabSet (fun _ => 0) s.trv.ce (dieChan d) 0 } }
  else s

/-- The fence of one die (R201, R205, R248, R271): 0x010 is entered, its operation is abandoned, its bands react, the layout changes. -/
def State.fenceDie (s : State) (d : Nat) : State :=
  let x := s.dieOf d
  if x.fenced then s
  else
    let s := (s.setDie d { x with fenced := true, resumeDue := false, suspAt := none, held := false }).dropRunning d
    let s := { s with plt := { s.plt with
      dieFenced := tabSet (fun _ => false) s.plt.dieFenced d true,
      dieMoves := s.plt.dieMoves.filter (fun e => decide (e.1 ≠ d)),
      later := s.plt.later.filter (fun e => decide (e.2.1 ≠ d)),
      queue := tabSet (fun _ => []) s.plt.queue d [] } }
    let c := { s.ctxOf d with st := CtxState.fenced, pend := [], plans := [], waiting := false, moving := none, inRead := false, chain := 0, atomic := false }
    let s := (((s.freeBus d).setCtx d c).enterAt d 0x010).grantMover (dieChan d)
    ((s.rebuildAfter (fun k => decide (k = d)) (2 ^ dieSheet d)).replanReads (fun k => decide (k = d))).layoutStep

/-- The fence of a flash channel: its 16 dies become erasures (Table 18-2, R201). -/
def State.fenceChannel (s : State) (c : Nat) : State :=
  ((s.rebuildAfter (fun k => decide (dieChan k = c)) (2 ^ (c / 8))).replanReads (fun k => decide (dieChan k = c))).layoutStep

/-- Context slots an engine has in use (R256). -/
def State.slotsOfEngine (s : State) (c e : Nat) : Nat :=
  countBelow 16 (fun k => decide (s.owner (16 * c + k) = e) && (s.dieOf (16 * c + k)).present)

/-- An engine of a channel that can take a die (R278): not fenced, not isolated, a slot free. -/
def State.engineFree (s : State) (c e : Nat) : Bool :=
  !s.fenced 0x0A2 (4 * c + e) && !(s.unit 0x0A2 (4 * c + e)).isolated && decide (s.slotsOfEngine c e < 8)

/-- The new owner the Plotter chooses for a die (R278): its home engine where it can be, else the free engine next after
its home in ascending order (the order is the model's, log entry 14). -/
def State.newOwner (s : State) (d : Nat) : Option Nat :=
  ((List.range 4).map (fun k => (dieHome d + k) % 4)).find? (s.engineFree (dieChan d))

/-- Live epochs of a die: those that its operations outstanding carry (R99). -/
def State.liveEpochs (s : State) (d : Nat) : List Nat :=
  ((s.allOps.filter (fun o => decide (o.1 = d))).map (fun o => o.2.epoch)).dedup

/-- The running program of a die writes a position of a stripe slot. -/
def State.writesAt (s : State) (d : Nat) (x : Slot) : Bool :=
  let p := max 1 (((s.profileOf d).map Profile.pages).getD 1)
  let row := (s.ctxOf d).row
  ((s.runningOp d).map (fun r => decide (r.op.kind = 1))).getD false && decide (s.bandOf d (row / p) = x.band ∧ row % p = x.row)

/-- EPOCHS of the positions whose programs are issued anew to a die (R100, R190, R191): folded data, or P and Q, not yet written. -/
def State.restamp (s : State) (d e : Nat) : State :=
  let sh := dieSheet d
  { s with par := { s.par with slot := s.par.slot.map (fun (y : Nat × Slot) =>
      let x := y.2
      let waits := maskBit x.folded sh || (decide (x.st = .parity ∨ x.st = .short) && decide (sh = x.pSheet ∨ sh = x.qSheet))
      if x.st ≠ .free ∧ x.band % 128 = dieGroup d ∧ waits = true ∧ maskBit x.written sh = false ∧ s.writesAt d x = false then
        (y.1, { x with epochs := listSet (x.epochs ++ List.replicate (16 - x.epochs.length) 0) sh e })
      else y) } }

/-- A die's epoch rises (R98): every operation not yet started is issued anew under it, its booking unchanged (R100). -/
def State.newEpoch (s : State) (d : Nat) : State :=
  let e := (s.dieEpochOf d + 1) % 65536
  let s := s.restamp d e
  { s with plt := { s.plt with
      dieEpoch := tabSet (fun _ => 0) s.plt.dieEpoch d e,
      queue := tabSet (fun _ => []) s.plt.queue d ((s.dieQueue d).map (fun o => { o with epoch := e })),
      later := s.plt.later.map (fun x => if x.2.1 = d then (x.1, d, { x.2.2 with epoch := e }) else x) } }

/-- An operation started on a die but not confirmed, and every START not taken, are handed back (R100, R274, R279): the operation stands in
the die's queue again, under the die's present epoch, its booking unchanged. -/
def State.handBack (s : State) (d : Nat) : State :=
  let x := s.ctxOf d
  let s := s.setCtx d { x with plans := [], pend := x.pend.filter (fun k => decide (k ≠ 3)) }
  let again := fun (s : State) (r : Running) =>
    let s := s.setClosed d ((s.closedList d).filter (fun w => decide (w.op ≠ r.op.id + 1)))
    { s with plt := { s.plt with queue := tabSet (fun _ => []) s.plt.queue d ({ r.op with epoch := s.dieEpochOf d } :: s.dieQueue d) } }
  if x.confirmed then s
  else match tabGet (fun _ => none) s.plt.reading d with
    | some r => if x.inRead then
        let s := again s r
        ({ s with plt := { s.plt with reading := tabSet (fun _ => none) s.plt.reading d none } } : State).setCtx d { s.ctxOf d with inRead := false }
      else s
    | none => match s.runningOp d with
      | some r => if x.st = .running ∧ x.long = 0 then
          let s := again s r
          ({ s with plt := { s.plt with running := tabSet (fun _ => none) s.plt.running d none } } : State).setCtx d
            { s.ctxOf d with st := .idle, inRead := false }
        else s
      | none => s

/-- A die is bound to another engine of its channel. -/
def State.bindDie (s : State) (d e : Nat) : State :=
  { s with plt := { s.plt with dieOwner := tabSet dieHome s.plt.dieOwner d e, dieMoves := s.plt.dieMoves.filter (fun m => decide (m.1 ≠ d)) } }

/-- A move of a die waits for epoch `old` (R99). -/
def State.deferMove (s : State) (d e old : Nat) : State :=
  { s with plt := { s.plt with dieMoves := s.plt.dieMoves.filter (fun m => decide (m.1 ≠ d)) ++ [(d, e, old)] } }

/-- A die of a fenced owner is bound to another engine, which enters TAKEOVER (R100, R280): its CE_N goes high and the grant goes, a started read
is re-planned, a long operation goes on, a suspended one stays suspended. -/
def State.takeDie (s : State) (d e : Nat) : State :=
  let s := ((s.freeBus d).ceHigh d).emit (.die d 6 0)
  match moveBar (s.dieEpochOf d) (s.liveEpochs d) with
  | some old => s.deferMove d e old
  | none =>
    let s := (((s.newEpoch d).handBack d).bindDie d e).grantMover (dieChan d)
    let s := if (s.ctxOf d).inRead then s.replanStarted d else s
    let x := s.ctxOf d
    let keep := decide (x.st = .running ∧ x.long ≠ 0)
    let save := keep && decide (x.handler = 0)
    let x := { x with inRead := false, waiting := false, chain := 0, atomic := false, moving := none, migrated := keep,
                      resumePc := if save then x.pc else x.resumePc, saved := if save then x.c else x.saved,
                      st := if x.st = .running ∧ x.long = 0 then .idle else x.st }
    (s.setCtx d x).enterAt d 0x050

/-- A request joins those pending in the die context. -/
def Ctx.ask (x : Ctx) (k : Nat) : Ctx := { x with pend := if x.pend.contains k then x.pend else x.pend ++ [k] }
def Ctx.drop (x : Ctx) (k : Nat) : Ctx := { x with pend := x.pend.filter (fun j => decide (j ≠ k)) }

/-- The context stands at a boundary at which a request can be taken (R271). -/
def Ctx.atBoundary (x : Ctx) : Bool := !x.waiting && !x.atomic

/-- RELEASE is taken (R279 steps 2 to 6): 0x020 is entered, what has not started is handed back, a running long operation is saved and restored
by the new owner, to which the die is bound, and RELEASED is posted. -/
def State.releaseTo (s : State) (d e : Nat) : State :=
  let x := s.ctxOf d
  let s := (s.setCtx d (x.drop 1)).emit (.die d 7 (s.fetchAddr 0 0x020))
  let s := (s.handBack d).freeBus d
  let y := s.ctxOf d
  let s := if y.st = .running ∧ y.long ≠ 0 ∧ y.handler = 0 then s.setCtx d { y with resumePc := y.pc, saved := y.c } else s
  ((s.bindDie d e).grantMover (dieChan d)).emit (.answer 0x0A2 [d, e])

/-- A RELEASE reaches the die context: taken at a boundary outside a read routine, else pending; a second one names the owner anew
(Table 08-8). -/
def State.askRelease (s : State) (d e : Nat) : State :=
  let x := s.ctxOf d
  if x.st = .fenced then s
  else if x.atBoundary && !x.inRead then s.releaseTo d e
  else s.setCtx d { x.ask 1 with newOwner := e }

/-- The Plotter moves a die in order (R98, R99, R279 step 1): its epoch rises, or the move waits for an old one; then RELEASE. A second request
while one is pending names the owner anew: the epoch has risen already (Table 08-8). -/
def State.orderlyMove (s : State) (d e : Nat) : State :=
  let x := s.ctxOf d
  if x.st = .fenced then s
  else if x.pend.contains 1 then s.setCtx d { x with newOwner := e }
  else if e = s.owner d ∨ s.engineFree (dieChan d) e = false then s
  else match moveBar (s.dieEpochOf d) (s.liveEpochs d) with
    | some old => s.deferMove d e old
    | none => (s.newEpoch d).askRelease d e

/-- The dies of a Traverse engine move to its siblings (R16, R278): of a fenced one by TAKEOVER (R100, R280), of one isolated in order (R279).
The answer holds the dies that no engine can take. -/
def State.moveDies (s : State) (i : Nat) (fenced : Bool) : State × List Nat :=
  let c := i / 4
  (List.range 16).foldl (fun (a : State × List Nat) k =>
    let d := 16 * c + k
    let s := a.1
    if s.owner d = i % 4 ∧ (s.dieOf d).present ∧ (s.dieOf d).fenced = false then
      match s.newOwner d with
      | some e => (if fenced then s.takeDie d e else s.orderlyMove d e, a.2)
      | none => (s, a.2 ++ [d])
    else a) (s, [])

/-- Dies for which no engine has a free slot are fenced as UNIT faults of their channel (R278). -/
def State.fenceLeft (s : State) (ds : List Nat) : State :=
  ds.foldl (fun s d =>
    let u := s.unit 0x0A0 (dieChan d)
    let s := s.setUnit 0x0A0 (dieChan d) (u.mark .unit 0x0F false)
    (s.record 0x0A0 (dieChan d) 3 0x100F d).fenceDie d) s

/-- Moves that waited for an old epoch are carried out once its operations have retired (R99). -/
def State.retryMoves (s : State) : State :=
  let s := s.plt.dieMoves.foldl (fun s m =>
    if (s.liveEpochs m.1).contains m.2.2 then s
    else
      let s := { s with plt := { s.plt with dieMoves := s.plt.dieMoves.filter (fun x => decide (x.1 ≠ m.1)) } }
      if s.fenced 0x0A2 (4 * dieChan m.1 + s.owner m.1) then s.takeDie m.1 m.2.1 else s.orderlyMove m.1 m.2.1) s
  s.plt.fnMoves.foldl (fun s m => if (s.liveFnEpochs m.1).contains m.2.2 then s else s.moveFn m.1 m.2.1) s

/-- B lanes of a quadrant that are neither fenced nor isolated, without `l` (R295). -/
def State.otherB (s : State) (l : Nat) : List Nat := (s.lanesB (l / 64)).filter (fun j => decide (j ≠ l))

/-- A job comes to a lane: it runs where the lane is free, else it waits its turn (R293). -/
def Lane.take (x : Lane) (j : LdpJob) : Lane := if x.busy.isSome then { x with yielded := x.yielded ++ [j] } else { x with busy := some j }

/-- The IU of a command a lane's job decodes for, with its place in the plan. -/
def State.jobIu (s : State) (j : LdpJob) : Option (Cmd × Nat × IuPlan) :=
  (j.cmd.bind (fun x => s.findCmd x.1 x.2.1 x.2.2)).bind (fun c =>
    (((List.range c.ius.length).zip c.ius).find? (fun e => decide (e.2.iu + 1 = j.iu))).map (fun e => (c, e.1, e.2)))

/-- The decode time of a job, in q (Table 09-1): of all its codewords, or of those that failed (R290). -/
def State.jobQ (s : State) (j : LdpJob) : Nat :=
  let n := match s.jobIu j with
    | some (_, _, i) => if j.mode = 0 then cwCount (s.iuUnits i.iu) else s.cwLeft i j.die
    | none => 4
  match s.profileOf j.die with
  | some p => (if j.mode = 1 then softNs p.code p.softReads else hardNs p.code) * n * 55440
  | none => 0

/-- The tiles of a decode that is over return, where its command no longer holds them (R438). -/
def State.jobEnds (s : State) (j : LdpJob) : State := if j.orphan then s.unbook j.tiles else s

/-- A job that began on a lane now fenced (R295): it restarts on lane `to_`, where that still fits its read's bound; where it does not, or
no lane is left, the read goes to the next step of Table 03-5. -/
def State.restartJob (s : State) (lane : Nat) (to_ : Option Nat) (j : LdpJob) : State :=
  let on := fun (s : State) => match to_ with
    | some l => s.setLane l ((s.laneOf l).take { j with start := s.now })
    | none => s.jobEnds j
  match s.jobIu j with
  | none => on s
  | some (c, k, i) =>
    let tail := (if i.detour then tPar else 0) + s.tailQ c
    if to_.isSome && fitsLeft (s.leftQ c) (s.jobQ j + tail) then on s
    else s.decodeFailed c k i lane j.mode j.step (s.pageOf i j.die)

/-- The fence of an LDPC lane (R295). Lane 2 c is lane A of channel c, lane 2 c + 1 its lane B. Reservations move one by one to other B lanes
of the quadrant whose intervals are free (which of them is the model's, log entry 50); one that no lane can take is dropped. What it was
decoding restarts: hard decodes on the channel's lane B, soft ones on another B lane. -/
def State.fenceLane (s : State) (l : Nat) : State :=
  let s := s.event F.LDP_EVENTS_LANE_FENCED (l / 64) l
  let b := if l % 2 = 0 then l + 1 else l
  let x := s.laneOf b
  let other := s.otherB b
  let s := x.res.foldl (fun s j => (s.reserveOn other j).getD s) (s.setLane b { x with res := [] })
  let s := if l % 2 = 0 then s.setLane b { s.laneOf b with hardMoved := true } else s
  let y := s.laneOf l
  let s := s.setLane l { y with busy := none, yielded := [] }
  (y.busy.toList ++ y.yielded).foldl (fun s j =>
    s.restartJob l (if l % 2 = 0 then (if s.fenced 0x0B0 b then none else some b) else if j.mode = 1 then other.head? else none) j) s

/-! ### Sheet bays (Tables 10-3 and 10-4) -/

/-- The channels of a sheet (R15): 8 s to 8 s + 7. -/
def sheetChans (b : Nat) : List Nat := (List.range 8).map (fun k => 8 * b + k)

/-- A bay moves (R304, R306 to R308): WP_N low on its channels where SHB_PWREN is low, their training gone with the power; the rest as
`State.moveBay` says. -/
def State.toBay (s : State) (b : Nat) (st : BayState) : State :=
  let s := if st.pwrEn then s else
    (sheetChans b).foldl (fun s c => s.setChan c { s.chan c with wpHigh := false, trained := false, rate := 0, lpddr4 := false }) s
  s.moveBay b st

/-- The dies of a sheet. -/
def sheetDies (b : Nat) : List Nat := List.range' (128 * b) 128

/-- The members that bands hold on a sheet are lost with it (R313). -/
def State.membersGone (s : State) (b : Nat) : State :=
  { s with svy := { s.svy with band := s.svy.band.map (fun (e : Nat × Band) =>
      (e.1, if maskBit e.2.sheets b ∧ e.2.st ≠ .free then { e.2 with gone := maskSet e.2.gone b } else e.2)) } }

/-- A sheet leaves the layout (R201, R205, R213, R214). -/
def State.sheetGone (s : State) (b : Nat) : State :=
  let was := maskBit s.par.usable b
  let s := { s with par := { s.par with usable := maskClear s.par.usable b } }
  if !was then s else
  ((s.rebuildAfter (fun d => decide (dieSheet d = b)) (2 ^ b)).replanReads (fun d => decide (dieSheet d = b))).layoutStep.recheck

/-- The fence of a bay (Table 18-2): FAULTED, the sheet a surprise removal. An evacuation in progress stops (R318). -/
def State.fenceBay (s : State) (b : Nat) : State :=
  let s := if (s.bay b).st = .faulted then s else s.toBay b .faulted
  let s := if s.par.evac = some b then { s with par := { s.par with evac := none } } else s
  let s := { s with fch := { s.fch with die := s.fch.die.map (fun (e : Nat × Die) =>
    (e.1, if dieSheet e.1 = b ∧ e.2.present then { e.2 with absent := true } else e.2)) } }
  let s := (s.membersGone b).sheetGone b
  { s with par := { s.par with present := maskClear s.par.present b } }

/-! ### Survey: siblings, isolation, tests that abort -/

/-- The dies of a channel. -/
def chanDies (c : Nat) : List Nat := (List.range 16).map (fun k => 16 * c + k)

/-- Sibling group of an instance (R609), as a list of instances. -/
def siblings (block inst : Nat) : List Nat :=
  match block with
  | 0x0A2 => (List.range 4).map (fun k => inst / 4 * 4 + k)
  | 0x0B0 => (List.range 64).map (fun k => inst / 64 * 64 + k)
  | 0x020 => (List.range 128).map (fun k => inst / 128 * 128 + k)
  | b => List.range (unitCount b)

/-- Some sibling is left to carry an instance's work (R609). -/
def State.hasSibling (s : State) (block inst : Nat) : Bool :=
  (siblings block inst).any (fun j => decide (j ≠ inst) && !s.fenced block j && !(s.unit block j).isolated)

/-- An instance returns to service after isolation. -/
def State.unisolate (s : State) (block inst : Nat) : State :=
  let u := s.unit block inst
  let s := s.setUnit block inst { u with isolated := false }
  if block = 0x0B0 ∧ inst % 2 = 0 then s.setLane (inst + 1) { s.laneOf (inst + 1) with hardMoved := false } else s

/-- The work of an instance returns to its home placement (R548 step 4, R16, R98, R99). -/
def State.returnHome (s : State) (block inst : Nat) : State :=
  match block with
  | 0x020 => if (s.fnOf inst).engine ≠ inst then s.moveFn inst inst else s
  | 0x0A2 =>
    (List.range 4).foldl (fun s k =>
      let d := 4 * inst + k
      if s.owner d ≠ inst % 4 ∧ (s.dieOf d).present then s.orderlyMove d (inst % 4) else s) s
  | _ => s

/-- What SRV_LAST_UNIT shows of the last test ended: 1 pass, 2 fail, 3 aborted. -/
def State.lastTest (s : State) (t : Test) (verdict sig : Nat) : State :=
  let s := (((s.setFld F.SRV_LAST_UNIT_BLOCK 0 t.block).setFld F.SRV_LAST_UNIT_INSTANCE 0 t.inst).setFld F.SRV_LAST_UNIT_TEST 0 t.test).setFld
    F.SRV_LAST_UNIT_VERDICT 0 verdict
  if verdict = 3 then s else (s.setReg .SRV_LAST_SIG_LO 0 (BitVec.ofNat 32 sig)).setReg .SRV_LAST_SIG_HI 0 (BitVec.ofNat 32 (sig / 2 ^ 32))

/-- A test ends without a verdict (Table 21-3): the instance returns at once, the result is reported, the test is queued again. -/
def State.abortTest (s : State) (t : Test) (result : Nat) : State :=
  let s := { s with srv := { s.srv with running := s.srv.running.filter (fun x => decide (x ≠ t)),
                                        queued := s.srv.queued ++ [{ t with handle := none }] } }
  let s := (s.unisolate t.block t.inst).returnHome t.block t.inst
  ((s.lastTest t 3 0).event F.SRV_EVENTS_ABORTED 0 0).opDone t.handle result []

/-- In-service tests of a kind end without a verdict; re-qualifications run on. -/
def State.abortTests (s : State) (p : State → Test → Bool) (result : Nat) : State :=
  s.srv.running.foldl (fun (s : State) t => if !t.requal && p s t then s.abortTest t result else s) s

/-- A sibling's fence leaves the work of an isolated instance without a carrier (Table 21-3). -/
def State.abortStranded (s : State) (block : Nat) : State :=
  s.abortTests (fun s t => decide (t.block = block) && (s.unit t.block t.inst).isolated && !s.hasSibling t.block t.inst) Ms.noSibling

/-! ### Raising a fault -/

/-- The sub-unit of a fault is fenced (Table 18-4). -/
def State.fenceSub (s : State) (r : FaultReport) : State :=
  if r.cause = 0x0F then s.fenceDie r.sub
  else if r.cause = 0x0D then s.fenceRegion r.inst r.sub
  else
    let k := tabGet (fun _ => KSlot.reset) s.cip.slot r.sub
    ({ s with cip := { s.cip with slot := tabSet (fun _ => KSlot.reset) s.cip.slot r.sub { k with fenced := true } } } : State).event
      F.LEG_EVENTS_SLOT_FENCED 0 r.sub

/-- κ_c × 1,000 with `n` lanes not fenced (R466), truncated. -/
def kappaOf (n : Nat) : Nat := min 1000 (n * 4096000 / 102680)

/-- What the fence of an instance means for its work (Table 18-2). The jobs of a fenced cipher lane or parity engine go to the next unfenced
one, ascending (R202 says only another engine: DESIGN CHOICE, log entry 50); of a parity engine, `parEngOf` gives it the jobs. -/
def State.fenceEffect (s : State) (b i : Nat) : State :=
  match b with
  | 0x010 => s.linkDown i
  | 0x020 => match s.nextWaypoint (i / 128) i with
    | some j => s.moveFns i j
    | none => (s.markFenced 0x010 (i / 128)).linkDown (i / 128)
  | 0x040 => s.fenceAtlas i
  | 0x070 => s.fenceDram i
  | 0x080 =>
    let s := s.event F.CIP_EVENTS_LANE_FENCED 0 i
    match ((List.range 32).map (fun k => (i + 1 + k) % 32)).find? (fun j => !s.fenced 0x080 j) with
    | some j =>
      let n := tabGet (fun _ => 0) s.cip.jobs i
      let js := bookTab (tabSet (fun _ => 0) s.cip.jobs i 0) j n
      { s with cip := { s.cip with jobs := js } }
    | none => s
  | 0x0A0 => s.fenceChannel i
  | 0x0A1 => if s.fenced 0x0A0 i then s else (s.markFenced 0x0A0 i).fenceChannel i
  | 0x0A2 =>
    let r := s.moveDies i true
    r.1.fenceLeft r.2
  | 0x0B0 =>
    let s := s.fenceLane i
    if s.fenced 0x0B0 (i / 2 * 2) && s.fenced 0x0B0 (i / 2 * 2 + 1) && !s.fenced 0x0A0 (i / 2) then
      let u := s.unit 0x0A0 (i / 2)
      let s := s.setUnit 0x0A0 (i / 2) (u.mark .unit 0x0E false)
      ((s.record 0x0A0 (i / 2) 3 0x100E 0).markFenced 0x0A0 (i / 2)).fenceChannel (i / 2)
    else s
  | 0x0C0 => s.fenceBay i
  | _ => s

/-- A UNIT-class fault: words, record and notices, then the fence of the unit or sub-unit, or TOO_FEW (R540, Table 18-6). -/
def State.unitFault (s : State) (r : FaultReport) : State :=
  if isSubUnit r.cause then (s.unitNotice r).fenceSub r
  else if s.tooFew r.block then s.deviceFault { r with cause := 0x17 }
  else (((s.unitNotice r).markFenced r.block r.inst).fenceEffect r.block r.inst).abortStranded r.block

/-- A fault raised by an instance (R531 to R545): an isolated instance reports to its test only (R539), an error on the
link to a fenced partner is PARTNER_FENCED (R545), a fenced instance only counts (R538). -/
def State.raise (s : State) (r : FaultReport) : State :=
  let u := s.unit r.block r.inst
  if unitCount r.block ≤ r.inst then s
  else if u.isolated then s
  else
    match r.link.filter (fun p => (s.unit p.1 p.2).ind && partnerOf r.block r.inst p.1 p.2) with
    | some p => s.partnerError r p.1 p.2
    | none =>
      let c := faultClass r.block r.cause
      if u.fenced && !isSubUnit r.cause then s.fencedFault r c
      else match c with
        | .corrected => s.correctedFault r
        | .contained => s.containedFault r
        | .unit => s.unitFault r
        | .device => s.deviceFault r
        | .partnerFenced => s

/-- A fault without injection or link. -/
def State.raiseAt (s : State) (block inst cause sub : Nat) : State := s.raise ⟨block, inst, cause, sub, false, none⟩

/-- A corrupt or unreadable segment (R114, R116, R148): its event, a CONTAINED fault of the engine, recovery. -/
def State.segBad (s : State) (engine seg : Nat) (f : Fld) : State :=
  ((s.event f 0 (seg % 2 ^ 32)).startRecovery [seg]).raiseAt 0x040 engine 0x13 (seg % 2 ^ 32)

/-- A channel in service has a retraining due: quiet slots and Survey slots give way to it (R237). -/
def State.retrainDue (s : State) : Bool := s.fch.chan.any (fun e => e.2.due && !s.fenced 0x0A0 e.1)

/-- The housekeeping fraction of a channel's frame is spent (R103). -/
def State.spendHk (s : State) (c : Nat) : State := { s with plt := { s.plt with hkUsed := tabSet (fun _ => 0) s.plt.hkUsed c (16 * s.hk) } }

end Sys2Proof.Machine
end

