-- ==== Sys2Proof/Machine/OpsCiph.lean ====
section
/-! DEFINITION. Sealing (R456 to R462): position nonces, additional authenticated data, quarter words and side bands, and the cipher
passes that a move of sealed data takes (R460). Agents: the cipher lanes, Surveyor firmware. -/

set_option linter.unusedVariables false

namespace Sys2Proof.Machine

/-- IUs of a namespace. -/
def State.iuCount (s : State) (n : Ns) : Nat := ceilDiv n.nlba (max 1 (s.lbasPerIu n))

/-- The namespace that holds an IU. -/
def State.nsOfIu (s : State) (key : Nat) : Option (Nat × Ns) :=
  s.atl.ns.findSome? (fun e => e.2.bind (fun n =>
    if iuKey n.pool n.base ≤ key ∧ key < iuKey n.pool n.base + s.iuCount n then some (e.1, n) else none))

/-- The position nonce of a map address whose quarter stands at bit 36 (Table 15-2). -/
def State.posNonce (s : State) (addr : Nat) : Nat :=
  let a := addr % 2 ^ 36
  let b := s.bandOfAddr a
  b % 2 ^ 24 * 2 ^ 72 + s.pageOfAddr a % 2 ^ 16 * 2 ^ 56 + dieSheet (a / 2 ^ 25) % 16 * 2 ^ 52 + s.planeOfAddr a % 8 * 2 ^ 49
    + addr / 2 ^ 36 % 4 * 2 ^ 47 + (s.bandRec b).openSeq % 2 ^ 40

/-- The additional authenticated data of a sealed LBA (R458): NSID, GENERATION, zero, LBA, side band bytes 4 to 11. -/
def sealAad (nsid gen lba side : Nat) : List Nat := bytesLe 4 nsid ++ bytesLe 2 gen ++ [0, 0] ++ bytesLe 8 lba ++ bytesLe 8 side

/-- The NSID that stands in the AAD of internal metadata (R458). -/
def metaNsid : Nat := 0xFFFFFFFF

/-- The quarter word (Table 14-2, R462): GEN_VALID with KEYGEN where a generation is recorded. -/
def quarterWord (format : Nat) (gen : Option Nat) (poison : Nat) : Nat :=
  b2n gen.isSome * 2 ^ 20 + format % 16 * 2 ^ 16 + (gen.getD 0) % 256 * 2 ^ 8 + poison % 256

/-- FORMAT of a quarter word is reserved (Table 14-2): the quarter is treated as failing authentication. -/
def formatReserved (w : Nat) : Bool := !([0, 2, 3, 8, 15].contains (w / 2 ^ 16 % 16))

/-- POISON of the quarter that holds an LBA (R429): the part of its IU's mask that falls on it. -/
def State.quarterPoison (s : State) (n : Ns) (lba : Nat) : Nat :=
  let w := if n.lbaf < 2 then 8 else 1
  let i := lba % max 1 (s.lbasPerIu n)
  s.poisonMask (s.iuOfLba n lba) / 2 ^ (i / w * w) % 2 ^ w

/-- A 64-byte side band quarter other than of LBAF 1 (Table 14-1): quarter word, bytes 4 to 11, tag, zero. -/
def sideQuarter (word side tag : Nat) : List Nat := bytesLe 4 word ++ bytesLe 8 side ++ bytesLe 16 tag ++ zeros 36

/-- The lane that will be free first (R465): unfenced, not isolated, with the fewest jobs queued; the lowest of several. -/
def State.firstLane (s : State) : Option Nat :=
  let up := (List.range 32).filter (fun l => !s.fenced 0x080 l && !(s.unit 0x080 l).isolated)
  let n := fun l => tabGet (fun _ => 0) s.cip.jobs l
  up.foldl (fun best l => match best with
    | some b => if n l < n b then some l else best
    | none => some l) none

/-- A job joins the queue of the lane that will be free first (R465). -/
def State.queueJob (s : State) : State :=
  match s.firstLane with
  | some l => { s with cip := { s.cip with jobs := bookTab s.cip.jobs l 1 } }
  | none => s

/-- An IU moves to another band (R460): sealed data is opened at its old position and sealed at its new one, each a lane's job; XTS data
passes a lane only in a rekey (R457). The answer names the two passes and their nonces or tweak. -/
def State.reseal (s : State) (key old new : Nat) (rekey : Bool) : State :=
  match s.nsOfIu key with
  | some (_, n) =>
    if n.cipher = 2 then (s.queueJob.queueJob).emit (.answer 0x080 [3, n.slot, s.posNonce old, 2, n.slot, s.posNonce new])
    else if n.cipher = 1 ∧ rekey = true then
      (s.queueJob.queueJob).emit (.answer 0x080 [1, n.slot, s.lbaOfIu n key, 0, n.slot, s.lbaOfIu n key])
    else s
  | none => s

end Sys2Proof.Machine
end

