-- ==== Sys2Proof/Machine/OpsReq.lean ====
section
/-! DEFINITION. What the mailbox requests share: long operations (R413), the return to SERVICE for work (R488), units and
isolation for Survey and unit reset (R548, R607 to R609), fault words as they read (Tables 18-7 to 18-9). -/

set_option linter.unusedVariables false

namespace Sys2Proof.Machine

/-- What a meaning answers. -/
abbrev Res := Host.Outcome State Fault Refusal
/-- A next state as an answer. -/
def resOf (s : State) : Res := .next s

/-- A byte of the Cartouche row (Table 20-4): what has been programmed since manufacture, else manufacture's byte; the ordering code is
TQ128-KA or TQ128-KN (Table 00-2); the owner's fields and the reserved bytes are blank. -/
def otpBlank (a : Nat) : Byte :=
  match a with
  | 0 => 0x4B#8 | 1 => 0x43#8 | 2 => 0x54#8 | 3 => 0x31#8 | 20 => 0xB1#8
  | 4 => 0x54#8 | 5 => 0x51#8 | 6 => 0x31#8 | 7 => 0x32#8 | 8 => 0x38#8 | 9 => 0x2D#8 | 10 => 0x4B#8
  | 11 => if (Config.cartouche 11).getLsbD 0 then 0x4E#8 else 0x41#8
  | a => if a = 22 ∨ a = 23 ∨ (58 ≤ a ∧ a < 64) ∨ (209 ≤ a ∧ a < 512) ∨ 4096 ≤ a then 0#8 else Config.cartouche a
def State.otpByte (s : State) (a : Nat) : Nat := (tabGet otpBlank s.por.otp a).toNat
def State.otpBytes (s : State) (a n : Nat) : List Nat := (List.range n).map (fun k => s.otpByte (a + k))

/-- The ordering code is TQ128-KN (R2, R3): its eighth character. -/
def State.isKN (s : State) : Bool := decide (s.otpByte 11 = 0x4E)
/-- Soldered flash (SHB_CFG.SOLDERED). -/
def State.soldered (s : State) : Bool := decide (s.otpByte 21 % 2 = 1)
/-- The PCI vendor ID. -/
def State.vendorId (s : State) : Nat := le (s.otpBytes 44 2) 0 2

/-- FW_VERSION of the booted slot; 0 in ROM recovery. -/
def State.fwVersion (s : State) : Nat :=
  if s.por.booted < 3 then (tabGet (fun _ => BootSlot.reset) s.por.slots s.por.booted).fwVersion else 0

/-- A long operation is accepted (R413): its handle, and the response with ASYNC set. -/
def State.startLong (s : State) (q : MbxReq) (opcode : Nat) (rest : List Nat) : Nat × State :=
  let r := s.newHandle q.path (opcode / 256)
  (r.1, r.2.respond q opcode Ms.success true (bytesLe 4 r.1 ++ rest))

/-- The mode of service with the fences as they stand (R487). -/
def State.serviceMode (s : State) : Mode := if s.fencedUnits then .degraded else .service

/-- A mode change that enters or leaves DEGRADED re-checks the classes (R48). -/
def State.toModeChecked (s : State) (m : Mode) : State :=
  let t := s.toMode m
  if decide (s.pwr.mode = .degraded) ≠ decide (m = .degraded) then t.recheck else t

/-- DRAM enters or leaves self-refresh (Table 16-1: it is in it in deep READY). -/
def State.dramRest (s : State) (on : Bool) : State := { s with dram := s.dram.map (fun (e : Nat × Dram) => (e.1, { e.2 with selfRef := on })) }

/-- READY returns to SERVICE, or DEGRADED, for work that books Plotter capacity (R488). -/
def State.toService (s : State) : State :=
  let s := if s.pwr.mode = .ready ∧ s.pwr.pstate = 3 then s.dramRest false else s
  match s.pwr.mode with
  | .ready =>
    let t := s.toModeChecked s.serviceMode
    { t with pwr := { t.pwr with pstate := 0, entering := none } }
  | _ => s

/-- The unit a request names exists (R421). -/
def unitOk (block inst : Nat) : Bool := decide (inst < unitCount block)

/-- FLT_STATUS of an instance (Table 18-7). -/
def State.fltStatus (s : State) (b i : Nat) : W32 :=
  let u := s.unit b i
  BitVec.ofNat 32 (b2n u.fenced * 2 ^ 31 + b2n u.ind * 2 ^ 30 + b2n (s.partnerInd b i) * 2 ^ 29 + b2n u.isolated * 2 ^ 28
    + u.lastClass % 16 * 2 ^ 24 + u.lastCause % 256 * 2 ^ 16) ||| (u.ev &&& fieldMask 8 3)

/-- FLT_MASK (Table 18-8). -/
def State.fltMask (s : State) (b i : Nat) : W32 := BitVec.ofNat 32 ((s.unit b i).mask % 64 * 8)

/-- FLT_CTL (Table 18-9). -/
def State.fltCtl (s : State) (b i : Nat) : W32 :=
  let u := s.unit b i
  let act := (List.range' 1 6).foldl (fun m k => if u.inj.any (fun j => decide (j.checker = k ∧ j.left ≠ 0)) then m + 2 ^ (9 + k) else m) 0
  BitVec.ofNat 32 (u.corr % 256 * 2 ^ 24 + u.cont % 256 * 2 ^ 16 + act + b2n u.fenced)

/-- A checker an instance has (Table 18-5). -/
def checkerIn (block k : Nat) : Bool :=
  match k with
  | 1 => decide (block ≠ 0x0D0)
  | 2 => decide (block ∈ [0x010, 0x020, 0x030, 0x040, 0x050, 0x060, 0x070, 0x080, 0x081, 0x090, 0x0A0, 0x0A1, 0x0A2, 0x0B0])
  | 3 => decide (block = 0x0D0)
  | 4 => decide (block ∈ [0x020, 0x040, 0x080, 0x090, 0x0A1, 0x0A2])
  | 5 => decide (block = 0x080)
  | 6 => decide (block = 0x070)
  | _ => false

/-- Table 18-5 and R554: an injection that may be armed. -/
def injectOk (block k : Nat) (single : Bool) (n : Nat) : Bool :=
  checkerIn block k && (!single || decide (k = 1 ∨ k = 6)) && decide (1 ≤ n ∧ n ≤ 255) && (decide (k ≠ 3) || decide (n ≤ 8))

/-- An injection with transactions left on the checker. -/
def State.injBusy (s : State) (block inst k : Nat) : Bool := (s.unit block inst).inj.any (fun j => decide (j.checker = k ∧ j.left ≠ 0))

/-- An injection armed: each instance holds one per checker (R554). -/
def State.arm (s : State) (block inst k : Nat) (single : Bool) (n : Nat) : State :=
  let u := s.unit block inst
  s.setUnit block inst { u with inj := ⟨k, n, single⟩ :: u.inj.filter (fun j => decide (j.checker ≠ k)) }

/-- One transaction of an injection is spent; none is spent while the instance is fenced or isolated (R554). -/
def State.spend (s : State) (block inst k : Nat) : State :=
  let u := s.unit block inst
  if u.fenced || u.isolated then s
  else s.setUnit block inst { u with inj := u.inj.map (fun (j : Injection) => if j.checker = k then { j with left := j.left - 1 } else j) }

/-- The checker whose injection raises a cause, and the transactions it takes (Table 18-5). -/
def causeChecker (cause : Nat) : Nat × Nat :=
  match cause with
  | 0x01 | 0x02 | 0x03 => (1, 1) | 0x04 => (2, 1) | 0x05 => (2, 2) | 0x06 => (3, 1) | 0x08 => (4, 1) | 0x09 => (4, 2)
  | 0x0A => (5, 1) | 0x0B | 0x0C => (6, 1) | _ => (0, 0)

/-- The transactions that raised an injected fault are spent. -/
def State.spendFor (s : State) (block inst cause : Nat) : State :=
  let c := causeChecker cause
  let u := s.unit block inst
  s.setUnit block inst { u with inj := u.inj.map (fun (j : Injection) => if j.checker = c.1 then { j with left := j.left - c.2 } else j) }

/-- Isolation of an instance moves its work as its fence would, under a new epoch (R548 step 1, R608), without a fence. -/
def State.isolate (s : State) (block inst : Nat) : State :=
  let u := s.unit block inst
  let s := s.setUnit block inst { u with isolated := true }
  match block with
  | 0x020 => match s.nextWaypoint (inst / 128) inst with
    | some j => s.moveFns inst j
    | none => s
  | 0x040 => s.resteer inst
  | 0x0A2 =>
    let r := s.moveDies inst false
    r.1.fenceLeft r.2
  | 0x0B0 => s.fenceLane inst
  | _ => s

/-- A test isolates its instance (R608): not the flash channel's, which closes windows, nor the tile pool's (R616). -/
def isolates (block : Nat) : Bool := decide (block ≠ 0x0A0 ∧ block ≠ 0x0A1 ∧ block ≠ 0x060)

/-- A flash channel's test may take its slot now (R103, R237, R608): where no group of its dies has another member closed, outside a quiet slot of the
channel, and within the housekeeping share of the frame, which it then uses whole, behind a retraining that is due; the forced slot is booked
out of the reserve, ahead of both (log entry 63). -/
def State.channelSlot (s : State) (t : Test) : Bool :=
  decide (t.block ≠ 0x0A0 ∧ t.block ≠ 0x0A1)
    || (decide (s.plt.quiet ≠ some t.inst) && !(chanDies t.inst).any (fun d => s.dieLive d && s.runsBarred d s.now [(0, 480000)])
      && (t.forced || t.requal || decide (tabGet (fun _ => 0) s.plt.hkUsed t.inst = 0)))

/-- The reference check (R610): the last completed window. -/
def State.refOk (s : State) : Bool := decide (781172 ≤ s.srv.refLast ∧ s.srv.refLast ≤ 781328)

/-- The test at the head of the queue may start (R609, R610, R621): at most MAX_RUN run; no critical trip, no drain; the last reference window
passed; no other instance of its sibling group is isolated; a flash channel finds its slot. -/
def State.mayStart (s : State) (t : Test) : Bool :=
  decide (s.srv.running.length < s.fld F.SRV_CFG_MAX_RUN 0) && !s.ctr.trip && !s.plt.drain
    && s.refOk
    && (t.requal || s.fenced t.block t.inst || !isolates t.block
      || !(siblings t.block t.inst).any (fun j => (s.unit t.block j).isolated))
    && s.channelSlot t && (t.forced || t.requal || !s.retrainDue)

/-- The flash channel whose housekeeping fraction pays for a test's slot (R103): that of the unit; other units take no channel's time. -/
def Test.chan? (t : Test) : Option Nat :=
  match t.block with
  | 0x0A0 | 0x0A1 => some t.inst
  | 0x0A2 => some (t.inst / 4)
  | 0x0B0 => some (t.inst / 2)
  | _ => none

/-- Tests start in arrival order (R609, R608). -/
def State.startTests (s : State) : Nat → State
  | 0 => s
  | n + 1 =>
    match s.srv.queued with
    | [] => s
    | t :: rest =>
      if !s.mayStart t then s
      else
        let s := { s with srv := { s.srv with queued := rest, running := s.srv.running ++ [t],
                                              forcedPending := s.srv.forcedPending && !t.forced } }
        let s := if t.requal || s.fenced t.block t.inst || !isolates t.block then s else s.isolate t.block t.inst
        -- a flash channel's test closes the windows of its dies (R608)
        let s := if t.block = 0x0A0 ∨ t.block = 0x0A1 then (chanDies t.inst).foldl (fun s d => s.addClosed d s.now 480000 0) s else s
        let s := match t.chan? with
          | some c => if t.requal then s else s.spendHk c
          | none => s
        (if t.forced then s.event F.SRV_EVENTS_FORCED 0 0 else s).startTests n

/-- Tests that wait start where they can. -/
def State.startQueued (s : State) : State := s.startTests s.srv.queued.length

end Sys2Proof.Machine
end

