-- ==== Sys2Proof/Machine/OpsIo.lean ====
section
/-! DEFINITION. Shared operations of the I/O commands: validation and arrival (R23 to R27, R366 to R370), what a read is read
from (R123, R136, R137), the admission of reads, writes, flushes and deallocates (R73, R79 to R90, R138), staging (R126 to
R136, R143) and the end of a command. -/

set_option linter.unusedVariables false

namespace Sys2Proof.Machine

/-! ### Validation and arrival -/

/-- The kind of an I/O opcode (Table 02-1). -/
def kindOf (op : Nat) (fua dealloc : Bool) : Kind :=
  match op with
  | 0x02 | 0x05 | 0x0C => .read
  | 0x01 => if fua then .fua else .write
  | 0x04 => .write
  | 0x08 => if dealloc then .dealloc else .write
  | 0x00 => .flush
  | 0x09 => if dealloc then .dealloc else .other
  | _ => .other

/-- Bytes an entry transfers between host and device: Read, Write and Compare. -/
def State.transferBytes (s : State) (e : IoEntry) (op : Nat) : Nat :=
  if op = 0x01 ∨ op = 0x02 ∨ op = 0x05 then (e.nlb + 1) * ((s.nsOf e.nsid).map (fun n => lbaBytes n.lbaf)).getD 512 else 0

/-- What an entry fails validation for (R335, R366 to R370, R378, R383, R676), in the order checked (log entry 17). -/
def State.validate (s : State) (e : IoEntry) (op : Nat) (dealloc : Bool) (ranges : List (Nat × Nat)) : Option Nat :=
  if e.fuse ≠ 0 ∨ e.dtype ≠ 0 ∨ e.wrap = true then some Sc.invalidField
  else if (e.win.map (fun g => decide (g ≠ e.fn))).getD false then some Sc.invalidField
  else match s.nsOf e.nsid with
    | none => some Sc.invalidNamespace
    | some n =>
      if !n.attached.contains e.fn then some Sc.invalidNamespace
      else if n.format.isSome then some Sc.formatInProgress
      else if (tabGet (fun _ => KSlot.reset) s.cip.slot n.slot).fenced ∧ n.cipher ≠ 0 then some Sc.accessDenied
      else if op = 0x00 then none
      else if op = 0x09 then
        if 256 < ranges.length then some Sc.invalidField
        else if ranges.any (fun r => decide (n.nlba < r.1 + r.2)) then some Sc.lbaRange else none
      else if 2 ^ 21 < s.transferBytes e op then some Sc.invalidField
      else if op = 0x08 ∧ dealloc = false ∧ 2 ^ 21 < (e.nlb + 1) * lbaBytes n.lbaf then some Sc.invalidField
      else if n.nlba < e.slba + e.nlb + 1 then some Sc.lbaRange
      else none

/-- The command record of an entry that has arrived at `now`, fetched under class `cls` and function epoch `epoch`. The range list of a
Dataset Management is read before it is admitted (R30). -/
def newCmd (e : IoEntry) (op : Nat) (kind : Kind) (cls now epoch bytes : Nat) (ranges : List (Nat × Nat)) : Cmd :=
  let lists := if e.win.isSome then 0 else e.lists + b2n (decide (op = 0x09))
  let first := if op = 0x09 then lists else 0
  { fn := e.fn, sq := e.sq, cid := e.cid, op := op, kind := kind, cls := cls, deadline := 0, start := now,
    phase := .offered, accepted := false, nsid := e.nsid, slba := e.slba, nlb := e.nlb + 1, bytes := bytes, lr := e.lr,
    fuaBit := e.fua, epoch := epoch, readEpochs := [], lists := lists, waitFrom := if 0 < first then some now else none, openReads := first, spans := [],
    stopped := false, suspended := false, earliest := 0, bookings := [], toStage := [], stageLeft := 0, by_ := 0, group := 0,
    zeroLbas := [], outcome := e.check, slotReads := [], staged := [], waitsFor := [], ius := [], pinned := [], replanned := false, prog := 0, rmw := [],
    waitsSeg := [], ranges := ranges, win := e.win, status := 0 }

/-- A command enters the list of those outstanding; one that fails validation ends at once and is not accepted (R23). -/
def State.enter (s : State) (c : Cmd) (bad : Option Nat) : State :=
  let c := { c with suspended := s.nsHeld c.nsid }
  let s := { s with cmds := s.cmds ++ [c] }
  match bad with
  | some st => s.endCmd c.fn c.sq c.cid st
  | none => s

/-- A fetched entry arrives (R28): the read of its queue entry is over, its clock starts, it is validated and offered. -/
def State.arrive (s : State) (e : IoEntry) (op : Nat) (dealloc : Bool) (ranges : List (Nat × Nat)) : State :=
  match s.sqOf e.fn e.sq with
  | none => s
  | some q =>
    let x := q.fetching.head?.getD (0, q.cls, s.fnEpoch e.fn)
    let s := s.setSq e.fn e.sq (some { q with fetching := q.fetching.tail, retried := false })
    let c := newCmd e op (kindOf op e.fua dealloc) x.2.1 s.now x.2.2 (s.transferBytes e op) ranges
    s.enter c (s.validate e op dealloc ranges)

/-! ### Ends of commands -/

/-- The status the checks of a command's data give (R369, R379). -/
def outcomeStatus (n : Nat) : Nat :=
  match n with
  | 1 => Sc.compareFailure | 2 => Sc.guardCheck | 3 => Sc.appTagCheck | 4 => Sc.refTagCheck | _ => Sc.success

/-- The metadata a Read returns for the deallocated LBAs of its range (R381). -/
def State.emitZeroPi (s : State) (c : Cmd) : State :=
  c.zeroLbas.foldl (fun s k => s.emit (.answer 0x010 ([c.fn, c.sq, c.cid, k]
    ++ zeroPi (((s.nsOf c.nsid).map (fun n => lbaBytes n.lbaf)).getD 512)))) s

/-- A read whose IUs have all ended, and whose host data has arrived, completes. -/
def State.readDone (s : State) (c : Cmd) : State :=
  if c.ius.all (fun i => i.ended) && decide (c.openReads = 0) then
    let s := if c.op = 0x02 ∧ c.outcome = 0 then
        (if c.win.isNone then (s.emitZeroPi c).emit (.hostWrite c.fn c.bytes) else s.emitZeroPi c).mediaCount 10 (c.bytes / 512) else s
    let s := s.mediaCount 12 1
    s.endCmd c.fn c.sq c.cid (outcomeStatus c.outcome)
  else s

/-- A command ends with Data Transfer Error and its bookings and tiles are released (R31). Its other reads of host memory are outstanding
until they complete (R30). -/
def State.dataError (s : State) (c : Cmd) : State :=
  let s := s.release c
  let s := s.mapCmd c.fn c.sq c.cid (fun c =>
    { c with bookings := [], slotReads := [], pinned := [], stageLeft := 0, toStage := [] })
  s.endCmd c.fn c.sq c.cid Sc.dataTransferError

/-- A refusal (R44, R49): Deadline Unattainable with the earliest attainable deadline. -/
def State.refuseCmd (s : State) (c : Cmd) (earliest : Nat) (atLimit : Bool) : State :=
  let s := (s.stat c.fn 1)
  let s := if atLimit then s.stat c.fn 2 else s
  let s := s.mapCmd c.fn c.sq c.cid (fun c => { c with earliest := min earliest 0xFFFFFFFF })
  s.endCmd c.fn c.sq c.cid Sc.deadlineUnattainable

/-- Staged IUs a Flush or FUA write waits for: a slot that is gone or no longer current counts as done (R372). -/
def State.stillStaged (s : State) (a : Nat) : Bool := ((s.slotOf a).map Stage.live).getD false

/-- Commands that waited on programs complete when nothing is left to wait for (R131, R372). -/
def State.wakeWaiters (s : State) : State :=
  s.cmds.foldl (fun s c =>
    if c.phase = .running ∧ c.waitsFor ≠ [] then
      let left := c.waitsFor.filter (fun a => c.op ≠ 0x00 || s.stillStaged a)
      let s := s.mapCmd c.fn c.sq c.cid (fun c => { c with waitsFor := left })
      if left.isEmpty && c.toStage.isEmpty && c.waitsSeg.isEmpty then s.endCmd c.fn c.sq c.cid Sc.success else s
    else s) s

/-- Updates that waited have been applied: commands that waited for nothing else complete (R131, R138, R148). -/
def State.segsBack (s : State) : State :=
  s.cmds.foldl (fun s c =>
    if c.phase = .running ∧ c.waitsSeg ≠ [] then
      let left := c.waitsSeg.filter (fun x => s.atl.queued.any (fun u => u.segs.contains x))
      let s := s.mapCmd c.fn c.sq c.cid (fun c => { c with waitsSeg := left })
      if left.isEmpty && c.toStage.isEmpty && c.waitsFor.isEmpty then s.endCmd c.fn c.sq c.cid Sc.success else s
    else s) s

/-- The program of a staging slot has passed: FUA writes that staged it no longer wait for it. -/
def State.programPassed (s : State) (a : Nat) : State :=
  ({ s with cmds := s.cmds.map (fun (c : Cmd) => { c with waitsFor :=
      if c.op = 0x00 then c.waitsFor else c.waitsFor.filter (fun k => decide (k ≠ a)) }) } : State)

/-- An FUA write whose slots have all been programmed has nothing left to wait for. -/
def State.fuaDone (s : State) (before : List Cmd) : State :=
  before.foldl (fun s b =>
    match s.findCmd b.fn b.sq b.cid with
    | some c => if c.phase = .running ∧ b.waitsFor ≠ [] ∧ c.waitsFor = [] ∧ c.toStage = [] ∧ c.waitsSeg = [] then
        s.endCmd c.fn c.sq c.cid Sc.success else s
    | none => s) s

/-! ### What a read is read from -/

/-- Where the covered LBAs of one IU come from. -/
inductive Src where
  | zero
  | slot (a : Nat)
  | flash (addr : Nat)
  | fail
  deriving DecidableEq, Repr

/-- The source of an entry. -/
def Ent.src (e : Ent) : Src :=
  match e.st with
  | .unmapped => .zero
  | .staged => .slot e.addr
  | .mapped => .flash e.addr
  | .poisoned => .fail

/-- Sources of the LBAs `mask` of an IU (R123, R136, R137, R142, R148). -/
def State.srcOf (s : State) (key mask : Nat) : List Src :=
  if s.atl.recovering.contains (segOfIu key) then [.fail]
  else if s.poisonMask key &&& mask ≠ 0 then [.fail]
  else match s.asmOf key with
    | some a =>
      (if a.present &&& mask ≠ 0 then [.slot a.slot] else [])
        ++ (if mask - (a.present &&& mask) ≠ 0 then [a.prev.src] else [])
    | none => [(s.lookup key).src]

/-- Every source of a command's range, with its IU. -/
def State.sourcesOf (s : State) (n : Ns) (lba count : Nat) : List (Nat × Src) :=
  (s.iusOf n lba count).flatMap (fun k => (s.srcOf k (s.coverMask n k lba count)).map (fun x => (k, x)))

/-- The LBAs of a command that read as deallocated, in a format with protection information (R381). -/
def State.zeroLbas (s : State) (n : Ns) (c : Cmd) : List Nat :=
  if n.pi = 0 then []
  else ((List.range c.nlb).map (c.slba + ·)).filter (fun k =>
    let key := s.iuOfLba n k
    decide (s.srcOf key (s.coverMask n key k 1) = [.zero]))

/-- The outcome of a command's checks: where every LBA is deallocated its guards are right and tag checking is skipped (R381). -/
def Cmd.checked (c : Cmd) (zero : List Nat) : Cmd :=
  { c with zeroLbas := zero, outcome := if zero.length = c.nlb ∧ zero ≠ [] ∧ 2 ≤ c.outcome then 0 else c.outcome }

/-! ### Admission -/

/-- The outcome of an admission check: the bookings made, or the earliest attainable deadline in µs; or, for a namespace under
a DRAM channel fence suspension whose map is being rebuilt, a command that waits for it (R50, R51, R149). -/
inductive Verdict where
  | accept (c : Cmd) (s : State)
  | refuse (earliest : Nat)
  | await

/-- No deadline within the horizon would have fitted. -/
def never : Nat := 0xFFFFFFFF

/-- A bound in µs, rounded up (R44). -/
def boundUs (q : Nat) : Nat := ceilDiv q qUs

/-- Time elapsed since the clock started (T_EL), in q. -/
def State.elQ (s : State) (c : Cmd) : Nat := ticksQ (s.now - c.start)

/-- A DRAM channel fence covers a command (Table 02-7): one to a namespace it suspends, or one accepted to wait for its map. -/
def State.covered (s : State) (c : Cmd) : Bool := s.nsHeld c.nsid || c.accepted

/-- The deadline as q from the clock's start; none where a suspension admits the command without one (R50, R51). -/
def State.limitQ (s : State) (c : Cmd) : Option Nat :=
  if s.covered c then none else some ((s.cls c.cls).deadline c.kind * qUs)

/-- A bound against the limit. -/
def within (bound : Nat) (limit : Option Nat) : Bool := (limit.map (fun D => decide (bound ≤ D))).getD true

/-- A command accepted: deadline taken (R24, R40), counted (Table 12-10). -/
def Cmd.taken (c : Cmd) (s : State) : Cmd :=
  { c with phase := .running, accepted := true, deadline := (s.cls c.cls).deadline c.kind }

/-- Device reads of host memory that an accepted command issues: its PRP lists and SGL segments, and for a write or compare one for each
16 KiB of data (R30, log entry 18). -/
def Cmd.reads (c : Cmd) : Nat :=
  if c.win.isSome then 0
  else (if c.op = 0x09 then 0 else c.lists) + (if c.op = 0x01 ∨ c.op = 0x05 then ceilDiv c.bytes 16384 else 0)

/-- Host port bytes of a command over the frames its transfer of `len` q runs in (R58), `d` q from now; where they do not fit there, the
transfer moves to the start of a later frame. The answer holds by how much. -/
def State.bookHost (s : State) (c : Cmd) (len d : Nat) : Option (Nat × State × List Booking) :=
  if c.win.isSome ∨ c.bytes = 0 then some (0, s, [])
  else (List.range 64).findSome? (fun k =>
    let d' := max d (k * qFrame - s.nowOff)
    let bs := shares s.plt.frame (if c.op = 0x02 then 5 else 4) (c.fn / 128) c.bytes len (s.nowOff + d')
    (s.bookAll bs).map (fun t => (d' - d, t, bs)))

/-- The answer to a read whose flash reads are planned (R71 to R80): its tiles and its host transfer booked, its bands pinned and its
staging slots held; accepted where the bound, with what the transfer had to wait, is within the limit. -/
def State.admitPlanned (s : State) (c : Cmd) (limit : Option Nat) (slots : List Nat) (a : PlanAcc) : Verdict :=
  let host := s.hostTime c
  let tiles : Booking := ⟨8, s.route (c.fn / 128), s.plt.frame, slots.length⟩
  let at_ := if c.op = 0x02 then a.bound - s.elQ c - (host + tAllow + tPost) else 0
  match (a.st.book1 tiles).bind (fun t => t.bookHost c host at_) with
  | none => .refuse never
  | some (late, t, hb) =>
    if !within (a.bound + late) limit then .refuse never
    else
      let bands := (a.ius.map IuPlan.band).dedup
      let t := bands.foldl State.pinBand t
      let t := { t with atl := { t.atl with
        stage := slots.foldl (fun m k => match tabGet (fun _ => none) m k with
          | some (x : Stage) => tabSet (fun _ => none) m k (some { x with reads := x.reads + 1 })
          | none => m) t.atl.stage } }
      .accept { c.taken s with bookings := (a.books.map Prod.snd).flatten ++ tiles :: hb, ius := a.ius, pinned := bands, slotReads := slots,
                               earliest := boundUs (a.bound + late), openReads := c.reads,
                               waitFrom := if 0 < c.reads then some s.now else none } t

/-- The admission of a read, Compare or Verify (R71 to R80) within `limit`; `best` seeks the smallest bound. -/
def State.admitRead (s : State) (n : Ns) (c : Cmd) (limit : Option Nat) (best : Bool) : Verdict :=
  let c := c.checked (s.zeroLbas n c)
  let src := s.sourcesOf n c.slba c.nlb
  let host := s.hostTime c
  let el := s.elQ c
  if src.any (fun x => decide (x.2 = .fail)) then
    .accept { c.taken s with earliest := boundUs (el + tPost) } s
  else
    let slots := src.filterMap (fun x => match x.2 with | .slot a => some a | _ => none)
    let flash := src.filterMap (fun x => match x.2 with | .flash a => some (x.1, a) | _ => none)
    let base := el + host + tAllow + tPost + (if slots.isEmpty then 0 else tStage + tCiph)
    let r : PlanReq := ⟨el, host, limit, c.start, c.fn / 128, s.ciphQ c.nsid, some (c.fn, c.sq, c.cid), some (c.fn, c.epoch), best⟩
    match planIus r flash ⟨s, base, [], []⟩ with
    | none => .refuse never
    | some a => s.admitPlanned c limit slots a

/-- The IUs of a range, each with the mask of LBAs covered and whether the whole IU is. -/
def State.pieces (s : State) (n : Ns) (ranges : List (Nat × Nat)) : List (Nat × Nat × Bool) :=
  ranges.flatMap (fun r => if r.2 = 0 then [] else
    (s.iusOf n r.1 r.2).map (fun k => let m := s.coverMask n k r.1 r.2; (k, m, decide (m = s.fullMask n))))

/-- Staging bytes a piece books (R134): none for a partial IU whose assembly slot is open. -/
def State.pieceBytes (s : State) (n : Ns) (p : Nat × Nat × Bool) : Nat :=
  if !p.2.2 && (s.asmOf p.1).isSome then 0 else ((s.poolOf n.pool).map Pool.iuBytes).getD 16384

/-- The value the LBAs of a partial write's IU had before (Table 04-5): that of its open assembly slot, or its map entry. -/
def State.prevOf (s : State) (key : Nat) : Ent :=
  match s.asmOf key with
  | some a => a.prev
  | none => s.lookup key

/-- The read of the worst-case read-modify-write of the partial pieces (R84, R134), planned by frame PROG_LAG: the state, the
largest bound from now, the bookings by IU. The band it reads is pinned (R125). -/
def State.bookRmw (s : State) (n : Ns) (c : Cmd) (parts : List (Nat × Nat × Bool)) : Option (State × Nat × List (Nat × List Booking)) :=
  let lag := s.fld F.PLT_LAGS_PROG_LAG 0
  let flash := parts.filterMap (fun p =>
    let prev := s.prevOf p.1
    if prev.st = .mapped then some (p.1, prev.addr) else none)
  let r : PlanReq := ⟨0, 0, some ((lag + 1) * qFrame - s.nowOff), s.now, 2, tCiph, none, some (c.fn, c.epoch), false⟩
  (planIus r flash ⟨s, 0, [], []⟩).map (fun a => (a.st, a.bound, a.books))

/-- No write, deallocate or Write Uncorrectable is admitted: the journal tail is full (R146), writes are stopped (R170), or no
stripe journal slot was FREE and no frame has begun with one since (R193). -/
def State.writesHeld (s : State) : Bool := s.atl.jrnlFull || s.svy.writesStopped || s.par.slotsOut

/-- LBA poison table entries a command reserves (R431): one for each partial IU of an LBAF 1 namespace. -/
def poisonNeed (n : Ns) (parts : List (Nat × Nat × Bool)) : Nat := if n.lbaf = 1 then parts.length else 0
/-- Entries of the LBA poison table (R430). -/
def poisonEntries : Nat := 1048576
/-- The namespace an IU lies in. -/
def State.nsAt (s : State) (key : Nat) : Option Ns :=
  (s.atl.ns.filterMap Prod.snd).find? (fun n => decide (iuKey n.pool n.base ≤ key ∧ 0 < n.nlba ∧ key ≤ s.iuOfLba n (n.nlba - 1)))
/-- Entries of the table in use: one for each IU of an LBAF 1 namespace whose mask is not zero. -/
def State.poisonUsed (s : State) : Nat :=
  (s.atl.poison.filter (fun e => (s.nsAt e.1).any (fun n => decide (n.lbaf = 1)))).length

/-- Bookings of a write's bytes in a stripe group (R84 to R88): `bytes` are programmed, `written` of them are the write's own. A FUA
write's programs are one on every usable member in closed windows. The answer holds the end of the FUA programs from now, the latest frame of
the programs, and the bookings. -/
def State.bookProgram (s : State) (g bytes written from_ : Nat) (fua : Bool) : Option (State × Nat × Nat × List Booking) :=
  let lag := s.fld F.PLT_LAGS_PROG_LAG 0
  let hi := s.plt.frame + lag
  let share := if fua then some (s, []) else
    (s.spreadShares s.plt.frame hi (s.programShares g bytes)).bind (fun a =>
      (a.1.bookStarts (a.1.members g) hi (a.1.programStarts g bytes)).map (fun b => (b.1, a.2 ++ b.2)))
  share.bind (fun a =>
    (a.1.spread 3 0 (foldUnits bytes) s.plt.frame (lag + 1)).bind (fun p =>
      (p.1.bookDebt g (p.1.debtFrac g written) (s.plt.frame + s.fld F.PLT_LAGS_DEBT_LAG 0)).bind (fun b =>
        (if fua then b.1.fuaPrograms from_ lag (b.1.members g) 0 [] else some (b.1, 0, [])).map (fun f =>
          let last := ((a.2 ++ f.2.2).filter (fun b => decide (b.res = 0))).foldl (fun k b => max k b.frame) s.plt.frame
          (f.1, f.2.1, last, a.2 ++ p.2 ++ b.2 ++ f.2.2)))))

/-- Bytes a list of pieces writes (b of R88). -/
def State.writtenBytes (s : State) (n : Ns) (pieces : List (Nat × Nat × Bool)) : Nat :=
  pieces.foldl (fun k p => k + countBelow (max 1 (s.lbasPerIu n)) (fun i => decide (p.2.1 / 2 ^ i % 2 = 1)) * lbaBytes n.lbaf) 0

/-- The bookings of a command that stages `pieces` (R84, R85, R138 step 3): the state, the bound, the command with them. -/
def State.bookWrite (s : State) (n : Ns) (c : Cmd) (pieces : List (Nat × Nat × Bool)) : Option (State × Nat × Cmd) :=
  let stage := pieces.foldl (fun k p => k + s.pieceBytes n p) 0
  let parts := pieces.filter (fun p => !p.2.2)
  let need := poisonNeed n parts
  match s.writeGroup with
  | none => none
  | some g =>
    if 0 < need ∧ poisonEntries < s.poisonUsed + s.atl.poisonRes + need then none
    else
      let s0 := { s with svy := { s.svy with cursor := (g + 1) % 128 },
                         atl := { s.atl with poisonRes := s.atl.poisonRes + need } }
      let room : Booking := ⟨9, 0, 0, stage⟩
      let tiles : Booking := ⟨8, s.route 2, s.plt.frame, max 1 (ceilDiv stage 16384)⟩
      (s0.book1 room).bind (fun s1 => (s1.book1 tiles).bind (fun s2 => (s2.bookHost c (s.hostTime c) 0).bind (fun h =>
        (h.2.1.bookRmw n c parts).bind (fun m =>
          let fua := decide (c.kind = .fua)
          let head := tAllow + s.hostTime c + h.1 + tCiph + tStage
          (m.1.bookProgram g stage (s.writtenBytes n pieces) (head + m.2.1) fua).map (fun p =>
            let bound := if fua then s.elQ c + p.2.1 + tPost else s.elQ c + head + tPost
            let bands := (m.2.2.map (fun e => s.bandOfAddr (s.prevOf e.1).addr)).dedup
            (bands.foldl State.pinBand p.1, bound,
              { c with bookings := room :: tiles :: h.2.2 ++ p.2.2.2, rmw := m.2.2, pinned := bands, stageLeft := stage,
                       toStage := pieces.map Prod.fst, group := g, by_ := p.2.2.1, prog := if fua then boundUs (s.elQ c + p.2.1) else 0,
                       earliest := boundUs bound, openReads := c.reads, waitFrom := if 0 < c.reads then some s.now else none }))))))

/-- A write's verdict from its bookings. -/
def writeVerdict (r : Option (State × Nat × Cmd)) (limit : Option Nat) : Verdict :=
  match r with
  | none => .refuse never
  | some (t, bound, c) => if within bound limit then .accept (c.taken t) t else .refuse never

/-- The admission of a Write or Write Zeroes without DEAC (R84, R85). -/
def State.admitWrite (s : State) (n : Ns) (c : Cmd) (limit : Option Nat) : Verdict :=
  if s.writesHeld then .refuse never
  else writeVerdict (s.bookWrite n c (s.pieces n [(c.slba, c.nlb)])) limit

/-- A command that books nothing but its completion. -/
def State.admitAtOnce (s : State) (c : Cmd) (bound : Nat) (limit : Option Nat) (t : State) : Verdict :=
  if within bound limit then .accept { c.taken s with earliest := boundUs bound } t else .refuse never

/-- The latest program booked for the live staged IUs of a namespace (R86), and those slots. -/
def State.stagedOf (s : State) (n : Ns) : List (Nat × Stage) :=
  let last := s.iuOfLba n (n.nlba - 1)
  s.atl.stage.filterMap (fun e => e.2.bind (fun x =>
    if x.live ∧ iuKey n.pool n.base ≤ x.iu ∧ x.iu ≤ last then some (e.1, x) else none))

/-- The admission of a Flush (R86, R372). -/
def State.admitFlush (s : State) (n : Ns) (c : Cmd) (limit : Option Nat) : Verdict :=
  let l := s.stagedOf n
  let last := l.foldl (fun m e => max m (e.2.by_ + 1)) s.plt.frame
  let bound := s.elQ c + (if l.isEmpty then 0 else (last - s.plt.frame) * qFrame - s.nowOff) + tPost
  s.admitAtOnce { c with waitsFor := l.map Prod.fst } bound limit s

/-- The parts of a deallocate (R138): the segments covered whole, the whole IUs of the others, the partial IUs. -/
def State.deallocParts (s : State) (n : Ns) (ranges : List (Nat × Nat)) : List Nat × List Nat × List (Nat × Nat × Bool) :=
  let ps := s.pieces n ranges
  let whole := (ps.filter (fun p => p.2.2)).map Prod.fst
  let segs := (whole.map segOfIu).dedup.filter (fun k =>
    let first := k / 2 ^ 32 * 2 ^ 40 + k % 2 ^ 32 * 819
    (List.range 819).all (fun i => whole.contains (first + i)))
  (segs, whole.filter (fun k => !segs.contains (segOfIu k)), ps.filter (fun p => !p.2.2))

/-- The IUs of step 2 of R138, one update and one record each. -/
def State.discardIus (s : State) (ius : List Nat) : State :=
  ius.foldl (fun s k => s.swapAll 3 [(k, Ent.reset, 0)]) s

/-- Steps 1 and 2 of R138, journalled (R144). A segment discarded whole that an engine holds is zeroed there: it is DIRTY. -/
def State.discardRanges (s : State) (segs ius : List Nat) : State :=
  let hit := fun (k : Nat) => ius.contains k || segs.contains (segOfIu k)
  let s := s.closeSlots hit
  let s := segs.foldl (fun s k => s.discardSeg k) s
  let s := { s with atl := { s.atl with poison := s.atl.poison.filter (fun e => !hit e.1) } }
  s.discardIus ius

/-- The segments of these IUs and segments that have updates waiting (R126, R148). -/
def State.segsAwaited (s : State) (segs ius : List Nat) : List Nat :=
  ((segs ++ ius.map segOfIu).filter (fun k => s.atl.queued.any (fun u => u.segs.contains k))).dedup

/-- The admission of a deallocate (R138): with no partial IU it books nothing, and of the stops only a full journal (R146) refuses it, not
stopped writes (R170); otherwise the fill is booked as a write. -/
def State.admitDealloc (s : State) (n : Ns) (c : Cmd) (limit : Option Nat) : Verdict :=
  let d := s.deallocParts n c.ranges
  if d.2.2.isEmpty then
    let t := s.discardRanges d.1 d.2.1
    if s.atl.jrnlFull then .refuse never else s.admitAtOnce { c with waitsSeg := t.segsAwaited d.1 d.2.1 } (s.elQ c + tPost) limit t
  else if s.writesHeld then .refuse never
  else match writeVerdict (s.bookWrite n { c with bytes := 0 } d.2.2) limit with
    | .accept c' t =>
      let t := t.discardRanges d.1 d.2.1
      .accept { c' with waitsSeg := t.segsAwaited d.1 d.2.1 } t
    | v => v

/-- The admission of a Write Uncorrectable (R142): whole IUs are poisoned; partial ones go through an assembly slot. -/
def State.admitUncor (s : State) (n : Ns) (c : Cmd) (limit : Option Nat) : Verdict :=
  let ps := s.pieces n [(c.slba, c.nlb)]
  let whole := (ps.filter (fun p => p.2.2)).map Prod.fst
  let parts := ps.filter (fun p => !p.2.2)
  let poison := fun (t : State) => whole.foldl (fun s k => s.poisonIu k 2) t
  if s.writesHeld then .refuse never
  else if parts.isEmpty then
    let t := poison s
    s.admitAtOnce { c with waitsSeg := t.segsAwaited [] whole } (s.elQ c + tPost) limit t
  else match writeVerdict (s.bookWrite n c parts) limit with
    | .accept c' t =>
      let t := poison t
      .accept { c' with waitsSeg := t.segsAwaited [] whole } t
    | v => v

/-- A command to a suspended namespace some of whose segments are not rebuilt yet. -/
def State.awaitsMap (s : State) (n : Ns) (c : Cmd) : Bool :=
  s.covered c
    && (s.iusOf n c.slba (max 1 c.nlb)).any (fun k => s.atl.recovering.contains (segOfIu k))

/-- The check of a command of each opcode against a limit (R79); `best` seeks the smallest bound (R80). An accepted command holds its
bound in `earliest`. -/
def State.admitOp (s : State) (n : Ns) (c : Cmd) (limit : Option Nat) (best : Bool) : Verdict :=
  match c.op with
  | 0x00 => s.admitFlush n c limit
  | 0x01 => s.admitWrite n c limit
  | 0x02 | 0x05 | 0x0C => s.admitRead n c limit best
  | 0x04 => s.admitUncor n c limit
  | 0x08 => if c.kind = Kind.dealloc then s.admitDealloc n c limit else s.admitWrite n c limit
  | 0x09 => if c.kind = Kind.dealloc then s.admitDealloc n c limit else s.admitAtOnce c (s.elQ c + tPost) limit s
  | _ => .refuse never

/-- The earliest attainable deadline of a command (R44, R80), in µs: the bound of its plans where nothing limits them. -/
def State.hint (s : State) (n : Ns) (c : Cmd) : Nat :=
  match s.admitOp n c none true with
  | .accept c' _ => c'.earliest
  | _ => never

/-- ADMIT (R79): the check of a command. An UNFIT class refuses with the deadline that would have been met (R44, R49). A namespace whose
promise a DRAM channel fence suspends is refused nothing: its command waits (R51), and one that waited is not refused after the suspension
either (R50: it completes after the map is rebuilt). While admission is closed nothing is accepted
(R525); a refusal then reports 0xFFFFFFFF (DESIGN CHOICE, log entry 51: R44 does not say which deadline applies). -/
def State.admission (s : State) (c : Cmd) : Verdict :=
  match s.nsOf c.nsid with
  | none => .refuse never
  | some n =>
    let free := s.covered c
    if !s.plt.admitOpen then (if c.accepted then .await else .refuse never)
    else if s.awaitsMap n c then .await
    else
      match s.admitOp n c (s.limitQ c) false with
      | .accept c' t => if (s.cls c.cls).unfit && !free then .refuse (s.hint n c) else .accept c' t
      | .refuse _ => if free then .await else .refuse (s.hint n c)
      | .await => .await

/-- A write whose protection information fails its check ends with the status of the check, unwritten (R379). -/
def State.writeFails (s : State) (c : Cmd) : State :=
  let s := s.release c
  let s := s.mapCmd c.fn c.sq c.cid (fun c => { c with bookings := [], stageLeft := 0, toStage := [] })
  s.endCmd c.fn c.sq c.cid (outcomeStatus c.outcome)

/-- What an accepted command does at once: a read of lost data ends (R142, R148); one with nothing to wait for completes. -/
def State.started (s : State) (c : Cmd) (failed : Bool) : State :=
  if failed then s.readLost c
  else if c.op = 0x02 ∨ c.op = 0x05 ∨ c.op = 0x0C then s.readDone c
  else if c.op = 0x01 ∧ c.openReads = 0 ∧ c.outcome ≠ 0 then s.writeFails c
  else if c.toStage.isEmpty ∧ c.waitsFor.isEmpty ∧ c.waitsSeg.isEmpty then s.endCmd c.fn c.sq c.cid Sc.success
  else s

/-- A read is refused data by its map entries (R137, R142, R148). -/
def State.readFails (s : State) (c : Cmd) : Bool :=
  (c.op = 0x02 || c.op = 0x05 || c.op = 0x0C)
    && ((s.nsOf c.nsid).map (fun n => (s.sourcesOf n c.slba c.nlb).any (fun x => decide (x.2 = .fail)))).getD false

/-- A command accepted is counted once (Table 12-10). -/
def State.countTaken (s : State) (c : Cmd) : State := if c.accepted then s else (s.stat c.fn 0).stat c.fn (64 + c.cls)

/-- A command accepted with its bookings is counted and started; `was` is the command as it was offered. -/
def State.acceptCmd (s t : State) (was c : Cmd) : State :=
  ((t.mapCmd c.fn c.sq c.cid (fun _ => c)).countTaken was).started c (s.readFails c)

/-- The lookups of a command's admission reach the engines that serve their segments (R118, R123): those of the IUs it reads, or covers in
part; a DISCARDED segment is not loaded (R124). -/
def State.lookupSegs (s : State) (c : Cmd) : State :=
  match s.nsOf c.nsid with
  | none => s
  | some n =>
    let keys := if c.op = 0x02 ∨ c.op = 0x05 ∨ c.op = 0x0C then s.iusOf n c.slba c.nlb
      else if c.op = 0x01 ∨ c.op = 0x04 ∨ c.op = 0x08 then ((s.pieces n [(c.slba, c.nlb)]).filter (fun p => !p.2.2)).map Prod.fst
      else if c.op = 0x09 then ((s.pieces n c.ranges).filter (fun p => !p.2.2)).map Prod.fst else []
    if !s.atl.mapReady then s
    else ((keys.map segOfIu).dedup.filter (fun k => !(s.segOf k).discarded)).foldl (fun (s : State) k => s.obtain k (s.steer k)) s

/-- The admission of an offered command, after its lookups: accepted, refused with the hint, or accepted to wait for its map. -/
def State.decide_ (s : State) (c : Cmd) (atLimit : Bool) : State :=
  let s := s.lookupSegs c
  match s.admission c with
  | .accept c' t => s.acceptCmd t c c'
  | .refuse e => s.refuseCmd c e atLimit
  | .await => (s.mapCmd c.fn c.sq c.cid (fun c => { c with accepted := true, suspended := true })).countTaken c

/-- Commands accepted to wait for their map are offered again (R50, R51): as a segment is rebuilt, and at each frame boundary (log entry
66). -/
def State.offerWaiting (s : State) : State :=
  (s.cmds.filter (fun c => decide (c.phase = .offered) && c.accepted)).foldl (fun s c => s.decide_ c false) s

/-! ### Staging (R126, R131 to R133, R143) -/

/-- A staging slot for an IU: the next staging offset (log entry 19). -/
def State.newSlot (s : State) (fn key bytes by_ : Nat) : Nat × State :=
  let a := s.atl.nextStage
  let x : Stage := ⟨fn, key, true, 0, 0, s.pwr.stageEpoch, bytes, by_⟩
  (a, { s with atl := { s.atl with nextStage := a + max 1 (bytes / 4096), stage := tabSet (fun _ => none) s.atl.stage a (some x) } })

/-- The end of the assembly window (R133, Table 04-5): LBAs missing are filled from the previous value; those of a poisoned
one, or of a read that failed (R135), are marked. -/
def State.fillAsm (s : State) (a : Assembly) (readOk : Bool) : State :=
  let miss := a.full - (a.present &&& a.full)
  let lost := a.prev.st = .poisoned ∨ (a.prev.st = .mapped ∧ readOk = false)
  let s := if lost ∧ miss ≠ 0 then s.setPoison a.iu (s.poisonMask a.iu ||| miss) else s
  let s := if a.prev.st = .mapped ∧ readOk = false ∧ miss ≠ 0 then
      s.record 0x040 0 0 0x000E (a.iu % 2 ^ 40 + a.iu / 2 ^ 40 * 2 ^ 40 + 1 * 2 ^ 45) else s
  s.closeAsm a (decide (miss ≠ 0))

/-- The read-modify-write a command booked for an IU. -/
def Cmd.rmwOf (c : Cmd) (key : Nat) : List Booking := ((c.rmw.filter (fun e => decide (e.1 = key))).map Prod.snd).flatten

/-- The epoch of the data a command's `j`-th 16 KiB of host memory brought (R98, R128): that of the device read that fetched it. -/
def Cmd.dataEpoch (c : Cmd) (j : Nat) : Nat := c.readEpochs.getD (c.lists + j) c.epoch

/-- The 16 KiB of a command's data an IU's first byte lies in. -/
def State.readOf (s : State) (n : Ns) (c : Cmd) (key : Nat) : Nat := (s.lbaOfIu n key - c.slba) * lbaBytes n.lbaf / 16384

/-- HOST_STAGE of one IU of a command (R126, R132, R136): the staging slots it wrote, whether the map changed; `j` is the 16 KiB of the
command's data that holds it. -/
def State.stageIu (s : State) (n : Ns) (c : Cmd) (key mask j : Nat) : State × List Nat × List (Nat × Ent × Nat) :=
  let full := s.fullMask n
  let bytes := ((s.poolOf n.pool).map Pool.iuBytes).getD 16384
  let marks := if c.op = 0x04 then s.poisonMask key ||| mask else s.poisonMask key - (s.poisonMask key &&& mask)
  let present := if c.op = 0x04 then 0 else mask
  if mask = full ∧ c.op ≠ 0x04 then
    let s := match s.asmOf key with
      | some a => s.closeAsm a false
      | none => s
    let r := s.newSlot c.fn key bytes c.by_
    (r.2.setPoison key 0, [r.1], [(key, ⟨.staged, r.1, 0⟩, c.dataEpoch j)])
  else match s.asmOf key with
    | some a =>
      let a' := { a with present := a.present ||| present, pres := a.pres + b2n (decide (n.lbaf = 1)) }
      let s := ((s.setPoison key marks).dropAsm key).dropRmw key (c.rmwOf key)
      if a'.present = full then (s.closeAsm a' false, [a.slot], [])
      else ({ s with atl := { s.atl with asm := s.atl.asm ++ [a'] } }, [a.slot], [])
    | none =>
      let prev := s.pendingEnt key
      let s := if prev.st = .staged then s.holdSlot prev.addr else s
      let r := s.newSlot c.fn key bytes c.by_
      let band := if prev.st = .mapped then some (s.bandOfAddr prev.addr) else none
      let a : Assembly := ⟨key, r.1, present, full, prev, decide (prev.st = .mapped), b2n (decide (n.lbaf = 1)), s.now, c.rmwOf key, band⟩
      let s := (match band with
        | some b => r.2.pinBand b
        | none => r.2)
      let s := s.setPoison key marks
      ({ s with atl := { s.atl with asm := s.atl.asm ++ [a] } }, [r.1], [(key, ⟨.staged, r.1, 0⟩, c.dataEpoch j)])

/-- A write is atomic (R143): at most 512 KiB and inside one 512 KiB-aligned range of its LBA space. -/
def atomicWrite (n : Ns) (c : Cmd) : Bool :=
  let l := lbaBytes n.lbaf
  decide (0 < c.nlb ∧ c.nlb * l ≤ 524288 ∧ c.slba * l / 524288 = ((c.slba + c.nlb) * l - 1) / 524288)

/-- The LBA mask of a command in one of its IUs. -/
def State.maskOfCmd (s : State) (n : Ns) (c : Cmd) (key : Nat) : Nat :=
  if c.kind = .dealloc then
    c.ranges.foldl (fun m r => if r.2 = 0 then m else m ||| s.coverMask n key r.1 r.2) 0
  else s.coverMask n key c.slba c.nlb

/-- The type of the record that sets these entries (R144): SET_RUN where they are consecutive and carry one epoch, else SET_LIST. -/
def setKind : List (Nat × Ent × Nat) → Nat
  | [] => 1
  | x :: rest =>
    if (List.range rest.length).all (fun i => match rest[i]? with
      | some y => decide (y.1 = x.1 + i + 1 ∧ y.2.2 = x.2.2)
      | none => true) then 1 else 2

/-- HOST_STAGE for the IUs `keys` of a command: one journal record where the map changed, its updates applied together (R143), the partial
IUs of an FUA write filled at once (R85; one that needs its read when that read ends), and the completion once every IU is staged and its
update applied (R131, R148). A write of many IUs that is not atomic is staged IU by IU, each with its own record. -/
def State.stageAll (s : State) (n : Ns) (c : Cmd) (keys : List Nat) : State :=
  let r : State × List Nat × List (Nat × Ent × Nat) := keys.foldl (fun a k =>
    let j := s.readOf n c k
    let x := a.1.stageIu n c k (a.1.maskOfCmd n c k) j
    (x.1, a.2.1 ++ x.2.1, a.2.2 ++ x.2.2)) (s, [], [])
  let s := r.1.swapAll (setKind r.2.2) r.2.2
  let s := if c.kind = .fua then keys.foldl (fun s k => match s.asmOf k with
    | some a => if a.prev.st = .mapped ∧ a.full - (a.present &&& a.full) ≠ 0 then s else s.fillAsm a true
    | none => s) s else s
  let bytes := ((s.poolOf n.pool).map Pool.iuBytes).getD 16384
  let c' : Cmd := { c with
    toStage := c.toStage.filter (fun k => !keys.contains k), staged := c.staged ++ r.2.1,
    stageLeft := c.stageLeft - r.2.2.length * bytes, rmw := c.rmw.filter (fun e => !keys.contains e.1),
    waitsSeg := (c.waitsSeg ++ s.segsAwaited [] (r.2.2.map Prod.fst)).dedup,
    waitsFor := if c.kind = .fua then c.waitsFor ++ r.2.1 else c.waitsFor }
  let s := s.mapCmd c.fn c.sq c.cid (fun _ => c')
  let s := if c'.toStage.isEmpty then
      (if c.op = 0x01 then (s.mediaCount 11 (c.bytes / 512)).mediaCount 13 1 else s) else s
  let s := if c'.toStage.isEmpty ∧ c'.waitsFor.isEmpty ∧ c'.waitsSeg.isEmpty then s.endCmd c.fn c.sq c.cid Sc.success else s
  s.wakeWaiters

end Sys2Proof.Machine
end

