-- ==== Sys2Proof/Machine/Io.lean ====
section
/-! DEFINITION. The commands of chapters 2, 3 and 12 on the path of an I/O command: doorbells, fetches, probes, the I/O commands,
ADMIT, host reads, staging, and the completion entry. -/

set_option linter.unusedVariables false

namespace Sys2Proof.Machine

/-! ### Doorbells and fetches -/

/-- A doorbell write returns the device from a non-operational state, and from PS2 to PS4 to PS0 (R53, R393, Table 16-2). -/
def State.doorbellWake (s : State) : State := s.toService

/-- A function takes doorbells: enabled, its link up, outside a reset, the device not stopped. -/
def State.takesDoorbell (s : State) (fn : Nat) : Bool := (s.fnOf fn).enabled && s.hubOn

/-- SQ_DOORBELL_WRITE (R363): a tail beyond the queue, or a queue that does not exist, is ignored with an Error event. -/
def execSqDoorbellWrite (fn q value : Nat) (s : State) : Res :=
  if !s.takesDoorbell fn then .next s
  else match s.sqOf fn q with
    | none => .next (s.asyncEvent fn evInvalidDoorbell)
    | some x =>
      if x.size ≤ value then .next (s.asyncEvent fn evInvalidDoorbellValue)
      else .next ((s.setSq fn q (some { x with tail := value })).doorbellWake)

/-- Entries of a completion queue posted and not yet taken by the host. -/
def Cq.used (x : Cq) : Nat := (x.tail + x.size - x.head) % max 1 x.size
/-- A completion queue has room for one more entry. -/
def Cq.room (x : Cq) : Bool := decide (x.used + 1 < x.size)

/-- CQ_DOORBELL_WRITE (R363): the head moves over entries that were posted; any other value is ignored with an Error event. -/
def execCqDoorbellWrite (fn q value : Nat) (s : State) : Res :=
  if !s.takesDoorbell fn then .next s
  else match s.cqOf fn q with
    | none => .next (s.asyncEvent fn evInvalidDoorbell)
    | some x =>
      if x.size ≤ value ∨ x.used < (value + x.size - x.head) % max 1 x.size then .next (s.asyncEvent fn evInvalidDoorbellValue)
      else .next (s.setCq fn q (some { x with head := value }))

/-- Fetching goes on for a function: ready, its engine in service, no shutdown notified, no drain, admission open (R359, R377, R52, R672,
R525). -/
def State.fetches (s : State) (fn : Nat) : Bool :=
  let c := s.ctl fn
  c.rdy && decide (c.shn = 0) && !s.plt.drain && s.plt.admitOpen && s.hubOn && !s.fenced 0x020 (s.fnOf fn).engine

/-- The class the next fetch of a queue is made under (R39). -/
def Sq.nextCls (x : Sq) : Nat := x.newCls.getD x.cls

/-- A strict queue, or the admin queue, has an entry that may be fetched now (R38, R41 to R43, R45). `bytes` is what its head
entry transfers. -/
def State.eligible (s : State) (fn q bytes : Nat) (x : Sq) : Bool :=
  decide (x.head ≠ x.tail) && !x.stalled && !x.deleting
    && (decide (q = 0)
      || (s.bindable fn x.nextCls && (!(s.cls x.nextCls).hold || (s.cls x.nextCls).unfit)
        && (s.bucket fn x.nextCls).covers (s.cls x.nextCls) bytes))

/-- One entry of a queue fetched: the head advances, the binding and tokens are taken (R39, R41). -/
def State.fetchOne (s : State) (fn q bytes : Nat) (x : Sq) : State :=
  let c := x.nextCls
  let s := s.setSq fn q (some { x with head := (x.head + 1) % max 1 x.size, cls := c, newCls := none,
                                       fetching := x.fetching ++ [(x.head, c, s.fnEpoch fn)], headSince := none, probing := false,
                                       probed := none })
  if q = 0 then s else s.setBucket fn c ((s.bucket fn c).take (s.cls c) bytes)

/-- The Arbitration Burst in entries (R363): 2^n, none for 7. -/
def burstEntries (n : Nat) : Nat := if n = 7 then 65536 else 2 ^ n

/-- The bytes the head entry of a queue transfers, as it was read ahead of the fetch. -/
def headBytes (heads : List (Nat × Nat)) (q : Nat) : Nat := ((heads.find? (fun h => decide (h.1 = q))).map Prod.snd).getD 0

/-- SQ_ENTRY_FETCH (R363): the next eligible queue in round robin, up to the Arbitration Burst from each. A command is fetched only after
the exit from a power state (R53): in READY the exit comes first. -/
def execSqEntryFetch (fn : Nat) (heads : List (Nat × Nat)) (s : State) : Res :=
  if !s.fetches fn then .next s
  else
    let c := s.ctl fn
    let can := fun q => match s.sqOf fn q with
      | some x => s.eligible fn q (headBytes heads q) x
      | none => false
    let pick := if 0 < c.rrLeft && can c.rrNext then some (c.rrNext, c.rrLeft - 1)
      else (((List.range 513).map (fun k => (c.rrNext + 1 + k) % 513)).find? can).map (fun q => (q, burstEntries c.burst - 1))
    match pick with
    | none => .next s
    | some (q, left) =>
      let s := s.toService
      match s.sqOf fn q with
      | none => .next s
      | some x => .next ((s.fetchOne fn q (headBytes heads q) x).setCtl fn { s.ctl fn with rrNext := q, rrLeft := left })

/-! ### The I/O commands (Table 12-3): arrival, validation, the offer to admission -/

def execRead (e : IoEntry) (s : State) : Res := .next (s.arrive e 0x02 false [])
def execWrite (e : IoEntry) (s : State) : Res := .next (s.arrive e 0x01 false [])
def execFlush (e : IoEntry) (s : State) : Res := .next (s.arrive e 0x00 false [])
def execWriteUncorrectable (e : IoEntry) (s : State) : Res := .next (s.arrive e 0x04 false [])
def execCompare (e : IoEntry) (s : State) : Res := .next (s.arrive e 0x05 false [])
/-- WRITE_ZEROES (R370): DEAC makes it a deallocate of its range. -/
def execWriteZeroes (e : IoEntry) (s : State) : Res :=
  .next (s.arrive e 0x08 e.deac (if e.deac then [(e.slba, e.nlb + 1)] else []))
/-- DATASET_MANAGEMENT (R138, R370). -/
def execDatasetManagement (e : IoEntry) (ad : Bool) (ranges : List (Nat × Nat)) (s : State) : Res :=
  .next (s.arrive e 0x09 ad ranges)
def execVerify (e : IoEntry) (s : State) : Res := .next (s.arrive e 0x0C false [])

/-- IO_INVALID_OPCODE (R366): ends with Invalid Opcode and is not accepted. -/
def execIoInvalidOpcode (e : IoEntry) (opcode : Nat) (s : State) : Res :=
  match s.sqOf e.fn e.sq with
  | none => .next s
  | some q =>
    let s := s.setSq e.fn e.sq (some { q with fetching := q.fetching.tail, retried := false })
    let x := q.fetching.head?.getD (0, q.cls, s.fnEpoch e.fn)
    .next (s.enter (newCmd e opcode .other x.2.1 s.now x.2.2 0 []) (some Sc.invalidOpcode))

/-- ADMIT (R79), once a range list has been read. -/
def execPlotAdmit (fn sq cid : Nat) (s : State) : Res :=
  match s.findCmd fn sq cid with
  | some c => if c.phase = .offered ∧ c.openReads = 0 then .next (s.decide_ c false) else .next s
  | none => .next s

/-! ### Hold classes (R45 to R47, R83) -/

/-- The shape of an entry of an opcode: whether it is a deallocate, and its ranges. -/
def ioShape (e : IoEntry) (op : Nat) (ad : Bool) (ranges : List (Nat × Nat)) : Bool × List (Nat × Nat) :=
  if op = 0x08 then (e.deac, if e.deac then [(e.slba, e.nlb + 1)] else [])
  else if op = 0x09 then (ad, ranges) else (false, [])

/-- The head entry of a hold-class queue fetched, with its clock started now (R46, R83). -/
def State.probeFetch (s : State) (e : IoEntry) (op : Nat) (ad : Bool) (ranges : List (Nat × Nat)) (x : Sq) : State :=
  let h := ioShape e op ad ranges
  (s.fetchOne e.fn e.sq (s.transferBytes e op) x).arrive e op h.1 h.2

/-- A hold-class queue whose head may be probed (R45, R83): an entry there, its class held, enabled and permitted, its tokens
available. -/
def State.probeable (s : State) (e : IoEntry) (op : Nat) (x : Sq) : Bool :=
  s.fetches e.fn && decide (x.head ≠ x.tail ∧ e.sq ≠ 0) && !x.stalled && !x.deleting && s.bindable e.fn x.nextCls
    && (s.cls x.nextCls).hold && !(s.cls x.nextCls).unfit
    && (s.bucket e.fn x.nextCls).covers (s.cls x.nextCls) (s.transferBytes e op)

/-- A probe is due (R83): the entry's first, one after a frame boundary, or one at a 10 µs mark that ends a span in which some booking was
released. -/
def State.probeDue (s : State) (x : Sq) : Bool :=
  match x.probed with
  | none => true
  | some t => decide (t < s.plt.frameAt) || s.plt.released.any (fun mark => decide (mark ≤ s.now ∧ t < mark))

/-- The check of a head entry: an entry that fits, or fails validation, is fetched; one that does not fit stays unfetched, or
at the end of its hold limit (`last`) is fetched and refused (R46, R47, R83). -/
def State.probe (s : State) (e : IoEntry) (op : Nat) (ad : Bool) (ranges : List (Nat × Nat)) (last : Bool) : State :=
  match s.sqOf e.fn e.sq with
  | none => s
  | some x =>
    if !s.probeable e op x || !(last || s.probeDue x) then s
    else
      let t := s.toService.probeFetch e op ad ranges x
      match t.findCmd e.fn e.sq e.cid with
      | none => s
      | some c =>
        if c.phase ≠ .offered then t
        else match t.admission c with
          | .accept c' u => t.acceptCmd u c c'
          | .await => t.decide_ c last
          | .refuse k =>
            if last then t.refuseCmd c k true
            else s.setSq e.fn e.sq (some { x with headSince := some (x.headSince.getD s.now), probing := true, probed := some s.now })

/-- HOLD_PROBE (R83). -/
def execHoldProbe (e : IoEntry) (op : Nat) (ad : Bool) (ranges : List (Nat × Nat)) (s : State) : Res :=
  .next (s.probe e op ad ranges false)
/-- HOLD_LIMIT_EXPIRY (R46, R47). -/
def execHoldLimitExpiry (e : IoEntry) (op : Nat) (ad : Bool) (ranges : List (Nat × Nat)) (s : State) : Res :=
  .next (s.probe e op ad ranges true)

/-! ### Host reads (R30, R31, R346 to R349) -/

/-- An error a function reports through AER (Table 11-8, rows from 1). -/
def State.aerErr (s : State) (fn row : Nat) : State :=
  let x := s.fnOf fn
  (s.setFn fn { x with aer := row :: x.aer }).emit (.aer fn row)

/-- A command whose host reads have all come back goes on. -/
def State.hostReady (s : State) (c : Cmd) : State :=
  if c.openReads ≠ 0 then s
  else if c.op = 0x01 ∧ c.outcome ≠ 0 then s.writeFails c
  else if c.op = 0x05 ∨ c.op = 0x02 then s.readDone c else s

/-- HOST_READ_COMPLETION (R30): one read fewer outstanding; the wait ends with the last. -/
def execHostReadCompletion (fn sq cid : Nat) (s : State) : Res :=
  match s.findCmd fn sq cid with
  | none => .next s
  | some c =>
    if c.openReads = 0 then .next s
    else
      let c' := ({ c with readEpochs := c.readEpochs ++ [s.fnEpoch fn] } : Cmd).readEnds s.now
      let s := (s.mapCmd fn sq cid (fun _ => c')).atsDone fn
      .next (if c.phase = .running then s.hostReady c' else s)

/-- HOST_ALLOWANCE_EXPIRY (R30): the clock of a command that still waits stands stopped. -/
def execHostAllowanceExpiry (fn sq cid : Nat) (s : State) : Res :=
  match s.findCmd fn sq cid with
  | none => .next s
  | some c =>
    if c.waitFrom.isSome ∧ allowance ≤ c.hostWait s.now then .next (s.mapCmd fn sq cid (fun c => { c with stopped := true }))
    else .next s

/-- A failed read of a submission queue entry is issued again, and a second failure stalls the queue (R349). -/
def State.sqReadFail (s : State) (fn q : Nat) : State :=
  match s.sqOf fn q with
  | none => s
  | some x =>
    if x.fetching.isEmpty ∨ x.stalled then s
    else if !x.retried then s.setSq fn q (some { x with retried := true })
    else
      let s := s.setSq fn q (some { x with stalled := true })
      (s.event F.HST_FN_EVENTS_SQ_STALLED fn 0).record 0x010 (fn / 128) 0 0x4361 (q + fn * 2 ^ 16)

/-- A failed read of host memory for a command: it ends with Data Transfer Error (R31, R349). -/
def State.hostReadLost (s : State) (fn sq cid : Nat) : State :=
  match s.findCmd fn sq cid with
  | some c =>
    let c' := c.readEnds s.now
    let s := s.mapCmd fn sq cid (fun _ => c')
    if c.phase = .posting then s else (s.dataError c').atsDone fn
  | none => s

/-- COMPLETION_TIMEOUT (R31, R348, R349): none while Completion Timeout Disable is set. -/
def execCompletionTimeout (fn sq : Nat) (cid : Option Nat) (s : State) : Res :=
  if (s.fnOf fn).ctd then .next s
  else
    let s := s.aerErr fn 5
    match cid with
    | none => .next ((s.event F.HST_FN_EVENTS_CPL_TIMEOUT fn 0).sqReadFail fn sq)
    | some k =>
      if (s.findCmd fn sq k).isNone then .next s
      else .next ((s.event F.HST_FN_EVENTS_CPL_TIMEOUT fn 0).hostReadLost fn sq k)

/-- HOST_READ_ERROR (R349). -/
def execHostReadError (fn sq : Nat) (cid : Option Nat) (err : Nat) (s : State) : Res :=
  let s := s.aerErr fn 4
  match cid with
  | none => .next (s.sqReadFail fn sq)
  | some k => .next (s.hostReadLost fn sq k)

/-- ATS_TRANSLATION_COMPLETION (R346). -/
def execAtsTranslationCompletion (fn sq cid page : Nat) (ok : Bool) (s : State) : Res :=
  let x := s.fnOf fn
  if !x.ats then .next s
  else if ok then .next (s.setFn fn { x with atsHeld := if x.atsHeld.contains page then x.atsHeld else page :: x.atsHeld })
  else .next (s.hostReadLost fn sq cid)

/-- FLOW_CONTROL_CREDIT (R30): a posted write of a command held for `held` ticks is sent; the time it was held is host wait, what of it
already counts once. -/
def execFlowControlCredit (fn sq cid held : Nat) (s : State) : Res :=
  .next (s.mapCmd fn sq cid (fun c =>
    let c := { c with spans := addSpan c.spans (max c.start (s.now - held)) s.now }
    { c with stopped := decide (c.waitFrom.isSome = true ∧ allowance ≤ c.hostWait s.now) }))

/-! ### Staging (R126, R131) -/

/-- HOST_STAGE (R126, R131, R143): one IU of a running command whose data has arrived, or every IU of an atomic write. -/
def execHostStage (fn sq cid iu : Nat) (s : State) : Res :=
  match s.findCmd fn sq cid with
  | none => .next s
  | some c =>
    match s.nsOf c.nsid with
    | none => .next s
    | some n =>
      if c.phase ≠ .running ∨ c.openReads ≠ 0 ∨ !c.toStage.contains iu then .next s
      else .next (s.stageAll n c (if c.op = 0x01 ∧ atomicWrite n c then c.toStage else [iu]))

/-! ### The completion entry (R28, R29, R56, R364, R377, R378) -/

/-- The MSI-X message of an entry posted to a completion queue, under coalescing (R364): messages of the admin queue, of a
vector with Coalescing Disable, or with a time or threshold of 0 are not delayed. -/
def State.postMsix (s : State) (fn cqid : Nat) (x : Cq) : State :=
  let c := s.ctl fn
  if !x.ien then s
  else if cqid = 0 ∨ c.coalThr = 0 ∨ c.coalTime = 0 ∨ c.cdVec.contains x.vector then s.signal fn x.vector
  else if c.coalThr < x.coalCount + 1 then
    (s.setCq fn cqid (some { x with coalCount := 0, coalFrom := none })).signal fn x.vector
  else s.setCq fn cqid (some { x with coalCount := x.coalCount + 1, coalFrom := some (x.coalFrom.getD s.now) })

/-- COALESCING_TIMER_EXPIRY (R364): the message of the vector is sent. -/
def execCoalescingTimerExpiry (fn vec : Nat) (s : State) : Res :=
  let due := s.cqs.filter (fun e => match e.2 with
    | some x => decide (e.1 / 1024 = fn ∧ x.vector = vec ∧ 0 < x.coalCount)
    | none => false)
  if due.isEmpty then .next s
  else
    let s := due.foldl (fun s e => match e.2 with
      | some x => s.setCq fn (e.1 % 1024) (some { x with coalCount := 0, coalFrom := none })
      | none => s) s
    .next (s.signal fn vec)

/-- Every IU of a namespace is discarded, as R138 discards a range. -/
def State.discardNs (s : State) (n : Ns) : State :=
  let d := s.deallocParts n [(0, n.nlba)]
  s.discardRanges d.1 (d.2.1 ++ d.2.2.map Prod.fst)

/-- A key slot takes a key drawn from the CTR_DRBG with the next generation; SHADOW is zeroed and a rekey cancelled (R472). -/
def State.formatKey (s : State) (slot : Nat) : State :=
  let k := tabGet (fun _ => KSlot.reset) s.cip.slot slot
  let kind := (k.cur.map KeyEnt.kind).getD 0
  let k' : KSlot := { k with cur := some ⟨kind, (k.lastGen + 1) % 65536, s.cip.keyCount⟩, shadow := none, lastGen := (k.lastGen + 1) % 65536,
                             fenced := false, cursor := 0, waits := [], handle := none }
  ({ s with cip := { s.cip with slot := tabSet (fun _ => KSlot.reset) s.cip.slot slot k', keyCount := s.cip.keyCount + 1 } } : State).opDone
    k.handle Ms.mode (bytesLe 4 0)

/-- A Format NVM does its work (R378): a new key where SES asks for it, the namespace discarded, the command completed. -/
def State.formatNow (s : State) (nsid : Nat) (n : Ns) (fn cid ses : Nat) : State :=
  let s := if ses = 2 ∧ n.cipher ≠ 0 then s.formatKey n.slot else s
  let s := s.discardNs n
  let s := { s with atl := { s.atl with ns := tabSet (fun _ => none) s.atl.ns nsid (some { n with format := none }) } }
  s.adminDone ⟨fn, cid, nsid⟩ Sc.success 0#32 []

/-- A Format that waited goes on when its namespace has no accepted command left (R378). -/
def State.formatCheck (s : State) (nsid : Nat) : State :=
  match s.nsOf nsid with
  | some n => match n.format with
    | some (f, cid, ses) =>
      if s.cmds.any (fun c => decide (c.nsid = nsid) && c.accepted) then s else s.formatNow nsid n f cid ses
    | none => s
  | none => s

/-- SHST reads 10b once every accepted command of a function under shutdown has completed (R377). -/
def State.shutdownCheck (s : State) (fn : Nat) : State :=
  let c := s.ctl fn
  if c.shn ≠ 0 ∧ c.shst = 1 ∧ !(s.cmds.any (fun k => decide (k.fn = fn) && k.accepted)) then s.setCtl fn { c with shst := 2 }
  else s

/-- The counters and reports of an I/O completion at its stop (R56, Table 12-10). -/
def State.stopClock (s : State) (c : Cmd) (dw0 : W32) : State :=
  if !c.accepted then s
  else
    let s := if dw0.getLsbD 31 then s.stat c.fn 3 else s
    let s := if c.suspended then s.stat c.fn 4 else s
    if c.suspended || c.inTime s.now then s
    else
      let s := (s.stat c.fn 5).bump F.HST_DEADLINE_MISS_COUNT c.fn 1
      (s.promise c.fn F.HST_PROMISE_EVENTS_DEADLINE_MISS).raiseAt 0x020 (s.fnOf c.fn).engine 0x12 c.fn

/-- COMPLETION_ENTRY_SENT (R28): the entry goes to its completion queue, where there is room; the clock stops, the MSI-X
message follows, and the command is over. -/
def execCompletionEntrySent (fn sq cid : Nat) (s : State) : Res :=
  match s.cpls.find? (fun p => decide (p.fn = fn ∧ p.sq = sq ∧ p.cid = cid)) with
  | none => .next s
  | some p =>
    let rest := s.cpls.erase p
    match s.cqOf fn p.cq with
    | none => .next { s with cpls := rest }
    | some x =>
      if !x.room ∨ !s.hubOn then .next s
      else
        let s := { s with cpls := rest }
        let was := if sq = 0 then none else s.findCmd fn sq cid
        let dw0 := match was with
          | some c => if c.phase = .posting then c.dw0 s.now else p.dw0
          | none => p.dw0
        let late := match was with
          | some c => c.accepted && !c.suspended && !c.inTime s.now
          | none => false
        let s := s.emit (.entry { p with dw0 := dw0 } late)
        let tail := (x.tail + 1) % max 1 x.size
        let x' := { x with tail := tail, phase := if tail = 0 then !x.phase else x.phase }
        let s := (s.setCq fn p.cq (some x')).postMsix fn p.cq x'
        let k := s.ctl fn
        let s := s.setCtl fn { k with idleSince := s.now, aborts := if sq = 0 then k.aborts.filter (fun a => decide (a ≠ cid)) else k.aborts }
        match was with
        | none => .next s
        | some c =>
          let s := (s.stopClock c dw0).settle c
          let s := { s with cmds := s.cmds.filter (fun k => !k.is fn sq cid) }
          .next ((s.formatCheck c.nsid).shutdownCheck fn)

end Sys2Proof.Machine
end

