-- ==== Sys2Proof/Machine/OpsBay.lean ====
section
/-! DEFINITION. Shared operations of the sheet bays (chapter 10): presence, presses, removal checks, lost sheets. -/

set_option linter.unusedVariables false

namespace Sys2Proof.Machine

/-- A removal that R211 refuses, with the reason codes of R419; 4: the bay is not in OFFERED. -/
def State.removeReason (s : State) (b : Nat) : Option Nat :=
  let bad := (s.svy.band.filter (fun e => (decide (e.2.st = .closed) || decide (e.2.st = .opened)) && maskBit e.2.sheets b)).any
    (fun e => decide (2 ≤ s.erasedMax e.1))
  let other := s.bays.any (fun e => decide (e.1 ≠ b) && (decide (e.2.st = .abortWindow) || decide (e.2.st = .evacuating)))
    || (s.par.evac.isSome && decide (s.par.evac ≠ some b))
  if countBelow 16 s.sheetUsable < 5 then some 1
  else if bad then some 2
  else if other then some 3
  else if (s.bay b).st ≠ .offered then some 4
  else none

/-- A long SHEET_REMOVE ends at REMOVED, ABORTED or FAULTED (R419). -/
def State.endRemoval (s : State) (b : Nat) : State :=
  let x := s.bay b
  match x.handle with
  | none => s
  | some h => (s.setBay b { x with handle := none }).opDone (some h) Ms.success [x.st.num]

/-- The refusal of a removal (R315): REFUSED, and a 4 Hz blink for 5 s. -/
def State.refuseRemoval (s : State) (b : Nat) : State :=
  (s.setBay b { s.bay b with attn := 3, blinkEnd := some (s.now + 5 * sTicks) }).event F.SHB_EVENTS_REFUSED b 0

/-- An abort within the window (R316). -/
def State.abortRemoval (s : State) (b : Nat) : State := ((s.toBay b .offered).event F.SHB_EVENTS_ABORTED b 0).endRemoval b

/-- A press as the bay acts on it (R314 to R317). -/
def State.pressAct (s : State) (b : Nat) : State :=
  let x := s.bay b
  match x.st with
  | .offered =>
    if x.blinkEnd.isSome then s.event F.SHB_EVENTS_BTN_IGNORED b 0
    else if (s.removeReason b).isSome then s.refuseRemoval b
    else s.toBay b .abortWindow
  | .abortWindow => s.abortRemoval b
  | _ => s.event F.SHB_EVENTS_BTN_IGNORED b 0

/-- A sheet that the layout held is lost (R214, R318): a UNIT fault of the bay; die absences held back are folded into it and their count
is its data (R241). -/
def State.sheetLost (s : State) (b : Nat) : State :=
  let n := ((s.fch.absentHold.find? (fun e => decide (e.1 = b))).map (fun e => e.2.2.length)).getD 0
  let s := { s with fch := { s.fch with absentHold := s.fch.absentHold.filter (fun e => decide (e.1 ≠ b)) } }
  let s := s.raiseAt 0x0C0 b 0x10 n
  (if (s.bay b).st = .faulted then s else s.fenceBay b).endRemoval b

/-- The dies of a sheet that has been powered off are gone. -/
def State.diesOff (s : State) (b : Nat) : State :=
  (sheetDies b).foldl (fun s d => if (s.dieOf d).present then s.setDie d Die.reset else s) s

/-- A change of presence that has held 100 ms (R301, Table 10-4). -/
def State.presenceAct (s : State) (b : Nat) : State :=
  let x := s.bay b
  let s := s.setBay b { x with present := x.level, edgeAt := none }
  if x.level then
    match x.st with
    | .debounce => s.toBay b .waitPower
    | _ => s
  else match x.st with
    | .empty => s
    | .debounce | .off | .rejected | .faulted => s.toBay b .empty
    | .waitPower | .powering | .identify | .discover | .held =>
      ((s.toBay b .empty).diesOff b).event F.SHB_EVENTS_INSERT_ABORTED b 0
    | .offered | .abortWindow | .evacuating | .poweringOff => (s.event F.SHB_EVENTS_SURPRISE b 0).sheetLost b

/-- What the always-on domain latched in DORMANT is acted on at the next entry to SERVICE (Table 10-7). -/
def State.bayWake (s : State) : State :=
  (List.range 16).foldl (fun s b =>
    let x := s.bay b
    let s := if x.level ∧ !x.present ∧ x.st = .empty then s.toBay b .debounce
      else if !x.level ∧ x.st = .debounce then s.toBay b .empty else s
    let s := if x.level ≠ x.present ∧ (x.edgeAt.map (fun t => decide (t + 100 * msTicks ≤ s.now))).getD false = true then s.presenceAct b else s
    if x.press then (s.setBay b { s.bay b with press := false }).pressAct b else s) s

/-- The bays act in this mode: not in VAULT, DORMANT, HOLDUP or stopped (Table 10-7). -/
def State.baysAct (s : State) : Bool := s.hubOn && !s.soldered

/-- SHB_BAY of a bay (Table 10-9, R306, R321). -/
def State.shbWord (s : State) (b : Nat) : W32 :=
  let x := s.bay b
  let ind := s.rg .SHB_IND b
  let attn := if bits ind 2 2 = 1 ∧ (x.st = .empty ∨ x.st = .offered) ∧ !s.soldered then bits ind 1 0 else x.attn
  let sold := s.soldered
  let present := if sold then (sheetDies b).any (fun d => (s.dieOf d).present) else x.present
  BitVec.ofNat 32 (x.st.num * 2 ^ 28 + b2n present * 2 ^ 27 + b2n (x.pwrEn || sold) * 2 ^ 26 + b2n (x.pwrGood || sold) * 2 ^ 25
    + s.fld F.SHB_BAY_BUTTON b * 2 ^ 24 + attn % 4 * 2 ^ 22 + x.pwrInd % 4 * 2 ^ 20 + b2n (x.locked && decide (s.fld F.SHB_CFG_INTERLOCK_EN 0 = 1)) * 2 ^ 19 + b2n x.idValid * 2 ^ 18
    + x.dies % 256)

end Sys2Proof.Machine
end

