-- ==== Sys2Proof/Machine/OpsPwr.lean ====
section
/-! DEFINITION. Shared operations of power and time: Datum's sets and alarm (R566 to R568), the wake from DORMANT (R492), the
power states (R392 to R396), the staging budget (R503), what a device reset keeps (R663 to R665). -/

set_option linter.unusedVariables false

namespace Sys2Proof.Machine

/-! ### DORMANT -/

/-- DORMANT, or its entry, is left (R492): HOLD_EN rises, WAKE_N is released, the Plotter's admission opens. -/
def State.leaveDormant (s : State) : State :=
  let p := { s.pwr with entering := none, holdEn := true, wakeOut := false, held := false, pstate := 0 }
  { s with pwr := p, plt := { s.plt with admitOpen := true } }

/-- DRAM leaves self-refresh; every channel trains under R234 at its former rate (R492), which is the reference of its next retraining. -/
def State.flashOn (s : State) : State :=
  let dram := s.dram.map (fun (e : Nat × Dram) => (e.1, { e.2 with selfRef := false }))
  let chan := s.fch.chan.map (fun (e : Nat × Chan) => (e.1, if e.2.trained then
    { e.2 with wpHigh := true, tLast := (s.regionOf e.1).model, due := false, stepsLeft := 0, late := false } else e.2))
  { s with dram := dram, fch := { s.fch with chan := chan },
           pwr := { s.pwr with testDormant := s.pwr.testDormant + (s.now - s.pwr.dormantAt) / msTicks } }

/-- The Plotter starts with an empty ledger (R492). -/
def State.clearLedger (s : State) : State :=
  { s with plt := { s.plt with die := [], recon := [], chan := [], ldpc := [], parity := [], portIn := [], portOut := [],
                               power := [], powerAll := [], ladder := [], closed := [] } }

/-- Wakes of a sheet that begin in a ladder window. -/
def State.wakesIn (s : State) (sheet window : Nat) : Nat :=
  (s.fch.die.filter (fun e => decide (dieSheet e.1 = sheet)
    && (s.closedList e.1).any (fun c => decide (c.why = 1 ∧ windowOf c.from_ = window)))).length

/-- The first moment at or after `t` at which a die may wake: fewer than 32 wakes of its sheet in the window, I_WAKE within the ladder (R96),
and no other member of its group in a closed window (R69). The last turn takes its place as it is. -/
def State.wakePlace (s : State) (d : Nat) (p : Profile) : Nat → Nat → Nat
  | 0, t => t
  | fuel + 1, t =>
    let u := s.placeClosed d (50 * p.tWAKE) t
    let w := windowOf u
    if s.wakesIn (dieSheet d) w < 32 ∧ s.ladderFits (dieSheet d) w p.iWake then u else s.wakePlace d p fuel ((w + 1) * ladderTicks)

/-- One die wakes from power-down: a closed window of t_WAKE (R252), I_WAKE on the ladder. -/
def State.wakeDie (s : State) (d : Nat) : State :=
  match s.profileOf d with
  | none => s
  | some p =>
    if !s.dieLive d then s
    else
      let t := s.wakePlace d p (2 * s.fch.die.length + s.plt.ladder.length + 16) s.now
      let s := s.addClosed d t (50 * p.tWAKE) 1
      { s with plt := s.plt.apply true ⟨11, dieSheet d, windowOf t, p.iWake⟩ }

/-- The dies wake, in ascending order (R96, R492). -/
def State.wakeDies (s : State) : State := (s.fch.die.map Prod.fst).foldl State.wakeDie s

/-- Contour starts again at a wake (R528): an on-demand sample of every channel diode; each region is set from its first reading. -/
def State.contourWake (s : State) : State :=
  { s with ctr := { s.ctr with wakeDue := List.range 137, demand := s.ctr.demand ++ (List.range' 64 128) } }

/-- The wake from DORMANT, or the reversal of its entry (R492): VDD_CORE is requested back, DRAM leaves self-refresh, the channels train at their former
rate, the Plotter starts with an empty ledger, admission opens. ROM recovery, which only reports DORMANT (R604), does not wake. -/
def State.wake (s : State) : State :=
  match s.pwr.mode with
  | .dormant =>
    if s.romRecovery then s
    else
      let s := (s.leaveDormant.emit (.avs (s.fld F.PWR_AVS_SETPOINT_MV 0))).flashOn.clearLedger.wakeDies.contourWake
      (s.toModeChecked s.serviceMode).bayWake.endSuspends
  | .ready => s.leaveDormant.toService
  | .service | .degraded => if s.pwr.entering.isSome then s.leaveDormant else s
  | .vault | .holdup | .stopped => s

/-! ### Datum (R565 to R568) -/

/-- The alarm fires: ALARM sets and the alarm disarms; the device wakes, and in VAULT drives WAKE_N low (R489, R493, R568). -/
def State.alarmFires (s : State) : State :=
  let s := { s with dat := { s.dat with armed := false } }
  if s.pwr.mode = .vault then { s with pwr := { s.pwr with wakeOut := true } }
  else
    let s := s.event F.DAT_EVENTS_ALARM 0 0
    if s.pwr.mode = .dormant ∨ s.pwr.entering.isSome ∨ s.pwr.mode = .ready then s.wake else s

/-- A set of Datum from a row of Table 19-3 (R566): a difference of 1 s or more, or an UNSET Datum, steps it; a smaller one is
slewed. A step that passes over the alarm fires it (R568). -/
def State.setDatum (s : State) (row cycles : Nat) : State :=
  let s := s.rebase
  let cur := s.dat.count
  let diff : Int := (cycles : Int) - cur
  if s.dat.unset ∨ 32768 ≤ diff.natAbs then
    let s := { s with dat := { s.dat with count := cycles % 2 ^ 47, since := s.now, frac := 0, unset := false, slewLeft := 0, slewing := false },
                      por := { s.por with sched := s.por.sched.map (fun (x : Sched) => { x with due := x.due + diff }), actDue := s.por.actDue + diff } }
    let s := (s.record 0x0E1 0 0 0x0002 (cur / 32 + row * 2 ^ 62)).event F.DAT_EVENTS_STEP 0 0
    -- a band closed while Datum was UNSET takes the time of its first set (R163)
    let s := { s with svy := { s.svy with band := s.svy.band.map (fun (e : Nat × Band) =>
      (e.1, if e.2.st ≠ .free ∧ e.2.st ≠ .opened ∧ e.2.closedAt.isNone then { e.2 with closedAt := some (cycles % 2 ^ 47 / 32) } else e.2)) } }
    if s.dat.armed ∧ s.dat.alarm ≤ cycles / 32 ∧ cur / 32 < s.dat.alarm then s.alarmFires else s
  else { s with dat := { s.dat with slewLeft := diff, slewAcc := 0, slewing := decide (diff ≠ 0) } }

/-! ### Power states (R392 to R395) -/

/-- The enabled controllers. -/
def State.enabledCtls (s : State) : List (Nat × Ctl) := s.ctls.filter (fun e => e.2.en && (s.fnOf e.1).enabled)

/-- Nothing of a function is outstanding and every submission queue is empty (R394). -/
def State.fnIdle (s : State) (f : Nat) : Bool :=
  !s.cmds.any (fun c => decide (c.fn = f)) && !s.cpls.any (fun c => decide (c.fn = f))
    && s.sqs.all (fun e => decide (e.1 / 1024 ≠ f) || (e.2.map (fun q => decide (q.head = q.tail))).getD true)

/-- The state a controller proposes or holds (R393, R394). -/
def State.proposes (s : State) (f : Nat) (c : Ctl) : Nat :=
  match c.apst[c.ps]? with
  | some a => if c.apstOn ∧ a.idleMs ≠ 0 ∧ c.ps < a.target ∧ s.fnIdle f ∧ c.idleSince + a.idleMs * msTicks ≤ s.now then a.target else c.ps
  | none => c.ps

/-- ENLAT and EXLAT in µs (Table 12-13). -/
def State.enlat (s : State) (ps : Nat) : Nat :=
  match ps with
  | 2 => 20 | 3 => 500 | 4 => max 20000 ((s.fld F.PLT_LAGS_PROG_LAG 0 + 8) * 1000) | _ => 0
def exlat (ps : Nat) : Nat := match ps with | 2 => 50 | 3 => 2000 | 4 => 80000 | _ => 0

/-- The smaller of two times that may be absent. -/
def minOpt : Option Nat → Option Nat → Option Nat
  | none, b => b
  | a, none => a
  | some a, some b => some (min a b)

/-- t_next of CHOOSE in µs; none where no event is known (R394). -/
def State.tNext (s : State) : Option Nat :=
  let toUs := fun (t : Nat) => t / usTicks
  let act := s.por.sched.map (fun (p : Sched) => (p.due - (s.datumCycles : Int)).toNat * 1000000 / 32768)
  let fut := (s.plt.debt.map (fun e => e.1 / 4096)).filter (fun f => decide (s.plt.frame ≤ f))
  let pend := (s.plt.debtLeft ++ s.plt.refreshLeft ++ s.plt.bandLeft ++ s.plt.dieLeft).any (fun e => decide (e.2 ≠ 0))
  let first := fut.foldl (fun m f => minOpt m (some f)) (if pend then some (s.plt.frame + 1) else none)
  let debt := first.map (fun f => toUs ((f - s.plt.frame) * msTicks - (s.now - s.plt.frameAt)))
  let soon := if s.plt.quiet.isSome || s.ctr.anchorDue.isSome || !s.svy.sampling.isEmpty || s.srv.forcedPending then some 0 else none
  let cap := some ((s.pwr.lastTestFrame + s.fld F.PWR_HOLD_LIMITS_INTERVAL_H 0 * 3600000 - (s.plt.frame + s.pwr.testDormant)) * 1000)
  minOpt (minOpt act debt) (minOpt soon cap)

/-- The tolerance a port's LTR messages report, in ns (R347): the host allowance while a command of the port is outstanding, else the host's
own maxima, never more than those. -/
def State.ltr (s : State) (p : Nat) : Nat :=
  let x := s.port p
  let most := min x.snoop x.noSnoop
  if s.cmds.any (fun c => decide (c.fn / 128 = p)) then min 10000 most else most

/-- t_ltr of CHOOSE in µs: the smallest of the ports' maxima with the link up. -/
def State.tLtr (s : State) : Option Nat :=
  [0, 1].foldl (fun m p => let x := s.port p; if x.up then minOpt m (some (min x.snoop x.noSnoop / 1000)) else m) none

/-- CHOOSE (R394). With no enabled controller nothing proposes a state, and the device stays in PS0. -/
def State.choose (s : State) : Nat :=
  match s.enabledCtls with
  | [] => 0
  | e :: rest =>
    let p := rest.foldl (fun m e => min m (s.proposes e.1 e.2)) (s.proposes e.1 e.2)
    let fits := fun (st : Nat) => ((s.tNext.map (fun t => decide (s.enlat st + exlat st ≤ t))).getD true)
      && ((s.tLtr.map (fun t => decide (exlat st ≤ t))).getD true)
    match ([4, 3, 2].filter (fun st => decide (st ≤ p) && decide (st < 4))).find? fits with
    | some st => st
    | none => if p < 2 then p else 0

/-- The device takes a state of PS0 to PS3 (Table 16-2, R393, R395). -/
def State.takeState (s : State) (ps : Nat) : State :=
  match s.pwr.mode with
  | .service | .degraded =>
    if ps < 2 then { s with pwr := { s.pwr with pstate := ps } }
    else
      let t := (s.toModeChecked .ready).dramRest (decide (ps = 3))
      { t with pwr := { t.pwr with pstate := ps } }
  | .ready => if ps < 2 then (s.toService) else { s.dramRest (decide (ps = 3)) with pwr := { s.pwr with pstate := ps } }
  | _ => s

/-- Every controller idle: CHOOSE runs at frame boundaries then (R394). -/
def State.allIdle (s : State) : Bool := s.enabledCtls.all (fun e => s.fnIdle e.1)

/-- DRAM data capacity in GiB: what the 12 channels hold (DRC_CFG). -/
def State.dramGib (s : State) : Nat := 12 * (s.fld F.DRC_CFG_GIB_PER_CH 0)

/-! ### Spilling the journal tail (R144, R377, R490) -/

/-- A record applied to a map (R147): skipped for a segment whose checkpoint copy is as new (`ck`). -/
def JRec.apply (r : JRec) (ck : Nat → Nat) (m : Tab Ent) : Tab Ent :=
  let put := fun (m : Tab Ent) (key : Nat) (e : Ent) => if ck (segOfIu key) < r.seq then tabSet (fun _ => Ent.reset) m key e else m
  match r.kind with
  | 1 | 2 => r.items.foldl (fun m x => put m (iuKey r.pool x.1) x.2.1) m
  | 3 => (List.range r.arg).foldl (fun m k => put m (iuKey r.pool (r.iu + k)) Ent.reset) m
  | 4 => m.filter (fun e =>
      let k := segOfIu e.1
      !(decide (k / 2 ^ 32 = r.pool ∧ r.iu ≤ k % 2 ^ 32 ∧ k % 2 ^ 32 < r.iu + r.arg ∧ ck k < r.seq)))
  | _ => m

/-- Band records, newest first, as map bands hold them (R155): the newest of each band. -/
def saveBands (l : List (Nat × Nat × Band)) (t : Tab (Option (Nat × Band))) : Tab (Option (Nat × Band)) :=
  l.reverse.foldl (fun t e => tabSet (fun _ => none) t e.2.1 (some (e.1, e.2.2))) t

/-- Records, oldest first, are spilled to map bands (R144), the band records journalled before the last of them with them (R155): flash
restores them, and their block keeps its place in the ring. -/
def State.spill (s : State) (l : List JRec) : State :=
  match l.getLast? with
  | none => s
  | some z =>
    let ck := fun k => (s.segOf k).ckptSeq
    let old := fun (e : Nat × Nat × Band) => decide (e.1 ≤ z.seq)
    { s with
      svy := { s.svy with saved := saveBands (s.atl.bandTail.filter old) s.svy.saved },
      atl := { s.atl with durable := l.foldl (fun m r => r.apply ck m) s.atl.durable, spilled := l.reverse ++ s.atl.spilled,
                          bandTail := s.atl.bandTail.filter (fun e => !old e),
                          parked := s.atl.parked ++ [((l.map (fun r => 16 * r.lines)).foldl (fun n k => n + k) 0, z.at_)] } }

/-- The whole tail is spilled to map bands, the band records with it. -/
def State.spillAll (s : State) : State :=
  let t := ({ s with atl := { s.atl with tail := [] } } : State).spill s.atl.tail.reverse
  { t with svy := { t.svy with saved := saveBands t.atl.bandTail t.svy.saved }, atl := { t.atl with bandTail := [] } }

/-! ### Device reset (R663 to R665) -/

/-- The newest of the records that flash or the journal holds of a band. -/
def newerBand (a b : Option (Nat × Band)) : Option (Nat × Band) :=
  match a, b with
  | some x, some y => if x.1 ≤ y.1 then some y else some x
  | none, y => y
  | x, none => x

/-- Band records when DRAM has been lost (R147, R155, R669): from footers, the checkpoint and the journal; its tail, too, where a dump has
saved it (`tail`), and then only the read counts fall back. An OPEN band and the HOLDUP reserve are found on flash as they stand, and so are a
band's blocks and lost rows (DEDUCED, log entry 54). -/
def State.restoreBands (s : State) (tail : Bool) : State :=
  { s with svy := { s.svy with band := s.svy.band.map (fun (e : Nat × Band) =>
      let x := e.2
      let get := fun (t : Tab (Option (Nat × Band))) => tabGet (fun _ => none) t e.1
      let r := newerBand (get s.svy.footer) (get s.svy.saved)
      let r := if tail then newerBand r ((s.atl.bandTail.find? (fun j => decide (j.2.1 = e.1))).map (fun j => (j.1, j.2.2))) else r
      (e.1, match r with
        | none => x
        | some (_, r) =>
          if x.st = .opened ∨ x.cls = 3 then x
          else if tail then { x with reads := r.reads }
          else { r with block := x.block, short := x.short, lost := x.lost, gone := x.gone, rebuild := x.rebuild, gbb := x.gbb })) } }

/-- The map in DRAM has been lost and comes back from checkpoint copies and spilled records (R147). An entry left STAGED by the restored map
names data that is gone: it reads as lost (log entry 20). -/
def State.loseMap (s : State) : State :=
  let ent := s.atl.durable.map (fun (e : Nat × Ent) => (e.1, if e.2.st = .staged then ⟨.poisoned, 1 * 2 ^ 32, 0⟩ else e.2))
  let s := { s with atl := { s.atl with ent := ent, stage := [], asm := [], tail := [], tailBytes := 0, parked := [], jrnlFull := false,
                                        seg := s.atl.seg.map (fun (e : Nat × Seg) => (e.1, { e.2 with discarded := false })) } }
  let s := s.restoreBands false
  { s with atl := { s.atl with bandTail := [] }, par := { s.par with frontier := s.par.frontier / 64 * 64 } }

/-- Without a valid dump (R195): the staged data and the unspilled tail are lost, stripes that were open have no parity, and
their bands are to be rebuilt first (NO_PARITY_REPLAY is set by the reset that calls this). -/
def State.loseDram (s : State) : State :=
  let open_ := (s.svy.band.filter (fun e => decide (e.2.st = .opened))).map Prod.fst
  let s := s.par.slot.foldl (fun (s : State) e =>
    if e.2.st = .free then s
    else
      let x := e.2
      let b := s.bandRec x.band
      let data := (maskList x.sheets).filter (fun sh => decide (sh ≠ x.pSheet ∧ sh ≠ x.qSheet))
      let pad := data.foldl (fun m sh => if maskBit x.written sh then m else maskSet m sh) 0
      s.setBand x.band { b with short := (x.row, pad, maskSet (maskSet 0 x.pSheet) x.qSheet) :: b.short }) s
  let s := open_.foldl (fun s b => s.queueRefresh b 3 true) s
  ({ s with par := { s.par with slot := [] }, pwr := { s.pwr with stagingUse := 0 } } : State).loseMap

/-- The last dump may be replayed: it has not been yet, and its record is complete (R500). It outlasts VAULT. -/
def State.dumpValid (s : State) : Bool :=
  (s.pwr.dumps.head?.map DumpRec.complete).getD false && s.pwr.writtenSet.isSome

/-- The highest position in use, plus 1. -/
def gazTop (l : Tab GazRec) : Nat := l.foldl (fun n e => max n (e.1 + 1)) 0

/-- The record with the highest SEQ, by position. -/
def gazNewest (l : Tab GazRec) : Option Nat :=
  (l.foldl (fun (m : Option (Nat × Nat)) e => match m with
    | none => some (e.1, e.2.seq)
    | some b => if b.2 < e.2.seq then some (e.1, e.2.seq) else some b) none).map Prod.fst

/-- A record of the tail rows put back (R574): over the record of its SEQ, of which it is a later state, else at the next position. -/
def Gaz.replay (g : Gaz) (r : GazRec) : Gaz :=
  match g.recs.find? (fun e => decide (e.2.seq = r.seq ∧ e.2.code ≠ 0)) with
  | some e => g.put e.1 r
  | none =>
    let p := g.next
    { (g.put p r) with next := gazAfter g.vg40 p % 8192, count := max g.count (p + 1), full := g.full || (g.vg40 && decide (p + 1 = 8192)) }

/-- The Gazetteer after a device reset (R573, R574): the persisted records, then those of the tail rows in SEQ order; the most
recent record is the one with the highest SEQ (R572). -/
def Gaz.reload (g : Gaz) : Gaz :=
  let n := gazTop g.saved
  let next := (gazNewest g.saved).map (fun p => gazAfter g.vg40 p % 8192)
  let g' := { g with recs := g.saved, dirty := [], recent := none, next := next.getD 0, count := n, full := g.vg40 && decide (n = 8192) }
  let g' := (g.tail.foldl Gaz.replay g').persist
  { g' with recent := gazNewest g'.recs }

/-- Records loaded with a failing CRC (R574): CRC_BAD counts them. -/
def Gaz.badCrcs (g : Gaz) : Nat := (g.saved.filter (fun e => decide (e.2.crc ≠ crc16 e.2.body))).length

/-- The envelope registers as they were last written (R665). -/
def State.keepEnvelope (s t : State) : State :=
  let t := t.setReg .PLT_ENVELOPE 0 (s.rg .PLT_ENVELOPE 0)
  (List.range 16).foldl (fun t k => t.setReg .PLT_SHEET_PWR k (s.rg .PLT_SHEET_PWR k)) t

/-- The store operation in progress is cut short by a reset: its sector is undefined (R584). A session's slot has failed (R591). -/
def State.cutStore (s : State) : Por :=
  let p := (s.endUpd).por
  match s.por.op with
  | some o => if o.kind = 3 then p else { p with cut := tabSet (fun _ => 0) p.cut (o.addr / 4096) (s.fresh + 1) }
  | none => p

/-- A key slot as its Portolan record brings it back (R468, R474): a rekey resumes from the cursor last written, without its operation. -/
def KSlot.reload (k : KSlot) : KSlot := { k with cursor := k.cursor / 1048576 * 1048576, handle := none }

/-- A byte of the store; an erased one reads 0xFF (Table 20-1), one of a sector cut short a free value (R584). -/
def State.storeByte (s : State) (a : Nat) : Nat :=
  match tabGet (fun _ => 0) s.por.cut (a / 4096) with
  | 0 => (tabGet (fun _ => 0xFF#8) s.por.store a).toNat
  | n + 1 => (Config.cutByte a n).toNat
def State.storeBytes (s : State) (a n : Nat) : List Nat := (List.range n).map (fun k => s.storeByte (a + k))
/-- A little-endian number of the store. -/
def State.storeLe (s : State) (a n : Nat) : Nat := le (s.storeBytes a n) 0 n

/-- Base address of an image slot (Table 20-1). -/
def slotBase (slot : Nat) : Nat := slot * 0x1000000

/-- DRAM_LAYOUT of a slot's image (Table 20-8). -/
def State.dramLayout (s : State) (slot : Nat) : Nat := s.storeLe (slotBase slot + 34) 2

/-- DCS_LAYOUT that the header of the booted image names (Table 20-8, R659); an image from ROM names the layout's own version. -/
def State.dcsLayout (s : State) : Nat :=
  if (tabGet (fun _ => BootSlot.reset) s.por.slots s.por.booted).st = 2 ∧ s.por.booted < 3 then s.storeLe (slotBase s.por.booted + 36) 2 else 4

/-- An activation restart's new image keeps DRAM_LAYOUT (R600): the map held in DRAM is kept. -/
def State.layoutKept (s : State) : Bool := decide (s.dramLayout s.por.booted = s.dramLayout s.por.primary)

/-- The clock tick from which every rail counts as good (R634): a power-on starts the 10 ms again. -/
def State.railsFrom (s : State) (kind : Nat) : Nat := if kind = 1 then s.now + 10 * msTicks else s.start.railsAt

/-- What a device reset finds of DRAM (Table 24-2, R195, R500, R600): kept in self-refresh by an activation restart, whose map stays unless the
layout changes; else replaced by the dump, or lost. -/
def State.resetDram (s : State) (kind : Nat) : State :=
  if kind = 5 then if s.layoutKept then s else s.loseMap
  else if s.dumpValid then s.restoreBands true else s.loseDram

/-- A device reset of a kind of Table 24-1 (R663, R664, Table 24-2). `vbat` says whether the VBAT domain held. -/
def State.deviceReset (s : State) (kind : Nat) : State :=
  let keepMap := decide (kind = 5) && s.layoutKept
  let noParity := !(decide (kind = 5) || s.dumpValid)
  let s := s.resetDram kind
  let z := State.reset
  let bays := s.bays.map (fun (e : Nat × Bay) => (e.1, { Bay.reset with level := e.2.level, present := e.2.present }))
  let dies := s.fch.die.filterMap (fun (e : Nat × Die) =>
    if s.svy.gbbFenced.contains e.1 then some (e.1, { Die.reset with fenced := true }) else none)
  let t : State := { z with
    pending := s.pending, now := s.now, fresh := s.fresh + b2n s.por.op.isSome, out := s.out, dat := s.dat,
    gaz := s.gaz.reload,
    mgmt := { z.mgmt with i3c := s.mgmt.i3c, addr := s.mgmt.addr },
    pwr := { z.pwr with cause := s.pwr.cause, dumps := s.pwr.dumps, dumpSeq := s.pwr.dumpSeq, armedSet := s.pwr.armedSet,
                        writtenSet := s.pwr.writtenSet, eraseSet := s.pwr.eraseSet, stageEpoch := s.pwr.stageEpoch, stagingUse := s.pwr.stagingUse,
                        cPrev := s.pwr.cPrev, eMeasured := s.pwr.eMeasured, esr := s.pwr.esr, lastTestAt := s.pwr.lastTestAt },
    ports := s.ports.map (fun (e : Nat × Port) => (e.1, { Port.reset with perst := e.2.perst })),
    nextHandle := s.nextHandle,
    atl := { s.atl with mapReady := false, eng := [], dir := [], snoops := [], writes := [], pins := [], recovering := [],
                        queued := [], suspended := [], segLost := [] },
    svy := { z.svy with band := s.svy.band, bad := s.svy.bad, spares := s.svy.spares, gbbFenced := s.svy.gbbFenced,
                        refreshQ := s.svy.refreshQ, openSeq := s.svy.openSeq, footer := s.svy.footer, saved := s.svy.saved },
    par := { s.par with usable := 0, present := 0, replayDone := false },
    fch := { z.fch with die := dies, chan := if keepMap then s.fch.chan else [] },
    bays := bays,
    til := z.til,
    dram := s.dram.map (fun (e : Nat × Dram) => (e.1, { Dram.reset with regions := (if e.2.returning then [] else e.2.regions), selfRef := decide (kind = 5), trained := keepMap && e.2.trained })),
    cip := { z.cip with slot := s.cip.slot.map (fun (e : Nat × KSlot) => (e.1, e.2.reload)), failures := s.cip.failures, lockFrom := s.cip.lockFrom, lockAgain := s.cip.lockAgain,
                        keyCount := s.cip.keyCount },
    por := { s.cutStore with op := none, reads := [], booted := 3, draining := false, drainEnd := false, sess := none,
                             upL := RLink.reset, dnL := RLink.reset,
                             position := 0, beaconAt := none,
                             chain := (if kind = 1 then [] else s.por.chain) },
    srv := { Srv.reset with fuses := s.srv.fuses },
    start := { s.start with kind := kind, step := 0, running := true, envelope := s.start.envelope && decide (kind ≠ 1),
                            aoEnvelope := (if kind = 1 then 0 else s.start.aoEnvelope),
                            aoSheets := (if kind = 1 then [] else s.start.aoSheets),
                            railsAt := s.railsFrom kind, testHeld := false, keepMap := keepMap } }
  let t := if kind = 1 then t else s.keepEnvelope t
  let t := (t.setFld F.DAT_EVENTS_VBAT_LOST 0 (s.fld F.DAT_EVENTS_VBAT_LOST 0)).bump F.GAZ_COUNTS_CRC_BAD 0 s.gaz.badCrcs
  let t := if keepMap then t.setReg .DRC_CFG 0 (s.rg .DRC_CFG 0) else t
  if noParity then t.event F.PAR_EVENTS_NO_PARITY_REPLAY 0 0 else t

/-- Suspensions in force that a device reset takes over: a critical trip and a DRAM channel fence (Table 02-7). -/
def State.openSuspensions (s : State) : List (Nat × Nat) :=
  (if s.ctr.trip then [(1, 0)] else []) ++ s.fenceSuspensions.map (fun n => (5, s.suspFirst n))

/-- A device reset with the suspension that it is (R50, R55): row 7 of Table 02-7 for an activation restart, row 3 for any other. -/
def State.restart (s : State) (kind : Nat) : State :=
  let t := s.deviceReset kind
  ({ t with start := { t.start with susp := t.start.susp ++ s.openSuspensions } } : State).suspend (if kind = 5 then 7 else 3) 0

end Sys2Proof.Machine
end

