-- ==== Sys2Proof/Machine/OpsCtr.lean ====
section
/-! DEFINITION. Shared operations of Contour (chapter 17): the thermal model, anchors, the throttle step, quiet-slot candidates and
retraining that falls due. -/

set_option linter.unusedVariables false

namespace Sys2Proof.Machine

/-! ### The model (R508 to R514) -/

/-- The nodes a region's value is taken from (Table 17-1). -/
def regionNodes (r : Nat) : List Nat :=
  if r < 128 then [r / 2] else if r < 136 then [72 + 2 * (r - 128), 73 + 2 * (r - 128)] else [88]

def State.nodeOf (s : State) (n : Nat) : Int := tabGet (fun _ => 0) s.ctr.node n
def State.sampleOf (s : State) (n : Nat) : Int := tabGet (fun _ => 0) s.ctr.sample n

/-- A region's value from its nodes (Table 17-1). -/
def State.regionValue (s : State) (r : Nat) : Int :=
  if r < 128 then s.nodeOf (r / 2) + tabGet (fun _ => 0) s.ctr.chanRise r
  else if r < 136 then max (s.nodeOf (72 + 2 * (r - 128))) (s.nodeOf (73 + 2 * (r - 128)))
  else s.nodeOf 88

/-- The calibration scales s_d × 1,024 (Table 17-12). -/
def State.scales (s : State) : List Nat := (List.range 19).map (fun d => s.fld F.CTR_CAL_SCALE d)

/-- The voltages last sampled (Table 17-3, segment 2). -/
def State.volts (s : State) : List Int := (List.range' 32 16).map s.sampleOf

/-- The model's update at a frame boundary (R509): every node, every region's value with its history, and how long its power has
stayed low (R512). -/
def State.modelFrame (s : State) (activity : List Nat) : State :=
  let nodes := (List.range 96).map s.nodeOf
  let sc := s.scales
  let v := s.volts
  let node := (List.range 96).foldl (fun t n =>
    tabSet (fun _ => 0) t n (Config.nodeStep n nodes s.ctr.tSink sc v activity)) s.ctr.node
  let rise := (List.range 128).foldl (fun t c => tabSet (fun _ => 0) t c (Config.chanRise c sc activity)) s.ctr.chanRise
  let s := { s with ctr := { s.ctr with node := node, chanRise := rise } }
  (List.range 137).foldl (fun s r =>
    let x := s.regionOf r
    s.setRegion r { x with model := s.regionValue r, hist := (x.model :: x.hist).take 100,
                           calm := if Config.calm r sc activity then x.calm + 1 else 0 }) s

/-- A region may be anchored by a reading (R512): region 136 at every round; a channel whose reading was requested after its
quiet slot; any region whose power has stayed low for 20 frames; and none twice within 1 s. -/
def State.mayAnchor (s : State) (r : Nat) : Bool :=
  let x := s.regionOf r
  (decide (r = 136) || decide (s.ctr.anchorDue = some r) || decide (20 ≤ x.calm))
    && (!x.anchored || decide (x.ageAt + sTicks ≤ s.now))

/-- An anchor (R514): Δ goes to the region's nodes (both of a hub region, log entry 24) and Δ ÷ 8 to T_SINK; the histories of the
regions on them move with it (R521). -/
def State.anchor (s : State) (r : Nat) (reading : Int) : State :=
  let x := s.regionOf r
  let d := reading - x.model
  let s := if 2 * s.bound r < d.natAbs then
      { s with ctr := { s.ctr with misses := s.ctr.misses + 1 } }.event F.CTR_EVENTS_ANCHOR_MISS 0 r else s
  let ns := regionNodes r
  let s := { s with ctr := { s.ctr with
    node := ns.foldl (fun t n => tabSet (fun _ => 0) t n (tabGet (fun _ => 0) t n + d)) s.ctr.node,
    tSink := s.ctr.tSink + d,
    anchorDue := if s.ctr.anchorDue = some r then none else s.ctr.anchorDue } }
  let s := ((List.range 137).filter (fun k => decide (regionNodes k = ns))).foldl (fun s k =>
    let y := s.regionOf k
    s.setRegion k { y with model := y.model + d, hist := y.hist.map (fun h => h + d) }) s
  s.setRegion r { s.regionOf r with anchored := true, ageAt := s.now }

/-- A region set from a diode reading (R528): its nodes, bound 0.5 °C, no history. -/
def State.setFrom (s : State) (r : Nat) (t : Int) : State :=
  let rise := if r < 128 then tabGet (fun _ => 0) s.ctr.chanRise r else 0
  let node := (regionNodes r).foldl (fun m n => tabSet (fun _ => 0) m n (t - rise)) s.ctr.node
  let s := { s with ctr := { s.ctr with node := node, wakeDue := s.ctr.wakeDue.filter (fun k => decide (k ≠ r)) } }
  s.setRegion r { s.regionOf r with model := t, anchored := true, ageAt := s.now, hist := [] }

/-- The start of Contour at start-up (R528): every region's nodes from the diode readings, bound 0.5 °C. Readings not given leave a region as it
is. -/
def State.contourStart (s : State) (readings : List Int) : State :=
  (List.range 137).foldl (fun s r => match readings[r]? with
    | none => s
    | some t => s.setFrom r t) s

/-- T_EFF and the region that has it, the lowest number on a tie (R515). -/
def State.hottest (s : State) : Int × Nat :=
  (List.range' 1 136).foldl (fun (m : Int × Nat) r => if m.1 < s.effective r then (s.effective r, r) else m) (s.effective 0, 0)

/-- T_EFF taken, with the watermarks of CTR_TEMP_WM (Table 17-13). -/
def State.takeTEff (s : State) : State :=
  let h := s.hottest
  let s := { s with ctr := { s.ctr with tEff := h.1, hottest := h.2 } }
  [0, 1].foldl (fun s i =>
    let above := decide (((16 * s.fld F.CTR_TEMP_WM_LEVEL i : Nat) : Int) ≤ h.1)
    let was := decide (s.fld F.CTR_TEMP_WM_ABOVE i = 1)
    let s := s.setFld F.CTR_TEMP_WM_ABOVE i (b2n above)
    if above && !was then (s.bump F.CTR_TEMP_WM_COUNT i 1).event F.CTR_TEMP_WM_CROSSED i h.2 else s) s

/-! ### The throttle step (R521 to R525) -/

/-- T_THROTTLE and T_CRIT in 1/16 °C. -/
def tThrottle : Int := 1600
def tCrit : Int := 1840

/-- The largest rise over 100 ms of any region, in 1/16 °C (R521). -/
def State.riseMax (s : State) : Int :=
  (List.range 137).foldl (fun m r =>
    let x := s.regionOf r
    match x.hist[99]? with
    | some h => max m (x.model - h)
    | none => m) 0

/-- RECON_max × 1,000 (R93). -/
def State.reconMax (s : State) : Nat := (List.range 128).foldl (fun m g => max m (s.recon g)) 0

/-- K_MAX (R93, R523): the deepest step whose κ is at or above the threshold. -/
def State.kMaxNow (s : State) : Nat :=
  let r := s.reconMax
  (List.range 8).foldl (fun m k =>
    if 1000 * (1000 - s.hk - s.plt.thNow - r) ≤ kappaStep k * (1000 - s.hk - r) then k else m) 0

/-- The step changes, with its event (R524). -/
def State.setStep (s : State) (k : Nat) : State :=
  if k = s.ctr.step then s
  else
    let up := decide (s.ctr.step < k)
    let s := { s with ctr := { s.ctr with step := k, changedAt := some s.plt.frame } }
    if up then s.event F.CTR_EVENTS_THROTTLE_UP 0 k else s.event F.CTR_EVENTS_THROTTLE_DOWN 0 k

/-- `n` frames have passed since a frame that may be none. -/
def sincePassed (frame n : Nat) (at_ : Option Nat) : Bool := (at_.map (fun f => decide (f + n ≤ frame))).getD true

/-- A function is enabled. -/
def State.enabledFns (s : State) : List Nat := (List.range 256).filter (fun f => (s.fnOf f).enabled)

/-- A critical trip begins (R525): admission closes, the suspension of Table 02-7 covers every accepted command, step 7. -/
def State.tripBegins (s : State) : State :=
  let s := { s with plt := { s.plt with admitOpen := false },
                    ctr := { s.ctr with trip := true, tripFrom := s.now, below := 0 },
                    cmds := s.cmds.map (fun (c : Cmd) => if c.accepted then { c with suspended := true } else c) }
  let s := (s.abortTests (fun _ _ => true) Ms.testConditions).suspRecord true 1 0
  let s := s.enabledFns.foldl (fun s f => s.promise f F.HST_PROMISE_EVENTS_CRIT_TRIP) s
  (s.event F.CTR_EVENTS_CRIT_TRIP 0 s.ctr.hottest).setStep 7

/-- A critical trip clears (R525): step K_MAX, admission reopens. -/
def State.tripClears (s : State) : State :=
  let s := { s with ctr := { s.ctr with trip := false, below := 0 },
                    plt := { s.plt with admitOpen := s.pwr.entering.isNone && s.hubOn } }
  (((s.setStep s.ctr.kMax).suspRecord false 1 0).event F.CTR_EVENTS_CRIT_CLEAR 0 0).startQueued

/-- The decision of the step at a frame boundary (R521 to R525). A boundary deepens by one step at most. -/
def State.stepDecision (s : State) : State :=
  let rise := s.riseMax
  let s := { s with ctr := { s.ctr with kMax := s.kMaxNow } }
  let s := if 16 ≤ rise then s.event F.CTR_EVENTS_RISE_WARN 0 s.ctr.hottest else s
  let s := if 32 ≤ rise then (s.event F.CTR_EVENTS_RISE_THROTTLE 0 s.ctr.hottest).abortTests (fun _ _ => true) Ms.testConditions else s
  if s.pwr.mode = .holdup then s
  else if s.ctr.trip then
    { s with ctr := { s.ctr with below := if s.ctr.tEff < tCrit - 160 then s.ctr.below + 1 else 0 } }
  else if tCrit ≤ s.ctr.tEff then s.tripBegins
  else
    let c := s.ctr
    let f := s.plt.frame
    if c.kMax < c.step then s.setStep c.kMax
    else if 32 ≤ rise ∧ c.step < c.kMax ∧ sincePassed f 100 c.riseAt then
      let s := s.setStep (c.step + 1)
      { s with ctr := { s.ctr with riseAt := some f } }
    else if tThrottle ≤ c.tEff then
      if c.step < c.kMax ∧ sincePassed f (s.fld F.CTR_CFG_STEP_DWELL_MS 0) c.changedAt then s.setStep (c.step + 1) else s
    else if c.tEff < tThrottle - ((16 * s.fld F.CTR_CFG_HYST_C 0 : Nat) : Int) ∧ rise < 16 ∧ 0 < c.step
        ∧ sincePassed f (10 * s.fld F.CTR_CFG_RELAX_10MS 0) c.changedAt then s.setStep (c.step - 1)
    else s

/-! ### Quiet slots (R104, R105, R516) -/

/-- The candidate named (R516): the channel with the oldest anchor, the lowest on a tie, old enough, not fenced, not marked
UNQUIETABLE. None is named while a slot is in force. -/
def State.candidate (s : State) : Option Nat :=
  if s.plt.quiet.isSome then none
  else
    let age := fun c => let x := s.regionOf c; if x.anchored then s.now - x.ageAt + 1 else s.now + 2
    let ok := (List.range 128).filter (fun c => !s.fenced 0x0A0 c && !s.ctr.unquiet.contains c
      && (decide (s.fld F.CTR_CFG_QUIET_AGE_S 0 ≤ s.anchorAge c)))
    ok.foldl (fun (m : Option Nat) c => match m with
      | none => some c
      | some b => if age b < age c then some c else some b) none

/-- The candidate as it stands after a boundary. -/
def State.nameCandidate (s : State) : State :=
  let c := s.candidate
  if c = s.ctr.cand then s else { s with ctr := { s.ctr with cand := c, candAt := s.now } }

/-- Members of a stripe group that are fenced or absent: dies of present sheets and of sheets that bands of the group still name. -/
def State.missing (s : State) (g : Nat) : Nat :=
  countBelow 16 (fun sh => !s.dieLive (128 * sh + g) && (maskBit s.par.present sh || s.svy.band.any (fun e =>
    decide (e.1 % 128 = g ∧ e.2.st ≠ .free ∧ e.2.st ≠ .retired) && maskBit e.2.sheets sh)))

/-- The conditions of R104 for a slot on channel `c` from now over frames 0 to 19. A channel with a retraining due waits for it
(R237). -/
def State.quietOk (s : State) (c : Nat) : Bool :=
  (List.range 20).all (fun k => decide (s.plt.booked 1 c (s.plt.frame + k) = 0 ∧ s.plt.booked 10 (2048 + c) (s.plt.frame + k) = 0)
      && (chanDies c).all (fun d => decide (s.plt.booked 0 d (s.plt.frame + k) = 0 ∧ s.plt.booked 10 d (s.plt.frame + k) = 0)))
    && (chanDies c).all (fun d => !s.runsBarred d s.now [(0, 20 * msTicks)] && decide (s.missing (dieGroup d) < 2)
      && (s.runningOp d).isNone && (s.dieQueue d).isEmpty && s.plt.later.all (fun e => decide (e.2.1 ≠ d ∨ s.plt.frame + 20 ≤ e.1))
      && (s.windows d).all (fun w => decide (w.until_ ≤ s.now ∨ s.now + 20 * msTicks ≤ w.from_)))
    && !s.retrainDue

/-- The grant of a quiet slot (R104): 20 frames on the candidate's channel, its 16 dies in a closed window (R68). -/
def State.grantQuiet (s : State) : State :=
  match s.ctr.cand with
  | none => s
  | some c =>
    if s.plt.quiet.isSome ∨ s.srv.forcedPending = true ∨ !s.quietOk c then s
    else
      let s := ({ s with plt := { s.plt with quiet := some c, quietLeft := 20 }, ctr := { s.ctr with cand := none } } : State).spendHk c
      (chanDies c).foldl (fun s d => s.addClosed d s.now (20 * msTicks) 2) s

/-! ### On-demand samples (R518) -/

/-- The bank readings of a capacitor-health test, which go first. -/
def capSample (input : Nat) : Bool := decide (256 ≤ input)

/-- A request joins those waiting (R518). -/
def State.demandSample (s : State) (input : Nat) : State :=
  let d := s.ctr.demand
  let d' := if capSample input then d.takeWhile capSample ++ input :: d.dropWhile capSample else d ++ [input]
  { s with ctr := { s.ctr with demand := d' } }

/-- Natural anchors (R513): a channel that meets R512 outside a quiet slot triggers a diode sample. -/
def State.naturalAnchors (s : State) : State :=
  (List.range 128).foldl (fun s c =>
    if decide (20 ≤ (s.regionOf c).calm) && s.mayAnchor c && decide (s.plt.quiet ≠ some c)
        && !s.ctr.demand.contains (64 + c) && decide (s.ctr.running ≠ some (64 + c)) then s.demandSample (64 + c) else s) s

/-! ### Retraining that falls due (R235) -/

/-- A trained channel's model value has moved DELTA_C or more from T_LAST. -/
def State.retrainNeeded (s : State) (c : Nat) : Bool :=
  let x := s.chan c
  x.trained && !x.due && decide (16 * s.fld F.FCH_RETRAIN_CFG_DELTA_C 0 ≤ ((s.regionOf c).model - x.tLast).natAbs)

/-- Retrainings fall due (R235, R236): 25 steps each. Whether one has is evaluated at the end of each housekeeping round (DESIGN CHOICE, log
entry 74: R235 names no moment). -/
def State.retrainCheck (s : State) : State :=
  (List.range 128).foldl (fun s c =>
    if s.retrainNeeded c then s.setChan c { s.chan c with due := true, dueAt := s.now, stepsLeft := 25, late := false } else s) s

/-! ### SMART warnings (R385, R387, R391) -/

/-- Composite Temperature in kelvin (R385), its fraction dropped (log entry 22). -/
def State.compositeK (s : State) : Nat :=
  let top := (List.range 137).foldl (fun (m : Int) r =>
    max m (s.effective r)) (-4368)
  (top / 16 + 273).toNat

/-- Available Spare in percent (Table 12-9). -/
def State.availableSpare (s : State) : Nat :=
  s.presentProfiles.foldl (fun m p =>
    let n := spareCount p.2.blocks (s.fld F.SVY_UPKEEP_CFG_SPARE_PERMILLE 0)
    min m ((s.sparesOf p.1).length * 100 / max 1 n)) 100

/-- Percentage Used (Table 12-9). -/
def State.percentUsed (s : State) : Nat :=
  min 255 (s.presentProfiles.foldl (fun m p =>
    let sh := dieSheet p.1
    let mine := s.svy.band.filter (fun e => decide (e.1 % 128 = dieGroup p.1))
    let sum := mine.foldl (fun n e => n + tabGet (fun _ => 0) e.2.erases sh) 0
    max m (sum * 100 / (max 1 p.2.blocks * max 1 p.2.ratedPE))) 0)

/-- Critical Warning (Table 12-9). -/
def State.criticalWarning (s : State) (c : Ctl) : Nat :=
  let k := s.compositeK
  b2n (decide (s.availableSpare < 10)) + 2 * b2n (decide (c.tempOver ≤ k ∨ k < c.tempUnder))
    + 4 * b2n (decide (s.pwr.mode = .degraded) || !s.par.lost.isEmpty) + 8 * b2n s.svy.writesStopped
    + 16 * b2n (s.pwr.tested && decide (s.pwr.budget = 0))

/-- The SMART events of warning bits that have just set (R391): spare, temperature, reliability. -/
def warnEvents (new : Nat) : List Nat :=
  (if new % 2 = 1 then [evSmart 2] else []) ++ (if new / 2 % 2 = 1 then [evSmart 1] else []) ++ (if new / 4 ≠ 0 then [evSmart 0] else [])

/-- A controller's Critical Warning is looked at: a bit that has set raises CRIT_WARN (Table 19-13) and its event. -/
def State.checkWarning (s : State) (f : Nat) : State :=
  let c := s.ctl f
  let w := s.criticalWarning c
  let new := Nat.land w (31 - c.warned % 32)
  if w = c.warned then s
  else
    let s := s.setCtl f { c with warned := w }
    if new = 0 then s else (warnEvents new).foldl (fun s e => s.asyncEvent f e) (s.alert 1)

/-- Every controller's warnings are looked at, once in a frame (log entry 61). -/
def State.checkWarnings (s : State) : State := ((s.ctls.map Prod.fst).filter (· ≠ 0)).foldl State.checkWarning (s.checkWarning 0)

end Sys2Proof.Machine
end

