-- ==== Sys2Proof/Machine/Admin.lean ====
section
/-! DEFINITION. The controller registers' events and the admin commands of chapter 12 (R358 to R396). Field places in Identify,
log pages and features are those of the NVMe specifications that R676 names. -/

set_option linter.unusedVariables false

namespace Sys2Proof.Machine

/-! ### Controller registers (R333, R334, R358, R359), at the bit places of the NVMe Base Specification (R676) -/

/-- CAP (Table 12-1): MQES, CQR, TO 60, the NVM command set, MPSMAX 4, CMBS. -/
def ctlCap : Nat := 65535 + 2 ^ 16 + 60 * 2 ^ 24 + 2 ^ 37 + 4 * 2 ^ 52 + 2 ^ 57
/-- VS. -/
def ctlVs : Nat := 0x00020000
/-- CMBLOC: BIR 4, offset 0. -/
def ctlCmbloc : Nat := 4
/-- CMBSZ of a function: the backed size in units of 1 MiB (the unit is the model's choice, log entry 57) with WDS and RDS; 0 without
backing. -/
def State.cmbsz (s : State) (fn : Nat) : Nat :=
  let b := (s.fnOf fn).backing
  if b = 0 then 0 else b / 2 ^ 20 * 2 ^ 12 + 2 * 2 ^ 8 + 2 ^ 4 + 2 ^ 3
/-- CSTS: RDY, CFS, SHST. -/
def State.csts (s : State) (fn : Nat) : Nat := let c := s.ctl fn; b2n c.rdy + 2 * b2n c.cfs + 4 * (c.shst % 4)

/-! ### Enable, disable, shutdown -/

/-- CC_EN_SET (R359): an admin queue pair, and RDY once the map is ready; with ASQS or ACQS of 0 CFS sets instead. -/
def execCcEnSet (fn iosqes iocqes asqs acqs : Nat) (s : State) : Res :=
  let c := s.ctl fn
  if c.en ∨ !(s.fnOf fn).enabled then .next s
  else
    let c := { c with en := true, iosqes := iosqes, iocqes := iocqes, asqs := asqs, acqs := acqs, idleSince := s.now }
    if asqs = 0 ∨ acqs = 0 then .next (s.setCtl fn { c with cfs := true, cfsAqa := true })
    else
      let s := s.setCtl fn { c with rdy := s.atl.mapReady }
      let s := s.setSq fn 0 (some ⟨asqs + 1, 0, 0, 0, 0, none, false, false, [], false, none, false, none⟩)
      .next (s.setCq fn 0 (some ⟨acqs + 1, 0, 0, true, 0, true, false, 0, none⟩))

/-- CC_EN_CLEAR (R376): a controller reset; a CFS set for another cause than an invalid AQA stays. -/
def execCcEnClear (fn : Nat) (s : State) : Res :=
  let c := s.ctl fn
  if !c.en then .next s
  else
    let t := s.resetFn fn 2
    .next (t.setCtl fn { t.ctl fn with cfs := c.cfs && !c.cfsAqa })

/-- CC_SHN_WRITE (R377). -/
def execCcShnWrite (fn shn : Nat) (s : State) : Res :=
  let c := s.ctl fn
  if shn = 0 then .next (s.setCtl fn { c with shn := 0, shst := 0 })
  else .next ((s.setCtl fn { c with shn := shn, shst := if c.shst = 2 then 2 else 1 }).shutdownCheck fn)

/-- DEVICE_SHUTDOWN_FLUSH (R377): once every enabled controller reads SHST 10b and the staged data is programmed, the journal
tail is spilled. -/
def execDeviceShutdownFlush (s : State) : Res :=
  let l := s.enabledCtls
  if l.isEmpty ∨ !l.all (fun e => decide (e.2.shst = 2)) then .next s
  else if s.atl.stage.any (fun e => (e.2.map (fun x => x.live)).getD false) then .next s
  else .next s.spillAll

/-! ### Queues (R361, R362, R374, R375) -/

/-- The queues granted (R361): the quota until a Number of Queues has succeeded. -/
def State.granted (s : State) (fn : Nat) (sq : Bool) : Nat :=
  let c := s.ctl fn
  let g := if sq then c.grantSq else c.grantCq
  if g = 0 then (s.fnOf fn).quotaUsed else g

/-- CREATE_IO_SUBMISSION_QUEUE (R362, R38). -/
def execCreateIoSubmissionQueue (a : AdminHdr) (qid size cqid : Nat) (pc : Bool) (s : State) : Res :=
  let c := s.ctl a.fn
  if qid = 0 ∨ s.granted a.fn true < qid ∨ (s.sqOf a.fn qid).isSome then .next (s.adminErr a Sc.invalidQueueId)
  else if size < 2 ∨ 65536 < size ∨ c.iosqes ≠ 6 then .next (s.adminErr a Sc.invalidQueueSize)
  else if !pc then .next (s.adminErr a Sc.invalidField)
  else if cqid = 0 ∨ ((s.cqOf a.fn cqid).map (fun x => x.deleting)).getD true then .next (s.adminErr a Sc.cqInvalid)
  else
    let cls := s.fld F.HST_CLASS_DEFAULT_CLASS a.fn
    let s := s.setSq a.fn qid (some ⟨size, 0, 0, cqid, cls, none, false, false, [], false, none, false, none⟩)
    .next (s.adminDone a Sc.success 0#32 [])

/-- CREATE_IO_COMPLETION_QUEUE (R362). -/
def execCreateIoCompletionQueue (a : AdminHdr) (qid size vector : Nat) (pc ien : Bool) (s : State) : Res :=
  let c := s.ctl a.fn
  if qid = 0 ∨ s.granted a.fn false < qid ∨ (s.cqOf a.fn qid).isSome then .next (s.adminErr a Sc.invalidQueueId)
  else if size < 2 ∨ 65536 < size ∨ c.iocqes ≠ 4 then .next (s.adminErr a Sc.invalidQueueSize)
  else if !pc then .next (s.adminErr a Sc.invalidField)
  else if ien ∧ msixCount a.fn ≤ vector then .next (s.adminErr a Sc.invalidVector)
  else
    let s := s.setCq a.fn qid (some ⟨size, 0, 0, true, vector, ien, false, 0, none⟩)
    .next (s.adminDone a Sc.success 0#32 [])

/-- A command of a queue being deleted (R374): aborted, or, its completion entry decided already, left to be sent; the suspension of
Table 02-7 covers every accepted one (R50). -/
def State.abortForDeletion (s : State) (c : Cmd) : State :=
  if c.phase = .posting then s.mapCmd c.fn c.sq c.cid (fun c => { c with suspended := c.suspended || c.accepted })
  else
    let s := s.release c
    let s := s.mapCmd c.fn c.sq c.cid (fun c =>
      { c with bookings := [], slotReads := [], pinned := [], stageLeft := 0, toStage := [], waitsFor := [], suspended := c.suspended || c.accepted })
    s.endCmd c.fn c.sq c.cid Sc.sqDeletion

/-- DELETE_IO_SUBMISSION_QUEUE (R374). -/
def execDeleteIoSubmissionQueue (a : AdminHdr) (qid : Nat) (s : State) : Res :=
  if qid = 0 ∨ (s.sqOf a.fn qid).isNone then .next (s.adminErr a Sc.invalidQueueId)
  else
    let mine := s.cmds.filter (fun c => decide (c.fn = a.fn ∧ c.sq = qid))
    let lost := mine.any Cmd.discarded
    let s := mine.foldl (fun s c => s.abortForDeletion c) s
    let s := s.setSq a.fn qid none
    let s := ((if lost then s.promise a.fn F.HST_PROMISE_EVENTS_FN_RESET else s).suspRecord true 4 0).suspRecord false 4 0
    .next (s.adminDone a Sc.success 0#32 [])

/-- DELETE_IO_COMPLETION_QUEUE (R375). -/
def execDeleteIoCompletionQueue (a : AdminHdr) (qid : Nat) (s : State) : Res :=
  if qid = 0 ∨ (s.cqOf a.fn qid).isNone then .next (s.adminErr a Sc.invalidQueueId)
  else if s.sqs.any (fun e => decide (e.1 / 1024 = a.fn) && (e.2.map (fun q => decide (q.cq = qid))).getD false) then
    .next (s.adminErr a Sc.invalidQueueDeletion)
  else .next ((s.setCq a.fn qid none).adminDone a Sc.success 0#32 [])

/-! ### Identify (R382, R383, R392) -/

/-- Bytes of a page of `n` bytes: each field at its offset, the rest zero. -/
def layBytes (n : Nat) (fields : List (Nat × List Nat)) : List Nat :=
  fields.foldl (fun p f => p.take f.1 ++ f.2.take (n - f.1) ++ p.drop (f.1 + f.2.length)) (zeros n)

/-- A text padded with spaces. -/
def padText (n : Nat) (l : List Nat) : List Nat := (l ++ List.replicate n 0x20).take n

/-- Decimal digits of a number, as ASCII. -/
def decText (n : Nat) : List Nat := (Nat.toDigits 10 n).map Char.toNat

/-- FR (Table 12-5): "5." with minor and build (log entry 22). -/
def frText (v : Nat) : List Nat := padText 8 ([0x35, 0x2E] ++ decText (v / 65536 % 256) ++ [0x2E] ++ decText (v % 65536))

/-- ASCII text. -/
def asciiOf (t : String) : List Nat := t.toList.map Char.toNat

/-- A power state descriptor (Table 12-13): MP in hundredths of a watt, or in 0.1 mW with MXPS. -/
def psd (mp : Nat) (mxps nops : Bool) (en ex : Nat) : List Nat :=
  bytesLe 2 mp ++ [0, b2n mxps + 2 * b2n nops] ++ bytesLe 4 en ++ bytesLe 4 ex ++ zeros 20

/-- Identify Controller (Tables 12-5 and 12-13). -/
def State.identifyController (s : State) (fn : Nat) : List Nat :=
  let tot := s.fld F.PLT_ENVELOPE_TOTAL_TOKENS 0
  let sn := s.otpBytes 24 20
  layBytes 4096
    [(0, s.otpBytes 44 4), (4, sn), (24, padText 40 (s.otpBytes 4 8)), (64, frText s.fwVersion), (77, [9]),
     (78, bytesLe 2 fn), (80, bytesLe 4 0x20000), (84, bytesLe 4 15000000), (88, bytesLe 4 2000000),
     (256, bytesLe 2 2), (258, [3, 7, 7, 6, 63, 4, 0, 1]), (266, bytesLe 2 373), (268, bytesLe 2 388),
     (512, [0x66, 0x44]), (514, bytesLe 2 65535), (516, bytesLe 4 1024), (520, bytesLe 2 0xCF),
     (524, [if s.isKN then 0 else 4, 0]), (530, [1]), (536, bytesLe 4 1),
     (768, asciiOf "nqn.2024-01.com.keacia:tq128:" ++ sn),
     (2048, psd (16500 + tot) false false 0 0), (2080, psd (16500 + min tot 10000) false false 0 0),
     (2112, psd 900 false true (s.enlat 2) (exlat 2)), (2144, psd 450 false true (s.enlat 3) (exlat 3)),
     (2176, psd 450 true true (s.enlat 4) (exlat 4))]

/-- NUSE (Table 12-6). -/
def State.nuse (s : State) (n : Ns) : Nat :=
  if n.nlba = 0 then 0
  else
    let ks := s.iusOf n 0 n.nlba
    ks.foldl (fun k key =>
      if (s.lookup key).st = .unmapped then k else k + min (s.lbasPerIu n) (n.nlba - s.lbaOfIu n key)) 0

/-- Identify Namespace (Tables 12-4, 12-6 and 04-6). -/
def State.identifyNs (s : State) (n : Ns) : List Nat :=
  let l := lbaBytes n.lbaf
  let atom := bytesLe 2 (524288 / l - 1)
  let gran := bytesLe 2 (max 1 (s.lbasPerIu n) - 1)
  layBytes 4096
    [(0, bytesLe 8 n.nlba), (8, bytesLe 8 n.nlba), (16, bytesLe 8 (s.nuse n)),
     (24, [0x13, 3, n.lbaf, 2, 0x15, n.pi]), (33, [0x19]), (34, atom ++ atom), (40, atom ++ bytesLe 2 0 ++ atom),
     (64, gran ++ gran ++ gran ++ gran), (72, bytesLe 2 (524288 / l - 1)), (104, bytesLe 16 n.guid),
     (128, [0, 0, 9, 2]), (132, [8, 0, 9, 2]), (136, [0, 0, 12, 0]), (140, [8, 0, 12, 0])]

/-- The namespaces attached to a function, rising. -/
def State.attachedNs (s : State) (fn : Nat) : List Nat :=
  s.atl.ns.filterMap (fun e => e.2.bind (fun n => if n.attached.contains fn then some e.1 else none))

/-- A namespace as a function sees it: attached, or absent. -/
def State.nsFor (s : State) (fn nsid : Nat) : Option Ns := (s.nsOf nsid).filter (fun n => n.attached.contains fn)

/-- IDENTIFY (R365, R382, R383). -/
def execIdentify (a : AdminHdr) (cns cntid : Nat) (s : State) : Res :=
  let ok := fun (d : List Nat) => resOf (s.adminDone a Sc.success 0#32 d)
  let ns := fun (g : Ns → List Nat) => match s.nsFor a.fn a.nsid with
    | some n => ok (g n)
    | none => resOf (s.adminErr a Sc.invalidNamespace)
  match cns with
  | 0x00 => ns s.identifyNs
  | 0x01 => ok (s.identifyController a.fn)
  | 0x02 => ok (layBytes 4096 [(0, ((s.attachedNs a.fn).filter (fun n => decide (a.nsid < n))).flatMap (bytesLe 4))])
  | 0x03 => ns (fun n => layBytes 4096 [(0, [2, 16, 0, 0] ++ bytesLe 16 n.guid)])
  | 0x05 => ns (fun n => zeros 4096)
  | 0x06 => ok (zeros 4096)
  | 0x08 => ns (fun n => layBytes 4096 [(0, [0x10]), (14, [1])])
  | 0x1C => ok (layBytes 4096 [(0, [1])])
  | _ => .next (s.adminErr a Sc.invalidField)

/-! ### Features (R384, R385) -/

/-- The controller's lowest held state among those enabled, applied to the device (R393): PS0 and PS1 at once. -/
def State.applyPs (s : State) : State :=
  match s.enabledCtls with
  | [] => s
  | e :: rest =>
    let p := rest.foldl (fun m e => min m e.2.ps) e.2.ps
    if p < 2 then s.takeState p else s

/-- Milliseconds from 1970 to 2000 (Table 19-3). -/
def msTo2000 : Nat := 946684800000

/-- A Set Features' effect: its status, the new state, and Dword 0. -/
def State.setFeature (s : State) (a : AdminHdr) (fid : Nat) (w : BitVec 32) (data : List Nat) : Nat × State × W32 :=
  let c := s.ctl a.fn
  let ok := fun (c : Ctl) => (Sc.success, s.setCtl a.fn c, 0#32)
  let bad := (Sc.invalidField, s, 0#32)
  match fid with
  | 0x01 => ok { c with burst := bits w 2 0, rrLeft := 0 }
  | 0x02 => if 4 < bits w 4 0 then bad else (Sc.success, (s.setCtl a.fn { c with ps := bits w 4 0 }).applyPs, 0#32)
  | 0x04 =>
    if bits w 19 16 ≠ 0 ∧ bits w 19 16 ≠ 15 then bad
    else if bits w 21 20 = 0 then ok { c with tempOver := bits w 15 0 }
    else if bits w 21 20 = 1 then ok { c with tempUnder := bits w 15 0 } else bad
  | 0x07 =>
    let nsq := bits w 15 0
    let ncq := bits w 31 16
    if nsq = 65535 ∨ ncq = 65535 then bad
    else if s.sqs.any (fun e => decide (e.1 / 1024 = a.fn ∧ e.1 % 1024 ≠ 0) && e.2.isSome)
        || s.cqs.any (fun e => decide (e.1 / 1024 = a.fn ∧ e.1 % 1024 ≠ 0) && e.2.isSome) then (Sc.sequenceError, s, 0#32)
    else
      let q := (s.fnOf a.fn).quotaUsed
      let gs := min (nsq + 1) q
      let gc := min (ncq + 1) q
      (Sc.success, s.setCtl a.fn { c with grantSq := gs, grantCq := gc }, BitVec.ofNat 32 ((gs - 1) + (gc - 1) * 65536))
  | 0x08 => ok { c with coalThr := bits w 7 0, coalTime := bits w 15 8 }
  | 0x09 =>
    let v := bits w 15 0
    if msixCount a.fn ≤ v then bad
    else ok { c with cdVec := if w.getLsbD 16 then (if c.cdVec.contains v then c.cdVec else v :: c.cdVec) else c.cdVec.filter (fun k => decide (k ≠ v)) }
  | 0x0A => ok { c with atomNormal := w }
  | 0x0B => ok { c with aec := w }
  | 0x0C =>
    let t := (List.range 32).map (fun k => let v := le data (8 * k) 8; (⟨v / 256 % 2 ^ 24, v / 8 % 32⟩ : ApstEntry))
    if t.any (fun e => decide (e.idleMs ≠ 0 ∧ 4 ≤ e.target)) then bad else ok { c with apstOn := w.getLsbD 0, apst := t }
  | 0x0E =>
    let ms := le data 0 6
    if a.fn % 128 ≠ 0 ∨ ms < msTo2000 then bad
    else (Sc.success, s.setDatum 2 ((ms - msTo2000) * 1024 / 1000 * 32), 0#32)
  | _ => bad

/-- SET_FEATURES (R384). -/
def execSetFeatures (a : AdminHdr) (fid : Nat) (sv : Bool) (dw11 : BitVec 32) (data : List Nat) (s : State) : Res :=
  if sv then .next (s.adminErr a Sc.notSaveable)
  else
    let r := s.setFeature a fid dw11 data
    .next (r.2.1.adminDone a r.1 r.2.2 [])

/-- HST_QCLASS of a queue (Table 11-18). -/
def State.qclass (s : State) (fn q : Nat) : W32 :=
  if q = 0 then 0#32
  else match s.sqOf fn q with
  | none => 0#32
  | some x => BitVec.ofNat 32 (x.nextCls % 64 + b2n (!s.bindable fn x.nextCls) * 2 ^ 30 + 2 ^ 31)

/-- A feature's value, as Dword 0 and data: of the controller `c`. -/
def State.featureOf (s : State) (a : AdminHdr) (c : Ctl) (fid : Nat) (w : BitVec 32) : Option (W32 × List Nat) :=
  match fid with
  | 0x01 => some (BitVec.ofNat 32 c.burst, [])
  | 0x02 => some (BitVec.ofNat 32 c.ps, [])
  | 0x04 => some (BitVec.ofNat 32 (if bits w 21 20 = 1 then c.tempUnder else c.tempOver), [])
  | 0x07 =>
    let q := (s.fnOf a.fn).quotaUsed
    let gs := if c.grantSq = 0 then q else c.grantSq
    let gc := if c.grantCq = 0 then q else c.grantCq
    some (BitVec.ofNat 32 ((gs - 1) + (gc - 1) * 65536), [])
  | 0x08 => some (BitVec.ofNat 32 (c.coalThr + 256 * c.coalTime), [])
  | 0x09 => some (BitVec.ofNat 32 (bits w 15 0 + 65536 * b2n (c.cdVec.contains (bits w 15 0))), [])
  | 0x0A => some (c.atomNormal, [])
  | 0x0B => some (c.aec, [])
  | 0x0C => some (BitVec.ofNat 32 (b2n c.apstOn), (List.range 32).flatMap (fun k =>
      let e := c.apst.getD k ⟨0, 0⟩; bytesLe 8 (e.target * 8 + e.idleMs * 256)))
  | 0x0E => some (0#32, bytesLe 6 (s.datumTime * 1000 / 1024 + msTo2000) ++ [if s.dat.unset then 0 else 2, 0])
  | 0xC0 => some (s.qclass a.fn (w.toNat % 65536), [])
  | _ => none

/-- GET_FEATURES (R384): the current value; the default, which also stands for the saved one; or the capabilities. -/
def execGetFeatures (a : AdminHdr) (fid sel : Nat) (dw11 : BitVec 32) (s : State) : Res :=
  let c := if sel = 1 ∨ sel = 2 then Ctl.reset else s.ctl a.fn
  match s.featureOf a c fid dw11 with
  | none => .next (s.adminErr a Sc.invalidField)
  | some (d, l) =>
    if 3 < sel then .next (s.adminErr a Sc.invalidField)
    else if sel = 3 then .next (s.adminDone a Sc.success (if fid = 0xC0 then 0#32 else 4#32) [])
    else .next (s.adminDone a Sc.success d l)

/-! ### Log pages (R386 to R390) -/

/-- One of the media counters. -/
def State.media1 (s : State) (row : Nat) : Nat := tabGet (fun _ => 0) s.media row

/-- A record of the Lost Ranges page (Table 12-11): the namespace, first LBA, count, and the row lost. -/
structure LostRange where
  nsid : Nat
  lba : Nat
  count : Nat
  row : LostRow
  deriving DecidableEq, Repr

/-- Runs of consecutive numbers: first and length. -/
def runsOf : List Nat → List (Nat × Nat)
  | [] => []
  | x :: rest => match runsOf rest with
    | (y, n) :: more => if x + 1 = y then (x, n + 1) :: more else (x, 1) :: (y, n) :: more
    | [] => [(x, 1)]

/-- The lost ranges of a function (R389). -/
def State.lostRanges (s : State) (fn : Nat) : List LostRange :=
  s.par.lost.flatMap (fun r => (s.attachedNs fn).flatMap (fun id => match s.nsOf id with
    | some n =>
      let mine := r.ius.filter (fun k => decide (iuKey n.pool n.base ≤ k ∧ 0 < n.nlba ∧ k ≤ s.iuOfLba n (n.nlba - 1)))
      (runsOf mine).map (fun p =>
        let a := s.lbaOfIu n p.1
        (⟨id, a, min (p.2 * s.lbasPerIu n) (n.nlba - a), r⟩ : LostRange))
    | none => []))

def LostRange.bytes (x : LostRange) : List Nat :=
  bytesLe 4 x.nsid ++ bytesLe 4 x.count ++ bytesLe 8 x.lba ++ bytesLe 8 (x.row.time % 2 ^ 42 + b2n x.row.unset * 2 ^ 63)
    ++ bytesLe 4 (x.row.band % 2 ^ 24) ++ bytesLe 2 x.row.row ++ bytesLe 2 x.row.erased

/-- The bytes of a log page (Table 12-8); none: the page is not supported. -/
def State.logPage (s : State) (fn lid : Nat) : Option (List Nat) :=
  let c := s.ctl fn
  match lid with
  | 0x01 => some (layBytes 4096 [(0, (List.range c.errs.length).flatMap (fun k =>
      let e := c.errs.getD k 0
      bytesLe 8 (c.errCount - k) ++ bytesLe 2 (e / 2 ^ 32) ++ bytesLe 2 (e / 2 ^ 16) ++ bytesLe 2 (e % 2 ^ 16 * 2) ++ zeros 50))])
  | 0x02 => some (layBytes 512
      [(0, [s.criticalWarning c] ++ bytesLe 2 s.compositeK ++ [s.availableSpare, 10, s.percentUsed]),
       (32, bytesLe 16 (ceilDiv (s.media1 10) 1000)), (48, bytesLe 16 (ceilDiv (s.media1 11) 1000)),
       (64, bytesLe 16 (s.media1 12)), (80, bytesLe 16 (s.media1 13)),
       (160, bytesLe 16 (s.media1 9)), (176, bytesLe 16 c.errCount)])
  | 0x03 => some (layBytes 512 ((0, [(s.por.booted + 1) % 8]) :: (List.range 3).map (fun k =>
      let b := tabGet (fun _ => BootSlot.reset) s.por.slots k
      (8 + 8 * k, if b.st = 2 then frText b.fwVersion else zeros 8))))
  | 0x04 => some (layBytes 4096 [(0, c.changedNs.flatMap (bytesLe 4))])
  | 0x05 => some (layBytes 4096 ([0x00, 0x01, 0x02, 0x04, 0x05, 0x06, 0x08, 0x09, 0x0A, 0x0C, 0x80].map (fun o => (4 * o, [1]))
      ++ [0x00, 0x01, 0x02, 0x04, 0x05, 0x08, 0x09, 0x0C].map (fun o => (1024 + 4 * o, [1]))))
  | 0xC0 => some (layBytes 1024 ((List.range 6).map (fun k => (8 * k, bytesLe 8 (tabGet (fun _ => 0) s.stats (128 * fn + k))))
      ++ [(48, bytesLe 4 (s.fld F.PLT_FLOOR_RD_READ_US 0) ++ bytesLe 4 (s.fld F.PLT_FLOOR_RD_DETOUR_US 0)
            ++ bytesLe 4 (s.fld F.PLT_FLOOR_WR_FUA_US 0) ++ bytesLe 4 (s.fld F.PLT_FLOOR_WR_FLUSH_US 0)),
          (512, (List.range 64).flatMap (fun k => bytesLe 8 (tabGet (fun _ => 0) s.stats (128 * fn + 64 + k))))]))
  | 0xC1 => let l := s.lostRanges fn
    some (bytesLe 4 l.length ++ bytesLe 4 l.length ++ zeros 8 ++ l.flatMap LostRange.bytes)
  | 0xC2 => some (layBytes 256 [(0, (List.range 9).flatMap (fun k => bytesLe 8 (s.media1 k))),
      (72, bytesLe 4 s.svy.aMeas ++ bytesLe 4 s.aBookedNow ++ bytesLe 4 s.svy.minFree)])
  | _ => none

/-- The records of the Lost Ranges page that lie in the bytes returned. -/
def State.lostGot (s : State) (fn lpo len : Nat) : List Nat :=
  (List.range (s.lostRanges fn).length).filter (fun k => decide (lpo ≤ 16 + 32 * k ∧ 48 + 32 * k ≤ lpo + len))

/-- The list records a Lost Ranges read clears (R389): those all of whose ranges lie among the records returned. -/
def State.clearLost (s : State) (fn lpo len : Nat) : State :=
  let l := s.lostRanges fn
  let got := s.lostGot fn lpo len
  let back := fun (r : LostRow) =>
    let n := (got.filterMap (fun k => l[k]?)).filter (fun x => decide (x.row = r))
    let seen := n.flatMap (fun x => match s.nsOf x.nsid with
      | some m => s.iusOf m x.lba (max 1 x.count)
      | none => [])
    r.ius.all seen.contains
  { s with par := { s.par with lost := s.par.lost.filter (fun r => !back r) } }

/-- GET_LOG_PAGE (R386 to R391): the bytes from LPO, `numd` + 1 dwords of them; reading a page clears the masks of the events
that name it, unless RAE keeps them. -/
def execGetLogPage (a : AdminHdr) (lid lsp numd lpo : Nat) (rae : Bool) (s : State) : Res :=
  match s.logPage a.fn lid with
  | none => .next (s.adminErr a Sc.invalidLogPage)
  | some page =>
    if lid = 0x02 ∧ a.nsid ≠ 0xFFFFFFFF then .next (s.adminErr a Sc.invalidField)
    else if lid = 0xC1 ∧ lsp % 2 = 1 ∧ a.fn % 128 ≠ 0 then .next (s.adminErr a Sc.invalidField)
    else
      let len := 4 * (numd + 1)
      let page := if lid = 0xC1 then bytesLe 4 (s.lostGot a.fn lpo len).length ++ page.drop 4 else page   -- records returned (R389)
      let d := ((page.drop lpo) ++ zeros len).take len
      let s := if lid = 0xC1 ∧ lsp % 2 = 1 then s.clearLost a.fn lpo len else s
      let c := s.ctl a.fn
      let c' : Ctl := { c with aerMasked := c.aerMasked.filter (fun e => decide (e / 65536 ≠ lid)),
                               changedNs := if lid = 0x04 then [] else c.changedNs }
      let s := if rae then s else s.setCtl a.fn c'
      .next (s.adminDone a Sc.success 0#32 d)

/-! ### Abort, events, Format -/

/-- ABORT (R373): Dword 0 bit 0 is 1, "not aborted"; a fifth outstanding ends with its limit. -/
def execAbort (a : AdminHdr) (sqid victim : Nat) (s : State) : Res :=
  let c := s.ctl a.fn
  if 4 ≤ c.aborts.length then .next (s.adminErr a Sc.abortLimit)
  else .next ((s.setCtl a.fn { c with aborts := c.aborts ++ [a.cid] }).adminDone a Sc.success 1#32 [])

/-- ASYNCHRONOUS_EVENT_REQUEST (R391). -/
def execAsynchronousEventRequest (a : AdminHdr) (s : State) : Res :=
  let c := s.ctl a.fn
  if 8 ≤ c.aers.length then .next (s.adminErr a Sc.aerLimit)
  else
    let s := s.setCtl a.fn { c with aers := c.aers ++ [a.cid], aerPend := c.aerPend.drop 1 }
    match c.aerPend with
    | [] => .next s
    | ev :: _ => .next (s.asyncEvent a.fn ev)

/-- ASYNC_EVENT_REPORT (R391). -/
def execAsyncEventReport (fn event : Nat) (s : State) : Res := .next (s.asyncEvent fn event)

/-- FORMAT_NVM (R378). -/
def execFormatNvm (a : AdminHdr) (lbaf pi pil mset ses : Nat) (s : State) : Res :=
  if a.nsid = 0xFFFFFFFF then .next (s.adminErr a Sc.invalidField)
  else match s.nsFor a.fn a.nsid with
  | none => .next (s.adminErr a Sc.invalidNamespace)
  | some n =>
    if n.format.isSome then .next (s.adminErr a Sc.formatInProgress)
    else if lbaf ≠ n.lbaf ∨ pi ≠ n.pi ∨ pil ≠ 0 ∨ mset ≠ 0 then .next (s.adminErr a Sc.invalidFormat)
    else if 2 < ses ∨ (ses = 2 ∧ s.isKN) then .next (s.adminErr a Sc.invalidField)
    else
      let n' := { n with format := some (a.fn, a.cid, ses) }
      let s := { s with atl := { s.atl with ns := tabSet (fun _ => none) s.atl.ns a.nsid (some n') } }
      .next (s.formatCheck a.nsid)

/-- ADMIN_INVALID_OPCODE (R365). -/
def execAdminInvalidOpcode (a : AdminHdr) (opcode : Nat) (s : State) : Res := .next (s.adminErr a Sc.invalidOpcode)

end Sys2Proof.Machine
end

