-- ==== Sys2Proof/Machine/OpsMedia.lean ====
section
/-! DEFINITION. Shared operations of media upkeep and stripes (chapters 5 and 6): read counts, grown bad blocks, retired bands,
victim scores, free counts, syndromes, journal slots. -/

set_option linter.unusedVariables false

namespace Sys2Proof.Machine

/-! ### Read counts and refresh (R172 to R174) -/

/-- `n` page reads of the member of band `b` on a sheet: its read count, saturating, and at READ_REFRESH_LIMIT the refresh queue
(R172). An OPEN band is closed first, by its own command (R174). -/
def State.countReads (s : State) (b sh n : Nat) : State :=
  let x := s.bandRec b
  if x.st = .free then s
  else
    let c := tabGet (fun _ => 0) x.reads sh
    let c' := satAdd (2 ^ 24 - 1) c n
    let s := s.setBand b { x with reads := tabSet (fun _ => 0) x.reads sh c' }
    let lim := ((s.profileOf (128 * sh + b % 128)).map Profile.readLimit).getD 0
    if lim ≠ 0 ∧ c < lim ∧ lim ≤ c' ∧ x.st = .closed ∧ !s.svy.refreshQ.contains b then
      (s.event F.SVY_MEDIA_EVENTS_READ_REFRESH 0 b).queueRefresh b 1 false
    else s

/-- Some member of a band has reached READ_REFRESH_LIMIT. -/
def State.readLimitHit (s : State) (b : Nat) : Bool :=
  (s.bandRec b).reads.any (fun e =>
    let lim := ((s.profileOf (128 * e.1 + b % 128)).map Profile.readLimit).getD 0
    decide (lim ≠ 0 ∧ lim ≤ e.2))

/-! ### Retired bands and grown bad blocks (R160, R178 to R180) -/

/-- Programmed pages of a member of a band. -/
def Band.written (x : Band) : Nat := if x.st = .opened then x.nextRow else x.pages

/-- Debt of a member rebuild into a spare (Table 05-5), in 1/16 µs: the reads of the W_b − 2 others over the members, and the programs on
the spare's die. -/
def State.rebuildReads (s : State) (b : Nat) : Nat :=
  let x := s.bandRec b
  x.written * ((x.wb - 2) * maxOf (s.members (b % 128)) (fun m => m.2.tR))
def State.rebuildProgs (s : State) (b d : Nat) : Nat :=
  ceilDiv ((s.bandRec b).written * ((s.profileOf d).map Profile.tPROG).getD 0) 3
def State.oweRebuild (s : State) (b sh : Nat) : State :=
  (s.owe (b % 128) (s.rebuildReads b)).oweDie (128 * sh + b % 128) (s.rebuildProgs b (128 * sh + b % 128))

/-- A substituted member is rebuilt into its spare (R179); one that is being rebuilt already starts no second rebuild (R180). -/
def State.startRebuild (s : State) (b sh : Nat) : State :=
  let x := s.bandRec b
  if maskBit x.rebuild sh then s else (s.moveBand b { x with rebuild := maskSet x.rebuild sh }).oweRebuild b sh

/-- A band is marked for retirement and goes first in the refresh queue (Table 05-4). -/
def State.toRetire (s : State) (b : Nat) : State :=
  (s.moveBand b { s.bandRec b with retire := true }).queueRefresh b 3 true

/-- A die is fenced when its retired blocks reach GBB_FENCE_PCT of its blocks (R180). Every block of the bad-block table counts, factory
marks included (DEDUCED, log entry 65). -/
def State.gbbFence (s : State) (d : Nat) : State :=
  let n := ((s.profileOf d).map Profile.blocks).getD 0
  let bad := (tabGet (fun _ => []) s.svy.bad d).length
  if n ≠ 0 ∧ s.fld F.SVY_UPKEEP_CFG_GBB_FENCE_PCT 0 * n ≤ 100 * bad ∧ !(s.dieOf d).fenced then
    let s := s.event F.SVY_MEDIA_EVENTS_DIE_FENCED 0 d
    ({ s with svy := { s.svy with gbbFenced := d :: s.svy.gbbFenced } } : State).raiseAt 0x0A0 (dieChan d) 0x0F d
  else s

/-- What a grown bad block does to its band (Table 05-4). `row` is the row whose program failed, of an OPEN band: with a spare its program is
booked again. -/
def State.gbbBand (s : State) (b sh row : Nat) : State :=
  let x := s.bandRec b
  let d := 128 * sh + b % 128
  match x.st with
  | .opened => match s.substitute b sh with
    | some t => (t.startRebuild b sh).pushOp d 1 (((t.profileOf d).map Profile.tPROG).getD 0) (t.now + 64 * msTicks)
    | none => ((s.eraseAt b row sh).closeFull b (2 ^ sh)).toRetire b
  | .closed => match s.substitute b sh with
    | some t => t.startRebuild b sh
    | none => s.toRetire b
  | .victim | .drained =>
    if (s.sparesOf d).isEmpty then s.moveBand b { x with retire := true }
    else s.moveBand b { x with gbb := maskSet x.gbb sh }
  | .erasing => match s.substitute b sh with
    | some t => t.pushErase d
    | none => s.retireBand b
  | .free | .retired => s

/-- A grown bad block (R178, R180): the bad-block table, the band, the die. A member already under rebuild starts no second
rebuild. -/
def State.grownBad (s : State) (b sh row : Nat) : State :=
  let d := 128 * sh + b % 128
  let k := (s.bandRec b).member b sh
  let l := tabGet (fun _ => []) s.svy.bad d
  if l.contains k then s
  else
    let s := { s with svy := { s.svy with bad := tabSet (fun _ => []) s.svy.bad d (k :: l) } }
    let s := (s.mediaCount 6 1).event F.SVY_MEDIA_EVENTS_GBB 0 d
    (s.gbbBand b sh row).gbbFence d

/-! ### Victims (R161 to R163) -/

/-- The fixed point of SCORE: 32 fraction bits (R162 asks for at least 16). -/
def scoreOne : Nat := 2 ^ 32

/-- Age of a band in ticks of Datum time (R163). -/
def State.bandAge (s : State) (x : Band) : Nat := (x.closedAt.map (fun t => s.datumTime - t)).getD 0

/-- w of SCORE (R162), × `scoreOne`: the mean over the members present of erase count over rated cycles, at most 1. -/
def State.wearOf (s : State) (b : Nat) : Nat :=
  let x := s.bandRec b
  let l := (maskList x.sheets).filterMap (fun sh =>
    if (s.dieOf (128 * sh + b % 128)).present then
      (s.profileOf (128 * sh + b % 128)).map (fun p => tabGet (fun _ => 0) x.erases sh * scoreOne / max 1 p.ratedPE)
    else none)
  min scoreOne (l.foldl (fun n v => n + v) 0 / max 1 l.length)

/-- SCORE (R162). -/
def State.score (s : State) (b : Nat) : Nat :=
  let x := s.bandRec b
  let u := x.valid * scoreOne / max 1 x.capacity
  let a := min (s.bandAge x * scoreOne / (1024 * 3600 * max 1 (s.fld F.SVY_GC_CFG_AGE_SCALE_H 0))) (4 * scoreOne)
  let w := s.wearOf b
  let n := 1024 * (scoreOne - min scoreOne u) * (scoreOne + a) * (2 * scoreOne - w)
  min (n / (2 * scoreOne * scoreOne * (u + scoreOne / 64))) (2 ^ 24 - 1)

/-- A candidate for collection (R161). -/
def State.gcCandidate (s : State) (b : Nat) : Bool :=
  let x := s.bandRec b
  decide (x.st = .closed ∧ x.cls < 2) && !s.svy.refreshQ.contains b

/-- The best of a list of bands by score, the lowest index on a tie. -/
def State.bestScore (s : State) (l : List Nat) : Option (Nat × Nat) :=
  l.foldl (fun (m : Option (Nat × Nat)) b =>
    let v := s.score b
    match m with
    | none => some (b, v)
    | some x => if x.2 < v ∨ (x.2 = v ∧ b < x.1) then some (b, v) else some x) none

/-! ### Free counts (R168 to R171) -/

/-- MIN_FREE of R171. -/
def State.minFreeNow (s : State) : Nat :=
  match s.liveGroups.map s.freeCount with
  | [] => 0
  | n :: rest => rest.foldl min n

/-- MIN_FREE against one watermark (R171): a fall below LEVEL. ABOVE is read from MIN_FREE. -/
def State.freeMark (s : State) (i was now : Nat) (first : Bool) : State :=
  let l := s.fld F.SVY_FREE_WM_LEVEL i
  if now < l ∧ (first ∨ l ≤ was) then (s.bump F.SVY_FREE_WM_COUNT i 1).event F.SVY_FREE_WM_CROSSED i 0 else s

/-- WRITES_STOPPED sets when no group can take a write (R170). A quiet slot stops nothing. -/
def State.stopWrites (s : State) : State :=
  let can := (List.range 128).any (fun g => decide (s.urgency g ≤ 2) && decide (4 ≤ s.width g))
  if can || s.svy.writesStopped then s
  else { s with svy := { s.svy with writesStopped := true } }.event F.SVY_MEDIA_EVENTS_WRITES_STOPPED 0 0

/-! ### Opening a band (R166, R184) -/

/-- A band opened (R166, R184): member set, width and geometry as they stand. -/
def State.openBand (s : State) (b cls : Nat) : State :=
  let s := { s with svy := { s.svy with openSeq := s.svy.openSeq + 1 } }
  s.moveBand b { s.fitted b cls with st := .opened, openSeq := s.svy.openSeq }

/-! ### Erases (R102, R159) -/

/-- No read of an older die epoch, or issued under an older function epoch, is outstanding on a die (R102): none queued, booked for later,
running, or under a suspended operation. -/
def State.noOldReads (s : State) (d : Nat) : Bool :=
  !s.allOps.any (fun e => decide (e.1 = d ∧ e.2.kind ≠ 1 ∧ e.2.kind ≠ 2)
    && (decide (e.2.epoch ≠ s.dieEpochOf d) || (e.2.fnEpoch.map (fun c => decide (c.2 ≠ s.fnEpoch c.1))).getD false))

/-- The set that was replayed is armed again once every band of it is FREE (R501). -/
def State.armAgain (s : State) : State :=
  match s.pwr.eraseSet with
  | none => s
  | some set =>
    if (List.range 128).all (fun g => (s.holdBand g set).all (fun e => decide (e.2.st = .free))) then
      ({ s with pwr := { s.pwr with armedSet := set, eraseSet := none } } : State).recomputeBudget
    else s

/-- One member erase has passed (R159); the last makes the band FREE. -/
def State.erasePassed (s : State) (b sh : Nat) : State :=
  let x := s.bandRec b
  let x := { x with erasing := maskClear x.erasing sh, reads := tabSet (fun _ => 0) x.reads sh 0,
                    erases := tabSet (fun _ => 0) x.erases sh (satAdd (2 ^ 24 - 1) (tabGet (fun _ => 0) x.erases sh) 1) }
  if x.erasing = 0 then
    let s := (s.setBand b x).freeUp b
    if x.cls = 3 then s.armAgain else s
  else s.setBand b x

/-! ### Syndromes (R187, R197) -/

/-- Multiplication by 2 in GF(2^8) over 0x11D. -/
def gf2 (a : Nat) : Nat := if a < 128 then 2 * a else (2 * a) ^^^ 0x11D
/-- Multiplication in GF(2^8) over 0x11D. -/
def gfMul (a b : Nat) : Nat :=
  ((List.range 8).foldl (fun (p : Nat × Nat) i => (if b / 2 ^ i % 2 = 1 then p.1 ^^^ p.2 else p.1, gf2 p.2)) (0, a % 256)).1
/-- The inverse, a^254. -/
def gfInv (a : Nat) : Nat :=
  ((List.range 7).foldl (fun (p : Nat × Nat) _ => let q := gfMul p.2 p.2; (gfMul p.1 q, q)) (1, a)).1
/-- w(s) = 2^s (Table 06-1). -/
def gfWeight (sh : Nat) : Nat := (List.range sh).foldl (fun a _ => gf2 a) 1

/-- Byte lists XORed, the shorter one read as zero beyond its end. -/
def xorBytes (a b : List Nat) : List Nat :=
  (List.range (max a.length b.length)).map (fun i => (a.getD i 0 % 256) ^^^ (b.getD i 0 % 256))
/-- A byte list scaled. -/
def gfScale (w : Nat) (a : List Nat) : List Nat := a.map (fun x => gfMul w (x % 256))

/-- The bytes of the erased data positions of a row (Table 06-5), by sheet: `data` is what was read, by sheet. -/
def rebuildRow (dataSheets : List Nat) (pSheet qSheet : Nat) (data : List (List Nat)) (erased : List Nat) : List (Nat × List Nat) :=
  let get := fun sh => data.getD sh []
  let have_ := dataSheets.filter (fun sh => !erased.contains sh)
  let dStar := have_.foldl (fun a sh => xorBytes a (get sh)) []
  let qStar := have_.foldl (fun a sh => xorBytes a (gfScale (gfWeight sh) (get sh))) []
  match dataSheets.filter (fun sh => erased.contains sh) with
  | [] => (if erased.contains pSheet then [(pSheet, dStar)] else []) ++ (if erased.contains qSheet then [(qSheet, qStar)] else [])
  | [x] =>
    if erased.contains pSheet then
      [(x, gfScale (gfInv (gfWeight x)) (xorBytes (get qSheet) qStar))]
    else [(x, xorBytes (get pSheet) dStar)]
  | [x, y] =>
    let p' := xorBytes (get pSheet) dStar
    let q' := xorBytes (get qSheet) qStar
    let dx := gfScale (gfInv (gfWeight x ^^^ gfWeight y)) (xorBytes q' (gfScale (gfWeight y) p'))
    [(x, dx), (y, xorBytes p' dx)]
  | _ => []

/-! ### Journal slots (R190 to R193) -/

/-- The stripe slot a new stripe takes (R191): the lowest FREE one (DESIGN CHOICE, log entry 50: the rule says only a FREE slot). -/
def State.freeJslot (s : State) : Option Nat := (List.range' 1 3583).find? (fun k => decide ((s.jslot k).st = .free))

/-- The data positions of a slot, as sheets. -/
def Slot.dataSheets (x : Slot) : List Nat := (maskList x.sheets).filter (fun sh => decide (sh ≠ x.pSheet ∧ sh ≠ x.qSheet))

/-- The parity positions of a slot that can still be programmed (R213). -/
def State.parityLeft (s : State) (x : Slot) : List Nat :=
  [x.pSheet, x.qSheet].filter (fun sh => s.sheetUsable sh && s.dieLive (128 * sh + x.band % 128))

/-- The programs a slot still waits for have passed: every folded data position that can still be programmed (R213), then P and Q. -/
def State.dataDone (s : State) (x : Slot) : Bool :=
  x.dataSheets.all (fun sh => !maskBit x.folded sh || maskBit x.written sh
    || (decide (x.st = .short) && !(s.sheetUsable sh && s.dieLive (128 * sh + x.band % 128))))
def State.parityDone (s : State) (x : Slot) : Bool := s.dataDone x && (s.parityLeft x).all (fun sh => maskBit x.written sh)

/-- The last row's parity closes the band (R158, R189): its footer has been programmed with it. -/
def State.rowDone (s : State) (b row : Nat) : State :=
  let x := s.bandRec b
  if x.st = .opened ∧ row + 1 = x.pages then s.closeFull b 0 else s

/-- A program of a sheet's position in a row passes (R191 step 3): WRITTEN where the epoch is the one in EPOCHS; the slot is
FREE when P and Q have passed (step 6). -/
def State.programPass (s : State) (b row sh epoch : Nat) : State :=
  match s.par.slot.find? (fun e => decide (e.2.st ≠ .free ∧ e.2.band = b ∧ e.2.row = row)) with
  | none => s
  | some (k, x) =>
    if x.epochs.getD sh 0 ≠ epoch then s
    else
      let x : Slot := { x with written := maskSet x.written sh, from_ := x.from_.filter (fun e => decide (e.1 ≠ sh)) }
      let y := s.bandRec b
      let s := s.setBand b { y with epochs := tabSet (fun _ => 0) y.epochs (16 * row + sh) (epoch + 1) }
      let host := if x.cls = 0 ∧ x.dataSheets.contains sh then x.planes * 16384 else 0
      let reloc := if x.cls = 1 ∧ x.dataSheets.contains sh then x.planes * 16384 else 0
      let s := { s with svy := { s.svy with hostBytes := s.svy.hostBytes + host, relocBytes := s.svy.relocBytes + reloc } }
      if (x.st = .parity ∨ x.st = .short) ∧ s.parityDone x then (s.setJslot k Slot.reset).rowDone b row
      else s.setJslot k x

/-! ### Lost rows, and where data goes (R156, R164, R203 to R206) -/

/-- The IUs mapped to the erased data positions of a row. -/
def State.iusOfRow (s : State) (b row : Nat) (erased : List Nat) : List Nat :=
  (s.atl.ent.filter (fun e => decide (e.2.st = .mapped) && !(s.segOf (segOfIu e.1)).discarded && erased.contains (dieSheet (e.2.addr / 2 ^ 25))
    && decide (e.2.addr / 2 ^ 25 % 128 = b % 128) && decide (s.bandOfAddr e.2.addr = b) && decide (s.pageOfAddr e.2.addr = row))).map Prod.fst

/-- The namespaces that hold an IU. -/
def State.fnsOfIus (s : State) (ks : List Nat) : List Nat :=
  ((ks.filterMap s.nsAt).flatMap Ns.attached).dedup

/-- A row is lost (R203, R204): POISON of the IUs of its erased data positions, the list, one record, LOST_STRIPE; its other IUs are
relocated with the band. -/
def State.rowLost (s : State) (b row : Nat) (erased : List Nat) : State :=
  let x := s.bandRec b
  if x.lost.contains row then s
  else
    let data := erased.filter (fun sh => decide (sh ≠ x.pSheet row ∧ sh ≠ x.qSheet row))
    let ks := s.iusOfRow b row data
    let fs := s.fnsOfIus ks
    let s := s.moveBand b { x with lost := row :: x.lost }
    let s := ks.foldl (fun s k => s.poisonIu k 1) s
    let m := erased.foldl maskSet 0
    let s := if 65536 ≤ s.par.lost.length then s.event F.PAR_EVENTS_LIST_FULL 0 b
      else { s with par := { s.par with lost := ⟨b, row, m, ks, s.datumTime, s.dat.unset⟩ :: s.par.lost } }
    let s := s.record 0x090 0 0 0x000C (b % 2 ^ 24 + row % 2 ^ 16 * 2 ^ 24 + m % 2 ^ 16 * 2 ^ 40)
    let s := ((s.bump F.PAR_LOST_COUNT 0 1).mediaCount 5 1).event F.PAR_EVENTS_LOST_STRIPE 0 b
    let s := fs.foldl (fun s f => s.asyncEvent f evLost) s
    -- step 1: the IUs of the row that can be read are relocated with the band; an OPEN one is queued as it closes
    if (s.bandRec b).st = .closed then s.queueRefresh b 3 true else s

/-- The group that takes the relocated data of a group (R156, R206): itself, or where its width is below 4 the one with the highest free
count. -/
def State.relocGroup (s : State) (g : Nat) : Nat :=
  if 4 ≤ s.width g then g
  else ((List.range 128).foldl (fun (m : Nat × Nat) k => if 4 ≤ s.width k ∧ m.2 < s.freeCount k then (k, s.freeCount k) else m) (g, 0)).1

/-- A map address is a data position written in a band of a class (R156, R186). -/
def State.dataIn (s : State) (addr cls : Nat) : Bool :=
  let a := addr % 2 ^ 36
  let b := s.bandOfAddr a
  let x := s.bandRec b
  let row := s.pageOfAddr a
  let sh := dieSheet (a / 2 ^ 25)
  decide (x.cls = cls) && (decide (x.st = .closed) || decide (x.st = .victim) || (decide (x.st = .opened) && decide (row < x.nextRow)))
    && maskBit x.sheets sh && decide (sh ≠ x.pSheet row ∧ sh ≠ x.qSheet row)
    && !decide (row + 1 = x.pages ∧ s.planeOfAddr a = 0)   -- the footer's place (R189)

/-- Slot order within a band (R164): slot of the member block, then sheet, then quarter. -/
def State.slotOrder (s : State) (e : Ent) : Nat :=
  let planes := ((s.profileOf (e.addr / 2 ^ 25)).map Profile.planes).getD 1
  ((s.pageOfAddr e.addr * planes + s.planeOfAddr e.addr) * 16 + dieSheet (e.addr / 2 ^ 25)) * 4 + e.quarter

/-- The valid IU of a band that comes first in slot order. -/
def State.nextValid (s : State) (b : Nat) : Option Nat :=
  (s.atl.ent.foldl (fun (m : Option (Nat × Nat)) e =>
    if e.2.st = .mapped ∧ (s.segOf (segOfIu e.1)).discarded = false ∧ s.bandOfAddr e.2.addr = b then
      match m with
      | none => some (e.1, s.slotOrder e.2)
      | some y => if s.slotOrder e.2 < y.2 then some (e.1, s.slotOrder e.2) else some y
    else m) none).map Prod.fst

/-- The read of a relocation (R164, R202): the page itself, or W − 2 members of its row where its die cannot be read, is in a closed window,
or its position is an erasure; none where too few are left. -/
def State.relocRead (s : State) (addr : Nat) : Option State :=
  let b := s.bandOfAddr addr
  let row := s.pageOfAddr addr
  let d := addr / 2 ^ 25
  if s.dieLive d && !s.unreadable b row (dieSheet d) && (s.closedUntil d s.now).isNone then some (s.countReads b (dieSheet d) 1)
  else
    let n := s.rowWidth b row - 2
    let l := s.survivors b row d
    if l.length < n then none else some ((l.take n).foldl (fun s k => s.countReads b (dieSheet k) 1) s)

/-- The erased positions of a row (R196). -/
def State.erasedOf (s : State) (b row : Nat) : List Nat := (List.range 16).filter (s.isErasure b row)

end Sys2Proof.Machine
end

