-- ==== Sys2Proof/Machine/AtlasCmds.lean ====
section
/-! DEFINITION. The Atlas map's commands (chapter 4, R113 to R150): lookups and updates, the directory and its messages, the
journal, checkpoints, sweeps and recovery. -/

set_option linter.unusedVariables false

namespace Sys2Proof.Machine

/-! ### Lookups and updates -/

/-- ATLAS_LOOKUP (R115, R118, R123, R124): the engine that serves the segment obtains it and answers the entry as it stands; entries beyond
the capacity read UNMAPPED, and so does one of a DISCARDED segment, which is not loaded; no answer while the map is not ready or the
segment is recovered. -/
def execAtlasLookup (pool iu : Nat) (s : State) : Res :=
  match s.poolOf pool with
  | none => .next s
  | some p =>
    let key := iuKey pool iu
    let k := segOfIu key
    if !s.atl.mapReady ∨ s.inRecovery key then .next (s.emit (.answer 0x040 []))
    else if p.segs * 819 ≤ iu then .next (s.emit (.answer 0x040 [0]))
    else
      let t := if (s.segOf k).discarded then s else s.obtain k (s.steer k)
      .next (t.emit (.answer 0x040 [(s.lookup key).word]))

/-- An IU that exists. -/
def State.iuExists (s : State) (pool iu : Nat) : Bool := ((s.poolOf pool).map (fun p => decide (iu < p.segs * 819))).getD false

/-- The commands that a passed program lets go on (R85, R372). -/
def State.afterProgram (s : State) (a : Nat) : State :=
  let before := s.cmds
  ((s.programPassed a).fuaDone before).wakeWaiters

/-- One update that waited is applied by the engine that holds its segment now (R126, R148). -/
def State.applyUpd (s : State) (u : QUpd) : State :=
  match u.kind with
  | 0 => s.putAll u.a u.items
  | 1 => (s.programDone u.key u.a u.b u.epoch).afterProgram u.a
  | 2 => s.relocateEnt u.key u.a u.b u.epoch
  | _ => s.discardNow u.key

/-- Updates that waited are tried again, in order of arrival; those that cannot be applied yet wait on (R126). Commands all of whose updates
have been applied complete. -/
def State.retryUpds (s : State) : State :=
  if s.atl.queued.isEmpty then s
  else
    let l := s.atl.queued
    let s := { s with atl := { s.atl with queued := [] } }
    (l.foldl (fun (s : State) u =>
      if u.kind = 3 then (if s.segWaits u.key then s.queueUpd u else s.applyUpd u)
      else match s.readySegs u.segs with
        | some t => t.applyUpd u
        | none => s.queueUpd u) s).segsBack

/-- PROGRAM_DONE (Table 04-4, R156): the program of staging slot `slot` at `addr` (its low 36 bits the address, the quarter above), a data
position of a HOST band, has passed. -/
def execProgramDone (pool iu slot addr : Nat) (s : State) : Res :=
  let key := iuKey pool iu
  let ep := s.dataEpoch addr
  if !s.iuExists pool iu || !s.dataIn addr 0 then .next s
  else match s.readySegs [segOfIu key] with
    | some t => .next ((t.programDone key slot addr ep).afterProgram slot)
    | none => .next (s.queueUpd ⟨1, key, slot, addr, [], ep⟩)

/-- RELOCATE (Table 04-4, R156): addresses as PROGRAM_DONE gives them; the new one is a data position of a RELOC band. -/
def execRelocate (pool iu old new : Nat) (s : State) : Res :=
  if s.iuExists pool iu && s.dataIn new 1 then .next (s.relocate (iuKey pool iu) old new) else .next s

/-- DISCARD (Table 04-4). -/
def execDiscard (pool iu : Nat) (s : State) : Res :=
  if s.iuExists pool iu then .next (s.discardRanges [] [iuKey pool iu]) else .next s

/-- POISON (Table 04-4). -/
def execPoison (pool iu reason : Nat) (s : State) : Res :=
  if s.iuExists pool iu then .next (s.poisonIu (iuKey pool iu) (reason % 16)) else .next s

/-! ### The directory and the engines (R117 to R122) -/

/-- The segment is in the engine's cache. -/
def AtlEng.heldSeg (g : AtlEng) (k : Nat) : Option Held := g.held.find? (fun h => decide (h.seg = k))
/-- The segment is in one of its eviction buffers. -/
def AtlEng.bufSeg (g : AtlEng) (k : Nat) : Option Evict := g.bufs.find? (fun b => decide (b.seg = k))

/-- GET (Table 04-3). `seg` is pool × 2^32 + segment. It comes from the engine that serves the segment, or from the one that serves the
segment below it, for an atomic write over both (R118, R143, R152), and only while that engine has room for the segment (R117). Requests
for a segment with a snoop pending wait in order of arrival. -/
def execSegGet (seg requester : Nat) (s : State) : Res :=
  if 16 ≤ requester ∨ s.fenced 0x040 requester ∨ (requester ≠ s.steer seg ∧ (seg % 2 ^ 32 = 0 ∨ requester ≠ s.steer (seg - 1)))
      ∨ 128 ≤ s.grantedTo requester then .next s
  else
    let ask := { s with atl := { s.atl with snoops := s.atl.snoops ++ [(seg, requester)] } }
    match s.dirOf seg with
    | .uncached => .next (s.setDir seg (.held requester))
    | .held h => if h = requester ∧ (s.snoopOf seg).isNone then .next s else .next ask
    | .evicting _ => .next ask

/-- SNOOP (Table 04-3): the holder drops its copy and sends it with its DIRTY mark, or its eviction buffer answers DIRTY. -/
def execSnoop (holder seg requester : Nat) (s : State) : Res :=
  let g := s.atlEng holder
  if s.snoopOf seg ≠ some requester then .next s
  else match g.heldSeg seg with
  | some h =>
    .next ((s.setAtlEng holder { g with held := g.held.filter (fun x => decide (x.seg ≠ seg)) }).emit (.answer 0x040 [seg, requester, b2n h.dirty]))
  | none => match g.bufSeg seg with
    | some _ => .next (s.emit (.answer 0x040 [seg, requester, 1]))
    | none => .next s

/-- SEGMENT_RECEIVED (R118): the requester installs the segment with its DIRTY mark. -/
def execSegmentReceived (engine seg : Nat) (dirty : Bool) (s : State) : Res :=
  let g := s.atlEng engine
  if s.snoopOf seg ≠ some engine ∨ (g.heldSeg seg).isSome ∨ 128 ≤ g.held.length then .next s
  else .next (s.setAtlEng engine { g with held := g.held ++ [⟨seg, dirty, s.now⟩] })

/-- SNOOP_DONE (Table 04-3, R119): the requester is the holder; an eviction buffer whose ACK has come retires. -/
def execSnoopDone (seg requester : Nat) (s : State) : Res :=
  if s.snoopOf seg ≠ some requester then .next s
  else
    let was := s.dirOf seg
    let s := { s with atl := { s.atl with snoops := s.atl.snoops.erase (seg, requester) } }
    let s := s.setDir seg (.held requester)
    match was with
    | .evicting h =>
      let g := s.atlEng h
      .next (s.setAtlEng h { g with bufs := g.bufs.filter (fun b => !(decide (b.seg = seg) && b.acked)) }).retryUpds
    | _ => .next s.retryUpds

/-- SEGMENT_EVICT (R119, R121). -/
def execSegmentEvict (engine seg : Nat) (s : State) : Res :=
  let g := s.atlEng engine
  match g.heldSeg seg with
  | none => .next s
  | some h =>
    if 4 ≤ g.bufs.length ∨ (s.wbPending seg).isSome ∨ s.dirOf seg ≠ .held engine then .next s
    else
      let s := s.setAtlEng engine { held := g.held.filter (fun x => decide (x.seg ≠ seg)), bufs := g.bufs ++ [⟨seg, h.dirty, false, false⟩] }
      .next (if h.dirty then s.startWb engine seg else s)

/-- EVICT_NOTICE (R119, R120): EVICTING, a pending snoop staying pending. -/
def execEvictNotice (engine seg : Nat) (s : State) : Res :=
  if ((s.atlEng engine).bufSeg seg).isSome ∧ s.dirOf seg = .held engine then .next (s.setDir seg (.evicting engine)) else .next s

/-- SEGMENT_WRITEBACK_COMPLETE (R115, R116, R119): the DRAM copy holds what the write started with, as of WB_SEQ; SEG_GEN rises.
The image goes to the segment's DRAM channel and address. -/
def execSegmentWritebackComplete (engine seg : Nat) (s : State) : Res :=
  match s.atl.writes.find? (fun w => decide (w.seg = seg ∧ w.eng = engine) && !w.done) with
  | none => .next s
  | some w =>
    let x := s.segOf seg
    let s := s.setSeg seg { x with gen := x.gen + 1, wbSeq := w.seq }
    let s := { s with atl := { s.atl with copy := replaceSeg s.atl.copy seg w.image } }
    let s := s.emit (.answer 0x070 ([s.segChan seg, s.segAddr seg] ++ segImage seg (x.gen + 1) w.image))
    let g := s.atlEng engine
    let s := s.setAtlEng engine { g with bufs := g.bufs.map (fun (b : Evict) => if b.seg = seg then { b with written := true } else b) }
    .next { s with atl := { s.atl with writes := s.atl.writes.map (fun (v : WBack) =>
      if v.seg = seg ∧ v.eng = engine then { v with done := true } else v) } }

/-- The buffer of a segment retires. -/
def State.retireBuf (s : State) (engine seg : Nat) : State :=
  let g := s.atlEng engine
  s.setAtlEng engine { g with bufs := g.bufs.filter (fun b => decide (b.seg ≠ seg)) }

/-- EVICT_ACK (R119, R122). -/
def execEvictAck (engine seg : Nat) (s : State) : Res :=
  let g := s.atlEng engine
  let mine := s.atl.writes.find? (fun w => decide (w.seg = seg ∧ w.eng = engine))
  let clear := fun (s : State) => { s with atl := { s.atl with writes := s.atl.writes.filter (fun w => !decide (w.seg = seg ∧ w.eng = engine)) } }
  match g.bufSeg seg with
  | some b =>
    if b.dirty && !b.written then .next s
    else
      let s := clear s
      if s.dirOf seg = .evicting engine then
        if (s.snoopOf seg).isSome then
          .next (s.setAtlEng engine { g with bufs := g.bufs.map (fun (x : Evict) => if x.seg = seg then { x with acked := true } else x) })
        else .next ((s.retireBuf engine seg).setDir seg .uncached).retryUpds
      else if s.dirOf seg = .held engine ∧ (s.snoopOf seg).isNone ∧ (g.heldSeg seg).isNone then .next s
      else .next (s.retireBuf engine seg).retryUpds
  | none => match mine with
    | some w =>
      if !w.done then .next s
      else
        let s := clear s
        .next (s.setAtlEng engine { g with held := g.held.map (fun (h : Held) =>
          if h.seg = seg then { h with dirty := w.redirtied, since := if w.redirtied then s.now else h.since } else h) }).retryUpds
    | none => .next s

/-- SEGMENT_LOAD_COMPLETE (R114, R116, R118). -/
def execSegmentLoadComplete (engine seg gen : Nat) (valid : Bool) (s : State) : Res :=
  let g := s.atlEng engine
  if s.dirOf seg ≠ .held engine ∨ (g.heldSeg seg).isSome ∨ 128 ≤ g.held.length then .next s
  else if gen % 256 ≠ (s.segOf seg).gen % 256 then .next (s.segBad engine seg F.ATL_EVENTS_SEG_UE)
  else if !valid then .next (s.segBad engine seg F.ATL_EVENTS_STATE_INVALID)
  else .next (s.setAtlEng engine { g with held := g.held ++ [⟨seg, false, 0⟩] })

/-- DIRTY_MAX_EXPIRY (R121, R122): a write-back while the segment stays HELD. -/
def execDirtyMaxExpiry (engine seg : Nat) (s : State) : Res :=
  match (s.atlEng engine).heldSeg seg with
  | some h => if h.dirty && (s.wbPending seg).isNone then .next (s.startWb engine seg) else .next s
  | none => .next s

/-! ### Assembly, journal, checkpoints, sweep (R133, R139, R144, R145) -/

/-- ASSEMBLY_WINDOW_END (R133, R135). -/
def execAssemblyWindowEnd (slot : Nat) (readOk : Bool) (s : State) : Res :=
  match s.atl.asm.find? (fun a => decide (a.slot = slot)) with
  | some a => .next (s.fillAsm a readOk)
  | none => .next s

/-- A MAP band is OPEN (R156). -/
def State.mapOpen (s : State) : Bool := s.svy.band.any (fun e => decide (e.2.cls = 2 ∧ e.2.st = .opened))

/-- The oldest records of a tail that fill `left` lines: (spilled, kept), oldest first. -/
def takeLines : Nat → List JRec → List JRec × List JRec
  | _, [] => ([], [])
  | left, r :: rest =>
    if left < r.lines then ([], r :: rest)
    else let q := takeLines (left - r.lines) rest
      (r :: q.1, q.2)

/-- JOURNAL_BLOCK_SPILL (R144): a filled 1 MiB block, 65,536 lines, of the oldest records goes to map bands; the command stands for the
whole spill with its programs, to the OPEN MAP band (R156). The block keeps its place in the ring while a record of it is not older than DIRTY_MAX_MS. -/
def execJournalBlockSpill (s : State) : Res :=
  if s.unspilled < 2 ^ 20 ∨ s.mapOpen = false then .next s
  else
    let q := takeLines 65536 s.atl.tail.reverse
    .next (({ s with atl := { s.atl with tail := q.2.reverse } } : State).spill q.1).freeParked

/-- The segments of the map in order: pools rising. -/
def State.allSegs (s : State) : List (Nat × Nat) :=
  s.atl.pools.filterMap (fun e => e.2.map (fun p => (e.1, p.segs)))

/-- The n-th segment of the map. -/
def nthSeg : List (Nat × Nat) → Nat → Option Nat
  | [], _ => none
  | (p, n) :: rest, k => if k < n then some (p * 2 ^ 32 + k) else nthSeg rest (k - n)

/-- CHECKPOINT_COPY (R145, R156): the next segment of the pass, at a recorded JSEQ, to a data position of a MAP band; `location` is a map
address (Table 04-2). -/
def execCheckpointCopy (location : Nat) (s : State) : Res :=
  match nthSeg s.allSegs s.atl.ckptNext with
  | none => .next { s with atl := { s.atl with ckptNext := 0, ckptAt := s.now, ckptBehind := false } }
  | some k =>
    if s.dataIn location 2 = false then .next s
    else
    let s := s.setSeg k { s.segOf k with ckptSeq := s.atl.jseq, ckptAt := location }
    let s := { s with atl := { s.atl with durable := replaceSeg s.atl.durable k (s.segEnts k) } }
    let s := s.journal 0x05 (k / 2 ^ 32) (k % 2 ^ 32) location []
    let n := s.atl.ckptNext + 1
    if (nthSeg s.allSegs n).isNone then
      let s := s.mapPass
      .next { s with atl := { s.atl with ckptNext := 0, ckptAt := s.now, ckptBehind := false } }
    else .next { s with atl := { s.atl with ckptNext := n } }

/-- CKPT_PASS_OVERRUN (R145). -/
def execCkptPassOverrun (s : State) : Res :=
  .next ({ s with atl := { s.atl with ckptBehind := true } }.event F.ATL_EVENTS_CKPT_LATE 0 0)

/-- DISCARD_SWEEP (R139). -/
def execDiscardSweep (pool seg : Nat) (s : State) : Res :=
  let k := pool * 2 ^ 32 + seg
  if (s.segOf k).discarded then .next (s.sweepSeg k) else .next s

/-! ### Recovery (R148, R149) -/

/-- The map region in bytes (R150): what DRAM holds over the other regions of Table 01-8, at most 320 GiB. -/
def State.mapRegion (s : State) : Nat := min 320 (s.dramGib - 28) * 2 ^ 30

/-- Map bytes a pool takes on each channel of its mask. -/
def Pool.perChan (p : Pool) : Nat := ceilDiv (p.segs * 4096) (max 1 (chanList p.mask).length)

/-- Segments of a pool that its mask's rotation puts on channel `c`, and those a rebuild took from or put on it (R149). -/
def State.poolSegsOn (s : State) (p : Nat) (x : Pool) (c : Nat) : Nat :=
  let l := chanList x.mask
  let n := max 1 l.length
  let at_ := l.findIdx (fun k => decide (k = c))
  let first := if at_ < l.length then (x.segs + n - 1 - at_) / n else 0
  let moved := s.atl.seg.filter (fun e => decide (e.1 / 2 ^ 32 = p ∧ e.2.chan ≠ 0))
  first + (moved.filter (fun e => decide (e.2.chan = c + 1))).length
    - (moved.filter (fun e => decide (l.getD (e.1 % 2 ^ 32 % n) 12 = c))).length

/-- Segments the map region holds on a channel: the region's segments dealt over the twelve channels in rotation, as a pool's are (DESIGN
CHOICE, log entry 76: R150 gives the total only). -/
def State.mapSegsOn (s : State) (c : Nat) : Nat :=
  let n := s.mapRegion / 4096
  n / 12 + b2n (decide (c < n % 12))

/-- Segments that the pools have on a channel. -/
def State.usedSegsOn (s : State) (c : Nat) : Nat :=
  s.atl.pools.foldl (fun n e => match e.2 with
    | some p => n + s.poolSegsOn e.1 p c
    | none => n) 0

/-- Free map space, in segments, on the channels of a list that are not fenced (R112). -/
def State.freeSegs (s : State) (l : List Nat) : Nat :=
  let l := l.filter (fun c => !s.fenced 0x070 c)
  (l.map s.mapSegsOn).sum - (l.map s.usedSegsOn).sum

/-- A channel to rebuild a lost segment on (R149): a surviving one of the pool's mask, else any; the lowest-numbered with space (DESIGN
CHOICE, log entry 50: the rule does not say which). -/
def State.rebuildChan (s : State) (k : Nat) : Option Nat :=
  let m := ((s.poolOf (k / 2 ^ 32)).map Pool.mask).getD 0
  match (chanList m).find? (fun c => decide (0 < s.freeSegs [c])) with
  | some c => some c
  | none => (List.range 12).find? (fun c => decide (0 < s.freeSegs [c]))

/-- What recovery makes of a segment (R148): its DRAM copy with the records newer than WB_SEQ, or its checkpoint copy with the spilled and
tail records newer than CKPT_SEQ. A DISCARDED segment is all UNMAPPED already; its old image waits for the sweep. -/
def State.recoverSeg (s : State) (k : Nat) (fromDram : Bool) : State :=
  let x := s.segOf k
  if x.discarded then s
  else
    let base := (if fromDram then s.atl.copy else s.atl.durable).filter (fun e => decide (segOfIu e.1 = k))
    let from_ := if fromDram then x.wbSeq else x.ckptSeq
    let recs := (s.atl.spilled.reverse ++ s.atl.tail.reverse).filter (fun r => decide (from_ < r.seq))
    let m := (recs.foldl (fun m r => r.apply (fun _ => 0) m) base).filter (fun e => decide (segOfIu e.1 = k))
    { s with atl := { s.atl with ent := replaceSeg s.atl.ent k m } }

/-- The map of a namespace is whole: no segment of its pool is lost. -/
def State.nsWhole (s : State) (nsid : Nat) : Bool :=
  ((s.nsOf nsid).map (fun x => !s.atl.segLost.any (fun k => decide (k / 2 ^ 32 = x.pool)))).getD true

/-- A suspension ends when the map of every namespace it affects is rebuilt (Table 02-7), with its record (R55). -/
def State.endSuspension (s : State) : State :=
  let done_ := s.fenceSuspensions.filter (fun n => s.atl.suspended.all (fun e => decide (e.2 ≠ n) || s.nsWhole e.1))
  done_.foldl (fun s n =>
    ({ s with atl := { s.atl with suspended := s.atl.suspended.filter (fun e => decide (e.2 ≠ n)) } } : State).suspRecord false 5 (s.suspFirst n)) s

/-- SEGMENT_RECOVERY (R148, R149): the segment is whole again from its DRAM copy (`fromDram`) or, where that is unusable, its checkpoint copy,
and the newer records; a lost one needs map space on a surviving channel, and without it MAP_NOSPACE is recorded, naming the segment's first
IU (DESIGN CHOICE, log entry 75: Table 19-5 asks for an IU index and R149 names none). -/
def execSegmentRecovery (pool seg : Nat) (fromDram : Bool) (s : State) : Res :=
  let k := pool * 2 ^ 32 + seg
  if !s.atl.recovering.contains k then .next s
  else
    let lost := s.atl.segLost.contains k
    match (if lost then s.rebuildChan k else some 0) with
    | none => .next (s.record 0x040 0 0 0x000E (seg * 819 + pool * 2 ^ 40 + 2 * 2 ^ 45))
    | some c =>
      let s := s.recoverSeg k (fromDram && !lost)
      let s := if lost then s.setSeg k { s.segOf k with chan := c + 1 } else s
      let s := { s with atl := { s.atl with recovering := s.atl.recovering.filter (fun j => decide (j ≠ k)),
                                            segLost := s.atl.segLost.filter (fun j => decide (j ≠ k)) } }
      let s := s.retryUpds.event F.ATL_EVENTS_RECOVERY_DONE 0 (seg % 2 ^ 32)
      .next (s.offerWaiting.endSuspension)

end Sys2Proof.Machine
end

