-- ==== Sys2Proof/Machine/Bays.lean ====
section
/-! DEFINITION. The commands of chapter 10 and the mailbox group 0x05xx: sheet bays. -/

set_option linter.unusedVariables false

namespace Sys2Proof.Machine

/-- PRESENCE_EDGE (R301): SHB_PRSNT_N changes level; the debounce starts, or is abandoned. -/
def execPresenceEdge (bay : Nat) (present : Bool) (s : State) : Res :=
  if 16 ≤ bay ∨ s.soldered then .next s
  else
    let x := s.bay bay
    let s := s.setBay bay { x with level := present, edgeAt := if present = x.present then none else some s.now }
    if !s.baysAct then .next s
    else if present ∧ x.st = .empty then .next (s.toBay bay .debounce)
    else if !present ∧ x.st = .debounce then .next (s.toBay bay .empty)
    else .next s

/-- PRESENCE_DEBOUNCED (R301, Table 10-4): the level has held 100 ms. -/
def execPresenceDebounced (bay : Nat) (s : State) : Res :=
  if 16 ≤ bay ∨ s.soldered ∨ (s.baysAct = false ∧ s.pwr.mode ≠ .holdup) ∨ (s.bay bay).level = (s.bay bay).present then .next s
  else .next (s.presenceAct bay)

/-- BUTTON_PRESS (R301, R314 to R317): BUTTON is latched; in DORMANT and HOLDUP the press waits. -/
def execButtonPress (bay : Nat) (s : State) : Res :=
  if 16 ≤ bay ∨ s.soldered then .next s
  else
    let s := s.setFld F.SHB_BAY_BUTTON bay 1
    if s.baysAct then .next (s.pressAct bay) else .next (s.setBay bay { s.bay bay with press := true })

/-- BAY_POWER_START (R303, Table 10-4): the lowest bay waiting, with no other in POWERING, in SERVICE or DEGRADED or at start-up. -/
def execBayPowerStart (bay : Nat) (s : State) : Res :=
  let ok := if s.start.running then decide (8 ≤ s.start.step ∧ s.pwr.mode ≠ .holdup ∧ s.pwr.mode ≠ .stopped) else decide (s.pwr.mode = .service ∨ s.pwr.mode = .degraded)
  if 16 ≤ bay ∨ s.soldered ∨ ok = false ∨ (s.bay bay).st ≠ .waitPower ∨ s.bays.any (fun e => decide (e.2.st = .powering)) = true
      ∨ s.bays.any (fun e => decide (e.1 < bay ∧ e.2.st = .waitPower)) = true then .next s
  else
    let s := s.toBay bay .powering
    .next (if (s.bay bay).pwrGood then s.toBay bay .identify else s)

/-- PWRGD_RISE (R302, R309). -/
def execPwrgdRise (bay : Nat) (s : State) : Res :=
  if 16 ≤ bay ∨ s.soldered then .next s
  else
    let s := s.setBay bay { s.bay bay with pwrGood := true }
    if (s.bay bay).st = .powering then .next (s.toBay bay .identify) else .next s

/-- PWRGD_TIMEOUT (R302). -/
def execPwrgdTimeout (bay : Nat) (s : State) : Res :=
  let x := s.bay bay
  if 16 ≤ bay ∨ x.st ≠ .powering ∨ x.pwrGood then .next s
  else .next ((s.toBay bay .rejected).event F.SHB_EVENTS_PG_FAIL bay 0)

/-- PWRGD_FALL (R316, R318): the end of a power-off, or power lost without being asked. -/
def execPwrgdFall (bay : Nat) (s : State) : Res :=
  if 16 ≤ bay ∨ s.soldered then .next s
  else
    let s := s.setBay bay { s.bay bay with pwrGood := false }
    match (s.bay bay).st with
    | .poweringOff =>
      let s := ((s.toBay bay .off).membersGone bay).diesOff bay
      let s := { s with par := { s.par with present := maskClear s.par.present bay } }
      .next ((s.event F.SHB_EVENTS_REMOVED bay 0).endRemoval bay)
    | .offered | .abortWindow | .evacuating => .next ((s.event F.SHB_EVENTS_PG_FAIL bay 0).sheetLost bay)
    | .powering | .identify | .discover | .held => .next (s.event F.SHB_EVENTS_PG_FAIL bay 0)
    | _ => .next s

/-- The identity check (R310, Table 10-6). -/
def identityOk (record : List Nat) : Bool :=
  decide (record.length = 256) && decide (le record 252 4 = crc32 (record.take 252))
    && decide (record.take 4 = [0x4B, 0x53, 0x48, 0x31]) && decide (record.getD 4 0 = 1) && decide (record.getD 5 0 = 8)

/-- IDENTITY_CHECK (R310). -/
def execIdentityCheck (bay : Nat) (answered : Bool) (record : List Nat) (s : State) : Res :=
  if 16 ≤ bay ∨ (s.bay bay).st ≠ .identify then .next s
  else if answered && identityOk record then .next ((s.setBay bay { s.bay bay with id := record }).toBay bay .discover)
  else .next ((s.toBay bay .rejected).event F.SHB_EVENTS_ID_FAIL bay 0)

/-- Dies of a sheet present and trained. -/
def State.trainedDies (s : State) (b : Nat) : Nat :=
  ((sheetDies b).filter (fun d => s.dieLive d && (s.chan (dieChan d)).trained)).length

/-- BAY_DISCOVERY_END (R309 step 5). -/
def execBayDiscoveryEnd (bay : Nat) (s : State) : Res :=
  if 16 ≤ bay ∨ (s.bay bay).st ≠ .discover then .next s
  else
    let n := s.trainedDies bay
    if n = 0 then .next ((s.toBay bay .rejected).event F.SHB_EVENTS_NO_DIES bay 0)
    else
      let s := s.toBay bay .held
      .next (s.setBay bay { s.bay bay with idValid := true, dies := n })

/-- The sheet of a bay becomes usable (R215): the layout changes. -/
def State.sheetIn (s : State) (b : Nat) : State :=
  let s := { s with par := { s.par with present := maskSet s.par.present b, usable := maskSet s.par.usable b } }
  s.layoutStep.recheck

/-- SERIAL of the sheet in a bay (Table 10-6). -/
def State.serialOf (s : State) (b : Nat) : List Nat := ((s.bay b).id.drop 8).take 16

/-- The layout record's SERIAL for a bay (R668). -/
def State.recorded (s : State) (b : Nat) : Option (List Nat) := (s.par.serials.find? (fun e => decide (e.1 = b))).map Prod.snd

/-- A sheet of the layout record that start-up does not find (R668, Table 10-7) is a surprise removal. -/
def State.recordedGone (s : State) (b : Nat) : State :=
  let s := if s.par.evac = some b then { s with par := { s.par with evac := none } } else s
  ((s.event F.SHB_EVENTS_SURPRISE b 0).membersGone b).sheetGone b

/-- The sheet of a bay joins the layout (R215), or at start-up takes its old place in it without a change (R668). -/
def State.joinSheet (s : State) (b : Nat) : State :=
  match s.start.running, s.recorded b with
  | true, some x =>
    if x = s.serialOf b then
      let s := { s with par := { s.par with present := maskSet s.par.present b, usable := maskSet s.par.usable b } }
      -- a die of it found absent changes the layout (R205)
      if (List.range 128).any (fun g => maskBit (tabGet (fun _ => 0) s.par.groups g) b && !maskBit (s.groupSheets g) b) then
        (s.rebuildAfter (fun d => decide (dieSheet d = b) && !s.dieLive d) (2 ^ b)).layoutStep
      else s
    else (((s.recordedGone b).event F.SHB_EVENTS_INSERTED b 0).sheetIn b)
  | _, _ => (s.event F.SHB_EVENTS_INSERTED b 0).sheetIn b

/-- The offer of a HELD bay (R312): waits while any bay is in ABORT_WINDOW or EVACUATING. A sheet whose evacuation a HOLDUP cut short
goes on to EVACUATING (Table 10-7). -/
def State.offerBay (s : State) (b : Nat) : State :=
  let x := s.bay b
  let busy := s.bays.any (fun e => decide (e.2.st = .abortWindow) || decide (e.2.st = .evacuating))
  if x.st ≠ .held ∨ busy = true ∨ (s.fld F.SHB_CFG_AUTO_OFFER 0 = 0 ∧ x.offer = false) then s
  else
    let s := s.setBay b { x with offer := false }
    if s.par.evac = some b then
      let p := { s.par with present := maskSet s.par.present b }
      { (s.toBay b .evacuating) with par := p }
    else (s.toBay b .offered).joinSheet b

/-- BAY_OFFER (R312, R215). -/
def execBayOffer (bay : Nat) (s : State) : Res := if 16 ≤ bay then .next s else .next (s.offerBay bay)

/-- ABORT_WINDOW_EXPIRY (R316). -/
def execAbortWindowExpiry (bay : Nat) (s : State) : Res :=
  if 16 ≤ bay ∨ (s.bay bay).st ≠ .abortWindow then .next s
  else
    let s := s.toBay bay .evacuating
    .next { s with par := { s.par with evac := some bay } }

/-- REFUSAL_BLINK_END (R315). -/
def execRefusalBlinkEnd (bay : Nat) (s : State) : Res :=
  let x := s.bay bay
  if 16 ≤ bay ∨ x.blinkEnd.isNone then .next s
  else .next (s.setBay bay { x with blinkEnd := none, attn := x.st.attn })

/-! ### Mailbox group 0x05xx (R414, R419) -/

/-- SHEET_STATUS (0x0501). -/
def execSheetStatus (q : MbxReq) (s : State) : Res :=
  .next (s.serve q ⟨0x0501, 1, false, 0, 0, false⟩ (fun s =>
    s.respond q 0x0501 Ms.success false ((List.range 16).flatMap (fun b => bytesLe 4 (s.shbWord b).toNat))))

/-- SHEET_OFFER (0x0502). -/
def execSheetOffer (q : MbxReq) (s : State) : Res :=
  .next (s.serve q ⟨0x0502, 1, false, 1, 1, false⟩ (fun s =>
    let b := le q.payload 0 1
    if s.soldered then s.refuse q 0x0502 Ms.soldered
    else if 16 ≤ b then s.refuse q 0x0502 Ms.invalidField
    else if (s.bay b).st ≠ .held then s.refuse q 0x0502 Ms.notOfferable
    else ((s.setBay b { s.bay b with offer := true }).offerBay b).respond q 0x0502 Ms.success false []))

/-- SHEET_REMOVE (0x0503, R314 to R316, R419). -/
def execSheetRemove (q : MbxReq) (s : State) : Res :=
  .next (s.serve q ⟨0x0503, 2, false, 1, 1, true⟩ (fun s =>
    let b := le q.payload 0 1
    if s.soldered then s.refuse q 0x0503 Ms.soldered
    else if 16 ≤ b then s.refuse q 0x0503 Ms.invalidField
    else match s.removeReason b with
      | some 4 => s.respond q 0x0503 Ms.removeRefused false [4]
      | some k => (if (s.bay b).st = .offered then s.refuseRemoval b else s).respond q 0x0503 Ms.removeRefused false [k]
      | none =>
        let s := s.toService
        let r := s.startLong q 0x0503 [0]
        let s := r.2.toBay b .abortWindow
        s.setBay b { s.bay b with handle := some r.1 }))

/-- SHEET_ABORT (0x0504, R316). -/
def execSheetAbort (q : MbxReq) (s : State) : Res :=
  .next (s.serve q ⟨0x0504, 1, false, 1, 1, false⟩ (fun s =>
    let b := le q.payload 0 1
    if s.soldered then s.refuse q 0x0504 Ms.soldered
    else if 16 ≤ b then s.refuse q 0x0504 Ms.invalidField
    else if (s.bay b).st ≠ .abortWindow then s.refuse q 0x0504 Ms.noWindow
    else (s.abortRemoval b).respond q 0x0504 Ms.success false []))

/-- SHEET_IDENTITY (0x0505). -/
def execSheetIdentity (q : MbxReq) (s : State) : Res :=
  .next (s.serve q ⟨0x0505, 1, false, 1, 1, false⟩ (fun s =>
    let b := le q.payload 0 1
    if 16 ≤ b then s.refuse q 0x0505 Ms.invalidField
    else s.respond q 0x0505 Ms.success false (if (s.bay b).idValid then (s.bay b).id else zeros 256)))

end Sys2Proof.Machine
end

