-- ==== Sys2Proof/Machine/OpsPor.lean ====
section
/-! DEFINITION. The Portolan store as bytes: structure copies under R584, the die profile records (R231 to R233, R286). -/

set_option linter.unusedVariables false

namespace Sys2Proof.Machine

/-- Bytes put into the store. -/
def State.storePut (s : State) (a : Nat) (l : List Nat) : State :=
  { s with por := { s.por with store := (List.range l.length).foldl (fun t k =>
      tabSet (fun _ => 0xFF#8) t (a + k) (BitVec.ofNat 8 (l.getD k 0))) s.por.store } }
/-- Bytes erased. -/
def State.storeErase (s : State) (a n : Nat) : State :=
  { s with por := { s.por with store := s.por.store.filter (fun e => decide (e.1 < a ∨ a + n ≤ e.1)) } }

/-- Erase endurance of a sector (Table 20-1). -/
def endurance (sector : Nat) : Nat := if sector < 0x3400 then 100000 else 1000000

/-- A sector is worn (R585): it is remapped to a spare, or stays in use. -/
def State.wearOut (s : State) (sector : Nat) (full : Bool) : State :=
  if s.por.spares = 0 then if full then s.event F.POR_EVENTS_WORN 0 sector else s
  else
    let p := s.por
    ({ s with por := { p with spares := p.spares - 1, erases := tabSet (fun _ => 0) p.erases sector 0,
                              remap := (sector, 512 - p.spares) :: p.remap.filter (fun e => decide (e.1 ≠ sector)) } } : State).event
      F.POR_EVENTS_REMAPPED 0 sector

/-- An erase counts, and a sector at 90% of its endurance is remapped (R585). -/
def State.wear (s : State) (sector : Nat) : State :=
  let n := tabGet (fun _ => 0) s.por.erases sector + 1
  let s := { s with por := { s.por with erases := tabSet (fun _ => 0) s.por.erases sector n } }
  if endurance sector * 9 ≤ n * 10 then s.wearOut sector (decide (endurance sector ≤ n)) else s

/-- A sector erased: its bytes read 0xFF. -/
def State.eraseDone (s : State) (addr : Nat) : State :=
  let s := (s.storeErase (addr / 4096 * 4096) 4096)
  ({ s with por := { s.por with cut := tabSet (fun _ => 0) s.por.cut (addr / 4096) 0 } } : State).wear (addr / 4096)

/-- The sectors of a structure copy erased (R584 rule 2, R585). -/
def State.eraseSectors (s : State) (a n : Nat) : State := (List.range (n / 4096)).foldl (fun (s : State) k => s.eraseDone (a + 4096 * k)) s

/-- The validity word of a committed copy (R584). -/
def committed : Nat := 0xC3A55A3C

/-- A structure copy in the `size` bytes at `a` is valid (R584): committed, its CRC passing. The answer is its SEQ. -/
def State.copySeq (s : State) (a size : Nat) : Option Nat :=
  let len := s.storeLe (a + 8) 4
  if len + 20 ≤ size ∧ s.storeLe (a + size - 4) 4 = committed ∧ s.storeLe (a + 12) 4 = crc32 (s.storeBytes (a + 16) len)
  then some (s.storeLe (a + 4) 4) else none

/-- Copies A and B of the configuration area (Table 20-1). -/
def configA : Nat := 0x03000000
def configB : Nat := 0x03200000

/-- The address of the current copy of a structure of Table 20-2: the valid copy with the higher SEQ modulo 2^32. -/
def State.currentCopy (s : State) (off size : Nat) : Option Nat :=
  match s.copySeq (configA + off) size, s.copySeq (configB + off) size with
  | some x, some y => some (if (x + 2 ^ 32 - y) % 2 ^ 32 < 2 ^ 31 then configA + off else configB + off)
  | some _, none => some (configA + off)
  | none, some _ => some (configB + off)
  | none, none => none

/-- With one valid copy left of a structure, the other is rewritten from it and REPAIRED sets (R584 rule 5). -/
def State.repairCopy (s : State) (off size : Nat) : State :=
  match s.copySeq (configA + off) size, s.copySeq (configB + off) size with
  | some _, none => ((s.eraseSectors (configB + off) size).storePut (configB + off) (s.storeBytes (configA + off) size)).event F.POR_EVENTS_REPAIRED 0 0
  | none, some _ => ((s.eraseSectors (configA + off) size).storePut (configA + off) (s.storeBytes (configB + off) size)).event F.POR_EVENTS_REPAIRED 0 0
  | _, _ => s

/-- A structure is looked at in start-up (R584 rules 5 and 6): its copies are repaired; an absent one is recorded. -/
def State.checkCopy (s : State) (off size : Nat) : State :=
  let s := s.repairCopy off size
  if (s.currentCopy off size).isSome then s else s.record 0x0E5 0 0 (Config.recordCode 5) off

/-- A structure written (R584): its copies repaired first where only one is valid, then into the copy with the lower SEQ or the invalid one, with SEQ one above the other's. -/
def State.writeCopy (s : State) (off size tag : Nat) (body : List Nat) : State :=
  let s := s.repairCopy off size
  let cur := s.currentCopy off size
  let to_ := if cur = some (configA + off) then configB + off else configA + off
  let seq := (cur.map (fun a => (s.storeLe (a + 4) 4 + 1) % 2 ^ 32)).getD 1
  let s := s.eraseSectors to_ size
  let s := s.storePut to_ (bytesLe 4 tag ++ bytesLe 4 seq ++ bytesLe 4 body.length ++ bytesLe 4 (crc32 body) ++ body)
  s.storePut (to_ + size - 4) (bytesLe 4 committed)

/-- The die profile records: offset, size of the structure, of a record. -/
def profOff : Nat := 0x10000
def profSize : Nat := 0x40000

/-- Record `i` of the configuration area (R231), 512 bytes. -/
def State.profRecord (s : State) (i : Nat) : Option (List Nat) :=
  (s.currentCopy profOff profSize).bind (fun a =>
    if 512 * (i + 1) ≤ s.storeLe (a + 8) 4 then some (s.storeBytes (a + 16 + 512 * i) 512) else none)

/-- Segments of a record (Table 07-4): up to 16 entries, ended by a zero length. -/
def profSegs (r : List Nat) (off : Nat) : Nat → List (Nat × Bool)
  | 0 => []
  | n + 1 =>
    let w := le r off 4
    if w % 2 ^ 31 = 0 then [] else (w % 2 ^ 31, decide (2 ^ 31 ≤ w)) :: profSegs r (off + 4) n

/-- A time of TIMES by place (Table 07-4). -/
def profTime (r : List Nat) (k : Nat) : Nat := le r (56 + 4 * k) 4

/-- The record as a profile. -/
def profileOfRecord (i : Nat) (r : List Nat) : Profile :=
  { record := i, id := le r 4 2, rev := le r 6 2, modes := le r 42 1, maxRate := le r 43 1, bpc := le r 44 1, planes := le r 45 1,
    pages := le r 46 2, blocks := le r 48 4, spare := le r 52 2, tR := profTime r 0, tPROG := profTime r 1, tBERS := profTime r 2,
    tSUSE := profTime r 3, tSUSP := profTime r 4, tRES := profTime r 5,
    minE := if profTime r 6 = 0 then 8000 else profTime r 6, minP := if profTime r 7 = 0 then 4800 else profTime r 7,
    tWAKE := profTime r 8, tZQ := profTime r 9, tRDT := profTime r 10, tWRT := profTime r 11,
    maxSusp := le r 104 1, softReads := le r 105 1, retryLen := le r 106 1, ratedPE := le r 108 4, readLimit := le r 112 4,
    retThr := le r 116 4, progSeg := profSegs r 128 16, eraseSeg := profSegs r 192 16,
    eRead := le r 256 4, eProg := le r 260 4, eErase := le r 264 4, eByte := le r 268 4, iPeak := le r 272 2, iWake := le r 274 2,
    suspP := le r 276 1, resP := le r 277 1, suspE := le r 278 1, resE := le r 279 1, slc := le r 280 1,
    code := le r 284 1, softDelta := le r 285 1,
    sets := (List.range 16).map (fun k => (List.range 4).map (fun j => r.getD (288 + 4 * k + j) 0)) }

/-- Two lengths differ by more than 1/16 µs. -/
def apart (a b : Nat) : Bool := decide (a + 1 < b ∨ b + 1 < a)

/-- The first condition of R233 a record meets, counted from 1 in the rule's order; R286's count as the last. -/
def recordFault (r : List Nat) : Option Nat :=
  let p := profileOfRecord 0 r
  let sum := fun (l : List (Nat × Bool)) => l.foldl (fun n e => n + e.1) 0
  if le r 508 4 ≠ crc32 (r.take 508) ∨ r.take 4 ≠ [0x4B, 0x50, 0x46, 0x31] then some 1
  else if p.modes % 4 = 0 ∨ 4 ≤ p.modes then some 2
  else if p.maxRate = 0 ∨ 0xB < p.maxRate then some 3
  else if 8 < p.maxRate ∧ p.modes / 2 % 2 = 0 then some 4
  else if p.maxRate < 6 ∧ p.modes % 2 = 0 then some 5
  else if le r 40 1 < 1 ∨ 20 < le r 40 1 ∨ p.bpc < 1 ∨ 4 < p.bpc ∨ p.planes < 2 ∨ 6 < p.planes ∨ p.maxSusp < 1
      ∨ p.softReads < 2 ∨ 3 < p.softReads ∨ 16 < p.retryLen then some 6
  else if apart (sum p.progSeg) p.tPROG || apart (sum p.eraseSeg) p.tBERS then some 7
  else if (profTime r 6 ≠ 0 ∧ profTime r 6 < 16) ∨ (profTime r 7 ≠ 0 ∧ profTime r 7 < 16) then some 8
  else if cwBytes p.code = 0 ∨ p.spare ≠ spareOf p.code ∨ p.softDelta = 0 ∨ 127 < p.softDelta
      ∨ (p.softReads = 3 ∧ 63 < p.softDelta)
      ∨ cwBytes p.code * (qUs / rateMTs p.maxRate) + tCA < hardNs p.code * 55440 then some 9
  else none

/-- A list padded with spaces to `n` bytes. -/
def padTo (n : Nat) (l : List Nat) : List Nat := (l ++ List.replicate n 0x20).take n

/-- A record matches a parameter page (R231). -/
def recordMatches (r : List Nat) (t : Target) : Bool :=
  decide ((r.drop 8).take 12 = padTo 12 t.mfr) && decide ((r.drop 20).take (le r 40 1) = (padTo 20 t.model).take (le r 40 1))
    && decide (le r 41 1 = t.jedec % 256)

/-- The records of the configuration area, with their indices. -/
def State.profRecords (s : State) : List (Nat × List Nat) :=
  (List.range 256).filterMap (fun i => (s.profRecord i).map (fun r => (i, r)))

/-- A record position that holds nothing: every byte as erased or zero. -/
def blankRecord (r : List Nat) : Bool := r.all (fun b => decide (b = 0xFF)) || r.all (fun b => decide (b = 0))

/-- A die or bay position's match (R231, R233): invalid records are skipped with a record each; the highest PROFILE_REV wins, the
lowest index on a tie, with one record where several share it. -/
def State.matchProfile (s : State) (chan die : Nat) (t : Target) : State × Option (Nat × Profile) :=
  let all_ := s.profRecords.filter (fun e => !blankRecord e.2)
  let s := all_.foldl (fun (s : State) e => match recordFault e.2 with
    | some k => s.record 0x0A0 chan 0 (Config.recordCode 1) (e.1 + k * 2 ^ 16)
    | none => s) s
  let fit := all_.filter (fun e => (recordFault e.2).isNone && recordMatches e.2 t)
  match fit.foldl (fun (m : Option (Nat × List Nat)) e => match m with
      | none => some e
      | some b => if le b.2 6 2 < le e.2 6 2 then some e else some b) none with
  | none => (s, none)
  | some b =>
    let ties := fit.filter (fun e => decide (le e.2 6 2 = le b.2 6 2 ∧ e.1 ≠ b.1))
    let s := ties.foldl (fun (s : State) e => s.record 0x0A0 chan 0 (Config.recordCode 2) (die + e.1 * 2 ^ 16)) s   -- one for each passed over
    (s, some (b.1, profileOfRecord b.1 b.2))

/-- A profile slot for a record (R231, R232): the slot that holds it, else the first free one of 32. -/
def State.bindSlot (s : State) (i : Nat) (p : Profile) : State × Option Nat :=
  match (List.range 32).find? (fun k => ((s.profSlot k).map (fun x => decide (x.record = i))).getD false) with
  | some k => (s, some k)
  | none => match (List.range 32).find? (fun k => (s.profSlot k).isNone) with
    | some k => ({ s with fch := { s.fch with profile := tabSet (fun _ => none) s.fch.profile k (some p) } }, some k)
    | none => (s, none)

end Sys2Proof.Machine
end

