-- ==== Sys2Proof/Machine/OpsTrv.lean ====
section
/-! DEFINITION. Shared operations of chapters 7 and 8: dies that stop answering, the run timer, requests at boundaries, suspend and
resume, handover, and the T-word: fetch checks, counters, conditions, sequencing. -/

set_option linter.unusedVariables false

namespace Sys2Proof.Machine

/-! ### Dies that stop answering (R239 to R241) -/

/-- The global number of the Traverse engine that owns a die (R16). -/
def State.ownerEng (s : State) (d : Nat) : Nat := 4 * dieChan d + s.owner d

/-- A die is marked absent (R239, R240, R241): fenced at once as a UNIT fault of its channel, the operation in flight failed without
result; the records are held back for 250 ms from the sheet's first mark. -/
def State.dieAbsent (s : State) (d : Nat) : State :=
  let x := s.dieOf d
  if x.absent || !x.present then s
  else
    let c := dieChan d
    let sh := dieSheet d
    let newBit := decide (s.fld F.FCH_EVENTS_DIE_ABSENT c = 0)
    let s := s.setDie d { x with absent := true, ffCount := 0 }
    let s := s.setFld F.FCH_EVENTS_DIE_ABSENT c 1
    let s := if newBit then s.emit (.firmware (irqOf .FCH_EVENTS c)) else s
    let u := s.unit 0x0A0 c
    let s := s.setUnit 0x0A0 c (u.mark .unit 0x0F false)
    let s := (((s.emit (.aer 0 2)).emit (.aer 128 2)).pulse).alert 3
    let k := d + 4096 * b2n newBit
    let hold := match s.fch.absentHold.find? (fun e => decide (e.1 = sh)) with
      | some _ => s.fch.absentHold.map (fun (e : Nat × Nat × List Nat) => if e.1 = sh then (e.1, e.2.1, e.2.2 ++ [k]) else e)
      | none => s.fch.absentHold ++ [(sh, s.now, [k])]
    ({ s with fch := { s.fch with absentHold := hold } }).fenceDie d

/-- The held records of a sheet are written (R241). -/
def State.writeHeld (s : State) (sh : Nat) : State :=
  match s.fch.absentHold.find? (fun e => decide (e.1 = sh)) with
  | none => s
  | some e =>
    let s := { s with fch := { s.fch with absentHold := s.fch.absentHold.filter (fun x => decide (x.1 ≠ sh)) } }
    e.2.2.foldl (fun s k =>
      let d := k % 4096
      let s := if 4096 ≤ k then s.record 0x0A0 (dieChan d) 0 (0x4000 + 32 * (Reg.eventNumber .FCH_EVENTS).getD 0 + 5) d else s
      s.record 0x0A0 (dieChan d) 3 0x100F d) s

/-- A status byte of a die (R239): 0xFF is no answer, the third in a row marks it absent. -/
def State.statusRead (s : State) (d status : Nat) : State :=
  let s := s.setCtx d { s.ctxOf d with lastStatus := status % 256 }
  if status % 256 = 0xFF then
    let s := s.event F.FCH_EVENTS_STATUS_FF (dieChan d) d
    let n := (s.dieOf d).ffCount + 1
    if 3 ≤ n then s.dieAbsent d else s.setDie d { s.dieOf d with ffCount := n }
  else s.setDie d { s.dieOf d with ffCount := 0 }

/-! ### Suspend and resume (R243 to R248, R271, R276) -/

/-- The run timer of a die runs (R245). -/
def State.timerRuns (s : State) (d : Nat) : Bool := decide ((s.dieOf d).runKind ≠ 0)

/-- The timer starts at the last cycle of a resume command (R245), for T_MINRUN of the kind resumed: 1 program, 2 erase. -/
def State.startTimer (s : State) (d k : Nat) : State :=
  let x := s.dieOf d
  let len := 50 * (((s.profileOf d).map (fun p => if k = 2 then p.minE else p.minP)).getD 0)
  s.setDie d { x with runKind := k, runEnd := s.now + len }

/-- The rest of a long operation of a die that has been suspended MAX_SUSPENDS times counts as not suspendable (R246). -/
def State.lastRun (s : State) (d : Nat) (p : Profile) : Bool := decide (p.maxSusp ≤ (s.ctxOf d).suspCount)

/-- The closed windows that follow a resume (R68, R70, R246): the minimum run, and the runs not suspendable that are still ahead. -/
def State.resumeRuns (s : State) (d : Nat) : List (Nat × Nat) :=
  match s.profileOf d with
  | none => []
  | some p =>
    let k := (s.ctxOf d).long
    (0, 50 * (if k = 2 then p.minE else p.minP)) :: (match s.runningOp d with
      | some r =>
        if s.lastRun d p then [(0, 50 * (((p.segs k).map Prod.fst).foldl (fun n x => n + x) 0) - r.ran)] else runWindows (p.segs k) r.ran
      | none => [])

/-- The suspendable mark of the segment in which an operation stands after `t` ticks (R246). -/
def segmentOk : List (Nat × Bool) → Nat → Bool
  | [], _ => true
  | (n, ok) :: rest, t => if t < 50 * n then ok else segmentOk rest (t - 50 * n)

/-- A suspend of the running operation would be refused (R246). -/
def State.suspendRefused (s : State) (d : Nat) : Bool :=
  match s.profileOf d, s.runningOp d with
  | some p, some r =>
    decide (p.maxSusp ≤ (s.ctxOf d).suspCount)
      || !segmentOk (if (s.ctxOf d).long = 2 then p.eraseSeg else p.progSeg) (r.ran + (s.now - r.start))
  | some p, none => decide (p.maxSusp ≤ (s.ctxOf d).suspCount)
  | none, _ => false

/-- The refusal of a suspend (R246, R273): the Plotter re-plans the reads that waited for it. -/
def State.refuseSuspend (s : State) (d : Nat) : State :=
  (s.event F.FCH_EVENTS_SUSPEND_REFUSED (dieChan d) d).replanReads (fun k => decide (k = d))

/-- The operation running on a die replaced. -/
def State.setRunning (s : State) (d : Nat) (r : Option Running) : State :=
  { s with plt := { s.plt with running := tabSet (fun _ => none) s.plt.running d r } }

/-- The minimum run that follows the resume of a suspended operation stands booked behind the reads its die has queued (R69, R70), in the first
place another member's windows leave; it takes the place of the operation's windows, for it runs no more (R68). -/
def State.bookMinRun (s : State) (d : Nat) : State :=
  match s.runningOp d, s.profileOf d with
  | some r, some p =>
    let len := 50 * (if r.op.kind = 2 then p.minE else p.minP)
    let reads := ((s.dieQueue d).filter (fun o => decide (o.kind ≠ 1 ∧ o.kind ≠ 2))).foldl (fun n o => n + 50 * o.cost) 0
    let s := s.setClosed d ((s.closedList d).filter (fun w => decide (w.op ≠ r.op.id + 1)))
    s.addRuns d (s.placeClosed d len (s.now + reads)) r.op.id 0 [(0, len)]
  | _, _ => s

/-- The context stands SUSPENDED (R276 step 3). -/
def State.nowSuspended (s : State) (d : Nat) : State :=
  let x := s.ctxOf d
  let s := s.setCtx d { x with st := .suspended, handler := 0, inRead := false, confirmed := false }
  let s := s.setDie d { s.dieOf d with suspAt := some s.now, held := false }
  match s.runningOp d with
  | some r => (s.setRunning d (some { r with suspended := true, ran := r.ran + (s.now - r.start) })).bookMinRun d
  | none => s

/-- A suspend found its operation completed (R244, R276 step 3): LONG and the saved copies go, and the resumes booked for it are released, with
the window of the minimum run. -/
def State.suspendMissed (s : State) (d : Nat) : State :=
  let x := s.ctxOf d
  let s := s.setCtx d { x with long := 0, resumePc := 0, saved := [0, 0, 0, 0] }
  let s := match s.runningOp d with
    | some r => s.setClosed d ((s.closedList d).filter (fun w => decide (w.op ≠ r.op.id + 1)))
    | none => s
  let ops := (s.dieQueue d).filter (fun o => !o.resume.isEmpty)
  let s := ops.foldl (fun s o =>
    let s := s.unbook o.resume
    match o.cmd with
    | some (f, q, k) => s.mapCmd f q k (fun c => { c with bookings := o.resume.foldl (fun bs b => bs.erase b) c.bookings })
    | none => s) s
  let units := fun (o : DieOp) => o.resume.foldl (fun n b => n + b.units) 0
  let q := (s.dieQueue d).map (fun o => { o with cost := o.cost - units o, resume := [] })
  { s with plt := { s.plt with queue := tabSet (fun _ => []) s.plt.queue d q } }

/-- A further read is planned for the die (condition 0x18): a pending START of a read, or one in its queue, the soft reads held for a hard
decode among them (R291). -/
def State.moreReads (s : State) (d : Nat) : Bool :=
  (s.ctxOf d).plans.any (fun p => decide (p.kind = 0))
    || (s.dieQueue d).any (fun o => decide (o.kind ≠ 1 ∧ o.kind ≠ 2))

/-- RESTORE of a suspended operation (R276): STATE RUNNING, its counters, address and issue epoch (R277); its closed windows stand where it
resumes (R69). -/
def State.resumed (s : State) (d : Nat) : State :=
  let x := s.ctxOf d
  let runs := s.resumeRuns d
  let y := s.dieOf d
  let s := s.setCtx d { x with st := .running, c := x.saved, pc := x.resumePc, inRead := false, handler := 0, issueEpoch := x.savedEpoch, confirmed := true,
                               migrated := false }
  let s := s.setDie d { y with suspAt := none, resumeDue := false }
  match s.runningOp d with
  | some r => (s.addRuns d s.now r.op.id 0 runs).setRunning d (some { r with suspended := false, start := s.now, minEnd := y.runEnd })
  | none => s.addRuns d s.now s.plt.nextOp 0 runs

/-- The suspend and resume opcodes of a die, of the kind in LONG (Table 08-4). -/
def State.suspOpcode (s : State) (d : Nat) : Nat := ((s.profileOf d).map (fun p => if (s.ctxOf d).long = 2 then p.suspE else p.suspP)).getD 0
def State.resOpcode (s : State) (d : Nat) : Nat := ((s.profileOf d).map (fun p => if (s.ctxOf d).long = 2 then p.resE else p.resP)).getD 0

/-- The RESUME handler (R245, R276): 0x040 is entered, the opcode sent, the run timer started, the operation restored. -/
def State.resumeOp (s : State) (d : Nat) : State :=
  (((s.enterAt d 0x040).emit (.die d 0 (s.resOpcode d))).startTimer d (s.ctxOf d).long).resumed d

/-! ### Plans (R260, R271, R274, R288 to R294) -/

/-- δ of soft read j (R289): −1, +1 and, of three, −2. -/
def softStep (j : Nat) : Int := match j with | 1 => -1 | 2 => 1 | _ => -2

/-- The four parameter bytes of a reference state (Table 09-3, R289): an entry of RETRY_SETS, or entry 0 with P1 moved by δ_j × SOFT_DELTA,
at most to the limits of a signed byte. -/
def Profile.refBytes (p : Profile) : RefState → List Nat
  | .set i => p.sets.getD i (Config.retryEntry p.record)
  | .soft j =>
    let base := p.sets.getD 0 []
    let p1 := signedByte (base.getD 1 0) + softStep j * p.softDelta
    listSet base 1 ((max (-128) (min 127 p1)) % 256).toNat
where
  /-- A byte as a signed number. -/
  signedByte (b : Nat) : Int := if b < 128 then (b : Int) else (b : Int) - 256

/-- The LUN Set Features that writes a reference state: FA and parameters 1 to 3, parameter 4 zero (Table 09-3). -/
def State.refCode (s : State) (d : Nat) (r : RefState) : Nat :=
  ((s.profileOf d).map (fun p => le (p.refBytes r) 0 4)).getD 0

/-- The reference state a read needs is written where its die holds another (R288), by LUN Set Features (Config: the bytes of the
command); the write's time lies inside tR_max. -/
def State.setRef (s : State) (d : Nat) (r : RefState) : State :=
  let x := s.ctxOf d
  if x.ref = r then s else (s.setCtx d { x with ref := r }).emit (.die d 4 (s.refCode d r))

/-- The read a die is carrying out: under a suspended operation, or of its own. -/
def State.readNow (s : State) (d : Nat) : Option DieOp :=
  match tabGet (fun _ => none) s.plt.reading d with
  | some r => some r.op
  | none => (s.runningOp d).bind (fun r => if r.op.kind = 1 ∨ r.op.kind = 2 then none else some r.op)

/-- The lane of a channel's hard decodes: lane A, or lane B while they are moved (R293, R295). -/
def State.hardLane (s : State) (c : Nat) : Nat := if (s.laneOf (2 * c + 1)).hardMoved then 2 * c + 1 else 2 * c

/-- The free B lane of a quadrant on which a soft decode starts at once, the lowest (R294: any; DESIGN CHOICE, log entry 50). -/
def State.freeB (s : State) (quad : Nat) : Option Nat := (s.lanesB quad).find? (fun l => (s.laneOf l).busy.isNone)

/-- The data of a soft decode lies in its tiles: its reservation can be served (R294). -/
def State.markReady (s : State) (id : Nat) (tiles : List Booking) : State :=
  { s with lanes := s.lanes.map (fun (e : Nat × Lane) =>
      (e.1, { e.2 with res := e.2.res.map (fun j => if j.id = id then { j with ready := true, tiles := tiles } else j) })) }

/-- A soft decode starts on any free B lane of the quadrant (R294); with none free it waits for its reservation, or, paid from the reserve,
its turn on the lowest lane. -/
def State.startSoft (s : State) (quad : Nat) (j : LdpJob) (reserved : Bool) : State :=
  if s.lanes.any (fun e => e.2.busy.any (fun b => decide (b.mode = 1 ∧ b.id = j.id))) then s
  else match s.freeB quad with
    | some l => s.setLane l ((s.laneOf l).take j)
    | none => if reserved then s.markReady j.id j.tiles else match s.otherB (64 * quad) with
      | l :: _ => s.setLane l ((s.laneOf l).take j)
      | [] => s

/-- The tiles of the read a die has carried out go on to its decode (R438). -/
def State.passTiles (s : State) (d : Nat) : State :=
  let bare := fun (r : Running) => if r.op.kind = 1 ∨ r.op.kind = 2 then r else { r with op := { r.op with tiles := [] } }
  match tabGet (fun _ => none) s.plt.reading d with
  | some r => { s with plt := { s.plt with reading := tabSet (fun _ => none) s.plt.reading d (some (bare r)) } }
  | none => match s.runningOp d with
    | some r => s.setRunning d (some (bare r))
    | none => s

/-- The last byte of a read is in its tile (R293, R294): a hard or ladder decode on lane A, and after the last soft read of an attempt the
soft decode. -/
def State.startDecode (s : State) (die : Nat) (o : DieOp) : State :=
  let c := dieChan die
  let i := o.cmd.bind (fun x => (s.findCmd x.1 x.2.1 x.2.2).bind (fun c => c.ius.find? (fun i => decide (i.iu + 1 = o.iu))))
  let job := fun (id mode bits step : Nat) =>
    (⟨id, mode, s.now, bits, die, o.cmd, o.iu, step, 0, true, o.tiles.map (fun b => { b with units := b.units * max 1 (if mode = 1 then bits else 1) }), o.orphan⟩ : LdpJob)
  let s := s.passTiles die
  if o.stale then s.unbook (if o.orphan then o.tiles else [])
  else match o.ref with
  | .set k => s.setLane (s.hardLane c) ((s.laneOf (s.hardLane c)).take (job o.id (if k = 0 then 0 else 2) 1 k))
  | .soft j =>
    let n := ((s.profileOf die).map Profile.softReads).getD 0
    if j < n then s
    else match i.bind IuPlan.resv with
      | some id => s.startSoft (chanQuad c) (job id 1 n 0) (s.softHeld id)
      | none => s.startSoft (chanQuad c) (job o.id 1 n 0) false

/-- A plan's kind is that of an operation (Table 03-4). -/
def DieOp.serves (o : DieOp) (p : DiePlan) : Bool :=
  !o.held && (if p.kind = 1 then decide (o.kind = 1) else if p.kind = 2 then decide (o.kind = 2) else decide (o.kind ≠ 1 ∧ o.kind ≠ 2))

/-- The operation a START runs: the first of the queue that is not held back, else one of the plan's own. -/
def State.nextDieOp (s : State) (d : Nat) (p : DiePlan) : DieOp :=
  match (s.dieQueue d).find? (fun o => !o.held) with
  | some o => o
  | none => s.newOp d (if p.kind = 1 then 1 else if p.kind = 2 then 2 else 0) 0 s.now

/-- I_PEAK of an operation counts in the ladder window of now (R95): the window granted, or one that admits it, the grant then moved
there. -/
def State.ladderNow (s : State) (d : Nat) (op : DieOp) (p : Profile) : State :=
  let w := windowOf s.now
  if op.window = w + 1 then s
  else
    let old : Booking := ⟨11, dieSheet d, op.window - 1, p.iPeak⟩
    let t := if op.window = 0 then s.plt else s.plt.apply false old
    { s with plt := t.apply true ⟨11, dieSheet d, w, p.iPeak⟩ }

/-- The energy an erase books as it starts (R94); that of a relocation is booked with its debt. -/
def State.startEnergy (s : State) (d : Nat) (op : DieOp) (p : Profile) : List Booking :=
  let e := if op.window = 0 ∧ op.kind = 2 then tokensOf p p.eErase 0 else 0
  let f := s.plt.frame
  shares f 6 (dieSheet d) e (op.cost * q16) s.nowOff ++ shares f 7 0 e (op.cost * q16) s.nowOff

/-- The engine cycles of one poll of a routine: the reload of its wait counter, its WAIT words of 128 cycles, and a status chain of 122
(Table 08-9); a poll of the SUSPEND handler has one word more, and a chain of 120 (Table 08-10). The routines are Keacia's: their chain lengths are those of the worked
example (DEDUCED, log entry 55). -/
def pollCycles (waits chain : Nat) : Nat := 1 + waits * 128 + chain

/-- P2 to P6 of a program or erase (R260): the plane count; the poll budget, the polls in twice the bounded time, and the wait words of its
poll interval; the same two of a suspend. Others are the plan's own. -/
def State.planParams (s : State) (d : Nat) (p : DiePlan) : List Nat :=
  match s.profileOf d with
  | none => p.param
  | some pr =>
    if p.kind = 1 ∨ p.kind = 2 then
      let ns := if p.kind = 2 then s.fld F.TRV_POLL_ERASE_POLL_US 0 * 1000 else s.fld F.TRV_POLL_PROG_POLL_US 0 * 1000
      let p4 := ceilDiv ns 160
      let p6 := ceilDiv (s.fld F.TRV_POLL_READ_POLL_NS 0) 160
      let polls := fun (t cycles : Nat) => min 65535 (ceilDiv (2 * t * 50) cycles)   -- times in 1/16 µs, 50 cycles each
      let l := (List.range 16).map (fun k => p.param.getD k 0)
      listSet (listSet (listSet (listSet (listSet l 2 pr.planes) 3 (polls (if p.kind = 2 then pr.tBERS else pr.tPROG) (pollCycles p4 122))) 4 p4)
        5 (polls (if p.kind = 2 then pr.tSUSE else pr.tSUSP) (pollCycles p6 121))) 6 p6
    else p.param

/-- A plan is taken (R271 order 4): the routine begins at its entry; the operation the queue orders next is the one
that runs, in its ladder window (R95), the closed windows of its segments booked from now (R69), its reference state written (R288). -/
def State.startPlan (s : State) (d : Nat) (p : DiePlan) : State :=
  let x := s.ctxOf d
  let x := if (x.plans.erase p).isEmpty then x.drop 3 else x
  let x := { x with pc := p.entry % 4096, entry := p.entry % 4096, row := p.row, col := p.col, tile := p.tile, planeMask := p.planeMask,
                    param := s.planParams d p, confirmed := false, plans := x.plans.erase p, inRead := decide (p.kind = 0), handler := 0,
                    st := if x.st = .suspended then .suspended else .running }
  let op := s.nextDieOp d p
  let q := s.dieQueue d
  let s := s.setCtx d x
  let s := { s with plt := { s.plt with nextOp := s.plt.nextOp + (if q.all DieOp.held then 1 else 0),
                                        queue := tabSet (fun _ => []) s.plt.queue d (q.eraseP (fun (o : DieOp) => !o.held)) } }
  let s := match s.profileOf d with
    | some pr => (((s.bookAll (s.startEnergy d op pr)).getD s).ladderNow d op pr).addRuns d s.now op.id 0 (runWindows (pr.segs op.kind) 0)
    | none => s
  let s := if p.kind = 0 then s.setRef d op.ref else s
  let r : Running := ⟨op, s.now, s.now, false, 0⟩
  if x.st = .suspended then { s with plt := { s.plt with reading := tabSet (fun _ => none) s.plt.reading d (some r) } }
  else s.setRunning d (some r)

/-- The die queue orders a plan next: the first operation not held back is of the plan's kind, or there is none. -/
def State.ordersNext (s : State) (d : Nat) (p : DiePlan) : Bool :=
  match (s.dieQueue d).find? (fun o => !o.held) with
  | none => true
  | some o => o.serves p

/-- The Plotter lets the operation of a plan start now (R69, R95, R102, R105): its ladder window, its closed windows, no quiet slot on its
die, and before an erase no read of an older epoch. A die without a profile is never read, programmed or erased (R232). -/
def State.startAllowed (s : State) (d : Nat) (p : DiePlan) : Bool :=
  match s.profileOf d with
  | none => false
  | some pr =>
    let op := s.nextDieOp d p
    (decide (op.window = windowOf s.now + 1) || s.ladderFits (dieSheet d) (windowOf s.now) pr.iPeak)
      && !s.runsBarred d s.now (runWindows (pr.segs op.kind) 0) && decide (s.plt.quiet ≠ some (dieChan d))
      && (decide (op.kind ≠ 2) || s.noOldReads d) && (s.bookAll (s.startEnergy d op pr)).isSome

/-- A plan may start (R243, R247, Table 08-7): IDLE with nothing left to complete, or SUSPENDED with no read running and no resume named and the
plan a read; under the issue epoch of the operation the queue orders next (R98). -/
def State.canStart (s : State) (d : Nat) (p : DiePlan) : Bool :=
  let x := s.ctxOf d
  s.hubOn && ((decide (x.st = .idle) && (s.runningOp d).isNone)
      || (decide (x.st = .suspended ∧ p.kind = 0) && !x.inRead && !(s.dieOf d).resumeDue))
    && decide (x.handler = 0 ∨ x.handler = 0x040) && s.ordersNext d p && decide (p.epoch = (s.nextDieOp d p).epoch) && s.startAllowed d p

/-- A SUSPEND is held by the run timer (R245, R273): it stays pending, SUSPEND_HELD sets. -/
def State.holdSuspend (s : State) (d : Nat) : State :=
  if (s.dieOf d).held then s else (s.setDie d { s.dieOf d with held := true }).event F.FCH_EVENTS_SUSPEND_HELD (dieChan d) d

/-- A SUSPEND is taken (Table 08-7): RESUME_PC, C0 to C3 and the issue epoch are saved, and 0x030 is entered. -/
def State.takeSuspend (s : State) (d : Nat) : State :=
  let x := (s.ctxOf d).drop 2
  (s.setCtx d { x with resumePc := x.pc, saved := x.c, savedEpoch := x.issueEpoch }).enterAt d 0x030

/-- Requests pending at a boundary are taken in the order of Table 08-7; while a status byte of 0xFF is followed up none but FENCE (Table
08-8). A named resume is issued (R247). -/
def State.boundary (s : State) (d : Nat) : State :=
  let x := s.ctxOf d
  if !x.atBoundary || decide (x.st = .fenced) then s
  else if x.pend.contains 0 then s.fenceDie d
  else if x.handler = 0x060 then s
  else if x.pend.contains 1 && !x.inRead then s.releaseTo d x.newOwner
  else if x.pend.contains 2 && decide (x.long = 0) then
    (s.setCtx d (x.drop 2)).event F.TRV_ENG_SUSPEND_MOOT (s.ownerEng d) 0
  else if x.pend.contains 2 && decide (x.st = .suspended) then s.setCtx d (x.drop 2)
  else if x.pend.contains 2 && decide (x.st = .running ∧ x.handler = 0) then
    if s.timerRuns d then s.holdSuspend d
    else if s.suspendRefused d then (s.setCtx d (x.drop 2)).refuseSuspend d
    else s.takeSuspend d
  else if x.st = .suspended ∧ (s.dieOf d).resumeDue ∧ !x.inRead ∧ x.handler = 0 ∧ !s.runsBarred d s.now (s.resumeRuns d) then s.resumeOp d
  else match x.plans.find? (s.canStart d) with
    | some p => s.startPlan d p
    | none => s

/-! ### The T-word (R259 to R265) -/

/-- Bits `hi` down to `lo` of a T-word. -/
def tw (w : BitVec 128) (hi lo : Nat) : Nat := w.toNat / 2 ^ lo % 2 ^ (hi + 1 - lo)
def twNext (w : BitVec 128) : Nat := tw w 127 116
def twAlt (w : BitVec 128) : Nat := tw w 115 104
def twCond (w : BitVec 128) : Nat := tw w 103 98
def twDwell (w : BitVec 128) : Nat := tw w 97 90
def twClass (w : BitVec 128) : Nat := tw w 89 84
def twDrive (w : BitVec 128) (hi lo : Nat) : Nat := tw w (52 + hi) (52 + lo)
def twImm (w : BitVec 128) : Nat := tw w 51 28
def twAtomic (w : BitVec 128) : Bool := w.getLsbD 18
def twLock (w : BitVec 128) : Bool := w.getLsbD 17

/-- Even parity over the 128 bits (PAR). -/
def twParityOk (w : BitVec 128) : Bool := decide ((countBelow 128 (fun k => w.getLsbD k)) % 2 = 0)

/-- A word the engine refuses to execute (R263). -/
def twBad (w : BitVec 128) : Bool :=
  let cls := twClass w
  let cond := twCond w
  let op := tw w 25 23
  decide ((4 < cls ∧ cls < 0x10) ∨ 0x14 < cls) || decide ((7 < cond ∧ cond < 0x10) ∨ 0x18 < cond)
    || decide (tw w 14 1 ≠ 0 ∨ tw w 22 20 ≠ 0 ∨ 6 ≤ op)
    || decide (4 ≤ twDrive w 23 21) || decide (5 ≤ twDrive w 20 18) || decide (twDrive w 13 12 ≠ 0)
    || (decide (cls = 0x11) && decide (twDrive w 17 15 = 0 ∨ twDrive w 17 15 = 7))
    || (decide (cls = 0x13) && decide (twDrive w 2 0 ≠ 0))
    || (decide (cls ≠ 0x01) && decide (127 < twDwell w))
    || (decide (cls = 0x01) && (twAtomic w || twLock w))

/-- A T-word check fault (R263): CHECK_FAULT, and a UNIT fault of the engine. -/
def State.checkFault (s : State) (d : Nat) : State :=
  let t := s.ownerEng d
  (s.event F.TRV_ENG_CHECK_FAULT t 0).raiseAt 0x0A2 t 0x09 0

/-- The counters after the word's CTR operation (Table 08-5). -/
def Ctx.counted (x : Ctx) (w : BitVec 128) : List Nat :=
  let k := tw w 27 26
  let v := x.c.getD k 0
  match tw w 25 23 with
  | 1 => listSet x.c k (twImm w % 65536)
  | 2 => listSet x.c k (v - 1)
  | 3 => listSet x.c k (min 65535 (v + 1))
  | 4 => listSet x.c k (x.param.getD (twImm w % 16) 0 % 65536)
  | 5 => listSet x.c k 0
  | _ => x.c

/-- LONG after the word. -/
def Ctx.longAfter (x : Ctx) (w : BitVec 128) : Nat :=
  match tw w 16 15 with | 1 => 1 | 2 => 2 | 3 => 0 | _ => x.long

/-- The condition of a word on the context's state at its end (Table 08-2, R261). -/
def State.condition (s : State) (d : Nat) (w : BitVec 128) : Bool :=
  let x := s.ctxOf d
  let st := x.lastStatus
  let b := match twCond w with
    | 0x01 => true
    | 0x02 => decide (x.c.getD 0 0 = 0) | 0x03 => decide (x.c.getD 1 0 = 0)
    | 0x04 => decide (x.c.getD 2 0 = 0) | 0x05 => decide (x.c.getD 3 0 = 0)
    | 0x06 => decide (x.st = .suspended)
    | 0x07 => s.timerRuns d
    | 0x10 => decide (st / 64 % 2 = 1) | 0x11 => decide (st / 32 % 2 = 1)
    | 0x12 => decide (st % 2 = 1) | 0x13 => decide (st / 2 % 2 = 1)
    | 0x14 => decide (st = 0xFF)
    | 0x15 => decide (st &&& (twImm w / 256 % 256) = twImm w % 256)
    | 0x16 => x.moving.isNone
    | 0x17 => x.moveErr
    | 0x18 => s.moreReads d
    | _ => false
  b != w.getLsbD 19

/-- The operation whose words a die's context runs: the read under a suspended operation, else the one that runs. -/
def State.opInFlight (s : State) (d : Nat) : Option DieOp :=
  match tabGet (fun _ => none) s.plt.reading d with
  | some r => some r.op
  | none => (s.runningOp d).map Running.op

/-- The confirm of the operation in flight (R274): its issue epoch is recorded. -/
def State.confirmed (s : State) (d : Nat) : State :=
  let x := s.ctxOf d
  if x.confirmed then s
  else s.setCtx d { x with confirmed := true, issueEpoch := ((s.opInFlight d).map DieOp.epoch).getD x.issueEpoch }

/-- The end of a word: counters, LONG (set, it says that the operation has been started: DEDUCED, log entry 71), the next address, and the requests
at the boundary after it. `to_` overrides the next address (RESTORE, a handler entered). -/
def State.wordEnd (s : State) (d : Nat) (w : BitVec 128) (to_ : Option Nat) : State :=
  let x := s.ctxOf d
  if x.waiting then s
  else
    let sets := decide (x.longAfter w ≠ 0 ∧ x.long = 0)
    let s := if sets then s.confirmed d else s
    let x := s.ctxOf d
    let s := s.setCtx d { x with c := x.counted w, long := x.longAfter w, suspCount := if sets then 0 else x.suspCount }
    let next := match to_ with
      | some a => a
      | none => if s.condition d w then twAlt w else twNext w
    let chained := twAtomic w || twLock w
    let x := s.ctxOf d
    let s := s.setCtx d { x with pc := next, atomic := twAtomic w, chain := if chained then x.chain else 0, refetch := false }
    if chained then s else (((s.freeBus d).grantMover (dieChan d)).boundary d)

/-- A routine or handler of the context runs. -/
def Ctx.runs (x : Ctx) : Bool := decide (x.st = .running ∨ x.handler ≠ 0) || x.inRead

/-- The context has just taken a FENCE, RELEASE or SUSPEND request (R256, R258). -/
def Ctx.urgent (x : Ctx) : Bool := decide ((x.handler = 0x010 ∨ x.handler = 0x020 ∨ x.handler = 0x030) ∧ x.pc = x.handler)

/-- The word at which a die's context stands, and whether it needs the channel bus (Table 08-3). -/
def State.wordAt (s : State) (d : Nat) : BitVec 128 := s.storeWord 0 (s.ctxOf d).pc
def State.busWord (s : State) (d : Nat) : Bool := decide (0x10 ≤ twClass (s.wordAt d) ∧ twClass (s.wordAt d) < 0x14)

/-- Who holds the bus of a channel. -/
def State.holder (s : State) (c : Nat) : Nat := tabGet (fun _ => 0) s.trv.busHold c

/-- The word of a die's context is runnable (R256, R258): its routine runs, it does not wait, its engine is in service, and for a bus word the
bus is free or its own. -/
def State.ready (s : State) (d : Nat) : Bool :=
  let x := s.ctxOf d
  decide (d < 2048) && x.runs && !x.waiting && !s.fenced 0x0A2 (s.ownerEng d)
    && (decide (s.holder (dieChan d) = 0 ∨ s.holder (dieChan d) = d + 1) || !s.busWord d)

/-- The numbers 0 to n − 1 in rotation from `k` on. -/
def rotation (n k : Nat) : List Nat := (List.range n).map (fun j => (k + j) % n)

/-- The die whose word an engine issues next (R256): that of a chain in progress, else of a context that has just taken a request, else the next
runnable one in round robin after the die served last. -/
def State.engTurn (s : State) (t : Nat) : Option Nat :=
  let l := ((rotation 16 (tabGet (fun _ => 0) s.trv.served t)).map (fun k => 16 * (t / 4) + k)).filter (fun d =>
    decide (s.ownerEng d = t) && s.ready d)
  match l.find? (fun d => decide ((s.ctxOf d).chain ≠ 0)) with
  | some d => some d
  | none => match l.find? (fun d => (s.ctxOf d).urgent) with
    | some d => some d
    | none => l.head?

/-- The die whose word the free bus of a channel serves next (R258): of a context that has just taken a request, then the mover, then the
engines in round robin. -/
def State.busTurn (s : State) (c : Nat) : Option Nat :=
  let l := (rotation 4 (tabGet (fun _ => 0) s.trv.busServed c)).filterMap (fun e => (s.engTurn (4 * c + e)).filter s.busWord)
  match l.find? (fun d => (s.ctxOf d).urgent) with
  | some d => some d
  | none => if (List.range 16).any (fun k => (s.ctxOf (16 * c + k)).moving.isSome) then none else l.head?

/-- The word `w` is the one the engine of a die issues for it now (R256, R258, R266): its context's turn, the bus its own where it needs it, and
`w` what the control store holds where the context stands. -/
def State.issues (s : State) (d : Nat) (w : BitVec 128) : Bool :=
  decide (d < 2048 ∧ s.engTurn (s.ownerEng d) = some d ∧ s.wordAt d = w)
    && (!s.busWord d || decide (s.holder (dieChan d) = d + 1 ∨ s.busTurn (dieChan d) = some d))

/-- What a word's class does: it is done, with a next address of its own; it is held back; or it is a T-word check fault. -/
inductive WordAct where
  | done (s : State) (to_ : Option Nat)
  | hold
  | fault

/-- The engine and the channel have served a die; CE_N of its target stays low after a bus word only with CE_KEEP (R256, R258, R259). -/
def State.servedDie (s : State) (d : Nat) (w : BitVec 128) : State :=
  let c := dieChan d
  let bus := decide (0x10 ≤ twClass w ∧ twClass w < 0x14)
  { s with trv := { s.trv with
      served := tabSet (fun _ => 0) s.trv.served (s.ownerEng d) (d % 16 + 1),
      busServed := if bus then tabSet (fun _ => 0) s.trv.busServed c (s.owner d + 1) else s.trv.busServed,
      ce := if bus then tabSet (fun _ => 0) s.trv.ce c (if twDrive w 14 14 = 1 then d % 16 / 2 + 1 else 0) else s.trv.ce } }

/-- Chained words keep the bus they were granted (R258, R262). -/
def State.holdChain (s : State) (d : Nat) (w : BitVec 128) : State :=
  if 0x10 ≤ twClass w ∧ twClass w < 0x14 ∧ (twAtomic w || twLock w) = true then
    { s with trv := { s.trv with busHold := tabSet (fun _ => 0) s.trv.busHold (dieChan d) (d + 1) } }
  else s

/-- Engine cycles of a chain with a word added (R262, R265). -/
def Ctx.chainWith (x : Ctx) (w : BitVec 128) (fetch : Fetch) : Nat := x.chain + twDwell w + 1 + (if fetch = .retried then 1 else 0)

/-- A word overruns its chain (R262). -/
def Ctx.overruns (x : Ctx) (w : BitVec 128) (fetch : Fetch) : Bool :=
  decide (128 < x.chainWith w fetch) && (decide (x.chain ≠ 0) || twAtomic w || twLock w)

/-- A re-fetch that passed (R265). -/
def State.retried (s : State) (d : Nat) (fetch : Fetch) : State :=
  if fetch = .retried then
    (s.event F.TRV_ENG_PARITY_RETRY (s.ownerEng d) 0).raiseAt 0x0A2 (s.ownerEng d) 0x08 0
  else s

/-- The word is executed: its class's action, then its end. What it began is not committed where a check fault or the fence of its die comes
between (R255). -/
def State.wordDone (s : State) (d : Nat) (w : BitVec 128) (fetch : Fetch) (act : State → WordAct) : State :=
  let x := s.ctxOf d
  match act ((s.setCtx d { x with chain := x.chainWith w fetch }).holdChain d w) with
  | .fault => s.checkFault d
  | .hold => s
  | .done t to_ =>
    if (t.ctxOf d).st = .fenced ∧ x.st ≠ .fenced then t
    else ((t.servedDie d w).wordEnd d w to_)

/-- A word of class `cls` of a die's context is executed (R256 to R265): `act` is what the class does. A word that is not the context's to run does
nothing. -/
def State.runWord (s : State) (d : Nat) (w : BitVec 128) (fetch : Fetch) (cls : Nat) (act : State → WordAct) : State :=
  if s.issues d w = false then s
  else if fetch = .failed ∨ twParityOk w = false then s.checkFault d
  else
    let s := s.retried d fetch
    if twBad w then s.checkFault d
    else if twClass w ≠ cls then s
    else if (s.ctxOf d).overruns w fetch then (s.event F.TRV_ENG_CHAIN_OVERRUN (s.ownerEng d) 0).checkFault d
    else s.wordDone d w fetch act

end Sys2Proof.Machine
end

