-- ==== Sys2Proof/Machine/Channels.lean ====
section
/-! DEFINITION. The commands of chapter 7: discovery, training and retraining of channels, absences, timeouts, the run timer. -/

set_option linter.unusedVariables false

namespace Sys2Proof.Machine

/-- One die position after discovery (R225, R229, R231, R232): a profile, or UNPROFILED with its records. -/
def State.discoverDie (s : State) (d : Nat) (t : Target) : State :=
  let c := dieChan d
  let m := s.matchProfile c d t
  let s := m.1
  let b := match m.2 with
    | some (i, p) => s.bindSlot i p
    | none => (s, none)
  match b.2 with
  | some k =>
    let s := b.1
    s.setDie d { Die.reset with present := true, profile := some k, fenced := s.svy.gbbFenced.contains d }
  | none =>
    let s := (b.1.setDie d { Die.reset with present := true }).event F.FCH_EVENTS_UNPROFILED c d
    -- the 20 bytes of the model field, six to a record, the first in the first
    (List.range 4).foldl (fun (s : State) k => s.record 0x0A0 c 0 (Config.recordCode 3) (d + k * 2 ^ 12 + le (t.model.drop (6 * k)) 0 6 * 2 ^ 16)) s

/-- One target of a channel (R225, R228 to R230). -/
def State.discoverTarget (s : State) (c e : Nat) (t : Target) : State :=
  let d := 16 * c + 2 * e
  let s := if t.resetOk then s else s.event F.FCH_EVENTS_RB_STUCK c d
  let gone := fun (s : State) => (s.setDie d Die.reset).setDie (d + 1) Die.reset
  if !t.statusOk then gone s
  else if !t.idOk || !t.crcOk then gone (s.event F.FCH_EVENTS_PARAM_BAD c d)
  else
    let s := if 2 < t.luns then s.event F.FCH_EVENTS_EXTRA_LUN c d else s
    let s := if t.luns = 0 then s.setDie d Die.reset else s.discoverDie d t
    if t.luns < 2 then s.setDie (d + 1) Die.reset else s.discoverDie (d + 1) t

/-- A channel holds bookings (R223): of its time, or claims on its reconstruction reserve. -/
def State.chanBooked (s : State) (ch : Nat) : Bool :=
  s.plt.chan.any (fun e => decide (e.1 % 4096 = ch ∧ s.plt.frame ≤ e.1 / 4096 ∧ e.2 ≠ 0))
    || s.plt.recon.any (fun e => decide (e.1 % 4096 = 2048 + ch ∧ s.plt.frame ≤ e.1 / 4096 ∧ e.2 ≠ 0))

/-- CHANNEL_DISCOVERY (R219, R228): target by target; a channel's sheet must have power. It takes the rate, and is made only while the channel
holds no booking (R223). -/
def execChannelDiscovery (ch : Nat) (targets : List Target) (s : State) : Res :=
  if s.chanBooked ch ∨ 128 ≤ ch ∨ !(s.soldered || (s.bay (ch / 8)).pwrGood) then .next s
  else
    let s := s.setChan ch { s.chan ch with wpHigh := true, rate := 0, lpddr4 := false, trained := false, discovered := true }
    .next ((List.range 8).foldl (fun s e => match targets[e]? with
      | some t => s.discoverTarget ch e t
      | none => (s.setDie (16 * ch + 2 * e) Die.reset).setDie (16 * ch + 2 * e + 1) Die.reset) s).recheck

/-! ### Training (R222, R223, R234) -/

/-- A profile supports a mode: NV-LPDDR4, or NV-DDR3. -/
def Profile.supports (p : Profile) (lp : Bool) : Bool := if lp then decide (p.modes / 2 % 2 = 1) else decide (p.modes % 2 = 1)

/-- The mode a channel takes (R222): the candidate that most dies support, NV-LPDDR4 on a tie. -/
def modeOf (cap : Nat) (ps : List Profile) : Option Bool :=
  let n := fun lp => (ps.filter (fun p => p.supports lp)).length
  let lp := if 6 ≤ cap then n true else 0
  let dd := n false
  if lp = 0 ∧ dd = 0 then none else some (decide (dd ≤ lp))

/-- The codes of a mode (Table 07-2). -/
def modeLow (lp : Bool) : Nat := if lp then 6 else 1
def modeHigh (lp : Bool) : Nat := if lp then 0xB else 5

/-- Dies of a channel fenced by training. -/
def State.trainFenced (s : State) (c : Nat) : Nat := countBelow 16 (fun k => decide ((s.dieOf (16 * c + k)).trainFails = 2))

/-- A die fails training (R234, R238): TRAIN_FAIL and the die's fence; more than four fence the channel. -/
def State.trainFail (s : State) (d : Nat) : State :=
  let c := dieChan d
  let s := (s.setDie d { s.dieOf d with trainFails := 2 }).event F.FCH_EVENTS_TRAIN_FAIL c d
  let s := s.raiseAt 0x0A0 c 0x0F d
  if 4 < s.trainFenced c then s.raiseAt 0x0A0 c 0x0E 0 else s

/-- No mode or no rate can be taken for a channel (R222): it has none, and every die `l` of it is fenced. -/
def State.noRate (s : State) (ch : Nat) (l : List (Nat × Profile)) : State :=
  let s := s.setChan ch { s.chan ch with rate := 0, lpddr4 := false, trained := false }
  (l.foldl (fun s m => s.trainFail m.1) s).recheck

/-- CHANNEL_TRAINING (R222, R223, R234, R235): `eyes` gives for a die the highest code at which both its sweeps pass, and its trims (that a die
passes every lower code of the mode too is DEDUCED, log entry 74). The mode is taken over the present, profiled dies, the rate over those that run.
The channel steps down together from its target rate; a die that fails at the lowest code of the mode is fenced; where no code of the mode lies at
or below the target every die is (DESIGN CHOICE, log entry 74). The rate is set only where the channel holds no booking and is not trained: at
bring-up, at a sheet's insertion and after a unit reset (R223). -/
def execChannelTraining (ch : Nat) (eyes : List (Nat × Nat × Nat × Nat)) (s : State) : Res :=
  if 128 ≤ ch ∨ s.chanBooked ch ∨ s.fenced 0x0A0 ch ∨ (s.chan ch).trained then .next s
  else
    let cap := s.fld F.FCH_CFG_RATE_CAP ch
    let present := (chanDies ch).filterMap (fun d => if (s.dieOf d).present && !(s.dieOf d).absent then (s.profileOf d).map (fun p => (d, p)) else none)
    let l := present.filter (fun m => s.dieLive m.1)
    match modeOf cap (present.map Prod.snd) with
    | none => .next (s.noRate ch l)
    | some lp =>
      let run := l.filter (fun m => m.2.supports lp)
      let target := run.foldl (fun n m => min n m.2.maxRate) (min cap (modeHigh lp))
      if target < modeLow lp then .next (s.noRate ch l)
      else
        let best := fun d => ((eyes.find? (fun e => decide (e.1 = d))).map (fun e => e.2.1)).getD 0
        let rate := run.foldl (fun n m => min n (max (modeLow lp) (best m.1))) target
        let bad := l.filter (fun m => !m.2.supports lp || decide (best m.1 < rate))
        let s := eyes.foldl (fun (s : State) e =>
          if dieChan e.1 = ch ∧ s.dieLive e.1 then s.setDie e.1 { s.dieOf e.1 with readTrim := e.2.2.1 % 64, writeTrim := e.2.2.2 % 64 } else s) s
        let x := s.chan ch
        let some_ := bad.length < l.length
        let s := s.setChan ch { x with rate := if some_ then rate else 0, lpddr4 := decide (some_ ∧ lp = true), trained := some_, wpHigh := x.wpHigh || some_,
                                       tLast := (s.regionOf ch).model, due := false, stepsLeft := 0, late := false }
        .next ((bad.foldl (fun s m => s.trainFail m.1) s).recheck)

/-! ### Retraining (R236 to R238) -/

/-- The length of step `k` of a channel's retraining, in 1/16 µs; none: its die or target is absent or fenced, and it is skipped. -/
def State.stepLen (s : State) (c k : Nat) : Option Nat :=
  if k = 0 then some 160
  else if k < 9 then
    let ds := [16 * c + 2 * (k - 1), 16 * c + 2 * (k - 1) + 1]
    match ds.filterMap (fun d => if s.dieLive d then s.profileOf d else none) with
    | [] => none
    | p :: rest => some (rest.foldl (fun n q => max n q.tZQ) p.tZQ)
  else
    let d := 16 * c + (k - 9)
    if s.dieLive d then (s.profileOf d).map (fun p => p.tRDT + p.tWRT) else none

/-- The retraining moves to its next step; after the last T_LAST is updated and COUNT rises (R236, R238). -/
def State.stepDone (s : State) (c : Nat) : State :=
  let x := s.chan c
  if x.stepsLeft ≤ 1 then
    s.setChan c { x with stepsLeft := 0, due := false, late := false, tLast := (s.regionOf c).model, count := min 65535 (x.count + 1) }
  else s.setChan c { x with stepsLeft := x.stepsLeft - 1 }

/-- RETRAIN_STEP (R236 to R238): the next step runs where it fits R69 and the housekeeping fraction, outside a quiet slot on its
channel. `fails` names dies whose step fails: once, it is retried in a later frame; twice, the die is fenced. -/
def execRetrainStep (ch : Nat) (fails : List Nat) (s : State) : Res :=
  let x := s.chan ch
  if 128 ≤ ch ∨ !x.due ∨ x.stepsLeft = 0 ∨ s.plt.quiet = some ch
      ∨ s.srv.queued.any (fun t => t.forced && decide ((t.block = 0x0A0 ∨ t.block = 0x0A1) ∧ t.inst = ch)) then .next s
  else
    let k := 25 - x.stepsLeft
    match s.stepLen ch k with
    | none => .next (s.stepDone ch)
    | some len =>
      let used := tabGet (fun _ => 0) s.plt.hkUsed ch
      let ds := (chanDies ch).filter s.dieLive
      if 16 * s.hk < used + len ∨ ds.any (fun d => s.runsBarred d s.now [(0, 50 * len)]) then .next s
      else
        let s := { s with plt := { s.plt with hkUsed := tabSet (fun _ => 0) s.plt.hkUsed ch (used + len) } }
        let s : State := ds.foldl (fun (s : State) d => s.addClosed d s.now (50 * len) 0) s
        let d := 16 * ch + (k - 9)
        if 9 ≤ k ∧ fails.contains d then
          if (s.dieOf d).trainFails = 0 then
            .next { (s.setDie d { s.dieOf d with trainFails := 1 }) with
              plt := { s.plt with hkUsed := tabSet (fun _ => 0) s.plt.hkUsed ch (16 * s.hk) } }
          else .next ((s.trainFail d).stepDone ch)
        else
          let s := if 9 ≤ k then s.setDie d { s.dieOf d with trainFails := 0 } else s
          .next (s.stepDone ch)

/-- RETRAIN_LATE (R237): the last step was not booked within RETRAIN_MAX_MS of becoming due. -/
def execRetrainLate (ch : Nat) (s : State) : Res :=
  let x := s.chan ch
  if 128 ≤ ch ∨ !x.due ∨ x.late then .next s
  else .next ((s.setChan ch { x with late := true }).event F.FCH_EVENTS_RETRAIN_LATE ch 0)

/-! ### Absence, timeouts, timers -/

/-- ABSENT_HOLD_EXPIRY (R241): no loss of presence was reported, and the held records are written. -/
def execAbsentHoldExpiry (sheet : Nat) (s : State) : Res := .next (s.writeHeld sheet)

/-- POLL_TIMEOUT (R242): 0x070 is entered: LUN Reset, a status check, a record. A program or erase is a status failure; a read goes to its
fallbacks, and what is suspended under it stays so. -/
def execPollTimeout (die statusAfter : Nat) (s : State) : Res :=
  if 2048 ≤ die ∨ !s.dieLive die then .next s
  else
    let row := (s.ctxOf die).row
    let pages := ((s.profileOf die).map Profile.pages).getD 1
    let b := s.bandOf die (row / max 1 pages)
    let s := (((s.enterAt die 0x070).emit (.die die 0 0xFA)).emit (.die die 5 0)).statusRead die statusAfter
    let s := s.record 0x0A0 (dieChan die) 0 (Config.recordCode 4) die
    let x := s.ctxOf die
    if x.st = .fenced then .next s
    else match tabGet (fun _ => none) s.plt.reading die with
      | some y =>
        let s := s.replanStarted die
        let s := (s.opEnds y.op).setCtx die { s.ctxOf die with inRead := false, handler := 0 }
        .next { s with plt := { s.plt with reading := tabSet (fun _ => none) s.plt.reading die none } }
      | none =>
        let r := s.runningOp die
        let s := match r with
          | some r => if r.op.kind = 1 ∨ r.op.kind = 2 then s else s.replanStarted die
          | none => s
        let s := (s.setDie die { s.dieOf die with resumeDue := false, suspAt := none, held := false }).setClosed die
          ((s.closedList die).filter (fun w => decide (some w.op ≠ r.map (fun r => r.op.id + 1))))
        let s := (s.setCtx die { s.ctxOf die with long := 0, inRead := false, handler := 0, st := .idle }).dropRunning die
        match r with
        | some r => if r.op.kind = 1 ∨ r.op.kind = 2 then .next (s.grownBad b (dieSheet die) (row % max 1 pages)) else .next s
        | none => .next s

/-- RUN_TIMER_EXPIRY (R245): a held SUSPEND may be taken at the next boundary. -/
def execRunTimerExpiry (die : Nat) (s : State) : Res :=
  let x := s.dieOf die
  if x.runKind = 0 then .next s
  else .next ((s.setDie die { x with runKind := 0, held := false }).boundary die)

/-- SUSPEND_LONG (R247): a suspension reaches 10 ms; its resume is named for the first boundary with no read in progress and no other
member of the group closed. -/
def execSuspendLong (die : Nat) (s : State) : Res :=
  let x := s.ctxOf die
  if x.st ≠ .suspended then .next s
  else
    let s := (s.setDie die { s.dieOf die with resumeDue := true }).event F.FCH_EVENTS_SUSPEND_LONG (dieChan die) die
    if x.inRead || s.runsBarred die s.now (s.resumeRuns die) then .next s else .next (s.resumeOp die)

end Sys2Proof.Machine
end

