-- ==== Sys2Proof/Machine/Chartroom.lean ====
section
/-! DEFINITION. The commands of chapter 19's Gazetteer and Datum (0x0401 to 0x0406). The agent is the Chartroom core. -/

set_option linter.unusedVariables false

namespace Sys2Proof.Machine

/-- Records `first` to `first + n − 1`, each whole (R418). -/
def Gaz.readBytes (g : Gaz) (first n : Nat) : List Nat := (List.range' first n).flatMap (fun p => (g.at p).bytes)

/-- GAZ_READ (0x0401, R418). -/
def execGazRead (q : MbxReq) (s : State) : Res :=
  .next (s.serve q ⟨0x0401, 1, true, 4, 4, false⟩ (fun s =>
    let first := le q.payload 0 2
    let count := le q.payload 2 2
    if 8192 ≤ first ∨ count = 0 ∨ 8192 < count ∨ ((s.mb q.path).respVersion = 1 ∧ 127 < count) then s.refuse q 0x0401 Ms.invalidField
    else
      let n := min count (8192 - first)
      s.respond q 0x0401 Ms.success false (bytesLe 2 first ++ bytesLe 2 n ++ zeros 12 ++ s.gaz.readBytes first n)))

/-- Who clears the Gazetteer (Table 19-5, CLEARED): a function, or the management port and its endpoint ID. -/
def clearAgent (path : Nat) : Nat := if isFnPath path then 0 else 1

/-- GAZ_CLEAR (0x0402, R575). -/
def execGazClear (q : MbxReq) (s : State) : Res :=
  .next (s.serve q ⟨0x0402, 1, true, 0, 0, false⟩ (fun s =>
    let n := s.gaz.count
    (s.gazClearBy (clearAgent q.path) q.path).respond q 0x0402 Ms.success false (bytesLe 2 n)))

/-- GAZ_LAYOUT (0x0403, R418): another layout is put in force and the Gazetteer cleared; the LAYOUT record follows CLEARED. -/
def execGazLayout (q : MbxReq) (s : State) : Res :=
  .next (s.serve q ⟨0x0403, 1, false, 1, 1, false⟩ (fun s =>
    let l := q.payload.getD 0 0
    if 2 ≤ l then s.refuse q 0x0403 Ms.invalidField
    else if s.gaz.vg40 = decide (l = 1) then s.respond q 0x0403 Ms.success false []
    else
      let s := { s with gaz := { s.gaz with vg40 := decide (l = 1) } }
      let s := (s.gazClearBy (clearAgent q.path) q.path).record 0x0E2 0 0 0x0003 l
      s.respond q 0x0403 Ms.success false []))

/-- GAZETTEER_RECORD (R572): a record arrives from a source. -/
def execGazetteerRecord (block inst sev code data : Nat) (s : State) : Res :=
  .next (s.record (block % 4096) (inst % 4096) (sev % 16) (code % 65536) data)

/-- GAZ_PERSIST (R574): the changed sectors are written; HOLDUP and DORMANT write tail rows only. -/
def execGazPersist (s : State) : Res :=
  if s.pwr.mode = .holdup ∨ s.pwr.mode = .dormant ∨ s.pwr.mode = .vault ∨ s.pwr.mode = .stopped then .next s
  else .next { s with gaz := s.gaz.persist }

/-- DATUM_GET (0x0404). -/
def execDatumGet (q : MbxReq) (s : State) : Res :=
  .next (s.serve q ⟨0x0404, 1, true, 0, 0, false⟩ (fun s => s.respond q 0x0404 Ms.success false (bytesLe 8 s.datumWord)))

/-- DATUM_SET (0x0405, R566): SUB is set to 0. -/
def execDatumSet (q : MbxReq) (s : State) : Res :=
  .next (s.serve q ⟨0x0405, 1, false, 8, 8, false⟩ (fun s =>
    let v := le q.payload 0 8
    let old := s.datumWord
    if 2 ^ 42 ≤ v then s.refuse q 0x0405 Ms.invalidField
    else (s.setDatum 1 (v * 32)).respond q 0x0405 Ms.success false (bytesLe 8 old)))

/-- DATUM_ALARM (0x0406, R568, R418). -/
def execDatumAlarm (q : MbxReq) (s : State) : Res :=
  .next (s.serve q ⟨0x0406, 3, false, 8, 8, false⟩ (fun s =>
    let v := le q.payload 0 8
    if 2 ^ 42 ≤ v then s.refuse q 0x0406 Ms.invalidField
    else if s.dat.unset then s.refuse q 0x0406 Ms.datumUnset
    else if v = 0 then ({ s with dat := { s.dat with armed := false } } : State).respond q 0x0406 Ms.success false []
    else if v < s.datumTime then s.refuse q 0x0406 Ms.datumUnset
    else ({ s with dat := { s.dat with armed := true, alarm := v } } : State).respond q 0x0406 Ms.success false []))

/-- ALARM_FIRE (R568): Datum has reached the alarm. -/
def execAlarmFire (s : State) : Res := if s.dat.armed ∧ s.dat.alarm ≤ s.datumTime then .next s.alarmFires else .next s

/-- SLEW_END (R566): the last of the difference is gone. -/
def execSlewEnd (s : State) : Res :=
  let t := s.rebase
  if !s.dat.slewing ∨ t.dat.slewLeft ≠ 0 then .next s
  else .next (({ t with dat := { t.dat with slewing := false } } : State).event F.DAT_EVENTS_SLEW_DONE 0 0)

/-- VBAT_LOST (R565, R484): the count restarts at 0, UNSET, with no alarm; a lockout's hour starts again at the next power-up. -/
def execVbatLost (s : State) : Res :=
  let s := { s with dat := { Datum.reset with since := s.now, hiLatch := s.dat.hiLatch, compT := s.dat.compT },
                    cip := { s.cip with lockAgain := s.cip.lockFrom.isSome } }
  .next (s.event F.DAT_EVENTS_VBAT_LOST 0 0)

end Sys2Proof.Machine
end

