-- ==== Sys2Proof/Machine/Namespaces.lean ====
section
/-! DEFINITION. Pools and namespaces: the mailbox requests of group 0x02xx (R110 to R112, R150, R416). -/

set_option linter.unusedVariables false

namespace Sys2Proof.Machine

/-- The segments of a pool from number `n` on exist no more (R112, R115): those awaiting their sweep are swept, their descriptors, records
and cache slots are gone. -/
def State.dropSegs (s : State) (p n : Nat) : State :=
  let gone := fun (k : Nat) => decide (k / 2 ^ 32 = p ∧ n ≤ k % 2 ^ 32)
  let s := (s.atl.seg.filter (fun e => gone e.1 && e.2.discarded)).foldl (fun (s : State) e => s.sweepSeg e.1) s
  { s with atl := { s.atl with seg := s.atl.seg.filter (fun e => !gone e.1), recovering := s.atl.recovering.filter (fun k => !gone k),
                               queued := s.atl.queued.filter (fun u => !u.segs.any gone), snoops := s.atl.snoops.filter (fun e => !gone e.1),
                               writes := s.atl.writes.filter (fun w => !gone w.seg), segLost := s.atl.segLost.filter (fun k => !gone k), dir := s.atl.dir.filter (fun e => !gone e.1),
                               eng := s.atl.eng.map (fun (e : Nat × AtlEng) => (e.1, { e.2 with held := e.2.held.filter (fun h => !gone h.seg) })) } }

def State.setPool (s : State) (p : Nat) (x : Option Pool) : State :=
  { s with atl := { s.atl with pools := tabSet (fun _ => none) s.atl.pools p x } }
def State.setNs (s : State) (n : Nat) (x : Option Ns) : State :=
  { s with atl := { s.atl with ns := tabSet (fun _ => none) s.atl.ns n x } }

/-- A namespace attached to functions has changed (R391). -/
def State.nsNotice (s : State) (nsid : Nat) (fns : List Nat) : State :=
  fns.foldl (fun s f =>
    let c := s.ctl f
    let s := if c.rdy ∧ !c.changedNs.contains nsid then s.setCtl f { c with changedNs := c.changedNs ++ [nsid] } else s
    s.asyncEvent f evNsChanged) s

/-- MAP_GIB: the map requirement in GiB, rounded up. -/
def mapGib (segs : Nat) : Nat := ceilDiv (segs * 4096) (2 ^ 30)

/-- The map requirement of `segs` segments fits the free space on the channels of a mask (R112). -/
def State.mapFits (s : State) (mask segs : Nat) : Bool :=
  decide (segs ≤ s.freeSegs (chanList mask))

/-- A POOL record (Table 04-7): the pool's properties as they stand. -/
def State.journalPool (s : State) (p : Nat) : State :=
  let arg := match s.poolOf p with
    | some x => 1 + b2n x.iu4k * 2 + x.mask * 2 ^ 2 + x.segs * 2 ^ 16
    | none => 0
  s.journal 0x06 p 0 arg []

/-- POOL_CREATE (0x0201). -/
def execPoolCreate (q : MbxReq) (s : State) : Res :=
  .next (s.serve q ⟨0x0201, 1, false, 16, 16, false⟩ (fun s =>
    let p := q.payload.getD 0 0
    let iu := q.payload.getD 1 0
    let m := le q.payload 2 2
    let segs := le q.payload 8 8
    let mask := if m = 0 then 4095 else m
    if 32 ≤ p ∨ 2 ≤ iu ∨ 4096 ≤ m ∨ le q.payload 4 4 ≠ 0 ∨ segs = 0 then s.refuse q 0x0201 Ms.invalidField
    else if (s.poolOf p).isSome then s.refuse q 0x0201 Ms.inUse
    else if !s.mapFits mask segs then s.refuse q 0x0201 Ms.mapSpace
    else
      let s := (s.setPool p (some ⟨decide (iu = 1), mask, segs⟩)).journalPool p
      s.respond q 0x0201 Ms.success false (bytesLe 4 (mapGib segs))))

/-- The namespaces of a pool. -/
def State.nsIn (s : State) (p : Nat) : List Ns := (s.atl.ns.filterMap Prod.snd).filter (fun n => decide (n.pool = p))

/-- POOL_RESIZE (0x0202). -/
def execPoolResize (q : MbxReq) (s : State) : Res :=
  .next (s.serve q ⟨0x0202, 1, false, 16, 16, false⟩ (fun s =>
    let p := q.payload.getD 0 0
    let segs := le q.payload 8 8
    if 32 ≤ p ∨ le q.payload 1 7 ≠ 0 ∨ segs = 0 then s.refuse q 0x0202 Ms.invalidField
    else match s.poolOf p with
    | none => s.refuse q 0x0202 Ms.noObject
    | some x =>
      if (s.nsIn p).any (fun n => decide (segs * 819 < n.base + s.iuCount n)) then s.refuse q 0x0202 Ms.inUse
      else if x.segs < segs ∧ !s.mapFits x.mask (segs - x.segs) then s.refuse q 0x0202 Ms.mapSpace
      else
        let s := ((s.setPool p (some { x with segs := segs })).dropSegs p segs).journalPool p
        s.respond q 0x0202 Ms.success false (bytesLe 4 (mapGib segs))))

/-- POOL_DELETE (0x0203). -/
def execPoolDelete (q : MbxReq) (s : State) : Res :=
  .next (s.serve q ⟨0x0203, 1, false, 1, 1, false⟩ (fun s =>
    let p := q.payload.getD 0 0
    if 32 ≤ p then s.refuse q 0x0203 Ms.invalidField
    else if (s.poolOf p).isNone then s.refuse q 0x0203 Ms.noObject
    else if !(s.nsIn p).isEmpty then s.refuse q 0x0203 Ms.inUse
    else (((s.setPool p none).dropSegs p 0).journalPool p).respond q 0x0203 Ms.success false []))

/-- The first segment boundary of a pool from which `n` IUs are free (the choice of the lowest is the model's, log entry 23). -/
def State.findBase (s : State) (p : Nat) (x : Pool) (n : Nat) : Option Nat :=
  let used := (s.nsIn p).map (fun m => (m.base, m.base + s.iuCount m))
  let tries := 0 :: used.map (fun u => ceilDiv u.2 819 * 819)
  let ok := tries.filter (fun b => decide (b + n ≤ x.segs * 819) && used.all (fun u => decide (u.2 ≤ b ∨ b + n ≤ u.1)))
  match ok with
  | [] => none
  | b :: rest => some (rest.foldl min b)

/-- The lowest free NSID. -/
def State.freeNsid (s : State) : Option Nat := (List.range' 1 1024).find? (fun k => (s.nsOf k).isNone)

/-- A slot holds a key of the kind a cipher needs (R416). -/
def State.slotReady (s : State) (slot cipher : Nat) : Bool :=
  (((tabGet (fun _ => KSlot.reset) s.cip.slot slot).cur).map (fun k => decide (k.kind + 1 = cipher))).getD false

/-- A slot is bound to a namespace, 0 for none. -/
def State.bindKeySlot (s : State) (slot nsid : Nat) : State :=
  let k := tabGet (fun _ => KSlot.reset) s.cip.slot slot
  { s with cip := { s.cip with slot := tabSet (fun _ => KSlot.reset) s.cip.slot slot { k with nsid := nsid } } }

/-- NS_CREATE (0x0204, R111, R416). On a TQ128-KN an absent pool receives NO_OBJECT before ORDERING_CODE (DESIGN CHOICE, log entry 75). -/
def execNsCreate (q : MbxReq) (s : State) : Res :=
  .next (s.serve q ⟨0x0204, 1, false, 16, 16, false⟩ (fun s =>
    let p := q.payload.getD 0 0
    let lbaf := q.payload.getD 1 0
    let pi := q.payload.getD 2 0
    let ci := q.payload.getD 3 0
    let slot := le q.payload 4 2
    let nlba := le q.payload 8 8
    if 32 ≤ p ∨ 4 ≤ lbaf ∨ pi = 2 ∨ 4 ≤ pi ∨ 3 ≤ ci ∨ 1024 ≤ slot ∨ le q.payload 6 2 ≠ 0 ∨ nlba = 0 then
      s.refuse q 0x0204 Ms.invalidField
    else match s.poolOf p with
    | none => s.refuse q 0x0204 Ms.noObject
    | some x =>
      if x.iuBytes < lbaBytes lbaf ∨ (ci = 2 ∧ lbaf < 2) ∨ (pi ≠ 0 ∧ lbaf % 2 = 0) then s.refuse q 0x0204 Ms.format
      else if ci ≠ 0 ∧ s.isKN then s.refuse q 0x0204 Ms.orderingCode
      else if ci ≠ 0 ∧ !s.slotReady slot ci then s.refuse q 0x0204 Ms.slotNotReady
      else if ci ≠ 0 ∧ (tabGet (fun _ => KSlot.reset) s.cip.slot slot).nsid ≠ 0 then s.refuse q 0x0204 Ms.slotNotReady
      else match s.freeNsid with
      | none => s.refuse q 0x0204 Ms.nsLimit
      | some id =>
        let n := ceilDiv nlba (x.iuBytes / lbaBytes lbaf)
        match s.findBase p x n with
        | none => s.refuse q 0x0204 Ms.mapSpace
        | some b =>
          let g := s.atl.nsCount + 1
          let s := s.setNs id (some ⟨p, lbaf, pi, ci, slot, nlba, b, [], g, none⟩)
          let s := { s with atl := { s.atl with nsCount := g } }
          let s := if ci ≠ 0 then s.bindKeySlot slot id else s
          s.respond q 0x0204 Ms.success false (bytesLe 4 id ++ zeros 4 ++ bytesLe 16 g)))

/-- The LBAs from `lo` on are discarded as R138 states: whole IUs, and zeros written to the rest of a partial one. -/
def State.discardFrom (s : State) (n : Ns) (nsid lo : Nat) : State :=
  let r := [(lo, n.nlba - lo)]
  let d := s.deallocParts n r
  let e : IoEntry := ⟨0, 0, 0, nsid, lo, n.nlba - lo - 1, false, false, true, 0, 0, false, none, 0, 0⟩
  let c := newCmd e 0x08 .dealloc 0 s.now 0 0 r
  d.2.2.foldl (fun s p =>
    let x := s.stageIu n c p.1 p.2.1 0
    x.1.swapAll (setKind x.2.2) x.2.2) (s.discardRanges d.1 d.2.1)

/-- NS_RESIZE (0x0205). -/
def execNsResize (q : MbxReq) (s : State) : Res :=
  .next (s.serve q ⟨0x0205, 1, false, 16, 16, false⟩ (fun s =>
    let id := le q.payload 0 4
    let nlba := le q.payload 8 8
    if le q.payload 4 4 ≠ 0 ∨ nlba = 0 then s.refuse q 0x0205 Ms.invalidField
    else match s.nsOf id with
    | none => s.refuse q 0x0205 Ms.noObject
    | some n =>
      let n' := { n with nlba := nlba }
      let top := n.base + s.iuCount n'
      let cap := ((s.poolOf n.pool).map (fun x => x.segs * 819)).getD 0
      let clash := (s.nsIn n.pool).any (fun m => decide (n.base < m.base ∧ m.base < top))
      if n.nlba < nlba ∧ (cap < top ∨ clash) then s.refuse q 0x0205 Ms.mapSpace
      else
        let s := if nlba < n.nlba then s.discardFrom n id nlba else s
        ((s.setNs id (some n')).nsNotice id n.attached).respond q 0x0205 Ms.success false []))

/-- NS_DELETE (0x0206). -/
def execNsDelete (q : MbxReq) (s : State) : Res :=
  .next (s.serve q ⟨0x0206, 1, false, 4, 4, false⟩ (fun s =>
    let id := le q.payload 0 4
    match s.nsOf id with
    | none => s.refuse q 0x0206 Ms.noObject
    | some n =>
      if !n.attached.isEmpty then s.refuse q 0x0206 Ms.inUse
      else
        let s := s.discardNs n
        let s := if n.cipher ≠ 0 then
            let k := tabGet (fun _ => KSlot.reset) s.cip.slot n.slot
            let k' : KSlot := { k with nsid := 0, cur := none, shadow := none, fenced := false, cursor := 0, waits := [], handle := none }
            ({ s with cip := { s.cip with slot := tabSet (fun _ => KSlot.reset) s.cip.slot n.slot k' } } : State).opDone
              k.handle Ms.mode (bytesLe 4 0) else s
        (s.setNs id none).respond q 0x0206 Ms.success false []))

/-- A list with an entry put in its place, rising. -/
def insertUp (x : Nat) : List Nat → List Nat
  | [] => [x]
  | y :: rest => if x < y then x :: y :: rest else if x = y then y :: rest else y :: insertUp x rest

/-- NS_ATTACH (0x0207). -/
def execNsAttach (q : MbxReq) (s : State) : Res :=
  .next (s.serve q ⟨0x0207, 1, false, 5, 5, false⟩ (fun s =>
    let id := le q.payload 0 4
    let f := q.payload.getD 4 0
    match s.nsOf id with
    | none => s.refuse q 0x0207 Ms.noObject
    | some n => ((s.setNs id (some { n with attached := insertUp f n.attached })).nsNotice id [f]).respond q 0x0207 Ms.success false []))

/-- NS_DETACH (0x0208). -/
def execNsDetach (q : MbxReq) (s : State) : Res :=
  .next (s.serve q ⟨0x0208, 1, false, 5, 5, false⟩ (fun s =>
    let id := le q.payload 0 4
    let f := q.payload.getD 4 0
    match s.nsOf id with
    | none => s.refuse q 0x0208 Ms.noObject
    | some n =>
      if !n.attached.contains f then s.refuse q 0x0208 Ms.noObject
      else ((s.setNs id (some { n with attached := n.attached.filter (fun k => decide (k ≠ f)) })).nsNotice id [f]).respond q 0x0208 Ms.success false []))

/-- NS_LIST (0x0209): the NSIDs from FIRST_NSID on, at most 1,019. -/
def execNsList (q : MbxReq) (s : State) : Res :=
  .next (s.serve q ⟨0x0209, 1, false, 4, 4, false⟩ (fun s =>
    let first := le q.payload 0 4
    let l := ((s.atl.ns.filterMap (fun e => if e.2.isSome ∧ first ≤ e.1 then some e.1 else none))).take 1019
    s.respond q 0x0209 Ms.success false (bytesLe 4 l.length ++ l.flatMap (bytesLe 4))))

/-- NS_INFO (0x020A). -/
def execNsInfo (q : MbxReq) (s : State) : Res :=
  .next (s.serve q ⟨0x020A, 1, false, 4, 4, false⟩ (fun s =>
    match s.nsOf (le q.payload 0 4) with
    | none => s.refuse q 0x020A Ms.noObject
    | some n =>
      s.respond q 0x020A Ms.success false ([n.pool, n.lbaf, n.pi, n.cipher] ++ bytesLe 2 n.slot ++ bytesLe 2 n.attached.length
        ++ bytesLe 8 n.nlba ++ bytesLe 8 n.base ++ bytesLe 32 (n.attached.foldl (fun m f => m + 2 ^ f) 0))))

end Sys2Proof.Machine
end

