-- ==== Sys2Proof/Machine/Cipher.lean ====
section
/-! DEFINITION. The commands of chapter 15: keys (0x0301 to 0x0305), field access (0x0306, 0x0307), the rekey sweep, cipher
jobs. Agents: the Legend, the cipher lanes, Surveyor firmware. -/

set_option linter.unusedVariables false

namespace Sys2Proof.Machine

def State.kslot (s : State) (n : Nat) : KSlot := tabGet (fun _ => KSlot.reset) s.cip.slot n
def State.setKslot (s : State) (n : Nat) (k : KSlot) : State :=
  { s with cip := { s.cip with slot := tabSet (fun _ => KSlot.reset) s.cip.slot n k } }

/-- A VF names only key slots assigned to it (R411). -/
def State.mayNameSlot (s : State) (path n : Nat) : Bool := hasDevicePrivilege path || decide ((s.kslot n).owner = path)

/-- WRAPPED_LEN of a kind of key (R470). -/
def wrappedLen (kind : Nat) : Nat := if kind = 1 then 40 else 72

/-- The generation after a slot's last (R470): 16 bits. -/
def KSlot.nextGen (k : KSlot) : Nat := (k.lastGen + 1) % 65536

/-- KEY_IMPORT (0x0301, R470, R417). Where a request to a TQ128-KN is malformed or not privileged too, those statuses come before
ORDERING_CODE: the spec gives no order (DESIGN CHOICE, log entry 52). -/
def execKeyImport (q : MbxReq) (s : State) : Res :=
  .next (s.serve q ⟨0x0301, 1, true, 8, 80, false⟩ (fun s =>
    let n := le q.payload 0 2
    let kind := q.payload.getD 2 0
    let len := le q.payload 4 2
    if 1024 ≤ n ∨ 2 ≤ kind ∨ len ≠ wrappedLen kind ∨ q.payload.getD 3 0 ≠ 0 ∨ le q.payload 6 2 ≠ 0 then s.refuse q 0x0301 Ms.invalidField
    else if q.length ≠ 8 + len then s.refuse q 0x0301 Ms.invalidLength
    else if !s.mayNameSlot q.path n then s.refuse q 0x0301 Ms.privilege
    else if s.isKN then s.refuse q 0x0301 Ms.orderingCode
    else
      let k := s.kslot n
      if k.nsid ≠ 0 then s.refuse q 0x0301 Ms.slotBound
      else match Config.unwrap ((q.payload.drop 8).take len) with
      | none => s.refuse q 0x0301 Ms.unwrapFailed
      | some key =>
        let g := k.nextGen
        let s := s.setKslot n { k with cur := some ⟨kind, g, key⟩, shadow := none, lastGen := g }
        s.respond q 0x0301 Ms.success false
          (bytesLe 2 n ++ (if 3 ≤ (s.mb q.path).respVersion then bytesLe 2 g else []))))

/-- The MAPPED IUs of a namespace from the sweep cursor on, with the bands that hold them. -/
def State.mappedBands (s : State) (n : Ns) (cursor : Nat) : List Nat :=
  s.atl.ent.filterMap (fun (e : Nat × Ent) =>
    if e.2.st = .mapped ∧ iuKey n.pool n.base + cursor ≤ e.1 ∧ e.1 < iuKey n.pool n.base + s.iuCount n then some (s.bandOfAddr e.2.addr) else none)

/-- Rekey relocation is booked as debt at the volume of a refresh with reason READ (R474). -/
def State.oweRekey (s : State) (n : Ns) (cursor : Nat) : State :=
  let l := s.mappedBands n cursor
  l.eraseDups.foldl (fun (s : State) b => s.owe (b % 128) (s.refreshVol b (l.filter (fun c => decide (c = b))).length 1)) s

/-- The debt of the rekeys that a restart resumes, from their stored cursors (R474). -/
def State.reoweRekeys (s : State) : State :=
  s.cip.slot.foldl (fun (s : State) e =>
    match e.2.shadow, s.nsOf e.2.nsid with
    | some _, some n => s.oweRekey n e.2.cursor
    | _, _ => s) s

/-- Staging slots that hold data of a namespace. -/
def State.stagedSlots (s : State) (n : Ns) : List Nat := (s.stagedOf n).map Prod.fst

/-- A long operation's progress and result bytes so far. -/
def State.opProgress (s : State) (h : Option Nat) (permille : Nat) (data : List Nat) : State :=
  match h with
  | none => s
  | some h => match tabGet (fun _ => none) s.ops h with
    | none => s
    | some (o : OpRec) => { s with ops := tabSet (fun _ => none) s.ops h (some { o with progress := permille, data := data }) }

/-- REKEY (0x0302, R473 steps 1 and 2, R475, R417). A plaintext namespace has no key to change: INVALID_FIELD (log entry 26). On a TQ128-KN an
absent namespace receives NO_OBJECT before ORDERING_CODE (DESIGN CHOICE, log entry 75: R3 gives no order of the two). -/
def execRekey (q : MbxReq) (s : State) : Res :=
  .next (s.serve q ⟨0x0302, 3, true, 8, 80, true⟩ (fun s =>
    let id := le q.payload 0 4
    let len := le q.payload 4 2
    if q.length ≠ 8 + len then s.refuse q 0x0302 (if len = 40 ∨ len = 72 then Ms.invalidLength else Ms.invalidField)
    else if le q.payload 6 2 ≠ 0 then s.refuse q 0x0302 Ms.invalidField
    else match s.nsOf id with
    | none => s.refuse q 0x0302 Ms.noObject
    | some n =>
      let k := s.kslot n.slot
      let kind := n.cipher - 1
      if n.cipher ≠ 0 && !s.mayNameSlot q.path n.slot then s.refuse q 0x0302 Ms.privilege
      else if n.cipher = 0 && !hasDevicePrivilege q.path && !n.attached.contains q.path then s.refuse q 0x0302 Ms.privilege
      else if s.isKN then s.refuse q 0x0302 Ms.orderingCode
      else if n.cipher = 0 ∨ (n.lbaf = 1 ∧ n.pi = 0) ∨ len ≠ wrappedLen kind then s.refuse q 0x0302 Ms.invalidField
      else if k.shadow.isSome then s.refuse q 0x0302 Ms.rekeyActive
      else match Config.unwrap ((q.payload.drop 8).take len) with
      | none => s.refuse q 0x0302 Ms.unwrapFailed
      | some key =>
        let g := k.nextGen
        let s := s.toService
        let l := s.startLong q 0x0302 (bytesLe 2 g)
        let s := l.2.setKslot n.slot { k with cur := some ⟨kind, g, key⟩, shadow := k.cur, lastGen := g, cursor := 0,
                                              waits := s.stagedSlots n, handle := some l.1 }
        (s.oweRekey n 0).opProgress (some l.1) 0 (bytesLe 4 (s.iuCount n))))

/-- REKEY_SWEEP_STEP (R473 steps 4 and 5, R474): the IUs from the cursor on, `count` of them; `moves` are those whose quarter word
did not name the new generation, with the address read and the address programmed in a RELOC band (log entry 54). Nothing moves while
data staged before step 2 is neither programmed nor superseded. -/
def execRekeySweepStep (slot count : Nat) (moves : List (Nat × Nat × Nat)) (s : State) : Res :=
  let k := s.kslot slot
  match s.nsOf k.nsid with
  | none => .next s
  | some n =>
    let waits := k.waits.filter (fun a => (s.stagedSlots n).contains a)
    if k.shadow.isNone then .next s
    else if !waits.isEmpty then .next (s.setKslot slot { k with waits := waits })
    else
      let end_ := min (s.iuCount n) (k.cursor + count)
      let mine := moves.filter (fun m => decide (k.cursor ≤ m.1 ∧ m.1 < end_) && s.dataIn m.2.2 1)
      let s := mine.foldl (fun (s : State) m =>
        let key := iuKey n.pool (n.base + m.1)
        let a := m.2.1 % 2 ^ 36
        ((s.countReads (s.bandOfAddr a) (dieSheet (a / 2 ^ 25)) 1).reseal key m.2.1 m.2.2 true).relocate key m.2.1 m.2.2) s
      let s := s.setKslot slot { k with cursor := end_, waits := [] }
      .next (s.opProgress k.handle (end_ * 1000 / max 1 (s.iuCount n)) (bytesLe 4 (s.iuCount n - end_)))

/-- REKEY_DONE (R473 step 6): the sweep has passed the last IU. -/
def execRekeyDone (slot : Nat) (s : State) : Res :=
  let k := s.kslot slot
  match s.nsOf k.nsid with
  | none => .next s
  | some n =>
    if k.shadow.isNone ∨ k.cursor < s.iuCount n then .next s
    else
      let s := (s.setKslot slot { k with shadow := none, cursor := 0, handle := none }).event F.LEG_EVENTS_REKEY_DONE 0 slot
      .next (s.opDone k.handle Ms.success (bytesLe 4 0))

/-- KEY_ERASE (0x0303, R471): the slot keeps its last GENERATION. -/
def execKeyErase (q : MbxReq) (s : State) : Res :=
  .next (s.serve q ⟨0x0303, 1, true, 2, 2, false⟩ (fun s =>
    let n := le q.payload 0 2
    let k := s.kslot n
    if 1024 ≤ n then s.refuse q 0x0303 Ms.invalidField
    else if !s.mayNameSlot q.path n then s.refuse q 0x0303 Ms.privilege
    else if k.nsid ≠ 0 then s.refuse q 0x0303 Ms.slotBound
    else (s.setKslot n { k with cur := none, shadow := none }).respond q 0x0303 Ms.success false []))

/-- SLOT_ASSIGN (0x0304, R417): the slots of the range that no namespace is bound to. -/
def execSlotAssign (q : MbxReq) (s : State) : Res :=
  .next (s.serve q ⟨0x0304, 1, false, 5, 5, false⟩ (fun s =>
    let first := le q.payload 0 2
    let count := le q.payload 2 2
    let f := q.payload.getD 4 0
    if 1024 < first + count ∨ count = 0 then s.refuse q 0x0304 Ms.invalidField
    else
      let s := (List.range' first count).foldl (fun (s : State) n =>
        if (s.kslot n).nsid = 0 then s.setKslot n { s.kslot n with owner := f } else s) s
      s.respond q 0x0304 Ms.success false []))

/-- KEY_STATUS (0x0305). -/
def execKeyStatus (q : MbxReq) (s : State) : Res :=
  .next (s.serve q ⟨0x0305, 1, true, 2, 2, false⟩ (fun s =>
    let n := le q.payload 0 2
    let k := s.kslot n
    if 1024 ≤ n then s.refuse q 0x0305 Ms.invalidField
    else if !s.mayNameSlot q.path n then s.refuse q 0x0305 Ms.privilege
    else s.respond q 0x0305 Ms.success false
      ([(k.cur.map KeyEnt.kind).getD 0xFF, k.owner] ++ bytesLe 2 k.lastGen ++ bytesLe 4 k.nsid)))

/-! ### Field access (R481 to R484) -/

/-- UNLOCK_CHALLENGE (0x0306, R482): a nonce of the CTR_DRBG in place of the requester's previous one. -/
def execUnlockChallenge (q : MbxReq) (s : State) : Res :=
  .next (s.serve q ⟨0x0306, 1, false, 0, 0, false⟩ (fun s =>
    let v := Config.drbg s.fresh % 2 ^ 256
    let s := { s with fresh := s.fresh + 1,
                      cip := { s.cip with nonces := ⟨q.path, v, s.plt.frame⟩ :: s.cip.nonces.filter (fun x => decide (x.path ≠ q.path)) } }
    s.respond q 0x0306 Ms.success false (bytesLe 32 v)))

/-- The lockout of R484: 3,686,400 Datum ticks. -/
def lockTicks : Nat := 3686400

/-- Datum ticks of a lockout still to run. -/
def State.lockRemain (s : State) : Nat :=
  match s.cip.lockFrom with
  | none => 0
  | some t => lockTicks - (s.now - t) * 1024 / sTicks

/-- The payload of a checked UNLOCK_RESPONSE (R484): FAILURES_LEFT, and LOCKOUT_END in Datum time. -/
def State.unlockPayload (s : State) : List Nat :=
  [8 - s.cip.failures] ++ zeros 3 ++ bytesLe 8 (if s.cip.lockFrom.isSome then (s.datumTime + s.lockRemain) % 2 ^ 42 else 0)

/-- A nonce is live (R482). -/
def State.liveNonce (s : State) (v : Nat) : Bool :=
  s.cip.nonces.any (fun x => decide (x.value = v ∧ s.plt.frame < x.frame + 60000))

/-- The credential a METHOD is verified against was provisioned (R483): OWNER_FLAGS of the Cartouche row. -/
def State.hasCredential (s : State) (method : Nat) : Bool :=
  match method with
  | 0 => decide (s.otpByte 321 % 2 = 1)
  | 1 => true
  | _ => decide (s.otpByte 321 / 2 % 2 = 1)

/-- The Cartouche bytes a METHOD is verified against (Table 20-4). -/
def State.credential (s : State) (method : Nat) : List Nat :=
  match method with
  | 0 => s.otpBytes 224 97
  | 1 => s.otpBytes 112 97
  | _ => s.otpBytes 336 80

/-- The Gazetteer record of a response (R484, Table 19-5), security severity. -/
def State.unlockRecord (s : State) (q : MbxReq) (method st : Nat) : State :=
  s.record 0x081 0 6 0x000A (method % 4 + st % 256 * 2 ^ 8 + q.path % 256 * 2 ^ 16 + b2n (!isFnPath q.path) * 2 ^ 24)

/-- An UNLOCK_RESPONSE ends with a status: its record, then its response. -/
def State.unlockEnd (s : State) (q : MbxReq) (method st : Nat) : State :=
  let s := s.unlockRecord q method st
  s.respond q 0x0307 st false (if st = Ms.invalidField ∨ st = Ms.invalidLength then [] else s.unlockPayload)

/-- UNLOCK_RESPONSE (0x0307, R482 to R484): in a lockout every response receives LOCKED_OUT and consumes its nonce. -/
def execUnlockResponse (q : MbxReq) (s : State) : Res :=
  .next (s.serve q ⟨0x0307, 1, false, 37, 548, false⟩ (fun s =>
    let m := q.payload.getD 0 0
    let len := le q.payload 2 2
    let v := le q.payload 4 32
    let live := s.liveNonce v
    let used := { s with cip := { s.cip with nonces := s.cip.nonces.filter (fun x => decide (x.value ≠ v)) } }
    if s.cip.lockFrom.isSome then used.unlockEnd q m Ms.lockedOut
    else if q.length ≠ 36 + len ∧ 1 ≤ len ∧ len ≤ 512 then s.unlockEnd q m Ms.invalidLength
    else if 3 ≤ m ∨ len = 0 ∨ 512 < len ∨ q.payload.getD 1 0 ≠ 0 ∨ (m < 2 ∧ len ≠ 96) ∨ s.hasCredential m = false then
      s.unlockEnd q m Ms.invalidField
    else if !live then s.unlockEnd q m Ms.stale
    else if Config.proofOk m v ((q.payload.drop 36).take len) (s.credential m) then
      (({ used with cip := { used.cip with failures := 0, open_ := true } } : State).event F.LEG_EVENTS_UNLOCKED 0 0).unlockEnd q m Ms.success
    else
      let s := ({ used with cip := { used.cip with failures := used.cip.failures + 1 } } : State).event F.LEG_EVENTS_BAD_AUTH 0 0
      let s := if 8 ≤ s.cip.failures then
          ({ s with cip := { s.cip with lockFrom := some s.now } } : State).event F.LEG_EVENTS_LOCKOUT 0 0 else s
      s.unlockEnd q m Ms.badAuth))

/-- NONCE_LAPSE (R482): 60,000 frames after it was issued. -/
def execNonceLapse (value : Nat) (s : State) : Res :=
  .next { s with cip := { s.cip with nonces := s.cip.nonces.filter (fun x => decide (x.value ≠ value ∨ s.plt.frame < x.frame + 60000)) } }

/-- LOCKOUT_END (R484): the hour has run; the count returns to 0. -/
def execLockoutEnd (s : State) : Res :=
  if s.cip.lockFrom.isNone ∨ 0 < s.lockRemain then .next s
  else .next { s with cip := { s.cip with lockFrom := none, lockAgain := false, failures := 0 } }

/-! ### Cipher jobs (R463 to R466, R476 to R480) -/

/-- Generations a slot holds, newest first (R476). -/
def KSlot.held (k : KSlot) : List KeyEnt := k.cur.toList ++ k.shadow.toList

/-- The tag of a sealed LBA under an entry of its slot verifies (R458). -/
def State.tagOk (s : State) (nsid : Nat) (j : CipherJob) (e : KeyEnt) : Bool :=
  decide (j.tag = Config.gcmTag e.key (s.posNonce j.addr) (sealAad nsid e.gen j.lba j.side) j.data)

/-- The tag of an internal metadata quarter verifies (R458). -/
def State.metaOk (s : State) (j : CipherJob) : Bool :=
  decide (j.tag = Config.gcmTag Config.metaKey (s.posNonce j.addr) (sealAad metaNsid 0 j.lba j.side) j.data)

/-- The check of a slot under an entry (R476): the tag of sealed data, the guards of XTS data. -/
def State.trial (s : State) (k : KSlot) (j : CipherJob) (e : KeyEnt) : Bool :=
  if j.kind = 3 then s.tagOk k.nsid j e else if k.cur = some e then j.curOk else j.shadowOk

/-- A sealed LBA's tag failed (R479): the event, the count, and the command's End-to-End Guard Check Error; its output tile bytes are
zeros, so nothing of it is answered. -/
def State.sealedFail (s : State) (j : CipherJob) : State :=
  let s := if j.kind = 3 then (s.event F.CIP_EVENTS_SEALED_AUTH_FAIL 0 0).bump F.CIP_CNT_AUTH_SEALED 0 1 else s
  match j.cmd with
  | some (f, q, c) => s.endCmd f q c Sc.guardCheck
  | none => s

/-- An internal metadata quarter whose tag failed (R480): delivered in plaintext with UNTRUSTED. -/
def State.metaFail (s : State) (data : List Nat) : State :=
  ((s.event F.CIP_EVENTS_META_UNTRUSTED 0 0).bump F.CIP_CNT_AUTH_META 0 1).emit (.answer 0x080 (4 :: 1 :: data))

/-- What a lane delivers of an LBA under an entry: XTS under the LBA as tweak (R457), sealed under its position nonce (R458). -/
def State.opened (s : State) (j : CipherJob) (e : KeyEnt) : List Nat :=
  if j.kind = 3 then Config.gcmCrypt e.key (s.posNonce j.addr) j.data else Config.xts false e.key j.lba j.data

/-- The quarter word read names the generation of one entry (R476). -/
def namedEntry (k : KSlot) (word : Option Nat) : Option KeyEnt :=
  match word with
  | some w => if w / 2 ^ 20 % 2 = 1 then k.held.find? (fun e => decide (e.gen % 256 = w / 2 ^ 8 % 256)) else none
  | none => none

/-- A lane uses an entry of a slot (R469): its expanded schedule stands in the lane's cache of 8, from which the one used longest ago goes
(DESIGN CHOICE, log entry 77). -/
def State.useKey (s : State) (j : CipherJob) (e : KeyEnt) : State :=
  let key := 65536 * j.slot + e.gen
  let l := tabGet (fun _ => []) s.cip.cache j.lane
  { s with cip := { s.cip with cache := tabSet (fun _ => []) s.cip.cache j.lane ((key :: l.filter (fun k => decide (k ≠ key))).take 8) } }

/-- A second trial fits the time the job's command has left (R478): 0.40 µs; for a namespace of LBAF 1 it is part of T_CIPH. -/
def State.trialFits (s : State) (j : CipherJob) : Bool :=
  let k := s.kslot j.slot
  decide (k.held.length < 2) || ((s.nsOf k.nsid).map (fun n => decide (n.lbaf = 1))).getD false
    || ((j.cmd.bind (fun i => s.findCmd i.1 i.2.1 i.2.2)).map (fun c => decide (c.reading s.now + 40 ≤ 100 * c.deadline))).getD true

/-- A read delivers a slot: the key chosen, or the failure (R476 to R479); a reserved FORMAT fails (Table 14-2), and so does a trial
for which no time is left. -/
def State.cipherOpen (s : State) (j : CipherJob) : State :=
  let k := s.kslot j.slot
  let give := fun (s : State) (e : KeyEnt) => (s.useKey j e).emit (.answer 0x080 ([j.kind, j.slot, e.gen] ++ s.opened j e))
  if (j.word.map formatReserved).getD false then s.sealedFail j
  else match namedEntry k j.word with
  | some e => if j.kind = 3 ∧ s.trial k j e = false then s.sealedFail j else give s e
  | none =>
    if !s.trialFits j then s.sealedFail j
    else match k.held.filter (s.trial k j) with
    | [e] => give (s.event F.CIP_EVENTS_GEN_TRIAL 0 0) e
    | [] => s.sealedFail j
    | _ :: _ :: _ => (s.raiseAt 0x081 0 0x11 j.slot).sealedFail j

/-- A lane encrypts or seals an LBA under CURRENT (R456 to R458, R462): the bytes, and its side band quarter, which LBAF 1 has not. -/
def State.cipherClose (s : State) (j : CipherJob) : State :=
  let k := s.kslot j.slot
  match k.cur, s.nsOf k.nsid with
  | some e, some n =>
    let nonce := s.posNonce j.addr
    let data := if j.kind = 2 then Config.gcmCrypt e.key nonce j.data else Config.xts true e.key j.lba j.data
    let tag := if j.kind = 2 then Config.gcmTag e.key nonce (sealAad k.nsid e.gen j.lba j.side) data else 0
    let side := if n.lbaf = 1 then [] else sideQuarter (quarterWord n.lbaf (some e.gen) (s.quarterPoison n j.lba)) j.side tag
    (s.useKey j e).emit (.answer 0x080 ([j.kind, j.slot, e.gen] ++ side ++ data))
  | _, _ => s

/-- A lane seals a quarter of internal metadata under MK (R456, R458, R462). -/
def State.metaClose (s : State) (j : CipherJob) : State :=
  let nonce := s.posNonce j.addr
  let data := Config.gcmCrypt Config.metaKey nonce j.data
  let tag := Config.gcmTag Config.metaKey nonce (sealAad metaNsid 0 j.lba j.side) data
  s.emit (.answer 0x080 ([5] ++ sideQuarter (quarterWord 8 (some 0) 0) j.side tag ++ data))

/-- A sealed IU passes into or out of its staging form (R461): XTS under SK_STG of the staging epoch, tweak NSID × 2^32 + LBA mod 2^32. -/
def State.stagingForm (s : State) (j : CipherJob) : State :=
  let tweak := (s.kslot j.slot).nsid * 2 ^ 32 + j.lba % 2 ^ 32
  s.emit (.answer 0x080 ([j.kind, j.slot, s.pwr.stageEpoch] ++
    Config.xts (decide (j.kind = 6)) (Config.stagingKey s.pwr.stageEpoch) tweak j.data))

/-- A job of a lane that is done leaves its queue. -/
def State.jobDone (s : State) (lane : Nat) : State :=
  { s with cip := { s.cip with jobs := unbookTab s.cip.jobs lane 1 } }

/-- CIPHER_JOB (R464, R465, R476): a compare mismatch fences the lane and leaves the job waiting on another; else the job is done. -/
def execCipherJob (job : CipherJob) (s : State) : Res :=
  if 32 ≤ job.lane ∨ s.fenced 0x080 job.lane = true then .next s
  else if !job.dupOk then
    let s := if job.injected then s.spendFor 0x080 job.lane 0x0A else s
    -- the job waits on the lane until its fence moves it to another (R464)
    let s := { s with cip := { s.cip with jobs := bookTab s.cip.jobs job.lane 1 } }
    .next (s.raise ⟨0x080, job.lane, 0x0A, 0, job.injected, none⟩)
  else
    let s := s.jobDone job.lane
    match job.kind with
    | 0 | 2 => .next (s.cipherClose job)
    | 1 | 3 => .next (s.cipherOpen job)
    | 4 =>
      let data := Config.gcmCrypt Config.metaKey (s.posNonce job.addr) job.data
      .next (if s.metaOk job then s.emit (.answer 0x080 (4 :: 0 :: data)) else s.metaFail data)
    | 5 => .next (s.metaClose job)
    | _ => .next (s.stagingForm job)

end Sys2Proof.Machine
end

