-- ==== Sys2Proof/Machine/Contour.lean ====
section
/-! DEFINITION. The commands of chapter 17 (Contour) beside the frame boundary: samples, rounds, candidates, the critical trip,
THERMAL_GET. -/

set_option linter.unusedVariables false

namespace Sys2Proof.Machine

/-- The region a diode input reads (Table 17-3): hub regions on inputs 48 to 55, the Chartroom die on 56, channel c on 64 + c. -/
def diodeRegion (input : Nat) : Option Nat :=
  if 48 ≤ input ∧ input ≤ 55 then some (128 + (input - 48))
  else if input = 56 then some 136
  else if 64 ≤ input ∧ input < 192 then some (input - 64) else none

/-- The lowest VDD_CORE hub point, inputs 32 to 35 (Table 17-3), in mV, for PWR_AVS. -/
def State.lowestHub (s : State) : Nat :=
  ((List.range' 33 3).foldl (fun (m : Int) i => min m (s.sampleOf i)) (s.sampleOf 32)).toNat

/-- What a sample's result is used for: an anchor where R512 lets it be one (R513, R514), PWR_AVS, and the DEVICE fault of a diode
at 125 °C or more (R526). -/
def State.useSample (s : State) (input : Nat) (value : Int) : State :=
  let s := { s with ctr := { s.ctr with sample := tabSet (fun _ => 0) s.ctr.sample input value } }
  let s := if input = 35 then s.setFld F.PWR_AVS_MEASURED_MV 0 s.lowestHub else s
  match diodeRegion input with
  | none => s
  | some r =>
    let s := if s.pwr.mode = .dormant then s else if s.ctr.wakeDue.contains r then s.setFrom r value
      else if s.mayAnchor r then s.anchor r value else s
    if 2000 ≤ value then s.raiseAt 0x0E0 0 0x18 r else s

/-- The sample that follows (R517, R518): after a round sample at most one on-demand sample runs, then the round goes on. -/
def State.nextSample (s : State) (input : Nat) : State :=
  if input < 64 then
    match s.ctr.demand with
    | [] => { s with ctr := { s.ctr with pos := (input + 1) % 64, running := none } }
    | x :: rest => { s with ctr := { s.ctr with pos := (input + 1) % 64, running := some x, demand := rest } }
  else { s with ctr := { s.ctr with running := none } }

/-- The input whose sample may end now (R517, R518, R528): the on-demand sample that runs, else the round's; in DORMANT those of segment 3. -/
def State.adcSampleDue (s : State) (input : Nat) : Bool :=
  match s.pwr.mode with
  | .vault => false
  | .dormant => decide (48 ≤ input ∧ input < 64)
  | _ => decide (input = s.ctr.running.getD s.ctr.pos)

/-- ADC_SAMPLE_END (R517): a conversion of `input` ends with the corrected result `value`: 1/16 °C of a diode, mV of a voltage.
In VAULT Contour does not run (R528). -/
def execAdcSampleEnd (input : Nat) (value : Int) (s : State) : Res :=
  if s.adcSampleDue input = false then .next s else .next ((s.useSample input value).nextSample input)

/-- ON_DEMAND_SAMPLE_REQUEST (R518). -/
def execOnDemandSampleRequest (input : Nat) (s : State) : Res :=
  if s.pwr.mode = .vault then .next s else .next (s.demandSample input)

/-- One domain's calibration (R511): s_d moves by an eighth of its difference from g_d, limited to 0.5 to 2.0; where the eighth is
not whole in 1/1,024 the spec states no rounding, and which neighbour is taken is free (log entry 5). -/
def State.calibrate (s : State) (d : Nat) : State :=
  let g := Config.calRatio d ((List.range 64).map s.sampleOf)
  let old := s.fld F.CTR_CAL_SCALE d
  let n := 7 * old + g
  let r := s.draw
  let (up, s) := if n % 8 = 0 then (0, s) else (r.1 % 2, r.2)
  let s := s.setFld F.CTR_CAL_SCALE d (max 512 (min 2048 (n / 8 + up)))
  if g < 768 ∨ 1361920 < 1000 * g then s.event F.CTR_EVENTS_CAL_RANGE 0 d else s

/-- The compensation of Datum and of the always-on oscillator (R527), from region 136. -/
def State.compensate (s : State) : State :=
  let t := (s.regionOf 136).model
  let s := s.rebase
  let s := { s with dat := { s.dat with compT := t } }
  if 64 ≤ (t - s.ctr.oscTemp).natAbs then
    { s with ctr := { s.ctr with oscTemp := t } }.event F.CTR_EVENTS_OSC_RETRIM 0 0
  else s

/-- ROUND_END (R511, R520, R527, R235): calibration, round statistics, compensation, retrainings that fall due. -/
def execRoundEnd (s : State) : Res :=
  if s.pwr.mode = .vault then .next s
  else if s.pwr.mode = .dormant then .next s.compensate
  else
    let s := (List.range 19).foldl (fun s d => s.calibrate d) s
    let us := (s.now - s.ctr.roundAt) / usTicks
    let stretch := min 65535 (us - 2560)
    let s := s.setFld F.CTR_ROUND_LAST_US 0 (min 65535 us)
    let s := s.setFld F.CTR_ROUND_STRETCH_US 0 stretch
    let s := s.setFld F.CTR_ROUND_CNT_MAX_STRETCH_US 0 (max stretch (s.fld F.CTR_ROUND_CNT_MAX_STRETCH_US 0))
    let s := s.setFld F.CTR_ROUND_CNT_ROUNDS 0 (s.fld F.CTR_ROUND_CNT_ROUNDS 0 + 1)
    let s := { s with ctr := { s.ctr with roundAt := s.now, pos := 0 } }
    .next s.compensate.retrainCheck

/-- CANDIDATE_UNQUIETABLE (R516): a candidate not granted within 1 s is named no more until the next slot has ended. -/
def execCandidateUnquietable (s : State) : Res :=
  match s.ctr.cand with
  | none => .next s
  | some c =>
    if s.now < s.ctr.candAt + sTicks then .next s
    else
    let s := { s with ctr := { s.ctr with cand := none, unquiet := c :: s.ctr.unquiet } }
    .next (s.event F.CTR_EVENTS_UNQUIETABLE 0 c)

/-- CRIT_TRIP_CLEAR (R525): after 1,000 consecutive frames below T_CRIT − 10 °C. -/
def execCritTripClear (s : State) : Res :=
  if s.ctr.trip ∧ 1000 ≤ s.ctr.below then .next s.tripClears else .next s

/-- CRIT_TRIP_TIMEOUT (R526): a trip that has not cleared within 60 s is a DEVICE-class fault. -/
def execCritTripTimeout (s : State) : Res :=
  if s.ctr.trip ∧ s.ctr.tripFrom + 60 * sTicks ≤ s.now then .next (s.raiseAt 0x0E0 0 0x18 s.ctr.hottest) else .next s

/-- A value of 16 bits, two's complement. -/
def int16 (v : Int) : Nat := (v % 65536).toNat

/-- THERMAL_GET (0x0805): model value, bound and anchor age of every region. -/
def execThermalGet (q : MbxReq) (s : State) : Res :=
  .next (s.serve q ⟨0x0805, 3, true, 0, 0, false⟩ (fun s =>
    s.respond q 0x0805 Ms.success false ((List.range 137).flatMap (fun r =>
      bytesLe 2 (int16 (s.regionOf r).model) ++ [s.bound r, s.anchorAge r]))))

end Sys2Proof.Machine
end

