-- ==== Sys2Proof/Machine/Contracts.lean ====
section
/-! DEFINITION. The contracts group of mailbox opcodes, 0x01xx (Tables 13-4 and 13-5, R33 to R48, R360, R415). -/

set_option linter.unusedVariables false

namespace Sys2Proof.Machine

/-- The class record of Table 13-5. -/
def State.classRecord (s : State) (c : Nat) : List Nat :=
  let x := s.cls c
  [c, b2n x.enable + 2 * b2n x.hold + 128 * b2n x.unfit] ++ bytesLe 2 x.holdLimit
    ++ [x.dlRead, x.dlWrite, x.dlFua, x.dlFlush, x.dlDealloc, x.dlOther].flatMap (bytesLe 4)
    ++ bytesLe 4 x.rateCmds ++ bytesLe 4 x.rateBytes ++ zeros 4

/-- The class a record defines; UNFIT is not taken from it. -/
def classOf (p : List Nat) : Cls :=
  { enable := decide (p.getD 1 0 % 2 = 1), hold := decide (p.getD 1 0 / 2 % 2 = 1), holdLimit := le p 2 2,
    dlRead := le p 4 4, dlWrite := le p 8 4, dlFua := le p 12 4, dlFlush := le p 16 4, dlDealloc := le p 20 4,
    dlOther := le p 24 4, rateCmds := le p 28 4, rateBytes := le p 32 4, unfit := false }

/-- Table 02-3's ranges; the reserved bits and bytes of the record are zero. -/
def classInRange (p : List Nat) : Bool :=
  let x := classOf p
  decide (p.getD 0 0 < 64) && decide (p.getD 1 0 % 128 < 4) && decide (le p 36 4 = 0)
    && decide (1 ≤ x.holdLimit ∧ x.holdLimit ≤ 10000) && decide (150 ≤ x.dlRead ∧ x.dlRead ≤ 64000)
    && decide (20 ≤ x.dlWrite ∧ x.dlWrite ≤ 64000) && decide (x.dlFua ≤ 64000) && decide (x.dlFlush ≤ 64000)
    && decide (100 ≤ x.dlDealloc ∧ x.dlDealloc ≤ 64000) && decide (100 ≤ x.dlOther ∧ x.dlOther ≤ 64000)
    && decide (x.rateCmds ≤ 128000000) && decide (x.rateBytes ≤ 480000)

/-- CLASS_GET (0x0101). -/
def execClassGet (q : MbxReq) (s : State) : Res :=
  .next (s.serve q ⟨0x0101, 1, true, 1, 1, false⟩ (fun s =>
    let c := q.payload.getD 0 0
    if 64 ≤ c then s.refuse q 0x0101 Ms.invalidField
    else if !hasDevicePrivilege q.path && !s.permitted q.path c then s.refuse q 0x0101 Ms.privilege
    else s.respond q 0x0101 Ms.success false (s.classRecord c)))

/-- CLASS_SET (0x0102): refused whole under R415; otherwise the class is redefined, its buckets are full where a rate changed
(R41), and UNFIT follows the floors (R48). -/
def execClassSet (q : MbxReq) (s : State) : Res :=
  .next (s.serve q ⟨0x0102, 1, false, 40, 40, false⟩ (fun s =>
    let c := q.payload.getD 0 0
    let x := classOf q.payload
    let old := s.cls c
    if !classInRange q.payload then s.refuse q 0x0102 Ms.invalidField
    else if !x.enable && !(s.boundFns c).isEmpty then s.refuse q 0x0102 Ms.classBound
    else if x.dlFua < s.floors.fua ∨ x.dlFlush < s.floors.flush then s.refuse q 0x0102 Ms.reserveLimit
    else
      let s := s.setCls c { x with unfit := old.unfit }
      let s := if x.rateCmds ≠ old.rateCmds ∨ x.rateBytes ≠ old.rateBytes then
          { s with buckets := s.buckets.filter (fun e => decide (e.1 % 64 ≠ c)) } else s
      (s.recheck1 c).respond q 0x0102 Ms.success false []))

/-- MASK_SET (0x0103, R37): the permitted-class mask of a function; queues bound to a class it removes stay bound. -/
def execMaskSet (q : MbxReq) (s : State) : Res :=
  .next (s.serve q ⟨0x0103, 1, false, 16, 16, false⟩ (fun s =>
    let f := q.payload.getD 0 0
    if le q.payload 1 7 ≠ 0 then s.refuse q 0x0103 Ms.invalidField
    else
      let s := s.setReg .HST_CLASS_MASK_LO f (BitVec.ofNat 32 (le q.payload 8 4))
      let s := s.setReg .HST_CLASS_MASK_HI f (BitVec.ofNat 32 (le q.payload 12 4))
      s.respond q 0x0103 Ms.success false []))

/-- DEFAULT_SET (0x0104, R38, R411). -/
def execDefaultSet (q : MbxReq) (s : State) : Res :=
  .next (s.serve q ⟨0x0104, 1, true, 2, 2, false⟩ (fun s =>
    let c := q.payload.getD 1 0
    match fnNamed q.path (q.payload.getD 0 0) with
    | none => s.refuse q 0x0104 Ms.privilege
    | some f =>
      if 64 ≤ c then s.refuse q 0x0104 Ms.invalidField
      else if !hasDevicePrivilege q.path && !s.permitted f c then s.refuse q 0x0104 Ms.privilege
      else (s.setFld F.HST_CLASS_DEFAULT_CLASS f c).respond q 0x0104 Ms.success false []))

/-- QUEUE_BIND (0x0105, R37, R39, R415): the binding applies from the first fetch after the response. A VF that names a class outside its mask
receives PRIVILEGE (R411), not NOT_PERMITTED (R37, R415; DESIGN CHOICE, log entry 75: the spec does not say which of the two). -/
def execQueueBind (q : MbxReq) (s : State) : Res :=
  .next (s.serve q ⟨0x0105, 1, true, 4, 4, false⟩ (fun s =>
    let c := q.payload.getD 1 0
    let k := le q.payload 2 2
    match fnNamed q.path (q.payload.getD 0 0) with
    | none => s.refuse q 0x0105 Ms.privilege
    | some f =>
      if 64 ≤ c ∨ k = 0 ∨ 512 < k then s.refuse q 0x0105 Ms.invalidField
      else if !hasDevicePrivilege q.path && !s.permitted f c then s.refuse q 0x0105 Ms.privilege
      else match s.sqOf f k with
        | none => s.refuse q 0x0105 Ms.invalidField
        | some x =>
          if !s.bindable f c then s.refuse q 0x0105 Ms.notPermitted
          else (s.setSq f k (some { x with newCls := some c })).respond q 0x0105 Ms.success false []))

/-- FLOORS_GET (0x0106): every floor of Table 03-6 in version 3 sessions. -/
def execFloorsGet (q : MbxReq) (s : State) : Res :=
  .next (s.serve q ⟨0x0106, 1, true, 0, 0, false⟩ (fun s =>
    let f := s.floors
    let base := [f.read, f.detour, f.fua, f.flush].flatMap (bytesLe 4)
    let more := if (s.mb q.path).version = 3 then [f.write, f.dealloc, f.other].flatMap (bytesLe 4) else []
    s.respond q 0x0106 Ms.success false (base ++ more)))

/-- The sum of the queue quotas of the 256 functions (R360). -/
def State.quotaTotal (s : State) : Nat := (List.range 256).foldl (fun n f => n + (s.fnOf f).quota) 0

/-- QUOTA_SET (0x0107, R360): in force from the next controller reset of the function. -/
def execQuotaSet (q : MbxReq) (s : State) : Res :=
  .next (s.serve q ⟨0x0107, 1, false, 4, 4, false⟩ (fun s =>
    let f := q.payload.getD 0 0
    let n := le q.payload 2 2
    if q.payload.getD 1 0 ≠ 0 ∨ n < 2 ∨ 512 < n then s.refuse q 0x0107 Ms.invalidField
    else
      let t := s.setFn f { s.fnOf f with quota := n }
      if 8192 < t.quotaTotal then s.refuse q 0x0107 Ms.quotaExceeded
      else t.respond q 0x0107 Ms.success false (bytesLe 2 t.quotaTotal)))

/-- R108: HK + TH + RECON_g stays at or below 0.500 for every group. -/
def State.reserveFits (s : State) (hk th : Nat) (recon : Nat → Nat) : Bool :=
  (List.range 128).all (fun g => decide (hk + th + recon g ≤ 500))

/-- RESERVE_SET (0x0108, R91, R108): 0xFFFF leaves a value; GROUP 0xFF names every group. -/
def execReserveSet (q : MbxReq) (s : State) : Res :=
  .next (s.serve q ⟨0x0108, 3, false, 8, 8, false⟩ (fun s =>
    let keep := fun v old => if v = 0xFFFF then old else v
    let hk := keep (le q.payload 0 2) (s.fld F.PLT_RESERVE_HK_PERMILLE 0)
    let th := keep (le q.payload 2 2) (s.fld F.PLT_RESERVE_THERMAL_PERMILLE 0)
    let g := q.payload.getD 4 0
    let r := le q.payload 6 2
    let named := fun k => decide (r ≠ 0xFFFF) && (decide (g = 0xFF) || decide (g = k))
    let recon := fun k => if named k then r else s.fld F.PLT_RECON_RECON_PERMILLE k
    if q.payload.getD 5 0 ≠ 0 ∨ (128 ≤ g ∧ g ≠ 0xFF) ∨ hk < 10 ∨ 200 < hk ∨ th < 50 ∨ 400 < th ∨ (r ≠ 0xFFFF ∧ 200 < r) then
      s.refuse q 0x0108 Ms.invalidField
    else if !s.reserveFits hk th recon then s.refuse q 0x0108 Ms.reserveLimit
    else
      let s := (s.setFld F.PLT_RESERVE_HK_PERMILLE 0 hk).setFld F.PLT_RESERVE_THERMAL_PERMILLE 0 th
      let s := (List.range 128).foldl (fun s k => if named k then s.setFld F.PLT_RECON_RECON_PERMILLE k r else s) s
      s.respond q 0x0108 Ms.success false []))

end Sys2Proof.Machine
end

