-- ==== Sys2Proof/Machine/Endpoint.lean ====
section
/-! DEFINITION. The events of the PCIe endpoint (chapter 11, R323 to R355). -/

set_option linter.unusedVariables false

namespace Sys2Proof.Machine

/-! ### Links and resets -/

/-- Table 11-1: GB/s of a generation at x16. -/
def genRate (gen : Nat) (flit : Bool) : Nat :=
  match gen, flit with
  | 4, true => 30 | 4, false => 28 | 5, true => 60 | 5, false => 56 | 6, true => 120 | 7, true => 240 | _, _ => 0

/-- A width of R323. -/
def widthOk (w : Nat) : Bool := decide (w = 1 ∨ w = 2 ∨ w = 4 ∨ w = 8 ∨ w = 16)

/-- The time by which a lower rate lengthens the transfers of commands admitted before the change is host wait (R325). -/
def State.slowTransfers (s : State) (port old new : Nat) : State :=
  { s with cmds := s.cmds.map (fun (c : Cmd) =>
      let q := hostQ new c.bytes - hostQ old c.bytes
      if c.fn / 128 = port ∧ c.accepted ∧ c.phase ≠ .posting ∧ c.win = none ∧ 0 < q then
        { c with spans := addSpan c.spans s.now (s.now + ceilDiv q qTick) } else c) }

/-- LINK_RATE_CHANGE (R323 to R325): the link as trained; admissions use the rate from the next frame boundary. A port whose link is down
in HOLDUP is not retrained before start-up (R355). -/
def execLinkRateChange (port gen width : Nat) (flit : Bool) (s : State) : Res :=
  if 2 ≤ port ∨ genRate gen flit = 0 ∨ !widthOk width ∨ s.fenced 0x010 port ∨ (s.pwr.mode = .holdup ∧ !(s.port port).up) then .next s
  else
    let x := s.port port
    let s := s.slowTransfers port x.rate (genRate gen flit * width)
    .next (s.setPort port { x with up := true, gen := gen, width := width, flit := flit, l2 := false, rate := genRate gen flit * width })

/-- CONVENTIONAL_RESET (R352, R354): cause 0 PERST asserted, 1 hot reset, 2 data link down. -/
def execConventionalReset (port cause : Nat) (s : State) : Res :=
  if 2 ≤ port then .next s
  else
    let x := s.port port
    match cause with
    | 0 => .next ((s.setPort port { x with perst := true, up := false, rate := 0, gen := 0, width := 0, l2 := false }).resetPort port)
    | 1 => .next (s.resetPort port)
    | _ =>
      let s := s.linkDown port
      .next (s.record 0x010 port 0 0x0008 (port + x.rate / 16 % 256 * 2 ^ 8 + x.width % 32 * 2 ^ 16))

/-- PERST_RELEASE (R641, R489): the port may train; the release wakes DORMANT. -/
def execPerstRelease (port : Nat) (s : State) : Res :=
  if 2 ≤ port ∨ (s.port port).perst = false then .next s
  else
    let s := s.setPort port { s.port port with perst := false, l2 := false }
    if s.pwr.mode = .dormant ∨ s.pwr.entering.isSome then .next s.wake else .next s

/-- FLR (R353): of a PF it resets its VFs and clears VF Enable. -/
def execFlr (fn : Nat) (s : State) : Res :=
  if 256 ≤ fn ∨ !(s.fnOf fn).enabled then .next s
  else if fn % 128 = 0 then
    .next ((s.resetFns ((portFns (fn / 128)).filter (fun f => decide (f = fn) || (s.fnOf f).enabled)) 0).clearVfs (fn / 128))
  else .next (s.resetFn fn 0)

/-- VF_ENABLE_WRITE (R328, R329): without ARI only VFs 1 to 7 respond. -/
def execVfEnableWrite (port : Nat) (enable : Bool) (numVfs : Nat) (ari : Bool) (s : State) : Res :=
  if 2 ≤ port ∨ 127 < numVfs then .next s
  else if enable then
    let x := s.fnOf (128 * port)
    let s := s.setFn (128 * port) { x with vfEnable := true, numVfs := numVfs, ari := ari }
    let n := if ari then numVfs else min numVfs 7
    .next ((List.range' 1 n).foldl (fun s v => let f := 128 * port + v; s.setFn f { s.fnOf f with enabled := true }) s)
  else
    .next ((s.resetFns (((List.range' 1 127).map (fun v => 128 * port + v)).filter (fun f => (s.fnOf f).enabled)) 0).clearVfs port)

/-! ### BAR4 (R332 to R335) -/

/-- Contents of a function's window are discarded. -/
def State.dropWindow (s : State) (f : Nat) : State :=
  { s with window := s.window.filter (fun e => decide (e.1 / 2 ^ 40 ≠ f)) }

/-- A change of one function's BAR4 size: contents discarded, commands that use the window end with Data Transfer Error. -/
def State.resizeBar (s : State) (f size : Nat) : State :=
  let x := s.fnOf f
  if x.bar4 = size then s
  else
    let s := (s.setFn f { x with bar4 := size, backing := min x.backing size }).dropWindow f
    (s.cmds.filter (fun c => decide (c.win = some f ∧ c.phase ≠ .posting))).foldl (fun s c => s.dataError c) s

/-- BAR_SIZE_WRITE (R332): a PF's own BAR4; the VF Resizable BAR sets every VF of the port. -/
def execBarSizeWrite (fn log2 : Nat) (s : State) : Res :=
  if 256 ≤ fn ∨ log2 < 20 then .next s
  else if fn % 128 = 0 then (if 35 < log2 then .next s else .next (s.resizeBar fn (2 ^ log2)))
  else if 28 < log2 then .next s
  else .next ((List.range' 1 127).foldl (fun s v => s.resizeBar (fn / 128 * 128 + v) (2 ^ log2)) s)

/-- The direct window region (R334): what is over the 348 GiB of Table 01-8, at most 32 GiB. -/
def State.directRegion (s : State) : Nat := min 32 (s.dramGib - 348) * 2 ^ 30

/-- Backing allocated. -/
def State.backingUsed (s : State) : Nat := s.fns.foldl (fun n e => n + e.2.backing) 0

/-- CMBMSC_WRITE (R334): CMSE set takes backing in order of arrival; CMSE cleared returns it. -/
def execCmbmscWrite (fn : Nat) (cre cmse : Bool) (s : State) : Res :=
  if 256 ≤ fn ∨ !(s.fnOf fn).enabled then .next s
  else
    let x := s.fnOf fn
    if cmse && !x.cmse then
      .next (s.setFn fn { x with cre := cre, cmse := true, backing := min x.bar4 (s.directRegion - s.backingUsed) })
    else if !cmse && x.cmse then .next ((s.setFn fn { x with cre := cre, cmse := false, backing := 0 }).dropWindow fn)
    else .next (s.setFn fn { x with cre := cre })

/-- DIRECT_WINDOW_WRITE (R334): bytes within the backing are written, the others ignored. -/
def execDirectWindowWrite (fn offset : Nat) (data : List Nat) (s : State) : Res :=
  if 256 ≤ fn ∨ !(s.fnOf fn).enabled then .next s
  else
    let n := (s.fnOf fn).backing
    let w := (List.range data.length).foldl (fun m k =>
      if offset + k < n then tabSet (fun _ => 0#8) m (fn * 2 ^ 40 + offset + k) (BitVec.ofNat 8 (data.getD k 0)) else m) s.window
    .next { s with window := w }

/-! ### MSI-X, the Gazetteer window, ATS, errors -/

/-- Pending messages of a function that nothing masks any more are sent (R343). -/
def State.sendPending (s : State) (fn : Nat) : State :=
  let x := s.fnOf fn
  if !x.msixEn || x.msixMask then s
  else
    let go := x.vec.filter (fun e => e.2.pending && !e.2.masked)
    let s := s.setFn fn { x with vec := go.foldl (fun m e => tabSet (fun _ => MsixVec.reset) m e.1 { e.2 with pending := false }) x.vec }
    go.foldl (fun s e => s.emit (.msix fn e.1)) s

/-- MSIX_UNMASK (R343): a write of a vector's mask, of Function Mask or of MSI-X Enable. -/
def execMsixUnmask (fn : Nat) (what : MsixWrite) (s : State) : Res :=
  if 256 ≤ fn then .next s
  else
    let x := s.fnOf fn
    let x' := match what with
      | .vector v m => if v < msixCount fn then
          { x with vec := tabSet (fun _ => MsixVec.reset) x.vec v { tabGet (fun _ => MsixVec.reset) x.vec v with masked := m } } else x
      | .function m => { x with msixMask := m }
      | .enable on => { x with msixEn := on }
    .next ((s.setFn fn x').sendPending fn)

/-- GAZ_RECORD_LATCH_READ (R341): the whole record is latched, and its first dword read back. -/
def execGazRecordLatchRead (fn record : Nat) (s : State) : Res :=
  if 256 ≤ fn ∨ 8192 ≤ record then .next s
  else .next (s.latchGaz fn record)

/-- POISONED_WRITE (R350): discarded, POISONED_WR set, reported. -/
def execPoisonedWrite (fn bar : Nat) (s : State) : Res :=
  if 256 ≤ fn then .next s else .next ((s.event F.HST_FN_EVENTS_POISONED_WR fn 0).aerErr fn 3)

/-- RECEIVED_TLP_ERROR (R350): rows 1 and 6 to 9 of Table 11-8; an error of the port is logged in its PF. -/
def execReceivedTlpError (port : Nat) (fn : Option Nat) (err : Nat) (s : State) : Res :=
  if 2 ≤ port ∨ !(decide (err = 1) || decide (6 ≤ err ∧ err ≤ 9)) then .next s
  else .next (s.aerErr (fn.getD (128 * port)) err)

/-- ATS_INVALIDATE (R346): the translation is used no more; the invalidation completes once no request that used it is outstanding. -/
def execAtsInvalidate (fn page : Nat) (s : State) : Res :=
  if 256 ≤ fn then .next s
  else
    let x := s.fnOf fn
    .next ((s.setFn fn { x with atsHeld := x.atsHeld.filter (fun p => decide (p ≠ page)), atsInval := x.atsInval ++ [page] }).atsDone fn)

end Sys2Proof.Machine
end

