-- ==== Sys2Proof/Machine/Faults.lean ====
section
/-! DEFINITION. The commands of chapter 18: faults, fences, the FAULT_N pin, injection, and the fault requests of Table 13-11
and 13-12; die link flits (R11, R12). -/

set_option linter.unusedVariables false

namespace Sys2Proof.Machine

/-- FLIT_CRC_ERROR (R11, R12): the receiving end counts the error, the far end the replay; a flit delivered after a replay is
a CORRECTED fault of both ends; the ninth failure fails the link as a DEVICE fault of both ends. -/
def execFlitCrcError (j : Nat) (delivered : Bool) (s : State) : Res :=
  let far := if j % 2 = 0 then j + 1 else j - 1
  if 10 ≤ j ∨ s.fld F.CHR_LINK_STAT_FAILED j = 1 then .next s
  else
    let n := tabGet (fun _ => 0) s.links j + 1
    let s := s.bump F.CHR_LINK_STAT_CRC_ERRORS j 1
    if 9 ≤ n then
      let s := (s.setFld F.CHR_LINK_STAT_FAILED j 1).setFld F.CHR_LINK_STAT_FAILED far 1
      let s := { s with links := tabSet (fun _ => 0) s.links j 0 }
      .next ((s.raiseAt 0x0D0 j 0x07 0).raiseAt 0x0D0 far 0x07 0)
    else
      let s := s.bump F.CHR_LINK_STAT_REPLAYS far 1
      if delivered then
        let s := { s with links := tabSet (fun _ => 0) s.links j 0 }
        .next ((s.raiseAt 0x0D0 j 0x06 0).raiseAt 0x0D0 far 0x06 0)
      else .next { s with links := tabSet (fun _ => 0) s.links j n }

/-- A corrected error of the tile SRAM is counted there too (R440); an isolated instance reports nothing (R539). -/
def State.countTileCe (s : State) (r : FaultReport) : State :=
  if r.block = 0x060 ∧ r.cause = 0x01 ∧ (s.unit r.block r.inst).isolated = false then s.bump F.TIL_ECC_CE 0 1 else s

/-- FAULT_DETECTED (R531 to R545). An injected fault spends the transactions of its checker that raised it (log entry 15). -/
def execFaultDetected (r : FaultReport) (s : State) : Res :=
  let s := s.countTileCe r
  .next (if r.injected then (s.spendFor r.block r.inst r.cause).raise r else s.raise r)

/-- PULSE_END (R550, R551): the pulse ends; the pin follows LEVEL. -/
def execPulseEnd (s : State) : Res := .next { s with pin := { s.pin with pulsing := false } }

/-- FENCE_IND_RELEASE (R546): the indication of a unit that has left its fence is released; a later fence of it may be
recorded again by its partners (R545). -/
def execFenceIndRelease (block inst : Nat) (s : State) : Res :=
  let u := s.unit block inst
  if u.fenced || !u.ind then .next s
  else
    let s := s.setUnit block inst { u with ind := false }
    .next { s with flt := s.flt.map (fun (e : Nat × FltUnit) =>
      (e.1, { e.2 with partners := e.2.partners.filter (fun k => decide (k ≠ unitKey block inst)) })) }

/-- FENCE written to FLT_CTL (R542). -/
def State.softFence (s : State) (block inst : Nat) : State :=
  if hasFence block && unitOk block inst && !s.fenced block inst then s.raiseAt block inst 0x16 0 else s

/-- CNT_CLEAR written to FLT_CTL (Table 18-9). -/
def State.clearCounts (s : State) (block inst : Nat) : State :=
  if unitOk block inst then s.setUnit block inst { s.unit block inst with corr := 0, cont := 0 } else s

/-- REARM written to FLT_PIN_CTL (R551): ARMED sets. -/
def State.rearm (s : State) : State := (s.setFld F.FLT_PIN_CTL_ARMED 0 1).setFld F.FLT_PIN_CTL_REARM 0 0

/-- FENCE (R542): a SOFTWARE_FENCE of a unit that has a fence; a fenced unit's bit reads 1 already. -/
def execFence (block inst : Nat) (s : State) : Res := .next (s.softFence block inst)

/-- CNT_CLEAR (Table 18-9). -/
def execCntClear (block inst : Nat) (s : State) : Res := .next (s.clearCounts block inst)

/-- REARM (R551): ARMED sets, and REARM clears as it does. -/
def execRearm (s : State) : Res := .next s.rearm

/-- LEVEL_WRITE (R550). -/
def execLevelWrite (level : Bool) (s : State) : Res := .next (s.setFld F.FLT_PIN_CTL_LEVEL 0 (b2n level))

/-- GO on path `k` (R553, R554): see `execGo`. -/
def State.injectGo (s : State) (k : Nat) : State :=
  let b := s.fld F.FLT_INJ_SEL_BLOCK k
  let i := s.fld F.FLT_INJ_SEL_INSTANCE k
  let c := s.fld F.FLT_INJ_SEL_CHECKER k
  let single := decide (s.fld F.FLT_INJ_SEL_SINGLE k = 1)
  let n := s.fld F.FLT_INJ_CTL_N k
  if !s.cip.open_ || !unitOk b i || !injectOk b c single n then s.setFld F.FLT_INJ_STATUS_REFUSED 0 1
  else if s.injBusy b i c then s.setFld F.FLT_INJ_STATUS_BUSY 0 1
  else s.arm b i c single n

/-- GO (R553, R554, Table 18-13): starts the injection named by the path's FLT_INJ_SEL and N; BUSY where the checker has
transactions left, REFUSED where field access is closed or the injection is not permitted. -/
def execGo (path : Path) (s : State) : Res := .next (s.injectGo (pathNum path))

/-- FAULT_GET (0x0703). -/
def execFaultGet (q : MbxReq) (s : State) : Res :=
  .next (s.serve q ⟨0x0703, 1, false, 4, 4, false⟩ (fun s =>
    let b := le q.payload 0 2
    let i := le q.payload 2 2
    if !unitOk b i then s.refuse q 0x0703 Ms.unknownUnit
    else s.respond q 0x0703 Ms.success false
      (bytesLe 4 (s.fltStatus b i).toNat ++ bytesLe 4 (s.fltMask b i).toNat ++ [b2n (s.fenced b i)])))

/-- FAULT_MASK (0x0704, Table 18-8); a mask with reserved bits set is out of range (R423). -/
def execFaultMask (q : MbxReq) (s : State) : Res :=
  .next (s.serve q ⟨0x0704, 1, false, 8, 8, false⟩ (fun s =>
    let b := le q.payload 0 2
    let i := le q.payload 2 2
    let m := le q.payload 4 4
    if !unitOk b i then s.refuse q 0x0704 Ms.unknownUnit
    else if m % 8 ≠ 0 ∨ 512 ≤ m then s.refuse q 0x0704 Ms.invalidField
    else (s.setUnit b i { s.unit b i with mask := m / 8 }).respond q 0x0704 Ms.success false []))

/-- FAULT_PIN (0x0705): FLT_PIN_CTL written (Table 18-11): PULSE_MS, LEVEL, REARM. -/
def execFaultPin (q : MbxReq) (s : State) : Res :=
  .next (s.serve q ⟨0x0705, 1, false, 4, 4, false⟩ (fun s =>
    let w := BitVec.ofNat 32 (le q.payload 0 4)
    let ms := bits w 15 8
    if ms < 10 ∨ bits w 31 16 ≠ 0 ∨ bits w 7 4 ≠ 0 then s.refuse q 0x0705 Ms.invalidField
    else
      let s := (s.setFld F.FLT_PIN_CTL_PULSE_MS 0 ms).setFld F.FLT_PIN_CTL_LEVEL 0 (bits w 0 0)
      let s := if bits w 2 2 = 1 then s.setFld F.FLT_PIN_CTL_ARMED 0 1 else s
      s.respond q 0x0705 Ms.success false []))

/-- A bay's unit reset (Table 10-4, R548): REJECTED or FAULTED with presence held, and OFF, go to WAIT_POWER. -/
def State.bayReset (s : State) (b : Nat) : State × Bool :=
  let x := s.bay b
  if (x.st = .rejected ∨ x.st = .faulted) ∧ x.present ∨ x.st = .off then
    let u := s.unit 0x0C0 b
    ((s.setUnit 0x0C0 b { u with fenced := false, inj := [] }).toBay b .waitPower, true)
  else (s, false)

/-- The instance's state returns to its reset values (R548 step 2): its fault words but for FENCED, the indications, the event bits and the
counts; a cipher lane's key cache; a flash channel's rate and training. Its work has gone with its fence or isolation. -/
def State.resetInstance (s : State) (b i h : Nat) : State :=
  let u := s.unit b i
  let s := s.setUnit b i { u with inj := [], requal := some h, requalBad := false, mask := FltUnit.reset.mask, lastClass := 0, lastCause := 0 }
  match b with
  | 0x080 => { s with cip := { s.cip with cache := tabSet (fun _ => []) s.cip.cache i [] } }
  | 0x0A0 => s.setChan i { s.chan i with rate := 0, lpddr4 := false, trained := false, due := false, stepsLeft := 0, late := false }
  | _ => s

/-- UNIT_RESET (0x0702, R547, R548): isolated where it is not fenced, reset with its injections cancelled (R554), then
re-qualified by Survey's FULL test; the verdict comes with TEST_END. The functions of a port in service cannot move: NO_SIBLING. -/
def execUnitReset (q : MbxReq) (sibling : Bool) (s : State) : Res :=
  .next (s.serve q ⟨0x0702, 2, false, 4, 4, true⟩ (fun s =>
    let b := le q.payload 0 2
    let i := le q.payload 2 2
    let u := s.unit b i
    if !unitOk b i then s.refuse q 0x0702 Ms.unknownUnit
    else if !hasFence b then s.refuse q 0x0702 Ms.invalidField
    else if u.requal.isSome then s.refuse q 0x0702 Ms.busy
    else if b = 0x0C0 then
      let r := s.bayReset i
      let l := r.1.toService.startLong q 0x0702 []
      l.2.opDone (some l.1) Ms.success [b2n r.2]
    else if !u.fenced && (!sibling || !s.hasSibling b i || decide (b = 0x010)) then s.refuse q 0x0702 Ms.noSibling
    else
      let l := s.toService.startLong q 0x0702 []
      let s := if u.fenced then l.2 else l.2.isolate b i
      let s := s.resetInstance b i l.1
      { s with srv := { s.srv with running := s.srv.running ++ [⟨b, i, 0, 0, some l.1, true, false⟩] } }))

/-- INJECT (0x0901, R553, R554, R422). -/
def execInject (q : MbxReq) (s : State) : Res :=
  .next (s.serve q ⟨0x0901, 1, false, 6, 6, false⟩ (fun s =>
    let b := le q.payload 0 2
    let i := le q.payload 2 2
    let c := q.payload.getD 4 0
    let n := q.payload.getD 5 0
    let k := c % 16
    let single := decide (c / 128 % 2 = 1)
    if !s.cip.open_ then s.refuse q 0x0901 Ms.closed
    else if !unitOk b i then s.refuse q 0x0901 Ms.unknownUnit
    else if c / 16 % 8 ≠ 0 ∨ !injectOk b k single n then s.refuse q 0x0901 Ms.invalidField
    else if s.injBusy b i k then s.refuse q 0x0901 Ms.injectBusy
    else (s.arm b i k single n).respond q 0x0901 Ms.success false []))

/-- DIAG_CLOSE (0x0902, R481, R422): field access closes; injections run out their count (Table 15-4). -/
def execDiagClose (q : MbxReq) (s : State) : Res :=
  .next (s.serve q ⟨0x0902, 1, false, 0, 0, false⟩ (fun s =>
    ({ s with cip := { s.cip with open_ := false } }).respond q 0x0902 Ms.success false []))

end Sys2Proof.Machine
end

