-- ==== Sys2Proof/Machine/Mailbox.lean ====
section
/-! DEFINITION. The mailbox transport and the session group, 0x00xx (R398 to R414, Table 13-3). -/

set_option linter.unusedVariables false

namespace Sys2Proof.Machine

/-! ### Segments -/

/-- Bytes of a function's inbound mailbox. -/
def State.inboxBytes (s : State) (f off n : Nat) : List Nat :=
  (List.range n).map (fun k => (tabGet (fun _ => 0#8) s.inbox (4096 * f + off + k)).toNat)

/-- A message that cannot be taken is answered with its status (R402, R406). -/
def State.segAbort (s : State) (p op : Nat) (q : MbxReq) (st : Nat) : State :=
  (s.setMb p { s.mb p with seg := none, busy := isFnPath p, segTaken := false }).refuse q op st

/-- A segment has been copied and another follows (R406, R407): SEG_TAKEN on a function, a SEG_ACK message on the port. -/
def State.segTake (s : State) (p : Nat) (b : SegBuf) : State :=
  let m := s.mb p
  let s := s.setMb p { m with seg := some b, busy := false, segTaken := true }
  if isFnPath p then s.event F.MBX_EVENTS_SEG_TAKEN p 0
  else s.emit (.mbxSegment p (mbHeader b.version b.opcode b.tag 0 0 false false true))

/-- One segment, header `h` and the bytes behind it, is taken (R400, R403, R406): `carried` is the number of payload bytes
the transport itself gives, none where the header decides. -/
def State.takeSegment (s : State) (p : Nat) (h : List Nat) (carried : Option Nat) (data : List Nat) : State :=
  let m := s.mb p
  let ver := h.getD 0 0
  let fl := h.getD 1 0
  let op := le h 2 2
  let tag := le h 4 2
  let len := le h 8 4
  let more := decide (fl / 2 % 2 = 1)
  let resv := decide (fl / 4 = 0 ∧ fl % 2 = 0 ∧ le h 6 2 = 0 ∧ le h 12 4 = 0)
  let got := (m.seg.map SegBuf.bytes).getD []
  let q : MbxReq := ⟨p, ver, tag, len, resv, got⟩
  let changed := match m.seg with
    | some b => decide (b.version ≠ ver ∨ b.opcode ≠ op ∨ b.tag ≠ tag ∨ b.length ≠ len ∨ b.resvZero ≠ resv)
    | none => false
  let n := carried.getD (if more then 4080 else len - got.length)
  if m.seg.isNone && decide (65536 < len ∨ (m.respVersion = 1 ∧ 4080 < len)) then s.segAbort p op q Ms.invalidLength
  else if changed || decide (4080 < n ∨ (more = true ∧ n < 4080) ∨ len < got.length + n
      ∨ (more = false ∧ got.length + n ≠ len)) then s.segAbort p op q Ms.segmentError
  else
    let bytes := got ++ data.take n
    if more then s.segTake p ⟨ver, op, tag, len, resv, bytes, s.now⟩
    else s.setMb p { m with seg := none, busy := isFnPath p, segTaken := false, req := some (op, { q with payload := bytes }) }

/-- RING of a function's doorbell (R403, R404). -/
def State.ring (s : State) (fn : Nat) : State :=
  let m := s.mb fn
  if !s.mbxServed fn || !(s.fnOf fn).enabled then s
  else if m.busy || m.respReady then s.event F.MBX_EVENTS_OVERRUN fn 0
  else s.takeSegment fn (s.inboxBytes fn 0 16) none (s.inboxBytes fn 16 4080)

/-- RING (R403, R404): the inbound mailbox is copied; while BUSY or RESP_READY the RING is ignored and sets OVERRUN. -/
def execRing (fn : Nat) (s : State) : Res := .next (s.ring fn)

/-- RESP_DONE of a function's doorbell (R403, R406). -/
def State.respDone (s : State) (fn : Nat) : State :=
  let m := s.mb fn
  if !m.respReady then s
  else
    let s := s.setMb fn { m with respReady := false, respMore := false, resp := none }
    match m.resp with
    | some r => s.postSegment fn r
    | none => s

/-- RESP_DONE (R403, R406): the outbound mailbox returns to the device, which posts the next segment where one is left. -/
def execRespDone (fn : Nat) (s : State) : Res := .next (s.respDone fn)

/-- A management context holds something (R399). -/
def State.contextHeld (s : State) (p : Nat) : Bool :=
  let m := s.mb p
  decide (m.version ≠ 0) || m.seg.isSome || m.req.isSome || decide (0 < s.handlesOf p)

/-- Management contexts held. -/
def State.contexts (s : State) : Nat :=
  (((s.mbx.map Prod.fst ++ s.ops.filterMap (fun e => e.2.map OpRec.path)).filter (fun p => decide (256 ≤ p))).dedup.filter
    s.contextHeld).length

/-- A management message is discarded and counted (R399). -/
def State.mgmtDiscard (s : State) : State := s.bump F.CHR_MGMT_ERR_ERRORS 0 1

/-- MCTP_MAILBOX_MESSAGE (R399, R407): a body that R399 rules out, or too short for its vendor ID and header, is discarded
and counted; a ninth context receives BUSY. -/
def execMctpMailboxMessage (ep eid : Nat) (ic tagOwner : Bool) (body : List Nat) (s : State) : Res :=
  let p := 256 + eid
  let h := body.drop 2
  if !s.mbxServed p then .next s
  else if ic || !tagOwner || decide (4098 < body.length ∨ body.length < 18 ∨ le body 0 2 ≠ s.vendorId) then
    .next s.mgmtDiscard
  else if !s.contextHeld p && decide (8 ≤ s.contexts) then
    .next (s.emit (.mbxSegment p (mbHeader 1 (le h 2 2) (le h 4 2) Ms.busy 0 false false false)))
  else .next ((s.setMb p { s.mb p with ep := ep }).takeSegment p (h.take 16) (some (h.length - 16)) (h.drop 16))

/-- SEGMENT_TIMEOUT (R406): the partial request fails. -/
def execSegmentTimeout (path : Nat) (s : State) : Res :=
  match (s.mb path).seg with
  | some b => .next (s.segAbort path b.opcode ⟨path, b.version, b.tag, b.length, b.resvZero, b.bytes⟩ Ms.segmentError)
  | none => .next s

/-- INBOUND_MAILBOX_WRITE (R398): bytes of the 4 KiB inbound mailbox. -/
def execInboundMailboxWrite (fn offset : Nat) (data : List Nat) (s : State) : Res :=
  let bs := data.take (4096 - offset)
  .next { s with inbox := (List.range bs.length).foldl (fun t k =>
    tabSet (fun _ => 0#8) t (4096 * fn + offset + k) (BitVec.ofNat 8 (bs.getD k 0))) s.inbox }

/-! ### The session group -/

/-- CAPS of HELLO. -/
def State.caps (s : State) : Nat := b2n (!s.isKN) + 2 * b2n s.soldered

/-- HELLO (0x0001, R408): the highest version of both ranges; where they do not meet, VERSION, and the session stays. -/
def execHello (q : MbxReq) (s : State) : Res :=
  .next (s.serve q ⟨0x0001, 1, true, 20, 20, false⟩ (fun s =>
    let lo := q.payload.getD 0 0
    let hi := q.payload.getD 1 0
    let v := min 3 hi
    if le q.payload 2 2 ≠ 0 then s.refuse q 0x0001 Ms.invalidField
    else if v < max 1 lo then s.refuse q 0x0001 Ms.version
    else
      let s := s.setMb q.path { s.mb q.path with version := v, ended := false }
      s.respond q 0x0001 Ms.success false
        ([v, 0] ++ bytesLe 2 (if isFnPath q.path then q.path else 0x100) ++ bytesLe 4 s.fwVersion
          ++ bytesLe 2 s.dcsLayout ++ bytesLe 2 2 ++ bytesLe 4 s.caps)))

/-- GOODBYE (0x0002, R409): the response still carries the version of the session that it ends. -/
def execGoodbye (q : MbxReq) (s : State) : Res :=
  .next (s.serve q ⟨0x0002, 1, true, 0, 0, false⟩ (fun s => (s.respond q 0x0002 Ms.success false []).endSession q.path))

/-- OP_STATUS (0x0003, R413): a handle read as done is gone. -/
def execOpStatus (q : MbxReq) (s : State) : Res :=
  .next (s.serve q ⟨0x0003, 2, true, 4, 4, false⟩ (fun s =>
    let h := le q.payload 0 4
    match (tabGet (fun _ => none) s.ops h).filter (fun o => decide (o.path = q.path)) with
    | none => s.refuse q 0x0003 Ms.unknownHandle
    | some o =>
      let s := if o.done then { s with ops := tabSet (fun _ => none) s.ops h none } else s
      s.respond q 0x0003 Ms.success false
        (bytesLe 4 h ++ [b2n o.done, 0] ++ bytesLe 2 (if o.done then o.result else 0) ++ bytesLe 2 o.progress ++ zeros 2 ++ o.data)))

/-- DEVICE_INFO (0x0004). -/
def execDeviceInfo (q : MbxReq) (s : State) : Res :=
  .next (s.serve q ⟨0x0004, 1, true, 0, 0, false⟩ (fun s =>
    s.respond q 0x0004 Ms.success false
      (s.otpBytes 4 16 ++ s.otpBytes 24 20 ++ [s.pwr.mode.code, s.otpByte 20] ++ bytesLe 2 s.por.booted ++ bytesLe 4 s.fwVersion)))

/-- MAILBOX_INVALID_OPCODE (R414): after the checks of R401 and of a VF, an opcode the catalogue does not hold. -/
def execMailboxInvalidOpcode (q : MbxReq) (opcode : Nat) (s : State) : Res :=
  .next (s.serve q ⟨opcode, 1, true, 0, 65536, false⟩ (fun s => s.refuse q opcode Ms.invalidOpcode))

end Sys2Proof.Machine
end

