-- ==== Sys2Proof/Machine/Media.lean ====
section
/-! DEFINITION. The commands of chapter 5: collection, debt, refresh, band life, retention, rebuilds into spares. The agent is
Surveyor firmware. -/

set_option linter.unusedVariables false

namespace Sys2Proof.Machine

/-- GC_VICTIM_PICK (R161, R162): the candidate of the group with the highest score becomes VICTIM. -/
def execGcVictimPick (group : Nat) (s : State) : Res :=
  let cands := (s.svy.band.map Prod.fst).filter (fun b => decide (b % 128 = group) && s.gcCandidate b)
  match s.bestScore cands with
  | none => .next s
  | some (b, v) => .next ((s.moveBand b { s.bandRec b with st := .victim, priced := true }).emit (.answer 0x050 [b, v]))

/-- The debt of frame 0 on a die, in 1/16 µs. -/
def State.debtNow (s : State) (d : Nat) : Nat := tabGet (fun _ => 0) s.plt.debt (bkKey s.plt.frame d)

/-- All debt booked on a die. -/
def State.debtAhead (s : State) (d : Nat) : Nat :=
  s.plt.debt.foldl (fun n e => if e.1 % 4096 = d then n + e.2 else n) 0

/-- Relocation time that the victims of a group still need, in 1/16 µs over the whole group (R164, Table 05-5). -/
def State.victimWork (s : State) (group : Nat) : Nat :=
  s.svy.band.foldl (fun n e => if e.1 % 128 = group ∧ e.2.st = .victim ∧ 0 < e.2.valid then n + s.refreshUnits e.1 e.2.reason else n) 0

/-- Member erases of a die that wait for debt to run in (R159, R670). -/
def State.eraseDue (s : State) (d : Nat) : Bool :=
  let due := (s.svy.band.filter (fun e => decide (e.1 % 128 = dieGroup d ∧ e.2.st = .erasing) && maskBit e.2.erasing (dieSheet d))).length
  let at_ := ((s.dieQueue d).filter (fun o => decide (o.kind = 2))).length + (s.plt.later.filter (fun e => decide (e.2.1 = d ∧ e.2.2.kind = 2))).length
    + ((s.runningOp d).toList.filter (fun r => decide (r.op.kind = 2))).length
  decide (at_ < due)

/-- Work that a relocation has carried out is converted time no more (R89): `n` units over the members of a group. -/
def State.carriedOut (s : State) (g n : Nat) : State :=
  let l := s.members g
  let each := ceilDiv n (max 1 l.length)
  { s with plt := { s.plt with converted := l.foldl (fun t m => tabSet (fun _ => 0) t m.1 (tabGet (fun _ => 0) t m.1 - each)) s.plt.converted } }

/-- DEBT_CONVERSION (R89): the debt of the frame in progress on the group's members becomes die operations, with no further check: an erase that waits, else relocation. Where the
victims of the group need more relocation time than all debt booked, firmware reports DEBT_OVERRUN and the excess goes behind host work. -/
def execDebtConversion (group : Nat) (s : State) : Res :=
  if 128 ≤ group then .next s
  else
    let ds := (s.members group).map Prod.fst
    let each := ceilDiv (s.victimWork group) (max 1 ds.length)
    let under := fun d => min each (tabGet (fun _ => 0) s.plt.converted d)   -- converted already, and not carried out yet
    let short := ds.filter (fun d => decide (s.debtAhead d + tabGet (fun _ => 0) s.plt.excess d + under d < each))
    let excess := short.foldl (fun t d => tabSet (fun _ => 0) t d (each - s.debtAhead d - under d)) s.plt.excess
    let s' := (ds.filter (fun d => decide (0 < s.debtNow d))).foldl (fun t d =>
      let n := t.debtNow d
      let t := if t.eraseDue d then t.pushErase d else (t.pushOp d 4 n (t.plt.frameAt + msTicks)).convert d n
      { t with plt := { t.plt with debt := tabSet (fun _ => 0) t.plt.debt (bkKey t.plt.frame d) 0 } }) s
    .next (if short.isEmpty then s' else
      ({ s' with plt := { s'.plt with excess := excess } } : State).event F.PLT_EVENTS_DEBT_OVERRUN 0 group)

/-- RELOCATION (R164, R202): one valid IU of a victim, the first in slot order, is read, directly or by detour, programmed through the stripe
path to a data position of its group's RELOC band (sealed data by way of a lane, R460), and RELOCATE issued; the compare-and-swap of one that has changed meanwhile fails. A row
with too few positions left to read is lost. -/
def execRelocation (pool iu old new : Nat) (s : State) : Res :=
  let key := iuKey pool iu
  let a := old % 2 ^ 36
  let b := s.bandOfAddr a
  let to_ := s.bandOfAddr (new % 2 ^ 36)
  if (s.bandRec b).st ≠ .victim ∨ s.dataIn new 1 = false ∨ to_ % 128 ≠ s.relocGroup (b % 128)
      ∨ (s.bandRec to_).layoutGen ≠ s.par.layoutGen then .next s
  else if s.lookup key = mappedAt old ∧ s.nextValid b ≠ some key then .next s
  else match s.relocRead a with
    | some t =>
      let t := (t.reseal key old new false).relocate key old new
      .next (t.carriedOut (b % 128) (s.victimWork (b % 128) - t.victimWork (b % 128)))
    | none => .next (s.rowLost b (s.pageOfAddr a) (s.erasedOf b (s.pageOfAddr a)))

/-- The fixed point of the write-amplification estimate. -/
def waOne : Nat := 2 ^ 40

/-- F of Table 05-3 in quarters. -/
def urgencyQuarters (u : Nat) : Nat := match u with | 0 => 4 | 1 => 5 | _ => 6

/-- WA_ESTIMATE (R165), every 100 ms. -/
def execWaEstimate (s : State) : Res :=
  let hist := ((s.svy.hostBytes, s.svy.relocBytes) :: s.svy.waHist).take (10 * s.fld F.SVY_GC_CFG_WA_WINDOW_S 0)
  let h := hist.foldl (fun n e => n + e.1) 0
  let r := hist.foldl (fun n e => n + e.2) 0
  let amax := s.fld F.SVY_GC_CFG_A_MAX 0
  let meas := if h = 0 then waOne else (h + r) * waOne / h
  let pred := match s.bestScore ((s.svy.band.map Prod.fst).filter s.gcCandidate) with
    | none => amax * waOne
    | some (b, _) =>
      let x := s.bandRec b
      let c := x.capacity
      if c ≤ amax * (c - x.valid) then c * waOne / max 1 (c - x.valid) else amax * waOne
  let u := s.liveGroups.foldl (fun m g => max m (s.urgency g)) 0
  let booked := min (amax * waOne) (max meas pred * urgencyQuarters u / 4)
  .next { s with svy := { s.svy with hostBytes := 0, relocBytes := 0, waHist := hist, aMeas := min 65535 (meas * 256 / waOne),
                                     aBooked := booked * 256 / waOne } }

/-- BAND_OPEN (R154, R156, R166, R184, R185): the least worn FREE band of a group for class HOST, RELOC or MAP. A group at level 3
opens no HOST band; one narrower than 4 sheets opens none. A band with a bad member and no good spare for it is RETIRED. -/
def execBandOpen (group cls : Nat) (s : State) : Res :=
  let open_ := s.svy.band.any (fun e => decide (e.1 % 128 = group ∧ e.2.st = .opened ∧ e.2.cls = cls))
  if 128 ≤ group ∨ 3 ≤ cls ∨ open_ = true ∨ s.width group < 4 ∨ (cls = 0 ∧ s.urgency group = 3) then .next s
  else match s.freeBand group with
    | none => .next s
    | some b => match s.fitMembers b with
      | some t => .next (t.openBand b cls)
      | none => .next (s.retireBand b)

/-- BAND_ERASE_START (R102, R158): a DRAINED band that no read pins and whose dies have no older-epoch read outstanding moves to
ERASING, or to RETIRED where it is marked. -/
def execBandEraseStart (band : Nat) (s : State) : Res :=
  let x := s.bandRec band
  if x.st ≠ .drained ∨ tabGet (fun _ => 0) s.atl.pins band ≠ 0 then .next s
  else if !(maskList x.sheets).all (fun sh => s.noOldReads (128 * sh + band % 128)) then .next s
  else if x.retire then .next (s.retireBand band)
  else .next (s.startErase band)

/-- REFRESH_START (R173): the first queued band goes from CLOSED to VICTIM; one that is still OPEN (R195) is closed first. -/
def execRefreshStart (s : State) : Res :=
  match s.svy.refreshQ with
  | [] => .next s
  | b :: _ =>
    let s := if (s.bandRec b).st = .opened then s.closeFull b 0 else s
    if (s.bandRec b).st ≠ .closed then .next (s.unqueue b)
    else .next (((s.moveBand b { s.bandRec b with st := .victim, priced := true }).unqueue b).drainIf b)

/-- The open stripes of a band are filled with padding, which adds nothing to P and Q (R174, R188), and their programs booked as part of the
band's refresh debt; P and Q follow in full. -/
def State.padStripes (s : State) (b : Nat) : State :=
  (s.slotsOfBand b).foldl (fun (s : State) e =>
    if e.2.st ≠ .filling then s
    else
      let x := e.2
      let l := x.dataSheets.filter (fun sh => !maskBit x.folded sh)
      let ep := l.foldl (fun ep sh => listSet ep sh (s.dieEpochOf (128 * sh + b % 128))) x.epochs
      let s := s.setJslot e.1 { x with st := .parity, folded := l.foldl maskSet x.folded, epochs := ep }
      l.foldl (fun s sh =>
        let d := 128 * sh + b % 128
        let t := ((s.profileOf d).map Profile.tPROG).getD 0
        (s.pushOp d 1 t (s.now + 64 * msTicks)).oweBand b (ceilDiv t 3)) s) s

/-- READ_LIMIT_CLOSE (R174): an OPEN band whose read count crossed the limit: its open stripes are padded, it is closed and queued. -/
def execReadLimitClose (band : Nat) (s : State) : Res :=
  if (s.bandRec band).st = .opened ∧ s.readLimitHit band then
    .next ((((s.padStripes band).closeFull band 0).event F.SVY_MEDIA_EVENTS_READ_REFRESH 0 band).queueRefresh band 1 false)
  else .next s

/-- MIN_FREE_PUBLISH (R170, R171). -/
def execMinFreePublish (s : State) : Res :=
  let m := s.minFreeNow
  let first := !s.svy.published
  let was := s.svy.minFree
  let s := { s with svy := { s.svy with published := true, minFree := m } }
  let s := (List.range 3).foldl (fun s i => s.freeMark i was m first) s
  .next s.stopWrites

/-- A day of Datum time. -/
def dayTicks : Nat := 86400 * 1024

/-- A CLOSED band's next sample is due (R175). -/
def State.sampleDue (s : State) (x : Band) (days : Nat) : Bool :=
  match x.closedAt with
  | none => false
  | some t => decide (max t x.sampledAt + days * dayTicks ≤ s.datumTime)

/-- The member and page of a band's k-th sample (R175), fenced and absent members skipped. -/
def State.sampleOfBand (s : State) (b : Nat) : Option (Nat × Nat) :=
  let x := s.bandRec b
  let live := ((List.range x.wb).map (fun j => x.posSheet (x.samples + j))).find? (fun sh => s.usableFor (b % 128) sh)
  match live with
  | none => none
  | some sh => (s.profileOf (128 * sh + b % 128)).map (fun p => (128 * sh + b % 128, x.samples * 509 % max 1 p.pages))

/-- The due sample that comes first (R177): the oldest close stamp, the lowest index on a tie. -/
def State.firstSample (s : State) : Option Nat :=
  let days := s.fld F.SVY_UPKEEP_CFG_RETENTION_DAYS 0
  (s.svy.band.foldl (fun (m : Option (Nat × Nat)) e =>
    if e.2.st = .closed ∧ s.sampleDue e.2 days = true ∧ s.svy.refreshQ.contains e.1 = false then
      let t := e.2.closedAt.getD 0
      match m with
      | none => some (e.1, t)
      | some y => if t < y.2 then some (e.1, t) else some y
    else m) none).map Prod.fst

/-- RETENTION_SAMPLE (R175, R177): the first band due, booked as debt on the sampled member's die. -/
def execRetentionSample (band : Nat) (s : State) : Res :=
  let x := s.bandRec band
  if s.firstSample ≠ some band ∨ s.fld F.SVY_SCAN_CFG_SCAN_MAX 0 ≤ s.svy.sampledNow then .next s
  else match s.sampleOfBand band with
    | none => .next s
    | some (d, page) =>
      let s := s.setBand band { x with samples := x.samples + 1, sampledAt := s.datumTime }
      let s := { s with svy := { s.svy with sampling := s.svy.sampling ++ [(band, d, page)], sampledNow := s.svy.sampledNow + 1 } }
      match s.profileOf d with
      | none => .next s
      | some p => .next (match s.spreadShare ⟨d, p.tR, s.readSides d p⟩ 0 s.plt.frame 64 with
        | some (t, bs) => t.enterDebt bs
        | none => s.oweDie d p.tR)

/-- A rebuild decides the rows it meets (R179, R198, R203): one with three erasures, the member's own among them, is lost. -/
def State.rebuildLoses (s : State) (b : Nat) : State :=
  let x := s.bandRec b
  let rows := if 3 ≤ s.plainErasures b then List.range x.written else (x.short.map Prod.fst ++ x.erased.map Prod.fst).dedup
  (rows.filter (fun row => decide (3 ≤ s.erasures b row))).foldl (fun (s : State) row =>
    s.rowLost b row ((List.range 16).filter (s.isErasure b row))) s

/-- The member reads of a rebuild are counted (R172, Table 05-5): of each programmed row that is not lost, W_b − 2 of the other members. -/
def State.rebuildCounts (s : State) (b sheet : Nat) : State :=
  let x := s.bandRec b
  let rows := x.written - (x.lost.filter (fun row => decide (row < x.written))).length
  let others := (maskList x.sheets).filter (fun sh => decide (sh ≠ sheet) && !s.isErasure b x.written sh)
  (others.take (x.wb - 2)).foldl (fun (s : State) sh => s.countReads b sh rows) s

/-- SPARE_REBUILD (R179): the programmed pages of a substituted member have been rebuilt into its spare; it is an erasure no
longer, but of rows that are lost. A band picked for collection meanwhile stops the rebuild (R182). -/
def execSpareRebuild (band sheet : Nat) (s : State) : Res :=
  let x := s.bandRec band
  if maskBit x.rebuild sheet && (decide (x.st = .closed) || decide (x.st = .opened)) then
    let s := s.rebuildLoses band
    let s := s.rebuildCounts band sheet
    let x := s.bandRec band
    .next (s.setBand band { x with rebuild := maskClear x.rebuild sheet,
                                   erased := (x.erased.map (fun (e : Nat × Nat) =>
                                     (e.1, if x.lost.contains e.1 then e.2 else maskClear e.2 sheet))).filter (fun e => decide (e.2 ≠ 0)) })
  else .next s

end Sys2Proof.Machine
end

