-- ==== Sys2Proof/Machine/Store.lean ====
section
/-! DEFINITION. The Portolan store's service routine (R578 to R585): its operations, their refusal, suspension and end, and wear.
The agent is the Chartroom ROM. -/

set_option linter.unusedVariables false

namespace Sys2Proof.Machine

/-- Who calls the routine: 0 the Chartroom core and ROM, 1 Surveyor firmware, 2 the Legend, 3 the board maker through COMMIT
(R586). -/
def structOwner (off : Nat) : Option Nat :=
  if off < 0x1000 then some 0
  else if off < 0x2000 then some 3
  else if off < 0x3000 then some 0
  else if off < 0x4000 then some 1
  else if off < 0x6000 then some 0
  else if 0x10000 ≤ off ∧ off < 0x60000 then some 0
  else if 0x60000 ≤ off ∧ off < 0xA0000 then some 2
  else none

/-- An image slot's sector may be written (R583): a session for the slot, not the booted slot, not one a schedule names. -/
def State.slotWritable (s : State) (slot : Nat) : Bool :=
  ((s.por.sess.map (fun u => decide (u.slot = slot))).getD false) && decide (s.por.booted ≠ slot)
    && !((s.por.sched.map (fun x => decide (x.slot = slot))).getD false)

/-- An erase or program of the store is allowed (R583). -/
def State.storeAllowed (s : State) (caller addr : Nat) : Bool :=
  if addr < 0x03000000 then s.slotWritable (addr / 0x1000000)
  else if addr < 0x03400000 then decide (structOwner (addr % 0x200000) = some caller)
  else decide (addr < 0x04000000)

/-- An operation starts. -/
def State.startStore (s : State) (kind addr : Nat) (data : List Nat) : State :=
  { s with por := { s.por with op := some ⟨kind, addr, data, false, 0, false⟩ } }

/-- The routine refuses an operation (R583). -/
def State.storeRefuse (s : State) : State := s.event F.POR_EVENTS_REFUSED 0 0

/-- An operation is called for: one runs at a time, so a call made while one runs changes nothing and is made again. -/
def State.storeCall (s : State) (ok : Bool) (kind addr : Nat) (data : List Nat) : State :=
  if !ok then s.storeRefuse else if s.por.op.isSome then s else s.startStore kind addr data

/-- ERASE_SECTOR (R581, R583). -/
def execEraseSector (caller addr : Nat) (s : State) : Res :=
  .next (s.storeCall (s.storeAllowed caller addr) 1 (addr / 4096 * 4096) [])

/-- PROGRAM_ROW (R581, R583). -/
def execProgramRow (caller addr : Nat) (data : List Nat) (s : State) : Res :=
  .next (s.storeCall (s.storeAllowed caller addr && decide (data.length ≤ 256)) 2 (addr / 256 * 256) data)

/-- Cartouche bytes that may be programmed in service (R583): the owner's fields of R563 while blank, and the SVN bits. -/
def State.otpMay (s : State) (a : Nat) : Bool :=
  decide (416 ≤ a ∧ a < 448) || ((decide (224 ≤ a ∧ a < 322) || decide (336 ≤ a ∧ a < 416)) && decide (s.otpByte a = 0))

/-- A PROGRAM_OTP is allowed (R583): no byte out of bounds, no bit cleared. -/
def State.otpAllowed (s : State) (a : Nat) (data : List Nat) : Bool :=
  decide (data.length ≤ 256) && (List.range data.length).all (fun k =>
    s.otpMay (a + k) && decide (Nat.land (s.otpByte (a + k)) (data.getD k 0) = s.otpByte (a + k)))

/-- PROGRAM_OTP (R581, R583). -/
def execProgramOtp (addr : Nat) (data : List Nat) (s : State) : Res := .next (s.storeCall (s.otpAllowed addr data) 3 addr data)

/-- A row programmed: bits go from 1 to 0 only. -/
def State.storeRowDone (s : State) (addr : Nat) (data : List Nat) : State :=
  s.storePut addr ((List.range data.length).map (fun k => Nat.land (s.storeByte (addr + k)) (data.getD k 0)))

/-- Cartouche bytes programmed: bits go from 0 to 1 only (R580). -/
def State.otpDone (s : State) (a : Nat) (l : List Nat) : State :=
  { s with por := { s.por with otp := (List.range l.length).foldl (fun t k =>
      tabSet otpBlank t (a + k) (tabGet otpBlank t (a + k) ||| BitVec.ofNat 8 (l.getD k 0))) s.por.otp } }

/-- A store read is served (R582). -/
def State.readStore (s : State) (a : Nat) : State := s.emit (.answer 0x0E5 [a, s.storeByte a])

/-- The reads that waited are served. -/
def State.serveReads (s : State) : State :=
  let l := s.por.reads
  l.foldl (fun s a => s.readStore a) { s with por := { s.por with reads := [] } }

/-- STORE_OPERATION_END (R581): a read-back mismatch retries the row once; a second one fails the operation, and its sector is
treated as worn. The reads that waited follow. -/
def execStoreOperationEnd (verified : Bool) (s : State) : Res :=
  match s.por.op with
  | none => .next s
  | some o =>
    if o.suspended then .next s
    else if o.kind ≠ 1 ∧ verified = false ∧ o.retried = false then
      .next { s with por := { s.por with op := some { o with retried := true } } }
    else
      let s := { s with por := { s.por with op := none } }
      let s := match o.kind with
        | 1 => s.eraseDone o.addr
        | 2 =>
          if verified then s.storeRowDone o.addr o.data
          else
            let s := ({ s with por := { s.por with cut := tabSet (fun _ => 0) s.por.cut (o.addr / 4096) (s.fresh + 1) }, fresh := s.fresh + 1 } : State)
            (s.event F.POR_EVENTS_VERIFY_FAIL 0 0).wearOut (o.addr / 4096) true
        | _ => if verified then s.otpDone o.addr o.data else s.event F.POR_EVENTS_VERIFY_FAIL 0 0
      .next s.serveReads

/-- STORE_READ (R582): it suspends an erase that is past its minimum run; otherwise it waits for the operation. -/
def execStoreRead (addr : Nat) (s : State) : Res :=
  match s.por.op with
  | none => .next (s.readStore addr)
  | some o =>
    if o.suspended ∨ (o.kind = 1 ∧ o.minEnd ≤ s.now) then
      .next (({ s with por := { s.por with op := some { o with suspended := true, minEnd := s.now + 10 * usTicks } } } : State).readStore addr)
    else .next { s with por := { s.por with reads := s.por.reads ++ [addr] } }

/-- ERASE_RESUME (R582): no read has waited for 10 µs; the erase then runs 2 ms before it is suspended again. -/
def execEraseResume (s : State) : Res :=
  match s.por.op with
  | none => .next s
  | some o =>
    if o.suspended ∧ s.por.reads.isEmpty ∧ o.minEnd ≤ s.now then
      .next { s with por := { s.por with op := some { o with suspended := false, minEnd := s.now + 2 * msTicks } } }
    else .next s

/-- ERASE_MIN_RUN_EXPIRY (R582): the 2 ms have passed while a read waits. -/
def execEraseMinRunExpiry (s : State) : Res :=
  match s.por.op with
  | none => .next s
  | some o =>
    if o.kind = 1 ∧ o.suspended = false ∧ s.por.reads.isEmpty = false ∧ o.minEnd ≤ s.now then
      .next ({ s with por := { s.por with op := some { o with suspended := true, minEnd := s.now + 10 * usTicks } } } : State).serveReads
    else .next s

end Sys2Proof.Machine
end

