-- ==== Sys2Proof/Machine/Mgmt.lean ====
section
/-! DEFINITION. The commands of the management port (R559 to R564): MCTP control, SPDM, the basic management read, ALERT_N's
Alert Response Address. The agent is the Chartroom core. -/

set_option linter.unusedVariables false

namespace Sys2Proof.Machine

/-- The management port answers: the Chartroom core runs (Table 19-1, R424). -/
def State.mgmtOn (s : State) : Bool := s.mbxServed 256

def State.eid (s : State) (ep : Nat) : Nat := tabGet (fun _ => 0) s.mgmt.eid ep

/-- An MCTP control answer: command, completion code, fields. -/
def State.mctp (s : State) (ep : Nat) (bytes : List Nat) : State := s.emit (.mctp ep bytes)

/-- SET_ENDPOINT_ID (R560, R409): a change of EID ends the sessions of that endpoint. -/
def execSetEndpointId (ep eid : Nat) (s : State) : Res :=
  if !s.mgmtOn ∨ 3 ≤ ep then .next s
  else if eid = 0 ∨ 255 ≤ eid then .next (s.mctp ep [1, 2])
  else
    let old := s.eid ep
    let paths := (s.mbx.filter (fun e => decide (256 ≤ e.1 ∧ e.2.ep = ep))).map Prod.fst
    let s := if old = eid then s
      else
        let s := paths.foldl (fun s p => s.endSession p) s
        { s with mgmt := { s.mgmt with eid := tabSet (fun _ => 0) s.mgmt.eid ep eid,
                                       sessions := s.mgmt.sessions.filter (fun x => decide (x.ep ≠ ep)) } }
    .next (s.mctp ep [1, 0, 0, eid, 0])

/-- GET_ENDPOINT_ID (R560). -/
def execGetEndpointId (ep : Nat) (s : State) : Res :=
  if !s.mgmtOn ∨ 3 ≤ ep then .next s else .next (s.mctp ep [2, 0, s.eid ep, 0, 0])

/-- GET_ENDPOINT_UUID (R560). -/
def execGetEndpointUuid (ep : Nat) (s : State) : Res :=
  if !s.mgmtOn ∨ 3 ≤ ep then .next s else .next (s.mctp ep ([3, 0] ++ Config.uuid))

/-- GET_MCTP_VERSION_SUPPORT (R560): the versions of a supported type; their numbers are not stated. -/
def execGetMctpVersionSupport (ep type : Nat) (s : State) : Res :=
  if !s.mgmtOn ∨ 3 ≤ ep then .next s
  else if type ∈ [0x00, 0x05, 0x7E, 0xFF] then .next (s.mctp ep ([4, 0] ++ Config.mctpVersions type))
  else .next (s.mctp ep [4, 0x80])

/-- GET_MESSAGE_TYPE_SUPPORT (R560): types 0h, 5h and 7Eh. -/
def execGetMessageTypeSupport (ep : Nat) (s : State) : Res :=
  if !s.mgmtOn ∨ 3 ≤ ep then .next s else .next (s.mctp ep [5, 0, 3, 0x00, 0x05, 0x7E])

/-- MCTP_UNSUPPORTED_MESSAGE (R560): a control command not supported is answered ERROR_UNSUPPORTED_CMD; type 4h and an unlisted
type are discarded and counted. -/
def execMctpUnsupportedMessage (ep type command : Nat) (s : State) : Res :=
  if !s.mgmtOn ∨ 3 ≤ ep then .next s
  else if type = 0 then if 1 ≤ command ∧ command ≤ 5 then .next s else .next (s.mctp ep [command, 5])
  else if type = 5 ∨ type = 0x7E then .next s
  else .next s.mgmtDiscard

/-- CTemp of the basic management read: °C, two's complement from −60, at most 0x7F. -/
def ctemp (k : Nat) : Nat := if 273 ≤ k then min 0x7F (k - 273) else 256 - min 60 (273 - k)

/-- NVME_MI_BASIC_MANAGEMENT (R561), in SMBus mode; the Status Flags are a free value (R561 does not state their bits). -/
def execNvmeMiBasicManagement (s : State) : Res :=
  if !s.mgmtOn ∨ s.mgmt.i3c then .next s
  else
    let d := s.draw
    .next (d.2.mctp 0 [6, d.1 % 256, 255 - s.criticalWarning (s.ctl 0), ctemp s.compositeK, s.percentUsed, 0, 0])

/-- ALERT_RESPONSE_ADDRESS_READ (R564), in SMBus mode: the device answers while it drives ALERT_N, which it then releases until a
further cause sets. -/
def execAlertResponseAddressRead (s : State) : Res :=
  if s.mgmt.i3c || !s.alertLow then .next s
  else .next (({ s with mgmt := { s.mgmt with araHold := true } } : State).mctp 0 [2 * s.mgmt.addr])

/-! ### SPDM (R562, R563) -/

/-- An SPDM answer: its code and what follows. -/
def State.spdm (s : State) (ep code : Nat) (rest : List Nat) : State := s.mctp ep (code :: rest)

/-- SPDM ERROR with its code. -/
def State.spdmErr (s : State) (ep err : Nat) : State := s.spdm ep 0x7F [err]

def State.conn (s : State) (ep : Nat) : SpdmConn := tabGet (fun _ => SpdmConn.reset) s.mgmt.conn ep
def State.setConn (s : State) (ep : Nat) (c : SpdmConn) : State :=
  { s with mgmt := { s.mgmt with conn := tabSet (fun _ => SpdmConn.reset) s.mgmt.conn ep c } }

/-- An SPDM request of a stage: answered, or ERROR UnexpectedRequest before it. -/
def State.spdmReq (s : State) (ep need : Nat) (body : State → State) : State :=
  if !s.mgmtOn ∨ 3 ≤ ep then s else if (s.conn ep).stage < need then s.spdmErr ep 4 else body s

/-- GET_VERSION (R562): it begins the negotiation of its endpoint. -/
def execGetVersion (ep : Nat) (s : State) : Res :=
  .next (s.spdmReq ep 0 (fun s => (s.setConn ep ⟨1, false⟩).spdm ep 0x04 (Config.spdmAnswer 0x04 [])))

/-- GET_CAPABILITIES (R562). -/
def execGetCapabilities (ep : Nat) (s : State) : Res :=
  .next (s.spdmReq ep 1 (fun s => (s.setConn ep { s.conn ep with stage := max 2 (s.conn ep).stage }).spdm ep 0x61 (Config.spdmAnswer 0x61 [])))

/-- NEGOTIATE_ALGORITHMS (R562). -/
def execNegotiateAlgorithms (ep : Nat) (s : State) : Res :=
  .next (s.spdmReq ep 2 (fun s => (s.setConn ep { s.conn ep with stage := 3 }).spdm ep 0x63 (Config.spdmAnswer 0x63 [])))

/-- The certificate chain of slot 0 (Table 20-4). -/
def State.certChain (s : State) : List Nat := s.otpBytes 514 (min 3578 (le (s.otpBytes 512 2) 0 2))

/-- GET_DIGESTS (R562): the digest of the slot 0 chain. -/
def execGetDigests (ep : Nat) (s : State) : Res :=
  .next (s.spdmReq ep 3 (fun s => s.spdm ep 0x01 (Config.spdmAnswer 0x01 s.certChain)))

/-- GET_CERTIFICATE (R562): a portion of the slot 0 chain; another slot is an invalid request. -/
def execGetCertificate (ep slot offset length : Nat) (s : State) : Res :=
  .next (s.spdmReq ep 3 (fun s =>
    let c := s.certChain
    if slot ≠ 0 ∨ c.length ≤ offset then s.spdmErr ep 1
    else
      let p := (c.drop offset).take length
      s.spdm ep 0x02 ([slot, 0] ++ bytesLe 2 p.length ++ bytesLe 2 (c.length - offset - p.length) ++ p)))

/-- CHALLENGE (R562): signed with the device identity key. -/
def execChallenge (ep slot nonce : Nat) (s : State) : Res :=
  .next (s.spdmReq ep 3 (fun s =>
    if slot ≠ 0 then s.spdmErr ep 1
    else (s.setConn ep { s.conn ep with challenged := true }).spdm ep 0x03 (Config.spdmAnswer 0x03 (nonce :: s.certChain))))

/-- What a measurement is taken over (Table 19-2). -/
def State.measured (s : State) (index : Nat) : List Nat :=
  match index with
  | 1 => Config.chrRomVer :: (List.range 6).map (fun k => (Config.romVer k).toNat)
  | 2 => [s.por.booted, s.fwVersion]
  | 3 => (List.range 6).map (fun k => (tabGet (fun _ => Ucode.reset) s.trv.ucode k).patchVer)
  | 4 => (s.por.store.filter (fun e => decide (0x03000000 ≤ e.1 ∧ e.1 < 0x03400000))).flatMap (fun e => [e.1, e.2.toNat])
  | _ => s.otpBytes 4 16 ++ [s.otpByte 20, s.otpByte 321]

/-- GET_MEASUREMENTS (R562): index 0 the number of measurements, 1 to 5 one of them, 0xFF all. -/
def execGetMeasurements (ep index nonce : Nat) (signed : Bool) (s : State) : Res :=
  .next (s.spdmReq ep 3 (fun s =>
    if index = 0 then s.spdm ep 0x60 [5]
    else if 6 ≤ index ∧ index ≠ 0xFF then s.spdmErr ep 1
    else
      let l := if index = 0xFF then [1, 2, 3, 4, 5].flatMap s.measured else s.measured index
      s.spdm ep 0x60 (Config.spdmAnswer 0x60 (index :: b2n signed :: nonce :: l))))

def State.session (s : State) (id : Nat) : Option SpdmSession := s.mgmt.sessions.find? (fun x => decide (x.id = id))
def State.mapSession (s : State) (id : Nat) (f : SpdmSession → SpdmSession) : State :=
  { s with mgmt := { s.mgmt with sessions := s.mgmt.sessions.map (fun x => if x.id = id then f x else x) } }
def State.dropSession (s : State) (id : Nat) : State :=
  { s with mgmt := { s.mgmt with sessions := s.mgmt.sessions.filter (fun x => decide (x.id ≠ id)) } }

/-- KEY_EXCHANGE (R562): at most four secured sessions. -/
def execKeyExchange (ep reqSession : Nat) (s : State) : Res :=
  .next (s.spdmReq ep 3 (fun s =>
    if 4 ≤ s.mgmt.sessions.length then s.spdmErr ep 0x0A
    else
      let id := reqSession % 65536 + 65536 * s.mgmt.nextSession
      let x : SpdmSession := ⟨id, ep, false, false, s.now, 0⟩
      ({ s with mgmt := { s.mgmt with sessions := s.mgmt.sessions ++ [x], nextSession := s.mgmt.nextSession + 1 } } : State).spdm ep 0x64
        (bytesLe 4 id ++ Config.spdmAnswer 0x64 [id])))

/-- A request inside a session that stands (established or, for FINISH, begun). -/
def State.inSession (s : State) (id : Nat) (est : Bool) (body : State → SpdmSession → State) : State :=
  match s.session id with
  | none => s
  | some x => if !s.mgmtOn then s else if x.established = est then body s x else s.spdmErr x.ep 4

/-- FINISH (R562): a requester whose signature or MAC fails ends the session. -/
def execFinish (session : Nat) (ok mutAuth : Bool) (s : State) : Res :=
  .next (s.inSession session false (fun s x =>
    if ok then (s.mapSession session (fun y => { y with established := true, mutAuth := mutAuth, lastBeat := s.now })).spdm x.ep 0x65 []
    else (s.dropSession session).spdmErr x.ep 6))

/-- HEARTBEAT (R562): the 120 s start again. -/
def execHeartbeat (session : Nat) (s : State) : Res :=
  .next (s.inSession session true (fun s x => (s.mapSession session (fun y => { y with lastBeat := s.now })).spdm x.ep 0x68 []))

/-- KEY_UPDATE (R562). -/
def execKeyUpdate (session : Nat) (s : State) : Res :=
  .next (s.inSession session true (fun s x => (s.mapSession session (fun y => { y with keyGen := y.keyGen + 1 })).spdm x.ep 0x69 []))

/-- END_SESSION (R562). -/
def execEndSession (session : Nat) (s : State) : Res :=
  .next (s.inSession session true (fun s x => (s.dropSession session).spdm x.ep 0x6C []))

/-- SESSION_HEARTBEAT_TIMEOUT (R562): no heartbeat for 120 s. -/
def execSessionHeartbeatTimeout (session : Nat) (s : State) : Res :=
  .next (if (s.session session).any (fun x => decide (x.lastBeat + 120 * sTicks ≤ s.now)) then s.dropSession session else s)

/-- The Gazetteer record of a vendor-defined request (R563). -/
def State.spdmRecord (s : State) (req result : Nat) : State := s.record 0x0E7 0 6 0x000F (req % 65536 + result % 256 * 2 ^ 16)

/-- A vendor-defined request that fails: ERROR with its vendor code (R563). -/
def State.vendorErr (s : State) (ep req code : Nat) : State := (s.spdmRecord req code).spdm ep 0x7F [0xFF, code]

/-- GET_TRANSPORT_KEY (R563): to a requester authenticated with a certificate of the owner. -/
def execGetTransportKey (session : Nat) (s : State) : Res :=
  .next (s.inSession session true (fun s x =>
    if x.mutAuth && decide (s.otpByte 321 % 2 = 1) then (s.spdmRecord 1 0).spdm x.ep 0x7E Config.transportKey
    else s.vendorErr x.ep 1 2))

/-- PROVISION_OWNER (R563): the owner key, and with a password its salt and verifier, are written once. -/
def execProvisionOwner (session : Nat) (key password : List Nat) (s : State) : Res :=
  .next (s.inSession session true (fun s x =>
    if s.otpByte 321 % 2 = 1 then s.vendorErr x.ep 2 1
    else if key.length ≠ 97 ∨ 512 < password.length then s.vendorErr x.ep 2 2
    else
      let s := s.otpDone 224 key
      let s := if password.isEmpty then s.otpDone 321 [1]
        else
          let salt := Config.drbg s.fresh % 2 ^ 256
          let s := ({ s with fresh := s.fresh + 1 } : State).otpDone 336 (bytesLe 32 salt)
          (s.otpDone 368 ((Config.pwVerifier password salt).take 48)).otpDone 321 [3]
      (s.spdmRecord 2 0).spdm x.ep 0x7E []))

end Sys2Proof.Machine
end

