-- ==== Sys2Proof/Machine/Plotter.lean ====
section
/-! DEFINITION. The commands of chapter 3 beside admission: the frame boundary, quiet slots, decode outcomes and fallbacks (with
chapter 9), die operations that complete. -/

set_option linter.unusedVariables false

namespace Sys2Proof.Machine

/-! ### The frame boundary (R58) -/

/-- Entries of frames that have retired leave a booking table. -/
def dropOld (frame : Nat) (t : Tab Nat) : Tab Nat := t.filter (fun e => decide (frame ≤ e.1 / 4096))

/-- Die time of a suspended program or erase that its retiring frame held and did not use stays booked (R70), in the frame that follows, as
far as the frame has time. -/
def State.carrySuspended (s : State) : State :=
  s.plt.running.foldl (fun s e => match e.2 with
    | some r =>
      if r.suspended then
        let left := r.op.cost - r.ran / 50
        let n := min left (min (s.plt.booked 0 e.1 s.plt.frame) (16000 - s.plt.booked 0 e.1 (s.plt.frame + 1)))
        { s with plt := s.plt.apply true ⟨0, e.1, s.plt.frame + 1, n⟩ }
      else s
    | none => s) s

/-- Operations booked for frames that have come near enter their dies' queues (R63), where the queue can take them (R64). -/
def State.enterQueues (s : State) : State :=
  s.plt.later.foldl (fun s e =>
    if s.plt.frame + 1 < e.1 ∨ s.quietDie e.2.1 s.plt.frame then s
    else match (s.profileOf e.2.1).bind (fun p => s.insertOp e.2.1 e.2.2 p) with
      | some t => { t with plt := { t.plt with later := t.plt.later.erase e } }
      | none => s) s

/-- Frame 0 retires (R58, R89): its bookings, its debt, its ladder windows and the closed windows that have ended go; what is booked for
frames 0 and 1 now enters the die queues. -/
def State.shiftFrames (s : State) : State :=
  let s := s.carrySuspended
  let p := s.plt
  let f := p.frame + 1
  let s : State := { s with svy := { s.svy with sampledNow := 0 } }
  ({ s with plt := { p with
      frame := f, frameAt := s.now, die := dropOld f p.die, recon := dropOld f p.recon, chan := dropOld f p.chan,
      ldpc := dropOld f p.ldpc, parity := dropOld f p.parity, portIn := dropOld f p.portIn, portOut := dropOld f p.portOut,
      power := dropOld f p.power, powerAll := dropOld f p.powerAll, debt := dropOld f p.debt,
      ladder := p.ladder.filter (fun e => decide (windowOf s.now ≤ e.1 / 16)),
      closed := (p.closed.map (fun (e : Nat × List Closed) => (e.1, e.2.filter (fun w => decide (s.now < w.until_))))).filter (fun e => !e.2.isEmpty),
      released := [], quietLeft := p.quietLeft - 1,
      hkUsed := match p.quiet with
        | some c => if p.quietLeft ≤ 1 then [] else [(c, 16 * p.hkNow)]   -- the slot goes on (R103)
        | none => [] } } : State).enterQueues

/-- Reserves, port rates, κ_c and the PS1 limit come into force (R91, R325, R395, R466); classes are checked again where a limit
the floors rest on has changed (R48). -/
def State.latchLimits (s : State) : State :=
  let recon := (List.range 128).foldl (fun t g => tabSet (fun _ => 20) t g (s.fld F.PLT_RECON_RECON_PERMILLE g)) s.plt.reconNow
  let ports := s.ports.map (fun (e : Nat × Port) => (e.1, { e.2 with rateUsed := if e.2.up then e.2.rate else 0 }))
  let ps1 := decide (s.pwr.pstate = 1)
  let changed := decide (ports ≠ s.ports) || (ps1 != s.plt.capPs1)
  let s := { s with
    plt := { s.plt with hkNow := s.fld F.PLT_RESERVE_HK_PERMILLE 0, thNow := s.fld F.PLT_RESERVE_THERMAL_PERMILLE 0,
                        reconNow := recon, capPs1 := ps1, stagingNow := s.pwr.budget },
    ports := ports, til := { s.til with pool := s.til.pool.map (fun (t : TPool) => { t with limit := min t.size t.target }) },
    cip := { s.cip with kappa := kappaOf (32 - s.fencedCount 0x080) } }
  if changed then s.recheck else s

/-- Every bucket gains its tokens of a frame (R41). -/
def State.refillBuckets (s : State) : State :=
  s.buckets.foldl (fun s e => match e.2 with
    | some b => s.setBucket (e.1 / 64) (e.1 % 64) (b.refill (s.cls (e.1 % 64)))
    | none => s) s

/-- Debt booked on a die in the earliest of `fuel` frames from `f` on with room, at most `cap` a frame, with what goes with it (R181): what
is left of it (R90). -/
def State.bookOwedDie (s : State) (d cap : Nat) : Nat → Nat → Nat → State × Nat
  | 0, _, left => (s, left)
  | fuel + 1, f, left =>
    if left = 0 then (s, 0)
    else
      let x : Share := ⟨d, left, match s.profileOf d with
        | some p => s.reloSides (dieGroup d) d left p
        | none => []⟩
      match s.placeShare x 0 f cap with
      | some (t, n, bs) => (t.enterDebt bs).bookOwedDie d cap fuel (f + 1) (left - n)
      | none => s.bookOwedDie d cap fuel (f + 1) left

/-- Debt booked evenly over the members of a group in the earliest frames with room, at a boundary and so before any write (R90); of reshape
debt at most RESHAPE_PERMILLE of each die's limit, in the frame that has just entered the horizon (R210). What is left of it. -/
def State.bookOwed (s : State) (reshape : Bool) (g left : Nat) : State × Nat :=
  let f := s.plt.frame
  let l := s.members g
  let each := ceilDiv left (max 1 l.length)
  let r := l.foldl (fun (a : State × Nat) m =>
    let want := min each (left - a.2)
    let t := if reshape then a.1.bookOwedDie m.1 (a.1.limit 0 m.1 * a.1.fld F.PAR_CTRL_RESHAPE_PERMILLE 0 / 1000) 1 (f + 63) want
      else a.1.bookOwedDie m.1 want 64 f want
    (t.1, a.2 + (want - t.2))) (s, 0)
  (r.1, left - r.2)

/-- R90 over all bands, groups and dies; the refresh queue's debt in its order. -/
def State.bookAllOwed (s : State) : State :=
  let s := (s.svy.refreshQ ++ s.plt.bandLeft.map Prod.fst).foldl (fun s b =>
    let r := s.bookOwed false (b % 128) (tabGet (fun _ => 0) s.plt.bandLeft b)
    { r.1 with plt := { r.1.plt with bandLeft := tabSet (fun _ => 0) r.1.plt.bandLeft b r.2 } }) s
  let s := s.plt.refreshLeft.foldl (fun s e =>
    let r := s.bookOwed false e.1 e.2
    { r.1 with plt := { r.1.plt with refreshLeft := tabSet (fun _ => 0) r.1.plt.refreshLeft e.1 r.2 } }) s
  let s := s.plt.dieLeft.foldl (fun s e =>
    let t := s.bookOwedDie e.1 e.2 64 s.plt.frame e.2
    { t.1 with plt := { t.1.plt with dieLeft := tabSet (fun _ => 0) t.1.plt.dieLeft e.1 t.2 } }) s
  s.plt.debtLeft.foldl (fun s e =>
    let r := s.bookOwed true e.1 e.2
    { r.1 with plt := { r.1.plt with debtLeft := tabSet (fun _ => 0) r.1.plt.debtLeft e.1 r.2 } }) s

/-- Relocation beyond the booked debt runs behind host work (R89): in what the frame in progress has left, with what goes with it (R59, R94). -/
def State.runExcess (s : State) : State :=
  s.plt.excess.foldl (fun s e =>
    let x : Share := ⟨e.1, e.2, match s.profileOf e.1 with
      | some p => s.reloSides (dieGroup e.1) e.1 e.2 p
      | none => []⟩
    match s.placeShare x 0 s.plt.frame e.2 with
    | some (t, n, _) =>
      if n = 0 then s
      else (({ t with plt := { t.plt with excess := tabSet (fun _ => 0) t.plt.excess e.1 (e.2 - n) } } : State).pushOp e.1 4 n
        (s.now + 64 * msTicks)).convert e.1 n
    | none => s) s

/-- DEGRADED is entered and left at a frame boundary (R489), with a check of the classes (R48). -/
def State.degradedStep (s : State) : State :=
  match s.pwr.mode with
  | .service => if s.fencedUnits then (s.toMode .degraded).recheck else s
  | .degraded => if s.fencedUnits then s else (s.toMode .service).recheck
  | _ => s

/-- Idle, the device takes the power state CHOOSE gives (R394). -/
def State.chooseStep (s : State) : State :=
  if s.allIdle ∧ !s.enabledCtls.isEmpty ∧ s.pwr.entering.isNone ∧ !s.pwr.held then s.takeState s.choose else s

/-- Some stripe group is below level 3 (R170). -/
def State.anyGroupOpen (s : State) : Bool := (List.range 128).any (fun g => decide (s.urgency g < 3))

/-- The checkpoint volume of a frame (R145): the map in use over the frames of a pass. -/
def State.ckptPerFrame (s : State) : Nat :=
  let segs := s.atl.pools.foldl (fun n e => n + (e.2.map Pool.segs).getD 0) 0
  segs * 4096 / (max 1 (s.fld F.ATL_CTRL_CKPT_PASS_S 0) * 1000)

/-- FRAME_BOUNDARY (R58). `activity` holds the activity counters of the frame just ended (R509). With the hub off no frame
passes. -/
def execFrameBoundary (activity : List Nat) (s : State) : Res :=
  match s.pwr.mode with
  | .vault | .dormant | .stopped => .next s
  | .holdup => .next (((s.shiftFrames.modelFrame activity).takeTEff).stepDecision)
  | .ready | .service | .degraded =>
    let s := s.shiftFrames.refillBuckets.latchLimits
    let s := ((s.modelFrame activity).takeTEff).stepDecision
    let s := { s with plt := { s.plt with step := s.ctr.step } }
    let s := (s.freeParked.oweMap s.ckptPerFrame).bookAllOwed.runExcess.retryMoves
    let s := if s.svy.writesStopped && s.anyGroupOpen then
        { s with svy := { s.svy with writesStopped := false } } else s.stopWrites
    let s := { s with par := { s.par with slotsOut := s.par.slotsOut && decide (3583 ≤ s.slotsUsed) } }
    .next s.degradedStep.naturalAnchors.nameCandidate.grantQuiet.chooseStep.checkWarnings.retryUpds.offerWaiting

/-- QUIET_SLOT_END (R105, R512, R516): an anchor reading of the channel is requested, passed-over candidates may be named again. -/
def execQuietSlotEnd (s : State) : Res :=
  match s.plt.quiet with
  | none => .next s
  | some c =>
    let s := { s with plt := { s.plt with quiet := none, quietLeft := 0 },
                      ctr := { s.ctr with anchorDue := some c, unquiet := [] } }
    .next ((s.demandSample (64 + c)).event F.PLT_EVENTS_QUIET_DONE 0 c)

/-! ### Decode outcomes (R81, R82, R290, R297, R298, Table 03-5) -/

/-- A read that waits for this page: its command and the place of the IU in its plan. -/
def State.readerOf (s : State) (g : PageRef) : Option (Cmd × Nat × IuPlan) :=
  s.cmds.findSome? (fun c =>
    if c.phase ≠ .running then none
    else ((List.range c.ius.length).zip c.ius).findSome? (fun e =>
      let i := e.2
      if !i.ended && i.members.any (fun m => decide (m.1 = g.die ∧ m.2 ≠ 1 ∧ m.2 ≠ 3)) && decide (i.row = g.page)
          && decide (i.band = s.bandOf g.die g.block) && decide (s.iuPlane i = g.plane) then some (c, e.1, i) else none))

/-- An IU has all it needs: it ends, its own claim on the reserve is released (R76), a rebuilt one is counted, and the command completes
with its last. -/
def State.iuEnds (s : State) (c : Cmd) (k : Nat) (i : IuPlan) : State :=
  let s := s.setIu c k { i with ended := true, resv := none, claim := [] }
  let s := if i.claim.isEmpty then s else s.unbook i.claim
  let s := s.mapCmd c.fn c.sq c.cid (fun c => { c with bookings := lessEach c.bookings i.claim })
  let s := if i.detour then s.mediaCount 4 1 else s
  match s.findCmd c.fn c.sq c.cid with
  | some c => s.readDone c
  | none => s
where
  /-- A list without one occurrence of each of some bookings. -/
  lessEach (bs l : List Booking) : List Booking := l.foldl (fun bs b => bs.erase b) bs

/-- A member of an IU's plan has been decoded: its soft reads are withdrawn (R291); enough of them end the IU. -/
def State.memberOk (s : State) (c : Cmd) (k : Nat) (i : IuPlan) (die : Nat) : State :=
  let i := { i.mark die 1 with soft := none, bad := tabSet (fun _ => 0) i.bad die 0 }
  let s := (s.withdraw i.resv.toList).softReads c i die false
  if s.needed i ≤ (i.members.filter (fun m => decide (m.2 = 1))).length then s.iuEnds c k i
  else s.setIu c k { i with resv := none }

/-- A retention sample that waits for this page. -/
def State.sampleAt (s : State) (g : PageRef) : Option (Nat × Nat × Nat) :=
  s.svy.sampling.find? (fun e => decide (e = (s.bandOf g.die g.block, g.die, g.page)))

/-- A retention sample has been decoded (R176): more than a hard decode, or too many corrected bits, queues its band. -/
def State.sampleRead (s : State) (g : PageRef) (mode corrected : Nat) : State :=
  match s.sampleAt g with
  | none => s
  | some e =>
    let s := { s with svy := { s.svy with sampling := s.svy.sampling.filter (fun x => decide (x ≠ e)) } }
    let thr := ((s.profileOf g.die).map Profile.retThr).getD 0
    if (mode ≠ 0 ∨ thr < corrected) ∧ (s.bandRec e.1).st = .closed ∧ !s.svy.refreshQ.contains e.1 then
      (s.event F.SVY_MEDIA_EVENTS_RETENTION_REFRESH 0 e.1).queueRefresh e.1 2 false
    else s

/-- A further array read of a page for the device's own sake (R290): in reference state `ref`, as converted debt behind what the die has. -/
def State.backRead (s : State) (die : Nat) (ref : RefState) : State :=
  match s.profileOf die with
  | none => s
  | some p =>
    let n := unitsOf (p.tR * q16)
    let s := match s.spreadShare ⟨die, p.tR, s.readSides die p⟩ 0 s.plt.frame 64 with
      | some (t, bs) => t.enterDebt bs
      | none => s.oweDie die p.tR
    s.pushDieOp die { s.newOp die 4 n (s.now + 64 * msTicks) with ref := ref, bytes := 16384 + p.spare }

/-- A background read's decode failed: while a mode is left its next reads are issued, the soft attempt's or one of the ladder (R290); else the
slot is uncorrected, and a retention sample
or a refresh read makes its block a grown bad block (R178). A relocation read goes to the rebuild path (R164): with three erasures the row is
lost, with fewer its IU is relocated by detour. -/
def State.backgroundFailed (s : State) (lane mode step : Nat) (g : PageRef) : State :=
  let b := s.bandOf g.die g.block
  let n := ((s.profileOf g.die).map Profile.softReads).getD 0
  let steps := ((s.profileOf g.die).map (fun p => min p.retryLen (s.fld F.LDP_CFG_LADDER_MAX 0))).getD 0
  if mode = 0 ∧ 0 < n then (List.range n).foldl (fun s j => s.backRead g.die (.soft (j + 1))) s
  else if (mode < 2 ∧ 0 < steps) ∨ (mode = 2 ∧ step < steps) then s.backRead g.die (.set (if mode = 2 then step + 1 else 1))
  else
    let sampled := (s.sampleAt g).isSome
    let x := s.bandRec b
    let s := s.uncorrected lane g
    let s := { s with svy := { s.svy with sampling := s.svy.sampling.filter (fun e => decide (e ≠ (b, g.die, g.page))) } }
    let s := if sampled ∨ (x.st = .victim ∧ x.reason ≠ 0) then s.grownBad b (dieSheet g.die) g.page else s
    if x.st = .victim ∧ 3 ≤ s.erasures b g.page then s.rowLost b g.page (s.erasedOf b g.page) else s

/-- Reservations whose data waits in the tiles for a lane of the quadrant (R294). -/
def State.readyRes (s : State) (quad : Nat) : Option LdpJob :=
  (((List.range 64).map (fun k => 64 * quad + k)).flatMap (fun l => (s.laneOf l).res)).find? (fun j =>
    j.ready && !s.lanes.any (fun e => (e.2.busy.toList ++ e.2.yielded).any (fun b => decide (b.mode = 1 ∧ b.id = j.id))))

/-- The lane's job is over (R438): a decode that had yielded resumes; else a B lane starts a soft decode that waits for one (R294). -/
def State.laneFree (s : State) (l : Nat) : State :=
  let x := s.laneOf l
  let s := match x.busy with
    | some j => s.jobEnds j
    | none => s
  match x.yielded with
  | j :: rest => s.setLane l { x with busy := some j, yielded := rest }
  | [] => if l % 2 = 0 then s.setLane l { x with busy := none }
    else match s.readyRes (l / 64) with
      | some j => s.setLane l { x with busy := some { j with start := s.now } }
      | none => s.setLane l { x with busy := none }

/-- Counters and events of a decode (R297, R299). -/
def State.decodeCounts (s : State) (q mode corrected die : Nat) (ok : Bool) : State :=
  let s := if mode = 0 ∧ !ok then (s.bump F.LDP_CNT_HARD_FAIL_COUNT q 1).mediaCount 0 1 else s
  let s := if mode = 1 ∧ ok then ((s.bump F.LDP_CNT_SOFT_OK_COUNT q 1).mediaCount 1 1).event F.LDP_EVENTS_SOFT_USED q die else s
  let s := if mode = 2 ∧ ok then ((s.bump F.LDP_CNT_LADDER_OK_COUNT q 1).mediaCount 2 1).event F.LDP_EVENTS_LADDER_USED q die else s
  if s.fld F.LDP_CFG_CORR_WARN 0 ≤ corrected then s.event F.LDP_EVENTS_HIGH_CORR q die else s

/-- DECODE_COMPLETE (R297): lane `lane` has decoded a slot in `mode` (0 hard, 1 soft, 2 ladder set `ladder`). The array reads of a plan count
on the block as each ends (R172); those of a sample or relocation, whose converted time the die queue shows without its pages, count here. -/
def execDecodeComplete (lane mode : Nat) (ok : Bool) (corrected ladder : Nat) (die block page plane cwMask : Nat) (s : State) : Res :=
  if 256 ≤ lane ∨ s.fenced 0x0B0 lane then .next s
  else
    let g : PageRef := ⟨die, block, page, plane, if cwMask % 16 = 0 then 15 else cwMask % 16⟩
    -- of a command that has ended: its result is posted and nothing follows
    let gone := ((s.laneOf lane).busy.map LdpJob.orphan).getD false
    let s := (s.laneFree lane).decodeCounts (lane / 64) mode corrected die ok
    let behind := (s.sampleAt g).isSome || decide ((s.bandRec (s.bandOf die block)).st = .victim)
    let extra := if !behind || (s.readerOf g).isSome then 0
      else if mode = 1 then ((s.profileOf die).map Profile.softReads).getD 0 else 1
    let s := if extra = 0 then s else s.countReads (s.bandOf die block) (dieSheet die) extra
    let s := s.emit (postOf { g with mask := if ok then 0 else g.mask } (if ok then mode % 4 else 4 + mode % 4) corrected ladder)
    match s.readerOf g with
    | some (c, k, i) => .next (if ok then s.memberOk c k i die else s.decodeFailed c k i lane mode ladder g)
    | none => .next (if ok then s.sampleRead g mode corrected else if gone then s else s.backgroundFailed lane mode ladder g)

/-- SOFT_RESERVATION_START (R294): the reservation `id` of a B lane begins; a decode running ahead there yields. Where its own decode already
runs on another lane it runs on there; where it has yielded one, it resumes here. -/
def execSoftReservationStart (lane id : Nat) (s : State) : Res :=
  let x := s.laneOf lane
  match x.res.find? (fun j => decide (j.id = id)) with
  | none => .next s
  | some j =>
    let own := fun (b : LdpJob) => decide (b.mode = 1 ∧ b.id = id)
    let x' : Lane := { x with res := x.res.filter (fun k => decide (k.id ≠ id)), yielded := x.yielded.filter (fun b => !own b) }
    if s.lanes.any (fun e => e.2.busy.any own) then .next (s.setLane lane x')
    else
      let s := { s with lanes := s.lanes.map (fun (e : Nat × Lane) => (e.1, { e.2 with yielded := e.2.yielded.filter (fun b => !own b) })) }
      .next (s.setLane lane { x' with busy := some j, yielded := x.busy.toList ++ x'.yielded })

/-! ### Die operations (R101, Table 03-7) -/

/-- The read of a member has ended for the command its operation works for: a completion that comes first is used, and no re-plan takes it
up again (R101). -/
def State.memberRead (s : State) (op : DieOp) (die : Nat) : State :=
  match op.cmd with
  | none => s
  | some (f, q, k) => s.mapCmd f q k (fun c => { c with ius := c.ius.map (fun i =>
      if op.iu = i.iu + 1 then { i with members := i.members.map (fun m => if m = (die, 0) then (die, 4) else m) } else i) })

/-- The command an operation works for has been re-planned without it (Table 03-7); of one that has ended nothing is used. -/
def State.wasReplanned (s : State) (op : DieOp) : Bool := op.stale || op.orphan

/-- An operation ends stale (Table 03-7): its tiles return at once. -/
def State.staleEnds (s : State) (op : DieOp) (die : Nat) : State :=
  let s := s.unbook op.tiles
  let s := match op.cmd with
    | some (f, q, k) => if op.orphan then s else s.mapCmd f q k (fun c => { c with bookings := lessBookings c.bookings op.tiles })
    | none => s
  (s.bump F.PLT_STALE_COUNT 0 1).event F.PLT_EVENTS_STALE_DISCARD 0 die

/-- A read has left the die (R101, R172): it counts on its block, used or not; one of an older epoch whose command has been re-planned is
discarded. -/
def State.readEnds (s : State) (op : DieOp) (b die : Nat) : State :=
  let s := if op.kind = 4 then s else s.countReads b (dieSheet die) 1
  if op.epoch ≠ s.dieEpochOf die ∧ s.wasReplanned op then s.staleEnds op die else (s.opEnds op).memberRead op die

/-- DIE_OPERATION_COMPLETE (R101, R159, R172, R178, R191): the operation running on a die ends, its status passed or failed. Its
place on the medium is the plan's row in the die's context. A move that waited for its epoch may follow (R99). -/
def execDieOperationComplete (die : Nat) (passed : Bool) (s : State) : Res :=
  match s.runningOp die, s.profileOf die with
  | some r, some p =>
    let row := (s.ctxOf die).row
    let b := s.bandOf die (row / max 1 p.pages)
    let page := row % max 1 p.pages
    let sh := dieSheet die
    if r.suspended then
      -- a read under the suspended operation
      match tabGet (fun _ => none) s.plt.reading die with
      | none => .next s
      | some y =>
        let s := { s with plt := { s.plt with reading := tabSet (fun _ => none) s.plt.reading die none } }
        let s := s.setCtx die { s.ctxOf die with inRead := false }
        .next ((s.readEnds y.op b die).retryMoves.boundary die)
    else
    let s := { s with plt := { s.plt with running := tabSet (fun _ => none) s.plt.running die none } }
    let x := s.ctxOf die
    let s := s.setCtx die { x with inRead := false, st := if x.st = .running ∧ (x.long = 0 ∨ r.op.kind = 1 ∨ r.op.kind = 2) then .idle else x.st,
                                   long := if r.op.kind = 1 ∨ r.op.kind = 2 then 0 else x.long }
    let s := s.setClosed die ((s.closedList die).filter (fun w => decide (w.op ≠ r.op.id + 1 ∨ r.op.kind = 0)))
    if r.op.kind = 1 then
      .next ((if passed then s.programPass b page sh r.op.epoch else s.grownBad b sh page).retryMoves.boundary die)
    else if r.op.kind = 2 then
      if (s.bandRec b).st = .erasing then .next ((if passed then s.erasePassed b sh else s.grownBad b sh page).retryMoves.boundary die)
      else .next (s.retryMoves.boundary die)
    else .next ((s.readEnds r.op b die).retryMoves.boundary die)
  | some r, none => .next ({ s with plt := { s.plt with running := tabSet (fun _ => none) s.plt.running die none } } : State).retryMoves
  | none, _ => .next s

end Sys2Proof.Machine
end

