-- ==== Sys2Proof/Machine/Power.lean ====
section
/-! DEFINITION. The commands of chapter 16: modes, rails, adaptive voltage, holdup, the capacitor-health test, and the mailbox
requests of group 0x08xx that belong to them. -/

set_option linter.unusedVariables false

namespace Sys2Proof.Machine

/-! ### The power envelope (R97, R422, R497, R665) -/

/-- The envelope values count as programmed (R665, R667): PLT_ENVELOPE and PLT_SHEET_PWR of every present sheet. -/
def State.noteEnvelope (s : State) (all : Bool) (sheets : List Nat) : State :=
  let st := s.start
  let have_ := (st.aoSheets ++ sheets).dedup
  let e := if all then 1 else st.aoEnvelope
  let done := decide (e = 1) && (List.range 16).all (fun k => !maskBit s.par.present k || have_.contains k)
  { s with start := { st with aoEnvelope := e, aoSheets := have_, envelope := done } }

/-- ENVELOPE_SET (0x0801, R422): PLT_ENVELOPE and every PLT_SHEET_PWR as one change. -/
def execEnvelopeSet (q : MbxReq) (s : State) : Res :=
  .next (s.serve q ⟨0x0801, 1, false, 68, 68, false⟩ (fun s =>
    let tot := putBits (s.rg .PLT_ENVELOPE 0) F.PLT_ENVELOPE_TOTAL_TOKENS.hi F.PLT_ENVELOPE_TOTAL_TOKENS.lo (le q.payload 0 2)
    let sheet := fun k =>
      let w := putBits (s.rg .PLT_SHEET_PWR k) F.PLT_SHEET_PWR_LADDER_10MA.hi F.PLT_SHEET_PWR_LADDER_10MA.lo (le q.payload (4 + 4 * k) 2)
      putBits w F.PLT_SHEET_PWR_SHEET_TOKENS.hi F.PLT_SHEET_PWR_SHEET_TOKENS.lo (le q.payload (6 + 4 * k) 2)
    if le q.payload 2 2 ≠ 0 ∨ !Reg.inRange .PLT_ENVELOPE tot ∨ !(List.range 16).all (fun k => Reg.inRange .PLT_SHEET_PWR (sheet k)) then
      s.refuse q 0x0801 Ms.invalidField
    else
      let s' := (List.range 16).foldl (fun t k => t.setReg .PLT_SHEET_PWR k (sheet k)) (s.setReg .PLT_ENVELOPE 0 tot)
      (s'.noteEnvelope true (List.range 16)).respond q 0x0801 Ms.success false []))

/-! ### Modes -/

/-- POWER_STATUS (0x0802). PACKAGE_W and FLASH_W are measurements the spec gives no rule for: free values (log entry 21). -/
def execPowerStatus (q : MbxReq) (s : State) : Res :=
  .next (s.serve q ⟨0x0802, 1, true, 0, 0, false⟩ (fun s =>
    let a := s.draw
    let b := a.2.draw
    let s := b.2
    s.respond q 0x0802 Ms.success false
      ([s.pwr.mode.code, s.pwr.pstate] ++ bytesLe 2 (a.1 % 65536) ++ bytesLe 2 (b.1 % 65536) ++ zeros 2 ++ bytesLe 8 s.pwr.budget
        ++ bytesLe 4 s.pwr.eMeasured ++ bytesLe 8 s.pwr.lastTestAt)))

/-- DORMANT may be entered (R491): every controller disabled or in PS4, each link in L2 or down. -/
def State.dormantOk (s : State) : Bool :=
  s.ctls.all (fun e => !e.2.en || decide (e.2.ps = 4)) && [0, 1].all (fun p => (s.port p).l2 || !(s.port p).up)

/-- The entry of R490 begins with its first step: admission closes. -/
def State.startDormant (s : State) : State :=
  if !s.hubOn then s
  else { s with pwr := { s.pwr with entering := some 1 }, plt := { s.plt with admitOpen := false } }

/-- MODE_REQUEST (0x0803, R422, R491). -/
def execModeRequest (q : MbxReq) (s : State) : Res :=
  .next (s.serve q ⟨0x0803, 1, false, 1, 1, false⟩ (fun s =>
    match q.payload.getD 0 0 with
    | 1 => if s.hubOn && s.dormantOk then s.startDormant.respond q 0x0803 Ms.success false [] else s.refuse q 0x0803 Ms.modeTransition
    | 2 =>
      if s.pwr.mode = .service ∨ s.pwr.mode = .degraded then
        let t := (s.toModeChecked .ready).dramRest true
        ({ t with pwr := { t.pwr with pstate := 3, held := true } } : State).respond q 0x0803 Ms.success false []
      else s.refuse q 0x0803 Ms.modeTransition
    | 3 => s.wake.respond q 0x0803 Ms.success false []
    | _ => s.refuse q 0x0803 Ms.invalidField))

/-- PS4_ENTRY (R396): every enabled controller has selected PS4 and both links are in L2. -/
def execPs4Entry (s : State) : Res :=
  if !s.hubOn ∨ !s.enabledCtls.all (fun e => decide (e.2.ps = 4)) then .next s
  else
    let s := (s.setPort 0 { s.port 0 with l2 := true }).setPort 1 { s.port 1 with l2 := true }
    .next s.startDormant

/-- PS_EXIT_TIMER (R394): the device leaves READY before the event that set t_next. -/
def execPsExitTimer (s : State) : Res :=
  if s.pwr.mode = .ready ∧ s.pwr.held = false then .next s.toService else .next s

/-- Steps 3 and 4 of R490. -/
def State.closeAndSpill (s : State) : State :=
  (s.par.slot.foldl (fun (s : State) e => (s.closeShort e.1 0).setJslot e.1 Slot.reset) s).spillAll

/-- Steps 3 to 7 of R490. -/
def State.finishDormant (s : State) : State :=
  let s := s.closeAndSpill.suspend 6 0
  let s := { s with
    fch := { s.fch with chan := s.fch.chan.map (fun (e : Nat × Chan) => (e.1, { e.2 with wpHigh := false })) },
    dram := s.dram.map (fun (e : Nat × Dram) => (e.1, { e.2 with selfRef := true })),
    gaz := s.gaz.persist,
    pwr := { s.pwr with entering := none, holdEn := false, held := false, dormantAt := s.now } }
  let s := (s.toMode .dormant).emit (.avs 0)   -- VDD_CORE requested off
  { s with pwr := { s.pwr with pstate := 4 } }

/-- A booked program of staged data has not passed (step 2 of R490). -/
def State.programsBooked (s : State) : Bool :=
  s.atl.stage.any (fun e => (e.2.map (fun x => x.live || decide (x.progs ≠ 0))).getD false)

/-- DORMANT_ENTRY (R490): step 2 waits while a booked program of staged data has not passed; then steps 3 to 7 follow. -/
def execDormantEntry (s : State) : Res :=
  if !s.hubOn ∨ s.pwr.entering.isNone then .next s
  else if s.programsBooked then
    .next { s with pwr := { s.pwr with entering := some 2 } }
  else .next s.finishDormant

/-- WAKE_N_ASSERTED (R489, R492): WAKE_N low for 1 ms while the device does not drive it. -/
def execWakeNAsserted (s : State) : Res :=
  if s.pwr.wakeOut then .next s
  else if s.pwr.mode = .dormant ∨ s.pwr.entering.isSome then .next s.wake else .next s

/-! ### Rails (R495, R496) -/

/-- VAULT (R489, R493): everything outside the VBAT domain and the flash is lost; its suspension begins, where DORMANT had not begun it
(Table 02-7, R55). -/
def State.toVault (s : State) : State :=
  let t := s.deviceReset 1
  ({ t with pwr := { t.pwr with mode := .vault, holdEn := false },
            start := { t.start with running := false, susp := t.start.susp ++ s.openSuspensions } } : State).suspend 6 0

/-- VDD_AON_LOST (R489): DORMANT or stopped to VAULT. -/
def execVddAonLost (s : State) : Res :=
  if s.pwr.mode = .dormant ∨ s.pwr.mode = .stopped then .next s.toVault else .next s

/-- PWR_FAIL_N_FALL (R489, R506, R673): HOLDUP; before step 11 of start-up the device stops without a dump. -/
def execPwrFailNFall (s : State) : Res :=
  let s := { s with pwr := { s.pwr with pwrFailN := false } }
  if s.start.running ∧ s.start.step < 10 then
    .next { (s.toMode .stopped) with pwr := { (s.toMode .stopped).pwr with cause := 1, lowOnStop := false, holdEn := false } }
  else .next (s.enterHoldup 1)

/-- The device stops (R498 step 8, R552): FAULT_N is driven low after a DEVICE-class stop. -/
def State.stopNow (s : State) : State :=
  let s := s.toMode .stopped
  { s with pwr := { s.pwr with holdEn := false, lowOnStop := decide (s.pwr.cause = 3) },
           fch := { s.fch with chan := s.fch.chan.map (fun (e : Nat × Chan) => (e.1, { e.2 with wpHigh := false })) } }

/-- RAIL_TRIP (R495): rails in the order of Table 16-4, from 0. In DORMANT only VDD_AON is monitored. -/
def execRailTrip (rail : Nat) (s : State) : Res :=
  let mark := fun (s : State) =>
    let m := s.pwr.railsTripped
    ({ s with pwr := { s.pwr with railsTripped := if m / 2 ^ rail % 2 = 1 then m else m + 2 ^ rail } } : State).event
      F.PWR_EVENTS_RAIL_TRIP 0 rail
  if 6 ≤ rail then .next s
  else match s.pwr.mode with
  | .ready | .service | .degraded =>
    if s.start.running ∧ s.start.step = 0 then .next { s with start := { s.start with railsAt := s.now + 10 * msTicks } }
    else if s.start.running ∧ s.start.step < 10 then .next ({ mark s with pwr := { (mark s).pwr with cause := 2 } } : State).stopNow
    else .next ((mark s).enterHoldup 2)
  | .holdup =>
    if rail < 2 then .next ({ mark s with pwr := { (mark s).pwr with dumpAbort := true } } : State).stopNow else .next (mark s)
  | .dormant => if rail = 1 then .next s.toVault else .next s
  | .vault | .stopped => .next s

/-- AVS_REQUEST (R496): the setpoint moves toward the target by at most 10 mV, in 5 mV steps, between 650 and 800 mV, at most
once per ms; in deep READY the target is 650 mV. -/
def execAvsRequest (target : Nat) (s : State) : Res :=
  let soon : Bool := match s.pwr.avsAt with
    | some t => decide (s.now < t + msTicks)
    | none => false
  if soon || !s.hubOn then .next s
  else
    let want := if s.pwr.mode = .ready ∧ s.pwr.pstate = 3 then 650 else max 650 (min 800 (target / 5 * 5))
    let cur := s.fld F.PWR_AVS_SETPOINT_MV 0
    let mv := if cur < want then min want (cur + 10) else max want (cur - 10)
    let s := s.setFld F.PWR_AVS_SETPOINT_MV 0 mv
    .next ({ s with pwr := { s.pwr with avsAt := some s.now } }.emit (.avs mv))

/-! ### HOLDUP (R498 to R500) -/

/-- Staging bytes live, and the dump's record (Table 16-5). -/
def State.dumpRecord (s : State) (complete : Bool) : DumpRec :=
  let live := s.atl.stage.filterMap (fun e => e.2.bind (fun x => if x.live then some x.bytes else none))
  { cause := s.pwr.cause, complete := complete, datum := s.pwr.entryDatum % 2 ^ 42, datumUnset := decide (2 ^ 63 ≤ s.pwr.entryDatum),
    stageEpoch := s.pwr.stageEpoch, set := s.pwr.armedSet, stagedBytes := live.foldl (fun a b => a + b) 0, slots := s.slotsUsed,
    tailBlocks := ceilDiv s.atl.tailBytes 4096, seq := s.pwr.dumpSeq + 1 }

/-- The dump has been written to the armed bands of the HOLDUP reserve (Table 05-2). -/
def State.writeReserve (s : State) : State :=
  (List.range 128).foldl (fun (s : State) g => match s.holdBand g s.pwr.armedSet with
    | some e => if e.2.st = .free then s.moveBand e.1 { e.2 with st := .closed } else s
    | none => s) s

/-- DUMP_END (R498 steps 7 and 8): the record is written, WP_N driven low, the device stops. -/
def execDumpEnd (complete : Bool) (s : State) : Res :=
  if s.pwr.mode ≠ .holdup then .next s
  else
    let d := s.dumpRecord (complete && s.pwr.dumpParts)
    let s := { s.writeReserve with pwr := { s.pwr with dumps := d :: s.pwr.dumps, dumpSeq := d.seq, writtenSet := some s.pwr.armedSet } }
    let s := s.record 0x0E6 0 0 0x0005 (d.seq % 2 ^ 32 + b2n d.complete * 2 ^ 32 + s.pwr.cause * 2 ^ 33)
    .next s.stopNow

/-- POWER_RESTART (Table 16-2): from a stop after PWR_FAIL_N or a rail trip. -/
def execPowerRestart (s : State) : Res :=
  if s.pwr.mode = .stopped ∧ s.pwr.cause ≠ 3 then
    let t := s.restart 3
    .next { t with pwr := { t.pwr with pwrFailN := true } }
  else .next s

/-! ### The capacitor-health test (R502 to R504) -/

/-- The energy of B_test (R504), in mJ, for the voltage V1 in mV: 0 with no passed test. -/
def State.testEnergy (s : State) (v1 : Nat) : Nat :=
  match s.pwr.cPrev with
  | none => 0
  | some c =>
    let v2 := v1 * (100 - s.fld F.PWR_HOLD_BANK_DROP_PCT 0) / 100
    let vm := s.fld F.PWR_HOLD_BANK_V_MIN_MV 0
    c * (v2 ^ 2 - vm ^ 2) / (2 * 10 ^ 9)

/-- B_test (R504), for the voltage V1 in mV. -/
def State.bTest (s : State) (v1 : Nat) : Nat := s.budgetOf (s.testEnergy v1)

/-- A test is due (R502): at bring-up, INTERVAL_H hours after the last, counted in frames and, in DORMANT, by the always-on domain; or one has
been asked for or is under way. -/
def State.testDue (s : State) : Bool :=
  decide (s.pwr.test.phase ≠ .idle) || !s.pwr.tested
    || decide (s.pwr.lastTestFrame + s.fld F.PWR_HOLD_LIMITS_INTERVAL_H 0 * 3600000 ≤ s.plt.frame + s.pwr.testDormant)

/-- CAPACITOR_TEST (R502 steps 1 to 3) of a test that is due: the budget falls to B_test; once the staging in use fits it, HOLD_TEST_EN rises. -/
def execCapacitorTest (v1 vs : Nat) (s : State) : Res :=
  if !s.hubOn ∨ s.testDue = false ∨ (s.pwr.test.phase ≠ .idle ∧ s.pwr.test.phase ≠ .steady ∧ s.pwr.test.phase ≠ .draining) then .next s
  else
    let b := s.bTest v1
    let s := s.setBudget (min s.pwr.budget b)
    let t := { s.pwr.test with eTest := s.testEnergy v1 }
    if b < s.pwr.stagingUse then .next { s with pwr := { s.pwr with test := { t with phase := .draining, v1 := v1 } } }
    else .next { s with pwr := { s.pwr with holdTestEn := true, test := { t with phase := .discharging, v1 := v1, vs := vs, startAt := s.now } } }

/-- The test ends: TEST_DONE, the frame and time of it, the requester's handle. -/
def State.testEnds (s : State) (result : Nat) : State :=
  let h := s.pwr.test.handle
  let s := { s with pwr := { s.pwr with holdTestEn := false, tested := true, testDormant := 0, lastTestFrame := s.plt.frame, lastTestAt := s.datumTime,
                                        test := { s.pwr.test with phase := .idle, handle := none } } }
  (s.event F.PWR_EVENTS_TEST_DONE 0 0).opDone h result (bytesLe 4 s.pwr.eMeasured ++ bytesLe 8 s.pwr.budget)

/-- A failed test: budget 0, TEST_FAIL. -/
def State.testFails (s : State) : State :=
  let s := s.setBudget 0
  (({ s with pwr := { s.pwr with failed := true } } : State).event F.PWR_EVENTS_TEST_FAIL 0 0).testEnds Ms.success

/-- BANK_REACHES_V2 (R502 steps 4 and 5). -/
def execBankReachesV2 (s : State) : Res :=
  let t := s.pwr.test
  if t.phase ≠ .discharging then .next s
  else
    let r := s.fld F.PWR_HOLD_BANK_R_TEST 0
    let v2 := t.v1 * (100 - s.fld F.PWR_HOLD_BANK_DROP_PCT 0) / 100
    let vm := s.fld F.PWR_HOLD_BANK_V_MIN_MV 0
    let c := Config.capacitance (s.now - t.startAt) t.v1 v2 r
    let esr := (t.v1 - t.vs) * r * 100 / max 1 t.vs
    let e := c * (t.v1 ^ 2 - vm ^ 2) / (2 * 10 ^ 9)
    let b := s.budgetOf e
    let s := { s with pwr := { s.pwr with holdTestEn := false, esr := esr } }
    if s.fld F.PWR_HOLD_LIMITS_ESR_MAX_MOHM 0 < esr ∨ b = 0 then .next s.testFails
    else .next { s with pwr := { s.pwr with cPrev := some c, eMeasured := e, failed := false, test := { t with phase := .recharging, newBudget := b } } }

/-- CAPACITOR_TEST_TIMEOUT (R502): V2 was not reached within 2 s. -/
def execCapacitorTestTimeout (s : State) : Res :=
  if s.pwr.test.phase = .discharging ∧ s.pwr.test.startAt + 2 * sTicks ≤ s.now then .next s.testFails else .next s

/-- BANK_RECHARGED (R502 step 6): the new budget applies. -/
def execBankRecharged (s : State) : Res :=
  if s.pwr.test.phase = .recharging then .next ((s.setBudget s.pwr.test.newBudget).testEnds Ms.success) else .next s

/-- HOLDUP_TEST (0x0804, R422). -/
def execHoldupTest (q : MbxReq) (s : State) : Res :=
  .next (s.serve q ⟨0x0804, 3, false, 0, 0, true⟩ (fun s =>
    if s.pwr.test.phase ≠ .idle then s.refuse q 0x0804 Ms.testRunning
    else
      let r := (s.toService).startLong q 0x0804 []
      { r.2 with pwr := { r.2.pwr with test := { r.2.pwr.test with phase := .steady, handle := some r.1 } } }))

end Sys2Proof.Machine
end

