-- ==== Sys2Proof/Machine/Tiles.lean ====
section
/-! DEFINITION. The commands of chapter 14: tiles and their pools, the DRAM channels. -/

set_option linter.unusedVariables false

namespace Sys2Proof.Machine

/-! ### Tiles (R427 to R441) -/

/-- The pool that owns a tile after device reset (log entry 10). -/
def tileHome (t : Nat) : Nat :=
  if t < 1024 then 0 else if t < 2048 then 1 else if t < 2560 then 2 else if t < 3072 then 3 else if t < 3328 then 4
  else if t < 3712 then 5 else if t < 3968 then 6 else 7

/-- A tile's control word; unlisted: FREE in its first pool. -/
def Tile.home (t : Nat) : Tile := ⟨.free, false, tileHome t, 0⟩
def State.tileOf (s : State) (t : Nat) : Tile := tabGet Tile.home s.til.tile t
def State.setTile (s : State) (t : Nat) (x : Tile) : State := { s with til := { s.til with tile := tabSet Tile.home s.til.tile t x } }

/-- The pool to which a free tile of a pool above its target moves (R433): the lowest-numbered pool below its target. -/
def State.poolBelow (s : State) : Option Nat :=
  (List.range 8).find? (fun p => ((s.til.pool[p]?).map (fun t => decide (t.size < t.target))).getD false)

/-- The end of a resize (R433): every pool equals its target. -/
def State.resizeDone (s : State) : State :=
  if s.til.resizing && s.til.pool.all (fun t => decide (t.size = t.target)) then
    (({ s with til := { s.til with resizing := false } } : State).setFld F.TIL_CTRL_APPLY 0 0).event F.TIL_EVENTS_RESIZE_DONE 0 0
  else s

/-- A tile that becomes free joins pool `p` at the head of its list. -/
def State.tileInto (s : State) (t p : Nat) : State :=
  match s.til.pool[p]? with
  | none => s
  | some x => (s.setTile t ⟨.free, false, p, 0⟩).setTPool p { x with free := t :: x.free }

/-- A tile leaves pool `p` for pool `q`, its sizes with it. -/
def State.moveSize (s : State) (p q : Nat) : State :=
  match s.til.pool[p]?, s.til.pool[q]? with
  | some x, some y => (s.setTPool p { x with size := x.size - 1 }).setTPool q { y with size := y.size + 1 }
  | _, _ => s

/-- A tile whose count has reached 0 (R433, R440): retired, or free in its pool, or in the pool below its target. -/
def State.tileFreed (s : State) (t : Nat) : State :=
  let x := s.tileOf t
  match s.til.pool[x.pool]? with
  | none => s
  | some p =>
    let s := s.setTPool x.pool { p with inUse := p.inUse - 1 }
    if x.retire then
      let s := s.setTPool x.pool { p with inUse := p.inUse - 1, size := p.size - 1, target := p.target - 1, limit := p.limit - 1 }
      let s := s.setFld F.TIL_POOL_TGT_TARGET x.pool (s.fld F.TIL_POOL_TGT_TARGET x.pool - 1)
      let s := s.setTile t ⟨.retired, true, x.pool, 0⟩
      (({ s with til := { s.til with retired := s.til.retired + 1 } } : State).event F.TIL_EVENTS_SRAM_UE 0 0).resizeDone
    else if s.til.resizing ∧ p.target < p.size then
      match s.poolBelow with
      | some q => ((s.moveSize x.pool q).tileInto t q).resizeDone
      | none => s.tileInto t x.pool
    else s.tileInto t x.pool

/-- TILE_RELEASE (R436). -/
def execTileRelease (t : Nat) (s : State) : Res :=
  let x := s.tileOf t
  if 4096 ≤ t then .next s
  else if x.ref = 0 then .next (s.event F.TIL_EVENTS_REL_UNDERFLOW 0 0)
  else
    let s := s.setTile t { x with ref := x.ref - 1 }
    if x.ref = 1 then .next (s.tileFreed t) else .next s

/-- ADD_REF (R436). -/
def execAddRef (t : Nat) (s : State) : Res :=
  let x := s.tileOf t
  if 4096 ≤ t then .next s
  else if 255 ≤ x.ref then .next (s.event F.TIL_EVENTS_REF_OVERFLOW 0 0)
  else .next (s.setTile t { x with ref := x.ref + 1 })

/-- RESERVE (R436): all `n` or nothing. The answer is 1 where they are reserved. -/
def execTileReserve (p n : Nat) (s : State) : Res :=
  match s.til.pool[p]? with
  | none => .next s
  | some x =>
    if x.avail < n then .next (s.emit (.answer 0x060 [0]))
    else .next ((s.setTPool p { x with reserved := x.reserved + n }).emit (.answer 0x060 [1]))

/-- UNRESERVE (R436). -/
def execTileUnreserve (p n : Nat) (s : State) : Res :=
  match s.til.pool[p]? with
  | none => .next s
  | some x => .next (s.setTPool p { x with reserved := x.reserved - n })

/-- Side band bytes 0 to 3 of a FREE tile (R435): the next tile of its pool's free list, 0xFFFF at its end, and its inverse. -/
def State.linkWord (s : State) (t : Nat) : Option (BitVec 32) :=
  s.til.pool.findSome? (fun x =>
    if x.free.contains t then
      let n := BitVec.ofNat 16 ((x.free.drop (x.free.idxOf t + 1)).headD 0xFFFF)
      some (~~~ n ++ n)
    else none)

/-- A free list built anew from the control words (R439), in rising order of its tiles (DESIGN CHOICE, log entry 58, as is the cause): the
event and a CORRECTED fault. -/
def State.rebuildList (s : State) (p : Nat) (x : TPool) : State :=
  let free := (List.range 4096).filter (fun t => decide ((s.tileOf t).st = .free ∧ (s.tileOf t).pool = p))
  ((s.setTPool p { x with free := free }).event F.TIL_EVENTS_LIST_REBUILT 0 0).raiseAt 0x060 0 0x01 p

/-- A pool as an allocation finds it (R439): its list is rebuilt first where the head's link is `damaged` or its STATE is not FREE. -/
def State.checkList (s : State) (p : Nat) (damaged : Bool) : State :=
  match s.til.pool[p]? with
  | some x => match x.free.head? with
    | some t => if damaged || decide ((s.tileOf t).st ≠ .free) then s.rebuildList p x else s
    | none => s
  | none => s

/-- The head tile of a pool taken with `k` holders. -/
def State.takeHead (s : State) (p k reserved : Nat) (x : TPool) : State :=
  match x.free with
  | [] => s
  | t :: rest =>
    let s := s.setTile t ⟨.allocated, false, p, k⟩
    (s.setTPool p { x with free := rest, reserved := reserved, inUse := x.inUse + 1 }).emit (.answer 0x060 [t])

/-- ALLOC_RESERVED (R436, R437): the head tile, against a reservation, with its holders. -/
def execAllocReserved (p : Nat) (a : TileAsk) (s : State) : Res :=
  match s.til.pool[p]? with
  | none => .next s
  | some x =>
    if x.reserved = 0 ∨ a.holders = 0 ∨ 255 < a.holders then .next s
    else
      let s := s.checkList p a.damaged
      match s.til.pool[p]? with
      | some x => .next (s.takeHead p a.holders (x.reserved - 1) x)
      | none => .next s

/-- ALLOC_SPOT (R436): the head tile, or EMPTY (0xFFFF). -/
def execAllocSpot (p : Nat) (a : TileAsk) (s : State) : Res :=
  match s.til.pool[p]? with
  | none => .next s
  | some x =>
    if a.holders = 0 ∨ 255 < a.holders then .next s
    else if x.avail = 0 then .next (s.emit (.answer 0x060 [0xFFFF]))
    else
      let s := s.checkList p a.damaged
      match s.til.pool[p]? with
      | some x => .next (s.takeHead p a.holders x.reserved x)
      | none => .next s

/-- TILE_SRAM_UE (R440): an error to the job reading the tile, which retires when its last holder releases it. -/
def execTileSramUe (t : Nat) (injected : Bool) (s : State) : Res :=
  let x := s.tileOf t
  if 4096 ≤ t ∨ x.st ≠ .allocated then .next s
  else
    let s := s.setTile t { x with retire := true }
    let s := (s.bump F.TIL_ECC_UE 0 1).emit (.answer 0x060 [0xFFFE, t])
    .next (s.raise ⟨0x060, 0, 0x02, t, injected, none⟩)

/-- One free tile moves from the lowest pool above its target to the lowest below, while there are both (R433). -/
def State.moveFree : Nat → State → State
  | 0, s => s
  | n + 1, s =>
    let donor := (List.range 8).find? (fun p => ((s.til.pool[p]?).map (fun t => decide (t.target < t.size ∧ t.avail ≠ 0))).getD false)
    match donor, s.poolBelow with
    | some p, some q =>
      match s.til.pool[p]? with
      | some x => match x.free with
        | t :: rest =>
          let s := s.setTPool p { x with free := rest }
          State.moveFree n ((s.moveSize p q).tileInto t q)
        | [] => s
      | none => s
    | _, _ => s

/-- APPLY of TIL_CTRL (R433): the targets are checked; pools move toward them. -/
def State.applyTargets (s : State) : State :=
  let tgt := fun p => s.fld F.TIL_POOL_TGT_TARGET p
  let ok := (List.range 8).all (fun p => decide (8 ≤ tgt p)
      && ((s.til.pool[p]?).map (fun t => decide (t.inUse + t.reserved ≤ tgt p))).getD false)
    && decide ((List.range 8).foldl (fun n p => n + tgt p) 0 = 4096 - s.til.retired)
  if !ok then s.event F.TIL_EVENTS_CFG_ERR 0 0
  else
    let pools := (List.range 8).zip s.til.pool |>.map (fun (e : Nat × TPool) => { e.2 with target := tgt e.1 })
    let s := { s with til := { s.til with pool := pools, resizing := true } }
    let s := s.setFld F.TIL_CTRL_APPLY 0 1
    (State.moveFree 4096 s).resizeDone

/-- APPLY (R433): the targets of TIL_POOL_TGT, checked; pools move toward them. -/
def execTileApply (s : State) : Res := .next s.applyTargets

/-! ### DRAM (R442 to R453) -/

/-- The target of a port in quarter nanoseconds (R447, R449): half the programmed value for refresh while the devices report high
temperature. -/
def State.portTarget (s : State) (ch p : Nat) : Nat :=
  let ns := s.fld F.DRC_PORT_CFG_TARGET_NS p
  if p = 11 ∧ (s.dramCh ch).highTemp then 2 * ns else 4 * ns

/-- The level of an age in ticks against a target in quarter nanoseconds (Table 14-8); a tick is five of them. -/
def levelOf (age target : Nat) : Nat :=
  if target ≤ 5 * age then 3 else if 3 * target ≤ 20 * age then 2 else if target ≤ 10 * age then 1 else 0

/-- The oldest waiting request of a port on a channel. -/
def Dram.oldestOf (x : Dram) (p : Nat) : Option DReq := x.queue.find? (fun r => decide (r.port = p))

/-- The urgency of a request: that of its port (R447). -/
def State.reqLevel (s : State) (ch : Nat) (r : DReq) : Nat :=
  match (s.dramCh ch).oldestOf r.port with
  | some o => levelOf (s.now - o.arrival) (s.portTarget ch r.port)
  | none => 0

/-- The urgency of the refresh due (R447). -/
def State.refLevel (s : State) (ch : Nat) : Option Nat :=
  (s.dramCh ch).refDue.head?.map (fun e => levelOf (s.now - e.2) (s.portTarget ch 11))

/-- A bank is in in-order mode (R450): a read arrived while a write to its row was waiting. -/
def Dram.inOrder (x : Dram) (bank : Nat) : Bool :=
  let l := x.queue.filter (fun r => decide (r.bank = bank))
  (List.range l.length).any (fun i => match l[i]? with
    | some w => w.wr && (l.drop (i + 1)).any (fun r => !r.wr && decide (r.row = w.row))
    | none => false)

/-- What must be issued before a request (R450): the oldest of its bank in in-order mode, else an older write of its address. -/
def Dram.first (x : Dram) (r : DReq) : DReq :=
  if x.inOrder r.bank then (x.queue.find? (fun o => decide (o.bank = r.bank))).getD r
  else if r.wr then (x.queue.find? (fun o => o.wr && decide (o.addr / 64 = r.addr / 64))).getD r
  else r

/-- DRAM_REQUEST (R446): a request joins the channel's queue. A fenced region is never accessed. -/
def execDramRequest (ch : Nat) (r : DramReq) (s : State) : Res :=
  let x := s.dramCh ch
  if 12 ≤ ch ∨ 12 ≤ r.port ∨ x.fenced ∨ s.fenced 0x070 ch then .next s
  else if x.regions.contains (r.addr / 2 ^ 26) then .next (s.emit (.answer 0x070 [r.port, r.id, 0]))
  else .next (s.setDram ch { x with queue := x.queue ++ [⟨r.id, r.port, s.now, r.bank, r.row, r.addr, r.wr⟩] })

/-- A request is issued: a read waits for its data, a write is accepted; its row is open. -/
def State.issue (s : State) (ch : Nat) (r : DReq) (level : Nat) : State :=
  let x := s.dramCh ch
  let s := s.setDram ch { x with queue := x.queue.filter (fun o => decide (o ≠ r)), rows := tabSet (fun _ => 0) x.rows r.bank (r.row + 1),
                                 waiting := if r.wr then x.waiting else x.waiting ++ [r] }
  if level = 3 then s.bump F.DRC_PORT_STATUS_L3_COUNT r.port 1 else s

/-- A refresh is issued (R444, R448): the first due; at level 3 it was forced. -/
def State.issueRefresh (s : State) (ch level : Nat) : State :=
  let x := s.dramCh ch
  let s := s.setDram ch { x with refDue := x.refDue.tail }
  if level = 3 then (s.bump F.DRC_PORT_STATUS_L3_COUNT 11 1).event F.DRC_CH_EVENTS_REF_FORCED ch 0 else s

/-- Calibration is served in this slot (R444, R448): it is due at level 3, where the oldest is served first. -/
def State.maintNow (s : State) (ch : Nat) : Bool :=
  let x := s.dramCh ch
  match x.maint with
  | [] => false
  | m :: _ => !x.queue.any (fun r => decide (s.reqLevel ch r = 3 ∧ r.arrival < m.2))

/-- DRAM_ISSUE_SLOT (R448): the highest urgency; at level 3 its oldest request, below a row hit first, else the oldest. Calibration due
is served at level 3 (R444); a refresh that has reached level 3 is issued at once, before the others of that level (DEDUCED, log entry 77). -/
def execDramIssueSlot (ch : Nat) (s : State) : Res :=
  let x := s.dramCh ch
  let ref := s.refLevel ch
  if 12 ≤ ch ∨ x.fenced ∨ x.selfRef then .next s
  else if ref = some 3 then .next (s.issueRefresh ch 3)
  else if s.maintNow ch then .next (s.setDram ch { x with maint := x.maint.tail })
  else
    let top := x.queue.foldl (fun m r => max m (s.reqLevel ch r)) 0
    let cands := x.queue.filter (fun r => decide (s.reqLevel ch r = top))
    let pick := if top = 3 then cands.head? else
      (cands.find? (fun r => decide (tabGet (fun _ => 0) x.rows r.bank = r.row + 1))).orElse (fun _ => cands.head?)
    match pick, ref with
    | none, none => .next s
    | none, some l => .next (s.issueRefresh ch l)
    | some r, none => .next (s.issue ch (x.first r) top)
    | some r, some l =>
      let hit := decide (top ≠ 3) && decide (tabGet (fun _ => 0) x.rows r.bank = r.row + 1)
      let since := (x.refDue.head?.map Prod.snd).getD s.now
      if top < l ∨ (l = top ∧ hit = false ∧ since < r.arrival) then .next (s.issueRefresh ch l)
      else .next (s.issue ch (x.first r) top)

/-- DRAM_REFRESH_DUE (R444, R447). `hot` is the devices' refresh-rate report. -/
def execDramRefreshDue (ch rank : Nat) (hot : Bool) (s : State) : Res :=
  let x := s.dramCh ch
  if 12 ≤ ch ∨ x.fenced then .next s
  else .next (s.setDram ch { x with highTemp := hot, refDue := x.refDue ++ [(rank, s.now)] })

/-- DRAM_MAINTENANCE_DUE (R444): kind 1 ZQ calibration, 2 DQS oscillator retraining. -/
def execDramMaintenanceDue (ch kind : Nat) (s : State) : Res :=
  let x := s.dramCh ch
  if 12 ≤ ch ∨ x.fenced ∨ kind = 0 ∨ 2 < kind then .next s
  else .next (s.setDram ch { x with maint := x.maint ++ [(kind, s.now)] })

/-- DRAM_READ_RETURN (R443, R446): a read's data returns; one corrected by the symbol code is counted and is a CORRECTED fault. -/
def execDramReadReturn (ch id : Nat) (corrected : Bool) (s : State) : Res :=
  let x := s.dramCh ch
  match x.waiting.find? (fun r => decide (r.id = id)) with
  | none => .next s
  | some r =>
    let s := s.setDram ch { x with waiting := x.waiting.filter (fun o => decide (o.id ≠ id)) }
    let s := s.emit (.answer 0x070 [r.port, id, 1])
    if corrected then .next ((s.bump F.DRC_CH_ECC_CE ch 1).raiseAt 0x070 ch 0x0B 0) else .next s

/-- What an uncorrectable error costs, by what the unit holds (Table 14-9). A unit of the journal tail, of the directory and metadata region
or of the firmware region is restored to what it held. -/
def State.unitLost (s : State) (u : DramUnit) : State :=
  match u with
  | .map pool seg =>
    let k := pool * 2 ^ 32 + seg
    s.segBad (match s.dirOf k with | .held e | .evicting e => e | .uncached => s.steer k) k F.ATL_EVENTS_SEG_UE
  | .staging a => s.stagingLost a
  | .stripe k => s.stripeLost k
  | .window (some (f, q, c)) =>
    match s.findCmd f q c with
    | some cmd => if cmd.phase = .running then s.dataError cmd else s
    | none => s
  | .window none | .tail | .metadata | .firmware => s

/-- The memory of regions with errors: the 16 most recent (R452). -/
def rememberUe (l : List (Nat × Nat)) (region frame : Nat) : List (Nat × Nat) :=
  ((region, frame) :: l.filter (fun e => decide (e.1 ≠ region))).take 16

/-- DRAM_UE (R451 to R453): recorded and handled by region; a second error in a region within 24 hours fences it, more than 8 fenced
regions fence the channel; an injected one counts to neither (R553). -/
def execDramUe (ch port addr : Nat) (unit : DramUnit) (injected : Bool) (s : State) : Res :=
  let x := s.dramCh ch
  if 12 ≤ ch ∨ x.fenced ∨ s.fenced 0x070 ch then .next s
  else
    let region := addr / 2 ^ 26
    let s := s.emit (.answer 0x070 [port, addr, 0])
    let s := (s.setFld F.DRC_UE_ADDR_PORT ch port).setFld F.DRC_UE_ADDR_ADDR ch (addr / 256)
    let s := (s.bump F.DRC_CH_ECC_UE ch 1).event F.DRC_CH_EVENTS_UE ch 0
    let s := (s.raise ⟨0x070, ch, 0x0C, addr, injected, none⟩).unitLost unit
    if injected then .next s
    else
    let again := (x.ues.find? (fun e => decide (e.1 = region ∧ s.plt.frame < e.2 + 86400000))).isSome
    let s := s.setDram ch { s.dramCh ch with ues := rememberUe x.ues region s.plt.frame }
    if again ∧ !x.regions.contains region then
      let s := s.raiseAt 0x070 ch 0x0D region
      if 8 < (s.dramCh ch).regions.length then .next (s.raiseAt 0x070 ch 0x0E 0) else .next s
    else .next s

end Sys2Proof.Machine
end

