-- ==== Sys2Proof/Machine/Update.lean ====
section
/-! DEFINITION. Firmware update (R587 to R591, R595, R596), the relay link (R592 to R597), scheduled activation (R598 to R600) and
the update requests 0x0601 to 0x0606. Agents: the Chartroom core, the relay ports. -/

set_option linter.unusedVariables false

namespace Sys2Proof.Machine

def State.bootSlot (s : State) (k : Nat) : BootSlot := tabGet (fun _ => BootSlot.reset) s.por.slots k
def State.setBootSlot (s : State) (k : Nat) (b : BootSlot) : State :=
  { s with por := { s.por with slots := tabSet (fun _ => BootSlot.reset) s.por.slots k b } }
def State.setSess (s : State) (u : Option UpdSess) : State := { s with por := { s.por with sess := u } }

/-! ### The relay link (R592 to R594). `down` names RELAY_DN. -/

def State.link (s : State) (down : Bool) : RLink := if down then s.por.dnL else s.por.upL
def State.setLink (s : State) (down : Bool) (l : RLink) : State :=
  if down then { s with por := { s.por with dnL := l } } else { s with por := { s.por with upL := l } }

/-- CREDIT of a frame sent (Table 20-9): the places of the chunk queue. -/
def State.creditOut (s : State) : Nat := 16 - (s.por.sess.map (fun u => u.queue.length)).getD 0

/-- A frame leaves: TYPE, then SEQ, ACK and CREDIT, then the payload. -/
def State.frame (s : State) (down : Bool) (type seq : Nat) (payload : List Nat) : State :=
  s.emit (.relay down type ([seq, (s.link down).expected, s.creditOut] ++ payload))

/-- Sequenced frames go while the window has room (R594 rule 1). -/
def State.pump (s : State) (down : Bool) : Nat → State
  | 0 => s
  | n + 1 =>
    let l := s.link down
    match l.wait with
    | [] => s
    | (t, p) :: rest =>
      if min 64 l.credit ≤ l.sent.length then s
      else
        let s := s.setLink down { l with wait := rest, sent := l.sent ++ [(l.nextSeq, t, p)], nextSeq := (l.nextSeq + 1) % 256,
                                         since := if l.sent.isEmpty then s.now else l.since }
        (s.frame down t l.nextSeq p).pump down n

/-- A sequenced frame is to be sent; with the link down it is not. -/
def State.relaySend (s : State) (down : Bool) (type : Nat) (payload : List Nat) : State :=
  let l := s.link down
  if !l.up then s
  else (s.setLink down { l with wait := l.wait ++ [(type, payload)] }).pump down (l.wait.length + 1)

/-- An ACK frame. -/
def State.ackFrame (s : State) (down : Bool) : State := s.frame down 0x02 0 []

/-- A sequenced frame arrives (R594 rules 3 and 4). -/
def State.relayRecv (s : State) (down : Bool) (seq : Nat) (body : State → State) : State :=
  let l := s.link down
  if !l.up then s
  else
    let d := (l.expected + 256 - seq % 256) % 256
    if d = 0 then (body (s.setLink down { l with expected := (l.expected + 1) % 256 })).ackFrame down
    else if d ≤ 64 then s.ackFrame down
    else (s.bump F.UPD_RELAY_CNT_DISCARDED 0 1).ackFrame down

/-- Frames for downstream: DN_ENABLE is 1. -/
def State.dnOn (s : State) : Bool := decide (s.fld F.UPD_RELAY_CFG_DN_ENABLE 0 = 1)

/-- A REPORT goes upstream (Table 20-9). -/
def State.report (s : State) (kind result imageId slot fw : Nat) : State :=
  s.relaySend false 0x20 [s.por.position, kind, result, imageId, slot, fw]

/-- A relay link goes down (R593): frames held for replay are dropped; a session passing the link fails for every device beyond
it, this device among them where the link is upstream. -/
def State.linkLost (s : State) (down : Bool) : State :=
  let s := (s.setLink down RLink.reset).event F.UPD_EVENTS_LINK_DOWN 0 (b2n down)
  if down then
    match s.por.sess with
    | some u => if u.route / 2 % 2 = 1 then
        { s with por := { s.por with chain := s.por.chain.map (fun (e : Nat × ChainDev) =>
          (e.1, if s.por.position < e.1 ∧ e.2.store = 0 then { e.2 with store := 2 } else e.2)) } } else s
    | none => s
  else
    let s := { s with por := { s.por with position := 0 } }
    match s.por.sess with
    | some u => if u.remote then s.endUpd.event F.UPD_EVENTS_STORE_FAIL 0 0 else s
    | none => s

/-- LINK_UP (R593): the link runs at the lower of the two VERSION values; this device sends 2 and accepts 1. A device at position
63 does not bring up RELAY_DN. -/
def execLinkUp (down : Bool) (version position roundTrip credit : Nat) (s : State) : Res :=
  if version = 0 ∨ (down = true ∧ s.dnOn = false) then .next s
  else if down = true ∧ 63 ≤ s.por.position then .next (s.event F.UPD_EVENTS_CHAIN_LONG 0 0)
  else
    let s := s.setLink down { RLink.reset with up := true, version := min 2 version, credit := credit, hopNs := roundTrip / 2, hopAt := s.now }
    if down then .next s
    else
      let s := { s with por := { s.por with position := min 63 (position + 1) } }
      let s := if s.por.position = 63 then s.event F.UPD_EVENTS_CHAIN_LONG 0 0 else s
      .next (s.report 3 0 (s.bootSlot s.por.booted).imageId s.por.booted s.fwVersion)

/-- LINK_UP_RESEND (R593): every 100 ms until one has been received. -/
def execLinkUpResend (down : Bool) (s : State) : Res :=
  let l := s.link down
  if l.up || (down && (!s.dnOn || decide (63 ≤ s.por.position))) || l.upAt.any (fun t => decide (s.now < t + 100 * msTicks)) then .next s
  else .next ((s.setLink down { l with upAt := some s.now }).frame down 0x01 0 ([2, s.por.position] ++ s.otpBytes 24 20))

/-- HOP_REMEASURE (R593): every 60 s half of the round trip is HOP_NS again. -/
def execHopRemeasure (roundTrip : Nat) (s : State) : Res :=
  let l := s.link false
  if l.up ∧ l.hopAt + 60 * sTicks ≤ s.now then .next (s.setLink false { l with hopNs := roundTrip / 2, hopAt := s.now }) else .next s

/-- ACK (R594 rule 2). -/
def execRelayAck (down : Bool) (value credit : Nat) (s : State) : Res :=
  let l := s.link down
  let n := (value % 256 + 256 - l.oldest) % 256
  if !l.up then .next s
  else if l.sent.length < n then .next (s.bump F.UPD_RELAY_CNT_ACK_DROPPED 0 1)
  else
    let s := s.setLink down { l with sent := l.sent.drop n, oldest := value % 256, credit := credit, since := s.now,
                                     replays := if n = 0 then l.replays else 0 }
    .next (s.pump down l.wait.length)

/-- RELAY_REPLAY_TIMEOUT (R594 rule 5, R593): 2 ms with frames outstanding and no valid ACK; all of them are sent again, and after 16
replays without progress the link goes down. -/
def execRelayReplayTimeout (down : Bool) (s : State) : Res :=
  let l := s.link down
  if !l.up ∨ l.sent.isEmpty ∨ s.now < l.since + 2 * msTicks then .next s
  else if 16 ≤ l.replays then .next (s.linkLost down)
  else
    let s := (s.setLink down { l with replays := l.replays + 1, since := s.now }).bump F.UPD_RELAY_CNT_REPLAYS 0 1
    .next (l.sent.foldl (fun (s : State) f => s.frame down f.2.1 f.1 f.2.2) s)

/-- RELAY_LINK_DOWN (R593): loss of signal. -/
def execRelayLinkDown (down : Bool) (s : State) : Res := if (s.link down).up then .next (s.linkLost down) else .next s

/-- RELAY_FRAME_CRC_ERROR (R592). -/
def execRelayFrameCrcError (down : Bool) (s : State) : Res := .next (s.bump F.UPD_RELAY_CNT_CRC_ERRORS 0 1)

/-- A BEACON goes downstream, on a link of version 2 (R593, R597). -/
def State.beaconDown (s : State) (count : Nat) : State :=
  let l := s.link true
  if l.up ∧ 2 ≤ l.version then s.frame true 0x03 0 [count] else s

/-- HOP_NS in Datum cycles, the rest of a cycle dropped. -/
def RLink.hopCycles (l : RLink) : Nat := l.hopNs * 32768 / 1000000000

/-- BEACON (R597): with FOLLOW the count plus HOP_NS sets Datum and the device sends its own; else it is forwarded as it came. -/
def execBeacon (count : Nat) (s : State) : Res :=
  let l := s.link false
  if !l.up ∨ l.version < 2 then .next s
  else if s.fld F.UPD_RELAY_CFG_FOLLOW 0 = 1 then
    let s := s.setDatum 3 ((count + l.hopCycles) % 2 ^ 47)
    .next (s.beaconDown s.datumCycles)
  else .next (s.beaconDown count)

/-- BEACON_SEND (R597): the head, every 1 s while its Datum is set. -/
def execBeaconSend (s : State) : Res :=
  if (s.link false).up ∨ s.dat.unset = true ∨ s.por.beaconAt.any (fun t => decide (s.now < t + sTicks)) = true then .next s
  else .next (({ s with por := { s.por with beaconAt := some s.now } } : State).beaconDown s.datumCycles)

/-! ### Sessions and slots (R420, R589 to R591, R595, R596) -/

/-- Devices beyond this one in the chain table. -/
def State.beyond (s : State) : List ChainDev :=
  (s.por.chain.filter (fun e => decide (s.por.position < e.1) && e.2.present)).map Prod.snd

/-- A slot that an update may not write (R420, Table 20-10): the booted one, or one that a schedule names. -/
def State.slotActive (s : State) (slot : Nat) : Bool :=
  decide (s.por.booted = slot) || (s.por.sched.map (fun x => decide (x.slot = slot))).getD false

/-- IMAGE_LEN is in range (Table 13-10). -/
def lenOk (n : Nat) : Bool := decide (4096 ≤ n ∧ n ≤ 16777216 ∧ n % 4096 = 0)

/-- A session opens (R589): STATE receiving, chunk 0's sector erased first, BEGIN forwarded on the way. -/
def State.openUpd (s : State) (u : UpdSess) : State :=
  let s := s.setSess (some u)
  let s := { s with por := { s.por with chain := s.por.chain.map (fun (e : Nat × ChainDev) => (e.1, { e.2 with store := 0 })) } }
  let s := if u.route % 2 = 1 then
      let s := s.setBootSlot u.slot { s.bootSlot u.slot with st := 1, imageId := u.imageId, len := u.len }
      if s.por.op.isSome then s else s.startStore 1 (slotBase u.slot) []
    else s
  if u.route / 2 % 2 = 1 then s.relaySend true 0x10 [u.slot, u.len, u.imageId] else s

/-- UPD_BEGIN (0x0601, R420). -/
def execUpdBegin (q : MbxReq) (s : State) : Res :=
  .next (s.serve q ⟨0x0601, 2, false, 12, 12, false⟩ (fun s =>
    let slot := q.payload.getD 0 0
    let route := q.payload.getD 1 0
    let len := le q.payload 4 4
    if 3 ≤ slot ∨ 4 ≤ route ∨ le q.payload 2 2 ≠ 0 ∨ lenOk len = false then s.refuse q 0x0601 Ms.invalidField
    else if s.por.sess.isSome then s.refuse q 0x0601 Ms.busy
    else if s.slotActive slot then s.refuse q 0x0601 Ms.slotActive
    else (s.openUpd ⟨q.path, false, slot, route, len, le q.payload 8 4, 0, [], false, none, false, none, false, 0⟩).respond q 0x0601 Ms.success false []))

/-- The session of a path, while it still takes chunks. -/
def State.sessOf (s : State) (path : Nat) : Option UpdSess :=
  s.por.sess.filter (fun u => decide (u.opener = path) && !u.remote && !u.ending)

/-- A chunk is accepted: it waits to be stored. -/
def UpdSess.accept (u : UpdSess) (data : List Nat) : UpdSess := { u with queue := u.queue ++ [(u.next, data)], next := u.next + 1 }

/-- UPD_CHUNK (0x0602, R420, R589): a chunk that meets a full queue waits for a place. -/
def execUpdChunk (q : MbxReq) (s : State) : Res :=
  .next (s.serve q ⟨0x0602, 2, false, 4104, 4104, false⟩ (fun s =>
    match s.sessOf q.path with
    | none => s.refuse q 0x0602 Ms.noUpdateSession
    | some u =>
      let data := q.payload.drop 8
      if u.len / 4096 ≤ le q.payload 0 4 then s.refuse q 0x0602 Ms.invalidField
      else if le q.payload 4 4 ≠ crc32c data then s.refuse q 0x0602 Ms.chunkCrc
      else if le q.payload 0 4 ≠ u.next then s.refuse q 0x0602 Ms.chunkOrder
      else if 16 ≤ u.queue.length then s.setSess (some { u with held := some q })
      else (s.setSess (some (u.accept data))).respond q 0x0602 Ms.success false []))

/-- The header and digest checks of R590. -/
def State.imageOk (s : State) (u : UpdSess) : Bool :=
  let b := slotBase u.slot
  decide (s.storeBytes b 4 = [0x4B, 0x49, 0x4D, 0x47]) && decide (s.storeLe (b + 8) 4 = u.len) && decide (s.storeLe (b + 12) 4 = u.imageId)
    && Config.digestOk (s.storeBytes b u.len)

/-- An UPD_END ends (R596): the counts, and the session is over. A relayed session reports KIND 0 upstream instead. -/
def State.finishUpd (s : State) : State :=
  match s.por.sess with
  | none => s
  | some u =>
    let mine := u.route % 2
    let l := if u.route / 2 % 2 = 1 then s.beyond else []
    let good := (l.filter (fun d => decide (d.store = 1))).length + (if mine = 1 ∧ u.stored then 1 else 0)
    let bad := l.length + mine - good
    let res := if mine = 1 ∧ u.stored = false then Ms.storeFail else Ms.success
    let s := (s.setSess none).event F.UPD_EVENTS_STORE_DONE 0 0
    let s := if bad = 0 then s else s.event F.UPD_EVENTS_STORE_FAIL 0 0
    s.opDone u.handle res (bytesLe 4 good ++ bytesLe 4 bad)

/-- Every device beyond has sent its KIND 0 REPORT. -/
def State.chainReported (s : State) : Bool := s.beyond.all (fun d => decide (d.store ≠ 0))

/-- The local store has ended (R590): the slot is complete or failed; END is forwarded. -/
def State.endLocal (s : State) : State :=
  match s.por.sess with
  | none => s
  | some u =>
    let ok := s.imageOk u
    let fw := s.storeLe (slotBase u.slot + 16) 4
    let s := if u.route % 2 = 1 then s.setBootSlot u.slot ⟨if ok then 2 else 3, u.imageId, if ok then fw else 0, u.len⟩ else s
    let fwd := decide (u.route / 2 % 2 = 1)
    let s := s.setSess (some { u with stored := ok, forwarded := fwd, endAt := s.now })
    let s := if fwd then s.relaySend true 0x12 [] else s
    if u.remote then
      let s := s.report 0 (if ok then Ms.success else Ms.storeFail) u.imageId u.slot fw
      (s.setSess none).event (if ok then F.UPD_EVENTS_STORE_DONE else F.UPD_EVENTS_STORE_FAIL) 0 0
    else if fwd && !s.chainReported then s
    else s.finishUpd

/-- UPD_END (0x0603, R420, R590). -/
def execUpdEnd (q : MbxReq) (s : State) : Res :=
  .next (s.serve q ⟨0x0603, 2, false, 0, 0, true⟩ (fun s =>
    match s.sessOf q.path with
    | none => s.refuse q 0x0603 Ms.noUpdateSession
    | some u =>
      if u.next < u.len / 4096 then s.refuse q 0x0603 Ms.chunkOrder
      else
        let l := s.startLong q 0x0603 []
        let s := l.2.setSess (some { u with ending := true, handle := some l.1 })
        if u.queue.isEmpty then s.endLocal else s))

/-- A store failure ends the session (R420, R591, R595). -/
def State.failUpd (s : State) (u : UpdSess) (status : Nat) : State :=
  let s := s.endUpd.event F.UPD_EVENTS_STORE_FAIL 0 0
  let s := match u.held with
    | some q => s.refuse q 0x0602 Ms.storeFail
    | none => s
  if u.remote then s.report 0 status u.imageId u.slot 0
  else s.opDone u.handle Ms.storeFail (bytesLe 4 0 ++ bytesLe 4 (u.route % 2 + (if u.route / 2 % 2 = 1 then s.beyond.length else 0)))

/-- CHUNK_STORED (R589, R595): the first chunk waiting has been stored, or failed; a place in the queue frees. -/
def execChunkStored (ok : Bool) (s : State) : Res :=
  match s.por.sess with
  | none => .next s
  | some u =>
    match u.queue with
    | [] => .next s
    | (i, data) :: rest =>
      let a := slotBase u.slot + 4096 * i
      if u.route % 2 = 1 ∧ ok = false then .next (s.failUpd u Ms.storeFail)
      else
        let s := if u.route % 2 = 1 then (s.eraseDone a).storePut a data else s
        let s := match s.por.op with
          | some o => if o.kind = 1 ∧ o.addr = a then { s with por := { s.por with op := none } } else s
          | none => s
        let s := if u.route / 2 % 2 = 1 then s.relaySend true 0x11 ([i, crc32c data] ++ data) else s
        let u := { u with queue := rest }
        match u.held with
        | some q => .next ((s.setSess (some ({ u with held := none }.accept (q.payload.drop 8)))).respond q 0x0602 Ms.success false [])
        | none =>
          let s := s.setSess (some u)
          .next (if u.ending && rest.isEmpty then s.endLocal else s)

/-- UPD_END_CHAIN_TIMEOUT (R596): 10 s after END was forwarded a device that has not reported counts as failed. -/
def execUpdEndChainTimeout (s : State) : Res :=
  match s.por.sess with
  | none => .next s
  | some u => .next (if u.forwarded && !u.remote && decide (u.endAt + 10 * sTicks ≤ s.now) then s.finishUpd else s)

/-- UPD_STATUS (0x0606). -/
def execUpdStatus (q : MbxReq) (s : State) : Res :=
  .next (s.serve q ⟨0x0606, 2, false, 0, 0, false⟩ (fun s =>
    s.respond q 0x0606 Ms.success false ([s.por.booted, b2n s.por.lastBoot, 0, 0]
      ++ (List.range 3).flatMap (fun k =>
        let b := s.bootSlot k
        bytesLe 4 b.imageId ++ bytesLe 4 b.fwVersion ++ [b.st] ++ zeros 7))))

/-- A relay BEGIN (R595): followed, or answered BUSY and not forwarded. -/
def execRelayBegin (seq slot len imageId : Nat) (s : State) : Res :=
  .next (s.relayRecv false seq (fun s =>
    if s.por.sess.isSome ∨ 3 ≤ slot ∨ s.slotActive slot = true ∨ lenOk len = false then s.report 0 Ms.busy imageId slot 0
    else s.openUpd ⟨0x1000, true, slot, if s.dnOn then 3 else 1, len, imageId, 0, [], false, none, false, none, false, 0⟩))

/-- The remote session. -/
def State.remoteSess (s : State) : Option UpdSess := s.por.sess.filter (fun u => u.remote && !u.ending)

/-- A relay CHUNK (R595): stored, then forwarded. One that fails its CRC or order ends the session (log entry 27). -/
def execRelayChunk (seq index crc : Nat) (data : List Nat) (s : State) : Res :=
  .next (s.relayRecv false seq (fun s =>
    match s.remoteSess with
    | none => s
    | some u =>
      if crc ≠ crc32c data then s.failUpd u Ms.chunkCrc
      else if index ≠ u.next ∨ data.length ≠ 4096 ∨ u.len / 4096 ≤ index then s.failUpd u Ms.chunkOrder
      else s.setSess (some (u.accept data))))

/-- A relay END (R595). -/
def execRelayEnd (seq : Nat) (s : State) : Res :=
  .next (s.relayRecv false seq (fun s =>
    match s.remoteSess with
    | none => s
    | some u =>
      if u.next < u.len / 4096 then s.failUpd u Ms.chunkOrder
      else
        let s := s.setSess (some { u with ending := true })
        if u.queue.isEmpty then s.endLocal else s))

/-- A REPORT (R595): recorded in the chain table and forwarded upstream unchanged; the last one ends an UPD_END (R596). -/
def execRelayReport (seq position kind result imageId slot fw : Nat) (s : State) : Res :=
  .next (s.relayRecv true seq (fun s =>
    let d := tabGet (fun _ => ChainDev.reset) s.por.chain position
    let d' := match kind with
      | 0 => { d with store := if result = Ms.success then 1 else if result = Ms.busy then 3 else 2 }
      | 1 => { d with slot := slot, lastBoot := decide (result ≠ 0), ver := fw }
      | 2 => { d with sched := if result = Ms.success then 1 else 2 }
      | _ => { d with present := true, slot := slot, ver := fw }
    let s := { s with por := { s.por with chain := tabSet (fun _ => ChainDev.reset) s.por.chain position d' } }
    let s := if kind = 0 ∧ result ≠ Ms.success then s.event F.UPD_EVENTS_STORE_FAIL 0 position else s
    let s := if kind = 2 ∧ result ≠ Ms.success then s.event F.UPD_EVENTS_SCHED_REJECTED 0 position else s
    let s := s.relaySend false 0x20 [position, kind, result, imageId, slot, fw]
    match s.por.sess with
    | some u => if u.forwarded && !u.remote && s.chainReported then s.finishUpd else s
    | none => s))

/-! ### Scheduled activation (R598 to R602) -/

/-- The drain window in ms: 0 stands for 50 (Table 13-10). -/
def drainOf (ms : Nat) : Nat := if ms = 0 then 50 else ms

/-- The checks of R598, in its table's order. -/
def State.schedCheck (s : State) (t group drainMs slot : Nat) : Nat :=
  if 3 ≤ slot ∨ (s.bootSlot slot).st ≠ 2 ∨ slot = s.por.booted then Ms.invalidField
  else if s.dat.unset = true ∨ t * 1000 < s.datumTime * 1000 + drainMs * 1024 then Ms.timePast
  else if ((s.por.sched.map (fun x => decide (x.group ≠ group))).getD false) = true then Ms.busy
  else Ms.success

/-- The count at which a drain begins: T − DRAIN_MS in Datum cycles (R598). -/
def drainAt (t drainMs : Nat) : Int := (t * 32 : Nat) - ((drainMs * 32768 / 1000 : Nat) : Int)

/-- A schedule is taken and forwarded on a link of version 2 (R593, R598). -/
def State.takeSched (s : State) (t group drainMs slot : Nat) : State :=
  let s := { s with por := { s.por with sched := some ⟨t, drainAt t drainMs, group, drainMs, slot⟩ } }
  if 2 ≤ (s.link true).version then s.relaySend true 0x13 [t, group, drainMs, slot, (s.bootSlot slot).imageId] else s

/-- UPD_SCHEDULE (0x0604, R598). -/
def execUpdSchedule (q : MbxReq) (s : State) : Res :=
  .next (s.serve q ⟨0x0604, 2, false, 16, 16, false⟩ (fun s =>
    let t := le q.payload 0 8
    let g := le q.payload 8 4
    let d := drainOf (le q.payload 12 2)
    let slot := q.payload.getD 14 0
    if 2 ^ 42 ≤ t ∨ q.payload.getD 15 0 ≠ 0 then s.refuse q 0x0604 Ms.invalidField
    else
      let st := s.schedCheck t g d slot
      if st ≠ Ms.success then s.refuse q 0x0604 st else (s.takeSched t g d slot).respond q 0x0604 Ms.success false []))

/-- A schedule with a group is removed, and CANCEL forwarded. -/
def State.cancelSched (s : State) (group : Nat) : State :=
  let s := { s with por := { s.por with sched := none } }
  if 2 ≤ (s.link true).version then s.relaySend true 0x14 [group] else s

/-- The pending schedule has this group. -/
def State.schedIs (s : State) (group : Nat) : Bool := (s.por.sched.map (fun x => decide (x.group = group))).getD false

/-- UPD_CANCEL (0x0605, R599). -/
def execUpdCancel (q : MbxReq) (s : State) : Res :=
  .next (s.serve q ⟨0x0605, 2, false, 4, 4, false⟩ (fun s =>
    let g := le q.payload 0 4
    if !s.schedIs g then s.refuse q 0x0605 Ms.invalidField else (s.cancelSched g).respond q 0x0605 Ms.success false []))

/-- A relay SCHEDULE (R598): the slot must also hold its IMAGE_ID; the result is reported as KIND 2. -/
def execRelaySchedule (seq t group drainMs slot imageId : Nat) (s : State) : Res :=
  .next (s.relayRecv false seq (fun s =>
    if (s.link false).version < 2 then s
    else
      let d := drainOf drainMs
      let st := if s.romRecovery || s.por.draining then Ms.mode
        else if (s.bootSlot slot).imageId ≠ imageId then Ms.invalidField else s.schedCheck t group d slot
      let s := if st = Ms.success then s.takeSched t group d slot else s.event F.UPD_EVENTS_SCHED_REJECTED 0 0
      s.report 2 st imageId slot 0))

/-- A relay CANCEL (R599). -/
def execRelayCancel (seq group : Nat) (s : State) : Res :=
  .next (s.relayRecv false seq (fun s => if s.schedIs group && !s.por.draining then s.cancelSched group else s))

/-- Step 1 of R600. -/
def State.startDrain (s : State) (x : Sched) : State :=
  let s := { s with plt := { s.plt with drain := true },
                    por := { s.por with draining := true, drainEnd := false, actDue := x.due + (x.drainMs * 32768 / 1000 : Nat) } }
  let s := (s.ctls.map Prod.fst).foldl (fun s f => s.asyncEvent f evActivation) (s.abortTests (fun _ _ => true) Ms.mode)
  s.event F.UPD_EVENTS_DRAIN_START 0 0

/-- Steps 3 and 4 of R600, once every accepted command has completed and every booked program has passed: stripes closed, the
journal spilled, dirty segments written back, the boot record written. -/
def State.endDrain (s : State) : State :=
  match s.por.sched with
  | none => s
  | some x =>
    if !s.cmds.isEmpty || !s.cpls.isEmpty || s.programsBooked then s
    else
      let s := s.closeAndSpill
      let s := { s with atl := { s.atl with eng := s.atl.eng.map (fun (e : Nat × AtlEng) =>
        (e.1, { e.2 with held := e.2.held.map (fun (h : Held) => { h with dirty := false }) })) } }
      { s with por := { s.por with primary := x.slot, previous := s.por.booted, trial := true, sched := none, drainEnd := true } }

/-- ACTIVATION_DRAIN (R600 steps 1 to 4): the countdown has reached zero. While accepted commands are outstanding the drain goes on, and
the command carries it to its end when it is sent again. -/
def execActivationDrain (s : State) : Res :=
  match s.por.sched with
  | none => .next s
  | some x =>
    if !s.hubOn then .next s
    else if s.por.draining then .next s.endDrain
    else if (s.datumCycles : Int) < x.due then .next s
    else .next (s.startDrain x).endDrain

/-- ACTIVATION_RESTART (R600 step 5, R663): at the later of T and the end of step 4 DRAM goes to self-refresh and the device restarts; a
restart after T is recorded. -/
def execActivationRestart (s : State) : Res :=
  if !s.por.draining ∨ (s.datumCycles : Int) < s.por.actDue then .next s
  else
    let s := if s.por.drainEnd then s else s.endDrain
    if !s.por.drainEnd then .next s
    else
      let s := match s.por.op with
        | some o => match execStoreOperationEnd true { s with por := { s.por with op := some { o with suspended := false } } } with
          | .next t => t
          | .fault _ => s
          | .refused _ => s
        | none => s
      let late := decide (s.por.actDue < (s.datumCycles : Int))
      let s := { s with gaz := s.gaz.persist }
      let t := s.restart 5
      .next (if late then t.event F.UPD_EVENTS_ACTIVATION_LATE 0 0 else t)

/-- TRIAL_RESET (R601): no confirmation within 60 s; SELECT then skips PRIMARY, which has failed verification. -/
def execTrialReset (s : State) : Res :=
  if !s.por.trial ∨ s.now < s.start.bootAt + 60 * sTicks then .next s
  else
    let s := s.setBootSlot s.por.primary { s.bootSlot s.por.primary with st := 3 }
    let s := { s with por := { s.por with trial := false } }
    .next (s.restart 4)

end Sys2Proof.Machine
end

