-- ==== Sys2Proof/Machine/Status.lean ====
section
/-! DEFINITION. What registers read (R6): the fields whose current value the state holds elsewhere than in the register word, block
by block. A field that no list here names reads from the word itself. -/

set_option linter.unusedVariables false

namespace Sys2Proof.Machine

/-- A number in two's complement, in `n` bits. -/
def twos (n : Nat) (v : Int) : Nat := (v % 2 ^ n).toNat

/-! ### The hub -/

/-- The die is in a closed window now (R68). -/
def State.inClosed (s : State) (d : Nat) : Bool :=
  (s.windows d).any (fun c => decide (c.from_ ≤ s.now ∧ s.now < c.until_))

/-- The die position holds no die, or its die is absent (Tables 03-16 and 07-11); before discovery nothing is known of it. -/
def State.dieMissing (s : State) (d : Nat) : Bool :=
  (s.dieOf d).absent || ((s.chan (dieChan d)).discovered && !(s.dieOf d).present)

/-- The die is fenced. -/
def State.dieIsFenced (s : State) (d : Nat) : Bool := tabGet (fun _ => false) s.plt.dieFenced d || (s.dieOf d).fenced

/-- The Plotter (Tables 03-8, 03-9, 03-16, 03-17). -/
def State.pltFields (s : State) (r : Reg) (i : Nat) : List (Fld × Nat) :=
  match r with
  | .PLT_STATUS =>
    [(F.PLT_STATUS_FRAME_LOW, s.plt.frame), (F.PLT_STATUS_QUIET_CHANNEL, s.plt.quiet.getD 0),
     (F.PLT_STATUS_QUIET_ACTIVE, b2n s.plt.quiet.isSome), (F.PLT_STATUS_THROTTLE_STEP, s.plt.step),
     (F.PLT_STATUS_DEGRADED_FLOORS, b2n s.plt.degradedFloors), (F.PLT_STATUS_DRAIN, b2n s.plt.drain),
     (F.PLT_STATUS_ADMIT_OPEN, b2n s.plt.admitOpen)]
  | .PLT_FRAME => [(F.PLT_FRAME_COUNT, s.plt.frame)]
  | .PLT_FN => [(F.PLT_FN_WAYPOINT, (s.fnOf i).engine), (F.PLT_FN_EPOCH, tabGet (fun _ => 0) s.plt.fnEpoch i)]
  | .PLT_DIE =>
    [(F.PLT_DIE_CLOSED, b2n (s.inClosed i)), (F.PLT_DIE_FENCED, b2n (s.dieIsFenced i || s.dieMissing i)),
     (F.PLT_DIE_OWNER, s.owner i), (F.PLT_DIE_EPOCH, tabGet (fun _ => 0) s.plt.dieEpoch i)]
  | _ => []

/-- A microcode version register (Table 08-13), by the kind's place in R269's order. -/
def State.ucodeFields (s : State) (k : Nat) (ver patch locked skipped slot build : Fld) : List (Fld × Nat) :=
  let u := tabGet (fun _ => Ucode.reset) s.trv.ucode k
  [(ver, (Config.romVer k).toNat), (patch, u.patchVer), (locked, b2n u.locked), (skipped, b2n u.skipped), (slot, u.slot), (build, u.build)]

/-- UCODE_VER of each microcoded kind (R269). -/
def State.verFields (s : State) (r : Reg) : List (Fld × Nat) :=
  match r with
  | .TRV_UCODE_VER => s.ucodeFields 0 F.TRV_UCODE_VER_ROM_VER F.TRV_UCODE_VER_PATCH_VER F.TRV_UCODE_VER_LOCKED
      F.TRV_UCODE_VER_PATCH_SKIPPED F.TRV_UCODE_VER_SLOT F.TRV_UCODE_VER_IMAGE_BUILD
  | .WPT_UCODE_VER => s.ucodeFields 1 F.WPT_UCODE_VER_ROM_VER F.WPT_UCODE_VER_PATCH_VER F.WPT_UCODE_VER_LOCKED
      F.WPT_UCODE_VER_PATCH_SKIPPED F.WPT_UCODE_VER_SLOT F.WPT_UCODE_VER_IMAGE_BUILD
  | .FCH_MOV_UCODE_VER => s.ucodeFields 2 F.FCH_MOV_UCODE_VER_ROM_VER F.FCH_MOV_UCODE_VER_PATCH_VER F.FCH_MOV_UCODE_VER_LOCKED
      F.FCH_MOV_UCODE_VER_PATCH_SKIPPED F.FCH_MOV_UCODE_VER_SLOT F.FCH_MOV_UCODE_VER_IMAGE_BUILD
  | .PAR_UCODE_VER => s.ucodeFields 3 F.PAR_UCODE_VER_ROM_VER F.PAR_UCODE_VER_PATCH_VER F.PAR_UCODE_VER_LOCKED
      F.PAR_UCODE_VER_PATCH_SKIPPED F.PAR_UCODE_VER_SLOT F.PAR_UCODE_VER_IMAGE_BUILD
  | .CIP_UCODE_VER => s.ucodeFields 4 F.CIP_UCODE_VER_ROM_VER F.CIP_UCODE_VER_PATCH_VER F.CIP_UCODE_VER_LOCKED
      F.CIP_UCODE_VER_PATCH_SKIPPED F.CIP_UCODE_VER_SLOT F.CIP_UCODE_VER_IMAGE_BUILD
  | .ATL_UCODE_VER => s.ucodeFields 5 F.ATL_UCODE_VER_ROM_VER F.ATL_UCODE_VER_PATCH_VER F.ATL_UCODE_VER_LOCKED
      F.ATL_UCODE_VER_PATCH_SKIPPED F.ATL_UCODE_VER_SLOT F.ATL_UCODE_VER_IMAGE_BUILD
  | _ => []

/-- Atlas (Tables 04-9, 04-12, 04-13, 04-15, 04-16). -/
def State.atlFields (s : State) (r : Reg) (i : Nat) : List (Fld × Nat) :=
  match r with
  | .ATL_STATUS =>
    [(F.ATL_STATUS_SEG_RECOVERING, min 255 s.atl.recovering.length), (F.ATL_STATUS_JOURNAL_FILL, journalFill s.atl.tailBytes),
     (F.ATL_STATUS_CKPT_BEHIND, b2n s.atl.ckptBehind), (F.ATL_STATUS_SWEEP_PENDING, b2n (s.atl.seg.any (fun e => e.2.discarded))),
     (F.ATL_STATUS_MAP_READY, b2n s.atl.mapReady)]
  | .ATL_JRNL_WM => [(F.ATL_JRNL_WM_ABOVE, b2n (decide (s.fld F.ATL_JRNL_WM_LEVEL_PCT 0 ≤ journalFill s.atl.tailBytes)))]
  | .ATL_JSEQ_LO => [(F.ATL_JSEQ_LO_JSEQ, s.atl.jseq)]
  | .ATL_POOL =>
    match s.poolOf i with
    | none => []
    | some p => [(F.ATL_POOL_VALID, 1), (F.ATL_POOL_IU_4K, b2n p.iu4k), (F.ATL_POOL_DRAM_MASK, p.mask), (F.ATL_POOL_MAP_GIB, mapGib p.segs)]
  | .ATL_ENG =>
    let e := s.atlEng i
    [(F.ATL_ENG_FENCED, b2n (s.fenced 0x040 i)), (F.ATL_ENG_EVICTING, e.bufs.length),
     (F.ATL_ENG_DIRTY, (e.held.filter (fun h => h.dirty)).length), (F.ATL_ENG_HELD, e.held.length)]
  | _ => []

/-- A retention sample is more than RETENTION_DAYS overdue (R177). -/
def State.scanBacklog (s : State) : Bool :=
  let days := s.fld F.SVY_UPKEEP_CFG_RETENTION_DAYS 0
  s.svy.band.any (fun e => match e.2.closedAt with
    | some t => decide (e.2.st = .closed ∧ max t e.2.sampledAt + 2 * days * dayTicks < s.datumTime) && !s.svy.refreshQ.contains e.1
    | none => false)

/-- Media upkeep (Tables 05-7, 05-10, 05-12 to 05-14, 14-20). Urgency is published with MIN_FREE (R168, R171). -/
def State.svyFields (s : State) (r : Reg) (i : Nat) : List (Fld × Nat) :=
  match r with
  | .SVY_MEDIA_STATUS =>
    [(F.SVY_MEDIA_STATUS_URGENCY_MAX, if s.svy.published then maxOf (List.range 128) s.urgency else 0),
     (F.SVY_MEDIA_STATUS_WRITES_STOPPED, b2n s.svy.writesStopped), (F.SVY_MEDIA_STATUS_SCAN_BACKLOG, b2n s.scanBacklog),
     (F.SVY_MEDIA_STATUS_MIN_FREE, s.svy.minFree)]
  | .SVY_WA => [(F.SVY_WA_A_MEAS, s.svy.aMeas), (F.SVY_WA_A_BOOKED, s.aBookedNow)]
  | .SVY_REFRESH_Q => [(F.SVY_REFRESH_Q_DEPTH, s.svy.refreshQ.length)]
  | .SVY_POISON_TBL =>
    let n := s.poisonUsed + s.atl.poisonRes
    [(F.SVY_POISON_TBL_FULL, b2n (decide (poisonEntries ≤ n))), (F.SVY_POISON_TBL_USED, n)]
  | .SVY_FREE_WM => [(F.SVY_FREE_WM_ABOVE, b2n (s.svy.published && decide (s.fld F.SVY_FREE_WM_LEVEL i ≤ s.svy.minFree)))]
  | .SVY_GROUP => [(F.SVY_GROUP_URGENCY, if s.svy.published then s.urgency i else 0), (F.SVY_GROUP_FREE_BANDS, s.freeCount i)]
  | _ => []

/-- The most urgent level among the requests of a port waiting on any channel (Table 14-22). -/
def State.portUrgency (s : State) (p : Nat) : Nat :=
  (List.range 12).foldl (fun m ch =>
    (s.dramCh ch).queue.foldl (fun m r => if r.port = p then max m (levelOf (s.now - r.arrival) (s.portTarget ch p)) else m) m) 0

/-- Tiles and DRAM (Tables 14-12, 14-17 to 14-19, 14-22, 14-23). -/
def State.tilFields (s : State) (r : Reg) (i : Nat) : List (Fld × Nat) :=
  match r with
  | .TIL_STATUS =>
    [(F.TIL_STATUS_RESIZING, b2n s.til.resizing), (F.TIL_STATUS_RETIRED, s.til.retired),
     (F.TIL_STATUS_FREE, s.til.pool.foldl (fun n p => n + p.free.length) 0)]
  | .TIL_POOL_STATUS =>
    match s.til.pool[i]? with
    | none => []
    | some p => [(F.TIL_POOL_STATUS_FREE, p.free.length), (F.TIL_POOL_STATUS_SIZE, p.size)]
  | .TIL_POOL_RES =>
    match s.til.pool[i]? with
    | none => []
    | some p => [(F.TIL_POOL_RES_IN_USE, p.inUse), (F.TIL_POOL_RES_RESERVED, p.reserved)]
  | .TIL_POOL_WM =>
    match s.til.pool[i]? with
    | none => []
    | some p => [(F.TIL_POOL_WM_ABOVE, b2n (decide (s.fld F.TIL_POOL_WM_LEVEL i ≤ p.avail)))]
  | .DRC_PORT_STATUS => [(F.DRC_PORT_STATUS_URGENCY_MAX, s.portUrgency i)]
  | .DRC_CH_STATUS =>
    let c := s.dramCh i
    [(F.DRC_CH_STATUS_FENCED, b2n (c.fenced || s.fenced 0x070 i)), (F.DRC_CH_STATUS_TRAINED, b2n c.trained),
     (F.DRC_CH_STATUS_HIGH_TEMP, b2n c.highTemp), (F.DRC_CH_STATUS_REGIONS_FENCED, c.regions.length)]
  | _ => []

/-- LEG_SLOT_INFO.STATE: 0 empty, 1 ready, 2 rekeying, 3 fenced (Table 15-11). -/
def KSlot.state (x : KSlot) : Nat :=
  if x.fenced then 3 else match x.cur, x.shadow with
  | none, _ => 0
  | some _, some _ => 2
  | some _, none => 1

/-- The cipher engine and Legend (Tables 15-5, 15-7, 15-9, 15-11, 15-12), as path `k` sees the slot it selected. -/
def State.cipFields (s : State) (k : Nat) (r : Reg) (i : Nat) : List (Fld × Nat) :=
  match r with
  | .CIP_STATUS => [(F.CIP_STATUS_LANES_UP, 32 - s.fencedCount 0x080), (F.CIP_STATUS_KAPPA_PERMILLE, s.cip.kappa)]
  | .CIP_LANE => [(F.CIP_LANE_FENCED, b2n (s.fenced 0x080 i)), (F.CIP_LANE_QUEUED, min 255 (tabGet (fun _ => 0) s.cip.jobs i))]
  | .LEG_STATUS =>
    [(F.LEG_STATUS_ACCESS_OPEN, b2n s.cip.open_), (F.LEG_STATUS_LOCKED_OUT, b2n s.cip.lockFrom.isSome),
     (F.LEG_STATUS_OWNER_KEY, s.otpByte 321), (F.LEG_STATUS_OWNER_PW, s.otpByte 321 / 2),
     (F.LEG_STATUS_FAILURES, s.cip.failures), (F.LEG_STATUS_SLOTS_FENCED, (s.cip.slot.filter (fun e => e.2.fenced)).length)]
  | .LEG_SLOT_INFO =>
    let x := s.kslot (s.fld F.LEG_SLOT_SEL_SLOT k)
    [(F.LEG_SLOT_INFO_STATE, x.state), (F.LEG_SLOT_INFO_KIND, (x.cur.map KeyEnt.kind).getD 0),
     (F.LEG_SLOT_INFO_SHADOW, b2n x.shadow.isSome), (F.LEG_SLOT_INFO_OWNER, x.owner),
     (F.LEG_SLOT_INFO_GENERATION, (x.cur.map KeyEnt.gen).getD 0)]
  | .LEG_SLOT_NS => [(F.LEG_SLOT_NS_NSID, (s.kslot (s.fld F.LEG_SLOT_SEL_SLOT k)).nsid)]
  | .LEG_LOCKOUT => [(F.LEG_LOCKOUT_REMAIN_S, ceilDiv s.lockRemain 1024)]
  | _ => []

/-- The parity engine that has the jobs of an IU: IU index mod 64, or where that is fenced the next unfenced one, ascending (DESIGN CHOICE, log
entry 76: the spec does not say which engine takes a job). -/
def State.parEngOf (s : State) (iu : Nat) : Nat :=
  (((List.range 64).map (fun k => (iu + k) % 64)).find? (fun e => !s.fenced 0x090 e)).getD (iu % 64)

/-- The jobs queued at a parity engine (Table 06-15): the folds of staged IUs, whole and not folded yet (R191, R192), and the reconstructions
of detour reads under way (R197). -/
def State.parJobs (s : State) (e : Nat) : ParEng :=
  let fold := fun (x : Nat × Option Stage) => match x.2 with
    | some y => y.live && decide (y.progs = 0) && !s.atl.asm.any (fun a => decide (a.slot = x.1)) && decide (s.parEngOf y.iu = e)
    | none => false
  let det := (s.cmds.filter (fun c => decide (c.phase = .running))).flatMap Cmd.ius
  ⟨(s.atl.stage.filter fold).length, (det.filter (fun i => i.detour && !i.ended && decide (s.parEngOf i.iu = e))).length⟩

/-- Stripes (Tables 06-7, 06-10 to 06-15). A group's word is formed from the sheets present. -/
def State.parFields (s : State) (r : Reg) (i : Nat) : List (Fld × Nat) :=
  match r with
  | .PAR_STATUS =>
    [(F.PAR_STATUS_LAYOUT_GEN, s.par.layoutGen), (F.PAR_STATUS_ENG_FENCED, s.fencedCount 0x090),
     (F.PAR_STATUS_EVAC_ACTIVE, b2n s.par.evac.isSome), (F.PAR_STATUS_SPARE_ZERO, b2n (s.svy.band.any (fun e => decide (2 ≤ s.erasedMax e.1)))),
     (F.PAR_STATUS_SWEEP_ACTIVE, b2n s.par.sweep), (F.PAR_STATUS_SLOTS_EMPTY, b2n (decide (s.slotsUsed = 3583))),
     (F.PAR_STATUS_REPLAY_DONE, b2n s.par.replayDone)]
  | .PAR_FRONTIER => [(F.PAR_FRONTIER_BAND, s.par.frontier)]
  | .PAR_SHEETS => [(F.PAR_SHEETS_USABLE, s.par.usable), (F.PAR_SHEETS_PRESENT, s.par.present)]
  | .PAR_JRNL_WM => [(F.PAR_JRNL_WM_ABOVE, b2n (decide (s.fld F.PAR_JRNL_WM_LEVEL_PCT 0 * 3583 ≤ s.slotsUsed * 100)))]
  | .PAR_LOST => [(F.PAR_LOST_LIST_ENTRIES, min 0xFFFF s.par.lost.length)]
  | .PAR_SLOTS => [(F.PAR_SLOTS_IN_USE, s.slotsUsed)]
  | .PAR_GROUP =>
    if s.par.present = 0 then []
    else
      [(F.PAR_GROUP_NO_BANDS, b2n (decide (s.width i < 4))),
       (F.PAR_GROUP_ERASED_MAX, min 3 (maxOf (s.svy.band.filter (fun e => decide (e.1 % 128 = i))) (fun e => s.erasedMax e.1))),
       (F.PAR_GROUP_W_G, s.width i)]
  | .PAR_ENG =>
    let e := s.parJobs i
    [(F.PAR_ENG_FENCED, b2n (s.fenced 0x090 i)), (F.PAR_ENG_REBUILDS, min 255 e.rebuilds), (F.PAR_ENG_FOLDS, min 255 e.folds)]
  | _ => []

/-! ### The quadrants -/

/-- Bit 2 e + n of DIE_PRESENT: the position holds a profiled die that is not fenced (Table 07-6). -/
def State.diesShown (s : State) (c : Nat) : Nat :=
  (List.range 16).foldl (fun m j =>
    let d := 16 * c + j
    if (s.dieOf d).present && (s.dieOf d).profile.isSome && !s.dieIsFenced d then m + 2 ^ j else m) 0

/-- Flash channels and dies (Tables 07-6, 07-8, 07-11, 07-12). T_LAST is held in 1/16 °C and shown rounded down (DESIGN CHOICE, log entry 75:
R253 gives no rounding). -/
def State.fchFields (s : State) (k : Nat) (r : Reg) (i : Nat) : List (Fld × Nat) :=
  match r with
  | .FCH_STATUS =>
    let c := s.chan i
    [(F.FCH_STATUS_DIE_PRESENT, s.diesShown i), (F.FCH_STATUS_RETRAIN_DUE, b2n c.due), (F.FCH_STATUS_FENCED, b2n (s.fenced 0x0A0 i)),
     (F.FCH_STATUS_TRAINED, b2n c.trained), (F.FCH_STATUS_LPDDR4, b2n c.lpddr4), (F.FCH_STATUS_RATE, c.rate)]
  | .FCH_TRAIN =>
    let c := s.chan i
    [(F.FCH_TRAIN_T_LAST, twos 8 (c.tLast / 16)), (F.FCH_TRAIN_STEPS_LEFT, c.stepsLeft), (F.FCH_TRAIN_COUNT, min 0xFFFF c.count)]
  | .FCH_PROFILE =>
    match s.profSlot i with
    | none => []
    | some p =>
      [(F.FCH_PROFILE_VALID, 1), (F.FCH_PROFILE_MAX_RATE, p.maxRate),
       (F.FCH_PROFILE_DIES, (s.fch.die.filter (fun e => decide (e.2.profile = some i))).length), (F.FCH_PROFILE_PROFILE_ID, p.id)]
  | .FCH_DIE_INFO =>
    let d := s.fld F.FCH_DIE_SEL_DIE k
    let x := s.dieOf d
    [(F.FCH_DIE_INFO_READ_TRIM, x.readTrim), (F.FCH_DIE_INFO_WRITE_TRIM, x.writeTrim),
     (F.FCH_DIE_INFO_RUN_LEFT_US, if x.runKind = 0 then 0 else min 1023 (ceilDiv (x.runEnd - s.now) usTicks)),
     (F.FCH_DIE_INFO_SUSPENDED, b2n (decide ((s.ctxOf d).st = .suspended))), (F.FCH_DIE_INFO_FENCED, b2n (s.dieIsFenced d)),
     (F.FCH_DIE_INFO_UNPROFILED, b2n (x.present && x.profile.isNone)),
     (F.FCH_DIE_INFO_ABSENT, b2n (s.dieMissing d)), (F.FCH_DIE_INFO_SLOT, x.profile.getD 0)]
  | _ => []

/-- STATE of a die context (Table 08-12). -/
def CtxState.num : CtxState → Nat
  | .idle => 0 | .running => 1 | .suspended => 2 | .fenced => 3

/-- The dies a Traverse engine owns, in ascending order: context slot k holds the k-th (Table 08-11). -/
def State.diesOwned (s : State) (t : Nat) : List Nat := (chanDies (t / 4)).filter (fun d => decide (s.owner d = t % 4))

/-- SLOTS_BUSY: bit k for context slot k. -/
def State.slotsBusy (s : State) (t : Nat) : Nat :=
  ((s.diesOwned t).foldr (fun d m => 2 * m + b2n (decide ((s.ctxOf d).st ≠ .idle))) 0)

/-- The counters as TRV_CTX_CNT_A and TRV_CTX_CNT_B show them: the saved copies of an operation suspended or migrated (Table 08-12). -/
def Ctx.shown (x : Ctx) (j : Nat) : Nat := (if x.st = .suspended ∨ x.migrated = true then x.saved else x.c).getD j 0

/-- Traverse engines (Tables 08-11, 08-12, 08-14). -/
def State.trvFields (s : State) (k : Nat) (r : Reg) (i : Nat) : List (Fld × Nat) :=
  let x := s.ctxOf (s.fld F.TRV_CTX_SEL_DIE k)
  match r with
  | .TRV_CTX_INFO =>
    [(F.TRV_CTX_INFO_RESUME_PC, x.resumePc), (F.TRV_CTX_INFO_SUSP_COUNT, x.suspCount), (F.TRV_CTX_INFO_LONG, x.long),
     (F.TRV_CTX_INFO_STATE, x.st.num), (F.TRV_CTX_INFO_LAST_STATUS, x.lastStatus)]
  | .TRV_CTX_OP => [(F.TRV_CTX_OP_ISSUE_EPOCH, x.issueEpoch), (F.TRV_CTX_OP_PC, x.pc)]
  | .TRV_CTX_CNT_A => [(F.TRV_CTX_CNT_A_C1, x.shown 1), (F.TRV_CTX_CNT_A_C0, x.shown 0)]
  | .TRV_CTX_CNT_B => [(F.TRV_CTX_CNT_B_C3, x.shown 3), (F.TRV_CTX_CNT_B_C2, x.shown 2)]
  | .TRV_PATCH_MAP =>
    match (tabGet (fun _ => Ucode.reset) s.trv.ucode 0).redirect[i]? with
    | none => []
    | some p => [(F.TRV_PATCH_MAP_VALID, 1), (F.TRV_PATCH_MAP_PATCH_ADDR, p.2), (F.TRV_PATCH_MAP_ROM_ADDR, p.1)]
  | .TRV_ENG =>
    let u := s.unit 0x0A2 i
    [(F.TRV_ENG_FENCED, b2n u.fenced), (F.TRV_ENG_ISOLATED, b2n u.isolated), (F.TRV_ENG_DIES, (s.diesOwned i).length),
     (F.TRV_ENG_SLOTS_BUSY, s.slotsBusy i)]
  | _ => []

/-- LDPC lanes (Tables 09-7, 09-10). -/
def State.ldpFields (s : State) (r : Reg) (i : Nat) : List (Fld × Nat) :=
  match r with
  | .LDP_STATUS =>
    let lanes := List.range' (64 * i) 64
    [(F.LDP_STATUS_RES_HELD, min 255 (lanes.foldl (fun n l =>
        n + ((s.laneOf l).res.filter (fun j => decide (j.start < s.plt.frameAt + 2 * msTicks))).length) 0)),
     (F.LDP_STATUS_LANES_FENCED, (lanes.filter (fun l => s.fenced 0x0B0 l)).length),
     (F.LDP_STATUS_LANES_BUSY, (lanes.filter (fun l => (s.laneOf l).busy.isSome)).length)]
  | .LDP_LANE =>
    let x := s.laneOf i
    [(F.LDP_LANE_FENCED, b2n (s.fenced 0x0B0 i)), (F.LDP_LANE_BUSY, b2n x.busy.isSome), (F.LDP_LANE_HARD_MOVED, b2n x.hardMoved),
     (F.LDP_LANE_RES_QUEUED, min 255 x.res.length)]
  | _ => []

/-! ### The Chartroom -/

/-- Sheet bays (Tables 10-8, 10-9, 10-12). -/
def State.shbFields (s : State) (k : Nat) (r : Reg) (i : Nat) : List (Fld × Nat) :=
  match r with
  | .SHB_CFG => [(F.SHB_CFG_SOLDERED, b2n s.soldered)]
  | .SHB_BAY =>
    let w := s.shbWord i
    [F.SHB_BAY_STATE, F.SHB_BAY_PRESENT, F.SHB_BAY_PWR_EN, F.SHB_BAY_PWR_GOOD, F.SHB_BAY_ATTN, F.SHB_BAY_PWR_IND, F.SHB_BAY_LOCKED,
     F.SHB_BAY_ID_VALID, F.SHB_BAY_DIES].map (fun f => (f, bits w f.hi f.lo))
  | .SHB_ID_DATA =>
    let x := s.bay (s.fld F.SHB_ID_SEL_BAY k)
    [(F.SHB_ID_DATA_DATA, if x.idValid then le x.id (4 * s.fld F.SHB_ID_SEL_WORD k) 4 else 0)]
  | _ => []

/-- Modes, power and holdup (Tables 16-7, 16-10, 16-11). -/
def State.pwrFields (s : State) (r : Reg) : List (Fld × Nat) :=
  match r with
  | .PWR_MODE =>
    [(F.PWR_MODE_PSTATE, s.pwr.pstate), (F.PWR_MODE_FENCED_UNITS, b2n s.fencedUnits), (F.PWR_MODE_ENTERING, b2n s.pwr.entering.isSome),
     (F.PWR_MODE_MODE, s.pwr.mode.code)]
  | .PWR_HOLD_STATUS =>
    [(F.PWR_HOLD_STATUS_ARMED_GROUPS, s.armedGroups), (F.PWR_HOLD_STATUS_LAST_CAUSE, (s.pwr.dumps.head?.map DumpRec.cause).getD 0),
     (F.PWR_HOLD_STATUS_RAILS_TRIPPED, s.pwr.railsTripped), (F.PWR_HOLD_STATUS_ARMED_SET, s.pwr.armedSet),
     (F.PWR_HOLD_STATUS_TEST_RUNNING, b2n (decide (s.pwr.test.phase ≠ .idle))), (F.PWR_HOLD_STATUS_HOLD_EN, b2n s.pwr.holdEn)]
  | .PWR_HOLD_E => [(F.PWR_HOLD_E_E_MJ, s.pwr.eMeasured)]
  | .PWR_HOLD_ESR => [(F.PWR_HOLD_ESR_ESR_MOHM, s.pwr.esr)]
  | .PWR_STAGING => [(F.PWR_STAGING_BUDGET_KIB, s.plt.stagingNow / 1024)]
  | .PWR_STAGING_USE => [(F.PWR_STAGING_USE_IN_USE_KIB, ceilDiv s.pwr.stagingUse 1024)]
  | _ => []

/-- Contour (Tables 17-7, 17-11). -/
def State.ctrFields (s : State) (r : Reg) (i : Nat) : List (Fld × Nat) :=
  match r with
  | .CTR_STATUS =>
    [(F.CTR_STATUS_CRIT_TRIP, b2n s.ctr.trip), (F.CTR_STATUS_QUIET_NAMED, b2n s.ctr.cand.isSome), (F.CTR_STATUS_K_MAX, s.ctr.kMax),
     (F.CTR_STATUS_STEP, s.ctr.step), (F.CTR_STATUS_HOTTEST, s.ctr.hottest), (F.CTR_STATUS_T_EFF, twos 16 s.ctr.tEff)]
  | .CTR_REGION =>
    [(F.CTR_REGION_MODEL, twos 16 (s.regionOf i).model), (F.CTR_REGION_BOUND, s.bound i), (F.CTR_REGION_ANCHOR_AGE, s.anchorAge i)]
  | _ => []

/-- Datum cycles still to slew (Table 19-10). -/
def State.slewRemain (s : State) : Int := if s.dat.slewing then s.dat.slewLeft - s.slewNow else 0

/-- Fault pin and injection, the Gazetteer, Datum, the management port (Tables 18-11, 18-13, 19-7 to 19-10, 19-12, 23-7). -/
def State.chrFields (s : State) (k : Nat) (r : Reg) : List (Fld × Nat) :=
  match r with
  | .CHR_DCS_LAYOUT => [(F.CHR_DCS_LAYOUT_LAYOUT, s.dcsLayout)]
  | .CHR_MGMT_CFG => [(F.CHR_MGMT_CFG_I3C, b2n s.mgmt.i3c), (F.CHR_MGMT_CFG_ADDR, s.mgmt.addr)]
  | .CHR_MGMT_STATUS =>
    let eid := fun (e : Nat) => tabGet (fun _ => 0) s.mgmt.eid e
    [(F.CHR_MGMT_STATUS_EID_BUS, eid 0), (F.CHR_MGMT_STATUS_EID_A, eid 1), (F.CHR_MGMT_STATUS_EID_B, eid 2),
     (F.CHR_MGMT_STATUS_CONTEXTS, s.contexts), (F.CHR_MGMT_STATUS_SESSIONS, s.mgmt.sessions.length)]
  | .FLT_PIN_CTL => [(F.FLT_PIN_CTL_PULSING, b2n s.pin.pulsing)]
  | .FLT_INJ_STATUS =>
    let u := s.unit (s.fld F.FLT_INJ_SEL_BLOCK k) (s.fld F.FLT_INJ_SEL_INSTANCE k)
    let c := s.fld F.FLT_INJ_SEL_CHECKER k
    [(F.FLT_INJ_STATUS_LEFT, ((u.inj.find? (fun j => decide (j.checker = c))).map Injection.left).getD 0)]
  | .GAZ_STATUS =>
    [(F.GAZ_STATUS_LAYOUT, b2n s.gaz.vg40), (F.GAZ_STATUS_FULL, b2n s.gaz.full), (F.GAZ_STATUS_COUNT, s.gaz.count),
     (F.GAZ_STATUS_NEXT, s.gaz.next)]
  | .GAZ_SEQ => [(F.GAZ_SEQ_SEQ, s.gaz.seq)]
  | .DAT_TIME_LO => [(F.DAT_TIME_LO_TIME_LO, s.datumTime)]
  | .DAT_TIME_HI =>
    let w := s.dat.hiLatch
    [F.DAT_TIME_HI_UNSET, F.DAT_TIME_HI_SUB, F.DAT_TIME_HI_TIME_HI].map (fun f => (f, bits w f.hi f.lo))
  | .DAT_ALARM_LO => [(F.DAT_ALARM_LO_ALARM_LO, s.dat.alarm)]
  | .DAT_ALARM_HI => [(F.DAT_ALARM_HI_ARMED, b2n s.dat.armed), (F.DAT_ALARM_HI_ALARM_HI, s.dat.alarm / 2 ^ 32)]
  | .DAT_ADJ => [(F.DAT_ADJ_SLEWING, b2n (decide (s.slewRemain ≠ 0))), (F.DAT_ADJ_REMAIN, twos 31 s.slewRemain)]
  | _ => []

/-- The most-erased sector of Portolan, the lowest of several, and its erases (Table 20-11). -/
def State.worn (s : State) : Nat × Nat :=
  s.por.erases.foldl (fun (m : Nat × Nat) e => if m.2 < e.2 then e else m) (0, 0)

/-- Milliseconds until the drain of the pending schedule (Table 20-15). -/
def State.drainLeft (s : State) : Nat :=
  match s.por.sched with
  | some x => if s.por.draining then 0 else min 0xFFFFFFFF (((x.due - s.datumCycles) * 1000 / 32768).toNat)
  | none => 0

/-- Survey, Portolan, update and relay (Tables 20-11, 20-14 to 20-16, 21-4, 21-7). -/
def State.porFields (s : State) (k : Nat) (r : Reg) : List (Fld × Nat) :=
  match r with
  | .SRV_STATUS =>
    [(F.SRV_STATUS_BRINGUP_DONE, b2n (decide (6 ≤ s.start.step))), (F.SRV_STATUS_FORCED_PENDING, b2n s.srv.forcedPending),
     (F.SRV_STATUS_RUNNING, s.srv.running.length), (F.SRV_STATUS_QUEUED, min 2047 s.srv.queued.length)]
  | .SRV_FUSES =>
    [(F.SRV_FUSES_LEFT_MIN, 512 - maxOf (List.range 6) (fun d => tabGet (fun _ => 0) s.srv.fuses d)), (F.SRV_FUSES_SOFT, min 0xFFFF s.srv.soft)]
  | .POR_STATUS =>
    [(F.POR_STATUS_BUSY, b2n s.por.op.isSome), (F.POR_STATUS_OP, (s.por.op.map StoreOp.kind).getD 0),
     (F.POR_STATUS_SUSPENDED, b2n (s.por.op.any StoreOp.suspended)), (F.POR_STATUS_SPARES_LEFT, s.por.spares)]
  | .POR_WEAR => [(F.POR_WEAR_MAX_KCYCLES, min 0xFFFF (s.worn.2 / 1000)), (F.POR_WEAR_SECTOR, s.worn.1)]
  | .UPD_BOOT =>
    [(F.UPD_BOOT_SLOT, s.por.booted), (F.UPD_BOOT_LAST_BOOT, b2n s.por.lastBoot), (F.UPD_BOOT_TRIAL, b2n s.por.trial),
     (F.UPD_BOOT_PRIMARY, s.por.primary), (F.UPD_BOOT_PREVIOUS, s.por.previous)]
  | .UPD_SESSION =>
    match s.por.sess with
    | none => []
    | some u =>
      [(F.UPD_SESSION_ACTIVE, 1), (F.UPD_SESSION_REMOTE, b2n u.remote), (F.UPD_SESSION_SLOT, u.slot), (F.UPD_SESSION_ROUTE, u.route),
       (F.UPD_SESSION_QUEUED, u.queue.length), (F.UPD_SESSION_NEXT_CHUNK, u.next)]
  | .UPD_SCHED =>
    match s.por.sched with
    | none => []
    | some x =>
      [(F.UPD_SCHED_VALID, 1), (F.UPD_SCHED_DRAINING, b2n s.por.draining), (F.UPD_SCHED_SLOT, x.slot), (F.UPD_SCHED_DRAIN_MS, x.drainMs)]
  | .UPD_SCHED_GROUP => [(F.UPD_SCHED_GROUP_GROUP_ID, (s.por.sched.map Sched.group).getD 0)]
  | .UPD_SCHED_LEFT => [(F.UPD_SCHED_LEFT_MS, s.drainLeft)]
  | .UPD_RELAY_STATUS =>
    let u := s.por.upL
    let d := s.por.dnL
    [(F.UPD_RELAY_STATUS_UP_LINK, b2n u.up), (F.UPD_RELAY_STATUS_DN_LINK, b2n d.up), (F.UPD_RELAY_STATUS_UP_VERSION, u.version),
     (F.UPD_RELAY_STATUS_DN_VERSION, d.version), (F.UPD_RELAY_STATUS_POSITION, s.por.position), (F.UPD_RELAY_STATUS_HOP_NS, min 0x3FFF u.hopNs)]
  | .UPD_CHAIN_INFO =>
    let x := tabGet (fun _ => ChainDev.reset) s.por.chain (s.fld F.UPD_CHAIN_SEL_POSITION k)
    [(F.UPD_CHAIN_INFO_PRESENT, b2n x.present), (F.UPD_CHAIN_INFO_LAST_BOOT, b2n x.lastBoot), (F.UPD_CHAIN_INFO_SLOT, x.slot),
     (F.UPD_CHAIN_INFO_STORE, x.store), (F.UPD_CHAIN_INFO_SCHED, x.sched)]
  | .UPD_CHAIN_VER => [(F.UPD_CHAIN_VER_FW_VERSION, (tabGet (fun _ => ChainDev.reset) s.por.chain (s.fld F.UPD_CHAIN_SEL_POSITION k)).ver)]
  | _ => []

/-! ### The function windows -/

/-- The submission queues of a function. -/
def State.sqsOf (s : State) (f : Nat) : List Sq := (s.sqs.filter (fun e => decide (e.1 / 1024 = f))).filterMap Prod.snd

/-- A namespace attached to the function is under a DRAM channel fence suspension (Table 02-8). -/
def State.mapRebuild (s : State) (f : Nat) : Bool := s.atl.suspended.any (fun n => (s.nsOf n.1).any (fun x => x.attached.contains f))

/-- The function windows (Tables 02-8, 11-13, 11-15, 11-18, 13-16, 13-18). -/
def State.hstFields (s : State) (r : Reg) (i : Nat) : List (Fld × Nat) :=
  match r with
  | .HST_FN_STATUS =>
    let x := s.fnOf i
    [(F.HST_FN_STATUS_SQ_STALLED, b2n ((s.sqsOf i).any Sq.stalled)),
     (F.HST_FN_STATUS_DIRECT_SHORT, b2n (x.cmse && decide (x.backing < x.bar4))), (F.HST_FN_STATUS_FN_READY, b2n x.ready)]
  | .HST_LINK =>
    let p := s.port (i / 128)
    [(F.HST_LINK_RATE_GBPS, p.rate / 16), (F.HST_LINK_FLIT, b2n p.flit), (F.HST_LINK_GEN, p.gen), (F.HST_LINK_WIDTH, p.width)]
  | .HST_QCLASS =>
    let w := s.qclass (i / 1024) (i % 1024)
    [F.HST_QCLASS_BOUND, F.HST_QCLASS_WAITING, F.HST_QCLASS_CLASS].map (fun f => (f, bits w f.hi f.lo))
  | .HST_PROMISE_STATUS =>
    [(F.HST_PROMISE_STATUS_DRAIN, b2n s.plt.drain), (F.HST_PROMISE_STATUS_CLASS_UNFIT, b2n ((List.range 64).any (fun c => (s.cls c).unfit && (s.boundFns c).contains i))),
     (F.HST_PROMISE_STATUS_MAP_REBUILD, b2n (s.mapRebuild i)), (F.HST_PROMISE_STATUS_CRIT_TRIP, b2n s.ctr.trip)]
  | .MBX_STATUS =>
    let m := s.mb i
    [(F.MBX_STATUS_HANDLES, s.handlesOf i), (F.MBX_STATUS_SEG_TAKEN, b2n m.segTaken), (F.MBX_STATUS_RESP_MORE, b2n m.respMore),
     (F.MBX_STATUS_RESP_READY, b2n m.respReady), (F.MBX_STATUS_BUSY, b2n m.busy)]
  | .MBX_SESSION => [(F.MBX_SESSION_VERSION, (s.mb i).version)]
  | _ => []

/-! ### A register as it reads -/

/-- The fields of element `i` of a register that the state holds elsewhere, with their current values; copies of R660 as path `k` has
them. -/
def State.fields (s : State) (k : Nat) (r : Reg) (i : Nat) : List (Fld × Nat) :=
  s.pltFields r i ++ s.verFields r ++ s.atlFields r i ++ s.svyFields r i ++ s.tilFields r i ++ s.cipFields k r i ++ s.parFields r i
    ++ s.fchFields k r i ++ s.trvFields k r i ++ s.ldpFields r i ++ s.shbFields k r i ++ s.pwrFields r ++ s.ctrFields r i
    ++ s.chrFields k r ++ s.porFields k r ++ s.hstFields r i

/-- The word that element `i` of a register reads as on path `k` (R6). -/
def State.readWord (s : State) (k : Nat) (r : Reg) (i : Nat) : W32 :=
  (s.fields k r i).foldl (fun w e => putBits w e.1.hi e.1.lo e.2) (s.rg r i)

end Sys2Proof.Machine
end

