-- ==== Sys2Proof/Machine/Registers.lean ====
section
/-! DEFINITION. Register accesses (chapters 0, 11 and 23): writes by access code, the writes with a rule of their own, reads of
RC fields, the board configuration record (R586). -/

set_option linter.unusedVariables false

namespace Sys2Proof.Machine

/-! ### Writes with a rule of their own -/

/-- HK + TH + RECON_g exceeds 500 thousandths for some group (R108). -/
def State.reserveTooLarge (s : State) (reserve : W32) (recon : Nat → Nat) : Bool :=
  let base := bits reserve F.PLT_RESERVE_HK_PERMILLE.hi F.PLT_RESERVE_HK_PERMILLE.lo
    + bits reserve F.PLT_RESERVE_THERMAL_PERMILLE.hi F.PLT_RESERVE_THERMAL_PERMILLE.lo
  (List.range 128).any (fun g => decide (500 < base + recon g))

/-- PLT_RESERVE (R108). -/
def State.writePltReserve (s : State) (w : W32) : State :=
  if s.reserveTooLarge (Reg.after .PLT_RESERVE (s.rg .PLT_RESERVE 0) w) (fun g => s.fld F.PLT_RECON_RECON_PERMILLE g) then s.cfgErr .PLT_RESERVE 0 else s.writeReg .PLT_RESERVE 0 w

/-- PLT_RECON[g] (R108). -/
def State.writePltRecon (s : State) (g : Nat) (w : W32) : State :=
  let v := bits (Reg.after .PLT_RECON (s.rg .PLT_RECON g) w) F.PLT_RECON_RECON_PERMILLE.hi F.PLT_RECON_RECON_PERMILLE.lo
  if s.reserveTooLarge (s.rg .PLT_RESERVE 0) (fun k => if k = g then v else s.fld F.PLT_RECON_RECON_PERMILLE k) then s.cfgErr .PLT_RECON g
  else s.writeReg .PLT_RECON g w

/-- PLT_LAGS: the floors are recomputed (R109). -/
def State.writePltLags (s : State) (w : W32) : State := (s.writeReg .PLT_LAGS 0 w).recheck

/-- PLT_ENVELOPE and PLT_SHEET_PWR[k] (R665): a value taken is copied to the always-on domain and counts as programmed. -/
def State.writeEnvelope (s : State) (r : Reg) (k : Nat) (w : W32) : State :=
  let t := s.writeReg r k w
  if !r.inRange w then t else match r with
    | .PLT_ENVELOPE => t.noteEnvelope true []
    | _ => t.noteEnvelope false [k]

/-- ATL_STEER[j] (R152): a write that names a fenced engine changes nothing. -/
def State.writeSteer (s : State) (j : Nat) (w : W32) : State :=
  if (List.range 8).any (fun k => s.fenced 0x040 (bits w (4 * k + 3) (4 * k))) then s.cfgErr .ATL_STEER j else s.writeReg .ATL_STEER j w

/-- SVY_FREE_WM[i] (R168): STOP < URGENT < LOW must hold with the new level. -/
def State.writeFreeWm (s : State) (i : Nat) (w : W32) : State :=
  let lv := fun k => if k = i then bits (Reg.after .SVY_FREE_WM (s.rg .SVY_FREE_WM i) w) F.SVY_FREE_WM_LEVEL.hi F.SVY_FREE_WM_LEVEL.lo else s.fld F.SVY_FREE_WM_LEVEL k
  if lv 2 < lv 1 ∧ lv 1 < lv 0 then s.writeReg .SVY_FREE_WM i w else s.cfgErr .SVY_FREE_WM i

/-- HST_FN_CTRL of a function (R344): MBX_VECTOR lies below the function's table size. -/
def State.writeVector (s : State) (f : Nat) (w : W32) : State :=
  if bits w F.HST_FN_CTRL_MBX_VECTOR.hi F.HST_FN_CTRL_MBX_VECTOR.lo < msixCount f then s.writeReg .HST_FN_CTRL f w
  else s.cfgErr .HST_FN_CTRL f

/-- FLT_PIN_CTL (Table 18-11): PULSE_MS and LEVEL, then REARM. -/
def State.writePinCtl (s : State) (w : W32) : State :=
  if !Reg.inRange .FLT_PIN_CTL w then s.cfgErr .FLT_PIN_CTL 0
  else
    let s := s.writeReg .FLT_PIN_CTL 0 w
    if bits w 2 2 = 1 then s.rearm else s

/-- FLT_INJ_CTL of a path (Table 18-12): N, then GO. -/
def State.writeInjCtl (s : State) (k : Nat) (w : W32) : State :=
  if !Reg.inRange .FLT_INJ_CTL w then s.cfgErr .FLT_INJ_CTL k
  else
    let s := s.writeReg .FLT_INJ_CTL k w
    if bits w 8 8 = 1 then s.injectGo k else s

/-- UPD_RELAY_CFG (R593): RELAY_DN stops with DN_ENABLE. -/
def State.writeRelayCfg (s : State) (w : W32) : State :=
  let s := s.writeReg .UPD_RELAY_CFG 0 w
  if s.dnOn || !s.por.dnL.up then s else s.linkLost true

/-! ### The board configuration record (R586, Table 20-5) -/

/-- Every field lies in its range. The tile targets are held against R433 as far as a record can be: each at least 8, their sum
4,096 less the retired tiles. -/
def boardOk (retired : Nat) (b : List Nat) : Bool :=
  let tgt := fun p => le b (8 + 2 * p) 2
  decide (b.getD 0 0 ≤ 4 ∧ b.getD 1 0 ≤ 4 ∧ b.getD 2 0 ≤ 1 ∧ 0x08 ≤ b.getD 3 0 ∧ b.getD 3 0 ≤ 0x77 ∧ b.getD 4 0 ≤ 5)
    && decide (10 ≤ le b 6 2 ∧ le b 6 2 ≤ 200 ∧ 10 ≤ le b 24 2 ∧ le b 24 2 ≤ 2000)
    && (List.range 8).all (fun p => decide (8 ≤ tgt p))
    && decide ((List.range 8).foldl (fun n p => n + tgt p) 0 = 4096 - retired)
    && (List.range 6).all (fun k => decide (b.getD (26 + k) 0 = 0))

/-- The 32 bytes staged on a path. -/
def State.stagedBoard (s : State) (k : Nat) : List Nat :=
  (List.range 8).flatMap (fun n => bytesLe 4 (s.rg .POR_CFG_DATA (8 * k + n)).toNat)

/-- COMMIT of a path (R586): ignored while field access is closed; a field out of range leaves the stored record unchanged. -/
def State.commitBoard (s : State) (k : Nat) : State :=
  let b := s.stagedBoard k
  if !s.cip.open_ then s
  else if !boardOk s.til.retired b then s.event F.POR_EVENTS_CFG_ERR 0 0
  else s.writeCopy 0x1000 4096 (Config.structTag 0x1000) b

/-! ### Fault words -/

/-- A write of a fault word (Tables 18-7 to 18-9): the event bits of STATUS, MASK, and CNT_CLEAR and FENCE of CTL. -/
def State.writeFlt (s : State) (block word inst : Nat) (w : W32) : State :=
  if !unitOk block inst then s
  else
    let u := s.unit block inst
    match word with
    | 0 => s.setUnit block inst { u with ev := u.ev &&& ~~~ (w &&& fieldMask 8 3) }
    | 1 => s.setUnit block inst { u with mask := bits w 8 3 }
    | _ =>
      let s := if bits w 1 1 = 1 then s.clearCounts block inst else s
      if bits w 0 0 = 1 then s.softFence block inst else s

/-! ### A register by its place -/

/-- A write of element `i` of a register on path `k`. -/
def State.writeAny (s : State) (k : Nat) (r : Reg) (i : Nat) (w : W32) : State :=
  match r with
  | .PLT_RESERVE => s.writePltReserve w
  | .PLT_RECON => s.writePltRecon i w
  | .PLT_LAGS => s.writePltLags w
  | .PLT_ENVELOPE | .PLT_SHEET_PWR => s.writeEnvelope r i w
  | .ATL_STEER => s.writeSteer i w
  | .SVY_FREE_WM => s.writeFreeWm i w
  | .TIL_CTRL => if bits w 0 0 = 1 then s.applyTargets else s
  | .FLT_PIN_CTL => s.writePinCtl w
  | .FLT_INJ_CTL => s.writeInjCtl k w
  | .FCH_DIE_SEL | .TRV_CTX_SEL | .LEG_SLOT_SEL | .SHB_ID_SEL | .UPD_CHAIN_SEL | .POR_CFG_SEL | .FLT_INJ_SEL => s.writeReg r k w
  | .POR_CFG_DATA => s.writeReg r (8 * k + s.fld F.POR_CFG_SEL_WORD k) w
  | .POR_CFG_CTL => if bits w 0 0 = 1 then s.commitBoard k else s
  | .UPD_RELAY_CFG => s.writeRelayCfg w
  | .HST_FN_CTRL => s.writeVector i w
  | .MBX_DOORBELL =>
    let s := if bits w 1 1 = 1 then s.respDone i else s
    if bits w 0 0 = 1 then s.ring i else s
  | _ => s.writeReg r i w

/-- A block of the hub or the quadrants (Table 23-1). -/
def hubBlock (b : Nat) : Bool := decide (b ≤ 0x0A ∨ b = 0x12 ∨ b = 0x13)

/-- R655: the blocks that read zero and ignore writes in the mode the device is in. -/
def State.blockServed (s : State) (b : Nat) : Bool :=
  match s.pwr.mode with
  | .vault => false
  | .dormant | .stopped => !hubBlock b
  | .ready | .service | .degraded | .holdup => !(hubBlock b && s.romRecovery)

/-- A function's window is served: the endpoint runs and the function is there (Table 16-1). -/
def State.windowServed (s : State) (f : Nat) : Bool := s.hubOn && (s.fnOf f).enabled

/-- The DCS offset a PF's BAR2 offset maps to (R340): window k of 2^WIN_SIZE − 1. -/
def State.windowDcs (s : State) (f offset : Nat) : Option Nat :=
  let k := offset / 0x10000
  if f % 128 = 0 ∧ 1 ≤ k ∧ k < 2 ^ s.fld F.HST_FN_INFO_WIN_SIZE f then
    some (s.fld F.HST_DCS_WIN_BLOCK (16 * f + k) * 0x10000 + offset % 0x10000)
  else none

/-- The path number of a PF (R660). -/
def pfPath (f : Nat) : Nat := if f = 0 then 0 else 1

/-- A dword write at a DCS offset on path `k`: a register or a fault word; an offset that names neither ignores it (R9, R654). -/
def State.writeDcs (s : State) (k offset : Nat) (w : W32) : State :=
  if !s.blockServed (offset / 0x10000) then s
  else match regAt offset with
    | some (r, i) => s.writeAny k r i w
    | none => match fltWordAt offset with
      | some (b, word, i) => if offset % 4 = 0 then s.writeFlt b word i w else s
      | none => s

/-- The function whose BAR an access came through (R338). -/
def viaFn : RegVia → Option Nat
  | .dcs .pf0 _ => some 0
  | .dcs .pf1 _ => some 128
  | .dcs .mgmt _ | .dcs .firmware _ => none
  | .window f _ => some f

/-- The offset of an access. -/
def viaOffset : RegVia → Nat
  | .dcs _ o => o
  | .window _ o => o

/-- A dword write by its place. -/
def State.writeVia (s : State) (via : RegVia) (w : W32) : State :=
  match via with
  | .dcs p o => s.writeDcs (pathNum p) o w
  | .window f o =>
    if !s.windowServed f then s
    else if o < 0x10000 then match windowRegAt f o with
      | some (r, i) => s.writeAny (pfPath f) r i w
      | none => s
    else match s.windowDcs f o with
      | some d => s.writeDcs (pfPath f) d w
      | none => s

/-! ### Reads -/

/-- An RC register read on a path: its word goes out, its RC fields return to their reset value, for every path (R6, R661). -/
def State.readRc (s : State) (k : Nat) (r : Reg) (i : Nat) : State :=
  let t := s.emit (.readBack k (s.readWord k r i).toNat)
  let w := r.afterRead i (s.rg r i)
  if w = s.rg r i then t else t.setReg r i w

/-- Link ends 0 to 8 lie on the hub and the quadrants (log entry 28); their entries read zero there with those dies (R655). -/
def State.rcServed (s : State) (r : Reg) (i : Nat) : Bool :=
  match r with
  | .CHR_LINK_STAT => decide (i = 9) || s.blockServed 0
  | _ => true

/-- The element of a register that a path reaches: the path's own copy where R660 gives each path one. -/
def State.pathElem (s : State) (k : Nat) (r : Reg) (i : Nat) : Nat :=
  match r with
  | .FCH_DIE_SEL | .TRV_CTX_SEL | .LEG_SLOT_SEL | .SHB_ID_SEL | .UPD_CHAIN_SEL | .POR_CFG_SEL | .FLT_INJ_SEL | .FLT_INJ_CTL => k
  | .POR_CFG_DATA => 8 * k + s.fld F.POR_CFG_SEL_WORD k
  | _ => i

/-- A fault word as it reads (Tables 18-7 to 18-9); 0 where the block has no such instance. -/
def State.fltWord (s : State) (block word inst : Nat) : W32 :=
  if !unitOk block inst then 0#32
  else match word with
    | 0 => s.fltStatus block inst
    | 1 => s.fltMask block inst
    | _ => s.fltCtl block inst

/-- A read of DAT_TIME_LO latches DAT_TIME_HI from the same cycle (R567): [31] UNSET, [14:10] the sub-tick, [9:0] time bits 41 to 32. -/
def State.latchTime (s : State) : State :=
  let hi := BitVec.ofNat 32 (s.datumTime / 2 ^ 32 % 2 ^ 10 + s.datumCycles % 32 * 2 ^ 10 + b2n s.dat.unset * 2 ^ 31)
  { s with dat := { s.dat with hiLatch := hi } }

/-- A register read on a path, by its element: the read of DAT_TIME_LO latches DAT_TIME_HI. -/
def State.readReg (s : State) (k : Nat) (r : Reg) (i : Nat) : State :=
  (if r = .DAT_TIME_LO then s.latchTime else s).readRc k r (s.pathElem k r i)

/-- A read at a DCS offset on path `k`: an offset that names nothing, and a block not served, read zero (R9, R655). -/
def State.readDcs (s : State) (k offset : Nat) : State :=
  if !s.blockServed (offset / 0x10000) then s.emit (.readBack k 0)
  else match regAt offset with
    | some (r, i) => if s.rcServed r i then s.readReg k r i else s.emit (.readBack k 0)
    | none => match fltWordAt offset with
      | some (b, word, i) => s.emit (.readBack k (if offset % 4 = 0 then (s.fltWord b word i).toNat else 0))
      | none => s.emit (.readBack k 0)

/-- A read in a function's Gazetteer page (R341): the first dword of a record latches the record, the others come from the latch while it
holds that record, and else read the record as it stands (DESIGN CHOICE, log entry 75: R341 is silent there). -/
def State.readGaz (s : State) (f offset : Nat) : State :=
  let i := 512 * s.fld F.HST_GAZ_PAGE_PAGE f + offset / 32 % 512
  if offset % 32 = 0 then s.latchGaz f i
  else s.emit (.readBack f (le (if (s.fnOf f).gazLatch = some i then (s.fnOf f).gazCopy else (s.gaz.at i).bytes) (offset % 32) 4))

/-! ### The commands -/

/-- COMMIT (R586). -/
def execCommit (path : Path) (s : State) : Res := .next (s.commitBoard (pathNum path))

/-- ATL_STEER_WRITE (R152). -/
def execAtlSteerWrite (j : Nat) (value : BitVec 32) (s : State) : Res := .next (if j < 8 then s.writeSteer j value else s)

/-- PLT_RESERVE_WRITE (R108). -/
def execPltReserveWrite (value : BitVec 32) (s : State) : Res := .next (s.writePltReserve value)

/-- PLT_LAGS_WRITE (R109). -/
def execPltLagsWrite (value : BitVec 32) (s : State) : Res := .next (s.writePltLags value)

/-- SVY_FREE_WM_WRITE (R168). -/
def execSvyFreeWmWrite (wm : Nat) (value : BitVec 32) (s : State) : Res := .next (if wm < 3 then s.writeFreeWm wm value else s)

/-- FCH_CFG_WRITE (R254): RATE_CAP 0 and the reserved codes are out of range. -/
def execFchCfgWrite (ch : Nat) (value : BitVec 32) (s : State) : Res := .next (if ch < 128 then s.writeReg .FCH_CFG ch value else s)

/-- TRV_POLL_WRITE (R283): out of range, CFG_ERR sets on every channel. -/
def execTrvPollWrite (value : BitVec 32) (s : State) : Res := .next (s.writeReg .TRV_POLL 0 value)

/-- SHB_IND_WRITE (R306): the bay's indicator follows ATTN_HOST while HOST_OWNS is set in EMPTY or OFFERED. -/
def execShbIndWrite (bay : Nat) (value : BitVec 32) (s : State) : Res := .next (if bay < 16 then s.writeReg .SHB_IND bay value else s)

/-- MBX_VECTOR_WRITE (R344). -/
def execMbxVectorWrite (fn : Nat) (value : BitVec 32) (s : State) : Res := .next (if fn < 256 then s.writeVector fn value else s)

/-- REGISTER_WRITE (R6, R338, R340, R654): a narrow or unaligned write is ignored, with ACCESS_ERR where it came through a BAR. -/
def execRegisterWrite (via : RegVia) (bytes : Nat) (value : BitVec 32) (s : State) : Res :=
  if bytes ≠ 4 ∨ viaOffset via % 4 ≠ 0 then
    match viaFn via with
    | some f => if s.windowServed f then .next (s.event F.HST_FN_EVENTS_ACCESS_ERR f 0) else .next s
    | none => .next s
  else .next (s.writeVia via value)

/-- RC_FIELD_READ (R6, R341, R661): a register read by its place. A Gazetteer page is at 0x4000 of a function's window. -/
def execRcFieldRead (via : RegVia) (s : State) : Res :=
  match via with
  | .dcs p o => .next (s.readDcs (pathNum p) o)
  | .window f o =>
    if !s.windowServed f then .next s
    else if 0x4000 ≤ o ∧ o < 0x8000 ∧ o % 4 = 0 then .next (s.readGaz f o)
    else if o < 0x10000 then match windowRegAt f o with
      | some (r, i) => .next (s.readReg (pfPath f) r i)
      | none => .next (s.emit (.readBack (pfPath f) 0))
    else match s.windowDcs f o with
      | some d => .next (s.readDcs (pfPath f) d)
      | none => .next (s.emit (.readBack (pfPath f) 0))

/-- DAT_TIME_LO_READ (R567): DAT_TIME_HI is latched and the low 32 bits go out. -/
def execDatTimeLoRead (path : Path) (s : State) : Res :=
  if s.pwr.mode = .vault then .next (s.emit (.readBack (pathNum path) 0))
  else .next (s.latchTime.emit (.readBack (pathNum path) (s.datumTime % 2 ^ 32)))

end Sys2Proof.Machine
end

