-- ==== Sys2Proof/Machine/Stripes.lean ====
section
/-! DEFINITION. The commands of chapter 6: stripes and their journal, reconstruction and lost rows, layout changes, the reshape
sweep, evacuation. -/

set_option linter.unusedVariables false

namespace Sys2Proof.Machine

/-- STRIPE_OPEN (R191 step 1, R193): the next row of an OPEN band takes a FREE slot, at most STRIPES_IN_FLIGHT of them. -/
def execStripeOpen (band row : Nat) (s : State) : Res :=
  let x := s.bandRec band
  if x.st ≠ .opened ∨ row ≠ x.nextRow ∨ x.pages ≤ row ∨ s.fld F.PAR_CTRL_STRIPES_IN_FLIGHT 0 ≤ (s.slotsOfBand band).length then .next s
  else match s.freeJslot with
    | none => .next s
    | some k =>
      let n := x.planes * 16640
      let h : Slot := ⟨.filling, x.cls, x.wb, x.planes, band, row, x.sheets, 0, 0, x.pSheet row, x.qSheet row, 0, x.layoutGen,
        s.par.sseq + 1, List.replicate 16 0, [zeros n, []], [zeros n, []], 0, []⟩
      let s := { s with par := { s.par with sseq := s.par.sseq + 1 } }
      .next ((s.setJslot k h).setBand band { x with nextRow := row + 1 })

/-- Program operations a die still waits for: positions folded and not written, of the stripes open there. -/
def State.programsDue (s : State) (d : Nat) : Nat :=
  (s.par.slot.filter (fun e => decide (e.2.st ≠ .free ∧ e.2.band % 128 = dieGroup d) && maskBit e.2.folded (dieSheet d)
    && !maskBit e.2.written (dieSheet d))).length

/-- Program operations queued, waiting or running on a die. -/
def State.programsAt (s : State) (d : Nat) : Nat :=
  ((s.dieQueue d).filter (fun o => decide (o.kind = 1))).length + (s.plt.later.filter (fun e => decide (e.2.1 = d ∧ e.2.2.kind = 1))).length
    + ((s.runningOp d).toList.filter (fun r => decide (r.op.kind = 1))).length

/-- The program of a folded position goes to its die (R191 step 3), unless its write's admission has put it there (R85). -/
def State.pushProgram (s : State) (d : Nat) : State :=
  if s.programsDue d ≤ s.programsAt d then s
  else s.pushOp d 1 (((s.profileOf d).map Profile.tPROG).getD 0) (s.now + 64 * msTicks)

/-- The entry header as it is written (Table 06-2). -/
def Slot.header (x : Slot) : List Nat := x.head ++ bytesLe 4 x.headCrc

/-- A fold of staged IUs waits while staged IUs of a fenced DRAM region wait for their programs (R452). -/
def State.evacFirst (s : State) (from_ : List Nat) : Bool :=
  let wait := s.atl.evac.filter (fun a => match s.slotOf a with | some x => x.live && decide (x.progs = 0) | none => false)
  !from_.isEmpty && !wait.isEmpty && !from_.any wait.contains

/-- FOLD (R191 steps 2 and 4, R192): the data of a sheet's position enters the partial P and Q of the copy not current; the header
write then flips COPY and sets FOLDED. `from_` names the staging slots whose IUs it holds: their programs are in flight. -/
def execFold (slot sheet : Nat) (data : List Nat) (from_ : List Nat) (s : State) : Res :=
  let x := s.jslot slot
  if x.st ≠ .filling ∨ !x.dataSheets.contains sheet ∨ maskBit x.folded sheet = true ∨ s.evacFirst from_ = true then .next s
  else
    let c := x.copy % 2
    let p := xorBytes (x.p.getD c []) data
    let q := xorBytes (x.q.getD c []) (gfScale (gfWeight sheet) data)
    let y : Slot := { x with copy := 1 - c, p := listSet x.p (1 - c) p, q := listSet x.q (1 - c) q, folded := maskSet x.folded sheet,
                             epochs := listSet x.epochs sheet (s.dieEpochOf (128 * sheet + x.band % 128)), from_ := x.from_ ++ from_.map (fun a => (sheet, a)) }
    let y : Slot := { y with st := if y.dataSheets.all (maskBit y.folded) then .parity else .filling }
    let s := from_.foldl (fun (s : State) a => match s.slotOf a with
      | some t => s.setStage a (some { t with progs := t.progs + 1 })
      | none => s) s
    .next (((s.setJslot slot y).emit (.answer 0x090 (slot :: y.header))).pushProgram (128 * sheet + x.band % 128))

/-- PARITY_PROGRAM (R191 step 5, R213): once every folded position is WRITTEN, P and Q are programmed from the current copy on
whichever of their positions remain. -/
def execParityProgram (slot : Nat) (s : State) : Res :=
  let x := s.jslot slot
  if !(decide (x.st = .parity) || decide (x.st = .short)) || !s.dataDone x then .next s
  else
    let l := s.parityLeft x
    if l.isEmpty then .next ((s.setJslot slot Slot.reset).rowDone x.band x.row)
    else
      let y : Slot := { x with epochs := l.foldl (fun e sh => listSet e sh (s.dieEpochOf (128 * sh + x.band % 128))) x.epochs }
      let s := s.setJslot slot y
      .next (l.foldl (fun s sh =>
        let d := 128 * sh + x.band % 128
        s.pushOp d 1 (((s.profileOf d).map Profile.tPROG).getD 0) (s.now + 64 * msTicks)) s)

/-! ### Reconstruction (R197 to R204) -/

/-- RECONSTRUCT (R197, R198): `data` is what was read of the row, by sheet; `erased` are the sheets that could not be read. Up to
two erasures are rebuilt, three or more lose the row. -/
def execReconstruct (band row : Nat) (data : List (List Nat)) (erased : List Nat) (s : State) : Res :=
  let x := s.bandRec band
  let pad := x.padMask row
  let era := ((maskList x.sheets).filter (fun sh => !maskBit pad sh && (erased.contains sh || s.isErasure band row sh)))
  let dataSheets := (maskList x.sheets).filter (fun sh => !maskBit pad sh && decide (sh ≠ x.pSheet row ∧ sh ≠ x.qSheet row))
  if x.st = .free ∨ x.st = .retired then .next s
  else if 3 ≤ era.length then .next (s.rowLost band row era)
  else .next ((rebuildRow dataSheets (x.pSheet row) (x.qSheet row) data era).foldl (fun s e => s.emit (.answer 0x090 (e.1 :: e.2))) s)

/-! ### Layout, reshape, evacuation (R205 to R215) -/

/-- LAYOUT_CHANGE (R205, R208, R215): sheets that left become erasures (R201), LAYOUT_GEN rises and the sweep starts at 0; the
classes are checked again (R48) and the staging budget recomputed (R505). -/
def execLayoutChange (present usable : Nat) (s : State) : Res :=
  let u := usable % 65536 &&& present % 65536
  let gone := s.par.usable &&& (65535 - u)
  if u = s.par.usable ∧ present % 65536 = s.par.present then .next s
  else
    let s := { s with par := { s.par with present := present % 65536, usable := u } }
    let s := s.rebuildAfter (fun d => maskBit gone (dieSheet d)) gone
    .next s.layoutStep.recheck

/-- The frontier passes a band (R206): anything but a CLOSED or VICTIM band that is not current. -/
def State.passes (s : State) (b : Nat) : Bool :=
  let x := s.bandRec b
  s.current b || !(decide (x.st = .closed) || decide (x.st = .victim))

/-- The first band at or above the frontier that the sweep may take (R206): CLOSED, not current, its group with fewer than RESHAPE_WINDOW
victims there; MAP bands come first (R214). -/
def State.nextReshape (s : State) : Option Nat :=
  let f := s.par.frontier
  let l := s.svy.band.filter (fun e => decide (f ≤ e.1 ∧ e.2.st = .closed) && !s.current e.1
    && decide ((s.svy.band.filter (fun o => decide (o.1 % 128 = e.1 % 128 ∧ f ≤ o.1 ∧ o.2.st = .victim) && !s.current o.1)).length
        < s.fld F.PAR_CTRL_RESHAPE_WINDOW 0))
  match l.find? (fun e => decide (e.2.cls = 2)) with
  | some e => some e.1
  | none => l.head?.map Prod.fst

/-- One past the last band. -/
def State.lastBand (s : State) : Nat := 128 * (List.range 128).foldl (fun m g => max m (s.bandsOf g)) 0

/-- RESHAPE_ADVANCE (R206, R207, R210): the frontier passes the band it stands at, or a band needing reshape is taken to VICTIM
and its debt falls due. Past the last band the sweep is over, unless a CLOSED band still needs reshape: then it starts again. -/
def execReshapeAdvance (s : State) : Res :=
  if !s.par.sweep then .next s
  else if s.lastBand ≤ s.par.frontier then
    if s.svy.band.any (fun e => decide (e.2.st = .closed) && !s.current e.1) then .next { s with par := { s.par with frontier := 0 } }
    else .next ({ s with par := { s.par with sweep := false } }.event F.PAR_EVENTS_RESHAPE_DONE 0 0)
  else if s.passes s.par.frontier then .next { s with par := { s.par with frontier := s.par.frontier + 1 } }
  else match s.nextReshape with
    | none => .next s
    | some b =>
      let n := s.refreshUnits b 4
      let s := ((s.moveBand b { s.bandRec b with st := .victim, priced := true }).unqueue b).drainIf b
      .next { s with plt := { s.plt with debtLeft := bookTab s.plt.debtLeft (b % 128) n } }

/-- Steps 1 to 4 of an evacuation (R212): the sheet becomes unusable and leaves the layout, its OPEN bands close, two checkpoint passes put the
map and the spilled journal on bands without it, the HOLDUP reserve is rebuilt with the layout. -/
def State.leaveSheet (s : State) (sheet : Nat) : State :=
  let s := { s with par := { s.par with usable := maskClear s.par.usable sheet } }
  let s := (s.layoutStep.rebuildAfter (fun d => decide (dieSheet d = sheet)) (2 ^ sheet)).spillAll
  let s := { s with atl := { s.atl with durable := s.atl.ent.filter (fun e => !(s.segOf (segOfIu e.1)).discarded) } }
  let s := s.mapPass.mapPass
  { s with atl := { s.atl with ckptNext := 0, ckptAt := s.now, ckptBehind := false } }

/-- Bands of the HOLDUP reserve are being erased. -/
def State.reserveErasing (s : State) : Bool := (List.range 128).any (fun g => (s.holdBands g).any (fun e => decide (e.2.st = .erasing)))

/-- EVACUATION (R212): its steps, and once the rebuilt HOLDUP reserve has been erased EVAC_DONE; the bay then powers the sheet off. -/
def execEvacuation (sheet : Nat) (s : State) : Res :=
  if s.par.evac ≠ some sheet then .next s
  else
    let s := if maskBit s.par.usable sheet then s.leaveSheet sheet else s
    if s.reserveErasing then .next s.recheck
    else
      let s := ({ s with par := { s.par with evac := none } } : State).event F.PAR_EVENTS_EVAC_DONE 0 sheet
      .next ((if (s.bay sheet).st = .evacuating then s.toBay sheet .poweringOff else s).recheck)

end Sys2Proof.Machine
end

