-- ==== Sys2Proof/Machine/Survey.lean ====
section
/-! DEFINITION. Survey (chapter 21): SURVEY_START (0x0701), tests due, the reference window, the end of a test with its repairs and
verdict, re-qualification (R548). The agents are the Chartroom core and Surveyor firmware. -/

set_option linter.unusedVariables false

namespace Sys2Proof.Machine

/-- Tests of a unit kind (Table 21-2); none: not tested. -/
def testsOf (block : Nat) : List Nat :=
  match block with
  | 0x020 | 0x030 | 0x040 | 0x050 | 0x0A2 | 0x0B0 | 0x080 | 0x090 | 0x010 | 0x081 | 0x0E0 => [0, 1, 2]
  | 0x0A0 | 0x0A1 => [0, 1, 2, 5]
  | 0x070 => [0, 1, 4]
  | 0x060 => [0, 1]
  | 0x0D0 => [0, 1, 2, 3]
  | _ => []

/-- Kinds tested in service (Table 21-2). -/
def inService (block : Nat) : Bool := decide (block ≠ 0x010 ∧ block ≠ 0x081 ∧ block ≠ 0x0E0 ∧ block ≠ 0x0D0)

/-- A test, a unit reset or another request has the instance in hand (R618). -/
def State.inHand (s : State) (block inst : Nat) : Bool :=
  (s.srv.running ++ s.srv.queued).any (fun t => decide (t.block = block ∧ t.inst = inst)) || (s.unit block inst).requal.isSome

/-- DRAM_MARCH runs only while the channel or a region of it is fenced (Table 21-2). -/
def State.marchOk (s : State) (block inst test : Nat) : Bool :=
  decide (test ≠ 4) || s.fenced block inst || !(s.dramCh inst).regions.isEmpty

/-- Isolation leaves the work a carrier (R609). -/
def State.carried (s : State) (block inst : Nat) : Bool := s.fenced block inst || !isolates block || s.hasSibling block inst

/-- A test joins the queue and starts where it may. -/
def State.queueTest (s : State) (t : Test) : State := ({ s with srv := { s.srv with queued := s.srv.queued ++ [t] } } : State).startQueued

/-- SURVEY_START (0x0701, R607, R609, R610, R618): `conditions` is the voltage check, `sibling` that the work can be moved now. -/
def execSurveyStart (q : MbxReq) (conditions sibling : Bool) (s : State) : Res :=
  .next (s.serve q ⟨0x0701, 2, false, 6, 6, true⟩ (fun s =>
    let b := le q.payload 0 2
    let i := le q.payload 2 2
    let test := q.payload.getD 4 0
    let opts := q.payload.getD 5 0
    if !unitOk b i then s.refuse q 0x0701 Ms.unknownUnit
    else if !(testsOf b).contains test || decide (2 ≤ opts) || !s.marchOk b i test then s.refuse q 0x0701 Ms.invalidField
    else if s.plt.drain then s.refuse q 0x0701 Ms.mode
    else if s.inHand b i then s.refuse q 0x0701 Ms.busy
    else if !inService b || !s.carried b i || (!sibling && isolates b && !s.fenced b i) then s.refuse q 0x0701 Ms.noSibling
    else if !conditions || !s.refOk then s.refuse q 0x0701 Ms.testConditions
    else
      let l := s.toService.startLong q 0x0701 []
      l.2.queueTest ⟨b, i, test, opts, some l.1, false, false⟩))

/-- REFERENCE_WINDOW_END (R610). -/
def execReferenceWindowEnd (count : Nat) (s : State) : Res := .next { s with srv := { s.srv with refLast := count } }

/-- Frames in an hour. -/
def hourFrames : Nat := 3600000

/-- Frames since an instance's last passed test (R619). -/
def State.sinceTest (s : State) (block inst : Nat) : Nat := s.plt.frame - (tabGet (fun _ => 0) s.srv.passed (unitKey block inst) - 1)

/-- IN_SERVICE_TEST_DUE (R619): after PERIOD_H hours a FULL test is queued; after 24 it takes the forced slot, ahead of the others. -/
def execInServiceTestDue (block inst : Nat) (s : State) : Res :=
  let n := s.sinceTest block inst
  if !unitOk block inst ∨ testsOf block = [] ∨ inService block = false ∨ s.hubOn = false ∨ s.carried block inst = false
      ∨ n < s.fld F.SRV_CFG_PERIOD_H 0 * hourFrames then .next s
  else
    let forced := decide (24 * hourFrames ≤ n)
    let mine := fun (t : Test) => decide (t.block = block ∧ t.inst = inst)
    if forced then
      let old := (s.srv.queued.find? mine).getD ⟨block, inst, 0, 0, none, false, false⟩
      if s.srv.running.any mine then .next s
      else
        let s := { s with srv := { s.srv with queued := { old with forced := true } :: s.srv.queued.filter (fun t => !mine t), forcedPending := true } }
        .next s.startQueued
    else if s.inHand block inst then .next s
    else .next (s.queueTest ⟨block, inst, 0, 0, none, false, false⟩)

/-! ### The end of a test -/

/-- The die of the package that holds an instance's macros (Table 01-1): 0 hub, 1 to 4 quadrants, 5 Chartroom. -/
def packageDie (block inst : Nat) : Nat :=
  match block with
  | 0x0A0 | 0x0A1 => 1 + inst / 32
  | 0x0A2 => 1 + inst / 128
  | 0x0B0 => 1 + inst / 64
  | 0x0C0 | 0x0E0 => 5
  | _ => 0

def State.fusesUsed (s : State) (d : Nat) : Nat := tabGet (fun _ => 0) s.srv.fuses d

/-- Repairs in force (R614, R615): each new one is burnt where OPTIONS asks for it, the test has passed and entries are left; others stay
soft. -/
def State.repairs (s : State) (t : Test) (r : TestResult) (pass : Bool) : State :=
  if r.repairs = 0 then s
  else
    let s := s.event F.SRV_EVENTS_REPAIRED 0 0
    let d := packageDie t.block t.inst
    let left := 512 - s.fusesUsed d
    let want := t.opts % 2 = 1 ∧ pass
    let burn := if want then min left r.repairs else 0
    let s := if want ∧ left ≤ r.repairs then s.event F.SRV_EVENTS_FUSES_FULL 0 d else s
    let s := if 0 < burn ∧ r.burnFail then s.event F.SRV_EVENTS_FUSE_FAIL 0 d else s
    let done := if r.burnFail then 0 else burn
    { s with srv := { s.srv with fuses := tabSet (fun _ => 0) s.srv.fuses d (s.fusesUsed d + done),
                                 soft := satAdd 65535 s.srv.soft (r.repairs - done) } }

/-- Retired tiles that pass join pool 0 (R440, R616). -/
def State.tilesReturn (s : State) : State :=
  let l := (s.til.tile.filter (fun e => decide (e.2.st = .retired))).map Prod.fst
  match s.til.pool[0]? with
  | none => s
  | some p =>
    let tiles := l.foldl (fun t k => tabSet (fun _ => (⟨.free, false, 0, 0⟩ : Tile)) t k ⟨.free, false, 0, 0⟩)
      (s.til.tile.filter (fun e => decide (e.2.st ≠ .retired)))
    let s := { s with til := { s.til with tile := tiles, retired := 0 } }
    let s := s.setFld F.TIL_POOL_TGT_TARGET 0 (s.fld F.TIL_POOL_TGT_TARGET 0 + l.length)
    s.setTPool 0 { p with size := p.size + l.length, target := p.target + l.length, free := p.free ++ l }

/-- What a verdict of an in-service test means for its unit (R613, R617, R618). -/
def State.verdict (s : State) (t : Test) (pass : Bool) : State :=
  let was := s.fenced t.block t.inst
  let s := if was then s else (s.unisolate t.block t.inst).returnHome t.block t.inst
  if pass then
    let s := { s with srv := { s.srv with passed := tabSet (fun _ => 0) s.srv.passed (unitKey t.block t.inst) (s.plt.frame + 1) } }
    let s := if t.block = 0x060 then s.tilesReturn else s
    if t.block = 0x070 ∧ (t.test = 4 ∨ t.test = 0) ∧ (s.dramCh t.inst).regions ≠ [] then
      s.setDram t.inst { s.dramCh t.inst with returning := true }
    else s
  else if was then s
  else s.raiseAt t.block t.inst 0x15 0

/-- The verdict of a re-qualification (R548 steps 4 and 5); the indication is released when its link is idle (R546), by FENCE_IND_RELEASE. -/
def State.requalified (s : State) (t : Test) (pass : Bool) : State :=
  let u := s.unit t.block t.inst
  let s := s.setUnit t.block t.inst { u with requal := none, requalBad := false }
  let s := s.unisolate t.block t.inst
  if pass then
    let u := s.unit t.block t.inst
    let s := s.setUnit t.block t.inst { u with fenced := false, causes := [] }
    let s := { s with srv := { s.srv with passed := tabSet (fun _ => 0) s.srv.passed (unitKey t.block t.inst) (s.plt.frame + 1) } }
    let s := if t.block = 0x0A0 then (s.setChan t.inst { s.chan t.inst with trained := false }).layoutStep else s
    (s.returnHome t.block t.inst).record t.block t.inst 0 (Config.recordCode 9) 1
  else s.raiseAt t.block t.inst 0x15 0

/-- TEST_END (R611, R613 to R615): with a failed end condition no verdict and the test queued again; else the signature is judged. -/
def execTestEnd (block inst : Nat) (r : TestResult) (s : State) : Res :=
  match s.srv.running.find? (fun t => decide (t.block = block ∧ t.inst = inst)) with
  | none => .next s
  | some t =>
    if !r.conditions then
      if t.requal then
        let s := { s with srv := { s.srv with running := s.srv.running.filter (fun x => decide (x ≠ t)), queued := s.srv.queued ++ [t] } }
        .next (((s.lastTest t 3 0).event F.SRV_EVENTS_ABORTED 0 0).startQueued)
      else .next (s.abortTest t Ms.testConditions).startQueued
    else
      let pass := decide (r.signature = r.golden) && !(t.requal && (s.unit block inst).requalBad)
      let s := { s with srv := { s.srv with running := s.srv.running.filter (fun x => decide (x ≠ t)) } }
      let s := (s.repairs t r pass).lastTest t (if pass then 1 else 2) r.signature
      let s := s.event F.SRV_EVENTS_TEST_DONE 0 0
      let s := if pass then s else s.event F.SRV_EVENTS_TEST_FAIL 0 0
      let s := if t.requal then (s.requalified t pass).opDone t.handle Ms.success [b2n pass]
        else (s.verdict t pass).opDone t.handle Ms.success (bytesLe 8 r.signature ++ bytesLe 8 r.golden ++ bytesLe 2 r.repairs)
      .next s.startQueued

end Sys2Proof.Machine
end

