-- ==== Sys2Proof/Machine/Startup.lean ====
section
/-! DEFINITION. Device resets and start-up (chapter 24), boot selection and confirmation (R601 to R604), the test port (R481).
START_UP carries the start-up as far as it can go: steps 1 to 8 and the start of step 9, then, once no bay is still being brought up,
steps 10 to 12 (log entry 29). -/

set_option linter.unusedVariables false

namespace Sys2Proof.Machine

/-! ### Structures read at step 1 (R584, R586, Table 20-5) -/

/-- The board configuration record while it is absent. -/
def boardDefault : List Nat :=
  [4, 0, 0, 0x1D, 5, 3] ++ bytesLe 2 25 ++ (List.range 8).flatMap (fun p => bytesLe 2 (tilePoolReset p)) ++ bytesLe 2 100 ++ zeros 6

/-- The board configuration record in force, its defaults where it is absent. -/
def State.board (s : State) : List Nat :=
  match s.currentCopy 0x1000 4096 with
  | some a => s.storeBytes (a + 16) 32
  | none => boardDefault

/-- Step 1: the configuration copies are read; those of the structures held in the store are repaired or recorded as absent. -/
def State.readCopies (s : State) : State := ((s.checkCopy 0x1000 4096).checkCopy profOff profSize).checkCopy 0x50000 0x10000

/-- The tile pools take the record's targets (R433). -/
def State.boardTiles (s : State) (b : List Nat) : State :=
  let tgt := fun p => le b (8 + 2 * p) 2
  if (List.range 8).all (fun p => decide (tgt p = tilePoolReset p)) then s
  else
    let s := (List.range 8).foldl (fun (s : State) p => s.setFld F.TIL_POOL_TGT_TARGET p (tgt p)) s
    s.applyTargets

/-- The record's values apply (R586): window sizes, the bus, the relay, spares, tile targets, and POR_CFG_DATA on every path. -/
def State.applyBoard (s : State) (b : List Nat) : State :=
  let s := (List.range 256).foldl (fun (s : State) f =>
    let w := if f % 128 = 0 then b.getD 0 0 else b.getD 1 0
    let s := s.setFld F.HST_FN_INFO_WIN_SIZE f w
    if f % 128 = 0 then s.setFld F.HST_FN_INFO_DCS_WINDOWS f (2 ^ w - 1) else s) s
  let s := { s with mgmt := { s.mgmt with i3c := decide (b.getD 2 0 % 2 = 1), addr := b.getD 3 0 } }
  let s := (s.setFld F.UPD_RELAY_CFG_FOLLOW 0 (b.getD 5 0 % 2)).setFld F.UPD_RELAY_CFG_DN_ENABLE 0 (b.getD 5 0 / 2 % 2)
  -- SPARE_PERMILLE is set at a first boot (Table 05-11); a later start-up keeps what that one set
  let s := (if s.svy.spareSet then s.setFld F.SVY_UPKEEP_CFG_SPARE_PERMILLE 0 s.svy.sparePermille else
    s.setFld F.SVY_UPKEEP_CFG_SPARE_PERMILLE 0 (le b 6 2)).boardTiles b
  (List.range 32).foldl (fun (s : State) k => s.setReg .POR_CFG_DATA k (BitVec.ofNat 32 (le b (4 * (k % 8)) 4))) s

/-! ### Boot selection (R601 to R604) -/

/-- The minimum security version: the 1 bits of the Cartouche SVN (Table 20-4). -/
def State.svn (s : State) : Nat := countBelow 256 (fun k => decide (s.otpByte (416 + k / 8) / 2 ^ (k % 8) % 2 = 1))

/-- VERIFY of a slot (R603): header, digest and versions from the store, whether the signature verifies from outside. -/
def State.verifies (s : State) (env : StartEnv) (n : Nat) : Bool :=
  let b := slotBase n
  env.signed.contains n && decide (s.storeBytes b 4 = [0x4B, 0x49, 0x4D, 0x47]) && decide (s.storeLe (b + 4) 2 = 1)
    && Config.digestOk (s.storeBytes b (s.storeLe (b + 8) 4)) && (s.storeBytes (b + 24) 4).contains 0xB1
    && decide (s.storeLe (b + 28) 2 ≤ Config.chrRomVer)
    && decide (s.storeLe (b + 30) 2 ≤ Config.configLayout ∧ Config.configLayout ≤ s.storeLe (b + 32) 2)
    && decide (s.svn ≤ s.storeLe (b + 20) 4)

/-- The first slot of a list that is complete and passes VERIFY; complete ones that fail are marked, with a record each. -/
def State.firstBoot (s : State) (env : StartEnv) : List Nat → State × Option Nat
  | [] => (s, none)
  | n :: rest =>
    if (s.bootSlot n).st ≠ 2 then s.firstBoot env rest
    else if s.verifies env n then (s, some n)
    else ((s.setBootSlot n { s.bootSlot n with st := 3 }).record 0x0E5 n 0 (Config.recordCode 6) n).firstBoot env rest

/-- PRIMARY, PREVIOUS, the remaining slot. -/
def State.bootOrder (s : State) : List Nat := (([s.por.primary, s.por.previous, 0, 1, 2]).eraseDups).filter (fun n => decide (n < 3))

/-- SELECT (R601): the slot booted, or ROM recovery. -/
def State.select (s : State) (env : StartEnv) : State :=
  let r := s.firstBoot env s.bootOrder
  let s := r.1
  match r.2 with
  | some n =>
    if n = s.por.primary then { s with por := { s.por with booted := n, lastBoot := false } }
    else
      let p := { s.por with booted := n, lastBoot := true, previous := s.por.primary, primary := n, trial := false }
      ({ s with por := p } : State).event F.UPD_EVENTS_FALLBACK 0 0
  | none => { s with por := { s.por with booted := 3 } }

/-- ROM recovery (R604): the hub and the quadrants stay off; DORMANT is what is reported. -/
def State.toRomRecovery (s : State) : State :=
  let s := s.toMode .dormant
  { s with start := { s.start with running := false, step := 0 }, por := { s.por with booted := 3 } }

/-- A schedule found in the boot record (R602). -/
def State.bootSched (s : State) : State :=
  match s.por.sched with
  | none => s
  | some x =>
    if s.dat.unset ∨ x.t ≤ s.datumTime then
      { s with por := { s.por with primary := x.slot, previous := s.por.primary, trial := true, sched := none } }
    else { s with por := { s.por with sched := some { x with due := drainAt x.t x.drainMs } } }

/-! ### DRAM, firmware, Survey, Contour, bays: steps 3 to 9 -/

/-- Step 3 (R442, R453): the trained configuration; a channel that fails training is fenced; fenced regions that pass their march
return at the next reset (R617). -/
def State.trainDram (s : State) (env : StartEnv) (limit : Nat) : State :=
  let s := (s.setFld F.DRC_CFG_GIB_PER_CH 0 env.dramGib).setFld F.DRC_CFG_RANKS 0 env.dramRanks
  let s := (s.setFld F.DRC_CFG_WIDTH 0 env.dramWidth).setFld F.DRC_CFG_RATE 0 (min limit env.dramRate)
  (List.range 12).foldl (fun (s : State) n =>
    let x := s.dramCh n
    let s := s.setDram n { x with trained := maskBit env.channels n, selfRef := false,
                                  returning := env.marched.contains n && !x.regions.isEmpty }
    if maskBit env.channels n then s else s.raiseAt 0x070 n 0x0E 0) s

/-- Patch RAM with both its segments loaded (R266, R267): 512 words from address 0xE00; one the image does not give is 0 (DESIGN CHOICE, log
entry 72). -/
def patchRam (ws : List (BitVec 128)) : Tab (BitVec 128) :=
  ((List.range 512).zip ws).foldl (fun t e => tabSet (fun _ => 0#128) t e.1 e.2) []

/-- The entries of a redirect table that can be valid (R267): at most 16, of ROM addresses, PATCH_ADDR in patch RAM. -/
def redirectsOf (l : List (Nat × Nat)) : List (Nat × Nat) :=
  (l.take 16).filter (fun e => decide (e.1 < 0x1000 ∧ 0xE00 ≤ e.2 ∧ e.2 < 0x1000))

/-- Step 5, patches of one kind (R267 to R269): loaded, or passed over where they name another ROM version. LOCKED sets also where nothing is
loaded (DESIGN CHOICE, log entry 73: the rule says only 'after loading'). -/
def State.loadPatch (s : State) (k : Nat) (p : Option Patch) : State :=
  let build := s.fwVersion % 4096
  let put := fun (s : State) u => { s with trv := { s.trv with ucode := tabSet (fun _ => Ucode.reset) s.trv.ucode k u } }
  match p with
  | some p => if p.romOk then put s ⟨p.ver, true, false, s.por.booted, build, patchRam p.ram, redirectsOf p.redirects⟩
    else (put s ⟨0, true, true, 3, 0, [], []⟩).record 0x0E5 0 0 (Config.recordCode 7) k
  | none => put s ⟨0, true, false, 3, 0, [], []⟩

/-- Step 5: patch RAM and the redirect tables, then START_UP (Table 19-5). -/
def State.startFirmware (s : State) (env : StartEnv) : State :=
  let s := (List.range 6).foldl (fun (s : State) k => s.loadPatch k (env.patches.find? (fun p => decide (p.kind = k)))) s
  s.record 0x0E6 0 0 0x0004 (s.pwr.mode.code + s.start.kind * 2 ^ 8)

/-- Step 6: units that fail the bring-up Survey are fenced again (R543, R613). -/
def State.bringUpSurvey (s : State) (env : StartEnv) : State :=
  (env.failed.filter (fun u => unitOk u.1 u.2 && decide (u.1 ≠ 0x0A0 ∧ u.1 ≠ 0x070))).foldl (fun (s : State) u => s.raiseAt u.1 u.2 0x15 0) s

/-- Step 9 begins (R668, R321): bays whose presence has held wait for power; soldered sets show as OFFERED. -/
def State.startBays (s : State) : State :=
  (List.range 16).foldl (fun (s : State) b =>
    let x := s.bay b
    if s.soldered then s.setBay b { x with st := .offered }
    else if x.level ∧ (x.st = .empty ∨ x.st = .debounce) then
      ((if x.st = .empty then s.toBay b .debounce else s).setBay b { (if x.st = .empty then s.toBay b .debounce else s).bay b with present := true, edgeAt := none }).toBay b .waitPower
    else s) s

/-- A step of start-up has ended. -/
def State.atStep (s : State) (n : Nat) : State := { s with start := { s.start with step := n } }

/-- A lockout that VBAT's loss cut short starts its hour again (R484). -/
def State.lockAgain (s : State) : State :=
  if s.cip.lockAgain then { s with cip := { s.cip with lockFrom := some s.now, lockAgain := false } } else s

/-- Step 8 begins: the test waits for a steady bank (R502). -/
def State.startCapTest (s : State) : State := { s with pwr := { s.pwr with test := { s.pwr.test with phase := .steady } } }

/-- Step 3, or for an activation restart that keeps DRAM_LAYOUT the end of self-refresh (R671). -/
def State.startDram (s : State) (env : StartEnv) (limit : Nat) : State :=
  if s.start.keepMap then { s with dram := s.dram.map (fun (e : Nat × Dram) => (e.1, { e.2 with selfRef := false })) }
  else s.trainDram env limit

/-- Steps 3 and 5 to 8, and 9 begun, of an image that boots; its REPORT goes upstream (R604). -/
def State.startImage (s : State) (env : StartEnv) (limit : Nat) : State :=
  let s := { s with start := { s.start with bootAt := s.now } }
  let s := (s.startDram env limit).atStep 4
  let s := (s.startFirmware env).bringUpSurvey env
  let s := ((s.contourStart env.diodes).startCapTest.atStep 8).startBays
  s.report 1 (b2n s.por.lastBoot) (s.bootSlot s.por.booted).imageId s.por.booted s.fwVersion

/-- Steps 1 to 8, and 9 begun. -/
def State.startEarly (s : State) (env : StartEnv) : State :=
  let s := s.lockAgain.readCopies
  let b := s.board
  let s := s.applyBoard b
  if !env.cartouche then s.toRomRecovery
  else
    let s := s.bootSched.select env
    if s.por.booted = 3 then s.toRomRecovery else s.startImage env (b.getD 4 0)

/-! ### First boot (R670) -/

/-- The footer scan reads the footer of a band on its lowest-numbered present member (R669). Footers are this device's own, sealed under its
MK, so that what the scan reads authenticates (log entry 62). -/
def State.footerRead (s : State) (b : Nat) : Bool :=
  (tabGet (fun _ => none) s.svy.footer b).any (fun f => (maskList f.2.sheets).any (fun sh => s.dieLive (128 * sh + b % 128)))

/-- The footer scan finds no footer that authenticates: a first boot (R669). -/
def State.isFirstBoot (s : State) : Bool := !s.svy.footer.any (fun e => s.footerRead e.1)

/-- One band built (R154): bad members, of every die present, take spares, and the band is to be erased; one without a good spare is RETIRED.
-/
def State.buildBand (s : State) (g k : Nat) : State :=
  let b := 128 * k + g
  let sheets := s.groupSheets g
  let s := s.setBand b { Band.reset with st := .erasing, erasing := sheets, sheets := sheets, wb := s.width g }
  match s.fitMembers b with
  | some t => t
  | none => s.retireBand b

/-- The HOLDUP reserve of a group at first boot (R501, R670 step 2): its bands, the lowest-numbered of the unworn ones, are erased within the step,
each member counted (R159), and become FREE as their erases pass (R158). -/
def State.buildReserve (s : State) (g : Nat) : State :=
  if s.width g < 4 then s
  else ((List.range (s.bandsOf g)).filter (fun k => decide ((s.bandRec (128 * k + g)).st = .erasing))).take 2 |>.foldl (fun (s : State × Nat) k =>
    let b := 128 * k + g
    let x := s.1.fitted b 3
    let t := s.1.moveBand b { x with st := .erasing, erasing := x.sheets, hset := s.2 }
    ((maskList x.sheets).foldl (fun s sh => s.erasePassed b sh) t, s.2 + 1)) (s, 0) |>.1

/-- Spare blocks that are factory bad are no spares (R154). -/
def State.dropBadSpares (s : State) (d : Nat) : State :=
  let bad := tabGet (fun _ => []) s.svy.bad d
  if bad.isEmpty then s else s.setSpares d ((s.sparesOf d).filter (fun k => !bad.contains k))

/-- Step 6 of a first boot marches every region; one that fails is fenced (R670, R452). -/
def State.marchAll (s : State) (env : StartEnv) : State :=
  (env.marchFails.filter (fun e => decide (e.1 < 12))).foldl (fun (s : State) e =>
    if (s.dramCh e.1).regions.contains e.2 then s
    else s.setDram e.1 { s.dramCh e.1 with regions := e.2 :: (s.dramCh e.1).regions }) s

/-- What a first boot begins from: no bands, no footers, no pools and an empty map; no dump is replayed (R670). -/
def State.blank (s : State) : State :=
  { s with svy := { s.svy with band := [], spares := [], refreshQ := [], footer := [], saved := [] },
           atl := Atlas.reset, par := { s.par with slot := [] }, pwr := { s.pwr with writtenSet := none, armedSet := 0, eraseSet := none, stagingUse := 0 } }

/-- The first boot: the bad-block table, the bands, the layout record; the erases are booked as debt; MAP_READY with no pools. -/
def State.firstBootSteps (s : State) (env : StartEnv) : State :=
  let s := s.blank.marchAll env
  let bad := env.badBlocks.foldl (fun t e => tabSet (fun _ => []) t e.1 (tabGet (fun _ => []) t e.1 ++ [e.2])) s.svy.bad
  let s := { s with svy := { s.svy with bad := bad, openSeq := 0 } }
  let s := (bad.map Prod.fst).foldl (fun (s : State) d => s.dropBadSpares d) s
  let s := (List.range 128).foldl (fun (s : State) g =>
    let n := s.bandsOf g
    let tb := maxOf (s.members g) (fun m => m.2.tBERS)
    let s := ((List.range n).foldl (fun (s : State) k => s.buildBand g k) s).buildReserve g
    s.owe g ((n - (if 4 ≤ s.width g then 2 else 0)) * s.width g * tb)) s
  { s with par := { s.par with layoutGen := 0, frontier := 0, sweep := false,
                               groups := (List.range 128).foldl (fun t g => tabSet (fun _ => 0) t g (s.groupSheets g)) [] },
           svy := { s.svy with spareSet := true, sparePermille := s.fld F.SVY_UPKEEP_CFG_SPARE_PERMILLE 0 } }

/-! ### Replay (R194, R500, R501): step 11 -/

/-- A slot of the dump that is corrupt (R194 rule 1): its row has no parity. -/
def State.dropParity (s : State) (k : Nat) : State :=
  let x := s.jslot k
  let b := s.bandRec x.band
  let data := (maskList x.sheets).filter (fun sh => decide (sh ≠ x.pSheet ∧ sh ≠ x.qSheet))
  let pad := data.foldl (fun m sh => if maskBit x.written sh then m else maskSet m sh) 0
  let s := s.setBand x.band { b with short := (x.row, pad, maskSet (maskSet 0 x.pSheet) x.qSheet) :: b.short }
  (s.setJslot k Slot.reset).event F.PAR_EVENTS_JRNL_CORRUPT 0 k

/-- A position of a row is programmed by start-up itself (R194 steps 2 and 4): the answer names the die and the row. -/
def State.programNow (s : State) (b row sh : Nat) : State := s.emit (.die (128 * sh + b % 128) 8 row)

/-- One slot of the dump replayed (R194 rules 2 to 4): a FILLING one is closed short; folded positions not written are programmed from the dumped
staging copies and WRITTEN; P and Q are programmed; the slot is freed. -/
def State.replaySlot (s : State) (k : Nat) : State :=
  let s := s.closeShort k 0
  let x := s.jslot k
  let due := x.dataSheets.filter (fun sh => maskBit x.folded sh && !maskBit x.written sh)
  let s := s.setJslot k { x with written := due.foldl maskSet x.written }
  let s := (due ++ s.parityLeft x).foldl (fun s sh => s.programNow x.band x.row sh) s
  (s.setJslot k Slot.reset).rowDone x.band x.row

/-- The journal's slots are replayed and freed: one whose CRC fails or whose STATE is reserved is discarded (R194 rule 1); `corrupt` names those
whose dumped bytes are damaged. -/
def State.replayJournal (s : State) (env : StartEnv) : State :=
  s.par.slot.foldl (fun (s : State) e =>
    let x := s.jslot e.1
    if x.st = .free then s
    else if env.corrupt.contains e.1 ∨ x.st = .reserved ∨ x.crc ≠ x.headCrc then s.dropParity e.1
    else s.replaySlot e.1) s

/-- The set the dump was written into, its contents applied, passes DRAINED and is to be erased; the other is armed (R501, Table 05-2). -/
def State.swapReserve (s : State) (set : Nat) : State :=
  let s := { s with pwr := { s.pwr with armedSet := 1 - set, writtenSet := none, eraseSet := some set } }
  (List.range 128).foldl (fun (s : State) g => match s.holdBand g set with
    | some e => (s.drainBand e.1).startErase e.1
    | none => s) s

/-- The dump record found at start-up (R500): HOLDUP on every function and in PWR_EVENTS, DUMP_INCOMPLETE. -/
def State.noteDump (s : State) : State :=
  match s.pwr.writtenSet, s.pwr.dumps.head? with
  | some set, some d =>
    let s := s.event F.PWR_EVENTS_HOLDUP 0 0
    let s := if d.complete then s else s.event F.PWR_EVENTS_DUMP_INCOMPLETE 0 0
    let s := (List.range 256).foldl (fun (s : State) f => s.promise f F.HST_PROMISE_EVENTS_HOLDUP) s
    s.swapReserve set
  | _, _ => s

/-! ### Steps 10 to 12 -/

/-- MAP_READY sets, and CSTS.RDY of the enabled controllers with it (R147, R359). -/
def State.setMapReady (s : State) : State :=
  { s with atl := { s.atl with mapReady := true },
           ctls := s.ctls.map (fun (e : Nat × Ctl) => (e.1, { e.2 with rdy := e.2.rdy || (e.2.en && !e.2.cfs) })) }

/-- No bay is still being brought up (R673). -/
def State.baysSettled (s : State) : Bool :=
  s.soldered || s.bays.all (fun e => decide (e.2.st ≠ .waitPower ∧ e.2.st ≠ .powering ∧ e.2.st ≠ .identify ∧ e.2.st ≠ .discover))

/-- The sheet held in a bay is the one recorded for it (R668). -/
def State.isRecorded (s : State) (b : Nat) : Bool := decide ((s.bay b).st = .held) && decide (s.recorded b = some (s.serialOf b))

/-- A recorded sheet found in its bay (R668): it takes its old place without a change of LAYOUT_GEN, or goes on with the evacuation that was
cut short (R320). -/
def State.foundSheet (s : State) (b : Nat) : State :=
  if s.isRecorded b = false then s
  else if s.par.evac = some b then { (s.toBay b .evacuating) with par := { s.par with present := maskSet s.par.present b } }
  else (s.toBay b .offered).joinSheet b

/-- Another sheet in a bay (R668): the one recorded has been removed by surprise, and this one is offered as an insertion. -/
def State.otherSheet (s : State) (recorded : List Nat) (b : Nat) : State :=
  if (s.bay b).st ≠ .held then s
  else (if recorded.contains b then s.recordedGone b else s).offerBay b

/-- A recorded sheet that is not there, or that was rejected, has been removed by surprise (R668, R320). -/
def State.missingSheet (s : State) (b : Nat) : State :=
  if maskBit s.par.usable b ∨ (s.bay b).st = .evacuating ∨ (s.bay b).st = .held then s
  else if (s.bay b).present then s.recordedGone b
  else
    let s := (s.event F.SHB_EVENTS_SURPRISE b 0).sheetLost b
    if s.soldered then s else s.toBay b .empty

/-- Step 9 ends (R668, R321): the recorded sheets found take their places first, since every later change of the layout writes its record
again; then come the other sheets, and what is missing. -/
def State.endBays (s : State) : State :=
  let recorded := s.par.serials.map Prod.fst
  let s := (List.range 16).foldl (fun (s : State) b =>
    if s.soldered then (if s.trainedDies b = 0 then s else s.joinSheet b) else s.foundSheet b) s
  let s := if s.soldered then s else (List.range 16).foldl (fun s b => s.otherSheet recorded b) s
  recorded.foldl State.missingSheet s

/-- Bands in ERASING have their members erased again (R249). -/
def State.restartErases (s : State) : State :=
  s.svy.band.foldl (fun (s : State) e =>
    if e.2.st ≠ .erasing then s
    else
      let l := (maskList e.2.erasing).filter (s.usableFor (e.1 % 128))
      let s := s.setBand e.1 { e.2 with erasing := l.foldl maskSet 0 }
      if l.isEmpty then s.freeUp e.1 else l.foldl (fun s sh => s.pushErase (128 * sh + e.1 % 128)) s) s

/-- Valid counts follow from the map as restored (R130), and what has none is DRAINED; the refresh queue keeps the bands whose records name a
reason, and their debt falls due again. -/
def State.recount (s : State) : State :=
  let s := { s with svy := { s.svy with band := s.svy.band.map (fun (e : Nat × Band) => (e.1, { e.2 with valid := 0 })) } }
  let s := s.atl.ent.foldl (fun (s : State) e =>
    if e.2.st = .mapped then s.validUp e.2.addr (s.iuUnits e.1) else s) s
  let s := s.svy.band.foldl (fun (s : State) e => s.drainIf e.1) s
  let q := s.svy.refreshQ.filter (fun b => decide (((s.bandRec b).st = .closed ∨ (s.bandRec b).st = .opened) ∧ (s.bandRec b).reason ≠ 0))
  q.foldl (fun (s : State) b => s.oweBand b (s.refreshUnits b (s.bandRec b).reason)) { s with svy := { s.svy with refreshQ := q } }

/-- Steps 10 to 12. After an activation restart ACTIVATION sets on every function (Table 24-2). -/
def State.startLate (s : State) (env : StartEnv) : State :=
  let s := s.endBays
  let first := !s.start.keepMap && s.isFirstBoot
  let s := if first then s.firstBootSteps env else (s.restartErases.replayJournal env).noteDump.recount.reoweRekeys
  let s := { s with par := { s.par with replayDone := true }, pwr := { s.pwr with stageEpoch := s.pwr.stageEpoch + 1 } }
  let s := if s.start.kind = 5 then (List.range 256).foldl (fun (s : State) f => s.promise f F.HST_PROMISE_EVENTS_ACTIVATION) s else s
  let s := s.setMapReady.recheck
  { s with start := { s.start with step := 12 } }

/-! ### Confirmation (R601) -/

/-- An image's profile record takes its place among those stored: over the record of the same PROFILE_ID with a lower
PROFILE_REV, or behind them all. -/
def mergeProfile (l : List (List Nat)) (r : List Nat) : List (List Nat) :=
  if l.any (fun x => decide (le x 4 2 = le r 4 2)) then
    l.map (fun x => if le x 4 2 = le r 4 2 ∧ le x 6 2 < le r 6 2 then r else x)
  else l ++ [r]

/-- Offset and length of a section of the booted image (Table 20-8). -/
def State.section_ (s : State) (k : Nat) : List Nat :=
  let b := slotBase s.por.booted
  s.storeBytes (b + s.storeLe (b + 88 + 8 * k) 4) (s.storeLe (b + 92 + 8 * k) 4)

/-- The image's profile records (section 8) are installed. -/
def State.installProfiles (s : State) : State :=
  let new := s.section_ 8
  let recs := (List.range (new.length / 512)).map (fun i => (new.drop (512 * i)).take 512)
  let old := s.profRecords.map Prod.snd
  let all_ := (recs.foldl mergeProfile old).take 256
  if all_ = old then s else s.writeCopy profOff profSize (Config.structTag profOff) all_.flatten

/-- The image's package constants (section 9) replace those stored where its section version, its first four bytes (log entry 30), is
higher. -/
def State.installConstants (s : State) : State :=
  let new := s.section_ 9
  let old := match s.currentCopy 0x50000 0x10000 with
    | some a => s.storeLe (a + 16) 4
    | none => 0
  if new.isEmpty ∨ le new 0 4 ≤ old then s else s.writeCopy 0x50000 0x10000 (Config.structTag 0x50000) new

/-- The SVN bits are programmed up to the image's SVN. -/
def State.raiseSvn (s : State) : State :=
  let n := min 256 (s.storeLe (slotBase s.por.booted + 20) 4)
  { s with por := { s.por with otp := (List.range 32).foldl (fun t j =>
      let a := 416 + j
      tabSet otpBlank t a (tabGet otpBlank t a ||| BitVec.ofNat 8 (2 ^ (min 8 (n - 8 * j)) - 1))) s.por.otp } }

/-- The booted image confirms itself. -/
def State.confirm (s : State) : State :=
  if !s.por.trial then s
  else
    let s := { s with por := { s.por with trial := false } }
    s.installProfiles.installConstants.raiseSvn

/-- SERVICE, or DEGRADED, is entered at start-up: steps 1 to 12 have ended, the capacitor-health test among them (R667). -/
def State.enterService (s : State) : State :=
  if s.start.running ∧ s.start.step = 12 ∧ s.pwr.tested ∧ s.pwr.test.phase = .idle then
    let s := { s with start := { s.start with running := false } }
    (s.toModeChecked s.serviceMode).confirm.endSuspends
  else s

/-! ### The commands -/

/-- POWER_ON (R663): VDD_AON rises after its loss; Table 24-2's power-on column. -/
def execPowerOn (s : State) : Res := .next (s.restart 1)

/-- SYSTEM_RESET (R663): SYS_RST_N while VDD_AON holds. -/
def execSystemReset (s : State) : Res := if s.pwr.mode = .vault then .next s else .next (s.restart 2)

/-- The end of device reset (R629, R634): SYS_RST_N high, every rail good for 10 ms, and TESTMODE low, without which the device stays in
reset. -/
def State.leavesReset (s : State) (env : StartEnv) : Bool :=
  env.rstHigh && !env.testMode && !s.start.testHeld && decide (s.start.railsAt ≤ s.now)

/-- START_UP (R666): the start-up goes on as far as it can, from the end of device reset. In ROM recovery a slot that has become complete
starts SELECT again (R604). -/
def execStartUp (env : StartEnv) (s : State) : Res :=
  if s.pwr.mode = .vault ∨ s.pwr.mode = .stopped then .next s
  else
    let again := s.romRecovery && (List.range 3).any (fun n => decide ((s.bootSlot n).st = 2))
    if !s.start.running && !again then .next s
    else if again = false ∧ s.start.step = 0 ∧ s.leavesReset env = false then
      .next { s with start := { s.start with testHeld := s.start.testHeld || (env.rstHigh && env.testMode) } }
    else
      let s := if again then { (s.toMode .service) with start := { s.start with running := true, step := 0 } } else s
      let s := if s.start.step = 0 then s.startEarly env else s
      let s := if s.start.running && decide (s.start.step = 8) && s.baysSettled then s.startLate env else s
      .next s.enterService

/-- ADMISSION_OPEN (R667): at a frame boundary with MAP_READY, the capacitor-health test ended, every restored staged IU programmed and
the envelope programmed. -/
def execAdmissionOpen (s : State) : Res :=
  let s := s.enterService
  if s.start.running ∨ s.start.step ≠ 12 ∨ s.hubOn = false ∨ s.atl.mapReady = false ∨ s.programsBooked ∨ s.start.envelope = false then .next s
  else .next { s with plt := { s.plt with admitOpen := true }, start := { s.start with step := 13 } }

/-- The instruction as it is answered. -/
def jtagCode : JtagIr → Nat
  | .idcode => 0 | .bypass => 1 | .other n => n + 2

/-- JTAG_ACCESS (R481): while field access is closed only IDCODE and BYPASS are answered. -/
def execJtagAccess (ir : JtagIr) (s : State) : Res :=
  match ir with
  | .idcode | .bypass => .next (s.emit (.answer 0x0E0 [jtagCode ir]))
  | .other _ => if s.cip.open_ then .next (s.emit (.answer 0x0E0 [jtagCode ir])) else .next s

end Sys2Proof.Machine
end

