-- ==== Sys2Proof/Machine/Traverse.lean ====
section
/-! DEFINITION. The commands of chapter 8: the T-words of the Traverse engines, the requests to die contexts, handovers. -/

set_option linter.unusedVariables false

namespace Sys2Proof.Machine

/-- NOP: counter operation and branch only. -/
def execNop (die : Nat) (w : BitVec 128) (fetch : Fetch) (s : State) : Res :=
  .next (s.runWord die w fetch 0x00 (fun s => .done s none))

/-- WAIT (R264): the context waits DWELL + 1 cycles, at most 128 with LONG set; its counters and branch follow at WAIT_END. -/
def execWait (die : Nat) (w : BitVec 128) (fetch : Fetch) (s : State) : Res :=
  .next (s.runWord die w fetch 0x01 (fun s =>
    let x := s.ctxOf die
    let n := if x.long ≠ 0 then min 128 (twDwell w + 1) else twDwell w + 1
    .done (s.setCtx die { x with waiting := true, waitUntil := s.now + n, word := w.toNat, chain := 0 }) none))

/-- WAIT_END (R256): the dwell ends; the word's counter operation and branch are carried out, then its boundary. -/
def execWaitEnd (die : Nat) (s : State) : Res :=
  let x := s.ctxOf die
  if !x.waiting || s.fenced 0x0A2 (s.ownerEng die) then .next s
  else .next ((s.setCtx die { x with waiting := false, word := 0 }).wordEnd die (BitVec.ofNat 128 x.word) none)

/-- RESTORE: C0 to C3 from their saved copies; the next address is RESUME_PC. In the RESUME handler the suspended operation is RUNNING again
(R276). -/
def execRestore (die : Nat) (w : BitVec 128) (fetch : Fetch) (s : State) : Res :=
  .next (s.runWord die w fetch 0x02 (fun s =>
    let x := s.ctxOf die
    let t := if x.handler = 0x040 ∧ x.st = .suspended then s.resumed die
      else s.setCtx die { x with c := x.saved, handler := 0, migrated := false }
    .done t (some x.resumePc)))

/-- MSG: posts IMM[7:0] with the last status byte and the issue epoch. In the SUSPEND handler it is SUSPENDED, or COMPLETED where the
status chain has cleared LONG (R276 step 3). -/
def execMsg (die : Nat) (w : BitVec 128) (fetch : Fetch) (s : State) : Res :=
  .next (s.runWord die w fetch 0x03 (fun s =>
    let x := s.ctxOf die
    let s := s.emit (.answer 0x0A2 [die, twImm w % 256, x.lastStatus, x.issueEpoch])
    if x.handler ≠ 0x030 then .done s none
    else if x.longAfter w ≠ 0 then
      let s := s.nowSuspended die
      .done (s.setCtx die { s.ctxOf die with handler := 0x030 }) none
    else .done (s.suspendMissed die) none))

/-- IDLE: the routine ends; STATE becomes IDLE unless it is SUSPENDED. The last read of a suspended die having ended, with no further one planned,
0x040 is entered (R276). -/
def execIdle (die : Nat) (w : BitVec 128) (fetch : Fetch) (s : State) : Res :=
  .next (s.runWord die w fetch 0x04 (fun s =>
    let x := s.ctxOf die
    let st := match x.st with
      | .suspended => CtxState.suspended
      | .fenced => .fenced
      | _ => .idle
    let s := s.setCtx die { x with st := st, inRead := false, handler := 0 }
    if x.st = .suspended ∧ x.inRead = true ∧ s.moreReads die = false ∧ s.runsBarred die s.now (s.resumeRuns die) = false then
      .done (s.enterAt die 0x040) (some 0x040)
    else .done s none))

/-- The byte a CMD word drives (BSRC of Table 08-4). -/
def State.cmdByte (s : State) (d : Nat) (w : BitVec 128) : Nat :=
  match twDrive w 23 21 with
  | 1 => s.suspOpcode d
  | 2 => s.resOpcode d
  | 3 => ((s.profileOf d).map Profile.slc).getD 0
  | _ => twDrive w 31 24

/-- The kind a resume opcode resumes: that of the operation suspended, where its two opcodes do not tell. -/
def State.resumeKind (s : State) (d byte : Nat) (p : Profile) : Nat :=
  if p.resP = p.resE then (match s.runningOp d with
    | some r => if r.op.kind = 2 then 2 else 1
    | none => if (s.ctxOf d).long = 2 then 2 else 1)
  else if byte = p.resE then 2 else 1

/-- A command byte reaches the channel, which compares it with the suspend and resume opcodes (R273). A suspend that is refused ends its handler:
the operation goes on (R246). A resume whose closed windows would meet another member's is held back (R69, R70). -/
def State.driveCmd (s : State) (d byte : Nat) : WordAct :=
  let x := s.ctxOf d
  match s.profileOf d with
  | none => .done (s.emit (.die d 0 byte)) none
  | some p =>
    if byte = p.suspP ∨ byte = p.suspE then
      if s.timerRuns d then .fault
      else if s.suspendRefused d then
        let s := s.refuseSuspend d
        .done (s.setCtx d { s.ctxOf d with handler := 0 }) (if x.handler = 0x030 then some x.resumePc else none)
      else .done ((s.setCtx d { x with suspCount := x.suspCount + 1 }).emit (.die d 0 byte)) none
    else if byte = p.resP ∨ byte = p.resE then
      if s.runsBarred d s.now (s.resumeRuns d) then .hold
      else
        let runs := s.resumeRuns d
        let s := (s.startTimer d (s.resumeKind d byte p)).emit (.die d 0 byte)
        match s.runningOp d with
        | some r => .done (s.addRuns d s.now r.op.id 0 runs) none
        | none => .done s none
    else
      -- the command cycle that begins array activity is the confirm (R274)
      let y := (s.confirmed d).ctxOf d
      let yes := !x.confirmed && Config.confirms byte
      .done ((s.setCtx d { x with confirmed := x.confirmed || Config.confirms byte,
                                  issueEpoch := if yes then y.issueEpoch else x.issueEpoch }).emit (.die d 0 byte)) none

/-- CMD (R273): one command cycle. -/
def execCmd (die : Nat) (w : BitVec 128) (fetch : Fetch) (s : State) : Res :=
  .next (s.runWord die w fetch 0x10 (fun s => s.driveCmd die (s.cmdByte die w)))

/-- The address an ADDR word drives (ASRC and PLANE of Table 08-4): the plan's row with the plane, the column, the LUN's row address,
or BYTE repeated. -/
def addrDriven (d : Nat) (x : Ctx) (w : BitVec 128) : Nat :=
  let plane := if twDrive w 11 8 = 0xF then x.c.getD 1 0 - 1 else twDrive w 11 8
  match twDrive w 20 18 with
  | 1 => x.row + plane * 2 ^ 40
  | 2 => x.col
  | 3 => d % 2
  | 4 => twDrive w 31 24
  | _ => 0

/-- ADDR: ACYC address cycles. -/
def execAddr (die : Nat) (w : BitVec 128) (fetch : Fetch) (s : State) : Res :=
  .next (s.runWord die w fetch 0x11 (fun s =>
    .done (s.emit (.die die 1 (addrDriven die (s.ctxOf die) w + twDrive w 17 15 * 2 ^ 48))) none))

/-- STAT_IN: one status byte into the die context; 0xFF is no answer, and 0x060 is entered (R239, Table 08-8). -/
def execStatIn (die : Nat) (w : BitVec 128) (fetch : Fetch) (status : Nat) (s : State) : Res :=
  .next (s.runWord die w fetch 0x12 (fun s =>
    let s := s.statusRead die status
    let x := s.ctxOf die
    if status % 256 = 0xFF ∧ x.st ≠ .fenced ∧ x.handler ≠ 0x060 then .done (s.enterAt die 0x060) (some 0x060)
    else if x.handler = 0x060 ∧ status % 256 ≠ 0xFF then .done (s.setCtx die { x with handler := 0 }) none
    else .done s none))

/-- PINS: DRIVE[7:0] on the pins for the whole word. -/
def execPins (die : Nat) (w : BitVec 128) (fetch : Fetch) (s : State) : Res :=
  .next (s.runWord die w fetch 0x13 (fun s => .done (s.emit (.die die 2 (twDrive w 7 0))) none))

/-- MOVE: a burst of IMM[15:0] bytes to the channel mover, in direction DRIVE[0]; it takes the bus as soon as that is free (R258). -/
def execMove (die : Nat) (w : BitVec 128) (fetch : Fetch) (s : State) : Res :=
  .next (s.runWord die w fetch 0x14 (fun s =>
    let x := s.ctxOf die
    .done (((s.setCtx die { x with moving := some (twDrive w 0 0), moveErr := false }).emit (.die die 3 (twImm w % 65536))).grantMover (dieChan die)) none))

/-- MOVER_BURST_COMPLETE (R258): the burst the mover holds the bus for ends, and the bus is free; a read's data goes to the lane that decodes it
(R293, R294). -/
def execMoverBurstComplete (die : Nat) (error : Bool) (s : State) : Res :=
  let x := s.ctxOf die
  match x.moving with
  | none => .next s
  | some dir =>
    if s.holder (dieChan die) ≠ 4097 + die then .next s
    else
      let s := ((s.setCtx die { x with moving := none, moveErr := error }).freeBus die).grantMover (dieChan die)
      if dir ≠ 0 ∨ error then .next s
      else .next (s.startDecode die ((s.readNow die).getD (s.newOp die 0 0 s.now)))

/-- DIE_FENCE_REQUEST (R271 order 1, R248): 0x010 is entered, the suspended operation abandoned, every other request returned. -/
def execDieFenceRequest (die : Nat) (s : State) : Res :=
  if 2048 ≤ die ∨ (s.ctxOf die).st = .fenced then .next s
  else if (s.ctxOf die).atBoundary then .next (s.fenceDie die)
  else .next (s.setCtx die ((s.ctxOf die).ask 0))

/-- A die may move to another engine (R278): its owner is isolated or fenced, or the move takes it home; and the engine can take it. -/
def State.mayMove (s : State) (d e : Nat) : Bool :=
  (s.fenced 0x0A2 (s.ownerEng d) || (s.unit 0x0A2 (s.ownerEng d)).isolated || decide (e = dieHome d) || (s.ctxOf d).pend.contains 1)
    && (decide (e = s.owner d) || s.engineFree (dieChan d) e)

/-- DIE_RELEASE_REQUEST (R278, R279): the Plotter moves the die in order; a second request while one is pending names the owner anew. -/
def execDieReleaseRequest (die newOwner : Nat) (s : State) : Res :=
  if 2048 ≤ die ∨ 4 ≤ newOwner ∨ s.mayMove die newOwner = false then .next s
  else .next (s.orderlyMove die newOwner)

/-- DIE_SUSPEND_REQUEST (R243 to R246, R271 order 3, R276): taken, the handler sends the opcode of the kind in LONG and polls the status;
`completed` says what that shows. -/
def execDieSuspendRequest (die : Nat) (completed : Bool) (s : State) : Res :=
  let x := s.ctxOf die
  if 2048 ≤ die ∨ x.st = .fenced then .next s
  else if !x.atBoundary || x.pend.contains 1 || decide (x.handler ≠ 0) then .next (s.setCtx die (x.ask 2))
  else if x.long = 0 then .next (s.event F.TRV_ENG_SUSPEND_MOOT (s.ownerEng die) 0)
  else if x.st = .suspended then .next s
  else if x.st ≠ .running then .next (s.setCtx die (x.ask 2))
  else if s.timerRuns die then .next ((s.setCtx die (x.ask 2)).holdSuspend die)
  else if s.suspendRefused die then .next (s.refuseSuspend die)
  else
    let s := (s.takeSuspend die).emit (.die die 0 (s.suspOpcode die))
    let s := (s.setCtx die { s.ctxOf die with suspCount := x.suspCount + 1 }).emit (.die die 5 0)
    if completed then
      let s := s.suspendMissed die
      .next ((s.setCtx die { s.ctxOf die with st := .idle, handler := 0 }).emit (.answer 0x0A2 [die, 1, x.issueEpoch]))
    else .next ((s.nowSuspended die).emit (.answer 0x0A2 [die, 2, x.issueEpoch]))

/-- DIE_START_REQUEST (R271 order 4): taken, or pending beside those that are. -/
def execDieStartRequest (die : Nat) (plan : DiePlan) (s : State) : Res :=
  let x := s.ctxOf die
  if 2048 ≤ die ∨ x.st = .fenced then .next s
  else if x.atBoundary && x.pend.isEmpty && s.canStart die plan then .next (s.startPlan die plan)
  else .next (s.setCtx die { x.ask 3 with plans := x.plans ++ [plan] })

/-- DIE_RESUME (R244, R245, R247, R276): the last read has left the die, or the Plotter has named the resume; the closed windows that follow
must fit R69. -/
def execDieResume (die : Nat) (s : State) : Res :=
  let x := s.ctxOf die
  if x.st ≠ .suspended ∨ x.inRead then .next s
  else if s.moreReads die && !(s.dieOf die).resumeDue then .next s
  else if s.runsBarred die s.now (s.resumeRuns die) then .next s
  else .next (s.resumeOp die)

/-- DIE_HANDOVER (R98, R99, R278): the Plotter moves a die to another engine of its channel: in order, or where its owner is fenced by TAKEOVER
(R280). -/
def execDieHandover (die newOwner : Nat) (s : State) : Res :=
  if 2048 ≤ die ∨ 4 ≤ newOwner ∨ (s.ctxOf die).st = .fenced ∨ s.mayMove die newOwner = false then .next s
  else if s.fenced 0x0A2 (s.ownerEng die) then .next (if newOwner = s.owner die then s else s.takeDie die newOwner)
  else .next (s.orderlyMove die newOwner)

/-- What the TAKEOVER handler does with the committed context (R280): a running long operation is restored, a suspended one stays suspended. -/
def State.tookOver (s : State) (d : Nat) : State :=
  let y := s.ctxOf d
  if y.st = .running ∧ y.long ≠ 0 then s.setCtx d { y with pc := y.resumePc, c := y.saved, handler := 0, migrated := false }
  else s.setCtx d { y with st := if y.st = .running then .idle else y.st, handler := 0 }

/-- DIE_TAKEOVER (R280): the die of a fenced owner is bound to engine `newOwner` of its channel, whose handler begins with Read Status Enhanced,
which reads `status`, and acts on the committed context. -/
def execDieTakeover (die newOwner status : Nat) (s : State) : Res :=
  if 2048 ≤ die ∨ 4 ≤ newOwner ∨ (s.ctxOf die).st = .fenced then .next s
  else
    let s := if s.fenced 0x0A2 (s.ownerEng die) ∧ s.engineFree (dieChan die) newOwner = true then s.takeDie die newOwner else s
    if (s.ctxOf die).handler ≠ 0x050 then .next s
    else
      let s := (s.emit (.die die 5 0)).statusRead die status
      if (s.ctxOf die).st = .fenced then .next s else .next (s.tookOver die)

end Sys2Proof.Machine
end

