-- ==== Sys2Proof/Machine/Dispatch.lean ====
section
/-! DEFINITION. The dispatch: one arm per command of the opcode table, in its order. -/

namespace Sys2Proof.Machine

def exec (i : Instr) (s : State) : Host.Outcome State Fault Refusal :=
  match i with
  | .flitCrcError j delivered => Sys2Proof.Machine.execFlitCrcError j delivered s
  | .sqDoorbellWrite fn q value => Sys2Proof.Machine.execSqDoorbellWrite fn q value s
  | .cqDoorbellWrite fn q value => Sys2Proof.Machine.execCqDoorbellWrite fn q value s
  | .sqEntryFetch fn heads => Sys2Proof.Machine.execSqEntryFetch fn heads s
  | .holdProbe e op ad ranges => Sys2Proof.Machine.execHoldProbe e op ad ranges s
  | .holdLimitExpiry e op ad ranges => Sys2Proof.Machine.execHoldLimitExpiry e op ad ranges s
  | .read e => Sys2Proof.Machine.execRead e s
  | .write e => Sys2Proof.Machine.execWrite e s
  | .flush e => Sys2Proof.Machine.execFlush e s
  | .writeUncorrectable e => Sys2Proof.Machine.execWriteUncorrectable e s
  | .compare e => Sys2Proof.Machine.execCompare e s
  | .writeZeroes e => Sys2Proof.Machine.execWriteZeroes e s
  | .datasetManagement e ad ranges => Sys2Proof.Machine.execDatasetManagement e ad ranges s
  | .verify e => Sys2Proof.Machine.execVerify e s
  | .atlasLookup pool iu => Sys2Proof.Machine.execAtlasLookup pool iu s
  | .plotAdmit fn sq cid => Sys2Proof.Machine.execPlotAdmit fn sq cid s
  | .hostReadCompletion fn sq cid => Sys2Proof.Machine.execHostReadCompletion fn sq cid s
  | .hostAllowanceExpiry fn sq cid => Sys2Proof.Machine.execHostAllowanceExpiry fn sq cid s
  | .completionTimeout fn sq cid => Sys2Proof.Machine.execCompletionTimeout fn sq cid s
  | .hostReadError fn sq cid err => Sys2Proof.Machine.execHostReadError fn sq cid err s
  | .completionEntrySent fn sq cid => Sys2Proof.Machine.execCompletionEntrySent fn sq cid s
  | .coalescingTimerExpiry fn vec => Sys2Proof.Machine.execCoalescingTimerExpiry fn vec s
  | .frameBoundary activity => Sys2Proof.Machine.execFrameBoundary activity s
  | .quietSlotEnd => Sys2Proof.Machine.execQuietSlotEnd s
  | .decodeComplete lane mode ok corrected ladder die block page plane cwMask => Sys2Proof.Machine.execDecodeComplete lane mode ok corrected ladder die block page plane cwMask s
  | .softReservationStart lane id => Sys2Proof.Machine.execSoftReservationStart lane id s
  | .dieOperationComplete die passed => Sys2Proof.Machine.execDieOperationComplete die passed s
  | .hostStage fn sq cid iu => Sys2Proof.Machine.execHostStage fn sq cid iu s
  | .programDone pool iu slot addr => Sys2Proof.Machine.execProgramDone pool iu slot addr s
  | .relocate pool iu old new => Sys2Proof.Machine.execRelocate pool iu old new s
  | .discard pool iu => Sys2Proof.Machine.execDiscard pool iu s
  | .poison pool iu reason => Sys2Proof.Machine.execPoison pool iu reason s
  | .segGet seg requester => Sys2Proof.Machine.execSegGet seg requester s
  | .snoop holder seg requester => Sys2Proof.Machine.execSnoop holder seg requester s
  | .snoopDone seg requester => Sys2Proof.Machine.execSnoopDone seg requester s
  | .segmentEvict engine seg => Sys2Proof.Machine.execSegmentEvict engine seg s
  | .evictNotice engine seg => Sys2Proof.Machine.execEvictNotice engine seg s
  | .segmentWritebackComplete engine seg => Sys2Proof.Machine.execSegmentWritebackComplete engine seg s
  | .evictAck engine seg => Sys2Proof.Machine.execEvictAck engine seg s
  | .segmentLoadComplete engine seg gen valid => Sys2Proof.Machine.execSegmentLoadComplete engine seg gen valid s
  | .dirtyMaxExpiry engine seg => Sys2Proof.Machine.execDirtyMaxExpiry engine seg s
  | .assemblyWindowEnd slot readOk => Sys2Proof.Machine.execAssemblyWindowEnd slot readOk s
  | .journalBlockSpill => Sys2Proof.Machine.execJournalBlockSpill s
  | .checkpointCopy location => Sys2Proof.Machine.execCheckpointCopy location s
  | .ckptPassOverrun => Sys2Proof.Machine.execCkptPassOverrun s
  | .discardSweep pool seg => Sys2Proof.Machine.execDiscardSweep pool seg s
  | .segmentRecovery pool seg fromDram => Sys2Proof.Machine.execSegmentRecovery pool seg fromDram s
  | .gcVictimPick group => Sys2Proof.Machine.execGcVictimPick group s
  | .debtConversion group => Sys2Proof.Machine.execDebtConversion group s
  | .relocation pool iu old new => Sys2Proof.Machine.execRelocation pool iu old new s
  | .waEstimate => Sys2Proof.Machine.execWaEstimate s
  | .bandOpen group cls => Sys2Proof.Machine.execBandOpen group cls s
  | .bandEraseStart band => Sys2Proof.Machine.execBandEraseStart band s
  | .refreshStart => Sys2Proof.Machine.execRefreshStart s
  | .readLimitClose band => Sys2Proof.Machine.execReadLimitClose band s
  | .minFreePublish => Sys2Proof.Machine.execMinFreePublish s
  | .retentionSample band => Sys2Proof.Machine.execRetentionSample band s
  | .spareRebuild band sheet => Sys2Proof.Machine.execSpareRebuild band sheet s
  | .stripeOpen band row => Sys2Proof.Machine.execStripeOpen band row s
  | .fold slot sheet data from_ => Sys2Proof.Machine.execFold slot sheet data from_ s
  | .parityProgram slot => Sys2Proof.Machine.execParityProgram slot s
  | .reconstruct band row data erased => Sys2Proof.Machine.execReconstruct band row data erased s
  | .layoutChange present usable => Sys2Proof.Machine.execLayoutChange present usable s
  | .reshapeAdvance => Sys2Proof.Machine.execReshapeAdvance s
  | .evacuation sheet => Sys2Proof.Machine.execEvacuation sheet s
  | .channelDiscovery ch targets => Sys2Proof.Machine.execChannelDiscovery ch targets s
  | .channelTraining ch eyes => Sys2Proof.Machine.execChannelTraining ch eyes s
  | .retrainStep ch fails => Sys2Proof.Machine.execRetrainStep ch fails s
  | .retrainLate ch => Sys2Proof.Machine.execRetrainLate ch s
  | .absentHoldExpiry sheet => Sys2Proof.Machine.execAbsentHoldExpiry sheet s
  | .pollTimeout die statusAfter => Sys2Proof.Machine.execPollTimeout die statusAfter s
  | .runTimerExpiry die => Sys2Proof.Machine.execRunTimerExpiry die s
  | .suspendLong die => Sys2Proof.Machine.execSuspendLong die s
  | .nop die w fetch => Sys2Proof.Machine.execNop die w fetch s
  | .wait die w fetch => Sys2Proof.Machine.execWait die w fetch s
  | .waitEnd die => Sys2Proof.Machine.execWaitEnd die s
  | .restore die w fetch => Sys2Proof.Machine.execRestore die w fetch s
  | .msg die w fetch => Sys2Proof.Machine.execMsg die w fetch s
  | .idle die w fetch => Sys2Proof.Machine.execIdle die w fetch s
  | .cmd die w fetch => Sys2Proof.Machine.execCmd die w fetch s
  | .addr die w fetch => Sys2Proof.Machine.execAddr die w fetch s
  | .statIn die w fetch status => Sys2Proof.Machine.execStatIn die w fetch status s
  | .pins die w fetch => Sys2Proof.Machine.execPins die w fetch s
  | .move die w fetch => Sys2Proof.Machine.execMove die w fetch s
  | .moverBurstComplete die error => Sys2Proof.Machine.execMoverBurstComplete die error s
  | .dieFenceRequest die => Sys2Proof.Machine.execDieFenceRequest die s
  | .dieReleaseRequest die newOwner => Sys2Proof.Machine.execDieReleaseRequest die newOwner s
  | .dieSuspendRequest die completed => Sys2Proof.Machine.execDieSuspendRequest die completed s
  | .dieStartRequest die plan => Sys2Proof.Machine.execDieStartRequest die plan s
  | .dieResume die => Sys2Proof.Machine.execDieResume die s
  | .dieHandover die newOwner => Sys2Proof.Machine.execDieHandover die newOwner s
  | .dieTakeover die newOwner status => Sys2Proof.Machine.execDieTakeover die newOwner status s
  | .presenceEdge bay present => Sys2Proof.Machine.execPresenceEdge bay present s
  | .presenceDebounced bay => Sys2Proof.Machine.execPresenceDebounced bay s
  | .buttonPress bay => Sys2Proof.Machine.execButtonPress bay s
  | .bayPowerStart bay => Sys2Proof.Machine.execBayPowerStart bay s
  | .pwrgdRise bay => Sys2Proof.Machine.execPwrgdRise bay s
  | .pwrgdTimeout bay => Sys2Proof.Machine.execPwrgdTimeout bay s
  | .pwrgdFall bay => Sys2Proof.Machine.execPwrgdFall bay s
  | .identityCheck bay answered record => Sys2Proof.Machine.execIdentityCheck bay answered record s
  | .bayDiscoveryEnd bay => Sys2Proof.Machine.execBayDiscoveryEnd bay s
  | .bayOffer bay => Sys2Proof.Machine.execBayOffer bay s
  | .abortWindowExpiry bay => Sys2Proof.Machine.execAbortWindowExpiry bay s
  | .refusalBlinkEnd bay => Sys2Proof.Machine.execRefusalBlinkEnd bay s
  | .conventionalReset port cause => Sys2Proof.Machine.execConventionalReset port cause s
  | .perstRelease port => Sys2Proof.Machine.execPerstRelease port s
  | .flr fn => Sys2Proof.Machine.execFlr fn s
  | .vfEnableWrite port enable numVfs ari => Sys2Proof.Machine.execVfEnableWrite port enable numVfs ari s
  | .barSizeWrite fn log2 => Sys2Proof.Machine.execBarSizeWrite fn log2 s
  | .cmbmscWrite fn cre cmse => Sys2Proof.Machine.execCmbmscWrite fn cre cmse s
  | .msixUnmask fn what => Sys2Proof.Machine.execMsixUnmask fn what s
  | .gazRecordLatchRead fn record => Sys2Proof.Machine.execGazRecordLatchRead fn record s
  | .poisonedWrite fn bar => Sys2Proof.Machine.execPoisonedWrite fn bar s
  | .receivedTlpError port fn err => Sys2Proof.Machine.execReceivedTlpError port fn err s
  | .atsInvalidate fn page => Sys2Proof.Machine.execAtsInvalidate fn page s
  | .linkRateChange port gen width flit => Sys2Proof.Machine.execLinkRateChange port gen width flit s
  | .ccEnSet fn iosqes iocqes asqs acqs => Sys2Proof.Machine.execCcEnSet fn iosqes iocqes asqs acqs s
  | .ccEnClear fn => Sys2Proof.Machine.execCcEnClear fn s
  | .ccShnWrite fn shn => Sys2Proof.Machine.execCcShnWrite fn shn s
  | .deviceShutdownFlush => Sys2Proof.Machine.execDeviceShutdownFlush s
  | .deleteIoSubmissionQueue a qid => Sys2Proof.Machine.execDeleteIoSubmissionQueue a qid s
  | .createIoSubmissionQueue a qid size cqid pc => Sys2Proof.Machine.execCreateIoSubmissionQueue a qid size cqid pc s
  | .getLogPage a lid lsp numd lpo rae => Sys2Proof.Machine.execGetLogPage a lid lsp numd lpo rae s
  | .deleteIoCompletionQueue a qid => Sys2Proof.Machine.execDeleteIoCompletionQueue a qid s
  | .createIoCompletionQueue a qid size vector pc ien => Sys2Proof.Machine.execCreateIoCompletionQueue a qid size vector pc ien s
  | .identify a cns cntid => Sys2Proof.Machine.execIdentify a cns cntid s
  | .abort a sqid victim => Sys2Proof.Machine.execAbort a sqid victim s
  | .setFeatures a fid sv dw11 data => Sys2Proof.Machine.execSetFeatures a fid sv dw11 data s
  | .getFeatures a fid sel dw11 => Sys2Proof.Machine.execGetFeatures a fid sel dw11 s
  | .asynchronousEventRequest a => Sys2Proof.Machine.execAsynchronousEventRequest a s
  | .asyncEventReport fn event => Sys2Proof.Machine.execAsyncEventReport fn event s
  | .formatNvm a lbaf pi pil mset ses => Sys2Proof.Machine.execFormatNvm a lbaf pi pil mset ses s
  | .psExitTimer => Sys2Proof.Machine.execPsExitTimer s
  | .ps4Entry => Sys2Proof.Machine.execPs4Entry s
  | .ring fn => Sys2Proof.Machine.execRing fn s
  | .respDone fn => Sys2Proof.Machine.execRespDone fn s
  | .mctpMailboxMessage ep eid ic tagOwner body => Sys2Proof.Machine.execMctpMailboxMessage ep eid ic tagOwner body s
  | .segmentTimeout path => Sys2Proof.Machine.execSegmentTimeout path s
  | .hello q => Sys2Proof.Machine.execHello q s
  | .goodbye q => Sys2Proof.Machine.execGoodbye q s
  | .opStatus q => Sys2Proof.Machine.execOpStatus q s
  | .deviceInfo q => Sys2Proof.Machine.execDeviceInfo q s
  | .classGet q => Sys2Proof.Machine.execClassGet q s
  | .classSet q => Sys2Proof.Machine.execClassSet q s
  | .maskSet q => Sys2Proof.Machine.execMaskSet q s
  | .defaultSet q => Sys2Proof.Machine.execDefaultSet q s
  | .queueBind q => Sys2Proof.Machine.execQueueBind q s
  | .floorsGet q => Sys2Proof.Machine.execFloorsGet q s
  | .quotaSet q => Sys2Proof.Machine.execQuotaSet q s
  | .reserveSet q => Sys2Proof.Machine.execReserveSet q s
  | .poolCreate q => Sys2Proof.Machine.execPoolCreate q s
  | .poolResize q => Sys2Proof.Machine.execPoolResize q s
  | .poolDelete q => Sys2Proof.Machine.execPoolDelete q s
  | .nsCreate q => Sys2Proof.Machine.execNsCreate q s
  | .nsResize q => Sys2Proof.Machine.execNsResize q s
  | .nsDelete q => Sys2Proof.Machine.execNsDelete q s
  | .nsAttach q => Sys2Proof.Machine.execNsAttach q s
  | .nsDetach q => Sys2Proof.Machine.execNsDetach q s
  | .nsList q => Sys2Proof.Machine.execNsList q s
  | .nsInfo q => Sys2Proof.Machine.execNsInfo q s
  | .keyImport q => Sys2Proof.Machine.execKeyImport q s
  | .rekey q => Sys2Proof.Machine.execRekey q s
  | .rekeySweepStep slot count moves => Sys2Proof.Machine.execRekeySweepStep slot count moves s
  | .rekeyDone slot => Sys2Proof.Machine.execRekeyDone slot s
  | .keyErase q => Sys2Proof.Machine.execKeyErase q s
  | .slotAssign q => Sys2Proof.Machine.execSlotAssign q s
  | .keyStatus q => Sys2Proof.Machine.execKeyStatus q s
  | .unlockChallenge q => Sys2Proof.Machine.execUnlockChallenge q s
  | .unlockResponse q => Sys2Proof.Machine.execUnlockResponse q s
  | .nonceLapse value => Sys2Proof.Machine.execNonceLapse value s
  | .lockoutEnd => Sys2Proof.Machine.execLockoutEnd s
  | .gazRead q => Sys2Proof.Machine.execGazRead q s
  | .gazClear q => Sys2Proof.Machine.execGazClear q s
  | .gazLayout q => Sys2Proof.Machine.execGazLayout q s
  | .datumGet q => Sys2Proof.Machine.execDatumGet q s
  | .datumSet q => Sys2Proof.Machine.execDatumSet q s
  | .datumAlarm q => Sys2Proof.Machine.execDatumAlarm q s
  | .alarmFire => Sys2Proof.Machine.execAlarmFire s
  | .slewEnd => Sys2Proof.Machine.execSlewEnd s
  | .vbatLost => Sys2Proof.Machine.execVbatLost s
  | .sheetStatus q => Sys2Proof.Machine.execSheetStatus q s
  | .sheetOffer q => Sys2Proof.Machine.execSheetOffer q s
  | .sheetRemove q => Sys2Proof.Machine.execSheetRemove q s
  | .sheetAbort q => Sys2Proof.Machine.execSheetAbort q s
  | .sheetIdentity q => Sys2Proof.Machine.execSheetIdentity q s
  | .updBegin q => Sys2Proof.Machine.execUpdBegin q s
  | .updChunk q => Sys2Proof.Machine.execUpdChunk q s
  | .chunkStored ok => Sys2Proof.Machine.execChunkStored ok s
  | .updEnd q => Sys2Proof.Machine.execUpdEnd q s
  | .updEndChainTimeout => Sys2Proof.Machine.execUpdEndChainTimeout s
  | .updSchedule q => Sys2Proof.Machine.execUpdSchedule q s
  | .updCancel q => Sys2Proof.Machine.execUpdCancel q s
  | .updStatus q => Sys2Proof.Machine.execUpdStatus q s
  | .surveyStart q conditions sibling => Sys2Proof.Machine.execSurveyStart q conditions sibling s
  | .unitReset q sibling => Sys2Proof.Machine.execUnitReset q sibling s
  | .faultGet q => Sys2Proof.Machine.execFaultGet q s
  | .faultMask q => Sys2Proof.Machine.execFaultMask q s
  | .faultPin q => Sys2Proof.Machine.execFaultPin q s
  | .envelopeSet q => Sys2Proof.Machine.execEnvelopeSet q s
  | .powerStatus q => Sys2Proof.Machine.execPowerStatus q s
  | .modeRequest q => Sys2Proof.Machine.execModeRequest q s
  | .holdupTest q => Sys2Proof.Machine.execHoldupTest q s
  | .thermalGet q => Sys2Proof.Machine.execThermalGet q s
  | .inject q => Sys2Proof.Machine.execInject q s
  | .diagClose q => Sys2Proof.Machine.execDiagClose q s
  | .tileRelease t => Sys2Proof.Machine.execTileRelease t s
  | .addRef t => Sys2Proof.Machine.execAddRef t s
  | .tileReserve p n => Sys2Proof.Machine.execTileReserve p n s
  | .tileUnreserve p n => Sys2Proof.Machine.execTileUnreserve p n s
  | .allocReserved p a => Sys2Proof.Machine.execAllocReserved p a s
  | .allocSpot p a => Sys2Proof.Machine.execAllocSpot p a s
  | .tileSramUe t injected => Sys2Proof.Machine.execTileSramUe t injected s
  | .tileApply => Sys2Proof.Machine.execTileApply s
  | .dramRequest ch r => Sys2Proof.Machine.execDramRequest ch r s
  | .dramIssueSlot ch => Sys2Proof.Machine.execDramIssueSlot ch s
  | .dramRefreshDue ch rank hot => Sys2Proof.Machine.execDramRefreshDue ch rank hot s
  | .dramMaintenanceDue ch kind => Sys2Proof.Machine.execDramMaintenanceDue ch kind s
  | .dramUe ch port addr unit injected => Sys2Proof.Machine.execDramUe ch port addr unit injected s
  | .cipherJob job => Sys2Proof.Machine.execCipherJob job s
  | .pwrFailNFall => Sys2Proof.Machine.execPwrFailNFall s
  | .railTrip rail => Sys2Proof.Machine.execRailTrip rail s
  | .dumpEnd complete => Sys2Proof.Machine.execDumpEnd complete s
  | .powerRestart => Sys2Proof.Machine.execPowerRestart s
  | .vddAonLost => Sys2Proof.Machine.execVddAonLost s
  | .dormantEntry => Sys2Proof.Machine.execDormantEntry s
  | .wakeNAsserted => Sys2Proof.Machine.execWakeNAsserted s
  | .avsRequest target => Sys2Proof.Machine.execAvsRequest target s
  | .capacitorTest v1 vs => Sys2Proof.Machine.execCapacitorTest v1 vs s
  | .bankReachesV2 => Sys2Proof.Machine.execBankReachesV2 s
  | .capacitorTestTimeout => Sys2Proof.Machine.execCapacitorTestTimeout s
  | .bankRecharged => Sys2Proof.Machine.execBankRecharged s
  | .adcSampleEnd input value => Sys2Proof.Machine.execAdcSampleEnd input value s
  | .onDemandSampleRequest input => Sys2Proof.Machine.execOnDemandSampleRequest input s
  | .roundEnd => Sys2Proof.Machine.execRoundEnd s
  | .candidateUnquietable => Sys2Proof.Machine.execCandidateUnquietable s
  | .critTripClear => Sys2Proof.Machine.execCritTripClear s
  | .critTripTimeout => Sys2Proof.Machine.execCritTripTimeout s
  | .faultDetected r => Sys2Proof.Machine.execFaultDetected r s
  | .pulseEnd => Sys2Proof.Machine.execPulseEnd s
  | .fenceIndRelease block inst => Sys2Proof.Machine.execFenceIndRelease block inst s
  | .fence block inst => Sys2Proof.Machine.execFence block inst s
  | .cntClear block inst => Sys2Proof.Machine.execCntClear block inst s
  | .rearm => Sys2Proof.Machine.execRearm s
  | .levelWrite level => Sys2Proof.Machine.execLevelWrite level s
  | .go path => Sys2Proof.Machine.execGo path s
  | .commit path => Sys2Proof.Machine.execCommit path s
  | .atlSteerWrite j value => Sys2Proof.Machine.execAtlSteerWrite j value s
  | .pltReserveWrite value => Sys2Proof.Machine.execPltReserveWrite value s
  | .pltLagsWrite value => Sys2Proof.Machine.execPltLagsWrite value s
  | .svyFreeWmWrite wm value => Sys2Proof.Machine.execSvyFreeWmWrite wm value s
  | .fchCfgWrite ch value => Sys2Proof.Machine.execFchCfgWrite ch value s
  | .trvPollWrite value => Sys2Proof.Machine.execTrvPollWrite value s
  | .shbIndWrite bay value => Sys2Proof.Machine.execShbIndWrite bay value s
  | .mbxVectorWrite fn value => Sys2Proof.Machine.execMbxVectorWrite fn value s
  | .registerWrite via bytes value => Sys2Proof.Machine.execRegisterWrite via bytes value s
  | .rcFieldRead via => Sys2Proof.Machine.execRcFieldRead via s
  | .datTimeLoRead path => Sys2Proof.Machine.execDatTimeLoRead path s
  | .setEndpointId ep eid => Sys2Proof.Machine.execSetEndpointId ep eid s
  | .getEndpointId ep => Sys2Proof.Machine.execGetEndpointId ep s
  | .getEndpointUuid ep => Sys2Proof.Machine.execGetEndpointUuid ep s
  | .getMctpVersionSupport ep type => Sys2Proof.Machine.execGetMctpVersionSupport ep type s
  | .getMessageTypeSupport ep => Sys2Proof.Machine.execGetMessageTypeSupport ep s
  | .nvmeMiBasicManagement => Sys2Proof.Machine.execNvmeMiBasicManagement s
  | .getVersion ep => Sys2Proof.Machine.execGetVersion ep s
  | .getCapabilities ep => Sys2Proof.Machine.execGetCapabilities ep s
  | .negotiateAlgorithms ep => Sys2Proof.Machine.execNegotiateAlgorithms ep s
  | .getDigests ep => Sys2Proof.Machine.execGetDigests ep s
  | .getCertificate ep slot offset length => Sys2Proof.Machine.execGetCertificate ep slot offset length s
  | .challenge ep slot nonce => Sys2Proof.Machine.execChallenge ep slot nonce s
  | .getMeasurements ep index nonce signed => Sys2Proof.Machine.execGetMeasurements ep index nonce signed s
  | .keyExchange ep reqSession => Sys2Proof.Machine.execKeyExchange ep reqSession s
  | .finish session ok mutAuth => Sys2Proof.Machine.execFinish session ok mutAuth s
  | .heartbeat session => Sys2Proof.Machine.execHeartbeat session s
  | .keyUpdate session => Sys2Proof.Machine.execKeyUpdate session s
  | .endSession session => Sys2Proof.Machine.execEndSession session s
  | .sessionHeartbeatTimeout session => Sys2Proof.Machine.execSessionHeartbeatTimeout session s
  | .getTransportKey session => Sys2Proof.Machine.execGetTransportKey session s
  | .provisionOwner session key password => Sys2Proof.Machine.execProvisionOwner session key password s
  | .alertResponseAddressRead => Sys2Proof.Machine.execAlertResponseAddressRead s
  | .gazetteerRecord block inst sev code data => Sys2Proof.Machine.execGazetteerRecord block inst sev code data s
  | .gazPersist => Sys2Proof.Machine.execGazPersist s
  | .eraseSector caller addr => Sys2Proof.Machine.execEraseSector caller addr s
  | .programRow caller addr data => Sys2Proof.Machine.execProgramRow caller addr data s
  | .programOtp addr data => Sys2Proof.Machine.execProgramOtp addr data s
  | .storeRead addr => Sys2Proof.Machine.execStoreRead addr s
  | .eraseResume => Sys2Proof.Machine.execEraseResume s
  | .linkUp down version position roundTrip credit => Sys2Proof.Machine.execLinkUp down version position roundTrip credit s
  | .linkUpResend down => Sys2Proof.Machine.execLinkUpResend down s
  | .hopRemeasure roundTrip => Sys2Proof.Machine.execHopRemeasure roundTrip s
  | .relayAck down value credit => Sys2Proof.Machine.execRelayAck down value credit s
  | .relayReplayTimeout down => Sys2Proof.Machine.execRelayReplayTimeout down s
  | .relayLinkDown down => Sys2Proof.Machine.execRelayLinkDown down s
  | .beacon count => Sys2Proof.Machine.execBeacon count s
  | .beaconSend => Sys2Proof.Machine.execBeaconSend s
  | .relayBegin seq slot len imageId => Sys2Proof.Machine.execRelayBegin seq slot len imageId s
  | .relayChunk seq index crc data => Sys2Proof.Machine.execRelayChunk seq index crc data s
  | .relayEnd seq => Sys2Proof.Machine.execRelayEnd seq s
  | .relaySchedule seq t group drainMs slot imageId => Sys2Proof.Machine.execRelaySchedule seq t group drainMs slot imageId s
  | .relayCancel seq group => Sys2Proof.Machine.execRelayCancel seq group s
  | .relayReport seq position kind result imageId slot fw => Sys2Proof.Machine.execRelayReport seq position kind result imageId slot fw s
  | .activationDrain => Sys2Proof.Machine.execActivationDrain s
  | .activationRestart => Sys2Proof.Machine.execActivationRestart s
  | .trialReset => Sys2Proof.Machine.execTrialReset s
  | .referenceWindowEnd count => Sys2Proof.Machine.execReferenceWindowEnd count s
  | .inServiceTestDue block inst => Sys2Proof.Machine.execInServiceTestDue block inst s
  | .testEnd block inst r => Sys2Proof.Machine.execTestEnd block inst r s
  | .powerOn => Sys2Proof.Machine.execPowerOn s
  | .systemReset => Sys2Proof.Machine.execSystemReset s
  | .startUp env => Sys2Proof.Machine.execStartUp env s
  | .admissionOpen => Sys2Proof.Machine.execAdmissionOpen s
  | .flowControlCredit fn sq cid held => Sys2Proof.Machine.execFlowControlCredit fn sq cid held s
  | .atsTranslationCompletion fn sq cid page ok => Sys2Proof.Machine.execAtsTranslationCompletion fn sq cid page ok s
  | .dramReadReturn ch id corrected => Sys2Proof.Machine.execDramReadReturn ch id corrected s
  | .segmentReceived engine seg dirty => Sys2Proof.Machine.execSegmentReceived engine seg dirty s
  | .adminInvalidOpcode a opcode => Sys2Proof.Machine.execAdminInvalidOpcode a opcode s
  | .ioInvalidOpcode e opcode => Sys2Proof.Machine.execIoInvalidOpcode e opcode s
  | .mailboxInvalidOpcode q opcode => Sys2Proof.Machine.execMailboxInvalidOpcode q opcode s
  | .mctpUnsupportedMessage ep type command => Sys2Proof.Machine.execMctpUnsupportedMessage ep type command s
  | .relayFrameCrcError down => Sys2Proof.Machine.execRelayFrameCrcError down s
  | .eraseMinRunExpiry => Sys2Proof.Machine.execEraseMinRunExpiry s
  | .storeOperationEnd verified => Sys2Proof.Machine.execStoreOperationEnd verified s
  | .jtagAccess ir => Sys2Proof.Machine.execJtagAccess ir s
  | .directWindowWrite fn offset data => Sys2Proof.Machine.execDirectWindowWrite fn offset data s
  | .inboundMailboxWrite fn offset data => Sys2Proof.Machine.execInboundMailboxWrite fn offset data s

end Sys2Proof.Machine
end

