-- ==== Sys2Proof/Safety.lean ====
section
/-! DEFINITION. What the statements speak of: the canonical form of the tables, a step that runs on, the parts a state is
made of and what it means that a part is unchanged. -/

set_option linter.unusedVariables false

namespace Sys2Proof.Machine

/-- The register store, the direct windows and the inbound mailboxes are in their canonical form. -/
def State.wf (s : State) : Bool :=
  tabWf regDefault s.regs && tabWf (fun _ => 0#8) s.window && tabWf (fun _ => 0#8) s.inbox

/-- A step runs on: it neither faults nor refuses. -/
def completes (o : Host.Outcome State Fault Refusal) : Prop := ∃ t, o = .next t

/-- The parts of the state: each register with all its elements, and each other field of `State`. -/
inductive Part where
  | reg (r : Reg)
  | pending | now | fresh | out | flt | links | pin | gaz | dat | mgmt
  | pwr | ports | fns | ctls | sqs | cqs | cmds | cpls | classes | buckets
  | window | inbox | mbx | ops | nextHandle | stats | media | plt | atl | svy
  | par | fch | trv | lanes | bays | til | dram | cip | ctr | por
  | srv | start
  deriving DecidableEq, Repr

/-- The parts a unit's fault may reach: the report, the fence and all that a fence moves, ends or stops. -/
def faultParts : List Part :=
  [.atl, .bays, .buckets, .cip, .classes, .cmds, .cpls, .cqs, .ctls, .dram, .fch, .flt, .fns, .gaz, .inbox, .lanes,
   .mbx, .media, .mgmt, .ops, .out, .par, .pin, .plt, .por, .ports, .pwr, .start, .reg .ATL_EVENTS, .reg .ATL_JRNL_WM,
   .reg .ATL_STEER, .reg .CHR_ALERT_STATUS] ++
  [.reg .CIP_EVENTS, .reg .DRC_CH_EVENTS, .reg .FLT_PIN_CTL, .reg .GAZ_COUNTS, .reg .HST_DCS_WIN, .reg .HST_FN_CTRL,
   .reg .HST_FN_EVENTS, .reg .HST_GAZ_PAGE, .reg .HST_PROMISE_EVENTS, .reg .LDP_CNT_UNCORR, .reg .LDP_EVENTS, .reg .LEG_EVENTS, .reg .MBX_EVENTS,
   .reg .PAR_EVENTS, .reg .PAR_JRNL_WM, .reg .PLT_EVENTS, .reg .PLT_FLOOR_RD, .reg .PLT_FLOOR_WR, .reg .PLT_RECON,
   .reg .PWR_EVENTS, .reg .SHB_IND, .reg .SRV_EVENTS, .reg .SRV_LAST_SIG_HI, .reg .SRV_LAST_SIG_LO,
   .reg .SRV_LAST_UNIT, .reg .SVY_MEDIA_EVENTS, .reg .TIL_POOL_WM, .sqs, .srv, .svy, .til, .trv, .window]

/-- The registers with fields that a read clears (R6). -/
def rcParts : List Part :=
  [.reg .PLT_STALE, .reg .PLT_RECON, .reg .ATL_JRNL_WM, .reg .ATL_CAS_FAIL, .reg .SVY_FREE_WM, .reg .TIL_ECC,
   .reg .TIL_POOL_WM, .reg .DRC_PORT_STATUS, .reg .DRC_CH_ECC, .reg .CIP_CNT_AUTH, .reg .PAR_JRNL_WM, .reg .PAR_LOST,
   .reg .LDP_CNT_HARD_FAIL, .reg .LDP_CNT_SOFT_OK, .reg .LDP_CNT_LADDER_OK, .reg .LDP_CNT_UNCORR,
   .reg .CTR_ROUND_CNT, .reg .CTR_TEMP_WM, .reg .CHR_MGMT_ERR, .reg .CHR_LINK_STAT, .reg .GAZ_COUNTS,
   .reg .UPD_RELAY_CNT, .reg .HST_DEADLINE_MISS]

/-- What a device reset may change: every part but the queue and the clock. -/
def resetParts : List Part :=
  [.fresh, .out, .flt, .links, .pin, .gaz, .dat, .mgmt, .pwr, .ports, .fns, .ctls, .sqs, .cqs, .cmds, .cpls, .classes,
   .buckets, .window, .inbox, .mbx, .ops, .nextHandle, .stats, .media, .plt, .atl, .svy, .par, .fch, .trv, .lanes, .bays,
   .til, .dram, .cip, .ctr, .por, .srv, .start] ++ Reg.all.map .reg

/-- A part reads the same in both states. -/
def Part.same (s t : State) : Part → Prop
  | .reg r => ∀ i, t.rg r i = s.rg r i
  | .pending => t.pending = s.pending
  | .now => t.now = s.now
  | .fresh => t.fresh = s.fresh
  | .out => t.out = s.out
  | .flt => t.flt = s.flt
  | .links => t.links = s.links
  | .pin => t.pin = s.pin
  | .gaz => t.gaz = s.gaz
  | .dat => t.dat = s.dat
  | .mgmt => t.mgmt = s.mgmt
  | .pwr => t.pwr = s.pwr
  | .ports => t.ports = s.ports
  | .fns => t.fns = s.fns
  | .ctls => t.ctls = s.ctls
  | .sqs => t.sqs = s.sqs
  | .cqs => t.cqs = s.cqs
  | .cmds => t.cmds = s.cmds
  | .cpls => t.cpls = s.cpls
  | .classes => t.classes = s.classes
  | .buckets => t.buckets = s.buckets
  | .window => t.window = s.window
  | .inbox => t.inbox = s.inbox
  | .mbx => t.mbx = s.mbx
  | .ops => t.ops = s.ops
  | .nextHandle => t.nextHandle = s.nextHandle
  | .stats => t.stats = s.stats
  | .media => t.media = s.media
  | .plt => t.plt = s.plt
  | .atl => t.atl = s.atl
  | .svy => t.svy = s.svy
  | .par => t.par = s.par
  | .fch => t.fch = s.fch
  | .trv => t.trv = s.trv
  | .lanes => t.lanes = s.lanes
  | .bays => t.bays = s.bays
  | .til => t.til = s.til
  | .dram => t.dram = s.dram
  | .cip => t.cip = s.cip
  | .ctr => t.ctr = s.ctr
  | .por => t.por = s.por
  | .srv => t.srv = s.srv
  | .start => t.start = s.start

/-- Every part but those listed reads the same in both states. -/
def keepsBut (l : List Part) (s t : State) : Prop := ∀ p, p ∉ l → p.same s t

/-- The mailbox opcodes of Tables 13-3 to 13-12: for each command its request and what the catalogue says of it: the opcode, the
lowest version that provides it, whether a VF may use it, the lengths of its request, and whether it answers with a handle. -/
def request : Instr → Option (MbxReq × ReqForm)
  | .hello q => some (q, ⟨0x0001, 1, true, 20, 20, false⟩)
  | .goodbye q => some (q, ⟨0x0002, 1, true, 0, 0, false⟩)
  | .opStatus q => some (q, ⟨0x0003, 2, true, 4, 4, false⟩)
  | .deviceInfo q => some (q, ⟨0x0004, 1, true, 0, 0, false⟩)
  | .classGet q => some (q, ⟨0x0101, 1, true, 1, 1, false⟩)
  | .classSet q => some (q, ⟨0x0102, 1, false, 40, 40, false⟩)
  | .maskSet q => some (q, ⟨0x0103, 1, false, 16, 16, false⟩)
  | .defaultSet q => some (q, ⟨0x0104, 1, true, 2, 2, false⟩)
  | .queueBind q => some (q, ⟨0x0105, 1, true, 4, 4, false⟩)
  | .floorsGet q => some (q, ⟨0x0106, 1, true, 0, 0, false⟩)
  | .quotaSet q => some (q, ⟨0x0107, 1, false, 4, 4, false⟩)
  | .reserveSet q => some (q, ⟨0x0108, 3, false, 8, 8, false⟩)
  | .poolCreate q => some (q, ⟨0x0201, 1, false, 16, 16, false⟩)
  | .poolResize q => some (q, ⟨0x0202, 1, false, 16, 16, false⟩)
  | .poolDelete q => some (q, ⟨0x0203, 1, false, 1, 1, false⟩)
  | .nsCreate q => some (q, ⟨0x0204, 1, false, 16, 16, false⟩)
  | .nsResize q => some (q, ⟨0x0205, 1, false, 16, 16, false⟩)
  | .nsDelete q => some (q, ⟨0x0206, 1, false, 4, 4, false⟩)
  | .nsAttach q => some (q, ⟨0x0207, 1, false, 5, 5, false⟩)
  | .nsDetach q => some (q, ⟨0x0208, 1, false, 5, 5, false⟩)
  | .nsList q => some (q, ⟨0x0209, 1, false, 4, 4, false⟩)
  | .nsInfo q => some (q, ⟨0x020A, 1, false, 4, 4, false⟩)
  | .keyImport q => some (q, ⟨0x0301, 1, true, 8, 80, false⟩)
  | .rekey q => some (q, ⟨0x0302, 3, true, 8, 80, true⟩)
  | .keyErase q => some (q, ⟨0x0303, 1, true, 2, 2, false⟩)
  | .slotAssign q => some (q, ⟨0x0304, 1, false, 5, 5, false⟩)
  | .keyStatus q => some (q, ⟨0x0305, 1, true, 2, 2, false⟩)
  | .unlockChallenge q => some (q, ⟨0x0306, 1, false, 0, 0, false⟩)
  | .unlockResponse q => some (q, ⟨0x0307, 1, false, 37, 548, false⟩)
  | .gazRead q => some (q, ⟨0x0401, 1, true, 4, 4, false⟩)
  | .gazClear q => some (q, ⟨0x0402, 1, true, 0, 0, false⟩)
  | .gazLayout q => some (q, ⟨0x0403, 1, false, 1, 1, false⟩)
  | .datumGet q => some (q, ⟨0x0404, 1, true, 0, 0, false⟩)
  | .datumSet q => some (q, ⟨0x0405, 1, false, 8, 8, false⟩)
  | .datumAlarm q => some (q, ⟨0x0406, 3, false, 8, 8, false⟩)
  | .sheetStatus q => some (q, ⟨0x0501, 1, false, 0, 0, false⟩)
  | .sheetOffer q => some (q, ⟨0x0502, 1, false, 1, 1, false⟩)
  | .sheetRemove q => some (q, ⟨0x0503, 2, false, 1, 1, true⟩)
  | .sheetAbort q => some (q, ⟨0x0504, 1, false, 1, 1, false⟩)
  | .sheetIdentity q => some (q, ⟨0x0505, 1, false, 1, 1, false⟩)
  | .updBegin q => some (q, ⟨0x0601, 2, false, 12, 12, false⟩)
  | .updChunk q => some (q, ⟨0x0602, 2, false, 4104, 4104, false⟩)
  | .updEnd q => some (q, ⟨0x0603, 2, false, 0, 0, true⟩)
  | .updSchedule q => some (q, ⟨0x0604, 2, false, 16, 16, false⟩)
  | .updCancel q => some (q, ⟨0x0605, 2, false, 4, 4, false⟩)
  | .updStatus q => some (q, ⟨0x0606, 2, false, 0, 0, false⟩)
  | .surveyStart q _ _ => some (q, ⟨0x0701, 2, false, 6, 6, true⟩)
  | .unitReset q _ => some (q, ⟨0x0702, 2, false, 4, 4, true⟩)
  | .faultGet q => some (q, ⟨0x0703, 1, false, 4, 4, false⟩)
  | .faultMask q => some (q, ⟨0x0704, 1, false, 8, 8, false⟩)
  | .faultPin q => some (q, ⟨0x0705, 1, false, 4, 4, false⟩)
  | .envelopeSet q => some (q, ⟨0x0801, 1, false, 68, 68, false⟩)
  | .powerStatus q => some (q, ⟨0x0802, 1, true, 0, 0, false⟩)
  | .modeRequest q => some (q, ⟨0x0803, 1, false, 1, 1, false⟩)
  | .holdupTest q => some (q, ⟨0x0804, 3, false, 0, 0, true⟩)
  | .thermalGet q => some (q, ⟨0x0805, 3, true, 0, 0, false⟩)
  | .inject q => some (q, ⟨0x0901, 1, false, 6, 6, false⟩)
  | .diagClose q => some (q, ⟨0x0902, 1, false, 0, 0, false⟩)
  | .mailboxInvalidOpcode q op => some (q, ⟨op, 1, true, 0, 65536, false⟩)
  | _ => none

/-! ### What a statement says of a run -/

/-- The command runs, and `P` holds of the state it leaves: the conclusion of every completion statement. -/
def leads (i : Instr) (s : State) (P : State → Prop) : Prop := ∃ t, exec i s = .next t ∧ P t

/-- The answer `o` left the device on the way from `s` to `t`. -/
def sent (s t : State) (o : Out) : Prop := ∃ l, t.out = l ++ s.out ∧ o ∈ l

/-- Nothing was decided for any command's completion queue but the entry `c`, which joins the entries that wait. -/
def posts (s t : State) (c : Cpl) : Prop := t.cpls = s.cpls ++ [c]

/-- The first segment of the response to a request left the device (R400, R403, R407). -/
def answers (s t : State) (q : MbxReq) (op st : Nat) (isAsync : Bool) (payload : List Nat) : Prop :=
  sent s t (.mbxSegment q.path (mbHeader (s.mb q.path).respVersion op q.tag st payload.length
    (decide (4080 < payload.length)) isAsync false ++ payload.take 4080))

/-- A request is carried out: its mailbox is served, no session of it has ended, its function has not been reset since it
was taken, and the common checks of chapter 13 pass it. -/
def carriedOut (s : State) (q : MbxReq) (f : ReqForm) : Prop :=
  s.mbxServed q.path = true ∧ (s.mb q.path).ended = false ∧ (s.mb q.path).dropResp = false ∧ s.preCheck q f = none

/-- What an answer to a request may change: the mailbox, its handles, its events and their vectors and alerts. -/
def mbxParts : List Part := [.fns, .mbx, .mgmt, .ops, .out, .reg .CHR_ALERT_STATUS, .reg .MBX_EVENTS]

/-- What a Gazetteer record may change: the Gazetteer and its alert. -/
def recordParts : List Part := [.gaz, .mgmt, .out, .reg .CHR_ALERT_STATUS, .reg .GAZ_COUNTS]

/-- What an event bit may change beside its own register: a record, its alert, a pending vector. -/
def eventParts : List Part := .fns :: recordParts

/-- The same fault words at every unit but one. -/
def otherUnits (s t : State) (b i : Nat) : Prop := ∀ b' i', unitKey b' i' ≠ unitKey b i → t.unit b' i' = s.unit b' i'

/-- A bay stands in a state, with the outputs Table 10-3 gives it. -/
def inBayState (t : State) (b : Nat) (st : BayState) : Prop :=
  (t.bay b).st = st ∧ (t.bay b).pwrEn = st.pwrEn ∧ (t.bay b).attn = st.attn ∧ (t.bay b).pwrInd = st.pwrInd

/-- No other bay has changed. -/
def otherBays (s t : State) (b : Nat) : Prop := ∀ k, k ≠ b → t.bay k = s.bay k

/-- What a bay's own move may change: the bays, the write protection of its channels, its indicator's ownership, one record. -/
def bayParts : List Part := .bays :: .fch :: .reg .SHB_IND :: recordParts

/-- Nothing of a function's work is left after its reset (R353): no command, no completion entry, no queue, its controller as at
reset, its mailbox without a session. -/
def functionCleared (t : State) (f : Nat) : Prop :=
  (∀ c ∈ t.cmds, c.fn ≠ f) ∧ (∀ c ∈ t.cpls, c.fn ≠ f) ∧ (∀ q, q < 1024 → t.sqOf f q = none ∧ t.cqOf f q = none) ∧
    t.ctl f = Ctl.reset ∧ (t.mb f).version = 0

/-- What the reset of a function may change. -/
def resetFnParts : List Part :=
  [.atl, .buckets, .cmds, .cpls, .cqs, .ctls, .fns, .gaz, .inbox, .lanes, .mbx, .mgmt, .out, .plt, .por, .pwr, .sqs, .til,
   .window, .reg .CHR_ALERT_STATUS, .reg .GAZ_COUNTS, .reg .HST_DCS_WIN, .reg .HST_FN_CTRL, .reg .HST_FN_EVENTS,
   .reg .HST_GAZ_PAGE, .reg .HST_PROMISE_EVENTS, .reg .MBX_EVENTS, .reg .TIL_POOL_WM]

/-- An admin command's completion is decided: its status, and Dword 0. -/
def adminPosts (s t : State) (a : AdminHdr) (status : Nat) (dw0 : W32) : Prop :=
  posts s t ⟨a.fn, 0, a.cid, 0, status, dnrOf status, dw0⟩

/-- What an admin command's completion may change: its entry, the data it returns, its controller's error log. -/
def adminParts : List Part := [.cpls, .ctls, .out]

/-- No other controller has changed. -/
def otherCtls (s t : State) (f : Nat) : Prop := ∀ g, g ≠ f → t.ctl g = s.ctl g

/-- No queue but those named has changed. -/
def otherSqs (s t : State) (f q : Nat) : Prop := ∀ k, k ≠ qKey f q → tabGet (fun _ => none) t.sqs k = tabGet (fun _ => none) s.sqs k
def otherCqs (s t : State) (f q : Nat) : Prop := ∀ k, k ≠ qKey f q → tabGet (fun _ => none) t.cqs k = tabGet (fun _ => none) s.cqs k

/-- No outstanding command of a function is accepted. -/
def noneAccepted (s : State) (f : Nat) : Prop := ∀ c ∈ s.cmds, c.fn = f → c.accepted = false

/-- The I/O commands of Table 12-3: the entry, its opcode, whether it is a deallocate, and its ranges. -/
def ioForm : Instr → Option (IoEntry × Nat × Bool × List (Nat × Nat))
  | .read e => some (e, 0x02, false, [])
  | .write e => some (e, 0x01, false, [])
  | .flush e => some (e, 0x00, false, [])
  | .writeUncorrectable e => some (e, 0x04, false, [])
  | .compare e => some (e, 0x05, false, [])
  | .writeZeroes e => some (e, 0x08, e.deac, if e.deac then [(e.slba, e.nlb + 1)] else [])
  | .datasetManagement e ad ranges => some (e, 0x09, ad, ranges)
  | .verify e => some (e, 0x0C, false, [])
  | _ => none

/-- A command's completion is decided with a status, whatever its Dword 0. -/
def postsStatus (s t : State) (fn sq cid cq status : Nat) : Prop := ∃ d, posts s t ⟨fn, sq, cid, cq, status, dnrOf status, d⟩

/-- No other segment's place in the directory has changed. -/
def otherDirs (s t : State) (k : Nat) : Prop := ∀ j, j ≠ k → t.dirOf j = s.dirOf j

/-- What an update of the map may change: the map with its staging and journal, bands' counts, a watermark and its report. -/
def mapParts : List Part := [.atl, .pwr, .svy, .reg .ATL_JRNL_WM] ++ eventParts

/-- The T-words (Table 08-3): the die whose context runs the word, the word, how it was fetched, the class it belongs to. -/
def tWord : Instr → Option (Nat × BitVec 128 × Fetch × Nat)
  | .nop d w f => some (d, w, f, 0x00)
  | .wait d w f => some (d, w, f, 0x01)
  | .restore d w f => some (d, w, f, 0x02)
  | .msg d w f => some (d, w, f, 0x03)
  | .idle d w f => some (d, w, f, 0x04)
  | .cmd d w f => some (d, w, f, 0x10)
  | .addr d w f => some (d, w, f, 0x11)
  | .statIn d w f _ => some (d, w, f, 0x12)
  | .pins d w f => some (d, w, f, 0x13)
  | .move d w f => some (d, w, f, 0x14)
  | _ => none

/-- The context's engine issues the word now, and it passes every check of R262, R263 and R265. -/
def carried (s : State) (d : Nat) (w : BitVec 128) (f : Fetch) : Prop :=
  s.issues d w = true ∧ f ≠ .failed ∧ twParityOk w = true ∧ twBad w = false ∧ (s.ctxOf d).overruns w f = false

/-- What a word fetched again may change beside its own effect: PARITY_RETRY and a CORRECTED fault of its engine (R265). -/
def fetchParts (f : Fetch) : List Part := if f = .retried then .reg .TRV_ENG :: .flt :: eventParts else []

/-- A word has ended with `P` at its boundary; unless it is chained the bus is free there and the first pending request is taken (R258, R262,
R271). -/
def wordEnds (t : State) (d : Nat) (w : BitVec 128) (P : State → Prop) : Prop :=
  ∃ u, P u ∧ t = if twAtomic w || twLock w then u else ((u.freeBus d).grantMover (dieChan d)).boundary d

/-- Counters and LONG after a word (R261). -/
def counted (x : Ctx) (u : State) (d : Nat) (w : BitVec 128) : Prop := (u.ctxOf d).c = x.counted w ∧ (u.ctxOf d).long = x.longAfter w

/-- The end of a word (R261): counters and LONG, and the next address by its condition on the state the word leaves. -/
def sequenced (x : Ctx) (u : State) (d : Nat) (w : BitVec 128) : Prop :=
  counted x u d w ∧ (u.ctxOf d).pc = (if u.condition d w then twAlt w else twNext w) ∧
    (twCond w = 0x00 → w.getLsbD 19 = false → (u.ctxOf d).pc = twNext w) ∧
    (twCond w = 0x01 → w.getLsbD 19 = false → (u.ctxOf d).pc = twAlt w) ∧
    (twCond w = 0x01 → w.getLsbD 19 = true → (u.ctxOf d).pc = twNext w) ∧
    (∀ k, k < 4 → twCond w = 0x02 + k → w.getLsbD 19 = false → (u.ctxOf d).pc = if (x.counted w).getD k 0 = 0 then twAlt w else twNext w)

/-- A handler is entered at an address of Table 08-6. -/
def entered (s t : State) (d a : Nat) : Prop :=
  (t.ctxOf d).pc = a ∧ (t.ctxOf d).handler = a ∧ sent s t (.die d 7 (s.fetchAddr 0 a))

/-- No other die context has changed. -/
def otherCtxs (s t : State) (d : Nat) : Prop := ∀ k, k ≠ d → t.ctxOf k = s.ctxOf k

/-- What the check of classes may change (R48). -/
def recheckParts : List Part :=
  [.classes, .cpls, .ctls, .plt, .reg .HST_PROMISE_EVENTS, .reg .PLT_EVENTS, .reg .PLT_FLOOR_RD, .reg .PLT_FLOOR_WR] ++ eventParts

/-- What a new layout may change (R205, R206, R501, R505): the bands, their erases and reserve, the staging budget, the classes. -/
def layoutParts : List Part :=
  [.atl, .media, .par, .plt, .pwr, .svy, .reg .PAR_EVENTS, .reg .PAR_JRNL_WM, .reg .PWR_EVENTS, .reg .SVY_MEDIA_EVENTS] ++ recheckParts

/-- What the re-planning of reads may change (R100). -/
def replanParts : List Part :=
  [.atl, .cmds, .cpls, .ctls, .lanes, .media, .plt, .pwr, .til, .reg .LDP_CNT_UNCORR, .reg .LDP_EVENTS, .reg .PLT_EVENTS, .reg .PLT_RECON,
   .reg .TIL_POOL_WM] ++ eventParts

/-- What the fence of a die may change beside its channel's state: the reads, the bands and the layout with it (R201, R205, R501). -/
def dieFenceParts : List Part :=
  [.fch, .par, .svy, .trv, .out, .reg .PAR_EVENTS, .reg .PAR_JRNL_WM, .reg .PWR_EVENTS, .reg .ATL_JRNL_WM] ++ replanParts

end Sys2Proof.Machine
end

