-- ==== Sys2Proof/WellFormed.lean ====
section
/-! DEFINITION. Well-formed commands: every number the command names a unit by names one the device has (Table 18-2, Table
01-2, R15), and every payload byte is a byte. A meaning holds for every command; this says which ones the outside world
can send. -/

set_option linter.unusedVariables false

namespace Sys2Proof

/-- A function: 0 to 255. -/
def fnOk (f : Nat) : Bool := decide (f < 256)
/-- A list of bytes. -/
def bytesOk (bs : List Nat) : Bool := bs.all (fun b => decide (b < 256))

/-- A mailbox request: path, header fields and payload. -/
def MbxReq.ok (q : MbxReq) : Bool :=
  decide (q.path < 512) && decide (q.version < 256) && decide (q.tag < 65536) && decide (q.length = q.payload.length)
    && bytesOk q.payload

/-- An I/O entry: a function, an I/O queue, and fields within their widths (Table 12-3). -/
def IoEntry.ok (e : IoEntry) : Bool :=
  fnOk e.fn && decide (1 ≤ e.sq ∧ e.sq < 1024) && decide (e.cid < 65536) && decide (e.nsid < 2 ^ 32)
    && decide (e.slba < 2 ^ 64) && decide (e.nlb < 65536) && decide (e.fuse < 4) && decide (e.dtype < 16) && decide (e.check < 5)

/-- An admin command's header. -/
def AdminHdr.ok (a : AdminHdr) : Bool := fnOk a.fn && decide (a.cid < 65536) && decide (a.nsid < 2 ^ 32)

/-- The mailbox request of a command that carries one. -/
def Instr.mbxReq : Instr → Option MbxReq
  | .hello q | .goodbye q | .opStatus q | .deviceInfo q | .classGet q | .classSet q | .maskSet q | .defaultSet q
  | .queueBind q | .floorsGet q | .quotaSet q | .reserveSet q | .poolCreate q | .poolResize q | .poolDelete q
  | .nsCreate q | .nsResize q | .nsDelete q | .nsAttach q | .nsDetach q | .nsList q | .nsInfo q | .keyImport q
  | .rekey q | .keyErase q | .slotAssign q | .keyStatus q | .unlockChallenge q | .unlockResponse q | .gazRead q
  | .gazClear q | .gazLayout q | .datumGet q | .datumSet q | .datumAlarm q | .sheetStatus q | .sheetOffer q
  | .sheetRemove q | .sheetAbort q | .sheetIdentity q | .updBegin q | .updChunk q | .updEnd q | .updSchedule q
  | .updCancel q | .updStatus q | .surveyStart q _ _ | .unitReset q _ | .faultGet q | .faultMask q | .faultPin q
  | .envelopeSet q | .powerStatus q | .modeRequest q | .holdupTest q | .thermalGet q | .inject q | .diagClose q
  | .mailboxInvalidOpcode q _ => some q
  | _ => none

/-- The I/O entry of a command that carries one. -/
def Instr.ioEntry : Instr → Option IoEntry
  | .read e | .write e | .flush e | .writeUncorrectable e | .compare e | .writeZeroes e | .verify e
  | .datasetManagement e _ _ | .ioInvalidOpcode e _ => some e
  | _ => none

/-- The admin header of a command that carries one. -/
def Instr.adminHdr : Instr → Option AdminHdr
  | .deleteIoSubmissionQueue a _ | .createIoSubmissionQueue a _ _ _ _ | .getLogPage a _ _ _ _ _
  | .deleteIoCompletionQueue a _ | .createIoCompletionQueue a _ _ _ _ _ | .identify a _ _ | .abort a _ _
  | .setFeatures a _ _ _ _ | .getFeatures a _ _ _ | .asynchronousEventRequest a | .formatNvm a _ _ _ _ _
  | .adminInvalidOpcode a _ => some a
  | _ => none

/-- The die a command names. -/
def Instr.die : Instr → Option Nat
  | .dieOperationComplete d _ | .pollTimeout d _ | .runTimerExpiry d | .suspendLong d | .nop d _ _ | .wait d _ _
  | .waitEnd d | .restore d _ _ | .msg d _ _ | .idle d _ _ | .cmd d _ _ | .addr d _ _ | .statIn d _ _ _ | .pins d _ _
  | .move d _ _ | .moverBurstComplete d _ | .dieFenceRequest d | .dieReleaseRequest d _ | .dieSuspendRequest d _
  | .dieStartRequest d _ | .dieResume d | .dieHandover d _ | .dieTakeover d _ _ => some d
  | _ => none

/-- The sheet bay a command names. -/
def Instr.bay : Instr → Option Nat
  | .presenceEdge b _ | .presenceDebounced b | .buttonPress b | .bayPowerStart b | .pwrgdRise b | .pwrgdTimeout b
  | .pwrgdFall b | .identityCheck b _ _ | .bayDiscoveryEnd b | .bayOffer b | .abortWindowExpiry b
  | .refusalBlinkEnd b | .shbIndWrite b _ | .absentHoldExpiry b | .evacuation b => some b
  | _ => none

/-- The function a command names. -/
def Instr.fn : Instr → Option Nat
  | .sqDoorbellWrite f _ _ | .cqDoorbellWrite f _ _ | .sqEntryFetch f _ | .plotAdmit f _ _ | .hostReadCompletion f _ _
  | .hostAllowanceExpiry f _ _ | .completionTimeout f _ _ | .hostReadError f _ _ _ | .completionEntrySent f _ _
  | .coalescingTimerExpiry f _ | .hostStage f _ _ _ | .flr f | .barSizeWrite f _ | .cmbmscWrite f _ _ | .msixUnmask f _
  | .gazRecordLatchRead f _ | .poisonedWrite f _ | .atsInvalidate f _ | .ccEnSet f _ _ _ _ | .ccEnClear f | .ccShnWrite f _
  | .asyncEventReport f _ | .ring f | .respDone f | .mbxVectorWrite f _ | .flowControlCredit f _ _ _
  | .atsTranslationCompletion f _ _ _ _ | .directWindowWrite f _ _ | .inboundMailboxWrite f _ _ => some f
  | _ => none

/-- The flash channel a command names. -/
def Instr.chan : Instr → Option Nat
  | .channelDiscovery c _ | .channelTraining c _ | .retrainStep c _ | .retrainLate c | .fchCfgWrite c _ => some c
  | _ => none

/-- The DRAM channel a command names. -/
def Instr.dramChan : Instr → Option Nat
  | .dramRequest c _ | .dramIssueSlot c | .dramRefreshDue c _ _ | .dramMaintenanceDue c _ | .dramUe c _ _ _ _
  | .dramReadReturn c _ _ => some c
  | _ => none

/-- The PCIe port a command names. -/
def Instr.port : Instr → Option Nat
  | .conventionalReset p _ | .perstRelease p | .vfEnableWrite p _ _ _ | .receivedTlpError p _ _ | .linkRateChange p _ _ _ => some p
  | _ => none

/-- The tile a command names. -/
def Instr.tile : Instr → Option Nat
  | .tileRelease t | .addRef t | .tileSramUe t _ => some t
  | _ => none

/-- The tile pool a command names. -/
def Instr.tilePool : Instr → Option Nat
  | .tileReserve p _ | .tileUnreserve p _ | .allocReserved p _ | .allocSpot p _ => some p
  | _ => none

/-- A number a command may name lies below a bound. -/
def below (n : Option Nat) (b : Nat) : Bool := (n.map (fun k => decide (k < b))).getD true

/-- A well-formed command: every number it names names something the device has, every payload byte is a byte. -/
def Instr.wf (i : Instr) : Bool :=
  (i.mbxReq.map MbxReq.ok).getD true && (i.ioEntry.map IoEntry.ok).getD true && (i.adminHdr.map AdminHdr.ok).getD true
    && below i.die 2048 && below i.bay 16 && below i.fn 256 && below i.chan 128 && below i.dramChan 12 && below i.port 2
    && below i.tile 4096 && below i.tilePool 8

end Sys2Proof
end

