-- ==== Sys2Proof/Certificates/Slice0/Obligations.lean ====
section
/-! DEFINITION. The statements for the provers. `leads i s P` says that exec i s answers a next state and P holds of it;
`keepsBut l s t` says that every part of the state outside l reads the same in s and t (the frame). -/

open Sys2Proof Sys2Proof.Machine

/-! ### Faults, fences and FAULT_N (chapter 18), die links (chapter 1) -/

/-- FAULT_N (R549 to R551): outside a pulse it is driven low exactly when LEVEL is 1, while the device stands neither stopped, nor in
VAULT, nor in reset under TESTMODE; REARM sets ARMED. The first UNIT-class fault while ARMED pulses it and clears ARMED, a further one neither restarts the pulse nor
sets ARMED: said of FENCE of a Plotter lane or Surveyor core. -/
def Obligations.FaultPinFollowsLevelAndPulsesOnce : Prop :=
  (∀ (s : State) (b : Bool),
  s.pwr.mode ≠ .stopped → s.pwr.mode ≠ .vault → s.start.testHeld = false →
    (leads .pulseEnd s fun t => t.pin.pulsing = false ∧ t.faultNLow = decide (s.fld F.FLT_PIN_CTL_LEVEL 0 = 1) ∧
      keepsBut [.pin] s t) ∧
    (leads (.levelWrite b) s fun t => (s.pin.pulsing = false → t.faultNLow = b) ∧
      (s.pin.pulsing = true → t.faultNLow = true) ∧ t.fld F.FLT_PIN_CTL_LEVEL 0 = b2n b ∧
      t.fld F.FLT_PIN_CTL_ARMED 0 = s.fld F.FLT_PIN_CTL_ARMED 0 ∧
      t.fld F.FLT_PIN_CTL_PULSE_MS 0 = s.fld F.FLT_PIN_CTL_PULSE_MS 0 ∧ keepsBut [.reg .FLT_PIN_CTL] s t) ∧
    (leads .rearm s fun t => t.fld F.FLT_PIN_CTL_ARMED 0 = 1 ∧ t.faultNLow = s.faultNLow ∧
      t.fld F.FLT_PIN_CTL_PULSE_MS 0 = s.fld F.FLT_PIN_CTL_PULSE_MS 0 ∧ keepsBut [.reg .FLT_PIN_CTL] s t)) ∧
  (∀ (s : State) (b i : Nat),
  b = 0x030 ∨ b = 0x050 → i < unitCount b → s.fenced b i = false → (s.unit b i).isolated = false → s.tooFew b = false →
    leads (.fence b i) s fun t =>
      (s.fld F.FLT_PIN_CTL_ARMED 0 = 1 → s.pin.pulsing = false → t.pin.pulsing = true ∧ t.fld F.FLT_PIN_CTL_ARMED 0 = 0) ∧
      (s.fld F.FLT_PIN_CTL_ARMED 0 = 0 → t.pin.pulsing = s.pin.pulsing ∧ t.fld F.FLT_PIN_CTL_ARMED 0 = 0) ∧
      (s.pin.pulsing = true → t.pin.pulsing = true ∧ t.fld F.FLT_PIN_CTL_ARMED 0 = s.fld F.FLT_PIN_CTL_ARMED 0))

/-- FENCE of a unit that can be fenced fences and indicates it in the same step, with cause SOFTWARE_FENCE, class UNIT and the UNIT event
bit; a unit without a fence, or fenced already, ignores it. A CORRECTED or CONTAINED fault raises its count, saturating at 255, with
LAST_CLASS, LAST_CAUSE and its event bit, and fences nothing; one of the tile SRAM counts in TIL_ECC too; CNT_CLEAR zeroes both counts. An isolated instance reports nothing; an
indication ends only after the fence. -/
def Obligations.FaultsAreCountedFencedAndIndicated : Prop :=
  (∀ (s : State) (b i : Nat),
  (hasFence b = true → i < unitCount b → s.fenced b i = false → (s.unit b i).isolated = false → s.tooFew b = false →
    leads (.fence b i) s fun t => t.fenced b i = true ∧ (t.unit b i).ind = true ∧ (t.unit b i).lastCause = 0x16 ∧
      (t.unit b i).lastClass = 3 ∧ (t.unit b i).ev.getLsbD 5 = true ∧ keepsBut faultParts s t) ∧
  (hasFence b = false ∨ unitCount b ≤ i ∨ s.fenced b i = true → exec (.fence b i) s = .next s)) ∧
  (∀ (s : State) (b i c sub : Nat), i < unitCount b →
  (s.fenced b i = false → (s.unit b i).isolated = false → causeClass b c = .corrected →
    leads (.faultDetected ⟨b, i, c, sub, false, none⟩) s fun t =>
      (t.unit b i).corr = min 255 ((s.unit b i).corr + 1) ∧ (t.unit b i).cont = (s.unit b i).cont ∧
      (t.unit b i).lastClass = 1 ∧ (t.unit b i).lastCause = c ∧ (t.unit b i).ev.getLsbD 3 = true ∧
      (b = 0x060 → c = 0x01 → t.fld F.TIL_ECC_CE 0 = satAdd 0xFFFF (s.fld F.TIL_ECC_CE 0) 1) ∧
      t.fenced b i = false ∧ otherUnits s t b i ∧ keepsBut (.flt :: .reg .TIL_ECC :: recordParts) s t) ∧
  (s.fenced b i = false → (s.unit b i).isolated = false → causeClass b c = .contained →
    leads (.faultDetected ⟨b, i, c, sub, false, none⟩) s fun t =>
      (t.unit b i).cont = min 255 ((s.unit b i).cont + 1) ∧ (t.unit b i).corr = (s.unit b i).corr ∧
      (t.unit b i).lastClass = 2 ∧ (t.unit b i).lastCause = c ∧ (t.unit b i).ev.getLsbD 4 = true ∧
      t.fenced b i = false ∧ otherUnits s t b i ∧ keepsBut (.flt :: recordParts) s t) ∧
  (leads (.cntClear b i) s fun t => t.unit b i = { s.unit b i with corr := 0, cont := 0 } ∧ otherUnits s t b i ∧
    keepsBut [.flt] s t)) ∧
  (∀ (s : State) (b i c sub : Nat),
  ((s.unit b i).isolated = true → exec (.faultDetected ⟨b, i, c, sub, false, none⟩) s = .next s) ∧
  (s.fenced b i = true → exec (.fenceIndRelease b i) s = .next s) ∧
  (s.fenced b i = false → leads (.fenceIndRelease b i) s fun t => (t.unit b i).ind = false ∧
    ((s.unit b i).ind = true → ∀ e ∈ t.flt, unitKey b i ∉ e.2.partners) ∧
    (∀ b' i', t.fenced b' i' = s.fenced b' i') ∧ keepsBut [.flt] s t))

/-- GO and INJECT start the injection they name, with N transactions, while field access is open and Table 18-5 permits it; GO sets BUSY
where the checker has transactions left and REFUSED otherwise; DIAG_CLOSE closes field access. FAULT_GET returns the fault words of the
unit it names, FAULT_MASK sets its mask, FAULT_PIN sets PULSE_MS, LEVEL and, with REARM, ARMED; a unit Table 18-2 does not list receives
UNKNOWN_UNIT and PULSE_MS below 10 INVALID_FIELD. -/
def Obligations.InjectionsAndFaultRequests : Prop :=
  (∀ (s : State),
  (∀ (path : Path) (b i c n : Nat) (single : Bool),
    s.fld F.FLT_INJ_SEL_BLOCK (pathNum path) = b → s.fld F.FLT_INJ_SEL_INSTANCE (pathNum path) = i →
    s.fld F.FLT_INJ_SEL_CHECKER (pathNum path) = c → decide (s.fld F.FLT_INJ_SEL_SINGLE (pathNum path) = 1) = single →
    s.fld F.FLT_INJ_CTL_N (pathNum path) = n →
      (s.cip.open_ = true → unitOk b i = true → injectOk b c single n = true → s.injBusy b i c = false →
        leads (.go path) s fun t => (⟨c, n, single⟩ : Injection) ∈ (t.unit b i).inj ∧ t.injBusy b i c = true ∧
          otherUnits s t b i ∧ keepsBut [.flt] s t) ∧
      (s.cip.open_ = true → unitOk b i = true → injectOk b c single n = true → s.injBusy b i c = true →
        leads (.go path) s fun t => t.fld F.FLT_INJ_STATUS_BUSY 0 = 1 ∧ keepsBut [.reg .FLT_INJ_STATUS] s t) ∧
      (s.cip.open_ = false ∨ unitOk b i = false ∨ injectOk b c single n = false →
        leads (.go path) s fun t => t.fld F.FLT_INJ_STATUS_REFUSED 0 = 1 ∧ keepsBut [.reg .FLT_INJ_STATUS] s t)) ∧
  (∀ q : MbxReq, carriedOut s q ⟨0x0901, 1, false, 6, 6, false⟩ →
    let b := le q.payload 0 2
    let i := le q.payload 2 2
    let k := q.payload.getD 4 0 % 16
    let single := decide (q.payload.getD 4 0 / 128 % 2 = 1)
    let n := q.payload.getD 5 0
    (s.cip.open_ = true → unitOk b i = true → q.payload.getD 4 0 / 16 % 8 = 0 → injectOk b k single n = true →
      s.injBusy b i k = false →
      leads (.inject q) s fun t => answers s t q 0x0901 Ms.success false [] ∧
        (⟨k, n, single⟩ : Injection) ∈ (t.unit b i).inj ∧ otherUnits s t b i ∧ keepsBut (.flt :: mbxParts) s t) ∧
    (s.cip.open_ = false →
      leads (.inject q) s fun t => answers s t q 0x0901 Ms.closed false [] ∧ keepsBut mbxParts s t)) ∧
  (∀ q : MbxReq, carriedOut s q ⟨0x0902, 1, false, 0, 0, false⟩ →
    leads (.diagClose q) s fun t => answers s t q 0x0902 Ms.success false [] ∧ t.cip.open_ = false ∧
      t.flt = s.flt ∧ keepsBut (.cip :: mbxParts) s t)) ∧
  (∀ (s : State) (q : MbxReq),
  let b := le q.payload 0 2
  let i := le q.payload 2 2
  (carriedOut s q ⟨0x0703, 1, false, 4, 4, false⟩ →
    (unitOk b i = true → leads (.faultGet q) s fun t =>
      answers s t q 0x0703 Ms.success false
        (bytesLe 4 (s.fltStatus b i).toNat ++ bytesLe 4 (s.fltMask b i).toNat ++ [b2n (s.fenced b i)]) ∧
      keepsBut mbxParts s t) ∧
    (unitOk b i = false → leads (.faultGet q) s fun t => answers s t q 0x0703 Ms.unknownUnit false [] ∧
      keepsBut mbxParts s t)) ∧
  (carriedOut s q ⟨0x0704, 1, false, 8, 8, false⟩ → unitOk b i = true →
    (le q.payload 4 4 % 8 = 0 → le q.payload 4 4 < 512 → leads (.faultMask q) s fun t =>
      answers s t q 0x0704 Ms.success false [] ∧ (t.unit b i).mask = le q.payload 4 4 / 8 ∧
      (t.unit b i).ev = (s.unit b i).ev ∧ t.fenced b i = s.fenced b i ∧ otherUnits s t b i ∧
      keepsBut (.flt :: mbxParts) s t) ∧
    (le q.payload 4 4 % 8 ≠ 0 ∨ 512 ≤ le q.payload 4 4 → leads (.faultMask q) s fun t =>
      answers s t q 0x0704 Ms.invalidField false [] ∧ keepsBut mbxParts s t)) ∧
  (carriedOut s q ⟨0x0705, 1, false, 4, 4, false⟩ →
    let w := BitVec.ofNat 32 (le q.payload 0 4)
    (10 ≤ bits w 15 8 → bits w 31 16 = 0 → bits w 7 4 = 0 → leads (.faultPin q) s fun t =>
      answers s t q 0x0705 Ms.success false [] ∧ t.fld F.FLT_PIN_CTL_PULSE_MS 0 = bits w 15 8 ∧
      t.fld F.FLT_PIN_CTL_LEVEL 0 = bits w 0 0 ∧
      t.fld F.FLT_PIN_CTL_ARMED 0 = (if bits w 2 2 = 1 then 1 else s.fld F.FLT_PIN_CTL_ARMED 0) ∧
      keepsBut (.reg .FLT_PIN_CTL :: mbxParts) s t) ∧
    (bits w 15 8 < 10 → leads (.faultPin q) s fun t => answers s t q 0x0705 Ms.invalidField false [] ∧
      keepsBut mbxParts s t)))

/-- UNIT_RESET of a fenced instance, outside READY: answered at once with a handle, every injection of the instance cancelled, its fault
words at their reset values but for the event bits and counts, its re-qualification running, the fence and its indication kept; an instance whose reset runs receives BUSY, and one without a fence
effect INVALID_FIELD. -/
def Obligations.UnitResetStartsRequalification : Prop := ∀ (s : State) (q : MbxReq) (sibling : Bool),
  let b := le q.payload 0 2
  let i := le q.payload 2 2
  carriedOut s q ⟨0x0702, 2, false, 4, 4, true⟩ → unitOk b i = true →
    (hasFence b = true → b ≠ 0x0C0 → s.fenced b i = true → (s.unit b i).requal = none → s.pwr.mode ≠ .ready →
      leads (.unitReset q sibling) s fun t =>
        answers s t q 0x0702 Ms.success true (bytesLe 4 (0x07 * 2 ^ 24 + s.nextHandle % 2 ^ 24)) ∧
        (t.unit b i).inj = [] ∧ (t.unit b i).requal = some (0x07 * 2 ^ 24 + s.nextHandle % 2 ^ 24) ∧
        t.fenced b i = true ∧ (t.unit b i).ind = (s.unit b i).ind ∧ (t.unit b i).ev = (s.unit b i).ev ∧
        (t.unit b i).corr = (s.unit b i).corr ∧ (t.unit b i).cont = (s.unit b i).cont ∧ (t.unit b i).mask = 1 ∧
        (t.unit b i).lastClass = 0 ∧ (t.unit b i).lastCause = 0 ∧ otherUnits s t b i ∧
        (b ≠ 0x080 → t.cip = s.cip) ∧ (b ≠ 0x0A0 → t.fch = s.fch) ∧
        t.srv.running = s.srv.running ++
          [⟨b, i, 0, 0, some (0x07 * 2 ^ 24 + s.nextHandle % 2 ^ 24), true, false⟩] ∧
        keepsBut (.flt :: .srv :: .nextHandle :: .cip :: .fch :: mbxParts) s t) ∧
    (hasFence b = true → (s.unit b i).requal ≠ none → leads (.unitReset q sibling) s fun t =>
      answers s t q 0x0702 Ms.busy false [] ∧ keepsBut mbxParts s t) ∧
    (hasFence b = false → leads (.unitReset q sibling) s fun t =>
      answers s t q 0x0702 Ms.invalidField false [] ∧ keepsBut mbxParts s t)

/-- FLIT_CRC_ERROR: the receiving end counts the error and the far end the replay; a flit delivered after a replay is a CORRECTED
fault of both ends; the ninth failure of one flit fails the link at both ends and, in SERVICE, DEGRADED or READY, starts
HOLDUP. -/
def Obligations.NinthFlitFailureFailsTheLink : Prop := ∀ (s : State) (j : Nat), j < 10 →
  s.fld F.CHR_LINK_STAT_FAILED j = 0 →
  let far := if j % 2 = 0 then j + 1 else j - 1
  let n := tabGet (fun _ => 0) s.links j
  (n < 8 → leads (.flitCrcError j false) s fun t => tabGet (fun _ => 0) t.links j = n + 1 ∧
    t.fld F.CHR_LINK_STAT_CRC_ERRORS j = min 0xFFF (s.fld F.CHR_LINK_STAT_CRC_ERRORS j + 1) ∧
    t.fld F.CHR_LINK_STAT_REPLAYS far = min 0xFFFF (s.fld F.CHR_LINK_STAT_REPLAYS far + 1) ∧
    t.fld F.CHR_LINK_STAT_FAILED j = 0 ∧ keepsBut [.links, .reg .CHR_LINK_STAT] s t) ∧
  (n < 8 → s.fenced 0x0D0 j = false → (s.unit 0x0D0 j).isolated = false → s.fenced 0x0D0 far = false →
    (s.unit 0x0D0 far).isolated = false → leads (.flitCrcError j true) s fun t =>
    tabGet (fun _ => 0) t.links j = 0 ∧ (t.unit 0x0D0 j).corr = min 255 ((s.unit 0x0D0 j).corr + 1) ∧
    (t.unit 0x0D0 far).corr = min 255 ((s.unit 0x0D0 far).corr + 1) ∧
    keepsBut (.links :: .flt :: .reg .CHR_LINK_STAT :: recordParts) s t) ∧
  (∀ d, 8 ≤ n → s.fenced 0x0D0 j = false → (s.unit 0x0D0 j).isolated = false →
    leads (.flitCrcError j d) s fun t => t.fld F.CHR_LINK_STAT_FAILED j = 1 ∧ t.fld F.CHR_LINK_STAT_FAILED far = 1 ∧
      (s.hubOn = true → t.pwr.mode = .holdup) ∧ keepsBut (.links :: .reg .CHR_LINK_STAT :: faultParts) s t)

/-! ### Mailboxes, sessions and contracts (chapters 13 and 2) -/

/-- Every request of the catalogue on a path that is not served leaves the state. A request the common checks refuse is answered
with that one status and no payload, and changes nothing but its mailbox, its handles, its events and alerts. Where several refusals apply, the
one answered is the model's order (log entry 9). -/
def Obligations.RequestsThatFailTheCommonChecksChangeNothing : Prop :=
  ∀ (i : Instr) (q : MbxReq) (f : ReqForm) (s : State), request i = some (q, f) →
    (s.mbxServed q.path = false → exec i s = .next s) ∧
    (∀ st, s.mbxServed q.path = true → (s.mb q.path).ended = false → (s.mb q.path).dropResp = false →
      s.preCheck q f = some st →
      leads i s fun t => answers s t q f.opcode st false [] ∧ (t.mb q.path).version = (s.mb q.path).version ∧
        t.ops = s.ops ∧ keepsBut mbxParts s t)

/-- RING takes a single-segment request from the inbound mailbox: BUSY sets and the request waits with the bytes the mailbox held; while
BUSY or RESP_READY is 1 it is ignored and sets OVERRUN. INBOUND_MAILBOX_WRITE changes only the bytes it names. RESP_DONE returns the
outbound mailbox or posts the next segment; SEGMENT_TIMEOUT ends the partial request with SEGMENT_ERROR; a management message that is no
request of the vendor type is counted, and one that holds a whole request is taken for its endpoint's context. -/
def Obligations.MailboxesTakeOneRequestAndReturnSegments : Prop :=
  (∀ (s : State) (f : Nat),
  (∀ h, s.inboxBytes f 0 16 = h → s.mbxServed f = true → (s.fnOf f).enabled = true → f < 256 → (s.mb f).busy = false →
    (s.mb f).respReady = false → (s.mb f).seg = none → h.getD 1 0 / 2 % 2 = 0 → le h 8 4 ≤ 4080 →
    leads (.ring f) s fun t => (t.mb f).busy = true ∧
      (t.mb f).req = some (le h 2 2, ⟨f, h.getD 0 0, le h 4 2, le h 8 4,
        decide (h.getD 1 0 / 4 = 0 ∧ h.getD 1 0 % 2 = 0 ∧ le h 6 2 = 0 ∧ le h 12 4 = 0),
        (s.inboxBytes f 16 4080).take (le h 8 4)⟩) ∧
      (∀ p, p ≠ f → t.mb p = s.mb p) ∧ keepsBut [.mbx] s t) ∧
  (s.mbxServed f = true → (s.fnOf f).enabled = true → (s.mb f).busy = true ∨ (s.mb f).respReady = true →
    leads (.ring f) s fun t => t.fld F.MBX_EVENTS_OVERRUN f = 1 ∧
      keepsBut [.fns, .out, .reg .MBX_EVENTS] s t) ∧
  (∀ (off : Nat) (data : List Nat), off + data.length ≤ 4096 → leads (.inboundMailboxWrite f off data) s fun t =>
    (∀ k, k < data.length →
      tabGet (fun _ => 0#8) t.inbox (4096 * f + off + k) = BitVec.ofNat 8 (data.getD k 0)) ∧
    (∀ a, (a < 4096 * f + off ∨ 4096 * f + off + data.length ≤ a) →
      tabGet (fun _ => 0#8) t.inbox a = tabGet (fun _ => 0#8) s.inbox a) ∧ keepsBut [.inbox] s t)) ∧
  (∀ (s : State) (p : Nat),
  ((s.mb p).respReady = true → (s.mb p).resp = none →
    leads (.respDone p) s fun t => (t.mb p).respReady = false ∧ (t.mb p).respMore = false ∧ (t.mb p).out = (s.mb p).out ∧
      keepsBut [.mbx] s t) ∧
  (∀ r, (s.mb p).respReady = true → (s.mb p).resp = some r →
    leads (.respDone p) s fun t => (t.mb p).respReady = true ∧ (t.mb p).respMore = decide (4080 < r.left.length) ∧
      sent s t (.mbxSegment p (mbHeader r.version r.opcode r.tag r.status r.length (decide (4080 < r.left.length)) r.isAsync false
        ++ r.left.take 4080)) ∧ keepsBut [.fns, .mbx, .mgmt, .out, .reg .CHR_ALERT_STATUS, .reg .MBX_EVENTS] s t) ∧
  (∀ b, (s.mb p).seg = some b → (s.mb p).dropResp = false →
    leads (.segmentTimeout p) s fun t => (t.mb p).seg = none ∧
      answers s t ⟨p, b.version, b.tag, b.length, b.resvZero, b.bytes⟩ b.opcode Ms.segmentError false [] ∧
      keepsBut [.fns, .mbx, .mgmt, .out, .reg .CHR_ALERT_STATUS, .reg .MBX_EVENTS] s t) ∧
  (∀ (ep eid : Nat) (ic owner : Bool) (body : List Nat), s.mbxServed (256 + eid) = true →
    (ic = true ∨ owner = false ∨ 4098 < body.length ∨ body.length < 18 ∨ le body 0 2 ≠ s.vendorId →
      leads (.mctpMailboxMessage ep eid ic owner body) s fun t =>
        t.fld F.CHR_MGMT_ERR_ERRORS 0 = satAdd (2 ^ (F.CHR_MGMT_ERR_ERRORS.hi + 1 - F.CHR_MGMT_ERR_ERRORS.lo) - 1)
          (s.fld F.CHR_MGMT_ERR_ERRORS 0) 1 ∧ keepsBut [.reg .CHR_MGMT_ERR] s t) ∧
    (ic = false → owner = true → 18 ≤ body.length → body.length ≤ 4098 → le body 0 2 = s.vendorId →
      s.contextHeld (256 + eid) = true ∨ s.contexts < 8 → (s.mb (256 + eid)).seg = none →
      (body.drop 2).getD 1 0 / 2 % 2 = 0 → le (body.drop 2) 8 4 = body.length - 18 →
      leads (.mctpMailboxMessage ep eid ic owner body) s fun t => (t.mb (256 + eid)).ep = ep ∧
        ((t.mb (256 + eid)).req.map Prod.fst) = some (le (body.drop 2) 2 2) ∧
        ((t.mb (256 + eid)).req.map (fun r => r.2.payload)) = some (body.drop 18) ∧ keepsBut [.mbx] s t)))

/-- HELLO chooses the highest version in both its own range of 1 to 3 and the requester's MIN_VER to MAX_VER, answers in it and
keeps every handle; where the ranges do not meet it is refused with VERSION and the mailbox keeps the session it had. GOODBYE
answers and ends the session, with SESSION_RESET on a function's mailbox. -/
def Obligations.HelloAndGoodbyeOpenAndEndSessions : Prop := ∀ (s : State) (q : MbxReq),
  s.mbxServed q.path = true → (s.mb q.path).dropResp = false →
  (s.preCheck q ⟨0x0001, 1, true, 20, 20, false⟩ = none → le q.payload 2 2 = 0 →
    let lo := q.payload.getD 0 0
    let v := min 3 (q.payload.getD 1 0)
    (max 1 lo ≤ v → leads (.hello q) s fun t => (t.mb q.path).version = v ∧ t.ops = s.ops ∧
      sent s t (.mbxSegment q.path (mbHeader v 0x0001 q.tag Ms.success 16 false false false
        ++ ([v, 0] ++ bytesLe 2 (if isFnPath q.path then q.path else 0x100) ++ bytesLe 4 s.fwVersion
          ++ bytesLe 2 s.dcsLayout ++ bytesLe 2 2 ++ bytesLe 4 s.caps))) ∧
      keepsBut mbxParts s t) ∧
    (v < max 1 lo → leads (.hello q) s fun t => answers s t q 0x0001 Ms.version false [] ∧
      (t.mb q.path).version = (s.mb q.path).version ∧ t.ops = s.ops ∧ keepsBut mbxParts s t)) ∧
  ((s.mb q.path).ended = false → s.preCheck q ⟨0x0002, 1, true, 0, 0, false⟩ = none →
    leads (.goodbye q) s fun t => answers s t q 0x0002 Ms.success false [] ∧ (t.mb q.path).version = 0 ∧
      ((s.mb q.path).version ≠ 0 → isFnPath q.path = true → t.fld F.MBX_EVENTS_SESSION_RESET q.path = 1) ∧
      keepsBut (.por :: mbxParts) s t)

/-- OP_STATUS returns what is known of a handle of its own mailbox, forgets one it reads as done and keeps one that runs; a handle of
another mailbox is UNKNOWN_HANDLE. DEVICE_INFO returns the identity and the mode. An opcode outside the catalogue receives
INVALID_OPCODE. -/
def Obligations.OperationHandlesAreReadOnceDone : Prop := ∀ (s : State) (q : MbxReq),
  (carriedOut s q ⟨0x0003, 2, true, 4, 4, false⟩ →
    (∀ o, tabGet (fun _ => none) s.ops (le q.payload 0 4) = some o → o.path = q.path →
      leads (.opStatus q) s fun t =>
        answers s t q 0x0003 Ms.success false (bytesLe 4 (le q.payload 0 4) ++ [b2n o.done, 0]
          ++ bytesLe 2 (if o.done then o.result else 0) ++ bytesLe 2 o.progress ++ zeros 2 ++ o.data) ∧
        tabGet (fun _ => none) t.ops (le q.payload 0 4) = (if o.done then none else some o) ∧
        (∀ h, h ≠ le q.payload 0 4 → tabGet (fun _ => none) t.ops h = tabGet (fun _ => none) s.ops h) ∧
        keepsBut mbxParts s t) ∧
    ((∀ o, tabGet (fun _ => none) s.ops (le q.payload 0 4) = some o → o.path ≠ q.path) →
      leads (.opStatus q) s fun t => answers s t q 0x0003 Ms.unknownHandle false [] ∧ t.ops = s.ops ∧
        keepsBut mbxParts s t)) ∧
  (carriedOut s q ⟨0x0004, 1, true, 0, 0, false⟩ → leads (.deviceInfo q) s fun t =>
    answers s t q 0x0004 Ms.success false
      (s.otpBytes 4 16 ++ s.otpBytes 24 20 ++ [s.pwr.mode.code, s.otpByte 20] ++ bytesLe 2 s.por.booted ++ bytesLe 4 s.fwVersion) ∧
    keepsBut mbxParts s t) ∧
  (∀ op, carriedOut s q ⟨op, 1, true, 0, 65536, false⟩ → leads (.mailboxInvalidOpcode q op) s fun t =>
    answers s t q op Ms.invalidOpcode false [] ∧ keepsBut mbxParts s t)

/-- CLASS_GET returns the class record; CLASS_SET refuses whole what is out of range, a disable of a bound class and a FUA or flush
deadline below its floor, and otherwise redefines that class alone; FLOORS_GET returns the floors. MASK_SET, DEFAULT_SET, QUEUE_BIND and
QUOTA_SET act on one function alone, with their refusals; RESERVE_SET sets the reserves unless HK + TH + RECON of a group would pass
0.500. -/
def Obligations.ClassesAndContractsAreReadAndSet : Prop :=
  (∀ (s : State) (q : MbxReq),
  let c := q.payload.getD 0 0
  (carriedOut s q ⟨0x0101, 1, true, 1, 1, false⟩ →
    (c < 64 → hasDevicePrivilege q.path = true ∨ s.permitted q.path c = true → leads (.classGet q) s fun t =>
      answers s t q 0x0101 Ms.success false (s.classRecord c) ∧ keepsBut mbxParts s t) ∧
    (64 ≤ c → leads (.classGet q) s fun t => answers s t q 0x0101 Ms.invalidField false [] ∧ keepsBut mbxParts s t)) ∧
  (carriedOut s q ⟨0x0102, 1, false, 40, 40, false⟩ →
    (classInRange q.payload = true → (classOf q.payload).enable = true ∨ s.boundFns c = [] →
      s.floors.fua ≤ (classOf q.payload).dlFua → s.floors.flush ≤ (classOf q.payload).dlFlush →
      leads (.classSet q) s fun t => answers s t q 0x0102 Ms.success false [] ∧
        (∀ k, (t.cls c).deadline k = (classOf q.payload).deadline k) ∧ (t.cls c).enable = (classOf q.payload).enable ∧
        (t.cls c).hold = (classOf q.payload).hold ∧ (t.cls c).holdLimit = (classOf q.payload).holdLimit ∧
        (t.cls c).rateCmds = (classOf q.payload).rateCmds ∧ (t.cls c).rateBytes = (classOf q.payload).rateBytes ∧
        (∀ d, d ≠ c → t.cls d = s.cls d) ∧
        keepsBut (([.buckets, .classes, .cpls, .ctls, .reg .HST_PROMISE_EVENTS, .gaz, .reg .GAZ_COUNTS] : List Part) ++ mbxParts) s t) ∧
    (classInRange q.payload = true → (classOf q.payload).enable = false → s.boundFns c ≠ [] →
      leads (.classSet q) s fun t => answers s t q 0x0102 Ms.classBound false [] ∧ keepsBut mbxParts s t)) ∧
  (carriedOut s q ⟨0x0106, 1, true, 0, 0, false⟩ → leads (.floorsGet q) s fun t =>
    answers s t q 0x0106 Ms.success false ([s.floors.read, s.floors.detour, s.floors.fua, s.floors.flush].flatMap (bytesLe 4)
      ++ (if (s.mb q.path).version = 3 then [s.floors.write, s.floors.dealloc, s.floors.other].flatMap (bytesLe 4) else [])) ∧
    keepsBut mbxParts s t)) ∧
  (∀ (s : State) (q : MbxReq),
  let f := q.payload.getD 0 0
  let c := q.payload.getD 1 0
  (carriedOut s q ⟨0x0103, 1, false, 16, 16, false⟩ → le q.payload 1 7 = 0 → leads (.maskSet q) s fun t =>
    answers s t q 0x0103 Ms.success false [] ∧
    (∀ k, k < 32 → t.permitted f k = (le q.payload 8 4).testBit k) ∧
    (∀ k, 32 ≤ k → k < 64 → t.permitted f k = (le q.payload 12 4).testBit (k - 32)) ∧
    (∀ g k, g ≠ f → t.permitted g k = s.permitted g k) ∧ t.sqs = s.sqs ∧
    keepsBut (.reg .HST_CLASS_MASK_LO :: .reg .HST_CLASS_MASK_HI :: mbxParts) s t) ∧
  (carriedOut s q ⟨0x0104, 1, true, 2, 2, false⟩ →
    (∀ g, fnNamed q.path f = some g → c < 64 → hasDevicePrivilege q.path = true ∨ s.permitted g c = true →
      leads (.defaultSet q) s fun t => answers s t q 0x0104 Ms.success false [] ∧
        t.fld F.HST_CLASS_DEFAULT_CLASS g = c ∧ (∀ h, h ≠ g → t.rg .HST_CLASS_DEFAULT h = s.rg .HST_CLASS_DEFAULT h) ∧
        keepsBut (.reg .HST_CLASS_DEFAULT :: mbxParts) s t) ∧
    (fnNamed q.path f = none → leads (.defaultSet q) s fun t => answers s t q 0x0104 Ms.privilege false [] ∧
      keepsBut mbxParts s t)) ∧
  (∀ g x, carriedOut s q ⟨0x0105, 1, true, 4, 4, false⟩ → c < 64 → 1 ≤ le q.payload 2 2 → le q.payload 2 2 ≤ 512 →
    fnNamed q.path f = some g → hasDevicePrivilege q.path = true ∨ s.permitted g c = true →
    s.sqOf g (le q.payload 2 2) = some x →
    (s.bindable g c = true → leads (.queueBind q) s fun t => answers s t q 0x0105 Ms.success false [] ∧
      t.sqOf g (le q.payload 2 2) = some { x with newCls := some c } ∧
      (∀ h k, qKey h k ≠ qKey g (le q.payload 2 2) → t.sqOf h k = s.sqOf h k) ∧ keepsBut (.sqs :: mbxParts) s t) ∧
    (s.bindable g c = false → leads (.queueBind q) s fun t => answers s t q 0x0105 Ms.notPermitted false [] ∧
      keepsBut mbxParts s t)) ∧
  (carriedOut s q ⟨0x0107, 1, false, 4, 4, false⟩ → c = 0 → 2 ≤ le q.payload 2 2 → le q.payload 2 2 ≤ 512 →
    let u := s.setFn f { s.fnOf f with quota := le q.payload 2 2 }
    (u.quotaTotal ≤ 8192 → leads (.quotaSet q) s fun t =>
      answers s t q 0x0107 Ms.success false (bytesLe 2 u.quotaTotal) ∧ (t.fnOf f).quota = le q.payload 2 2 ∧
      (t.fnOf f).quotaUsed = (s.fnOf f).quotaUsed ∧ (∀ g, g ≠ f → (t.fnOf g).quota = (s.fnOf g).quota) ∧
      keepsBut mbxParts s t) ∧
    (8192 < u.quotaTotal → leads (.quotaSet q) s fun t => answers s t q 0x0107 Ms.quotaExceeded false [] ∧
      (∀ g, (t.fnOf g).quota = (s.fnOf g).quota) ∧ keepsBut mbxParts s t)) ∧
  (carriedOut s q ⟨0x0108, 3, false, 8, 8, false⟩ →
    let hk := if le q.payload 0 2 = 0xFFFF then s.fld F.PLT_RESERVE_HK_PERMILLE 0 else le q.payload 0 2
    let th := if le q.payload 2 2 = 0xFFFF then s.fld F.PLT_RESERVE_THERMAL_PERMILLE 0 else le q.payload 2 2
    let g := q.payload.getD 4 0
    let r := le q.payload 6 2
    let recon := fun k => if r ≠ 0xFFFF ∧ (g = 0xFF ∨ g = k) then r else s.fld F.PLT_RECON_RECON_PERMILLE k
    q.payload.getD 5 0 = 0 → g < 128 ∨ g = 0xFF → 10 ≤ hk → hk ≤ 200 → 50 ≤ th → th ≤ 400 → r ≤ 200 ∨ r = 0xFFFF →
    (s.reserveFits hk th recon = true → leads (.reserveSet q) s fun t =>
      answers s t q 0x0108 Ms.success false [] ∧ t.fld F.PLT_RESERVE_HK_PERMILLE 0 = hk ∧
      t.fld F.PLT_RESERVE_THERMAL_PERMILLE 0 = th ∧
      (∀ k, k < 128 → t.fld F.PLT_RECON_RECON_PERMILLE k = recon k) ∧
      keepsBut (.reg .PLT_RESERVE :: .reg .PLT_RECON :: mbxParts) s t) ∧
    (s.reserveFits hk th recon = false → leads (.reserveSet q) s fun t =>
      answers s t q 0x0108 Ms.reserveLimit false [] ∧ keepsBut mbxParts s t)))

/-! ### Sheet bays (chapter 10) -/

/-- An insertion walks Table 10-3: an edge starts DEBOUNCE, a presence that has held goes to WAIT_POWER, the lowest waiting bay is powered
when no other is POWERING, power good (there already, or when it rises) goes to IDENTIFY, a good identity record to DISCOVER and trained dies to HELD, each with the outputs
of Table 10-3. A failed one ends in REJECTED with its event: PG_FAIL, ID_FAIL or NO_DIES; no other bay moves. -/
def Obligations.InsertionsWalkOrAreRejected : Prop :=
  (∀ (s : State) (b : Nat), b < 16 → s.soldered = false → s.hubOn = true →
  ((s.bay b).st = .empty → leads (.presenceEdge b true) s fun t => inBayState t b .debounce ∧ (t.bay b).level = true ∧
    otherBays s t b ∧ keepsBut bayParts s t) ∧
  ((s.bay b).st = .debounce → (s.bay b).level = true → (s.bay b).present = false →
    leads (.presenceDebounced b) s fun t => inBayState t b .waitPower ∧ (t.bay b).present = true ∧ otherBays s t b ∧
      keepsBut bayParts s t) ∧
  ((s.bay b).st = .waitPower → s.start.running = false → s.pwr.mode = .service ∨ s.pwr.mode = .degraded →
    s.bays.any (fun e => decide (e.2.st = .powering)) = false →
    s.bays.any (fun e => decide (e.1 < b ∧ e.2.st = .waitPower)) = false →
    leads (.bayPowerStart b) s fun t => inBayState t b (if (s.bay b).pwrGood then .identify else .powering) ∧ otherBays s t b ∧
      keepsBut bayParts s t) ∧
  ((s.bay b).st = .powering → leads (.pwrgdRise b) s fun t => inBayState t b .identify ∧ (t.bay b).pwrGood = true ∧
    otherBays s t b ∧ keepsBut bayParts s t) ∧
  (∀ record, (s.bay b).st = .identify → identityOk record = true → leads (.identityCheck b true record) s fun t =>
    inBayState t b .discover ∧ (t.bay b).id = record ∧ otherBays s t b ∧ keepsBut bayParts s t) ∧
  ((s.bay b).st = .discover → s.trainedDies b ≠ 0 → leads (.bayDiscoveryEnd b) s fun t => inBayState t b .held ∧
    (t.bay b).idValid = true ∧ (t.bay b).dies = s.trainedDies b ∧ otherBays s t b ∧ keepsBut bayParts s t)) ∧
  (∀ (s : State) (b : Nat), b < 16 → s.soldered = false →
  ((s.bay b).st = .powering → (s.bay b).pwrGood = false → leads (.pwrgdTimeout b) s fun t => inBayState t b .rejected ∧
    t.fld F.SHB_EVENTS_PG_FAIL b = 1 ∧ otherBays s t b ∧ keepsBut (.fns :: .reg .SHB_EVENTS :: bayParts) s t) ∧
  (∀ answered record, (s.bay b).st = .identify → answered = false ∨ identityOk record = false →
    leads (.identityCheck b answered record) s fun t => inBayState t b .rejected ∧ t.fld F.SHB_EVENTS_ID_FAIL b = 1 ∧
      otherBays s t b ∧ keepsBut (.fns :: .reg .SHB_EVENTS :: bayParts) s t) ∧
  ((s.bay b).st = .discover → s.trainedDies b = 0 → leads (.bayDiscoveryEnd b) s fun t => inBayState t b .rejected ∧
    t.fld F.SHB_EVENTS_NO_DIES b = 1 ∧ otherBays s t b ∧ keepsBut (.fns :: .reg .SHB_EVENTS :: bayParts) s t) ∧
  (s.bays.any (fun e => decide (e.2.st = .powering)) = true ∨
    s.bays.any (fun e => decide (e.1 < b ∧ e.2.st = .waitPower)) = true → exec (.bayPowerStart b) s = .next s))

/-- The offer of a HELD sheet outside start-up, with no removal anywhere: OFFERED, INSERTED set, the sheet present and usable, the
layout generation one higher, and from frontier 0 a sweep where a CLOSED band has another sheet set. BAY_OFFER needs AUTO_OFFER or a request, SHEET_OFFER is the request; while
a bay is in ABORT_WINDOW or EVACUATING the offer waits; the FREE bands of the HOLDUP reserve take the new sheets in. -/
def Obligations.AnOfferedSheetJoinsTheLayout : Prop := ∀ (s : State) (b : Nat) (q : MbxReq), b < 16 → s.soldered = false →
  (s.bay b).st = .held → s.start.running = false → s.par.evac ≠ some b →
  let busy := s.bays.any (fun e => decide (e.2.st = .abortWindow) || decide (e.2.st = .evacuating))
  let joined := fun (t : State) => inBayState t b .offered ∧ t.fld F.SHB_EVENTS_INSERTED b = 1 ∧
    maskBit t.par.present b = true ∧ maskBit t.par.usable b = true ∧ t.par.layoutGen = (s.par.layoutGen + 1) % 65536 ∧
    t.par.frontier = 0 ∧ otherBays s t b ∧
    t.par.sweep = s.svy.band.any (fun e => decide (e.2.st = .closed) &&
      !({ s with par := { s.par with present := maskSet s.par.present b, usable := maskSet s.par.usable b } } : State).current e.1)
  let parts : List Part := .reg .SHB_EVENTS :: layoutParts ++ bayParts
  (busy = false → s.fld F.SHB_CFG_AUTO_OFFER 0 = 1 ∨ (s.bay b).offer = true →
    leads (.bayOffer b) s fun t => joined t ∧ keepsBut parts s t) ∧
  (busy = true → exec (.bayOffer b) s = .next s) ∧
  (carriedOut s q ⟨0x0502, 1, false, 1, 1, false⟩ → le q.payload 0 1 = b →
    (busy = false → leads (.sheetOffer q) s fun t => answers s t q 0x0502 Ms.success false [] ∧ joined t ∧
      keepsBut (parts ++ mbxParts) s t) ∧
    (busy = true → leads (.sheetOffer q) s fun t => answers s t q 0x0502 Ms.success false [] ∧ (t.bay b).st = .held ∧
      (t.bay b).offer = true ∧ keepsBut (.bays :: mbxParts) s t))

/-- A removal: the button or SHEET_REMOVE takes an OFFERED sheet R211 permits to ABORT_WINDOW; the button again or SHEET_ABORT takes it back
to OFFERED with ABORTED; after the window it is EVACUATING; when its power has gone it is OFF and REMOVED, and present no more. A removal
R211 refuses leaves it OFFERED, with REFUSED and a blink of 5 s. SHEET_STATUS returns the sixteen SHB_BAY words, SHEET_IDENTITY the record
of a bay that holds a valid one, else zeros; on a soldered board SHEET_ABORT receives SOLDERED. -/
def Obligations.RemovalsAndSheetRequests : Prop :=
  (∀ (s : State) (b : Nat), b < 16 → s.soldered = false →
  (s.hubOn = true → (s.bay b).st = .offered → (s.bay b).blinkEnd = none →
    (s.removeReason b = none → leads (.buttonPress b) s fun t => inBayState t b .abortWindow ∧ t.fld F.SHB_BAY_BUTTON b = 1 ∧
      otherBays s t b ∧ keepsBut (.reg .SHB_BAY :: bayParts) s t) ∧
    (s.removeReason b ≠ none → leads (.buttonPress b) s fun t => (t.bay b).st = .offered ∧ t.fld F.SHB_EVENTS_REFUSED b = 1 ∧
      (t.bay b).attn = 3 ∧ (t.bay b).blinkEnd = some (s.now + 4000000000) ∧ otherBays s t b ∧
      keepsBut (([.bays, .fns, .reg .SHB_BAY, .reg .SHB_EVENTS] : List Part) ++ recordParts) s t)) ∧
  (s.hubOn = true → (s.bay b).st = .abortWindow → leads (.buttonPress b) s fun t => inBayState t b .offered ∧
    t.fld F.SHB_EVENTS_ABORTED b = 1 ∧ (t.bay b).handle = none ∧ otherBays s t b ∧
    keepsBut (([.fns, .ops, .reg .MBX_EVENTS, .reg .SHB_BAY, .reg .SHB_EVENTS] : List Part) ++ bayParts) s t) ∧
  (s.hubOn = false → leads (.buttonPress b) s fun t => (t.bay b).press = true ∧ (t.bay b).st = (s.bay b).st ∧
    otherBays s t b ∧ keepsBut [.bays, .reg .SHB_BAY] s t) ∧
  ((s.bay b).st = .abortWindow → leads (.abortWindowExpiry b) s fun t => inBayState t b .evacuating ∧ t.par.evac = some b ∧
    otherBays s t b ∧ keepsBut (.par :: bayParts) s t) ∧
  ((s.bay b).st = .poweringOff → leads (.pwrgdFall b) s fun t => inBayState t b .off ∧ (t.bay b).pwrGood = false ∧
    t.fld F.SHB_EVENTS_REMOVED b = 1 ∧ maskBit t.par.present b = false ∧ t.par.usable = s.par.usable ∧ otherBays s t b ∧
    keepsBut (([.fns, .ops, .par, .svy, .reg .MBX_EVENTS, .reg .SHB_EVENTS] : List Part) ++ bayParts) s t) ∧
  ((s.bay b).blinkEnd ≠ none → leads (.refusalBlinkEnd b) s fun t => (t.bay b).blinkEnd = none ∧
    (t.bay b).attn = (s.bay b).st.attn ∧ (t.bay b).st = (s.bay b).st ∧ otherBays s t b ∧ keepsBut [.bays] s t)) ∧
  (∀ (s : State) (q : MbxReq) (b : Nat), b < 16 → le q.payload 0 1 = b →
  (∀ h, carriedOut s q ⟨0x0503, 2, false, 1, 1, true⟩ → s.soldered = false → h = 0x05 * 2 ^ 24 + s.nextHandle % 2 ^ 24 →
    (s.removeReason b = none → s.pwr.mode ≠ .ready → leads (.sheetRemove q) s fun t =>
      answers s t q 0x0503 Ms.success true (bytesLe 4 h ++ [0]) ∧ inBayState t b .abortWindow ∧ (t.bay b).handle = some h ∧
      otherBays s t b ∧ keepsBut ((.nextHandle :: bayParts : List Part) ++ mbxParts) s t) ∧
    (∀ k, s.removeReason b = some k → leads (.sheetRemove q) s fun t =>
      answers s t q 0x0503 Ms.removeRefused false [k] ∧ (t.bay b).st = (s.bay b).st ∧ otherBays s t b ∧
      keepsBut (([.bays, .reg .SHB_EVENTS] : List Part) ++ recordParts ++ mbxParts) s t)) ∧
  (carriedOut s q ⟨0x0504, 1, false, 1, 1, false⟩ →
    (s.soldered = false → (s.bay b).st = .abortWindow → leads (.sheetAbort q) s fun t =>
      answers s t q 0x0504 Ms.success false [] ∧ inBayState t b .offered ∧ t.fld F.SHB_EVENTS_ABORTED b = 1 ∧
      otherBays s t b ∧ keepsBut ((.reg .SHB_EVENTS :: bayParts : List Part) ++ mbxParts) s t) ∧
    (s.soldered = false → (s.bay b).st ≠ .abortWindow → leads (.sheetAbort q) s fun t =>
      answers s t q 0x0504 Ms.noWindow false [] ∧ keepsBut mbxParts s t) ∧
    (s.soldered = true → leads (.sheetAbort q) s fun t => answers s t q 0x0504 Ms.soldered false [] ∧
      keepsBut mbxParts s t)) ∧
  (carriedOut s q ⟨0x0501, 1, false, 0, 0, false⟩ → leads (.sheetStatus q) s fun t =>
    answers s t q 0x0501 Ms.success false ((List.range 16).flatMap (fun k => bytesLe 4 (s.shbWord k).toNat)) ∧
    keepsBut mbxParts s t) ∧
  (carriedOut s q ⟨0x0505, 1, false, 1, 1, false⟩ → leads (.sheetIdentity q) s fun t =>
    answers s t q 0x0505 Ms.success false (if (s.bay b).idValid then (s.bay b).id else zeros 256) ∧ keepsBut mbxParts s t))

/-! ### The PCIe endpoint (chapter 11) -/

/-- FLR of a function, a conventional reset of its port and the clearing of VF Enable discard its commands, completions and queues,
return its controller to reset and end its mailbox session; no queue of another function changes. VF Enable makes the first NumVFs
functions respond, without ARI at most seven, and its clearing none. -/
def Obligations.FunctionResetsDiscardTheFunctionsWork : Prop := ∀ (s : State) (f : Nat), f < 256 →
  (f % 128 ≠ 0 → (s.fnOf f).enabled = true → leads (.flr f) s fun t => functionCleared t f ∧
    (∀ g q, g ≠ f → q < 1024 → t.sqOf g q = s.sqOf g q ∧ t.cqOf g q = s.cqOf g q) ∧
    (∀ c ∈ s.cmds, c.fn ≠ f → c ∈ t.cmds) ∧ (∀ a, a / 2 ^ 40 = f → tabGet (fun _ => 0#8) t.window a = 0#8) ∧
    (∀ a, a / 2 ^ 40 ≠ f → tabGet (fun _ => 0#8) t.window a = tabGet (fun _ => 0#8) s.window a) ∧
    keepsBut resetFnParts s t) ∧
  (f % 128 = 0 → (s.fnOf f).enabled = true → leads (.flr f) s fun t => functionCleared t f ∧
    (∀ v, 1 ≤ v → v ≤ 127 → (t.fnOf (f + v)).enabled = false) ∧
    (∀ v, 1 ≤ v → v ≤ 127 → (s.fnOf (f + v)).enabled = true → functionCleared t (f + v)) ∧
    (∀ g q, g / 128 ≠ f / 128 → q < 1024 → t.sqOf g q = s.sqOf g q) ∧ keepsBut resetFnParts s t) ∧
  (∀ cause, cause < 3 → leads (.conventionalReset (f / 128) cause) s fun t =>
    ((s.fnOf f).enabled = true → functionCleared t f) ∧ (f % 128 ≠ 0 → (t.fnOf f).enabled = false) ∧
    (cause = 0 → (t.port (f / 128)).perst = true) ∧ (cause ≠ 1 → (t.port (f / 128)).up = false) ∧
    (∀ g q, g / 128 ≠ f / 128 → q < 1024 → t.sqOf g q = s.sqOf g q) ∧ (∀ p, p ≠ f / 128 → t.port p = s.port p) ∧
    keepsBut (.ports :: resetFnParts) s t) ∧
  (∀ n ari, n ≤ 127 →
    (leads (.vfEnableWrite (f / 128) true n ari) s fun t =>
      (∀ v, 1 ≤ v → v ≤ (if ari then n else min n 7) → (t.fnOf (f / 128 * 128 + v)).enabled = true) ∧
      (∀ v, (if ari then n else min n 7) < v → v ≤ 127 →
        (t.fnOf (f / 128 * 128 + v)).enabled = (s.fnOf (f / 128 * 128 + v)).enabled) ∧
      (t.fnOf (f / 128 * 128)).numVfs = n ∧ keepsBut [.fns] s t) ∧
    (leads (.vfEnableWrite (f / 128) false n ari) s fun t =>
      (∀ v, 1 ≤ v → v ≤ 127 → (t.fnOf (f / 128 * 128 + v)).enabled = false) ∧
      (t.fnOf (f / 128 * 128)).vfEnable = false ∧ keepsBut resetFnParts s t))

/-- LINK_RATE_CHANGE takes the trained rate of Table 11-1 times width, which admissions use only from the next frame boundary (a lower
rate adds to the host wait of the commands in flight); a fenced port
stays down. The direct window: a write reaches the backed bytes it addresses and nothing else; CMSE takes as much backing as the region has
left, its clearing returns it and discards the contents; a new BAR4 size of a PF discards the contents and bounds the backing. -/
def Obligations.LinkRatesAndTheDirectWindow : Prop :=
  (∀ (s : State) (p gen width : Nat) (flit : Bool), p < 2 →
  (genRate gen flit ≠ 0 → widthOk width = true → s.fenced 0x010 p = false → s.pwr.mode ≠ .holdup ∨ (s.port p).up = true →
    leads (.linkRateChange p gen width flit) s fun t => (t.port p).up = true ∧ (t.port p).rate = genRate gen flit * width ∧
      (t.port p).rateUsed = (s.port p).rateUsed ∧ (∀ k, k ≠ p → t.port k = s.port k) ∧ t.cmds.map Cmd.cid = s.cmds.map Cmd.cid ∧
      (genRate gen flit * width ≥ (s.port p).rate → t.cmds = s.cmds) ∧ keepsBut [.cmds, .ports] s t) ∧
  (s.fenced 0x010 p = true ∨ (s.pwr.mode = .holdup ∧ (s.port p).up = false) → exec (.linkRateChange p gen width flit) s = .next s) ∧
  ((s.port p).perst = true → s.pwr.mode ≠ .dormant → s.pwr.entering = none → leads (.perstRelease p) s fun t =>
    (t.port p).perst = false ∧ (∀ k, k ≠ p → t.port k = s.port k) ∧ keepsBut [.ports] s t)) ∧
  (∀ (s : State) (f : Nat), f < 256 →
  (∀ off data, (s.fnOf f).enabled = true → leads (.directWindowWrite f off data) s fun t =>
    (∀ k, k < data.length → off + k < (s.fnOf f).backing →
      tabGet (fun _ => 0#8) t.window (f * 2 ^ 40 + off + k) = BitVec.ofNat 8 (data.getD k 0)) ∧
    (∀ a, (∀ k, k < data.length → off + k < (s.fnOf f).backing → a ≠ f * 2 ^ 40 + off + k) →
      tabGet (fun _ => 0#8) t.window a = tabGet (fun _ => 0#8) s.window a) ∧ keepsBut [.window] s t) ∧
  (∀ cre, (s.fnOf f).enabled = true → (s.fnOf f).cmse = false → leads (.cmbmscWrite f cre true) s fun t =>
    (t.fnOf f).cmse = true ∧ (t.fnOf f).cre = cre ∧
    (t.fnOf f).backing = min (s.fnOf f).bar4 (s.directRegion - s.backingUsed) ∧
    (∀ g, g ≠ f → t.fnOf g = s.fnOf g) ∧ keepsBut [.fns] s t) ∧
  (∀ cre, (s.fnOf f).enabled = true → (s.fnOf f).cmse = true → leads (.cmbmscWrite f cre false) s fun t =>
    (t.fnOf f).cmse = false ∧ (t.fnOf f).backing = 0 ∧ (∀ a, a / 2 ^ 40 = f → tabGet (fun _ => 0#8) t.window a = 0#8) ∧
    (∀ a, a / 2 ^ 40 ≠ f → tabGet (fun _ => 0#8) t.window a = tabGet (fun _ => 0#8) s.window a) ∧
    keepsBut [.fns, .window] s t) ∧
  (∀ k, f % 128 = 0 → 20 ≤ k → k ≤ 35 → (s.fnOf f).bar4 ≠ 2 ^ k → leads (.barSizeWrite f k) s fun t =>
    (t.fnOf f).bar4 = 2 ^ k ∧ (t.fnOf f).backing = min (s.fnOf f).backing (2 ^ k) ∧
    (∀ a, a / 2 ^ 40 = f → tabGet (fun _ => 0#8) t.window a = 0#8) ∧
    (∀ a, a / 2 ^ 40 ≠ f → tabGet (fun _ => 0#8) t.window a = tabGet (fun _ => 0#8) s.window a) ∧
    keepsBut [.atl, .cmds, .cpls, .ctls, .fns, .gaz, .lanes, .media, .mgmt, .out, .plt, .pwr, .til, .window,
      .reg .CHR_ALERT_STATUS, .reg .GAZ_COUNTS, .reg .TIL_POOL_WM] s t))

/-- A pending vector is sent when the last mask over it goes and its pending bit clears; a read of a Gazetteer window record latches
the whole record and answers its first dword; a poisoned write is reported and sets POISONED_WR, a received TLP error is reported; an
ATS invalidation ends the use of the translation, and is answered once no request of the function is outstanding. -/
def Obligations.MessagesErrorsAndTranslationsOfOneFunction : Prop := ∀ (s : State) (f : Nat), f < 256 →
  (∀ v, v < msixCount f → (s.fnOf f).msixEn = true → (s.fnOf f).msixMask = false →
    (tabGet (fun _ => MsixVec.reset) (s.fnOf f).vec v).pending = true → leads (.msixUnmask f (.vector v false)) s fun t =>
      sent s t (.msix f v) ∧ tabGet (fun _ => MsixVec.reset) (t.fnOf f).vec v = ⟨false, false⟩ ∧
      (∀ g, g ≠ f → t.fnOf g = s.fnOf g) ∧ keepsBut [.fns, .out] s t) ∧
  (∀ v, v < msixCount f → (s.fnOf f).msixEn = false ∨ (s.fnOf f).msixMask = true →
    leads (.msixUnmask f (.vector v true)) s fun t => (tabGet (fun _ => MsixVec.reset) (t.fnOf f).vec v).masked = true ∧ keepsBut [.fns, .out] s t) ∧
  (∀ r, r < 8192 → leads (.gazRecordLatchRead f r) s fun t => (t.fnOf f).gazLatch = some r ∧
    (t.fnOf f).gazCopy = (s.gaz.at r).bytes ∧ t.out = .readBack f (le (s.gaz.at r).bytes 0 4) :: s.out ∧
    (∀ g, g ≠ f → t.fnOf g = s.fnOf g) ∧ keepsBut [.fns, .out] s t) ∧
  (∀ bar, leads (.poisonedWrite f bar) s fun t => t.fld F.HST_FN_EVENTS_POISONED_WR f = 1 ∧ sent s t (.aer f 3) ∧
    (t.fnOf f).aer = 3 :: (s.fnOf f).aer ∧ keepsBut [.fns, .out, .reg .HST_FN_EVENTS] s t) ∧
  (∀ p err, p < 2 → err = 1 ∨ (6 ≤ err ∧ err ≤ 9) → leads (.receivedTlpError p (some f) err) s fun t =>
    sent s t (.aer f err) ∧ (t.fnOf f).aer = err :: (s.fnOf f).aer ∧ (∀ g, g ≠ f → t.fnOf g = s.fnOf g) ∧
    keepsBut [.fns, .out] s t) ∧
  (∀ page, (s.cmds.any (fun c => decide (c.fn = f ∧ c.openReads ≠ 0)) = false → leads (.atsInvalidate f page) s fun t =>
      page ∉ (t.fnOf f).atsHeld ∧ (t.fnOf f).atsInval = [] ∧ sent s t (.answer 0x010 [f, page]) ∧
      (∀ g, g ≠ f → t.fnOf g = s.fnOf g) ∧ keepsBut [.fns, .out] s t) ∧
    (s.cmds.any (fun c => decide (c.fn = f ∧ c.openReads ≠ 0)) = true → leads (.atsInvalidate f page) s fun t =>
      page ∉ (t.fnOf f).atsHeld ∧ (t.fnOf f).atsInval = (s.fnOf f).atsInval ++ [page] ∧
      (∀ g, g ≠ f → t.fnOf g = s.fnOf g) ∧ keepsBut [.fns] s t))


/-! ### Controllers and admin commands (chapter 12) -/

/-- CC_EN_SET makes an admin queue pair and RDY follows the map; with ASQS or ACQS 0 CFS sets and RDY stays. CC_EN_CLEAR drops the
function's commands, completions, queues and event requests and keeps its window; a CFS set for the admin queue size goes.
CC_SHN_WRITE of a function with nothing accepted reads SHST 2; once all do and nothing is staged, the journal tail and the band records in it are
spilled; the blocks keep their place in the ring (R144). -/
def Obligations.ControllersEnableDisableAndShutDown : Prop := ∀ (s : State) (f : Nat), f < 256 → (s.fnOf f).enabled = true →
  (∀ iosqes iocqes asqs acqs, (s.ctl f).en = false →
    (asqs ≠ 0 → acqs ≠ 0 → leads (.ccEnSet f iosqes iocqes asqs acqs) s fun t => (t.ctl f).en = true ∧
      (t.ctl f).rdy = s.atl.mapReady ∧ (t.ctl f).cfs = (s.ctl f).cfs ∧ (t.ctl f).iosqes = iosqes ∧ (t.ctl f).iocqes = iocqes ∧
      ((t.sqOf f 0).map Sq.size) = some (asqs + 1) ∧ ((t.cqOf f 0).map Cq.size) = some (acqs + 1) ∧ otherCtls s t f ∧
      otherSqs s t f 0 ∧ otherCqs s t f 0 ∧ keepsBut [.ctls, .sqs, .cqs] s t) ∧
    (asqs = 0 ∨ acqs = 0 → leads (.ccEnSet f iosqes iocqes asqs acqs) s fun t => (t.ctl f).cfs = true ∧
      (t.ctl f).rdy = (s.ctl f).rdy ∧ otherCtls s t f ∧ keepsBut [.ctls] s t)) ∧
  ((s.ctl f).en = true → leads (.ccEnClear f) s fun t => (t.ctl f).en = false ∧ (t.ctl f).rdy = false ∧
    (t.ctl f).aers = [] ∧ (t.ctl f).cfs = ((s.ctl f).cfs && !(s.ctl f).cfsAqa) ∧ (∀ c ∈ t.cmds, c.fn ≠ f) ∧
    (∀ c ∈ t.cpls, c.fn ≠ f) ∧ (∀ q, q < 1024 → t.sqOf f q = none ∧ t.cqOf f q = none) ∧
    (∀ g q, g ≠ f → q < 1024 → t.sqOf g q = s.sqOf g q ∧ t.cqOf g q = s.cqOf g q) ∧ (t.fnOf f).backing = (s.fnOf f).backing ∧
    t.window = s.window ∧ keepsBut resetFnParts s t) ∧
  (∀ shn, (leads (.ccShnWrite f 0) s fun t => (t.ctl f).shn = 0 ∧ (t.ctl f).shst = 0 ∧ otherCtls s t f ∧ keepsBut [.ctls] s t) ∧
    (shn ≠ 0 → noneAccepted s f → leads (.ccShnWrite f shn) s fun t => (t.ctl f).shn = shn ∧ (t.ctl f).shst = 2 ∧
      otherCtls s t f ∧ keepsBut [.ctls] s t) ∧
    (shn ≠ 0 → (s.ctl f).shst ≠ 2 → (∃ c ∈ s.cmds, c.fn = f ∧ c.accepted = true) → leads (.ccShnWrite f shn) s fun t =>
      (t.ctl f).shn = shn ∧ (t.ctl f).shst = 1 ∧ otherCtls s t f ∧ keepsBut [.ctls] s t)) ∧
  (s.enabledCtls ≠ [] → (∀ e ∈ s.enabledCtls, e.2.shst = 2) →
    (∀ e ∈ s.atl.stage, ∀ x, e.2 = some x → x.live = false) →
    leads .deviceShutdownFlush s fun t => t.atl.tail = [] ∧ t.atl.spilled = s.atl.tail ++ s.atl.spilled ∧
      t.atl.tailBytes = s.atl.tailBytes ∧ t.atl.bandTail = [] ∧ t.svy.saved = saveBands s.atl.bandTail s.svy.saved ∧
      t.svy.band = s.svy.band ∧ t.atl.ent = s.atl.ent ∧ keepsBut [.atl, .svy] s t)

/-- A queue is created empty, of the size named, with its class or its vector, or is refused with R361's and R362's statuses; a
deleted completion queue is gone, and one that a submission queue names stays with Invalid Queue Deletion; a deleted submission
queue with no command left is gone. -/
def Obligations.IoQueuesAreCreatedAndDeleted : Prop := ∀ (s : State) (a : AdminHdr) (qid size x : Nat), qid < 1024 → qid ≠ 0 →
  (qid ≤ s.granted a.fn true → s.sqOf a.fn qid = none →
    ((size < 2 ∨ 65536 < size ∨ (s.ctl a.fn).iosqes ≠ 6) → ∀ pc, leads (.createIoSubmissionQueue a qid size x pc) s fun t =>
      adminPosts s t a Sc.invalidQueueSize 0#32 ∧ otherCtls s t a.fn ∧ keepsBut adminParts s t) ∧
    (2 ≤ size → size ≤ 65536 → (s.ctl a.fn).iosqes = 6 → leads (.createIoSubmissionQueue a qid size x false) s fun t =>
      adminPosts s t a Sc.invalidField 0#32 ∧ otherCtls s t a.fn ∧ keepsBut adminParts s t) ∧
    (2 ≤ size → size ≤ 65536 → (s.ctl a.fn).iosqes = 6 → x ≠ 0 → (∃ c, s.cqOf a.fn x = some c ∧ c.deleting = false) →
      leads (.createIoSubmissionQueue a qid size x true) s fun t => adminPosts s t a Sc.success 0#32 ∧
        (∃ q, t.sqOf a.fn qid = some q ∧ q.size = size ∧ q.head = 0 ∧ q.tail = 0 ∧ q.cq = x ∧
          q.cls = s.fld F.HST_CLASS_DEFAULT_CLASS a.fn) ∧ otherSqs s t a.fn qid ∧ keepsBut [.sqs, .cpls] s t) ∧
    (2 ≤ size → size ≤ 65536 → (s.ctl a.fn).iosqes = 6 → s.cqOf a.fn x = none →
      leads (.createIoSubmissionQueue a qid size x true) s fun t => adminPosts s t a Sc.cqInvalid 0#32 ∧
        otherCtls s t a.fn ∧ keepsBut adminParts s t)) ∧
  (s.granted a.fn true < qid → ∀ pc, leads (.createIoSubmissionQueue a qid size x pc) s fun t =>
    adminPosts s t a Sc.invalidQueueId 0#32 ∧ otherCtls s t a.fn ∧ keepsBut adminParts s t) ∧
  (qid ≤ s.granted a.fn false → s.cqOf a.fn qid = none → 2 ≤ size → size ≤ 65536 → (s.ctl a.fn).iocqes = 4 →
    (∀ ien, x < msixCount a.fn → leads (.createIoCompletionQueue a qid size x true ien) s fun t => adminPosts s t a Sc.success 0#32 ∧
      (∃ q, t.cqOf a.fn qid = some q ∧ q.size = size ∧ q.head = 0 ∧ q.tail = 0 ∧ q.phase = true ∧ q.vector = x ∧ q.ien = ien) ∧
      otherCqs s t a.fn qid ∧ keepsBut [.cqs, .cpls] s t) ∧
    (msixCount a.fn ≤ x → leads (.createIoCompletionQueue a qid size x true true) s fun t =>
      adminPosts s t a Sc.invalidVector 0#32 ∧ otherCtls s t a.fn ∧ keepsBut adminParts s t)) ∧
  ((s.cqOf a.fn qid).isSome = true →
    ((∃ q sq, q < 1024 ∧ s.sqOf a.fn q = some sq ∧ sq.cq = qid) → leads (.deleteIoCompletionQueue a qid) s fun t =>
      adminPosts s t a Sc.invalidQueueDeletion 0#32 ∧ t.cqOf a.fn qid = s.cqOf a.fn qid ∧ otherCtls s t a.fn ∧
      keepsBut adminParts s t) ∧
    ((∀ e ∈ s.sqs, e.1 / 1024 = a.fn → ∀ sq, e.2 = some sq → sq.cq ≠ qid) → leads (.deleteIoCompletionQueue a qid) s fun t =>
      adminPosts s t a Sc.success 0#32 ∧ t.cqOf a.fn qid = none ∧ otherCqs s t a.fn qid ∧ keepsBut [.cqs, .cpls] s t)) ∧
  ((s.sqOf a.fn qid).isSome = true → (∀ c ∈ s.cmds, ¬ (c.fn = a.fn ∧ c.sq = qid)) →
    leads (.deleteIoSubmissionQueue a qid) s fun t => adminPosts s t a Sc.success 0#32 ∧ t.sqOf a.fn qid = none ∧
      otherSqs s t a.fn qid ∧ keepsBut [.sqs, .cpls] s t)

/-- R373: an Abort is accepted on every function and removes nothing, Dword 0 bit 0 is 1 whatever command it names; Identify's ACL
(byte 258) is 3; a fifth outstanding ends with Abort Command Limit Exceeded. -/
def Obligations.AbortRemovesNothing : Prop := ∀ (s : State) (a : AdminHdr) (sqid victim : Nat),
  ((s.ctl a.fn).aborts.length < 4 → leads (.abort a sqid victim) s fun t => adminPosts s t a Sc.success 1#32 ∧
    (1#32).getLsbD 0 = true ∧ (t.ctl a.fn).aborts = (s.ctl a.fn).aborts ++ [a.cid] ∧ otherCtls s t a.fn ∧
    keepsBut [.cpls, .ctls] s t) ∧
  (4 ≤ (s.ctl a.fn).aborts.length → leads (.abort a sqid victim) s fun t => adminPosts s t a Sc.abortLimit 0#32 ∧
    (t.ctl a.fn).aborts = (s.ctl a.fn).aborts ∧ otherCtls s t a.fn ∧ keepsBut [.cpls, .ctls] s t) ∧
  Sc.abortLimit = 0x103 ∧
  (∀ cntid, leads (.identify a 0x01 cntid) s fun t => ∃ page, sent s t (.adminData a.fn a.cid page) ∧ page[258]? = some 3)

/-- Identify, Get Log Page and Get Features return their data and change no state but the events their page clears; Set Features sets its own
controller and refuses SV and unknown identifiers. An Asynchronous Event Request waits, a ninth ends with its limit; an event that is
reported completes the oldest one and is masked after. A Format with the namespace's own format starts and, with no command on it,
completes at once. -/
def Obligations.AdminCommandsEventsAndFormat : Prop :=
  (∀ (s : State) (a : AdminHdr),
  (∀ n cntid, s.nsFor a.fn a.nsid = some n → leads (.identify a 0x00 cntid) s fun t =>
    sent s t (.adminData a.fn a.cid (s.identifyNs n)) ∧ adminPosts s t a Sc.success 0#32 ∧ keepsBut [.cpls, .out] s t) ∧
  (∀ cntid, s.nsFor a.fn a.nsid = none → leads (.identify a 0x00 cntid) s fun t =>
    adminPosts s t a Sc.invalidNamespace 0#32 ∧ otherCtls s t a.fn ∧ keepsBut [.cpls, .ctls] s t) ∧
  (∀ lsp numd lpo, leads (.getLogPage a 0x04 lsp numd lpo false) s fun t => adminPosts s t a Sc.success 0#32 ∧
    (t.ctl a.fn).changedNs = [] ∧ (∀ e ∈ (t.ctl a.fn).aerMasked, e / 65536 ≠ 4) ∧ otherCtls s t a.fn ∧ keepsBut adminParts s t) ∧
  (∀ lid lsp numd lpo rae, s.logPage a.fn lid = none → leads (.getLogPage a lid lsp numd lpo rae) s fun t =>
    adminPosts s t a Sc.invalidLogPage 0#32 ∧ otherCtls s t a.fn ∧ keepsBut [.cpls, .ctls] s t) ∧
  (∀ fid w data, leads (.setFeatures a fid true w data) s fun t => adminPosts s t a Sc.notSaveable 0#32 ∧ otherCtls s t a.fn ∧
    keepsBut [.cpls, .ctls] s t) ∧
  (∀ w data, (leads (.setFeatures a 0x01 false w data) s fun t => adminPosts s t a Sc.success 0#32 ∧
      (t.ctl a.fn).burst = bits w 2 0 ∧ otherCtls s t a.fn ∧ keepsBut [.cpls, .ctls] s t) ∧
    (leads (.setFeatures a 0x0B false w data) s fun t => adminPosts s t a Sc.success 0#32 ∧ (t.ctl a.fn).aec = w ∧
      otherCtls s t a.fn ∧ keepsBut [.cpls, .ctls] s t) ∧
    (bits w 15 0 ≠ 65535 → bits w 31 16 ≠ 65535 → (∀ e ∈ s.sqs, e.1 / 1024 = a.fn → e.1 % 1024 ≠ 0 → e.2 = none) →
      (∀ e ∈ s.cqs, e.1 / 1024 = a.fn → e.1 % 1024 ≠ 0 → e.2 = none) → leads (.setFeatures a 0x07 false w data) s fun t =>
        (t.ctl a.fn).grantSq = min (bits w 15 0 + 1) (s.fnOf a.fn).quotaUsed ∧
        (t.ctl a.fn).grantCq = min (bits w 31 16 + 1) (s.fnOf a.fn).quotaUsed ∧ otherCtls s t a.fn ∧
        keepsBut [.cpls, .ctls] s t)) ∧
  (∀ w, (leads (.getFeatures a 0x01 0 w) s fun t => adminPosts s t a Sc.success (BitVec.ofNat 32 (s.ctl a.fn).burst) ∧
      keepsBut [.cpls] s t) ∧
    (leads (.getFeatures a 0x0D 0 w) s fun t => adminPosts s t a Sc.invalidField 0#32 ∧ otherCtls s t a.fn ∧
      keepsBut [.cpls, .ctls] s t)) ∧
  (∀ op, leads (.adminInvalidOpcode a op) s fun t => adminPosts s t a Sc.invalidOpcode 0#32 ∧ otherCtls s t a.fn ∧
    keepsBut [.cpls, .ctls] s t)) ∧
  (∀ (s : State) (a : AdminHdr) (ev : Nat),
  ((s.ctl a.fn).aers.length < 8 → (s.ctl a.fn).aerPend = [] → leads (.asynchronousEventRequest a) s fun t =>
    (t.ctl a.fn).aers = (s.ctl a.fn).aers ++ [a.cid] ∧ otherCtls s t a.fn ∧ keepsBut [.ctls] s t) ∧
  (8 ≤ (s.ctl a.fn).aers.length → leads (.asynchronousEventRequest a) s fun t => adminPosts s t a Sc.aerLimit 0#32 ∧
    (t.ctl a.fn).aers = (s.ctl a.fn).aers ∧ otherCtls s t a.fn ∧ keepsBut [.cpls, .ctls] s t) ∧
  (∀ cid rest, (s.ctl a.fn).rdy = true → evEnabled (s.ctl a.fn).aec ev = true → ev ∉ (s.ctl a.fn).aerMasked →
    ev ∉ (s.ctl a.fn).aerPend → (s.ctl a.fn).aers = cid :: rest → leads (.asyncEventReport a.fn ev) s fun t =>
      posts s t ⟨a.fn, 0, cid, 0, Sc.success, false, BitVec.ofNat 32 ev⟩ ∧ sent s t (.asyncEvent a.fn cid ev) ∧
      (t.ctl a.fn).aers = rest ∧ ev ∈ (t.ctl a.fn).aerMasked ∧ otherCtls s t a.fn ∧ keepsBut adminParts s t) ∧
  (ev ∈ (s.ctl a.fn).aerMasked → exec (.asyncEventReport a.fn ev) s = .next s) ∧
  (∀ n ses, a.nsid ≠ 0xFFFFFFFF → s.nsFor a.fn a.nsid = some n → n.format = none → ses ≤ 1 →
    ((∀ c ∈ s.cmds, c.nsid ≠ a.nsid) → leads (.formatNvm a n.lbaf n.pi 0 0 ses) s fun t => adminPosts s t a Sc.success 0#32 ∧
      (∃ m, t.nsOf a.nsid = some m ∧ m.format = none)) ∧
    (∀ c ∈ s.cmds, c.nsid = a.nsid → c.accepted = true → leads (.formatNvm a n.lbaf n.pi 0 0 ses) s fun t =>
      t.cpls = s.cpls ∧ (∃ m, t.nsOf a.nsid = some m ∧ m.format = some (a.fn, a.cid, ses)) ∧ keepsBut [.atl] s t)) ∧
  (∀ n lbaf pi pil mset ses, a.nsid ≠ 0xFFFFFFFF → s.nsFor a.fn a.nsid = some n → n.format = none →
    lbaf ≠ n.lbaf ∨ pi ≠ n.pi ∨ pil ≠ 0 ∨ mset ≠ 0 → leads (.formatNvm a lbaf pi pil mset ses) s fun t =>
      adminPosts s t a Sc.invalidFormat 0#32 ∧ otherCtls s t a.fn ∧ keepsBut [.cpls, .ctls] s t))


/-! ### I/O commands, queues and completions (chapters 2, 3, 12) -/

/-- Each I/O command of Table 12-3, and an invalid opcode: an entry that passes validation is outstanding and offered, its clock
started now, under the class and the function epoch it was fetched with; one that fails ends at once with its status and is not accepted. Which of
several failures is answered is the model's order (log entry 17). -/
def Obligations.IoEntriesAreOfferedOrRefused : Prop := ∀ (s : State) (e : IoEntry) (q : Sq),
  s.sqOf e.fn e.sq = some q → s.findCmd e.fn e.sq e.cid = none →
  let cls := (q.fetching.head?.map (fun x => x.2.1)).getD q.cls
  let queue := fun (t : State) => t.sqOf e.fn e.sq = some { q with fetching := q.fetching.tail, retried := false } ∧
    otherSqs s t e.fn e.sq
  (∀ i op d rs, ioForm i = some (e, op, d, rs) →
    (s.validate e op d rs = none → leads i s fun t => queue t ∧
      (∃ c, t.cmds = s.cmds ++ [c] ∧ c.fn = e.fn ∧ c.sq = e.sq ∧ c.cid = e.cid ∧ c.op = op ∧ c.kind = kindOf op e.fua d ∧
        c.cls = cls ∧ c.epoch = ((q.fetching.head?.map (fun x => x.2.2)).getD (s.fnEpoch e.fn)) ∧ c.start = s.now ∧ c.phase = .offered ∧ c.accepted = false ∧ c.nsid = e.nsid ∧ c.slba = e.slba ∧
        c.nlb = e.nlb + 1 ∧ c.ranges = rs ∧ c.bookings = [] ∧ c.suspended = s.nsHeld e.nsid) ∧
      keepsBut [.sqs, .cmds] s t) ∧
    (∀ st, s.validate e op d rs = some st → leads i s fun t => queue t ∧ postsStatus s t e.fn e.sq e.cid q.cq st ∧
      (∃ c, t.findCmd e.fn e.sq e.cid = some c ∧ c.phase = .posting ∧ c.accepted = false ∧ c.status = st) ∧
      otherCtls s t e.fn ∧ keepsBut [.sqs, .cmds, .cpls, .ctls] s t)) ∧
  (∀ op, leads (.ioInvalidOpcode e op) s fun t => queue t ∧ postsStatus s t e.fn e.sq e.cid q.cq Sc.invalidOpcode ∧
    (∃ c, t.findCmd e.fn e.sq e.cid = some c ∧ c.phase = .posting ∧ c.accepted = false) ∧ otherCtls s t e.fn ∧
    keepsBut [.sqs, .cmds, .cpls, .ctls] s t)

/-- ADMIT accepts an offered Flush of a namespace with nothing staged, in time, and completes it; with admission closed it refuses
with Deadline Unattainable and the hint 0xFFFFFFFF (the model's choice, log entry 51). A hold-class head that cannot be admitted stays
unfetched at a probe that is due and is fetched and refused at its hold limit; one that fails validation is fetched and ends; a probe
that is not due does nothing. -/
def Obligations.AdmissionAcceptsRefusesOrHolds : Prop :=
  (∀ (s : State) (fn sq cid : Nat) (c : Cmd) (q : Sq), s.findCmd fn sq cid = some c → c.phase = .offered →
    c.openReads = 0 → s.sqOf fn sq = some q →
    (∀ n, c.op = 0 → s.nsOf c.nsid = some n → s.plt.admitOpen = true → s.nsHeld c.nsid = false →
      s.stagedOf n = [] → (s.cls c.cls).unfit = false → c.toStage = [] → c.waitsSeg = [] →
      s.elQ c + tPost ≤ (s.cls c.cls).deadline c.kind * qUs → c.accepted = false →
      leads (.plotAdmit fn sq cid) s fun t => postsStatus s t fn sq cid q.cq Sc.success ∧
        (∃ k, t.findCmd fn sq cid = some k ∧ k.accepted = true ∧ k.phase = .posting ∧
          k.deadline = (s.cls c.cls).deadline c.kind) ∧
        tabGet (fun _ => 0) t.stats (128 * fn) = satAdd (2 ^ 64 - 1) (tabGet (fun _ => 0) s.stats (128 * fn)) 1 ∧
        keepsBut [.cmds, .cpls, .stats] s t) ∧
    (s.plt.admitOpen = false → c.accepted = false → leads (.plotAdmit fn sq cid) s fun t =>
      posts s t ⟨fn, sq, cid, q.cq, Sc.deadlineUnattainable, false, 0xFFFFFFFF#32⟩ ∧
      tabGet (fun _ => 0) t.stats (128 * fn + 1) = satAdd (2 ^ 64 - 1) (tabGet (fun _ => 0) s.stats (128 * fn + 1)) 1 ∧
      otherCtls s t fn ∧ t.atl.ent = s.atl.ent ∧ keepsBut [.atl, .cmds, .cpls, .ctls, .stats] s t)) ∧
  (∀ (s : State) (e : IoEntry) (op : Nat) (ad : Bool) (rs : List (Nat × Nat)) (q : Sq), s.sqOf e.fn e.sq = some q →
    s.findCmd e.fn e.sq e.cid = none → s.pwr.mode ≠ .ready →
    let head := fun (t : State) => ((t.sqOf e.fn e.sq).map Sq.head) = some ((q.head + 1) % max 1 q.size)
    let parts : List Part := [.buckets, .cmds, .cpls, .ctls, .sqs]
    (s.probeable e op q = false → exec (.holdProbe e op ad rs) s = .next s ∧ exec (.holdLimitExpiry e op ad rs) s = .next s) ∧
    (s.probeDue q = false → exec (.holdProbe e op ad rs) s = .next s) ∧
    (s.probeable e op q = true → ∀ st, s.validate e op (ioShape e op ad rs).1 (ioShape e op ad rs).2 = some st →
      (s.probeDue q = true → leads (.holdProbe e op ad rs) s fun t => head t ∧ postsStatus s t e.fn e.sq e.cid q.cq st ∧ keepsBut parts s t) ∧
      (leads (.holdLimitExpiry e op ad rs) s fun t => head t ∧ postsStatus s t e.fn e.sq e.cid q.cq st ∧ keepsBut parts s t)) ∧
    (s.probeable e 1 q = true → s.validate e 1 false [] = none → s.atl.jrnlFull = true →
      s.nsHeld e.nsid = false →
      (s.probeDue q = true → leads (.holdProbe e 1 ad rs) s fun t =>
        t.sqOf e.fn e.sq = some { q with headSince := some (q.headSince.getD s.now), probing := true, probed := some s.now } ∧
        otherSqs s t e.fn e.sq ∧ keepsBut [.sqs] s t) ∧
      (leads (.holdLimitExpiry e 1 ad rs) s fun t => head t ∧
        posts s t ⟨e.fn, e.sq, e.cid, q.cq, Sc.deadlineUnattainable, false, 0xFFFFFFFF#32⟩ ∧ keepsBut (.stats :: parts) s t)))

/-- A valid tail doorbell moves the tail, a valid head doorbell the head; a doorbell of no queue, with the event masked, changes
nothing. A turn of a queue under its burst fetches its head and takes its tokens; with nothing fetched the function waits. The
coalescing timer sends its vector. A completion entry takes the next place of its queue, phase flipped at the wrap. -/
def Obligations.QueuesAndCompletionEntriesMove : Prop := ∀ (s : State) (fn qid : Nat), fn < 256 → qid < 1024 →
  (s.takesDoorbell fn = true →
    (∀ q v, s.sqOf fn qid = some q → v < q.size → s.pwr.mode ≠ .ready → leads (.sqDoorbellWrite fn qid v) s fun t =>
      t.sqOf fn qid = some { q with tail := v } ∧ otherSqs s t fn qid ∧ keepsBut [.sqs] s t) ∧
    (∀ q v, s.cqOf fn qid = some q → v < q.size → (v + q.size - q.head) % max 1 q.size ≤ q.used →
      leads (.cqDoorbellWrite fn qid v) s fun t => t.cqOf fn qid = some { q with head := v } ∧ otherCqs s t fn qid ∧
        keepsBut [.cqs] s t) ∧
    (∀ v, s.sqOf fn qid = none → (s.ctl fn).rdy = true → (s.ctl fn).aers = [] → evInvalidDoorbell ∉ (s.ctl fn).aerMasked →
      evInvalidDoorbell ∉ (s.ctl fn).aerPend → leads (.sqDoorbellWrite fn qid v) s fun t =>
        evInvalidDoorbell ∈ (t.ctl fn).aerPend ∧ otherCtls s t fn ∧ keepsBut [.ctls] s t)) ∧
  (∀ heads q, s.fetches fn = true → s.pwr.mode ≠ .ready → (s.ctl fn).rrNext = qid → 0 < (s.ctl fn).rrLeft → s.sqOf fn qid = some q →
    s.eligible fn qid (headBytes heads qid) q = true → leads (.sqEntryFetch fn heads) s fun t =>
      (∃ k, t.sqOf fn qid = some k ∧ k.head = (q.head + 1) % max 1 q.size ∧ k.cls = q.nextCls ∧ k.newCls = none ∧
        k.fetching = q.fetching ++ [(q.head, q.nextCls, s.fnEpoch fn)]) ∧ (t.ctl fn).rrLeft = (s.ctl fn).rrLeft - 1 ∧
      (qid ≠ 0 → t.bucket fn q.nextCls = (s.bucket fn q.nextCls).take (s.cls q.nextCls) (headBytes heads qid)) ∧
      otherSqs s t fn qid ∧ otherCtls s t fn ∧ keepsBut [.buckets, .ctls, .sqs] s t) ∧
  (∀ heads, s.fetches fn = false → exec (.sqEntryFetch fn heads) s = .next s) ∧
  (∀ v, (∃ q x, q < 1024 ∧ s.cqOf fn q = some x ∧ x.vector = v ∧ 0 < x.coalCount) → leads (.coalescingTimerExpiry fn v) s fun t =>
    (∀ q x, q < 1024 → t.cqOf fn q = some x → x.vector = v → x.coalCount = 0) ∧
    ((s.fnOf fn).msixEn = true → (s.fnOf fn).msixMask = false →
      (tabGet (fun _ => MsixVec.reset) (s.fnOf fn).vec v).masked = false → sent s t (.msix fn v)) ∧
    (∀ g, g ≠ fn → t.fnOf g = s.fnOf g) ∧ keepsBut [.cqs, .fns, .out] s t) ∧
  (∀ cid p x, s.cpls.find? (fun p => decide (p.fn = fn ∧ p.sq = qid ∧ p.cid = cid)) = some p → s.cqOf fn p.cq = some x →
    x.room = true → s.hubOn = true →
    let place := fun (t : State) => ∃ y, t.cqOf fn p.cq = some y ∧ y.tail = (x.tail + 1) % max 1 x.size ∧
      y.phase = (if (x.tail + 1) % max 1 x.size = 0 then !x.phase else x.phase) ∧ y.head = x.head ∧ y.size = x.size
    (qid = 0 → leads (.completionEntrySent fn qid cid) s fun t => t.cpls = s.cpls.erase p ∧ sent s t (.entry p false) ∧
      place t ∧ otherCqs s t fn p.cq ∧ otherCtls s t fn ∧ keepsBut [.cpls, .cqs, .ctls, .fns, .out] s t) ∧
    (∀ c, qid ≠ 0 → s.findCmd fn qid cid = some c → c.phase = .posting → c.suspended = true ∨ c.inTime s.now = true →
      (∀ n, s.nsOf c.nsid = some n → n.format = none) → leads (.completionEntrySent fn qid cid) s fun t =>
        t.cpls = s.cpls.erase p ∧ sent s t (.entry { p with dw0 := c.dw0 s.now } false) ∧ t.findCmd fn qid cid = none ∧
        place t ∧ otherCqs s t fn p.cq ∧ keepsBut [.atl, .cmds, .cpls, .cqs, .ctls, .fns, .gaz, .lanes, .mgmt, .out, .plt, .pwr,
          .stats, .til, .reg .CHR_ALERT_STATUS, .reg .GAZ_COUNTS, .reg .TIL_POOL_WM] s t)) ∧
  (∀ cid p x, s.cpls.find? (fun p => decide (p.fn = fn ∧ p.sq = qid ∧ p.cid = cid)) = some p → s.cqOf fn p.cq = some x →
    x.room = false → exec (.completionEntrySent fn qid cid) s = .next s)

/-- The host side of a running command: a read that comes back is one fewer outstanding and the wait ends with the last; the clock
stands stopped past the allowance; a held write adds its wait; a failed entry read is issued again and then stalls the queue, each
logged through AER, but no timeout counts under CTD; a read lost to a command ends it with Data Transfer Error; a translation is
held. HOST_STAGE of a whole IU whose segment an engine holds makes its entry STAGED at the next staging offset (the model's choice, log entry 19), journalled. -/
def Obligations.HostReadsWaitsAndStaging : Prop := ∀ (s : State) (fn sq : Nat), fn < 256 → sq < 1024 →
  (∀ cid c, s.findCmd fn sq cid = some c →
    (c.phase = .running → 2 ≤ c.openReads → leads (.hostReadCompletion fn sq cid) s fun t =>
      t.findCmd fn sq cid = some { c with openReads := c.openReads - 1, readEpochs := c.readEpochs ++ [s.fnEpoch fn] } ∧
      keepsBut [.cmds] s t) ∧
    (c.phase = .running → c.openReads = 1 → c.op = 1 → c.outcome = 0 → leads (.hostReadCompletion fn sq cid) s fun t =>
      t.findCmd fn sq cid = some { c with openReads := 0, readEpochs := c.readEpochs ++ [s.fnEpoch fn], spans := c.waitSpans s.now,
                                          waitFrom := none, stopped := false } ∧
      ((s.fnOf fn).atsInval = [] → keepsBut [.cmds] s t) ∧ keepsBut [.cmds, .fns, .out] s t) ∧
    (c.waitFrom.isSome = true → allowance ≤ c.hostWait s.now → leads (.hostAllowanceExpiry fn sq cid) s fun t =>
      t.findCmd fn sq cid = some { c with stopped := true } ∧ keepsBut [.cmds] s t) ∧
    (∀ held, c.waitFrom = none → leads (.flowControlCredit fn sq cid held) s fun t =>
      t.findCmd fn sq cid = some { c with spans := addSpan c.spans (max c.start (s.now - held)) s.now, stopped := false } ∧
      keepsBut [.cmds] s t) ∧
    (∀ err q, c.phase ≠ .posting → s.sqOf fn sq = some q → leads (.hostReadError fn sq (some cid) err) s fun t =>
      postsStatus s t fn sq cid q.cq Sc.dataTransferError ∧ sent s t (.aer fn 4) ∧
      (∃ k, t.findCmd fn sq cid = some k ∧ k.phase = .posting ∧ k.bookings = []) ∧
      keepsBut (([.atl, .cmds, .cpls, .ctls, .fns, .lanes, .plt, .pwr, .til, .reg .TIL_POOL_WM] : List Part) ++ recordParts) s t)) ∧
  (∀ q, s.sqOf fn sq = some q → q.fetching ≠ [] → q.stalled = false → q.retried = false →
    (∀ err, leads (.hostReadError fn sq none err) s fun t => t.sqOf fn sq = some { q with retried := true } ∧
      (t.fnOf fn).aer = 4 :: (s.fnOf fn).aer ∧ t.out = .aer fn 4 :: s.out ∧ keepsBut [.fns, .out, .sqs] s t) ∧
    ((s.fnOf fn).ctd = false → leads (.completionTimeout fn sq none) s fun t =>
      t.sqOf fn sq = some { q with retried := true } ∧ sent s t (.aer fn 5) ∧ t.fld F.HST_FN_EVENTS_CPL_TIMEOUT fn = 1 ∧
      otherSqs s t fn sq ∧ keepsBut (([.sqs, .reg .HST_FN_EVENTS] : List Part) ++ eventParts) s t)) ∧
  (∀ q err, s.sqOf fn sq = some q → q.fetching ≠ [] → q.stalled = false → q.retried = true →
    leads (.hostReadError fn sq none err) s fun t => t.sqOf fn sq = some { q with stalled := true } ∧ sent s t (.aer fn 4) ∧
      t.fld F.HST_FN_EVENTS_SQ_STALLED fn = 1 ∧ otherSqs s t fn sq ∧
      keepsBut (([.sqs, .reg .HST_FN_EVENTS] : List Part) ++ eventParts) s t) ∧
  (∀ cid, (s.fnOf fn).ctd = true → exec (.completionTimeout fn sq cid) s = .next s) ∧
  (∀ cid page, (s.fnOf fn).ats = true → leads (.atsTranslationCompletion fn sq cid page true) s fun t =>
    page ∈ (t.fnOf fn).atsHeld ∧ (∀ g, g ≠ fn → t.fnOf g = s.fnOf g) ∧ keepsBut [.fns] s t) ∧
  (∀ cid iu rest c n, s.findCmd fn sq cid = some c → s.nsOf c.nsid = some n → c.phase = .running → c.openReads = 0 → c.op = 1 →
    c.kind = .write → atomicWrite n c = false → c.toStage = iu :: rest → rest ≠ [] → iu ∉ rest →
    s.maskOfCmd n c iu = s.fullMask n → s.asmOf iu = none → (s.readySegs [segOfIu iu]).isSome = true →
    c.rmw = [] → (∀ k ∈ s.cmds, k.waitsFor = []) → leads (.hostStage fn sq cid iu) s fun t =>
      t.rawEnt iu = ⟨.staged, s.atl.nextStage, 0⟩ ∧ t.atl.jseq = (s.atl.jseq + 1) % 2 ^ 48 ∧ s.atl.nextStage < t.atl.nextStage ∧
      (∃ k, t.findCmd fn sq cid = some k ∧ k.toStage = rest ∧ k.staged = c.staged ++ [s.atl.nextStage] ∧ k.phase = .running) ∧
      t.cpls = s.cpls ∧ keepsBut (([.atl, .cmds, .fns, .plt, .pwr, .svy, .reg .ATL_JRNL_WM] : List Part) ++ recordParts) s t)

/-! ### The Atlas map (chapter 4) -/

/-- Table 04-4, for an IU of a pool outside recovery: a lookup answers the entry, through the engine that serves its segment; an IU beyond
the capacity reads UNMAPPED and no answer comes while the map is not ready. RELOCATE and PROGRAM_DONE swap only an entry that still names
the old place, with one journal record, and else leave the map and count a failure (an update to no data position of its band class is
ignored: the model's reading, log entry 54); DISCARD leaves UNMAPPED and lowers the old band's count, POISON leaves POISONED with its reason;
no other IU's entry changes. While no engine can hold the segment (it is recovered, its snoop is pending, no slot is free, an older update
waits), an update waits and the map stays. -/
def Obligations.MapUpdatesCompareAndSwap : Prop :=
  (∀ (s : State) (pool iu : Nat), s.iuExists pool iu = true →
  let key := iuKey pool iu
  let others := fun (t : State) => ∀ k, k ≠ key → t.lookup k = s.lookup k
  let parts : List Part := ([.plt, .til, .reg .TIL_POOL_WM] : List Part) ++ mapParts
  (s.atl.mapReady = true → s.atl.recovering.contains (segOfIu key) = false → leads (.atlasLookup pool iu) s fun t =>
    t.out = .answer 0x040 [(s.lookup key).word] :: s.out ∧ t.lookup key = s.lookup key ∧ others t ∧
    ((s.segOf (segOfIu key)).discarded = true → keepsBut [.out] s t) ∧
    ((s.segOf (segOfIu key)).discarded = false → s.fenced 0x040 (s.steer (segOfIu key)) = false → s.snoopOf (segOfIu key) = none →
      s.dirOf (segOfIu key) = .uncached → s.grantedTo (s.steer (segOfIu key)) < 128 →
      t.dirOf (segOfIu key) = .held (s.steer (segOfIu key)) ∧ otherDirs s t (segOfIu key)) ∧ keepsBut [.atl, .out] s t) ∧
  (s.atl.mapReady = false → leads (.atlasLookup pool iu) s fun t => t.out = .answer 0x040 [] :: s.out ∧ keepsBut [.out] s t) ∧
  ((s.readySegs [segOfIu key]).isSome = true → ∀ a b,
    (s.dataIn b 1 = true → s.lookup key = mappedAt a → leads (.relocate pool iu a b) s fun t =>
      t.lookup key = mappedAt b ∧ others t ∧ t.atl.jseq = (s.atl.jseq + 1) % 2 ^ 48 ∧
      t.rg .ATL_CAS_FAIL 0 = s.rg .ATL_CAS_FAIL 0 ∧ keepsBut (.plt :: mapParts) s t) ∧
    (s.dataIn b 1 = true → s.lookup key ≠ mappedAt a → leads (.relocate pool iu a b) s fun t =>
      t.atl.ent = s.atl.ent ∧ t.atl.jseq = s.atl.jseq ∧ t.atl.queued = s.atl.queued ∧
      t.fld F.ATL_CAS_FAIL_COUNT 0 = satAdd (2 ^ 32 - 1) (s.fld F.ATL_CAS_FAIL_COUNT 0) 1 ∧ keepsBut [.atl, .reg .ATL_CAS_FAIL] s t) ∧
    (s.dataIn b 0 = true → (s.lookup key).st = .staged → (s.lookup key).addr = a → leads (.programDone pool iu a b) s fun t =>
      t.lookup key = mappedAt b ∧ others t ∧ t.atl.jseq = (s.atl.jseq + 1) % 2 ^ 48 ∧
      (∀ x, s.slotOf a = some x → x.reads = 0 → x.progs ≤ 1 → t.slotOf a = none) ∧
      keepsBut (([.cmds, .cpls, .ctls, .media, .plt] : List Part) ++ mapParts) s t) ∧
    (s.dataIn b 0 = true → ¬ ((s.lookup key).st = .staged ∧ (s.lookup key).addr = a) → leads (.programDone pool iu a b) s fun t =>
      t.atl.ent = s.atl.ent ∧ t.atl.jseq = s.atl.jseq ∧
      t.fld F.ATL_CAS_FAIL_COUNT 0 = satAdd (2 ^ 32 - 1) (s.fld F.ATL_CAS_FAIL_COUNT 0) 1 ∧
      keepsBut [.atl, .cmds, .cpls, .ctls, .media, .pwr, .reg .ATL_CAS_FAIL] s t)) ∧
  (∀ a b, (s.dataIn b 1 = false → exec (.relocate pool iu a b) s = .next s) ∧
    (s.dataIn b 0 = false → exec (.programDone pool iu a b) s = .next s)) ∧
  ((s.readySegs [segOfIu key]).isSome = true →
    (leads (.discard pool iu) s fun t => t.lookup key = Ent.reset ∧ others t ∧ t.atl.jseq = (s.atl.jseq + 1) % 2 ^ 48 ∧
      t.poisonMask key = 0 ∧
      ((s.lookup key).st = .mapped → (t.bandRec (s.bandOfAddr (s.lookup key).addr)).valid =
        (s.bandRec (s.bandOfAddr (s.lookup key).addr)).valid - s.iuUnits key) ∧ keepsBut parts s t) ∧
    (∀ r, leads (.poison pool iu r) s fun t => t.lookup key = ⟨.poisoned, r % 16 * 2 ^ 32, 0⟩ ∧ others t ∧
      t.atl.jseq = (s.atl.jseq + 1) % 2 ^ 48 ∧ t.poisonMask key = 0 ∧ keepsBut parts s t)) ∧
  (s.readySegs [segOfIu key] = none → ∀ a b,
    (s.dataIn b 1 = true → leads (.relocate pool iu a b) s fun t =>
      t.atl = { s.atl with queued := s.atl.queued ++ [⟨2, key, a, b, [], s.dataEpoch b⟩] } ∧ keepsBut [.atl] s t) ∧
    (s.dataIn b 0 = true → leads (.programDone pool iu a b) s fun t =>
      t.atl = { s.atl with queued := s.atl.queued ++ [⟨1, key, a, b, [], s.dataEpoch b⟩] } ∧ keepsBut [.atl] s t) ∧
    (leads (.discard pool iu) s fun t => t.atl.ent = s.atl.ent ∧ t.atl.jseq = s.atl.jseq ∧
      t.atl.queued = s.atl.queued ++ [⟨0, key, 3, 0, [(key, Ent.reset, 0)], 0⟩] ∧ keepsBut parts s t) ∧
    (∀ r, leads (.poison pool iu r) s fun t => t.atl.ent = s.atl.ent ∧ t.atl.jseq = s.atl.jseq ∧
      t.atl.queued = s.atl.queued ++ [⟨0, key, 1, 0, [(key, ⟨.poisoned, r % 16 * 2 ^ 32, 0⟩, 0)], 0⟩] ∧ keepsBut parts s t))) ∧
  (∀ (s : State) (pool iu : Nat) (p : Pool), s.poolOf pool = some p → p.segs * 819 ≤ iu → s.atl.mapReady = true →
    s.atl.recovering.contains (segOfIu (iuKey pool iu)) = false → leads (.atlasLookup pool iu) s fun t =>
      t.out = .answer 0x040 [0] :: s.out ∧ keepsBut [.out] s t)

/-- An assembly window's end closes its slot and marks what a poisoned or unread previous value leaves missing; a spill keeps the newest of
the tail; a checkpoint copy stands at the JSEQ recorded; a late pass sets its event; a sweep clears DISCARDED; a recovery gives the
segment its DRAM copy back, with the newer records, and ends with its event. Table 04-3 and R119: GET of an engine that serves the segment
(or the one below it) and has room grants an UNCACHED segment and else leaves a snoop; SNOOP_DONE makes the requester the holder; an eviction
moves the segment to a buffer, its notice sets EVICTING, a finished write-back gives DRAM the segment's image and raises SEG_GEN, the ACK returns it to UNCACHED; a load of
the right generation installs the segment clean, another one reports SEG_UE. -/
def Obligations.MapHousekeepingAndTheDirectory : Prop :=
  (∀ (s : State),
  (∀ slot ok a, s.atl.asm.find? (fun a => decide (a.slot = slot)) = some a →
    (a.prev.st = .unmapped → leads (.assemblyWindowEnd slot ok) s fun t => (∀ x ∈ t.atl.asm, x.iu ≠ a.iu) ∧
      t.atl.poison = s.atl.poison ∧ t.atl.ent = s.atl.ent ∧
      keepsBut (([.atl, .plt, .pwr, .til, .reg .TIL_POOL_WM] : List Part) ++ eventParts) s t) ∧
    (a.prev.st = .poisoned ∨ (a.prev.st = .mapped ∧ ok = false) → a.full - (a.present &&& a.full) ≠ 0 →
      leads (.assemblyWindowEnd slot ok) s fun t => (∀ x ∈ t.atl.asm, x.iu ≠ a.iu) ∧
        t.poisonMask a.iu = (s.poisonMask a.iu ||| (a.full - (a.present &&& a.full))) ∧ t.atl.ent = s.atl.ent ∧
        keepsBut (([.atl, .plt, .pwr, .til, .reg .TIL_POOL_WM] : List Part) ++ eventParts) s t)) ∧
  (2 ^ 20 ≤ s.unspilled → s.mapOpen = true → leads .journalBlockSpill s fun t => (∃ l, s.atl.tail = t.atl.tail ++ l ∧
      t.atl.spilled = l ++ s.atl.spilled ∧ (l.map JRec.lines).sum ≤ 65536) ∧ t.atl.ent = s.atl.ent ∧
    t.atl.tailBytes ≤ s.atl.tailBytes ∧ t.svy.band = s.svy.band ∧ keepsBut [.atl, .svy] s t) ∧
  (s.unspilled < 2 ^ 20 ∨ s.mapOpen = false → exec .journalBlockSpill s = .next s) ∧
  (∀ loc k, nthSeg s.allSegs s.atl.ckptNext = some k → s.dataIn loc 2 = true → leads (.checkpointCopy loc) s fun t =>
    (t.segOf k).ckptSeq = s.atl.jseq ∧ (t.segOf k).ckptAt = loc ∧ (∀ j, j ≠ k → t.segOf j = s.segOf j) ∧
    t.atl.jseq = (s.atl.jseq + 1) % 2 ^ 48 ∧ t.atl.ent = s.atl.ent ∧
    t.atl.ckptNext = (if (nthSeg s.allSegs (s.atl.ckptNext + 1)).isNone then 0 else s.atl.ckptNext + 1) ∧
    keepsBut (([.atl, .plt, .svy, .reg .ATL_JRNL_WM] : List Part) ++ eventParts) s t) ∧
  (∀ loc k, nthSeg s.allSegs s.atl.ckptNext = some k → s.dataIn loc 2 = false → exec (.checkpointCopy loc) s = .next s) ∧
  (leads .ckptPassOverrun s fun t => t.atl = { s.atl with ckptBehind := true } ∧ t.fld F.ATL_EVENTS_CKPT_LATE 0 = 1 ∧
    keepsBut (([.atl, .reg .ATL_EVENTS] : List Part) ++ eventParts) s t) ∧
  (∀ pool seg, (s.segOf (pool * 2 ^ 32 + seg)).discarded = true → leads (.discardSweep pool seg) s fun t =>
    (t.segOf (pool * 2 ^ 32 + seg)).discarded = false ∧ (∀ key, t.lookup key = s.lookup key) ∧ t.atl.jseq = s.atl.jseq ∧
    keepsBut [.atl, .plt, .pwr, .svy] s t) ∧
  (∀ pool seg dram, s.atl.recovering.contains (pool * 2 ^ 32 + seg) = true →
    (s.atl.segLost.contains (pool * 2 ^ 32 + seg) = false → s.atl.queued = [] →
      s.atl.suspended = [] → (∀ c ∈ s.cmds, c.phase = .offered → c.accepted = false) →
      leads (.segmentRecovery pool seg dram) s fun t => t.atl.recovering.contains (pool * 2 ^ 32 + seg) = false ∧
        t.fld F.ATL_EVENTS_RECOVERY_DONE 0 = 1 ∧
        (∀ key, segOfIu key ≠ pool * 2 ^ 32 + seg → t.rawEnt key = s.rawEnt key) ∧
        (dram = true → (s.segOf (pool * 2 ^ 32 + seg)).discarded = false →
          (∀ r ∈ s.atl.tail ++ s.atl.spilled, r.seq ≤ (s.segOf (pool * 2 ^ 32 + seg)).wbSeq) →
          t.atl.ent = replaceSeg s.atl.ent (pool * 2 ^ 32 + seg)
            (s.atl.copy.filter (fun e => decide (segOfIu e.1 = pool * 2 ^ 32 + seg)))) ∧
        keepsBut (([.atl, .reg .ATL_EVENTS] : List Part) ++ eventParts) s t) ∧
    (s.atl.segLost.contains (pool * 2 ^ 32 + seg) = true → s.rebuildChan (pool * 2 ^ 32 + seg) = none →
      leads (.segmentRecovery pool seg dram) s fun t => keepsBut recordParts s t))) ∧
  (∀ (s : State) (e k : Nat), e < 16 →
  (s.fenced 0x040 e = false → e = s.steer k ∨ (k % 2 ^ 32 ≠ 0 ∧ e = s.steer (k - 1)) → s.grantedTo e < 128 →
    (s.dirOf k = .uncached → leads (.segGet k e) s fun t => t.dirOf k = .held e ∧ otherDirs s t k ∧
      t.atl.snoops = s.atl.snoops ∧ keepsBut [.atl] s t) ∧
    (∀ h, (s.dirOf k = .held h ∧ h ≠ e) ∨ s.dirOf k = .evicting h → leads (.segGet k e) s fun t =>
      (∀ j, t.dirOf j = s.dirOf j) ∧ t.atl.snoops = s.atl.snoops ++ [(k, e)] ∧ keepsBut [.atl] s t)) ∧
  (∀ r h, s.snoopOf k = some r →
    ((s.atlEng e).heldSeg k = some h → leads (.snoop e k r) s fun t => (t.atlEng e).heldSeg k = none ∧
      (∀ g, g ≠ e → t.atlEng g = s.atlEng g) ∧ t.out = .answer 0x040 [k, r, b2n h.dirty] :: s.out ∧ keepsBut [.atl, .out] s t) ∧
    (s.atl.queued = [] → leads (.snoopDone k r) s fun t => t.dirOf k = .held r ∧ otherDirs s t k ∧
      t.atl.snoops = s.atl.snoops.erase (k, r) ∧ keepsBut [.atl] s t)) ∧
  (∀ h, (s.atlEng e).heldSeg k = some h → (s.atlEng e).bufs.length < 4 → s.wbPending k = none → s.dirOf k = .held e →
    leads (.segmentEvict e k) s fun t => (t.atlEng e).heldSeg k = none ∧
      (t.atlEng e).bufs = (s.atlEng e).bufs ++ [⟨k, h.dirty, false, false⟩] ∧
      t.atl.writes = (if h.dirty then s.atl.writes ++ [⟨k, e, s.atl.jseq, false, false, s.segEnts k⟩] else s.atl.writes) ∧
      (∀ j, t.dirOf j = s.dirOf j) ∧ keepsBut [.atl] s t) ∧
  (((s.atlEng e).bufSeg k).isSome = true → s.dirOf k = .held e → leads (.evictNotice e k) s fun t =>
    t.dirOf k = .evicting e ∧ otherDirs s t k ∧ keepsBut [.atl] s t) ∧
  (∀ w, s.atl.writes.find? (fun w => decide (w.seg = k ∧ w.eng = e) && !w.done) = some w →
    leads (.segmentWritebackComplete e k) s fun t => sent s t (.answer 0x070 ([s.segChan k, s.segAddr k] ++
      segImage k ((s.segOf k).gen + 1) w.image)) ∧ t.atl.copy = replaceSeg s.atl.copy k w.image ∧ (t.segOf k).gen = (s.segOf k).gen + 1 ∧ (t.segOf k).wbSeq = w.seq ∧
      (∀ j, j ≠ k → t.segOf j = s.segOf j) ∧ (∀ j, t.dirOf j = s.dirOf j) ∧ keepsBut [.atl, .out] s t) ∧
  (∀ b, s.atl.queued = [] → (s.atlEng e).bufSeg k = some b → b.dirty = false ∨ b.written = true →
    (s.dirOf k = .evicting e → s.snoopOf k = none → leads (.evictAck e k) s fun t => t.dirOf k = .uncached ∧
      (t.atlEng e).bufSeg k = none ∧ otherDirs s t k ∧ keepsBut [.atl] s t) ∧
    (∀ h, s.dirOf k = .held h → h ≠ e → leads (.evictAck e k) s fun t => (∀ j, t.dirOf j = s.dirOf j) ∧
      (t.atlEng e).bufSeg k = none ∧ keepsBut [.atl] s t)) ∧
  (s.dirOf k = .held e → (s.atlEng e).heldSeg k = none → (s.atlEng e).held.length < 128 →
    (leads (.segmentLoadComplete e k (s.segOf k).gen true) s fun t =>
      (t.atlEng e).held = (s.atlEng e).held ++ [⟨k, false, 0⟩] ∧ (∀ g, g ≠ e → t.atlEng g = s.atlEng g) ∧
      (∀ j, t.dirOf j = s.dirOf j) ∧ keepsBut [.atl] s t) ∧
    (∀ gen v, gen % 256 ≠ (s.segOf k).gen % 256 → leads (.segmentLoadComplete e k gen v) s fun t =>
      t.fld F.ATL_EVENTS_SEG_UE 0 = 1 ∧ keepsBut faultParts s t)) ∧
  (∀ h, (s.atlEng e).heldSeg k = some h → h.dirty = true → s.wbPending k = none → leads (.dirtyMaxExpiry e k) s fun t =>
    t.atl.writes = s.atl.writes ++ [⟨k, e, s.atl.jseq, false, false, s.segEnts k⟩] ∧ (∀ g, t.atlEng g = s.atlEng g) ∧
    (∀ j, t.dirOf j = s.dirOf j) ∧ keepsBut [.atl] s t) ∧
  (∀ d, s.snoopOf k = some e → (s.atlEng e).heldSeg k = none → (s.atlEng e).held.length < 128 →
    leads (.segmentReceived e k d) s fun t => (t.atlEng e).held = (s.atlEng e).held ++ [⟨k, d, s.now⟩] ∧
      (∀ g, g ≠ e → t.atlEng g = s.atlEng g) ∧ (∀ j, t.dirOf j = s.dirOf j) ∧ keepsBut [.atl] s t))


/-! ### The Plotter (chapter 3) -/

/-- FRAME_BOUNDARY: while the hub runs, frame 0 retires and the horizon moves by one, reserves, staging budget and port rates come into
force, and every bucket gains its refill; die time booked in the retired frame is gone; owed work is booked, quiet slots and the power
state are chosen. In HOLDUP the frame advances and nothing but the model moves; while the device is off nothing happens. -/
def Obligations.FrameBoundaryAdvancesTheLedger : Prop := ∀ (s : State) (activity : List Nat),
  (s.hubOn = true → leads (.frameBoundary activity) s fun t => t.plt.frame = s.plt.frame + 1 ∧ t.plt.frameAt = s.now ∧
    t.plt.hkNow = s.fld F.PLT_RESERVE_HK_PERMILLE 0 ∧ t.plt.thNow = s.fld F.PLT_RESERVE_THERMAL_PERMILLE 0 ∧
    t.plt.stagingNow = s.pwr.budget ∧
    (∀ p, (t.port p).rateUsed = if (s.port p).up then (s.port p).rate else 0) ∧
    (∀ f c b, (s.buckets.map Prod.fst).Nodup → c < 64 → (64 * f + c, some b) ∈ s.buckets →
      t.bucket f c = b.refill (s.cls c)) ∧
    (∀ d, d < 2048 → t.plt.booked 0 d s.plt.frame = 0) ∧ t.svy.sampledNow = 0 ∧
    keepsBut [.atl, .buckets, .cip, .classes, .cmds, .cpls, .ctls, .ctr, .dram, .flt, .fns, .gaz, .lanes, .media, .mgmt, .ops, .out, .par, .plt,
      .ports, .pwr, .srv, .stats, .svy, .til, .trv, .reg .ATL_CAS_FAIL, .reg .ATL_JRNL_WM, .reg .LDP_CNT_UNCORR, .reg .LDP_EVENTS,
      .reg .PAR_EVENTS, .reg .PLT_RECON, .reg .SVY_MEDIA_EVENTS, .reg .TIL_POOL_WM, .reg .CHR_ALERT_STATUS, .reg .CTR_EVENTS, .reg .CTR_TEMP_WM, .reg .GAZ_COUNTS,
      .reg .HST_PROMISE_EVENTS, .reg .MBX_EVENTS, .reg .PLT_EVENTS, .reg .PLT_FLOOR_RD, .reg .PLT_FLOOR_WR, .reg .PWR_EVENTS,
      .reg .SRV_EVENTS, .reg .SRV_LAST_SIG_HI, .reg .SRV_LAST_SIG_LO, .reg .SRV_LAST_UNIT] s t) ∧
  (s.pwr.mode = .holdup → leads (.frameBoundary activity) s fun t => t.plt.frame = s.plt.frame + 1 ∧
    t.plt.frameAt = s.now ∧ t.buckets = s.buckets ∧
    keepsBut [.cmds, .cpls, .ctls, .ctr, .flt, .fns, .gaz, .lanes, .mgmt, .ops, .out, .par, .plt, .srv, .svy, .trv,
      .reg .CHR_ALERT_STATUS, .reg .CTR_EVENTS, .reg .CTR_TEMP_WM, .reg .GAZ_COUNTS, .reg .HST_PROMISE_EVENTS, .reg .MBX_EVENTS,
      .reg .SRV_EVENTS, .reg .SRV_LAST_SIG_HI, .reg .SRV_LAST_SIG_LO, .reg .SRV_LAST_UNIT] s t) ∧
  (s.hubOn = false → s.pwr.mode ≠ .holdup → exec (.frameBoundary activity) s = .next s)

/-- QUIET_SLOT_END ends the slot and asks for an anchor of its channel; a soft reservation takes its lane and what ran there yields; a
read that its page decodes for completes; a background read that fails is read again in the next mode, and in the last is UNCORRECTED; a finished array read counts on
its block, whether it ran alone or under a suspended operation; one planned under an older epoch whose command was re-planned is counted
too, and discarded; a passed erase zeroes its reads and counts one erase; then the die's boundary takes what waits there. -/
def Obligations.QuietSlotsDecodesAndDieOperationsEnd : Prop := ∀ (s : State),
  (∀ c, s.plt.quiet = some c → leads .quietSlotEnd s fun t => t.plt.quiet = none ∧ t.plt.quietLeft = 0 ∧
    t.ctr.anchorDue = some c ∧ t.ctr.unquiet = [] ∧ t.fld F.PLT_EVENTS_QUIET_DONE 0 = 1 ∧
    keepsBut (([.ctr, .plt, .reg .PLT_EVENTS] : List Part) ++ eventParts) s t) ∧
  (∀ lane id j, (s.laneOf lane).res.find? (fun j => decide (j.id = id)) = some j →
    let own := fun (b : LdpJob) => decide (b.mode = 1 ∧ b.id = id)
    (s.lanes.any (fun e => e.2.busy.any own) = false → leads (.softReservationStart lane id) s fun t =>
      (t.laneOf lane).busy = some j ∧ (∀ k ∈ (t.laneOf lane).res, k.id ≠ id) ∧
      (t.laneOf lane).yielded = (s.laneOf lane).busy.toList ++ (s.laneOf lane).yielded.filter (fun b => !own b) ∧
      (∀ l, l ≠ lane → t.laneOf l = { s.laneOf l with yielded := (s.laneOf l).yielded.filter (fun b => !own b) }) ∧ keepsBut [.lanes] s t) ∧
    (s.lanes.any (fun e => e.2.busy.any own) = true → leads (.softReservationStart lane id) s fun t =>
      (t.laneOf lane).busy = (s.laneOf lane).busy ∧ (∀ k ∈ (t.laneOf lane).res, k.id ≠ id) ∧
      (∀ l, l ≠ lane → t.laneOf l = s.laneOf l) ∧ keepsBut [.lanes] s t)) ∧
  (∀ lane die block page plane mask corr lad, lane < 256 → die < 2048 → s.fenced 0x0B0 lane = false →
    corr < s.fld F.LDP_CFG_CORR_WARN 0 → (∀ j, (s.laneOf lane).busy = some j → j.orphan = false) →
    let m := if mask % 16 = 0 then 15 else mask % 16
    let steps := fun (p : Profile) => min p.retryLen (s.fld F.LDP_CFG_LADDER_MAX 0)
    let more := fun (t : State) (ref : RefState) => ∃ o, (o ∈ t.dieQueue die ∨ ∃ w, (w, die, o) ∈ t.plt.later) ∧ o.kind = 4 ∧ o.ref = ref ∧
      s.plt.nextOp ≤ o.id
    (∀ c i q, s.readerOf ⟨die, block, page, plane, m⟩ = some (c, 0, i) → s.findCmd c.fn c.sq c.cid = some c → c.ius = [i] →
      i.detour = false → i.claim = [] → i.members = [(die, 0)] ∨ i.members = [(die, 4)] → i.conting = none → i.resv = none → c.openReads = 0 → c.outcome = 0 → c.op = 2 →
      s.sqOf c.fn c.sq = some q →
      leads (.decodeComplete lane 0 true corr lad die block page plane mask) s fun t =>
        postsStatus s t c.fn c.sq c.cid q.cq Sc.success ∧ sent s t (.answer 0x0B0 [die, block, page, plane, 0, corr, lad, 0]) ∧
        keepsBut [.cmds, .cpls, .lanes, .media, .out, .plt] s t) ∧
    (s.readerOf ⟨die, block, page, plane, m⟩ = none → s.svy.sampling = [] → (s.bandRec (s.bandOf die block)).st ≠ .victim →
      (leads (.decodeComplete lane 0 true corr lad die block page plane mask) s fun t =>
        t.out = .answer 0x0B0 [die, block, page, plane, 0, corr, lad, 0] :: s.out ∧ (∀ l, l ≠ lane → t.laneOf l = s.laneOf l) ∧
        keepsBut [.lanes, .out] s t) ∧
      (∀ p, s.profileOf die = some p → 0 < p.softReads ∨ 0 < steps p →
        leads (.decodeComplete lane 0 false corr lad die block page plane mask) s fun t =>
          t.fld F.LDP_CNT_HARD_FAIL_COUNT (lane / 64) =
            satAdd (2 ^ 32 - 1) (s.fld F.LDP_CNT_HARD_FAIL_COUNT (lane / 64)) 1 ∧
          sent s t (.answer 0x0B0 [die, block, page, plane, 4, corr, lad, m]) ∧
          (if 0 < p.softReads then ∀ j, j < p.softReads → more t (.soft (j + 1)) else more t (.set 1)) ∧
          keepsBut [.lanes, .media, .out, .plt, .reg .LDP_CNT_HARD_FAIL] s t) ∧
      (∀ p, s.profileOf die = some p → steps p = 0 → leads (.decodeComplete lane 1 false corr lad die block page plane mask) s fun t =>
          t.fld F.LDP_EVENTS_UNCORRECTED (chanQuad (dieChan die)) = 1 ∧
          t.fld F.LDP_CNT_UNCORR_COUNT (chanQuad (dieChan die)) =
            satAdd (2 ^ 32 - 1) (s.fld F.LDP_CNT_UNCORR_COUNT (chanQuad (dieChan die))) 1 ∧
          sent s t (.answer 0x0B0 [die, block, page, plane, 3, 0, 0, m]) ∧
          keepsBut (([.lanes, .media, .svy, .reg .LDP_CNT_UNCORR, .reg .LDP_EVENTS, .reg .PAR_EVENTS] : List Part) ++ eventParts) s t))) ∧
  (∀ die p r passed, s.runningOp die = some r → s.profileOf die = some p → s.plt.dieMoves = [] → s.plt.fnMoves = [] →
    let b := s.bandOf die ((s.ctxOf die).row / max 1 p.pages)
    let after := fun (t : State) (P : State → Prop) => ∃ u, P u ∧ t = u.boundary die
    let counted := fun (t : State) => tabGet (fun _ => 0) (t.bandRec b).reads (dieSheet die) =
        satAdd (2 ^ 24 - 1) (tabGet (fun _ => 0) (s.bandRec b).reads (dieSheet die)) 1 ∧ (∀ k, k ≠ b → t.bandRec k = s.bandRec k)
    ((s.bandRec b).st ≠ .free → ((s.profileOf (128 * dieSheet die + b % 128)).map Profile.readLimit).getD 0 = 0 →
      (r.suspended = false → r.op.kind = 0 → r.op.epoch = s.dieEpochOf die → r.op.orphan = false →
        leads (.dieOperationComplete die passed) s fun t => after t fun u => u.runningOp die = none ∧ counted u ∧
          (r.op.cmd = none → u.cmds = s.cmds) ∧ otherCtxs s u die ∧ keepsBut [.cmds, .plt, .svy, .trv] s u) ∧
      (r.suspended = false → r.op.kind = 0 → r.op.epoch ≠ s.dieEpochOf die → s.wasReplanned r.op = true →
        leads (.dieOperationComplete die passed) s fun t => after t fun u => u.runningOp die = none ∧
          u.fld F.PLT_EVENTS_STALE_DISCARD 0 = 1 ∧
          u.fld F.PLT_STALE_COUNT 0 = satAdd (2 ^ 32 - 1) (s.fld F.PLT_STALE_COUNT 0) 1 ∧ counted u ∧ otherCtxs s u die ∧
          keepsBut (([.cmds, .plt, .pwr, .svy, .til, .trv, .reg .PLT_STALE, .reg .PLT_EVENTS, .reg .TIL_POOL_WM] : List Part)
            ++ eventParts) s u) ∧
      (∀ y, r.suspended = true → tabGet (fun _ => none) s.plt.reading die = some y → y.op.kind = 0 →
        y.op.epoch = s.dieEpochOf die → y.op.orphan = false → leads (.dieOperationComplete die passed) s fun t => after t fun u =>
          u.runningOp die = some r ∧ tabGet (fun _ => none) u.plt.reading die = none ∧ counted u ∧ otherCtxs s u die ∧
          keepsBut [.cmds, .plt, .svy, .trv] s u)) ∧
    (r.suspended = false → r.op.kind = 2 → (s.bandRec b).st = .erasing →
      leads (.dieOperationComplete die true) s fun t => after t fun u => u.runningOp die = none ∧
        tabGet (fun _ => 0) (u.bandRec b).reads (dieSheet die) = 0 ∧
        tabGet (fun _ => 0) (u.bandRec b).erases (dieSheet die) =
          satAdd (2 ^ 24 - 1) (tabGet (fun _ => 0) (s.bandRec b).erases (dieSheet die)) 1 ∧
        (∀ k, k ≠ b → u.bandRec k = s.bandRec k) ∧ otherCtxs s u die ∧ ((s.bandRec b).cls ≠ 3 → keepsBut [.atl, .plt, .svy, .trv] s u) ∧
        keepsBut (([.atl, .plt, .pwr, .svy, .trv, .reg .PWR_EVENTS] : List Part) ++ eventParts) s u))

/-! ### Media upkeep (chapter 5) and stripes (chapter 6) -/

/-- Bands move as Table 05-2 says, each move a band record: the candidate with the highest score, the lowest index on a tie, becomes VICTIM;
the least worn FREE band opens with the group's sheets, or is RETIRED where a member is bad and no good spare stands for it; a DRAINED band
without pins or old reads is erased on the members there are, or retired where marked; the first queued band, closed first if OPEN, becomes
VICTIM, or DRAINED when empty; an OPEN band over its read limit closes and is queued; a rebuilt member is no erasure, but in the rows lost. -/
def Obligations.BandsMoveThroughTheirStates : Prop := ∀ (s : State) (b : Nat),
  let others := fun (t : State) (b : Nat) => ∀ k, k ≠ b → t.bandRec k = s.bandRec k
  (∀ g, (∃ k ∈ s.svy.band.map Prod.fst, k % 128 = g ∧ s.gcCandidate k = true) → leads (.gcVictimPick g) s fun t =>
    ∃ v, v % 128 = g ∧ s.gcCandidate v = true ∧ (t.bandRec v).st = .victim ∧ others t v ∧
      (∀ k ∈ s.svy.band.map Prod.fst, k % 128 = g → s.gcCandidate k = true →
        s.score k < s.score v ∨ (s.score k = s.score v ∧ v ≤ k)) ∧
      t.out = .answer 0x050 [v, s.score v] :: s.out ∧
      t.atl = { s.atl with bandTail := (s.atl.jseq, v, t.bandRec v) :: s.atl.bandTail } ∧ keepsBut [.atl, .out, .svy] s t) ∧
  (∀ g cls, g < 128 → cls < 3 → (∀ e ∈ s.svy.band, ¬ (e.1 % 128 = g ∧ e.2.st = .opened ∧ e.2.cls = cls)) → 4 ≤ s.width g →
    (cls = 0 → s.urgency g ≠ 3) → s.freeBand g = some b →
    let bad := fun sh => (tabGet (fun _ => []) s.svy.bad (128 * sh + b % 128)).contains ((s.bandRec b).member b sh)
    ((∀ sh ∈ s.presentSheets (b % 128), bad sh = false) → leads (.bandOpen g cls) s fun t => (t.bandRec b).st = .opened ∧
      (t.bandRec b).cls = cls ∧ (t.bandRec b).sheets = s.groupSheets (b % 128) ∧ (t.bandRec b).wb = s.width (b % 128) ∧
      (t.bandRec b).valid = 0 ∧ (t.bandRec b).nextRow = 0 ∧ (t.bandRec b).erases = (s.bandRec b).erases ∧
      (t.bandRec b).layoutGen = s.par.layoutGen ∧ (t.bandRec b).openSeq = s.svy.openSeq + 1 ∧ others t b ∧
      keepsBut [.atl, .svy] s t) ∧
    ((∃ sh ∈ s.presentSheets (b % 128), bad sh = true ∧
        (s.sparesOf (128 * sh + b % 128)).all (tabGet (fun _ => []) s.svy.bad (128 * sh + b % 128)).contains = true) →
      leads (.bandOpen g cls) s fun t => (t.bandRec b).st = .retired ∧ t.fld F.SVY_MEDIA_EVENTS_BAND_RETIRED 0 = 1 ∧ others t b ∧
        keepsBut (([.atl, .media, .plt, .svy, .reg .SVY_MEDIA_EVENTS] : List Part) ++ eventParts) s t)) ∧
  (∀ g, s.urgency g = 3 → exec (.bandOpen g 0) s = .next s) ∧
  ((s.bandRec b).st = .drained → tabGet (fun _ => 0) s.atl.pins b = 0 →
    (∀ sh ∈ maskList (s.bandRec b).sheets, s.noOldReads (128 * sh + b % 128) = true) →
    let spare := fun sh => (s.sparesOf (128 * sh + b % 128)).any
      (fun k => !(tabGet (fun _ => []) s.svy.bad (128 * sh + b % 128)).contains k)
    ((s.bandRec b).retire = false → (∀ sh ∈ maskList (s.bandRec b).gbb, spare sh = true) →
      (∃ sh ∈ maskList (s.bandRec b).sheets, s.usableFor (b % 128) sh = true) →
      leads (.bandEraseStart b) s fun t => (t.bandRec b).st = .erasing ∧ (t.bandRec b).gbb = 0 ∧
        (∀ sh, sh < 16 → maskBit (t.bandRec b).erasing sh = (maskBit (s.bandRec b).sheets sh && s.usableFor (b % 128) sh)) ∧
        ((s.bandRec b).priced = true → t.plt.refreshLeft = s.plt.refreshLeft) ∧ others t b ∧ keepsBut [.atl, .plt, .svy] s t) ∧
    ((s.bandRec b).retire = false → (∀ sh ∈ maskList (s.bandRec b).gbb, spare sh = true) →
      (∀ sh ∈ maskList (s.bandRec b).sheets, s.usableFor (b % 128) sh = false) →
      leads (.bandEraseStart b) s fun t => (t.bandRec b).st = .free ∧ others t b ∧ keepsBut [.atl, .plt, .svy] s t) ∧
    ((s.bandRec b).retire = true ∨ (∃ sh ∈ maskList (s.bandRec b).gbb, spare sh = false) → leads (.bandEraseStart b) s fun t => (t.bandRec b).st = .retired ∧
      t.fld F.SVY_MEDIA_EVENTS_BAND_RETIRED 0 = 1 ∧ ((s.bandRec b).cls ≠ 3 → others t b) ∧
      keepsBut (([.atl, .media, .plt, .svy, .reg .SVY_MEDIA_EVENTS] : List Part) ++ eventParts) s t)) ∧
  (tabGet (fun _ => 0) s.atl.pins b ≠ 0 → exec (.bandEraseStart b) s = .next s) ∧
  (∀ rest, s.svy.refreshQ = b :: rest →
    let to_ := if (s.bandRec b).valid = 0 ∧ (s.bandRec b).cls < 2 then BandState.drained else .victim
    ((s.bandRec b).st = .closed → leads .refreshStart s fun t => (t.bandRec b).st = to_ ∧ b ∉ t.svy.refreshQ ∧ others t b ∧
      keepsBut [.atl, .plt, .svy] s t) ∧
    ((s.bandRec b).st = .opened → leads .refreshStart s fun t => (t.bandRec b).st = to_ ∧ b ∉ t.svy.refreshQ ∧ others t b ∧
      keepsBut (([.atl, .par, .plt, .svy, .reg .PAR_EVENTS, .reg .PAR_JRNL_WM] : List Part) ++ eventParts) s t) ∧
    ((s.bandRec b).st ≠ .closed → (s.bandRec b).st ≠ .opened → leads .refreshStart s fun t => t.bandRec b = s.bandRec b ∧
      b ∉ t.svy.refreshQ ∧ others t b ∧ keepsBut [.svy] s t)) ∧
  ((s.bandRec b).st = .opened → s.readLimitHit b = true → (s.bandRec b).valid ≠ 0 →
    leads (.readLimitClose b) s fun t => (t.bandRec b).st = .closed ∧ b ∈ t.svy.refreshQ ∧
      t.fld F.SVY_MEDIA_EVENTS_READ_REFRESH 0 = 1 ∧ others t b ∧
      keepsBut (([.atl, .par, .plt, .svy, .reg .PAR_EVENTS, .reg .PAR_JRNL_WM, .reg .SVY_MEDIA_EVENTS] : List Part) ++ eventParts) s t) ∧
  (∀ sh, maskBit (s.bandRec b).rebuild sh = true → (s.bandRec b).st = .closed ∨ (s.bandRec b).st = .opened →
    ((∀ row, s.erasures b row < 3) → leads (.spareRebuild b sh) s fun t => maskBit (t.bandRec b).rebuild sh = false ∧
      (∀ row, row ∉ (s.bandRec b).lost → maskBit (tabGet (fun _ => 0) (t.bandRec b).erased row) sh = false) ∧ others t b ∧
      keepsBut (([.atl, .plt, .svy, .reg .SVY_MEDIA_EVENTS] : List Part) ++ eventParts) s t) ∧
    (∀ row, 3 ≤ s.erasures b row → (if 3 ≤ s.plainErasures b then row < (s.bandRec b).written
        else row ∈ (s.bandRec b).short.map Prod.fst ∨ row ∈ (s.bandRec b).erased.map Prod.fst) →
      leads (.spareRebuild b sh) s fun t => row ∈ (t.bandRec b).lost ∧ maskBit (t.bandRec b).rebuild sh = false ∧
        keepsBut (([.cpls, .ctls, .media, .par, .plt, .til, .reg .PAR_EVENTS, .reg .PAR_LOST, .reg .SVY_MEDIA_EVENTS, .reg .TIL_POOL_WM] :
          List Part) ++ mapParts) s t))

/-- Upkeep's figures: the debt booked for the frame on each member becomes a die operation, an erase that waits or relocation; where the
group's victims need more than all debt booked or converted, DEBT_OVERRUN is set and the excess waits behind host work. A relocation of the first valid
IU of a victim, read directly or by detour, swaps the entry; one that has changed fails, one that cannot be read loses its row. A_BOOKED
stays at most A_MAX and A_MEAS is 1 when no host bytes were programmed; MIN_FREE is published and a fall below a mark is counted; the due
retention sample that comes first is booked and stamped. -/
def Obligations.UpkeepBooksDebtAndPublishes : Prop := ∀ (s : State),
  (∀ g, g < 128 →
    let each := ceilDiv (s.victimWork g) (max 1 (s.members g).length)
    let under := fun d => min each (tabGet (fun _ => 0) s.plt.converted d)
    let short := fun d => s.debtAhead d + tabGet (fun _ => 0) s.plt.excess d + under d < each
    let converted := fun (t : State) => (∀ m ∈ s.members g, t.debtNow m.1 = 0 ∧ (0 < s.debtNow m.1 →
      ∃ o, (o ∈ t.dieQueue m.1 ∨ ∃ w, (w, m.1, o) ∈ t.plt.later) ∧ (o.kind = 4 ∨ o.kind = 2) ∧ s.plt.nextOp ≤ o.id)) ∧ t.svy = s.svy
    ((∀ m ∈ s.members g, ¬ short m.1) → leads (.debtConversion g) s fun t => converted t ∧ t.plt.excess = s.plt.excess ∧
      keepsBut [.plt] s t) ∧
    ((∃ m ∈ s.members g, short m.1) → leads (.debtConversion g) s fun t => converted t ∧
      t.fld F.PLT_EVENTS_DEBT_OVERRUN 0 = 1 ∧
      (∀ m ∈ s.members g, short m.1 → tabGet (fun _ => 0) t.plt.excess m.1 = each - s.debtAhead m.1 - under m.1) ∧
      keepsBut (([.plt, .reg .PLT_EVENTS] : List Part) ++ eventParts) s t)) ∧
  (∀ pool iu old new,
    let key := iuKey pool iu
    let b := s.bandOfAddr (old % 2 ^ 36)
    ((s.bandRec b).st = .victim → s.dataIn new 1 = true → s.bandOfAddr (new % 2 ^ 36) % 128 = s.relocGroup (b % 128) →
      (s.bandRec (s.bandOfAddr (new % 2 ^ 36))).layoutGen = s.par.layoutGen → (s.readySegs [segOfIu key]).isSome = true →
      (s.lookup key = mappedAt old → s.nextValid b = some key → (s.relocRead (old % 2 ^ 36)).isSome = true →
        leads (.relocation pool iu old new) s fun t => t.lookup key = mappedAt new ∧ (∀ k, k ≠ key → t.lookup k = s.lookup k) ∧
          t.atl.jseq = (s.atl.jseq + 1) % 2 ^ 48 ∧ keepsBut (.cip :: .plt :: mapParts) s t) ∧
      (s.lookup key ≠ mappedAt old → (s.relocRead (old % 2 ^ 36)).isSome = true → leads (.relocation pool iu old new) s fun t =>
        t.atl.ent = s.atl.ent ∧ t.atl.jseq = s.atl.jseq ∧
        t.fld F.ATL_CAS_FAIL_COUNT 0 = satAdd (2 ^ 32 - 1) (s.fld F.ATL_CAS_FAIL_COUNT 0) 1 ∧
        keepsBut [.atl, .cip, .out, .plt, .svy, .reg .ATL_CAS_FAIL] s t) ∧
      (s.lookup key = mappedAt old → s.nextValid b = some key → s.relocRead (old % 2 ^ 36) = none →
        s.pageOfAddr (old % 2 ^ 36) ∉ (s.bandRec b).lost → leads (.relocation pool iu old new) s fun t =>
          s.pageOfAddr (old % 2 ^ 36) ∈ (t.bandRec b).lost ∧ t.fld F.PAR_EVENTS_LOST_STRIPE 0 = 1 ∧
          keepsBut (([.cpls, .ctls, .media, .par, .plt, .til, .reg .PAR_EVENTS, .reg .PAR_LOST, .reg .TIL_POOL_WM] : List Part)
            ++ mapParts) s t)) ∧
    ((s.bandRec b).st ≠ .victim ∨ (s.bandRec (s.bandOfAddr (new % 2 ^ 36))).layoutGen ≠ s.par.layoutGen →
      exec (.relocation pool iu old new) s = .next s)) ∧
  (leads .waEstimate s fun t => t.svy.hostBytes = 0 ∧ t.svy.relocBytes = 0 ∧
    t.svy.waHist = ((s.svy.hostBytes, s.svy.relocBytes) :: s.svy.waHist).take (10 * s.fld F.SVY_GC_CFG_WA_WINDOW_S 0) ∧
    t.svy.aBooked ≤ 256 * s.fld F.SVY_GC_CFG_A_MAX 0 ∧ ((∀ e ∈ t.svy.waHist, e.1 = 0) → t.svy.aMeas = 256) ∧
    t.svy.band = s.svy.band ∧ keepsBut [.svy] s t) ∧
  (leads .minFreePublish s fun t => t.svy.published = true ∧ t.svy.minFree = s.minFreeNow ∧
    (∀ i, i < 3 →
      let l := s.fld F.SVY_FREE_WM_LEVEL i
      (s.minFreeNow < l ∧ (s.svy.published = false ∨ l ≤ s.svy.minFree) → t.fld F.SVY_FREE_WM_CROSSED i = 1 ∧
        t.fld F.SVY_FREE_WM_COUNT i = satAdd 65535 (s.fld F.SVY_FREE_WM_COUNT i) 1) ∧
      (¬ (s.minFreeNow < l ∧ (s.svy.published = false ∨ l ≤ s.svy.minFree)) → t.rg .SVY_FREE_WM i = s.rg .SVY_FREE_WM i)) ∧
    t.svy.band = s.svy.band ∧ keepsBut (([.svy, .reg .SVY_FREE_WM, .reg .SVY_MEDIA_EVENTS] : List Part) ++ eventParts) s t) ∧
  (∀ b d page, s.firstSample = some b →
    s.svy.sampledNow < s.fld F.SVY_SCAN_CFG_SCAN_MAX 0 → s.sampleOfBand b = some (d, page) →
    leads (.retentionSample b) s fun t => (t.bandRec b).samples = (s.bandRec b).samples + 1 ∧
      (t.bandRec b).sampledAt = s.datumTime ∧ t.svy.sampling = s.svy.sampling ++ [(b, d, page)] ∧
      (∀ k, k ≠ b → t.bandRec k = s.bandRec k) ∧ keepsBut [.plt, .svy] s t)

/-- A stripe opens in a FREE slot with its row's P and Q places; a fold writes the copy not current and leaves the current one, unless staged
IUs of a fenced region must go first; folded everywhere it is PARITY, and its P and Q programs are queued; up to two erasures are answered
and change nothing, three lose the row with its record; the sweep ends with its event, starts again while a CLOSED band needs it, passes a
band that needs nothing and else takes one to VICTIM; a new layout starts the sweep at 0 where a CLOSED band has another sheet set; an evacuation
leaves the sheet unusable and the journal spilled, and once the erases of the new HOLDUP reserve have passed the bay powers off. -/
def Obligations.StripesSweepsAndEvacuations : Prop := ∀ (s : State),
  (∀ b k, (s.bandRec b).st = .opened → (s.bandRec b).nextRow < (s.bandRec b).pages →
    (s.slotsOfBand b).length < s.fld F.PAR_CTRL_STRIPES_IN_FLIGHT 0 → s.freeJslot = some k →
    leads (.stripeOpen b (s.bandRec b).nextRow) s fun t => (t.jslot k).st = .filling ∧ (t.jslot k).band = b ∧
      (t.jslot k).row = (s.bandRec b).nextRow ∧ (t.jslot k).copy = 0 ∧ (t.jslot k).folded = 0 ∧ (t.jslot k).written = 0 ∧
      (t.jslot k).pSheet = (s.bandRec b).pSheet (s.bandRec b).nextRow ∧
      (t.jslot k).qSheet = (s.bandRec b).qSheet (s.bandRec b).nextRow ∧ (t.bandRec b).nextRow = (s.bandRec b).nextRow + 1 ∧
      (∀ j, j ≠ k → t.jslot j = s.jslot j) ∧ keepsBut (([.par, .svy, .reg .PAR_JRNL_WM] : List Part) ++ eventParts) s t) ∧
  (∀ k sh data from_, (s.jslot k).st = .filling → sh ∈ (s.jslot k).dataSheets → maskBit (s.jslot k).folded sh = false →
    (s.jslot k).copy < 2 → (s.jslot k).p.length = 2 → (s.jslot k).q.length = 2 → s.evacFirst from_ = false → leads (.fold k sh data from_) s fun t =>
      (t.jslot k).copy = 1 - (s.jslot k).copy ∧ maskBit (t.jslot k).folded sh = true ∧
      (t.jslot k).p.getD (s.jslot k).copy [] = (s.jslot k).p.getD (s.jslot k).copy [] ∧
      (t.jslot k).p.getD (1 - (s.jslot k).copy) [] = xorBytes ((s.jslot k).p.getD (s.jslot k).copy []) data ∧
      (t.jslot k).q.getD (1 - (s.jslot k).copy) [] =
        xorBytes ((s.jslot k).q.getD (s.jslot k).copy []) (gfScale (gfWeight sh) data) ∧
      (t.jslot k).st = (if (s.jslot k).dataSheets.all (maskBit (t.jslot k).folded) then .parity else .filling) ∧
      sent s t (.answer 0x090 (k :: (t.jslot k).header)) ∧
      (∀ j, j ≠ k → t.jslot j = s.jslot j) ∧ keepsBut (([.atl, .par, .plt, .reg .PAR_JRNL_WM] : List Part) ++ eventParts) s t) ∧
  (∀ k sh data from_, s.evacFirst from_ = true → exec (.fold k sh data from_) s = .next s) ∧
  (∀ k, (s.jslot k).st = .parity ∨ (s.jslot k).st = .short → s.dataDone (s.jslot k) = true →
    (s.parityLeft (s.jslot k) ≠ [] → leads (.parityProgram k) s fun t => (t.jslot k).st = (s.jslot k).st ∧
      (∀ sh ∈ s.parityLeft (s.jslot k),
        let d := 128 * sh + (s.jslot k).band % 128
        ∃ op, (op ∈ t.dieQueue d ∨ ∃ w, (w, d, op) ∈ t.plt.later) ∧ op.kind = 1 ∧ s.plt.nextOp ≤ op.id) ∧
      (∀ j, j ≠ k → t.jslot j = s.jslot j) ∧ keepsBut (([.par, .plt, .reg .PAR_JRNL_WM] : List Part) ++ eventParts) s t) ∧
    (s.parityLeft (s.jslot k) = [] → leads (.parityProgram k) s fun t => t.jslot k = Slot.reset ∧
      keepsBut (([.atl, .par, .plt, .svy, .reg .PAR_EVENTS, .reg .PAR_JRNL_WM] : List Part) ++ eventParts) s t)) ∧
  (∀ (b row : Nat) (data : List (List Nat)) (erased : List Nat), (s.bandRec b).st ≠ .free → (s.bandRec b).st ≠ .retired →
    let x := s.bandRec b
    let pad := x.padMask row
    let era := (maskList x.sheets).filter (fun sh => !maskBit pad sh && (erased.contains sh || s.isErasure b row sh))
    let ds := (maskList x.sheets).filter (fun sh => !maskBit pad sh && decide (sh ≠ x.pSheet row ∧ sh ≠ x.qSheet row))
    (era.length ≤ 2 → leads (.reconstruct b row data erased) s fun t =>
      (∀ e ∈ rebuildRow ds (x.pSheet row) (x.qSheet row) data era, sent s t (.answer 0x090 (e.1 :: e.2))) ∧
      keepsBut [.out] s t) ∧
    (3 ≤ era.length → row ∉ x.lost → leads (.reconstruct b row data erased) s fun t => row ∈ (t.bandRec b).lost ∧
      t.fld F.PAR_EVENTS_LOST_STRIPE 0 = 1 ∧
      t.fld F.PAR_LOST_COUNT 0 = satAdd (2 ^ (F.PAR_LOST_COUNT.hi + 1 - F.PAR_LOST_COUNT.lo) - 1) (s.fld F.PAR_LOST_COUNT 0) 1 ∧
      keepsBut (([.cpls, .ctls, .media, .par, .plt, .til, .reg .PAR_EVENTS, .reg .PAR_LOST, .reg .TIL_POOL_WM] : List Part)
        ++ mapParts) s t)) ∧
  (∀ present usable, ¬ (usable % 65536 &&& present % 65536 = s.par.usable ∧ present % 65536 = s.par.present) →
    leads (.layoutChange present usable) s fun t => t.par.present = present % 65536 ∧
      t.par.usable = (usable % 65536 &&& present % 65536) ∧ t.par.layoutGen = (s.par.layoutGen + 1) % 65536 ∧
      t.par.frontier = 0 ∧
      (let u : State := { s with par := { s.par with present := present % 65536, usable := usable % 65536 &&& present % 65536 } }
       ((∃ k, (s.bandRec k).st = .closed ∧ u.current k = false) → t.par.sweep = true) ∧
       (s.par.usable &&& (65535 - (usable % 65536 &&& present % 65536)) = 0 →
         t.par.sweep = s.svy.band.any (fun e => decide (e.2.st = .closed) && !u.current e.1))) ∧ keepsBut layoutParts s t) ∧
  (s.par.sweep = true →
    (s.lastBand ≤ s.par.frontier → (∃ e ∈ s.svy.band, e.2.st = .closed ∧ s.current e.1 = false) →
      leads .reshapeAdvance s fun t => t.par = { s.par with frontier := 0 } ∧ keepsBut [.par] s t) ∧
    (s.lastBand ≤ s.par.frontier → (∀ e ∈ s.svy.band, e.2.st = .closed → s.current e.1 = true) →
      leads .reshapeAdvance s fun t => t.par = { s.par with sweep := false } ∧ t.fld F.PAR_EVENTS_RESHAPE_DONE 0 = 1 ∧ keepsBut (([.par, .reg .PAR_EVENTS] : List Part) ++ eventParts) s t) ∧
    (s.par.frontier < s.lastBand → s.passes s.par.frontier = true → leads .reshapeAdvance s fun t =>
      t.par = { s.par with frontier := s.par.frontier + 1 } ∧ keepsBut [.par] s t) ∧
    (∀ b, s.par.frontier < s.lastBand → s.passes s.par.frontier = false → s.nextReshape = some b →
      leads .reshapeAdvance s fun t => b ∉ t.svy.refreshQ ∧
        (t.bandRec b).st = (if (s.bandRec b).valid = 0 ∧ (s.bandRec b).cls < 2 then .drained else .victim) ∧
        (∀ k, k ≠ b → t.bandRec k = s.bandRec k) ∧ keepsBut [.atl, .plt, .svy] s t)) ∧
  (∀ sh, sh < 16 → s.par.evac = some sh → (s.bay sh).st = .evacuating →
    let parts : List Part := ([.bays, .fch, .reg .SHB_IND] : List Part) ++ layoutParts
    (maskBit s.par.usable sh = true → leads (.evacuation sh) s fun t =>
      maskBit t.par.usable sh = false ∧ t.par.layoutGen = (s.par.layoutGen + 1) % 65536 ∧ t.atl.tail = [] ∧ otherBays s t sh ∧
      (t.reserveErasing = true → t.par.evac = some sh ∧ t.bay sh = s.bay sh) ∧
      (t.reserveErasing = false → t.par.evac = none ∧ t.fld F.PAR_EVENTS_EVAC_DONE 0 = 1 ∧ inBayState t sh .poweringOff) ∧
      keepsBut parts s t) ∧
    (maskBit s.par.usable sh = false → s.reserveErasing = false → leads (.evacuation sh) s fun t =>
      t.par = { s.par with evac := none } ∧ t.fld F.PAR_EVENTS_EVAC_DONE 0 = 1 ∧ inBayState t sh .poweringOff ∧ otherBays s t sh ∧
      keepsBut parts s t) ∧
    (maskBit s.par.usable sh = false → s.reserveErasing = true → leads (.evacuation sh) s fun t => t.par = s.par ∧
      t.bay sh = s.bay sh ∧ otherBays s t sh ∧ keepsBut recheckParts s t))

/-- Double parity: of a row whose P is the XOR of its data and whose Q is the weighted sum over GF(2^8), any one or two erased
positions are rebuilt from the others, byte for byte (Table 06-5); every erased data position is among what is rebuilt. -/
def Obligations.TwoErasuresAreRebuiltByteForByte : Prop :=
  ∀ (sheets : List Nat) (p q n : Nat) (row : List (List Nat)) (erased : List Nat),
  sheets.Nodup → (∀ sh ∈ sheets, sh < 16) → p ∉ sheets → q ∉ sheets → p ≠ q →
  (∀ sh ∈ sheets, (row.getD sh []).length = n ∧ ∀ x ∈ row.getD sh [], x < 256) →
  row.getD p [] = sheets.foldl (fun a sh => xorBytes a (row.getD sh [])) [] →
  row.getD q [] = sheets.foldl (fun a sh => xorBytes a (gfScale (gfWeight sh) (row.getD sh []))) [] →
  erased.Nodup → erased.length ≤ 2 → (∀ x ∈ erased, x ∈ sheets ∨ x = p ∨ x = q) →
  (∀ e ∈ rebuildRow sheets p q row erased, e.2 = row.getD e.1 []) ∧
    (∀ x ∈ erased, x ∈ sheets → x ∈ (rebuildRow sheets p q row erased).map Prod.fst)

/-! ### Flash channels (chapter 7) and Traverse engines (chapter 8) -/

/-- Discovery leaves a channel without bookings discovered and untrained and a silent target without dies, with the classes checked again;
training of an untrained channel that every live die can follow takes the target rate of R223 in the mode most of its dies support; without a
mode it has no rate, and a trained or booked one is not set again; a retraining step counts down, the last one clears RETRAIN_DUE and counts, a first failure is retried; a late
one sets its event; the held records of a sheet are written. -/
def Obligations.ChannelsAreDiscoveredAndTrained : Prop := ∀ (s : State) (ch : Nat), ch < 128 →
  (∀ targets, s.chanBooked ch = false → s.soldered = true ∨ (s.bay (ch / 8)).pwrGood = true → leads (.channelDiscovery ch targets) s fun t =>
    (t.chan ch).discovered = true ∧ (t.chan ch).trained = false ∧ (t.chan ch).wpHigh = true ∧
    (∀ c, c ≠ ch → t.chan c = s.chan c) ∧ (∀ d, dieChan d ≠ ch → t.dieOf d = s.dieOf d) ∧
    (∀ e, e < 8 → (∀ x, targets[e]? = some x → x.statusOk = false) →
      t.dieOf (16 * ch + 2 * e) = Die.reset ∧ t.dieOf (16 * ch + 2 * e + 1) = Die.reset) ∧
    keepsBut (([.fch, .reg .FCH_EVENTS] : List Part) ++ recheckParts) s t) ∧
  (∀ eyes targets, s.chanBooked ch = true →
    exec (.channelTraining ch eyes) s = .next s ∧ exec (.channelDiscovery ch targets) s = .next s) ∧
  (∀ eyes, (s.chan ch).trained = true → exec (.channelTraining ch eyes) s = .next s) ∧
  (∀ eyes, (s.chan ch).trained = false → s.chanBooked ch = false → s.fenced 0x0A0 ch = false →
    (∀ d ∈ chanDies ch, (s.dieOf d).present = false ∨ (s.dieOf d).absent = true ∨ s.profileOf d = none) →
    leads (.channelTraining ch eyes) s fun t => (t.chan ch).rate = 0 ∧ (t.chan ch).trained = false ∧
      (∀ c, c ≠ ch → t.chan c = s.chan c) ∧ keepsBut (.fch :: recheckParts) s t) ∧
  (∀ eyes lp, (s.chan ch).trained = false → s.chanBooked ch = false → s.fenced 0x0A0 ch = false →
    let present := (chanDies ch).filterMap (fun d =>
      if (s.dieOf d).present && !(s.dieOf d).absent then (s.profileOf d).map (fun p => (d, p)) else none)
    let l := present.filter (fun m => s.dieLive m.1)
    let target := (l.filter (fun m => m.2.supports lp)).foldl (fun n m => min n m.2.maxRate)
      (min (s.fld F.FCH_CFG_RATE_CAP ch) (modeHigh lp))
    l ≠ [] → modeOf (s.fld F.FCH_CFG_RATE_CAP ch) (present.map Prod.snd) = some lp → modeLow lp ≤ target →
    (∀ m ∈ l, m.2.supports lp = true ∧ ∃ e ∈ eyes, e.1 = m.1 ∧ target ≤ e.2.1 ∧ eyes.find? (fun e => decide (e.1 = m.1)) = some e) →
    leads (.channelTraining ch eyes) s fun t => (t.chan ch).rate = target ∧ (t.chan ch).lpddr4 = lp ∧ (t.chan ch).trained = true ∧
      (t.chan ch).due = false ∧ (t.chan ch).stepsLeft = 0 ∧ (∀ c, c ≠ ch → t.chan c = s.chan c) ∧
      keepsBut (.fch :: recheckParts) s t) ∧
  ((s.chan ch).due = true → s.plt.quiet ≠ some ch →
    s.srv.queued.any (fun t => t.forced && decide ((t.block = 0x0A0 ∨ t.block = 0x0A1) ∧ t.inst = ch)) = false →
    (∀ len, s.stepLen ch (25 - (s.chan ch).stepsLeft) = some len → tabGet (fun _ => 0) s.plt.hkUsed ch + len ≤ 16 * s.hk ∧
      ∀ d ∈ chanDies ch, s.dieLive d = true → s.runsBarred d s.now [(0, 50 * len)] = false) →
    (2 ≤ (s.chan ch).stepsLeft → leads (.retrainStep ch []) s fun t => (t.chan ch).stepsLeft = (s.chan ch).stepsLeft - 1 ∧
      (t.chan ch).due = true ∧ (∀ c, c ≠ ch → t.chan c = s.chan c) ∧ keepsBut [.fch, .plt] s t) ∧
    ((s.chan ch).stepsLeft = 1 → leads (.retrainStep ch []) s fun t => (t.chan ch).stepsLeft = 0 ∧ (t.chan ch).due = false ∧
      (t.chan ch).count = min 65535 ((s.chan ch).count + 1) ∧ (t.chan ch).tLast = (s.regionOf ch).model ∧
      keepsBut [.fch, .plt] s t) ∧
    (∀ len d, 1 ≤ (s.chan ch).stepsLeft → (s.chan ch).stepsLeft ≤ 16 → d = 16 * ch + (16 - (s.chan ch).stepsLeft) →
      s.stepLen ch (25 - (s.chan ch).stepsLeft) = some len → (s.dieOf d).trainFails = 0 → leads (.retrainStep ch [d]) s fun t =>
        (t.dieOf d).trainFails = 1 ∧ (t.chan ch).stepsLeft = (s.chan ch).stepsLeft ∧ keepsBut [.fch, .plt] s t)) ∧
  ((s.chan ch).due = true → (s.chan ch).late = false → leads (.retrainLate ch) s fun t => (t.chan ch).late = true ∧
    t.fld F.FCH_EVENTS_RETRAIN_LATE ch = 1 ∧ (∀ c, c ≠ ch → t.chan c = s.chan c) ∧
    keepsBut (([.fch, .reg .FCH_EVENTS] : List Part) ++ eventParts) s t) ∧
  (∀ sheet, leads (.absentHoldExpiry sheet) s fun t => (∀ e ∈ t.fch.absentHold, e.1 ≠ sheet) ∧ (∀ d, t.dieOf d = s.dieOf d) ∧
    keepsBut (.fch :: recordParts) s t)

/-- The run timer, suspensions and polls: a timer's expiry ends it and the boundary takes what it held, a SUSPEND held by it by the handler; a
suspension of 10 ms names its resume, issued at once outside a read where its windows meet no other member's, after the opcode of 0x040; a
poll timeout enters 0x070, resets the LUN and leaves the context IDLE. -/
def Obligations.RunTimersAndSuspensionsEnd : Prop := ∀ (s : State) (d : Nat), d < 2048 →
  let x := s.ctxOf d
  ((s.dieOf d).runKind ≠ 0 → leads (.runTimerExpiry d) s fun t => ∃ u, t = u.boundary d ∧ (u.dieOf d).runKind = 0 ∧
    (u.dieOf d).held = false ∧ (∀ k, k ≠ d → u.dieOf k = s.dieOf k) ∧ keepsBut [.fch] s u) ∧
  ((s.dieOf d).runKind ≠ 0 → x.pend = [2] → x.atBoundary = true → x.long ≠ 0 → x.st = .running → x.handler = 0 →
    s.suspendRefused d = false → leads (.runTimerExpiry d) s fun t => (t.dieOf d).runKind = 0 ∧ entered s t d 0x030 ∧
      (t.ctxOf d).resumePc = x.pc ∧ (t.ctxOf d).saved = x.c ∧ (t.ctxOf d).savedEpoch = x.issueEpoch ∧
      (t.ctxOf d).pend = [] ∧ otherCtxs s t d ∧ keepsBut [.fch, .out, .trv] s t) ∧
  (x.st = .suspended →
    (x.inRead = true ∨ s.runsBarred d s.now (s.resumeRuns d) = true → leads (.suspendLong d) s fun t => (t.dieOf d).resumeDue = true ∧
      t.fld F.FCH_EVENTS_SUSPEND_LONG (dieChan d) = 1 ∧ (t.ctxOf d).st = .suspended ∧
      keepsBut (([.fch, .reg .FCH_EVENTS] : List Part) ++ eventParts) s t) ∧
    (x.inRead = false → s.runsBarred d s.now (s.resumeRuns d) = false →
      leads (.suspendLong d) s fun t => t.fld F.FCH_EVENTS_SUSPEND_LONG (dieChan d) = 1 ∧ (t.ctxOf d).st = .running ∧
        (t.ctxOf d).pc = x.resumePc ∧ (t.ctxOf d).c = x.saved ∧ (t.ctxOf d).issueEpoch = x.savedEpoch ∧ (t.dieOf d).suspAt = none ∧
        (t.dieOf d).resumeDue = false ∧ (t.dieOf d).runKind = x.long ∧ sent s t (.die d 0 (s.resOpcode d)) ∧ otherCtxs s t d ∧
        keepsBut (([.fch, .plt, .trv, .reg .FCH_EVENTS] : List Part) ++ eventParts) s t)) ∧
  (∀ status, s.dieLive d = true → x.st ≠ .fenced → status % 256 ≠ 0xFF →
    tabGet (fun _ => none) s.plt.reading d = none → (∀ r, s.runningOp d = some r → r.op.kind ≠ 1 ∧ r.op.kind ≠ 2) →
      leads (.pollTimeout d status) s fun t => sent s t (.die d 7 (s.fetchAddr 0 0x070)) ∧ sent s t (.die d 0 0xFA) ∧
        (t.ctxOf d).st = .idle ∧ (t.ctxOf d).long = 0 ∧ (t.ctxOf d).lastStatus = status % 256 ∧ (t.dieOf d).ffCount = 0 ∧
        t.runningOp d = none ∧ otherCtxs s t d ∧ keepsBut (([.fch, .trv] : List Part) ++ replanParts) s t)

/-- T-words. A word that its engine issues and that passes the checks of R263 does what its class says; counters, LONG and the next address
follow, and at its boundary, unless it is chained, the first pending request is taken. A word fetched again is counted. One that fails its
check is not carried out: CHECK_FAULT of its engine, and CHAIN_OVERRUN where it overran its chain. A suspend opcode is counted, refused where
the rules refuse it, and under the run timer a check fault; a resume opcode starts the run timer and is held back where its windows would
meet another member's. -/
def Obligations.TWordsRunAndAreChecked : Prop := ∀ (s : State) (d : Nat) (w : BitVec 128) (f : Fetch),
  let x := s.ctxOf d
  let base : List Part := .trv :: fetchParts f
  let faults := fun (t : State) => t.fld F.TRV_ENG_CHECK_FAULT (s.ownerEng d) = 1 ∧ keepsBut (.reg .TRV_ENG :: faultParts) s t
  (∀ i cls, tWord i = some (d, w, f, cls) → s.issues d w = true →
    (f = .failed ∨ twParityOk w = false ∨ twBad w = true → leads i s faults) ∧
    (f ≠ .failed → twParityOk w = true → twBad w = false → twClass w = cls → x.overruns w f = true →
      leads i s fun t => t.fld F.TRV_ENG_CHAIN_OVERRUN (s.ownerEng d) = 1 ∧ faults t)) ∧
  (carried s d w f →
    (twClass w = 0x00 → leads (.nop d w f) s fun t => wordEnds t d w fun u => sequenced x u d w ∧ (u.ctxOf d).st = x.st ∧
      otherCtxs s u d ∧ keepsBut base s u) ∧
    (twClass w = 0x01 → leads (.wait d w f) s fun t => (t.ctxOf d).waiting = true ∧ (t.ctxOf d).pc = x.pc ∧ (t.ctxOf d).word = w.toNat ∧
      (t.ctxOf d).waitUntil = s.now + (if x.long ≠ 0 then min 128 (twDwell w + 1) else twDwell w + 1) ∧
      (t.ctxOf d).c = x.c ∧ otherCtxs s t d ∧ keepsBut base s t) ∧
    (twClass w = 0x02 → ¬ (x.handler = 0x040 ∧ x.st = .suspended) → leads (.restore d w f) s fun t => wordEnds t d w fun u =>
      (u.ctxOf d).pc = x.resumePc ∧ counted { x with c := x.saved } u d w ∧ (u.ctxOf d).handler = 0 ∧ (u.ctxOf d).st = x.st ∧
      otherCtxs s u d ∧ keepsBut base s u) ∧
    (twClass w = 0x02 → x.handler = 0x040 → x.st = .suspended → leads (.restore d w f) s fun t => wordEnds t d w fun u =>
      (u.ctxOf d).pc = x.resumePc ∧ counted { x with c := x.saved } u d w ∧ (u.ctxOf d).handler = 0 ∧ (u.ctxOf d).st = .running ∧
      (u.dieOf d).suspAt = none ∧ (u.dieOf d).resumeDue = false ∧ otherCtxs s u d ∧ keepsBut ([.fch, .plt] ++ base) s u) ∧
    (twClass w = 0x03 → leads (.msg d w f) s fun t => wordEnds t d w fun u => sequenced x u d w ∧ otherCtxs s u d ∧
      sent s u (.answer 0x0A2 [d, twImm w % 256, x.lastStatus, x.issueEpoch]) ∧
      (x.handler ≠ 0x030 → (u.ctxOf d).st = x.st ∧ keepsBut (.out :: base) s u) ∧
      (x.handler = 0x030 → x.longAfter w ≠ 0 → (u.ctxOf d).st = .suspended ∧ (u.dieOf d).suspAt = some s.now ∧
        (∀ r, s.runningOp d = some r → (u.runningOp d).map Running.suspended = some true) ∧ keepsBut ([.fch, .out, .plt] ++ base) s u) ∧
      (x.handler = 0x030 → x.longAfter w = 0 → (u.ctxOf d).st = x.st ∧ (∀ o ∈ u.dieQueue d, o.resume = []) ∧
        keepsBut ([.cmds, .out, .plt, .til, .reg .TIL_POOL_WM] ++ base ++ eventParts) s u)) ∧
    (twClass w = 0x04 → x.st ≠ .fenced → leads (.idle d w f) s fun t => wordEnds t d w fun u => counted x u d w ∧
      (u.ctxOf d).st = (if x.st = .suspended then .suspended else .idle) ∧ (u.ctxOf d).inRead = false ∧
      (x.st ≠ .suspended ∨ x.inRead = false → (u.ctxOf d).handler = 0 ∧ sequenced x u d w ∧ keepsBut base s u) ∧
      (x.st = .suspended → x.inRead = true → s.moreReads d = false → s.runsBarred d s.now (s.resumeRuns d) = false → entered s u d 0x040) ∧
      otherCtxs s u d ∧ keepsBut (.out :: base) s u) ∧
    (∀ byte, twClass w = 0x10 → byte = s.cmdByte d w →
      ((∀ p, s.profileOf d = some p → byte ≠ p.suspP ∧ byte ≠ p.suspE ∧ byte ≠ p.resP ∧ byte ≠ p.resE) →
        leads (.cmd d w f) s fun t => wordEnds t d w fun u => sequenced x u d w ∧ sent s u (.die d 0 byte) ∧
          (f = .clean → u.out = .die d 0 byte :: s.out) ∧ otherCtxs s u d ∧ keepsBut (.out :: base) s u) ∧
      (∀ p, s.profileOf d = some p →
        (byte = p.suspP ∨ byte = p.suspE → s.timerRuns d = true → leads (.cmd d w f) s faults) ∧
        (byte = p.suspP ∨ byte = p.suspE → s.timerRuns d = false → s.suspendRefused d = false → leads (.cmd d w f) s fun t =>
          wordEnds t d w fun u => sequenced x u d w ∧ sent s u (.die d 0 byte) ∧
            (u.ctxOf d).suspCount = (if x.longAfter w ≠ 0 ∧ x.long = 0 then 0 else x.suspCount + 1) ∧ otherCtxs s u d ∧
            keepsBut (.out :: base) s u) ∧
        (byte = p.suspP ∨ byte = p.suspE → s.timerRuns d = false → s.suspendRefused d = true → leads (.cmd d w f) s fun t =>
          wordEnds t d w fun u => counted x u d w ∧ u.fld F.FCH_EVENTS_SUSPEND_REFUSED (dieChan d) = 1 ∧
            (x.handler = 0x030 → (u.ctxOf d).pc = x.resumePc) ∧ (u.ctxOf d).handler = 0 ∧ otherCtxs s u d ∧
            keepsBut (([.reg .FCH_EVENTS] : List Part) ++ base ++ replanParts) s u) ∧
        (byte ≠ p.suspP → byte ≠ p.suspE → byte = p.resP ∨ byte = p.resE →
          (s.runsBarred d s.now (s.resumeRuns d) = true → leads (.cmd d w f) s fun t => t.ctxOf d = x ∧ keepsBut (fetchParts f) s t) ∧
          (s.runsBarred d s.now (s.resumeRuns d) = false → leads (.cmd d w f) s fun t => wordEnds t d w fun u => sequenced x u d w ∧
            sent s u (.die d 0 byte) ∧ (u.dieOf d).runKind = s.resumeKind d byte p ∧
            (u.dieOf d).runEnd = s.now + 50 * (if s.resumeKind d byte p = 2 then p.minE else p.minP) ∧
            (∀ k, k ≠ d → u.dieOf k = s.dieOf k) ∧ otherCtxs s u d ∧ keepsBut ([.fch, .out, .plt] ++ base) s u)))) ∧
    (twClass w = 0x11 → leads (.addr d w f) s fun t => wordEnds t d w fun u => sequenced x u d w ∧
      sent s u (.die d 1 (addrDriven d x w + twDrive w 17 15 * 2 ^ 48)) ∧
      (f = .clean → u.out = .die d 1 (addrDriven d x w + twDrive w 17 15 * 2 ^ 48) :: s.out) ∧ otherCtxs s u d ∧
      keepsBut (.out :: base) s u) ∧
    (∀ status, twClass w = 0x12 → status % 256 ≠ 0xFF → leads (.statIn d w f status) s fun t => wordEnds t d w fun u =>
      (u.ctxOf d).lastStatus = status % 256 ∧ (u.dieOf d).ffCount = 0 ∧ sequenced x u d w ∧
      (u.ctxOf d).handler = (if x.handler = 0x060 then 0 else x.handler) ∧ otherCtxs s u d ∧ keepsBut (.fch :: base) s u) ∧
    (∀ status, twClass w = 0x12 → status % 256 = 0xFF → (s.dieOf d).ffCount < 2 → x.st ≠ .fenced → x.handler ≠ 0x060 →
      leads (.statIn d w f status) s fun t => wordEnds t d w fun u => (u.ctxOf d).lastStatus = 0xFF ∧ entered s u d 0x060 ∧
        counted x u d w ∧ (u.dieOf d).ffCount = (s.dieOf d).ffCount + 1 ∧ u.fld F.FCH_EVENTS_STATUS_FF (dieChan d) = 1 ∧
        otherCtxs s u d ∧ keepsBut (([.fch, .out, .reg .FCH_EVENTS] : List Part) ++ base ++ eventParts) s u) ∧
    (twClass w = 0x13 → leads (.pins d w f) s fun t => wordEnds t d w fun u => sequenced x u d w ∧ sent s u (.die d 2 (twDrive w 7 0)) ∧
      (f = .clean → u.out = .die d 2 (twDrive w 7 0) :: s.out) ∧ otherCtxs s u d ∧ keepsBut (.out :: base) s u) ∧
    (twClass w = 0x14 → leads (.move d w f) s fun t => wordEnds t d w fun u => (u.ctxOf d).moving = some (twDrive w 0 0) ∧
      (u.ctxOf d).moveErr = false ∧ sequenced x u d w ∧ sent s u (.die d 3 (twImm w % 65536)) ∧
      (f = .clean → u.out = .die d 3 (twImm w % 65536) :: s.out) ∧ otherCtxs s u d ∧ keepsBut (.out :: base) s u))

/-- A WAIT's end carries out its word's counters and branch; the burst the mover holds the bus for ends, and a read's data goes to its lane;
requests to a die context: FENCE enters 0x010, a die that may move is RELEASED under a new epoch, with the operation it runs saved, or waits
for its oldest epoch, SUSPEND sends the opcode and stands SUSPENDED, is moot without a long operation and held while the run timer runs,
START begins at its entry or waits, a resume runs on from RESUME_PC; a handover raises the die epoch; a takeover binds the die of a fenced
engine. -/
def Obligations.DieContextsTakeTheirRequests : Prop := ∀ (s : State) (d e : Nat), d < 2048 → e < 4 →
  let x := s.ctxOf d
  let w := BitVec.ofNat 128 x.word
  let mayGo := moveBar (s.dieEpochOf d) (s.liveEpochs d) = none
  (x.waiting = true → s.fenced 0x0A2 (s.ownerEng d) = false → leads (.waitEnd d) s fun t => wordEnds t d w fun u =>
    (u.ctxOf d).waiting = false ∧ sequenced x u d w ∧ otherCtxs s u d ∧ keepsBut [.trv] s u) ∧
  (let o := (s.readNow d).getD (s.newOp d 0 0 s.now)
    let l := s.hardLane (dieChan d)
    x.moving = some 0 → s.holder (dieChan d) = 4097 + d → o.ref = .set 0 → o.stale = false →
    leads (.moverBurstComplete d false) s fun t => (t.ctxOf d).moving = none ∧ (t.ctxOf d).moveErr = false ∧
      (∃ j : LdpJob, j.id = o.id ∧ j.mode = 0 ∧ j.start = s.now ∧ j.die = d ∧ j.cmd = o.cmd ∧ j.iu = o.iu ∧
        ((s.laneOf l).busy = none → (t.laneOf l).busy = some j) ∧
        (∀ b, (s.laneOf l).busy = some b → (t.laneOf l).busy = some b ∧ (t.laneOf l).yielded = (s.laneOf l).yielded ++ [j])) ∧
      (∀ k, k ≠ l → t.laneOf k = s.laneOf k) ∧ otherCtxs s t d ∧ keepsBut [.lanes, .plt, .trv] s t) ∧
  (∀ dir, x.moving = some dir → s.holder (dieChan d) = 4097 + d → leads (.moverBurstComplete d true) s fun t =>
    (t.ctxOf d).moving = none ∧ (t.ctxOf d).moveErr = true ∧ t.holder (dieChan d) ≠ 4097 + d ∧ otherCtxs s t d ∧ keepsBut [.trv] s t) ∧
  (x.st ≠ .fenced →
    (x.atBoundary = true → (s.dieOf d).fenced = false → leads (.dieFenceRequest d) s fun t => (t.ctxOf d).st = .fenced ∧
      entered s t d 0x010 ∧ (t.ctxOf d).pend = [] ∧ (t.dieOf d).fenced = true ∧ t.dieQueue d = [] ∧
      t.par.layoutGen = (s.par.layoutGen + 1) % 65536 ∧ otherCtxs s t d ∧ keepsBut dieFenceParts s t) ∧
    (x.atBoundary = false → x.pend = [] → leads (.dieFenceRequest d) s fun t => (t.ctxOf d).pend = [0] ∧
      (t.ctxOf d).st = x.st ∧ otherCtxs s t d ∧ keepsBut [.trv] s t) ∧
    (s.mayMove d e = false → exec (.dieReleaseRequest d e) s = .next s) ∧
    (e ≠ s.owner d → 1 ∉ x.pend → s.mayMove d e = true → ∀ old, moveBar (s.dieEpochOf d) (s.liveEpochs d) = some old →
      leads (.dieReleaseRequest d e) s fun t => (d, e, old) ∈ t.plt.dieMoves ∧
        (∀ k, t.owner k = s.owner k ∧ t.dieEpochOf k = s.dieEpochOf k) ∧ keepsBut [.plt] s t) ∧
    (e ≠ s.owner d → 1 ∉ x.pend → s.mayMove d e = true → mayGo → x.atBoundary = true → x.inRead = false →
      leads (.dieReleaseRequest d e) s fun t => t.owner d = e ∧ t.dieEpochOf d = (s.dieEpochOf d + 1) % 65536 ∧
        (∀ o ∈ t.dieQueue d, o.epoch = t.dieEpochOf d) ∧ sent s t (.answer 0x0A2 [d, e]) ∧ sent s t (.die d 7 (s.fetchAddr 0 0x020)) ∧
        (t.ctxOf d).plans = [] ∧ (x.st = .running → x.long ≠ 0 → x.handler = 0 → x.confirmed = true →
          (t.ctxOf d).resumePc = x.pc ∧ (t.ctxOf d).saved = x.c) ∧
        (∀ k, k ≠ d → t.owner k = s.owner k) ∧ otherCtxs s t d ∧ keepsBut [.out, .par, .plt, .trv] s t) ∧
    (x.inRead = true → 1 ∈ x.pend ∨ (e ≠ s.owner d ∧ mayGo) → s.mayMove d e = true →
      leads (.dieReleaseRequest d e) s fun t => 1 ∈ (t.ctxOf d).pend ∧ (t.ctxOf d).newOwner = e ∧
        (∀ k, t.owner k = s.owner k) ∧ otherCtxs s t d ∧ keepsBut [.par, .plt, .trv] s t)) ∧
  (x.st ≠ .fenced → x.atBoundary = true → 1 ∉ x.pend → x.handler = 0 →
    (x.long = 0 → ∀ b, leads (.dieSuspendRequest d b) s fun t =>
      t.fld F.TRV_ENG_SUSPEND_MOOT (s.ownerEng d) = 1 ∧ keepsBut (.reg .TRV_ENG :: eventParts) s t) ∧
    (x.st = .running → x.long ≠ 0 → s.timerRuns d = true → (s.dieOf d).held = false → ∀ b, leads (.dieSuspendRequest d b) s fun t =>
      2 ∈ (t.ctxOf d).pend ∧ (t.dieOf d).held = true ∧ t.fld F.FCH_EVENTS_SUSPEND_HELD (dieChan d) = 1 ∧ otherCtxs s t d ∧
      keepsBut (([.fch, .trv, .reg .FCH_EVENTS] : List Part) ++ eventParts) s t) ∧
    (x.st = .running → x.long ≠ 0 → s.timerRuns d = false → s.suspendRefused d = true → ∀ b, leads (.dieSuspendRequest d b) s fun t =>
      t.fld F.FCH_EVENTS_SUSPEND_REFUSED (dieChan d) = 1 ∧ t.ctxOf d = x ∧ keepsBut (.reg .FCH_EVENTS :: replanParts) s t) ∧
    (x.st = .running → x.long ≠ 0 → s.timerRuns d = false → s.suspendRefused d = false →
      (leads (.dieSuspendRequest d false) s fun t => (t.ctxOf d).st = .suspended ∧ (t.ctxOf d).resumePc = x.pc ∧
        (t.ctxOf d).saved = x.c ∧ (t.ctxOf d).suspCount = x.suspCount + 1 ∧ (t.dieOf d).suspAt = some s.now ∧
        (∀ r, s.runningOp d = some r → (t.runningOp d).map Running.suspended = some true) ∧ sent s t (.die d 0 (s.suspOpcode d)) ∧
        sent s t (.answer 0x0A2 [d, 2, x.issueEpoch]) ∧ otherCtxs s t d ∧ keepsBut [.fch, .out, .plt, .trv] s t) ∧
      (leads (.dieSuspendRequest d true) s fun t => (t.ctxOf d).st = .idle ∧ (t.ctxOf d).long = 0 ∧ (∀ o ∈ t.dieQueue d, o.resume = []) ∧
        sent s t (.die d 0 (s.suspOpcode d)) ∧ sent s t (.answer 0x0A2 [d, 1, x.issueEpoch]) ∧ otherCtxs s t d ∧
        keepsBut (([.cmds, .out, .plt, .til, .trv, .reg .TIL_POOL_WM] : List Part) ++ eventParts) s t))) ∧
  (∀ p, x.st ≠ .fenced →
    (x.atBoundary = true → x.pend = [] → s.canStart d p = true → leads (.dieStartRequest d p) s fun t =>
      (t.ctxOf d).pc = p.entry % 4096 ∧ (t.ctxOf d).row = p.row ∧ (t.ctxOf d).col = p.col ∧ (t.ctxOf d).confirmed = false ∧
      (t.ctxOf d).param = s.planParams d p ∧ (t.ctxOf d).st = (if x.st = .suspended then .suspended else .running) ∧
      t.dieQueue d = (s.dieQueue d).eraseP (fun o => !o.held) ∧
      (x.st ≠ .suspended → (t.runningOp d).map Running.op = some (s.nextDieOp d p)) ∧
      (p.kind = 0 → (t.ctxOf d).ref = (s.nextDieOp d p).ref) ∧ otherCtxs s t d ∧ keepsBut [.out, .plt, .trv] s t) ∧
    (s.canStart d p = false ∨ x.atBoundary = false ∨ x.pend ≠ [] → leads (.dieStartRequest d p) s fun t =>
      (t.ctxOf d).plans = x.plans ++ [p] ∧ 3 ∈ (t.ctxOf d).pend ∧ (t.ctxOf d).pc = x.pc ∧ otherCtxs s t d ∧ keepsBut [.trv] s t)) ∧
  (x.st = .suspended → x.inRead = false → s.moreReads d = false ∨ (s.dieOf d).resumeDue = true →
    s.runsBarred d s.now (s.resumeRuns d) = false → leads (.dieResume d) s fun t =>
      (t.ctxOf d).st = .running ∧ (t.ctxOf d).pc = x.resumePc ∧ (t.ctxOf d).c = x.saved ∧ (t.ctxOf d).issueEpoch = x.savedEpoch ∧
      (t.dieOf d).runKind = x.long ∧ (t.dieOf d).suspAt = none ∧ sent s t (.die d 7 (s.fetchAddr 0 0x040)) ∧
      sent s t (.die d 0 (s.resOpcode d)) ∧ otherCtxs s t d ∧ keepsBut [.fch, .out, .plt, .trv] s t) ∧
  (x.st ≠ .fenced → 1 ∉ x.pend → e ≠ s.owner d → s.fenced 0x0A2 (s.ownerEng d) = false → s.mayMove d e = true → mayGo →
    x.atBoundary = true → x.inRead = false → leads (.dieHandover d e) s fun t => t.owner d = e ∧
      t.dieEpochOf d = (s.dieEpochOf d + 1) % 65536 ∧ (∀ k, k ≠ d → t.owner k = s.owner k ∧ t.dieEpochOf k = s.dieEpochOf k) ∧
      sent s t (.answer 0x0A2 [d, e]) ∧ otherCtxs s t d ∧ keepsBut [.out, .par, .plt, .trv] s t) ∧
  (x.st ≠ .fenced → e ≠ s.owner d → s.fenced 0x0A2 (s.ownerEng d) = true → s.mayMove d e = true → mayGo → x.inRead = false →
    leads (.dieHandover d e) s fun t => t.owner d = e ∧ t.dieEpochOf d = (s.dieEpochOf d + 1) % 65536 ∧ entered s t d 0x050 ∧
      otherCtxs s t d ∧ keepsBut [.out, .par, .plt, .trv] s t) ∧
  (∀ status old, s.fenced 0x0A2 (s.ownerEng d) = true → s.engineFree (dieChan d) e = true → x.st ≠ .fenced → x.handler ≠ 0x050 →
    moveBar (s.dieEpochOf d) (s.liveEpochs d) = some old → leads (.dieTakeover d e status) s fun t => (d, e, old) ∈ t.plt.dieMoves ∧
      (∀ k, t.owner k = s.owner k) ∧ t.holder (dieChan d) ≠ d + 1 ∧ keepsBut [.out, .plt, .trv] s t) ∧
  (∀ status, s.fenced 0x0A2 (s.ownerEng d) = true → s.engineFree (dieChan d) e = true → status % 256 ≠ 0xFF → x.inRead = false → mayGo →
    (x.st = .idle ∨ x.st = .suspended → leads (.dieTakeover d e status) s fun t => t.owner d = e ∧ (t.ctxOf d).st = x.st ∧
      (t.ctxOf d).lastStatus = status % 256 ∧ (t.ctxOf d).handler = 0 ∧ t.dieEpochOf d = (s.dieEpochOf d + 1) % 65536 ∧
      sent s t (.die d 5 0) ∧ otherCtxs s t d ∧ keepsBut [.fch, .out, .par, .plt, .trv] s t) ∧
    (x.st = .running → x.long ≠ 0 → x.handler = 0 → x.confirmed = true → leads (.dieTakeover d e status) s fun t => t.owner d = e ∧
      (t.ctxOf d).st = .running ∧ (t.ctxOf d).pc = x.pc ∧ (t.ctxOf d).c = x.c ∧ (t.ctxOf d).handler = 0 ∧ otherCtxs s t d ∧
      keepsBut [.fch, .out, .par, .plt, .trv] s t))

/-! ### Modes, power and holdup (chapter 16) -/

/-- Modes: MODE_REQUEST goes to DORMANT only where R491 allows it, to READY from SERVICE or DEGRADED, and back to SERVICE; the steps of
R490 close and persist; the wake of R492 restarts what DORMANT stopped; POWER_STATUS and ENVELOPE_SET; a request of AVS moves the
setpoint by at most 10 mV and once per ms. POWER_STATUS's package and flash watts are free values (log entry 21). -/
def Obligations.PowerModesFollowTheirTriggers : Prop := ∀ (s : State) (q : MbxReq),
  (carriedOut s q ⟨0x0803, 1, false, 1, 1, false⟩ →
    (q.payload.getD 0 0 = 1 → s.hubOn = true → s.dormantOk = true → leads (.modeRequest q) s fun t =>
      answers s t q 0x0803 Ms.success false [] ∧ t.pwr.entering = some 1 ∧ t.plt.admitOpen = false ∧ t.pwr.mode = s.pwr.mode ∧
      keepsBut (([.pwr, .plt] : List Part) ++ mbxParts) s t) ∧
    (q.payload.getD 0 0 = 1 → s.dormantOk = false → leads (.modeRequest q) s fun t =>
      answers s t q 0x0803 Ms.modeTransition false [] ∧ keepsBut mbxParts s t) ∧
    (q.payload.getD 0 0 = 2 → s.pwr.mode = .service ∨ s.pwr.mode = .degraded → leads (.modeRequest q) s fun t =>
      answers s t q 0x0803 Ms.success false [] ∧ t.pwr.mode = .ready ∧ t.pwr.pstate = 3 ∧ t.pwr.held = true ∧
      t.fld F.PWR_EVENTS_MODE_CHANGE 0 = 1 ∧ (∀ e ∈ t.dram, e.2.selfRef = true) ∧
      keepsBut ((([.dram, .pwr, .reg .PWR_EVENTS] : List Part) ++ recheckParts) ++ mbxParts) s t) ∧
    (q.payload.getD 0 0 = 2 → s.pwr.mode = .ready ∨ s.pwr.mode = .dormant → leads (.modeRequest q) s fun t =>
      answers s t q 0x0803 Ms.modeTransition false [] ∧ keepsBut mbxParts s t) ∧
    (q.payload.getD 0 0 = 3 → (s.pwr.mode = .service ∨ s.pwr.mode = .degraded) ∧ s.pwr.entering = none →
      leads (.modeRequest q) s fun t => answers s t q 0x0803 Ms.success false [] ∧ keepsBut mbxParts s t) ∧
    (q.payload.getD 0 0 = 3 → s.pwr.mode = .ready → leads (.modeRequest q) s fun t =>
      answers s t q 0x0803 Ms.success false [] ∧ t.pwr.mode = (if s.fencedUnits then .degraded else .service) ∧ t.pwr.pstate = 0 ∧
      t.pwr.held = false ∧ t.pwr.entering = none ∧
      keepsBut ((([.dram, .pwr, .reg .PWR_EVENTS] : List Part) ++ recheckParts) ++ mbxParts) s t)) ∧
  (s.pwr.mode = .ready → s.pwr.held = false → leads .psExitTimer s fun t =>
    t.pwr.mode = (if s.fencedUnits then .degraded else .service) ∧ t.pwr.pstate = 0 ∧ t.pwr.entering = none ∧
    keepsBut (([.dram, .pwr, .reg .PWR_EVENTS] : List Part) ++ recheckParts) s t) ∧
  (s.hubOn = true → (∀ e ∈ s.enabledCtls, e.2.ps = 4) → leads .ps4Entry s fun t => t.pwr.entering = some 1 ∧
    t.plt.admitOpen = false ∧ (t.port 0).l2 = true ∧ (t.port 1).l2 = true ∧ (∀ p, 2 ≤ p → t.port p = s.port p) ∧
    keepsBut [.plt, .ports, .pwr] s t) ∧
  (s.hubOn = true → s.pwr.entering ≠ none →
    (s.programsBooked = true → leads .dormantEntry s fun t => t.pwr.entering = some 2 ∧ t.pwr.mode = s.pwr.mode ∧
      keepsBut [.pwr] s t) ∧
    (s.programsBooked = false → leads .dormantEntry s fun t => t.pwr.mode = .dormant ∧ t.pwr.pstate = 4 ∧ t.pwr.entering = none ∧
      t.pwr.holdEn = false ∧ t.atl.tail = [] ∧ (∀ c, (t.chan c).wpHigh = false) ∧ (∀ e ∈ t.dram, e.2.selfRef = true) ∧
      (∀ k, s.par.slot.any (fun e => decide (e.1 = k)) = true → t.jslot k = Slot.reset) ∧
      t.pwr.dormantAt = s.now ∧ t.start.susp.any (fun x => decide (x.1 = 6)) = true ∧
      keepsBut (([.atl, .dram, .fch, .par, .plt, .pwr, .start, .svy, .reg .PAR_EVENTS, .reg .PAR_JRNL_WM, .reg .PWR_EVENTS] : List Part)
        ++ eventParts) s t)) ∧
  (s.pwr.wakeOut = false → s.pwr.mode = .dormant → s.romRecovery = false →
    (∀ b, b < 16 → (s.bay b).level = (s.bay b).present ∧ (s.bay b).press = false) → leads .wakeNAsserted s fun t =>
      t.pwr.mode = (if s.fencedUnits then .degraded else .service) ∧ t.pwr.holdEn = true ∧ t.pwr.entering = none ∧
      t.pwr.pstate = 0 ∧ (∀ k, (t.dramCh k).selfRef = false) ∧
      (∀ c, (s.chan c).trained = false → t.chan c = s.chan c) ∧
      (∀ c, (s.chan c).trained = true → t.chan c =
        { s.chan c with wpHigh := true, tLast := (s.regionOf c).model, due := false, stepsLeft := 0, late := false }) ∧
      (∀ d p, s.profileOf d = some p → s.dieLive d = true → p.tWAKE ≠ 0 → ∃ w ∈ t.closedList d,
        w.why = 1 ∧ s.now ≤ w.from_ ∧ w.until_ = w.from_ + 50 * p.tWAKE) ∧ t.ctr.wakeDue = List.range 137 ∧ t.start.susp = [] ∧
      (s.fencedUnits = false → t.plt.admitOpen = true ∧ t.plt.die = [] ∧ t.plt.chan = [] ∧ t.plt.power = [] ∧ t.plt.recon = []) ∧
      keepsBut (([.ctr, .dram, .fch, .pwr, .start, .reg .PWR_EVENTS] : List Part) ++ recheckParts) s t) ∧
  (carriedOut s q ⟨0x0802, 1, true, 0, 0, false⟩ → leads (.powerStatus q) s fun t =>
    answers s t q 0x0802 Ms.success false ([s.pwr.mode.code, s.pwr.pstate] ++ bytesLe 2 (Config.free s.fresh % 65536)
      ++ bytesLe 2 (Config.free (s.fresh + 1) % 65536) ++ zeros 2 ++ bytesLe 8 s.pwr.budget ++ bytesLe 4 s.pwr.eMeasured
      ++ bytesLe 8 s.pwr.lastTestAt) ∧ keepsBut (.fresh :: mbxParts) s t) ∧
  (carriedOut s q ⟨0x0801, 1, false, 68, 68, false⟩ →
    let tot := putBits (s.rg .PLT_ENVELOPE 0) F.PLT_ENVELOPE_TOTAL_TOKENS.hi F.PLT_ENVELOPE_TOTAL_TOKENS.lo (le q.payload 0 2)
    let sheet := fun (k : Nat) => putBits
      (putBits (s.rg .PLT_SHEET_PWR k) F.PLT_SHEET_PWR_LADDER_10MA.hi F.PLT_SHEET_PWR_LADDER_10MA.lo (le q.payload (4 + 4 * k) 2))
      F.PLT_SHEET_PWR_SHEET_TOKENS.hi F.PLT_SHEET_PWR_SHEET_TOKENS.lo (le q.payload (6 + 4 * k) 2)
    (le q.payload 2 2 = 0 → Reg.inRange .PLT_ENVELOPE tot = true → (∀ k, k < 16 → Reg.inRange .PLT_SHEET_PWR (sheet k) = true) →
      leads (.envelopeSet q) s fun t => answers s t q 0x0801 Ms.success false [] ∧ t.rg .PLT_ENVELOPE 0 = tot ∧
        (∀ k, k < 16 → t.rg .PLT_SHEET_PWR k = sheet k) ∧
        keepsBut (([.start, .reg .PLT_ENVELOPE, .reg .PLT_SHEET_PWR] : List Part) ++ mbxParts) s t) ∧
    (le q.payload 2 2 ≠ 0 ∨ Reg.inRange .PLT_ENVELOPE tot = false ∨ (∃ k, k < 16 ∧ Reg.inRange .PLT_SHEET_PWR (sheet k) = false) →
      leads (.envelopeSet q) s fun t => answers s t q 0x0801 Ms.invalidField false [] ∧ keepsBut mbxParts s t)) ∧
  (∀ target, s.hubOn = true →
    let want := if s.pwr.mode = .ready ∧ s.pwr.pstate = 3 then 650 else max 650 (min 800 (target / 5 * 5))
    let cur := s.fld F.PWR_AVS_SETPOINT_MV 0
    ((∀ a, s.pwr.avsAt = some a → a + msTicks ≤ s.now) → leads (.avsRequest target) s fun t =>
      t.fld F.PWR_AVS_SETPOINT_MV 0 = (if cur < want then min want (cur + 10) else max want (cur - 10)) ∧
      sent s t (.avs (t.fld F.PWR_AVS_SETPOINT_MV 0)) ∧ t.pwr.avsAt = some s.now ∧ keepsBut [.out, .pwr, .reg .PWR_AVS] s t) ∧
    (∀ a, s.pwr.avsAt = some a → s.now < a + msTicks → exec (.avsRequest target) s = .next s))

/-- Holdup and rails: a fall of PWR_FAIL_N or a trip of a rail enters HOLDUP with its cause, during steps 2 to 10 of start-up it stops, and
a rail that dips in the reset begins the count of its 10 ms again; a trip
of VDD_CORE or VDD_AON in HOLDUP stops at once without the record; the dump's end writes the record and stops; VDD_AON's loss enters
VAULT and the restart begins a start-up; the capacitor test books its budget, discharges, and passes, fails or times out. -/
def Obligations.HoldupAndTheCapacitorTest : Prop := ∀ (s : State) (q : MbxReq),
  (s.start.running = true → s.start.step < 10 → leads .pwrFailNFall s fun t => t.pwr.mode = .stopped ∧ t.pwr.cause = 1 ∧
    t.pwr.holdEn = false ∧ t.pwr.pwrFailN = false ∧ t.pwr.dumps = s.pwr.dumps ∧
    keepsBut (([.pwr, .reg .PWR_EVENTS] : List Part) ++ eventParts) s t) ∧
  (s.start.running = false ∨ 10 ≤ s.start.step → s.hubOn = true → leads .pwrFailNFall s fun t => t.pwr.mode = .holdup ∧
    t.pwr.cause = 1 ∧ t.pwr.entryDatum = s.datumWord ∧ t.cmds = [] ∧ t.cpls = [] ∧ t.ops = [] ∧ t.plt.admitOpen = false ∧
    t.pwr.pwrFailN = false ∧
    keepsBut (([.atl, .bays, .cmds, .cpls, .dram, .fch, .mbx, .ops, .plt, .por, .pwr, .srv, .start, .trv, .reg .MBX_EVENTS, .reg .SHB_IND,
      .reg .PWR_EVENTS] : List Part) ++ eventParts) s t) ∧
  (∀ rail, rail < 6 →
    (s.start.running = false ∨ 10 ≤ s.start.step → s.hubOn = true → leads (.railTrip rail) s fun t => t.pwr.mode = .holdup ∧
      t.pwr.cause = 2 ∧ t.pwr.railsTripped / 2 ^ rail % 2 = 1 ∧ t.fld F.PWR_EVENTS_RAIL_TRIP 0 = 1 ∧ t.cmds = [] ∧
      keepsBut (([.atl, .bays, .cmds, .cpls, .dram, .fch, .mbx, .ops, .plt, .por, .pwr, .srv, .start, .trv, .reg .MBX_EVENTS, .reg .SHB_IND,
        .reg .PWR_EVENTS] : List Part) ++ eventParts) s t) ∧
    (s.hubOn = true → s.start.running = true →
      (s.start.step = 0 → leads (.railTrip rail) s fun t =>
        t.start = { s.start with railsAt := s.now + 10 * msTicks } ∧ keepsBut [.start] s t) ∧
      (0 < s.start.step → s.start.step < 10 → leads (.railTrip rail) s fun t => t.pwr.mode = .stopped ∧ t.pwr.cause = 2 ∧
        t.pwr.railsTripped / 2 ^ rail % 2 = 1 ∧ t.pwr.holdEn = false ∧ t.pwr.dumps = s.pwr.dumps ∧
        (∀ c, (t.chan c).wpHigh = false) ∧ keepsBut (([.fch, .pwr, .reg .PWR_EVENTS] : List Part) ++ eventParts) s t)) ∧
    (s.pwr.mode = .holdup → rail < 2 → leads (.railTrip rail) s fun t => t.pwr.mode = .stopped ∧ t.pwr.dumps = s.pwr.dumps ∧
      t.pwr.railsTripped / 2 ^ rail % 2 = 1 ∧ t.pwr.holdEn = false ∧ (∀ c, (t.chan c).wpHigh = false) ∧
      keepsBut (([.fch, .pwr, .reg .PWR_EVENTS] : List Part) ++ eventParts) s t) ∧
    (s.pwr.mode = .holdup → 2 ≤ rail → leads (.railTrip rail) s fun t => t.pwr.mode = .holdup ∧
      t.pwr.railsTripped / 2 ^ rail % 2 = 1 ∧ t.fld F.PWR_EVENTS_RAIL_TRIP 0 = 1 ∧
      keepsBut (([.pwr, .reg .PWR_EVENTS] : List Part) ++ eventParts) s t) ∧
    (s.pwr.mode = .dormant → rail = 1 → leads (.railTrip rail) s fun t => t.pwr.mode = .vault ∧ t.dat = s.dat ∧
      keepsBut resetParts s t) ∧
    (s.pwr.mode = .dormant → rail ≠ 1 → exec (.railTrip rail) s = .next s)) ∧
  (∀ complete, s.pwr.mode = .holdup → leads (.dumpEnd complete) s fun t => t.pwr.mode = .stopped ∧
    t.pwr.dumps = s.dumpRecord (complete && s.pwr.dumpParts) :: s.pwr.dumps ∧ t.pwr.dumpSeq = s.pwr.dumpSeq + 1 ∧
    t.pwr.writtenSet = some s.pwr.armedSet ∧ t.pwr.holdEn = false ∧ t.pwr.lowOnStop = decide (s.pwr.cause = 3) ∧
    (∀ c, (t.chan c).wpHigh = false) ∧
    keepsBut (([.atl, .fch, .pwr, .svy, .reg .PWR_EVENTS] : List Part) ++ eventParts) s t) ∧
  (s.pwr.mode = .dormant ∨ s.pwr.mode = .stopped → leads .vddAonLost s fun t => t.pwr.mode = .vault ∧ t.pwr.holdEn = false ∧
    t.start.running = false ∧ t.dat = s.dat ∧ t.pwr.dumps = s.pwr.dumps ∧ t.srv.fuses = s.srv.fuses ∧ keepsBut resetParts s t) ∧
  (s.pwr.mode = .stopped → s.pwr.cause ≠ 3 → leads .powerRestart s fun t => t.start.running = true ∧ t.start.step = 0 ∧
    t.pwr.pwrFailN = true ∧ t.dat = s.dat ∧ t.pwr.dumps = s.pwr.dumps ∧ t.cmds = [] ∧ keepsBut resetParts s t) ∧
  (carriedOut s q ⟨0x0804, 3, false, 0, 0, true⟩ →
    (s.pwr.test.phase = .idle → leads (.holdupTest q) s fun t =>
      answers s t q 0x0804 Ms.success true (bytesLe 4 (8 * 2 ^ 24 + s.nextHandle % 2 ^ 24)) ∧ t.pwr.test.phase = .steady ∧
      t.pwr.test.handle = some (8 * 2 ^ 24 + s.nextHandle % 2 ^ 24) ∧ t.nextHandle = s.nextHandle + 1 ∧
      keepsBut ((([.dram, .nextHandle, .pwr, .reg .PWR_EVENTS] : List Part) ++ recheckParts) ++ mbxParts) s t) ∧
    (s.pwr.test.phase ≠ .idle → leads (.holdupTest q) s fun t => answers s t q 0x0804 Ms.testRunning false [] ∧
      keepsBut mbxParts s t)) ∧
  (∀ v1 vs, s.testDue = false → exec (.capacitorTest v1 vs) s = .next s) ∧
  (∀ v1 vs, s.hubOn = true → s.testDue = true → s.pwr.test.phase = .idle ∨ s.pwr.test.phase = .steady ∨ s.pwr.test.phase = .draining →
    (s.bTest v1 < s.pwr.stagingUse → leads (.capacitorTest v1 vs) s fun t => t.pwr.test.phase = .draining ∧
      t.pwr.budget = min s.pwr.budget (s.bTest v1) ∧ t.pwr.holdTestEn = s.pwr.holdTestEn ∧
      t.fld F.PWR_EVENTS_BUDGET_DROP 0 = 1 ∧ keepsBut (([.pwr, .reg .PWR_EVENTS] : List Part) ++ eventParts) s t) ∧
    (s.pwr.stagingUse ≤ s.bTest v1 → leads (.capacitorTest v1 vs) s fun t => t.pwr.test.phase = .discharging ∧
      t.pwr.budget = min s.pwr.budget (s.bTest v1) ∧ t.pwr.holdTestEn = true ∧ t.pwr.test.startAt = s.now ∧
      keepsBut (([.pwr, .reg .PWR_EVENTS] : List Part) ++ eventParts) s t)) ∧
  (s.pwr.test.phase = .discharging →
    (let r := s.fld F.PWR_HOLD_BANK_R_TEST 0
     let x := s.pwr.test
     let c := Config.capacitance (s.now - x.startAt) x.v1 (x.v1 * (100 - s.fld F.PWR_HOLD_BANK_DROP_PCT 0) / 100) r
     let esr := (x.v1 - x.vs) * r * 100 / max 1 x.vs
     let e := c * (x.v1 ^ 2 - s.fld F.PWR_HOLD_BANK_V_MIN_MV 0 ^ 2) / (2 * 10 ^ 9)
     (esr ≤ s.fld F.PWR_HOLD_LIMITS_ESR_MAX_MOHM 0 ∧ s.budgetOf e ≠ 0 → leads .bankReachesV2 s fun t =>
       t.pwr.cPrev = some c ∧ t.pwr.eMeasured = e ∧ t.pwr.esr = esr ∧ t.pwr.test.phase = .recharging ∧
       t.pwr.test.newBudget = s.budgetOf e ∧ t.pwr.failed = false ∧ t.pwr.holdTestEn = false ∧ keepsBut [.pwr] s t) ∧
     (s.fld F.PWR_HOLD_LIMITS_ESR_MAX_MOHM 0 < esr ∨ s.budgetOf e = 0 → leads .bankReachesV2 s fun t =>
       t.pwr.budget = 0 ∧ t.pwr.failed = true ∧ t.pwr.test.phase = .idle ∧ t.pwr.cPrev = s.pwr.cPrev ∧ t.fld F.PWR_EVENTS_TEST_FAIL 0 = 1 ∧
       t.fld F.PWR_EVENTS_TEST_DONE 0 = 1 ∧ t.pwr.holdTestEn = false ∧
       keepsBut (([.ops, .pwr, .reg .MBX_EVENTS, .reg .PWR_EVENTS] : List Part) ++ eventParts) s t)) ∧
    (s.pwr.test.startAt + 2 * sTicks ≤ s.now → leads .capacitorTestTimeout s fun t => t.pwr.budget = 0 ∧ t.pwr.failed = true ∧
      t.pwr.test.phase = .idle ∧ t.pwr.holdTestEn = false ∧
      t.fld F.PWR_EVENTS_TEST_FAIL 0 = 1 ∧ t.fld F.PWR_EVENTS_TEST_DONE 0 = 1 ∧
      keepsBut (([.ops, .pwr, .reg .MBX_EVENTS, .reg .PWR_EVENTS] : List Part) ++ eventParts) s t)) ∧
  (s.now < s.pwr.test.startAt + 2 * sTicks → exec .capacitorTestTimeout s = .next s) ∧
  (s.pwr.test.phase = .recharging → leads .bankRecharged s fun t => t.pwr.budget = s.pwr.test.newBudget ∧ t.pwr.tested = true ∧
    t.pwr.test.phase = .idle ∧ t.pwr.lastTestFrame = s.plt.frame ∧ t.fld F.PWR_EVENTS_TEST_DONE 0 = 1 ∧
    keepsBut (([.ops, .pwr, .reg .MBX_EVENTS, .reg .PWR_EVENTS] : List Part) ++ eventParts) s t)

/-! ### Pools and namespaces (chapters 4 and 13) -/

/-- Pools and namespaces (R110 to R112, R416): a pool needs map space for its segments, those it gives up have no record any more, and no namespace uses a pool that is deleted; a
namespace takes a free NSID and a free range of IUs of its pool, binds its key slot, grows only into free IUs, is deleted only
detached, with its slot's key; attaching and detaching change one function's place in it; NS_LIST and NS_INFO change nothing.
Which free NSID and range a namespace takes is the model's choice (log entry 23). -/
def Obligations.PoolsAndNamespacesAreMadeChangedAndListed : Prop := ∀ (s : State) (q : MbxReq),
  let p := q.payload.getD 0 0
  let segs := le q.payload 8 8
  let id := le q.payload 0 4
  let others := fun (t : State) (k : Nat) => ∀ n, n ≠ k → t.nsOf n = s.nsOf n
  (carriedOut s q ⟨0x0201, 1, false, 16, 16, false⟩ → p < 32 → q.payload.getD 1 0 < 2 → le q.payload 2 2 < 4096 →
    le q.payload 4 4 = 0 → segs ≠ 0 →
    let mask := if le q.payload 2 2 = 0 then 4095 else le q.payload 2 2
    (s.poolOf p = none → s.mapFits mask segs = true → leads (.poolCreate q) s fun t =>
      t.poolOf p = some ⟨decide (q.payload.getD 1 0 = 1), mask, segs⟩ ∧ (∀ k, k ≠ p → t.poolOf k = s.poolOf k) ∧
      answers s t q 0x0201 Ms.success false (bytesLe 4 (mapGib segs)) ∧
      keepsBut (.atl :: .plt :: .reg .ATL_JRNL_WM :: mbxParts) s t) ∧
    (s.poolOf p ≠ none → leads (.poolCreate q) s fun t => answers s t q 0x0201 Ms.inUse false [] ∧ keepsBut mbxParts s t) ∧
    (s.poolOf p = none → s.mapFits mask segs = false → leads (.poolCreate q) s fun t => answers s t q 0x0201 Ms.mapSpace false [] ∧
      keepsBut mbxParts s t)) ∧
  (carriedOut s q ⟨0x0202, 1, false, 16, 16, false⟩ → p < 32 → le q.payload 1 7 = 0 → segs ≠ 0 → ∀ x, s.poolOf p = some x →
    ((∀ n ∈ s.nsIn p, n.base + s.iuCount n ≤ segs * 819) → segs ≤ x.segs ∨ s.mapFits x.mask (segs - x.segs) = true →
      leads (.poolResize q) s fun t => t.poolOf p = some ⟨x.iu4k, x.mask, segs⟩ ∧ (∀ k, k ≠ p → t.poolOf k = s.poolOf k) ∧
        (∀ k, t.segOf k = if k / 2 ^ 32 = p ∧ segs ≤ k % 2 ^ 32 then Seg.reset else s.segOf k) ∧
        answers s t q 0x0202 Ms.success false (bytesLe 4 (mapGib segs)) ∧
        keepsBut (([.atl, .plt, .pwr, .svy, .reg .ATL_JRNL_WM] : List Part) ++ mbxParts) s t) ∧
    ((∃ n ∈ s.nsIn p, segs * 819 < n.base + s.iuCount n) → leads (.poolResize q) s fun t =>
      answers s t q 0x0202 Ms.inUse false [] ∧ keepsBut mbxParts s t)) ∧
  (carriedOut s q ⟨0x0203, 1, false, 1, 1, false⟩ → p < 32 → s.poolOf p ≠ none →
    (s.nsIn p = [] → leads (.poolDelete q) s fun t => t.poolOf p = none ∧ (∀ k, k ≠ p → t.poolOf k = s.poolOf k) ∧
      (∀ k, t.segOf k = if k / 2 ^ 32 = p then Seg.reset else s.segOf k) ∧
      answers s t q 0x0203 Ms.success false [] ∧
      keepsBut (([.atl, .plt, .pwr, .svy, .reg .ATL_JRNL_WM] : List Part) ++ mbxParts) s t) ∧
    (s.nsIn p ≠ [] → leads (.poolDelete q) s fun t => answers s t q 0x0203 Ms.inUse false [] ∧ keepsBut mbxParts s t)) ∧
  (carriedOut s q ⟨0x0204, 1, false, 16, 16, false⟩ →
    let lbaf := q.payload.getD 1 0
    let pi := q.payload.getD 2 0
    let ci := q.payload.getD 3 0
    let slot := le q.payload 4 2
    let free := fun (x : Pool) => ceilDiv (le q.payload 8 8) (x.iuBytes / lbaBytes lbaf)
    p < 32 → lbaf < 4 → pi = 0 ∨ pi = 1 ∨ pi = 3 → ci < 3 → slot < 1024 → le q.payload 6 2 = 0 → le q.payload 8 8 ≠ 0 →
    ∀ x, s.poolOf p = some x → lbaBytes lbaf ≤ x.iuBytes → (ci = 2 → 2 ≤ lbaf) → (pi ≠ 0 → lbaf % 2 = 1) →
      (ci ≠ 0 → s.isKN = false ∧ s.slotReady slot ci = true ∧ (s.kslot slot).nsid = 0) →
      (∀ k b, s.freeNsid = some k → s.findBase p x (free x) = some b → leads (.nsCreate q) s fun t =>
        t.nsOf k = some ⟨p, lbaf, pi, ci, slot, le q.payload 8 8, b, [], s.atl.nsCount + 1, none⟩ ∧ others t k ∧
        t.atl.nsCount = s.atl.nsCount + 1 ∧ (ci ≠ 0 → t.kslot slot = { s.kslot slot with nsid := k }) ∧
        (∀ j, ci = 0 ∨ j ≠ slot → t.kslot j = s.kslot j) ∧
        answers s t q 0x0204 Ms.success false (bytesLe 4 k ++ zeros 4 ++ bytesLe 16 (s.atl.nsCount + 1)) ∧
        keepsBut (.atl :: .cip :: mbxParts) s t) ∧
      (s.freeNsid = none → leads (.nsCreate q) s fun t => answers s t q 0x0204 Ms.nsLimit false [] ∧ keepsBut mbxParts s t)) ∧
  (carriedOut s q ⟨0x0205, 1, false, 16, 16, false⟩ → le q.payload 4 4 = 0 → segs ≠ 0 → ∀ n, s.nsOf id = some n →
    let top := n.base + s.iuCount { n with nlba := segs }
    ((n.nlba < segs → (∃ x, s.poolOf n.pool = some x ∧ top ≤ x.segs * 819) ∧ ∀ m ∈ s.nsIn n.pool, m.base ≤ n.base ∨ top ≤ m.base) →
      leads (.nsResize q) s fun t => t.nsOf id = some { n with nlba := segs } ∧ others t id ∧
        answers s t q 0x0205 Ms.success false [] ∧
        keepsBut (([.atl, .cpls, .ctls, .plt, .pwr, .svy, .til, .reg .ATL_JRNL_WM, .reg .TIL_POOL_WM] : List Part) ++ mbxParts) s t) ∧
    (n.nlba < segs → ((∀ x, s.poolOf n.pool = some x → x.segs * 819 < top) ∧ top ≠ 0 ∨ ∃ m ∈ s.nsIn n.pool, n.base < m.base ∧ m.base < top) →
      leads (.nsResize q) s fun t => answers s t q 0x0205 Ms.mapSpace false [] ∧ keepsBut mbxParts s t)) ∧
  (carriedOut s q ⟨0x0206, 1, false, 4, 4, false⟩ → ∀ n, s.nsOf id = some n →
    (n.attached = [] → leads (.nsDelete q) s fun t => t.nsOf id = none ∧ others t id ∧
      (n.cipher ≠ 0 → (t.kslot n.slot).nsid = 0 ∧ (t.kslot n.slot).cur = none ∧ (t.kslot n.slot).shadow = none ∧
        (t.kslot n.slot).lastGen = (s.kslot n.slot).lastGen) ∧
      (∀ j, n.cipher = 0 ∨ j ≠ n.slot → t.kslot j = s.kslot j) ∧ answers s t q 0x0206 Ms.success false [] ∧
      keepsBut (([.atl, .cip, .plt, .pwr, .svy, .til, .reg .ATL_JRNL_WM, .reg .TIL_POOL_WM] : List Part) ++ mbxParts) s t) ∧
    (n.attached ≠ [] → leads (.nsDelete q) s fun t => answers s t q 0x0206 Ms.inUse false [] ∧ keepsBut mbxParts s t)) ∧
  (carriedOut s q ⟨0x0207, 1, false, 5, 5, false⟩ → ∀ n, s.nsOf id = some n → leads (.nsAttach q) s fun t =>
    (∃ l : List Nat, t.nsOf id = some { n with attached := l } ∧ ∀ f, f ∈ l ↔ f = q.payload.getD 4 0 ∨ f ∈ n.attached) ∧ others t id ∧
    answers s t q 0x0207 Ms.success false [] ∧ keepsBut (([.atl, .cpls, .ctls] : List Part) ++ mbxParts) s t) ∧
  (carriedOut s q ⟨0x0208, 1, false, 5, 5, false⟩ → ∀ n, s.nsOf id = some n →
    (q.payload.getD 4 0 ∈ n.attached → leads (.nsDetach q) s fun t =>
      (∃ l : List Nat, t.nsOf id = some { n with attached := l } ∧ ∀ f, f ∈ l ↔ f ≠ q.payload.getD 4 0 ∧ f ∈ n.attached) ∧ others t id ∧
      answers s t q 0x0208 Ms.success false [] ∧ keepsBut (([.atl, .cpls, .ctls] : List Part) ++ mbxParts) s t) ∧
    (q.payload.getD 4 0 ∉ n.attached → leads (.nsDetach q) s fun t => answers s t q 0x0208 Ms.noObject false [] ∧
      keepsBut mbxParts s t)) ∧
  (carriedOut s q ⟨0x0209, 1, false, 4, 4, false⟩ → leads (.nsList q) s fun t =>
    (∃ l : List Nat, answers s t q 0x0209 Ms.success false (bytesLe 4 l.length ++ l.flatMap (bytesLe 4)) ∧ l.length ≤ 1019 ∧
      ∀ n ∈ l, id ≤ n ∧ ∃ e ∈ s.atl.ns, e.1 = n ∧ e.2 ≠ none) ∧ keepsBut mbxParts s t) ∧
  (carriedOut s q ⟨0x020A, 1, false, 4, 4, false⟩ →
    (∀ n, s.nsOf id = some n → leads (.nsInfo q) s fun t =>
      answers s t q 0x020A Ms.success false ([n.pool, n.lbaf, n.pi, n.cipher] ++ bytesLe 2 n.slot ++ bytesLe 2 n.attached.length
        ++ bytesLe 8 n.nlba ++ bytesLe 8 n.base ++ bytesLe 32 (n.attached.foldl (fun m f => m + 2 ^ f) 0)) ∧ keepsBut mbxParts s t) ∧
    (s.nsOf id = none → leads (.nsInfo q) s fun t => answers s t q 0x020A Ms.noObject false [] ∧ keepsBut mbxParts s t))

/-! ### Keys, field access and cipher lanes (chapter 15) -/

/-- Keys (R470 to R475): an import fills CURRENT with the next GENERATION where the wrapping verifies and the slot is bound to nothing;
KEY_ERASE empties the slot but keeps its last GENERATION; SLOT_ASSIGN gives unbound slots an owner; REKEY moves CURRENT to SHADOW and
waits for what was staged; the sweep moves one IU and its cursor, and its end forgets SHADOW. What a wrapping holds is not computed:
both outcomes are stated. -/
def Obligations.KeysAreImportedErasedAndSwept : Prop := ∀ (s : State) (q : MbxReq),
  let n := le q.payload 0 2
  let k := s.kslot n
  let len := le q.payload 4 2
  let others := fun (t : State) (j : Nat) => ∀ i, i ≠ j → t.kslot i = s.kslot i
  (carriedOut s q ⟨0x0301, 1, true, 8, 80, false⟩ → n < 1024 → q.payload.getD 2 0 < 2 → len = wrappedLen (q.payload.getD 2 0) →
    q.payload.getD 3 0 = 0 → le q.payload 6 2 = 0 → q.length = 8 + len → s.mayNameSlot q.path n = true → s.isKN = false →
    (k.nsid ≠ 0 → leads (.keyImport q) s fun t => answers s t q 0x0301 Ms.slotBound false [] ∧ keepsBut mbxParts s t) ∧
    (k.nsid = 0 → leads (.keyImport q) s fun t =>
      match Config.unwrap ((q.payload.drop 8).take len) with
      | none => answers s t q 0x0301 Ms.unwrapFailed false [] ∧ keepsBut mbxParts s t
      | some key => t.kslot n = { k with cur := some ⟨q.payload.getD 2 0, (k.lastGen + 1) % 65536, key⟩, shadow := none,
                                         lastGen := (k.lastGen + 1) % 65536 } ∧ others t n ∧
          answers s t q 0x0301 Ms.success false
            (bytesLe 2 n ++ (if 3 ≤ (s.mb q.path).respVersion then bytesLe 2 ((k.lastGen + 1) % 65536) else [])) ∧
          keepsBut (.cip :: mbxParts) s t)) ∧
  (carriedOut s q ⟨0x0303, 1, true, 2, 2, false⟩ → n < 1024 → s.mayNameSlot q.path n = true →
    (k.nsid ≠ 0 → leads (.keyErase q) s fun t => answers s t q 0x0303 Ms.slotBound false [] ∧ keepsBut mbxParts s t) ∧
    (k.nsid = 0 → leads (.keyErase q) s fun t => (t.kslot n).cur = none ∧ (t.kslot n).shadow = none ∧
      (t.kslot n).lastGen = k.lastGen ∧ others t n ∧ answers s t q 0x0303 Ms.success false [] ∧ keepsBut (.cip :: mbxParts) s t)) ∧
  (carriedOut s q ⟨0x0303, 1, true, 2, 2, false⟩ → n < 1024 → s.mayNameSlot q.path n = false → leads (.keyErase q) s fun t =>
    answers s t q 0x0303 Ms.privilege false [] ∧ keepsBut mbxParts s t) ∧
  (carriedOut s q ⟨0x0304, 1, false, 5, 5, false⟩ → le q.payload 2 2 ≠ 0 → n + le q.payload 2 2 ≤ 1024 →
    leads (.slotAssign q) s fun t => (∀ i, t.kslot i =
      if n ≤ i ∧ i < n + le q.payload 2 2 ∧ (s.kslot i).nsid = 0 then { s.kslot i with owner := q.payload.getD 4 0 } else s.kslot i) ∧
      answers s t q 0x0304 Ms.success false [] ∧ keepsBut (.cip :: mbxParts) s t) ∧
  (carriedOut s q ⟨0x0305, 1, true, 2, 2, false⟩ → n < 1024 → s.mayNameSlot q.path n = true → leads (.keyStatus q) s fun t =>
    answers s t q 0x0305 Ms.success false
      ([(k.cur.map KeyEnt.kind).getD 0xFF, k.owner] ++ bytesLe 2 k.lastGen ++ bytesLe 4 k.nsid) ∧ keepsBut mbxParts s t) ∧
  (carriedOut s q ⟨0x0302, 3, true, 8, 80, true⟩ → q.length = 8 + len → le q.payload 6 2 = 0 →
    ∀ x, s.nsOf (le q.payload 0 4) = some x → x.cipher ≠ 0 → s.mayNameSlot q.path x.slot = true → s.isKN = false →
    (x.lbaf = 1 ∧ x.pi = 0 → leads (.rekey q) s fun t => answers s t q 0x0302 Ms.invalidField false [] ∧ keepsBut mbxParts s t) ∧
    (x.lbaf ≠ 1 ∨ x.pi ≠ 0 → len = wrappedLen (x.cipher - 1) →
      ((s.kslot x.slot).shadow ≠ none → leads (.rekey q) s fun t => answers s t q 0x0302 Ms.rekeyActive false [] ∧
        keepsBut mbxParts s t) ∧
      ((s.kslot x.slot).shadow = none → leads (.rekey q) s fun t =>
        match Config.unwrap ((q.payload.drop 8).take len) with
        | none => answers s t q 0x0302 Ms.unwrapFailed false [] ∧ keepsBut mbxParts s t
        | some key =>
          let g := ((s.kslot x.slot).lastGen + 1) % 65536
          let h := 3 * 2 ^ 24 + s.nextHandle % 2 ^ 24
          let y : KSlot := s.kslot x.slot
          let z : KSlot := ⟨some ⟨x.cipher - 1, g, key⟩, y.cur, y.owner, y.nsid, g, y.fenced, 0, s.stagedSlots x, some h⟩
          t.kslot x.slot = z ∧ others t x.slot ∧
            answers s t q 0x0302 Ms.success true (bytesLe 4 h ++ bytesLe 2 g) ∧
            keepsBut ((([.cip, .dram, .nextHandle, .pwr, .reg .PWR_EVENTS] : List Part) ++ recheckParts) ++ mbxParts) s t))) ∧
  (∀ slot count x, s.nsOf (s.kslot slot).nsid = some x → (s.kslot slot).shadow ≠ none →
    ((∃ a ∈ (s.kslot slot).waits, a ∈ s.stagedSlots x) → ∀ moves, leads (.rekeySweepStep slot count moves) s fun t =>
      (t.kslot slot).cursor = (s.kslot slot).cursor ∧ (t.kslot slot).cur = (s.kslot slot).cur ∧ others t slot ∧
      keepsBut [.cip] s t) ∧
    ((∀ a ∈ (s.kslot slot).waits, a ∉ s.stagedSlots x) →
      let stop := min (s.iuCount x) ((s.kslot slot).cursor + count)
      (leads (.rekeySweepStep slot count []) s fun t => (t.kslot slot).cursor = stop ∧ (t.kslot slot).waits = [] ∧
        (t.kslot slot).shadow = (s.kslot slot).shadow ∧ others t slot ∧ keepsBut [.cip, .ops] s t) ∧
      (∀ i old new, (s.kslot slot).cursor ≤ i → i < stop → s.dataIn new 1 = true →
        (s.readySegs [segOfIu (iuKey x.pool (x.base + i))]).isSome = true →
        leads (.rekeySweepStep slot count [(i, old, new)]) s fun t => (t.kslot slot).cursor = stop ∧ others t slot ∧
          (s.lookup (iuKey x.pool (x.base + i)) = mappedAt old → t.lookup (iuKey x.pool (x.base + i)) = mappedAt new) ∧
          (s.lookup (iuKey x.pool (x.base + i)) ≠ mappedAt old →
            t.lookup (iuKey x.pool (x.base + i)) = s.lookup (iuKey x.pool (x.base + i))) ∧
          keepsBut (([.atl, .cip, .ops, .out, .plt, .pwr, .svy, .reg .ATL_CAS_FAIL, .reg .ATL_JRNL_WM, .reg .SVY_MEDIA_EVENTS] : List Part)
            ++ eventParts) s t)) ∧
    (s.iuCount x ≤ (s.kslot slot).cursor → leads (.rekeyDone slot) s fun t => (t.kslot slot).shadow = none ∧
      (t.kslot slot).cur = (s.kslot slot).cur ∧ t.fld F.LEG_EVENTS_REKEY_DONE 0 = 1 ∧ others t slot ∧
      keepsBut (([.cip, .ops, .reg .LEG_EVENTS, .reg .MBX_EVENTS] : List Part) ++ eventParts) s t))

/-- Field access (R482 to R484): a challenge supersedes its requester's nonce; a response in a lockout consumes its nonce and is
LOCKED_OUT; one that names no live nonce is STALE and no failure; a proof that verifies opens access and clears the count, one that
does not adds to it, and the eighth begins the lockout, whose end after an hour clears the count; a nonce lapses 60,000 frames after it was
issued. Whether a proof verifies, and the nonce drawn,
are not computed: both outcomes are stated. -/
def Obligations.FieldAccessOpensOnAVerifiedResponse : Prop := ∀ (s : State) (q : MbxReq),
  (carriedOut s q ⟨0x0306, 1, false, 0, 0, false⟩ → leads (.unlockChallenge q) s fun t =>
    t.cip.nonces = ⟨q.path, Config.drbg s.fresh % 2 ^ 256, s.plt.frame⟩ :: s.cip.nonces.filter (fun x => decide (x.path ≠ q.path)) ∧
    t.cip.slot = s.cip.slot ∧ t.cip.failures = s.cip.failures ∧ t.cip.open_ = s.cip.open_ ∧
    answers s t q 0x0306 Ms.success false (bytesLe 32 (Config.drbg s.fresh % 2 ^ 256)) ∧
    keepsBut (([.cip, .fresh] : List Part) ++ mbxParts) s t) ∧
  (carriedOut s q ⟨0x0307, 1, false, 37, 548, false⟩ → q.length = 36 + le q.payload 2 2 →
    let m := q.payload.getD 0 0
    let len := le q.payload 2 2
    let v := le q.payload 4 32
    (s.cip.lockFrom ≠ none → leads (.unlockResponse q) s fun t => answers s t q 0x0307 Ms.lockedOut false s.unlockPayload ∧
      (∀ x ∈ t.cip.nonces, x.value ≠ v) ∧ t.cip.failures = s.cip.failures ∧ t.cip.open_ = s.cip.open_ ∧
      keepsBut (([.cip, .gaz, .reg .GAZ_COUNTS] : List Part) ++ mbxParts) s t) ∧
    (s.cip.lockFrom = none → m < 3 → 1 ≤ len → len ≤ 512 → q.payload.getD 1 0 = 0 → (m < 2 → len = 96) → s.hasCredential m = true →
      (s.liveNonce v = false → leads (.unlockResponse q) s fun t => answers s t q 0x0307 Ms.stale false s.unlockPayload ∧
        keepsBut (([.gaz, .reg .GAZ_COUNTS] : List Part) ++ mbxParts) s t) ∧
      (s.liveNonce v = true → leads (.unlockResponse q) s fun t => (∀ x ∈ t.cip.nonces, x.value ≠ v) ∧ t.cip.slot = s.cip.slot ∧
        (if Config.proofOk m v ((q.payload.drop 36).take len) (s.credential m) then
          t.cip.open_ = true ∧ t.cip.failures = 0 ∧ t.fld F.LEG_EVENTS_UNLOCKED 0 = 1 ∧
            answers s t q 0x0307 Ms.success false ([8] ++ zeros 3 ++ bytesLe 8 0)
        else t.cip.open_ = s.cip.open_ ∧ t.cip.failures = s.cip.failures + 1 ∧ t.fld F.LEG_EVENTS_BAD_AUTH 0 = 1 ∧
          (t.cip.lockFrom = if 7 ≤ s.cip.failures then some s.now else none) ∧
          (7 ≤ s.cip.failures → t.fld F.LEG_EVENTS_LOCKOUT 0 = 1) ∧ answers s t q 0x0307 Ms.badAuth false t.unlockPayload) ∧
        keepsBut (([.cip, .gaz, .reg .GAZ_COUNTS, .reg .LEG_EVENTS] : List Part) ++ mbxParts) s t)) ∧
    (s.cip.lockFrom = none → s.hasCredential m = false → 1 ≤ len → len ≤ 512 → leads (.unlockResponse q) s fun t =>
      answers s t q 0x0307 Ms.invalidField false [] ∧ keepsBut (([.gaz, .reg .GAZ_COUNTS] : List Part) ++ mbxParts) s t)) ∧
  (∀ v, leads (.nonceLapse v) s fun t => (∀ x, x ∈ t.cip.nonces ↔ x ∈ s.cip.nonces ∧
      (x.value ≠ v ∨ s.plt.frame < x.frame + 60000)) ∧
    t.cip.failures = s.cip.failures ∧ t.cip.open_ = s.cip.open_ ∧ keepsBut [.cip] s t) ∧
  (0 < s.lockRemain → exec .lockoutEnd s = .next s) ∧
  (s.cip.lockFrom ≠ none → s.lockRemain = 0 → leads .lockoutEnd s fun t => t.cip.lockFrom = none ∧
    t.cip.failures = 0 ∧ t.cip.open_ = s.cip.open_ ∧
    keepsBut [.cip] s t)

/-- Cipher jobs (R456 to R466, R476 to R480): a compare mismatch of the two datapaths fences the lane and releases nothing; a job done
leaves its lane; a write is encrypted, or sealed with its tag and quarter word, under CURRENT; a read takes the entry its quarter word
names, or the one held entry whose check passes, with GEN_TRIAL; a sealed LBA whose tag fails, or whose FORMAT is reserved, sets
SEALED_AUTH_FAIL, is counted and delivers nothing; metadata that fails is delivered with UNTRUSTED; the staging form takes the key of the
staging epoch. -/
def Obligations.CipherJobsReleaseOnlyCheckedOutput : Prop := ∀ (s : State) (j : CipherJob), j.lane < 32 →
  s.fenced 0x080 j.lane = false → j.injected = false →
  let k := s.kslot j.slot
  let nonce := s.posNonce j.addr
  let done := fun (t : State) => tabGet (fun _ => 0) t.cip.jobs j.lane = tabGet (fun _ => 0) s.cip.jobs j.lane - 1 ∧
    t.cip.slot = s.cip.slot ∧ ∀ l, l ≠ j.lane → tabGet (fun _ => 0) t.cip.jobs l = tabGet (fun _ => 0) s.cip.jobs l
  let answersWith := fun (l : List Nat) => leads (.cipherJob j) s fun t => done t ∧ t.out = .answer 0x080 l :: s.out ∧
    keepsBut [.cip, .out] s t
  let fails := (∀ f q c, j.cmd = some (f, q, c) → leads (.cipherJob j) s fun t => t.fld F.CIP_EVENTS_SEALED_AUTH_FAIL 0 = 1 ∧
      t.fld F.CIP_CNT_AUTH_SEALED 0 = min 65535 (s.fld F.CIP_CNT_AUTH_SEALED 0 + 1) ∧
      ∀ l, Out.answer 0x080 l ∈ t.out → Out.answer 0x080 l ∈ s.out) ∧
    (j.cmd = none → leads (.cipherJob j) s fun t => done t ∧ t.fld F.CIP_EVENTS_SEALED_AUTH_FAIL 0 = 1 ∧
    t.fld F.CIP_CNT_AUTH_SEALED 0 = min 65535 (s.fld F.CIP_CNT_AUTH_SEALED 0 + 1) ∧
    (∀ l, Out.answer 0x080 l ∈ t.out → Out.answer 0x080 l ∈ s.out) ∧
    keepsBut (([.cip, .reg .CIP_CNT_AUTH, .reg .CIP_EVENTS] : List Part) ++ eventParts) s t)
  let reserved := (j.word.map formatReserved).getD false
  let tagOk := fun (e : KeyEnt) => decide (j.tag = Config.gcmTag e.key nonce (sealAad k.nsid e.gen j.lba j.side) j.data)
  (j.dupOk = false → (s.unit 0x080 j.lane).isolated = false → s.tooFew 0x080 = false → leads (.cipherJob j) s fun t =>
    t.fenced 0x080 j.lane = true ∧ (t.unit 0x080 j.lane).lastCause = 0x0A ∧ (t.unit 0x080 j.lane).lastClass = 3 ∧
    keepsBut faultParts s t) ∧
  (j.dupOk = true →
    (∀ e n, k.cur = some e → s.nsOf k.nsid = some n →
      let side := fun tag => if n.lbaf = 1 then [] else
        sideQuarter (quarterWord n.lbaf (some e.gen) (s.quarterPoison n j.lba)) j.side tag
      (j.kind = 0 → answersWith ([0, j.slot, e.gen] ++ side 0 ++ Config.xts true e.key j.lba j.data)) ∧
      (j.kind = 2 → let data := Config.gcmCrypt e.key nonce j.data
        answersWith ([2, j.slot, e.gen] ++ side (Config.gcmTag e.key nonce (sealAad k.nsid e.gen j.lba j.side) data) ++ data))) ∧
    (j.kind = 0 ∨ j.kind = 2 → k.cur = none ∨ s.nsOf k.nsid = none → leads (.cipherJob j) s fun t => done t ∧ keepsBut [.cip] s t) ∧
    (∀ e, reserved = false → namedEntry k j.word = some e →
      (j.kind = 1 → answersWith ([1, j.slot, e.gen] ++ Config.xts false e.key j.lba j.data)) ∧
      (j.kind = 3 → tagOk e = true → answersWith ([3, j.slot, e.gen] ++ Config.gcmCrypt e.key nonce j.data)) ∧
      (j.kind = 3 → tagOk e = false → fails)) ∧
    (∀ e, reserved = false → namedEntry k j.word = none → s.trialFits j = true →
      let give := fun (l : List Nat) => leads (.cipherJob j) s fun t => done t ∧ t.fld F.CIP_EVENTS_GEN_TRIAL 0 = 1 ∧
        sent s t (.answer 0x080 l) ∧ keepsBut (([.cip, .reg .CIP_EVENTS] : List Part) ++ eventParts) s t
      (j.kind = 1 → k.held.filter (fun x => if k.cur = some x then j.curOk else j.shadowOk) = [e] →
        give ([1, j.slot, e.gen] ++ Config.xts false e.key j.lba j.data)) ∧
      (j.kind = 3 → k.held.filter tagOk = [e] → give ([3, j.slot, e.gen] ++ Config.gcmCrypt e.key nonce j.data))) ∧
    (j.kind = 3 → reserved = true → fails) ∧
    (j.kind = 3 → namedEntry k j.word = none → (∀ e ∈ k.held, tagOk e = false) → fails) ∧
    (j.kind = 3 → namedEntry k j.word = none → s.trialFits j = false → fails) ∧
    (let ok := decide (j.tag = Config.gcmTag Config.metaKey nonce (sealAad metaNsid 0 j.lba j.side) j.data)
     let data := Config.gcmCrypt Config.metaKey nonce j.data
     (j.kind = 4 → ok = true → answersWith (4 :: 0 :: data)) ∧
     (j.kind = 4 → ok = false → leads (.cipherJob j) s fun t => done t ∧ t.fld F.CIP_EVENTS_META_UNTRUSTED 0 = 1 ∧
       t.fld F.CIP_CNT_AUTH_META 0 = min 65535 (s.fld F.CIP_CNT_AUTH_META 0 + 1) ∧ sent s t (.answer 0x080 (4 :: 1 :: data)) ∧
       keepsBut (([.cip, .reg .CIP_CNT_AUTH, .reg .CIP_EVENTS] : List Part) ++ eventParts) s t) ∧
     (j.kind = 5 → answersWith ([5] ++ sideQuarter (quarterWord 8 (some 0) 0) j.side
       (Config.gcmTag Config.metaKey nonce (sealAad metaNsid 0 j.lba j.side) data) ++ data)) ∧
     (j.kind = 6 ∨ j.kind = 7 → answersWith ([j.kind, j.slot, s.pwr.stageEpoch] ++
       Config.xts (decide (j.kind = 6)) (Config.stagingKey s.pwr.stageEpoch) (k.nsid * 2 ^ 32 + j.lba % 2 ^ 32) j.data))))

/-! ### The Gazetteer and Datum (chapter 19), the Portolan store (chapter 20) -/

/-- The Gazetteer (R418, R572 to R575): GAZ_READ returns whole records; a clear leaves the CLEARED record alone at position 0 with the
next SEQ, persisted at once; another layout clears and writes LAYOUT after it; a new record takes position NEXT, a repeated one
raises REPEAT of the most recent, a full VG-40 Gazetteer only counts it; GAZ_PERSIST writes what changed, but in HOLDUP and DORMANT. -/
def Obligations.TheGazetteerRecordsMergesAndClears : Prop := ∀ (s : State) (q : MbxReq),
  let cleared := fun (t : State) => (t.gaz.at 0).code = 1 ∧ (t.gaz.at 0).block = 0x0E2 ∧ (t.gaz.at 0).seq = s.gaz.seq ∧
    (∀ p, 2 ≤ p → t.gaz.at p = GazRec.empty) ∧ t.gaz.full = false
  (carriedOut s q ⟨0x0401, 1, true, 4, 4, false⟩ →
    let first := le q.payload 0 2
    let count := le q.payload 2 2
    (first < 8192 → 1 ≤ count → count ≤ 8192 → ((s.mb q.path).respVersion = 1 → count ≤ 127) → leads (.gazRead q) s fun t =>
      answers s t q 0x0401 Ms.success false (bytesLe 2 first ++ bytesLe 2 (min count (8192 - first)) ++ zeros 12 ++
        (List.range' first (min count (8192 - first))).flatMap (fun p => (s.gaz.at p).bytes)) ∧ keepsBut mbxParts s t) ∧
    (8192 ≤ first ∨ count = 0 ∨ 8192 < count ∨ ((s.mb q.path).respVersion = 1 ∧ 127 < count) → leads (.gazRead q) s fun t =>
      answers s t q 0x0401 Ms.invalidField false [] ∧ keepsBut mbxParts s t)) ∧
  (carriedOut s q ⟨0x0402, 1, true, 0, 0, false⟩ → leads (.gazClear q) s fun t => cleared t ∧ t.gaz.next = 1 ∧ t.gaz.count = 1 ∧
    t.gaz.at 1 = GazRec.empty ∧ t.gaz.saved = t.gaz.recs ∧ t.gaz.tail = [] ∧ t.gaz.vg40 = s.gaz.vg40 ∧
    answers s t q 0x0402 Ms.success false (bytesLe 2 s.gaz.count) ∧ keepsBut (([.gaz, .reg .GAZ_COUNTS] : List Part) ++ mbxParts) s t) ∧
  (carriedOut s q ⟨0x0403, 1, false, 1, 1, false⟩ →
    (∀ l, l < 2 → q.payload.getD 0 0 = l → s.gaz.vg40 = decide (l = 0) → leads (.gazLayout q) s fun t => cleared t ∧
      t.gaz.vg40 = decide (l = 1) ∧ (t.gaz.at 1).code = 3 ∧ (t.gaz.at 1).data = l ∧ t.gaz.next = 2 ∧
      answers s t q 0x0403 Ms.success false [] ∧ keepsBut (([.gaz, .reg .GAZ_COUNTS] : List Part) ++ mbxParts) s t) ∧
    (∀ l, l < 2 → q.payload.getD 0 0 = l → s.gaz.vg40 = decide (l = 1) → leads (.gazLayout q) s fun t =>
      answers s t q 0x0403 Ms.success false [] ∧ keepsBut mbxParts s t)) ∧
  (∀ block inst sev code data, block < 4096 → inst < 4096 → sev < 16 → code < 65536 → data < 2 ^ 64 →
    (s.gaz.vg40 = false ∨ s.gaz.full = false → (∀ p, s.gaz.recent = some p → (s.gaz.at p).code ≠ code) →
      leads (.gazetteerRecord block inst sev code data) s fun t => (t.gaz.at s.gaz.next).block = block ∧
        (t.gaz.at s.gaz.next).inst = inst ∧ (t.gaz.at s.gaz.next).sev = sev ∧ (t.gaz.at s.gaz.next).code = code ∧
        (t.gaz.at s.gaz.next).data = data ∧ (t.gaz.at s.gaz.next).time = s.datumTime ∧ (t.gaz.at s.gaz.next).rep = 0 ∧
        (t.gaz.at s.gaz.next).seq = s.gaz.seq ∧ t.gaz.seq = (s.gaz.seq + 1) % 2 ^ 32 ∧ t.gaz.recent = some s.gaz.next ∧
        (∀ p, p ≠ s.gaz.next → t.gaz.at p = s.gaz.at p) ∧ keepsBut recordParts s t) ∧
    (∀ p, s.gaz.recent = some p → (s.gaz.at p).block = block → (s.gaz.at p).inst = inst → (s.gaz.at p).code = code →
      (s.gaz.at p).data = data → (s.gaz.at p).time ≤ s.datumTime → s.datumTime - (s.gaz.at p).time ≤ 0x3FFFFF →
      leads (.gazetteerRecord block inst sev code data) s fun t => (t.gaz.at p).rep = min 65535 ((s.gaz.at p).rep + 1) ∧
        (t.gaz.at p).lastDelta = s.datumTime - (s.gaz.at p).time ∧ (t.gaz.at p).time = (s.gaz.at p).time ∧
        t.gaz.next = s.gaz.next ∧ (∀ k, k ≠ p → t.gaz.at k = s.gaz.at k) ∧ keepsBut [.gaz] s t) ∧
    (s.gaz.vg40 = true → s.gaz.full = true → s.gaz.recent = none → leads (.gazetteerRecord block inst sev code data) s fun t =>
      t.gaz = s.gaz ∧ t.fld F.GAZ_COUNTS_DROPPED 0 = satAdd (2 ^ (F.GAZ_COUNTS_DROPPED.hi + 1 - F.GAZ_COUNTS_DROPPED.lo) - 1)
        (s.fld F.GAZ_COUNTS_DROPPED 0) 1 ∧ keepsBut [.reg .GAZ_COUNTS] s t)) ∧
  (s.hubOn = true → leads .gazPersist s fun t => t.gaz.saved = s.gaz.recs ∧ t.gaz.recs = s.gaz.recs ∧ t.gaz.dirty = [] ∧
    t.gaz.tail = [] ∧ keepsBut [.gaz] s t) ∧
  (s.pwr.mode = .holdup ∨ s.pwr.mode = .dormant → exec .gazPersist s = .next s)

/-- Datum (R565 to R568): a set of 1 s or more, or of an UNSET Datum, steps it at once, a smaller one is slewed; a step over the armed
alarm fires it; DATUM_ALARM arms a time to come and disarms with 0; the alarm fires once Datum has reached it and drives WAKE_N in VAULT;
a slew ends when all of it has been made; the loss of VBAT leaves Datum
UNSET with no alarm. -/
def Obligations.DatumStepsSlewsAndFiresItsAlarm : Prop := ∀ (s : State) (q : MbxReq),
  let v := le q.payload 0 8
  let diff : Int := ((v * 32 : Nat) : Int) - (s.datumCycles : Int)
  (carriedOut s q ⟨0x0404, 1, true, 0, 0, false⟩ → leads (.datumGet q) s fun t =>
    answers s t q 0x0404 Ms.success false (bytesLe 8 (s.datumTime + b2n s.dat.unset * 2 ^ 63)) ∧ keepsBut mbxParts s t) ∧
  (carriedOut s q ⟨0x0405, 1, false, 8, 8, false⟩ →
    (v < 2 ^ 42 → s.dat.unset = true ∨ 32768 ≤ diff.natAbs →
      (s.dat.armed = false → leads (.datumSet q) s fun t => t.dat.unset = false ∧ t.datumTime = v ∧ t.dat.slewing = false ∧
        t.fld F.DAT_EVENTS_STEP 0 = 1 ∧ answers s t q 0x0405 Ms.success false (bytesLe 8 s.datumWord) ∧
        keepsBut ((([.dat, .por, .svy, .reg .DAT_EVENTS] : List Part) ++ eventParts) ++ mbxParts) s t) ∧
      (s.dat.armed = true → s.dat.alarm ≤ v → s.datumTime < s.dat.alarm → s.pwr.mode = .service → s.pwr.entering = none →
        leads (.datumSet q) s fun t => t.dat.armed = false ∧ t.fld F.DAT_EVENTS_ALARM 0 = 1 ∧ t.datumTime = v ∧
          keepsBut ((([.dat, .por, .svy, .reg .DAT_EVENTS] : List Part) ++ eventParts) ++ mbxParts) s t) ∧
      (s.dat.armed = true → v < s.dat.alarm → leads (.datumSet q) s fun t => t.dat.armed = true ∧ t.dat.alarm = s.dat.alarm ∧
        t.datumTime = v ∧ keepsBut ((([.dat, .por, .svy, .reg .DAT_EVENTS] : List Part) ++ eventParts) ++ mbxParts) s t)) ∧
    (v < 2 ^ 42 → s.dat.unset = false → diff.natAbs < 32768 → leads (.datumSet q) s fun t => t.dat.slewLeft = diff ∧
      t.dat.slewing = decide (diff ≠ 0) ∧ t.datumTime = s.datumTime ∧ t.dat.unset = false ∧ t.dat.armed = s.dat.armed ∧
      answers s t q 0x0405 Ms.success false (bytesLe 8 s.datumWord) ∧ keepsBut (.dat :: mbxParts) s t) ∧
    (2 ^ 42 ≤ v → leads (.datumSet q) s fun t => answers s t q 0x0405 Ms.invalidField false [] ∧ keepsBut mbxParts s t)) ∧
  (carriedOut s q ⟨0x0406, 3, false, 8, 8, false⟩ → v < 2 ^ 42 →
    (s.dat.unset = true ∨ (v ≠ 0 ∧ v < s.datumTime) → leads (.datumAlarm q) s fun t =>
      answers s t q 0x0406 Ms.datumUnset false [] ∧ keepsBut mbxParts s t) ∧
    (s.dat.unset = false → v = 0 → leads (.datumAlarm q) s fun t => t.dat.armed = false ∧ t.datumTime = s.datumTime ∧
      answers s t q 0x0406 Ms.success false [] ∧ keepsBut (.dat :: mbxParts) s t) ∧
    (s.dat.unset = false → v ≠ 0 → s.datumTime ≤ v → leads (.datumAlarm q) s fun t => t.dat.armed = true ∧ t.dat.alarm = v ∧
      t.datumTime = s.datumTime ∧ answers s t q 0x0406 Ms.success false [] ∧ keepsBut (.dat :: mbxParts) s t)) ∧
  (s.datumTime < s.dat.alarm → exec .alarmFire s = .next s) ∧
  (s.dat.armed = true → s.dat.alarm ≤ s.datumTime →
    (s.pwr.mode = .vault → leads .alarmFire s fun t => t.dat.armed = false ∧ t.pwr.wakeOut = true ∧ keepsBut [.dat, .pwr] s t) ∧
    (s.pwr.mode = .service ∨ s.pwr.mode = .degraded → s.pwr.entering = none → leads .alarmFire s fun t => t.dat.armed = false ∧
      t.fld F.DAT_EVENTS_ALARM 0 = 1 ∧ keepsBut (([.dat, .reg .DAT_EVENTS] : List Part) ++ eventParts) s t)) ∧
  (s.slewNow ≠ s.dat.slewLeft → exec .slewEnd s = .next s) ∧
  (s.dat.slewing = true → s.slewNow = s.dat.slewLeft → leads .slewEnd s fun t => t.dat.slewing = false ∧ t.dat.slewLeft = 0 ∧
    t.dat.count = s.datumCycles ∧ t.datumTime = s.datumTime ∧ t.fld F.DAT_EVENTS_SLEW_DONE 0 = 1 ∧
    keepsBut (([.dat, .reg .DAT_EVENTS] : List Part) ++ eventParts) s t) ∧
  (leads .vbatLost s fun t => t.dat.unset = true ∧ t.dat.armed = false ∧ t.datumTime = 0 ∧ t.fld F.DAT_EVENTS_VBAT_LOST 0 = 1 ∧
    t.cip.lockFrom = s.cip.lockFrom ∧ t.cip.lockAgain = s.cip.lockFrom.isSome ∧
    keepsBut (([.cip, .dat, .reg .DAT_EVENTS] : List Part) ++ eventParts) s t)

/-- The store's service routine (R581 to R585): what R583 forbids is refused with REFUSED, else one operation runs; an erase leaves its
sector reading 0xFF and counts, at 90% of its endurance it takes a spare; a program clears bits only, a Cartouche program sets bits
only; a first mismatch is retried, a second fails and its sector reads as anything (free, log entry 5); a read suspends an erase past
its minimum run and waits otherwise; the erase goes on when no read has come for 10 us. -/
def Obligations.TheStoreRoutineErasesProgramsAndReads : Prop := ∀ (s : State) (caller a : Nat) (data : List Nat),
  let kept := fun (t : State) (o : StoreOp) => t.por.op = some o ∧ t.por.store = s.por.store ∧ t.por.otp = s.por.otp ∧
    t.por.erases = s.por.erases ∧ t.por.reads = s.por.reads ∧ keepsBut [.por] s t
  let refused := fun (t : State) => t.fld F.POR_EVENTS_REFUSED 0 = 1 ∧ keepsBut (.reg .POR_EVENTS :: eventParts) s t
  (s.storeAllowed caller a = true → s.por.op = none → leads (.eraseSector caller a) s fun t =>
    kept t ⟨1, a / 4096 * 4096, [], false, 0, false⟩) ∧
  (s.storeAllowed caller a = true → data.length ≤ 256 → s.por.op = none → leads (.programRow caller a data) s fun t =>
    kept t ⟨2, a / 256 * 256, data, false, 0, false⟩) ∧
  (s.otpAllowed a data = true → s.por.op = none → leads (.programOtp a data) s fun t => kept t ⟨3, a, data, false, 0, false⟩) ∧
  (a < 0x03000000 → s.por.sess = none → leads (.eraseSector caller a) s refused ∧ leads (.programRow caller a data) s refused) ∧
  (0x03000000 ≤ a → a < 0x03400000 → structOwner (a % 0x200000) ≠ some caller → leads (.eraseSector caller a) s refused ∧
    leads (.programRow caller a data) s refused) ∧
  ((∃ k, k < data.length ∧ s.otpMay (a + k) = false) → leads (.programOtp a data) s refused) ∧
  (∀ o, s.por.op = some o → s.storeAllowed caller a = true → exec (.eraseSector caller a) s = .next s) ∧
  (∀ o, s.por.op = some o → o.suspended = false → s.por.reads = [] →
    let sec := o.addr / 4096
    let n := tabGet (fun _ => 0) s.por.erases sec + 1
    (o.kind = 1 → ∀ b, leads (.storeOperationEnd b) s fun t => t.por.op = none ∧ (∀ x, x / 4096 = sec → t.storeByte x = 0xFF) ∧
      (∀ x, x / 4096 ≠ sec → t.storeByte x = s.storeByte x) ∧ t.por.otp = s.por.otp ∧
      (n * 10 < endurance sec * 9 → tabGet (fun _ => 0) t.por.erases sec = n ∧ t.por.spares = s.por.spares ∧ keepsBut [.por] s t) ∧
      (endurance sec * 9 ≤ n * 10 → s.por.spares ≠ 0 → t.fld F.POR_EVENTS_REMAPPED 0 = 1 ∧ t.por.spares = s.por.spares - 1 ∧
        tabGet (fun _ => 0) t.por.erases sec = 0 ∧ keepsBut (([.por, .reg .POR_EVENTS] : List Part) ++ eventParts) s t) ∧
      (endurance sec ≤ n → s.por.spares = 0 → t.fld F.POR_EVENTS_WORN 0 = 1 ∧
        keepsBut (([.por, .reg .POR_EVENTS] : List Part) ++ eventParts) s t)) ∧
    (o.kind = 2 → o.addr % 256 = 0 → o.data.length ≤ 256 → tabGet (fun _ => 0) s.por.cut sec = 0 →
      leads (.storeOperationEnd true) s fun t => t.por.op = none ∧
        (∀ k, k < o.data.length → t.storeByte (o.addr + k) = Nat.land (s.storeByte (o.addr + k)) (o.data.getD k 0)) ∧
        (∀ x, x < o.addr ∨ o.addr + o.data.length ≤ x → t.storeByte x = s.storeByte x) ∧ keepsBut [.por] s t) ∧
    (o.kind ≠ 1 → o.retried = false → leads (.storeOperationEnd false) s fun t => kept t { o with retried := true }) ∧
    (o.kind = 2 → o.retried = true → leads (.storeOperationEnd false) s fun t => t.por.op = none ∧
      t.fld F.POR_EVENTS_VERIFY_FAIL 0 = 1 ∧ (∀ x, x / 4096 = sec → t.storeByte x = (Config.cutByte x s.fresh).toNat) ∧
      (∀ x, x / 4096 ≠ sec → t.storeByte x = s.storeByte x) ∧ t.fresh = s.fresh + 1 ∧
      keepsBut (([.fresh, .por, .reg .POR_EVENTS] : List Part) ++ eventParts) s t) ∧
    (o.kind = 3 → leads (.storeOperationEnd true) s fun t => t.por.op = none ∧
      (∀ k, k < o.data.length → t.otpByte (o.addr + k) = Nat.lor (s.otpByte (o.addr + k)) (o.data.getD k 0 % 256)) ∧
      (∀ x, x < o.addr ∨ o.addr + o.data.length ≤ x → t.otpByte x = s.otpByte x) ∧ t.por.store = s.por.store ∧
      keepsBut [.por] s t)) ∧
  (s.por.op = none → leads (.storeRead a) s fun t => t.out = .answer 0x0E5 [a, s.storeByte a] :: s.out ∧ keepsBut [.out] s t) ∧
  (∀ o, s.por.op = some o → o.suspended = false →
    (o.kind = 1 → o.minEnd ≤ s.now → leads (.storeRead a) s fun t =>
      t.por.op = some { o with suspended := true, minEnd := s.now + 10 * usTicks } ∧
      t.out = .answer 0x0E5 [a, s.storeByte a] :: s.out ∧ t.por.reads = s.por.reads ∧ keepsBut [.out, .por] s t) ∧
    (o.kind ≠ 1 ∨ s.now < o.minEnd → leads (.storeRead a) s fun t => t.por.op = some o ∧ t.por.reads = s.por.reads ++ [a] ∧
      keepsBut [.por] s t) ∧
    (s.now < o.minEnd → exec .eraseMinRunExpiry s = .next s) ∧
    (o.kind = 1 → s.por.reads ≠ [] → o.minEnd ≤ s.now → leads .eraseMinRunExpiry s fun t =>
      t.por.op = some { o with suspended := true, minEnd := s.now + 10 * usTicks } ∧ t.por.reads = [] ∧
      (∀ x ∈ s.por.reads, sent s t (.answer 0x0E5 [x, s.storeByte x])) ∧ keepsBut [.out, .por] s t)) ∧
  (∀ o, s.por.op = some o → o.suspended = true →
    (s.now < o.minEnd → exec .eraseResume s = .next s) ∧
    (leads (.storeRead a) s fun t => t.por.op = some { o with minEnd := s.now + 10 * usTicks } ∧
      t.out = .answer 0x0E5 [a, s.storeByte a] :: s.out ∧ t.por.reads = s.por.reads ∧ keepsBut [.out, .por] s t) ∧
    (s.por.reads = [] → o.minEnd ≤ s.now → leads .eraseResume s fun t =>
      t.por.op = some { o with suspended := false, minEnd := s.now + 2 * msTicks } ∧ t.por.reads = [] ∧ keepsBut [.por] s t))

/-! ### Firmware update and the relay (chapter 20) -/

/-- Update sessions (R420, R589 to R591, R595, R596): one session at a time and never into the booted or scheduled slot; chunks in
order with a passing CRC, sixteen waiting and one held; END needs every chunk and leaves the slot complete or failed as its image
verifies (not computed: both outcomes stated); a failed store ends the session; a device down the chain that has not reported 10 s after END counts as failed; a relay session is
followed and reported. -/
def Obligations.UpdateSessionsStoreImages : Prop := ∀ (s : State) (q : MbxReq),
  let upd := fun (t : State) => keepsBut (.por :: mbxParts) s t
  let ends := fun (t : State) => keepsBut (([.por, .reg .UPD_EVENTS] : List Part) ++ eventParts) s t
  let acked := fun (t : State) => t.out.head? = some (.relay false 0x02 [0, t.por.upL.expected, t.creditOut])
  (carriedOut s q ⟨0x0601, 2, false, 12, 12, false⟩ →
    let slot := q.payload.getD 0 0
    let route := q.payload.getD 1 0
    let len := le q.payload 4 4
    slot < 3 → route < 4 → le q.payload 2 2 = 0 → lenOk len = true →
    (s.por.sess ≠ none → leads (.updBegin q) s fun t => answers s t q 0x0601 Ms.busy false [] ∧ keepsBut mbxParts s t) ∧
    (s.por.sess = none → s.slotActive slot = true → leads (.updBegin q) s fun t => answers s t q 0x0601 Ms.slotActive false [] ∧
      keepsBut mbxParts s t) ∧
    (s.por.sess = none → s.slotActive slot = false → leads (.updBegin q) s fun t =>
      t.por.sess = some ⟨q.path, false, slot, route, len, le q.payload 8 4, 0, [], false, none, false, none, false, 0⟩ ∧
      (route % 2 = 1 → (t.bootSlot slot).st = 1 ∧ (t.bootSlot slot).len = len ∧
        (s.por.op = none → t.por.op = some ⟨1, slotBase slot, [], false, 0, false⟩)) ∧
      (∀ k, k ≠ slot ∨ route % 2 = 0 → t.bootSlot k = s.bootSlot k) ∧ answers s t q 0x0601 Ms.success false [] ∧ upd t)) ∧
  (carriedOut s q ⟨0x0602, 2, false, 4104, 4104, false⟩ →
    let i := le q.payload 0 4
    (s.sessOf q.path = none → leads (.updChunk q) s fun t => answers s t q 0x0602 Ms.noUpdateSession false [] ∧ keepsBut mbxParts s t) ∧
    (∀ u, s.sessOf q.path = some u → i < u.len / 4096 →
      (le q.payload 4 4 ≠ crc32c (q.payload.drop 8) → leads (.updChunk q) s fun t => answers s t q 0x0602 Ms.chunkCrc false [] ∧
        keepsBut mbxParts s t) ∧
      (le q.payload 4 4 = crc32c (q.payload.drop 8) →
        (i ≠ u.next → leads (.updChunk q) s fun t => answers s t q 0x0602 Ms.chunkOrder false [] ∧ keepsBut mbxParts s t) ∧
        (i = u.next → u.queue.length < 16 → leads (.updChunk q) s fun t =>
          t.por.sess = some { u with queue := u.queue ++ [(u.next, q.payload.drop 8)], next := u.next + 1 } ∧
          answers s t q 0x0602 Ms.success false [] ∧ upd t) ∧
        (i = u.next → 16 ≤ u.queue.length → leads (.updChunk q) s fun t => t.por.sess = some { u with held := some q } ∧
          keepsBut [.por] s t)))) ∧
  (carriedOut s q ⟨0x0603, 2, false, 0, 0, true⟩ → ∀ u, s.sessOf q.path = some u →
    let h := 6 * 2 ^ 24 + s.nextHandle % 2 ^ 24
    (u.next < u.len / 4096 → leads (.updEnd q) s fun t => answers s t q 0x0603 Ms.chunkOrder false [] ∧ keepsBut mbxParts s t) ∧
    (u.len / 4096 ≤ u.next → u.queue ≠ [] → leads (.updEnd q) s fun t =>
      t.por.sess = some { u with ending := true, handle := some h } ∧ answers s t q 0x0603 Ms.success true (bytesLe 4 h) ∧
      keepsBut (([.nextHandle, .por] : List Part) ++ mbxParts) s t) ∧
    (u.len / 4096 ≤ u.next → u.queue = [] → u.route = 1 → leads (.updEnd q) s fun t => t.por.sess = none ∧
      (t.bootSlot u.slot).st = (if s.imageOk u then 2 else 3) ∧ t.fld F.UPD_EVENTS_STORE_DONE 0 = 1 ∧
      (s.imageOk u = false → t.fld F.UPD_EVENTS_STORE_FAIL 0 = 1) ∧
      (tabGet (fun _ => none) t.ops h).map OpRec.done = some true ∧ answers s t q 0x0603 Ms.success true (bytesLe 4 h) ∧
      keepsBut ((([.nextHandle, .por, .reg .UPD_EVENTS] : List Part) ++ eventParts) ++ mbxParts) s t)) ∧
  (∀ u i d rest, s.por.sess = some u → u.queue = (i, d) :: rest → u.route = 1 →
    let a := slotBase u.slot + 4096 * i
    (u.held = none → u.ending = false → s.por.op = none → d.length ≤ 4096 → leads (.chunkStored true) s fun t =>
      t.por.sess = some { u with queue := rest } ∧ (∀ k, k < d.length → t.storeByte (a + k) = d.getD k 0 % 256) ∧
      (∀ x, x / 4096 ≠ a / 4096 → t.storeByte x = s.storeByte x) ∧
      keepsBut (([.por, .reg .POR_EVENTS] : List Part) ++ eventParts) s t) ∧
    (∀ w, u.held = some w → (s.mb w.path).dropResp = false → leads (.chunkStored true) s fun t =>
      t.por.sess = some { u with queue := rest ++ [(u.next, w.payload.drop 8)], next := u.next + 1, held := none } ∧
      answers s t w 0x0602 Ms.success false [] ∧
      keepsBut ((([.por, .reg .POR_EVENTS] : List Part) ++ eventParts) ++ mbxParts) s t) ∧
    (u.held = none → u.remote = false → u.handle = none → leads (.chunkStored false) s fun t => t.por.sess = none ∧
      (t.bootSlot u.slot).st = 3 ∧ t.fld F.UPD_EVENTS_STORE_FAIL 0 = 1 ∧ ends t)) ∧
  (∀ u, s.por.sess = some u → s.now < u.endAt + 10 * sTicks → exec .updEndChainTimeout s = .next s) ∧
  (∀ u, s.por.sess = some u → u.forwarded = true → u.remote = false → u.endAt + 10 * sTicks ≤ s.now → leads .updEndChainTimeout s fun t => t.por.sess = none ∧
    t.fld F.UPD_EVENTS_STORE_DONE 0 = 1 ∧ keepsBut (([.ops, .por, .reg .MBX_EVENTS, .reg .UPD_EVENTS] : List Part) ++ eventParts) s t) ∧
  (carriedOut s q ⟨0x0606, 2, false, 0, 0, false⟩ → leads (.updStatus q) s fun t =>
    answers s t q 0x0606 Ms.success false ([s.por.booted, b2n s.por.lastBoot, 0, 0] ++ (List.range 3).flatMap (fun k =>
      bytesLe 4 (s.bootSlot k).imageId ++ bytesLe 4 (s.bootSlot k).fwVersion ++ [(s.bootSlot k).st] ++ zeros 7)) ∧
    keepsBut mbxParts s t) ∧
  (∀ seq, s.por.upL.up = true → s.por.upL.expected = seq % 256 →
    (∀ slot len imageId,
      (s.por.sess ≠ none → leads (.relayBegin seq slot len imageId) s fun t => t.por.sess = s.por.sess ∧
        t.por.upL.expected = (seq % 256 + 1) % 256 ∧ acked t ∧ keepsBut [.out, .por] s t) ∧
      (s.por.sess = none → slot < 3 → s.slotActive slot = false → lenOk len = true →
        leads (.relayBegin seq slot len imageId) s fun t =>
          t.por.sess = some ⟨0x1000, true, slot, if s.dnOn then 3 else 1, len, imageId, 0, [], false, none, false, none, false, 0⟩ ∧
          (t.bootSlot slot).st = 1 ∧ acked t ∧ keepsBut [.out, .por] s t)) ∧
    (∀ u, s.remoteSess = some u → u.held = none →
      (∀ data, u.next < u.len / 4096 → data.length = 4096 → leads (.relayChunk seq u.next (crc32c data) data) s fun t =>
        t.por.sess = some { u with queue := u.queue ++ [(u.next, data)], next := u.next + 1 } ∧ acked t ∧ keepsBut [.out, .por] s t) ∧
      (∀ index crc data, crc ≠ crc32c data → leads (.relayChunk seq index crc data) s fun t => t.por.sess = none ∧
        (u.route % 2 = 1 → (t.bootSlot u.slot).st = 3) ∧ t.fld F.UPD_EVENTS_STORE_FAIL 0 = 1 ∧ acked t ∧ ends t) ∧
      (u.next < u.len / 4096 → leads (.relayEnd seq) s fun t => t.por.sess = none ∧ t.fld F.UPD_EVENTS_STORE_FAIL 0 = 1 ∧ ends t) ∧
      (u.len / 4096 ≤ u.next → u.queue ≠ [] → leads (.relayEnd seq) s fun t => t.por.sess = some { u with ending := true } ∧
        acked t ∧ keepsBut [.out, .por] s t) ∧
      (u.len / 4096 ≤ u.next → u.queue = [] → u.route % 2 = 1 → leads (.relayEnd seq) s fun t => t.por.sess = none ∧
        (t.bootSlot u.slot).st = (if s.imageOk u then 2 else 3) ∧ acked t ∧
        t.fld (if s.imageOk u then F.UPD_EVENTS_STORE_DONE else F.UPD_EVENTS_STORE_FAIL) 0 = 1 ∧ ends t))) ∧
  (∀ seq pos result imageId slot fw, s.por.dnL.up = true → s.por.dnL.expected = seq % 256 → s.por.sess = none →
    let d := tabGet (fun _ => ChainDev.reset) s.por.chain pos
    let takes := fun (kind : Nat) (d' : ChainDev) => leads (.relayReport seq pos kind result imageId slot fw) s fun t =>
      tabGet (fun _ => ChainDev.reset) t.por.chain pos = d' ∧
      (∀ k, k ≠ pos → tabGet (fun _ => ChainDev.reset) t.por.chain k = tabGet (fun _ => ChainDev.reset) s.por.chain k) ∧
      (kind = 0 → result ≠ Ms.success → t.fld F.UPD_EVENTS_STORE_FAIL 0 = 1) ∧
      (kind = 2 → result ≠ Ms.success → t.fld F.UPD_EVENTS_SCHED_REJECTED 0 = 1) ∧ ends t
    takes 0 { d with store := if result = Ms.success then 1 else if result = Ms.busy then 3 else 2 } ∧
    takes 1 { d with slot := slot, lastBoot := decide (result ≠ 0), ver := fw } ∧
    takes 2 { d with sched := if result = Ms.success then 1 else 2 } ∧
    takes 3 { d with present := true, slot := slot, ver := fw })

/-- The relay link and scheduled activation (R592 to R602): the link runs at the lower version; acknowledged frames leave the window,
the others go again, and after sixteen replays the link is down; a beacon is followed or passed on; a schedule needs a complete slot,
a set Datum, time to drain and no other group; the drain ends once nothing is outstanding, and the restart follows; a trial that is
not confirmed fails its slot. -/
def Obligations.RelayLinksAndScheduledActivation : Prop := ∀ (s : State) (q : MbxReq) (down : Bool),
  let l := s.link down
  let ends := fun (t : State) => keepsBut (([.por, .reg .UPD_EVENTS] : List Part) ++ eventParts) s t
  (∀ version pos rtt credit, version ≠ 0 →
    (leads (.linkUp false version pos rtt credit) s fun t => t.por.upL.up = true ∧ t.por.upL.version = min 2 version ∧
      t.por.upL.hopNs = rtt / 2 ∧ t.por.upL.credit = credit ∧ t.por.position = min 63 (pos + 1) ∧ t.por.dnL = s.por.dnL ∧ ends t) ∧
    (s.dnOn = true → s.por.position < 63 → leads (.linkUp true version pos rtt credit) s fun t =>
      t.por.dnL = ⟨true, min 2 version, 0, 0, 0, [], [], credit, 0, rtt / 2, 0, none, s.now⟩ ∧ t.por.upL = s.por.upL ∧ keepsBut [.por] s t) ∧
    (s.dnOn = true → 63 ≤ s.por.position → leads (.linkUp true version pos rtt credit) s fun t => t.por = s.por ∧
      t.fld F.UPD_EVENTS_CHAIN_LONG 0 = 1 ∧ ends t)) ∧
  (l.up = false → (down = true → s.dnOn = true ∧ s.por.position < 63) → (∀ a, l.upAt = some a → a + 100 * msTicks ≤ s.now) →
    leads (.linkUpResend down) s fun t => t.link down = { l with upAt := some s.now } ∧ t.link (!down) = s.link (!down) ∧
      t.out = .relay down 0x01 ([0, l.expected, s.creditOut] ++ ([2, s.por.position] ++ s.otpBytes 24 20)) :: s.out ∧
      keepsBut [.out, .por] s t) ∧
  (∀ a, l.upAt = some a → s.now < a + 100 * msTicks → exec (.linkUpResend down) s = .next s) ∧
  (∀ rtt, s.por.upL.up = true →
    (s.por.upL.hopAt + 60 * sTicks ≤ s.now → leads (.hopRemeasure rtt) s fun t =>
      t.por = { s.por with upL := { s.por.upL with hopNs := rtt / 2, hopAt := s.now } } ∧ keepsBut [.por] s t) ∧
    (s.now < s.por.upL.hopAt + 60 * sTicks → exec (.hopRemeasure rtt) s = .next s)) ∧
  (l.up = true →
    (∀ v credit, let n := (v % 256 + 256 - l.oldest) % 256
      (n ≤ l.sent.length → l.wait = [] → leads (.relayAck down v credit) s fun t => (t.link down).sent = l.sent.drop n ∧
        (t.link down).oldest = v % 256 ∧ (t.link down).credit = credit ∧ t.link (!down) = s.link (!down) ∧
        (t.link down).replays = (if n = 0 then l.replays else 0) ∧ keepsBut [.por] s t) ∧
      (l.sent.length < n → leads (.relayAck down v credit) s fun t => t.fld F.UPD_RELAY_CNT_ACK_DROPPED 0 =
        satAdd (2 ^ (F.UPD_RELAY_CNT_ACK_DROPPED.hi + 1 - F.UPD_RELAY_CNT_ACK_DROPPED.lo) - 1)
          (s.fld F.UPD_RELAY_CNT_ACK_DROPPED 0) 1 ∧ keepsBut [.reg .UPD_RELAY_CNT] s t)) ∧
    (s.now < l.since + 2 * msTicks → exec (.relayReplayTimeout down) s = .next s) ∧
    (l.sent ≠ [] → l.since + 2 * msTicks ≤ s.now → l.replays < 16 → leads (.relayReplayTimeout down) s fun t => (t.link down).replays = l.replays + 1 ∧
      (t.link down).sent = l.sent ∧ (∀ f ∈ l.sent, sent s t (.relay down f.2.1 ([f.1, l.expected, s.creditOut] ++ f.2.2))) ∧
      keepsBut [.out, .por, .reg .UPD_RELAY_CNT] s t) ∧
    (l.sent ≠ [] → l.since + 2 * msTicks ≤ s.now → 16 ≤ l.replays → leads (.relayReplayTimeout down) s fun t => t.link down = RLink.reset ∧
      t.fld F.UPD_EVENTS_LINK_DOWN 0 = 1 ∧ ends t) ∧
    (leads (.relayLinkDown down) s fun t => t.link down = RLink.reset ∧ t.fld F.UPD_EVENTS_LINK_DOWN 0 = 1 ∧
      (down = false → t.por.position = 0 ∧ ∀ u, s.por.sess = some u → u.remote = true → t.por.sess = none ∧
        t.fld F.UPD_EVENTS_STORE_FAIL 0 = 1) ∧ ends t)) ∧
  (leads (.relayFrameCrcError down) s fun t => t.fld F.UPD_RELAY_CNT_CRC_ERRORS 0 =
    satAdd (2 ^ (F.UPD_RELAY_CNT_CRC_ERRORS.hi + 1 - F.UPD_RELAY_CNT_CRC_ERRORS.lo) - 1) (s.fld F.UPD_RELAY_CNT_CRC_ERRORS 0) 1 ∧
    keepsBut [.reg .UPD_RELAY_CNT] s t) ∧
  (s.por.dnL.up = true → 2 ≤ s.por.dnL.version →
    let beacon := fun (c : Nat) => Out.relay true 0x03 ([0, s.por.dnL.expected, s.creditOut] ++ [c])
    (s.por.upL.up = false → s.dat.unset = false → (∀ a, s.por.beaconAt = some a → a + sTicks ≤ s.now) →
      leads .beaconSend s fun t => t.out = beacon s.datumCycles :: s.out ∧ t.por = { s.por with beaconAt := some s.now } ∧
        keepsBut [.out, .por] s t) ∧
    (∀ a, s.por.beaconAt = some a → s.now < a + sTicks → exec .beaconSend s = .next s) ∧
    (∀ count, s.por.upL.up = true → 2 ≤ s.por.upL.version →
      (s.fld F.UPD_RELAY_CFG_FOLLOW 0 = 0 → leads (.beacon count) s fun t => t.out = beacon count :: s.out ∧ keepsBut [.out] s t) ∧
      (s.fld F.UPD_RELAY_CFG_FOLLOW 0 = 1 → s.dat.unset = true → s.dat.armed = false → leads (.beacon count) s fun t =>
        t.dat.unset = false ∧ t.datumCycles = (count + s.por.upL.hopNs * 32768 / 1000000000) % 2 ^ 47 ∧
        t.fld F.DAT_EVENTS_STEP 0 = 1 ∧ t.out.head? = some (beacon t.datumCycles) ∧
        keepsBut (([.dat, .por, .svy, .reg .DAT_EVENTS] : List Part) ++ eventParts) s t))) ∧
  (∀ at_ g d slot,
    (carriedOut s q ⟨0x0604, 2, false, 16, 16, false⟩ → le q.payload 0 8 = at_ → le q.payload 8 4 = g →
      d = (if le q.payload 12 2 = 0 then 50 else le q.payload 12 2) → q.payload.getD 14 0 = slot → q.payload.getD 15 0 = 0 →
      at_ < 2 ^ 42 → slot < 3 → (s.bootSlot slot).st = 2 → slot ≠ s.por.booted →
      (s.dat.unset = true ∨ at_ * 1000 < s.datumTime * 1000 + d * 1024 → leads (.updSchedule q) s fun t =>
        answers s t q 0x0604 Ms.timePast false [] ∧ keepsBut mbxParts s t) ∧
      (s.dat.unset = false → s.datumTime * 1000 + d * 1024 ≤ at_ * 1000 →
        ((∀ x, s.por.sched = some x → x.group = g) → leads (.updSchedule q) s fun t =>
          t.por.sched = some ⟨at_, (at_ * 32 : Nat) - ((d * 32768 / 1000 : Nat) : Int), g, d, slot⟩ ∧
          answers s t q 0x0604 Ms.success false [] ∧ keepsBut (.por :: mbxParts) s t) ∧
        (∀ x, s.por.sched = some x → x.group ≠ g → leads (.updSchedule q) s fun t => answers s t q 0x0604 Ms.busy false [] ∧
          keepsBut mbxParts s t))) ∧
    (carriedOut s q ⟨0x0605, 2, false, 4, 4, false⟩ → le q.payload 0 4 = g →
      (s.schedIs g = true → leads (.updCancel q) s fun t => t.por.sched = none ∧ answers s t q 0x0605 Ms.success false [] ∧
        keepsBut (.por :: mbxParts) s t) ∧
      (s.schedIs g = false → leads (.updCancel q) s fun t => answers s t q 0x0605 Ms.invalidField false [] ∧
        keepsBut mbxParts s t)) ∧
    (∀ seq imageId, s.por.upL.up = true → s.por.upL.expected = seq % 256 →
      (2 ≤ s.por.upL.version → s.romRecovery = false → s.por.draining = false → d ≠ 0 →
        ((s.bootSlot slot).imageId = imageId → s.schedCheck at_ g d slot = Ms.success →
          leads (.relaySchedule seq at_ g d slot imageId) s fun t =>
            t.por.sched = some ⟨at_, (at_ * 32 : Nat) - ((d * 32768 / 1000 : Nat) : Int), g, d, slot⟩ ∧ ends t) ∧
        ((s.bootSlot slot).imageId ≠ imageId → leads (.relaySchedule seq at_ g d slot imageId) s fun t =>
          t.por.sched = s.por.sched ∧ t.fld F.UPD_EVENTS_SCHED_REJECTED 0 = 1 ∧ ends t)) ∧
      (s.schedIs g = true → s.por.draining = false → leads (.relayCancel seq g) s fun t => t.por.sched = none ∧
        t.por.upL.expected = (seq % 256 + 1) % 256 ∧ keepsBut [.out, .por] s t)) ∧
    (∀ seq, s.por.upL.up = true → 1 ≤ (s.por.upL.expected + 256 - seq % 256) % 256 →
      ((s.por.upL.expected + 256 - seq % 256) % 256 ≤ 64 → leads (.relayCancel seq g) s fun t =>
        t.out = .relay false 0x02 [0, s.por.upL.expected, s.creditOut] :: s.out ∧ keepsBut [.out] s t) ∧
      (64 < (s.por.upL.expected + 256 - seq % 256) % 256 → leads (.relayCancel seq g) s fun t =>
        t.out = .relay false 0x02 [0, s.por.upL.expected, s.creditOut] :: s.out ∧ keepsBut [.out, .reg .UPD_RELAY_CNT] s t))) ∧
  (∀ x, s.por.sched = some x → s.hubOn = true →
    (s.por.draining = false → (s.datumCycles : Int) < x.due → exec .activationDrain s = .next s) ∧
    (s.por.draining = false → x.due ≤ (s.datumCycles : Int) → s.cmds ≠ [] → leads .activationDrain s fun t => t.por.draining = true ∧ t.plt.drain = true ∧
      t.por.drainEnd = false ∧ t.por.sched = some x ∧ t.fld F.UPD_EVENTS_DRAIN_START 0 = 1 ∧ t.cmds = s.cmds ∧
      keepsBut (([.cpls, .ctls, .flt, .lanes, .ops, .plt, .por, .srv, .reg .MBX_EVENTS, .reg .SRV_EVENTS, .reg .SRV_LAST_SIG_HI,
        .reg .SRV_LAST_SIG_LO, .reg .SRV_LAST_UNIT, .reg .UPD_EVENTS, .trv] : List Part) ++ eventParts) s t) ∧
    (s.por.draining = true → s.cmds ≠ [] ∨ s.cpls ≠ [] ∨ s.programsBooked = true → exec .activationDrain s = .next s) ∧
    (s.por.draining = true → s.cmds = [] → s.cpls = [] → s.programsBooked = false → leads .activationDrain s fun t =>
      t.por.drainEnd = true ∧ t.por.primary = x.slot ∧ t.por.previous = s.por.booted ∧ t.por.trial = true ∧ t.por.sched = none ∧
      t.atl.tail = [] ∧ keepsBut (([.atl, .par, .por, .svy, .reg .PAR_EVENTS, .reg .PAR_JRNL_WM] : List Part) ++ eventParts) s t)) ∧
  ((s.datumCycles : Int) < s.por.actDue → exec .activationRestart s = .next s) ∧
  (s.por.draining = true → s.por.drainEnd = true → s.por.op = none → s.por.actDue ≤ (s.datumCycles : Int) → leads .activationRestart s fun t => t.start.kind = 5 ∧
    t.start.running = true ∧ t.start.step = 0 ∧ t.dat = s.dat ∧ t.cmds = [] ∧ t.por.primary = s.por.primary ∧
    (∀ e ∈ t.dram, e.2.selfRef = true) ∧ (s.por.actDue < (s.datumCycles : Int) → t.fld F.UPD_EVENTS_ACTIVATION_LATE 0 = 1) ∧
    keepsBut resetParts s t) ∧
  (s.now < s.start.bootAt + 60 * sTicks → exec .trialReset s = .next s) ∧
  (s.por.trial = true → s.start.bootAt + 60 * sTicks ≤ s.now → leads .trialReset s fun t => t.por.trial = false ∧ (t.bootSlot s.por.primary).st = 3 ∧ t.start.kind = 4 ∧
    t.start.running = true ∧ t.start.step = 0 ∧ t.dat = s.dat ∧ keepsBut resetParts s t)

/-! ### Survey (chapter 21) and Contour (chapter 17) -/

/-- Survey (R607 to R619, R548): a request is refused for an unknown unit, one in hand, one without a carrier or without test conditions;
else its test joins the queue or starts, isolating a unit in service; an overdue test is queued, after 24 h it is forced; a passed
test is recorded, a failed one is SURVEY_FAIL and fences its unit, one whose conditions failed is judged not and queued again; a
passed re-qualification ends the fence. Isolation is stated for Plotter lanes and Surveyor cores. -/
def Obligations.TestsStartEndAndJudgeTheirUnits : Prop := ∀ (s : State) (q : MbxReq),
  let b := le q.payload 0 2
  let i := le q.payload 2 2
  let test := q.payload.getD 4 0
  let opts := q.payload.getD 5 0
  let h := 7 * 2 ^ 24 + s.nextHandle % 2 ^ 24
  let x : Test := ⟨b, i, test, opts, some h, false, false⟩
  let moved : List Part := (([.dram, .nextHandle, .pwr, .srv, .reg .PWR_EVENTS] : List Part) ++ recheckParts) ++ mbxParts
  let full := s.fld F.SRV_CFG_MAX_RUN 0 ≤ s.srv.running.length
  let judged : List Part := [.flt, .fns, .lanes, .ops, .plt, .srv, .reg .MBX_EVENTS, .reg .SRV_EVENTS, .reg .SRV_LAST_SIG_HI,
    .reg .SRV_LAST_SIG_LO, .reg .SRV_LAST_UNIT]
  (carriedOut s q ⟨0x0701, 2, false, 6, 6, true⟩ →
    (unitOk b i = false → ∀ c g, leads (.surveyStart q c g) s fun t => answers s t q 0x0701 Ms.unknownUnit false [] ∧
      keepsBut mbxParts s t) ∧
    (unitOk b i = true → test ∈ testsOf b → opts < 2 → s.marchOk b i test = true → s.plt.drain = false →
      (s.inHand b i = true → ∀ c g, leads (.surveyStart q c g) s fun t => answers s t q 0x0701 Ms.busy false [] ∧
        keepsBut mbxParts s t) ∧
      (s.inHand b i = false → inService b = false ∨ s.carried b i = false → ∀ c g, leads (.surveyStart q c g) s fun t =>
        answers s t q 0x0701 Ms.noSibling false [] ∧ keepsBut mbxParts s t) ∧
      (s.inHand b i = false → inService b = true → s.carried b i = true →
        (s.refOk = false → leads (.surveyStart q true true) s fun t => answers s t q 0x0701 Ms.testConditions false [] ∧
          keepsBut mbxParts s t) ∧
        (s.refOk = true → s.srv.queued = [] → s.retrainDue = false →
          (full → leads (.surveyStart q true true) s fun t => t.srv.queued = [x] ∧ t.srv.running = s.srv.running ∧
            answers s t q 0x0701 Ms.success true (bytesLe 4 h) ∧ keepsBut moved s t) ∧
          (¬ full → s.ctr.trip = false → s.fenced b i = true → b ≠ 0x0A0 → b ≠ 0x0A1 → leads (.surveyStart q true true) s fun t =>
            t.srv.queued = [] ∧ t.srv.running = s.srv.running ++ [x] ∧ t.fenced b i = true ∧
            answers s t q 0x0701 Ms.success true (bytesLe 4 h) ∧ keepsBut moved s t) ∧
          (¬ full → s.ctr.trip = false → s.fenced b i = false → b = 0x030 ∨ b = 0x050 →
            (∀ j ∈ siblings b i, (s.unit b j).isolated = false) → leads (.surveyStart q true true) s fun t =>
              t.srv.queued = [] ∧ t.srv.running = s.srv.running ++ [x] ∧ (t.unit b i).isolated = true ∧ otherUnits s t b i ∧
              answers s t q 0x0701 Ms.success true (bytesLe 4 h) ∧ keepsBut (.flt :: moved) s t))))) ∧
  (∀ n, leads (.referenceWindowEnd n) s fun t => t.srv.refLast = n ∧ t.srv.queued = s.srv.queued ∧ keepsBut [.srv] s t) ∧
  (∀ b i, unitOk b i = true → testsOf b ≠ [] → inService b = true → s.hubOn = true → s.carried b i = true → full →
    s.srv.running.any (fun t => decide (t.block = b ∧ t.inst = i)) = false →
    (s.sinceTest b i < s.fld F.SRV_CFG_PERIOD_H 0 * hourFrames → exec (.inServiceTestDue b i) s = .next s) ∧
    (s.fld F.SRV_CFG_PERIOD_H 0 * hourFrames ≤ s.sinceTest b i → s.sinceTest b i < 24 * hourFrames → s.inHand b i = false →
      leads (.inServiceTestDue b i) s fun t => t.srv.queued = s.srv.queued ++ [⟨b, i, 0, 0, none, false, false⟩] ∧
        t.srv.running = s.srv.running ∧ keepsBut [.srv] s t) ∧
    (s.fld F.SRV_CFG_PERIOD_H 0 * hourFrames ≤ s.sinceTest b i → 24 * hourFrames ≤ s.sinceTest b i →
      s.srv.queued.any (fun t => decide (t.block = b ∧ t.inst = i)) = false → leads (.inServiceTestDue b i) s fun t =>
        t.srv.queued = ⟨b, i, 0, 0, none, false, true⟩ :: s.srv.queued ∧ t.srv.forcedPending = true ∧ keepsBut [.srv] s t)) ∧
  (∀ b i y sig, s.srv.running.find? (fun t => decide (t.block = b ∧ t.inst = i)) = some y → i < unitCount b → sig < 2 ^ 64 →
    b = 0x030 ∨ b = 0x050 → s.srv.queued = [] → y.test < 3 →
    (y.requal = false →
      (leads (.testEnd b i ⟨true, sig, sig, 0, false⟩) s fun t => t.fld F.SRV_LAST_UNIT_VERDICT 0 = 1 ∧
        t.fld F.SRV_EVENTS_TEST_DONE 0 = 1 ∧ tabGet (fun _ => 0) t.srv.passed (unitKey b i) = s.plt.frame + 1 ∧
        t.fenced b i = s.fenced b i ∧ y ∉ t.srv.running ∧ (s.fenced b i = false → (t.unit b i).isolated = false) ∧
        keepsBut (judged ++ eventParts) s t) ∧
      (∀ g, sig ≠ g → s.fenced b i = false → s.tooFew b = false → leads (.testEnd b i ⟨true, sig, g, 0, false⟩) s fun t =>
        t.fenced b i = true ∧ (t.unit b i).lastCause = 0x15 ∧ t.fld F.SRV_EVENTS_TEST_FAIL 0 = 1 ∧ keepsBut faultParts s t) ∧
      (∀ g, leads (.testEnd b i ⟨false, sig, g, 0, false⟩) s fun t => t.fld F.SRV_EVENTS_ABORTED 0 = 1 ∧
        t.fld F.SRV_LAST_UNIT_VERDICT 0 = 3 ∧ { y with handle := none } ∈ t.srv.queued ++ t.srv.running ∧
        t.fenced b i = s.fenced b i ∧ keepsBut (judged ++ eventParts) s t) ∧
      (∀ n, n ≠ 0 → n ≤ 65535 → y.opts = 0 → leads (.testEnd b i ⟨true, sig, sig, n, false⟩) s fun t =>
        t.fld F.SRV_EVENTS_REPAIRED 0 = 1 ∧ t.srv.soft = min 65535 (s.srv.soft + n) ∧ keepsBut (judged ++ eventParts) s t)) ∧
    (y.requal = true → (s.unit b i).requalBad = false → leads (.testEnd b i ⟨true, sig, sig, 0, false⟩) s fun t =>
      t.fenced b i = false ∧ (t.unit b i).ind = (s.unit b i).ind ∧ (t.unit b i).partners = (s.unit b i).partners ∧
      (t.unit b i).requal = none ∧ (t.unit b i).isolated = false ∧ t.fld F.SRV_LAST_UNIT_VERDICT 0 = 1 ∧
      keepsBut (judged ++ eventParts) s t) ∧
    (y.requal = true → (s.unit b i).requalBad = true → leads (.testEnd b i ⟨true, sig, sig, 0, false⟩) s fun t =>
      t.fld F.SRV_LAST_UNIT_VERDICT 0 = 2 ∧ t.fld F.SRV_EVENTS_TEST_FAIL 0 = 1 ∧ (s.fenced b i = true → t.fenced b i = true) ∧
      (t.unit b i).requal = none))

/-- Contour (R509 to R528): a sample that is due and may be an anchor moves its region to the reading, with ANCHOR_MISS beyond its bound; the
first after DORMANT sets its region; a
diode at 125 °C or more is a DEVICE-class fault; a round's end calibrates every scale within 0.5 to 2.0, times the round and
compensates Datum; a candidate not granted in 1 s is UNQUIETABLE; a critical trip clears after 1,000 cool frames and is a DEVICE-class fault
after 60 s; nothing runs in VAULT. -/
def Obligations.SamplesRoundsAndTripsOfTheModel : Prop := ∀ (s : State) (q : MbxReq),
  (s.pwr.mode = .vault → (∀ i v, exec (.adcSampleEnd i v) s = .next s) ∧ (∀ i, exec (.onDemandSampleRequest i) s = .next s) ∧
    exec .roundEnd s = .next s) ∧
  (s.pwr.mode ≠ .vault →
    (∀ i v, s.adcSampleDue i = false → exec (.adcSampleEnd i v) s = .next s) ∧
    (∀ i v, s.adcSampleDue i = true → diodeRegion i = none → i ≠ 35 → leads (.adcSampleEnd i v) s fun t => t.sampleOf i = v ∧
      (∀ k, k ≠ i → t.sampleOf k = s.sampleOf k) ∧ (i < 64 → t.ctr.pos = (i + 1) % 64) ∧ (∀ r, t.regionOf r = s.regionOf r) ∧
      keepsBut [.ctr] s t) ∧
    (∀ v, s.adcSampleDue 35 = true → leads (.adcSampleEnd 35 v) s fun t => t.sampleOf 35 = v ∧ t.fld F.PWR_AVS_MEASURED_MV 0 = t.lowestHub % 65536 ∧
      t.fld F.PWR_AVS_SETPOINT_MV 0 = s.fld F.PWR_AVS_SETPOINT_MV 0 ∧ keepsBut [.ctr, .reg .PWR_AVS] s t) ∧
    (∀ i v r, s.adcSampleDue i = true → diodeRegion i = some r → i ≠ 35 → v < 2000 →
      (s.ctr.wakeDue.contains r = true → s.pwr.mode ≠ .dormant → leads (.adcSampleEnd i v) s fun t => (t.regionOf r).model = v ∧
        t.ctr.wakeDue.contains r = false ∧ t.ctr.tSink = s.ctr.tSink ∧ (∀ k, k ≠ r → t.regionOf k = s.regionOf k) ∧
        keepsBut [.ctr] s t) ∧
      (s.ctr.wakeDue.contains r = false → s.mayAnchor r = true → s.pwr.mode ≠ .dormant → leads (.adcSampleEnd i v) s fun t => (t.regionOf r).model = v ∧
        (t.regionOf r).anchored = true ∧ (t.regionOf r).ageAt = s.now ∧ t.ctr.tSink = s.ctr.tSink + (v - (s.regionOf r).model) ∧
        (2 * s.bound r < (v - (s.regionOf r).model).natAbs → t.fld F.CTR_EVENTS_ANCHOR_MISS 0 = 1 ∧ t.ctr.misses = s.ctr.misses + 1) ∧
        keepsBut (([.ctr, .reg .CTR_EVENTS] : List Part) ++ eventParts) s t) ∧
      ((s.ctr.wakeDue.contains r = false ∧ s.mayAnchor r = false) ∨ s.pwr.mode = .dormant → leads (.adcSampleEnd i v) s fun t => t.sampleOf i = v ∧
        (∀ k, t.regionOf k = s.regionOf k) ∧ keepsBut [.ctr] s t)) ∧
    (∀ i v r, s.adcSampleDue i = true → diodeRegion i = some r → 2000 ≤ v → s.hubOn = true → s.fenced 0x0E0 0 = false → (s.unit 0x0E0 0).isolated = false →
      leads (.adcSampleEnd i v) s fun t => t.pwr.mode = .holdup ∧ t.pwr.cause = 3 ∧ (t.unit 0x0E0 0).lastCause = 0x18 ∧
        keepsBut (([.ctr, .reg .CTR_EVENTS] : List Part) ++ faultParts) s t) ∧
    (∀ i, leads (.onDemandSampleRequest i) s fun t => (256 ≤ i → ∀ l, (s.ctr.demand = l → (∀ k ∈ l, k < 256) → t.ctr.demand = i :: l)) ∧
      (i < 256 → t.ctr.demand = s.ctr.demand ++ [i]) ∧ keepsBut [.ctr] s t)) ∧
  (s.hubOn = true → leads .roundEnd s fun t =>
    (∀ d, d < 19 → 512 ≤ t.fld F.CTR_CAL_SCALE d ∧ t.fld F.CTR_CAL_SCALE d ≤ 2048) ∧
    t.fld F.CTR_ROUND_CNT_ROUNDS 0 = (s.fld F.CTR_ROUND_CNT_ROUNDS 0 + 1) % 65536 ∧
    t.fld F.CTR_ROUND_LAST_US 0 = min 65535 ((s.now - s.ctr.roundAt) / usTicks) ∧ t.ctr.roundAt = s.now ∧ t.ctr.pos = 0 ∧
    t.dat.compT = (s.regionOf 136).model ∧
    keepsBut (([.ctr, .dat, .fch, .fresh, .reg .CTR_CAL, .reg .CTR_EVENTS, .reg .CTR_ROUND, .reg .CTR_ROUND_CNT] : List Part)
      ++ eventParts) s t) ∧
  (s.pwr.mode = .dormant → leads .roundEnd s fun t => t.dat.compT = (s.regionOf 136).model ∧ t.datumTime = s.datumTime ∧
    keepsBut (([.ctr, .dat, .reg .CTR_EVENTS] : List Part) ++ eventParts) s t) ∧
  (s.now < s.ctr.candAt + sTicks → exec .candidateUnquietable s = .next s) ∧
  (∀ c, s.ctr.cand = some c → s.ctr.candAt + sTicks ≤ s.now → leads .candidateUnquietable s fun t => t.ctr.cand = none ∧ c ∈ t.ctr.unquiet ∧
    t.fld F.CTR_EVENTS_UNQUIETABLE 0 = 1 ∧ keepsBut (([.ctr, .reg .CTR_EVENTS] : List Part) ++ eventParts) s t) ∧
  (s.ctr.trip = true →
    (1000 ≤ s.ctr.below → s.srv.queued = [] → leads .critTripClear s fun t => t.ctr.trip = false ∧ t.ctr.step = s.ctr.kMax ∧
      t.fld F.CTR_EVENTS_CRIT_CLEAR 0 = 1 ∧ t.plt.admitOpen = (s.pwr.entering.isNone && s.hubOn) ∧
      keepsBut (([.ctr, .plt, .reg .CTR_EVENTS] : List Part) ++ eventParts) s t) ∧
    (s.ctr.below < 1000 → exec .critTripClear s = .next s) ∧
    (s.now < s.ctr.tripFrom + 60 * sTicks → exec .critTripTimeout s = .next s) ∧
    (s.ctr.tripFrom + 60 * sTicks ≤ s.now → s.hubOn = true → s.fenced 0x0E0 0 = false → (s.unit 0x0E0 0).isolated = false →
      leads .critTripTimeout s fun t =>
      t.pwr.mode = .holdup ∧ t.pwr.cause = 3 ∧ keepsBut faultParts s t)) ∧
  (carriedOut s q ⟨0x0805, 3, true, 0, 0, false⟩ → leads (.thermalGet q) s fun t =>
    answers s t q 0x0805 Ms.success false ((List.range 137).flatMap (fun r =>
      bytesLe 2 (int16 (s.regionOf r).model) ++ [s.bound r, s.anchorAge r])) ∧ keepsBut mbxParts s t)

/-! ### Tiles and DRAM (chapter 14) -/

/-- Tiles (R433 to R440): a release counts down and the last frees the tile at the head of its pool, of the pool below its target during
a resize, or retires it; ADD_REF counts up to 255; RESERVE takes all or nothing; an allocation takes the head tile with its holders,
ALLOC_SPOT answers 0xFFFF on an empty pool, and a damaged free list is rebuilt from the control words first (log entry 58); an uncorrectable error marks the tile; APPLY checks the targets whole. -/
def Obligations.TilesAreReservedAllocatedAndFreed : Prop := ∀ (s : State) (n : Nat), n < 4096 →
  let x := s.tileOf n
  let others := fun (t : State) => ∀ k, k ≠ n → t.tileOf k = s.tileOf k
  let pools := fun (t : State) (p : Nat) => ∀ k, k ≠ p → t.til.pool[k]? = s.til.pool[k]?
  let wm : List Part := ([.til, .reg .TIL_POOL_WM] : List Part) ++ eventParts
  (x.ref = 0 → leads (.tileRelease n) s fun t => t.til = s.til ∧ t.fld F.TIL_EVENTS_REL_UNDERFLOW 0 = 1 ∧
    keepsBut (.reg .TIL_EVENTS :: eventParts) s t) ∧
  (2 ≤ x.ref → leads (.tileRelease n) s fun t => t.tileOf n = { x with ref := x.ref - 1 } ∧ others t ∧ t.til.pool = s.til.pool ∧
    keepsBut [.til] s t) ∧
  (∀ y, x.ref = 1 → s.til.pool[x.pool]? = some y →
    (x.retire = false → s.til.resizing = false ∨ y.size ≤ y.target → leads (.tileRelease n) s fun t =>
      t.tileOf n = ⟨.free, false, x.pool, 0⟩ ∧ others t ∧
      t.til.pool[x.pool]? = some { y with inUse := y.inUse - 1, free := n :: y.free } ∧ pools t x.pool ∧ keepsBut wm s t) ∧
    (∀ k, x.retire = false → s.til.resizing = true → y.target < y.size → s.poolBelow = some k → leads (.tileRelease n) s fun t =>
      t.tileOf n = ⟨.free, false, k, 0⟩ ∧ others t ∧
      (t.til.pool[x.pool]?.map TPool.size) = some (y.size - 1) ∧ (t.til.pool[k]?.map TPool.size) = (s.til.pool[k]?.map (fun z => z.size + 1)) ∧
      keepsBut (([.reg .TIL_CTRL, .reg .TIL_EVENTS] : List Part) ++ wm) s t) ∧
    (x.retire = true → leads (.tileRelease n) s fun t => (t.tileOf n).st = .retired ∧ others t ∧ t.til.retired = s.til.retired + 1 ∧
      (t.til.pool[x.pool]?.map TPool.size) = some (y.size - 1) ∧ t.fld F.TIL_EVENTS_SRAM_UE 0 = 1 ∧ pools t x.pool ∧
      keepsBut (([.reg .TIL_CTRL, .reg .TIL_EVENTS, .reg .TIL_POOL_TGT] : List Part) ++ wm) s t)) ∧
  (255 ≤ x.ref → leads (.addRef n) s fun t => t.til = s.til ∧ t.fld F.TIL_EVENTS_REF_OVERFLOW 0 = 1 ∧
    keepsBut (.reg .TIL_EVENTS :: eventParts) s t) ∧
  (x.ref < 255 → leads (.addRef n) s fun t => t.tileOf n = { x with ref := x.ref + 1 } ∧ others t ∧ t.til.pool = s.til.pool ∧
    keepsBut [.til] s t) ∧
  (∀ p y k, s.til.pool[p]? = some y →
    (y.avail < k → leads (.tileReserve p k) s fun t => t.out = .answer 0x060 [0] :: s.out ∧ keepsBut [.out] s t) ∧
    (k ≤ y.avail → leads (.tileReserve p k) s fun t => t.til.pool[p]? = some { y with reserved := y.reserved + k } ∧ pools t p ∧
      sent s t (.answer 0x060 [1]) ∧ t.til.tile = s.til.tile ∧ keepsBut wm s t) ∧
    (leads (.tileUnreserve p k) s fun t => t.til.pool[p]? = some { y with reserved := y.reserved - k } ∧ pools t p ∧
      t.til.tile = s.til.tile ∧ keepsBut wm s t) ∧
    (∀ rest, y.free = n :: rest → x.st = .free → 1 ≤ k → k ≤ 255 →
      (y.reserved ≠ 0 → leads (.allocReserved p ⟨k, false⟩) s fun t => t.tileOf n = ⟨.allocated, false, p, k⟩ ∧ others t ∧
        t.til.pool[p]? = some { y with free := rest, reserved := y.reserved - 1, inUse := y.inUse + 1 } ∧ pools t p ∧
        sent s t (.answer 0x060 [n]) ∧ keepsBut wm s t) ∧
      (y.avail ≠ 0 → leads (.allocSpot p ⟨k, false⟩) s fun t => t.tileOf n = ⟨.allocated, false, p, k⟩ ∧ others t ∧
        t.til.pool[p]? = some { y with free := rest, reserved := y.reserved, inUse := y.inUse + 1 } ∧ pools t p ∧
        sent s t (.answer 0x060 [n]) ∧ keepsBut wm s t)) ∧
    (∀ m old l rest, y.free = old :: l → y.avail ≠ 0 → 1 ≤ k → k ≤ 255 → s.fenced 0x060 0 = false → (s.unit 0x060 0).isolated = false →
      (List.range 4096).filter (fun i => decide ((s.tileOf i).st = .free ∧ (s.tileOf i).pool = p)) = m :: rest →
      leads (.allocSpot p ⟨k, true⟩) s fun t => t.tileOf m = ⟨.allocated, false, p, k⟩ ∧ (∀ i, i ≠ m → t.tileOf i = s.tileOf i) ∧
        t.til.pool[p]? = some { y with free := rest, inUse := y.inUse + 1 } ∧ t.fld F.TIL_EVENTS_LIST_REBUILT 0 = 1 ∧
        (t.unit 0x060 0).corr = min 255 ((s.unit 0x060 0).corr + 1) ∧ sent s t (.answer 0x060 [m]) ∧
        keepsBut (([.flt, .reg .TIL_EVENTS] : List Part) ++ wm) s t) ∧
    (∀ d, y.avail = 0 → 1 ≤ k → k ≤ 255 → leads (.allocSpot p ⟨k, d⟩) s fun t => t.out = .answer 0x060 [0xFFFF] :: s.out ∧
      keepsBut [.out] s t)) ∧
  (x.st = .allocated → s.fenced 0x060 0 = false → (s.unit 0x060 0).isolated = false → leads (.tileSramUe n false) s fun t =>
    t.tileOf n = { x with retire := true } ∧ others t ∧ t.fld F.TIL_ECC_UE 0 = min 65535 (s.fld F.TIL_ECC_UE 0 + 1) ∧
    sent s t (.answer 0x060 [0xFFFE, n]) ∧ (t.unit 0x060 0).lastCause = 0x02 ∧
    keepsBut (([.flt, .til, .reg .TIL_ECC] : List Part) ++ recordParts) s t) ∧
  (let tgt := fun (p : Nat) => s.fld F.TIL_POOL_TGT_TARGET p
   let ok := (∀ p, p < 8 → 8 ≤ tgt p ∧ ∃ y, s.til.pool[p]? = some y ∧ y.inUse + y.reserved ≤ tgt p) ∧
     (List.range 8).foldl (fun m p => m + tgt p) 0 = 4096 - s.til.retired
   (¬ ok → leads .tileApply s fun t => t.til = s.til ∧ t.fld F.TIL_EVENTS_CFG_ERR 0 = 1 ∧
     keepsBut (.reg .TIL_EVENTS :: eventParts) s t) ∧
   (ok → leads .tileApply s fun t => (∀ p, p < 8 → (t.til.pool[p]?).map TPool.target = some (tgt p)) ∧
     ((∀ p, p < 8 → (s.til.pool[p]?).map TPool.size = some (tgt p)) → t.til.resizing = false ∧
       t.fld F.TIL_CTRL_APPLY 0 = 0 ∧ t.fld F.TIL_EVENTS_RESIZE_DONE 0 = 1) ∧
     keepsBut (([.reg .TIL_CTRL, .reg .TIL_EVENTS] : List Part) ++ wm) s t))

/-- DRAM channels (R443 to R453): a request joins the queue but never reaches a fenced region; a slot serves a refresh at level 3, then calibration
that is due where no request stands at level 3, then the more urgent of the refresh and the requests; a read waits for its data; a corrected read is counted; an uncorrectable error is
recorded with its address, a second in its region within 24 h fences the region. -/
def Obligations.DramServesByUrgencyAndFencesRegions : Prop := ∀ (s : State) (ch : Nat), ch < 12 → s.fenced 0x070 ch = false →
  let x := s.dramCh ch
  let others := fun (t : State) => ∀ c, c ≠ ch → t.dramCh c = s.dramCh c
  x.fenced = false →
  (∀ r : DramReq, r.port < 12 →
    (r.addr / 2 ^ 26 ∈ x.regions → leads (.dramRequest ch r) s fun t => t.out = .answer 0x070 [r.port, r.id, 0] :: s.out ∧
      keepsBut [.out] s t) ∧
    (r.addr / 2 ^ 26 ∉ x.regions → leads (.dramRequest ch r) s fun t =>
      t.dramCh ch = { x with queue := x.queue ++ [⟨r.id, r.port, s.now, r.bank, r.row, r.addr, r.wr⟩] } ∧ others t ∧
      keepsBut [.dram] s t)) ∧
  (x.selfRef = false →
    (x.maint ≠ [] → (∀ r ∈ x.queue, s.reqLevel ch r < 3) → s.refLevel ch ≠ some 3 → leads (.dramIssueSlot ch) s fun t =>
      t.dramCh ch = { x with maint := x.maint.tail } ∧ others t ∧ keepsBut [.dram] s t) ∧
    (∀ r, x.maint = [] → x.queue = [r] →
      (x.refDue = [] ∨ (∃ l, s.refLevel ch = some l ∧ l < s.reqLevel ch r) → leads (.dramIssueSlot ch) s fun t =>
        (t.dramCh ch).queue = [] ∧ tabGet (fun _ => 0) (t.dramCh ch).rows r.bank = r.row + 1 ∧
        (t.dramCh ch).waiting = (if r.wr then x.waiting else x.waiting ++ [r]) ∧ (t.dramCh ch).refDue = x.refDue ∧ others t ∧
        keepsBut [.dram, .reg .DRC_PORT_STATUS] s t) ∧
      (∀ l, s.refLevel ch = some l → (s.reqLevel ch r < l ∨ l = 3) → leads (.dramIssueSlot ch) s fun t => (t.dramCh ch).queue = [r] ∧
        (t.dramCh ch).refDue = x.refDue.tail ∧ others t ∧
        keepsBut (([.dram, .reg .DRC_CH_EVENTS, .reg .DRC_PORT_STATUS] : List Part) ++ eventParts) s t)) ∧
    (x.maint = [] → x.queue = [] → x.refDue ≠ [] → leads (.dramIssueSlot ch) s fun t => (t.dramCh ch).refDue = x.refDue.tail ∧
      (s.refLevel ch = some 3 → t.fld F.DRC_CH_EVENTS_REF_FORCED ch = 1) ∧ others t ∧
      keepsBut (([.dram, .reg .DRC_CH_EVENTS, .reg .DRC_PORT_STATUS] : List Part) ++ eventParts) s t)) ∧
  (∀ rank hot, leads (.dramRefreshDue ch rank hot) s fun t => (t.dramCh ch).refDue = x.refDue ++ [(rank, s.now)] ∧
    (t.dramCh ch).highTemp = hot ∧ others t ∧ keepsBut [.dram] s t) ∧
  (∀ k, k = 1 ∨ k = 2 → leads (.dramMaintenanceDue ch k) s fun t => t.dramCh ch = { x with maint := x.maint ++ [(k, s.now)] } ∧ others t ∧
    keepsBut [.dram] s t) ∧
  (∀ id r, x.waiting.find? (fun r => decide (r.id = id)) = some r →
    (leads (.dramReadReturn ch id false) s fun t => (∀ y ∈ (t.dramCh ch).waiting, y.id ≠ id) ∧ (t.dramCh ch).queue = x.queue ∧
      t.out = .answer 0x070 [r.port, id, 1] :: s.out ∧ others t ∧ keepsBut [.dram, .out] s t) ∧
    ((s.unit 0x070 ch).isolated = false → leads (.dramReadReturn ch id true) s fun t => (∀ y ∈ (t.dramCh ch).waiting, y.id ≠ id) ∧
      t.fld F.DRC_CH_ECC_CE ch = min 65535 (s.fld F.DRC_CH_ECC_CE ch + 1) ∧
      (t.unit 0x070 ch).corr = min 255 ((s.unit 0x070 ch).corr + 1) ∧ sent s t (.answer 0x070 [r.port, id, 1]) ∧
      keepsBut (([.dram, .flt, .reg .DRC_CH_ECC] : List Part) ++ recordParts) s t)) ∧
  (∀ port addr, port < 12 → addr < 2 ^ 36 → (s.unit 0x070 ch).isolated = false →
    let seen := ∃ e ∈ x.ues, e.1 = addr / 2 ^ 26 ∧ s.plt.frame < e.2 + 86400000
    (¬ seen → leads (.dramUe ch port addr .tail false) s fun t => t.fld F.DRC_UE_ADDR_PORT ch = port ∧
      t.fld F.DRC_UE_ADDR_ADDR ch = addr / 256 ∧ t.fld F.DRC_CH_ECC_UE ch = min 65535 (s.fld F.DRC_CH_ECC_UE ch + 1) ∧
      t.fld F.DRC_CH_EVENTS_UE ch = 1 ∧ (addr / 2 ^ 26, s.plt.frame) ∈ (t.dramCh ch).ues ∧ (t.dramCh ch).regions = x.regions ∧
      (t.unit 0x070 ch).cont = min 255 ((s.unit 0x070 ch).cont + 1) ∧ sent s t (.answer 0x070 [port, addr, 0]) ∧ others t ∧
      keepsBut (([.dram, .flt, .reg .DRC_CH_ECC, .reg .DRC_CH_EVENTS, .reg .DRC_UE_ADDR] : List Part) ++ eventParts) s t) ∧
    (seen → addr / 2 ^ 26 ∉ x.regions → x.regions.length < 8 → leads (.dramUe ch port addr .tail false) s fun t =>
      addr / 2 ^ 26 ∈ (t.dramCh ch).regions ∧ t.fld F.DRC_CH_EVENTS_REGION_FENCED ch = 1 ∧ t.fenced 0x070 ch = false ∧
      keepsBut (([.reg .DRC_CH_ECC, .reg .DRC_UE_ADDR] : List Part) ++ faultParts) s t))

/-! ### Registers (chapters 0, 11 and 23), the management port (chapter 19), start-up (chapter 24) -/

/-- R9: an aligned dword write at an offset of the Device Control Space that names no register and no fault word leaves the whole state as
it is, so it records no fault; a read of it answers zero and changes nothing else. -/
def Obligations.AnUnnamedOffsetReadsZeroAndIgnoresWrites : Prop := ∀ (s : State) (p : Path) (o : Nat) (v : BitVec 32),
  regAt o = none → fltWordAt o = none →
    (o % 4 = 0 → exec (.registerWrite (.dcs p o) 4 v) s = .next s) ∧
    (leads (.rcFieldRead (.dcs p o)) s fun t => t.out = .readBack (pathNum p) 0 :: s.out ∧ keepsBut [.out] s t)

/-- Registers: a write acts by its fields' access codes (R6); out of range it leaves the register, or the field where the spec says so, and
sets the block's CFG_ERR (R108, R152, R168, R254, R283, R344); a register reads its current value and an RC field read returns to its
reset value (R6, R661), a block that is off reads zero and ignores writes (R655); a narrow write sets ACCESS_ERR of its function;
the board record is committed only while field access is open and whole, a copy that is not valid being repaired first (R584, R586); DAT_TIME_LO latches DAT_TIME_HI (R567). -/
def Obligations.RegisterAccessesFollowTheirFields : Prop := ∀ (s : State) (p : Path) (v : BitVec 32),
  let refused := fun (t : State) (r e : Reg) => keepsBut (.reg e :: eventParts) s t ∧ ∀ i, t.rg r i = s.rg r i
  (∀ o r i, regAt o = some (r, i) → s.blockServed (o / 0x10000) = true →
    (r ∈ [Reg.PWR_EVENTS, Reg.CTR_EVENTS, Reg.DAT_EVENTS, Reg.SRV_EVENTS, Reg.POR_EVENTS, Reg.UPD_EVENTS, Reg.PLT_EVENTS, Reg.PAR_EVENTS] →
      leads (.registerWrite (.dcs p o) 4 v) s fun t =>
        (∀ f ∈ r.fields, bits (t.rg r i) f.hi f.lo = if bits v f.hi f.lo = 1 then 0 else bits (s.rg r i) f.hi f.lo) ∧
        (∀ k, k ≠ i → t.rg r k = s.rg r k) ∧ keepsBut [.reg r] s t) ∧
    ((∀ f ∈ r.fields, f.acc = .ro) → leads (.registerWrite (.dcs p o) 4 v) s fun t => keepsBut [] s t) ∧
    (let j := s.pathElem (pathNum p) r i
     s.rcServed r i = true → r ≠ .DAT_TIME_LO → leads (.rcFieldRead (.dcs p o)) s fun t =>
      t.out = .readBack (pathNum p) (s.readWord (pathNum p) r j).toNat :: s.out ∧
      (∀ f ∈ r.fields, bits (t.rg r j) f.hi f.lo =
        if f.acc = .rc then bits (r.resetWord j) f.hi f.lo else bits (s.rg r j) f.hi f.lo) ∧
      (∀ k, k ≠ j → t.rg r k = s.rg r k) ∧ keepsBut [.out, .reg r] s t)) ∧
  (∀ o, s.blockServed (o / 0x10000) = false → exec (.registerWrite (.dcs p o) 4 v) s = .next s ∧
    leads (.rcFieldRead (.dcs p o)) s fun t => t.out = .readBack (pathNum p) 0 :: s.out ∧ keepsBut [.out] s t) ∧
  (∀ via n, n ≠ 4 ∨ viaOffset via % 4 ≠ 0 →
    (viaFn via = none → exec (.registerWrite via n v) s = .next s) ∧
    (∀ f, viaFn via = some f → s.windowServed f = true → leads (.registerWrite via n v) s fun t =>
      t.fld F.HST_FN_EVENTS_ACCESS_ERR f = 1 ∧ keepsBut (([.fns, .out, .reg .HST_FN_EVENTS] : List Part)) s t)) ∧
  (∀ j, j < 8 →
    ((∃ k, k < 8 ∧ s.fenced 0x040 (bits v (4 * k + 3) (4 * k)) = true) → leads (.atlSteerWrite j v) s fun t =>
      refused t .ATL_STEER .ATL_EVENTS ∧ t.fld F.ATL_EVENTS_CFG_ERR 0 = 1) ∧
    ((∀ k, k < 8 → s.fenced 0x040 (bits v (4 * k + 3) (4 * k)) = false) → leads (.atlSteerWrite j v) s fun t =>
      t.rg .ATL_STEER j = v ∧ (∀ k, k ≠ j → t.rg .ATL_STEER k = s.rg .ATL_STEER k) ∧ keepsBut [.reg .ATL_STEER] s t)) ∧
  (let w := Reg.after .PLT_RESERVE (s.rg .PLT_RESERVE 0) v
   let hk := bits w F.PLT_RESERVE_HK_PERMILLE.hi F.PLT_RESERVE_HK_PERMILLE.lo
   let th := bits w F.PLT_RESERVE_THERMAL_PERMILLE.hi F.PLT_RESERVE_THERMAL_PERMILLE.lo
   ((∃ g, g < 128 ∧ 500 < hk + th + s.fld F.PLT_RECON_RECON_PERMILLE g) → leads (.pltReserveWrite v) s fun t =>
     refused t .PLT_RESERVE .PLT_EVENTS ∧ t.fld F.PLT_EVENTS_CFG_ERR 0 = 1) ∧
   ((∀ g, g < 128 → hk + th + s.fld F.PLT_RECON_RECON_PERMILLE g ≤ 500) → Reg.inRange .PLT_RESERVE v = true →
     leads (.pltReserveWrite v) s fun t => t.fld F.PLT_RESERVE_HK_PERMILLE 0 = hk ∧ t.fld F.PLT_RESERVE_THERMAL_PERMILLE 0 = th ∧
       keepsBut [.reg .PLT_RESERVE] s t) ∧
   ((∀ g, g < 128 → hk + th + s.fld F.PLT_RECON_RECON_PERMILLE g ≤ 500) → Reg.inRange .PLT_RESERVE v = false →
     leads (.pltReserveWrite v) s fun t => t.rg .PLT_RESERVE 0 = w ∧ t.fld F.PLT_EVENTS_CFG_ERR 0 = 1 ∧
       keepsBut (([.reg .PLT_EVENTS, .reg .PLT_RESERVE] : List Part) ++ eventParts) s t)) ∧
  (Reg.inRange .PLT_LAGS v = true → leads (.pltLagsWrite v) s fun t => t.fld F.PLT_LAGS_DEBT_LAG 0 = bits v 15 8 ∧
    t.fld F.PLT_LAGS_PROG_LAG 0 = bits v 7 0 ∧ keepsBut (.reg .PLT_LAGS :: recheckParts) s t) ∧
  (Reg.inRange .PLT_LAGS v = false → leads (.pltLagsWrite v) s fun t =>
    t.fld F.PLT_LAGS_DEBT_LAG 0 = (if 4 ≤ bits v 15 8 ∧ bits v 15 8 ≤ 63 then bits v 15 8 else s.fld F.PLT_LAGS_DEBT_LAG 0) ∧
    t.fld F.PLT_LAGS_PROG_LAG 0 = (if 2 ≤ bits v 7 0 ∧ bits v 7 0 ≤ 60 then bits v 7 0 else s.fld F.PLT_LAGS_PROG_LAG 0) ∧
    t.fld F.PLT_EVENTS_CFG_ERR 0 = 1 ∧ keepsBut (.reg .PLT_LAGS :: recheckParts) s t) ∧
  (∀ w, w < 3 →
    let after := Reg.after .SVY_FREE_WM (s.rg .SVY_FREE_WM w) v
    let lv := fun (k : Nat) => if k = w then bits after 7 0 else s.fld F.SVY_FREE_WM_LEVEL k
    (¬ (lv 2 < lv 1 ∧ lv 1 < lv 0) → leads (.svyFreeWmWrite w v) s fun t => refused t .SVY_FREE_WM .SVY_MEDIA_EVENTS ∧
      t.fld F.SVY_MEDIA_EVENTS_CFG_ERR 0 = 1) ∧
    (lv 2 < lv 1 → lv 1 < lv 0 → 2 ≤ bits v 7 0 → leads (.svyFreeWmWrite w v) s fun t =>
      t.fld F.SVY_FREE_WM_LEVEL w = bits v 7 0 ∧ (∀ k, k ≠ w → t.rg .SVY_FREE_WM k = s.rg .SVY_FREE_WM k) ∧
      keepsBut [.reg .SVY_FREE_WM] s t) ∧
    (lv 2 < lv 1 → lv 1 < lv 0 → bits v 7 0 < 2 → leads (.svyFreeWmWrite w v) s fun t => t.rg .SVY_FREE_WM w = after ∧
      t.fld F.SVY_FREE_WM_LEVEL w = s.fld F.SVY_FREE_WM_LEVEL w ∧ (∀ k, k ≠ w → t.rg .SVY_FREE_WM k = s.rg .SVY_FREE_WM k) ∧
      t.fld F.SVY_MEDIA_EVENTS_CFG_ERR 0 = 1 ∧
      keepsBut (([.reg .SVY_FREE_WM, .reg .SVY_MEDIA_EVENTS] : List Part) ++ eventParts) s t)) ∧
  (∀ c, c < 128 →
    (bits v 3 0 = 0 ∨ 0xB < bits v 3 0 → leads (.fchCfgWrite c v) s fun t => refused t .FCH_CFG .FCH_EVENTS ∧
      t.fld F.FCH_EVENTS_CFG_ERR c = 1) ∧
    (1 ≤ bits v 3 0 → bits v 3 0 ≤ 0xB → leads (.fchCfgWrite c v) s fun t => t.fld F.FCH_CFG_RATE_CAP c = bits v 3 0 ∧
      (∀ k, k ≠ c → t.rg .FCH_CFG k = s.rg .FCH_CFG k) ∧ keepsBut [.reg .FCH_CFG] s t)) ∧
  (Reg.inRange .TRV_POLL v = false → leads (.trvPollWrite v) s fun t => refused t .TRV_POLL .FCH_EVENTS ∧
    ∀ c, c < 128 → t.fld F.FCH_EVENTS_CFG_ERR c = 1) ∧
  (Reg.inRange .TRV_POLL v = true → leads (.trvPollWrite v) s fun t => bits (t.rg .TRV_POLL 0) 31 24 = bits v 31 24 ∧
    bits (t.rg .TRV_POLL 0) 23 16 = bits v 23 16 ∧ bits (t.rg .TRV_POLL 0) 11 0 = bits v 11 0 ∧ keepsBut [.reg .TRV_POLL] s t) ∧
  (∀ b, b < 16 → leads (.shbIndWrite b v) s fun t => bits (t.rg .SHB_IND b) 2 0 = bits v 2 0 ∧
    (∀ k, k ≠ b → t.rg .SHB_IND k = s.rg .SHB_IND k) ∧ keepsBut [.reg .SHB_IND] s t) ∧
  (∀ f, f < 256 →
    (bits v 10 0 < msixCount f → leads (.mbxVectorWrite f v) s fun t => t.fld F.HST_FN_CTRL_MBX_VECTOR f = bits v 10 0 ∧
      (∀ k, k ≠ f → t.rg .HST_FN_CTRL k = s.rg .HST_FN_CTRL k) ∧ keepsBut [.reg .HST_FN_CTRL] s t) ∧
    (msixCount f ≤ bits v 10 0 → leads (.mbxVectorWrite f v) s fun t => t.fld F.HST_FN_EVENTS_CFG_ERR f = 1 ∧
      keepsBut [.fns, .out, .reg .HST_FN_EVENTS] s t)) ∧
  (s.cip.open_ = false → exec (.commit p) s = .next s) ∧
  (s.cip.open_ = true → boardOk s.til.retired (s.stagedBoard (pathNum p)) = false → leads (.commit p) s fun t =>
    t.por = s.por ∧ t.fld F.POR_EVENTS_CFG_ERR 0 = 1 ∧ keepsBut (.reg .POR_EVENTS :: eventParts) s t) ∧
  (s.cip.open_ = true → boardOk s.til.retired (s.stagedBoard (pathNum p)) = true → s.por.cut = [] →
    let valid := fun (a : Nat) => (s.copySeq a 4096).isSome
    let written := fun (t : State) (a : Nat) => t.storeBytes (a + 16) 32 = s.stagedBoard (pathNum p) ∧ t.por.otp = s.por.otp
    (valid 0x03001000 = valid 0x03201000 → leads (.commit p) s fun t => (∃ a, (a = 0x03001000 ∨ a = 0x03201000) ∧ written t a ∧
      ∀ x, x / 4096 ≠ a / 4096 → t.storeByte x = s.storeByte x) ∧
      ((∀ k, k = 0x3001 ∨ k = 0x3201 → tabGet (fun _ => 0) s.por.erases k + 1 < 90000) → keepsBut [.por] s t) ∧
      keepsBut (([.por, .reg .POR_EVENTS] : List Part) ++ eventParts) s t) ∧
    (valid 0x03001000 ≠ valid 0x03201000 → leads (.commit p) s fun t => written t 0x03201000 ∧
      (∀ x, x / 4096 ≠ 0x03001 → x / 4096 ≠ 0x03201 → t.storeByte x = s.storeByte x) ∧ t.fld F.POR_EVENTS_REPAIRED 0 = 1 ∧
      keepsBut (([.por, .reg .POR_EVENTS] : List Part) ++ eventParts) s t)) ∧
  (s.pwr.mode ≠ .vault → leads (.datTimeLoRead p) s fun t => t.out = .readBack (pathNum p) (s.datumTime % 2 ^ 32) :: s.out ∧
    bits t.dat.hiLatch 9 0 = s.datumTime / 2 ^ 32 % 2 ^ 10 ∧ bits t.dat.hiLatch 14 10 = s.datumCycles % 32 ∧
    bits t.dat.hiLatch 31 31 = b2n s.dat.unset ∧ t.datumTime = s.datumTime ∧ keepsBut [.dat, .out] s t)

/-- The management port (R560 to R564): MCTP control requests are answered; a change of endpoint ID ends the sessions of that endpoint;
SPDM runs in order, at most four sessions, each ended by END_SESSION, a failed FINISH or 120 s without a heartbeat; the transport key
goes only to a mutually authenticated owner, and the owner key is written once. What a cryptographic answer holds, and the Status
Flags of the basic read, are not computed (log entry 5). -/
def Obligations.ManagementRequestsAreAnswered : Prop := ∀ (s : State) (ep : Nat), s.mgmtOn = true → ep < 3 →
  let tells := fun (t : State) (b : List Nat) => t.out = .mctp ep b :: s.out
  let keeps := fun (t : State) => keepsBut [.mgmt, .out] s t
  (∀ eid, 1 ≤ eid → eid ≤ 254 → leads (.setEndpointId ep eid) s fun t => t.eid ep = eid ∧
    (∀ k, k ≠ ep → t.eid k = s.eid k) ∧ (s.eid ep ≠ eid → ∀ x ∈ t.mgmt.sessions, x.ep ≠ ep) ∧ sent s t (.mctp ep [1, 0, 0, eid, 0]) ∧
    keepsBut (([.mbx, .por, .reg .MBX_EVENTS] : List Part) ++ eventParts) s t) ∧
  (∀ eid, eid = 0 ∨ 255 ≤ eid → leads (.setEndpointId ep eid) s fun t => tells t [1, 2] ∧ keepsBut [.out] s t) ∧
  (leads (.getEndpointId ep) s fun t => tells t [2, 0, s.eid ep, 0, 0] ∧ keepsBut [.out] s t) ∧
  (leads (.getEndpointUuid ep) s fun t => tells t ([3, 0] ++ Config.uuid) ∧ keepsBut [.out] s t) ∧
  (∀ ty, (ty = 0 ∨ ty = 5 ∨ ty = 0x7E ∨ ty = 0xFF → leads (.getMctpVersionSupport ep ty) s fun t =>
      tells t ([4, 0] ++ Config.mctpVersions ty) ∧ keepsBut [.out] s t) ∧
    (ty ≠ 0 → ty ≠ 5 → ty ≠ 0x7E → ty ≠ 0xFF → leads (.getMctpVersionSupport ep ty) s fun t => tells t [4, 0x80] ∧
      keepsBut [.out] s t)) ∧
  (leads (.getMessageTypeSupport ep) s fun t => tells t [5, 0, 3, 0x00, 0x05, 0x7E] ∧ keepsBut [.out] s t) ∧
  (∀ ty c, (ty = 0 → c = 0 ∨ 5 < c → leads (.mctpUnsupportedMessage ep ty c) s fun t => tells t [c, 5] ∧ keepsBut [.out] s t) ∧
    (ty ≠ 0 → ty ≠ 5 → ty ≠ 0x7E → leads (.mctpUnsupportedMessage ep ty c) s fun t =>
      t.fld F.CHR_MGMT_ERR_ERRORS 0 = satAdd (2 ^ (F.CHR_MGMT_ERR_ERRORS.hi + 1 - F.CHR_MGMT_ERR_ERRORS.lo) - 1)
        (s.fld F.CHR_MGMT_ERR_ERRORS 0) 1 ∧ keepsBut [.reg .CHR_MGMT_ERR] s t)) ∧
  (s.mgmt.i3c = false → leads .nvmeMiBasicManagement s fun t => t.out = .mctp 0 [6, Config.free s.fresh % 256,
      255 - s.criticalWarning (s.ctl 0), ctemp s.compositeK, s.percentUsed, 0, 0] :: s.out ∧ keepsBut [.fresh, .out] s t) ∧
  (s.mgmt.i3c = false → s.alertLow = true → leads .alertResponseAddressRead s fun t => t.alertLow = false ∧
    t.out = .mctp 0 [2 * s.mgmt.addr] :: s.out ∧ keeps t) ∧
  (leads (.getVersion ep) s fun t => t.conn ep = ⟨1, false⟩ ∧ tells t (0x04 :: Config.spdmAnswer 0x04 []) ∧ keeps t) ∧
  (1 ≤ (s.conn ep).stage → leads (.getCapabilities ep) s fun t => (t.conn ep).stage = max 2 (s.conn ep).stage ∧
    tells t (0x61 :: Config.spdmAnswer 0x61 []) ∧ keeps t) ∧
  (2 ≤ (s.conn ep).stage → leads (.negotiateAlgorithms ep) s fun t => (t.conn ep).stage = 3 ∧
    tells t (0x63 :: Config.spdmAnswer 0x63 []) ∧ keeps t) ∧
  (3 ≤ (s.conn ep).stage →
    (leads (.getDigests ep) s fun t => tells t (0x01 :: Config.spdmAnswer 0x01 s.certChain) ∧ keepsBut [.out] s t) ∧
    (∀ off len, off < s.certChain.length → leads (.getCertificate ep 0 off len) s fun t =>
      let part := (s.certChain.drop off).take len
      tells t (0x02 :: ([0, 0] ++ bytesLe 2 part.length ++ bytesLe 2 (s.certChain.length - off - part.length) ++ part)) ∧
      keepsBut [.out] s t) ∧
    (∀ slot off len, slot ≠ 0 → leads (.getCertificate ep slot off len) s fun t => tells t [0x7F, 1] ∧ keepsBut [.out] s t) ∧
    (∀ nonce, leads (.challenge ep 0 nonce) s fun t => (t.conn ep).challenged = true ∧
      tells t (0x03 :: Config.spdmAnswer 0x03 (nonce :: s.certChain)) ∧ keeps t) ∧
    (∀ nonce signed, leads (.getMeasurements ep 0 nonce signed) s fun t => tells t [0x60, 5] ∧ keepsBut [.out] s t) ∧
    (∀ i nonce signed, 1 ≤ i → i ≤ 5 → leads (.getMeasurements ep i nonce signed) s fun t =>
      tells t (0x60 :: Config.spdmAnswer 0x60 (i :: b2n signed :: nonce :: s.measured i)) ∧ keepsBut [.out] s t) ∧
    (∀ r, s.mgmt.sessions.length < 4 → leads (.keyExchange ep r) s fun t =>
      t.mgmt.sessions = s.mgmt.sessions ++ [⟨r % 65536 + 65536 * s.mgmt.nextSession, ep, false, false, s.now, 0⟩] ∧ keeps t) ∧
    (∀ r, 4 ≤ s.mgmt.sessions.length → leads (.keyExchange ep r) s fun t => tells t [0x7F, 0x0A] ∧ keepsBut [.out] s t)) ∧
  ((s.conn ep).stage < 3 → ∀ r, leads (.keyExchange ep r) s fun t => tells t [0x7F, 4] ∧ keepsBut [.out] s t) ∧
  (∀ id x, s.session id = some x → x.ep = ep →
    (x.established = false →
      (∀ m, leads (.finish id true m) s fun t => (t.session id).map SpdmSession.established = some true ∧
        (t.session id).map SpdmSession.mutAuth = some m ∧ tells t [0x65] ∧ keeps t) ∧
      (∀ m, leads (.finish id false m) s fun t => t.session id = none ∧ tells t [0x7F, 6] ∧ keeps t) ∧
      (leads (.heartbeat id) s fun t => tells t [0x7F, 4] ∧ keepsBut [.out] s t)) ∧
    (x.established = true →
      (leads (.heartbeat id) s fun t => (t.session id).map SpdmSession.lastBeat = some s.now ∧ tells t [0x68] ∧ keeps t) ∧
      (leads (.keyUpdate id) s fun t => (t.session id).map SpdmSession.keyGen = some (x.keyGen + 1) ∧ tells t [0x69] ∧ keeps t) ∧
      (leads (.endSession id) s fun t => t.session id = none ∧ tells t [0x6C] ∧ keeps t) ∧
      (x.mutAuth = true → s.otpByte 321 % 2 = 1 → leads (.getTransportKey id) s fun t =>
        t.out.head? = some (.mctp ep (0x7E :: Config.transportKey)) ∧ keepsBut recordParts s t) ∧
      (x.mutAuth = false → leads (.getTransportKey id) s fun t => t.out.head? = some (.mctp ep [0x7F, 0xFF, 2]) ∧
        keepsBut recordParts s t) ∧
      (∀ key pw, s.otpByte 321 % 2 = 1 → leads (.provisionOwner id key pw) s fun t => t.por = s.por ∧
        t.out.head? = some (.mctp ep [0x7F, 0xFF, 1]) ∧ keepsBut recordParts s t) ∧
      (∀ key, s.otpByte 321 % 2 = 0 → key.length = 97 →
        (∀ k, k < 97 → s.otpByte (224 + k) = 0) → (∀ b ∈ key, b < 256) →
        leads (.provisionOwner id key []) s fun t => (∀ k, k < 97 → t.otpByte (224 + k) = key.getD k 0) ∧
          t.otpByte 321 = s.otpByte 321 + 1 ∧ (∀ a, a < 224 ∨ 321 < a → t.otpByte a = s.otpByte a) ∧
          t.out.head? = some (.mctp ep [0x7E]) ∧ keepsBut (.por :: recordParts) s t))) ∧
  (∀ id x, s.session id = some x →
    (s.now < x.lastBeat + 120 * sTicks → exec (.sessionHeartbeatTimeout id) s = .next s) ∧
    (x.lastBeat + 120 * sTicks ≤ s.now → leads (.sessionHeartbeatTimeout id) s fun t => t.session id = none ∧
      (∀ x ∈ s.mgmt.sessions, x.id ≠ id → x ∈ t.mgmt.sessions) ∧ keepsBut [.mgmt] s t))

/-- Resets and start-up (R481, R601 to R604, R663 to R668): a power-on and a system reset begin a start-up with no command left, Datum and
the dump records kept; only the system reset keeps the envelope; the device leaves reset with SYS_RST_N high, the rails good for 10 ms and
TESTMODE low, and a TESTMODE seen high holds it there; with no valid Cartouche row or no slot complete the device stands in
ROM recovery, which reports DORMANT; the last steps set MAP_READY, the replay's end and a new staging epoch; admission opens once the
start-up has ended and the envelope is programmed; the test port answers IDCODE and BYPASS alone while field access is closed. -/
def Obligations.ResetsAndStartUp : Prop := ∀ (s : State) (env : StartEnv),
  let begun := fun (t : State) (k : Nat) => t.start.kind = k ∧ t.start.running = true ∧ t.start.step = 0 ∧ t.cmds = [] ∧ t.cpls = [] ∧
    t.sqs = [] ∧ t.cqs = [] ∧ t.ops = [] ∧ t.dat = s.dat ∧ t.pwr.dumps = s.pwr.dumps ∧ t.cip.failures = s.cip.failures ∧
    t.cip.open_ = false ∧ t.por.store = s.por.store ∧ t.por.otp = s.por.otp ∧ t.atl.mapReady = false ∧ keepsBut resetParts s t
  let started : List Part := ([.ctr, .start, .reg .DRC_CFG, .reg .HST_FN_INFO, .reg .POR_CFG_DATA, .reg .POR_EVENTS, .reg .SHB_EVENTS,
    .reg .SVY_MEDIA_EVENTS, .reg .SVY_UPKEEP_CFG, .reg .TIL_CTRL, .reg .TIL_EVENTS, .reg .TIL_POOL_TGT, .reg .UPD_EVENTS, .reg .UPD_RELAY_CFG] : List Part) ++ faultParts
  (leads .powerOn s fun t => begun t 1 ∧ t.start.envelope = false ∧ t.rg .PLT_ENVELOPE 0 = Reg.resetWord .PLT_ENVELOPE 0 ∧
    t.por.position = 0) ∧
  (s.pwr.mode ≠ .vault → leads .systemReset s fun t => begun t 2 ∧ t.start.envelope = s.start.envelope ∧
    t.rg .PLT_ENVELOPE 0 = s.rg .PLT_ENVELOPE 0 ∧ (∀ k, k < 16 → t.rg .PLT_SHEET_PWR k = s.rg .PLT_SHEET_PWR k) ∧
    t.por.position = 0) ∧
  (s.pwr.mode = .vault → exec .systemReset s = .next s) ∧
  (s.pwr.mode = .vault ∨ s.pwr.mode = .stopped → exec (.startUp env) s = .next s) ∧
  (s.start.running = true → s.start.step = 0 → s.pwr.mode ≠ .vault → s.pwr.mode ≠ .stopped → s.romRecovery = false →
    env.rstHigh = false ∨ env.testMode = true ∨ s.start.testHeld = true ∨ s.now < s.start.railsAt → leads (.startUp env) s fun t =>
      t.start = { s.start with testHeld := s.start.testHeld || (env.rstHigh && env.testMode) } ∧ keepsBut [.start] s t) ∧
  (s.start.running = true → s.start.step = 0 → s.pwr.mode ≠ .vault → s.pwr.mode ≠ .stopped →
    env.rstHigh = true → env.testMode = false → s.start.testHeld = false → s.start.railsAt ≤ s.now →
    env.cartouche = false ∨ (s.por.sched = none ∧ ∀ n, n < 3 → (s.bootSlot n).st ≠ 2) → leads (.startUp env) s fun t =>
      t.por.booted = 3 ∧ t.pwr.mode = .dormant ∧ t.start.running = false ∧ t.cip.lockAgain = false ∧ keepsBut started s t) ∧
  (s.start.running = true → s.start.step = 8 → s.pwr.mode = .service ∨ s.pwr.mode = .degraded → s.baysSettled = true →
    s.pwr.tested = false → leads (.startUp env) s fun t => t.atl.mapReady = true ∧ t.par.replayDone = true ∧ t.start.step = 12 ∧
      t.pwr.stageEpoch = s.pwr.stageEpoch + 1 ∧ keepsBut started s t) ∧
  (s.start.running = true → s.start.step = 12 → s.pwr.tested = true → s.pwr.test.phase = .idle → s.pwr.mode = .service →
    s.fencedUnits = false → s.por.trial = false → leads (.startUp env) s fun t => t.start.running = false ∧ t.pwr.mode = .service ∧
      t.start.step = 12 ∧ t.start.susp = [] ∧ keepsBut (.start :: recordParts) s t) ∧
  (s.start.running = false → s.start.step = 12 → s.hubOn = true → s.atl.mapReady = true →
    (s.programsBooked = false → s.start.envelope = true → leads .admissionOpen s fun t => t.plt.admitOpen = true ∧ t.start.step = 13 ∧
      keepsBut [.plt, .start] s t) ∧
    (s.programsBooked = true ∨ s.start.envelope = false → exec .admissionOpen s = .next s)) ∧
  (leads (.jtagAccess .idcode) s fun t => t.out = .answer 0x0E0 [0] :: s.out ∧ keepsBut [.out] s t) ∧
  (leads (.jtagAccess .bypass) s fun t => t.out = .answer 0x0E0 [1] :: s.out ∧ keepsBut [.out] s t) ∧
  (∀ n, (s.cip.open_ = false → exec (.jtagAccess (.other n)) s = .next s) ∧
    (s.cip.open_ = true → leads (.jtagAccess (.other n)) s fun t => t.out = .answer 0x0E0 [n + 2] :: s.out ∧ keepsBut [.out] s t))

/-! ### The block as a whole -/

/-- A step takes the command at the front of the queue and is exec of it with the queue's rest; on an empty queue one clock tick passes and
nothing else changes (the model's choice, log entry 2). No word spells a command: the table gives no row bits. -/
def Obligations.AStepRunsTheCommandInFront : Prop :=
  (∀ (c : Instr) (l : List Instr) (s : State), step { s with pending := c :: l } = exec c { s with pending := l }) ∧
  (∀ s : State, s.pending = [] → step s = .next { s with now := s.now + 1 }) ∧
  (∀ (nbits w : Nat) (s : State), decodeTableWord nbits w = none ∧ s.withFetchWord nbits w = s)

/-- Every command of the table completes in every state: no ordinary data and no mode ends a run, and no command changes the queue or the
model's clock. -/
def Obligations.EveryCommandRunsAndLeavesTheQueue : Prop := ∀ (c : Instr) (s : State),
  leads c s fun t => t.pending = s.pending ∧ t.now = s.now

/-- Every step keeps the canonical form of the register store, of the direct windows and of the inbound mailboxes: keys strictly rising, no
entry equal to what an unlisted key reads as; so equal contents are equal states, and a register or a byte has one value. -/
def Obligations.EveryStepKeepsTheCanonicalForm : Prop := ∀ (s t : State), s.wf = true → step s = .next t → t.wf = true

/-- After reset the stores are canonical and list nothing, no command waits or is outstanding, no unit is fenced and admission is closed;
the registers hold the reset values of their field tables, of which some are named here: HK 30 and THERMAL 100 thousandths, PROG_LAG 6,
DEBT_LAG 32, RATE_CAP 0xB, UNMAPPED map, classes 0 and 1 enabled. -/
def Obligations.ResetLeavesTheStatedValues : Prop :=
  State.reset.wf = true ∧ State.reset.pending = [] ∧ State.reset.cmds = [] ∧ State.reset.cpls = [] ∧
  (∀ (r : Reg) (i : Nat), State.reset.rg r i = r.resetWord i) ∧
  (∀ b i, State.reset.fenced b i = false ∧ (State.reset.unit b i).mask = 1) ∧ State.reset.plt.admitOpen = false ∧
  State.reset.atl.mapReady = false ∧ State.reset.fld F.PLT_RESERVE_HK_PERMILLE 0 = 30 ∧
  State.reset.fld F.PLT_RESERVE_THERMAL_PERMILLE 0 = 100 ∧ State.reset.fld F.PLT_LAGS_PROG_LAG 0 = 6 ∧
  State.reset.fld F.PLT_LAGS_DEBT_LAG 0 = 32 ∧ (∀ c, c < 128 → State.reset.fld F.FCH_CFG_RATE_CAP c = 11) ∧
  (∀ key, State.reset.lookup key = Ent.reset) ∧ (∀ c, (State.reset.cls c).enable = decide (c < 2)) ∧
  (State.reset.cls 0).dlRead = 250 ∧ (State.reset.cls 1).dlRead = 2000
end

