-- ==== Sys2Proof/Laws/Tables.lean ====
section
/-! SUPPORT. The laws of the sparse tables: a read after a write, at the same key and at another, and the canonical form,
which every write keeps. -/

namespace Sys2Proof

variable {α : Type}

theorem tabFind_put_self (m : Tab α) (k : Nat) (v : α) : tabFind (tabPut m k v) k = some v := by
  induction m with
  | nil => simp [tabPut, tabFind]
  | cons e rest ih =>
    obtain ⟨j, u⟩ := e
    rcases Nat.lt_trichotomy k j with h | h | h
    · simp [tabPut, h, tabFind]
    · subst h; simp [tabPut, tabFind]
    · simp [tabPut, Nat.not_lt.2 h.le, h.ne', tabFind, ih]

theorem tabFind_put_ne (m : Tab α) {k j : Nat} (v : α) (h : j ≠ k) : tabFind (tabPut m k v) j = tabFind m j := by
  induction m with
  | nil => simp [tabPut, tabFind, h]
  | cons e rest ih =>
    obtain ⟨i, u⟩ := e
    rcases Nat.lt_trichotomy k i with hk | hk | hk
    · simp [tabPut, hk, tabFind, h]
    · subst hk; simp [tabPut, tabFind, h]
    · simp [tabPut, Nat.not_lt.2 hk.le, hk.ne', tabFind, ih]

theorem tabFind_erase_self (m : Tab α) (k : Nat) : tabFind (tabErase m k) k = none := by
  induction m with
  | nil => simp [tabErase, tabFind]
  | cons e rest ih =>
    obtain ⟨j, u⟩ := e
    by_cases h : k = j
    · simp [tabErase, ← h, ih]
    · simp [tabErase, h, tabFind, ih]

theorem tabFind_erase_ne (m : Tab α) {k j : Nat} (h : j ≠ k) : tabFind (tabErase m k) j = tabFind m j := by
  induction m with
  | nil => simp [tabErase]
  | cons e rest ih =>
    obtain ⟨i, u⟩ := e
    by_cases hk : k = i
    · subst hk; simp [tabErase, tabFind, h, ih]
    · simp [tabErase, hk, tabFind, ih]

theorem tabSortedFrom_mono {lo lo' : Nat} (m : Tab α) (h : lo' ≤ lo) (hm : tabSortedFrom lo m = true) :
    tabSortedFrom lo' m = true := by
  cases m with
  | nil => rfl
  | cons e rest =>
    simp only [tabSortedFrom, Bool.and_eq_true, decide_eq_true_eq] at *
    exact ⟨h.trans hm.1, hm.2⟩

theorem tabSortedFrom_erase {lo : Nat} (m : Tab α) (k : Nat) (hm : tabSortedFrom lo m = true) :
    tabSortedFrom lo (tabErase m k) = true := by
  induction m generalizing lo with
  | nil => rfl
  | cons e rest ih =>
    simp only [tabSortedFrom, Bool.and_eq_true, decide_eq_true_eq] at hm
    by_cases h : k = e.1
    · simpa [tabErase, h] using tabSortedFrom_mono _ (by omega) (h ▸ ih hm.2)
    · simpa [tabErase, h, tabSortedFrom, hm.1] using ih hm.2

theorem tabSortedFrom_put {lo : Nat} (m : Tab α) (k : Nat) (v : α) (hk : lo ≤ k) (hm : tabSortedFrom lo m = true) :
    tabSortedFrom lo (tabPut m k v) = true := by
  induction m generalizing lo with
  | nil => simpa [tabPut, tabSortedFrom] using hk
  | cons e rest ih =>
    obtain ⟨j, u⟩ := e
    simp only [tabSortedFrom, Bool.and_eq_true, decide_eq_true_eq] at hm
    rcases Nat.lt_trichotomy k j with h | h | h
    · simp [tabPut, h, tabSortedFrom, hm.2, hk]
    · subst h; simp [tabPut, tabSortedFrom, hm]
    · simpa [tabPut, Nat.not_lt.2 h.le, h.ne', tabSortedFrom, hm.1] using ih (by omega) hm.2

theorem mem_tabErase (m : Tab α) (k : Nat) {e : Nat × α} (h : e ∈ tabErase m k) : e ∈ m := by
  induction m with
  | nil => exact h
  | cons f rest ih =>
    obtain ⟨j, u⟩ := f
    unfold tabErase at h
    split at h
    · exact List.mem_cons_of_mem _ (ih h)
    · rcases List.mem_cons.1 h with h | h
      · exact h ▸ List.mem_cons_self
      · exact List.mem_cons_of_mem _ (ih h)

theorem mem_tabPut (m : Tab α) (k : Nat) (v : α) {e : Nat × α} (h : e ∈ tabPut m k v) : e = (k, v) ∨ e ∈ m := by
  induction m with
  | nil => simpa [tabPut] using h
  | cons f rest ih =>
    obtain ⟨j, u⟩ := f
    unfold tabPut at h
    split at h
    · simpa using h
    · split at h
      · rcases List.mem_cons.1 h with h | h
        · exact .inl h
        · exact .inr (List.mem_cons_of_mem _ h)
      · rcases List.mem_cons.1 h with h | h
        · exact .inr (h ▸ List.mem_cons_self)
        · exact (ih h).imp_right (List.mem_cons_of_mem _)

variable [DecidableEq α] (d : Nat → α)

/-- A read after a write of the same entry gives what was written. -/
@[simp] theorem tabGet_set_self (m : Tab α) (k : Nat) (v : α) : tabGet d (tabSet d m k v) k = v := by
  unfold tabGet tabSet
  split
  · next h => simp [tabFind_erase_self, h]
  · simp [tabFind_put_self]

/-- A write leaves every other entry alone. -/
@[simp] theorem tabGet_set_ne (m : Tab α) {k j : Nat} (v : α) (h : j ≠ k) :
    tabGet d (tabSet d m k v) j = tabGet d m j := by
  unfold tabGet tabSet
  split
  · rw [tabFind_erase_ne m h]
  · rw [tabFind_put_ne m v h]

/-- A write keeps the canonical form. -/
theorem tabWf_set (m : Tab α) (k : Nat) (v : α) (hm : tabWf d m = true) : tabWf d (tabSet d m k v) = true := by
  simp only [tabWf, Bool.and_eq_true, List.all_eq_true, decide_eq_true_eq] at *
  unfold tabSet
  split
  · exact ⟨tabSortedFrom_erase m k hm.1, fun e he => hm.2 e (mem_tabErase m k he)⟩
  · next h =>
    refine ⟨tabSortedFrom_put m k v (Nat.zero_le k) hm.1, fun e he => ?_⟩
    rcases mem_tabPut m k v he with rfl | he
    · exact h
    · exact hm.2 e he

omit [DecidableEq α] in
theorem tabSortedFrom_filter {lo : Nat} (m : Tab α) (p : Nat × α → Bool) (hm : tabSortedFrom lo m = true) :
    tabSortedFrom lo (m.filter p) = true := by
  induction m generalizing lo with
  | nil => rfl
  | cons e rest ih =>
    simp only [tabSortedFrom, Bool.and_eq_true, decide_eq_true_eq] at hm
    by_cases hp : p e = true
    · simp only [List.filter_cons, hp, if_true, tabSortedFrom, Bool.and_eq_true, decide_eq_true_eq]
      exact ⟨hm.1, ih hm.2⟩
    · simp only [List.filter_cons, hp]
      exact tabSortedFrom_mono _ (by omega) (ih hm.2)

theorem tabWf_filter (m : Tab α) (p : Nat × α → Bool) (hm : tabWf d m = true) :
    tabWf d (m.filter p) = true := by
  simp only [tabWf, Bool.and_eq_true, List.all_eq_true] at *
  exact ⟨tabSortedFrom_filter m p hm.1, fun e he => hm.2 e (List.mem_filter.1 he).1⟩

end Sys2Proof
end

