-- ==== Sys2Proof/Laws/Parts.lean ====
section
/-! SUPPORT. The laws of the parts of a state: what a record update leaves alone, and what the operations on registers,
events and records leave alone. -/

set_option linter.unusedVariables false

namespace Sys2Proof.Machine

variable {p : Part} {s t : State}

theorem Reg.num_lt (r : Reg) : r.num < 256 := by cases r <;> decide

theorem Reg.num_inj {q r : Reg} (h : q.num = r.num) : q = r := by
  have key : ∀ r : Reg, Reg.all[r.num]? = some r := by intro r; cases r <;> rfl
  have := key q
  rw [h, key r] at this
  exact (Option.some.inj this).symm

theorem Reg.key_ne {q r : Reg} (i j : Nat) (h : q ≠ r) : q.key i ≠ r.key j := by
  intro e
  have hq := q.num_lt
  have hr := r.num_lt
  unfold Reg.key at e
  exact h (Reg.num_inj (by omega))

theorem Reg.key_inj {r : Reg} {i j : Nat} (h : r.key i = r.key j) : i = j := by
  unfold Reg.key at h; omega

@[simp] theorem State.rg_setReg_self (r : Reg) (i : Nat) (w : W32) : (t.setReg r i w).rg r i = w := by
  simp [State.rg, State.setReg]

theorem State.rg_setReg_ne {q r : Reg} {i j : Nat} (w : W32) (h : q ≠ r ∨ i ≠ j) :
    (t.setReg r j w).rg q i = t.rg q i := by
  have : q.key i ≠ r.key j := by
    intro e
    rcases h with h | h
    · exact Reg.key_ne i j h e
    · by_cases hq : q = r
      · subst hq; exact h (Reg.key_inj e)
      · exact Reg.key_ne i j hq e
  simp [State.rg, State.setReg, this]

/-- A number for each part. -/
def Part.code : Part → Nat
  | .reg r => 64 + r.num
  | .pending => 0
  | .now => 1
  | .fresh => 2
  | .out => 3
  | .flt => 4
  | .links => 5
  | .pin => 6
  | .gaz => 7
  | .dat => 8
  | .mgmt => 9
  | .pwr => 10
  | .ports => 11
  | .fns => 12
  | .ctls => 13
  | .sqs => 14
  | .cqs => 15
  | .cmds => 16
  | .cpls => 17
  | .classes => 18
  | .buckets => 19
  | .window => 20
  | .inbox => 21
  | .mbx => 22
  | .ops => 23
  | .nextHandle => 24
  | .stats => 25
  | .media => 26
  | .plt => 27
  | .atl => 28
  | .svy => 29
  | .par => 30
  | .fch => 31
  | .trv => 32
  | .lanes => 33
  | .bays => 34
  | .til => 35
  | .dram => 36
  | .cip => 37
  | .ctr => 38
  | .por => 39
  | .srv => 40
  | .start => 41

theorem Part.code_inj {p q : Part} (h : p.code = q.code) : p = q := by
  cases p with
  | reg r =>
    cases q with
    | reg r' => exact congrArg Part.reg (Reg.num_inj (Nat.add_left_cancel h))
    | _ => simp only [Part.code] at h; omega
  | _ =>
    cases q with
    | reg r' => simp only [Part.code] at h; omega
    | _ => first | rfl | exact absurd h (by decide)

/-- A list of parts as a set of bits. -/
def partMask (l : List Part) : Nat := l.foldr (fun p n => 2 ^ p.code ||| n) 0

theorem testBit_partMask (l : List Part) (p : Part) : (partMask l).testBit p.code = true ↔ p ∈ l := by
  induction l with
  | nil => simp [partMask]
  | cons q l ih =>
    have : partMask (q :: l) = 2 ^ q.code ||| partMask l := rfl
    rw [this, Nat.testBit_or, Bool.or_eq_true, ih, Nat.testBit_two_pow, decide_eq_true_eq, List.mem_cons]
    exact or_congr ⟨fun h => (Part.code_inj h).symm, fun h => h ▸ rfl⟩ Iff.rfl

/-- A list within a list that lies within a third lies within the third. -/
theorem sub_of {l m k : List Part} (h : m ⊆ l) (sub : partMask k ||| partMask m = partMask m) : k ⊆ l := by
  intro q hq
  refine h ((testBit_partMask m q).1 ?_)
  rw [← sub, Nat.testBit_or, (testBit_partMask k q).2 hq, Bool.true_or]

theorem Part.same_refl : p.same s s := by cases p <;> first | rfl | exact fun _ => rfl

theorem Part.same_trans {u : State} (h : p.same s t) (k : p.same t u) : p.same s u := by
  cases p <;> first | exact k.trans h | exact fun i => (k i).trans (h i)

theorem Reg.mem_all (r : Reg) : r ∈ Reg.all := by
  have : Reg.all[r.num]? = some r := by cases r <;> rfl
  exact List.mem_of_getElem? this

/-- Every register. -/
def allRegs : List Part := Reg.all.map .reg

theorem mem_allRegs (r : Reg) : Part.reg r ∈ allRegs := List.mem_map.2 ⟨r, Reg.mem_all r, rfl⟩

/-- The registers whose CFG_ERR bit a refused write of a register sets. -/
def cfgErrRegs (r : Reg) : List Part :=
  (cfgErrOf r 0).toList.map (fun e => .reg e.1.reg) ++ (cfgErrAll r).map (fun e => .reg e.1.reg)

/-- One update of one part: a register through `setReg`, the record of answers by one more answer, a byte table to one in its
canonical form where it was in it, any other field to any value. -/
inductive Upd : Part → State → State → Prop where
  | reg (t : State) (r : Reg) (i : Nat) (w : W32) : Upd (.reg r) t (t.setReg r i w)
  | out (t : State) (o : Out) : Upd .out t { t with out := o :: t.out }
  | window (t : State) (v : Tab Byte) (h : tabWf (fun _ => 0#8) t.window = true → tabWf (fun _ => 0#8) v = true) :
      Upd .window t { t with window := v }
  | inbox (t : State) (v : Tab Byte) (h : tabWf (fun _ => 0#8) t.inbox = true → tabWf (fun _ => 0#8) v = true) :
      Upd .inbox t { t with inbox := v }
  | pending (t : State) (v : List Instr) : Upd .pending t { t with pending := v }
  | now (t : State) (v : Nat) : Upd .now t { t with now := v }
  | fresh (t : State) (v : Nat) : Upd .fresh t { t with fresh := v }
  | flt (t : State) (v : Tab FltUnit) : Upd .flt t { t with flt := v }
  | links (t : State) (v : Tab Nat) : Upd .links t { t with links := v }
  | pin (t : State) (v : FaultPin) : Upd .pin t { t with pin := v }
  | gaz (t : State) (v : Gaz) : Upd .gaz t { t with gaz := v }
  | dat (t : State) (v : Datum) : Upd .dat t { t with dat := v }
  | mgmt (t : State) (v : Mgmt) : Upd .mgmt t { t with mgmt := v }
  | pwr (t : State) (v : Power) : Upd .pwr t { t with pwr := v }
  | ports (t : State) (v : Tab Port) : Upd .ports t { t with ports := v }
  | fns (t : State) (v : Tab Fn) : Upd .fns t { t with fns := v }
  | ctls (t : State) (v : Tab Ctl) : Upd .ctls t { t with ctls := v }
  | sqs (t : State) (v : Tab (Option Sq)) : Upd .sqs t { t with sqs := v }
  | cqs (t : State) (v : Tab (Option Cq)) : Upd .cqs t { t with cqs := v }
  | cmds (t : State) (v : List Cmd) : Upd .cmds t { t with cmds := v }
  | cpls (t : State) (v : List Cpl) : Upd .cpls t { t with cpls := v }
  | classes (t : State) (v : Tab Cls) : Upd .classes t { t with classes := v }
  | buckets (t : State) (v : Tab (Option Bucket)) : Upd .buckets t { t with buckets := v }
  | mbx (t : State) (v : Tab Mbx) : Upd .mbx t { t with mbx := v }
  | ops (t : State) (v : Tab (Option OpRec)) : Upd .ops t { t with ops := v }
  | nextHandle (t : State) (v : Nat) : Upd .nextHandle t { t with nextHandle := v }
  | stats (t : State) (v : Tab Nat) : Upd .stats t { t with stats := v }
  | media (t : State) (v : Tab Nat) : Upd .media t { t with media := v }
  | plt (t : State) (v : Plotter) : Upd .plt t { t with plt := v }
  | atl (t : State) (v : Atlas) : Upd .atl t { t with atl := v }
  | svy (t : State) (v : Svy) : Upd .svy t { t with svy := v }
  | par (t : State) (v : Par) : Upd .par t { t with par := v }
  | fch (t : State) (v : Fch) : Upd .fch t { t with fch := v }
  | trv (t : State) (v : Trv) : Upd .trv t { t with trv := v }
  | lanes (t : State) (v : Tab Lane) : Upd .lanes t { t with lanes := v }
  | bays (t : State) (v : Tab Bay) : Upd .bays t { t with bays := v }
  | til (t : State) (v : Til) : Upd .til t { t with til := v }
  | dram (t : State) (v : Tab Dram) : Upd .dram t { t with dram := v }
  | cip (t : State) (v : Cip) : Upd .cip t { t with cip := v }
  | ctr (t : State) (v : Ctr) : Upd .ctr t { t with ctr := v }
  | por (t : State) (v : Por) : Upd .por t { t with por := v }
  | srv (t : State) (v : Srv) : Upd .srv t { t with srv := v }
  | start (t : State) (v : Start) : Upd .start t { t with start := v }

/-- `Within L u t`: `u` comes of `t` by updates of the parts in `L` alone, or by clearing the registers where `L` holds them all. -/
inductive Within (L : List Part) : State → State → Prop where
  | refl (t : State) : Within L t t
  | step {u v t : State} {p : Part} : p ∈ L → Upd p u v → Within L u t → Within L v t
  | wipe {u t : State} : allRegs ⊆ L → Within L u t → Within L { u with regs := [] } t

variable {L : List Part}

theorem Within.rfl : Within L t t := .refl t

theorem Within.trans {u : State} (h : Within L u t) (k : Within L t s) : Within L u s := by
  induction h with
  | refl => exact k
  | step hp hu _ ih => exact .step hp hu (ih k)
  | wipe hp _ ih => exact .wipe hp (ih k)

theorem Within.mono {M : List Part} {u : State} (h : Within L u t) (sub : L ⊆ M) : Within M u t := by
  induction h with
  | refl => exact .refl _
  | step hp hu _ ih => exact .step (sub hp) hu ih
  | wipe hp _ ih => exact .wipe (fun q hq => sub (hp hq)) ih

theorem Upd.same {u v : State} {q : Part} (h : Upd q u v) (hp : p ≠ q) : p.same u v := by
  cases h with
  | reg t r i w =>
    cases p with
    | reg q => exact fun j => State.rg_setReg_ne w (.inl fun e => hp (e ▸ Eq.refl (Part.reg q)))
    | _ => exact Eq.refl _
  | _ =>
    cases p with
    | reg q => exact fun _ => Eq.refl _
    | _ => first | exact Eq.refl _ | exact absurd (Eq.refl _) hp

/-- What comes of a state by updates of listed parts keeps every other part. -/
theorem Within.keeps {u : State} (h : Within L u t) : keepsBut L t u := by
  intro p hp
  induction h with
  | refl => exact Part.same_refl
  | step hq hu _ ih => exact Part.same_trans ih (hu.same (by rintro rfl; exact hp hq))
  | wipe hq _ ih =>
    refine Part.same_trans ih ?_
    cases p with
    | reg r => exact absurd (hq (mem_allRegs r)) hp
    | _ => exact Eq.refl _

theorem Upd.wf {u v : State} {q : Part} (h : Upd q u v) (k : u.wf = true) : v.wf = true := by
  simp only [State.wf, Bool.and_eq_true] at k ⊢
  obtain ⟨⟨hr, hw⟩, hi⟩ := k
  cases h with
  | reg t r i w => exact ⟨⟨tabWf_set _ _ _ _ hr, hw⟩, hi⟩
  | window t v h => exact ⟨⟨hr, h hw⟩, hi⟩
  | inbox t v h => exact ⟨⟨hr, hw⟩, h hi⟩
  | _ => exact ⟨⟨hr, hw⟩, hi⟩

/-- Updates keep the canonical form of the registers, the direct windows and the inbound mailboxes. -/
theorem Within.wf {u : State} (h : Within L u t) (k : t.wf = true) : u.wf = true := by
  induction h with
  | refl => exact k
  | step _ hu _ ih => exact hu.wf (ih k)
  | wipe _ _ ih =>
    have hx := ih k
    simp only [State.wf, Bool.and_eq_true] at hx ⊢
    exact ⟨⟨Eq.refl _, hx.1.2⟩, hx.2⟩

/-- Updates only add to the record of answers. -/
theorem Within.out_suffix {u : State} (h : Within L u t) : t.out <:+ u.out := by
  induction h with
  | refl => exact List.suffix_refl _
  | step _ hu _ ih =>
    cases hu with
    | out t o => exact ih.trans (List.suffix_cons _ _)
    | _ => exact ih
  | wipe _ _ ih => exact ih

theorem Within.ite {c : Prop} [Decidable c] {a b : State} (ha : Within L a t) (hb : Within L b t) :
    Within L (if c then a else b) t := by split <;> assumption

theorem Within.foldl {α : Type} {f : State → α → State} {l : List α} (hf : ∀ u x, Within L (f u x) u) :
    Within L (l.foldl f t) t := by
  induction l generalizing t with
  | nil => exact .refl t
  | cons x l ih => exact ih.trans (hf t x)

theorem Within.foldl_fst {α β : Type} {f : State × β → α → State × β} {l : List α} {a : State × β}
    (hf : ∀ a x, Within L (f a x).1 a.1) : Within L (l.foldl f a).1 a.1 := by
  induction l generalizing a with
  | nil => exact .refl _
  | cons x l ih => exact ih.trans (hf a x)

theorem State.setReg_within {r i w} (h : [.reg r] ⊆ L) : Within L (t.setReg r i w) t :=
  .step (h (by simp)) (.reg t r i w) .rfl

theorem State.emit_within {o} (h : [.out] ⊆ L) : Within L (t.emit o) t := .step (h (by simp)) (.out t o) .rfl

theorem of_ite {α : Type} {c : Prop} [Decidable c] {a b x : α} (h : (if c then a else b) = x) : a = x ∨ b = x := by
  split at h
  · exact .inl h
  · exact .inr h

/-- The state a meaning answers with; another where it stops. -/
def Res.st (d : State) : Res → State
  | .next u => u
  | _ => d

@[simp] theorem Res.st_next (d u : State) : Res.st d (.next u) = u := Eq.refl _

end Sys2Proof.Machine
end

