-- ==== Sys2Proof/Laws/Ops.lean ====
section
/-! SUPPORT. The shared operations: for each, which parts of the state it can change. A meaning's frame follows from these
through `Within.keeps`, without unfolding the operation. -/

set_option linter.unusedVariables false

namespace Sys2Proof.Machine

variable {L : List Part} {t : State}

theorem State.setFld_within {f : Fld} {i v : Nat} (h : .reg f.reg ∈ L) : Within L (t.setFld f i v) t :=
  .step h (.reg t f.reg i _) .rfl

theorem State.bump_within {f : Fld} {i n : Nat} (h : .reg f.reg ∈ L) : Within L (t.bump f i n) t :=
  .step h (.reg t f.reg i _) .rfl

theorem State.setFn_within {f : Nat} {x : Fn} (h : .fns ∈ L) : Within L (t.setFn f x) t := .step h (.fns t _) .rfl
theorem State.setCtl_within {f : Nat} {x : Ctl} (h : .ctls ∈ L) : Within L (t.setCtl f x) t := .step h (.ctls t _) .rfl
theorem State.setPort_within {p : Nat} {x : Port} (h : .ports ∈ L) : Within L (t.setPort p x) t := .step h (.ports t _) .rfl
theorem State.setUnit_within {b i : Nat} {u : FltUnit} (h : .flt ∈ L) : Within L (t.setUnit b i u) t := .step h (.flt t _) .rfl
theorem State.setMb_within {p : Nat} {m : Mbx} (h : .mbx ∈ L) : Within L (t.setMb p m) t := .step h (.mbx t _) .rfl

/-- A vector that is signalled leaves, or waits in its function (R343). -/
theorem State.signal_within {f v : Nat} (h : .fns ∈ L) (ho : .out ∈ L) : Within L (t.signal f v) t := by
  unfold State.signal
  dsimp only
  split
  · exact .step ho (.out t _) .rfl
  · exact State.setFn_within h

theorem State.signalMbx_within {f : Nat} (h : .fns ∈ L) (ho : .out ∈ L) : Within L (t.signalMbx f) t :=
  State.signal_within h ho

theorem State.signalPfs_within (h : .fns ∈ L) (ho : .out ∈ L) : Within L t.signalPfs t :=
  (State.signalMbx_within h ho).trans (State.signalMbx_within h ho)

/-- A cause of ALERT_N (R564). -/
theorem State.alert_within {b : Nat} (h : .reg .CHR_ALERT_STATUS ∈ L) (hm : .mgmt ∈ L) (ho : .out ∈ L) :
    Within L (t.alert b) t := by
  unfold State.alert
  dsimp only
  split
  · exact .rfl
  · have step : Within L { t.setReg .CHR_ALERT_STATUS 0 (putBits (t.rg .CHR_ALERT_STATUS 0) b b 1) with
        mgmt := { t.mgmt with araHold := false } } t := .step hm (.mgmt _ _) (.step h (.reg t _ 0 _) .rfl)
    split
    · exact .step ho (.out _ _) step
    · exact step

/-- A Gazetteer record changes the Gazetteer, its counts and its alert, and nothing else (R569 to R574). -/
theorem State.record_within {b i v c d : Nat} (h : recordParts ⊆ L) : Within L (t.record b i v c d) t := by
  have hg : Part.gaz ∈ L := h (by decide)
  have hs : Part.reg .CHR_ALERT_STATUS ∈ L := h (by decide)
  have hm : Part.mgmt ∈ L := h (by decide)
  have ho : Part.out ∈ L := h (by decide)
  unfold State.record
  dsimp only
  split
  · exact .step hg (.gaz t _) .rfl
  · split
    · exact State.bump_within (h (by decide))
    · exact Within.ite ((State.alert_within hs hm ho).trans (.step hg (.gaz t _) .rfl)) (.step hg (.gaz t _) .rfl)

/-- An event bit changes its own register, and what its notices reach. -/
theorem State.event_within {f : Fld} {i sub : Nat} (h : .reg f.reg ∈ L) (he : eventParts ⊆ L) :
    Within L (t.event f i sub) t := by
  have hf : Part.fns ∈ L := he (by decide)
  have ho : Part.out ∈ L := he (by decide)
  have hr : recordParts ⊆ L := fun p hp => he (List.mem_cons_of_mem _ hp)
  unfold State.event
  dsimp only
  split
  · exact .rfl
  · have h1 : Within L (t.setFld f i 1) t := State.setFld_within h
    have h2 := Within.trans (Within.ite (c := (notice f.reg f.lo).firmware = true)
      (State.emit_within (t := t.setFld f i 1) (o := .firmware (irqOf f.reg i)) (by simpa using ho)) .rfl) h1
    refine Within.trans (Within.ite (State.signalPfs_within hf ho) (Within.ite (State.signalMbx_within hf ho) .rfl)) ?_
    exact Within.trans (Within.ite (State.record_within hr) .rfl) h2

/-- A mode change: the mode, MODE_CHANGE, and its record (R489). -/
theorem State.toMode_within {m : Mode} (hp : .pwr ∈ L) (h : .reg .PWR_EVENTS ∈ L) (he : eventParts ⊆ L) :
    Within L (t.toMode m) t := by
  unfold State.toMode
  dsimp only
  split
  · exact .rfl
  · split
    · exact (State.record_within fun p hq => he (List.mem_cons_of_mem _ hq)).trans (.step hp (.pwr t _) .rfl)
    · exact (State.event_within h he).trans (.step hp (.pwr t _) .rfl)

/-- An event of a mailbox: its bit and its vector, or ALERT_N of the management port (R426, R564); no record. -/
theorem State.mbEvent_within {p : Nat} {f : Fld} (hf : f.reg = .MBX_EVENTS) (h : mbxParts ⊆ L) :
    Within L (t.mbEvent p f) t := by
  have hs : Part.reg .CHR_ALERT_STATUS ∈ L := h (by decide)
  have hm : Part.mgmt ∈ L := h (by decide)
  have ho : Part.out ∈ L := h (by decide)
  have hn : Part.fns ∈ L := h (by decide)
  have he : Part.reg f.reg ∈ L := by rw [hf]; exact h (by decide)
  unfold State.mbEvent State.event
  refine Within.ite (Within.ite .rfl ?_) (Within.ite (State.alert_within hs hm ho) .rfl)
  rw [hf]
  exact (State.signalMbx_within hn ho).trans (State.setFld_within he)

/-- A response, or its first segment, changes the mailbox, its events and their vector, and ALERT_N (R400, R403, R564). -/
theorem State.respond_within {q : MbxReq} {op st : Nat} {a : Bool} {l : List Nat} (h : mbxParts ⊆ L) :
    Within L (t.respond q op st a l) t := by
  have hx : Part.mbx ∈ L := h (by decide)
  have hs : Part.reg .CHR_ALERT_STATUS ∈ L := h (by decide)
  have hm : Part.mgmt ∈ L := h (by decide)
  have ho : Part.out ∈ L := h (by decide)
  unfold State.respond
  dsimp only
  split
  · exact State.setMb_within hx
  · split
    · unfold State.postSegment
      dsimp only
      exact (State.mbEvent_within (Eq.refl _) h).trans
        ((State.emit_within (by simpa using ho)).trans ((State.setMb_within hx).trans (State.setMb_within hx)))
    · exact (State.alert_within hs hm ho).trans ((State.setMb_within hx).trans
        ((Within.foldl fun u b => State.emit_within (by simpa using ho)).trans (State.setMb_within hx)))

theorem State.refuse_within {q : MbxReq} {op st : Nat} (h : mbxParts ⊆ L) : Within L (t.refuse q op st) t :=
  State.respond_within h

/-- A request changes what its answer changes and what carrying it out changes, and nothing else. -/
theorem State.serve_within {q : MbxReq} {f : ReqForm} {body : State → State} (h : mbxParts ⊆ L)
    (hb : ∀ u, Within L (body u) u) : Within L (t.serve q f body) t := by
  have hx : Part.mbx ∈ L := h (by decide)
  have hp : Part.ops ∈ L := h (by decide)
  unfold State.serve
  dsimp only
  split
  · exact .rfl
  · have step := Within.ite (c := ((t.mb q.path).ended && decide (f.opcode ≠ 0x0001)) = true)
      ((State.setMb_within (t := t.dropHandles q.path) (p := q.path) (m := { t.mb q.path with ended := false }) hx).trans
        (.step hp (.ops t _) .rfl)) (Within.rfl (t := t))
    split
    · exact (State.refuse_within h).trans step
    · exact (hb _).trans step

/-- The completion of an admin command is decided: its entry, its data, its controller's error log. -/
theorem State.adminDone_within {a : AdminHdr} {st : Nat} {d : W32} {l : List Nat} (h : adminParts ⊆ L) :
    Within L (t.adminDone a st d l) t := by
  have ho : Part.out ∈ L := h (by decide)
  have hc : Part.cpls ∈ L := h (by decide)
  have hk : Part.ctls ∈ L := h (by decide)
  have step := Within.ite (c := l.isEmpty = true) (Within.rfl (t := t))
    (State.emit_within (t := t) (o := .adminData a.fn a.cid l) (by simpa using ho))
  unfold State.adminDone State.logError
  dsimp only
  split
  · exact .step hc (.cpls _ _) step
  · exact (State.setCtl_within hk).trans (.step hc (.cpls _ _) step)

end Sys2Proof.Machine
end

