-- ==== Sys2Proof/Laws/State.lean ====
section
/-! SUPPORT. What the writers of one part of the state leave alone, field by field, and what a read gives after a write:
simp lemmas, so that no later proof unfolds a record update. -/

set_option linter.unusedVariables false

namespace Sys2Proof.Machine

section
variable {s : State} {r : Reg} {i : Nat} {w : W32}
@[simp] theorem State.setReg_pending : (s.setReg r i w).pending = s.pending := rfl
@[simp] theorem State.setReg_now : (s.setReg r i w).now = s.now := rfl
@[simp] theorem State.setReg_fresh : (s.setReg r i w).fresh = s.fresh := rfl
@[simp] theorem State.setReg_out : (s.setReg r i w).out = s.out := rfl
@[simp] theorem State.setReg_flt : (s.setReg r i w).flt = s.flt := rfl
@[simp] theorem State.setReg_links : (s.setReg r i w).links = s.links := rfl
@[simp] theorem State.setReg_pin : (s.setReg r i w).pin = s.pin := rfl
@[simp] theorem State.setReg_gaz : (s.setReg r i w).gaz = s.gaz := rfl
@[simp] theorem State.setReg_dat : (s.setReg r i w).dat = s.dat := rfl
@[simp] theorem State.setReg_mgmt : (s.setReg r i w).mgmt = s.mgmt := rfl
@[simp] theorem State.setReg_pwr : (s.setReg r i w).pwr = s.pwr := rfl
@[simp] theorem State.setReg_ports : (s.setReg r i w).ports = s.ports := rfl
@[simp] theorem State.setReg_fns : (s.setReg r i w).fns = s.fns := rfl
@[simp] theorem State.setReg_ctls : (s.setReg r i w).ctls = s.ctls := rfl
@[simp] theorem State.setReg_sqs : (s.setReg r i w).sqs = s.sqs := rfl
@[simp] theorem State.setReg_cqs : (s.setReg r i w).cqs = s.cqs := rfl
@[simp] theorem State.setReg_cmds : (s.setReg r i w).cmds = s.cmds := rfl
@[simp] theorem State.setReg_cpls : (s.setReg r i w).cpls = s.cpls := rfl
@[simp] theorem State.setReg_classes : (s.setReg r i w).classes = s.classes := rfl
@[simp] theorem State.setReg_buckets : (s.setReg r i w).buckets = s.buckets := rfl
@[simp] theorem State.setReg_window : (s.setReg r i w).window = s.window := rfl
@[simp] theorem State.setReg_inbox : (s.setReg r i w).inbox = s.inbox := rfl
@[simp] theorem State.setReg_mbx : (s.setReg r i w).mbx = s.mbx := rfl
@[simp] theorem State.setReg_ops : (s.setReg r i w).ops = s.ops := rfl
@[simp] theorem State.setReg_nextHandle : (s.setReg r i w).nextHandle = s.nextHandle := rfl
@[simp] theorem State.setReg_stats : (s.setReg r i w).stats = s.stats := rfl
@[simp] theorem State.setReg_media : (s.setReg r i w).media = s.media := rfl
@[simp] theorem State.setReg_plt : (s.setReg r i w).plt = s.plt := rfl
@[simp] theorem State.setReg_atl : (s.setReg r i w).atl = s.atl := rfl
@[simp] theorem State.setReg_svy : (s.setReg r i w).svy = s.svy := rfl
@[simp] theorem State.setReg_par : (s.setReg r i w).par = s.par := rfl
@[simp] theorem State.setReg_fch : (s.setReg r i w).fch = s.fch := rfl
@[simp] theorem State.setReg_trv : (s.setReg r i w).trv = s.trv := rfl
@[simp] theorem State.setReg_lanes : (s.setReg r i w).lanes = s.lanes := rfl
@[simp] theorem State.setReg_bays : (s.setReg r i w).bays = s.bays := rfl
@[simp] theorem State.setReg_til : (s.setReg r i w).til = s.til := rfl
@[simp] theorem State.setReg_dram : (s.setReg r i w).dram = s.dram := rfl
@[simp] theorem State.setReg_cip : (s.setReg r i w).cip = s.cip := rfl
@[simp] theorem State.setReg_ctr : (s.setReg r i w).ctr = s.ctr := rfl
@[simp] theorem State.setReg_por : (s.setReg r i w).por = s.por := rfl
@[simp] theorem State.setReg_srv : (s.setReg r i w).srv = s.srv := rfl
@[simp] theorem State.setReg_start : (s.setReg r i w).start = s.start := rfl
end

section
variable {s : State} {f : Fld} {i v : Nat}
@[simp] theorem State.setFld_pending : (s.setFld f i v).pending = s.pending := rfl
@[simp] theorem State.setFld_now : (s.setFld f i v).now = s.now := rfl
@[simp] theorem State.setFld_fresh : (s.setFld f i v).fresh = s.fresh := rfl
@[simp] theorem State.setFld_out : (s.setFld f i v).out = s.out := rfl
@[simp] theorem State.setFld_flt : (s.setFld f i v).flt = s.flt := rfl
@[simp] theorem State.setFld_links : (s.setFld f i v).links = s.links := rfl
@[simp] theorem State.setFld_pin : (s.setFld f i v).pin = s.pin := rfl
@[simp] theorem State.setFld_gaz : (s.setFld f i v).gaz = s.gaz := rfl
@[simp] theorem State.setFld_dat : (s.setFld f i v).dat = s.dat := rfl
@[simp] theorem State.setFld_mgmt : (s.setFld f i v).mgmt = s.mgmt := rfl
@[simp] theorem State.setFld_pwr : (s.setFld f i v).pwr = s.pwr := rfl
@[simp] theorem State.setFld_ports : (s.setFld f i v).ports = s.ports := rfl
@[simp] theorem State.setFld_fns : (s.setFld f i v).fns = s.fns := rfl
@[simp] theorem State.setFld_ctls : (s.setFld f i v).ctls = s.ctls := rfl
@[simp] theorem State.setFld_sqs : (s.setFld f i v).sqs = s.sqs := rfl
@[simp] theorem State.setFld_cqs : (s.setFld f i v).cqs = s.cqs := rfl
@[simp] theorem State.setFld_cmds : (s.setFld f i v).cmds = s.cmds := rfl
@[simp] theorem State.setFld_cpls : (s.setFld f i v).cpls = s.cpls := rfl
@[simp] theorem State.setFld_classes : (s.setFld f i v).classes = s.classes := rfl
@[simp] theorem State.setFld_buckets : (s.setFld f i v).buckets = s.buckets := rfl
@[simp] theorem State.setFld_window : (s.setFld f i v).window = s.window := rfl
@[simp] theorem State.setFld_inbox : (s.setFld f i v).inbox = s.inbox := rfl
@[simp] theorem State.setFld_mbx : (s.setFld f i v).mbx = s.mbx := rfl
@[simp] theorem State.setFld_ops : (s.setFld f i v).ops = s.ops := rfl
@[simp] theorem State.setFld_nextHandle : (s.setFld f i v).nextHandle = s.nextHandle := rfl
@[simp] theorem State.setFld_stats : (s.setFld f i v).stats = s.stats := rfl
@[simp] theorem State.setFld_media : (s.setFld f i v).media = s.media := rfl
@[simp] theorem State.setFld_plt : (s.setFld f i v).plt = s.plt := rfl
@[simp] theorem State.setFld_atl : (s.setFld f i v).atl = s.atl := rfl
@[simp] theorem State.setFld_svy : (s.setFld f i v).svy = s.svy := rfl
@[simp] theorem State.setFld_par : (s.setFld f i v).par = s.par := rfl
@[simp] theorem State.setFld_fch : (s.setFld f i v).fch = s.fch := rfl
@[simp] theorem State.setFld_trv : (s.setFld f i v).trv = s.trv := rfl
@[simp] theorem State.setFld_lanes : (s.setFld f i v).lanes = s.lanes := rfl
@[simp] theorem State.setFld_bays : (s.setFld f i v).bays = s.bays := rfl
@[simp] theorem State.setFld_til : (s.setFld f i v).til = s.til := rfl
@[simp] theorem State.setFld_dram : (s.setFld f i v).dram = s.dram := rfl
@[simp] theorem State.setFld_cip : (s.setFld f i v).cip = s.cip := rfl
@[simp] theorem State.setFld_ctr : (s.setFld f i v).ctr = s.ctr := rfl
@[simp] theorem State.setFld_por : (s.setFld f i v).por = s.por := rfl
@[simp] theorem State.setFld_srv : (s.setFld f i v).srv = s.srv := rfl
@[simp] theorem State.setFld_start : (s.setFld f i v).start = s.start := rfl
end

section
variable {s : State} {block inst : Nat} {u : FltUnit}
@[simp] theorem State.setUnit_pending : (s.setUnit block inst u).pending = s.pending := rfl
@[simp] theorem State.setUnit_now : (s.setUnit block inst u).now = s.now := rfl
@[simp] theorem State.setUnit_fresh : (s.setUnit block inst u).fresh = s.fresh := rfl
@[simp] theorem State.setUnit_out : (s.setUnit block inst u).out = s.out := rfl
@[simp] theorem State.setUnit_regs : (s.setUnit block inst u).regs = s.regs := rfl
@[simp] theorem State.setUnit_links : (s.setUnit block inst u).links = s.links := rfl
@[simp] theorem State.setUnit_pin : (s.setUnit block inst u).pin = s.pin := rfl
@[simp] theorem State.setUnit_gaz : (s.setUnit block inst u).gaz = s.gaz := rfl
@[simp] theorem State.setUnit_dat : (s.setUnit block inst u).dat = s.dat := rfl
@[simp] theorem State.setUnit_mgmt : (s.setUnit block inst u).mgmt = s.mgmt := rfl
@[simp] theorem State.setUnit_pwr : (s.setUnit block inst u).pwr = s.pwr := rfl
@[simp] theorem State.setUnit_ports : (s.setUnit block inst u).ports = s.ports := rfl
@[simp] theorem State.setUnit_fns : (s.setUnit block inst u).fns = s.fns := rfl
@[simp] theorem State.setUnit_ctls : (s.setUnit block inst u).ctls = s.ctls := rfl
@[simp] theorem State.setUnit_sqs : (s.setUnit block inst u).sqs = s.sqs := rfl
@[simp] theorem State.setUnit_cqs : (s.setUnit block inst u).cqs = s.cqs := rfl
@[simp] theorem State.setUnit_cmds : (s.setUnit block inst u).cmds = s.cmds := rfl
@[simp] theorem State.setUnit_cpls : (s.setUnit block inst u).cpls = s.cpls := rfl
@[simp] theorem State.setUnit_classes : (s.setUnit block inst u).classes = s.classes := rfl
@[simp] theorem State.setUnit_buckets : (s.setUnit block inst u).buckets = s.buckets := rfl
@[simp] theorem State.setUnit_window : (s.setUnit block inst u).window = s.window := rfl
@[simp] theorem State.setUnit_inbox : (s.setUnit block inst u).inbox = s.inbox := rfl
@[simp] theorem State.setUnit_mbx : (s.setUnit block inst u).mbx = s.mbx := rfl
@[simp] theorem State.setUnit_ops : (s.setUnit block inst u).ops = s.ops := rfl
@[simp] theorem State.setUnit_nextHandle : (s.setUnit block inst u).nextHandle = s.nextHandle := rfl
@[simp] theorem State.setUnit_stats : (s.setUnit block inst u).stats = s.stats := rfl
@[simp] theorem State.setUnit_media : (s.setUnit block inst u).media = s.media := rfl
@[simp] theorem State.setUnit_plt : (s.setUnit block inst u).plt = s.plt := rfl
@[simp] theorem State.setUnit_atl : (s.setUnit block inst u).atl = s.atl := rfl
@[simp] theorem State.setUnit_svy : (s.setUnit block inst u).svy = s.svy := rfl
@[simp] theorem State.setUnit_par : (s.setUnit block inst u).par = s.par := rfl
@[simp] theorem State.setUnit_fch : (s.setUnit block inst u).fch = s.fch := rfl
@[simp] theorem State.setUnit_trv : (s.setUnit block inst u).trv = s.trv := rfl
@[simp] theorem State.setUnit_lanes : (s.setUnit block inst u).lanes = s.lanes := rfl
@[simp] theorem State.setUnit_bays : (s.setUnit block inst u).bays = s.bays := rfl
@[simp] theorem State.setUnit_til : (s.setUnit block inst u).til = s.til := rfl
@[simp] theorem State.setUnit_dram : (s.setUnit block inst u).dram = s.dram := rfl
@[simp] theorem State.setUnit_cip : (s.setUnit block inst u).cip = s.cip := rfl
@[simp] theorem State.setUnit_ctr : (s.setUnit block inst u).ctr = s.ctr := rfl
@[simp] theorem State.setUnit_por : (s.setUnit block inst u).por = s.por := rfl
@[simp] theorem State.setUnit_srv : (s.setUnit block inst u).srv = s.srv := rfl
@[simp] theorem State.setUnit_start : (s.setUnit block inst u).start = s.start := rfl
@[simp] theorem State.unit_setUnit : (s.setUnit block inst u).unit block inst = u := by simp [State.unit, State.setUnit]
end

section
variable {s : State} {f : Nat} {x : Fn}
@[simp] theorem State.setFn_pending : (s.setFn f x).pending = s.pending := rfl
@[simp] theorem State.setFn_now : (s.setFn f x).now = s.now := rfl
@[simp] theorem State.setFn_fresh : (s.setFn f x).fresh = s.fresh := rfl
@[simp] theorem State.setFn_out : (s.setFn f x).out = s.out := rfl
@[simp] theorem State.setFn_regs : (s.setFn f x).regs = s.regs := rfl
@[simp] theorem State.setFn_flt : (s.setFn f x).flt = s.flt := rfl
@[simp] theorem State.setFn_links : (s.setFn f x).links = s.links := rfl
@[simp] theorem State.setFn_pin : (s.setFn f x).pin = s.pin := rfl
@[simp] theorem State.setFn_gaz : (s.setFn f x).gaz = s.gaz := rfl
@[simp] theorem State.setFn_dat : (s.setFn f x).dat = s.dat := rfl
@[simp] theorem State.setFn_mgmt : (s.setFn f x).mgmt = s.mgmt := rfl
@[simp] theorem State.setFn_pwr : (s.setFn f x).pwr = s.pwr := rfl
@[simp] theorem State.setFn_ports : (s.setFn f x).ports = s.ports := rfl
@[simp] theorem State.setFn_ctls : (s.setFn f x).ctls = s.ctls := rfl
@[simp] theorem State.setFn_sqs : (s.setFn f x).sqs = s.sqs := rfl
@[simp] theorem State.setFn_cqs : (s.setFn f x).cqs = s.cqs := rfl
@[simp] theorem State.setFn_cmds : (s.setFn f x).cmds = s.cmds := rfl
@[simp] theorem State.setFn_cpls : (s.setFn f x).cpls = s.cpls := rfl
@[simp] theorem State.setFn_classes : (s.setFn f x).classes = s.classes := rfl
@[simp] theorem State.setFn_buckets : (s.setFn f x).buckets = s.buckets := rfl
@[simp] theorem State.setFn_window : (s.setFn f x).window = s.window := rfl
@[simp] theorem State.setFn_inbox : (s.setFn f x).inbox = s.inbox := rfl
@[simp] theorem State.setFn_mbx : (s.setFn f x).mbx = s.mbx := rfl
@[simp] theorem State.setFn_ops : (s.setFn f x).ops = s.ops := rfl
@[simp] theorem State.setFn_nextHandle : (s.setFn f x).nextHandle = s.nextHandle := rfl
@[simp] theorem State.setFn_stats : (s.setFn f x).stats = s.stats := rfl
@[simp] theorem State.setFn_media : (s.setFn f x).media = s.media := rfl
@[simp] theorem State.setFn_plt : (s.setFn f x).plt = s.plt := rfl
@[simp] theorem State.setFn_atl : (s.setFn f x).atl = s.atl := rfl
@[simp] theorem State.setFn_svy : (s.setFn f x).svy = s.svy := rfl
@[simp] theorem State.setFn_par : (s.setFn f x).par = s.par := rfl
@[simp] theorem State.setFn_fch : (s.setFn f x).fch = s.fch := rfl
@[simp] theorem State.setFn_trv : (s.setFn f x).trv = s.trv := rfl
@[simp] theorem State.setFn_lanes : (s.setFn f x).lanes = s.lanes := rfl
@[simp] theorem State.setFn_bays : (s.setFn f x).bays = s.bays := rfl
@[simp] theorem State.setFn_til : (s.setFn f x).til = s.til := rfl
@[simp] theorem State.setFn_dram : (s.setFn f x).dram = s.dram := rfl
@[simp] theorem State.setFn_cip : (s.setFn f x).cip = s.cip := rfl
@[simp] theorem State.setFn_ctr : (s.setFn f x).ctr = s.ctr := rfl
@[simp] theorem State.setFn_por : (s.setFn f x).por = s.por := rfl
@[simp] theorem State.setFn_srv : (s.setFn f x).srv = s.srv := rfl
@[simp] theorem State.setFn_start : (s.setFn f x).start = s.start := rfl
@[simp] theorem State.fnOf_setFn : (s.setFn f x).fnOf f = x := by simp [State.fnOf, State.setFn]
theorem State.fnOf_setFn_ne {j : Nat} (h : j ≠ f) : (s.setFn f x).fnOf j = s.fnOf j := by
  simp [State.fnOf, State.setFn, h]
end

section
variable {s : State} {f : Nat} {x : Ctl}
@[simp] theorem State.setCtl_pending : (s.setCtl f x).pending = s.pending := rfl
@[simp] theorem State.setCtl_now : (s.setCtl f x).now = s.now := rfl
@[simp] theorem State.setCtl_fresh : (s.setCtl f x).fresh = s.fresh := rfl
@[simp] theorem State.setCtl_out : (s.setCtl f x).out = s.out := rfl
@[simp] theorem State.setCtl_regs : (s.setCtl f x).regs = s.regs := rfl
@[simp] theorem State.setCtl_flt : (s.setCtl f x).flt = s.flt := rfl
@[simp] theorem State.setCtl_links : (s.setCtl f x).links = s.links := rfl
@[simp] theorem State.setCtl_pin : (s.setCtl f x).pin = s.pin := rfl
@[simp] theorem State.setCtl_gaz : (s.setCtl f x).gaz = s.gaz := rfl
@[simp] theorem State.setCtl_dat : (s.setCtl f x).dat = s.dat := rfl
@[simp] theorem State.setCtl_mgmt : (s.setCtl f x).mgmt = s.mgmt := rfl
@[simp] theorem State.setCtl_pwr : (s.setCtl f x).pwr = s.pwr := rfl
@[simp] theorem State.setCtl_ports : (s.setCtl f x).ports = s.ports := rfl
@[simp] theorem State.setCtl_fns : (s.setCtl f x).fns = s.fns := rfl
@[simp] theorem State.setCtl_sqs : (s.setCtl f x).sqs = s.sqs := rfl
@[simp] theorem State.setCtl_cqs : (s.setCtl f x).cqs = s.cqs := rfl
@[simp] theorem State.setCtl_cmds : (s.setCtl f x).cmds = s.cmds := rfl
@[simp] theorem State.setCtl_cpls : (s.setCtl f x).cpls = s.cpls := rfl
@[simp] theorem State.setCtl_classes : (s.setCtl f x).classes = s.classes := rfl
@[simp] theorem State.setCtl_buckets : (s.setCtl f x).buckets = s.buckets := rfl
@[simp] theorem State.setCtl_window : (s.setCtl f x).window = s.window := rfl
@[simp] theorem State.setCtl_inbox : (s.setCtl f x).inbox = s.inbox := rfl
@[simp] theorem State.setCtl_mbx : (s.setCtl f x).mbx = s.mbx := rfl
@[simp] theorem State.setCtl_ops : (s.setCtl f x).ops = s.ops := rfl
@[simp] theorem State.setCtl_nextHandle : (s.setCtl f x).nextHandle = s.nextHandle := rfl
@[simp] theorem State.setCtl_stats : (s.setCtl f x).stats = s.stats := rfl
@[simp] theorem State.setCtl_media : (s.setCtl f x).media = s.media := rfl
@[simp] theorem State.setCtl_plt : (s.setCtl f x).plt = s.plt := rfl
@[simp] theorem State.setCtl_atl : (s.setCtl f x).atl = s.atl := rfl
@[simp] theorem State.setCtl_svy : (s.setCtl f x).svy = s.svy := rfl
@[simp] theorem State.setCtl_par : (s.setCtl f x).par = s.par := rfl
@[simp] theorem State.setCtl_fch : (s.setCtl f x).fch = s.fch := rfl
@[simp] theorem State.setCtl_trv : (s.setCtl f x).trv = s.trv := rfl
@[simp] theorem State.setCtl_lanes : (s.setCtl f x).lanes = s.lanes := rfl
@[simp] theorem State.setCtl_bays : (s.setCtl f x).bays = s.bays := rfl
@[simp] theorem State.setCtl_til : (s.setCtl f x).til = s.til := rfl
@[simp] theorem State.setCtl_dram : (s.setCtl f x).dram = s.dram := rfl
@[simp] theorem State.setCtl_cip : (s.setCtl f x).cip = s.cip := rfl
@[simp] theorem State.setCtl_ctr : (s.setCtl f x).ctr = s.ctr := rfl
@[simp] theorem State.setCtl_por : (s.setCtl f x).por = s.por := rfl
@[simp] theorem State.setCtl_srv : (s.setCtl f x).srv = s.srv := rfl
@[simp] theorem State.setCtl_start : (s.setCtl f x).start = s.start := rfl
@[simp] theorem State.ctl_setCtl : (s.setCtl f x).ctl f = x := by simp [State.ctl, State.setCtl]
theorem State.ctl_setCtl_ne {j : Nat} (h : j ≠ f) : (s.setCtl f x).ctl j = s.ctl j := by
  simp [State.ctl, State.setCtl, h]
end

section
variable {s : State} {p : Nat} {x : Port}
@[simp] theorem State.setPort_pending : (s.setPort p x).pending = s.pending := rfl
@[simp] theorem State.setPort_now : (s.setPort p x).now = s.now := rfl
@[simp] theorem State.setPort_fresh : (s.setPort p x).fresh = s.fresh := rfl
@[simp] theorem State.setPort_out : (s.setPort p x).out = s.out := rfl
@[simp] theorem State.setPort_regs : (s.setPort p x).regs = s.regs := rfl
@[simp] theorem State.setPort_flt : (s.setPort p x).flt = s.flt := rfl
@[simp] theorem State.setPort_links : (s.setPort p x).links = s.links := rfl
@[simp] theorem State.setPort_pin : (s.setPort p x).pin = s.pin := rfl
@[simp] theorem State.setPort_gaz : (s.setPort p x).gaz = s.gaz := rfl
@[simp] theorem State.setPort_dat : (s.setPort p x).dat = s.dat := rfl
@[simp] theorem State.setPort_mgmt : (s.setPort p x).mgmt = s.mgmt := rfl
@[simp] theorem State.setPort_pwr : (s.setPort p x).pwr = s.pwr := rfl
@[simp] theorem State.setPort_fns : (s.setPort p x).fns = s.fns := rfl
@[simp] theorem State.setPort_ctls : (s.setPort p x).ctls = s.ctls := rfl
@[simp] theorem State.setPort_sqs : (s.setPort p x).sqs = s.sqs := rfl
@[simp] theorem State.setPort_cqs : (s.setPort p x).cqs = s.cqs := rfl
@[simp] theorem State.setPort_cmds : (s.setPort p x).cmds = s.cmds := rfl
@[simp] theorem State.setPort_cpls : (s.setPort p x).cpls = s.cpls := rfl
@[simp] theorem State.setPort_classes : (s.setPort p x).classes = s.classes := rfl
@[simp] theorem State.setPort_buckets : (s.setPort p x).buckets = s.buckets := rfl
@[simp] theorem State.setPort_window : (s.setPort p x).window = s.window := rfl
@[simp] theorem State.setPort_inbox : (s.setPort p x).inbox = s.inbox := rfl
@[simp] theorem State.setPort_mbx : (s.setPort p x).mbx = s.mbx := rfl
@[simp] theorem State.setPort_ops : (s.setPort p x).ops = s.ops := rfl
@[simp] theorem State.setPort_nextHandle : (s.setPort p x).nextHandle = s.nextHandle := rfl
@[simp] theorem State.setPort_stats : (s.setPort p x).stats = s.stats := rfl
@[simp] theorem State.setPort_media : (s.setPort p x).media = s.media := rfl
@[simp] theorem State.setPort_plt : (s.setPort p x).plt = s.plt := rfl
@[simp] theorem State.setPort_atl : (s.setPort p x).atl = s.atl := rfl
@[simp] theorem State.setPort_svy : (s.setPort p x).svy = s.svy := rfl
@[simp] theorem State.setPort_par : (s.setPort p x).par = s.par := rfl
@[simp] theorem State.setPort_fch : (s.setPort p x).fch = s.fch := rfl
@[simp] theorem State.setPort_trv : (s.setPort p x).trv = s.trv := rfl
@[simp] theorem State.setPort_lanes : (s.setPort p x).lanes = s.lanes := rfl
@[simp] theorem State.setPort_bays : (s.setPort p x).bays = s.bays := rfl
@[simp] theorem State.setPort_til : (s.setPort p x).til = s.til := rfl
@[simp] theorem State.setPort_dram : (s.setPort p x).dram = s.dram := rfl
@[simp] theorem State.setPort_cip : (s.setPort p x).cip = s.cip := rfl
@[simp] theorem State.setPort_ctr : (s.setPort p x).ctr = s.ctr := rfl
@[simp] theorem State.setPort_por : (s.setPort p x).por = s.por := rfl
@[simp] theorem State.setPort_srv : (s.setPort p x).srv = s.srv := rfl
@[simp] theorem State.setPort_start : (s.setPort p x).start = s.start := rfl
@[simp] theorem State.port_setPort : (s.setPort p x).port p = x := by simp [State.port, State.setPort]
theorem State.port_setPort_ne {j : Nat} (h : j ≠ p) : (s.setPort p x).port j = s.port j := by
  simp [State.port, State.setPort, h]
end

section
variable {s : State} {o : Out}
@[simp] theorem State.emit_pending : (s.emit o).pending = s.pending := rfl
@[simp] theorem State.emit_now : (s.emit o).now = s.now := rfl
@[simp] theorem State.emit_fresh : (s.emit o).fresh = s.fresh := rfl
@[simp] theorem State.emit_regs : (s.emit o).regs = s.regs := rfl
@[simp] theorem State.emit_flt : (s.emit o).flt = s.flt := rfl
@[simp] theorem State.emit_links : (s.emit o).links = s.links := rfl
@[simp] theorem State.emit_pin : (s.emit o).pin = s.pin := rfl
@[simp] theorem State.emit_gaz : (s.emit o).gaz = s.gaz := rfl
@[simp] theorem State.emit_dat : (s.emit o).dat = s.dat := rfl
@[simp] theorem State.emit_mgmt : (s.emit o).mgmt = s.mgmt := rfl
@[simp] theorem State.emit_pwr : (s.emit o).pwr = s.pwr := rfl
@[simp] theorem State.emit_ports : (s.emit o).ports = s.ports := rfl
@[simp] theorem State.emit_fns : (s.emit o).fns = s.fns := rfl
@[simp] theorem State.emit_ctls : (s.emit o).ctls = s.ctls := rfl
@[simp] theorem State.emit_sqs : (s.emit o).sqs = s.sqs := rfl
@[simp] theorem State.emit_cqs : (s.emit o).cqs = s.cqs := rfl
@[simp] theorem State.emit_cmds : (s.emit o).cmds = s.cmds := rfl
@[simp] theorem State.emit_cpls : (s.emit o).cpls = s.cpls := rfl
@[simp] theorem State.emit_classes : (s.emit o).classes = s.classes := rfl
@[simp] theorem State.emit_buckets : (s.emit o).buckets = s.buckets := rfl
@[simp] theorem State.emit_window : (s.emit o).window = s.window := rfl
@[simp] theorem State.emit_inbox : (s.emit o).inbox = s.inbox := rfl
@[simp] theorem State.emit_mbx : (s.emit o).mbx = s.mbx := rfl
@[simp] theorem State.emit_ops : (s.emit o).ops = s.ops := rfl
@[simp] theorem State.emit_nextHandle : (s.emit o).nextHandle = s.nextHandle := rfl
@[simp] theorem State.emit_stats : (s.emit o).stats = s.stats := rfl
@[simp] theorem State.emit_media : (s.emit o).media = s.media := rfl
@[simp] theorem State.emit_plt : (s.emit o).plt = s.plt := rfl
@[simp] theorem State.emit_atl : (s.emit o).atl = s.atl := rfl
@[simp] theorem State.emit_svy : (s.emit o).svy = s.svy := rfl
@[simp] theorem State.emit_par : (s.emit o).par = s.par := rfl
@[simp] theorem State.emit_fch : (s.emit o).fch = s.fch := rfl
@[simp] theorem State.emit_trv : (s.emit o).trv = s.trv := rfl
@[simp] theorem State.emit_lanes : (s.emit o).lanes = s.lanes := rfl
@[simp] theorem State.emit_bays : (s.emit o).bays = s.bays := rfl
@[simp] theorem State.emit_til : (s.emit o).til = s.til := rfl
@[simp] theorem State.emit_dram : (s.emit o).dram = s.dram := rfl
@[simp] theorem State.emit_cip : (s.emit o).cip = s.cip := rfl
@[simp] theorem State.emit_ctr : (s.emit o).ctr = s.ctr := rfl
@[simp] theorem State.emit_por : (s.emit o).por = s.por := rfl
@[simp] theorem State.emit_srv : (s.emit o).srv = s.srv := rfl
@[simp] theorem State.emit_start : (s.emit o).start = s.start := rfl
end

section
variable {s : State} {fn q : Nat} {x : Option Sq}
@[simp] theorem State.setSq_pending : (s.setSq fn q x).pending = s.pending := rfl
@[simp] theorem State.setSq_now : (s.setSq fn q x).now = s.now := rfl
@[simp] theorem State.setSq_fresh : (s.setSq fn q x).fresh = s.fresh := rfl
@[simp] theorem State.setSq_out : (s.setSq fn q x).out = s.out := rfl
@[simp] theorem State.setSq_regs : (s.setSq fn q x).regs = s.regs := rfl
@[simp] theorem State.setSq_flt : (s.setSq fn q x).flt = s.flt := rfl
@[simp] theorem State.setSq_links : (s.setSq fn q x).links = s.links := rfl
@[simp] theorem State.setSq_pin : (s.setSq fn q x).pin = s.pin := rfl
@[simp] theorem State.setSq_gaz : (s.setSq fn q x).gaz = s.gaz := rfl
@[simp] theorem State.setSq_dat : (s.setSq fn q x).dat = s.dat := rfl
@[simp] theorem State.setSq_mgmt : (s.setSq fn q x).mgmt = s.mgmt := rfl
@[simp] theorem State.setSq_pwr : (s.setSq fn q x).pwr = s.pwr := rfl
@[simp] theorem State.setSq_ports : (s.setSq fn q x).ports = s.ports := rfl
@[simp] theorem State.setSq_fns : (s.setSq fn q x).fns = s.fns := rfl
@[simp] theorem State.setSq_ctls : (s.setSq fn q x).ctls = s.ctls := rfl
@[simp] theorem State.setSq_cqs : (s.setSq fn q x).cqs = s.cqs := rfl
@[simp] theorem State.setSq_cmds : (s.setSq fn q x).cmds = s.cmds := rfl
@[simp] theorem State.setSq_cpls : (s.setSq fn q x).cpls = s.cpls := rfl
@[simp] theorem State.setSq_classes : (s.setSq fn q x).classes = s.classes := rfl
@[simp] theorem State.setSq_buckets : (s.setSq fn q x).buckets = s.buckets := rfl
@[simp] theorem State.setSq_window : (s.setSq fn q x).window = s.window := rfl
@[simp] theorem State.setSq_inbox : (s.setSq fn q x).inbox = s.inbox := rfl
@[simp] theorem State.setSq_mbx : (s.setSq fn q x).mbx = s.mbx := rfl
@[simp] theorem State.setSq_ops : (s.setSq fn q x).ops = s.ops := rfl
@[simp] theorem State.setSq_nextHandle : (s.setSq fn q x).nextHandle = s.nextHandle := rfl
@[simp] theorem State.setSq_stats : (s.setSq fn q x).stats = s.stats := rfl
@[simp] theorem State.setSq_media : (s.setSq fn q x).media = s.media := rfl
@[simp] theorem State.setSq_plt : (s.setSq fn q x).plt = s.plt := rfl
@[simp] theorem State.setSq_atl : (s.setSq fn q x).atl = s.atl := rfl
@[simp] theorem State.setSq_svy : (s.setSq fn q x).svy = s.svy := rfl
@[simp] theorem State.setSq_par : (s.setSq fn q x).par = s.par := rfl
@[simp] theorem State.setSq_fch : (s.setSq fn q x).fch = s.fch := rfl
@[simp] theorem State.setSq_trv : (s.setSq fn q x).trv = s.trv := rfl
@[simp] theorem State.setSq_lanes : (s.setSq fn q x).lanes = s.lanes := rfl
@[simp] theorem State.setSq_bays : (s.setSq fn q x).bays = s.bays := rfl
@[simp] theorem State.setSq_til : (s.setSq fn q x).til = s.til := rfl
@[simp] theorem State.setSq_dram : (s.setSq fn q x).dram = s.dram := rfl
@[simp] theorem State.setSq_cip : (s.setSq fn q x).cip = s.cip := rfl
@[simp] theorem State.setSq_ctr : (s.setSq fn q x).ctr = s.ctr := rfl
@[simp] theorem State.setSq_por : (s.setSq fn q x).por = s.por := rfl
@[simp] theorem State.setSq_srv : (s.setSq fn q x).srv = s.srv := rfl
@[simp] theorem State.setSq_start : (s.setSq fn q x).start = s.start := rfl
@[simp] theorem State.sqOf_setSq : (s.setSq fn q x).sqOf fn q = x := by simp [State.sqOf, State.setSq]
end

section
variable {s : State} {fn q : Nat} {x : Option Cq}
@[simp] theorem State.setCq_pending : (s.setCq fn q x).pending = s.pending := rfl
@[simp] theorem State.setCq_now : (s.setCq fn q x).now = s.now := rfl
@[simp] theorem State.setCq_fresh : (s.setCq fn q x).fresh = s.fresh := rfl
@[simp] theorem State.setCq_out : (s.setCq fn q x).out = s.out := rfl
@[simp] theorem State.setCq_regs : (s.setCq fn q x).regs = s.regs := rfl
@[simp] theorem State.setCq_flt : (s.setCq fn q x).flt = s.flt := rfl
@[simp] theorem State.setCq_links : (s.setCq fn q x).links = s.links := rfl
@[simp] theorem State.setCq_pin : (s.setCq fn q x).pin = s.pin := rfl
@[simp] theorem State.setCq_gaz : (s.setCq fn q x).gaz = s.gaz := rfl
@[simp] theorem State.setCq_dat : (s.setCq fn q x).dat = s.dat := rfl
@[simp] theorem State.setCq_mgmt : (s.setCq fn q x).mgmt = s.mgmt := rfl
@[simp] theorem State.setCq_pwr : (s.setCq fn q x).pwr = s.pwr := rfl
@[simp] theorem State.setCq_ports : (s.setCq fn q x).ports = s.ports := rfl
@[simp] theorem State.setCq_fns : (s.setCq fn q x).fns = s.fns := rfl
@[simp] theorem State.setCq_ctls : (s.setCq fn q x).ctls = s.ctls := rfl
@[simp] theorem State.setCq_sqs : (s.setCq fn q x).sqs = s.sqs := rfl
@[simp] theorem State.setCq_cmds : (s.setCq fn q x).cmds = s.cmds := rfl
@[simp] theorem State.setCq_cpls : (s.setCq fn q x).cpls = s.cpls := rfl
@[simp] theorem State.setCq_classes : (s.setCq fn q x).classes = s.classes := rfl
@[simp] theorem State.setCq_buckets : (s.setCq fn q x).buckets = s.buckets := rfl
@[simp] theorem State.setCq_window : (s.setCq fn q x).window = s.window := rfl
@[simp] theorem State.setCq_inbox : (s.setCq fn q x).inbox = s.inbox := rfl
@[simp] theorem State.setCq_mbx : (s.setCq fn q x).mbx = s.mbx := rfl
@[simp] theorem State.setCq_ops : (s.setCq fn q x).ops = s.ops := rfl
@[simp] theorem State.setCq_nextHandle : (s.setCq fn q x).nextHandle = s.nextHandle := rfl
@[simp] theorem State.setCq_stats : (s.setCq fn q x).stats = s.stats := rfl
@[simp] theorem State.setCq_media : (s.setCq fn q x).media = s.media := rfl
@[simp] theorem State.setCq_plt : (s.setCq fn q x).plt = s.plt := rfl
@[simp] theorem State.setCq_atl : (s.setCq fn q x).atl = s.atl := rfl
@[simp] theorem State.setCq_svy : (s.setCq fn q x).svy = s.svy := rfl
@[simp] theorem State.setCq_par : (s.setCq fn q x).par = s.par := rfl
@[simp] theorem State.setCq_fch : (s.setCq fn q x).fch = s.fch := rfl
@[simp] theorem State.setCq_trv : (s.setCq fn q x).trv = s.trv := rfl
@[simp] theorem State.setCq_lanes : (s.setCq fn q x).lanes = s.lanes := rfl
@[simp] theorem State.setCq_bays : (s.setCq fn q x).bays = s.bays := rfl
@[simp] theorem State.setCq_til : (s.setCq fn q x).til = s.til := rfl
@[simp] theorem State.setCq_dram : (s.setCq fn q x).dram = s.dram := rfl
@[simp] theorem State.setCq_cip : (s.setCq fn q x).cip = s.cip := rfl
@[simp] theorem State.setCq_ctr : (s.setCq fn q x).ctr = s.ctr := rfl
@[simp] theorem State.setCq_por : (s.setCq fn q x).por = s.por := rfl
@[simp] theorem State.setCq_srv : (s.setCq fn q x).srv = s.srv := rfl
@[simp] theorem State.setCq_start : (s.setCq fn q x).start = s.start := rfl
@[simp] theorem State.cqOf_setCq : (s.setCq fn q x).cqOf fn q = x := by simp [State.cqOf, State.setCq]
end

section
variable {s : State} {c : Nat} {x : Cls}
@[simp] theorem State.setCls_pending : (s.setCls c x).pending = s.pending := rfl
@[simp] theorem State.setCls_now : (s.setCls c x).now = s.now := rfl
@[simp] theorem State.setCls_fresh : (s.setCls c x).fresh = s.fresh := rfl
@[simp] theorem State.setCls_out : (s.setCls c x).out = s.out := rfl
@[simp] theorem State.setCls_regs : (s.setCls c x).regs = s.regs := rfl
@[simp] theorem State.setCls_flt : (s.setCls c x).flt = s.flt := rfl
@[simp] theorem State.setCls_links : (s.setCls c x).links = s.links := rfl
@[simp] theorem State.setCls_pin : (s.setCls c x).pin = s.pin := rfl
@[simp] theorem State.setCls_gaz : (s.setCls c x).gaz = s.gaz := rfl
@[simp] theorem State.setCls_dat : (s.setCls c x).dat = s.dat := rfl
@[simp] theorem State.setCls_mgmt : (s.setCls c x).mgmt = s.mgmt := rfl
@[simp] theorem State.setCls_pwr : (s.setCls c x).pwr = s.pwr := rfl
@[simp] theorem State.setCls_ports : (s.setCls c x).ports = s.ports := rfl
@[simp] theorem State.setCls_fns : (s.setCls c x).fns = s.fns := rfl
@[simp] theorem State.setCls_ctls : (s.setCls c x).ctls = s.ctls := rfl
@[simp] theorem State.setCls_sqs : (s.setCls c x).sqs = s.sqs := rfl
@[simp] theorem State.setCls_cqs : (s.setCls c x).cqs = s.cqs := rfl
@[simp] theorem State.setCls_cmds : (s.setCls c x).cmds = s.cmds := rfl
@[simp] theorem State.setCls_cpls : (s.setCls c x).cpls = s.cpls := rfl
@[simp] theorem State.setCls_buckets : (s.setCls c x).buckets = s.buckets := rfl
@[simp] theorem State.setCls_window : (s.setCls c x).window = s.window := rfl
@[simp] theorem State.setCls_inbox : (s.setCls c x).inbox = s.inbox := rfl
@[simp] theorem State.setCls_mbx : (s.setCls c x).mbx = s.mbx := rfl
@[simp] theorem State.setCls_ops : (s.setCls c x).ops = s.ops := rfl
@[simp] theorem State.setCls_nextHandle : (s.setCls c x).nextHandle = s.nextHandle := rfl
@[simp] theorem State.setCls_stats : (s.setCls c x).stats = s.stats := rfl
@[simp] theorem State.setCls_media : (s.setCls c x).media = s.media := rfl
@[simp] theorem State.setCls_plt : (s.setCls c x).plt = s.plt := rfl
@[simp] theorem State.setCls_atl : (s.setCls c x).atl = s.atl := rfl
@[simp] theorem State.setCls_svy : (s.setCls c x).svy = s.svy := rfl
@[simp] theorem State.setCls_par : (s.setCls c x).par = s.par := rfl
@[simp] theorem State.setCls_fch : (s.setCls c x).fch = s.fch := rfl
@[simp] theorem State.setCls_trv : (s.setCls c x).trv = s.trv := rfl
@[simp] theorem State.setCls_lanes : (s.setCls c x).lanes = s.lanes := rfl
@[simp] theorem State.setCls_bays : (s.setCls c x).bays = s.bays := rfl
@[simp] theorem State.setCls_til : (s.setCls c x).til = s.til := rfl
@[simp] theorem State.setCls_dram : (s.setCls c x).dram = s.dram := rfl
@[simp] theorem State.setCls_cip : (s.setCls c x).cip = s.cip := rfl
@[simp] theorem State.setCls_ctr : (s.setCls c x).ctr = s.ctr := rfl
@[simp] theorem State.setCls_por : (s.setCls c x).por = s.por := rfl
@[simp] theorem State.setCls_srv : (s.setCls c x).srv = s.srv := rfl
@[simp] theorem State.setCls_start : (s.setCls c x).start = s.start := rfl
@[simp] theorem State.cls_setCls : (s.setCls c x).cls c = x := by simp [State.cls, State.setCls]
theorem State.cls_setCls_ne {j : Nat} (h : j ≠ c) : (s.setCls c x).cls j = s.cls j := by
  simp [State.cls, State.setCls, h]
end

section
variable {s : State} {f c : Nat} {b : Bucket}
@[simp] theorem State.setBucket_pending : (s.setBucket f c b).pending = s.pending := rfl
@[simp] theorem State.setBucket_now : (s.setBucket f c b).now = s.now := rfl
@[simp] theorem State.setBucket_fresh : (s.setBucket f c b).fresh = s.fresh := rfl
@[simp] theorem State.setBucket_out : (s.setBucket f c b).out = s.out := rfl
@[simp] theorem State.setBucket_regs : (s.setBucket f c b).regs = s.regs := rfl
@[simp] theorem State.setBucket_flt : (s.setBucket f c b).flt = s.flt := rfl
@[simp] theorem State.setBucket_links : (s.setBucket f c b).links = s.links := rfl
@[simp] theorem State.setBucket_pin : (s.setBucket f c b).pin = s.pin := rfl
@[simp] theorem State.setBucket_gaz : (s.setBucket f c b).gaz = s.gaz := rfl
@[simp] theorem State.setBucket_dat : (s.setBucket f c b).dat = s.dat := rfl
@[simp] theorem State.setBucket_mgmt : (s.setBucket f c b).mgmt = s.mgmt := rfl
@[simp] theorem State.setBucket_pwr : (s.setBucket f c b).pwr = s.pwr := rfl
@[simp] theorem State.setBucket_ports : (s.setBucket f c b).ports = s.ports := rfl
@[simp] theorem State.setBucket_fns : (s.setBucket f c b).fns = s.fns := rfl
@[simp] theorem State.setBucket_ctls : (s.setBucket f c b).ctls = s.ctls := rfl
@[simp] theorem State.setBucket_sqs : (s.setBucket f c b).sqs = s.sqs := rfl
@[simp] theorem State.setBucket_cqs : (s.setBucket f c b).cqs = s.cqs := rfl
@[simp] theorem State.setBucket_cmds : (s.setBucket f c b).cmds = s.cmds := rfl
@[simp] theorem State.setBucket_cpls : (s.setBucket f c b).cpls = s.cpls := rfl
@[simp] theorem State.setBucket_classes : (s.setBucket f c b).classes = s.classes := rfl
@[simp] theorem State.setBucket_window : (s.setBucket f c b).window = s.window := rfl
@[simp] theorem State.setBucket_inbox : (s.setBucket f c b).inbox = s.inbox := rfl
@[simp] theorem State.setBucket_mbx : (s.setBucket f c b).mbx = s.mbx := rfl
@[simp] theorem State.setBucket_ops : (s.setBucket f c b).ops = s.ops := rfl
@[simp] theorem State.setBucket_nextHandle : (s.setBucket f c b).nextHandle = s.nextHandle := rfl
@[simp] theorem State.setBucket_stats : (s.setBucket f c b).stats = s.stats := rfl
@[simp] theorem State.setBucket_media : (s.setBucket f c b).media = s.media := rfl
@[simp] theorem State.setBucket_plt : (s.setBucket f c b).plt = s.plt := rfl
@[simp] theorem State.setBucket_atl : (s.setBucket f c b).atl = s.atl := rfl
@[simp] theorem State.setBucket_svy : (s.setBucket f c b).svy = s.svy := rfl
@[simp] theorem State.setBucket_par : (s.setBucket f c b).par = s.par := rfl
@[simp] theorem State.setBucket_fch : (s.setBucket f c b).fch = s.fch := rfl
@[simp] theorem State.setBucket_trv : (s.setBucket f c b).trv = s.trv := rfl
@[simp] theorem State.setBucket_lanes : (s.setBucket f c b).lanes = s.lanes := rfl
@[simp] theorem State.setBucket_bays : (s.setBucket f c b).bays = s.bays := rfl
@[simp] theorem State.setBucket_til : (s.setBucket f c b).til = s.til := rfl
@[simp] theorem State.setBucket_dram : (s.setBucket f c b).dram = s.dram := rfl
@[simp] theorem State.setBucket_cip : (s.setBucket f c b).cip = s.cip := rfl
@[simp] theorem State.setBucket_ctr : (s.setBucket f c b).ctr = s.ctr := rfl
@[simp] theorem State.setBucket_por : (s.setBucket f c b).por = s.por := rfl
@[simp] theorem State.setBucket_srv : (s.setBucket f c b).srv = s.srv := rfl
@[simp] theorem State.setBucket_start : (s.setBucket f c b).start = s.start := rfl
end

section
variable {s : State} {p : Nat} {m : Mbx}
@[simp] theorem State.setMb_pending : (s.setMb p m).pending = s.pending := rfl
@[simp] theorem State.setMb_now : (s.setMb p m).now = s.now := rfl
@[simp] theorem State.setMb_fresh : (s.setMb p m).fresh = s.fresh := rfl
@[simp] theorem State.setMb_out : (s.setMb p m).out = s.out := rfl
@[simp] theorem State.setMb_regs : (s.setMb p m).regs = s.regs := rfl
@[simp] theorem State.setMb_flt : (s.setMb p m).flt = s.flt := rfl
@[simp] theorem State.setMb_links : (s.setMb p m).links = s.links := rfl
@[simp] theorem State.setMb_pin : (s.setMb p m).pin = s.pin := rfl
@[simp] theorem State.setMb_gaz : (s.setMb p m).gaz = s.gaz := rfl
@[simp] theorem State.setMb_dat : (s.setMb p m).dat = s.dat := rfl
@[simp] theorem State.setMb_mgmt : (s.setMb p m).mgmt = s.mgmt := rfl
@[simp] theorem State.setMb_pwr : (s.setMb p m).pwr = s.pwr := rfl
@[simp] theorem State.setMb_ports : (s.setMb p m).ports = s.ports := rfl
@[simp] theorem State.setMb_fns : (s.setMb p m).fns = s.fns := rfl
@[simp] theorem State.setMb_ctls : (s.setMb p m).ctls = s.ctls := rfl
@[simp] theorem State.setMb_sqs : (s.setMb p m).sqs = s.sqs := rfl
@[simp] theorem State.setMb_cqs : (s.setMb p m).cqs = s.cqs := rfl
@[simp] theorem State.setMb_cmds : (s.setMb p m).cmds = s.cmds := rfl
@[simp] theorem State.setMb_cpls : (s.setMb p m).cpls = s.cpls := rfl
@[simp] theorem State.setMb_classes : (s.setMb p m).classes = s.classes := rfl
@[simp] theorem State.setMb_buckets : (s.setMb p m).buckets = s.buckets := rfl
@[simp] theorem State.setMb_window : (s.setMb p m).window = s.window := rfl
@[simp] theorem State.setMb_inbox : (s.setMb p m).inbox = s.inbox := rfl
@[simp] theorem State.setMb_ops : (s.setMb p m).ops = s.ops := rfl
@[simp] theorem State.setMb_nextHandle : (s.setMb p m).nextHandle = s.nextHandle := rfl
@[simp] theorem State.setMb_stats : (s.setMb p m).stats = s.stats := rfl
@[simp] theorem State.setMb_media : (s.setMb p m).media = s.media := rfl
@[simp] theorem State.setMb_plt : (s.setMb p m).plt = s.plt := rfl
@[simp] theorem State.setMb_atl : (s.setMb p m).atl = s.atl := rfl
@[simp] theorem State.setMb_svy : (s.setMb p m).svy = s.svy := rfl
@[simp] theorem State.setMb_par : (s.setMb p m).par = s.par := rfl
@[simp] theorem State.setMb_fch : (s.setMb p m).fch = s.fch := rfl
@[simp] theorem State.setMb_trv : (s.setMb p m).trv = s.trv := rfl
@[simp] theorem State.setMb_lanes : (s.setMb p m).lanes = s.lanes := rfl
@[simp] theorem State.setMb_bays : (s.setMb p m).bays = s.bays := rfl
@[simp] theorem State.setMb_til : (s.setMb p m).til = s.til := rfl
@[simp] theorem State.setMb_dram : (s.setMb p m).dram = s.dram := rfl
@[simp] theorem State.setMb_cip : (s.setMb p m).cip = s.cip := rfl
@[simp] theorem State.setMb_ctr : (s.setMb p m).ctr = s.ctr := rfl
@[simp] theorem State.setMb_por : (s.setMb p m).por = s.por := rfl
@[simp] theorem State.setMb_srv : (s.setMb p m).srv = s.srv := rfl
@[simp] theorem State.setMb_start : (s.setMb p m).start = s.start := rfl
@[simp] theorem State.mb_setMb : (s.setMb p m).mb p = m := by simp [State.mb, State.setMb]
theorem State.mb_setMb_ne {j : Nat} (h : j ≠ p) : (s.setMb p m).mb j = s.mb j := by
  simp [State.mb, State.setMb, h]
end

section
variable {s : State} {r : Nat} {x : Region}
@[simp] theorem State.setRegion_pending : (s.setRegion r x).pending = s.pending := rfl
@[simp] theorem State.setRegion_now : (s.setRegion r x).now = s.now := rfl
@[simp] theorem State.setRegion_fresh : (s.setRegion r x).fresh = s.fresh := rfl
@[simp] theorem State.setRegion_out : (s.setRegion r x).out = s.out := rfl
@[simp] theorem State.setRegion_regs : (s.setRegion r x).regs = s.regs := rfl
@[simp] theorem State.setRegion_flt : (s.setRegion r x).flt = s.flt := rfl
@[simp] theorem State.setRegion_links : (s.setRegion r x).links = s.links := rfl
@[simp] theorem State.setRegion_pin : (s.setRegion r x).pin = s.pin := rfl
@[simp] theorem State.setRegion_gaz : (s.setRegion r x).gaz = s.gaz := rfl
@[simp] theorem State.setRegion_dat : (s.setRegion r x).dat = s.dat := rfl
@[simp] theorem State.setRegion_mgmt : (s.setRegion r x).mgmt = s.mgmt := rfl
@[simp] theorem State.setRegion_pwr : (s.setRegion r x).pwr = s.pwr := rfl
@[simp] theorem State.setRegion_ports : (s.setRegion r x).ports = s.ports := rfl
@[simp] theorem State.setRegion_fns : (s.setRegion r x).fns = s.fns := rfl
@[simp] theorem State.setRegion_ctls : (s.setRegion r x).ctls = s.ctls := rfl
@[simp] theorem State.setRegion_sqs : (s.setRegion r x).sqs = s.sqs := rfl
@[simp] theorem State.setRegion_cqs : (s.setRegion r x).cqs = s.cqs := rfl
@[simp] theorem State.setRegion_cmds : (s.setRegion r x).cmds = s.cmds := rfl
@[simp] theorem State.setRegion_cpls : (s.setRegion r x).cpls = s.cpls := rfl
@[simp] theorem State.setRegion_classes : (s.setRegion r x).classes = s.classes := rfl
@[simp] theorem State.setRegion_buckets : (s.setRegion r x).buckets = s.buckets := rfl
@[simp] theorem State.setRegion_window : (s.setRegion r x).window = s.window := rfl
@[simp] theorem State.setRegion_inbox : (s.setRegion r x).inbox = s.inbox := rfl
@[simp] theorem State.setRegion_mbx : (s.setRegion r x).mbx = s.mbx := rfl
@[simp] theorem State.setRegion_ops : (s.setRegion r x).ops = s.ops := rfl
@[simp] theorem State.setRegion_nextHandle : (s.setRegion r x).nextHandle = s.nextHandle := rfl
@[simp] theorem State.setRegion_stats : (s.setRegion r x).stats = s.stats := rfl
@[simp] theorem State.setRegion_media : (s.setRegion r x).media = s.media := rfl
@[simp] theorem State.setRegion_plt : (s.setRegion r x).plt = s.plt := rfl
@[simp] theorem State.setRegion_atl : (s.setRegion r x).atl = s.atl := rfl
@[simp] theorem State.setRegion_svy : (s.setRegion r x).svy = s.svy := rfl
@[simp] theorem State.setRegion_par : (s.setRegion r x).par = s.par := rfl
@[simp] theorem State.setRegion_fch : (s.setRegion r x).fch = s.fch := rfl
@[simp] theorem State.setRegion_trv : (s.setRegion r x).trv = s.trv := rfl
@[simp] theorem State.setRegion_lanes : (s.setRegion r x).lanes = s.lanes := rfl
@[simp] theorem State.setRegion_bays : (s.setRegion r x).bays = s.bays := rfl
@[simp] theorem State.setRegion_til : (s.setRegion r x).til = s.til := rfl
@[simp] theorem State.setRegion_dram : (s.setRegion r x).dram = s.dram := rfl
@[simp] theorem State.setRegion_cip : (s.setRegion r x).cip = s.cip := rfl
@[simp] theorem State.setRegion_por : (s.setRegion r x).por = s.por := rfl
@[simp] theorem State.setRegion_srv : (s.setRegion r x).srv = s.srv := rfl
@[simp] theorem State.setRegion_start : (s.setRegion r x).start = s.start := rfl
@[simp] theorem State.regionOf_setRegion : (s.setRegion r x).regionOf r = x := by simp [State.regionOf, State.setRegion]
theorem State.regionOf_setRegion_ne {j : Nat} (h : j ≠ r) : (s.setRegion r x).regionOf j = s.regionOf j := by
  simp [State.regionOf, State.setRegion, h]
end

section
variable {s : State} {e : Nat} {x : AtlEng}
@[simp] theorem State.setAtlEng_pending : (s.setAtlEng e x).pending = s.pending := rfl
@[simp] theorem State.setAtlEng_now : (s.setAtlEng e x).now = s.now := rfl
@[simp] theorem State.setAtlEng_fresh : (s.setAtlEng e x).fresh = s.fresh := rfl
@[simp] theorem State.setAtlEng_out : (s.setAtlEng e x).out = s.out := rfl
@[simp] theorem State.setAtlEng_regs : (s.setAtlEng e x).regs = s.regs := rfl
@[simp] theorem State.setAtlEng_flt : (s.setAtlEng e x).flt = s.flt := rfl
@[simp] theorem State.setAtlEng_links : (s.setAtlEng e x).links = s.links := rfl
@[simp] theorem State.setAtlEng_pin : (s.setAtlEng e x).pin = s.pin := rfl
@[simp] theorem State.setAtlEng_gaz : (s.setAtlEng e x).gaz = s.gaz := rfl
@[simp] theorem State.setAtlEng_dat : (s.setAtlEng e x).dat = s.dat := rfl
@[simp] theorem State.setAtlEng_mgmt : (s.setAtlEng e x).mgmt = s.mgmt := rfl
@[simp] theorem State.setAtlEng_pwr : (s.setAtlEng e x).pwr = s.pwr := rfl
@[simp] theorem State.setAtlEng_ports : (s.setAtlEng e x).ports = s.ports := rfl
@[simp] theorem State.setAtlEng_fns : (s.setAtlEng e x).fns = s.fns := rfl
@[simp] theorem State.setAtlEng_ctls : (s.setAtlEng e x).ctls = s.ctls := rfl
@[simp] theorem State.setAtlEng_sqs : (s.setAtlEng e x).sqs = s.sqs := rfl
@[simp] theorem State.setAtlEng_cqs : (s.setAtlEng e x).cqs = s.cqs := rfl
@[simp] theorem State.setAtlEng_cmds : (s.setAtlEng e x).cmds = s.cmds := rfl
@[simp] theorem State.setAtlEng_cpls : (s.setAtlEng e x).cpls = s.cpls := rfl
@[simp] theorem State.setAtlEng_classes : (s.setAtlEng e x).classes = s.classes := rfl
@[simp] theorem State.setAtlEng_buckets : (s.setAtlEng e x).buckets = s.buckets := rfl
@[simp] theorem State.setAtlEng_window : (s.setAtlEng e x).window = s.window := rfl
@[simp] theorem State.setAtlEng_inbox : (s.setAtlEng e x).inbox = s.inbox := rfl
@[simp] theorem State.setAtlEng_mbx : (s.setAtlEng e x).mbx = s.mbx := rfl
@[simp] theorem State.setAtlEng_ops : (s.setAtlEng e x).ops = s.ops := rfl
@[simp] theorem State.setAtlEng_nextHandle : (s.setAtlEng e x).nextHandle = s.nextHandle := rfl
@[simp] theorem State.setAtlEng_stats : (s.setAtlEng e x).stats = s.stats := rfl
@[simp] theorem State.setAtlEng_media : (s.setAtlEng e x).media = s.media := rfl
@[simp] theorem State.setAtlEng_plt : (s.setAtlEng e x).plt = s.plt := rfl
@[simp] theorem State.setAtlEng_svy : (s.setAtlEng e x).svy = s.svy := rfl
@[simp] theorem State.setAtlEng_par : (s.setAtlEng e x).par = s.par := rfl
@[simp] theorem State.setAtlEng_fch : (s.setAtlEng e x).fch = s.fch := rfl
@[simp] theorem State.setAtlEng_trv : (s.setAtlEng e x).trv = s.trv := rfl
@[simp] theorem State.setAtlEng_lanes : (s.setAtlEng e x).lanes = s.lanes := rfl
@[simp] theorem State.setAtlEng_bays : (s.setAtlEng e x).bays = s.bays := rfl
@[simp] theorem State.setAtlEng_til : (s.setAtlEng e x).til = s.til := rfl
@[simp] theorem State.setAtlEng_dram : (s.setAtlEng e x).dram = s.dram := rfl
@[simp] theorem State.setAtlEng_cip : (s.setAtlEng e x).cip = s.cip := rfl
@[simp] theorem State.setAtlEng_ctr : (s.setAtlEng e x).ctr = s.ctr := rfl
@[simp] theorem State.setAtlEng_por : (s.setAtlEng e x).por = s.por := rfl
@[simp] theorem State.setAtlEng_srv : (s.setAtlEng e x).srv = s.srv := rfl
@[simp] theorem State.setAtlEng_start : (s.setAtlEng e x).start = s.start := rfl
@[simp] theorem State.atlEng_setAtlEng : (s.setAtlEng e x).atlEng e = x := by simp [State.atlEng, State.setAtlEng]
theorem State.atlEng_setAtlEng_ne {j : Nat} (h : j ≠ e) : (s.setAtlEng e x).atlEng j = s.atlEng j := by
  simp [State.atlEng, State.setAtlEng, h]
end

section
variable {s : State} {k : Nat} {x : Dir}
@[simp] theorem State.setDir_pending : (s.setDir k x).pending = s.pending := rfl
@[simp] theorem State.setDir_now : (s.setDir k x).now = s.now := rfl
@[simp] theorem State.setDir_fresh : (s.setDir k x).fresh = s.fresh := rfl
@[simp] theorem State.setDir_out : (s.setDir k x).out = s.out := rfl
@[simp] theorem State.setDir_regs : (s.setDir k x).regs = s.regs := rfl
@[simp] theorem State.setDir_flt : (s.setDir k x).flt = s.flt := rfl
@[simp] theorem State.setDir_links : (s.setDir k x).links = s.links := rfl
@[simp] theorem State.setDir_pin : (s.setDir k x).pin = s.pin := rfl
@[simp] theorem State.setDir_gaz : (s.setDir k x).gaz = s.gaz := rfl
@[simp] theorem State.setDir_dat : (s.setDir k x).dat = s.dat := rfl
@[simp] theorem State.setDir_mgmt : (s.setDir k x).mgmt = s.mgmt := rfl
@[simp] theorem State.setDir_pwr : (s.setDir k x).pwr = s.pwr := rfl
@[simp] theorem State.setDir_ports : (s.setDir k x).ports = s.ports := rfl
@[simp] theorem State.setDir_fns : (s.setDir k x).fns = s.fns := rfl
@[simp] theorem State.setDir_ctls : (s.setDir k x).ctls = s.ctls := rfl
@[simp] theorem State.setDir_sqs : (s.setDir k x).sqs = s.sqs := rfl
@[simp] theorem State.setDir_cqs : (s.setDir k x).cqs = s.cqs := rfl
@[simp] theorem State.setDir_cmds : (s.setDir k x).cmds = s.cmds := rfl
@[simp] theorem State.setDir_cpls : (s.setDir k x).cpls = s.cpls := rfl
@[simp] theorem State.setDir_classes : (s.setDir k x).classes = s.classes := rfl
@[simp] theorem State.setDir_buckets : (s.setDir k x).buckets = s.buckets := rfl
@[simp] theorem State.setDir_window : (s.setDir k x).window = s.window := rfl
@[simp] theorem State.setDir_inbox : (s.setDir k x).inbox = s.inbox := rfl
@[simp] theorem State.setDir_mbx : (s.setDir k x).mbx = s.mbx := rfl
@[simp] theorem State.setDir_ops : (s.setDir k x).ops = s.ops := rfl
@[simp] theorem State.setDir_nextHandle : (s.setDir k x).nextHandle = s.nextHandle := rfl
@[simp] theorem State.setDir_stats : (s.setDir k x).stats = s.stats := rfl
@[simp] theorem State.setDir_media : (s.setDir k x).media = s.media := rfl
@[simp] theorem State.setDir_plt : (s.setDir k x).plt = s.plt := rfl
@[simp] theorem State.setDir_svy : (s.setDir k x).svy = s.svy := rfl
@[simp] theorem State.setDir_par : (s.setDir k x).par = s.par := rfl
@[simp] theorem State.setDir_fch : (s.setDir k x).fch = s.fch := rfl
@[simp] theorem State.setDir_trv : (s.setDir k x).trv = s.trv := rfl
@[simp] theorem State.setDir_lanes : (s.setDir k x).lanes = s.lanes := rfl
@[simp] theorem State.setDir_bays : (s.setDir k x).bays = s.bays := rfl
@[simp] theorem State.setDir_til : (s.setDir k x).til = s.til := rfl
@[simp] theorem State.setDir_dram : (s.setDir k x).dram = s.dram := rfl
@[simp] theorem State.setDir_cip : (s.setDir k x).cip = s.cip := rfl
@[simp] theorem State.setDir_ctr : (s.setDir k x).ctr = s.ctr := rfl
@[simp] theorem State.setDir_por : (s.setDir k x).por = s.por := rfl
@[simp] theorem State.setDir_srv : (s.setDir k x).srv = s.srv := rfl
@[simp] theorem State.setDir_start : (s.setDir k x).start = s.start := rfl
@[simp] theorem State.dirOf_setDir : (s.setDir k x).dirOf k = x := by simp [State.dirOf, State.setDir]
theorem State.dirOf_setDir_ne {j : Nat} (h : j ≠ k) : (s.setDir k x).dirOf j = s.dirOf j := by
  simp [State.dirOf, State.setDir, h]
end

section
variable {s : State} {k : Nat} {x : Seg}
@[simp] theorem State.setSeg_pending : (s.setSeg k x).pending = s.pending := rfl
@[simp] theorem State.setSeg_now : (s.setSeg k x).now = s.now := rfl
@[simp] theorem State.setSeg_fresh : (s.setSeg k x).fresh = s.fresh := rfl
@[simp] theorem State.setSeg_out : (s.setSeg k x).out = s.out := rfl
@[simp] theorem State.setSeg_regs : (s.setSeg k x).regs = s.regs := rfl
@[simp] theorem State.setSeg_flt : (s.setSeg k x).flt = s.flt := rfl
@[simp] theorem State.setSeg_links : (s.setSeg k x).links = s.links := rfl
@[simp] theorem State.setSeg_pin : (s.setSeg k x).pin = s.pin := rfl
@[simp] theorem State.setSeg_gaz : (s.setSeg k x).gaz = s.gaz := rfl
@[simp] theorem State.setSeg_dat : (s.setSeg k x).dat = s.dat := rfl
@[simp] theorem State.setSeg_mgmt : (s.setSeg k x).mgmt = s.mgmt := rfl
@[simp] theorem State.setSeg_pwr : (s.setSeg k x).pwr = s.pwr := rfl
@[simp] theorem State.setSeg_ports : (s.setSeg k x).ports = s.ports := rfl
@[simp] theorem State.setSeg_fns : (s.setSeg k x).fns = s.fns := rfl
@[simp] theorem State.setSeg_ctls : (s.setSeg k x).ctls = s.ctls := rfl
@[simp] theorem State.setSeg_sqs : (s.setSeg k x).sqs = s.sqs := rfl
@[simp] theorem State.setSeg_cqs : (s.setSeg k x).cqs = s.cqs := rfl
@[simp] theorem State.setSeg_cmds : (s.setSeg k x).cmds = s.cmds := rfl
@[simp] theorem State.setSeg_cpls : (s.setSeg k x).cpls = s.cpls := rfl
@[simp] theorem State.setSeg_classes : (s.setSeg k x).classes = s.classes := rfl
@[simp] theorem State.setSeg_buckets : (s.setSeg k x).buckets = s.buckets := rfl
@[simp] theorem State.setSeg_window : (s.setSeg k x).window = s.window := rfl
@[simp] theorem State.setSeg_inbox : (s.setSeg k x).inbox = s.inbox := rfl
@[simp] theorem State.setSeg_mbx : (s.setSeg k x).mbx = s.mbx := rfl
@[simp] theorem State.setSeg_ops : (s.setSeg k x).ops = s.ops := rfl
@[simp] theorem State.setSeg_nextHandle : (s.setSeg k x).nextHandle = s.nextHandle := rfl
@[simp] theorem State.setSeg_stats : (s.setSeg k x).stats = s.stats := rfl
@[simp] theorem State.setSeg_media : (s.setSeg k x).media = s.media := rfl
@[simp] theorem State.setSeg_plt : (s.setSeg k x).plt = s.plt := rfl
@[simp] theorem State.setSeg_svy : (s.setSeg k x).svy = s.svy := rfl
@[simp] theorem State.setSeg_par : (s.setSeg k x).par = s.par := rfl
@[simp] theorem State.setSeg_fch : (s.setSeg k x).fch = s.fch := rfl
@[simp] theorem State.setSeg_trv : (s.setSeg k x).trv = s.trv := rfl
@[simp] theorem State.setSeg_lanes : (s.setSeg k x).lanes = s.lanes := rfl
@[simp] theorem State.setSeg_bays : (s.setSeg k x).bays = s.bays := rfl
@[simp] theorem State.setSeg_til : (s.setSeg k x).til = s.til := rfl
@[simp] theorem State.setSeg_dram : (s.setSeg k x).dram = s.dram := rfl
@[simp] theorem State.setSeg_cip : (s.setSeg k x).cip = s.cip := rfl
@[simp] theorem State.setSeg_ctr : (s.setSeg k x).ctr = s.ctr := rfl
@[simp] theorem State.setSeg_por : (s.setSeg k x).por = s.por := rfl
@[simp] theorem State.setSeg_srv : (s.setSeg k x).srv = s.srv := rfl
@[simp] theorem State.setSeg_start : (s.setSeg k x).start = s.start := rfl
@[simp] theorem State.segOf_setSeg : (s.setSeg k x).segOf k = x := by simp [State.segOf, State.setSeg]
theorem State.segOf_setSeg_ne {j : Nat} (h : j ≠ k) : (s.setSeg k x).segOf j = s.segOf j := by
  simp [State.segOf, State.setSeg, h]
end

section
variable {s : State} {key : Nat} {e : Ent}
@[simp] theorem State.setEnt_pending : (s.setEnt key e).pending = s.pending := rfl
@[simp] theorem State.setEnt_now : (s.setEnt key e).now = s.now := rfl
@[simp] theorem State.setEnt_fresh : (s.setEnt key e).fresh = s.fresh := rfl
@[simp] theorem State.setEnt_out : (s.setEnt key e).out = s.out := rfl
@[simp] theorem State.setEnt_regs : (s.setEnt key e).regs = s.regs := rfl
@[simp] theorem State.setEnt_flt : (s.setEnt key e).flt = s.flt := rfl
@[simp] theorem State.setEnt_links : (s.setEnt key e).links = s.links := rfl
@[simp] theorem State.setEnt_pin : (s.setEnt key e).pin = s.pin := rfl
@[simp] theorem State.setEnt_gaz : (s.setEnt key e).gaz = s.gaz := rfl
@[simp] theorem State.setEnt_dat : (s.setEnt key e).dat = s.dat := rfl
@[simp] theorem State.setEnt_mgmt : (s.setEnt key e).mgmt = s.mgmt := rfl
@[simp] theorem State.setEnt_pwr : (s.setEnt key e).pwr = s.pwr := rfl
@[simp] theorem State.setEnt_ports : (s.setEnt key e).ports = s.ports := rfl
@[simp] theorem State.setEnt_fns : (s.setEnt key e).fns = s.fns := rfl
@[simp] theorem State.setEnt_ctls : (s.setEnt key e).ctls = s.ctls := rfl
@[simp] theorem State.setEnt_sqs : (s.setEnt key e).sqs = s.sqs := rfl
@[simp] theorem State.setEnt_cqs : (s.setEnt key e).cqs = s.cqs := rfl
@[simp] theorem State.setEnt_cmds : (s.setEnt key e).cmds = s.cmds := rfl
@[simp] theorem State.setEnt_cpls : (s.setEnt key e).cpls = s.cpls := rfl
@[simp] theorem State.setEnt_classes : (s.setEnt key e).classes = s.classes := rfl
@[simp] theorem State.setEnt_buckets : (s.setEnt key e).buckets = s.buckets := rfl
@[simp] theorem State.setEnt_window : (s.setEnt key e).window = s.window := rfl
@[simp] theorem State.setEnt_inbox : (s.setEnt key e).inbox = s.inbox := rfl
@[simp] theorem State.setEnt_mbx : (s.setEnt key e).mbx = s.mbx := rfl
@[simp] theorem State.setEnt_ops : (s.setEnt key e).ops = s.ops := rfl
@[simp] theorem State.setEnt_nextHandle : (s.setEnt key e).nextHandle = s.nextHandle := rfl
@[simp] theorem State.setEnt_stats : (s.setEnt key e).stats = s.stats := rfl
@[simp] theorem State.setEnt_media : (s.setEnt key e).media = s.media := rfl
@[simp] theorem State.setEnt_plt : (s.setEnt key e).plt = s.plt := rfl
@[simp] theorem State.setEnt_svy : (s.setEnt key e).svy = s.svy := rfl
@[simp] theorem State.setEnt_par : (s.setEnt key e).par = s.par := rfl
@[simp] theorem State.setEnt_fch : (s.setEnt key e).fch = s.fch := rfl
@[simp] theorem State.setEnt_trv : (s.setEnt key e).trv = s.trv := rfl
@[simp] theorem State.setEnt_lanes : (s.setEnt key e).lanes = s.lanes := rfl
@[simp] theorem State.setEnt_bays : (s.setEnt key e).bays = s.bays := rfl
@[simp] theorem State.setEnt_til : (s.setEnt key e).til = s.til := rfl
@[simp] theorem State.setEnt_dram : (s.setEnt key e).dram = s.dram := rfl
@[simp] theorem State.setEnt_cip : (s.setEnt key e).cip = s.cip := rfl
@[simp] theorem State.setEnt_ctr : (s.setEnt key e).ctr = s.ctr := rfl
@[simp] theorem State.setEnt_por : (s.setEnt key e).por = s.por := rfl
@[simp] theorem State.setEnt_srv : (s.setEnt key e).srv = s.srv := rfl
@[simp] theorem State.setEnt_start : (s.setEnt key e).start = s.start := rfl
end

section
variable {s : State} {a : Nat} {x : Option Stage}
@[simp] theorem State.setStage_pending : (s.setStage a x).pending = s.pending := rfl
@[simp] theorem State.setStage_now : (s.setStage a x).now = s.now := rfl
@[simp] theorem State.setStage_fresh : (s.setStage a x).fresh = s.fresh := rfl
@[simp] theorem State.setStage_out : (s.setStage a x).out = s.out := rfl
@[simp] theorem State.setStage_regs : (s.setStage a x).regs = s.regs := rfl
@[simp] theorem State.setStage_flt : (s.setStage a x).flt = s.flt := rfl
@[simp] theorem State.setStage_links : (s.setStage a x).links = s.links := rfl
@[simp] theorem State.setStage_pin : (s.setStage a x).pin = s.pin := rfl
@[simp] theorem State.setStage_gaz : (s.setStage a x).gaz = s.gaz := rfl
@[simp] theorem State.setStage_dat : (s.setStage a x).dat = s.dat := rfl
@[simp] theorem State.setStage_mgmt : (s.setStage a x).mgmt = s.mgmt := rfl
@[simp] theorem State.setStage_pwr : (s.setStage a x).pwr = s.pwr := rfl
@[simp] theorem State.setStage_ports : (s.setStage a x).ports = s.ports := rfl
@[simp] theorem State.setStage_fns : (s.setStage a x).fns = s.fns := rfl
@[simp] theorem State.setStage_ctls : (s.setStage a x).ctls = s.ctls := rfl
@[simp] theorem State.setStage_sqs : (s.setStage a x).sqs = s.sqs := rfl
@[simp] theorem State.setStage_cqs : (s.setStage a x).cqs = s.cqs := rfl
@[simp] theorem State.setStage_cmds : (s.setStage a x).cmds = s.cmds := rfl
@[simp] theorem State.setStage_cpls : (s.setStage a x).cpls = s.cpls := rfl
@[simp] theorem State.setStage_classes : (s.setStage a x).classes = s.classes := rfl
@[simp] theorem State.setStage_buckets : (s.setStage a x).buckets = s.buckets := rfl
@[simp] theorem State.setStage_window : (s.setStage a x).window = s.window := rfl
@[simp] theorem State.setStage_inbox : (s.setStage a x).inbox = s.inbox := rfl
@[simp] theorem State.setStage_mbx : (s.setStage a x).mbx = s.mbx := rfl
@[simp] theorem State.setStage_ops : (s.setStage a x).ops = s.ops := rfl
@[simp] theorem State.setStage_nextHandle : (s.setStage a x).nextHandle = s.nextHandle := rfl
@[simp] theorem State.setStage_stats : (s.setStage a x).stats = s.stats := rfl
@[simp] theorem State.setStage_media : (s.setStage a x).media = s.media := rfl
@[simp] theorem State.setStage_plt : (s.setStage a x).plt = s.plt := rfl
@[simp] theorem State.setStage_svy : (s.setStage a x).svy = s.svy := rfl
@[simp] theorem State.setStage_par : (s.setStage a x).par = s.par := rfl
@[simp] theorem State.setStage_fch : (s.setStage a x).fch = s.fch := rfl
@[simp] theorem State.setStage_trv : (s.setStage a x).trv = s.trv := rfl
@[simp] theorem State.setStage_lanes : (s.setStage a x).lanes = s.lanes := rfl
@[simp] theorem State.setStage_bays : (s.setStage a x).bays = s.bays := rfl
@[simp] theorem State.setStage_til : (s.setStage a x).til = s.til := rfl
@[simp] theorem State.setStage_dram : (s.setStage a x).dram = s.dram := rfl
@[simp] theorem State.setStage_cip : (s.setStage a x).cip = s.cip := rfl
@[simp] theorem State.setStage_ctr : (s.setStage a x).ctr = s.ctr := rfl
@[simp] theorem State.setStage_por : (s.setStage a x).por = s.por := rfl
@[simp] theorem State.setStage_srv : (s.setStage a x).srv = s.srv := rfl
@[simp] theorem State.setStage_start : (s.setStage a x).start = s.start := rfl
@[simp] theorem State.slotOf_setStage : (s.setStage a x).slotOf a = x := by simp [State.slotOf, State.setStage]
theorem State.slotOf_setStage_ne {j : Nat} (h : j ≠ a) : (s.setStage a x).slotOf j = s.slotOf j := by
  simp [State.slotOf, State.setStage, h]
end

section
variable {s : State} {p : Nat} {x : Option Pool}
@[simp] theorem State.setPool_pending : (s.setPool p x).pending = s.pending := rfl
@[simp] theorem State.setPool_now : (s.setPool p x).now = s.now := rfl
@[simp] theorem State.setPool_fresh : (s.setPool p x).fresh = s.fresh := rfl
@[simp] theorem State.setPool_out : (s.setPool p x).out = s.out := rfl
@[simp] theorem State.setPool_regs : (s.setPool p x).regs = s.regs := rfl
@[simp] theorem State.setPool_flt : (s.setPool p x).flt = s.flt := rfl
@[simp] theorem State.setPool_links : (s.setPool p x).links = s.links := rfl
@[simp] theorem State.setPool_pin : (s.setPool p x).pin = s.pin := rfl
@[simp] theorem State.setPool_gaz : (s.setPool p x).gaz = s.gaz := rfl
@[simp] theorem State.setPool_dat : (s.setPool p x).dat = s.dat := rfl
@[simp] theorem State.setPool_mgmt : (s.setPool p x).mgmt = s.mgmt := rfl
@[simp] theorem State.setPool_pwr : (s.setPool p x).pwr = s.pwr := rfl
@[simp] theorem State.setPool_ports : (s.setPool p x).ports = s.ports := rfl
@[simp] theorem State.setPool_fns : (s.setPool p x).fns = s.fns := rfl
@[simp] theorem State.setPool_ctls : (s.setPool p x).ctls = s.ctls := rfl
@[simp] theorem State.setPool_sqs : (s.setPool p x).sqs = s.sqs := rfl
@[simp] theorem State.setPool_cqs : (s.setPool p x).cqs = s.cqs := rfl
@[simp] theorem State.setPool_cmds : (s.setPool p x).cmds = s.cmds := rfl
@[simp] theorem State.setPool_cpls : (s.setPool p x).cpls = s.cpls := rfl
@[simp] theorem State.setPool_classes : (s.setPool p x).classes = s.classes := rfl
@[simp] theorem State.setPool_buckets : (s.setPool p x).buckets = s.buckets := rfl
@[simp] theorem State.setPool_window : (s.setPool p x).window = s.window := rfl
@[simp] theorem State.setPool_inbox : (s.setPool p x).inbox = s.inbox := rfl
@[simp] theorem State.setPool_mbx : (s.setPool p x).mbx = s.mbx := rfl
@[simp] theorem State.setPool_ops : (s.setPool p x).ops = s.ops := rfl
@[simp] theorem State.setPool_nextHandle : (s.setPool p x).nextHandle = s.nextHandle := rfl
@[simp] theorem State.setPool_stats : (s.setPool p x).stats = s.stats := rfl
@[simp] theorem State.setPool_media : (s.setPool p x).media = s.media := rfl
@[simp] theorem State.setPool_plt : (s.setPool p x).plt = s.plt := rfl
@[simp] theorem State.setPool_svy : (s.setPool p x).svy = s.svy := rfl
@[simp] theorem State.setPool_par : (s.setPool p x).par = s.par := rfl
@[simp] theorem State.setPool_fch : (s.setPool p x).fch = s.fch := rfl
@[simp] theorem State.setPool_trv : (s.setPool p x).trv = s.trv := rfl
@[simp] theorem State.setPool_lanes : (s.setPool p x).lanes = s.lanes := rfl
@[simp] theorem State.setPool_bays : (s.setPool p x).bays = s.bays := rfl
@[simp] theorem State.setPool_til : (s.setPool p x).til = s.til := rfl
@[simp] theorem State.setPool_dram : (s.setPool p x).dram = s.dram := rfl
@[simp] theorem State.setPool_cip : (s.setPool p x).cip = s.cip := rfl
@[simp] theorem State.setPool_ctr : (s.setPool p x).ctr = s.ctr := rfl
@[simp] theorem State.setPool_por : (s.setPool p x).por = s.por := rfl
@[simp] theorem State.setPool_srv : (s.setPool p x).srv = s.srv := rfl
@[simp] theorem State.setPool_start : (s.setPool p x).start = s.start := rfl
@[simp] theorem State.poolOf_setPool : (s.setPool p x).poolOf p = x := by simp [State.poolOf, State.setPool]
theorem State.poolOf_setPool_ne {j : Nat} (h : j ≠ p) : (s.setPool p x).poolOf j = s.poolOf j := by
  simp [State.poolOf, State.setPool, h]
end

section
variable {s : State} {n : Nat} {x : Option Ns}
@[simp] theorem State.setNs_pending : (s.setNs n x).pending = s.pending := rfl
@[simp] theorem State.setNs_now : (s.setNs n x).now = s.now := rfl
@[simp] theorem State.setNs_fresh : (s.setNs n x).fresh = s.fresh := rfl
@[simp] theorem State.setNs_out : (s.setNs n x).out = s.out := rfl
@[simp] theorem State.setNs_regs : (s.setNs n x).regs = s.regs := rfl
@[simp] theorem State.setNs_flt : (s.setNs n x).flt = s.flt := rfl
@[simp] theorem State.setNs_links : (s.setNs n x).links = s.links := rfl
@[simp] theorem State.setNs_pin : (s.setNs n x).pin = s.pin := rfl
@[simp] theorem State.setNs_gaz : (s.setNs n x).gaz = s.gaz := rfl
@[simp] theorem State.setNs_dat : (s.setNs n x).dat = s.dat := rfl
@[simp] theorem State.setNs_mgmt : (s.setNs n x).mgmt = s.mgmt := rfl
@[simp] theorem State.setNs_pwr : (s.setNs n x).pwr = s.pwr := rfl
@[simp] theorem State.setNs_ports : (s.setNs n x).ports = s.ports := rfl
@[simp] theorem State.setNs_fns : (s.setNs n x).fns = s.fns := rfl
@[simp] theorem State.setNs_ctls : (s.setNs n x).ctls = s.ctls := rfl
@[simp] theorem State.setNs_sqs : (s.setNs n x).sqs = s.sqs := rfl
@[simp] theorem State.setNs_cqs : (s.setNs n x).cqs = s.cqs := rfl
@[simp] theorem State.setNs_cmds : (s.setNs n x).cmds = s.cmds := rfl
@[simp] theorem State.setNs_cpls : (s.setNs n x).cpls = s.cpls := rfl
@[simp] theorem State.setNs_classes : (s.setNs n x).classes = s.classes := rfl
@[simp] theorem State.setNs_buckets : (s.setNs n x).buckets = s.buckets := rfl
@[simp] theorem State.setNs_window : (s.setNs n x).window = s.window := rfl
@[simp] theorem State.setNs_inbox : (s.setNs n x).inbox = s.inbox := rfl
@[simp] theorem State.setNs_mbx : (s.setNs n x).mbx = s.mbx := rfl
@[simp] theorem State.setNs_ops : (s.setNs n x).ops = s.ops := rfl
@[simp] theorem State.setNs_nextHandle : (s.setNs n x).nextHandle = s.nextHandle := rfl
@[simp] theorem State.setNs_stats : (s.setNs n x).stats = s.stats := rfl
@[simp] theorem State.setNs_media : (s.setNs n x).media = s.media := rfl
@[simp] theorem State.setNs_plt : (s.setNs n x).plt = s.plt := rfl
@[simp] theorem State.setNs_svy : (s.setNs n x).svy = s.svy := rfl
@[simp] theorem State.setNs_par : (s.setNs n x).par = s.par := rfl
@[simp] theorem State.setNs_fch : (s.setNs n x).fch = s.fch := rfl
@[simp] theorem State.setNs_trv : (s.setNs n x).trv = s.trv := rfl
@[simp] theorem State.setNs_lanes : (s.setNs n x).lanes = s.lanes := rfl
@[simp] theorem State.setNs_bays : (s.setNs n x).bays = s.bays := rfl
@[simp] theorem State.setNs_til : (s.setNs n x).til = s.til := rfl
@[simp] theorem State.setNs_dram : (s.setNs n x).dram = s.dram := rfl
@[simp] theorem State.setNs_cip : (s.setNs n x).cip = s.cip := rfl
@[simp] theorem State.setNs_ctr : (s.setNs n x).ctr = s.ctr := rfl
@[simp] theorem State.setNs_por : (s.setNs n x).por = s.por := rfl
@[simp] theorem State.setNs_srv : (s.setNs n x).srv = s.srv := rfl
@[simp] theorem State.setNs_start : (s.setNs n x).start = s.start := rfl
@[simp] theorem State.nsOf_setNs : (s.setNs n x).nsOf n = x := by simp [State.nsOf, State.setNs]
theorem State.nsOf_setNs_ne {j : Nat} (h : j ≠ n) : (s.setNs n x).nsOf j = s.nsOf j := by
  simp [State.nsOf, State.setNs, h]
end

section
variable {s : State} {n : Nat} {x : Dram}
@[simp] theorem State.setDram_pending : (s.setDram n x).pending = s.pending := rfl
@[simp] theorem State.setDram_now : (s.setDram n x).now = s.now := rfl
@[simp] theorem State.setDram_fresh : (s.setDram n x).fresh = s.fresh := rfl
@[simp] theorem State.setDram_out : (s.setDram n x).out = s.out := rfl
@[simp] theorem State.setDram_regs : (s.setDram n x).regs = s.regs := rfl
@[simp] theorem State.setDram_flt : (s.setDram n x).flt = s.flt := rfl
@[simp] theorem State.setDram_links : (s.setDram n x).links = s.links := rfl
@[simp] theorem State.setDram_pin : (s.setDram n x).pin = s.pin := rfl
@[simp] theorem State.setDram_gaz : (s.setDram n x).gaz = s.gaz := rfl
@[simp] theorem State.setDram_dat : (s.setDram n x).dat = s.dat := rfl
@[simp] theorem State.setDram_mgmt : (s.setDram n x).mgmt = s.mgmt := rfl
@[simp] theorem State.setDram_pwr : (s.setDram n x).pwr = s.pwr := rfl
@[simp] theorem State.setDram_ports : (s.setDram n x).ports = s.ports := rfl
@[simp] theorem State.setDram_fns : (s.setDram n x).fns = s.fns := rfl
@[simp] theorem State.setDram_ctls : (s.setDram n x).ctls = s.ctls := rfl
@[simp] theorem State.setDram_sqs : (s.setDram n x).sqs = s.sqs := rfl
@[simp] theorem State.setDram_cqs : (s.setDram n x).cqs = s.cqs := rfl
@[simp] theorem State.setDram_cmds : (s.setDram n x).cmds = s.cmds := rfl
@[simp] theorem State.setDram_cpls : (s.setDram n x).cpls = s.cpls := rfl
@[simp] theorem State.setDram_classes : (s.setDram n x).classes = s.classes := rfl
@[simp] theorem State.setDram_buckets : (s.setDram n x).buckets = s.buckets := rfl
@[simp] theorem State.setDram_window : (s.setDram n x).window = s.window := rfl
@[simp] theorem State.setDram_inbox : (s.setDram n x).inbox = s.inbox := rfl
@[simp] theorem State.setDram_mbx : (s.setDram n x).mbx = s.mbx := rfl
@[simp] theorem State.setDram_ops : (s.setDram n x).ops = s.ops := rfl
@[simp] theorem State.setDram_nextHandle : (s.setDram n x).nextHandle = s.nextHandle := rfl
@[simp] theorem State.setDram_stats : (s.setDram n x).stats = s.stats := rfl
@[simp] theorem State.setDram_media : (s.setDram n x).media = s.media := rfl
@[simp] theorem State.setDram_plt : (s.setDram n x).plt = s.plt := rfl
@[simp] theorem State.setDram_atl : (s.setDram n x).atl = s.atl := rfl
@[simp] theorem State.setDram_svy : (s.setDram n x).svy = s.svy := rfl
@[simp] theorem State.setDram_par : (s.setDram n x).par = s.par := rfl
@[simp] theorem State.setDram_fch : (s.setDram n x).fch = s.fch := rfl
@[simp] theorem State.setDram_trv : (s.setDram n x).trv = s.trv := rfl
@[simp] theorem State.setDram_lanes : (s.setDram n x).lanes = s.lanes := rfl
@[simp] theorem State.setDram_bays : (s.setDram n x).bays = s.bays := rfl
@[simp] theorem State.setDram_til : (s.setDram n x).til = s.til := rfl
@[simp] theorem State.setDram_cip : (s.setDram n x).cip = s.cip := rfl
@[simp] theorem State.setDram_ctr : (s.setDram n x).ctr = s.ctr := rfl
@[simp] theorem State.setDram_por : (s.setDram n x).por = s.por := rfl
@[simp] theorem State.setDram_srv : (s.setDram n x).srv = s.srv := rfl
@[simp] theorem State.setDram_start : (s.setDram n x).start = s.start := rfl
@[simp] theorem State.dramCh_setDram : (s.setDram n x).dramCh n = x := by simp [State.dramCh, State.setDram]
theorem State.dramCh_setDram_ne {j : Nat} (h : j ≠ n) : (s.setDram n x).dramCh j = s.dramCh j := by
  simp [State.dramCh, State.setDram, h]
end

section
variable {s : State} {d : Nat} {x : Ctx}
@[simp] theorem State.setCtx_pending : (s.setCtx d x).pending = s.pending := rfl
@[simp] theorem State.setCtx_now : (s.setCtx d x).now = s.now := rfl
@[simp] theorem State.setCtx_fresh : (s.setCtx d x).fresh = s.fresh := rfl
@[simp] theorem State.setCtx_out : (s.setCtx d x).out = s.out := rfl
@[simp] theorem State.setCtx_regs : (s.setCtx d x).regs = s.regs := rfl
@[simp] theorem State.setCtx_flt : (s.setCtx d x).flt = s.flt := rfl
@[simp] theorem State.setCtx_links : (s.setCtx d x).links = s.links := rfl
@[simp] theorem State.setCtx_pin : (s.setCtx d x).pin = s.pin := rfl
@[simp] theorem State.setCtx_gaz : (s.setCtx d x).gaz = s.gaz := rfl
@[simp] theorem State.setCtx_dat : (s.setCtx d x).dat = s.dat := rfl
@[simp] theorem State.setCtx_mgmt : (s.setCtx d x).mgmt = s.mgmt := rfl
@[simp] theorem State.setCtx_pwr : (s.setCtx d x).pwr = s.pwr := rfl
@[simp] theorem State.setCtx_ports : (s.setCtx d x).ports = s.ports := rfl
@[simp] theorem State.setCtx_fns : (s.setCtx d x).fns = s.fns := rfl
@[simp] theorem State.setCtx_ctls : (s.setCtx d x).ctls = s.ctls := rfl
@[simp] theorem State.setCtx_sqs : (s.setCtx d x).sqs = s.sqs := rfl
@[simp] theorem State.setCtx_cqs : (s.setCtx d x).cqs = s.cqs := rfl
@[simp] theorem State.setCtx_cmds : (s.setCtx d x).cmds = s.cmds := rfl
@[simp] theorem State.setCtx_cpls : (s.setCtx d x).cpls = s.cpls := rfl
@[simp] theorem State.setCtx_classes : (s.setCtx d x).classes = s.classes := rfl
@[simp] theorem State.setCtx_buckets : (s.setCtx d x).buckets = s.buckets := rfl
@[simp] theorem State.setCtx_window : (s.setCtx d x).window = s.window := rfl
@[simp] theorem State.setCtx_inbox : (s.setCtx d x).inbox = s.inbox := rfl
@[simp] theorem State.setCtx_mbx : (s.setCtx d x).mbx = s.mbx := rfl
@[simp] theorem State.setCtx_ops : (s.setCtx d x).ops = s.ops := rfl
@[simp] theorem State.setCtx_nextHandle : (s.setCtx d x).nextHandle = s.nextHandle := rfl
@[simp] theorem State.setCtx_stats : (s.setCtx d x).stats = s.stats := rfl
@[simp] theorem State.setCtx_media : (s.setCtx d x).media = s.media := rfl
@[simp] theorem State.setCtx_plt : (s.setCtx d x).plt = s.plt := rfl
@[simp] theorem State.setCtx_atl : (s.setCtx d x).atl = s.atl := rfl
@[simp] theorem State.setCtx_svy : (s.setCtx d x).svy = s.svy := rfl
@[simp] theorem State.setCtx_par : (s.setCtx d x).par = s.par := rfl
@[simp] theorem State.setCtx_fch : (s.setCtx d x).fch = s.fch := rfl
@[simp] theorem State.setCtx_lanes : (s.setCtx d x).lanes = s.lanes := rfl
@[simp] theorem State.setCtx_bays : (s.setCtx d x).bays = s.bays := rfl
@[simp] theorem State.setCtx_til : (s.setCtx d x).til = s.til := rfl
@[simp] theorem State.setCtx_dram : (s.setCtx d x).dram = s.dram := rfl
@[simp] theorem State.setCtx_cip : (s.setCtx d x).cip = s.cip := rfl
@[simp] theorem State.setCtx_ctr : (s.setCtx d x).ctr = s.ctr := rfl
@[simp] theorem State.setCtx_por : (s.setCtx d x).por = s.por := rfl
@[simp] theorem State.setCtx_srv : (s.setCtx d x).srv = s.srv := rfl
@[simp] theorem State.setCtx_start : (s.setCtx d x).start = s.start := rfl
@[simp] theorem State.ctxOf_setCtx : (s.setCtx d x).ctxOf d = x := by simp [State.ctxOf, State.setCtx]
theorem State.ctxOf_setCtx_ne {j : Nat} (h : j ≠ d) : (s.setCtx d x).ctxOf j = s.ctxOf j := by
  simp [State.ctxOf, State.setCtx, h]
end

section
variable {s : State} {d : Nat}
@[simp] theorem State.newEpoch_pending : (s.newEpoch d).pending = s.pending := rfl
@[simp] theorem State.newEpoch_now : (s.newEpoch d).now = s.now := rfl
@[simp] theorem State.newEpoch_fresh : (s.newEpoch d).fresh = s.fresh := rfl
@[simp] theorem State.newEpoch_out : (s.newEpoch d).out = s.out := rfl
@[simp] theorem State.newEpoch_regs : (s.newEpoch d).regs = s.regs := rfl
@[simp] theorem State.newEpoch_flt : (s.newEpoch d).flt = s.flt := rfl
@[simp] theorem State.newEpoch_links : (s.newEpoch d).links = s.links := rfl
@[simp] theorem State.newEpoch_pin : (s.newEpoch d).pin = s.pin := rfl
@[simp] theorem State.newEpoch_gaz : (s.newEpoch d).gaz = s.gaz := rfl
@[simp] theorem State.newEpoch_dat : (s.newEpoch d).dat = s.dat := rfl
@[simp] theorem State.newEpoch_mgmt : (s.newEpoch d).mgmt = s.mgmt := rfl
@[simp] theorem State.newEpoch_pwr : (s.newEpoch d).pwr = s.pwr := rfl
@[simp] theorem State.newEpoch_ports : (s.newEpoch d).ports = s.ports := rfl
@[simp] theorem State.newEpoch_fns : (s.newEpoch d).fns = s.fns := rfl
@[simp] theorem State.newEpoch_ctls : (s.newEpoch d).ctls = s.ctls := rfl
@[simp] theorem State.newEpoch_sqs : (s.newEpoch d).sqs = s.sqs := rfl
@[simp] theorem State.newEpoch_cqs : (s.newEpoch d).cqs = s.cqs := rfl
@[simp] theorem State.newEpoch_cmds : (s.newEpoch d).cmds = s.cmds := rfl
@[simp] theorem State.newEpoch_cpls : (s.newEpoch d).cpls = s.cpls := rfl
@[simp] theorem State.newEpoch_classes : (s.newEpoch d).classes = s.classes := rfl
@[simp] theorem State.newEpoch_buckets : (s.newEpoch d).buckets = s.buckets := rfl
@[simp] theorem State.newEpoch_window : (s.newEpoch d).window = s.window := rfl
@[simp] theorem State.newEpoch_inbox : (s.newEpoch d).inbox = s.inbox := rfl
@[simp] theorem State.newEpoch_mbx : (s.newEpoch d).mbx = s.mbx := rfl
@[simp] theorem State.newEpoch_ops : (s.newEpoch d).ops = s.ops := rfl
@[simp] theorem State.newEpoch_nextHandle : (s.newEpoch d).nextHandle = s.nextHandle := rfl
@[simp] theorem State.newEpoch_stats : (s.newEpoch d).stats = s.stats := rfl
@[simp] theorem State.newEpoch_media : (s.newEpoch d).media = s.media := rfl
@[simp] theorem State.newEpoch_atl : (s.newEpoch d).atl = s.atl := rfl
@[simp] theorem State.newEpoch_svy : (s.newEpoch d).svy = s.svy := rfl
@[simp] theorem State.newEpoch_fch : (s.newEpoch d).fch = s.fch := rfl
@[simp] theorem State.newEpoch_trv : (s.newEpoch d).trv = s.trv := rfl
@[simp] theorem State.newEpoch_lanes : (s.newEpoch d).lanes = s.lanes := rfl
@[simp] theorem State.newEpoch_bays : (s.newEpoch d).bays = s.bays := rfl
@[simp] theorem State.newEpoch_til : (s.newEpoch d).til = s.til := rfl
@[simp] theorem State.newEpoch_dram : (s.newEpoch d).dram = s.dram := rfl
@[simp] theorem State.newEpoch_cip : (s.newEpoch d).cip = s.cip := rfl
@[simp] theorem State.newEpoch_ctr : (s.newEpoch d).ctr = s.ctr := rfl
@[simp] theorem State.newEpoch_por : (s.newEpoch d).por = s.por := rfl
@[simp] theorem State.newEpoch_srv : (s.newEpoch d).srv = s.srv := rfl
@[simp] theorem State.newEpoch_start : (s.newEpoch d).start = s.start := rfl
end

section
variable {s : State} {d e : Nat}
@[simp] theorem State.bindDie_pending : (s.bindDie d e).pending = s.pending := rfl
@[simp] theorem State.bindDie_now : (s.bindDie d e).now = s.now := rfl
@[simp] theorem State.bindDie_fresh : (s.bindDie d e).fresh = s.fresh := rfl
@[simp] theorem State.bindDie_out : (s.bindDie d e).out = s.out := rfl
@[simp] theorem State.bindDie_regs : (s.bindDie d e).regs = s.regs := rfl
@[simp] theorem State.bindDie_flt : (s.bindDie d e).flt = s.flt := rfl
@[simp] theorem State.bindDie_links : (s.bindDie d e).links = s.links := rfl
@[simp] theorem State.bindDie_pin : (s.bindDie d e).pin = s.pin := rfl
@[simp] theorem State.bindDie_gaz : (s.bindDie d e).gaz = s.gaz := rfl
@[simp] theorem State.bindDie_dat : (s.bindDie d e).dat = s.dat := rfl
@[simp] theorem State.bindDie_mgmt : (s.bindDie d e).mgmt = s.mgmt := rfl
@[simp] theorem State.bindDie_pwr : (s.bindDie d e).pwr = s.pwr := rfl
@[simp] theorem State.bindDie_ports : (s.bindDie d e).ports = s.ports := rfl
@[simp] theorem State.bindDie_fns : (s.bindDie d e).fns = s.fns := rfl
@[simp] theorem State.bindDie_ctls : (s.bindDie d e).ctls = s.ctls := rfl
@[simp] theorem State.bindDie_sqs : (s.bindDie d e).sqs = s.sqs := rfl
@[simp] theorem State.bindDie_cqs : (s.bindDie d e).cqs = s.cqs := rfl
@[simp] theorem State.bindDie_cmds : (s.bindDie d e).cmds = s.cmds := rfl
@[simp] theorem State.bindDie_cpls : (s.bindDie d e).cpls = s.cpls := rfl
@[simp] theorem State.bindDie_classes : (s.bindDie d e).classes = s.classes := rfl
@[simp] theorem State.bindDie_buckets : (s.bindDie d e).buckets = s.buckets := rfl
@[simp] theorem State.bindDie_window : (s.bindDie d e).window = s.window := rfl
@[simp] theorem State.bindDie_inbox : (s.bindDie d e).inbox = s.inbox := rfl
@[simp] theorem State.bindDie_mbx : (s.bindDie d e).mbx = s.mbx := rfl
@[simp] theorem State.bindDie_ops : (s.bindDie d e).ops = s.ops := rfl
@[simp] theorem State.bindDie_nextHandle : (s.bindDie d e).nextHandle = s.nextHandle := rfl
@[simp] theorem State.bindDie_stats : (s.bindDie d e).stats = s.stats := rfl
@[simp] theorem State.bindDie_media : (s.bindDie d e).media = s.media := rfl
@[simp] theorem State.bindDie_atl : (s.bindDie d e).atl = s.atl := rfl
@[simp] theorem State.bindDie_svy : (s.bindDie d e).svy = s.svy := rfl
@[simp] theorem State.bindDie_par : (s.bindDie d e).par = s.par := rfl
@[simp] theorem State.bindDie_fch : (s.bindDie d e).fch = s.fch := rfl
@[simp] theorem State.bindDie_trv : (s.bindDie d e).trv = s.trv := rfl
@[simp] theorem State.bindDie_lanes : (s.bindDie d e).lanes = s.lanes := rfl
@[simp] theorem State.bindDie_bays : (s.bindDie d e).bays = s.bays := rfl
@[simp] theorem State.bindDie_til : (s.bindDie d e).til = s.til := rfl
@[simp] theorem State.bindDie_dram : (s.bindDie d e).dram = s.dram := rfl
@[simp] theorem State.bindDie_cip : (s.bindDie d e).cip = s.cip := rfl
@[simp] theorem State.bindDie_ctr : (s.bindDie d e).ctr = s.ctr := rfl
@[simp] theorem State.bindDie_por : (s.bindDie d e).por = s.por := rfl
@[simp] theorem State.bindDie_srv : (s.bindDie d e).srv = s.srv := rfl
@[simp] theorem State.bindDie_start : (s.bindDie d e).start = s.start := rfl
end

section
variable {s : State} {d e old : Nat}
@[simp] theorem State.deferMove_pending : (s.deferMove d e old).pending = s.pending := rfl
@[simp] theorem State.deferMove_now : (s.deferMove d e old).now = s.now := rfl
@[simp] theorem State.deferMove_fresh : (s.deferMove d e old).fresh = s.fresh := rfl
@[simp] theorem State.deferMove_out : (s.deferMove d e old).out = s.out := rfl
@[simp] theorem State.deferMove_regs : (s.deferMove d e old).regs = s.regs := rfl
@[simp] theorem State.deferMove_flt : (s.deferMove d e old).flt = s.flt := rfl
@[simp] theorem State.deferMove_links : (s.deferMove d e old).links = s.links := rfl
@[simp] theorem State.deferMove_pin : (s.deferMove d e old).pin = s.pin := rfl
@[simp] theorem State.deferMove_gaz : (s.deferMove d e old).gaz = s.gaz := rfl
@[simp] theorem State.deferMove_dat : (s.deferMove d e old).dat = s.dat := rfl
@[simp] theorem State.deferMove_mgmt : (s.deferMove d e old).mgmt = s.mgmt := rfl
@[simp] theorem State.deferMove_pwr : (s.deferMove d e old).pwr = s.pwr := rfl
@[simp] theorem State.deferMove_ports : (s.deferMove d e old).ports = s.ports := rfl
@[simp] theorem State.deferMove_fns : (s.deferMove d e old).fns = s.fns := rfl
@[simp] theorem State.deferMove_ctls : (s.deferMove d e old).ctls = s.ctls := rfl
@[simp] theorem State.deferMove_sqs : (s.deferMove d e old).sqs = s.sqs := rfl
@[simp] theorem State.deferMove_cqs : (s.deferMove d e old).cqs = s.cqs := rfl
@[simp] theorem State.deferMove_cmds : (s.deferMove d e old).cmds = s.cmds := rfl
@[simp] theorem State.deferMove_cpls : (s.deferMove d e old).cpls = s.cpls := rfl
@[simp] theorem State.deferMove_classes : (s.deferMove d e old).classes = s.classes := rfl
@[simp] theorem State.deferMove_buckets : (s.deferMove d e old).buckets = s.buckets := rfl
@[simp] theorem State.deferMove_window : (s.deferMove d e old).window = s.window := rfl
@[simp] theorem State.deferMove_inbox : (s.deferMove d e old).inbox = s.inbox := rfl
@[simp] theorem State.deferMove_mbx : (s.deferMove d e old).mbx = s.mbx := rfl
@[simp] theorem State.deferMove_ops : (s.deferMove d e old).ops = s.ops := rfl
@[simp] theorem State.deferMove_nextHandle : (s.deferMove d e old).nextHandle = s.nextHandle := rfl
@[simp] theorem State.deferMove_stats : (s.deferMove d e old).stats = s.stats := rfl
@[simp] theorem State.deferMove_media : (s.deferMove d e old).media = s.media := rfl
@[simp] theorem State.deferMove_atl : (s.deferMove d e old).atl = s.atl := rfl
@[simp] theorem State.deferMove_svy : (s.deferMove d e old).svy = s.svy := rfl
@[simp] theorem State.deferMove_par : (s.deferMove d e old).par = s.par := rfl
@[simp] theorem State.deferMove_fch : (s.deferMove d e old).fch = s.fch := rfl
@[simp] theorem State.deferMove_trv : (s.deferMove d e old).trv = s.trv := rfl
@[simp] theorem State.deferMove_lanes : (s.deferMove d e old).lanes = s.lanes := rfl
@[simp] theorem State.deferMove_bays : (s.deferMove d e old).bays = s.bays := rfl
@[simp] theorem State.deferMove_til : (s.deferMove d e old).til = s.til := rfl
@[simp] theorem State.deferMove_dram : (s.deferMove d e old).dram = s.dram := rfl
@[simp] theorem State.deferMove_cip : (s.deferMove d e old).cip = s.cip := rfl
@[simp] theorem State.deferMove_ctr : (s.deferMove d e old).ctr = s.ctr := rfl
@[simp] theorem State.deferMove_por : (s.deferMove d e old).por = s.por := rfl
@[simp] theorem State.deferMove_srv : (s.deferMove d e old).srv = s.srv := rfl
@[simp] theorem State.deferMove_start : (s.deferMove d e old).start = s.start := rfl
end

section
variable {s : State} {d : Nat} {r : Option Running}
@[simp] theorem State.setRunning_pending : (s.setRunning d r).pending = s.pending := rfl
@[simp] theorem State.setRunning_now : (s.setRunning d r).now = s.now := rfl
@[simp] theorem State.setRunning_fresh : (s.setRunning d r).fresh = s.fresh := rfl
@[simp] theorem State.setRunning_out : (s.setRunning d r).out = s.out := rfl
@[simp] theorem State.setRunning_regs : (s.setRunning d r).regs = s.regs := rfl
@[simp] theorem State.setRunning_flt : (s.setRunning d r).flt = s.flt := rfl
@[simp] theorem State.setRunning_links : (s.setRunning d r).links = s.links := rfl
@[simp] theorem State.setRunning_pin : (s.setRunning d r).pin = s.pin := rfl
@[simp] theorem State.setRunning_gaz : (s.setRunning d r).gaz = s.gaz := rfl
@[simp] theorem State.setRunning_dat : (s.setRunning d r).dat = s.dat := rfl
@[simp] theorem State.setRunning_mgmt : (s.setRunning d r).mgmt = s.mgmt := rfl
@[simp] theorem State.setRunning_pwr : (s.setRunning d r).pwr = s.pwr := rfl
@[simp] theorem State.setRunning_ports : (s.setRunning d r).ports = s.ports := rfl
@[simp] theorem State.setRunning_fns : (s.setRunning d r).fns = s.fns := rfl
@[simp] theorem State.setRunning_ctls : (s.setRunning d r).ctls = s.ctls := rfl
@[simp] theorem State.setRunning_sqs : (s.setRunning d r).sqs = s.sqs := rfl
@[simp] theorem State.setRunning_cqs : (s.setRunning d r).cqs = s.cqs := rfl
@[simp] theorem State.setRunning_cmds : (s.setRunning d r).cmds = s.cmds := rfl
@[simp] theorem State.setRunning_cpls : (s.setRunning d r).cpls = s.cpls := rfl
@[simp] theorem State.setRunning_classes : (s.setRunning d r).classes = s.classes := rfl
@[simp] theorem State.setRunning_buckets : (s.setRunning d r).buckets = s.buckets := rfl
@[simp] theorem State.setRunning_window : (s.setRunning d r).window = s.window := rfl
@[simp] theorem State.setRunning_inbox : (s.setRunning d r).inbox = s.inbox := rfl
@[simp] theorem State.setRunning_mbx : (s.setRunning d r).mbx = s.mbx := rfl
@[simp] theorem State.setRunning_ops : (s.setRunning d r).ops = s.ops := rfl
@[simp] theorem State.setRunning_nextHandle : (s.setRunning d r).nextHandle = s.nextHandle := rfl
@[simp] theorem State.setRunning_stats : (s.setRunning d r).stats = s.stats := rfl
@[simp] theorem State.setRunning_media : (s.setRunning d r).media = s.media := rfl
@[simp] theorem State.setRunning_atl : (s.setRunning d r).atl = s.atl := rfl
@[simp] theorem State.setRunning_svy : (s.setRunning d r).svy = s.svy := rfl
@[simp] theorem State.setRunning_par : (s.setRunning d r).par = s.par := rfl
@[simp] theorem State.setRunning_fch : (s.setRunning d r).fch = s.fch := rfl
@[simp] theorem State.setRunning_trv : (s.setRunning d r).trv = s.trv := rfl
@[simp] theorem State.setRunning_lanes : (s.setRunning d r).lanes = s.lanes := rfl
@[simp] theorem State.setRunning_bays : (s.setRunning d r).bays = s.bays := rfl
@[simp] theorem State.setRunning_til : (s.setRunning d r).til = s.til := rfl
@[simp] theorem State.setRunning_dram : (s.setRunning d r).dram = s.dram := rfl
@[simp] theorem State.setRunning_cip : (s.setRunning d r).cip = s.cip := rfl
@[simp] theorem State.setRunning_ctr : (s.setRunning d r).ctr = s.ctr := rfl
@[simp] theorem State.setRunning_por : (s.setRunning d r).por = s.por := rfl
@[simp] theorem State.setRunning_srv : (s.setRunning d r).srv = s.srv := rfl
@[simp] theorem State.setRunning_start : (s.setRunning d r).start = s.start := rfl
@[simp] theorem State.runningOp_setRunning : (s.setRunning d r).runningOp d = r := by simp [State.runningOp, State.setRunning]
theorem State.runningOp_setRunning_ne {j : Nat} (h : j ≠ d) : (s.setRunning d r).runningOp j = s.runningOp j := by
  simp [State.runningOp, State.setRunning, h]
end

section
variable {s : State} {d : Nat} {l : List Closed}
@[simp] theorem State.setClosed_pending : (s.setClosed d l).pending = s.pending := rfl
@[simp] theorem State.setClosed_now : (s.setClosed d l).now = s.now := rfl
@[simp] theorem State.setClosed_fresh : (s.setClosed d l).fresh = s.fresh := rfl
@[simp] theorem State.setClosed_out : (s.setClosed d l).out = s.out := rfl
@[simp] theorem State.setClosed_regs : (s.setClosed d l).regs = s.regs := rfl
@[simp] theorem State.setClosed_flt : (s.setClosed d l).flt = s.flt := rfl
@[simp] theorem State.setClosed_links : (s.setClosed d l).links = s.links := rfl
@[simp] theorem State.setClosed_pin : (s.setClosed d l).pin = s.pin := rfl
@[simp] theorem State.setClosed_gaz : (s.setClosed d l).gaz = s.gaz := rfl
@[simp] theorem State.setClosed_dat : (s.setClosed d l).dat = s.dat := rfl
@[simp] theorem State.setClosed_mgmt : (s.setClosed d l).mgmt = s.mgmt := rfl
@[simp] theorem State.setClosed_pwr : (s.setClosed d l).pwr = s.pwr := rfl
@[simp] theorem State.setClosed_ports : (s.setClosed d l).ports = s.ports := rfl
@[simp] theorem State.setClosed_fns : (s.setClosed d l).fns = s.fns := rfl
@[simp] theorem State.setClosed_ctls : (s.setClosed d l).ctls = s.ctls := rfl
@[simp] theorem State.setClosed_sqs : (s.setClosed d l).sqs = s.sqs := rfl
@[simp] theorem State.setClosed_cqs : (s.setClosed d l).cqs = s.cqs := rfl
@[simp] theorem State.setClosed_cmds : (s.setClosed d l).cmds = s.cmds := rfl
@[simp] theorem State.setClosed_cpls : (s.setClosed d l).cpls = s.cpls := rfl
@[simp] theorem State.setClosed_classes : (s.setClosed d l).classes = s.classes := rfl
@[simp] theorem State.setClosed_buckets : (s.setClosed d l).buckets = s.buckets := rfl
@[simp] theorem State.setClosed_window : (s.setClosed d l).window = s.window := rfl
@[simp] theorem State.setClosed_inbox : (s.setClosed d l).inbox = s.inbox := rfl
@[simp] theorem State.setClosed_mbx : (s.setClosed d l).mbx = s.mbx := rfl
@[simp] theorem State.setClosed_ops : (s.setClosed d l).ops = s.ops := rfl
@[simp] theorem State.setClosed_nextHandle : (s.setClosed d l).nextHandle = s.nextHandle := rfl
@[simp] theorem State.setClosed_stats : (s.setClosed d l).stats = s.stats := rfl
@[simp] theorem State.setClosed_media : (s.setClosed d l).media = s.media := rfl
@[simp] theorem State.setClosed_atl : (s.setClosed d l).atl = s.atl := rfl
@[simp] theorem State.setClosed_svy : (s.setClosed d l).svy = s.svy := rfl
@[simp] theorem State.setClosed_par : (s.setClosed d l).par = s.par := rfl
@[simp] theorem State.setClosed_fch : (s.setClosed d l).fch = s.fch := rfl
@[simp] theorem State.setClosed_trv : (s.setClosed d l).trv = s.trv := rfl
@[simp] theorem State.setClosed_lanes : (s.setClosed d l).lanes = s.lanes := rfl
@[simp] theorem State.setClosed_bays : (s.setClosed d l).bays = s.bays := rfl
@[simp] theorem State.setClosed_til : (s.setClosed d l).til = s.til := rfl
@[simp] theorem State.setClosed_dram : (s.setClosed d l).dram = s.dram := rfl
@[simp] theorem State.setClosed_cip : (s.setClosed d l).cip = s.cip := rfl
@[simp] theorem State.setClosed_ctr : (s.setClosed d l).ctr = s.ctr := rfl
@[simp] theorem State.setClosed_por : (s.setClosed d l).por = s.por := rfl
@[simp] theorem State.setClosed_srv : (s.setClosed d l).srv = s.srv := rfl
@[simp] theorem State.setClosed_start : (s.setClosed d l).start = s.start := rfl
@[simp] theorem State.closedList_setClosed : (s.setClosed d l).closedList d = l := by simp [State.closedList, State.setClosed]
theorem State.closedList_setClosed_ne {j : Nat} (h : j ≠ d) : (s.setClosed d l).closedList j = s.closedList j := by
  simp [State.closedList, State.setClosed, h]
end

section
variable {s : State} {b : Nat} {x : Bay}
@[simp] theorem State.setBay_pending : (s.setBay b x).pending = s.pending := rfl
@[simp] theorem State.setBay_now : (s.setBay b x).now = s.now := rfl
@[simp] theorem State.setBay_fresh : (s.setBay b x).fresh = s.fresh := rfl
@[simp] theorem State.setBay_out : (s.setBay b x).out = s.out := rfl
@[simp] theorem State.setBay_regs : (s.setBay b x).regs = s.regs := rfl
@[simp] theorem State.setBay_flt : (s.setBay b x).flt = s.flt := rfl
@[simp] theorem State.setBay_links : (s.setBay b x).links = s.links := rfl
@[simp] theorem State.setBay_pin : (s.setBay b x).pin = s.pin := rfl
@[simp] theorem State.setBay_gaz : (s.setBay b x).gaz = s.gaz := rfl
@[simp] theorem State.setBay_dat : (s.setBay b x).dat = s.dat := rfl
@[simp] theorem State.setBay_mgmt : (s.setBay b x).mgmt = s.mgmt := rfl
@[simp] theorem State.setBay_pwr : (s.setBay b x).pwr = s.pwr := rfl
@[simp] theorem State.setBay_ports : (s.setBay b x).ports = s.ports := rfl
@[simp] theorem State.setBay_fns : (s.setBay b x).fns = s.fns := rfl
@[simp] theorem State.setBay_ctls : (s.setBay b x).ctls = s.ctls := rfl
@[simp] theorem State.setBay_sqs : (s.setBay b x).sqs = s.sqs := rfl
@[simp] theorem State.setBay_cqs : (s.setBay b x).cqs = s.cqs := rfl
@[simp] theorem State.setBay_cmds : (s.setBay b x).cmds = s.cmds := rfl
@[simp] theorem State.setBay_cpls : (s.setBay b x).cpls = s.cpls := rfl
@[simp] theorem State.setBay_classes : (s.setBay b x).classes = s.classes := rfl
@[simp] theorem State.setBay_buckets : (s.setBay b x).buckets = s.buckets := rfl
@[simp] theorem State.setBay_window : (s.setBay b x).window = s.window := rfl
@[simp] theorem State.setBay_inbox : (s.setBay b x).inbox = s.inbox := rfl
@[simp] theorem State.setBay_mbx : (s.setBay b x).mbx = s.mbx := rfl
@[simp] theorem State.setBay_ops : (s.setBay b x).ops = s.ops := rfl
@[simp] theorem State.setBay_nextHandle : (s.setBay b x).nextHandle = s.nextHandle := rfl
@[simp] theorem State.setBay_stats : (s.setBay b x).stats = s.stats := rfl
@[simp] theorem State.setBay_media : (s.setBay b x).media = s.media := rfl
@[simp] theorem State.setBay_plt : (s.setBay b x).plt = s.plt := rfl
@[simp] theorem State.setBay_atl : (s.setBay b x).atl = s.atl := rfl
@[simp] theorem State.setBay_svy : (s.setBay b x).svy = s.svy := rfl
@[simp] theorem State.setBay_par : (s.setBay b x).par = s.par := rfl
@[simp] theorem State.setBay_fch : (s.setBay b x).fch = s.fch := rfl
@[simp] theorem State.setBay_trv : (s.setBay b x).trv = s.trv := rfl
@[simp] theorem State.setBay_lanes : (s.setBay b x).lanes = s.lanes := rfl
@[simp] theorem State.setBay_til : (s.setBay b x).til = s.til := rfl
@[simp] theorem State.setBay_dram : (s.setBay b x).dram = s.dram := rfl
@[simp] theorem State.setBay_cip : (s.setBay b x).cip = s.cip := rfl
@[simp] theorem State.setBay_ctr : (s.setBay b x).ctr = s.ctr := rfl
@[simp] theorem State.setBay_por : (s.setBay b x).por = s.por := rfl
@[simp] theorem State.setBay_srv : (s.setBay b x).srv = s.srv := rfl
@[simp] theorem State.setBay_start : (s.setBay b x).start = s.start := rfl
@[simp] theorem State.bay_setBay : (s.setBay b x).bay b = x := by simp [State.bay, State.setBay]
theorem State.bay_setBay_ne {j : Nat} (h : j ≠ b) : (s.setBay b x).bay j = s.bay j := by
  simp [State.bay, State.setBay, h]
end

section
variable {s : State} {d : Nat} {x : Die}
@[simp] theorem State.setDie_pending : (s.setDie d x).pending = s.pending := rfl
@[simp] theorem State.setDie_now : (s.setDie d x).now = s.now := rfl
@[simp] theorem State.setDie_fresh : (s.setDie d x).fresh = s.fresh := rfl
@[simp] theorem State.setDie_out : (s.setDie d x).out = s.out := rfl
@[simp] theorem State.setDie_regs : (s.setDie d x).regs = s.regs := rfl
@[simp] theorem State.setDie_flt : (s.setDie d x).flt = s.flt := rfl
@[simp] theorem State.setDie_links : (s.setDie d x).links = s.links := rfl
@[simp] theorem State.setDie_pin : (s.setDie d x).pin = s.pin := rfl
@[simp] theorem State.setDie_gaz : (s.setDie d x).gaz = s.gaz := rfl
@[simp] theorem State.setDie_dat : (s.setDie d x).dat = s.dat := rfl
@[simp] theorem State.setDie_mgmt : (s.setDie d x).mgmt = s.mgmt := rfl
@[simp] theorem State.setDie_pwr : (s.setDie d x).pwr = s.pwr := rfl
@[simp] theorem State.setDie_ports : (s.setDie d x).ports = s.ports := rfl
@[simp] theorem State.setDie_fns : (s.setDie d x).fns = s.fns := rfl
@[simp] theorem State.setDie_ctls : (s.setDie d x).ctls = s.ctls := rfl
@[simp] theorem State.setDie_sqs : (s.setDie d x).sqs = s.sqs := rfl
@[simp] theorem State.setDie_cqs : (s.setDie d x).cqs = s.cqs := rfl
@[simp] theorem State.setDie_cmds : (s.setDie d x).cmds = s.cmds := rfl
@[simp] theorem State.setDie_cpls : (s.setDie d x).cpls = s.cpls := rfl
@[simp] theorem State.setDie_classes : (s.setDie d x).classes = s.classes := rfl
@[simp] theorem State.setDie_buckets : (s.setDie d x).buckets = s.buckets := rfl
@[simp] theorem State.setDie_window : (s.setDie d x).window = s.window := rfl
@[simp] theorem State.setDie_inbox : (s.setDie d x).inbox = s.inbox := rfl
@[simp] theorem State.setDie_mbx : (s.setDie d x).mbx = s.mbx := rfl
@[simp] theorem State.setDie_ops : (s.setDie d x).ops = s.ops := rfl
@[simp] theorem State.setDie_nextHandle : (s.setDie d x).nextHandle = s.nextHandle := rfl
@[simp] theorem State.setDie_stats : (s.setDie d x).stats = s.stats := rfl
@[simp] theorem State.setDie_media : (s.setDie d x).media = s.media := rfl
@[simp] theorem State.setDie_plt : (s.setDie d x).plt = s.plt := rfl
@[simp] theorem State.setDie_atl : (s.setDie d x).atl = s.atl := rfl
@[simp] theorem State.setDie_svy : (s.setDie d x).svy = s.svy := rfl
@[simp] theorem State.setDie_par : (s.setDie d x).par = s.par := rfl
@[simp] theorem State.setDie_trv : (s.setDie d x).trv = s.trv := rfl
@[simp] theorem State.setDie_lanes : (s.setDie d x).lanes = s.lanes := rfl
@[simp] theorem State.setDie_bays : (s.setDie d x).bays = s.bays := rfl
@[simp] theorem State.setDie_til : (s.setDie d x).til = s.til := rfl
@[simp] theorem State.setDie_dram : (s.setDie d x).dram = s.dram := rfl
@[simp] theorem State.setDie_cip : (s.setDie d x).cip = s.cip := rfl
@[simp] theorem State.setDie_ctr : (s.setDie d x).ctr = s.ctr := rfl
@[simp] theorem State.setDie_por : (s.setDie d x).por = s.por := rfl
@[simp] theorem State.setDie_srv : (s.setDie d x).srv = s.srv := rfl
@[simp] theorem State.setDie_start : (s.setDie d x).start = s.start := rfl
@[simp] theorem State.dieOf_setDie : (s.setDie d x).dieOf d = x := by simp [State.dieOf, State.setDie]
theorem State.dieOf_setDie_ne {j : Nat} (h : j ≠ d) : (s.setDie d x).dieOf j = s.dieOf j := by
  simp [State.dieOf, State.setDie, h]
end

section
variable {s : State} {c : Nat} {x : Chan}
@[simp] theorem State.setChan_pending : (s.setChan c x).pending = s.pending := rfl
@[simp] theorem State.setChan_now : (s.setChan c x).now = s.now := rfl
@[simp] theorem State.setChan_fresh : (s.setChan c x).fresh = s.fresh := rfl
@[simp] theorem State.setChan_out : (s.setChan c x).out = s.out := rfl
@[simp] theorem State.setChan_regs : (s.setChan c x).regs = s.regs := rfl
@[simp] theorem State.setChan_flt : (s.setChan c x).flt = s.flt := rfl
@[simp] theorem State.setChan_links : (s.setChan c x).links = s.links := rfl
@[simp] theorem State.setChan_pin : (s.setChan c x).pin = s.pin := rfl
@[simp] theorem State.setChan_gaz : (s.setChan c x).gaz = s.gaz := rfl
@[simp] theorem State.setChan_dat : (s.setChan c x).dat = s.dat := rfl
@[simp] theorem State.setChan_mgmt : (s.setChan c x).mgmt = s.mgmt := rfl
@[simp] theorem State.setChan_pwr : (s.setChan c x).pwr = s.pwr := rfl
@[simp] theorem State.setChan_ports : (s.setChan c x).ports = s.ports := rfl
@[simp] theorem State.setChan_fns : (s.setChan c x).fns = s.fns := rfl
@[simp] theorem State.setChan_ctls : (s.setChan c x).ctls = s.ctls := rfl
@[simp] theorem State.setChan_sqs : (s.setChan c x).sqs = s.sqs := rfl
@[simp] theorem State.setChan_cqs : (s.setChan c x).cqs = s.cqs := rfl
@[simp] theorem State.setChan_cmds : (s.setChan c x).cmds = s.cmds := rfl
@[simp] theorem State.setChan_cpls : (s.setChan c x).cpls = s.cpls := rfl
@[simp] theorem State.setChan_classes : (s.setChan c x).classes = s.classes := rfl
@[simp] theorem State.setChan_buckets : (s.setChan c x).buckets = s.buckets := rfl
@[simp] theorem State.setChan_window : (s.setChan c x).window = s.window := rfl
@[simp] theorem State.setChan_inbox : (s.setChan c x).inbox = s.inbox := rfl
@[simp] theorem State.setChan_mbx : (s.setChan c x).mbx = s.mbx := rfl
@[simp] theorem State.setChan_ops : (s.setChan c x).ops = s.ops := rfl
@[simp] theorem State.setChan_nextHandle : (s.setChan c x).nextHandle = s.nextHandle := rfl
@[simp] theorem State.setChan_stats : (s.setChan c x).stats = s.stats := rfl
@[simp] theorem State.setChan_media : (s.setChan c x).media = s.media := rfl
@[simp] theorem State.setChan_plt : (s.setChan c x).plt = s.plt := rfl
@[simp] theorem State.setChan_atl : (s.setChan c x).atl = s.atl := rfl
@[simp] theorem State.setChan_svy : (s.setChan c x).svy = s.svy := rfl
@[simp] theorem State.setChan_par : (s.setChan c x).par = s.par := rfl
@[simp] theorem State.setChan_trv : (s.setChan c x).trv = s.trv := rfl
@[simp] theorem State.setChan_lanes : (s.setChan c x).lanes = s.lanes := rfl
@[simp] theorem State.setChan_bays : (s.setChan c x).bays = s.bays := rfl
@[simp] theorem State.setChan_til : (s.setChan c x).til = s.til := rfl
@[simp] theorem State.setChan_dram : (s.setChan c x).dram = s.dram := rfl
@[simp] theorem State.setChan_cip : (s.setChan c x).cip = s.cip := rfl
@[simp] theorem State.setChan_ctr : (s.setChan c x).ctr = s.ctr := rfl
@[simp] theorem State.setChan_por : (s.setChan c x).por = s.por := rfl
@[simp] theorem State.setChan_srv : (s.setChan c x).srv = s.srv := rfl
@[simp] theorem State.setChan_start : (s.setChan c x).start = s.start := rfl
@[simp] theorem State.chan_setChan : (s.setChan c x).chan c = x := by simp [State.chan, State.setChan]
theorem State.chan_setChan_ne {j : Nat} (h : j ≠ c) : (s.setChan c x).chan j = s.chan j := by
  simp [State.chan, State.setChan, h]
end

section
variable {s : State} {b : Nat} {x : Band}
@[simp] theorem State.setBand_pending : (s.setBand b x).pending = s.pending := rfl
@[simp] theorem State.setBand_now : (s.setBand b x).now = s.now := rfl
@[simp] theorem State.setBand_fresh : (s.setBand b x).fresh = s.fresh := rfl
@[simp] theorem State.setBand_out : (s.setBand b x).out = s.out := rfl
@[simp] theorem State.setBand_regs : (s.setBand b x).regs = s.regs := rfl
@[simp] theorem State.setBand_flt : (s.setBand b x).flt = s.flt := rfl
@[simp] theorem State.setBand_links : (s.setBand b x).links = s.links := rfl
@[simp] theorem State.setBand_pin : (s.setBand b x).pin = s.pin := rfl
@[simp] theorem State.setBand_gaz : (s.setBand b x).gaz = s.gaz := rfl
@[simp] theorem State.setBand_dat : (s.setBand b x).dat = s.dat := rfl
@[simp] theorem State.setBand_mgmt : (s.setBand b x).mgmt = s.mgmt := rfl
@[simp] theorem State.setBand_pwr : (s.setBand b x).pwr = s.pwr := rfl
@[simp] theorem State.setBand_ports : (s.setBand b x).ports = s.ports := rfl
@[simp] theorem State.setBand_fns : (s.setBand b x).fns = s.fns := rfl
@[simp] theorem State.setBand_ctls : (s.setBand b x).ctls = s.ctls := rfl
@[simp] theorem State.setBand_sqs : (s.setBand b x).sqs = s.sqs := rfl
@[simp] theorem State.setBand_cqs : (s.setBand b x).cqs = s.cqs := rfl
@[simp] theorem State.setBand_cmds : (s.setBand b x).cmds = s.cmds := rfl
@[simp] theorem State.setBand_cpls : (s.setBand b x).cpls = s.cpls := rfl
@[simp] theorem State.setBand_classes : (s.setBand b x).classes = s.classes := rfl
@[simp] theorem State.setBand_buckets : (s.setBand b x).buckets = s.buckets := rfl
@[simp] theorem State.setBand_window : (s.setBand b x).window = s.window := rfl
@[simp] theorem State.setBand_inbox : (s.setBand b x).inbox = s.inbox := rfl
@[simp] theorem State.setBand_mbx : (s.setBand b x).mbx = s.mbx := rfl
@[simp] theorem State.setBand_ops : (s.setBand b x).ops = s.ops := rfl
@[simp] theorem State.setBand_nextHandle : (s.setBand b x).nextHandle = s.nextHandle := rfl
@[simp] theorem State.setBand_stats : (s.setBand b x).stats = s.stats := rfl
@[simp] theorem State.setBand_media : (s.setBand b x).media = s.media := rfl
@[simp] theorem State.setBand_plt : (s.setBand b x).plt = s.plt := rfl
@[simp] theorem State.setBand_atl : (s.setBand b x).atl = s.atl := rfl
@[simp] theorem State.setBand_par : (s.setBand b x).par = s.par := rfl
@[simp] theorem State.setBand_fch : (s.setBand b x).fch = s.fch := rfl
@[simp] theorem State.setBand_trv : (s.setBand b x).trv = s.trv := rfl
@[simp] theorem State.setBand_lanes : (s.setBand b x).lanes = s.lanes := rfl
@[simp] theorem State.setBand_bays : (s.setBand b x).bays = s.bays := rfl
@[simp] theorem State.setBand_til : (s.setBand b x).til = s.til := rfl
@[simp] theorem State.setBand_dram : (s.setBand b x).dram = s.dram := rfl
@[simp] theorem State.setBand_cip : (s.setBand b x).cip = s.cip := rfl
@[simp] theorem State.setBand_ctr : (s.setBand b x).ctr = s.ctr := rfl
@[simp] theorem State.setBand_por : (s.setBand b x).por = s.por := rfl
@[simp] theorem State.setBand_srv : (s.setBand b x).srv = s.srv := rfl
@[simp] theorem State.setBand_start : (s.setBand b x).start = s.start := rfl
@[simp] theorem State.bandRec_setBand : (s.setBand b x).bandRec b = x := by simp [State.bandRec, State.setBand]
theorem State.bandRec_setBand_ne {j : Nat} (h : j ≠ b) : (s.setBand b x).bandRec j = s.bandRec j := by
  simp [State.bandRec, State.setBand, h]
end

section
variable {s : State} {l : Nat} {x : Lane}
@[simp] theorem State.setLane_pending : (s.setLane l x).pending = s.pending := rfl
@[simp] theorem State.setLane_now : (s.setLane l x).now = s.now := rfl
@[simp] theorem State.setLane_fresh : (s.setLane l x).fresh = s.fresh := rfl
@[simp] theorem State.setLane_out : (s.setLane l x).out = s.out := rfl
@[simp] theorem State.setLane_regs : (s.setLane l x).regs = s.regs := rfl
@[simp] theorem State.setLane_flt : (s.setLane l x).flt = s.flt := rfl
@[simp] theorem State.setLane_links : (s.setLane l x).links = s.links := rfl
@[simp] theorem State.setLane_pin : (s.setLane l x).pin = s.pin := rfl
@[simp] theorem State.setLane_gaz : (s.setLane l x).gaz = s.gaz := rfl
@[simp] theorem State.setLane_dat : (s.setLane l x).dat = s.dat := rfl
@[simp] theorem State.setLane_mgmt : (s.setLane l x).mgmt = s.mgmt := rfl
@[simp] theorem State.setLane_pwr : (s.setLane l x).pwr = s.pwr := rfl
@[simp] theorem State.setLane_ports : (s.setLane l x).ports = s.ports := rfl
@[simp] theorem State.setLane_fns : (s.setLane l x).fns = s.fns := rfl
@[simp] theorem State.setLane_ctls : (s.setLane l x).ctls = s.ctls := rfl
@[simp] theorem State.setLane_sqs : (s.setLane l x).sqs = s.sqs := rfl
@[simp] theorem State.setLane_cqs : (s.setLane l x).cqs = s.cqs := rfl
@[simp] theorem State.setLane_cmds : (s.setLane l x).cmds = s.cmds := rfl
@[simp] theorem State.setLane_cpls : (s.setLane l x).cpls = s.cpls := rfl
@[simp] theorem State.setLane_classes : (s.setLane l x).classes = s.classes := rfl
@[simp] theorem State.setLane_buckets : (s.setLane l x).buckets = s.buckets := rfl
@[simp] theorem State.setLane_window : (s.setLane l x).window = s.window := rfl
@[simp] theorem State.setLane_inbox : (s.setLane l x).inbox = s.inbox := rfl
@[simp] theorem State.setLane_mbx : (s.setLane l x).mbx = s.mbx := rfl
@[simp] theorem State.setLane_ops : (s.setLane l x).ops = s.ops := rfl
@[simp] theorem State.setLane_nextHandle : (s.setLane l x).nextHandle = s.nextHandle := rfl
@[simp] theorem State.setLane_stats : (s.setLane l x).stats = s.stats := rfl
@[simp] theorem State.setLane_media : (s.setLane l x).media = s.media := rfl
@[simp] theorem State.setLane_plt : (s.setLane l x).plt = s.plt := rfl
@[simp] theorem State.setLane_atl : (s.setLane l x).atl = s.atl := rfl
@[simp] theorem State.setLane_svy : (s.setLane l x).svy = s.svy := rfl
@[simp] theorem State.setLane_par : (s.setLane l x).par = s.par := rfl
@[simp] theorem State.setLane_fch : (s.setLane l x).fch = s.fch := rfl
@[simp] theorem State.setLane_trv : (s.setLane l x).trv = s.trv := rfl
@[simp] theorem State.setLane_bays : (s.setLane l x).bays = s.bays := rfl
@[simp] theorem State.setLane_til : (s.setLane l x).til = s.til := rfl
@[simp] theorem State.setLane_dram : (s.setLane l x).dram = s.dram := rfl
@[simp] theorem State.setLane_cip : (s.setLane l x).cip = s.cip := rfl
@[simp] theorem State.setLane_ctr : (s.setLane l x).ctr = s.ctr := rfl
@[simp] theorem State.setLane_por : (s.setLane l x).por = s.por := rfl
@[simp] theorem State.setLane_srv : (s.setLane l x).srv = s.srv := rfl
@[simp] theorem State.setLane_start : (s.setLane l x).start = s.start := rfl
@[simp] theorem State.laneOf_setLane : (s.setLane l x).laneOf l = x := by simp [State.laneOf, State.setLane]
theorem State.laneOf_setLane_ne {j : Nat} (h : j ≠ l) : (s.setLane l x).laneOf j = s.laneOf j := by
  simp [State.laneOf, State.setLane, h]
end

section
variable {s : State} {n : Nat} {k : KSlot}
@[simp] theorem State.setKslot_pending : (s.setKslot n k).pending = s.pending := rfl
@[simp] theorem State.setKslot_now : (s.setKslot n k).now = s.now := rfl
@[simp] theorem State.setKslot_fresh : (s.setKslot n k).fresh = s.fresh := rfl
@[simp] theorem State.setKslot_out : (s.setKslot n k).out = s.out := rfl
@[simp] theorem State.setKslot_regs : (s.setKslot n k).regs = s.regs := rfl
@[simp] theorem State.setKslot_flt : (s.setKslot n k).flt = s.flt := rfl
@[simp] theorem State.setKslot_links : (s.setKslot n k).links = s.links := rfl
@[simp] theorem State.setKslot_pin : (s.setKslot n k).pin = s.pin := rfl
@[simp] theorem State.setKslot_gaz : (s.setKslot n k).gaz = s.gaz := rfl
@[simp] theorem State.setKslot_dat : (s.setKslot n k).dat = s.dat := rfl
@[simp] theorem State.setKslot_mgmt : (s.setKslot n k).mgmt = s.mgmt := rfl
@[simp] theorem State.setKslot_pwr : (s.setKslot n k).pwr = s.pwr := rfl
@[simp] theorem State.setKslot_ports : (s.setKslot n k).ports = s.ports := rfl
@[simp] theorem State.setKslot_fns : (s.setKslot n k).fns = s.fns := rfl
@[simp] theorem State.setKslot_ctls : (s.setKslot n k).ctls = s.ctls := rfl
@[simp] theorem State.setKslot_sqs : (s.setKslot n k).sqs = s.sqs := rfl
@[simp] theorem State.setKslot_cqs : (s.setKslot n k).cqs = s.cqs := rfl
@[simp] theorem State.setKslot_cmds : (s.setKslot n k).cmds = s.cmds := rfl
@[simp] theorem State.setKslot_cpls : (s.setKslot n k).cpls = s.cpls := rfl
@[simp] theorem State.setKslot_classes : (s.setKslot n k).classes = s.classes := rfl
@[simp] theorem State.setKslot_buckets : (s.setKslot n k).buckets = s.buckets := rfl
@[simp] theorem State.setKslot_window : (s.setKslot n k).window = s.window := rfl
@[simp] theorem State.setKslot_inbox : (s.setKslot n k).inbox = s.inbox := rfl
@[simp] theorem State.setKslot_mbx : (s.setKslot n k).mbx = s.mbx := rfl
@[simp] theorem State.setKslot_ops : (s.setKslot n k).ops = s.ops := rfl
@[simp] theorem State.setKslot_nextHandle : (s.setKslot n k).nextHandle = s.nextHandle := rfl
@[simp] theorem State.setKslot_stats : (s.setKslot n k).stats = s.stats := rfl
@[simp] theorem State.setKslot_media : (s.setKslot n k).media = s.media := rfl
@[simp] theorem State.setKslot_plt : (s.setKslot n k).plt = s.plt := rfl
@[simp] theorem State.setKslot_atl : (s.setKslot n k).atl = s.atl := rfl
@[simp] theorem State.setKslot_svy : (s.setKslot n k).svy = s.svy := rfl
@[simp] theorem State.setKslot_par : (s.setKslot n k).par = s.par := rfl
@[simp] theorem State.setKslot_fch : (s.setKslot n k).fch = s.fch := rfl
@[simp] theorem State.setKslot_trv : (s.setKslot n k).trv = s.trv := rfl
@[simp] theorem State.setKslot_lanes : (s.setKslot n k).lanes = s.lanes := rfl
@[simp] theorem State.setKslot_bays : (s.setKslot n k).bays = s.bays := rfl
@[simp] theorem State.setKslot_til : (s.setKslot n k).til = s.til := rfl
@[simp] theorem State.setKslot_dram : (s.setKslot n k).dram = s.dram := rfl
@[simp] theorem State.setKslot_ctr : (s.setKslot n k).ctr = s.ctr := rfl
@[simp] theorem State.setKslot_por : (s.setKslot n k).por = s.por := rfl
@[simp] theorem State.setKslot_srv : (s.setKslot n k).srv = s.srv := rfl
@[simp] theorem State.setKslot_start : (s.setKslot n k).start = s.start := rfl
@[simp] theorem State.kslot_setKslot : (s.setKslot n k).kslot n = k := by simp [State.kslot, State.setKslot]
theorem State.kslot_setKslot_ne {j : Nat} (h : j ≠ n) : (s.setKslot n k).kslot j = s.kslot j := by
  simp [State.kslot, State.setKslot, h]
end

section
variable {s : State} {ep : Nat} {c : SpdmConn}
@[simp] theorem State.setConn_pending : (s.setConn ep c).pending = s.pending := rfl
@[simp] theorem State.setConn_now : (s.setConn ep c).now = s.now := rfl
@[simp] theorem State.setConn_fresh : (s.setConn ep c).fresh = s.fresh := rfl
@[simp] theorem State.setConn_out : (s.setConn ep c).out = s.out := rfl
@[simp] theorem State.setConn_regs : (s.setConn ep c).regs = s.regs := rfl
@[simp] theorem State.setConn_flt : (s.setConn ep c).flt = s.flt := rfl
@[simp] theorem State.setConn_links : (s.setConn ep c).links = s.links := rfl
@[simp] theorem State.setConn_pin : (s.setConn ep c).pin = s.pin := rfl
@[simp] theorem State.setConn_gaz : (s.setConn ep c).gaz = s.gaz := rfl
@[simp] theorem State.setConn_dat : (s.setConn ep c).dat = s.dat := rfl
@[simp] theorem State.setConn_pwr : (s.setConn ep c).pwr = s.pwr := rfl
@[simp] theorem State.setConn_ports : (s.setConn ep c).ports = s.ports := rfl
@[simp] theorem State.setConn_fns : (s.setConn ep c).fns = s.fns := rfl
@[simp] theorem State.setConn_ctls : (s.setConn ep c).ctls = s.ctls := rfl
@[simp] theorem State.setConn_sqs : (s.setConn ep c).sqs = s.sqs := rfl
@[simp] theorem State.setConn_cqs : (s.setConn ep c).cqs = s.cqs := rfl
@[simp] theorem State.setConn_cmds : (s.setConn ep c).cmds = s.cmds := rfl
@[simp] theorem State.setConn_cpls : (s.setConn ep c).cpls = s.cpls := rfl
@[simp] theorem State.setConn_classes : (s.setConn ep c).classes = s.classes := rfl
@[simp] theorem State.setConn_buckets : (s.setConn ep c).buckets = s.buckets := rfl
@[simp] theorem State.setConn_window : (s.setConn ep c).window = s.window := rfl
@[simp] theorem State.setConn_inbox : (s.setConn ep c).inbox = s.inbox := rfl
@[simp] theorem State.setConn_mbx : (s.setConn ep c).mbx = s.mbx := rfl
@[simp] theorem State.setConn_ops : (s.setConn ep c).ops = s.ops := rfl
@[simp] theorem State.setConn_nextHandle : (s.setConn ep c).nextHandle = s.nextHandle := rfl
@[simp] theorem State.setConn_stats : (s.setConn ep c).stats = s.stats := rfl
@[simp] theorem State.setConn_media : (s.setConn ep c).media = s.media := rfl
@[simp] theorem State.setConn_plt : (s.setConn ep c).plt = s.plt := rfl
@[simp] theorem State.setConn_atl : (s.setConn ep c).atl = s.atl := rfl
@[simp] theorem State.setConn_svy : (s.setConn ep c).svy = s.svy := rfl
@[simp] theorem State.setConn_par : (s.setConn ep c).par = s.par := rfl
@[simp] theorem State.setConn_fch : (s.setConn ep c).fch = s.fch := rfl
@[simp] theorem State.setConn_trv : (s.setConn ep c).trv = s.trv := rfl
@[simp] theorem State.setConn_lanes : (s.setConn ep c).lanes = s.lanes := rfl
@[simp] theorem State.setConn_bays : (s.setConn ep c).bays = s.bays := rfl
@[simp] theorem State.setConn_til : (s.setConn ep c).til = s.til := rfl
@[simp] theorem State.setConn_dram : (s.setConn ep c).dram = s.dram := rfl
@[simp] theorem State.setConn_cip : (s.setConn ep c).cip = s.cip := rfl
@[simp] theorem State.setConn_ctr : (s.setConn ep c).ctr = s.ctr := rfl
@[simp] theorem State.setConn_por : (s.setConn ep c).por = s.por := rfl
@[simp] theorem State.setConn_srv : (s.setConn ep c).srv = s.srv := rfl
@[simp] theorem State.setConn_start : (s.setConn ep c).start = s.start := rfl
@[simp] theorem State.conn_setConn : (s.setConn ep c).conn ep = c := by simp [State.conn, State.setConn]
theorem State.conn_setConn_ne {j : Nat} (h : j ≠ ep) : (s.setConn ep c).conn j = s.conn j := by
  simp [State.conn, State.setConn, h]
end

section
variable {s : State} {t : Nat} {x : Tile}
@[simp] theorem State.setTile_pending : (s.setTile t x).pending = s.pending := rfl
@[simp] theorem State.setTile_now : (s.setTile t x).now = s.now := rfl
@[simp] theorem State.setTile_fresh : (s.setTile t x).fresh = s.fresh := rfl
@[simp] theorem State.setTile_out : (s.setTile t x).out = s.out := rfl
@[simp] theorem State.setTile_regs : (s.setTile t x).regs = s.regs := rfl
@[simp] theorem State.setTile_flt : (s.setTile t x).flt = s.flt := rfl
@[simp] theorem State.setTile_links : (s.setTile t x).links = s.links := rfl
@[simp] theorem State.setTile_pin : (s.setTile t x).pin = s.pin := rfl
@[simp] theorem State.setTile_gaz : (s.setTile t x).gaz = s.gaz := rfl
@[simp] theorem State.setTile_dat : (s.setTile t x).dat = s.dat := rfl
@[simp] theorem State.setTile_mgmt : (s.setTile t x).mgmt = s.mgmt := rfl
@[simp] theorem State.setTile_pwr : (s.setTile t x).pwr = s.pwr := rfl
@[simp] theorem State.setTile_ports : (s.setTile t x).ports = s.ports := rfl
@[simp] theorem State.setTile_fns : (s.setTile t x).fns = s.fns := rfl
@[simp] theorem State.setTile_ctls : (s.setTile t x).ctls = s.ctls := rfl
@[simp] theorem State.setTile_sqs : (s.setTile t x).sqs = s.sqs := rfl
@[simp] theorem State.setTile_cqs : (s.setTile t x).cqs = s.cqs := rfl
@[simp] theorem State.setTile_cmds : (s.setTile t x).cmds = s.cmds := rfl
@[simp] theorem State.setTile_cpls : (s.setTile t x).cpls = s.cpls := rfl
@[simp] theorem State.setTile_classes : (s.setTile t x).classes = s.classes := rfl
@[simp] theorem State.setTile_buckets : (s.setTile t x).buckets = s.buckets := rfl
@[simp] theorem State.setTile_window : (s.setTile t x).window = s.window := rfl
@[simp] theorem State.setTile_inbox : (s.setTile t x).inbox = s.inbox := rfl
@[simp] theorem State.setTile_mbx : (s.setTile t x).mbx = s.mbx := rfl
@[simp] theorem State.setTile_ops : (s.setTile t x).ops = s.ops := rfl
@[simp] theorem State.setTile_nextHandle : (s.setTile t x).nextHandle = s.nextHandle := rfl
@[simp] theorem State.setTile_stats : (s.setTile t x).stats = s.stats := rfl
@[simp] theorem State.setTile_media : (s.setTile t x).media = s.media := rfl
@[simp] theorem State.setTile_plt : (s.setTile t x).plt = s.plt := rfl
@[simp] theorem State.setTile_atl : (s.setTile t x).atl = s.atl := rfl
@[simp] theorem State.setTile_svy : (s.setTile t x).svy = s.svy := rfl
@[simp] theorem State.setTile_par : (s.setTile t x).par = s.par := rfl
@[simp] theorem State.setTile_fch : (s.setTile t x).fch = s.fch := rfl
@[simp] theorem State.setTile_trv : (s.setTile t x).trv = s.trv := rfl
@[simp] theorem State.setTile_lanes : (s.setTile t x).lanes = s.lanes := rfl
@[simp] theorem State.setTile_bays : (s.setTile t x).bays = s.bays := rfl
@[simp] theorem State.setTile_dram : (s.setTile t x).dram = s.dram := rfl
@[simp] theorem State.setTile_cip : (s.setTile t x).cip = s.cip := rfl
@[simp] theorem State.setTile_ctr : (s.setTile t x).ctr = s.ctr := rfl
@[simp] theorem State.setTile_por : (s.setTile t x).por = s.por := rfl
@[simp] theorem State.setTile_srv : (s.setTile t x).srv = s.srv := rfl
@[simp] theorem State.setTile_start : (s.setTile t x).start = s.start := rfl
@[simp] theorem State.tileOf_setTile : (s.setTile t x).tileOf t = x := by simp [State.tileOf, State.setTile]
theorem State.tileOf_setTile_ne {j : Nat} (h : j ≠ t) : (s.setTile t x).tileOf j = s.tileOf j := by
  simp [State.tileOf, State.setTile, h]
end

section
variable {s : State} {u : Option UpdSess}
@[simp] theorem State.setSess_pending : (s.setSess u).pending = s.pending := rfl
@[simp] theorem State.setSess_now : (s.setSess u).now = s.now := rfl
@[simp] theorem State.setSess_fresh : (s.setSess u).fresh = s.fresh := rfl
@[simp] theorem State.setSess_out : (s.setSess u).out = s.out := rfl
@[simp] theorem State.setSess_regs : (s.setSess u).regs = s.regs := rfl
@[simp] theorem State.setSess_flt : (s.setSess u).flt = s.flt := rfl
@[simp] theorem State.setSess_links : (s.setSess u).links = s.links := rfl
@[simp] theorem State.setSess_pin : (s.setSess u).pin = s.pin := rfl
@[simp] theorem State.setSess_gaz : (s.setSess u).gaz = s.gaz := rfl
@[simp] theorem State.setSess_dat : (s.setSess u).dat = s.dat := rfl
@[simp] theorem State.setSess_mgmt : (s.setSess u).mgmt = s.mgmt := rfl
@[simp] theorem State.setSess_pwr : (s.setSess u).pwr = s.pwr := rfl
@[simp] theorem State.setSess_ports : (s.setSess u).ports = s.ports := rfl
@[simp] theorem State.setSess_fns : (s.setSess u).fns = s.fns := rfl
@[simp] theorem State.setSess_ctls : (s.setSess u).ctls = s.ctls := rfl
@[simp] theorem State.setSess_sqs : (s.setSess u).sqs = s.sqs := rfl
@[simp] theorem State.setSess_cqs : (s.setSess u).cqs = s.cqs := rfl
@[simp] theorem State.setSess_cmds : (s.setSess u).cmds = s.cmds := rfl
@[simp] theorem State.setSess_cpls : (s.setSess u).cpls = s.cpls := rfl
@[simp] theorem State.setSess_classes : (s.setSess u).classes = s.classes := rfl
@[simp] theorem State.setSess_buckets : (s.setSess u).buckets = s.buckets := rfl
@[simp] theorem State.setSess_window : (s.setSess u).window = s.window := rfl
@[simp] theorem State.setSess_inbox : (s.setSess u).inbox = s.inbox := rfl
@[simp] theorem State.setSess_mbx : (s.setSess u).mbx = s.mbx := rfl
@[simp] theorem State.setSess_ops : (s.setSess u).ops = s.ops := rfl
@[simp] theorem State.setSess_nextHandle : (s.setSess u).nextHandle = s.nextHandle := rfl
@[simp] theorem State.setSess_stats : (s.setSess u).stats = s.stats := rfl
@[simp] theorem State.setSess_media : (s.setSess u).media = s.media := rfl
@[simp] theorem State.setSess_plt : (s.setSess u).plt = s.plt := rfl
@[simp] theorem State.setSess_atl : (s.setSess u).atl = s.atl := rfl
@[simp] theorem State.setSess_svy : (s.setSess u).svy = s.svy := rfl
@[simp] theorem State.setSess_par : (s.setSess u).par = s.par := rfl
@[simp] theorem State.setSess_fch : (s.setSess u).fch = s.fch := rfl
@[simp] theorem State.setSess_trv : (s.setSess u).trv = s.trv := rfl
@[simp] theorem State.setSess_lanes : (s.setSess u).lanes = s.lanes := rfl
@[simp] theorem State.setSess_bays : (s.setSess u).bays = s.bays := rfl
@[simp] theorem State.setSess_til : (s.setSess u).til = s.til := rfl
@[simp] theorem State.setSess_dram : (s.setSess u).dram = s.dram := rfl
@[simp] theorem State.setSess_cip : (s.setSess u).cip = s.cip := rfl
@[simp] theorem State.setSess_ctr : (s.setSess u).ctr = s.ctr := rfl
@[simp] theorem State.setSess_srv : (s.setSess u).srv = s.srv := rfl
@[simp] theorem State.setSess_start : (s.setSess u).start = s.start := rfl
end

section
variable {s : State} {k : Nat} {b : BootSlot}
@[simp] theorem State.setBootSlot_pending : (s.setBootSlot k b).pending = s.pending := rfl
@[simp] theorem State.setBootSlot_now : (s.setBootSlot k b).now = s.now := rfl
@[simp] theorem State.setBootSlot_fresh : (s.setBootSlot k b).fresh = s.fresh := rfl
@[simp] theorem State.setBootSlot_out : (s.setBootSlot k b).out = s.out := rfl
@[simp] theorem State.setBootSlot_regs : (s.setBootSlot k b).regs = s.regs := rfl
@[simp] theorem State.setBootSlot_flt : (s.setBootSlot k b).flt = s.flt := rfl
@[simp] theorem State.setBootSlot_links : (s.setBootSlot k b).links = s.links := rfl
@[simp] theorem State.setBootSlot_pin : (s.setBootSlot k b).pin = s.pin := rfl
@[simp] theorem State.setBootSlot_gaz : (s.setBootSlot k b).gaz = s.gaz := rfl
@[simp] theorem State.setBootSlot_dat : (s.setBootSlot k b).dat = s.dat := rfl
@[simp] theorem State.setBootSlot_mgmt : (s.setBootSlot k b).mgmt = s.mgmt := rfl
@[simp] theorem State.setBootSlot_pwr : (s.setBootSlot k b).pwr = s.pwr := rfl
@[simp] theorem State.setBootSlot_ports : (s.setBootSlot k b).ports = s.ports := rfl
@[simp] theorem State.setBootSlot_fns : (s.setBootSlot k b).fns = s.fns := rfl
@[simp] theorem State.setBootSlot_ctls : (s.setBootSlot k b).ctls = s.ctls := rfl
@[simp] theorem State.setBootSlot_sqs : (s.setBootSlot k b).sqs = s.sqs := rfl
@[simp] theorem State.setBootSlot_cqs : (s.setBootSlot k b).cqs = s.cqs := rfl
@[simp] theorem State.setBootSlot_cmds : (s.setBootSlot k b).cmds = s.cmds := rfl
@[simp] theorem State.setBootSlot_cpls : (s.setBootSlot k b).cpls = s.cpls := rfl
@[simp] theorem State.setBootSlot_classes : (s.setBootSlot k b).classes = s.classes := rfl
@[simp] theorem State.setBootSlot_buckets : (s.setBootSlot k b).buckets = s.buckets := rfl
@[simp] theorem State.setBootSlot_window : (s.setBootSlot k b).window = s.window := rfl
@[simp] theorem State.setBootSlot_inbox : (s.setBootSlot k b).inbox = s.inbox := rfl
@[simp] theorem State.setBootSlot_mbx : (s.setBootSlot k b).mbx = s.mbx := rfl
@[simp] theorem State.setBootSlot_ops : (s.setBootSlot k b).ops = s.ops := rfl
@[simp] theorem State.setBootSlot_nextHandle : (s.setBootSlot k b).nextHandle = s.nextHandle := rfl
@[simp] theorem State.setBootSlot_stats : (s.setBootSlot k b).stats = s.stats := rfl
@[simp] theorem State.setBootSlot_media : (s.setBootSlot k b).media = s.media := rfl
@[simp] theorem State.setBootSlot_plt : (s.setBootSlot k b).plt = s.plt := rfl
@[simp] theorem State.setBootSlot_atl : (s.setBootSlot k b).atl = s.atl := rfl
@[simp] theorem State.setBootSlot_svy : (s.setBootSlot k b).svy = s.svy := rfl
@[simp] theorem State.setBootSlot_par : (s.setBootSlot k b).par = s.par := rfl
@[simp] theorem State.setBootSlot_fch : (s.setBootSlot k b).fch = s.fch := rfl
@[simp] theorem State.setBootSlot_trv : (s.setBootSlot k b).trv = s.trv := rfl
@[simp] theorem State.setBootSlot_lanes : (s.setBootSlot k b).lanes = s.lanes := rfl
@[simp] theorem State.setBootSlot_bays : (s.setBootSlot k b).bays = s.bays := rfl
@[simp] theorem State.setBootSlot_til : (s.setBootSlot k b).til = s.til := rfl
@[simp] theorem State.setBootSlot_dram : (s.setBootSlot k b).dram = s.dram := rfl
@[simp] theorem State.setBootSlot_cip : (s.setBootSlot k b).cip = s.cip := rfl
@[simp] theorem State.setBootSlot_ctr : (s.setBootSlot k b).ctr = s.ctr := rfl
@[simp] theorem State.setBootSlot_srv : (s.setBootSlot k b).srv = s.srv := rfl
@[simp] theorem State.setBootSlot_start : (s.setBootSlot k b).start = s.start := rfl
@[simp] theorem State.bootSlot_setBootSlot : (s.setBootSlot k b).bootSlot k = b := by simp [State.bootSlot, State.setBootSlot]
theorem State.bootSlot_setBootSlot_ne {j : Nat} (h : j ≠ k) : (s.setBootSlot k b).bootSlot j = s.bootSlot j := by
  simp [State.bootSlot, State.setBootSlot, h]
end

section
variable {s : State} {d : Nat} {l : List Nat}
@[simp] theorem State.setSpares_pending : (s.setSpares d l).pending = s.pending := rfl
@[simp] theorem State.setSpares_now : (s.setSpares d l).now = s.now := rfl
@[simp] theorem State.setSpares_fresh : (s.setSpares d l).fresh = s.fresh := rfl
@[simp] theorem State.setSpares_out : (s.setSpares d l).out = s.out := rfl
@[simp] theorem State.setSpares_regs : (s.setSpares d l).regs = s.regs := rfl
@[simp] theorem State.setSpares_flt : (s.setSpares d l).flt = s.flt := rfl
@[simp] theorem State.setSpares_links : (s.setSpares d l).links = s.links := rfl
@[simp] theorem State.setSpares_pin : (s.setSpares d l).pin = s.pin := rfl
@[simp] theorem State.setSpares_gaz : (s.setSpares d l).gaz = s.gaz := rfl
@[simp] theorem State.setSpares_dat : (s.setSpares d l).dat = s.dat := rfl
@[simp] theorem State.setSpares_mgmt : (s.setSpares d l).mgmt = s.mgmt := rfl
@[simp] theorem State.setSpares_pwr : (s.setSpares d l).pwr = s.pwr := rfl
@[simp] theorem State.setSpares_ports : (s.setSpares d l).ports = s.ports := rfl
@[simp] theorem State.setSpares_fns : (s.setSpares d l).fns = s.fns := rfl
@[simp] theorem State.setSpares_ctls : (s.setSpares d l).ctls = s.ctls := rfl
@[simp] theorem State.setSpares_sqs : (s.setSpares d l).sqs = s.sqs := rfl
@[simp] theorem State.setSpares_cqs : (s.setSpares d l).cqs = s.cqs := rfl
@[simp] theorem State.setSpares_cmds : (s.setSpares d l).cmds = s.cmds := rfl
@[simp] theorem State.setSpares_cpls : (s.setSpares d l).cpls = s.cpls := rfl
@[simp] theorem State.setSpares_classes : (s.setSpares d l).classes = s.classes := rfl
@[simp] theorem State.setSpares_buckets : (s.setSpares d l).buckets = s.buckets := rfl
@[simp] theorem State.setSpares_window : (s.setSpares d l).window = s.window := rfl
@[simp] theorem State.setSpares_inbox : (s.setSpares d l).inbox = s.inbox := rfl
@[simp] theorem State.setSpares_mbx : (s.setSpares d l).mbx = s.mbx := rfl
@[simp] theorem State.setSpares_ops : (s.setSpares d l).ops = s.ops := rfl
@[simp] theorem State.setSpares_nextHandle : (s.setSpares d l).nextHandle = s.nextHandle := rfl
@[simp] theorem State.setSpares_stats : (s.setSpares d l).stats = s.stats := rfl
@[simp] theorem State.setSpares_media : (s.setSpares d l).media = s.media := rfl
@[simp] theorem State.setSpares_plt : (s.setSpares d l).plt = s.plt := rfl
@[simp] theorem State.setSpares_atl : (s.setSpares d l).atl = s.atl := rfl
@[simp] theorem State.setSpares_par : (s.setSpares d l).par = s.par := rfl
@[simp] theorem State.setSpares_fch : (s.setSpares d l).fch = s.fch := rfl
@[simp] theorem State.setSpares_trv : (s.setSpares d l).trv = s.trv := rfl
@[simp] theorem State.setSpares_lanes : (s.setSpares d l).lanes = s.lanes := rfl
@[simp] theorem State.setSpares_bays : (s.setSpares d l).bays = s.bays := rfl
@[simp] theorem State.setSpares_til : (s.setSpares d l).til = s.til := rfl
@[simp] theorem State.setSpares_dram : (s.setSpares d l).dram = s.dram := rfl
@[simp] theorem State.setSpares_cip : (s.setSpares d l).cip = s.cip := rfl
@[simp] theorem State.setSpares_ctr : (s.setSpares d l).ctr = s.ctr := rfl
@[simp] theorem State.setSpares_por : (s.setSpares d l).por = s.por := rfl
@[simp] theorem State.setSpares_srv : (s.setSpares d l).srv = s.srv := rfl
@[simp] theorem State.setSpares_start : (s.setSpares d l).start = s.start := rfl
end

section
variable {s : State} {key m : Nat}
@[simp] theorem State.setPoison_pending : (s.setPoison key m).pending = s.pending := rfl
@[simp] theorem State.setPoison_now : (s.setPoison key m).now = s.now := rfl
@[simp] theorem State.setPoison_fresh : (s.setPoison key m).fresh = s.fresh := rfl
@[simp] theorem State.setPoison_out : (s.setPoison key m).out = s.out := rfl
@[simp] theorem State.setPoison_regs : (s.setPoison key m).regs = s.regs := rfl
@[simp] theorem State.setPoison_flt : (s.setPoison key m).flt = s.flt := rfl
@[simp] theorem State.setPoison_links : (s.setPoison key m).links = s.links := rfl
@[simp] theorem State.setPoison_pin : (s.setPoison key m).pin = s.pin := rfl
@[simp] theorem State.setPoison_gaz : (s.setPoison key m).gaz = s.gaz := rfl
@[simp] theorem State.setPoison_dat : (s.setPoison key m).dat = s.dat := rfl
@[simp] theorem State.setPoison_mgmt : (s.setPoison key m).mgmt = s.mgmt := rfl
@[simp] theorem State.setPoison_pwr : (s.setPoison key m).pwr = s.pwr := rfl
@[simp] theorem State.setPoison_ports : (s.setPoison key m).ports = s.ports := rfl
@[simp] theorem State.setPoison_fns : (s.setPoison key m).fns = s.fns := rfl
@[simp] theorem State.setPoison_ctls : (s.setPoison key m).ctls = s.ctls := rfl
@[simp] theorem State.setPoison_sqs : (s.setPoison key m).sqs = s.sqs := rfl
@[simp] theorem State.setPoison_cqs : (s.setPoison key m).cqs = s.cqs := rfl
@[simp] theorem State.setPoison_cmds : (s.setPoison key m).cmds = s.cmds := rfl
@[simp] theorem State.setPoison_cpls : (s.setPoison key m).cpls = s.cpls := rfl
@[simp] theorem State.setPoison_classes : (s.setPoison key m).classes = s.classes := rfl
@[simp] theorem State.setPoison_buckets : (s.setPoison key m).buckets = s.buckets := rfl
@[simp] theorem State.setPoison_window : (s.setPoison key m).window = s.window := rfl
@[simp] theorem State.setPoison_inbox : (s.setPoison key m).inbox = s.inbox := rfl
@[simp] theorem State.setPoison_mbx : (s.setPoison key m).mbx = s.mbx := rfl
@[simp] theorem State.setPoison_ops : (s.setPoison key m).ops = s.ops := rfl
@[simp] theorem State.setPoison_nextHandle : (s.setPoison key m).nextHandle = s.nextHandle := rfl
@[simp] theorem State.setPoison_stats : (s.setPoison key m).stats = s.stats := rfl
@[simp] theorem State.setPoison_media : (s.setPoison key m).media = s.media := rfl
@[simp] theorem State.setPoison_plt : (s.setPoison key m).plt = s.plt := rfl
@[simp] theorem State.setPoison_svy : (s.setPoison key m).svy = s.svy := rfl
@[simp] theorem State.setPoison_par : (s.setPoison key m).par = s.par := rfl
@[simp] theorem State.setPoison_fch : (s.setPoison key m).fch = s.fch := rfl
@[simp] theorem State.setPoison_trv : (s.setPoison key m).trv = s.trv := rfl
@[simp] theorem State.setPoison_lanes : (s.setPoison key m).lanes = s.lanes := rfl
@[simp] theorem State.setPoison_bays : (s.setPoison key m).bays = s.bays := rfl
@[simp] theorem State.setPoison_til : (s.setPoison key m).til = s.til := rfl
@[simp] theorem State.setPoison_dram : (s.setPoison key m).dram = s.dram := rfl
@[simp] theorem State.setPoison_cip : (s.setPoison key m).cip = s.cip := rfl
@[simp] theorem State.setPoison_ctr : (s.setPoison key m).ctr = s.ctr := rfl
@[simp] theorem State.setPoison_por : (s.setPoison key m).por = s.por := rfl
@[simp] theorem State.setPoison_srv : (s.setPoison key m).srv = s.srv := rfl
@[simp] theorem State.setPoison_start : (s.setPoison key m).start = s.start := rfl
end

section
variable {s : State} {down : Bool} {l : RLink}
@[simp] theorem State.setLink_pending : (s.setLink down l).pending = s.pending := by cases down <;> rfl
@[simp] theorem State.setLink_now : (s.setLink down l).now = s.now := by cases down <;> rfl
@[simp] theorem State.setLink_fresh : (s.setLink down l).fresh = s.fresh := by cases down <;> rfl
@[simp] theorem State.setLink_out : (s.setLink down l).out = s.out := by cases down <;> rfl
@[simp] theorem State.setLink_regs : (s.setLink down l).regs = s.regs := by cases down <;> rfl
@[simp] theorem State.setLink_flt : (s.setLink down l).flt = s.flt := by cases down <;> rfl
@[simp] theorem State.setLink_links : (s.setLink down l).links = s.links := by cases down <;> rfl
@[simp] theorem State.setLink_pin : (s.setLink down l).pin = s.pin := by cases down <;> rfl
@[simp] theorem State.setLink_gaz : (s.setLink down l).gaz = s.gaz := by cases down <;> rfl
@[simp] theorem State.setLink_dat : (s.setLink down l).dat = s.dat := by cases down <;> rfl
@[simp] theorem State.setLink_mgmt : (s.setLink down l).mgmt = s.mgmt := by cases down <;> rfl
@[simp] theorem State.setLink_pwr : (s.setLink down l).pwr = s.pwr := by cases down <;> rfl
@[simp] theorem State.setLink_ports : (s.setLink down l).ports = s.ports := by cases down <;> rfl
@[simp] theorem State.setLink_fns : (s.setLink down l).fns = s.fns := by cases down <;> rfl
@[simp] theorem State.setLink_ctls : (s.setLink down l).ctls = s.ctls := by cases down <;> rfl
@[simp] theorem State.setLink_sqs : (s.setLink down l).sqs = s.sqs := by cases down <;> rfl
@[simp] theorem State.setLink_cqs : (s.setLink down l).cqs = s.cqs := by cases down <;> rfl
@[simp] theorem State.setLink_cmds : (s.setLink down l).cmds = s.cmds := by cases down <;> rfl
@[simp] theorem State.setLink_cpls : (s.setLink down l).cpls = s.cpls := by cases down <;> rfl
@[simp] theorem State.setLink_classes : (s.setLink down l).classes = s.classes := by cases down <;> rfl
@[simp] theorem State.setLink_buckets : (s.setLink down l).buckets = s.buckets := by cases down <;> rfl
@[simp] theorem State.setLink_window : (s.setLink down l).window = s.window := by cases down <;> rfl
@[simp] theorem State.setLink_inbox : (s.setLink down l).inbox = s.inbox := by cases down <;> rfl
@[simp] theorem State.setLink_mbx : (s.setLink down l).mbx = s.mbx := by cases down <;> rfl
@[simp] theorem State.setLink_ops : (s.setLink down l).ops = s.ops := by cases down <;> rfl
@[simp] theorem State.setLink_nextHandle : (s.setLink down l).nextHandle = s.nextHandle := by cases down <;> rfl
@[simp] theorem State.setLink_stats : (s.setLink down l).stats = s.stats := by cases down <;> rfl
@[simp] theorem State.setLink_media : (s.setLink down l).media = s.media := by cases down <;> rfl
@[simp] theorem State.setLink_plt : (s.setLink down l).plt = s.plt := by cases down <;> rfl
@[simp] theorem State.setLink_atl : (s.setLink down l).atl = s.atl := by cases down <;> rfl
@[simp] theorem State.setLink_svy : (s.setLink down l).svy = s.svy := by cases down <;> rfl
@[simp] theorem State.setLink_par : (s.setLink down l).par = s.par := by cases down <;> rfl
@[simp] theorem State.setLink_fch : (s.setLink down l).fch = s.fch := by cases down <;> rfl
@[simp] theorem State.setLink_trv : (s.setLink down l).trv = s.trv := by cases down <;> rfl
@[simp] theorem State.setLink_lanes : (s.setLink down l).lanes = s.lanes := by cases down <;> rfl
@[simp] theorem State.setLink_bays : (s.setLink down l).bays = s.bays := by cases down <;> rfl
@[simp] theorem State.setLink_til : (s.setLink down l).til = s.til := by cases down <;> rfl
@[simp] theorem State.setLink_dram : (s.setLink down l).dram = s.dram := by cases down <;> rfl
@[simp] theorem State.setLink_cip : (s.setLink down l).cip = s.cip := by cases down <;> rfl
@[simp] theorem State.setLink_ctr : (s.setLink down l).ctr = s.ctr := by cases down <;> rfl
@[simp] theorem State.setLink_srv : (s.setLink down l).srv = s.srv := by cases down <;> rfl
@[simp] theorem State.setLink_start : (s.setLink down l).start = s.start := by cases down <;> rfl
end

end Sys2Proof.Machine
end

