-- ==== Sys2Proof/Tests/Slice0.lean ====
section
/-! SUPPORT. The model's own tests: ill-formed commands the well-formedness checks refuse, for each obligation a witness of its
hypotheses (its own clauses at concrete states), and single steps whose results the spec states. -/

open Sys2Proof Sys2Proof.Machine

namespace Sys2Proof.Tests

-- Many kernel evaluations: one at a time, so that they do not wait on each other in threads of their own.
set_option Elab.async false

/-! ### States to test on -/

/-- A device after start-up: the map ready, admission open, in SERVICE, the bytes of its Cartouche row that are looked at written out. -/
def s0 : State :=
  { State.reset with start := { State.reset.start with step := 13, running := false, envelope := true }, atl := { Atlas.reset with mapReady := true },
                     plt := { Plotter.reset with admitOpen := true }, par := { Par.reset with replayDone := true },
                     por := { Por.reset with otp := [(11, 0#8), (21, 0#8), (44, 5#8), (45, 1#8), (321, 0#8), (512, 4#8), (513, 0#8), (514, 1#8),
                       (515, 2#8), (516, 3#8), (517, 4#8)] } }

/-- `s` with a session of version 3 on the mailbox of PF0. -/
def sess (s : State) : State := s.setMb 0 { Mbx.reset with version := 3 }
def sv : State := sess s0
/-- `s` in a mode. -/
def inMode (s : State) (m : Mode) : State := { s with pwr := { s.pwr with mode := m } }
/-- A request of PF0 with a payload. -/
def rq (l : List Nat) : MbxReq := ⟨0, 3, 7, l.length, true, l⟩
/-- A request whose declared length exceeds the bytes written out. -/
def rqL (n : Nat) (l : List Nat) : MbxReq := ⟨0, 3, 7, n, true, l⟩
/-- A unit's fault words replaced. -/
def fltAs (s : State) (b i : Nat) (f : FltUnit → FltUnit) : State := s.setUnit b i (f (s.unit b i))
/-- A bay in a state. -/
def bayAs (s : State) (b : Nat) (f : Bay → Bay) : State := s.setBay b (f (s.bay b))
/-- A function's place replaced. -/
def fnAs (s : State) (k : Nat) (f : Fn → Fn) : State := s.setFn k (f (s.fnOf k))
/-- A controller replaced. -/
def ctlAs (s : State) (k : Nat) (f : Ctl → Ctl) : State := s.setCtl k (f (s.ctl k))
/-- A die context replaced. -/
def ctxAs (s : State) (d : Nat) (f : Ctx → Ctx) : State := s.setCtx d (f (s.ctxOf d))
/-- A die replaced. -/
def dieAs (s : State) (d : Nat) (f : Die → Die) : State := s.setDie d (f (s.dieOf d))
/-- A channel replaced. -/
def chanAs (s : State) (c : Nat) (f : Chan → Chan) : State := s.setChan c (f (s.chan c))
/-- A band record replaced. -/
def bandAs (s : State) (b : Nat) (f : Band → Band) : State := s.setBand b (f (s.bandRec b))
/-- A DRAM channel replaced. -/
def dramAs (s : State) (c : Nat) (f : Dram → Dram) : State := s.setDram c (f (s.dramCh c))
/-- A key slot replaced. -/
def slotAs (s : State) (k : Nat) (f : KSlot → KSlot) : State := s.setKslot k (f (s.kslot k))

def aSq : Sq := ⟨64, 0, 0, 1, 0, none, false, false, [], false, none, false, none⟩

def aCmd : Cmd :=
  { fn := 255, sq := 1023, cid := 65535, op := 2, kind := .read, cls := 1, deadline := 2000, start := 0, phase := .running,
    accepted := true, nsid := 1, slba := 0, nlb := 8, bytes := 4096, lr := false, fuaBit := false, epoch := 0, readEpochs := [], lists := 0, waitFrom := none, openReads := 0,
    spans := [], zeroLbas := [], rmw := [], waitsSeg := [], stopped := false, suspended := false, earliest := 0, bookings := [], toStage := [], stageLeft := 0, by_ := 0,
    group := 0, outcome := 0, slotReads := [], staged := [], waitsFor := [], ius := [], pinned := [], replanned := false, prog := 0,
    ranges := [], win := none, status := 0 }
/-- One command outstanding. -/
def cmdS (c : Cmd) : State := { fnAs s0 c.fn (fun x => { x with enabled := true }) with cmds := [c] }
def aNs : Ns := ⟨31, 0, 0, 0, 0, 8 * 819, 0, [0, 255], 1, none⟩
/-- One pool of one segment of 4 KiB IUs and one namespace over it, attached to functions 0 and 255. -/
def nsS (s : State) : State :=
  { s with atl := { s.atl with pools := [(31, some ⟨true, 4095, 1⟩)], ns := [(1, some aNs)] } }

def aCq : Cq := ⟨4, 0, 0, true, 0, true, false, 0, none⟩

def aProfile : Profile :=
  ⟨0, 1, 1, 3, 11, 3, 4, 100, 100, 2048, 800, 8000, 80000, 160, 160, 16, 1600, 160, 0, 0, 0, 0, 8, 4, 0, 3000, 1000000,
    90, [], [], 1, 1, 1, 1, 1, 1, 0x84, 0xD4, 0x85, 0xD5, 0, 0, 0, []⟩
/-- Sixteen sheets whose dies of group 127 are present and profiled, on trained channels. -/
def flashS (s : State) (p : Profile) : State :=
  { s with par := { s.par with present := 0xFFFF, usable := 0xFFFF },
           fch := { s.fch with die := (List.range 16).map (fun sh => (128 * sh + 127, { Die.reset with present := true, profile := some 0 })),
                               chan := (List.range 16).map (fun sh => (8 * sh + 7, { Chan.reset with trained := true, discovered := true, rate := 11, lpddr4 := true })),
                               profile := [(0, some p)] } }

/-! ### Ill-formed commands -/

def okEntry : IoEntry := ⟨0, 1, 0, 1, 0, 0, false, false, false, 0, 0, false, none, 0, 0⟩

theorem test_wf_refuses_mailbox_path : (Instr.hello { rq [] with path := 512 }).wf = false := by decide
theorem test_wf_refuses_mailbox_version : (Instr.hello { rq [] with version := 256 }).wf = false := by decide
theorem test_wf_refuses_mailbox_tag : (Instr.hello { rq [] with tag := 65536 }).wf = false := by decide
theorem test_wf_refuses_mailbox_length : (Instr.hello (rqL 1 [])).wf = false := by decide
theorem test_wf_refuses_payload_byte : (Instr.hello (rq [256])).wf = false := by decide
theorem test_wf_refuses_entry_function : (Instr.read { okEntry with fn := 256 }).wf = false := by decide
theorem test_wf_refuses_entry_queue : (Instr.read { okEntry with sq := 0 }).wf = false ∧
    (Instr.read { okEntry with sq := 1024 }).wf = false := by decide
theorem test_wf_refuses_entry_cid : (Instr.read { okEntry with cid := 65536 }).wf = false := by decide
theorem test_wf_refuses_entry_nsid : (Instr.read { okEntry with nsid := 2 ^ 32 }).wf = false := by decide
theorem test_wf_refuses_entry_slba : (Instr.read { okEntry with slba := 2 ^ 64 }).wf = false := by decide
theorem test_wf_refuses_entry_nlb : (Instr.read { okEntry with nlb := 65536 }).wf = false := by decide
theorem test_wf_refuses_entry_fuse : (Instr.read { okEntry with fuse := 4 }).wf = false := by decide
theorem test_wf_refuses_entry_dtype : (Instr.read { okEntry with dtype := 16 }).wf = false := by decide
theorem test_wf_refuses_entry_check : (Instr.read { okEntry with check := 5 }).wf = false := by decide
theorem test_wf_refuses_admin_header : (Instr.asynchronousEventRequest ⟨256, 0, 0⟩).wf = false ∧
    (Instr.asynchronousEventRequest ⟨0, 65536, 0⟩).wf = false ∧ (Instr.asynchronousEventRequest ⟨0, 0, 2 ^ 32⟩).wf = false := by decide
theorem test_wf_refuses_die : (Instr.waitEnd 2048).wf = false := by decide
theorem test_wf_refuses_bay : (Instr.buttonPress 16).wf = false := by decide
theorem test_wf_refuses_function : (Instr.ring 256).wf = false := by decide
theorem test_wf_refuses_channel : (Instr.retrainLate 128).wf = false := by decide
theorem test_wf_refuses_dram_channel : (Instr.dramIssueSlot 12).wf = false := by decide
theorem test_wf_refuses_port : (Instr.perstRelease 2).wf = false := by decide
theorem test_wf_refuses_tile : (Instr.addRef 4096).wf = false := by decide
theorem test_wf_refuses_tile_pool : (Instr.tileReserve 8 1).wf = false := by decide
theorem test_wf_accepts_the_last_of_each : (Instr.waitEnd 2047).wf = true ∧ (Instr.buttonPress 15).wf = true ∧
    (Instr.ring 255).wf = true ∧ (Instr.retrainLate 127).wf = true ∧ (Instr.dramIssueSlot 11).wf = true ∧
    (Instr.perstRelease 1).wf = true ∧ (Instr.addRef 4095).wf = true ∧ (Instr.tileReserve 7 1).wf = true ∧
    (Instr.read okEntry).wf = true ∧ (Instr.hello (rq [255])).wf = true := by decide

/-! ### Witnesses of the hypotheses -/

theorem test_witness_FaultPinFollowsLevelAndPulsesOnce :
    s0.pwr.mode ≠ .stopped ∧ s0.pwr.mode ≠ .vault ∧ s0.start.testHeld = false ∧ s0.pin.pulsing = false ∧
    ({ s0 with pin := ⟨true⟩ } : State).pin.pulsing = true ∧
    15 < unitCount 0x030 ∧ s0.fenced 0x030 15 = false ∧ (s0.unit 0x050 15).isolated = false ∧ s0.tooFew 0x030 = false ∧
    (s0.setFld F.FLT_PIN_CTL_ARMED 0 1).fld F.FLT_PIN_CTL_ARMED 0 = 1 ∧
    (s0.setFld F.FLT_PIN_CTL_ARMED 0 0).fld F.FLT_PIN_CTL_ARMED 0 = 0 := by
  and_intros <;> decide +kernel

def fencedU : State := fltAs s0 0x0B0 255 (fun u => { u with fenced := true })
def isolatedU : State := fltAs s0 0x0B0 255 (fun u => { u with isolated := true, ind := true })

theorem test_witness_FaultsAreCountedFencedAndIndicated :
    hasFence 0x0B0 = true ∧ 255 < unitCount 0x0B0 ∧ s0.fenced 0x0B0 255 = false ∧ (s0.unit 0x0B0 255).isolated = false ∧
    s0.tooFew 0x0B0 = false ∧ hasFence 0x0E0 = false ∧ unitCount 0x0B0 ≤ 256 ∧ fencedU.fenced 0x0B0 255 = true ∧
    causeClass 0x0B0 0x0B = .corrected ∧ causeClass 0x0B0 0x0C = .contained ∧ (isolatedU.unit 0x0B0 255).isolated = true ∧
    isolatedU.fenced 0x0B0 255 = false ∧ (isolatedU.unit 0x0B0 255).ind = true ∧
    causeClass 0x060 0x01 = .corrected ∧ s0.fenced 0x060 0 = false ∧ (s0.unit 0x060 0).isolated = false := by
  and_intros <;> decide +kernel

/-- Field access open, the selection at checker 6 of the last DRAM channel, SINGLE, 255 transactions. -/
def injS : State :=
  (((({ sv with cip := { sv.cip with open_ := true } }.setFld F.FLT_INJ_SEL_BLOCK 0 0x070).setFld F.FLT_INJ_SEL_INSTANCE 0 11).setFld
    F.FLT_INJ_SEL_CHECKER 0 6).setFld F.FLT_INJ_SEL_SINGLE 0 1).setFld F.FLT_INJ_CTL_N 0 255
def injBusyS : State := fltAs injS 0x070 11 (fun u => { u with inj := [⟨6, 1, true⟩] })

theorem test_witness_InjectionsAndFaultRequests :
    (injS.fld F.FLT_INJ_SEL_BLOCK (pathNum .pf0) = 0x070 ∧ injS.fld F.FLT_INJ_SEL_INSTANCE 0 = 11 ∧
      injS.fld F.FLT_INJ_SEL_CHECKER 0 = 6 ∧ decide (injS.fld F.FLT_INJ_SEL_SINGLE 0 = 1) = true ∧
      injS.fld F.FLT_INJ_CTL_N 0 = 255 ∧ injS.cip.open_ = true ∧ unitOk 0x070 11 = true ∧ injectOk 0x070 6 true 255 = true ∧
      injS.injBusy 0x070 11 6 = false ∧ injBusyS.injBusy 0x070 11 6 = true ∧ sv.cip.open_ = false ∧ unitOk 0x070 12 = false ∧
      injectOk 0x070 6 true 256 = false) ∧
    (carriedOut injS (rq [0x70, 0, 11, 0, 0x86, 255]) ⟨0x0901, 1, false, 6, 6, false⟩ ∧ (0x86 : Nat) / 16 % 8 = 0) ∧
    carriedOut sv (rq [0x70, 0, 11, 0, 0x86, 255]) ⟨0x0901, 1, false, 6, 6, false⟩ ∧
    carriedOut injS (rq []) ⟨0x0902, 1, false, 0, 0, false⟩ ∧
    carriedOut sv (rq [0xD0, 0, 9, 0]) ⟨0x0703, 1, false, 4, 4, false⟩ ∧
    (carriedOut sv (rq [0xD0, 0, 9, 0, 0xF8, 1, 0, 0]) ⟨0x0704, 1, false, 8, 8, false⟩ ∧
      le [0xD0, 0, 9, 0, 0xF8, 1, 0, 0] 4 4 % 8 = 0 ∧ le [0xD0, 0, 9, 0, 0xF8, 1, 0, 0] 4 4 < 512 ∧
      512 ≤ le [0xD0, 0, 9, 0, 0, 2, 0, 0] 4 4 ∧ le [0xD0, 0, 9, 0, 1, 0, 0, 0] 4 4 % 8 ≠ 0) ∧
    (carriedOut sv (rq [5, 10, 0, 0]) ⟨0x0705, 1, false, 4, 4, false⟩ ∧
      10 ≤ bits (BitVec.ofNat 32 (le [5, 10, 0, 0] 0 4)) 15 8 ∧ bits (BitVec.ofNat 32 (le [5, 10, 0, 0] 0 4)) 31 16 = 0 ∧
      bits (BitVec.ofNat 32 (le [5, 10, 0, 0] 0 4)) 7 4 = 0 ∧ bits (BitVec.ofNat 32 (le [5, 9, 0, 0] 0 4)) 15 8 < 10) := by
  unfold carriedOut; and_intros <;> decide +kernel

def resetS : State := fltAs sv 0x030 15 (fun u => { u with fenced := true })
def requalS : State := fltAs resetS 0x030 15 (fun u => { u with requal := some 1 })

theorem test_witness_UnitResetStartsRequalification :
    carriedOut resetS (rq [0x30, 0, 15, 0]) ⟨0x0702, 2, false, 4, 4, true⟩ ∧ unitOk (le [0x30, 0, 15, 0] 0 2) 15 = true ∧
    hasFence 0x030 = true ∧ (0x030 : Nat) ≠ 0x0C0 ∧ resetS.fenced 0x030 15 = true ∧ (resetS.unit 0x030 15).requal = none ∧
    resetS.pwr.mode ≠ .ready ∧ carriedOut requalS (rq [0x30, 0, 15, 0]) ⟨0x0702, 2, false, 4, 4, true⟩ ∧
    (requalS.unit 0x030 15).requal ≠ none ∧ carriedOut sv (rq [0xD0, 0, 9, 0]) ⟨0x0702, 2, false, 4, 4, true⟩ ∧
    unitOk 0x0D0 9 = true ∧ hasFence 0x0D0 = false := by
  unfold carriedOut; and_intros <;> decide +kernel

theorem test_witness_NinthFlitFailureFailsTheLink :
    s0.fld F.CHR_LINK_STAT_FAILED 9 = 0 ∧ tabGet (fun _ => 0) ({ s0 with links := [(9, 7)] } : State).links 9 = 7 ∧
    tabGet (fun _ => 0) ({ s0 with links := [(9, 8)] } : State).links 9 = 8 ∧ s0.fenced 0x0D0 9 = false ∧
    (s0.unit 0x0D0 9).isolated = false ∧ s0.fenced 0x0D0 8 = false ∧ (s0.unit 0x0D0 8).isolated = false ∧ s0.hubOn = true := by
  and_intros <;> decide +kernel

theorem test_witness_RequestsThatFailTheCommonChecksChangeNothing :
    request (.floorsGet (rq [1])) = some (rq [1], ⟨0x0106, 1, true, 0, 0, false⟩) ∧
    (inMode sv .vault).mbxServed 0 = false ∧ sv.mbxServed 0 = true ∧ (sv.mb 0).ended = false ∧ (sv.mb 0).dropResp = false ∧
    sv.preCheck (rq [1]) ⟨0x0106, 1, true, 0, 0, false⟩ = some Ms.invalidLength := by
  refine ⟨rfl, ?_⟩; and_intros <;> decide +kernel

/-- The last function's mailbox, enabled, with a header that names 4,080 payload bytes. -/
def ringS : State :=
  { fnAs s0 255 (fun x => { x with enabled := true }) with inbox := [(4096 * 255 + 8, 0xF0#8), (4096 * 255 + 9, 0x0F#8)] }
def aResp : RespBuf := ⟨3, 0x0401, 7, 0, false, 4081, [1]⟩
def respS : State := s0.setMb 255 { Mbx.reset with respReady := true, version := 3 }
def respMoreS : State := s0.setMb 255 { Mbx.reset with respReady := true, version := 3, resp := some aResp }
def segS : State := s0.setMb 255 { Mbx.reset with version := 3, seg := some ⟨3, 0x0602, 7, 8000, true, [], 0⟩ }

theorem test_witness_MailboxesTakeOneRequestAndReturnSegments :
    (ringS.inboxBytes 255 0 16 = [0, 0, 0, 0, 0, 0, 0, 0, 0xF0, 0x0F, 0, 0, 0, 0, 0, 0] ∧ ringS.mbxServed 255 = true ∧
      (ringS.fnOf 255).enabled = true ∧ (ringS.mb 255).busy = false ∧ (ringS.mb 255).respReady = false ∧
      (ringS.mb 255).seg = none ∧ le [0, 0, 0, 0, 0, 0, 0, 0, 0xF0, 0x0F, 0, 0, 0, 0, 0, 0] 8 4 ≤ 4080) ∧
    ((sv.fnOf 0).enabled = true ∧ sv.mbxServed 0 = true ∧ ((s0.setMb 0 { Mbx.reset with busy := true }).mb 0).busy = true) ∧
    (4095 + [(1 : Nat)].length ≤ 4096) ∧
    ((respS.mb 255).respReady = true ∧ (respS.mb 255).resp = none ∧ (respMoreS.mb 255).resp = some aResp ∧
      (respMoreS.mb 255).respReady = true ∧ (segS.mb 255).seg.isSome = true ∧ (segS.mb 255).dropResp = false) ∧
    (s0.mbxServed (256 + 8) = true ∧ (zeros 17).length < 18 ∧ le (s0.otpBytes 44 2 ++ zeros 16) 0 2 = s0.vendorId ∧
      18 ≤ (s0.otpBytes 44 2 ++ zeros 16).length ∧ s0.contexts < 8 ∧ (s0.mb (256 + 8)).seg = none ∧
      ((s0.otpBytes 44 2 ++ zeros 16).drop 2).getD 1 0 / 2 % 2 = 0 ∧
      le ((s0.otpBytes 44 2 ++ zeros 16).drop 2) 8 4 = (s0.otpBytes 44 2 ++ zeros 16).length - 18) := by
  and_intros <;> decide +kernel

theorem test_witness_HelloAndGoodbyeOpenAndEndSessions :
    sv.mbxServed 0 = true ∧ (sv.mb 0).dropResp = false ∧ (sv.mb 0).ended = false ∧
    sv.preCheck (rq ([1, 3] ++ zeros 18)) ⟨0x0001, 1, true, 20, 20, false⟩ = none ∧ le ([1, 3] ++ zeros 18) 2 2 = 0 ∧
    max 1 (([3, 9] ++ zeros 18).getD 0 0) ≤ min 3 (([3, 9] ++ zeros 18).getD 1 0) ∧
    sv.preCheck (rq ([4, 9] ++ zeros 18)) ⟨0x0001, 1, true, 20, 20, false⟩ = none ∧
    min 3 (([4, 9] ++ zeros 18).getD 1 0) < max 1 (([4, 9] ++ zeros 18).getD 0 0) ∧
    sv.preCheck (rq []) ⟨0x0002, 1, true, 0, 0, false⟩ = none ∧ (sv.mb 0).version ≠ 0 ∧ isFnPath 0 = true := by
  and_intros <;> decide +kernel

def aHandle : Nat := 0x05000001
def opsS : State := { sv with ops := [(aHandle, some ⟨0, true, 0, 1000, []⟩)] }
def opsElseS : State := { sv with ops := [(aHandle, some ⟨128, false, 0, 0, []⟩)] }

theorem test_witness_OperationHandlesAreReadOnceDone :
    carriedOut opsS (rq (bytesLe 4 aHandle)) ⟨0x0003, 2, true, 4, 4, false⟩ ∧
    tabGet (fun _ => none) opsS.ops (le (bytesLe 4 aHandle) 0 4) = some (⟨0, true, 0, 1000, []⟩ : OpRec) ∧
    carriedOut opsElseS (rq (bytesLe 4 aHandle)) ⟨0x0003, 2, true, 4, 4, false⟩ ∧
    (∀ o ∈ tabGet (fun _ => none) opsElseS.ops (le (bytesLe 4 aHandle) 0 4), o.path ≠ (rq []).path) ∧
    carriedOut sv (rq []) ⟨0x0004, 1, true, 0, 0, false⟩ ∧ carriedOut sv (rq []) ⟨0xFFFF, 1, true, 0, 65536, false⟩ := by
  unfold carriedOut; and_intros <;> decide +kernel

/-- A class record in range with every bound at its end; `en` its enable. -/
def clsBytes (en : Nat) : List Nat :=
  [63, en] ++ bytesLe 2 10000 ++ bytesLe 4 64000 ++ bytesLe 4 64000 ++ bytesLe 4 64000 ++ bytesLe 4 64000 ++ bytesLe 4 64000
    ++ bytesLe 4 64000 ++ bytesLe 4 128000000 ++ bytesLe 4 480000 ++ zeros 4
def boundS : State := sv.setSq 3 1 (some { aSq with cls := 63 })
def reserveMax : List Nat := bytesLe 2 200 ++ bytesLe 2 300 ++ [255, 0] ++ bytesLe 2 0
def reserveOver : List Nat := bytesLe 2 200 ++ bytesLe 2 300 ++ [127, 0] ++ bytesLe 2 1

theorem test_witness_ClassesAndContractsAreReadAndSet :
    (carriedOut sv (rq [63]) ⟨0x0101, 1, true, 1, 1, false⟩ ∧ hasDevicePrivilege 0 = true ∧
      carriedOut sv (rq [64]) ⟨0x0101, 1, true, 1, 1, false⟩) ∧
    (carriedOut sv (rq (clsBytes 1)) ⟨0x0102, 1, false, 40, 40, false⟩ ∧ classInRange (clsBytes 1) = true ∧
      (classOf (clsBytes 1)).enable = true ∧ sv.floors.fua ≤ (classOf (clsBytes 1)).dlFua ∧
      sv.floors.flush ≤ (classOf (clsBytes 1)).dlFlush) ∧
    (carriedOut boundS (rq (clsBytes 0)) ⟨0x0102, 1, false, 40, 40, false⟩ ∧ classInRange (clsBytes 0) = true ∧
      (classOf (clsBytes 0)).enable = false ∧ boundS.boundFns 63 ≠ []) ∧
    carriedOut sv (rq []) ⟨0x0106, 1, true, 0, 0, false⟩ ∧
    (carriedOut sv (rq ([255] ++ zeros 15)) ⟨0x0103, 1, false, 16, 16, false⟩ ∧ le ([255] ++ zeros 15) 1 7 = 0) ∧
    (carriedOut sv (rq [255, 63]) ⟨0x0104, 1, true, 2, 2, false⟩ ∧ fnNamed 0 255 = some 255) ∧
    ((carriedOut (s0.setMb 3 { Mbx.reset with version := 3 }) { rq [4, 0] with path := 3 } ⟨0x0104, 1, true, 2, 2, false⟩) ∧
      fnNamed 3 4 = none) ∧
    (carriedOut boundS (rq ([3, 0] ++ bytesLe 2 1)) ⟨0x0105, 1, true, 4, 4, false⟩ ∧ boundS.sqOf 3 1 = some { aSq with cls := 63 } ∧
      boundS.bindable 3 0 = true ∧ boundS.bindable 3 63 = false ∧ le ([3, 0] ++ bytesLe 2 1) 2 2 = 1) ∧
    (carriedOut sv (rq ([255, 0] ++ bytesLe 2 512)) ⟨0x0107, 1, false, 4, 4, false⟩ ∧
      (sv.setFn 255 { sv.fnOf 255 with quota := 2 }).quotaTotal ≤ 8192 ∧
      8192 < (sv.setFn 255 { sv.fnOf 255 with quota := 512 }).quotaTotal) ∧
    (carriedOut sv (rq reserveMax) ⟨0x0108, 3, false, 8, 8, false⟩ ∧
      sv.reserveFits 200 300 (fun _ => 0) = true ∧
      carriedOut sv (rq reserveOver) ⟨0x0108, 3, false, 8, 8, false⟩ ∧
      sv.reserveFits 200 300 (fun k => if (1 : Nat) ≠ 0xFFFF ∧ (127 = 0xFF ∨ 127 = k) then 1 else sv.fld F.PLT_RECON_RECON_PERMILLE k)
        = false) := by
  unfold carriedOut; and_intros <;> decide +kernel

def offeredS : State :=
  { bayAs sv 15 (fun x => { x with st := .offered }) with par := { sv.par with usable := 0xFFFF, present := 0xFFFF } }
def winS : State := bayAs sv 15 (fun x => { x with st := .abortWindow, handle := some 5 })
def idRecord : List Nat :=
  let r := [0x4B, 0x53, 0x48, 0x31, 1, 8] ++ zeros 246
  r ++ bytesLe 4 (crc32 r)
theorem test_witness_InsertionsWalkOrAreRejected :
    (s0.soldered = false ∧ s0.hubOn = true ∧ (s0.bay 15).st = .empty ∧ s0.start.running = false ∧ s0.pwr.mode = .service) ∧
    (let s := bayAs s0 15 (fun x => { x with st := .debounce, level := true })
     (s.bay 15).st = .debounce ∧ (s.bay 15).level = true ∧ (s.bay 15).present = false) ∧
    (let s := bayAs s0 15 (fun x => { x with st := .waitPower })
     (s.bay 15).st = .waitPower ∧ s.bays.any (fun e => decide (e.2.st = .powering)) = false ∧
     s.bays.any (fun e => decide (e.1 < 15 ∧ e.2.st = .waitPower)) = false) ∧
    (let s := bayAs s0 0 (fun x => { x with st := .waitPower })
     s.bays.any (fun e => decide (e.1 < 15 ∧ e.2.st = .waitPower)) = true) ∧
    (let s := bayAs s0 15 (fun x => { x with st := .powering })
     (s.bay 15).st = .powering ∧ (s.bay 15).pwrGood = false) ∧
    (let s := bayAs s0 15 (fun x => { x with st := .identify })
     (s.bay 15).st = .identify ∧ identityOk idRecord = true ∧ identityOk [] = false) ∧
    (let s := bayAs (flashS s0 aProfile) 15 (fun x => { x with st := .discover })
     (s.bay 15).st = .discover ∧ s.trainedDies 15 ≠ 0) ∧
    (let s := bayAs s0 15 (fun x => { x with st := .discover })
     (s.bay 15).st = .discover ∧ s.trainedDies 15 = 0) := by
  and_intros <;> decide +kernel

def heldS : State := bayAs (sv.setFld F.SHB_CFG_AUTO_OFFER 0 1) 15 (fun x => { x with st := .held })
def heldBusyS : State := bayAs heldS 0 (fun x => { x with st := .evacuating })

theorem test_witness_AnOfferedSheetJoinsTheLayout :
    heldS.soldered = false ∧ (heldS.bay 15).st = .held ∧ heldS.start.running = false ∧ heldS.par.evac ≠ some 15 ∧
    heldS.bays.any (fun e => decide (e.2.st = .abortWindow) || decide (e.2.st = .evacuating)) = false ∧
    heldS.fld F.SHB_CFG_AUTO_OFFER 0 = 1 ∧ (heldBusyS.bay 15).st = .held ∧
    heldBusyS.bays.any (fun e => decide (e.2.st = .abortWindow) || decide (e.2.st = .evacuating)) = true ∧
    carriedOut heldS (rq [15]) ⟨0x0502, 1, false, 1, 1, false⟩ ∧ carriedOut heldBusyS (rq [15]) ⟨0x0502, 1, false, 1, 1, false⟩ ∧
    le [15] 0 1 = 15 := by
  unfold carriedOut; and_intros <;> decide +kernel

theorem test_witness_RemovalsAndSheetRequests :
    (offeredS.soldered = false ∧ offeredS.hubOn = true ∧ (offeredS.bay 15).st = .offered ∧ (offeredS.bay 15).blinkEnd = none ∧
      offeredS.removeReason 15 = none ∧ (bayAs sv 15 (fun x => { x with st := .offered })).removeReason 15 = some 1) ∧
    ((winS.bay 15).st = .abortWindow ∧ winS.hubOn = true ∧ (inMode winS .dormant).hubOn = false ∧
      ((bayAs s0 15 (fun x => { x with st := .poweringOff })).bay 15).st = .poweringOff ∧
      ((bayAs s0 15 (fun x => { x with blinkEnd := some 0 })).bay 15).blinkEnd ≠ none) ∧
    (carriedOut offeredS (rq [15]) ⟨0x0503, 2, false, 1, 1, true⟩ ∧ offeredS.pwr.mode ≠ .ready ∧ le [15] 0 1 = 15 ∧
      carriedOut sv (rq [15]) ⟨0x0503, 2, false, 1, 1, true⟩ ∧ sv.removeReason 15 = some 1) ∧
    (carriedOut winS (rq [15]) ⟨0x0504, 1, false, 1, 1, false⟩ ∧ carriedOut sv (rq [15]) ⟨0x0504, 1, false, 1, 1, false⟩ ∧
      (sv.bay 15).st ≠ .abortWindow ∧ ({ sv with por := { sv.por with otp := [(21, 1#8)] } } : State).soldered = true) ∧
    carriedOut sv (rq []) ⟨0x0501, 1, false, 0, 0, false⟩ ∧ carriedOut sv (rq [15]) ⟨0x0505, 1, false, 1, 1, false⟩ := by
  unfold carriedOut; and_intros <;> decide +kernel

theorem test_witness_FunctionResetsDiscardTheFunctionsWork :
    (cmdS aCmd).fns ≠ [] ∧ (255 : Nat) % 128 ≠ 0 ∧ ((cmdS aCmd).fnOf 255).enabled = true ∧ (128 : Nat) % 128 = 0 ∧
    (s0.fnOf 128).enabled = true := by
  and_intros <;> decide +kernel

theorem test_witness_LinkRatesAndTheDirectWindow :
    genRate 7 true ≠ 0 ∧ widthOk 16 = true ∧ s0.fenced 0x010 1 = false ∧ s0.pwr.mode ≠ .holdup ∧ ((inMode s0 .holdup).port 1).up = false ∧
    (fltAs s0 0x010 1 (fun u => { u with fenced := true })).fenced 0x010 1 = true ∧
    ((s0.setPort 1 { Port.reset with perst := true }).port 1).perst = true ∧ s0.pwr.mode ≠ .dormant ∧ s0.pwr.entering = none ∧
    (s0.fnOf 128).enabled = true ∧ (s0.fnOf 128).cmse = false ∧
    ((fnAs s0 128 (fun x => { x with cmse := true })).fnOf 128).cmse = true ∧ (s0.fnOf 128).bar4 ≠ 2 ^ 35 ∧
    (s0.fnOf 128).bar4 ≠ 2 ^ 20 := by
  and_intros <;> decide +kernel

def pendVecS : State :=
  fnAs s0 128 (fun x => { x with msixEn := true, vec := [(2047, ⟨true, true⟩)] })

theorem test_witness_MessagesErrorsAndTranslationsOfOneFunction :
    2047 < msixCount 128 ∧ (pendVecS.fnOf 128).msixEn = true ∧ (pendVecS.fnOf 128).msixMask = false ∧
    (tabGet (fun _ => MsixVec.reset) (pendVecS.fnOf 128).vec 2047).pending = true ∧ (s0.fnOf 128).msixEn = false ∧
    (cmdS aCmd).cmds.any (fun c => decide (c.fn = 255 ∧ c.openReads ≠ 0)) = false ∧
    (cmdS { aCmd with openReads := 1 }).cmds.any (fun c => decide (c.fn = 255 ∧ c.openReads ≠ 0)) = true := by
  and_intros <;> decide +kernel

def enS : State := ctlAs s0 128 (fun x => { x with en := true, rdy := true, shst := 2, iosqes := 6, iocqes := 4 })

theorem test_witness_ControllersEnableDisableAndShutDown :
    ((s0.fnOf 128).enabled = true ∧ (s0.ctl 128).en = false ∧ (enS.fnOf 128).enabled = true ∧ (enS.ctl 128).en = true) ∧
    (∀ c ∈ (cmdS aCmd).cmds, c.fn = 128 → c.accepted = false) ∧
    (((cmdS aCmd).ctl 255).shst ≠ 2 ∧ ∃ c ∈ (cmdS aCmd).cmds, c.fn = 255 ∧ c.accepted = true) ∧
    (enS.enabledCtls ≠ [] ∧ (∀ e ∈ enS.enabledCtls, e.2.shst = 2) ∧ enS.atl.stage = []) := by
  and_intros <;> decide +kernel

def qS : State := (enS.setCq 128 511 (some aCq)).setSq 128 511 (some { aSq with cq := 511 })

theorem test_witness_IoQueuesAreCreatedAndDeleted :
    (512 ≤ enS.granted 128 true ∧ enS.sqOf 128 512 = none ∧ (enS.ctl 128).iosqes = 6 ∧ (s0.ctl 128).iosqes ≠ 6 ∧
      (∃ c ∈ qS.cqOf 128 511, c.deleting = false) ∧ 512 ≤ qS.granted 128 true ∧ qS.sqOf 128 512 = none ∧
      (qS.ctl 128).iosqes = 6 ∧ enS.cqOf 128 2 = none) ∧
    enS.granted 128 true < 1023 ∧
    (512 ≤ enS.granted 128 false ∧ enS.cqOf 128 512 = none ∧ (enS.ctl 128).iocqes = 4 ∧ 2047 < msixCount 128 ∧ msixCount 128 ≤ 2048) ∧
    ((qS.cqOf 128 511).isSome = true ∧ (∃ sq ∈ qS.sqOf 128 511, sq.cq = 511) ∧
      ((enS.setCq 128 511 (some aCq)).cqOf 128 511).isSome = true ∧ (enS.setCq 128 511 (some aCq)).sqs = []) ∧
    ((qS.sqOf 128 511).isSome = true ∧ qS.cmds = []) := by
  and_intros <;> decide +kernel

theorem test_witness_AbortRemovesNothing :
    (ctlAs s0 0 (fun x => { x with aborts := [1, 2, 3] })).ctl 0 ≠ Ctl.reset ∧
    ((ctlAs s0 0 (fun x => { x with aborts := [1, 2, 3] })).ctl 0).aborts.length < 4 ∧
    4 ≤ ((ctlAs s0 0 (fun x => { x with aborts := [1, 2, 3, 4] })).ctl 0).aborts.length := by
  and_intros <;> decide +kernel

def aersS (n : Nat) : State := ctlAs s0 0 (fun x => { x with rdy := true, aers := List.range n })

theorem test_witness_AdminCommandsEventsAndFormat :
    ((nsS s0).nsFor 0 1 = some aNs ∧ s0.nsFor 0 1 = none ∧ s0.logPage 0 0xFF = none) ∧
    (bits (0xFFFEFFFE#32) 15 0 ≠ 65535 ∧ bits (0xFFFEFFFE#32) 31 16 ≠ 65535 ∧ s0.sqs = [] ∧ s0.cqs = []) ∧
    (((aersS 7).ctl 0).aers.length < 8 ∧ ((aersS 7).ctl 0).aerPend = [] ∧ 8 ≤ ((aersS 8).ctl 0).aers.length) ∧
    (((aersS 8).ctl 0).rdy = true ∧ evEnabled ((aersS 8).ctl 0).aec evInvalidDoorbell = true ∧
      evInvalidDoorbell ∉ ((aersS 8).ctl 0).aerMasked ∧ evInvalidDoorbell ∉ ((aersS 8).ctl 0).aerPend ∧
      ((aersS 8).ctl 0).aers = 0 :: [1, 2, 3, 4, 5, 6, 7]) ∧
    evInvalidDoorbell ∈ ((ctlAs s0 0 (fun x => { x with aerMasked := [evInvalidDoorbell] })).ctl 0).aerMasked ∧
    ((1 : Nat) ≠ 0xFFFFFFFF ∧ aNs.format = none ∧ (∀ c ∈ (nsS s0).cmds, c.nsid ≠ 1) ∧ aCmd.nsid = 1 ∧ aCmd.accepted = true ∧
      (nsS (cmdS aCmd)).nsFor 255 1 = some aNs ∧ aCmd ∈ (nsS (cmdS aCmd)).cmds ∧ (1 : Nat) ≠ aNs.lbaf) := by
  and_intros <;> decide +kernel

/-! I/O -/

def okE : IoEntry := { okEntry with sq := 511 }
def ioS : State := nsS (s0.setSq 0 511 (some { aSq with cq := 1 }))

theorem test_witness_IoEntriesAreOfferedOrRefused :
    ioS.sqOf 0 511 = some { aSq with cq := 1 } ∧ ioS.findCmd 0 511 0 = none ∧ ioForm (.read okE) = some (okE, 0x02, false, []) ∧
    ioS.validate okE 0x02 false [] = none ∧
    ioS.validate { okE with slba := 8 * 819 } 0x02 false [] = some Sc.lbaRange ∧
    ioS.validate { okE with slba := 8 * 819 - 1 } 0x02 false [] = none := by
  and_intros <;> decide +kernel

def flushC : Cmd := { aCmd with fn := 0, sq := 511, cid := 0, op := 0, kind := .flush, phase := .offered, accepted := false }
def flushS : State := { ioS with cmds := [flushC] }
/-- The default class holds; its queue has one entry. -/
def holdS : State :=
  let s := nsS ((ctlAs s0 0 (fun x => { x with en := true, rdy := true })).setSq 0 511 (some { aSq with cq := 1, cls := 1, tail := 1 }))
  ({ s with atl := { s.atl with jrnlFull := true } }).setReg .HST_CLASS_MASK_LO 0 2#32

theorem test_witness_AdmissionAcceptsRefusesOrHolds :
    (flushS.findCmd 0 511 0 = some flushC ∧ flushC.phase = .offered ∧ flushC.openReads = 0 ∧ flushC.waitsSeg = [] ∧ flushS.sqOf 0 511 = some { aSq with cq := 1 } ∧ flushC.op = 0 ∧
      flushS.nsOf 1 = some aNs ∧ flushS.plt.admitOpen = true ∧ flushS.nsHeld 1 = false ∧ flushS.stagedOf aNs = [] ∧
      (flushS.cls 1).unfit = false ∧ flushC.toStage = [] ∧ flushS.elQ flushC + tPost ≤ (flushS.cls 1).deadline .flush * qUs ∧
      flushC.accepted = false ∧ ({ flushS with plt := Plotter.reset } : State).plt.admitOpen = false) ∧
    (holdS.sqOf 0 511 = some { aSq with cq := 1, cls := 1, tail := 1 } ∧ holdS.findCmd 0 511 0 = none ∧
      holdS.pwr.mode ≠ .ready ∧ holdS.probeDue { aSq with cq := 1, cls := 1, tail := 1 } = true ∧
      ioS.probeable okE 1 { aSq with cq := 1 } = false ∧
      holdS.probeDue { aSq with cq := 1, cls := 1, tail := 1, probed := some 0 } = false ∧
      holdS.probeable okE 1 { aSq with cq := 1, cls := 1, tail := 1 } = true ∧
      holdS.validate { okE with nlb := 8 * 819 } 1 (ioShape okE 1 false []).1 [] ≠ none ∧
      holdS.probeable { okE with nlb := 8 * 819 } 1 { aSq with cq := 1, cls := 1, tail := 1 } = true ∧
      holdS.validate okE 1 false [] = none ∧ holdS.atl.jrnlFull = true ∧ holdS.nsHeld 1 = false) := by
  and_intros <;> decide +kernel

def bellS : State := ((ctlAs s0 0 (fun x => { x with en := true, rdy := true, rrNext := 511, rrLeft := 1 })).setSq 0 511
  (some { aSq with tail := 1, cls := 0 })).setCq 0 1023 (some { aCq with tail := 3, coalCount := 1 })
def aCpl : Cpl := ⟨0, 511, 0, 1023, 0, false, 0#32⟩
def cplS : State :=
  { (s0.setCq 0 1023 (some aCq)) with cpls := [aCpl, { aCpl with sq := 0 }], cmds := [{ flushC with phase := .posting, deadline := 1 }] }
def cplFullS : State := { (s0.setCq 0 1023 (some { aCq with tail := 3 })) with cpls := [aCpl] }

theorem test_witness_QueuesAndCompletionEntriesMove :
    (bellS.takesDoorbell 0 = true ∧ bellS.sqOf 0 511 = some { aSq with tail := 1, cls := 0 } ∧ 63 < aSq.size ∧ bellS.pwr.mode ≠ .ready) ∧
    (bellS.cqOf 0 1023 = some { aCq with tail := 3, coalCount := 1 } ∧ 3 < aCq.size ∧
      (3 + aCq.size - aCq.head) % max 1 aCq.size ≤ Cq.used { aCq with tail := 3, coalCount := 1 }) ∧
    (bellS.sqOf 0 1023 = none ∧ (bellS.ctl 0).rdy = true ∧ (bellS.ctl 0).aers = [] ∧ evInvalidDoorbell ∉ (bellS.ctl 0).aerMasked ∧
      evInvalidDoorbell ∉ (bellS.ctl 0).aerPend) ∧
    (bellS.fetches 0 = true ∧ bellS.pwr.mode ≠ .ready ∧ (bellS.ctl 0).rrNext = 511 ∧ 0 < (bellS.ctl 0).rrLeft ∧
      (bellS.setReg .HST_CLASS_MASK_LO 0 1#32).eligible 0 511 (headBytes [(511, 4096)] 511) { aSq with tail := 1, cls := 0 } = true ∧
      s0.fetches 0 = false) ∧
    (∃ x ∈ bellS.cqOf 0 1023, x.vector = 0 ∧ 0 < x.coalCount) ∧
    (cplS.cpls.find? (fun p => decide (p.fn = 0 ∧ p.sq = 511 ∧ p.cid = 0)) = some aCpl ∧ cplS.cqOf 0 1023 = some aCq ∧
      aCq.room = true ∧ cplS.hubOn = true ∧ cplS.findCmd 0 511 0 = some { flushC with phase := .posting, deadline := 1 } ∧
      Cmd.inTime { flushC with phase := .posting, deadline := 1 } cplS.now = true ∧ cplS.nsOf 1 = none) ∧
    (cplS.cpls.find? (fun p => decide (p.fn = 0 ∧ p.sq = 0 ∧ p.cid = 0)) = some { aCpl with sq := 0 }) ∧
    (cplFullS.cpls.find? (fun p => decide (p.fn = 0 ∧ p.sq = 511 ∧ p.cid = 0)) = some aCpl ∧
      cplFullS.cqOf 0 1023 = some { aCq with tail := 3 } ∧ Cq.room { aCq with tail := 3 } = false) := by
  and_intros <;> decide +kernel

def stageC : Cmd := { aCmd with op := 1, kind := .write, toStage := [iuKey 31 127, iuKey 31 128], slba := 1016, nlb := 16, bytes := 8192 }
def stageS : State := nsS (cmdS stageC)
def fetchS (r : Bool) : State :=
  (fnAs s0 255 (fun x => { x with enabled := true })).setSq 255 1023 (some { aSq with fetching := [(0, 0, 0)], retried := r })

theorem test_witness_HostReadsWaitsAndStaging :
    ((cmdS { aCmd with openReads := 2 }).findCmd 255 1023 65535 = some { aCmd with openReads := 2 } ∧ aCmd.phase = .running) ∧
    ((fnAs s0 255 id).fnOf 255).atsInval = [] ∧ ((cmdS { stageC with openReads := 1 }).findCmd 255 1023 65535 = some { stageC with openReads := 1 } ∧ stageC.op = 1 ∧
      stageC.outcome = 0) ∧
    (({ aCmd with waitFrom := some 0 } : Cmd).waitFrom.isSome = true ∧ allowance ≤ Cmd.hostWait { aCmd with waitFrom := some 0 } allowance) ∧
    (aCmd.waitFrom = none ∧ aCmd.phase ≠ .posting ∧
      ((cmdS aCmd).setSq 255 1023 (some aSq)).sqOf 255 1023 = some aSq) ∧
    ((fetchS false).sqOf 255 1023 = some { aSq with fetching := [(0, 0, 0)], retried := false } ∧ aSq.stalled = false ∧
      ((fetchS false).fnOf 255).ctd = false ∧ (fetchS true).sqOf 255 1023 = some { aSq with fetching := [(0, 0, 0)], retried := true }) ∧
    (((fnAs s0 255 (fun x => { x with ctd := true })).fnOf 255).ctd = true ∧ ((fnAs s0 255 (fun x => { x with ats := true })).fnOf 255).ats = true) ∧
    (stageS.findCmd 255 1023 65535 = some stageC ∧ stageS.nsOf 1 = some aNs ∧ stageC.openReads = 0 ∧ stageC.kind = .write ∧
      atomicWrite aNs stageC = false ∧ iuKey 31 127 ∉ [iuKey 31 128] ∧ stageS.maskOfCmd aNs stageC (iuKey 31 127) = stageS.fullMask aNs ∧
      stageS.asmOf (iuKey 31 127) = none ∧ stageC.rmw = [] ∧ (stageS.readySegs [segOfIu (iuKey 31 127)]).isSome = true ∧
      ∀ k ∈ stageS.cmds, k.waitsFor = []) := by
  and_intros <;> decide +kernel

/-! The map, the Plotter, media upkeep, stripes -/

def aKey : Nat := iuKey 31 818
def mapS (e : Ent) : State := { nsS sv with atl := { (nsS sv).atl with ent := [(aKey, e)] } }
def aStage (fn : Nat) : Stage := ⟨fn, aKey, true, 0, 1, 0, 4096, 0⟩

/-- The last address of die 2047's first page, with its quarter. -/
def anAddr : Nat := 3 * 2 ^ 36 + 2047 * 2 ^ 25
/-- `s` with band 127 in a state, of a class, rows 0 to 8 programmed. -/
def rowS (s : State) (st : BandState) (cls : Nat) : State :=
  bandAs { s with par := { s.par with present := 0xFFFF, usable := 0xFFFF }, fch := (flashS s0 aProfile).fch } 127
    (fun x => { x with st := st, cls := cls, wb := 16, sheets := 0xFFFF, pages := 10, nextRow := 9 })

theorem test_witness_MapUpdatesCompareAndSwap :
    ((mapS Ent.reset).iuExists 31 818 = true ∧ (mapS Ent.reset).atl.mapReady = true ∧
      (mapS Ent.reset).atl.recovering.contains (segOfIu aKey) = false ∧
      (nsS { sv with atl := Atlas.reset }).iuExists 31 818 = true ∧ (nsS { sv with atl := Atlas.reset }).atl.mapReady = false) ∧
    (((mapS Ent.reset).setSeg (segOfIu aKey) { Seg.reset with discarded := true }).segOf (segOfIu aKey)).discarded = true ∧
    (let s := mapS Ent.reset
     let k := segOfIu aKey
     (s.segOf k).discarded = false ∧ s.fenced 0x040 (s.steer k) = false ∧ s.snoopOf k = none ∧ s.dirOf k = .uncached ∧
     s.grantedTo (s.steer k) < 128) ∧
    ((rowS (mapS Ent.reset) .closed 1).dataIn anAddr 1 = true ∧ (rowS (mapS Ent.reset) .opened 0).dataIn anAddr 0 = true ∧
      (rowS (mapS Ent.reset) .closed 1).dataIn anAddr 0 = false ∧ (rowS (mapS Ent.reset) .free 1).dataIn anAddr 1 = false) ∧
    ((rowS (mapS (mappedAt 5)) .closed 1).lookup aKey = mappedAt 5 ∧ (rowS (mapS (mappedAt 5)) .closed 1).lookup aKey ≠ mappedAt (2 ^ 36 + 5)) ∧
    ((nsS sv).poolOf 31 = some ⟨true, 4095, 1⟩ ∧ 1 * 819 ≤ 819 ∧ (nsS sv).atl.mapReady = true ∧
      (nsS sv).atl.recovering.contains (segOfIu (iuKey 31 819)) = false) ∧
    (((mapS ⟨.staged, 5, 0⟩).lookup aKey).st = .staged ∧ ((mapS ⟨.staged, 5, 0⟩).lookup aKey).addr = 5 ∧
      (((mapS ⟨.staged, 5, 0⟩).setStage 5 (some (aStage 0))).slotOf 5) = some (aStage 0) ∧ (aStage 0).reads = 0 ∧
      (aStage 0).progs ≤ 1 ∧
      ¬ (((mapS ⟨.mapped, 5, 0⟩).lookup aKey).st = .staged ∧ ((mapS ⟨.mapped, 5, 0⟩).lookup aKey).addr = 5)) ∧
    (let s := { mapS Ent.reset with atl := { (mapS Ent.reset).atl with recovering := [segOfIu aKey] } }
     s.iuExists 31 818 = true ∧ s.readySegs [segOfIu aKey] = none) ∧
    ((rowS (mapS Ent.reset) .closed 1).readySegs [segOfIu aKey]).isSome = true ∧
    ((rowS (mapS (mappedAt 5)) .closed 1).readySegs [segOfIu aKey]).isSome = true ∧
    ((mapS ⟨.staged, 5, 0⟩).readySegs [segOfIu aKey]).isSome = true ∧ ((mapS ⟨.staged, 5, 0⟩).slotOf 6).isSome = false := by
  dsimp only; and_intros <;> decide +kernel

def aSeg : Nat := 31 * 2 ^ 32
/-- A map band open on the dies of group 127. -/
def mapBandS : State := rowS (nsS sv) .opened 2
def asmS (p : Ent) : State :=
  { nsS sv with atl := { (nsS sv).atl with asm := [⟨aKey, 5, 1, 255, p, false, 0, 0, [], none⟩] } }
def dirS (d : Dir) : State := (nsS sv).setDir aSeg d
def heldBy (s : State) (dirty : Bool) : State := s.setAtlEng 15 ⟨[⟨aSeg, dirty, 0⟩], []⟩
def snoopS : State := { dirS (.held 15) with atl := { (dirS (.held 15)).atl with snoops := [(aSeg, 14)] } }

theorem test_witness_MapHousekeepingAndTheDirectory :
    ((asmS Ent.reset).atl.asm.find? (fun a => decide (a.slot = 5)) = some ⟨aKey, 5, 1, 255, Ent.reset, false, 0, 0, [], none⟩ ∧
      (asmS ⟨.poisoned, 0, 0⟩).atl.asm.find? (fun a => decide (a.slot = 5)) = some ⟨aKey, 5, 1, 255, ⟨.poisoned, 0, 0⟩, false, 0, 0, [], none⟩ ∧
      255 - (1 &&& 255) ≠ 0 ∧ (asmS (mappedAt 5)).atl.asm.find? (fun a => decide (a.slot = 5)) = some ⟨aKey, 5, 1, 255, mappedAt 5, false, 0, 0, [], none⟩) ∧
    (let s := { mapBandS with atl := { mapBandS.atl with tailBytes := 2 ^ 20 } }
     2 ^ 20 ≤ s.unspilled ∧ s.mapOpen = true ∧
     ({ s with atl := { s.atl with parked := [(1, 0)] } } : State).unspilled < 2 ^ 20 ∧
     sv.unspilled < 2 ^ 20 ∧ sv.mapOpen = false) ∧
    (nthSeg mapBandS.allSegs mapBandS.atl.ckptNext = some aSeg ∧ mapBandS.dataIn anAddr 2 = true ∧ mapBandS.dataIn 5 2 = false) ∧
    (((nsS sv).setSeg aSeg { Seg.reset with discarded := true }).segOf (31 * 2 ^ 32 + 0)).discarded = true ∧
    (let s := { nsS sv with atl := { (nsS sv).atl with recovering := [aSeg] } }
     s.atl.recovering.contains (31 * 2 ^ 32 + 0) = true ∧ s.atl.segLost.contains aSeg = false ∧ s.atl.queued = [] ∧
     s.atl.suspended = [] ∧ s.cmds = [] ∧ snoopS.atl.queued = [] ∧ (s.segOf (31 * 2 ^ 32 + 0)).discarded = false ∧ s.atl.tail ++ s.atl.spilled = []) ∧
    (let s := { nsS sv with atl := { (nsS sv).atl with recovering := [aSeg], segLost := [aSeg] } }
     s.atl.segLost.contains aSeg = true ∧ s.rebuildChan aSeg = none) ∧
    (sv.fenced 0x040 (sv.steer aSeg) = false ∧ sv.grantedTo (sv.steer aSeg) < 128 ∧ sv.dirOf aSeg = .uncached ∧
      (aSeg + 1) % 2 ^ 32 ≠ 0 ∧ sv.dirOf (aSeg + 1) = .uncached ∧ sv.steer aSeg ≠ sv.steer (aSeg + 1) ∧
      (dirS (.held 14)).dirOf aSeg = .held 14 ∧ 14 ≠ sv.steer aSeg ∧
      (dirS (.evicting 15)).dirOf aSeg = .evicting 15) ∧
    (snoopS.snoopOf aSeg = some 14 ∧ ((heldBy snoopS true).atlEng 15).heldSeg aSeg = some ⟨aSeg, true, 0⟩) ∧
    (let s := heldBy (dirS (.held 15)) true
     (s.atlEng 15).heldSeg aSeg = some ⟨aSeg, true, 0⟩ ∧ (s.atlEng 15).bufs.length < 4 ∧ s.wbPending aSeg = none ∧
     s.dirOf aSeg = .held 15) ∧
    (let s := (dirS (.held 15)).setAtlEng 15 ⟨[], [⟨aSeg, true, false, true⟩]⟩
     ((s.atlEng 15).bufSeg aSeg).isSome = true ∧ s.dirOf aSeg = .held 15) ∧
    (let s := { sv with atl := { sv.atl with writes := [⟨aSeg, 15, 9, false, false, []⟩] } }
     s.atl.writes.find? (fun w => decide (w.seg = aSeg ∧ w.eng = 15) && !w.done) = some ⟨aSeg, 15, 9, false, false, []⟩) ∧
    (let s := (dirS (.evicting 15)).setAtlEng 15 ⟨[], [⟨aSeg, true, false, true⟩]⟩
     (s.atlEng 15).bufSeg aSeg = some ⟨aSeg, true, false, true⟩ ∧ s.dirOf aSeg = .evicting 15 ∧ s.snoopOf aSeg = none) ∧
    (let s := (dirS (.held 14)).setAtlEng 15 ⟨[], [⟨aSeg, false, false, false⟩]⟩
     (s.atlEng 15).bufSeg aSeg = some ⟨aSeg, false, false, false⟩ ∧ s.dirOf aSeg = .held 14) ∧
    ((dirS (.held 15)).dirOf aSeg = .held 15 ∧ ((dirS (.held 15)).atlEng 15).heldSeg aSeg = none ∧
      ((dirS (.held 15)).atlEng 15).held.length < 128 ∧ 255 % 256 ≠ ((dirS (.held 15)).segOf aSeg).gen % 256) ∧
    (let s := { sv with atl := { sv.atl with snoops := [(aSeg, 15)] } }
     s.snoopOf aSeg = some 15 ∧ (s.atlEng 15).heldSeg aSeg = none ∧ (s.atlEng 15).held.length < 128) := by
  dsimp only; and_intros <;> decide +kernel

theorem test_witness_FrameBoundaryAdvancesTheLedger :
    s0.hubOn = true ∧ (inMode s0 .holdup).pwr.mode = .holdup ∧ (inMode s0 .dormant).hubOn = false ∧
    (inMode s0 .dormant).pwr.mode ≠ .holdup ∧
    (let s := { s0 with buckets := [(64 * 255 + 63, some ⟨0, 0⟩)] }
     s.hubOn = true ∧ (s.buckets.map Prod.fst).Nodup ∧ (64 * 255 + 63, some ⟨0, 0⟩) ∈ s.buckets) := by
  dsimp only; and_intros <;> decide +kernel

def readIu : IuPlan :=
  { iu := aKey, die := 2047, slot := 0, band := 127, row := 0, detour := false, members := [(2047, 0)], conting := none, soft := none,
    ended := false, resv := none, claim := [], bad := [] }
def readC : Cmd := { aCmd with ius := [readIu] }
/-- A die operation of a kind, issued under a die epoch. -/
def aDieOp (kind epoch : Nat) (cmd : Option (Nat × Nat × Nat)) : DieOp := ⟨0, kind, 0, 0, epoch, 0, 0, cmd, none, [], false, 0, .set 0, false, false, 0, []⟩
/-- A soft decode with an identifier. -/
def aLdpJob (id mode : Nat) : LdpJob := ⟨id, mode, 0, 2, 2047, none, 0, 0, 0, true, [], false⟩
def upS : State := flashS s0 aProfile
def decS : State := { (cmdS readC).setSq 255 1023 (some aSq) with fch := (flashS s0 aProfile).fch }
def runS (kind epoch : Nat) : State :=
  (flashS s0 aProfile).setRunning 2047 (some ⟨aDieOp kind epoch none, 0, 0, false, 0⟩)
/-- An operation suspended with a read running under it. -/
def underS : State :=
  let s := (flashS s0 aProfile).setRunning 2047 (some ⟨aDieOp 1 0 none, 0, 0, true, 0⟩)
  { s with plt := { s.plt with reading := [(2047, some ⟨aDieOp 0 0 none, 0, 0, false, 0⟩)] } }
def staleS : State := { cmdS { readC with replanned := true } with fch := (runS 0 0).fch, plt := (runS 0 0).plt, par := (runS 0 0).par }

theorem test_witness_QuietSlotsDecodesAndDieOperationsEnd :
    ({ s0 with plt := { s0.plt with quiet := some 127 } } : State).plt.quiet = some 127 ∧
    (let s := s0.setLane 255 { Lane.reset with res := [aLdpJob 7 1], busy := some (aLdpJob 8 2) }
     (s.laneOf 255).res.find? (fun j => decide (j.id = 7)) = some (aLdpJob 7 1) ∧
     (s.laneOf 255).busy = some (aLdpJob 8 2) ∧ s.lanes.any (fun e => e.2.busy.any (fun b => decide (b.mode = 1 ∧ b.id = 7))) = false) ∧
    (let s := (s0.setLane 255 { Lane.reset with res := [aLdpJob 7 1] }).setLane 254
        { Lane.reset with busy := some (aLdpJob 7 1) }
     (s.laneOf 255).res.find? (fun j => decide (j.id = 7)) = some (aLdpJob 7 1) ∧
     s.lanes.any (fun e => e.2.busy.any (fun b => decide (b.mode = 1 ∧ b.id = 7))) = true) ∧
    (s0.fenced 0x0B0 255 = false ∧ decS.readerOf ⟨2047, 0, 0, decS.iuPlane readIu, 0⟩ = some (readC, 0, readIu) ∧
      decS.findCmd 255 1023 65535 = some readC ∧ readC.ius = [readIu] ∧ readIu.claim = [] ∧ readIu.resv = none ∧
      readIu.detour = false ∧ readIu.members = [(2047, 0)] ∧ readIu.conting = none ∧ readC.openReads = 0 ∧ readC.outcome = 0 ∧ readC.op = 2 ∧
      decS.sqOf 255 1023 = some aSq ∧ 0 < decS.fld F.LDP_CFG_CORR_WARN 0 ∧
      ((decS.setLane 255 { Lane.reset with busy := some (aLdpJob 7 0) }).laneOf 255).busy = some (aLdpJob 7 0) ∧ (aLdpJob 7 0).orphan = false) ∧
    (s0.readerOf ⟨2047, 0, 0, 0, 0⟩ = none ∧ s0.svy.sampling = [] ∧ s0.fld F.LDP_CFG_CORR_WARN 0 > 0 ∧
      upS.readerOf ⟨2047, 0, 0, 0, 15⟩ = none ∧ upS.svy.sampling = [] ∧ upS.profileOf 2047 = some aProfile ∧ 0 < aProfile.softReads ∧
      min aProfile.retryLen (upS.fld F.LDP_CFG_LADDER_MAX 0) = 0 ∧ (upS.bandRec (upS.bandOf 2047 0)).st ≠ .victim ∧
      (flashS s0 { aProfile with retryLen := 1 }).profileOf 2047 = some { aProfile with retryLen := 1 } ∧
      0 < min 1 ((flashS s0 { aProfile with retryLen := 1 }).fld F.LDP_CFG_LADDER_MAX 0) ∧
      (s0.bandRec (s0.bandOf 2047 0)).st ≠ .victim) ∧
    ((runS 0 0).runningOp 2047 = some ⟨aDieOp 0 0 none, 0, 0, false, 0⟩ ∧ (runS 0 0).profileOf 2047 = some aProfile ∧
      (runS 0 0).plt.dieMoves = [] ∧ (runS 0 0).plt.fnMoves = [] ∧ (aDieOp 0 0 none).epoch = (runS 0 0).dieEpochOf 2047 ∧
      (((bandAs (runS 0 0) 127 (fun x => { x with st := .closed })).bandRec ((runS 0 0).bandOf 2047 0)).st ≠ .free) ∧
      (((flashS s0 { aProfile with readLimit := 0 }).profileOf (128 * dieSheet 2047 + 127 % 128)).map Profile.readLimit).getD 0 = 0) ∧
    ((aDieOp 0 1 (some (255, 1023, 65535))).epoch ≠ staleS.dieEpochOf 2047 ∧ staleS.wasReplanned { aDieOp 0 1 (some (255, 1023, 65535)) with stale := true } = true ∧
      staleS.wasReplanned (aDieOp 0 1 none) = false) ∧
    (underS.plt.dieMoves = [] ∧ underS.plt.fnMoves = [] ∧ (aDieOp 0 0 none).orphan = false ∧ underS.runningOp 2047 = some ⟨aDieOp 1 0 none, 0, 0, true, 0⟩ ∧
      tabGet (fun _ => none) underS.plt.reading 2047 = some ⟨aDieOp 0 0 none, 0, 0, false, 0⟩) ∧
    ((runS 2 0).runningOp 2047 = some ⟨aDieOp 2 0 none, 0, 0, false, 0⟩ ∧
      ((bandAs (runS 2 0) 127 (fun x => { x with st := .erasing, cls := 3 })).bandRec ((runS 2 0).bandOf 2047 0)).cls = 3 ∧
      ((bandAs (runS 2 0) 127 (fun x => { x with st := .erasing })).bandRec ((runS 2 0).bandOf 2047 0)).st = .erasing) := by
  dsimp only; and_intros <;> decide +kernel

def bandS (st : BandState) (f : Band → Band) : State := bandAs upS 127 (fun x => f { x with st := st, wb := 16, sheets := 0xFFFF, pages := 10 })

theorem test_witness_BandsMoveThroughTheirStates :
    (∃ k ∈ (bandS .closed id).svy.band.map Prod.fst, k % 128 = 127 ∧ (bandS .closed id).gcCandidate k = true) ∧
    (upS.svy.band = [] ∧ 4 ≤ upS.width 127 ∧ upS.urgency 127 ≠ 3 ∧ upS.freeBand 127 = some 127 ∧ s0.urgency 127 = 3 ∧
      ∀ sh ∈ upS.presentSheets (127 % 128), (tabGet (fun _ => []) upS.svy.bad (128 * sh + 127 % 128)).contains ((upS.bandRec 127).member 127 sh) = false) ∧
    (let s := { upS with svy := { upS.svy with bad := [(2047, [0])], spares := [(2047, some [])] } }
     s.freeBand 127 = some 127 ∧ 15 ∈ s.presentSheets (127 % 128) ∧
     (tabGet (fun _ => []) s.svy.bad (128 * 15 + 127 % 128)).contains ((s.bandRec 127).member 127 15) = true ∧
     (s.sparesOf (128 * 15 + 127 % 128)).all (tabGet (fun _ => []) s.svy.bad (128 * 15 + 127 % 128)).contains = true) ∧
    (((bandS .drained id).bandRec 127).st = .drained ∧ tabGet (fun _ => 0) (bandS .drained id).atl.pins 127 = 0 ∧
      (∀ sh ∈ maskList ((bandS .drained id).bandRec 127).sheets, (bandS .drained id).noOldReads (128 * sh + 127 % 128) = true) ∧
      15 ∈ maskList ((bandS .drained id).bandRec 127).sheets ∧ (bandS .drained id).usableFor (127 % 128) 15 = true ∧
      ((bandS .drained id).bandRec 127).retire = false ∧ ((bandS .drained (fun x => { x with retire := true })).bandRec 127).retire = true) ∧
    (let s := bandS .drained (fun x => { x with gbb := 2 ^ 15 })
     15 ∈ maskList (s.bandRec 127).gbb ∧ (s.bandRec 127).retire = false ∧ (s.bandRec 127).priced = false ∧
     (let s := { s with svy := { s.svy with spares := [(2047, some [])] } }
      (s.sparesOf (128 * 15 + 127 % 128)).any (fun k => !(tabGet (fun _ => []) s.svy.bad (128 * 15 + 127 % 128)).contains k) = false) ∧
     (let s := { s with svy := { s.svy with spares := [(2047, some [5])] } }
      maskList (s.bandRec 127).gbb = [15] ∧
      (s.sparesOf (128 * 15 + 127 % 128)).any (fun k => !(tabGet (fun _ => []) s.svy.bad (128 * 15 + 127 % 128)).contains k) = true)) ∧
    (let s := bandAs s0 127 (fun x => { x with st := .drained, sheets := 0xFFFF })
     maskList (s.bandRec 127).gbb = [] ∧ (s.bandRec 127).st = .drained ∧ ∀ sh ∈ maskList (s.bandRec 127).sheets, s.usableFor (127 % 128) sh = false) ∧
    tabGet (fun _ => 0) ({ s0 with atl := { s0.atl with pins := [(127, 1)] } } : State).atl.pins 127 ≠ 0 ∧
    (let s := fun st => { bandS st id with svy := { (bandS st id).svy with refreshQ := [127] } }
     (s .closed).svy.refreshQ = 127 :: [] ∧ ((s .closed).bandRec 127).st = .closed ∧ ((s .opened).bandRec 127).st = .opened ∧
     ((s .victim).bandRec 127).st ≠ .closed ∧ ((s .victim).bandRec 127).st ≠ .opened) ∧
    (let s := bandS .opened (fun x => { x with valid := 1, reads := [(15, 1000000)] })
     (s.bandRec 127).st = .opened ∧ s.readLimitHit 127 = true ∧ (s.bandRec 127).valid ≠ 0) ∧
    (maskBit ((bandS .closed (fun x => { x with rebuild := 2 ^ 15 })).bandRec 127).rebuild 15 = true ∧
      ((bandS .opened (fun x => { x with rebuild := 2 ^ 15 })).bandRec 127).st = .opened) ∧
    (let s := bandS .closed (fun x => { x with rebuild := 2 ^ 15, erased := [(9, 3)], nextRow := 10 })
     3 ≤ s.erasures 127 9 ∧ s.plainErasures 127 < 3 ∧ 9 ∈ (s.bandRec 127).erased.map Prod.fst) ∧
    (let s := bandS .closed (fun x => { x with rebuild := 2 ^ 15, gone := 3, nextRow := 10 })
     3 ≤ s.erasures 127 8 ∧ 3 ≤ s.plainErasures 127 ∧ 8 < (s.bandRec 127).written) := by
  dsimp only; and_intros <;> decide +kernel

theorem test_witness_UpkeepBooksDebtAndPublishes :
    ((∀ m ∈ upS.members 127, ¬ upS.debtAhead m.1 + tabGet (fun _ => 0) upS.plt.excess m.1 <
        ceilDiv (upS.victimWork 127) (max 1 (upS.members 127).length)) ∧
      (let s := bandS .victim (fun x => { x with valid := 1 })
       (∃ m ∈ s.members 127, s.debtAhead m.1 + tabGet (fun _ => 0) s.plt.excess m.1 <
         ceilDiv (s.victimWork 127) (max 1 (s.members 127).length))) ∧
      (let s := { upS with plt := { upS.plt with debt := [(2047, 1)] } }
       ∃ m ∈ s.members 127, 0 < s.debtNow m.1) ∧
      (let s := { bandS .victim (fun x => { x with valid := 1 }) with plt := { upS.plt with converted := [(2047, 2 ^ 40)] } }
       ∃ m ∈ s.members 127, min (ceilDiv (s.victimWork 127) (max 1 (s.members 127).length))
         (tabGet (fun _ => 0) s.plt.converted m.1) = ceilDiv (s.victimWork 127) (max 1 (s.members 127).length))) ∧
    (let s := { bandAs upS 127 id with par := { upS.par with layoutGen := 1 } }
     (s.bandRec 127).layoutGen ≠ s.par.layoutGen) ∧
    (let s := bandAs (rowS (mapS (mappedAt (2047 * 2 ^ 25))) .victim 0) 255 (fun x => { x with st := .closed, cls := 1, wb := 16, sheets := 0xFFFF, pages := 10 })
     let new := 2047 * 2 ^ 25 + aProfile.pages * aProfile.planes
     (s.bandRec (s.bandOfAddr (2047 * 2 ^ 25 % 2 ^ 36))).st = .victim ∧ s.dataIn new 1 = true ∧
     s.bandOfAddr (new % 2 ^ 36) % 128 = s.relocGroup (s.bandOfAddr (2047 * 2 ^ 25 % 2 ^ 36) % 128) ∧
     s.atl.recovering.contains (segOfIu (iuKey 31 818)) = false ∧ s.lookup (iuKey 31 818) = mappedAt (2047 * 2 ^ 25) ∧
     (s.bandRec (s.bandOfAddr (new % 2 ^ 36))).layoutGen = s.par.layoutGen ∧ (s.readySegs [segOfIu (iuKey 31 818)]).isSome = true ∧
     s.nextValid (s.bandOfAddr (2047 * 2 ^ 25 % 2 ^ 36)) = some (iuKey 31 818) ∧ (s.relocRead (2047 * 2 ^ 25 % 2 ^ 36)).isSome = true ∧
     s.lookup (iuKey 31 817) ≠ mappedAt (2047 * 2 ^ 25) ∧
     (let s := bandAs s 127 (fun x => { x with gone := 0xE000 })
      s.relocRead (2047 * 2 ^ 25 % 2 ^ 36) = none ∧ s.lookup (iuKey 31 818) = mappedAt (2047 * 2 ^ 25) ∧
      s.pageOfAddr (2047 * 2 ^ 25 % 2 ^ 36) ∉ (s.bandRec (s.bandOfAddr (2047 * 2 ^ 25 % 2 ^ 36))).lost)) ∧
    (upS.bandRec (upS.bandOfAddr (2047 * 2 ^ 25))).st ≠ .victim ∧
    (let s := { upS with svy := { upS.svy with published := true, minFree := upS.fld F.SVY_FREE_WM_LEVEL 0 } }
     (upS.svy.published = false ∧ (s.minFreeNow < s.fld F.SVY_FREE_WM_LEVEL 0 ∨ s.fld F.SVY_FREE_WM_LEVEL 0 ≤ s.minFreeNow))) ∧
    (let s := { bandS .closed (fun x => { x with closedAt := some 0 }) with dat := { Datum.reset with count := 2 ^ 46 } }
     s.firstSample = some 127 ∧ s.svy.sampledNow < s.fld F.SVY_SCAN_CFG_SCAN_MAX 0 ∧ s.sampleOfBand 127 = some (127, 0)) := by
  dsimp only; and_intros <;> decide +kernel

def fillingS (x : Slot) : State := { bandS .opened id with par := { (bandS .opened id).par with slot := [(3583, x)] } }
def aSlot : Slot := { Slot.reset with st := .filling, band := 127, sheets := 0xFFFF, pSheet := 0, qSheet := 1, wb := 16 }

theorem test_witness_StripesSweepsAndEvacuations :
    (let s := bandS .opened id
     (s.bandRec 127).st = .opened ∧ (s.bandRec 127).nextRow < (s.bandRec 127).pages ∧
     (s.slotsOfBand 127).length < s.fld F.PAR_CTRL_STRIPES_IN_FLIGHT 0 ∧ s.freeJslot = some 1) ∧
    (let s := fillingS aSlot
     (s.jslot 3583).st = .filling ∧ 15 ∈ (s.jslot 3583).dataSheets ∧ maskBit (s.jslot 3583).folded 15 = false ∧
     (s.jslot 3583).copy < 2 ∧ (s.jslot 3583).p.length = 2 ∧ (s.jslot 3583).q.length = 2 ∧ s.evacFirst [7] = false ∧
     ({ s with atl := { s.atl with evac := [5], stage := [(5, some { aStage 0 with progs := 0 })] } } : State).evacFirst [7] = true ∧
     ({ s with atl := { s.atl with evac := [5], stage := [(5, some { aStage 0 with progs := 0 })] } } : State).evacFirst [7, 5] = false) ∧
    (let s := fillingS { aSlot with st := .parity, folded := 0xFFFF, written := 0xFFFC }
     (s.jslot 3583).st = .parity ∧ s.dataDone (s.jslot 3583) = true ∧ s.parityLeft (s.jslot 3583) ≠ []) ∧
    (let s0 := fillingS { aSlot with st := .short, folded := 0xFFFF, written := 0xFFFC }
     let s := { s0 with par := { s0.par with usable := 0xFFFC } }
     (s.jslot 3583).st = .short ∧ s.dataDone (s.jslot 3583) = true ∧ s.parityLeft (s.jslot 3583) = []) ∧
    (let s := bandS .closed id
     (s.bandRec 127).st ≠ .free ∧ (s.bandRec 127).st ≠ .retired ∧
     ((maskList (s.bandRec 127).sheets).filter (fun sh => !maskBit ((s.bandRec 127).padMask 0) sh &&
       ([2, 15].contains sh || s.isErasure 127 0 sh))).length ≤ 2 ∧
     3 ≤ ((maskList (s.bandRec 127).sheets).filter (fun sh => !maskBit ((s.bandRec 127).padMask 0) sh &&
       ([2, 3, 15].contains sh || s.isErasure 127 0 sh))).length ∧ 0 ∉ (s.bandRec 127).lost) ∧
    (¬ (0xFFFF % 65536 &&& 0xFFFF % 65536 = s0.par.usable ∧ 0xFFFF % 65536 = s0.par.present)) ∧
    (let s := { s0 with par := { s0.par with sweep := true } }
     s.par.sweep = true ∧ s.lastBand ≤ s.par.frontier ∧ ∀ e ∈ s.svy.band, e.2.st = .closed → s.current e.1 = true) ∧
    (let s := { bandS .closed (fun x => { x with sheets := 0xF, wb := 4 }) with par := { upS.par with sweep := true, frontier := 2 ^ 20 } }
     s.par.sweep = true ∧ s.lastBand ≤ s.par.frontier ∧ ∃ e ∈ s.svy.band, e.2.st = .closed ∧ s.current e.1 = false) ∧
    (let s := { upS with par := { upS.par with sweep := true } }
     s.par.frontier < s.lastBand ∧ s.passes s.par.frontier = true) ∧
    (let s := { bandS .closed (fun x => { x with sheets := 0xF, wb := 4 }) with par := { upS.par with sweep := true, frontier := 127 } }
     s.par.frontier < s.lastBand ∧ s.passes s.par.frontier = false ∧ s.nextReshape = some 127) ∧
    (let s := { bayAs upS 15 (fun x => { x with st := .evacuating }) with par := { upS.par with evac := some 15 } }
     s.par.evac = some 15 ∧ (s.bay 15).st = .evacuating ∧ maskBit s.par.usable 15 = true ∧
     (let t := { s with par := { s.par with usable := 0x7FFF } }
      maskBit t.par.usable 15 = false ∧ t.reserveErasing = false) ∧
     (let t := { bandAs s 127 (fun x => { x with st := .erasing, cls := 3 }) with par := { s.par with usable := 0x7FFF } }
      maskBit t.par.usable 15 = false ∧ t.reserveErasing = true)) ∧
    (let s := bandS .closed (fun x => { x with sheets := 0xFFFF })
     let u : State := { s with par := { s.par with present := 0xFFFF, usable := 0x7FFF } }
     (s.bandRec 127).st = .closed ∧ u.current 127 = false ∧ s.par.usable &&& (65535 - 0xFFFF) = 0) := by
  dsimp only; and_intros <;> decide +kernel

theorem test_witness_TwoErasuresAreRebuiltByteForByte :
    [2, 3, 15].Nodup ∧ (∀ sh ∈ [2, 3, 15], sh < 16) ∧ 0 ∉ [2, 3, 15] ∧ 1 ∉ [2, 3, 15] ∧
    (let row := fun k => [xorBytes (xorBytes [1, 255] [0, 7]) [128, 64],
       xorBytes (xorBytes (gfScale (gfWeight 2) [1, 255]) (gfScale (gfWeight 3) [0, 7])) (gfScale (gfWeight 15) [128, 64]),
       [1, 255], [0, 7], [], [], [], [], [], [], [], [], [], [], [], [128, 64]].getD k []
     (∀ sh ∈ [2, 3, 15], (row sh).length = 2 ∧ ∀ x ∈ row sh, x < 256) ∧
     row 0 = [2, 3, 15].foldl (fun a sh => xorBytes a (row sh)) [] ∧
     row 1 = [2, 3, 15].foldl (fun a sh => xorBytes a (gfScale (gfWeight sh) (row sh))) []) ∧
    [2, 15].Nodup ∧ [2, 15].length ≤ 2 ∧ (∀ x ∈ [2, 15], x ∈ [2, 3, 15] ∨ x = 0 ∨ x = 1) := by
  dsimp only; and_intros <;> decide +kernel

/-! Channels, dies and die contexts -/

def dueS (left : Nat) : State := chanAs upS 127 (fun x => { x with due := true, stepsLeft := left })

theorem test_witness_ChannelsAreDiscoveredAndTrained :
    ({ s0 with bays := [(15, { Bay.reset with pwrGood := true })] } : State).soldered = false ∧
    (({ s0 with bays := [(15, { Bay.reset with pwrGood := true })] } : State).bay (127 / 8)).pwrGood = true ∧
    (upS.chanBooked 127 = false ∧ ((chanAs upS 127 (fun x => { x with trained := false })).chan 127).trained = false ∧
      ({ upS with plt := { upS.plt with chan := [(127, 1)] } } : State).chanBooked 127 = true ∧
      (chanAs s0 127 (fun x => { x with trained := false })).chanBooked 127 = false ∧ s0.fenced 0x0A0 127 = false ∧
      (∀ d ∈ chanDies 127, (s0.dieOf d).present = false)) ∧
    (upS.fenced 0x0A0 127 = false ∧ [(2047, 11, 0)].find? (fun e => decide (e.1 = 2047)) = some (2047, 11, 0) ∧
      (chanDies 127).filterMap (fun d => if (upS.dieOf d).present && !(upS.dieOf d).absent then (upS.profileOf d).map (fun p => (d, p)) else none) =
        [(2047, aProfile)] ∧ upS.dieLive 2047 = true ∧
      modeOf (upS.fld F.FCH_CFG_RATE_CAP 127) [aProfile] = some true ∧ aProfile.supports true = true ∧
      min aProfile.maxRate (min (upS.fld F.FCH_CFG_RATE_CAP 127) (modeHigh true)) = 11 ∧ modeLow true ≤ 11) ∧
    (((dueS 2).chan 127).due = true ∧ (dueS 2).plt.quiet ≠ some 127 ∧ 2 ≤ ((dueS 25).chan 127).stepsLeft ∧
      (∀ len ∈ (dueS 25).stepLen 127 (25 - 25), tabGet (fun _ => 0) (dueS 25).plt.hkUsed 127 + len ≤ 16 * (dueS 25).hk ∧
        ∀ d ∈ chanDies 127, (dueS 25).dieLive d = true → (dueS 25).runsBarred d (dueS 25).now [(0, 50 * len)] = false) ∧
      (dueS 25).srv.queued.any (fun t => t.forced && decide ((t.block = 0x0A0 ∨ t.block = 0x0A1) ∧ t.inst = 127)) = false ∧
      (dueS 25).stepLen 127 0 = some 160) ∧
    (((dueS 1).chan 127).stepsLeft = 1 ∧ (dueS 1).stepLen 127 24 = some 0 ∧ (16 * 127 + (16 - 1) = 2047) ∧
      tabGet (fun _ => 0) (dueS 1).plt.hkUsed 127 + 0 ≤ 16 * (dueS 1).hk ∧
      (∀ d ∈ chanDies 127, (dueS 1).dieLive d = true → (dueS 1).runsBarred d (dueS 1).now [(0, 50 * 0)] = false) ∧
      ((dueS 1).dieOf 2047).trainFails = 0 ∧ ((dueS 1).chan 127).late = false) ∧
    ((upS.chan 127).trained = true ∧ ((chanAs upS 127 (fun x => { x with trained := false })).chan 127).trained = false) := by
  and_intros <;> decide +kernel

def longS (st : CtxState) : State := ctxAs upS 2047 (fun x => { x with st := st, long := 2, pc := 0x123 })

/-- The sheet below's die of the same group carries a closed window from now on. -/
def barredS (s : State) : State := { s with plt := { s.plt with closed := [(1919, [⟨0, 2 ^ 20, 3, 0⟩])] } }

theorem test_witness_RunTimersAndSuspensionsEnd :
    ((dieAs upS 2047 (fun x => { x with runKind := 2 })).dieOf 2047).runKind ≠ 0 ∧
    (let s := dieAs (ctxAs (longS .running) 2047 (fun x => { x with pend := [2] })) 2047 (fun x => { x with runKind := 2 })
     (s.dieOf 2047).runKind ≠ 0 ∧ (s.ctxOf 2047).pend = [2] ∧ (s.ctxOf 2047).atBoundary = true ∧ (s.ctxOf 2047).long ≠ 0 ∧
     (s.ctxOf 2047).st = .running ∧ (s.ctxOf 2047).handler = 0 ∧ s.suspendRefused 2047 = false) ∧
    (((longS .suspended).ctxOf 2047).st = .suspended ∧ ((longS .suspended).ctxOf 2047).inRead = false ∧
      (longS .suspended).runsBarred 2047 (longS .suspended).now ((longS .suspended).resumeRuns 2047) = false ∧
      (barredS (longS .suspended)).runsBarred 2047 0 ((barredS (longS .suspended)).resumeRuns 2047) = true ∧
      ((ctxAs (longS .suspended) 2047 (fun x => { x with inRead := true })).ctxOf 2047).inRead = true) ∧
    (upS.dieLive 2047 = true ∧ (upS.ctxOf 2047).st ≠ .fenced ∧ 0xFE % 256 ≠ 0xFF ∧ tabGet (fun _ => none) upS.plt.reading 2047 = none ∧
      upS.runningOp 2047 = none) := by
  dsimp only; and_intros <;> decide +kernel

def wordS : State := ctxAs upS 2047 (fun x => { x with st := .running })
/-- The word whose bits are those listed. -/
def wd (l : List Nat) : BitVec 128 := BitVec.ofNat 128 (l.foldl (fun n k => n + 2 ^ k) 0)

/-- Die 2047's context at the first patch word, which is `w`. -/
def storeS (w : BitVec 128) (f : Ctx → Ctx) : State :=
  let s := ctxAs upS 2047 (fun x => f { x with st := .running, pc := 0xE00 })
  { s with trv := { s.trv with ucode := [(0, { Ucode.reset with ram := [(0, w)] })] } }
def heldLong (x : Ctx) : Ctx := { x with long := 2, handler := 0x030 }

theorem test_witness_TWordsRunAndAreChecked :
    ((storeS (wd [0]) id).issues 2047 (wd [0]) = true ∧ twParityOk (wd [0]) = false ∧ twBad (wd [1, 2]) = true ∧
      (storeS (wd [1, 2]) id).issues 2047 (wd [1, 2]) = true ∧
      (let s := storeS (wd [88, 0]) (fun x => { x with chain := 128 })
       s.issues 2047 (wd [88, 0]) = true ∧ twParityOk (wd [88, 0]) = true ∧ twBad (wd [88, 0]) = false ∧ twClass (wd [88, 0]) = 0x10 ∧
       (s.ctxOf 2047).overruns (wd [88, 0]) .clean = true)) ∧
    (carried (storeS (wd []) id) 2047 (wd []) .clean ∧ twClass (wd []) = 0x00 ∧ carried (storeS (wd []) id) 2047 (wd []) .retried) ∧
    (carried (storeS (wd [84, 0]) id) 2047 (wd [84, 0]) .clean ∧ twClass (wd [84, 0]) = 0x01) ∧
    (carried (storeS (wd [85, 0]) id) 2047 (wd [85, 0]) .clean ∧ twClass (wd [85, 0]) = 0x02 ∧
      carried (storeS (wd [85, 0]) (fun x => { x with handler := 0x040, st := .suspended })) 2047 (wd [85, 0]) .clean) ∧
    (carried (storeS (wd [85, 84]) id) 2047 (wd [85, 84]) .clean ∧ twClass (wd [85, 84]) = 0x03 ∧
      carried (storeS (wd [85, 84]) heldLong) 2047 (wd [85, 84]) .clean ∧
      ((storeS (wd [85, 84]) heldLong).ctxOf 2047).longAfter (wd [85, 84]) = 2 ∧
      carried (storeS (wd [85, 84, 16, 15]) heldLong) 2047 (wd [85, 84, 16, 15]) .clean ∧ twClass (wd [85, 84, 16, 15]) = 0x03 ∧
      ((storeS (wd [85, 84, 16, 15]) heldLong).ctxOf 2047).longAfter (wd [85, 84, 16, 15]) = 0) ∧
    (carried (storeS (wd [86, 0]) id) 2047 (wd [86, 0]) .clean ∧ twClass (wd [86, 0]) = 0x04 ∧
      (let s := storeS (wd [86, 0]) (fun x => { x with st := .suspended, inRead := true })
       carried s 2047 (wd [86, 0]) .clean ∧ s.moreReads 2047 = false ∧ s.runsBarred 2047 s.now (s.resumeRuns 2047) = false)) ∧
    (let w := wd [88, 0]
     carried (storeS w id) 2047 w .clean ∧ twClass w = 0x10 ∧ (storeS w id).profileOf 2047 = some aProfile ∧
     (storeS w id).cmdByte 2047 w = 0 ∧ 0 ≠ aProfile.suspP ∧ 0 ≠ aProfile.suspE ∧ 0 ≠ aProfile.resP ∧ 0 ≠ aProfile.resE) ∧
    (let w := wd [88, 73]
     let s := storeS w heldLong
     carried s 2047 w .clean ∧ twClass w = 0x10 ∧ s.cmdByte 2047 w = aProfile.suspE ∧ s.timerRuns 2047 = false ∧ s.suspendRefused 2047 = false ∧
     (dieAs s 2047 (fun x => { x with runKind := 2 })).timerRuns 2047 = true ∧
     (ctxAs s 2047 (fun x => { x with suspCount := 8 })).suspendRefused 2047 = true) ∧
    (let w := wd [88, 74]
     let s := storeS w heldLong
     carried s 2047 w .clean ∧ s.cmdByte 2047 w = aProfile.resE ∧ aProfile.resE ≠ aProfile.suspP ∧ aProfile.resE ≠ aProfile.suspE ∧
     s.runsBarred 2047 s.now (s.resumeRuns 2047) = false ∧
     (barredS s).runsBarred 2047 (barredS s).now ((barredS s).resumeRuns 2047) = true) ∧
    (carried (storeS (wd [88, 84, 67, 0]) id) 2047 (wd [88, 84, 67, 0]) .clean ∧ twClass (wd [88, 84, 67, 0]) = 0x11) ∧
    (carried (storeS (wd [88, 85]) id) 2047 (wd [88, 85]) .clean ∧ twClass (wd [88, 85]) = 0x12 ∧ 0xFE % 256 ≠ 0xFF ∧
      ((storeS (wd [88, 85]) id).dieOf 2047).ffCount < 2 ∧ ((storeS (wd [88, 85]) id).ctxOf 2047).handler ≠ 0x060) ∧
    (carried (storeS (wd [88, 85, 84, 0]) id) 2047 (wd [88, 85, 84, 0]) .clean ∧ twClass (wd [88, 85, 84, 0]) = 0x13) ∧
    (carried (storeS (wd [88, 86]) id) 2047 (wd [88, 86]) .clean ∧ twClass (wd [88, 86]) = 0x14) := by
  unfold carried; dsimp only; and_intros <;> decide +kernel

/-- Four older die epochs still live in the queue of die 2047. -/
def oldEpochs (s : State) : State :=
  { s with plt := { s.plt with queue := [(2047, [1, 2, 3, 4].map (fun e => { aDieOp 0 e none with id := e }))] } }
def aPlan : DiePlan := ⟨0xFFF, 1, 2, 3, 4, [], 0, 1⟩
def engDownS (st : CtxState) : State := fltAs (longS st) 0x0A2 (upS.ownerEng 2047) (fun u => { u with fenced := true })

theorem test_witness_DieContextsTakeTheirRequests :
    (let s := ctxAs wordS 2047 (fun x => { x with waiting := true, word := (wd [84, 0]).toNat })
     (s.ctxOf 2047).waiting = true ∧ s.fenced 0x0A2 (s.ownerEng 2047) = false) ∧
    (let s := ctxAs wordS 2047 (fun x => { x with moving := some 0 })
     let s : State := { s with trv := { s.trv with busHold := [(127, 4097 + 2047)] } }
     (s.ctxOf 2047).moving = some 0 ∧ s.holder (dieChan 2047) = 4097 + 2047 ∧ (s.laneOf (s.hardLane (dieChan 2047))).busy = none ∧
     ((s.readNow 2047).getD (s.newOp 2047 0 0 s.now)).ref = .set 0 ∧ ((s.readNow 2047).getD (s.newOp 2047 0 0 s.now)).stale = false ∧
     ((s.setLane (2 * dieChan 2047) { Lane.reset with busy := some (aLdpJob 8 2) }).laneOf
       ((s.setLane (2 * dieChan 2047) { Lane.reset with busy := some (aLdpJob 8 2) }).hardLane (dieChan 2047))).busy = some (aLdpJob 8 2)) ∧
    ((wordS.ctxOf 2047).atBoundary = true ∧ (wordS.dieOf 2047).fenced = false ∧ (wordS.ctxOf 2047).st ≠ .fenced ∧
      (wordS.ctxOf 2047).inRead = false) ∧
    (let s := ctxAs wordS 2047 (fun x => { x with atomic := true })
     (s.ctxOf 2047).atBoundary = false ∧ (s.ctxOf 2047).pend = []) ∧
    (0 ≠ wordS.owner 2047 ∧ wordS.mayMove 2047 0 = false ∧ (engDownS .running).mayMove 2047 0 = true ∧
      0 ≠ (engDownS .running).owner 2047 ∧ moveBar ((engDownS .running).dieEpochOf 2047) ((engDownS .running).liveEpochs 2047) = none ∧
      ((engDownS .running).ctxOf 2047).atBoundary = true ∧ ((engDownS .running).ctxOf 2047).inRead = false ∧
      ((engDownS .running).ctxOf 2047).st = .running ∧ ((engDownS .running).ctxOf 2047).long ≠ 0 ∧
      ((engDownS .running).ctxOf 2047).handler = 0 ∧
      ((ctxAs (engDownS .running) 2047 (fun x => { x with confirmed := true })).ctxOf 2047).confirmed = true ∧
      moveBar ((oldEpochs (engDownS .running)).dieEpochOf 2047) ((oldEpochs (engDownS .running)).liveEpochs 2047) = some 1 ∧
      (let s := ctxAs (engDownS .running) 2047 (fun x => { x with inRead := true })
       (s.ctxOf 2047).inRead = true ∧ s.mayMove 2047 0 = true ∧ moveBar (s.dieEpochOf 2047) (s.liveEpochs 2047) = none)) ∧
    (1 ∉ (wordS.ctxOf 2047).pend ∧ (wordS.ctxOf 2047).long = 0 ∧ (wordS.ctxOf 2047).handler = 0) ∧
    (let s := dieAs (longS .running) 2047 (fun x => { x with runKind := 2 })
     (s.ctxOf 2047).atBoundary = true ∧ 1 ∉ (s.ctxOf 2047).pend ∧ (s.ctxOf 2047).st = .running ∧ (s.ctxOf 2047).long ≠ 0 ∧
     s.timerRuns 2047 = true ∧ (s.dieOf 2047).held = false) ∧
    ((longS .running).timerRuns 2047 = false ∧ (longS .running).suspendRefused 2047 = false ∧
      (ctxAs (longS .running) 2047 (fun x => { x with suspCount := 8 })).suspendRefused 2047 = true) ∧
    (upS.canStart 2047 { aPlan with kind := 0 } = true ∧ upS.canStart 2047 aPlan = true ∧ (upS.ctxOf 2047).atBoundary = true ∧ (upS.ctxOf 2047).pend = [] ∧ wordS.canStart 2047 aPlan = false) ∧
    (((longS .suspended).ctxOf 2047).st = .suspended ∧ ((longS .suspended).ctxOf 2047).inRead = false ∧
      (longS .suspended).moreReads 2047 = false ∧ ((dieAs (longS .suspended) 2047 (fun x => { x with resumeDue := true })).dieOf 2047).resumeDue = true ∧
      (longS .suspended).runsBarred 2047 (longS .suspended).now ((longS .suspended).resumeRuns 2047) = false) ∧
    (let s := ctxAs upS 2047 (fun x => { x with st := .running })
     let s := s.setUnit 0x0A2 (s.ownerEng 2047) { s.unit 0x0A2 (s.ownerEng 2047) with isolated := true }
     0 ≠ s.owner 2047 ∧ s.mayMove 2047 0 = true ∧ s.fenced 0x0A2 (s.ownerEng 2047) = false ∧
     moveBar (s.dieEpochOf 2047) (s.liveEpochs 2047) = none ∧ (s.ctxOf 2047).atBoundary = true ∧ (s.ctxOf 2047).inRead = false) ∧
    ((engDownS .suspended).fenced 0x0A2 ((engDownS .suspended).ownerEng 2047) = true ∧ (engDownS .running).engineFree (dieChan 2047) 0 = true ∧
      ((engDownS .suspended).ctxOf 2047).inRead = false ∧ ((engDownS .suspended).ctxOf 2047).handler ≠ 0x050 ∧
      ((engDownS .suspended).ctxOf 2047).st = .suspended ∧ ((engDownS .running).ctxOf 2047).st = .running ∧
      moveBar ((oldEpochs (engDownS .suspended)).dieEpochOf 2047) ((oldEpochs (engDownS .suspended)).liveEpochs 2047) = some 1 ∧
      ((engDownS .running).ctxOf 2047).long ≠ 0) := by
  dsimp only; and_intros <;> decide +kernel

/-! Modes, power, pools, keys, records, the store -/

def envBytes : List Nat := bytesLe 2 60000 ++ [0, 0] ++ (List.range 16).flatMap (fun _ => bytesLe 2 10 ++ bytesLe 2 10000)
def stagedS (s : State) : State := s.setStage 5 (some ⟨0, aKey, true, 0, 1, 0, 4096, 0⟩)
def entering (s : State) (k : Nat) : State := { s with pwr := { s.pwr with entering := some k } }

theorem test_witness_PowerModesFollowTheirTriggers :
    (carriedOut sv (rq [1]) ⟨0x0803, 1, false, 1, 1, false⟩ ∧ sv.hubOn = true ∧ sv.dormantOk = true ∧
      (ctlAs sv 0 (fun x => { x with en := true })).dormantOk = false ∧
      carriedOut (ctlAs sv 0 (fun x => { x with en := true })) (rq [1]) ⟨0x0803, 1, false, 1, 1, false⟩) ∧
    (carriedOut sv (rq [2]) ⟨0x0803, 1, false, 1, 1, false⟩ ∧ sv.pwr.mode = .service ∧ sv.pwr.entering = none ∧
      carriedOut (inMode sv .ready) (rq [2]) ⟨0x0803, 1, false, 1, 1, false⟩ ∧ (inMode sv .ready).pwr.mode = .ready ∧
      carriedOut sv (rq [3]) ⟨0x0803, 1, false, 1, 1, false⟩ ∧
      carriedOut (inMode sv .ready) (rq [3]) ⟨0x0803, 1, false, 1, 1, false⟩ ∧ (inMode sv .ready).pwr.held = false) ∧
    (∀ e ∈ (ctlAs sv 0 (fun x => { x with en := true, ps := 4 })).enabledCtls, e.2.ps = 4) ∧
    (ctlAs sv 0 (fun x => { x with en := true, ps := 4 })).enabledCtls ≠ [] ∧
    ((entering (stagedS sv) 2).pwr.entering ≠ none ∧ (entering (stagedS sv) 2).hubOn = true ∧
      (entering (stagedS sv) 2).programsBooked = true ∧ (entering sv 2).programsBooked = false) ∧
    (let s := inMode sv .dormant
     s.pwr.wakeOut = false ∧ s.pwr.mode = .dormant ∧ s.romRecovery = false ∧
     ∀ b, b < 16 → (s.bay b).level = (s.bay b).present ∧ (s.bay b).press = false) ∧
    (let s := inMode (flashS sv { aProfile with tWAKE := 10 }) .dormant
     s.profileOf 2047 = some { aProfile with tWAKE := 10 } ∧ s.dieLive 2047 = true ∧ (s.chan 127).trained = true ∧
     (s.chan 126).trained = false ∧ s.pwr.wakeOut = false ∧ s.romRecovery = false ∧ s.fencedUnits = false) ∧
    carriedOut sv (rq []) ⟨0x0802, 1, true, 0, 0, false⟩ ∧
    (carriedOut sv (rq envBytes) ⟨0x0801, 1, false, 68, 68, false⟩ ∧ le envBytes 2 2 = 0 ∧
      Reg.inRange .PLT_ENVELOPE
        (putBits (sv.rg .PLT_ENVELOPE 0) F.PLT_ENVELOPE_TOTAL_TOKENS.hi F.PLT_ENVELOPE_TOTAL_TOKENS.lo (le envBytes 0 2)) = true ∧
      (∀ k, k < 16 → Reg.inRange .PLT_SHEET_PWR
        (putBits (putBits (sv.rg .PLT_SHEET_PWR k) F.PLT_SHEET_PWR_LADDER_10MA.hi F.PLT_SHEET_PWR_LADDER_10MA.lo (le envBytes (4 + 4 * k) 2))
          F.PLT_SHEET_PWR_SHEET_TOKENS.hi F.PLT_SHEET_PWR_SHEET_TOKENS.lo (le envBytes (6 + 4 * k) 2)) = true) ∧
      carriedOut sv (rq ([0, 0, 1] ++ zeros 65)) ⟨0x0801, 1, false, 68, 68, false⟩ ∧ le ([0, 0, 1] ++ zeros 65) 2 2 ≠ 0) ∧
    (let s := { sv with pwr := { sv.pwr with avsAt := some 0 }, now := msTicks }
     ∀ a ∈ s.pwr.avsAt, a + msTicks ≤ s.now) ∧
    (let s := { sv with pwr := { sv.pwr with avsAt := some 0 }, now := msTicks - 1 }
     s.pwr.avsAt = some 0 ∧ s.now < 0 + msTicks) := by
  unfold carriedOut; dsimp only; and_intros <;> decide +kernel

/-- `s` with the start-up running, `k` of its steps ended. -/
def bootingS (s : State) (k : Nat) : State := { s with start := { s.start with step := k, running := true } }
def testS (p : CapPhase) : State :=
  { sv with pwr := { sv.pwr with test := { CapTest.reset with phase := p, v1 := 40000, vs := 39000 }, stagingUse := 1 } }

theorem test_witness_HoldupAndTheCapacitorTest :
    (let s := bootingS s0 9
     s.start.running = true ∧ 0 < s.start.step ∧ s.start.step < 10 ∧ s.hubOn = true) ∧
    ((bootingS s0 0).start.step = 0 ∧ (bootingS s0 10).start.running = true ∧ 10 ≤ (bootingS s0 10).start.step) ∧
    (s0.start.running = false ∧ s0.hubOn = true) ∧
    ((inMode s0 .holdup).pwr.mode = .holdup ∧ (inMode s0 .dormant).pwr.mode = .dormant ∧ (inMode s0 .stopped).pwr.mode = .stopped ∧
      (inMode s0 .stopped).pwr.cause ≠ 3) ∧
    (carriedOut sv (rq []) ⟨0x0804, 3, false, 0, 0, true⟩ ∧ sv.pwr.test.phase = .idle ∧
      carriedOut (testS .steady) (rq []) ⟨0x0804, 3, false, 0, 0, true⟩ ∧ (testS .steady).pwr.test.phase ≠ .idle) ∧
    ((testS .draining).hubOn = true ∧ (testS .draining).testDue = true ∧ sv.testDue = true ∧
      ({ sv with pwr := { sv.pwr with tested := true } } : State).testDue = false ∧ (testS .draining).pwr.test.phase = .draining ∧ (testS .draining).bTest 40000 < (testS .draining).pwr.stagingUse ∧
      sv.pwr.stagingUse ≤ sv.bTest 40000) ∧
    ((testS .discharging).pwr.test.phase = .discharging ∧ (testS .recharging).pwr.test.phase = .recharging ∧
      (testS .discharging).now < (testS .discharging).pwr.test.startAt + 2 * sTicks ∧
      (let s := { testS .discharging with now := 2 * sTicks }
       s.pwr.test.startAt + 2 * sTicks ≤ s.now)) ∧
    (let s := { testS .discharging with pwr := { (testS .discharging).pwr with test := { CapTest.reset with phase := .discharging, v1 := 60000, vs := 1 } } }
     s.fld F.PWR_HOLD_LIMITS_ESR_MAX_MOHM 0 <
       (s.pwr.test.v1 - s.pwr.test.vs) * s.fld F.PWR_HOLD_BANK_R_TEST 0 * 100 / max 1 s.pwr.test.vs) := by
  unfold carriedOut; dsimp only; and_intros <;> decide +kernel

def bigS : State := sv.setFld F.DRC_CFG_GIB_PER_CH 0 32
def poolPl (p kind mask segs : Nat) : List Nat := [p, kind] ++ bytesLe 2 mask ++ zeros 4 ++ bytesLe 8 segs
def nsPl (p lbaf pi ci slot n : Nat) : List Nat := [p, lbaf, pi, ci] ++ bytesLe 2 slot ++ zeros 2 ++ bytesLe 8 n
def keyedS (s : State) : State := slotAs s 1023 (fun x => { x with cur := some ⟨0, 1, 0⟩, lastGen := 1 })
def roomS : State := { nsS (keyedS sv) with atl := { (nsS (keyedS sv)).atl with pools := [(31, some ⟨true, 4095, 3⟩)] } }
def smallNs : Ns := ⟨31, 0, 0, 0, 0, 8, 0, [], 1, none⟩
/-- Every NSID taken. -/
def fullNsS : State :=
  { roomS with atl := { roomS.atl with ns := (List.range' 1 1024).map (fun k => (k, some smallNs)) } }

def emptyPoolS : State := { sv with atl := { sv.atl with pools := [(31, some ⟨true, 4095, 1⟩)] } }

theorem test_witness_PoolsAndNamespacesAreMadeChangedAndListed :
    (carriedOut bigS (rq (poolPl 31 1 4095 1)) ⟨0x0201, 1, false, 16, 16, false⟩ ∧ (poolPl 31 1 4095 1).getD 0 0 < 32 ∧
      le (poolPl 31 1 4095 1) 2 2 < 4096 ∧ le (poolPl 31 1 4095 1) 4 4 = 0 ∧ le (poolPl 31 1 4095 1) 8 8 = 1 ∧
      bigS.poolOf 31 = none ∧ bigS.mapFits 4095 1 = true ∧ bigS.mapFits 1 (2 ^ 40) = false ∧
      carriedOut (nsS sv) (rq (poolPl 31 1 4095 1)) ⟨0x0201, 1, false, 16, 16, false⟩ ∧ (nsS sv).poolOf 31 ≠ none) ∧
    (carriedOut roomS (rq (poolPl 31 0 0 1)) ⟨0x0202, 1, false, 16, 16, false⟩ ∧ le (poolPl 31 0 0 1) 1 7 = 0 ∧
      roomS.poolOf 31 = some ⟨true, 4095, 3⟩ ∧ (∀ n ∈ roomS.nsIn 31, n.base + roomS.iuCount n ≤ 1 * 819)) ∧
    (carriedOut emptyPoolS (rq [31]) ⟨0x0203, 1, false, 1, 1, false⟩ ∧ emptyPoolS.poolOf 31 ≠ none ∧ emptyPoolS.nsIn 31 = [] ∧
      (nsS sv).nsIn 31 ≠ [] ∧ carriedOut (nsS sv) (rq [31]) ⟨0x0203, 1, false, 1, 1, false⟩) := by
  unfold carriedOut; and_intros <;> decide +kernel

/-- A pool of one segment the namespace outgrows. -/
def tallS : State := (roomS.setNs 1 (some { aNs with nlba := 8 * 820 }))

theorem test_witness_PoolsAndNamespacesAreMadeChangedAndListed_namespaces :
    (∃ n ∈ tallS.nsIn 31, 1 * 819 < n.base + tallS.iuCount n) ∧
    (carriedOut roomS (rq (nsPl 31 3 3 1 1023 1)) ⟨0x0204, 1, false, 16, 16, false⟩ ∧ roomS.poolOf 31 = some ⟨true, 4095, 3⟩ ∧
      lbaBytes 3 ≤ (⟨true, 4095, 3⟩ : Pool).iuBytes ∧ roomS.isKN = false ∧ roomS.slotReady 1023 1 = true ∧
      (roomS.kslot 1023).nsid = 0 ∧ roomS.freeNsid = some 2 ∧
      roomS.findBase 31 ⟨true, 4095, 3⟩ (ceilDiv 1 ((⟨true, 4095, 3⟩ : Pool).iuBytes / lbaBytes 3)) = some 819) ∧
    (carriedOut roomS (rq (bytesLe 4 1 ++ zeros 4 ++ bytesLe 8 (8 * 820))) ⟨0x0205, 1, false, 16, 16, false⟩ ∧
      roomS.nsOf 1 = some aNs ∧ aNs.nlba < 8 * 820 ∧ aNs.base + roomS.iuCount { aNs with nlba := 8 * 820 } ≤ 3 * 819 ∧
      (∀ m ∈ roomS.nsIn 31, m.base ≤ aNs.base) ∧ 1 * 819 < aNs.base + (nsS sv).iuCount { aNs with nlba := 8 * 820 }) ∧
    (carriedOut (nsS sv) (rq (bytesLe 4 1)) ⟨0x0206, 1, false, 4, 4, false⟩ ∧ aNs.attached ≠ [] ∧
      ((nsS sv).setNs 1 (some { aNs with attached := [] })).nsOf 1 = some { aNs with attached := [] }) ∧
    (carriedOut (nsS sv) (rq (bytesLe 4 1 ++ [254])) ⟨0x0207, 1, false, 5, 5, false⟩ ∧
      carriedOut (nsS sv) (rq (bytesLe 4 1 ++ [255])) ⟨0x0208, 1, false, 5, 5, false⟩ ∧ 255 ∈ aNs.attached ∧ 254 ∉ aNs.attached ∧
      (nsS sv).nsOf 1 = some aNs) ∧
    carriedOut (nsS sv) (rq (bytesLe 4 0)) ⟨0x0209, 1, false, 4, 4, false⟩ ∧
    (carriedOut (nsS sv) (rq (bytesLe 4 1)) ⟨0x020A, 1, false, 4, 4, false⟩ ∧ (nsS sv).nsOf 1024 = none) := by
  unfold carriedOut; and_intros <;> decide +kernel

theorem tabFind_of_mem {α : Type} (f : Nat → α) (k : Nat) : ∀ l : List Nat, k ∈ l → tabFind (l.map (fun j => (j, f j))) k = some (f k)
  | [], h => by cases h
  | j :: l, h => by
    by_cases e : k = j
    · simp [tabFind, e]
    · simp only [List.map_cons, tabFind, if_neg e]
      exact tabFind_of_mem f k l (by simpa [e] using h)

theorem test_witness_PoolsAndNamespacesAreMadeChangedAndListed_full :
    fullNsS.freeNsid = none ∧ carriedOut fullNsS (rq (nsPl 31 0 0 0 0 1)) ⟨0x0204, 1, false, 16, 16, false⟩ := by
  constructor
  · refine List.find?_eq_none.2 fun k hk => ?_
    have h : fullNsS.nsOf k = some smallNs := by
      unfold State.nsOf tabGet
      rw [show fullNsS.atl.ns = (List.range' 1 1024).map (fun j => (j, some smallNs)) from rfl,
        tabFind_of_mem (fun _ => some smallNs) k _ hk]
      rfl
    simp [h]
  · unfold carriedOut; and_intros <;> decide +kernel

def keyPl (n kind : Nat) : List Nat := bytesLe 2 n ++ [kind, 0] ++ bytesLe 2 (wrappedLen kind) ++ zeros 2 ++ zeros (wrappedLen kind)
def rekeyPl (id kind : Nat) : List Nat := bytesLe 4 id ++ bytesLe 2 (wrappedLen kind) ++ zeros 2 ++ zeros (wrappedLen kind)
def cNs : Ns := { aNs with cipher := 1, slot := 1023 }
def cipherS (n : Ns) : State :=
  let s := (nsS (keyedS sv)).setNs 1 (some n)
  slotAs s 1023 (fun x => { x with nsid := 1 })
def sweepS (c : Nat) : State := slotAs (cipherS { cNs with lbaf := 0 }) 1023 (fun x => { x with shadow := some ⟨0, 0, 0⟩, cursor := c })

theorem test_witness_KeysAreImportedErasedAndSwept :
    (carriedOut sv (rq (keyPl 1023 1)) ⟨0x0301, 1, true, 8, 80, false⟩ ∧ le (keyPl 1023 1) 0 2 = 1023 ∧
      le (keyPl 1023 1) 4 2 = wrappedLen 1 ∧ (keyPl 1023 1).length = 8 + wrappedLen 1 ∧ sv.mayNameSlot 0 1023 = true ∧ sv.isKN = false ∧
      (sv.kslot 1023).nsid = 0 ∧ ((cipherS cNs).kslot 1023).nsid ≠ 0 ∧
      carriedOut (cipherS cNs) (rq (keyPl 1023 0)) ⟨0x0301, 1, true, 8, 80, false⟩) ∧
    (carriedOut sv (rq (bytesLe 2 1023)) ⟨0x0303, 1, true, 2, 2, false⟩ ∧
      carriedOut (cipherS cNs) (rq (bytesLe 2 1023)) ⟨0x0303, 1, true, 2, 2, false⟩) ∧
    (let s := s0.setMb 255 { Mbx.reset with version := 3 }
     carriedOut s { rq (bytesLe 2 1023) with path := 255 } ⟨0x0303, 1, true, 2, 2, false⟩ ∧ s.mayNameSlot 255 1023 = false) ∧
    (carriedOut sv (rq (bytesLe 2 1022 ++ bytesLe 2 2 ++ [255])) ⟨0x0304, 1, false, 5, 5, false⟩ ∧ 1022 + 2 ≤ 1024) ∧
    carriedOut sv (rq (bytesLe 2 1023)) ⟨0x0305, 1, true, 2, 2, false⟩ ∧
    (carriedOut (cipherS cNs) (rq (rekeyPl 1 0)) ⟨0x0302, 3, true, 8, 80, true⟩ ∧ le (rekeyPl 1 0) 6 2 = 0 ∧
      le (rekeyPl 1 0) 0 4 = 1 ∧ (rekeyPl 1 0).length = 8 + le (rekeyPl 1 0) 4 2 ∧
      (cipherS cNs).nsOf 1 = some cNs ∧ cNs.cipher ≠ 0 ∧ (cipherS cNs).mayNameSlot 0 1023 = true ∧ (cipherS cNs).isKN = false ∧
      cNs.lbaf ≠ 1 ∧ le (rekeyPl 1 0) 4 2 = wrappedLen (cNs.cipher - 1) ∧ ((cipherS cNs).kslot 1023).shadow = none ∧
      (cipherS { cNs with lbaf := 1 }).nsOf 1 = some { cNs with lbaf := 1 } ∧ (sweepS 0).kslot 1023 ≠ KSlot.reset ∧
      ((sweepS 0).kslot 1023).shadow ≠ none) ∧
    ((sweepS 0).nsOf ((sweepS 0).kslot 1023).nsid = some cNs ∧ (∀ a ∈ ((sweepS 0).kslot 1023).waits, a ∉ (sweepS 0).stagedSlots cNs) ∧
      (let s := slotAs (stagedS (sweepS 0)) 1023 (fun x => { x with waits := [5] })
       ∃ a ∈ (s.kslot 1023).waits, a ∈ s.stagedSlots cNs)) ∧
    (let s := rowS (sweepS 0) .closed 1
     s.dataIn anAddr 1 = true ∧ s.lookup (iuKey cNs.pool (cNs.base + 818)) ≠ mappedAt 5 ∧
     (let s := { s with atl := { s.atl with ent := [(iuKey cNs.pool (cNs.base + 818), mappedAt 5)] } }
      s.lookup (iuKey cNs.pool (cNs.base + 818)) = mappedAt 5 ∧ s.dataIn anAddr 1 = true)) ∧
    (((sweepS 0).kslot 1023).cursor ≤ 818 ∧ 818 < min ((sweepS 0).iuCount cNs) (((sweepS 0).kslot 1023).cursor + 819) ∧
      (sweepS 0).atl.recovering.contains (segOfIu (iuKey cNs.pool (cNs.base + 818))) = false ∧
      (sweepS 819).iuCount cNs ≤ ((sweepS 819).kslot 1023).cursor) := by
  unfold carriedOut; dsimp only; and_intros <;> decide +kernel

def unlockPl (m len v : Nat) : List Nat := [m, 0] ++ bytesLe 2 len ++ bytesLe 32 v ++ zeros len
def nonceS (k : Nat) : State := { sv with cip := { sv.cip with nonces := [⟨0, 9, 0⟩], failures := k } }
def lockS : State := { sv with cip := { sv.cip with lockFrom := some 0, failures := 8 } }

theorem test_witness_FieldAccessOpensOnAVerifiedResponse :
    carriedOut sv (rq []) ⟨0x0306, 1, false, 0, 0, false⟩ ∧
    (carriedOut lockS (rq (unlockPl 1 96 9)) ⟨0x0307, 1, false, 37, 548, false⟩ ∧ lockS.cip.lockFrom ≠ none ∧
      (unlockPl 1 96 9).length = 36 + le (unlockPl 1 96 9) 2 2) ∧
    (carriedOut (nonceS 7) (rq (unlockPl 1 96 9)) ⟨0x0307, 1, false, 37, 548, false⟩ ∧ (nonceS 7).cip.lockFrom = none ∧
      le (unlockPl 1 96 9) 2 2 = 96 ∧ le (unlockPl 1 96 9) 4 32 = 9 ∧ (nonceS 7).hasCredential 1 = true ∧
      (nonceS 7).liveNonce 9 = true ∧ (nonceS 7).liveNonce 8 = false ∧ 7 ≤ (nonceS 7).cip.failures) ∧
    (carriedOut sv (rq (unlockPl 0 512 9)) ⟨0x0307, 1, false, 37, 548, false⟩ ∧ sv.hasCredential 0 = false ∧
      le (unlockPl 0 512 9) 2 2 ≤ 512) ∧
    (lockS.lockRemain ≠ 0 ∧ 0 < lockS.lockRemain ∧ ({ lockS with now := 3600 * sTicks } : State).lockRemain = 0 ∧
      ({ lockS with now := 3600 * sTicks } : State).cip.lockFrom ≠ none) := by
  unfold carriedOut; and_intros <;> decide +kernel

/-- A job of a kind on lane 31, with the quarter word and the tag it read. -/
def aJob (kind : Nat) (word : Option Nat) (tag : Nat) : CipherJob :=
  ⟨31, kind, 1023, word, true, true, false, false, none, 2 ^ 64 - 1, 255, anAddr, [1, 255], tag⟩
/-- The quarter word of GENERATION 1, naming it, with FORMAT 2. -/
def aWord : Nat := quarterWord 0 (some 1) 0
/-- The tag of `aJob`'s data under a key of GENERATION 1 of namespace 1. -/
def aTag (s : State) : Nat := Config.gcmTag 0 (s.posNonce anAddr) (sealAad 1 1 (2 ^ 64 - 1) 255) [1, 255]
def metaTag (s : State) : Nat := Config.gcmTag Config.metaKey (s.posNonce anAddr) (sealAad metaNsid 0 (2 ^ 64 - 1) 255) [1, 255]
def jobS : State := cipherS cNs
/-- A rekey of a namespace in LBAF 0 runs, and the command of the job has no time left. -/
def lateJobS : State := { sweepS 0 with cmds := [{ aCmd with start := 0, deadline := 0 }], now := 1000000 }
def lateJob : CipherJob := { aJob 3 none 0 with cmd := some (aCmd.fn, aCmd.sq, aCmd.cid) }

theorem test_witness_CipherJobsReleaseOnlyCheckedOutput :
    ((aJob 3 none 0).lane < 32 ∧ jobS.fenced 0x080 31 = false ∧ (aJob 3 none 0).cmd = none ∧ (aJob 3 none 0).injected = false ∧
      (aJob 3 none 0).dupOk = true ∧ (jobS.unit 0x080 31).isolated = false ∧ jobS.tooFew 0x080 = false) ∧
    ((jobS.kslot 1023).cur = some ⟨0, 1, 0⟩ ∧ (jobS.kslot 1023).nsid = 1 ∧ jobS.nsOf 1 = some cNs ∧
      (sv.kslot 1023).cur = none ∧ sv.nsOf (sv.kslot 1023).nsid = none) ∧
    (formatReserved aWord = false ∧ namedEntry (jobS.kslot 1023) (some aWord) = some ⟨0, 1, 0⟩ ∧ formatReserved 0x10000 = true ∧
      namedEntry (jobS.kslot 1023) none = none ∧ (none.map formatReserved).getD false = false) ∧
    (jobS.trialFits (aJob 3 none 0) = true ∧ lateJobS.trialFits lateJob = false ∧ (lateJobS.kslot 1023).held ≠ []) ∧
    ((jobS.kslot 1023).held = [⟨0, 1, 0⟩] ∧
      (jobS.kslot 1023).held.filter (fun x => if (jobS.kslot 1023).cur = some x then (aJob 1 none 0).curOk else (aJob 1 none 0).shadowOk)
        = [⟨0, 1, 0⟩]) := by
  and_intros <;> decide +kernel

/-- The sealed cases: a tag that is the right one, and one that is not. -/
theorem test_witness_CipherJobsReleaseOnlyCheckedOutput_tags :
    (aJob 3 (some aWord) (aTag jobS)).tag = Config.gcmTag 0 (jobS.posNonce anAddr) (sealAad 1 1 (2 ^ 64 - 1) 255) [1, 255] ∧
    (aJob 3 (some aWord) (aTag jobS + 1)).tag ≠ Config.gcmTag 0 (jobS.posNonce anAddr) (sealAad 1 1 (2 ^ 64 - 1) 255) [1, 255] ∧
    (aJob 4 none (metaTag jobS)).tag = Config.gcmTag Config.metaKey (jobS.posNonce anAddr) (sealAad metaNsid 0 (2 ^ 64 - 1) 255) [1, 255] ∧
    (aJob 4 none (metaTag jobS + 1)).tag ≠ Config.gcmTag Config.metaKey (jobS.posNonce anAddr) (sealAad metaNsid 0 (2 ^ 64 - 1) 255) [1, 255] :=
  ⟨rfl, Nat.succ_ne_self _, rfl, Nat.succ_ne_self _⟩

def recS (p : Nat) (r : GazRec) : State := { sv with gaz := { sv.gaz with recent := some p, recs := [(p, r)], next := p + 1, count := p + 1 } }
def aRec : GazRec := ⟨0, 0, 4095, 4095, 15, false, 65535, 65535, 2 ^ 64 - 1, 0, 0⟩

theorem test_witness_TheGazetteerRecordsMergesAndClears :
    (carriedOut sv (rq (bytesLe 2 8191 ++ bytesLe 2 8192)) ⟨0x0401, 1, true, 4, 4, false⟩ ∧ le (bytesLe 2 8191 ++ bytesLe 2 8192) 0 2 = 8191 ∧
      le (bytesLe 2 8191 ++ bytesLe 2 8192) 2 2 = 8192 ∧ (sv.mb 0).respVersion ≠ 1 ∧
      carriedOut sv (rq (bytesLe 2 8192 ++ bytesLe 2 1)) ⟨0x0401, 1, true, 4, 4, false⟩) ∧
    carriedOut sv (rq []) ⟨0x0402, 1, true, 0, 0, false⟩ ∧
    (carriedOut sv (rq [1]) ⟨0x0403, 1, false, 1, 1, false⟩ ∧ sv.gaz.vg40 = decide ((1 : Nat) = 0) ∧ sv.gaz.vg40 = decide ((0 : Nat) = 1)) ∧
    (sv.gaz.vg40 = false ∧ (∀ p ∈ (recS 8190 aRec).gaz.recent, ((recS 8190 aRec).gaz.at p).code ≠ 65534)) ∧
    ((recS 8191 aRec).gaz.recent = some 8191 ∧ ((recS 8191 aRec).gaz.at 8191).block = 4095 ∧ ((recS 8191 aRec).gaz.at 8191).inst = 4095 ∧
      ((recS 8191 aRec).gaz.at 8191).code = 65535 ∧ ((recS 8191 aRec).gaz.at 8191).data = 2 ^ 64 - 1 ∧
      ((recS 8191 aRec).gaz.at 8191).time ≤ (recS 8191 aRec).datumTime ∧
      (recS 8191 aRec).datumTime - ((recS 8191 aRec).gaz.at 8191).time ≤ 0x3FFFFF) ∧
    (let s := { sv with gaz := { sv.gaz with vg40 := true, full := true } }
     s.gaz.vg40 = true ∧ s.gaz.full = true ∧ s.gaz.recent = none) ∧
    (sv.hubOn = true ∧ (inMode sv .holdup).pwr.mode = .holdup) := by
  unfold carriedOut; dsimp only; and_intros <;> decide +kernel

def datS (c a : Nat) (armed : Bool) : State := { sv with dat := { Datum.reset with count := c, unset := false, armed := armed, alarm := a } }

theorem test_witness_DatumStepsSlewsAndFiresItsAlarm :
    carriedOut sv (rq []) ⟨0x0404, 1, true, 0, 0, false⟩ ∧
    (carriedOut sv (rq (bytesLe 8 (2 ^ 42 - 1))) ⟨0x0405, 1, false, 8, 8, false⟩ ∧ le (bytesLe 8 (2 ^ 42 - 1)) 0 8 < 2 ^ 42 ∧
      sv.dat.unset = true ∧ sv.dat.armed = false) ∧
    (32768 ≤ ((((1024 * 32 : Nat) : Int)) - ((datS 0 1024 true).datumCycles : Int)).natAbs ∧ (datS 0 1024 true).dat.armed = true ∧
      (datS 0 1024 true).dat.alarm ≤ 1024 ∧ (datS 0 1024 true).datumTime < (datS 0 1024 true).dat.alarm ∧
      (datS 0 1024 true).pwr.mode = .service ∧ (datS 0 1024 true).pwr.entering = none ∧ 1024 < (datS 0 1025 true).dat.alarm) ∧
    ((datS 0 0 false).dat.unset = false ∧ (((1023 * 32 : Nat) : Int) - ((datS 0 0 false).datumCycles : Int)).natAbs < 32768 ∧
      2 ^ 42 ≤ le (bytesLe 8 (2 ^ 42)) 0 8) ∧
    (carriedOut (datS 64 0 false) (rq (bytesLe 8 1)) ⟨0x0406, 3, false, 8, 8, false⟩ ∧ 1 < (datS 64 0 false).datumTime ∧
      (datS 64 0 false).datumTime ≤ 2 ∧ carriedOut sv (rq (zeros 8)) ⟨0x0406, 3, false, 8, 8, false⟩) ∧
    ((inMode (datS 32 1 true) .vault).dat.armed = true ∧ (inMode (datS 32 1 true) .vault).pwr.mode = .vault ∧
      (inMode (datS 32 1 true) .vault).dat.alarm ≤ (inMode (datS 32 1 true) .vault).datumTime) ∧
    (let s := { sv with dat := { sv.dat with slewing := true, slewLeft := 5 } }
     s.dat.slewing = true ∧ s.slewNow ≠ s.dat.slewLeft ∧
     (let s := { s with now := sTicks }
      s.slewNow = s.dat.slewLeft)) ∧
    ((datS 0 1024 true).datumTime < (datS 0 1024 true).dat.alarm ∧ (datS (2 ^ 15) 1024 true).dat.armed = true ∧
      (datS (2 ^ 15) 1024 true).dat.alarm ≤ (datS (2 ^ 15) 1024 true).datumTime ∧ (datS (2 ^ 15) 1024 true).pwr.mode = .service ∧
      (inMode (datS (2 ^ 15) 1024 true) .degraded).pwr.mode = .degraded) := by
  unfold carriedOut; and_intros <;> decide +kernel

def opS (o : StoreOp) : State := { sv with por := { sv.por with op := some o } }
def anOp (k : Nat) : StoreOp := ⟨k, 0x03001000, [0, 255], false, 0, false⟩
def otpS (k : Nat) : State := { sv with por := { sv.por with otp := (List.range' 416 32).map (fun a => (a, 0#8)), op := if k = 0 then none else some (anOp k) } }

theorem test_witness_TheStoreRoutineErasesProgramsAndReads :
    (sv.storeAllowed 3 0x03001000 = true ∧ sv.por.op = none ∧ [0, (255 : Nat)].length ≤ 256) ∧
    ((otpS 0).otpAllowed 416 (zeros 32) = true ∧ (otpS 0).por.op = none) ∧
    (0x02FFFFFF < 0x03000000 ∧ sv.por.sess = none) ∧
    (0x03000000 ≤ 0x033FFFFF ∧ structOwner (0x033FFFFF % 0x200000) ≠ some 3) ∧
    (∃ k, k < 1 ∧ sv.otpMay (448 + k) = false) ∧
    ((opS (anOp 1)).por.op = some (anOp 1) ∧ (anOp 1).suspended = false ∧ (opS (anOp 1)).por.reads = [] ∧
      (tabGet (fun _ => 0) sv.por.erases (0x03001000 / 4096) + 1) * 10 < endurance (0x03001000 / 4096) * 9 ∧ sv.por.spares ≠ 0) ∧
    (let s := { sv with por := { sv.por with erases := [(0x3001, 89999)] } }
     endurance 0x3001 * 9 ≤ (tabGet (fun _ => 0) s.por.erases 0x3001 + 1) * 10) ∧
    (let s := { sv with por := { sv.por with erases := [(0x3001, 99999)], spares := 0 } }
     endurance 0x3001 ≤ tabGet (fun _ => 0) s.por.erases 0x3001 + 1 ∧ s.por.spares = 0) ∧
    ((anOp 2).addr % 256 = 0 ∧ (anOp 2).data.length ≤ 256 ∧ tabGet (fun _ => 0) sv.por.cut (0x03001000 / 4096) = 0 ∧
      (anOp 2).retried = false) ∧
    ((anOp 1).minEnd ≤ (opS (anOp 1)).now ∧ (opS { anOp 1 with minEnd := 1 }).now < 1 ∧ ((opS { anOp 1 with minEnd := 1 }).por.op = some { anOp 1 with minEnd := 1 }) ∧
      ({ opS (anOp 1) with por := { (opS (anOp 1)).por with reads := [5] } } : State).por.reads ≠ []) ∧
    ((opS { anOp 1 with suspended := true }).por.op = some { anOp 1 with suspended := true } ∧
      (opS { anOp 1 with suspended := true }).por.reads = [] ∧ (anOp 1).minEnd ≤ (opS { anOp 1 with suspended := true }).now ∧
      (opS { anOp 1 with suspended := true, minEnd := 1 }).now < 1) := by
  dsimp only; and_intros <;> decide +kernel

/-! Update, relay, Survey, Contour, tiles, DRAM, registers, the management port, start-up -/

def aUpd : UpdSess := ⟨0, false, 2, 1, 8192, 0, 1, [], false, none, false, none, false, 0⟩
def updS (u : UpdSess) : State := { sv with por := { sv.por with sess := some u } }
def beginPl (slot route len : Nat) : List Nat := [slot, route, 0, 0] ++ bytesLe 4 len ++ zeros 4
def chunkPl (i crc : Nat) : List Nat := bytesLe 4 i ++ bytesLe 4 crc ++ [1, 2, 3, 4]
def chunkOk (i : Nat) : MbxReq := rqL 4104 (chunkPl i (crc32c [1, 2, 3, 4]))
def sixteen : List (Nat × List Nat) := (List.range 16).map (fun k => (k, []))
def remoteU : UpdSess := { aUpd with opener := 0x1000, remote := true }
def relayS (u : Option UpdSess) : State :=
  { sv with por := { sv.por with sess := u, upL := { RLink.reset with up := true, version := 2, expected := 255 } } }

theorem test_witness_UpdateSessionsStoreImages :
    (carriedOut sv (rq (beginPl 2 3 16777216)) ⟨0x0601, 2, false, 12, 12, false⟩ ∧ lenOk 16777216 = true ∧ le (beginPl 2 3 16777216) 4 4 = 16777216 ∧
      sv.por.sess = none ∧ sv.slotActive 2 = false ∧ sv.slotActive 0 = true ∧ (updS aUpd).por.sess ≠ none ∧
      carriedOut (updS aUpd) (rq (beginPl 2 3 4096)) ⟨0x0601, 2, false, 12, 12, false⟩) ∧
    (carriedOut sv (chunkOk 1) ⟨0x0602, 2, false, 4104, 4104, false⟩ ∧ sv.sessOf 0 = none ∧ (updS aUpd).sessOf 0 = some aUpd ∧
      carriedOut (updS aUpd) (chunkOk 1) ⟨0x0602, 2, false, 4104, 4104, false⟩ ∧ 1 < aUpd.len / 4096 ∧
      le (chunkOk 1).payload 4 4 = crc32c ((chunkOk 1).payload.drop 8) ∧ le (chunkPl 1 0) 4 4 ≠ crc32c ((chunkPl 1 0).drop 8) ∧
      (0 : Nat) ≠ aUpd.next ∧ 1 = aUpd.next ∧ aUpd.queue.length < 16 ∧ 16 ≤ sixteen.length) ∧
    (carriedOut (updS aUpd) (rq []) ⟨0x0603, 2, false, 0, 0, true⟩ ∧ aUpd.next < aUpd.len / 4096 ∧
      (updS { aUpd with next := 2 }).sessOf 0 = some { aUpd with next := 2 } ∧ 8192 / 4096 ≤ 2 ∧ aUpd.route = 1) ∧
    ((updS { aUpd with queue := [(0, [1])] }).por.sess = some { aUpd with queue := [(0, [1])] } ∧ sv.por.op = none ∧
      (sv.mb (chunkOk 1).path).dropResp = false) ∧
    ((updS { aUpd with forwarded := true }).por.sess = some { aUpd with forwarded := true } ∧
      (updS { aUpd with forwarded := true }).now < aUpd.endAt + 10 * sTicks ∧
      aUpd.endAt + 10 * sTicks ≤ ({ updS { aUpd with forwarded := true } with now := 10 * sTicks } : State).now) ∧
    carriedOut sv (rq []) ⟨0x0606, 2, false, 0, 0, false⟩ ∧
    ((relayS none).por.upL.up = true ∧ (relayS none).por.upL.expected = 255 % 256 ∧ (relayS none).por.sess = none ∧
      (relayS none).slotActive 2 = false ∧ (relayS (some remoteU)).remoteSess = some remoteU ∧ remoteU.held = none ∧
      remoteU.next < remoteU.len / 4096 ∧ (zeros 4096).length = 4096 ∧ (0 : Nat) ≠ crc32c [1]) ∧
    (let s := { sv with por := { sv.por with dnL := { RLink.reset with up := true, expected := 255 } } }
     s.por.dnL.up = true ∧ s.por.dnL.expected = 255 % 256 ∧ s.por.sess = none) := by
  unfold carriedOut; dsimp only; and_intros <;> decide +kernel

def sentL (n r : Nat) : RLink := { RLink.reset with up := true, version := 2, sent := (List.range n).map (fun k => (k, 0x10, [])), replays := r }
def schedS (drain : Bool) : State :=
  let b := sv.setBootSlot 2 ⟨2, 9, 1, 4096⟩
  let up : RLink := { RLink.reset with up := true, version := 2, expected := 255 }
  { b with por := { b.por with sched := some ⟨100, 0, 7, 50, 2⟩, draining := drain, upL := up }, dat := { Datum.reset with unset := false } }
def schedPl (t g d slot : Nat) : List Nat := bytesLe 8 t ++ bytesLe 4 g ++ bytesLe 2 d ++ [slot, 0]
def freeS : State := { schedS false with por := { (schedS false).por with sched := none } }

theorem test_witness_RelayLinksAndScheduledActivation :
    ((2 : Nat) ≠ 0 ∧ (sv.setFld F.UPD_RELAY_CFG_DN_ENABLE 0 1).dnOn = true ∧ sv.por.position < 63 ∧
      63 ≤ ({ sv with por := { sv.por with position := 63 } } : State).por.position ∧ (sv.link false).up = false ∧
      (sv.link false).upAt = none) ∧
    (let s := { sv with por := { sv.por with upL := { RLink.reset with upAt := some 0 } }, now := 100 * msTicks - 1 }
     (s.link false).up = false ∧ (s.link false).upAt = some 0 ∧ s.now < 0 + 100 * msTicks ∧
     0 + 100 * msTicks ≤ ({ s with now := 100 * msTicks } : State).now) ∧
    ((relayS none).por.upL.up = true ∧ (relayS none).now < (relayS none).por.upL.hopAt + 60 * sTicks ∧
      (relayS none).por.upL.hopAt + 60 * sTicks ≤ ({ relayS none with now := 60 * sTicks } : State).now) ∧
    (let s := { sv with por := { sv.por with upL := sentL 3 0 } }
     (s.link false).up = true ∧ (3 % 256 + 256 - (s.link false).oldest) % 256 ≤ (s.link false).sent.length ∧ (s.link false).wait = [] ∧
     (s.link false).sent.length < (4 % 256 + 256 - (s.link false).oldest) % 256 ∧ (s.link false).sent ≠ [] ∧ (s.link false).replays < 16 ∧
     s.now < (s.link false).since + 2 * msTicks ∧ (s.link false).since + 2 * msTicks ≤ ({ s with now := 2 * msTicks } : State).now) ∧
    (let s := { sv with por := { sv.por with upL := sentL 3 16 } }
     16 ≤ (s.link false).replays) ∧
    (let s := { freeS with por := { freeS.por with dnL := { RLink.reset with up := true, version := 2 }, upL := RLink.reset } }
     s.por.dnL.up = true ∧ 2 ≤ s.por.dnL.version ∧ s.por.upL.up = false ∧ s.dat.unset = false ∧ s.por.beaconAt = none ∧
     (let s := { s with por := { s.por with beaconAt := some 0 } }
      s.por.beaconAt = some 0 ∧ s.now < 0 + sTicks)) ∧
    (let s := ({ relayS none with por := { (relayS none).por with dnL := { RLink.reset with up := true, version := 2 } } }).setFld F.UPD_RELAY_CFG_FOLLOW 0 1
     2 ≤ s.por.upL.version ∧ s.fld F.UPD_RELAY_CFG_FOLLOW 0 = 1 ∧ s.dat.unset = true ∧ s.dat.armed = false) ∧
    (carriedOut freeS (rq (schedPl 100 7 0 2)) ⟨0x0604, 2, false, 16, 16, false⟩ ∧ le (schedPl 100 7 0 2) 12 2 = 0 ∧ (freeS.bootSlot 2).st = 2 ∧
      2 ≠ freeS.por.booted ∧ freeS.dat.unset = false ∧ freeS.datumTime * 1000 + 50 * 1024 ≤ 100 * 1000 ∧
      51 * 1000 < freeS.datumTime * 1000 + 50 * 1024 ∧ freeS.por.sched = none ∧
      (∃ x ∈ (schedS false).por.sched, x.group ≠ 8) ∧ carriedOut (schedS false) (rq (schedPl 100 8 0 2)) ⟨0x0604, 2, false, 16, 16, false⟩) ∧
    (carriedOut (schedS false) (rq (bytesLe 4 7)) ⟨0x0605, 2, false, 4, 4, false⟩ ∧ (schedS false).schedIs 7 = true ∧
      (schedS false).schedIs 8 = false) ∧
    ((schedS false).por.upL.expected = 255 % 256 ∧ (schedS false).romRecovery = false ∧ (schedS false).por.draining = false ∧
      ((schedS false).bootSlot 2).imageId = 9 ∧ (schedS false).schedCheck 100 7 50 2 = Ms.success) ∧
    ((255 + 256 - 191 % 256) % 256 ≤ 64 ∧ 64 < (255 + 256 - 190 % 256) % 256) ∧
    (let s := { schedS false with cmds := [aCmd] }
     s.hubOn = true ∧ s.cmds ≠ [] ∧ s.por.draining = false ∧ s.por.sched = some ⟨100, 0, 7, 50, 2⟩ ∧ 0 ≤ (s.datumCycles : Int) ∧
     (s.datumCycles : Int) < 1 ∧
     (let s := { s with por := { s.por with draining := true } }
      s.por.draining = true ∧ s.cmds ≠ [])) ∧
    ((schedS true).por.draining = true ∧ (schedS true).cmds = [] ∧ (schedS true).cpls = [] ∧ (schedS true).programsBooked = false) ∧
    (let s := { schedS true with por := { (schedS true).por with drainEnd := true, trial := true } }
     s.por.draining = true ∧ s.por.drainEnd = true ∧ s.por.op = none ∧ s.por.actDue ≤ (s.datumCycles : Int) ∧ s.por.trial = true ∧
     s.now < s.start.bootAt + 60 * sTicks ∧ s.start.bootAt + 60 * sTicks ≤ ({ s with now := 60 * sTicks } : State).now ∧
     (let s := { s with por := { s.por with actDue := 1 } }
      (s.datumCycles : Int) < s.por.actDue) ∧
     (let s := { s with por := { s.por with actDue := -1 } }
      s.por.actDue < (s.datumCycles : Int))) := by
  unfold carriedOut; dsimp only; and_intros <;> decide +kernel

def refS : State := { sv with srv := { sv.srv with refLast := 781328 } }
def svyPl (b i t o : Nat) : List Nat := bytesLe 2 b ++ bytesLe 2 i ++ [t, o]
def aTest (q : Bool) : Test := ⟨0x030, 15, 0, 0, none, q, false⟩
def testingS (q : Bool) : State := { sv with srv := { sv.srv with running := [aTest q] } }
def fullS (f : Nat) : State :=
  { sv with srv := { sv.srv with running := List.replicate 32 ⟨0x050, 0, 0, 0, none, false, false⟩ }, plt := { sv.plt with frame := f } }

theorem test_witness_TestsStartEndAndJudgeTheirUnits :
    (carriedOut sv (rq (svyPl 0x030 16 0 0)) ⟨0x0701, 2, false, 6, 6, true⟩ ∧ unitOk 0x030 16 = false) ∧
    (carriedOut refS (rq (svyPl 0x030 15 2 1)) ⟨0x0701, 2, false, 6, 6, true⟩ ∧ unitOk 0x030 15 = true ∧ 2 ∈ testsOf 0x030 ∧
      refS.marchOk 0x030 15 2 = true ∧ refS.plt.drain = false ∧ refS.inHand 0x030 15 = false ∧ inService 0x030 = true ∧
      refS.carried 0x030 15 = true ∧ refS.refOk = true ∧ refS.srv.queued = [] ∧ ¬ (refS.fld F.SRV_CFG_MAX_RUN 0 ≤ refS.srv.running.length) ∧
      refS.ctr.trip = false ∧ refS.fenced 0x030 15 = false ∧ (∀ j ∈ siblings 0x030 15, (refS.unit 0x030 j).isolated = false)) ∧
    ((testingS false).inHand 0x030 15 = true ∧ inService 0x0D0 = false ∧ sv.refOk = false ∧ (fltAs refS 0x030 15 (fun u => { u with fenced := true })).fenced 0x030 15 = true ∧
      sv.fld F.SRV_CFG_MAX_RUN 0 ≤ (fullS 0).srv.running.length) ∧
    (testsOf 0x030 ≠ [] ∧ (fullS 0).hubOn = true ∧ (fullS 0).carried 0x030 15 = true ∧
      (fullS 0).srv.running.any (fun t => decide (t.block = 0x030 ∧ t.inst = 15)) = false ∧
      (fullS 0).sinceTest 0x030 15 < sv.fld F.SRV_CFG_PERIOD_H 0 * hourFrames ∧
      sv.fld F.SRV_CFG_PERIOD_H 0 * hourFrames ≤ (fullS (sv.fld F.SRV_CFG_PERIOD_H 0 * hourFrames)).sinceTest 0x030 15 ∧
      24 * hourFrames ≤ (fullS (24 * hourFrames)).sinceTest 0x030 15 ∧ (fullS 0).inHand 0x030 15 = false ∧
      (fullS 0).srv.queued.any (fun t => decide (t.block = 0x030 ∧ t.inst = 15)) = false) ∧
    ((testingS false).srv.running.find? (fun t => decide (t.block = 0x030 ∧ t.inst = 15)) = some (aTest false) ∧
      (testingS true).srv.running.find? (fun t => decide (t.block = 0x030 ∧ t.inst = 15)) = some (aTest true) ∧
      ((testingS true).unit 0x030 15).requalBad = false ∧
      (let b := fltAs (testingS true) 0x030 15 (fun u => { u with requalBad := true })
       (b.unit 0x030 15).requalBad = true ∧ b.srv.queued = []) ∧
      (testingS false).srv.queued = [] ∧ (aTest false).test < 3 ∧ (testingS false).tooFew 0x030 = false ∧ (aTest false).opts = 0) := by
  unfold carriedOut; and_intros <;> decide +kernel

def calmS : State := sv.setRegion 127 { Region.reset with calm := 20 }
/-- `sv` with the converter at an input, as an on-demand sample or a slot of the round. -/
def atS (i : Nat) : State := { sv with ctr := { sv.ctr with running := some i } }
def tripS (n : Nat) : State := { sv with ctr := { sv.ctr with trip := true, below := n } }

theorem test_witness_SamplesRoundsAndTripsOfTheModel :
    ((inMode sv .vault).pwr.mode = .vault ∧ sv.pwr.mode ≠ .vault ∧ (inMode sv .dormant).pwr.mode = .dormant) ∧
    (diodeRegion 63 = none ∧ (63 : Nat) ≠ 35 ∧ diodeRegion 191 = some 127 ∧ diodeRegion 56 = some 136 ∧ (1999 : Int) < 2000 ∧
      sv.adcSampleDue 63 = false ∧ (atS 63).adcSampleDue 63 = true ∧ (atS 35).adcSampleDue 35 = true ∧ (atS 191).adcSampleDue 191 = true ∧
      (inMode sv .dormant).adcSampleDue 56 = true ∧ (inMode sv .dormant).adcSampleDue 47 = false ∧
      (atS 191).ctr.wakeDue.contains 127 = false ∧
      ({ atS 191 with ctr := { (atS 191).ctr with wakeDue := [127] } } : State).ctr.wakeDue.contains 127 = true ∧
      (calmS.setRegion 127 { Region.reset with calm := 20, anchored := true, ageAt := 0 }).mayAnchor 127 = false ∧
      calmS.mayAnchor 127 = true ∧ sv.mayAnchor 127 = false ∧ sv.hubOn = true ∧ sv.fenced 0x0E0 0 = false ∧ (sv.unit 0x0E0 0).isolated = false) ∧
    (let s := { sv with ctr := { sv.ctr with cand := some 127 } }
     s.ctr.cand = some 127 ∧ s.now < s.ctr.candAt + sTicks ∧ s.ctr.candAt + sTicks ≤ ({ s with now := sTicks } : State).now) ∧
    ((tripS 0).now < (tripS 0).ctr.tripFrom + 60 * sTicks ∧
      (tripS 0).ctr.tripFrom + 60 * sTicks ≤ ({ tripS 0 with now := 60 * sTicks } : State).now) ∧
    ((tripS 1000).ctr.trip = true ∧ 1000 ≤ (tripS 1000).ctr.below ∧ (tripS 1000).srv.queued = [] ∧ (tripS 999).ctr.below < 1000) ∧
    carriedOut sv (rq []) ⟨0x0805, 3, true, 0, 0, false⟩ := by
  unfold carriedOut; and_intros <;> decide +kernel

def tileS (r : Nat) (retire resizing : Bool) (pools : List TPool) : State :=
  { s0 with til := ⟨[(0, ⟨.allocated, retire, 0, r⟩)], pools, resizing, 0⟩ }
def pool0 (size target : Nat) (free : List Nat) (res : Nat) : TPool := ⟨size, free, res, 1, target, target⟩

theorem test_witness_TilesAreReservedAllocatedAndFreed :
    ((s0.tileOf 4095).ref = 0 ∧ ((tileS 2 false false []).tileOf 0).ref = 2 ∧ ((tileS 255 false false []).tileOf 0).ref = 255 ∧
      ((tileS 254 false false []).tileOf 0).ref < 255) ∧
    (let s := tileS 1 false false [pool0 2 2 [1] 0]
     (s.tileOf 0).ref = 1 ∧ s.til.pool[(s.tileOf 0).pool]? = some (pool0 2 2 [1] 0) ∧ (s.tileOf 0).retire = false ∧ s.til.resizing = false) ∧
    (let s := tileS 1 false true [pool0 2 1 [1] 0, pool0 0 1 [] 0]
     s.til.resizing = true ∧ (pool0 2 1 [1] 0).target < (pool0 2 1 [1] 0).size ∧ s.poolBelow = some 1) ∧
    ((tileS 1 true false [pool0 2 2 [1] 0]).tileOf 0).retire = true ∧
    (s0.til.pool[7]? = some ⟨128, List.range' 3968 128, 0, 0, 128, 128⟩ ∧ (⟨128, List.range' 3968 128, 0, 0, 128, 128⟩ : TPool).avail < 129 ∧
      128 ≤ (⟨128, List.range' 3968 128, 0, 0, 128, 128⟩ : TPool).avail ∧ List.range' 3968 128 = 3968 :: List.range' 3969 127) ∧
    (let s := { s0 with til := ⟨[(0, ⟨.free, false, 0, 0⟩)], listSet (List.replicate 8 (pool0 0 0 [] 0)) 0 (pool0 1 1 [0] 0), false, 0⟩ }
     let y := pool0 1 1 [0] 0
     s.til.pool[0]? = some y ∧ y.free = 0 :: [] ∧ y.avail ≠ 0 ∧ (s.tileOf 0).st = .free) ∧
    ((pool0 2 2 [1] 1).reserved ≠ 0 ∧ (pool0 2 2 [1] 1).avail = 0 ∧ (pool0 2 2 [1] 0).avail ≠ 0) ∧
    (((tileS 1 false false []).tileOf 0).st = .allocated ∧ s0.fenced 0x060 0 = false ∧ (s0.unit 0x060 0).isolated = false) ∧
    ((∀ p, p < 8 → 8 ≤ s0.fld F.TIL_POOL_TGT_TARGET p ∧ ∃ y ∈ s0.til.pool[p]?, y.inUse + y.reserved ≤ s0.fld F.TIL_POOL_TGT_TARGET p) ∧
      (List.range 8).foldl (fun m p => m + s0.fld F.TIL_POOL_TGT_TARGET p) 0 = 4096 - s0.til.retired ∧
      (∀ p, p < 8 → (s0.til.pool[p]?).map TPool.size = some (s0.fld F.TIL_POOL_TGT_TARGET p)) ∧
      (List.range 8).foldl (fun m p => m + s0.fld F.TIL_POOL_TGT_TARGET p) 0 ≠ 4096 - 1) := by
  dsimp only; and_intros <;> decide +kernel

def aReq : DReq := ⟨1, 11, 0, 15, 7, 2 ^ 36 - 64, false⟩
def drS (f : Dram → Dram) : State := dramAs s0 11 f
def ueS (n : Nat) : State := drS (fun x => { x with ues := [(1023, 0)], regions := List.range n })

theorem test_witness_DramServesByUrgencyAndFencesRegions :
    (s0.fenced 0x070 11 = false ∧ (s0.dramCh 11).fenced = false ∧ (s0.dramCh 11).selfRef = false) ∧
    ((2 ^ 36 - 64) / 2 ^ 26 ∈ ((drS (fun x => { x with regions := [1023] })).dramCh 11).regions ∧
      (2 ^ 36 - 64) / 2 ^ 26 ∉ (s0.dramCh 11).regions) ∧
    ((drS (fun x => { x with maint := [(2, 0)] })).dramCh 11).maint ≠ [] ∧
    (((drS (fun x => { x with queue := [aReq] })).dramCh 11).queue = [aReq] ∧ ((drS (fun x => { x with queue := [aReq] })).dramCh 11).refDue = []) ∧
    (let s := { drS (fun x => { x with queue := [{ aReq with arrival := 1000000 }], refDue := [(1, 0), (0, 5)] }) with now := 1000000 }
     s.refLevel 11 = some 3 ∧ s.reqLevel 11 { aReq with arrival := 1000000 } < 3) ∧
    (let s := { drS (fun x => { x with queue := [aReq], refDue := [(1, 1000000)] }) with now := 1000000 }
     s.refLevel 11 = some 0 ∧ 0 < s.reqLevel 11 aReq) ∧
    (((drS (fun x => { x with refDue := [(1, 0)] })).dramCh 11).queue = [] ∧
      ((drS (fun x => { x with refDue := [(1, 0)] })).dramCh 11).refDue ≠ []) ∧
    (((drS (fun x => { x with waiting := [aReq] })).dramCh 11).waiting.find? (fun r => decide (r.id = 1)) = some aReq ∧
      (s0.unit 0x070 11).isolated = false) ∧
    ((¬ ∃ e ∈ (s0.dramCh 11).ues, e.1 = (2 ^ 36 - 64) / 2 ^ 26 ∧ s0.plt.frame < e.2 + 86400000) ∧
      (∃ e ∈ ((ueS 7).dramCh 11).ues, e.1 = (2 ^ 36 - 64) / 2 ^ 26 ∧ (ueS 7).plt.frame < e.2 + 86400000) ∧
      (2 ^ 36 - 64) / 2 ^ 26 ∉ ((ueS 7).dramCh 11).regions ∧ ((ueS 7).dramCh 11).regions.length < 8) := by
  dsimp only; and_intros <;> decide +kernel

theorem test_witness_AnUnnamedOffsetReadsZeroAndIgnoresWrites :
    regAt 0xFFFFFC = none ∧ fltWordAt 0xFFFFFC = none ∧ 0xFFFFFC % 4 = 0 ∧ regAt 0x24 = none ∧ fltWordAt 0x24 = none := by
  and_intros <;> decide +kernel

def openS : State := { sv with cip := { sv.cip with open_ := true } }
/-- A board record at the ends of its ranges. -/
def boardBytes : List Nat :=
  [4, 4, 1, 0x77, 5, 0] ++ bytesLe 2 200 ++ [1024, 1024, 512, 512, 256, 384, 256, 128].flatMap (bytesLe 2) ++ bytesLe 2 2000 ++ zeros 6
def boardS : State :=
  (List.range 8).foldl (fun s n => s.setReg .POR_CFG_DATA n (BitVec.ofNat 32 (le boardBytes (4 * n) 4))) openS

/-- The same with one copy of the record already written, under a structure tag 1. -/
def keptBoardS : State := boardS.writeCopy 0x1000 4096 1 boardBytes

theorem test_witness_RegisterAccessesFollowTheirFields :
    (regAt (Reg.base .PWR_EVENTS) = some (.PWR_EVENTS, 0) ∧ sv.blockServed (Reg.base .PWR_EVENTS / 0x10000) = true ∧
      regAt (Reg.base .PLT_FLOOR_RD) = some (.PLT_FLOOR_RD, 0) ∧ sv.blockServed (Reg.base .PLT_FLOOR_RD / 0x10000) = true ∧
      (∀ f ∈ Reg.fields .PLT_FLOOR_RD, f.acc = .ro) ∧ regAt (Reg.base .PLT_STALE) = some (.PLT_STALE, 0) ∧
      sv.blockServed (Reg.base .PLT_STALE / 0x10000) = true ∧ sv.rcServed .PLT_STALE 0 = true ∧
      (inMode sv .vault).blockServed 0 = false ∧ (inMode sv .dormant).blockServed (Reg.base .PLT_STALE / 0x10000) = false ∧
      sv.pathElem (pathNum .pf0) .POR_CFG_DATA 0 = 0) ∧
    ((2 : Nat) ≠ 4 ∧ viaFn (.dcs .firmware 0) = none ∧ viaFn (.window 128 0) = some 128 ∧ sv.windowServed 128 = true) ∧
    ((∃ k, k < 8 ∧ (fltAs sv 0x040 15 (fun u => { u with fenced := true })).fenced 0x040 (bits (0xF0000000#32) (4 * k + 3) (4 * k)) = true) ∧
      (∀ k, k < 8 → sv.fenced 0x040 (bits (0xF0000000#32) (4 * k + 3) (4 * k)) = false)) ∧
    (let w := fun v => Reg.after .PLT_RESERVE (sv.rg .PLT_RESERVE 0) v
     let hk := fun v => bits (w v) F.PLT_RESERVE_HK_PERMILLE.hi F.PLT_RESERVE_HK_PERMILLE.lo
     let th := fun v => bits (w v) F.PLT_RESERVE_THERMAL_PERMILLE.hi F.PLT_RESERVE_THERMAL_PERMILLE.lo
     (∃ g, g < 128 ∧ 500 < hk 0x019000C8#32 + th 0x019000C8#32 + sv.fld F.PLT_RECON_RECON_PERMILLE g) ∧ Reg.inRange .PLT_RESERVE 0x01900050#32 = true ∧
     (∀ g, g < 128 → hk 0x01900050#32 + th 0x01900050#32 + sv.fld F.PLT_RECON_RECON_PERMILLE g ≤ 500) ∧
     Reg.inRange .PLT_RESERVE 0xFFFF0050#32 = false ∧
     (∀ g, g < 128 → hk 0xFFFF0050#32 + th 0xFFFF0050#32 + sv.fld F.PLT_RECON_RECON_PERMILLE g ≤ 500)) ∧
    (Reg.inRange .PLT_LAGS (putBits (sv.rg .PLT_LAGS 0) 7 0 (sv.fld F.PLT_LAGS_PROG_LAG 0)) = true ∧ Reg.inRange .PLT_LAGS 0#32 = false ∧
      Reg.inRange .PLT_LAGS 0x0401#32 = false ∧ Reg.inRange .PLT_LAGS 0x403C#32 = false) ∧
    (¬ (sv.fld F.SVY_FREE_WM_LEVEL 2 < 0 ∧ 0 < sv.fld F.SVY_FREE_WM_LEVEL 0) ∧ sv.fld F.SVY_FREE_WM_LEVEL 2 < sv.fld F.SVY_FREE_WM_LEVEL 1 ∧
      sv.fld F.SVY_FREE_WM_LEVEL 1 < 255 ∧ 2 ≤ bits (255#32) 7 0 ∧ bits (1#32) 7 0 < 2 ∧
      bits (Reg.after .SVY_FREE_WM (sv.rg .SVY_FREE_WM 2) 1#32) 7 0 < sv.fld F.SVY_FREE_WM_LEVEL 1) ∧
    (bits (0#32) 3 0 = 0 ∧ 0xB < bits (0xC#32) 3 0 ∧ 1 ≤ bits (1#32) 3 0 ∧ bits (0xB#32) 3 0 ≤ 0xB) ∧
    (Reg.inRange .TRV_POLL (sv.rg .TRV_POLL 0) = true ∧ Reg.inRange .TRV_POLL 0#32 = false) ∧
    (bits (2047#32) 10 0 < msixCount 128 ∧ msixCount 255 ≤ bits (64#32) 10 0) ∧
    (sv.cip.open_ = false ∧ openS.cip.open_ = true ∧ boardOk openS.til.retired (openS.stagedBoard (pathNum .pf0)) = false ∧
      boardS.cip.open_ = true ∧ boardOk boardS.til.retired (boardS.stagedBoard (pathNum .pf0)) = true ∧ boardS.por.cut = [] ∧
      (∀ k ∈ [0x3001, 0x3201], tabGet (fun _ => 0) boardS.por.erases k + 1 < 90000) ∧
      (boardS.copySeq 0x03001000 4096).isSome = (boardS.copySeq 0x03201000 4096).isSome ∧
      (keptBoardS.copySeq 0x03001000 4096).isSome ≠ (keptBoardS.copySeq 0x03201000 4096).isSome ∧ keptBoardS.por.cut = [] ∧
      keptBoardS.cip.open_ = true) ∧
    sv.pwr.mode ≠ .vault := by
  and_intros <;> decide +kernel

def aSess (e m : Bool) : SpdmSession := ⟨65536, 2, m, e, 0, 0⟩
def spdmS (l : List SpdmSession) (stage : Nat) : State :=
  { s0 with mgmt := { s0.mgmt with sessions := l, conn := [(2, ⟨stage, false⟩)] } }
def ownS (n : Nat) : State :=
  { spdmS [aSess true true] 3 with por := { s0.por with otp := (List.range' 224 98).map (fun a => (a, if a = 321 then BitVec.ofNat 8 n else 0#8)) } }

theorem test_witness_ManagementRequestsAreAnswered :
    (s0.mgmtOn = true ∧ s0.eid 2 ≠ 254 ∧ s0.mgmt.i3c = false) ∧
    ((s0.setReg .CHR_ALERT_STATUS 0 1#32).setReg .CHR_ALERT_MASK 0 1#32).alertLow = true ∧
    (1 ≤ ((spdmS [] 1).conn 2).stage ∧ 2 ≤ ((spdmS [] 2).conn 2).stage ∧ 3 ≤ ((spdmS [] 3).conn 2).stage ∧ ((spdmS [] 2).conn 2).stage < 3 ∧
      3 < s0.certChain.length ∧ (spdmS [] 3).mgmt.sessions.length < 4 ∧ 4 ≤ (spdmS (List.replicate 4 (aSess true true)) 3).mgmt.sessions.length) ∧
    ((spdmS [aSess false false] 3).session 65536 = some (aSess false false) ∧ (spdmS [aSess true true] 3).session 65536 = some (aSess true true) ∧
      (spdmS [aSess true false] 3).session 65536 = some (aSess true false) ∧ (ownS 1).otpByte 321 % 2 = 1 ∧ (ownS 0).otpByte 321 % 2 = 0 ∧
      (aSess true true).lastBeat + 120 * sTicks ≤ ({ spdmS [aSess true true] 3 with now := 120 * sTicks } : State).now ∧
      (spdmS [aSess true true] 3).now < (aSess true true).lastBeat + 120 * sTicks ∧ (List.replicate 97 255).length = 97 ∧ (∀ k, k < 97 → (ownS 0).otpByte (224 + k) = 0) ∧ (∀ b ∈ List.replicate 97 255, b < 256)) := by
  and_intros <;> decide +kernel

def startS (n : Nat) (tested : Bool) : State :=
  { s0 with start := { s0.start with kind := 1, step := n, running := true }, pwr := { s0.pwr with tested := tested } }
/-- Start-up conditions with nothing wrong, the pins at given levels. -/
def pinsEnv (rst test : Bool) : StartEnv := ⟨rst, test, true, [2], [], 32, 1, 4, 0, 0xFFF, [], [], [], [], [], []⟩

theorem test_witness_ResetsAndStartUp :
    (s0.pwr.mode ≠ .vault ∧ (inMode s0 .vault).pwr.mode = .vault ∧ (inMode s0 .stopped).pwr.mode = .stopped) ∧
    ((startS 0 false).start.running = true ∧ (startS 0 false).start.step = 0 ∧ (startS 0 false).pwr.mode ≠ .vault ∧
      (startS 0 false).pwr.mode ≠ .stopped ∧ (startS 0 false).start.testHeld = false ∧
      (startS 0 false).start.railsAt ≤ (startS 0 false).now ∧ (pinsEnv true false).rstHigh = true ∧ (pinsEnv true false).testMode = false ∧
      (startS 0 false).por.sched = none ∧ (∀ n, n < 3 → ((startS 0 false).bootSlot n).st ≠ 2) ∧ { pinsEnv true false with cartouche := false }.cartouche = false) ∧
    ((startS 0 false).romRecovery = false ∧ (pinsEnv false false).rstHigh = false ∧ (pinsEnv true true).testMode = true ∧
      ({ startS 0 false with start := { (startS 0 false).start with railsAt := 1 } } : State).now < 1 ∧
      ({ startS 0 false with start := { (startS 0 false).start with testHeld := true } } : State).start.testHeld = true) ∧
    ((startS 8 false).start.step = 8 ∧ (startS 8 false).pwr.mode = .service ∧ (startS 8 false).baysSettled = true ∧
      (startS 8 false).pwr.tested = false) ∧
    ((startS 12 true).start.step = 12 ∧ (startS 12 true).pwr.tested = true ∧ (startS 12 true).pwr.test.phase = .idle ∧
      (startS 12 true).fencedUnits = false ∧ (startS 12 true).por.trial = false) ∧
    (let s := { s0 with start := { s0.start with step := 12 } }
     s.start.running = false ∧ s.start.step = 12 ∧ s.hubOn = true ∧ s.atl.mapReady = true ∧ s.programsBooked = false ∧ s.start.envelope = true) ∧
    ({ s0 with start := { s0.start with step := 12, envelope := false } } : State).start.envelope = false ∧
    s0.cip.open_ = false ∧ openS.cip.open_ = true := by
  dsimp only; and_intros <;> decide +kernel

theorem test_witness_AStepRunsTheCommandInFront : State.reset.pending = [] := by decide +kernel

theorem test_witness_EveryStepKeepsTheCanonicalForm :
    ({ s0 with pending := [.levelWrite true] } : State).wf = true ∧ (boardS : State).wf = true ∧
    completes (step { s0 with pending := [.levelWrite true] }) := by
  refine ⟨by decide +kernel, by decide +kernel, ?_⟩
  exact ⟨_, rfl⟩

/-! ### Results the spec states: its worked examples and tables -/

/-- The state a meaning answers with. -/
def answer (r : Res) : State := match r with | .next t => t | _ => s0

/-- On an empty queue a clock tick passes (log entries 2 and 31). -/
theorem test_empty_queue_is_a_tick : step s0 = .next { s0 with now := 1 } := rfl

/-- Table 03-11: THERMAL_PERMILLE 100, HK_PERMILLE 30 after reset. -/
theorem test_read_of_PLT_RESERVE : (answer (execRcFieldRead (.dcs .pf0 0x0C) s0)).out = [.readBack 0 0x0064001E] := by decide +kernel

/-- The worked example of chapter 1: die 1,500. -/
theorem test_die_numbers : dieChan 1500 = 93 ∧ chanQuad 93 = 2 ∧ dieSheet 1500 = 11 ∧ dieGroup 1500 = 92 ∧ dieHome 1500 = 3 := by decide

/-- The worked example after R32: HOST_DELAYED and 5 µs of host-stopped time. -/
theorem test_dword0_of_a_delayed_write : ({ aCmd with spans := [(0, 15 * usTicks)] } : Cmd).dw0 (19 * usTicks) = 0x80000005#32 := by decide +kernel

/-- The worked example after R60: 850 µs of die time per frame. -/
theorem test_die_time_limit : s0.limit 0 767 = 13600 := by decide +kernel

/-- The profile of the worked examples of chapters 3 and 5. -/
def exProfile : Profile :=
  { aProfile with tR := 640, tSUSE := 320, tSUSP := 240, tRES := 80, minE := 8000, softReads := 2, code := 1, spare := 2048,
                  tPROG := 24000, tBERS := 80000, planes := 4, pages := 2048, blocks := 4096, ratedPE := 3000, eRead := 0, eByte := 0, iPeak := 1 }
/-- A 16 KiB pool over the flash of the examples, 620 µs after start. -/
def exS : State :=
  let s := flashS s0 exProfile
  { s with now := 620 * usTicks, atl := { s.atl with pools := [(31, some ⟨false, 4095, 1⟩)], ns := [(1, some aNs)] } }
def exReq : PlanReq := ⟨qUs, hostQ 3840 16384, some (250 * qUs), 619 * usTicks, 0, qUs, none, none, false⟩
/-- Case A: an erase that started 620 µs ago runs on the die. -/
def exA : State := exS.setRunning 767 (some ⟨aDieOp 2 0 none, 0, 0, false, 0⟩)
def exPlanA : Option Placed := exA.planDirect exReq (iuKey 31 0) (767 * 2 ^ 25)

/-- Case A of chapter 3's worked example: 175.39 µs (175.388 before the table's rounding of t_HOST); 145 µs of die time, 12 µs of channel time,
3.0 and 6.0 lane-µs, 3 tiles and one start in the ladder window; a closed window of 500 µs. -/
theorem test_direct_plan_bound : exPlanA.map (fun p => p.bound * 1000 / qUs) = some 175388 := by decide +kernel
theorem test_direct_plan_bookings : exPlanA.map (fun p => p.books) =
    some [⟨11, 5, 62, 1⟩, ⟨8, 0, 0, 3⟩, ⟨0, 767, 0, 2320⟩, ⟨1, 47, 0, 192⟩, ⟨2, 1, 0, 48⟩, ⟨2, 1, 0, 96⟩] := by decide +kernel
theorem test_direct_plan_window : exPlanA.map (fun p => (p.st.closedList 767).map (fun c => c.until_ - c.from_)) =
    some [500 * usTicks] := by decide +kernel

/-- Case B: the erase has 300 µs of its minimum run left; of the survivors 3 program and 2 have just started a read. The reserve
of every group can take the claim. -/
def exB : State :=
  let s := exS.setRunning 767 (some ⟨aDieOp 2 0 none, 420 * usTicks, 0, false, 0⟩)
  let s := s.setClosed 767 [⟨420 * usTicks, 920 * usTicks, 3, 1⟩]
  let s := [0, 1, 2].foldl (fun (s : State) k => s.setRunning (128 * k + 127) (some ⟨aDieOp 1 0 none, 0, 0, false, 0⟩)) s
  let s := [3, 4].foldl (fun (s : State) k => s.setRunning (128 * k + 127) (some ⟨{ aDieOp 0 0 none with bytes := exProfile.moved 4 }, 620 * usTicks, 0, false, 0⟩)) s
  let s := { s with plt := { s.plt with reconNow := (List.range 128).map (fun g => (g, 60)) } }
  bandAs s 127 (fun x => { x with st := .closed, wb := 16, sheets := 0xFFFF, pages := 2048, planes := 4, nextRow := 100 })
def exPlanB : Option Placed := exB.planDetour exReq (iuKey 31 0) (767 * 2 ^ 25)

/-- Case B: 107.07 µs (107.068); the contingency member is the reading one on the higher sheet; 620 µs of die time, 56 µs of channel
time, 42 lane-µs, 2.0 engine-µs, 15 tiles, and a claim of 40 and 4.0 µs on the reserve. -/
theorem test_detour_plan_bound : exPlanB.map (fun p => p.bound * 1000 / qUs) = some 107068 := by decide +kernel
theorem test_detour_plan_bookings :
    exPlanB.map (fun p => (p.iu.conting, [0, 1, 2, 3, 8, 10].map (fun r => (p.books.filter (fun b => b.res = r)).foldl (fun n b => n + b.units) 0)))
      = some (some 639, [16 * 620, 16 * 56, 16 * 42, 32, 15, 16 * 44]) := by decide +kernel

/-- The worked example after R114: D 1,500, block 1,000, page 300, plane 2 has the address 0xB_B87D_04B2. -/
theorem test_map_address :
    let s := { exS with fch := { exS.fch with die := [(1500, { Die.reset with present := true, profile := some 0 })] } }
    0xBB87D04B2 / 2 ^ 25 = 1500 ∧ s.pageOfAddr 0xBB87D04B2 = 300 ∧ s.planeOfAddr 0xBB87D04B2 = 2 ∧ 0xBB87D04B2 % 2 ^ 25 / 8192 = 1000 := by
  decide +kernel

/-- The worked example after R157: C_b = 458,696 units. -/
theorem test_band_capacity : ({ Band.reset with wb := 16, planes := 4, pages := 2048 } : Band).capacity = 458696 := by decide +kernel

/-- A candidate band of the example after R163: its valid count, age in hours and erase count. -/
def exScore (valid hours erases : Nat) : Nat :=
  (bandAs { exS with now := 0, dat := { exS.dat with count := hours * 3600 * 32768, since := 0, unset := false } } 127 (fun x =>
    { x with st := .closed, wb := 16, planes := 4, pages := 2048, sheets := 0xFFFF, valid := valid, closedAt := some 0,
             erases := (List.range 16).map (fun k => (k, erases)) })).score 127
theorem test_band_scores : exScore 114674 12 900 = 3686 ∧ exScore 57337 96 2100 = 20707 ∧ exScore 229348 6 300 = 1179 := by decide +kernel

/-- The worked example after R165: 23,522.90 µs of debt for 1 MiB at A_BOOKED 3.0. -/
theorem test_debt : ({ exS with svy := { exS.svy with aBooked := 768, waHist := [(1, 2)] } } : State).debtUnits 127 1048576 * 100 / 16 = 2352293 := by decide +kernel

/-- The worked example after R210: 12,503,209.2 µs for one band, in whole 1/16 µs. -/
theorem test_reshape_volume :
    (bandAs { exS with par := { exS.par with present := 0xFF7F, usable := 0xFF7F } } 127 (fun x =>
      { x with st := .closed, wb := 16, sheets := 0xFFFF, pages := 2048, planes := 4, valid := 229376 })).refreshUnits 127 4 = 200051348 := by
  decide +kernel

/-- The worked example after R197. -/
theorem test_two_erasures : gfMul 8 0x44 = 0x1A ∧ gfMul 4 0x33 = 0xCC ∧ gfMul 8 0x66 = 0x17 ∧ gfMul 0x49 (gfInv 0x0A) = 0x22 := by decide +kernel

/-- The worked example after R407: the header of the response to the last UPD_CHUNK. -/
theorem test_response_header : (mbHeader 3 0x0602 0x11 0 0 false false false).take 12 = [3, 1, 2, 6, 0x11, 0, 0, 0, 0, 0, 0, 0] := by decide +kernel

/-- The worked example after R394: PS3 under a latency maximum of 3 ms, PS2 under 1 ms. -/
def exIdle (ltr : Nat) : State :=
  let c : Ctl := { Ctl.reset with en := true, apstOn := true, apst := [⟨100, 3⟩], idleSince := 0 }
  let s := fnAs (fnAs (ctlAs (ctlAs s0 0 (fun _ => c)) 128 (fun _ => c)) 0 (fun x => { x with enabled := true })) 128 (fun x => { x with enabled := true })
  let s := { s with now := 150 * msTicks, plt := { s.plt with frameAt := 150 * msTicks - 600 * usTicks, debt := [(bkKey 6 0, 16)] } }
  s.setPort 0 { Port.reset with up := true, snoop := ltr, noSnoop := ltr }
theorem test_choose : (exIdle 3000000).choose = 3 ∧ (exIdle 1000000).choose = 2 := by decide +kernel

/-- The worked example of the tile pool watermark. -/
theorem test_tile_watermark :
    let s := ({ s0 with til := { s0.til with pool := listSet s0.til.pool 0 ⟨1024, List.range 70, 4, 954, 1024, 1024⟩ } } : State).setFld F.TIL_POOL_WM_LEVEL 0 64
    let t := answer (execTileReserve 0 6 s)
    t.fld F.TIL_POOL_WM_CROSSED 0 = 1 ∧ bits (t.readWord 0 .TIL_POOL_WM 0) F.TIL_POOL_WM_ABOVE.hi F.TIL_POOL_WM_ABOVE.lo = 0 ∧ t.fld F.TIL_POOL_WM_COUNT 0 = 1 ∧ t.til.pool[0]?.map TPool.avail = some 60 := by
  decide +kernel

/-- The worked example after R454: a second error in the region within 24 h fences region 141; 25 h later it is remembered again. -/
def exUe (frame : Nat) (s : State) : State :=
  answer (execDramUe 7 0 0x234567800 .tail false { s with plt := { s.plt with frame := frame } })
theorem test_dram_region : ((exUe 83800000 (exUe 1000000 s0)).dramCh 7).regions = [141] ∧
    ((exUe 91000000 (exUe 1000000 s0)).dramCh 7).regions = [] := by decide +kernel

/-- The worked example after R505: the staging budget of 20.0 J, and B_test the next day. -/
def exBank : State :=
  bandAs ((({ flashS s0 exProfile with pwr := { s0.pwr with cPrev := some 312500 } } : State).setFld F.PWR_HOLD_BANK_V_MIN_MV 0 4000).setFld
    F.DRC_CFG_GIB_PER_CH 0 32) 127 (fun x => { x with cls := 3, wb := 16, pages := 100000, planes := 4, slcPages := 33333 })
theorem test_staging_budget : exBank.budgetOf 20000 = 15624994816 := by decide +kernel
theorem test_b_test : exBank.bTest 12000 = 11884363776 := by decide +kernel

/-- The worked example of R524: K_MAX is 2 with the default reserves, 3 with THERMAL_PERMILLE 350. -/
theorem test_kmax : s0.kMaxNow = 2 ∧ ({ s0 with plt := { s0.plt with thNow := 350 } } : State).kMaxNow = 3 := by decide +kernel

/-- The worked example after R575: the same event 0.5 s later merges. -/
theorem test_gazetteer_merge :
    let s := ({ s0 with gaz := { s0.gaz with next := 5000, count := 5000 } } : State).record 0x0B0 1500 1 0x1000 7
    let t := ({ s with now := s.now + 400000000 } : State).record 0x0B0 1500 1 0x1000 7
    s.gaz.next = 5001 ∧ t.gaz.next = 5001 ∧ (t.gaz.at 5000).rep = 1 ∧ (t.gaz.at 5000).lastDelta = 512 := by decide +kernel

/-- The worked example after R594: ACK 4 leaves 6 outstanding from 4; a delayed ACK 252 is dropped. -/
def exAcked : State :=
  answer (execRelayAck true 4 0 (s0.setLink true { RLink.reset with up := true, oldest := 250, nextSeq := 10, sent := (List.range 16).map (fun k => ((250 + k) % 256, 3, [])) }))
theorem test_relay_ack : (exAcked.link true).oldest = 4 ∧ (exAcked.link true).sent.length = 6 := by decide +kernel
theorem test_relay_stale_ack : let t := answer (execRelayAck true 252 0 exAcked)
    (t.link true).oldest = 4 ∧ (t.link true).sent.length = 6 ∧ t.fld F.UPD_RELAY_CNT_ACK_DROPPED 0 = 1 := by decide +kernel

end Sys2Proof.Tests
end

section
/-! The Device Control Space at an offset that names no register and no fault word (R9). -/

namespace Sys2Proof.Machine

section
variable {s : State} {k o : Nat} {w : W32}

theorem exec_registerWrite_dcs {p : Path} (h : o % 4 = 0) :
    exec (.registerWrite (.dcs p o) 4 w) s = .next (s.writeDcs (pathNum p) o w) :=
  if_neg (show ¬((4 : Nat) ≠ 4 ∨ o % 4 ≠ 0) by omega)

theorem exec_rcFieldRead_dcs {p : Path} :
    exec (.rcFieldRead (.dcs p o)) s = .next (s.readDcs (pathNum p) o) := rfl

/-- Whether the offset's block is served (R655) makes no difference: both branches ignore the write. -/
theorem State.writeDcs_unnamed (hreg : regAt o = none) (hflt : fltWordAt o = none) : s.writeDcs k o w = s := by
  simp only [State.writeDcs, hreg, hflt, ite_self]

/-- Whether the offset's block is served (R655) makes no difference: both branches answer zero. -/
theorem State.readDcs_unnamed (hreg : regAt o = none) (hflt : fltWordAt o = none) :
    s.readDcs k o = s.emit (.readBack k 0) := by
  simp only [State.readDcs, hreg, hflt, ite_self]

end

/-- Settles O52: at an unnamed offset the write leaves the state and the read only emits a zero. -/
theorem anUnnamedOffsetReadsZeroAndIgnoresWrites : Obligations.AnUnnamedOffsetReadsZeroAndIgnoresWrites := by
  intro s p o v hreg hflt
  refine ⟨fun haligned => ?write, s.emit (.readBack (pathNum p) 0), ?read, rfl, ?frame⟩
  case write => rw [exec_registerWrite_dcs haligned, State.writeDcs_unnamed hreg hflt]
  case read => rw [exec_rcFieldRead_dcs, State.readDcs_unnamed hreg hflt]
  case frame => exact (State.emit_within (List.Subset.refl _)).keeps

end Sys2Proof.Machine
end

section
/-! How an admin command's completion is decided (R677, Table 12-8 page 01h): what it posts, what it sends, and what it leaves of the
controllers. -/

namespace Sys2Proof.Machine

section
variable {s : State} {f g sq cid st : Nat} {a : AdminHdr} {d : W32} {l : List Nat} {L : List Part}

@[simp] theorem State.logError_cpls : (s.logError f sq cid st).cpls = s.cpls := by
  unfold State.logError
  split <;> rfl

@[simp] theorem State.logError_out : (s.logError f sq cid st).out = s.out := by
  unfold State.logError
  split <;> rfl

theorem State.logError_ctl_ne (h : g ≠ f) : (s.logError f sq cid st).ctl g = s.ctl g := by
  unfold State.logError
  split
  · rfl
  · exact State.ctl_setCtl_ne h

/-- An entry of the error log leaves the outstanding Aborts alone. -/
@[simp] theorem State.logError_aborts : ((s.logError f sq cid st).ctl f).aborts = (s.ctl f).aborts := by
  unfold State.logError
  split
  · rfl
  · rw [State.ctl_setCtl]

theorem State.logError_within (h : .ctls ∈ L) : Within L (s.logError f sq cid st) s := by
  unfold State.logError
  exact Within.ite .rfl (State.setCtl_within h)

@[simp] theorem State.adminDone_cpls :
    (s.adminDone a st d l).cpls = s.cpls ++ [⟨a.fn, 0, a.cid, 0, st, dnrOf st, d⟩] := by
  unfold State.adminDone
  split <;> exact State.logError_cpls

theorem State.adminDone_ctl_ne (h : g ≠ a.fn) : (s.adminDone a st d l).ctl g = s.ctl g := by
  unfold State.adminDone
  split <;> exact State.logError_ctl_ne h

@[simp] theorem State.adminDone_aborts : ((s.adminDone a st d l).ctl a.fn).aborts = (s.ctl a.fn).aborts := by
  unfold State.adminDone
  split <;> exact State.logError_aborts

/-- A completion that returns no data sends nothing: `.out` is not among the parts it may change. -/
theorem State.adminDone_nil_within (hc : .cpls ∈ L) (hk : .ctls ∈ L) : Within L (s.adminDone a st d []) s :=
  (State.logError_within hk).trans (.step hc (.cpls s _) .rfl)

theorem State.adminDone_sent (hl : l ≠ []) : sent s (s.adminDone a st d l) (.adminData a.fn a.cid l) := by
  refine ⟨[.adminData a.fn a.cid l], ?_, List.mem_singleton_self _⟩
  simp only [State.adminDone, List.isEmpty_eq_false_iff.2 hl, Bool.false_eq_true, if_false, State.logError_out]
  rfl

end

end Sys2Proof.Machine
end

section
/-! The bytes of a page: `layBytes` keeps its length and each field stands at its offset unless a later one covers it. -/

namespace Sys2Proof.Machine

section
variable {n i k : Nat} {p : List Nat} {e : Nat × List Nat} {fields : List (Nat × List Nat)}

/-- One field laid on a page of `n` bytes: the step of `layBytes`. -/
def layField (n : Nat) (p : List Nat) (e : Nat × List Nat) : List Nat :=
  p.take e.1 ++ e.2.take (n - e.1) ++ p.drop (e.1 + e.2.length)

theorem layBytes_eq_foldl : layBytes n fields = fields.foldl (layField n) (zeros n) := rfl

theorem length_layField (hp : p.length = n) (he : e.1 ≤ n) : (layField n p e).length = n := by
  simp only [layField, List.length_append, List.length_take, List.length_drop, hp]
  omega

theorem length_foldl_layField (hp : p.length = n) (h : ∀ e ∈ fields, e.1 ≤ n) : (fields.foldl (layField n) p).length = n := by
  induction fields generalizing p with
  | nil => exact hp
  | cons e rest ih =>
    obtain ⟨he, hrest⟩ := List.forall_mem_cons.1 h
    exact ih (length_layField hp he) hrest

theorem layField_getElem?_lt (hp : p.length = n) (he : e.1 ≤ n) (hi : i < e.1) : (layField n p e)[i]? = p[i]? := by
  have htake : i < (p.take e.1).length := by rw [List.length_take]; omega
  rw [layField, List.append_assoc, List.getElem?_append_left htake, List.getElem?_take_of_lt hi]

theorem layField_getElem?_offset (hp : p.length = n) (he : e.1 < n) (hb : e.2 ≠ []) : (layField n p e)[e.1]? = e.2[0]? := by
  have htake : (p.take e.1).length = e.1 := by rw [List.length_take]; omega
  have hlen : 0 < (e.2.take (n - e.1)).length := by
    have := List.length_pos_iff.2 hb
    rw [List.length_take]; omega
  rw [layField, List.append_assoc, List.getElem?_append_right htake.le, htake, Nat.sub_self,
    List.getElem?_append_left hlen, List.getElem?_take_of_lt (by omega)]

theorem foldl_layField_getElem?_lt (hp : p.length = n) (h : ∀ e ∈ fields, i < e.1 ∧ e.1 ≤ n) :
    (fields.foldl (layField n) p)[i]? = p[i]? := by
  induction fields generalizing p with
  | nil => rfl
  | cons e rest ih =>
    obtain ⟨⟨hi, he⟩, hrest⟩ := List.forall_mem_cons.1 h
    rw [List.foldl_cons, ih (length_layField hp he) hrest, layField_getElem?_lt hp he hi]

/-- The first byte of the `k`-th field stands on the page where every later field lies beyond it. -/
theorem layBytes_getElem?_offset {o b : Nat} {bs : List Nat} (hk : fields[k]? = some (o, b :: bs)) (ho : o < n)
    (hbefore : ∀ e ∈ fields.take k, e.1 ≤ n) (hafter : ∀ e ∈ fields.drop (k + 1), o < e.1 ∧ e.1 ≤ n) :
    (layBytes n fields)[o]? = some b := by
  obtain ⟨hlt, hget⟩ := List.getElem?_eq_some_iff.1 hk
  have hfields : fields = fields.take k ++ (o, b :: bs) :: fields.drop (k + 1) := by
    rw [← hget, ← List.drop_eq_getElem_cons hlt, List.take_append_drop]
  have hpage : ((fields.take k).foldl (layField n) (zeros n)).length = n :=
    length_foldl_layField List.length_replicate hbefore
  rw [layBytes_eq_foldl, hfields, List.foldl_append, List.foldl_cons,
    foldl_layField_getElem?_lt (length_layField hpage ho.le) hafter]
  exact layField_getElem?_offset hpage ho (List.cons_ne_nil b bs)

end

/-- ACL, byte 258 of Identify Controller, is 3 (R373): its field is the eleventh, and no later one reaches back to it. -/
theorem State.identifyController_acl (s : State) (fn : Nat) : (s.identifyController fn)[258]? = some 3 := by
  unfold State.identifyController
  refine layBytes_getElem?_offset (k := 10) rfl ?inPage ?before ?after
  case inPage => decide
  case before => simp
  case after => simp

end Sys2Proof.Machine
end

section
/-! Abort (R373). -/

namespace Sys2Proof.Machine

section
variable {s : State} {a : AdminHdr} {sqid victim : Nat}

theorem exec_abort_accepted (h : (s.ctl a.fn).aborts.length < 4) :
    exec (.abort a sqid victim) s =
      .next ((s.setCtl a.fn { s.ctl a.fn with aborts := (s.ctl a.fn).aborts ++ [a.cid] }).adminDone a Sc.success 1#32 []) :=
  if_neg (Nat.not_le.2 h)

theorem exec_abort_limit (h : 4 ≤ (s.ctl a.fn).aborts.length) :
    exec (.abort a sqid victim) s = .next (s.adminErr a Sc.abortLimit) :=
  if_pos h

theorem exec_identify_controller {cntid : Nat} :
    exec (.identify a 0x01 cntid) s = .next (s.adminDone a Sc.success 0#32 (s.identifyController a.fn)) := rfl

end

/-- Settles O19: an Abort touches its own controller's outstanding Aborts and error log and posts its own entry, so every command
and every other controller stands; which command it names is not read. -/
theorem abortRemovesNothing : Obligations.AbortRemovesNothing := by
  intro s a sqid victim
  have hcpls : Part.cpls ∈ [Part.cpls, .ctls] := by decide
  have hctls : Part.ctls ∈ [Part.cpls, .ctls] := by decide
  refine ⟨fun hroom => ⟨_, exec_abort_accepted hroom, ?posts, by decide, ?aborts, fun g hg => ?others, ?frame⟩,
    fun hfull => ⟨_, exec_abort_limit hfull, State.adminDone_cpls, State.adminDone_aborts,
      fun g hg => State.adminDone_ctl_ne hg, (State.adminDone_nil_within hcpls hctls).keeps⟩,
    rfl, fun cntid => ⟨_, exec_identify_controller, s.identifyController a.fn, State.adminDone_sent ?data,
      s.identifyController_acl a.fn⟩⟩
  case posts => exact State.adminDone_cpls
  case aborts => rw [State.adminDone_aborts, State.ctl_setCtl]
  case others => rw [State.adminDone_ctl_ne hg, State.ctl_setCtl_ne hg]
  case frame => exact ((State.adminDone_nil_within hcpls hctls).trans (State.setCtl_within hctls)).keeps
  case data =>
    intro hempty
    simpa [hempty] using s.identifyController_acl a.fn

end Sys2Proof.Machine
end

section
/-! SUPPORT. Frames by parts: an update of several parts at once, the parts a device reset may change, and what an optional
answer or the answer of a command owes to them. -/

namespace Sys2Proof.Machine

section
variable {L : List Part} {s t u : State} {p : Part}

theorem mem_of {l m : List Part} (h : m ⊆ l) (mem : (partMask m).testBit p.code = true) : p ∈ l :=
  h ((testBit_partMask m p).1 mem)

/-- The state `u` with one part taken from `v`; a register, a byte table and the record of answers stay. -/
def Part.take (v u : State) : Part → State
  | .pending => { u with pending := v.pending }
  | .now => { u with now := v.now }
  | .fresh => { u with fresh := v.fresh }
  | .flt => { u with flt := v.flt }
  | .links => { u with links := v.links }
  | .pin => { u with pin := v.pin }
  | .gaz => { u with gaz := v.gaz }
  | .dat => { u with dat := v.dat }
  | .mgmt => { u with mgmt := v.mgmt }
  | .pwr => { u with pwr := v.pwr }
  | .ports => { u with ports := v.ports }
  | .fns => { u with fns := v.fns }
  | .ctls => { u with ctls := v.ctls }
  | .sqs => { u with sqs := v.sqs }
  | .cqs => { u with cqs := v.cqs }
  | .cmds => { u with cmds := v.cmds }
  | .cpls => { u with cpls := v.cpls }
  | .classes => { u with classes := v.classes }
  | .buckets => { u with buckets := v.buckets }
  | .mbx => { u with mbx := v.mbx }
  | .ops => { u with ops := v.ops }
  | .nextHandle => { u with nextHandle := v.nextHandle }
  | .stats => { u with stats := v.stats }
  | .media => { u with media := v.media }
  | .plt => { u with plt := v.plt }
  | .atl => { u with atl := v.atl }
  | .svy => { u with svy := v.svy }
  | .par => { u with par := v.par }
  | .fch => { u with fch := v.fch }
  | .trv => { u with trv := v.trv }
  | .lanes => { u with lanes := v.lanes }
  | .bays => { u with bays := v.bays }
  | .til => { u with til := v.til }
  | .dram => { u with dram := v.dram }
  | .cip => { u with cip := v.cip }
  | .ctr => { u with ctr := v.ctr }
  | .por => { u with por := v.por }
  | .srv => { u with srv := v.srv }
  | .start => { u with start := v.start }
  | .reg _ | .out | .window | .inbox => u

theorem Part.take_within {v : State} (h : p ∈ L) : Within L (p.take v u) u := by
  cases p with
  | pending => exact .step h (.pending u _) .rfl
  | now => exact .step h (.now u _) .rfl
  | fresh => exact .step h (.fresh u _) .rfl
  | flt => exact .step h (.flt u _) .rfl
  | links => exact .step h (.links u _) .rfl
  | pin => exact .step h (.pin u _) .rfl
  | gaz => exact .step h (.gaz u _) .rfl
  | dat => exact .step h (.dat u _) .rfl
  | mgmt => exact .step h (.mgmt u _) .rfl
  | pwr => exact .step h (.pwr u _) .rfl
  | ports => exact .step h (.ports u _) .rfl
  | fns => exact .step h (.fns u _) .rfl
  | ctls => exact .step h (.ctls u _) .rfl
  | sqs => exact .step h (.sqs u _) .rfl
  | cqs => exact .step h (.cqs u _) .rfl
  | cmds => exact .step h (.cmds u _) .rfl
  | cpls => exact .step h (.cpls u _) .rfl
  | classes => exact .step h (.classes u _) .rfl
  | buckets => exact .step h (.buckets u _) .rfl
  | mbx => exact .step h (.mbx u _) .rfl
  | ops => exact .step h (.ops u _) .rfl
  | nextHandle => exact .step h (.nextHandle u _) .rfl
  | stats => exact .step h (.stats u _) .rfl
  | media => exact .step h (.media u _) .rfl
  | plt => exact .step h (.plt u _) .rfl
  | atl => exact .step h (.atl u _) .rfl
  | svy => exact .step h (.svy u _) .rfl
  | par => exact .step h (.par u _) .rfl
  | fch => exact .step h (.fch u _) .rfl
  | trv => exact .step h (.trv u _) .rfl
  | lanes => exact .step h (.lanes u _) .rfl
  | bays => exact .step h (.bays u _) .rfl
  | til => exact .step h (.til u _) .rfl
  | dram => exact .step h (.dram u _) .rfl
  | cip => exact .step h (.cip u _) .rfl
  | ctr => exact .step h (.ctr u _) .rfl
  | por => exact .step h (.por u _) .rfl
  | srv => exact .step h (.srv u _) .rfl
  | start => exact .step h (.start u _) .rfl
  | _ => exact .rfl

/-- The state `u` with the listed parts taken from `v`. -/
def State.mix (ps : List Part) (v u : State) : State :=
  { u with
    pending := bif ps.contains .pending then v.pending else u.pending,
    now := bif ps.contains .now then v.now else u.now,
    fresh := bif ps.contains .fresh then v.fresh else u.fresh,
    flt := bif ps.contains .flt then v.flt else u.flt,
    links := bif ps.contains .links then v.links else u.links,
    pin := bif ps.contains .pin then v.pin else u.pin,
    gaz := bif ps.contains .gaz then v.gaz else u.gaz,
    dat := bif ps.contains .dat then v.dat else u.dat,
    mgmt := bif ps.contains .mgmt then v.mgmt else u.mgmt,
    pwr := bif ps.contains .pwr then v.pwr else u.pwr,
    ports := bif ps.contains .ports then v.ports else u.ports,
    fns := bif ps.contains .fns then v.fns else u.fns,
    ctls := bif ps.contains .ctls then v.ctls else u.ctls,
    sqs := bif ps.contains .sqs then v.sqs else u.sqs,
    cqs := bif ps.contains .cqs then v.cqs else u.cqs,
    cmds := bif ps.contains .cmds then v.cmds else u.cmds,
    cpls := bif ps.contains .cpls then v.cpls else u.cpls,
    classes := bif ps.contains .classes then v.classes else u.classes,
    buckets := bif ps.contains .buckets then v.buckets else u.buckets,
    mbx := bif ps.contains .mbx then v.mbx else u.mbx,
    ops := bif ps.contains .ops then v.ops else u.ops,
    nextHandle := bif ps.contains .nextHandle then v.nextHandle else u.nextHandle,
    stats := bif ps.contains .stats then v.stats else u.stats,
    media := bif ps.contains .media then v.media else u.media,
    plt := bif ps.contains .plt then v.plt else u.plt,
    atl := bif ps.contains .atl then v.atl else u.atl,
    svy := bif ps.contains .svy then v.svy else u.svy,
    par := bif ps.contains .par then v.par else u.par,
    fch := bif ps.contains .fch then v.fch else u.fch,
    trv := bif ps.contains .trv then v.trv else u.trv,
    lanes := bif ps.contains .lanes then v.lanes else u.lanes,
    bays := bif ps.contains .bays then v.bays else u.bays,
    til := bif ps.contains .til then v.til else u.til,
    dram := bif ps.contains .dram then v.dram else u.dram,
    cip := bif ps.contains .cip then v.cip else u.cip,
    ctr := bif ps.contains .ctr then v.ctr else u.ctr,
    por := bif ps.contains .por then v.por else u.por,
    srv := bif ps.contains .srv then v.srv else u.srv,
    start := bif ps.contains .start then v.start else u.start }

theorem State.mix_nil {v : State} : State.mix [] v u = u := rfl

theorem State.mix_cons {v : State} {ps : List Part} : State.mix (p :: ps) v u = p.take v (State.mix ps v u) := by
  cases p <;> simp [State.mix, Part.take]

theorem State.mix_within {v : State} {ps : List Part} (h : ps ⊆ L) : Within L (State.mix ps v u) u := by
  induction ps with
  | nil => exact .rfl
  | cons p ps ih =>
    obtain ⟨hp, hps⟩ := List.cons_subset.1 h
    rw [State.mix_cons]
    exact (Part.take_within hp).trans (ih hps)

/-- An update of several parts at once. -/
theorem Within.update {v : State} (ps : List Part) (h : ps ⊆ L) (k : Within L u t) (e : State.mix ps v u = v) :
    Within L v t := by
  rw [← e]
  exact (State.mix_within h).trans k

theorem Within.of_eq {a : State} (e : a = u) (h : Within L a t) : Within L u t := e ▸ h

/-- A device reset may change every part but the queue and the clock. -/
theorem mem_resetParts (h : p ≠ .pending ∧ p ≠ .now) : p ∈ resetParts := by
  cases p with
  | reg r => exact List.mem_append_right _ (mem_allRegs r)
  | pending => exact absurd rfl h.1
  | now => exact absurd rfl h.2
  | _ => exact List.mem_append_left _ (by decide)

theorem mem_reset (h : resetParts ⊆ L) (k : p ≠ .pending ∧ p ≠ .now) : p ∈ L := h (mem_resetParts k)

theorem sub_reset {k : List Part} (h : resetParts ⊆ L) (hk : .pending ∉ k ∧ .now ∉ k) : k ⊆ L := fun p hp =>
  mem_reset h ⟨fun e => hk.1 (e ▸ hp), fun e => hk.2 (e ▸ hp)⟩

/-- A command runs on, by updates of the parts in `L` alone. -/
def Runs (L : List Part) (s : State) (o : Res) : Prop := ∃ t, o = .next t ∧ Within L t s

theorem Runs.next (h : Within L t s) : Runs L s (.next t) := ⟨t, rfl, h⟩

theorem Runs.ite {c : Prop} [Decidable c] {a b : Res} (ha : Runs L s a) (hb : Runs L s b) :
    Runs L s (if c then a else b) := by split <;> assumption

/-- The state in an optional answer comes of `t` by updates of the parts in `L` alone. -/
def OptWithin {α : Type} (L : List Part) (π : α → State) (o : Option α) (t : State) : Prop :=
  ∀ x, o = some x → Within L (π x) t

section
variable {α : Type} {π : α → State} {o o' : Option α} {x : α}
theorem OptWithin.none : OptWithin L π .none t := fun _ h => nomatch h
theorem OptWithin.some (h : Within L (π x) t) : OptWithin L π (.some x) t := fun _ e => Option.some.inj e ▸ h
theorem OptWithin.ite {c : Prop} [Decidable c] (ho : OptWithin L π o t) (ho' : OptWithin L π o' t) :
    OptWithin L π (if c then o else o') t := by split <;> assumption

theorem OptWithin.out (e : o = .some x) (h : OptWithin L π o t) : Within L (π x) t := h x e

theorem OptWithin.trans (ho : OptWithin L π o u) (h : Within L u t) : OptWithin L π o t := fun x e => (ho x e).trans h

theorem OptWithin.bind {β : Type} {ρ : β → State} {f : α → Option β} (ho : OptWithin L π o t)
    (hf : ∀ x, Within L (π x) t → OptWithin L ρ (f x) t) : OptWithin L ρ (o.bind f) t := by
  cases o with
  | none => exact .none
  | some a => exact hf a (ho a rfl)

theorem OptWithin.bind_any {β : Type} {ρ : β → State} {f : α → Option β} (hf : ∀ x, OptWithin L ρ (f x) t) :
    OptWithin L ρ (o.bind f) t := by
  cases o with
  | none => exact .none
  | some a => exact hf a

theorem OptWithin.map {β : Type} {ρ : β → State} {f : α → β} (ho : OptWithin L π o t)
    (hf : ∀ x, Within L (π x) t → Within L (ρ (f x)) t) : OptWithin L ρ (o.map f) t := by
  cases o with
  | none => exact .none
  | some a => exact .some (hf a (ho a rfl))

theorem OptWithin.map_any {β : Type} {ρ : β → State} {f : α → β} (hf : ∀ x, Within L (ρ (f x)) t) :
    OptWithin L ρ (o.map f) t := by
  cases o with
  | none => exact .none
  | some a => exact .some (hf a)

theorem OptWithin.filter {p : α → Bool} (h : OptWithin L π o t) : OptWithin L π (o.filter p) t := fun x e =>
  h x (Option.filter_eq_some_iff.1 e).1

theorem OptWithin.getD {o : Option State} {d : State} (ho : OptWithin L (fun u => u) o t) (hd : Within L d t) :
    Within L (o.getD d) t := by
  cases o with
  | none => exact hd
  | some a => exact ho a rfl

theorem OptWithin.findSome {β : Type} {f : β → Option α} {l : List β} (hf : ∀ b, OptWithin L π (f b) t) :
    OptWithin L π (l.findSome? f) t := by
  induction l with
  | nil => exact .none
  | cons b l ih =>
    intro x hx
    rw [List.findSome?_cons] at hx
    split at hx
    next y hy => exact hf b x (hy.trans hx)
    · exact ih x hx

/-- A fold of steps that may fail. -/
theorem OptWithin.foldl {β : Type} {f : Option α → β → Option α} {l : List β} (ho : OptWithin L π o t)
    (hf : ∀ q b, OptWithin L π q t → OptWithin L π (f q b) t) : OptWithin L π (l.foldl f o) t := by
  induction l generalizing o with
  | nil => exact ho
  | cons b l ih => exact ih (hf o b ho)
end

end

end Sys2Proof.Machine
end

section
/-! SUPPORT. What each function of the model may change, function by function (1 of 7): the shared operations: registers, faults, bookings, the Plotter and the stripe layout. `X_within` says it
of the state that `X` answers with, `execX_runs` of the command, which also runs on. -/

namespace Sys2Proof.Machine

section
variable {L : List Part} {t : State}

theorem State.tick_within (h : .now ∈ L) : Within L (State.tick t) t := .step h (.now t _) .rfl

theorem State.draw_within (h : .fresh ∈ L) :
    Within L (State.draw t).2 t := by
  unfold State.draw
  dsimp -zeta only
  exact .step h (.fresh t _) .rfl

theorem State.rebase_within (h : .dat ∈ L) :
    Within L (State.rebase t) t := by
  unfold State.rebase
  extract_lets moved left src
  exact .step h (.dat t _) .rfl

theorem State.gazClearBy_within {agent : ℕ} {who : ℕ} (h : recordParts ⊆ L) :
    Within L (State.gazClearBy t agent who) t := by
  unfold State.gazClearBy
  extract_lets n src g s s1
  have hs : Within L s t := .step (h (by decide)) (.gaz t _) .rfl
  have hs1 : Within L s1 t := (State.record_within h).trans hs
  exact .step (h (by decide)) (.gaz s1 _) hs1

/-- The registers whose CFG_ERR bit a refused write of a register sets, each once. -/
def cfgErrParts (r : Reg) : List Part :=
  ((cfgErrOf r 0).toList ++ (cfgErrAll r).head?.toList).map (fun e => .reg e.1.reg)

theorem cfgErrOf_mem {r : Reg} {i j : Nat} {f : Fld} (e : cfgErrOf r i = some (f, j)) : .reg f.reg ∈ cfgErrParts r := by
  have fix : (cfgErrOf r 0).map (fun e => e.1) = (cfgErrOf r i).map (fun e => e.1) := by cases r <;> rfl
  rw [e] at fix
  obtain ⟨p, hp, hf⟩ := Option.map_eq_some_iff.1 fix
  simp [cfgErrParts, hp, hf]

theorem cfgErrAll_mem {r : Reg} {p : Fld × Nat} (h : p ∈ cfgErrAll r) : .reg p.1.reg ∈ cfgErrParts r := by
  have same : ∀ q ∈ cfgErrAll r, (cfgErrAll r).head?.map (fun e => e.1) = some q.1 := by
    cases r with
    | FCH_RETRAIN_CFG | FCH_SSC | TRV_POLL | LDP_CFG | SHB_CFG | DRC_PORT_CFG =>
      intro q hq
      obtain ⟨c, -, rfl⟩ := List.mem_map.1 hq
      rfl
    | _ => exact fun q hq => nomatch hq
  obtain ⟨q, hq, e⟩ := Option.map_eq_some_iff.1 (same p h)
  simp [cfgErrParts, hq, ← e]

theorem State.cfgErr_within {r : Reg} {i : ℕ} (h : cfgErrParts r ⊆ L) (he : eventParts ⊆ L) :
    Within L (State.cfgErr t r i) t := by
  unfold State.cfgErr
  extract_lets s
  have hs : Within L s t := by
    unfold s
    split
    next f j e => exact State.event_within (h (cfgErrOf_mem e)) he
    · exact .rfl
  have all : ∀ (l : List (Fld × Nat)) (u : State), (∀ p ∈ l, .reg p.1.reg ∈ L) → Within L (l.foldl (fun s p => s.event p.1 p.2 0) u) u := by
    intro l
    induction l with
    | nil => exact fun u _ => .rfl
    | cons p l ih =>
      intro u hl
      obtain ⟨hp, hl⟩ := List.forall_mem_cons.1 hl
      exact (ih _ hl).trans (State.event_within hp he)
  exact (all _ _ fun p hp => h (cfgErrAll_mem hp)).trans hs

theorem State.writeReg_within {r : Reg} {i : ℕ} {new : W32} (h : .reg r :: cfgErrParts r ++ eventParts ⊆ L) :
    Within L (State.writeReg t r i new) t := by
  have hr : [.reg r] ⊆ L := fun p hp => h (List.mem_append_left _ (List.mem_cons.2 (.inl (List.mem_singleton.1 hp))))
  unfold State.writeReg
  extract_lets s
  have hs : Within L s t := State.setReg_within hr
  exact .ite hs ((State.cfgErr_within (fun p hp => h (List.mem_append_left _ (List.mem_cons_of_mem _ hp)))
    (fun p hp => h (List.mem_append_right _ hp))).trans hs)

theorem State.setRegion_within {r : ℕ} {x : Region} (h : .ctr ∈ L) :
    Within L (State.setRegion t r x) t := by
  unfold State.setRegion
  exact .step h (.ctr t _) .rfl

theorem State.mapCmd_within {fn : ℕ} {sq : ℕ} {cid : ℕ} {g : Cmd → Cmd} (h : .cmds ∈ L) :
    Within L (State.mapCmd t fn sq cid g) t := by
  unfold State.mapCmd
  exact .step h (.cmds t _) .rfl

theorem State.setSq_within {fn : ℕ} {q : ℕ} {x : Option Sq} (h : .sqs ∈ L) :
    Within L (State.setSq t fn q x) t := by
  unfold State.setSq
  exact .step h (.sqs t _) .rfl

theorem State.setCq_within {fn : ℕ} {q : ℕ} {x : Option Cq} (h : .cqs ∈ L) :
    Within L (State.setCq t fn q x) t := by
  unfold State.setCq
  exact .step h (.cqs t _) .rfl

theorem State.setCls_within {c : ℕ} {x : Cls} (h : .classes ∈ L) :
    Within L (State.setCls t c x) t := by
  unfold State.setCls
  exact .step h (.classes t _) .rfl

theorem State.setBucket_within {f : ℕ} {c : ℕ} {b : Bucket} (h : .buckets ∈ L) :
    Within L (State.setBucket t f c b) t := by
  unfold State.setBucket
  exact .step h (.buckets t _) .rfl

theorem State.stat_within {f : ℕ} {row : ℕ} (h : .stats ∈ L) :
    Within L (State.stat t f row) t := by
  unfold State.stat
  exact .step h (.stats t _) .rfl

theorem State.mediaCount_within {row : ℕ} {n : ℕ} (h : .media ∈ L) :
    Within L (State.mediaCount t row n) t := by
  unfold State.mediaCount
  exact .step h (.media t _) .rfl

theorem State.endCmd_within {fn : ℕ} {sq : ℕ} {cid : ℕ} {status : ℕ} (h : [.ctls, .cmds, .cpls, .media] ⊆ L) :
    Within L (State.endCmd t fn sq cid status) t := by
  unfold State.endCmd
  extract_lets cq
  clear_value cq
  split
  · exact .rfl
  · extract_lets c' s s1 s2
    have hs : Within L s t := State.mapCmd_within (h (by decide))
    have hs1 : Within L s1 t := .ite ((State.mediaCount_within (h (by decide))).trans hs) hs
    have hs2 : Within L s2 t := (State.logError_within (h (by decide))).trans hs1
    exact .ite .rfl (.step (h (by decide)) (.cpls s2 _) hs2)

theorem State.adminErr_within {a : AdminHdr} {status : ℕ} (h : adminParts ⊆ L) :
    Within L (State.adminErr t a status) t := by
  unfold State.adminErr
  exact State.adminDone_within h

theorem State.asyncEvent_within {f : ℕ} {ev : ℕ} (h : adminParts ⊆ L) :
    Within L (State.asyncEvent t f ev) t := by
  unfold State.asyncEvent
  extract_lets x
  clear_value x
  refine .ite ?_ ?_
  · exact .rfl
  · split
    · exact State.setCtl_within (h (by decide))
    · extract_lets s s1
      have hs : Within L s t := State.setCtl_within (h (by decide))
      have hs1 : Within L s1 t := (State.emit_within (sub_of h rfl)).trans hs
      exact .step (h (by decide)) (.cpls s1 _) hs1

theorem State.promise_within {f : ℕ} {x : Fld} (h : .reg x.reg ∈ L) (he : .ctls :: .cpls :: eventParts ⊆ L) :
    Within L (State.promise t f x) t := by
  unfold State.promise
  exact .ite .rfl ((State.asyncEvent_within (sub_of he rfl)).trans (State.event_within h (sub_of he rfl)))

theorem State.suspRecord_within {begins : Bool} {row : ℕ} {nsid : ℕ} (h : recordParts ⊆ L) :
    Within L (State.suspRecord t begins row nsid) t := by
  unfold State.suspRecord
  exact State.record_within h

theorem State.postSegment_within {p : ℕ} {r : RespBuf} (h : mbxParts ⊆ L) :
    Within L (State.postSegment t p r) t := by
  unfold State.postSegment
  extract_lets m now rest more seg s
  have hs : Within L s t := State.setMb_within (h (by decide))
  exact (State.mbEvent_within rfl h).trans ((State.emit_within (sub_of h rfl)).trans hs)

theorem State.dropHandles_within {p : ℕ} (h : .ops ∈ L) :
    Within L (State.dropHandles t p) t := by
  unfold State.dropHandles
  exact .step h (.ops t _) .rfl

theorem State.newHandle_within {p : ℕ} {group : ℕ} (h : [.ops, .nextHandle] ⊆ L) :
    Within L (State.newHandle t p group).2 t := by
  unfold State.newHandle
  extract_lets h1
  exact .update [.ops, .nextHandle] h .rfl rfl

theorem State.opDone_within {h1 : Option ℕ} {result : ℕ} {data : List ℕ} (h : mbxParts ⊆ L) :
    Within L (State.opDone t h1 result data) t := by
  unfold State.opDone
  split
  · exact .rfl
  · split
    · exact .rfl
    · extract_lets o' s
      have hs : Within L s t := .step (h (by decide)) (.ops t _) .rfl
      exact (State.mbEvent_within rfl h).trans hs

theorem State.suspend_within {row : ℕ} {nsid : ℕ} (h : [.out, .gaz, .mgmt, .start, .reg .CHR_ALERT_STATUS, .reg .GAZ_COUNTS] ⊆ L) :
    Within L (State.suspend t row nsid) t := by
  unfold State.suspend
  exact .ite .rfl ((State.suspRecord_within (sub_of h rfl)).trans (.step (h (by decide)) (.start t _) .rfl))

theorem State.endSuspends_within (h : [.out, .gaz, .mgmt, .start, .reg .CHR_ALERT_STATUS, .reg .GAZ_COUNTS] ⊆ L) :
    Within L (State.endSuspends t) t := by
  unfold State.endSuspends
  exact (Within.foldl fun u x => State.suspRecord_within (sub_of h rfl)).trans (.step (h (by decide)) (.start t _) .rfl)

theorem State.endUpd_within (h : .por ∈ L) :
    Within L (State.endUpd t) t := by
  unfold State.endUpd
  extract_lets src
  clear_value src
  split
  · exact .rfl
  · extract_lets src1 slots
    exact .step h (.por t _) .rfl

/-- What `State.endSession` may change. -/
def endSessionParts : List Part :=
  [.out, .gaz, .mgmt, .fns, .mbx, .por, .reg .CHR_ALERT_STATUS, .reg .GAZ_COUNTS, .reg .MBX_EVENTS]

theorem State.endSession_within {p : ℕ} (h : endSessionParts ⊆ L) :
    Within L (State.endSession t p) t := by
  unfold State.endSession
  extract_lets m s s1
  have hs : Within L s t := State.setMb_within (h (by decide))
  have hs1 : Within L s1 t := .ite ((State.event_within (h (by decide)) (sub_of h rfl)).trans hs) hs
  clear_value m s s1
  refine .ite ?_ ?_
  · exact .rfl
  · split
    · exact .ite ((State.endUpd_within (h (by decide))).trans hs1) hs1
    · exact hs1

theorem State.setTPool_within {p : ℕ} {t2 : TPool} (h : [.out, .gaz, .mgmt, .fns, .til, .reg .TIL_POOL_WM, .reg .CHR_ALERT_STATUS, .reg .GAZ_COUNTS] ⊆ L) :
    Within L (State.setTPool t p t2) t := by
  unfold State.setTPool
  extract_lets was l src s
  have hs : Within L s t := .step (h (by decide)) (.til t _) .rfl
  exact .ite ((State.event_within (h (by decide)) (sub_of h rfl)).trans ((State.bump_within (h (by decide))).trans hs)) hs

/-- What `State.releaseExtra` may change. -/
def releaseExtraParts : List Part :=
  [.out, .gaz, .mgmt, .pwr, .fns, .til, .reg .TIL_POOL_WM, .reg .CHR_ALERT_STATUS, .reg .GAZ_COUNTS]

theorem State.releaseExtra_within {b : Booking} (h : releaseExtraParts ⊆ L) :
    Within L (State.releaseExtra t b) t := by
  unfold State.releaseExtra
  extract_lets src
  clear_value src
  refine .ite ?_ ?_
  · exact .step (h (by decide)) (.pwr t _) .rfl
  · refine .ite ?_ ?_
    · split
      · exact State.setTPool_within (sub_of h rfl)
      · exact .rfl
    · exact .rfl

theorem State.setStage_within {a : ℕ} {x : Option Stage} (h : .atl ∈ L) :
    Within L (State.setStage t a x) t := by
  unfold State.setStage
  exact .step h (.atl t _) .rfl

theorem State.freeSlot_within {a : ℕ} (h : [.pwr, .atl] ⊆ L) :
    Within L (State.freeSlot t a) t := by
  unfold State.freeSlot
  extract_lets s src
  have hs : Within L s t := State.setStage_within (h (by decide))
  clear_value s src
  split
  · exact .ite (.step (h (by decide)) (.pwr s _) hs) .rfl
  · exact .rfl

theorem State.slotReadDown_within {a : ℕ} (h : [.pwr, .atl] ⊆ L) :
    Within L (State.slotReadDown t a) t := by
  unfold State.slotReadDown
  split
  · exact (State.freeSlot_within h).trans (State.setStage_within (h (by decide)))
  · exact .rfl

theorem State.slotReadsEnd_within {c : Cmd} (h : [.pwr, .atl] ⊆ L) :
    Within L (State.slotReadsEnd t c) t := by
  unfold State.slotReadsEnd
  extract_lets s src
  have hs : Within L s t := by
    unfold s
    refine Within.foldl fun u x => ?_
    exact State.slotReadDown_within h
  exact .step (h (by decide)) (.atl s _) hs

theorem State.withdraw_within {ids : List ℕ} (h : .lanes ∈ L) :
    Within L (State.withdraw t ids) t := by
  unfold State.withdraw
  exact .ite .rfl (.step h (.lanes t _) .rfl)

theorem State.endOps_within {c : Cmd} (h : [.plt, .lanes] ⊆ L) :
    Within L (State.endOps t c) t := by
  unfold State.endOps
  extract_lets job s left src
  have hs : Within L s t := .step (h (by decide)) (.lanes t _) .rfl
  exact .step (h (by decide)) (.plt s _) hs

/-- What `State.unbook` may change. -/
def unbookParts : List Part :=
  [.out, .gaz, .mgmt, .pwr, .fns, .plt, .til, .reg .TIL_POOL_WM, .reg .CHR_ALERT_STATUS, .reg .GAZ_COUNTS]

theorem State.unbook_within {bs : List Booking} (h : unbookParts ⊆ L) :
    Within L (State.unbook t bs) t := by
  unfold State.unbook
  extract_lets s mark src
  have hs : Within L s t := Within.foldl fun u x => State.releaseExtra_within (sub_of h rfl)
  exact .step (h (by decide)) (.plt s _) hs

theorem State.dropRmw_within {iu : ℕ} {bs : List Booking} (h : unbookParts ⊆ L) :
    Within L (State.dropRmw t iu bs) t := by
  unfold State.dropRmw
  extract_lets keep src
  exact (State.unbook_within h).trans (.step (h (by decide)) (.plt t _) .rfl)

theorem State.unpinBand_within {b : ℕ} (h : .atl ∈ L) :
    Within L (State.unpinBand t b) t := by
  unfold State.unpinBand
  exact .step h (.atl t _) .rfl

theorem State.pinBand_within {b : ℕ} (h : .atl ∈ L) :
    Within L (State.pinBand t b) t := by
  unfold State.pinBand
  exact .step h (.atl t _) .rfl

/-- What `State.release` may change. -/
def releaseParts : List Part :=
  [.out, .gaz, .mgmt, .pwr, .fns, .plt, .atl, .lanes, .til, .reg .TIL_POOL_WM, .reg .CHR_ALERT_STATUS, .reg .GAZ_COUNTS]

theorem State.release_within {c : Cmd} (h : releaseParts ⊆ L) :
    Within L (State.release t c) t := by
  unfold State.release
  extract_lets tiles all rest s s1 src
  have hs : Within L s t := (State.endOps_within (sub_of h rfl)).trans ((State.withdraw_within (h (by decide))).trans (State.slotReadsEnd_within (sub_of h rfl)))
  have hs1 : Within L s1 t := (Within.foldl fun u x => State.dropRmw_within (sub_of h rfl)).trans ((State.unbook_within (sub_of h rfl)).trans hs)
  exact .step (h (by decide)) (.pwr s1 _) hs1

theorem State.settle_within {c : Cmd} (h : releaseParts ⊆ L) :
    Within L (State.settle t c) t := by
  unfold State.settle
  extract_lets tiles s src
  have hs : Within L s t := (State.unbook_within (sub_of h rfl)).trans ((State.endOps_within (sub_of h rfl)).trans ((State.withdraw_within (h (by decide))).trans (State.slotReadsEnd_within (sub_of h rfl))))
  exact .step (h (by decide)) (.pwr s _) hs

/-- What `State.dropCmd` may change. -/
def dropCmdParts : List Part :=
  releaseParts ++ [.cmds]

theorem State.dropCmd_within {fn : ℕ} {sq : ℕ} {cid : ℕ} (h : dropCmdParts ⊆ L) :
    Within L (State.dropCmd t fn sq cid) t := by
  unfold State.dropCmd
  split
  · exact .rfl
  · extract_lets s
    have hs : Within L s t := State.release_within (sub_of h rfl)
    exact .step (h (by decide)) (.cmds s _) hs

theorem State.atsDone_within {fn : ℕ} (h : [.out, .fns] ⊆ L) :
    Within L (State.atsDone t fn) t := by
  unfold State.atsDone
  extract_lets x
  exact .ite .rfl ((Within.foldl fun u x => State.emit_within (sub_of h rfl)).trans (State.setFn_within (h (by decide))))

theorem State.dropQueues_within {f : ℕ} (h : [.sqs, .cqs, .cmds, .cpls, .buckets] ⊆ L) :
    Within L (State.dropQueues t f) t := by
  unfold State.dropQueues
  exact .update [.sqs, .cqs, .cmds, .cpls, .buckets] h .rfl rfl

theorem State.dropBytes_within {f : ℕ} (h : [.window, .inbox] ⊆ L) : Within L (State.dropBytes t f) t := by
  unfold State.dropBytes
  exact .step (h (by decide)) (.inbox { t with window := _ } _ (tabWf_filter _ _ _))
    (.step (h (by decide)) (.window t _ (tabWf_filter _ _ _)) .rfl)

theorem State.latchGaz_within {f : ℕ} {i : ℕ} (h : [.out, .fns] ⊆ L) :
    Within L (State.latchGaz t f i) t := by
  unfold State.latchGaz
  extract_lets b src
  exact (State.emit_within (sub_of h rfl)).trans (State.setFn_within (h (by decide)))

theorem State.restoreFn_within {f : ℕ} (h : [.fns, .window, .inbox, .mbx, .reg .HST_FN_CTRL, .reg .HST_FN_EVENTS, .reg .HST_GAZ_PAGE, .reg .HST_DCS_WIN] ⊆ L) :
    Within L (State.restoreFn t f) t := by
  unfold State.restoreFn
  extract_lets x src s s1 s2 s3 s4 s5 src1
  have hs : Within L s t := State.setFn_within (h (by decide))
  have hs1 : Within L s1 t := (State.dropBytes_within (sub_of h rfl)).trans hs
  have hs2 : Within L s2 t := (State.setReg_within (sub_of h rfl)).trans hs1
  have hs3 : Within L s3 t := (State.setReg_within (sub_of h rfl)).trans hs2
  have hs4 : Within L s4 t := (State.setReg_within (sub_of h rfl)).trans hs3
  have hs5 : Within L s5 t := (Within.foldl fun u x => State.setReg_within (sub_of h rfl)).trans hs4
  exact (State.setMb_within (h (by decide))).trans hs5

theorem State.resetFn1_within {f : ℕ} {kind : ℕ} (h : resetFnParts ⊆ L) :
    Within L (State.resetFn1 t f kind) t := by
  unfold State.resetFn1
  extract_lets mine lost s s1 m s2 s3 s4 x s5 s6 s7
  have hs : Within L s t := Within.foldl fun u x => State.release_within (sub_of h rfl)
  have hs1 : Within L s1 t := (State.atsDone_within (sub_of h rfl)).trans ((State.dropQueues_within (sub_of h rfl)).trans hs)
  have hs2 : Within L s2 t := (State.setMb_within (h (by decide))).trans hs1
  have hs3 : Within L s3 t := .ite hs2 ((State.endSession_within (sub_of h rfl)).trans hs2)
  have hs4 : Within L s4 t := (State.setCtl_within (h (by decide))).trans hs3
  have hs5 : Within L s5 t := (State.setFn_within (h (by decide))).trans hs4
  have hs6 : Within L s6 t := .ite hs5 ((State.restoreFn_within (sub_of h rfl)).trans hs5)
  have hs7 : Within L s7 t := .ite ((State.promise_within (h (by decide)) (sub_of h rfl)).trans hs6) hs6
  exact (State.record_within (sub_of h rfl)).trans hs7

theorem State.resetFns_within {fs : List ℕ} {kind : ℕ} (h : resetFnParts ⊆ L) :
    Within L (State.resetFns t fs kind) t := by
  unfold State.resetFns
  exact .ite .rfl ((State.suspRecord_within (sub_of h rfl)).trans ((Within.foldl fun u x => State.resetFn1_within h).trans (State.suspRecord_within (sub_of h rfl))))

theorem State.resetFn_within {f : ℕ} {kind : ℕ} (h : resetFnParts ⊆ L) :
    Within L (State.resetFn t f kind) t := by
  unfold State.resetFn
  exact State.resetFns_within h

theorem State.pulse_within (h : [.pin, .reg .FLT_PIN_CTL] ⊆ L) :
    Within L (State.pulse t) t := by
  unfold State.pulse
  extract_lets src
  have hsrc : Within L src t := State.setFld_within (h (by decide))
  exact .ite (.step (h (by decide)) (.pin src _) hsrc) .rfl

theorem State.setBay_within {b : ℕ} {x : Bay} (h : .bays ∈ L) :
    Within L (State.setBay t b x) t := by
  unfold State.setBay
  exact .step h (.bays t _) .rfl

theorem State.moveBay_within {b : ℕ} {st : BayState} (h : [.out, .gaz, .mgmt, .bays, .reg .SHB_IND, .reg .CHR_ALERT_STATUS, .reg .GAZ_COUNTS] ⊆ L) :
    Within L (State.moveBay t b st) t := by
  unfold State.moveBay
  extract_lets x s s1
  have hs : Within L s t := State.setBay_within (h (by decide))
  have hs1 : Within L s1 t := (State.setFld_within (h (by decide))).trans hs
  exact (State.record_within (sub_of h rfl)).trans hs1

theorem State.resumeProgs_within (h : [.out, .fch] ⊆ L) :
    Within L (State.resumeProgs t) t := by
  unfold State.resumeProgs
  refine Within.foldl fun u x => ?_
  extract_lets x1 src
  clear_value x1 src
  refine .ite ?_ ?_
  · split
    · extract_lets x4
      exact (State.emit_within (sub_of h rfl)).trans (.step (h (by decide)) (.fch u _) .rfl)
    · exact .rfl
  · exact .rfl

theorem State.resetErases_within (h : .out ∈ L) :
    Within L (State.resetErases t) t := by
  unfold State.resetErases
  refine Within.foldl fun u x => ?_
  split
  · exact .ite (State.emit_within (List.cons_subset.2 ⟨h, List.nil_subset _⟩)) .rfl
  · exact .rfl

/-- What `State.enterHoldup` may change. -/
def enterHoldupParts : List Part :=
  endSessionParts ++ [.pwr, .cmds, .cpls, .ops, .plt, .atl, .fch, .trv, .bays, .dram, .srv, .start, .reg .SHB_IND, .reg .PWR_EVENTS]

theorem State.enterHoldup_within {cause : ℕ} (h : enterHoldupParts ⊆ L) :
    Within L (State.enterHoldup t cause) t := by
  unfold State.enterHoldup
  extract_lets paths s s1 s2 src src1 src2 src3 src4 src5 src6 s3 going off src7 s4 s5
  have hs : Within L s t := (State.endUpd_within (h (by decide))).trans (Within.foldl fun u x => State.endSession_within (sub_of h rfl))
  have hs1 : Within L s1 t := (State.suspend_within (sub_of h rfl)).trans hs
  have hs2 : Within L s2 t := (State.resetErases_within (h (by decide))).trans ((State.resumeProgs_within (sub_of h rfl)).trans hs1)
  have hs3 : Within L s3 t := .update [.mgmt, .pwr, .cmds, .cpls, .mbx, .ops, .plt, .atl, .trv, .dram, .srv] (sub_of h rfl) hs2 rfl
  have hs4 : Within L s4 t := .step (h (by decide)) (.fch s3 _) hs3
  have hs5 : Within L s5 t := (Within.foldl fun u x => State.moveBay_within (sub_of h rfl)).trans hs4
  exact .ite .rfl ((State.toMode_within (h (by decide)) (h (by decide)) (sub_of h rfl)).trans hs5)

theorem State.markFenced_within {block : ℕ} {inst : ℕ} (h : .flt ∈ L) :
    Within L (State.markFenced t block inst) t := by
  unfold State.markFenced
  extract_lets u
  exact State.setUnit_within h

/-- What `State.deviceReaction` may change. -/
def deviceReactionParts : List Part :=
  enterHoldupParts ++ [.pin, .ctls, .reg .FLT_PIN_CTL]

theorem State.deviceReaction_within (h : deviceReactionParts ⊆ L) :
    Within L (State.deviceReaction t) t := by
  unfold State.deviceReaction
  extract_lets s s1
  have hs : Within L s t := (State.emit_within (sub_of h rfl)).trans (State.emit_within (sub_of h rfl))
  have hs1 : Within L s1 t := .step (h (by decide)) (.ctls s _) hs
  exact (State.enterHoldup_within (sub_of h rfl)).trans ((State.alert_within (h (by decide)) (h (by decide)) (h (by decide))).trans ((State.pulse_within (sub_of h rfl)).trans hs1))

theorem State.partnerError_within {r : FaultReport} {b : ℕ} {i : ℕ} (h : [.out, .flt, .gaz, .mgmt, .reg .CHR_ALERT_STATUS, .reg .GAZ_COUNTS] ⊆ L) :
    Within L (State.partnerError t r b i) t := by
  unfold State.partnerError
  extract_lets u k src s
  have hs : Within L s t := State.setUnit_within (h (by decide))
  exact .ite .rfl ((State.record_within (sub_of h rfl)).trans hs)

theorem State.fencedFault_within {r : FaultReport} {c : FClass} (h : [.out, .flt, .gaz, .mgmt, .reg .CHR_ALERT_STATUS, .reg .GAZ_COUNTS] ⊆ L) :
    Within L (State.fencedFault t r c) t := by
  unfold State.fencedFault
  extract_lets u src u' s
  have hs : Within L s t := State.setUnit_within (h (by decide))
  exact .ite hs ((State.record_within (sub_of h rfl)).trans hs)

theorem State.correctedFault_within {r : FaultReport} (h : [.out, .flt, .gaz, .mgmt, .reg .CHR_ALERT_STATUS, .reg .GAZ_COUNTS] ⊆ L) :
    Within L (State.correctedFault t r) t := by
  unfold State.correctedFault
  extract_lets u due n src u' s
  have hs : Within L s t := State.setUnit_within (h (by decide))
  exact .ite ((State.record_within (sub_of h rfl)).trans hs) hs

theorem State.containedFault_within {r : FaultReport} (h : [.out, .flt, .gaz, .mgmt, .reg .CHR_ALERT_STATUS, .reg .GAZ_COUNTS] ⊆ L) :
    Within L (State.containedFault t r) t := by
  unfold State.containedFault
  extract_lets u src s
  have hs : Within L s t := State.setUnit_within (h (by decide))
  exact (State.record_within (sub_of h rfl)).trans hs

/-- What `State.deviceFault` may change. -/
def deviceFaultParts : List Part :=
  deviceReactionParts ++ [.flt]

theorem State.deviceFault_within {r : FaultReport} (h : deviceFaultParts ⊆ L) :
    Within L (State.deviceFault t r) t := by
  unfold State.deviceFault
  extract_lets u s
  have hs : Within L s t := State.setUnit_within (h (by decide))
  exact (State.deviceReaction_within (sub_of h rfl)).trans ((State.record_within (sub_of h rfl)).trans hs)

theorem State.unitNotice_within {r : FaultReport} (h : [.out, .flt, .pin, .gaz, .mgmt, .reg .CHR_ALERT_STATUS, .reg .FLT_PIN_CTL, .reg .GAZ_COUNTS] ⊆ L) :
    Within L (State.unitNotice t r) t := by
  unfold State.unitNotice
  extract_lets u s s1 s2
  have hs : Within L s t := State.setUnit_within (h (by decide))
  have hs1 : Within L s1 t := (State.record_within (sub_of h rfl)).trans hs
  have hs2 : Within L s2 t := (State.emit_within (sub_of h rfl)).trans ((State.emit_within (sub_of h rfl)).trans hs1)
  exact (State.alert_within (h (by decide)) (h (by decide)) (h (by decide))).trans ((State.pulse_within (sub_of h rfl)).trans hs2)

theorem State.setDie_within {d : ℕ} {x : Die} (h : .fch ∈ L) :
    Within L (State.setDie t d x) t := by
  unfold State.setDie
  exact .step h (.fch t _) .rfl

theorem State.setChan_within {c : ℕ} {x : Chan} (h : .fch ∈ L) :
    Within L (State.setChan t c x) t := by
  unfold State.setChan
  exact .step h (.fch t _) .rfl

theorem State.setBand_within {b : ℕ} {x : Band} (h : .svy ∈ L) :
    Within L (State.setBand t b x) t := by
  unfold State.setBand
  exact .step h (.svy t _) .rfl

theorem State.moveBand_within {b : ℕ} {x : Band} (h : [.atl, .svy] ⊆ L) :
    Within L (State.moveBand t b x) t := by
  unfold State.moveBand
  extract_lets s src
  have hs : Within L s t := State.setBand_within (h (by decide))
  exact .step (h (by decide)) (.atl s _) hs

theorem State.owe_within {g : ℕ} {units : ℕ} (h : .plt ∈ L) :
    Within L (State.owe t g units) t := by
  unfold State.owe
  exact .step h (.plt t _) .rfl

theorem State.oweDie_within {d : ℕ} {units : ℕ} (h : .plt ∈ L) :
    Within L (State.oweDie t d units) t := by
  unfold State.oweDie
  exact .step h (.plt t _) .rfl

theorem State.oweBand_within {b : ℕ} {units : ℕ} (h : .plt ∈ L) :
    Within L (State.oweBand t b units) t := by
  unfold State.oweBand
  exact .step h (.plt t _) .rfl

theorem State.dropOwed_within {b : ℕ} (h : .plt ∈ L) :
    Within L (State.dropOwed t b) t := by
  unfold State.dropOwed
  exact .step h (.plt t _) .rfl

theorem State.queueRefresh_within {b : ℕ} {reason : ℕ} {front : Bool} (h : [.plt, .atl, .svy] ⊆ L) :
    Within L (State.queueRefresh t b reason front) t := by
  unfold State.queueRefresh
  extract_lets x s src s1 src1
  have hs : Within L s t := State.moveBand_within (sub_of h rfl)
  have hs1 : Within L s1 t := (State.oweBand_within (h (by decide))).trans (State.moveBand_within (sub_of h rfl))
  exact .ite .rfl (.ite (.ite (.step (h (by decide)) (.svy s _) hs) .rfl) (.step (h (by decide)) (.svy s1 _) hs1))

theorem State.unqueue_within {b : ℕ} (h : .svy ∈ L) :
    Within L (State.unqueue t b) t := by
  unfold State.unqueue
  exact .step h (.svy t _) .rfl

theorem State.drainBand_within {b : ℕ} (h : [.plt, .atl, .svy] ⊆ L) :
    Within L (State.drainBand t b) t := by
  unfold State.drainBand
  exact (State.dropOwed_within (h (by decide))).trans ((State.unqueue_within (h (by decide))).trans (State.moveBand_within (sub_of h rfl)))

theorem State.setSpares_within {d : ℕ} {l : List ℕ} (h : .svy ∈ L) :
    Within L (State.setSpares t d l) t := by
  unfold State.setSpares
  exact .step h (.svy t _) .rfl

theorem State.mapPass_within (h : [.plt, .atl, .svy] ⊆ L) :
    Within L (State.mapPass t) t := by
  unfold State.mapPass
  extract_lets s src src1
  have hs : Within L s t := by
    unfold s
    refine Within.foldl fun u x => ?_
    extract_lets src2 s1
    have hs1 : Within L s1 u := State.setBand_within (h (by decide))
    exact .ite (.ite ((State.drainBand_within h).trans hs1) hs1) .rfl
  exact .update [.atl, .svy] (sub_of h rfl) hs rfl

theorem State.journalMark_within {before : ℕ} {after : ℕ} (h : [.out, .gaz, .mgmt, .fns, .reg .ATL_JRNL_WM, .reg .CHR_ALERT_STATUS, .reg .GAZ_COUNTS] ⊆ L) :
    Within L (State.journalMark t before after) t := by
  unfold State.journalMark
  extract_lets l
  exact .ite ((State.event_within (h (by decide)) (sub_of h rfl)).trans (State.bump_within (h (by decide)))) .rfl

theorem State.oweMap_within {bytes : ℕ} (h : .plt ∈ L) :
    Within L (State.oweMap t bytes) t := by
  unfold State.oweMap
  extract_lets open_ gs each
  clear_value open_ gs each
  refine Within.foldl fun u x => ?_
  extract_lets w
  exact State.owe_within h

/-- What `State.journal` may change. -/
def journalParts : List Part :=
  [.out, .gaz, .mgmt, .fns, .plt, .atl, .reg .ATL_JRNL_WM, .reg .CHR_ALERT_STATUS, .reg .GAZ_COUNTS]

theorem State.journal_within {kind : ℕ} {pool : ℕ} {iu : ℕ} {arg : ℕ} {items : List (ℕ × Ent × ℕ)} (h : journalParts ⊆ L) :
    Within L (State.journal t kind pool iu arg items) t := by
  unfold State.journal
  extract_lets q b r n fills src s
  have hs : Within L s t := .step (h (by decide)) (.atl t _) .rfl
  exact (State.journalMark_within (sub_of h rfl)).trans (.ite ((State.oweMap_within (h (by decide))).trans hs) hs)

theorem State.journalSet_within {kind : ℕ} {key : ℕ} {e : Ent} {epoch : ℕ} (h : journalParts ⊆ L) :
    Within L (State.journalSet t kind key e epoch) t := by
  unfold State.journalSet
  exact State.journal_within h

theorem State.ringLess_within {n : ℕ} (h : .atl ∈ L) :
    Within L (State.ringLess t n) t := by
  unfold State.ringLess
  extract_lets left src
  exact .step h (.atl t _) .rfl

theorem State.freeParked_within (h : .atl ∈ L) :
    Within L (State.freeParked t) t := by
  unfold State.freeParked
  extract_lets old gone src
  exact .ite .rfl ((State.ringLess_within h).trans (.step h (.atl t _) .rfl))

theorem State.setSeg_within {k : ℕ} {x : Seg} (h : .atl ∈ L) :
    Within L (State.setSeg t k x) t := by
  unfold State.setSeg
  exact .step h (.atl t _) .rfl

theorem State.setEnt_within {key : ℕ} {e : Ent} (h : .atl ∈ L) :
    Within L (State.setEnt t key e) t := by
  unfold State.setEnt
  exact .step h (.atl t _) .rfl

theorem State.supersede_within {a : ℕ} (h : [.pwr, .atl] ⊆ L) :
    Within L (State.supersede t a) t := by
  unfold State.supersede
  split
  · exact (State.freeSlot_within h).trans (State.setStage_within (h (by decide)))
  · exact .rfl

theorem State.drainIf_within {b : ℕ} (h : [.plt, .atl, .svy] ⊆ L) :
    Within L (State.drainIf t b) t := by
  unfold State.drainIf
  extract_lets x
  exact .ite (State.drainBand_within h) .rfl

theorem State.validDown_within {addr : ℕ} {units : ℕ} (h : [.plt, .atl, .svy] ⊆ L) :
    Within L (State.validDown t addr units) t := by
  unfold State.validDown
  extract_lets b x
  exact (State.drainIf_within h).trans (State.setBand_within (h (by decide)))

theorem State.validUp_within {addr : ℕ} {units : ℕ} (h : .svy ∈ L) :
    Within L (State.validUp t addr units) t := by
  unfold State.validUp
  extract_lets b x
  exact State.setBand_within h

theorem State.leaveOld_within {key : ℕ} {old : Ent} (h : [.pwr, .plt, .atl, .svy] ⊆ L) :
    Within L (State.leaveOld t key old) t := by
  unfold State.leaveOld
  split
  · exact State.validDown_within (sub_of h rfl)
  · exact State.supersede_within (sub_of h rfl)
  · exact .rfl
  · exact .rfl

theorem State.sweepSeg_within {k : ℕ} (h : [.pwr, .plt, .atl, .svy] ⊆ L) :
    Within L (State.sweepSeg t k) t := by
  unfold State.sweepSeg
  extract_lets mine s src s1 src1
  have hs : Within L s t := Within.foldl fun u x => (State.setEnt_within (h (by decide))).trans (State.leaveOld_within h)
  have hs1 : Within L s1 t := (State.setSeg_within (h (by decide))).trans hs
  exact .step (h (by decide)) (.atl s1 _) hs1

theorem State.setAtlEng_within {e : ℕ} {x : AtlEng} (h : .atl ∈ L) :
    Within L (State.setAtlEng t e x) t := by
  unfold State.setAtlEng
  exact .step h (.atl t _) .rfl

theorem State.setDir_within {k : ℕ} {x : Dir} (h : .atl ∈ L) :
    Within L (State.setDir t k x) t := by
  unfold State.setDir
  exact .step h (.atl t _) .rfl

theorem State.startWb_within {engine : ℕ} {seg : ℕ} (h : .atl ∈ L) :
    Within L (State.startWb t engine seg) t := by
  unfold State.startWb
  exact .step h (.atl t _) .rfl

theorem State.makeRoom_within {e : ℕ} (h : .atl ∈ L) :
    OptWithin L (fun u => u) (State.makeRoom t e) t := by
  unfold State.makeRoom
  extract_lets g mine drop
  have hdrop : ∀ a0, Within L (drop a0) t := by
    intro a0
    unfold drop
    exact State.setAtlEng_within h
  clear_value g mine drop
  refine .ite ?_ ?_
  · exact .some .rfl
  · split
    · exact .some ((State.setDir_within h).trans (hdrop _))
    · split
      · exact .none
      · extract_lets s
        have hs : Within L s t := (State.setAtlEng_within h).trans (hdrop _)
        clear_value s
        refine .ite ?_ ?_
        · exact .none
        · exact .some ((State.setDir_within h).trans ((State.startWb_within h).trans hs))

theorem State.obtain_within {k : ℕ} {e : ℕ} (h : .atl ∈ L) :
    Within L (State.obtain t k e) t := by
  unfold State.obtain
  extract_lets take
  have htake : ∀ a0 a1, Within L (take a0 a1) a0 := by
    intro a0 a1
    unfold take
    extract_lets g
    exact (State.setDir_within h).trans (State.setAtlEng_within h)
  clear_value take
  refine .ite ?_ ?_
  · exact .rfl
  · split
    · refine .ite ?_ ?_
      · exact .ite .rfl (htake _ _)
      · split
        · exact .rfl
        · rename_i x2 u e2
          have hu : Within L u t := State.makeRoom_within h _ e2
          extract_lets g dirty
          exact (htake _ _).trans ((State.setAtlEng_within h).trans hu)
    · split
      · exact .rfl
      · rename_i x2 u e2
        have hu : Within L u t := State.makeRoom_within h _ e2
        exact (htake _ _).trans hu
    · split
      · exact .rfl
      · rename_i x1 u e2
        have hu : Within L u t := State.makeRoom_within h _ e2
        exact (htake _ _).trans hu

theorem State.markDirty_within {k : ℕ} (h : .atl ∈ L) :
    Within L (State.markDirty t k) t := by
  unfold State.markDirty
  split
  · extract_lets g s src
    have hs : Within L s t := State.setAtlEng_within h
    exact .step h (.atl s _) hs
  · exact .rfl

theorem State.putEnt_within {key : ℕ} {e : Ent} (h : [.pwr, .plt, .atl, .svy] ⊆ L) :
    Within L (State.putEnt t key e) t := by
  unfold State.putEnt
  extract_lets k s s1
  have hs : Within L s t := .ite (State.sweepSeg_within h) .rfl
  have hs1 : Within L s1 t := (State.leaveOld_within h).trans hs
  exact (State.markDirty_within (h (by decide))).trans ((State.setEnt_within (h (by decide))).trans hs1)

theorem State.queueUpd_within {u : QUpd} (h : .atl ∈ L) :
    Within L (State.queueUpd t u) t := by
  unfold State.queueUpd
  exact .step h (.atl t _) .rfl

theorem State.readySegs_within {l : List ℕ} (h : .atl ∈ L) :
    OptWithin L (fun u => u) (State.readySegs t l) t := by
  unfold State.readySegs
  extract_lets l1 e t1
  have ht1 : Within L t1 t := Within.foldl fun u x => State.obtain_within h
  clear_value l1 e t1
  refine .ite ?_ ?_
  · exact .none
  · refine .ite ?_ ?_
    · exact .some ht1
    · exact .none

/-- What `State.putAll` may change. -/
def putAllParts : List Part :=
  [.out, .gaz, .mgmt, .pwr, .fns, .plt, .atl, .svy, .reg .ATL_JRNL_WM, .reg .CHR_ALERT_STATUS, .reg .GAZ_COUNTS]

theorem State.putAll_within {ty : ℕ} {items : List (ℕ × Ent × ℕ)} (h : putAllParts ⊆ L) :
    Within L (State.putAll t ty items) t := by
  unfold State.putAll
  extract_lets s
  have hs : Within L s t := Within.foldl fun u x => State.putEnt_within (sub_of h rfl)
  clear_value s
  split
  · exact hs
  · exact .ite ((State.journal_within (sub_of h rfl)).trans hs) ((State.journal_within (sub_of h rfl)).trans hs)

theorem State.swapAll_within {ty : ℕ} {items : List (ℕ × Ent × ℕ)} (h : putAllParts ⊆ L) :
    Within L (State.swapAll t ty items) t := by
  unfold State.swapAll
  extract_lets u
  clear_value u
  refine .ite ?_ ?_
  · exact .rfl
  · split
    · rename_i x u1 e
      have hu1 : Within L u1 t := State.readySegs_within (h (by decide)) _ e
      exact (State.putAll_within h).trans hu1
    · exact State.queueUpd_within (h (by decide))

theorem State.discardNow_within {k : ℕ} (h : journalParts ⊆ L) :
    Within L (State.discardNow t k) t := by
  unfold State.discardNow
  exact (State.journal_within h).trans ((State.markDirty_within (h (by decide))).trans (State.setSeg_within (h (by decide))))

theorem State.discardSeg_within {k : ℕ} (h : journalParts ⊆ L) :
    Within L (State.discardSeg t k) t := by
  unfold State.discardSeg
  exact .ite (State.queueUpd_within (h (by decide))) (State.discardNow_within h)

theorem State.casFail_within (h : .reg .ATL_CAS_FAIL ∈ L) :
    Within L (State.casFail t) t := by
  unfold State.casFail
  exact State.bump_within h

/-- What `State.programDone` may change. -/
def programDoneParts : List Part :=
  [.out, .gaz, .mgmt, .pwr, .fns, .plt, .atl, .svy, .reg .ATL_JRNL_WM, .reg .ATL_CAS_FAIL, .reg .CHR_ALERT_STATUS, .reg .GAZ_COUNTS]

theorem State.programDone_within {key : ℕ} {a : ℕ} {p : ℕ} {epoch : ℕ} (h : programDoneParts ⊆ L) :
    Within L (State.programDone t key a p epoch) t := by
  unfold State.programDone
  extract_lets e dropProg s
  have hdropProg : ∀ a0, Within L (dropProg a0) a0 := by
    intro a0
    unfold dropProg
    split
    · exact State.setStage_within (h (by decide))
    · exact .rfl
  have hs : Within L s t := (State.putEnt_within (sub_of h rfl)).trans (hdropProg _)
  exact .ite ((State.journalSet_within (sub_of h rfl)).trans ((State.validUp_within (h (by decide))).trans hs)) ((State.casFail_within (h (by decide))).trans ((State.supersede_within (sub_of h rfl)).trans (hdropProg _)))

theorem State.relocateEnt_within {key : ℕ} {old : ℕ} {new : ℕ} {epoch : ℕ} (h : programDoneParts ⊆ L) :
    Within L (State.relocateEnt t key old new epoch) t := by
  unfold State.relocateEnt
  extract_lets s
  have hs : Within L s t := State.putEnt_within (sub_of h rfl)
  exact .ite ((State.journalSet_within (sub_of h rfl)).trans ((State.validUp_within (h (by decide))).trans hs)) (State.casFail_within (h (by decide)))

theorem State.relocate_within {key : ℕ} {old : ℕ} {new : ℕ} (h : programDoneParts ⊆ L) :
    Within L (State.relocate t key old new) t := by
  unfold State.relocate
  extract_lets ep
  clear_value ep
  split
  · rename_i x u e
    have hu : Within L u t := State.readySegs_within (h (by decide)) _ e
    exact (State.relocateEnt_within h).trans hu
  · exact State.queueUpd_within (h (by decide))

theorem State.setPoison_within {key : ℕ} {m : ℕ} (h : .atl ∈ L) :
    Within L (State.setPoison t key m) t := by
  unfold State.setPoison
  exact .step h (.atl t _) .rfl

theorem State.dropAsm_within {key : ℕ} (h : .atl ∈ L) :
    Within L (State.dropAsm t key) t := by
  unfold State.dropAsm
  exact .step h (.atl t _) .rfl

theorem State.setJslot_within {k : ℕ} {x : Slot} (h : [.out, .gaz, .mgmt, .fns, .par, .reg .PAR_JRNL_WM, .reg .CHR_ALERT_STATUS, .reg .GAZ_COUNTS] ⊆ L) :
    Within L (State.setJslot t k x) t := by
  unfold State.setJslot
  extract_lets before x1 src s src1 s1 l
  have hs : Within L s t := .step (h (by decide)) (.par t _) .rfl
  have hs1 : Within L s1 t := .step (h (by decide)) (.par s _) hs
  exact .ite ((State.event_within (h (by decide)) (sub_of h rfl)).trans ((State.bump_within (h (by decide))).trans hs1)) hs1

theorem State.oweFiller_within {b : ℕ} {l : List ℕ} (h : .plt ∈ L) :
    Within L (State.oweFiller t b l) t := by
  unfold State.oweFiller
  refine Within.foldl fun u x => ?_
  extract_lets d
  clear_value d
  split
  · exact .ite (State.oweDie_within h) .rfl
  · exact .rfl

/-- What `State.closeShort` may change. -/
def closeShortParts : List Part :=
  [.out, .gaz, .mgmt, .fns, .plt, .atl, .svy, .par, .reg .PAR_EVENTS, .reg .PAR_JRNL_WM, .reg .CHR_ALERT_STATUS, .reg .GAZ_COUNTS]

theorem State.closeShort_within {k : ℕ} {gone : ℕ} (h : closeShortParts ⊆ L) :
    Within L (State.closeShort t k gone) t := by
  unfold State.closeShort
  extract_lets x data pad era lost s s1 b s2
  have hs : Within L s t := by
    unfold s
    refine Within.foldl fun u x1 => ?_
    split
    · exact State.setStage_within (h (by decide))
    · exact .rfl
  have hs1 : Within L s1 t := (State.setJslot_within (sub_of h rfl)).trans hs
  have hs2 : Within L s2 t := (State.setBand_within (h (by decide))).trans hs1
  exact .ite .rfl ((State.event_within (h (by decide)) (sub_of h rfl)).trans ((State.oweFiller_within (h (by decide))).trans hs2))

theorem State.closeBand_within {b : ℕ} {gone : ℕ} (h : closeShortParts ⊆ L) :
    Within L (State.closeBand t b gone) t := by
  unfold State.closeBand
  extract_lets s x y s1 s2 src s3
  have hs : Within L s t := Within.foldl fun u x => State.closeShort_within h
  have hs1 : Within L s1 t := (State.moveBand_within (sub_of h rfl)).trans hs
  have hs2 : Within L s2 t := (Within.foldl fun u x => State.oweFiller_within (h (by decide))).trans hs1
  have hs3 : Within L s3 t := .step (h (by decide)) (.svy s2 _) hs2
  exact .ite hs ((State.drainIf_within (sub_of h rfl)).trans (.ite hs3 ((State.queueRefresh_within (sub_of h rfl)).trans hs3)))

theorem State.closeFull_within {b : ℕ} {gone : ℕ} (h : closeShortParts ⊆ L) :
    Within L (State.closeFull t b gone) t := by
  unfold State.closeFull
  extract_lets s src
  have hs : Within L s t := State.closeBand_within h
  exact .ite (.step (h (by decide)) (.par s _) hs) hs

theorem State.setBudget_within {b : ℕ} (h : [.out, .gaz, .mgmt, .pwr, .fns, .reg .PWR_EVENTS, .reg .CHR_ALERT_STATUS, .reg .GAZ_COUNTS] ⊆ L) :
    Within L (State.setBudget t b) t := by
  unfold State.setBudget
  extract_lets src s
  have hs : Within L s t := .step (h (by decide)) (.pwr t _) .rfl
  exact .ite ((State.event_within (h (by decide)) (sub_of h rfl)).trans hs) hs

theorem State.recomputeBudget_within (h : [.out, .gaz, .mgmt, .pwr, .fns, .reg .PWR_EVENTS, .reg .CHR_ALERT_STATUS, .reg .GAZ_COUNTS] ⊆ L) :
    Within L (State.recomputeBudget t) t := by
  unfold State.recomputeBudget
  extract_lets src src1 s
  have hs : Within L s t := .step (h (by decide)) (.pwr t _) .rfl
  clear_value src src1 s
  refine .ite ?_ ?_
  · exact .rfl
  · split
    · exact .ite (State.setBudget_within h) .rfl
    · exact .ite (State.setBudget_within h) .rfl
    · exact State.setBudget_within h
    · exact State.setBudget_within h
    · exact (State.setBudget_within h).trans hs

theorem State.reserveTiles_within {p : ℕ} {n : ℕ} (h : [.out, .gaz, .mgmt, .fns, .til, .reg .TIL_POOL_WM, .reg .CHR_ALERT_STATUS, .reg .GAZ_COUNTS] ⊆ L) :
    OptWithin L (fun u => u) (State.reserveTiles t p n) t := by
  unfold State.reserveTiles
  split
  · refine .ite ?_ ?_
    · exact .some (State.setTPool_within h)
    · exact .none
  · exact .none

theorem State.book1_within {b : Booking} (h : unbookParts ⊆ L) :
    OptWithin L (fun u => u) (State.book1 t b) t := by
  unfold State.book1
  extract_lets src
  clear_value src
  refine .ite ?_ ?_
  · exact .some .rfl
  · refine .ite ?_ ?_
    · exact State.reserveTiles_within (sub_of h rfl)
    · refine .ite ?_ ?_
      · refine .ite ?_ ?_
        · exact .some (.step (h (by decide)) (.pwr t _) .rfl)
        · exact .none
      · refine .ite ?_ ?_
        · exact .none
        · refine .ite ?_ ?_
          · exact .none
          · exact .some (.step (h (by decide)) (.plt t _) .rfl)

theorem State.bookAll_within {a : List Booking} (h : unbookParts ⊆ L) :
    OptWithin L (fun u => u) (State.bookAll t a) t := by
  induction a generalizing t with
  | nil =>
    rw [State.bookAll]
    exact .some .rfl
  | cons a l ih =>
    rw [State.bookAll]
    refine .bind (π := (fun u => u)) ?_ fun a1 ha1 => ?_
    · exact State.book1_within h
    · exact (ih).trans ha1

theorem State.setClosed_within {d : ℕ} {l : List Closed} (h : .plt ∈ L) :
    Within L (State.setClosed t d l) t := by
  unfold State.setClosed
  exact .step h (.plt t _) .rfl

theorem State.addClosed_within {d : ℕ} {from_ : ℕ} {len : ℕ} {why : ℕ} (h : .plt ∈ L) :
    Within L (State.addClosed t d from_ len why) t := by
  unfold State.addClosed
  exact .ite .rfl (State.setClosed_within h)

theorem State.addRuns_within {d : ℕ} {t2 : ℕ} {op : ℕ} {keep : ℕ} {l : List (ℕ × ℕ)} (h : .plt ∈ L) :
    Within L (State.addRuns t d t2 op keep l) t := by
  unfold State.addRuns
  extract_lets old
  exact State.setClosed_within h

theorem State.insertOp_within {d : ℕ} {op : DieOp} {p : Profile} (h : .plt ∈ L) :
    OptWithin L (fun u => u) (State.insertOp t d op p) t := by
  unfold State.insertOp
  extract_lets q q' src
  clear_value q q' src
  refine .ite ?_ ?_
  · exact .some (.step h (.plt t _) .rfl)
  · exact .none

theorem State.enqueue_within {d : ℕ} {off : ℕ} {op : DieOp} {p : Profile} (h : .plt ∈ L) :
    OptWithin L (fun u => u) (State.enqueue t d off op p) t := by
  unfold State.enqueue
  extract_lets src
  clear_value src
  refine .ite ?_ ?_
  · exact State.insertOp_within h
  · exact .some (.step h (.plt t _) .rfl)

theorem State.pushDieOp_within {d : ℕ} {op : DieOp} (h : .plt ∈ L) :
    Within L (State.pushDieOp t d op) t := by
  unfold State.pushDieOp
  extract_lets src s src1
  have hs : Within L s t := .step h (.plt t _) .rfl
  clear_value src s src1
  refine .ite ?_ ?_
  · exact .step h (.plt s _) hs
  · split
    · rename_i x u e
      have hu : Within L u t := by
        refine OptWithin.out (π := (fun u => u)) e ?_
        refine .bind_any fun a => ?_
        exact (State.insertOp_within h).trans hs
      exact hu
    · exact .step h (.plt s _) hs

theorem State.pushOp_within {d : ℕ} {kind : ℕ} {cost : ℕ} {latest : ℕ} (h : .plt ∈ L) :
    Within L (State.pushOp t d kind cost latest) t := by
  unfold State.pushOp
  exact State.pushDieOp_within h

theorem State.convert_within {d : ℕ} {n : ℕ} (h : .plt ∈ L) :
    Within L (State.convert t d n) t := by
  unfold State.convert
  exact .step h (.plt t _) .rfl

theorem State.pushErase_within {d : ℕ} (h : .plt ∈ L) :
    Within L (State.pushErase t d) t := by
  unfold State.pushErase
  extract_lets from_
  clear_value from_
  split
  · exact .rfl
  · extract_lets runs op
    exact (State.addRuns_within h).trans (State.pushDieOp_within h)

theorem State.firstFit_within {best : Bool} {least : ℕ} {mk : ℕ → Option Fit} (hm : ∀ d, OptWithin L Fit.st (mk d) t) :
    OptWithin L Fit.st (State.firstFit t best least mk) t := by
  unfold State.firstFit
  refine .ite (.foldl .none fun q k hq => ?_) (.findSome fun k => hm _)
  dsimp only
  split
  · exact hm _
  next b =>
    refine .ite hq ?_
    split
    next x hx => exact .ite (hx ▸ hm _) hq
    · exact hq

theorem State.holdSofts_within {r : ReadReq} {p : Profile} {off : ℕ} {a : List ℕ} (h : .plt ∈ L) :
    OptWithin L (fun u => u) (State.holdSofts t r p off a) t := by
  induction a generalizing t r p off with
  | nil =>
    rw [State.holdSofts]
    exact .some .rfl
  | cons a l ih =>
    rw [State.holdSofts]
    extract_lets src src1
    clear_value src src1
    refine .bind (π := (fun u => u)) ?_ fun a1 ha1 => ?_
    · exact (State.enqueue_within h).trans (.step h (.plt t _) .rfl)
    · exact (ih).trans ha1

theorem State.readOn_within {r : ReadReq} {d : ℕ} {p : Profile} (h : unbookParts ⊆ L) :
    OptWithin L (fun p => p.1) (State.readOn t r d p) t := by
  unfold State.readOn
  extract_lets off f du xu e tick ch books
  clear_value off f du xu e tick ch books
  refine .bind (π := (fun u => u)) ?_ fun a ha => ?_
  · exact State.bookAll_within h
  · extract_lets src op src1
    clear_value src op src1
    refine .bind (π := (fun u => u)) ?_ fun a1 ha1 => ?_
    · exact (State.enqueue_within (h (by decide))).trans (.step (h (by decide)) (.plt a _) ha)
    · refine .map (π := (fun u => u)) ?_ fun a2 ha2 => ?_
      · exact (State.holdSofts_within (h (by decide))).trans ha1
      · extract_lets t1
        have ht1 : Within L t1 t := by
          unfold t1
          split
          · extract_lets len
            exact .ite ((State.addRuns_within (h (by decide))).trans ha2) ha2
          · exact ha2
        exact ht1

theorem State.setLane_within {l : ℕ} {x : Lane} (h : .lanes ∈ L) :
    Within L (State.setLane t l x) t := by
  unfold State.setLane
  exact .step h (.lanes t _) .rfl

theorem State.reserveOn_within {l : List ℕ} {j : LdpJob} (h : .lanes ∈ L) :
    OptWithin L (fun u => u) (State.reserveOn t l j) t := by
  unfold State.reserveOn
  refine .map_any fun a => ?_
  exact State.setLane_within h

theorem State.planDirect_within {r : PlanReq} {key addr : ℕ} (h : .lanes :: unbookParts ⊆ L) :
    OptWithin L Placed.st (State.planDirect t r key addr) t := by
  obtain ⟨hl, hb⟩ := List.cons_subset.1 h
  -- unfolded as a function, for the kernel must not evaluate the times
  suffices key : ∀ f x, f = State.planDirect → x = f t r key addr → OptWithin L Placed.st x t from key _ _ rfl rfl
  intro f x hf hx
  delta State.planDirect at hf
  subst hf
  beta_reduce at hx
  extract_lets die u tail at hx
  split at hx
  · exact hx ▸ .none
  all_goals subst hx
  · refine .ite .none ?_
    extract_lets n x hard sd soft sus after req
    refine .map (π := Fit.st) (State.firstFit_within fun d0 => .findSome fun latest => .bind_any fun d => ?_) fun q hq => hq
    refine .bind (π := fun p => p.1) (State.readOn_within hb) fun a ha => ?_
    extract_lets bound j
    clear_value bound j
    refine .ite (.some ha) (.map (π := fun u => u) ?_ fun u hu => hu)
    exact (State.reserveOn_within hl).trans ha

theorem State.bookMembers_within {r : PlanReq} {key : ℕ} {res : ℕ} {units : ℕ} {d0 : ℕ} {a : List Member} (h : unbookParts ⊆ L) :
    OptWithin L (fun p => p.1) (State.bookMembers t r key res units d0 a) t := by
  induction a generalizing t r key res units d0 with
  | nil =>
    rw [State.bookMembers]
    exact .some .rfl
  | cons a l ih =>
    rw [State.bookMembers]
    refine .bind_any fun a1 => ?_
    refine .bind (π := (fun p => p.1)) ?_ fun a2 ha2 => ?_
    · exact State.readOn_within h
    · refine .map (π := (fun p => p.1)) ?_ fun a3 ha3 => ?_
      · exact (ih).trans ha2
      · dsimp -zeta only
        exact ha3

theorem State.claim_within {m : Member} {units : ℕ} {off : ℕ} (h : unbookParts ⊆ L) :
    Within L (State.claim t m units off).1 t := by
  -- unfolded as a function, for the kernel must not evaluate the bookings
  suffices key : ∀ f x, f = State.claim → x = f t m units off → Within L x.1 t from key _ _ rfl rfl
  intro f x hf hx
  delta State.claim at hf
  subst hf
  beta_reduce at hx
  extract_lets f du n xu e bs at hx
  clear_value bs
  split at hx
  next u hu => exact hx ▸ State.bookAll_within h _ hu
  · exact hx ▸ .rfl

theorem State.planDetour_within {r : PlanReq} {key addr : ℕ} (h : unbookParts ⊆ L) :
    OptWithin L Placed.st (State.planDetour t r key addr) t := by
  unfold State.planDetour
  extract_lets die b row u surv w tail ms hard cont members res out
  refine .ite .none ?_
  refine .map (π := Fit.st) (State.firstFit_within fun d0 => ?_) fun q hq => ?_
  · extract_lets paths worst
    refine .ite .none (.bind (π := fun p => p.1) (State.bookMembers_within h) fun a ha => ?_)
    exact .map (π := fun u => u) ((State.bookAll_within h).trans ha) fun v hv => hv
  · dsimp only
    generalize List.find? _ ms = o
    suffices claimed : ∀ x, x = _ → Within L (Prod.fst x) t from claimed _ rfl
    intro x hx
    cases o with
    | none =>
      have hn : x = (q.st, []) := hx
      exact hn ▸ hq
    | some m =>
      have hs : x = q.st.claim m u (t.nowOff + tHand + m.ahead) := hx
      exact hs ▸ (State.claim_within h).trans hq

theorem State.planIu_within {r : PlanReq} {key addr : ℕ} (h : .lanes :: unbookParts ⊆ L) :
    OptWithin L Placed.st (State.planIu t r key addr) t := by
  have direct : OptWithin L Placed.st (State.planDirect t r key addr) t := State.planDirect_within h
  have detour : OptWithin L Placed.st (State.planDetour t r key addr) t := State.planDetour_within (List.cons_subset.1 h).2
  unfold State.planIu
  extract_lets inTime
  split
  next p hp =>
    refine .ite ?_ (.ite (hp ▸ direct) (OptWithin.filter detour))
    split
    next q hq => exact .some (by split; exacts [detour q hq, direct p hp])
    · exact hp ▸ direct
  · exact OptWithin.filter detour

theorem planIus_within {r : PlanReq} {l : List (ℕ × ℕ)} {a : PlanAcc} (h : .lanes :: unbookParts ⊆ L) (ha : Within L a.st t) :
    OptWithin L PlanAcc.st (planIus r l a) t := by
  induction l generalizing a with
  | nil => exact .some ha
  | cons x l ih =>
    rw [planIus]
    split
    · exact .none
    next p hp => exact ih (((State.planIu_within h) p hp).trans ha)

theorem State.spread_within {res : ℕ} {idx : ℕ} {units : ℕ} {lo : ℕ} {a : ℕ} (h : unbookParts ⊆ L) :
    OptWithin L (fun p => p.1) (State.spread t res idx units lo a) t := by
  induction a generalizing t res idx units lo with
  | zero =>
    rw [State.spread]
    refine .ite ?_ ?_
    · exact .some .rfl
    · exact .none
  | succ n ih =>
    rw [State.spread]
    extract_lets n1 b
    clear_value n1 b
    refine .ite ?_ ?_
    · exact .some .rfl
    · split
      · exact .none
      · rename_i x u e
        have hu : Within L u t := State.book1_within h _ e
        refine .map (π := (fun p => p.1)) ?_ fun a ha => ?_
        · exact (ih).trans hu
        · dsimp -zeta only
          exact ha

theorem State.placeShare_within {x : Share} {k : ℕ} {lo : ℕ} {cap : ℕ} (h : unbookParts ⊆ L) :
    OptWithin L (fun p => p.1) (State.placeShare t x k lo cap) t := by
  unfold State.placeShare
  extract_lets most k' bs
  clear_value most k' bs
  refine .map (π := (fun u => u)) ?_ fun a ha => ?_
  · exact State.bookAll_within h
  · dsimp -zeta only
    exact ha

theorem State.spreadShare_within {x : Share} {k : ℕ} {lo : ℕ} {a : ℕ} (h : unbookParts ⊆ L) :
    OptWithin L (fun p => p.1) (State.spreadShare t x k lo a) t := by
  induction a generalizing t x k lo with
  | zero =>
    rw [State.spreadShare]
    refine .ite ?_ ?_
    · exact .some .rfl
    · exact .none
  | succ n ih =>
    rw [State.spreadShare]
    refine .ite ?_ ?_
    · exact .some .rfl
    · refine .bind (π := (fun p => p.1)) ?_ fun a ha => ?_
      · exact State.placeShare_within h
      · refine .map (π := (fun p => p.1)) ?_ fun a1 ha1 => ?_
        · exact (ih).trans ha
        · dsimp -zeta only
          exact ha1

theorem State.spreadShares_within {lo : ℕ} {hi : ℕ} {a : List Share} (h : unbookParts ⊆ L) :
    OptWithin L (fun p => p.1) (State.spreadShares t lo hi a) t := by
  induction a generalizing t lo hi with
  | nil =>
    rw [State.spreadShares]
    exact .some .rfl
  | cons a l ih =>
    rw [State.spreadShares]
    refine .bind (π := (fun p => p.1)) ?_ fun a1 ha1 => ?_
    · exact State.spreadShare_within h
    · refine .map (π := (fun p => p.1)) ?_ fun a2 ha2 => ?_
      · exact (ih).trans ha1
      · dsimp -zeta only
        exact ha2

theorem State.bookStarts_within {l : List (ℕ × Profile)} {hi : ℕ} {a : ℕ} (h : unbookParts ⊆ L) :
    OptWithin L (fun p => p.1) (State.bookStarts t l hi a) t := by
  induction a generalizing t l hi with
  | zero =>
    rw [State.bookStarts]
    exact .some .rfl
  | succ n ih =>
    rw [State.bookStarts]
    split
    · refine .ite ?_ ?_
      · exact .some .rfl
      · exact .none
    · extract_lets b
      clear_value b
      refine .ite ?_ ?_
      · exact .none
      · refine .bind (π := (fun u => u)) ?_ fun a ha => ?_
        · exact State.book1_within h
        · refine .map (π := (fun p => p.1)) ?_ fun a1 ha1 => ?_
          · exact (ih).trans ha
          · dsimp -zeta only
            exact ha1

theorem State.enterDebt_within {bs : List Booking} (h : .plt ∈ L) :
    Within L (State.enterDebt t bs) t := by
  unfold State.enterDebt
  exact .step h (.plt t _) .rfl

theorem State.bookDebt_within {g : ℕ} {units : ℕ × ℕ} {hi : ℕ} (h : unbookParts ⊆ L) :
    OptWithin L (fun p => p.1) (State.bookDebt t g units hi) t := by
  unfold State.bookDebt
  extract_lets l each
  clear_value l each
  refine .map (π := (fun p => p.1)) ?_ fun a ha => ?_
  · exact State.spreadShares_within h
  · dsimp -zeta only
    exact (State.enterDebt_within (h (by decide))).trans ha

theorem State.fuaProgram_within {from_ : ℕ} {lag : ℕ} {d : ℕ} {p : Profile} (h : unbookParts ⊆ L) :
    OptWithin L (fun p => p.1) (State.fuaProgram t from_ lag d p) t := by
  unfold State.fuaProgram
  extract_lets xf runs tok f xu
  clear_value xf runs tok f xu
  refine .findSome fun a => ?_
  refine .bind_any fun a1 => ?_
  extract_lets tick off fin books
  clear_value tick off fin books
  refine .ite ?_ ?_
  · exact .none
  · refine .bind (π := (fun u => u)) ?_ fun a2 ha2 => ?_
    · exact State.bookAll_within h
    · extract_lets src op src1
      clear_value src op src1
      refine .map (π := (fun u => u)) ?_ fun a3 ha3 => ?_
      · exact (State.enqueue_within (h (by decide))).trans (.step (h (by decide)) (.plt a2 _) ha2)
      · dsimp -zeta only
        exact (State.addRuns_within (h (by decide))).trans ha3

theorem State.fuaPrograms_within {from_ : ℕ} {lag : ℕ} {a : List (ℕ × Profile)} {a4 : ℕ} {a5 : List Booking} (h : unbookParts ⊆ L) :
    OptWithin L (fun p => p.1) (State.fuaPrograms t from_ lag a a4 a5) t := by
  induction a generalizing t from_ lag a4 a5 with
  | nil =>
    rw [State.fuaPrograms]
    exact .some .rfl
  | cons a l ih =>
    rw [State.fuaPrograms]
    refine .bind (π := (fun p => p.1)) ?_ fun a1 ha1 => ?_
    · exact State.fuaProgram_within h
    · exact (ih).trans ha1

/-- What `State.recheck1` may change. -/
def recheck1Parts : List Part :=
  [.out, .gaz, .mgmt, .fns, .ctls, .cpls, .classes, .reg .CHR_ALERT_STATUS, .reg .GAZ_COUNTS, .reg .HST_PROMISE_EVENTS]

theorem State.recheck1_within {c : ℕ} (h : recheck1Parts ⊆ L) :
    Within L (State.recheck1 t c) t := by
  unfold State.recheck1
  extract_lets x bad s'
  have hs' : Within L s' t := State.setCls_within (h (by decide))
  exact .ite ((Within.foldl fun u x => State.promise_within (h (by decide)) (sub_of h rfl)).trans hs') hs'

theorem State.recheck_within (h : recheckParts ⊆ L) :
    Within L (State.recheck t) t := by
  unfold State.recheck
  extract_lets f rd wr changed s s1 degraded src s2
  have hs : Within L s t := (State.setReg_within (sub_of h rfl)).trans (State.setReg_within (sub_of h rfl))
  have hs1 : Within L s1 t := .ite ((State.event_within (h (by decide)) (sub_of h rfl)).trans hs) hs
  have hs2 : Within L s2 t := .step (h (by decide)) (.plt s1 _) hs1
  exact (Within.foldl fun u x => .ite (State.recheck1_within (sub_of h rfl)) .rfl).trans hs2

theorem State.reserveBand_within {g : ℕ} {set : ℕ} (h : [.atl, .svy] ⊆ L) :
    Within L (State.reserveBand t g set) t := by
  unfold State.reserveBand
  refine .ite ?_ ?_
  · exact .rfl
  · split
    · exact .rfl
    · exact State.moveBand_within h

theorem State.fillReserve_within {g : ℕ} (h : [.atl, .svy] ⊆ L) :
    Within L (State.fillReserve t g) t := by
  unfold State.fillReserve
  exact Within.foldl fun u x => .ite .rfl (State.reserveBand_within h)

/-- What `State.retireBand` may change. -/
def retireBandParts : List Part :=
  [.out, .gaz, .mgmt, .fns, .media, .plt, .atl, .svy, .reg .SVY_MEDIA_EVENTS, .reg .CHR_ALERT_STATUS, .reg .GAZ_COUNTS]

theorem State.retireBand_within {b : ℕ} (h : retireBandParts ⊆ L) :
    Within L (State.retireBand t b) t := by
  unfold State.retireBand
  extract_lets x sheets s s1 s2
  have hs : Within L s t := by
    unfold s
    refine Within.foldl fun u x1 => ?_
    extract_lets d k
    exact .ite .rfl (State.setSpares_within (h (by decide)))
  have hs1 : Within L s1 t := (State.dropOwed_within (h (by decide))).trans ((State.unqueue_within (h (by decide))).trans ((State.moveBand_within (sub_of h rfl)).trans hs))
  have hs2 : Within L s2 t := (State.event_within (h (by decide)) (sub_of h rfl)).trans ((State.mediaCount_within (h (by decide))).trans hs1)
  exact .ite ((State.reserveBand_within (sub_of h rfl)).trans hs2) hs2

theorem State.substitute_within {b : ℕ} {sh : ℕ} (h : [.atl, .svy] ⊆ L) :
    OptWithin L (fun u => u) (State.substitute t b sh) t := by
  unfold State.substitute
  extract_lets d bad
  clear_value d bad
  split
  · exact .none
  · extract_lets m s x3
    have hs : Within L s t := State.setSpares_within (h (by decide))
    clear_value m s x3
    exact .some ((State.moveBand_within h).trans hs)

theorem State.fitMembers_within {b : ℕ} (h : [.atl, .svy] ⊆ L) :
    OptWithin L (fun u => u) (State.fitMembers t b) t := by
  unfold State.fitMembers
  extract_lets x
  clear_value x
  refine .foldl ?_ fun q b1 hq => ?_
  · exact .some .rfl
  · refine .bind (π := (fun u => u)) ?_ fun a ha => ?_
    · exact hq
    · exact (State.substitute_within h).trans ha

theorem State.freeUp_within {b : ℕ} (h : [.atl, .svy] ⊆ L) :
    Within L (State.freeUp t b) t := by
  unfold State.freeUp
  extract_lets x src y
  exact State.moveBand_within h

theorem State.startErase_within {b : ℕ} (h : retireBandParts ⊆ L) :
    Within L (State.startErase t b) t := by
  unfold State.startErase
  extract_lets x s?
  have hs : OptWithin L (fun u => u) s? t := .foldl (.some .rfl) fun q b hq =>
    .bind (π := fun u => u) hq fun u hu => (State.substitute_within (sub_of h rfl)).trans hu
  clear_value s? x
  split
  · exact State.retireBand_within (sub_of h rfl)
  next u =>
    have hu : Within L u t := hs u rfl
    extract_lets s1 y l s2 v s3
    have h1 : Within L s1 t := .ite hu ((State.owe_within (h (by decide))).trans hu)
    have h2 : Within L s2 t := (State.moveBand_within (sub_of h rfl)).trans h1
    have h3 : Within L s3 t := .step (h (by decide)) (.svy s2 _) h2
    exact .ite ((State.freeUp_within (sub_of h rfl)).trans h3)
      ((Within.foldl fun u sh => State.pushErase_within (h (by decide))).trans h3)

theorem State.erasesGone_within {p : ℕ → Bool} (h : [.atl, .svy] ⊆ L) :
    Within L (State.erasesGone t p) t := by
  unfold State.erasesGone
  refine Within.foldl fun u x => ?_
  extract_lets l src x1
  exact .ite .rfl (.ite ((State.freeUp_within h).trans (State.setBand_within (h (by decide)))) (State.setBand_within (h (by decide))))

theorem State.eraseReserve_within {g : ℕ} (h : retireBandParts ⊆ L) :
    Within L (State.eraseReserve t g) t := by
  unfold State.eraseReserve
  exact Within.foldl fun u x => .ite (State.startErase_within h) .rfl

theorem State.rebuildReserve_within {g : ℕ} (h : retireBandParts ⊆ L) :
    Within L (State.rebuildReserve t g) t := by
  unfold State.rebuildReserve
  extract_lets s
  have hs : Within L s t := Within.foldl fun u x => .ite (State.moveBand_within (sub_of h rfl)) .rfl
  exact (State.eraseReserve_within h).trans ((State.fillReserve_within (sub_of h rfl)).trans hs)

theorem State.rebuildReserves_within (h : retireBandParts ⊆ L) :
    Within L (State.rebuildReserves t) t := by
  unfold State.rebuildReserves
  exact Within.foldl fun u x => .ite (State.rebuildReserve_within h) .rfl

/-- What `State.layoutStep` may change. -/
def layoutStepParts : List Part :=
  retireBandParts ++ [.pwr, .par, .reg .PAR_EVENTS, .reg .PWR_EVENTS]

theorem State.layoutStep_within (h : layoutStepParts ⊆ L) :
    Within L (State.layoutStep t) t := by
  unfold State.layoutStep
  extract_lets was due sheets groups src s
  have hs : Within L s t := .step (h (by decide)) (.par t _) .rfl
  exact (State.recomputeBudget_within (sub_of h rfl)).trans ((State.rebuildReserves_within (sub_of h rfl)).trans (.ite ((State.event_within (h (by decide)) (sub_of h rfl)).trans hs) hs))

end

end Sys2Proof.Machine
end

section
/-! SUPPORT. What each function of the model may change, function by function (2 of 7): plans, fallbacks and admission. `X_within` says it
of the state that `X` answers with, `execX_runs` of the command, which also runs on. -/

namespace Sys2Proof.Machine

section
variable {L : List Part} {t : State}

theorem State.rebuildAfter_within {p : ℕ → Bool} {gone : ℕ} (h : closeShortParts ⊆ L) :
    Within L (State.rebuildAfter t p gone) t := by
  unfold State.rebuildAfter
  extract_lets s
  have hs : Within L s t := State.erasesGone_within (sub_of h rfl)
  clear_value s
  refine (Within.foldl fun u x => ?_).trans ?_
  · extract_lets s1 s2 src
    have hs1 : Within L s1 u := .ite (State.closeBand_within h) .rfl
    have hs2 : Within L s2 u := (State.event_within (h (by decide)) (sub_of h rfl)).trans hs1
    exact .ite ((State.queueRefresh_within (sub_of h rfl)).trans ((State.event_within (h (by decide)) (sub_of h rfl)).trans hs1)) (.ite (.step (h (by decide)) (.svy s2 _) hs2) hs1)
  · exact hs

theorem State.setIu_within {c : Cmd} {k : ℕ} {i : IuPlan} (h : .cmds ∈ L) :
    Within L (State.setIu t c k i) t := by
  unfold State.setIu
  exact State.mapCmd_within h

theorem State.takeReserve_within {a : List (ReadReq × Profile)} (h : unbookParts ⊆ L) :
    OptWithin L (fun p => p.1) (State.takeReserve t a) t := by
  induction a generalizing t with
  | nil =>
    rw [State.takeReserve]
    exact .some .rfl
  | cons a l ih =>
    rw [State.takeReserve]
    refine .bind_any fun a1 => ?_
    refine .bind (π := (fun p => p.1)) ?_ fun a2 ha2 => ?_
    · exact State.readOn_within h
    · refine .map (π := (fun p => p.1)) ?_ fun a3 ha3 => ?_
      · exact (ih).trans ha2
      · dsimp -zeta only
        exact ha3

theorem State.addBookings_within {c : Cmd} {bs : List Booking} (h : .cmds ∈ L) :
    Within L (State.addBookings t c bs) t := by
  unfold State.addBookings
  exact State.mapCmd_within h

/-- The state in which a fallback runs comes of `t` by updates of the parts in `L` alone. -/
def FallbackWithin (L : List Part) (f : Fallback) (t : State) : Prop := ∀ u, f = .runs u → Within L u t

theorem FallbackWithin.runs {u : State} (h : Within L u t) : FallbackWithin L (.runs u) t := fun _ e => Fallback.runs.inj e ▸ h

theorem FallbackWithin.noTime : FallbackWithin L .noTime t := fun _ e => nomatch e

theorem FallbackWithin.noReserve : FallbackWithin L .noReserve t := fun _ e => nomatch e

theorem FallbackWithin.ite {c : Prop} [Decidable c] {f g : Fallback} (hf : FallbackWithin L f t) (hg : FallbackWithin L g t) :
    FallbackWithin L (if c then f else g) t := by split <;> assumption

theorem FallbackWithin.trans {f : Fallback} {u : State} (hf : FallbackWithin L f u) (h : Within L u t) : FallbackWithin L f t :=
  fun v e => (hf v e).trans h

theorem State.onReserve_within {l : List (ReadReq × Profile)} {k : State × List Booking → Option State} (h : unbookParts ⊆ L)
    (hk : ∀ x, OptWithin L (fun u => u) (k x) x.1) : FallbackWithin L (State.onReserve t l k) t := by
  unfold State.onReserve
  split
  next u hu =>
    obtain ⟨x, hx, hkx⟩ := Option.bind_eq_some_iff.1 hu
    exact .runs (((hk x) u hkx).trans ((State.takeReserve_within h) x hx))
  · exact .ite .noTime .noReserve

/-- What a read of a fallback may change. -/
def fallbackParts : List Part := .cmds :: .lanes :: unbookParts

theorem State.contingFrom_within {c : Cmd} {k : ℕ} {i : IuPlan} (h : fallbackParts ⊆ L) :
    FallbackWithin L (State.contingFrom t c k i) t := by
  unfold State.contingFrom
  split
  · exact .noTime
  split
  · exact .noTime
  extract_lets u own tail latest
  split
  · exact .noTime
  refine .ite .noTime ?_
  extract_lets tile dec bs op
  split
  next v hv =>
    obtain ⟨x, hx, hv⟩ := Option.bind_eq_some_iff.1 hv
    have h1 : Within L x t := (State.bookAll_within (sub_of h rfl)) x hx
    have h2 : Within L v x := ((State.insertOp_within (h (by decide))).trans (.step (h (by decide)) (.plt x _) .rfl)) v hv
    exact .runs ((State.setIu_within (h (by decide))).trans ((State.addBookings_within (h (by decide))).trans (h2.trans h1)))
  · exact .noTime

/-- What `State.readLost` may change. -/
def readLostParts : List Part :=
  dropCmdParts ++ [.ctls, .cpls, .media]

theorem State.readLost_within {c : Cmd} (h : readLostParts ⊆ L) :
    Within L (State.readLost t c) t := by
  unfold State.readLost
  extract_lets s s1
  have hs : Within L s t := State.release_within (sub_of h rfl)
  have hs1 : Within L s1 t := (State.mapCmd_within (h (by decide))).trans hs
  exact (State.endCmd_within (sub_of h rfl)).trans hs1

theorem State.reconFrom_within {c : Cmd} {k : ℕ} {i : IuPlan} (h : fallbackParts ⊆ L) :
    FallbackWithin L (State.reconFrom t c k i) t := by
  unfold State.reconFrom
  extract_lets w surv u tail l worst par
  refine .ite .noTime (.ite .noTime (.ite .noTime (State.onReserve_within (sub_of h rfl) fun x => ?_)))
  exact .map (π := fun u => u) (State.bookAll_within (sub_of h rfl)) fun v hv =>
    (State.setIu_within (h (by decide))).trans ((State.addBookings_within (h (by decide))).trans
      ((State.withdraw_within (h (by decide))).trans hv))

theorem State.extraReads_within {c : Cmd} {k : ℕ} {i : IuPlan} {die n : ℕ} {ref : RefState} {dec : ℕ} (h : fallbackParts ⊆ L) :
    FallbackWithin L (State.extraReads t c k i die n ref dec) t := by
  unfold State.extraReads
  split
  · exact .noTime
  extract_lets x own tail r
  split
  · exact .noTime
  exact .ite .noTime (State.onReserve_within (sub_of h rfl) fun x =>
    .some ((State.setIu_within (h (by decide))).trans (State.addBookings_within (h (by decide)))))

theorem State.softFrom_within {c : Cmd} {k : ℕ} {i : IuPlan} {die : ℕ} (h : fallbackParts ⊆ L) :
    FallbackWithin L (State.softFrom t c k i die) t := by
  unfold State.softFrom
  split
  · exact .noTime
  · exact State.extraReads_within h

theorem State.ladderStep_within {c : Cmd} {k : ℕ} {i : IuPlan} {die step : ℕ} (h : fallbackParts ⊆ L) :
    FallbackWithin L (State.ladderStep t c k i die step) t := by
  unfold State.ladderStep
  split
  · exact .noTime
  · exact .ite .noTime (State.extraReads_within h)

theorem State.reread_within {c : Cmd} {k : ℕ} {i : IuPlan} {die : ℕ} (h : fallbackParts ⊆ L) :
    FallbackWithin L (State.reread t c k i die) t := by
  unfold State.reread
  split
  · exact .noTime
  · exact (State.extraReads_within h).trans (State.withdraw_within (h (by decide)))

/-- What `firstRun` answers as running is one of the fallbacks. -/
theorem firstRun_within {l : List Fallback} {e : Bool} {u : State} (hl : ∀ f ∈ l, FallbackWithin L f t) (hu : firstRun l e = .inl u) :
    Within L u t := by
  induction l generalizing e with
  | nil => exact nomatch hu
  | cons f l ih =>
    obtain ⟨hf, hrest⟩ := List.forall_mem_cons.1 hl
    cases f with
    | runs v => exact hf u (congrArg _ (Sum.inl.inj hu))
    | noReserve => exact ih hrest hu
    | noTime => exact ih hrest hu

theorem State.reserveOut_within {g : ℕ} {exhausted : Bool} (h : [.out, .gaz, .mgmt, .fns, .reg .PLT_EVENTS, .reg .PLT_RECON, .reg .CHR_ALERT_STATUS, .reg .GAZ_COUNTS] ⊆ L) :
    Within L (State.reserveOut t g exhausted) t := by
  unfold State.reserveOut
  exact .ite ((State.event_within (h (by decide)) (sub_of h rfl)).trans (State.bump_within (h (by decide)))) .rfl

theorem State.eraseAt_within {b : ℕ} {row : ℕ} {sh : ℕ} (h : [.out, .gaz, .mgmt, .fns, .svy, .reg .PAR_EVENTS, .reg .CHR_ALERT_STATUS, .reg .GAZ_COUNTS] ⊆ L) :
    Within L (State.eraseAt t b row sh) t := by
  unfold State.eraseAt
  extract_lets x m s
  have hs : Within L s t := State.setBand_within (h (by decide))
  exact .ite .rfl (.ite ((State.event_within (h (by decide)) (sub_of h rfl)).trans hs) hs)

/-- What `State.uncorrected` may change. -/
def uncorrectedParts : List Part :=
  [.out, .gaz, .mgmt, .fns, .media, .svy, .reg .PAR_EVENTS, .reg .LDP_EVENTS, .reg .LDP_CNT_UNCORR, .reg .CHR_ALERT_STATUS, .reg .GAZ_COUNTS]

theorem State.uncorrected_within {lane : ℕ} {g : PageRef} (h : uncorrectedParts ⊆ L) :
    Within L (State.uncorrected t lane g) t := by
  unfold State.uncorrected
  extract_lets q s s1
  have hs : Within L s t := (State.event_within (h (by decide)) (sub_of h rfl)).trans ((State.mediaCount_within (h (by decide))).trans ((State.bump_within (h (by decide))).trans (State.emit_within (sub_of h rfl))))
  have hs1 : Within L s1 t := (State.record_within (sub_of h rfl)).trans hs
  exact (State.eraseAt_within (sub_of h rfl)).trans hs1

/-- What `State.iuLost` may change. -/
def iuLostParts : List Part :=
  replanParts ++ [.svy, .reg .PAR_EVENTS]

theorem State.iuLost_within {c : Cmd} {i : IuPlan} {exhausted : Bool} (h : iuLostParts ⊆ L) :
    Within L (State.iuLost t c i exhausted) t := by
  unfold State.iuLost
  extract_lets s s1
  have hs : Within L s t := by
    unfold s
    split
    · exact State.uncorrected_within (sub_of h rfl)
    · exact .rfl
  have hs1 : Within L s1 t := (State.emit_within (sub_of h rfl)).trans ((State.emit_within (sub_of h rfl)).trans ((State.reserveOut_within (sub_of h rfl)).trans hs))
  clear_value s s1
  split
  · exact (State.readLost_within (sub_of h rfl)).trans hs1
  · exact hs1

theorem State.dropReads_within {c : Cmd} {i : IuPlan} {p : ℕ → Bool} (h : .plt ∈ L) :
    Within L (State.dropReads t c i p) t := by
  unfold State.dropReads
  extract_lets mine mark src
  exact .step h (.plt t _) .rfl

theorem State.replanIu_within {c : Cmd} {k : ℕ} {i : IuPlan} {p : ℕ → Bool} (h : iuLostParts ⊆ L) :
    Within L (State.replanIu t c k i p) t := by
  unfold State.replanIu
  extract_lets out s paths
  have hs : Within L s t := (State.dropReads_within (h (by decide))).trans (State.mapCmd_within (h (by decide)))
  have hpaths : ∀ f ∈ paths, FallbackWithin L f s := by
    intro f hf
    unfold paths at hf
    split at hf
    · obtain rfl | hf := List.mem_cons.1 hf
      · exact State.reconFrom_within (sub_of h rfl)
      · obtain ⟨m, -, rfl⟩ := List.mem_map.1 hf
        exact State.reread_within (sub_of h rfl)
    · generalize out = o at hf
      split at hf
      next m =>
        obtain rfl | hf := List.mem_cons.1 hf
        · exact State.contingFrom_within (sub_of h rfl)
        · obtain rfl := List.mem_singleton.1 hf
          exact State.reread_within (sub_of h rfl)
      · exact nomatch hf
  clear_value paths s
  refine .ite .rfl ?_
  split
  next u e => exact (firstRun_within hpaths e).trans hs
  · exact (State.iuLost_within (sub_of h rfl)).trans hs

theorem State.softReads_within {c : Cmd} {i : IuPlan} {die : ℕ} {free : Bool} (h : .plt ∈ L) :
    Within L (State.softReads t c i die free) t := by
  unfold State.softReads
  extract_lets mine q q1 l src
  exact .step h (.plt t _) .rfl

theorem State.orLost_within {c : Cmd} {lane : ℕ} {g : PageRef} {i : IuPlan} {l : List Fallback} (h : iuLostParts ⊆ L)
    (hl : ∀ f ∈ l, FallbackWithin L f t) : Within L (State.orLost t c lane g i l) t := by
  unfold State.orLost
  split
  next u e => exact firstRun_within hl e
  next x e => exact (State.iuLost_within (sub_of h rfl)).trans (.ite .rfl (State.uncorrected_within (sub_of h rfl)))

theorem State.detourNext_within {c : Cmd} {k : ℕ} {i : IuPlan} {lane : ℕ} {g : PageRef} (h : iuLostParts ⊆ L) :
    Within L (State.detourNext t c k i lane g) t := by
  unfold State.detourNext
  refine .ite (State.setIu_within (h (by decide))) (State.orLost_within (sub_of h rfl) ?_)
  refine List.forall_mem_cons.2 ⟨State.contingFrom_within (sub_of h rfl), ?_⟩
  intro f hf
  split at hf
  · exact nomatch hf
  · obtain ⟨m, -, rfl⟩ := List.mem_map.1 hf
    exact State.softFrom_within (sub_of h rfl)

theorem State.decodeFailed_within {c : Cmd} {k : ℕ} {i : IuPlan} {lane : ℕ} {mode : ℕ} {step : ℕ} {g : PageRef} (h : iuLostParts ⊆ L) :
    Within L (State.decodeFailed t c k i lane mode step g) t := by
  unfold State.decodeFailed
  extract_lets i1 src i2 s s1 src1
  have hs : Within L s t := State.softReads_within (h (by decide))
  have hs1 : Within L s1 t := State.withdraw_within (h (by decide))
  clear_value i1 i2 s s1
  refine .ite (.ite (.ite ?_ ?_) ?_) (.ite (State.detourNext_within (sub_of h rfl)) (State.detourNext_within (sub_of h rfl)))
  · exact (State.softReads_within (h (by decide))).trans (State.setIu_within (h (by decide)))
  · refine (State.orLost_within (sub_of h rfl) ?_).trans hs
    exact List.forall_mem_cons.2 ⟨State.softFrom_within (sub_of h rfl), List.forall_mem_cons.2 ⟨State.reconFrom_within (sub_of h rfl),
      List.forall_mem_cons.2 ⟨State.ladderStep_within (sub_of h rfl), List.forall_mem_nil _⟩⟩⟩
  · refine (State.orLost_within (sub_of h rfl) ?_).trans hs1
    exact List.forall_mem_cons.2 ⟨State.reconFrom_within (sub_of h rfl),
      List.forall_mem_cons.2 ⟨State.ladderStep_within (sub_of h rfl), List.forall_mem_nil _⟩⟩

theorem State.replanStarted_within {d : ℕ} (h : iuLostParts ⊆ L) :
    Within L (State.replanStarted t d) t := by
  unfold State.replanStarted
  extract_lets ops
  clear_value ops
  refine Within.foldl fun u x => ?_
  split
  · exact .rfl
  · split
    · exact .ite (State.replanIu_within h) .rfl
    · exact .rfl

theorem State.replanReads_within {p : ℕ → Bool} (h : iuLostParts ⊆ L) :
    Within L (State.replanReads t p) t := by
  unfold State.replanReads
  refine Within.foldl fun u x => ?_
  refine .ite ?_ ?_
  · exact .rfl
  · refine Within.foldl fun u1 x1 => ?_
    split
    · refine .ite ?_ ?_
      · exact .rfl
      · split
        · exact State.replanIu_within h
        · exact .rfl
    · exact .rfl

theorem State.setDram_within {n : ℕ} {x : Dram} (h : .dram ∈ L) :
    Within L (State.setDram t n x) t := by
  unfold State.setDram
  exact .step h (.dram t _) .rfl

theorem State.holdSlot_within {a : ℕ} (h : .atl ∈ L) :
    Within L (State.holdSlot t a) t := by
  unfold State.holdSlot
  split
  · exact State.setStage_within h
  · exact .rfl

theorem State.unholdSlot_within {a : ℕ} (h : [.pwr, .atl] ⊆ L) :
    Within L (State.unholdSlot t a) t := by
  unfold State.unholdSlot
  split
  · exact (State.freeSlot_within h).trans (State.setStage_within (h (by decide)))
  · exact .rfl

/-- What `State.closeAsm` may change. -/
def closeAsmParts : List Part :=
  [.out, .gaz, .mgmt, .pwr, .fns, .plt, .atl, .til, .reg .TIL_POOL_WM, .reg .CHR_ALERT_STATUS, .reg .GAZ_COUNTS]

theorem State.closeAsm_within {a : Assembly} {used : Bool} (h : closeAsmParts ⊆ L) :
    Within L (State.closeAsm t a used) t := by
  unfold State.closeAsm
  extract_lets s s1 s2 s3 src
  have hs : Within L s t := .ite (State.unholdSlot_within (sub_of h rfl)) .rfl
  have hs1 : Within L s1 t := by
    unfold s1
    split
    · exact (State.unpinBand_within (h (by decide))).trans hs
    · exact hs
  have hs2 : Within L s2 t := .ite ((State.unbook_within (sub_of h rfl)).trans hs1) ((State.dropRmw_within (sub_of h rfl)).trans hs1)
  have hs3 : Within L s3 t := (State.dropAsm_within (h (by decide))).trans hs2
  exact .step (h (by decide)) (.atl s3 _) hs3

theorem State.closeSlots_within {p : ℕ → Bool} (h : closeAsmParts ⊆ L) :
    Within L (State.closeSlots t p) t := by
  unfold State.closeSlots
  exact Within.foldl fun u x => State.closeAsm_within h

/-- What `State.poisonIu` may change. -/
def poisonIuParts : List Part :=
  putAllParts ++ [.til, .reg .TIL_POOL_WM]

theorem State.poisonIu_within {key : ℕ} {reason : ℕ} (h : poisonIuParts ⊆ L) :
    Within L (State.poisonIu t key reason) t := by
  unfold State.poisonIu
  extract_lets e
  exact (State.swapAll_within (sub_of h rfl)).trans ((State.setPoison_within (h (by decide))).trans (State.closeSlots_within (sub_of h rfl)))

theorem State.stagingLost_within {a : ℕ} (h : poisonIuParts ⊆ L) :
    Within L (State.stagingLost t a) t := by
  unfold State.stagingLost
  split
  · exact .rfl
  · extract_lets s
    have hs : Within L s t := .ite ((State.record_within (sub_of h rfl)).trans (State.poisonIu_within h)) .rfl
    clear_value s
    split
    · exact (State.freeSlot_within (sub_of h rfl)).trans ((State.setStage_within (h (by decide))).trans hs)
    · exact hs

theorem State.stripeLost_within {k : ℕ} (h : .plt ∈ L) :
    Within L (State.stripeLost t k) t := by
  unfold State.stripeLost
  extract_lets x l
  exact .ite .rfl (State.owe_within h)

theorem State.clearVfs_within {p : ℕ} (h : .fns ∈ L) :
    Within L (State.clearVfs t p) t := by
  unfold State.clearVfs
  extract_lets x s
  have hs : Within L s t := State.setFn_within h
  clear_value x s
  refine (Within.foldl fun u x1 => ?_).trans ?_
  · extract_lets f x2 src
    exact .ite (State.setFn_within h) .rfl
  · exact hs

theorem State.resetPort_within {p : ℕ} (h : resetFnParts ⊆ L) :
    Within L (State.resetPort t p) t := by
  unfold State.resetPort
  exact (State.clearVfs_within (h (by decide))).trans (State.resetFns_within h)

/-- What `State.linkDown` may change. -/
def linkDownParts : List Part :=
  resetFnParts ++ [.ports]

theorem State.linkDown_within {p : ℕ} (h : linkDownParts ⊆ L) :
    Within L (State.linkDown t p) t := by
  unfold State.linkDown
  extract_lets x
  exact (State.resetPort_within (sub_of h rfl)).trans (State.setPort_within (h (by decide)))

theorem State.moveFn_within {f : ℕ} {j : ℕ} (h : [.fns, .plt] ⊆ L) :
    Within L (State.moveFn t f j) t := by
  unfold State.moveFn
  extract_lets rest src src1 s src2
  have hs : Within L s t := State.setFn_within (h (by decide))
  clear_value rest src src1 s src2
  split
  · exact .step (h (by decide)) (.plt t _) .rfl
  · exact .step (h (by decide)) (.plt s _) hs

theorem State.moveFns_within {e : ℕ} {j : ℕ} (h : [.fns, .plt] ⊆ L) :
    Within L (State.moveFns t e j) t := by
  unfold State.moveFns
  exact Within.foldl fun u x => .ite (State.moveFn_within h) .rfl

theorem State.startRecovery_within {ks : List ℕ} (h : .atl ∈ L) :
    Within L (State.startRecovery t ks) t := by
  unfold State.startRecovery
  exact .step h (.atl t _) .rfl

theorem State.resteer_within {e : ℕ} (h : .reg .ATL_STEER ∈ L) :
    Within L (State.resteer t e) t := by
  unfold State.resteer
  split
  · exact .rfl
  · refine Within.foldl fun u x2 => ?_
    extract_lets w lo
    exact .ite (State.setReg_within (List.cons_subset.2 ⟨h, List.nil_subset _⟩)) .rfl

/-- What `State.fenceAtlas` may change. -/
def fenceAtlasParts : List Part :=
  [.out, .gaz, .mgmt, .fns, .atl, .reg .ATL_EVENTS, .reg .ATL_STEER, .reg .CHR_ALERT_STATUS, .reg .GAZ_COUNTS]

theorem State.fenceAtlas_within {e : ℕ} (h : fenceAtlasParts ⊆ L) :
    Within L (State.fenceAtlas t e) t := by
  unfold State.fenceAtlas
  extract_lets x ks s
  have hs : Within L s t := (Within.foldl fun u x => State.setDir_within (h (by decide))).trans (State.setAtlEng_within (h (by decide)))
  exact (State.event_within (h (by decide)) (sub_of h rfl)).trans ((State.resteer_within (h (by decide))).trans ((State.startRecovery_within (h (by decide))).trans hs))

/-- What `State.fenceDram` may change. -/
def fenceDramParts : List Part :=
  poisonIuParts ++ [.ctls, .cmds, .cpls, .dram, .reg .DRC_CH_EVENTS, .reg .PWR_EVENTS, .reg .HST_PROMISE_EVENTS]

theorem State.fenceDram_within {n : ℕ} (h : fenceDramParts ⊆ L) :
    Within L (State.fenceDram t n) t := by
  unfold State.fenceDram
  extract_lets x s before s1 s2 s3 s4 segs nss src src1 s5 s6 fs s7
  have hs : Within L s t := Within.foldl fun u x => State.emit_within (sub_of h rfl)
  have hs1 : Within L s1 t := (State.setDram_within (h (by decide))).trans hs
  have hs2 : Within L s2 t := (State.recomputeBudget_within (sub_of h rfl)).trans ((State.event_within (h (by decide)) (sub_of h rfl)).trans hs1)
  have hs3 : Within L s3 t := by
    unfold s3
    refine (Within.foldl fun u x1 => ?_).trans ?_
    · exact State.stagingLost_within (sub_of h rfl)
    · exact hs2
  have hs4 : Within L s4 t := by
    unfold s4
    refine (Within.foldl fun u x1 => ?_).trans ?_
    · exact State.stripeLost_within (h (by decide))
    · exact hs3
  have hsrc : Within L src t := (State.startRecovery_within (h (by decide))).trans hs4
  have hs5 : Within L s5 t := .step (h (by decide)) (.atl src _) hsrc
  have hs6 : Within L s6 t := .step (h (by decide)) (.cmds s5 _) hs5
  have hs7 : Within L s7 t := (Within.foldl fun u x => State.promise_within (h (by decide)) (sub_of h rfl)).trans hs6
  exact .ite hs5 ((State.suspRecord_within (sub_of h rfl)).trans hs7)

/-- What `State.fenceRegion` may change. -/
def fenceRegionParts : List Part :=
  [.out, .gaz, .mgmt, .fns, .atl, .dram, .reg .DRC_CH_EVENTS, .reg .CHR_ALERT_STATUS, .reg .GAZ_COUNTS]

theorem State.fenceRegion_within {ch : ℕ} {region : ℕ} (h : fenceRegionParts ⊆ L) :
    Within L (State.fenceRegion t ch region) t := by
  unfold State.fenceRegion
  extract_lets x s segs s1 src
  have hs : Within L s t := (State.event_within (h (by decide)) (sub_of h rfl)).trans (State.setDram_within (h (by decide)))
  have hs1 : Within L s1 t := (Within.foldl fun u x => State.setSeg_within (h (by decide))).trans ((State.startRecovery_within (h (by decide))).trans hs)
  exact .step (h (by decide)) (.atl s1 _) hs1

theorem State.opEnds_within {op : DieOp} (h : unbookParts ⊆ L) :
    Within L (State.opEnds t op) t := by
  unfold State.opEnds
  exact .ite (State.unbook_within h) .rfl

theorem State.dropRunning_within {d : ℕ} (h : unbookParts ⊆ L) :
    Within L (State.dropRunning t d) t := by
  unfold State.dropRunning
  extract_lets s src
  have hs : Within L s t := Within.foldl fun u x => State.opEnds_within h
  exact .step (h (by decide)) (.plt s _) hs

theorem State.setCtx_within {d : ℕ} {x : Ctx} (h : .trv ∈ L) :
    Within L (State.setCtx t d x) t := by
  unfold State.setCtx
  exact .step h (.trv t _) .rfl

theorem State.enterAt_within {d : ℕ} {a : ℕ} (h : [.out, .trv] ⊆ L) :
    Within L (State.enterAt t d a) t := by
  unfold State.enterAt
  exact (State.emit_within (sub_of h rfl)).trans (State.setCtx_within (h (by decide)))

theorem State.grantMover_within {c : ℕ} (h : .trv ∈ L) :
    Within L (State.grantMover t c) t := by
  unfold State.grantMover
  extract_lets src
  clear_value src
  refine .ite ?_ ?_
  · exact .rfl
  · split
    · exact .step h (.trv t _) .rfl
    · exact .rfl

theorem State.freeBus_within {d : ℕ} (h : .trv ∈ L) :
    Within L (State.freeBus t d) t := by
  unfold State.freeBus
  extract_lets h1 src
  exact .ite (.step h (.trv t _) .rfl) .rfl

theorem State.ceHigh_within {d : ℕ} (h : .trv ∈ L) :
    Within L (State.ceHigh t d) t := by
  unfold State.ceHigh
  exact .ite (.step h (.trv t _) .rfl) .rfl

/-- What `State.fenceDie` may change. -/
def fenceDieParts : List Part :=
  iuLostParts ++ [.par, .fch, .trv, .reg .SVY_MEDIA_EVENTS, .reg .PAR_JRNL_WM, .reg .PWR_EVENTS]

theorem State.fenceDie_within {d : ℕ} (h : fenceDieParts ⊆ L) :
    Within L (State.fenceDie t d) t := by
  unfold State.fenceDie
  extract_lets x s src s1 src1 c s2
  have hs : Within L s t := (State.dropRunning_within (sub_of h rfl)).trans (State.setDie_within (h (by decide)))
  have hs1 : Within L s1 t := .step (h (by decide)) (.plt s _) hs
  have hs2 : Within L s2 t := (State.grantMover_within (h (by decide))).trans ((State.enterAt_within (sub_of h rfl)).trans ((State.setCtx_within (h (by decide))).trans ((State.freeBus_within (h (by decide))).trans hs1)))
  exact .ite .rfl ((State.layoutStep_within (sub_of h rfl)).trans ((State.replanReads_within (sub_of h rfl)).trans ((State.rebuildAfter_within (sub_of h rfl)).trans hs2)))

/-- What `State.fenceChannel` may change. -/
def fenceChannelParts : List Part :=
  iuLostParts ++ [.par, .reg .SVY_MEDIA_EVENTS, .reg .PAR_JRNL_WM, .reg .PWR_EVENTS]

theorem State.fenceChannel_within {c : ℕ} (h : fenceChannelParts ⊆ L) :
    Within L (State.fenceChannel t c) t := by
  unfold State.fenceChannel
  exact (State.layoutStep_within (sub_of h rfl)).trans ((State.replanReads_within (sub_of h rfl)).trans (State.rebuildAfter_within (sub_of h rfl)))

theorem State.restamp_within {d : ℕ} {e : ℕ} (h : .par ∈ L) :
    Within L (State.restamp t d e) t := by
  unfold State.restamp
  extract_lets sh src
  exact .step h (.par t _) .rfl

theorem State.newEpoch_within {d : ℕ} (h : [.plt, .par] ⊆ L) :
    Within L (State.newEpoch t d) t := by
  unfold State.newEpoch
  extract_lets e s src
  have hs : Within L s t := State.restamp_within (h (by decide))
  exact .step (h (by decide)) (.plt s _) hs

theorem State.handBack_within {d : ℕ} (h : [.plt, .trv] ⊆ L) :
    Within L (State.handBack t d) t := by
  unfold State.handBack
  extract_lets x s again
  have hs : Within L s t := State.setCtx_within (h (by decide))
  have hagain : ∀ a0 a1, Within L (again a0 a1) a0 := by
    intro a0 a1
    unfold again
    extract_lets s1 src src1
    have hs1 : Within L s1 a0 := State.setClosed_within (h (by decide))
    exact .step (h (by decide)) (.plt s1 _) hs1
  clear_value x s again
  refine .ite ?_ ?_
  · exact hs
  · split
    · extract_lets s1 src src1
      have hs1 : Within L s1 t := (hagain _ _).trans hs
      exact .ite ((State.setCtx_within (h (by decide))).trans (.step (h (by decide)) (.plt s1 _) hs1)) hs
    · split
      · extract_lets s1 src src1
        have hs1 : Within L s1 t := (hagain _ _).trans hs
        exact .ite ((State.setCtx_within (h (by decide))).trans (.step (h (by decide)) (.plt s1 _) hs1)) hs
      · exact hs

theorem State.bindDie_within {d : ℕ} {e : ℕ} (h : .plt ∈ L) :
    Within L (State.bindDie t d e) t := by
  unfold State.bindDie
  exact .step h (.plt t _) .rfl

theorem State.deferMove_within {d : ℕ} {e : ℕ} {old : ℕ} (h : .plt ∈ L) :
    Within L (State.deferMove t d e old) t := by
  unfold State.deferMove
  exact .step h (.plt t _) .rfl

/-- What `State.takeDie` may change. -/
def takeDieParts : List Part :=
  iuLostParts ++ [.par, .trv]

theorem State.takeDie_within {d : ℕ} {e : ℕ} (h : takeDieParts ⊆ L) :
    Within L (State.takeDie t d e) t := by
  unfold State.takeDie
  extract_lets s s1 s2 x keep save x1
  have hs : Within L s t := (State.emit_within (sub_of h rfl)).trans ((State.ceHigh_within (h (by decide))).trans (State.freeBus_within (h (by decide))))
  have hs1 : Within L s1 t := (State.grantMover_within (h (by decide))).trans ((State.bindDie_within (h (by decide))).trans ((State.handBack_within (sub_of h rfl)).trans ((State.newEpoch_within (sub_of h rfl)).trans hs)))
  have hs2 : Within L s2 t := .ite ((State.replanStarted_within (sub_of h rfl)).trans hs1) hs1
  clear_value s s1 s2 x keep save x1
  split
  · exact (State.deferMove_within (h (by decide))).trans hs
  · exact (State.enterAt_within (sub_of h rfl)).trans ((State.setCtx_within (h (by decide))).trans hs2)

theorem State.releaseTo_within {d : ℕ} {e : ℕ} (h : [.out, .plt, .trv] ⊆ L) :
    Within L (State.releaseTo t d e) t := by
  unfold State.releaseTo
  extract_lets x s s1 y s2
  have hs : Within L s t := (State.emit_within (sub_of h rfl)).trans (State.setCtx_within (h (by decide)))
  have hs1 : Within L s1 t := (State.freeBus_within (h (by decide))).trans ((State.handBack_within (sub_of h rfl)).trans hs)
  have hs2 : Within L s2 t := .ite ((State.setCtx_within (h (by decide))).trans hs1) hs1
  exact (State.emit_within (sub_of h rfl)).trans ((State.grantMover_within (h (by decide))).trans ((State.bindDie_within (h (by decide))).trans hs2))

theorem State.askRelease_within {d : ℕ} {e : ℕ} (h : [.out, .plt, .trv] ⊆ L) :
    Within L (State.askRelease t d e) t := by
  unfold State.askRelease
  extract_lets x src
  exact .ite .rfl (.ite (State.releaseTo_within h) (State.setCtx_within (h (by decide))))

theorem State.orderlyMove_within {d : ℕ} {e : ℕ} (h : [.out, .plt, .par, .trv] ⊆ L) :
    Within L (State.orderlyMove t d e) t := by
  unfold State.orderlyMove
  extract_lets x
  clear_value x
  refine .ite ?_ ?_
  · exact .rfl
  · refine .ite ?_ ?_
    · exact State.setCtx_within (h (by decide))
    · refine .ite ?_ ?_
      · exact .rfl
      · split
        · exact State.deferMove_within (h (by decide))
        · exact (State.askRelease_within (sub_of h rfl)).trans (State.newEpoch_within (sub_of h rfl))

theorem State.moveDies_within {i : ℕ} {fenced : Bool} (h : takeDieParts ⊆ L) :
    Within L (State.moveDies t i fenced).1 t := by
  unfold State.moveDies
  extract_lets c
  clear_value c
  refine (Within.foldl_fst fun u x => ?_).trans ?_
  · extract_lets d s
    have hs : Within L s (u.1) := .rfl
    clear_value d s
    split
    · split
      · dsimp -zeta only
        exact .ite ((State.takeDie_within h).trans hs) ((State.orderlyMove_within (sub_of h rfl)).trans hs)
      · dsimp -zeta only
        exact hs
    · exact .rfl
  · dsimp -zeta only
    exact .rfl

/-- What `State.fenceLeft` may change. -/
def fenceLeftParts : List Part :=
  fenceDieParts ++ [.flt]

theorem State.fenceLeft_within {ds : List ℕ} (h : fenceLeftParts ⊆ L) :
    Within L (State.fenceLeft t ds) t := by
  unfold State.fenceLeft
  refine Within.foldl fun u x => ?_
  extract_lets u1 s
  have hs : Within L s u := State.setUnit_within (h (by decide))
  exact (State.fenceDie_within (sub_of h rfl)).trans ((State.record_within (sub_of h rfl)).trans hs)

theorem State.retryMoves_within (h : takeDieParts ⊆ L) :
    Within L (State.retryMoves t) t := by
  unfold State.retryMoves
  extract_lets s
  have hs : Within L s t := by
    unfold s
    refine Within.foldl fun u x => ?_
    extract_lets src s1
    have hs1 : Within L s1 u := .step (h (by decide)) (.plt u _) .rfl
    exact .ite .rfl (.ite ((State.takeDie_within h).trans hs1) ((State.orderlyMove_within (sub_of h rfl)).trans hs1))
  exact (Within.foldl fun u x => .ite .rfl (State.moveFn_within (sub_of h rfl))).trans hs

theorem State.jobEnds_within {j : LdpJob} (h : unbookParts ⊆ L) :
    Within L (State.jobEnds t j) t := by
  unfold State.jobEnds
  exact .ite (State.unbook_within h) .rfl

theorem State.restartJob_within {lane : ℕ} {to_ : Option ℕ} {j : LdpJob} (h : iuLostParts ⊆ L) :
    Within L (State.restartJob t lane to_ j) t := by
  unfold State.restartJob
  extract_lets on
  have hon : ∀ a0, Within L (on a0) a0 := by
    intro a0
    unfold on
    split
    · exact State.setLane_within (h (by decide))
    · exact State.jobEnds_within (sub_of h rfl)
  clear_value on
  split
  · exact hon _
  · extract_lets tail
    exact .ite (hon _) (State.decodeFailed_within h)

theorem State.fenceLane_within {l : ℕ} (h : iuLostParts ⊆ L) :
    Within L (State.fenceLane t l) t := by
  unfold State.fenceLane
  extract_lets s b x other s1 src s2 y s3
  have hs : Within L s t := State.event_within (h (by decide)) (sub_of h rfl)
  have hs1 : Within L s1 t := by
    unfold s1
    refine (Within.foldl fun u x1 => ?_).trans ?_
    · refine OptWithin.getD ?_ ?_
      · exact State.reserveOn_within (h (by decide))
      · exact .rfl
    · exact (State.setLane_within (h (by decide))).trans hs
  have hs2 : Within L s2 t := .ite ((State.setLane_within (h (by decide))).trans hs1) hs1
  have hs3 : Within L s3 t := (State.setLane_within (h (by decide))).trans hs2
  exact (Within.foldl fun u x => State.restartJob_within h).trans hs3

theorem State.toBay_within {b : ℕ} {st : BayState} (h : bayParts ⊆ L) :
    Within L (State.toBay t b st) t := by
  unfold State.toBay
  extract_lets s
  have hs : Within L s t := .ite .rfl (Within.foldl fun u x => State.setChan_within (h (by decide)))
  exact (State.moveBay_within (sub_of h rfl)).trans hs

theorem State.membersGone_within {b : ℕ} (h : .svy ∈ L) :
    Within L (State.membersGone t b) t := by
  unfold State.membersGone
  exact .step h (.svy t _) .rfl

/-- What `State.sheetGone` may change. -/
def sheetGoneParts : List Part :=
  fenceChannelParts ++ [.classes, .reg .PLT_FLOOR_RD, .reg .PLT_FLOOR_WR, .reg .HST_PROMISE_EVENTS]

theorem State.sheetGone_within {b : ℕ} (h : sheetGoneParts ⊆ L) :
    Within L (State.sheetGone t b) t := by
  unfold State.sheetGone
  extract_lets was src s
  have hs : Within L s t := .step (h (by decide)) (.par t _) .rfl
  exact .ite hs ((State.recheck_within (sub_of h rfl)).trans ((State.layoutStep_within (sub_of h rfl)).trans ((State.replanReads_within (sub_of h rfl)).trans ((State.rebuildAfter_within (sub_of h rfl)).trans hs))))

/-- What `State.fenceBay` may change. -/
def fenceBayParts : List Part :=
  sheetGoneParts ++ [.fch, .bays, .reg .SHB_IND]

theorem State.fenceBay_within {b : ℕ} (h : fenceBayParts ⊆ L) :
    Within L (State.fenceBay t b) t := by
  unfold State.fenceBay
  extract_lets s src s1 src1 s2 s3 src2
  have hs : Within L s t := .ite .rfl (State.toBay_within (sub_of h rfl))
  have hs1 : Within L s1 t := .ite (.step (h (by decide)) (.par s _) hs) hs
  have hs2 : Within L s2 t := .step (h (by decide)) (.fch s1 _) hs1
  have hs3 : Within L s3 t := (State.sheetGone_within (sub_of h rfl)).trans ((State.membersGone_within (h (by decide))).trans hs2)
  exact .step (h (by decide)) (.par s3 _) hs3

theorem State.unisolate_within {block : ℕ} {inst : ℕ} (h : [.flt, .lanes] ⊆ L) :
    Within L (State.unisolate t block inst) t := by
  unfold State.unisolate
  extract_lets u s src
  have hs : Within L s t := State.setUnit_within (h (by decide))
  exact .ite ((State.setLane_within (h (by decide))).trans hs) hs

theorem State.returnHome_within {block : ℕ} {inst : ℕ} (h : [.out, .fns, .plt, .par, .trv] ⊆ L) :
    Within L (State.returnHome t block inst) t := by
  unfold State.returnHome
  split
  · exact .ite (State.moveFn_within (sub_of h rfl)) .rfl
  · refine Within.foldl fun u x1 => ?_
    extract_lets d
    exact .ite (State.orderlyMove_within (sub_of h rfl)) .rfl
  · exact .rfl

theorem State.lastTest_within {t1 : Test} {verdict : ℕ} {sig : ℕ} (h : [.reg .SRV_LAST_UNIT, .reg .SRV_LAST_SIG_LO, .reg .SRV_LAST_SIG_HI] ⊆ L) :
    Within L (State.lastTest t t1 verdict sig) t := by
  unfold State.lastTest
  extract_lets s
  have hs : Within L s t := (State.setFld_within (h (by decide))).trans ((State.setFld_within (h (by decide))).trans ((State.setFld_within (h (by decide))).trans (State.setFld_within (h (by decide)))))
  exact .ite hs ((State.setReg_within (sub_of h rfl)).trans ((State.setReg_within (sub_of h rfl)).trans hs))

/-- What `State.abortTest` may change. -/
def abortTestParts : List Part :=
  [.out, .flt, .gaz, .mgmt, .fns, .mbx, .ops, .plt, .par, .trv, .lanes, .srv, .reg .CHR_ALERT_STATUS, .reg .GAZ_COUNTS, .reg .SRV_EVENTS, .reg .SRV_LAST_UNIT, .reg .SRV_LAST_SIG_LO, .reg .SRV_LAST_SIG_HI, .reg .MBX_EVENTS]

theorem State.abortTest_within {t1 : Test} {result : ℕ} (h : abortTestParts ⊆ L) :
    Within L (State.abortTest t t1 result) t := by
  unfold State.abortTest
  extract_lets src s s1
  have hs : Within L s t := .step (h (by decide)) (.srv t _) .rfl
  have hs1 : Within L s1 t := (State.returnHome_within (sub_of h rfl)).trans ((State.unisolate_within (sub_of h rfl)).trans hs)
  exact (State.opDone_within (sub_of h rfl)).trans ((State.event_within (h (by decide)) (sub_of h rfl)).trans ((State.lastTest_within (sub_of h rfl)).trans hs1))

theorem State.abortTests_within {p : State → Test → Bool} {result : ℕ} (h : abortTestParts ⊆ L) :
    Within L (State.abortTests t p result) t := by
  unfold State.abortTests
  exact Within.foldl fun u x => .ite (State.abortTest_within h) .rfl

theorem State.abortStranded_within {block : ℕ} (h : abortTestParts ⊆ L) :
    Within L (State.abortStranded t block) t := by
  unfold State.abortStranded
  exact State.abortTests_within h

/-- What `State.fenceSub` may change. -/
def fenceSubParts : List Part :=
  fenceDieParts ++ [.dram, .cip, .reg .DRC_CH_EVENTS, .reg .LEG_EVENTS]

theorem State.fenceSub_within {r : FaultReport} (h : fenceSubParts ⊆ L) :
    Within L (State.fenceSub t r) t := by
  unfold State.fenceSub
  extract_lets k src
  exact .ite (State.fenceDie_within (sub_of h rfl)) (.ite (State.fenceRegion_within (sub_of h rfl)) ((State.event_within (h (by decide)) (sub_of h rfl)).trans (.step (h (by decide)) (.cip t _) .rfl)))

/-- What `State.fenceEffect` may change. -/
def fenceEffectParts : List Part :=
  fenceBayParts ++ linkDownParts ++ [.flt, .trv, .dram, .cip, .reg .ATL_EVENTS, .reg .ATL_JRNL_WM, .reg .ATL_STEER, .reg .DRC_CH_EVENTS, .reg .CIP_EVENTS]

theorem State.fenceEffect_within {b : ℕ} {i : ℕ} (h : fenceEffectParts ⊆ L) :
    Within L (State.fenceEffect t b i) t := by
  unfold State.fenceEffect
  extract_lets s n src r s1 u s2
  have hs : Within L s t := State.event_within (h (by decide)) (sub_of h rfl)
  have hr : Within L r.1 t := State.moveDies_within (sub_of h rfl)
  have hs1 : Within L s1 t := State.fenceLane_within (sub_of h rfl)
  have hs2 : Within L s2 t := (State.setUnit_within (h (by decide))).trans hs1
  clear_value s n src r s1 u s2
  split
  · exact State.linkDown_within (sub_of h rfl)
  · split
    · exact State.moveFns_within (sub_of h rfl)
    · exact (State.linkDown_within (sub_of h rfl)).trans (State.markFenced_within (h (by decide)))
  · exact State.fenceAtlas_within (sub_of h rfl)
  · exact State.fenceDram_within (sub_of h rfl)
  · split
    · extract_lets js
      exact .step (h (by decide)) (.cip s _) hs
    · exact hs
  · exact State.fenceChannel_within (sub_of h rfl)
  · exact .ite .rfl ((State.fenceChannel_within (sub_of h rfl)).trans (State.markFenced_within (h (by decide))))
  · exact (State.fenceLeft_within (sub_of h rfl)).trans hr
  · exact .ite ((State.fenceChannel_within (sub_of h rfl)).trans ((State.markFenced_within (h (by decide))).trans ((State.record_within (sub_of h rfl)).trans hs2))) hs1
  · exact State.fenceBay_within (sub_of h rfl)
  · exact .rfl

theorem State.unitFault_within {r : FaultReport} (h : faultParts ⊆ L) :
    Within L (State.unitFault t r) t := by
  unfold State.unitFault
  exact .ite ((State.fenceSub_within (sub_of h rfl)).trans (State.unitNotice_within (sub_of h rfl))) (.ite (State.deviceFault_within (sub_of h rfl)) ((State.abortStranded_within (sub_of h rfl)).trans ((State.fenceEffect_within (sub_of h rfl)).trans ((State.markFenced_within (h (by decide))).trans (State.unitNotice_within (sub_of h rfl))))))

theorem State.raise_within {r : FaultReport} (h : faultParts ⊆ L) :
    Within L (State.raise t r) t := by
  unfold State.raise
  extract_lets u c
  clear_value u c
  refine .ite ?_ ?_
  · exact .rfl
  · refine .ite ?_ ?_
    · exact .rfl
    · split
      · exact State.partnerError_within (sub_of h rfl)
      · refine .ite ?_ ?_
        · exact State.fencedFault_within (sub_of h rfl)
        · split
          · exact State.correctedFault_within (sub_of h rfl)
          · exact State.containedFault_within (sub_of h rfl)
          · exact State.unitFault_within h
          · exact State.deviceFault_within (sub_of h rfl)
          · exact .rfl

theorem State.raiseAt_within {block : ℕ} {inst : ℕ} {cause : ℕ} {sub : ℕ} (h : faultParts ⊆ L) :
    Within L (State.raiseAt t block inst cause sub) t := by
  unfold State.raiseAt
  exact State.raise_within h

theorem State.segBad_within {engine seg : ℕ} {f : Fld} (hf : .reg f.reg ∈ L) (h : faultParts ⊆ L) :
    Within L (State.segBad t engine seg f) t := by
  unfold State.segBad
  exact (State.raiseAt_within (sub_of h rfl)).trans ((State.startRecovery_within (h (by decide))).trans (State.event_within hf (sub_of h rfl)))

theorem State.spendHk_within {c : ℕ} (h : .plt ∈ L) :
    Within L (State.spendHk t c) t := by
  unfold State.spendHk
  exact .step h (.plt t _) .rfl

theorem State.queueJob_within (h : .cip ∈ L) :
    Within L (State.queueJob t) t := by
  unfold State.queueJob
  extract_lets src
  clear_value src
  split
  · exact .step h (.cip t _) .rfl
  · exact .rfl

theorem State.reseal_within {key : ℕ} {old : ℕ} {new : ℕ} {rekey : Bool} (h : [.out, .cip] ⊆ L) :
    Within L (State.reseal t key old new rekey) t := by
  unfold State.reseal
  split
  · exact .ite ((State.emit_within (sub_of h rfl)).trans ((State.queueJob_within (h (by decide))).trans (State.queueJob_within (h (by decide))))) (.ite ((State.emit_within (sub_of h rfl)).trans ((State.queueJob_within (h (by decide))).trans (State.queueJob_within (h (by decide))))) .rfl)
  · exact .rfl

theorem resOf_runs :
    Runs L t (resOf t) := by
  unfold resOf
  exact .next .rfl

theorem State.startLong_within {q : MbxReq} {opcode : ℕ} {rest : List ℕ} (h : [.out, .mgmt, .fns, .mbx, .ops, .nextHandle, .reg .CHR_ALERT_STATUS, .reg .MBX_EVENTS] ⊆ L) :
    Within L (State.startLong t q opcode rest).2 t := by
  unfold State.startLong
  extract_lets r
  have hr : Within L r.2 t := State.newHandle_within (sub_of h rfl)
  exact (State.respond_within (sub_of h rfl)).trans hr

/-- What `State.toModeChecked` may change. -/
def toModeCheckedParts : List Part :=
  recheckParts ++ [.pwr, .reg .PWR_EVENTS]

theorem State.toModeChecked_within {m : Mode} (h : toModeCheckedParts ⊆ L) :
    Within L (State.toModeChecked t m) t := by
  unfold State.toModeChecked
  extract_lets t1
  have ht1 : Within L t1 t := State.toMode_within (h (by decide)) (h (by decide)) (sub_of h rfl)
  exact .ite ((State.recheck_within (sub_of h rfl)).trans ht1) ht1

theorem State.dramRest_within {on : Bool} (h : .dram ∈ L) :
    Within L (State.dramRest t on) t := by
  unfold State.dramRest
  exact .step h (.dram t _) .rfl

/-- What `State.toService` may change. -/
def toServiceParts : List Part :=
  toModeCheckedParts ++ [.dram]

theorem State.toService_within (h : toServiceParts ⊆ L) :
    Within L (State.toService t) t := by
  unfold State.toService
  extract_lets s t1 src
  have hs : Within L s t := .ite (State.dramRest_within (h (by decide))) .rfl
  have ht1 : Within L t1 t := (State.toModeChecked_within (sub_of h rfl)).trans hs
  clear_value s t1 src
  split
  · exact .step (h (by decide)) (.pwr t1 _) ht1
  · exact hs

theorem State.arm_within {block : ℕ} {inst : ℕ} {k : ℕ} {single : Bool} {n : ℕ} (h : .flt ∈ L) :
    Within L (State.arm t block inst k single n) t := by
  unfold State.arm
  extract_lets u
  exact State.setUnit_within h

theorem State.spend_within {block : ℕ} {inst : ℕ} {k : ℕ} (h : .flt ∈ L) :
    Within L (State.spend t block inst k) t := by
  unfold State.spend
  extract_lets u
  exact .ite .rfl (State.setUnit_within h)

theorem State.spendFor_within {block : ℕ} {inst : ℕ} {cause : ℕ} (h : .flt ∈ L) :
    Within L (State.spendFor t block inst cause) t := by
  unfold State.spendFor
  extract_lets c u
  exact State.setUnit_within h

/-- What `State.isolate` may change. -/
def isolateParts : List Part :=
  fenceLeftParts ++ [.reg .ATL_STEER]

theorem State.isolate_within {block : ℕ} {inst : ℕ} (h : isolateParts ⊆ L) :
    Within L (State.isolate t block inst) t := by
  unfold State.isolate
  extract_lets u s r
  have hs : Within L s t := State.setUnit_within (h (by decide))
  have hr : Within L r.1 t := (State.moveDies_within (sub_of h rfl)).trans hs
  clear_value u s r
  split
  · split
    · exact (State.moveFns_within (sub_of h rfl)).trans hs
    · exact hs
  · exact (State.resteer_within (h (by decide))).trans hs
  · exact (State.fenceLeft_within (sub_of h rfl)).trans hr
  · exact (State.fenceLane_within (sub_of h rfl)).trans hs
  · exact hs

/-- What `State.startTests` may change. -/
def startTestsParts : List Part :=
  isolateParts ++ [.srv, .reg .SRV_EVENTS]

theorem State.startTests_within {a : ℕ} (h : startTestsParts ⊆ L) :
    Within L (State.startTests t a) t := by
  induction a generalizing t with
  | zero =>
    exact .rfl
  | succ n ih =>
    rw [State.startTests]
    extract_lets src
    clear_value src
    split
    · exact .rfl
    · rename_i x x1 x2 e
      extract_lets s s1 s2 s3
      have hs : Within L s t := .step (h (by decide)) (.srv t _) .rfl
      have hs1 : Within L s1 t := .ite hs ((State.isolate_within (sub_of h rfl)).trans hs)
      have hs2 : Within L s2 t := .ite ((Within.foldl fun u x => State.addClosed_within (h (by decide))).trans hs1) hs1
      have hs3 : Within L s3 t := by
        unfold s3
        split
        · exact .ite hs2 ((State.spendHk_within (h (by decide))).trans hs2)
        · exact hs2
      exact .ite .rfl ((ih).trans (.ite ((State.event_within (h (by decide)) (sub_of h rfl)).trans hs3) hs3))

theorem State.startQueued_within (h : startTestsParts ⊆ L) :
    Within L (State.startQueued t) t := by
  unfold State.startQueued
  exact State.startTests_within h

theorem State.enter_within {c : Cmd} {bad : Option ℕ} (h : [.ctls, .cmds, .cpls, .media] ⊆ L) :
    Within L (State.enter t c bad) t := by
  unfold State.enter
  extract_lets c1 s
  have hs : Within L s t := .step (h (by decide)) (.cmds t _) .rfl
  clear_value c1 s
  split
  · exact (State.endCmd_within h).trans hs
  · exact hs

theorem State.arrive_within {e : IoEntry} {op : ℕ} {dealloc : Bool} {ranges : List (ℕ × ℕ)} (h : [.ctls, .sqs, .cmds, .cpls, .media] ⊆ L) :
    Within L (State.arrive t e op dealloc ranges) t := by
  unfold State.arrive
  split
  · exact .rfl
  · extract_lets x2 s c
    have hs : Within L s t := State.setSq_within (h (by decide))
    exact (State.enter_within (sub_of h rfl)).trans hs

theorem State.emitZeroPi_within {c : Cmd} (h : .out ∈ L) :
    Within L (State.emitZeroPi t c) t := by
  unfold State.emitZeroPi
  exact Within.foldl fun u x => State.emit_within (List.cons_subset.2 ⟨h, List.nil_subset _⟩)

theorem State.readDone_within {c : Cmd} (h : [.out, .ctls, .cmds, .cpls, .media] ⊆ L) :
    Within L (State.readDone t c) t := by
  unfold State.readDone
  extract_lets s s1
  have hs : Within L s t := .ite ((State.mediaCount_within (h (by decide))).trans (.ite ((State.emit_within (sub_of h rfl)).trans (State.emitZeroPi_within (h (by decide)))) (State.emitZeroPi_within (h (by decide))))) .rfl
  have hs1 : Within L s1 t := (State.mediaCount_within (h (by decide))).trans hs
  exact .ite ((State.endCmd_within (sub_of h rfl)).trans hs1) .rfl

theorem State.dataError_within {c : Cmd} (h : readLostParts ⊆ L) :
    Within L (State.dataError t c) t := by
  unfold State.dataError
  extract_lets s s1
  have hs : Within L s t := State.release_within (sub_of h rfl)
  have hs1 : Within L s1 t := (State.mapCmd_within (h (by decide))).trans hs
  exact (State.endCmd_within (sub_of h rfl)).trans hs1

theorem State.refuseCmd_within {c : Cmd} {earliest : ℕ} {atLimit : Bool} (h : [.ctls, .cmds, .cpls, .stats, .media] ⊆ L) :
    Within L (State.refuseCmd t c earliest atLimit) t := by
  unfold State.refuseCmd
  extract_lets s s1 s2
  have hs : Within L s t := State.stat_within (h (by decide))
  have hs1 : Within L s1 t := .ite ((State.stat_within (h (by decide))).trans hs) hs
  have hs2 : Within L s2 t := (State.mapCmd_within (h (by decide))).trans hs1
  exact (State.endCmd_within (sub_of h rfl)).trans hs2

theorem State.wakeWaiters_within (h : [.ctls, .cmds, .cpls, .media] ⊆ L) :
    Within L (State.wakeWaiters t) t := by
  unfold State.wakeWaiters
  refine Within.foldl fun u x => ?_
  extract_lets left s
  have hs : Within L s u := State.mapCmd_within (h (by decide))
  exact .ite (.ite ((State.endCmd_within h).trans hs) hs) .rfl

theorem State.segsBack_within (h : [.ctls, .cmds, .cpls, .media] ⊆ L) :
    Within L (State.segsBack t) t := by
  unfold State.segsBack
  refine Within.foldl fun u x => ?_
  extract_lets left s
  have hs : Within L s u := State.mapCmd_within (h (by decide))
  exact .ite (.ite ((State.endCmd_within h).trans hs) hs) .rfl

theorem State.programPassed_within {a : ℕ} (h : .cmds ∈ L) :
    Within L (State.programPassed t a) t := by
  unfold State.programPassed
  exact .step h (.cmds t _) .rfl

theorem State.fuaDone_within {before : List Cmd} (h : [.ctls, .cmds, .cpls, .media] ⊆ L) :
    Within L (State.fuaDone t before) t := by
  unfold State.fuaDone
  refine Within.foldl fun u x => ?_
  split
  · exact .ite (State.endCmd_within h) .rfl
  · exact .rfl

theorem State.bookHost_within {c : Cmd} {len : ℕ} {d : ℕ} (h : unbookParts ⊆ L) :
    OptWithin L (fun p => p.2.1) (State.bookHost t c len d) t := by
  unfold State.bookHost
  refine .ite ?_ ?_
  · exact .some .rfl
  · refine .findSome fun a => ?_
    extract_lets d' bs
    clear_value d' bs
    refine .map (π := (fun u => u)) ?_ fun a1 ha1 => ?_
    · exact State.bookAll_within h
    · dsimp -zeta only
      exact ha1

/-- The state of an acceptance comes of `t` by updates of the parts in `L` alone. -/
def VerdictWithin (L : List Part) (v : Verdict) (t : State) : Prop := ∀ c u, v = .accept c u → Within L u t

theorem VerdictWithin.accept {c : Cmd} {u : State} (h : Within L u t) : VerdictWithin L (.accept c u) t :=
  fun _ _ e => (Verdict.accept.inj e).2 ▸ h

theorem VerdictWithin.refuse {k : ℕ} : VerdictWithin L (.refuse k) t := fun _ _ e => nomatch e

theorem VerdictWithin.await : VerdictWithin L .await t := fun _ _ e => nomatch e

theorem VerdictWithin.ite {p : Prop} [Decidable p] {v w : Verdict} (hv : VerdictWithin L v t) (hw : VerdictWithin L w t) :
    VerdictWithin L (if p then v else w) t := by split <;> assumption

theorem State.admitPlanned_within {c : Cmd} {limit : Option ℕ} {slots : List ℕ} {a : PlanAcc} (h : .atl :: unbookParts ⊆ L)
    (ha : Within L a.st t) : VerdictWithin L (State.admitPlanned t c limit slots a) t := by
  obtain ⟨hatl, hb⟩ := List.cons_subset.1 h
  unfold State.admitPlanned
  extract_lets host tiles at_
  split
  · exact .refuse
  next late u hosted e =>
    obtain ⟨v, hv, hu⟩ := Option.bind_eq_some_iff.1 e
    have h1 : Within L v t := ((State.book1_within hb) v hv).trans ha
    have h2 : Within L u t := ((State.bookHost_within hb) _ hu).trans h1
    exact .ite .refuse (.accept (.step hatl (.atl _ _) ((Within.foldl fun u x => State.pinBand_within hatl).trans h2)))

/-- What the admission of a read may change. -/
def admitReadParts : List Part := .atl :: .lanes :: unbookParts

theorem State.admitRead_within {n : Ns} {c : Cmd} {limit : Option ℕ} {best : Bool} (h : admitReadParts ⊆ L) :
    VerdictWithin L (State.admitRead t n c limit best) t := by
  unfold State.admitRead
  extract_lets c1 src host el slots flash base r
  refine .ite (.accept .rfl) ?_
  split
  · exact .refuse
  next a ha => exact State.admitPlanned_within (sub_of h rfl) ((planIus_within (sub_of h rfl) .rfl) a ha)

/-- What `State.bookRmw` may change. -/
def bookRmwParts : List Part :=
  [.out, .gaz, .mgmt, .pwr, .fns, .plt, .lanes, .til, .reg .TIL_POOL_WM, .reg .CHR_ALERT_STATUS, .reg .GAZ_COUNTS]

theorem State.bookRmw_within {n : Ns} {c : Cmd} {parts : List (ℕ × ℕ × Bool)} (h : bookRmwParts ⊆ L) :
    OptWithin L (fun p => p.1) (State.bookRmw t n c parts) t := by
  unfold State.bookRmw
  extract_lets lag flash r
  exact .map (π := PlanAcc.st) (planIus_within (sub_of h rfl) .rfl) fun a ha => ha

theorem State.bookProgram_within {g : ℕ} {bytes : ℕ} {written : ℕ} {from_ : ℕ} {fua : Bool} (h : unbookParts ⊆ L) :
    OptWithin L (fun p => p.1) (State.bookProgram t g bytes written from_ fua) t := by
  unfold State.bookProgram
  extract_lets lag hi share
  have hshare : OptWithin L (fun p => p.1) share t :=
    .ite (.some .rfl) (.bind (π := fun p => p.1) (State.spreadShares_within h) fun a ha =>
      .map (π := fun p => p.1) ((State.bookStarts_within h).trans ha) fun b hb => hb)
  clear_value share
  refine .bind hshare fun a ha => .bind (π := fun p => p.1) ((State.spread_within h).trans ha) fun p hp =>
    .bind (π := fun p => p.1) ((State.bookDebt_within h).trans hp) fun b hb => ?_
  refine .map (π := fun p => p.1) (.ite ((State.fuaPrograms_within h).trans hb) (.some hb)) fun f hf => ?_
  exact hf

/-- What `State.bookWrite` may change. -/
def bookWriteParts : List Part :=
  releaseParts ++ [.svy]

theorem State.bookWrite_within {n : Ns} {c : Cmd} {pieces : List (ℕ × ℕ × Bool)} (h : bookWriteParts ⊆ L) :
    OptWithin L (fun p => p.1) (State.bookWrite t n c pieces) t := by
  unfold State.bookWrite
  extract_lets stage parts need src src1 room tiles fua
  clear_value stage parts need src src1 room tiles fua
  split
  · exact .none
  · extract_lets s0
    have hs0 : Within L s0 t := .update [.atl, .svy] (sub_of h rfl) .rfl rfl
    clear_value s0
    refine .ite ?_ ?_
    · exact .none
    · refine .bind (π := (fun u => u)) ?_ fun a ha => ?_
      · exact (State.book1_within (sub_of h rfl)).trans hs0
      · refine .bind (π := (fun u => u)) ?_ fun a1 ha1 => ?_
        · exact (State.book1_within (sub_of h rfl)).trans ha
        · refine .bind (π := (fun p => p.2.1)) ?_ fun a2 ha2 => ?_
          · exact (State.bookHost_within (sub_of h rfl)).trans ha1
          · extract_lets head
            clear_value head
            refine .bind (π := (fun p => p.1)) ?_ fun a3 ha3 => ?_
            · exact (State.bookRmw_within (sub_of h rfl)).trans ha2
            · extract_lets bands
              clear_value bands
              refine .map (π := (fun p => p.1)) ?_ fun a4 ha4 => ?_
              · exact (State.bookProgram_within (sub_of h rfl)).trans ha3
              · extract_lets bound
                clear_value bound
                dsimp -zeta only
                refine (Within.foldl fun u x2 => ?_).trans ?_
                · exact State.pinBand_within (h (by decide))
                · exact ha4

theorem writeVerdict_within {o : Option (State × ℕ × Cmd)} {limit : Option ℕ} (ho : OptWithin L (fun p => p.1) o t) :
    VerdictWithin L (writeVerdict o limit) t := by
  unfold writeVerdict
  split
  · exact .refuse
  next u bound c => exact .ite (.accept (ho _ rfl)) .refuse

theorem State.admitWrite_within {n : Ns} {c : Cmd} {limit : Option ℕ} (h : bookWriteParts ⊆ L) :
    VerdictWithin L (State.admitWrite t n c limit) t := by
  unfold State.admitWrite
  exact .ite .refuse (writeVerdict_within (State.bookWrite_within h))

theorem State.admitAtOnce_within {s : State} {c : Cmd} {bound : ℕ} {limit : Option ℕ} {u : State} (hu : Within L u t) :
    VerdictWithin L (State.admitAtOnce s c bound limit u) t := by
  unfold State.admitAtOnce
  exact .ite (.accept hu) .refuse

theorem State.admitFlush_within {n : Ns} {c : Cmd} {limit : Option ℕ} : VerdictWithin L (State.admitFlush t n c limit) t := by
  unfold State.admitFlush
  exact State.admitAtOnce_within .rfl

theorem State.discardIus_within {ius : List ℕ} (h : putAllParts ⊆ L) :
    Within L (State.discardIus t ius) t := by
  unfold State.discardIus
  exact Within.foldl fun u x => State.swapAll_within h

theorem State.discardRanges_within {segs : List ℕ} {ius : List ℕ} (h : poisonIuParts ⊆ L) :
    Within L (State.discardRanges t segs ius) t := by
  unfold State.discardRanges
  extract_lets hit s s1 src s2
  have hs : Within L s t := State.closeSlots_within (sub_of h rfl)
  have hs1 : Within L s1 t := (Within.foldl fun u x => State.discardSeg_within (sub_of h rfl)).trans hs
  have hs2 : Within L s2 t := .step (h (by decide)) (.atl s1 _) hs1
  exact (State.discardIus_within (sub_of h rfl)).trans hs2

/-- What the admission of a command that writes may change. -/
def admitWriteParts : List Part := bookWriteParts ++ poisonIuParts

theorem State.admitDealloc_within {n : Ns} {c : Cmd} {limit : Option ℕ} (h : admitWriteParts ⊆ L) :
    VerdictWithin L (State.admitDealloc t n c limit) t := by
  have discard : ∀ u a b, Within L (State.discardRanges u a b) u := fun u a b => State.discardRanges_within (sub_of h rfl)
  unfold State.admitDealloc
  extract_lets d u
  refine .ite (.ite .refuse (State.admitAtOnce_within (discard _ _ _))) (.ite .refuse ?_)
  have booked : VerdictWithin L (writeVerdict (t.bookWrite n { c with bytes := 0 } d.2.2) limit) t :=
    writeVerdict_within (State.bookWrite_within (sub_of h rfl))
  split
  next c1 u e => exact .accept ((discard _ _ _).trans (booked _ _ e))
  · exact booked

theorem State.admitUncor_within {n : Ns} {c : Cmd} {limit : Option ℕ} (h : admitWriteParts ⊆ L) :
    VerdictWithin L (State.admitUncor t n c limit) t := by
  unfold State.admitUncor
  extract_lets ps whole parts poison
  have hp : ∀ u, Within L (poison u) u := fun u => .foldl fun u k => State.poisonIu_within (sub_of h rfl)
  refine .ite .refuse (.ite (State.admitAtOnce_within (hp _)) ?_)
  have booked : VerdictWithin L (writeVerdict (t.bookWrite n c parts) limit) t :=
    writeVerdict_within (State.bookWrite_within (sub_of h rfl))
  split
  next c1 u e => exact .accept ((hp _).trans (booked _ _ e))
  · exact booked

/-- What the admission of a command may change. -/
def admitParts : List Part := admitWriteParts ++ [.lanes]

theorem State.admitOp_within {n : Ns} {c : Cmd} {limit : Option ℕ} {best : Bool} (h : admitParts ⊆ L) :
    VerdictWithin L (State.admitOp t n c limit best) t := by
  have read : VerdictWithin L (t.admitRead n c limit best) t := State.admitRead_within (sub_of h rfl)
  have write : VerdictWithin L (t.admitWrite n c limit) t := State.admitWrite_within (sub_of h rfl)
  have dealloc : VerdictWithin L (t.admitDealloc n c limit) t := State.admitDealloc_within (sub_of h rfl)
  unfold State.admitOp
  split
  · exact State.admitFlush_within
  · exact write
  · exact read
  · exact read
  · exact read
  · exact State.admitUncor_within (sub_of h rfl)
  · exact .ite dealloc write
  · exact .ite dealloc (State.admitAtOnce_within .rfl)
  · exact .refuse

theorem State.admission_within {c : Cmd} (h : admitParts ⊆ L) : VerdictWithin L (State.admission t c) t := by
  unfold State.admission
  split
  · exact .refuse
  next n _ =>
    have op : VerdictWithin L (t.admitOp n c (t.limitQ c) false) t := State.admitOp_within h
    extract_lets free
    refine .ite (.ite .await .refuse) (.ite .await ?_)
    split
    next c1 u e => exact .ite .refuse (.accept (op _ _ e))
    · exact .ite .await .refuse
    · exact .await

theorem State.writeFails_within {c : Cmd} (h : readLostParts ⊆ L) :
    Within L (State.writeFails t c) t := by
  unfold State.writeFails
  extract_lets s s1
  have hs : Within L s t := State.release_within (sub_of h rfl)
  have hs1 : Within L s1 t := (State.mapCmd_within (h (by decide))).trans hs
  exact (State.endCmd_within (sub_of h rfl)).trans hs1

theorem State.started_within {c : Cmd} {failed : Bool} (h : readLostParts ⊆ L) :
    Within L (State.started t c failed) t := by
  unfold State.started
  exact .ite (State.readLost_within h) (.ite (State.readDone_within (sub_of h rfl)) (.ite (State.writeFails_within h) (.ite (State.endCmd_within (sub_of h rfl)) .rfl)))

theorem State.countTaken_within {c : Cmd} (h : .stats ∈ L) :
    Within L (State.countTaken t c) t := by
  unfold State.countTaken
  exact .ite .rfl ((State.stat_within h).trans (State.stat_within h))

/-- What the acceptance of a command may change. -/
def acceptCmdParts : List Part := readLostParts ++ [.stats]

theorem State.acceptCmd_within {s : State} {was c : Cmd} (h : acceptCmdParts ⊆ L) :
    Within L (State.acceptCmd s t was c) t := by
  unfold State.acceptCmd
  exact (State.started_within (sub_of h rfl)).trans ((State.countTaken_within (h (by decide))).trans
    (State.mapCmd_within (h (by decide))))

theorem State.lookupSegs_within {c : Cmd} (h : .atl ∈ L) :
    Within L (State.lookupSegs t c) t := by
  unfold State.lookupSegs
  split
  · exact .rfl
  · rename_i x x1 e
    extract_lets keys
    exact .ite .rfl (Within.foldl fun u x => State.obtain_within h)

/-- What `State.decide_` may change. -/
def decide_Parts : List Part :=
  readLostParts ++ [.stats, .svy, .reg .ATL_JRNL_WM]

theorem State.decide__within {c : Cmd} {atLimit : Bool} (h : decide_Parts ⊆ L) :
    Within L (State.decide_ t c atLimit) t := by
  unfold State.decide_
  extract_lets s
  have hs : Within L s t := State.lookupSegs_within (h (by decide))
  have verdict : VerdictWithin L (s.admission c) t := fun c1 u e => ((State.admission_within (sub_of h rfl)) c1 u e).trans hs
  split
  next c1 u e => exact (State.acceptCmd_within (sub_of h rfl)).trans (verdict _ _ e)
  · exact (State.refuseCmd_within (sub_of h rfl)).trans hs
  · exact (State.countTaken_within (h (by decide))).trans ((State.mapCmd_within (h (by decide))).trans hs)

theorem State.offerWaiting_within (h : decide_Parts ⊆ L) :
    Within L (State.offerWaiting t) t := by
  unfold State.offerWaiting
  exact Within.foldl fun u x => State.decide__within h

theorem State.newSlot_within {fn : ℕ} {key : ℕ} {bytes : ℕ} {by_ : ℕ} (h : .atl ∈ L) :
    Within L (State.newSlot t fn key bytes by_).2 t := by
  unfold State.newSlot
  extract_lets a x src
  exact .step h (.atl t _) .rfl

theorem State.fillAsm_within {a : Assembly} {readOk : Bool} (h : closeAsmParts ⊆ L) :
    Within L (State.fillAsm t a readOk) t := by
  unfold State.fillAsm
  extract_lets miss lost s s1
  have hs : Within L s t := .ite (State.setPoison_within (h (by decide))) .rfl
  have hs1 : Within L s1 t := .ite ((State.record_within (sub_of h rfl)).trans hs) hs
  exact (State.closeAsm_within h).trans hs1

theorem State.stageIu_within {n : Ns} {c : Cmd} {key : ℕ} {mask : ℕ} {j : ℕ} (h : closeAsmParts ⊆ L) :
    Within L (State.stageIu t n c key mask j).1 t := by
  unfold State.stageIu
  extract_lets full bytes marks present s r s1 src prev s2 r1 band a s3 s4 src1
  have hs : Within L s t := by
    unfold s
    split
    · exact State.closeAsm_within h
    · exact .rfl
  have hr : Within L r.2 t := (State.newSlot_within (h (by decide))).trans hs
  have hs1 : Within L s1 t := (State.dropRmw_within (sub_of h rfl)).trans ((State.dropAsm_within (h (by decide))).trans (State.setPoison_within (h (by decide))))
  have hs2 : Within L s2 t := .ite (State.holdSlot_within (h (by decide))) .rfl
  have hr1 : Within L r1.2 t := (State.newSlot_within (h (by decide))).trans hs2
  have hs3 : Within L s3 t := by
    unfold s3
    clear_value full bytes marks present src prev band a
    split
    · exact (State.pinBand_within (h (by decide))).trans hr1
    · exact hr1
  have hs4 : Within L s4 t := (State.setPoison_within (h (by decide))).trans hs3
  clear_value full bytes marks present s r s1 src prev s2 r1 band a s3 s4 src1
  split
  · dsimp -zeta only
    exact (State.setPoison_within (h (by decide))).trans hr
  · split
    · extract_lets a'
      clear_value a'
      split
      · dsimp -zeta only
        exact (State.closeAsm_within h).trans hs1
      · dsimp -zeta only
        exact .step (h (by decide)) (.atl s1 _) hs1
    · dsimp -zeta only
      exact .step (h (by decide)) (.atl s4 _) hs4

end

end Sys2Proof.Machine
end

section
/-! SUPPORT. What each function of the model may change, function by function (3 of 7): queues, resets and the map. `X_within` says it
of the state that `X` answers with, `execX_runs` of the command, which also runs on. -/

namespace Sys2Proof.Machine

section
variable {L : List Part} {t : State}

/-- What `State.stageAll` may change. -/
def stageAllParts : List Part :=
  poisonIuParts ++ [.ctls, .cmds, .cpls, .media]

theorem State.stageAll_within {n : Ns} {c : Cmd} {keys : List ℕ} (h : stageAllParts ⊆ L) :
    Within L (State.stageAll t n c keys) t := by
  unfold State.stageAll
  extract_lets r s s1 bytes c' s2 s3 s4
  have hr : Within L r.1 t := by
    unfold r
    refine (Within.foldl_fst fun u x => ?_).trans ?_
    · extract_lets j x1
      have hx1 : Within L x1.1 (u.1) := State.stageIu_within (sub_of h rfl)
      exact hx1
    · dsimp -zeta only
      exact .rfl
  have hs : Within L s t := (State.swapAll_within (sub_of h rfl)).trans hr
  have hs1 : Within L s1 t := by
    unfold s1
    refine .ite ?_ ?_
    · refine (Within.foldl fun u x => ?_).trans ?_
      · split
        · exact .ite .rfl (State.fillAsm_within (sub_of h rfl))
        · exact .rfl
      · exact hs
    · exact hs
  have hs2 : Within L s2 t := (State.mapCmd_within (h (by decide))).trans hs1
  have hs3 : Within L s3 t := .ite (.ite ((State.mediaCount_within (h (by decide))).trans ((State.mediaCount_within (h (by decide))).trans hs2)) hs2) hs2
  have hs4 : Within L s4 t := .ite ((State.endCmd_within (sub_of h rfl)).trans hs3) hs3
  exact (State.wakeWaiters_within (sub_of h rfl)).trans hs4

theorem State.doorbellWake_within (h : toServiceParts ⊆ L) :
    Within L (State.doorbellWake t) t := by
  unfold State.doorbellWake
  exact State.toService_within h

/-- What `execSqDoorbellWrite` may change. -/
def execSqDoorbellWriteParts : List Part :=
  toServiceParts ++ [.sqs]

theorem execSqDoorbellWrite_runs {fn : ℕ} {q : ℕ} {value : ℕ} (h : execSqDoorbellWriteParts ⊆ L) :
    Runs L t (execSqDoorbellWrite fn q value t) := by
  unfold execSqDoorbellWrite
  refine .ite ?_ ?_
  · exact .next .rfl
  · split
    · exact .next (State.asyncEvent_within (sub_of h rfl))
    · refine .ite ?_ ?_
      · exact .next (State.asyncEvent_within (sub_of h rfl))
      · exact .next ((State.doorbellWake_within (sub_of h rfl)).trans (State.setSq_within (h (by decide))))

theorem execCqDoorbellWrite_runs {fn : ℕ} {q : ℕ} {value : ℕ} (h : [.out, .ctls, .cqs, .cpls] ⊆ L) :
    Runs L t (execCqDoorbellWrite fn q value t) := by
  unfold execCqDoorbellWrite
  refine .ite ?_ ?_
  · exact .next .rfl
  · split
    · exact .next (State.asyncEvent_within (sub_of h rfl))
    · refine .ite ?_ ?_
      · exact .next (State.asyncEvent_within (sub_of h rfl))
      · exact .next (State.setCq_within (h (by decide)))

theorem State.fetchOne_within {fn : ℕ} {q : ℕ} {bytes : ℕ} {x : Sq} (h : [.sqs, .buckets] ⊆ L) :
    Within L (State.fetchOne t fn q bytes x) t := by
  unfold State.fetchOne
  extract_lets c s
  have hs : Within L s t := State.setSq_within (h (by decide))
  exact .ite hs ((State.setBucket_within (h (by decide))).trans hs)

/-- What `execSqEntryFetch` may change. -/
def execSqEntryFetchParts : List Part :=
  execSqDoorbellWriteParts ++ [.buckets]

theorem execSqEntryFetch_runs {fn : ℕ} {heads : List (ℕ × ℕ)} (h : execSqEntryFetchParts ⊆ L) :
    Runs L t (execSqEntryFetch fn heads t) := by
  unfold execSqEntryFetch
  extract_lets c can pick s src
  have hs : Within L s t := State.toService_within (sub_of h rfl)
  clear_value c can pick s src
  refine .ite ?_ ?_
  · exact .next .rfl
  · split
    · exact .next .rfl
    · split
      · exact .next hs
      · exact .next ((State.setCtl_within (h (by decide))).trans ((State.fetchOne_within (sub_of h rfl)).trans hs))

theorem execRead_runs {e : IoEntry} (h : [.ctls, .sqs, .cmds, .cpls, .media] ⊆ L) :
    Runs L t (execRead e t) := by
  unfold execRead
  exact .next (State.arrive_within h)

theorem execWrite_runs {e : IoEntry} (h : [.ctls, .sqs, .cmds, .cpls, .media] ⊆ L) :
    Runs L t (execWrite e t) := by
  unfold execWrite
  exact .next (State.arrive_within h)

theorem execFlush_runs {e : IoEntry} (h : [.ctls, .sqs, .cmds, .cpls, .media] ⊆ L) :
    Runs L t (execFlush e t) := by
  unfold execFlush
  exact .next (State.arrive_within h)

theorem execWriteUncorrectable_runs {e : IoEntry} (h : [.ctls, .sqs, .cmds, .cpls, .media] ⊆ L) :
    Runs L t (execWriteUncorrectable e t) := by
  unfold execWriteUncorrectable
  exact .next (State.arrive_within h)

theorem execCompare_runs {e : IoEntry} (h : [.ctls, .sqs, .cmds, .cpls, .media] ⊆ L) :
    Runs L t (execCompare e t) := by
  unfold execCompare
  exact .next (State.arrive_within h)

theorem execWriteZeroes_runs {e : IoEntry} (h : [.ctls, .sqs, .cmds, .cpls, .media] ⊆ L) :
    Runs L t (execWriteZeroes e t) := by
  unfold execWriteZeroes
  exact .next (State.arrive_within h)

theorem execDatasetManagement_runs {e : IoEntry} {ad : Bool} {ranges : List (ℕ × ℕ)} (h : [.ctls, .sqs, .cmds, .cpls, .media] ⊆ L) :
    Runs L t (execDatasetManagement e ad ranges t) := by
  unfold execDatasetManagement
  exact .next (State.arrive_within h)

theorem execVerify_runs {e : IoEntry} (h : [.ctls, .sqs, .cmds, .cpls, .media] ⊆ L) :
    Runs L t (execVerify e t) := by
  unfold execVerify
  exact .next (State.arrive_within h)

theorem execIoInvalidOpcode_runs {e : IoEntry} {opcode : ℕ} (h : [.ctls, .sqs, .cmds, .cpls, .media] ⊆ L) :
    Runs L t (execIoInvalidOpcode e opcode t) := by
  unfold execIoInvalidOpcode
  split
  · exact .next .rfl
  · extract_lets s x2
    have hs : Within L s t := State.setSq_within (h (by decide))
    clear_value s x2
    exact .next ((State.enter_within (sub_of h rfl)).trans hs)

theorem execPlotAdmit_runs {fn : ℕ} {sq : ℕ} {cid : ℕ} (h : decide_Parts ⊆ L) :
    Runs L t (execPlotAdmit fn sq cid t) := by
  unfold execPlotAdmit
  split
  · refine .ite ?_ ?_
    · exact .next (State.decide__within h)
    · exact .next .rfl
  · exact .next .rfl

theorem State.probeFetch_within {e : IoEntry} {op : ℕ} {ad : Bool} {ranges : List (ℕ × ℕ)} {x : Sq} (h : [.ctls, .sqs, .cmds, .cpls, .buckets, .media] ⊆ L) :
    Within L (State.probeFetch t e op ad ranges x) t := by
  unfold State.probeFetch
  extract_lets h1
  exact (State.arrive_within (sub_of h rfl)).trans (State.fetchOne_within (sub_of h rfl))

/-- What `State.probe` may change. -/
def probeParts : List Part :=
  decide_Parts ++ [.sqs, .classes, .buckets, .dram, .reg .PLT_EVENTS, .reg .PLT_FLOOR_RD, .reg .PLT_FLOOR_WR, .reg .PWR_EVENTS, .reg .HST_PROMISE_EVENTS]

theorem State.probe_within {e : IoEntry} {op : ℕ} {ad : Bool} {ranges : List (ℕ × ℕ)} {last : Bool} (h : probeParts ⊆ L) :
    Within L (State.probe t e op ad ranges last) t := by
  unfold State.probe
  split
  · exact .rfl
  next x =>
    refine .ite .rfl ?_
    extract_lets u
    have hu : Within L u t := (State.probeFetch_within (sub_of h rfl)).trans (State.toService_within (sub_of h rfl))
    split
    · exact .rfl
    next c =>
      refine .ite hu ?_
      split
      next c1 v e => exact (State.acceptCmd_within (sub_of h rfl)).trans (((State.admission_within (sub_of h rfl)) _ _ e).trans hu)
      · exact (State.decide__within (sub_of h rfl)).trans hu
      · exact .ite ((State.refuseCmd_within (sub_of h rfl)).trans hu) (State.setSq_within (h (by decide)))

theorem execHoldProbe_runs {e : IoEntry} {op : ℕ} {ad : Bool} {ranges : List (ℕ × ℕ)} (h : probeParts ⊆ L) :
    Runs L t (execHoldProbe e op ad ranges t) := by
  unfold execHoldProbe
  exact .next (State.probe_within h)

theorem execHoldLimitExpiry_runs {e : IoEntry} {op : ℕ} {ad : Bool} {ranges : List (ℕ × ℕ)} (h : probeParts ⊆ L) :
    Runs L t (execHoldLimitExpiry e op ad ranges t) := by
  unfold execHoldLimitExpiry
  exact .next (State.probe_within h)

theorem State.aerErr_within {fn : ℕ} {row : ℕ} (h : [.out, .fns] ⊆ L) :
    Within L (State.aerErr t fn row) t := by
  unfold State.aerErr
  extract_lets x
  exact (State.emit_within (sub_of h rfl)).trans (State.setFn_within (h (by decide)))

theorem State.hostReady_within {c : Cmd} (h : readLostParts ⊆ L) :
    Within L (State.hostReady t c) t := by
  unfold State.hostReady
  exact .ite .rfl (.ite (State.writeFails_within h) (.ite (State.readDone_within (sub_of h rfl)) .rfl))

theorem execHostReadCompletion_runs {fn : ℕ} {sq : ℕ} {cid : ℕ} (h : readLostParts ⊆ L) :
    Runs L t (execHostReadCompletion fn sq cid t) := by
  unfold execHostReadCompletion
  split
  · exact .next .rfl
  · extract_lets c' s
    have hs : Within L s t := (State.atsDone_within (sub_of h rfl)).trans (State.mapCmd_within (h (by decide)))
    clear_value c' s
    refine .ite ?_ ?_
    · exact .next .rfl
    · exact .next (.ite ((State.hostReady_within h).trans hs) hs)

theorem execHostAllowanceExpiry_runs {fn : ℕ} {sq : ℕ} {cid : ℕ} (h : .cmds ∈ L) :
    Runs L t (execHostAllowanceExpiry fn sq cid t) := by
  unfold execHostAllowanceExpiry
  split
  · exact .next .rfl
  · refine .ite ?_ ?_
    · exact .next (State.mapCmd_within h)
    · exact .next .rfl

theorem State.sqReadFail_within {fn : ℕ} {q : ℕ} (h : [.out, .gaz, .mgmt, .fns, .sqs, .reg .CHR_ALERT_STATUS, .reg .GAZ_COUNTS, .reg .HST_FN_EVENTS] ⊆ L) :
    Within L (State.sqReadFail t fn q) t := by
  unfold State.sqReadFail
  split
  · exact .rfl
  · extract_lets s
    have hs : Within L s t := State.setSq_within (h (by decide))
    exact .ite .rfl (.ite (State.setSq_within (h (by decide))) ((State.record_within (sub_of h rfl)).trans ((State.event_within (h (by decide)) (sub_of h rfl)).trans hs)))

theorem State.hostReadLost_within {fn : ℕ} {sq : ℕ} {cid : ℕ} (h : readLostParts ⊆ L) :
    Within L (State.hostReadLost t fn sq cid) t := by
  unfold State.hostReadLost
  split
  · extract_lets c' s
    have hs : Within L s t := State.mapCmd_within (h (by decide))
    exact .ite hs ((State.atsDone_within (sub_of h rfl)).trans ((State.dataError_within h).trans hs))
  · exact .rfl

/-- What `execCompletionTimeout` may change. -/
def execCompletionTimeoutParts : List Part :=
  readLostParts ++ [.sqs, .reg .HST_FN_EVENTS]

theorem execCompletionTimeout_runs {fn : ℕ} {sq : ℕ} {cid : Option ℕ} (h : execCompletionTimeoutParts ⊆ L) :
    Runs L t (execCompletionTimeout fn sq cid t) := by
  unfold execCompletionTimeout
  extract_lets s
  have hs : Within L s t := State.aerErr_within (sub_of h rfl)
  clear_value s
  refine .ite ?_ ?_
  · exact .next .rfl
  · split
    · exact .next ((State.sqReadFail_within (sub_of h rfl)).trans ((State.event_within (h (by decide)) (sub_of h rfl)).trans hs))
    · refine .ite ?_ ?_
      · exact .next hs
      · exact .next ((State.hostReadLost_within (sub_of h rfl)).trans ((State.event_within (h (by decide)) (sub_of h rfl)).trans hs))

theorem execHostReadError_runs {fn : ℕ} {sq : ℕ} {cid : Option ℕ} {err : ℕ} (h : execCompletionTimeoutParts ⊆ L) :
    Runs L t (execHostReadError fn sq cid err t) := by
  unfold execHostReadError
  extract_lets s
  have hs : Within L s t := State.aerErr_within (sub_of h rfl)
  clear_value s
  split
  · exact .next ((State.sqReadFail_within (sub_of h rfl)).trans hs)
  · exact .next ((State.hostReadLost_within (sub_of h rfl)).trans hs)

theorem execAtsTranslationCompletion_runs {fn : ℕ} {sq : ℕ} {cid : ℕ} {page : ℕ} {ok : Bool} (h : readLostParts ⊆ L) :
    Runs L t (execAtsTranslationCompletion fn sq cid page ok t) := by
  unfold execAtsTranslationCompletion
  extract_lets x
  clear_value x
  refine .ite ?_ ?_
  · exact .next .rfl
  · refine .ite ?_ ?_
    · exact .next (State.setFn_within (h (by decide)))
    · exact .next (State.hostReadLost_within h)

theorem execFlowControlCredit_runs {fn : ℕ} {sq : ℕ} {cid : ℕ} {held : ℕ} (h : .cmds ∈ L) :
    Runs L t (execFlowControlCredit fn sq cid held t) := by
  unfold execFlowControlCredit
  exact .next (State.mapCmd_within h)

theorem execHostStage_runs {fn : ℕ} {sq : ℕ} {cid : ℕ} {iu : ℕ} (h : stageAllParts ⊆ L) :
    Runs L t (execHostStage fn sq cid iu t) := by
  unfold execHostStage
  split
  · exact .next .rfl
  · split
    · exact .next .rfl
    · refine .ite ?_ ?_
      · exact .next .rfl
      · exact .next (State.stageAll_within h)

theorem State.postMsix_within {fn : ℕ} {cqid : ℕ} {x : Cq} (h : [.out, .fns, .cqs] ⊆ L) :
    Within L (State.postMsix t fn cqid x) t := by
  unfold State.postMsix
  extract_lets c
  exact .ite .rfl (.ite (State.signal_within (h (by decide)) (h (by decide))) (.ite ((State.signal_within (h (by decide)) (h (by decide))).trans (State.setCq_within (h (by decide)))) (State.setCq_within (h (by decide)))))

theorem execCoalescingTimerExpiry_runs {fn : ℕ} {vec : ℕ} (h : [.out, .fns, .cqs] ⊆ L) :
    Runs L t (execCoalescingTimerExpiry fn vec t) := by
  unfold execCoalescingTimerExpiry
  extract_lets due s
  have hs : Within L s t := by
    unfold s
    refine Within.foldl fun u x => ?_
    split
    · exact State.setCq_within (h (by decide))
    · exact .rfl
  clear_value due s
  refine .ite ?_ ?_
  · exact .next .rfl
  · exact .next ((State.signal_within (h (by decide)) (h (by decide))).trans hs)

theorem State.discardNs_within {n : Ns} (h : poisonIuParts ⊆ L) :
    Within L (State.discardNs t n) t := by
  unfold State.discardNs
  extract_lets d
  exact State.discardRanges_within h

theorem State.formatKey_within {slot : ℕ} (h : [.out, .mgmt, .fns, .mbx, .ops, .cip, .reg .CHR_ALERT_STATUS, .reg .MBX_EVENTS] ⊆ L) :
    Within L (State.formatKey t slot) t := by
  unfold State.formatKey
  extract_lets k kind k' src
  exact (State.opDone_within (sub_of h rfl)).trans (.step (h (by decide)) (.cip t _) .rfl)

/-- What `State.formatNow` may change. -/
def formatNowParts : List Part :=
  poisonIuParts ++ [.ctls, .cpls, .mbx, .ops, .cip, .reg .MBX_EVENTS]

theorem State.formatNow_within {nsid : ℕ} {n : Ns} {fn : ℕ} {cid : ℕ} {ses : ℕ} (h : formatNowParts ⊆ L) :
    Within L (State.formatNow t nsid n fn cid ses) t := by
  unfold State.formatNow
  extract_lets s s1 src s2
  have hs : Within L s t := .ite (State.formatKey_within (sub_of h rfl)) .rfl
  have hs1 : Within L s1 t := (State.discardNs_within (sub_of h rfl)).trans hs
  have hs2 : Within L s2 t := .step (h (by decide)) (.atl s1 _) hs1
  exact (State.adminDone_within (sub_of h rfl)).trans hs2

theorem State.formatCheck_within {nsid : ℕ} (h : formatNowParts ⊆ L) :
    Within L (State.formatCheck t nsid) t := by
  unfold State.formatCheck
  split
  · split
    · exact .ite .rfl (State.formatNow_within h)
    · exact .rfl
  · exact .rfl

theorem State.shutdownCheck_within {fn : ℕ} (h : .ctls ∈ L) :
    Within L (State.shutdownCheck t fn) t := by
  unfold State.shutdownCheck
  extract_lets c
  exact .ite (State.setCtl_within h) .rfl

/-- What `State.stopClock` may change. -/
def stopClockParts : List Part :=
  faultParts ++ [.stats, .reg .HST_DEADLINE_MISS]

theorem State.stopClock_within {c : Cmd} {dw0 : W32} (h : stopClockParts ⊆ L) :
    Within L (State.stopClock t c dw0) t := by
  unfold State.stopClock
  extract_lets s s1 s2
  have hs : Within L s t := .ite (State.stat_within (h (by decide))) .rfl
  have hs1 : Within L s1 t := .ite ((State.stat_within (h (by decide))).trans hs) hs
  have hs2 : Within L s2 t := (State.bump_within (h (by decide))).trans ((State.stat_within (h (by decide))).trans hs1)
  exact .ite .rfl (.ite hs1 ((State.raiseAt_within (sub_of h rfl)).trans ((State.promise_within (h (by decide)) (sub_of h rfl)).trans hs2)))

theorem execCompletionEntrySent_runs {fn : ℕ} {sq : ℕ} {cid : ℕ} (h : stopClockParts ⊆ L) :
    Runs L t (execCompletionEntrySent fn sq cid t) := by
  unfold execCompletionEntrySent
  split
  · exact .next .rfl
  · extract_lets rest s was dw0 late s1
    have hs : Within L s t := .step (h (by decide)) (.cpls t _) .rfl
    have hs1 : Within L s1 t := (State.emit_within (sub_of h rfl)).trans hs
    clear_value rest s was dw0 late s1
    split
    · exact .next (.step (h (by decide)) (.cpls t _) .rfl)
    · extract_lets tail x' s2 k s3
      have hs2 : Within L s2 t := (State.postMsix_within (sub_of h rfl)).trans ((State.setCq_within (h (by decide))).trans hs1)
      have hs3 : Within L s3 t := (State.setCtl_within (h (by decide))).trans hs2
      clear_value tail x' s2 k s3
      refine .ite ?_ ?_
      · exact .next .rfl
      · split
        · exact .next hs3
        · extract_lets s4 s5
          have hs4 : Within L s4 t := (State.settle_within (sub_of h rfl)).trans ((State.stopClock_within h).trans hs3)
          have hs5 : Within L s5 t := .step (h (by decide)) (.cmds s4 _) hs4
          clear_value s4 s5
          exact .next ((State.shutdownCheck_within (h (by decide))).trans ((State.formatCheck_within (sub_of h rfl)).trans hs5))

theorem State.endRemoval_within {b : ℕ} (h : [.out, .mgmt, .fns, .mbx, .ops, .bays, .reg .CHR_ALERT_STATUS, .reg .MBX_EVENTS] ⊆ L) :
    Within L (State.endRemoval t b) t := by
  unfold State.endRemoval
  extract_lets x
  clear_value x
  split
  · exact .rfl
  · exact (State.opDone_within (sub_of h rfl)).trans (State.setBay_within (h (by decide)))

theorem State.refuseRemoval_within {b : ℕ} (h : [.out, .gaz, .mgmt, .fns, .bays, .reg .SHB_EVENTS, .reg .CHR_ALERT_STATUS, .reg .GAZ_COUNTS] ⊆ L) :
    Within L (State.refuseRemoval t b) t := by
  unfold State.refuseRemoval
  exact (State.event_within (h (by decide)) (sub_of h rfl)).trans (State.setBay_within (h (by decide)))

/-- What `State.abortRemoval` may change. -/
def abortRemovalParts : List Part :=
  bayParts ++ [.fns, .mbx, .ops, .reg .SHB_EVENTS, .reg .MBX_EVENTS]

theorem State.abortRemoval_within {b : ℕ} (h : abortRemovalParts ⊆ L) :
    Within L (State.abortRemoval t b) t := by
  unfold State.abortRemoval
  exact (State.endRemoval_within (sub_of h rfl)).trans ((State.event_within (h (by decide)) (sub_of h rfl)).trans (State.toBay_within (sub_of h rfl)))

theorem State.pressAct_within {b : ℕ} (h : abortRemovalParts ⊆ L) :
    Within L (State.pressAct t b) t := by
  unfold State.pressAct
  extract_lets x
  clear_value x
  split
  · exact .ite (State.event_within (h (by decide)) (sub_of h rfl)) (.ite (State.refuseRemoval_within (sub_of h rfl)) (State.toBay_within (sub_of h rfl)))
  · exact State.abortRemoval_within h
  · exact State.event_within (h (by decide)) (sub_of h rfl)

theorem State.sheetLost_within {b : ℕ} (h : faultParts ⊆ L) :
    Within L (State.sheetLost t b) t := by
  unfold State.sheetLost
  extract_lets n src s s1
  have hs : Within L s t := .step (h (by decide)) (.fch t _) .rfl
  have hs1 : Within L s1 t := (State.raiseAt_within h).trans hs
  exact (State.endRemoval_within (sub_of h rfl)).trans (.ite hs1 ((State.fenceBay_within (sub_of h rfl)).trans hs1))

theorem State.diesOff_within {b : ℕ} (h : .fch ∈ L) :
    Within L (State.diesOff t b) t := by
  unfold State.diesOff
  exact Within.foldl fun u x => .ite (State.setDie_within h) .rfl

/-- What `State.presenceAct` may change. -/
def presenceActParts : List Part :=
  faultParts ++ [.reg .SHB_EVENTS]

theorem State.presenceAct_within {b : ℕ} (h : presenceActParts ⊆ L) :
    Within L (State.presenceAct t b) t := by
  unfold State.presenceAct
  extract_lets x s
  have hs : Within L s t := State.setBay_within (h (by decide))
  clear_value x s
  refine .ite ?_ ?_
  · split
    · exact (State.toBay_within (sub_of h rfl)).trans hs
    · exact hs
  · split
    · exact hs
    · exact (State.toBay_within (sub_of h rfl)).trans hs
    · exact (State.toBay_within (sub_of h rfl)).trans hs
    · exact (State.toBay_within (sub_of h rfl)).trans hs
    · exact (State.toBay_within (sub_of h rfl)).trans hs
    · exact (State.event_within (h (by decide)) (sub_of h rfl)).trans ((State.diesOff_within (h (by decide))).trans ((State.toBay_within (sub_of h rfl)).trans hs))
    · exact (State.event_within (h (by decide)) (sub_of h rfl)).trans ((State.diesOff_within (h (by decide))).trans ((State.toBay_within (sub_of h rfl)).trans hs))
    · exact (State.event_within (h (by decide)) (sub_of h rfl)).trans ((State.diesOff_within (h (by decide))).trans ((State.toBay_within (sub_of h rfl)).trans hs))
    · exact (State.event_within (h (by decide)) (sub_of h rfl)).trans ((State.diesOff_within (h (by decide))).trans ((State.toBay_within (sub_of h rfl)).trans hs))
    · exact (State.event_within (h (by decide)) (sub_of h rfl)).trans ((State.diesOff_within (h (by decide))).trans ((State.toBay_within (sub_of h rfl)).trans hs))
    · exact (State.sheetLost_within (sub_of h rfl)).trans ((State.event_within (h (by decide)) (sub_of h rfl)).trans hs)
    · exact (State.sheetLost_within (sub_of h rfl)).trans ((State.event_within (h (by decide)) (sub_of h rfl)).trans hs)
    · exact (State.sheetLost_within (sub_of h rfl)).trans ((State.event_within (h (by decide)) (sub_of h rfl)).trans hs)
    · exact (State.sheetLost_within (sub_of h rfl)).trans ((State.event_within (h (by decide)) (sub_of h rfl)).trans hs)

theorem State.bayWake_within (h : presenceActParts ⊆ L) :
    Within L (State.bayWake t) t := by
  unfold State.bayWake
  refine Within.foldl fun u x => ?_
  extract_lets x1 s s1 src
  have hs : Within L s u := .ite (State.toBay_within (sub_of h rfl)) (.ite (State.toBay_within (sub_of h rfl)) .rfl)
  have hs1 : Within L s1 u := .ite ((State.presenceAct_within h).trans hs) hs
  exact .ite ((State.pressAct_within (sub_of h rfl)).trans ((State.setBay_within (h (by decide))).trans hs1)) hs1

theorem State.leaveDormant_within (h : [.pwr, .plt] ⊆ L) :
    Within L (State.leaveDormant t) t := by
  unfold State.leaveDormant
  extract_lets src p src1
  exact .update [.pwr, .plt] h .rfl rfl

theorem State.flashOn_within (h : [.pwr, .fch, .dram] ⊆ L) :
    Within L (State.flashOn t) t := by
  unfold State.flashOn
  extract_lets dram chan src src1
  exact .update [.pwr, .fch, .dram] h .rfl rfl

theorem State.clearLedger_within (h : .plt ∈ L) :
    Within L (State.clearLedger t) t := by
  unfold State.clearLedger
  exact .step h (.plt t _) .rfl

theorem State.wakeDie_within {d : ℕ} (h : .plt ∈ L) :
    Within L (State.wakeDie t d) t := by
  unfold State.wakeDie
  split
  · exact .rfl
  · extract_lets t1 s
    have hs : Within L s t := State.addClosed_within h
    exact .ite .rfl (.step h (.plt s _) hs)

theorem State.wakeDies_within (h : .plt ∈ L) :
    Within L (State.wakeDies t) t := by
  unfold State.wakeDies
  refine Within.foldl fun u x => ?_
  exact State.wakeDie_within h

theorem State.contourWake_within (h : .ctr ∈ L) :
    Within L (State.contourWake t) t := by
  unfold State.contourWake
  exact .step h (.ctr t _) .rfl

/-- What `State.wake` may change. -/
def wakeParts : List Part :=
  presenceActParts ++ [.ctr]

theorem State.wake_within (h : wakeParts ⊆ L) :
    Within L (State.wake t) t := by
  unfold State.wake
  extract_lets s
  have hs : Within L s t := (State.contourWake_within (h (by decide))).trans ((State.wakeDies_within (h (by decide))).trans ((State.clearLedger_within (h (by decide))).trans ((State.flashOn_within (sub_of h rfl)).trans ((State.emit_within (sub_of h rfl)).trans (State.leaveDormant_within (sub_of h rfl))))))
  clear_value s
  split
  · exact .ite .rfl ((State.endSuspends_within (sub_of h rfl)).trans ((State.bayWake_within (sub_of h rfl)).trans ((State.toModeChecked_within (sub_of h rfl)).trans hs)))
  · exact (State.toService_within (sub_of h rfl)).trans (State.leaveDormant_within (sub_of h rfl))
  · exact .ite (State.leaveDormant_within (sub_of h rfl)) .rfl
  · exact .ite (State.leaveDormant_within (sub_of h rfl)) .rfl
  · exact .rfl
  · exact .rfl
  · exact .rfl

/-- What `State.alarmFires` may change. -/
def alarmFiresParts : List Part :=
  wakeParts ++ [.dat, .reg .DAT_EVENTS]

theorem State.alarmFires_within (h : alarmFiresParts ⊆ L) :
    Within L (State.alarmFires t) t := by
  unfold State.alarmFires
  extract_lets src s src1 s1
  have hs : Within L s t := .step (h (by decide)) (.dat t _) .rfl
  have hs1 : Within L s1 t := (State.event_within (h (by decide)) (sub_of h rfl)).trans hs
  exact .ite (.step (h (by decide)) (.pwr s _) hs) (.ite ((State.wake_within (sub_of h rfl)).trans hs1) hs1)

theorem State.setDatum_within {row : ℕ} {cycles : ℕ} (h : alarmFiresParts ⊆ L) :
    Within L (State.setDatum t row cycles) t := by
  unfold State.setDatum
  extract_lets s cur diff src src1 s1 s2 src2 s3
  have hs : Within L s t := State.rebase_within (h (by decide))
  have hs1 : Within L s1 t := .update [.dat, .por] (sub_of h rfl) hs rfl
  have hs2 : Within L s2 t := (State.event_within (h (by decide)) (sub_of h rfl)).trans ((State.record_within (sub_of h rfl)).trans hs1)
  have hs3 : Within L s3 t := .step (h (by decide)) (.svy s2 _) hs2
  exact .ite (.ite ((State.alarmFires_within h).trans hs3) hs3) (.step (h (by decide)) (.dat s _) hs)

theorem State.takeState_within {ps : ℕ} (h : toServiceParts ⊆ L) :
    Within L (State.takeState t ps) t := by
  unfold State.takeState
  extract_lets src t1 src1 src2
  have ht1 : Within L t1 t := (State.dramRest_within (h (by decide))).trans (State.toModeChecked_within (sub_of h rfl))
  have hsrc2 : Within L src2 t := State.dramRest_within (h (by decide))
  clear_value src t1 src1 src2
  split
  · exact .ite (.step (h (by decide)) (.pwr t _) .rfl) (.step (h (by decide)) (.pwr t1 _) ht1)
  · exact .ite (.step (h (by decide)) (.pwr t _) .rfl) (.step (h (by decide)) (.pwr t1 _) ht1)
  · exact .ite (State.toService_within h) (.step (h (by decide)) (.pwr src2 _) hsrc2)
  · exact .rfl

theorem State.spill_within {l : List JRec} (h : [.atl, .svy] ⊆ L) :
    Within L (State.spill t l) t := by
  unfold State.spill
  extract_lets ck src src1
  clear_value ck src src1
  split
  · exact .rfl
  · extract_lets old
    exact .update [.atl, .svy] h .rfl rfl

theorem State.spillAll_within (h : [.atl, .svy] ⊆ L) :
    Within L (State.spillAll t) t := by
  unfold State.spillAll
  extract_lets src t1 src1 src2
  have ht1 : Within L t1 t := (State.spill_within h).trans (.step (h (by decide)) (.atl t _) .rfl)
  exact .update [.atl, .svy] h ht1 rfl

theorem State.restoreBands_within {tail : Bool} (h : .svy ∈ L) :
    Within L (State.restoreBands t tail) t := by
  unfold State.restoreBands
  exact .step h (.svy t _) .rfl

theorem State.loseMap_within (h : [.atl, .svy, .par] ⊆ L) :
    Within L (State.loseMap t) t := by
  unfold State.loseMap
  extract_lets ent src s s1 src1 src2
  have hs : Within L s t := .step (h (by decide)) (.atl t _) .rfl
  have hs1 : Within L s1 t := (State.restoreBands_within (h (by decide))).trans hs
  exact .update [.atl, .par] (sub_of h rfl) hs1 rfl

theorem State.loseDram_within (h : [.pwr, .plt, .atl, .svy, .par] ⊆ L) :
    Within L (State.loseDram t) t := by
  unfold State.loseDram
  extract_lets open_ s s1 src src1
  have hs : Within L s t := by
    unfold s
    refine Within.foldl fun u x => ?_
    extract_lets x1 b data pad
    exact .ite .rfl (State.setBand_within (h (by decide)))
  have hs1 : Within L s1 t := (Within.foldl fun u x => State.queueRefresh_within (sub_of h rfl)).trans hs
  exact (State.loseMap_within (sub_of h rfl)).trans (.update [.pwr, .par] (sub_of h rfl) hs1 rfl)

theorem State.keepEnvelope_within {s : State} (h : [.reg .PLT_ENVELOPE, .reg .PLT_SHEET_PWR] ⊆ L) : Within L (State.keepEnvelope s t) t := by
  unfold State.keepEnvelope
  exact (Within.foldl fun u x => State.setReg_within (sub_of h rfl)).trans (State.setReg_within (sub_of h rfl))

theorem State.resetDram_within {kind : ℕ} (h : [.pwr, .plt, .atl, .svy, .par] ⊆ L) :
    Within L (State.resetDram t kind) t := by
  unfold State.resetDram
  exact .ite (.ite .rfl (State.loseMap_within (sub_of h rfl))) (.ite (State.restoreBands_within (h (by decide))) (State.loseDram_within h))

theorem State.deviceReset_within {kind : ℕ} (h : resetParts ⊆ L) : Within L (State.deviceReset t kind) t := by
  have hr : allRegs ⊆ L := fun p hp => h (List.mem_append_right _ hp)
  have hw : .window ∈ L := mem_reset h (by decide)
  have hi : .inbox ∈ L := mem_reset h (by decide)
  unfold State.deviceReset
  extract_lets keepMap noParity s z src bays src dies src src src src src src src src src src src src u u1 u2 u3
  have hs : Within L s t := State.resetDram_within (sub_reset h (by decide))
  have cleared : Within L { s with regs := [], window := [], inbox := [] } t :=
    .step hi (.inbox { s with regs := [], window := [] } [] fun _ => rfl)
      (.step hw (.window { s with regs := [] } [] fun _ => rfl) (.wipe hr hs))
  have hu : Within L u t := .update [.fresh, .flt, .links, .pin, .gaz, .dat, .mgmt, .pwr, .ports, .fns, .ctls, .sqs, .cqs, .cmds, .cpls,
    .classes, .buckets, .mbx, .ops, .nextHandle, .stats, .media, .plt, .atl, .svy, .par, .fch, .trv, .lanes, .bays, .til, .dram, .cip,
    .ctr, .por, .srv, .start] (sub_reset h (by decide)) cleared rfl
  clear_value u
  have hu1 : Within L u1 t := .ite hu ((State.keepEnvelope_within (sub_reset h (by decide))).trans hu)
  have hu2 : Within L u2 t := (State.bump_within (mem_reset h (by decide))).trans ((State.setFld_within (mem_reset h (by decide))).trans hu1)
  have hu3 : Within L u3 t := .ite ((State.setReg_within (sub_reset h (by decide))).trans hu2) hu2
  exact .ite ((State.event_within (mem_reset h (by decide)) (sub_reset h (by decide))).trans hu3) hu3

theorem State.restart_within {kind : ℕ} (h : resetParts ⊆ L) :
    Within L (State.restart t kind) t := by
  unfold State.restart
  extract_lets t1 src
  have ht1 : Within L t1 t := State.deviceReset_within h
  exact (State.suspend_within (sub_reset h (by decide))).trans (.step (mem_reset h (by decide)) (.start t1 _) ht1)

theorem State.modelFrame_within {activity : List ℕ} (h : .ctr ∈ L) :
    Within L (State.modelFrame t activity) t := by
  unfold State.modelFrame
  extract_lets nodes sc v node rise src s
  have hs : Within L s t := .step h (.ctr t _) .rfl
  clear_value nodes sc v node rise src s
  refine (Within.foldl fun u x => ?_).trans ?_
  · extract_lets x1
    exact State.setRegion_within h
  · exact hs

theorem State.anchor_within {r : ℕ} {reading : ℤ} (h : [.out, .gaz, .mgmt, .fns, .ctr, .reg .CTR_EVENTS, .reg .CHR_ALERT_STATUS, .reg .GAZ_COUNTS] ⊆ L) :
    Within L (State.anchor t r reading) t := by
  unfold State.anchor
  extract_lets x d src s ns src1 s1 s2 src2
  have hs : Within L s t := .ite ((State.event_within (h (by decide)) (sub_of h rfl)).trans (.step (h (by decide)) (.ctr t _) .rfl)) .rfl
  have hs1 : Within L s1 t := .step (h (by decide)) (.ctr s _) hs
  have hs2 : Within L s2 t := by
    unfold s2
    refine (Within.foldl fun u x1 => ?_).trans ?_
    · extract_lets y
      exact State.setRegion_within (h (by decide))
    · exact hs1
  exact (State.setRegion_within (h (by decide))).trans hs2

theorem State.setFrom_within {r : ℕ} {t2 : ℤ} (h : .ctr ∈ L) :
    Within L (State.setFrom t r t2) t := by
  unfold State.setFrom
  extract_lets rise node src s src1
  have hs : Within L s t := .step h (.ctr t _) .rfl
  exact (State.setRegion_within h).trans hs

theorem State.contourStart_within {readings : List ℤ} (h : .ctr ∈ L) :
    Within L (State.contourStart t readings) t := by
  unfold State.contourStart
  refine Within.foldl fun u x => ?_
  split
  · exact .rfl
  · exact State.setFrom_within h

theorem State.takeTEff_within (h : [.out, .gaz, .mgmt, .fns, .ctr, .reg .CTR_TEMP_WM, .reg .CHR_ALERT_STATUS, .reg .GAZ_COUNTS] ⊆ L) :
    Within L (State.takeTEff t) t := by
  unfold State.takeTEff
  extract_lets h1 src s
  have hs : Within L s t := .step (h (by decide)) (.ctr t _) .rfl
  clear_value h1 src s
  refine (Within.foldl fun u x => ?_).trans ?_
  · extract_lets above was s1
    have hs1 : Within L s1 u := State.setFld_within (h (by decide))
    exact .ite ((State.event_within (h (by decide)) (sub_of h rfl)).trans ((State.bump_within (h (by decide))).trans hs1)) hs1
  · exact hs

theorem State.setStep_within {k : ℕ} (h : [.out, .gaz, .mgmt, .fns, .ctr, .reg .CTR_EVENTS, .reg .CHR_ALERT_STATUS, .reg .GAZ_COUNTS] ⊆ L) :
    Within L (State.setStep t k) t := by
  unfold State.setStep
  extract_lets up src s
  have hs : Within L s t := .step (h (by decide)) (.ctr t _) .rfl
  exact .ite .rfl (.ite ((State.event_within (h (by decide)) (sub_of h rfl)).trans hs) ((State.event_within (h (by decide)) (sub_of h rfl)).trans hs))

/-- What `State.tripBegins` may change. -/
def tripBeginsParts : List Part :=
  abortTestParts ++ [.ctls, .cmds, .cpls, .ctr, .reg .CTR_EVENTS, .reg .HST_PROMISE_EVENTS]

theorem State.tripBegins_within (h : tripBeginsParts ⊆ L) :
    Within L (State.tripBegins t) t := by
  unfold State.tripBegins
  extract_lets src src1 s s1 s2
  have hs : Within L s t := .update [.cmds, .plt, .ctr] (sub_of h rfl) .rfl rfl
  have hs1 : Within L s1 t := (State.suspRecord_within (sub_of h rfl)).trans ((State.abortTests_within (sub_of h rfl)).trans hs)
  have hs2 : Within L s2 t := (Within.foldl fun u x => State.promise_within (h (by decide)) (sub_of h rfl)).trans hs1
  exact (State.setStep_within (sub_of h rfl)).trans ((State.event_within (h (by decide)) (sub_of h rfl)).trans hs2)

/-- What `State.tripClears` may change. -/
def tripClearsParts : List Part :=
  startTestsParts ++ [.ctr, .reg .CTR_EVENTS]

theorem State.tripClears_within (h : tripClearsParts ⊆ L) :
    Within L (State.tripClears t) t := by
  unfold State.tripClears
  extract_lets src src1 s
  have hs : Within L s t := .update [.plt, .ctr] (sub_of h rfl) .rfl rfl
  exact (State.startQueued_within (sub_of h rfl)).trans ((State.event_within (h (by decide)) (sub_of h rfl)).trans ((State.suspRecord_within (sub_of h rfl)).trans ((State.setStep_within (sub_of h rfl)).trans hs)))

theorem State.stepDecision_within (h : tripBeginsParts ⊆ L) :
    Within L (State.stepDecision t) t := by
  unfold State.stepDecision
  extract_lets rise src s s1 s2 src1 f s3 src2
  have hs : Within L s t := .step (h (by decide)) (.ctr t _) .rfl
  have hs1 : Within L s1 t := .ite ((State.event_within (h (by decide)) (sub_of h rfl)).trans hs) hs
  have hs2 : Within L s2 t := .ite ((State.abortTests_within (sub_of h rfl)).trans ((State.event_within (h (by decide)) (sub_of h rfl)).trans hs1)) hs1
  have hs3 : Within L s3 t := (State.setStep_within (sub_of h rfl)).trans hs2
  exact .ite hs2 (.ite (.step (h (by decide)) (.ctr s2 _) hs2) (.ite ((State.tripBegins_within h).trans hs2) (.ite ((State.setStep_within (sub_of h rfl)).trans hs2) (.ite (.step (h (by decide)) (.ctr s3 _) hs3) (.ite (.ite ((State.setStep_within (sub_of h rfl)).trans hs2) hs2) (.ite ((State.setStep_within (sub_of h rfl)).trans hs2) hs2))))))

theorem State.nameCandidate_within (h : .ctr ∈ L) :
    Within L (State.nameCandidate t) t := by
  unfold State.nameCandidate
  extract_lets c src
  exact .ite .rfl (.step h (.ctr t _) .rfl)

theorem State.grantQuiet_within (h : [.plt, .ctr] ⊆ L) :
    Within L (State.grantQuiet t) t := by
  unfold State.grantQuiet
  extract_lets src src1
  clear_value src src1
  split
  · exact .rfl
  · rename_i x x1 e
    extract_lets s
    have hs : Within L s t := (State.spendHk_within (h (by decide))).trans (.update [.plt, .ctr] h .rfl rfl)
    exact .ite .rfl ((Within.foldl fun u x => State.addClosed_within (h (by decide))).trans hs)

theorem State.demandSample_within {input : ℕ} (h : .ctr ∈ L) :
    Within L (State.demandSample t input) t := by
  unfold State.demandSample
  extract_lets d d' src
  exact .step h (.ctr t _) .rfl

theorem State.naturalAnchors_within (h : .ctr ∈ L) :
    Within L (State.naturalAnchors t) t := by
  unfold State.naturalAnchors
  exact Within.foldl fun u x => .ite (State.demandSample_within h) .rfl

theorem State.retrainCheck_within (h : .fch ∈ L) :
    Within L (State.retrainCheck t) t := by
  unfold State.retrainCheck
  exact Within.foldl fun u x => .ite (State.setChan_within h) .rfl

theorem State.checkWarning_within {f : ℕ} (h : [.out, .mgmt, .ctls, .cpls, .reg .CHR_ALERT_STATUS] ⊆ L) :
    Within L (State.checkWarning t f) t := by
  unfold State.checkWarning
  extract_lets c w new s
  have hs : Within L s t := State.setCtl_within (h (by decide))
  exact .ite .rfl (.ite hs ((Within.foldl fun u x => State.asyncEvent_within (sub_of h rfl)).trans ((State.alert_within (h (by decide)) (h (by decide)) (h (by decide))).trans hs)))

theorem State.checkWarnings_within (h : [.out, .mgmt, .ctls, .cpls, .reg .CHR_ALERT_STATUS] ⊆ L) :
    Within L (State.checkWarnings t) t := by
  unfold State.checkWarnings
  refine (Within.foldl fun u x => ?_).trans ?_
  · exact State.checkWarning_within h
  · exact State.checkWarning_within h

theorem execCcEnSet_runs {fn : ℕ} {iosqes : ℕ} {iocqes : ℕ} {asqs : ℕ} {acqs : ℕ} (h : [.ctls, .sqs, .cqs] ⊆ L) :
    Runs L t (execCcEnSet fn iosqes iocqes asqs acqs t) := by
  unfold execCcEnSet
  extract_lets c c1 s s1
  have hs : Within L s t := State.setCtl_within (h (by decide))
  have hs1 : Within L s1 t := (State.setSq_within (h (by decide))).trans hs
  clear_value c c1 s s1
  refine .ite ?_ ?_
  · exact .next .rfl
  · refine .ite ?_ ?_
    · exact .next (State.setCtl_within (h (by decide)))
    · exact .next ((State.setCq_within (h (by decide))).trans hs1)

theorem execCcEnClear_runs {fn : ℕ} (h : resetFnParts ⊆ L) :
    Runs L t (execCcEnClear fn t) := by
  unfold execCcEnClear
  extract_lets c t1 src
  have ht1 : Within L t1 t := State.resetFn_within h
  clear_value c t1 src
  refine .ite ?_ ?_
  · exact .next .rfl
  · exact .next ((State.setCtl_within (h (by decide))).trans ht1)

theorem execCcShnWrite_runs {fn : ℕ} {shn : ℕ} (h : .ctls ∈ L) :
    Runs L t (execCcShnWrite fn shn t) := by
  unfold execCcShnWrite
  extract_lets c
  clear_value c
  refine .ite ?_ ?_
  · exact .next (State.setCtl_within h)
  · exact .next ((State.shutdownCheck_within h).trans (State.setCtl_within h))

theorem execDeviceShutdownFlush_runs (h : [.atl, .svy] ⊆ L) :
    Runs L t (execDeviceShutdownFlush t) := by
  unfold execDeviceShutdownFlush
  extract_lets l
  clear_value l
  refine .ite ?_ ?_
  · exact .next .rfl
  · refine .ite ?_ ?_
    · exact .next .rfl
    · exact .next (State.spillAll_within h)

theorem execCreateIoSubmissionQueue_runs {a : AdminHdr} {qid : ℕ} {size : ℕ} {cqid : ℕ} {pc : Bool} (h : [.out, .ctls, .sqs, .cpls] ⊆ L) :
    Runs L t (execCreateIoSubmissionQueue a qid size cqid pc t) := by
  unfold execCreateIoSubmissionQueue
  extract_lets c cls s
  have hs : Within L s t := State.setSq_within (h (by decide))
  clear_value c cls s
  refine .ite ?_ ?_
  · exact .next (State.adminErr_within (sub_of h rfl))
  · refine .ite ?_ ?_
    · exact .next (State.adminErr_within (sub_of h rfl))
    · refine .ite ?_ ?_
      · exact .next (State.adminErr_within (sub_of h rfl))
      · refine .ite ?_ ?_
        · exact .next (State.adminErr_within (sub_of h rfl))
        · exact .next ((State.adminDone_within (sub_of h rfl)).trans hs)

theorem execCreateIoCompletionQueue_runs {a : AdminHdr} {qid : ℕ} {size : ℕ} {vector : ℕ} {pc : Bool} {ien : Bool} (h : [.out, .ctls, .cqs, .cpls] ⊆ L) :
    Runs L t (execCreateIoCompletionQueue a qid size vector pc ien t) := by
  unfold execCreateIoCompletionQueue
  extract_lets c s
  have hs : Within L s t := State.setCq_within (h (by decide))
  clear_value c s
  refine .ite ?_ ?_
  · exact .next (State.adminErr_within (sub_of h rfl))
  · refine .ite ?_ ?_
    · exact .next (State.adminErr_within (sub_of h rfl))
    · refine .ite ?_ ?_
      · exact .next (State.adminErr_within (sub_of h rfl))
      · refine .ite ?_ ?_
        · exact .next (State.adminErr_within (sub_of h rfl))
        · exact .next ((State.adminDone_within (sub_of h rfl)).trans hs)

theorem State.abortForDeletion_within {c : Cmd} (h : readLostParts ⊆ L) :
    Within L (State.abortForDeletion t c) t := by
  unfold State.abortForDeletion
  extract_lets s s1
  have hs : Within L s t := State.release_within (sub_of h rfl)
  have hs1 : Within L s1 t := (State.mapCmd_within (h (by decide))).trans hs
  exact .ite (State.mapCmd_within (h (by decide))) ((State.endCmd_within (sub_of h rfl)).trans hs1)

/-- What `execDeleteIoSubmissionQueue` may change. -/
def execDeleteIoSubmissionQueueParts : List Part :=
  readLostParts ++ [.sqs, .reg .HST_PROMISE_EVENTS]

theorem execDeleteIoSubmissionQueue_runs {a : AdminHdr} {qid : ℕ} (h : execDeleteIoSubmissionQueueParts ⊆ L) :
    Runs L t (execDeleteIoSubmissionQueue a qid t) := by
  unfold execDeleteIoSubmissionQueue
  extract_lets mine lost s s1 s2
  have hs : Within L s t := Within.foldl fun u x => State.abortForDeletion_within (sub_of h rfl)
  have hs1 : Within L s1 t := (State.setSq_within (h (by decide))).trans hs
  have hs2 : Within L s2 t := (State.suspRecord_within (sub_of h rfl)).trans ((State.suspRecord_within (sub_of h rfl)).trans (.ite ((State.promise_within (h (by decide)) (sub_of h rfl)).trans hs1) hs1))
  clear_value mine lost s s1 s2
  refine .ite ?_ ?_
  · exact .next (State.adminErr_within (sub_of h rfl))
  · exact .next ((State.adminDone_within (sub_of h rfl)).trans hs2)

theorem execDeleteIoCompletionQueue_runs {a : AdminHdr} {qid : ℕ} (h : [.out, .ctls, .cqs, .cpls] ⊆ L) :
    Runs L t (execDeleteIoCompletionQueue a qid t) := by
  unfold execDeleteIoCompletionQueue
  refine .ite ?_ ?_
  · exact .next (State.adminErr_within (sub_of h rfl))
  · refine .ite ?_ ?_
    · exact .next (State.adminErr_within (sub_of h rfl))
    · exact .next ((State.adminDone_within (sub_of h rfl)).trans (State.setCq_within (h (by decide))))

theorem execIdentify_runs {a : AdminHdr} {cns : ℕ} {cntid : ℕ} (h : adminParts ⊆ L) :
    Runs L t (execIdentify a cns cntid t) := by
  have done : ∀ d, Runs L t (resOf (t.adminDone a Sc.success 0#32 d)) := fun d => .next (State.adminDone_within h)
  have err : ∀ k, Runs L t (resOf (t.adminErr a k)) := fun k => .next (State.adminErr_within h)
  unfold execIdentify
  extract_lets ok ns
  have hns : ∀ g, Runs L t (ns g) := by
    intro g
    unfold ns
    split
    · exact done _
    · exact err _
  clear_value ns
  split
  · exact hns _
  · exact done _
  · exact done _
  · exact hns _
  · exact hns _
  · exact done _
  · exact hns _
  · exact done _
  · exact err _

theorem State.applyPs_within (h : toServiceParts ⊆ L) :
    Within L (State.applyPs t) t := by
  unfold State.applyPs
  split
  · exact .rfl
  · extract_lets p
    exact .ite (State.takeState_within h) .rfl

theorem State.setFeature_within {a : AdminHdr} {fid : ℕ} {w : BitVec 32} {data : List ℕ} (h : alarmFiresParts ⊆ L) :
    Within L (State.setFeature t a fid w data).2.1 t := by
  have ctl : ∀ c, Within L (t.setCtl a.fn c) t := fun c => State.setCtl_within (h (by decide))
  unfold State.setFeature
  extract_lets c ok bad nsq ncq q gs gc v tbl ms
  have hok : ∀ c, Within L (ok c).2.1 t := ctl
  have hbad : Within L bad.2.1 t := .rfl
  have pick : ∀ {p : Prop} [Decidable p] {x y : ℕ × State × W32}, Within L x.2.1 t → Within L y.2.1 t →
      Within L (if p then x else y).2.1 t := by
    intro p _ x y hx hy
    split <;> assumption
  clear_value ok bad
  split
  · exact hok _
  · exact pick hbad ((State.applyPs_within (sub_of h rfl)).trans (ctl _))
  · exact pick hbad (pick (hok _) (pick (hok _) hbad))
  · exact pick hbad (pick .rfl (ctl _))
  · exact hok _
  · exact pick hbad (hok _)
  · exact hok _
  · exact hok _
  · exact pick hbad (hok _)
  · exact pick hbad (State.setDatum_within (sub_of h rfl))
  · exact hbad

theorem execSetFeatures_runs {a : AdminHdr} {fid : ℕ} {sv : Bool} {dw11 : BitVec 32} {data : List ℕ} (h : alarmFiresParts ⊆ L) :
    Runs L t (execSetFeatures a fid sv dw11 data t) := by
  unfold execSetFeatures
  extract_lets r
  have hr : Within L r.2.1 t := State.setFeature_within h
  clear_value r
  refine .ite ?_ ?_
  · exact .next (State.adminErr_within (sub_of h rfl))
  · exact .next ((State.adminDone_within (sub_of h rfl)).trans hr)

theorem execGetFeatures_runs {a : AdminHdr} {fid : ℕ} {sel : ℕ} {dw11 : BitVec 32} (h : adminParts ⊆ L) :
    Runs L t (execGetFeatures a fid sel dw11 t) := by
  unfold execGetFeatures
  extract_lets c
  clear_value c
  split
  · exact .next (State.adminErr_within h)
  · refine .ite ?_ ?_
    · exact .next (State.adminErr_within h)
    · refine .ite ?_ ?_
      · exact .next (State.adminDone_within h)
      · exact .next (State.adminDone_within h)

theorem State.clearLost_within {fn : ℕ} {lpo : ℕ} {len : ℕ} (h : .par ∈ L) :
    Within L (State.clearLost t fn lpo len) t := by
  unfold State.clearLost
  extract_lets l got back src
  exact .step h (.par t _) .rfl

theorem execGetLogPage_runs {a : AdminHdr} {lid : ℕ} {lsp : ℕ} {numd : ℕ} {lpo : ℕ} {rae : Bool} (h : [.out, .ctls, .cpls, .par] ⊆ L) :
    Runs L t (execGetLogPage a lid lsp numd lpo rae t) := by
  unfold execGetLogPage
  extract_lets len s c c' s1
  have hs : Within L s t := .ite (State.clearLost_within (h (by decide))) .rfl
  have hs1 : Within L s1 t := .ite hs ((State.setCtl_within (h (by decide))).trans hs)
  clear_value len s c c' s1
  split
  · exact .next (State.adminErr_within (sub_of h rfl))
  · extract_lets page d
    clear_value page d
    refine .ite ?_ ?_
    · exact .next (State.adminErr_within (sub_of h rfl))
    · refine .ite ?_ ?_
      · exact .next (State.adminErr_within (sub_of h rfl))
      · exact .next ((State.adminDone_within (sub_of h rfl)).trans hs1)

theorem execAbort_runs {a : AdminHdr} {sqid : ℕ} {victim : ℕ} (h : adminParts ⊆ L) :
    Runs L t (execAbort a sqid victim t) := by
  unfold execAbort
  extract_lets c
  clear_value c
  refine .ite ?_ ?_
  · exact .next (State.adminErr_within h)
  · exact .next ((State.adminDone_within h).trans (State.setCtl_within (h (by decide))))

theorem execAsynchronousEventRequest_runs {a : AdminHdr} (h : adminParts ⊆ L) :
    Runs L t (execAsynchronousEventRequest a t) := by
  unfold execAsynchronousEventRequest
  extract_lets c s
  have hs : Within L s t := State.setCtl_within (h (by decide))
  clear_value c s
  refine .ite ?_ ?_
  · exact .next (State.adminErr_within h)
  · split
    · exact .next hs
    · exact .next ((State.asyncEvent_within h).trans hs)

theorem execAsyncEventReport_runs {fn : ℕ} {event : ℕ} (h : adminParts ⊆ L) :
    Runs L t (execAsyncEventReport fn event t) := by
  unfold execAsyncEventReport
  exact .next (State.asyncEvent_within h)

theorem execFormatNvm_runs {a : AdminHdr} {lbaf : ℕ} {pi : ℕ} {pil : ℕ} {mset : ℕ} {ses : ℕ} (h : formatNowParts ⊆ L) :
    Runs L t (execFormatNvm a lbaf pi pil mset ses t) := by
  unfold execFormatNvm
  extract_lets src
  clear_value src
  refine .ite ?_ ?_
  · exact .next (State.adminErr_within (sub_of h rfl))
  · split
    · exact .next (State.adminErr_within (sub_of h rfl))
    · extract_lets n' s
      have hs : Within L s t := .step (h (by decide)) (.atl t _) .rfl
      clear_value n' s
      refine .ite ?_ ?_
      · exact .next (State.adminErr_within (sub_of h rfl))
      · refine .ite ?_ ?_
        · exact .next (State.adminErr_within (sub_of h rfl))
        · refine .ite ?_ ?_
          · exact .next (State.adminErr_within (sub_of h rfl))
          · exact .next ((State.formatCheck_within h).trans hs)

theorem execAdminInvalidOpcode_runs {a : AdminHdr} {opcode : ℕ} (h : adminParts ⊆ L) :
    Runs L t (execAdminInvalidOpcode a opcode t) := by
  unfold execAdminInvalidOpcode
  exact .next (State.adminErr_within h)

/-- What `State.countReads` may change. -/
def countReadsParts : List Part :=
  [.out, .gaz, .mgmt, .fns, .plt, .atl, .svy, .reg .SVY_MEDIA_EVENTS, .reg .CHR_ALERT_STATUS, .reg .GAZ_COUNTS]

theorem State.countReads_within {b : ℕ} {sh : ℕ} {n : ℕ} (h : countReadsParts ⊆ L) :
    Within L (State.countReads t b sh n) t := by
  unfold State.countReads
  extract_lets x c c' s lim
  have hs : Within L s t := State.setBand_within (h (by decide))
  exact .ite .rfl (.ite ((State.queueRefresh_within (sub_of h rfl)).trans ((State.event_within (h (by decide)) (sub_of h rfl)).trans hs)) hs)

theorem State.oweRebuild_within {b : ℕ} {sh : ℕ} (h : .plt ∈ L) :
    Within L (State.oweRebuild t b sh) t := by
  unfold State.oweRebuild
  exact (State.oweDie_within h).trans (State.owe_within h)

theorem State.startRebuild_within {b : ℕ} {sh : ℕ} (h : [.plt, .atl, .svy] ⊆ L) :
    Within L (State.startRebuild t b sh) t := by
  unfold State.startRebuild
  extract_lets x
  exact .ite .rfl ((State.oweRebuild_within (h (by decide))).trans (State.moveBand_within (sub_of h rfl)))

theorem State.toRetire_within {b : ℕ} (h : [.plt, .atl, .svy] ⊆ L) :
    Within L (State.toRetire t b) t := by
  unfold State.toRetire
  exact (State.queueRefresh_within h).trans (State.moveBand_within (sub_of h rfl))

theorem State.gbbFence_within {d : ℕ} (h : faultParts ⊆ L) :
    Within L (State.gbbFence t d) t := by
  unfold State.gbbFence
  extract_lets n bad s src
  have hs : Within L s t := State.event_within (h (by decide)) (sub_of h rfl)
  exact .ite ((State.raiseAt_within h).trans (.step (h (by decide)) (.svy s _) hs)) .rfl

/-- What `State.gbbBand` may change. -/
def gbbBandParts : List Part :=
  closeShortParts ++ [.media, .reg .SVY_MEDIA_EVENTS]

theorem State.gbbBand_within {b : ℕ} {sh : ℕ} {row : ℕ} (h : gbbBandParts ⊆ L) :
    Within L (State.gbbBand t b sh row) t := by
  unfold State.gbbBand
  extract_lets x d
  clear_value x d
  split
  · split
    · rename_i x2 u e1
      have hu : Within L u t := State.substitute_within (sub_of h rfl) _ e1
      exact (State.pushOp_within (h (by decide))).trans ((State.startRebuild_within (sub_of h rfl)).trans hu)
    · exact (State.toRetire_within (sub_of h rfl)).trans ((State.closeFull_within (sub_of h rfl)).trans (State.eraseAt_within (sub_of h rfl)))
  · split
    · rename_i x2 u e1
      have hu : Within L u t := State.substitute_within (sub_of h rfl) _ e1
      exact (State.startRebuild_within (sub_of h rfl)).trans hu
    · exact State.toRetire_within (sub_of h rfl)
  · exact .ite (State.moveBand_within (sub_of h rfl)) (State.moveBand_within (sub_of h rfl))
  · exact .ite (State.moveBand_within (sub_of h rfl)) (State.moveBand_within (sub_of h rfl))
  · split
    · rename_i x2 u e1
      have hu : Within L u t := State.substitute_within (sub_of h rfl) _ e1
      exact (State.pushErase_within (h (by decide))).trans hu
    · exact State.retireBand_within (sub_of h rfl)
  · exact .rfl
  · exact .rfl

theorem State.grownBad_within {b : ℕ} {sh : ℕ} {row : ℕ} (h : faultParts ⊆ L) :
    Within L (State.grownBad t b sh row) t := by
  unfold State.grownBad
  extract_lets d k l src s s1
  have hs : Within L s t := .step (h (by decide)) (.svy t _) .rfl
  have hs1 : Within L s1 t := (State.event_within (h (by decide)) (sub_of h rfl)).trans ((State.mediaCount_within (h (by decide))).trans hs)
  exact .ite .rfl ((State.gbbFence_within h).trans ((State.gbbBand_within (sub_of h rfl)).trans hs1))

theorem State.freeMark_within {i : ℕ} {was : ℕ} {now : ℕ} {first : Bool} (h : [.out, .gaz, .mgmt, .fns, .reg .SVY_FREE_WM, .reg .CHR_ALERT_STATUS, .reg .GAZ_COUNTS] ⊆ L) :
    Within L (State.freeMark t i was now first) t := by
  unfold State.freeMark
  extract_lets l
  exact .ite ((State.event_within (h (by decide)) (sub_of h rfl)).trans (State.bump_within (h (by decide)))) .rfl

theorem State.stopWrites_within (h : [.out, .gaz, .mgmt, .fns, .svy, .reg .SVY_MEDIA_EVENTS, .reg .CHR_ALERT_STATUS, .reg .GAZ_COUNTS] ⊆ L) :
    Within L (State.stopWrites t) t := by
  unfold State.stopWrites
  extract_lets can src
  exact .ite .rfl ((State.event_within (h (by decide)) (sub_of h rfl)).trans (.step (h (by decide)) (.svy t _) .rfl))

theorem State.openBand_within {b : ℕ} {cls : ℕ} (h : [.atl, .svy] ⊆ L) :
    Within L (State.openBand t b cls) t := by
  unfold State.openBand
  extract_lets src s src1
  have hs : Within L s t := .step (h (by decide)) (.svy t _) .rfl
  exact (State.moveBand_within h).trans hs

theorem State.armAgain_within (h : [.out, .gaz, .mgmt, .pwr, .fns, .reg .PWR_EVENTS, .reg .CHR_ALERT_STATUS, .reg .GAZ_COUNTS] ⊆ L) :
    Within L (State.armAgain t) t := by
  unfold State.armAgain
  extract_lets src
  clear_value src
  split
  · exact .rfl
  · exact .ite ((State.recomputeBudget_within h).trans (.step (h (by decide)) (.pwr t _) .rfl)) .rfl

/-- What `State.erasePassed` may change. -/
def erasePassedParts : List Part :=
  [.out, .gaz, .mgmt, .pwr, .fns, .atl, .svy, .reg .PWR_EVENTS, .reg .CHR_ALERT_STATUS, .reg .GAZ_COUNTS]

theorem State.erasePassed_within {b : ℕ} {sh : ℕ} (h : erasePassedParts ⊆ L) :
    Within L (State.erasePassed t b sh) t := by
  unfold State.erasePassed
  extract_lets x x1 s
  have hs : Within L s t := (State.freeUp_within (sub_of h rfl)).trans (State.setBand_within (h (by decide)))
  exact .ite (.ite ((State.armAgain_within (sub_of h rfl)).trans hs) hs) (State.setBand_within (h (by decide)))

theorem State.rowDone_within {b : ℕ} {row : ℕ} (h : closeShortParts ⊆ L) :
    Within L (State.rowDone t b row) t := by
  unfold State.rowDone
  extract_lets x
  exact .ite (State.closeFull_within h) .rfl

theorem State.programPass_within {b : ℕ} {row : ℕ} {sh : ℕ} {epoch : ℕ} (h : closeShortParts ⊆ L) :
    Within L (State.programPass t b row sh epoch) t := by
  unfold State.programPass
  split
  · exact .rfl
  next k x e =>
    extract_lets y z s host reloc w u
    have hs : Within L s t := State.setBand_within (h (by decide))
    have hu : Within L u t := .step (h (by decide)) (.svy s _) hs
    have slot : ∀ y, Within L (u.setJslot k y) t := fun y => (State.setJslot_within (sub_of h rfl)).trans hu
    exact .ite .rfl (.ite ((State.rowDone_within (sub_of h rfl)).trans (slot _)) (slot _))

/-- What `State.rowLost` may change. -/
def rowLostParts : List Part :=
  poisonIuParts ++ [.ctls, .cpls, .media, .par, .reg .PAR_EVENTS, .reg .PAR_LOST]

theorem State.rowLost_within {b : ℕ} {row : ℕ} {erased : List ℕ} (h : rowLostParts ⊆ L) :
    Within L (State.rowLost t b row erased) t := by
  unfold State.rowLost
  extract_lets x data ks fs s s1 m src s2 s3 s4 s5
  have hs : Within L s t := State.moveBand_within (sub_of h rfl)
  have hs1 : Within L s1 t := (Within.foldl fun u x => State.poisonIu_within (sub_of h rfl)).trans hs
  have hs2 : Within L s2 t := .ite ((State.event_within (h (by decide)) (sub_of h rfl)).trans hs1) (.step (h (by decide)) (.par s1 _) hs1)
  have hs3 : Within L s3 t := (State.record_within (sub_of h rfl)).trans hs2
  have hs4 : Within L s4 t := (State.event_within (h (by decide)) (sub_of h rfl)).trans ((State.mediaCount_within (h (by decide))).trans ((State.bump_within (h (by decide))).trans hs3))
  have hs5 : Within L s5 t := (Within.foldl fun u x => State.asyncEvent_within (sub_of h rfl)).trans hs4
  exact .ite .rfl (.ite ((State.queueRefresh_within (sub_of h rfl)).trans hs5) hs5)

theorem State.relocRead_within {addr : ℕ} (h : countReadsParts ⊆ L) :
    OptWithin L (fun u => u) (State.relocRead t addr) t := by
  unfold State.relocRead
  extract_lets b row d n l
  clear_value b row d n l
  refine .ite ?_ ?_
  · exact .some (State.countReads_within h)
  · refine .ite ?_ ?_
    · exact .none
    · exact .some (Within.foldl fun u x => State.countReads_within h)

theorem execAtlasLookup_runs {pool : ℕ} {iu : ℕ} (h : [.out, .atl] ⊆ L) :
    Runs L t (execAtlasLookup pool iu t) := by
  unfold execAtlasLookup
  extract_lets key k t1
  have ht1 : Within L t1 t := .ite .rfl (State.obtain_within (h (by decide)))
  clear_value key k t1
  split
  · exact .next .rfl
  · refine .ite ?_ ?_
    · exact .next (State.emit_within (sub_of h rfl))
    · refine .ite ?_ ?_
      · exact .next (State.emit_within (sub_of h rfl))
      · exact .next ((State.emit_within (sub_of h rfl)).trans ht1)

theorem State.afterProgram_within {a : ℕ} (h : [.ctls, .cmds, .cpls, .media] ⊆ L) :
    Within L (State.afterProgram t a) t := by
  unfold State.afterProgram
  extract_lets before
  exact (State.wakeWaiters_within h).trans ((State.fuaDone_within h).trans (State.programPassed_within (h (by decide))))

/-- What `State.applyUpd` may change. -/
def applyUpdParts : List Part :=
  programDoneParts ++ [.ctls, .cmds, .cpls, .media]

theorem State.applyUpd_within {u : QUpd} (h : applyUpdParts ⊆ L) :
    Within L (State.applyUpd t u) t := by
  unfold State.applyUpd
  split
  · exact State.putAll_within (sub_of h rfl)
  · exact (State.afterProgram_within (sub_of h rfl)).trans (State.programDone_within (sub_of h rfl))
  · exact State.relocateEnt_within (sub_of h rfl)
  · exact State.discardNow_within (sub_of h rfl)

theorem State.retryUpds_within (h : applyUpdParts ⊆ L) :
    Within L (State.retryUpds t) t := by
  unfold State.retryUpds
  extract_lets l src s
  have hs : Within L s t := .step (h (by decide)) (.atl t _) .rfl
  clear_value l src s
  refine .ite ?_ ?_
  · exact .rfl
  · refine (State.segsBack_within (sub_of h rfl)).trans ?_
    refine (Within.foldl fun u x => ?_).trans ?_
    · refine .ite ?_ ?_
      · exact .ite (State.queueUpd_within (h (by decide))) (State.applyUpd_within h)
      · split
        · rename_i x1 u1 e
          have hu1 : Within L u1 u := State.readySegs_within (h (by decide)) _ e
          exact (State.applyUpd_within h).trans hu1
        · exact State.queueUpd_within (h (by decide))
    · exact hs

theorem execProgramDone_runs {pool : ℕ} {iu : ℕ} {slot : ℕ} {addr : ℕ} (h : applyUpdParts ⊆ L) :
    Runs L t (execProgramDone pool iu slot addr t) := by
  unfold execProgramDone
  extract_lets key ep
  clear_value key ep
  refine .ite ?_ ?_
  · exact .next .rfl
  · split
    · rename_i x u e
      have hu : Within L u t := State.readySegs_within (h (by decide)) _ e
      exact .next ((State.afterProgram_within (sub_of h rfl)).trans ((State.programDone_within (sub_of h rfl)).trans hu))
    · exact .next (State.queueUpd_within (h (by decide)))

theorem execRelocate_runs {pool : ℕ} {iu : ℕ} {old : ℕ} {new : ℕ} (h : programDoneParts ⊆ L) :
    Runs L t (execRelocate pool iu old new t) := by
  unfold execRelocate
  refine .ite ?_ ?_
  · exact .next (State.relocate_within h)
  · exact .next .rfl

theorem execDiscard_runs {pool : ℕ} {iu : ℕ} (h : poisonIuParts ⊆ L) :
    Runs L t (execDiscard pool iu t) := by
  unfold execDiscard
  refine .ite ?_ ?_
  · exact .next (State.discardRanges_within h)
  · exact .next .rfl

theorem execPoison_runs {pool : ℕ} {iu : ℕ} {reason : ℕ} (h : poisonIuParts ⊆ L) :
    Runs L t (execPoison pool iu reason t) := by
  unfold execPoison
  refine .ite ?_ ?_
  · exact .next (State.poisonIu_within h)
  · exact .next .rfl

theorem execSegGet_runs {seg : ℕ} {requester : ℕ} (h : .atl ∈ L) :
    Runs L t (execSegGet seg requester t) := by
  unfold execSegGet
  extract_lets src ask
  have hask : Within L ask t := .step h (.atl t _) .rfl
  clear_value src ask
  refine .ite ?_ ?_
  · exact .next .rfl
  · split
    · exact .next (State.setDir_within h)
    · refine .ite ?_ ?_
      · exact .next .rfl
      · exact .next hask
    · exact .next hask

theorem execSnoop_runs {holder : ℕ} {seg : ℕ} {requester : ℕ} (h : [.out, .atl] ⊆ L) :
    Runs L t (execSnoop holder seg requester t) := by
  unfold execSnoop
  extract_lets g
  clear_value g
  refine .ite ?_ ?_
  · exact .next .rfl
  · split
    · exact .next ((State.emit_within (sub_of h rfl)).trans (State.setAtlEng_within (h (by decide))))
    · split
      · exact .next (State.emit_within (sub_of h rfl))
      · exact .next .rfl

theorem execSegmentReceived_runs {engine : ℕ} {seg : ℕ} {dirty : Bool} (h : .atl ∈ L) :
    Runs L t (execSegmentReceived engine seg dirty t) := by
  unfold execSegmentReceived
  extract_lets g
  clear_value g
  refine .ite ?_ ?_
  · exact .next .rfl
  · exact .next (State.setAtlEng_within h)

theorem execSnoopDone_runs {seg : ℕ} {requester : ℕ} (h : applyUpdParts ⊆ L) :
    Runs L t (execSnoopDone seg requester t) := by
  unfold execSnoopDone
  extract_lets was src s s1
  have hs : Within L s t := .step (h (by decide)) (.atl t _) .rfl
  have hs1 : Within L s1 t := (State.setDir_within (h (by decide))).trans hs
  clear_value was src s s1
  refine .ite ?_ ?_
  · exact .next .rfl
  · split
    · extract_lets g
      clear_value g
      exact .next ((State.retryUpds_within h).trans ((State.setAtlEng_within (h (by decide))).trans hs1))
    · exact .next ((State.retryUpds_within h).trans hs1)

theorem execSegmentEvict_runs {engine : ℕ} {seg : ℕ} (h : .atl ∈ L) :
    Runs L t (execSegmentEvict engine seg t) := by
  unfold execSegmentEvict
  extract_lets g
  clear_value g
  split
  · exact .next .rfl
  · extract_lets s
    have hs : Within L s t := State.setAtlEng_within h
    clear_value s
    refine .ite ?_ ?_
    · exact .next .rfl
    · exact .next (.ite ((State.startWb_within h).trans hs) hs)

theorem execEvictNotice_runs {engine : ℕ} {seg : ℕ} (h : .atl ∈ L) :
    Runs L t (execEvictNotice engine seg t) := by
  unfold execEvictNotice
  refine .ite ?_ ?_
  · exact .next (State.setDir_within h)
  · exact .next .rfl

theorem execSegmentWritebackComplete_runs {engine : ℕ} {seg : ℕ} (h : [.out, .atl] ⊆ L) :
    Runs L t (execSegmentWritebackComplete engine seg t) := by
  unfold execSegmentWritebackComplete
  extract_lets x
  clear_value x
  split
  · exact .next .rfl
  · extract_lets s src s1 s2 g s3 src1
    have hs : Within L s t := State.setSeg_within (h (by decide))
    have hs1 : Within L s1 t := .step (h (by decide)) (.atl s _) hs
    have hs2 : Within L s2 t := (State.emit_within (sub_of h rfl)).trans hs1
    have hs3 : Within L s3 t := (State.setAtlEng_within (h (by decide))).trans hs2
    clear_value s src s1 s2 g s3 src1
    exact .next (.step (h (by decide)) (.atl s3 _) hs3)

theorem State.retireBuf_within {engine : ℕ} {seg : ℕ} (h : .atl ∈ L) :
    Within L (State.retireBuf t engine seg) t := by
  unfold State.retireBuf
  extract_lets g
  exact State.setAtlEng_within h

theorem execEvictAck_runs {engine : ℕ} {seg : ℕ} (h : applyUpdParts ⊆ L) :
    Runs L t (execEvictAck engine seg t) := by
  unfold execEvictAck
  extract_lets g mine clear s
  have hclear : Within L s t := .step (h (by decide)) (.atl t _) .rfl
  have retire : ∀ u, Within L ((u.retireBuf engine seg).retryUpds) u := fun u =>
    (State.retryUpds_within (sub_of h rfl)).trans (State.retireBuf_within (h (by decide)))
  split
  · refine .ite (.next .rfl) (.ite (.ite ?_ ?_) (.ite (.next hclear) (.next ((retire _).trans hclear))))
    · exact .next ((State.setAtlEng_within (h (by decide))).trans hclear)
    · exact .next ((State.retryUpds_within (sub_of h rfl)).trans ((State.setDir_within (h (by decide))).trans
        ((State.retireBuf_within (h (by decide))).trans hclear)))
  · clear_value mine
    split
    · exact .ite (.next .rfl) (.next ((State.retryUpds_within (sub_of h rfl)).trans
        ((State.setAtlEng_within (h (by decide))).trans hclear)))
    · exact .next .rfl

end

end Sys2Proof.Machine
end

section
/-! SUPPORT. What each function of the model may change, function by function (4 of 7): segments, bays, the store and the T-word checks. `X_within` says it
of the state that `X` answers with, `execX_runs` of the command, which also runs on. -/

namespace Sys2Proof.Machine

section
variable {L : List Part} {t : State}

theorem execSegmentLoadComplete_runs {engine : ℕ} {seg : ℕ} {gen : ℕ} {valid : Bool} (h : faultParts ⊆ L) :
    Runs L t (execSegmentLoadComplete engine seg gen valid t) := by
  unfold execSegmentLoadComplete
  extract_lets g
  clear_value g
  refine .ite ?_ ?_
  · exact .next .rfl
  · refine .ite ?_ ?_
    · exact .next (State.segBad_within (h (by decide)) h)
    · refine .ite ?_ ?_
      · exact .next (State.segBad_within (h (by decide)) h)
      · exact .next (State.setAtlEng_within (h (by decide)))

theorem execDirtyMaxExpiry_runs {engine : ℕ} {seg : ℕ} (h : .atl ∈ L) :
    Runs L t (execDirtyMaxExpiry engine seg t) := by
  unfold execDirtyMaxExpiry
  split
  · refine .ite ?_ ?_
    · exact .next (State.startWb_within h)
    · exact .next .rfl
  · exact .next .rfl

theorem execAssemblyWindowEnd_runs {slot : ℕ} {readOk : Bool} (h : closeAsmParts ⊆ L) :
    Runs L t (execAssemblyWindowEnd slot readOk t) := by
  unfold execAssemblyWindowEnd
  split
  · exact .next (State.fillAsm_within h)
  · exact .next .rfl

theorem execJournalBlockSpill_runs (h : [.atl, .svy] ⊆ L) :
    Runs L t (execJournalBlockSpill t) := by
  unfold execJournalBlockSpill
  extract_lets q src
  clear_value q src
  refine .ite ?_ ?_
  · exact .next .rfl
  · exact .next ((State.freeParked_within (h (by decide))).trans ((State.spill_within h).trans (.step (h (by decide)) (.atl t _) .rfl)))

/-- What `execCheckpointCopy` may change. -/
def execCheckpointCopyParts : List Part :=
  [.out, .gaz, .mgmt, .fns, .plt, .atl, .svy, .reg .ATL_JRNL_WM, .reg .CHR_ALERT_STATUS, .reg .GAZ_COUNTS]

theorem execCheckpointCopy_runs {location : ℕ} (h : execCheckpointCopyParts ⊆ L) :
    Runs L t (execCheckpointCopy location t) := by
  unfold execCheckpointCopy
  extract_lets src
  clear_value src
  split
  · exact .next (.step (h (by decide)) (.atl t _) .rfl)
  · extract_lets src1 s src2 s1 s2 n s3 src3 src4
    have hs : Within L s t := State.setSeg_within (h (by decide))
    have hs1 : Within L s1 t := .step (h (by decide)) (.atl s _) hs
    have hs2 : Within L s2 t := (State.journal_within (sub_of h rfl)).trans hs1
    have hs3 : Within L s3 t := (State.mapPass_within (sub_of h rfl)).trans hs2
    clear_value src1 s src2 s1 s2 n s3 src3 src4
    refine .ite ?_ ?_
    · exact .next .rfl
    · refine .ite ?_ ?_
      · exact .next (.step (h (by decide)) (.atl s3 _) hs3)
      · exact .next (.step (h (by decide)) (.atl s2 _) hs2)

theorem execCkptPassOverrun_runs (h : [.out, .gaz, .mgmt, .fns, .atl, .reg .ATL_EVENTS, .reg .CHR_ALERT_STATUS, .reg .GAZ_COUNTS] ⊆ L) :
    Runs L t (execCkptPassOverrun t) := by
  unfold execCkptPassOverrun
  extract_lets src
  clear_value src
  exact .next ((State.event_within (h (by decide)) (sub_of h rfl)).trans (.step (h (by decide)) (.atl t _) .rfl))

theorem execDiscardSweep_runs {pool : ℕ} {seg : ℕ} (h : [.pwr, .plt, .atl, .svy] ⊆ L) :
    Runs L t (execDiscardSweep pool seg t) := by
  unfold execDiscardSweep
  extract_lets k
  clear_value k
  refine .ite ?_ ?_
  · exact .next (State.sweepSeg_within h)
  · exact .next .rfl

theorem State.recoverSeg_within {k : ℕ} {fromDram : Bool} (h : .atl ∈ L) :
    Within L (State.recoverSeg t k fromDram) t := by
  unfold State.recoverSeg
  extract_lets x base from_ recs m src
  exact .ite .rfl (.step h (.atl t _) .rfl)

theorem State.endSuspension_within (h : [.out, .gaz, .mgmt, .atl, .reg .CHR_ALERT_STATUS, .reg .GAZ_COUNTS] ⊆ L) :
    Within L (State.endSuspension t) t := by
  unfold State.endSuspension
  extract_lets done_
  exact Within.foldl fun u x => (State.suspRecord_within (sub_of h rfl)).trans (.step (h (by decide)) (.atl u _) .rfl)

/-- What `execSegmentRecovery` may change. -/
def execSegmentRecoveryParts : List Part :=
  decide_Parts ++ [.reg .ATL_EVENTS, .reg .ATL_CAS_FAIL]

theorem execSegmentRecovery_runs {pool : ℕ} {seg : ℕ} {fromDram : Bool} (h : execSegmentRecoveryParts ⊆ L) :
    Runs L t (execSegmentRecovery pool seg fromDram t) := by
  unfold execSegmentRecovery
  extract_lets k lost s src
  have hs : Within L s t := State.recoverSeg_within (h (by decide))
  clear_value k lost s src
  refine .ite ?_ ?_
  · exact .next .rfl
  · split
    · exact .next (State.record_within (sub_of h rfl))
    · extract_lets s1 src1 s2 s3
      have hs1 : Within L s1 t := .ite ((State.setSeg_within (h (by decide))).trans hs) hs
      have hs2 : Within L s2 t := .step (h (by decide)) (.atl s1 _) hs1
      have hs3 : Within L s3 t := (State.event_within (h (by decide)) (sub_of h rfl)).trans ((State.retryUpds_within (sub_of h rfl)).trans hs2)
      clear_value s1 src1 s2 s3
      exact .next ((State.endSuspension_within (sub_of h rfl)).trans ((State.offerWaiting_within (sub_of h rfl)).trans hs3))

theorem execPresenceEdge_runs {bay : ℕ} {present : Bool} (h : bayParts ⊆ L) :
    Runs L t (execPresenceEdge bay present t) := by
  unfold execPresenceEdge
  extract_lets x s
  have hs : Within L s t := State.setBay_within (h (by decide))
  clear_value x s
  refine .ite ?_ ?_
  · exact .next .rfl
  · refine .ite ?_ ?_
    · exact .next hs
    · refine .ite ?_ ?_
      · exact .next ((State.toBay_within h).trans hs)
      · refine .ite ?_ ?_
        · exact .next ((State.toBay_within h).trans hs)
        · exact .next hs

theorem execPresenceDebounced_runs {bay : ℕ} (h : presenceActParts ⊆ L) :
    Runs L t (execPresenceDebounced bay t) := by
  unfold execPresenceDebounced
  refine .ite ?_ ?_
  · exact .next .rfl
  · exact .next (State.presenceAct_within h)

/-- What `execButtonPress` may change. -/
def execButtonPressParts : List Part :=
  abortRemovalParts ++ [.reg .SHB_BAY]

theorem execButtonPress_runs {bay : ℕ} (h : execButtonPressParts ⊆ L) :
    Runs L t (execButtonPress bay t) := by
  unfold execButtonPress
  extract_lets s src
  have hs : Within L s t := State.setFld_within (h (by decide))
  clear_value s src
  refine .ite ?_ ?_
  · exact .next .rfl
  · refine .ite ?_ ?_
    · exact .next ((State.pressAct_within (sub_of h rfl)).trans hs)
    · exact .next ((State.setBay_within (h (by decide))).trans hs)

theorem execBayPowerStart_runs {bay : ℕ} (h : bayParts ⊆ L) :
    Runs L t (execBayPowerStart bay t) := by
  unfold execBayPowerStart
  extract_lets ok s
  have hs : Within L s t := State.toBay_within h
  clear_value ok s
  refine .ite ?_ ?_
  · exact .next .rfl
  · exact .next (.ite ((State.toBay_within h).trans hs) hs)

theorem execPwrgdRise_runs {bay : ℕ} (h : bayParts ⊆ L) :
    Runs L t (execPwrgdRise bay t) := by
  unfold execPwrgdRise
  extract_lets src s
  have hs : Within L s t := State.setBay_within (h (by decide))
  clear_value src s
  refine .ite ?_ ?_
  · exact .next .rfl
  · refine .ite ?_ ?_
    · exact .next ((State.toBay_within h).trans hs)
    · exact .next hs

/-- What `execPwrgdTimeout` may change. -/
def execPwrgdTimeoutParts : List Part :=
  [.out, .gaz, .mgmt, .fns, .fch, .bays, .reg .SHB_IND, .reg .SHB_EVENTS, .reg .CHR_ALERT_STATUS, .reg .GAZ_COUNTS]

theorem execPwrgdTimeout_runs {bay : ℕ} (h : execPwrgdTimeoutParts ⊆ L) :
    Runs L t (execPwrgdTimeout bay t) := by
  unfold execPwrgdTimeout
  extract_lets x
  clear_value x
  refine .ite ?_ ?_
  · exact .next .rfl
  · exact .next ((State.event_within (h (by decide)) (sub_of h rfl)).trans (State.toBay_within (sub_of h rfl)))

theorem execPwrgdFall_runs {bay : ℕ} (h : presenceActParts ⊆ L) :
    Runs L t (execPwrgdFall bay t) := by
  unfold execPwrgdFall
  extract_lets src s s1 src1 s2
  have hs : Within L s t := State.setBay_within (h (by decide))
  have hs1 : Within L s1 t := (State.diesOff_within (h (by decide))).trans ((State.membersGone_within (h (by decide))).trans ((State.toBay_within (sub_of h rfl)).trans hs))
  have hs2 : Within L s2 t := .step (h (by decide)) (.par s1 _) hs1
  clear_value src s s1 src1 s2
  refine .ite ?_ ?_
  · exact .next .rfl
  · split
    · exact .next ((State.endRemoval_within (sub_of h rfl)).trans ((State.event_within (h (by decide)) (sub_of h rfl)).trans hs2))
    · exact .next ((State.sheetLost_within (sub_of h rfl)).trans ((State.event_within (h (by decide)) (sub_of h rfl)).trans hs))
    · exact .next ((State.sheetLost_within (sub_of h rfl)).trans ((State.event_within (h (by decide)) (sub_of h rfl)).trans hs))
    · exact .next ((State.sheetLost_within (sub_of h rfl)).trans ((State.event_within (h (by decide)) (sub_of h rfl)).trans hs))
    · exact .next ((State.event_within (h (by decide)) (sub_of h rfl)).trans hs)
    · exact .next ((State.event_within (h (by decide)) (sub_of h rfl)).trans hs)
    · exact .next ((State.event_within (h (by decide)) (sub_of h rfl)).trans hs)
    · exact .next ((State.event_within (h (by decide)) (sub_of h rfl)).trans hs)
    · exact .next hs

theorem execIdentityCheck_runs {bay : ℕ} {answered : Bool} {record : List ℕ} (h : execPwrgdTimeoutParts ⊆ L) :
    Runs L t (execIdentityCheck bay answered record t) := by
  unfold execIdentityCheck
  extract_lets src
  clear_value src
  refine .ite ?_ ?_
  · exact .next .rfl
  · refine .ite ?_ ?_
    · exact .next ((State.toBay_within (sub_of h rfl)).trans (State.setBay_within (h (by decide))))
    · exact .next ((State.event_within (h (by decide)) (sub_of h rfl)).trans (State.toBay_within (sub_of h rfl)))

theorem execBayDiscoveryEnd_runs {bay : ℕ} (h : execPwrgdTimeoutParts ⊆ L) :
    Runs L t (execBayDiscoveryEnd bay t) := by
  unfold execBayDiscoveryEnd
  extract_lets n s src
  have hs : Within L s t := State.toBay_within (sub_of h rfl)
  clear_value n s src
  refine .ite ?_ ?_
  · exact .next .rfl
  · refine .ite ?_ ?_
    · exact .next ((State.event_within (h (by decide)) (sub_of h rfl)).trans (State.toBay_within (sub_of h rfl)))
    · exact .next ((State.setBay_within (h (by decide))).trans hs)

/-- What `State.sheetIn` may change. -/
def sheetInParts : List Part :=
  toModeCheckedParts ++ [.media, .atl, .svy, .par, .reg .SVY_MEDIA_EVENTS, .reg .PAR_EVENTS]

theorem State.sheetIn_within {b : ℕ} (h : sheetInParts ⊆ L) :
    Within L (State.sheetIn t b) t := by
  unfold State.sheetIn
  extract_lets src s
  have hs : Within L s t := .step (h (by decide)) (.par t _) .rfl
  exact (State.recheck_within (sub_of h rfl)).trans ((State.layoutStep_within (sub_of h rfl)).trans hs)

/-- What `State.recordedGone` may change. -/
def recordedGoneParts : List Part :=
  sheetGoneParts ++ [.reg .SHB_EVENTS]

theorem State.recordedGone_within {b : ℕ} (h : recordedGoneParts ⊆ L) :
    Within L (State.recordedGone t b) t := by
  unfold State.recordedGone
  extract_lets src s
  have hs : Within L s t := .ite (.step (h (by decide)) (.par t _) .rfl) .rfl
  exact (State.sheetGone_within (sub_of h rfl)).trans ((State.membersGone_within (h (by decide))).trans ((State.event_within (h (by decide)) (sub_of h rfl)).trans hs))

theorem State.joinSheet_within {b : ℕ} (h : recordedGoneParts ⊆ L) :
    Within L (State.joinSheet t b) t := by
  unfold State.joinSheet
  extract_lets src s
  have hs : Within L s t := .step (h (by decide)) (.par t _) .rfl
  clear_value src s
  split
  · exact .ite (.ite ((State.layoutStep_within (sub_of h rfl)).trans ((State.rebuildAfter_within (sub_of h rfl)).trans hs)) hs) ((State.sheetIn_within (sub_of h rfl)).trans ((State.event_within (h (by decide)) (sub_of h rfl)).trans (State.recordedGone_within h)))
  · exact (State.sheetIn_within (sub_of h rfl)).trans (State.event_within (h (by decide)) (sub_of h rfl))

/-- What `State.offerBay` may change. -/
def offerBayParts : List Part :=
  fenceBayParts ++ [.reg .SHB_EVENTS]

theorem State.offerBay_within {b : ℕ} (h : offerBayParts ⊆ L) :
    Within L (State.offerBay t b) t := by
  unfold State.offerBay
  extract_lets x busy s src p src1
  have hs : Within L s t := State.setBay_within (h (by decide))
  have hsrc1 : Within L src1 t := (State.toBay_within (sub_of h rfl)).trans hs
  exact .ite .rfl (.ite (.step (h (by decide)) (.par src1 _) hsrc1) ((State.joinSheet_within (sub_of h rfl)).trans ((State.toBay_within (sub_of h rfl)).trans hs)))

theorem execBayOffer_runs {bay : ℕ} (h : offerBayParts ⊆ L) :
    Runs L t (execBayOffer bay t) := by
  unfold execBayOffer
  refine .ite ?_ ?_
  · exact .next .rfl
  · exact .next (State.offerBay_within h)

/-- What `execAbortWindowExpiry` may change. -/
def execAbortWindowExpiryParts : List Part :=
  [.out, .gaz, .mgmt, .par, .fch, .bays, .reg .SHB_IND, .reg .CHR_ALERT_STATUS, .reg .GAZ_COUNTS]

theorem execAbortWindowExpiry_runs {bay : ℕ} (h : execAbortWindowExpiryParts ⊆ L) :
    Runs L t (execAbortWindowExpiry bay t) := by
  unfold execAbortWindowExpiry
  extract_lets s src
  have hs : Within L s t := State.toBay_within (sub_of h rfl)
  clear_value s src
  refine .ite ?_ ?_
  · exact .next .rfl
  · exact .next (.step (h (by decide)) (.par s _) hs)

theorem execRefusalBlinkEnd_runs {bay : ℕ} (h : .bays ∈ L) :
    Runs L t (execRefusalBlinkEnd bay t) := by
  unfold execRefusalBlinkEnd
  extract_lets x
  clear_value x
  refine .ite ?_ ?_
  · exact .next .rfl
  · exact .next (State.setBay_within h)

theorem execSheetStatus_runs {q : MbxReq} (h : mbxParts ⊆ L) :
    Runs L t (execSheetStatus q t) := by
  unfold execSheetStatus
  refine .next ?_
  refine State.serve_within h (fun u => ?_)
  exact State.respond_within h

/-- What `execSheetOffer` may change. -/
def execSheetOfferParts : List Part :=
  offerBayParts ++ [.mbx, .ops, .reg .MBX_EVENTS]

theorem execSheetOffer_runs {q : MbxReq} (h : execSheetOfferParts ⊆ L) :
    Runs L t (execSheetOffer q t) := by
  unfold execSheetOffer
  extract_lets b
  clear_value b
  refine .next ?_
  refine State.serve_within (sub_of h rfl) (fun u => ?_)
  exact .ite (State.refuse_within (sub_of h rfl)) (.ite (State.refuse_within (sub_of h rfl)) (.ite (State.refuse_within (sub_of h rfl)) ((State.respond_within (sub_of h rfl)).trans ((State.offerBay_within (sub_of h rfl)).trans (State.setBay_within (h (by decide)))))))

/-- What `execSheetRemove` may change. -/
def execSheetRemoveParts : List Part :=
  toServiceParts ++ [.mbx, .ops, .nextHandle, .fch, .bays, .reg .SHB_IND, .reg .SHB_EVENTS, .reg .MBX_EVENTS]

theorem execSheetRemove_runs {q : MbxReq} (h : execSheetRemoveParts ⊆ L) :
    Runs L t (execSheetRemove q t) := by
  unfold execSheetRemove
  extract_lets b
  clear_value b
  refine .next ?_
  refine State.serve_within (sub_of h rfl) (fun u => ?_)
  extract_lets s r s1 src
  have hs : Within L s u := State.toService_within (sub_of h rfl)
  have hr : Within L r.2 u := (State.startLong_within (sub_of h rfl)).trans hs
  have hs1 : Within L s1 u := (State.toBay_within (sub_of h rfl)).trans hr
  clear_value s r s1 src
  refine .ite ?_ ?_
  · exact State.refuse_within (sub_of h rfl)
  · refine .ite ?_ ?_
    · exact State.refuse_within (sub_of h rfl)
    · split
      · exact State.respond_within (sub_of h rfl)
      · exact (State.respond_within (sub_of h rfl)).trans (.ite (State.refuseRemoval_within (sub_of h rfl)) .rfl)
      · exact (State.setBay_within (h (by decide))).trans hs1

theorem execSheetAbort_runs {q : MbxReq} (h : abortRemovalParts ⊆ L) :
    Runs L t (execSheetAbort q t) := by
  unfold execSheetAbort
  extract_lets b
  clear_value b
  refine .next ?_
  refine State.serve_within (sub_of h rfl) (fun u => ?_)
  exact .ite (State.refuse_within (sub_of h rfl)) (.ite (State.refuse_within (sub_of h rfl)) (.ite (State.refuse_within (sub_of h rfl)) ((State.respond_within (sub_of h rfl)).trans (State.abortRemoval_within h))))

theorem execSheetIdentity_runs {q : MbxReq} (h : mbxParts ⊆ L) :
    Runs L t (execSheetIdentity q t) := by
  unfold execSheetIdentity
  extract_lets b
  clear_value b
  refine .next ?_
  refine State.serve_within h (fun u => ?_)
  exact .ite (State.refuse_within h) (State.respond_within h)

theorem State.storePut_within {a : ℕ} {l : List ℕ} (h : .por ∈ L) :
    Within L (State.storePut t a l) t := by
  unfold State.storePut
  exact .step h (.por t _) .rfl

theorem State.storeErase_within {a : ℕ} {n : ℕ} (h : .por ∈ L) :
    Within L (State.storeErase t a n) t := by
  unfold State.storeErase
  exact .step h (.por t _) .rfl

theorem State.wearOut_within {sector : ℕ} {full : Bool} (h : [.out, .gaz, .mgmt, .fns, .por, .reg .CHR_ALERT_STATUS, .reg .GAZ_COUNTS, .reg .POR_EVENTS] ⊆ L) :
    Within L (State.wearOut t sector full) t := by
  unfold State.wearOut
  extract_lets p
  exact .ite (.ite (State.event_within (h (by decide)) (sub_of h rfl)) .rfl) ((State.event_within (h (by decide)) (sub_of h rfl)).trans (.step (h (by decide)) (.por t _) .rfl))

theorem State.wear_within {sector : ℕ} (h : [.out, .gaz, .mgmt, .fns, .por, .reg .CHR_ALERT_STATUS, .reg .GAZ_COUNTS, .reg .POR_EVENTS] ⊆ L) :
    Within L (State.wear t sector) t := by
  unfold State.wear
  extract_lets n src s
  have hs : Within L s t := .step (h (by decide)) (.por t _) .rfl
  exact .ite ((State.wearOut_within h).trans hs) hs

theorem State.eraseDone_within {addr : ℕ} (h : [.out, .gaz, .mgmt, .fns, .por, .reg .CHR_ALERT_STATUS, .reg .GAZ_COUNTS, .reg .POR_EVENTS] ⊆ L) :
    Within L (State.eraseDone t addr) t := by
  unfold State.eraseDone
  extract_lets s src
  have hs : Within L s t := State.storeErase_within (h (by decide))
  exact (State.wear_within h).trans (.step (h (by decide)) (.por s _) hs)

theorem State.eraseSectors_within {a : ℕ} {n : ℕ} (h : [.out, .gaz, .mgmt, .fns, .por, .reg .CHR_ALERT_STATUS, .reg .GAZ_COUNTS, .reg .POR_EVENTS] ⊆ L) :
    Within L (State.eraseSectors t a n) t := by
  unfold State.eraseSectors
  exact Within.foldl fun u x => State.eraseDone_within h

theorem State.repairCopy_within {off : ℕ} {size : ℕ} (h : [.out, .gaz, .mgmt, .fns, .por, .reg .CHR_ALERT_STATUS, .reg .GAZ_COUNTS, .reg .POR_EVENTS] ⊆ L) :
    Within L (State.repairCopy t off size) t := by
  unfold State.repairCopy
  split
  · exact (State.event_within (h (by decide)) (sub_of h rfl)).trans ((State.storePut_within (h (by decide))).trans (State.eraseSectors_within h))
  · exact (State.event_within (h (by decide)) (sub_of h rfl)).trans ((State.storePut_within (h (by decide))).trans (State.eraseSectors_within h))
  · exact .rfl

theorem State.checkCopy_within {off : ℕ} {size : ℕ} (h : [.out, .gaz, .mgmt, .fns, .por, .reg .CHR_ALERT_STATUS, .reg .GAZ_COUNTS, .reg .POR_EVENTS] ⊆ L) :
    Within L (State.checkCopy t off size) t := by
  unfold State.checkCopy
  extract_lets s
  have hs : Within L s t := State.repairCopy_within h
  exact .ite hs ((State.record_within (sub_of h rfl)).trans hs)

theorem State.writeCopy_within {off : ℕ} {size : ℕ} {tag : ℕ} {body : List ℕ} (h : [.out, .gaz, .mgmt, .fns, .por, .reg .CHR_ALERT_STATUS, .reg .GAZ_COUNTS, .reg .POR_EVENTS] ⊆ L) :
    Within L (State.writeCopy t off size tag body) t := by
  unfold State.writeCopy
  extract_lets s cur to_ seq s1 s2
  have hs : Within L s t := State.repairCopy_within h
  have hs1 : Within L s1 t := (State.eraseSectors_within h).trans hs
  have hs2 : Within L s2 t := (State.storePut_within (h (by decide))).trans hs1
  exact (State.storePut_within (h (by decide))).trans hs2

theorem State.matchProfile_within {chan : ℕ} {die : ℕ} {t3 : Target} (h : recordParts ⊆ L) :
    Within L (State.matchProfile t chan die t3).1 t := by
  unfold State.matchProfile
  extract_lets all_ s fit
  have hs : Within L s t := by
    unfold s
    refine Within.foldl fun u x => ?_
    split
    · exact State.record_within h
    · exact .rfl
  clear_value all_ s fit
  split
  · dsimp -zeta only
    exact hs
  · rename_i x x1 e
    extract_lets ties s1
    have hs1 : Within L s1 t := (Within.foldl fun u x => State.record_within h).trans hs
    exact hs1

theorem State.bindSlot_within {i : ℕ} {p : Profile} (h : .fch ∈ L) :
    Within L (State.bindSlot t i p).1 t := by
  unfold State.bindSlot
  extract_lets src
  clear_value src
  split
  · dsimp -zeta only
    exact .rfl
  · split
    · dsimp -zeta only
      exact .step h (.fch t _) .rfl
    · dsimp -zeta only
      exact .rfl

/-- What `State.dieAbsent` may change. -/
def dieAbsentParts : List Part :=
  fenceLeftParts ++ [.pin, .reg .FCH_EVENTS, .reg .FLT_PIN_CTL]

theorem State.dieAbsent_within {d : ℕ} (h : dieAbsentParts ⊆ L) :
    Within L (State.dieAbsent t d) t := by
  unfold State.dieAbsent
  extract_lets x c sh newBit s s1 s2 u s3 s4 k hold src
  have hs : Within L s t := State.setDie_within (h (by decide))
  have hs1 : Within L s1 t := (State.setFld_within (h (by decide))).trans hs
  have hs2 : Within L s2 t := .ite ((State.emit_within (sub_of h rfl)).trans hs1) hs1
  have hs3 : Within L s3 t := (State.setUnit_within (h (by decide))).trans hs2
  have hs4 : Within L s4 t := (State.alert_within (h (by decide)) (h (by decide)) (h (by decide))).trans ((State.pulse_within (sub_of h rfl)).trans ((State.emit_within (sub_of h rfl)).trans ((State.emit_within (sub_of h rfl)).trans hs3)))
  exact .ite .rfl ((State.fenceDie_within (sub_of h rfl)).trans (.step (h (by decide)) (.fch s4 _) hs4))

theorem State.writeHeld_within {sh : ℕ} (h : [.out, .gaz, .mgmt, .fch, .reg .CHR_ALERT_STATUS, .reg .GAZ_COUNTS] ⊆ L) :
    Within L (State.writeHeld t sh) t := by
  unfold State.writeHeld
  extract_lets src s
  have hs : Within L s t := .step (h (by decide)) (.fch t _) .rfl
  clear_value src s
  split
  · exact .rfl
  · refine (Within.foldl fun u x2 => ?_).trans ?_
    · extract_lets d s1
      have hs1 : Within L s1 u := .ite (State.record_within (sub_of h rfl)) .rfl
      exact (State.record_within (sub_of h rfl)).trans hs1
    · exact hs

theorem State.statusRead_within {d : ℕ} {status : ℕ} (h : dieAbsentParts ⊆ L) :
    Within L (State.statusRead t d status) t := by
  unfold State.statusRead
  extract_lets src s s1 n src1 src2
  have hs : Within L s t := State.setCtx_within (h (by decide))
  have hs1 : Within L s1 t := (State.event_within (h (by decide)) (sub_of h rfl)).trans hs
  exact .ite (.ite ((State.dieAbsent_within h).trans hs1) ((State.setDie_within (h (by decide))).trans hs1)) ((State.setDie_within (h (by decide))).trans hs)

theorem State.startTimer_within {d : ℕ} {k : ℕ} (h : .fch ∈ L) :
    Within L (State.startTimer t d k) t := by
  unfold State.startTimer
  extract_lets x len
  exact State.setDie_within h

/-- What `State.refuseSuspend` may change. -/
def refuseSuspendParts : List Part :=
  iuLostParts ++ [.reg .FCH_EVENTS]

theorem State.refuseSuspend_within {d : ℕ} (h : refuseSuspendParts ⊆ L) :
    Within L (State.refuseSuspend t d) t := by
  unfold State.refuseSuspend
  exact (State.replanReads_within (sub_of h rfl)).trans (State.event_within (h (by decide)) (sub_of h rfl))

theorem State.setRunning_within {d : ℕ} {r : Option Running} (h : .plt ∈ L) :
    Within L (State.setRunning t d r) t := by
  unfold State.setRunning
  exact .step h (.plt t _) .rfl

theorem State.bookMinRun_within {d : ℕ} (h : .plt ∈ L) :
    Within L (State.bookMinRun t d) t := by
  unfold State.bookMinRun
  extract_lets reads
  clear_value reads
  split
  · extract_lets len s
    have hs : Within L s t := State.setClosed_within h
    exact (State.addRuns_within h).trans hs
  · exact .rfl

theorem State.nowSuspended_within {d : ℕ} (h : [.plt, .fch, .trv] ⊆ L) :
    Within L (State.nowSuspended t d) t := by
  unfold State.nowSuspended
  extract_lets x s src s1
  have hs : Within L s t := State.setCtx_within (h (by decide))
  have hs1 : Within L s1 t := (State.setDie_within (h (by decide))).trans hs
  clear_value x s src s1
  split
  · exact (State.bookMinRun_within (h (by decide))).trans ((State.setRunning_within (h (by decide))).trans hs1)
  · exact hs1

/-- What `State.suspendMissed` may change. -/
def suspendMissedParts : List Part :=
  [.out, .gaz, .mgmt, .pwr, .fns, .cmds, .plt, .trv, .til, .reg .TIL_POOL_WM, .reg .CHR_ALERT_STATUS, .reg .GAZ_COUNTS]

theorem State.suspendMissed_within {d : ℕ} (h : suspendMissedParts ⊆ L) :
    Within L (State.suspendMissed t d) t := by
  unfold State.suspendMissed
  extract_lets x s s1 ops s2 units q src
  have hs : Within L s t := State.setCtx_within (h (by decide))
  have hs1 : Within L s1 t := by
    unfold s1
    split
    · exact (State.setClosed_within (h (by decide))).trans hs
    · exact hs
  have hs2 : Within L s2 t := by
    unfold s2
    refine (Within.foldl fun u x1 => ?_).trans ?_
    · extract_lets s3
      have hs3 : Within L s3 u := State.unbook_within (sub_of h rfl)
      clear_value s3
      split
      · exact (State.mapCmd_within (h (by decide))).trans hs3
      · exact hs3
    · exact hs1
  exact .step (h (by decide)) (.plt s2 _) hs2

theorem State.resumed_within {d : ℕ} (h : [.plt, .fch, .trv] ⊆ L) :
    Within L (State.resumed t d) t := by
  unfold State.resumed
  extract_lets x runs y s s1
  have hs : Within L s t := State.setCtx_within (h (by decide))
  have hs1 : Within L s1 t := (State.setDie_within (h (by decide))).trans hs
  clear_value x runs y s s1
  split
  · exact (State.setRunning_within (h (by decide))).trans ((State.addRuns_within (h (by decide))).trans hs1)
  · exact (State.addRuns_within (h (by decide))).trans hs1

theorem State.resumeOp_within {d : ℕ} (h : [.out, .plt, .fch, .trv] ⊆ L) :
    Within L (State.resumeOp t d) t := by
  unfold State.resumeOp
  exact (State.resumed_within (sub_of h rfl)).trans ((State.startTimer_within (h (by decide))).trans ((State.emit_within (sub_of h rfl)).trans (State.enterAt_within (sub_of h rfl))))

theorem State.setRef_within {d : ℕ} {r : RefState} (h : [.out, .trv] ⊆ L) :
    Within L (State.setRef t d r) t := by
  unfold State.setRef
  extract_lets x
  exact .ite .rfl ((State.emit_within (sub_of h rfl)).trans (State.setCtx_within (h (by decide))))

theorem State.markReady_within {id : ℕ} {tiles : List Booking} (h : .lanes ∈ L) :
    Within L (State.markReady t id tiles) t := by
  unfold State.markReady
  exact .step h (.lanes t _) .rfl

theorem State.startSoft_within {quad : ℕ} {j : LdpJob} {reserved : Bool} (h : .lanes ∈ L) :
    Within L (State.startSoft t quad j reserved) t := by
  unfold State.startSoft
  refine .ite ?_ ?_
  · exact .rfl
  · split
    · exact State.setLane_within h
    · refine .ite ?_ ?_
      · exact State.markReady_within h
      · split
        · exact State.setLane_within h
        · exact .rfl

theorem State.passTiles_within {d : ℕ} (h : .plt ∈ L) :
    Within L (State.passTiles t d) t := by
  unfold State.passTiles
  extract_lets bare src
  clear_value bare src
  split
  · exact .step h (.plt t _) .rfl
  · split
    · exact State.setRunning_within h
    · exact .rfl

theorem State.startDecode_within {die : ℕ} {o : DieOp} (h : bookRmwParts ⊆ L) :
    Within L (State.startDecode t die o) t := by
  unfold State.startDecode
  extract_lets c i job s n
  have hs : Within L s t := State.passTiles_within (h (by decide))
  clear_value c i job s n
  refine .ite ?_ ?_
  · exact (State.unbook_within (sub_of h rfl)).trans hs
  · split
    · exact (State.setLane_within (h (by decide))).trans hs
    · refine .ite ?_ ?_
      · exact hs
      · split
        · exact (State.startSoft_within (h (by decide))).trans hs
        · exact (State.startSoft_within (h (by decide))).trans hs

theorem State.ladderNow_within {d : ℕ} {op : DieOp} {p : Profile} (h : .plt ∈ L) :
    Within L (State.ladderNow t d op p) t := by
  unfold State.ladderNow
  extract_lets w old t1
  exact .ite .rfl (.step h (.plt t _) .rfl)

/-- What `State.startPlan` may change. -/
def startPlanParts : List Part :=
  [.out, .gaz, .mgmt, .pwr, .fns, .plt, .trv, .til, .reg .TIL_POOL_WM, .reg .CHR_ALERT_STATUS, .reg .GAZ_COUNTS]

theorem State.startPlan_within {d : ℕ} {p : DiePlan} (h : startPlanParts ⊆ L) :
    Within L (State.startPlan t d p) t := by
  unfold State.startPlan
  extract_lets x x1 x2 op q s src s1 s2 s3 r src1
  have hs : Within L s t := State.setCtx_within (h (by decide))
  have hs1 : Within L s1 t := .step (h (by decide)) (.plt s _) hs
  have hs2 : Within L s2 t := by
    unfold s2
    split
    · refine (State.addRuns_within (h (by decide))).trans ?_
      refine (State.ladderNow_within (h (by decide))).trans ?_
      refine OptWithin.getD ?_ ?_
      · exact (State.bookAll_within (sub_of h rfl)).trans hs1
      · exact hs1
    · exact hs1
  have hs3 : Within L s3 t := .ite ((State.setRef_within (sub_of h rfl)).trans hs2) hs2
  exact .ite (.step (h (by decide)) (.plt s3 _) hs3) ((State.setRunning_within (h (by decide))).trans hs3)

theorem State.holdSuspend_within {d : ℕ} (h : [.out, .gaz, .mgmt, .fns, .fch, .reg .FCH_EVENTS, .reg .CHR_ALERT_STATUS, .reg .GAZ_COUNTS] ⊆ L) :
    Within L (State.holdSuspend t d) t := by
  unfold State.holdSuspend
  exact .ite .rfl ((State.event_within (h (by decide)) (sub_of h rfl)).trans (State.setDie_within (h (by decide))))

theorem State.takeSuspend_within {d : ℕ} (h : [.out, .trv] ⊆ L) :
    Within L (State.takeSuspend t d) t := by
  unfold State.takeSuspend
  extract_lets x
  exact (State.enterAt_within h).trans (State.setCtx_within (h (by decide)))

/-- What `State.boundary` may change. -/
def boundaryParts : List Part :=
  fenceDieParts ++ [.reg .FCH_EVENTS, .reg .TRV_ENG]

theorem State.boundary_within {d : ℕ} (h : boundaryParts ⊆ L) :
    Within L (State.boundary t d) t := by
  unfold State.boundary
  extract_lets x
  clear_value x
  refine .ite ?_ ?_
  · exact .rfl
  · refine .ite ?_ ?_
    · exact State.fenceDie_within (sub_of h rfl)
    · refine .ite ?_ ?_
      · exact .rfl
      · refine .ite ?_ ?_
        · exact State.releaseTo_within (sub_of h rfl)
        · refine .ite ?_ ?_
          · exact (State.event_within (h (by decide)) (sub_of h rfl)).trans (State.setCtx_within (h (by decide)))
          · refine .ite ?_ ?_
            · exact State.setCtx_within (h (by decide))
            · refine .ite ?_ ?_
              · exact .ite (State.holdSuspend_within (sub_of h rfl)) (.ite ((State.refuseSuspend_within (sub_of h rfl)).trans (State.setCtx_within (h (by decide)))) (State.takeSuspend_within (sub_of h rfl)))
              · refine .ite ?_ ?_
                · exact State.resumeOp_within (sub_of h rfl)
                · split
                  · exact State.startPlan_within (sub_of h rfl)
                  · exact .rfl

/-- What `State.checkFault` may change. -/
def checkFaultParts : List Part :=
  faultParts ++ [.reg .TRV_ENG]

theorem State.checkFault_within {d : ℕ} (h : checkFaultParts ⊆ L) :
    Within L (State.checkFault t d) t := by
  unfold State.checkFault
  extract_lets t1
  exact (State.raiseAt_within (sub_of h rfl)).trans (State.event_within (h (by decide)) (sub_of h rfl))

theorem State.confirmed_within {d : ℕ} (h : .trv ∈ L) :
    Within L (State.confirmed t d) t := by
  unfold State.confirmed
  extract_lets x
  exact .ite .rfl (State.setCtx_within h)

theorem State.wordEnd_within {d : ℕ} {w : BitVec 128} {to_ : Option ℕ} (h : boundaryParts ⊆ L) :
    Within L (State.wordEnd t d w to_) t := by
  unfold State.wordEnd
  extract_lets x sets s x1 s1 next chained x2 s2
  have hs : Within L s t := .ite (State.confirmed_within (h (by decide))) .rfl
  have hs1 : Within L s1 t := (State.setCtx_within (h (by decide))).trans hs
  have hs2 : Within L s2 t := (State.setCtx_within (h (by decide))).trans hs1
  exact .ite .rfl (.ite hs2 ((State.boundary_within h).trans ((State.grantMover_within (h (by decide))).trans ((State.freeBus_within (h (by decide))).trans hs2))))

theorem State.servedDie_within {d : ℕ} {w : BitVec 128} (h : .trv ∈ L) :
    Within L (State.servedDie t d w) t := by
  unfold State.servedDie
  extract_lets c bus src
  exact .step h (.trv t _) .rfl

theorem State.holdChain_within {d : ℕ} {w : BitVec 128} (h : .trv ∈ L) :
    Within L (State.holdChain t d w) t := by
  unfold State.holdChain
  exact .ite (.step h (.trv t _) .rfl) .rfl

theorem State.retried_within {d : ℕ} {fetch : Fetch} (h : checkFaultParts ⊆ L) :
    Within L (State.retried t d fetch) t := by
  unfold State.retried
  exact .ite ((State.raiseAt_within (sub_of h rfl)).trans (State.event_within (h (by decide)) (sub_of h rfl))) .rfl

/-- The state in which a word's class is done comes of `t` by updates of the parts in `L` alone. -/
def ActWithin (L : List Part) (a : WordAct) (t : State) : Prop := ∀ u o, a = .done u o → Within L u t

theorem ActWithin.done {u : State} {o : Option ℕ} (h : Within L u t) : ActWithin L (.done u o) t := fun _ _ e => (WordAct.done.inj e).1 ▸ h

theorem ActWithin.hold : ActWithin L .hold t := fun _ _ e => nomatch e

theorem ActWithin.fault : ActWithin L .fault t := fun _ _ e => nomatch e

theorem ActWithin.ite {p : Prop} [Decidable p] {a b : WordAct} (ha : ActWithin L a t) (hb : ActWithin L b t) :
    ActWithin L (if p then a else b) t := by split <;> assumption

theorem ActWithin.trans {a : WordAct} {u : State} (ha : ActWithin L a u) (h : Within L u t) : ActWithin L a t :=
  fun v o e => (ha v o e).trans h

/-- What every word may change, its class apart. -/
def wordParts : List Part := checkFaultParts ++ boundaryParts

theorem State.wordDone_within {d : ℕ} {w : BitVec 128} {fetch : Fetch} {act : State → WordAct} (h : wordParts ⊆ L)
    (ha : ∀ u, ActWithin L (act u) u) : Within L (State.wordDone t d w fetch act) t := by
  unfold State.wordDone
  extract_lets x
  split
  · exact State.checkFault_within (sub_of h rfl)
  · exact .rfl
  next u o e =>
    have hu : Within L u t := ((ha _) u o e).trans ((State.holdChain_within (h (by decide))).trans (State.setCtx_within (h (by decide))))
    exact .ite hu ((State.wordEnd_within (sub_of h rfl)).trans ((State.servedDie_within (h (by decide))).trans hu))

theorem State.runWord_within {d : ℕ} {w : BitVec 128} {fetch : Fetch} {cls : ℕ} {act : State → WordAct} (h : wordParts ⊆ L)
    (ha : ∀ u, ActWithin L (act u) u) : Within L (State.runWord t d w fetch cls act) t := by
  have fault : ∀ u, Within L (State.checkFault u d) u := fun u => State.checkFault_within (sub_of h rfl)
  unfold State.runWord
  refine .ite .rfl (.ite (fault _) ?_)
  extract_lets s
  have hs : Within L s t := State.retried_within (sub_of h rfl)
  exact .ite ((fault _).trans hs) (.ite hs (.ite ((fault _).trans ((State.event_within (h (by decide)) (sub_of h rfl)).trans hs))
    ((State.wordDone_within h ha).trans hs)))

theorem State.discoverDie_within {d : ℕ} {t2 : Target} (h : [.out, .gaz, .mgmt, .fns, .fch, .reg .FCH_EVENTS, .reg .CHR_ALERT_STATUS, .reg .GAZ_COUNTS] ⊆ L) :
    Within L (State.discoverDie t d t2) t := by
  unfold State.discoverDie
  extract_lets c m s b s1 src s2
  have hm : Within L m.1 t := State.matchProfile_within (sub_of h rfl)
  have hs : Within L s t := hm
  have hb : Within L b.1 t := by
    unfold b
    split
    · exact (State.bindSlot_within (h (by decide))).trans hs
    · dsimp -zeta only
      exact hs
  have hs1 : Within L s1 t := hb
  have hs2 : Within L s2 t := (State.event_within (h (by decide)) (sub_of h rfl)).trans ((State.setDie_within (h (by decide))).trans hb)
  clear_value c m s b s1 src s2
  split
  · exact (State.setDie_within (h (by decide))).trans hs1
  · rename_i x e
    exact (Within.foldl fun u x => State.record_within (sub_of h rfl)).trans hs2

theorem State.discoverTarget_within {c : ℕ} {e : ℕ} {t3 : Target} (h : [.out, .gaz, .mgmt, .fns, .fch, .reg .FCH_EVENTS, .reg .CHR_ALERT_STATUS, .reg .GAZ_COUNTS] ⊆ L) :
    Within L (State.discoverTarget t c e t3) t := by
  unfold State.discoverTarget
  extract_lets d s gone s1 s2
  have hs : Within L s t := .ite .rfl (State.event_within (h (by decide)) (sub_of h rfl))
  have hgone : ∀ a0, Within L (gone a0) a0 := by
    intro a0
    unfold gone
    exact (State.setDie_within (h (by decide))).trans (State.setDie_within (h (by decide)))
  have hs1 : Within L s1 t := .ite ((State.event_within (h (by decide)) (sub_of h rfl)).trans hs) hs
  have hs2 : Within L s2 t := .ite ((State.setDie_within (h (by decide))).trans hs1) ((State.discoverDie_within h).trans hs1)
  exact .ite ((hgone _).trans hs) (.ite ((hgone _).trans ((State.event_within (h (by decide)) (sub_of h rfl)).trans hs)) (.ite ((State.setDie_within (h (by decide))).trans hs2) ((State.discoverDie_within h).trans hs2)))

/-- What `execChannelDiscovery` may change. -/
def execChannelDiscoveryParts : List Part :=
  recheckParts ++ [.fch, .reg .FCH_EVENTS]

theorem execChannelDiscovery_runs {ch : ℕ} {targets : List Target} (h : execChannelDiscoveryParts ⊆ L) :
    Runs L t (execChannelDiscovery ch targets t) := by
  unfold execChannelDiscovery
  extract_lets src s
  have hs : Within L s t := State.setChan_within (h (by decide))
  clear_value src s
  refine .ite ?_ ?_
  · exact .next .rfl
  · refine .next ?_
    refine (State.recheck_within (sub_of h rfl)).trans ?_
    refine (Within.foldl fun u x => ?_).trans ?_
    · split
      · exact State.discoverTarget_within (sub_of h rfl)
      · exact (State.setDie_within (h (by decide))).trans (State.setDie_within (h (by decide)))
    · exact hs

/-- What `State.trainFail` may change. -/
def trainFailParts : List Part :=
  faultParts ++ [.reg .FCH_EVENTS]

theorem State.trainFail_within {d : ℕ} (h : trainFailParts ⊆ L) :
    Within L (State.trainFail t d) t := by
  unfold State.trainFail
  extract_lets c src s s1
  have hs : Within L s t := (State.event_within (h (by decide)) (sub_of h rfl)).trans (State.setDie_within (h (by decide)))
  have hs1 : Within L s1 t := (State.raiseAt_within (sub_of h rfl)).trans hs
  exact .ite ((State.raiseAt_within (sub_of h rfl)).trans hs1) hs1

theorem State.noRate_within {ch : ℕ} {l : List (ℕ × Profile)} (h : trainFailParts ⊆ L) :
    Within L (State.noRate t ch l) t := by
  unfold State.noRate
  extract_lets src s
  have hs : Within L s t := State.setChan_within (h (by decide))
  exact (State.recheck_within (sub_of h rfl)).trans ((Within.foldl fun u x => State.trainFail_within h).trans hs)

theorem execChannelTraining_runs {ch : ℕ} {eyes : List (ℕ × ℕ × ℕ × ℕ)} (h : trainFailParts ⊆ L) :
    Runs L t (execChannelTraining ch eyes t) := by
  unfold execChannelTraining
  extract_lets cap present l best s x
  have hs : Within L s t := Within.foldl fun u x => .ite (State.setDie_within (h (by decide))) .rfl
  clear_value cap present l best s x
  refine .ite ?_ ?_
  · exact .next .rfl
  · split
    · exact .next (State.noRate_within h)
    · extract_lets run target rate bad some_ s1
      have hs1 : Within L s1 t := (State.setChan_within (h (by decide))).trans hs
      clear_value run target rate bad some_ s1
      refine .ite ?_ ?_
      · exact .next (State.noRate_within h)
      · exact .next ((State.recheck_within (sub_of h rfl)).trans ((Within.foldl fun u x => State.trainFail_within h).trans hs1))

theorem State.stepDone_within {c : ℕ} (h : .fch ∈ L) :
    Within L (State.stepDone t c) t := by
  unfold State.stepDone
  extract_lets x
  exact .ite (State.setChan_within h) (State.setChan_within h)

theorem execRetrainStep_runs {ch : ℕ} {fails : List ℕ} (h : trainFailParts ⊆ L) :
    Runs L t (execRetrainStep ch fails t) := by
  unfold execRetrainStep
  extract_lets x k used ds src d
  clear_value x k used ds src d
  refine .ite ?_ ?_
  · exact .next .rfl
  · split
    · exact .next (State.stepDone_within (h (by decide)))
    · extract_lets s s1 src1 src2 src3 s2
      have hs : Within L s t := .step (h (by decide)) (.plt t _) .rfl
      have hs1 : Within L s1 t := (Within.foldl fun u x => State.addClosed_within (h (by decide))).trans hs
      have hsrc2 : Within L src2 t := (State.setDie_within (h (by decide))).trans hs1
      have hs2 : Within L s2 t := .ite ((State.setDie_within (h (by decide))).trans hs1) hs1
      clear_value s s1 src1 src2 src3 s2
      refine .ite ?_ ?_
      · exact .next .rfl
      · refine .ite ?_ ?_
        · refine .ite ?_ ?_
          · exact .next (.step (h (by decide)) (.plt src2 _) hsrc2)
          · exact .next ((State.stepDone_within (h (by decide))).trans ((State.trainFail_within h).trans hs1))
        · exact .next ((State.stepDone_within (h (by decide))).trans hs2)

theorem execRetrainLate_runs {ch : ℕ} (h : [.out, .gaz, .mgmt, .fns, .fch, .reg .FCH_EVENTS, .reg .CHR_ALERT_STATUS, .reg .GAZ_COUNTS] ⊆ L) :
    Runs L t (execRetrainLate ch t) := by
  unfold execRetrainLate
  extract_lets x
  clear_value x
  refine .ite ?_ ?_
  · exact .next .rfl
  · exact .next ((State.event_within (h (by decide)) (sub_of h rfl)).trans (State.setChan_within (h (by decide))))

theorem execAbsentHoldExpiry_runs {sheet : ℕ} (h : [.out, .gaz, .mgmt, .fch, .reg .CHR_ALERT_STATUS, .reg .GAZ_COUNTS] ⊆ L) :
    Runs L t (execAbsentHoldExpiry sheet t) := by
  unfold execAbsentHoldExpiry
  exact .next (State.writeHeld_within h)

theorem execPollTimeout_runs {die : ℕ} {statusAfter : ℕ} (h : trainFailParts ⊆ L) :
    Runs L t (execPollTimeout die statusAfter t) := by
  unfold execPollTimeout
  extract_lets row pages b s s1 x s2 src r s3 src1 s4 src2 s5
  have hs : Within L s t := (State.statusRead_within (sub_of h rfl)).trans ((State.emit_within (sub_of h rfl)).trans ((State.emit_within (sub_of h rfl)).trans (State.enterAt_within (sub_of h rfl))))
  have hs1 : Within L s1 t := (State.record_within (sub_of h rfl)).trans hs
  have hs2 : Within L s2 t := (State.replanStarted_within (sub_of h rfl)).trans hs1
  have hs3 : Within L s3 t := by
    unfold s3
    clear_value row pages b x src r
    split
    · exact .ite hs1 ((State.replanStarted_within (sub_of h rfl)).trans hs1)
    · exact hs1
  have hs4 : Within L s4 t := (State.setClosed_within (h (by decide))).trans ((State.setDie_within (h (by decide))).trans hs3)
  have hs5 : Within L s5 t := (State.dropRunning_within (sub_of h rfl)).trans ((State.setCtx_within (h (by decide))).trans hs4)
  clear_value row pages b s s1 x s2 src r s3 src1 s4 src2 s5
  refine .ite ?_ ?_
  · exact .next .rfl
  · refine .ite ?_ ?_
    · exact .next hs1
    · split
      · extract_lets s6 src3
        have hs6 : Within L s6 t := (State.setCtx_within (h (by decide))).trans ((State.opEnds_within (sub_of h rfl)).trans hs2)
        clear_value s6 src3
        exact .next (.step (h (by decide)) (.plt s6 _) hs6)
      · split
        · refine .ite ?_ ?_
          · exact .next ((State.grownBad_within (sub_of h rfl)).trans hs5)
          · exact .next hs5
        · exact .next hs5

theorem execRunTimerExpiry_runs {die : ℕ} (h : boundaryParts ⊆ L) :
    Runs L t (execRunTimerExpiry die t) := by
  unfold execRunTimerExpiry
  extract_lets x
  clear_value x
  refine .ite ?_ ?_
  · exact .next .rfl
  · exact .next ((State.boundary_within h).trans (State.setDie_within (h (by decide))))

/-- What `execSuspendLong` may change. -/
def execSuspendLongParts : List Part :=
  [.out, .gaz, .mgmt, .fns, .plt, .fch, .trv, .reg .FCH_EVENTS, .reg .CHR_ALERT_STATUS, .reg .GAZ_COUNTS]

theorem execSuspendLong_runs {die : ℕ} (h : execSuspendLongParts ⊆ L) :
    Runs L t (execSuspendLong die t) := by
  unfold execSuspendLong
  extract_lets x src s
  have hs : Within L s t := (State.event_within (h (by decide)) (sub_of h rfl)).trans (State.setDie_within (h (by decide)))
  clear_value x src s
  refine .ite ?_ ?_
  · exact .next .rfl
  · refine .ite ?_ ?_
    · exact .next hs
    · exact .next ((State.resumeOp_within (sub_of h rfl)).trans hs)

theorem execGazRead_runs {q : MbxReq} (h : mbxParts ⊆ L) :
    Runs L t (execGazRead q t) := by
  unfold execGazRead
  extract_lets first count n
  clear_value first count n
  refine .next ?_
  refine State.serve_within h (fun u => ?_)
  exact .ite (State.refuse_within h) (State.respond_within h)

/-- What `execGazClear` may change. -/
def execGazClearParts : List Part :=
  [.out, .gaz, .mgmt, .fns, .mbx, .ops, .reg .CHR_ALERT_STATUS, .reg .GAZ_COUNTS, .reg .MBX_EVENTS]

theorem execGazClear_runs {q : MbxReq} (h : execGazClearParts ⊆ L) :
    Runs L t (execGazClear q t) := by
  unfold execGazClear
  refine .next ?_
  refine State.serve_within (sub_of h rfl) (fun u => ?_)
  extract_lets n
  exact (State.respond_within (sub_of h rfl)).trans (State.gazClearBy_within (sub_of h rfl))

theorem execGazLayout_runs {q : MbxReq} (h : execGazClearParts ⊆ L) :
    Runs L t (execGazLayout q t) := by
  unfold execGazLayout
  extract_lets l
  clear_value l
  refine .next ?_
  refine State.serve_within (sub_of h rfl) (fun u => ?_)
  extract_lets src s s1
  have hs : Within L s u := .step (h (by decide)) (.gaz u _) .rfl
  have hs1 : Within L s1 u := (State.record_within (sub_of h rfl)).trans ((State.gazClearBy_within (sub_of h rfl)).trans hs)
  exact .ite (State.refuse_within (sub_of h rfl)) (.ite (State.respond_within (sub_of h rfl)) ((State.respond_within (sub_of h rfl)).trans hs1))

theorem execGazetteerRecord_runs {block : ℕ} {inst : ℕ} {sev : ℕ} {code : ℕ} {data : ℕ} (h : recordParts ⊆ L) :
    Runs L t (execGazetteerRecord block inst sev code data t) := by
  unfold execGazetteerRecord
  exact .next (State.record_within h)

theorem execGazPersist_runs (h : .gaz ∈ L) :
    Runs L t (execGazPersist t) := by
  unfold execGazPersist
  refine .ite ?_ ?_
  · exact .next .rfl
  · exact .next (.step h (.gaz t _) .rfl)

theorem execDatumGet_runs {q : MbxReq} (h : mbxParts ⊆ L) :
    Runs L t (execDatumGet q t) := by
  unfold execDatumGet
  refine .next ?_
  refine State.serve_within h (fun u => ?_)
  exact State.respond_within h

theorem execDatumSet_runs {q : MbxReq} (h : alarmFiresParts ⊆ L) :
    Runs L t (execDatumSet q t) := by
  unfold execDatumSet
  extract_lets v
  clear_value v
  refine .next ?_
  refine State.serve_within (sub_of h rfl) (fun u => ?_)
  extract_lets old
  exact .ite (State.refuse_within (sub_of h rfl)) ((State.respond_within (sub_of h rfl)).trans (State.setDatum_within h))

theorem execDatumAlarm_runs {q : MbxReq} (h : [.out, .dat, .mgmt, .fns, .mbx, .ops, .reg .CHR_ALERT_STATUS, .reg .MBX_EVENTS] ⊆ L) :
    Runs L t (execDatumAlarm q t) := by
  unfold execDatumAlarm
  extract_lets v
  clear_value v
  refine .next ?_
  refine State.serve_within (sub_of h rfl) (fun u => ?_)
  exact .ite (State.refuse_within (sub_of h rfl)) (.ite (State.refuse_within (sub_of h rfl)) (.ite ((State.respond_within (sub_of h rfl)).trans (.step (h (by decide)) (.dat u _) .rfl)) (.ite (State.refuse_within (sub_of h rfl)) ((State.respond_within (sub_of h rfl)).trans (.step (h (by decide)) (.dat u _) .rfl)))))

theorem execAlarmFire_runs (h : alarmFiresParts ⊆ L) :
    Runs L t (execAlarmFire t) := by
  unfold execAlarmFire
  refine .ite ?_ ?_
  · exact .next (State.alarmFires_within h)
  · exact .next .rfl

theorem execSlewEnd_runs (h : [.out, .gaz, .dat, .mgmt, .fns, .reg .CHR_ALERT_STATUS, .reg .GAZ_COUNTS, .reg .DAT_EVENTS] ⊆ L) :
    Runs L t (execSlewEnd t) := by
  unfold execSlewEnd
  extract_lets t1 src
  have ht1 : Within L t1 t := State.rebase_within (h (by decide))
  clear_value t1 src
  refine .ite ?_ ?_
  · exact .next .rfl
  · exact .next ((State.event_within (h (by decide)) (sub_of h rfl)).trans (.step (h (by decide)) (.dat t1 _) ht1))

/-- What `execVbatLost` may change. -/
def execVbatLostParts : List Part :=
  [.out, .gaz, .dat, .mgmt, .fns, .cip, .reg .CHR_ALERT_STATUS, .reg .GAZ_COUNTS, .reg .DAT_EVENTS]

theorem execVbatLost_runs (h : execVbatLostParts ⊆ L) :
    Runs L t (execVbatLost t) := by
  unfold execVbatLost
  extract_lets src src1 s
  have hs : Within L s t := .update [.dat, .cip] (sub_of h rfl) .rfl rfl
  clear_value src src1 s
  exact .next ((State.event_within (h (by decide)) (sub_of h rfl)).trans hs)

theorem State.dropSegs_within {p : ℕ} {n : ℕ} (h : [.pwr, .plt, .atl, .svy] ⊆ L) :
    Within L (State.dropSegs t p n) t := by
  unfold State.dropSegs
  extract_lets gone s src
  have hs : Within L s t := Within.foldl fun u x => State.sweepSeg_within h
  exact .step (h (by decide)) (.atl s _) hs

theorem State.setPool_within {p : ℕ} {x : Option Pool} (h : .atl ∈ L) :
    Within L (State.setPool t p x) t := by
  unfold State.setPool
  exact .step h (.atl t _) .rfl

theorem State.setNs_within {n : ℕ} {x : Option Ns} (h : .atl ∈ L) :
    Within L (State.setNs t n x) t := by
  unfold State.setNs
  exact .step h (.atl t _) .rfl

theorem State.nsNotice_within {nsid : ℕ} {fns : List ℕ} (h : adminParts ⊆ L) :
    Within L (State.nsNotice t nsid fns) t := by
  unfold State.nsNotice
  refine Within.foldl fun u x => ?_
  extract_lets c s
  have hs : Within L s u := .ite (State.setCtl_within (h (by decide))) .rfl
  exact (State.asyncEvent_within h).trans hs

theorem State.journalPool_within {p : ℕ} (h : journalParts ⊆ L) :
    Within L (State.journalPool t p) t := by
  unfold State.journalPool
  extract_lets arg
  exact State.journal_within h

/-- What `execPoolCreate` may change. -/
def execPoolCreateParts : List Part :=
  [.out, .gaz, .mgmt, .fns, .mbx, .ops, .plt, .atl, .reg .ATL_JRNL_WM, .reg .CHR_ALERT_STATUS, .reg .GAZ_COUNTS, .reg .MBX_EVENTS]

theorem execPoolCreate_runs {q : MbxReq} (h : execPoolCreateParts ⊆ L) :
    Runs L t (execPoolCreate q t) := by
  unfold execPoolCreate
  extract_lets p iu m segs mask
  clear_value p iu m segs mask
  refine .next ?_
  refine State.serve_within (sub_of h rfl) (fun u => ?_)
  extract_lets s
  have hs : Within L s u := (State.journalPool_within (sub_of h rfl)).trans (State.setPool_within (h (by decide)))
  exact .ite (State.refuse_within (sub_of h rfl)) (.ite (State.refuse_within (sub_of h rfl)) (.ite (State.refuse_within (sub_of h rfl)) ((State.respond_within (sub_of h rfl)).trans hs)))

/-- What `execPoolResize` may change. -/
def execPoolResizeParts : List Part :=
  execPoolCreateParts ++ [.pwr, .svy]

theorem execPoolResize_runs {q : MbxReq} (h : execPoolResizeParts ⊆ L) :
    Runs L t (execPoolResize q t) := by
  unfold execPoolResize
  extract_lets p segs
  clear_value p segs
  refine .next ?_
  refine State.serve_within (sub_of h rfl) (fun u => ?_)
  refine .ite ?_ ?_
  · exact State.refuse_within (sub_of h rfl)
  · split
    · exact State.refuse_within (sub_of h rfl)
    · extract_lets s
      have hs : Within L s u := (State.journalPool_within (sub_of h rfl)).trans ((State.dropSegs_within (sub_of h rfl)).trans (State.setPool_within (h (by decide))))
      exact .ite (State.refuse_within (sub_of h rfl)) (.ite (State.refuse_within (sub_of h rfl)) ((State.respond_within (sub_of h rfl)).trans hs))

theorem execPoolDelete_runs {q : MbxReq} (h : execPoolResizeParts ⊆ L) :
    Runs L t (execPoolDelete q t) := by
  unfold execPoolDelete
  extract_lets p
  clear_value p
  refine .next ?_
  refine State.serve_within (sub_of h rfl) (fun u => ?_)
  exact .ite (State.refuse_within (sub_of h rfl)) (.ite (State.refuse_within (sub_of h rfl)) (.ite (State.refuse_within (sub_of h rfl)) ((State.respond_within (sub_of h rfl)).trans ((State.journalPool_within (sub_of h rfl)).trans ((State.dropSegs_within (sub_of h rfl)).trans (State.setPool_within (h (by decide))))))))

theorem State.bindKeySlot_within {slot : ℕ} {nsid : ℕ} (h : .cip ∈ L) :
    Within L (State.bindKeySlot t slot nsid) t := by
  unfold State.bindKeySlot
  extract_lets k src
  exact .step h (.cip t _) .rfl

/-- What `execNsCreate` may change. -/
def execNsCreateParts : List Part :=
  [.out, .mgmt, .fns, .mbx, .ops, .atl, .cip, .reg .CHR_ALERT_STATUS, .reg .MBX_EVENTS]

theorem execNsCreate_runs {q : MbxReq} (h : execNsCreateParts ⊆ L) :
    Runs L t (execNsCreate q t) := by
  unfold execNsCreate
  extract_lets p lbaf pi ci slot nlba
  clear_value p lbaf pi ci slot nlba
  refine .next ?_
  refine State.serve_within (sub_of h rfl) (fun u => ?_)
  extract_lets g
  clear_value g
  refine .ite ?_ ?_
  · exact State.refuse_within (sub_of h rfl)
  · split
    · exact State.refuse_within (sub_of h rfl)
    · extract_lets n
      clear_value n
      refine .ite ?_ ?_
      · exact State.refuse_within (sub_of h rfl)
      · refine .ite ?_ ?_
        · exact State.refuse_within (sub_of h rfl)
        · refine .ite ?_ ?_
          · exact State.refuse_within (sub_of h rfl)
          · refine .ite ?_ ?_
            · exact State.refuse_within (sub_of h rfl)
            · split
              · exact State.refuse_within (sub_of h rfl)
              · split
                · exact State.refuse_within (sub_of h rfl)
                · extract_lets s src s1 s2
                  have hs : Within L s u := State.setNs_within (h (by decide))
                  have hs1 : Within L s1 u := .step (h (by decide)) (.atl s _) hs
                  have hs2 : Within L s2 u := .ite ((State.bindKeySlot_within (h (by decide))).trans hs1) hs1
                  exact (State.respond_within (sub_of h rfl)).trans hs2

theorem State.discardFrom_within {n : Ns} {nsid : ℕ} {lo : ℕ} (h : poisonIuParts ⊆ L) :
    Within L (State.discardFrom t n nsid lo) t := by
  unfold State.discardFrom
  extract_lets r d e c
  clear_value r d e c
  refine (Within.foldl fun u x => ?_).trans ?_
  · extract_lets x1
    have hx1 : Within L x1.1 u := State.stageIu_within (sub_of h rfl)
    exact (State.swapAll_within (sub_of h rfl)).trans hx1
  · exact State.discardRanges_within h

/-- What `execNsResize` may change. -/
def execNsResizeParts : List Part :=
  execPoolResizeParts ++ [.ctls, .cpls, .til, .reg .TIL_POOL_WM]

theorem execNsResize_runs {q : MbxReq} (h : execNsResizeParts ⊆ L) :
    Runs L t (execNsResize q t) := by
  unfold execNsResize
  extract_lets id nlba
  clear_value id nlba
  refine .next ?_
  refine State.serve_within (sub_of h rfl) (fun u => ?_)
  refine .ite ?_ ?_
  · exact State.refuse_within (sub_of h rfl)
  · split
    · exact State.refuse_within (sub_of h rfl)
    · extract_lets n' top cap clash s
      have hs : Within L s u := .ite (State.discardFrom_within (sub_of h rfl)) .rfl
      exact .ite (State.refuse_within (sub_of h rfl)) ((State.respond_within (sub_of h rfl)).trans ((State.nsNotice_within (sub_of h rfl)).trans ((State.setNs_within (h (by decide))).trans hs)))

/-- What `execNsDelete` may change. -/
def execNsDeleteParts : List Part :=
  execPoolResizeParts ++ [.til, .cip, .reg .TIL_POOL_WM]

theorem execNsDelete_runs {q : MbxReq} (h : execNsDeleteParts ⊆ L) :
    Runs L t (execNsDelete q t) := by
  unfold execNsDelete
  extract_lets id
  clear_value id
  refine .next ?_
  refine State.serve_within (sub_of h rfl) (fun u => ?_)
  split
  · exact State.refuse_within (sub_of h rfl)
  · extract_lets s k k' src s1
    have hs : Within L s u := State.discardNs_within (sub_of h rfl)
    have hs1 : Within L s1 u := .ite ((State.opDone_within (sub_of h rfl)).trans (.step (h (by decide)) (.cip s _) hs)) hs
    exact .ite (State.refuse_within (sub_of h rfl)) ((State.respond_within (sub_of h rfl)).trans ((State.setNs_within (h (by decide))).trans hs1))

/-- What `execNsAttach` may change. -/
def execNsAttachParts : List Part :=
  [.out, .mgmt, .fns, .ctls, .cpls, .mbx, .ops, .atl, .reg .CHR_ALERT_STATUS, .reg .MBX_EVENTS]

theorem execNsAttach_runs {q : MbxReq} (h : execNsAttachParts ⊆ L) :
    Runs L t (execNsAttach q t) := by
  unfold execNsAttach
  extract_lets id f
  clear_value id f
  refine .next ?_
  refine State.serve_within (sub_of h rfl) (fun u => ?_)
  split
  · exact State.refuse_within (sub_of h rfl)
  · exact (State.respond_within (sub_of h rfl)).trans ((State.nsNotice_within (sub_of h rfl)).trans (State.setNs_within (h (by decide))))

theorem execNsDetach_runs {q : MbxReq} (h : execNsAttachParts ⊆ L) :
    Runs L t (execNsDetach q t) := by
  unfold execNsDetach
  extract_lets id f
  clear_value id f
  refine .next ?_
  refine State.serve_within (sub_of h rfl) (fun u => ?_)
  split
  · exact State.refuse_within (sub_of h rfl)
  · exact .ite (State.refuse_within (sub_of h rfl)) ((State.respond_within (sub_of h rfl)).trans ((State.nsNotice_within (sub_of h rfl)).trans (State.setNs_within (h (by decide)))))

theorem execNsList_runs {q : MbxReq} (h : mbxParts ⊆ L) :
    Runs L t (execNsList q t) := by
  unfold execNsList
  extract_lets first
  clear_value first
  refine .next ?_
  refine State.serve_within h (fun u => ?_)
  extract_lets l
  exact State.respond_within h

theorem execNsInfo_runs {q : MbxReq} (h : mbxParts ⊆ L) :
    Runs L t (execNsInfo q t) := by
  unfold execNsInfo
  refine .next ?_
  refine State.serve_within h (fun u => ?_)
  split
  · exact State.refuse_within h
  · exact State.respond_within h

theorem State.setKslot_within {n : ℕ} {k : KSlot} (h : .cip ∈ L) :
    Within L (State.setKslot t n k) t := by
  unfold State.setKslot
  exact .step h (.cip t _) .rfl

theorem execKeyImport_runs {q : MbxReq} (h : [.out, .mgmt, .fns, .mbx, .ops, .cip, .reg .CHR_ALERT_STATUS, .reg .MBX_EVENTS] ⊆ L) :
    Runs L t (execKeyImport q t) := by
  unfold execKeyImport
  extract_lets n kind len
  clear_value n kind len
  refine .next ?_
  refine State.serve_within (sub_of h rfl) (fun u => ?_)
  extract_lets k g
  clear_value k g
  refine .ite ?_ ?_
  · exact State.refuse_within (sub_of h rfl)
  · refine .ite ?_ ?_
    · exact State.refuse_within (sub_of h rfl)
    · refine .ite ?_ ?_
      · exact State.refuse_within (sub_of h rfl)
      · refine .ite ?_ ?_
        · exact State.refuse_within (sub_of h rfl)
        · refine .ite ?_ ?_
          · exact State.refuse_within (sub_of h rfl)
          · split
            · exact State.refuse_within (sub_of h rfl)
            · extract_lets s
              have hs : Within L s u := State.setKslot_within (h (by decide))
              exact (State.respond_within (sub_of h rfl)).trans hs

theorem State.oweRekey_within {n : Ns} {cursor : ℕ} (h : .plt ∈ L) :
    Within L (State.oweRekey t n cursor) t := by
  unfold State.oweRekey
  extract_lets l
  exact Within.foldl fun u x => State.owe_within h

theorem State.reoweRekeys_within (h : .plt ∈ L) :
    Within L (State.reoweRekeys t) t := by
  unfold State.reoweRekeys
  refine Within.foldl fun u x => ?_
  split
  · exact State.oweRekey_within h
  · exact .rfl

theorem State.opProgress_within {h1 : Option ℕ} {permille : ℕ} {data : List ℕ} (h : .ops ∈ L) :
    Within L (State.opProgress t h1 permille data) t := by
  unfold State.opProgress
  split
  · exact .rfl
  · split
    · exact .rfl
    · exact .step h (.ops t _) .rfl

/-- What `execRekey` may change. -/
def execRekeyParts : List Part :=
  toServiceParts ++ [.mbx, .ops, .nextHandle, .cip, .reg .MBX_EVENTS]

theorem execRekey_runs {q : MbxReq} (h : execRekeyParts ⊆ L) :
    Runs L t (execRekey q t) := by
  unfold execRekey
  extract_lets id len
  clear_value id len
  refine .next ?_
  refine State.serve_within (sub_of h rfl) (fun u => ?_)
  extract_lets s
  have hs : Within L s u := State.toService_within (sub_of h rfl)
  clear_value s
  refine .ite ?_ ?_
  · exact State.refuse_within (sub_of h rfl)
  · refine .ite ?_ ?_
    · exact State.refuse_within (sub_of h rfl)
    · split
      · exact State.refuse_within (sub_of h rfl)
      · extract_lets k kind g l
        have hl : Within L l.2 u := (State.startLong_within (sub_of h rfl)).trans hs
        clear_value k kind g l
        refine .ite ?_ ?_
        · exact State.refuse_within (sub_of h rfl)
        · refine .ite ?_ ?_
          · exact State.refuse_within (sub_of h rfl)
          · refine .ite ?_ ?_
            · exact State.refuse_within (sub_of h rfl)
            · refine .ite ?_ ?_
              · exact State.refuse_within (sub_of h rfl)
              · refine .ite ?_ ?_
                · exact State.refuse_within (sub_of h rfl)
                · split
                  · exact State.refuse_within (sub_of h rfl)
                  · extract_lets s1
                    have hs1 : Within L s1 u := (State.setKslot_within (h (by decide))).trans hl
                    exact (State.opProgress_within (h (by decide))).trans ((State.oweRekey_within (h (by decide))).trans hs1)

/-- What `execRekeySweepStep` may change. -/
def execRekeySweepStepParts : List Part :=
  programDoneParts ++ [.ops, .cip, .reg .SVY_MEDIA_EVENTS]

theorem execRekeySweepStep_runs {slot : ℕ} {count : ℕ} {moves : List (ℕ × ℕ × ℕ)} (h : execRekeySweepStepParts ⊆ L) :
    Runs L t (execRekeySweepStep slot count moves t) := by
  unfold execRekeySweepStep
  extract_lets k
  clear_value k
  split
  · exact .next .rfl
  · extract_lets waits end_ mine s s1
    have hs : Within L s t := by
      unfold s
      refine Within.foldl fun u x2 => ?_
      extract_lets key a
      exact (State.relocate_within (sub_of h rfl)).trans ((State.reseal_within (sub_of h rfl)).trans (State.countReads_within (sub_of h rfl)))
    have hs1 : Within L s1 t := (State.setKslot_within (h (by decide))).trans hs
    clear_value waits end_ mine s s1
    refine .ite ?_ ?_
    · exact .next .rfl
    · refine .ite ?_ ?_
      · exact .next (State.setKslot_within (h (by decide)))
      · exact .next ((State.opProgress_within (h (by decide))).trans hs1)

/-- What `execRekeyDone` may change. -/
def execRekeyDoneParts : List Part :=
  [.out, .gaz, .mgmt, .fns, .mbx, .ops, .cip, .reg .LEG_EVENTS, .reg .CHR_ALERT_STATUS, .reg .GAZ_COUNTS, .reg .MBX_EVENTS]

theorem execRekeyDone_runs {slot : ℕ} (h : execRekeyDoneParts ⊆ L) :
    Runs L t (execRekeyDone slot t) := by
  unfold execRekeyDone
  extract_lets k s
  have hs : Within L s t := (State.event_within (h (by decide)) (sub_of h rfl)).trans (State.setKslot_within (h (by decide)))
  clear_value k s
  split
  · exact .next .rfl
  · refine .ite ?_ ?_
    · exact .next .rfl
    · exact .next ((State.opDone_within (sub_of h rfl)).trans hs)

end

end Sys2Proof.Machine
end

section
/-! SUPPORT. What each function of the model may change, function by function (5 of 7): the mailbox opcodes, the Cipher and the Survey. `X_within` says it
of the state that `X` answers with, `execX_runs` of the command, which also runs on. -/

namespace Sys2Proof.Machine

section
variable {L : List Part} {t : State}

theorem execKeyErase_runs {q : MbxReq} (h : [.out, .mgmt, .fns, .mbx, .ops, .cip, .reg .CHR_ALERT_STATUS, .reg .MBX_EVENTS] ⊆ L) :
    Runs L t (execKeyErase q t) := by
  unfold execKeyErase
  extract_lets n
  clear_value n
  refine .next ?_
  refine State.serve_within (sub_of h rfl) (fun u => ?_)
  extract_lets k
  exact .ite (State.refuse_within (sub_of h rfl)) (.ite (State.refuse_within (sub_of h rfl)) (.ite (State.refuse_within (sub_of h rfl)) ((State.respond_within (sub_of h rfl)).trans (State.setKslot_within (h (by decide))))))

theorem execSlotAssign_runs {q : MbxReq} (h : [.out, .mgmt, .fns, .mbx, .ops, .cip, .reg .CHR_ALERT_STATUS, .reg .MBX_EVENTS] ⊆ L) :
    Runs L t (execSlotAssign q t) := by
  unfold execSlotAssign
  extract_lets first count f
  clear_value first count f
  refine .next ?_
  refine State.serve_within (sub_of h rfl) (fun u => ?_)
  extract_lets s
  have hs : Within L s u := Within.foldl fun u x => .ite (State.setKslot_within (h (by decide))) .rfl
  exact .ite (State.refuse_within (sub_of h rfl)) ((State.respond_within (sub_of h rfl)).trans hs)

theorem execKeyStatus_runs {q : MbxReq} (h : mbxParts ⊆ L) :
    Runs L t (execKeyStatus q t) := by
  unfold execKeyStatus
  extract_lets n
  clear_value n
  refine .next ?_
  refine State.serve_within h (fun u => ?_)
  extract_lets k
  exact .ite (State.refuse_within h) (.ite (State.refuse_within h) (State.respond_within h))

/-- What `execUnlockChallenge` may change. -/
def execUnlockChallengeParts : List Part :=
  [.fresh, .out, .mgmt, .fns, .mbx, .ops, .cip, .reg .CHR_ALERT_STATUS, .reg .MBX_EVENTS]

theorem execUnlockChallenge_runs {q : MbxReq} (h : execUnlockChallengeParts ⊆ L) :
    Runs L t (execUnlockChallenge q t) := by
  unfold execUnlockChallenge
  refine .next ?_
  refine State.serve_within (sub_of h rfl) (fun u => ?_)
  extract_lets v src s
  have hs : Within L s u := .update [.fresh, .cip] (sub_of h rfl) .rfl rfl
  exact (State.respond_within (sub_of h rfl)).trans hs

theorem State.unlockRecord_within {q : MbxReq} {method : ℕ} {st : ℕ} (h : recordParts ⊆ L) :
    Within L (State.unlockRecord t q method st) t := by
  unfold State.unlockRecord
  exact State.record_within h

theorem State.unlockEnd_within {q : MbxReq} {method : ℕ} {st : ℕ} (h : execGazClearParts ⊆ L) :
    Within L (State.unlockEnd t q method st) t := by
  unfold State.unlockEnd
  extract_lets s
  have hs : Within L s t := State.unlockRecord_within (sub_of h rfl)
  exact (State.respond_within (sub_of h rfl)).trans hs

theorem execUnlockResponse_runs {q : MbxReq} (h : execRekeyDoneParts ⊆ L) :
    Runs L t (execUnlockResponse q t) := by
  unfold execUnlockResponse
  extract_lets m len v
  clear_value m len v
  refine .next ?_
  refine State.serve_within (sub_of h rfl) (fun u => ?_)
  extract_lets live src used src1 s src2 s1
  have hused : Within L used u := .step (h (by decide)) (.cip u _) .rfl
  have hs : Within L s u := (State.event_within (h (by decide)) (sub_of h rfl)).trans (.step (h (by decide)) (.cip used _) hused)
  have hs1 : Within L s1 u := .ite ((State.event_within (h (by decide)) (sub_of h rfl)).trans (.step (h (by decide)) (.cip s _) hs)) hs
  exact .ite ((State.unlockEnd_within (sub_of h rfl)).trans hused) (.ite (State.unlockEnd_within (sub_of h rfl)) (.ite (State.unlockEnd_within (sub_of h rfl)) (.ite (State.unlockEnd_within (sub_of h rfl)) (.ite ((State.unlockEnd_within (sub_of h rfl)).trans ((State.event_within (h (by decide)) (sub_of h rfl)).trans (.step (h (by decide)) (.cip used _) hused))) ((State.unlockEnd_within (sub_of h rfl)).trans hs1)))))

theorem execNonceLapse_runs {value : ℕ} (h : .cip ∈ L) :
    Runs L t (execNonceLapse value t) := by
  unfold execNonceLapse
  extract_lets src
  clear_value src
  exact .next (.step h (.cip t _) .rfl)

theorem execLockoutEnd_runs (h : .cip ∈ L) :
    Runs L t (execLockoutEnd t) := by
  unfold execLockoutEnd
  extract_lets src
  clear_value src
  refine .ite ?_ ?_
  · exact .next .rfl
  · exact .next (.step h (.cip t _) .rfl)

/-- What `State.sealedFail` may change. -/
def sealedFailParts : List Part :=
  [.out, .gaz, .mgmt, .fns, .ctls, .cmds, .cpls, .media, .reg .CIP_EVENTS, .reg .CIP_CNT_AUTH, .reg .CHR_ALERT_STATUS, .reg .GAZ_COUNTS]

theorem State.sealedFail_within {j : CipherJob} (h : sealedFailParts ⊆ L) :
    Within L (State.sealedFail t j) t := by
  unfold State.sealedFail
  extract_lets s
  have hs : Within L s t := .ite ((State.bump_within (h (by decide))).trans (State.event_within (h (by decide)) (sub_of h rfl))) .rfl
  clear_value s
  split
  · exact (State.endCmd_within (sub_of h rfl)).trans hs
  · exact hs

theorem State.metaFail_within {data : List ℕ} (h : [.out, .gaz, .mgmt, .fns, .reg .CIP_EVENTS, .reg .CIP_CNT_AUTH, .reg .CHR_ALERT_STATUS, .reg .GAZ_COUNTS] ⊆ L) :
    Within L (State.metaFail t data) t := by
  unfold State.metaFail
  exact (State.emit_within (sub_of h rfl)).trans ((State.bump_within (h (by decide))).trans (State.event_within (h (by decide)) (sub_of h rfl)))

theorem State.useKey_within {j : CipherJob} {e : KeyEnt} (h : .cip ∈ L) :
    Within L (State.useKey t j e) t := by
  unfold State.useKey
  extract_lets key l src
  exact .step h (.cip t _) .rfl

/-- What `State.cipherOpen` may change. -/
def cipherOpenParts : List Part :=
  faultParts ++ [.reg .CIP_CNT_AUTH]

theorem State.cipherOpen_within {j : CipherJob} (h : cipherOpenParts ⊆ L) :
    Within L (State.cipherOpen t j) t := by
  unfold State.cipherOpen
  extract_lets k give
  have hgive : ∀ a0 a1, Within L (give a0 a1) a0 := by
    intro a0 a1
    unfold give
    exact (State.emit_within (sub_of h rfl)).trans (State.useKey_within (h (by decide)))
  clear_value k give
  refine .ite ?_ ?_
  · exact State.sealedFail_within (sub_of h rfl)
  · split
    · exact .ite (State.sealedFail_within (sub_of h rfl)) (hgive _ _)
    · refine .ite ?_ ?_
      · exact State.sealedFail_within (sub_of h rfl)
      · split
        · exact (hgive _ _).trans (State.event_within (h (by decide)) (sub_of h rfl))
        · exact State.sealedFail_within (sub_of h rfl)
        · exact (State.sealedFail_within (sub_of h rfl)).trans (State.raiseAt_within (sub_of h rfl))

theorem State.cipherClose_within {j : CipherJob} (h : [.out, .cip] ⊆ L) :
    Within L (State.cipherClose t j) t := by
  unfold State.cipherClose
  extract_lets k nonce
  clear_value k nonce
  split
  · extract_lets data tag side
    exact (State.emit_within (sub_of h rfl)).trans (State.useKey_within (h (by decide)))
  · exact .rfl

theorem State.metaClose_within {j : CipherJob} (h : .out ∈ L) :
    Within L (State.metaClose t j) t := by
  unfold State.metaClose
  extract_lets nonce data tag
  exact State.emit_within (List.cons_subset.2 ⟨h, List.nil_subset _⟩)

theorem State.stagingForm_within {j : CipherJob} (h : .out ∈ L) :
    Within L (State.stagingForm t j) t := by
  unfold State.stagingForm
  extract_lets tweak
  exact State.emit_within (List.cons_subset.2 ⟨h, List.nil_subset _⟩)

theorem State.jobDone_within {lane : ℕ} (h : .cip ∈ L) :
    Within L (State.jobDone t lane) t := by
  unfold State.jobDone
  exact .step h (.cip t _) .rfl

theorem execCipherJob_runs {job : CipherJob} (h : cipherOpenParts ⊆ L) :
    Runs L t (execCipherJob job t) := by
  unfold execCipherJob
  extract_lets s src s1 s2 data
  have hs : Within L s t := .ite (State.spendFor_within (h (by decide))) .rfl
  have hs1 : Within L s1 t := .step (h (by decide)) (.cip s _) hs
  have hs2 : Within L s2 t := State.jobDone_within (h (by decide))
  clear_value s src s1 s2 data
  refine .ite ?_ ?_
  · exact .next .rfl
  · refine .ite ?_ ?_
    · exact .next ((State.raise_within (sub_of h rfl)).trans hs1)
    · split
      · exact .next ((State.cipherClose_within (sub_of h rfl)).trans hs2)
      · exact .next ((State.cipherClose_within (sub_of h rfl)).trans hs2)
      · exact .next ((State.cipherOpen_within h).trans hs2)
      · exact .next ((State.cipherOpen_within h).trans hs2)
      · exact .next (.ite ((State.emit_within (sub_of h rfl)).trans hs2) ((State.metaFail_within (sub_of h rfl)).trans hs2))
      · exact .next ((State.metaClose_within (h (by decide))).trans hs2)
      · exact .next ((State.stagingForm_within (h (by decide))).trans hs2)

/-- What `State.useSample` may change. -/
def useSampleParts : List Part :=
  faultParts ++ [.ctr, .reg .PWR_AVS, .reg .CTR_EVENTS]

theorem State.useSample_within {input : ℕ} {value : ℤ} (h : useSampleParts ⊆ L) :
    Within L (State.useSample t input value) t := by
  unfold State.useSample
  extract_lets src s s1
  have hs : Within L s t := .step (h (by decide)) (.ctr t _) .rfl
  have hs1 : Within L s1 t := .ite ((State.setFld_within (h (by decide))).trans hs) hs
  clear_value src s s1
  split
  · exact hs1
  · extract_lets s2
    have hs2 : Within L s2 t := .ite hs1 (.ite ((State.setFrom_within (h (by decide))).trans hs1) (.ite ((State.anchor_within (sub_of h rfl)).trans hs1) hs1))
    exact .ite ((State.raiseAt_within (sub_of h rfl)).trans hs2) hs2

theorem State.nextSample_within {input : ℕ} (h : .ctr ∈ L) :
    Within L (State.nextSample t input) t := by
  unfold State.nextSample
  extract_lets src
  clear_value src
  refine .ite ?_ ?_
  · split
    · exact .step h (.ctr t _) .rfl
    · exact .step h (.ctr t _) .rfl
  · exact .step h (.ctr t _) .rfl

theorem execAdcSampleEnd_runs {input : ℕ} {value : ℤ} (h : useSampleParts ⊆ L) :
    Runs L t (execAdcSampleEnd input value t) := by
  unfold execAdcSampleEnd
  refine .ite ?_ ?_
  · exact .next .rfl
  · exact .next ((State.nextSample_within (h (by decide))).trans (State.useSample_within h))

theorem execOnDemandSampleRequest_runs {input : ℕ} (h : .ctr ∈ L) :
    Runs L t (execOnDemandSampleRequest input t) := by
  unfold execOnDemandSampleRequest
  refine .ite ?_ ?_
  · exact .next .rfl
  · exact .next (State.demandSample_within h)

/-- What `State.calibrate` may change. -/
def calibrateParts : List Part :=
  [.fresh, .out, .gaz, .mgmt, .fns, .reg .CTR_EVENTS, .reg .CTR_CAL, .reg .CHR_ALERT_STATUS, .reg .GAZ_COUNTS]

theorem State.calibrate_within {d : ℕ} (h : calibrateParts ⊆ L) :
    Within L (State.calibrate t d) t := by
  unfold State.calibrate
  extract_lets g old n r
  have hr : Within L r.2 t := State.draw_within (h (by decide))
  have step : ∀ (v : ℕ) u, Within L u t → Within L (if g < 768 ∨ 1361920 < 1000 * g then
      (u.setFld F.CTR_CAL_SCALE d v).event F.CTR_EVENTS_CAL_RANGE 0 d else u.setFld F.CTR_CAL_SCALE d v) t := fun v u hu =>
    have hv : Within L (u.setFld F.CTR_CAL_SCALE d v) t := (State.setFld_within (h (by decide))).trans hu
    .ite ((State.event_within (h (by decide)) (sub_of h rfl)).trans hv) hv
  split
  next up s e =>
    refine step _ _ ?_
    split at e
    · exact (Prod.mk.inj e).2 ▸ .rfl
    · exact (Prod.mk.inj e).2 ▸ hr

/-- What `State.compensate` may change. -/
def compensateParts : List Part :=
  [.out, .gaz, .dat, .mgmt, .fns, .ctr, .reg .CTR_EVENTS, .reg .CHR_ALERT_STATUS, .reg .GAZ_COUNTS]

theorem State.compensate_within (h : compensateParts ⊆ L) :
    Within L (State.compensate t) t := by
  unfold State.compensate
  extract_lets t1 s src s1 src1
  have hs : Within L s t := State.rebase_within (h (by decide))
  have hs1 : Within L s1 t := .step (h (by decide)) (.dat s _) hs
  exact .ite ((State.event_within (h (by decide)) (sub_of h rfl)).trans (.step (h (by decide)) (.ctr s1 _) hs1)) hs1

/-- What `execRoundEnd` may change. -/
def execRoundEndParts : List Part :=
  calibrateParts ++ [.dat, .fch, .ctr, .reg .CTR_ROUND, .reg .CTR_ROUND_CNT]

theorem execRoundEnd_runs (h : execRoundEndParts ⊆ L) :
    Runs L t (execRoundEnd t) := by
  unfold execRoundEnd
  extract_lets s us stretch s1 s2 s3 s4 src s5
  have hs : Within L s t := Within.foldl fun u x => State.calibrate_within (sub_of h rfl)
  have hs1 : Within L s1 t := (State.setFld_within (h (by decide))).trans hs
  have hs2 : Within L s2 t := (State.setFld_within (h (by decide))).trans hs1
  have hs3 : Within L s3 t := (State.setFld_within (h (by decide))).trans hs2
  have hs4 : Within L s4 t := (State.setFld_within (h (by decide))).trans hs3
  have hs5 : Within L s5 t := .step (h (by decide)) (.ctr s4 _) hs4
  clear_value s us stretch s1 s2 s3 s4 src s5
  refine .ite ?_ ?_
  · exact .next .rfl
  · refine .ite ?_ ?_
    · exact .next (State.compensate_within (sub_of h rfl))
    · exact .next ((State.retrainCheck_within (h (by decide))).trans ((State.compensate_within (sub_of h rfl)).trans hs5))

theorem execCandidateUnquietable_runs (h : [.out, .gaz, .mgmt, .fns, .ctr, .reg .CTR_EVENTS, .reg .CHR_ALERT_STATUS, .reg .GAZ_COUNTS] ⊆ L) :
    Runs L t (execCandidateUnquietable t) := by
  unfold execCandidateUnquietable
  extract_lets src
  clear_value src
  split
  · exact .next .rfl
  · extract_lets s
    have hs : Within L s t := .step (h (by decide)) (.ctr t _) .rfl
    clear_value s
    refine .ite ?_ ?_
    · exact .next .rfl
    · exact .next ((State.event_within (h (by decide)) (sub_of h rfl)).trans hs)

theorem execCritTripClear_runs (h : tripClearsParts ⊆ L) :
    Runs L t (execCritTripClear t) := by
  unfold execCritTripClear
  refine .ite ?_ ?_
  · exact .next (State.tripClears_within h)
  · exact .next .rfl

theorem execCritTripTimeout_runs (h : faultParts ⊆ L) :
    Runs L t (execCritTripTimeout t) := by
  unfold execCritTripTimeout
  refine .ite ?_ ?_
  · exact .next (State.raiseAt_within h)
  · exact .next .rfl

theorem execThermalGet_runs {q : MbxReq} (h : mbxParts ⊆ L) :
    Runs L t (execThermalGet q t) := by
  unfold execThermalGet
  refine .next ?_
  refine State.serve_within h (fun u => ?_)
  exact State.respond_within h

theorem execClassGet_runs {q : MbxReq} (h : mbxParts ⊆ L) :
    Runs L t (execClassGet q t) := by
  unfold execClassGet
  extract_lets c
  clear_value c
  refine .next ?_
  refine State.serve_within h (fun u => ?_)
  exact .ite (State.refuse_within h) (.ite (State.refuse_within h) (State.respond_within h))

/-- What `execClassSet` may change. -/
def execClassSetParts : List Part :=
  recheck1Parts ++ [.buckets, .mbx, .ops, .reg .MBX_EVENTS]

theorem execClassSet_runs {q : MbxReq} (h : execClassSetParts ⊆ L) :
    Runs L t (execClassSet q t) := by
  unfold execClassSet
  extract_lets c x
  clear_value c x
  refine .next ?_
  refine State.serve_within (sub_of h rfl) (fun u => ?_)
  extract_lets old s s1
  have hs : Within L s u := State.setCls_within (h (by decide))
  have hs1 : Within L s1 u := .ite (.step (h (by decide)) (.buckets s _) hs) hs
  exact .ite (State.refuse_within (sub_of h rfl)) (.ite (State.refuse_within (sub_of h rfl)) (.ite (State.refuse_within (sub_of h rfl)) ((State.respond_within (sub_of h rfl)).trans ((State.recheck1_within (sub_of h rfl)).trans hs1))))

/-- What `execMaskSet` may change. -/
def execMaskSetParts : List Part :=
  [.out, .mgmt, .fns, .mbx, .ops, .reg .CHR_ALERT_STATUS, .reg .HST_CLASS_MASK_LO, .reg .HST_CLASS_MASK_HI, .reg .MBX_EVENTS]

theorem execMaskSet_runs {q : MbxReq} (h : execMaskSetParts ⊆ L) :
    Runs L t (execMaskSet q t) := by
  unfold execMaskSet
  extract_lets f
  clear_value f
  refine .next ?_
  refine State.serve_within (sub_of h rfl) (fun u => ?_)
  extract_lets s s1
  have hs : Within L s u := State.setReg_within (sub_of h rfl)
  have hs1 : Within L s1 u := (State.setReg_within (sub_of h rfl)).trans hs
  exact .ite (State.refuse_within (sub_of h rfl)) ((State.respond_within (sub_of h rfl)).trans hs1)

theorem execDefaultSet_runs {q : MbxReq} (h : [.out, .mgmt, .fns, .mbx, .ops, .reg .CHR_ALERT_STATUS, .reg .HST_CLASS_DEFAULT, .reg .MBX_EVENTS] ⊆ L) :
    Runs L t (execDefaultSet q t) := by
  unfold execDefaultSet
  extract_lets c
  clear_value c
  refine .next ?_
  refine State.serve_within (sub_of h rfl) (fun u => ?_)
  split
  · exact State.refuse_within (sub_of h rfl)
  · exact .ite (State.refuse_within (sub_of h rfl)) (.ite (State.refuse_within (sub_of h rfl)) ((State.respond_within (sub_of h rfl)).trans (State.setFld_within (h (by decide)))))

theorem execQueueBind_runs {q : MbxReq} (h : [.out, .mgmt, .fns, .sqs, .mbx, .ops, .reg .CHR_ALERT_STATUS, .reg .MBX_EVENTS] ⊆ L) :
    Runs L t (execQueueBind q t) := by
  unfold execQueueBind
  extract_lets c k
  clear_value c k
  refine .next ?_
  refine State.serve_within (sub_of h rfl) (fun u => ?_)
  split
  · exact State.refuse_within (sub_of h rfl)
  · refine .ite ?_ ?_
    · exact State.refuse_within (sub_of h rfl)
    · refine .ite ?_ ?_
      · exact State.refuse_within (sub_of h rfl)
      · split
        · exact State.refuse_within (sub_of h rfl)
        · exact .ite (State.refuse_within (sub_of h rfl)) ((State.respond_within (sub_of h rfl)).trans (State.setSq_within (h (by decide))))

theorem execFloorsGet_runs {q : MbxReq} (h : mbxParts ⊆ L) :
    Runs L t (execFloorsGet q t) := by
  unfold execFloorsGet
  refine .next ?_
  refine State.serve_within h (fun u => ?_)
  extract_lets f base more
  exact State.respond_within h

theorem execQuotaSet_runs {q : MbxReq} (h : mbxParts ⊆ L) :
    Runs L t (execQuotaSet q t) := by
  unfold execQuotaSet
  extract_lets f n
  clear_value f n
  refine .next ?_
  refine State.serve_within h (fun u => ?_)
  extract_lets src t1
  have ht1 : Within L t1 u := State.setFn_within (h (by decide))
  exact .ite (State.refuse_within h) (.ite (State.refuse_within h) ((State.respond_within h).trans ht1))

/-- What `execReserveSet` may change. -/
def execReserveSetParts : List Part :=
  [.out, .mgmt, .fns, .mbx, .ops, .reg .PLT_RESERVE, .reg .PLT_RECON, .reg .CHR_ALERT_STATUS, .reg .MBX_EVENTS]

theorem execReserveSet_runs {q : MbxReq} (h : execReserveSetParts ⊆ L) :
    Runs L t (execReserveSet q t) := by
  unfold execReserveSet
  extract_lets keep g r named
  clear_value keep g r named
  refine .next ?_
  refine State.serve_within (sub_of h rfl) (fun u => ?_)
  extract_lets hk th recon s s1
  have hs : Within L s u := (State.setFld_within (h (by decide))).trans (State.setFld_within (h (by decide)))
  have hs1 : Within L s1 u := (Within.foldl fun u x => .ite (State.setFld_within (h (by decide))) .rfl).trans hs
  exact .ite (State.refuse_within (sub_of h rfl)) (.ite (State.refuse_within (sub_of h rfl)) ((State.respond_within (sub_of h rfl)).trans hs1))

theorem State.slowTransfers_within {port : ℕ} {old : ℕ} {new : ℕ} (h : .cmds ∈ L) :
    Within L (State.slowTransfers t port old new) t := by
  unfold State.slowTransfers
  exact .step h (.cmds t _) .rfl

theorem execLinkRateChange_runs {port : ℕ} {gen : ℕ} {width : ℕ} {flit : Bool} (h : [.ports, .cmds] ⊆ L) :
    Runs L t (execLinkRateChange port gen width flit t) := by
  unfold execLinkRateChange
  extract_lets x s
  have hs : Within L s t := State.slowTransfers_within (h (by decide))
  clear_value x s
  refine .ite ?_ ?_
  · exact .next .rfl
  · exact .next ((State.setPort_within (h (by decide))).trans hs)

theorem execConventionalReset_runs {port : ℕ} {cause : ℕ} (h : linkDownParts ⊆ L) :
    Runs L t (execConventionalReset port cause t) := by
  unfold execConventionalReset
  extract_lets x s
  have hs : Within L s t := State.linkDown_within h
  clear_value x s
  refine .ite ?_ ?_
  · exact .next .rfl
  · split
    · exact .next ((State.resetPort_within (sub_of h rfl)).trans (State.setPort_within (h (by decide))))
    · exact .next (State.resetPort_within (sub_of h rfl))
    · exact .next ((State.record_within (sub_of h rfl)).trans hs)

theorem execPerstRelease_runs {port : ℕ} (h : wakeParts ⊆ L) :
    Runs L t (execPerstRelease port t) := by
  unfold execPerstRelease
  extract_lets src s
  have hs : Within L s t := State.setPort_within (h (by decide))
  clear_value src s
  refine .ite ?_ ?_
  · exact .next .rfl
  · refine .ite ?_ ?_
    · exact .next ((State.wake_within h).trans hs)
    · exact .next hs

theorem execFlr_runs {fn : ℕ} (h : resetFnParts ⊆ L) :
    Runs L t (execFlr fn t) := by
  unfold execFlr
  refine .ite ?_ ?_
  · exact .next .rfl
  · refine .ite ?_ ?_
    · exact .next ((State.clearVfs_within (h (by decide))).trans (State.resetFns_within h))
    · exact .next (State.resetFn_within h)

theorem execVfEnableWrite_runs {port : ℕ} {enable : Bool} {numVfs : ℕ} {ari : Bool} (h : resetFnParts ⊆ L) :
    Runs L t (execVfEnableWrite port enable numVfs ari t) := by
  unfold execVfEnableWrite
  extract_lets x s n
  have hs : Within L s t := State.setFn_within (h (by decide))
  clear_value x s n
  refine .ite ?_ ?_
  · exact .next .rfl
  · refine .ite ?_ ?_
    · refine .next ?_
      refine (Within.foldl fun u x1 => ?_).trans ?_
      · extract_lets f src
        exact State.setFn_within (h (by decide))
      · exact hs
    · exact .next ((State.clearVfs_within (h (by decide))).trans (State.resetFns_within h))

theorem State.dropWindow_within {f : ℕ} (h : .window ∈ L) : Within L (State.dropWindow t f) t := by
  unfold State.dropWindow
  exact .step h (.window t _ (tabWf_filter _ _ _)) .rfl

/-- What `State.resizeBar` may change. -/
def resizeBarParts : List Part :=
  readLostParts ++ [.window]

theorem State.resizeBar_within {f : ℕ} {size : ℕ} (h : resizeBarParts ⊆ L) :
    Within L (State.resizeBar t f size) t := by
  unfold State.resizeBar
  extract_lets x s
  have hs : Within L s t := (State.dropWindow_within (h (by decide))).trans (State.setFn_within (h (by decide)))
  exact .ite .rfl ((Within.foldl fun u x => State.dataError_within (sub_of h rfl)).trans hs)

theorem execBarSizeWrite_runs {fn : ℕ} {log2 : ℕ} (h : resizeBarParts ⊆ L) :
    Runs L t (execBarSizeWrite fn log2 t) := by
  unfold execBarSizeWrite
  refine .ite ?_ ?_
  · exact .next .rfl
  · refine .ite ?_ ?_
    · refine .ite ?_ ?_
      · exact .next .rfl
      · exact .next (State.resizeBar_within h)
    · refine .ite ?_ ?_
      · exact .next .rfl
      · exact .next (Within.foldl fun u x => State.resizeBar_within h)

theorem execCmbmscWrite_runs {fn : ℕ} {cre : Bool} {cmse : Bool} (h : [.fns, .window] ⊆ L) :
    Runs L t (execCmbmscWrite fn cre cmse t) := by
  unfold execCmbmscWrite
  extract_lets x
  clear_value x
  refine .ite ?_ ?_
  · exact .next .rfl
  · refine .ite ?_ ?_
    · exact .next (State.setFn_within (h (by decide)))
    · refine .ite ?_ ?_
      · exact .next ((State.dropWindow_within (h (by decide))).trans (State.setFn_within (h (by decide))))
      · exact .next (State.setFn_within (h (by decide)))

theorem tabWf_foldl_set {α β : Type} [DecidableEq α] (d : Nat → α) (c : β → Prop) [DecidablePred c] (k : β → Nat) (v : β → α) (l : List β)
    {m : Tab α} (h : tabWf d m = true) : tabWf d (l.foldl (fun m b => if c b then tabSet d m (k b) (v b) else m) m) = true := by
  induction l generalizing m with
  | nil => exact h
  | cons b l ih =>
    refine ih ?_
    dsimp only
    split
    · exact tabWf_set d m _ _ h
    · exact h

theorem execDirectWindowWrite_runs {fn : ℕ} {offset : ℕ} {data : List ℕ} (h : .window ∈ L) :
    Runs L t (execDirectWindowWrite fn offset data t) := by
  unfold execDirectWindowWrite
  exact .ite (.next .rfl) (.next (.step h (.window t _ (tabWf_foldl_set _ (fun k => offset + k < (t.fnOf fn).backing) (fun k => fn * 2 ^ 40 + offset + k) _ _)) .rfl))

theorem State.sendPending_within {fn : ℕ} (h : [.out, .fns] ⊆ L) :
    Within L (State.sendPending t fn) t := by
  unfold State.sendPending
  extract_lets x go s
  have hs : Within L s t := State.setFn_within (h (by decide))
  exact .ite .rfl ((Within.foldl fun u x => State.emit_within (sub_of h rfl)).trans hs)

theorem execMsixUnmask_runs {fn : ℕ} {what : MsixWrite} (h : [.out, .fns] ⊆ L) :
    Runs L t (execMsixUnmask fn what t) := by
  unfold execMsixUnmask
  extract_lets x x'
  clear_value x x'
  refine .ite ?_ ?_
  · exact .next .rfl
  · exact .next ((State.sendPending_within h).trans (State.setFn_within (h (by decide))))

theorem execGazRecordLatchRead_runs {fn : ℕ} {record : ℕ} (h : [.out, .fns] ⊆ L) :
    Runs L t (execGazRecordLatchRead fn record t) := by
  unfold execGazRecordLatchRead
  refine .ite ?_ ?_
  · exact .next .rfl
  · exact .next (State.latchGaz_within h)

theorem execPoisonedWrite_runs {fn : ℕ} {bar : ℕ} (h : [.out, .gaz, .mgmt, .fns, .reg .CHR_ALERT_STATUS, .reg .GAZ_COUNTS, .reg .HST_FN_EVENTS] ⊆ L) :
    Runs L t (execPoisonedWrite fn bar t) := by
  unfold execPoisonedWrite
  refine .ite ?_ ?_
  · exact .next .rfl
  · exact .next ((State.aerErr_within (sub_of h rfl)).trans (State.event_within (h (by decide)) (sub_of h rfl)))

theorem execReceivedTlpError_runs {port : ℕ} {fn : Option ℕ} {err : ℕ} (h : [.out, .fns] ⊆ L) :
    Runs L t (execReceivedTlpError port fn err t) := by
  unfold execReceivedTlpError
  refine .ite ?_ ?_
  · exact .next .rfl
  · exact .next (State.aerErr_within h)

theorem execAtsInvalidate_runs {fn : ℕ} {page : ℕ} (h : [.out, .fns] ⊆ L) :
    Runs L t (execAtsInvalidate fn page t) := by
  unfold execAtsInvalidate
  extract_lets x
  clear_value x
  refine .ite ?_ ?_
  · exact .next .rfl
  · exact .next ((State.atsDone_within h).trans (State.setFn_within (h (by decide))))

/-- What `execFlitCrcError` may change. -/
def execFlitCrcErrorParts : List Part :=
  faultParts ++ [.links, .reg .CHR_LINK_STAT]

theorem execFlitCrcError_runs {j : ℕ} {delivered : Bool} (h : execFlitCrcErrorParts ⊆ L) :
    Runs L t (execFlitCrcError j delivered t) := by
  unfold execFlitCrcError
  extract_lets far n s s1 s2 s3 s4
  have hs : Within L s t := State.bump_within (h (by decide))
  have hs1 : Within L s1 t := (State.setFld_within (h (by decide))).trans ((State.setFld_within (h (by decide))).trans hs)
  have hs2 : Within L s2 t := .step (h (by decide)) (.links s1 _) hs1
  have hs3 : Within L s3 t := (State.bump_within (h (by decide))).trans hs
  have hs4 : Within L s4 t := .step (h (by decide)) (.links s3 _) hs3
  clear_value far n s s1 s2 s3 s4
  refine .ite ?_ ?_
  · exact .next .rfl
  · refine .ite ?_ ?_
    · exact .next ((State.raiseAt_within (sub_of h rfl)).trans ((State.raiseAt_within (sub_of h rfl)).trans hs2))
    · refine .ite ?_ ?_
      · exact .next ((State.raiseAt_within (sub_of h rfl)).trans ((State.raiseAt_within (sub_of h rfl)).trans hs4))
      · exact .next (.step (h (by decide)) (.links s3 _) hs3)

theorem State.countTileCe_within {r : FaultReport} (h : .reg .TIL_ECC ∈ L) :
    Within L (State.countTileCe t r) t := by
  unfold State.countTileCe
  exact .ite (State.bump_within h) .rfl

/-- What `execFaultDetected` may change. -/
def execFaultDetectedParts : List Part :=
  faultParts ++ [.reg .TIL_ECC]

theorem execFaultDetected_runs {r : FaultReport} (h : execFaultDetectedParts ⊆ L) :
    Runs L t (execFaultDetected r t) := by
  unfold execFaultDetected
  extract_lets s
  have hs : Within L s t := State.countTileCe_within (h (by decide))
  clear_value s
  exact .next (.ite ((State.raise_within (sub_of h rfl)).trans ((State.spendFor_within (h (by decide))).trans hs)) ((State.raise_within (sub_of h rfl)).trans hs))

theorem execPulseEnd_runs (h : .pin ∈ L) :
    Runs L t (execPulseEnd t) := by
  unfold execPulseEnd
  extract_lets src
  clear_value src
  exact .next (.step h (.pin t _) .rfl)

theorem execFenceIndRelease_runs {block : ℕ} {inst : ℕ} (h : .flt ∈ L) :
    Runs L t (execFenceIndRelease block inst t) := by
  unfold execFenceIndRelease
  extract_lets u s
  have hs : Within L s t := State.setUnit_within h
  clear_value u s
  refine .ite ?_ ?_
  · exact .next .rfl
  · exact .next (.step h (.flt s _) hs)

theorem State.softFence_within {block : ℕ} {inst : ℕ} (h : faultParts ⊆ L) :
    Within L (State.softFence t block inst) t := by
  unfold State.softFence
  exact .ite (State.raiseAt_within h) .rfl

theorem State.clearCounts_within {block : ℕ} {inst : ℕ} (h : .flt ∈ L) :
    Within L (State.clearCounts t block inst) t := by
  unfold State.clearCounts
  exact .ite (State.setUnit_within h) .rfl

theorem State.rearm_within (h : .reg .FLT_PIN_CTL ∈ L) :
    Within L (State.rearm t) t := by
  unfold State.rearm
  exact (State.setFld_within h).trans (State.setFld_within h)

theorem execFence_runs {block : ℕ} {inst : ℕ} (h : faultParts ⊆ L) :
    Runs L t (execFence block inst t) := by
  unfold execFence
  exact .next (State.softFence_within h)

theorem execCntClear_runs {block : ℕ} {inst : ℕ} (h : .flt ∈ L) :
    Runs L t (execCntClear block inst t) := by
  unfold execCntClear
  exact .next (State.clearCounts_within h)

theorem execRearm_runs (h : .reg .FLT_PIN_CTL ∈ L) :
    Runs L t (execRearm t) := by
  unfold execRearm
  exact .next (State.rearm_within h)

theorem execLevelWrite_runs {level : Bool} (h : .reg .FLT_PIN_CTL ∈ L) :
    Runs L t (execLevelWrite level t) := by
  unfold execLevelWrite
  exact .next (State.setFld_within h)

theorem State.injectGo_within {k : ℕ} (h : [.flt, .reg .FLT_INJ_STATUS] ⊆ L) :
    Within L (State.injectGo t k) t := by
  unfold State.injectGo
  extract_lets b i c single n
  exact .ite (State.setFld_within (h (by decide))) (.ite (State.setFld_within (h (by decide))) (State.arm_within (h (by decide))))

theorem execGo_runs {path : Path} (h : [.flt, .reg .FLT_INJ_STATUS] ⊆ L) :
    Runs L t (execGo path t) := by
  unfold execGo
  exact .next (State.injectGo_within h)

theorem execFaultGet_runs {q : MbxReq} (h : mbxParts ⊆ L) :
    Runs L t (execFaultGet q t) := by
  unfold execFaultGet
  extract_lets b i
  clear_value b i
  refine .next ?_
  refine State.serve_within h (fun u => ?_)
  exact .ite (State.refuse_within h) (State.respond_within h)

theorem execFaultMask_runs {q : MbxReq} (h : [.out, .flt, .mgmt, .fns, .mbx, .ops, .reg .CHR_ALERT_STATUS, .reg .MBX_EVENTS] ⊆ L) :
    Runs L t (execFaultMask q t) := by
  unfold execFaultMask
  extract_lets b i m
  clear_value b i m
  refine .next ?_
  refine State.serve_within (sub_of h rfl) (fun u => ?_)
  exact .ite (State.refuse_within (sub_of h rfl)) (.ite (State.refuse_within (sub_of h rfl)) ((State.respond_within (sub_of h rfl)).trans (State.setUnit_within (h (by decide)))))

theorem execFaultPin_runs {q : MbxReq} (h : [.out, .mgmt, .fns, .mbx, .ops, .reg .CHR_ALERT_STATUS, .reg .FLT_PIN_CTL, .reg .MBX_EVENTS] ⊆ L) :
    Runs L t (execFaultPin q t) := by
  unfold execFaultPin
  extract_lets w ms
  clear_value w ms
  refine .next ?_
  refine State.serve_within (sub_of h rfl) (fun u => ?_)
  extract_lets s s1
  have hs : Within L s u := (State.setFld_within (h (by decide))).trans (State.setFld_within (h (by decide)))
  have hs1 : Within L s1 u := .ite ((State.setFld_within (h (by decide))).trans hs) hs
  exact .ite (State.refuse_within (sub_of h rfl)) ((State.respond_within (sub_of h rfl)).trans hs1)

/-- What `State.bayReset` may change. -/
def bayResetParts : List Part :=
  [.out, .flt, .gaz, .mgmt, .fch, .bays, .reg .SHB_IND, .reg .CHR_ALERT_STATUS, .reg .GAZ_COUNTS]

theorem State.bayReset_within {b : ℕ} (h : bayResetParts ⊆ L) :
    Within L (State.bayReset t b).1 t := by
  unfold State.bayReset
  extract_lets x u
  clear_value x u
  split
  · dsimp -zeta only
    exact (State.toBay_within (sub_of h rfl)).trans (State.setUnit_within (h (by decide)))
  · dsimp -zeta only
    exact .rfl

theorem State.resetInstance_within {b : ℕ} {i : ℕ} {h3 : ℕ} (h : [.flt, .fch, .cip] ⊆ L) :
    Within L (State.resetInstance t b i h3) t := by
  unfold State.resetInstance
  extract_lets u s src src1
  have hs : Within L s t := State.setUnit_within (h (by decide))
  clear_value u s src src1
  split
  · exact .step (h (by decide)) (.cip s _) hs
  · exact (State.setChan_within (h (by decide))).trans hs
  · exact hs

/-- What `execUnitReset` may change. -/
def execUnitResetParts : List Part :=
  fenceBayParts ++ [.flt, .mbx, .ops, .nextHandle, .trv, .dram, .cip, .srv, .reg .ATL_STEER, .reg .MBX_EVENTS]

theorem execUnitReset_runs {q : MbxReq} {sibling : Bool} (h : execUnitResetParts ⊆ L) :
    Runs L t (execUnitReset q sibling t) := by
  unfold execUnitReset
  extract_lets b i
  clear_value b i
  refine .next ?_
  refine State.serve_within (sub_of h rfl) (fun u => ?_)
  extract_lets u1 r l l1 s s1 src
  have hr : Within L r.1 u := State.bayReset_within (sub_of h rfl)
  have hl : Within L l.2 u := (State.startLong_within (sub_of h rfl)).trans ((State.toService_within (sub_of h rfl)).trans hr)
  have hl1 : Within L l1.2 u := (State.startLong_within (sub_of h rfl)).trans (State.toService_within (sub_of h rfl))
  have hs : Within L s u := .ite hl1 ((State.isolate_within (sub_of h rfl)).trans hl1)
  have hs1 : Within L s1 u := (State.resetInstance_within (sub_of h rfl)).trans hs
  exact .ite (State.refuse_within (sub_of h rfl)) (.ite (State.refuse_within (sub_of h rfl)) (.ite (State.refuse_within (sub_of h rfl)) (.ite ((State.opDone_within (sub_of h rfl)).trans hl) (.ite (State.refuse_within (sub_of h rfl)) (.step (h (by decide)) (.srv s1 _) hs1)))))

theorem execInject_runs {q : MbxReq} (h : [.out, .flt, .mgmt, .fns, .mbx, .ops, .reg .CHR_ALERT_STATUS, .reg .MBX_EVENTS] ⊆ L) :
    Runs L t (execInject q t) := by
  unfold execInject
  extract_lets b i c n k single
  clear_value b i c n k single
  refine .next ?_
  refine State.serve_within (sub_of h rfl) (fun u => ?_)
  exact .ite (State.refuse_within (sub_of h rfl)) (.ite (State.refuse_within (sub_of h rfl)) (.ite (State.refuse_within (sub_of h rfl)) (.ite (State.refuse_within (sub_of h rfl)) ((State.respond_within (sub_of h rfl)).trans (State.arm_within (h (by decide)))))))

theorem execDiagClose_runs {q : MbxReq} (h : [.out, .mgmt, .fns, .mbx, .ops, .cip, .reg .CHR_ALERT_STATUS, .reg .MBX_EVENTS] ⊆ L) :
    Runs L t (execDiagClose q t) := by
  unfold execDiagClose
  refine .next ?_
  refine State.serve_within (sub_of h rfl) (fun u => ?_)
  exact (State.respond_within (sub_of h rfl)).trans (.step (h (by decide)) (.cip u _) .rfl)

theorem State.segAbort_within {p : ℕ} {op : ℕ} {q : MbxReq} {st : ℕ} (h : mbxParts ⊆ L) :
    Within L (State.segAbort t p op q st) t := by
  unfold State.segAbort
  exact (State.refuse_within h).trans (State.setMb_within (h (by decide)))

theorem State.segTake_within {p : ℕ} {b : SegBuf} (h : [.out, .gaz, .mgmt, .fns, .mbx, .reg .CHR_ALERT_STATUS, .reg .GAZ_COUNTS, .reg .MBX_EVENTS] ⊆ L) :
    Within L (State.segTake t p b) t := by
  unfold State.segTake
  extract_lets m s
  have hs : Within L s t := State.setMb_within (h (by decide))
  exact .ite ((State.event_within (h (by decide)) (sub_of h rfl)).trans hs) ((State.emit_within (sub_of h rfl)).trans hs)

theorem State.takeSegment_within {p : ℕ} {h2 : List ℕ} {carried : Option ℕ} {data : List ℕ} (h : execGazClearParts ⊆ L) :
    Within L (State.takeSegment t p h2 carried data) t := by
  unfold State.takeSegment
  extract_lets m ver fl op tag len more resv got q changed n bytes
  exact .ite (State.segAbort_within (sub_of h rfl)) (.ite (State.segAbort_within (sub_of h rfl)) (.ite (State.segTake_within (sub_of h rfl)) (State.setMb_within (h (by decide)))))

theorem State.ring_within {fn : ℕ} (h : execGazClearParts ⊆ L) :
    Within L (State.ring t fn) t := by
  unfold State.ring
  extract_lets m
  exact .ite .rfl (.ite (State.event_within (h (by decide)) (sub_of h rfl)) (State.takeSegment_within h))

theorem execRing_runs {fn : ℕ} (h : execGazClearParts ⊆ L) :
    Runs L t (execRing fn t) := by
  unfold execRing
  exact .next (State.ring_within h)

theorem State.respDone_within {fn : ℕ} (h : mbxParts ⊆ L) :
    Within L (State.respDone t fn) t := by
  unfold State.respDone
  extract_lets m s
  have hs : Within L s t := State.setMb_within (h (by decide))
  clear_value m s
  refine .ite ?_ ?_
  · exact .rfl
  · split
    · exact (State.postSegment_within h).trans hs
    · exact hs

theorem execRespDone_runs {fn : ℕ} (h : mbxParts ⊆ L) :
    Runs L t (execRespDone fn t) := by
  unfold execRespDone
  exact .next (State.respDone_within h)

theorem State.mgmtDiscard_within (h : .reg .CHR_MGMT_ERR ∈ L) :
    Within L (State.mgmtDiscard t) t := by
  unfold State.mgmtDiscard
  exact State.bump_within h

/-- What `execMctpMailboxMessage` may change. -/
def execMctpMailboxMessageParts : List Part :=
  [.out, .gaz, .mgmt, .fns, .mbx, .ops, .reg .CHR_MGMT_ERR, .reg .CHR_ALERT_STATUS, .reg .GAZ_COUNTS, .reg .MBX_EVENTS]

theorem execMctpMailboxMessage_runs {ep : ℕ} {eid : ℕ} {ic : Bool} {tagOwner : Bool} {body : List ℕ} (h : execMctpMailboxMessageParts ⊆ L) :
    Runs L t (execMctpMailboxMessage ep eid ic tagOwner body t) := by
  unfold execMctpMailboxMessage
  extract_lets p h1 src
  clear_value p h1 src
  refine .ite ?_ ?_
  · exact .next .rfl
  · refine .ite ?_ ?_
    · exact .next (State.mgmtDiscard_within (h (by decide)))
    · refine .ite ?_ ?_
      · exact .next (State.emit_within (sub_of h rfl))
      · exact .next ((State.takeSegment_within (sub_of h rfl)).trans (State.setMb_within (h (by decide))))

theorem execSegmentTimeout_runs {path : ℕ} (h : mbxParts ⊆ L) :
    Runs L t (execSegmentTimeout path t) := by
  unfold execSegmentTimeout
  split
  · exact .next (State.segAbort_within h)
  · exact .next .rfl

theorem execInboundMailboxWrite_runs {fn : ℕ} {offset : ℕ} {data : List ℕ} (h : .inbox ∈ L) :
    Runs L t (execInboundMailboxWrite fn offset data t) := by
  unfold execInboundMailboxWrite
  exact .next (.step h (.inbox t _ fun hw => by simpa using tabWf_foldl_set _ (fun _ => True) (fun k => 4096 * fn + offset + k) _ _ hw) .rfl)

theorem execHello_runs {q : MbxReq} (h : mbxParts ⊆ L) :
    Runs L t (execHello q t) := by
  unfold execHello
  extract_lets lo hi v
  clear_value lo hi v
  refine .next ?_
  refine State.serve_within h (fun u => ?_)
  extract_lets src s
  have hs : Within L s u := State.setMb_within (h (by decide))
  exact .ite (State.refuse_within h) (.ite (State.refuse_within h) ((State.respond_within h).trans hs))

/-- What `execGoodbye` may change. -/
def execGoodbyeParts : List Part :=
  [.out, .gaz, .mgmt, .fns, .mbx, .ops, .por, .reg .CHR_ALERT_STATUS, .reg .GAZ_COUNTS, .reg .MBX_EVENTS]

theorem execGoodbye_runs {q : MbxReq} (h : execGoodbyeParts ⊆ L) :
    Runs L t (execGoodbye q t) := by
  unfold execGoodbye
  refine .next ?_
  refine State.serve_within (sub_of h rfl) (fun u => ?_)
  exact (State.endSession_within (sub_of h rfl)).trans (State.respond_within (sub_of h rfl))

theorem execOpStatus_runs {q : MbxReq} (h : mbxParts ⊆ L) :
    Runs L t (execOpStatus q t) := by
  unfold execOpStatus
  extract_lets h1
  clear_value h1
  refine .next ?_
  refine State.serve_within h (fun u => ?_)
  split
  · exact State.refuse_within h
  · extract_lets s
    have hs : Within L s u := .ite (.step (h (by decide)) (.ops u _) .rfl) .rfl
    exact (State.respond_within h).trans hs

theorem execDeviceInfo_runs {q : MbxReq} (h : mbxParts ⊆ L) :
    Runs L t (execDeviceInfo q t) := by
  unfold execDeviceInfo
  refine .next ?_
  refine State.serve_within h (fun u => ?_)
  exact State.respond_within h

theorem execMailboxInvalidOpcode_runs {q : MbxReq} {opcode : ℕ} (h : mbxParts ⊆ L) :
    Runs L t (execMailboxInvalidOpcode q opcode t) := by
  unfold execMailboxInvalidOpcode
  refine .next ?_
  refine State.serve_within h (fun u => ?_)
  exact State.refuse_within h

theorem execGcVictimPick_runs {group : ℕ} (h : [.out, .atl, .svy] ⊆ L) :
    Runs L t (execGcVictimPick group t) := by
  unfold execGcVictimPick
  extract_lets cands
  clear_value cands
  split
  · exact .next .rfl
  · extract_lets src
    clear_value src
    exact .next ((State.emit_within (sub_of h rfl)).trans (State.moveBand_within (sub_of h rfl)))

theorem State.carriedOut_within {g : ℕ} {n : ℕ} (h : .plt ∈ L) :
    Within L (State.carriedOut t g n) t := by
  unfold State.carriedOut
  extract_lets l each src
  exact .step h (.plt t _) .rfl

theorem execDebtConversion_runs {group : ℕ} (h : [.out, .gaz, .mgmt, .fns, .plt, .reg .PLT_EVENTS, .reg .CHR_ALERT_STATUS, .reg .GAZ_COUNTS] ⊆ L) :
    Runs L t (execDebtConversion group t) := by
  unfold execDebtConversion
  extract_lets ds each under short excess s' src
  have hs' : Within L s' t := by
    unfold s'
    refine Within.foldl fun u x => ?_
    extract_lets n t1 src1
    have ht1 : Within L t1 u := .ite (State.pushErase_within (h (by decide))) ((State.convert_within (h (by decide))).trans (State.pushOp_within (h (by decide))))
    exact .step (h (by decide)) (.plt t1 _) ht1
  clear_value ds each under short excess s' src
  refine .ite ?_ ?_
  · exact .next .rfl
  · exact .next (.ite hs' ((State.event_within (h (by decide)) (sub_of h rfl)).trans (.step (h (by decide)) (.plt s' _) hs')))

/-- What `execRelocation` may change. -/
def execRelocationParts : List Part :=
  rowLostParts ++ [.cip, .reg .ATL_CAS_FAIL, .reg .SVY_MEDIA_EVENTS]

theorem execRelocation_runs {pool : ℕ} {iu : ℕ} {old : ℕ} {new : ℕ} (h : execRelocationParts ⊆ L) :
    Runs L t (execRelocation pool iu old new t) := by
  unfold execRelocation
  extract_lets key a b to_
  clear_value key a b to_
  refine .ite ?_ ?_
  · exact .next .rfl
  · refine .ite ?_ ?_
    · exact .next .rfl
    · split
      · rename_i x u e
        have hu : Within L u t := State.relocRead_within (sub_of h rfl) _ e
        extract_lets t1
        have ht1 : Within L t1 t := (State.relocate_within (sub_of h rfl)).trans ((State.reseal_within (sub_of h rfl)).trans hu)
        clear_value t1
        exact .next ((State.carriedOut_within (h (by decide))).trans ht1)
      · exact .next (State.rowLost_within (sub_of h rfl))

theorem execWaEstimate_runs (h : .svy ∈ L) :
    Runs L t (execWaEstimate t) := by
  unfold execWaEstimate
  extract_lets hist h1 r amax meas pred u booked src
  clear_value hist h1 r amax meas pred u booked src
  exact .next (.step h (.svy t _) .rfl)

theorem execBandOpen_runs {group : ℕ} {cls : ℕ} (h : retireBandParts ⊆ L) :
    Runs L t (execBandOpen group cls t) := by
  unfold execBandOpen
  extract_lets open_
  clear_value open_
  refine .ite ?_ ?_
  · exact .next .rfl
  · split
    · exact .next .rfl
    · split
      · rename_i x2 u e1
        have hu : Within L u t := State.fitMembers_within (sub_of h rfl) _ e1
        exact .next ((State.openBand_within (sub_of h rfl)).trans hu)
      · exact .next (State.retireBand_within h)

theorem execBandEraseStart_runs {band : ℕ} (h : retireBandParts ⊆ L) :
    Runs L t (execBandEraseStart band t) := by
  unfold execBandEraseStart
  extract_lets x
  clear_value x
  refine .ite ?_ ?_
  · exact .next .rfl
  · refine .ite ?_ ?_
    · exact .next .rfl
    · refine .ite ?_ ?_
      · exact .next (State.retireBand_within h)
      · exact .next (State.startErase_within h)

theorem execRefreshStart_runs (h : closeShortParts ⊆ L) :
    Runs L t (execRefreshStart t) := by
  unfold execRefreshStart
  split
  · exact .next .rfl
  · extract_lets s src
    have hs : Within L s t := .ite (State.closeFull_within h) .rfl
    clear_value s src
    refine .ite ?_ ?_
    · exact .next ((State.unqueue_within (h (by decide))).trans hs)
    · exact .next ((State.drainIf_within (sub_of h rfl)).trans ((State.unqueue_within (h (by decide))).trans ((State.moveBand_within (sub_of h rfl)).trans hs)))

/-- What `State.padStripes` may change. -/
def padStripesParts : List Part :=
  [.out, .gaz, .mgmt, .fns, .plt, .par, .reg .PAR_JRNL_WM, .reg .CHR_ALERT_STATUS, .reg .GAZ_COUNTS]

theorem State.padStripes_within {b : ℕ} (h : padStripesParts ⊆ L) :
    Within L (State.padStripes t b) t := by
  unfold State.padStripes
  refine Within.foldl fun u x => ?_
  extract_lets x1 l ep s
  have hs : Within L s u := State.setJslot_within (sub_of h rfl)
  clear_value x1 l ep s
  refine .ite ?_ ?_
  · exact .rfl
  · refine (Within.foldl fun u1 x2 => ?_).trans ?_
    · extract_lets d t1
      exact (State.oweBand_within (h (by decide))).trans (State.pushOp_within (h (by decide)))
    · exact hs

/-- What `execReadLimitClose` may change. -/
def execReadLimitCloseParts : List Part :=
  closeShortParts ++ [.reg .SVY_MEDIA_EVENTS]

theorem execReadLimitClose_runs {band : ℕ} (h : execReadLimitCloseParts ⊆ L) :
    Runs L t (execReadLimitClose band t) := by
  unfold execReadLimitClose
  refine .ite ?_ ?_
  · exact .next ((State.queueRefresh_within (sub_of h rfl)).trans ((State.event_within (h (by decide)) (sub_of h rfl)).trans ((State.closeFull_within (sub_of h rfl)).trans (State.padStripes_within (sub_of h rfl)))))
  · exact .next .rfl

/-- What `execMinFreePublish` may change. -/
def execMinFreePublishParts : List Part :=
  [.out, .gaz, .mgmt, .fns, .svy, .reg .SVY_MEDIA_EVENTS, .reg .SVY_FREE_WM, .reg .CHR_ALERT_STATUS, .reg .GAZ_COUNTS]

theorem execMinFreePublish_runs (h : execMinFreePublishParts ⊆ L) :
    Runs L t (execMinFreePublish t) := by
  unfold execMinFreePublish
  extract_lets m first was src s s1
  have hs : Within L s t := .step (h (by decide)) (.svy t _) .rfl
  have hs1 : Within L s1 t := (Within.foldl fun u x => State.freeMark_within (sub_of h rfl)).trans hs
  clear_value m first was src s s1
  exact .next ((State.stopWrites_within (sub_of h rfl)).trans hs1)

/-- What `execRetentionSample` may change. -/
def execRetentionSampleParts : List Part :=
  [.out, .gaz, .mgmt, .pwr, .fns, .plt, .svy, .til, .reg .TIL_POOL_WM, .reg .CHR_ALERT_STATUS, .reg .GAZ_COUNTS]

theorem execRetentionSample_runs {band : ℕ} (h : execRetentionSampleParts ⊆ L) :
    Runs L t (execRetentionSample band t) := by
  unfold execRetentionSample
  extract_lets x s src
  refine .ite (.next .rfl) ?_
  split
  · exact .next .rfl
  next d page e =>
    extract_lets s1
    have hs : Within L s t := State.setBand_within (h (by decide))
    have hs1 : Within L s1 t := .step (h (by decide)) (.svy s _) hs
    split
    · exact .next hs1
    · refine .next ?_
      split
      next u bs e => exact (State.enterDebt_within (h (by decide))).trans (((State.spreadShare_within (sub_of h rfl)) _ e).trans hs1)
      · exact (State.oweDie_within (h (by decide))).trans hs1

theorem State.rebuildLoses_within {b : ℕ} (h : rowLostParts ⊆ L) :
    Within L (State.rebuildLoses t b) t := by
  unfold State.rebuildLoses
  extract_lets x rows
  exact Within.foldl fun u x => State.rowLost_within h

theorem State.rebuildCounts_within {b : ℕ} {sheet : ℕ} (h : countReadsParts ⊆ L) :
    Within L (State.rebuildCounts t b sheet) t := by
  unfold State.rebuildCounts
  extract_lets x rows others
  exact Within.foldl fun u x => State.countReads_within h

/-- What `execSpareRebuild` may change. -/
def execSpareRebuildParts : List Part :=
  rowLostParts ++ [.reg .SVY_MEDIA_EVENTS]

theorem execSpareRebuild_runs {band : ℕ} {sheet : ℕ} (h : execSpareRebuildParts ⊆ L) :
    Runs L t (execSpareRebuild band sheet t) := by
  unfold execSpareRebuild
  extract_lets x s s1 x1
  have hs : Within L s t := State.rebuildLoses_within (sub_of h rfl)
  have hs1 : Within L s1 t := (State.rebuildCounts_within (sub_of h rfl)).trans hs
  clear_value x s s1 x1
  refine .ite ?_ ?_
  · exact .next ((State.setBand_within (h (by decide))).trans hs1)
  · exact .next .rfl

theorem State.startStore_within {kind : ℕ} {addr : ℕ} {data : List ℕ} (h : .por ∈ L) :
    Within L (State.startStore t kind addr data) t := by
  unfold State.startStore
  exact .step h (.por t _) .rfl

theorem State.storeRefuse_within (h : [.out, .gaz, .mgmt, .fns, .reg .CHR_ALERT_STATUS, .reg .GAZ_COUNTS, .reg .POR_EVENTS] ⊆ L) :
    Within L (State.storeRefuse t) t := by
  unfold State.storeRefuse
  exact State.event_within (h (by decide)) (sub_of h rfl)

theorem State.storeCall_within {ok : Bool} {kind : ℕ} {addr : ℕ} {data : List ℕ} (h : [.out, .gaz, .mgmt, .fns, .por, .reg .CHR_ALERT_STATUS, .reg .GAZ_COUNTS, .reg .POR_EVENTS] ⊆ L) :
    Within L (State.storeCall t ok kind addr data) t := by
  unfold State.storeCall
  exact .ite (State.storeRefuse_within (sub_of h rfl)) (.ite .rfl (State.startStore_within (h (by decide))))

theorem execEraseSector_runs {caller : ℕ} {addr : ℕ} (h : [.out, .gaz, .mgmt, .fns, .por, .reg .CHR_ALERT_STATUS, .reg .GAZ_COUNTS, .reg .POR_EVENTS] ⊆ L) :
    Runs L t (execEraseSector caller addr t) := by
  unfold execEraseSector
  exact .next (State.storeCall_within h)

theorem execProgramRow_runs {caller : ℕ} {addr : ℕ} {data : List ℕ} (h : [.out, .gaz, .mgmt, .fns, .por, .reg .CHR_ALERT_STATUS, .reg .GAZ_COUNTS, .reg .POR_EVENTS] ⊆ L) :
    Runs L t (execProgramRow caller addr data t) := by
  unfold execProgramRow
  exact .next (State.storeCall_within h)

theorem execProgramOtp_runs {addr : ℕ} {data : List ℕ} (h : [.out, .gaz, .mgmt, .fns, .por, .reg .CHR_ALERT_STATUS, .reg .GAZ_COUNTS, .reg .POR_EVENTS] ⊆ L) :
    Runs L t (execProgramOtp addr data t) := by
  unfold execProgramOtp
  exact .next (State.storeCall_within h)

theorem State.storeRowDone_within {addr : ℕ} {data : List ℕ} (h : .por ∈ L) :
    Within L (State.storeRowDone t addr data) t := by
  unfold State.storeRowDone
  exact State.storePut_within h

theorem State.otpDone_within {a : ℕ} {l : List ℕ} (h : .por ∈ L) :
    Within L (State.otpDone t a l) t := by
  unfold State.otpDone
  exact .step h (.por t _) .rfl

theorem State.readStore_within {a : ℕ} (h : .out ∈ L) :
    Within L (State.readStore t a) t := by
  unfold State.readStore
  exact State.emit_within (List.cons_subset.2 ⟨h, List.nil_subset _⟩)

theorem State.serveReads_within (h : [.out, .por] ⊆ L) :
    Within L (State.serveReads t) t := by
  unfold State.serveReads
  extract_lets l src
  exact (Within.foldl fun u x => State.readStore_within (h (by decide))).trans (.step (h (by decide)) (.por t _) .rfl)

/-- What `execStoreOperationEnd` may change. -/
def execStoreOperationEndParts : List Part :=
  [.fresh, .out, .gaz, .mgmt, .fns, .por, .reg .CHR_ALERT_STATUS, .reg .GAZ_COUNTS, .reg .POR_EVENTS]

theorem execStoreOperationEnd_runs {verified : Bool} (h : execStoreOperationEndParts ⊆ L) :
    Runs L t (execStoreOperationEnd verified t) := by
  unfold execStoreOperationEnd
  extract_lets src s src1
  have hs : Within L s t := .step (h (by decide)) (.por t _) .rfl
  clear_value src s src1
  split
  · exact .next .rfl
  · extract_lets s1 s2
    have hs1 : Within L s1 t := .update [.fresh, .por] (sub_of h rfl) hs rfl
    have hs2 : Within L s2 t := by
      unfold s2
      split
      · exact (State.eraseDone_within (sub_of h rfl)).trans hs
      · exact .ite ((State.storeRowDone_within (h (by decide))).trans hs) ((State.wearOut_within (sub_of h rfl)).trans ((State.event_within (h (by decide)) (sub_of h rfl)).trans hs1))
      · exact .ite ((State.otpDone_within (h (by decide))).trans hs) ((State.event_within (h (by decide)) (sub_of h rfl)).trans hs)
    clear_value s1 s2
    refine .ite ?_ ?_
    · exact .next .rfl
    · refine .ite ?_ ?_
      · exact .next (.step (h (by decide)) (.por t _) .rfl)
      · exact .next ((State.serveReads_within (sub_of h rfl)).trans hs2)

theorem execStoreRead_runs {addr : ℕ} (h : [.out, .por] ⊆ L) :
    Runs L t (execStoreRead addr t) := by
  unfold execStoreRead
  extract_lets src
  clear_value src
  split
  · exact .next (State.readStore_within (h (by decide)))
  · refine .ite ?_ ?_
    · exact .next ((State.readStore_within (h (by decide))).trans (.step (h (by decide)) (.por t _) .rfl))
    · exact .next (.step (h (by decide)) (.por t _) .rfl)

theorem execEraseResume_runs (h : .por ∈ L) :
    Runs L t (execEraseResume t) := by
  unfold execEraseResume
  extract_lets src
  clear_value src
  split
  · exact .next .rfl
  · refine .ite ?_ ?_
    · exact .next (.step h (.por t _) .rfl)
    · exact .next .rfl

theorem execEraseMinRunExpiry_runs (h : [.out, .por] ⊆ L) :
    Runs L t (execEraseMinRunExpiry t) := by
  unfold execEraseMinRunExpiry
  extract_lets src
  clear_value src
  split
  · exact .next .rfl
  · refine .ite ?_ ?_
    · exact .next ((State.serveReads_within h).trans (.step (h (by decide)) (.por t _) .rfl))
    · exact .next .rfl

theorem State.mctp_within {ep : ℕ} {bytes : List ℕ} (h : .out ∈ L) :
    Within L (State.mctp t ep bytes) t := by
  unfold State.mctp
  exact State.emit_within (List.cons_subset.2 ⟨h, List.nil_subset _⟩)

theorem execSetEndpointId_runs {ep : ℕ} {eid : ℕ} (h : endSessionParts ⊆ L) :
    Runs L t (execSetEndpointId ep eid t) := by
  unfold execSetEndpointId
  extract_lets old paths s src s1
  have hs : Within L s t := Within.foldl fun u x => State.endSession_within h
  have hs1 : Within L s1 t := .ite .rfl (.step (h (by decide)) (.mgmt s _) hs)
  clear_value old paths s src s1
  refine .ite ?_ ?_
  · exact .next .rfl
  · refine .ite ?_ ?_
    · exact .next (State.mctp_within (h (by decide)))
    · exact .next ((State.mctp_within (h (by decide))).trans hs1)

theorem execGetEndpointId_runs {ep : ℕ} (h : .out ∈ L) :
    Runs L t (execGetEndpointId ep t) := by
  unfold execGetEndpointId
  refine .ite ?_ ?_
  · exact .next .rfl
  · exact .next (State.mctp_within h)

theorem execGetEndpointUuid_runs {ep : ℕ} (h : .out ∈ L) :
    Runs L t (execGetEndpointUuid ep t) := by
  unfold execGetEndpointUuid
  refine .ite ?_ ?_
  · exact .next .rfl
  · exact .next (State.mctp_within h)

theorem execGetMctpVersionSupport_runs {ep : ℕ} {type : ℕ} (h : .out ∈ L) :
    Runs L t (execGetMctpVersionSupport ep type t) := by
  unfold execGetMctpVersionSupport
  refine .ite ?_ ?_
  · exact .next .rfl
  · refine .ite ?_ ?_
    · exact .next (State.mctp_within h)
    · exact .next (State.mctp_within h)

theorem execGetMessageTypeSupport_runs {ep : ℕ} (h : .out ∈ L) :
    Runs L t (execGetMessageTypeSupport ep t) := by
  unfold execGetMessageTypeSupport
  refine .ite ?_ ?_
  · exact .next .rfl
  · exact .next (State.mctp_within h)

theorem execMctpUnsupportedMessage_runs {ep : ℕ} {type : ℕ} {command : ℕ} (h : [.out, .reg .CHR_MGMT_ERR] ⊆ L) :
    Runs L t (execMctpUnsupportedMessage ep type command t) := by
  unfold execMctpUnsupportedMessage
  refine .ite ?_ ?_
  · exact .next .rfl
  · refine .ite ?_ ?_
    · refine .ite ?_ ?_
      · exact .next .rfl
      · exact .next (State.mctp_within (h (by decide)))
    · refine .ite ?_ ?_
      · exact .next .rfl
      · exact .next (State.mgmtDiscard_within (h (by decide)))

theorem execNvmeMiBasicManagement_runs (h : [.fresh, .out] ⊆ L) :
    Runs L t (execNvmeMiBasicManagement t) := by
  unfold execNvmeMiBasicManagement
  extract_lets d
  have hd : Within L d.2 t := State.draw_within (h (by decide))
  clear_value d
  refine .ite ?_ ?_
  · exact .next .rfl
  · exact .next ((State.mctp_within (h (by decide))).trans hd)

theorem execAlertResponseAddressRead_runs (h : [.out, .mgmt] ⊆ L) :
    Runs L t (execAlertResponseAddressRead t) := by
  unfold execAlertResponseAddressRead
  extract_lets src
  clear_value src
  refine .ite ?_ ?_
  · exact .next .rfl
  · exact .next ((State.mctp_within (h (by decide))).trans (.step (h (by decide)) (.mgmt t _) .rfl))

theorem State.spdm_within {ep : ℕ} {code : ℕ} {rest : List ℕ} (h : .out ∈ L) :
    Within L (State.spdm t ep code rest) t := by
  unfold State.spdm
  exact State.mctp_within h

theorem State.spdmErr_within {ep : ℕ} {err : ℕ} (h : .out ∈ L) :
    Within L (State.spdmErr t ep err) t := by
  unfold State.spdmErr
  exact State.spdm_within h

theorem State.setConn_within {ep : ℕ} {c : SpdmConn} (h : .mgmt ∈ L) :
    Within L (State.setConn t ep c) t := by
  unfold State.setConn
  exact .step h (.mgmt t _) .rfl

theorem State.spdmReq_within {ep need : ℕ} {body : State → State} (h : [.out] ⊆ L) (hb : ∀ u, Within L (body u) u) :
    Within L (State.spdmReq t ep need body) t := by
  unfold State.spdmReq
  exact .ite .rfl (.ite (State.spdmErr_within (h (by decide))) (hb t))

theorem execGetVersion_runs {ep : ℕ} (h : [.out, .mgmt] ⊆ L) :
    Runs L t (execGetVersion ep t) := by
  unfold execGetVersion
  refine .next ?_
  refine State.spdmReq_within (sub_of h rfl) (fun u => ?_)
  exact (State.spdm_within (h (by decide))).trans (State.setConn_within (h (by decide)))

theorem execGetCapabilities_runs {ep : ℕ} (h : [.out, .mgmt] ⊆ L) :
    Runs L t (execGetCapabilities ep t) := by
  unfold execGetCapabilities
  refine .next ?_
  refine State.spdmReq_within (sub_of h rfl) (fun u => ?_)
  exact (State.spdm_within (h (by decide))).trans (State.setConn_within (h (by decide)))

theorem execNegotiateAlgorithms_runs {ep : ℕ} (h : [.out, .mgmt] ⊆ L) :
    Runs L t (execNegotiateAlgorithms ep t) := by
  unfold execNegotiateAlgorithms
  refine .next ?_
  refine State.spdmReq_within (sub_of h rfl) (fun u => ?_)
  exact (State.spdm_within (h (by decide))).trans (State.setConn_within (h (by decide)))

theorem execGetDigests_runs {ep : ℕ} (h : .out ∈ L) :
    Runs L t (execGetDigests ep t) := by
  unfold execGetDigests
  refine .next ?_
  refine State.spdmReq_within (List.cons_subset.2 ⟨h, List.nil_subset _⟩) (fun u => ?_)
  exact State.spdm_within h

theorem execGetCertificate_runs {ep : ℕ} {slot : ℕ} {offset : ℕ} {length : ℕ} (h : .out ∈ L) :
    Runs L t (execGetCertificate ep slot offset length t) := by
  unfold execGetCertificate
  refine .next ?_
  refine State.spdmReq_within (List.cons_subset.2 ⟨h, List.nil_subset _⟩) (fun u => ?_)
  extract_lets c p
  exact .ite (State.spdmErr_within h) (State.spdm_within h)

theorem execChallenge_runs {ep : ℕ} {slot : ℕ} {nonce : ℕ} (h : [.out, .mgmt] ⊆ L) :
    Runs L t (execChallenge ep slot nonce t) := by
  unfold execChallenge
  refine .next ?_
  refine State.spdmReq_within (sub_of h rfl) (fun u => ?_)
  exact .ite (State.spdmErr_within (h (by decide))) ((State.spdm_within (h (by decide))).trans (State.setConn_within (h (by decide))))

theorem execGetMeasurements_runs {ep : ℕ} {index : ℕ} {nonce : ℕ} {signed : Bool} (h : .out ∈ L) :
    Runs L t (execGetMeasurements ep index nonce signed t) := by
  unfold execGetMeasurements
  refine .next ?_
  refine State.spdmReq_within (List.cons_subset.2 ⟨h, List.nil_subset _⟩) (fun u => ?_)
  extract_lets l
  exact .ite (State.spdm_within h) (.ite (State.spdmErr_within h) (State.spdm_within h))

theorem State.mapSession_within {id : ℕ} {f : SpdmSession → SpdmSession} (h : .mgmt ∈ L) :
    Within L (State.mapSession t id f) t := by
  unfold State.mapSession
  exact .step h (.mgmt t _) .rfl

theorem State.dropSession_within {id : ℕ} (h : .mgmt ∈ L) :
    Within L (State.dropSession t id) t := by
  unfold State.dropSession
  exact .step h (.mgmt t _) .rfl

theorem execKeyExchange_runs {ep : ℕ} {reqSession : ℕ} (h : [.out, .mgmt] ⊆ L) :
    Runs L t (execKeyExchange ep reqSession t) := by
  unfold execKeyExchange
  refine .next ?_
  refine State.spdmReq_within (sub_of h rfl) (fun u => ?_)
  extract_lets id x src
  exact .ite (State.spdmErr_within (h (by decide))) ((State.spdm_within (h (by decide))).trans (.step (h (by decide)) (.mgmt u _) .rfl))

theorem State.inSession_within {id : ℕ} {est : Bool} {body : State → SpdmSession → State} (h : [.out] ⊆ L)
    (hb : ∀ u x, Within L (body u x) u) : Within L (State.inSession t id est body) t := by
  unfold State.inSession
  split
  · exact .rfl
  · exact .ite .rfl (.ite (hb _ _) (State.spdmErr_within (h (by decide))))

theorem execFinish_runs {session : ℕ} {ok : Bool} {mutAuth : Bool} (h : [.out, .mgmt] ⊆ L) :
    Runs L t (execFinish session ok mutAuth t) := by
  unfold execFinish
  refine .next ?_
  refine State.inSession_within (sub_of h rfl) (fun u y => ?_)
  exact .ite ((State.spdm_within (h (by decide))).trans (State.mapSession_within (h (by decide)))) ((State.spdmErr_within (h (by decide))).trans (State.dropSession_within (h (by decide))))

theorem execHeartbeat_runs {session : ℕ} (h : [.out, .mgmt] ⊆ L) :
    Runs L t (execHeartbeat session t) := by
  unfold execHeartbeat
  refine .next ?_
  refine State.inSession_within (sub_of h rfl) (fun u y => ?_)
  exact (State.spdm_within (h (by decide))).trans (State.mapSession_within (h (by decide)))

theorem execKeyUpdate_runs {session : ℕ} (h : [.out, .mgmt] ⊆ L) :
    Runs L t (execKeyUpdate session t) := by
  unfold execKeyUpdate
  refine .next ?_
  refine State.inSession_within (sub_of h rfl) (fun u y => ?_)
  exact (State.spdm_within (h (by decide))).trans (State.mapSession_within (h (by decide)))

theorem execEndSession_runs {session : ℕ} (h : [.out, .mgmt] ⊆ L) :
    Runs L t (execEndSession session t) := by
  unfold execEndSession
  refine .next ?_
  refine State.inSession_within (sub_of h rfl) (fun u y => ?_)
  exact (State.spdm_within (h (by decide))).trans (State.dropSession_within (h (by decide)))

theorem execSessionHeartbeatTimeout_runs {session : ℕ} (h : .mgmt ∈ L) :
    Runs L t (execSessionHeartbeatTimeout session t) := by
  unfold execSessionHeartbeatTimeout
  exact .next (.ite (State.dropSession_within h) .rfl)

theorem State.spdmRecord_within {req : ℕ} {result : ℕ} (h : recordParts ⊆ L) :
    Within L (State.spdmRecord t req result) t := by
  unfold State.spdmRecord
  exact State.record_within h

theorem State.vendorErr_within {ep : ℕ} {req : ℕ} {code : ℕ} (h : recordParts ⊆ L) :
    Within L (State.vendorErr t ep req code) t := by
  unfold State.vendorErr
  exact (State.spdm_within (h (by decide))).trans (State.spdmRecord_within h)

theorem execGetTransportKey_runs {session : ℕ} (h : recordParts ⊆ L) :
    Runs L t (execGetTransportKey session t) := by
  unfold execGetTransportKey
  refine .next ?_
  refine State.inSession_within (sub_of h rfl) (fun u y => ?_)
  exact .ite ((State.spdm_within (h (by decide))).trans (State.spdmRecord_within h)) (State.vendorErr_within h)

theorem execProvisionOwner_runs {session : ℕ} {key : List ℕ} {password : List ℕ} (h : [.fresh, .out, .gaz, .mgmt, .por, .reg .CHR_ALERT_STATUS, .reg .GAZ_COUNTS] ⊆ L) :
    Runs L t (execProvisionOwner session key password t) := by
  unfold execProvisionOwner
  refine .next ?_
  refine State.inSession_within (sub_of h rfl) (fun u y => ?_)
  extract_lets s salt s1 s2
  have hs : Within L s u := State.otpDone_within (h (by decide))
  have hs1 : Within L s1 u := (State.otpDone_within (h (by decide))).trans (.step (h (by decide)) (.fresh s _) hs)
  have hs2 : Within L s2 u := .ite ((State.otpDone_within (h (by decide))).trans hs) ((State.otpDone_within (h (by decide))).trans ((State.otpDone_within (h (by decide))).trans hs1))
  exact .ite (State.vendorErr_within (sub_of h rfl)) (.ite (State.vendorErr_within (sub_of h rfl)) ((State.spdm_within (h (by decide))).trans ((State.spdmRecord_within (sub_of h rfl)).trans hs2)))

end

end Sys2Proof.Machine
end

section
/-! SUPPORT. What each function of the model may change, function by function (6 of 7): frames, decodes, power modes, tiles, DRAM and the relay link. `X_within` says it
of the state that `X` answers with, `execX_runs` of the command, which also runs on. -/

namespace Sys2Proof.Machine

section
variable {L : List Part} {t : State}

theorem State.carrySuspended_within (h : .plt ∈ L) :
    Within L (State.carrySuspended t) t := by
  unfold State.carrySuspended
  refine Within.foldl fun u x => ?_
  split
  · extract_lets left n
    exact .ite (.step h (.plt u _) .rfl) .rfl
  · exact .rfl

theorem State.enterQueues_within (h : .plt ∈ L) :
    Within L (State.enterQueues t) t := by
  unfold State.enterQueues
  refine Within.foldl fun u x => ?_
  refine .ite ?_ ?_
  · exact .rfl
  · split
    · rename_i x1 u1 e
      have hu1 : Within L u1 u := by
        refine OptWithin.out (π := (fun u => u)) e ?_
        refine .bind_any fun a => ?_
        exact State.insertOp_within h
      exact .step h (.plt u1 _) hu1
    · exact .rfl

theorem State.shiftFrames_within (h : [.plt, .svy] ⊆ L) :
    Within L (State.shiftFrames t) t := by
  unfold State.shiftFrames
  extract_lets s p f src s1
  have hs : Within L s t := State.carrySuspended_within (h (by decide))
  have hs1 : Within L s1 t := .step (h (by decide)) (.svy s _) hs
  exact (State.enterQueues_within (h (by decide))).trans (.step (h (by decide)) (.plt s1 _) hs1)

/-- What `State.latchLimits` may change. -/
def latchLimitsParts : List Part :=
  recheckParts ++ [.ports, .til, .cip]

theorem State.latchLimits_within (h : latchLimitsParts ⊆ L) :
    Within L (State.latchLimits t) t := by
  unfold State.latchLimits
  extract_lets recon ports ps1 changed src src1 src2 s
  have hs : Within L s t := .update [.ports, .plt, .til, .cip] (sub_of h rfl) .rfl rfl
  exact .ite ((State.recheck_within (sub_of h rfl)).trans hs) hs

theorem State.refillBuckets_within (h : .buckets ∈ L) :
    Within L (State.refillBuckets t) t := by
  unfold State.refillBuckets
  refine Within.foldl fun u x => ?_
  split
  · exact State.setBucket_within h
  · exact .rfl

theorem State.bookOwedDie_within {d : ℕ} {cap : ℕ} {a : ℕ} {a4 : ℕ} {a5 : ℕ} (h : unbookParts ⊆ L) :
    Within L (State.bookOwedDie t d cap a a4 a5).1 t := by
  induction a generalizing t d cap a4 a5 with
  | zero =>
    exact .rfl
  | succ n ih =>
    rw [State.bookOwedDie]
    extract_lets x
    clear_value x
    split
    · dsimp -zeta only
      exact .rfl
    · split
      · rename_i x1 u x2 x3 e1
        have hu : Within L u t := State.placeShare_within h _ e1
        exact (ih).trans ((State.enterDebt_within (h (by decide))).trans hu)
      · exact ih

theorem State.bookOwed_within {reshape : Bool} {g : ℕ} {left : ℕ} (h : unbookParts ⊆ L) :
    Within L (State.bookOwed t reshape g left).1 t := by
  unfold State.bookOwed
  extract_lets f l each r
  have hr : Within L r.1 t := by
    unfold r
    refine (Within.foldl_fst fun u x => ?_).trans ?_
    · extract_lets want t1
      have ht1 : Within L t1.1 (u.1) := by
        unfold t1
        split
        · exact State.bookOwedDie_within h
        · exact State.bookOwedDie_within h
      exact ht1
    · dsimp -zeta only
      exact .rfl
  exact hr

theorem State.bookAllOwed_within (h : unbookParts ⊆ L) :
    Within L (State.bookAllOwed t) t := by
  unfold State.bookAllOwed
  extract_lets s s1 s2
  have hs : Within L s t := by
    unfold s
    refine Within.foldl fun u x => ?_
    extract_lets r src src1
    have hr : Within L r.1 u := State.bookOwed_within h
    have hsrc : Within L src u := hr
    exact .step (h (by decide)) (.plt src _) hsrc
  have hs1 : Within L s1 t := by
    unfold s1
    refine (Within.foldl fun u x => ?_).trans ?_
    · extract_lets r src src1
      have hr : Within L r.1 u := State.bookOwed_within h
      have hsrc : Within L src u := hr
      exact .step (h (by decide)) (.plt src _) hsrc
    · exact hs
  have hs2 : Within L s2 t := by
    unfold s2
    refine (Within.foldl fun u x => ?_).trans ?_
    · extract_lets t1 src src1
      have ht1 : Within L t1.1 u := State.bookOwedDie_within h
      have hsrc : Within L src u := ht1
      exact .step (h (by decide)) (.plt src _) hsrc
    · exact hs1
  clear_value s s1 s2
  refine (Within.foldl fun u x => ?_).trans ?_
  · extract_lets r src src1
    have hr : Within L r.1 u := State.bookOwed_within h
    have hsrc : Within L src u := hr
    exact .step (h (by decide)) (.plt src _) hsrc
  · exact hs2

theorem State.runExcess_within (h : unbookParts ⊆ L) :
    Within L (State.runExcess t) t := by
  unfold State.runExcess
  refine Within.foldl fun u x => ?_
  extract_lets x1
  clear_value x1
  split
  · rename_i x2 u1 x3 x4 e
    have hu1 : Within L u1 u := State.placeShare_within h _ e
    exact .ite .rfl ((State.convert_within (h (by decide))).trans ((State.pushOp_within (h (by decide))).trans (.step (h (by decide)) (.plt u1 _) hu1)))
  · exact .rfl

theorem State.degradedStep_within (h : toModeCheckedParts ⊆ L) :
    Within L (State.degradedStep t) t := by
  unfold State.degradedStep
  split
  · exact .ite ((State.recheck_within (sub_of h rfl)).trans (State.toMode_within (h (by decide)) (h (by decide)) (sub_of h rfl))) .rfl
  · exact .ite .rfl ((State.recheck_within (sub_of h rfl)).trans (State.toMode_within (h (by decide)) (h (by decide)) (sub_of h rfl)))
  · exact .rfl

theorem State.chooseStep_within (h : toServiceParts ⊆ L) :
    Within L (State.chooseStep t) t := by
  unfold State.chooseStep
  exact .ite (State.takeState_within h) .rfl

/-- What `execFrameBoundary` may change. -/
def execFrameBoundaryParts : List Part :=
  tripBeginsParts ++ iuLostParts ++ [.ports, .classes, .buckets, .stats, .dram, .cip, .reg .PLT_FLOOR_RD, .reg .PLT_FLOOR_WR, .reg .ATL_JRNL_WM, .reg .ATL_CAS_FAIL, .reg .SVY_MEDIA_EVENTS, .reg .PWR_EVENTS, .reg .CTR_TEMP_WM]

theorem execFrameBoundary_runs {activity : List ℕ} (h : execFrameBoundaryParts ⊆ L) :
    Runs L t (execFrameBoundary activity t) := by
  unfold execFrameBoundary
  extract_lets s s1 src s2 s3 src1 s4 src2 s5
  have hs : Within L s t := (State.latchLimits_within (sub_of h rfl)).trans ((State.refillBuckets_within (h (by decide))).trans (State.shiftFrames_within (sub_of h rfl)))
  have hs1 : Within L s1 t := (State.stepDecision_within (sub_of h rfl)).trans ((State.takeTEff_within (sub_of h rfl)).trans ((State.modelFrame_within (h (by decide))).trans hs))
  have hs2 : Within L s2 t := .step (h (by decide)) (.plt s1 _) hs1
  have hs3 : Within L s3 t := (State.retryMoves_within (sub_of h rfl)).trans ((State.runExcess_within (sub_of h rfl)).trans ((State.bookAllOwed_within (sub_of h rfl)).trans ((State.oweMap_within (h (by decide))).trans ((State.freeParked_within (h (by decide))).trans hs2))))
  have hs4 : Within L s4 t := .ite (.step (h (by decide)) (.svy s3 _) hs3) ((State.stopWrites_within (sub_of h rfl)).trans hs3)
  have hs5 : Within L s5 t := .step (h (by decide)) (.par s4 _) hs4
  clear_value s s1 src s2 s3 src1 s4 src2 s5
  split
  · exact .next .rfl
  · exact .next .rfl
  · exact .next .rfl
  · exact .next ((State.stepDecision_within (sub_of h rfl)).trans ((State.takeTEff_within (sub_of h rfl)).trans ((State.modelFrame_within (h (by decide))).trans (State.shiftFrames_within (sub_of h rfl)))))
  · exact .next ((State.offerWaiting_within (sub_of h rfl)).trans ((State.retryUpds_within (sub_of h rfl)).trans ((State.checkWarnings_within (sub_of h rfl)).trans ((State.chooseStep_within (sub_of h rfl)).trans ((State.grantQuiet_within (sub_of h rfl)).trans ((State.nameCandidate_within (h (by decide))).trans ((State.naturalAnchors_within (h (by decide))).trans ((State.degradedStep_within (sub_of h rfl)).trans hs5))))))))
  · exact .next ((State.offerWaiting_within (sub_of h rfl)).trans ((State.retryUpds_within (sub_of h rfl)).trans ((State.checkWarnings_within (sub_of h rfl)).trans ((State.chooseStep_within (sub_of h rfl)).trans ((State.grantQuiet_within (sub_of h rfl)).trans ((State.nameCandidate_within (h (by decide))).trans ((State.naturalAnchors_within (h (by decide))).trans ((State.degradedStep_within (sub_of h rfl)).trans hs5))))))))
  · exact .next ((State.offerWaiting_within (sub_of h rfl)).trans ((State.retryUpds_within (sub_of h rfl)).trans ((State.checkWarnings_within (sub_of h rfl)).trans ((State.chooseStep_within (sub_of h rfl)).trans ((State.grantQuiet_within (sub_of h rfl)).trans ((State.nameCandidate_within (h (by decide))).trans ((State.naturalAnchors_within (h (by decide))).trans ((State.degradedStep_within (sub_of h rfl)).trans hs5))))))))

/-- What `execQuietSlotEnd` may change. -/
def execQuietSlotEndParts : List Part :=
  [.out, .gaz, .mgmt, .fns, .plt, .ctr, .reg .PLT_EVENTS, .reg .CHR_ALERT_STATUS, .reg .GAZ_COUNTS]

theorem execQuietSlotEnd_runs (h : execQuietSlotEndParts ⊆ L) :
    Runs L t (execQuietSlotEnd t) := by
  unfold execQuietSlotEnd
  extract_lets src src1
  clear_value src src1
  split
  · exact .next .rfl
  · extract_lets s
    have hs : Within L s t := .update [.plt, .ctr] (sub_of h rfl) .rfl rfl
    clear_value s
    exact .next ((State.event_within (h (by decide)) (sub_of h rfl)).trans ((State.demandSample_within (h (by decide))).trans hs))

/-- What `State.iuEnds` may change. -/
def iuEndsParts : List Part :=
  unbookParts ++ [.ctls, .cmds, .cpls, .media]

theorem State.iuEnds_within {c : Cmd} {k : ℕ} {i : IuPlan} (h : iuEndsParts ⊆ L) :
    Within L (State.iuEnds t c k i) t := by
  unfold State.iuEnds
  extract_lets s s1 s2 s3
  have hs : Within L s t := State.setIu_within (h (by decide))
  have hs1 : Within L s1 t := .ite hs ((State.unbook_within (sub_of h rfl)).trans hs)
  have hs2 : Within L s2 t := (State.mapCmd_within (h (by decide))).trans hs1
  have hs3 : Within L s3 t := .ite ((State.mediaCount_within (h (by decide))).trans hs2) hs2
  clear_value s s1 s2 s3
  split
  · exact (State.readDone_within (sub_of h rfl)).trans hs3
  · exact hs3

/-- What `State.memberOk` may change. -/
def memberOkParts : List Part :=
  iuEndsParts ++ [.lanes]

theorem State.memberOk_within {c : Cmd} {k : ℕ} {i : IuPlan} {die : ℕ} (h : memberOkParts ⊆ L) :
    Within L (State.memberOk t c k i die) t := by
  unfold State.memberOk
  extract_lets src i1 s
  have hs : Within L s t := (State.softReads_within (h (by decide))).trans (State.withdraw_within (h (by decide)))
  exact .ite ((State.iuEnds_within (sub_of h rfl)).trans hs) ((State.setIu_within (h (by decide))).trans hs)

theorem State.sampleRead_within {g : PageRef} {mode : ℕ} {corrected : ℕ} (h : countReadsParts ⊆ L) :
    Within L (State.sampleRead t g mode corrected) t := by
  unfold State.sampleRead
  extract_lets src
  split
  · exact .rfl
  · extract_lets s thr
    have hs : Within L s t := .step (h (by decide)) (.svy t _) .rfl
    exact .ite ((State.queueRefresh_within (sub_of h rfl)).trans ((State.event_within (h (by decide)) (sub_of h rfl)).trans hs)) hs

theorem State.backRead_within {die : ℕ} {ref : RefState} (h : unbookParts ⊆ L) :
    Within L (State.backRead t die ref) t := by
  unfold State.backRead
  split
  · exact .rfl
  · extract_lets n s src
    have hs : Within L s t := by
      unfold s
      split
      · rename_i x2 u x3 e1
        have hu : Within L u t := State.spreadShare_within h _ e1
        exact (State.enterDebt_within (h (by decide))).trans hu
      · exact State.oweDie_within (h (by decide))
    exact (State.pushDieOp_within (h (by decide))).trans hs

/-- What `State.backgroundFailed` may change. -/
def backgroundFailedParts : List Part :=
  faultParts ++ [.reg .PAR_LOST]

theorem State.backgroundFailed_within {lane : ℕ} {mode : ℕ} {step : ℕ} {g : PageRef} (h : backgroundFailedParts ⊆ L) :
    Within L (State.backgroundFailed t lane mode step g) t := by
  unfold State.backgroundFailed
  extract_lets b n steps sampled x s src s1 s2
  have hs : Within L s t := State.uncorrected_within (sub_of h rfl)
  have hs1 : Within L s1 t := .step (h (by decide)) (.svy s _) hs
  have hs2 : Within L s2 t := .ite ((State.grownBad_within (sub_of h rfl)).trans hs1) hs1
  exact .ite (Within.foldl fun u x => State.backRead_within (sub_of h rfl)) (.ite (State.backRead_within (sub_of h rfl)) (.ite ((State.rowLost_within (sub_of h rfl)).trans hs2) hs2))

theorem State.laneFree_within {l : ℕ} (h : bookRmwParts ⊆ L) :
    Within L (State.laneFree t l) t := by
  unfold State.laneFree
  extract_lets x s
  have hs : Within L s t := by
    unfold s
    split
    · exact State.jobEnds_within (sub_of h rfl)
    · exact .rfl
  clear_value x s
  split
  · exact (State.setLane_within (h (by decide))).trans hs
  · refine .ite ?_ ?_
    · exact (State.setLane_within (h (by decide))).trans hs
    · split
      · exact (State.setLane_within (h (by decide))).trans hs
      · exact (State.setLane_within (h (by decide))).trans hs

/-- What `State.decodeCounts` may change. -/
def decodeCountsParts : List Part :=
  [.out, .gaz, .mgmt, .fns, .media, .reg .LDP_EVENTS, .reg .LDP_CNT_HARD_FAIL, .reg .LDP_CNT_SOFT_OK, .reg .LDP_CNT_LADDER_OK, .reg .CHR_ALERT_STATUS, .reg .GAZ_COUNTS]

theorem State.decodeCounts_within {q : ℕ} {mode : ℕ} {corrected : ℕ} {die : ℕ} {ok : Bool} (h : decodeCountsParts ⊆ L) :
    Within L (State.decodeCounts t q mode corrected die ok) t := by
  unfold State.decodeCounts
  extract_lets s s1 s2
  have hs : Within L s t := .ite ((State.mediaCount_within (h (by decide))).trans (State.bump_within (h (by decide)))) .rfl
  have hs1 : Within L s1 t := .ite ((State.event_within (h (by decide)) (sub_of h rfl)).trans ((State.mediaCount_within (h (by decide))).trans ((State.bump_within (h (by decide))).trans hs))) hs
  have hs2 : Within L s2 t := .ite ((State.event_within (h (by decide)) (sub_of h rfl)).trans ((State.mediaCount_within (h (by decide))).trans ((State.bump_within (h (by decide))).trans hs1))) hs1
  exact .ite ((State.event_within (h (by decide)) (sub_of h rfl)).trans hs2) hs2

/-- What `execDecodeComplete` may change. -/
def execDecodeCompleteParts : List Part :=
  backgroundFailedParts ++ [.reg .LDP_CNT_HARD_FAIL, .reg .LDP_CNT_SOFT_OK, .reg .LDP_CNT_LADDER_OK]

theorem execDecodeComplete_runs {lane : ℕ} {mode : ℕ} {ok : Bool} {corrected : ℕ} {ladder : ℕ} {die : ℕ} {block : ℕ} {page : ℕ} {plane : ℕ} {cwMask : ℕ} (h : execDecodeCompleteParts ⊆ L) :
    Runs L t (execDecodeComplete lane mode ok corrected ladder die block page plane cwMask t) := by
  unfold execDecodeComplete
  extract_lets g gone s behind extra s1 s2
  have hs : Within L s t := (State.decodeCounts_within (sub_of h rfl)).trans (State.laneFree_within (sub_of h rfl))
  have hs1 : Within L s1 t := .ite hs ((State.countReads_within (sub_of h rfl)).trans hs)
  have hs2 : Within L s2 t := (State.emit_within (sub_of h rfl)).trans hs1
  clear_value g gone s behind extra s1 s2
  refine .ite ?_ ?_
  · exact .next .rfl
  · split
    · exact .next (.ite ((State.memberOk_within (sub_of h rfl)).trans hs2) ((State.decodeFailed_within (sub_of h rfl)).trans hs2))
    · exact .next (.ite ((State.sampleRead_within (sub_of h rfl)).trans hs2) (.ite hs2 ((State.backgroundFailed_within (sub_of h rfl)).trans hs2)))

theorem execSoftReservationStart_runs {lane : ℕ} {id : ℕ} (h : .lanes ∈ L) :
    Runs L t (execSoftReservationStart lane id t) := by
  unfold execSoftReservationStart
  extract_lets x own x' s
  have hs : Within L s t := .step h (.lanes t _) .rfl
  clear_value x own x' s
  split
  · exact .next .rfl
  · refine .ite ?_ ?_
    · exact .next (State.setLane_within h)
    · exact .next ((State.setLane_within h).trans hs)

theorem State.memberRead_within {op : DieOp} {die : ℕ} (h : .cmds ∈ L) :
    Within L (State.memberRead t op die) t := by
  unfold State.memberRead
  split
  · exact .rfl
  · exact State.mapCmd_within h

/-- What `State.staleEnds` may change. -/
def staleEndsParts : List Part :=
  unbookParts ++ [.cmds, .reg .PLT_EVENTS, .reg .PLT_STALE]

theorem State.staleEnds_within {op : DieOp} {die : ℕ} (h : staleEndsParts ⊆ L) :
    Within L (State.staleEnds t op die) t := by
  unfold State.staleEnds
  extract_lets s s1
  have hs : Within L s t := State.unbook_within (sub_of h rfl)
  have hs1 : Within L s1 t := by
    unfold s1
    split
    · exact .ite hs ((State.mapCmd_within (h (by decide))).trans hs)
    · exact hs
  exact (State.event_within (h (by decide)) (sub_of h rfl)).trans ((State.bump_within (h (by decide))).trans hs1)

/-- What `State.readEnds` may change. -/
def readEndsParts : List Part :=
  staleEndsParts ++ [.atl, .svy, .reg .SVY_MEDIA_EVENTS]

theorem State.readEnds_within {op : DieOp} {b : ℕ} {die : ℕ} (h : readEndsParts ⊆ L) :
    Within L (State.readEnds t op b die) t := by
  unfold State.readEnds
  extract_lets s
  have hs : Within L s t := .ite .rfl (State.countReads_within (sub_of h rfl))
  exact .ite ((State.staleEnds_within (sub_of h rfl)).trans hs) ((State.memberRead_within (h (by decide))).trans ((State.opEnds_within (sub_of h rfl)).trans hs))

/-- What `execDieOperationComplete` may change. -/
def execDieOperationCompleteParts : List Part :=
  checkFaultParts ++ [.reg .PLT_STALE, .reg .FCH_EVENTS]

theorem execDieOperationComplete_runs {die : ℕ} {passed : Bool} (h : execDieOperationCompleteParts ⊆ L) :
    Runs L t (execDieOperationComplete die passed t) := by
  unfold execDieOperationComplete
  have ends : ∀ u, Within L ((u.retryMoves).boundary die) u := fun u =>
    (State.boundary_within (sub_of h rfl)).trans (State.retryMoves_within (sub_of h rfl))
  have reads : ∀ (u : State) op b, Within L (((u.readEnds op b die).retryMoves).boundary die) u := fun u op b =>
    (ends _).trans (State.readEnds_within (sub_of h rfl))
  split
  next r p _ _ =>
    extract_lets row b page sh src r src1 r1 s x s1 s2
    refine .ite ?_ ?_
    · split
      · exact .next .rfl
      · exact .next ((reads _ _ _).trans ((State.setCtx_within (h (by decide))).trans (.step (h (by decide)) (.plt t _) .rfl)))
    · have hs : Within L s t := .step (h (by decide)) (.plt t _) .rfl
      have hs2 : Within L s2 t := (State.setClosed_within (h (by decide))).trans ((State.setCtx_within (h (by decide))).trans hs)
      have grown : Within L (s2.grownBad b sh page) t := (State.grownBad_within (sub_of h rfl)).trans hs2
      refine .ite (.next ((ends _).trans (.ite ((State.programPass_within (sub_of h rfl)).trans hs2) grown))) ?_
      refine .ite (.ite (.next ((ends _).trans (.ite ((State.erasePassed_within (sub_of h rfl)).trans hs2) grown))) ?_) ?_
      · exact .next ((ends _).trans hs2)
      · exact .next ((reads _ _ _).trans hs2)
  · exact .next ((State.retryMoves_within (sub_of h rfl)).trans (.step (h (by decide)) (.plt t _) .rfl))
  · exact .next .rfl

theorem State.noteEnvelope_within {all : Bool} {sheets : List ℕ} (h : .start ∈ L) :
    Within L (State.noteEnvelope t all sheets) t := by
  unfold State.noteEnvelope
  extract_lets st have_ e done
  exact .step h (.start t _) .rfl

/-- What `execEnvelopeSet` may change. -/
def execEnvelopeSetParts : List Part :=
  [.out, .mgmt, .fns, .mbx, .ops, .start, .reg .PLT_ENVELOPE, .reg .PLT_SHEET_PWR, .reg .CHR_ALERT_STATUS, .reg .MBX_EVENTS]

theorem execEnvelopeSet_runs {q : MbxReq} (h : execEnvelopeSetParts ⊆ L) :
    Runs L t (execEnvelopeSet q t) := by
  unfold execEnvelopeSet
  refine .next ?_
  refine State.serve_within (sub_of h rfl) (fun u => ?_)
  extract_lets tot sheet s'
  have hs' : Within L s' u := (Within.foldl fun u x => State.setReg_within (sub_of h rfl)).trans (State.setReg_within (sub_of h rfl))
  exact .ite (State.refuse_within (sub_of h rfl)) ((State.respond_within (sub_of h rfl)).trans ((State.noteEnvelope_within (h (by decide))).trans hs'))

theorem execPowerStatus_runs {q : MbxReq} (h : [.fresh, .out, .mgmt, .fns, .mbx, .ops, .reg .CHR_ALERT_STATUS, .reg .MBX_EVENTS] ⊆ L) :
    Runs L t (execPowerStatus q t) := by
  unfold execPowerStatus
  refine .next ?_
  refine State.serve_within (sub_of h rfl) (fun u => ?_)
  extract_lets a b s
  have ha : Within L a.2 u := State.draw_within (h (by decide))
  have hb : Within L b.2 u := (State.draw_within (h (by decide))).trans ha
  have hs : Within L s u := hb
  exact (State.respond_within (sub_of h rfl)).trans hs

theorem State.startDormant_within (h : [.pwr, .plt] ⊆ L) :
    Within L (State.startDormant t) t := by
  unfold State.startDormant
  exact .ite .rfl (.update [.pwr, .plt] h .rfl rfl)

theorem execModeRequest_runs {q : MbxReq} (h : wakeParts ⊆ L) :
    Runs L t (execModeRequest q t) := by
  unfold execModeRequest
  refine .next ?_
  refine State.serve_within (sub_of h rfl) (fun u => ?_)
  extract_lets t1 src
  have ht1 : Within L t1 u := (State.dramRest_within (h (by decide))).trans (State.toModeChecked_within (sub_of h rfl))
  clear_value t1 src
  split
  · exact .ite ((State.respond_within (sub_of h rfl)).trans (State.startDormant_within (sub_of h rfl))) (State.refuse_within (sub_of h rfl))
  · exact .ite ((State.respond_within (sub_of h rfl)).trans (.step (h (by decide)) (.pwr t1 _) ht1)) (State.refuse_within (sub_of h rfl))
  · exact (State.respond_within (sub_of h rfl)).trans (State.wake_within h)
  · exact State.refuse_within (sub_of h rfl)

theorem execPs4Entry_runs (h : [.pwr, .ports, .plt] ⊆ L) :
    Runs L t (execPs4Entry t) := by
  unfold execPs4Entry
  extract_lets src src1 s
  have hs : Within L s t := (State.setPort_within (h (by decide))).trans (State.setPort_within (h (by decide)))
  clear_value src src1 s
  refine .ite ?_ ?_
  · exact .next .rfl
  · exact .next ((State.startDormant_within (sub_of h rfl)).trans hs)

theorem execPsExitTimer_runs (h : toServiceParts ⊆ L) :
    Runs L t (execPsExitTimer t) := by
  unfold execPsExitTimer
  refine .ite ?_ ?_
  · exact .next (State.toService_within h)
  · exact .next .rfl

theorem State.closeAndSpill_within (h : closeShortParts ⊆ L) :
    Within L (State.closeAndSpill t) t := by
  unfold State.closeAndSpill
  exact (State.spillAll_within (sub_of h rfl)).trans (Within.foldl fun u x => (State.setJslot_within (sub_of h rfl)).trans (State.closeShort_within h))

/-- What `State.finishDormant` may change. -/
def finishDormantParts : List Part :=
  closeShortParts ++ [.pwr, .fch, .dram, .start, .reg .PWR_EVENTS]

theorem State.finishDormant_within (h : finishDormantParts ⊆ L) :
    Within L (State.finishDormant t) t := by
  unfold State.finishDormant
  extract_lets s src src1 s1 s2 src2
  have hs : Within L s t := (State.suspend_within (sub_of h rfl)).trans (State.closeAndSpill_within (sub_of h rfl))
  have hs1 : Within L s1 t := .update [.gaz, .pwr, .fch, .dram] (sub_of h rfl) hs rfl
  have hs2 : Within L s2 t := (State.emit_within (sub_of h rfl)).trans ((State.toMode_within (h (by decide)) (h (by decide)) (sub_of h rfl)).trans hs1)
  exact .step (h (by decide)) (.pwr s2 _) hs2

theorem execDormantEntry_runs (h : finishDormantParts ⊆ L) :
    Runs L t (execDormantEntry t) := by
  unfold execDormantEntry
  extract_lets src
  clear_value src
  refine .ite ?_ ?_
  · exact .next .rfl
  · refine .ite ?_ ?_
    · exact .next (.step (h (by decide)) (.pwr t _) .rfl)
    · exact .next (State.finishDormant_within h)

theorem execWakeNAsserted_runs (h : wakeParts ⊆ L) :
    Runs L t (execWakeNAsserted t) := by
  unfold execWakeNAsserted
  refine .ite ?_ ?_
  · exact .next .rfl
  · refine .ite ?_ ?_
    · exact .next (State.wake_within h)
    · exact .next .rfl

theorem State.toVault_within (h : resetParts ⊆ L) :
    Within L (State.toVault t) t := by
  unfold State.toVault
  extract_lets t1 src src1
  have ht1 : Within L t1 t := State.deviceReset_within h
  exact (State.suspend_within (sub_reset h (by decide))).trans (.update [.pwr, .start] (sub_reset h (by decide)) ht1 rfl)

theorem execVddAonLost_runs (h : resetParts ⊆ L) :
    Runs L t (execVddAonLost t) := by
  unfold execVddAonLost
  refine .ite ?_ ?_
  · exact .next (State.toVault_within h)
  · exact .next .rfl

theorem execPwrFailNFall_runs (h : enterHoldupParts ⊆ L) :
    Runs L t (execPwrFailNFall t) := by
  unfold execPwrFailNFall
  extract_lets p s
  have hs : Within L s t := .step (h (by decide)) (.pwr t _) .rfl
  exact .ite (.next (.step (h (by decide)) (.pwr (s.toMode .stopped) _) ((State.toMode_within (h (by decide)) (h (by decide)) (sub_of h rfl)).trans hs)))
    (.next ((State.enterHoldup_within (sub_of h rfl)).trans hs))

/-- What `State.stopNow` may change. -/
def stopNowParts : List Part :=
  [.out, .gaz, .mgmt, .pwr, .fns, .fch, .reg .PWR_EVENTS, .reg .CHR_ALERT_STATUS, .reg .GAZ_COUNTS]

theorem State.stopNow_within (h : stopNowParts ⊆ L) :
    Within L (State.stopNow t) t := by
  unfold State.stopNow
  extract_lets s src src1
  have hs : Within L s t := State.toMode_within (h (by decide)) (h (by decide)) (sub_of h rfl)
  exact .update [.pwr, .fch] (sub_of h rfl) hs rfl

theorem execRailTrip_runs {rail : ℕ} (h : resetParts ⊆ L) :
    Runs L t (execRailTrip rail t) := by
  unfold execRailTrip
  extract_lets mark src src1 src2
  have hmark : ∀ a0, Within L (mark a0) a0 := by
    intro a0
    unfold mark
    extract_lets m src3
    exact (State.event_within (mem_reset h (by decide)) (sub_reset h (by decide))).trans (.step (mem_reset h (by decide)) (.pwr a0 _) .rfl)
  have hsrc1 : Within L src1 t := hmark _
  clear_value mark src src1 src2
  refine .ite ?_ ?_
  · exact .next .rfl
  · split
    · refine .ite ?_ ?_
      · exact .next (.step (mem_reset h (by decide)) (.start t _) .rfl)
      · refine .ite ?_ ?_
        · exact .next ((State.stopNow_within (sub_reset h (by decide))).trans (.step (mem_reset h (by decide)) (.pwr src1 _) hsrc1))
        · exact .next ((State.enterHoldup_within (sub_reset h (by decide))).trans (hmark _))
    · refine .ite ?_ ?_
      · exact .next (.step (mem_reset h (by decide)) (.start t _) .rfl)
      · refine .ite ?_ ?_
        · exact .next ((State.stopNow_within (sub_reset h (by decide))).trans (.step (mem_reset h (by decide)) (.pwr src1 _) hsrc1))
        · exact .next ((State.enterHoldup_within (sub_reset h (by decide))).trans (hmark _))
    · refine .ite ?_ ?_
      · exact .next (.step (mem_reset h (by decide)) (.start t _) .rfl)
      · refine .ite ?_ ?_
        · exact .next ((State.stopNow_within (sub_reset h (by decide))).trans (.step (mem_reset h (by decide)) (.pwr src1 _) hsrc1))
        · exact .next ((State.enterHoldup_within (sub_reset h (by decide))).trans (hmark _))
    · refine .ite ?_ ?_
      · exact .next ((State.stopNow_within (sub_reset h (by decide))).trans (.step (mem_reset h (by decide)) (.pwr src1 _) hsrc1))
      · exact .next (hmark _)
    · refine .ite ?_ ?_
      · exact .next (State.toVault_within h)
      · exact .next .rfl
    · exact .next .rfl
    · exact .next .rfl

theorem execAvsRequest_runs {target : ℕ} (h : [.out, .pwr, .reg .PWR_AVS] ⊆ L) :
    Runs L t (execAvsRequest target t) := by
  unfold execAvsRequest
  extract_lets soon want cur mv s src
  have hs : Within L s t := State.setFld_within (h (by decide))
  clear_value soon want cur mv s src
  refine .ite ?_ ?_
  · exact .next .rfl
  · exact .next ((State.emit_within (sub_of h rfl)).trans (.step (h (by decide)) (.pwr s _) hs))

theorem State.writeReserve_within (h : [.atl, .svy] ⊆ L) :
    Within L (State.writeReserve t) t := by
  unfold State.writeReserve
  refine Within.foldl fun u x => ?_
  split
  · exact .ite (State.moveBand_within h) .rfl
  · exact .rfl

/-- What `execDumpEnd` may change. -/
def execDumpEndParts : List Part :=
  [.out, .gaz, .mgmt, .pwr, .fns, .atl, .svy, .fch, .reg .PWR_EVENTS, .reg .CHR_ALERT_STATUS, .reg .GAZ_COUNTS]

theorem execDumpEnd_runs {complete : Bool} (h : execDumpEndParts ⊆ L) :
    Runs L t (execDumpEnd complete t) := by
  unfold execDumpEnd
  extract_lets d src src1 s s1
  have hsrc : Within L src t := State.writeReserve_within (sub_of h rfl)
  have hs : Within L s t := .step (h (by decide)) (.pwr src _) hsrc
  have hs1 : Within L s1 t := (State.record_within (sub_of h rfl)).trans hs
  clear_value d src src1 s s1
  refine .ite ?_ ?_
  · exact .next .rfl
  · exact .next ((State.stopNow_within (sub_of h rfl)).trans hs1)

theorem execPowerRestart_runs (h : resetParts ⊆ L) :
    Runs L t (execPowerRestart t) := by
  unfold execPowerRestart
  extract_lets t1 src
  have ht1 : Within L t1 t := State.restart_within h
  clear_value t1 src
  refine .ite ?_ ?_
  · exact .next (.step (mem_reset h (by decide)) (.pwr t1 _) ht1)
  · exact .next .rfl

theorem execCapacitorTest_runs {v1 : ℕ} {vs : ℕ} (h : [.out, .gaz, .mgmt, .pwr, .fns, .reg .PWR_EVENTS, .reg .CHR_ALERT_STATUS, .reg .GAZ_COUNTS] ⊆ L) :
    Runs L t (execCapacitorTest v1 vs t) := by
  unfold execCapacitorTest
  extract_lets b s src t1 src1
  have hs : Within L s t := State.setBudget_within h
  clear_value b s src t1 src1
  refine .ite ?_ ?_
  · exact .next .rfl
  · refine .ite ?_ ?_
    · exact .next (.step (h (by decide)) (.pwr s _) hs)
    · exact .next (.step (h (by decide)) (.pwr s _) hs)

/-- What `State.testEnds` may change. -/
def testEndsParts : List Part :=
  [.out, .gaz, .mgmt, .pwr, .fns, .mbx, .ops, .reg .PWR_EVENTS, .reg .CHR_ALERT_STATUS, .reg .GAZ_COUNTS, .reg .MBX_EVENTS]

theorem State.testEnds_within {result : ℕ} (h : testEndsParts ⊆ L) :
    Within L (State.testEnds t result) t := by
  unfold State.testEnds
  extract_lets h1 src src1 s
  have hs : Within L s t := .step (h (by decide)) (.pwr t _) .rfl
  exact (State.opDone_within (sub_of h rfl)).trans ((State.event_within (h (by decide)) (sub_of h rfl)).trans hs)

theorem State.testFails_within (h : testEndsParts ⊆ L) :
    Within L (State.testFails t) t := by
  unfold State.testFails
  extract_lets s src
  have hs : Within L s t := State.setBudget_within (sub_of h rfl)
  exact (State.testEnds_within h).trans ((State.event_within (h (by decide)) (sub_of h rfl)).trans (.step (h (by decide)) (.pwr s _) hs))

theorem execBankReachesV2_runs (h : testEndsParts ⊆ L) :
    Runs L t (execBankReachesV2 t) := by
  unfold execBankReachesV2
  extract_lets t1 r v2 vm c esr e b src s src1
  have hs : Within L s t := .step (h (by decide)) (.pwr t _) .rfl
  clear_value t1 r v2 vm c esr e b src s src1
  refine .ite ?_ ?_
  · exact .next .rfl
  · refine .ite ?_ ?_
    · exact .next ((State.testFails_within h).trans hs)
    · exact .next (.step (h (by decide)) (.pwr s _) hs)

theorem execCapacitorTestTimeout_runs (h : testEndsParts ⊆ L) :
    Runs L t (execCapacitorTestTimeout t) := by
  unfold execCapacitorTestTimeout
  refine .ite ?_ ?_
  · exact .next (State.testFails_within h)
  · exact .next .rfl

theorem execBankRecharged_runs (h : testEndsParts ⊆ L) :
    Runs L t (execBankRecharged t) := by
  unfold execBankRecharged
  refine .ite ?_ ?_
  · exact .next ((State.testEnds_within h).trans (State.setBudget_within (sub_of h rfl)))
  · exact .next .rfl

/-- What `execHoldupTest` may change. -/
def execHoldupTestParts : List Part :=
  toServiceParts ++ [.mbx, .ops, .nextHandle, .reg .MBX_EVENTS]

theorem execHoldupTest_runs {q : MbxReq} (h : execHoldupTestParts ⊆ L) :
    Runs L t (execHoldupTest q t) := by
  unfold execHoldupTest
  refine .next ?_
  refine State.serve_within (sub_of h rfl) (fun u => ?_)
  extract_lets r src src1 src2
  have hr : Within L r.2 u := (State.startLong_within (sub_of h rfl)).trans (State.toService_within (sub_of h rfl))
  have hsrc : Within L src u := hr
  exact .ite (State.refuse_within (sub_of h rfl)) (.step (h (by decide)) (.pwr src _) hsrc)

theorem State.setTile_within {t1 : ℕ} {x : Tile} (h : .til ∈ L) :
    Within L (State.setTile t t1 x) t := by
  unfold State.setTile
  exact .step h (.til t _) .rfl

/-- What `State.resizeDone` may change. -/
def resizeDoneParts : List Part :=
  [.out, .gaz, .mgmt, .fns, .til, .reg .TIL_CTRL, .reg .TIL_EVENTS, .reg .CHR_ALERT_STATUS, .reg .GAZ_COUNTS]

theorem State.resizeDone_within (h : resizeDoneParts ⊆ L) :
    Within L (State.resizeDone t) t := by
  unfold State.resizeDone
  exact .ite ((State.event_within (h (by decide)) (sub_of h rfl)).trans ((State.setFld_within (h (by decide))).trans (.step (h (by decide)) (.til t _) .rfl))) .rfl

theorem State.tileInto_within {t1 : ℕ} {p : ℕ} (h : [.out, .gaz, .mgmt, .fns, .til, .reg .TIL_POOL_WM, .reg .CHR_ALERT_STATUS, .reg .GAZ_COUNTS] ⊆ L) :
    Within L (State.tileInto t t1 p) t := by
  unfold State.tileInto
  split
  · exact .rfl
  · exact (State.setTPool_within h).trans (State.setTile_within (h (by decide)))

theorem State.moveSize_within {p : ℕ} {q : ℕ} (h : [.out, .gaz, .mgmt, .fns, .til, .reg .TIL_POOL_WM, .reg .CHR_ALERT_STATUS, .reg .GAZ_COUNTS] ⊆ L) :
    Within L (State.moveSize t p q) t := by
  unfold State.moveSize
  split
  · exact (State.setTPool_within h).trans (State.setTPool_within h)
  · exact .rfl

/-- What `State.tileFreed` may change. -/
def tileFreedParts : List Part :=
  [.out, .gaz, .mgmt, .fns, .til, .reg .TIL_CTRL, .reg .TIL_EVENTS, .reg .TIL_POOL_TGT, .reg .TIL_POOL_WM, .reg .CHR_ALERT_STATUS, .reg .GAZ_COUNTS]

theorem State.tileFreed_within {t1 : ℕ} (h : tileFreedParts ⊆ L) :
    Within L (State.tileFreed t t1) t := by
  unfold State.tileFreed
  extract_lets x
  clear_value x
  split
  · exact .rfl
  · extract_lets s s1 s2 s3 src
    have hs : Within L s t := State.setTPool_within (sub_of h rfl)
    have hs1 : Within L s1 t := (State.setTPool_within (sub_of h rfl)).trans hs
    have hs2 : Within L s2 t := (State.setFld_within (h (by decide))).trans hs1
    have hs3 : Within L s3 t := (State.setTile_within (h (by decide))).trans hs2
    clear_value s s1 s2 s3 src
    refine .ite ?_ ?_
    · exact (State.resizeDone_within (sub_of h rfl)).trans ((State.event_within (h (by decide)) (sub_of h rfl)).trans (.step (h (by decide)) (.til s3 _) hs3))
    · refine .ite ?_ ?_
      · split
        · exact (State.resizeDone_within (sub_of h rfl)).trans ((State.tileInto_within (sub_of h rfl)).trans ((State.moveSize_within (sub_of h rfl)).trans hs))
        · exact (State.tileInto_within (sub_of h rfl)).trans hs
      · exact (State.tileInto_within (sub_of h rfl)).trans hs

theorem execTileRelease_runs {t0 : ℕ} (h : tileFreedParts ⊆ L) :
    Runs L t (execTileRelease t0 t) := by
  unfold execTileRelease
  extract_lets x s
  have hs : Within L s t := State.setTile_within (h (by decide))
  clear_value x s
  refine .ite ?_ ?_
  · exact .next .rfl
  · refine .ite ?_ ?_
    · exact .next (State.event_within (h (by decide)) (sub_of h rfl))
    · refine .ite ?_ ?_
      · exact .next ((State.tileFreed_within h).trans hs)
      · exact .next hs

theorem execAddRef_runs {t0 : ℕ} (h : [.out, .gaz, .mgmt, .fns, .til, .reg .TIL_EVENTS, .reg .CHR_ALERT_STATUS, .reg .GAZ_COUNTS] ⊆ L) :
    Runs L t (execAddRef t0 t) := by
  unfold execAddRef
  extract_lets x
  clear_value x
  refine .ite ?_ ?_
  · exact .next .rfl
  · refine .ite ?_ ?_
    · exact .next (State.event_within (h (by decide)) (sub_of h rfl))
    · exact .next (State.setTile_within (h (by decide)))

theorem execTileReserve_runs {p : ℕ} {n : ℕ} (h : [.out, .gaz, .mgmt, .fns, .til, .reg .TIL_POOL_WM, .reg .CHR_ALERT_STATUS, .reg .GAZ_COUNTS] ⊆ L) :
    Runs L t (execTileReserve p n t) := by
  unfold execTileReserve
  split
  · exact .next .rfl
  · refine .ite ?_ ?_
    · exact .next (State.emit_within (sub_of h rfl))
    · exact .next ((State.emit_within (sub_of h rfl)).trans (State.setTPool_within h))

theorem execTileUnreserve_runs {p : ℕ} {n : ℕ} (h : [.out, .gaz, .mgmt, .fns, .til, .reg .TIL_POOL_WM, .reg .CHR_ALERT_STATUS, .reg .GAZ_COUNTS] ⊆ L) :
    Runs L t (execTileUnreserve p n t) := by
  unfold execTileUnreserve
  split
  · exact .next .rfl
  · exact .next (State.setTPool_within h)

/-- What `State.rebuildList` may change. -/
def rebuildListParts : List Part :=
  faultParts ++ [.reg .TIL_EVENTS]

theorem State.rebuildList_within {p : ℕ} {x : TPool} (h : rebuildListParts ⊆ L) :
    Within L (State.rebuildList t p x) t := by
  unfold State.rebuildList
  extract_lets free
  exact (State.raiseAt_within (sub_of h rfl)).trans ((State.event_within (h (by decide)) (sub_of h rfl)).trans (State.setTPool_within (sub_of h rfl)))

theorem State.checkList_within {p : ℕ} {damaged : Bool} (h : rebuildListParts ⊆ L) :
    Within L (State.checkList t p damaged) t := by
  unfold State.checkList
  split
  · split
    · exact .ite (State.rebuildList_within h) .rfl
    · exact .rfl
  · exact .rfl

theorem State.takeHead_within {p : ℕ} {k : ℕ} {reserved : ℕ} {x : TPool} (h : [.out, .gaz, .mgmt, .fns, .til, .reg .TIL_POOL_WM, .reg .CHR_ALERT_STATUS, .reg .GAZ_COUNTS] ⊆ L) :
    Within L (State.takeHead t p k reserved x) t := by
  unfold State.takeHead
  split
  · exact .rfl
  · extract_lets s
    have hs : Within L s t := State.setTile_within (h (by decide))
    exact (State.emit_within (sub_of h rfl)).trans ((State.setTPool_within h).trans hs)

theorem execAllocReserved_runs {p : ℕ} {a : TileAsk} (h : rebuildListParts ⊆ L) :
    Runs L t (execAllocReserved p a t) := by
  unfold execAllocReserved
  extract_lets s
  have hs : Within L s t := State.checkList_within h
  clear_value s
  split
  · exact .next .rfl
  · refine .ite ?_ ?_
    · exact .next .rfl
    · split
      · exact .next ((State.takeHead_within (sub_of h rfl)).trans hs)
      · exact .next hs

theorem execAllocSpot_runs {p : ℕ} {a : TileAsk} (h : rebuildListParts ⊆ L) :
    Runs L t (execAllocSpot p a t) := by
  unfold execAllocSpot
  extract_lets s
  have hs : Within L s t := State.checkList_within h
  clear_value s
  split
  · exact .next .rfl
  · refine .ite ?_ ?_
    · exact .next .rfl
    · refine .ite ?_ ?_
      · exact .next (State.emit_within (sub_of h rfl))
      · split
        · exact .next ((State.takeHead_within (sub_of h rfl)).trans hs)
        · exact .next hs

theorem execTileSramUe_runs {t0 : ℕ} {injected : Bool} (h : execFaultDetectedParts ⊆ L) :
    Runs L t (execTileSramUe t0 injected t) := by
  unfold execTileSramUe
  extract_lets x s s1
  have hs : Within L s t := State.setTile_within (h (by decide))
  have hs1 : Within L s1 t := (State.emit_within (sub_of h rfl)).trans ((State.bump_within (h (by decide))).trans hs)
  clear_value x s s1
  refine .ite ?_ ?_
  · exact .next .rfl
  · exact .next ((State.raise_within (sub_of h rfl)).trans hs1)

theorem State.moveFree_within {a : ℕ} (h : [.out, .gaz, .mgmt, .fns, .til, .reg .TIL_POOL_WM, .reg .CHR_ALERT_STATUS, .reg .GAZ_COUNTS] ⊆ L) :
    Within L (State.moveFree a t) t := by
  induction a generalizing t with
  | zero =>
    exact .rfl
  | succ n ih =>
    rw [State.moveFree]
    split
    · split
      · split
        · extract_lets s
          have hs : Within L s t := State.setTPool_within h
          exact (ih).trans ((State.tileInto_within h).trans ((State.moveSize_within h).trans hs))
        · exact .rfl
      · exact .rfl
    · exact .rfl

/-- What `State.applyTargets` may change. -/
def applyTargetsParts : List Part :=
  [.out, .gaz, .mgmt, .fns, .til, .reg .TIL_CTRL, .reg .TIL_EVENTS, .reg .TIL_POOL_WM, .reg .CHR_ALERT_STATUS, .reg .GAZ_COUNTS]

theorem State.applyTargets_within (h : applyTargetsParts ⊆ L) :
    Within L (State.applyTargets t) t := by
  unfold State.applyTargets
  extract_lets tgt ok pools src s s1
  have hs : Within L s t := .step (h (by decide)) (.til t _) .rfl
  have hs1 : Within L s1 t := (State.setFld_within (h (by decide))).trans hs
  exact .ite (State.event_within (h (by decide)) (sub_of h rfl)) ((State.resizeDone_within (sub_of h rfl)).trans ((State.moveFree_within (sub_of h rfl)).trans hs1))

theorem execTileApply_runs (h : applyTargetsParts ⊆ L) :
    Runs L t (execTileApply t) := by
  unfold execTileApply
  exact .next (State.applyTargets_within h)

theorem execDramRequest_runs {ch : ℕ} {r : DramReq} (h : [.out, .dram] ⊆ L) :
    Runs L t (execDramRequest ch r t) := by
  unfold execDramRequest
  extract_lets x
  clear_value x
  refine .ite ?_ ?_
  · exact .next .rfl
  · refine .ite ?_ ?_
    · exact .next (State.emit_within (sub_of h rfl))
    · exact .next (State.setDram_within (h (by decide)))

theorem State.issue_within {ch : ℕ} {r : DReq} {level : ℕ} (h : [.dram, .reg .DRC_PORT_STATUS] ⊆ L) :
    Within L (State.issue t ch r level) t := by
  unfold State.issue
  extract_lets x s
  have hs : Within L s t := State.setDram_within (h (by decide))
  exact .ite ((State.bump_within (h (by decide))).trans hs) hs

/-- What `State.issueRefresh` may change. -/
def issueRefreshParts : List Part :=
  [.out, .gaz, .mgmt, .fns, .dram, .reg .DRC_PORT_STATUS, .reg .DRC_CH_EVENTS, .reg .CHR_ALERT_STATUS, .reg .GAZ_COUNTS]

theorem State.issueRefresh_within {ch : ℕ} {level : ℕ} (h : issueRefreshParts ⊆ L) :
    Within L (State.issueRefresh t ch level) t := by
  unfold State.issueRefresh
  extract_lets x s
  have hs : Within L s t := State.setDram_within (h (by decide))
  exact .ite ((State.event_within (h (by decide)) (sub_of h rfl)).trans ((State.bump_within (h (by decide))).trans hs)) hs

theorem execDramIssueSlot_runs {ch : ℕ} (h : issueRefreshParts ⊆ L) :
    Runs L t (execDramIssueSlot ch t) := by
  unfold execDramIssueSlot
  extract_lets x ref top cands pick since
  clear_value x ref top cands pick since
  refine .ite ?_ ?_
  · exact .next .rfl
  · refine .ite ?_ ?_
    · exact .next (State.issueRefresh_within h)
    · refine .ite ?_ ?_
      · exact .next (State.setDram_within (h (by decide)))
      · split
        · exact .next .rfl
        · exact .next (State.issueRefresh_within h)
        · exact .next (State.issue_within (sub_of h rfl))
        · extract_lets hit
          clear_value hit
          refine .ite ?_ ?_
          · exact .next (State.issueRefresh_within h)
          · exact .next (State.issue_within (sub_of h rfl))

theorem execDramRefreshDue_runs {ch : ℕ} {rank : ℕ} {hot : Bool} (h : .dram ∈ L) :
    Runs L t (execDramRefreshDue ch rank hot t) := by
  unfold execDramRefreshDue
  extract_lets x
  clear_value x
  refine .ite ?_ ?_
  · exact .next .rfl
  · exact .next (State.setDram_within h)

theorem execDramMaintenanceDue_runs {ch : ℕ} {kind : ℕ} (h : .dram ∈ L) :
    Runs L t (execDramMaintenanceDue ch kind t) := by
  unfold execDramMaintenanceDue
  extract_lets x
  clear_value x
  refine .ite ?_ ?_
  · exact .next .rfl
  · exact .next (State.setDram_within h)

/-- What `execDramReadReturn` may change. -/
def execDramReadReturnParts : List Part :=
  faultParts ++ [.reg .DRC_CH_ECC]

theorem execDramReadReturn_runs {ch : ℕ} {id : ℕ} {corrected : Bool} (h : execDramReadReturnParts ⊆ L) :
    Runs L t (execDramReadReturn ch id corrected t) := by
  unfold execDramReadReturn
  extract_lets x s
  have hs : Within L s t := State.setDram_within (h (by decide))
  clear_value x s
  split
  · exact .next .rfl
  · extract_lets s1
    have hs1 : Within L s1 t := (State.emit_within (sub_of h rfl)).trans hs
    clear_value s1
    refine .ite ?_ ?_
    · exact .next ((State.raiseAt_within (sub_of h rfl)).trans ((State.bump_within (h (by decide))).trans hs1))
    · exact .next hs1

theorem State.unitLost_within {u : DramUnit} (h : faultParts ⊆ L) :
    Within L (State.unitLost t u) t := by
  unfold State.unitLost
  split
  · extract_lets k
    exact State.segBad_within (h (by decide)) h
  · exact State.stagingLost_within (sub_of h rfl)
  · exact State.stripeLost_within (h (by decide))
  · split
    · exact .ite (State.dataError_within (sub_of h rfl)) .rfl
    · exact .rfl
  · exact .rfl
  · exact .rfl
  · exact .rfl
  · exact .rfl

/-- What `execDramUe` may change. -/
def execDramUeParts : List Part :=
  execDramReadReturnParts ++ [.reg .DRC_UE_ADDR]

theorem execDramUe_runs {ch : ℕ} {port : ℕ} {addr : ℕ} {unit : DramUnit} {injected : Bool} (h : execDramUeParts ⊆ L) :
    Runs L t (execDramUe ch port addr unit injected t) := by
  unfold execDramUe
  extract_lets x region s s1 s2 s3 again src s4 s5
  have hs : Within L s t := State.emit_within (sub_of h rfl)
  have hs1 : Within L s1 t := (State.setFld_within (h (by decide))).trans ((State.setFld_within (h (by decide))).trans hs)
  have hs2 : Within L s2 t := (State.event_within (h (by decide)) (sub_of h rfl)).trans ((State.bump_within (h (by decide))).trans hs1)
  have hs3 : Within L s3 t := (State.unitLost_within (sub_of h rfl)).trans ((State.raise_within (sub_of h rfl)).trans hs2)
  have hs4 : Within L s4 t := (State.setDram_within (h (by decide))).trans hs3
  have hs5 : Within L s5 t := (State.raiseAt_within (sub_of h rfl)).trans hs4
  clear_value x region s s1 s2 s3 again src s4 s5
  refine .ite ?_ ?_
  · exact .next .rfl
  · refine .ite ?_ ?_
    · exact .next hs3
    · refine .ite ?_ ?_
      · refine .ite ?_ ?_
        · exact .next ((State.raiseAt_within (sub_of h rfl)).trans hs5)
        · exact .next hs5
      · exact .next hs4

theorem State.setBootSlot_within {k : ℕ} {b : BootSlot} (h : .por ∈ L) :
    Within L (State.setBootSlot t k b) t := by
  unfold State.setBootSlot
  exact .step h (.por t _) .rfl

theorem State.setSess_within {u : Option UpdSess} (h : .por ∈ L) :
    Within L (State.setSess t u) t := by
  unfold State.setSess
  exact .step h (.por t _) .rfl

theorem State.setLink_within {down : Bool} {l : RLink} (h : .por ∈ L) :
    Within L (State.setLink t down l) t := by
  unfold State.setLink
  exact .ite (.step h (.por t _) .rfl) (.step h (.por t _) .rfl)

theorem State.frame_within {down : Bool} {type : ℕ} {seq : ℕ} {payload : List ℕ} (h : .out ∈ L) :
    Within L (State.frame t down type seq payload) t := by
  unfold State.frame
  exact State.emit_within (List.cons_subset.2 ⟨h, List.nil_subset _⟩)

theorem State.pump_within {down : Bool} {a : ℕ} (h : [.out, .por] ⊆ L) :
    Within L (State.pump t down a) t := by
  induction a generalizing t down with
  | zero =>
    exact .rfl
  | succ n ih =>
    rw [State.pump]
    split
    · exact .rfl
    · extract_lets s
      have hs : Within L s t := State.setLink_within (h (by decide))
      exact .ite .rfl ((ih).trans ((State.frame_within (h (by decide))).trans hs))

theorem State.relaySend_within {down : Bool} {type : ℕ} {payload : List ℕ} (h : [.out, .por] ⊆ L) :
    Within L (State.relaySend t down type payload) t := by
  unfold State.relaySend
  extract_lets l
  exact .ite .rfl ((State.pump_within h).trans (State.setLink_within (h (by decide))))

theorem State.ackFrame_within {down : Bool} (h : .out ∈ L) :
    Within L (State.ackFrame t down) t := by
  unfold State.ackFrame
  exact State.frame_within h

theorem State.relayRecv_within {down : Bool} {seq : ℕ} {body : State → State} (h : [.out, .por, .reg .UPD_RELAY_CNT] ⊆ L)
    (hb : ∀ u, Within L (body u) u) : Within L (State.relayRecv t down seq body) t := by
  unfold State.relayRecv
  extract_lets l d
  have ack : ∀ u, Within L (u.ackFrame down) u := fun u => State.ackFrame_within (h (by decide))
  exact .ite .rfl (.ite ((ack _).trans ((hb _).trans (State.setLink_within (h (by decide)))))
    (.ite (ack _) ((ack _).trans (State.bump_within (h (by decide))))))

theorem State.report_within {kind : ℕ} {result : ℕ} {imageId : ℕ} {slot : ℕ} {fw : ℕ} (h : [.out, .por] ⊆ L) :
    Within L (State.report t kind result imageId slot fw) t := by
  unfold State.report
  exact State.relaySend_within h

theorem State.linkLost_within {down : Bool} (h : [.out, .gaz, .mgmt, .fns, .por, .reg .CHR_ALERT_STATUS, .reg .GAZ_COUNTS, .reg .UPD_EVENTS] ⊆ L) :
    Within L (State.linkLost t down) t := by
  unfold State.linkLost
  extract_lets s src s1
  have hs : Within L s t := (State.event_within (h (by decide)) (sub_of h rfl)).trans (State.setLink_within (h (by decide)))
  have hs1 : Within L s1 t := .step (h (by decide)) (.por s _) hs
  clear_value s src s1
  refine .ite ?_ ?_
  · split
    · exact .ite (.step (h (by decide)) (.por s _) hs) hs
    · exact hs
  · split
    · exact .ite ((State.event_within (h (by decide)) (sub_of h rfl)).trans ((State.endUpd_within (h (by decide))).trans hs1)) hs1
    · exact hs1

theorem execLinkUp_runs {down : Bool} {version : ℕ} {position : ℕ} {roundTrip : ℕ} {credit : ℕ} (h : [.out, .gaz, .mgmt, .fns, .por, .reg .CHR_ALERT_STATUS, .reg .GAZ_COUNTS, .reg .UPD_EVENTS] ⊆ L) :
    Runs L t (execLinkUp down version position roundTrip credit t) := by
  unfold execLinkUp
  extract_lets src s src1 s1 s2
  have hs : Within L s t := State.setLink_within (h (by decide))
  have hs1 : Within L s1 t := .step (h (by decide)) (.por s _) hs
  have hs2 : Within L s2 t := .ite ((State.event_within (h (by decide)) (sub_of h rfl)).trans hs1) hs1
  clear_value src s src1 s1 s2
  refine .ite ?_ ?_
  · exact .next .rfl
  · refine .ite ?_ ?_
    · exact .next (State.event_within (h (by decide)) (sub_of h rfl))
    · refine .ite ?_ ?_
      · exact .next hs
      · exact .next ((State.report_within (sub_of h rfl)).trans hs2)

theorem execLinkUpResend_runs {down : Bool} (h : [.out, .por] ⊆ L) :
    Runs L t (execLinkUpResend down t) := by
  unfold execLinkUpResend
  extract_lets l
  clear_value l
  refine .ite ?_ ?_
  · exact .next .rfl
  · exact .next ((State.frame_within (h (by decide))).trans (State.setLink_within (h (by decide))))

theorem execHopRemeasure_runs {roundTrip : ℕ} (h : .por ∈ L) :
    Runs L t (execHopRemeasure roundTrip t) := by
  unfold execHopRemeasure
  extract_lets l
  clear_value l
  refine .ite ?_ ?_
  · exact .next (State.setLink_within h)
  · exact .next .rfl

theorem execRelayAck_runs {down : Bool} {value : ℕ} {credit : ℕ} (h : [.out, .por, .reg .UPD_RELAY_CNT] ⊆ L) :
    Runs L t (execRelayAck down value credit t) := by
  unfold execRelayAck
  extract_lets l n s
  have hs : Within L s t := State.setLink_within (h (by decide))
  clear_value l n s
  refine .ite ?_ ?_
  · exact .next .rfl
  · refine .ite ?_ ?_
    · exact .next (State.bump_within (h (by decide)))
    · exact .next ((State.pump_within (sub_of h rfl)).trans hs)

/-- What `execRelayReplayTimeout` may change. -/
def execRelayReplayTimeoutParts : List Part :=
  [.out, .gaz, .mgmt, .fns, .por, .reg .CHR_ALERT_STATUS, .reg .GAZ_COUNTS, .reg .UPD_RELAY_CNT, .reg .UPD_EVENTS]

theorem execRelayReplayTimeout_runs {down : Bool} (h : execRelayReplayTimeoutParts ⊆ L) :
    Runs L t (execRelayReplayTimeout down t) := by
  unfold execRelayReplayTimeout
  extract_lets l s
  have hs : Within L s t := (State.bump_within (h (by decide))).trans (State.setLink_within (h (by decide)))
  clear_value l s
  refine .ite ?_ ?_
  · exact .next .rfl
  · refine .ite ?_ ?_
    · exact .next (State.linkLost_within (sub_of h rfl))
    · exact .next ((Within.foldl fun u x => State.frame_within (h (by decide))).trans hs)

theorem execRelayLinkDown_runs {down : Bool} (h : [.out, .gaz, .mgmt, .fns, .por, .reg .CHR_ALERT_STATUS, .reg .GAZ_COUNTS, .reg .UPD_EVENTS] ⊆ L) :
    Runs L t (execRelayLinkDown down t) := by
  unfold execRelayLinkDown
  refine .ite ?_ ?_
  · exact .next (State.linkLost_within h)
  · exact .next .rfl

theorem execRelayFrameCrcError_runs {down : Bool} (h : .reg .UPD_RELAY_CNT ∈ L) :
    Runs L t (execRelayFrameCrcError down t) := by
  unfold execRelayFrameCrcError
  exact .next (State.bump_within h)

theorem State.beaconDown_within {count : ℕ} (h : .out ∈ L) :
    Within L (State.beaconDown t count) t := by
  unfold State.beaconDown
  extract_lets l
  exact .ite (State.frame_within h) .rfl

theorem execBeacon_runs {count : ℕ} (h : alarmFiresParts ⊆ L) :
    Runs L t (execBeacon count t) := by
  unfold execBeacon
  extract_lets l s
  have hs : Within L s t := State.setDatum_within h
  clear_value l s
  refine .ite ?_ ?_
  · exact .next .rfl
  · refine .ite ?_ ?_
    · exact .next ((State.beaconDown_within (h (by decide))).trans hs)
    · exact .next (State.beaconDown_within (h (by decide)))

theorem execBeaconSend_runs (h : [.out, .por] ⊆ L) :
    Runs L t (execBeaconSend t) := by
  unfold execBeaconSend
  extract_lets src
  clear_value src
  refine .ite ?_ ?_
  · exact .next .rfl
  · exact .next ((State.beaconDown_within (h (by decide))).trans (.step (h (by decide)) (.por t _) .rfl))

theorem State.openUpd_within {u : UpdSess} (h : [.out, .por] ⊆ L) :
    Within L (State.openUpd t u) t := by
  unfold State.openUpd
  extract_lets s src s1 src1 s2 s3
  have hs : Within L s t := State.setSess_within (h (by decide))
  have hs1 : Within L s1 t := .step (h (by decide)) (.por s _) hs
  have hs2 : Within L s2 t := (State.setBootSlot_within (h (by decide))).trans hs1
  have hs3 : Within L s3 t := .ite (.ite hs2 ((State.startStore_within (h (by decide))).trans hs2)) hs1
  exact .ite ((State.relaySend_within h).trans hs3) hs3

theorem execUpdBegin_runs {q : MbxReq} (h : [.out, .mgmt, .fns, .mbx, .ops, .por, .reg .CHR_ALERT_STATUS, .reg .MBX_EVENTS] ⊆ L) :
    Runs L t (execUpdBegin q t) := by
  unfold execUpdBegin
  extract_lets slot route len
  clear_value slot route len
  refine .next ?_
  refine State.serve_within (sub_of h rfl) (fun u => ?_)
  exact .ite (State.refuse_within (sub_of h rfl)) (.ite (State.refuse_within (sub_of h rfl)) (.ite (State.refuse_within (sub_of h rfl)) ((State.respond_within (sub_of h rfl)).trans (State.openUpd_within (sub_of h rfl)))))

theorem execUpdChunk_runs {q : MbxReq} (h : [.out, .mgmt, .fns, .mbx, .ops, .por, .reg .CHR_ALERT_STATUS, .reg .MBX_EVENTS] ⊆ L) :
    Runs L t (execUpdChunk q t) := by
  unfold execUpdChunk
  extract_lets data
  clear_value data
  refine .next ?_
  refine State.serve_within (sub_of h rfl) (fun u => ?_)
  split
  · exact State.refuse_within (sub_of h rfl)
  · exact .ite (State.refuse_within (sub_of h rfl)) (.ite (State.refuse_within (sub_of h rfl)) (.ite (State.refuse_within (sub_of h rfl)) (.ite (State.setSess_within (h (by decide))) ((State.respond_within (sub_of h rfl)).trans (State.setSess_within (h (by decide)))))))

/-- What `State.finishUpd` may change. -/
def finishUpdParts : List Part :=
  [.out, .gaz, .mgmt, .fns, .mbx, .ops, .por, .reg .CHR_ALERT_STATUS, .reg .GAZ_COUNTS, .reg .UPD_EVENTS, .reg .MBX_EVENTS]

theorem State.finishUpd_within (h : finishUpdParts ⊆ L) :
    Within L (State.finishUpd t) t := by
  unfold State.finishUpd
  extract_lets s
  have hs : Within L s t := (State.event_within (h (by decide)) (sub_of h rfl)).trans (State.setSess_within (h (by decide)))
  clear_value s
  split
  · exact .rfl
  · extract_lets mine l good bad res s1
    have hs1 : Within L s1 t := .ite hs ((State.event_within (h (by decide)) (sub_of h rfl)).trans hs)
    exact (State.opDone_within (sub_of h rfl)).trans hs1

theorem State.endLocal_within (h : finishUpdParts ⊆ L) : Within L (State.endLocal t) t := by
  unfold State.endLocal
  split
  · exact .rfl
  next u _ =>
    extract_lets ok fw s1 fwd s2 s3 s4
    have h1 : Within L s1 t := .ite (State.setBootSlot_within (h (by decide))) .rfl
    have h2 : Within L s2 t := (State.setSess_within (h (by decide))).trans h1
    have h3 : Within L s3 t := .ite ((State.relaySend_within (sub_of h rfl)).trans h2) h2
    have h4 : Within L s4 t := (State.report_within (sub_of h rfl)).trans h3
    clear_value s1 s2 s3 s4
    refine .ite ?_ (.ite h3 ((State.finishUpd_within (sub_of h rfl)).trans h3))
    have h5 : Within L (s4.setSess none) t := (State.setSess_within (h (by decide))).trans h4
    refine Within.trans ?_ h5
    split
    · exact State.event_within (h (by decide)) (sub_of h rfl)
    · exact State.event_within (h (by decide)) (sub_of h rfl)

/-- What `execUpdEnd` may change. -/
def execUpdEndParts : List Part :=
  [.out, .gaz, .mgmt, .fns, .mbx, .ops, .nextHandle, .por, .reg .CHR_ALERT_STATUS, .reg .GAZ_COUNTS, .reg .UPD_EVENTS, .reg .MBX_EVENTS]

theorem execUpdEnd_runs {q : MbxReq} (h : execUpdEndParts ⊆ L) :
    Runs L t (execUpdEnd q t) := by
  unfold execUpdEnd
  refine .next ?_
  refine State.serve_within (sub_of h rfl) (fun u => ?_)
  extract_lets l
  have hl : Within L l.2 u := State.startLong_within (sub_of h rfl)
  clear_value l
  split
  · exact State.refuse_within (sub_of h rfl)
  · extract_lets s
    have hs : Within L s u := (State.setSess_within (h (by decide))).trans hl
    exact .ite (State.refuse_within (sub_of h rfl)) (.ite ((State.endLocal_within (sub_of h rfl)).trans hs) hs)

theorem State.failUpd_within {u : UpdSess} {status : ℕ} (h : finishUpdParts ⊆ L) :
    Within L (State.failUpd t u status) t := by
  unfold State.failUpd
  extract_lets s s1
  have hs : Within L s t := (State.event_within (h (by decide)) (sub_of h rfl)).trans (State.endUpd_within (h (by decide)))
  have hs1 : Within L s1 t := by
    unfold s1
    split
    · exact (State.refuse_within (sub_of h rfl)).trans hs
    · exact hs
  exact .ite ((State.report_within (sub_of h rfl)).trans hs1) ((State.opDone_within (sub_of h rfl)).trans hs1)

/-- What `execChunkStored` may change. -/
def execChunkStoredParts : List Part :=
  [.out, .gaz, .mgmt, .fns, .mbx, .ops, .por, .reg .CHR_ALERT_STATUS, .reg .GAZ_COUNTS, .reg .POR_EVENTS, .reg .UPD_EVENTS, .reg .MBX_EVENTS]

theorem execChunkStored_runs {ok : Bool} (h : execChunkStoredParts ⊆ L) :
    Runs L t (execChunkStored ok t) := by
  unfold execChunkStored
  split
  · exact .next .rfl
  · split
    · exact .next .rfl
    · extract_lets a s src s1 s2 u s3
      have hs : Within L s t := .ite ((State.storePut_within (h (by decide))).trans (State.eraseDone_within (sub_of h rfl))) .rfl
      have hs1 : Within L s1 t := by
        unfold s1
        split
        · exact .ite (.step (h (by decide)) (.por s _) hs) hs
        · exact hs
      have hs2 : Within L s2 t := .ite ((State.relaySend_within (sub_of h rfl)).trans hs1) hs1
      have hs3 : Within L s3 t := (State.setSess_within (h (by decide))).trans hs2
      clear_value a s src s1 s2 u s3
      refine .ite ?_ ?_
      · exact .next (State.failUpd_within (sub_of h rfl))
      · split
        · exact .next ((State.respond_within (sub_of h rfl)).trans ((State.setSess_within (h (by decide))).trans hs2))
        · exact .next (.ite ((State.endLocal_within (sub_of h rfl)).trans hs3) hs3)

theorem execUpdEndChainTimeout_runs (h : finishUpdParts ⊆ L) :
    Runs L t (execUpdEndChainTimeout t) := by
  unfold execUpdEndChainTimeout
  split
  · exact .next .rfl
  · exact .next (.ite (State.finishUpd_within h) .rfl)

theorem execUpdStatus_runs {q : MbxReq} (h : mbxParts ⊆ L) :
    Runs L t (execUpdStatus q t) := by
  unfold execUpdStatus
  refine .next ?_
  refine State.serve_within h (fun u => ?_)
  exact State.respond_within h

theorem execRelayBegin_runs {seq : ℕ} {slot : ℕ} {len : ℕ} {imageId : ℕ} (h : [.out, .por, .reg .UPD_RELAY_CNT] ⊆ L) :
    Runs L t (execRelayBegin seq slot len imageId t) := by
  unfold execRelayBegin
  refine .next ?_
  refine State.relayRecv_within h (fun u => ?_)
  exact .ite (State.report_within (sub_of h rfl)) (State.openUpd_within (sub_of h rfl))

/-- What `execRelayChunk` may change. -/
def execRelayChunkParts : List Part :=
  [.out, .gaz, .mgmt, .fns, .mbx, .ops, .por, .reg .CHR_ALERT_STATUS, .reg .GAZ_COUNTS, .reg .UPD_RELAY_CNT, .reg .UPD_EVENTS, .reg .MBX_EVENTS]

theorem execRelayChunk_runs {seq : ℕ} {index : ℕ} {crc : ℕ} {data : List ℕ} (h : execRelayChunkParts ⊆ L) :
    Runs L t (execRelayChunk seq index crc data t) := by
  unfold execRelayChunk
  refine .next ?_
  refine State.relayRecv_within (sub_of h rfl) (fun u => ?_)
  split
  · exact .rfl
  · exact .ite (State.failUpd_within (sub_of h rfl)) (.ite (State.failUpd_within (sub_of h rfl)) (State.setSess_within (h (by decide))))

theorem execRelayEnd_runs {seq : ℕ} (h : execRelayChunkParts ⊆ L) :
    Runs L t (execRelayEnd seq t) := by
  unfold execRelayEnd
  refine .next ?_
  refine State.relayRecv_within (sub_of h rfl) (fun u => ?_)
  split
  · exact .rfl
  · extract_lets s
    have hs : Within L s u := State.setSess_within (h (by decide))
    exact .ite (State.failUpd_within (sub_of h rfl)) (.ite ((State.endLocal_within (sub_of h rfl)).trans hs) hs)

theorem execRelayReport_runs {seq : ℕ} {position : ℕ} {kind : ℕ} {result : ℕ} {imageId : ℕ} {slot : ℕ} {fw : ℕ} (h : execRelayChunkParts ⊆ L) :
    Runs L t (execRelayReport seq position kind result imageId slot fw t) := by
  unfold execRelayReport
  refine .next ?_
  refine State.relayRecv_within (sub_of h rfl) (fun u => ?_)
  extract_lets d d' src s s1 s2 s3
  have hs : Within L s u := .step (h (by decide)) (.por u _) .rfl
  have hs1 : Within L s1 u := .ite ((State.event_within (h (by decide)) (sub_of h rfl)).trans hs) hs
  have hs2 : Within L s2 u := .ite ((State.event_within (h (by decide)) (sub_of h rfl)).trans hs1) hs1
  have hs3 : Within L s3 u := (State.relaySend_within (sub_of h rfl)).trans hs2
  clear_value d d' src s s1 s2 s3
  split
  · exact .ite ((State.finishUpd_within (sub_of h rfl)).trans hs3) hs3
  · exact hs3

theorem State.takeSched_within {t1 : ℕ} {group : ℕ} {drainMs : ℕ} {slot : ℕ} (h : [.out, .por] ⊆ L) :
    Within L (State.takeSched t t1 group drainMs slot) t := by
  unfold State.takeSched
  extract_lets src s
  have hs : Within L s t := .step (h (by decide)) (.por t _) .rfl
  exact .ite ((State.relaySend_within h).trans hs) hs

theorem execUpdSchedule_runs {q : MbxReq} (h : [.out, .mgmt, .fns, .mbx, .ops, .por, .reg .CHR_ALERT_STATUS, .reg .MBX_EVENTS] ⊆ L) :
    Runs L t (execUpdSchedule q t) := by
  unfold execUpdSchedule
  extract_lets t1 g d slot
  clear_value t1 g d slot
  refine .next ?_
  refine State.serve_within (sub_of h rfl) (fun u => ?_)
  extract_lets st
  exact .ite (State.refuse_within (sub_of h rfl)) (.ite (State.refuse_within (sub_of h rfl)) ((State.respond_within (sub_of h rfl)).trans (State.takeSched_within (sub_of h rfl))))

end

end Sys2Proof.Machine
end

section
/-! SUPPORT. What each function of the model may change, function by function (7 of 7): registers, start-up, stripes and the commands of the die contexts. `X_within` says it
of the state that `X` answers with, `execX_runs` of the command, which also runs on. -/

namespace Sys2Proof.Machine

section
variable {L : List Part} {t : State}

theorem State.cancelSched_within {group : ℕ} (h : [.out, .por] ⊆ L) :
    Within L (State.cancelSched t group) t := by
  unfold State.cancelSched
  extract_lets src s
  have hs : Within L s t := .step (h (by decide)) (.por t _) .rfl
  exact .ite ((State.relaySend_within h).trans hs) hs

theorem execUpdCancel_runs {q : MbxReq} (h : [.out, .mgmt, .fns, .mbx, .ops, .por, .reg .CHR_ALERT_STATUS, .reg .MBX_EVENTS] ⊆ L) :
    Runs L t (execUpdCancel q t) := by
  unfold execUpdCancel
  extract_lets g
  clear_value g
  refine .next ?_
  refine State.serve_within (sub_of h rfl) (fun u => ?_)
  exact .ite (State.refuse_within (sub_of h rfl)) ((State.respond_within (sub_of h rfl)).trans (State.cancelSched_within (sub_of h rfl)))

theorem execRelaySchedule_runs {seq : ℕ} {t1 : ℕ} {group : ℕ} {drainMs : ℕ} {slot : ℕ} {imageId : ℕ} (h : execRelayReplayTimeoutParts ⊆ L) :
    Runs L t (execRelaySchedule seq t1 group drainMs slot imageId t) := by
  unfold execRelaySchedule
  extract_lets d
  clear_value d
  refine .next ?_
  refine State.relayRecv_within (sub_of h rfl) (fun u => ?_)
  extract_lets st s
  have hs : Within L s u := .ite (State.takeSched_within (sub_of h rfl)) (State.event_within (h (by decide)) (sub_of h rfl))
  exact .ite .rfl ((State.report_within (sub_of h rfl)).trans hs)

theorem execRelayCancel_runs {seq : ℕ} {group : ℕ} (h : [.out, .por, .reg .UPD_RELAY_CNT] ⊆ L) :
    Runs L t (execRelayCancel seq group t) := by
  unfold execRelayCancel
  refine .next ?_
  refine State.relayRecv_within h (fun u => ?_)
  exact .ite (State.cancelSched_within (sub_of h rfl)) .rfl

/-- What `State.startDrain` may change. -/
def startDrainParts : List Part :=
  abortTestParts ++ [.ctls, .cpls, .por, .reg .UPD_EVENTS]

theorem State.startDrain_within {x : Sched} (h : startDrainParts ⊆ L) :
    Within L (State.startDrain t x) t := by
  unfold State.startDrain
  extract_lets src src1 s s1
  have hs : Within L s t := .update [.plt, .por] (sub_of h rfl) .rfl rfl
  have hs1 : Within L s1 t := (Within.foldl fun u x => State.asyncEvent_within (sub_of h rfl)).trans ((State.abortTests_within (sub_of h rfl)).trans hs)
  exact (State.event_within (h (by decide)) (sub_of h rfl)).trans hs1

/-- What `State.endDrain` may change. -/
def endDrainParts : List Part :=
  closeShortParts ++ [.por]

theorem State.endDrain_within (h : endDrainParts ⊆ L) :
    Within L (State.endDrain t) t := by
  unfold State.endDrain
  extract_lets s src s1 src1
  have hs : Within L s t := State.closeAndSpill_within (sub_of h rfl)
  have hs1 : Within L s1 t := .step (h (by decide)) (.atl s _) hs
  clear_value s src s1 src1
  split
  · exact .rfl
  · exact .ite .rfl (.step (h (by decide)) (.por s1 _) hs1)

/-- What `execActivationDrain` may change. -/
def execActivationDrainParts : List Part :=
  startDrainParts ++ [.atl, .svy, .reg .PAR_EVENTS, .reg .PAR_JRNL_WM]

theorem execActivationDrain_runs (h : execActivationDrainParts ⊆ L) :
    Runs L t (execActivationDrain t) := by
  unfold execActivationDrain
  split
  · exact .next .rfl
  · refine .ite ?_ ?_
    · exact .next .rfl
    · refine .ite ?_ ?_
      · exact .next (State.endDrain_within (sub_of h rfl))
      · refine .ite ?_ ?_
        · exact .next .rfl
        · exact .next ((State.endDrain_within (sub_of h rfl)).trans (State.startDrain_within (sub_of h rfl)))

theorem execActivationRestart_runs (h : resetParts ⊆ L) :
    Runs L t (execActivationRestart t) := by
  unfold execActivationRestart
  refine .ite (.next .rfl) ?_
  extract_lets s src s1 late s2 u
  have hs : Within L s t := .ite .rfl (State.endDrain_within (sub_reset h (by decide)))
  have hs1 : Within L s1 t := by
    unfold s1
    split
    next o _ =>
      obtain ⟨v, e, hv⟩ := execStoreOperationEnd_runs (L := L) (t := { s with por := { s.por with op := some { o with suspended := false } } })
        (verified := true) (sub_reset h (by decide))
      rw [e]
      exact hv.trans (.step (mem_reset h (by decide)) (.por s _) hs)
    · exact hs
  have hs2 : Within L s2 t := .step (mem_reset h (by decide)) (.gaz s1 _) hs1
  have hu : Within L u t := (State.restart_within h).trans hs2
  exact .ite (.next hs) (.next (.ite ((State.event_within (mem_reset h (by decide)) (sub_reset h (by decide))).trans hu) hu))

theorem execTrialReset_runs (h : resetParts ⊆ L) :
    Runs L t (execTrialReset t) := by
  unfold execTrialReset
  extract_lets src s src1 s1
  have hs : Within L s t := State.setBootSlot_within (mem_reset h (by decide))
  have hs1 : Within L s1 t := .step (mem_reset h (by decide)) (.por s _) hs
  clear_value src s src1 s1
  refine .ite ?_ ?_
  · exact .next .rfl
  · exact .next ((State.restart_within h).trans hs1)

theorem State.writePltReserve_within {w : W32} (h : [.out, .gaz, .mgmt, .fns, .reg .PLT_EVENTS, .reg .PLT_RESERVE, .reg .CHR_ALERT_STATUS, .reg .GAZ_COUNTS] ⊆ L) :
    Within L (State.writePltReserve t w) t := by
  unfold State.writePltReserve
  exact .ite (State.cfgErr_within (sub_of h rfl) (sub_of h rfl)) (State.writeReg_within (sub_of h rfl))

theorem State.writePltRecon_within {g : ℕ} {w : W32} (h : [.out, .gaz, .mgmt, .fns, .reg .PLT_EVENTS, .reg .PLT_RECON, .reg .CHR_ALERT_STATUS, .reg .GAZ_COUNTS] ⊆ L) :
    Within L (State.writePltRecon t g w) t := by
  unfold State.writePltRecon
  extract_lets v
  exact .ite (State.cfgErr_within (sub_of h rfl) (sub_of h rfl)) (State.writeReg_within (sub_of h rfl))

/-- What `State.writePltLags` may change. -/
def writePltLagsParts : List Part :=
  recheckParts ++ [.reg .PLT_LAGS]

theorem State.writePltLags_within {w : W32} (h : writePltLagsParts ⊆ L) :
    Within L (State.writePltLags t w) t := by
  unfold State.writePltLags
  exact (State.recheck_within (sub_of h rfl)).trans (State.writeReg_within (sub_of h rfl))

theorem State.writeEnvelope_within {r : Reg} {k : ℕ} {w : W32} (h : .reg r :: cfgErrParts r ++ eventParts ⊆ L) (hs : .start ∈ L) :
    Within L (State.writeEnvelope t r k w) t := by
  have note : ∀ (u : State) a l, Within L (u.noteEnvelope a l) u := fun u a l => State.noteEnvelope_within hs
  unfold State.writeEnvelope
  extract_lets u
  have hu : Within L u t := State.writeReg_within h
  refine .ite hu ?_
  split
  · exact (note _ _ _).trans hu
  · exact (note _ _ _).trans hu

theorem State.writeSteer_within {j : ℕ} {w : W32} (h : [.out, .gaz, .mgmt, .fns, .reg .ATL_EVENTS, .reg .ATL_STEER, .reg .CHR_ALERT_STATUS, .reg .GAZ_COUNTS] ⊆ L) :
    Within L (State.writeSteer t j w) t := by
  unfold State.writeSteer
  exact .ite (State.cfgErr_within (sub_of h rfl) (sub_of h rfl)) (State.writeReg_within (sub_of h rfl))

theorem State.writeFreeWm_within {i : ℕ} {w : W32} (h : [.out, .gaz, .mgmt, .fns, .reg .SVY_MEDIA_EVENTS, .reg .SVY_FREE_WM, .reg .CHR_ALERT_STATUS, .reg .GAZ_COUNTS] ⊆ L) :
    Within L (State.writeFreeWm t i w) t := by
  unfold State.writeFreeWm
  extract_lets lv
  exact .ite (State.writeReg_within (sub_of h rfl)) (State.cfgErr_within (sub_of h rfl) (sub_of h rfl))

theorem State.writeVector_within {f : ℕ} {w : W32} (h : [.out, .gaz, .mgmt, .fns, .reg .CHR_ALERT_STATUS, .reg .GAZ_COUNTS, .reg .HST_FN_CTRL, .reg .HST_FN_EVENTS] ⊆ L) :
    Within L (State.writeVector t f w) t := by
  unfold State.writeVector
  exact .ite (State.writeReg_within (sub_of h rfl)) (State.cfgErr_within (sub_of h rfl) (sub_of h rfl))

theorem State.writePinCtl_within {w : W32} (h : [.out, .gaz, .mgmt, .fns, .reg .CHR_ALERT_STATUS, .reg .FLT_PIN_CTL, .reg .FLT_INJ_STATUS, .reg .GAZ_COUNTS] ⊆ L) :
    Within L (State.writePinCtl t w) t := by
  unfold State.writePinCtl
  extract_lets s
  have hs : Within L s t := State.writeReg_within (sub_of h rfl)
  exact .ite (State.cfgErr_within (sub_of h rfl) (sub_of h rfl)) (.ite ((State.rearm_within (h (by decide))).trans hs) hs)

/-- What `State.writeInjCtl` may change. -/
def writeInjCtlParts : List Part :=
  [.out, .flt, .gaz, .mgmt, .fns, .reg .CHR_ALERT_STATUS, .reg .FLT_INJ_CTL, .reg .FLT_INJ_STATUS, .reg .GAZ_COUNTS]

theorem State.writeInjCtl_within {k : ℕ} {w : W32} (h : writeInjCtlParts ⊆ L) :
    Within L (State.writeInjCtl t k w) t := by
  unfold State.writeInjCtl
  extract_lets s
  have hs : Within L s t := State.writeReg_within (sub_of h rfl)
  exact .ite (State.cfgErr_within (sub_of h rfl) (sub_of h rfl)) (.ite ((State.injectGo_within (sub_of h rfl)).trans hs) hs)

/-- What `State.writeRelayCfg` may change. -/
def writeRelayCfgParts : List Part :=
  [.out, .gaz, .mgmt, .fns, .por, .reg .CHR_ALERT_STATUS, .reg .GAZ_COUNTS, .reg .POR_EVENTS, .reg .UPD_RELAY_CFG, .reg .UPD_EVENTS]

theorem State.writeRelayCfg_within {w : W32} (h : writeRelayCfgParts ⊆ L) :
    Within L (State.writeRelayCfg t w) t := by
  unfold State.writeRelayCfg
  extract_lets s
  have hs : Within L s t := State.writeReg_within (sub_of h rfl)
  exact .ite hs ((State.linkLost_within (sub_of h rfl)).trans hs)

theorem State.commitBoard_within {k : ℕ} (h : [.out, .gaz, .mgmt, .fns, .por, .reg .CHR_ALERT_STATUS, .reg .GAZ_COUNTS, .reg .POR_EVENTS] ⊆ L) :
    Within L (State.commitBoard t k) t := by
  unfold State.commitBoard
  extract_lets b
  exact .ite .rfl (.ite (State.event_within (h (by decide)) (sub_of h rfl)) (State.writeCopy_within h))

theorem State.writeFlt_within {block : ℕ} {word : ℕ} {inst : ℕ} {w : W32} (h : faultParts ⊆ L) :
    Within L (State.writeFlt t block word inst w) t := by
  unfold State.writeFlt
  extract_lets u s
  have hs : Within L s t := .ite (State.clearCounts_within (h (by decide))) .rfl
  clear_value u s
  refine .ite ?_ ?_
  · exact .rfl
  · split
    · exact State.setUnit_within (h (by decide))
    · exact State.setUnit_within (h (by decide))
    · exact .ite ((State.softFence_within h).trans hs) hs

/-- A register may be written where every register may change. -/
theorem sub_writeReg {r : Reg} (h : resetParts ⊆ L) : .reg r :: cfgErrParts r ++ eventParts ⊆ L := by
  refine sub_reset h ?_
  have regs : ∀ p ∈ .reg r :: cfgErrParts r, p ≠ .pending ∧ p ≠ .now := by
    intro p hp
    obtain rfl | hp := List.mem_cons.1 hp
    · exact ⟨nofun, nofun⟩
    · obtain ⟨e, -, rfl⟩ := List.mem_map.1 hp
      exact ⟨nofun, nofun⟩
  have events : .pending ∉ eventParts ∧ .now ∉ eventParts := by decide
  exact ⟨fun hp => (List.mem_append.1 hp).elim (fun hp => (regs _ hp).1 rfl) events.1,
    fun hp => (List.mem_append.1 hp).elim (fun hp => (regs _ hp).2 rfl) events.2⟩

theorem State.writeAny_within {k : ℕ} {r : Reg} {i : ℕ} {w : W32} (h : resetParts ⊆ L) :
    Within L (State.writeAny t k r i w) t := by
  have reg : ∀ (q : Reg) j, Within L (t.writeReg q j w) t := fun q j => State.writeReg_within (sub_writeReg h)
  unfold State.writeAny
  split
  · exact State.writePltReserve_within (sub_reset h (by decide))
  · exact State.writePltRecon_within (sub_reset h (by decide))
  · exact State.writePltLags_within (sub_reset h (by decide))
  · exact State.writeEnvelope_within (sub_writeReg h) (mem_reset h (by decide))
  · exact State.writeEnvelope_within (sub_writeReg h) (mem_reset h (by decide))
  · exact State.writeSteer_within (sub_reset h (by decide))
  · exact State.writeFreeWm_within (sub_reset h (by decide))
  · exact .ite (State.applyTargets_within (sub_reset h (by decide))) .rfl
  · exact State.writePinCtl_within (sub_reset h (by decide))
  · exact State.writeInjCtl_within (sub_reset h (by decide))
  all_goals first | exact reg _ _ | skip
  · exact .ite (State.commitBoard_within (sub_reset h (by decide))) .rfl
  · exact State.writeRelayCfg_within (sub_reset h (by decide))
  · exact State.writeVector_within (sub_reset h (by decide))
  · extract_lets s
    have hs : Within L s t := .ite (State.respDone_within (sub_reset h (by decide))) .rfl
    exact .ite ((State.ring_within (sub_reset h (by decide))).trans hs) hs

theorem State.writeDcs_within {k : ℕ} {offset : ℕ} {w : W32} (h : resetParts ⊆ L) :
    Within L (State.writeDcs t k offset w) t := by
  unfold State.writeDcs
  refine .ite ?_ ?_
  · exact .rfl
  · split
    · exact State.writeAny_within h
    · split
      · exact .ite (State.writeFlt_within (sub_reset h (by decide))) .rfl
      · exact .rfl

theorem State.writeVia_within {via : RegVia} {w : W32} (h : resetParts ⊆ L) :
    Within L (State.writeVia t via w) t := by
  unfold State.writeVia
  split
  · exact State.writeDcs_within h
  · refine .ite ?_ ?_
    · exact .rfl
    · refine .ite ?_ ?_
      · split
        · exact State.writeAny_within h
        · exact .rfl
      · split
        · exact State.writeDcs_within h
        · exact .rfl

theorem State.readRc_within {k : ℕ} {r : Reg} {i : ℕ} (h : [.out, .reg r] ⊆ L) : Within L (State.readRc t k r i) t := by
  have ho : [.out] ⊆ L := fun p hp => h (List.mem_cons.2 (.inl (List.mem_singleton.1 hp)))
  have hr : [.reg r] ⊆ L := fun p hp => h (List.mem_cons_of_mem _ hp)
  unfold State.readRc
  exact .ite (State.emit_within ho) ((State.setReg_within hr).trans (State.emit_within ho))

theorem State.latchTime_within (h : .dat ∈ L) :
    Within L (State.latchTime t) t := by
  unfold State.latchTime
  extract_lets hi src
  exact .step h (.dat t _) .rfl

theorem State.readReg_within {k : ℕ} {r : Reg} {i : ℕ} (h : [.out, .reg r, .dat] ⊆ L) : Within L (State.readReg t k r i) t := by
  have hrc : [.out, .reg r] ⊆ L := fun p hp => h (by
    obtain rfl | hp := List.mem_cons.1 hp
    · exact .head _
    · exact .tail _ (List.mem_cons.2 (.inl (List.mem_singleton.1 hp))))
  have hdat : .dat ∈ L := h (.tail _ (.tail _ (.head _)))
  unfold State.readReg
  exact (State.readRc_within hrc).trans (.ite (State.latchTime_within hdat) .rfl)

/-- A register may be read where every register may change. -/
theorem sub_readReg {r : Reg} (h : resetParts ⊆ L) : [.out, .reg r, .dat] ⊆ L := by
  intro p hp
  refine mem_reset h ?_
  rcases List.mem_cons.1 hp with rfl | hp
  · decide
  rcases List.mem_cons.1 hp with rfl | hp
  · exact ⟨nofun, nofun⟩
  · obtain rfl := List.mem_singleton.1 hp
    decide

theorem State.readDcs_within {k o : ℕ} (h : resetParts ⊆ L) : Within L (State.readDcs t k o) t := by
  have emit : ∀ (u : State) v, Within L (u.emit v) u := fun u v => State.emit_within (sub_reset h (by decide))
  unfold State.readDcs
  refine .ite (emit _ _) ?_
  split
  · exact .ite (State.readReg_within (sub_readReg h)) (emit _ _)
  · split
    · exact emit _ _
    · exact emit _ _

theorem State.readGaz_within {f : ℕ} {offset : ℕ} (h : [.out, .fns] ⊆ L) :
    Within L (State.readGaz t f offset) t := by
  unfold State.readGaz
  extract_lets i
  exact .ite (State.latchGaz_within h) (State.emit_within (sub_of h rfl))

theorem execCommit_runs {path : Path} (h : [.out, .gaz, .mgmt, .fns, .por, .reg .CHR_ALERT_STATUS, .reg .GAZ_COUNTS, .reg .POR_EVENTS] ⊆ L) :
    Runs L t (execCommit path t) := by
  unfold execCommit
  exact .next (State.commitBoard_within h)

theorem execAtlSteerWrite_runs {j : ℕ} {value : BitVec 32} (h : [.out, .gaz, .mgmt, .fns, .reg .ATL_EVENTS, .reg .ATL_STEER, .reg .CHR_ALERT_STATUS, .reg .GAZ_COUNTS] ⊆ L) :
    Runs L t (execAtlSteerWrite j value t) := by
  unfold execAtlSteerWrite
  exact .next (.ite (State.writeSteer_within h) .rfl)

theorem execPltReserveWrite_runs {value : BitVec 32} (h : [.out, .gaz, .mgmt, .fns, .reg .PLT_EVENTS, .reg .PLT_RESERVE, .reg .CHR_ALERT_STATUS, .reg .GAZ_COUNTS] ⊆ L) :
    Runs L t (execPltReserveWrite value t) := by
  unfold execPltReserveWrite
  exact .next (State.writePltReserve_within h)

theorem execPltLagsWrite_runs {value : BitVec 32} (h : writePltLagsParts ⊆ L) :
    Runs L t (execPltLagsWrite value t) := by
  unfold execPltLagsWrite
  exact .next (State.writePltLags_within h)

theorem execSvyFreeWmWrite_runs {wm : ℕ} {value : BitVec 32} (h : [.out, .gaz, .mgmt, .fns, .reg .SVY_MEDIA_EVENTS, .reg .SVY_FREE_WM, .reg .CHR_ALERT_STATUS, .reg .GAZ_COUNTS] ⊆ L) :
    Runs L t (execSvyFreeWmWrite wm value t) := by
  unfold execSvyFreeWmWrite
  exact .next (.ite (State.writeFreeWm_within h) .rfl)

theorem execFchCfgWrite_runs {ch : ℕ} {value : BitVec 32} (h : [.out, .gaz, .mgmt, .fns, .reg .FCH_CFG, .reg .FCH_EVENTS, .reg .CHR_ALERT_STATUS, .reg .GAZ_COUNTS] ⊆ L) :
    Runs L t (execFchCfgWrite ch value t) := by
  unfold execFchCfgWrite
  exact .next (.ite (State.writeReg_within (sub_of h rfl)) .rfl)

theorem execTrvPollWrite_runs {value : BitVec 32} (h : [.out, .gaz, .mgmt, .fns, .reg .FCH_EVENTS, .reg .TRV_POLL, .reg .CHR_ALERT_STATUS, .reg .GAZ_COUNTS] ⊆ L) :
    Runs L t (execTrvPollWrite value t) := by
  unfold execTrvPollWrite
  exact .next (State.writeReg_within (sub_of h rfl))

theorem execShbIndWrite_runs {bay : ℕ} {value : BitVec 32} (h : [.out, .gaz, .mgmt, .fns, .reg .SHB_IND, .reg .CHR_ALERT_STATUS, .reg .GAZ_COUNTS] ⊆ L) :
    Runs L t (execShbIndWrite bay value t) := by
  unfold execShbIndWrite
  exact .next (.ite (State.writeReg_within (sub_of h rfl)) .rfl)

theorem execMbxVectorWrite_runs {fn : ℕ} {value : BitVec 32} (h : [.out, .gaz, .mgmt, .fns, .reg .CHR_ALERT_STATUS, .reg .GAZ_COUNTS, .reg .HST_FN_CTRL, .reg .HST_FN_EVENTS] ⊆ L) :
    Runs L t (execMbxVectorWrite fn value t) := by
  unfold execMbxVectorWrite
  exact .next (.ite (State.writeVector_within h) .rfl)

theorem execRegisterWrite_runs {via : RegVia} {bytes : ℕ} {value : BitVec 32} (h : resetParts ⊆ L) :
    Runs L t (execRegisterWrite via bytes value t) := by
  unfold execRegisterWrite
  refine .ite ?_ ?_
  · split
    · refine .ite ?_ ?_
      · exact .next (State.event_within (mem_reset h (by decide)) (sub_reset h (by decide)))
      · exact .next .rfl
    · exact .next .rfl
  · exact .next (State.writeVia_within h)

theorem execRcFieldRead_runs {via : RegVia} (h : resetParts ⊆ L) : Runs L t (execRcFieldRead via t) := by
  have emit : ∀ (u : State) v, Within L (u.emit v) u := fun u v => State.emit_within (sub_reset h (by decide))
  unfold execRcFieldRead
  split
  · exact .next (State.readDcs_within h)
  · refine .ite (.next .rfl) (.ite (.next (State.readGaz_within (sub_reset h (by decide)))) (.ite ?_ ?_))
    · split
      · exact .next (State.readReg_within (sub_readReg h))
      · exact .next (emit _ _)
    · split
      · exact .next (State.readDcs_within h)
      · exact .next (emit _ _)

theorem execDatTimeLoRead_runs {path : Path} (h : [.out, .dat] ⊆ L) :
    Runs L t (execDatTimeLoRead path t) := by
  unfold execDatTimeLoRead
  refine .ite ?_ ?_
  · exact .next (State.emit_within (sub_of h rfl))
  · exact .next ((State.emit_within (sub_of h rfl)).trans (State.latchTime_within (h (by decide))))

/-- What `execStripeOpen` may change. -/
def execStripeOpenParts : List Part :=
  [.out, .gaz, .mgmt, .fns, .svy, .par, .reg .PAR_JRNL_WM, .reg .CHR_ALERT_STATUS, .reg .GAZ_COUNTS]

theorem execStripeOpen_runs {band : ℕ} {row : ℕ} (h : execStripeOpenParts ⊆ L) :
    Runs L t (execStripeOpen band row t) := by
  unfold execStripeOpen
  extract_lets x n h1 src s
  have hs : Within L s t := .step (h (by decide)) (.par t _) .rfl
  clear_value x n h1 src s
  refine .ite ?_ ?_
  · exact .next .rfl
  · split
    · exact .next .rfl
    · exact .next ((State.setBand_within (h (by decide))).trans ((State.setJslot_within (sub_of h rfl)).trans hs))

theorem State.pushProgram_within {d : ℕ} (h : .plt ∈ L) :
    Within L (State.pushProgram t d) t := by
  unfold State.pushProgram
  exact .ite .rfl (State.pushOp_within h)

/-- What `execFold` may change. -/
def execFoldParts : List Part :=
  [.out, .gaz, .mgmt, .fns, .plt, .atl, .par, .reg .PAR_JRNL_WM, .reg .CHR_ALERT_STATUS, .reg .GAZ_COUNTS]

theorem execFold_runs {slot : ℕ} {sheet : ℕ} {data : List ℕ} {from_ : List ℕ} (h : execFoldParts ⊆ L) :
    Runs L t (execFold slot sheet data from_ t) := by
  unfold execFold
  extract_lets x c p q y y1 s
  have hs : Within L s t := by
    unfold s
    refine Within.foldl fun u x1 => ?_
    split
    · exact State.setStage_within (h (by decide))
    · exact .rfl
  clear_value x c p q y y1 s
  refine .ite ?_ ?_
  · exact .next .rfl
  · exact .next ((State.pushProgram_within (h (by decide))).trans ((State.emit_within (sub_of h rfl)).trans ((State.setJslot_within (sub_of h rfl)).trans hs)))

theorem execParityProgram_runs {slot : ℕ} (h : closeShortParts ⊆ L) :
    Runs L t (execParityProgram slot t) := by
  unfold execParityProgram
  extract_lets x l y s
  have hs : Within L s t := State.setJslot_within (sub_of h rfl)
  clear_value x l y s
  refine .ite ?_ ?_
  · exact .next .rfl
  · refine .ite ?_ ?_
    · exact .next ((State.rowDone_within h).trans (State.setJslot_within (sub_of h rfl)))
    · refine .next ?_
      refine (Within.foldl fun u x1 => ?_).trans ?_
      · extract_lets d
        exact State.pushOp_within (h (by decide))
      · exact hs

theorem execReconstruct_runs {band : ℕ} {row : ℕ} {data : List (List ℕ)} {erased : List ℕ} (h : rowLostParts ⊆ L) :
    Runs L t (execReconstruct band row data erased t) := by
  unfold execReconstruct
  extract_lets x pad era dataSheets
  clear_value x pad era dataSheets
  refine .ite ?_ ?_
  · exact .next .rfl
  · refine .ite ?_ ?_
    · exact .next (State.rowLost_within h)
    · exact .next (Within.foldl fun u x => State.emit_within (sub_of h rfl))

theorem execLayoutChange_runs {present : ℕ} {usable : ℕ} (h : layoutParts ⊆ L) :
    Runs L t (execLayoutChange present usable t) := by
  unfold execLayoutChange
  extract_lets u gone src s s1
  have hs : Within L s t := .step (h (by decide)) (.par t _) .rfl
  have hs1 : Within L s1 t := (State.rebuildAfter_within (sub_of h rfl)).trans hs
  clear_value u gone src s s1
  refine .ite ?_ ?_
  · exact .next .rfl
  · exact .next ((State.recheck_within (sub_of h rfl)).trans ((State.layoutStep_within (sub_of h rfl)).trans hs1))

/-- What `execReshapeAdvance` may change. -/
def execReshapeAdvanceParts : List Part :=
  [.out, .gaz, .mgmt, .fns, .plt, .atl, .svy, .par, .reg .PAR_EVENTS, .reg .CHR_ALERT_STATUS, .reg .GAZ_COUNTS]

theorem execReshapeAdvance_runs (h : execReshapeAdvanceParts ⊆ L) :
    Runs L t (execReshapeAdvance t) := by
  unfold execReshapeAdvance
  extract_lets src
  clear_value src
  refine .ite ?_ ?_
  · exact .next .rfl
  · refine .ite ?_ ?_
    · refine .ite ?_ ?_
      · exact .next (.step (h (by decide)) (.par t _) .rfl)
      · exact .next ((State.event_within (h (by decide)) (sub_of h rfl)).trans (.step (h (by decide)) (.par t _) .rfl))
    · refine .ite ?_ ?_
      · exact .next (.step (h (by decide)) (.par t _) .rfl)
      · split
        · exact .next .rfl
        · extract_lets n src1 s src2
          have hs : Within L s t := (State.drainIf_within (sub_of h rfl)).trans ((State.unqueue_within (h (by decide))).trans (State.moveBand_within (sub_of h rfl)))
          clear_value n src1 s src2
          exact .next (.step (h (by decide)) (.plt s _) hs)

/-- What `State.leaveSheet` may change. -/
def leaveSheetParts : List Part :=
  layoutStepParts ++ [.reg .PAR_JRNL_WM]

theorem State.leaveSheet_within {sheet : ℕ} (h : leaveSheetParts ⊆ L) :
    Within L (State.leaveSheet t sheet) t := by
  unfold State.leaveSheet
  extract_lets src s s1 src1 s2 s3 src2
  have hs : Within L s t := .step (h (by decide)) (.par t _) .rfl
  have hs1 : Within L s1 t := (State.spillAll_within (sub_of h rfl)).trans ((State.rebuildAfter_within (sub_of h rfl)).trans ((State.layoutStep_within (sub_of h rfl)).trans hs))
  have hs2 : Within L s2 t := .step (h (by decide)) (.atl s1 _) hs1
  have hs3 : Within L s3 t := (State.mapPass_within (sub_of h rfl)).trans ((State.mapPass_within (sub_of h rfl)).trans hs2)
  exact .step (h (by decide)) (.atl s3 _) hs3

/-- What `execEvacuation` may change. -/
def execEvacuationParts : List Part :=
  layoutParts ++ [.fch, .bays, .reg .SHB_IND]

theorem execEvacuation_runs {sheet : ℕ} (h : execEvacuationParts ⊆ L) :
    Runs L t (execEvacuation sheet t) := by
  unfold execEvacuation
  extract_lets s src s1
  have hs : Within L s t := .ite (State.leaveSheet_within (sub_of h rfl)) .rfl
  have hs1 : Within L s1 t := (State.event_within (h (by decide)) (sub_of h rfl)).trans (.step (h (by decide)) (.par s _) hs)
  clear_value s src s1
  refine .ite ?_ ?_
  · exact .next .rfl
  · refine .ite ?_ ?_
    · exact .next ((State.recheck_within (sub_of h rfl)).trans hs)
    · exact .next ((State.recheck_within (sub_of h rfl)).trans (.ite ((State.toBay_within (sub_of h rfl)).trans hs1) hs1))

theorem State.queueTest_within {t1 : Test} (h : startTestsParts ⊆ L) :
    Within L (State.queueTest t t1) t := by
  unfold State.queueTest
  exact (State.startQueued_within h).trans (.step (h (by decide)) (.srv t _) .rfl)

/-- What `execSurveyStart` may change. -/
def execSurveyStartParts : List Part :=
  startTestsParts ++ [.classes, .mbx, .ops, .nextHandle, .dram, .reg .PLT_FLOOR_RD, .reg .PLT_FLOOR_WR, .reg .HST_PROMISE_EVENTS, .reg .MBX_EVENTS]

theorem execSurveyStart_runs {q : MbxReq} {conditions : Bool} {sibling : Bool} (h : execSurveyStartParts ⊆ L) :
    Runs L t (execSurveyStart q conditions sibling t) := by
  unfold execSurveyStart
  extract_lets b i test opts
  clear_value b i test opts
  refine .next ?_
  refine State.serve_within (sub_of h rfl) (fun u => ?_)
  extract_lets l
  have hl : Within L l.2 u := (State.startLong_within (sub_of h rfl)).trans (State.toService_within (sub_of h rfl))
  exact .ite (State.refuse_within (sub_of h rfl)) (.ite (State.refuse_within (sub_of h rfl)) (.ite (State.refuse_within (sub_of h rfl)) (.ite (State.refuse_within (sub_of h rfl)) (.ite (State.refuse_within (sub_of h rfl)) (.ite (State.refuse_within (sub_of h rfl)) ((State.queueTest_within (sub_of h rfl)).trans hl))))))

theorem execReferenceWindowEnd_runs {count : ℕ} (h : .srv ∈ L) :
    Runs L t (execReferenceWindowEnd count t) := by
  unfold execReferenceWindowEnd
  extract_lets src
  clear_value src
  exact .next (.step h (.srv t _) .rfl)

theorem execInServiceTestDue_runs {block : ℕ} {inst : ℕ} (h : startTestsParts ⊆ L) :
    Runs L t (execInServiceTestDue block inst t) := by
  unfold execInServiceTestDue
  extract_lets n forced mine old src s
  have hs : Within L s t := .step (h (by decide)) (.srv t _) .rfl
  clear_value n forced mine old src s
  refine .ite ?_ ?_
  · exact .next .rfl
  · refine .ite ?_ ?_
    · refine .ite ?_ ?_
      · exact .next .rfl
      · exact .next ((State.startQueued_within h).trans hs)
    · refine .ite ?_ ?_
      · exact .next .rfl
      · exact .next (State.queueTest_within h)

theorem State.repairs_within {t1 : Test} {r : TestResult} {pass : Bool} (h : [.out, .gaz, .mgmt, .fns, .srv, .reg .CHR_ALERT_STATUS, .reg .GAZ_COUNTS, .reg .SRV_EVENTS] ⊆ L) :
    Within L (State.repairs t t1 r pass) t := by
  unfold State.repairs
  extract_lets s d left want burn s1 s2 done src
  have hs : Within L s t := State.event_within (h (by decide)) (sub_of h rfl)
  have hs1 : Within L s1 t := .ite ((State.event_within (h (by decide)) (sub_of h rfl)).trans hs) hs
  have hs2 : Within L s2 t := .ite ((State.event_within (h (by decide)) (sub_of h rfl)).trans hs1) hs1
  exact .ite .rfl (.step (h (by decide)) (.srv s2 _) hs2)

/-- What `State.tilesReturn` may change. -/
def tilesReturnParts : List Part :=
  [.out, .gaz, .mgmt, .fns, .til, .reg .TIL_POOL_TGT, .reg .TIL_POOL_WM, .reg .CHR_ALERT_STATUS, .reg .GAZ_COUNTS]

theorem State.tilesReturn_within (h : tilesReturnParts ⊆ L) :
    Within L (State.tilesReturn t) t := by
  unfold State.tilesReturn
  extract_lets l tiles src s s1
  have hs : Within L s t := .step (h (by decide)) (.til t _) .rfl
  have hs1 : Within L s1 t := (State.setFld_within (h (by decide))).trans hs
  clear_value l tiles src s s1
  split
  · exact .rfl
  · exact (State.setTPool_within (sub_of h rfl)).trans hs1

/-- What `State.verdict` may change. -/
def verdictParts : List Part :=
  faultParts ++ [.reg .TIL_POOL_TGT]

theorem State.verdict_within {t1 : Test} {pass : Bool} (h : verdictParts ⊆ L) :
    Within L (State.verdict t t1 pass) t := by
  unfold State.verdict
  extract_lets was s src s1 s2 src1
  have hs : Within L s t := .ite .rfl ((State.returnHome_within (sub_of h rfl)).trans (State.unisolate_within (sub_of h rfl)))
  have hs1 : Within L s1 t := .step (h (by decide)) (.srv s _) hs
  have hs2 : Within L s2 t := .ite ((State.tilesReturn_within (sub_of h rfl)).trans hs1) hs1
  exact .ite (.ite ((State.setDram_within (h (by decide))).trans hs2) hs2) (.ite hs ((State.raiseAt_within (sub_of h rfl)).trans hs))

theorem State.requalified_within {t1 : Test} {pass : Bool} (h : faultParts ⊆ L) :
    Within L (State.requalified t t1 pass) t := by
  unfold State.requalified
  extract_lets u s s1 u1 s2 src s3 src1 s4
  have hs : Within L s t := State.setUnit_within (h (by decide))
  have hs1 : Within L s1 t := (State.unisolate_within (sub_of h rfl)).trans hs
  have hs2 : Within L s2 t := (State.setUnit_within (h (by decide))).trans hs1
  have hs3 : Within L s3 t := .step (h (by decide)) (.srv s2 _) hs2
  have hs4 : Within L s4 t := .ite ((State.layoutStep_within (sub_of h rfl)).trans ((State.setChan_within (h (by decide))).trans hs3)) hs3
  exact .ite ((State.record_within (sub_of h rfl)).trans ((State.returnHome_within (sub_of h rfl)).trans hs4)) ((State.raiseAt_within h).trans hs1)

theorem execTestEnd_runs {block : ℕ} {inst : ℕ} {r : TestResult} (h : verdictParts ⊆ L) :
    Runs L t (execTestEnd block inst r t) := by
  unfold execTestEnd
  extract_lets src
  clear_value src
  split
  · exact .next .rfl
  · extract_lets s pass s1 s2 s3 s4 s5
    have hs : Within L s t := .step (h (by decide)) (.srv t _) .rfl
    have hs1 : Within L s1 t := .step (h (by decide)) (.srv t _) .rfl
    have hs2 : Within L s2 t := (State.lastTest_within (sub_of h rfl)).trans ((State.repairs_within (sub_of h rfl)).trans hs1)
    have hs3 : Within L s3 t := (State.event_within (h (by decide)) (sub_of h rfl)).trans hs2
    have hs4 : Within L s4 t := .ite hs3 ((State.event_within (h (by decide)) (sub_of h rfl)).trans hs3)
    have hs5 : Within L s5 t := .ite ((State.opDone_within (sub_of h rfl)).trans ((State.requalified_within (sub_of h rfl)).trans hs4)) ((State.opDone_within (sub_of h rfl)).trans ((State.verdict_within h).trans hs4))
    clear_value s pass s1 s2 s3 s4 s5
    refine .ite ?_ ?_
    · refine .ite ?_ ?_
      · exact .next ((State.startQueued_within (sub_of h rfl)).trans ((State.event_within (h (by decide)) (sub_of h rfl)).trans ((State.lastTest_within (sub_of h rfl)).trans hs)))
      · exact .next ((State.startQueued_within (sub_of h rfl)).trans (State.abortTest_within (sub_of h rfl)))
    · exact .next ((State.startQueued_within (sub_of h rfl)).trans hs5)

theorem State.readCopies_within (h : [.out, .gaz, .mgmt, .fns, .por, .reg .CHR_ALERT_STATUS, .reg .GAZ_COUNTS, .reg .POR_EVENTS] ⊆ L) :
    Within L (State.readCopies t) t := by
  unfold State.readCopies
  exact (State.checkCopy_within h).trans ((State.checkCopy_within h).trans (State.checkCopy_within h))

theorem State.boardTiles_within {b : List ℕ} (h : tileFreedParts ⊆ L) :
    Within L (State.boardTiles t b) t := by
  unfold State.boardTiles
  extract_lets tgt s
  have hs : Within L s t := Within.foldl fun u x => State.setFld_within (h (by decide))
  exact .ite .rfl ((State.applyTargets_within (sub_of h rfl)).trans hs)

/-- What `State.applyBoard` may change. -/
def applyBoardParts : List Part :=
  tileFreedParts ++ [.reg .SVY_UPKEEP_CFG, .reg .POR_CFG_DATA, .reg .UPD_RELAY_CFG, .reg .HST_FN_INFO]

theorem State.applyBoard_within {b : List ℕ} (h : applyBoardParts ⊆ L) :
    Within L (State.applyBoard t b) t := by
  unfold State.applyBoard
  extract_lets s src s1 s2 s3
  have hs : Within L s t := by
    unfold s
    refine Within.foldl fun u x => ?_
    extract_lets w s4
    have hs4 : Within L s4 u := State.setFld_within (h (by decide))
    exact .ite ((State.setFld_within (h (by decide))).trans hs4) hs4
  have hs1 : Within L s1 t := .step (h (by decide)) (.mgmt s _) hs
  have hs2 : Within L s2 t := (State.setFld_within (h (by decide))).trans ((State.setFld_within (h (by decide))).trans hs1)
  have hs3 : Within L s3 t := (State.boardTiles_within (sub_of h rfl)).trans (.ite ((State.setFld_within (h (by decide))).trans hs2) ((State.setFld_within (h (by decide))).trans hs2))
  exact (Within.foldl fun u x => State.setReg_within (sub_of h rfl)).trans hs3

theorem State.firstBoot_within {env : StartEnv} {a : List ℕ} (h : [.out, .gaz, .mgmt, .por, .reg .CHR_ALERT_STATUS, .reg .GAZ_COUNTS] ⊆ L) :
    Within L (State.firstBoot t env a).1 t := by
  induction a generalizing t env with
  | nil =>
    exact .rfl
  | cons a l ih =>
    rw [State.firstBoot]
    extract_lets src
    clear_value src
    split
    · exact ih
    · split
      · dsimp -zeta only
        exact .rfl
      · exact (ih).trans ((State.record_within (sub_of h rfl)).trans (State.setBootSlot_within (h (by decide))))

theorem State.select_within {env : StartEnv} (h : [.out, .gaz, .mgmt, .fns, .por, .reg .CHR_ALERT_STATUS, .reg .GAZ_COUNTS, .reg .UPD_EVENTS] ⊆ L) :
    Within L (State.select t env) t := by
  unfold State.select
  extract_lets r s src
  have hr : Within L r.1 t := State.firstBoot_within (sub_of h rfl)
  have hs : Within L s t := hr
  clear_value r s src
  split
  · extract_lets p
    exact .ite (.step (h (by decide)) (.por s _) hs) ((State.event_within (h (by decide)) (sub_of h rfl)).trans (.step (h (by decide)) (.por s _) hs))
  · exact .step (h (by decide)) (.por s _) hs

/-- What `State.toRomRecovery` may change. -/
def toRomRecoveryParts : List Part :=
  [.out, .gaz, .mgmt, .pwr, .fns, .por, .start, .reg .PWR_EVENTS, .reg .CHR_ALERT_STATUS, .reg .GAZ_COUNTS]

theorem State.toRomRecovery_within (h : toRomRecoveryParts ⊆ L) :
    Within L (State.toRomRecovery t) t := by
  unfold State.toRomRecovery
  extract_lets s src src1
  have hs : Within L s t := State.toMode_within (h (by decide)) (h (by decide)) (sub_of h rfl)
  exact .update [.por, .start] (sub_of h rfl) hs rfl

theorem State.bootSched_within (h : .por ∈ L) :
    Within L (State.bootSched t) t := by
  unfold State.bootSched
  extract_lets src
  clear_value src
  split
  · exact .rfl
  · exact .ite (.step h (.por t _) .rfl) (.step h (.por t _) .rfl)

/-- What `State.trainDram` may change. -/
def trainDramParts : List Part :=
  faultParts ++ [.reg .DRC_CFG]

theorem State.trainDram_within {env : StartEnv} {limit : ℕ} (h : trainDramParts ⊆ L) :
    Within L (State.trainDram t env limit) t := by
  unfold State.trainDram
  extract_lets s s1
  have hs : Within L s t := (State.setFld_within (h (by decide))).trans (State.setFld_within (h (by decide)))
  have hs1 : Within L s1 t := (State.setFld_within (h (by decide))).trans ((State.setFld_within (h (by decide))).trans hs)
  clear_value s s1
  refine (Within.foldl fun u x => ?_).trans ?_
  · extract_lets x1 s2
    have hs2 : Within L s2 u := State.setDram_within (h (by decide))
    exact .ite hs2 ((State.raiseAt_within (sub_of h rfl)).trans hs2)
  · exact hs1

theorem State.loadPatch_within {k : ℕ} {p : Option Patch} (h : [.out, .gaz, .mgmt, .trv, .reg .CHR_ALERT_STATUS, .reg .GAZ_COUNTS] ⊆ L) :
    Within L (State.loadPatch t k p) t := by
  unfold State.loadPatch
  extract_lets build put
  have hput : ∀ a0 a1, Within L (put a0 a1) a0 := by
    intro a0 a1
    unfold put
    exact .step (h (by decide)) (.trv a0 _) .rfl
  clear_value build put
  split
  · exact .ite (hput _ _) ((State.record_within (sub_of h rfl)).trans (hput _ _))
  · exact hput _ _

theorem State.startFirmware_within {env : StartEnv} (h : [.out, .gaz, .mgmt, .trv, .reg .CHR_ALERT_STATUS, .reg .GAZ_COUNTS] ⊆ L) :
    Within L (State.startFirmware t env) t := by
  unfold State.startFirmware
  extract_lets s
  have hs : Within L s t := Within.foldl fun u x => State.loadPatch_within h
  exact (State.record_within (sub_of h rfl)).trans hs

theorem State.bringUpSurvey_within {env : StartEnv} (h : faultParts ⊆ L) :
    Within L (State.bringUpSurvey t env) t := by
  unfold State.bringUpSurvey
  exact Within.foldl fun u x => State.raiseAt_within h

theorem State.startBays_within (h : bayParts ⊆ L) :
    Within L (State.startBays t) t := by
  unfold State.startBays
  refine Within.foldl fun u x => ?_
  extract_lets x1 src
  exact .ite (State.setBay_within (h (by decide))) (.ite ((State.toBay_within h).trans ((State.setBay_within (h (by decide))).trans (.ite (State.toBay_within h) .rfl))) .rfl)

theorem State.atStep_within {n : ℕ} (h : .start ∈ L) :
    Within L (State.atStep t n) t := by
  unfold State.atStep
  exact .step h (.start t _) .rfl

theorem State.lockAgain_within (h : .cip ∈ L) :
    Within L (State.lockAgain t) t := by
  unfold State.lockAgain
  exact .ite (.step h (.cip t _) .rfl) .rfl

theorem State.startCapTest_within (h : .pwr ∈ L) :
    Within L (State.startCapTest t) t := by
  unfold State.startCapTest
  exact .step h (.pwr t _) .rfl

theorem State.startDram_within {env : StartEnv} {limit : ℕ} (h : trainDramParts ⊆ L) :
    Within L (State.startDram t env limit) t := by
  unfold State.startDram
  exact .ite (.step (h (by decide)) (.dram t _) .rfl) (State.trainDram_within h)

/-- What `State.startImage` may change. -/
def startImageParts : List Part :=
  trainDramParts ++ [.ctr]

theorem State.startImage_within {env : StartEnv} {limit : ℕ} (h : startImageParts ⊆ L) :
    Within L (State.startImage t env limit) t := by
  unfold State.startImage
  extract_lets src s s1 s2 s3
  have hs : Within L s t := .step (h (by decide)) (.start t _) .rfl
  have hs1 : Within L s1 t := (State.atStep_within (h (by decide))).trans ((State.startDram_within (sub_of h rfl)).trans hs)
  have hs2 : Within L s2 t := (State.bringUpSurvey_within (sub_of h rfl)).trans ((State.startFirmware_within (sub_of h rfl)).trans hs1)
  have hs3 : Within L s3 t := (State.startBays_within (sub_of h rfl)).trans ((State.atStep_within (h (by decide))).trans ((State.startCapTest_within (h (by decide))).trans ((State.contourStart_within (h (by decide))).trans hs2)))
  exact (State.report_within (sub_of h rfl)).trans hs3

/-- What `State.startEarly` may change. -/
def startEarlyParts : List Part :=
  startImageParts ++ [.reg .SVY_UPKEEP_CFG, .reg .TIL_CTRL, .reg .TIL_EVENTS, .reg .TIL_POOL_TGT, .reg .POR_EVENTS, .reg .POR_CFG_DATA, .reg .UPD_RELAY_CFG, .reg .UPD_EVENTS, .reg .HST_FN_INFO]

theorem State.startEarly_within {env : StartEnv} (h : startEarlyParts ⊆ L) :
    Within L (State.startEarly t env) t := by
  unfold State.startEarly
  extract_lets s b s1 s2
  have hs : Within L s t := (State.readCopies_within (sub_of h rfl)).trans (State.lockAgain_within (mem_of h rfl))
  have hs1 : Within L s1 t := (State.applyBoard_within (sub_of h rfl)).trans hs
  have hs2 : Within L s2 t := (State.select_within (sub_of h rfl)).trans ((State.bootSched_within (mem_of h rfl)).trans hs1)
  exact .ite ((State.toRomRecovery_within (sub_of h rfl)).trans hs1) (.ite ((State.toRomRecovery_within (sub_of h rfl)).trans hs2) ((State.startImage_within (sub_of h rfl)).trans hs2))

theorem State.buildBand_within {g : ℕ} {k : ℕ} (h : retireBandParts ⊆ L) :
    Within L (State.buildBand t g k) t := by
  unfold State.buildBand
  extract_lets b sheets src s
  have hs : Within L s t := State.setBand_within (h (by decide))
  clear_value b sheets src s
  split
  · rename_i x u e
    have hu : Within L u t := (State.fitMembers_within (sub_of h rfl) _ e).trans hs
    exact hu
  · exact (State.retireBand_within h).trans hs

theorem State.buildReserve_within {g : ℕ} (h : erasePassedParts ⊆ L) :
    Within L (State.buildReserve t g) t := by
  unfold State.buildReserve
  refine .ite ?_ ?_
  · exact .rfl
  · refine (Within.foldl_fst fun u x => ?_).trans ?_
    · extract_lets b x1 t1
      have ht1 : Within L t1 (u.1) := State.moveBand_within (sub_of h rfl)
      exact (Within.foldl fun u x => State.erasePassed_within h).trans ht1
    · dsimp -zeta only
      exact .rfl

theorem State.dropBadSpares_within {d : ℕ} (h : .svy ∈ L) :
    Within L (State.dropBadSpares t d) t := by
  unfold State.dropBadSpares
  extract_lets bad
  exact .ite .rfl (State.setSpares_within h)

theorem State.marchAll_within {env : StartEnv} (h : .dram ∈ L) :
    Within L (State.marchAll t env) t := by
  unfold State.marchAll
  exact Within.foldl fun u x => .ite .rfl (State.setDram_within h)

theorem State.blank_within (h : [.pwr, .atl, .svy, .par] ⊆ L) :
    Within L (State.blank t) t := by
  unfold State.blank
  exact .update [.pwr, .atl, .svy, .par] h .rfl rfl

/-- What `State.firstBootSteps` may change. -/
def firstBootStepsParts : List Part :=
  retireBandParts ++ [.pwr, .par, .dram, .reg .PWR_EVENTS]

theorem State.firstBootSteps_within {env : StartEnv} (h : firstBootStepsParts ⊆ L) :
    Within L (State.firstBootSteps t env) t := by
  unfold State.firstBootSteps
  extract_lets s bad src s1 s2 s3 src1 src2
  have hs : Within L s t := (State.marchAll_within (h (by decide))).trans (State.blank_within (sub_of h rfl))
  have hs1 : Within L s1 t := .step (h (by decide)) (.svy s _) hs
  have hs2 : Within L s2 t := (Within.foldl fun u x => State.dropBadSpares_within (h (by decide))).trans hs1
  have hs3 : Within L s3 t := by
    unfold s3
    refine (Within.foldl fun u x => ?_).trans ?_
    · extract_lets n tb s4
      have hs4 : Within L s4 u := (State.buildReserve_within (sub_of h rfl)).trans (Within.foldl fun u x => State.buildBand_within (sub_of h rfl))
      exact (State.owe_within (h (by decide))).trans hs4
    · exact hs2
  exact .update [.svy, .par] (sub_of h rfl) hs3 rfl

/-- What `State.dropParity` may change. -/
def dropParityParts : List Part :=
  [.out, .gaz, .mgmt, .fns, .svy, .par, .reg .PAR_EVENTS, .reg .PAR_JRNL_WM, .reg .CHR_ALERT_STATUS, .reg .GAZ_COUNTS]

theorem State.dropParity_within {k : ℕ} (h : dropParityParts ⊆ L) :
    Within L (State.dropParity t k) t := by
  unfold State.dropParity
  extract_lets x b data pad s
  have hs : Within L s t := State.setBand_within (h (by decide))
  exact (State.event_within (h (by decide)) (sub_of h rfl)).trans ((State.setJslot_within (sub_of h rfl)).trans hs)

theorem State.programNow_within {b : ℕ} {row : ℕ} {sh : ℕ} (h : .out ∈ L) :
    Within L (State.programNow t b row sh) t := by
  unfold State.programNow
  exact State.emit_within (List.cons_subset.2 ⟨h, List.nil_subset _⟩)

theorem State.replaySlot_within {k : ℕ} (h : closeShortParts ⊆ L) :
    Within L (State.replaySlot t k) t := by
  unfold State.replaySlot
  extract_lets s x due s1 s2
  have hs : Within L s t := State.closeShort_within h
  have hs1 : Within L s1 t := (State.setJslot_within (sub_of h rfl)).trans hs
  have hs2 : Within L s2 t := (Within.foldl fun u x => State.programNow_within (h (by decide))).trans hs1
  exact (State.rowDone_within h).trans ((State.setJslot_within (sub_of h rfl)).trans hs2)

theorem State.replayJournal_within {env : StartEnv} (h : closeShortParts ⊆ L) :
    Within L (State.replayJournal t env) t := by
  unfold State.replayJournal
  refine Within.foldl fun u x => ?_
  extract_lets x1
  exact .ite .rfl (.ite (State.dropParity_within (sub_of h rfl)) (State.replaySlot_within h))

/-- What `State.swapReserve` may change. -/
def swapReserveParts : List Part :=
  [.out, .gaz, .mgmt, .pwr, .fns, .media, .plt, .atl, .svy, .reg .SVY_MEDIA_EVENTS, .reg .CHR_ALERT_STATUS, .reg .GAZ_COUNTS]

theorem State.swapReserve_within {set : ℕ} (h : swapReserveParts ⊆ L) :
    Within L (State.swapReserve t set) t := by
  unfold State.swapReserve
  extract_lets src s
  have hs : Within L s t := .step (h (by decide)) (.pwr t _) .rfl
  clear_value src s
  refine (Within.foldl fun u x => ?_).trans ?_
  · split
    · exact (State.startErase_within (sub_of h rfl)).trans (State.drainBand_within (sub_of h rfl))
    · exact .rfl
  · exact hs

/-- What `State.noteDump` may change. -/
def noteDumpParts : List Part :=
  swapReserveParts ++ [.ctls, .cpls, .reg .PWR_EVENTS, .reg .HST_PROMISE_EVENTS]

theorem State.noteDump_within (h : noteDumpParts ⊆ L) :
    Within L (State.noteDump t) t := by
  unfold State.noteDump
  extract_lets s
  have hs : Within L s t := State.event_within (h (by decide)) (sub_of h rfl)
  clear_value s
  split
  · rename_i x x1 x2 x3 e e1
    extract_lets s1 s2
    have hs1 : Within L s1 t := .ite hs ((State.event_within (h (by decide)) (sub_of h rfl)).trans hs)
    have hs2 : Within L s2 t := (Within.foldl fun u x => State.promise_within (h (by decide)) (sub_of h rfl)).trans hs1
    exact (State.swapReserve_within (sub_of h rfl)).trans hs2
  · exact .rfl

theorem State.setMapReady_within (h : [.ctls, .atl] ⊆ L) :
    Within L (State.setMapReady t) t := by
  unfold State.setMapReady
  exact .update [.ctls, .atl] h .rfl rfl

theorem State.foundSheet_within {b : ℕ} (h : offerBayParts ⊆ L) :
    Within L (State.foundSheet t b) t := by
  unfold State.foundSheet
  extract_lets src src1
  have hsrc : Within L src t := State.toBay_within (sub_of h rfl)
  exact .ite .rfl (.ite (.step (h (by decide)) (.par src _) hsrc) ((State.joinSheet_within (sub_of h rfl)).trans (State.toBay_within (sub_of h rfl))))

theorem State.otherSheet_within {recorded : List ℕ} {b : ℕ} (h : offerBayParts ⊆ L) :
    Within L (State.otherSheet t recorded b) t := by
  unfold State.otherSheet
  exact .ite .rfl ((State.offerBay_within h).trans (.ite (State.recordedGone_within (sub_of h rfl)) .rfl))

theorem State.missingSheet_within {b : ℕ} (h : presenceActParts ⊆ L) :
    Within L (State.missingSheet t b) t := by
  unfold State.missingSheet
  extract_lets s
  have hs : Within L s t := (State.sheetLost_within (sub_of h rfl)).trans (State.event_within (h (by decide)) (sub_of h rfl))
  exact .ite .rfl (.ite (State.recordedGone_within (sub_of h rfl)) (.ite hs ((State.toBay_within (sub_of h rfl)).trans hs)))

theorem State.endBays_within (h : presenceActParts ⊆ L) :
    Within L (State.endBays t) t := by
  unfold State.endBays
  extract_lets recorded s s1
  have hs : Within L s t := Within.foldl fun u x => .ite (.ite .rfl (State.joinSheet_within (sub_of h rfl))) (State.foundSheet_within (sub_of h rfl))
  have hs1 : Within L s1 t := .ite hs ((Within.foldl fun u x => State.otherSheet_within (sub_of h rfl)).trans hs)
  clear_value recorded s s1
  refine (Within.foldl fun u x => ?_).trans ?_
  · exact State.missingSheet_within h
  · exact hs1

theorem State.restartErases_within (h : [.plt, .atl, .svy] ⊆ L) :
    Within L (State.restartErases t) t := by
  unfold State.restartErases
  refine Within.foldl fun u x => ?_
  extract_lets l src s
  have hs : Within L s u := State.setBand_within (h (by decide))
  exact .ite .rfl (.ite ((State.freeUp_within (sub_of h rfl)).trans hs) ((Within.foldl fun u x => State.pushErase_within (h (by decide))).trans hs))

theorem State.recount_within (h : [.plt, .atl, .svy] ⊆ L) :
    Within L (State.recount t) t := by
  unfold State.recount
  extract_lets src s s1 s2 q src1
  have hs : Within L s t := .step (h (by decide)) (.svy t _) .rfl
  have hs1 : Within L s1 t := (Within.foldl fun u x => .ite (State.validUp_within (h (by decide))) .rfl).trans hs
  have hs2 : Within L s2 t := (Within.foldl fun u x => State.drainIf_within h).trans hs1
  exact (Within.foldl fun u x => State.oweBand_within (h (by decide))).trans (.step (h (by decide)) (.svy s2 _) hs2)

theorem State.startLate_within {env : StartEnv} (h : presenceActParts ⊆ L) :
    Within L (State.startLate t env) t := by
  unfold State.startLate
  extract_lets s first s1 src src1 s2 s3 s4 src2
  have hs : Within L s t := State.endBays_within h
  have hs1 : Within L s1 t := .ite ((State.firstBootSteps_within (sub_of h rfl)).trans hs) ((State.reoweRekeys_within (h (by decide))).trans ((State.recount_within (sub_of h rfl)).trans ((State.noteDump_within (sub_of h rfl)).trans ((State.replayJournal_within (sub_of h rfl)).trans ((State.restartErases_within (sub_of h rfl)).trans hs)))))
  have hs2 : Within L s2 t := .update [.pwr, .par] (sub_of h rfl) hs1 rfl
  have hs3 : Within L s3 t := .ite ((Within.foldl fun u x => State.promise_within (h (by decide)) (sub_of h rfl)).trans hs2) hs2
  have hs4 : Within L s4 t := (State.recheck_within (sub_of h rfl)).trans ((State.setMapReady_within (sub_of h rfl)).trans hs3)
  exact .step (h (by decide)) (.start s4 _) hs4

theorem State.installProfiles_within (h : [.out, .gaz, .mgmt, .fns, .por, .reg .CHR_ALERT_STATUS, .reg .GAZ_COUNTS, .reg .POR_EVENTS] ⊆ L) :
    Within L (State.installProfiles t) t := by
  unfold State.installProfiles
  extract_lets new recs old all_
  exact .ite .rfl (State.writeCopy_within h)

theorem State.installConstants_within (h : [.out, .gaz, .mgmt, .fns, .por, .reg .CHR_ALERT_STATUS, .reg .GAZ_COUNTS, .reg .POR_EVENTS] ⊆ L) :
    Within L (State.installConstants t) t := by
  unfold State.installConstants
  extract_lets new old
  exact .ite .rfl (State.writeCopy_within h)

theorem State.raiseSvn_within (h : .por ∈ L) :
    Within L (State.raiseSvn t) t := by
  unfold State.raiseSvn
  extract_lets n src
  exact .step h (.por t _) .rfl

theorem State.confirm_within (h : [.out, .gaz, .mgmt, .fns, .por, .reg .CHR_ALERT_STATUS, .reg .GAZ_COUNTS, .reg .POR_EVENTS] ⊆ L) :
    Within L (State.confirm t) t := by
  unfold State.confirm
  extract_lets src s
  have hs : Within L s t := .step (h (by decide)) (.por t _) .rfl
  exact .ite .rfl ((State.raiseSvn_within (h (by decide))).trans ((State.installConstants_within h).trans ((State.installProfiles_within h).trans hs)))

/-- What `State.enterService` may change. -/
def enterServiceParts : List Part :=
  toModeCheckedParts ++ [.por, .start, .reg .POR_EVENTS]

theorem State.enterService_within (h : enterServiceParts ⊆ L) :
    Within L (State.enterService t) t := by
  unfold State.enterService
  extract_lets src s
  have hs : Within L s t := .step (h (by decide)) (.start t _) .rfl
  exact .ite ((State.endSuspends_within (sub_of h rfl)).trans ((State.confirm_within (sub_of h rfl)).trans ((State.toModeChecked_within (sub_of h rfl)).trans hs))) .rfl

theorem execPowerOn_runs (h : resetParts ⊆ L) :
    Runs L t (execPowerOn t) := by
  unfold execPowerOn
  exact .next (State.restart_within h)

theorem execSystemReset_runs (h : resetParts ⊆ L) :
    Runs L t (execSystemReset t) := by
  unfold execSystemReset
  refine .ite ?_ ?_
  · exact .next .rfl
  · exact .next (State.restart_within h)

/-- What `execStartUp` may change. -/
def execStartUpParts : List Part :=
  startEarlyParts ++ [.reg .SHB_EVENTS]

theorem execStartUp_runs {env : StartEnv} (h : execStartUpParts ⊆ L) :
    Runs L t (execStartUp env t) := by
  unfold execStartUp
  extract_lets again src src1 s s1 s2
  have hsrc1 : Within L src1 t := State.toMode_within (mem_of h rfl) (mem_of h rfl) (sub_of h rfl)
  have hs : Within L s t := .ite (.step (mem_of h rfl) (.start src1 _) hsrc1) .rfl
  have hs1 : Within L s1 t := .ite ((State.startEarly_within (sub_of h rfl)).trans hs) hs
  have hs2 : Within L s2 t := .ite ((State.startLate_within (sub_of h rfl)).trans hs1) hs1
  clear_value again src src1 s s1 s2
  refine .ite ?_ ?_
  · exact .next .rfl
  · refine .ite ?_ ?_
    · exact .next .rfl
    · refine .ite ?_ ?_
      · exact .next (.step (mem_of h rfl) (.start t _) .rfl)
      · exact .next ((State.enterService_within (sub_of h rfl)).trans hs2)

theorem execAdmissionOpen_runs (h : enterServiceParts ⊆ L) :
    Runs L t (execAdmissionOpen t) := by
  unfold execAdmissionOpen
  extract_lets s src src1
  have hs : Within L s t := State.enterService_within h
  clear_value s src src1
  refine .ite ?_ ?_
  · exact .next hs
  · exact .next (.update [.plt, .start] (sub_of h rfl) hs rfl)

theorem execJtagAccess_runs {ir : JtagIr} (h : .out ∈ L) :
    Runs L t (execJtagAccess ir t) := by
  unfold execJtagAccess
  split
  · exact .next (State.emit_within (List.cons_subset.2 ⟨h, List.nil_subset _⟩))
  · exact .next (State.emit_within (List.cons_subset.2 ⟨h, List.nil_subset _⟩))
  · refine .ite ?_ ?_
    · exact .next (State.emit_within (List.cons_subset.2 ⟨h, List.nil_subset _⟩))
    · exact .next .rfl

/-- What `execNop` may change. -/
def execNopParts : List Part :=
  checkFaultParts ++ [.reg .FCH_EVENTS]

theorem execNop_runs {die : ℕ} {w : BitVec 128} {fetch : Fetch} (h : execNopParts ⊆ L) :
    Runs L t (execNop die w fetch t) := by
  unfold execNop
  exact .next (State.runWord_within (sub_of h rfl) fun u => .done .rfl)

theorem execWait_runs {die : ℕ} {w : BitVec 128} {fetch : Fetch} (h : execNopParts ⊆ L) :
    Runs L t (execWait die w fetch t) := by
  unfold execWait
  exact .next (State.runWord_within (sub_of h rfl) fun u => .done (State.setCtx_within (h (by decide))))

theorem execWaitEnd_runs {die : ℕ} (h : boundaryParts ⊆ L) :
    Runs L t (execWaitEnd die t) := by
  unfold execWaitEnd
  extract_lets x
  clear_value x
  refine .ite ?_ ?_
  · exact .next .rfl
  · exact .next ((State.wordEnd_within h).trans (State.setCtx_within (h (by decide))))

theorem execRestore_runs {die : ℕ} {w : BitVec 128} {fetch : Fetch} (h : execNopParts ⊆ L) :
    Runs L t (execRestore die w fetch t) := by
  unfold execRestore
  exact .next (State.runWord_within (sub_of h rfl) fun u => .done (.ite (State.resumed_within (sub_of h rfl))
    (State.setCtx_within (h (by decide)))))

theorem execMsg_runs {die : ℕ} {w : BitVec 128} {fetch : Fetch} (h : execNopParts ⊆ L) :
    Runs L t (execMsg die w fetch t) := by
  unfold execMsg
  refine .next (State.runWord_within (sub_of h rfl) fun u => ?_)
  extract_lets x s v
  have hs : Within L s u := State.emit_within (sub_of h rfl)
  have hv : Within L v u := (State.nowSuspended_within (sub_of h rfl)).trans hs
  exact .ite (.done hs) (.ite (.done ((State.setCtx_within (h (by decide))).trans hv))
    (.done ((State.suspendMissed_within (sub_of h rfl)).trans hs)))

theorem execIdle_runs {die : ℕ} {w : BitVec 128} {fetch : Fetch} (h : execNopParts ⊆ L) :
    Runs L t (execIdle die w fetch t) := by
  unfold execIdle
  refine .next (State.runWord_within (sub_of h rfl) fun u => ?_)
  extract_lets x st s
  have hs : Within L s u := State.setCtx_within (h (by decide))
  exact .ite (.done ((State.enterAt_within (sub_of h rfl)).trans hs)) (.done hs)

/-- What a command cycle may change. -/
def driveCmdParts : List Part := refuseSuspendParts ++ [.out, .trv, .fch, .plt]

theorem State.driveCmd_within {d byte : ℕ} (h : driveCmdParts ⊆ L) : ActWithin L (State.driveCmd t d byte) t := by
  have emit : ∀ (u : State) o, Within L (u.emit o) u := fun u o => State.emit_within (sub_of h rfl)
  have ctx : ∀ (u : State) x, Within L (u.setCtx d x) u := fun u x => State.setCtx_within (h (by decide))
  unfold State.driveCmd
  extract_lets x s src runs y yes
  split
  · exact .done (emit _ _)
  extract_lets s1
  have hs : Within L s t := State.refuseSuspend_within (sub_of h rfl)
  have hs1 : Within L s1 t := (emit _ _).trans (State.startTimer_within (h (by decide)))
  refine .ite (.ite .fault (.ite (.done ((ctx _ _).trans hs)) (.done ((emit _ _).trans (ctx _ _))))) (.ite (.ite .hold ?_) ?_)
  · split
    · exact .done ((State.addRuns_within (h (by decide))).trans hs1)
    · exact .done hs1
  · exact .done ((emit _ _).trans (ctx _ _))

theorem execCmd_runs {die : ℕ} {w : BitVec 128} {fetch : Fetch} (h : execNopParts ⊆ L) :
    Runs L t (execCmd die w fetch t) := by
  unfold execCmd
  exact .next (State.runWord_within (sub_of h rfl) fun u => State.driveCmd_within (sub_of h rfl))

theorem execAddr_runs {die : ℕ} {w : BitVec 128} {fetch : Fetch} (h : execNopParts ⊆ L) :
    Runs L t (execAddr die w fetch t) := by
  unfold execAddr
  exact .next (State.runWord_within (sub_of h rfl) fun u => .done (State.emit_within (sub_of h rfl)))

theorem execStatIn_runs {die : ℕ} {w : BitVec 128} {fetch : Fetch} {status : ℕ} (h : execNopParts ⊆ L) :
    Runs L t (execStatIn die w fetch status t) := by
  unfold execStatIn
  refine .next (State.runWord_within (sub_of h rfl) fun u => ?_)
  extract_lets s x
  have hs : Within L s u := State.statusRead_within (sub_of h rfl)
  exact .ite (.done ((State.enterAt_within (sub_of h rfl)).trans hs)) (.ite (.done ((State.setCtx_within (h (by decide))).trans hs)) (.done hs))

theorem execPins_runs {die : ℕ} {w : BitVec 128} {fetch : Fetch} (h : execNopParts ⊆ L) :
    Runs L t (execPins die w fetch t) := by
  unfold execPins
  exact .next (State.runWord_within (sub_of h rfl) fun u => .done (State.emit_within (sub_of h rfl)))

theorem execMove_runs {die : ℕ} {w : BitVec 128} {fetch : Fetch} (h : execNopParts ⊆ L) :
    Runs L t (execMove die w fetch t) := by
  unfold execMove
  exact .next (State.runWord_within (sub_of h rfl) fun u => .done ((State.grantMover_within (h (by decide))).trans
    ((State.emit_within (sub_of h rfl)).trans (State.setCtx_within (h (by decide))))))

/-- What `execMoverBurstComplete` may change. -/
def execMoverBurstCompleteParts : List Part :=
  [.out, .gaz, .mgmt, .pwr, .fns, .plt, .trv, .lanes, .til, .reg .TIL_POOL_WM, .reg .CHR_ALERT_STATUS, .reg .GAZ_COUNTS]

theorem execMoverBurstComplete_runs {die : ℕ} {error : Bool} (h : execMoverBurstCompleteParts ⊆ L) :
    Runs L t (execMoverBurstComplete die error t) := by
  unfold execMoverBurstComplete
  extract_lets x s
  have hs : Within L s t := (State.grantMover_within (h (by decide))).trans ((State.freeBus_within (h (by decide))).trans (State.setCtx_within (h (by decide))))
  clear_value x s
  split
  · exact .next .rfl
  · refine .ite ?_ ?_
    · exact .next .rfl
    · refine .ite ?_ ?_
      · exact .next hs
      · exact .next ((State.startDecode_within (sub_of h rfl)).trans hs)

theorem execDieFenceRequest_runs {die : ℕ} (h : fenceDieParts ⊆ L) :
    Runs L t (execDieFenceRequest die t) := by
  unfold execDieFenceRequest
  refine .ite ?_ ?_
  · exact .next .rfl
  · refine .ite ?_ ?_
    · exact .next (State.fenceDie_within h)
    · exact .next (State.setCtx_within (h (by decide)))

theorem execDieReleaseRequest_runs {die : ℕ} {newOwner : ℕ} (h : [.out, .plt, .par, .trv] ⊆ L) :
    Runs L t (execDieReleaseRequest die newOwner t) := by
  unfold execDieReleaseRequest
  refine .ite ?_ ?_
  · exact .next .rfl
  · exact .next (State.orderlyMove_within h)

/-- What `execDieSuspendRequest` may change. -/
def execDieSuspendRequestParts : List Part :=
  refuseSuspendParts ++ [.fch, .trv, .reg .TRV_ENG]

theorem execDieSuspendRequest_runs {die : ℕ} {completed : Bool} (h : execDieSuspendRequestParts ⊆ L) :
    Runs L t (execDieSuspendRequest die completed t) := by
  unfold execDieSuspendRequest
  extract_lets x s src s1 s2 src1
  have hs : Within L s t := (State.emit_within (sub_of h rfl)).trans (State.takeSuspend_within (sub_of h rfl))
  have hs1 : Within L s1 t := (State.emit_within (sub_of h rfl)).trans ((State.setCtx_within (h (by decide))).trans hs)
  have hs2 : Within L s2 t := (State.suspendMissed_within (sub_of h rfl)).trans hs1
  clear_value x s src s1 s2 src1
  refine .ite ?_ ?_
  · exact .next .rfl
  · refine .ite ?_ ?_
    · exact .next (State.setCtx_within (h (by decide)))
    · refine .ite ?_ ?_
      · exact .next (State.event_within (h (by decide)) (sub_of h rfl))
      · refine .ite ?_ ?_
        · exact .next .rfl
        · refine .ite ?_ ?_
          · exact .next (State.setCtx_within (h (by decide)))
          · refine .ite ?_ ?_
            · exact .next ((State.holdSuspend_within (sub_of h rfl)).trans (State.setCtx_within (h (by decide))))
            · refine .ite ?_ ?_
              · exact .next (State.refuseSuspend_within (sub_of h rfl))
              · refine .ite ?_ ?_
                · exact .next ((State.emit_within (sub_of h rfl)).trans ((State.setCtx_within (h (by decide))).trans hs2))
                · exact .next ((State.emit_within (sub_of h rfl)).trans ((State.nowSuspended_within (sub_of h rfl)).trans hs1))

theorem execDieStartRequest_runs {die : ℕ} {plan : DiePlan} (h : startPlanParts ⊆ L) :
    Runs L t (execDieStartRequest die plan t) := by
  unfold execDieStartRequest
  extract_lets x src
  clear_value x src
  refine .ite ?_ ?_
  · exact .next .rfl
  · refine .ite ?_ ?_
    · exact .next (State.startPlan_within h)
    · exact .next (State.setCtx_within (h (by decide)))

theorem execDieResume_runs {die : ℕ} (h : [.out, .plt, .fch, .trv] ⊆ L) :
    Runs L t (execDieResume die t) := by
  unfold execDieResume
  extract_lets x
  clear_value x
  refine .ite ?_ ?_
  · exact .next .rfl
  · refine .ite ?_ ?_
    · exact .next .rfl
    · refine .ite ?_ ?_
      · exact .next .rfl
      · exact .next (State.resumeOp_within h)

theorem execDieHandover_runs {die : ℕ} {newOwner : ℕ} (h : takeDieParts ⊆ L) :
    Runs L t (execDieHandover die newOwner t) := by
  unfold execDieHandover
  refine .ite ?_ ?_
  · exact .next .rfl
  · refine .ite ?_ ?_
    · exact .next (.ite .rfl (State.takeDie_within h))
    · exact .next (State.orderlyMove_within (sub_of h rfl))

theorem State.tookOver_within {d : ℕ} (h : .trv ∈ L) :
    Within L (State.tookOver t d) t := by
  unfold State.tookOver
  extract_lets y
  exact .ite (State.setCtx_within h) (State.setCtx_within h)

theorem execDieTakeover_runs {die : ℕ} {newOwner : ℕ} {status : ℕ} (h : dieAbsentParts ⊆ L) :
    Runs L t (execDieTakeover die newOwner status t) := by
  unfold execDieTakeover
  extract_lets s s1
  have hs : Within L s t := .ite (State.takeDie_within (sub_of h rfl)) .rfl
  have hs1 : Within L s1 t := (State.statusRead_within h).trans ((State.emit_within (sub_of h rfl)).trans hs)
  clear_value s s1
  refine .ite ?_ ?_
  · exact .next .rfl
  · refine .ite ?_ ?_
    · exact .next hs
    · refine .ite ?_ ?_
      · exact .next hs1
      · exact .next ((State.tookOver_within (h (by decide))).trans hs1)

theorem State.withFetchWord_within {nbits : ℕ} {w : ℕ} (h : .pending ∈ L) :
    Within L (State.withFetchWord t nbits w) t := by
  unfold State.withFetchWord
  split
  · exact .step h (.pending t _) .rfl
  · exact .rfl

end

end Sys2Proof.Machine
end

section
/-! Every command runs on and leaves the queue and the clock; what every step keeps; the state after reset. -/

namespace Sys2Proof.Machine

section
variable {t : State}

/-- Every command runs on, by updates of what a device reset may change. -/
theorem exec_runs (i : Instr) : Runs resetParts t (exec i t) := by
  have all : resetParts ⊆ resetParts := fun _ h => h
  cases i with
  | flitCrcError _ _ => exact execFlitCrcError_runs (sub_reset all (by decide))
  | sqDoorbellWrite _ _ _ => exact execSqDoorbellWrite_runs (sub_reset all (by decide))
  | cqDoorbellWrite _ _ _ => exact execCqDoorbellWrite_runs (sub_reset all (by decide))
  | sqEntryFetch _ _ => exact execSqEntryFetch_runs (sub_reset all (by decide))
  | holdProbe _ _ _ _ => exact execHoldProbe_runs (sub_reset all (by decide))
  | holdLimitExpiry _ _ _ _ => exact execHoldLimitExpiry_runs (sub_reset all (by decide))
  | read _ => exact execRead_runs (sub_reset all (by decide))
  | write _ => exact execWrite_runs (sub_reset all (by decide))
  | flush _ => exact execFlush_runs (sub_reset all (by decide))
  | writeUncorrectable _ => exact execWriteUncorrectable_runs (sub_reset all (by decide))
  | compare _ => exact execCompare_runs (sub_reset all (by decide))
  | writeZeroes _ => exact execWriteZeroes_runs (sub_reset all (by decide))
  | datasetManagement _ _ _ => exact execDatasetManagement_runs (sub_reset all (by decide))
  | verify _ => exact execVerify_runs (sub_reset all (by decide))
  | atlasLookup _ _ => exact execAtlasLookup_runs (sub_reset all (by decide))
  | plotAdmit _ _ _ => exact execPlotAdmit_runs (sub_reset all (by decide))
  | hostReadCompletion _ _ _ => exact execHostReadCompletion_runs (sub_reset all (by decide))
  | hostAllowanceExpiry _ _ _ => exact execHostAllowanceExpiry_runs (mem_reset all (by decide))
  | completionTimeout _ _ _ => exact execCompletionTimeout_runs (sub_reset all (by decide))
  | hostReadError _ _ _ err => exact execHostReadError_runs (err := err) (sub_reset all (by decide))
  | completionEntrySent _ _ _ => exact execCompletionEntrySent_runs (sub_reset all (by decide))
  | coalescingTimerExpiry _ _ => exact execCoalescingTimerExpiry_runs (sub_reset all (by decide))
  | frameBoundary _ => exact execFrameBoundary_runs (sub_reset all (by decide))
  | quietSlotEnd => exact execQuietSlotEnd_runs (sub_reset all (by decide))
  | decodeComplete _ _ _ _ _ _ _ _ _ _ => exact execDecodeComplete_runs (sub_reset all (by decide))
  | softReservationStart _ _ => exact execSoftReservationStart_runs (mem_reset all (by decide))
  | dieOperationComplete _ _ => exact execDieOperationComplete_runs (sub_reset all (by decide))
  | hostStage _ _ _ _ => exact execHostStage_runs (sub_reset all (by decide))
  | programDone _ _ _ _ => exact execProgramDone_runs (sub_reset all (by decide))
  | relocate _ _ _ _ => exact execRelocate_runs (sub_reset all (by decide))
  | discard _ _ => exact execDiscard_runs (sub_reset all (by decide))
  | poison _ _ _ => exact execPoison_runs (sub_reset all (by decide))
  | segGet _ _ => exact execSegGet_runs (mem_reset all (by decide))
  | snoop _ _ _ => exact execSnoop_runs (sub_reset all (by decide))
  | snoopDone _ _ => exact execSnoopDone_runs (sub_reset all (by decide))
  | segmentEvict _ _ => exact execSegmentEvict_runs (mem_reset all (by decide))
  | evictNotice _ _ => exact execEvictNotice_runs (mem_reset all (by decide))
  | segmentWritebackComplete _ _ => exact execSegmentWritebackComplete_runs (sub_reset all (by decide))
  | evictAck _ _ => exact execEvictAck_runs (sub_reset all (by decide))
  | segmentLoadComplete _ _ _ _ => exact execSegmentLoadComplete_runs (sub_reset all (by decide))
  | dirtyMaxExpiry _ _ => exact execDirtyMaxExpiry_runs (mem_reset all (by decide))
  | assemblyWindowEnd _ _ => exact execAssemblyWindowEnd_runs (sub_reset all (by decide))
  | journalBlockSpill => exact execJournalBlockSpill_runs (sub_reset all (by decide))
  | checkpointCopy _ => exact execCheckpointCopy_runs (sub_reset all (by decide))
  | ckptPassOverrun => exact execCkptPassOverrun_runs (sub_reset all (by decide))
  | discardSweep _ _ => exact execDiscardSweep_runs (sub_reset all (by decide))
  | segmentRecovery _ _ _ => exact execSegmentRecovery_runs (sub_reset all (by decide))
  | gcVictimPick _ => exact execGcVictimPick_runs (sub_reset all (by decide))
  | debtConversion _ => exact execDebtConversion_runs (sub_reset all (by decide))
  | relocation _ _ _ _ => exact execRelocation_runs (sub_reset all (by decide))
  | waEstimate => exact execWaEstimate_runs (mem_reset all (by decide))
  | bandOpen _ _ => exact execBandOpen_runs (sub_reset all (by decide))
  | bandEraseStart _ => exact execBandEraseStart_runs (sub_reset all (by decide))
  | refreshStart => exact execRefreshStart_runs (sub_reset all (by decide))
  | readLimitClose _ => exact execReadLimitClose_runs (sub_reset all (by decide))
  | minFreePublish => exact execMinFreePublish_runs (sub_reset all (by decide))
  | retentionSample _ => exact execRetentionSample_runs (sub_reset all (by decide))
  | spareRebuild _ _ => exact execSpareRebuild_runs (sub_reset all (by decide))
  | stripeOpen _ _ => exact execStripeOpen_runs (sub_reset all (by decide))
  | fold _ _ _ _ => exact execFold_runs (sub_reset all (by decide))
  | parityProgram _ => exact execParityProgram_runs (sub_reset all (by decide))
  | reconstruct _ _ _ _ => exact execReconstruct_runs (sub_reset all (by decide))
  | layoutChange _ _ => exact execLayoutChange_runs (sub_reset all (by decide))
  | reshapeAdvance => exact execReshapeAdvance_runs (sub_reset all (by decide))
  | evacuation _ => exact execEvacuation_runs (sub_reset all (by decide))
  | channelDiscovery _ _ => exact execChannelDiscovery_runs (sub_reset all (by decide))
  | channelTraining _ _ => exact execChannelTraining_runs (sub_reset all (by decide))
  | retrainStep _ _ => exact execRetrainStep_runs (sub_reset all (by decide))
  | retrainLate _ => exact execRetrainLate_runs (sub_reset all (by decide))
  | absentHoldExpiry _ => exact execAbsentHoldExpiry_runs (sub_reset all (by decide))
  | pollTimeout _ _ => exact execPollTimeout_runs (sub_reset all (by decide))
  | runTimerExpiry _ => exact execRunTimerExpiry_runs (sub_reset all (by decide))
  | suspendLong _ => exact execSuspendLong_runs (sub_reset all (by decide))
  | nop _ _ _ => exact execNop_runs (sub_reset all (by decide))
  | wait _ _ _ => exact execWait_runs (sub_reset all (by decide))
  | waitEnd _ => exact execWaitEnd_runs (sub_reset all (by decide))
  | restore _ _ _ => exact execRestore_runs (sub_reset all (by decide))
  | msg _ _ _ => exact execMsg_runs (sub_reset all (by decide))
  | idle _ _ _ => exact execIdle_runs (sub_reset all (by decide))
  | cmd _ _ _ => exact execCmd_runs (sub_reset all (by decide))
  | addr _ _ _ => exact execAddr_runs (sub_reset all (by decide))
  | statIn _ _ _ _ => exact execStatIn_runs (sub_reset all (by decide))
  | pins _ _ _ => exact execPins_runs (sub_reset all (by decide))
  | move _ _ _ => exact execMove_runs (sub_reset all (by decide))
  | moverBurstComplete _ _ => exact execMoverBurstComplete_runs (sub_reset all (by decide))
  | dieFenceRequest _ => exact execDieFenceRequest_runs (sub_reset all (by decide))
  | dieReleaseRequest _ _ => exact execDieReleaseRequest_runs (sub_reset all (by decide))
  | dieSuspendRequest _ _ => exact execDieSuspendRequest_runs (sub_reset all (by decide))
  | dieStartRequest _ _ => exact execDieStartRequest_runs (sub_reset all (by decide))
  | dieResume _ => exact execDieResume_runs (sub_reset all (by decide))
  | dieHandover _ _ => exact execDieHandover_runs (sub_reset all (by decide))
  | dieTakeover _ _ _ => exact execDieTakeover_runs (sub_reset all (by decide))
  | presenceEdge _ _ => exact execPresenceEdge_runs (sub_reset all (by decide))
  | presenceDebounced _ => exact execPresenceDebounced_runs (sub_reset all (by decide))
  | buttonPress _ => exact execButtonPress_runs (sub_reset all (by decide))
  | bayPowerStart _ => exact execBayPowerStart_runs (sub_reset all (by decide))
  | pwrgdRise _ => exact execPwrgdRise_runs (sub_reset all (by decide))
  | pwrgdTimeout _ => exact execPwrgdTimeout_runs (sub_reset all (by decide))
  | pwrgdFall _ => exact execPwrgdFall_runs (sub_reset all (by decide))
  | identityCheck _ _ _ => exact execIdentityCheck_runs (sub_reset all (by decide))
  | bayDiscoveryEnd _ => exact execBayDiscoveryEnd_runs (sub_reset all (by decide))
  | bayOffer _ => exact execBayOffer_runs (sub_reset all (by decide))
  | abortWindowExpiry _ => exact execAbortWindowExpiry_runs (sub_reset all (by decide))
  | refusalBlinkEnd _ => exact execRefusalBlinkEnd_runs (mem_reset all (by decide))
  | conventionalReset _ _ => exact execConventionalReset_runs (sub_reset all (by decide))
  | perstRelease _ => exact execPerstRelease_runs (sub_reset all (by decide))
  | flr _ => exact execFlr_runs (sub_reset all (by decide))
  | vfEnableWrite _ _ _ _ => exact execVfEnableWrite_runs (sub_reset all (by decide))
  | barSizeWrite _ _ => exact execBarSizeWrite_runs (sub_reset all (by decide))
  | cmbmscWrite _ _ _ => exact execCmbmscWrite_runs (sub_reset all (by decide))
  | msixUnmask _ _ => exact execMsixUnmask_runs (sub_reset all (by decide))
  | gazRecordLatchRead _ _ => exact execGazRecordLatchRead_runs (sub_reset all (by decide))
  | poisonedWrite _ bar => exact execPoisonedWrite_runs (bar := bar) (sub_reset all (by decide))
  | receivedTlpError _ _ _ => exact execReceivedTlpError_runs (sub_reset all (by decide))
  | atsInvalidate _ _ => exact execAtsInvalidate_runs (sub_reset all (by decide))
  | linkRateChange _ _ _ _ => exact execLinkRateChange_runs (sub_reset all (by decide))
  | ccEnSet _ _ _ _ _ => exact execCcEnSet_runs (sub_reset all (by decide))
  | ccEnClear _ => exact execCcEnClear_runs (sub_reset all (by decide))
  | ccShnWrite _ _ => exact execCcShnWrite_runs (mem_reset all (by decide))
  | deviceShutdownFlush => exact execDeviceShutdownFlush_runs (sub_reset all (by decide))
  | deleteIoSubmissionQueue _ _ => exact execDeleteIoSubmissionQueue_runs (sub_reset all (by decide))
  | createIoSubmissionQueue _ _ _ _ _ => exact execCreateIoSubmissionQueue_runs (sub_reset all (by decide))
  | getLogPage _ _ _ _ _ _ => exact execGetLogPage_runs (sub_reset all (by decide))
  | deleteIoCompletionQueue _ _ => exact execDeleteIoCompletionQueue_runs (sub_reset all (by decide))
  | createIoCompletionQueue _ _ _ _ _ _ => exact execCreateIoCompletionQueue_runs (sub_reset all (by decide))
  | identify _ _ cntid => exact execIdentify_runs (cntid := cntid) (sub_reset all (by decide))
  | abort _ sqid victim => exact execAbort_runs (sqid := sqid) (victim := victim) (sub_reset all (by decide))
  | setFeatures _ _ _ _ _ => exact execSetFeatures_runs (sub_reset all (by decide))
  | getFeatures _ _ _ _ => exact execGetFeatures_runs (sub_reset all (by decide))
  | asynchronousEventRequest _ => exact execAsynchronousEventRequest_runs (sub_reset all (by decide))
  | asyncEventReport _ _ => exact execAsyncEventReport_runs (sub_reset all (by decide))
  | formatNvm _ _ _ _ _ _ => exact execFormatNvm_runs (sub_reset all (by decide))
  | psExitTimer => exact execPsExitTimer_runs (sub_reset all (by decide))
  | ps4Entry => exact execPs4Entry_runs (sub_reset all (by decide))
  | ring _ => exact execRing_runs (sub_reset all (by decide))
  | respDone _ => exact execRespDone_runs (sub_reset all (by decide))
  | mctpMailboxMessage _ _ _ _ _ => exact execMctpMailboxMessage_runs (sub_reset all (by decide))
  | segmentTimeout _ => exact execSegmentTimeout_runs (sub_reset all (by decide))
  | hello _ => exact execHello_runs (sub_reset all (by decide))
  | goodbye _ => exact execGoodbye_runs (sub_reset all (by decide))
  | opStatus _ => exact execOpStatus_runs (sub_reset all (by decide))
  | deviceInfo _ => exact execDeviceInfo_runs (sub_reset all (by decide))
  | classGet _ => exact execClassGet_runs (sub_reset all (by decide))
  | classSet _ => exact execClassSet_runs (sub_reset all (by decide))
  | maskSet _ => exact execMaskSet_runs (sub_reset all (by decide))
  | defaultSet _ => exact execDefaultSet_runs (sub_reset all (by decide))
  | queueBind _ => exact execQueueBind_runs (sub_reset all (by decide))
  | floorsGet _ => exact execFloorsGet_runs (sub_reset all (by decide))
  | quotaSet _ => exact execQuotaSet_runs (sub_reset all (by decide))
  | reserveSet _ => exact execReserveSet_runs (sub_reset all (by decide))
  | poolCreate _ => exact execPoolCreate_runs (sub_reset all (by decide))
  | poolResize _ => exact execPoolResize_runs (sub_reset all (by decide))
  | poolDelete _ => exact execPoolDelete_runs (sub_reset all (by decide))
  | nsCreate _ => exact execNsCreate_runs (sub_reset all (by decide))
  | nsResize _ => exact execNsResize_runs (sub_reset all (by decide))
  | nsDelete _ => exact execNsDelete_runs (sub_reset all (by decide))
  | nsAttach _ => exact execNsAttach_runs (sub_reset all (by decide))
  | nsDetach _ => exact execNsDetach_runs (sub_reset all (by decide))
  | nsList _ => exact execNsList_runs (sub_reset all (by decide))
  | nsInfo _ => exact execNsInfo_runs (sub_reset all (by decide))
  | keyImport _ => exact execKeyImport_runs (sub_reset all (by decide))
  | rekey _ => exact execRekey_runs (sub_reset all (by decide))
  | rekeySweepStep _ _ _ => exact execRekeySweepStep_runs (sub_reset all (by decide))
  | rekeyDone _ => exact execRekeyDone_runs (sub_reset all (by decide))
  | keyErase _ => exact execKeyErase_runs (sub_reset all (by decide))
  | slotAssign _ => exact execSlotAssign_runs (sub_reset all (by decide))
  | keyStatus _ => exact execKeyStatus_runs (sub_reset all (by decide))
  | unlockChallenge _ => exact execUnlockChallenge_runs (sub_reset all (by decide))
  | unlockResponse _ => exact execUnlockResponse_runs (sub_reset all (by decide))
  | nonceLapse _ => exact execNonceLapse_runs (mem_reset all (by decide))
  | lockoutEnd => exact execLockoutEnd_runs (mem_reset all (by decide))
  | gazRead _ => exact execGazRead_runs (sub_reset all (by decide))
  | gazClear _ => exact execGazClear_runs (sub_reset all (by decide))
  | gazLayout _ => exact execGazLayout_runs (sub_reset all (by decide))
  | datumGet _ => exact execDatumGet_runs (sub_reset all (by decide))
  | datumSet _ => exact execDatumSet_runs (sub_reset all (by decide))
  | datumAlarm _ => exact execDatumAlarm_runs (sub_reset all (by decide))
  | alarmFire => exact execAlarmFire_runs (sub_reset all (by decide))
  | slewEnd => exact execSlewEnd_runs (sub_reset all (by decide))
  | vbatLost => exact execVbatLost_runs (sub_reset all (by decide))
  | sheetStatus _ => exact execSheetStatus_runs (sub_reset all (by decide))
  | sheetOffer _ => exact execSheetOffer_runs (sub_reset all (by decide))
  | sheetRemove _ => exact execSheetRemove_runs (sub_reset all (by decide))
  | sheetAbort _ => exact execSheetAbort_runs (sub_reset all (by decide))
  | sheetIdentity _ => exact execSheetIdentity_runs (sub_reset all (by decide))
  | updBegin _ => exact execUpdBegin_runs (sub_reset all (by decide))
  | updChunk _ => exact execUpdChunk_runs (sub_reset all (by decide))
  | chunkStored _ => exact execChunkStored_runs (sub_reset all (by decide))
  | updEnd _ => exact execUpdEnd_runs (sub_reset all (by decide))
  | updEndChainTimeout => exact execUpdEndChainTimeout_runs (sub_reset all (by decide))
  | updSchedule _ => exact execUpdSchedule_runs (sub_reset all (by decide))
  | updCancel _ => exact execUpdCancel_runs (sub_reset all (by decide))
  | updStatus _ => exact execUpdStatus_runs (sub_reset all (by decide))
  | surveyStart _ _ _ => exact execSurveyStart_runs (sub_reset all (by decide))
  | unitReset _ _ => exact execUnitReset_runs (sub_reset all (by decide))
  | faultGet _ => exact execFaultGet_runs (sub_reset all (by decide))
  | faultMask _ => exact execFaultMask_runs (sub_reset all (by decide))
  | faultPin _ => exact execFaultPin_runs (sub_reset all (by decide))
  | envelopeSet _ => exact execEnvelopeSet_runs (sub_reset all (by decide))
  | powerStatus _ => exact execPowerStatus_runs (sub_reset all (by decide))
  | modeRequest _ => exact execModeRequest_runs (sub_reset all (by decide))
  | holdupTest _ => exact execHoldupTest_runs (sub_reset all (by decide))
  | thermalGet _ => exact execThermalGet_runs (sub_reset all (by decide))
  | inject _ => exact execInject_runs (sub_reset all (by decide))
  | diagClose _ => exact execDiagClose_runs (sub_reset all (by decide))
  | tileRelease _ => exact execTileRelease_runs (sub_reset all (by decide))
  | addRef _ => exact execAddRef_runs (sub_reset all (by decide))
  | tileReserve _ _ => exact execTileReserve_runs (sub_reset all (by decide))
  | tileUnreserve _ _ => exact execTileUnreserve_runs (sub_reset all (by decide))
  | allocReserved _ _ => exact execAllocReserved_runs (sub_reset all (by decide))
  | allocSpot _ _ => exact execAllocSpot_runs (sub_reset all (by decide))
  | tileSramUe _ _ => exact execTileSramUe_runs (sub_reset all (by decide))
  | tileApply => exact execTileApply_runs (sub_reset all (by decide))
  | dramRequest _ _ => exact execDramRequest_runs (sub_reset all (by decide))
  | dramIssueSlot _ => exact execDramIssueSlot_runs (sub_reset all (by decide))
  | dramRefreshDue _ _ _ => exact execDramRefreshDue_runs (mem_reset all (by decide))
  | dramMaintenanceDue _ _ => exact execDramMaintenanceDue_runs (mem_reset all (by decide))
  | dramUe _ _ _ _ _ => exact execDramUe_runs (sub_reset all (by decide))
  | cipherJob _ => exact execCipherJob_runs (sub_reset all (by decide))
  | pwrFailNFall => exact execPwrFailNFall_runs (sub_reset all (by decide))
  | railTrip _ => exact execRailTrip_runs all
  | dumpEnd _ => exact execDumpEnd_runs (sub_reset all (by decide))
  | powerRestart => exact execPowerRestart_runs all
  | vddAonLost => exact execVddAonLost_runs all
  | dormantEntry => exact execDormantEntry_runs (sub_reset all (by decide))
  | wakeNAsserted => exact execWakeNAsserted_runs (sub_reset all (by decide))
  | avsRequest _ => exact execAvsRequest_runs (sub_reset all (by decide))
  | capacitorTest _ _ => exact execCapacitorTest_runs (sub_reset all (by decide))
  | bankReachesV2 => exact execBankReachesV2_runs (sub_reset all (by decide))
  | capacitorTestTimeout => exact execCapacitorTestTimeout_runs (sub_reset all (by decide))
  | bankRecharged => exact execBankRecharged_runs (sub_reset all (by decide))
  | adcSampleEnd _ _ => exact execAdcSampleEnd_runs (sub_reset all (by decide))
  | onDemandSampleRequest _ => exact execOnDemandSampleRequest_runs (mem_reset all (by decide))
  | roundEnd => exact execRoundEnd_runs (sub_reset all (by decide))
  | candidateUnquietable => exact execCandidateUnquietable_runs (sub_reset all (by decide))
  | critTripClear => exact execCritTripClear_runs (sub_reset all (by decide))
  | critTripTimeout => exact execCritTripTimeout_runs (sub_reset all (by decide))
  | faultDetected _ => exact execFaultDetected_runs (sub_reset all (by decide))
  | pulseEnd => exact execPulseEnd_runs (mem_reset all (by decide))
  | fenceIndRelease _ _ => exact execFenceIndRelease_runs (mem_reset all (by decide))
  | fence _ _ => exact execFence_runs (sub_reset all (by decide))
  | cntClear _ _ => exact execCntClear_runs (mem_reset all (by decide))
  | rearm => exact execRearm_runs (mem_reset all (by decide))
  | levelWrite _ => exact execLevelWrite_runs (mem_reset all (by decide))
  | go _ => exact execGo_runs (sub_reset all (by decide))
  | commit _ => exact execCommit_runs (sub_reset all (by decide))
  | atlSteerWrite _ _ => exact execAtlSteerWrite_runs (sub_reset all (by decide))
  | pltReserveWrite _ => exact execPltReserveWrite_runs (sub_reset all (by decide))
  | pltLagsWrite _ => exact execPltLagsWrite_runs (sub_reset all (by decide))
  | svyFreeWmWrite _ _ => exact execSvyFreeWmWrite_runs (sub_reset all (by decide))
  | fchCfgWrite _ _ => exact execFchCfgWrite_runs (sub_reset all (by decide))
  | trvPollWrite _ => exact execTrvPollWrite_runs (sub_reset all (by decide))
  | shbIndWrite _ _ => exact execShbIndWrite_runs (sub_reset all (by decide))
  | mbxVectorWrite _ _ => exact execMbxVectorWrite_runs (sub_reset all (by decide))
  | registerWrite _ _ _ => exact execRegisterWrite_runs all
  | rcFieldRead _ => exact execRcFieldRead_runs all
  | datTimeLoRead _ => exact execDatTimeLoRead_runs (sub_reset all (by decide))
  | setEndpointId _ _ => exact execSetEndpointId_runs (sub_reset all (by decide))
  | getEndpointId _ => exact execGetEndpointId_runs (mem_reset all (by decide))
  | getEndpointUuid _ => exact execGetEndpointUuid_runs (mem_reset all (by decide))
  | getMctpVersionSupport _ _ => exact execGetMctpVersionSupport_runs (mem_reset all (by decide))
  | getMessageTypeSupport _ => exact execGetMessageTypeSupport_runs (mem_reset all (by decide))
  | nvmeMiBasicManagement => exact execNvmeMiBasicManagement_runs (sub_reset all (by decide))
  | getVersion _ => exact execGetVersion_runs (sub_reset all (by decide))
  | getCapabilities _ => exact execGetCapabilities_runs (sub_reset all (by decide))
  | negotiateAlgorithms _ => exact execNegotiateAlgorithms_runs (sub_reset all (by decide))
  | getDigests _ => exact execGetDigests_runs (mem_reset all (by decide))
  | getCertificate _ _ _ _ => exact execGetCertificate_runs (mem_reset all (by decide))
  | challenge _ _ _ => exact execChallenge_runs (sub_reset all (by decide))
  | getMeasurements _ _ _ _ => exact execGetMeasurements_runs (mem_reset all (by decide))
  | keyExchange _ _ => exact execKeyExchange_runs (sub_reset all (by decide))
  | finish _ _ _ => exact execFinish_runs (sub_reset all (by decide))
  | heartbeat _ => exact execHeartbeat_runs (sub_reset all (by decide))
  | keyUpdate _ => exact execKeyUpdate_runs (sub_reset all (by decide))
  | endSession _ => exact execEndSession_runs (sub_reset all (by decide))
  | sessionHeartbeatTimeout _ => exact execSessionHeartbeatTimeout_runs (mem_reset all (by decide))
  | getTransportKey _ => exact execGetTransportKey_runs (sub_reset all (by decide))
  | provisionOwner _ _ _ => exact execProvisionOwner_runs (sub_reset all (by decide))
  | alertResponseAddressRead => exact execAlertResponseAddressRead_runs (sub_reset all (by decide))
  | gazetteerRecord _ _ _ _ _ => exact execGazetteerRecord_runs (sub_reset all (by decide))
  | gazPersist => exact execGazPersist_runs (mem_reset all (by decide))
  | eraseSector _ _ => exact execEraseSector_runs (sub_reset all (by decide))
  | programRow _ _ _ => exact execProgramRow_runs (sub_reset all (by decide))
  | programOtp _ _ => exact execProgramOtp_runs (sub_reset all (by decide))
  | storeRead _ => exact execStoreRead_runs (sub_reset all (by decide))
  | eraseResume => exact execEraseResume_runs (mem_reset all (by decide))
  | linkUp _ _ _ _ _ => exact execLinkUp_runs (sub_reset all (by decide))
  | linkUpResend _ => exact execLinkUpResend_runs (sub_reset all (by decide))
  | hopRemeasure _ => exact execHopRemeasure_runs (mem_reset all (by decide))
  | relayAck _ _ _ => exact execRelayAck_runs (sub_reset all (by decide))
  | relayReplayTimeout _ => exact execRelayReplayTimeout_runs (sub_reset all (by decide))
  | relayLinkDown _ => exact execRelayLinkDown_runs (sub_reset all (by decide))
  | beacon _ => exact execBeacon_runs (sub_reset all (by decide))
  | beaconSend => exact execBeaconSend_runs (sub_reset all (by decide))
  | relayBegin _ _ _ _ => exact execRelayBegin_runs (sub_reset all (by decide))
  | relayChunk _ _ _ _ => exact execRelayChunk_runs (sub_reset all (by decide))
  | relayEnd _ => exact execRelayEnd_runs (sub_reset all (by decide))
  | relaySchedule _ _ _ _ _ _ => exact execRelaySchedule_runs (sub_reset all (by decide))
  | relayCancel _ _ => exact execRelayCancel_runs (sub_reset all (by decide))
  | relayReport _ _ _ _ _ _ _ => exact execRelayReport_runs (sub_reset all (by decide))
  | activationDrain => exact execActivationDrain_runs (sub_reset all (by decide))
  | activationRestart => exact execActivationRestart_runs all
  | trialReset => exact execTrialReset_runs all
  | referenceWindowEnd _ => exact execReferenceWindowEnd_runs (mem_reset all (by decide))
  | inServiceTestDue _ _ => exact execInServiceTestDue_runs (sub_reset all (by decide))
  | testEnd _ _ _ => exact execTestEnd_runs (sub_reset all (by decide))
  | powerOn => exact execPowerOn_runs all
  | systemReset => exact execSystemReset_runs all
  | startUp _ => exact execStartUp_runs (sub_reset all (by decide))
  | admissionOpen => exact execAdmissionOpen_runs (sub_reset all (by decide))
  | flowControlCredit _ _ _ _ => exact execFlowControlCredit_runs (mem_reset all (by decide))
  | atsTranslationCompletion _ _ _ _ _ => exact execAtsTranslationCompletion_runs (sub_reset all (by decide))
  | dramReadReturn _ _ _ => exact execDramReadReturn_runs (sub_reset all (by decide))
  | segmentReceived _ _ _ => exact execSegmentReceived_runs (mem_reset all (by decide))
  | adminInvalidOpcode _ opcode => exact execAdminInvalidOpcode_runs (opcode := opcode) (sub_reset all (by decide))
  | ioInvalidOpcode _ _ => exact execIoInvalidOpcode_runs (sub_reset all (by decide))
  | mailboxInvalidOpcode _ _ => exact execMailboxInvalidOpcode_runs (sub_reset all (by decide))
  | mctpUnsupportedMessage _ _ _ => exact execMctpUnsupportedMessage_runs (sub_reset all (by decide))
  | relayFrameCrcError down => exact execRelayFrameCrcError_runs (down := down) (mem_reset all (by decide))
  | eraseMinRunExpiry => exact execEraseMinRunExpiry_runs (sub_reset all (by decide))
  | storeOperationEnd _ => exact execStoreOperationEnd_runs (sub_reset all (by decide))
  | jtagAccess _ => exact execJtagAccess_runs (mem_reset all (by decide))
  | directWindowWrite _ _ _ => exact execDirectWindowWrite_runs (mem_reset all (by decide))
  | inboundMailboxWrite _ _ _ => exact execInboundMailboxWrite_runs (mem_reset all (by decide))

end

/-- Settles O57: every command runs on by updates of parts among which neither the queue nor the clock is. -/
theorem everyCommandRunsAndLeavesTheQueue : Obligations.EveryCommandRunsAndLeavesTheQueue := by
  intro c s
  obtain ⟨t, e, h⟩ := exec_runs (t := s) c
  exact ⟨t, e, h.keeps .pending (by decide), h.keeps .now (by decide)⟩

/-- A step runs on by updates of parts. -/
theorem step_within {s t : State} (h : step s = .next t) : ∃ L, Within L t s := by
  unfold step at h
  split at h
  · exact ⟨[.now], Host.Outcome.next.inj h ▸ State.tick_within (by decide)⟩
  next c rest e =>
    obtain ⟨u, e, k⟩ := exec_runs (t := { s with pending := rest }) c
    obtain rfl := Host.Outcome.next.inj (e.symm.trans h)
    exact ⟨.pending :: resetParts, (k.mono fun p => List.mem_cons_of_mem _).trans (.step (by simp) (.pending s _) .rfl)⟩

/-- Settles O58: a step updates parts, and updates keep the canonical form. -/
theorem everyStepKeepsTheCanonicalForm : Obligations.EveryStepKeepsTheCanonicalForm := by
  intro s t hs h
  obtain ⟨L, k⟩ := step_within h
  exact k.wf hs

theorem step_of_empty {s : State} (h : s.pending = []) : step s = .next s.tick := by
  unfold step
  split
  · rfl
  next e => exact nomatch h.symm.trans e

/-- Settles O56: a step is `exec` of the record in front, or a tick; the table spells no word. -/
theorem aStepRunsTheCommandInFront : Obligations.AStepRunsTheCommandInFront :=
  ⟨fun _ _ _ => rfl, fun _ h => step_of_empty h, fun _ _ _ => ⟨rfl, rfl⟩⟩

theorem State.rg_reset (r : Reg) (i : ℕ) : State.reset.rg r i = r.resetWord i := by
  have hnum : Reg.all[r.num]? = some r := by cases r <;> rfl
  have hlt : r.num < 256 := r.num_lt
  show regDefault (r.key i) = _
  unfold regDefault Reg.key
  rw [show (i * 256 + r.num) % 256 = r.num by omega, show (i * 256 + r.num) / 256 = i by omega, hnum]

/-- Settles O59: an unlisted register reads its reset word, and an unlisted class or map entry its reset record. -/
theorem resetLeavesTheStatedValues : Obligations.ResetLeavesTheStatedValues :=
  ⟨rfl, rfl, rfl, rfl, State.rg_reset, fun _ _ => ⟨rfl, rfl⟩, rfl, rfl, by decide, by decide, by decide, by decide,
    fun c _ => by
      rw [State.fld, State.rg_reset]
      exact (by decide : bits (Reg.resetWord .FCH_CFG 0) 3 0 = 11), fun _ => rfl, fun _ => rfl, rfl, rfl⟩

end Sys2Proof.Machine
end

section
/-! Syndromes: GF(2^8), byte lists, and the rebuilt positions of a double-parity row (R187, R197). -/

namespace Sys2Proof.Machine

/-- The XOR of what `g` gives at the members of a list. -/
def xorAll (g : ℕ → ℕ) (l : List ℕ) : ℕ := l.foldr (fun k a => g k ^^^ a) 0

section
variable {g g' : ℕ → ℕ} {l m : List ℕ} {k : ℕ}

@[simp] theorem xorAll_nil : xorAll g [] = 0 := rfl
@[simp] theorem xorAll_cons : xorAll g (k :: l) = g k ^^^ xorAll g l := rfl

theorem xorAll_append : xorAll g (l ++ m) = xorAll g l ^^^ xorAll g m := by
  induction l with
  | nil => simp
  | cons k l ih => simp [ih, Nat.xor_assoc]

theorem xorAll_xor : xorAll (fun k => g k ^^^ g' k) l = xorAll g l ^^^ xorAll g' l := by
  induction l with
  | nil => simp
  | cons k l ih =>
    simp only [xorAll_cons, ih]
    ac_rfl

theorem xorAll_congr (h : ∀ k ∈ l, g k = g' k) : xorAll g l = xorAll g' l := by
  induction l with
  | nil => rfl
  | cons k l ih =>
    obtain ⟨hk, hl⟩ := List.forall_mem_cons.1 h
    rw [xorAll_cons, xorAll_cons, hk, ih hl]

/-- A list's members fall into those with `p` and the others. -/
theorem xorAll_filter (p : ℕ → Bool) :
    xorAll g l = xorAll g (l.filter p) ^^^ xorAll g (l.filter fun k => !p k) := by
  induction l with
  | nil => simp
  | cons k l ih =>
    cases h : p k
    · rw [List.filter_cons_of_neg (by simp [h]), List.filter_cons_of_pos (by simp [h]), xorAll_cons, xorAll_cons, ih]
      ac_rfl
    · rw [List.filter_cons_of_pos (by simp [h]), List.filter_cons_of_neg (by simp [h]), xorAll_cons, xorAll_cons, ih]
      ac_rfl

theorem xorAll_lt (h : ∀ k ∈ l, g k < 256) : xorAll g l < 256 := by
  induction l with
  | nil => simp
  | cons k l ih =>
    obtain ⟨hk, hl⟩ := List.forall_mem_cons.1 h
    exact Nat.xor_lt_two_pow (n := 8) hk (ih hl)
end

/-! ### GF(2^8): a product is the XOR of one term for each bit of its second factor, hence additive in both factors -/

theorem gf2_lt {a : ℕ} (h : a < 256) : gf2 a < 256 := by
  unfold gf2
  split
  · omega
  · have high : (2 * a ^^^ 0x11D) / 2 ^ 8 = 0 := by
      rw [Nat.xor_div_two_pow, show 2 * a / 2 ^ 8 = 1 by omega]
      rfl
    exact (Nat.div_eq_zero_iff.1 high).resolve_left (by decide)

theorem gf2_eq {a : ℕ} (h : a < 256) : gf2 a = a <<< 1 ^^^ a / 2 ^ 7 * 0x11D := by
  unfold gf2
  split
  · rw [Nat.div_eq_of_lt (by omega), Nat.shiftLeft_eq]
    simp [Nat.mul_comm]
  · rw [show a / 2 ^ 7 = 1 by omega, Nat.shiftLeft_eq]
    simp [Nat.mul_comm]

theorem gf2_xor {a b : ℕ} (ha : a < 256) (hb : b < 256) : gf2 (a ^^^ b) = gf2 a ^^^ gf2 b := by
  have carry : (a / 2 ^ 7 ^^^ b / 2 ^ 7) * 0x11D = (a / 2 ^ 7 * 0x11D) ^^^ (b / 2 ^ 7 * 0x11D) := by
    have ha2 : a / 2 ^ 7 < 2 := by omega
    have hb2 : b / 2 ^ 7 < 2 := by omega
    generalize a / 2 ^ 7 = u at ha2 ⊢
    generalize b / 2 ^ 7 = v at hb2 ⊢
    interval_cases u <;> interval_cases v <;> rfl
  rw [gf2_eq (Nat.xor_lt_two_pow (n := 8) ha hb), gf2_eq ha, gf2_eq hb, Nat.shiftLeft_xor_distrib, Nat.xor_div_two_pow, carry]
  ac_rfl

theorem gf2_iterate_lt {a : ℕ} (h : a < 256) (i : ℕ) : gf2^[i] a < 256 := by
  induction i generalizing a with
  | zero => exact h
  | succ i ih => exact ih (gf2_lt h)

theorem gf2_iterate_xor {a b : ℕ} (ha : a < 256) (hb : b < 256) (i : ℕ) : gf2^[i] (a ^^^ b) = gf2^[i] a ^^^ gf2^[i] b := by
  induction i generalizing a b with
  | zero => rfl
  | succ i ih =>
    rw [Function.iterate_succ_apply, Function.iterate_succ_apply, Function.iterate_succ_apply, gf2_xor ha hb, ih (gf2_lt ha) (gf2_lt hb)]

/-- The term of bit `i` of `b` in the product of `a` and `b`. -/
def gfTerm (a b i : ℕ) : ℕ := if b.testBit i then gf2^[i] (a % 256) else 0

theorem gfMul_eq (a b : ℕ) : gfMul a b = xorAll (gfTerm a b) (List.range 8) := by
  have fold : ∀ n, (List.range n).foldl (fun (p : ℕ × ℕ) i => (if b / 2 ^ i % 2 = 1 then p.1 ^^^ p.2 else p.1, gf2 p.2)) (0, a % 256)
      = (xorAll (gfTerm a b) (List.range n), gf2^[n] (a % 256)) := by
    intro n
    induction n with
    | zero => rfl
    | succ n ih =>
      rw [List.range_succ, List.foldl_append, ih, xorAll_append, Function.iterate_succ_apply']
      simp only [List.foldl_cons, List.foldl_nil, xorAll_cons, xorAll_nil, Nat.xor_zero, gfTerm, Nat.testBit_eq_decide_div_mod_eq,
        decide_eq_true_eq]
      split <;> simp
  exact congrArg Prod.fst (fold 8)

theorem gfTerm_lt (a b i : ℕ) : gfTerm a b i < 256 := by
  unfold gfTerm
  split
  · exact gf2_iterate_lt (Nat.mod_lt _ (by decide)) i
  · decide

theorem gfMul_lt (a b : ℕ) : gfMul a b < 256 := gfMul_eq a b ▸ xorAll_lt fun i _ => gfTerm_lt a b i

theorem gfMul_xor_right (a b c : ℕ) : gfMul a (b ^^^ c) = gfMul a b ^^^ gfMul a c := by
  rw [gfMul_eq, gfMul_eq, gfMul_eq, ← xorAll_xor]
  refine xorAll_congr fun i _ => ?_
  unfold gfTerm
  rw [Nat.testBit_xor]
  cases b.testBit i <;> cases c.testBit i <;> simp

theorem gfMul_xor_left (a b c : ℕ) : gfMul (a ^^^ b) c = gfMul a c ^^^ gfMul b c := by
  rw [gfMul_eq, gfMul_eq, gfMul_eq, ← xorAll_xor]
  refine xorAll_congr fun i _ => ?_
  have lt : ∀ x, x % 256 < 256 := fun x => Nat.mod_lt _ (by decide)
  unfold gfTerm
  rw [show (a ^^^ b) % 256 = a % 256 ^^^ b % 256 from Nat.xor_mod_two_pow (n := 8), gf2_iterate_xor (lt a) (lt b)]
  split <;> simp

theorem gfMul_zero_right (a : ℕ) : gfMul a 0 = 0 := by
  have h := gfMul_xor_right a 0 0
  rwa [Nat.xor_self, Nat.xor_self] at h

/-- An additive function that keeps every bit is the identity on bytes. -/
theorem eq_self_of_bits {f : ℕ → ℕ} (add : ∀ a b, f (a ^^^ b) = f a ^^^ f b) (bit : ∀ i < 8, f (2 ^ i) = 2 ^ i) {a : ℕ}
    (h : a < 256) : f a = a := by
  have zero : f 0 = 0 := by simpa using add 0 0
  suffices upTo : ∀ n ≤ 8, ∀ a < 2 ^ n, f a = a from upTo 8 le_rfl a h
  intro n
  induction n with
  | zero =>
    intro _ a ha
    obtain rfl : a = 0 := by omega
    exact zero
  | succ n ih =>
    intro hn a ha
    by_cases small : a < 2 ^ n
    · exact ih (by omega) a small
    · have top : a / 2 ^ n = 1 := by
        rw [Nat.div_eq_iff (by positivity)]
        rw [Nat.pow_succ] at ha
        omega
      have low : a ^^^ 2 ^ n < 2 ^ n := by
        have : (a ^^^ 2 ^ n) / 2 ^ n = 0 := by
          rw [Nat.xor_div_two_pow, top, Nat.div_self (by positivity)]
          rfl
        exact (Nat.div_eq_zero_iff.1 this).resolve_left (by positivity)
      have split : f (a ^^^ 2 ^ n ^^^ 2 ^ n) = a ^^^ 2 ^ n ^^^ 2 ^ n := by
        rw [add, ih (by omega) _ low, bit n (by omega)]
      rwa [Nat.xor_xor_cancel_right] at split

/-- The weights of the sheets, and their sums in pairs, have inverses. -/
theorem gfInv_bits : (∀ s < 16, ∀ i < 8, gfMul (gfInv (gfWeight s)) (gfMul (gfWeight s) (2 ^ i)) = 2 ^ i) ∧
    ∀ s < 16, ∀ t < 16, s ≠ t → ∀ i < 8, gfMul (gfInv (gfWeight s ^^^ gfWeight t)) (gfMul (gfWeight s ^^^ gfWeight t) (2 ^ i)) = 2 ^ i := by
  decide +kernel

theorem gfInv_mul {w x : ℕ} (h : ∀ i < 8, gfMul (gfInv w) (gfMul w (2 ^ i)) = 2 ^ i) (hx : x < 256) : gfMul (gfInv w) (gfMul w x) = x :=
  eq_self_of_bits (f := fun x => gfMul (gfInv w) (gfMul w x)) (fun a b => by simp only [gfMul_xor_right]) h hx

/-! ### Byte lists -/

section
variable {a b c d : List ℕ} {n w : ℕ}

/-- A list of `n` bytes. -/
def IsBytes (n : ℕ) (a : List ℕ) : Prop := a.length = n ∧ ∀ x ∈ a, x < 256

/-- Byte `i` of a list; 0 beyond its end. -/
def byteAt (a : List ℕ) (i : ℕ) : ℕ := a.getD i 0

theorem IsBytes.byteAt_lt (h : IsBytes n a) (i : ℕ) : byteAt a i < 256 := by
  unfold byteAt
  rw [List.getD_eq_getElem?_getD]
  cases e : a[i]? with
  | none => decide
  | some x => exact h.2 x (List.mem_of_getElem? e)

theorem byteAt_of_length_le {i : ℕ} (h : a.length ≤ i) : byteAt a i = 0 := List.getD_eq_default _ _ h

/-- Lists of equal length with the same bytes are equal. -/
theorem eq_of_byteAt (hl : a.length = b.length) (h : ∀ i, byteAt a i = byteAt b i) : a = b := by
  refine List.ext_getElem hl fun i ha hb => ?_
  simpa [byteAt, List.getD_eq_getElem, ha, hb] using h i

theorem length_xorBytes : (xorBytes a b).length = max a.length b.length := by simp [xorBytes]

theorem byteAt_xorBytes (i : ℕ) : byteAt (xorBytes a b) i = byteAt a i % 256 ^^^ byteAt b i % 256 := by
  by_cases h : i < max a.length b.length
  · simp [byteAt, xorBytes, List.getD_eq_getElem?_getD, h]
  · rw [byteAt_of_length_le (by rw [length_xorBytes]; omega), byteAt_of_length_le (by omega), byteAt_of_length_le (by omega)]
    rfl

theorem length_gfScale : (gfScale w a).length = a.length := List.length_map ..

theorem byteAt_gfScale (i : ℕ) : byteAt (gfScale w a) i = gfMul w (byteAt a i % 256) := by
  unfold byteAt gfScale
  rw [List.getD_eq_getElem?_getD, List.getElem?_map, List.getD_eq_getElem?_getD]
  cases a[i]? with
  | none => exact (gfMul_zero_right w).symm
  | some x => rfl

theorem IsBytes.gfScale (h : IsBytes n a) : IsBytes n (gfScale w a) := by
  refine ⟨length_gfScale.trans h.1, fun x hx => ?_⟩
  obtain ⟨y, -, rfl⟩ := List.mem_map.1 hx
  exact gfMul_lt _ _

end

section
variable {f : ℕ → List ℕ} {l : List ℕ} {n : ℕ}

/-- The lists that `f` gives at the members of `l`, XORed. -/
def xorLists (f : ℕ → List ℕ) (l : List ℕ) : List ℕ := l.foldl (fun a k => xorBytes a (f k)) []

theorem byteAt_foldl_xorBytes (h : ∀ k ∈ l, IsBytes n (f k)) (a : List ℕ) (i : ℕ) (ha : byteAt a i < 256) :
    byteAt (l.foldl (fun a k => xorBytes a (f k)) a) i = byteAt a i ^^^ xorAll (fun k => byteAt (f k) i) l := by
  induction l generalizing a with
  | nil => simp
  | cons k l ih =>
    obtain ⟨hk, hl⟩ := List.forall_mem_cons.1 h
    have hb : byteAt (f k) i < 256 := hk.byteAt_lt i
    have e : byteAt (xorBytes a (f k)) i = byteAt a i ^^^ byteAt (f k) i := by
      rw [byteAt_xorBytes, Nat.mod_eq_of_lt ha, Nat.mod_eq_of_lt hb]
    rw [List.foldl_cons, ih hl _ (e ▸ Nat.xor_lt_two_pow (n := 8) ha hb), e, xorAll_cons, Nat.xor_assoc]

theorem byteAt_xorLists (h : ∀ k ∈ l, IsBytes n (f k)) (i : ℕ) : byteAt (xorLists f l) i = xorAll (fun k => byteAt (f k) i) l := by
  have e := byteAt_foldl_xorBytes h [] i (by simp [byteAt])
  simpa [byteAt, xorLists] using e

theorem byteAt_xorLists_lt (h : ∀ k ∈ l, IsBytes n (f k)) (i : ℕ) : byteAt (xorLists f l) i < 256 :=
  byteAt_xorLists h i ▸ xorAll_lt fun k hk => (h k hk).byteAt_lt i

theorem length_foldl_xorBytes (h : ∀ k ∈ l, IsBytes n (f k)) (a : List ℕ) :
    (l.foldl (fun a k => xorBytes a (f k)) a).length = if l = [] then a.length else max a.length n := by
  induction l generalizing a with
  | nil => rfl
  | cons k l ih =>
    obtain ⟨hk, hl⟩ := List.forall_mem_cons.1 h
    rw [List.foldl_cons, ih hl, length_xorBytes, hk.1]
    split <;> simp

theorem length_xorLists_le (h : ∀ k ∈ l, IsBytes n (f k)) : (xorLists f l).length ≤ n := by
  rw [xorLists, length_foldl_xorBytes h]
  split <;> simp

theorem length_xorLists (h : ∀ k ∈ l, IsBytes n (f k)) (hl : l ≠ []) : (xorLists f l).length = n := by
  rw [xorLists, length_foldl_xorBytes h, if_neg hl]
  simp

/-- The list of all, XORed with that of those without `p`, leaves that of those with `p`. -/
theorem byteAt_xorBytes_rest (h : ∀ k ∈ l, IsBytes n (f k)) (p : ℕ → Bool) (i : ℕ) :
    byteAt (xorBytes (xorLists f l) (xorLists f (l.filter fun k => !p k))) i = xorAll (fun k => byteAt (f k) i) (l.filter p) := by
  have hr : ∀ k ∈ l.filter fun k => !p k, IsBytes n (f k) := fun k hk => h k (List.mem_filter.1 hk).1
  rw [byteAt_xorBytes, Nat.mod_eq_of_lt (byteAt_xorLists_lt h i), Nat.mod_eq_of_lt (byteAt_xorLists_lt hr i), byteAt_xorLists h,
    byteAt_xorLists hr, xorAll_filter p, Nat.xor_assoc, Nat.xor_self, Nat.xor_zero]

theorem length_xorBytes_rest (h : ∀ k ∈ l, IsBytes n (f k)) (hl : l ≠ []) (p : ℕ → Bool) :
    (xorBytes (xorLists f l) (xorLists f (l.filter fun k => !p k))).length = n := by
  have hr := length_xorLists_le fun k hk => h k (List.mem_filter.1 hk : k ∈ l ∧ (!p k) = true).1
  rw [length_xorBytes, length_xorLists h hl]
  omega

end

section
variable {sheets erased : List ℕ} {row : List (List ℕ)} {p q n x y : ℕ}

/-- The bytes of a data position of a row, and those weighted for Q. -/
def rowBytes (row : List (List ℕ)) (sh : ℕ) : List ℕ := row.getD sh []
def rowWeighted (row : List (List ℕ)) (sh : ℕ) : List ℕ := gfScale (gfWeight sh) (rowBytes row sh)

/-- What the read positions leave of P and of Q: the sum of the erased data positions, plain and weighted. -/
def plainSyndrome (sheets : List ℕ) (row : List (List ℕ)) (erased : List ℕ) : List ℕ :=
  xorBytes (xorLists (rowBytes row) sheets) (xorLists (rowBytes row) (sheets.filter fun sh => !erased.contains sh))
def weightedSyndrome (sheets : List ℕ) (row : List (List ℕ)) (erased : List ℕ) : List ℕ :=
  xorBytes (xorLists (rowWeighted row) sheets) (xorLists (rowWeighted row) (sheets.filter fun sh => !erased.contains sh))

theorem rebuildRow_none (hP : row.getD p [] = xorLists (rowBytes row) sheets) (hQ : row.getD q [] = xorLists (rowWeighted row) sheets)
    (h : sheets.filter (fun sh => erased.contains sh) = []) : ∀ e ∈ rebuildRow sheets p q row erased, e.2 = row.getD e.1 [] := by
  have all : sheets.filter (fun sh => !erased.contains sh) = sheets := by
    rw [List.filter_eq_self]
    intro a ha
    simpa using List.filter_eq_nil_iff.1 h a ha
  intro e he
  simp only [rebuildRow, h, all, List.mem_append] at he
  rcases he with he | he
  · split at he
    · obtain rfl := List.mem_singleton.1 he
      exact hP.symm
    · exact nomatch he
  · split at he
    · obtain rfl := List.mem_singleton.1 he
      exact hQ.symm
    · exact nomatch he

theorem rebuildRow_one (hP : row.getD p [] = xorLists (rowBytes row) sheets) (hQ : row.getD q [] = xorLists (rowWeighted row) sheets)
    (h : sheets.filter (fun sh => erased.contains sh) = [x]) : rebuildRow sheets p q row erased =
      if erased.contains p then [(x, gfScale (gfInv (gfWeight x)) (weightedSyndrome sheets row erased))]
      else [(x, plainSyndrome sheets row erased)] := by
  simp only [rebuildRow, h, hP, hQ]
  rfl

theorem rebuildRow_two (hP : row.getD p [] = xorLists (rowBytes row) sheets) (hQ : row.getD q [] = xorLists (rowWeighted row) sheets)
    (h : sheets.filter (fun sh => erased.contains sh) = [x, y]) : rebuildRow sheets p q row erased =
      let d := gfScale (gfInv (gfWeight x ^^^ gfWeight y))
        (xorBytes (weightedSyndrome sheets row erased) (gfScale (gfWeight y) (plainSyndrome sheets row erased)))
      [(x, d), (y, xorBytes (plainSyndrome sheets row erased) d)] := by
  simp only [rebuildRow, h, hP, hQ]
  rfl

section
variable (hd : ∀ k ∈ sheets, IsBytes n (rowBytes row k))
include hd

theorem rowWeighted_isBytes : ∀ k ∈ sheets, IsBytes n (rowWeighted row k) := fun k hk => (hd k hk).gfScale

theorem byteAt_plainSyndrome (i : ℕ) : byteAt (plainSyndrome sheets row erased) i =
    xorAll (fun k => byteAt (rowBytes row k) i) (sheets.filter fun sh => erased.contains sh) :=
  byteAt_xorBytes_rest hd _ i

theorem byteAt_weightedSyndrome (i : ℕ) : byteAt (weightedSyndrome sheets row erased) i =
    xorAll (fun k => gfMul (gfWeight k) (byteAt (rowBytes row k) i)) (sheets.filter fun sh => erased.contains sh) := by
  rw [weightedSyndrome, byteAt_xorBytes_rest (rowWeighted_isBytes hd)]
  refine xorAll_congr fun k hk => ?_
  rw [rowWeighted, byteAt_gfScale, Nat.mod_eq_of_lt ((hd k (List.mem_filter.1 hk).1).byteAt_lt i)]

theorem length_plainSyndrome (hs : sheets ≠ []) : (plainSyndrome sheets row erased).length = n := length_xorBytes_rest hd hs _

theorem length_weightedSyndrome (hs : sheets ≠ []) : (weightedSyndrome sheets row erased).length = n :=
  length_xorBytes_rest (rowWeighted_isBytes hd) hs _

theorem solve_one_plain (h : sheets.filter (fun sh => erased.contains sh) = [x]) : plainSyndrome sheets row erased = rowBytes row x := by
  have hx : x ∈ sheets := (List.mem_filter.1 (h ▸ List.mem_singleton_self x)).1
  refine eq_of_byteAt ((length_plainSyndrome hd (List.ne_nil_of_mem hx)).trans (hd x hx).1.symm) fun i => ?_
  rw [byteAt_plainSyndrome hd, h]
  simp

theorem solve_one_weighted (h16 : ∀ k ∈ sheets, k < 16) (h : sheets.filter (fun sh => erased.contains sh) = [x]) :
    gfScale (gfInv (gfWeight x)) (weightedSyndrome sheets row erased) = rowBytes row x := by
  have hx : x ∈ sheets := (List.mem_filter.1 (h ▸ List.mem_singleton_self x)).1
  refine eq_of_byteAt ((length_gfScale.trans (length_weightedSyndrome hd (List.ne_nil_of_mem hx))).trans (hd x hx).1.symm) fun i => ?_
  rw [byteAt_gfScale, byteAt_weightedSyndrome hd, h]
  simp only [xorAll_cons, xorAll_nil, Nat.xor_zero, Nat.mod_eq_of_lt (gfMul_lt _ _)]
  exact gfInv_mul (gfInv_bits.1 x (h16 x hx)) ((hd x hx).byteAt_lt i)

theorem solve_two (h16 : ∀ k ∈ sheets, k < 16) (hxy : x ≠ y) (h : sheets.filter (fun sh => erased.contains sh) = [x, y]) :
    gfScale (gfInv (gfWeight x ^^^ gfWeight y))
      (xorBytes (weightedSyndrome sheets row erased) (gfScale (gfWeight y) (plainSyndrome sheets row erased))) = rowBytes row x := by
  have hx : x ∈ sheets := (List.mem_filter.1 (h ▸ List.mem_cons_self)).1
  have hy : y ∈ sheets := (List.mem_filter.1 (h ▸ List.mem_cons_of_mem x (List.mem_singleton_self y))).1
  have hs := List.ne_nil_of_mem hx
  refine eq_of_byteAt ?_ fun i => ?_
  · rw [length_gfScale, length_xorBytes, length_gfScale, length_weightedSyndrome hd hs, length_plainSyndrome hd hs, max_self]
    exact (hd x hx).1.symm
  · have hbx := (hd x hx).byteAt_lt i
    have hby := (hd y hy).byteAt_lt i
    rw [byteAt_gfScale, byteAt_xorBytes, byteAt_gfScale, byteAt_weightedSyndrome hd, byteAt_plainSyndrome hd, h]
    simp only [xorAll_cons, xorAll_nil, Nat.xor_zero]
    generalize byteAt (rowBytes row x) i = b at hbx ⊢
    generalize byteAt (rowBytes row y) i = c at hby ⊢
    have hbc : b ^^^ c < 256 := Nat.xor_lt_two_pow (n := 8) hbx hby
    have hq : gfMul (gfWeight x) b ^^^ gfMul (gfWeight y) c < 256 := Nat.xor_lt_two_pow (n := 8) (gfMul_lt _ _) (gfMul_lt _ _)
    have cancel : gfMul (gfWeight x) b ^^^ gfMul (gfWeight y) c ^^^ gfMul (gfWeight y) (b ^^^ c) = gfMul (gfWeight x ^^^ gfWeight y) b := by
      rw [gfMul_xor_right, gfMul_xor_left, Nat.xor_comm (gfMul (gfWeight y) b), ← Nat.xor_assoc, Nat.xor_xor_cancel_right]
    rw [Nat.mod_eq_of_lt hq, Nat.mod_eq_of_lt hbc, Nat.mod_eq_of_lt (gfMul_lt _ _), cancel, Nat.mod_eq_of_lt (gfMul_lt _ _)]
    exact gfInv_mul (gfInv_bits.2 x (h16 x hx) y (h16 y hy) hxy) hbx

theorem solve_two_other (h : sheets.filter (fun sh => erased.contains sh) = [x, y]) :
    xorBytes (plainSyndrome sheets row erased) (rowBytes row x) = rowBytes row y := by
  have hx : x ∈ sheets := (List.mem_filter.1 (h ▸ List.mem_cons_self)).1
  have hy : y ∈ sheets := (List.mem_filter.1 (h ▸ List.mem_cons_of_mem x (List.mem_singleton_self y))).1
  refine eq_of_byteAt ?_ fun i => ?_
  · rw [length_xorBytes, length_plainSyndrome hd (List.ne_nil_of_mem hx), (hd x hx).1, (hd y hy).1, max_self]
  · have hbx := (hd x hx).byteAt_lt i
    have hby := (hd y hy).byteAt_lt i
    rw [byteAt_xorBytes, byteAt_plainSyndrome hd, h]
    simp only [xorAll_cons, xorAll_nil, Nat.xor_zero]
    rw [Nat.mod_eq_of_lt (Nat.xor_lt_two_pow (n := 8) hbx hby), Nat.mod_eq_of_lt hbx, Nat.xor_comm (byteAt (rowBytes row x) i),
      Nat.xor_xor_cancel_right]
end

end

/-- Settles O32: what the read positions leave of P and Q is the sum, plain and weighted, of the erased data positions; one of them is solved
for by an inverse weight. -/
theorem twoErasuresAreRebuiltByteForByte : Obligations.TwoErasuresAreRebuiltByteForByte := by
  intro sheets p q n row erased hnd h16 hp hq hpq hd hP hQ hend hlen hin
  have few : (sheets.filter fun sh => erased.contains sh).length ≤ 2 :=
    ((hnd.filter _).subperm fun k hk => by simpa using (List.mem_filter.1 hk).2).length_le.trans hlen
  have among : ∀ x ∈ erased, x ∈ sheets → x ∈ sheets.filter fun sh => erased.contains sh := fun x hx hs =>
    List.mem_filter.2 ⟨hs, by simpa using hx⟩
  match h : sheets.filter fun sh => erased.contains sh with
  | [] => exact ⟨rebuildRow_none hP hQ h, fun x hx hs => absurd (h ▸ among x hx hs) List.not_mem_nil⟩
  | [x] =>
    rw [h] at among
    have e : rebuildRow sheets p q row erased = [(x, rowBytes row x)] := by
      rw [rebuildRow_one hP hQ h, solve_one_weighted hd h16 h, solve_one_plain hd h, ite_self]
    rw [e]
    exact ⟨by simp [rowBytes], among⟩
  | [x, y] =>
    rw [h] at among
    have hxy : x ≠ y := by
      have := h ▸ hnd.filter fun sh => erased.contains sh
      simpa using this
    have e : rebuildRow sheets p q row erased = [(x, rowBytes row x), (y, rowBytes row y)] := by
      rw [rebuildRow_two hP hQ h, solve_two hd h16 hxy h]
      simp only [solve_two_other hd h]
    rw [e]
    exact ⟨by simp [rowBytes], among⟩
  | x :: y :: z :: l =>
    rw [h] at few
    simp at few

end Sys2Proof.Machine
end

section
/-! What the shared operations leave: fields, event bits, answers. -/

namespace Sys2Proof.Machine

/-! ### Fields -/

section
variable {w : W32} {hi lo hi' lo' v : ℕ}

theorem getLsbD_fieldMask (i : ℕ) : (fieldMask hi lo).getLsbD i = decide (i < 32 ∧ lo ≤ i ∧ i < hi + 1) := by
  unfold fieldMask
  rw [BitVec.getLsbD_ofNat, Nat.testBit_mul_two_pow, Nat.testBit_two_pow_sub_one]
  by_cases h1 : i < 32 <;> by_cases h2 : lo ≤ i <;> simp [h1, h2]
  omega

theorem getLsbD_putBits (i : ℕ) : (putBits w hi lo v).getLsbD i =
    if i < 32 ∧ lo ≤ i ∧ i < hi + 1 then v.testBit (i - lo) else w.getLsbD i := by
  unfold putBits
  simp only [BitVec.getLsbD_or, BitVec.getLsbD_and, BitVec.getLsbD_not, getLsbD_fieldMask, BitVec.getLsbD_ofNat, Nat.testBit_mul_two_pow]
  by_cases h32 : i < 32
  · by_cases h : lo ≤ i ∧ i < hi + 1
    · simp [h32, h]
    · have hm : (decide (i < 32 ∧ lo ≤ i ∧ i < hi + 1)) = false := decide_eq_false fun k => h k.2
      simp only [hm, if_neg fun k : i < 32 ∧ lo ≤ i ∧ i < hi + 1 => h k.2]
      simp [h32]
  · simp [h32, BitVec.getLsbD_of_ge w i (by omega)]

theorem testBit_bits (i : ℕ) : (bits w hi lo).testBit i = (decide (i < hi + 1 - lo) && w.getLsbD (i + lo)) := by
  unfold bits
  rw [Nat.testBit_mod_two_pow, Nat.testBit_div_two_pow]
  rfl

/-- A field reads the value put into it, as far as it holds it. -/
theorem bits_putBits_self (h : hi < 32) : bits (putBits w hi lo v) hi lo = v % 2 ^ (hi + 1 - lo) := by
  refine Nat.eq_of_testBit_eq fun i => ?_
  rw [testBit_bits, getLsbD_putBits, Nat.testBit_mod_two_pow]
  by_cases hi' : i < hi + 1 - lo
  · rw [if_pos ⟨by omega, by omega, by omega⟩, Nat.add_sub_cancel]
  · simp [hi']

/-- A field keeps what it reads when another is put. -/
theorem bits_putBits_ne (h : hi < lo' ∨ hi' < lo) : bits (putBits w hi lo v) hi' lo' = bits w hi' lo' := by
  refine Nat.eq_of_testBit_eq fun i => ?_
  rw [testBit_bits, testBit_bits, getLsbD_putBits]
  by_cases hi' : i < hi' + 1 - lo'
  · rw [if_neg (by omega)]
  · simp [hi']

end

section
variable {s t : State} {f g : Fld} {i j n v : ℕ} {L : List Part}

theorem State.fld_setFld (h : f.hi < 32) : (s.setFld f i v).fld f i = v % 2 ^ (f.hi + 1 - f.lo) := by
  rw [State.fld, State.setFld, State.rg_setReg_self, bits_putBits_self h]

theorem State.fld_setFld_ne (h : f.reg ≠ g.reg ∨ i ≠ j ∨ f.hi < g.lo ∨ g.hi < f.lo) : (s.setFld f i v).fld g j = s.fld g j := by
  unfold State.fld State.setFld
  by_cases e : f.reg = g.reg ∧ i = j
  · obtain ⟨er, rfl⟩ := e
    rw [← er, State.rg_setReg_self, bits_putBits_ne]
    exact (h.resolve_left fun k => k er).resolve_left fun k => k rfl
  · rw [State.rg_setReg_ne _ (by
      by_contra k
      rw [not_or, not_not, not_not] at k
      exact e ⟨k.1.symm, k.2.symm⟩)]

/-- A field of a register that an update leaves alone. -/
theorem State.fld_eq_of_rg (h : s.rg f.reg i = t.rg f.reg i) : s.fld f i = t.fld f i := by rw [State.fld, State.fld, h]

theorem Within.fld (h : Within L t s) (hf : .reg f.reg ∉ L) : t.fld f i = s.fld f i := State.fld_eq_of_rg (h.keeps (.reg f.reg) hf i)
theorem Within.unit {b : ℕ} (h : Within L t s) (hf : .flt ∉ L) : t.unit b i = s.unit b i := by
  rw [State.unit, State.unit, show t.flt = s.flt from h.keeps .flt hf]

theorem State.fld_bump (h : f.hi < 32) : (s.bump f i n).fld f i = satAdd (2 ^ (f.hi + 1 - f.lo) - 1) (s.fld f i) n := by
  rw [State.bump, State.fld_setFld h, Nat.mod_eq_of_lt]
  have : 0 < 2 ^ (f.hi + 1 - f.lo) := by positivity
  unfold satAdd
  omega

theorem State.fld_bump_ne (h : f.reg ≠ g.reg ∨ i ≠ j ∨ f.hi < g.lo ∨ g.hi < f.lo) : (s.bump f i n).fld g j = s.fld g j :=
  State.fld_setFld_ne h

/-- An event bit is set after its event. -/
theorem State.fld_event {sub : ℕ} (h : f.hi < 32) (one : f.lo = f.hi) (hr : .reg f.reg ∉ eventParts) : (s.event f i sub).fld f i = 1 := by
  unfold State.event
  split
  · assumption
  · extract_lets s1 n s2 s3
    have set : s1.fld f i = 1 := by rw [State.fld_setFld h, one, Nat.add_sub_cancel_left]; rfl
    have h2 : Within eventParts s2 s1 := .ite (State.emit_within (by decide)) .rfl
    have h3 : Within eventParts s3 s1 := (Within.ite (State.record_within (by decide)) .rfl).trans h2
    have h4 : Within eventParts (if n.vector = 1 then s3.signalPfs else if n.vector = 2 then s3.signalMbx i else s3) s1 :=
      (Within.ite (State.signalPfs_within (by decide) (by decide)) (.ite (State.signalMbx_within (by decide) (by decide)) .rfl)).trans h3
    rw [h4.fld hr, set]

end

/-! ### Answers -/

section
variable {s t u v : State} {o : Out} {q : MbxReq} {f : ReqForm} {op st : ℕ} {a : Bool} {l : List ℕ} {body : State → State}

/-- An answer that joins the record, whatever joins it before and after. -/
theorem sent_of_suffix (before : s.out <:+ v.out) (after : o :: v.out <:+ t.out) : sent s t o := by
  obtain ⟨l, hl⟩ := before
  obtain ⟨m, hm⟩ := after
  exact ⟨m ++ o :: l, by rw [← hm, ← hl, List.append_assoc, List.cons_append], by simp⟩

theorem sent.mono (h : sent s t o) (before : v.out <:+ s.out) (after : t.out <:+ u.out) : sent v u o := by
  obtain ⟨l, hl, ho⟩ := h
  obtain ⟨m, hm⟩ := before
  obtain ⟨n, hn⟩ := after
  exact ⟨n ++ l ++ m, by rw [← hn, hl, ← hm]; simp, by simp [ho]⟩

theorem carriedOut.serve_eq (h : carriedOut s q f) : s.serve q f body = body s := by
  obtain ⟨served, ended, -, passes⟩ := h
  simp [State.serve, served, ended, passes]

theorem State.postSegment_out {p : ℕ} {r : RespBuf} :
    .mbxSegment p (mbHeader r.version r.opcode r.tag r.status r.length (!(r.left.drop 4080).isEmpty) r.isAsync false ++ r.left.take 4080) ::
      s.out <:+ (s.postSegment p r).out := by
  unfold State.postSegment
  extract_lets m now rest more seg u
  exact (State.mbEvent_within (L := mbxParts) (t := u.emit (.mbxSegment p seg)) rfl fun _ h => h).out_suffix

theorem foldl_emit_out {p : ℕ} {m : List (List ℕ)} : s.out <:+ (m.foldl (fun s b => s.emit (.mbxSegment p b)) s).out :=
  (Within.foldl (L := [.out]) fun _ _ => State.emit_within fun _ h => h).out_suffix

theorem State.alert_out {k : ℕ} : s.out <:+ (s.alert k).out :=
  (State.alert_within (L := mbxParts) (by decide) (by decide) (by decide)).out_suffix

/-- The first segment of a response leaves with its header and its first bytes, unless the function has been reset meanwhile. -/
theorem State.respond_sent (h : (s.mb q.path).dropResp = false) : answers s (s.respond q op st a l) q op st a l := by
  have more : decide (4080 < l.length) = !(l.drop 4080).isEmpty := by
    rw [Bool.eq_iff_iff]
    simp
  unfold answers State.respond
  rw [more]
  extract_lets m r u w
  have kept : ¬m.dropResp = true := by simpa [m] using h
  refine sent_of_suffix (List.suffix_refl s.out) ?_
  rw [if_neg kept]
  split
  · exact State.postSegment_out (s := u) (r := r)
  · refine List.IsSuffix.trans ?_ State.alert_out
    exact foldl_emit_out (s := u.emit (.mbxSegment q.path _)) (m := if (!(l.drop 4080).isEmpty) = true then _ else [])

/-- A response whose mailbox its body has left as it was. -/
theorem carriedOut.respond_answers (h : carriedOut s q f) (hm : u.mb q.path = s.mb q.path) (ho : s.out <:+ u.out) :
    answers s (u.respond q op st a l) q op st a l := by
  obtain ⟨-, -, drop, -⟩ := h
  have h := State.respond_sent (s := u) (q := q) (op := op) (st := st) (a := a) (l := l) (by rw [hm, drop])
  unfold answers at h ⊢
  rw [hm] at h
  exact h.mono ho (List.suffix_refl _)

end

end Sys2Proof.Machine
end

section
/-! What a fault report and a fence leave in the words of a unit. -/

namespace Sys2Proof.Machine

/-- A table whose values are all changed by one function. -/
theorem tabFind_mapVal {α β : Type} (g : α → β) (m : Tab α) (k : ℕ) : tabFind (m.map fun e => (e.1, g e.2)) k = (tabFind m k).map g := by
  induction m with
  | nil => rfl
  | cons e m ih =>
    rw [List.map_cons, tabFind, tabFind]
    split
    · rfl
    · exact ih

theorem tabGet_mapVal {α : Type} {d : ℕ → α} {g : α → α} {m : Tab α} {k : ℕ} :
    tabGet d (m.map fun e => (e.1, g e.2)) k = tabGet d m k ∨ tabGet d (m.map fun e => (e.1, g e.2)) k = g (tabGet d m k) := by
  unfold tabGet
  rw [tabFind_mapVal]
  cases tabFind m k with
  | none => exact .inl rfl
  | some v => exact .inr rfl

section
variable {s t : State} {b i b' i' n : ℕ} {L : List Part}

/-- Two names of one place, where both name a unit within its block's span. -/
theorem unitKey_inj (hi : i < 4096) (hi' : i' < 4096) : unitKey b i = unitKey b' i' ↔ b = b' ∧ i = i' := by
  unfold unitKey
  omega

theorem unitCount_le : unitCount b ≤ 512 := by
  unfold unitCount
  split <;> omega

theorem State.unit_eq_of_flt (h : s.flt = t.flt) : s.unit b i = t.unit b i := by rw [State.unit, State.unit, h]
theorem Within.fenced (h : Within L t s) (hf : .flt ∉ L) : t.fenced b i = s.fenced b i := by rw [State.fenced, State.fenced, h.unit hf]

/-- What a unit's words are when only its isolation may have changed. -/
def FltUnit.sameFault (u v : FltUnit) : Prop := ∃ x, v = { u with isolated := x }

theorem FltUnit.sameFault.refl (u : FltUnit) : u.sameFault u := ⟨u.isolated, rfl⟩
theorem FltUnit.sameFault.of_eq {u v : FltUnit} (h : v = u) : u.sameFault v := h ▸ .refl u
theorem FltUnit.sameFault.trans {u v w : FltUnit} (h : u.sameFault v) (k : v.sameFault w) : u.sameFault w := by
  obtain ⟨_, rfl⟩ := h
  obtain ⟨x, rfl⟩ := k
  exact ⟨x, rfl⟩

theorem State.unit_setUnit_of_ne {u : FltUnit} (h : unitKey b' i' ≠ unitKey b i) : (s.setUnit b i u).unit b' i' = s.unit b' i' :=
  tabGet_set_ne _ _ _ h

theorem State.unisolate_sameFault : (s.unit b' i').sameFault ((s.unisolate b i).unit b' i') := by
  unfold State.unisolate
  extract_lets u s1
  have h1 : (s.unit b' i').sameFault (s1.unit b' i') := by
    by_cases k : unitKey b' i' = unitKey b i
    · have e : s.unit b' i' = s.unit b i := by rw [State.unit, State.unit, k]
      refine ⟨false, ?_⟩
      rw [State.unit, k, ← State.unit, State.unit_setUnit, e]
    · exact .of_eq (State.unit_setUnit_of_ne k)
  split
  · exact h1
  · exact h1

theorem State.abortTest_sameFault {x : Test} {r : ℕ} : (s.unit b i).sameFault ((s.abortTest x r).unit b i) := by
  unfold State.abortTest
  extract_lets src s1 s2
  have h1 : (s.unit b i).sameFault ((s1.unisolate x.block x.inst).unit b i) := State.unisolate_sameFault (s := s1)
  have h2 : s2.unit b i = (s1.unisolate x.block x.inst).unit b i :=
    (State.returnHome_within (L := [.out, .fns, .plt, .par, .trv]) fun _ h => h).unit (by decide)
  have h3 : Within (.reg .SRV_EVENTS :: .reg .SRV_LAST_UNIT :: .reg .SRV_LAST_SIG_LO :: .reg .SRV_LAST_SIG_HI :: .gaz :: .reg .GAZ_COUNTS :: mbxParts)
      (((s2.lastTest x 3 0).event F.SRV_EVENTS_ABORTED 0 0).opDone x.handle r []) s2 :=
    (State.opDone_within (by decide)).trans ((State.event_within (by decide) (by decide)).trans (State.lastTest_within (by decide)))
  exact h1.trans (.of_eq ((h3.unit (by decide)).trans h2))

theorem State.abortTests_sameFault {p : State → Test → Bool} {r : ℕ} : (s.unit b i).sameFault ((s.abortTests p r).unit b i) := by
  unfold State.abortTests
  generalize s.srv.running = l
  suffices key : ∀ u : State, (s.unit b i).sameFault (u.unit b i) →
      (s.unit b i).sameFault ((l.foldl (fun (s : State) t => if !t.requal && p s t then s.abortTest t r else s) u).unit b i) from
    key s (.refl _)
  induction l with
  | nil => exact fun _ h => h
  | cons x l ih =>
    intro u h
    refine ih _ ?_
    beta_reduce
    split
    · exact h.trans State.abortTest_sameFault
    · exact h


/-- The dies whose move finds no engine are of the channel. -/
theorem State.moveDies_left {f : Bool} {d : ℕ} (h : d ∈ (s.moveDies i f).2) : dieChan d = i / 4 := by
  unfold State.moveDies at h
  extract_lets c at h
  have key : ∀ (l : List ℕ) (a : State × List ℕ), (∀ k ∈ l, k < 16) → (∀ d ∈ a.2, dieChan d = c) →
      ∀ d ∈ (l.foldl (fun (a : State × List Nat) k =>
        let d := 16 * c + k
        let s := a.1
        if s.owner d = i % 4 ∧ (s.dieOf d).present ∧ (s.dieOf d).fenced = false then
          match s.newOwner d with
          | some e => (if f then s.takeDie d e else s.orderlyMove d e, a.2)
          | none => (s, a.2 ++ [d])
        else a) a).2, dieChan d = c := by
    intro l
    induction l with
    | nil => exact fun _ _ h => h
    | cons k l ih =>
      intro a hl ha
      refine ih _ (fun k hk => hl k (List.mem_cons_of_mem _ hk)) ?_
      have hk := hl k List.mem_cons_self
      beta_reduce
      extract_lets d s
      split
      · split
        · exact ha
        · intro e he
          rcases List.mem_append.mp he with he | he
          · exact ha e he
          · rw [List.mem_singleton.mp he]
            show (16 * c + k) / 16 = c
            omega
      · exact ha
  exact key _ _ (fun k hk => List.mem_range.mp hk) (by simp) d h

theorem State.fenceLeft_unit {ds : List ℕ} (h : ∀ d ∈ ds, unitKey b i ≠ unitKey 0x0A0 (dieChan d)) : (s.fenceLeft ds).unit b i = s.unit b i := by
  unfold State.fenceLeft
  induction ds generalizing s with
  | nil => rfl
  | cons d ds ih =>
    rw [List.foldl_cons, ih fun e he => h e (List.mem_cons_of_mem _ he)]
    extract_lets u s1
    have hw : Within (fenceDieParts ++ recordParts) ((s1.record 0x0A0 (dieChan d) 3 0x100F d).fenceDie d) s1 :=
      (State.fenceDie_within (by decide)).trans (State.record_within (by decide))
    rw [hw.unit (by decide)]
    exact State.unit_setUnit_of_ne (h d List.mem_cons_self)

/-- The effect of a fence leaves the unit's own words. -/
theorem State.fenceEffect_unit (hi : i < unitCount b) : (s.fenceEffect b i).unit b i = s.unit b i := by
  have le : i < 4096 := lt_of_lt_of_le hi (le_trans unitCount_le (by decide))
  have other : ∀ {t : State} {c k : ℕ} {u : FltUnit}, c ≠ b → k < 4096 → (t.setUnit c k u).unit b i = t.unit b i := fun hc hk =>
    State.unit_setUnit_of_ne fun e => hc ((unitKey_inj le hk).mp e).1.symm
  unfold State.fenceEffect
  split
  · exact (State.linkDown_within (L := linkDownParts) fun _ h => h).unit (by decide)
  · split
    · exact (State.moveFns_within (L := [.fns, .plt]) fun _ h => h).unit (by decide)
    · rw [(State.linkDown_within (L := linkDownParts) fun _ h => h).unit (by decide)]
      exact other (by decide) (by omega)
  · exact (State.fenceAtlas_within (L := fenceAtlasParts) fun _ h => h).unit (by decide)
  · exact (State.fenceDram_within (L := fenceDramParts) fun _ h => h).unit (by decide)
  · extract_lets s1
    have h1 : s1.unit 0x080 i = s.unit 0x080 i :=
      (State.event_within (L := .reg .CIP_EVENTS :: eventParts) (by decide) (by decide)).unit (by decide)
    split
    · exact h1
    · exact h1
  · exact (State.fenceChannel_within (L := fenceChannelParts) fun _ h => h).unit (by decide)
  · split
    · rfl
    · rw [(State.fenceChannel_within (L := fenceChannelParts) fun _ h => h).unit (by decide)]
      exact other (by decide) (by omega)
  · extract_lets r
    rw [State.fenceLeft_unit fun d hd => by
      rw [State.moveDies_left hd, Ne, unitKey_inj le (by omega)]
      omega]
    exact (State.moveDies_within (L := takeDieParts) fun _ h => h).unit (by decide)
  · extract_lets s1 u s2
    have h1 : s1.unit 0x0B0 i = s.unit 0x0B0 i := (State.fenceLane_within (L := iuLostParts) fun _ h => h).unit (by decide)
    split
    · rw [(State.fenceChannel_within (L := fenceChannelParts) fun _ h => h).unit (by decide)]
      refine (other (by decide) (by omega)).trans ?_
      rw [(State.record_within (L := recordParts) fun _ h => h).unit (by decide)]
      exact (other (by decide) (by omega)).trans h1
    · exact h1
  · exact (State.fenceBay_within (L := fenceBayParts) fun _ h => h).unit (by decide)
  · rfl


theorem State.raise_plain {c x : ℕ} {j : Bool} (hi : i < unitCount b) (iso : (s.unit b i).isolated = false) (hf : s.fenced b i = false) :
    s.raise ⟨b, i, c, x, j, none⟩ = match faultClass b c with
      | .corrected => s.correctedFault ⟨b, i, c, x, j, none⟩
      | .contained => s.containedFault ⟨b, i, c, x, j, none⟩
      | .unit => s.unitFault ⟨b, i, c, x, j, none⟩
      | .device => s.deviceFault ⟨b, i, c, x, j, none⟩
      | .partnerFenced => s := by
  have hf' : (s.unit b i).fenced = false := hf
  simp [State.raise, iso, hf', Nat.not_le.mpr hi] <;> rfl

theorem State.raise_isolated {r : FaultReport} (iso : (s.unit r.block r.inst).isolated = true) : s.raise r = s := by
  simp [State.raise, iso]

/-- FENCE of a unit in service is its UNIT-class fault, with the fence's own effect (R542, R543). -/
theorem State.softFence_eq (hb : hasFence b = true) (hi : i < unitCount b) (iso : (s.unit b i).isolated = false) (hf : s.fenced b i = false)
    (few : s.tooFew b = false) :
    s.softFence b i = (((s.unitNotice ⟨b, i, 0x16, 0, false, none⟩).markFenced b i).fenceEffect b i).abortStranded b := by
  have c : faultClass b 0x16 = .unit := by simp [faultClass, causeClass, hb]
  have sub : ¬isSubUnit 0x16 = true := by decide
  rw [State.softFence, if_pos (by simp [hb, unitOk, hf, hi]), State.raiseAt, State.raise_plain hi iso hf, c]
  dsimp only [State.unitFault]
  rw [if_neg sub, if_neg (by simp [few])]

theorem State.pulse_spec (s : State) :
    (s.fld F.FLT_PIN_CTL_ARMED 0 = 1 → s.pin.pulsing = false → s.pulse.pin.pulsing = true ∧ s.pulse.fld F.FLT_PIN_CTL_ARMED 0 = 0) ∧
    (s.fld F.FLT_PIN_CTL_ARMED 0 ≠ 1 ∨ s.pin.pulsing = true → s.pulse = s) := by
  unfold State.pulse
  constructor
  · intro ha hp
    rw [if_pos ⟨ha, hp⟩]
    have set : (s.setFld F.FLT_PIN_CTL_ARMED 0 0).fld F.FLT_PIN_CTL_ARMED 0 = 0 := State.fld_setFld (by decide)
    exact ⟨rfl, (State.fld_eq_of_rg rfl).trans set⟩
  · intro h
    rw [if_neg]
    rintro ⟨ha, hp⟩
    rcases h with h | h
    · exact h ha
    · rw [hp] at h
      exact Bool.false_ne_true h

/-- A UNIT-class fault moves the pin as a pulse would from the state it meets. -/
theorem State.unitNotice_pin {r : FaultReport} : ∃ u, Within (.flt :: recordParts) u s ∧ Within recordParts (s.unitNotice r) u.pulse ∧
    u.unit r.block r.inst = (s.unit r.block r.inst).mark .unit r.cause r.injected := by
  unfold State.unitNotice
  extract_lets u s1 s2 s3
  have h1 : Within (.flt :: recordParts) s1 s := State.setUnit_within (by decide)
  have h3 : Within recordParts s3 s1 :=
    (State.emit_within (by decide)).trans ((State.emit_within (by decide)).trans (State.record_within (by decide)))
  refine ⟨s3, (h3.mono (by decide)).trans h1, State.alert_within (by decide) (by decide) (by decide), ?_⟩
  rw [h3.unit (by decide), State.unit_setUnit]

theorem otherUnits_of {u : State} {w : FltUnit} (h : Within L t (u.setUnit b i w)) (hf : .flt ∉ L) (hu : u.flt = s.flt) :
    otherUnits s t b i := fun _ _ k =>
  (h.unit hf).trans ((State.unit_setUnit_of_ne k).trans (State.unit_eq_of_flt hu))

theorem State.setUnit_fenced {w : FltUnit} (h : (s.unit b i).fenced = w.fenced) (b' i' : ℕ) : (s.setUnit b i w).fenced b' i' = s.fenced b' i' := by
  by_cases k : unitKey b' i' = unitKey b i
  · rw [State.fenced, State.fenced, State.unit, State.unit, k, ← State.unit, ← State.unit, State.unit_setUnit, h]
  · rw [State.fenced, State.unit_setUnit_of_ne k, State.fenced]

end

end Sys2Proof.Machine
end

section
/-! The FAULT_N pin (O1). -/

namespace Sys2Proof.Machine

theorem State.faultNLow_eq {s : State} (h : s.pwr.mode ≠ .stopped) (h' : s.pwr.mode ≠ .vault) (ht : s.start.testHeld = false) :
    s.faultNLow = (s.pin.pulsing || decide (s.fld F.FLT_PIN_CTL_LEVEL 0 = 1)) := by
  unfold State.faultNLow
  split
  · contradiction
  · contradiction
  · rw [ht, Bool.false_or]

/-- Settles O1: the pulse of a UNIT-class fault is the one place of FENCE that moves the pin. -/
theorem faultPinFollowsLevelAndPulsesOnce : Obligations.FaultPinFollowsLevelAndPulsesOnce := by
  unfold Obligations.FaultPinFollowsLevelAndPulsesOnce
  refine ⟨fun s b hst hva hth => ⟨?_, ?_, ?_⟩, fun s b i hb hi hf iso few => ?_⟩
  · refine ⟨_, rfl, rfl, ?_, Within.keeps (.step (by decide) (.pin s _) .rfl)⟩
    exact State.faultNLow_eq (s := { s with pin := _ }) hst hva hth
  · have level : (s.setFld F.FLT_PIN_CTL_LEVEL 0 (b2n b)).fld F.FLT_PIN_CTL_LEVEL 0 = b2n b := by
      rw [State.fld_setFld (by decide)]
      cases b <;> rfl
    have low : (s.setFld F.FLT_PIN_CTL_LEVEL 0 (b2n b)).faultNLow = (s.pin.pulsing || b) := by
      refine (State.faultNLow_eq (s := s.setFld _ _ _) hst hva hth).trans ?_
      rw [level]
      cases b <;> rfl
    refine ⟨_, rfl, fun hp => ?_, fun hp => ?_, level, ?_, ?_, Within.keeps (State.setFld_within (by decide))⟩
    · rw [low, hp, Bool.false_or]
    · rw [low, hp, Bool.true_or]
    · exact State.fld_setFld_ne (by decide)
    · exact State.fld_setFld_ne (by decide)
  · have level : s.rearm.fld F.FLT_PIN_CTL_LEVEL 0 = s.fld F.FLT_PIN_CTL_LEVEL 0 :=
      (State.fld_setFld_ne (by decide)).trans (State.fld_setFld_ne (by decide))
    refine ⟨_, rfl, ?_, ?_, ?_, Within.keeps (State.rearm_within (by decide))⟩
    · exact (State.fld_setFld_ne (by decide)).trans (State.fld_setFld (by decide))
    · rw [State.faultNLow_eq hst hva hth, ← level]
      exact State.faultNLow_eq (s := s.rearm) hst hva hth
    · exact (State.fld_setFld_ne (by decide)).trans (State.fld_setFld_ne (by decide))
  · have hasF : hasFence b = true := by rcases hb with rfl | rfl <;> rfl
    have same : ∀ t : State, t.fenceEffect b i = t := by rcases hb with rfl | rfl <;> exact fun _ => rfl
    obtain ⟨u, hu, hn, -⟩ := State.unitNotice_pin (s := s) (r := ⟨b, i, 0x16, 0, false, none⟩)
    obtain ⟨pulses, still⟩ := u.pulse_spec
    have after : Within (recordParts ++ abortTestParts) (s.softFence b i) u.pulse := by
      rw [State.softFence_eq hasF hi iso hf few, same]
      exact (State.abortStranded_within (by decide)).trans (.trans (State.setUnit_within (by decide)) (hn.mono (by decide)))
    have armed : u.fld F.FLT_PIN_CTL_ARMED 0 = s.fld F.FLT_PIN_CTL_ARMED 0 := hu.fld (by decide)
    have pin : u.pin = s.pin := hu.keeps .pin (by decide)
    have armed' : (s.softFence b i).fld F.FLT_PIN_CTL_ARMED 0 = u.pulse.fld F.FLT_PIN_CTL_ARMED 0 := after.fld (by decide)
    have pin' : (s.softFence b i).pin = u.pulse.pin := after.keeps .pin (by decide)
    rw [armed, pin] at pulses still
    refine ⟨_, rfl, ?_, ?_, ?_⟩ <;> rw [armed', pin']
    · exact pulses
    · intro h
      rw [still (.inl (by omega)), armed, pin]
      exact ⟨rfl, h⟩
    · intro h
      rw [still (.inr h), armed, pin]
      exact ⟨h, rfl⟩

end Sys2Proof.Machine
end

section
/-! Fault counts, fences and indications (O2). -/

namespace Sys2Proof.Machine

section
variable {s : State} {b i c sub : ℕ}

theorem FltUnit.mark_bit {u : FltUnit} {k : FClass} {j : Bool} : (u.mark k c j).ev.getLsbD k.bit = true := by
  have : k.bit < 32 := by cases k <;> decide
  simp [FltUnit.mark, getLsbD_putBits, this]

/-- What a CORRECTED fault leaves in its unit's words (R535). -/
theorem State.correctedFault_spec {r : FaultReport} (s : State) : ∃ w, Within recordParts (s.correctedFault r) (s.setUnit r.block r.inst w) ∧
    w.corr = satAdd 255 (s.unit r.block r.inst).corr 1 ∧ w.cont = (s.unit r.block r.inst).cont ∧ w.lastClass = 1 ∧ w.lastCause = r.cause ∧
    w.ev.getLsbD 3 = true ∧ w.fenced = (s.unit r.block r.inst).fenced := by
  unfold State.correctedFault
  extract_lets u due n src u' s1
  exact ⟨u', .ite (State.record_within (by decide)) .rfl, rfl, rfl, rfl, rfl, FltUnit.mark_bit (c := r.cause) (k := .corrected), rfl⟩

theorem State.containedFault_spec {r : FaultReport} (s : State) : ∃ w, Within recordParts (s.containedFault r) (s.setUnit r.block r.inst w) ∧
    w.cont = satAdd 255 (s.unit r.block r.inst).cont 1 ∧ w.corr = (s.unit r.block r.inst).corr ∧ w.lastClass = 2 ∧ w.lastCause = r.cause ∧
    w.ev.getLsbD 4 = true ∧ w.fenced = (s.unit r.block r.inst).fenced := by
  unfold State.containedFault
  extract_lets u s1
  exact ⟨_, State.record_within (by decide), rfl, rfl, rfl, rfl, FltUnit.mark_bit (c := r.cause) (k := .contained), rfl⟩

/-- FENCE of a unit in service: its words after the effect and the tests it strands. -/
theorem State.softFence_unit (hb : hasFence b = true) (hi : i < unitCount b) (iso : (s.unit b i).isolated = false) (hf : s.fenced b i = false)
    (few : s.tooFew b = false) : (s.softFence b i).fenced b i = true ∧ ((s.softFence b i).unit b i).ind = true ∧
    ((s.softFence b i).unit b i).lastCause = 0x16 ∧ ((s.softFence b i).unit b i).lastClass = 3 ∧
    ((s.softFence b i).unit b i).ev.getLsbD 5 = true := by
  rw [State.softFence_eq hb hi iso hf few, State.fenced]
  obtain ⟨u, -, hn, hu⟩ := State.unitNotice_pin (s := s) (r := ⟨b, i, 0x16, 0, false, none⟩)
  generalize s.unitNotice ⟨b, i, 0x16, 0, false, none⟩ = v at hn
  have hv : v.unit b i = (s.unit b i).mark .unit 0x16 false := by
    rw [hn.unit (by decide), (State.pulse_within (L := [.pin, .reg .FLT_PIN_CTL]) (by decide)).unit (by decide), hu]
  obtain ⟨x, hx⟩ : ((v.markFenced b i).unit b i).sameFault ((((v.markFenced b i).fenceEffect b i).abortStranded b).unit b i) := by
    rw [← State.fenceEffect_unit hi]
    exact State.abortTests_sameFault
  have marked : (v.markFenced b i).unit b i = { v.unit b i with fenced := true, ind := true, causes := [(v.unit b i).lastCause] } :=
    State.unit_setUnit ..
  rw [hx, marked, hv]
  exact ⟨rfl, rfl, rfl, rfl, FltUnit.mark_bit (c := 0x16) (k := .unit)⟩

theorem State.countTileCe_counts (iso : (s.unit b i).isolated = false) (hb : b = 0x060) (hc : c = 0x01) :
    (s.countTileCe ⟨b, i, c, sub, false, none⟩).fld F.TIL_ECC_CE 0 = satAdd 0xFFFF (s.fld F.TIL_ECC_CE 0) 1 := by
  unfold State.countTileCe
  rw [if_pos ⟨hb, hc, iso⟩]
  exact State.fld_bump (by decide)

theorem State.countTileCe_same (h : (s.unit b i).isolated = true ∨ c ≠ 0x01) : s.countTileCe ⟨b, i, c, sub, false, none⟩ = s := by
  unfold State.countTileCe
  rw [if_neg]
  rintro ⟨-, hc, iso⟩
  rcases h with h | h
  · exact Bool.false_ne_true (iso.symm.trans h)
  · exact h hc

/-- The partners a unit remembers, without one of them. -/
def FltUnit.forget (k : ℕ) (u : FltUnit) : FltUnit := { u with partners := u.partners.filter fun j => decide (j ≠ k) }

end

/-- Settles O2: a report changes the words of its own unit and a record; the effect of a fence leaves those words. -/
theorem faultsAreCountedFencedAndIndicated : Obligations.FaultsAreCountedFencedAndIndicated := by
  unfold Obligations.FaultsAreCountedFencedAndIndicated
  refine ⟨fun s b i => ⟨fun hb hi hf iso few => ?_, fun h => ?_⟩, fun s b i c sub hi => ⟨fun hf iso hc => ?_, fun hf iso hc => ?_, ?_⟩,
    fun s b i c sub => ⟨fun iso => ?_, fun hf => ?_, fun hf => ?_⟩⟩
  · obtain ⟨fenced, ind, cause, cls, ev⟩ := State.softFence_unit hb hi iso hf few
    exact ⟨_, rfl, fenced, ind, cause, cls, ev, (State.softFence_within (by decide)).keeps⟩
  · show Host.Outcome.next (s.softFence b i) = _
    rw [State.softFence, if_neg]
    rcases h with h | h | h
    · simp [h]
    · simp [unitOk, Nat.not_lt.mpr h]
    · simp [h]
  · have hw : Within [.reg .TIL_ECC] (s.countTileCe ⟨b, i, c, sub, false, none⟩) s := State.countTileCe_within (by decide)
    obtain ⟨w, hr, corr, cont, cls, cause, ev, fen⟩ := (s.countTileCe ⟨b, i, c, sub, false, none⟩).correctedFault_spec (r := ⟨b, i, c, sub, false, none⟩)
    have eq : exec (.faultDetected ⟨b, i, c, sub, false, none⟩) s =
        .next ((s.countTileCe ⟨b, i, c, sub, false, none⟩).correctedFault ⟨b, i, c, sub, false, none⟩) := by
      show Host.Outcome.next (State.raise _ _) = _
      rw [State.raise_plain hi (by rw [hw.unit (by decide), iso]) (by rw [hw.fenced (by decide), hf])]
      simp [faultClass, hc]
    have unit : (State.correctedFault _ ⟨b, i, c, sub, false, none⟩).unit b i = w := (hr.unit (by decide)).trans (State.unit_setUnit ..)
    rw [hw.unit (by decide)] at corr cont fen
    refine ⟨_, eq, ?_⟩
    beta_reduce
    rw [State.fenced, unit]
    refine ⟨corr, cont, cls, cause, ev, fun h60 h1 => ?_, fen.trans hf, otherUnits_of hr (by decide) (hw.keeps .flt (by decide)), ?_⟩
    · rw [hr.fld (by decide)]
      exact State.countTileCe_counts iso h60 h1
    · exact Within.keeps (.trans (hr.mono (by decide)) (.trans (State.setUnit_within (by decide)) (hw.mono (by decide))))
  · obtain ⟨w, hr, cont, corr, cls, cause, ev, fen⟩ := s.containedFault_spec (r := ⟨b, i, c, sub, false, none⟩)
    have same : s.countTileCe ⟨b, i, c, sub, false, none⟩ = s := State.countTileCe_same (.inr (by rintro rfl; cases hc))
    have eq : exec (.faultDetected ⟨b, i, c, sub, false, none⟩) s = .next (s.containedFault ⟨b, i, c, sub, false, none⟩) := by
      show Host.Outcome.next (State.raise _ _) = _
      rw [same, State.raise_plain hi iso hf]
      simp [faultClass, hc]
    have unit : (s.containedFault ⟨b, i, c, sub, false, none⟩).unit b i = w := (hr.unit (by decide)).trans (State.unit_setUnit ..)
    refine ⟨_, eq, ?_⟩
    beta_reduce
    rw [State.fenced, unit]
    exact ⟨cont, corr, cls, cause, ev, fen.trans hf, otherUnits_of hr (by decide) rfl,
      Within.keeps (.trans (hr.mono (by decide)) (State.setUnit_within (by decide)))⟩
  · refine ⟨s.setUnit b i { s.unit b i with corr := 0, cont := 0 }, ?_, State.unit_setUnit .., fun _ _ k => State.unit_setUnit_of_ne k,
      Within.keeps (State.setUnit_within (by decide))⟩
    show Host.Outcome.next (s.clearCounts b i) = _
    rw [State.clearCounts, if_pos (by simp [unitOk, hi])]
  · show Host.Outcome.next (State.raise _ _) = _
    rw [State.countTileCe_same (.inl iso), State.raise_isolated (r := ⟨b, i, c, sub, false, none⟩) iso]
  · show execFenceIndRelease b i s = _
    have hf' : (s.unit b i).fenced = true := hf
    simp [execFenceIndRelease, hf']
  · have hf' : (s.unit b i).fenced = false := hf
    show ∃ t, execFenceIndRelease b i s = .next t ∧ _
    unfold execFenceIndRelease
    extract_lets u s1
    by_cases ind : u.ind = true
    · rw [if_neg (by simp [u, hf', ind])]
      have others : ∀ b' i', s1.fenced b' i' = s.fenced b' i' := State.setUnit_fenced rfl
      refine ⟨_, rfl, ?_, fun _ => ?_, fun b' i' => ?_, Within.keeps (.step (by decide) (.flt s1 _) (State.setUnit_within (by decide)))⟩
      · rcases tabGet_mapVal (d := fun _ => FltUnit.reset) (g := FltUnit.forget (unitKey b i)) (m := s1.flt) (k := unitKey b i) with h | h
        all_goals
          refine (congrArg FltUnit.ind h).trans ?_
          exact congrArg FltUnit.ind (State.unit_setUnit ..)
      · intro e he
        obtain ⟨x, -, rfl⟩ := List.mem_map.mp he
        simp
      · rw [← others]
        rcases tabGet_mapVal (d := fun _ => FltUnit.reset) (g := FltUnit.forget (unitKey b i)) (m := s1.flt) (k := unitKey b' i') with h | h
        all_goals
          refine (congrArg FltUnit.fenced h).trans ?_
          rfl
    · rw [if_pos (by simp [ind])]
      exact ⟨s, rfl, by simpa using ind, fun h => absurd h ind, fun _ _ => rfl, Within.keeps .rfl⟩

end Sys2Proof.Machine
end

section
/-! A request that is carried out and answered. -/

namespace Sys2Proof.Machine

/-- What a command that runs has changed. -/
theorem Runs.within {L : List Part} {s t : State} {o : Res} (h : Runs L s o) (e : o = .next t) : Within L t s := by
  obtain ⟨u, hu, w⟩ := h
  cases hu.symm.trans e
  exact w

section
variable {s t : State} {q : MbxReq} {op st p : ℕ} {a : Bool} {l : List ℕ} {f : Fld} {L : List Part}

/-- What an answer may change; the handles are not among it. -/
def respParts : List Part := [.fns, .mbx, .mgmt, .out, .reg .CHR_ALERT_STATUS, .reg .MBX_EVENTS]

/-- A mailbox's event bit reaches its vector and no record. -/
theorem State.mbxEvent_within {i sub : ℕ} (hf : f.reg = .MBX_EVENTS) (h : [.fns, .out, .reg .MBX_EVENTS] ⊆ L) : Within L (t.event f i sub) t := by
  have he : Part.reg f.reg ∈ L := by rw [hf]; exact h (by decide)
  unfold State.event
  refine .ite .rfl ?_
  rw [hf]
  exact (State.signalMbx_within (h (by decide)) (h (by decide))).trans (State.setFld_within he)

theorem State.mbEvent_within_resp (hf : f.reg = .MBX_EVENTS) (h : respParts ⊆ L) : Within L (t.mbEvent p f) t := by
  unfold State.mbEvent
  exact .ite (State.mbxEvent_within hf (sub_of h rfl)) (.ite (State.alert_within (h (by decide)) (h (by decide)) (h (by decide))) .rfl)

theorem State.postSegment_within_resp {r : RespBuf} (h : respParts ⊆ L) : Within L (t.postSegment p r) t := by
  unfold State.postSegment
  exact (State.mbEvent_within_resp rfl h).trans ((State.emit_within (sub_of h rfl)).trans (State.setMb_within (h (by decide))))

theorem State.respond_within_resp (h : respParts ⊆ L) : Within L (t.respond q op st a l) t := by
  unfold State.respond
  extract_lets m r u w
  have hu : Within L u t := State.setMb_within (h (by decide))
  have hw : Within L w t := (Within.foldl fun u x => State.emit_within (sub_of h rfl)).trans hu
  refine .ite (State.setMb_within (h (by decide))) (.ite ((State.postSegment_within_resp h).trans hu) ?_)
  exact (State.alert_within (h (by decide)) (h (by decide)) (h (by decide))).trans ((State.setMb_within (h (by decide))).trans hw)

theorem Within.mb (h : Within L t s) (hm : .mbx ∉ L) : t.mb p = s.mb p :=
  congrArg (fun m : Tab Mbx => tabGet (fun _ => Mbx.reset) m p) (h.keeps .mbx hm)

end

section
variable {s u : State} {i : Instr} {q : MbxReq} {f : ReqForm} {op st : ℕ} {a : Bool} {l : List ℕ} {body : State → State} {M : List Part}

/-- A request that is carried out and ends with its answer, said of what its body changes before it. -/
theorem leads_respond {P : State → Prop} (hq : carriedOut s q f) (he : exec i s = .next (s.serve q f body)) (hb : body s = u.respond q op st a l)
    (hu : Within M u s) (hm : .mbx ∉ M) (hP : ∀ t, Within respParts t u → P t) :
    leads i s fun t => answers s t q op st a l ∧ P t := by
  refine ⟨_, he.trans (congrArg _ (hq.serve_eq.trans hb)), ?_, hP _ (State.respond_within_resp fun _ h => h)⟩
  exact hq.respond_answers (hu.mb hm) hu.out_suffix

/-- A request that is carried out and only answered. -/
theorem leads_answer (hq : carriedOut s q f) (he : exec i s = .next (s.serve q f body)) (hb : body s = s.respond q op st a l) :
    leads i s fun t => answers s t q op st a l ∧ keepsBut mbxParts s t :=
  leads_respond hq he hb (Within.rfl (L := [])) (by decide) fun _ h => (h.mono (by decide)).keeps

end

end Sys2Proof.Machine
end

section
/-! Injections and the fault requests (O3). -/

namespace Sys2Proof.Machine

section
variable {s : State} {b i c n : ℕ} {single : Bool}

theorem State.arm_inj : (⟨c, n, single⟩ : Injection) ∈ ((s.arm b i c single n).unit b i).inj := by
  rw [State.arm, State.unit_setUnit]
  exact List.mem_cons_self

theorem State.arm_injBusy (h : n ≠ 0) : (s.arm b i c single n).injBusy b i c = true := by
  rw [State.injBusy, State.arm, State.unit_setUnit]
  simp [h]

theorem State.arm_otherUnits : otherUnits s (s.arm b i c single n) b i := fun _ _ k => State.unit_setUnit_of_ne k

theorem injectOk_pos (h : injectOk b c single n = true) : n ≠ 0 := by
  rintro rfl
  simp [injectOk] at h

end

/-- GO on a path, by what FLT_INJ_SEL and N of the path name (R553, R554). -/
theorem execGo_spec (s : State) (path : Path) {b i c n : ℕ} {single : Bool} (hb : s.fld F.FLT_INJ_SEL_BLOCK (pathNum path) = b)
    (hi : s.fld F.FLT_INJ_SEL_INSTANCE (pathNum path) = i) (hc : s.fld F.FLT_INJ_SEL_CHECKER (pathNum path) = c)
    (hs : decide (s.fld F.FLT_INJ_SEL_SINGLE (pathNum path) = 1) = single) (hn : s.fld F.FLT_INJ_CTL_N (pathNum path) = n) :
    exec (.go path) s = .next (if !s.cip.open_ || !unitOk b i || !injectOk b c single n then s.setFld F.FLT_INJ_STATUS_REFUSED 0 1
      else if s.injBusy b i c then s.setFld F.FLT_INJ_STATUS_BUSY 0 1 else s.arm b i c single n) := by
  subst hb hi hc hs hn
  rfl

/-- A pin request's three fields, as FLT_PIN_CTL reads them after (Table 18-11). -/
theorem pinSet_spec (s : State) (w : W32) : ∃ u, Within [.reg .FLT_PIN_CTL] u s ∧ u.fld F.FLT_PIN_CTL_PULSE_MS 0 = bits w 15 8 ∧
    u.fld F.FLT_PIN_CTL_LEVEL 0 = bits w 0 0 ∧ u.fld F.FLT_PIN_CTL_ARMED 0 = (if bits w 2 2 = 1 then 1 else s.fld F.FLT_PIN_CTL_ARMED 0) ∧
    u = (if bits w 2 2 = 1 then ((s.setFld F.FLT_PIN_CTL_PULSE_MS 0 (bits w 15 8)).setFld F.FLT_PIN_CTL_LEVEL 0 (bits w 0 0)).setFld F.FLT_PIN_CTL_ARMED 0 1
      else (s.setFld F.FLT_PIN_CTL_PULSE_MS 0 (bits w 15 8)).setFld F.FLT_PIN_CTL_LEVEL 0 (bits w 0 0)) := by
  have ms : bits w 15 8 % 2 ^ 8 = bits w 15 8 := Nat.mod_mod ..
  have lv : bits w 0 0 % 2 ^ 1 = bits w 0 0 := Nat.mod_mod ..
  have h1 : ((s.setFld F.FLT_PIN_CTL_PULSE_MS 0 (bits w 15 8)).setFld F.FLT_PIN_CTL_LEVEL 0 (bits w 0 0)).fld F.FLT_PIN_CTL_PULSE_MS 0 = bits w 15 8 :=
    ((State.fld_setFld_ne (by decide)).trans (State.fld_setFld (by decide))).trans ms
  have h2 : ((s.setFld F.FLT_PIN_CTL_PULSE_MS 0 (bits w 15 8)).setFld F.FLT_PIN_CTL_LEVEL 0 (bits w 0 0)).fld F.FLT_PIN_CTL_LEVEL 0 = bits w 0 0 :=
    (State.fld_setFld (by decide)).trans lv
  have hw : Within [.reg .FLT_PIN_CTL] ((s.setFld F.FLT_PIN_CTL_PULSE_MS 0 (bits w 15 8)).setFld F.FLT_PIN_CTL_LEVEL 0 (bits w 0 0)) s :=
    (State.setFld_within (by decide)).trans (State.setFld_within (by decide))
  by_cases h : bits w 2 2 = 1
  · rw [if_pos h, if_pos h]
    exact ⟨_, .trans (State.setFld_within (by decide)) hw, (State.fld_setFld_ne (by decide)).trans h1, (State.fld_setFld_ne (by decide)).trans h2,
      State.fld_setFld (by decide), rfl⟩
  · rw [if_neg h, if_neg h]
    exact ⟨_, hw, h1, h2, (State.fld_setFld_ne (by decide)).trans (State.fld_setFld_ne (by decide)), rfl⟩

/-- Settles O3: GO and INJECT by their checks, the fault requests by the fields they name. -/
theorem injectionsAndFaultRequests : Obligations.InjectionsAndFaultRequests := by
  unfold Obligations.InjectionsAndFaultRequests
  dsimp only
  refine ⟨fun s => ⟨fun path b i c n single hb hi hc hs hn => ⟨fun ho hu hok hbusy => ?_, fun ho hu hok hbusy => ?_, fun h => ?_⟩,
    fun q hq => ⟨fun ho hu hr hok hbusy => ?_, fun ho => ?_⟩, fun q hq => ?_⟩,
    fun s q => ⟨fun hq => ⟨fun hu => ?_, fun hu => ?_⟩, fun hq hu => ⟨fun h8 hlt => ?_, fun h => ?_⟩,
      fun hq => ⟨fun h10 hhi hlo => ?_, fun h => ?_⟩⟩⟩
  · refine ⟨s.arm b i c single n, ?_, State.arm_inj, State.arm_injBusy (injectOk_pos hok), State.arm_otherUnits, (State.arm_within (by decide)).keeps⟩
    rw [execGo_spec s path hb hi hc hs hn]
    simp [ho, hu, hok, hbusy]
  · refine ⟨s.setFld F.FLT_INJ_STATUS_BUSY 0 1, ?_, State.fld_setFld (by decide), (State.setFld_within (by decide)).keeps⟩
    rw [execGo_spec s path hb hi hc hs hn]
    simp [ho, hu, hok, hbusy]
  · refine ⟨s.setFld F.FLT_INJ_STATUS_REFUSED 0 1, ?_, State.fld_setFld (by decide), (State.setFld_within (by decide)).keeps⟩
    rw [execGo_spec s path hb hi hc hs hn, if_pos]
    rcases h with h | h | h <;> simp [h]
  · refine leads_respond hq rfl (M := [.flt]) (u := s.arm (le q.payload 0 2) (le q.payload 2 2) (q.payload.getD 4 0 % 16)
      (decide (q.payload.getD 4 0 / 128 % 2 = 1)) (q.payload.getD 5 0)) ?_ (State.arm_within (by decide)) (by decide) fun t ht => ⟨?_, ?_, ?_⟩
    · dsimp only
      rw [if_neg (by simp [ho]), if_neg (by simp [hu]), if_neg (by rw [hr, hok]; decide), if_neg (by rw [hbusy]; decide)]
    · rw [ht.unit (by decide)]
      exact State.arm_inj
    · exact fun b' i' k => (ht.unit (by decide)).trans (State.arm_otherUnits b' i' k)
    · exact Within.keeps (.trans (ht.mono (by decide)) (State.arm_within (by decide)))
  · refine leads_answer hq rfl ?_
    dsimp only
    rw [if_pos (by simp [ho])]
    rfl
  · exact leads_respond hq rfl (M := [.cip]) rfl (.step (by decide) (.cip s _) .rfl) (by decide) fun t ht =>
      ⟨congrArg Cip.open_ (ht.keeps .cip (by decide)), ht.keeps .flt (by decide),
        Within.keeps (.trans (ht.mono (by decide)) (.step (by decide) (.cip s _) .rfl))⟩
  · refine leads_answer hq rfl ?_
    dsimp only
    rw [if_neg (by simp [hu])]
  · refine leads_answer hq rfl ?_
    dsimp only
    rw [if_pos (by simp [hu])]
    rfl
  · refine leads_respond hq rfl (M := [.flt])
      (u := s.setUnit (le q.payload 0 2) (le q.payload 2 2) { s.unit (le q.payload 0 2) (le q.payload 2 2) with mask := le q.payload 4 4 / 8 })
      ?_ (State.setUnit_within (by decide)) (by decide) fun t ht => ?_
    · dsimp only
      rw [if_neg (by simp [hu]), if_neg (by omega)]
    · rw [State.fenced, ht.unit (by decide), State.unit_setUnit]
      exact ⟨rfl, rfl, rfl, otherUnits_of ht (by decide) rfl, Within.keeps (.trans (ht.mono (by decide)) (State.setUnit_within (by decide)))⟩
  · refine leads_answer hq rfl ?_
    dsimp only
    rw [if_neg (by simp [hu]), if_pos h]
    rfl
  · obtain ⟨u, hu, ms, lv, ar, eq⟩ := pinSet_spec s (BitVec.ofNat 32 (le q.payload 0 4))
    refine leads_respond hq rfl (u := u) ?_ hu (by decide) fun t ht => ?_
    · rw [eq]
      dsimp only
      rw [if_neg (by omega)]
    · rw [ht.fld (by decide), ht.fld (by decide), ht.fld (by decide)]
      exact ⟨ms, lv, ar, Within.keeps (.trans (ht.mono (by decide)) (hu.mono (by decide)))⟩
  · refine leads_answer hq rfl ?_
    dsimp only
    rw [if_pos (.inl h)]
    rfl

end Sys2Proof.Machine
end

section
/-! Long operations. -/

namespace Sys2Proof.Machine

section
variable {s u : State} {i : Instr} {q : MbxReq} {f : ReqForm} {op st : ℕ} {a : Bool} {l : List ℕ} {body : State → State} {M : List Part}

/-- A request that is carried out and goes on after its answer. -/
theorem leads_after {v : State} {K : List Part} {P : State → Prop} (hq : carriedOut s q f) (he : exec i s = .next (s.serve q f body)) (hb : body s = v)
    (hu : Within M u s) (hm : .mbx ∉ M) (hv : Within K v (u.respond q op st a l)) (hP : P v) :
    leads i s fun t => answers s t q op st a l ∧ P t := by
  refine ⟨_, he.trans (congrArg _ (hq.serve_eq.trans hb)), ?_, hP⟩
  exact (hq.respond_answers (hu.mb hm) hu.out_suffix).mono
    (List.suffix_refl _) hv.out_suffix

/-- The handle the next long operation of a group takes. -/
def State.handle (s : State) (op : ℕ) : ℕ := op / 256 * 2 ^ 24 + s.nextHandle % 2 ^ 24

theorem State.startLong_eq {rest : List ℕ} : s.startLong q op rest =
    (s.handle op, (s.newHandle q.path (op / 256)).2.respond q op Ms.success true (bytesLe 4 (s.handle op) ++ rest)) := rfl

/-- A long operation is answered at once with its handle, and goes on. -/
theorem leads_long {v : State} {K : List Part} {P : State → Prop} {rest : List ℕ} (hq : carriedOut s q f) (he : exec i s = .next (s.serve q f body))
    (hb : body s = v) (hu : Within M u s) (hm : .mbx ∉ M) (hn : .nextHandle ∉ M) (hv : Within K v (u.startLong q op rest).2) (hP : P v) :
    leads i s fun t => answers s t q op Ms.success true (bytesLe 4 (s.handle op) ++ rest) ∧ P t := by
  have same : u.handle op = s.handle op := by rw [State.handle, State.handle, show u.nextHandle = s.nextHandle from hu.keeps .nextHandle hn]
  rw [State.startLong_eq, same] at hv
  exact leads_after hq he hb (M := [.ops, .nextHandle] ++ M) (.trans (State.newHandle_within (by simp)) (hu.mono (by simp))) (by simp [hm]) hv hP

end

end Sys2Proof.Machine
end

section
/-! Unit resets (O4). -/

namespace Sys2Proof.Machine

/-- What the reset of an instance leaves (R548): its own words, its key cache or its channel's training, nothing of another unit. -/
theorem State.resetInstance_spec (s : State) (b i h : ℕ) :
    (s.resetInstance b i h).unit b i = { s.unit b i with
      inj := [], requal := some h, requalBad := false, mask := FltUnit.reset.mask, lastClass := 0, lastCause := 0 } ∧
    otherUnits s (s.resetInstance b i h) b i ∧ (b ≠ 0x080 → (s.resetInstance b i h).cip = s.cip) ∧
    (b ≠ 0x0A0 → (s.resetInstance b i h).fch = s.fch) := by
  unfold State.resetInstance
  extract_lets u s1
  have own : s1.unit b i = { s.unit b i with
      inj := [], requal := some h, requalBad := false, mask := FltUnit.reset.mask, lastClass := 0, lastCause := 0 } := State.unit_setUnit ..
  have others : otherUnits s s1 b i := fun _ _ k => State.unit_setUnit_of_ne k
  split
  · exact ⟨own, others, fun k => absurd rfl k, fun _ => rfl⟩
  · exact ⟨own, others, fun _ => rfl, fun k => absurd rfl k⟩
  · exact ⟨own, others, fun _ => rfl, fun _ => rfl⟩

theorem State.toService_same {s : State} (h : s.pwr.mode ≠ .ready) : s.toService = s := by
  unfold State.toService
  rw [if_neg fun k => h k.1]
  extract_lets
  split
  · contradiction
  · rfl

/-- Settles O4: the request starts the re-qualification by its answer, the instance's reset and its test in the running list. -/
theorem unitResetStartsRequalification : Obligations.UnitResetStartsRequalification := by
  unfold Obligations.UnitResetStartsRequalification
  intro s q sibling
  dsimp only
  refine fun hq hu => ⟨fun hb bay hf hr hm => ?_, fun hb hr => ?_, fun hb => ?_⟩
  · generalize hB : le q.payload 0 2 = b at hu hb bay hf hr ⊢
    generalize hI : le q.payload 2 2 = i at hu hf hr ⊢
    let l := s.startLong q 0x0702 []
    obtain ⟨own, others, cip, fch⟩ := l.2.resetInstance_spec b i l.1
    let v := l.2.resetInstance b i l.1
    have hl : Within (.nextHandle :: mbxParts) l.2 s := State.startLong_within (by decide)
    have hv : Within [.flt, .fch, .cip] v l.2 := State.resetInstance_within (by decide)
    have hw : Within [.srv] { v with srv := { v.srv with running := v.srv.running ++ [⟨b, i, 0, 0, some l.1, true, false⟩] } } v :=
      .step (by decide) (.srv v _) .rfl
    have fenced : (s.unit b i).fenced = true := hf
    have running : l.2.srv.running = s.srv.running := congrArg Srv.running (hl.keeps .srv (by decide))
    rw [← List.append_nil (bytesLe 4 _)]
    refine leads_long hq rfl (u := s) (M := []) (v := { v with srv := { v.srv with running := v.srv.running ++ [⟨b, i, 0, 0, some l.1, true, false⟩] } })
      ?_ .rfl (by decide) (by decide) (.trans (hw.mono (M := [.srv, .flt, .fch, .cip]) (by decide)) (hv.mono (by decide))) ?_
    · subst hB hI
      dsimp only
      rw [if_neg (by simp [hu]), if_neg (by simp [hb]), if_neg (by simp [hr]), if_neg bay, if_neg (by simp [fenced]), if_pos fenced,
        State.toService_same hm]
    · rw [State.fenced, hw.unit (by decide), own, hl.unit (by decide)]
      refine ⟨rfl, rfl, fenced, rfl, rfl, rfl, rfl, rfl, rfl, rfl, fun b' i' k => ?_, fun k => ?_, fun k => ?_, ?_, ?_⟩
      · rw [hw.unit (by decide), others b' i' k, hl.unit (by decide)]
      · exact (cip k).trans (hl.keeps .cip (by decide))
      · exact (fch k).trans (hl.keeps .fch (by decide))
      · rw [← running, ← show v.srv = l.2.srv from hv.keeps .srv (by decide)]
        rfl
      · exact Within.keeps (.trans (hw.mono (by decide)) (.trans (hv.mono (by decide)) (hl.mono (by decide))))
  · refine leads_answer hq rfl ?_
    dsimp only
    rw [if_neg (by simp [hu]), if_neg (by simp [hb]), if_pos (Option.isSome_iff_ne_none.mpr hr)]
    rfl
  · refine leads_answer hq rfl ?_
    dsimp only
    rw [if_neg (by simp [hu]), if_pos (by simp [hb])]
    rfl

end Sys2Proof.Machine
end

section
/-! HOLDUP and DEVICE-class faults. -/

namespace Sys2Proof.Machine

section
variable {s : State} {r : FaultReport} {b i c d : ℕ}

theorem State.toMode_mode {m : Mode} : (s.toMode m).pwr.mode = m := by
  unfold State.toMode
  split
  · assumption
  · extract_lets src t
    refine congrArg Power.mode (Within.keeps (L := .reg .PWR_EVENTS :: eventParts) (t := t) ?_ .pwr (by decide))
    exact .ite (State.record_within (by decide)) (State.event_within (by decide) (by decide))

/-- HOLDUP is entered from every mode that runs (R494). -/
theorem State.enterHoldup_mode (h : s.hubOn = true) : (s.enterHoldup c).pwr.mode = .holdup := by
  unfold State.enterHoldup
  rw [if_neg (by simp [h])]
  exact State.toMode_mode

theorem State.enterHoldup_off (h : s.hubOn = false) : s.enterHoldup c = s := by
  unfold State.enterHoldup
  rw [if_pos (by simp [h])]

theorem State.hubOn_of_pwr {t : State} (h : t.pwr = s.pwr) : t.hubOn = s.hubOn := by rw [State.hubOn, State.hubOn, h]

/-- A DEVICE-class fault, up to the start of HOLDUP. -/
theorem State.deviceFault_eq : ∃ u, s.deviceFault r = u.enterHoldup 3 ∧
    Within (.flt :: .pin :: .ctls :: .reg .FLT_PIN_CTL :: recordParts) u s := by
  unfold State.deviceFault State.deviceReaction
  extract_lets u s1 s2 s3
  have h1 : Within (.flt :: .pin :: .ctls :: .reg .FLT_PIN_CTL :: recordParts) s1 s := State.setUnit_within (by decide)
  have h2 : Within (.flt :: .pin :: .ctls :: .reg .FLT_PIN_CTL :: recordParts) s2 s :=
    (State.emit_within (by decide)).trans ((State.emit_within (by decide)).trans ((State.record_within (by decide)).trans h1))
  have h3 : Within (.flt :: .pin :: .ctls :: .reg .FLT_PIN_CTL :: recordParts) s3 s := .step (by decide) (.ctls s2 _) h2
  exact ⟨_, rfl, (State.alert_within (by decide) (by decide) (by decide)).trans ((State.pulse_within (by decide)).trans h3)⟩

theorem State.deviceFault_mode (h : s.hubOn = true) : (s.deviceFault r).pwr.mode = .holdup := by
  obtain ⟨u, eq, hu⟩ := State.deviceFault_eq (s := s) (r := r)
  rw [eq]
  exact State.enterHoldup_mode ((State.hubOn_of_pwr (hu.keeps .pwr (by decide))).trans h)

/-- While the hub does not run, a report of a DEVICE-class cause leaves the mode. -/
theorem State.raise_device_pwr (h : s.hubOn = false) (hc : faultClass b c = .device) : (s.raiseAt b i c d).pwr = s.pwr := by
  have dev : (s.deviceFault ⟨b, i, c, d, false, none⟩).pwr = s.pwr := by
    obtain ⟨u, eq, hu⟩ := State.deviceFault_eq (s := s) (r := ⟨b, i, c, d, false, none⟩)
    rw [eq, State.enterHoldup_off ((State.hubOn_of_pwr (hu.keeps .pwr (by decide))).trans h)]
    exact hu.keeps .pwr (by decide)
  have fen : (s.fencedFault ⟨b, i, c, d, false, none⟩ .device).pwr = s.pwr :=
    (State.fencedFault_within (L := .flt :: recordParts) (by decide)).keeps .pwr (by decide)
  unfold State.raiseAt State.raise
  dsimp only [Option.filter_none]
  rw [hc]
  split
  · rfl
  · split
    · rfl
    · split
      · exact fen
      · exact dev

end

end Sys2Proof.Machine
end

section
/-! Die links (O5). -/

namespace Sys2Proof.Machine

/-- The other end of a die link. -/
def farEnd (j : ℕ) : ℕ := if j % 2 = 0 then j + 1 else j - 1

section
variable {s : State} {j n : ℕ}

/-- A failed flit is counted at the receiving end, its replay at the far end (R11). -/
def State.flitCounted (s : State) (j : ℕ) : State := (s.bump F.CHR_LINK_STAT_CRC_ERRORS j 1).bump F.CHR_LINK_STAT_REPLAYS (farEnd j) 1

theorem farEnd_ne : farEnd j ≠ j := by unfold farEnd; split <;> omega
theorem farEnd_lt (h : j < 10) : farEnd j < 10 := by unfold farEnd; split <;> omega

theorem State.flitCounted_within : Within [.reg .CHR_LINK_STAT] (s.flitCounted j) s :=
  (State.bump_within (by decide)).trans (State.bump_within (by decide))

theorem State.flitCounted_crc : (s.flitCounted j).fld F.CHR_LINK_STAT_CRC_ERRORS j = min 0xFFF (s.fld F.CHR_LINK_STAT_CRC_ERRORS j + 1) :=
  (State.fld_bump_ne (.inr (.inl farEnd_ne))).trans (State.fld_bump (by decide))

theorem State.flitCounted_replays :
    (s.flitCounted j).fld F.CHR_LINK_STAT_REPLAYS (farEnd j) = min 0xFFFF (s.fld F.CHR_LINK_STAT_REPLAYS (farEnd j) + 1) := by
  refine (State.fld_bump (by decide)).trans ?_
  rw [State.fld_bump_ne (.inr (.inl farEnd_ne.symm))]
  rfl

theorem State.flitCounted_failed : (s.flitCounted j).fld F.CHR_LINK_STAT_FAILED j = s.fld F.CHR_LINK_STAT_FAILED j :=
  (State.fld_bump_ne (.inr (.inl farEnd_ne))).trans (State.fld_bump_ne (.inr (.inr (by decide))))

theorem State.fld_links {m : Tab ℕ} {f : Fld} {i : ℕ} : ({ s with links := m } : State).fld f i = s.fld f i := rfl

/-- The link failed at both ends (R12), before the reports. -/
def State.linkFailed (s : State) (j : ℕ) : State :=
  let t := ((s.bump F.CHR_LINK_STAT_CRC_ERRORS j 1).setFld F.CHR_LINK_STAT_FAILED j 1).setFld F.CHR_LINK_STAT_FAILED (farEnd j) 1
  { t with links := tabSet (fun _ => 0) t.links j 0 }

theorem State.linkFailed_within : Within [.links, .reg .CHR_LINK_STAT] (s.linkFailed j) s :=
  .step (by decide) (.links (((s.bump _ _ _).setFld _ _ _).setFld _ _ _) _)
    (.trans (State.setFld_within (by decide)) (.trans (State.setFld_within (by decide)) (State.bump_within (by decide))))

theorem State.linkFailed_failed : (s.linkFailed j).fld F.CHR_LINK_STAT_FAILED j = 1 ∧ (s.linkFailed j).fld F.CHR_LINK_STAT_FAILED (farEnd j) = 1 :=
  ⟨State.fld_links.trans ((State.fld_setFld_ne (.inr (.inl farEnd_ne))).trans (State.fld_setFld (by decide))),
    State.fld_links.trans (State.fld_setFld (by decide))⟩

/-- A flit error of a link that stands, by the failures of that flit so far. -/
theorem exec_flitCrcError (hj : j < 10) (hF : s.fld F.CHR_LINK_STAT_FAILED j = 0) (d : Bool) :
    exec (.flitCrcError j d) s = .next (
      if 8 ≤ tabGet (fun _ => 0) s.links j then ((s.linkFailed j).raiseAt 0x0D0 j 0x07 0).raiseAt 0x0D0 (farEnd j) 0x07 0
      else if d then
        (({ s.flitCounted j with links := tabSet (fun _ => 0) s.links j 0 } : State).raiseAt 0x0D0 j 0x06 0).raiseAt 0x0D0 (farEnd j) 0x06 0
      else { s.flitCounted j with links := tabSet (fun _ => 0) s.links j (tabGet (fun _ => 0) s.links j + 1) }) := by
  show execFlitCrcError j d s = _
  unfold execFlitCrcError
  rw [if_neg (by omega)]
  by_cases h : 8 ≤ tabGet (fun _ => 0) s.links j
  · dsimp only
    rw [if_pos (by omega), if_pos h]
    rfl
  · dsimp only
    rw [if_neg (by omega), if_neg h]
    cases d <;> rfl

/-- A CORRECTED fault of a unit in service: one count more, and no other unit. -/
theorem State.raiseAt_corrected {b i c d : ℕ} (hi : i < unitCount b) (iso : (s.unit b i).isolated = false) (hf : s.fenced b i = false)
    (hc : faultClass b c = .corrected) : ((s.raiseAt b i c d).unit b i).corr = satAdd 255 (s.unit b i).corr 1 ∧
      otherUnits s (s.raiseAt b i c d) b i ∧ Within (.flt :: recordParts) (s.raiseAt b i c d) s := by
  rw [State.raiseAt, State.raise_plain hi iso hf, hc]
  obtain ⟨w, hr, corr, -⟩ := s.correctedFault_spec (r := ⟨b, i, c, d, false, none⟩)
  refine ⟨?_, otherUnits_of hr (by decide) rfl, .trans (hr.mono (by decide)) (State.setUnit_within (by decide))⟩
  rw [hr.unit (by decide), State.unit_setUnit]
  exact corr

end

/-- Settles O5: the two ends of a link are two instances, and neither report reaches the link's own registers. -/
theorem ninthFlitFailureFailsTheLink : Obligations.NinthFlitFailureFailsTheLink := by
  unfold Obligations.NinthFlitFailureFailsTheLink
  intro s j hj hF
  dsimp only
  rw [← farEnd]
  have far := farEnd_lt hj
  have counted : ∀ n, Within [.links, .reg .CHR_LINK_STAT] ({ s.flitCounted j with links := tabSet (fun _ => 0) s.links j n } : State) s := fun n =>
    .step (by decide) (.links (s.flitCounted j) _) (State.flitCounted_within.mono (by decide))
  refine ⟨fun h8 => ?_, fun h8 hf iso hf' iso' => ?_, fun d h8 hf iso => ?_⟩
  · refine ⟨_, (exec_flitCrcError hj hF false).trans (congrArg _ ((if_neg (by omega)).trans (if_neg (by decide)))), ?_, ?_, ?_, ?_, (counted _).keeps⟩
    · exact tabGet_set_self (fun _ => 0) s.links j (tabGet (fun _ => 0) s.links j + 1)
    · exact State.fld_links.trans State.flitCounted_crc
    · exact State.fld_links.trans State.flitCounted_replays
    · exact State.fld_links.trans (State.flitCounted_failed.trans hF)
  · let u : State := { s.flitCounted j with links := tabSet (fun _ => 0) s.links j 0 }
    have hu : Within [.links, .reg .CHR_LINK_STAT] u s := counted 0
    obtain ⟨corr, others, w⟩ := State.raiseAt_corrected (s := u) (b := 0x0D0) (i := j) (c := 0x06) (d := 0) hj
      (by rw [hu.unit (by decide), iso]) (by rw [hu.fenced (by decide), hf]) rfl
    have key : unitKey 0x0D0 (farEnd j) ≠ unitKey 0x0D0 j := fun k => farEnd_ne ((unitKey_inj (by omega) (by omega)).mp k).2
    have same := others _ _ key
    obtain ⟨corr', others', w'⟩ := State.raiseAt_corrected (s := u.raiseAt 0x0D0 j 0x06 0) (b := 0x0D0) (i := farEnd j) (c := 0x06) (d := 0) far
      (by rw [same, hu.unit (by decide), iso']) (by rw [State.fenced, same, ← State.fenced, hu.fenced (by decide), hf']) rfl
    have all : Within (.links :: .flt :: .reg .CHR_LINK_STAT :: recordParts) _ s :=
      .trans (w'.mono (by decide)) (.trans (w.mono (by decide)) (hu.mono (by decide)))
    refine ⟨_, (exec_flitCrcError hj hF true).trans (congrArg _ ((if_neg (by omega)).trans (if_pos rfl))), ?_, ?_, ?_, all.keeps⟩
    · refine (congrArg (fun m => tabGet (fun _ => 0) m j) ((w'.trans w).keeps .links (by decide))).trans ?_
      exact tabGet_set_self (fun _ => 0) s.links j 0
    · rw [others' _ _ key.symm, corr, hu.unit (by decide)]
      rfl
    · rw [corr', same, hu.unit (by decide)]
      rfl
  · have hu : Within [.links, .reg .CHR_LINK_STAT] (s.linkFailed j) s := State.linkFailed_within
    have faults : Within faultParts (((s.linkFailed j).raiseAt 0x0D0 j 0x07 0).raiseAt 0x0D0 (farEnd j) 0x07 0) (s.linkFailed j) :=
      (State.raiseAt_within (by decide)).trans (State.raiseAt_within (by decide))
    refine ⟨_, (exec_flitCrcError hj hF d).trans (congrArg _ (if_pos h8)), ?_, ?_, fun hub => ?_,
      Within.keeps (.trans (faults.mono (by decide)) (hu.mono (by decide)))⟩
    · exact (faults.fld (by decide)).trans State.linkFailed_failed.1
    · exact (faults.fld (by decide)).trans State.linkFailed_failed.2
    · have mode : ((s.linkFailed j).raiseAt 0x0D0 j 0x07 0).pwr.mode = .holdup := by
        rw [State.raiseAt, State.raise_plain hj (by rw [hu.unit (by decide), iso]) (by rw [hu.fenced (by decide), hf])]
        exact State.deviceFault_mode ((State.hubOn_of_pwr (hu.keeps .pwr (by decide))).trans hub)
      rw [State.raise_device_pwr (by simp [State.hubOn, mode]) rfl]
      exact mode

end Sys2Proof.Machine
end

section
/-! Answers, sessions and mailboxes. -/

namespace Sys2Proof.Machine

section
variable {s t : State} {q : MbxReq} {op st p : ℕ} {a : Bool} {l : List ℕ} {f : Fld} {L : List Part}

theorem State.mb_setMb_of_ne {m : Mbx} {k : ℕ} (h : k ≠ p) : (s.setMb p m).mb k = s.mb k := tabGet_set_ne _ _ _ h

/-- A posted segment stands in its mailbox. -/
theorem State.postSegment_mb {r : RespBuf} : (s.postSegment p r).mb p = { s.mb p with
    busy := false, respReady := true, respMore := !(r.left.drop 4080).isEmpty,
    out := mbHeader r.version r.opcode r.tag r.status r.length (!(r.left.drop 4080).isEmpty) r.isAsync false ++ r.left.take 4080,
    resp := if !(r.left.drop 4080).isEmpty then some { r with left := r.left.drop 4080 } else none } := by
  unfold State.postSegment
  extract_lets m now rest more seg u
  have h : Within [.fns, .mgmt, .out, .reg .CHR_ALERT_STATUS, .reg .MBX_EVENTS] ((u.emit (.mbxSegment p seg)).mbEvent p F.MBX_EVENTS_RESP) u := by
    refine Within.trans (t := u.emit (.mbxSegment p seg)) ?_ (State.emit_within (by decide))
    unfold State.mbEvent
    exact .ite (State.mbxEvent_within rfl (by decide)) (.ite (State.alert_within (by decide) (by decide) (by decide)) .rfl)
  rw [h.mb (by decide)]
  exact State.mb_setMb ..

theorem State.alert_mb {k : ℕ} : (s.alert k).mb p = s.mb p :=
  (State.alert_within (L := [.reg .CHR_ALERT_STATUS, .mgmt, .out]) (by decide) (by decide) (by decide)).mb (by decide)

/-- An answer leaves the session and what has been gathered of a request as they were. -/
theorem State.respond_mb : ((s.respond q op st a l).mb q.path).version = (s.mb q.path).version ∧
    ((s.respond q op st a l).mb q.path).seg = (s.mb q.path).seg := by
  unfold State.respond
  extract_lets m r u w
  split
  · rw [State.mb_setMb]
    exact ⟨rfl, rfl⟩
  · split
    · rw [State.postSegment_mb, State.mb_setMb]
      exact ⟨rfl, rfl⟩
    · rw [State.alert_mb, State.mb_setMb]
      exact ⟨rfl, rfl⟩

end

end Sys2Proof.Machine
end

section
/-! Requests that fail the common checks (O6). -/

namespace Sys2Proof.Machine

/-- Every request of the catalogue is served by its form. -/
theorem request_served {i : Instr} {q : MbxReq} {f : ReqForm} (s : State) (h : request i = some (q, f)) :
    ∃ body, exec i s = .next (s.serve q f body) := by
  unfold request at h
  split at h <;> cases h <;> exact ⟨_, rfl⟩

/-- Settles O6: the checks stand in `State.serve`, before the body of any request. -/
theorem requestsThatFailTheCommonChecksChangeNothing : Obligations.RequestsThatFailTheCommonChecksChangeNothing := by
  unfold Obligations.RequestsThatFailTheCommonChecksChangeNothing
  intro i q f s hr
  obtain ⟨body, eq⟩ := request_served s hr
  refine ⟨fun h => ?_, fun st served ended drop pre => ?_⟩
  · rw [eq, State.serve, if_pos (by simp [h])]
  · have refused : s.serve q f body = s.refuse q f.opcode st := by simp [State.serve, served, ended, pre]
    refine ⟨_, eq.trans (congrArg _ refused), State.respond_sent drop, State.respond_mb.1, ?_, ?_⟩
    · exact (State.respond_within_resp fun _ h => h).keeps .ops (by decide)
    · exact (State.respond_within fun _ h => h).keeps

end Sys2Proof.Machine
end

section
/-! Mailboxes and segments (O7). -/

namespace Sys2Proof.Machine

section
variable {s : State} {p n off : ℕ} {h : List ℕ}

theorem le_take {m : ℕ} (hn : off + n ≤ m) : le (h.take m) off n = le h off n := by
  induction n generalizing off with
  | zero => rfl
  | succ n ih =>
    rw [le, le, ih (by omega)]
    congr 2
    simp [List.getD_eq_getElem?_getD, show off < m by omega]

/-- The request a header and its payload make. -/
def headerReq (p : ℕ) (h payload : List ℕ) : MbxReq :=
  ⟨p, h.getD 0 0, le h 4 2, le h 8 4, decide (h.getD 1 0 / 4 = 0 ∧ h.getD 1 0 % 2 = 0 ∧ le h 6 2 = 0 ∧ le h 12 4 = 0), payload⟩

/-- A message of one segment is the whole request (R400, R403). -/
theorem State.takeSegment_single {carried : Option ℕ} {data : List ℕ} (seg : (s.mb p).seg = none) (more : h.getD 1 0 / 2 % 2 = 0)
    (len : le h 8 4 ≤ 4080) (hc : carried.getD (le h 8 4) = le h 8 4) : s.takeSegment p h carried data = s.setMb p { s.mb p with
      seg := none, busy := isFnPath p, segTaken := false, req := some (le h 2 2, headerReq p h (data.take (le h 8 4))) } := by
  have last : decide (h.getD 1 0 / 2 % 2 = 1) = false := decide_eq_false (by omega)
  unfold State.takeSegment
  simp only [seg, last, Option.map_none, Option.getD_none, List.length_nil, Nat.sub_zero, Bool.false_eq_true, if_false, hc]
  rw [if_neg (by simp; omega), if_neg (by simp; omega)]
  rfl

/-- The bytes a write names, one by one. -/
theorem tabGet_writeBytes {m : Tab (BitVec 8)} {base k : ℕ} {v : ℕ → BitVec 8} :
    tabGet (fun _ => 0#8) ((List.range n).foldl (fun t k => tabSet (fun _ => 0#8) t (base + k) (v k)) m) k =
      if base ≤ k ∧ k < base + n then v (k - base) else tabGet (fun _ => 0#8) m k := by
  induction n with
  | zero => simp
  | succ n ih =>
    rw [List.range_succ, List.foldl_append, List.foldl_cons, List.foldl_nil]
    by_cases hk : k = base + n
    · rw [hk, tabGet_set_self, if_pos ⟨by omega, by omega⟩, Nat.add_sub_cancel_left]
    · rw [tabGet_set_ne _ _ _ hk, ih]
      exact if_congr (by omega) rfl rfl

end

/-- Settles O7: one segment is a whole request; a returned mailbox posts what is left of its response. -/
theorem mailboxesTakeOneRequestAndReturnSegments : Obligations.MailboxesTakeOneRequestAndReturnSegments := by
  unfold Obligations.MailboxesTakeOneRequestAndReturnSegments
  refine ⟨fun s f => ⟨fun h hh served en hf busy ready seg more len => ?_, fun served en hb => ?_, fun off data hlen => ?_⟩,
    fun s p => ⟨fun ready resp => ?_, fun r ready resp => ?_, fun b seg drop => ?_, fun ep eid ic owner body served => ⟨fun bad => ?_, ?_⟩⟩⟩
  · subst hh
    have eq : exec (.ring f) s = .next (s.takeSegment f (s.inboxBytes f 0 16) none (s.inboxBytes f 16 4080)) := by
      show Host.Outcome.next (s.ring f) = _
      rw [State.ring, if_neg (by simp [served, en]), if_neg (by simp [busy, ready])]
    rw [State.takeSegment_single seg more len rfl] at eq
    refine ⟨_, eq, ?_⟩
    beta_reduce
    rw [State.mb_setMb]
    exact ⟨decide_eq_true hf, rfl, fun k hk => State.mb_setMb_of_ne hk, (State.setMb_within (by decide)).keeps⟩
  · have eq : exec (.ring f) s = .next (s.event F.MBX_EVENTS_OVERRUN f 0) := by
      show Host.Outcome.next (s.ring f) = _
      rw [State.ring, if_neg (by simp [served, en]), if_pos (by simpa using hb)]
    exact ⟨_, eq, State.fld_event (by decide) rfl (by decide), (State.mbxEvent_within rfl (by decide)).keeps⟩
  · have all : data.take (4096 - off) = data := List.take_of_length_le (by omega)
    have eq : exec (.inboundMailboxWrite f off data) s = .next { s with inbox := (List.range data.length).foldl (fun t k =>
        tabSet (fun _ => 0#8) t (4096 * f + off + k) (BitVec.ofNat 8 (data.getD k 0))) s.inbox } := by
      show execInboundMailboxWrite f off data s = _
      unfold execInboundMailboxWrite
      rw [all]
    refine ⟨_, eq, fun k hk => ?_, fun a ha => ?_, ((execInboundMailboxWrite_runs (by decide)).within eq).keeps⟩
    · exact tabGet_writeBytes.trans ((if_pos (by omega)).trans (by rw [Nat.add_sub_cancel_left]))
    · exact tabGet_writeBytes.trans (if_neg (by omega))
  · have eq : exec (.respDone p) s = .next (s.setMb p { s.mb p with respReady := false, respMore := false, resp := none }) := by
      show Host.Outcome.next (s.respDone p) = _
      simp [State.respDone, ready, resp]
    refine ⟨_, eq, ?_⟩
    beta_reduce
    rw [State.mb_setMb]
    exact ⟨rfl, rfl, rfl, (State.setMb_within (by decide)).keeps⟩
  · let u := s.setMb p { s.mb p with respReady := false, respMore := false, resp := none }
    have eq : exec (.respDone p) s = .next (u.postSegment p r) := by
      show Host.Outcome.next (s.respDone p) = _
      simp [State.respDone, ready, resp, u]
    have more : decide (4080 < r.left.length) = !(r.left.drop 4080).isEmpty := by
      rw [Bool.eq_iff_iff]
      simp
    refine ⟨_, eq, ?_⟩
    beta_reduce
    rw [State.postSegment_mb, more]
    exact ⟨rfl, rfl, sent_of_suffix (v := u) (List.suffix_refl _) State.postSegment_out,
      Within.keeps ((State.postSegment_within_resp fun _ h => h).trans (State.setMb_within (by decide)))⟩
  · let u := s.setMb p { s.mb p with seg := none, busy := isFnPath p, segTaken := false }
    let q : MbxReq := ⟨p, b.version, b.tag, b.length, b.resvZero, b.bytes⟩
    have eq : exec (.segmentTimeout p) s = .next (u.refuse q b.opcode Ms.segmentError) := by
      show execSegmentTimeout p s = _
      unfold execSegmentTimeout
      rw [seg]
      rfl
    have mb : u.mb p = { s.mb p with seg := none, busy := isFnPath p, segTaken := false } := State.mb_setMb ..
    have sent := State.respond_sent (s := u) (q := q) (op := b.opcode) (st := Ms.segmentError) (a := false) (l := []) (by rw [mb, drop])
    unfold answers at sent
    rw [mb] at sent
    refine ⟨_, eq, ?_, sent, Within.keeps ((State.respond_within_resp fun _ h => h).trans (State.setMb_within (by decide)))⟩
    refine (State.respond_mb (s := u) (q := q)).2.trans ?_
    rw [mb]
  · have eq : exec (.mctpMailboxMessage ep eid ic owner body) s = .next s.mgmtDiscard := by
      show execMctpMailboxMessage ep eid ic owner body s = _
      unfold execMctpMailboxMessage
      dsimp only
      rw [if_neg (by simp [served]), if_pos (by simpa [or_assoc] using bad)]
    exact ⟨_, eq, State.fld_bump (by decide), (State.bump_within (by decide)).keeps⟩
  · intro hic ho h18 h4098 vendor room seg more len
    let h := body.drop 2
    let u := s.setMb (256 + eid) { s.mb (256 + eid) with ep := ep }
    have hu : u.mb (256 + eid) = { s.mb (256 + eid) with ep := ep } := State.mb_setMb ..
    have one : (h.take 16).getD 1 0 = h.getD 1 0 := by simp [List.getD_eq_getElem?_getD]
    have count : h.length - 16 = le h 8 4 := by rw [len, List.length_drop]; omega
    have rest : h.drop 16 = body.drop 18 := List.drop_drop
    have single := State.takeSegment_single (s := u) (p := 256 + eid) (h := h.take 16) (carried := some (h.length - 16)) (data := h.drop 16)
      (by rw [hu]; exact seg) (by rw [one]; exact more) (by rw [le_take (by omega), len]; omega) (by rw [le_take (by omega)]; exact count)
    rw [le_take (by omega), le_take (by omega), ← count, hu, rest] at single
    have eq : exec (.mctpMailboxMessage ep eid ic owner body) s =
        .next (u.takeSegment (256 + eid) (h.take 16) (some (h.length - 16)) (h.drop 16)) := by
      show execMctpMailboxMessage ep eid ic owner body s = _
      unfold execMctpMailboxMessage
      dsimp only
      rw [if_neg (by simp [served]), if_neg (by simp [hic, ho, vendor]; omega), if_neg (by
        rcases room with r | r
        · simp [r]
        · simp [Nat.not_le.mpr r])]
    rw [rest, single] at eq
    refine ⟨_, eq, ?_⟩
    beta_reduce
    rw [State.mb_setMb]
    refine ⟨rfl, rfl, congrArg some (List.take_of_length_le ?_), Within.keeps (.trans (State.setMb_within (by decide)) (State.setMb_within (by decide)))⟩
    rw [List.length_drop, List.length_drop]
    omega

end Sys2Proof.Machine
end

section
/-! HELLO and GOODBYE (O8). -/

namespace Sys2Proof.Machine

section
variable {s : State} {p : ℕ}

theorem length_bytesLe {n v : ℕ} : (bytesLe n v).length = n := by
  induction n generalizing v with
  | zero => rfl
  | succ n ih => rw [bytesLe, List.length_cons, ih]

/-- HELLO is served on a mailbox whatever has become of its session. -/
theorem State.serve_hello {q : MbxReq} {body : State → State} (served : s.mbxServed q.path = true)
    (pre : s.preCheck q ⟨0x0001, 1, true, 20, 20, false⟩ = none) : s.serve q ⟨0x0001, 1, true, 20, 20, false⟩ body = body s := by
  simp [State.serve, served, pre]

/-- The end of a session: no version, and SESSION_RESET on a function's mailbox where one stood (R409). -/
theorem State.endSession_spec (s : State) (p : ℕ) : ((s.endSession p).mb p).version = 0 ∧
    ((s.mb p).version ≠ 0 → isFnPath p = true → (s.endSession p).fld F.MBX_EVENTS_SESSION_RESET p = 1) ∧
    Within (.por :: respParts) (s.endSession p) s := by
  unfold State.endSession
  extract_lets m s1 s2
  by_cases h : m.version = 0
  · rw [if_pos h]
    exact ⟨h, fun k => absurd h k, .rfl⟩
  · rw [if_neg h]
    have h2 : Within [.fns, .out, .reg .MBX_EVENTS] s2 s1 := .ite (State.mbxEvent_within rfl (by decide)) .rfl
    have all : ∀ t, Within [.por] t s2 → (t.mb p).version = 0 ∧
        ((s.mb p).version ≠ 0 → isFnPath p = true → t.fld F.MBX_EVENTS_SESSION_RESET p = 1) ∧ Within (.por :: respParts) t s := by
      intro t ht
      refine ⟨?_, fun _ hp => ?_, .trans (ht.mono (by decide)) (.trans (h2.mono (by decide)) (State.setMb_within (by decide)))⟩
      · rw [ht.mb (by decide), h2.mb (by decide), State.mb_setMb]
      · rw [ht.fld (by decide)]
        exact (congrArg (fun t : State => t.fld _ p) (if_pos hp)).trans (State.fld_event (by decide) rfl (by decide))
    split
    · split
      · exact all _ (State.endUpd_within (by decide))
      · exact all _ .rfl
    · exact all _ .rfl

end

/-- Settles O8: HELLO answers in the version it chooses; GOODBYE ends the session behind its answer. -/
theorem helloAndGoodbyeOpenAndEndSessions : Obligations.HelloAndGoodbyeOpenAndEndSessions := by
  unfold Obligations.HelloAndGoodbyeOpenAndEndSessions
  dsimp only
  refine fun s q served drop => ⟨fun pre resv => ⟨fun hv => ?_, fun hv => ?_⟩, fun ended pre => ?_⟩
  · let v := min 3 (q.payload.getD 1 0)
    let u := s.setMb q.path { s.mb q.path with version := v, ended := false }
    let l := [v, 0] ++ bytesLe 2 (if isFnPath q.path then q.path else 0x100) ++ bytesLe 4 s.fwVersion ++ bytesLe 2 s.dcsLayout ++ bytesLe 2 2 ++ bytesLe 4 s.caps
    have eq : exec (.hello q) s = .next (u.respond q 0x0001 Ms.success false l) := by
      refine congrArg Host.Outcome.next ((State.serve_hello served pre).trans ?_)
      dsimp only
      rw [if_neg (not_not.mpr resv), if_neg (Nat.not_lt.mpr hv)]
      rfl
    have mb : u.mb q.path = { s.mb q.path with version := v, ended := false } := State.mb_setMb ..
    have len : l.length = 16 := by simp [l, length_bytesLe]
    have resp : (u.mb q.path).respVersion = v := by
      rw [mb, Mbx.respVersion, if_neg]
      exact Nat.ne_of_gt (lt_of_lt_of_le (by simp) hv)
    have sent := State.respond_sent (s := u) (q := q) (op := 0x0001) (st := Ms.success) (a := false) (l := l) (by rw [mb]; exact drop)
    unfold answers at sent
    rw [resp, len, List.take_of_length_le (by omega)] at sent
    refine ⟨_, eq, ?_, (State.respond_within_resp fun _ h => h).keeps .ops (by decide), sent,
      Within.keeps ((State.respond_within fun _ h => h).trans (State.setMb_within (by decide)))⟩
    rw [State.respond_mb.1, mb]
  · have eq : exec (.hello q) s = .next (s.refuse q 0x0001 Ms.version) := by
      refine congrArg Host.Outcome.next ((State.serve_hello served pre).trans ?_)
      dsimp only
      rw [if_neg (not_not.mpr resv), if_pos hv]
    exact ⟨_, eq, State.respond_sent drop, State.respond_mb.1, (State.respond_within_resp fun _ h => h).keeps .ops (by decide),
      (State.respond_within fun _ h => h).keeps⟩
  · have eq : exec (.goodbye q) s = .next ((s.respond q 0x0002 Ms.success false []).endSession q.path) := by
      show Host.Outcome.next (s.serve ..) = _
      simp [State.serve, served, ended, pre]
    obtain ⟨version, reset, within⟩ := (s.respond q 0x0002 Ms.success false []).endSession_spec q.path
    rw [State.respond_mb.1] at reset
    exact ⟨_, eq, (State.respond_sent drop).mono (List.suffix_refl _) within.out_suffix, version, reset,
      Within.keeps (.trans (within.mono (by decide)) (State.respond_within (by decide)))⟩

end Sys2Proof.Machine
end

section
/-! Operation handles (O9). -/

namespace Sys2Proof.Machine

/-- Settles O9: a handle is found on the requester's own mailbox, and forgotten once it reads as done. -/
theorem operationHandlesAreReadOnceDone : Obligations.OperationHandlesAreReadOnceDone := by
  unfold Obligations.OperationHandlesAreReadOnceDone
  refine fun s q => ⟨fun hq => ⟨fun o ho hp => ?_, fun other => ?_⟩, fun hq => leads_answer hq rfl rfl, fun op hq => leads_answer hq rfl rfl⟩
  · let u := if o.done then { s with ops := tabSet (fun _ => none) s.ops (le q.payload 0 4) none } else s
    have hu : Within [.ops] u s := .ite (.step (by decide) (.ops s _) .rfl) .rfl
    refine leads_respond hq rfl (u := u) ?_ hu (by decide) fun t ht => ?_
    · dsimp only
      rw [ho, Option.filter_some, if_pos (by simp [hp])]
    · rw [show t.ops = u.ops from ht.keeps .ops (by decide)]
      refine ⟨?_, fun h hne => ?_, Within.keeps (.trans (ht.mono (by decide)) (hu.mono (by decide)))⟩ <;> by_cases d : o.done = true
      · simp [u, d]
      · simpa [u, d] using ho
      · simp [u, d, hne]
      · simp [u, d]
  · refine leads_respond hq rfl (u := s) ?_ (Within.rfl (L := [])) (by decide) fun t ht => ⟨ht.keeps .ops (by decide), (ht.mono (by decide)).keeps⟩
    have none : (tabGet (fun _ => none) s.ops (le q.payload 0 4)).filter (fun o => decide (o.path = q.path)) = none := by
      cases h : tabGet (fun _ => none) s.ops (le q.payload 0 4) with
      | none => rfl
      | some o => simp [other o h]
    dsimp only
    rw [none]
    rfl

end Sys2Proof.Machine
end

section
/-! What an answer leaves of functions, controllers and queues. -/

namespace Sys2Proof.Machine

section
variable {s t u : State} {q : MbxReq} {op st p f v : ℕ} {a : Bool} {l : List ℕ}

theorem State.fnOf_setFn_of_ne {x : Fn} {g : ℕ} (h : g ≠ f) : (s.setFn f x).fnOf g = s.fnOf g := tabGet_set_ne _ _ _ h
theorem State.fnOf_eq_of_fns (h : t.fns = s.fns) {g : ℕ} : t.fnOf g = s.fnOf g := by rw [State.fnOf, State.fnOf, h]
theorem Within.fnOf {L : List Part} (h : Within L t s) (hf : .fns ∉ L) {g : ℕ} : t.fnOf g = s.fnOf g := State.fnOf_eq_of_fns (h.keeps .fns hf)

theorem State.ctl_setCtl_of_ne {x : Ctl} {g : ℕ} (h : g ≠ f) : (s.setCtl f x).ctl g = s.ctl g := tabGet_set_ne _ _ _ h
theorem State.ctl_eq_of_ctls (h : t.ctls = s.ctls) {g : ℕ} : t.ctl g = s.ctl g := by rw [State.ctl, State.ctl, h]
theorem Within.ctl {L : List Part} (h : Within L t s) (hf : .ctls ∉ L) {g : ℕ} : t.ctl g = s.ctl g := State.ctl_eq_of_ctls (h.keeps .ctls hf)

theorem State.sqOf_setSq_of_ne {x : Option Sq} {k g j : ℕ} (h : qKey g j ≠ qKey f k) : (s.setSq f k x).sqOf g j = s.sqOf g j := tabGet_set_ne _ _ _ h
theorem State.sqOf_eq_of_sqs (h : t.sqs = s.sqs) {g j : ℕ} : t.sqOf g j = s.sqOf g j := by rw [State.sqOf, State.sqOf, h]
theorem Within.sqOf {L : List Part} (h : Within L t s) (hf : .sqs ∉ L) {g j : ℕ} : t.sqOf g j = s.sqOf g j := State.sqOf_eq_of_sqs (h.keeps .sqs hf)

theorem State.cqOf_setCq_of_ne {x : Option Cq} {k g j : ℕ} (h : qKey g j ≠ qKey f k) : (s.setCq f k x).cqOf g j = s.cqOf g j := tabGet_set_ne _ _ _ h
theorem State.cqOf_eq_of_cqs (h : t.cqs = s.cqs) {g j : ℕ} : t.cqOf g j = s.cqOf g j := by rw [State.cqOf, State.cqOf, h]
theorem Within.cqOf {L : List Part} (h : Within L t s) (hf : .cqs ∉ L) {g j : ℕ} : t.cqOf g j = s.cqOf g j := State.cqOf_eq_of_cqs (h.keeps .cqs hf)

/-- Every function is as it was but for its MSI-X vectors. -/
def sameFns (s t : State) : Prop := ∀ g, ∃ v, t.fnOf g = { s.fnOf g with vec := v }

theorem sameFns.refl (s : State) : sameFns s s := fun g => ⟨(s.fnOf g).vec, rfl⟩
theorem sameFns.of_eq (h : t.fns = s.fns) : sameFns s t := fun g => ⟨(s.fnOf g).vec, State.fnOf_eq_of_fns h⟩
theorem sameFns.trans (h : sameFns s t) (k : sameFns t u) : sameFns s u := fun g => by
  obtain ⟨v, hv⟩ := h g
  obtain ⟨w, hw⟩ := k g
  exact ⟨w, by rw [hw, hv]⟩

theorem State.signal_sameFns : sameFns s (s.signal f v) := by
  unfold State.signal
  extract_lets x m
  split
  · exact .of_eq rfl
  · intro g
    by_cases h : g = f
    · subst h
      exact ⟨_, State.fnOf_setFn ..⟩
    · exact ⟨(s.fnOf g).vec, State.fnOf_setFn_of_ne h⟩

theorem State.mbxEvent_sameFns {x : Fld} {i sub : ℕ} (hf : x.reg = .MBX_EVENTS) : sameFns s (s.event x i sub) := by
  unfold State.event
  rw [hf]
  split
  · exact .refl s
  · exact sameFns.trans (.of_eq rfl) State.signal_sameFns

theorem State.alert_sameFns {k : ℕ} : sameFns s (s.alert k) :=
  .of_eq ((State.alert_within (L := [.reg .CHR_ALERT_STATUS, .mgmt, .out]) (by decide) (by decide) (by decide)).keeps .fns (by decide))

theorem State.mbEvent_sameFns {x : Fld} (hf : x.reg = .MBX_EVENTS) : sameFns s (s.mbEvent p x) := by
  unfold State.mbEvent
  split
  · exact State.mbxEvent_sameFns hf
  · split
    · exact State.alert_sameFns
    · exact .refl s

theorem State.postSegment_sameFns {r : RespBuf} : sameFns s (s.postSegment p r) := by
  unfold State.postSegment
  extract_lets m now rest more seg u
  exact sameFns.trans (t := u.emit (.mbxSegment p seg)) (.of_eq rfl) (State.mbEvent_sameFns rfl)

/-- An answer changes no function but in its vectors. -/
theorem State.respond_sameFns : sameFns s (s.respond q op st a l) := by
  unfold State.respond
  extract_lets m r u w
  split
  · exact .of_eq rfl
  · split
    · exact sameFns.trans (t := u) (.of_eq rfl) State.postSegment_sameFns
    · have hw : Within [.out] w u := Within.foldl fun _ _ => State.emit_within (by decide)
      exact sameFns.trans (sameFns.of_eq (t := w) (hw.keeps .fns (by decide))) (sameFns.trans (.of_eq rfl) State.alert_sameFns)

/-- A request that is carried out and answered, said of the answer itself. -/
theorem leads_respond_self {i : Instr} {r : ReqForm} {body : State → State} {M : List Part} {P : State → Prop} (hq : carriedOut s q r)
    (he : exec i s = .next (s.serve q r body)) (hb : body s = u.respond q op st a l) (hu : Within M u s) (hm : .mbx ∉ M)
    (hP : P (u.respond q op st a l)) : leads i s fun t => answers s t q op st a l ∧ P t :=
  ⟨_, he.trans (congrArg _ (hq.serve_eq.trans hb)), hq.respond_answers (hu.mb hm) hu.out_suffix, hP⟩

end

end Sys2Proof.Machine
end

section
/-! Classes and contracts (O10). -/

namespace Sys2Proof.Machine

section
variable {s t u : State} {q : MbxReq} {c d f k n r v : ℕ} {L : List Part}

theorem State.cls_eq_of_classes (h : t.classes = s.classes) : t.cls c = s.cls c := by rw [State.cls, State.cls, h]
theorem Within.cls (h : Within L t s) (hf : .classes ∉ L) : t.cls c = s.cls c := State.cls_eq_of_classes (h.keeps .classes hf)
theorem State.cls_setCls_of_ne {x : Cls} (h : d ≠ c) : (s.setCls c x).cls d = s.cls d := tabGet_set_ne _ _ _ h

/-- The check of one class leaves all but its UNFIT (R48). -/
theorem State.recheck1_cls : (∃ b, (s.recheck1 c).cls c = { s.cls c with unfit := b }) ∧ ∀ d, d ≠ c → (s.recheck1 c).cls d = s.cls d := by
  unfold State.recheck1
  extract_lets x bad s'
  have after : ∀ t, Within ([.out, .gaz, .mgmt, .fns, .ctls, .cpls, .reg .CHR_ALERT_STATUS, .reg .GAZ_COUNTS, .reg .HST_PROMISE_EVENTS]) t s' →
      (∃ b, t.cls c = { s.cls c with unfit := b }) ∧ ∀ d, d ≠ c → t.cls d = s.cls d := fun t ht =>
    ⟨⟨bad, (ht.cls (by decide)).trans (State.cls_setCls ..)⟩, fun d hd => (ht.cls (by decide)).trans (State.cls_setCls_of_ne hd)⟩
  split
  · exact after _ (Within.foldl fun u x => State.promise_within (by decide) (by decide))
  · exact after _ .rfl

theorem State.permitted_of_rg (hlo : t.rg .HST_CLASS_MASK_LO f = s.rg .HST_CLASS_MASK_LO f) (hhi : t.rg .HST_CLASS_MASK_HI f = s.rg .HST_CLASS_MASK_HI f) :
    t.permitted f k = s.permitted f k := by rw [State.permitted, State.permitted, hlo, hhi]

/-- A mask that is set permits the classes of its bits (R37). -/
theorem State.permitted_setMask {lo hi : ℕ} : (k < 32 → ((s.setReg .HST_CLASS_MASK_LO f (BitVec.ofNat 32 lo)).setReg .HST_CLASS_MASK_HI f (BitVec.ofNat 32 hi)).permitted f k = lo.testBit k) ∧
    (32 ≤ k → k < 64 → ((s.setReg .HST_CLASS_MASK_LO f (BitVec.ofNat 32 lo)).setReg .HST_CLASS_MASK_HI f (BitVec.ofNat 32 hi)).permitted f k = hi.testBit (k - 32)) ∧
    (∀ g, g ≠ f → ((s.setReg .HST_CLASS_MASK_LO f (BitVec.ofNat 32 lo)).setReg .HST_CLASS_MASK_HI f (BitVec.ofNat 32 hi)).permitted g k = s.permitted g k) := by
  refine ⟨fun h => ?_, fun h h' => ?_, fun g h => ?_⟩
  · rw [State.permitted, if_pos h, State.rg_setReg_ne _ (.inl (by decide)), State.rg_setReg_self, BitVec.getLsbD_ofNat]
    simp [h]
  · rw [State.permitted, if_neg (by omega), State.rg_setReg_self, BitVec.getLsbD_ofNat]
    simp [show k - 32 < 32 by omega]
  · exact State.permitted_of_rg ((State.rg_setReg_ne _ (.inl (by decide))).trans (State.rg_setReg_ne _ (.inr h)))
      ((State.rg_setReg_ne _ (.inr h)).trans (State.rg_setReg_ne _ (.inl (by decide))))

/-- The groups a RESERVE_SET names, said of a Boolean as the model computes it. -/
theorem reconNamed_iff {g : ℕ} : (decide (r ≠ 0xFFFF) && (decide (g = 0xFF) || decide (g = k))) = true ↔ r ≠ 0xFFFF ∧ (g = 0xFF ∨ g = k) := by simp

/-- A field of every row an update names. -/
theorem State.fld_foldl_setFld {F : Fld} {p : ℕ → Bool} (hF : F.hi < 32) (hr : r < 2 ^ (F.hi + 1 - F.lo)) :
    ((List.range n).foldl (fun s k => if p k then s.setFld F k r else s) s).fld F k = if k < n ∧ p k then r else s.fld F k := by
  induction n with
  | zero => simp
  | succ n ih =>
    rw [List.range_succ, List.foldl_append, List.foldl_cons, List.foldl_nil]
    by_cases hk : k = n
    · subst hk
      by_cases hp : p k = true
      · rw [if_pos hp, State.fld_setFld hF, Nat.mod_eq_of_lt hr, if_pos ⟨by omega, hp⟩]
      · rw [if_neg hp, ih, if_neg (by omega), if_neg (by simp [hp])]
    · have same : (if p n then ((List.range n).foldl (fun s k => if p k then s.setFld F k r else s) s).setFld F n r
          else (List.range n).foldl (fun s k => if p k then s.setFld F k r else s) s).fld F k =
          ((List.range n).foldl (fun s k => if p k then s.setFld F k r else s) s).fld F k := by
        split
        · exact State.fld_setFld_ne (.inr (.inl (Ne.symm hk)))
        · rfl
      rw [same, ih]
      simp only [show k < n + 1 ↔ k < n by omega]

theorem State.quotaTotal_sameFns (h : sameFns s t) (g : ℕ) : (t.fnOf g).quota = (s.fnOf g).quota ∧ (t.fnOf g).quotaUsed = (s.fnOf g).quotaUsed := by
  obtain ⟨v, hv⟩ := h g
  rw [hv]
  exact ⟨rfl, rfl⟩

end

/-- Settles O10, one request after the other; no answer changes a class, a mask, a binding or a quota. -/
theorem classesAndContractsAreReadAndSet : Obligations.ClassesAndContractsAreReadAndSet := by
  unfold Obligations.ClassesAndContractsAreReadAndSet
  dsimp only
  refine ⟨fun s q => ⟨fun hq => ⟨fun hc hp => ?_, fun hc => ?_⟩, fun hq => ⟨fun range bound fua flush => ?_, fun range off bound => ?_⟩,
    fun hq => leads_answer hq rfl rfl⟩, fun s q => ⟨fun hq hz => ?_, fun hq => ⟨fun g hg hc hp => ?_, fun hn => ?_⟩,
    fun g x hq hc h1 h512 hg hp hx => ⟨fun hb => ?_, fun hb => ?_⟩, fun hq hz h2 h512 => ⟨fun ht => ?_, fun ht => ?_⟩,
    fun hq hz hg hk10 hk200 th50 th400 hr => ⟨fun fits => ?_, fun fits => ?_⟩⟩⟩
  · refine leads_answer hq rfl ?_
    dsimp only
    rw [if_neg (by omega), if_neg (by rcases hp with h | h <;> simp only [h] <;> simp)]
  · refine leads_answer hq rfl ?_
    dsimp only
    rw [if_pos hc]
    rfl
  · generalize hC : q.payload.getD 0 0 = c at bound ⊢
    let x := classOf q.payload
    let a := s.setCls c { x with unfit := (s.cls c).unfit }
    let b := if x.rateCmds ≠ (s.cls c).rateCmds ∨ x.rateBytes ≠ (s.cls c).rateBytes then
      { a with buckets := a.buckets.filter (fun e => decide (e.1 % 64 ≠ c)) } else a
    have ha : Within [.classes] a s := State.setCls_within (by decide)
    have hb : Within [.buckets] b a := .ite (.step (by decide) (.buckets a _) .rfl) .rfl
    have hu : Within (.buckets :: recheck1Parts) (b.recheck1 c) s :=
      .trans (State.recheck1_within (by decide)) (.trans (hb.mono (by decide)) (ha.mono (by decide)))
    obtain ⟨⟨y, own⟩, others⟩ := State.recheck1_cls (s := b) (c := c)
    refine leads_respond hq rfl (u := b.recheck1 c) ?_ hu (by decide) fun t ht => ?_
    · subst hC
      dsimp only
      rw [if_neg (by simp [range]), if_neg (by rcases bound with h | h <;> rw [h] <;> simp), if_neg (by omega)]
    · rw [ht.cls (by decide), own, hb.cls (by decide), State.cls_setCls]
      refine ⟨fun _ => rfl, rfl, rfl, rfl, rfl, rfl, fun d hd => ?_, Within.keeps (.trans (ht.mono (by decide)) (hu.mono (by decide)))⟩
      rw [ht.cls (by decide), others d hd, hb.cls (by decide), State.cls_setCls_of_ne hd]
  · refine leads_answer hq rfl ?_
    dsimp only
    rw [if_neg (by simp [range]), if_pos (by rw [off]; simpa [-List.getD_eq_getElem?_getD] using bound)]
    rfl
  · let u := (s.setReg .HST_CLASS_MASK_LO (q.payload.getD 0 0) (BitVec.ofNat 32 (le q.payload 8 4))).setReg .HST_CLASS_MASK_HI (q.payload.getD 0 0)
      (BitVec.ofNat 32 (le q.payload 12 4))
    have hu : Within [.reg .HST_CLASS_MASK_LO, .reg .HST_CLASS_MASK_HI] u s :=
      (State.setReg_within (by decide)).trans (State.setReg_within (by decide))
    refine leads_respond hq rfl (u := u) ?_ hu (by decide) fun t ht => ?_
    · dsimp only
      rw [if_neg (not_not.mpr hz)]
    · have per : ∀ g k, t.permitted g k = u.permitted g k := fun g k =>
        State.permitted_of_rg (ht.keeps (.reg .HST_CLASS_MASK_LO) (by decide) g) (ht.keeps (.reg .HST_CLASS_MASK_HI) (by decide) g)
      refine ⟨fun k h => ?_, fun k h h' => ?_, fun g k h => ?_, (ht.keeps .sqs (by decide)).trans (hu.keeps .sqs (by decide)),
        Within.keeps (.trans (ht.mono (by decide)) (hu.mono (by decide)))⟩ <;> rw [per]
      · exact State.permitted_setMask.1 h
      · exact State.permitted_setMask.2.1 h h'
      · exact State.permitted_setMask.2.2 g h
  · have hu : Within [.reg .HST_CLASS_DEFAULT] (s.setFld F.HST_CLASS_DEFAULT_CLASS g (q.payload.getD 1 0)) s := State.setFld_within (by decide)
    refine leads_respond hq rfl (u := s.setFld F.HST_CLASS_DEFAULT_CLASS g (q.payload.getD 1 0)) ?_ hu (by decide) fun t ht => ⟨?_, fun h hne => ?_,
      Within.keeps (.trans (ht.mono (by decide)) (hu.mono (by decide)))⟩
    · dsimp only
      rw [hg]
      dsimp only
      rw [if_neg (by omega), if_neg (by rcases hp with h | h <;> rw [h] <;> simp)]
    · rw [ht.fld (by decide), State.fld_setFld (by decide)]
      exact Nat.mod_eq_of_lt hc
    · exact (ht.keeps (.reg .HST_CLASS_DEFAULT) (by decide) h).trans (State.rg_setReg_ne _ (.inr hne))
  · refine leads_answer hq rfl ?_
    dsimp only
    rw [hn]
    rfl
  · have hu : Within [.sqs] (s.setSq g (le q.payload 2 2) (some { x with newCls := some (q.payload.getD 1 0) })) s := State.setSq_within (by decide)
    refine leads_respond hq rfl (u := s.setSq g (le q.payload 2 2) (some { x with newCls := some (q.payload.getD 1 0) })) ?_ hu (by decide) fun t ht => ?_
    · dsimp only
      rw [hg]
      dsimp only
      rw [if_neg (by omega), if_neg (by rcases hp with h | h <;> rw [h] <;> simp), hx]
      dsimp only
      rw [if_neg (by simp only [hb]; decide)]
    · rw [ht.sqOf (by decide), State.sqOf_setSq]
      exact ⟨rfl, fun h k hne => (ht.sqOf (by decide)).trans (State.sqOf_setSq_of_ne hne),
        Within.keeps (.trans (ht.mono (by decide)) (hu.mono (by decide)))⟩
  · refine leads_answer hq rfl ?_
    dsimp only
    rw [hg]
    dsimp only
    rw [if_neg (by omega), if_neg (by rcases hp with h | h <;> rw [h] <;> simp), hx]
    dsimp only
    rw [if_pos (by simp only [hb]; decide)]
    rfl
  · have hu : Within [.fns] (s.setFn (q.payload.getD 0 0) { s.fnOf (q.payload.getD 0 0) with quota := le q.payload 2 2 }) s :=
      State.setFn_within (by decide)
    refine leads_respond_self hq rfl (u := s.setFn (q.payload.getD 0 0) { s.fnOf (q.payload.getD 0 0) with quota := le q.payload 2 2 }) ?_ hu (by decide) ?_
    · dsimp only
      rw [if_neg (by omega), if_neg (by omega)]
    · have same := State.quotaTotal_sameFns (State.respond_sameFns (s := s.setFn (q.payload.getD 0 0)
        { s.fnOf (q.payload.getD 0 0) with quota := le q.payload 2 2 }) (q := q) (op := 0x0107) (st := Ms.success) (a := false)
        (l := bytesLe 2 (s.setFn (q.payload.getD 0 0) { s.fnOf (q.payload.getD 0 0) with quota := le q.payload 2 2 }).quotaTotal))
      refine ⟨?_, ?_, fun g hg => ?_, Within.keeps ((State.respond_within (by decide)).trans (hu.mono (by decide)))⟩
      · rw [(same _).1, State.fnOf_setFn]
      · rw [(same _).2, State.fnOf_setFn]
      · rw [(same g).1, State.fnOf_setFn_of_ne hg]
  · refine leads_respond_self hq rfl (u := s) ?_ (Within.rfl (L := [])) (by decide)
      ⟨fun g => (State.quotaTotal_sameFns State.respond_sameFns g).1, (State.respond_within (by decide)).keeps⟩
    dsimp only
    rw [if_neg (by omega), if_pos ht]
    rfl
  · generalize hHK : (if le q.payload 0 2 = 0xFFFF then s.fld F.PLT_RESERVE_HK_PERMILLE 0 else le q.payload 0 2) = hk at *
    generalize hTH : (if le q.payload 2 2 = 0xFFFF then s.fld F.PLT_RESERVE_THERMAL_PERMILLE 0 else le q.payload 2 2) = th at *
    let named := fun k => decide (le q.payload 6 2 ≠ 0xFFFF) && (decide (q.payload.getD 4 0 = 0xFF) || decide (q.payload.getD 4 0 = k))
    let a := (s.setFld F.PLT_RESERVE_HK_PERMILLE 0 hk).setFld F.PLT_RESERVE_THERMAL_PERMILLE 0 th
    let u := (List.range 128).foldl (fun s k => if named k then s.setFld F.PLT_RECON_RECON_PERMILLE k (le q.payload 6 2) else s) a
    have ha : Within [.reg .PLT_RESERVE] a s := (State.setFld_within (by decide)).trans (State.setFld_within (by decide))
    have hu : Within [.reg .PLT_RECON] u a := Within.foldl fun _ _ => .ite (State.setFld_within (by decide)) .rfl
    have all : Within [.reg .PLT_RESERVE, .reg .PLT_RECON] u s := (hu.mono (by decide)).trans (ha.mono (by decide))
    refine leads_respond hq rfl (u := u) ?_ all (by decide) fun t ht => ?_
    · dsimp only
      simp only [hHK, hTH]
      rw [if_neg (by omega), show (fun k => if (decide (le q.payload 6 2 ≠ 0xFFFF) && (decide (q.payload.getD 4 0 = 0xFF) ||
        decide (q.payload.getD 4 0 = k))) = true then le q.payload 6 2 else s.fld F.PLT_RECON_RECON_PERMILLE k) = _
        from funext fun k => if_congr reconNamed_iff rfl rfl, if_neg (by rw [fits]; decide)]
    · rw [ht.fld (by decide), ht.fld (by decide), hu.fld (by decide), hu.fld (by decide)]
      refine ⟨?_, ?_, fun k hk => ?_, Within.keeps (.trans (ht.mono (by decide)) (all.mono (by decide)))⟩
      · rw [State.fld_setFld_ne (by decide), State.fld_setFld (by decide)]
        exact Nat.mod_eq_of_lt (by show hk < 1024; omega)
      · rw [State.fld_setFld (by decide)]
        exact Nat.mod_eq_of_lt (by show th < 1024; omega)
      · rw [ht.fld (by decide)]
        by_cases hr' : le q.payload 6 2 = 0xFFFF
        · have none : ∀ k, named k = false := by simp [named, hr']
          have same : u.fld F.PLT_RECON_RECON_PERMILLE k = a.fld F.PLT_RECON_RECON_PERMILLE k := by simp [u, none]
          rw [same, ha.fld (by decide), if_neg (fun h => h.1 hr')]
        · refine (State.fld_foldl_setFld (by decide) (by show le q.payload 6 2 < 1024; omega)).trans ?_
          rw [ha.fld (by decide)]
          exact if_congr (by simp [named, hk]) rfl rfl
  · refine leads_answer hq rfl ?_
    generalize hHK : (if le q.payload 0 2 = 0xFFFF then s.fld F.PLT_RESERVE_HK_PERMILLE 0 else le q.payload 0 2) = hk at *
    generalize hTH : (if le q.payload 2 2 = 0xFFFF then s.fld F.PLT_RESERVE_THERMAL_PERMILLE 0 else le q.payload 2 2) = th at *
    dsimp only
    simp only [hHK, hTH]
    rw [if_neg (by omega), show (fun k => if (decide (le q.payload 6 2 ≠ 0xFFFF) && (decide (q.payload.getD 4 0 = 0xFF) ||
      decide (q.payload.getD 4 0 = k))) = true then le q.payload 6 2 else s.fld F.PLT_RECON_RECON_PERMILLE k) = _
      from funext fun k => if_congr reconNamed_iff rfl rfl, if_pos (by rw [fits]; decide)]
    rfl

end Sys2Proof.Machine
end

section
/-! Sheet bays. -/

namespace Sys2Proof.Machine

section
variable {s t u : State} {b k : ℕ} {st : BayState} {L : List Part}

theorem State.bay_setBay_of_ne {x : Bay} (h : k ≠ b) : (s.setBay b x).bay k = s.bay k := tabGet_set_ne _ _ _ h
theorem State.bay_eq_of_bays (h : t.bays = s.bays) : t.bay k = s.bay k := by rw [State.bay, State.bay, h]
theorem Within.bay (h : Within L t s) (hb : .bays ∉ L) : t.bay k = s.bay k := State.bay_eq_of_bays (h.keeps .bays hb)

theorem otherBays.trans (h : otherBays s t b) (h' : otherBays t u b) : otherBays s u b := fun k hk => (h' k hk).trans (h k hk)
theorem Within.otherBays (h : Within L t s) (hb : .bays ∉ L) : otherBays s t b := fun _ _ => h.bay hb
theorem State.setBay_otherBays {x : Bay} : otherBays s (s.setBay b x) b := fun _ hk => State.bay_setBay_of_ne hk

/-- A bay's record after its move to a state, with the outputs Table 10-3 gives it. -/
def Bay.moved (x : Bay) (st : BayState) (now : ℕ) : Bay :=
  { x with st := st, pwrEn := st.pwrEn, attn := st.attn, pwrInd := st.pwrInd, since := now, locked := st.pwrEn || decide (st.pwrInd ≠ 0),
           idValid := x.idValid && st.pwrEn, blinkEnd := none, offer := x.offer && decide (st = .held) }

theorem State.moveBay_spec (s : State) (b : ℕ) (st : BayState) : (s.moveBay b st).bay b = (s.bay b).moved st s.now ∧ otherBays s (s.moveBay b st) b := by
  unfold State.moveBay
  extract_lets x s1 s2
  have h : Within (.reg .SHB_IND :: recordParts) (s2.record 0x0C0 b 0 0x000B (b + x.st.num * 2 ^ 4 + st.num * 2 ^ 8 + le x.id 8 6 * 2 ^ 16)) s1 :=
    (State.record_within (by decide)).trans (State.setFld_within (by decide))
  exact ⟨(h.bay (by decide)).trans (State.bay_setBay ..), State.setBay_otherBays.trans (h.otherBays (by decide))⟩

/-- A bay that moves stands in its state; no other bay does. -/
theorem State.toBay_spec (s : State) (b : ℕ) (st : BayState) : (s.toBay b st).bay b = (s.bay b).moved st s.now ∧ otherBays s (s.toBay b st) b ∧
    Within bayParts (s.toBay b st) s := by
  refine ⟨?_, ?_, State.toBay_within (by decide)⟩
  all_goals
    unfold State.toBay
    extract_lets s1
    have h : Within [.fch] s1 s := .ite .rfl (Within.foldl fun _ _ => State.setChan_within (by decide))
    obtain ⟨own, others⟩ := s1.moveBay_spec b st
  · rw [own, h.bay (by decide), show s1.now = s.now from h.keeps .now (by decide)]
  · exact (h.otherBays (by decide)).trans others

theorem inBayState_moved {x : Bay} {n : ℕ} (h : t.bay b = x.moved st n) : inBayState t b st := by
  unfold inBayState
  rw [h]
  exact ⟨rfl, rfl, rfl, rfl⟩

/-- A move and what follows it outside the bays. -/
theorem State.toBay_then (h : Within L t (s.toBay b st)) (hb : .bays ∉ L) : t.bay b = (s.bay b).moved st s.now ∧ otherBays s t b := by
  obtain ⟨own, others, -⟩ := s.toBay_spec b st
  exact ⟨(h.bay hb).trans own, others.trans (h.otherBays hb)⟩

end

end Sys2Proof.Machine
end

section
/-! Insertions (O11). -/

namespace Sys2Proof.Machine

section
variable {s : State} {b : ℕ}

/-- A record written and its bay moved. -/
theorem State.setBay_toBay_spec (s : State) (b : ℕ) (x : Bay) (st : BayState) : ((s.setBay b x).toBay b st).bay b = x.moved st s.now ∧
    otherBays s ((s.setBay b x).toBay b st) b ∧ Within bayParts ((s.setBay b x).toBay b st) s := by
  obtain ⟨own, others, w⟩ := (s.setBay b x).toBay_spec b st
  rw [State.bay_setBay] at own
  exact ⟨own, State.setBay_otherBays.trans others, w.trans (State.setBay_within (by decide))⟩

/-- An insertion that fails ends in REJECTED with its event (R302, R309, R310). -/
theorem State.rejected_spec {f : Fld} (s : State) (b : ℕ) (hf : f.reg = .SHB_EVENTS) (hi : f.hi < 32) (one : f.lo = f.hi) :
    let t := (s.toBay b .rejected).event f b 0
    inBayState t b .rejected ∧ t.fld f b = 1 ∧ otherBays s t b ∧ keepsBut (.fns :: .reg .SHB_EVENTS :: bayParts) s t := by
  have he : Within (.reg .SHB_EVENTS :: eventParts) ((s.toBay b .rejected).event f b 0) (s.toBay b .rejected) :=
    State.event_within (by rw [hf]; decide) (by decide)
  obtain ⟨own, others⟩ := State.toBay_then he (by decide)
  exact ⟨inBayState_moved own, State.fld_event hi one (by rw [hf]; decide), others,
    Within.keeps ((he.mono (by decide)).trans (State.toBay_within (by decide)))⟩

end

/-- Settles O11: every clause is one move of the bay, behind the record that its command writes first. -/
theorem insertionsWalkOrAreRejected : Obligations.InsertionsWalkOrAreRejected := by
  unfold Obligations.InsertionsWalkOrAreRejected
  refine ⟨fun s b hb sold hub => ?_, fun s b hb sold => ⟨fun hst pg => ?_, fun answered record hst bad => ?_, fun hst none => ?_, fun h => ?_⟩⟩
  · have here : ¬(16 ≤ b ∨ s.soldered = true) := by simp [sold, hb]
    have acts : ∀ x : Bay, (s.setBay b x).baysAct = true := fun x => by
      show (s.hubOn && !s.soldered) = true
      rw [hub, sold]
      rfl
    refine ⟨fun hst => ?_, fun hst level pres => ?_, fun hst run mode none low => ?_, fun hst => ?_, fun record hst ok => ?_, fun hst some => ?_⟩
    · obtain ⟨own, others, w⟩ := s.setBay_toBay_spec b { s.bay b with level := true, edgeAt := if true = (s.bay b).present then none else some s.now } .debounce
      refine ⟨_, ?_, inBayState_moved own, by rw [own]; rfl, others, w.keeps⟩
      show execPresenceEdge b true s = _
      unfold execPresenceEdge
      rw [if_neg here]
      dsimp only
      rw [if_neg (by rw [acts]; decide), if_pos ⟨rfl, hst⟩]
    · obtain ⟨own, others, w⟩ := s.setBay_toBay_spec b { s.bay b with present := (s.bay b).level, edgeAt := none } .waitPower
      refine ⟨_, ?_, inBayState_moved own, by rw [own]; exact level, others, w.keeps⟩
      show execPresenceDebounced b s = _
      unfold execPresenceDebounced
      have act : s.baysAct = true := by simp [State.baysAct, hub, sold]
      rw [if_neg (by simp [hb, sold, act, level, pres]), State.presenceAct]
      dsimp only
      rw [if_pos level, hst]
    · obtain ⟨own, others, w⟩ := s.toBay_spec b .powering
      have good : ((s.toBay b .powering).bay b).pwrGood = (s.bay b).pwrGood := by rw [own]; rfl
      have eq : exec (.bayPowerStart b) s = .next (if (s.bay b).pwrGood then (s.toBay b .powering).toBay b .identify else s.toBay b .powering) := by
        show execBayPowerStart b s = _
        unfold execBayPowerStart
        dsimp only
        rw [if_neg (by simp only [sold, run, hst, none, low, Nat.not_le.mpr hb]; simp [mode]), good]
      refine ⟨_, eq, ?_⟩
      by_cases pg : (s.bay b).pwrGood = true
      · obtain ⟨own', others', w'⟩ := (s.toBay b .powering).toBay_spec b .identify
        rw [if_pos pg, if_pos pg]
        exact ⟨inBayState_moved own', others.trans others', (w'.trans w).keeps⟩
      · rw [if_neg pg, if_neg pg]
        exact ⟨inBayState_moved own, others, w.keeps⟩
    · obtain ⟨own, others, w⟩ := s.setBay_toBay_spec b { s.bay b with pwrGood := true } .identify
      refine ⟨_, ?_, inBayState_moved own, by rw [own]; rfl, others, w.keeps⟩
      show execPwrgdRise b s = _
      unfold execPwrgdRise
      rw [if_neg here]
      dsimp only
      rw [State.bay_setBay, if_pos hst]
    · obtain ⟨own, others, w⟩ := s.setBay_toBay_spec b { s.bay b with id := record } .discover
      refine ⟨_, ?_, inBayState_moved own, by rw [own]; rfl, others, w.keeps⟩
      show execIdentityCheck b true record s = _
      unfold execIdentityCheck
      rw [if_neg (by simp [hb, hst]), if_pos (by simp [ok])]
    · obtain ⟨own, others, w⟩ := s.toBay_spec b .held
      have own' : ((s.toBay b .held).setBay b { (s.toBay b .held).bay b with idValid := true, dies := s.trainedDies b }).bay b =
          { (s.bay b).moved .held s.now with idValid := true, dies := s.trainedDies b } := by rw [State.bay_setBay, own]
      refine ⟨(s.toBay b .held).setBay b { (s.toBay b .held).bay b with idValid := true, dies := s.trainedDies b }, ?_, ?_, ?_, ?_,
        others.trans State.setBay_otherBays, Within.keeps (.trans (State.setBay_within (by decide)) w)⟩
      · show execBayDiscoveryEnd b s = _
        unfold execBayDiscoveryEnd
        rw [if_neg (by simp [hb, hst])]
        dsimp only
        rw [if_neg some]
      · unfold inBayState
        rw [own']
        exact ⟨rfl, rfl, rfl, rfl⟩
      · rw [own']
      · rw [own']
  · refine ⟨_, ?_, s.rejected_spec b rfl (by decide) rfl⟩
    show execPwrgdTimeout b s = _
    unfold execPwrgdTimeout
    dsimp only
    rw [if_neg (by simp [hb, hst, pg])]
  · refine ⟨_, ?_, s.rejected_spec b rfl (by decide) rfl⟩
    show execIdentityCheck b answered record s = _
    unfold execIdentityCheck
    rw [if_neg (by simp [hb, hst]), if_neg (by rcases bad with h | h <;> simp [h])]
  · refine ⟨_, ?_, s.rejected_spec b rfl (by decide) rfl⟩
    show execBayDiscoveryEnd b s = _
    unfold execBayDiscoveryEnd
    rw [if_neg (by simp [hb, hst])]
    dsimp only
    rw [if_pos none]
  · show execBayPowerStart b s = _
    unfold execBayPowerStart
    dsimp only
    rw [if_pos]
    rcases h with h | h <;> simp only [h, true_or, or_true]

end Sys2Proof.Machine
end

section
/-! The layout of the sheets. -/

namespace Sys2Proof.Machine

section
variable {s t : State} {b k : ℕ}

theorem maskBit_maskSet_self {m : ℕ} : maskBit (maskSet m b) b = true := by
  unfold maskSet
  by_cases h : maskBit m b = true
  · rw [if_pos h, h]
  · rw [if_neg h]
    unfold maskBit at h ⊢
    have pos : 0 < 2 ^ b := by positivity
    rw [decide_eq_true_eq] at h ⊢
    rw [Nat.add_div_right _ pos]
    omega

theorem maskBit_maskClear_self {m : ℕ} : maskBit (maskClear m b) b = false := by
  unfold maskClear
  by_cases h : maskBit m b = true
  · rw [if_pos h]
    unfold maskBit at h ⊢
    rw [decide_eq_true_eq] at h
    have one := Nat.sub_mul_div m (2 ^ b) 1
    rw [Nat.mul_one] at one
    rw [decide_eq_false_iff_not, one]
    omega
  · rw [if_neg h]
    exact Bool.eq_false_iff.mpr h

/-- Whether a band's sheets are its group's is decided by the bands, the usable sheets and the dies. -/
theorem State.current_congr (hs : t.svy = s.svy) (hu : t.par.usable = s.par.usable) (hf : t.fch = s.fch) (hl : t.flt = s.flt) :
    t.current k = s.current k := by
  have live : ∀ d, t.dieLive d = s.dieLive d := fun d => by
    simp only [State.dieLive, State.dieOf, State.fenced, State.unit, hf, hl]
  have use : ∀ g sh, t.usableFor g sh = s.usableFor g sh := fun g sh => by rw [State.usableFor, State.usableFor, State.sheetUsable, State.sheetUsable, hu, live]
  have sheets : t.groupSheets (k % 128) = s.groupSheets (k % 128) := by
    unfold State.groupSheets
    simp only [use]
  rw [State.current, State.current, sheets, State.bandRec, State.bandRec, hs]

/-- What a new layout makes of the layout record (R205, R206). -/
theorem State.layoutStep_par : ∃ g w, s.layoutStep.par = { s.par with
    layoutGen := (s.par.layoutGen + 1) % 65536, frontier := 0,
    sweep := s.svy.band.any (fun e => decide (e.2.st = .closed) && !s.current e.1), serials := g, groups := w } := by
  unfold State.layoutStep
  extract_lets was due sheets groups src s1
  refine ⟨sheets, groups, ?_⟩
  have h : Within (.pwr :: .reg .PAR_EVENTS :: .reg .PWR_EVENTS :: retireBandParts)
      (if was then s1.event F.PAR_EVENTS_RESHAPE_RESTART 0 0 else s1).rebuildReserves.recomputeBudget s1 :=
    (State.recomputeBudget_within (by decide)).trans ((State.rebuildReserves_within (by decide)).trans
      (.ite (State.event_within (by decide) (by decide)) .rfl))
  exact h.keeps .par (by decide)

/-- The bays hold a state of some kind before a write exactly when they do after, where the bay written is of that kind neither way. -/
theorem any_tabPut {α : Type} {p : ℕ × α → Bool} {m : Tab α} {v : α} (hv : p (k, v) = false) (hu : ∀ u, tabFind m k = some u → p (k, u) = false) :
    (tabPut m k v).any p = m.any p := by
  induction m with
  | nil => simp [tabPut, hv]
  | cons e m ih =>
    obtain ⟨j, u⟩ := e
    unfold tabPut
    split
    · rw [List.any_cons, hv, Bool.false_or]
    · split
      · next h =>
        subst h
        rw [List.any_cons, List.any_cons, hv, hu u (by rw [tabFind, if_pos rfl])]
      · next h =>
        rw [List.any_cons, List.any_cons, ih fun u hu' => hu u (by rw [tabFind, if_neg h, hu'])]

theorem State.setBay_any {p : BayState → Bool} {x : Bay} (hne : x ≠ Bay.reset) (hx : p x.st = false) (hs : p (s.bay b).st = false) :
    (s.setBay b x).bays.any (fun e => p e.2.st) = s.bays.any (fun e => p e.2.st) := by
  show (tabSet (fun _ => Bay.reset) s.bays b x).any _ = _
  rw [tabSet, if_neg hne]
  refine any_tabPut hx fun u hu => ?_
  rw [State.bay, tabGet, hu] at hs
  exact hs

end

end Sys2Proof.Machine
end

section
/-! Offers (O12). -/

namespace Sys2Proof.Machine

/-- A sheet has joined the layout (R215). -/
def joined (s t : State) (b : ℕ) : Prop := inBayState t b .offered ∧ t.fld F.SHB_EVENTS_INSERTED b = 1 ∧
    maskBit t.par.present b = true ∧ maskBit t.par.usable b = true ∧ t.par.layoutGen = (s.par.layoutGen + 1) % 65536 ∧
    t.par.frontier = 0 ∧ otherBays s t b ∧
    t.par.sweep = s.svy.band.any (fun e => decide (e.2.st = .closed) &&
      !({ s with par := { s.par with present := maskSet s.par.present b, usable := maskSet s.par.usable b } } : State).current e.1)

/-- What the offer of a sheet may change. -/
def joinParts : List Part := .reg .SHB_EVENTS :: layoutParts ++ bayParts

/-- A removal is on its way in some bay (R312). -/
def BayState.leaving (st : BayState) : Bool := decide (st = .abortWindow) || decide (st = .evacuating)

section
variable {s : State} {b : ℕ}

/-- The layout with a sheet in (R215): what the layout step and the check of classes leave of it. -/
theorem State.sheetIn_spec (s : State) (b : ℕ) : ∃ g w, (s.sheetIn b).par = { s.par with
    present := maskSet s.par.present b, usable := maskSet s.par.usable b, layoutGen := (s.par.layoutGen + 1) % 65536, frontier := 0,
    sweep := s.svy.band.any (fun e => decide (e.2.st = .closed) &&
      !({ s with par := { s.par with present := maskSet s.par.present b, usable := maskSet s.par.usable b } } : State).current e.1),
    serials := g, groups := w } ∧ Within layoutParts (s.sheetIn b) s := by
  unfold State.sheetIn
  extract_lets src s1
  obtain ⟨g, w, hp⟩ := s1.layoutStep_par
  refine ⟨g, w, ?_, .trans (State.recheck_within (by decide)) (.trans (State.layoutStep_within (by decide)) (.step (by decide) (.par s _) .rfl))⟩
  rw [show s1.layoutStep.recheck.par = s1.layoutStep.par from (State.recheck_within (L := recheckParts) fun _ h => h).keeps .par (by decide), hp]

theorem State.setBay_leaving (held : (s.bay b).st = .held) : (s.setBay b { s.bay b with offer := true }).bays.any (fun e => e.2.st.leaving) =
    s.bays.any (fun e => e.2.st.leaving) :=
  State.setBay_any (fun h => Bool.noConfusion (congrArg Bay.offer h)) (by rw [held]; rfl) (by rw [held]; rfl)

/-- The offer of a HELD sheet that nothing holds up (R312, R215). -/
theorem State.offerBay_joined (held : (s.bay b).st = .held) (run : s.start.running = false) (evac : s.par.evac ≠ some b)
    (free : s.bays.any (fun e => e.2.st.leaving) = false) (ask : s.fld F.SHB_CFG_AUTO_OFFER 0 = 1 ∨ (s.bay b).offer = true) :
    joined s (s.offerBay b) b ∧ Within joinParts (s.offerBay b) s := by
  let a := (s.setBay b { s.bay b with offer := false }).toBay b .offered
  let e := a.event F.SHB_EVENTS_INSERTED b 0
  have h1 : Within bayParts a s := (State.toBay_within (by decide)).trans (State.setBay_within (by decide))
  have hfch : Within (.bays :: .reg .SHB_IND :: recordParts) a s := by
    unfold a State.toBay
    exact (State.moveBay_within (by decide)).trans (State.setBay_within (by decide))
  have h2 : Within (.reg .SHB_EVENTS :: eventParts) e a := State.event_within (by decide) (by decide)
  have hpar : e.par = s.par := (h2.keeps .par (by decide)).trans (h1.keeps .par (by decide))
  have hsvy : e.svy = s.svy := (h2.keeps .svy (by decide)).trans (h1.keeps .svy (by decide))
  have hflt : e.flt = s.flt := (h2.keeps .flt (by decide)).trans (h1.keeps .flt (by decide))
  have hdie : e.fch = s.fch := (h2.keeps .fch (by decide)).trans (hfch.keeps .fch (by decide))
  have eq : s.offerBay b = e.sheetIn b := by
    have join : a.joinSheet b = e.sheetIn b := by
      unfold State.joinSheet
      rw [show a.start = s.start from h1.keeps .start (by decide), run]
    unfold State.offerBay
    dsimp only
    rw [if_neg, if_neg]
    · exact join
    · exact evac
    · have off : ¬(s.fld F.SHB_CFG_AUTO_OFFER 0 = 0 ∧ (s.bay b).offer = false) := by
        rintro ⟨h0, ho⟩
        rcases ask with h | h
        · omega
        · exact Bool.false_ne_true (ho.symm.trans h)
      rw [not_or, not_or]
      exact ⟨not_not.mpr held, Bool.eq_false_iff.mp free, off⟩
  obtain ⟨g, w, par, hw⟩ := e.sheetIn_spec b
  obtain ⟨own, others⟩ := State.toBay_then (s := s.setBay b { s.bay b with offer := false }) (L := .reg .SHB_EVENTS :: layoutParts)
    ((hw.mono (by decide)).trans (h2.mono (by decide))) (by decide)
  rw [eq]
  refine ⟨⟨inBayState_moved own, ?_, ?_, ?_, ?_, ?_, State.setBay_otherBays.trans others, ?_⟩,
    .trans (hw.mono (by decide)) (.trans (h2.mono (by decide)) (h1.mono (by decide)))⟩
  · rw [hw.fld (by decide)]
    exact State.fld_event (by decide) rfl (by decide)
  · rw [par]
    exact maskBit_maskSet_self
  · rw [par]
    exact maskBit_maskSet_self
  · rw [par, hpar]
  · rw [par]
  · rw [par]
    have use : maskSet e.par.usable b = maskSet s.par.usable b := by rw [hpar]
    exact congr (congrArg (fun v : Svy => List.any v.band) hsvy) (funext fun x => congrArg (fun v => decide (x.2.st = .closed) && !v)
      (State.current_congr hsvy use hdie hflt))

end

/-- SHEET_OFFER of a bay that holds a sheet: the request is written, and the bay is offered. -/
theorem offered {s : State} {b : ℕ} {q : MbxReq} (hb : b < 16) (sold : s.soldered = false) (held : (s.bay b).st = .held) (hB : le q.payload 0 1 = b) :
    (if s.soldered then s.refuse q 0x0502 Ms.soldered else if 16 ≤ le q.payload 0 1 then s.refuse q 0x0502 Ms.invalidField
      else if (s.bay (le q.payload 0 1)).st ≠ .held then s.refuse q 0x0502 Ms.notOfferable
      else ((s.setBay (le q.payload 0 1) { s.bay (le q.payload 0 1) with offer := true }).offerBay (le q.payload 0 1)).respond q 0x0502 Ms.success false []) =
    ((s.setBay b { s.bay b with offer := true }).offerBay b).respond q 0x0502 Ms.success false [] := by
  rw [hB, if_neg (by simp [sold]), if_neg (by omega), if_neg (not_not.mpr held)]

/-- Settles O12: SHEET_OFFER is the offer of the bay with its request written first. -/
theorem anOfferedSheetJoinsTheLayout : Obligations.AnOfferedSheetJoinsTheLayout := by
  unfold Obligations.AnOfferedSheetJoinsTheLayout
  intro s b q hb sold held run evac
  dsimp only
  refine ⟨fun free ask => ?_, fun busy => ?_, fun hq hB => ⟨fun free => ?_, fun busy => ?_⟩⟩
  · obtain ⟨joins, w⟩ := State.offerBay_joined held run evac free ask
    exact ⟨_, if_neg (by omega), joins, w.keeps⟩
  · refine (if_neg (by omega)).trans (congrArg _ ?_)
    unfold State.offerBay
    dsimp only
    rw [if_pos (.inr (.inl busy))]
  · obtain ⟨⟨st, ins, pres, use, gen, front, others, sweep⟩, w⟩ := State.offerBay_joined (s := s.setBay b { s.bay b with offer := true }) (b := b)
      (by rw [State.bay_setBay]; exact held) run evac ((State.setBay_leaving held).trans free) (.inr (by rw [State.bay_setBay]))
    have all : Within joinParts ((s.setBay b { s.bay b with offer := true }).offerBay b) s := w.trans (State.setBay_within (by decide))
    refine leads_respond hq rfl (u := (s.setBay b { s.bay b with offer := true }).offerBay b) (offered hb sold held hB) all (by decide)
      fun t ht => ⟨⟨?_, ?_, ?_, ?_, ?_, ?_, ?_, ?_⟩, Within.keeps (.trans (ht.mono (by decide)) (all.mono (by decide)))⟩
    · unfold inBayState at st ⊢
      rw [ht.bay (by decide)]
      exact st
    · rw [ht.fld (by decide)]
      exact ins
    · rw [show t.par = _ from ht.keeps .par (by decide)]
      exact pres
    · rw [show t.par = _ from ht.keeps .par (by decide)]
      exact use
    · rw [show t.par = _ from ht.keeps .par (by decide)]
      exact gen
    · rw [show t.par = _ from ht.keeps .par (by decide)]
      exact front
    · exact (State.setBay_otherBays.trans others).trans (ht.otherBays (by decide))
    · rw [show t.par = _ from ht.keeps .par (by decide)]
      exact sweep
  · have same : (s.setBay b { s.bay b with offer := true }).offerBay b = s.setBay b { s.bay b with offer := true } := by
      unfold State.offerBay
      dsimp only
      rw [if_pos (.inr (.inl ((State.setBay_leaving held).trans busy)))]
    have w : Within [.bays] (s.setBay b { s.bay b with offer := true }) s := State.setBay_within (by decide)
    refine leads_respond hq rfl (same ▸ offered hb sold held hB) w (by decide) fun t ht => ?_
    rw [ht.bay (by decide), State.bay_setBay]
    exact ⟨held, rfl, Within.keeps (.trans (ht.mono (by decide)) (w.mono (by decide)))⟩

end Sys2Proof.Machine
end

section
/-! Removals and sheet requests (O13). -/

namespace Sys2Proof.Machine

section
variable {s t : State} {b : ℕ} {L : List Part}

/-- What the end of an operation may change: its handle, its mailbox's event, ALERT_N. -/
def opDoneParts : List Part := [.ops, .fns, .mgmt, .out, .reg .CHR_ALERT_STATUS, .reg .MBX_EVENTS]

theorem State.opDone_within_op {h : Option ℕ} {r : ℕ} {data : List ℕ} (hL : opDoneParts ⊆ L) : Within L (t.opDone h r data) t := by
  unfold State.opDone
  split
  · exact .rfl
  · split
    · exact .rfl
    · extract_lets o' s1
      have h1 : Within L s1 t := .step (hL (by decide)) (.ops t _) .rfl
      refine .trans ?_ h1
      unfold State.mbEvent
      exact .ite (State.mbxEvent_within rfl (sub_of hL rfl)) (.ite (State.alert_within (hL (by decide)) (hL (by decide)) (hL (by decide))) .rfl)

/-- The end of a removal's operation (R413): the bay keeps its state, without a handle. -/
theorem State.endRemoval_spec (s : State) (b : ℕ) : (s.endRemoval b).bay b = { s.bay b with handle := none } ∧ otherBays s (s.endRemoval b) b ∧
    Within (.bays :: opDoneParts) (s.endRemoval b) s := by
  unfold State.endRemoval
  extract_lets x
  split
  · next h =>
    refine ⟨?_, fun _ _ => rfl, .rfl⟩
    rw [← h]
  · have w : ∀ h r d, Within opDoneParts ((s.setBay b { x with handle := none }).opDone h r d) (s.setBay b { x with handle := none }) :=
      fun _ _ _ => State.opDone_within_op fun _ h => h
    exact ⟨((w _ _ _).bay (by decide)).trans (State.bay_setBay ..), State.setBay_otherBays.trans ((w _ _ _).otherBays (by decide)),
      ((w _ _ _).mono (by decide)).trans (State.setBay_within (by decide))⟩

/-- A removal called off (R316): OFFERED again, ABORTED set, no handle. -/
theorem State.abortRemoval_spec (s : State) (b : ℕ) : inBayState (s.abortRemoval b) b .offered ∧
    (s.abortRemoval b).fld F.SHB_EVENTS_ABORTED b = 1 ∧ ((s.abortRemoval b).bay b).handle = none ∧ otherBays s (s.abortRemoval b) b ∧
    Within (([.fns, .ops, .reg .MBX_EVENTS, .reg .SHB_EVENTS] : List Part) ++ bayParts) (s.abortRemoval b) s := by
  unfold State.abortRemoval
  have he : Within (.reg .SHB_EVENTS :: eventParts) ((s.toBay b .offered).event F.SHB_EVENTS_ABORTED b 0) (s.toBay b .offered) :=
    State.event_within (by decide) (by decide)
  obtain ⟨own, others⟩ := State.toBay_then he (by decide)
  obtain ⟨own', others', w⟩ := ((s.toBay b .offered).event F.SHB_EVENTS_ABORTED b 0).endRemoval_spec b
  rw [own] at own'
  refine ⟨?_, ?_, by rw [own'], others.trans others', .trans (w.mono (by decide)) (.trans (he.mono (by decide)) (State.toBay_within (by decide)))⟩
  · unfold inBayState
    rw [own']
    exact ⟨rfl, rfl, rfl, rfl⟩
  · rw [w.fld (by decide)]
    exact State.fld_event (by decide) rfl (by decide)

/-- A removal that is refused (R315): the bay stays, blinks for 5 s, and REFUSED sets. -/
theorem State.refuseRemoval_spec (s : State) (b : ℕ) : (s.refuseRemoval b).bay b = { s.bay b with attn := 3, blinkEnd := some (s.now + 5 * sTicks) } ∧
    (s.refuseRemoval b).fld F.SHB_EVENTS_REFUSED b = 1 ∧ otherBays s (s.refuseRemoval b) b ∧
    Within (([.bays, .fns, .reg .SHB_EVENTS] : List Part) ++ recordParts) (s.refuseRemoval b) s := by
  unfold State.refuseRemoval
  have w : Within (.reg .SHB_EVENTS :: eventParts) ((s.setBay b { s.bay b with attn := 3, blinkEnd := some (s.now + 5 * sTicks) }).event F.SHB_EVENTS_REFUSED b 0)
    (s.setBay b { s.bay b with attn := 3, blinkEnd := some (s.now + 5 * sTicks) }) := State.event_within (by decide) (by decide)
  exact ⟨(w.bay (by decide)).trans (State.bay_setBay ..), State.fld_event (by decide) rfl (by decide), State.setBay_otherBays.trans (w.otherBays (by decide)),
    (w.mono (by decide)).trans (State.setBay_within (by decide))⟩

theorem State.buttonPress_acts (hb : b < 16) (sold : s.soldered = false) (hub : s.hubOn = true) :
    exec (.buttonPress b) s = .next ((s.setFld F.SHB_BAY_BUTTON b 1).pressAct b) := by
  show execButtonPress b s = _
  unfold execButtonPress
  have act : (s.setFld F.SHB_BAY_BUTTON b 1).baysAct = true := by
    show (s.hubOn && !s.soldered) = true
    rw [hub, sold]
    rfl
  rw [if_neg (by simp [hb, sold])]
  dsimp only
  rw [if_pos act]

end

/-- Settles O13: a button or a request moves its bay through the move, the refusal or the call-off of a removal. -/
theorem removalsAndSheetRequests : Obligations.RemovalsAndSheetRequests := by
  unfold Obligations.RemovalsAndSheetRequests
  refine ⟨fun s b hb sold => ⟨fun hub hst blink => ⟨fun ok => ?_, fun no => ?_⟩, fun hub hst => ?_, fun hub => ?_, fun hst => ?_, fun hst => ?_, fun hbl => ?_⟩,
    fun s q b hb hB => ⟨fun h hq sold hh => ⟨fun ok hm => ?_, fun k no => ?_⟩, fun hq => ⟨fun sold hst => ?_, fun sold hst => ?_, fun sold => ?_⟩,
      fun hq => leads_answer hq rfl rfl, fun hq => ?_⟩⟩
  · let u := s.setFld F.SHB_BAY_BUTTON b 1
    have hu : Within [.reg .SHB_BAY] u s := State.setFld_within (by decide)
    obtain ⟨own, others, w⟩ := u.toBay_spec b .abortWindow
    have act : u.pressAct b = u.toBay b .abortWindow := by
      unfold State.pressAct
      dsimp only
      rw [show (u.bay b).st = .offered from hst]
      dsimp only
      rw [if_neg (by rw [show (u.bay b).blinkEnd = none from blink]; decide), if_neg (by rw [show u.removeReason b = none from ok]; decide)]
    refine ⟨_, (State.buttonPress_acts hb sold hub).trans (congrArg _ act), inBayState_moved own, ?_, (hu.otherBays (by decide)).trans others,
      Within.keeps (.trans (w.mono (by decide)) (hu.mono (by decide)))⟩
    rw [w.fld (by decide)]
    exact State.fld_setFld (by decide)
  · let u := s.setFld F.SHB_BAY_BUTTON b 1
    have hu : Within [.reg .SHB_BAY] u s := State.setFld_within (by decide)
    obtain ⟨own, ref, others, w⟩ := u.refuseRemoval_spec b
    have act : u.pressAct b = u.refuseRemoval b := by
      unfold State.pressAct
      dsimp only
      rw [show (u.bay b).st = .offered from hst]
      dsimp only
      rw [if_neg (by rw [show (u.bay b).blinkEnd = none from blink]; decide), if_pos (show (u.removeReason b).isSome = true from Option.isSome_iff_ne_none.mpr no)]
    refine ⟨_, (State.buttonPress_acts hb sold hub).trans (congrArg _ act), ?_, ref, ?_, ?_, (hu.otherBays (by decide)).trans others,
      Within.keeps (.trans (w.mono (by decide)) (hu.mono (by decide)))⟩
    all_goals rw [own]
    · exact hst
    · rfl
  · let u := s.setFld F.SHB_BAY_BUTTON b 1
    have hu : Within [.reg .SHB_BAY] u s := State.setFld_within (by decide)
    obtain ⟨st, ab, han, others, w⟩ := u.abortRemoval_spec b
    have act : u.pressAct b = u.abortRemoval b := by
      unfold State.pressAct
      dsimp only
      rw [show (u.bay b).st = .abortWindow from hst]
    exact ⟨_, (State.buttonPress_acts hb sold hub).trans (congrArg _ act), st, ab, han, (hu.otherBays (by decide)).trans others,
      Within.keeps (.trans (w.mono (by decide)) (hu.mono (by decide)))⟩
  · let u := s.setFld F.SHB_BAY_BUTTON b 1
    have hu : Within [.reg .SHB_BAY] u s := State.setFld_within (by decide)
    have eq : exec (.buttonPress b) s = .next (u.setBay b { u.bay b with press := true }) := by
      show execButtonPress b s = _
      unfold execButtonPress
      have act : u.baysAct = false := by
        show (s.hubOn && !s.soldered) = false
        rw [hub]
        rfl
      rw [if_neg (by simp [hb, sold])]
      dsimp only
      rw [if_neg (by rw [act]; decide)]
    refine ⟨_, eq, ?_, ?_, (hu.otherBays (by decide)).trans State.setBay_otherBays, Within.keeps (.trans (State.setBay_within (by decide)) (hu.mono (by decide)))⟩
    all_goals rw [State.bay_setBay]
    rfl
  · obtain ⟨own, others, w⟩ := s.toBay_spec b .evacuating
    have wp : Within [.par] ({ s.toBay b .evacuating with par := { (s.toBay b .evacuating).par with evac := some b } } : State) (s.toBay b .evacuating) :=
      .step (by decide) (.par (s.toBay b .evacuating) _) .rfl
    refine ⟨_, ?_, inBayState_moved (t := { s.toBay b .evacuating with par := { (s.toBay b .evacuating).par with evac := some b } }) own, rfl, others,
      Within.keeps (.trans (wp.mono (by decide)) (w.mono (by decide)))⟩
    show execAbortWindowExpiry b s = _
    unfold execAbortWindowExpiry
    rw [if_neg (by simp [hb, hst])]
  · let a := s.setBay b { s.bay b with pwrGood := false }
    let c := ((a.toBay b .off).membersGone b).diesOff b
    let d : State := { c with par := { c.par with present := maskClear c.par.present b } }
    let e := d.event F.SHB_EVENTS_REMOVED b 0
    have hc : Within [.svy, .fch] c (a.toBay b .off) := (State.diesOff_within (by decide)).trans (State.membersGone_within (by decide))
    have hd : Within [.par] d c := .step (by decide) (.par c _) .rfl
    have he : Within (.reg .SHB_EVENTS :: eventParts) e d := State.event_within (by decide) (by decide)
    obtain ⟨own, others, wa⟩ := a.toBay_spec b .off
    obtain ⟨own', others', w⟩ := e.endRemoval_spec b
    have hst' : (a.bay b).st = .poweringOff := by
      rw [State.bay_setBay]
      exact hst
    have eq : exec (.pwrgdFall b) s = .next (e.endRemoval b) := by
      show execPwrgdFall b s = _
      unfold execPwrgdFall
      rw [if_neg (by simp [hb, sold])]
      dsimp only
      rw [show ((s.setBay b { s.bay b with pwrGood := false }).bay b).st = .poweringOff from hst']
    have par : (e.endRemoval b).par = { s.par with present := maskClear s.par.present b } := by
      rw [show (e.endRemoval b).par = e.par from w.keeps .par (by decide), show e.par = d.par from he.keeps .par (by decide)]
      have cp : c.par = s.par := (hc.keeps .par (by decide)).trans (wa.keeps .par (by decide))
      have dp : d.par = { c.par with present := maskClear c.par.present b } := rfl
      rw [dp, cp]
    rw [he.bay (by decide), hd.bay (by decide), hc.bay (by decide), own, State.bay_setBay] at own'
    refine ⟨_, eq, ?_, by rw [own']; rfl, ?_, by rw [par]; exact maskBit_maskClear_self, by rw [par], ?_, ?_⟩
    · unfold inBayState
      rw [own']
      exact ⟨rfl, rfl, rfl, rfl⟩
    · rw [w.fld (by decide)]
      exact State.fld_event (by decide) rfl (by decide)
    · exact State.setBay_otherBays.trans (others.trans (((hc.otherBays (by decide)).trans ((hd.otherBays (by decide)).trans
        (he.otherBays (by decide)))).trans others'))
    · exact Within.keeps (.trans (w.mono (by decide)) (.trans (he.mono (by decide)) (.trans (hd.mono (by decide)) (.trans (hc.mono (by decide))
        (.trans (wa.mono (by decide)) (State.setBay_within (by decide)))))))
  · refine ⟨s.setBay b { s.bay b with blinkEnd := none, attn := (s.bay b).st.attn }, ?_, ?_, ?_, ?_, State.setBay_otherBays, (State.setBay_within (by decide)).keeps⟩
    · show execRefusalBlinkEnd b s = _
      unfold execRefusalBlinkEnd
      dsimp only
      rw [if_neg]
      rw [not_or, Option.isNone_iff_eq_none]
      exact ⟨by omega, hbl⟩
    all_goals rw [State.bay_setBay]
  · let l := s.startLong q 0x0503 [0]
    have hl : Within (.nextHandle :: mbxParts) l.2 s := State.startLong_within (by decide)
    obtain ⟨own, others, w⟩ := l.2.toBay_spec b .abortWindow
    have hv : Within bayParts ((l.2.toBay b .abortWindow).setBay b { (l.2.toBay b .abortWindow).bay b with handle := some l.1 }) l.2 :=
      (State.setBay_within (by decide)).trans w
    rw [show h = s.handle 0x0503 from hh]
    refine leads_long hq rfl (u := s) (M := []) (v := (l.2.toBay b .abortWindow).setBay b { (l.2.toBay b .abortWindow).bay b with handle := some l.1 })
      ?_ .rfl (by decide) (by decide) hv ⟨?_, ?_, ?_, Within.keeps (.trans (hv.mono (by decide)) (hl.mono (by decide)))⟩
    · dsimp only
      rw [hB, if_neg (by simp [sold]), if_neg (by omega), ok]
      dsimp only
      rw [State.toService_same hm]
    · unfold inBayState
      rw [State.bay_setBay, own]
      exact ⟨rfl, rfl, rfl, rfl⟩
    · rw [State.bay_setBay]
      rfl
    · exact (hl.otherBays (by decide)).trans (others.trans State.setBay_otherBays)
  · let u := if k = 4 then s else if (s.bay b).st = .offered then s.refuseRemoval b else s
    obtain ⟨own, -, others, w⟩ := s.refuseRemoval_spec b
    have hu : Within (([.bays, .fns, .reg .SHB_EVENTS] : List Part) ++ recordParts) u s := .ite .rfl (.ite w .rfl)
    have same : (u.bay b).st = (s.bay b).st ∧ otherBays s u b := by
      unfold u
      split
      · exact ⟨rfl, fun _ _ => rfl⟩
      · split
        · exact ⟨by rw [own], others⟩
        · exact ⟨rfl, fun _ _ => rfl⟩
    refine leads_respond hq rfl (u := u) ?_ hu (by decide) fun t ht => ⟨?_, same.2.trans (ht.otherBays (by decide)),
      Within.keeps (.trans (ht.mono (by decide)) (hu.mono (by decide)))⟩
    · dsimp only
      rw [hB, if_neg (by simp [sold]), if_neg (by omega), no]
      split
      · next h4 =>
        cases h4
        rfl
      · next h4 j =>
        cases j
        rw [show u = if (s.bay b).st = .offered then s.refuseRemoval b else s from if_neg h4]
      · next j => cases j
    · rw [ht.bay (by decide)]
      exact same.1
  · obtain ⟨st, ab, -, others, w⟩ := s.abortRemoval_spec b
    refine leads_respond hq rfl (u := s.abortRemoval b) ?_ w (by decide) fun t ht => ⟨?_, ?_, others.trans (ht.otherBays (by decide)),
      Within.keeps (.trans (ht.mono (by decide)) (w.mono (by decide)))⟩
    · dsimp only
      rw [hB, if_neg (by simp [sold]), if_neg (by omega), if_neg (not_not.mpr hst)]
    · unfold inBayState at st ⊢
      rw [ht.bay (by decide)]
      exact st
    · rw [ht.fld (by decide)]
      exact ab
  · refine leads_answer hq rfl ?_
    dsimp only
    rw [hB, if_neg (by simp [sold]), if_neg (by omega), if_pos hst]
    rfl
  · refine leads_answer hq rfl ?_
    dsimp only
    rw [if_pos sold]
    rfl
  · refine leads_answer hq rfl ?_
    dsimp only
    rw [hB, if_neg (by omega)]

end Sys2Proof.Machine
end

section
/-! What a reset of a function leaves. -/

namespace Sys2Proof.Machine

section
variable {s t u : State} {f g k p : ℕ} {L : List Part}

/-! What no event and no release of a command changes of a function -/

theorem sameFns.of_within (h : Within L t s) (hf : .fns ∉ L) : sameFns s t := .of_eq (h.keeps .fns hf)

theorem sameFns.foldl {α : Type} {step : State → α → State} (h : ∀ s a, sameFns s (step s a)) (l : List α) (s : State) : sameFns s (l.foldl step s) := by
  induction l generalizing s with
  | nil => exact .refl s
  | cons a l ih => exact (h s a).trans (ih (step s a))

theorem State.record_sameFns {b i sev code data : ℕ} : sameFns s (s.record b i sev code data) :=
  .of_within (State.record_within (L := recordParts) fun _ h => h) (by decide)

theorem State.event_sameFns {x : Fld} {i sub : ℕ} : sameFns s (s.event x i sub) := by
  unfold State.event
  split
  · exact .refl s
  · extract_lets s1 n s2 s3
    have h2 : sameFns s s2 := by
      unfold s2
      split <;> exact .of_eq rfl
    have h3 : sameFns s s3 := by
      unfold s3
      split
      · exact h2.trans State.record_sameFns
      · exact h2
    split
    · exact h3.trans (State.signal_sameFns.trans State.signal_sameFns)
    · split
      · exact h3.trans State.signal_sameFns
      · exact h3

theorem State.setTPool_sameFns {x : TPool} : sameFns s (s.setTPool p x) := by
  unfold State.setTPool
  extract_lets was l src s1
  split
  · exact sameFns.trans (t := s1.bump F.TIL_POOL_WM_COUNT p 1) (.of_eq rfl) State.event_sameFns
  · exact .of_eq rfl

theorem State.unbook_sameFns {bs : List Booking} : sameFns s (s.unbook bs) := by
  unfold State.unbook
  extract_lets s1 mark
  have h : sameFns s s1 := sameFns.foldl (fun s b => by
    unfold State.releaseExtra
    split
    · exact .of_eq rfl
    · split
      · split
        · exact State.setTPool_sameFns
        · exact .refl s
      · exact .refl s) bs s
  exact h.trans (.of_eq rfl)

theorem State.dropRmw_sameFns {iu : ℕ} {bs : List Booking} : sameFns s (s.dropRmw iu bs) := by
  unfold State.dropRmw
  extract_lets keep
  exact sameFns.trans (.of_eq rfl) State.unbook_sameFns

theorem State.release_sameFns {c : Cmd} : sameFns s (s.release c) := by
  unfold State.release
  extract_lets tiles all rest s1 s2
  have h1 : Within [.atl, .lanes, .plt, .pwr] s1 s :=
    (State.endOps_within (by decide)).trans ((State.withdraw_within (by decide)).trans (State.slotReadsEnd_within (by decide)))
  have h2 : sameFns s s2 := ((sameFns.of_within h1 (by decide)).trans State.unbook_sameFns).trans
    (sameFns.foldl (fun _ _ => State.dropRmw_sameFns) c.rmw _)
  exact h2.trans (.of_eq rfl)

/-! The reset of functions -/

/-- A function may respond, and may have virtual functions, as before. -/
def sameEnable (s t : State) : Prop := ∀ g, (t.fnOf g).enabled = (s.fnOf g).enabled ∧ (t.fnOf g).vfEnable = (s.fnOf g).vfEnable

theorem sameEnable.trans (h : sameEnable s t) (k : sameEnable t u) : sameEnable s u := fun g => ⟨(k g).1.trans (h g).1, (k g).2.trans (h g).2⟩
theorem sameFns.enable (h : sameFns s t) : sameEnable s t := fun g => by
  obtain ⟨v, hv⟩ := h g
  rw [hv]
  exact ⟨rfl, rfl⟩

theorem State.setFn_enable {x : Fn} (he : x.enabled = (s.fnOf f).enabled) (hv : x.vfEnable = (s.fnOf f).vfEnable) : sameEnable s (s.setFn f x) := fun g => by
  by_cases h : g = f
  · subst h
    rw [State.fnOf_setFn]
    exact ⟨he, hv⟩
  · rw [State.fnOf_setFn_of_ne h]
    exact ⟨rfl, rfl⟩

theorem State.endSession_sameFns : sameFns s (s.endSession p) := by
  unfold State.endSession
  extract_lets m s1 s2
  have h2 : sameFns s s2 := by
    unfold s2
    split
    · exact sameFns.trans (t := s1) (.of_eq rfl) State.event_sameFns
    · exact .of_eq rfl
  split
  · exact .refl s
  · split
    · split
      · exact h2.trans (.of_within (State.endUpd_within (L := [.por]) (by decide)) (by decide))
      · exact h2
    · exact h2

theorem State.endSession_mb_of_ne (h : k ≠ p) : (s.endSession p).mb k = s.mb k := by
  unfold State.endSession
  extract_lets m s1 s2
  have h2 : s2.mb k = s.mb k := by
    have w : Within [.fns, .out, .reg .MBX_EVENTS] s2 s1 := .ite (State.mbxEvent_within rfl (by decide)) .rfl
    rw [w.mb (by decide), State.mb_setMb_of_ne h]
  split
  · rfl
  · split
    · split
      · exact ((State.endUpd_within (L := [.por]) (by decide)).mb (by decide)).trans h2
      · exact h2
    · exact h2

theorem State.promise_unready {x : Fld} (h : (s.ctl f).rdy = false) : s.promise f x = s ∨ s.promise f x = s.event x f 0 := by
  unfold State.promise
  split
  · exact .inl rfl
  · refine .inr ?_
    have rdy : ((s.event x f 0).ctl f).rdy = false := by
      rw [(State.event_within (L := .reg x.reg :: eventParts) (by simp) (by simp)).ctl (by rw [List.mem_cons, not_or]; exact ⟨nofun, by decide⟩), h]
    unfold State.asyncEvent
    rw [if_pos (by simp [rdy])]

theorem filter_notMem_nil {α : Type} {key : α → ℕ} {l : List α} : (l.filter fun a => decide (key a ∉ ([] : List ℕ))) = l := by simp

theorem filter_notMem_append {α : Type} {key : α → ℕ} {l : List α} {fs gs : List ℕ} :
    ((l.filter fun a => decide (key a ∉ fs)).filter fun a => decide (key a ∉ gs)) = l.filter fun a => decide (key a ∉ fs ++ gs) := by
  rw [List.filter_filter]
  refine congrArg (List.filter · l) (funext fun a => ?_)
  by_cases h : key a ∈ fs <;> by_cases k : key a ∈ gs <;> simp [h, k]

/-- The work of some functions is gone, and no other's (R353, R376). -/
structure WorkGone (s t : State) (fs : List ℕ) : Prop where
  cmds : t.cmds = s.cmds.filter fun c => decide (c.fn ∉ fs)
  cpls : t.cpls = s.cpls.filter fun c => decide (c.fn ∉ fs)
  sqs : t.sqs = s.sqs.filter fun e => decide (e.1 / 1024 ∉ fs)
  cqs : t.cqs = s.cqs.filter fun e => decide (e.1 / 1024 ∉ fs)
  enable : sameEnable s t

theorem WorkGone.of_within (h : Within L t s) (hL : Part.cmds ∉ L ∧ Part.cpls ∉ L ∧ Part.sqs ∉ L ∧ Part.cqs ∉ L) (he : sameEnable s t) :
    WorkGone s t [] where
  cmds := (h.keeps .cmds hL.1).trans filter_notMem_nil.symm
  cpls := (h.keeps .cpls hL.2.1).trans filter_notMem_nil.symm
  sqs := (h.keeps .sqs hL.2.2.1).trans (filter_notMem_nil (key := fun e : ℕ × Option Sq => e.1 / 1024)).symm
  cqs := (h.keeps .cqs hL.2.2.2).trans (filter_notMem_nil (key := fun e : ℕ × Option Cq => e.1 / 1024)).symm
  enable := he

theorem WorkGone.trans {fs gs : List ℕ} (h : WorkGone s t fs) (k : WorkGone t u gs) : WorkGone s u (fs ++ gs) where
  cmds := by rw [k.cmds, h.cmds, filter_notMem_append]
  cpls := by rw [k.cpls, h.cpls, filter_notMem_append]
  sqs := by rw [k.sqs, h.sqs, filter_notMem_append (key := fun e : ℕ × Option Sq => e.1 / 1024)]
  cqs := by rw [k.cqs, h.cqs, filter_notMem_append (key := fun e : ℕ × Option Cq => e.1 / 1024)]
  enable := h.enable.trans k.enable

theorem State.dropQueues_work : WorkGone s (s.dropQueues f) [f] where
  cmds := by simp only [List.mem_singleton]; rfl
  cpls := by simp only [List.mem_singleton]; rfl
  sqs := by simp only [List.mem_singleton]; rfl
  cqs := by simp only [List.mem_singleton]; rfl
  enable _ := ⟨rfl, rfl⟩

theorem State.atsDone_enable : sameEnable s (s.atsDone f) := by
  unfold State.atsDone
  extract_lets x
  split
  · exact (sameFns.refl s).enable
  · have h : Within [.out] (x.atsInval.foldl (fun s p => s.emit (.answer 0x010 [f, p])) (s.setFn f { x with atsInval := [] }))
        (s.setFn f { x with atsInval := [] }) := Within.foldl fun _ _ => State.emit_within (by decide)
    exact (State.setFn_enable (f := f) (x := { x with atsInval := [] }) rfl rfl).trans (sameFns.of_within h (by decide)).enable

/-- A function's own registers at their reset values; what it may do at all stays (R353, step 6). -/
theorem State.restoreFn_spec (s : State) (f : ℕ) : sameEnable s (s.restoreFn f) ∧ ((s.restoreFn f).mb f).version = (s.mb f).version ∧
    (∀ g, g ≠ f → (s.restoreFn f).mb g = s.mb g) ∧ (s.restoreFn f).window = s.window.filter (fun e => decide (e.1 / 2 ^ 40 ≠ f)) := by
  unfold State.restoreFn
  extract_lets x src s1 s2 s3 s4 s5 s6
  have h1 : sameEnable s s1 := State.setFn_enable rfl rfl
  have w : Within [.reg .HST_FN_CTRL, .reg .HST_FN_EVENTS, .reg .HST_GAZ_PAGE, .reg .HST_DCS_WIN] s6 s2 :=
    (Within.foldl fun _ _ => State.setReg_within (by decide)).trans ((State.setReg_within (by decide)).trans
      ((State.setReg_within (by decide)).trans (State.setReg_within (by decide))))
  have e12 : sameEnable s1 s2 := fun _ => ⟨rfl, rfl⟩
  have e26 : sameEnable s2 s6 := (sameFns.of_within w (by decide)).enable
  have mb : ∀ g, s6.mb g = s.mb g := fun g => w.mb (by decide)
  have win : s6.window = s.window.filter (fun e => decide (e.1 / 2 ^ 40 ≠ f)) := w.keeps .window (by decide)
  clear_value s6
  refine ⟨(h1.trans e12).trans (e26.trans (sameFns.of_within (State.setMb_within (L := [.mbx]) (by decide)) (by decide)).enable), ?_, fun g hg => ?_, ?_⟩
  · rw [State.mb_setMb]
    show (s6.mb f).version = _
    rw [mb]
  · rw [State.mb_setMb_of_ne hg, mb]
  · exact win

/-- The reset of one function (R353, R376): its work is gone, its controller at reset; but for a controller reset its session and its window too. -/
theorem State.resetFn1_spec (s : State) (f kind : ℕ) : WorkGone s (s.resetFn1 f kind) [f] ∧
    (∀ g, (s.resetFn1 f kind).ctl g = if g = f then Ctl.reset else s.ctl g) ∧
    (kind ≠ 2 → ((s.resetFn1 f kind).mb f).version = 0 ∧ (s.resetFn1 f kind).window = s.window.filter fun e => decide (e.1 / 2 ^ 40 ≠ f)) ∧
    (kind = 2 → (s.resetFn1 f kind).window = s.window) ∧ (∀ g, g ≠ f → (s.resetFn1 f kind).mb g = s.mb g) := by
  unfold State.resetFn1
  extract_lets mine lost s1 s2 m s3 s4 s5 x s6 s7 s8
  have w1 : Within releaseParts s1 s := Within.foldl fun _ _ => State.release_within fun _ h => h
  have e1 : sameEnable s s1 := (sameFns.foldl (fun _ _ => State.release_sameFns) mine s).enable
  have w2 : Within [.out, .fns] s2 (s1.dropQueues f) := State.atsDone_within fun _ h => h
  have e2 : sameEnable (s1.dropQueues f) s2 := State.atsDone_enable
  have w3 : Within [.mbx] s3 s2 := State.setMb_within (by decide)
  have w4 : Within (.por :: respParts) s4 s3 := .ite .rfl (s3.endSession_spec f).2.2
  have e4 : sameEnable s3 s4 := by
    unfold s4
    split
    · exact (sameFns.refl s3).enable
    · exact State.endSession_sameFns.enable
  have w5 : Within [.ctls] s5 s4 := State.setCtl_within (by decide)
  have w6 : Within [.fns] s6 s5 := State.setFn_within (by decide)
  have e6 : sameEnable s5 s6 := State.setFn_enable rfl rfl
  have w7 : Within [.fns, .window, .inbox, .mbx, .reg .HST_FN_CTRL, .reg .HST_FN_EVENTS, .reg .HST_GAZ_PAGE, .reg .HST_DCS_WIN] s7 s6 :=
    .ite .rfl (State.restoreFn_within fun _ h => h)
  have e7 : sameEnable s6 s7 := by
    unfold s7
    split
    · exact (sameFns.refl s6).enable
    · exact (s6.restoreFn_spec f).1
  have own : s7.ctl f = Ctl.reset := by rw [w7.ctl (by decide), w6.ctl (by decide), State.ctl_setCtl]
  have p8 : s8 = s7 ∨ s8 = s7.event F.HST_PROMISE_EVENTS_FN_RESET f 0 := by
    unfold s8
    split
    · exact State.promise_unready (by rw [own]; rfl)
    · exact .inl rfl
  have w8 : Within (.reg .HST_PROMISE_EVENTS :: eventParts) s8 s7 := by
    rcases p8 with h | h <;> rw [h]
    · exact .rfl
    · exact State.event_within (by decide) (by decide)
  have e8 : sameEnable s7 s8 := by
    rcases p8 with h | h <;> rw [h]
    · exact (sameFns.refl s7).enable
    · exact State.event_sameFns.enable
  have w9 : Within recordParts (s8.record 0x010 (f / 128) 0 0x0009 (f + kind * 2 ^ 8)) s8 := State.record_within fun _ h => h
  have e9 : sameEnable s8 (s8.record 0x010 (f / 128) 0 0x0009 (f + kind * 2 ^ 8)) := State.record_sameFns.enable
  generalize s8.record 0x010 (f / 128) 0 0x0009 (f + kind * 2 ^ 8) = t at w9 e9
  have w10 : Within (.reg .HST_PROMISE_EVENTS :: eventParts) t s7 := .trans (w9.mono (by decide)) w8
  have before : Within (.out :: .fns :: .ctls :: .por :: respParts) s6 (s1.dropQueues f) :=
    .trans (w6.mono (by decide)) (.trans (w5.mono (by decide)) (.trans (w4.mono (by decide)) (.trans (w3.mono (by decide)) (w2.mono (by decide)))))
  have after : Within resetFnParts t (s1.dropQueues f) := .trans (w10.mono (by decide)) (.trans (w7.mono (by decide)) (before.mono (by decide)))
  have w37 : Within (.ctls :: .fns :: .window :: .inbox :: .por :: .mbx :: .reg .HST_FN_CTRL :: .reg .HST_FN_EVENTS :: .reg .HST_GAZ_PAGE ::
      .reg .HST_DCS_WIN :: .reg .HST_PROMISE_EVENTS :: respParts ++ recordParts) t (s1.dropQueues f) :=
    .trans (w10.mono (by decide)) (.trans (w7.mono (by decide)) (before.mono (by decide)))
  refine ⟨?_, fun g => ?_, fun hk => ⟨?_, ?_⟩, fun hk => ?_, fun g hg => ?_⟩
  · have e : sameEnable (s1.dropQueues f) t := e2.trans ((sameFns.of_within w3 (by decide)).enable.trans (e4.trans
      ((sameFns.of_within w5 (by decide)).enable.trans (e6.trans (e7.trans (e8.trans e9))))))
    exact (WorkGone.of_within w1 (by decide) e1).trans (State.dropQueues_work.trans (WorkGone.of_within w37 (by decide) e))
  · rw [w10.ctl (by decide), w7.ctl (by decide), w6.ctl (by decide)]
    by_cases h : g = f
    · rw [h, if_pos rfl, State.ctl_setCtl]
    · rw [if_neg h, State.ctl_setCtl_of_ne h, w4.ctl (by decide), w3.ctl (by decide), w2.ctl (by decide)]
      exact w1.ctl (by decide)
  · have h7 : s7 = s6.restoreFn f := if_neg hk
    have h4 : s4 = s3.endSession f := if_neg hk
    rw [w10.mb (by decide), h7, (s6.restoreFn_spec f).2.1, w6.mb (by decide), w5.mb (by decide), h4]
    exact (s3.endSession_spec f).1
  · have h7 : s7 = s6.restoreFn f := if_neg hk
    have w16 : s6.window = s.window := (before.keeps .window (by decide)).trans (w1.keeps .window (by decide))
    rw [show t.window = s7.window from w10.keeps .window (by decide), h7, (s6.restoreFn_spec f).2.2.2, w16]
  · have h7 : s7 = s6 := if_pos hk
    have w16 : s6.window = s.window := (before.keeps .window (by decide)).trans (w1.keeps .window (by decide))
    rw [show t.window = s7.window from w10.keeps .window (by decide), h7, w16]
  · have h7 : s7.mb g = s6.mb g := by
      unfold s7
      split
      · rfl
      · exact (s6.restoreFn_spec f).2.2.1 g hg
    have h4 : s4.mb g = s3.mb g := by
      unfold s4
      split
      · rfl
      · exact State.endSession_mb_of_ne hg
    rw [w10.mb (by decide), h7, w6.mb (by decide), w5.mb (by decide), h4, State.mb_setMb_of_ne hg, w2.mb (by decide)]
    exact w1.mb (by decide)

theorem tabFind_filterKey {α : Type} {p : ℕ → Bool} {m : Tab α} {k : ℕ} :
    tabFind (m.filter fun e => p e.1) k = if p k then tabFind m k else none := by
  induction m with
  | nil => simp [tabFind]
  | cons e m ih =>
    obtain ⟨j, v⟩ := e
    by_cases hj : p j = true
    · rw [List.filter_cons, if_pos hj, tabFind, tabFind, ih]
      by_cases hk : k = j
      · subst hk
        simp [hj]
      · simp [hk]
    · rw [List.filter_cons, if_neg hj, ih, tabFind]
      by_cases hk : k = j
      · subst hk
        simp [hj]
      · simp [hk]

theorem tabGet_filterKey {α : Type} {d : ℕ → α} {p : ℕ → Bool} {m : Tab α} {k : ℕ} :
    tabGet d (m.filter fun e => p e.1) k = if p k then tabGet d m k else d k := by
  rw [tabGet, tabFind_filterKey]
  split <;> rfl

theorem qKey_div {q : ℕ} (h : q < 1024) : qKey g q / 1024 = g := by
  unfold qKey
  omega

variable {fs : List ℕ}

theorem WorkGone.sqOf (h : WorkGone s t fs) {q : ℕ} (hq : q < 1024) : t.sqOf g q = if g ∈ fs then none else s.sqOf g q := by
  rw [State.sqOf, h.sqs, tabGet_filterKey (p := fun k => decide (k / 1024 ∉ fs)), qKey_div hq]
  by_cases hg : g ∈ fs <;> simp [hg, State.sqOf]

theorem WorkGone.cqOf (h : WorkGone s t fs) {q : ℕ} (hq : q < 1024) : t.cqOf g q = if g ∈ fs then none else s.cqOf g q := by
  rw [State.cqOf, h.cqs, tabGet_filterKey (p := fun k => decide (k / 1024 ∉ fs)), qKey_div hq]
  by_cases hg : g ∈ fs <;> simp [hg, State.cqOf]

/-- The reset of a list of functions together (R352, R353): every one of them is cleared. -/
structure ResetOf (s t : State) (fs : List ℕ) : Prop where
  work : WorkGone s t fs
  ctl : ∀ g, t.ctl g = if g ∈ fs then Ctl.reset else s.ctl g
  session : ∀ g ∈ fs, (t.mb g).version = 0
  session_ne : ∀ g, g ∉ fs → t.mb g = s.mb g
  window : t.window = s.window.filter fun e => decide (e.1 / 2 ^ 40 ∉ fs)

theorem ResetOf.of_within (h : Within L t s)
    (hL : Part.cmds ∉ L ∧ Part.cpls ∉ L ∧ Part.sqs ∉ L ∧ Part.cqs ∉ L ∧ Part.ctls ∉ L ∧ Part.mbx ∉ L ∧ Part.window ∉ L) (he : sameEnable s t) :
    ResetOf s t [] := by
  obtain ⟨h1, h2, h3, h4, h5, h6, h7⟩ := hL
  exact ⟨.of_within h ⟨h1, h2, h3, h4⟩ he, fun g => by simpa using h.ctl h5, by simp, fun g _ => h.mb h6,
    (h.keeps .window h7).trans (filter_notMem_nil (key := fun e : ℕ × BitVec 8 => e.1 / 2 ^ 40)).symm⟩

theorem ResetOf.trans {gs : List ℕ} (h : ResetOf s t fs) (k : ResetOf t u gs) : ResetOf s u (fs ++ gs) where
  work := h.work.trans k.work
  ctl g := by
    rw [k.ctl, h.ctl]
    by_cases hg : g ∈ gs <;> by_cases hf : g ∈ fs <;> simp [hg, hf]
  session g hg := by
    by_cases hk : g ∈ gs
    · exact k.session g hk
    · rw [k.session_ne g hk]
      exact h.session g ((List.mem_append.mp hg).resolve_right hk)
  session_ne g hg := by
    rw [List.mem_append, not_or] at hg
    exact (k.session_ne g hg.2).trans (h.session_ne g hg.1)
  window := by rw [k.window, h.window, filter_notMem_append (key := fun e : ℕ × BitVec 8 => e.1 / 2 ^ 40)]

theorem State.resetFn1_resetOf {kind : ℕ} (hk : kind ≠ 2) : ResetOf s (s.resetFn1 f kind) [f] := by
  obtain ⟨work, ctl, full, -, mb⟩ := s.resetFn1_spec f kind
  refine ⟨work, fun g => ?_, fun g hg => ?_, fun g hg => mb g (by simpa using hg), ?_⟩
  · rw [ctl]
    simp only [List.mem_singleton]
  · rw [List.mem_singleton.mp hg]
    exact (full hk).1
  · simp only [List.mem_singleton]
    exact (full hk).2

theorem State.suspRecord_resetOf {b : Bool} {r n : ℕ} : ResetOf s (s.suspRecord b r n) [] :=
  .of_within (State.suspRecord_within (L := recordParts) fun _ h => h) (by decide) State.record_sameFns.enable

theorem State.resetFns_resetOf {kind : ℕ} (hk : kind ≠ 2) : ResetOf s (s.resetFns fs kind) fs := by
  have fold : ∀ (l : List ℕ) (u : State), ResetOf u (l.foldl (fun (s : State) f => s.resetFn1 f kind) u) l := by
    intro l
    induction l with
    | nil => exact fun u => .of_within (Within.rfl (L := [])) (by decide) (sameFns.refl u).enable
    | cons f l ih => exact fun u => (State.resetFn1_resetOf hk).trans (ih _)
  unfold State.resetFns
  split
  · next h =>
    rw [List.isEmpty_iff.mp h]
    exact .of_within (Within.rfl (L := [])) (by decide) (sameFns.refl s).enable
  · have h := (State.suspRecord_resetOf (s := s) (b := true) (r := 4) (n := 0)).trans
      ((fold fs _).trans (State.suspRecord_resetOf (b := false) (r := 4) (n := 0)))
    rwa [List.nil_append, List.append_nil] at h

/-- A function that has been reset is cleared, and stays so when only the functions' own records change. -/
theorem ResetOf.cleared (h : ResetOf s t fs) (hf : f ∈ fs) : functionCleared t f := by
  refine ⟨fun c hc => ?_, fun c hc => ?_, fun q hq => ⟨?_, ?_⟩, ?_, h.session f hf⟩
  · rw [h.work.cmds] at hc
    exact fun e => (by simpa using (List.mem_filter.mp hc).2 : c.fn ∉ fs) (e ▸ hf)
  · rw [h.work.cpls] at hc
    exact fun e => (by simpa using (List.mem_filter.mp hc).2 : c.fn ∉ fs) (e ▸ hf)
  · rw [h.work.sqOf hq, if_pos hf]
  · rw [h.work.cqOf hq, if_pos hf]
  · rw [h.ctl, if_pos hf]

theorem functionCleared.of_within (h : functionCleared s f) (w : Within L t s)
    (hL : Part.cmds ∉ L ∧ Part.cpls ∉ L ∧ Part.sqs ∉ L ∧ Part.cqs ∉ L ∧ Part.ctls ∉ L ∧ Part.mbx ∉ L) : functionCleared t f := by
  obtain ⟨h1, h2, h3, h4, h5, h6⟩ := hL
  obtain ⟨cmds, cpls, qs, ctl, mb⟩ := h
  refine ⟨?_, ?_, fun q hq => ⟨(w.sqOf h3).trans (qs q hq).1, (w.cqOf h4).trans (qs q hq).2⟩, (w.ctl h5).trans ctl, by rw [w.mb h6, mb]⟩
  · rw [show t.cmds = s.cmds from w.keeps .cmds h1]
    exact cmds
  · rw [show t.cpls = s.cpls from w.keeps .cpls h2]
    exact cpls

section
variable {step : State → ℕ → State} {F : ℕ → ℕ} {l : List ℕ}

/-- Steps that each write one function leave the others. -/
theorem foldl_fnOf_of_ne (hne : ∀ s v g, g ≠ F v → (step s v).fnOf g = s.fnOf g) (hg : ∀ v ∈ l, g ≠ F v) : (l.foldl step s).fnOf g = s.fnOf g := by
  induction l generalizing s with
  | nil => rfl
  | cons a l ih => exact (ih fun v hv => hg v (List.mem_cons_of_mem _ hv)).trans (hne s a g (hg a List.mem_cons_self))

/-- Steps that each bring one function into a state bring every one of them there. -/
theorem foldl_fnOf_of_mem {P : Fn → Prop} (hne : ∀ s v g, g ≠ F v → (step s v).fnOf g = s.fnOf g) (hP : ∀ s v, v ∈ l → P ((step s v).fnOf (F v)))
    {v : ℕ} (hv : v ∈ l) : P ((l.foldl step s).fnOf (F v)) := by
  have keep : ∀ (m : List ℕ) (u : State), m ⊆ l → P (u.fnOf (F v)) → P ((m.foldl step u).fnOf (F v)) := by
    intro m
    induction m with
    | nil => exact fun _ _ h => h
    | cons a m ih =>
      intro u sub h
      refine ih _ (fun x hx => sub (List.mem_cons_of_mem _ hx)) ?_
      by_cases e : F v = F a
      · rw [e]
        exact hP u a (sub List.mem_cons_self)
      · rw [hne u a _ e]
        exact h
  obtain ⟨m, n, rfl⟩ := List.append_of_mem hv
  rw [List.foldl_append, List.foldl_cons]
  exact keep n _ (fun x hx => List.mem_append_right _ (List.mem_cons_of_mem _ hx)) (hP _ v hv)

end

theorem setFn_fnOf {x : Fn} (s : State) (g : ℕ) : ((s.setFn f x).fnOf g) = if g = f then x else s.fnOf g := by
  by_cases h : g = f
  · rw [h, State.fnOf_setFn, if_pos rfl]
  · rw [State.fnOf_setFn_of_ne h, if_neg h]

/-- VF Enable cleared (R328, R329): no VF of the port responds. -/
theorem State.clearVfs_spec (s : State) (p : ℕ) : (∀ v, 1 ≤ v → v ≤ 127 → ((s.clearVfs p).fnOf (128 * p + v)).enabled = false) ∧
    ((s.clearVfs p).fnOf (128 * p)).vfEnable = false := by
  unfold State.clearVfs
  extract_lets x s1
  constructor
  · intro v h1 h127
    refine foldl_fnOf_of_mem (F := fun v => 128 * p + v) (P := fun x => x.enabled = false) (fun s v g hg => ?_) (fun s v hv => ?_) (List.mem_range'_1.mpr (by omega))
    · extract_lets f x src
      split
      · exact State.fnOf_setFn_of_ne hg
      · rfl
    · have := List.mem_range'_1.mp hv
      extract_lets f x src
      split
      · rw [State.fnOf_setFn]
        show decide ((128 * p + v) % 128 = 0) = false
        rw [decide_eq_false_iff_not]
        omega
      · next h => exact Bool.eq_false_iff.mpr h
  · rw [foldl_fnOf_of_ne (F := fun v => 128 * p + v) (fun s v g hg => ?_) (fun v hv => ?_), State.fnOf_setFn]
    · extract_lets f x src
      split
      · exact State.fnOf_setFn_of_ne hg
      · rfl
    · have := List.mem_range'_1.mp hv
      omega

end

end Sys2Proof.Machine
end

section
/-! Function resets (O14). -/

namespace Sys2Proof.Machine

section
variable {s t : State} {f p : ℕ} {fs : List ℕ}

theorem mem_portFns {g : ℕ} : g ∈ portFns p ↔ g / 128 = p := by
  unfold portFns
  rw [List.mem_map]
  constructor
  · rintro ⟨k, hk, rfl⟩
    have := List.mem_range.mp hk
    omega
  · rintro rfl
    exact ⟨g % 128, List.mem_range.mpr (by omega), by omega⟩

/-- The reset of functions and the clearing of VF Enable behind it. -/
theorem ResetOf.clearVfs (h : ResetOf s t fs) (hf : f ∈ fs) : functionCleared (t.clearVfs p) f :=
  (h.cleared hf).of_within (State.clearVfs_within (L := [.fns]) (by decide)) (by decide)

theorem State.clearVfs_sqOf {g q : ℕ} : (s.clearVfs p).sqOf g q = s.sqOf g q := (State.clearVfs_within (L := [.fns]) (by decide)).sqOf (by decide)

/-- A conventional reset of a port, behind what its cause does to the port (R352). -/
theorem State.resetPort_spec (s : State) (p : ℕ) : (∀ f, f / 128 = p → (s.fnOf f).enabled = true → functionCleared (s.resetPort p) f) ∧
    (∀ f, f / 128 = p → f % 128 ≠ 0 → ((s.resetPort p).fnOf f).enabled = false) ∧
    (∀ g q, g / 128 ≠ p → q < 1024 → (s.resetPort p).sqOf g q = s.sqOf g q) ∧ Within resetFnParts (s.resetPort p) s := by
  unfold State.resetPort
  have h : ResetOf s _ _ := State.resetFns_resetOf (fs := (portFns p).filter fun f => (s.fnOf f).enabled) (kind := 1) (by decide)
  refine ⟨fun f hp en => h.clearVfs (List.mem_filter.mpr ⟨mem_portFns.mpr hp, en⟩), fun f hp hf => ?_, fun g q hg hq => ?_,
    (State.clearVfs_within (by decide)).trans (State.resetFns_within fun _ h => h)⟩
  · have := (State.clearVfs_spec (s.resetFns ((portFns p).filter fun f => (s.fnOf f).enabled) 1) p).1 (f % 128) (by omega) (by omega)
    rwa [show 128 * p + f % 128 = f by omega] at this
  · rw [State.clearVfs_sqOf, h.work.sqOf hq, if_neg]
    exact fun hm => hg (mem_portFns.mp (List.mem_filter.mp hm).1)

theorem State.port_setPort_of_ne {x : Port} {k : ℕ} (h : k ≠ p) : (s.setPort p x).port k = s.port k := tabGet_set_ne _ _ _ h
theorem Within.port {L : List Part} (h : Within L t s) (hp : .ports ∉ L) {k : ℕ} : t.port k = s.port k := by
  rw [State.port, State.port, show t.ports = s.ports from h.keeps .ports hp]

/-- A port's own reset (R352): what is said of `u`, the port with its record written, holds of its functions. -/
theorem resetPort_then {x : Port} {u : State} (hu : Within recordParts u ((s.setPort p x).resetPort p)) :
    (∀ f, f / 128 = p → (s.fnOf f).enabled = true → functionCleared u f) ∧ (∀ f, f / 128 = p → f % 128 ≠ 0 → (u.fnOf f).enabled = false) ∧
    (∀ g q, g / 128 ≠ p → q < 1024 → u.sqOf g q = s.sqOf g q) ∧ u.port p = x ∧ (∀ k, k ≠ p → u.port k = s.port k) ∧
    Within (.ports :: resetFnParts) u s := by
  obtain ⟨cleared, off, sqs, w⟩ := (s.setPort p x).resetPort_spec p
  refine ⟨fun f hp en => (cleared f hp en).of_within hu (by decide), fun f hp hf => ?_, fun g q hg hq => (hu.sqOf (by decide)).trans (sqs g q hg hq), ?_,
    fun k hk => ?_, .trans (hu.mono (by decide)) (.trans (w.mono (by decide)) (State.setPort_within (by decide)))⟩
  · rw [hu.fnOf (by decide)]
    exact off f hp hf
  · rw [hu.port (by decide), w.port (by decide), State.port_setPort]
  · rw [hu.port (by decide), w.port (by decide), State.port_setPort_of_ne hk]

end

/-- Settles O14: every reset is the reset of a list of functions, with VF Enable cleared behind it where a PF is among them. -/
theorem functionResetsDiscardTheFunctionsWork : Obligations.FunctionResetsDiscardTheFunctionsWork := by
  unfold Obligations.FunctionResetsDiscardTheFunctionsWork
  intro s f hf
  have p2 : ¬2 ≤ f / 128 := by omega
  refine ⟨fun hv en => ?_, fun hp en => ?_, fun cause hc => ?_, fun n ari hn => ⟨?_, ?_⟩⟩
  · have h : ResetOf s (s.resetFn f 0) [f] := State.resetFns_resetOf (by decide)
    have eq : exec (.flr f) s = .next (s.resetFn f 0) := by
      show execFlr f s = _
      unfold execFlr
      rw [if_neg (by simp [en]; omega), if_neg hv]
    refine ⟨_, eq, h.cleared (by simp), fun g q hg hq => ⟨?_, ?_⟩, fun c hc hne => ?_, fun a ha => ?_, fun a ha => ?_,
      ((execFlr_runs fun _ h => h).within eq).keeps⟩
    · rw [h.work.sqOf hq, if_neg (by simpa using hg)]
    · rw [h.work.cqOf hq, if_neg (by simpa using hg)]
    · rw [h.work.cmds]
      exact List.mem_filter.mpr ⟨hc, by simpa using hne⟩
    · rw [h.window, tabGet_filterKey (p := fun k => decide (k / 2 ^ 40 ∉ [f])), if_neg (by simpa using ha)]
    · rw [h.window, tabGet_filterKey (p := fun k => decide (k / 2 ^ 40 ∉ [f])), if_pos (by simpa using ha)]
  · let fs := (portFns (f / 128)).filter fun g => decide (g = f) || (s.fnOf g).enabled
    have h : ResetOf s (s.resetFns fs 0) fs := State.resetFns_resetOf (by decide)
    have eq : exec (.flr f) s = .next ((s.resetFns fs 0).clearVfs (f / 128)) := by
      show execFlr f s = _
      unfold execFlr
      rw [if_neg (by simp [en]; omega), if_pos hp]
    obtain ⟨off, -⟩ := (s.resetFns fs 0).clearVfs_spec (f / 128)
    rw [show 128 * (f / 128) = f by omega] at off
    refine ⟨_, eq, h.clearVfs (List.mem_filter.mpr ⟨mem_portFns.mpr rfl, by simp⟩), off, fun v h1 h127 env => ?_, fun g q hg hq => ?_,
      ((execFlr_runs fun _ h => h).within eq).keeps⟩
    · exact h.clearVfs (List.mem_filter.mpr ⟨mem_portFns.mpr (by omega), by simp [env]⟩)
    · rw [State.clearVfs_sqOf, h.work.sqOf hq, if_neg]
      exact fun hm => hg (mem_portFns.mp (List.mem_filter.mp hm).1)
  · rcases (by omega : cause = 0 ∨ cause = 1 ∨ cause = 2) with rfl | rfl | rfl
    · let x : Port := { s.port (f / 128) with perst := true, up := false, rate := 0, gen := 0, width := 0, l2 := false }
      have eq : exec (.conventionalReset (f / 128) 0) s = .next ((s.setPort (f / 128) x).resetPort (f / 128)) := if_neg p2
      obtain ⟨cleared, off, sqs, port, ports, w⟩ := resetPort_then (s := s) (p := f / 128) (x := x) .rfl
      exact ⟨_, eq, cleared f rfl, off f rfl, fun _ => by rw [port], fun _ => by rw [port], sqs, ports, w.keeps⟩
    · have eq : exec (.conventionalReset (f / 128) 1) s = .next (s.resetPort (f / 128)) := if_neg p2
      obtain ⟨cleared, off, sqs, w⟩ := s.resetPort_spec (f / 128)
      exact ⟨_, eq, cleared f rfl, off f rfl, fun h => absurd h (by decide), fun h => absurd rfl h, sqs, fun k _ => w.port (by decide),
        (w.mono (by decide)).keeps⟩
    · let x := s.port (f / 128)
      have eq : exec (.conventionalReset (f / 128) 2) s =
          .next ((s.linkDown (f / 128)).record 0x010 (f / 128) 0 0x0008 (f / 128 + x.rate / 16 % 256 * 2 ^ 8 + x.width % 32 * 2 ^ 16)) := if_neg p2
      obtain ⟨cleared, off, sqs, port, ports, w⟩ := resetPort_then (s := s) (p := f / 128) (x := { x with up := false, rate := 0, gen := 0, width := 0 })
        (State.record_within (t := s.linkDown (f / 128)) fun _ h => h)
      exact ⟨_, eq, cleared f rfl, off f rfl, fun h => absurd h (by decide), fun _ => by rw [port], sqs, ports, w.keeps⟩
  · let u := s.setFn (128 * (f / 128)) { s.fnOf (128 * (f / 128)) with vfEnable := true, numVfs := n, ari := ari }
    let k := if ari then n else min n 7
    let step := fun (s : State) (v : ℕ) => s.setFn (128 * (f / 128) + v) { s.fnOf (128 * (f / 128) + v) with enabled := true }
    have eq : exec (.vfEnableWrite (f / 128) true n ari) s = .next ((List.range' 1 k).foldl step u) := by
      show execVfEnableWrite (f / 128) true n ari s = _
      unfold execVfEnableWrite
      rw [if_neg (by omega), if_pos rfl]
    have hk : k ≤ n := by
      unfold k
      split <;> omega
    have hne : ∀ s v g, g ≠ 128 * (f / 128) + v → (step s v).fnOf g = s.fnOf g := fun _ _ _ h => State.fnOf_setFn_of_ne h
    have hu : ∀ g, g ≠ 128 * (f / 128) → u.fnOf g = s.fnOf g := fun g h => State.fnOf_setFn_of_ne h
    refine ⟨_, eq, fun v h1 hv => ?_, fun v hv h127 => ?_, ?_, Within.keeps (.trans (Within.foldl fun _ _ => State.setFn_within (by decide)) (State.setFn_within (by decide)))⟩
    all_goals rw [Nat.mul_comm (f / 128) 128]
    · refine foldl_fnOf_of_mem (F := fun v => 128 * (f / 128) + v) (P := fun x => x.enabled = true) hne (fun s v _ => ?_)
        (List.mem_range'_1.mpr (by omega))
      rw [State.fnOf_setFn]
    · rw [foldl_fnOf_of_ne (F := fun v => 128 * (f / 128) + v) hne fun w hw => ?_, hu _ (by omega)]
      have := List.mem_range'_1.mp hw
      omega
    · rw [foldl_fnOf_of_ne (F := fun v => 128 * (f / 128) + v) hne fun w hw => ?_, State.fnOf_setFn]
      have := List.mem_range'_1.mp hw
      omega
  · have eq : exec (.vfEnableWrite (f / 128) false n ari) s = .next ((s.resetFns
        (((List.range' 1 127).map (fun v => 128 * (f / 128) + v)).filter (fun f => (s.fnOf f).enabled)) 0).clearVfs (f / 128)) := by
      show execVfEnableWrite (f / 128) false n ari s = _
      unfold execVfEnableWrite
      rw [if_neg (by omega), if_neg (by decide)]
    obtain ⟨off, vf⟩ := (s.resetFns (((List.range' 1 127).map (fun v => 128 * (f / 128) + v)).filter (fun f => (s.fnOf f).enabled)) 0).clearVfs_spec (f / 128)
    have w := (execVfEnableWrite_runs fun _ h => h).within eq
    generalize s.resetFns _ 0 = u at *
    refine ⟨_, eq, ?_, ?_, w.keeps⟩
    all_goals rw [Nat.mul_comm (f / 128) 128]
    · exact off
    · exact vf

end Sys2Proof.Machine
end

section
/-! Link rates (O15). -/

namespace Sys2Proof.Machine

section

/-- A read that function 128 has running while its port has no trained rate. -/
def readWithoutRate : State :=
  let read := newCmd ⟨128, 1, 0, 1, 0, 7, false, false, false, 0, 0, false, none, 0, 0⟩ 0x02 .read 1 0 0 4096 []
  { State.reset with cmds := [{ read with phase := .running, accepted := true }] }

/-- Refutes O15: a command in flight while the port's rate is 0 has its host wait lengthened when the link trains, although the rate rises
(`hostQ` of rate 0 is 0, so the whole transfer counts as added). -/
theorem not_linkRatesAndTheDirectWindow : ¬ Obligations.LinkRatesAndTheDirectWindow := by
  unfold Obligations.LinkRatesAndTheDirectWindow
  intro h
  obtain ⟨t, eq, -, -, -, -, -, same, -⟩ := (h.1 readWithoutRate 1 4 1 true (by decide)).1 (by decide) (by decide) (by decide) (.inl (by decide))
  obtain rfl : _ = t := Host.Outcome.next.inj eq
  exact absurd (same (by decide)) (by decide)

end

end Sys2Proof.Machine
end

section
/-! Events. -/

namespace Sys2Proof.Machine

section
variable {s t u : State} {L : List Part} {f : Fld} {i sub g k v : ℕ}

/-! What an event sends, and an event without a record -/

theorem State.signal_out : s.out <:+ (s.signal k v).out := by
  unfold State.signal
  extract_lets x m
  split
  · exact List.suffix_cons _ _
  · exact List.suffix_refl _

theorem State.record_out {b sev code data : ℕ} : s.out <:+ (s.record b i sev code data).out := by
  unfold State.record
  extract_lets d r u
  split
  · exact List.suffix_refl _
  · split
    · exact List.suffix_refl _
    · split
      · exact State.alert_out (s := u)
      · exact List.suffix_refl _

theorem State.event_out : s.out <:+ (s.event f i sub).out := by
  unfold State.event
  split
  · exact List.suffix_refl _
  · extract_lets s1 n s2 s3
    have h2 : s.out <:+ s2.out := by
      unfold s2
      split
      · exact List.suffix_cons _ _
      · exact List.suffix_refl _
    have h3 : s.out <:+ s3.out := by
      unfold s3
      split
      · exact h2.trans State.record_out
      · exact h2
    split
    · exact h3.trans (State.signal_out.trans State.signal_out)
    · split
      · exact h3.trans State.signal_out
      · exact h3

/-- An event whose register rule names no record reaches its bit, and its vectors or the firmware. -/
theorem State.event_within_of_noRecord (hn : (notice f.reg f.lo).record = false) (h : [.fns, .out, .reg f.reg] ⊆ L) :
    Within L (t.event f i sub) t := by
  have hf : Part.fns ∈ L := h (by simp)
  have ho : Part.out ∈ L := h (by simp)
  unfold State.event
  refine .ite .rfl ?_
  dsimp only
  rw [hn, if_neg Bool.false_ne_true]
  exact (Within.ite (State.signalPfs_within hf ho) (.ite (State.signalMbx_within hf ho) .rfl)).trans
    ((Within.ite (State.emit_within (by simpa using ho)) .rfl).trans (State.setFld_within (h (by simp))))

theorem sameFns.aer (h : sameFns s t) : (t.fnOf g).aer = (s.fnOf g).aer := by
  obtain ⟨v, hv⟩ := h g
  rw [hv]

end

end Sys2Proof.Machine
end

section
/-! MSI-X, errors and translations (O16). -/

namespace Sys2Proof.Machine

section
variable {s t : State} {f g v : ℕ}

theorem emits_out {α : Type} {F : α → Out} (l : List α) (s : State) : (l.foldl (fun s a => s.emit (F a)) s).out = (l.map F).reverse ++ s.out := by
  induction l generalizing s with
  | nil => rfl
  | cons a l ih => rw [List.foldl_cons, ih, List.map_cons, List.reverse_cons, List.append_assoc]; rfl

theorem emits_within {α : Type} {F : α → Out} (l : List α) (s : State) : Within [.out] (l.foldl (fun s a => s.emit (F a)) s) s :=
  Within.foldl fun _ _ => State.emit_within (by decide)

theorem clearPending_vec {l : List (ℕ × MsixVec)} {m : Tab MsixVec} (hl : ∀ e ∈ l, e.2.masked = false) (hv : v ∈ l.map Prod.fst) :
    tabGet (fun _ => MsixVec.reset) (l.foldl (fun m e => tabSet (fun _ => MsixVec.reset) m e.1 { e.2 with pending := false }) m) v = ⟨false, false⟩ := by
  induction l using List.reverseRecOn with
  | nil => simp at hv
  | append_singleton l e ih =>
    rw [List.foldl_append, List.foldl_cons, List.foldl_nil]
    by_cases he : v = e.1
    · have := hl e (by simp)
      rw [he, tabGet_set_self]
      dsimp only
      rw [this]
    · rw [tabGet_set_ne _ _ _ he]
      refine ih (fun e h => hl e (List.mem_append_left _ h)) ?_
      rw [List.map_append, List.mem_append] at hv
      exact hv.resolve_right fun h => he (List.mem_singleton.mp h)

theorem mem_of_tabGet {α : Type} [DecidableEq α] {d : ℕ → α} {m : Tab α} (h : tabGet d m v ≠ d v) : (v, tabGet d m v) ∈ m := by
  induction m with
  | nil => exact absurd rfl h
  | cons e m ih =>
    obtain ⟨j, x⟩ := e
    simp only [tabGet, tabFind] at h ih ⊢
    split at h
    · rename_i hj
      subst hj
      simp
    · rename_i hj
      rw [if_neg hj]
      exact List.mem_cons_of_mem _ (ih h)

theorem State.sendPending_of_off (h : (s.fnOf f).msixEn = false ∨ (s.fnOf f).msixMask = true) : s.sendPending f = s := by
  unfold State.sendPending
  extract_lets x
  rw [if_pos]
  rcases h with h | h <;> simp [x, h]

/-- What `sendPending` does where nothing masks the function: every pending vector without a mask is sent and pends no more. -/
theorem State.sendPending_spec (hen : (s.fnOf f).msixEn = true) (hm : (s.fnOf f).msixMask = false)
    (hv : tabGet (fun _ => MsixVec.reset) (s.fnOf f).vec v = ⟨false, true⟩) :
    sent s (s.sendPending f) (.msix f v) ∧ tabGet (fun _ => MsixVec.reset) ((s.sendPending f).fnOf f).vec v = ⟨false, false⟩ ∧
      (∀ g, g ≠ f → (s.sendPending f).fnOf g = s.fnOf g) := by
  unfold State.sendPending
  extract_lets x go s1
  have off : ¬ (!x.msixEn || x.msixMask) = true := by simp [x, hen, hm]
  have hgo : v ∈ go.map Prod.fst := by
    have := mem_of_tabGet (v := v) (d := fun _ => MsixVec.reset) (m := x.vec) (by rw [hv]; decide)
    rw [hv] at this
    exact List.mem_map.mpr ⟨_, List.mem_filter.mpr ⟨this, rfl⟩, rfl⟩
  have clear : ∀ e ∈ go, e.2.masked = false := fun e he => by
    have := (List.mem_filter.mp he).2
    rw [Bool.and_eq_true] at this
    simpa using this.2
  rw [if_neg off]
  have w := emits_within (F := fun e : ℕ × MsixVec => .msix f e.1) go s1
  refine ⟨⟨(go.map fun e => .msix f e.1).reverse, emits_out _ _, ?_⟩, ?_, fun g hg => ?_⟩
  · obtain ⟨e, he, rfl⟩ := List.mem_map.mp hgo
    exact List.mem_reverse.mpr (List.mem_map.mpr ⟨e, he, rfl⟩)
  · rw [w.fnOf (by decide), State.fnOf_setFn]
    exact clearPending_vec clear hgo
  · rw [w.fnOf (by decide), State.fnOf_setFn_of_ne hg]

theorem State.atsDone_of_open (h : s.cmds.any (fun c => decide (c.fn = f ∧ c.openReads ≠ 0)) = true) : s.atsDone f = s := by
  unfold State.atsDone
  extract_lets x
  exact if_pos (.inr h)

theorem State.atsDone_spec (h : s.cmds.any (fun c => decide (c.fn = f ∧ c.openReads ≠ 0)) = false) {p : ℕ} (hp : p ∈ (s.fnOf f).atsInval) :
    s.atsDone f = (s.fnOf f).atsInval.foldl (fun s p => s.emit (.answer 0x010 [f, p])) (s.setFn f { s.fnOf f with atsInval := [] }) := by
  unfold State.atsDone
  extract_lets x
  refine if_neg ?_
  rw [not_or, h]
  exact ⟨fun he => by rw [List.isEmpty_iff.mp he] at hp; simp at hp, by decide⟩

/-- Settles O16: each of the events is one update of the function's record, and what it sends is added in front of what was sent before. -/
theorem messagesErrorsAndTranslationsOfOneFunction : Obligations.MessagesErrorsAndTranslationsOfOneFunction := by
  unfold Obligations.MessagesErrorsAndTranslationsOfOneFunction
  intro s f hf
  have hf' : ¬ 256 ≤ f := by omega
  refine ⟨fun v hv hen hm hp => ?_, fun v hv off => ?_, fun r hr => ?_, fun bar => ?_, fun p err hp he => ?_, fun page => ⟨fun h => ?_, fun h => ?_⟩⟩
  · let x : Fn := { s.fnOf f with vec := tabSet (fun _ => MsixVec.reset) (s.fnOf f).vec v { tabGet (fun _ => MsixVec.reset) (s.fnOf f).vec v with masked := false } }
    have eq : exec (.msixUnmask f (.vector v false)) s = .next ((s.setFn f x).sendPending f) := by
      show execMsixUnmask f (.vector v false) s = _
      unfold execMsixUnmask
      rw [if_neg hf']
      dsimp only
      rw [if_pos hv]
    have hx : (s.setFn f x).fnOf f = x := State.fnOf_setFn
    obtain ⟨out, vec, other⟩ := State.sendPending_spec (s := s.setFn f x) (f := f) (v := v) (by rw [hx]; exact hen) (by rw [hx]; exact hm)
      (by rw [hx]; exact (tabGet_set_self ..).trans (congrArg (MsixVec.mk false) hp))
    exact ⟨_, eq, out, vec, fun g hg => (other g hg).trans (State.fnOf_setFn_of_ne hg),
      ((State.sendPending_within (by decide)).trans (State.setFn_within (by decide))).keeps⟩
  · let x : Fn := { s.fnOf f with vec := tabSet (fun _ => MsixVec.reset) (s.fnOf f).vec v { tabGet (fun _ => MsixVec.reset) (s.fnOf f).vec v with masked := true } }
    have hx : (s.setFn f x).fnOf f = x := State.fnOf_setFn
    have eq : exec (.msixUnmask f (.vector v true)) s = .next (s.setFn f x) := by
      show execMsixUnmask f (.vector v true) s = _
      unfold execMsixUnmask
      rw [if_neg hf']
      dsimp only
      rw [if_pos hv]
      exact congrArg _ (State.sendPending_of_off (s := s.setFn f x) (by rw [hx]; exact off))
    refine ⟨_, eq, ?_, (State.setFn_within (by decide)).keeps⟩
    rw [hx]
    exact congrArg MsixVec.masked (tabGet_set_self ..)
  · refine ⟨s.latchGaz f r, (if_neg (by omega) : execGazRecordLatchRead f r s = _), ?_, ?_, rfl, fun g hg => ?_, ?_⟩
    · exact congrArg Fn.gazLatch (State.fnOf_setFn (s := s))
    · exact congrArg Fn.gazCopy (State.fnOf_setFn (s := s))
    · exact State.fnOf_setFn_of_ne (s := s) hg
    · exact (State.latchGaz_within (by decide)).keeps
  · let u := s.event F.HST_FN_EVENTS_POISONED_WR f 0
    have w : Within [.fns, .out, .reg .HST_FN_EVENTS] u s := State.event_within_of_noRecord rfl fun _ h => h
    have hu : Within [.fns, .out] (u.aerErr f 3) u := State.aerErr_within (by decide)
    refine ⟨u.aerErr f 3, (if_neg hf' : execPoisonedWrite f bar s = _), ?_, ?_, ?_, ((hu.mono (by decide)).trans w).keeps⟩
    · rw [hu.fld (by decide)]
      exact State.fld_event (by decide) rfl (by decide)
    · exact sent_of_suffix State.event_out (List.suffix_refl (u.aerErr f 3).out)
    · have same : (u.fnOf f).aer = (s.fnOf f).aer := State.event_sameFns.aer
      rw [← same]
      exact congrArg Fn.aer (State.fnOf_setFn (s := u))
  · refine ⟨s.aerErr f err, ?_, sent_of_suffix (List.suffix_refl _) (List.suffix_refl (s.aerErr f err).out),
      congrArg Fn.aer (State.fnOf_setFn (s := s)), fun g hg => State.fnOf_setFn_of_ne (s := s) hg,
      (State.aerErr_within (by decide)).keeps⟩
    show execReceivedTlpError p (some f) err s = _
    unfold execReceivedTlpError
    rw [if_neg (by simp; omega), Option.getD_some]
  · let x : Fn := { s.fnOf f with atsHeld := (s.fnOf f).atsHeld.filter (fun p => decide (p ≠ page)), atsInval := (s.fnOf f).atsInval ++ [page] }
    have hx : (s.setFn f x).fnOf f = x := State.fnOf_setFn
    have done := State.atsDone_spec (s := s.setFn f x) (f := f) (p := page) h (by rw [hx]; exact List.mem_append_right _ (List.mem_singleton.mpr rfl))
    rw [hx] at done
    have w := emits_within (F := fun p => .answer 0x010 [f, p]) x.atsInval ((s.setFn f x).setFn f { x with atsInval := [] })
    have eq : exec (.atsInvalidate f page) s = .next _ := (if_neg hf' : execAtsInvalidate f page s = _).trans (congrArg _ done)
    refine ⟨_, eq, ?_, ?_, ⟨_, emits_out _ _, ?_⟩, fun g hg => ?_, ?_⟩
    · rw [w.fnOf (by decide), State.fnOf_setFn]
      simp [x]
    · rw [w.fnOf (by decide), State.fnOf_setFn]
    · simp [x]
    · rw [w.fnOf (by decide), State.fnOf_setFn_of_ne hg, State.fnOf_setFn_of_ne hg]
    · exact ((w.mono (by decide)).trans ((State.setFn_within (by decide)).trans (State.setFn_within (by decide)))).keeps
  · let x : Fn := { s.fnOf f with atsHeld := (s.fnOf f).atsHeld.filter (fun p => decide (p ≠ page)), atsInval := (s.fnOf f).atsInval ++ [page] }
    have hx : (s.setFn f x).fnOf f = x := State.fnOf_setFn
    have eq : exec (.atsInvalidate f page) s = .next (s.setFn f x) :=
      (if_neg hf' : execAtsInvalidate f page s = _).trans (congrArg _ (State.atsDone_of_open (s := s.setFn f x) h))
    refine ⟨_, eq, ?_, by rw [hx], fun g hg => State.fnOf_setFn_of_ne hg, (State.setFn_within (by decide)).keeps⟩
    rw [hx]
    simp [x]

end

end Sys2Proof.Machine
end

section
/-! Controllers (O17). -/

namespace Sys2Proof.Machine

section

/-- Every enabled controller has been shut down; the journal tail holds record 3, and of band 7 the older of two records stands first. -/
def unorderedBandTail : State :=
  { State.reset with
    ctls := [(0, { Ctl.reset with en := true, shn := 1, shst := 2 })],
    atl := { Atlas.reset with tail := [⟨3, 3, 0, 0, 1, [], 0⟩], bandTail := [(1, 7, { Band.reset with nextRow := 1 }), (5, 7, { Band.reset with nextRow := 5 })] } }

/-- Refutes O17: the flush spills the band records up to the last record of the tail first and the later ones after them (R155), so with band
records out of their order the one that stays is not the one `saveBands` keeps of the whole list. -/
theorem not_controllersEnableDisableAndShutDown : ¬ Obligations.ControllersEnableDisableAndShutDown := by
  unfold Obligations.ControllersEnableDisableAndShutDown
  intro h
  obtain ⟨-, -, -, flush⟩ := h unorderedBandTail 0 (by decide) (by decide)
  obtain ⟨t, eq, -, -, -, -, saved, -⟩ := flush (by decide) (by decide) (fun _ he => (List.not_mem_nil he).elim)
  obtain rfl : _ = t := Host.Outcome.next.inj eq
  exact absurd saved (by decide)

end

end Sys2Proof.Machine
end

section
/-! I/O queues (O18). -/

namespace Sys2Proof.Machine

section

/-- A reset device on which function 0 has an I/O submission queue 1, with no command. -/
def idleQueue : State := State.reset.setSq 0 1 (some ⟨64, 0, 0, 1, 0, none, false, false, [], false, none, false, none⟩)

/-- Refutes O18: the deletion of a submission queue with no command left begins and ends a suspension (R374, R55), whose two records go into
the Gazetteer, and the statement's last clause lets nothing but queues and completion entries change. -/
theorem not_ioQueuesAreCreatedAndDeleted : ¬ Obligations.IoQueuesAreCreatedAndDeleted := by
  unfold Obligations.IoQueuesAreCreatedAndDeleted
  intro h
  obtain ⟨-, -, -, -, delete⟩ := h idleQueue ⟨0, 0, 0⟩ 1 0 0 (by decide) (by decide)
  obtain ⟨t, eq, -, -, -, kept⟩ := delete (by decide) (fun _ hc => (List.not_mem_nil hc).elim)
  obtain rfl : _ = t := Host.Outcome.next.inj eq
  exact absurd (congrArg Gaz.seq (kept .gaz (by decide))) (by decide)

end

end Sys2Proof.Machine
end

section
/-! Admin commands and events (O20). -/

namespace Sys2Proof.Machine

section

/-- Function 0 has one event request waiting; its temperature event is enabled, and the spare event, of the same type, is masked. -/
def spareMasked : State :=
  { State.reset with ctls := [(0, { Ctl.reset with en := true, rdy := true, aec := 3#32, aers := [0], aerMasked := [evSmart 0] })] }

/-- Refutes O20: an event is held back while another of its type is masked (R391: one type, whatever its information byte), and the statement asks only
that the event itself is not masked: a temperature event after a spare event is not reported. -/
theorem not_adminCommandsEventsAndFormat : ¬ Obligations.AdminCommandsEventsAndFormat := by
  unfold Obligations.AdminCommandsEventsAndFormat
  intro h
  obtain ⟨-, -, report, -⟩ := h.2 spareMasked ⟨0, 0, 0⟩ (evSmart 1)
  obtain ⟨t, eq, posted, -⟩ := report 0 [] (by decide) (by decide) (by decide) (by decide) (by decide)
  obtain rfl : _ = t := Host.Outcome.next.inj eq
  exact absurd posted (by unfold posts; decide)

end

end Sys2Proof.Machine
end

section
/-! Arrivals of I/O entries (O21). -/

namespace Sys2Proof.Machine

section
variable {s t : State} {fn sq cid st : ℕ} {c : Cmd}

theorem State.setSq_otherSqs {x : Option Sq} : otherSqs s (s.setSq fn sq x) fn sq := fun _ h => tabGet_set_ne _ _ _ h

theorem Cmd.is_self : c.is c.fn c.sq c.cid = true := by simp [Cmd.is]

/-- A command that has just been appended is the one of its names, where none of them was outstanding. -/
theorem State.findCmd_append (h : s.findCmd c.fn c.sq c.cid = none) :
    ({ s with cmds := s.cmds ++ [c] } : State).findCmd c.fn c.sq c.cid = some c := by
  unfold State.findCmd at *
  show (s.cmds ++ [c]).find? _ = _
  rw [List.find?_append, h, Option.none_or]
  exact List.find?_cons_of_pos (p := fun x : Cmd => x.is c.fn c.sq c.cid) Cmd.is_self

/-- A command that is found and changed within its names is found as changed. -/
theorem State.findCmd_map {g : Cmd → Cmd} (h : s.findCmd fn sq cid = some c) (hg : ∀ x : Cmd, x.is fn sq cid = true → (g x).is fn sq cid = true := by exact fun _ h => h) :
    (s.mapCmd fn sq cid g).findCmd fn sq cid = some (g c) := by
  unfold State.findCmd State.mapCmd at *
  show (s.cmds.map _).find? _ = _
  generalize s.cmds = l at h
  induction l with
  | nil => simp at h
  | cons a l ih =>
    rw [List.map_cons]
    by_cases ha : a.is fn sq cid = true
    · rw [List.find?_cons_of_pos (p := fun x : Cmd => x.is fn sq cid) ha] at h
      rw [if_pos ha, ← Option.some.inj h]
      exact List.find?_cons_of_pos (p := fun x : Cmd => x.is fn sq cid) (hg a ha)
    · rw [if_neg ha, List.find?_cons_of_neg (p := fun x : Cmd => x.is fn sq cid) ha]
      rw [List.find?_cons_of_neg (p := fun x : Cmd => x.is fn sq cid) ha] at h
      exact ih h

/-- The end of a command that has not ended before, with a status that counts no media error. -/
theorem State.endCmd_spec {q : Sq} (h : s.findCmd fn sq cid = some c) (hp : c.phase ≠ .posting) (hq : s.sqOf fn sq = some q)
    (hs : st ≠ Sc.unrecoveredRead ∧ st ≠ Sc.guardCheck) :
    posts s (s.endCmd fn sq cid st) ⟨fn, sq, cid, q.cq, st, dnrOf st, Cmd.dw0 { c with phase := .posting, status := st } s.now⟩ ∧
      (s.endCmd fn sq cid st).findCmd fn sq cid = some { c with phase := .posting, status := st } ∧
      otherCtls s (s.endCmd fn sq cid st) fn ∧ Within [.cmds, .cpls, .ctls] (s.endCmd fn sq cid st) s := by
  let c' : Cmd := { c with phase := .posting, status := st }
  let u := s.mapCmd fn sq cid fun _ => c'
  let v : State := u.logError fn sq cid st
  have w : Within [.ctls] v u := State.logError_within (by decide)
  have eq : s.endCmd fn sq cid st = { v with cpls := v.cpls ++ [⟨fn, sq, cid, q.cq, st, dnrOf st, c'.dw0 v.now⟩] } := by
    unfold State.endCmd
    rw [h]
    dsimp only
    rw [if_neg hp, hq]
    dsimp only
    rw [if_neg (not_or.mpr hs)]
  have found : v.findCmd fn sq cid = some c' := by
    rw [State.findCmd, show v.cmds = u.cmds from w.keeps .cmds (by decide)]
    exact State.findCmd_map h fun _ _ => ((List.find?_some (p := fun x : Cmd => x.is fn sq cid) h : c.is fn sq cid = true))
  rw [eq]
  have posted : v.cpls ++ [⟨fn, sq, cid, q.cq, st, dnrOf st, c'.dw0 v.now⟩] = s.cpls ++ [⟨fn, sq, cid, q.cq, st, dnrOf st, c'.dw0 s.now⟩] := by
    rw [show v.cpls = u.cpls from w.keeps .cpls (by decide), show v.now = u.now from w.keeps .now (by decide)]
    rfl
  refine ⟨posted, found, fun g hg => State.logError_ctl_ne (s := u) hg, ?_⟩
  exact .step (by decide) (.cpls v _) ((w.mono (by decide)).trans (.step (by decide) (.cmds s _) .rfl))

theorem State.endCmd_success_within {L : List Part} (h : [.cmds, .cpls] ⊆ L) : Within L (s.endCmd fn sq cid Sc.success) s := by
  unfold State.endCmd
  split
  · exact .rfl
  · refine .ite .rfl ?_
    dsimp only
    rw [if_neg (by decide)]
    exact .step (h (by decide)) (.cpls _ _) (.step (h (by decide)) (.cmds s _) .rfl)

/-- The statuses with which an entry fails validation (Table 12-3). -/
def failsValidation : List ℕ := [Sc.invalidField, Sc.invalidNamespace, Sc.formatInProgress, Sc.accessDenied, Sc.lbaRange]

theorem State.validate_mem {e : IoEntry} {op : ℕ} {d : Bool} {rs : List (ℕ × ℕ)} (h : s.validate e op d rs = some st) : st ∈ failsValidation := by
  have all : (s.validate e op d rs).all (fun x => decide (x ∈ failsValidation)) = true := by
    unfold State.validate
    repeat' split
    all_goals rfl
  rw [h] at all
  exact of_decide_eq_true all

theorem State.validate_counts_nothing {e : IoEntry} {op : ℕ} {d : Bool} {rs : List (ℕ × ℕ)} (h : s.validate e op d rs = some st) :
    st ≠ Sc.unrecoveredRead ∧ st ≠ Sc.guardCheck := by
  have := State.validate_mem h
  constructor <;> rintro rfl <;> exact absurd this (by decide)

/-- An entry that fails validation enters and ends at once. -/
theorem State.enter_bad {q : Sq} (h : s.findCmd c.fn c.sq c.cid = none) (hp : c.phase ≠ .posting) (hq : s.sqOf c.fn c.sq = some q)
    (hs : st ≠ Sc.unrecoveredRead ∧ st ≠ Sc.guardCheck) :
    postsStatus s (s.enter c (some st)) c.fn c.sq c.cid q.cq st ∧
      (s.enter c (some st)).findCmd c.fn c.sq c.cid = some { c with suspended := s.nsHeld c.nsid, phase := .posting, status := st } ∧
      otherCtls s (s.enter c (some st)) c.fn ∧ Within [.cmds, .cpls, .ctls] (s.enter c (some st)) s := by
  let x : Cmd := { c with suspended := s.nsHeld c.nsid }
  let u : State := { s with cmds := s.cmds ++ [x] }
  have found : u.findCmd c.fn c.sq c.cid = some x := State.findCmd_append (c := x) h
  obtain ⟨posted, now, other, w⟩ := State.endCmd_spec (s := u) (st := st) found hp hq hs
  exact ⟨⟨_, posted⟩, now, other, w.trans (.step (by decide) (.cmds s _) .rfl)⟩

/-- The queue after its fetched entry has arrived. -/
def Sq.arrived (q : Sq) : Sq := { q with fetching := q.fetching.tail, retried := false }

/-- The command that an arriving entry becomes. -/
def State.arriving (s : State) (q : Sq) (e : IoEntry) (op : ℕ) (kind : Kind) (bytes : ℕ) (rs : List (ℕ × ℕ)) : Cmd :=
  newCmd e op kind ((q.fetching.head?.getD (0, q.cls, s.fnEpoch e.fn)).2.1) s.now ((q.fetching.head?.getD (0, q.cls, s.fnEpoch e.fn)).2.2) bytes rs

theorem State.arrive_eq {q : Sq} {e : IoEntry} {op : ℕ} {d : Bool} {rs : List (ℕ × ℕ)} (hq : s.sqOf e.fn e.sq = some q) :
    s.arrive e op d rs = (s.setSq e.fn e.sq (some q.arrived)).enter (s.arriving q e op (kindOf op e.fua d) (s.transferBytes e op) rs) (s.validate e op d rs) := by
  unfold State.arrive
  rw [hq]
  rfl

theorem exec_ioForm {i : Instr} {e : IoEntry} {op : ℕ} {d : Bool} {rs : List (ℕ × ℕ)} (h : ioForm i = some (e, op, d, rs)) :
    exec i s = .next (s.arrive e op d rs) := by
  unfold ioForm at h
  split at h <;> cases h <;> rfl

/-- What the arrival of an entry that is refused leaves, whatever command it became. -/
theorem State.enter_arrived {q : Sq} {e : IoEntry} (h : s.findCmd e.fn e.sq e.cid = none)
    (hc : c.fn = e.fn ∧ c.sq = e.sq ∧ c.cid = e.cid ∧ c.phase = .offered ∧ c.accepted = false) (hs : st ≠ Sc.unrecoveredRead ∧ st ≠ Sc.guardCheck) :
    let t := (s.setSq e.fn e.sq (some q.arrived)).enter c (some st)
    (t.sqOf e.fn e.sq = some q.arrived ∧ otherSqs s t e.fn e.sq) ∧ postsStatus s t e.fn e.sq e.cid q.cq st ∧
      (∃ c, t.findCmd e.fn e.sq e.cid = some c ∧ c.phase = .posting ∧ c.accepted = false ∧ c.status = st) ∧
      otherCtls s t e.fn ∧ Within [.sqs, .cmds, .cpls, .ctls] t s := by
  obtain ⟨h1, h2, h3, hp, ha⟩ := hc
  let u := s.setSq e.fn e.sq (some q.arrived)
  have huq : u.sqOf c.fn c.sq = some q.arrived := by rw [h1, h2]; exact State.sqOf_setSq
  obtain ⟨posted, now, other, w⟩ := State.enter_bad (s := u) (c := c) (st := st) (by rw [h1, h2, h3]; exact h) (by rw [hp]; decide) huq hs
  rw [h1, h2, h3] at posted now
  rw [h1] at other
  intro t
  have sqs : t.sqs = u.sqs := w.keeps .sqs (by decide)
  refine ⟨⟨?_, fun k hk => ?_⟩, posted, ⟨_, now, rfl, ha, rfl⟩, other, ?_⟩
  · exact (State.sqOf_eq_of_sqs sqs).trans State.sqOf_setSq
  · rw [sqs]
    exact State.setSq_otherSqs k hk
  · exact (w.mono (by decide)).trans (State.setSq_within (by decide))

/-- Settles O21: an I/O entry takes its queue's fetched place, joins the commands outstanding and, where it fails validation, ends there. -/
theorem ioEntriesAreOfferedOrRefused : Obligations.IoEntriesAreOfferedOrRefused := by
  unfold Obligations.IoEntriesAreOfferedOrRefused
  intro s e q hq free
  dsimp only
  refine ⟨fun i op d rs form => ⟨fun ok => ?_, fun st bad => ?_⟩, fun op => ?_⟩
  · refine ⟨_, exec_ioForm form, ?_⟩
    rw [State.arrive_eq hq, ok]
    refine ⟨⟨(State.sqOf_setSq : (s.setSq e.fn e.sq (some q.arrived)).sqOf e.fn e.sq = _), (State.setSq_otherSqs : otherSqs s (s.setSq e.fn e.sq (some q.arrived)) e.fn e.sq)⟩, ⟨_, rfl, rfl, rfl, rfl, rfl, rfl, ?_, ?_, rfl, rfl, rfl, rfl, rfl, rfl, rfl, rfl, rfl⟩, ?_⟩
    · show (q.fetching.head?.getD _).2.1 = _
      cases q.fetching.head? <;> rfl
    · show (q.fetching.head?.getD _).2.2 = _
      cases q.fetching.head? <;> rfl
    · exact Within.keeps (.step (by decide) (.cmds _ _) (State.setSq_within (by decide)))
  · refine ⟨_, exec_ioForm form, ?_⟩
    rw [State.arrive_eq hq, bad]
    obtain ⟨queue, posted, found, other, w⟩ := State.enter_arrived (q := q) (c := s.arriving q e op (kindOf op e.fua d) (s.transferBytes e op) rs) free
      ⟨rfl, rfl, rfl, rfl, rfl⟩ (State.validate_counts_nothing bad)
    exact ⟨queue, posted, found, other, w.keeps⟩
  · have eq : exec (.ioInvalidOpcode e op) s =
        .next ((s.setSq e.fn e.sq (some q.arrived)).enter (s.arriving q e op .other 0 []) (some Sc.invalidOpcode)) := by
      show execIoInvalidOpcode e op s = _
      unfold execIoInvalidOpcode
      rw [hq]
      rfl
    obtain ⟨queue, posted, ⟨c, hc, hp, ha, -⟩, other, w⟩ := State.enter_arrived (st := Sc.invalidOpcode) (c := s.arriving q e op .other 0 []) free
      ⟨rfl, rfl, rfl, rfl, rfl⟩ (by decide)
    exact ⟨_, eq, queue, posted, ⟨c, hc, hp, ha⟩, other, w.keeps⟩

end

end Sys2Proof.Machine
end

section
/-! The caches of the Atlas engines. -/

namespace Sys2Proof.Machine

section
variable {s t u : State} {k e : ℕ}

/-- Only the directory, the engines' caches and the write-backs in progress have changed. -/
def sameMap (s t : State) : Prop := ∃ eng dir writes, t = { s with atl := { s.atl with eng := eng, dir := dir, writes := writes } }

theorem sameMap.refl (s : State) : sameMap s s := ⟨s.atl.eng, s.atl.dir, s.atl.writes, rfl⟩
theorem sameMap.trans (h : sameMap s t) (k : sameMap t u) : sameMap s u := by
  obtain ⟨a, b, c, rfl⟩ := h
  obtain ⟨x, y, z, rfl⟩ := k
  exact ⟨x, y, z, rfl⟩

theorem sameMap.within (h : sameMap s t) : Within [.atl] t s := by
  obtain ⟨a, b, c, rfl⟩ := h
  exact .step (by decide) (.atl s _) .rfl

theorem State.setAtlEng_sameMap {x : AtlEng} : sameMap s (s.setAtlEng e x) := ⟨_, _, _, rfl⟩
theorem State.setDir_sameMap {x : Dir} : sameMap s (s.setDir k x) := ⟨_, _, _, rfl⟩
theorem State.startWb_sameMap : sameMap s (s.startWb e k) := ⟨_, _, _, rfl⟩

theorem State.makeRoom_sameMap (h : s.makeRoom e = some t) : sameMap s t := by
  unfold State.makeRoom at h
  split at h
  · cases h
    exact .refl s
  · dsimp only at h
    split at h
    · cases h
      exact State.setAtlEng_sameMap.trans State.setDir_sameMap
    · split at h
      · simp at h
      · split at h
        · simp at h
        · cases h
          exact State.setAtlEng_sameMap.trans (State.setAtlEng_sameMap.trans (State.startWb_sameMap.trans State.setDir_sameMap))

theorem State.obtain_sameMap (s : State) (k e : ℕ) : sameMap s (s.obtain k e) := by
  unfold State.obtain
  extract_lets take
  have taken : ∀ t d, sameMap t (take t d) := fun t d => State.setAtlEng_sameMap.trans State.setDir_sameMap
  split
  · exact .refl s
  · split
    · split
      · split
        · exact .refl s
        · exact taken s false
      · split
        · exact .refl s
        · next h => exact (State.makeRoom_sameMap h).trans (State.setAtlEng_sameMap.trans (taken _ _))
    · split
      · exact .refl s
      · next h => exact (State.makeRoom_sameMap h).trans (taken _ _)
    · split
      · exact .refl s
      · next h => exact (State.makeRoom_sameMap h).trans (taken _ _)

theorem sameMap.foldl {α : Type} {step : State → α → State} (h : ∀ s a, sameMap s (step s a)) (l : List α) (s : State) : sameMap s (l.foldl step s) := by
  induction l generalizing s with
  | nil => exact .refl s
  | cons a l ih => exact (h s a).trans (ih (step s a))

theorem State.lookupSegs_sameMap {c : Cmd} : sameMap s (s.lookupSegs c) := by
  unfold State.lookupSegs
  split
  · exact .refl s
  · extract_lets keys
    split
    · exact .refl s
    · exact .foldl (fun s k => State.obtain_sameMap s k _) _ s

end

end Sys2Proof.Machine
end

section
/-! Admission and probes (O22). -/

namespace Sys2Proof.Machine

section
variable {s t : State} {fn sq cid st : ℕ} {c : Cmd} {n : Ns} {q : Sq}

theorem posts.of_cpls {u : State} {p : Cpl} (h : posts t u p) (e : t.cpls = s.cpls) : posts s u p := by
  rw [posts, ← e]
  exact h

theorem State.findCmd_is (h : s.findCmd fn sq cid = some c) : c.fn = fn ∧ c.sq = sq ∧ c.cid = cid := by
  have : c.is fn sq cid = true := List.find?_some (p := fun x : Cmd => x.is fn sq cid) h
  simpa [Cmd.is] using this

/-! The admission of a Flush -/

/-- The command a Flush with nothing to wait for is accepted as (R86, R372). -/
def State.flushTaken (s : State) (c : Cmd) : Cmd :=
  { ({ c with waitsFor := [] } : Cmd).taken s with earliest := boundUs (s.elQ c + tPost) }

theorem State.admitOp_zero (hop : c.op = 0) {limit : Option ℕ} : s.admitOp n c limit false = s.admitFlush n c limit := by
  unfold State.admitOp
  rw [hop]
  rfl

theorem State.admitFlush_nothing (hs : s.stagedOf n = []) {limit : Option ℕ} :
    s.admitFlush n c limit = s.admitAtOnce { c with waitsFor := [] } (s.elQ c + tPost) limit s := by
  unfold State.admitFlush
  rw [hs]
  dsimp only
  simp only [List.map_nil, List.isEmpty_nil, if_true, Nat.add_zero]

theorem State.admitAtOnce_inTime {bound : ℕ} {limit : Option ℕ} (h : within bound limit = true) :
    s.admitAtOnce c bound limit t = .accept { c.taken s with earliest := boundUs bound } t := by
  unfold State.admitAtOnce
  rw [if_pos h]

theorem within_some {bound limit : ℕ} (h : bound ≤ limit) : within bound (some limit) = true := by
  unfold within
  rw [Option.map_some, Option.getD_some]
  exact decide_eq_true h

theorem State.admitOp_flush (hop : c.op = 0) (hs : s.stagedOf n = []) (hd : s.elQ c + tPost ≤ (s.cls c.cls).deadline c.kind * qUs) :
    s.admitOp n c (some ((s.cls c.cls).deadline c.kind * qUs)) false = .accept (s.flushTaken c) s :=
  (State.admitOp_zero hop).trans ((State.admitFlush_nothing hs).trans (State.admitAtOnce_inTime (within_some hd)))

theorem State.admission_flush (hn : s.nsOf c.nsid = some n) (hop : c.op = 0) (ho : s.plt.admitOpen = true) (hh : s.nsHeld c.nsid = false)
    (hs : s.stagedOf n = []) (hu : (s.cls c.cls).unfit = false) (ha : c.accepted = false)
    (hd : s.elQ c + tPost ≤ (s.cls c.cls).deadline c.kind * qUs) : s.admission c = .accept (s.flushTaken c) s := by
  have free : s.covered c = false := by rw [State.covered, hh, ha]; rfl
  have limit : s.limitQ c = some ((s.cls c.cls).deadline c.kind * qUs) := by
    unfold State.limitQ
    rw [if_neg (by rw [free]; decide)]
  have waits : s.awaitsMap n c = false := by rw [State.awaitsMap, free]; rfl
  have op := State.admitOp_flush hop hs hd
  unfold State.admission
  rw [hn]
  dsimp only
  rw [if_neg (by rw [ho]; decide), if_neg (by rw [waits]; decide), limit, op]
  dsimp only
  rw [if_neg (by rw [hu, Bool.false_and]; decide)]

theorem State.lookupSegs_flush (hop : c.op = 0) : s.lookupSegs c = s := by
  unfold State.lookupSegs
  split
  · rfl
  · extract_lets keys
    have none : keys = [] := by
      unfold keys
      rw [hop]
      rfl
    rw [none]
    split <;> rfl

theorem State.stat_self {f row : ℕ} :
    tabGet (fun _ => 0) (s.stat f row).stats (128 * f + row) = satAdd (2 ^ 64 - 1) (tabGet (fun _ => 0) s.stats (128 * f + row)) 1 :=
  tabGet_set_self ..
theorem State.stat_ne {f row k : ℕ} (h : k ≠ 128 * f + row) : tabGet (fun _ => 0) (s.stat f row).stats k = tabGet (fun _ => 0) s.stats k :=
  tabGet_set_ne _ _ _ h

/-! A refusal -/

theorem State.refuseCmd_spec (h : s.findCmd fn sq cid = some c) (hp : c.phase ≠ .posting) (hq : s.sqOf fn sq = some q) (b : Bool) :
    posts s (s.refuseCmd c never b) ⟨fn, sq, cid, q.cq, Sc.deadlineUnattainable, false, 0xFFFFFFFF#32⟩ ∧
      tabGet (fun _ => 0) (s.refuseCmd c never b).stats (128 * fn + 1) = satAdd (2 ^ 64 - 1) (tabGet (fun _ => 0) s.stats (128 * fn + 1)) 1 ∧
      otherCtls s (s.refuseCmd c never b) fn ∧ Within [.cmds, .cpls, .ctls, .stats] (s.refuseCmd c never b) s := by
  obtain ⟨rfl, rfl, rfl⟩ := State.findCmd_is h
  unfold State.refuseCmd
  extract_lets s1 s2 s3
  have w2 : Within [.stats] s2 s := (Within.ite (State.stat_within (by decide)) .rfl).trans (State.stat_within (by decide))
  have stats : tabGet (fun _ => 0) s2.stats (128 * c.fn + 1) = satAdd (2 ^ 64 - 1) (tabGet (fun _ => 0) s.stats (128 * c.fn + 1)) 1 := by
    unfold s2
    split
    · exact (State.stat_ne (s := s1) (by omega)).trans State.stat_self
    · exact State.stat_self
  clear_value s2
  have found : s3.findCmd c.fn c.sq c.cid = some { c with earliest := min never 0xFFFFFFFF } := by
    have : s2.findCmd c.fn c.sq c.cid = some c := by rw [State.findCmd, show s2.cmds = s.cmds from w2.keeps .cmds (by decide)]; exact h
    exact State.findCmd_map this
  have w3 : Within [.cmds] s3 s2 := State.mapCmd_within (by decide)
  have w23 : Within [.cmds, .stats] s3 s := (w3.mono (by decide)).trans (w2.mono (by decide))
  obtain ⟨posted, -, other, w⟩ := State.endCmd_spec (s := s3) (st := Sc.deadlineUnattainable) found hp
    ((w23.sqOf (by decide)).trans hq) (by decide)
  refine ⟨posted.of_cpls (w23.keeps .cpls (by decide)), ?_, fun g hg => (other g hg).trans (w23.ctl (by decide)), (w.mono (by decide)).trans (w23.mono (by decide))⟩
  · rw [show State.stats _ = s3.stats from w.keeps .stats (by decide), show s3.stats = s2.stats from w3.keeps .stats (by decide), stats]

theorem State.admission_closed (ho : s.plt.admitOpen = false) (ha : c.accepted = false) : s.admission c = .refuse never := by
  unfold State.admission
  split
  · rfl
  · dsimp only
    rw [if_pos (by rw [ho]; rfl), if_neg (by rw [ha]; decide)]

/-- A write is refused, with no earliest deadline, while the journal tail is full (R146). -/
theorem State.admission_full (hn : (s.nsOf c.nsid).isSome = true) (hop : c.op = 1) (hh : s.nsHeld c.nsid = false) (ha : c.accepted = false)
    (hf : s.atl.jrnlFull = true) : s.admission c = .refuse never := by
  obtain ⟨n, hn⟩ := Option.isSome_iff_exists.mp hn
  have free : s.covered c = false := by rw [State.covered, hh, ha]; rfl
  have op : ∀ limit best, s.admitOp n c limit best = .refuse never := fun limit best => by
    unfold State.admitOp
    rw [hop]
    exact if_pos (by rw [State.writesHeld, hf]; rfl)
  have hint : s.hint n c = never := by rw [State.hint, op]
  unfold State.admission
  rw [hn]
  dsimp only
  rw [ha, op, hint, free]
  split
  · rfl
  · rw [if_neg (by rw [State.awaitsMap, free, Bool.false_and]; decide)]
    rfl

/-! The probe of a hold-class head -/

/-- The queue after its head entry has been fetched. -/
def State.fetched (s : State) (e : IoEntry) (q : Sq) : Sq :=
  { q with head := (q.head + 1) % max 1 q.size, cls := q.nextCls, newCls := none, fetching := q.fetching ++ [(q.head, q.nextCls, s.fnEpoch e.fn)],
           headSince := none, probing := false, probed := none }

variable {e : IoEntry} {op : ℕ} {ad : Bool} {rs : List (ℕ × ℕ)}

theorem State.fetchOne_spec {b : ℕ} : (s.fetchOne e.fn e.sq b q).sqOf e.fn e.sq = some (s.fetched e q) ∧
    Within [.buckets, .sqs] (s.fetchOne e.fn e.sq b q) s := by
  unfold State.fetchOne
  extract_lets k u
  have w : Within [.buckets, .sqs] u s := State.setSq_within (by decide)
  have at_ : u.sqOf e.fn e.sq = some (s.fetched e q) := State.sqOf_setSq (s := s)
  split
  · exact ⟨at_, w⟩
  · have wb : Within [.buckets] (u.setBucket e.fn k ((u.bucket e.fn k).take (u.cls k) b)) u := State.setBucket_within (by decide)
    exact ⟨(wb.sqOf (by decide)).trans at_, (wb.mono (by decide)).trans w⟩

/-- A Flush with nothing to wait for completes as it starts. -/
theorem State.started_flush (hop : c.op = 0) (ht : c.toStage = []) (hf : c.waitsFor = []) (hw : c.waitsSeg = []) :
    s.started c (t.readFails c) = s.endCmd c.fn c.sq c.cid Sc.success := by
  have reads : t.readFails c = false := by
    unfold State.readFails
    rw [hop]
    rfl
  unfold State.started
  rw [reads, if_neg Bool.false_ne_true, if_neg (by rw [hop]; decide), if_neg (by rw [hop]; simp), if_pos (by rw [ht, hf, hw]; decide)]

theorem State.decide_flush (hc : s.findCmd c.fn c.sq c.cid = some c) (hq : s.sqOf c.fn c.sq = some q) (hop : c.op = 0)
    (ht : c.toStage = []) (hw : c.waitsSeg = []) (ha : c.accepted = false) (adm : s.admission c = .accept (s.flushTaken c) s) :
    let t := s.decide_ c false
    postsStatus s t c.fn c.sq c.cid q.cq Sc.success ∧
      (∃ k, t.findCmd c.fn c.sq c.cid = some k ∧ k.accepted = true ∧ k.phase = .posting ∧ k.deadline = (s.cls c.cls).deadline c.kind) ∧
      tabGet (fun _ => 0) t.stats (128 * c.fn) = satAdd (2 ^ 64 - 1) (tabGet (fun _ => 0) s.stats (128 * c.fn)) 1 ∧
      keepsBut [.cmds, .cpls, .stats] s t := by
  let x := s.flushTaken c
  let u := s.mapCmd c.fn c.sq c.cid fun _ => x
  let v := (u.stat c.fn 0).stat c.fn (64 + c.cls)
  have eq : s.decide_ c false = v.endCmd c.fn c.sq c.cid Sc.success := by
    unfold State.decide_
    rw [State.lookupSegs_flush hop]
    dsimp only
    rw [adm]
    show ((s.mapCmd c.fn c.sq c.cid fun _ => x).countTaken c).started x (s.readFails x) = _
    have counted : u.countTaken c = v := by
      unfold State.countTaken
      rw [if_neg (by rw [ha]; decide)]
    rw [counted]
    exact State.started_flush hop ht rfl hw
  have wv : Within [.stats] v u := (State.stat_within (by decide)).trans (State.stat_within (by decide))
  have wu : Within [.cmds] u s := State.mapCmd_within (by decide)
  have w : Within [.cmds, .stats] v s := (wv.mono (by decide)).trans (wu.mono (by decide))
  have found : v.findCmd c.fn c.sq c.cid = some x := by
    rw [State.findCmd, show v.cmds = u.cmds from wv.keeps .cmds (by decide)]
    exact State.findCmd_map hc fun _ _ => Cmd.is_self (c := c)
  obtain ⟨posted, now, -, -⟩ := State.endCmd_spec (s := v) (st := Sc.success) found (nofun : CmdPhase.running ≠ .posting) ((w.sqOf (by decide)).trans hq) (by decide)
  have we : Within [.cmds, .cpls] (v.endCmd c.fn c.sq c.cid Sc.success) v := State.endCmd_success_within (by decide)
  rw [eq]
  intro t
  refine ⟨⟨_, posted.of_cpls (w.keeps .cpls (by decide))⟩, ⟨_, now, rfl, rfl, rfl⟩, ?_, ((we.mono (by decide)).trans (w.mono (by decide))).keeps⟩
  · rw [show State.stats _ = v.stats from we.keeps .stats (by decide)]
    exact (State.stat_ne (s := u.stat c.fn 0) (by omega)).trans (State.stat_self (s := u) (row := 0))

theorem State.decide_closed (hc : s.findCmd c.fn c.sq c.cid = some c) (hp : c.phase ≠ .posting) (hq : s.sqOf c.fn c.sq = some q)
    (ho : s.plt.admitOpen = false) (ha : c.accepted = false) :
    let t := s.decide_ c false
    posts s t ⟨c.fn, c.sq, c.cid, q.cq, Sc.deadlineUnattainable, false, 0xFFFFFFFF#32⟩ ∧
      tabGet (fun _ => 0) t.stats (128 * c.fn + 1) = satAdd (2 ^ 64 - 1) (tabGet (fun _ => 0) s.stats (128 * c.fn + 1)) 1 ∧
      otherCtls s t c.fn ∧ t.atl.ent = s.atl.ent ∧ keepsBut [.atl, .cmds, .cpls, .ctls, .stats] s t := by
  have same : sameMap s (s.lookupSegs c) := State.lookupSegs_sameMap
  have eq : s.decide_ c false = (s.lookupSegs c).refuseCmd c never false := by
    unfold State.decide_
    dsimp only
    rw [State.admission_closed (by rw [show (s.lookupSegs c).plt = s.plt from same.within.keeps .plt (by decide)]; exact ho) ha]
  rw [eq]
  intro t
  unfold t
  generalize s.lookupSegs c = u at same
  have ent : u.atl.ent = s.atl.ent := by
    obtain ⟨a, b, d, rfl⟩ := same
    rfl
  have w := same.within
  have found : u.findCmd c.fn c.sq c.cid = some c := by
    rw [State.findCmd, show u.cmds = s.cmds from w.keeps .cmds (by decide)]
    exact hc
  obtain ⟨posted, stats, other, we⟩ := State.refuseCmd_spec found hp ((w.sqOf (by decide)).trans hq) false
  refine ⟨posted.of_cpls (w.keeps .cpls (by decide)), ?_, fun g hg => (other g hg).trans (w.ctl (by decide)), ?_, ((we.mono (by decide)).trans (w.mono (by decide))).keeps⟩
  · rw [stats, show u.stats = s.stats from w.keeps .stats (by decide)]
  · rw [← ent]
    exact congrArg Atlas.ent (we.keeps .atl (by decide))

theorem State.fetchOne_validate {b k : ℕ} {d : Bool} : (s.fetchOne e.fn e.sq b q).validate e k d rs = s.validate e k d rs := by
  unfold State.fetchOne
  dsimp only
  split <;> rfl

theorem State.probe_idle {last : Bool} (hq : s.sqOf e.fn e.sq = some q) (h : (!s.probeable e op q || !(last || s.probeDue q)) = true) :
    s.probe e op ad rs last = s := by
  unfold State.probe
  rw [hq]
  exact if_pos h

/-- A probe looks at the head entry as it would arrive. -/
theorem State.probe_eq {last : Bool} (hq : s.sqOf e.fn e.sq = some q) (hm : s.pwr.mode ≠ .ready) (h : (!s.probeable e op q || !(last || s.probeDue q)) = false)
    (hc : (s.probeFetch e op ad rs q).findCmd e.fn e.sq e.cid = some c) :
    s.probe e op ad rs last = if c.phase ≠ .offered then s.probeFetch e op ad rs q else match (s.probeFetch e op ad rs q).admission c with
      | .accept c' u => (s.probeFetch e op ad rs q).acceptCmd u c c'
      | .await => (s.probeFetch e op ad rs q).decide_ c last
      | .refuse k =>
        if last then (s.probeFetch e op ad rs q).refuseCmd c k true
        else s.setSq e.fn e.sq (some { q with headSince := some (q.headSince.getD s.now), probing := true, probed := some s.now }) := by
  unfold State.probe
  rw [hq, State.toService_same hm]
  dsimp only
  rw [if_neg (by rw [h]; decide), hc] <;> rfl

/-- The head entry as it arrives (R46, R83): what its fetch took, and the command it enters as. -/
theorem State.probeFetch_eq : s.probeFetch e op ad rs q =
    ((s.fetchOne e.fn e.sq (s.transferBytes e op) q).setSq e.fn e.sq (some (s.fetched e q).arrived)).enter
      ((s.fetchOne e.fn e.sq (s.transferBytes e op) q).arriving (s.fetched e q) e op (kindOf op e.fua (ioShape e op ad rs).1)
        ((s.fetchOne e.fn e.sq (s.transferBytes e op) q).transferBytes e op) (ioShape e op ad rs).2)
      (s.validate e op (ioShape e op ad rs).1 (ioShape e op ad rs).2) := by
  unfold State.probeFetch
  dsimp only
  rw [State.arrive_eq State.fetchOne_spec.1, State.fetchOne_validate]

theorem State.fetchOne_free {b : ℕ} (h : s.findCmd e.fn e.sq e.cid = none) : (s.fetchOne e.fn e.sq b q).findCmd e.fn e.sq e.cid = none := by
  rw [State.findCmd, show (s.fetchOne e.fn e.sq b q).cmds = s.cmds from (State.fetchOne_spec (s := s)).2.keeps .cmds (by decide)]
  exact h

/-- A head entry that fails validation is fetched and ends. -/
theorem State.probe_bad {last : Bool} (hq : s.sqOf e.fn e.sq = some q) (hf : s.findCmd e.fn e.sq e.cid = none) (hm : s.pwr.mode ≠ .ready)
    (h : (!s.probeable e op q || !(last || s.probeDue q)) = false)
    (bad : s.validate e op (ioShape e op ad rs).1 (ioShape e op ad rs).2 = some st) :
    let t := s.probe e op ad rs last
    ((t.sqOf e.fn e.sq).map Sq.head) = some ((q.head + 1) % max 1 q.size) ∧ postsStatus s t e.fn e.sq e.cid q.cq st ∧
      keepsBut [.buckets, .cmds, .cpls, .ctls, .sqs] s t := by
  have arrived := State.probeFetch_eq (s := s) (q := q) (e := e) (op := op) (ad := ad) (rs := rs)
  rw [bad] at arrived
  have w := (State.fetchOne_spec (s := s) (q := q) (e := e) (b := s.transferBytes e op)).2
  have free := State.fetchOne_free (b := s.transferBytes e op) (q := q) hf
  generalize s.fetchOne e.fn e.sq (s.transferBytes e op) q = u at arrived w free
  obtain ⟨⟨queue, -⟩, ⟨d, posted⟩, ⟨c, found, phase, -, -⟩, -, we⟩ := State.enter_arrived (q := s.fetched e q)
    (c := u.arriving (s.fetched e q) e op (kindOf op e.fua (ioShape e op ad rs).1) (u.transferBytes e op) (ioShape e op ad rs).2)
    free ⟨rfl, rfl, rfl, rfl, rfl⟩ (State.validate_counts_nothing bad)
  rw [← arrived] at queue posted found we
  have eq : s.probe e op ad rs last = s.probeFetch e op ad rs q := (State.probe_eq hq hm h found).trans (if_pos (by rw [phase]; decide))
  rw [eq]
  intro t
  refine ⟨by rw [show t.sqOf e.fn e.sq = _ from queue]; rfl, ⟨d, posted.of_cpls (w.keeps .cpls (by decide))⟩, ((we.mono (by decide)).trans (w.mono (by decide))).keeps⟩

/-- A write's head entry with the journal tail full is refused: unfetched before the end of its hold limit, fetched at it. -/
theorem State.probe_full {last : Bool} (hq : s.sqOf e.fn e.sq = some q) (hf : s.findCmd e.fn e.sq e.cid = none) (hm : s.pwr.mode ≠ .ready)
    (h : (!s.probeable e 1 q || !(last || s.probeDue q)) = false) (ok : s.validate e 1 false [] = none) (full : s.atl.jrnlFull = true)
    (free : s.nsHeld e.nsid = false) : ∃ c t, Within [.buckets, .cmds, .sqs] t s ∧ t.findCmd e.fn e.sq e.cid = some c ∧ c.phase ≠ .posting ∧
      (t.sqOf e.fn e.sq) = some (s.fetched e q).arrived ∧
      s.probe e 1 ad rs last = if last then t.refuseCmd c never true
        else s.setSq e.fn e.sq (some { q with headSince := some (q.headSince.getD s.now), probing := true, probed := some s.now }) := by
  have shape : ioShape e 1 ad rs = (false, []) := rfl
  have arrived := State.probeFetch_eq (s := s) (q := q) (e := e) (op := 1) (ad := ad) (rs := rs)
  rw [shape, ok] at arrived
  have w := (State.fetchOne_spec (s := s) (q := q) (e := e) (b := s.transferBytes e 1)).2
  have none := State.fetchOne_free (b := s.transferBytes e 1) (q := q) hf
  generalize s.fetchOne e.fn e.sq (s.transferBytes e 1) q = u at arrived w none
  let v := u.setSq e.fn e.sq (some (s.fetched e q).arrived)
  let c : Cmd := { u.arriving (s.fetched e q) e 1 (kindOf 1 e.fua false) (u.transferBytes e 1) [] with suspended := v.nsHeld e.nsid }
  let t : State := { v with cmds := v.cmds ++ [c] }
  have wt : Within [.buckets, .cmds, .sqs] t s :=
    .trans (.step (by decide) (.cmds v _) (State.setSq_within (by decide))) (w.mono (by decide))
  have atl : t.atl = s.atl := wt.keeps .atl (by decide)
  have found : t.findCmd e.fn e.sq e.cid = some c := State.findCmd_append (s := v) (c := c) none
  have ns : (t.nsOf e.nsid).isSome = true := by
    rw [show t.nsOf e.nsid = s.nsOf e.nsid by rw [State.nsOf, State.nsOf, atl]]
    by_contra k
    rw [Option.not_isSome_iff_eq_none] at k
    unfold State.validate at ok
    rw [k] at ok
    split at ok
    · simp at ok
    · split at ok <;> simp at ok
  have refused : t.admission c = .refuse never := State.admission_full (c := c) ns rfl
    (by rw [State.nsHeld, atl]; exact free) rfl (by rw [atl]; exact full)
  have eq := State.probe_eq (last := last) (ad := ad) (rs := rs) hq hm h (c := c) (by rw [arrived]; exact found)
  rw [if_neg (fun k => k (rfl : c.phase = .offered)), show s.probeFetch e 1 ad rs q = t from arrived, refused] at eq
  exact ⟨c, t, wt, found, nofun, (State.sqOf_setSq (s := u) : v.sqOf e.fn e.sq = _), eq⟩

/-- Settles O22: the admission's verdict on a Flush, with admission closed and with the journal full is the one case of it that applies; a probe is that
verdict on the head entry, arrived. -/
theorem admissionAcceptsRefusesOrHolds : Obligations.AdmissionAcceptsRefusesOrHolds := by
  unfold Obligations.AdmissionAcceptsRefusesOrHolds
  constructor
  · intro s fn sq cid c q hc hp hr hq
    obtain ⟨rfl, rfl, rfl⟩ := State.findCmd_is hc
    have decided : exec (.plotAdmit c.fn c.sq c.cid) s = .next (s.decide_ c false) := by
      show execPlotAdmit c.fn c.sq c.cid s = _
      unfold execPlotAdmit
      rw [hc]
      exact if_pos ⟨hp, hr⟩
    refine ⟨fun n hop hn ho hh hs hu ht hw hd ha => ⟨_, decided, ?_⟩, fun ho ha => ⟨_, decided, State.decide_closed hc (by rw [hp]; decide) hq ho ha⟩⟩
    exact State.decide_flush hc hq hop ht hw ha (State.admission_flush hn hop ho hh hs hu ha hd)
  · intro s e op ad rs q hq free mode
    refine ⟨fun off => ⟨?_, ?_⟩, fun due => ?_, fun on st bad => ⟨fun due => ⟨_, rfl, ?_⟩, ⟨_, rfl, ?_⟩⟩, fun on ok full held => ⟨fun due => ?_, ?_⟩⟩
    · exact congrArg _ (State.probe_idle hq (by rw [off]; rfl))
    · exact congrArg _ (State.probe_idle hq (by rw [off]; rfl))
    · exact congrArg _ (State.probe_idle hq (by rw [due, Bool.false_or, Bool.not_false, Bool.or_true]))
    · exact State.probe_bad hq free mode (by rw [on, due]; rfl) bad
    · exact State.probe_bad hq free mode (by rw [on]; rfl) bad
    · obtain ⟨_, _, _, _, _, _, eq⟩ := State.probe_full (ad := ad) (rs := rs) (last := false) hq free mode (by rw [on, due]; rfl) ok full held
      rw [if_neg Bool.false_ne_true] at eq
      exact ⟨_, (congrArg Host.Outcome.next eq : execHoldProbe e 1 ad rs s = _), State.sqOf_setSq (s := s), State.setSq_otherSqs (s := s),
        (State.setSq_within (t := s) (by decide)).keeps⟩
    · obtain ⟨c, t, w, found, phase, queue, eq⟩ := State.probe_full (ad := ad) (rs := rs) (last := true) hq free mode (by rw [on]; rfl) ok full held
      rw [if_pos rfl] at eq
      obtain ⟨posted, -, -, we⟩ := State.refuseCmd_spec found phase queue true
      refine ⟨_, (congrArg Host.Outcome.next eq : execHoldLimitExpiry e 1 ad rs s = _), ?_, posted.of_cpls (w.keeps .cpls (by decide)),
        ((we.mono (by decide)).trans (w.mono (by decide))).keeps⟩
      beta_reduce
      rw [we.sqOf (by decide), queue]
      rfl

end

end Sys2Proof.Machine
end

section
/-! Doorbells (O23). -/

namespace Sys2Proof.Machine

section

/-- Function 0's controller is ready, with no event request, and masks the event of an invalid doorbell value. -/
def doorbellMasked : State :=
  { State.reset with ctls := [(0, { Ctl.reset with en := true, rdy := true, aerMasked := [evInvalidDoorbellValue] })] }

/-- Refutes O23: the two doorbell events are of one type, so while the one is masked the other is not kept (R391); the statement asks only that the
event itself is neither masked nor waiting. -/
theorem not_queuesAndCompletionEntriesMove : ¬ Obligations.QueuesAndCompletionEntriesMove := by
  unfold Obligations.QueuesAndCompletionEntriesMove
  intro h
  obtain ⟨doorbell, -⟩ := h doorbellMasked 0 1 (by decide) (by decide)
  obtain ⟨-, -, unknown⟩ := doorbell (by decide)
  obtain ⟨t, eq, pending, -⟩ := unknown 0 (by decide) (by decide) (by decide) (by decide) (by decide)
  obtain rfl : _ = t := Host.Outcome.next.inj eq
  exact absurd pending (by decide)

end

end Sys2Proof.Machine
end

section
/-! Updates of the map. -/

namespace Sys2Proof.Machine

section
variable {s t u : State} {k e key : ℕ} {l : List ℕ}

/-! ### What a segment's engine depends on -/

/-- The part of a state that the engines and the directory act on: all else as at reset. -/
def State.dirView (s : State) : State :=
  { State.reset with
    now := s.now, flt := s.flt
    atl := { Atlas.reset with
      eng := s.atl.eng, dir := s.atl.dir, snoops := s.atl.snoops, writes := s.atl.writes, recovering := s.atl.recovering
      queued := s.atl.queued, jseq := s.atl.jseq, ent := s.atl.ent, seg := s.atl.seg } }

/-- The cached segments that may leave an engine (R119). -/
def State.evictable (s : State) (e : ℕ) : List Held :=
  (s.atlEng e).held.filter fun h => decide (s.dirOf h.seg = .held e) && (s.snoopOf h.seg).isNone && (s.wbPending h.seg).isNone

/-- The engine without a segment in its cache. -/
def State.dropHeld (s : State) (e k : ℕ) : State :=
  s.setAtlEng e { s.atlEng e with held := (s.atlEng e).held.filter fun x => decide (x.seg ≠ k) }

theorem State.makeRoom_eq : s.makeRoom e = if s.grantedTo e < 128 then some s else
    match (s.evictable e).find? fun h => !h.dirty with
    | some h => some ((s.dropHeld e h.seg).setDir h.seg .uncached)
    | none => match (s.evictable e).head? with
      | none => none
      | some h => if 4 ≤ (s.atlEng e).bufs.length then none else
        some ((((s.dropHeld e h.seg).setAtlEng e ⟨(s.atlEng e).held.filter fun x => decide (x.seg ≠ h.seg),
          (s.atlEng e).bufs ++ [⟨h.seg, true, false, false⟩]⟩).startWb e h.seg).setDir h.seg (.evicting e)) := rfl

theorem State.makeRoom_dirView : s.dirView.makeRoom e = (s.makeRoom e).map State.dirView := by
  rw [State.makeRoom_eq, State.makeRoom_eq, show s.dirView.grantedTo e = s.grantedTo e from rfl, show s.dirView.evictable e = s.evictable e from rfl,
    show s.dirView.atlEng e = s.atlEng e from rfl]
  split
  · rfl
  · split
    · rfl
    · split
      · rfl
      · split <;> rfl

/-- What an engine that obtains a segment makes of itself and the directory. -/
def State.take (s : State) (k e : ℕ) (dirty : Bool) : State :=
  (s.setAtlEng e { s.atlEng e with held := (s.atlEng e).held ++ [⟨k, dirty, s.now⟩] }).setDir k (.held e)

theorem State.obtain_dirView : s.dirView.obtain k e = (s.obtain k e).dirView := by
  have eq : ∀ s : State, s.obtain k e = if s.fenced 0x040 e ∨ (s.snoopOf k).isSome ∨ s.atl.recovering.contains k then s else
    match s.dirOf k with
    | .held h => if h = e then (if (s.atlEng e).held.any (fun x => decide (x.seg = k)) then s else s.take k e false) else
      match s.makeRoom e with
      | none => s
      | some s => (s.dropHeld h k).take k e ((s.atlEng h).held.any fun x => decide (x.seg = k) && x.dirty)
    | .evicting _ => match s.makeRoom e with
      | none => s
      | some s => s.take k e true
    | .uncached => match s.makeRoom e with
      | none => s
      | some s => s.take k e false := fun _ => rfl
  rw [eq, eq, State.makeRoom_dirView, show s.dirView.fenced 0x040 e = s.fenced 0x040 e from rfl, show s.dirView.snoopOf k = s.snoopOf k from rfl,
    show s.dirView.atl.recovering = s.atl.recovering from rfl, show s.dirView.dirOf k = s.dirOf k from rfl, show s.dirView.atlEng e = s.atlEng e from rfl]
  split
  · rfl
  · split
    · split
      · split <;> rfl
      · cases s.makeRoom e <;> rfl
    · cases s.makeRoom e <;> rfl
    · cases s.makeRoom e <;> rfl

theorem State.obtainAll_dirView {e : ℕ} (l : List ℕ) (s : State) :
    (l.foldl (fun (s : State) k => s.obtain k e) s).dirView = l.foldl (fun (s : State) k => s.obtain k e) s.dirView := by
  induction l generalizing s with
  | nil => rfl
  | cons k l ih => rw [List.foldl_cons, List.foldl_cons, ih, State.obtain_dirView]

/-- Whether an update can be applied depends on the directory, the engines, the steering and what waits alone. -/
theorem State.readySegs_isSome_congr (h : s.dirView = t.dirView) (hr : ∀ i, s.rg .ATL_STEER i = t.rg .ATL_STEER i) :
    (s.readySegs l).isSome = (t.readySegs l).isSome := by
  have waits : s.segWaits = t.segWaits := (congrArg State.segWaits h : s.dirView.segWaits = t.dirView.segWaits)
  have steer : s.steer = t.steer := funext fun k => by
    unfold State.steer
    dsimp only
    rw [hr]
  have holds : ∀ (m : List ℕ) (e : ℕ), (m.foldl (fun (s : State) k => s.obtain k e) s).holds = (m.foldl (fun (s : State) k => s.obtain k e) t).holds :=
    fun m e => (congrArg State.holds ((State.obtainAll_dirView m s).trans ((congrArg (fun v => m.foldl (fun (s : State) k => s.obtain k e) v) h).trans (State.obtainAll_dirView m t).symm)) :
      (m.foldl (fun (s : State) k => s.obtain k e) s).dirView.holds = (m.foldl (fun (s : State) k => s.obtain k e) t).dirView.holds)
  unfold State.readySegs
  rw [waits, steer]
  dsimp only
  rw [holds]
  split
  · rfl
  · split <;> rfl

theorem State.readySegs_sameMap (h : s.readySegs l = some t) : sameMap s t := by
  unfold State.readySegs at h
  split at h
  · simp at h
  · dsimp only at h
    split at h
    · obtain rfl := Option.some.inj h
      exact .foldl (fun s k => State.obtain_sameMap s k _) _ s
    · simp at h

/-! ### What an update leaves of the map -/

/-- The map without what an update may touch: entries and descriptors, staging and assembly slots, engines and directory, pins, the band
records' tail. What is left: the journal, the updates that wait, the poison table, the counters. -/
def Atlas.queueView (a : Atlas) : Atlas :=
  { a with
    ent := [], seg := [], copy := [], stage := [], bandTail := [], eng := [], dir := [], writes := [], pins := [], asm := [], poisonRes := 0 }

def sameQueue (s t : State) : Prop := t.atl.queueView = s.atl.queueView

theorem sameQueue.of_eq (h : t.atl = s.atl) : sameQueue s t := congrArg Atlas.queueView h
theorem sameQueue.trans (h : sameQueue s t) (k : sameQueue t u) : sameQueue s u := Eq.trans k h
theorem sameQueue.jseq (h : sameQueue s t) : t.atl.jseq = s.atl.jseq :=
  (congrArg Atlas.jseq h : t.atl.queueView.jseq = s.atl.queueView.jseq)
theorem sameQueue.nextStage (h : sameQueue s t) : t.atl.nextStage = s.atl.nextStage :=
  (congrArg Atlas.nextStage h : t.atl.queueView.nextStage = s.atl.queueView.nextStage)
theorem sameQueue.queued (h : sameQueue s t) : t.atl.queued = s.atl.queued :=
  (congrArg Atlas.queued h : t.atl.queueView.queued = s.atl.queueView.queued)
theorem sameQueue.poison (h : sameQueue s t) : t.atl.poison = s.atl.poison :=
  (congrArg Atlas.poison h : t.atl.queueView.poison = s.atl.queueView.poison)

/-- No entry of the map and no segment descriptor has changed. -/
structure sameEnts (s t : State) : Prop where
  queue : sameQueue s t
  ent : t.atl.ent = s.atl.ent
  seg : t.atl.seg = s.atl.seg

theorem sameEnts.of_eq (h : t.atl = s.atl) : sameEnts s t := ⟨.of_eq h, by rw [h], by rw [h]⟩
theorem sameEnts.of_within {L : List Part} (h : Within L t s) (ha : .atl ∉ L) : sameEnts s t := .of_eq (h.keeps .atl ha)
theorem sameEnts.trans (h : sameEnts s t) (k : sameEnts t u) : sameEnts s u := ⟨h.queue.trans k.queue, k.ent.trans h.ent, k.seg.trans h.seg⟩

theorem sameMap.ents (h : sameMap s t) : sameEnts s t := by
  obtain ⟨a, b, c, rfl⟩ := h
  exact ⟨Eq.refl _, rfl, rfl⟩

theorem State.setStage_ents {a : ℕ} {x : Option Stage} : sameEnts s (s.setStage a x) := ⟨Eq.refl _, rfl, rfl⟩

theorem State.freeSlot_ents {a : ℕ} : sameEnts s (s.freeSlot a) := by
  unfold State.freeSlot
  split
  · split
    · exact State.setStage_ents.trans (.of_eq rfl)
    · exact .of_eq rfl
  · exact .of_eq rfl

theorem State.supersede_ents {a : ℕ} : sameEnts s (s.supersede a) := by
  unfold State.supersede
  split
  · exact State.setStage_ents.trans State.freeSlot_ents
  · exact .of_eq rfl

theorem State.moveBand_ents {b : ℕ} {x : Band} : sameEnts s (s.moveBand b x) := ⟨Eq.refl _, rfl, rfl⟩

theorem State.drainIf_ents {b : ℕ} : sameEnts s (s.drainIf b) := by
  unfold State.drainIf
  extract_lets x
  split
  · have moved : sameEnts s (s.moveBand b { s.bandRec b with st := .drained }) := State.moveBand_ents
    exact moved.trans (.of_eq rfl)
  · exact .of_eq rfl

theorem State.validDown_ents {a n : ℕ} : sameEnts s (s.validDown a n) := by
  unfold State.validDown
  extract_lets b x
  have set : sameEnts s (s.setBand b { x with valid := x.valid - n }) := .of_eq rfl
  exact set.trans State.drainIf_ents

theorem State.leaveOld_ents {old : Ent} : sameEnts s (s.leaveOld key old) := by
  unfold State.leaveOld
  split
  · exact State.validDown_ents
  · exact State.supersede_ents
  · exact .of_eq rfl
  · exact .of_eq rfl

theorem State.markDirty_ents : sameEnts s (s.markDirty k) := by
  unfold State.markDirty
  split
  · exact ⟨Eq.refl _, rfl, rfl⟩
  · exact .of_eq rfl

/-! ### The sweep of a segment and the update of an entry -/

theorem State.rawEnt_setEnt {x : Ent} {j : ℕ} : (s.setEnt key x).rawEnt j = if j = key then x else s.rawEnt j := by
  split
  · next h => rw [h]; exact tabGet_set_self ..
  · next h => exact tabGet_set_ne _ _ _ h

theorem sameEnts.rawEnt (h : sameEnts s t) {j : ℕ} : t.rawEnt j = s.rawEnt j := by rw [State.rawEnt, State.rawEnt, h.ent]
theorem sameEnts.segOf (h : sameEnts s t) {j : ℕ} : t.segOf j = s.segOf j := by rw [State.segOf, State.segOf, h.seg]
theorem sameEnts.lookup (h : sameEnts s t) {j : ℕ} : t.lookup j = s.lookup j := by rw [State.lookup, State.lookup, h.rawEnt, h.segOf]

/-- The entries of a list are unmapped one after the other, each old value left (R139). -/
theorem State.unmapAll_spec (l : List (ℕ × Ent)) (s : State) :
    let t := l.foldl (fun (s : State) e => (s.leaveOld e.1 e.2).setEnt e.1 Ent.reset) s
    sameQueue s t ∧ t.atl.seg = s.atl.seg ∧ ∀ j, t.rawEnt j = if j ∈ l.map Prod.fst then Ent.reset else s.rawEnt j := by
  induction l generalizing s with
  | nil => exact ⟨.of_eq rfl, rfl, fun j => by simp⟩
  | cons e l ih =>
    obtain ⟨queue, seg, ents⟩ := ih ((s.leaveOld e.1 e.2).setEnt e.1 Ent.reset)
    have old : sameEnts s (s.leaveOld e.1 e.2) := State.leaveOld_ents
    refine ⟨old.queue.trans (sameQueue.trans (Eq.refl _) queue), seg.trans old.seg, fun j => (ents j).trans ?_⟩
    simp only [State.rawEnt_setEnt, old.rawEnt, List.map_cons, List.mem_cons]
    by_cases h1 : j = e.1 <;> by_cases h2 : j ∈ l.map Prod.fst <;> simp [h1, h2]

theorem State.mem_segEnts {j : ℕ} (h : s.rawEnt j ≠ Ent.reset) (hk : segOfIu j = k) :
    j ∈ (s.atl.ent.filter fun e => decide (segOfIu e.1 = k)).map Prod.fst := by
  have := mem_of_tabGet (d := fun _ => Ent.reset) (m := s.atl.ent) (v := j) h
  exact List.mem_map.mpr ⟨_, List.mem_filter.mpr ⟨this, decide_eq_true hk⟩, rfl⟩

/-- A sweep of a DISCARDED segment changes no lookup (R139). -/
theorem State.sweepSeg_spec (h : (s.segOf k).discarded = true) : sameQueue s (s.sweepSeg k) ∧ ((s.sweepSeg k).segOf k).discarded = false ∧
    ∀ j, (s.sweepSeg k).lookup j = s.lookup j := by
  unfold State.sweepSeg
  extract_lets mine s1 src s2
  obtain ⟨queue, seg, ents⟩ := State.unmapAll_spec mine s
  have h2 : ∀ j, s2.segOf j = if j = k then { s1.segOf k with discarded := false, wbSeq := s1.atl.jseq } else s.segOf j := fun j => by
    split
    · next e => rw [e]; exact tabGet_set_self ..
    · next e => exact (tabGet_set_ne _ _ _ e).trans (congrArg (fun m => tabGet _ m j) seg)
  refine ⟨queue.trans (sameQueue.trans (t := s2) (Eq.refl _) (Eq.refl _)), congrArg Seg.discarded ((h2 k).trans (if_pos rfl)), fun j => ?_⟩
  show s2.lookup j = _
  have raw : s2.rawEnt j = if j ∈ mine.map Prod.fst then Ent.reset else s.rawEnt j := ents j
  unfold State.lookup
  rw [h2, raw]
  by_cases hj : segOfIu j = k
  · rw [if_pos hj, hj, h, if_pos rfl]
    refine (if_neg Bool.false_ne_true).trans ?_
    by_cases hr : s.rawEnt j = Ent.reset
    · rw [hr, ite_self]
    · rw [if_pos (State.mem_segEnts hr hj)]
  · have out : j ∉ mine.map Prod.fst := fun m => by
      obtain ⟨e, he, rfl⟩ := List.mem_map.mp m
      exact hj (of_decide_eq_true (List.mem_filter.mp he).2)
    rw [if_neg hj, if_neg out]

/-- An update put in place: the IU reads as the new entry, every other one as before. -/
theorem State.putEnt_spec {x : Ent} : sameQueue s (s.putEnt key x) ∧ (s.putEnt key x).rawEnt key = x ∧
    ∀ j, (s.putEnt key x).lookup j = if j = key then x else s.lookup j := by
  unfold State.putEnt
  extract_lets k s1 s2
  have swept : sameQueue s s1 ∧ (s1.segOf k).discarded = false ∧ ∀ j, s1.lookup j = s.lookup j := by
    unfold s1
    split
    · next h => exact State.sweepSeg_spec h
    · next h => exact ⟨.of_eq rfl, Bool.eq_false_iff.mpr h, fun _ => rfl⟩
  obtain ⟨queue, whole, look⟩ := swept
  have old : sameEnts s1 s2 := State.leaveOld_ents
  have mark : sameEnts (s2.setEnt key x) ((s2.setEnt key x).markDirty k) := State.markDirty_ents
  refine ⟨queue.trans (old.queue.trans (sameQueue.trans (Eq.refl _) mark.queue)), ?_, fun j => ?_⟩
  · rw [mark.rawEnt, State.rawEnt_setEnt, if_pos rfl]
  · rw [mark.lookup, ← look]
    unfold State.lookup
    rw [State.rawEnt_setEnt, show (s2.setEnt key x).segOf = s2.segOf from rfl, old.segOf, old.rawEnt]
    by_cases hj : j = key
    · rw [hj, if_pos rfl, if_pos rfl, whole, if_neg Bool.false_ne_true]
    · rw [if_neg hj, if_neg hj]

/-! ### The journal and an update of one entry -/

/-- One record in front of the tail, and nothing else of the map (R144). -/
theorem State.journal_atl {kind pool iu arg : ℕ} {items : List (ℕ × Ent × ℕ)} :
    ∃ bytes full, (s.journal kind pool iu arg items).atl = { s.atl with
      jseq := (s.atl.jseq + 1) % 2 ^ 48, tail := ⟨(s.atl.jseq + 1) % 2 ^ 48, kind, pool, iu, arg, items, s.now⟩ :: s.atl.tail,
      tailBytes := bytes, jrnlFull := full } := by
  unfold State.journal
  extract_lets q b r n fills src s1
  have w : Within (.plt :: .reg .ATL_JRNL_WM :: eventParts) ((if fills = true then s1.oweMap (2 ^ 20) else s1).journalMark b (b + n)) s1 :=
    (State.journalMark_within (by decide)).trans (.ite (State.oweMap_within (by decide)) .rfl)
  exact ⟨_, _, w.keeps .atl (by decide)⟩

/-- The map after the update of one entry and its record. -/
structure swapped (s t : State) (key : ℕ) (x : Ent) : Prop where
  raw : t.rawEnt key = x
  lookup : ∀ j, t.lookup j = if j = key then x else s.lookup j
  jseq : t.atl.jseq = (s.atl.jseq + 1) % 2 ^ 48
  nextStage : t.atl.nextStage = s.atl.nextStage
  queued : t.atl.queued = s.atl.queued
  poison : t.atl.poison = s.atl.poison

theorem swapped.of_put {x : Ent} {kind pool iu arg : ℕ} {items : List (ℕ × Ent × ℕ)} (q : sameQueue s t) (r : t.rawEnt key = x)
    (h : ∀ j, t.lookup j = if j = key then x else s.lookup j) : swapped s (t.journal kind pool iu arg items) key x := by
  obtain ⟨_, _, eq⟩ := State.journal_atl (s := t) (kind := kind) (pool := pool) (iu := iu) (arg := arg) (items := items)
  generalize t.journal kind pool iu arg items = u at eq
  have raw : ∀ j, u.rawEnt j = t.rawEnt j := fun j => by rw [State.rawEnt, State.rawEnt, eq]
  have look : ∀ j, u.lookup j = t.lookup j := fun j => by rw [State.lookup, State.lookup, raw, State.segOf, State.segOf, eq]
  refine ⟨(raw key).trans r, fun j => (look j).trans (h j), ?_, ?_, ?_, ?_⟩ <;> rw [eq]
  · exact congrArg (fun n => (n + 1) % 2 ^ 48) q.jseq
  · exact q.nextStage
  · exact q.queued
  · exact q.poison

theorem swapped.of_ents {x : Ent} (h : sameEnts s t) (k : swapped t u key x) : swapped s u key x :=
  ⟨k.raw, fun j => by rw [k.lookup, h.lookup], by rw [k.jseq, h.queue.jseq], k.nextStage.trans h.queue.nextStage, k.queued.trans h.queue.queued,
    k.poison.trans h.queue.poison⟩

theorem State.swapAll_one {x : Ent} {ty ep : ℕ} : s.swapAll ty [(key, x, ep)] = match s.readySegs [segOfIu key] with
    | some t => t.putAll ty [(key, x, ep)]
    | none => s.queueUpd ⟨0, key, ty, 0, [(key, x, ep)], 0⟩ := rfl

/-- An unconditional swap of one entry whose segment an engine can hold (R126, R143). -/
theorem State.swapOne_spec {x : Ent} {ty ep : ℕ} (h : (s.readySegs [segOfIu key]).isSome = true) :
    swapped s (s.swapAll ty [(key, x, ep)]) key x := by
  obtain ⟨t, ht⟩ := Option.isSome_iff_exists.mp h
  obtain ⟨queue, raw, look⟩ := State.putEnt_spec (s := t) (key := key) (x := x)
  refine .of_ents (State.readySegs_sameMap ht).ents ?_
  rw [State.swapAll_one, ht]
  show swapped t (t.putAll ty [(key, x, ep)]) key x
  unfold State.putAll
  dsimp only [List.foldl_cons, List.foldl_nil]
  split
  · exact .of_put queue raw look
  · exact .of_put queue raw look

/-- A swap of one entry whose segment no engine can hold waits. -/
theorem State.swapOne_waits {x : Ent} {ty ep : ℕ} (h : s.readySegs [segOfIu key] = none) :
    s.swapAll ty [(key, x, ep)] = s.queueUpd ⟨0, key, ty, 0, [(key, x, ep)], 0⟩ := by
  rw [State.swapAll_one, h]

end

end Sys2Proof.Machine
end

section
/-! Host reads and staging (O24). -/

namespace Sys2Proof.Machine

section
variable {s t : State} {fn sq cid iu : ℕ} {c : Cmd} {n : Ns} {q : Sq}

/-! Host reads -/

theorem State.atsDone_of_none (h : (s.fnOf fn).atsInval = []) : s.atsDone fn = s := by
  unfold State.atsDone
  extract_lets x
  exact if_pos (.inl (by rw [h]; rfl))

theorem State.findCmd_mem (h : s.findCmd fn sq cid = some c) : c ∈ s.cmds := List.mem_of_find?_eq_some h

theorem State.findCmd_set (h : s.findCmd fn sq cid = some c) {k : Cmd} (hk : k.fn = c.fn ∧ k.sq = c.sq ∧ k.cid = c.cid) :
    (s.mapCmd fn sq cid fun _ => k).findCmd fn sq cid = some k := by
  obtain ⟨rfl, rfl, rfl⟩ := State.findCmd_is h
  exact State.findCmd_map h fun _ _ => decide_eq_true hk

theorem Cmd.readEnds_same {n : ℕ} : (c.readEnds n).fn = c.fn ∧ (c.readEnds n).sq = c.sq ∧ (c.readEnds n).cid = c.cid ∧ (c.readEnds n).phase = c.phase := by
  unfold Cmd.readEnds Cmd.closeWait
  split <;> exact ⟨rfl, rfl, rfl, rfl⟩

theorem Within.findCmd {L : List Part} (h : Within L t s) (hc : .cmds ∉ L) : t.findCmd fn sq cid = s.findCmd fn sq cid := by
  rw [State.findCmd, State.findCmd, show t.cmds = s.cmds from h.keeps .cmds hc]

theorem State.wakeWaiters_idle (h : ∀ k ∈ s.cmds, k.waitsFor = []) : s.wakeWaiters = s := by
  unfold State.wakeWaiters
  generalize s.cmds = l at h
  induction l with
  | nil => rfl
  | cons k l ih =>
    rw [List.foldl_cons, if_neg fun w => w.2 (h k List.mem_cons_self)]
    exact ih fun k hk => h k (List.mem_cons_of_mem _ hk)

/-! What a release sends comes before what was sent -/

theorem out_foldl {α : Type} {step : State → α → State} (h : ∀ s a, s.out <:+ (step s a).out) (l : List α) (s : State) : s.out <:+ (l.foldl step s).out := by
  induction l generalizing s with
  | nil => exact List.suffix_refl _
  | cons a l ih => exact (h s a).trans (ih (step s a))

theorem State.releaseExtra_out {b : Booking} : s.out <:+ (s.releaseExtra b).out := by
  unfold State.releaseExtra
  split
  · exact List.suffix_refl _
  · split
    · split
      · unfold State.setTPool
        extract_lets was l src u
        split
        · exact State.event_out (s := u.bump F.TIL_POOL_WM_COUNT b.idx 1)
        · exact List.suffix_refl _
      · exact List.suffix_refl _
    · exact List.suffix_refl _

theorem State.unbook_out {bs : List Booking} : s.out <:+ (s.unbook bs).out := by
  unfold State.unbook
  extract_lets u mark
  exact out_foldl (fun _ _ => State.releaseExtra_out) bs s

theorem State.dropRmw_out {bs : List Booking} : s.out <:+ (s.dropRmw iu bs).out := by
  unfold State.dropRmw
  extract_lets keep
  refine List.IsSuffix.trans ?_ State.unbook_out
  exact List.suffix_refl s.out

theorem State.release_out : s.out <:+ (s.release c).out := by
  unfold State.release
  extract_lets tiles all rest s1 s2
  have h1 : Within [.atl, .lanes, .plt, .pwr] s1 s :=
    (State.endOps_within (by decide)).trans ((State.withdraw_within (by decide)).trans (State.slotReadsEnd_within (by decide)))
  have h2 : s1.out <:+ s2.out := State.unbook_out.trans
    (out_foldl (fun _ _ => State.dropRmw_out) c.rmw _)
  rw [show s1.out = s.out from h1.keeps .out (by decide)] at h2
  exact h2

theorem State.atsDone_out : s.out <:+ (s.atsDone fn).out := by
  unfold State.atsDone
  extract_lets x
  split
  · exact List.suffix_refl _
  · exact out_foldl (fun _ _ => List.suffix_cons _ _) _ (s.setFn fn _)

/-! A read that is lost to its command -/

/-- A command whose bookings and plans are gone. -/
def Cmd.emptied (c : Cmd) : Cmd := { c with bookings := [], slotReads := [], pinned := [], stageLeft := 0, toStage := [] }

theorem State.dataError_spec (h : s.findCmd c.fn c.sq c.cid = some c) (hp : c.phase ≠ .posting) (hq : s.sqOf c.fn c.sq = some q) :
    postsStatus s (s.dataError c) c.fn c.sq c.cid q.cq Sc.dataTransferError ∧ s.out <:+ (s.dataError c).out ∧
      (∃ k, (s.dataError c).findCmd c.fn c.sq c.cid = some k ∧ k.phase = .posting ∧ k.bookings = []) ∧
      Within (releaseParts ++ [.cmds, .cpls, .ctls]) (s.dataError c) s := by
  let u := s.release c
  let v := u.mapCmd c.fn c.sq c.cid Cmd.emptied
  have wu : Within releaseParts u s := State.release_within fun _ h => h
  have wv : Within (releaseParts ++ [.cmds]) v s := (State.mapCmd_within (by decide)).trans (wu.mono (by decide))
  have found : v.findCmd c.fn c.sq c.cid = some c.emptied :=
    State.findCmd_map ((wu.findCmd (by decide)).trans h) fun k hk => hk
  obtain ⟨posted, now, -, w⟩ := State.endCmd_spec (s := v) (st := Sc.dataTransferError) found hp ((wv.sqOf (by decide)).trans hq) (by decide)
  have out : (v.endCmd c.fn c.sq c.cid Sc.dataTransferError).out = u.out := w.keeps .out (by decide)
  refine ⟨⟨_, posts.of_cpls posted (wu.keeps .cpls (by decide))⟩, ?_, ⟨_, now, rfl, rfl⟩, (w.mono (by decide)).trans (wv.mono (by decide))⟩
  show s.out <:+ (v.endCmd c.fn c.sq c.cid Sc.dataTransferError).out
  rw [out]
  exact State.release_out

/-! A read of an entry that fails -/

theorem State.sqReadFail_first (hq : s.sqOf fn sq = some q) (hf : q.fetching ≠ []) (hs : q.stalled = false) (hr : q.retried = false) :
    s.sqReadFail fn sq = s.setSq fn sq (some { q with retried := true }) := by
  unfold State.sqReadFail
  rw [hq]
  dsimp only
  rw [if_neg (by simp [hf, hs]), hr]
  rfl

theorem State.sqReadFail_second (hq : s.sqOf fn sq = some q) (hf : q.fetching ≠ []) (hs : q.stalled = false) (hr : q.retried = true) :
    s.sqReadFail fn sq = ((s.setSq fn sq (some { q with stalled := true })).event F.HST_FN_EVENTS_SQ_STALLED fn 0).record
      0x010 (fn / 128) 0 0x4361 (sq + fn * 2 ^ 16) := by
  unfold State.sqReadFail
  rw [hq]
  dsimp only
  rw [if_neg (by simp [hf, hs]), hr]
  rfl

/-! Staging -/

/-- The state after one whole IU has got its staging slot and lost its poison marks. -/
def State.slotted (s : State) (n : Ns) (c : Cmd) (iu : ℕ) : State :=
  (s.newSlot c.fn iu (((s.poolOf n.pool).map Pool.iuBytes).getD 16384) c.by_).2.setPoison iu 0

theorem State.stageIu_whole {mask j : ℕ} (hm : mask = s.fullMask n) (hop : c.op ≠ 4) (ha : s.asmOf iu = none) :
    s.stageIu n c iu mask j = (s.slotted n c iu, [s.atl.nextStage], [(iu, ⟨.staged, s.atl.nextStage, 0⟩, c.dataEpoch j)]) := by
  unfold State.stageIu
  extract_lets full bytes marks present s1 r
  rw [if_pos ⟨hm, hop⟩]
  have h1 : s1 = s := by
    unfold s1
    rw [ha]
  unfold r
  rw [h1]
  rfl


/-- The entry of a whole IU that one host staging writes. -/
def Cmd.stagedItem (c : Cmd) (s : State) (n : Ns) (iu : ℕ) : ℕ × Ent × ℕ := (iu, ⟨.staged, s.atl.nextStage, 0⟩, c.dataEpoch (s.readOf n c iu))

theorem State.stageAll_whole {rest : List ℕ} (hk : c.kind = .write) (hop : c.op = 1) (hst : c.toStage = iu :: rest) (hrest : rest ≠ []) (hiu : iu ∉ rest)
    (hm : s.maskOfCmd n c iu = s.fullMask n) (ha : s.asmOf iu = none) :
    ∃ k : Cmd, (k.toStage = rest ∧ k.staged = c.staged ++ [s.atl.nextStage] ∧ k.phase = c.phase ∧ k.waitsFor = c.waitsFor ∧
      k.fn = c.fn ∧ k.sq = c.sq ∧ k.cid = c.cid) ∧
      s.stageAll n c [iu] = (((s.slotted n c iu).swapAll 1 [c.stagedItem s n iu]).mapCmd c.fn c.sq c.cid fun _ => k).wakeWaiters := by
  have kept : c.toStage.filter (fun k => !([iu].contains k)) = rest := by
    rw [hst]
    simp only [List.contains_cons, List.contains_nil, Bool.or_false, List.filter_cons, beq_self_eq_true, Bool.not_true, Bool.false_eq_true, if_false]
    exact List.filter_eq_self.mpr fun j hj => by simp [show j ≠ iu from fun e => hiu (e ▸ hj)]
  have whole := State.stageIu_whole (s := s) (c := c) (j := s.readOf n c iu) hm (by rw [hop]; decide) ha
  unfold State.stageAll
  dsimp only [List.foldl_cons, List.foldl_nil]
  rw [whole, kept, hk]
  dsimp only [List.nil_append]
  rw [if_neg (show ¬ rest.isEmpty = true from fun h => hrest (List.isEmpty_iff.mp h)),
    if_neg (fun h => hrest (List.isEmpty_iff.mp h.1)), if_neg (by decide), if_neg (by decide)]
  refine ⟨_, ?_, rfl⟩
  exact ⟨rfl, rfl, rfl, rfl, rfl, rfl, rfl⟩

theorem State.slotted_nextStage : s.atl.nextStage < (s.slotted n c iu).atl.nextStage :=
  Nat.lt_add_of_pos_right (Nat.lt_of_lt_of_le Nat.zero_lt_one (Nat.le_max_left ..))

end

/-- Settles O24: the host side of a command is one update of its record, a failed entry read one of its queue, and the staging of a whole
IU one unconditional swap of its map entry. -/
theorem hostReadsWaitsAndStaging : Obligations.HostReadsWaitsAndStaging := by
  unfold Obligations.HostReadsWaitsAndStaging
  intro s fn sq hfn hsq
  refine ⟨fun cid c hc => ⟨fun hp hr => ?_, fun hp hr hop ho => ?_, fun hw ha => ?_, fun held hw => ?_, fun err q hp hq => ?_⟩,
    fun q hq hf hs hr => ⟨fun err => ?_, fun hd => ?_⟩, fun q err hq hf hs hr => ?_, fun cid hd => ?_, fun cid page ha => ?_,
    fun cid iu rest c n hc hn hp hr hop hk hat hst hrest hiu hm has hready hrmw hwait => ?_⟩
  · let k : Cmd := { c with openReads := c.openReads - 1, readEpochs := c.readEpochs ++ [s.fnEpoch fn] }
    have hk : ({ c with readEpochs := c.readEpochs ++ [s.fnEpoch fn] } : Cmd).readEnds s.now = k := if_neg (by show ¬ c.openReads - 1 = 0; omega)
    have found : (s.mapCmd fn sq cid fun _ => k).findCmd fn sq cid = some k := State.findCmd_set hc ⟨rfl, rfl, rfl⟩
    have still : (s.mapCmd fn sq cid fun _ => k).atsDone fn = s.mapCmd fn sq cid fun _ => k :=
      State.atsDone_of_open (List.any_eq_true.mpr ⟨k, State.findCmd_mem found, by
        rw [decide_eq_true_eq]
        exact ⟨(State.findCmd_is hc).1, by show c.openReads - 1 ≠ 0; omega⟩⟩)
    refine ⟨s.mapCmd fn sq cid fun _ => k, ?_, found, (State.mapCmd_within (by decide)).keeps⟩
    show execHostReadCompletion fn sq cid s = _
    unfold execHostReadCompletion
    rw [hc]
    dsimp only
    rw [if_neg (by omega), hk, still, if_pos hp]
    exact congrArg Host.Outcome.next (if_pos (by show c.openReads - 1 ≠ 0; omega))
  · let k : Cmd := { c with openReads := 0, readEpochs := c.readEpochs ++ [s.fnEpoch fn], spans := c.waitSpans s.now, waitFrom := none, stopped := false }
    have hk : ({ c with readEpochs := c.readEpochs ++ [s.fnEpoch fn] } : Cmd).readEnds s.now = k := by
      unfold Cmd.readEnds
      rw [hr]
      rfl
    have found : (s.mapCmd fn sq cid fun _ => k).findCmd fn sq cid = some k := State.findCmd_set hc ⟨rfl, rfl, rfl⟩
    have w : Within [.out, .fns] ((s.mapCmd fn sq cid fun _ => k).atsDone fn) (s.mapCmd fn sq cid fun _ => k) := State.atsDone_within (by decide)
    refine ⟨(s.mapCmd fn sq cid fun _ => k).atsDone fn, ?_, (w.findCmd (by decide)).trans found, fun h => ?_,
      ((w.mono (by decide)).trans (State.mapCmd_within (by decide))).keeps⟩
    · show execHostReadCompletion fn sq cid s = _
      unfold execHostReadCompletion
      rw [hc]
      dsimp only
      rw [if_neg (by omega), hk, if_pos hp]
      refine congrArg Host.Outcome.next ?_
      unfold State.hostReady
      rw [if_neg (not_not.mpr rfl), if_neg (fun h => h.2 ho), if_neg (by rw [show k.op = 1 from hop]; decide)]
    · rw [State.atsDone_of_none (s := s.mapCmd fn sq cid fun _ => k) h]
      exact (State.mapCmd_within (by decide)).keeps
  · refine ⟨s.mapCmd fn sq cid fun c => { c with stopped := true }, ?_, State.findCmd_map hc, (State.mapCmd_within (by decide)).keeps⟩
    show execHostAllowanceExpiry fn sq cid s = _
    unfold execHostAllowanceExpiry
    rw [hc]
    exact if_pos ⟨hw, ha⟩
  · refine ⟨_, rfl, (State.findCmd_map hc).trans (congrArg some ?_), (State.mapCmd_within (by decide)).keeps⟩
    dsimp only
    rw [hw]
    rfl
  · obtain ⟨rfl, rfl, rfl⟩ := State.findCmd_is hc
    let k : Cmd := c.readEnds s.now
    obtain ⟨efn, esq, ecid, ephase⟩ : k.fn = c.fn ∧ k.sq = c.sq ∧ k.cid = c.cid ∧ k.phase = c.phase := Cmd.readEnds_same
    let u := s.aerErr c.fn 4
    let v := u.mapCmd c.fn c.sq c.cid fun _ => k
    have hu : u.findCmd c.fn c.sq c.cid = some c := hc
    have found : v.findCmd k.fn k.sq k.cid = some k := by
      rw [efn, esq, ecid]
      exact State.findCmd_set hu ⟨efn, esq, ecid⟩
    have wv : Within [.out, .fns, .cmds] v s := (State.mapCmd_within (by decide)).trans (State.aerErr_within (by decide))
    have hqv : v.sqOf k.fn k.sq = some q := by
      rw [efn, esq]
      exact hq
    obtain ⟨⟨d, posted⟩, out, ⟨x, now, phase, none⟩, w⟩ := State.dataError_spec found (ephase ▸ hp) hqv
    have wa : Within [.out, .fns] ((v.dataError k).atsDone c.fn) (v.dataError k) := State.atsDone_within (by decide)
    have eq : exec (.hostReadError c.fn c.sq (some c.cid) err) s = .next ((v.dataError k).atsDone c.fn) := by
      show Host.Outcome.next (u.hostReadLost c.fn c.sq c.cid) = _
      unfold State.hostReadLost
      rw [hu]
      exact congrArg Host.Outcome.next (if_neg hp)
    rw [efn, esq, ecid] at posted now
    refine ⟨_, eq, ⟨d, ?_⟩, ?_, ⟨x, (wa.findCmd (by decide)).trans now, phase, none⟩, ((wa.mono (by decide)).trans ((w.mono (by decide)).trans (wv.mono (by decide)))).keeps⟩
    · exact (show ((v.dataError k).atsDone c.fn).cpls = (v.dataError k).cpls from wa.keeps .cpls (by decide)).trans posted
    · exact sent_of_suffix (List.suffix_refl _) (List.IsSuffix.trans out State.atsDone_out)
  · refine ⟨(s.aerErr fn 4).setSq fn sq (some { q with retried := true }), ?_, State.sqOf_setSq, congrArg Fn.aer (State.fnOf_setFn (s := s)), rfl,
      ((State.setSq_within (by decide)).trans (State.aerErr_within (by decide))).keeps⟩
    show Host.Outcome.next ((s.aerErr fn 4).sqReadFail fn sq) = _
    rw [State.sqReadFail_first (s := s.aerErr fn 4) hq hf hs hr]
  · let u := (s.aerErr fn 5).event F.HST_FN_EVENTS_CPL_TIMEOUT fn 0
    have wu : Within [.fns, .out, .reg .HST_FN_EVENTS] u s := (State.event_within_of_noRecord rfl (by decide)).trans (State.aerErr_within (by decide))
    have eq : exec (.completionTimeout fn sq none) s = .next (u.setSq fn sq (some { q with retried := true })) := by
      show execCompletionTimeout fn sq none s = _
      unfold execCompletionTimeout
      rw [hd]
      exact congrArg Host.Outcome.next (State.sqReadFail_first (s := u) ((wu.sqOf (by decide)).trans hq) hf hs hr)
    refine ⟨_, eq, State.sqOf_setSq, ?_, ?_, ?_, ((State.setSq_within (by decide)).trans (wu.mono (by decide))).keeps⟩
    · exact sent_of_suffix (List.suffix_refl _) (State.event_out (s := s.aerErr fn 5))
    · exact State.fld_event (s := s.aerErr fn 5) (by decide) rfl (by decide)
    · intro j hj
      rw [State.setSq_otherSqs j hj, show u.sqs = s.sqs from wu.keeps .sqs (by decide)]
  · let u := s.aerErr fn 4
    let v := u.setSq fn sq (some { q with stalled := true })
    let x := v.event F.HST_FN_EVENTS_SQ_STALLED fn 0
    have wx : Within [.fns, .out, .reg .HST_FN_EVENTS] x v := State.event_within_of_noRecord rfl (by decide)
    have wr : Within recordParts (x.record 0x010 (fn / 128) 0 0x4361 (sq + fn * 2 ^ 16)) x := State.record_within fun _ h => h
    have eq : exec (.hostReadError fn sq none err) s = .next (x.record 0x010 (fn / 128) 0 0x4361 (sq + fn * 2 ^ 16)) := by
      show Host.Outcome.next (u.sqReadFail fn sq) = _
      exact congrArg Host.Outcome.next (State.sqReadFail_second (s := u) hq hf hs hr)
    have wv : Within [.fns, .out, .sqs] v s := (State.setSq_within (by decide)).trans (State.aerErr_within (by decide))
    refine ⟨_, eq, ?_, ?_, ?_, ?_, ((wr.mono (by decide)).trans ((wx.mono (by decide)).trans (wv.mono (by decide)))).keeps⟩
    · rw [wr.sqOf (by decide), wx.sqOf (by decide)]
      exact State.sqOf_setSq
    · exact sent_of_suffix (List.suffix_refl _) (List.IsSuffix.trans (State.event_out (s := v)) State.record_out)
    · rw [wr.fld (by decide)]
      exact State.fld_event (s := v) (by decide) rfl (by decide)
    · intro j hj
      rw [show (x.record 0x010 (fn / 128) 0 0x4361 (sq + fn * 2 ^ 16)).sqs = x.sqs from wr.keeps .sqs (by decide),
        show x.sqs = v.sqs from wx.keeps .sqs (by decide)]
      exact State.setSq_otherSqs (s := u) j hj
  · show execCompletionTimeout fn sq cid s = _
    unfold execCompletionTimeout
    exact if_pos hd
  · refine ⟨s.setFn fn { s.fnOf fn with atsHeld := if (s.fnOf fn).atsHeld.contains page then (s.fnOf fn).atsHeld else page :: (s.fnOf fn).atsHeld }, ?_, ?_,
      fun g hg => State.fnOf_setFn_of_ne hg, (State.setFn_within (by decide)).keeps⟩
    · show execAtsTranslationCompletion fn sq cid page true s = _
      unfold execAtsTranslationCompletion
      dsimp only
      rw [ha]
      rfl
    · rw [State.fnOf_setFn]
      show page ∈ if (s.fnOf fn).atsHeld.contains page then (s.fnOf fn).atsHeld else page :: (s.fnOf fn).atsHeld
      split
      · exact List.contains_iff_mem.mp ‹_›
      · exact List.mem_cons_self
  · obtain ⟨k, ⟨stage, staged, phase, waits, efn, esq, ecid⟩, eq⟩ := State.stageAll_whole (s := s) hk hop hst hrest hiu hm has
    obtain ⟨rfl, rfl, rfl⟩ := State.findCmd_is hc
    let u := s.slotted n c iu
    let v := u.swapAll 1 [c.stagedItem s n iu]
    let w := v.mapCmd c.fn c.sq c.cid fun _ => k
    have wu : Within [.atl] u s := (State.setPoison_within (by decide)).trans (.step (by decide) (.atl s _) .rfl)
    have wv : Within putAllParts v s := (State.swapAll_within fun _ h => h).trans (wu.mono (by decide))
    have sw : swapped u v iu ⟨.staged, s.atl.nextStage, 0⟩ := State.swapOne_spec ((State.readySegs_isSome_congr (s := u) (t := s) rfl fun _ => rfl).trans hready)
    have found : w.findCmd c.fn c.sq c.cid = some k := State.findCmd_set ((wv.findCmd (by decide)).trans hc) ⟨efn, esq, ecid⟩
    have idle : w.wakeWaiters = w := State.wakeWaiters_idle fun x hx => by
      obtain ⟨y, hy, rfl⟩ := List.mem_map.mp hx
      rw [show v.cmds = s.cmds from wv.keeps .cmds (by decide)] at hy
      beta_reduce
      split
      · exact waits.trans (hwait c (State.findCmd_mem hc))
      · exact hwait y hy
    refine ⟨w, ?_, sw.raw, sw.jseq, ?_, ⟨k, found, stage, staged, phase.trans hp⟩, wv.keeps .cpls (by decide),
      ((State.mapCmd_within (by decide)).trans (wv.mono (by decide))).keeps⟩
    · show execHostStage c.fn c.sq c.cid iu s = _
      unfold execHostStage
      rw [hc]
      dsimp only
      rw [hn]
      dsimp only
      rw [if_neg (by simp [hp, hr, hst]), if_neg (by simp [hat]), eq, idle]
    · show s.atl.nextStage < v.atl.nextStage
      rw [sw.nextStage]
      exact State.slotted_nextStage

end Sys2Proof.Machine
end

section
/-! Updates of the map (O25). -/

namespace Sys2Proof.Machine

section
variable {s t u : State} {key k : ℕ} {L : List Part}

/-! What the closing of an assembly slot leaves -/

/-- The map without staging and assembly slots, pins and their counters. -/
def Atlas.coreView (a : Atlas) : Atlas := { a with stage := [], pins := [], asm := [], poisonRes := 0 }

def sameCore (s t : State) : Prop := t.atl.coreView = s.atl.coreView

theorem sameCore.of_eq (h : t.atl = s.atl) : sameCore s t := congrArg Atlas.coreView h
theorem sameCore.of_within (h : Within L t s) (ha : .atl ∉ L) : sameCore s t := .of_eq (h.keeps .atl ha)
theorem sameCore.trans (h : sameCore s t) (k : sameCore t u) : sameCore s u := Eq.trans k h
theorem sameCore.ents (h : sameCore s t) : sameEnts s t :=
  ⟨(congrArg Atlas.queueView h : t.atl.coreView.queueView = s.atl.coreView.queueView),
    (congrArg Atlas.ent h : t.atl.coreView.ent = s.atl.coreView.ent), (congrArg Atlas.seg h : t.atl.coreView.seg = s.atl.coreView.seg)⟩

theorem sameCore.foldl {α : Type} {step : State → α → State} (h : ∀ s a, sameCore s (step s a)) (l : List α) (s : State) : sameCore s (l.foldl step s) := by
  induction l generalizing s with
  | nil => exact Eq.refl _
  | cons a l ih => exact (h s a).trans (ih (step s a))

theorem sameCore.dirView (h : sameCore s t) (w : Within L t s) (hn : Part.now ∉ L ∧ Part.flt ∉ L) : t.dirView = s.dirView := by
  have eq : ∀ v : State, v.dirView = { State.reset with now := v.now, flt := v.flt, atl := ({ v with atl := v.atl.coreView } : State).dirView.atl } := fun _ => rfl
  rw [eq, eq s, show t.now = s.now from w.keeps .now hn.1, show t.flt = s.flt from w.keeps .flt hn.2, h]
  rfl

theorem State.unholdSlot_core {a : ℕ} : sameCore s (s.unholdSlot a) := by
  unfold State.unholdSlot
  split
  · unfold State.freeSlot
    split
    · split <;> exact Eq.refl _
    · exact Eq.refl _
  · exact Eq.refl _

theorem State.closeAsm_core {a : Assembly} {used : Bool} : sameCore s (s.closeAsm a used) := by
  unfold State.closeAsm
  extract_lets s1 s2 s3 s4
  have h1 : sameCore s s1 := by
    unfold s1
    split
    · exact State.unholdSlot_core
    · exact Eq.refl _
  have h2 : sameCore s1 s2 := by
    unfold s2
    split <;> exact Eq.refl _
  have h3 : sameCore s2 s3 := by
    unfold s3
    split
    · exact .of_within (State.unbook_within fun _ h => h) (by decide)
    · exact .of_within (State.dropRmw_within fun _ h => h) (by decide)
  exact (h1.trans (h2.trans h3)).trans (Eq.refl _)

theorem State.closeSlots_core {p : ℕ → Bool} : sameCore s (s.closeSlots p) := by
  unfold State.closeSlots
  exact .foldl (fun _ _ => State.closeAsm_core) _ s

/-! Lookups -/

/-- A request for an UNCACHED segment of an engine with room (R118, Table 04-3). -/
theorem State.obtain_uncached {e : ℕ} (hf : s.fenced 0x040 e = false) (hs : s.snoopOf k = none) (hr : s.atl.recovering.contains k = false)
    (hd : s.dirOf k = .uncached) (hg : s.grantedTo e < 128) : s.obtain k e = s.take k e false := by
  unfold State.obtain
  extract_lets take
  rw [if_neg (by rw [hf, hs, hr]; simp), hd]
  dsimp only
  rw [State.makeRoom_eq, if_pos hg]
  rfl

theorem State.take_dirOf {e j : ℕ} {d : Bool} : (s.take k e d).dirOf j = if j = k then .held e else s.dirOf j := by
  split
  · next h => rw [h]; exact State.dirOf_setDir
  · next h => exact State.dirOf_setDir_ne h

/-! Updates of the map -/

theorem State.lookup_eq (h : s.lookup key ≠ Ent.reset) : (s.segOf (segOfIu key)).discarded = false ∧ s.rawEnt key = s.lookup key := by
  unfold State.lookup at *
  split at h
  · exact absurd rfl h
  · next hd => exact ⟨Bool.eq_false_iff.mpr hd, (if_neg hd).symm⟩

theorem State.supersede_gone {a : ℕ} {x : Stage} (h : s.slotOf a = some x) (hr : x.reads = 0) (hp : x.progs = 0) : (s.supersede a).slotOf a = none := by
  unfold State.supersede
  rw [h]
  dsimp only
  unfold State.freeSlot
  rw [State.slotOf_setStage]
  dsimp only
  rw [hr, hp, if_pos (by rfl)]
  exact State.slotOf_setStage

theorem State.putEnt_whole {x : Ent} (h : (s.segOf (segOfIu key)).discarded = false) :
    s.putEnt key x = ((s.leaveOld key (s.rawEnt key)).setEnt key x).markDirty (segOfIu key) := by
  unfold State.putEnt
  dsimp only
  rw [h, if_neg Bool.false_ne_true]

theorem State.markDirty_stage : (s.markDirty k).atl.stage = s.atl.stage := by
  unfold State.markDirty
  split <;> rfl

/-- The staging slot that a PROGRAM_DONE leaves (R129). -/
def State.dropProg (s : State) (a : ℕ) : State :=
  match s.slotOf a with
  | some x => s.setStage a (some { x with progs := x.progs - 1 })
  | none => s

theorem State.dropProg_ents {a : ℕ} : sameEnts s (s.dropProg a) := by
  unfold State.dropProg
  split
  · exact State.setStage_ents
  · exact .of_eq rfl

theorem State.dropProg_within {a : ℕ} (h : .atl ∈ L) : Within L (s.dropProg a) s := by
  unfold State.dropProg
  split
  · exact State.setStage_within h
  · exact .rfl

theorem State.dropProg_slot {a : ℕ} {x : Stage} (h : s.slotOf a = some x) : (s.dropProg a).slotOf a = some { x with progs := x.progs - 1 } := by
  unfold State.dropProg
  rw [h]
  exact State.slotOf_setStage

/-- The state with an entry put in place, its band's count raised and its record written. -/
def State.mapTo (s : State) (key p ep : ℕ) : State :=
  ((s.putEnt key (mappedAt p)).validUp (p % 2 ^ 36) ((s.putEnt key (mappedAt p)).iuUnits key)).journalSet 2 key (mappedAt p) ep

theorem State.mapTo_swapped {p ep : ℕ} : swapped s (s.mapTo key p ep) key (mappedAt p) := by
  obtain ⟨queue, raw, look⟩ := State.putEnt_spec (s := s) (key := key) (x := mappedAt p)
  exact .of_put (t := (s.putEnt key (mappedAt p)).validUp (p % 2 ^ 36) ((s.putEnt key (mappedAt p)).iuUnits key)) queue raw look

theorem State.mapTo_within {p ep : ℕ} : Within (.plt :: mapParts) (s.mapTo key p ep) s :=
  (State.journalSet_within (by decide)).trans ((State.validUp_within (by decide)).trans (State.putEnt_within (by decide)))

theorem State.mapTo_slot {a p ep : ℕ} : (s.mapTo key p ep).slotOf a = (s.putEnt key (mappedAt p)).slotOf a := by
  obtain ⟨_, _, eq⟩ := State.journal_atl (s := (s.putEnt key (mappedAt p)).validUp (p % 2 ^ 36) ((s.putEnt key (mappedAt p)).iuUnits key)) (kind := 2) (pool := key / 2 ^ 40)
    (iu := key % 2 ^ 40) (arg := 0) (items := [(key % 2 ^ 40, mappedAt p, ep)])
  exact (congrArg (fun a' : Atlas => tabGet (fun _ => none) a'.stage a) eq : (State.journal _ _ _ _ _ _).slotOf a = _)

theorem State.programDone_hit {a p ep : ℕ} (h : (s.lookup key).st = .staged ∧ (s.lookup key).addr = a) :
    s.programDone key a p ep = (s.dropProg a).mapTo key p ep := by
  unfold State.programDone
  extract_lets e dropProg u
  exact if_pos h

theorem State.programDone_miss {a p ep : ℕ} (h : ¬ ((s.lookup key).st = .staged ∧ (s.lookup key).addr = a)) :
    s.programDone key a p ep = ((s.dropProg a).supersede a).casFail := by
  unfold State.programDone
  extract_lets e dropProg u
  exact if_neg h

/-- The slot whose program was its last user is free once its entry has moved to flash. -/
theorem State.dropProg_mapTo_slot {a p ep : ℕ} {x : Stage} (h : (s.lookup key).st = .staged ∧ (s.lookup key).addr = a) (hx : s.slotOf a = some x)
    (hr : x.reads = 0) (hp : x.progs ≤ 1) : ((s.dropProg a).mapTo key p ep).slotOf a = none := by
  obtain ⟨st, rfl⟩ := h
  have some : s.lookup key ≠ Ent.reset := fun e => by rw [e] at st; cases st
  obtain ⟨whole, raw⟩ := State.lookup_eq some
  have ents : sameEnts s (s.dropProg (s.lookup key).addr) := State.dropProg_ents
  rw [State.mapTo_slot, State.putEnt_whole (by rw [ents.segOf]; exact whole), ents.rawEnt, raw]
  have old : (s.dropProg (s.lookup key).addr).leaveOld key (s.lookup key) = (s.dropProg (s.lookup key).addr).supersede (s.lookup key).addr := by
    unfold State.leaveOld
    rw [st]
  rw [old]
  refine (congrArg (fun m => tabGet (fun _ => none) m _) State.markDirty_stage : (State.markDirty _ _).slotOf _ = _).trans ?_
  exact State.supersede_gone (State.dropProg_slot hx) hr (Nat.sub_eq_zero_of_le hp)

theorem State.drainBand_valid {b c : ℕ} : ((s.drainBand b).bandRec c).valid = (s.bandRec c).valid := by
  have dropped : ∀ u : State, (u.dropOwed b).bandRec c = u.bandRec c := fun _ => rfl
  have unqueued : ∀ u : State, (u.unqueue b).bandRec c = u.bandRec c := fun _ => rfl
  have moved : ∀ x : Band, (s.moveBand b x).bandRec c = (s.setBand b x).bandRec c := fun _ => rfl
  unfold State.drainBand
  rw [dropped, unqueued, moved]
  by_cases h : c = b
  · rw [h, State.bandRec_setBand]
  · rw [State.bandRec_setBand_ne h]

theorem State.drainIf_valid {b c : ℕ} : ((s.drainIf b).bandRec c).valid = (s.bandRec c).valid := by
  unfold State.drainIf
  dsimp only
  split
  · exact State.drainBand_valid
  · rfl

/-- The count of the band that an IU leaves (R130). -/
theorem State.putEnt_valid {x : Ent} (h : (s.lookup key).st = .mapped) :
    ((s.putEnt key x).bandRec (s.bandOfAddr (s.lookup key).addr)).valid = (s.bandRec (s.bandOfAddr (s.lookup key).addr)).valid - s.iuUnits key := by
  have some : s.lookup key ≠ Ent.reset := fun e => by rw [e] at h; cases h
  obtain ⟨whole, raw⟩ := State.lookup_eq some
  rw [State.putEnt_whole whole, raw]
  have marked : ∀ u : State, (u.markDirty (segOfIu key)).bandRec = u.bandRec := fun u => by
    unfold State.markDirty
    split <;> rfl
  rw [marked]
  show ((s.leaveOld key (s.lookup key)).bandRec _).valid = _
  unfold State.leaveOld
  rw [h]
  show ((s.validDown _ _).bandRec _).valid = _
  unfold State.validDown
  extract_lets b y
  rw [State.drainIf_valid, State.bandRec_setBand]

theorem Within.bandOfAddr {a : ℕ} (h : Within L t s) (hs : Part.svy ∉ L ∧ Part.fch ∉ L) : t.bandOfAddr a = s.bandOfAddr a := by
  have profile : ∀ d, t.profileOf d = s.profileOf d := fun d => by
    unfold State.profileOf State.profSlot State.dieOf
    rw [show t.fch = s.fch from h.keeps .fch hs.2]
  unfold State.bandOfAddr
  dsimp only
  rw [profile]
  unfold State.bandOf
  rw [show t.svy = s.svy from h.keeps .svy hs.1]

/-- The count of the band that an IU leaves by an unconditional swap. -/
theorem State.swapOne_valid {x : Ent} {ty ep : ℕ} (hr : (s.readySegs [segOfIu key]).isSome = true) (h : (s.lookup key).st = .mapped) :
    ((s.swapAll ty [(key, x, ep)]).bandRec (s.bandOfAddr (s.lookup key).addr)).valid =
      (s.bandRec (s.bandOfAddr (s.lookup key).addr)).valid - s.iuUnits key := by
  obtain ⟨t, ht⟩ := Option.isSome_iff_exists.mp hr
  have same := State.readySegs_sameMap ht
  have put : (t.putAll ty [(key, x, ep)]).svy = (t.putEnt key x).svy := by
    unfold State.putAll
    dsimp only [List.foldl_cons, List.foldl_nil]
    split <;> exact (State.journal_within fun _ h => h).keeps .svy (by decide)
  have look : t.lookup key = s.lookup key := same.ents.lookup
  have valid := State.putEnt_valid (s := t) (key := key) (x := x) (by rw [look]; exact h)
  rw [State.swapAll_one, ht]
  show ((t.putAll ty [(key, x, ep)]).bandRec _).valid = _
  rw [State.bandRec, put]
  rw [look] at valid
  obtain ⟨a, b, c, rfl⟩ := same
  exact valid

/-- Assembly slots closed, and another poison table: what DISCARD and POISON do first (R129, R142). -/
def State.cleared (s : State) (p : ℕ → Bool) (m : Tab ℕ) : State :=
  { s.closeSlots p with atl := { (s.closeSlots p).atl with poison := m } }

section
variable {p : ℕ → Bool} {m : Tab ℕ}

theorem State.cleared_within : Within closeAsmParts (s.cleared p m) s :=
  .step (by decide) (.atl (s.closeSlots p) _) (State.closeSlots_within fun _ h => h)

theorem State.cleared_lookup {j : ℕ} : (s.cleared p m).lookup j = s.lookup j :=
  (show (s.cleared p m).lookup j = (s.closeSlots p).lookup j from rfl).trans State.closeSlots_core.ents.lookup

theorem State.cleared_ready : ((s.cleared p m).readySegs [segOfIu key]).isSome = (s.readySegs [segOfIu key]).isSome :=
  (State.readySegs_isSome_congr (s := s.cleared p m) (t := s.closeSlots p) rfl fun _ => rfl).trans
    (State.readySegs_isSome_congr (State.closeSlots_core.dirView (State.closeSlots_within fun _ h => h) (by decide))
      ((State.closeSlots_within (L := closeAsmParts) fun _ h => h).keeps (.reg .ATL_STEER) (by decide)))

theorem State.cleared_units : (s.cleared p m).iuUnits key = s.iuUnits key := by
  have core := State.closeSlots_core (s := s) (p := p)
  have pools : (s.closeSlots p).atl.pools = s.atl.pools :=
    (congrArg Atlas.pools core : (s.closeSlots p).atl.coreView.pools = s.atl.coreView.pools)
  show (s.closeSlots p).iuUnits key = s.iuUnits key
  unfold State.iuUnits State.poolOf
  rw [pools]

theorem State.cleared_queue : (s.cleared p m).atl.ent = s.atl.ent ∧ (s.cleared p m).atl.jseq = s.atl.jseq ∧
    (s.cleared p m).atl.queued = s.atl.queued := by
  have ents := (State.closeSlots_core (s := s) (p := p)).ents
  exact ⟨ents.ent, ents.queue.jseq, ents.queue.queued⟩

end

/-- DISCARD of an IU (R129, R139): its slots and its mask go, then one unconditional swap. -/
theorem State.discardRanges_one : ∃ p m, s.discardRanges [] [key] = (s.cleared p m).swapAll 3 [(key, Ent.reset, 0)] ∧ tabGet (fun _ => 0) m key = 0 := by
  let hit : ℕ → Bool := fun k => [key].contains k || ([] : List ℕ).contains (segOfIu k)
  refine ⟨hit, (s.closeSlots hit).atl.poison.filter fun e => !hit e.1, rfl, ?_⟩
  rw [tabGet_filterKey (p := fun k => !hit k)]
  simp [hit]

theorem State.poisonIu_one {r : ℕ} : ∃ p m, s.poisonIu key r = (s.cleared p m).swapAll 1 [(key, ⟨.poisoned, r * 2 ^ 32, 0⟩, 0)] ∧ tabGet (fun _ => 0) m key = 0 :=
  ⟨fun k => decide (k = key), tabSet (fun _ => 0) (s.closeSlots _).atl.poison key 0, rfl, tabGet_set_self ..⟩

section
variable {p : ℕ → Bool} {m : Tab ℕ} {ty ep : ℕ} {x : Ent}

/-- What the two leave, whether their update is applied or waits. -/
theorem State.cleared_swap_within : Within (([.plt, .til, .reg .TIL_POOL_WM] : List Part) ++ mapParts) ((s.cleared p m).swapAll ty [(key, x, ep)]) s :=
  (State.swapAll_within (by decide)).trans (State.cleared_within.mono (by decide))

theorem State.cleared_swap (h : (s.readySegs [segOfIu key]).isSome = true) (hm : tabGet (fun _ => 0) m key = 0) :
    let t := (s.cleared p m).swapAll ty [(key, x, ep)]
    t.lookup key = x ∧ (∀ k, k ≠ key → t.lookup k = s.lookup k) ∧ t.atl.jseq = (s.atl.jseq + 1) % 2 ^ 48 ∧ t.poisonMask key = 0 := by
  have sw := State.swapOne_spec (x := x) (ty := ty) (ep := ep) (State.cleared_ready (p := p) (m := m).trans h)
  refine ⟨(sw.lookup key).trans (if_pos rfl), fun k hk => (sw.lookup k).trans ((if_neg hk).trans State.cleared_lookup),
    sw.jseq.trans (congrArg (fun n => (n + 1) % 2 ^ 48) State.cleared_queue.2.1), ?_⟩
  show tabGet _ (State.atl _).poison key = 0
  rw [sw.poison]
  exact hm

theorem State.cleared_waits (h : s.readySegs [segOfIu key] = none) :
    let t := (s.cleared p m).swapAll ty [(key, x, ep)]
    t.atl.ent = s.atl.ent ∧ t.atl.jseq = s.atl.jseq ∧ t.atl.queued = s.atl.queued ++ [⟨0, key, ty, 0, [(key, x, ep)], 0⟩] := by
  obtain ⟨ent, jseq, queued⟩ := State.cleared_queue (s := s) (p := p) (m := m)
  have none : (s.cleared p m).readySegs [segOfIu key] = Option.none := by
    rw [← Option.not_isSome_iff_eq_none, State.cleared_ready, h]
    exact Bool.false_ne_true
  intro t
  have eq : t = (s.cleared p m).queueUpd ⟨0, key, ty, 0, [(key, x, ep)], 0⟩ := State.swapOne_waits none
  rw [eq]
  exact ⟨ent, jseq, congrArg (· ++ _) queued⟩

end

/-! The commands -/

theorem State.poolOf_of_iuExists {pool iu : ℕ} (h : s.iuExists pool iu = true) : ∃ p, s.poolOf pool = some p ∧ iu < p.segs * 819 := by
  unfold State.iuExists at h
  cases hp : s.poolOf pool with
  | none => rw [hp] at h; exact absurd h Bool.false_ne_true
  | some p => rw [hp] at h; exact ⟨p, rfl, of_decide_eq_true h⟩

theorem exec_atlasLookup {pool iu : ℕ} {p : Pool} (hp : s.poolOf pool = some p) : exec (.atlasLookup pool iu) s =
    if !s.atl.mapReady ∨ s.inRecovery (iuKey pool iu) then .next (s.emit (.answer 0x040 [])) else if p.segs * 819 ≤ iu then .next (s.emit (.answer 0x040 [0])) else
    .next ((if (s.segOf (segOfIu (iuKey pool iu))).discarded then s else s.obtain (segOfIu (iuKey pool iu)) (s.steer (segOfIu (iuKey pool iu)))).emit
      (.answer 0x040 [(s.lookup (iuKey pool iu)).word])) := by
  show execAtlasLookup pool iu s = _
  unfold execAtlasLookup
  rw [hp]

theorem exec_relocate {pool iu a b : ℕ} (h : s.iuExists pool iu = true) (hd : s.dataIn b 1 = true) :
    exec (.relocate pool iu a b) s = .next (s.relocate (iuKey pool iu) a b) := if_pos (by rw [h, hd]; rfl)

theorem exec_programDone {pool iu a b : ℕ} (h : s.iuExists pool iu = true) (hd : s.dataIn b 0 = true) (ht : s.readySegs [segOfIu (iuKey pool iu)] = some t) :
    exec (.programDone pool iu a b) s = .next ((t.programDone (iuKey pool iu) a b (s.dataEpoch b)).afterProgram a) := by
  show execProgramDone pool iu a b s = _
  unfold execProgramDone
  dsimp only
  rw [h, hd, ht]
  rfl

end

/-- Settles O25: each update is one swap of one entry under the engine that holds its segment, or waits as the last of the updates. -/
theorem mapUpdatesCompareAndSwap : Obligations.MapUpdatesCompareAndSwap := by
  unfold Obligations.MapUpdatesCompareAndSwap
  refine ⟨fun s pool iu hx => ?_, fun s pool iu p hp hi hr hrec => ?_⟩
  · intro key others parts
    refine ⟨fun hr hrec => ?_, fun hr => ?_, fun hs a b => ⟨fun hd hl => ?_, fun hd hl => ?_, fun hd hst ha => ?_, fun hd hl => ?_⟩,
      fun a b => ⟨fun hd => ?_, fun hd => ?_⟩, fun hs => ⟨?_, fun r => ?_⟩, fun hn a b => ⟨fun hd => ?_, fun hd => ?_, ?_, fun r => ?_⟩⟩
    · obtain ⟨p, hp, hi⟩ := State.poolOf_of_iuExists hx
      let t := if (s.segOf (segOfIu key)).discarded then s else s.obtain (segOfIu key) (s.steer (segOfIu key))
      have eq : exec (.atlasLookup pool iu) s = .next (t.emit (.answer 0x040 [(s.lookup key).word])) := by
        rw [exec_atlasLookup hp, if_neg (by rw [hr, State.inRecovery, hrec]; simp), if_neg (by omega)]
      have same : sameMap s t := by
        unfold t
        split
        · exact .refl s
        · exact State.obtain_sameMap s _ _
      have out : t.out = s.out := same.within.keeps .out (by decide)
      refine ⟨_, eq, congrArg (_ :: ·) out, same.ents.lookup, fun k _ => same.ents.lookup, fun hd => ?_, fun hd hf hsn hu hg => ?_,
        ((State.emit_within (by decide)).trans (same.within.mono (by decide))).keeps⟩
      · rw [show t = s from if_pos hd]
        exact (State.emit_within (by decide)).keeps
      · have take : t = s.take (segOfIu key) (s.steer (segOfIu key)) false :=
          (if_neg (by rw [hd]; exact Bool.false_ne_true)).trans (State.obtain_uncached hf hsn hrec hu hg)
        show t.dirOf _ = _ ∧ ∀ j, j ≠ _ → t.dirOf j = s.dirOf j
        rw [take]
        exact ⟨State.take_dirOf.trans (if_pos rfl), fun j hj => State.take_dirOf.trans (if_neg hj)⟩
    · obtain ⟨p, hp, hi⟩ := State.poolOf_of_iuExists hx
      refine ⟨_, (exec_atlasLookup hp).trans (if_pos (.inl (by rw [hr]; rfl))), rfl, (State.emit_within (by decide)).keeps⟩
    · obtain ⟨t, ht⟩ := Option.isSome_iff_exists.mp hs
      have same := State.readySegs_sameMap ht
      have eq : exec (.relocate pool iu a b) s = .next (t.mapTo key b (s.dataEpoch b)) := by
        rw [exec_relocate hx hd]
        refine congrArg Host.Outcome.next ?_
        unfold State.relocate
        dsimp only
        rw [ht]
        exact if_pos (same.ents.lookup.trans hl)
      have sw : swapped s (t.mapTo key b (s.dataEpoch b)) key (mappedAt b) := .of_ents same.ents State.mapTo_swapped
      have w : Within (.plt :: mapParts) (t.mapTo key b (s.dataEpoch b)) s := State.mapTo_within.trans (same.within.mono (by decide))
      exact ⟨_, eq, (sw.lookup key).trans (if_pos rfl), fun k hk => (sw.lookup k).trans (if_neg hk), sw.jseq, w.keeps (.reg .ATL_CAS_FAIL) (by decide) 0, w.keeps⟩
    · obtain ⟨t, ht⟩ := Option.isSome_iff_exists.mp hs
      have same := State.readySegs_sameMap ht
      have eq : exec (.relocate pool iu a b) s = .next t.casFail := by
        rw [exec_relocate hx hd]
        refine congrArg Host.Outcome.next ?_
        unfold State.relocate
        dsimp only
        rw [ht]
        exact if_neg (by rw [same.ents.lookup]; exact hl)
      refine ⟨_, eq, same.ents.ent, same.ents.queue.jseq, same.ents.queue.queued, ?_, ((State.casFail_within (by decide)).trans (same.within.mono (by decide))).keeps⟩
      rw [State.casFail, State.fld_bump (by decide), same.within.fld (by decide)]
      rfl
    · obtain ⟨t, ht⟩ := Option.isSome_iff_exists.mp hs
      have same := State.readySegs_sameMap ht
      have hit : (t.lookup key).st = .staged ∧ (t.lookup key).addr = a := by
        rw [same.ents.lookup]
        exact ⟨hst, ha⟩
      let u := (t.dropProg a).mapTo key b (s.dataEpoch b)
      have eq : exec (.programDone pool iu a b) s = .next (u.afterProgram a) := by
        rw [exec_programDone hx hd ht, State.programDone_hit hit]
      have sw : swapped s u key (mappedAt b) := .of_ents same.ents (.of_ents State.dropProg_ents State.mapTo_swapped)
      have wu : Within (.plt :: mapParts) u s := State.mapTo_within.trans ((State.dropProg_within (by decide)).trans (same.within.mono (by decide)))
      have wa : Within [.ctls, .cmds, .cpls, .media] (u.afterProgram a) u := State.afterProgram_within fun _ h => h
      have atl : (u.afterProgram a).atl = u.atl := wa.keeps .atl (by decide)
      have look : ∀ j, (u.afterProgram a).lookup j = u.lookup j := fun j => (sameEnts.of_eq atl).lookup
      refine ⟨_, eq, (look key).trans ((sw.lookup key).trans (if_pos rfl)), fun k hk => (look k).trans ((sw.lookup k).trans (if_neg hk)),
        (congrArg Atlas.jseq atl).trans sw.jseq, fun x hx hr hp => ?_, ((wa.mono (by decide)).trans (wu.mono (by decide))).keeps⟩
      rw [State.slotOf, atl]
      refine State.dropProg_mapTo_slot hit ?_ hr hp
      obtain ⟨_, _, _, rfl⟩ := same
      exact hx
    · obtain ⟨t, ht⟩ := Option.isSome_iff_exists.mp hs
      have same := State.readySegs_sameMap ht
      have miss : ¬ ((t.lookup key).st = .staged ∧ (t.lookup key).addr = a) := by
        rw [same.ents.lookup]
        exact hl
      let u := (t.dropProg a).supersede a
      have eq : exec (.programDone pool iu a b) s = .next (u.casFail.afterProgram a) := by
        rw [exec_programDone hx hd ht, State.programDone_miss miss]
      have ents : sameEnts s u := same.ents.trans (State.dropProg_ents.trans State.supersede_ents)
      have wu : Within [.atl, .pwr] u s := (State.supersede_within (by decide)).trans ((State.dropProg_within (by decide)).trans (same.within.mono (by decide)))
      have wa : Within [.ctls, .cmds, .cpls, .media] (u.casFail.afterProgram a) u.casFail := State.afterProgram_within fun _ h => h
      have atl : (u.casFail.afterProgram a).atl = u.atl := wa.keeps .atl (by decide)
      refine ⟨_, eq, (congrArg Atlas.ent atl).trans ents.ent, (congrArg Atlas.jseq atl).trans ents.queue.jseq, ?_,
        ((wa.mono (by decide)).trans ((State.casFail_within (by decide)).trans (wu.mono (by decide)))).keeps⟩
      rw [wa.fld (by decide), State.casFail, State.fld_bump (by decide), wu.fld (by decide)]
      rfl
    · exact if_neg (by rw [hd]; simp)
    · show execProgramDone pool iu a b s = _
      unfold execProgramDone
      dsimp only
      exact if_pos (by rw [hd]; simp)
    · obtain ⟨p, m, dis, hm⟩ := State.discardRanges_one (s := s) (key := key)
      have eq : exec (.discard pool iu) s = .next ((s.cleared p m).swapAll 3 [(key, Ent.reset, 0)]) :=
        (if_pos hx : execDiscard pool iu s = _).trans (congrArg Host.Outcome.next dis)
      obtain ⟨look, rest, jseq, mask⟩ := State.cleared_swap (p := p) (x := Ent.reset) (ty := 3) (ep := 0) hs hm
      have wc : Within closeAsmParts (s.cleared p m) s := State.cleared_within
      refine ⟨_, eq, look, rest, jseq, mask, fun h => ?_, State.cleared_swap_within.keeps⟩
      have valid := State.swapOne_valid (x := Ent.reset) (ty := 3) (ep := 0) (State.cleared_ready (p := p) (m := m).trans hs) (by rw [State.cleared_lookup]; exact h)
      rw [State.cleared_lookup, wc.bandOfAddr (by decide), State.cleared_units] at valid
      rw [valid, State.bandRec, show (s.cleared p m).svy = s.svy from wc.keeps .svy (by decide)]
      rfl
    · obtain ⟨p, m, poi, hm⟩ := State.poisonIu_one (s := s) (key := key) (r := r % 16)
      have eq : exec (.poison pool iu r) s = .next _ := (if_pos hx : execPoison pool iu r s = _).trans (congrArg Host.Outcome.next poi)
      obtain ⟨look, rest, jseq, mask⟩ := State.cleared_swap (p := p) (x := ⟨.poisoned, r % 16 * 2 ^ 32, 0⟩) (ty := 1) (ep := 0) hs hm
      exact ⟨_, eq, look, rest, jseq, mask, State.cleared_swap_within.keeps⟩
    · have eq : exec (.relocate pool iu a b) s = .next (s.queueUpd ⟨2, key, a, b, [], s.dataEpoch b⟩) := by
        rw [exec_relocate hx hd]
        refine congrArg Host.Outcome.next ?_
        unfold State.relocate
        dsimp only
        rw [hn]
      exact ⟨_, eq, rfl, (State.queueUpd_within (by decide)).keeps⟩
    · have eq : exec (.programDone pool iu a b) s = .next (s.queueUpd ⟨1, key, a, b, [], s.dataEpoch b⟩) := by
        show execProgramDone pool iu a b s = _
        unfold execProgramDone
        dsimp only
        rw [hx, hd, hn]
        rfl
      exact ⟨_, eq, rfl, (State.queueUpd_within (by decide)).keeps⟩
    · obtain ⟨p, m, dis, hm⟩ := State.discardRanges_one (s := s) (key := key)
      have eq : exec (.discard pool iu) s = .next ((s.cleared p m).swapAll 3 [(key, Ent.reset, 0)]) :=
        (if_pos hx : execDiscard pool iu s = _).trans (congrArg Host.Outcome.next dis)
      obtain ⟨ent, jseq, queued⟩ := State.cleared_waits (p := p) (m := m) (x := Ent.reset) (ty := 3) (ep := 0) hn
      exact ⟨_, eq, ent, jseq, queued, State.cleared_swap_within.keeps⟩
    · obtain ⟨p, m, poi, hm⟩ := State.poisonIu_one (s := s) (key := key) (r := r % 16)
      have eq : exec (.poison pool iu r) s = .next _ := (if_pos hx : execPoison pool iu r s = _).trans (congrArg Host.Outcome.next poi)
      obtain ⟨ent, jseq, queued⟩ := State.cleared_waits (p := p) (m := m) (x := ⟨.poisoned, r % 16 * 2 ^ 32, 0⟩) (ty := 1) (ep := 0) hn
      exact ⟨_, eq, ent, jseq, queued, State.cleared_swap_within.keeps⟩
  · refine ⟨_, (exec_atlasLookup hp).trans ?_, rfl, (State.emit_within (by decide)).keeps⟩
    rw [if_neg (by rw [hr, State.inRecovery, hrec]; simp), if_pos hi]

end Sys2Proof.Machine
end

section
/-! Housekeeping of the map and the directory (O26). -/

namespace Sys2Proof.Machine

section
variable {s t u : State} {key k e : ℕ} {L : List Part}

/-! Assembly slots -/

theorem State.closeAsm_asm {a : Assembly} {used : Bool} : ∀ x ∈ (s.closeAsm a used).atl.asm, x.iu ≠ a.iu := by
  unfold State.closeAsm
  extract_lets s1 s2 s3 s4
  intro x hx
  exact of_decide_eq_true (List.mem_filter.mp (show x ∈ s3.atl.asm.filter fun b => decide (b.iu ≠ a.iu) from hx)).2

theorem State.fillAsm_found {a : Assembly} {ok : Bool} (h : a.prev.st = .unmapped) :
    s.fillAsm a ok = s.closeAsm a (decide (a.full - (a.present &&& a.full) ≠ 0)) := by
  unfold State.fillAsm
  dsimp only
  rw [h, if_neg (by simp), if_neg (by simp)]

theorem State.fillAsm_lost {a : Assembly} {ok : Bool} (h : a.prev.st = .poisoned ∨ (a.prev.st = .mapped ∧ ok = false))
    (hm : a.full - (a.present &&& a.full) ≠ 0) : ∃ u, Within recordParts u (s.setPoison a.iu (s.poisonMask a.iu ||| (a.full - (a.present &&& a.full)))) ∧
      s.fillAsm a ok = u.closeAsm a (decide (a.full - (a.present &&& a.full) ≠ 0)) := by
  unfold State.fillAsm
  extract_lets miss lost s1 s2
  have h1 : s1 = s.setPoison a.iu (s.poisonMask a.iu ||| miss) := if_pos ⟨h, hm⟩
  have w : Within recordParts s2 s1 := .ite (State.record_within fun _ h => h) .rfl
  rw [h1] at w
  exact ⟨s2, w, rfl⟩

theorem exec_assemblyWindowEnd {slot : ℕ} {ok : Bool} {a : Assembly} (h : s.atl.asm.find? (fun a => decide (a.slot = slot)) = some a) :
    exec (.assemblyWindowEnd slot ok) s = .next (s.fillAsm a ok) := by
  show execAssemblyWindowEnd slot ok s = _
  unfold execAssemblyWindowEnd
  rw [h]

/-! Spills -/

theorem takeLines_append (n : ℕ) (l : List JRec) : (takeLines n l).1 ++ (takeLines n l).2 = l := by
  induction l generalizing n with
  | nil => rfl
  | cons r l ih =>
    unfold takeLines
    split
    · rfl
    · exact congrArg (r :: ·) (ih _)

theorem takeLines_lines (n : ℕ) (l : List JRec) : ((takeLines n l).1.map JRec.lines).sum ≤ n := by
  induction l generalizing n with
  | nil => exact Nat.zero_le _
  | cons r l ih =>
    unfold takeLines
    split
    · exact Nat.zero_le _
    · next h =>
      have := ih (n - r.lines)
      simp only [List.map_cons, List.sum_cons]
      omega

theorem State.freeParked_spec : s.freeParked.atl.tail = s.atl.tail ∧ s.freeParked.atl.spilled = s.atl.spilled ∧ s.freeParked.atl.ent = s.atl.ent ∧
    s.freeParked.atl.tailBytes ≤ s.atl.tailBytes ∧ s.freeParked.svy = s.svy := by
  unfold State.freeParked
  extract_lets old gone
  split
  · exact ⟨rfl, rfl, rfl, Nat.le_refl _, rfl⟩
  · exact ⟨rfl, rfl, rfl, Nat.sub_le .., rfl⟩

theorem State.spill_spec {l : List JRec} : (s.spill l).atl.tail = s.atl.tail ∧ (s.spill l).atl.spilled = l.reverse ++ s.atl.spilled ∧
    (s.spill l).atl.ent = s.atl.ent ∧ (s.spill l).atl.tailBytes = s.atl.tailBytes ∧ (s.spill l).svy.band = s.svy.band := by
  unfold State.spill
  split
  · next h =>
    obtain rfl := List.getLast?_eq_none_iff.mp h
    exact ⟨rfl, rfl, rfl, rfl, rfl⟩
  · exact ⟨rfl, rfl, rfl, rfl, rfl⟩

/-! Checkpoints -/

theorem State.mapPass_spec : s.mapPass.atl.seg = s.atl.seg ∧ s.mapPass.atl.jseq = s.atl.jseq ∧ s.mapPass.atl.ent = s.atl.ent := by
  unfold State.mapPass
  extract_lets u
  have step : ∀ (b : ℕ × Band) (v : State), sameEnts v ((fun (s : State) (e : ℕ × Band) =>
      if e.2.cls = 2 ∧ (e.2.st = BandState.closed ∨ e.2.st = BandState.victim) then
        let s := s.setBand e.1 { e.2 with passes := e.2.passes + 1 }
        if 1 ≤ e.2.passes then s.drainBand e.1 else s
      else s) v b) := fun b v => by
    dsimp only
    split
    · have set : sameEnts v (v.setBand b.1 { b.2 with passes := b.2.passes + 1 }) := .of_eq rfl
      split
      · have moved : ∀ w : State, sameEnts w (w.drainBand b.1) := fun w =>
          (State.moveBand_ents (s := w) (b := b.1) (x := { w.bandRec b.1 with st := .drained })).trans (.of_eq rfl)
        exact set.trans (moved _)
      · exact set
    · exact .of_eq rfl
  have fold : ∀ (l : List (ℕ × Band)) (v : State), sameEnts v (l.foldl _ v) := fun l => by
    induction l with
    | nil => exact fun v => .of_eq rfl
    | cons b l ih => exact fun v => (step b v).trans (ih _)
  obtain ⟨queue, ent, seg⟩ : sameEnts s u := fold s.svy.band s
  exact ⟨seg, queue.jseq, ent⟩

/-! Recovery -/

theorem State.retryUpds_idle (h : s.atl.queued = []) : s.retryUpds = s := by
  unfold State.retryUpds
  rw [h]
  rfl

theorem State.offerWaiting_idle (h : ∀ c ∈ s.cmds, c.phase = .offered → c.accepted = false) : s.offerWaiting = s := by
  unfold State.offerWaiting
  rw [List.filter_eq_nil_iff.mpr fun c hc => by
    intro hx
    obtain ⟨offered, accepted⟩ := Bool.and_eq_true_iff.mp hx
    rw [h c hc (of_decide_eq_true offered)] at accepted
    exact Bool.false_ne_true accepted]
  rfl

theorem State.endSuspension_idle (h : s.atl.suspended = []) : s.endSuspension = s := by
  unfold State.endSuspension State.fenceSuspensions
  rw [h]
  rfl

theorem tabGet_replaceSeg {m : Tab Ent} {l : List (ℕ × Ent)} (hl : ∀ x ∈ l, segOfIu x.1 = k) (hk : segOfIu key ≠ k) :
    tabGet (fun _ => Ent.reset) (replaceSeg m k l) key = tabGet (fun _ => Ent.reset) m key := by
  unfold replaceSeg
  have base : tabGet (fun _ => Ent.reset) (m.filter fun e => decide (segOfIu e.1 ≠ k)) key = tabGet (fun _ => Ent.reset) m key := by
    rw [tabGet_filterKey (p := fun j => decide (segOfIu j ≠ k)), if_pos (decide_eq_true hk)]
  refine Eq.trans ?_ base
  generalize m.filter (fun e => decide (segOfIu e.1 ≠ k)) = n
  induction l generalizing n with
  | nil => rfl
  | cons x l ih =>
    rw [List.foldl_cons, ih fun y hy => hl y (List.mem_cons_of_mem _ hy)]
    exact tabGet_set_ne _ _ _ fun e => hk (e ▸ hl x List.mem_cons_self)

theorem State.recoverSeg_rawEnt {d : Bool} (hk : segOfIu key ≠ k) : (s.recoverSeg k d).rawEnt key = s.rawEnt key := by
  unfold State.recoverSeg
  extract_lets x base from_ recs m
  split
  · rfl
  · exact tabGet_replaceSeg (fun x hx => of_decide_eq_true (List.mem_filter.mp hx).2) hk

theorem State.recoverSeg_queue {d : Bool} : (s.recoverSeg k d).atl.queued = s.atl.queued ∧ (s.recoverSeg k d).atl.suspended = s.atl.suspended ∧
    (s.recoverSeg k d).atl.recovering = s.atl.recovering := by
  unfold State.recoverSeg
  dsimp only
  split <;> exact ⟨rfl, rfl, rfl⟩

/-- A recovery from DRAM with no newer record gives the copy back (R148). -/
theorem State.recoverSeg_dram (hd : (s.segOf k).discarded = false) (hr : ∀ r ∈ s.atl.tail ++ s.atl.spilled, r.seq ≤ (s.segOf k).wbSeq) :
    (s.recoverSeg k true).atl.ent = replaceSeg s.atl.ent k (s.atl.copy.filter fun e => decide (segOfIu e.1 = k)) := by
  unfold State.recoverSeg
  extract_lets x base from_ recs m
  rw [if_neg (by rw [hd]; exact Bool.false_ne_true)]
  have none : recs = [] := List.filter_eq_nil_iff.mpr fun r hm => by
    rw [decide_eq_true_eq, Nat.not_lt]
    refine hr r ?_
    simpa [or_comm] using hm
  show replaceSeg s.atl.ent k m = _
  unfold m
  rw [none]
  refine congrArg (replaceSeg s.atl.ent k) ?_
  show base.filter _ = _
  unfold base
  rw [if_pos rfl, List.filter_filter]
  simp

/-! Engines and their caches -/

theorem heldSeg_drop {l : List Held} : (l.filter fun x => decide (x.seg ≠ k)).find? (fun h => decide (h.seg = k)) = none :=
  List.find?_eq_none.mpr fun x hx => by simpa using (List.mem_filter.mp hx).2

theorem bufSeg_drop {l : List Evict} : (l.filter fun x => decide (x.seg ≠ k)).find? (fun h => decide (h.seg = k)) = none :=
  List.find?_eq_none.mpr fun x hx => by simpa using (List.mem_filter.mp hx).2

theorem exec_segGet (he : e < 16) (hf : s.fenced 0x040 e = false) (hs : e = s.steer k ∨ (k % 2 ^ 32 ≠ 0 ∧ e = s.steer (k - 1))) (hg : s.grantedTo e < 128) :
    exec (.segGet k e) s = match s.dirOf k with
      | .uncached => .next (s.setDir k (.held e))
      | .held h => if h = e ∧ (s.snoopOf k).isNone then .next s else .next { s with atl := { s.atl with snoops := s.atl.snoops ++ [(k, e)] } }
      | .evicting _ => .next { s with atl := { s.atl with snoops := s.atl.snoops ++ [(k, e)] } } := by
  have served : ¬ (16 ≤ e ∨ s.fenced 0x040 e ∨ (e ≠ s.steer k ∧ (k % 2 ^ 32 = 0 ∨ e ≠ s.steer (k - 1))) ∨ 128 ≤ s.grantedTo e) := by
    rw [hf]
    rintro (h | h | ⟨h, h'⟩ | h)
    · omega
    · exact Bool.false_ne_true h
    · rcases hs with hs | ⟨hz, hs⟩
      · exact h hs
      · rcases h' with h' | h'
        · exact hz h'
        · exact h' hs
    · omega
  exact (if_neg served : execSegGet k e s = _)

/-- The write-backs of an engine for a segment are over. -/
def State.clearWrites (s : State) (e k : ℕ) : State :=
  { s with atl := { s.atl with writes := s.atl.writes.filter fun w => !decide (w.seg = k ∧ w.eng = e) } }

theorem exec_evictAck {b : Evict} (hb : (s.atlEng e).bufSeg k = some b) (hd : b.dirty = false ∨ b.written = true) : exec (.evictAck e k) s =
    if s.dirOf k = .evicting e then
      if (s.snoopOf k).isSome then
        .next ((s.clearWrites e k).setAtlEng e { s.atlEng e with bufs := (s.atlEng e).bufs.map fun (x : Evict) => if x.seg = k then { x with acked := true } else x })
      else .next (((s.clearWrites e k).retireBuf e k).setDir k .uncached).retryUpds
    else if s.dirOf k = .held e ∧ (s.snoopOf k).isNone ∧ ((s.atlEng e).heldSeg k).isNone then .next (s.clearWrites e k)
    else .next ((s.clearWrites e k).retireBuf e k).retryUpds := by
  show execEvictAck e k s = _
  unfold execEvictAck
  extract_lets g mine clear
  rw [hb]
  dsimp only
  rw [if_neg (by rcases hd with h | h <;> rw [h] <;> simp)]
  rfl

theorem State.retireBuf_bufSeg : ((s.retireBuf e k).atlEng e).bufSeg k = none := by
  unfold State.retireBuf
  dsimp only
  rw [State.atlEng_setAtlEng]
  exact bufSeg_drop

/-- A CONTAINED fault fences nothing: it reaches its unit's words and the records. -/
theorem State.raise_contained_within {b i c x : ℕ} (hc : faultClass b c = .contained) (h : .flt :: recordParts ⊆ L) : Within L (s.raiseAt b i c x) s := by
  unfold State.raiseAt State.raise
  dsimp only [Option.filter_none]
  rw [hc]
  dsimp only
  exact .ite .rfl (.ite .rfl (.ite (State.fencedFault_within (sub_of h rfl)) (State.containedFault_within (sub_of h rfl))))

theorem State.setDir_other {d : Dir} : otherDirs s (s.setDir k d) k := fun _ h => State.dirOf_setDir_ne h

end

/-- Settles O26: assembly, journal and recovery each change the parts of the map they name; each message of the directory is one step of it. -/
theorem mapHousekeepingAndTheDirectory : Obligations.MapHousekeepingAndTheDirectory := by
  unfold Obligations.MapHousekeepingAndTheDirectory
  refine ⟨fun s => ⟨fun slot ok a ha => ⟨fun hp => ?_, fun hp hm => ?_⟩, fun hu ho => ?_, fun h => ?_, fun loc k hk hd => ?_, fun loc k hk hd => ?_, ?_,
      fun pool seg hd => ?_, fun pool seg dram hr => ⟨fun hl hq hs hc => ?_, fun hl hn => ?_⟩⟩,
    fun s e k he => ⟨fun hf hs hg => ⟨fun hd => ?_, fun h hd => ?_⟩, fun r h hs => ⟨fun hh => ?_, fun hq => ?_⟩, fun h hh hb hw hd => ?_, fun hb hd => ?_,
      fun w hw => ?_, fun b hq hb hd => ⟨fun hv hs => ?_, fun h hv hne => ?_⟩, fun hd hh hl => ⟨?_, fun gen v hg => ?_⟩, fun h hh hdirty hw => ?_,
      fun d hs hh hl => ?_⟩⟩
  · rw [leads, exec_assemblyWindowEnd ha, State.fillAsm_found hp]
    have core := State.closeAsm_core (s := s) (a := a) (used := decide (a.full - (a.present &&& a.full) ≠ 0))
    exact ⟨_, rfl, State.closeAsm_asm, core.ents.queue.poison, core.ents.ent, (State.closeAsm_within (by decide)).keeps⟩
  · obtain ⟨u, w, eq⟩ := State.fillAsm_lost hp hm
    rw [leads, exec_assemblyWindowEnd ha, eq]
    have core := State.closeAsm_core (s := u) (a := a) (used := decide (a.full - (a.present &&& a.full) ≠ 0))
    have atl : u.atl = (s.setPoison a.iu (s.poisonMask a.iu ||| (a.full - (a.present &&& a.full)))).atl := w.keeps .atl (by decide)
    refine ⟨_, rfl, State.closeAsm_asm, ?_, core.ents.ent.trans (show u.atl.ent = s.atl.ent by rw [atl]; rfl),
      ((State.closeAsm_within (by decide)).trans ((w.mono (by decide)).trans (State.setPoison_within (by decide)))).keeps⟩
    rw [State.poisonMask, core.ents.queue.poison, atl]
    exact tabGet_set_self ..
  · let q := takeLines 65536 s.atl.tail.reverse
    let u : State := { s with atl := { s.atl with tail := q.2.reverse } }
    have eq : exec .journalBlockSpill s = .next (u.spill q.1).freeParked := if_neg (by rw [ho]; simp; omega)
    obtain ⟨tail, spilled, ent, bytes, svy⟩ := State.freeParked_spec (s := u.spill q.1)
    obtain ⟨tail', spilled', ent', bytes', band⟩ := State.spill_spec (s := u) (l := q.1)
    refine ⟨_, eq, ⟨q.1.reverse, ?_, spilled.trans spilled', ?_⟩, ent.trans ent', bytes.trans (le_of_eq bytes'), (congrArg Svy.band svy).trans band,
      ((State.freeParked_within (by decide)).trans ((State.spill_within (by decide)).trans (.step (by decide) (.atl s _) .rfl))).keeps⟩
    · rw [tail, tail']
      show _ = q.2.reverse ++ q.1.reverse
      rw [← List.reverse_append, takeLines_append, List.reverse_reverse]
    · rw [List.map_reverse, List.sum_reverse]
      exact takeLines_lines _ _
  · exact if_pos h
  · let v : State := s.setSeg k { s.segOf k with ckptSeq := s.atl.jseq, ckptAt := loc }
    let u : State := { v with atl := { v.atl with durable := replaceSeg v.atl.durable k (v.segEnts k) } }
    let w := u.journal 0x05 (k / 2 ^ 32) (k % 2 ^ 32) loc []
    let n := s.atl.ckptNext + 1
    obtain ⟨_, _, atl⟩ := State.journal_atl (s := u) (kind := 0x05) (pool := k / 2 ^ 32) (iu := k % 2 ^ 32) (arg := loc) (items := [])
    have segs : w.allSegs = s.allSegs := (congrArg (fun a : Atlas => a.pools.filterMap fun e => e.2.map fun p => (e.1, p.segs)) atl :)
    have next : w.atl.ckptNext = s.atl.ckptNext := (congrArg Atlas.ckptNext atl :)
    let x : State := if (nthSeg s.allSegs n).isNone then { w.mapPass with atl := { w.mapPass.atl with ckptNext := 0, ckptAt := w.mapPass.now, ckptBehind := false } }
      else { w with atl := { w.atl with ckptNext := n } }
    have eq : exec (.checkpointCopy loc) s = .next x := by
      show execCheckpointCopy loc s = _
      unfold execCheckpointCopy
      rw [hk]
      dsimp only
      rw [if_neg (by rw [hd]; decide), show nthSeg (State.allSegs _) _ = nthSeg w.allSegs (w.atl.ckptNext + 1) from rfl, segs, next]
      exact (apply_ite Host.Outcome.next _ _ _).symm
    have seg : x.atl.seg = v.atl.seg ∧ x.atl.jseq = (s.atl.jseq + 1) % 2 ^ 48 ∧ x.atl.ent = s.atl.ent := by
      have pass := State.mapPass_spec (s := w)
      have hw : w.atl.seg = v.atl.seg ∧ w.atl.jseq = (s.atl.jseq + 1) % 2 ^ 48 ∧ w.atl.ent = s.atl.ent :=
        ⟨(congrArg Atlas.seg atl :), (congrArg Atlas.jseq atl :), (congrArg Atlas.ent atl :)⟩
      unfold x
      split
      · exact ⟨pass.1.trans hw.1, pass.2.1.trans hw.2.1, pass.2.2.trans hw.2.2⟩
      · exact hw
    have look : ∀ j, x.segOf j = v.segOf j := fun j => congrArg (fun m => tabGet (fun _ => Seg.reset) m j) seg.1
    refine ⟨x, eq, ?_, ?_, fun j hj => (look j).trans (State.segOf_setSeg_ne hj), seg.2.1, seg.2.2, ?_, ?_⟩
    · rw [look, State.segOf_setSeg]
    · rw [look, State.segOf_setSeg]
    · unfold x
      split <;> rfl
    · have ww : Within (([.atl, .plt, .svy, .reg .ATL_JRNL_WM] : List Part) ++ eventParts) w s :=
        (State.journal_within (by decide)).trans (.step (by decide) (.atl v _) (State.setSeg_within (by decide)))
      exact (Within.ite (.step (by decide) (.atl w.mapPass _) ((State.mapPass_within (by decide)).trans ww)) (.step (by decide) (.atl w _) ww)).keeps
  · show execCheckpointCopy loc s = _
    unfold execCheckpointCopy
    rw [hk]
    exact if_pos hd
  · let u : State := { s with atl := { s.atl with ckptBehind := true } }
    refine ⟨_, rfl, ?_, State.fld_event (s := u) (by decide) rfl (by decide), ?_⟩
    · exact (State.event_within (L := .reg .ATL_EVENTS :: eventParts) (t := u) (f := F.ATL_EVENTS_CKPT_LATE) (by decide) (by decide)).keeps .atl (by decide)
    · exact ((State.event_within (by decide) (by decide)).trans (.step (by decide) (.atl s _) .rfl)).keeps
  · obtain ⟨queue, swept, look⟩ := State.sweepSeg_spec hd
    exact ⟨_, if_pos hd, swept, look, queue.jseq, (State.sweepSeg_within (by decide)).keeps⟩
  · let v := s.recoverSeg (pool * 2 ^ 32 + seg) dram
    let u : State := { v with atl := { v.atl with
      recovering := v.atl.recovering.filter fun j => decide (j ≠ pool * 2 ^ 32 + seg)
      segLost := v.atl.segLost.filter fun j => decide (j ≠ pool * 2 ^ 32 + seg) } }
    let x := u.event F.ATL_EVENTS_RECOVERY_DONE 0 (seg % 2 ^ 32)
    have wu : Within [.atl] u s := .step (by decide) (.atl v _) (State.recoverSeg_within (by decide))
    have wx : Within (.reg .ATL_EVENTS :: eventParts) x u := State.event_within (by decide) (by decide)
    have atl : x.atl = u.atl := wx.keeps .atl (by decide)
    obtain ⟨queued, susp, rec⟩ := State.recoverSeg_queue (s := s) (k := pool * 2 ^ 32 + seg) (d := dram)
    have eq : exec (.segmentRecovery pool seg dram) s = .next x := by
      show execSegmentRecovery pool seg dram s = _
      unfold execSegmentRecovery
      dsimp only
      rw [hr, hl]
      simp only [Bool.not_true, Bool.false_eq_true, if_false, Bool.not_false, Bool.and_true]
      have idle : u.retryUpds = u := State.retryUpds_idle (queued.trans hq)
      have offers : x.offerWaiting = x := State.offerWaiting_idle (by
        rw [show x.cmds = u.cmds from wx.keeps .cmds (by decide), show u.cmds = s.cmds from wu.keeps .cmds (by decide)]
        exact hc)
      have susps : x.endSuspension = x := State.endSuspension_idle (by rw [atl]; exact susp.trans hs)
      show Host.Outcome.next ((u.retryUpds.event F.ATL_EVENTS_RECOVERY_DONE 0 (seg % 2 ^ 32)).offerWaiting.endSuspension) = _
      rw [idle]
      show Host.Outcome.next x.offerWaiting.endSuspension = _
      rw [offers, susps]
    refine ⟨x, eq, ?_, State.fld_event (s := u) (by decide) rfl (by decide), fun key hk => ?_, fun hd hdis hrec => ?_, ((wx.mono (by decide)).trans (wu.mono (by decide))).keeps⟩
    · rw [atl]
      show (List.filter _ _).contains _ = false
      simp
    · rw [State.rawEnt, atl]
      exact State.recoverSeg_rawEnt hk
    · rw [atl]
      subst hd
      exact State.recoverSeg_dram hdis hrec
  · have eq : exec (.segmentRecovery pool seg dram) s = .next (s.record 0x040 0 0 0x000E (seg * 819 + pool * 2 ^ 40 + 2 * 2 ^ 45)) := by
      show execSegmentRecovery pool seg dram s = _
      unfold execSegmentRecovery
      dsimp only
      rw [hr, hl, if_neg (by decide), if_pos rfl, hn]
    exact ⟨_, eq, (State.record_within fun _ h => h).keeps⟩
  · refine ⟨s.setDir k (.held e), ?_, State.dirOf_setDir, State.setDir_other, rfl, (State.setDir_within (by decide)).keeps⟩
    rw [exec_segGet he hf hs hg, hd]
  · have eq : exec (.segGet k e) s = .next { s with atl := { s.atl with snoops := s.atl.snoops ++ [(k, e)] } } := by
      rw [exec_segGet he hf hs hg]
      rcases hd with ⟨hd, hne⟩ | hd
      · rw [hd]
        exact if_neg fun h => hne h.1
      · rw [hd]
    exact ⟨_, eq, fun _ => rfl, rfl, (Within.step (by decide) (.atl s _) .rfl).keeps⟩
  · let g : AtlEng := { s.atlEng e with held := (s.atlEng e).held.filter fun x => decide (x.seg ≠ k) }
    have eq : exec (.snoop e k r) s = .next ((s.setAtlEng e g).emit (.answer 0x040 [k, r, b2n h.dirty])) := by
      show execSnoop e k r s = _
      unfold execSnoop
      dsimp only
      rw [if_neg (not_not.mpr hs), hh]
    refine ⟨_, eq, ?_, fun j hj => State.atlEng_setAtlEng_ne (s := s) hj, rfl, ((State.emit_within (by decide)).trans (State.setAtlEng_within (by decide))).keeps⟩
    show ((s.setAtlEng e g).atlEng e).heldSeg k = none
    rw [State.atlEng_setAtlEng]
    exact heldSeg_drop
  · let u : State := { s with atl := { s.atl with snoops := s.atl.snoops.erase (k, r) } }
    have eq : ∃ t, exec (.snoopDone k r) s = .next t ∧ t.atl.dir = (u.setDir k (.held r)).atl.dir ∧ t.atl.snoops = u.atl.snoops ∧ Within [.atl] t s := by
      have wu : Within [.atl] (u.setDir k (.held r)) s := (State.setDir_within (by decide)).trans (.step (by decide) (.atl s _) .rfl)
      show ∃ t, execSnoopDone k r s = _ ∧ _
      unfold execSnoopDone
      rw [if_neg (not_not.mpr hs)]
      dsimp only
      split
      · rw [State.retryUpds_idle (by exact hq)]
        exact ⟨_, rfl, rfl, rfl, (State.setAtlEng_within (by decide)).trans wu⟩
      · rw [State.retryUpds_idle (by exact hq)]
        exact ⟨_, rfl, rfl, rfl, wu⟩
    obtain ⟨t, eq, dir, snoops, w⟩ := eq
    have look : ∀ j, t.dirOf j = (u.setDir k (.held r)).dirOf j := fun j => congrArg (fun m => tabGet (fun _ => Dir.uncached) m j) dir
    exact ⟨t, eq, (look k).trans State.dirOf_setDir, fun j hj => (look j).trans (State.dirOf_setDir_ne (s := u) hj), snoops, w.keeps⟩
  · let g : AtlEng := ⟨(s.atlEng e).held.filter fun x => decide (x.seg ≠ k), (s.atlEng e).bufs ++ [⟨k, h.dirty, false, false⟩]⟩
    let u := s.setAtlEng e g
    have eq : exec (.segmentEvict e k) s = .next (if h.dirty then u.startWb e k else u) := by
      show execSegmentEvict e k s = _
      unfold execSegmentEvict
      dsimp only
      rw [hh]
      dsimp only
      rw [if_neg (by rw [hw, hd]; simp; omega)]
    have eng : (if h.dirty then u.startWb e k else u).atl.eng = u.atl.eng ∧ (if h.dirty then u.startWb e k else u).atl.dir = s.atl.dir := by
      split <;> exact ⟨rfl, rfl⟩
    have got : (if h.dirty then u.startWb e k else u).atlEng e = g := (congrArg (fun m => tabGet _ m e) eng.1).trans State.atlEng_setAtlEng
    refine ⟨_, eq, ?_, congrArg AtlEng.bufs got, ?_, fun j => congrArg (fun m => tabGet _ m j) eng.2, ?_⟩
    · rw [got]
      exact heldSeg_drop
    · split <;> rfl
    · exact (Within.ite ((State.startWb_within (by decide)).trans (State.setAtlEng_within (by decide))) (State.setAtlEng_within (by decide))).keeps
  · exact ⟨_, if_pos ⟨hb, hd⟩, State.dirOf_setDir, State.setDir_other, (State.setDir_within (by decide)).keeps⟩
  · let x : Seg := { s.segOf k with gen := (s.segOf k).gen + 1, wbSeq := w.seq }
    let u := s.setSeg k x
    let v : State := { u with atl := { u.atl with copy := replaceSeg u.atl.copy k w.image } }
    let o : Out := .answer 0x070 ([v.segChan k, v.segAddr k] ++ segImage k ((s.segOf k).gen + 1) w.image)
    let g : AtlEng := { s.atlEng e with bufs := (s.atlEng e).bufs.map fun (b : Evict) => if b.seg = k then { b with written := true } else b }
    let z := (v.emit o).setAtlEng e g
    have eq : exec (.segmentWritebackComplete e k) s = .next { z with atl := { z.atl with writes := z.atl.writes.map fun (v : WBack) =>
        if v.seg = k ∧ v.eng = e then { v with done := true } else v } } := by
      show execSegmentWritebackComplete e k s = _
      unfold execSegmentWritebackComplete
      rw [hw]
      rfl
    have seg : v.segOf k = x := (State.segOf_setSeg : u.segOf k = x)
    have chan : v.segChan k = s.segChan k := by
      unfold State.segChan
      rw [seg]
      rfl
    have addr : v.segAddr k = s.segAddr k := by
      unfold State.segAddr
      rw [chan, seg]
    have wz : Within [.atl, .out] z s := (State.setAtlEng_within (by decide)).trans ((State.emit_within (by decide)).trans
      (.step (by decide) (.atl u _) (State.setSeg_within (by decide))))
    refine ⟨_, eq, ⟨[o], rfl, ?_⟩, rfl, congrArg Seg.gen seg, congrArg Seg.wbSeq seg, fun j hj => (State.segOf_setSeg_ne hj : u.segOf j = s.segOf j), fun _ => rfl,
      (Within.step (by decide) (.atl z _) wz).keeps⟩
    unfold o
    rw [chan, addr]
    exact List.mem_singleton.mpr rfl
  · let u := s.clearWrites e k
    have idle : ((u.retireBuf e k).setDir k .uncached).retryUpds = (u.retireBuf e k).setDir k .uncached := State.retryUpds_idle hq
    have eq : exec (.evictAck e k) s = .next ((u.retireBuf e k).setDir k .uncached) := by
      rw [exec_evictAck hb hd, if_pos hv, if_neg (by rw [hs]; exact Bool.false_ne_true), idle]
    refine ⟨_, eq, State.dirOf_setDir, ?_, fun j hj => State.dirOf_setDir_ne (s := u.retireBuf e k) hj,
      ((State.setDir_within (by decide)).trans ((State.retireBuf_within (by decide)).trans (.step (by decide) (.atl s _) .rfl))).keeps⟩
    exact State.retireBuf_bufSeg (s := u)
  · let u := s.clearWrites e k
    have idle : (u.retireBuf e k).retryUpds = u.retireBuf e k := State.retryUpds_idle hq
    have eq : exec (.evictAck e k) s = .next (u.retireBuf e k) := by
      rw [exec_evictAck hb hd, if_neg (by rw [hv]; nofun), if_neg (by rw [hv]; exact fun c => hne (Dir.held.inj c.1)), idle]
    exact ⟨_, eq, fun _ => rfl, State.retireBuf_bufSeg (s := u), ((State.retireBuf_within (by decide)).trans (.step (by decide) (.atl s _) .rfl)).keeps⟩
  · have eq : exec (.segmentLoadComplete e k (s.segOf k).gen true) s =
        .next (s.setAtlEng e { s.atlEng e with held := (s.atlEng e).held ++ [⟨k, false, 0⟩] }) := by
      show execSegmentLoadComplete e k (s.segOf k).gen true s = _
      unfold execSegmentLoadComplete
      dsimp only
      rw [if_neg (by rw [hd, hh]; simp; omega), if_neg (not_not.mpr rfl)]
      rfl
    refine ⟨_, eq, ?_, fun j hj => State.atlEng_setAtlEng_ne hj, fun _ => rfl, (State.setAtlEng_within (by decide)).keeps⟩
    rw [State.atlEng_setAtlEng]
  · have eq : exec (.segmentLoadComplete e k gen v) s = .next (s.segBad e k F.ATL_EVENTS_SEG_UE) := by
      show execSegmentLoadComplete e k gen v s = _
      unfold execSegmentLoadComplete
      dsimp only
      rw [if_neg (by rw [hd, hh]; simp; omega), if_pos hg]
    refine ⟨_, eq, ?_, (State.segBad_within (by decide) (by decide)).keeps⟩
    have w : Within ((.flt :: .atl :: recordParts : List Part)) (s.segBad e k F.ATL_EVENTS_SEG_UE) (s.event F.ATL_EVENTS_SEG_UE 0 (k % 2 ^ 32)) :=
      (State.raise_contained_within (by decide) (by decide)).trans ((State.startRecovery_within (by decide)))
    rw [w.fld (by decide)]
    exact State.fld_event (by decide) rfl (by decide)
  · have eq : exec (.dirtyMaxExpiry e k) s = .next (s.startWb e k) := by
      show execDirtyMaxExpiry e k s = _
      unfold execDirtyMaxExpiry
      rw [hh]
      exact if_pos (by rw [hdirty, hw]; rfl)
    exact ⟨_, eq, rfl, fun _ => rfl, fun _ => rfl, (State.startWb_within (by decide)).keeps⟩
  · have eq : exec (.segmentReceived e k d) s = .next (s.setAtlEng e { s.atlEng e with held := (s.atlEng e).held ++ [⟨k, d, s.now⟩] }) := by
      show execSegmentReceived e k d s = _
      unfold execSegmentReceived
      dsimp only
      rw [if_neg (by rw [hs, hh]; simp; omega)]
    refine ⟨_, eq, ?_, fun j hj => State.atlEng_setAtlEng_ne hj, fun _ => rfl, (State.setAtlEng_within (by decide)).keeps⟩
    rw [State.atlEng_setAtlEng]

end Sys2Proof.Machine
end

section
/-! What a booking leaves. -/

namespace Sys2Proof.Machine

section
variable {s t u : State} {L : List Part}

/-! ### What a booking leaves of the Plotter -/

/-- The Plotter without its ledgers. -/
def Plotter.plan (p : Plotter) : Plotter :=
  { p with die := [], recon := [], chan := [], ldpc := [], parity := [], portIn := [], portOut := [], power := [], powerAll := [], ladder := [] }

theorem Plotter.apply_plan {p : Plotter} {add : Bool} {b : Booking} : (p.apply add b).plan = p.plan := by
  unfold Plotter.apply
  extract_lets g
  split <;> rfl

theorem Plotter.applyAll_plan {add : Bool} (bs : List Booking) (p : Plotter) : (bs.foldl (fun p b => p.apply add b) p).plan = p.plan := by
  induction bs generalizing p with
  | nil => rfl
  | cons b bs ih => exact (ih _).trans Plotter.apply_plan

/-- Only ledgers have changed. -/
def booked (s t : State) : Prop := ∃ p : Plotter, t = { s with plt := p } ∧ p.plan = s.plt.plan

theorem booked.refl (s : State) : booked s s := ⟨s.plt, rfl, rfl⟩
theorem booked.trans (h : booked s t) (k : booked t u) : booked s u := by
  obtain ⟨p, rfl, hp⟩ := h
  obtain ⟨q, rfl, hq⟩ := k
  exact ⟨q, rfl, hq.trans hp⟩
theorem booked.within (h : booked s t) : Within [.plt] t s := by
  obtain ⟨p, rfl, -⟩ := h
  exact .step (by decide) (.plt s p) .rfl

/-- A booking of anything but tiles and staging changes the ledgers alone. -/
theorem State.book1_booked {b : Booking} (hb : b.res ≠ 8 ∧ b.res ≠ 9) (h : s.book1 b = some t) : booked s t := by
  unfold State.book1 at h
  rw [if_neg hb.1, if_neg hb.2] at h
  split at h
  · exact Option.some.inj h ▸ .refl s
  · split at h
    · exact absurd h nofun
    · split at h
      · exact absurd h nofun
      · exact Option.some.inj h ▸ ⟨_, rfl, Plotter.apply_plan⟩

theorem State.bookAll_booked {bs : List Booking} (hb : ∀ b ∈ bs, b.res ≠ 8 ∧ b.res ≠ 9) (h : s.bookAll bs = some t) : booked s t := by
  induction bs generalizing s with
  | nil => exact Option.some.inj h ▸ .refl s
  | cons b bs ih =>
    obtain ⟨v, hv, hu⟩ := Option.bind_eq_some_iff.mp h
    exact (State.book1_booked (hb b List.mem_cons_self) hv).trans (ih (fun c hc => hb c (List.mem_cons_of_mem _ hc)) hu)

/-- Shares whose sides take neither tiles nor staging. -/
def Share.plain (x : Share) : Prop := ∀ e ∈ x.sides, e.1 ≠ 8 ∧ e.1 ≠ 9

theorem State.placeShare_booked {x : Share} {k lo cap n : ℕ} {bs : List Booking} (hx : x.plain) (h : s.placeShare x k lo cap = some (t, n, bs)) : booked s t := by
  unfold State.placeShare at h
  extract_lets most k' l at h
  obtain ⟨v, hv, eq⟩ := Option.map_eq_some_iff.mp h
  obtain rfl : v = t := congrArg Prod.fst eq
  refine State.bookAll_booked (fun b hb => ?_) hv
  obtain hb | hb := List.mem_cons.mp (List.mem_filter.mp hb).1
  · rw [hb]
    exact ⟨by show (0 : ℕ) ≠ 8; decide, by show (0 : ℕ) ≠ 9; decide⟩
  · obtain ⟨e, he, rfl⟩ := List.mem_map.mp hb
    exact hx e he

theorem State.spreadShare_booked {x : Share} (hx : x.plain) {k lo : ℕ} (fuel : ℕ) {bs : List Booking} (h : s.spreadShare x k lo fuel = some (t, bs)) :
    booked s t := by
  induction fuel generalizing s k lo bs with
  | zero =>
    rw [State.spreadShare] at h
    split at h
    · obtain rfl : s = t := congrArg Prod.fst (Option.some.inj h)
      exact .refl s
    · exact absurd h nofun
  | succ n ih =>
    rw [State.spreadShare] at h
    split at h
    · obtain rfl : s = t := congrArg Prod.fst (Option.some.inj h)
      exact .refl s
    · obtain ⟨r, hr, hu⟩ := Option.bind_eq_some_iff.mp h
      obtain ⟨v, hv, eq⟩ := Option.map_eq_some_iff.mp hu
      obtain rfl : v.1 = t := congrArg Prod.fst eq
      exact (State.placeShare_booked hx hr).trans (ih hv)

end

end Sys2Proof.Machine
end

section
/-! Quiet slots, decodes and die operations (O28). -/

namespace Sys2Proof.Machine

section
variable {s t u : State} {L : List Part} {l : ℕ}

/-! Lanes -/

/-- A lane whose job is no orphan is freed within the lanes. -/
theorem State.laneFree_live (h : ∀ j, (s.laneOf l).busy = some j → j.orphan = false) : ∃ x, s.laneFree l = s.setLane l x := by
  unfold State.laneFree
  extract_lets x s1
  have h1 : s1 = s := by
    unfold s1
    split
    · next j hj =>
      unfold State.jobEnds
      rw [h j hj]
      rfl
    · rfl
  rw [h1]
  split
  · exact ⟨_, rfl⟩
  · split
    · exact ⟨_, rfl⟩
    · split <;> exact ⟨_, rfl⟩

theorem State.decodeCounts_ok {q corr die : ℕ} (h : corr < s.fld F.LDP_CFG_CORR_WARN 0) : s.decodeCounts q 0 corr die true = s :=
  if_neg (Nat.not_le.mpr h)

theorem State.decodeCounts_hard {q corr die : ℕ} (h : corr < s.fld F.LDP_CFG_CORR_WARN 0) :
    s.decodeCounts q 0 corr die false = (s.bump F.LDP_CNT_HARD_FAIL_COUNT q 1).mediaCount 0 1 := by
  have same : (s.bump F.LDP_CNT_HARD_FAIL_COUNT q 1).fld F.LDP_CFG_CORR_WARN 0 = s.fld F.LDP_CFG_CORR_WARN 0 := State.fld_bump_ne (.inl (by decide))
  exact if_neg (show ¬ (s.bump F.LDP_CNT_HARD_FAIL_COUNT q 1).fld F.LDP_CFG_CORR_WARN 0 ≤ corr by rw [same]; exact Nat.not_le.mpr h)

theorem State.decodeCounts_soft {q corr die : ℕ} (h : corr < s.fld F.LDP_CFG_CORR_WARN 0) : s.decodeCounts q 1 corr die false = s :=
  if_neg (Nat.not_le.mpr h)

/-! Decodes of a command's read -/

section
variable {g : PageRef} {c : Cmd} {i : IuPlan} {lane mode corr lad die block page plane mask : ℕ} {ok : Bool}

theorem Within.profileOf (h : Within L t s) (hf : Part.fch ∉ L) {d : ℕ} : t.profileOf d = s.profileOf d := by
  unfold State.profileOf State.profSlot State.dieOf
  rw [show t.fch = s.fch from h.keeps .fch hf]

theorem Within.bandOf (h : Within L t s) (hs : Part.svy ∉ L) {d b : ℕ} : t.bandOf d b = s.bandOf d b := by
  unfold State.bandOf
  rw [show t.svy = s.svy from h.keeps .svy hs]

theorem Within.readerOf (h : Within L t s) (hL : Part.cmds ∉ L ∧ Part.svy ∉ L ∧ Part.fch ∉ L) : t.readerOf g = s.readerOf g := by
  obtain ⟨hc, hs, hf⟩ := hL
  have plane : t.iuPlane = s.iuPlane := funext fun i => by
    unfold State.iuPlane
    rw [h.profileOf hf]
  unfold State.readerOf
  rw [show t.cmds = s.cmds from h.keeps .cmds hc, plane, h.bandOf hs]

/-- A decode whose slot nothing counts behind its plan: the lane is freed, the decode counted, its result posted (R297). -/
theorem exec_decodeComplete (hl : lane < 256) (hf : s.fenced 0x0B0 lane = false)
    (hv : (s.laneFree lane).decodeCounts (lane / 64) mode corr die ok = t)
    (hb : (t.sampleAt ⟨die, block, page, plane, if mask % 16 = 0 then 15 else mask % 16⟩).isSome = false ∧ (t.bandRec (t.bandOf die block)).st ≠ .victim ∨
      (t.readerOf ⟨die, block, page, plane, if mask % 16 = 0 then 15 else mask % 16⟩).isSome = true) :
    let g : PageRef := ⟨die, block, page, plane, if mask % 16 = 0 then 15 else mask % 16⟩
    let u := t.emit (postOf { g with mask := if ok then 0 else g.mask } (if ok then mode % 4 else 4 + mode % 4) corr lad)
    (∀ c k i, u.readerOf g = some (c, k, i) → exec (.decodeComplete lane mode ok corr lad die block page plane mask) s =
      .next (if ok then u.memberOk c k i die else u.decodeFailed c k i lane mode lad g)) ∧
    (u.readerOf g = none → exec (.decodeComplete lane mode ok corr lad die block page plane mask) s =
      .next (if ok then u.sampleRead g mode corr else if ((s.laneOf lane).busy.map LdpJob.orphan).getD false then u else u.backgroundFailed lane mode lad g)) := by
  intro g u
  have shape : ∀ r, u.readerOf g = r → exec (.decodeComplete lane mode ok corr lad die block page plane mask) s = (match r with
      | some (c, k, i) => .next (if ok then u.memberOk c k i die else u.decodeFailed c k i lane mode lad g)
      | none => .next (if ok then u.sampleRead g mode corr else if ((s.laneOf lane).busy.map LdpJob.orphan).getD false then u else u.backgroundFailed lane mode lad g)) := by
    intro r hr
    show execDecodeComplete lane mode ok corr lad die block page plane mask s = _
    unfold execDecodeComplete
    rw [if_neg (by rw [hf]; simp; omega), hv]
    dsimp only
    have extra : (if (!((t.sampleAt g).isSome || decide ((t.bandRec (t.bandOf die block)).st = .victim)) || (t.readerOf g).isSome) = true then 0
        else if mode = 1 then ((t.profileOf die).map Profile.softReads).getD 0 else 1) = 0 := if_pos (by
      rcases hb with ⟨sample, victim⟩ | reader
      · rw [sample, decide_eq_false victim]
        rfl
      · rw [reader, Bool.or_true])
    rw [extra, if_pos rfl]
    show (match u.readerOf g with | some (c, k, i) => _ | none => _) = _
    rw [hr]
  exact ⟨fun c k i h => shape _ h, fun h => shape _ h⟩

theorem State.readerOf_running {k : ℕ} (h : s.readerOf g = some (c, k, i)) : c.phase = .running := by
  unfold State.readerOf at h
  obtain ⟨x, hx, eq⟩ := List.exists_of_findSome?_eq_some h
  split at eq
  · exact absurd eq nofun
  · next hp =>
    obtain ⟨e, he, eq'⟩ := List.exists_of_findSome?_eq_some eq
    dsimp only at eq'
    split at eq'
    · obtain rfl : x = c := congrArg Prod.fst (Option.some.inj eq')
      exact not_not.mp hp
    · exact absurd eq' nofun

theorem State.emitZeroPi_out : s.out <:+ (s.emitZeroPi c).out := by
  unfold State.emitZeroPi
  exact out_foldl (fun _ _ => List.suffix_cons _ _) _ s

/-- A Read all of whose IUs have ended and whose data has gone out (R677). -/
theorem State.readDone_read {q : Sq} (hc : s.findCmd c.fn c.sq c.cid = some c) (hp : c.phase ≠ .posting) (hq : s.sqOf c.fn c.sq = some q)
    (hi : c.ius.all (fun i => i.ended) = true) (ho : c.openReads = 0) (hop : c.op = 2) (hout : c.outcome = 0) :
    postsStatus s (s.readDone c) c.fn c.sq c.cid q.cq Sc.success ∧ s.out <:+ (s.readDone c).out ∧
      Within [.cmds, .cpls, .media, .out] (s.readDone c) s := by
  let v : State := (if c.win.isNone then (s.emitZeroPi c).emit (.hostWrite c.fn c.bytes) else s.emitZeroPi c).mediaCount 10 (c.bytes / 512)
  let u := v.mediaCount 12 1
  have wv : Within [.media, .out] v s := (State.mediaCount_within (by decide)).trans
    (.ite ((State.emit_within (by decide)).trans (State.emitZeroPi_within (by decide))) (State.emitZeroPi_within (by decide)))
  have wu : Within [.media, .out] u s := (State.mediaCount_within (by decide)).trans wv
  have eq : s.readDone c = u.endCmd c.fn c.sq c.cid Sc.success := by
    unfold State.readDone
    rw [if_pos (by rw [hi, ho]; rfl)]
    dsimp only
    rw [if_pos ⟨hop, hout⟩, hout]
    rfl
  have out : s.out <:+ u.out := by
    show s.out <:+ State.out (if c.win.isNone then _ else _)
    split
    · exact State.emitZeroPi_out.trans (List.suffix_cons _ _)
    · exact State.emitZeroPi_out
  have w : Within [.cmds, .cpls] (u.endCmd c.fn c.sq c.cid Sc.success) u := State.endCmd_success_within (by decide)
  obtain ⟨posted, -, -, -⟩ := State.endCmd_spec (s := u) (st := Sc.success) ((wu.findCmd (by decide)).trans hc) hp ((wu.sqOf (by decide)).trans hq) (by decide)
  rw [eq]
  refine ⟨⟨_, posts.of_cpls posted (wu.keeps .cpls (by decide))⟩, ?_, (w.mono (by decide)).trans (wu.mono (by decide))⟩
  rw [show (u.endCmd c.fn c.sq c.cid Sc.success).out = u.out from w.keeps .out (by decide)]
  exact out

/-- The decode of the only member of the only IU of a Read ends it (R290, R677). -/
theorem State.memberOk_last {q : Sq} (hr : s.readerOf g = some (c, 0, i)) (hc : s.findCmd c.fn c.sq c.cid = some c) (hi : c.ius = [i]) (hd : i.detour = false)
    (hclaim : i.claim = []) (hm : i.members = [(g.die, 0)] ∨ i.members = [(g.die, 4)]) (hres : i.resv = none) (ho : c.openReads = 0) (hout : c.outcome = 0)
    (hop : c.op = 2) (hq : s.sqOf c.fn c.sq = some q) :
    postsStatus s (s.memberOk c 0 i g.die) c.fn c.sq c.cid q.cq Sc.success ∧ s.out <:+ (s.memberOk c 0 i g.die).out ∧
      Within [.cmds, .cpls, .media, .out, .plt] (s.memberOk c 0 i g.die) s := by
  let j : IuPlan := { i.mark g.die 1 with soft := none, bad := tabSet (fun _ => 0) i.bad g.die 0 }
  let u := s.softReads c j g.die false
  let j' : IuPlan := { j with ended := true, resv := none, claim := [] }
  let k : Cmd := { c with ius := [j'] }
  let v := (u.setIu c 0 j').mapCmd c.fn c.sq c.cid fun x => x
  have wu : Within [.plt] u s := State.softReads_within (by decide)
  have found : v.findCmd c.fn c.sq c.cid = some k := by
    refine (State.findCmd_map (State.findCmd_map ((wu.findCmd (by decide)).trans hc))).trans (congrArg some ?_)
    show ({ c with ius := listSet c.ius 0 j' } : Cmd) = k
    rw [hi]
    rfl
  have members : j.members = [(g.die, 1)] := by
    show i.members.map _ = _
    rcases hm with hm | hm <;> rw [hm] <;> exact congrArg (fun x => [x]) (if_pos rfl)
  have eq : s.memberOk c 0 i g.die = v.readDone k := by
    unfold State.memberOk
    dsimp only
    rw [show (i.mark g.die 1).resv = none from hres]
    show (if u.needed j ≤ (j.members.filter fun m => decide (m.2 = 1)).length then u.iuEnds c 0 j else _) = _
    rw [members, if_pos (by
      unfold State.needed
      rw [show j.detour = false from hd]
      rfl)]
    unfold State.iuEnds
    dsimp only
    rw [show j.claim = [] from hclaim, if_neg (show ¬ j.detour = true by rw [show j.detour = false from hd]; exact Bool.false_ne_true)]
    show (match v.findCmd c.fn c.sq c.cid with | some c => v.readDone c | none => v) = _
    rw [found]
  have wv : Within [.cmds, .plt] v s := (State.mapCmd_within (by decide)).trans ((State.setIu_within (by decide)).trans (wu.mono (by decide)))
  obtain ⟨⟨d, posted⟩, out, w⟩ := State.readDone_read (s := v) (c := k) found (by rw [show k.phase = c.phase from rfl, State.readerOf_running hr]; nofun)
    ((wv.sqOf (by decide)).trans hq) rfl ho hop hout
  rw [eq]
  refine ⟨⟨d, posts.of_cpls posted (wv.keeps .cpls (by decide))⟩, ?_, (w.mono (by decide)).trans (wv.mono (by decide))⟩
  rw [show v.out = s.out from wv.keeps .out (by decide)] at out
  exact out

/-! Background reads -/

section
variable {die n : ℕ} {ref r : RefState} {op o : DieOp} {p : Profile}

/-- An operation waits in the die's queue or for a later frame. -/
def State.waiting (s : State) (die : ℕ) (o : DieOp) : Prop := o ∈ s.dieQueue die ∨ ∃ w, (w, die, o) ∈ s.plt.later

/-- A read for the device's own sake, in a reference state, that was numbered from `n` on. -/
def State.awaits (s : State) (die : ℕ) (ref : RefState) (n : ℕ) : Prop := ∃ o, s.waiting die o ∧ o.kind = 4 ∧ o.ref = ref ∧ n ≤ o.id

theorem State.waiting_of_plan (h : t.plt.plan = s.plt.plan) (ho : s.waiting die o) : t.waiting die o := by
  have queue : t.plt.queue = s.plt.queue := (congrArg Plotter.queue h : t.plt.plan.queue = s.plt.plan.queue)
  have later : t.plt.later = s.plt.later := (congrArg Plotter.later h : t.plt.plan.later = s.plt.plan.later)
  unfold State.waiting State.dieQueue
  rw [queue, later]
  exact ho

theorem State.pushDieOp_waiting (ho : o = op ∨ s.waiting die o) : (s.pushDieOp die op).waiting die o := by
  have later : ∀ w, (∃ v, (v, die, o) ∈ s.plt.later ++ [(w, die, op)]) ∨ o ∈ s.dieQueue die := fun w => by
    rcases ho with rfl | ho | ⟨v, hv⟩
    · exact .inl ⟨w, by simp⟩
    · exact .inr ho
    · exact .inl ⟨v, List.mem_append_left _ hv⟩
  unfold State.pushDieOp
  extract_lets src u
  split
  · exact (later _).symm
  · split
    · next v hv =>
      obtain ⟨p, hp, ins⟩ := Option.bind_eq_some_iff.mp hv
      unfold State.insertOp at ins
      extract_lets q q' at ins
      split at ins
      · obtain rfl := Option.some.inj ins
        have mem : o = op ∨ o ∈ s.dieQueue die → o ∈ q' := fun h => by
          rcases h with rfl | h
          · exact List.mem_append_right _ List.mem_cons_self
          · by_cases hl : o.latest ≤ op.latest
            · exact List.mem_append_left _ (List.mem_filter.mpr ⟨h, decide_eq_true hl⟩)
            · exact List.mem_append_right _ (List.mem_cons_of_mem _ (List.mem_filter.mpr ⟨h, decide_eq_true (by omega)⟩))
        have queue : State.dieQueue { u with plt := { u.plt with queue := tabSet (fun _ => []) u.plt.queue die q' } } die = q' := tabGet_set_self ..
        rcases ho with h | h | h
        · exact .inl (Eq.mpr (congrArg (o ∈ ·) queue) (mem (.inl h)))
        · exact .inl (Eq.mpr (congrArg (o ∈ ·) queue) (mem (.inr h)))
        · exact .inr h
      · exact absurd ins nofun
    · exact (later _).symm

theorem State.pushDieOp_nextOp : (s.pushDieOp die op).plt.nextOp = s.plt.nextOp + 1 := by
  unfold State.pushDieOp
  extract_lets src u
  split
  · rfl
  · split
    · next v hv =>
      obtain ⟨p, hp, ins⟩ := Option.bind_eq_some_iff.mp hv
      unfold State.insertOp at ins
      dsimp only at ins
      split at ins
      · obtain rfl := Option.some.inj ins
        rfl
      · exact absurd ins nofun
    · rfl

/-- A background read is a converted read of the die, numbered last, and takes no other away (R290). -/
theorem State.backRead_spec (hp : s.profileOf die = some p) : (s.backRead die ref).awaits die ref s.plt.nextOp ∧
    (∀ o, s.waiting die o → (s.backRead die ref).waiting die o) ∧ s.plt.nextOp ≤ (s.backRead die ref).plt.nextOp ∧ Within [.plt] (s.backRead die ref) s := by
  have paid : ∃ u op, s.backRead die ref = u.pushDieOp die op ∧ (op.kind = 4 ∧ op.ref = ref ∧ op.id = u.plt.nextOp) ∧
      (∀ o, s.waiting die o → u.waiting die o) ∧ u.plt.nextOp = s.plt.nextOp ∧ Within [.plt] u s := by
    unfold State.backRead
    rw [hp]
    refine ⟨_, _, rfl, ⟨rfl, rfl, rfl⟩, ?_⟩
    split
    · next v bs hv =>
      have sides : Share.plain ⟨die, p.tR, s.readSides die p⟩ := by
        intro e he
        unfold State.readSides at he
        simp only [List.mem_cons, List.not_mem_nil, or_false] at he
        rcases he with rfl | rfl | rfl | rfl <;> simp
      have b := State.spreadShare_booked sides 64 hv
      have w := b.within
      obtain ⟨q, rfl, plan⟩ := b
      exact ⟨fun o ho => (State.waiting_of_plan (s := s) plan ho : ({ s with plt := q } : State).waiting die o),
        (congrArg Plotter.nextOp plan : q.plan.nextOp = s.plt.plan.nextOp), (State.enterDebt_within (by decide)).trans w⟩
    · exact ⟨fun _ ho => ho, rfl, State.oweDie_within (by decide)⟩
  obtain ⟨u, op, eq, ⟨kind, ref, id⟩, kept, next, w⟩ := paid
  rw [eq]
  refine ⟨⟨op, State.pushDieOp_waiting (.inl rfl), kind, ref, ?_⟩, fun o ho => State.pushDieOp_waiting (.inr (kept o ho)), ?_,
    (State.pushDieOp_within (by decide)).trans w⟩
  · exact le_of_eq (next.symm.trans id.symm)
  · rw [State.pushDieOp_nextOp, next]
    exact Nat.le_succ _

end

end

/-! Decodes that fail behind no command -/

section
variable {g : PageRef} {p : Profile} {lane step : ℕ}

theorem State.backReads_spec (hp : s.profileOf g.die = some p) (n : ℕ) :
    let t := (List.range n).foldl (fun (s : State) j => s.backRead g.die (.soft (j + 1))) s
    (∀ j, j < n → t.awaits g.die (.soft (j + 1)) s.plt.nextOp) ∧ s.plt.nextOp ≤ t.plt.nextOp ∧ Within [.plt] t s := by
  induction n with
  | zero => exact ⟨fun j hj => absurd hj (Nat.not_lt_zero j), Nat.le_refl _, .rfl⟩
  | succ n ih =>
    intro t
    obtain ⟨old, next, w⟩ := ih
    have eq : t = ((List.range n).foldl (fun (s : State) j => s.backRead g.die (.soft (j + 1))) s).backRead g.die (.soft (n + 1)) := by
      unfold t
      rw [List.range_succ, List.foldl_append]
      rfl
    obtain ⟨⟨o, ho, hk, hr, hi⟩, kept, next', w'⟩ := State.backRead_spec (ref := .soft (n + 1)) ((w.profileOf (by decide)).trans hp)
    rw [eq]
    refine ⟨fun j hj => ?_, next.trans next', w'.trans w⟩
    by_cases h : j = n
    · rw [h]
      exact ⟨o, ho, hk, hr, next.trans hi⟩
    · obtain ⟨o, ho, rest⟩ := old j (by omega)
      exact ⟨o, kept o ho, rest⟩

/-- A hard decode that fails is followed by the soft reads of the profile, or by the first step of the ladder (R290). -/
theorem State.backgroundFailed_hard (hp : s.profileOf g.die = some p) (hm : 0 < p.softReads ∨ 0 < min p.retryLen (s.fld F.LDP_CFG_LADDER_MAX 0)) :
    (if 0 < p.softReads then ∀ j, j < p.softReads → (s.backgroundFailed lane 0 step g).awaits g.die (.soft (j + 1)) s.plt.nextOp
      else (s.backgroundFailed lane 0 step g).awaits g.die (.set 1) s.plt.nextOp) ∧ Within [.plt] (s.backgroundFailed lane 0 step g) s := by
  unfold State.backgroundFailed
  dsimp only
  rw [hp]
  dsimp only [Option.map_some, Option.getD_some]
  by_cases h : 0 < p.softReads
  · obtain ⟨reads, -, w⟩ := State.backReads_spec hp p.softReads
    rw [if_pos h, if_pos ⟨rfl, h⟩]
    exact ⟨reads, w⟩
  · obtain ⟨read, -, -, w⟩ := State.backRead_spec (ref := .set 1) hp
    rw [if_neg h, if_neg fun c => h c.2, if_pos (.inl ⟨by decide, hm.resolve_left h⟩)]
    exact ⟨read, w⟩

/-- A soft decode that fails without a ladder leaves the slot uncorrected (R290, R299). -/
theorem State.backgroundFailed_last (hp : s.profileOf g.die = some p) (hm : min p.retryLen (s.fld F.LDP_CFG_LADDER_MAX 0) = 0)
    (hs : s.svy.sampling = []) (hv : (s.bandRec (s.bandOf g.die g.block)).st ≠ .victim) :
    Within [.svy] (s.backgroundFailed lane 1 step g) (s.uncorrected lane g) := by
  unfold State.backgroundFailed
  extract_lets b n steps sampled x u src v w
  have none : steps = 0 := by
    unfold steps
    rw [hp]
    exact hm
  have no : sampled = false := by
    unfold sampled State.sampleAt
    rw [hs]
    rfl
  have eq : w = v := if_neg (by rw [no]; simp [hv, x, b])
  rw [if_neg (by simp), if_neg (by rw [none]; simp), if_neg fun c => hv c.1, eq]
  exact .step (by decide) (.svy u _) .rfl

/-- What an uncorrected slot counts and posts (R299). -/
theorem State.uncorrected_spec : (s.uncorrected lane g).fld F.LDP_EVENTS_UNCORRECTED (chanQuad (dieChan g.die)) = 1 ∧
    (s.uncorrected lane g).fld F.LDP_CNT_UNCORR_COUNT (chanQuad (dieChan g.die)) = satAdd (2 ^ 32 - 1) (s.fld F.LDP_CNT_UNCORR_COUNT (chanQuad (dieChan g.die))) 1 ∧
    postOf g 3 0 0 :: s.out <:+ (s.uncorrected lane g).out ∧
    Within (([.media, .svy, .reg .LDP_CNT_UNCORR, .reg .LDP_EVENTS, .reg .PAR_EVENTS] : List Part) ++ eventParts) (s.uncorrected lane g) s := by
  unfold State.uncorrected
  extract_lets q u v
  let x : State := ((s.emit (postOf g 3 0 0)).bump F.LDP_CNT_UNCORR_COUNT q 1).mediaCount 3 1
  have wx : Within [.out, .media, .reg .LDP_CNT_UNCORR] x s :=
    (State.mediaCount_within (by decide)).trans ((State.bump_within (by decide)).trans (State.emit_within (by decide)))
  have wu : Within (.reg .LDP_EVENTS :: eventParts) u x := State.event_within (by decide) (by decide)
  have wv : Within recordParts v u := State.record_within fun _ h => h
  have we : Within (([.svy, .reg .PAR_EVENTS] : List Part) ++ eventParts) (v.eraseAt (v.bandOf g.die g.block) g.page (dieSheet g.die)) v := State.eraseAt_within (by decide)
  refine ⟨?_, ?_, ?_, (we.mono (by decide)).trans ((wv.mono (by decide)).trans ((wu.mono (by decide)).trans (wx.mono (by decide))))⟩
  · rw [we.fld (by decide), wv.fld (by decide)]
    exact State.fld_event (s := x) (by decide) rfl (by decide)
  · rw [we.fld (by decide), wv.fld (by decide), wu.fld (by decide)]
    exact State.fld_bump (s := s.emit (postOf g 3 0 0)) (by decide)
  · have h1 : postOf g 3 0 0 :: s.out <:+ u.out := State.event_out (s := x)
    have h2 : u.out <:+ v.out := State.record_out
    refine h1.trans (h2.trans ?_)
    unfold State.eraseAt
    extract_lets y m z
    split
    · exact List.suffix_refl _
    · split
      · exact State.event_out (s := z)
      · exact List.suffix_refl v.out

end

/-! Die operations -/

section
variable {die b sh : ℕ} {r : Running} {p : Profile} {op : DieOp} {passed : Bool}

theorem State.retryMoves_idle (hd : s.plt.dieMoves = []) (hf : s.plt.fnMoves = []) : s.retryMoves = s := by
  unfold State.retryMoves
  dsimp only
  rw [hd]
  exact congrArg (fun l => List.foldl _ s l) hf

theorem State.unbook_plt {bs : List Booking} : (s.unbook bs).plt.running = s.plt.running ∧ (s.unbook bs).plt.dieMoves = s.plt.dieMoves ∧
    (s.unbook bs).plt.fnMoves = s.plt.fnMoves := by
  unfold State.unbook
  extract_lets u mark
  have plt : u.plt = s.plt := by
    have w : Within [.out, .gaz, .mgmt, .pwr, .fns, .til, .reg .TIL_POOL_WM, .reg .CHR_ALERT_STATUS, .reg .GAZ_COUNTS] u s :=
      Within.foldl fun _ _ => State.releaseExtra_within (by decide)
    exact w.keeps .plt (by decide)
  have plan := Plotter.applyAll_plan (add := false) bs u.plt
  rw [← plt]
  exact ⟨(congrArg Plotter.running plan :), (congrArg Plotter.dieMoves plan :), (congrArg Plotter.fnMoves plan :)⟩

/-- A read that counts on its block without reaching a limit (R172). -/
theorem State.countReads_plain (hs : (s.bandRec b).st ≠ .free) (hl : ((s.profileOf (128 * sh + b % 128)).map Profile.readLimit).getD 0 = 0) :
    s.countReads b sh 1 = s.setBand b { s.bandRec b with
      reads := tabSet (fun _ => 0) (s.bandRec b).reads sh (satAdd (2 ^ 24 - 1) (tabGet (fun _ => 0) (s.bandRec b).reads sh) 1) } := by
  unfold State.countReads
  extract_lets x c c' u lim
  have none : lim = 0 := hl
  rw [if_neg hs, if_neg fun h => h.1 none]

/-- What the end of a read leaves of the counts of its block. -/
def State.readCounted (s t : State) (b sh : ℕ) : Prop :=
  tabGet (fun _ => 0) (t.bandRec b).reads sh = satAdd (2 ^ 24 - 1) (tabGet (fun _ => 0) (s.bandRec b).reads sh) 1 ∧ ∀ k, k ≠ b → t.bandRec k = s.bandRec k

theorem State.countReads_counted (hs : (s.bandRec b).st ≠ .free) (hl : ((s.profileOf (128 * sh + b % 128)).map Profile.readLimit).getD 0 = 0) :
    s.readCounted (s.countReads b sh 1) b sh ∧ Within [.svy] (s.countReads b sh 1) s := by
  rw [State.countReads_plain hs hl]
  refine ⟨⟨?_, fun k hk => State.bandRec_setBand_ne hk⟩, State.setBand_within (by decide)⟩
  rw [State.bandRec_setBand]
  exact tabGet_set_self ..

theorem State.readCounted.of_svy (h : s.readCounted t b sh) (hu : u.svy = t.svy) : s.readCounted u b sh := by
  unfold State.readCounted State.bandRec at *
  rw [hu]
  exact h

theorem State.memberRead_none (h : op.cmd = none) : s.memberRead op die = s := by
  unfold State.memberRead
  rw [h]

/-- The end of an array read under its own epoch (R101, R172). -/
theorem State.readEnds_current (hk : op.kind = 0) (he : op.epoch = s.dieEpochOf die) (ho : op.orphan = false) (hs : (s.bandRec b).st ≠ .free)
    (hl : ((s.profileOf (128 * dieSheet die + b % 128)).map Profile.readLimit).getD 0 = 0) :
    s.readCounted (s.readEnds op b die) b (dieSheet die) ∧ (op.cmd = none → (s.readEnds op b die).cmds = s.cmds) ∧ Within [.cmds, .svy] (s.readEnds op b die) s := by
  obtain ⟨count, w⟩ := State.countReads_counted hs hl
  have epoch : (s.countReads b (dieSheet die) 1).dieEpochOf die = s.dieEpochOf die := by
    unfold State.dieEpochOf
    rw [show (s.countReads b (dieSheet die) 1).plt = s.plt from w.keeps .plt (by decide)]
  have eq : s.readEnds op b die = (s.countReads b (dieSheet die) 1).memberRead op die := by
    unfold State.readEnds
    rw [show (if op.kind = 4 then s else s.countReads b (dieSheet die) 1) = s.countReads b (dieSheet die) 1 from if_neg (by rw [hk]; decide)]
    dsimp only
    rw [if_neg fun h => h.1 (he.trans epoch.symm), State.opEnds, ho]
    rfl
  have wm : Within [.cmds] ((s.countReads b (dieSheet die) 1).memberRead op die) (s.countReads b (dieSheet die) 1) := State.memberRead_within (by decide)
  rw [eq]
  refine ⟨count.of_svy (wm.keeps .svy (by decide)), fun h => ?_, (wm.mono (by decide)).trans (w.mono (by decide))⟩
  rw [State.memberRead_none h]
  exact w.keeps .cmds (by decide)

/-- The end of a read of an older epoch whose command has been re-planned (Table 03-7, R172). -/
theorem State.readEnds_stale (hk : op.kind = 0) (he : op.epoch ≠ s.dieEpochOf die) (hw : s.wasReplanned op = true) (hs : (s.bandRec b).st ≠ .free)
    (hl : ((s.profileOf (128 * dieSheet die + b % 128)).map Profile.readLimit).getD 0 = 0) :
    s.readCounted (s.readEnds op b die) b (dieSheet die) ∧ (s.readEnds op b die).fld F.PLT_EVENTS_STALE_DISCARD 0 = 1 ∧
      (s.readEnds op b die).fld F.PLT_STALE_COUNT 0 = satAdd (2 ^ 32 - 1) (s.fld F.PLT_STALE_COUNT 0) 1 ∧
      ((s.readEnds op b die).plt.running = s.plt.running ∧ (s.readEnds op b die).plt.dieMoves = s.plt.dieMoves ∧ (s.readEnds op b die).plt.fnMoves = s.plt.fnMoves) ∧
      Within (([.cmds, .plt, .pwr, .svy, .til, .reg .PLT_STALE, .reg .PLT_EVENTS, .reg .TIL_POOL_WM] : List Part) ++ eventParts) (s.readEnds op b die) s := by
  obtain ⟨count, w⟩ := State.countReads_counted hs hl
  let u := s.countReads b (dieSheet die) 1
  have plt : u.plt = s.plt := w.keeps .plt (by decide)
  have eq : s.readEnds op b die = u.staleEnds op die := by
    unfold State.readEnds
    rw [show (if op.kind = 4 then s else s.countReads b (dieSheet die) 1) = s.countReads b (dieSheet die) 1 from if_neg (by rw [hk]; decide)]
    refine if_pos ⟨?_, hw⟩
    unfold State.dieEpochOf at *
    rw [show (s.countReads b (dieSheet die) 1).plt = s.plt from plt]
    exact he
  rw [eq]
  unfold State.staleEnds
  extract_lets v x
  have wv : Within unbookParts v u := State.unbook_within fun _ h => h
  have wx : Within [.cmds] x v := by
    unfold x
    split
    · exact .ite .rfl (State.mapCmd_within (by decide))
    · exact .rfl
  have wb : Within [.reg .PLT_STALE] (x.bump F.PLT_STALE_COUNT 0 1) x := State.bump_within (by decide)
  have we : Within (.reg .PLT_EVENTS :: eventParts) ((x.bump F.PLT_STALE_COUNT 0 1).event F.PLT_EVENTS_STALE_DISCARD 0 die) (x.bump F.PLT_STALE_COUNT 0 1) :=
    State.event_within (by decide) (by decide)
  refine ⟨?_, State.fld_event (by decide) rfl (by decide), ?_, ?_, ?_⟩
  · refine count.of_svy ?_
    rw [show State.svy _ = _ from we.keeps .svy (by decide), show State.svy _ = _ from wb.keeps .svy (by decide),
      show x.svy = _ from wx.keeps .svy (by decide)]
    exact wv.keeps .svy (by decide)
  · rw [we.fld (by decide), State.fld_bump (by decide), wx.fld (by decide), wv.fld (by decide), w.fld (by decide)]
    rfl
  · rw [show State.plt _ = _ from we.keeps .plt (by decide), show State.plt _ = _ from wb.keeps .plt (by decide),
      show x.plt = _ from wx.keeps .plt (by decide), ← plt]
    exact State.unbook_plt
  · exact (we.mono (by decide)).trans ((wb.mono (by decide)).trans ((wx.mono (by decide)).trans ((wv.mono (by decide)).trans (w.mono (by decide)))))

/-- The state of a die whose running operation has ended: the operation, its windows and its context's part in it are gone. -/
def State.opGone (s : State) (die : ℕ) (r : Running) : State :=
  let s := { s with plt := { s.plt with running := tabSet (fun _ => none) s.plt.running die none } }
  let x := s.ctxOf die
  let s := s.setCtx die { x with inRead := false, st := if x.st = .running ∧ (x.long = 0 ∨ r.op.kind = 1 ∨ r.op.kind = 2) then .idle else x.st,
                                 long := if r.op.kind = 1 ∨ r.op.kind = 2 then 0 else x.long }
  s.setClosed die ((s.closedList die).filter (fun w => decide (w.op ≠ r.op.id + 1 ∨ r.op.kind = 0)))

theorem State.opGone_spec : Within [.plt, .trv] (s.opGone die r) s ∧ (s.opGone die r).runningOp die = none ∧ otherCtxs s (s.opGone die r) die ∧
    (s.opGone die r).plt.dieMoves = s.plt.dieMoves ∧ (s.opGone die r).plt.fnMoves = s.plt.fnMoves ∧ (s.opGone die r).dieEpochOf die = s.dieEpochOf die := by
  unfold State.opGone
  extract_lets src u x v
  have wu : Within [.plt] u s := .step (by decide) (.plt s _) .rfl
  refine ⟨(State.setClosed_within (by decide)).trans ((State.setCtx_within (by decide)).trans (wu.mono (by decide))), ?_, fun k hk => ?_, rfl, rfl, rfl⟩
  · exact tabGet_set_self (d := fun _ => (none : Option Running)) s.plt.running die none
  · exact State.ctxOf_setCtx_ne (s := u) hk

theorem exec_dieOperationComplete (hr : s.runningOp die = some r) (hp : s.profileOf die = some p) (hs : r.suspended = false) (hk : r.op.kind = 0) :
    exec (.dieOperationComplete die passed) s =
      .next (((s.opGone die r).readEnds r.op (s.bandOf die ((s.ctxOf die).row / max 1 p.pages)) die).retryMoves.boundary die) := by
  show execDieOperationComplete die passed s = _
  unfold execDieOperationComplete
  rw [hr, hp]
  dsimp only
  rw [hs, if_neg Bool.false_ne_true, hk, if_neg (by decide), if_neg (by decide)]
  unfold State.opGone
  rw [hk]

end

section
variable {die b sh : ℕ} {r y : Running} {p : Profile} {passed : Bool}

/-- The state of a die whose read under a suspended operation has ended. -/
def State.readGone (s : State) (die : ℕ) : State :=
  let s := { s with plt := { s.plt with reading := tabSet (fun _ => none) s.plt.reading die none } }
  s.setCtx die { s.ctxOf die with inRead := false }

theorem State.readGone_spec : Within [.plt, .trv] (s.readGone die) s ∧ (s.readGone die).runningOp die = s.runningOp die ∧
    tabGet (fun _ => none) (s.readGone die).plt.reading die = none ∧ otherCtxs s (s.readGone die) die ∧
    (s.readGone die).plt.dieMoves = s.plt.dieMoves ∧ (s.readGone die).plt.fnMoves = s.plt.fnMoves ∧ (s.readGone die).dieEpochOf die = s.dieEpochOf die := by
  unfold State.readGone
  extract_lets src u
  have wu : Within [.plt] u s := .step (by decide) (.plt s _) .rfl
  refine ⟨(State.setCtx_within (by decide)).trans (wu.mono (by decide)), rfl, ?_, fun k hk => ?_, rfl, rfl, rfl⟩
  · exact tabGet_set_self (d := fun _ => (none : Option Running)) s.plt.reading die none
  · exact State.ctxOf_setCtx_ne (s := u) hk

theorem exec_dieOperationComplete_reading (hr : s.runningOp die = some r) (hp : s.profileOf die = some p) (hs : r.suspended = true)
    (hy : tabGet (fun _ => none) s.plt.reading die = some y) : exec (.dieOperationComplete die passed) s =
      .next (((s.readGone die).readEnds y.op (s.bandOf die ((s.ctxOf die).row / max 1 p.pages)) die).retryMoves.boundary die) := by
  show execDieOperationComplete die passed s = _
  unfold execDieOperationComplete
  rw [hr, hp]
  dsimp only
  rw [hs, if_pos rfl, hy]
  rfl

theorem exec_dieOperationComplete_erase (hr : s.runningOp die = some r) (hp : s.profileOf die = some p) (hs : r.suspended = false) (hk : r.op.kind = 2)
    (hb : (s.bandRec (s.bandOf die ((s.ctxOf die).row / max 1 p.pages))).st = .erasing) : exec (.dieOperationComplete die true) s =
      .next (((s.opGone die r).erasePassed (s.bandOf die ((s.ctxOf die).row / max 1 p.pages)) (dieSheet die)).retryMoves.boundary die) := by
  show execDieOperationComplete die true s = _
  unfold execDieOperationComplete
  rw [hr, hp]
  dsimp only
  rw [hs, if_neg Bool.false_ne_true, hk, if_neg (by decide), if_pos rfl]
  unfold State.opGone
  rw [hk]
  exact if_pos hb

theorem State.freeUp_bandRec : ((s.freeUp b).bandRec b).reads = (s.bandRec b).reads ∧ ((s.freeUp b).bandRec b).erases = (s.bandRec b).erases ∧
    ∀ k, k ≠ b → (s.freeUp b).bandRec k = s.bandRec k := by
  have moved : ∀ v : Band, (s.moveBand b v).bandRec b = v := fun v => (State.bandRec_setBand : (s.setBand b v).bandRec b = v)
  unfold State.freeUp
  extract_lets x y
  rw [moved]
  exact ⟨by split <;> rfl, by split <;> rfl, fun k hk => (State.bandRec_setBand_ne hk : (s.setBand b _).bandRec k = _)⟩

/-- A passed erase of a member (R159, R172). -/
theorem State.erasePassed_spec : tabGet (fun _ => 0) ((s.erasePassed b sh).bandRec b).reads sh = 0 ∧
    tabGet (fun _ => 0) ((s.erasePassed b sh).bandRec b).erases sh = satAdd (2 ^ 24 - 1) (tabGet (fun _ => 0) (s.bandRec b).erases sh) 1 ∧
    (∀ k, k ≠ b → (s.erasePassed b sh).bandRec k = s.bandRec k) ∧ (s.erasePassed b sh).plt = s.plt ∧
    ((s.bandRec b).cls ≠ 3 → Within [.atl, .svy] (s.erasePassed b sh) s) := by
  unfold State.erasePassed
  extract_lets x0 x u
  have reads : tabGet (fun _ => 0) x.reads sh = 0 := tabGet_set_self _ x0.reads sh 0
  have erases : tabGet (fun _ => 0) x.erases sh = satAdd (2 ^ 24 - 1) (tabGet (fun _ => 0) (s.bandRec b).erases sh) 1 := tabGet_set_self _ x0.erases sh _
  have set : ((s.setBand b x).bandRec b) = x := State.bandRec_setBand
  obtain ⟨freads, ferases, fother⟩ := State.freeUp_bandRec (s := s.setBand b x) (b := b)
  rw [set] at freads ferases
  have wu : Within [.atl, .svy] u s := (State.freeUp_within (by decide)).trans (State.setBand_within (by decide))
  have rest : ∀ k, k ≠ b → u.bandRec k = s.bandRec k := fun k hk => (fother k hk).trans (State.bandRec_setBand_ne hk)
  split
  · have values : tabGet (fun _ => 0) (u.bandRec b).reads sh = 0 ∧
        tabGet (fun _ => 0) (u.bandRec b).erases sh = satAdd (2 ^ 24 - 1) (tabGet (fun _ => 0) (s.bandRec b).erases sh) 1 :=
      ⟨(congrArg (fun m => tabGet (fun _ => 0) m sh) freads).trans reads, (congrArg (fun m => tabGet (fun _ => 0) m sh) ferases).trans erases⟩
    split
    · next hc =>
      have wa : Within ([.pwr, .reg .PWR_EVENTS] ++ eventParts) u.armAgain u := State.armAgain_within (by decide)
      have svy : u.armAgain.svy = u.svy := wa.keeps .svy (by decide)
      have same : ∀ k, u.armAgain.bandRec k = u.bandRec k := fun k => by rw [State.bandRec, State.bandRec, svy]
      refine ⟨by rw [same]; exact values.1, by rw [same]; exact values.2, fun k hk => (same k).trans (rest k hk), ?_, fun h => absurd hc h⟩
      rw [show u.armAgain.plt = u.plt from wa.keeps .plt (by decide)]
      exact wu.keeps .plt (by decide)
    · exact ⟨values.1, values.2, rest, wu.keeps .plt (by decide), fun _ => wu⟩
  · refine ⟨?_, ?_, fun k hk => State.bandRec_setBand_ne hk, rfl, fun _ => State.setBand_within (by decide)⟩
    · rw [set]
      exact reads
    · rw [set]
      exact erases

end

end

/-- Settles O28: a decode frees its lane and posts its result, and the end of a die operation is the end of its read or erase on the state
without the operation. -/
theorem quietSlotsDecodesAndDieOperationsEnd : Obligations.QuietSlotsDecodesAndDieOperationsEnd := by
  unfold Obligations.QuietSlotsDecodesAndDieOperationsEnd
  refine fun s => ⟨fun c hc => ?_, fun lane id j hj => ?_, fun lane die block page plane mask corr lad hl hd hf hcorr hj => ?_, fun die p r passed hr hp hdm hfm => ?_⟩
  · let u : State := { s with plt := { s.plt with quiet := none, quietLeft := 0 }, ctr := { s.ctr with anchorDue := some c, unquiet := [] } }
    have eq : exec .quietSlotEnd s = .next ((u.demandSample (64 + c)).event F.PLT_EVENTS_QUIET_DONE 0 c) := by
      show execQuietSlotEnd s = _
      unfold execQuietSlotEnd
      rw [hc]
    have we : Within (.reg .PLT_EVENTS :: eventParts) ((u.demandSample (64 + c)).event F.PLT_EVENTS_QUIET_DONE 0 c) (u.demandSample (64 + c)) :=
      State.event_within (by decide) (by decide)
    have wu : Within [.ctr, .plt] u s := .update [.plt, .ctr] (by decide) .rfl rfl
    have plt := we.keeps .plt (by decide)
    have ctr := we.keeps .ctr (by decide)
    exact ⟨_, eq, congrArg Plotter.quiet plt, congrArg Plotter.quietLeft plt, congrArg Ctr.anchorDue ctr, congrArg Ctr.unquiet ctr,
      State.fld_event (s := u.demandSample (64 + c)) (by decide) rfl (by decide),
      ((we.mono (by decide)).trans ((State.demandSample_within (by decide)).trans (wu.mono (by decide)))).keeps⟩
  · intro own
    let x : Lane := { s.laneOf lane with res := (s.laneOf lane).res.filter fun k => decide (k.id ≠ id), yielded := (s.laneOf lane).yielded.filter fun b => !own b }
    have gone : ∀ k ∈ x.res, k.id ≠ id := fun k hk => of_decide_eq_true (List.mem_filter.mp hk).2
    refine ⟨fun hb => ?_, fun hb => ?_⟩
    · let u : State := { s with lanes := s.lanes.map fun (e : ℕ × Lane) => (e.1, { e.2 with yielded := e.2.yielded.filter fun b => !own b }) }
      let y : Lane := { x with busy := some j, yielded := (s.laneOf lane).busy.toList ++ x.yielded }
      have eq : exec (.softReservationStart lane id) s = .next (u.setLane lane y) := by
        show execSoftReservationStart lane id s = _
        unfold execSoftReservationStart
        dsimp only
        rw [hj]
        exact if_neg (by rw [show (s.lanes.any _) = _ from hb]; exact Bool.false_ne_true)
      have got : (u.setLane lane y).laneOf lane = y := State.laneOf_setLane
      refine ⟨_, eq, congrArg Lane.busy got, ?_, congrArg Lane.yielded got, fun l hl => ?_, ?_⟩
      · rw [got]
        exact gone
      · refine (State.laneOf_setLane_ne hl).trans ?_
        have found : tabFind u.lanes l = (tabFind s.lanes l).map fun (e : Lane) => { e with yielded := e.yielded.filter fun b => !own b } :=
          tabFind_mapVal (fun (e : Lane) => ({ e with yielded := e.yielded.filter fun b => !own b } : Lane)) s.lanes l
        unfold State.laneOf tabGet
        rw [found]
        cases tabFind s.lanes l <;> rfl
      · exact ((State.setLane_within (by decide)).trans (.step (by decide) (.lanes s _) .rfl)).keeps
    · have eq : exec (.softReservationStart lane id) s = .next (s.setLane lane x) := by
        show execSoftReservationStart lane id s = _
        unfold execSoftReservationStart
        dsimp only
        rw [hj]
        exact if_pos hb
      have got : (s.setLane lane x).laneOf lane = x := State.laneOf_setLane
      have busy : x.busy = (s.laneOf lane).busy := rfl
      refine ⟨_, eq, (congrArg Lane.busy got).trans busy, ?_, fun l hl => State.laneOf_setLane_ne hl, (State.setLane_within (by decide)).keeps⟩
      rw [got]
      exact gone
  · intro m steps more
    let g : PageRef := ⟨die, block, page, plane, m⟩
    obtain ⟨x, free⟩ := State.laneFree_live hj
    let v := s.setLane lane x
    have wv : Within [.lanes] v s := State.setLane_within (by decide)
    have warn : corr < v.fld F.LDP_CFG_CORR_WARN 0 := by
      rw [wv.fld (by decide)]
      exact hcorr
    have gone : (((s.laneOf lane).busy.map LdpJob.orphan).getD false) = false := by
      cases hb : (s.laneOf lane).busy with
      | none => rfl
      | some j => exact hj j hb
    refine ⟨fun c i q hread hc hi hdet hclaim hmem hcont hres ho hout hop hq => ?_, fun hread hs hv => ⟨?_, fun p hp hm => ?_, fun p hp hm => ?_⟩⟩
    · have reader : v.readerOf g = some (c, 0, i) := (wv.readerOf (by decide)).trans hread
      have dec := exec_decodeComplete (mode := 0) (ok := true) (lad := lad) (page := page) (plane := plane) (mask := mask) hl hf
        (show (s.laneFree lane).decodeCounts (lane / 64) 0 corr die true = v by rw [free]; exact State.decodeCounts_ok warn)
        (.inr (show (v.readerOf g).isSome = true by rw [reader]; rfl))
      let u := v.emit (postOf { g with mask := 0 } 0 corr lad)
      have wu : Within [.lanes, .out] u s := (State.emit_within (by decide)).trans (wv.mono (by decide))
      obtain ⟨⟨d, posted⟩, out, w⟩ := State.memberOk_last (s := u) (g := g) reader ((wu.findCmd (by decide)).trans hc) hi hdet hclaim hmem hres ho hout hop
        ((wu.sqOf (by decide)).trans hq)
      refine ⟨u.memberOk c 0 i die, dec.1 c 0 i reader, ⟨d, posts.of_cpls posted (wu.keeps .cpls (by decide))⟩,
        sent_of_suffix (List.suffix_refl _) (show postOf _ 0 corr lad :: s.out <:+ _ from out),
        ((w.mono (by decide)).trans (wu.mono (by decide))).keeps⟩
    · have reader : v.readerOf g = none := (wv.readerOf (by decide)).trans hread
      have dec := exec_decodeComplete (mode := 0) (ok := true) (lad := lad) (page := page) (plane := plane) (mask := mask) hl hf
        (show (s.laneFree lane).decodeCounts (lane / 64) 0 corr die true = v by rw [free]; exact State.decodeCounts_ok warn)
        (.inl ⟨by unfold State.sampleAt; rw [show v.svy.sampling = [] from hs]; rfl, hv⟩)
      let u := v.emit (postOf { g with mask := 0 } 0 corr lad)
      have none : u.sampleRead g 0 corr = u := by
        unfold State.sampleRead State.sampleAt
        rw [show u.svy.sampling = [] from hs]
        rfl
      refine ⟨u, (dec.2 reader).trans (congrArg Host.Outcome.next none), rfl, fun l hl => State.laneOf_setLane_ne (s := s) hl, ?_⟩
      exact ((State.emit_within (by decide)).trans (wv.mono (by decide))).keeps
    · let x' := (v.bump F.LDP_CNT_HARD_FAIL_COUNT (lane / 64) 1).mediaCount 0 1
      have wx : Within [.lanes, .media, .reg .LDP_CNT_HARD_FAIL] x' s :=
        (State.mediaCount_within (by decide)).trans ((State.bump_within (by decide)).trans (wv.mono (by decide)))
      have reader : x'.readerOf g = none := (wx.readerOf (by decide)).trans hread
      have dec := exec_decodeComplete (mode := 0) (ok := false) (lad := lad) (page := page) (plane := plane) (mask := mask) hl hf
        (show (s.laneFree lane).decodeCounts (lane / 64) 0 corr die false = x' by rw [free]; exact State.decodeCounts_hard warn)
        (.inl ⟨by unfold State.sampleAt; rw [show x'.svy.sampling = [] from hs]; rfl, hv⟩)
      let u := x'.emit (postOf g 4 corr lad)
      have wu : Within [.lanes, .media, .out, .reg .LDP_CNT_HARD_FAIL] u s := (State.emit_within (by decide)).trans (wx.mono (by decide))
      obtain ⟨reads, w⟩ := State.backgroundFailed_hard (s := u) (g := g) (lane := lane) (step := lad) hp (by
        rw [wu.fld (by decide)]
        exact hm)
      have eq : exec (.decodeComplete lane 0 false corr lad die block page plane mask) s = .next (u.backgroundFailed lane 0 lad g) :=
        (dec.2 reader).trans (by rw [gone]; rfl)
      refine ⟨_, eq, ?_, sent_of_suffix (List.suffix_refl _) ?_, reads, ((w.mono (by decide)).trans (wu.mono (by decide))).keeps⟩
      · rw [w.fld (by decide)]
        exact State.fld_bump (s := v) (by decide)
      · rw [show (u.backgroundFailed lane 0 lad g).out = u.out from w.keeps .out (by decide)]
        exact List.suffix_refl _
    · have reader : v.readerOf g = none := (wv.readerOf (by decide)).trans hread
      have dec := exec_decodeComplete (mode := 1) (ok := false) (lad := lad) (page := page) (plane := plane) (mask := mask) hl hf
        (show (s.laneFree lane).decodeCounts (lane / 64) 1 corr die false = v by rw [free]; exact State.decodeCounts_soft warn)
        (.inl ⟨by unfold State.sampleAt; rw [show v.svy.sampling = [] from hs]; rfl, hv⟩)
      let u := v.emit (postOf g 5 corr lad)
      have wu : Within [.lanes, .out] u s := (State.emit_within (by decide)).trans (wv.mono (by decide))
      have w := State.backgroundFailed_last (s := u) (g := g) (lane := lane) (step := lad) hp (by rw [wu.fld (by decide)]; exact hm) hs hv
      obtain ⟨event, count, out, wc⟩ := State.uncorrected_spec (s := u) (lane := lane) (g := g)
      have eq : exec (.decodeComplete lane 1 false corr lad die block page plane mask) s = .next (u.backgroundFailed lane 1 lad g) :=
        (dec.2 reader).trans (by rw [gone]; rfl)
      refine ⟨_, eq, (w.fld (by decide)).trans event, ?_, ?_, ((w.mono (by decide)).trans ((wc.mono (by decide)).trans (wu.mono (by decide)))).keeps⟩
      · rw [w.fld (by decide), count, wu.fld (by decide)]
      · rw [sent]
        obtain ⟨l, hl⟩ := out
        refine ⟨l ++ [postOf g 3 0 0, postOf g 5 corr lad], ?_, by simp [postOf, g]⟩
        rw [show (u.backgroundFailed lane 1 lad g).out = (u.uncorrected lane g).out from w.keeps .out (by decide), ← hl]
        simp only [List.append_assoc, List.cons_append, List.nil_append]
        rfl
  · intro b after counted
    obtain ⟨wg, gone, ctxs, moves, fns, epoch⟩ := State.opGone_spec (s := s) (die := die) (r := r)
    have svy : (s.opGone die r).svy = s.svy := wg.keeps .svy (by decide)
    have band : ∀ k, (s.opGone die r).bandRec k = s.bandRec k := fun k => by rw [State.bandRec, State.bandRec, svy]
    refine ⟨fun hst hlim => ⟨fun hs hk he ho => ?_, fun hs hk he hw => ?_, fun y hs hy hk he ho => ?_⟩, fun hs hk hb => ?_⟩
    · obtain ⟨count, same, w⟩ := State.readEnds_current (s := s.opGone die r) (op := r.op) (b := b) hk (he.trans epoch.symm) ho
        (by rw [band]; exact hst) (by rw [wg.profileOf (by decide)]; exact hlim)
      have plt : ((s.opGone die r).readEnds r.op b die).plt = (s.opGone die r).plt := w.keeps .plt (by decide)
      have idle : ((s.opGone die r).readEnds r.op b die).retryMoves = (s.opGone die r).readEnds r.op b die :=
        State.retryMoves_idle (by rw [plt, moves]; exact hdm) (by rw [plt, fns]; exact hfm)
      refine ⟨_, (exec_dieOperationComplete hr hp hs hk).trans (by rw [idle]), _, ⟨?_, ?_, fun h => (same h).trans (wg.keeps .cmds (by decide)), fun k hk => ?_,
        ((w.mono (by decide)).trans (wg.mono (by decide))).keeps⟩, rfl⟩
      · rw [State.runningOp, plt]
        exact gone
      · unfold State.readCounted at count
        simp only [band] at count
        exact count
      · rw [State.ctxOf, show ((s.opGone die r).readEnds r.op b die).trv = (s.opGone die r).trv from w.keeps .trv (by decide)]
        exact ctxs k hk
    · have stale : (s.opGone die r).wasReplanned r.op = true := hw
      obtain ⟨count, event, n, ⟨run, m, f⟩, w⟩ := State.readEnds_stale (s := s.opGone die r) (op := r.op) (b := b) hk (fun h => he (h.trans epoch)) stale
        (by rw [band]; exact hst) (by rw [wg.profileOf (by decide)]; exact hlim)
      have idle : ((s.opGone die r).readEnds r.op b die).retryMoves = (s.opGone die r).readEnds r.op b die :=
        State.retryMoves_idle (by rw [m, moves]; exact hdm) (by rw [f, fns]; exact hfm)
      refine ⟨_, (exec_dieOperationComplete hr hp hs hk).trans (by rw [idle]), _, ⟨?_, event, n.trans (by rw [wg.fld (by decide)]), ?_, fun k hk => ?_,
        ((w.mono (by decide)).trans (wg.mono (by decide))).keeps⟩, rfl⟩
      · rw [State.runningOp, run]
        exact gone
      · unfold State.readCounted at count
        simp only [band] at count
        exact count
      · rw [State.ctxOf, show ((s.opGone die r).readEnds r.op b die).trv = (s.opGone die r).trv from w.keeps .trv (by decide)]
        exact ctxs k hk
    · obtain ⟨wr, run, reading, rctxs, rmoves, rfns, repoch⟩ := State.readGone_spec (s := s) (die := die)
      have rband : ∀ k, (s.readGone die).bandRec k = s.bandRec k := fun k => by
        rw [State.bandRec, State.bandRec, show (s.readGone die).svy = s.svy from wr.keeps .svy (by decide)]
      obtain ⟨count, same, w⟩ := State.readEnds_current (s := s.readGone die) (op := y.op) (b := b) hk (he.trans repoch.symm) ho
        (by rw [rband]; exact hst) (by rw [wr.profileOf (by decide)]; exact hlim)
      have plt : ((s.readGone die).readEnds y.op b die).plt = (s.readGone die).plt := w.keeps .plt (by decide)
      have idle : ((s.readGone die).readEnds y.op b die).retryMoves = (s.readGone die).readEnds y.op b die :=
        State.retryMoves_idle (by rw [plt, rmoves]; exact hdm) (by rw [plt, rfns]; exact hfm)
      refine ⟨_, (exec_dieOperationComplete_reading hr hp hs hy).trans (by rw [idle]), _, ⟨?_, ?_, ?_, fun k hk => ?_,
        ((w.mono (by decide)).trans (wr.mono (by decide))).keeps⟩, rfl⟩
      · rw [State.runningOp, plt]
        exact run.trans hr
      · rw [plt]
        exact reading
      · unfold State.readCounted at count
        simp only [rband] at count
        exact count
      · rw [State.ctxOf, show ((s.readGone die).readEnds y.op b die).trv = (s.readGone die).trv from w.keeps .trv (by decide)]
        exact rctxs k hk
    · obtain ⟨reads, erases, others, plt, few⟩ := State.erasePassed_spec (s := s.opGone die r) (b := b) (sh := dieSheet die)
      have w : Within erasePassedParts ((s.opGone die r).erasePassed b (dieSheet die)) (s.opGone die r) := State.erasePassed_within fun _ h => h
      have idle : ((s.opGone die r).erasePassed b (dieSheet die)).retryMoves = (s.opGone die r).erasePassed b (dieSheet die) :=
        State.retryMoves_idle (by rw [plt, moves]; exact hdm) (by rw [plt, fns]; exact hfm)
      rw [band] at erases
      refine ⟨_, (exec_dieOperationComplete_erase hr hp hs hk hb).trans (by rw [idle]), _, ⟨?_, reads, erases, fun k hk => (others k hk).trans (band k),
        fun k hk => ?_, fun hc => (((few (by rw [band]; exact hc)).mono (by decide)).trans (wg.mono (by decide))).keeps,
        ((w.mono (by decide)).trans (wg.mono (by decide))).keeps⟩, rfl⟩
      · rw [State.runningOp, plt]
        exact gone
      · rw [State.ctxOf, show ((s.opGone die r).erasePassed b (dieSheet die)).trv = (s.opGone die r).trv from w.keeps .trv (by decide)]
        exact ctxs k hk

end Sys2Proof.Machine
end

section
/-! Bands move through their states (O29). -/

namespace Sys2Proof.Machine

section

/-- Band 1 is OPEN and queued for refresh; journal slot 0 stands twice in the table, first with a FILLING stripe of band 2, then with one of
band 1. -/
def slotListedTwice : State :=
  { State.reset with
    svy := { State.reset.svy with band := [(1, { Band.reset with st := .opened })], refreshQ := [1] }
    par := { State.reset.par with
      slot := [(0, { Slot.reset with st := .filling, band := 2 }), (0, { Slot.reset with st := .filling, band := 1 })] } }

/-- Refutes O29: the slots of a band are found by their contents and closed by their key, and the statement does not ask that the table lists
a slot once; of a slot that stands twice the close finds the stripe of another band, whose record then changes. -/
theorem not_bandsMoveThroughTheirStates : ¬ Obligations.BandsMoveThroughTheirStates := by
  unfold Obligations.BandsMoveThroughTheirStates
  intro h
  obtain ⟨-, -, -, -, -, refresh, -⟩ := h slotListedTwice 1
  obtain ⟨-, opened, -⟩ := refresh [] rfl
  obtain ⟨t, eq, -, -, others, -⟩ := opened rfl
  obtain rfl : _ = t := Host.Outcome.next.inj eq
  exact absurd (congrArg Band.short (others 2 (by decide))) (by decide)

end

end Sys2Proof.Machine
end

section
/-! Discovery, training and the retraining steps (O33). -/

namespace Sys2Proof.Machine

section
variable {L : List Part} {s t u : State} {c ch d e i k sh len : Nat}

theorem Within.chan (h : Within L t s) (hf : Part.fch ∉ L) : t.chan c = s.chan c := by
  unfold State.chan
  rw [show t.fch = s.fch from h.keeps .fch hf]

theorem Within.dieOf (h : Within L t s) (hf : Part.fch ∉ L) : t.dieOf d = s.dieOf d := by
  unfold State.dieOf
  rw [show t.fch = s.fch from h.keeps .fch hf]

/-- The channels read in `t` as in `s`, and the dies but those that `p` names. -/
structure sameChans (p : Nat → Prop) (s t : State) : Prop where
  chan : ∀ c, t.chan c = s.chan c
  die : ∀ d, ¬ p d → t.dieOf d = s.dieOf d

theorem sameChans.refl (p : Nat → Prop) (s : State) : sameChans p s s := ⟨fun _ => rfl, fun _ _ => rfl⟩

theorem sameChans.trans {p : Nat → Prop} (h : sameChans p s t) (h' : sameChans p t u) : sameChans p s u :=
  ⟨fun c => (h'.chan c).trans (h.chan c), fun d hd => (h'.die d hd).trans (h.die d hd)⟩

theorem Within.sameChans {p : Nat → Prop} (h : Within L t s) (hf : Part.fch ∉ L) : sameChans p s t :=
  ⟨fun _ => h.chan hf, fun _ _ => h.dieOf hf⟩

theorem setDie_sameChans {p : Nat → Prop} {x : Die} (h : p d) : sameChans p s (s.setDie d x) :=
  ⟨fun _ => rfl, fun _ hk => State.dieOf_setDie_ne fun eq => hk (eq ▸ h)⟩

/-- A fault record of a candidate, and the tie records, leave the channels and the dies. -/
theorem matchProfile_sameChans {p : Nat → Prop} {x : Target} : sameChans p s (s.matchProfile ch d x).1 :=
  (State.matchProfile_within (L := recordParts) (by decide)).sameChans (by decide)

theorem bindSlot_sameChans {p : Nat → Prop} {r : Profile} : sameChans p s (s.bindSlot i r).1 := by
  unfold State.bindSlot
  split
  · exact .refl p s
  · split
    · exact ⟨fun _ => rfl, fun _ _ => rfl⟩
    · exact .refl p s

theorem discoverDie_sameChans {p : Nat → Prop} {x : Target} (hd : p d) : sameChans p s (s.discoverDie d x) := by
  unfold State.discoverDie
  extract_lets c m s1 b src s2 s3
  have bound : sameChans p s b.1 := by
    unfold b
    split
    · exact matchProfile_sameChans.trans bindSlot_sameChans
    · exact matchProfile_sameChans
  split
  · exact bound.trans (setDie_sameChans hd)
  · have unprofiled : sameChans p s s3 := (bound.trans (setDie_sameChans hd)).trans
      ((State.event_within (L := .reg .FCH_EVENTS :: eventParts) (by decide) (by decide)).sameChans (by decide))
    exact unprofiled.trans ((Within.foldl (L := recordParts) fun _ _ => State.record_within (by decide)).sameChans (by decide))

theorem event_sameChans {p : Nat → Prop} {f : Fld} (hr : f.reg = .FCH_EVENTS) : sameChans p s (s.event f c d) :=
  (State.event_within (L := .reg .FCH_EVENTS :: eventParts) (by rw [hr]; exact List.mem_cons_self) (List.subset_cons_self _ _)).sameChans
    (by decide)

/-- The two dies of a target. -/
def targetDie (ch e d : Nat) : Prop := d = 16 * ch + 2 * e ∨ d = 16 * ch + 2 * e + 1

theorem dropTarget_sameChans : sameChans (targetDie ch e) s ((s.setDie (16 * ch + 2 * e) Die.reset).setDie (16 * ch + 2 * e + 1) Die.reset) :=
  (setDie_sameChans (.inl rfl)).trans (setDie_sameChans (.inr rfl))

theorem dropTarget_dies (t : State) : let u := (t.setDie (16 * ch + 2 * e) Die.reset).setDie (16 * ch + 2 * e + 1) Die.reset
    u.dieOf (16 * ch + 2 * e) = Die.reset ∧ u.dieOf (16 * ch + 2 * e + 1) = Die.reset :=
  ⟨(State.dieOf_setDie_ne (by omega)).trans State.dieOf_setDie, State.dieOf_setDie⟩

theorem discoverTarget_sameChans {x : Target} : sameChans (targetDie ch e) s (s.discoverTarget ch e x) := by
  unfold State.discoverTarget
  extract_lets d s1 gone s2 s3
  have h1 : sameChans (targetDie ch e) s s1 := by
    unfold s1
    split
    · exact .refl _ s
    · exact event_sameChans rfl
  have h2 : sameChans (targetDie ch e) s s2 := by
    unfold s2
    split
    · exact h1.trans (event_sameChans rfl)
    · exact h1
  have h3 : sameChans (targetDie ch e) s s3 := by
    unfold s3
    split
    · exact h2.trans (setDie_sameChans (.inl rfl))
    · exact h2.trans (discoverDie_sameChans (.inl rfl))
  split
  · exact h1.trans dropTarget_sameChans
  · split
    · exact (h1.trans (event_sameChans rfl)).trans dropTarget_sameChans
    · split
      · exact h3.trans (setDie_sameChans (.inr rfl))
      · exact h3.trans (discoverDie_sameChans (.inr rfl))

theorem discoverTarget_silent {x : Target} (h : x.statusOk = false) :
    (s.discoverTarget ch e x).dieOf (16 * ch + 2 * e) = Die.reset ∧ (s.discoverTarget ch e x).dieOf (16 * ch + 2 * e + 1) = Die.reset := by
  unfold State.discoverTarget
  extract_lets d s1 gone s2 s3
  rw [if_pos (by rw [h]; rfl)]
  exact dropTarget_dies s1

/-- One target of a discovery. -/
def discoverOne (ch : Nat) (targets : List Target) (s : State) (e : Nat) : State :=
  match targets[e]? with
  | some t => s.discoverTarget ch e t
  | none => (s.setDie (16 * ch + 2 * e) Die.reset).setDie (16 * ch + 2 * e + 1) Die.reset

theorem discoverOne_sameChans {targets : List Target} : sameChans (targetDie ch e) s (discoverOne ch targets s e) := by
  unfold discoverOne
  split
  · exact discoverTarget_sameChans
  · exact dropTarget_sameChans

theorem discoverOne_silent {targets : List Target} (h : ∀ x, targets[e]? = some x → x.statusOk = false) :
    (discoverOne ch targets s e).dieOf (16 * ch + 2 * e) = Die.reset ∧ (discoverOne ch targets s e).dieOf (16 * ch + 2 * e + 1) = Die.reset := by
  unfold discoverOne
  split
  case h_1 x hx => exact discoverTarget_silent (h x hx)
  case h_2 => exact dropTarget_dies s

theorem discoverAll_sameChans {targets : List Target} (l : List Nat) :
    ∀ s, sameChans (fun d => ∃ e ∈ l, targetDie ch e d) s (l.foldl (discoverOne ch targets) s) := by
  induction l with
  | nil => exact fun s => .refl _ s
  | cons e l ih =>
    intro s
    have head := discoverOne_sameChans (s := s) (ch := ch) (e := e) (targets := targets)
    have rest := ih (discoverOne ch targets s e)
    refine ⟨fun c => (rest.chan c).trans (head.chan c), fun d hd => (rest.die d fun ⟨k, hk, h⟩ => hd ⟨k, by simp [hk], h⟩).trans
      (head.die d fun h => hd ⟨e, by simp, h⟩)⟩

theorem discoverAll_silent {targets : List Target} (l : List Nat) (hn : l.Nodup) (h : ∀ x, targets[e]? = some x → x.statusOk = false) :
    ∀ s, e ∈ l → let t := l.foldl (discoverOne ch targets) s
      t.dieOf (16 * ch + 2 * e) = Die.reset ∧ t.dieOf (16 * ch + 2 * e + 1) = Die.reset := by
  induction l with
  | nil => exact fun s he => by simp at he
  | cons k l ih =>
    intro s he
    obtain ⟨hk, hn⟩ := List.nodup_cons.mp hn
    by_cases hl : e ∈ l
    · exact ih hn (discoverOne ch targets s k) hl
    · obtain rfl : e = k := by simpa [hl] using he
      have rest := discoverAll_sameChans (ch := ch) (targets := targets) l (discoverOne ch targets s e)
      have other : ∀ d, targetDie ch e d → ¬ ∃ j ∈ l, targetDie ch j d := fun d hd ⟨j, hj, h⟩ => hl (by
        unfold targetDie at hd h
        rwa [show e = j by omega])
      obtain ⟨a, b⟩ := discoverOne_silent (s := s) (ch := ch) h
      exact ⟨(rest.die _ (other _ (.inl rfl))).trans a, (rest.die _ (other _ (.inr rfl))).trans b⟩

theorem exec_channelDiscovery {targets : List Target} (hc : ch < 128) (hb : s.chanBooked ch = false)
    (hp : s.soldered = true ∨ (s.bay (ch / 8)).pwrGood = true) : exec (.channelDiscovery ch targets) s = .next (((List.range 8).foldl
      (discoverOne ch targets) (s.setChan ch { s.chan ch with wpHigh := true, rate := 0, lpddr4 := false, trained := false, discovered := true })).recheck) :=
  if_neg (by rw [hb]; rcases hp with h | h <;> simp [h] <;> omega)

/-- A discovery's channel and dies. -/
theorem channelDiscovery_spec {targets : List Target} (hc : ch < 128) (hb : s.chanBooked ch = false)
    (hp : s.soldered = true ∨ (s.bay (ch / 8)).pwrGood = true) : leads (.channelDiscovery ch targets) s fun t =>
    (t.chan ch).discovered = true ∧ (t.chan ch).trained = false ∧ (t.chan ch).wpHigh = true ∧
    (∀ c, c ≠ ch → t.chan c = s.chan c) ∧ (∀ d, dieChan d ≠ ch → t.dieOf d = s.dieOf d) ∧
    (∀ e, e < 8 → (∀ x, targets[e]? = some x → x.statusOk = false) →
      t.dieOf (16 * ch + 2 * e) = Die.reset ∧ t.dieOf (16 * ch + 2 * e + 1) = Die.reset) := by
  refine ⟨_, exec_channelDiscovery hc hb hp, ?_⟩
  let s1 := s.setChan ch { s.chan ch with wpHigh := true, rate := 0, lpddr4 := false, trained := false, discovered := true }
  let s2 := (List.range 8).foldl (discoverOne ch targets) s1
  have all : sameChans (fun d => ∃ e ∈ List.range 8, targetDie ch e d) s1 s2 := discoverAll_sameChans _ s1
  have checked : Within recheckParts s2.recheck s2 := State.recheck_within (List.Subset.refl _)
  have chan : ∀ c, s2.recheck.chan c = s1.chan c := fun c => (checked.chan (by decide)).trans (all.chan c)
  have one : s2.recheck.chan ch = _ := (chan ch).trans State.chan_setChan
  refine ⟨by rw [one], by rw [one], by rw [one], fun c hc => (chan c).trans (State.chan_setChan_ne hc), fun d hd => ?_, fun e he hx => ?_⟩
  · refine (checked.dieOf (by decide)).trans (all.die d fun ⟨e, he, h⟩ => hd ?_)
    have := List.mem_range.mp he
    unfold targetDie at h
    unfold dieChan
    omega
  · obtain ⟨a, b⟩ := discoverAll_silent (ch := ch) (targets := targets) _ List.nodup_range hx s1 (List.mem_range.mpr he)
    exact ⟨(checked.dieOf (by decide)).trans a, (checked.dieOf (by decide)).trans b⟩

theorem recheck_chan : s.recheck.chan c = s.chan c := (State.recheck_within (List.Subset.refl _)).chan (L := recheckParts) (by decide)
theorem recheck_dieOf : s.recheck.dieOf d = s.dieOf d := (State.recheck_within (List.Subset.refl _)).dieOf (L := recheckParts) (by decide)

/-- The dies that answer at a channel, and their profiles (R223). -/
def State.answering (s : State) (ch : Nat) : List (Nat × Profile) :=
  (chanDies ch).filterMap fun d => if (s.dieOf d).present && !(s.dieOf d).absent then (s.profileOf d).map (fun p => (d, p)) else none

theorem answering_nil (h : ∀ d ∈ chanDies ch, (s.dieOf d).present = false ∨ (s.dieOf d).absent = true ∨ s.profileOf d = none) :
    s.answering ch = [] := by
  refine List.filterMap_eq_nil_iff.mpr fun d hd => ?_
  rcases h d hd with h | h | h <;> simp [h]

section
variable {eyes : List (Nat × Nat × Nat × Nat)} {lp : Bool}

/-- With no die that answers a training finds no mode. -/
theorem exec_channelTraining_none (hc : ch < 128) (ht : (s.chan ch).trained = false) (hb : s.chanBooked ch = false)
    (hf : s.fenced 0x0A0 ch = false) (hn : s.answering ch = []) : exec (.channelTraining ch eyes) s = .next (s.noRate ch []) := by
  show execChannelTraining ch eyes s = _
  unfold execChannelTraining
  rw [if_neg (by simp [ht, hb, hf]; omega)]
  extract_lets cap present l best s1 x
  have none_ : present = [] := hn
  have mode : modeOf cap [] = none := by
    unfold modeOf
    split <;> rfl
  rw [show l = [] from congrArg (List.filter _) none_, none_, List.map_nil, mode]

theorem noRate_nil : ((s.noRate ch []).chan ch).rate = 0 ∧ ((s.noRate ch []).chan ch).trained = false ∧
    (∀ c, c ≠ ch → (s.noRate ch []).chan c = s.chan c) ∧ Within (.fch :: recheckParts) (s.noRate ch []) s := by
  let u := s.setChan ch { s.chan ch with rate := 0, lpddr4 := false, trained := false }
  have eq : s.noRate ch [] = u.recheck := rfl
  have set : Within (.fch :: recheckParts) u s := State.setChan_within (by decide)
  rw [eq]
  refine ⟨?_, ?_, fun c hc => recheck_chan.trans (State.chan_setChan_ne hc), (State.recheck_within (by decide)).trans set⟩
  · rw [recheck_chan, State.chan_setChan]
  · rw [recheck_chan, State.chan_setChan]

/-- The trims that a training finds, a live die's alone. -/
def trimmed (ch : Nat) (s : State) (e : Nat × Nat × Nat × Nat) : State :=
  if dieChan e.1 = ch ∧ s.dieLive e.1 then s.setDie e.1 { s.dieOf e.1 with readTrim := e.2.2.1 % 64, writeTrim := e.2.2.2 % 64 } else s

theorem trimmed_chan {e : Nat × Nat × Nat × Nat} : (trimmed ch s e).chan c = s.chan c := by
  unfold trimmed
  split
  · exact rfl
  · exact rfl

theorem trimAll_chan : (eyes.foldl (trimmed ch) s).chan c = s.chan c := by
  induction eyes generalizing s with
  | nil => rfl
  | cons e l ih => exact ih.trans trimmed_chan

theorem trimAll_within : Within [.fch] (eyes.foldl (trimmed ch) s) s := Within.foldl fun u e => by
  unfold trimmed
  exact .ite (State.setDie_within (by decide)) .rfl

theorem foldl_min_of_le {α : Type} {f : α → Nat} {n : Nat} {l : List α} (h : ∀ m ∈ l, n ≤ f m) : l.foldl (fun n m => min n (f m)) n = n := by
  induction l with
  | nil => rfl
  | cons m l ih =>
    rw [List.foldl_cons, Nat.min_eq_left (h m (by simp)), ih fun m hm => h m (by simp [hm])]

/-- A training that every live die can follow: the trims, the target rate in the mode found, and the classes checked again. -/
theorem exec_channelTraining_all (hc : ch < 128) (ht : (s.chan ch).trained = false) (hb : s.chanBooked ch = false) (hf : s.fenced 0x0A0 ch = false)
    (hm : modeOf (s.fld F.FCH_CFG_RATE_CAP ch) ((s.answering ch).map Prod.snd) = some lp) : let l := (s.answering ch).filter fun m => s.dieLive m.1
    let target := (l.filter (fun m => m.2.supports lp)).foldl (fun n m => min n m.2.maxRate) (min (s.fld F.FCH_CFG_RATE_CAP ch) (modeHigh lp))
    l ≠ [] → modeLow lp ≤ target →
    (∀ m ∈ l, m.2.supports lp = true ∧ ∃ e ∈ eyes, e.1 = m.1 ∧ target ≤ e.2.1 ∧ eyes.find? (fun e => decide (e.1 = m.1)) = some e) →
    let t := eyes.foldl (trimmed ch) s
    exec (.channelTraining ch eyes) s = .next (t.setChan ch { t.chan ch with
      rate := target, lpddr4 := lp, trained := true, wpHigh := (t.chan ch).wpHigh || true,
      tLast := (t.regionOf ch).model, due := false, stepsLeft := 0, late := false }).recheck := by
  intro l target hl hlow hall t
  show execChannelTraining ch eyes s = _
  unfold execChannelTraining
  rw [if_neg (by simp [ht, hb, hf]; omega)]
  extract_lets cap present l' best s1 x
  rw [show modeOf cap (present.map Prod.snd) = some lp from hm]
  dsimp -zeta only
  extract_lets run target' rate bad some_ s2
  have run_eq : run = l := List.filter_eq_self.mpr fun m hm => (hall m hm).1
  have target_eq : target' = target := rfl
  have best_le : ∀ m ∈ l, target ≤ best m.1 := fun m hm => by
    obtain ⟨-, e, -, -, he, hfind⟩ := hall m hm
    show target ≤ ((eyes.find? _).map _).getD 0
    rw [hfind]
    exact he
  have rate_eq : rate = target := by
    unfold rate
    rw [run_eq, target_eq]
    exact foldl_min_of_le fun m hm => le_max_of_le_right (best_le m hm)
  have bad_nil : bad = [] := List.filter_eq_nil_iff.mpr fun m hm => by
    have := best_le m hm
    simp [(hall m hm).1, rate_eq]
    omega
  have some_eq : decide some_ = true := decide_eq_true (show bad.length < l'.length by
    rw [bad_nil]
    exact List.length_pos_iff.mpr hl)
  have some_true : some_ := of_decide_eq_true some_eq
  rw [if_neg (by omega), bad_nil]
  unfold s2
  simp only [some_true, rate_eq]
  simp
  rfl

end

section
variable {ds : List Nat}

theorem closeAll_within : Within [.plt] (ds.foldl (fun (s : State) d => s.addClosed d s.now (50 * len) 0) s) s :=
  Within.foldl fun _ _ => State.addClosed_within (by decide)

end

/-- A step that may run: room in HK, and no live die held back. -/
def State.stepFree (s : State) (ch : Nat) : Prop :=
  (s.chan ch).due = true ∧ s.plt.quiet ≠ some ch ∧
  s.srv.queued.any (fun t => t.forced && decide ((t.block = 0x0A0 ∨ t.block = 0x0A1) ∧ t.inst = ch)) = false ∧
  (∀ len, s.stepLen ch (25 - (s.chan ch).stepsLeft) = some len → tabGet (fun _ => 0) s.plt.hkUsed ch + len ≤ 16 * s.hk ∧
    ∀ d ∈ chanDies ch, s.dieLive d = true → s.runsBarred d s.now [(0, 50 * len)] = false)

/-- The HK time of a step booked, its dies closed to other work. -/
def State.stepTaken (s : State) (ch len : Nat) : State :=
  ((chanDies ch).filter s.dieLive).foldl (fun (s : State) d => s.addClosed d s.now (50 * len) 0)
    { s with plt := { s.plt with hkUsed := tabSet (fun _ => 0) s.plt.hkUsed ch (tabGet (fun _ => 0) s.plt.hkUsed ch + len) } }

theorem stepTaken_within : Within [.plt] (s.stepTaken ch len) s :=
  closeAll_within.trans (.step (by decide) (.plt s _) .rfl)

/-- A retraining step of no member, and one of a member that runs. -/
theorem exec_retrainStep {fails : List Nat} (hc : ch < 128) (hk : (s.chan ch).stepsLeft ≠ 0) (h : s.stepFree ch) :
    (s.stepLen ch (25 - (s.chan ch).stepsLeft) = none → exec (.retrainStep ch fails) s = .next (s.stepDone ch)) ∧
    (∀ len, s.stepLen ch (25 - (s.chan ch).stepsLeft) = some len →
      let t := s.stepTaken ch len
      let d := 16 * ch + (25 - (s.chan ch).stepsLeft - 9)
      exec (.retrainStep ch fails) s = if 9 ≤ 25 - (s.chan ch).stepsLeft ∧ fails.contains d then
        if (t.dieOf d).trainFails = 0 then
          .next { (t.setDie d { t.dieOf d with trainFails := 1 }) with plt := { t.plt with hkUsed := tabSet (fun _ => 0) t.plt.hkUsed ch (16 * t.hk) } }
        else .next ((t.trainFail d).stepDone ch)
      else .next ((if 9 ≤ 25 - (s.chan ch).stepsLeft then t.setDie d { t.dieOf d with trainFails := 0 } else t).stepDone ch)) := by
  obtain ⟨due, quiet, forced, room⟩ := h
  have guard : ¬ (128 ≤ ch ∨ !(s.chan ch).due ∨ (s.chan ch).stepsLeft = 0 ∨ s.plt.quiet = some ch
      ∨ s.srv.queued.any (fun t => t.forced && decide ((t.block = 0x0A0 ∨ t.block = 0x0A1) ∧ t.inst = ch))) := by
    rw [due, forced]
    simp [hk, quiet]
    omega
  refine ⟨fun hn => ?_, ?_⟩
  · show execRetrainStep ch fails s = _
    unfold execRetrainStep
    extract_lets x k used ds src dd
    rw [if_neg guard, show s.stepLen ch k = none from hn]
  · intro len hl t d
    obtain ⟨hroom, hbar⟩ := room len hl
    show execRetrainStep ch fails s = _
    unfold execRetrainStep
    extract_lets x k used ds src dd
    rw [if_neg guard, show s.stepLen ch k = some len from hl]
    dsimp only
    have free : ¬ (16 * s.hk < used + len ∨ ds.any (fun d => s.runsBarred d s.now [(0, 50 * len)])) := by
      rintro (h | h)
      · exact absurd hroom (by omega)
      · obtain ⟨d, hd, hb⟩ := List.any_eq_true.mp h
        obtain ⟨hm, hlive⟩ := List.mem_filter.mp hd
        exact absurd (hbar d hm hlive) (by rw [hb]; decide)
    rw [if_neg free]
    rfl

theorem stepDone_more (h : 2 ≤ (s.chan ch).stepsLeft) : s.stepDone ch = s.setChan ch { s.chan ch with stepsLeft := (s.chan ch).stepsLeft - 1 } :=
  if_neg (show ¬ (s.chan ch).stepsLeft ≤ 1 by omega)

theorem stepDone_last (h : (s.chan ch).stepsLeft = 1) : s.stepDone ch = s.setChan ch { s.chan ch with
    stepsLeft := 0, due := false, late := false, tLast := (s.regionOf ch).model, count := min 65535 ((s.chan ch).count + 1) } :=
  if_pos (show (s.chan ch).stepsLeft ≤ 1 by omega)

/-- A step that fails nothing is done from a state that reads as the one before but in the dies and the Plotter's books. -/
theorem retrainStep_done (hc : ch < 128) (hk : (s.chan ch).stepsLeft ≠ 0) (h : s.stepFree ch) :
    ∃ u, exec (.retrainStep ch []) s = .next (u.stepDone ch) ∧ Within [.fch, .plt] u s ∧ ∀ c, u.chan c = s.chan c := by
  obtain ⟨none_, some_⟩ := exec_retrainStep (fails := []) hc hk h
  cases hl : s.stepLen ch (25 - (s.chan ch).stepsLeft) with
  | none => exact ⟨s, none_ hl, .rfl, fun _ => rfl⟩
  | some len =>
    let t := s.stepTaken ch len
    let d := 16 * ch + (25 - (s.chan ch).stepsLeft - 9)
    have taken : Within [.fch, .plt] t s := stepTaken_within.mono (by decide)
    have chans : ∀ c, t.chan c = s.chan c := fun c => (stepTaken_within (s := s)).chan (by decide)
    refine ⟨if 9 ≤ 25 - (s.chan ch).stepsLeft then t.setDie d { t.dieOf d with trainFails := 0 } else t, ?_, .ite ((State.setDie_within (by decide)).trans taken) taken, fun c => ?_⟩
    · exact (some_ len hl).trans (if_neg fun ⟨_, h⟩ => nomatch h)
    · split
      · exact chans c
      · exact chans c

theorem retrainStep_spec (hc : ch < 128) (h : s.stepFree ch) :
    (2 ≤ (s.chan ch).stepsLeft → leads (.retrainStep ch []) s fun t => (t.chan ch).stepsLeft = (s.chan ch).stepsLeft - 1 ∧
      (t.chan ch).due = true ∧ (∀ c, c ≠ ch → t.chan c = s.chan c) ∧ keepsBut [.fch, .plt] s t) ∧
    ((s.chan ch).stepsLeft = 1 → leads (.retrainStep ch []) s fun t => (t.chan ch).stepsLeft = 0 ∧ (t.chan ch).due = false ∧
      (t.chan ch).count = min 65535 ((s.chan ch).count + 1) ∧ (t.chan ch).tLast = (s.regionOf ch).model ∧
      keepsBut [.fch, .plt] s t) ∧
    (∀ len d, 1 ≤ (s.chan ch).stepsLeft → (s.chan ch).stepsLeft ≤ 16 → d = 16 * ch + (16 - (s.chan ch).stepsLeft) →
      s.stepLen ch (25 - (s.chan ch).stepsLeft) = some len → (s.dieOf d).trainFails = 0 → leads (.retrainStep ch [d]) s fun t =>
        (t.dieOf d).trainFails = 1 ∧ (t.chan ch).stepsLeft = (s.chan ch).stepsLeft ∧ keepsBut [.fch, .plt] s t) := by
  refine ⟨fun hk => ?_, fun hk => ?_, fun len d h1 h16 hd hl hfails => ?_⟩
  · obtain ⟨u, eq, within, chans⟩ := retrainStep_done hc (by omega) h
    rw [stepDone_more (by rw [chans]; exact hk)] at eq
    refine ⟨_, eq, ?_, ?_, fun c hc => (State.chan_setChan_ne hc).trans (chans c), ((State.setChan_within (by decide)).trans within).keeps⟩
    · rw [State.chan_setChan, chans]
    · rw [State.chan_setChan, chans]
      exact h.1
  · obtain ⟨u, eq, within, chans⟩ := retrainStep_done hc (by omega) h
    rw [stepDone_last (by rw [chans]; exact hk)] at eq
    refine ⟨_, eq, ?_, ?_, ?_, ?_, ((State.setChan_within (by decide)).trans within).keeps⟩
    · rw [State.chan_setChan]
    · rw [State.chan_setChan]
    · rw [State.chan_setChan, chans]
    · rw [State.chan_setChan]
      exact congrArg (fun p : Ctr => (tabGet (fun _ => Region.reset) p.region ch).model) (within.keeps .ctr (by decide))
  · obtain ⟨-, step⟩ := exec_retrainStep (fails := [d]) hc (by omega) h
    let t := s.stepTaken ch len
    have at_ : 16 * ch + (25 - (s.chan ch).stepsLeft - 9) = d := by omega
    have taken : Within [.plt] t s := stepTaken_within
    have eq := step len hl
    dsimp only at eq
    rw [at_, if_pos ⟨by omega, by simp⟩, if_pos ((congrArg Die.trainFails (taken.dieOf (by decide))).trans hfails)] at eq
    refine ⟨_, eq, congrArg Die.trainFails (State.dieOf_setDie (s := t)), congrArg Chan.stepsLeft (taken.chan (c := ch) (by decide)), ?_⟩
    exact (Within.step (L := [.fch, .plt]) (by decide) (.plt (t.setDie d { t.dieOf d with trainFails := 1 }) _)
      ((State.setDie_within (by decide)).trans (taken.mono (by decide)))).keeps

theorem writeHeld_spec : (∀ e ∈ (s.writeHeld sh).fch.absentHold, e.1 ≠ sh) ∧ ∀ d, (s.writeHeld sh).dieOf d = s.dieOf d := by
  unfold State.writeHeld
  split
  case h_1 hn =>
    refine ⟨fun e he eq => ?_, fun _ => rfl⟩
    have := List.find?_eq_none.mp hn e he
    simp [eq] at this
  case h_2 e _ =>
    extract_lets src s1
    have written : Within recordParts (e.2.2.foldl (fun s k =>
        let d := k % 4096
        let s := if 4096 ≤ k then s.record 0x0A0 (dieChan d) 0 (0x4000 + 32 * (Reg.eventNumber .FCH_EVENTS).getD 0 + 5) d else s
        s.record 0x0A0 (dieChan d) 3 0x100F d) s1) s1 := Within.foldl fun u k =>
      (State.record_within (by decide)).trans (.ite (State.record_within (by decide)) .rfl)
    refine ⟨fun e he => ?_, fun d => written.dieOf (by decide)⟩
    rw [show _ = s1.fch from written.keeps .fch (by decide)] at he
    exact of_decide_eq_true (List.mem_filter.mp he).2

end

/-- Settles O33: what discovery, training and the retraining steps leave of the channel and its dies. -/
theorem channelsAreDiscoveredAndTrained : Obligations.ChannelsAreDiscoveredAndTrained := by
  unfold Obligations.ChannelsAreDiscoveredAndTrained
  intro s ch hc
  refine ⟨fun targets hb hp => ?_, fun eyes targets hb => ⟨?_, ?_⟩, fun eyes ht => ?_, fun eyes ht hb hf hn => ?_, fun eyes lp ht hb hf => ?_,
    fun due quiet forced room => retrainStep_spec hc ⟨due, quiet, forced, room⟩, fun due late => ?_, fun sheet => ?_⟩
  · obtain ⟨t, eq, discovered, trained, wp, chans, dies, silent⟩ := channelDiscovery_spec (targets := targets) hc hb hp
    have runs : Runs (([.fch, .reg .FCH_EVENTS] : List Part) ++ recheckParts) s (execChannelDiscovery ch targets s) :=
      execChannelDiscovery_runs (by decide)
    exact ⟨t, eq, discovered, trained, wp, chans, dies, silent, (runs.within eq).keeps⟩
  · exact if_pos (.inr (.inl hb))
  · exact if_pos (.inl hb)
  · exact if_pos (.inr (.inr (.inr ht)))
  · obtain ⟨rate, trained, chans, within⟩ := noRate_nil (s := s) (ch := ch)
    exact ⟨_, exec_channelTraining_none hc ht hb hf (answering_nil hn), rate, trained, chans, within.keeps⟩
  · intro present l target hl hm hlow hall
    have eq := exec_channelTraining_all (eyes := eyes) hc ht hb hf hm hl hlow hall
    refine ⟨_, eq, ?_, ?_, ?_, ?_, ?_, fun c hc => recheck_chan.trans ((State.chan_setChan_ne hc).trans trimAll_chan), ?_⟩
    · rw [recheck_chan, State.chan_setChan]
      rfl
    · rw [recheck_chan, State.chan_setChan]
    · rw [recheck_chan, State.chan_setChan]
    · rw [recheck_chan, State.chan_setChan]
    · rw [recheck_chan, State.chan_setChan]
    · exact ((State.recheck_within (by decide)).trans ((State.setChan_within (by decide)).trans (trimAll_within.mono (by decide)))).keeps
  · have eq : exec (.retrainLate ch) s = .next ((s.setChan ch { s.chan ch with late := true }).event F.FCH_EVENTS_RETRAIN_LATE ch 0) :=
      if_neg (by simp [due, late]; omega)
    have within := State.event_within (t := s.setChan ch { s.chan ch with late := true }) (L := .reg .FCH_EVENTS :: eventParts)
      (f := F.FCH_EVENTS_RETRAIN_LATE) (i := ch) (sub := 0) (by decide) (by decide)
    refine ⟨_, eq, ?_, State.fld_event (by decide) rfl (by decide), fun c hc => (within.chan (by decide)).trans (State.chan_setChan_ne hc),
      ((within.mono (by decide)).trans (State.setChan_within (by decide))).keeps⟩
    rw [within.chan (by decide), State.chan_setChan]
  · obtain ⟨held, dies⟩ := writeHeld_spec (s := s) (sh := sheet)
    exact ⟨_, rfl, held, dies, (State.writeHeld_within (by decide)).keeps⟩

end Sys2Proof.Machine
end

section
/-! Run timers and suspensions (O34). -/

namespace Sys2Proof.Machine

section

/-- Die 0 stands SUSPENDED, and a resume is due at die 128, a member of the same group. -/
def resumeDueElsewhere : State :=
  { State.reset with
    trv := { State.reset.trv with ctx := [(0, { Ctx.reset with st := .suspended })] }
    fch := { State.reset.fch with
      die := [(0, { Die.reset with present := true, profile := some 0 }), (128, { Die.reset with present := true, resumeDue := true })]
      profile := [(0, some (profileOfRecord 0 []))] } }

/-- Refutes O34: the windows of a resume are looked at once the resume of the die itself has been named, and a die whose own resume is due does
not wait for one due at another member; the statement asks whether they are barred before, while it would still wait. -/
theorem not_runTimersAndSuspensionsEnd : ¬ Obligations.RunTimersAndSuspensionsEnd := by
  unfold Obligations.RunTimersAndSuspensionsEnd
  intro h
  obtain ⟨-, -, suspended, -⟩ := h resumeDueElsewhere 0 (by decide)
  obtain ⟨t, eq, -, -, kept, -⟩ := (suspended rfl).1 (.inr (by decide))
  obtain rfl : _ = t := Host.Outcome.next.inj eq
  exact absurd kept (by decide)

end

end Sys2Proof.Machine
end

section
/-! Stripes, the sweep and evacuations (O31). -/

namespace Sys2Proof.Machine

section

/-- Sheet 0 is in use; band 1 stands twice in the table, first CLOSED with the sheets it has no more, then with an erase of sheet 0 under way. -/
def bandListedTwice : State :=
  { State.reset with
    svy := { State.reset.svy with band :=
      [(1, { Band.reset with st := .closed, sheets := 6 }), (1, { Band.reset with st := .erasing, sheets := 1, erasing := 3 })] }
    par := { State.reset.par with present := 1, usable := 1 } }

/-- Refutes O31: the erases that end with a sheet are written back from the entries of the band table, and the statement does not ask that it
lists a band once; the record of a band that stands twice is overwritten, and no CLOSED band is left for the sweep. -/
theorem not_stripesSweepsAndEvacuations : ¬ Obligations.StripesSweepsAndEvacuations := by
  unfold Obligations.StripesSweepsAndEvacuations
  intro h
  obtain ⟨-, -, -, -, -, layout, -⟩ := h bandListedTwice
  obtain ⟨t, eq, -, -, -, -, sweep, -⟩ := layout 0 0 (by decide)
  obtain rfl : _ = t := Host.Outcome.next.inj eq
  exact absurd (sweep.1 ⟨1, by decide, by decide⟩) (by decide +kernel)

end

end Sys2Proof.Machine
end

section
/-! Power modes and their triggers (O37). -/

namespace Sys2Proof.Machine

section

/-- The device is DORMANT, and a sheet that had come into bay 0 has been drawn out before its presence held. -/
def dormantDebounce : State :=
  { State.reset with
    pwr := { State.reset.pwr with mode := .dormant }
    bays := [(0, { Bay.reset with st := .debounce })] }

/-- Refutes O37: the wake takes a bay whose presence never held from DEBOUNCE back to EMPTY, and the statement's frame of a wake with no
presence change and no button press keeps the bays. -/
theorem not_powerModesFollowTheirTriggers : ¬ Obligations.PowerModesFollowTheirTriggers := by
  unfold Obligations.PowerModesFollowTheirTriggers
  intro h
  obtain ⟨-, -, -, -, wake, -⟩ := h dormantDebounce ⟨0, 0, 0, 0, true, []⟩
  have idle : ∀ b, b < 16 → (dormantDebounce.bay b).level = (dormantDebounce.bay b).present ∧ (dormantDebounce.bay b).press = false := by
    decide
  obtain ⟨t, eq, -, -, -, -, -, -, -, -, -, -, -, frame⟩ := wake rfl rfl (by decide) idle
  obtain rfl : _ = t := Host.Outcome.next.inj eq
  have same : (_ : Tab Bay) = dormantDebounce.bays := frame .bays (by decide)
  exact absurd same (by decide +kernel)

end

end Sys2Proof.Machine
end

section
/-! Relay links and scheduled activation (O47). -/

namespace Sys2Proof.Machine

section

/-- The drain of a scheduled activation has nothing outstanding but one stripe still FILLING, whose data position on sheet 0 is not folded. -/
def drainWithStripe : State :=
  { State.reset with
    pwr := { State.reset.pwr with mode := .service }
    por := { State.reset.por with draining := true, sched := some ⟨0, 0, 0, 0, 0⟩ }
    par := { State.reset.par with usable := 1, present := 1,
                                  slot := [(0, { Slot.reset with st := .filling, sheets := 1, pSheet := 1, qSheet := 2 })] }
    fch := { State.reset.fch with
      die := [(0, { Die.reset with present := true, profile := some 0 })]
      profile := [(0, some { profileOfRecord 0 [] with tPROG := 1, bpc := 1 })] } }

/-- Refutes O47: the stripes that close short as the drain ends owe the programs of their padding, which the Plotter books; the statement's
frame of the drain's end keeps the Plotter. -/
theorem not_relayLinksAndScheduledActivation : ¬ Obligations.RelayLinksAndScheduledActivation := by
  unfold Obligations.RelayLinksAndScheduledActivation
  intro h
  obtain ⟨-, -, -, -, -, -, -, -, drain, -⟩ := h drainWithStripe ⟨0, 0, 0, 0, true, []⟩ false
  obtain ⟨-, -, -, done⟩ := drain _ rfl (by decide)
  obtain ⟨t, eq, -, -, -, -, -, -, frame⟩ := done rfl rfl rfl (by decide)
  obtain rfl : _ = t := Host.Outcome.next.inj eq
  have same : (_ : Plotter) = drainWithStripe.plt := frame .plt (by decide)
  exact absurd (congrArg (fun p => p.dieLeft) same) (by decide +kernel)

end

end Sys2Proof.Machine
end

section
/-! Other event bits and the Datum time. -/

namespace Sys2Proof.Machine

section
variable {s t : State} {L : List Part} {f g : Fld} {i j sub : ℕ}

/-- An event leaves every other bit as it was. -/
theorem State.fld_event_ne (h : f.reg ≠ g.reg ∨ i ≠ j ∨ f.hi < g.lo ∨ g.hi < f.lo) (hr : .reg g.reg ∉ eventParts) :
    (s.event f i sub).fld g j = s.fld g j := by
  unfold State.event
  split
  · rfl
  · extract_lets s1 n s2 s3
    have h2 : Within eventParts s2 s1 := .ite (State.emit_within (by decide)) .rfl
    have h3 : Within eventParts s3 s1 := (Within.ite (State.record_within (by decide)) .rfl).trans h2
    have h4 : Within eventParts (if n.vector = 1 then s3.signalPfs else if n.vector = 2 then s3.signalMbx i else s3) s1 :=
      (Within.ite (State.signalPfs_within (by decide) (by decide)) (.ite (State.signalMbx_within (by decide) (by decide)) .rfl)).trans h3
    rw [h4.fld hr, State.fld_setFld_ne h]

theorem Within.datumTime (h : Within L t s) (hd : Part.dat ∉ L ∧ Part.now ∉ L) : t.datumTime = s.datumTime := by
  simp only [State.datumTime, State.datumCycles, State.datumParts, State.slewNow, show t.dat = s.dat from h.keeps .dat hd.1,
    show t.now = s.now from h.keeps .now hd.2]

end

end Sys2Proof.Machine
end

section
/-! Field access (O41). -/

namespace Sys2Proof.Machine

section
variable {s t u : State} {L : List Part} {q : MbxReq} {v : ℕ}

theorem State.unlockPayload_congr (hc : t.cip = s.cip) (hd : t.datumTime = s.datumTime) (hn : t.now = s.now) : t.unlockPayload = s.unlockPayload := by
  simp only [State.unlockPayload, State.lockRemain, hc, hd, hn]

/-- A value is no nonce of the list it was taken out of. -/
theorem not_value_of_mem_filter {l : List Nonce} {x : Nonce} (h : x ∈ l.filter fun x => decide (x.value ≠ v)) : x.value ≠ v := by
  simpa using (List.mem_filter.1 h).2

/-- A checked UNLOCK_RESPONSE ends with its record and its answer, on what the body made of the field access. -/
theorem leads_unlockEnd {body : State → State} {m st : ℕ} {M : List Part} {P : State → Prop}
    (hq : carriedOut s q ⟨0x0307, 1, false, 37, 548, false⟩) (he : exec (.unlockResponse q) s = .next (s.serve q ⟨0x0307, 1, false, 37, 548, false⟩ body))
    (hb : body s = u.unlockEnd q m st) (hu : Within M u s) (hm : .mbx ∉ M)
    (hP : ∀ t, Within (recordParts ++ respParts) t u → t.cip = u.cip → t.unlockPayload = u.unlockPayload → P t) :
    leads (.unlockResponse q) s fun t =>
      answers s t q 0x0307 st false (if st = Ms.invalidField ∨ st = Ms.invalidLength then [] else t.unlockPayload) ∧ P t := by
  have hr : Within recordParts (u.unlockRecord q m st) u := State.unlockRecord_within fun _ h => h
  have ht : Within (recordParts ++ respParts) (u.unlockEnd q m st) u := by
    unfold State.unlockEnd
    exact Within.trans ((State.respond_within_resp fun _ h => h).mono (by decide)) (hr.mono (by decide))
  have pay : ∀ w, Within (recordParts ++ respParts) w u → w.unlockPayload = u.unlockPayload := fun w hw =>
    State.unlockPayload_congr (hw.keeps .cip (by decide)) (hw.datumTime (by decide)) (hw.keeps .now (by decide))
  refine ⟨_, he.trans (congrArg _ (hq.serve_eq.trans hb)), ?_, hP _ ht (ht.keeps .cip (by decide)) (pay _ ht)⟩
  rw [pay _ ht, ← pay _ (hr.mono (by decide))]
  exact hq.respond_answers ((hr.mb (by decide)).trans (hu.mb hm)) (hu.out_suffix.trans hr.out_suffix)

end

/-- What a response makes of the nonces: the value it names is no longer among them. -/
def State.nonceUsed (s : State) (v : ℕ) : State := { s with cip := { s.cip with nonces := s.cip.nonces.filter (fun x => decide (x.value ≠ v)) } }

theorem State.nonceUsed_within {s : State} {v : ℕ} : Within [.cip] (s.nonceUsed v) s := .step (by decide) (.cip s _) .rfl

theorem State.unlockPayload_unlocked {u : State} (hf : u.cip.failures = 0) (hl : u.cip.lockFrom = none) :
    u.unlockPayload = [8] ++ zeros 3 ++ bytesLe 8 0 := by
  rw [State.unlockPayload, hf, hl]
  rfl

/-- A proof that fails adds to the count, and the eighth begins the lockout. -/
theorem State.badProof_spec (s : State) (v : ℕ) (free : s.cip.lockFrom = none) :
    let w := ({ s.nonceUsed v with cip := { (s.nonceUsed v).cip with failures := s.cip.failures + 1 } } : State).event F.LEG_EVENTS_BAD_AUTH 0 0
    let u := if 8 ≤ w.cip.failures then ({ w with cip := { w.cip with lockFrom := some w.now } } : State).event F.LEG_EVENTS_LOCKOUT 0 0 else w
    Within (([.cip, .reg .LEG_EVENTS] : List Part) ++ eventParts) u s ∧
    u.cip = { (s.nonceUsed v).cip with failures := s.cip.failures + 1, lockFrom := if 7 ≤ s.cip.failures then some s.now else none } ∧
    u.fld F.LEG_EVENTS_BAD_AUTH 0 = 1 ∧ (7 ≤ s.cip.failures → u.fld F.LEG_EVENTS_LOCKOUT 0 = 1) := by
  intro w u
  let a : State := { s.nonceUsed v with cip := { (s.nonceUsed v).cip with failures := s.cip.failures + 1 } }
  have ha : Within [.cip] a s := .step (by decide) (.cip _ _) State.nonceUsed_within
  have hw : Within (.reg .LEG_EVENTS :: eventParts) w a := State.event_within (by decide) (by decide)
  have cip : w.cip = a.cip := hw.keeps .cip (by decide)
  have now : w.now = s.now := ((hw.keeps .now (by decide)).trans (ha.keeps .now (by decide)))
  have count : w.cip.failures = s.cip.failures + 1 := by rw [cip]
  have bad : w.fld F.LEG_EVENTS_BAD_AUTH 0 = 1 := State.fld_event (by decide) rfl (by decide)
  have hws : Within (([.cip, .reg .LEG_EVENTS] : List Part) ++ eventParts) w s := (hw.mono (by decide)).trans (ha.mono (by decide))
  by_cases h : 7 ≤ s.cip.failures
  · let b : State := { w with cip := { w.cip with lockFrom := some w.now } }
    have eq : u = b.event F.LEG_EVENTS_LOCKOUT 0 0 := if_pos (by omega)
    have hb : Within (.reg .LEG_EVENTS :: eventParts) (b.event F.LEG_EVENTS_LOCKOUT 0 0) b := State.event_within (by decide) (by decide)
    rw [eq, if_pos h]
    refine ⟨(hb.mono (by decide)).trans (.step (by decide) (.cip w _) hws), ?_, ?_, fun _ => State.fld_event (by decide) rfl (by decide)⟩
    · rw [show (b.event F.LEG_EVENTS_LOCKOUT 0 0).cip = b.cip from hb.keeps .cip (by decide)]
      show { w.cip with lockFrom := some w.now } = _
      rw [cip, now]
    · rw [State.fld_event_ne (by decide) (by decide)]
      exact bad
  · have eq : u = w := if_neg (by omega)
    rw [eq, if_neg h, cip]
    refine ⟨hws, ?_, bad, fun k => absurd k h⟩
    show { (s.nonceUsed v).cip with failures := s.cip.failures + 1 } = _
    rw [← free]
    rfl

/-- Settles O41: each response by what it names, a verified one opening the access and an eighth failure closing it for an hour. -/
theorem fieldAccessOpensOnAVerifiedResponse : Obligations.FieldAccessOpensOnAVerifiedResponse := by
  unfold Obligations.FieldAccessOpensOnAVerifiedResponse
  dsimp only
  refine fun s q => ⟨fun hq => ?_, fun hq hlen => ⟨fun locked => ?_, fun free hm h1 h512 hz h96 hcred => ⟨fun dead => ?_, fun live => ?_⟩,
    fun free hcred h1 h512 => ?_⟩, fun v => ?_, fun h => ?_, fun locked ended => ?_⟩
  · let u : State := { s with fresh := s.fresh + 1,
                              cip := { s.cip with nonces := ⟨q.path, Config.drbg s.fresh % 2 ^ 256, s.plt.frame⟩ ::
                                                    s.cip.nonces.filter (fun x => decide (x.path ≠ q.path)) } }
    have hu : Within [.cip, .fresh] u s := .update [.cip, .fresh] (by decide) .rfl rfl
    obtain ⟨t, eq, ans, hc, keep⟩ := leads_respond (P := fun t => t.cip = u.cip ∧ keepsBut (([.cip, .fresh] : List Part) ++ mbxParts) s t)
      (i := .unlockChallenge q) hq rfl (u := u) rfl hu (by decide) fun t ht =>
        ⟨ht.keeps .cip (by decide), Within.keeps (.trans (ht.mono (by decide)) (hu.mono (by decide)))⟩
    exact ⟨t, eq, by rw [hc], by rw [hc], by rw [hc], by rw [hc], ans, keep⟩
  · obtain ⟨t, eq, ans, hn, hf, ho, pay, keep⟩ := leads_unlockEnd (u := s.nonceUsed (le q.payload 4 32)) (m := q.payload.getD 0 0) (st := Ms.lockedOut)
      (P := fun t => (∀ x ∈ t.cip.nonces, x.value ≠ le q.payload 4 32) ∧ t.cip.failures = s.cip.failures ∧ t.cip.open_ = s.cip.open_ ∧
        t.unlockPayload = s.unlockPayload ∧ keepsBut (([.cip, .gaz, .reg .GAZ_COUNTS] : List Part) ++ mbxParts) s t) hq rfl
      (if_pos (Option.isSome_iff_ne_none.2 locked)) State.nonceUsed_within (by decide) fun t ht cip pay => by
        rw [cip]
        exact ⟨fun x => not_value_of_mem_filter, rfl, rfl, pay, Within.keeps (.trans (ht.mono (by decide)) (State.nonceUsed_within.mono (by decide)))⟩
    rw [if_neg (by decide), pay] at ans
    exact ⟨t, eq, ans, hn, hf, ho, keep⟩
  · have checked : ¬(3 ≤ q.payload.getD 0 0 ∨ le q.payload 2 2 = 0 ∨ 512 < le q.payload 2 2 ∨ q.payload.getD 1 0 ≠ 0 ∨
        q.payload.getD 0 0 < 2 ∧ le q.payload 2 2 ≠ 96 ∨ s.hasCredential (q.payload.getD 0 0) = false) := by
      rintro (h | h | h | h | h | h)
      · omega
      · omega
      · omega
      · exact h hz
      · exact h.2 (h96 h.1)
      · exact absurd (h.symm.trans hcred) (by decide)
    obtain ⟨t, eq, ans, pay, keep⟩ := leads_unlockEnd (u := s) (m := q.payload.getD 0 0) (st := Ms.stale)
      (P := fun t => t.unlockPayload = s.unlockPayload ∧ keepsBut (([.gaz, .reg .GAZ_COUNTS] : List Part) ++ mbxParts) s t) hq rfl
      (by
        dsimp only
        rw [if_neg (by simp [free]), if_neg (by omega), if_neg checked, if_pos (by simp [dead])])
      (Within.rfl (L := [])) (by decide) fun t ht _ pay => ⟨pay, (ht.mono (by decide)).keeps⟩
    rw [if_neg (by decide), pay] at ans
    exact ⟨t, eq, ans, keep⟩
  · have checked : ¬(3 ≤ q.payload.getD 0 0 ∨ le q.payload 2 2 = 0 ∨ 512 < le q.payload 2 2 ∨ q.payload.getD 1 0 ≠ 0 ∨
        q.payload.getD 0 0 < 2 ∧ le q.payload 2 2 ≠ 96 ∨ s.hasCredential (q.payload.getD 0 0) = false) := by
      rintro (h | h | h | h | h | h)
      · omega
      · omega
      · omega
      · exact h hz
      · exact h.2 (h96 h.1)
      · exact absurd (h.symm.trans hcred) (by decide)
    by_cases proof : Config.proofOk (q.payload.getD 0 0) (le q.payload 4 32) ((q.payload.drop 36).take (le q.payload 2 2))
        (s.credential (q.payload.getD 0 0)) = true
    · simp only [proof, if_true]
      let a : State := { s.nonceUsed (le q.payload 4 32) with cip := { (s.nonceUsed (le q.payload 4 32)).cip with failures := 0, open_ := true } }
      have ha : Within [.cip] a s := .step (by decide) (.cip _ _) State.nonceUsed_within
      let u := a.event F.LEG_EVENTS_UNLOCKED 0 0
      have hu : Within (.reg .LEG_EVENTS :: eventParts) u a := State.event_within (by decide) (by decide)
      have cip : u.cip = a.cip := hu.keeps .cip (by decide)
      have hus : Within (([.cip, .reg .LEG_EVENTS] : List Part) ++ eventParts) u s := (hu.mono (by decide)).trans (ha.mono (by decide))
      have pay := State.unlockPayload_unlocked (u := u) (by rw [cip]) (by rw [cip]; exact free)
      obtain ⟨t, eq, ans, same, bit, keep⟩ := leads_unlockEnd (u := u) (m := q.payload.getD 0 0) (st := Ms.success)
        (P := fun t => (t.cip = a.cip ∧ t.unlockPayload = u.unlockPayload) ∧ t.fld F.LEG_EVENTS_UNLOCKED 0 = 1 ∧
          keepsBut (([.cip, .gaz, .reg .GAZ_COUNTS, .reg .LEG_EVENTS] : List Part) ++ mbxParts) s t) hq rfl
        (by
          dsimp only
          rw [if_neg (by simp [free]), if_neg (by omega), if_neg checked, if_neg (by simp [live]), if_pos proof]
          rfl) hus (by decide) fun t ht tc tp => ⟨⟨tc.trans cip, tp⟩,
            (ht.fld (by decide)).trans (State.fld_event (by decide) rfl (by decide)), Within.keeps (.trans (ht.mono (by decide)) (hus.mono (by decide)))⟩
      obtain ⟨same, tp⟩ := same
      rw [if_neg (by decide), tp, pay] at ans
      refine ⟨t, eq, ?_⟩
      dsimp only
      rw [same]
      exact ⟨fun x => not_value_of_mem_filter, rfl, ⟨rfl, rfl, bit, ans⟩, keep⟩
    · simp only [proof, if_false, Bool.false_eq_true]
      obtain ⟨hu, cip, bad, lock⟩ := State.badProof_spec s (le q.payload 4 32) free
      obtain ⟨t, eq, ans, same, bad, lock, keep⟩ := leads_unlockEnd (m := q.payload.getD 0 0) (st := Ms.badAuth)
        (P := fun t => t.cip = _ ∧ t.fld F.LEG_EVENTS_BAD_AUTH 0 = 1 ∧ (7 ≤ s.cip.failures → t.fld F.LEG_EVENTS_LOCKOUT 0 = 1) ∧
          keepsBut (([.cip, .gaz, .reg .GAZ_COUNTS, .reg .LEG_EVENTS] : List Part) ++ mbxParts) s t) hq rfl
        (by
          dsimp only
          rw [if_neg (by simp [free]), if_neg (by omega), if_neg checked, if_neg (by simp [live]), if_neg proof]
          rfl) hu (by decide) fun t ht tc _ => ⟨tc.trans cip, (ht.fld (by decide)).trans bad, fun h => (ht.fld (by decide)).trans (lock h),
            Within.keeps (.trans (ht.mono (by decide)) (hu.mono (by decide)))⟩
      rw [if_neg (by decide)] at ans
      refine ⟨t, eq, ?_⟩
      dsimp only
      rw [same]
      exact ⟨fun x => not_value_of_mem_filter, rfl, ⟨rfl, rfl, bad, rfl, lock, ans⟩, keep⟩
  · obtain ⟨t, eq, ans, keep⟩ := leads_unlockEnd (u := s) (m := q.payload.getD 0 0) (st := Ms.invalidField)
      (P := keepsBut (([.gaz, .reg .GAZ_COUNTS] : List Part) ++ mbxParts) s) hq rfl
      (by
        dsimp only
        rw [if_neg (by simp [free]), if_neg (by omega), if_pos (.inr (.inr (.inr (.inr (.inr hcred)))))])
      (Within.rfl (L := [])) (by decide) fun t ht _ _ => (ht.mono (by decide)).keeps
    rw [if_pos (.inl rfl)] at ans
    exact ⟨t, eq, ans, keep⟩
  · exact ⟨_, rfl, fun x => by simp, rfl, rfl, Within.keeps (.step (by decide) (.cip s _) .rfl)⟩
  · exact if_pos (.inr h)
  · exact ⟨_, if_neg (by simp [locked, ended]), rfl, rfl, rfl, Within.keeps (.step (by decide) (.cip s _) .rfl)⟩

end Sys2Proof.Machine
end

section
/-! The Gazetteer (O43). -/

namespace Sys2Proof.Machine

section
variable {g : Gaz} {m : Mode} {b : Bool} {p k : ℕ} {r : GazRec}

/-- What a Gazetteer keeps of a record in the store and its tail leaves the live records as they are. -/
theorem Gaz.keep_live : ∃ saved dirty tail, g.keep m b = { g with saved := saved, dirty := dirty, tail := tail } := by
  unfold Gaz.keep
  split
  · exact ⟨_, _, _, rfl⟩
  · exact ⟨_, _, _, rfl⟩
  · exact ⟨_, _, _, rfl⟩
  · cases b <;> exact ⟨_, _, _, rfl⟩
  · cases b <;> exact ⟨_, _, _, rfl⟩
  · cases b <;> exact ⟨_, _, _, rfl⟩
  · cases b <;> exact ⟨_, _, _, rfl⟩

theorem Gaz.at_put_self : (g.put p r).at p = r := tabGet_set_self ..
theorem Gaz.at_put_ne (h : k ≠ p) : (g.put p r).at k = g.at k := tabGet_set_ne _ _ _ h

/-- A record that is appended, sealed. -/
def Gaz.appended (g : Gaz) (r : GazRec) : GazRec := { r with rep := 0, lastDelta := 0, seq := g.seq }.sealCrc

theorem Gaz.at_append_self : (g.append r).at g.next = g.appended r := Gaz.at_put_self
theorem Gaz.at_append_ne (h : k ≠ g.next) : (g.append r).at k = g.at k := Gaz.at_put_ne h

theorem Gaz.mergeInto_none (h : ∀ p, g.recent = some p → (g.at p).code ≠ r.code) : g.mergeInto r = none := by
  unfold Gaz.mergeInto
  split
  · rfl
  · next p e => exact if_neg fun k => h p e k.2.2.1

theorem Gaz.mergeInto_recent (h : g.recent = some p) (k : (g.at p).block = r.block ∧ (g.at p).inst = r.inst ∧ (g.at p).code = r.code ∧
    (g.at p).data = r.data ∧ (g.at p).time ≤ r.time ∧ r.time - (g.at p).time ≤ 0x3FFFFF) : g.mergeInto r = some p := by
  unfold Gaz.mergeInto
  rw [h]
  exact if_pos k

end

section
variable {s t : State} {block inst sev code data p : ℕ}

/-- The record an event of a block makes before it takes its place (R569). -/
def State.gazRec (s : State) (block inst sev code data : ℕ) : GazRec :=
  ⟨s.datumTime, 0, block, inst, sev, s.dat.unset, code, 0, data % 2 ^ 64, 0, 0⟩

theorem State.record_appended (hm : s.gaz.mergeInto (s.gazRec block inst sev code data) = none) (hf : (s.gaz.vg40 && s.gaz.full) = false) :
    ∃ b, (s.record block inst sev code data).gaz = (s.gaz.append (s.gazRec block inst sev code data)).keep s.pwr.mode b := by
  refine ⟨decide (sev = 4 ∨ sev = 6 ∨ code = 1), ?_⟩
  unfold State.record
  extract_lets _ r
  rw [show s.gaz.mergeInto r = none from hm]
  dsimp only
  rw [if_neg (by simp [hf])]
  split
  · exact (State.alert_within (L := [.reg .CHR_ALERT_STATUS, .mgmt, .out]) (by decide) (by decide) (by decide)).keeps .gaz (by decide)
  · rfl

/-- A record that is not merged and not dropped takes position NEXT. -/
theorem State.record_new (hm : s.gaz.mergeInto (s.gazRec block inst sev code data) = none) (hf : (s.gaz.vg40 && s.gaz.full) = false) :
    let g := (s.record block inst sev code data).gaz
    g.at s.gaz.next = s.gaz.appended (s.gazRec block inst sev code data) ∧ (∀ p, p ≠ s.gaz.next → g.at p = s.gaz.at p) ∧
    g.next = gazAfter s.gaz.vg40 s.gaz.next % 8192 ∧ g.full = (s.gaz.full || (s.gaz.vg40 && decide (s.gaz.next + 1 = 8192))) ∧
    g.seq = (s.gaz.seq + 1) % 2 ^ 32 ∧ g.recent = some s.gaz.next ∧ g.vg40 = s.gaz.vg40 := by
  intro g
  obtain ⟨b, hb⟩ := State.record_appended hm hf
  obtain ⟨x, y, z, live⟩ := Gaz.keep_live (g := s.gaz.append (s.gazRec block inst sev code data)) (m := s.pwr.mode) (b := b)
  rw [show g = _ from hb.trans live]
  exact ⟨Gaz.at_append_self, fun p hp => Gaz.at_append_ne hp, rfl, rfl, rfl, rfl, rfl⟩

theorem State.record_merged (h : s.gaz.mergeInto (s.gazRec block inst sev code data) = some p) :
    s.record block inst sev code data = { s with gaz := (s.gaz.merge p s.datumTime).keep s.pwr.mode false } := by
  unfold State.record
  extract_lets _ r
  rw [show s.gaz.mergeInto r = some p from h]

theorem State.record_dropped (hm : s.gaz.mergeInto (s.gazRec block inst sev code data) = none) (hf : (s.gaz.vg40 && s.gaz.full) = true) :
    s.record block inst sev code data = s.bump F.GAZ_COUNTS_DROPPED 0 1 := by
  unfold State.record
  extract_lets _ r
  rw [show s.gaz.mergeInto r = none from hm]
  exact if_pos hf

/-- The Gazetteer as a clear leaves it before its own record. -/
def Gaz.emptied (g : Gaz) : Gaz :=
  { g with recs := [], next := 0, full := false, count := 0, recent := none, dirty := List.range 64, tail := [] }

/-- A clear leaves its own record alone, persisted (R575). -/
theorem State.gazClearBy_spec (s : State) (agent who : ℕ) :
    let r := s.gazRec 0x0E2 0 0 0x0001 (agent + who % 256 * 2 ^ 8 + s.gaz.count % 65536 * 2 ^ 16)
    (s.gazClearBy agent who).gaz = (s.gaz.emptied.append r).persist := by
  intro r
  let u : State := { s with gaz := s.gaz.emptied }
  obtain ⟨b, hb⟩ := State.record_appended (s := u) (block := 0x0E2) (inst := 0) (sev := 0) (code := 0x0001)
    (data := agent + who % 256 * 2 ^ 8 + s.gaz.count % 65536 * 2 ^ 16) (Gaz.mergeInto_none fun p hp => nomatch hp) (Bool.and_false _)
  obtain ⟨x, y, z, keep⟩ := Gaz.keep_live (g := s.gaz.emptied.append r) (m := s.pwr.mode) (b := b)
  show ((u.record 0x0E2 0 0 0x0001 _).gaz).persist = _
  rw [hb]
  exact (congrArg Gaz.persist keep).trans rfl

theorem Gaz.cleared_at {g : Gaz} {r : GazRec} (h : p ≠ 0) : ((g.emptied.append r).persist).at p = GazRec.empty := Gaz.at_append_ne h
theorem Gaz.cleared_zero {g : Gaz} {r : GazRec} : ((g.emptied.append r).persist).at 0 = g.appended r := Gaz.at_append_self (g := g.emptied)
theorem Gaz.cleared_next {g : Gaz} {r : GazRec} : ((g.emptied.append r).persist).next = 1 := by
  show gazAfter g.vg40 0 % 8192 = 1
  cases g.vg40 <;> rfl

theorem Gaz.cleared_full {g : Gaz} {r : GazRec} : ((g.emptied.append r).persist).full = false := by
  show (false || (g.vg40 && false)) = false
  cases g.vg40 <;> rfl

end

/-- Settles O43: each record by the place it takes, a clear by the record it leaves. -/
theorem theGazetteerRecordsMergesAndClears : Obligations.TheGazetteerRecordsMergesAndClears := by
  unfold Obligations.TheGazetteerRecordsMergesAndClears
  dsimp only
  refine fun s q => ⟨fun hq => ⟨fun h1 h2 h3 h4 => leads_answer hq rfl (if_neg ?_), fun h => leads_answer hq rfl (if_pos h)⟩, fun hq => ?_,
    fun hq => ⟨fun l hl hp hv => ?_, fun l hl hp hv => leads_answer hq rfl ?_⟩,
    fun block inst sev code data hb hi hs hc hd => ⟨fun room fresh => ?_, fun p hp b i c d early near => ?_, fun v40 full none => ?_⟩,
    fun on => ?_, fun h => if_pos (by tauto)⟩
  · rintro (h | h | h | h)
    · omega
    · omega
    · omega
    · exact absurd (h4 h.1) (by omega)
  · have hu : Within recordParts (s.gazClearBy (clearAgent q.path) q.path) s := State.gazClearBy_within fun _ h => h
    obtain ⟨t, eq, ans, gaz, keep⟩ := leads_respond (i := .gazClear q) (P := fun t => t.gaz = (s.gazClearBy (clearAgent q.path) q.path).gaz ∧
        keepsBut (([.gaz, .reg .GAZ_COUNTS] : List Part) ++ mbxParts) s t) hq rfl rfl hu (by decide)
      fun t ht => ⟨ht.keeps .gaz (by decide), Within.keeps (.trans (ht.mono (by decide)) (hu.mono (by decide)))⟩
    refine ⟨t, eq, ?_⟩
    dsimp only
    rw [gaz, State.gazClearBy_spec]
    exact ⟨⟨by rw [Gaz.cleared_zero]; rfl, by rw [Gaz.cleared_zero]; rfl, by rw [Gaz.cleared_zero]; rfl, fun p hp => Gaz.cleared_at (by omega),
      Gaz.cleared_full⟩, Gaz.cleared_next, rfl, Gaz.cleared_at (by decide), rfl, rfl, rfl, ans, keep⟩
  · let a : State := { s with gaz := { s.gaz with vg40 := decide (l = 1) } }
    let c := a.gazClearBy (clearAgent q.path) q.path
    let u := c.record 0x0E2 0 0 0x0003 l
    have ha : Within [.gaz] a s := .step (by decide) (.gaz s _) .rfl
    have hc : Within recordParts c a := State.gazClearBy_within fun _ h => h
    have hu : Within recordParts u s := .trans (State.record_within fun _ h => h) (hc.trans (ha.mono (by decide)))
    have cg := State.gazClearBy_spec a (clearAgent q.path) q.path
    have first : (c.gaz.at 0).code = 1 ∧ (c.gaz.at 0).block = 0x0E2 ∧ (c.gaz.at 0).seq = s.gaz.seq := by
      rw [cg, Gaz.cleared_zero]
      exact ⟨rfl, rfl, rfl⟩
    have next : c.gaz.next = 1 := by rw [cg, Gaz.cleared_next]
    have recent : c.gaz.recent = some 0 := by rw [cg]; rfl
    have full : c.gaz.full = false := by rw [cg, Gaz.cleared_full]
    have empty : ∀ p, p ≠ 0 → c.gaz.at p = GazRec.empty := fun p hp => by rw [cg, Gaz.cleared_at hp]
    have lay : c.gaz.vg40 = decide (l = 1) := by rw [cg]; rfl
    obtain ⟨here, there, after, fullAfter, -, -, layAfter⟩ := State.record_new (s := c) (block := 0x0E2) (inst := 0) (sev := 0) (code := 0x0003) (data := l)
      (Gaz.mergeInto_none fun p hp => by
        obtain rfl : 0 = p := Option.some.inj (recent.symm.trans hp)
        rw [first.1]
        exact (by decide : 1 ≠ 3)) (by rw [full, Bool.and_false])
    obtain ⟨t, eq, ans, gaz, keep⟩ := leads_respond (i := .gazLayout q) (P := fun t => t.gaz = u.gaz ∧
        keepsBut (([.gaz, .reg .GAZ_COUNTS] : List Part) ++ mbxParts) s t) hq rfl
      (by
        dsimp only
        rw [hp, if_neg (by omega), if_neg (by rw [hv]; rcases (by omega : l = 0 ∨ l = 1) with rfl | rfl <;> decide)]) hu (by decide)
      fun t ht => ⟨ht.keeps .gaz (by decide), Within.keeps (.trans (ht.mono (by decide)) (hu.mono (by decide)))⟩
    refine ⟨t, eq, ?_⟩
    dsimp only
    rw [next] at here there after fullAfter
    rw [gaz, there 0 (by decide), here, after, fullAfter, full, lay]
    refine ⟨⟨first.1, first.2.1, first.2.2, fun p hp => (there p (by omega)).trans (empty p (by omega)), ?_⟩, layAfter.trans lay, rfl,
      Nat.mod_eq_of_lt (by omega), ?_, ans, keep⟩
    · simp
    · cases decide (l = 1) <;> rfl
  · dsimp only
    rw [hp, if_neg (by omega), if_pos hv]
  · obtain ⟨here, there, -, -, seq, recent, -⟩ := State.record_new (s := s) (block := block) (inst := inst) (sev := sev) (code := code) (data := data)
      (Gaz.mergeInto_none fresh) (by rcases room with h | h <;> simp [h])
    refine ⟨s.record block inst sev code data, ?_, ?_⟩
    · show Host.Outcome.next (s.record (block % 4096) (inst % 4096) (sev % 16) (code % 65536) data) = _
      rw [Nat.mod_eq_of_lt hb, Nat.mod_eq_of_lt hi, Nat.mod_eq_of_lt hs, Nat.mod_eq_of_lt hc]
    · dsimp only
      rw [here]
      exact ⟨rfl, rfl, rfl, rfl, Nat.mod_eq_of_lt hd, rfl, rfl, rfl, seq, recent, there, (State.record_within fun _ h => h).keeps⟩
  · obtain ⟨x, y, z, live⟩ := Gaz.keep_live (g := s.gaz.merge p s.datumTime) (m := s.pwr.mode) (b := false)
    have here : (s.gaz.merge p s.datumTime).at p =
        ({ s.gaz.at p with rep := satAdd 65535 (s.gaz.at p).rep 1, lastDelta := s.datumTime - (s.gaz.at p).time } : GazRec).sealCrc := Gaz.at_put_self
    refine ⟨{ s with gaz := { s.gaz.merge p s.datumTime with saved := x, dirty := y, tail := z } }, ?_, ?_⟩
    · show Host.Outcome.next (s.record (block % 4096) (inst % 4096) (sev % 16) (code % 65536) data) = _
      rw [Nat.mod_eq_of_lt hb, Nat.mod_eq_of_lt hi, Nat.mod_eq_of_lt hs, Nat.mod_eq_of_lt hc,
        State.record_merged (Gaz.mergeInto_recent hp ⟨b, i, c, d.trans (Nat.mod_eq_of_lt hd).symm, early, near⟩), live]
    · show ((s.gaz.merge p s.datumTime).at p).rep = _ ∧ ((s.gaz.merge p s.datumTime).at p).lastDelta = _ ∧ ((s.gaz.merge p s.datumTime).at p).time = _ ∧ _
      rw [here]
      exact ⟨rfl, rfl, rfl, rfl, fun k hk => Gaz.at_put_ne hk, Within.keeps (.step (by decide) (.gaz s _) .rfl)⟩
  · refine ⟨s.bump F.GAZ_COUNTS_DROPPED 0 1, ?_, rfl, State.fld_bump (by decide), (State.bump_within (by decide)).keeps⟩
    refine congrArg _ (State.record_dropped (Gaz.mergeInto_none fun p hp => nomatch none.symm.trans hp) (by simp [v40, full]))
  · have awake : ¬(s.pwr.mode = .holdup ∨ s.pwr.mode = .dormant ∨ s.pwr.mode = .vault ∨ s.pwr.mode = .stopped) := by
      rintro (h | h | h | h) <;> simp [State.hubOn, h] at on
    exact ⟨_, if_neg awake, rfl, rfl, rfl, rfl, Within.keeps (.step (by decide) (.gaz s _) .rfl)⟩

end Sys2Proof.Machine
end

section
/-! Datum (O44). -/

namespace Sys2Proof.Machine

section
variable {s t u : State} {v : ℕ}

theorem slewMoved_zero (left : ℤ) : slewMoved left 0 = 0 := by
  unfold slewMoved
  split <;> omega

theorem slewMoved_lt {left : ℤ} {c : ℕ} (h : c < 1024) : slewMoved left c = 0 := by
  rw [← slewMoved_zero left]
  unfold slewMoved
  rw [Nat.div_eq_of_lt h, Nat.zero_div]

/-- A Datum counted up to now reads its count. -/
theorem State.datumCycles_now (since : u.dat.since = u.now) (frac : u.dat.frac < datumDen) (acc : u.dat.slewing = false ∨ u.dat.slewAcc < 1024) :
    u.datumCycles = u.dat.count % 2 ^ 47 := by
  have parts : u.datumParts / datumDen = 0 := by
    rw [State.datumParts, since, Nat.sub_self, Nat.zero_mul, Nat.add_zero]
    exact Nat.div_eq_of_lt frac
  have slew : u.slewNow = 0 := by
    unfold State.slewNow
    rw [parts, Nat.add_zero]
    rcases acc with h | h
    · rw [h]
      rfl
    · rw [slewMoved_lt h, ite_self]
  rw [State.datumCycles, parts, slew, Nat.add_zero, add_zero, Int.toNat_natCast]

theorem State.datumCycles_lt : s.datumCycles < 2 ^ 47 := Nat.mod_lt _ (by decide)

theorem datumDen_pos : 0 < datumDen := by decide

/-- Counting Datum up to now changes no time it reads (R566). -/
theorem State.rebase_datumCycles : s.rebase.datumCycles = s.datumCycles :=
  (State.datumCycles_now (u := s.rebase) rfl (Nat.mod_lt _ datumDen_pos) (.inr (Nat.mod_lt _ (by decide)))).trans (Nat.mod_eq_of_lt State.datumCycles_lt)

/-- The alarm fires while the device runs. -/
theorem State.alarmFires_running (hm : s.pwr.mode = .service ∨ s.pwr.mode = .degraded) (he : s.pwr.entering = none) :
    s.alarmFires = ({ s with dat := { s.dat with armed := false } } : State).event F.DAT_EVENTS_ALARM 0 0 := by
  have hw : Within (.reg .DAT_EVENTS :: eventParts) (({ s with dat := { s.dat with armed := false } } : State).event F.DAT_EVENTS_ALARM 0 0)
    { s with dat := { s.dat with armed := false } } := State.event_within (by decide) (by decide)
  have pwr : (({ s with dat := { s.dat with armed := false } } : State).event F.DAT_EVENTS_ALARM 0 0).pwr = s.pwr := hw.keeps .pwr (by decide)
  unfold State.alarmFires
  extract_lets _ a _ b
  rw [if_neg (show ¬a.pwr.mode = .vault by
    intro h
    rcases hm with k | k <;> exact nomatch k.symm.trans h)]
  refine if_neg ?_
  rw [show b.pwr = s.pwr from pwr, he]
  rcases hm with k | k <;> rw [k] <;> decide

/-- What a step may change: Datum, the times that move with it, and its event. -/
def stepParts : List Part := ([.dat, .por, .svy, .reg .DAT_EVENTS] : List Part) ++ eventParts

/-- A set that steps Datum (R566). -/
theorem State.setDatum_step {row cycles : ℕ} (big : s.dat.unset = true ∨ 32768 ≤ ((cycles : ℤ) - (s.datumCycles : ℤ)).natAbs) :
    ∃ u, Within stepParts u s ∧ u.dat = { s.rebase.dat with count := cycles % 2 ^ 47, since := s.now, frac := 0, unset := false, slewLeft := 0, slewing := false } ∧
      u.fld F.DAT_EVENTS_STEP 0 = 1 ∧
      s.setDatum row cycles = if s.dat.armed = true ∧ s.dat.alarm ≤ cycles / 32 ∧ s.datumTime < s.dat.alarm then u.alarmFires else u := by
  unfold State.setDatum
  extract_lets _ r cur diff d p a b _ u
  have hr : Within stepParts r s := State.rebase_within (by decide)
  have ha : Within stepParts a r := .update [.dat, .por] (by decide) .rfl rfl
  have hb : Within (.reg .DAT_EVENTS :: eventParts) b a :=
    (State.event_within (by decide) (by decide)).trans (State.record_within (by decide))
  have hu : Within [.svy] u b := .step (by decide) (.svy b _) .rfl
  have dat : u.dat = a.dat := hb.keeps .dat (by decide)
  refine ⟨u, (hu.mono (by decide)).trans ((hb.mono (by decide)).trans (ha.trans hr)), dat, ?_, ?_⟩
  · rw [hu.fld (by decide)]
    exact State.fld_event (by decide) rfl (by decide)
  · refine (if_pos big).trans ?_
    rw [dat]
    rfl

/-- A step that fires no alarm. -/
theorem State.datumTime_stepped (h : u.dat = { s.rebase.dat with
      count := v * 32 % 2 ^ 47, since := s.now, frac := 0, unset := false, slewLeft := 0, slewing := false }) (now : u.now = s.now) (hv : v < 2 ^ 42) :
    u.datumTime = v := by
  rw [State.datumTime, State.datumCycles_now (by rw [h, now]) (by rw [h]; exact datumDen_pos) (.inl (by rw [h])), h]
  show v * 32 % 2 ^ 47 % 2 ^ 47 / 32 = v
  omega

end

/-- Settles O44: each set of Datum by the cycles it counts up to now, each alarm by the mode it finds. -/
theorem datumStepsSlewsAndFiresItsAlarm : Obligations.DatumStepsSlewsAndFiresItsAlarm := by
  unfold Obligations.DatumStepsSlewsAndFiresItsAlarm
  dsimp only
  refine fun s q => ⟨fun hq => leads_answer hq rfl rfl, fun hq => ⟨fun hv big => ⟨fun idle => ?_, fun armed early late hm he => ?_, fun armed hlt => ?_⟩,
    fun hv set small => ?_, fun hv => leads_answer hq rfl (if_pos hv)⟩, fun hq hv => ⟨fun h => ?_, fun set hz => ?_, fun set hz hle => ?_⟩,
    fun h => if_neg fun k => by omega, fun armed due => ⟨fun hm => ?_, fun hm he => ?_⟩, fun h => ?_, fun on done => ?_, ?_⟩
  · obtain ⟨u, hu, dat, step, eq⟩ := State.setDatum_step (row := 1) big
    obtain ⟨t, run, ans, same, hs, keep⟩ := leads_respond (i := .datumSet q) (u := u) (st := Ms.success) (a := false) (l := bytesLe 8 s.datumWord)
      (P := fun t => (t.dat = u.dat ∧ t.datumTime = u.datumTime) ∧ t.fld F.DAT_EVENTS_STEP 0 = 1 ∧ keepsBut (stepParts ++ mbxParts) s t) hq rfl
      (by
        dsimp only
        rw [if_neg (by omega), eq, if_neg (by simp [idle])]) hu (by decide)
      fun t ht => ⟨⟨ht.keeps .dat (by decide), ht.datumTime (by decide)⟩, (ht.fld (by decide)).trans step,
        Within.keeps (.trans (ht.mono (by decide)) (hu.mono (by decide)))⟩
    exact ⟨t, run, by rw [same.1, dat], same.2.trans (State.datumTime_stepped dat (hu.keeps .now (by decide)) hv), by rw [same.1, dat], hs, ans, keep⟩
  · obtain ⟨u, hu, dat, step, eq⟩ := State.setDatum_step (row := 1) big
    have pwr : u.pwr = s.pwr := hu.keeps .pwr (by decide)
    have fires := State.alarmFires_running (s := u) (.inl (by rw [pwr, hm])) (by rw [pwr, he])
    have hf : Within (.dat :: .reg .DAT_EVENTS :: eventParts) u.alarmFires u := by
      rw [fires]
      exact (State.event_within (by decide) (by decide)).trans (.step (by decide) (.dat u _) .rfl)
    obtain ⟨t, run, -, same, keep⟩ := leads_respond (i := .datumSet q) (u := u.alarmFires) (st := Ms.success) (a := false) (l := bytesLe 8 s.datumWord)
      (P := fun t => (t.dat = u.alarmFires.dat ∧ t.fld F.DAT_EVENTS_ALARM 0 = u.alarmFires.fld F.DAT_EVENTS_ALARM 0 ∧ t.datumTime = u.alarmFires.datumTime) ∧
        keepsBut (stepParts ++ mbxParts) s t) hq rfl
      (by
        dsimp only
        rw [if_neg (by omega), eq, if_pos ⟨armed, by omega, late⟩]) (M := stepParts) ((hf.mono (by decide)).trans hu) (by decide)
      fun t ht => ⟨⟨ht.keeps .dat (by decide), ht.fld (by decide), ht.datumTime (by decide)⟩,
        Within.keeps (.trans (ht.mono (by decide)) (.trans (hf.mono (by decide)) (hu.mono (by decide))))⟩
    obtain ⟨hd, hfld, ht⟩ := same
    rw [fires] at hd hfld ht
    let a : State := { u with dat := { u.dat with armed := false } }
    have ha : Within (.reg .DAT_EVENTS :: eventParts) (a.event F.DAT_EVENTS_ALARM 0 0) a := State.event_within (by decide) (by decide)
    refine ⟨t, run, ?_, hfld.trans (State.fld_event (by decide) rfl (by decide)),
      ht.trans ((ha.datumTime (by decide)).trans (Eq.trans (show a.datumTime = u.datumTime from rfl) (State.datumTime_stepped dat (hu.keeps .now (by decide)) hv))), keep⟩
    rw [hd]
    exact congrArg Datum.armed (ha.keeps .dat (by decide))
  · obtain ⟨u, hu, dat, step, eq⟩ := State.setDatum_step (row := 1) big
    obtain ⟨t, run, -, same, keep⟩ := leads_respond (i := .datumSet q) (u := u) (st := Ms.success) (a := false) (l := bytesLe 8 s.datumWord)
      (P := fun t => (t.dat = u.dat ∧ t.datumTime = u.datumTime) ∧ keepsBut (stepParts ++ mbxParts) s t) hq rfl
      (by
        dsimp only
        rw [if_neg (by omega), eq, if_neg (by omega)]) hu (by decide)
      fun t ht => ⟨⟨ht.keeps .dat (by decide), ht.datumTime (by decide)⟩, Within.keeps (.trans (ht.mono (by decide)) (hu.mono (by decide)))⟩
    exact ⟨t, run, by rw [same.1, dat]; exact armed, by rw [same.1, dat]; rfl,
      same.2.trans (State.datumTime_stepped dat (hu.keeps .now (by decide)) hv), keep⟩
  · let diff : ℤ := ((le q.payload 0 8 * 32 : ℕ) : ℤ) - (s.datumCycles : ℤ)
    let u : State := { s.rebase with dat := { s.rebase.dat with slewLeft := diff, slewAcc := 0, slewing := decide (diff ≠ 0) } }
    have hu : Within [.dat] u s := .step (by decide) (.dat s.rebase _) (State.rebase_within (by decide))
    have time : u.datumTime = s.datumTime := congrArg (· / 32)
      ((State.datumCycles_now (u := u) rfl (Nat.mod_lt _ datumDen_pos) (.inr (show 0 < 1024 by decide))).trans (Nat.mod_eq_of_lt State.datumCycles_lt))
    obtain ⟨t, run, ans, same, keep⟩ := leads_respond (i := .datumSet q) (u := u) (st := Ms.success) (a := false) (l := bytesLe 8 s.datumWord)
      (P := fun t => (t.dat = u.dat ∧ t.datumTime = u.datumTime) ∧ keepsBut (.dat :: mbxParts) s t) hq rfl
      (by
        dsimp only
        rw [if_neg (by omega)]
        refine congrArg (fun u : State => u.respond q 0x0405 Ms.success false _) (if_neg ?_)
        rintro (h | h)
        · exact absurd (set.symm.trans h) (by decide)
        · exact absurd h (by show ¬32768 ≤ diff.natAbs; omega)) hu (by decide)
      fun t ht => ⟨⟨ht.keeps .dat (by decide), ht.datumTime (by decide)⟩, Within.keeps (.trans (ht.mono (by decide)) (hu.mono (by decide)))⟩
    exact ⟨t, run, by rw [same.1], by rw [same.1], same.2.trans time, by rw [same.1]; exact set, by rw [same.1]; rfl, ans, keep⟩
  · refine leads_answer hq rfl ?_
    dsimp only
    rw [if_neg (by omega)]
    by_cases hu : s.dat.unset = true
    · rw [if_pos hu]
      rfl
    · obtain ⟨hz, hlt⟩ := h.resolve_left hu
      rw [if_neg hu, if_neg hz, if_pos hlt]
      rfl
  · obtain ⟨t, run, ans, same, keep⟩ := leads_respond (i := .datumAlarm q) (u := { s with dat := { s.dat with armed := false } }) (st := Ms.success)
      (a := false) (l := []) (P := fun t => (t.dat = { s.dat with armed := false } ∧ t.datumTime = s.datumTime) ∧ keepsBut (.dat :: mbxParts) s t) hq rfl
      (by
        dsimp only
        rw [if_neg (by omega), if_neg (by simp [set]), if_pos hz]) (M := [.dat]) (.step (by decide) (.dat s _) .rfl) (by decide)
      fun t ht => ⟨⟨ht.keeps .dat (by decide), ht.datumTime (by decide)⟩, Within.keeps (.trans (ht.mono (by decide)) (.step (by decide) (.dat s _) .rfl))⟩
    exact ⟨t, run, by rw [same.1], same.2, ans, keep⟩
  · obtain ⟨t, run, ans, same, keep⟩ := leads_respond (i := .datumAlarm q)
      (u := { s with dat := { s.dat with armed := true, alarm := le q.payload 0 8 } }) (st := Ms.success) (a := false) (l := [])
      (P := fun t => (t.dat = { s.dat with armed := true, alarm := le q.payload 0 8 } ∧ t.datumTime = s.datumTime) ∧ keepsBut (.dat :: mbxParts) s t) hq rfl
      (by
        dsimp only
        rw [if_neg (by omega), if_neg (by simp [set]), if_neg hz, if_neg (by omega)]) (M := [.dat]) (.step (by decide) (.dat s _) .rfl) (by decide)
      fun t ht => ⟨⟨ht.keeps .dat (by decide), ht.datumTime (by decide)⟩, Within.keeps (.trans (ht.mono (by decide)) (.step (by decide) (.dat s _) .rfl))⟩
    exact ⟨t, run, by rw [same.1], by rw [same.1], same.2, ans, keep⟩
  · refine ⟨_, (if_pos ⟨armed, due⟩ : exec .alarmFire s = _).trans (congrArg _ (if_pos hm)), rfl, rfl, Within.keeps (.update [.dat, .pwr] (by decide) .rfl rfl)⟩
  · let a : State := { s with dat := { s.dat with armed := false } }
    have ha : Within (.reg .DAT_EVENTS :: eventParts) (a.event F.DAT_EVENTS_ALARM 0 0) a := State.event_within (by decide) (by decide)
    exact ⟨_, (if_pos ⟨armed, due⟩ : exec .alarmFire s = _).trans (congrArg _ (State.alarmFires_running hm he)), congrArg Datum.armed (ha.keeps .dat (by decide)),
      State.fld_event (by decide) rfl (by decide), Within.keeps (.trans (ha.mono (by decide)) (.step (by decide) (.dat s _) .rfl))⟩
  · exact if_pos (.inr (show s.dat.slewLeft - s.slewNow ≠ 0 by omega))
  · let a : State := { s.rebase with dat := { s.rebase.dat with slewing := false } }
    have ha : Within (.reg .DAT_EVENTS :: eventParts) (a.event F.DAT_EVENTS_SLEW_DONE 0 0) a := State.event_within (by decide) (by decide)
    have dat : (a.event F.DAT_EVENTS_SLEW_DONE 0 0).dat = a.dat := ha.keeps .dat (by decide)
    have left : s.rebase.dat.slewLeft = 0 := show s.dat.slewLeft - s.slewNow = 0 by omega
    have time : a.datumTime = s.datumTime := congrArg (· / 32)
      ((State.datumCycles_now (u := a) rfl (Nat.mod_lt _ datumDen_pos) (.inl rfl)).trans (Nat.mod_eq_of_lt State.datumCycles_lt))
    refine ⟨a.event F.DAT_EVENTS_SLEW_DONE 0 0, if_neg (by simp [on, left]), congrArg Datum.slewing dat, (congrArg Datum.slewLeft dat).trans left,
      congrArg Datum.count dat, (ha.datumTime (by decide)).trans time, State.fld_event (by decide) rfl (by decide),
      Within.keeps (.trans (ha.mono (by decide)) (.step (by decide) (.dat s.rebase _) (State.rebase_within (by decide))))⟩
  · let a : State := { s with dat := { Datum.reset with since := s.now, hiLatch := s.dat.hiLatch, compT := s.dat.compT },
                              cip := { s.cip with lockAgain := s.cip.lockFrom.isSome } }
    have ha : Within (.reg .DAT_EVENTS :: eventParts) (a.event F.DAT_EVENTS_VBAT_LOST 0 0) a := State.event_within (by decide) (by decide)
    have dat : (a.event F.DAT_EVENTS_VBAT_LOST 0 0).dat = a.dat := ha.keeps .dat (by decide)
    have cip : (a.event F.DAT_EVENTS_VBAT_LOST 0 0).cip = a.cip := ha.keeps .cip (by decide)
    have time : a.datumTime = 0 := congrArg (· / 32) ((State.datumCycles_now (u := a) rfl datumDen_pos (.inl rfl)).trans (rfl : 0 % 2 ^ 47 = 0))
    exact ⟨a.event F.DAT_EVENTS_VBAT_LOST 0 0, rfl, congrArg Datum.unset dat, congrArg Datum.armed dat, (ha.datumTime (by decide)).trans time,
      State.fld_event (by decide) rfl (by decide), (congrArg Cip.lockFrom cip : _ = a.cip.lockFrom), congrArg Cip.lockAgain cip,
      Within.keeps (.trans (ha.mono (by decide)) (.update [.dat, .cip] (by decide) .rfl rfl))⟩

end Sys2Proof.Machine
end

section
/-! The bytes of the Portolan store. -/

namespace Sys2Proof.Machine

section
variable {α : Type} [DecidableEq α] {d : ℕ → α} {m : Tab α} {a n x : ℕ} {f : ℕ → α → α}

/-- A run of entries written one after the other, each from what it read. -/
theorem tabGet_foldl_range : tabGet d ((List.range n).foldl (fun t k => tabSet d t (a + k) (f k (tabGet d t (a + k)))) m) x =
    if a ≤ x ∧ x < a + n then f (x - a) (tabGet d m x) else tabGet d m x := by
  induction n with
  | zero => rw [if_neg (by omega)]; rfl
  | succ n ih =>
    rw [List.range_succ, List.foldl_append, List.foldl_cons, List.foldl_nil]
    by_cases h : x = a + n
    · subst h
      rw [tabGet_set_self, if_pos ⟨by omega, by omega⟩, Nat.add_sub_cancel_left]
      congr 1
      have outside : ∀ j ≤ n, tabGet d ((List.range j).foldl (fun t k => tabSet d t (a + k) (f k (tabGet d t (a + k)))) m) (a + n) = tabGet d m (a + n) := by
        intro j hj
        induction j with
        | zero => rfl
        | succ j jh => rw [List.range_succ, List.foldl_append, List.foldl_cons, List.foldl_nil, tabGet_set_ne _ _ _ (by omega), jh (by omega)]
      exact outside n le_rfl
    · rw [tabGet_set_ne _ _ _ h, ih]
      by_cases k : a ≤ x ∧ x < a + n
      · rw [if_pos k, if_pos ⟨k.1, by omega⟩]
      · rw [if_neg k, if_neg (by omega)]

end

section
variable {s t : State} {a n x sec : ℕ} {l : List ℕ} {full : Bool}

/-! ### The bytes of the store (R578 to R581) -/

theorem State.storeByte_congr (hc : tabGet (fun _ => 0) t.por.cut (x / 4096) = tabGet (fun _ => 0) s.por.cut (x / 4096))
    (hs : tabGet (fun _ => 0xFF#8) t.por.store x = tabGet (fun _ => 0xFF#8) s.por.store x) : t.storeByte x = s.storeByte x := by
  rw [State.storeByte, State.storeByte, hc, hs]

theorem State.storeByte_uncut (h : tabGet (fun _ => 0) s.por.cut (x / 4096) = 0) :
    s.storeByte x = (tabGet (fun _ => 0xFF#8) s.por.store x).toNat := by
  rw [State.storeByte, h]

theorem State.storeByte_cut (h : tabGet (fun _ => 0) s.por.cut (x / 4096) = n + 1) : s.storeByte x = (Config.cutByte x n).toNat := by
  rw [State.storeByte, h]

theorem State.storeByte_lt : s.storeByte x < 256 := by
  unfold State.storeByte
  split <;> exact BitVec.isLt _

theorem State.storePut_store : tabGet (fun _ => 0xFF#8) (s.storePut a l).por.store x =
    if a ≤ x ∧ x < a + l.length then BitVec.ofNat 8 (l.getD (x - a) 0) else tabGet (fun _ => 0xFF#8) s.por.store x :=
  tabGet_foldl_range (d := fun _ => 0xFF#8) (f := fun k _ => BitVec.ofNat 8 (l.getD k 0))

/-- Bytes put where no operation of their sector was cut short read as they were put. -/
theorem State.storeByte_storePut (h : a ≤ x ∧ x < a + l.length) (hc : tabGet (fun _ => 0) s.por.cut (x / 4096) = 0) :
    (s.storePut a l).storeByte x = l.getD (x - a) 0 % 256 := by
  rw [State.storeByte_uncut (s := s.storePut a l) hc, State.storePut_store, if_pos h, BitVec.toNat_ofNat]

theorem State.storeByte_storePut_ne (h : x < a ∨ a + l.length ≤ x) : (s.storePut a l).storeByte x = s.storeByte x :=
  State.storeByte_congr rfl (State.storePut_store.trans (if_neg (by omega)))

/-- What wear leaves of the store's part: its spares, its counts and the sectors remapped (R585). -/
theorem State.wearOut_por : ∃ p e r, (s.wearOut sec full).por = { s.por with spares := p, erases := e, remap := r } := by
  have kept : ∀ u : State, ∀ f i, f.reg = .POR_EVENTS → (u.event f 0 i).por = u.por := fun u f i hf =>
    (State.event_within (L := .reg .POR_EVENTS :: eventParts) (by rw [hf]; decide) (by decide)).keeps .por (by decide)
  unfold State.wearOut
  extract_lets p
  split
  · split
    · exact ⟨_, _, _, kept _ _ _ rfl⟩
    · exact ⟨_, _, _, rfl⟩
  · exact ⟨_, _, _, kept _ _ _ rfl⟩

theorem State.wear_por : ∃ p e r, (s.wear sec).por = { s.por with spares := p, erases := e, remap := r } := by
  unfold State.wear
  extract_lets n u
  split
  · obtain ⟨p, e, r, h⟩ := State.wearOut_por (s := { s with por := { s.por with erases := tabSet (fun _ => 0) s.por.erases sec n } }) (sec := sec)
      (full := decide (endurance sec ≤ n))
    exact ⟨p, e, r, h⟩
  · exact ⟨_, _, _, rfl⟩

/-- The sector as it stands erased, before its wear is counted. -/
def State.erased (s : State) (a : ℕ) : State :=
  { s.storeErase (a / 4096 * 4096) 4096 with por := { s.por with
      store := (s.storeErase (a / 4096 * 4096) 4096).por.store, cut := tabSet (fun _ => 0) s.por.cut (a / 4096) 0 } }

theorem State.eraseDone_eq : s.eraseDone a = (s.erased a).wear (a / 4096) := rfl

/-- An erased sector reads 0xFF, and no byte of another sector changes (R581). -/
theorem State.storeByte_erased : (s.erased a).storeByte x = if x / 4096 = a / 4096 then 0xFF else s.storeByte x := by
  have store : tabGet (fun _ => 0xFF#8) (s.erased a).por.store x =
      if x < a / 4096 * 4096 ∨ a / 4096 * 4096 + 4096 ≤ x then tabGet (fun _ => 0xFF#8) s.por.store x else 0xFF#8 :=
    (tabGet_filterKey (d := fun _ => 0xFF#8) (p := fun k => decide (k < a / 4096 * 4096 ∨ a / 4096 * 4096 + 4096 ≤ k)) (m := s.por.store)).trans (by
      simp only [decide_eq_true_eq])
  have cut : (s.erased a).por.cut = tabSet (fun _ => 0) s.por.cut (a / 4096) 0 := rfl
  by_cases h : x / 4096 = a / 4096
  · rw [if_pos h, State.storeByte_uncut (by rw [cut, h, tabGet_set_self]), store, if_neg (by omega)]
    rfl
  · rw [if_neg h, State.storeByte_congr (s := s) (by rw [cut, tabGet_set_ne _ _ _ h]) (store.trans (if_pos (by omega)))]

theorem State.storeByte_wear : (s.wear sec).storeByte x = s.storeByte x := by
  obtain ⟨p, e, r, h⟩ := State.wear_por (s := s) (sec := sec)
  exact State.storeByte_congr (by rw [h]) (by rw [h])

theorem State.storeByte_eraseDone : (s.eraseDone a).storeByte x = if x / 4096 = a / 4096 then 0xFF else s.storeByte x := by
  rw [State.eraseDone_eq, State.storeByte_wear, State.storeByte_erased]

theorem State.storeByte_wearOut : (s.wearOut sec full).storeByte x = s.storeByte x := by
  obtain ⟨p, e, r, h⟩ := State.wearOut_por (s := s) (sec := sec) (full := full)
  exact State.storeByte_congr (by rw [h]) (by rw [h])

/-! ### Reads of the store (R582) -/

theorem State.serveReads_none (h : s.por.reads = []) : s.serveReads = s := by
  unfold State.serveReads
  rw [h]
  show ({ s with por := { s.por with reads := [] } } : State) = s
  rw [← h]

theorem Within.storeByte {L : List Part} (h : Within L t s) (hp : Part.por ∉ L) : t.storeByte x = s.storeByte x :=
  State.storeByte_congr (by rw [show t.por = s.por from h.keeps .por hp]) (by rw [show t.por = s.por from h.keeps .por hp])

/-- The reads that waited are answered, in their order, with the bytes that stand. -/
theorem State.serveReads_spec : Within [.out, .por] s.serveReads s ∧ s.serveReads.por = { s.por with reads := [] } ∧
    ∀ x ∈ s.por.reads, sent s s.serveReads (.answer 0x0E5 [x, s.storeByte x]) := by
  let u : State := { s with por := { s.por with reads := [] } }
  have hw : ∀ l : List ℕ, ∀ v, Within [.out] (l.foldl (fun (s : State) a => s.readStore a) v) v := fun l v =>
    Within.foldl fun w x => State.emit_within (by decide)
  have served : ∀ l : List ℕ, ∀ v, ∀ x ∈ l, sent v (l.foldl (fun (s : State) a => s.readStore a) v) (.answer 0x0E5 [x, v.storeByte x]) := by
    intro l
    induction l with
    | nil => exact fun v x h => nomatch h
    | cons y l ih =>
      intro v x hx
      rcases List.mem_cons.1 hx with rfl | h
      · exact sent_of_suffix (List.suffix_refl _) (hw l (v.readStore x)).out_suffix
      · have same : (v.readStore y).storeByte x = v.storeByte x := rfl
        exact same ▸ (ih (v.readStore y) x h).mono (List.suffix_cons _ _) (List.suffix_refl _)
  exact ⟨((hw _ u).mono (by decide)).trans (.step (by decide) (.por s _) .rfl), (hw _ u).keeps .por (by decide), fun x hx => served _ u x hx⟩

end

end Sys2Proof.Machine
end

section
/-! The service routine of the store (O45). -/

namespace Sys2Proof.Machine

section
variable {s u : State} {sec a : ℕ} {o : StoreOp} {caller : ℕ} {data : List ℕ}

/-- Erases of a sector, one more counted (R585). -/
def State.eraseCount (s : State) (sec : ℕ) : ℕ := tabGet (fun _ => 0) s.por.erases sec + 1

theorem State.wear_fresh (h : s.eraseCount sec * 10 < endurance sec * 9) :
    s.wear sec = { s with por := { s.por with erases := tabSet (fun _ => 0) s.por.erases sec (s.eraseCount sec) } } :=
  if_neg (Nat.not_le.2 h)

/-- A sector at 90% of its endurance takes a spare. -/
theorem State.wear_spare (h : endurance sec * 9 ≤ s.eraseCount sec * 10) (hs : s.por.spares ≠ 0) :
    (s.wear sec).fld F.POR_EVENTS_REMAPPED 0 = 1 ∧ (s.wear sec).por.spares = s.por.spares - 1 ∧ tabGet (fun _ => 0) (s.wear sec).por.erases sec = 0 := by
  unfold State.wear
  extract_lets n _ u
  rw [if_pos (show endurance sec * 9 ≤ n * 10 from h), State.wearOut, if_neg hs]
  extract_lets p
  have kept : ∀ v : State, (v.event F.POR_EVENTS_REMAPPED 0 sec).por = v.por := fun v =>
    (State.event_within (L := .reg .POR_EVENTS :: eventParts) (by decide) (by decide)).keeps .por (by decide)
  rw [kept]
  exact ⟨State.fld_event (by decide) rfl (by decide), rfl, tabGet_set_self (fun _ => 0) p.erases sec 0⟩

/-- A sector worn out with no spare left is reported. -/
theorem State.wear_worn (h : endurance sec ≤ s.eraseCount sec) (hs : s.por.spares = 0) : (s.wear sec).fld F.POR_EVENTS_WORN 0 = 1 := by
  unfold State.wear
  extract_lets n _ u
  have full : endurance sec ≤ n := h
  rw [if_pos (by omega), State.wearOut, if_pos hs, if_pos (decide_eq_true full)]
  exact State.fld_event (by decide) rfl (by decide)

theorem State.storeRefuse_spec : s.storeRefuse.fld F.POR_EVENTS_REFUSED 0 = 1 ∧ keepsBut (.reg .POR_EVENTS :: eventParts) s s.storeRefuse :=
  ⟨State.fld_event (by decide) rfl (by decide), (State.event_within (by decide) (by decide)).keeps⟩

theorem State.storeCall_refused {kind : ℕ} : s.storeCall false kind a data = s.storeRefuse := rfl

theorem State.storeCall_starts {kind : ℕ} (h : s.por.op = none) : s.storeCall true kind a data = s.startStore kind a data := by
  simp [State.storeCall, h]

theorem State.storeCall_busy {kind : ℕ} (h : s.por.op = some o) : s.storeCall true kind a data = s := by
  simp [State.storeCall, h]

theorem eraseSector_refused (h : s.storeAllowed caller a = false) : exec (.eraseSector caller a) s = .next s.storeRefuse :=
  congrArg Host.Outcome.next (by rw [h, State.storeCall_refused])

theorem programRow_refused (h : s.storeAllowed caller a = false) : exec (.programRow caller a data) s = .next s.storeRefuse :=
  congrArg Host.Outcome.next (by rw [h, Bool.false_and, State.storeCall_refused])

/-- An operation that starts. -/
theorem State.startStore_spec {kind : ℕ} : keepsBut [.por] s (s.startStore kind a data) := Within.keeps (.step (by decide) (.por s _) .rfl)

/-- Cartouche bytes programmed (R580). -/
theorem State.otpByte_otpDone {x : ℕ} : (s.otpDone a data).otpByte x =
    if a ≤ x ∧ x < a + data.length then Nat.lor (s.otpByte x) (data.getD (x - a) 0 % 256) else s.otpByte x := by
  have put := tabGet_foldl_range (d := otpBlank) (m := s.por.otp) (a := a) (n := data.length) (x := x) (f := fun k b => b ||| BitVec.ofNat 8 (data.getD k 0))
  rw [State.otpByte, show (s.otpDone a data).por.otp = _ from rfl]
  refine (congrArg BitVec.toNat put).trans ?_
  split
  · rw [BitVec.toNat_or, BitVec.toNat_ofNat]
    rfl
  · rfl

/-- The store's part with its operation ended. -/
def State.storeIdle (s : State) : State := { s with por := { s.por with op := none } }

theorem State.storeIdle_within : Within [.por] s.storeIdle s := .step (by decide) (.por s _) .rfl

theorem State.erased_within : Within [.por] (s.erased a) s := by
  unfold State.erased
  exact .step (by decide) (.por (s.storeErase _ _) _) (State.storeErase_within (by decide))

/-- An operation that runs unsuspended ends, with no read waiting, unless its first mismatch is retried (R581). -/
theorem storeOperationEnd_eq {b : Bool} (ho : s.por.op = some o) (hs : o.suspended = false) (h : ¬(o.kind ≠ 1 ∧ b = false ∧ o.retried = false))
    (hu : u = match o.kind with
        | 1 => s.storeIdle.eraseDone o.addr
        | 2 =>
          if b then s.storeIdle.storeRowDone o.addr o.data
          else
            let s := ({ s.storeIdle with por := { s.storeIdle.por with cut := tabSet (fun _ => 0) s.por.cut (o.addr / 4096) (s.fresh + 1) }, fresh := s.fresh + 1 } : State)
            (s.event F.POR_EVENTS_VERIFY_FAIL 0 0).wearOut (o.addr / 4096) true
        | _ => if b then s.storeIdle.otpDone o.addr o.data else s.storeIdle.event F.POR_EVENTS_VERIFY_FAIL 0 0) (hr : u.por.reads = []) :
    exec (.storeOperationEnd b) s = .next u := by
  show execStoreOperationEnd b s = _
  unfold execStoreOperationEnd
  rw [ho]
  dsimp only
  rw [if_neg (by simp [hs]), if_neg h]
  refine congrArg _ (Eq.trans ?_ (State.serveReads_none hr))
  rw [hu]
  rfl

end

/-- Settles O45: each operation of the store by its kind, each read by the operation it finds. -/
theorem theStoreRoutineErasesProgramsAndReads : Obligations.TheStoreRoutineErasesProgramsAndReads := by
  unfold Obligations.TheStoreRoutineErasesProgramsAndReads
  dsimp only
  refine fun s caller a data => ⟨fun ok idle => ?_, fun ok len idle => ?_, fun ok idle => ?_, fun slot none => ?_, fun hlo hhi owner => ?_, fun bad => ?_,
    fun o ho ok => ?_, fun o ho run noReads => ⟨fun erase b => ?_, fun prog al len cut => ?_, fun kind first => ?_, fun prog again => ?_, fun otp => ?_⟩,
    fun idle => ?_, fun o ho run => ⟨fun erase late => ?_, fun h => ?_, fun early => ?_, fun erase waits late => ?_⟩,
    fun o ho susp => ⟨fun early => ?_, ?_, fun noReads late => ?_⟩⟩
  · exact ⟨s.startStore 1 (a / 4096 * 4096) [], congrArg Host.Outcome.next (by rw [ok, State.storeCall_starts idle]), rfl, rfl, rfl, rfl, rfl, State.startStore_spec⟩
  · exact ⟨s.startStore 2 (a / 256 * 256) data, congrArg Host.Outcome.next (by rw [ok, decide_eq_true len, Bool.and_self, State.storeCall_starts idle]), rfl, rfl, rfl, rfl, rfl,
      State.startStore_spec⟩
  · exact ⟨s.startStore 3 a data, congrArg Host.Outcome.next (by rw [ok, State.storeCall_starts idle]), rfl, rfl, rfl, rfl, rfl, State.startStore_spec⟩
  · have no : s.storeAllowed caller a = false := by simp [State.storeAllowed, slot, State.slotWritable, none]
    exact ⟨⟨_, eraseSector_refused no, State.storeRefuse_spec⟩, ⟨_, programRow_refused no, State.storeRefuse_spec⟩⟩
  · have no : s.storeAllowed caller a = false := by simp [State.storeAllowed, Nat.not_lt.2 hlo, hhi, owner]
    exact ⟨⟨_, eraseSector_refused no, State.storeRefuse_spec⟩, ⟨_, programRow_refused no, State.storeRefuse_spec⟩⟩
  · obtain ⟨k, hk, no⟩ := bad
    have refused : s.otpAllowed a data = false := by
      unfold State.otpAllowed
      rw [Bool.and_eq_false_iff]
      refine .inr (List.all_eq_false.2 ⟨k, List.mem_range.2 hk, by simp [no]⟩)
    exact ⟨_, congrArg Host.Outcome.next (by rw [refused, State.storeCall_refused]), State.storeRefuse_spec⟩
  · exact congrArg Host.Outcome.next (by rw [ok, State.storeCall_busy ho])
  · obtain ⟨p, e, r, por⟩ := State.wear_por (s := s.storeIdle.erased o.addr) (sec := o.addr / 4096)
    have hw : Within (([.por, .reg .POR_EVENTS] : List Part) ++ eventParts) (s.storeIdle.eraseDone o.addr) s :=
      (State.eraseDone_within (by decide)).trans (State.storeIdle_within.mono (by decide))
    have eq := storeOperationEnd_eq (u := s.storeIdle.eraseDone o.addr) (b := b) ho run (fun h => h.1 erase) (by rw [erase]; rfl)
      (by rw [State.eraseDone_eq, por]; exact noReads)
    refine ⟨_, eq, ?_, fun x hx => State.storeByte_eraseDone.trans (if_pos hx), fun x hx => State.storeByte_eraseDone.trans (if_neg hx), ?_, ?_, ?_, ?_⟩
    · rw [State.eraseDone_eq, por]
      rfl
    · rw [State.eraseDone_eq, por]
      rfl
    · intro h
      rw [State.eraseDone_eq, State.wear_fresh (s := s.storeIdle.erased o.addr) h]
      exact ⟨tabGet_set_self (fun _ => 0) s.por.erases (o.addr / 4096) (s.eraseCount (o.addr / 4096)), rfl, Within.keeps (.step (by decide) (.por (s.storeIdle.erased o.addr) _)
        (State.erased_within.trans State.storeIdle_within))⟩
    · intro h hs
      obtain ⟨bit, sp, er⟩ := State.wear_spare (s := s.storeIdle.erased o.addr) (sec := o.addr / 4096) h hs
      exact ⟨bit, sp, er, hw.keeps⟩
    · intro h hs
      exact ⟨State.wear_worn (s := s.storeIdle.erased o.addr) (sec := o.addr / 4096) h hs, hw.keeps⟩
  · refine ⟨s.storeIdle.storeRowDone o.addr o.data, storeOperationEnd_eq ho run (fun h => nomatch h.2.1) (by rw [prog]; rfl) noReads, rfl, fun k hk => ?_,
      fun x hx => State.storeByte_storePut_ne (by simpa using hx), Within.keeps (.trans (State.storePut_within (by decide)) State.storeIdle_within)⟩
    have cut' : tabGet (fun _ => 0) s.storeIdle.por.cut ((o.addr + k) / 4096) = 0 := by
      rw [show (o.addr + k) / 4096 = o.addr / 4096 by omega]
      exact cut
    refine (State.storeByte_storePut ⟨by omega, by simp [hk]⟩ cut').trans ?_
    rw [Nat.add_sub_cancel_left, List.getD_eq_getElem _ _ (by simpa using hk), List.getElem_map, List.getElem_range]
    exact Nat.mod_eq_of_lt (lt_of_le_of_lt Nat.and_le_left State.storeByte_lt)
  · exact ⟨{ s with por := { s.por with op := some { o with retried := true } } }, by
      show execStoreOperationEnd false s = _
      unfold execStoreOperationEnd
      rw [ho]
      dsimp only
      rw [if_neg (by simp [run]), if_pos ⟨kind, rfl, first⟩], rfl, rfl, rfl, rfl, rfl, Within.keeps (.step (by decide) (.por s _) .rfl)⟩
  · let c : State := { s.storeIdle with por := { s.storeIdle.por with cut := tabSet (fun _ => 0) s.storeIdle.por.cut (o.addr / 4096) (s.fresh + 1) },
                                        fresh := s.fresh + 1 }
    let e := c.event F.POR_EVENTS_VERIFY_FAIL 0 0
    have hc : Within [.por, .fresh] c s := .trans (t := s.storeIdle) (.update [.por, .fresh] (by decide) .rfl rfl) (State.storeIdle_within.mono (by decide))
    have he : Within (.reg .POR_EVENTS :: eventParts) e c := State.event_within (by decide) (by decide)
    have hw : Within ((.por :: .reg .POR_EVENTS :: eventParts) : List Part) (e.wearOut (o.addr / 4096) true) e := State.wearOut_within (by decide)
    obtain ⟨p, er, r, por⟩ := State.wearOut_por (s := e) (sec := o.addr / 4096) (full := true)
    have epor : e.por = c.por := he.keeps .por (by decide)
    have cut : e.por.cut = tabSet (fun _ => 0) s.por.cut (o.addr / 4096) (s.fresh + 1) := by rw [epor]; rfl
    have bit : e.fld F.POR_EVENTS_VERIFY_FAIL 0 = 1 := State.fld_event (by decide) rfl (by decide)
    refine ⟨e.wearOut (o.addr / 4096) true, storeOperationEnd_eq ho run (fun h => by simp [again] at h) (by rw [prog]; rfl) (by rw [por, epor]; exact noReads),
      by rw [por, epor]; rfl, ?_, fun x hx => ?_, fun x hx => ?_, ?_, ?_⟩
    · unfold State.wearOut
      split
      · exact (State.fld_event_ne (by decide) (by decide)).trans bit
      · exact (State.fld_event_ne (by decide) (by decide)).trans bit
    · rw [State.storeByte_wearOut, State.storeByte_cut (by rw [cut, hx, tabGet_set_self])]
    · rw [State.storeByte_wearOut]
      exact State.storeByte_congr (by rw [cut, tabGet_set_ne _ _ _ hx]) (by rw [epor]; rfl)
    · exact (hw.keeps .fresh (by decide)).trans (he.keeps .fresh (by decide))
    · exact Within.keeps (.trans (hw.mono (by decide)) (.trans (he.mono (by decide)) (hc.mono (by decide))))
  · refine ⟨s.storeIdle.otpDone o.addr o.data, storeOperationEnd_eq ho run (fun h => nomatch h.2.1) (by rw [otp]; rfl) noReads, rfl, fun k hk => ?_,
      fun x hx => State.otpByte_otpDone.trans (if_neg (by omega)), rfl, Within.keeps (.trans (.step (by decide) (.por s.storeIdle _) .rfl) State.storeIdle_within)⟩
    refine (State.otpByte_otpDone.trans (if_pos ⟨by omega, by omega⟩)).trans ?_
    rw [Nat.add_sub_cancel_left]
    rfl
  · refine ⟨s.readStore a, ?_, rfl, (State.emit_within (by decide)).keeps⟩
    show execStoreRead a s = _
    rw [execStoreRead, idle]
  · refine ⟨({ s with por := { s.por with op := some { o with suspended := true, minEnd := s.now + 10 * usTicks } } } : State).readStore a, ?_, rfl, rfl, rfl,
      Within.keeps (.trans (State.emit_within (by decide)) (.step (by decide) (.por s _) .rfl))⟩
    show execStoreRead a s = _
    rw [execStoreRead, ho]
    exact if_pos (.inr ⟨erase, late⟩)
  · refine ⟨{ s with por := { s.por with reads := s.por.reads ++ [a] } }, ?_, ho, rfl, Within.keeps (.step (by decide) (.por s _) .rfl)⟩
    show execStoreRead a s = _
    rw [execStoreRead, ho]
    refine if_neg ?_
    rintro (k | k)
    · exact absurd (k.symm.trans run) (by decide)
    · rcases h with h | h
      · exact h k.1
      · omega
  · show execEraseMinRunExpiry s = _
    rw [execEraseMinRunExpiry, ho]
    exact if_neg fun k => by omega
  · let c : State := { s with por := { s.por with op := some { o with suspended := true, minEnd := s.now + 10 * usTicks } } }
    obtain ⟨hw, por, served⟩ := State.serveReads_spec (s := c)
    refine ⟨c.serveReads, ?_, by rw [por], by rw [por], served, Within.keeps (.trans hw (.step (by decide) (.por s _) .rfl))⟩
    show execEraseMinRunExpiry s = _
    rw [execEraseMinRunExpiry, ho]
    exact if_pos ⟨erase, run, by simpa using waits, late⟩
  · show execEraseResume s = _
    rw [execEraseResume, ho]
    exact if_neg fun k => by omega
  · refine ⟨({ s with por := { s.por with op := some { o with suspended := true, minEnd := s.now + 10 * usTicks } } } : State).readStore a, ?_, ?_, rfl, rfl,
      Within.keeps (.trans (State.emit_within (by decide)) (.step (by decide) (.por s _) .rfl))⟩
    · show execStoreRead a s = _
      rw [execStoreRead, ho]
      exact if_pos (.inl susp)
    · show some _ = some _
      rw [← susp]
  · refine ⟨{ s with por := { s.por with op := some { o with suspended := false, minEnd := s.now + 2 * msTicks } } }, ?_, rfl, noReads,
      Within.keeps (.step (by decide) (.por s _) .rfl)⟩
    show execEraseResume s = _
    rw [execEraseResume, ho]
    exact if_pos ⟨susp, by simp [noReads], late⟩

end Sys2Proof.Machine
end

section
/-! Samples, rounds and trips (O49). -/

namespace Sys2Proof.Machine

section
variable {s t u : State} {i r k b c d : ℕ} {v : ℤ}

/-! ### A DEVICE-class fault -/

/-- A report of a DEVICE-class cause by a unit that stands neither isolated nor fenced. -/
theorem State.raiseAt_device (hi : i < unitCount b) (iso : (s.unit b i).isolated = false) (fen : s.fenced b i = false) (hc : faultClass b c = .device) :
    s.raiseAt b i c d = s.deviceFault ⟨b, i, c, d, false, none⟩ := by
  unfold State.raiseAt State.raise
  dsimp only [Option.filter_none]
  rw [hc, if_neg (by omega), if_neg (by simp [iso]), if_neg (by simp [show (s.unit b i).fenced = false from fen])]

theorem State.toMode_cause {m : Mode} : (s.toMode m).pwr.cause = s.pwr.cause := by
  unfold State.toMode
  split
  · rfl
  · extract_lets src t
    show _ = t.pwr.cause
    refine congrArg Power.cause (Within.keeps (L := .reg .PWR_EVENTS :: eventParts) (t := t) ?_ .pwr (by decide))
    exact .ite (State.record_within (by decide)) (State.event_within (by decide) (by decide))

theorem State.enterHoldup_cause (h : s.hubOn = true) : (s.enterHoldup c).pwr.cause = c := by
  unfold State.enterHoldup
  rw [if_neg (by simp [h])]
  extract_lets paths s1 s2 s3 src src1 src2 src3 src4 src5 src6 s4 going off src7 s5 s6
  have h6 : Within (.bays :: .fch :: .reg .SHB_IND :: recordParts) s6 s4 := .trans (t := s5) (Within.foldl fun _ _ => State.moveBay_within (by decide)) (.step (by decide) (.fch s4 _) .rfl)
  rw [State.toMode_cause, show s6.pwr = s4.pwr from h6.keeps .pwr (by decide)]

/-- What a DEVICE-class fault of a unit leaves while the hub runs (R494, R534). -/
theorem State.raiseAt_device_spec (hub : s.hubOn = true) (hi : i < unitCount b) (iso : (s.unit b i).isolated = false) (fen : s.fenced b i = false)
    (hc : faultClass b c = .device) : (s.raiseAt b i c d).pwr.mode = .holdup ∧ (s.raiseAt b i c d).pwr.cause = 3 ∧
    ((s.raiseAt b i c d).unit b i).lastCause = c ∧ Within faultParts (s.raiseAt b i c d) s := by
  refine ⟨?_, ?_, ?_, State.raiseAt_within fun _ h => h⟩
  · rw [State.raiseAt_device hi iso fen hc]
    exact State.deviceFault_mode hub
  · rw [State.raiseAt_device hi iso fen hc]
    obtain ⟨u, eq, hu⟩ := State.deviceFault_eq (s := s) (r := ⟨b, i, c, d, false, none⟩)
    rw [eq]
    exact State.enterHoldup_cause ((State.hubOn_of_pwr (hu.keeps .pwr (by decide))).trans hub)
  · rw [State.raiseAt_device hi iso fen hc]
    unfold State.deviceFault State.deviceReaction
    extract_lets u0 s1 s2 s3
    have h2 : Within (.out :: recordParts) s2 s1 :=
      (State.emit_within (by decide)).trans ((State.emit_within (by decide)).trans (State.record_within (by decide)))
    have h3 : Within (.ctls :: recordParts) s3 s1 := .trans (t := s2) (.step (by decide) (.ctls s2 _) .rfl) (h2.mono (by decide))
    have h4 : Within (.ctls :: .pin :: .reg .FLT_PIN_CTL :: recordParts) (s3.pulse.alert 3) s1 :=
      (State.alert_within (by decide) (by decide) (by decide)).trans ((State.pulse_within (by decide)).trans (h3.mono (by decide)))
    rw [(State.enterHoldup_within (L := enterHoldupParts) fun _ h => h).unit (by decide), h4.unit (by decide)]
    exact congrArg FltUnit.lastCause State.unit_setUnit

/-! ### Samples (R512 to R518) -/

/-- The models of a list of regions move together by one difference. -/
def State.shiftRegions (s : State) (d : ℤ) (l : List ℕ) : State :=
  l.foldl (fun s k => s.setRegion k { s.regionOf k with model := (s.regionOf k).model + d, hist := (s.regionOf k).hist.map (fun h => h + d) }) s

theorem State.shiftRegions_model {d : ℤ} {l : List ℕ} (nd : l.Nodup) :
    ((s.shiftRegions d l).regionOf r).model = if r ∈ l then (s.regionOf r).model + d else (s.regionOf r).model := by
  induction l generalizing s with
  | nil => rfl
  | cons k l ih =>
    obtain ⟨hk, nd⟩ := List.nodup_cons.1 nd
    refine (ih (s := s.setRegion k _) nd).trans ?_
    by_cases h : r = k
    · subst h
      rw [State.regionOf_setRegion, if_neg hk, if_pos List.mem_cons_self]
    · rw [State.regionOf_setRegion_ne h]
      simp [h]

theorem State.shiftRegions_ctr {d : ℤ} {l : List ℕ} : ∃ x, (s.shiftRegions d l).ctr = { s.ctr with region := x } := by
  induction l generalizing s with
  | nil => exact ⟨_, rfl⟩
  | cons k l ih =>
    obtain ⟨x, h⟩ := ih (s := s.setRegion k { s.regionOf k with model := (s.regionOf k).model + d, hist := (s.regionOf k).hist.map (fun h => h + d) })
    exact ⟨x, h⟩

theorem State.shiftRegions_within {d : ℤ} {l : List ℕ} : Within [.ctr] (s.shiftRegions d l) s := Within.foldl fun _ _ => State.setRegion_within (by decide)

/-- An anchor moves its region to the reading, and says when it was further off than its bound allows (R513, R514). -/
theorem State.anchor_spec (hr : r < 137) : ((s.anchor r v).regionOf r).model = v ∧ ((s.anchor r v).regionOf r).anchored = true ∧
    ((s.anchor r v).regionOf r).ageAt = s.now ∧ (s.anchor r v).ctr.tSink = s.ctr.tSink + (v - (s.regionOf r).model) ∧
    (2 * s.bound r < (v - (s.regionOf r).model).natAbs →
      (s.anchor r v).fld F.CTR_EVENTS_ANCHOR_MISS 0 = 1 ∧ (s.anchor r v).ctr.misses = s.ctr.misses + 1) := by
  unfold State.anchor
  extract_lets x d a s1 ns _ s2 s3 _
  have h1 : ∃ m, s1.ctr = { s.ctr with misses := m } ∧ (2 * s.bound r < d.natAbs → s1.fld F.CTR_EVENTS_ANCHOR_MISS 0 = 1 ∧ m = s.ctr.misses + 1) := by
    by_cases far : 2 * s.bound r < d.natAbs
    · have e : s1 = State.event { s with ctr := { s.ctr with misses := s.ctr.misses + 1 } } F.CTR_EVENTS_ANCHOR_MISS 0 r := if_pos far
      rw [e]
      exact ⟨s.ctr.misses + 1, (State.event_within (L := .reg .CTR_EVENTS :: eventParts) (by decide) (by decide)).keeps .ctr (by decide),
        fun _ => ⟨State.fld_event (by decide) rfl (by decide), rfl⟩⟩
    · have e : s1 = s := if_neg far
      rw [e]
      exact ⟨s.ctr.misses, rfl, fun k => absurd k far⟩
  have now1 : s1.now = s.now := by
    unfold s1
    split
    · exact (State.event_within (L := .reg .CTR_EVENTS :: eventParts) (by decide) (by decide)).keeps .now (by decide)
    · rfl
  obtain ⟨m, ctr1, miss⟩ := h1
  obtain ⟨y, ctr3⟩ : ∃ y, s3.ctr = { s2.ctr with region := y } := State.shiftRegions_ctr
  have w3 : Within [.ctr] s3 s2 := State.shiftRegions_within
  have model : (s3.regionOf r).model = v := by
    have mem : r ∈ (List.range 137).filter fun k => decide (regionNodes k = ns) := by simp [hr, ns]
    have same : s2.regionOf r = s.regionOf r := by
      show tabGet (fun _ => Region.reset) s1.ctr.region r = _
      rw [ctr1]
      rfl
    refine (State.shiftRegions_model (s := s2) (d := d) (List.Nodup.filter _ List.nodup_range)).trans ?_
    rw [if_pos mem, same]
    show (s.regionOf r).model + (v - (s.regionOf r).model) = v
    omega
  have now3 : s3.now = s.now := (w3.keeps .now (by decide)).trans now1
  rw [State.regionOf_setRegion]
  refine ⟨model, rfl, now3, ?_, fun far => ⟨?_, ?_⟩⟩
  · show s3.ctr.tSink = _
    rw [ctr3]
    show s1.ctr.tSink + d = _
    rw [ctr1]
  · rw [(State.setRegion_within (L := [.ctr]) (by decide)).fld (by decide), w3.fld (by decide)]
    exact (miss far).1
  · show s3.ctr.misses = _
    rw [ctr3]
    show s1.ctr.misses = _
    rw [ctr1]
    exact (miss far).2

/-- A sample's result held (R517). -/
def State.sampled (s : State) (i : ℕ) (v : ℤ) : State := { s with ctr := { s.ctr with sample := tabSet (fun _ => 0) s.ctr.sample i v } }

/-- What a diode's result does to its region (R512, R528). -/
def State.diodeUsed (s : State) (r : ℕ) (v : ℤ) : State :=
  if s.pwr.mode = .dormant then s else if s.ctr.wakeDue.contains r then s.setFrom r v else if s.mayAnchor r then s.anchor r v else s

theorem State.useSample_none (h : diodeRegion i = none) (h35 : i ≠ 35) : s.useSample i v = s.sampled i v := by
  unfold State.useSample
  rw [h]
  dsimp only
  rw [if_neg h35]
  rfl

theorem State.useSample_measured : s.useSample 35 v = (s.sampled 35 v).setFld F.PWR_AVS_MEASURED_MV 0 (s.sampled 35 v).lowestHub := rfl

theorem State.useSample_diode (h : diodeRegion i = some r) :
    s.useSample i v = if 2000 ≤ v then ((s.sampled i v).diodeUsed r v).raiseAt 0x0E0 0 0x18 r else (s.sampled i v).diodeUsed r v := by
  have h35 : i ≠ 35 := by
    rintro rfl
    exact nomatch h
  unfold State.useSample
  rw [h]
  dsimp only
  rw [if_neg h35]
  rfl

theorem diodeRegion_lt (h : diodeRegion i = some r) : r < 137 := by
  unfold diodeRegion at h
  split at h
  · cases h
    omega
  · split at h
    · cases h
      omega
    · split at h
      · cases h
        omega
      · exact nomatch h

theorem State.diodeUsed_within : Within (.ctr :: .reg .CTR_EVENTS :: eventParts) (s.diodeUsed r v) s := by
  unfold State.diodeUsed
  exact .ite .rfl (.ite (State.setFrom_within (by decide)) (.ite (State.anchor_within (by decide)) .rfl))

theorem State.sampled_within : Within [.ctr] (s.sampled i v) s := .step (by decide) (.ctr s _) .rfl

theorem State.sampleOf_sampled : (s.sampled i v).sampleOf i = v := tabGet_set_self ..
theorem State.sampleOf_sampled_ne (h : k ≠ i) : (s.sampled i v).sampleOf k = s.sampleOf k := tabGet_set_ne _ _ _ h

/-! ### Rounds (R511, R520, R527) -/

theorem State.calibrate_spec : 512 ≤ (s.calibrate d).fld F.CTR_CAL_SCALE d ∧ (s.calibrate d).fld F.CTR_CAL_SCALE d ≤ 2048 ∧
    ∀ j, j ≠ d → (s.calibrate d).fld F.CTR_CAL_SCALE j = s.fld F.CTR_CAL_SCALE j := by
  have set : ∀ (x : State) (n : ℕ), x.regs = s.regs →
      let u := x.setFld F.CTR_CAL_SCALE d (max 512 (min 2048 n))
      let w := if Config.calRatio d ((List.range 64).map s.sampleOf) < 768 ∨ 1361920 < 1000 * Config.calRatio d ((List.range 64).map s.sampleOf) then
        u.event F.CTR_EVENTS_CAL_RANGE 0 d else u
      512 ≤ w.fld F.CTR_CAL_SCALE d ∧ w.fld F.CTR_CAL_SCALE d ≤ 2048 ∧ ∀ j, j ≠ d → w.fld F.CTR_CAL_SCALE j = s.fld F.CTR_CAL_SCALE j := by
    intro x n hx u w
    have hw : Within (.reg .CTR_EVENTS :: eventParts) w u := .ite (State.event_within (by decide) (by decide)) .rfl
    have here : u.fld F.CTR_CAL_SCALE d = max 512 (min 2048 n) := by
      rw [State.fld_setFld (by decide)]
      exact Nat.mod_eq_of_lt (lt_of_le_of_lt (show max 512 (min 2048 n) ≤ 2048 by omega) (by decide))
    refine ⟨?_, ?_, fun j hj => ?_⟩
    · rw [hw.fld (by decide), here]
      omega
    · rw [hw.fld (by decide), here]
      omega
    · rw [hw.fld (by decide), State.fld_setFld_ne (.inr (.inl (Ne.symm hj)))]
      simp only [State.fld, State.rg, hx]
  unfold State.calibrate
  extract_lets g old n r
  by_cases h : n % 8 = 0
  · rw [if_pos h]
    exact set s _ rfl
  · rw [if_neg h]
    exact set r.2 _ rfl

/-- Every scale a round has calibrated stands within 0.5 to 2.0 (R511). -/
theorem State.calibrated_scales {n : ℕ} : ∀ d < n, 512 ≤ ((List.range n).foldl (fun s d => s.calibrate d) s).fld F.CTR_CAL_SCALE d ∧
    ((List.range n).foldl (fun s d => s.calibrate d) s).fld F.CTR_CAL_SCALE d ≤ 2048 := by
  induction n with
  | zero => exact fun d h => absurd h (by omega)
  | succ n ih =>
    intro d hd
    rw [List.range_succ, List.foldl_append, List.foldl_cons, List.foldl_nil]
    obtain ⟨lo, hi, other⟩ := State.calibrate_spec (s := (List.range n).foldl (fun s d => s.calibrate d) s) (d := n)
    by_cases h : d = n
    · subst h
      exact ⟨lo, hi⟩
    · rw [other d h]
      exact ih d (by omega)

/-- The compensation leaves Datum's time as it was, counted at the temperature of region 136 (R527). -/
theorem State.compensate_spec : Within (.ctr :: .dat :: .reg .CTR_EVENTS :: eventParts) s.compensate s ∧ s.compensate.dat.compT = (s.regionOf 136).model ∧
    s.compensate.datumTime = s.datumTime ∧ s.compensate.ctr.roundAt = s.ctr.roundAt ∧ s.compensate.ctr.pos = s.ctr.pos := by
  let a : State := { s.rebase with dat := { s.rebase.dat with compT := (s.regionOf 136).model } }
  let b : State := { a with ctr := { a.ctr with oscTemp := (s.regionOf 136).model } }
  have time : a.datumTime = s.datumTime := congrArg (· / 32)
    ((State.datumCycles_now (u := a) rfl (Nat.mod_lt _ datumDen_pos) (.inr (Nat.mod_lt _ (by decide)))).trans (Nat.mod_eq_of_lt State.datumCycles_lt))
  have hb : Within (.reg .CTR_EVENTS :: eventParts) (b.event F.CTR_EVENTS_OSC_RETRIM 0 0) b := State.event_within (by decide) (by decide)
  have eq : s.compensate = if 64 ≤ ((s.regionOf 136).model - s.ctr.oscTemp).natAbs then b.event F.CTR_EVENTS_OSC_RETRIM 0 0 else a := rfl
  refine ⟨State.compensate_within (by decide), ?_⟩
  rw [eq]
  split
  · have dat : (b.event F.CTR_EVENTS_OSC_RETRIM 0 0).dat = b.dat := hb.keeps .dat (by decide)
    have ctr : (b.event F.CTR_EVENTS_OSC_RETRIM 0 0).ctr = b.ctr := hb.keeps .ctr (by decide)
    exact ⟨congrArg Datum.compT dat, (hb.datumTime (by decide)).trans time, (congrArg Ctr.roundAt ctr : _ = b.ctr.roundAt), (congrArg Ctr.pos ctr : _ = b.ctr.pos)⟩
  · exact ⟨rfl, time, rfl, rfl⟩

/-- The round, or a sample on demand, goes on (R517, R518). -/
def State.sampleNext (s : State) (p : ℕ) (x : Option ℕ) (l : List ℕ) : State := { s with ctr := { s.ctr with pos := p, running := x, demand := l } }

theorem State.sampleNext_within {p : ℕ} {x : Option ℕ} {l : List ℕ} : Within [.ctr] (s.sampleNext p x l) s := .step (by decide) (.ctr s _) .rfl

theorem State.lowestHub_next {p : ℕ} {x : Option ℕ} {l : List ℕ} {g : Fld} {n : ℕ} : ((s.setFld g 0 n).sampleNext p x l).lowestHub = s.lowestHub := rfl

theorem State.nextSample_eq : ∃ p x l, s.nextSample i = s.sampleNext p x l ∧ (i < 64 → p = (i + 1) % 64) := by
  unfold State.nextSample
  split
  · split
    · exact ⟨_, _, _, rfl, fun _ => rfl⟩
    · exact ⟨_, _, _, rfl, fun _ => rfl⟩
  · exact ⟨s.ctr.pos, _, s.ctr.demand, rfl, fun h => absurd h (by assumption)⟩

/-- A sample that is due, by what it is used for. -/
theorem leads_sample {P : State → Prop} (due : s.adcSampleDue i = true) (eq : s.useSample i v = u)
    (hP : ∀ p x l, (i < 64 → p = (i + 1) % 64) → P (u.sampleNext p x l)) : leads (.adcSampleEnd i v) s P := by
  obtain ⟨p, x, l, next, pos⟩ := State.nextSample_eq (s := u) (i := i)
  exact ⟨u.sampleNext p x l, (if_neg (by simp [due])).trans (congrArg Host.Outcome.next (by rw [eq, next])), hP p x l pos⟩

/-! ### The critical trip (R525) -/

theorem State.setStep_ctr : (s.setStep k).ctr.step = k ∧ (s.setStep k).ctr.trip = s.ctr.trip := by
  have kept : ∀ (u : State) (f : Fld), f.reg = .CTR_EVENTS → (u.event f 0 k).ctr = u.ctr := fun u f hf =>
    (State.event_within (L := .reg .CTR_EVENTS :: eventParts) (by rw [hf]; decide) (by decide)).keeps .ctr (by decide)
  unfold State.setStep
  extract_lets up _ u
  split
  · exact ⟨(by assumption : k = s.ctr.step).symm, rfl⟩
  · split
    · rw [kept _ _ rfl]
      exact ⟨rfl, rfl⟩
    · rw [kept _ _ rfl]
      exact ⟨rfl, rfl⟩

/-- A trip that clears leaves the step at K_MAX, and admission open where the mode has it so. -/
theorem State.tripClears_spec (idle : s.srv.queued = []) : Within (([.ctr, .plt, .reg .CTR_EVENTS] : List Part) ++ eventParts) s.tripClears s ∧
    s.tripClears.ctr.trip = false ∧ s.tripClears.ctr.step = s.ctr.kMax ∧ s.tripClears.fld F.CTR_EVENTS_CRIT_CLEAR 0 = 1 ∧
    s.tripClears.plt.admitOpen = (s.pwr.entering.isNone && s.hubOn) := by
  let a : State := { s with ctr := { s.ctr with trip := false, below := 0 }, plt := { s.plt with admitOpen := s.pwr.entering.isNone && s.hubOn } }
  let b := a.setStep a.ctr.kMax
  let c := b.suspRecord false 1 0
  let e := c.event F.CTR_EVENTS_CRIT_CLEAR 0 0
  have ha : Within [.ctr, .plt] a s := .update [.ctr, .plt] (by decide) .rfl rfl
  have hb : Within (.ctr :: .reg .CTR_EVENTS :: eventParts) b a := State.setStep_within (by decide)
  have hc : Within recordParts c b := State.suspRecord_within fun _ h => h
  have he : Within (.reg .CTR_EVENTS :: eventParts) e c := State.event_within (by decide) (by decide)
  have hs : Within (([.ctr, .plt, .reg .CTR_EVENTS] : List Part) ++ eventParts) e s :=
    (he.mono (by decide)).trans ((hc.mono (by decide)).trans ((hb.mono (by decide)).trans (ha.mono (by decide))))
  have eq : s.tripClears = e := by
    show e.startTests e.srv.queued.length = e
    rw [show e.srv = s.srv from hs.keeps .srv (by decide), idle]
    rfl
  have ctr : e.ctr = b.ctr := (he.keeps .ctr (by decide)).trans (hc.keeps .ctr (by decide))
  have plt : e.plt = a.plt := (he.keeps .plt (by decide)).trans ((hc.keeps .plt (by decide)).trans (hb.keeps .plt (by decide)))
  rw [eq, ctr, plt]
  exact ⟨hs, State.setStep_ctr.2, State.setStep_ctr.1, State.fld_event (by decide) rfl (by decide), rfl⟩

/-- What a round's end counts, on the scales calibrated (R520). -/
def State.roundCounted (s : State) : State :=
  let us := (s.now - s.ctr.roundAt) / usTicks
  let stretch := min 65535 (us - 2560)
  let a := (s.setFld F.CTR_ROUND_LAST_US 0 (min 65535 us)).setFld F.CTR_ROUND_STRETCH_US 0 stretch
  let b := a.setFld F.CTR_ROUND_CNT_MAX_STRETCH_US 0 (max stretch (a.fld F.CTR_ROUND_CNT_MAX_STRETCH_US 0))
  let c := b.setFld F.CTR_ROUND_CNT_ROUNDS 0 (b.fld F.CTR_ROUND_CNT_ROUNDS 0 + 1)
  { c with ctr := { c.ctr with roundAt := c.now, pos := 0 } }

theorem State.roundCounted_spec : Within [.ctr, .reg .CTR_ROUND, .reg .CTR_ROUND_CNT] s.roundCounted s ∧
    s.roundCounted.fld F.CTR_ROUND_CNT_ROUNDS 0 = (s.fld F.CTR_ROUND_CNT_ROUNDS 0 + 1) % 65536 ∧
    s.roundCounted.fld F.CTR_ROUND_LAST_US 0 = min 65535 ((s.now - s.ctr.roundAt) / usTicks) ∧
    s.roundCounted.ctr = { s.ctr with roundAt := s.now, pos := 0 } := by
  unfold State.roundCounted
  extract_lets us stretch a b c d
  have ha : Within [.reg .CTR_ROUND] a s := (State.setFld_within (by decide)).trans (State.setFld_within (by decide))
  have hb : Within [.reg .CTR_ROUND_CNT] b a := State.setFld_within (by decide)
  have hc : Within [.reg .CTR_ROUND_CNT] c b := State.setFld_within (by decide)
  refine ⟨.step (by decide) (.ctr c _) ((hc.mono (by decide)).trans ((hb.mono (by decide)).trans (ha.mono (by decide)))), ?_, ?_, rfl⟩
  · show c.fld F.CTR_ROUND_CNT_ROUNDS 0 = _
    rw [State.fld_setFld (by decide), State.fld_setFld_ne (by decide), ha.fld (by decide)]
    rfl
  · show c.fld F.CTR_ROUND_LAST_US 0 = _
    rw [hc.fld (by decide), hb.fld (by decide), State.fld_setFld_ne (by decide), State.fld_setFld (by decide)]
    exact Nat.mod_eq_of_lt (lt_of_le_of_lt (Nat.min_le_left ..) (by decide))

theorem roundEnd_eq (h : s.hubOn = true) :
    exec .roundEnd s = .next (((List.range 19).foldl (fun s d => s.calibrate d) s).roundCounted).compensate.retrainCheck := by
  refine (if_neg fun k => ?_).trans (if_neg fun k => ?_) <;> simp [State.hubOn, k] at h

end

/-- Settles O49: each sample by the region its diode reads, a trip by its frames and its minute. -/
theorem samplesRoundsAndTripsOfTheModel : Obligations.SamplesRoundsAndTripsOfTheModel := by
  unfold Obligations.SamplesRoundsAndTripsOfTheModel
  refine fun s q => ⟨fun off => ⟨fun i v => if_pos ?_, fun i => if_pos off, if_pos off⟩, fun on => ⟨fun i v h => if_pos h, fun i v due none h35 => ?_,
    fun v due => ?_, fun i v r due reg h35 cool => ⟨fun wake warm => ?_, fun wake may warm => ?_, fun no => ?_⟩, fun i v r due reg hot hub fen iso => ?_,
    fun i => ?_⟩, fun hub => ?_, fun dorm => ?_, fun h => ?_, fun c hc late => ?_, fun trip => ⟨fun cool idle => ?_, fun h => if_neg fun k => by omega,
      fun h => if_neg fun k => by omega, fun late hub fen iso => ?_⟩, fun hq => leads_answer hq rfl rfl⟩
  · simp [State.adcSampleDue, off]
  · exact leads_sample due (State.useSample_none none h35) fun p x l pos => ⟨State.sampleOf_sampled, fun k hk => State.sampleOf_sampled_ne hk,
      pos, fun r => rfl, Within.keeps (State.sampleNext_within.trans State.sampled_within)⟩
  · have hub : ((s.sampled 35 v).setFld F.PWR_AVS_MEASURED_MV 0 (s.sampled 35 v).lowestHub).fld F.PWR_AVS_MEASURED_MV 0 = (s.sampled 35 v).lowestHub % 65536 :=
      State.fld_setFld (by decide)
    exact leads_sample due State.useSample_measured fun p x l _ => ⟨State.sampleOf_sampled,
      (State.sampleNext_within.fld (by decide)).trans (hub.trans (congrArg (· % 65536) State.lowestHub_next.symm)),
      ((State.sampleNext_within.fld (by decide)).trans (State.fld_setFld_ne (by decide))).trans (State.sampled_within.fld (by decide)),
      Within.keeps ((State.sampleNext_within.mono (by decide)).trans ((State.setFld_within (by decide)).trans (State.sampled_within.mono (by decide))))⟩
  · have eq := State.useSample_diode (s := s) (v := v) reg
    have used : (s.sampled i v).diodeUsed r v = (s.sampled i v).setFrom r v := (if_neg warm).trans (if_pos wake)
    rw [if_neg (by omega), used] at eq
    refine leads_sample due eq fun p x l _ => ⟨congrArg Region.model State.regionOf_setRegion, ?_, rfl, fun k hk => State.regionOf_setRegion_ne hk,
      Within.keeps (State.sampleNext_within.trans ((State.setFrom_within (by decide)).trans State.sampled_within))⟩
    show ((s.ctr.wakeDue.filter fun k => decide (k ≠ r)).contains r) = false
    simp
  · have eq := State.useSample_diode (s := s) (v := v) reg
    have used : (s.sampled i v).diodeUsed r v = (s.sampled i v).anchor r v :=
      (if_neg warm).trans ((if_neg (by rw [show (s.sampled i v).ctr.wakeDue = s.ctr.wakeDue from rfl, wake]; decide)).trans (if_pos may))
    rw [if_neg (by omega), used] at eq
    obtain ⟨model, anchored, age, sink, miss⟩ := State.anchor_spec (s := s.sampled i v) (v := v) (diodeRegion_lt reg)
    exact leads_sample due eq fun p x l _ => ⟨model, anchored, age, sink, miss,
      Within.keeps ((State.sampleNext_within.mono (by decide)).trans ((State.anchor_within (by decide)).trans (State.sampled_within.mono (by decide))))⟩
  · have eq := State.useSample_diode (s := s) (v := v) reg
    have used : (s.sampled i v).diodeUsed r v = s.sampled i v := by
      rcases no with ⟨wake, may⟩ | dorm
      · exact ite_eq_left_iff.2 fun _ => (if_neg (by rw [show (s.sampled i v).ctr.wakeDue = s.ctr.wakeDue from rfl, wake]; decide)).trans
          (if_neg (by rw [show (s.sampled i v).mayAnchor r = s.mayAnchor r from rfl, may]; decide))
      · exact if_pos dorm
    rw [if_neg (by omega), used] at eq
    exact leads_sample due eq fun p x l _ => ⟨State.sampleOf_sampled, fun k => rfl, Within.keeps (State.sampleNext_within.trans State.sampled_within)⟩
  · have eq := State.useSample_diode (s := s) (v := v) reg
    rw [if_pos hot] at eq
    have hd : Within (.ctr :: .reg .CTR_EVENTS :: eventParts) ((s.sampled i v).diodeUsed r v) s := State.diodeUsed_within.trans (State.sampled_within.mono (by decide))
    obtain ⟨mode, cause, last, hw⟩ := State.raiseAt_device_spec (s := (s.sampled i v).diodeUsed r v) (b := 0x0E0) (i := 0) (c := 0x18) (d := r)
      ((State.hubOn_of_pwr (hd.keeps .pwr (by decide))).trans hub) (by decide) (by rw [hd.unit (by decide), iso]) (by rw [hd.fenced (by decide), fen]) (by decide)
    exact leads_sample due eq fun p x l _ => ⟨mode, cause, last,
      Within.keeps ((State.sampleNext_within.mono (by decide)).trans ((hw.mono (by decide)).trans (hd.mono (by decide))))⟩
  · refine ⟨s.demandSample i, if_neg on, fun far l hl all => ?_, fun near => ?_, Within.keeps (.step (by decide) (.ctr s _) .rfl)⟩
    · subst hl
      have no : ∀ k ∈ s.ctr.demand, capSample k = false := fun k hk => decide_eq_false (Nat.not_le.2 (all k hk))
      show (if capSample i then _ else _) = _
      rw [if_pos (show capSample i = true from decide_eq_true far)]
      cases hd : s.ctr.demand with
      | nil => rfl
      | cons k l =>
        have hk := no k (by rw [hd]; exact List.mem_cons_self)
        rw [List.takeWhile_cons_of_neg (by simp [hk]), List.dropWhile_cons_of_neg (by simp [hk])]
        rfl
    · show (if capSample i then _ else _) = _
      rw [if_neg (by simp [capSample]; omega)]
  · let u := (List.range 19).foldl (fun s d => s.calibrate d) s
    have hu : Within calibrateParts u s := Within.foldl fun _ _ => State.calibrate_within fun _ h => h
    obtain ⟨hr, rounds, last, ctr⟩ := State.roundCounted_spec (s := u)
    obtain ⟨hc, comp, -, roundAt, pos⟩ := State.compensate_spec (s := u.roundCounted)
    have ht : Within [.fch] u.roundCounted.compensate.retrainCheck u.roundCounted.compensate := State.retrainCheck_within (by decide)
    have hk : Within (.fch :: .ctr :: .dat :: .reg .CTR_EVENTS :: eventParts) u.roundCounted.compensate.retrainCheck u.roundCounted :=
      (ht.mono (by decide)).trans (hc.mono (by decide))
    have now : u.now = s.now := hu.keeps .now (by decide)
    have uctr : u.ctr = s.ctr := hu.keeps .ctr (by decide)
    have tctr : u.roundCounted.compensate.retrainCheck.ctr = u.roundCounted.compensate.ctr := ht.keeps .ctr (by decide)
    refine ⟨_, roundEnd_eq hub, fun d hd => ?_, ?_, ?_, ?_, ?_, ?_, Within.keeps (.trans (hk.mono (by decide)) (.trans (hr.mono (by decide)) (hu.mono (by decide))))⟩
    · rw [hk.fld (by decide), hr.fld (by decide)]
      exact State.calibrated_scales d hd
    · rw [hk.fld (by decide), rounds, hu.fld (by decide)]
    · rw [hk.fld (by decide), last, now, uctr]
    · rw [tctr, roundAt, ctr, now]
    · rw [tctr, pos, ctr]
    · rw [show u.roundCounted.compensate.retrainCheck.dat = u.roundCounted.compensate.dat from ht.keeps .dat (by decide), comp, State.regionOf, ctr, uctr]
      rfl
  · obtain ⟨hc, comp, time, -⟩ := State.compensate_spec (s := s)
    exact ⟨s.compensate, (if_neg (by rw [dorm]; decide)).trans (if_pos dorm), comp, time, (hc.mono (by decide)).keeps⟩
  · show execCandidateUnquietable s = _
    unfold execCandidateUnquietable
    split
    · rfl
    · exact if_pos h
  · have ha : Within (.reg .CTR_EVENTS :: eventParts)
        (({ s with ctr := { s.ctr with cand := none, unquiet := c :: s.ctr.unquiet } } : State).event F.CTR_EVENTS_UNQUIETABLE 0 c)
        { s with ctr := { s.ctr with cand := none, unquiet := c :: s.ctr.unquiet } } := State.event_within (by decide) (by decide)
    have ctr : (({ s with ctr := { s.ctr with cand := none, unquiet := c :: s.ctr.unquiet } } : State).event F.CTR_EVENTS_UNQUIETABLE 0 c).ctr =
      { s.ctr with cand := none, unquiet := c :: s.ctr.unquiet } := ha.keeps .ctr (by decide)
    refine ⟨_, ?_, congrArg Ctr.cand ctr, by rw [ctr]; exact List.mem_cons_self, State.fld_event (by decide) rfl (by decide),
      Within.keeps (.trans (ha.mono (by decide)) (.step (by decide) (.ctr s _) .rfl))⟩
    show execCandidateUnquietable s = _
    rw [execCandidateUnquietable, hc]
    exact if_neg (Nat.not_lt.2 late)
  · obtain ⟨hw, clear, step, bit, admits⟩ := State.tripClears_spec idle
    exact ⟨s.tripClears, if_pos ⟨trip, cool⟩, clear, step, bit, admits, hw.keeps⟩
  · obtain ⟨mode, cause, -, hw⟩ := State.raiseAt_device_spec (b := 0x0E0) (i := 0) (c := 0x18) (d := s.ctr.hottest) hub (by decide) iso fen (by decide)
    exact ⟨_, if_pos ⟨trip, late⟩, mode, cause, hw.keeps⟩

end Sys2Proof.Machine
end

section
/-! Update sessions (O46). -/

namespace Sys2Proof.Machine

section
variable {s t u : State} {down : Bool} {n ty seq k : ℕ} {l : List ℕ} {b : BootSlot} {x : UpdSess} {q : MbxReq}

/-! ### The relay link and the update session (R592 to R596) -/

/-- The store's part stands as it was but for its relay links, which expect the same frames. -/
def sameRelay (s t : State) : Prop := ∃ up dn, t.por = { s.por with upL := up, dnL := dn } ∧
  up.expected = s.por.upL.expected ∧ dn.expected = s.por.dnL.expected

theorem sameRelay.refl : sameRelay s s := ⟨_, _, rfl, rfl, rfl⟩
theorem sameRelay.of_eq (h : t.por = s.por) : sameRelay s t := ⟨_, _, h, rfl, rfl⟩
theorem sameRelay.trans (h : sameRelay s t) (k : sameRelay t u) : sameRelay s u := by
  obtain ⟨a, b, e, ha, hb⟩ := h
  obtain ⟨c, d, f, hc, hd⟩ := k
  exact ⟨c, d, by rw [f, e], by rw [hc, e]; exact ha, by rw [hd, e]; exact hb⟩

theorem sameRelay.setLink {x : RLink} (h : x.expected = (s.link down).expected) : sameRelay s (s.setLink down x) := by
  cases down
  · exact ⟨x, s.por.dnL, rfl, h, rfl⟩
  · exact ⟨s.por.upL, x, rfl, rfl, h⟩

theorem State.pump_sameRelay : sameRelay s (s.pump down n) := by
  induction n generalizing s with
  | zero => exact .refl
  | succ n ih =>
    unfold State.pump
    extract_lets l
    split
    · exact .refl
    · split
      · exact .refl
      · extract_lets u
        have hu : sameRelay s u := .setLink rfl
        exact hu.trans (sameRelay.trans (sameRelay.of_eq (t := u.frame down _ _ _) rfl) ih)

theorem State.relaySend_sameRelay : sameRelay s (s.relaySend down ty l) := by
  unfold State.relaySend
  extract_lets x
  split
  · exact .refl
  · exact sameRelay.trans (t := s.setLink down { x with wait := x.wait ++ [(ty, l)] }) (.setLink rfl) State.pump_sameRelay

theorem sameRelay.sess (h : sameRelay s t) : t.por.sess = s.por.sess := by
  obtain ⟨a, b, e, -, -⟩ := h
  rw [e]

theorem sameRelay.bootSlot (h : sameRelay s t) : t.bootSlot k = s.bootSlot k := by
  obtain ⟨a, b, e, -, -⟩ := h
  rw [State.bootSlot, e]
  rfl

theorem sameRelay.expected (h : sameRelay s t) : t.por.upL.expected = s.por.upL.expected := by
  obtain ⟨a, b, e, ha, -⟩ := h
  rw [e]
  exact ha

/-- A sequenced frame that was expected (R594 rule 3). -/
def State.taken (s : State) (down : Bool) : State := s.setLink down { s.link down with expected := ((s.link down).expected + 1) % 256 }

theorem State.relayRecv_expected {body : State → State} (up : (s.link down).up = true) (he : (s.link down).expected = seq % 256) :
    s.relayRecv down seq body = (body (s.taken down)).ackFrame down := by
  unfold State.relayRecv
  extract_lets l d
  have hd : d = 0 := by
    show ((s.link down).expected + 256 - seq % 256) % 256 = 0
    rw [he, Nat.add_sub_cancel_left]
  rw [if_neg (by simp [l, up]), if_pos hd]
  rfl

theorem State.taken_within : Within [.por] (s.taken down) s := State.setLink_within (by decide)

/-- The acknowledgement is the last to leave. -/
theorem State.ackFrame_head : (s.ackFrame false).out.head? =
    some (.relay false 0x02 [0, (s.ackFrame false).por.upL.expected, (s.ackFrame false).creditOut]) := rfl

/-- A session opened (R589). -/
theorem State.openUpd_spec : Within [.out, .por] (s.openUpd x) s ∧ (s.openUpd x).por.sess = some x ∧
    (x.route % 2 = 1 → ((s.openUpd x).bootSlot x.slot).st = 1 ∧ ((s.openUpd x).bootSlot x.slot).len = x.len ∧
      (s.por.op = none → (s.openUpd x).por.op = some ⟨1, slotBase x.slot, [], false, 0, false⟩)) ∧
    (∀ k, k ≠ x.slot ∨ x.route % 2 = 0 → (s.openUpd x).bootSlot k = s.bootSlot k) ∧
    (s.openUpd x).por.upL.expected = s.por.upL.expected := by
  unfold State.openUpd
  extract_lets a _ b _ w c
  have hb : Within [.por] b s := .step (by decide) (.por a _) (State.setSess_within (by decide))
  have hc : Within [.por] c b := by
    have hw : Within [.por] w b := State.setBootSlot_within (by decide)
    exact .ite (.ite hw (.step (by decide) (.por w _) hw)) .rfl
  have csess : c.por.sess = some x := by
    unfold c
    split
    · split <;> rfl
    · rfl
  have cexp : c.por.upL.expected = s.por.upL.expected := by
    unfold c
    split
    · split <;> rfl
    · rfl
  have cslot : x.route % 2 = 1 → (c.bootSlot x.slot).st = 1 ∧ (c.bootSlot x.slot).len = x.len ∧
      (s.por.op = none → c.por.op = some ⟨1, slotBase x.slot, [], false, 0, false⟩) := by
    intro h
    unfold c
    rw [if_pos h]
    split
    · next busy =>
      rw [State.bootSlot_setBootSlot]
      exact ⟨rfl, rfl, fun k => absurd busy (by show ¬s.por.op.isSome = true; simp [k])⟩
    · rw [show ∀ u : State, (u.startStore 1 (slotBase x.slot) []).bootSlot x.slot = u.bootSlot x.slot from fun _ => rfl, State.bootSlot_setBootSlot]
      exact ⟨rfl, rfl, fun _ => rfl⟩
  have cother : ∀ k, k ≠ x.slot ∨ x.route % 2 = 0 → c.bootSlot k = s.bootSlot k := by
    intro k h
    unfold c
    split
    · next odd =>
      have hk := h.resolve_right (by omega)
      have hw : w.bootSlot k = b.bootSlot k := State.bootSlot_setBootSlot_ne hk
      split <;> exact hw
    · rfl
  by_cases fwd : x.route / 2 % 2 = 1
  · rw [if_pos fwd]
    have hr : sameRelay c (c.relaySend true 0x10 [x.slot, x.len, x.imageId]) := State.relaySend_sameRelay
    refine ⟨(State.relaySend_within (by decide)).trans ((hc.mono (by decide)).trans (hb.mono (by decide))), hr.sess.trans csess, fun h => ?_,
      fun k hk => hr.bootSlot.trans (cother k hk), hr.expected.trans cexp⟩
    obtain ⟨up, dn, por, -, -⟩ := hr
    rw [State.bootSlot, por]
    exact cslot h
  · rw [if_neg fwd]
    exact ⟨(hc.mono (by decide)).trans (hb.mono (by decide)), csess, cslot, cother, cexp⟩

/-! ### How a session ends (R590, R591, R595, R596) -/

theorem State.event_por {f : Fld} {i sub : ℕ} (h : f.reg = .UPD_EVENTS) : (s.event f i sub).por = s.por :=
  (State.event_within (L := .reg .UPD_EVENTS :: eventParts) (by rw [h]; decide) (by decide)).keeps .por (by decide)

/-- What the end of an UPD_END's session may change before its handle is done. -/
def updParts : List Part := ([.por, .reg .UPD_EVENTS] : List Part) ++ eventParts

/-- An UPD_END ends: the session is over and STORE_DONE set; a device of its own that stored nothing sets STORE_FAIL (R596). -/
theorem State.finishUpd_spec (hs : s.por.sess = some x) : ∃ v r d, Within updParts v s ∧ v.por = { s.por with sess := none } ∧
    v.fld F.UPD_EVENTS_STORE_DONE 0 = 1 ∧ (x.route = 1 → x.stored = false → v.fld F.UPD_EVENTS_STORE_FAIL 0 = 1) ∧ s.finishUpd = v.opDone x.handle r d := by
  unfold State.finishUpd
  rw [hs]
  dsimp -zeta only
  extract_lets _ mine l good bad res a b
  have ha : Within (.reg .UPD_EVENTS :: eventParts) a (s.setSess none) := State.event_within (by decide) (by decide)
  have hb : Within (.reg .UPD_EVENTS :: eventParts) b a := .ite .rfl (State.event_within (by decide) (by decide))
  have done : a.fld F.UPD_EVENTS_STORE_DONE 0 = 1 := State.fld_event (by decide) rfl (by decide)
  refine ⟨b, res, _, (hb.mono (by decide)).trans ((ha.mono (by decide)).trans (State.setSess_within (by decide))),
    (hb.keeps .por (by decide)).trans (ha.keeps .por (by decide)), ?_, fun route bad' => ?_, rfl⟩
  · unfold b
    split
    · exact done
    · exact (State.fld_event_ne (by decide) (by decide)).trans done
  · have hbad : bad ≠ 0 := by
      have hm : mine = 1 := by rw [show mine = x.route % 2 from rfl, route]
      have hl : l = [] := by
        show (if x.route / 2 % 2 = 1 then s.beyond else []) = []
        rw [route]
        rfl
      have hg : good = 0 := by
        show (l.filter _).length + (if mine = 1 ∧ x.stored = true then 1 else 0) = 0
        rw [hl, bad']
        simp
      show l.length + mine - good ≠ 0
      rw [hg, hm]
      omega
    unfold b
    rw [if_neg hbad]
    exact State.fld_event (by decide) rfl (by decide)

/-- A handle that is known is done (R419). -/
theorem State.opDone_done {h r : ℕ} {d : List ℕ} {o : OpRec} (ho : tabGet (fun _ => none) s.ops h = some o) :
    (tabGet (fun _ => none) (s.opDone (some h) r d).ops h).map OpRec.done = some true := by
  unfold State.opDone
  dsimp only
  rw [ho]
  dsimp only
  have kept : ∀ u : State, (u.mbEvent o.path F.MBX_EVENTS_OP_DONE).ops = u.ops := fun u =>
    (State.mbEvent_within_resp (L := respParts) rfl fun _ h => h).keeps .ops (by decide)
  rw [kept, tabGet_set_self]
  rfl

/-- The local store's end, of a session that stores here and forwards nothing (R590). -/
theorem State.endLocal_own (hs : s.por.sess = some x) (route : x.route = 1) (own : x.remote = false) :
    ∃ v r d, Within updParts v s ∧ v.por.sess = none ∧ (v.bootSlot x.slot).st = (if s.imageOk x then 2 else 3) ∧ v.fld F.UPD_EVENTS_STORE_DONE 0 = 1 ∧
      (s.imageOk x = false → v.fld F.UPD_EVENTS_STORE_FAIL 0 = 1) ∧ s.endLocal = v.opDone x.handle r d := by
  unfold State.endLocal
  rw [hs]
  dsimp -zeta only
  extract_lets ok fw a fwd b c d
  have hfwd : fwd = false := by
    show decide (x.route / 2 % 2 = 1) = false
    rw [route]
    rfl
  have hc : c = b := if_neg (by rw [hfwd]; decide)
  have ha : a = s.setBootSlot x.slot ⟨if ok then 2 else 3, x.imageId, if ok then fw else 0, x.len⟩ := if_pos (by rw [route])
  have hab : Within [.por] b s := (State.setSess_within (by decide)).trans (by rw [ha]; exact State.setBootSlot_within (by decide))
  obtain ⟨v, r, l, hv, por, done, fail, eq⟩ := State.finishUpd_spec (s := b) (x := { x with stored := ok, forwarded := fwd, endAt := a.now }) rfl
  refine ⟨v, r, l, hv.trans (hab.mono (by decide)), by rw [por], ?_, done, fun h => fail route h, ?_⟩
  · rw [State.bootSlot, por]
    show (a.bootSlot x.slot).st = _
    rw [ha, State.bootSlot_setBootSlot]
  · rw [if_neg (by rw [own]; decide), hfwd, Bool.false_and, if_neg (by decide), hc]
    exact eq

/-- The local store's end of a relayed session: it reports upstream, and is over (R595). -/
theorem State.endLocal_remote (hs : s.por.sess = some x) (route : x.route % 2 = 1) (far : x.remote = true) :
    Within updParts s.endLocal s ∧ s.endLocal.por.sess = none ∧ (s.endLocal.bootSlot x.slot).st = (if s.imageOk x then 2 else 3) ∧
    s.endLocal.fld (if s.imageOk x then F.UPD_EVENTS_STORE_DONE else F.UPD_EVENTS_STORE_FAIL) 0 = 1 := by
  unfold State.endLocal
  rw [hs]
  dsimp -zeta only
  extract_lets ok fw a fwd b c d
  have ha : a = s.setBootSlot x.slot ⟨if ok then 2 else 3, x.imageId, if ok then fw else 0, x.len⟩ := if_pos route
  have hab : Within [.por] b s := (State.setSess_within (by decide)).trans (by rw [ha]; exact State.setBootSlot_within (by decide))
  have hbc : Within [.out, .por] c b := .ite (State.relaySend_within (by decide)) .rfl
  have hcd : Within [.out, .por] d c := State.report_within (by decide)
  have same : sameRelay b d := by
    refine sameRelay.trans (t := c) ?_ State.relaySend_sameRelay
    unfold c
    split
    · exact State.relaySend_sameRelay
    · exact .refl
  have he : (if ok = true then F.UPD_EVENTS_STORE_DONE else F.UPD_EVENTS_STORE_FAIL).reg = .UPD_EVENTS := by cases ok <;> rfl
  rw [if_pos far, State.bootSlot, State.event_por he]
  refine ⟨?_, rfl, ?_, ?_⟩
  · refine Within.trans (t := d.setSess none) ?_ ((State.setSess_within (by decide)).trans ((hcd.mono (by decide)).trans ((hbc.mono (by decide)).trans (hab.mono (by decide)))))
    exact State.event_within (by rw [he]; decide) (by decide)
  · show (d.bootSlot x.slot).st = _
    rw [same.bootSlot]
    show (a.bootSlot x.slot).st = _
    rw [ha, State.bootSlot_setBootSlot]
  · show (State.event _ (if ok = true then _ else _) 0 0).fld (if ok = true then _ else _) 0 = 1
    cases ok
    · exact State.fld_event (by decide) rfl (by decide)
    · exact State.fld_event (by decide) rfl (by decide)

/-- A store failure ends the session, with no chunk held (R591, R595). -/
theorem State.failUpd_spec {st : ℕ} (hs : s.por.sess = some x) (held : x.held = none) (quiet : x.remote = false → x.handle = none) :
    Within updParts (s.failUpd x st) s ∧ (s.failUpd x st).por.sess = none ∧ (x.route % 2 = 1 → ((s.failUpd x st).bootSlot x.slot).st = 3) ∧
    (s.failUpd x st).fld F.UPD_EVENTS_STORE_FAIL 0 = 1 := by
  unfold State.failUpd
  extract_lets a b
  have hb : b = a := by
    unfold b
    rw [held]
  have por : a.por = s.endUpd.por := State.event_por rfl
  have fail : a.fld F.UPD_EVENTS_STORE_FAIL 0 = 1 := State.fld_event (by decide) rfl (by decide)
  have ha : Within updParts a s := (State.event_within (by decide) (by decide)).trans (State.endUpd_within (by decide))
  have ended : s.endUpd.por.sess = none ∧ (x.route % 2 = 1 → (s.endUpd.bootSlot x.slot).st = 3) := by
    unfold State.endUpd
    rw [hs]
    dsimp only
    refine ⟨rfl, fun h => ?_⟩
    rw [if_pos h]
    exact congrArg BootSlot.st (tabGet_set_self (fun _ => BootSlot.reset) s.por.slots x.slot
      { tabGet (fun _ => BootSlot.reset) s.por.slots x.slot with st := 3 })
  have slot : a.bootSlot x.slot = s.endUpd.bootSlot x.slot := by rw [State.bootSlot, State.bootSlot, por]
  rw [hb]
  by_cases far : x.remote = true
  · rw [if_pos far]
    have hr : sameRelay a (a.report 0 st x.imageId x.slot 0) := State.relaySend_sameRelay
    have hw : Within [.out, .por] (a.report 0 st x.imageId x.slot 0) a := State.report_within (by decide)
    exact ⟨(hw.mono (by decide)).trans ha, by rw [hr.sess, por]; exact ended.1, fun h => by rw [hr.bootSlot, slot]; exact ended.2 h,
      (hw.fld (by decide)).trans fail⟩
  · rw [if_neg far, quiet (by simpa using far)]
    exact ⟨ha, by show a.por.sess = none; rw [por]; exact ended.1, fun h => by show (a.bootSlot x.slot).st = 3; rw [slot]; exact ended.2 h, fail⟩

/-- A request whose session is open and takes chunks. -/
theorem State.sessOf_some {p : ℕ} (h : s.sessOf p = some x) : s.por.sess = some x ∧ x.remote = false ∧ x.ending = false := by
  obtain ⟨hs, hp⟩ := Option.filter_eq_some_iff.1 h
  simp only [Bool.and_eq_true, Bool.not_eq_true', decide_eq_true_eq] at hp
  exact ⟨hs, hp.1.2, hp.2⟩

theorem State.remoteSess_some (h : s.remoteSess = some x) : s.por.sess = some x ∧ x.remote = true := by
  obtain ⟨hs, hp⟩ := Option.filter_eq_some_iff.1 h
  simp only [Bool.and_eq_true] at hp
  exact ⟨hs, hp.1⟩

theorem State.imageOk_congr {y : UpdSess} (hs : ∀ a, t.storeByte a = s.storeByte a) (hy : y.slot = x.slot ∧ y.len = x.len ∧ y.imageId = x.imageId) :
    t.imageOk y = s.imageOk x := by
  have bytes : ∀ a n, t.storeBytes a n = s.storeBytes a n := fun a n => List.map_congr_left fun k _ => hs (a + k)
  have word : ∀ a n, t.storeLe a n = s.storeLe a n := fun a n => by rw [State.storeLe, State.storeLe, bytes]
  obtain ⟨h1, h2, h3⟩ := hy
  simp only [State.imageOk, bytes, word, h1, h2, h3]

/-- The session that an accepted UPD_END leaves, with its handle (R420). -/
def State.endAccepted (s : State) (q : MbxReq) (x : UpdSess) : State :=
  (s.startLong q 0x0603 []).2.setSess (some { x with ending := true, handle := some (s.handle 0x0603) })

theorem updEnd_body (hs : s.sessOf q.path = some x) (all : x.len / 4096 ≤ x.next) :
    (match s.sessOf q.path with
      | none => s.refuse q 0x0603 Ms.noUpdateSession
      | some u =>
        if u.next < u.len / 4096 then s.refuse q 0x0603 Ms.chunkOrder
        else
          let l := s.startLong q 0x0603 []
          let s := l.2.setSess (some { u with ending := true, handle := some l.1 })
          if u.queue.isEmpty then s.endLocal else s) = if x.queue.isEmpty then (s.endAccepted q x).endLocal else s.endAccepted q x := by
  rw [hs]
  exact if_neg (by omega)

theorem State.startLong_ops {rest : List ℕ} {op : ℕ} : tabGet (fun _ => none) (s.startLong q op rest).2.ops (s.handle op) = some ⟨q.path, false, 0, 0, []⟩ := by
  have kept : (s.startLong q op rest).2.ops = (s.newHandle q.path (op / 256)).2.ops := (State.respond_within_resp (L := respParts) fun _ h => h).keeps .ops (by decide)
  rw [kept]
  exact tabGet_set_self (fun _ => none) s.ops (s.handle op) (some ⟨q.path, false, 0, 0, []⟩)

theorem State.endAccepted_within : Within (.por :: .nextHandle :: mbxParts) (s.endAccepted q x) s :=
  (State.setSess_within (by decide)).trans (State.startLong_within (by decide))

theorem State.storeByte_setSess {y : ℕ} {w : Option UpdSess} : (s.setSess w).storeByte y = s.storeByte y := rfl

/-- A chunk stored in its own slot (R589): its sector erased and programmed; the erase that went ahead of it is over. -/
def State.chunkPut (s : State) (a : ℕ) (d : List ℕ) : State :=
  if ((s.eraseDone a).storePut a d).por.op.any fun o => decide (o.kind = 1 ∧ o.addr = a) then
    { (s.eraseDone a).storePut a d with por := { ((s.eraseDone a).storePut a d).por with op := none } }
  else (s.eraseDone a).storePut a d

def chunkParts : List Part := ([.por, .reg .POR_EVENTS] : List Part) ++ eventParts

theorem State.chunkPut_within {a : ℕ} {d : List ℕ} : Within chunkParts (s.chunkPut a d) s := by
  have hw : Within chunkParts ((s.eraseDone a).storePut a d) s := (State.storePut_within (by decide)).trans (State.eraseDone_within (by decide))
  exact .ite (.step (by decide) (.por ((s.eraseDone a).storePut a d) _) hw) hw

theorem State.chunkPut_idle {a : ℕ} {d : List ℕ} (idle : s.por.op = none) : s.chunkPut a d = (s.eraseDone a).storePut a d := by
  obtain ⟨p, e, r, por⟩ := State.wear_por (s := s.erased a) (sec := a / 4096)
  have op : ((s.eraseDone a).storePut a d).por.op = none := (congrArg Por.op por).trans idle
  exact if_neg (by rw [op]; exact Bool.false_ne_true)

theorem State.eraseDone_cut {a : ℕ} : tabGet (fun _ => 0) (s.eraseDone a).por.cut (a / 4096) = 0 := by
  obtain ⟨p, e, r, por⟩ := State.wear_por (s := s.erased a) (sec := a / 4096)
  rw [State.eraseDone_eq, por]
  exact tabGet_set_self (fun _ => 0) s.por.cut (a / 4096) 0

/-- A chunk put on an erased sector reads as it came (R581, R589). -/
theorem State.storeByte_chunkPut {a y : ℕ} {d : List ℕ} (idle : s.por.op = none) (al : a % 4096 = 0) (len : d.length ≤ 4096)
    (h : a ≤ y ∧ y < a + d.length) : (s.chunkPut a d).storeByte y = d.getD (y - a) 0 % 256 := by
  rw [State.chunkPut_idle idle]
  refine State.storeByte_storePut h ?_
  rw [show y / 4096 = a / 4096 by omega]
  exact State.eraseDone_cut

theorem State.storeByte_chunkPut_ne {a y : ℕ} {d : List ℕ} (idle : s.por.op = none) (al : a % 4096 = 0) (len : d.length ≤ 4096)
    (h : y / 4096 ≠ a / 4096) : (s.chunkPut a d).storeByte y = s.storeByte y := by
  rw [State.chunkPut_idle idle, State.storeByte_storePut_ne (by omega), State.storeByte_eraseDone, if_neg h]

/-- A chunk of a session that stores here, and forwards nothing (R589). -/
theorem chunkStored_free {i : ℕ} {d : List ℕ} {rest : List (ℕ × List ℕ)} (hu : s.por.sess = some x) (hd : x.queue = (i, d) :: rest) (route : x.route = 1)
    (held : x.held = none) (on : x.ending = false) :
    exec (.chunkStored true) s = .next ((s.chunkPut (slotBase x.slot + 4096 * i) d).setSess (some { x with queue := rest })) := by
  have odd : x.route % 2 = 1 := by rw [route]
  have own : ¬x.route / 2 % 2 = 1 := by rw [route]; decide
  show execChunkStored true s = _
  unfold execChunkStored
  rw [hu]
  dsimp only
  rw [hd]
  dsimp only
  rw [if_neg (by simp), if_pos odd, if_neg own, held, on, State.chunkPut, Bool.false_and]
  obtain ⟨m, hm⟩ : ∃ m, m = (s.eraseDone (slotBase x.slot + 4096 * i)).storePut (slotBase x.slot + 4096 * i) d := ⟨_, rfl⟩
  rw [← hm]
  dsimp only
  rw [if_neg (by decide)]
  cases m.por.op with
  | none => rfl
  | some o => by_cases h : o.kind = 1 ∧ o.addr = slotBase x.slot + 4096 * i <;> simp only [h, and_self, decide_true, decide_false, if_true, if_false, Option.any_some, Bool.false_eq_true]

/-- A chunk that waited for a place takes it, and is answered (R589). -/
theorem chunkStored_held {i : ℕ} {d : List ℕ} {rest : List (ℕ × List ℕ)} {w : MbxReq} (hu : s.por.sess = some x) (hd : x.queue = (i, d) :: rest)
    (route : x.route = 1) (held : x.held = some w) :
    exec (.chunkStored true) s = .next (((s.chunkPut (slotBase x.slot + 4096 * i) d).setSess
      (some ({ x with queue := rest, held := none }.accept (w.payload.drop 8)))).respond w 0x0602 Ms.success false []) := by
  have odd : x.route % 2 = 1 := by rw [route]
  have own : ¬x.route / 2 % 2 = 1 := by rw [route]; decide
  show execChunkStored true s = _
  unfold execChunkStored
  rw [hu]
  dsimp only
  rw [hd]
  dsimp only
  rw [if_neg (by simp), if_pos odd, if_neg own, held, State.chunkPut]
  obtain ⟨m, hm⟩ : ∃ m, m = (s.eraseDone (slotBase x.slot + 4096 * i)).storePut (slotBase x.slot + 4096 * i) d := ⟨_, rfl⟩
  rw [← hm]
  dsimp only
  cases m.por.op with
  | none => rfl
  | some o => by_cases h : o.kind = 1 ∧ o.addr = slotBase x.slot + 4096 * i <;> simp only [h, and_self, decide_true, decide_false, if_true, if_false, Option.any_some, Bool.false_eq_true]

/-- A relay frame that was expected, by what its body makes of the link's state. -/
theorem leads_relay {i : Instr} {body : State → State} {P : State → Prop} (run : exec i s = .next (s.relayRecv down seq body))
    (up : (s.link down).up = true) (he : (s.link down).expected = seq % 256) (hP : P ((body (s.taken down)).ackFrame down)) : leads i s P :=
  ⟨_, run.trans (congrArg Host.Outcome.next (State.relayRecv_expected up he)), hP⟩

theorem State.ackFrame_within' : Within [.out] (s.ackFrame down) s := State.emit_within (by decide)

/-- A relayed device's report, recorded in the chain table (R595). -/
theorem leads_report {pos kind result imageId slot fw : ℕ} {d' : ChainDev} (up : s.por.dnL.up = true) (he : s.por.dnL.expected = seq % 256)
    (none : s.por.sess = none)
    (hd : d' = match kind with
      | 0 => { tabGet (fun _ => ChainDev.reset) s.por.chain pos with store := if result = Ms.success then 1 else if result = Ms.busy then 3 else 2 }
      | 1 => { tabGet (fun _ => ChainDev.reset) s.por.chain pos with slot := slot, lastBoot := decide (result ≠ 0), ver := fw }
      | 2 => { tabGet (fun _ => ChainDev.reset) s.por.chain pos with sched := if result = Ms.success then 1 else 2 }
      | _ => { tabGet (fun _ => ChainDev.reset) s.por.chain pos with present := true, slot := slot, ver := fw }) :
    leads (.relayReport seq pos kind result imageId slot fw) s fun t => tabGet (fun _ => ChainDev.reset) t.por.chain pos = d' ∧
      (∀ k, k ≠ pos → tabGet (fun _ => ChainDev.reset) t.por.chain k = tabGet (fun _ => ChainDev.reset) s.por.chain k) ∧
      (kind = 0 → result ≠ Ms.success → t.fld F.UPD_EVENTS_STORE_FAIL 0 = 1) ∧
      (kind = 2 → result ≠ Ms.success → t.fld F.UPD_EVENTS_SCHED_REJECTED 0 = 1) ∧ keepsBut updParts s t := by
  let v := s.taken true
  let a : State := { v with por := { v.por with chain := tabSet (fun _ => ChainDev.reset) v.por.chain pos d' } }
  let b := if kind = 0 ∧ result ≠ Ms.success then a.event F.UPD_EVENTS_STORE_FAIL 0 pos else a
  let c := if kind = 2 ∧ result ≠ Ms.success then b.event F.UPD_EVENTS_SCHED_REJECTED 0 pos else b
  let e := c.relaySend false 0x20 [pos, kind, result, imageId, slot, fw]
  have hb : Within (.reg .UPD_EVENTS :: eventParts) b a := .ite (State.event_within (by decide) (by decide)) .rfl
  have hc : Within (.reg .UPD_EVENTS :: eventParts) c b := .ite (State.event_within (by decide) (by decide)) .rfl
  have he' : Within [.out, .por] e c := State.relaySend_within (by decide)
  have same : sameRelay c e := State.relaySend_sameRelay
  have por : c.por = a.por := (hc.keeps .por (by decide)).trans (hb.keeps .por (by decide))
  have chain : e.por.chain = tabSet (fun _ => ChainDev.reset) s.por.chain pos d' := by
    obtain ⟨x, y, h, -, -⟩ := same
    rw [h, por]
    rfl
  have sess : e.por.sess = Option.none := by rw [same.sess, por]; exact none
  have hs : Within updParts e s := (he'.mono (by decide)).trans ((hc.mono (by decide)).trans ((hb.mono (by decide)).trans
    (.trans (t := v) (.step (by decide) (.por v _) .rfl) (State.taken_within.mono (by decide)))))
  refine ⟨e.ackFrame true, (congrArg Host.Outcome.next (State.relayRecv_expected (s := s) (down := true) up he)).trans ?_, ?_, fun k hk => ?_, fun h0 bad => ?_,
    fun h2 bad => ?_, Within.keeps ((State.ackFrame_within'.mono (by decide)).trans hs)⟩
  · refine congrArg (fun w : State => Host.Outcome.next (w.ackFrame true)) ?_
    refine Eq.trans ?_ (show (match e.por.sess with
      | some u => if u.forwarded && !u.remote && e.chainReported then e.finishUpd else e
      | Option.none => e) = e by rw [sess])
    simp only [e, c, b, a, hd]
    rfl
  · show tabGet _ e.por.chain pos = _
    rw [chain, tabGet_set_self]
  · show tabGet _ e.por.chain k = _
    rw [chain, tabGet_set_ne _ _ _ hk]
  · rw [State.ackFrame_within'.fld (by decide), he'.fld (by decide)]
    have hcb : c = b := if_neg fun k => by omega
    rw [hcb, show b = _ from if_pos ⟨h0, bad⟩]
    exact State.fld_event (by decide) rfl (by decide)
  · rw [State.ackFrame_within'.fld (by decide), he'.fld (by decide), show c = _ from if_pos ⟨h2, bad⟩]
    exact State.fld_event (by decide) rfl (by decide)

end

/-- Settles O46: each chunk by the session it finds, each session's end by what was stored. -/
theorem updateSessionsStoreImages : Obligations.UpdateSessionsStoreImages := by
  unfold Obligations.UpdateSessionsStoreImages
  dsimp only
  refine fun s q => ⟨fun hq hslot hroute hz hlen => ⟨fun busy => leads_answer hq rfl ?_, fun free active => leads_answer hq rfl ?_, fun free idle => ?_⟩,
    fun hq => ⟨fun none => leads_answer hq rfl ?_, fun u hu hi => ⟨fun crc => leads_answer hq rfl ?_, fun crc => ⟨fun order => leads_answer hq rfl ?_,
      fun order room => ?_, fun order full => ?_⟩⟩⟩,
    fun hq u hu => ⟨fun early => leads_answer hq rfl ?_, fun all waits => ?_, fun all stored route => ?_⟩,
    fun u i d rest hu hd route => ⟨fun held ending idle len => ?_, fun w held drop => ?_, fun held own quiet => ?_⟩,
    fun u hu early => ?_, fun u hu fwd own late => ?_, fun hq => leads_answer hq rfl rfl,
    fun seq up he => ⟨fun slot len imageId => ⟨fun busy => ?_, fun free hslot idle hlen => ?_⟩, fun u hu held => ⟨fun data hn hdl => ?_,
      fun index crc data bad => ?_, fun early => ?_, fun all waits => ?_, fun all stored route => ?_⟩⟩,
    fun seq pos result imageId slot fw up he none => ⟨leads_report up he none rfl, leads_report up he none rfl, leads_report up he none rfl,
      leads_report up he none rfl⟩⟩
  · dsimp only
    rw [if_neg (by simp [hlen, hz]; simp at hslot hroute; omega), if_pos (Option.isSome_iff_ne_none.2 busy)]
    rfl
  · dsimp only
    rw [if_neg (by simp [hlen, hz]; simp at hslot hroute; omega), if_neg (by simp [free]), if_pos active]
    rfl
  · let x : UpdSess := ⟨q.path, false, q.payload.getD 0 0, q.payload.getD 1 0, le q.payload 4 4, le q.payload 8 4, 0, [], false, none, false, none, false, 0⟩
    obtain ⟨hw, sess, mine, other, -⟩ := State.openUpd_spec (s := s) (x := x)
    obtain ⟨t, eq, ans, por, keep⟩ := leads_respond (i := .updBegin q) (M := [.out, .por]) (u := s.openUpd x) (st := Ms.success) (a := false) (l := [])
      (P := fun t => t.por = (s.openUpd x).por ∧ keepsBut (.por :: mbxParts) s t) hq rfl
      (by
        dsimp only
        rw [if_neg (by simp [hlen, hz]; simp at hslot hroute; omega), if_neg (by simp [free]), if_neg (by rw [idle]; decide)])
      hw (by decide) fun t ht => ⟨ht.keeps .por (by decide), Within.keeps (.trans (ht.mono (by decide)) (hw.mono (by decide)))⟩
    have slots : ∀ k, t.bootSlot k = (s.openUpd x).bootSlot k := fun k => congrArg (fun p : Por => tabGet (fun _ => BootSlot.reset) p.slots k) por
    exact ⟨t, eq, by rw [por, sess], fun h => by rw [slots, por]; exact mine h, fun k hk => (slots k).trans (other k hk), ans, keep⟩
  · dsimp only
    rw [none]
    rfl
  · dsimp only
    rw [hu]
    dsimp only
    rw [if_neg (by omega), if_pos crc]
    rfl
  · dsimp only
    rw [hu]
    dsimp only
    rw [if_neg (by omega), if_neg (not_not.2 crc), if_pos order]
    rfl
  · have hw : Within [.por] (s.setSess (some (u.accept (q.payload.drop 8)))) s := State.setSess_within (by decide)
    obtain ⟨t, eq, ans, sess, keep⟩ := leads_respond (i := .updChunk q) (M := [.por]) (u := s.setSess (some (u.accept (q.payload.drop 8)))) (st := Ms.success) (a := false) (l := [])
      (P := fun t => t.por.sess = some (u.accept (q.payload.drop 8)) ∧ keepsBut (.por :: mbxParts) s t) hq rfl
      (by
        dsimp only
        rw [hu]
        dsimp only
        rw [if_neg (by omega), if_neg (not_not.2 crc), if_neg (not_not.2 order), if_neg (by omega)])
      hw (by decide) fun t ht => ⟨congrArg Por.sess (ht.keeps .por (by decide)), Within.keeps (.trans (ht.mono (by decide)) (hw.mono (by decide)))⟩
    exact ⟨t, eq, sess, ans, keep⟩
  · refine ⟨s.setSess (some { u with held := some q }), congrArg Host.Outcome.next (hq.serve_eq.trans ?_), rfl, (State.setSess_within (by decide)).keeps⟩
    dsimp only
    rw [hu]
    dsimp only
    rw [if_neg (by omega), if_neg (not_not.2 crc), if_neg (not_not.2 order), if_pos full]
  · dsimp only
    rw [hu]
    dsimp only
    rw [if_pos early]
    rfl
  · obtain ⟨sess, -, -⟩ := State.sessOf_some hu
    obtain ⟨t, eq, ans, hs, keep⟩ := leads_long (i := .updEnd q) (u := s) (v := s.endAccepted q u) (rest := []) (M := []) (K := [.por])
      (P := fun t => t.por.sess = some { u with ending := true, handle := some (s.handle 0x0603) } ∧ keepsBut (([.nextHandle, .por] : List Part) ++ mbxParts) s t)
      hq rfl ((updEnd_body hu all).trans (if_neg (by simpa using waits))) .rfl (by decide) (by decide) (State.setSess_within (by decide))
      ⟨rfl, (State.endAccepted_within.mono (by decide)).keeps⟩
    rw [List.append_nil] at ans
    exact ⟨t, eq, hs, ans, keep⟩
  · obtain ⟨sess, own, -⟩ := State.sessOf_some hu
    let x : UpdSess := { u with ending := true, handle := some (s.handle 0x0603) }
    obtain ⟨v, r, d, hv, none, slot, done, fail, fin⟩ := State.endLocal_own (s := s.endAccepted q u) (x := x) rfl route own
    have image : (s.endAccepted q u).imageOk x = s.imageOk u :=
      State.imageOk_congr (fun a => (State.storeByte_congr rfl rfl : (s.endAccepted q u).storeByte a = (s.startLong q 0x0603 []).2.storeByte a).trans
        ((State.startLong_within (L := .nextHandle :: mbxParts) (by decide)).storeByte (by decide))) ⟨rfl, rfl, rfl⟩
    rw [image] at slot fail
    have hd : Within opDoneParts (v.opDone (some (s.handle 0x0603)) r d) v := State.opDone_within_op fun _ h => h
    have known : tabGet (fun _ => Option.none) v.ops (s.handle 0x0603) = some ⟨q.path, false, 0, 0, []⟩ := by
      rw [show v.ops = (s.endAccepted q u).ops from hv.keeps .ops (by decide)]
      exact State.startLong_ops
    have por : (v.opDone (some (s.handle 0x0603)) r d).por = v.por := hd.keeps .por (by decide)
    obtain ⟨t, eq, ans, hs⟩ := leads_long (i := .updEnd q) (u := s) (v := v.opDone (some (s.handle 0x0603)) r d) (rest := []) (M := [])
      (K := .ops :: .mbx :: .reg .MBX_EVENTS :: updParts)
      (P := fun t => t = v.opDone (some (s.handle 0x0603)) r d) hq rfl ((updEnd_body hu all).trans ((if_pos (by simp [stored])).trans fin)) .rfl
      (by decide) (by decide) ((hd.mono (by decide)).trans ((hv.mono (by decide)).trans (State.setSess_within (by decide)))) rfl
    rw [List.append_nil] at ans
    refine ⟨t, eq, ?_⟩
    rw [hs] at ans ⊢
    refine ⟨by rw [por]; exact none, ?_, (hd.fld (by decide)).trans done, fun h => (hd.fld (by decide)).trans (fail h), State.opDone_done known, ans,
      Within.keeps ((hd.mono (by decide)).trans ((hv.mono (by decide)).trans (State.endAccepted_within.mono (by decide))))⟩
    rw [State.bootSlot, por]
    exact slot
  · have al : (slotBase u.slot + 4096 * i) % 4096 = 0 := by
      unfold slotBase
      omega
    refine ⟨(s.chunkPut (slotBase u.slot + 4096 * i) d).setSess (some { u with queue := rest }), chunkStored_free hu hd route held ending,
      rfl, fun k hk => ?_, fun y hy => State.storeByte_setSess.trans (State.storeByte_chunkPut_ne idle al len hy),
      Within.keeps ((State.setSess_within (by decide)).trans State.chunkPut_within)⟩
    refine State.storeByte_setSess.trans ((State.storeByte_chunkPut idle al len ⟨by omega, by omega⟩).trans ?_)
    rw [Nat.add_sub_cancel_left]
  · let v := (s.chunkPut (slotBase u.slot + 4096 * i) d).setSess (some ({ u with queue := rest, held := none }.accept (w.payload.drop 8)))
    have hv : Within chunkParts v s := (State.setSess_within (by decide)).trans State.chunkPut_within
    have hr : Within respParts (v.respond w 0x0602 Ms.success false []) v := State.respond_within_resp fun _ h => h
    have hm : v.mb w.path = s.mb w.path := hv.mb (by decide)
    have ans := State.respond_sent (s := v) (q := w) (op := 0x0602) (st := Ms.success) (a := false) (l := []) (by rw [hm, drop])
    refine ⟨v.respond w 0x0602 Ms.success false [], chunkStored_held hu hd route held, congrArg Por.sess (hr.keeps .por (by decide)), ?_,
      Within.keeps ((hr.mono (by decide)).trans (hv.mono (by decide)))⟩
    unfold answers at ans ⊢
    rw [hm] at ans
    exact ans.mono hv.out_suffix (List.suffix_refl _)
  · obtain ⟨hw, none, slot, fail⟩ := State.failUpd_spec (st := Ms.storeFail) hu held fun _ => quiet
    refine ⟨s.failUpd u Ms.storeFail, ?_, none, slot (by rw [route]), fail, hw.keeps⟩
    show execChunkStored false s = _
    rw [execChunkStored, hu]
    dsimp only
    rw [hd]
    exact if_pos ⟨by rw [route], rfl⟩
  · show execUpdEndChainTimeout s = _
    rw [execUpdEndChainTimeout, hu]
    exact congrArg Host.Outcome.next (if_neg (by simp; omega))
  · obtain ⟨v, r, d, hv, por, done, -, fin⟩ := State.finishUpd_spec hu
    have hd : Within opDoneParts (v.opDone u.handle r d) v := State.opDone_within_op fun _ h => h
    refine ⟨v.opDone u.handle r d, ?_, by rw [show (v.opDone u.handle r d).por = v.por from hd.keeps .por (by decide), por], (hd.fld (by decide)).trans done,
      Within.keeps ((hd.mono (by decide)).trans (hv.mono (by decide)))⟩
    show execUpdEndChainTimeout s = _
    rw [execUpdEndChainTimeout, hu]
    exact congrArg Host.Outcome.next ((if_pos (by simp [fwd, own, late])).trans fin)
  · have hr : Within [.out, .por] ((s.taken false).report 0 Ms.busy imageId slot 0) s := (State.report_within (by decide)).trans (State.taken_within.mono (by decide))
    have same : sameRelay (s.taken false) ((s.taken false).report 0 Ms.busy imageId slot 0) := State.relaySend_sameRelay
    refine leads_relay (down := false) rfl up he ?_
    rw [if_pos (.inl (Option.isSome_iff_ne_none.2 busy))]
    refine ⟨same.sess, same.expected.trans ?_, State.ackFrame_head, Within.keeps ((State.ackFrame_within'.mono (by decide)).trans hr)⟩
    show (s.por.upL.expected + 1) % 256 = _
    rw [he]
  · let x : UpdSess := ⟨0x1000, true, slot, if s.dnOn then 3 else 1, len, imageId, 0, [], false, none, false, none, false, 0⟩
    obtain ⟨hw, sess, mine, -, -⟩ := State.openUpd_spec (s := s.taken false) (x := x)
    have odd : x.route % 2 = 1 := by
      show (if s.dnOn then 3 else 1) % 2 = 1
      split <;> rfl
    refine leads_relay (down := false) rfl up he ?_
    have ok : ¬((s.taken false).por.sess.isSome = true ∨ 3 ≤ slot ∨ (s.taken false).slotActive slot = true ∨ lenOk len = false) := by
      rintro (h | h | h | h)
      · exact absurd h (by rw [show (s.taken false).por.sess = s.por.sess from rfl, free]; decide)
      · omega
      · exact absurd (idle.symm.trans h) (by decide)
      · exact absurd (hlen.symm.trans h) (by decide)
    rw [if_neg ok]
    exact ⟨sess, (mine odd).1, State.ackFrame_head,
      Within.keeps ((State.ackFrame_within'.mono (by decide)).trans (hw.trans (State.taken_within.mono (by decide))))⟩
  · refine leads_relay (down := false) rfl up he ?_
    rw [show (s.taken false).remoteSess = some u from hu]
    dsimp only
    rw [if_neg (not_not.2 rfl), if_neg (by omega)]
    exact ⟨rfl, State.ackFrame_head, Within.keeps ((State.ackFrame_within'.mono (by decide)).trans
      (.trans (t := s.taken false) (State.setSess_within (by decide)) (State.taken_within.mono (by decide))))⟩
  · obtain ⟨sess, far⟩ := State.remoteSess_some hu
    obtain ⟨hw, none, slot, fail⟩ := State.failUpd_spec (s := s.taken false) (st := Ms.chunkCrc) sess held (fun own => absurd (own.symm.trans far) (by decide))
    refine leads_relay (down := false) rfl up he ?_
    rw [show (s.taken false).remoteSess = some u from hu]
    dsimp only
    rw [if_pos bad]
    exact ⟨none, slot, (State.ackFrame_within'.fld (by decide)).trans fail, State.ackFrame_head,
      Within.keeps ((State.ackFrame_within'.mono (by decide)).trans (hw.trans (State.taken_within.mono (by decide))))⟩
  · obtain ⟨sess, far⟩ := State.remoteSess_some hu
    obtain ⟨hw, none, slot, fail⟩ := State.failUpd_spec (s := s.taken false) (st := Ms.chunkOrder) sess held (fun own => absurd (own.symm.trans far) (by decide))
    refine leads_relay (down := false) rfl up he ?_
    rw [show (s.taken false).remoteSess = some u from hu]
    dsimp only
    rw [if_pos early]
    exact ⟨none, (State.ackFrame_within'.fld (by decide)).trans fail,
      Within.keeps ((State.ackFrame_within'.mono (by decide)).trans (hw.trans (State.taken_within.mono (by decide))))⟩
  · refine leads_relay (down := false) rfl up he ?_
    rw [show (s.taken false).remoteSess = some u from hu]
    dsimp only
    rw [if_neg (by omega), if_neg (by simpa using waits)]
    exact ⟨rfl, State.ackFrame_head, Within.keeps ((State.ackFrame_within'.mono (by decide)).trans
      (.trans (t := s.taken false) (State.setSess_within (by decide)) (State.taken_within.mono (by decide))))⟩
  · obtain ⟨sess, far⟩ := State.remoteSess_some hu
    let v := (s.taken false).setSess (some { u with ending := true })
    have hv : Within [.por] v s := .trans (t := s.taken false) (State.setSess_within (by decide)) State.taken_within
    have image : v.imageOk { u with ending := true } = s.imageOk u :=
      State.imageOk_congr (fun a => State.storeByte_congr rfl rfl) ⟨rfl, rfl, rfl⟩
    obtain ⟨hw, none, slot, bit⟩ := State.endLocal_remote (s := v) (x := { u with ending := true }) rfl route far
    rw [image] at slot bit
    refine leads_relay (down := false) rfl up he ?_
    rw [show (s.taken false).remoteSess = some u from hu]
    dsimp only
    rw [if_neg (by omega), if_pos (by simp [stored])]
    refine ⟨none, slot, State.ackFrame_head, Eq.trans ?_ bit, Within.keeps ((State.ackFrame_within'.mono (by decide)).trans (hw.trans (hv.mono (by decide))))⟩
    cases s.imageOk u <;> exact State.ackFrame_within'.fld (by decide)

end Sys2Proof.Machine
end

section
/-! Keys and the rekey sweep (O40). -/

namespace Sys2Proof.Machine

section
variable {s t u : State} {L : List Part} {q : MbxReq}

theorem State.kslot_congr (h : t.cip.slot = s.cip.slot) (i : ℕ) : t.kslot i = s.kslot i := by rw [State.kslot, State.kslot, h]

theorem Within.kslot (h : Within L t s) (hc : .cip ∉ L) (i : ℕ) : t.kslot i = s.kslot i :=
  State.kslot_congr (congrArg Cip.slot (h.keeps .cip hc : t.cip = s.cip)) i

/-- What is staged of a namespace depends on the map alone. -/
theorem State.stagedSlots_congr (h : t.atl = s.atl) (x : Ns) : t.stagedSlots x = s.stagedSlots x := by
  have iu : t.iuOfLba x = s.iuOfLba x := by
    funext lba
    unfold State.iuOfLba State.lbasPerIu State.poolOf
    rw [h]
  unfold State.stagedSlots State.stagedOf
  rw [iu, h]

/-! What the move of one IU of a rekeyed namespace leaves -/

/-- A job in a lane's queue changes no key slot. -/
theorem State.queueJob_slot : s.queueJob.cip.slot = s.cip.slot := by
  unfold State.queueJob
  cases s.firstLane <;> rfl

theorem State.reseal_slot {key old new : ℕ} {rekey : Bool} : (s.reseal key old new rekey).cip.slot = s.cip.slot := by
  have two : s.queueJob.queueJob.cip.slot = s.cip.slot := State.queueJob_slot.trans State.queueJob_slot
  unfold State.reseal
  cases s.nsOfIu key with
  | none => rfl
  | some n =>
    dsimp only
    split
    · exact two
    · split
      · exact two
      · rfl

/-- The engines, the directory and the entries of the map stand as they did. -/
structure sameAtlas (s t : State) : Prop where
  dir : t.dirView = s.dirView
  ents : sameEnts s t

theorem sameAtlas.refl : sameAtlas s s := ⟨rfl, .of_eq rfl⟩
theorem sameAtlas.trans (h : sameAtlas s t) (k : sameAtlas t u) : sameAtlas s u := ⟨k.dir.trans h.dir, h.ents.trans k.ents⟩

theorem sameAtlas.of_within (h : Within L t s) (ha : .atl ∉ L) (hn : .now ∉ L) (hf : .flt ∉ L) : sameAtlas s t := by
  refine ⟨?_, .of_within h ha⟩
  unfold State.dirView
  rw [show t.now = s.now from h.keeps .now hn, show t.flt = s.flt from h.keeps .flt hf, show t.atl = s.atl from h.keeps .atl ha]

theorem State.moveBand_sameAtlas {b : ℕ} {x : Band} : sameAtlas s (s.moveBand b x) := ⟨rfl, State.moveBand_ents⟩

theorem State.queueRefresh_sameAtlas {b r : ℕ} {front : Bool} : sameAtlas s (s.queueRefresh b r front) := by
  unfold State.queueRefresh
  extract_lets x v w
  have moved : sameAtlas s v := State.moveBand_sameAtlas
  split
  · exact .refl
  · split
    · split
      · exact moved.trans ⟨rfl, .of_eq rfl⟩
      · exact .refl
    · exact moved.trans ⟨rfl, .of_eq rfl⟩

/-- A count of reads moves at most its band (R172). -/
theorem State.countReads_sameAtlas {b sh n : ℕ} : sameAtlas s (s.countReads b sh n) := by
  unfold State.countReads
  extract_lets x c c' v lim
  have counted : sameAtlas s v := .of_within (L := [.svy]) (State.setBand_within (by decide)) (by decide) (by decide) (by decide)
  have event : sameAtlas v (v.event F.SVY_MEDIA_EVENTS_READ_REFRESH 0 b) :=
    .of_within (L := .reg .SVY_MEDIA_EVENTS :: eventParts) (State.event_within (by decide) (by decide)) (by decide) (by decide) (by decide)
  split
  · exact .refl
  · split
    · exact counted.trans (event.trans State.queueRefresh_sameAtlas)
    · exact counted

theorem sameAtlas.ready (h : sameAtlas s t) (hr : ∀ i, t.rg .ATL_STEER i = s.rg .ATL_STEER i) {l : List ℕ} (hs : (s.readySegs l).isSome = true) :
    (t.readySegs l).isSome = true := (State.readySegs_isSome_congr h.dir hr).trans hs

/-- A relocation whose segment an engine can hold swaps the entry that still names the old place, and no other (R126). -/
theorem State.relocate_ready {key old new : ℕ} (hs : (s.readySegs [segOfIu key]).isSome = true) :
    (s.lookup key = mappedAt old → (s.relocate key old new).lookup key = mappedAt new) ∧
    (s.lookup key ≠ mappedAt old → (s.relocate key old new).lookup key = s.lookup key) := by
  obtain ⟨t, ht⟩ := Option.isSome_iff_exists.mp hs
  have same := State.readySegs_sameMap ht
  have eq : s.relocate key old new = t.relocateEnt key old new (s.dataEpoch new) := by
    unfold State.relocate
    rw [ht]
  rw [eq]
  refine ⟨fun hl => ?_, fun hl => ?_⟩
  · have hit : t.relocateEnt key old new (s.dataEpoch new) = t.mapTo key new (s.dataEpoch new) := if_pos (same.ents.lookup.trans hl)
    have sw : swapped s (t.mapTo key new (s.dataEpoch new)) key (mappedAt new) := .of_ents same.ents State.mapTo_swapped
    rw [hit]
    exact (sw.lookup key).trans (if_pos rfl)
  · have miss : t.relocateEnt key old new (s.dataEpoch new) = t.casFail := if_neg (by rw [same.ents.lookup]; exact hl)
    have ents : sameEnts t t.casFail := .of_within (L := [.reg .ATL_CAS_FAIL]) (State.casFail_within (by decide)) (by decide)
    rw [miss, ents.lookup, same.ents.lookup]

/-- One move of the sweep: the old place read, its data sealed again, the entry relocated (R473). -/
def State.rekeyMove (s : State) (key old new : ℕ) : State :=
  ((s.countReads (s.bandOfAddr (old % 2 ^ 36)) (dieSheet (old % 2 ^ 36 / 2 ^ 25)) 1).reseal key old new true).relocate key old new

/-- What one move of the sweep may change. -/
def rekeyMoveParts : List Part :=
  ([.atl, .cip, .out, .plt, .pwr, .svy, .reg .ATL_CAS_FAIL, .reg .ATL_JRNL_WM, .reg .SVY_MEDIA_EVENTS] : List Part) ++ eventParts

theorem State.rekeyMove_within {key old new : ℕ} : Within rekeyMoveParts (s.rekeyMove key old new) s :=
  (State.relocate_within (by decide)).trans ((State.reseal_within (by decide)).trans (State.countReads_within (by decide)))

theorem State.rekeyMove_slot {key old new : ℕ} : (s.rekeyMove key old new).cip.slot = s.cip.slot := by
  let u := s.countReads (s.bandOfAddr (old % 2 ^ 36)) (dieSheet (old % 2 ^ 36 / 2 ^ 25)) 1
  have hu : Within countReadsParts u s := State.countReads_within fun _ h => h
  have hr : Within programDoneParts ((u.reseal key old new true).relocate key old new) (u.reseal key old new true) := State.relocate_within fun _ h => h
  calc (s.rekeyMove key old new).cip.slot = (u.reseal key old new true).cip.slot := congrArg Cip.slot (hr.keeps .cip (by decide))
    _ = u.cip.slot := State.reseal_slot
    _ = s.cip.slot := congrArg Cip.slot (hu.keeps .cip (by decide))

theorem State.rekeyMove_lookup {key old new : ℕ} (hs : (s.readySegs [segOfIu key]).isSome = true) :
    (s.lookup key = mappedAt old → (s.rekeyMove key old new).lookup key = mappedAt new) ∧
    (s.lookup key ≠ mappedAt old → (s.rekeyMove key old new).lookup key = s.lookup key) := by
  let u := s.countReads (s.bandOfAddr (old % 2 ^ 36)) (dieSheet (old % 2 ^ 36 / 2 ^ 25)) 1
  have hv : Within [.out, .cip] (u.reseal key old new true) u := State.reseal_within (by decide)
  have same : sameAtlas s (u.reseal key old new true) :=
    State.countReads_sameAtlas.trans (.of_within hv (by decide) (by decide) (by decide))
  have steer : ∀ i, (u.reseal key old new true).rg .ATL_STEER i = s.rg .ATL_STEER i := fun i =>
    ((hv.keeps (.reg .ATL_STEER) (by decide) i).trans ((State.countReads_within (L := countReadsParts) fun _ h => h).keeps (.reg .ATL_STEER) (by decide) i))
  obtain ⟨hit, miss⟩ := State.relocate_ready (old := old) (new := new) (same.ready steer hs)
  rw [same.ents.lookup] at hit miss
  exact ⟨hit, miss⟩

/-- The moves of a sweep's step, one after the other. -/
def State.sweepMoves (s : State) (x : Ns) (l : List (ℕ × ℕ × ℕ)) : State :=
  l.foldl (fun (s : State) m => s.rekeyMove (iuKey x.pool (x.base + m.1)) m.2.1 m.2.2) s

/-- A step of the sweep that waits for nothing: its moves, its cursor, its progress (R473). -/
def State.sweepEnd (s : State) (x : Ns) (slot stop : ℕ) (l : List (ℕ × ℕ × ℕ)) : State :=
  let u := (s.sweepMoves x l).setKslot slot { s.kslot slot with cursor := stop, waits := [] }
  u.opProgress (s.kslot slot).handle (stop * 1000 / max 1 (u.iuCount x)) (bytesLe 4 (u.iuCount x - stop))

theorem State.sweepMoves_slot {x : Ns} (l : List (ℕ × ℕ × ℕ)) : ∀ s : State, (s.sweepMoves x l).cip.slot = s.cip.slot := by
  induction l with
  | nil => exact fun _ => rfl
  | cons m l ih => exact fun s => (ih _).trans State.rekeyMove_slot

theorem State.sweepEnd_within {x : Ns} {slot stop : ℕ} {l : List (ℕ × ℕ × ℕ)} : Within [.cip, .ops] (s.sweepEnd x slot stop l) (s.sweepMoves x l) :=
  (State.opProgress_within (by decide)).trans (State.setKslot_within (by decide))

/-- The slot swept has its cursor moved and waits for nothing; no other slot changes. -/
theorem State.sweepEnd_kslot {x : Ns} {slot stop : ℕ} {l : List (ℕ × ℕ × ℕ)} :
    (s.sweepEnd x slot stop l).kslot slot = { s.kslot slot with cursor := stop, waits := [] } ∧
    ∀ i, i ≠ slot → (s.sweepEnd x slot stop l).kslot i = s.kslot i := by
  let u := (s.sweepMoves x l).setKslot slot { s.kslot slot with cursor := stop, waits := [] }
  have keep : ∀ i, (s.sweepEnd x slot stop l).kslot i = u.kslot i :=
    Within.kslot (L := [.ops]) (State.opProgress_within (by decide)) (by decide)
  exact ⟨(keep slot).trans State.kslot_setKslot,
    fun i hi => (keep i).trans ((State.kslot_setKslot_ne hi).trans (State.kslot_congr (State.sweepMoves_slot l s) i))⟩

/-! The owners of a range of slots -/

/-- SLOT_ASSIGN's step on one slot (R417). -/
def State.assignSlot (s : State) (f n : ℕ) : State := if (s.kslot n).nsid = 0 then s.setKslot n { s.kslot n with owner := f } else s

theorem State.assignSlot_self {f n : ℕ} : (s.assignSlot f n).kslot n = if (s.kslot n).nsid = 0 then { s.kslot n with owner := f } else s.kslot n := by
  unfold State.assignSlot
  split
  · exact State.kslot_setKslot
  · rfl

theorem State.assignSlot_other {f n i : ℕ} (h : i ≠ n) : (s.assignSlot f n).kslot i = s.kslot i := by
  unfold State.assignSlot
  split
  · exact State.kslot_setKslot_ne h
  · rfl

/-- The slots of a range that are bound to nothing have the new owner. -/
theorem State.assignSlots_kslot {f : ℕ} (c : ℕ) : ∀ (s : State) (first i : ℕ),
    ((List.range' first c).foldl (fun s n => s.assignSlot f n) s).kslot i =
      if first ≤ i ∧ i < first + c ∧ (s.kslot i).nsid = 0 then { s.kslot i with owner := f } else s.kslot i := by
  induction c with
  | zero => exact fun s first i => (if_neg (by omega)).symm
  | succ c ih =>
    intro s first i
    rw [List.range'_succ, List.foldl_cons, ih]
    by_cases hi : i = first
    · subst hi
      rw [if_neg (by omega), State.assignSlot_self]
      exact if_congr (by omega) rfl rfl
    · rw [State.assignSlot_other hi]
      exact if_congr (by omega) rfl rfl

end

/-- Settles O40: each key request by what its slot holds, the sweep by what it still waits for. -/
theorem keysAreImportedErasedAndSwept : Obligations.KeysAreImportedErasedAndSwept := by
  unfold Obligations.KeysAreImportedErasedAndSwept
  intro s q n k len others
  refine ⟨fun hq hn hk hl h3 h6 hlen hm hkn => ⟨fun bound => ?_, fun free => ?_⟩, fun hq hn hm => ⟨fun bound => ?_, fun free => ?_⟩, fun hq hn hm => ?_,
    fun hq hc hr => ?_, fun hq hn hm => ?_, fun hq hlen h6 x hx hc hm hkn => ⟨fun plain => ?_, fun xts hl => ⟨fun act => ?_, fun idle => ?_⟩⟩,
    fun slot count x hx hs => ⟨fun wait moves => ?_, fun drained => ?_, fun passed => ?_⟩⟩
  · refine leads_answer hq rfl ?_
    dsimp only
    rw [if_neg (by omega), if_neg (by omega), if_neg (by rw [hm]; decide), if_neg (by rw [hkn]; decide), if_pos bound]
    rfl
  · cases hu : Config.unwrap ((q.payload.drop 8).take len) with
    | none =>
      refine leads_answer hq rfl ?_
      dsimp only
      rw [if_neg (by omega), if_neg (by omega), if_neg (by rw [hm]; decide), if_neg (by rw [hkn]; decide), if_neg (not_not_intro free), hu]
      rfl
    | some key =>
      let y : KSlot := { k with cur := some ⟨q.payload.getD 2 0, (k.lastGen + 1) % 65536, key⟩, shadow := none, lastGen := (k.lastGen + 1) % 65536 }
      let u := s.setKslot n y
      have hw : Within [.cip] u s := State.setKslot_within (by decide)
      obtain ⟨t, eq, ans, hk, keep⟩ := leads_respond (P := fun t => (∀ i, t.kslot i = u.kslot i) ∧ keepsBut (.cip :: mbxParts) s t)
        (i := .keyImport q) hq rfl (u := u) (by
          dsimp only
          rw [if_neg (by omega), if_neg (by omega), if_neg (by rw [hm]; decide), if_neg (by rw [hkn]; decide), if_neg (not_not_intro free), hu]
          rfl) hw (by decide) fun t ht => ⟨ht.kslot (by decide), Within.keeps (.trans (ht.mono (by decide)) (hw.mono (by decide)))⟩
      exact ⟨t, eq, (hk n).trans State.kslot_setKslot, fun i hi => (hk i).trans (State.kslot_setKslot_ne hi), ans, keep⟩
  · refine leads_answer hq rfl ?_
    dsimp only
    rw [if_neg (by omega), if_neg (by rw [hm]; decide), if_pos bound]
    rfl
  · let u := s.setKslot n { k with cur := none, shadow := none }
    have hu : Within [.cip] u s := State.setKslot_within (by decide)
    obtain ⟨t, eq, ans, hk, keep⟩ := leads_respond (P := fun t => (∀ i, t.kslot i = u.kslot i) ∧ keepsBut (.cip :: mbxParts) s t)
      (i := .keyErase q) hq rfl (u := u) (by
        dsimp only
        rw [if_neg (by omega), if_neg (by rw [hm]; decide), if_neg (by rw [free]; decide)]) hu (by decide) fun t ht =>
        ⟨ht.kslot (by decide), Within.keeps (.trans (ht.mono (by decide)) (hu.mono (by decide)))⟩
    refine ⟨t, eq, ?_, ?_, ?_, fun i hi => (hk i).trans (State.kslot_setKslot_ne hi), ans, keep⟩ <;> rw [hk n, State.kslot_setKslot]
  · refine leads_answer hq rfl ?_
    dsimp only
    rw [if_neg (by omega), if_pos (by rw [hm]; rfl)]
    rfl
  · let u := (List.range' n (le q.payload 2 2)).foldl (fun s i => s.assignSlot (q.payload.getD 4 0) i) s
    have hu : Within [.cip] u s := Within.foldl fun _ _ => .ite (State.setKslot_within (by decide)) .rfl
    obtain ⟨t, eq, ans, hk, keep⟩ := leads_respond (P := fun t => (∀ i, t.kslot i = u.kslot i) ∧ keepsBut (.cip :: mbxParts) s t)
      (i := .slotAssign q) hq rfl (u := u) (if_neg (by omega)) hu (by decide) fun t ht =>
        ⟨ht.kslot (by decide), Within.keeps (.trans (ht.mono (by decide)) (hu.mono (by decide)))⟩
    exact ⟨t, eq, fun i => (hk i).trans (State.assignSlots_kslot _ s n i), ans, keep⟩
  · refine leads_answer hq rfl ?_
    dsimp only
    rw [if_neg (by omega), if_neg (by rw [hm]; decide)]
  · refine leads_answer hq rfl ?_
    dsimp only
    rw [if_neg (by omega), if_neg (by omega), hx]
    dsimp only
    rw [hm, if_neg (by simp), if_neg (by simp [hc]), if_neg (by rw [hkn]; decide), if_pos (.inr (.inl plain))]
    rfl
  · refine leads_answer hq rfl ?_
    dsimp only
    rw [if_neg (by omega), if_neg (by omega), hx]
    dsimp only
    rw [hm, if_neg (by simp), if_neg (by simp [hc]), if_neg (by rw [hkn]; decide), if_neg (by omega), if_pos (Option.isSome_iff_ne_none.mpr act)]
    rfl
  · cases hu' : Config.unwrap ((q.payload.drop 8).take len) with
    | none =>
      refine leads_answer hq rfl ?_
      dsimp only
      rw [if_neg (by omega), if_neg (by omega), hx]
      dsimp only
      rw [hm, if_neg (by simp), if_neg (by simp [hc]), if_neg (by rw [hkn]; decide), if_neg (by omega), if_neg (by rw [idle]; decide), hu']
      rfl
    | some key =>
      let z : KSlot := { s.kslot x.slot with
        cur := some ⟨x.cipher - 1, (s.kslot x.slot).nextGen, key⟩, shadow := (s.kslot x.slot).cur, lastGen := (s.kslot x.slot).nextGen, cursor := 0,
        waits := s.toService.stagedSlots x, handle := some (s.toService.startLong q 0x0302 (bytesLe 2 (s.kslot x.slot).nextGen)).1 }
      let l := s.toService.startLong q 0x0302 (bytesLe 2 (s.kslot x.slot).nextGen)
      let w := l.2.setKslot x.slot z
      let v := (w.oweRekey x 0).opProgress (some l.1) 0 (bytesLe 4 (w.iuCount x))
      have hu : Within toServiceParts s.toService s := State.toService_within fun _ h => h
      have hl : Within (.nextHandle :: mbxParts) l.2 s.toService := State.startLong_within (by decide)
      have hv : Within [.plt, .ops] v w := (State.opProgress_within (by decide)).trans (State.oweRekey_within (by decide))
      have hw : Within [.cip] w l.2 := State.setKslot_within (by decide)
      have keep : ∀ i, v.kslot i = w.kslot i := hv.kslot (by decide)
      have staged : s.toService.stagedSlots x = s.stagedSlots x := State.stagedSlots_congr (hu.keeps .atl (by decide)) x
      have handle : l.1 = s.handle 0x0302 := by
        show s.toService.handle 0x0302 = _
        rw [State.handle, show s.toService.nextHandle = s.nextHandle from hu.keeps .nextHandle (by decide)]
        rfl
      obtain ⟨t, eq, ans, own, rest, frame⟩ := leads_long (i := .rekey q) (P := fun t => t.kslot x.slot = z ∧ others t x.slot ∧
          keepsBut ((([.cip, .dram, .nextHandle, .pwr, .reg .PWR_EVENTS] : List Part) ++ recheckParts) ++ mbxParts) s t) hq rfl (v := v) (by
        dsimp only
        rw [if_neg (by omega), if_neg (by omega), hx]
        dsimp only
        rw [hm, if_neg (by simp), if_neg (by simp [hc]), if_neg (by rw [hkn]; decide), if_neg (by omega), if_neg (by rw [idle]; decide), hu']) hu (by decide) (by decide) (K := [.cip, .plt, .ops]) ((hv.mono (by decide)).trans (hw.mono (by decide)))
        ⟨(keep _).trans State.kslot_setKslot, fun i hi => (keep i).trans ((State.kslot_setKslot_ne hi).trans ((hl.kslot (by decide) i).trans (hu.kslot (by decide) i))),
          Within.keeps ((hv.mono (by decide)).trans ((hw.mono (by decide)).trans ((hl.mono (by decide)).trans (hu.mono (by decide)))))⟩
      refine ⟨t, eq, own.trans ?_, rest, ans, frame⟩
      show z = _
      unfold z
      rw [staged, show (s.toService.startLong q 0x0302 (bytesLe 2 (s.kslot x.slot).nextGen)).1 = s.handle 0x0302 from handle]
      rfl
  · obtain ⟨a, ha, hst⟩ := wait
    refine ⟨s.setKslot slot { s.kslot slot with waits := (s.kslot slot).waits.filter fun a => (s.stagedSlots x).contains a }, ?_, ?_, ?_,
      fun i hi => State.kslot_setKslot_ne hi, (State.setKslot_within (by decide)).keeps⟩
    · have some : a ∈ (s.kslot slot).waits.filter fun a => (s.stagedSlots x).contains a := List.mem_filter.2 ⟨ha, by simpa using hst⟩
      show execRekeySweepStep slot count moves s = _
      unfold execRekeySweepStep
      dsimp only
      rw [hx]
      dsimp only
      rw [if_neg (by simp [hs]), if_pos (by rw [List.isEmpty_eq_false_iff.2 (List.ne_nil_of_mem some)]; rfl)]
    · rw [State.kslot_setKslot]
    · rw [State.kslot_setKslot]
  · intro stop
    have step : ∀ moves, exec (.rekeySweepStep slot count moves) s = .next (s.sweepEnd x slot stop
        (moves.filter fun m => decide ((s.kslot slot).cursor ≤ m.1 ∧ m.1 < stop) && s.dataIn m.2.2 1)) := fun moves => by
      have none : (s.kslot slot).waits.filter (fun a => (s.stagedSlots x).contains a) = [] :=
        List.filter_eq_nil_iff.2 fun a ha => by simpa using drained a ha
      show execRekeySweepStep slot count moves s = _
      unfold execRekeySweepStep
      dsimp only
      rw [hx]
      dsimp only
      rw [none, if_neg (by simp [hs]), if_neg (by decide)]
      rfl
    refine ⟨?_, fun i old new hi hlt hd hready => ?_⟩
    · obtain ⟨own, rest⟩ := s.sweepEnd_kslot (x := x) (slot := slot) (stop := stop) (l := [])
      exact ⟨s.sweepEnd x slot stop [], step [], by rw [own], by rw [own], by rw [own], rest, State.sweepEnd_within.keeps⟩
    · obtain ⟨own, rest⟩ := s.sweepEnd_kslot (x := x) (slot := slot) (stop := stop) (l := [(i, old, new)])
      have w : Within [.cip, .ops] (s.sweepEnd x slot stop [(i, old, new)]) (s.rekeyMove (iuKey x.pool (x.base + i)) old new) := State.sweepEnd_within
      have same : sameEnts (s.rekeyMove (iuKey x.pool (x.base + i)) old new) (s.sweepEnd x slot stop [(i, old, new)]) := .of_within w (by decide)
      obtain ⟨hit, miss⟩ := State.rekeyMove_lookup (old := old) (new := new) hready
      have all : [(i, old, new)].filter (fun m => decide ((s.kslot slot).cursor ≤ m.1 ∧ m.1 < stop) && s.dataIn m.2.2 1) = [(i, old, new)] := by
        simp [hi, hlt, hd]
      refine ⟨_, (step _).trans (by rw [all]), by rw [own], rest, fun h => same.lookup.trans (hit h), fun h => same.lookup.trans (miss h), ?_⟩
      exact Within.keeps ((w.mono (by decide)).trans (State.rekeyMove_within.mono (by decide)))
  · let u := (s.setKslot slot { s.kslot slot with shadow := none, cursor := 0, handle := none }).event F.LEG_EVENTS_REKEY_DONE 0 slot
    let t := u.opDone (s.kslot slot).handle Ms.success (bytesLe 4 0)
    have hu : Within (.reg .LEG_EVENTS :: eventParts) u (s.setKslot slot { s.kslot slot with shadow := none, cursor := 0, handle := none }) :=
      State.event_within (by decide) (by decide)
    have ht : Within opDoneParts t u := State.opDone_within_op fun _ h => h
    have keep : ∀ i, t.kslot i = (s.setKslot slot { s.kslot slot with shadow := none, cursor := 0, handle := none }).kslot i := fun i =>
      (ht.kslot (by decide) i).trans (hu.kslot (by decide) i)
    refine ⟨t, ?_, ?_, ?_, ?_, fun i hi => (keep i).trans (State.kslot_setKslot_ne hi), ?_⟩
    · show execRekeyDone slot s = _
      unfold execRekeyDone
      dsimp only
      rw [hx]
      dsimp only
      rw [if_neg (by simp [hs, passed])]
    · rw [keep, State.kslot_setKslot]
    · rw [keep, State.kslot_setKslot]
    · rw [ht.fld (by decide)]
      exact State.fld_event (by decide) rfl (by decide)
    · exact Within.keeps ((ht.mono (by decide)).trans ((hu.mono (by decide)).trans (State.setKslot_within (by decide))))

end Sys2Proof.Machine
end

section
/-! Cipher jobs (O42). -/

namespace Sys2Proof.Machine

section
variable {s t u v : State} {L : List Part} {j : CipherJob} {e : KeyEnt} {b i c f k : ℕ}

/-! A UNIT-class fault that is not of a part of a unit -/

/-- A UNIT-class fault of a unit in service: its words after the effect and the tests it strands (R542, R543). -/
theorem State.raise_unit (hi : i < unitCount b) (iso : (s.unit b i).isolated = false) (hf : s.fenced b i = false) (few : s.tooFew b = false)
    (hc : faultClass b c = .unit) (whole : isSubUnit c = false) :
    (s.raise ⟨b, i, c, f, false, none⟩).fenced b i = true ∧ ((s.raise ⟨b, i, c, f, false, none⟩).unit b i).lastCause = c ∧
    ((s.raise ⟨b, i, c, f, false, none⟩).unit b i).lastClass = 3 := by
  have eq : s.raise ⟨b, i, c, f, false, none⟩ =
      (((s.unitNotice ⟨b, i, c, f, false, none⟩).markFenced b i).fenceEffect b i).abortStranded b := by
    rw [State.raise_plain hi iso hf, hc]
    dsimp only [State.unitFault]
    rw [if_neg (by rw [whole]; exact Bool.false_ne_true), if_neg (by rw [few]; exact Bool.false_ne_true)]
  obtain ⟨u, -, hn, hu⟩ := State.unitNotice_pin (s := s) (r := ⟨b, i, c, f, false, none⟩)
  rw [eq, State.fenced]
  generalize s.unitNotice ⟨b, i, c, f, false, none⟩ = v at hn
  have hv : v.unit b i = (s.unit b i).mark .unit c false := by
    rw [hn.unit (by decide), (State.pulse_within (L := [.pin, .reg .FLT_PIN_CTL]) (by decide)).unit (by decide), hu]
  obtain ⟨x, hx⟩ : ((v.markFenced b i).unit b i).sameFault ((((v.markFenced b i).fenceEffect b i).abortStranded b).unit b i) := by
    rw [← State.fenceEffect_unit hi]
    exact State.abortTests_sameFault
  have marked : (v.markFenced b i).unit b i = { v.unit b i with fenced := true, ind := true, causes := [(v.unit b i).lastCause] } :=
    State.unit_setUnit ..
  rw [hx, marked, hv]
  exact ⟨rfl, rfl, rfl⟩

/-! What reaches the outside beside answers -/

/-- No answer of a subsystem has left. -/
def noAnswer (s t : State) : Prop := ∀ b l, Out.answer b l ∈ t.out → Out.answer b l ∈ s.out

theorem noAnswer.of_eq (h : t.out = s.out) : noAnswer s t := fun _ _ m => h ▸ m
theorem noAnswer.trans (h : noAnswer s t) (k : noAnswer t u) : noAnswer s u := fun b l m => h b l (k b l m)

/-- What leaves beside an answer. -/
theorem noAnswer.emit {o : Out} (h : ∀ b l, Out.answer b l ≠ o) : noAnswer s (s.emit o) := fun b l m =>
  (List.mem_cons.1 m).resolve_left (h b l)

theorem State.signal_noAnswer : noAnswer s (s.signal f k) := by
  unfold State.signal
  extract_lets x m
  split
  · exact .emit fun _ _ h => nomatch h
  · exact .of_eq rfl

theorem State.alert_noAnswer : noAnswer s (s.alert k) := by
  unfold State.alert
  extract_lets w u src v
  have same : noAnswer s v := .of_eq rfl
  split
  · exact .of_eq rfl
  · split
    · exact same.trans (.emit fun _ _ h => nomatch h)
    · exact same

theorem State.record_noAnswer {sev code data : ℕ} : noAnswer s (s.record b i sev code data) := by
  unfold State.record
  extract_lets d r u
  split
  · exact .of_eq rfl
  · split
    · exact .of_eq rfl
    · split
      · exact State.alert_noAnswer (s := u)
      · exact .of_eq rfl

/-- An event sends vectors, alerts and firmware notices, and answers nothing. -/
theorem State.event_noAnswer {g : Fld} {sub : ℕ} : noAnswer s (s.event g i sub) := by
  unfold State.event
  split
  · exact .of_eq rfl
  · extract_lets s1 n s2 s3
    have h2 : noAnswer s s2 := by
      unfold s2
      split
      · exact noAnswer.emit (s := s1) fun _ _ h => nomatch h
      · exact .of_eq rfl
    have h3 : noAnswer s s3 := by
      unfold s3
      split
      · exact h2.trans State.record_noAnswer
      · exact h2
    split
    · exact h3.trans (State.signal_noAnswer.trans State.signal_noAnswer)
    · split
      · exact h3.trans State.signal_noAnswer
      · exact h3

/-! What a lane does with a job -/

theorem Within.posNonce (h : Within L t s) (hs : Part.svy ∉ L ∧ Part.fch ∉ L) (a : ℕ) : t.posNonce a = s.posNonce a := by
  have svy : t.svy = s.svy := h.keeps .svy hs.1
  simp only [State.posNonce, State.pageOfAddr, State.planeOfAddr, State.bandRec, h.bandOfAddr hs, h.profileOf hs.2, svy]

theorem Within.opened (h : Within L t s) (hs : Part.svy ∉ L ∧ Part.fch ∉ L) : t.opened j e = s.opened j e := by
  rw [State.opened, State.opened, h.posNonce hs]

/-- What a job that left its lane leaves of the lanes' queues and the key slots. -/
structure jobOver (s t : State) (lane : ℕ) : Prop where
  own : tabGet (fun _ => 0) t.cip.jobs lane = tabGet (fun _ => 0) s.cip.jobs lane - 1
  slot : t.cip.slot = s.cip.slot
  rest : ∀ l, l ≠ lane → tabGet (fun _ => 0) t.cip.jobs l = tabGet (fun _ => 0) s.cip.jobs l

theorem State.jobDone_over {lane : ℕ} : jobOver s (s.jobDone lane) lane :=
  ⟨tabGet_set_self .., rfl, fun _ h => tabGet_set_ne (d := fun _ => 0) _ _ h⟩

theorem jobOver.of_eq {lane : ℕ} (h : jobOver s t lane) (hj : u.cip.jobs = t.cip.jobs) (hs : u.cip.slot = t.cip.slot) : jobOver s u lane :=
  ⟨hj ▸ h.own, hs.trans h.slot, hj ▸ h.rest⟩

theorem jobOver.of_within {lane : ℕ} (h : jobOver s t lane) (w : Within L u t) (hc : .cip ∉ L) : jobOver s u lane :=
  have same : u.cip = t.cip := w.keeps .cip hc
  h.of_eq (congrArg Cip.jobs same) (congrArg Cip.slot same)

theorem jobOver.done {lane : ℕ} (h : jobOver s t lane) : tabGet (fun _ => 0) t.cip.jobs lane = tabGet (fun _ => 0) s.cip.jobs lane - 1 ∧
    t.cip.slot = s.cip.slot ∧ ∀ l, l ≠ lane → tabGet (fun _ => 0) t.cip.jobs l = tabGet (fun _ => 0) s.cip.jobs l := ⟨h.own, h.slot, h.rest⟩

/-- A lane delivers an LBA under an entry of its slot. -/
def State.deliver (s : State) (j : CipherJob) (e : KeyEnt) : State := (s.useKey j e).emit (.answer 0x080 ([j.kind, j.slot, e.gen] ++ s.opened j e))

theorem State.deliver_jobs : (s.deliver j e).cip.jobs = s.cip.jobs := rfl
theorem State.deliver_slot : (s.deliver j e).cip.slot = s.cip.slot := rfl

theorem State.deliver_within : Within [.cip, .out] (s.deliver j e) s :=
  (State.emit_within (by decide)).trans (State.useKey_within (by decide))

/-- A read by its quarter word (R476). -/
theorem State.cipherOpen_named (hr : (j.word.map formatReserved).getD false = false) (hn : namedEntry (s.kslot j.slot) j.word = some e) :
    s.cipherOpen j = if j.kind = 3 ∧ s.trial (s.kslot j.slot) j e = false then s.sealedFail j else s.deliver j e := by
  unfold State.cipherOpen
  dsimp only
  rw [hr, hn]
  rfl

/-- A read whose quarter word names no entry held (R477). -/
theorem State.cipherOpen_trial (hr : (j.word.map formatReserved).getD false = false) (hn : namedEntry (s.kslot j.slot) j.word = none)
    (fits : s.trialFits j = true) : s.cipherOpen j = match (s.kslot j.slot).held.filter (s.trial (s.kslot j.slot) j) with
      | [e] => (s.event F.CIP_EVENTS_GEN_TRIAL 0 0).deliver j e
      | [] => s.sealedFail j
      | _ :: _ :: _ => (s.raiseAt 0x081 0 0x11 j.slot).sealedFail j := by
  unfold State.cipherOpen
  dsimp only
  rw [hr, hn, fits] <;> rfl

theorem State.cipherOpen_reserved (hr : (j.word.map formatReserved).getD false = true) : s.cipherOpen j = s.sealedFail j := by
  unfold State.cipherOpen
  exact if_pos hr

theorem State.cipherOpen_late (hn : namedEntry (s.kslot j.slot) j.word = none) (late : s.trialFits j = false) : s.cipherOpen j = s.sealedFail j := by
  unfold State.cipherOpen
  dsimp only
  rw [hn, late]
  exact ite_self _

/-- A read of sealed data whose tag fails under every entry held ends in one of the two ways without data (R478, R479). -/
theorem State.cipherOpen_none (hk : j.kind = 3) (hn : namedEntry (s.kslot j.slot) j.word = none) (bad : ∀ e ∈ (s.kslot j.slot).held, s.tagOk (s.kslot j.slot).nsid j e = false) :
    s.cipherOpen j = s.sealedFail j := by
  cases hr : (j.word.map formatReserved).getD false with
  | true => exact State.cipherOpen_reserved hr
  | false =>
    cases fits : s.trialFits j with
    | false => exact State.cipherOpen_late hn fits
    | true =>
      have trial : s.trial (s.kslot j.slot) j = s.tagOk (s.kslot j.slot).nsid j := funext fun e => if_pos hk
      have empty : (s.kslot j.slot).held.filter (s.trial (s.kslot j.slot) j) = [] :=
        List.filter_eq_nil_iff.2 fun e he => by rw [trial, bad e he]; exact Bool.false_ne_true
      rw [State.cipherOpen_trial hr hn fits, empty]

/-- A sealed LBA whose tag failed: the event, the count, nothing delivered (R479). -/
def State.sealedCount (s : State) : State := (s.event F.CIP_EVENTS_SEALED_AUTH_FAIL 0 0).bump F.CIP_CNT_AUTH_SEALED 0 1

theorem State.sealedCount_spec : s.sealedCount.fld F.CIP_EVENTS_SEALED_AUTH_FAIL 0 = 1 ∧
    s.sealedCount.fld F.CIP_CNT_AUTH_SEALED 0 = min 65535 (s.fld F.CIP_CNT_AUTH_SEALED 0 + 1) ∧ noAnswer s s.sealedCount ∧
    Within (([.reg .CIP_CNT_AUTH, .reg .CIP_EVENTS] : List Part) ++ eventParts) s.sealedCount s := by
  have he : Within (.reg .CIP_EVENTS :: eventParts) (s.event F.CIP_EVENTS_SEALED_AUTH_FAIL 0 0) s := State.event_within (by decide) (by decide)
  refine ⟨?_, ?_, State.event_noAnswer.trans (.of_eq rfl), (State.bump_within (by decide)).trans (he.mono (by decide))⟩
  · exact (State.fld_bump_ne (.inl (by decide))).trans (State.fld_event (by decide) rfl (by decide))
  · refine (State.fld_bump (by decide)).trans ?_
    rw [he.fld (by decide)]
    rfl

theorem State.sealedFail_eq (hk : j.kind = 3) : s.sealedFail j = match j.cmd with
    | some (f, q, c) => s.sealedCount.endCmd f q c Sc.guardCheck
    | none => s.sealedCount := by
  unfold State.sealedFail
  rw [if_pos hk] <;> rfl

/-- A job done without a fault of its datapaths (R464). -/
theorem exec_cipherJob (hl : j.lane < 32) (hf : s.fenced 0x080 j.lane = false) (hd : j.dupOk = true) :
    exec (.cipherJob j) s = match j.kind with
      | 0 | 2 => .next ((s.jobDone j.lane).cipherClose j)
      | 1 | 3 => .next ((s.jobDone j.lane).cipherOpen j)
      | 4 => .next (if s.metaOk j then (s.jobDone j.lane).emit (.answer 0x080 (4 :: 0 :: Config.gcmCrypt Config.metaKey (s.posNonce j.addr) j.data))
          else (s.jobDone j.lane).metaFail (Config.gcmCrypt Config.metaKey (s.posNonce j.addr) j.data))
      | 5 => .next ((s.jobDone j.lane).metaClose j)
      | _ => .next ((s.jobDone j.lane).stagingForm j) := by
  show execCipherJob j s = _
  unfold execCipherJob
  rw [if_neg (by simp [hf]; omega), hd] <;> rfl

/-! How a job ends -/

/-- A job that ends with one answer and leaves all else. -/
def cipherAnswers (s : State) (j : CipherJob) (l : List ℕ) : Prop := leads (.cipherJob j) s fun t =>
  jobOver s t j.lane ∧ t.out = .answer 0x080 l :: s.out ∧ keepsBut [.cip, .out] s t

theorem cipherAnswers_of {l : List ℕ} (eq : exec (.cipherJob j) s = .next t) (ho : t.out = .answer 0x080 l :: s.out)
    (hj : t.cip.jobs = (s.jobDone j.lane).cip.jobs) (hs : t.cip.slot = (s.jobDone j.lane).cip.slot) (w : Within [.cip, .out] t (s.jobDone j.lane)) :
    cipherAnswers s j l :=
  ⟨t, eq, State.jobDone_over.of_eq hj hs, ho, Within.keeps (w.trans (State.jobDone_within (by decide)))⟩

theorem cipherAnswers_deliver (eq : exec (.cipherJob j) s = .next ((s.jobDone j.lane).deliver j e)) :
    cipherAnswers s j ([j.kind, j.slot, e.gen] ++ s.opened j e) := cipherAnswers_of eq rfl rfl rfl State.deliver_within

/-- A job of sealed data that delivers nothing, for a command and for none. -/
theorem cipherFails (hk : j.kind = 3) (eq : exec (.cipherJob j) s = .next ((s.jobDone j.lane).sealedFail j)) :
    (∀ f q c, j.cmd = some (f, q, c) → leads (.cipherJob j) s fun t => t.fld F.CIP_EVENTS_SEALED_AUTH_FAIL 0 = 1 ∧
      t.fld F.CIP_CNT_AUTH_SEALED 0 = min 65535 (s.fld F.CIP_CNT_AUTH_SEALED 0 + 1) ∧
      ∀ l, Out.answer 0x080 l ∈ t.out → Out.answer 0x080 l ∈ s.out) ∧
    (j.cmd = none → leads (.cipherJob j) s fun t => jobOver s t j.lane ∧ t.fld F.CIP_EVENTS_SEALED_AUTH_FAIL 0 = 1 ∧
      t.fld F.CIP_CNT_AUTH_SEALED 0 = min 65535 (s.fld F.CIP_CNT_AUTH_SEALED 0 + 1) ∧
      (∀ l, Out.answer 0x080 l ∈ t.out → Out.answer 0x080 l ∈ s.out) ∧
      keepsBut (([.cip, .reg .CIP_CNT_AUTH, .reg .CIP_EVENTS] : List Part) ++ eventParts) s t) := by
  obtain ⟨ev, count, quiet, w⟩ := (s.jobDone j.lane).sealedCount_spec
  rw [State.sealedFail_eq hk] at eq
  refine ⟨fun f q c hc => ?_, fun hc => ?_⟩
  · rw [hc] at eq
    have he : Within [.ctls, .cmds, .cpls, .media] ((s.jobDone j.lane).sealedCount.endCmd f q c Sc.guardCheck) (s.jobDone j.lane).sealedCount :=
      State.endCmd_within (by decide)
    refine ⟨_, eq, (he.fld (by decide)).trans ev, (he.fld (by decide)).trans count, fun l m => quiet _ l ?_⟩
    rw [he.keeps .out (by decide)] at m
    exact m
  · rw [hc] at eq
    exact ⟨_, eq, State.jobDone_over.of_within w (by decide), ev, count, fun l m => quiet _ l m,
      Within.keeps ((w.mono (by decide)).trans (State.jobDone_within (by decide)))⟩

/-- A read whose check passes under one entry alone (R477, R478). -/
theorem cipherTrial (eq : exec (.cipherJob j) s = .next (((s.jobDone j.lane).event F.CIP_EVENTS_GEN_TRIAL 0 0).deliver j e)) :
    leads (.cipherJob j) s fun t => jobOver s t j.lane ∧ t.fld F.CIP_EVENTS_GEN_TRIAL 0 = 1 ∧
      sent s t (.answer 0x080 ([j.kind, j.slot, e.gen] ++ s.opened j e)) ∧ keepsBut (([.cip, .reg .CIP_EVENTS] : List Part) ++ eventParts) s t := by
  let v := (s.jobDone j.lane).event F.CIP_EVENTS_GEN_TRIAL 0 0
  have hv : Within (.reg .CIP_EVENTS :: eventParts) v (s.jobDone j.lane) := State.event_within (by decide) (by decide)
  have wd : Within [.cip, .out] (v.deliver j e) v := State.deliver_within
  have opened : v.opened j e = s.opened j e := hv.opened (by decide)
  have ev : v.fld F.CIP_EVENTS_GEN_TRIAL 0 = 1 := State.fld_event (by decide) rfl (by decide)
  refine ⟨v.deliver j e, eq, (State.jobDone_over.of_within hv (by decide)).of_eq State.deliver_jobs State.deliver_slot,
    (wd.fld (by decide)).trans ev, ?_,
    Within.keeps ((wd.mono (by decide)).trans ((hv.mono (by decide)).trans (State.jobDone_within (by decide))))⟩
  rw [← opened]
  have before : s.out <:+ v.out := State.event_out (s := s.jobDone j.lane)
  exact sent_of_suffix before (List.suffix_refl _)

/-- Metadata that fails is delivered, and marked (R480). -/
theorem cipherUntrusted {data : List ℕ} (eq : exec (.cipherJob j) s = .next ((s.jobDone j.lane).metaFail data)) :
    leads (.cipherJob j) s fun t => jobOver s t j.lane ∧ t.fld F.CIP_EVENTS_META_UNTRUSTED 0 = 1 ∧
      t.fld F.CIP_CNT_AUTH_META 0 = min 65535 (s.fld F.CIP_CNT_AUTH_META 0 + 1) ∧ sent s t (.answer 0x080 (4 :: 1 :: data)) ∧
      keepsBut (([.cip, .reg .CIP_CNT_AUTH, .reg .CIP_EVENTS] : List Part) ++ eventParts) s t := by
  let v := (s.jobDone j.lane).event F.CIP_EVENTS_META_UNTRUSTED 0 0
  let w := v.bump F.CIP_CNT_AUTH_META 0 1
  have hv : Within (.reg .CIP_EVENTS :: eventParts) v (s.jobDone j.lane) := State.event_within (by decide) (by decide)
  have hw : Within [.reg .CIP_CNT_AUTH] w v := State.bump_within (by decide)
  have he : Within [.out] (w.emit (.answer 0x080 (4 :: 1 :: data))) w := State.emit_within (by decide)
  have ev : v.fld F.CIP_EVENTS_META_UNTRUSTED 0 = 1 := State.fld_event (by decide) rfl (by decide)
  have before : s.out <:+ w.out := (State.event_out (s := s.jobDone j.lane)).trans hw.out_suffix
  refine ⟨_, eq, ((State.jobDone_over.of_within hv (by decide)).of_within hw (by decide)).of_within he (by decide), 
    (he.fld (by decide)).trans ((hw.fld (by decide)).trans ev), ?_, sent_of_suffix (v := w) before (List.suffix_refl _),
    Within.keeps ((he.mono (by decide)).trans ((hw.mono (by decide)).trans ((hv.mono (by decide)).trans (State.jobDone_within (by decide)))))⟩
  refine (he.fld (by decide)).trans ((State.fld_bump (by decide)).trans ?_)
  rw [hv.fld (by decide)]
  rfl

/-- What a write leaves of an LBA under CURRENT: its bytes, and its tag. -/
def State.closedData (s : State) (j : CipherJob) (e : KeyEnt) : List ℕ :=
  if j.kind = 2 then Config.gcmCrypt e.key (s.posNonce j.addr) j.data else Config.xts true e.key j.lba j.data
def State.closedTag (s : State) (j : CipherJob) (e : KeyEnt) : ℕ :=
  if j.kind = 2 then Config.gcmTag e.key (s.posNonce j.addr) (sealAad (s.kslot j.slot).nsid e.gen j.lba j.side) (s.closedData j e) else 0

theorem State.cipherClose_current {n : Ns} (he : (s.kslot j.slot).cur = some e) (hn : s.nsOf (s.kslot j.slot).nsid = some n) :
    s.cipherClose j = (s.useKey j e).emit (.answer 0x080 ([j.kind, j.slot, e.gen] ++
      (if n.lbaf = 1 then [] else sideQuarter (quarterWord n.lbaf (some e.gen) (s.quarterPoison n j.lba)) j.side (s.closedTag j e)) ++
      s.closedData j e)) := by
  unfold State.cipherClose
  dsimp only
  rw [he, hn] <;> rfl

theorem State.cipherClose_none (h : (s.kslot j.slot).cur = none ∨ s.nsOf (s.kslot j.slot).nsid = none) : s.cipherClose j = s := by
  unfold State.cipherClose
  dsimp only
  rcases h with h | h
  · rw [h]
  · rw [h]
    cases (s.kslot j.slot).cur <;> rfl

end

/-- Settles O42: each kind of job on the lane's queue without it, a sealed LBA's failure in one place. -/
theorem cipherJobsReleaseOnlyCheckedOutput : Obligations.CipherJobsReleaseOnlyCheckedOutput := by
  unfold Obligations.CipherJobsReleaseOnlyCheckedOutput
  intro s j hl hf hinj k nonce done answersWith fails reserved tagOk
  let u := s.jobDone j.lane
  have hu : Within [.cip] u s := State.jobDone_within (by decide)
  have finish : ∀ {t : State}, jobOver s t j.lane → done t := fun h => ⟨h.own, h.slot, h.rest⟩
  have answer : ∀ {l : List ℕ}, cipherAnswers s j l → answersWith l := fun ⟨t, eq, o, rest⟩ => ⟨t, eq, finish o, rest⟩
  have failed : j.kind = 3 → exec (.cipherJob j) s = .next (u.sealedFail j) → fails := fun hk eq =>
    ⟨(cipherFails hk eq).1, fun hc => have ⟨t, eq, o, rest⟩ := (cipherFails hk eq).2 hc; ⟨t, eq, finish o, rest⟩⟩
  refine ⟨fun hd iso few => ?_, fun hd => ?_⟩
  · let v : State := { s with cip := { s.cip with jobs := bookTab s.cip.jobs j.lane 1 } }
    obtain ⟨fen, cause, cls⟩ := State.raise_unit (s := v) (b := 0x080) (i := j.lane) (c := 0x0A) (f := 0) hl iso hf few (by decide) (by decide)
    refine ⟨v.raise ⟨0x080, j.lane, 0x0A, 0, false, none⟩, ?_, fen, cause, cls, Within.keeps (.trans (State.raise_within fun _ h => h) (.step (by decide) (.cip s _) .rfl))⟩
    show execCipherJob j s = _
    unfold execCipherJob
    rw [if_neg (by simp [hf]; omega), hd, hinj]
    rfl
  have run := exec_cipherJob hl hf hd
  have opens : j.kind = 1 ∨ j.kind = 3 → exec (.cipherJob j) s = .next (u.cipherOpen j) := fun hk => by
    rcases hk with hk | hk <;> rw [hk] at run <;> exact run
  have closes : j.kind = 0 ∨ j.kind = 2 → exec (.cipherJob j) s = .next (u.cipherClose j) := fun hk => by
    rcases hk with hk | hk <;> rw [hk] at run <;> exact run
  have plain : j.kind = 1 → ∀ e, s.opened j e = Config.xts false e.key j.lba j.data := fun hk e => if_neg (by rw [hk]; decide)
  have opened : j.kind = 3 → ∀ e, s.opened j e = Config.gcmCrypt e.key nonce j.data := fun hk e => if_pos hk
  have trial : j.kind = 3 → u.trial (u.kslot j.slot) j = tagOk := fun hk => funext fun x => if_pos hk
  refine ⟨fun e n he hn => ?_, fun hk hnone => ?_, fun e hr hn => ?_, fun e hr hn fits => ?_,
    fun hk hr => failed hk ((opens (.inr hk)).trans (congrArg Host.Outcome.next (State.cipherOpen_reserved hr))),
    fun hk hn bad => failed hk ((opens (.inr hk)).trans (congrArg Host.Outcome.next (State.cipherOpen_none hk hn bad))),
    fun hk hn late => failed hk ((opens (.inr hk)).trans (congrArg Host.Outcome.next (State.cipherOpen_late hn late))), ?_⟩
  · have close := State.cipherClose_current (s := u) (j := j) he hn
    have write : j.kind = 0 ∨ j.kind = 2 → answersWith ([j.kind, j.slot, e.gen] ++
        (if n.lbaf = 1 then [] else sideQuarter (quarterWord n.lbaf (some e.gen) (s.quarterPoison n j.lba)) j.side (s.closedTag j e)) ++
        s.closedData j e) := fun hk =>
      answer (cipherAnswers_of ((closes hk).trans (congrArg Host.Outcome.next close)) rfl rfl rfl
        ((State.emit_within (by decide)).trans (State.useKey_within (by decide))))
    refine ⟨fun hk => ?_, fun hk => ?_⟩
    · have w := write (.inl hk)
      have two : ¬j.kind = 2 := by rw [hk]; decide
      have data : s.closedData j e = Config.xts true e.key j.lba j.data := if_neg two
      have tag : s.closedTag j e = 0 := if_neg two
      rw [data, tag, hk] at w
      exact w
    · have w := write (.inr hk)
      have data : s.closedData j e = Config.gcmCrypt e.key nonce j.data := if_pos hk
      have tag : s.closedTag j e = Config.gcmTag e.key nonce (sealAad k.nsid e.gen j.lba j.side) (s.closedData j e) := if_pos hk
      rw [tag, data, hk] at w
      exact w
  · exact ⟨u, (closes hk).trans (congrArg Host.Outcome.next (State.cipherClose_none hnone)), finish State.jobDone_over, hu.keeps⟩
  · have named := State.cipherOpen_named (s := u) hr hn
    have deliver : u.cipherOpen j = u.deliver j e → j.kind = 1 ∨ j.kind = 3 → answersWith ([j.kind, j.slot, e.gen] ++ s.opened j e) := fun eq hk =>
      answer (cipherAnswers_deliver ((opens hk).trans (congrArg Host.Outcome.next eq)))
    refine ⟨fun hk => ?_, fun hk ok => ?_, fun hk bad => ?_⟩
    · have d := deliver (named.trans (if_neg fun h => absurd (hk.symm.trans h.1) (by decide))) (.inl hk)
      rw [plain hk, hk] at d
      exact d
    · have d := deliver (named.trans (if_neg (by rw [trial hk, ok]; simp))) (.inr hk)
      rw [opened hk, hk] at d
      exact d
    · exact failed hk ((opens (.inr hk)).trans (congrArg Host.Outcome.next (named.trans (if_pos ⟨hk, (congrFun (trial hk) e).trans bad⟩))))
  · have byTrial := State.cipherOpen_trial (s := u) hr hn fits
    intro give
    have deliver : (u.kslot j.slot).held.filter (u.trial (u.kslot j.slot) j) = [e] → j.kind = 1 ∨ j.kind = 3 →
        give ([j.kind, j.slot, e.gen] ++ s.opened j e) := fun one hk => by
      rw [one] at byTrial
      obtain ⟨t, eq, o, rest⟩ := cipherTrial ((opens hk).trans (congrArg Host.Outcome.next byTrial))
      exact ⟨t, eq, finish o, rest⟩
    refine ⟨fun hk one => ?_, fun hk one => ?_⟩
    · have guards : u.trial (u.kslot j.slot) j = fun x => if k.cur = some x then j.curOk else j.shadowOk :=
        funext fun x => if_neg (by rw [hk]; decide)
      have d := deliver (by rw [guards]; exact one) (.inl hk)
      rw [plain hk, hk] at d
      exact d
    · have d := deliver (by rw [trial hk]; exact one) (.inr hk)
      rw [opened hk, hk] at d
      exact d
  · intro ok data
    refine ⟨fun hk good => ?_, fun hk bad => ?_, fun hk => ?_, fun hk => ?_⟩
    · rw [hk, show s.metaOk j = true from good] at run
      exact answer (cipherAnswers_of run rfl rfl rfl (State.emit_within (by decide)))
    · rw [hk, show s.metaOk j = false from bad] at run
      obtain ⟨t, eq, o, rest⟩ := cipherUntrusted run
      exact ⟨t, eq, finish o, rest⟩
    · rw [hk] at run
      exact answer (cipherAnswers_of run rfl rfl rfl (State.metaClose_within (by decide)))
    · have form : exec (.cipherJob j) s = .next (u.stagingForm j) := by
        rcases hk with hk | hk <;> rw [hk] at run <;> exact run
      exact answer (cipherAnswers_of form rfl rfl rfl (State.stagingForm_within (by decide)))

end Sys2Proof.Machine
end

section
/-! What a device reset leaves. -/

namespace Sys2Proof.Machine

section
variable {s t u : State} {L : List Part} {kind m n : ℕ}

theorem State.toMode_pwr {m : Mode} : (s.toMode m).pwr = { s.pwr with mode := m } := by
  unfold State.toMode
  split
  · next h => rw [← h]
  · extract_lets src t
    refine Within.keeps (L := .reg .PWR_EVENTS :: eventParts) (t := t) ?_ .pwr (by decide)
    exact .ite (State.record_within (by decide)) (State.event_within (by decide) (by decide))

/-- A suspension that begins changes the list of suspensions, and is recorded. -/
theorem State.suspend_start : ∃ l, (s.suspend m n).start = { s.start with susp := l } := by
  unfold State.suspend
  split
  · exact ⟨_, rfl⟩
  · refine ⟨s.start.susp ++ [(m, n)], ?_⟩
    exact (State.suspRecord_within (L := recordParts) fun _ h => h).keeps .start (by decide)

theorem State.loseDram_pwr : s.loseDram.pwr = { s.pwr with stagingUse := 0 } := by
  unfold State.loseDram
  extract_lets held u1 u2 src src1
  have h1 : Within [.plt, .atl, .svy] u1 s := Within.foldl fun u x => by
    extract_lets y b data pad
    exact .ite .rfl (State.setBand_within (by decide))
  have h2 : Within [.plt, .atl, .svy] u2 s := (Within.foldl fun _ _ => State.queueRefresh_within (by decide)).trans h1
  refine ((State.loseMap_within (L := [.atl, .svy, .par]) fun _ h => h).keeps .pwr (by decide)).trans ?_
  show { u2.pwr with stagingUse := 0 } = _
  rw [show u2.pwr = s.pwr from h2.keeps .pwr (by decide)]

theorem State.resetDram_dumps : (s.resetDram kind).pwr.dumps = s.pwr.dumps := by
  unfold State.resetDram
  split
  · split
    · rfl
    · exact congrArg Power.dumps ((State.loseMap_within (L := [.atl, .svy, .par]) fun _ h => h).keeps .pwr (by decide))
  · split
    · exact congrArg Power.dumps ((State.restoreBands_within (L := [.svy]) (by decide)).keeps .pwr (by decide))
    · rw [State.loseDram_pwr]

theorem State.endUpd_store : s.endUpd.por.store = s.por.store ∧ s.endUpd.por.otp = s.por.otp := by
  unfold State.endUpd
  cases s.por.sess <;> exact ⟨rfl, rfl⟩

theorem State.cutStore_store : s.cutStore.store = s.por.store ∧ s.cutStore.otp = s.por.otp := by
  unfold State.cutStore
  extract_lets p
  have same : p.store = s.por.store ∧ p.otp = s.por.otp := State.endUpd_store
  cases s.por.op with
  | none => exact same
  | some o =>
    dsimp only
    split
    · exact same
    · exact same

/-- What a device reset of a kind leaves of the device's memory and of its work (Table 24-2). -/
structure ResetLeft (s t : State) (k : ℕ) : Prop where
  kind : t.start.kind = k
  running : t.start.running = true
  step : t.start.step = 0
  envelope : t.start.envelope = (s.start.envelope && decide (k ≠ 1))
  cmds : t.cmds = []
  cpls : t.cpls = []
  sqs : t.sqs = []
  cqs : t.cqs = []
  ops : t.ops = []
  dat : t.dat = s.dat
  dumps : t.pwr.dumps = s.pwr.dumps
  failures : t.cip.failures = s.cip.failures
  closed : t.cip.open_ = false
  store : t.por.store = s.por.store
  otp : t.por.otp = s.por.otp
  position : t.por.position = 0
  mapReady : t.atl.mapReady = false
  fuses : t.srv.fuses = s.srv.fuses

/-- The registers a device reset keeps or sets. -/
def resetRegParts : List Part :=
  ([.reg .PLT_ENVELOPE, .reg .PLT_SHEET_PWR, .reg .DAT_EVENTS, .reg .GAZ_COUNTS, .reg .DRC_CFG, .reg .PAR_EVENTS] : List Part) ++ eventParts

theorem ResetLeft.of_within (h : ResetLeft s t kind) (w : Within L u t) (hs : ∃ l, u.start = { t.start with susp := l })
    (hL : ∀ p ∈ ([.cmds, .cpls, .sqs, .cqs, .ops, .dat, .pwr, .cip, .por, .atl, .srv] : List Part), p ∉ L) : ResetLeft s u kind where
  kind := by obtain ⟨l, hl⟩ := hs; rw [hl]; exact h.kind
  running := by obtain ⟨l, hl⟩ := hs; rw [hl]; exact h.running
  step := by obtain ⟨l, hl⟩ := hs; rw [hl]; exact h.step
  envelope := by obtain ⟨l, hl⟩ := hs; rw [hl]; exact h.envelope
  cmds := (w.keeps .cmds (hL _ (by decide))).trans h.cmds
  cpls := (w.keeps .cpls (hL _ (by decide))).trans h.cpls
  sqs := (w.keeps .sqs (hL _ (by decide))).trans h.sqs
  cqs := (w.keeps .cqs (hL _ (by decide))).trans h.cqs
  ops := (w.keeps .ops (hL _ (by decide))).trans h.ops
  dat := (w.keeps .dat (hL _ (by decide))).trans h.dat
  dumps := (congrArg Power.dumps (w.keeps .pwr (hL _ (by decide)))).trans h.dumps
  failures := (congrArg Cip.failures (w.keeps .cip (hL _ (by decide)))).trans h.failures
  closed := (congrArg Cip.open_ (w.keeps .cip (hL _ (by decide)))).trans h.closed
  store := (congrArg Por.store (w.keeps .por (hL _ (by decide)))).trans h.store
  otp := (congrArg Por.otp (w.keeps .por (hL _ (by decide)))).trans h.otp
  position := (congrArg Por.position (w.keeps .por (hL _ (by decide)))).trans h.position
  mapReady := (congrArg Atlas.mapReady (w.keeps .atl (hL _ (by decide)))).trans h.mapReady
  fuses := (congrArg Srv.fuses (w.keeps .srv (hL _ (by decide)))).trans h.fuses

theorem State.rg_regs (h : t.regs = []) {r : Reg} {i : ℕ} : t.rg r i = Reg.resetWord r i := by
  rw [← State.rg_reset, State.rg, State.rg, h]
  rfl

/-- The envelope registers are copied one by one. -/
theorem State.rg_copyRegs {v : State} {r : Reg} (l : List ℕ) : ∀ (t : State) (k : ℕ),
    (l.foldl (fun t k => t.setReg r k (v.rg r k)) t).rg r k = if k ∈ l then v.rg r k else t.rg r k := by
  induction l with
  | nil => exact fun _ _ => rfl
  | cons j l ih =>
    intro t k
    rw [List.foldl_cons, ih]
    by_cases hk : k = j
    · subst hk
      simp
    · rw [State.rg_setReg_ne _ (.inr hk)]
      simp [hk]

theorem State.keepEnvelope_rg (v : State) : (v.keepEnvelope t).rg .PLT_ENVELOPE 0 = v.rg .PLT_ENVELOPE 0 ∧
    ∀ k, k < 16 → (v.keepEnvelope t).rg .PLT_SHEET_PWR k = v.rg .PLT_SHEET_PWR k := by
  unfold State.keepEnvelope
  extract_lets u
  refine ⟨?_, fun k hk => ?_⟩
  · have w : Within [.reg .PLT_SHEET_PWR] ((List.range 16).foldl (fun t k => t.setReg .PLT_SHEET_PWR k (v.rg .PLT_SHEET_PWR k)) u) u :=
      Within.foldl fun _ _ => State.setReg_within (by decide)
    exact (w.keeps (.reg .PLT_ENVELOPE) (by decide) 0).trans (State.rg_setReg_self ..)
  · rw [State.rg_copyRegs, if_pos (List.mem_range.2 hk)]

theorem State.deviceReset_spec : ResetLeft s (s.deviceReset kind) kind ∧
    (kind = 1 → (s.deviceReset kind).rg .PLT_ENVELOPE 0 = Reg.resetWord .PLT_ENVELOPE 0) ∧
    (kind ≠ 1 → (s.deviceReset kind).rg .PLT_ENVELOPE 0 = s.rg .PLT_ENVELOPE 0 ∧
      ∀ k, k < 16 → (s.deviceReset kind).rg .PLT_SHEET_PWR k = s.rg .PLT_SHEET_PWR k) := by
  unfold State.deviceReset
  extract_lets keepMap noParity v z src bays src dies src src src src src src src src src src src src u u1 u2 u3
  have hv : Within [.pwr, .plt, .atl, .svy, .par] v s := State.resetDram_within fun _ h => h
  have dumps : v.pwr.dumps = s.pwr.dumps := State.resetDram_dumps
  have store : v.cutStore.store = s.por.store ∧ v.cutStore.otp = s.por.otp := by
    rw [← show v.por = s.por from hv.keeps .por (by decide)]
    exact State.cutStore_store
  have failures : v.cip.failures = s.cip.failures := congrArg Cip.failures (hv.keeps .cip (by decide))
  have fuses : v.srv.fuses = s.srv.fuses := congrArg Srv.fuses (hv.keeps .srv (by decide))
  have hu : ResetLeft s u kind := {
    kind := rfl, running := rfl, step := rfl, cmds := rfl, cpls := rfl, sqs := rfl, cqs := rfl, ops := rfl, closed := rfl, position := rfl, mapReady := rfl
    envelope := congrArg (fun x : Start => x.envelope && decide (kind ≠ 1)) (hv.keeps .start (by decide))
    dat := hv.keeps .dat (by decide)
    dumps := dumps
    failures := failures
    store := store.1
    otp := store.2
    fuses := fuses }
  have empty : u.regs = [] := rfl
  clear_value u
  have h1 : Within [.reg .PLT_ENVELOPE, .reg .PLT_SHEET_PWR] u1 u := .ite .rfl (State.keepEnvelope_within (by decide))
  have env : (kind = 1 → u1.rg .PLT_ENVELOPE 0 = Reg.resetWord .PLT_ENVELOPE 0) ∧
      (kind ≠ 1 → u1.rg .PLT_ENVELOPE 0 = s.rg .PLT_ENVELOPE 0 ∧ ∀ k, k < 16 → u1.rg .PLT_SHEET_PWR k = s.rg .PLT_SHEET_PWR k) := by
    refine ⟨fun h => ?_, fun h => ?_⟩
    · rw [show u1 = u from if_pos h]
      exact State.rg_regs empty
    · rw [show u1 = v.keepEnvelope u from if_neg h]
      obtain ⟨top, sheets⟩ := State.keepEnvelope_rg (t := u) v
      exact ⟨top.trans (hv.keeps (.reg .PLT_ENVELOPE) (by decide) 0), fun k hk => (sheets k hk).trans (hv.keeps (.reg .PLT_SHEET_PWR) (by decide) k)⟩
  have h2 : Within [.reg .DAT_EVENTS, .reg .GAZ_COUNTS] u2 u1 := (State.bump_within (by decide)).trans (State.setFld_within (by decide))
  have h3 : Within [.reg .DAT_EVENTS, .reg .GAZ_COUNTS, .reg .DRC_CFG] u3 u1 := (Within.ite (State.setReg_within (by decide)) .rfl).trans (h2.mono (by decide))
  have h4 : Within (([.reg .DAT_EVENTS, .reg .GAZ_COUNTS, .reg .DRC_CFG, .reg .PAR_EVENTS] : List Part) ++ eventParts)
      (if noParity = true then u3.event F.PAR_EVENTS_NO_PARITY_REPLAY 0 0 else u3) u1 :=
    (Within.ite (State.event_within (by decide) (by decide)) .rfl).trans (h3.mono (by decide))
  have w : Within resetRegParts (if noParity = true then u3.event F.PAR_EVENTS_NO_PARITY_REPLAY 0 0 else u3) u :=
    (h4.mono (by decide)).trans (h1.mono (by decide))
  refine ⟨hu.of_within w ⟨u.start.susp, w.keeps .start (by decide)⟩ (by decide), fun h => ?_, fun h => ⟨?_, fun k hk => ?_⟩⟩
  · exact (h4.keeps (.reg .PLT_ENVELOPE) (by decide) 0).trans (env.1 h)
  · exact (h4.keeps (.reg .PLT_ENVELOPE) (by decide) 0).trans (env.2 h).1
  · exact (h4.keeps (.reg .PLT_SHEET_PWR) (by decide) k).trans ((env.2 h).2 k hk)

/-- What a restart leaves beside the suspension it is. -/
theorem State.restart_spec : ResetLeft s (s.restart kind) kind ∧
    (kind = 1 → (s.restart kind).rg .PLT_ENVELOPE 0 = Reg.resetWord .PLT_ENVELOPE 0) ∧
    (kind ≠ 1 → (s.restart kind).rg .PLT_ENVELOPE 0 = s.rg .PLT_ENVELOPE 0 ∧
      ∀ k, k < 16 → (s.restart kind).rg .PLT_SHEET_PWR k = s.rg .PLT_SHEET_PWR k) := by
  obtain ⟨left, off, on⟩ := State.deviceReset_spec (s := s) (kind := kind)
  unfold State.restart
  extract_lets t v
  have hv : Within (.start :: recordParts) (State.suspend { t with start := { t.start with susp := t.start.susp ++ s.openSuspensions } } (if kind = 5 then 7 else 3) 0) t :=
    (State.suspend_within (by decide)).trans (.step (by decide) (.start t _) .rfl)
  obtain ⟨l, start⟩ := State.suspend_start (s := { t with start := { t.start with susp := t.start.susp ++ s.openSuspensions } }) (m := if kind = 5 then 7 else 3) (n := 0)
  refine ⟨?_, fun h => (hv.keeps (.reg .PLT_ENVELOPE) (by decide) 0).trans (off h), fun h =>
    ⟨(hv.keeps (.reg .PLT_ENVELOPE) (by decide) 0).trans (on h).1, fun k hk => (hv.keeps (.reg .PLT_SHEET_PWR) (by decide) k).trans ((on h).2 k hk)⟩⟩
  refine left.of_within hv ⟨l, start⟩ (by decide)

end

end Sys2Proof.Machine
end

section
/-! HOLDUP and the capacitor test (O38). -/

namespace Sys2Proof.Machine

section
variable {s t u v : State} {L : List Part} {c rail : ℕ} {m : Mode}

/-! ### Modes, stops and HOLDUP -/

/-- A change of mode leaves every event bit but MODE_CHANGE. -/
theorem State.fld_toMode {f : Fld} {i : ℕ} (h : F.PWR_EVENTS_MODE_CHANGE.reg ≠ f.reg ∨ 0 ≠ i ∨ F.PWR_EVENTS_MODE_CHANGE.hi < f.lo ∨ f.hi < F.PWR_EVENTS_MODE_CHANGE.lo)
    (hr : .reg f.reg ∉ eventParts) : (s.toMode m).fld f i = s.fld f i := by
  unfold State.toMode
  split
  · rfl
  · extract_lets src t
    have same : t.fld f i = s.fld f i := rfl
    split
    · exact ((State.record_within (L := eventParts) (by decide)).fld hr).trans same
    · exact (State.fld_event_ne h hr).trans same

/-- What the entry to HOLDUP makes of the power state and of the work in hand (R494, R498). -/
theorem State.enterHoldup_spec (h : s.hubOn = true) :
    (s.enterHoldup c).pwr = { s.pwr with mode := .holdup, cause := c, entryDatum := s.datumWord, holdTestEn := false, entering := none, dumpParts := true,
                                         dumpAbort := false, test := { s.pwr.test with phase := .idle, handle := none } } ∧
    (s.enterHoldup c).cmds = [] ∧ (s.enterHoldup c).cpls = [] ∧ (s.enterHoldup c).ops = [] ∧ (s.enterHoldup c).plt.admitOpen = false ∧
    (s.enterHoldup c).fld F.PWR_EVENTS_RAIL_TRIP 0 = s.fld F.PWR_EVENTS_RAIL_TRIP 0 := by
  unfold State.enterHoldup
  rw [if_neg (by simp [h])]
  extract_lets paths s1 s2 s3 src src1 src2 src3 src4 src5 src6 s4 going off src7 s5 s6
  have h1 : Within endSessionParts s1 s := (State.endUpd_within (by decide)).trans (Within.foldl fun _ _ => State.endSession_within fun _ h => h)
  have h2 : Within (.start :: endSessionParts) s2 s := (State.suspend_within (by decide)).trans (h1.mono (by decide))
  have h3 : Within (.fch :: .start :: endSessionParts) s3 s :=
    (State.resetErases_within (by decide)).trans ((State.resumeProgs_within (by decide)).trans (h2.mono (by decide)))
  have h6 : Within (.bays :: .fch :: .reg .SHB_IND :: recordParts) s6 s4 :=
    .trans (t := s5) (Within.foldl fun _ _ => State.moveBay_within (by decide)) (.step (by decide) (.fch s4 _) .rfl)
  have hm : Within (.pwr :: .reg .PWR_EVENTS :: eventParts) (s6.toMode .holdup) s6 := State.toMode_within (by decide) (by decide) (by decide)
  have word : s3.datumWord = s.datumWord := by
    rw [State.datumWord, State.datumWord, h3.datumTime (by decide), show s3.dat = s.dat from h3.keeps .dat (by decide)]
  have end_ : Within (.bays :: .fch :: .pwr :: .reg .SHB_IND :: .reg .PWR_EVENTS :: eventParts) (s6.toMode .holdup) s4 :=
    (hm.mono (by decide)).trans (h6.mono (by decide))
  refine ⟨?_, end_.keeps .cmds (by decide), end_.keeps .cpls (by decide), end_.keeps .ops (by decide),
    congrArg Plotter.admitOpen (end_.keeps .plt (by decide)), ?_⟩
  · rw [State.toMode_pwr, show s6.pwr = s4.pwr from h6.keeps .pwr (by decide)]
    show { ({ s3.pwr with cause := c, entryDatum := s3.datumWord, holdTestEn := false, entering := none, dumpParts := true, dumpAbort := false,
                          test := { s3.pwr.test with phase := .idle, handle := none } } : Power) with mode := .holdup } = _
    rw [word, show s3.pwr = s.pwr from h3.keeps .pwr (by decide)]
  · have same : s4.fld F.PWR_EVENTS_RAIL_TRIP 0 = s3.fld F.PWR_EVENTS_RAIL_TRIP 0 := rfl
    rw [State.fld_toMode (by decide) (by decide), h6.fld (by decide), same, h3.fld (by decide)]

/-- A stop: its mode, WP_N low on every channel, what is said of it (R498 step 8). -/
theorem State.stopNow_spec : s.stopNow.pwr = { s.pwr with mode := .stopped, holdEn := false, lowOnStop := decide (s.pwr.cause = 3) } ∧
    (∀ c, (s.stopNow.chan c).wpHigh = false) ∧ Within stopNowParts s.stopNow s := by
  refine ⟨?_, fun c => ?_, State.stopNow_within fun _ h => h⟩
  · show { (s.toMode .stopped).pwr with holdEn := false, lowOnStop := decide ((s.toMode .stopped).pwr.cause = 3) } = _
    rw [State.toMode_pwr]
  · show (tabGet (fun _ => Chan.reset) ((s.toMode .stopped).fch.chan.map fun e => (e.1, { e.2 with wpHigh := false })) c).wpHigh = false
    unfold tabGet
    have low := tabFind_mapVal (fun x : Chan => { x with wpHigh := false }) (s.toMode .stopped).fch.chan c
    dsimp only at low ⊢
    rw [low]
    cases tabFind (s.toMode .stopped).fch.chan c <;> rfl

/-- A rail's trip marked (R495). -/
def State.markRail (s : State) (rail : ℕ) : State :=
  State.event { s with pwr := { s.pwr with railsTripped :=
    if s.pwr.railsTripped / 2 ^ rail % 2 = 1 then s.pwr.railsTripped else s.pwr.railsTripped + 2 ^ rail } } F.PWR_EVENTS_RAIL_TRIP 0 rail

theorem State.markRail_spec : ∃ r, r / 2 ^ rail % 2 = 1 ∧ (s.markRail rail).pwr = { s.pwr with railsTripped := r } ∧
    (s.markRail rail).fld F.PWR_EVENTS_RAIL_TRIP 0 = 1 ∧ Within (([.pwr, .reg .PWR_EVENTS] : List Part) ++ eventParts) (s.markRail rail) s := by
  let r := if s.pwr.railsTripped / 2 ^ rail % 2 = 1 then s.pwr.railsTripped else s.pwr.railsTripped + 2 ^ rail
  let v : State := { s with pwr := { s.pwr with railsTripped := r } }
  have w : Within (.reg .PWR_EVENTS :: eventParts) (s.markRail rail) v := State.event_within (by decide) (by decide)
  refine ⟨r, ?_, w.keeps .pwr (by decide), State.fld_event (by decide) rfl (by decide), (w.mono (by decide)).trans (.step (by decide) (.pwr s _) .rfl)⟩
  unfold r
  split
  · assumption
  · rw [Nat.add_div_right _ (Nat.two_pow_pos rail)]
    omega

theorem exec_railTrip (h : rail < 6) : exec (.railTrip rail) s = match s.pwr.mode with
    | .ready | .service | .degraded =>
      if s.start.running ∧ s.start.step = 0 then .next { s with start := { s.start with railsAt := s.now + 10 * msTicks } }
      else if s.start.running ∧ s.start.step < 10 then .next ({ s.markRail rail with pwr := { (s.markRail rail).pwr with cause := 2 } } : State).stopNow
      else .next ((s.markRail rail).enterHoldup 2)
    | .holdup => if rail < 2 then .next ({ s.markRail rail with pwr := { (s.markRail rail).pwr with dumpAbort := true } } : State).stopNow
      else .next (s.markRail rail)
    | .dormant => if rail = 1 then .next s.toVault else .next s
    | .vault | .stopped => .next s := by
  show execRailTrip rail s = _
  unfold execRailTrip
  rw [if_neg (by omega)] <;> rfl

/-- A rail's trip while the hub runs. -/
theorem exec_railTrip_hub (h : rail < 6) (hub : s.hubOn = true) : exec (.railTrip rail) s =
    if s.start.running ∧ s.start.step = 0 then .next { s with start := { s.start with railsAt := s.now + 10 * msTicks } }
    else if s.start.running ∧ s.start.step < 10 then .next ({ s.markRail rail with pwr := { (s.markRail rail).pwr with cause := 2 } } : State).stopNow
    else .next ((s.markRail rail).enterHoldup 2) := by
  have modes : s.pwr.mode = .ready ∨ s.pwr.mode = .service ∨ s.pwr.mode = .degraded := by
    unfold State.hubOn at hub
    cases hm : s.pwr.mode <;> simp [hm] at hub ⊢
  rw [exec_railTrip h]
  rcases modes with hm | hm | hm <;> rw [hm]

/-- VAULT keeps what the VBAT domain and the flash hold (R493). -/
theorem State.toVault_spec : s.toVault.pwr.mode = .vault ∧ s.toVault.pwr.holdEn = false ∧ s.toVault.start.running = false ∧ s.toVault.dat = s.dat ∧
    s.toVault.pwr.dumps = s.pwr.dumps ∧ s.toVault.srv.fuses = s.srv.fuses := by
  obtain ⟨left, -⟩ := State.deviceReset_spec (s := s) (kind := 1)
  unfold State.toVault
  extract_lets t _ _
  obtain ⟨l, start⟩ := State.suspend_start (s := { t with
    pwr := { t.pwr with mode := .vault, holdEn := false },
    start := { t.start with running := false, susp := t.start.susp ++ s.openSuspensions } }) (m := 6) (n := 0)
  have w : Within (.start :: recordParts) (State.suspend { t with
    pwr := { t.pwr with mode := .vault, holdEn := false },
    start := { t.start with running := false, susp := t.start.susp ++ s.openSuspensions } } 6 0) { t with
    pwr := { t.pwr with mode := .vault, holdEn := false },
    start := { t.start with running := false, susp := t.start.susp ++ s.openSuspensions } } := State.suspend_within (by decide)
  have pwr := w.keeps .pwr (by decide)
  refine ⟨congrArg Power.mode pwr, congrArg Power.holdEn pwr, by rw [start], (w.keeps .dat (by decide)).trans left.dat,
    (congrArg Power.dumps pwr).trans left.dumps, (congrArg Srv.fuses (w.keeps .srv (by decide))).trans left.fuses⟩

/-! ### The capacitor-health test -/

theorem State.setBudget_pwr {b : ℕ} : (s.setBudget b).pwr = { s.pwr with budget := b } := by
  unfold State.setBudget
  extract_lets _ u
  split
  · exact (State.event_within (L := .reg .PWR_EVENTS :: eventParts) (by decide) (by decide)).keeps .pwr (by decide)
  · rfl

/-- What the end of a test leaves (R502 step 6). -/
theorem State.testEnds_spec {r : ℕ} : (s.testEnds r).pwr = { s.pwr with
      holdTestEn := false, tested := true, testDormant := 0, lastTestFrame := s.plt.frame, lastTestAt := s.datumTime,
      test := { s.pwr.test with phase := .idle, handle := none } } ∧ (s.testEnds r).fld F.PWR_EVENTS_TEST_DONE 0 = 1 ∧
    (s.testEnds r).fld F.PWR_EVENTS_TEST_FAIL 0 = s.fld F.PWR_EVENTS_TEST_FAIL 0 ∧
    Within (([.ops, .pwr, .reg .MBX_EVENTS, .reg .PWR_EVENTS] : List Part) ++ eventParts) (s.testEnds r) s := by
  unfold State.testEnds
  extract_lets h _ _ a
  let b := a.event F.PWR_EVENTS_TEST_DONE 0 0
  have ha : Within [.pwr] a s := .step (by decide) (.pwr s _) .rfl
  have hb : Within (.reg .PWR_EVENTS :: eventParts) b a := State.event_within (by decide) (by decide)
  have hc : Within opDoneParts (b.opDone h r (bytesLe 4 a.pwr.eMeasured ++ bytesLe 8 a.pwr.budget)) b := State.opDone_within_op fun _ h => h
  have done : b.fld F.PWR_EVENTS_TEST_DONE 0 = 1 := State.fld_event (by decide) rfl (by decide)
  have fail : b.fld F.PWR_EVENTS_TEST_FAIL 0 = a.fld F.PWR_EVENTS_TEST_FAIL 0 := State.fld_event_ne (by decide) (by decide)
  refine ⟨(hc.keeps .pwr (by decide)).trans (hb.keeps .pwr (by decide)), (hc.fld (by decide)).trans done, (hc.fld (by decide)).trans (fail.trans (ha.fld (by decide))),
    (hc.mono (by decide)).trans ((hb.mono (by decide)).trans (ha.mono (by decide)))⟩

/-- A failed test leaves no budget (R504). -/
theorem State.testFails_spec : s.testFails.pwr.budget = 0 ∧ s.testFails.pwr.failed = true ∧ s.testFails.pwr.test.phase = .idle ∧
    s.testFails.pwr.cPrev = s.pwr.cPrev ∧ s.testFails.pwr.holdTestEn = false ∧ s.testFails.fld F.PWR_EVENTS_TEST_FAIL 0 = 1 ∧
    s.testFails.fld F.PWR_EVENTS_TEST_DONE 0 = 1 ∧
    Within (([.ops, .pwr, .reg .MBX_EVENTS, .reg .PWR_EVENTS] : List Part) ++ eventParts) s.testFails s := by
  unfold State.testFails
  extract_lets a _
  let b : State := { a with pwr := { a.pwr with failed := true } }
  let d := b.event F.PWR_EVENTS_TEST_FAIL 0 0
  have ha : Within (([.pwr, .reg .PWR_EVENTS] : List Part) ++ eventParts) a s := State.setBudget_within (by decide)
  have hb : Within (([.pwr, .reg .PWR_EVENTS] : List Part) ++ eventParts) b s := .step (by decide) (.pwr a _) ha
  have hd : Within (.reg .PWR_EVENTS :: eventParts) d b := State.event_within (by decide) (by decide)
  have pwr : d.pwr = { s.pwr with budget := 0, failed := true } := by
    refine (hd.keeps .pwr (by decide)).trans ?_
    show { a.pwr with failed := true } = _
    rw [show a.pwr = { s.pwr with budget := 0 } from State.setBudget_pwr]
  have fail : d.fld F.PWR_EVENTS_TEST_FAIL 0 = 1 := State.fld_event (by decide) rfl (by decide)
  obtain ⟨ends, done, keep, w⟩ := d.testEnds_spec (r := Ms.success)
  rw [ends, pwr]
  exact ⟨rfl, rfl, rfl, rfl, rfl, keep.trans fail, done, w.trans ((hd.mono (by decide)).trans (hb.mono (by decide)))⟩

/-- A test that is due, by the staging in use (R502 steps 1 to 3). -/
theorem exec_capacitorTest {v1 vs : ℕ} (hub : s.hubOn = true) (hd : s.testDue = true)
    (hp : s.pwr.test.phase = .idle ∨ s.pwr.test.phase = .steady ∨ s.pwr.test.phase = .draining) :
    let a := s.setBudget (min s.pwr.budget (s.bTest v1))
    let x := { s.pwr.test with eTest := a.testEnergy v1 }
    exec (.capacitorTest v1 vs) s = if s.bTest v1 < s.pwr.stagingUse then .next { a with pwr := { a.pwr with test := { x with phase := .draining, v1 := v1 } } }
      else .next { a with pwr := { a.pwr with holdTestEn := true, test := { x with phase := .discharging, v1 := v1, vs := vs, startAt := a.now } } } := by
  intro a x
  have use : a.pwr.stagingUse = s.pwr.stagingUse := by unfold a; rw [State.setBudget_pwr]
  have test : a.pwr.test = s.pwr.test := by unfold a; rw [State.setBudget_pwr]
  show execCapacitorTest v1 vs s = _
  unfold execCapacitorTest
  rw [if_neg (by rcases hp with hp | hp | hp <;> simp [hub, hd, hp])]
  dsimp only
  rw [use, test]

/-- A lower budget than the staging in use is an event (R504). -/
theorem State.setBudget_drop {b : ℕ} (h : b < s.pwr.stagingUse) : (s.setBudget b).fld F.PWR_EVENTS_BUDGET_DROP 0 = 1 := by
  unfold State.setBudget
  exact (if_pos h).symm ▸ State.fld_event (by decide) rfl (by decide)

/-- The state in which PWR_FAIL_N has fallen. -/
def State.failLow (s : State) : State := { s with pwr := { s.pwr with pwrFailN := false } }

theorem exec_pwrFailNFall : exec .pwrFailNFall s = if s.start.running ∧ s.start.step < 10 then
      .next { (s.failLow.toMode .stopped) with pwr := { (s.failLow.toMode .stopped).pwr with cause := 1, lowOnStop := false, holdEn := false } }
    else .next (s.failLow.enterHoldup 1) := rfl

/-- The dump's end (R498). -/
theorem dumpEnd_spec {complete : Bool} (hm : s.pwr.mode = .holdup) : leads (.dumpEnd complete) s fun t => t.pwr.mode = .stopped ∧
    t.pwr.dumps = s.dumpRecord (complete && s.pwr.dumpParts) :: s.pwr.dumps ∧ t.pwr.dumpSeq = s.pwr.dumpSeq + 1 ∧
    t.pwr.writtenSet = some s.pwr.armedSet ∧ t.pwr.holdEn = false ∧ t.pwr.lowOnStop = decide (s.pwr.cause = 3) ∧
    (∀ c, (t.chan c).wpHigh = false) ∧
    keepsBut (([.atl, .fch, .pwr, .svy, .reg .PWR_EVENTS] : List Part) ++ eventParts) s t := by
  let d := s.dumpRecord (complete && s.pwr.dumpParts)
  let a : State := { s.writeReserve with pwr := { s.pwr with dumps := d :: s.pwr.dumps, dumpSeq := d.seq, writtenSet := some s.pwr.armedSet } }
  let b := a.record 0x0E6 0 0 0x0005 (d.seq % 2 ^ 32 + b2n d.complete * 2 ^ 32 + a.pwr.cause * 2 ^ 33)
  have ha : Within [.atl, .svy, .pwr] a s := .step (by decide) (.pwr s.writeReserve _) (State.writeReserve_within (by decide))
  have hb : Within recordParts b a := State.record_within fun _ h => h
  obtain ⟨pwr, wp, w⟩ := b.stopNow_spec
  have eq : exec (.dumpEnd complete) s = .next b.stopNow := by
    show execDumpEnd complete s = _
    unfold execDumpEnd
    rw [if_neg (by simp [hm])]
  rw [show b.pwr = a.pwr from hb.keeps .pwr (by decide)] at pwr
  refine ⟨b.stopNow, eq, ?_, ?_, ?_, ?_, ?_, ?_, wp, Within.keeps ((w.mono (by decide)).trans ((hb.mono (by decide)).trans (ha.mono (by decide))))⟩ <;> rw [pwr]
  rfl

end

/-- Settles O38: the entry to HOLDUP, the stop and the reset once each, and then each trigger by its mode. -/
theorem holdupAndTheCapacitorTest : Obligations.HoldupAndTheCapacitorTest := by
  unfold Obligations.HoldupAndTheCapacitorTest
  intro s q
  refine ⟨fun hr hs => ?_, fun hr hub => ?_, fun rail hrail => ⟨fun hr hub => ?_, fun hub hr => ⟨fun h0 => ?_, fun h0 h10 => ?_⟩, fun hm hlo => ?_, fun hm hhi => ?_,
    fun hm h1 => ?_, fun hm h1 => ?_⟩, fun complete hm => dumpEnd_spec hm, fun hm => ?_, fun hm hc => ?_, fun hq => ⟨fun idle => ?_, fun busy => ?_⟩,
    fun v1 vs hd => ?_, fun v1 vs hub hd hp => ⟨fun low => ?_, fun fits => ?_⟩, fun hp => ⟨?_, fun late => ?_⟩, fun early => ?_, fun hp => ?_⟩
  · let a := s.failLow.toMode .stopped
    have ha : Within (([.pwr, .reg .PWR_EVENTS] : List Part) ++ eventParts) a s.failLow := State.toMode_within (by decide) (by decide) (by decide)
    have pwr : a.pwr = { s.failLow.pwr with mode := .stopped } := State.toMode_pwr
    refine ⟨_, exec_pwrFailNFall.trans (if_pos ⟨hr, hs⟩), (congrArg Power.mode pwr :), rfl, rfl, (congrArg Power.pwrFailN pwr :), (congrArg Power.dumps pwr :),
      Within.keeps (.step (by decide) (.pwr a _) (ha.trans (.step (by decide) (.pwr s _) .rfl)))⟩
  · obtain ⟨pwr, cmds, cpls, ops, admission, -⟩ := State.enterHoldup_spec (s := s.failLow) (c := 1) hub
    refine ⟨_, exec_pwrFailNFall.trans (if_neg (by rcases hr with hr | hr <;> simp [hr])), ?_, ?_, ?_, cmds, cpls, ops, admission, ?_,
      Within.keeps (.trans (State.enterHoldup_within (by decide)) (.step (by decide) (.pwr s _) .rfl))⟩ <;> rw [pwr] <;> rfl
  · obtain ⟨r, bit, pwr, ev, w⟩ := s.markRail_spec (rail := rail)
    have hub' : (s.markRail rail).hubOn = true := by rw [State.hubOn, pwr]; exact hub
    obtain ⟨pwr', cmds, -, -, -, kept⟩ := State.enterHoldup_spec (s := s.markRail rail) (c := 2) hub'
    refine ⟨(s.markRail rail).enterHoldup 2, ?_, ?_, ?_, ?_, kept.trans ev, cmds,
      Within.keeps (.trans (State.enterHoldup_within (by decide)) (w.mono (by decide)))⟩
    · rw [exec_railTrip_hub hrail hub, if_neg, if_neg]
      · rcases hr with hr | hr <;> simp [hr]
      · rcases hr with hr | hr
        · simp [hr]
        · omega
    · rw [pwr']
    · rw [pwr']
    · rw [pwr', pwr]
      exact bit
  · refine ⟨_, (exec_railTrip_hub hrail hub).trans (if_pos ⟨hr, h0⟩), rfl, Within.keeps (.step (by decide) (.start s _) .rfl)⟩
  · obtain ⟨r, bit, pwr, ev, w⟩ := s.markRail_spec (rail := rail)
    let a : State := { s.markRail rail with pwr := { (s.markRail rail).pwr with cause := 2 } }
    obtain ⟨stop, wp, ws⟩ := a.stopNow_spec
    have apwr : a.pwr = { s.pwr with railsTripped := r, cause := 2 } := by
      show { (s.markRail rail).pwr with cause := 2 } = _
      rw [pwr]
    rw [apwr] at stop
    refine ⟨a.stopNow, (exec_railTrip_hub hrail hub).trans ((if_neg (by omega)).trans (if_pos ⟨hr, h10⟩)), ?_, ?_, ?_, ?_, ?_, wp,
      Within.keeps ((ws.mono (by decide)).trans (.step (by decide) (.pwr (s.markRail rail) _) (w.mono (by decide))))⟩ <;> rw [stop]
    exact bit
  · obtain ⟨r, bit, pwr, ev, w⟩ := s.markRail_spec (rail := rail)
    let a : State := { s.markRail rail with pwr := { (s.markRail rail).pwr with dumpAbort := true } }
    obtain ⟨stop, wp, ws⟩ := a.stopNow_spec
    have apwr : a.pwr = { s.pwr with railsTripped := r, dumpAbort := true } := by
      show { (s.markRail rail).pwr with dumpAbort := true } = _
      rw [pwr]
    rw [apwr] at stop
    have run := exec_railTrip (s := s) hrail
    rw [hm] at run
    refine ⟨a.stopNow, run.trans (if_pos hlo), ?_, ?_, ?_, ?_, wp,
      Within.keeps ((ws.mono (by decide)).trans (.step (by decide) (.pwr (s.markRail rail) _) (w.mono (by decide))))⟩ <;> rw [stop]
    exact bit
  · obtain ⟨r, bit, pwr, ev, w⟩ := s.markRail_spec (rail := rail)
    have run := exec_railTrip (s := s) hrail
    rw [hm] at run
    refine ⟨s.markRail rail, run.trans (if_neg (by omega)), ?_, ?_, ev, w.keeps⟩ <;> rw [pwr]
    · exact hm
    · exact bit
  · obtain ⟨mode, -, -, dat, -⟩ := s.toVault_spec
    have run := exec_railTrip (s := s) hrail
    rw [hm] at run
    exact ⟨s.toVault, run.trans (if_pos h1), mode, dat, (State.toVault_within fun _ h => h).keeps⟩
  · have run := exec_railTrip (s := s) hrail
    rw [hm] at run
    exact run.trans (if_neg h1)
  · obtain ⟨mode, hold, stopped, dat, dumps, fuses⟩ := s.toVault_spec
    exact ⟨s.toVault, if_pos hm, mode, hold, stopped, dat, dumps, fuses, (State.toVault_within fun _ h => h).keeps⟩
  · obtain ⟨left, -⟩ := State.restart_spec (s := s) (kind := 3)
    refine ⟨{ s.restart 3 with pwr := { (s.restart 3).pwr with pwrFailN := true } }, if_pos ⟨hm, hc⟩, left.running, left.step, rfl, left.dat, left.dumps, left.cmds,
      Within.keeps (.step (by decide) (.pwr (s.restart 3) _) (State.restart_within fun _ h => h))⟩
  · let r := s.toService.startLong q 0x0804 []
    let v : State := { r.2 with pwr := { r.2.pwr with test := { r.2.pwr.test with phase := .steady, handle := some r.1 } } }
    have hu : Within toServiceParts s.toService s := State.toService_within fun _ h => h
    have hr : Within (.nextHandle :: mbxParts) r.2 s.toService := State.startLong_within (by decide)
    have hv : Within [.pwr] v r.2 := .step (by decide) (.pwr r.2 _) .rfl
    have next : s.toService.nextHandle = s.nextHandle := hu.keeps .nextHandle (by decide)
    have handle : r.1 = s.handle 0x0804 := by
      show s.toService.handle 0x0804 = _
      rw [State.handle, next]
      rfl
    have count : r.2.nextHandle = s.nextHandle + 1 := by
      rw [← next]
      exact (State.respond_within_resp (L := respParts) fun _ h => h).keeps .nextHandle (by decide)
    rw [← List.append_nil (bytesLe 4 _)]
    exact leads_long (i := .holdupTest q) hq rfl (v := v) (if_neg (by simp [idle])) hu (by decide) (by decide) hv
      ⟨rfl, congrArg some handle, count, Within.keeps ((hv.mono (by decide)).trans ((hr.mono (by decide)).trans (hu.mono (by decide))))⟩
  · refine leads_answer hq rfl (if_pos busy)
  · exact if_pos (.inr (.inl hd))
  · let a := s.setBudget (min s.pwr.budget (s.bTest v1))
    have ha : Within (([.pwr, .reg .PWR_EVENTS] : List Part) ++ eventParts) a s := State.setBudget_within (by decide)
    have budget : a.pwr.budget = min s.pwr.budget (s.bTest v1) := by unfold a; rw [State.setBudget_pwr]
    have hold : a.pwr.holdTestEn = s.pwr.holdTestEn := by unfold a; rw [State.setBudget_pwr]
    have drop : a.fld F.PWR_EVENTS_BUDGET_DROP 0 = 1 := State.setBudget_drop (by omega)
    refine ⟨_, (exec_capacitorTest hub hd hp).trans (if_pos low), rfl, budget, hold, drop,
      Within.keeps (.step (by decide) (.pwr a _) ha)⟩
  · let a := s.setBudget (min s.pwr.budget (s.bTest v1))
    have ha : Within (([.pwr, .reg .PWR_EVENTS] : List Part) ++ eventParts) a s := State.setBudget_within (by decide)
    have budget : a.pwr.budget = min s.pwr.budget (s.bTest v1) := by unfold a; rw [State.setBudget_pwr]
    refine ⟨_, (exec_capacitorTest hub hd hp).trans (if_neg (by omega)), rfl, budget, rfl, ha.keeps .now (by decide),
      Within.keeps (.step (by decide) (.pwr a _) ha)⟩
  · intro r x c esr e
    have run : exec .bankReachesV2 s = if s.fld F.PWR_HOLD_LIMITS_ESR_MAX_MOHM 0 < esr ∨ s.budgetOf e = 0 then
          .next (State.testFails { s with pwr := { s.pwr with holdTestEn := false, esr := esr } })
        else .next { s with pwr := { s.pwr with holdTestEn := false, esr := esr, cPrev := some c, eMeasured := e, failed := false,
                                                test := { x with phase := .recharging, newBudget := s.budgetOf e } } } := if_neg (by simp [hp])
    refine ⟨fun ok => ?_, fun bad => ?_⟩
    · exact ⟨_, run.trans (if_neg (by omega)), rfl, rfl, rfl, rfl, rfl, rfl, rfl, Within.keeps (.step (by decide) (.pwr s _) .rfl)⟩
    · let a : State := { s with pwr := { s.pwr with holdTestEn := false, esr := esr } }
      obtain ⟨budget, failed, phase, prev, hold, fail, done, w⟩ := a.testFails_spec
      exact ⟨a.testFails, run.trans (if_pos bad), budget, failed, phase, prev, fail, done, hold, Within.keeps (w.trans (.step (by decide) (.pwr s _) .rfl))⟩
  · obtain ⟨budget, failed, phase, -, hold, fail, done, w⟩ := s.testFails_spec
    exact ⟨s.testFails, if_pos ⟨hp, late⟩, budget, failed, phase, hold, fail, done, w.keeps⟩
  · exact if_neg (by omega)
  · obtain ⟨pwr, done, -, w⟩ := (s.setBudget s.pwr.test.newBudget).testEnds_spec (r := Ms.success)
    have hw : Within (([.pwr, .reg .PWR_EVENTS] : List Part) ++ eventParts) (s.setBudget s.pwr.test.newBudget) s := State.setBudget_within (by decide)
    refine ⟨_, if_pos hp, ?_, ?_, ?_, ?_, done, Within.keeps (w.trans (hw.mono (by decide)))⟩ <;> rw [pwr]
    · rw [State.setBudget_pwr]
    · exact congrArg Plotter.frame (hw.keeps .plt (by decide))

end Sys2Proof.Machine
end

section
/-! Survey (O48). -/

namespace Sys2Proof.Machine

section

/-- A re-qualification that ends on an unfenced Plotter lane with a fault of its own noted. -/
def strandingTest : Test := ⟨0x030, 0, 0, 0, none, true, false⟩

/-- Lane 0 runs that re-qualification; every other lane is isolated, lane 1 by a test that runs. -/
def lastCarrier : State :=
  { State.reset with
    flt := (unitKey 0x030 0, { FltUnit.reset with requal := some 0, requalBad := true }) ::
      (List.range' 1 15).map fun i => (unitKey 0x030 i, { FltUnit.reset with isolated := true })
    srv := { State.reset.srv with running := [strandingTest, ⟨0x030, 1, 0, 0, none, false, false⟩] } }

/-- Refutes O48: the failed re-qualification fences lane 0, which leaves lane 1 without a sibling; its test is aborted behind the verdict, and
SRV_LAST_UNIT shows that abort, 3, where the statement has the failure, 2. -/
theorem not_testsStartEndAndJudgeTheirUnits : ¬ Obligations.TestsStartEndAndJudgeTheirUnits := by
  unfold Obligations.TestsStartEndAndJudgeTheirUnits
  intro h
  obtain ⟨-, -, -, ends⟩ := h lastCarrier ⟨0, 0, 0, 0, true, []⟩
  obtain ⟨-, -, failed⟩ := ends 0x030 0 strandingTest 0 rfl (by decide) (by decide) (.inl rfl) rfl (by decide)
  obtain ⟨t, eq, verdict, -⟩ := failed rfl rfl
  obtain rfl : _ = t := Host.Outcome.next.inj eq
  exact absurd verdict (by decide +kernel)

end

end Sys2Proof.Machine
end

section
/-! Tiles and their pools (O50). -/

namespace Sys2Proof.Machine

section
variable {α : Type} {l : List α} {i j : ℕ} {v : α}

theorem getElem?_listSet : (listSet l i v)[j]? = if j = i then (l[i]?).map (fun _ => v) else l[j]? := by
  induction l generalizing i j with
  | nil => simp [listSet]
  | cons x xs ih => cases i <;> cases j <;> simp [listSet, ih]

theorem getElem?_listSet_self {x : α} (h : l[i]? = some x) : (listSet l i v)[i]? = some v := by simp [getElem?_listSet, h]
theorem getElem?_listSet_ne (h : j ≠ i) : (listSet l i v)[j]? = l[j]? := by simp [getElem?_listSet, h]
end

section
variable {s t : State} {n p q k r : ℕ} {x y z : TPool} {L : List Part}

/-! ### What the tile operations make of chapter 14's words -/

/-- What a pool's words may change beside themselves: its watermark and the watermark's event. -/
def poolParts : List Part := [.til, .reg .TIL_POOL_WM] ++ eventParts

theorem State.setTPool_til : (s.setTPool p x).til = { s.til with pool := listSet s.til.pool p x } := by
  unfold State.setTPool
  extract_lets was l src s1
  split
  · exact Within.keeps (L := .reg .TIL_POOL_WM :: eventParts) (.trans (State.event_within (by decide) (by decide)) (State.bump_within (by decide))) .til (by decide)
  · rfl

theorem State.setTPool_out : s.out <:+ (s.setTPool p x).out := by
  unfold State.setTPool
  extract_lets was l src s1
  split
  · exact State.event_out (s := s1.bump F.TIL_POOL_WM_COUNT p 1)
  · exact List.suffix_rfl

theorem State.setTPool_tile : (s.setTPool p x).til.tile = s.til.tile := by rw [State.setTPool_til]

theorem State.tileOf_congr (h : t.til.tile = s.til.tile) : t.tileOf k = s.tileOf k := by rw [State.tileOf, State.tileOf, h]
theorem State.tileOf_setTPool : (s.setTPool p x).tileOf k = s.tileOf k := State.tileOf_congr (by rw [State.setTPool_til])

theorem State.setTile_pool {c : Tile} : (s.setTile n c).til.pool = s.til.pool := rfl

theorem State.pool_self (h : s.til.pool[p]? = some y) : (s.setTPool p x).til.pool[p]? = some x := by
  rw [State.setTPool_til]
  exact getElem?_listSet_self h

theorem State.pool_ne (h : k ≠ p) : (s.setTPool p x).til.pool[k]? = s.til.pool[k]? := by
  rw [State.setTPool_til]
  exact getElem?_listSet_ne h

/-- A tile that joins a pool stands at the head of its free list. -/
theorem State.tileInto_til (h : s.til.pool[p]? = some x) :
    (s.tileInto n p).til = { (s.setTile n ⟨.free, false, p, 0⟩).til with pool := listSet s.til.pool p { x with free := n :: x.free } } := by
  unfold State.tileInto
  rw [h]
  exact State.setTPool_til

theorem State.tileInto_tile (h : s.til.pool[p]? = some x) : (s.tileInto n p).tileOf k = if k = n then ⟨.free, false, p, 0⟩ else s.tileOf k := by
  rw [State.tileOf_congr (s := s.setTile n ⟨.free, false, p, 0⟩) (by rw [State.tileInto_til h])]
  split
  case isTrue e => rw [e, State.tileOf_setTile]
  case isFalse e => rw [State.tileOf_setTile_ne e]

theorem State.tileInto_pool (h : s.til.pool[p]? = some x) :
    (s.tileInto n p).til.pool = listSet s.til.pool p { x with free := n :: x.free } := by
  rw [State.tileInto_til h]

theorem State.moveSize_til (hp : s.til.pool[p]? = some x) (hq : s.til.pool[q]? = some y) :
    (s.moveSize p q).til = { s.til with pool := listSet (listSet s.til.pool p { x with size := x.size - 1 }) q { y with size := y.size + 1 } } := by
  unfold State.moveSize
  rw [hp, hq]
  dsimp only
  rw [State.setTPool_til, State.setTPool_til]

/-- The end of a resize leaves every pool and tile as it is. -/
theorem State.resizeDone_til : s.resizeDone.til.pool = s.til.pool ∧ s.resizeDone.til.tile = s.til.tile ∧ s.resizeDone.til.retired = s.til.retired := by
  unfold State.resizeDone
  split
  · have til : (((({ s with til := { s.til with resizing := false } } : State).setFld F.TIL_CTRL_APPLY 0 0).event F.TIL_EVENTS_RESIZE_DONE 0 0)).til =
        { s.til with resizing := false } :=
      Within.keeps (L := .reg .TIL_CTRL :: .reg .TIL_EVENTS :: eventParts) (t := ({ s with til := { s.til with resizing := false } } : State))
        (.trans (State.event_within (by decide) (by decide)) (State.setFld_within (by decide))) .til (by decide)
    rw [til]
    exact ⟨rfl, rfl, rfl⟩
  · exact ⟨rfl, rfl, rfl⟩

theorem State.poolBelow_congr (h : ∀ k : ℕ, (t.til.pool[k]?).map (fun z : TPool => (z.size, z.target)) = (s.til.pool[k]?).map (fun z : TPool => (z.size, z.target))) :
    t.poolBelow = s.poolBelow := by
  unfold State.poolBelow
  congr 1
  funext k
  have := h k
  cases ht : t.til.pool[k]? <;> cases hs : s.til.pool[k]? <;> simp_all

theorem State.poolBelow_some (h : s.poolBelow = some k) : ∃ z, s.til.pool[k]? = some z ∧ z.size < z.target := by
  have := List.find?_some h
  cases hz : s.til.pool[k]? with
  | none => simp [hz] at this
  | some z => exact ⟨z, rfl, by simpa [hz] using this⟩

/-- The head tile taken by its holders. -/
theorem State.takeHead_til {m : ℕ} {rest : List ℕ} (hp : s.til.pool[p]? = some y) (hx : x.free = m :: rest) :
    (s.takeHead p k r x).til.pool[p]? = some { x with free := rest, reserved := r, inUse := x.inUse + 1 } ∧
      (∀ j, j ≠ p → (s.takeHead p k r x).til.pool[j]? = s.til.pool[j]?) ∧ (s.takeHead p k r x).tileOf m = ⟨.allocated, false, p, k⟩ ∧
      (∀ j, j ≠ m → (s.takeHead p k r x).tileOf j = s.tileOf j) ∧ sent s (s.takeHead p k r x) (.answer 0x060 [m]) := by
  unfold State.takeHead
  rw [hx]
  refine ⟨State.pool_self (s := s.setTile m _) hp, fun j hj => State.pool_ne (s := s.setTile m _) hj, State.tileOf_setTPool.trans State.tileOf_setTile,
    fun j hj => State.tileOf_setTPool.trans (State.tileOf_setTile_ne hj), ?_⟩
  exact sent_of_suffix (State.setTPool_out (s := s.setTile m _)) List.suffix_rfl

/-- A freed tile of a pool that has no tile to give. -/
theorem State.tileFreed_plain (hy : s.til.pool[(s.tileOf n).pool]? = some y) (hr : (s.tileOf n).retire = false)
    (stay : s.til.resizing = false ∨ y.size ≤ y.target) :
    s.tileFreed n = (s.setTPool (s.tileOf n).pool { y with inUse := y.inUse - 1 }).tileInto n (s.tileOf n).pool := by
  unfold State.tileFreed
  dsimp only
  rw [hy]
  dsimp only
  rw [hr, if_neg Bool.false_ne_true, if_neg]
  rw [State.setTPool_til]
  rintro ⟨resizing, more⟩
  rcases stay with h | h
  · exact absurd (h.symm.trans resizing) Bool.false_ne_true
  · omega

/-- A freed tile that a resize takes to the pool below its target (R433). -/
theorem State.tileFreed_moved (hy : s.til.pool[(s.tileOf n).pool]? = some y) (hr : (s.tileOf n).retire = false) (resizing : s.til.resizing = true)
    (more : y.target < y.size) (hk : s.poolBelow = some k) :
    s.tileFreed n = (((s.setTPool (s.tileOf n).pool { y with inUse := y.inUse - 1 }).moveSize (s.tileOf n).pool k).tileInto n k).resizeDone := by
  have same : (s.setTPool (s.tileOf n).pool { y with inUse := y.inUse - 1 }).poolBelow = some k := by
    rw [← hk]
    refine State.poolBelow_congr fun j => ?_
    by_cases e : j = (s.tileOf n).pool
    · rw [e, State.pool_self hy, hy]; rfl
    · rw [State.pool_ne e]
  unfold State.tileFreed
  dsimp only
  rw [hy]
  dsimp only
  rw [hr, if_neg Bool.false_ne_true, if_pos ⟨by rw [State.setTPool_til]; exact resizing, more⟩, same]

/-- A freed tile that was marked retires (R440), before the end of a resize is looked for. -/
def State.tileRetired (s : State) (n p : ℕ) (y : TPool) : State :=
  let a := (s.setTPool p { y with inUse := y.inUse - 1 }).setTPool p
    { y with inUse := y.inUse - 1, size := y.size - 1, target := y.target - 1, limit := y.limit - 1 }
  let b := (a.setFld F.TIL_POOL_TGT_TARGET p (a.fld F.TIL_POOL_TGT_TARGET p - 1)).setTile n ⟨.retired, true, p, 0⟩
  { b with til := { b.til with retired := b.til.retired + 1 } }

theorem State.tileFreed_retired (hy : s.til.pool[(s.tileOf n).pool]? = some y) (hr : (s.tileOf n).retire = true) :
    s.tileFreed n = ((s.tileRetired n (s.tileOf n).pool y).event F.TIL_EVENTS_SRAM_UE 0 0).resizeDone := by
  unfold State.tileFreed
  dsimp only
  rw [hy]
  dsimp only
  rw [hr, if_pos rfl]
  rfl

/-- A tile that leaves the pools for good. -/
def Til.retire (w : Til) (n p : ℕ) : Til := { w with tile := tabSet Tile.home w.tile n ⟨.retired, true, p, 0⟩, retired := w.retired + 1 }

theorem State.tileRetired_til : (s.tileRetired n p y).til = Til.retire { s.til with
    pool := listSet (listSet s.til.pool p { y with inUse := y.inUse - 1 }) p
      { y with inUse := y.inUse - 1, size := y.size - 1, target := y.target - 1, limit := y.limit - 1 } } n p := by
  show Til.retire (State.til (State.setTPool _ _ _)) n p = _
  rw [State.setTPool_til, State.setTPool_til]

theorem State.takeHead_frame : Within poolParts (s.takeHead p k r x) s := State.takeHead_within (by decide)

/-! ### A resize (R433) -/

/-- The target of a pool. -/
def State.targetOf (s : State) (p : ℕ) : Option ℕ := (s.til.pool[p]?).map TPool.target

theorem State.targetOf_setTPool (h : s.til.pool[p]? = some y) (same : x.target = y.target) : (s.setTPool p x).targetOf k = s.targetOf k := by
  unfold State.targetOf
  by_cases e : k = p
  · rw [e, State.pool_self h, h, Option.map_some, same]; rfl
  · rw [State.pool_ne e]

theorem State.targetOf_tileInto : (s.tileInto n p).targetOf k = s.targetOf k := by
  unfold State.tileInto
  split
  next => rfl
  next x h => exact State.targetOf_setTPool (s := s.setTile n ⟨.free, false, p, 0⟩) h rfl

theorem State.targetOf_moveSize : (s.moveSize p q).targetOf k = s.targetOf k := by
  unfold State.moveSize
  split
  next x y hx hy =>
    by_cases e : q = p
    · have hq : (s.setTPool p { x with size := x.size - 1 }).til.pool[q]? = some { x with size := x.size - 1 } := by rw [e, State.pool_self hx]
      obtain rfl : x = y := by rw [e, hx] at hy; exact Option.some.inj hy
      exact (State.targetOf_setTPool (x := { x with size := x.size + 1 }) hq rfl).trans (State.targetOf_setTPool (x := { x with size := x.size - 1 }) hx rfl)
    · exact (State.targetOf_setTPool (x := { y with size := y.size + 1 }) ((State.pool_ne e).trans hy) rfl).trans
        (State.targetOf_setTPool (x := { x with size := x.size - 1 }) hx rfl)
  next => rfl

theorem State.targetOf_moveFree : (State.moveFree n s).targetOf k = s.targetOf k := by
  induction n generalizing s with
  | zero => rfl
  | succ n ih =>
    rw [State.moveFree]
    split
    · split
      next x hx =>
        split
        next m rest hf => exact ih.trans (State.targetOf_tileInto.trans (State.targetOf_moveSize.trans (State.targetOf_setTPool hx rfl)))
        next => rfl
      next => rfl
    · rfl

/-- Where no pool stands above its target, no tile moves. -/
theorem State.moveFree_rest (h : ∀ (p : ℕ) (x : TPool), s.til.pool[p]? = some x → x.size ≤ x.target) : State.moveFree n s = s := by
  cases n with
  | zero => rfl
  | succ n =>
    have none : (List.range 8).find? (fun p => ((s.til.pool[p]?).map (fun t => decide (t.target < t.size ∧ t.avail ≠ 0))).getD false) = none := by
      rw [List.find?_eq_none]
      intro p _
      cases hx : s.til.pool[p]? with
      | none => simp
      | some x =>
        have := h p x hx
        simp only [Option.map_some, Option.getD_some, decide_eq_true_eq]
        omega
    rw [State.moveFree]
    split
    next e _ => exact absurd (e.symm.trans none) (by simp)
    next => rfl

/-- The check that APPLY makes of the targets (R433). -/
def State.targetsOk (s : State) : Prop :=
  (∀ p, p < 8 → 8 ≤ s.fld F.TIL_POOL_TGT_TARGET p ∧ ∃ y, s.til.pool[p]? = some y ∧ y.inUse + y.reserved ≤ s.fld F.TIL_POOL_TGT_TARGET p) ∧
    (List.range 8).foldl (fun m p => m + s.fld F.TIL_POOL_TGT_TARGET p) 0 = 4096 - s.til.retired

/-- The pools under their new targets, in a resize. -/
def State.retargeted (s : State) : State :=
  ({ s with til := { s.til with
    pool := ((List.range 8).zip s.til.pool).map fun e => { e.2 with target := s.fld F.TIL_POOL_TGT_TARGET e.1 }, resizing := true } } : State).setFld F.TIL_CTRL_APPLY 0 1

theorem State.targetsOk_iff : ((List.range 8).all (fun p => decide (8 ≤ s.fld F.TIL_POOL_TGT_TARGET p)
      && ((s.til.pool[p]?).map (fun t => decide (t.inUse + t.reserved ≤ s.fld F.TIL_POOL_TGT_TARGET p))).getD false)
    && decide ((List.range 8).foldl (fun n p => n + s.fld F.TIL_POOL_TGT_TARGET p) 0 = 4096 - s.til.retired)) = true ↔ s.targetsOk := by
  unfold State.targetsOk
  rw [Bool.and_eq_true, List.all_eq_true, decide_eq_true_eq]
  refine and_congr (forall_congr' fun p => ?_) Iff.rfl
  rw [List.mem_range, Bool.and_eq_true, decide_eq_true_eq]
  refine imp_congr_right fun _ => and_congr_right fun _ => ?_
  cases s.til.pool[p]? <;> simp

theorem State.applyTargets_refused (h : ¬s.targetsOk) : s.applyTargets = s.event F.TIL_EVENTS_CFG_ERR 0 0 := by
  unfold State.applyTargets
  extract_lets tgt ok
  rw [if_pos]
  rw [Bool.not_eq_true', ← Bool.not_eq_true]
  exact fun k => h (State.targetsOk_iff.mp k)

theorem State.applyTargets_ok (h : s.targetsOk) : s.applyTargets = (State.moveFree 4096 s.retargeted).resizeDone := by
  unfold State.applyTargets
  extract_lets tgt ok
  rw [if_neg]
  · rfl
  · rw [show ok = true from State.targetsOk_iff.mpr h]
    exact Bool.false_ne_true

theorem State.retargeted_pool : s.retargeted.til.pool[p]? =
    if p < 8 then (s.til.pool[p]?).map fun y => { y with target := s.fld F.TIL_POOL_TGT_TARGET p } else none := by
  show (List.map _ (List.zip _ _))[p]? = _
  rw [List.getElem?_map, List.zip, List.getElem?_zipWith]
  by_cases hp : p < 8
  · rw [if_pos hp, List.getElem?_range hp]
    cases s.til.pool[p]? <;> rfl
  · rw [if_neg hp, List.getElem?_eq_none (by simpa using hp)]
    rfl
end

section
variable {s : State} {n p k : ℕ} {y : TPool}

theorem exec_tileRelease_last (hn : n < 4096) (one : (s.tileOf n).ref = 1) :
    exec (.tileRelease n) s = .next ((s.setTile n { s.tileOf n with ref := 0 }).tileFreed n) := by
  show execTileRelease n s = _
  unfold execTileRelease
  dsimp only
  rw [if_neg (by omega), if_neg (by omega), if_pos one, one]

/-- A tile whose last holder releases it is free again, in its own pool. -/
theorem tileRelease_frees (hn : n < 4096) (one : (s.tileOf n).ref = 1) (hy : s.til.pool[(s.tileOf n).pool]? = some y) (hr : (s.tileOf n).retire = false)
    (stay : s.til.resizing = false ∨ y.size ≤ y.target) :
    leads (.tileRelease n) s fun t => t.tileOf n = ⟨.free, false, (s.tileOf n).pool, 0⟩ ∧ (∀ k, k ≠ n → t.tileOf k = s.tileOf k) ∧
      t.til.pool[(s.tileOf n).pool]? = some { y with inUse := y.inUse - 1, free := n :: y.free } ∧
      (∀ k, k ≠ (s.tileOf n).pool → t.til.pool[k]? = s.til.pool[k]?) ∧ keepsBut poolParts s t := by
  obtain ⟨c, hc⟩ : ∃ c, c = s.tileOf n := ⟨_, rfl⟩
  rw [← hc] at one hy hr ⊢
  have tile : (s.setTile n { c with ref := 0 }).tileOf n = { c with ref := 0 } := State.tileOf_setTile
  have eq := exec_tileRelease_last hn (hc ▸ one)
  rw [← hc, State.tileFreed_plain (s := s.setTile n { c with ref := 0 }) (y := y) (by rw [tile]; exact hy) (by rw [tile]; exact hr) stay, tile] at eq
  refine ⟨_, eq, ?_⟩
  have pool : ((s.setTile n { c with ref := 0 }).setTPool c.pool { y with inUse := y.inUse - 1 }).til.pool[c.pool]? =
      some { y with inUse := y.inUse - 1 } := State.pool_self (s := s.setTile n _) hy
  refine ⟨?_, fun k hk => ?_, ?_, fun k hk => ?_, ?_⟩
  · rw [State.tileInto_tile pool, if_pos rfl]
  · rw [State.tileInto_tile pool, if_neg hk, State.tileOf_setTPool, State.tileOf_setTile_ne hk]
  · rw [State.tileInto_pool pool, getElem?_listSet_self pool]
  · rw [State.tileInto_pool pool, getElem?_listSet_ne hk]
    exact State.pool_ne (s := s.setTile n _) hk
  · exact Within.keeps (.trans (State.tileInto_within (by decide)) (.trans (State.setTPool_within (by decide)) (State.setTile_within (by decide))))

/-- During a resize it goes to the pool below its target, with its place in the sizes (R433). -/
theorem tileRelease_moves (hn : n < 4096) (one : (s.tileOf n).ref = 1) (hy : s.til.pool[(s.tileOf n).pool]? = some y) (hr : (s.tileOf n).retire = false)
    (resizing : s.til.resizing = true) (more : y.target < y.size) (hk : s.poolBelow = some k) :
    leads (.tileRelease n) s fun t => t.tileOf n = ⟨.free, false, k, 0⟩ ∧ (∀ j, j ≠ n → t.tileOf j = s.tileOf j) ∧
      (t.til.pool[(s.tileOf n).pool]?.map TPool.size) = some (y.size - 1) ∧
      (t.til.pool[k]?.map TPool.size) = (s.til.pool[k]?.map (fun z => z.size + 1)) ∧
      keepsBut (([.reg .TIL_CTRL, .reg .TIL_EVENTS] : List Part) ++ poolParts) s t := by
  obtain ⟨c, hc⟩ : ∃ c, c = s.tileOf n := ⟨_, rfl⟩
  rw [← hc] at one hy hr ⊢
  have tile : (s.setTile n { c with ref := 0 }).tileOf n = { c with ref := 0 } := State.tileOf_setTile
  have eq := exec_tileRelease_last hn (hc ▸ one)
  rw [← hc, State.tileFreed_moved (s := s.setTile n { c with ref := 0 }) (y := y) (k := k) (by rw [tile]; exact hy) (by rw [tile]; exact hr) resizing more hk, tile] at eq
  refine ⟨_, eq, ?_⟩
  obtain ⟨z, hz, below⟩ := State.poolBelow_some hk
  have ne : k ≠ c.pool := by
    rintro rfl
    obtain rfl : y = z := Option.some.inj (hy.symm.trans hz)
    omega
  obtain ⟨v, hv⟩ : ∃ v, v = (s.setTile n { c with ref := 0 }).setTPool c.pool { y with inUse := y.inUse - 1 } := ⟨_, rfl⟩
  have vp : v.til.pool[c.pool]? = some { y with inUse := y.inUse - 1 } := by rw [hv]; exact State.pool_self (s := s.setTile n _) hy
  have vk : v.til.pool[k]? = some z := by rw [hv]; exact (State.pool_ne (s := s.setTile n _) ne).trans hz
  have vt : ∀ j, j ≠ n → v.tileOf j = s.tileOf j := fun j hj => by rw [hv, State.tileOf_setTPool, State.tileOf_setTile_ne hj]
  have vf : Within poolParts v s := by rw [hv]; exact .trans (State.setTPool_within (by decide)) (State.setTile_within (by decide))
  dsimp only
  rw [← hv]
  have til := State.moveSize_til vp vk
  have wk : (v.moveSize c.pool k).til.pool[k]? = some { z with size := z.size + 1 } := by
    rw [til]
    exact getElem?_listSet_self ((getElem?_listSet_ne ne).trans vk)
  obtain ⟨pool, words, -⟩ := State.resizeDone_til (s := (v.moveSize c.pool k).tileInto n k)
  refine ⟨?_, fun j hj => ?_, ?_, ?_, ?_⟩
  · rw [State.tileOf_congr words, State.tileInto_tile wk, if_pos rfl]
  · rw [State.tileOf_congr words, State.tileInto_tile wk, if_neg hj, ← vt j hj]
    exact State.tileOf_congr (by rw [til])
  · rw [pool, State.tileInto_pool wk, getElem?_listSet_ne ne.symm, til]
    dsimp only
    rw [getElem?_listSet_ne ne.symm, getElem?_listSet_self vp]
    rfl
  · rw [pool, State.tileInto_pool wk, getElem?_listSet_self wk, hz]
    rfl
  · exact Within.keeps (.trans (State.resizeDone_within (by decide)) (.trans (State.tileInto_within (by decide))
      (.trans (State.moveSize_within (by decide)) (vf.mono (by decide)))))

/-- A marked tile retires with its last holder (R440). -/
theorem tileRelease_retires (hn : n < 4096) (one : (s.tileOf n).ref = 1) (hy : s.til.pool[(s.tileOf n).pool]? = some y) (hr : (s.tileOf n).retire = true) :
    leads (.tileRelease n) s fun t => (t.tileOf n).st = .retired ∧ (∀ k, k ≠ n → t.tileOf k = s.tileOf k) ∧ t.til.retired = s.til.retired + 1 ∧
      (t.til.pool[(s.tileOf n).pool]?.map TPool.size) = some (y.size - 1) ∧ t.fld F.TIL_EVENTS_SRAM_UE 0 = 1 ∧
      (∀ k, k ≠ (s.tileOf n).pool → t.til.pool[k]? = s.til.pool[k]?) ∧
      keepsBut (([.reg .TIL_CTRL, .reg .TIL_EVENTS, .reg .TIL_POOL_TGT] : List Part) ++ poolParts) s t := by
  obtain ⟨c, hc⟩ : ∃ c, c = s.tileOf n := ⟨_, rfl⟩
  rw [← hc] at one hy hr ⊢
  have tile : (s.setTile n { c with ref := 0 }).tileOf n = { c with ref := 0 } := State.tileOf_setTile
  have eq := exec_tileRelease_last hn (hc ▸ one)
  rw [← hc, State.tileFreed_retired (y := y) (by rw [tile]; exact hy) (by rw [tile]; exact hr), tile] at eq
  refine ⟨_, eq, ?_⟩
  obtain ⟨v, hv⟩ : ∃ v, v = (s.setTile n { c with ref := 0 }).tileRetired n c.pool y := ⟨_, rfl⟩
  have til : v.til = _ := hv ▸ State.tileRetired_til
  dsimp only
  rw [← hv]
  obtain ⟨e, he⟩ : ∃ e, e = v.event F.TIL_EVENTS_SRAM_UE 0 0 := ⟨_, rfl⟩
  have same : e.til = v.til := by rw [he]; exact (State.event_within (L := .reg .TIL_EVENTS :: eventParts) (by decide) (by decide)).keeps .til (by decide)
  rw [← he]
  obtain ⟨pool, words, gone⟩ := State.resizeDone_til (s := e)
  rw [same, til] at pool words gone
  refine ⟨?_, fun j hj => ?_, gone, ?_, ?_, fun j hj => ?_, ?_⟩
  · rw [State.tileOf, words]
    show (tabGet Tile.home (tabSet Tile.home (s.setTile n { c with ref := 0 }).til.tile n ⟨.retired, true, c.pool, 0⟩) n).st = _
    rw [tabGet_set_self]
  · rw [State.tileOf, words]
    show tabGet Tile.home (tabSet Tile.home (s.setTile n { c with ref := 0 }).til.tile n ⟨.retired, true, c.pool, 0⟩) j = _
    rw [tabGet_set_ne _ _ _ hj]
    exact (State.tileOf_setTile_ne (s := s) (t := n) (x := { c with ref := 0 }) hj)
  · rw [pool]
    refine congrArg (Option.map TPool.size) (getElem?_listSet_self (l := listSet s.til.pool c.pool _) (getElem?_listSet_self hy))
  · have one : e.fld F.TIL_EVENTS_SRAM_UE 0 = 1 := by rw [he]; exact State.fld_event (by decide) rfl (by decide)
    unfold State.resizeDone
    split
    · rw [State.fld_event_ne (by decide) (by decide), State.fld_setFld_ne (by decide)]
      exact one
    · exact one
  · rw [pool]
    exact (getElem?_listSet_ne hj).trans (getElem?_listSet_ne hj)
  · have vf : Within (.til :: .reg .TIL_POOL_TGT :: poolParts) v s := by
      rw [hv]
      exact .trans (t := s.setTile n { c with ref := 0 }) (.step (by decide) (.til (State.setTile _ _ _) _) (.trans (State.setTile_within (by decide)) (.trans (State.setFld_within (by decide))
        (.trans (State.setTPool_within (by decide)) (State.setTPool_within (by decide)))))) (State.setTile_within (by decide))
    rw [he]
    exact Within.keeps (.trans (State.resizeDone_within (by decide)) (.trans (State.event_within (by decide) (by decide)) (vf.mono (by decide))))


/-- An allocation from a pool whose free list is sound takes its head. -/
theorem State.checkList_sound {rest : List ℕ} (hp : s.til.pool[p]? = some y) (hf : y.free = n :: rest) (free : (s.tileOf n).st = .free) :
    s.checkList p false = s := by
  unfold State.checkList
  rw [hp]
  dsimp only
  rw [hf]
  simp [free]

theorem State.correctedFault_out {r : FaultReport} : s.out <:+ (s.correctedFault r).out := by
  unfold State.correctedFault
  extract_lets u due n src u' s1
  split
  · exact State.record_out (s := s1)
  · exact List.suffix_rfl

/-- A damaged free list is built from the control words before its head is taken (R439). -/
theorem State.checkList_damaged {old : ℕ} {l : List ℕ} (hp : s.til.pool[p]? = some y) (hf : y.free = old :: l) (fen : s.fenced 0x060 0 = false)
    (iso : (s.unit 0x060 0).isolated = false) :
    (s.checkList p true).til = { s.til with
      pool := listSet s.til.pool p { y with free := (List.range 4096).filter (fun i => decide ((s.tileOf i).st = .free ∧ (s.tileOf i).pool = p)) } } ∧
      (s.checkList p true).fld F.TIL_EVENTS_LIST_REBUILT 0 = 1 ∧
      ((s.checkList p true).unit 0x060 0).corr = min 255 ((s.unit 0x060 0).corr + 1) ∧ s.out <:+ (s.checkList p true).out ∧
      Within (([.flt, .reg .TIL_EVENTS] : List Part) ++ poolParts) (s.checkList p true) s := by
  have eq : s.checkList p true = s.rebuildList p y := by
    unfold State.checkList
    rw [hp]
    dsimp only
    rw [hf]
    rfl
  rw [eq, State.rebuildList]
  obtain ⟨free, hfree⟩ : ∃ free, free = (List.range 4096).filter (fun i => decide ((s.tileOf i).st = .free ∧ (s.tileOf i).pool = p)) := ⟨_, rfl⟩
  dsimp only
  rw [← hfree]
  obtain ⟨v, hv⟩ : ∃ v, v = (s.setTPool p { y with free := free }).event F.TIL_EVENTS_LIST_REBUILT 0 0 := ⟨_, rfl⟩
  have ev : v.fld F.TIL_EVENTS_LIST_REBUILT 0 = 1 := by rw [hv]; exact State.fld_event (by decide) rfl (by decide)
  have vf : Within (.reg .TIL_EVENTS :: poolParts) v s := by
    rw [hv]
    exact .trans (State.event_within (by decide) (by decide)) (State.setTPool_within (by decide))
  have vt : v.til = { s.til with pool := listSet s.til.pool p { y with free := free } } := by
    rw [hv]
    exact ((State.event_within (L := .reg .TIL_EVENTS :: eventParts) (by decide) (by decide)).keeps .til (by decide)).trans State.setTPool_til
  have vo : s.out <:+ v.out := by rw [hv]; exact State.setTPool_out.trans State.event_out
  rw [← hv]
  have vu : v.unit 0x060 0 = s.unit 0x060 0 := vf.unit (by decide)
  obtain ⟨corr, -, w⟩ := State.raiseAt_corrected (s := v) (b := 0x060) (i := 0) (c := 0x01) (d := p) (by decide) (by rw [vu, iso])
    (by rw [State.fenced, vu]; exact fen) rfl
  refine ⟨(w.keeps .til (by decide)).trans vt, (w.fld (by decide)).trans ev, ?_, vo.trans ?_, .trans (w.mono (by decide)) (vf.mono (by decide))⟩
  · rw [corr, vu]
    rfl
  · rw [State.raiseAt, State.raise_plain (by decide) (by rw [vu, iso]) (by rw [State.fenced, vu]; exact fen)]
    exact State.correctedFault_out

/-- The tile an allocation takes from the pool as the check of its list leaves it. -/
theorem exec_allocSpot {d : Bool} (hp : s.til.pool[p]? = some y) (one : 1 ≤ k) (few : k ≤ 255) (some' : y.avail ≠ 0) {z : TPool}
    (hz : (s.checkList p d).til.pool[p]? = some z) : exec (.allocSpot p ⟨k, d⟩) s = .next ((s.checkList p d).takeHead p k z.reserved z) := by
  show execAllocSpot p ⟨k, d⟩ s = _
  unfold execAllocSpot
  rw [hp]
  dsimp only
  rw [if_neg (by omega), if_neg some', hz]

theorem exec_allocReserved {d : Bool} (hp : s.til.pool[p]? = some y) (one : 1 ≤ k) (few : k ≤ 255) (held : y.reserved ≠ 0) {z : TPool}
    (hz : (s.checkList p d).til.pool[p]? = some z) :
    exec (.allocReserved p ⟨k, d⟩) s = .next ((s.checkList p d).takeHead p k (z.reserved - 1) z) := by
  show execAllocReserved p ⟨k, d⟩ s = _
  unfold execAllocReserved
  rw [hp]
  dsimp only
  rw [if_neg (by omega), hz]


/-- RESERVE and UNRESERVE change one pool's reservations. -/
theorem tileReserve_leads (hy : s.til.pool[p]? = some y) :
    (y.avail < k → leads (.tileReserve p k) s fun t => t.out = .answer 0x060 [0] :: s.out ∧ keepsBut [.out] s t) ∧
    (k ≤ y.avail → leads (.tileReserve p k) s fun t => t.til.pool[p]? = some { y with reserved := y.reserved + k } ∧
      (∀ j, j ≠ p → t.til.pool[j]? = s.til.pool[j]?) ∧ sent s t (.answer 0x060 [1]) ∧ t.til.tile = s.til.tile ∧ keepsBut poolParts s t) ∧
    (leads (.tileUnreserve p k) s fun t => t.til.pool[p]? = some { y with reserved := y.reserved - k } ∧
      (∀ j, j ≠ p → t.til.pool[j]? = s.til.pool[j]?) ∧ t.til.tile = s.til.tile ∧ keepsBut poolParts s t) := by
  have eq : ∀ k, exec (.tileReserve p k) s = if y.avail < k then .next (s.emit (.answer 0x060 [0]))
      else .next ((s.setTPool p { y with reserved := y.reserved + k }).emit (.answer 0x060 [1])) := fun k => by
    show execTileReserve p k s = _
    unfold execTileReserve
    rw [hy]
  have back : exec (.tileUnreserve p k) s = .next (s.setTPool p { y with reserved := y.reserved - k }) := by
    show execTileUnreserve p k s = _
    unfold execTileUnreserve
    rw [hy]
  refine ⟨fun h => ⟨_, (eq k).trans (if_pos h), rfl, Within.keeps (State.emit_within (by decide))⟩,
    fun h => ⟨_, (eq k).trans (if_neg (by omega)), State.pool_self hy, fun j hj => State.pool_ne hj, ?_, ?_, ?_⟩,
    ⟨_, back, State.pool_self hy, fun j hj => State.pool_ne hj, ?_, Within.keeps (State.setTPool_within (by decide))⟩⟩
  · exact sent_of_suffix State.setTPool_out List.suffix_rfl
  · exact State.setTPool_tile
  · exact Within.keeps (.trans (State.emit_within (by decide)) (State.setTPool_within (by decide)))
  · exact State.setTPool_tile

/-- What an allocation from a sound free list leaves. -/
theorem allocation_leads {i : Instr} {r : ℕ} {rest : List ℕ} (hy : s.til.pool[p]? = some y) (hf : y.free = n :: rest)
    (run : exec i s = .next (s.takeHead p k r y)) :
    leads i s fun t => t.tileOf n = ⟨.allocated, false, p, k⟩ ∧ (∀ j, j ≠ n → t.tileOf j = s.tileOf j) ∧
      t.til.pool[p]? = some { y with free := rest, reserved := r, inUse := y.inUse + 1 } ∧ (∀ j, j ≠ p → t.til.pool[j]? = s.til.pool[j]?) ∧
      sent s t (.answer 0x060 [n]) ∧ keepsBut poolParts s t := by
  obtain ⟨pool, pools, tile, tiles, out⟩ := State.takeHead_til (k := k) (r := r) hy hf
  exact ⟨_, run, tile, tiles, pool, pools, out, State.takeHead_frame.keeps⟩

/-- An allocation from a list that had to be rebuilt takes the lowest tile that the control words call free. -/
theorem allocSpot_rebuilt {m old : ℕ} {l rest : List ℕ} (hy : s.til.pool[p]? = some y) (hf : y.free = old :: l) (avail : y.avail ≠ 0) (one : 1 ≤ k) (few : k ≤ 255)
    (fen : s.fenced 0x060 0 = false) (iso : (s.unit 0x060 0).isolated = false)
    (new : (List.range 4096).filter (fun i => decide ((s.tileOf i).st = .free ∧ (s.tileOf i).pool = p)) = m :: rest) :
    leads (.allocSpot p ⟨k, true⟩) s fun t => t.tileOf m = ⟨.allocated, false, p, k⟩ ∧ (∀ i, i ≠ m → t.tileOf i = s.tileOf i) ∧
      t.til.pool[p]? = some { y with free := rest, inUse := y.inUse + 1 } ∧ t.fld F.TIL_EVENTS_LIST_REBUILT 0 = 1 ∧
      (t.unit 0x060 0).corr = min 255 ((s.unit 0x060 0).corr + 1) ∧ sent s t (.answer 0x060 [m]) ∧
      keepsBut (([.flt, .reg .TIL_EVENTS] : List Part) ++ poolParts) s t := by
  obtain ⟨til, ev, corr, out, w⟩ := State.checkList_damaged hy hf fen iso
  rw [new] at til
  have hz : (s.checkList p true).til.pool[p]? = some { y with free := m :: rest } := by rw [til]; exact getElem?_listSet_self hy
  obtain ⟨pool, pools, tile, tiles, ans⟩ := State.takeHead_til (s := s.checkList p true) (x := { y with free := m :: rest }) (k := k) (r := y.reserved) hz rfl
  have tw : Within poolParts ((s.checkList p true).takeHead p k y.reserved { y with free := m :: rest }) (s.checkList p true) := State.takeHead_frame
  refine ⟨_, exec_allocSpot hy one few avail hz, tile, fun i hi => (tiles i hi).trans (State.tileOf_congr (by rw [til])), pool,
    (tw.fld (by decide)).trans ev, ?_, ans.mono out List.suffix_rfl, Within.keeps (.trans (tw.mono (by decide)) w)⟩
  rw [tw.unit (by decide), corr]

theorem tileSramUe_leads (hn : n < 4096) (hx : (s.tileOf n).st = .allocated) (fen : s.fenced 0x060 0 = false) (iso : (s.unit 0x060 0).isolated = false) :
    leads (.tileSramUe n false) s fun t => t.tileOf n = { s.tileOf n with retire := true } ∧ (∀ k, k ≠ n → t.tileOf k = s.tileOf k) ∧
      t.fld F.TIL_ECC_UE 0 = min 65535 (s.fld F.TIL_ECC_UE 0 + 1) ∧ sent s t (.answer 0x060 [0xFFFE, n]) ∧ (t.unit 0x060 0).lastCause = 0x02 ∧
      keepsBut (([.flt, .til, .reg .TIL_ECC] : List Part) ++ recordParts) s t := by
  obtain ⟨a, ha⟩ : ∃ a, a = s.setTile n { s.tileOf n with retire := true } := ⟨_, rfl⟩
  obtain ⟨v, hv⟩ : ∃ v, v = (a.bump F.TIL_ECC_UE 0 1).emit (.answer 0x060 [0xFFFE, n]) := ⟨_, rfl⟩
  have va : Within [.out, .reg .TIL_ECC] v a := by rw [hv]; exact .trans (State.emit_within (by decide)) (State.bump_within (by decide))
  have vs : Within [.out, .til, .reg .TIL_ECC] v s := .trans (va.mono (by decide)) (by rw [ha]; exact State.setTile_within (by decide))
  have unit : v.unit 0x060 0 = s.unit 0x060 0 := vs.unit (by decide)
  have eq : exec (.tileSramUe n false) s = .next (v.containedFault ⟨0x060, 0, 0x02, n, false, none⟩) := by
    show execTileSramUe n false s = _
    unfold execTileSramUe
    extract_lets x b c
    have hc : c = v := by rw [hv, ha]
    rw [if_neg (by simp [x, hx]; omega), hc, State.raise_plain (by decide) (by rw [unit, iso]) (by rw [State.fenced, unit]; exact fen)]
    rfl
  obtain ⟨w, hr, -, -, -, cause, -⟩ := v.containedFault_spec (r := ⟨0x060, 0, 0x02, n, false, none⟩)
  have rw' : Within (.flt :: recordParts) (v.containedFault ⟨0x060, 0, 0x02, n, false, none⟩) v := .trans (hr.mono (by decide)) (State.setUnit_within (by decide))
  have til : (v.containedFault ⟨0x060, 0, 0x02, n, false, none⟩).til = a.til := (rw'.keeps .til (by decide)).trans (va.keeps .til (by decide))
  have tile : ∀ k, (v.containedFault ⟨0x060, 0, 0x02, n, false, none⟩).tileOf k = a.tileOf k := fun k => State.tileOf_congr (by rw [til])
  refine ⟨_, eq, ?_, fun k hk => ?_, ?_, ?_, ?_, ?_⟩
  · rw [tile, ha, State.tileOf_setTile]
  · rw [tile, ha, State.tileOf_setTile_ne hk]
  · rw [rw'.fld (by decide), hv]
    refine (State.fld_bump (by decide)).trans ?_
    rw [ha]
    rfl
  · refine sent_of_suffix (v := a.bump F.TIL_ECC_UE 0 1) (by rw [ha]; exact List.suffix_rfl) ?_
    have : Out.answer 0x060 [0xFFFE, n] :: (a.bump F.TIL_ECC_UE 0 1).out = v.out := by rw [hv]; rfl
    rw [this]
    unfold State.containedFault
    exact State.record_out (s := v.setUnit _ _ _)
  · rw [hr.unit (by decide)]
    exact (congrArg FltUnit.lastCause (State.unit_setUnit ..)).trans cause
  · exact Within.keeps (.trans (rw'.mono (by decide)) (vs.mono (by decide)))

/-- APPLY with targets that pass: they stand at once, and where the sizes meet them the resize ends. -/
theorem tileApply_ok (h : s.targetsOk) :
    leads .tileApply s fun t => (∀ p, p < 8 → (t.til.pool[p]?).map TPool.target = some (s.fld F.TIL_POOL_TGT_TARGET p)) ∧
      ((∀ p, p < 8 → (s.til.pool[p]?).map TPool.size = some (s.fld F.TIL_POOL_TGT_TARGET p)) → t.til.resizing = false ∧
        t.fld F.TIL_CTRL_APPLY 0 = 0 ∧ t.fld F.TIL_EVENTS_RESIZE_DONE 0 = 1) ∧
      keepsBut (([.reg .TIL_CTRL, .reg .TIL_EVENTS] : List Part) ++ poolParts) s t := by
  have eq : exec .tileApply s = .next (State.moveFree 4096 s.retargeted).resizeDone := congrArg Host.Outcome.next (State.applyTargets_ok h)
  refine ⟨_, eq, fun p hp => ?_, fun sizes => ?_, ?_⟩
  · obtain ⟨y, hy, -⟩ := (h.1 p hp).2
    rw [State.resizeDone_til.1]
    refine (State.targetOf_moveFree (s := s.retargeted)).trans ?_
    rw [State.targetOf, State.retargeted_pool, if_pos hp, hy]
    rfl
  · have met : ∀ (p : ℕ) (x : TPool), s.retargeted.til.pool[p]? = some x → x.size = x.target := fun p x hx => by
      rw [State.retargeted_pool] at hx
      split at hx
      next hp =>
        obtain ⟨y, hy, rfl⟩ := Option.map_eq_some_iff.mp hx
        have := sizes p hp
        rw [hy] at this
        exact Option.some.inj this
      next => cases hx
    rw [State.moveFree_rest fun p x hx => (met p x hx).le]
    have all : s.retargeted.til.pool.all (fun t => decide (t.size = t.target)) = true := by
      rw [List.all_eq_true]
      intro x hx
      obtain ⟨p, hp⟩ := List.mem_iff_getElem?.mp hx
      exact decide_eq_true (met p x hp)
    unfold State.resizeDone
    rw [if_pos (by rw [all]; rfl)]
    refine ⟨congrArg Til.resizing (Within.keeps (L := .reg .TIL_CTRL :: .reg .TIL_EVENTS :: eventParts)
      (.trans (State.event_within (by decide) (by decide)) (State.setFld_within (by decide))) .til (by decide)), ?_, State.fld_event (by decide) rfl (by decide)⟩
    rw [State.fld_event_ne (by decide) (by decide)]
    exact State.fld_setFld (by decide)
  · exact Within.keeps (.trans (State.resizeDone_within (by decide)) (.trans (State.moveFree_within (by decide))
      (.trans (State.setFld_within (by decide)) (.step (by decide) (.til s _) .rfl))))

end

/-- Settles O50: a pool's words change through `setTPool` alone, and no operation on them reaches a tile it does not name. -/
theorem tilesAreReservedAllocatedAndFreed : Obligations.TilesAreReservedAllocatedAndFreed := by
  unfold Obligations.TilesAreReservedAllocatedAndFreed
  intro s n hn
  dsimp only
  refine ⟨fun h => ?_, fun h => ?_, fun y one hy => ⟨fun hr stay => tileRelease_frees hn one hy hr stay,
    fun k hr rs more hk => tileRelease_moves hn one hy hr rs more hk, fun hr => tileRelease_retires hn one hy hr⟩, fun h => ?_, fun h => ?_,
    fun p y k hy => ⟨(tileReserve_leads hy).1, (tileReserve_leads hy).2.1, (tileReserve_leads hy).2.2,
      fun rest hf free one few => ⟨fun held => ?_, fun avail => ?_⟩,
      fun m old l rest hf avail one few fen iso new => allocSpot_rebuilt hy hf avail one few fen iso new, fun d none one few => ?_⟩,
    fun hx fen iso => tileSramUe_leads hn hx fen iso, fun h => ?_, tileApply_ok⟩
  · have eq : exec (.tileRelease n) s = .next (s.event F.TIL_EVENTS_REL_UNDERFLOW 0 0) := by
      show execTileRelease n s = _
      unfold execTileRelease
      dsimp only
      rw [if_neg (by omega), if_pos h]
    have w : Within (.reg .TIL_EVENTS :: eventParts) (s.event F.TIL_EVENTS_REL_UNDERFLOW 0 0) s := State.event_within (by decide) (by decide)
    exact ⟨_, eq, w.keeps .til (by decide), State.fld_event (by decide) rfl (by decide), w.keeps⟩
  · have eq : exec (.tileRelease n) s = .next (s.setTile n { s.tileOf n with ref := (s.tileOf n).ref - 1 }) := by
      show execTileRelease n s = _
      unfold execTileRelease
      dsimp only
      rw [if_neg (by omega), if_neg (by omega), if_neg (by omega)]
    exact ⟨_, eq, State.tileOf_setTile, fun k hk => State.tileOf_setTile_ne hk, rfl, Within.keeps (State.setTile_within (by decide))⟩
  · have eq : exec (.addRef n) s = .next (s.event F.TIL_EVENTS_REF_OVERFLOW 0 0) := by
      show execAddRef n s = _
      unfold execAddRef
      dsimp only
      rw [if_neg (by omega), if_pos h]
    have w : Within (.reg .TIL_EVENTS :: eventParts) (s.event F.TIL_EVENTS_REF_OVERFLOW 0 0) s := State.event_within (by decide) (by decide)
    exact ⟨_, eq, w.keeps .til (by decide), State.fld_event (by decide) rfl (by decide), w.keeps⟩
  · have eq : exec (.addRef n) s = .next (s.setTile n { s.tileOf n with ref := (s.tileOf n).ref + 1 }) := by
      show execAddRef n s = _
      unfold execAddRef
      dsimp only
      rw [if_neg (by omega), if_neg (by omega)]
    exact ⟨_, eq, State.tileOf_setTile, fun k hk => State.tileOf_setTile_ne hk, rfl, Within.keeps (State.setTile_within (by decide))⟩
  · have sound := State.checkList_sound hy hf free
    exact allocation_leads hy hf ((exec_allocReserved hy one few held (d := false) (z := y) (by rw [sound]; exact hy)).trans (by rw [sound]))
  · have sound := State.checkList_sound hy hf free
    exact allocation_leads hy hf ((exec_allocSpot hy one few avail (d := false) (z := y) (by rw [sound]; exact hy)).trans (by rw [sound]))
  · have eq : exec (.allocSpot p ⟨k, d⟩) s = .next (s.emit (.answer 0x060 [0xFFFF])) := by
      show execAllocSpot p ⟨k, d⟩ s = _
      unfold execAllocSpot
      rw [hy]
      dsimp only
      rw [if_neg (by omega), if_pos none]
    exact ⟨_, eq, rfl, Within.keeps (State.emit_within (by decide))⟩
  · have eq : exec .tileApply s = .next (s.event F.TIL_EVENTS_CFG_ERR 0 0) := congrArg Host.Outcome.next (State.applyTargets_refused h)
    have w : Within (.reg .TIL_EVENTS :: eventParts) (s.event F.TIL_EVENTS_CFG_ERR 0 0) s := State.event_within (by decide) (by decide)
    exact ⟨_, eq, w.keeps .til (by decide), State.fld_event (by decide) rfl (by decide), w.keeps⟩

end Sys2Proof.Machine
end

section
/-! DRAM channels (O51). -/

namespace Sys2Proof.Machine

section
variable {s t : State} {ch : ℕ} {x : Dram} {r : DReq} {L : List Part}

/-! ### One DRAM channel -/

theorem levelOf_le (a b : ℕ) : levelOf a b ≤ 3 := by
  unfold levelOf
  split
  · omega
  · split
    · omega
    · split <;> omega

theorem State.reqLevel_le : s.reqLevel ch r ≤ 3 := by
  unfold State.reqLevel
  split
  · exact levelOf_le ..
  · omega

theorem Within.dramCh {c : ℕ} (h : Within L t s) (hd : .dram ∉ L) : t.dramCh c = s.dramCh c := by
  rw [State.dramCh, State.dramCh, show t.dram = s.dram from h.keeps .dram hd]

/-- A channel's words put, whatever other part follows. -/
theorem Within.dramChs (h : Within L t (s.setDram ch x)) (hd : .dram ∉ L) :
    t.dramCh ch = x ∧ ∀ c, c ≠ ch → t.dramCh c = s.dramCh c :=
  ⟨(h.dramCh hd).trans State.dramCh_setDram, fun _ hc => (h.dramCh hd).trans (State.dramCh_setDram_ne hc)⟩

/-! ### What a slot issues (R448) -/

/-- A lone request goes in front of nothing but itself. -/
theorem Dram.first_alone (h : x.queue = [r]) : x.first r = r := by
  have free : x.inOrder r.bank = false := by
    unfold Dram.inOrder
    rw [h]
    cases decide (r.bank = r.bank) <;> simp
  unfold Dram.first
  rw [free, h]
  cases hw : r.wr <;> simp [hw]

/-- A slot after calibration and a forced refresh, with one request waiting. -/
theorem exec_dramIssueSlot_one (hch : ch < 12) (hf : (s.dramCh ch).fenced = false) (hs : (s.dramCh ch).selfRef = false)
    (hm : (s.dramCh ch).maint = []) (hq : (s.dramCh ch).queue = [r]) (h3 : s.refLevel ch ≠ some 3) :
    (∀ l, s.refLevel ch = some l → s.reqLevel ch r < l → exec (.dramIssueSlot ch) s = .next (s.issueRefresh ch l)) ∧
      (s.refLevel ch = none ∨ (∃ l, s.refLevel ch = some l ∧ l < s.reqLevel ch r) → exec (.dramIssueSlot ch) s = .next (s.issue ch r (s.reqLevel ch r))) := by
  have idle : s.maintNow ch = false := by
    unfold State.maintNow
    dsimp only
    rw [hm]
  have top : [r].foldl (fun m r => max m (s.reqLevel ch r)) 0 = s.reqLevel ch r := by simp
  have cands : [r].filter (fun q => decide (s.reqLevel ch q = s.reqLevel ch r)) = [r] := by simp
  have pick : (if s.reqLevel ch r = 3 then [r].head? else
      ([r].find? (fun q => decide (tabGet (fun _ => 0) (s.dramCh ch).rows q.bank = q.row + 1))).orElse (fun _ => [r].head?)) = some r := by
    split
    · rfl
    · rw [List.find?_singleton]
      split <;> rfl
  have go : ∀ o, s.refLevel ch = o → exec (.dramIssueSlot ch) s = match o with
      | none => .next (s.issue ch r (s.reqLevel ch r))
      | some l =>
        if s.reqLevel ch r < l ∨ (l = s.reqLevel ch r ∧ (decide (s.reqLevel ch r ≠ 3) && decide (tabGet (fun _ => 0) (s.dramCh ch).rows r.bank = r.row + 1)) = false ∧
            (((s.dramCh ch).refDue.head?.map Prod.snd).getD s.now) < r.arrival) then .next (s.issueRefresh ch l)
        else .next (s.issue ch r (s.reqLevel ch r)) := by
    intro o h
    show execDramIssueSlot ch s = _
    unfold execDramIssueSlot
    dsimp only
    rw [if_neg (by rw [hf, hs]; simp; omega), if_neg h3, idle, if_neg Bool.false_ne_true, hq, top, cands, pick, h]
    cases o <;> dsimp only <;> rw [Dram.first_alone hq]
  refine ⟨fun l hl less => ?_, fun h => ?_⟩
  · rw [go (some l) hl]
    exact if_pos (.inl less)
  · rcases h with h | ⟨l, hl, less⟩
    · exact go none h
    · rw [go (some l) hl]
      exact if_neg (by omega)

/-- A refresh is the first due, counted and recorded where it was forced. -/
theorem State.issueRefresh_spec (l : ℕ) : (s.issueRefresh ch l).dramCh ch = { s.dramCh ch with refDue := (s.dramCh ch).refDue.tail } ∧
    (∀ c, c ≠ ch → (s.issueRefresh ch l).dramCh c = s.dramCh c) ∧ (l = 3 → (s.issueRefresh ch l).fld F.DRC_CH_EVENTS_REF_FORCED ch = 1) ∧
    Within (([.dram, .reg .DRC_CH_EVENTS, .reg .DRC_PORT_STATUS] : List Part) ++ eventParts) (s.issueRefresh ch l) s := by
  unfold State.issueRefresh
  extract_lets x u
  have w : Within (([.reg .DRC_CH_EVENTS, .reg .DRC_PORT_STATUS] : List Part) ++ eventParts)
      (if l = 3 then (u.bump F.DRC_PORT_STATUS_L3_COUNT 11 1).event F.DRC_CH_EVENTS_REF_FORCED ch 0 else u) u :=
    .ite (.trans (State.event_within (by decide) (by decide)) (State.bump_within (by decide))) .rfl
  obtain ⟨self, others⟩ := Within.dramChs w (by decide)
  refine ⟨self, others, fun h => ?_, .trans (w.mono (by decide)) (State.setDram_within (by decide))⟩
  rw [if_pos h]
  exact State.fld_event (by decide) rfl (by decide)

/-- A request that is issued leaves the queue, opens its row and waits for its data if it reads. -/
theorem State.issue_spec (l : ℕ) : (s.issue ch r l).dramCh ch = { s.dramCh ch with
      queue := (s.dramCh ch).queue.filter (fun o => decide (o ≠ r)), rows := tabSet (fun _ => 0) (s.dramCh ch).rows r.bank (r.row + 1),
      waiting := if r.wr then (s.dramCh ch).waiting else (s.dramCh ch).waiting ++ [r] } ∧
    (∀ c, c ≠ ch → (s.issue ch r l).dramCh c = s.dramCh c) ∧ Within [.dram, .reg .DRC_PORT_STATUS] (s.issue ch r l) s := by
  unfold State.issue
  extract_lets x u
  have w : Within [.reg .DRC_PORT_STATUS] (if l = 3 then u.bump F.DRC_PORT_STATUS_L3_COUNT r.port 1 else u) u := .ite (State.bump_within (by decide)) .rfl
  obtain ⟨self, others⟩ := Within.dramChs w (by decide)
  exact ⟨self, others, .trans (w.mono (by decide)) (State.setDram_within (by decide))⟩


/-! ### Errors (R451 to R453) -/

/-- An uncorrectable error as it is answered, addressed and counted. -/
def State.ueNoted (s : State) (ch port addr : ℕ) : State :=
  ((((s.emit (.answer 0x070 [port, addr, 0])).setFld F.DRC_UE_ADDR_PORT ch port).setFld F.DRC_UE_ADDR_ADDR ch (addr / 256)).bump F.DRC_CH_ECC_UE ch 1).event
    F.DRC_CH_EVENTS_UE ch 0

/-- It is a CONTAINED fault of its channel, and its region is remembered. -/
def State.ueKept (s : State) (ch port addr : ℕ) : State :=
  let v := (s.ueNoted ch port addr).containedFault ⟨0x070, ch, 0x0C, addr, false, none⟩
  v.setDram ch { v.dramCh ch with ues := rememberUe (s.dramCh ch).ues (addr / 2 ^ 26) v.plt.frame }

/-- What an uncorrectable error may change before a region is fenced. -/
def ueParts : List Part := [.dram, .flt, .reg .DRC_CH_ECC, .reg .DRC_CH_EVENTS, .reg .DRC_UE_ADDR] ++ eventParts

theorem State.ueNoted_within {port addr : ℕ} :
    Within (([.reg .DRC_CH_ECC, .reg .DRC_CH_EVENTS, .reg .DRC_UE_ADDR] : List Part) ++ eventParts) (s.ueNoted ch port addr) s :=
  .trans (State.event_within (by decide) (by decide)) (.trans (State.bump_within (by decide)) (.trans (State.setFld_within (by decide))
    (.trans (State.setFld_within (by decide)) (State.emit_within (by decide)))))

theorem State.containedFault_unit {q : FaultReport} : ((s.containedFault q).unit q.block q.inst).isolated = (s.unit q.block q.inst).isolated := by
  have w : Within recordParts (s.containedFault q) (s.setUnit q.block q.inst
      { (s.unit q.block q.inst).mark .contained q.cause q.injected with cont := satAdd 255 (s.unit q.block q.inst).cont 1 }) := by
    unfold State.containedFault
    exact State.record_within (by decide)
  rw [w.unit (by decide), State.unit_setUnit]
  rfl

theorem exec_dramUe {port addr : ℕ} (hch : ch < 12) (hx : (s.dramCh ch).fenced = false) (fen : s.fenced 0x070 ch = false) (iso : (s.unit 0x070 ch).isolated = false) :
    exec (.dramUe ch port addr .tail false) s = .next (
      if (((s.dramCh ch).ues.find? (fun e => decide (e.1 = addr / 2 ^ 26 ∧ ((s.ueNoted ch port addr).containedFault ⟨0x070, ch, 0x0C, addr, false, none⟩).plt.frame
          < e.2 + 86400000))).isSome = true) ∧ (!(s.dramCh ch).regions.contains (addr / 2 ^ 26)) = true then
        if 8 < (((s.ueKept ch port addr).raiseAt 0x070 ch 0x0D (addr / 2 ^ 26)).dramCh ch).regions.length
        then ((s.ueKept ch port addr).raiseAt 0x070 ch 0x0D (addr / 2 ^ 26)).raiseAt 0x070 ch 0x0E 0
        else (s.ueKept ch port addr).raiseAt 0x070 ch 0x0D (addr / 2 ^ 26)
      else s.ueKept ch port addr) := by
  have unit : (s.ueNoted ch port addr).unit 0x070 ch = s.unit 0x070 ch := State.ueNoted_within.unit (by decide)
  have raised : (s.ueNoted ch port addr).raise ⟨0x070, ch, 0x0C, addr, false, none⟩ = (s.ueNoted ch port addr).containedFault ⟨0x070, ch, 0x0C, addr, false, none⟩ := by
    rw [State.raise_plain hch (by rw [unit, iso]) (by rw [State.fenced, unit]; exact fen)]
    rfl
  show execDramUe ch port addr .tail false s = _
  unfold execDramUe
  extract_lets x region s1 s2 s3 s4 again src s5 s6
  have h4 : s4 = (s.ueNoted ch port addr).containedFault ⟨0x070, ch, 0x0C, addr, false, none⟩ := raised
  have h5 : s5 = s.ueKept ch port addr := by
    unfold State.ueKept
    rw [← h4]
  rw [if_neg (by rw [show x.fenced = false from hx, fen]; simp; omega), if_neg Bool.false_ne_true, ← h4, ← h5]
  rw [apply_ite Host.Outcome.next, apply_ite Host.Outcome.next]

variable {port addr : ℕ}

/-- An error as it stands once it is recorded. -/
theorem State.ueKept_spec (hp : port < 12) (ha : addr < 2 ^ 36) :
    (s.ueKept ch port addr).fld F.DRC_UE_ADDR_PORT ch = port ∧ (s.ueKept ch port addr).fld F.DRC_UE_ADDR_ADDR ch = addr / 256 ∧
    (s.ueKept ch port addr).fld F.DRC_CH_ECC_UE ch = min 65535 (s.fld F.DRC_CH_ECC_UE ch + 1) ∧ (s.ueKept ch port addr).fld F.DRC_CH_EVENTS_UE ch = 1 ∧
    (s.ueKept ch port addr).dramCh ch = { s.dramCh ch with ues := rememberUe (s.dramCh ch).ues (addr / 2 ^ 26) s.plt.frame } ∧
    ((s.ueKept ch port addr).unit 0x070 ch).cont = min 255 ((s.unit 0x070 ch).cont + 1) ∧ sent s (s.ueKept ch port addr) (.answer 0x070 [port, addr, 0]) ∧
    (∀ c, c ≠ ch → (s.ueKept ch port addr).dramCh c = s.dramCh c) ∧ ((s.ueKept ch port addr).unit 0x070 ch).fenced = (s.unit 0x070 ch).fenced ∧
    ((s.ueKept ch port addr).unit 0x070 ch).isolated = (s.unit 0x070 ch).isolated ∧ Within ueParts (s.ueKept ch port addr) s := by
  unfold State.ueKept
  obtain ⟨e, he⟩ : ∃ e, e = (((s.emit (.answer 0x070 [port, addr, 0])).setFld F.DRC_UE_ADDR_PORT ch port).setFld F.DRC_UE_ADDR_ADDR ch (addr / 256)).bump F.DRC_CH_ECC_UE ch 1 := ⟨_, rfl⟩
  obtain ⟨u, hu⟩ : ∃ u, u = s.ueNoted ch port addr := ⟨_, rfl⟩
  have noted : u = e.event F.DRC_CH_EVENTS_UE ch 0 := by rw [hu, he]; rfl
  have us : Within (([.reg .DRC_CH_ECC, .reg .DRC_CH_EVENTS, .reg .DRC_UE_ADDR] : List Part) ++ eventParts) u s := by rw [hu]; exact State.ueNoted_within
  have ue : Within (.reg .DRC_CH_EVENTS :: eventParts) u e := by rw [noted]; exact State.event_within (by decide) (by decide)
  have unit : u.unit 0x070 ch = s.unit 0x070 ch := us.unit (by decide)
  have out : sent s u (.answer 0x070 [port, addr, 0]) := by
    refine sent_of_suffix (v := s) List.suffix_rfl ?_
    rw [noted]
    refine List.IsSuffix.trans ?_ State.event_out
    rw [he]
    exact List.suffix_rfl
  obtain ⟨w, hr, cont, -, -, -, -, fenced⟩ := u.containedFault_spec (r := ⟨0x070, ch, 0x0C, addr, false, none⟩)
  have cout : u.out <:+ (u.containedFault ⟨0x070, ch, 0x0C, addr, false, none⟩).out := by
    unfold State.containedFault
    exact State.record_out (s := u.setUnit _ _ _)
  have isolated : ((u.containedFault ⟨0x070, ch, 0x0C, addr, false, none⟩).unit 0x070 ch).isolated = (u.unit 0x070 ch).isolated := State.containedFault_unit
  rw [← hu]
  obtain ⟨v, hv⟩ : ∃ v, v = u.containedFault ⟨0x070, ch, 0x0C, addr, false, none⟩ := ⟨_, rfl⟩
  rw [← hv] at hr cout isolated ⊢
  have vu : Within (.flt :: recordParts) v u := .trans (hr.mono (by decide)) (State.setUnit_within (by decide))
  have vs : Within (.flt :: ([.reg .DRC_CH_ECC, .reg .DRC_CH_EVENTS, .reg .DRC_UE_ADDR] : List Part) ++ eventParts) v s := .trans (vu.mono (by decide)) (us.mono (by decide))
  have own : v.unit 0x070 ch = w := (hr.unit (by decide)).trans (State.unit_setUnit ..)
  have dram : ∀ c, v.dramCh c = s.dramCh c := fun c => vs.dramCh (by decide)
  have frame : v.plt.frame = s.plt.frame := congrArg Plotter.frame (vs.keeps .plt (by decide))
  obtain ⟨k, hk⟩ : ∃ k, k = v.setDram ch { v.dramCh ch with ues := rememberUe (s.dramCh ch).ues (addr / 2 ^ 26) v.plt.frame } := ⟨_, rfl⟩
  have kv : Within [.dram] k v := by rw [hk]; exact State.setDram_within (by decide)
  have ke : Within (.dram :: .flt :: .reg .DRC_CH_EVENTS :: eventParts) k e := .trans (kv.mono (by decide)) (.trans (vu.mono (by decide)) (ue.mono (by decide)))
  have self : k.dramCh ch = { s.dramCh ch with ues := rememberUe (s.dramCh ch).ues (addr / 2 ^ 26) s.plt.frame } := by
    rw [hk, State.dramCh_setDram, dram, frame]
  have others : ∀ c, c ≠ ch → k.dramCh c = s.dramCh c := fun c hc => by rw [hk, State.dramCh_setDram_ne hc, dram]
  dsimp only
  rw [← hk]
  refine ⟨?_, ?_, ?_, ?_, self, ?_, out.mono List.suffix_rfl ?_, others, ?_, ?_, .trans (kv.mono (by decide)) (vs.mono (by decide))⟩
  · rw [ke.fld (by decide), he, State.fld_bump_ne (.inl (by decide)), State.fld_setFld_ne (.inr (.inr (by decide))), State.fld_setFld (by decide)]
    exact Nat.mod_eq_of_lt (by dsimp [F.DRC_UE_ADDR_PORT]; omega)
  · rw [ke.fld (by decide), he, State.fld_bump_ne (.inl (by decide)), State.fld_setFld (by decide)]
    exact Nat.mod_eq_of_lt (by dsimp [F.DRC_UE_ADDR_ADDR]; omega)
  · rw [ke.fld (by decide), he, State.fld_bump (by decide), State.fld_setFld_ne (.inl (by decide)), State.fld_setFld_ne (.inl (by decide))]
    rfl
  · rw [kv.fld (by decide), vu.fld (by decide), noted]
    exact State.fld_event (by decide) rfl (by decide)
  · rw [kv.unit (by decide), own, cont, unit]
    rfl
  · rw [hk]
    exact cout
  · rw [kv.unit (by decide), own, fenced, unit]
  · rw [kv.unit (by decide), isolated, unit]


/-- A region fenced: its channel's list, its event and what the map makes of it. -/
theorem State.fenceRegion_spec {k : ℕ} (out : k ∉ (s.dramCh ch).regions) :
    ((s.fenceRegion ch k).dramCh ch).regions = (s.dramCh ch).regions ++ [k] ∧ (s.fenceRegion ch k).fld F.DRC_CH_EVENTS_REGION_FENCED ch = 1 := by
  unfold State.fenceRegion
  extract_lets x u segs v src
  have hv : Within [.atl] v u := (Within.foldl fun _ _ => State.setSeg_within (by decide)).trans (State.startRecovery_within (by decide))
  have dram : v.dramCh ch = u.dramCh ch := hv.dramCh (by decide)
  have ev : v.fld F.DRC_CH_EVENTS_REGION_FENCED ch = 1 := (hv.fld (by decide)).trans (State.fld_event (by decide) rfl (by decide))
  refine ⟨?_, ev⟩
  refine (congrArg Dram.regions dram).trans ?_
  have put : u.dramCh ch = _ := Within.dramCh (L := .reg .DRC_CH_EVENTS :: eventParts) (State.event_within (by decide) (by decide)) (by decide)
  rw [put, State.dramCh_setDram]
  exact if_neg (by simpa using out)

/-- The report that fences a region of a channel in service. -/
theorem State.raiseAt_region {k : ℕ} (hch : ch < 12) (fen : s.fenced 0x070 ch = false) (iso : (s.unit 0x070 ch).isolated = false) :
    s.raiseAt 0x070 ch 0x0D k = (s.unitNotice ⟨0x070, ch, 0x0D, k, false, none⟩).fenceRegion ch k := by
  rw [State.raiseAt, State.raise_plain hch iso fen]
  rfl

/-- A second error of a region within a day fences the region. -/
theorem State.raiseAt_region_spec {k : ℕ} (hch : ch < 12) (fen : s.fenced 0x070 ch = false) (iso : (s.unit 0x070 ch).isolated = false)
    (out : k ∉ (s.dramCh ch).regions) : ((s.raiseAt 0x070 ch 0x0D k).dramCh ch).regions = (s.dramCh ch).regions ++ [k] ∧
      (s.raiseAt 0x070 ch 0x0D k).fld F.DRC_CH_EVENTS_REGION_FENCED ch = 1 ∧ (s.raiseAt 0x070 ch 0x0D k).fenced 0x070 ch = false := by
  rw [State.raiseAt_region hch fen iso]
  obtain ⟨v, hv⟩ : ∃ v, v = s.unitNotice ⟨0x070, ch, 0x0D, k, false, none⟩ := ⟨_, rfl⟩
  have vs : Within [.out, .flt, .pin, .gaz, .mgmt, .reg .CHR_ALERT_STATUS, .reg .FLT_PIN_CTL, .reg .GAZ_COUNTS] v s := by
    rw [hv]; exact State.unitNotice_within (by decide)
  obtain ⟨u, us, vp, mark⟩ := State.unitNotice_pin (s := s) (r := ⟨0x070, ch, 0x0D, k, false, none⟩)
  have unit : (v.unit 0x070 ch).fenced = false := by
    rw [hv, vp.unit (by decide), Within.unit (L := [.out, .pin, .reg .FLT_PIN_CTL]) (State.pulse_within (by decide)) (by decide), mark]
    exact fen
  have dram : v.dramCh ch = s.dramCh ch := vs.dramCh (by decide)
  rw [← hv]
  obtain ⟨regions, ev⟩ := State.fenceRegion_spec (s := v) (ch := ch) (k := k) (by rw [dram]; exact out)
  refine ⟨by rw [regions, dram], ev, ?_⟩
  rw [State.fenced, Within.unit (L := fenceRegionParts) (State.fenceRegion_within fun _ h => h) (by decide)]
  exact unit

end

/-- A read's data answers its request, which waits no more. -/
def State.readBack (s : State) (ch id port : ℕ) : State :=
  (s.setDram ch { s.dramCh ch with waiting := (s.dramCh ch).waiting.filter (fun o => decide (o.id ≠ id)) }).emit (.answer 0x070 [port, id, 1])

theorem State.readBack_words {s : State} {ch id p : ℕ} : (s.readBack ch id p).dramCh ch =
    { s.dramCh ch with waiting := (s.dramCh ch).waiting.filter (fun o => decide (o.id ≠ id)) } := State.dramCh_setDram (s := s)

theorem State.readBack_waiting {s : State} {ch id p : ℕ} {y : DReq} (hy : y ∈ ((s.readBack ch id p).dramCh ch).waiting) : y.id ≠ id := by
  rw [State.readBack_words] at hy
  simpa using (List.mem_filter.mp hy).2

theorem exec_dramReadReturn {s : State} {ch id : ℕ} {r : DReq} (hw : (s.dramCh ch).waiting.find? (fun r => decide (r.id = id)) = some r) (c : Bool) :
    exec (.dramReadReturn ch id c) s = if c then .next (((s.readBack ch id r.port).bump F.DRC_CH_ECC_CE ch 1).raiseAt 0x070 ch 0x0B 0)
      else .next (s.readBack ch id r.port) := by
  show execDramReadReturn ch id c s = _
  unfold execDramReadReturn
  dsimp only
  rw [hw]
  rfl

/-- Settles O51: a slot's cases follow the urgency of the one request that waits; an error is recorded before its region is judged. -/
theorem dramServesByUrgencyAndFencesRegions : Obligations.DramServesByUrgencyAndFencesRegions := by
  unfold Obligations.DramServesByUrgencyAndFencesRegions
  intro s ch hch fen
  dsimp only
  intro hx
  refine ⟨fun r hp => ⟨fun h => ?_, fun h => ?_⟩, fun self => ⟨fun due low h3 => ?_, fun r hm hq => ⟨fun h => ?_, fun l hl h => ?_⟩, fun hm hq hr => ?_⟩,
    fun rank hot => ?_, fun k hk => ?_, fun id r hw => ⟨?_, fun iso => ?_⟩, fun port addr hp ha iso => ⟨fun h => ?_, fun h out few => ?_⟩⟩
  · have eq : exec (.dramRequest ch r) s = .next (s.emit (.answer 0x070 [r.port, r.id, 0])) := by
      show execDramRequest ch r s = _
      unfold execDramRequest
      dsimp only
      rw [if_neg (by rw [hx, fen]; simp; omega), if_pos (by simpa using h)]
    exact ⟨_, eq, rfl, Within.keeps (State.emit_within (by decide))⟩
  · have eq : exec (.dramRequest ch r) s = .next (s.setDram ch { s.dramCh ch with
        queue := (s.dramCh ch).queue ++ [⟨r.id, r.port, s.now, r.bank, r.row, r.addr, r.wr⟩] }) := by
      show execDramRequest ch r s = _
      unfold execDramRequest
      dsimp only
      rw [if_neg (by rw [hx, fen]; simp; omega), if_neg (by simpa using h)]
    exact ⟨_, eq, State.dramCh_setDram, fun c hc => State.dramCh_setDram_ne hc, Within.keeps (State.setDram_within (by decide))⟩
  · have now : s.maintNow ch = true := by
      unfold State.maintNow
      dsimp only
      cases hm : (s.dramCh ch).maint with
      | nil => exact absurd hm due
      | cons m l =>
        simp only [Bool.not_eq_true', List.any_eq_false, decide_eq_true_eq]
        intro r hr k
        have := low r hr
        omega
    have eq : exec (.dramIssueSlot ch) s = .next (s.setDram ch { s.dramCh ch with maint := (s.dramCh ch).maint.tail }) := by
      show execDramIssueSlot ch s = _
      unfold execDramIssueSlot
      dsimp only
      rw [if_neg (by rw [hx, self]; simp; omega), if_neg h3, if_pos now]
    exact ⟨_, eq, State.dramCh_setDram, fun c hc => State.dramCh_setDram_ne hc, Within.keeps (State.setDram_within (by decide))⟩
  · have none_of : (s.dramCh ch).refDue = [] → s.refLevel ch = none := fun e => by rw [State.refLevel, e]; rfl
    have le : s.reqLevel ch r ≤ 3 := State.reqLevel_le
    have h3 : s.refLevel ch ≠ some 3 := by
      rcases h with e | ⟨l, hl, less⟩
      · rw [none_of e]; simp
      · rw [hl, Ne, Option.some.injEq]; omega
    obtain ⟨words, others, w⟩ := State.issue_spec (s := s) (ch := ch) (r := r) (s.reqLevel ch r)
    refine ⟨_, (exec_dramIssueSlot_one hch hx self hm hq h3).2 (h.imp_left none_of), ?_, ?_, ?_, ?_, others, w.keeps⟩
    · rw [words, hq]; simp
    · rw [words, tabGet_set_self]
    · rw [words]
    · rw [words]
  · obtain ⟨words, others, -, w⟩ := State.issueRefresh_spec (s := s) (ch := ch) l
    have eq : exec (.dramIssueSlot ch) s = .next (s.issueRefresh ch l) := by
      by_cases e : l = 3
      · subst e
        show execDramIssueSlot ch s = _
        unfold execDramIssueSlot
        dsimp only
        rw [if_neg (by rw [hx, self]; simp; omega), if_pos hl]
      · exact (exec_dramIssueSlot_one hch hx self hm hq (by rw [hl, Ne, Option.some.injEq]; exact e)).1 l hl (h.resolve_right e)
    refine ⟨_, eq, ?_, ?_, others, w.keeps⟩
    · rw [words]; exact hq
    · rw [words]
  · obtain ⟨l, hl⟩ : ∃ l, s.refLevel ch = some l := by
      unfold State.refLevel
      cases e : (s.dramCh ch).refDue with
      | nil => exact absurd e hr
      | cons a b => exact ⟨_, rfl⟩
    obtain ⟨words, others, forced, w⟩ := State.issueRefresh_spec (s := s) (ch := ch) l
    have eq : exec (.dramIssueSlot ch) s = .next (s.issueRefresh ch l) := by
      have idle : s.maintNow ch = false := by
        unfold State.maintNow
        dsimp only
        rw [hm]
      show execDramIssueSlot ch s = _
      unfold execDramIssueSlot
      dsimp only
      rw [if_neg (by rw [hx, self]; simp; omega), hl, idle, hq]
      by_cases e : l = 3
      · rw [if_pos (by rw [e]), e]
      · rw [if_neg (by simpa using e)]
        rfl
    refine ⟨_, eq, ?_, fun e => forced (Option.some.inj (hl.symm.trans e)), others, w.keeps⟩
    rw [words]
  · have eq : exec (.dramRefreshDue ch rank hot) s = .next (s.setDram ch { s.dramCh ch with
        highTemp := hot, refDue := (s.dramCh ch).refDue ++ [(rank, s.now)] }) := by
      show execDramRefreshDue ch rank hot s = _
      unfold execDramRefreshDue
      dsimp only
      rw [if_neg (by rw [hx]; simp; omega)]
    refine ⟨_, eq, ?_, ?_, fun c hc => State.dramCh_setDram_ne hc, Within.keeps (State.setDram_within (by decide))⟩
    · rw [State.dramCh_setDram]
    · rw [State.dramCh_setDram]
  · have eq : exec (.dramMaintenanceDue ch k) s = .next (s.setDram ch { s.dramCh ch with maint := (s.dramCh ch).maint ++ [(k, s.now)] }) := by
      show execDramMaintenanceDue ch k s = _
      unfold execDramMaintenanceDue
      dsimp only
      rw [if_neg (by rw [hx]; simp; omega)]
    exact ⟨_, eq, State.dramCh_setDram, fun c hc => State.dramCh_setDram_ne hc, Within.keeps (State.setDram_within (by decide))⟩
  · refine ⟨_, exec_dramReadReturn hw false, fun y hy => State.readBack_waiting hy, ?_, rfl, fun c hc => ?_, ?_⟩
    · rw [State.readBack_words]
    · exact State.dramCh_setDram_ne hc
    · exact Within.keeps (.trans (State.emit_within (by decide)) (State.setDram_within (by decide)))
  · obtain ⟨v, hv⟩ : ∃ v, v = (s.readBack ch id r.port).bump F.DRC_CH_ECC_CE ch 1 := ⟨_, rfl⟩
    have vs : Within [.out, .dram, .reg .DRC_CH_ECC] v s := by
      rw [hv]
      exact .trans (State.bump_within (by decide)) (.trans (State.emit_within (by decide)) (State.setDram_within (by decide)))
    have unit : v.unit 0x070 ch = s.unit 0x070 ch := vs.unit (by decide)
    have eq := exec_dramReadReturn hw true
    rw [if_pos rfl, ← hv] at eq
    have raised : v.raiseAt 0x070 ch 0x0B 0 = v.correctedFault ⟨0x070, ch, 0x0B, 0, false, none⟩ := by
      rw [State.raiseAt, State.raise_plain hch (by rw [unit, iso]) (by rw [State.fenced, unit]; exact fen)]
      rfl
    obtain ⟨corr, -, w⟩ := State.raiseAt_corrected (s := v) (b := 0x070) (i := ch) (c := 0x0B) (d := 0) hch (by rw [unit, iso])
      (by rw [State.fenced, unit]; exact fen) rfl
    refine ⟨_, eq, fun y hy => ?_, ?_, ?_, ?_, Within.keeps (.trans (w.mono (by decide)) (vs.mono (by decide)))⟩
    · rw [w.dramCh (by decide), hv] at hy
      exact State.readBack_waiting (p := r.port) hy
    · rw [w.fld (by decide), hv]
      exact State.fld_bump (by decide)
    · rw [corr, unit]
      rfl
    · refine sent_of_suffix (v := s) List.suffix_rfl (List.IsSuffix.trans (l₂ := v.out) ?_ ?_)
      · rw [hv]
        exact List.suffix_rfl
      · rw [raised]
        unfold State.correctedFault
        extract_lets u due n src u' s1
        split
        · exact State.record_out (s := s1)
        · exact List.suffix_rfl
  · obtain ⟨uePort, ueAddr, count, ev, words, cont, out, others, -, -, w⟩ := State.ueKept_spec (s := s) (ch := ch) hp ha
    have noted : ((s.ueNoted ch port addr).containedFault ⟨0x070, ch, 0x0C, addr, false, none⟩).plt.frame = s.plt.frame :=
      congrArg Plotter.frame (Within.keeps (L := .flt :: ([.reg .DRC_CH_ECC, .reg .DRC_CH_EVENTS, .reg .DRC_UE_ADDR] : List Part) ++ eventParts)
        (.trans (State.containedFault_within (by decide)) (State.ueNoted_within.mono (by decide))) .plt (by decide))
    have eq := exec_dramUe (port := port) (addr := addr) hch hx fen iso
    rw [if_neg (by
      rintro ⟨again, -⟩
      obtain ⟨e, he⟩ := Option.isSome_iff_exists.mp again
      have hit := List.find?_some he
      rw [decide_eq_true_eq, noted] at hit
      exact h ⟨e, List.mem_of_find?_eq_some he, hit⟩)] at eq
    refine ⟨_, eq, uePort, ueAddr, count, ev, ?_, ?_, cont, out, others, w.keeps⟩
    · rw [words]
      exact List.mem_cons_self
    · rw [words]
  · obtain ⟨-, -, -, -, words, -, -, -, fenced, isolated, w⟩ := State.ueKept_spec (s := s) (ch := ch) hp ha
    have noted : ((s.ueNoted ch port addr).containedFault ⟨0x070, ch, 0x0C, addr, false, none⟩).plt.frame = s.plt.frame :=
      congrArg Plotter.frame (Within.keeps (L := .flt :: ([.reg .DRC_CH_ECC, .reg .DRC_CH_EVENTS, .reg .DRC_UE_ADDR] : List Part) ++ eventParts)
        (.trans (State.containedFault_within (by decide)) (State.ueNoted_within.mono (by decide))) .plt (by decide))
    have fen' : (s.ueKept ch port addr).fenced 0x070 ch = false := fenced.trans fen
    have iso' : ((s.ueKept ch port addr).unit 0x070 ch).isolated = false := isolated.trans iso
    have words' : ((s.ueKept ch port addr).dramCh ch).regions = (s.dramCh ch).regions := by rw [words]
    obtain ⟨regions, ev, after⟩ := State.raiseAt_region_spec hch fen' iso' (k := addr / 2 ^ 26) (by rw [words']; exact out)
    obtain ⟨e, he, hit⟩ := h
    have eq := exec_dramUe (port := port) (addr := addr) hch hx fen iso
    rw [if_pos ⟨by
      rw [List.find?_isSome]
      exact ⟨e, he, by rw [decide_eq_true_eq, noted]; exact hit⟩, by simpa using out⟩, if_neg (by rw [regions, words', List.length_append, List.length_singleton]; omega)] at eq
    refine ⟨_, eq, ?_, ev, after, ?_⟩
    · rw [regions]
      simp
    · rw [State.raiseAt_region hch fen' iso']
      exact Within.keeps (.trans (State.fenceRegion_within (by decide)) (.trans (State.unitNotice_within (by decide)) (w.mono (by decide))))

end Sys2Proof.Machine
end

section
/-! Register accesses (O53). -/

namespace Sys2Proof.Machine

section

/-- A device in SERVICE that found no slot to boot: function 0 responds, and block 0 is not served. -/
def romRecoveryInService : State :=
  ({ State.reset with
    pwr := { State.reset.pwr with mode := .service }
    por := { State.reset.por with booted := 3 }
    start := { State.reset.start with running := false } } : State).setFn 0 { State.reset.fnOf 0 with enabled := true }

/-- Refutes O53: an unaligned write through the BAR of function 0 at an offset of a block that is not served sets ACCESS_ERR, where the
statement has the state kept at every such offset. -/
theorem not_registerAccessesFollowTheirFields : ¬ Obligations.RegisterAccessesFollowTheirFields := by
  unfold Obligations.RegisterAccessesFollowTheirFields
  intro h
  obtain ⟨-, unserved, -⟩ := h romRecoveryInService .pf0 0
  obtain ⟨same, -⟩ := unserved 1 (by decide)
  have eq : romRecoveryInService.event F.HST_FN_EVENTS_ACCESS_ERR 0 0 = romRecoveryInService := Host.Outcome.next.inj same
  have set : romRecoveryInService.fld F.HST_FN_EVENTS_ACCESS_ERR 0 = 1 := by
    rw [← eq]
    exact State.fld_event (by decide) rfl (by decide)
  exact absurd set (by decide)

end

end Sys2Proof.Machine
end

section
/-! The management port (O54). -/

namespace Sys2Proof.Machine

section
variable {s t : State} {ep need id n : ℕ} {e : Bool} {x : SpdmSession} {body : State → State} {i : Instr} {b l : List ℕ} {c : SpdmConn}

/-! ### What the management port answers -/

/-- A command that answers and changes nothing else. -/
theorem leads_mctp (h : exec i s = .next (s.mctp ep b)) : leads i s fun t => t.out = .mctp ep b :: s.out ∧ keepsBut [.out] s t :=
  ⟨_, h, rfl, Within.keeps (State.emit_within (by decide))⟩

theorem State.spdmReq_answered (on : s.mgmtOn = true) (hep : ep < 3) (h : need ≤ (s.conn ep).stage) : s.spdmReq ep need body = body s := by
  unfold State.spdmReq
  rw [if_neg (by rw [on]; simp; omega), if_neg (by omega)]

theorem State.spdmReq_early (on : s.mgmtOn = true) (hep : ep < 3) (h : (s.conn ep).stage < need) : s.spdmReq ep need body = s.spdmErr ep 4 := by
  unfold State.spdmReq
  rw [if_neg (by rw [on]; simp; omega), if_pos h]

/-- A negotiation step: its connection moves, and its answer goes out. -/
theorem leads_conn (h : exec i s = .next ((s.setConn ep c).spdm ep n l)) :
    leads i s fun t => t.conn ep = c ∧ t.out = .mctp ep (n :: l) :: s.out ∧ keepsBut [.mgmt, .out] s t :=
  ⟨_, h, State.conn_setConn (s := s), rfl, Within.keeps (.trans (State.emit_within (by decide)) (State.setConn_within (by decide)))⟩

/-! ### Secured sessions -/

theorem State.inSession_runs {body : State → SpdmSession → State} (on : s.mgmtOn = true) (hs : s.session id = some x) (h : x.established = e) :
    s.inSession id e body = body s x := by
  unfold State.inSession
  rw [hs]
  dsimp only
  rw [if_neg (by rw [on]; simp), if_pos h]

theorem State.inSession_early {body : State → SpdmSession → State} (on : s.mgmtOn = true) (hs : s.session id = some x) (h : x.established ≠ e) :
    s.inSession id e body = s.spdmErr x.ep 4 := by
  unfold State.inSession
  rw [hs]
  dsimp only
  rw [if_neg (by rw [on]; simp), if_neg h]

theorem State.session_dropSession : (s.dropSession id).session id = none := by
  unfold State.session State.dropSession
  rw [List.find?_eq_none]
  intro y hy
  simpa using (List.mem_filter.mp hy).2

theorem State.session_mapSession {f : SpdmSession → SpdmSession} (hs : s.session id = some x) (hf : ∀ y, (f y).id = y.id) :
    (s.mapSession id f).session id = some (f x) := by
  have own : x.id = id := by simpa using List.find?_some hs
  show (List.map _ _).find? _ = _
  rw [List.find?_map]
  have same : ((fun y : SpdmSession => decide (y.id = id)) ∘ fun y => if y.id = id then f y else y) = fun y => decide (y.id = id) := by
    funext y
    by_cases h : y.id = id
    · simp [h, hf]
    · simp [h]
  rw [same, show s.mgmt.sessions.find? (fun y => decide (y.id = id)) = some x from hs, Option.map_some, if_pos own]

/-- A request that ends its session. -/
theorem leads_dropSession (h : exec i s = .next ((s.dropSession id).mctp ep b)) :
    leads i s fun t => t.session id = none ∧ t.out = .mctp ep b :: s.out ∧ keepsBut [.mgmt, .out] s t :=
  ⟨_, h, State.session_dropSession (s := s), rfl, Within.keeps (.trans (State.emit_within (by decide)) (State.dropSession_within (by decide)))⟩

/-- A request that changes its session's words. -/
theorem leads_mapSession {f : SpdmSession → SpdmSession} (hs : s.session id = some x) (hf : ∀ y, (f y).id = y.id)
    (h : exec i s = .next ((s.mapSession id f).mctp ep b)) :
    leads i s fun t => t.session id = some (f x) ∧ t.out = .mctp ep b :: s.out ∧ keepsBut [.mgmt, .out] s t :=
  ⟨_, h, State.session_mapSession hs hf, rfl, Within.keeps (.trans (State.emit_within (by decide)) (State.mapSession_within (by decide)))⟩

/-- A vendor-defined request that is recorded and answered. -/
theorem leads_recorded {a : ℕ} (h : exec i s = .next ((s.spdmRecord n a).mctp ep b)) :
    leads i s fun t => t.out.head? = some (.mctp ep b) ∧ keepsBut recordParts s t ∧ t.por = s.por := by
  have w : Within recordParts ((s.spdmRecord n a).mctp ep b) s := .trans (State.emit_within (by decide)) (State.record_within (by decide))
  exact ⟨_, h, rfl, w.keeps, w.keeps .por (by decide)⟩

/-! ### Endpoint IDs (R560, R409) -/

/-- The end of a mailbox's session sends no record, so nothing of the management port moves. -/
theorem State.endSession_quiet {p : ℕ} : Within [.fns, .out, .mbx, .por, .reg .MBX_EVENTS] (s.endSession p) s := by
  unfold State.endSession
  extract_lets m u v
  have hv : Within [.fns, .out, .mbx, .por, .reg .MBX_EVENTS] v s :=
    .ite (.trans (State.event_within_of_noRecord (by decide) (by decide)) (State.setMb_within (by decide))) (State.setMb_within (by decide))
  refine .ite .rfl ?_
  split
  · exact .ite (.trans (State.endUpd_within (by decide)) hv) hv
  · exact hv

theorem State.endSession_out {p : ℕ} : s.out <:+ (s.endSession p).out := by
  unfold State.endSession
  extract_lets m u v
  have hv : s.out <:+ v.out := by
    unfold v
    split
    · exact State.event_out (s := u)
    · exact List.suffix_rfl
  split
  · exact List.suffix_rfl
  · split
    · split
      · exact hv.trans (by rw [show v.endUpd.out = v.out from (State.endUpd_within (L := [.por]) (by decide)).keeps .out (by decide)])
      · exact hv
    · exact hv

theorem State.endSessions_out {l : List ℕ} : s.out <:+ (l.foldl (fun s p => s.endSession p) s).out := by
  induction l generalizing s with
  | nil => exact List.suffix_rfl
  | cons p l ih => exact State.endSession_out.trans ih

theorem setEndpointId_leads {eid : ℕ} (on : s.mgmtOn = true) (hep : ep < 3) (h1 : 1 ≤ eid) (h2 : eid ≤ 254) :
    leads (.setEndpointId ep eid) s fun t => t.eid ep = eid ∧ (∀ k, k ≠ ep → t.eid k = s.eid k) ∧
      (s.eid ep ≠ eid → ∀ x ∈ t.mgmt.sessions, x.ep ≠ ep) ∧ sent s t (.mctp ep [1, 0, 0, eid, 0]) ∧
      keepsBut (([.mbx, .por, .reg .MBX_EVENTS] : List Part) ++ eventParts) s t := by
  obtain ⟨u, hu⟩ : ∃ u, u = ((s.mbx.filter (fun e => decide (256 ≤ e.1 ∧ e.2.ep = ep))).map Prod.fst).foldl (fun s p => s.endSession p) s := ⟨_, rfl⟩
  have uw : Within [.fns, .out, .mbx, .por, .reg .MBX_EVENTS] u s := by rw [hu]; exact Within.foldl fun _ _ => State.endSession_quiet
  have uo : s.out <:+ u.out := by rw [hu]; exact State.endSessions_out
  have um : u.mgmt = s.mgmt := uw.keeps .mgmt (by decide)
  by_cases same : s.eid ep = eid
  · have eq : exec (.setEndpointId ep eid) s = .next (s.mctp ep [1, 0, 0, eid, 0]) := by
      show execSetEndpointId ep eid s = _
      unfold execSetEndpointId
      rw [if_neg (by rw [on]; simp; omega), if_neg (by omega)]
      dsimp only
      rw [if_pos same]
    exact ⟨_, eq, same, fun _ _ => rfl, fun k => absurd same k, sent_of_suffix (v := s) List.suffix_rfl List.suffix_rfl, Within.keeps (State.emit_within (by decide))⟩
  · have eq : exec (.setEndpointId ep eid) s = .next (({ u with mgmt := { u.mgmt with
        eid := tabSet (fun _ => 0) u.mgmt.eid ep eid, sessions := u.mgmt.sessions.filter (fun x => decide (x.ep ≠ ep)) } } : State).mctp ep [1, 0, 0, eid, 0]) := by
      show execSetEndpointId ep eid s = _
      unfold execSetEndpointId
      rw [if_neg (by rw [on]; simp; omega), if_neg (by omega)]
      dsimp only
      rw [if_neg same, hu]
    refine ⟨_, eq, tabGet_set_self _ _ _ _, fun k hk => ?_, fun _ x hx => ?_, sent_of_suffix (v := u) uo List.suffix_rfl, ?_⟩
    · refine (tabGet_set_ne (fun _ => 0) u.mgmt.eid eid hk).trans ?_
      rw [um]
      rfl
    · simpa using (List.mem_filter.mp hx).2
    · exact Within.keeps (.trans (State.emit_within (by decide)) (.step (by decide) (.mgmt u _) (uw.mono (by decide))))

/-- The owner key in the row, with the byte that says so (R563). -/
theorem State.otpByte_owned {key : List ℕ} {a : ℕ} (len : key.length = 97) : ((s.otpDone 224 key).otpDone 321 [1]).otpByte a =
    if a = 321 then Nat.lor (s.otpByte 321) 1 else if 224 ≤ a ∧ a < 321 then Nat.lor (s.otpByte a) (key.getD (a - 224) 0 % 256) else s.otpByte a := by
  rw [State.otpByte_otpDone, State.otpByte_otpDone, len]
  by_cases h : a = 321
  · subst h
    rfl
  · rw [if_neg (by simp only [List.length_singleton]; omega), if_neg h]

/-- A session that stands, but is not established: FINISH alone is expected. -/
theorem begun_leads (on : s.mgmtOn = true) (hs : s.session id = some x) (est : x.established = false) :
    (∀ m, leads (.finish id true m) s fun t => (t.session id).map SpdmSession.established = some true ∧
      (t.session id).map SpdmSession.mutAuth = some m ∧ t.out = .mctp x.ep [0x65] :: s.out ∧ keepsBut [.mgmt, .out] s t) ∧
    (∀ m, leads (.finish id false m) s fun t => t.session id = none ∧ t.out = .mctp x.ep [0x7F, 6] :: s.out ∧ keepsBut [.mgmt, .out] s t) ∧
    (leads (.heartbeat id) s fun t => t.out = .mctp x.ep [0x7F, 4] :: s.out ∧ keepsBut [.out] s t) := by
  refine ⟨fun m => ?_, fun m => leads_dropSession (congrArg Host.Outcome.next (State.inSession_runs on hs est)), leads_mctp (congrArg Host.Outcome.next
    (State.inSession_early on hs (by rw [est]; exact Bool.false_ne_true)))⟩
  obtain ⟨t, eq, own, rest⟩ := leads_mapSession (i := .finish id true m) (b := [0x65]) (f := fun y => { y with established := true, mutAuth := m, lastBeat := s.now })
    hs (fun _ => rfl) (congrArg Host.Outcome.next (State.inSession_runs on hs est))
  exact ⟨t, eq, by rw [own]; rfl, by rw [own]; rfl, rest⟩

/-- The owner key is written once, into blank bytes (R563). -/
theorem provisionOwner_writes {key : List ℕ} (on : s.mgmtOn = true) (hs : s.session id = some x) (est : x.established = true)
    (fresh : s.otpByte 321 % 2 = 0) (len : key.length = 97) (blank : ∀ k, k < 97 → s.otpByte (224 + k) = 0) (small : ∀ b ∈ key, b < 256) :
    leads (.provisionOwner id key []) s fun t => (∀ k, k < 97 → t.otpByte (224 + k) = key.getD k 0) ∧ t.otpByte 321 = s.otpByte 321 + 1 ∧
      (∀ a, a < 224 ∨ 321 < a → t.otpByte a = s.otpByte a) ∧ t.out.head? = some (.mctp x.ep [0x7E]) ∧ keepsBut (.por :: recordParts) s t := by
  obtain ⟨u, hu⟩ : ∃ u, u = (s.otpDone 224 key).otpDone 321 [1] := ⟨_, rfl⟩
  have us : Within [.por] u s := by rw [hu]; exact .trans (State.otpDone_within (by decide)) (State.otpDone_within (by decide))
  have eq : exec (.provisionOwner id key []) s = .next ((u.spdmRecord 2 0).mctp x.ep [0x7E]) := by
    refine congrArg Host.Outcome.next ((State.inSession_runs on hs est).trans ?_)
    dsimp only
    rw [if_neg (by omega), if_neg (by simp [len]), if_pos (show ([] : List ℕ).isEmpty = true from rfl), ← hu]
    rfl
  have rec' : Within recordParts ((u.spdmRecord 2 0).mctp x.ep [0x7E]) u := .trans (State.emit_within (by decide)) (State.record_within (by decide))
  have row : ∀ a, ((u.spdmRecord 2 0).mctp x.ep [0x7E]).otpByte a =
      if a = 321 then Nat.lor (s.otpByte 321) 1 else if 224 ≤ a ∧ a < 321 then Nat.lor (s.otpByte a) (key.getD (a - 224) 0 % 256) else s.otpByte a := fun a => by
    rw [State.otpByte, show ((u.spdmRecord 2 0).mctp x.ep [0x7E]).por = u.por from rec'.keeps .por (by decide), ← State.otpByte, hu, State.otpByte_owned len]
  refine ⟨_, eq, fun k hk => ?_, ?_, fun a ha => ?_, rfl, Within.keeps (.trans (rec'.mono (by decide)) (us.mono (by decide)))⟩
  · have mem : key.getD k 0 < 256 := by
      rw [List.getD_eq_getElem _ _ (by omega)]
      exact small _ (List.getElem_mem _)
    rw [row, if_neg (by omega), if_pos (by omega), blank k hk, Nat.add_sub_cancel_left, Nat.mod_eq_of_lt mem]
    exact Nat.zero_or _
  · rw [row, if_pos rfl]
    have or := Nat.two_pow_add_eq_or_of_lt (b := 1) (i := 1) (by decide) (s.otpByte 321 / 2)
    rw [show 2 ^ 1 * (s.otpByte 321 / 2) = s.otpByte 321 from by omega] at or
    exact or.symm
  · rw [row, if_neg (by omega), if_neg (by omega)]

/-- An established session. -/
theorem established_leads (on : s.mgmtOn = true) (hs : s.session id = some x) (est : x.established = true) :
    (leads (.heartbeat id) s fun t => (t.session id).map SpdmSession.lastBeat = some s.now ∧ t.out = .mctp x.ep [0x68] :: s.out ∧ keepsBut [.mgmt, .out] s t) ∧
    (leads (.keyUpdate id) s fun t => (t.session id).map SpdmSession.keyGen = some (x.keyGen + 1) ∧ t.out = .mctp x.ep [0x69] :: s.out ∧
      keepsBut [.mgmt, .out] s t) ∧
    (leads (.endSession id) s fun t => t.session id = none ∧ t.out = .mctp x.ep [0x6C] :: s.out ∧ keepsBut [.mgmt, .out] s t) ∧
    (x.mutAuth = true → s.otpByte 321 % 2 = 1 → leads (.getTransportKey id) s fun t =>
      t.out.head? = some (.mctp x.ep (0x7E :: Config.transportKey)) ∧ keepsBut recordParts s t) ∧
    (x.mutAuth = false → leads (.getTransportKey id) s fun t => t.out.head? = some (.mctp x.ep [0x7F, 0xFF, 2]) ∧ keepsBut recordParts s t) ∧
    (∀ key pw, s.otpByte 321 % 2 = 1 → leads (.provisionOwner id key pw) s fun t => t.por = s.por ∧
      t.out.head? = some (.mctp x.ep [0x7F, 0xFF, 1]) ∧ keepsBut recordParts s t) := by
  refine ⟨?_, ?_, leads_dropSession (congrArg Host.Outcome.next (State.inSession_runs on hs est)), fun own owned => ?_, fun own => ?_, fun key pw owned => ?_⟩
  · obtain ⟨t, eq, own, rest⟩ := leads_mapSession (i := .heartbeat id) (b := [0x68]) (f := fun y => { y with lastBeat := s.now })
      hs (fun _ => rfl) (congrArg Host.Outcome.next (State.inSession_runs on hs est))
    exact ⟨t, eq, by rw [own]; rfl, rest⟩
  · obtain ⟨t, eq, own, rest⟩ := leads_mapSession (i := .keyUpdate id) (b := [0x69]) (f := fun y => { y with keyGen := y.keyGen + 1 })
      hs (fun _ => rfl) (congrArg Host.Outcome.next (State.inSession_runs on hs est))
    exact ⟨t, eq, by rw [own]; rfl, rest⟩
  · obtain ⟨t, eq, head, w, -⟩ := leads_recorded (s := s) (i := .getTransportKey id) (n := 1) (a := 0) (ep := x.ep) (b := 0x7E :: Config.transportKey)
      (congrArg Host.Outcome.next ((State.inSession_runs on hs est).trans (if_pos (by rw [own, owned]; rfl))))
    exact ⟨t, eq, head, w⟩
  · obtain ⟨t, eq, head, w, -⟩ := leads_recorded (s := s) (i := .getTransportKey id) (n := 1) (a := 2) (ep := x.ep) (b := [0x7F, 0xFF, 2])
      (congrArg Host.Outcome.next ((State.inSession_runs on hs est).trans (if_neg (by rw [own]; exact Bool.false_ne_true))))
    exact ⟨t, eq, head, w⟩
  · obtain ⟨t, eq, head, w, por⟩ := leads_recorded (s := s) (i := .provisionOwner id key pw) (n := 2) (a := 1) (ep := x.ep) (b := [0x7F, 0xFF, 1])
      (congrArg Host.Outcome.next ((State.inSession_runs on hs est).trans (if_pos owned)))
    exact ⟨t, eq, por, head, w⟩

end

/-- Settles O54: an answer joins the record behind what its request changes. -/
theorem managementRequestsAreAnswered : Obligations.ManagementRequestsAreAnswered := by
  unfold Obligations.ManagementRequestsAreAnswered
  intro s ep on hep
  dsimp only
  have port : ¬((!s.mgmtOn) = true ∨ 3 ≤ ep) := by rw [on]; simp; omega
  have bus : s.mgmt.i3c = false → ¬((!s.mgmtOn) = true ∨ s.mgmt.i3c = true) := fun h => by rw [on, h]; simp
  have answered : ∀ {need : ℕ} {body : State → State}, need ≤ (s.conn ep).stage → s.spdmReq ep need body = body s := State.spdmReq_answered on hep
  refine ⟨fun eid h1 h2 => setEndpointId_leads on hep h1 h2, fun eid h => leads_mctp ?_, leads_mctp ?_, leads_mctp ?_,
    fun ty => ⟨fun h => leads_mctp ?_, fun h0 h5 h7 hF => leads_mctp ?_⟩, leads_mctp ?_, fun ty c => ⟨fun h0 hc => leads_mctp ?_, fun h0 h5 h7 => ?_⟩,
    fun smbus => ?_, fun smbus low => ?_, leads_conn ?_, fun h => ?_, fun h => ?_, fun h => ?_, fun h r => leads_mctp ?_, fun id x hs hx => ?_,
    fun id x hs => ⟨fun h => ?_, fun h => ?_⟩⟩
  · show execSetEndpointId ep eid s = _
    unfold execSetEndpointId
    rw [if_neg port, if_pos h]
  · exact if_neg port
  · exact if_neg port
  · show execGetMctpVersionSupport ep ty s = _
    unfold execGetMctpVersionSupport
    rw [if_neg port, if_pos (by simpa using h)]
  · show execGetMctpVersionSupport ep ty s = _
    unfold execGetMctpVersionSupport
    rw [if_neg port, if_neg (by simp [h0, h5, h7, hF])]
  · exact if_neg port
  · show execMctpUnsupportedMessage ep ty c s = _
    unfold execMctpUnsupportedMessage
    rw [if_neg port, if_pos h0, if_neg (by omega)]
  · have eq : exec (.mctpUnsupportedMessage ep ty c) s = .next s.mgmtDiscard := by
      show execMctpUnsupportedMessage ep ty c s = _
      unfold execMctpUnsupportedMessage
      rw [if_neg port, if_neg h0, if_neg (by omega)]
    exact ⟨_, eq, State.fld_bump (by decide), Within.keeps (State.bump_within (by decide))⟩
  · have eq : exec .nvmeMiBasicManagement s = .next (State.mctp { s with fresh := s.fresh + 1 } 0
        [6, Config.free s.fresh % 256, 255 - s.criticalWarning (s.ctl 0), ctemp s.compositeK, s.percentUsed, 0, 0]) := by
      show execNvmeMiBasicManagement s = _
      unfold execNvmeMiBasicManagement
      rw [if_neg (bus smbus)]
      rfl
    exact ⟨_, eq, rfl, Within.keeps (.trans (State.emit_within (by decide)) (.step (by decide) (.fresh s _) .rfl))⟩
  · have eq : exec .alertResponseAddressRead s = .next (({ s with mgmt := { s.mgmt with araHold := true } } : State).mctp 0 [2 * s.mgmt.addr]) := by
      show execAlertResponseAddressRead s = _
      unfold execAlertResponseAddressRead
      rw [if_neg (by rw [smbus, low]; simp)]
    exact ⟨_, eq, rfl, rfl, Within.keeps (.trans (State.emit_within (by decide)) (.step (by decide) (.mgmt s _) .rfl))⟩
  · exact congrArg Host.Outcome.next (answered (Nat.zero_le _))
  · obtain ⟨t, eq, conn, rest⟩ := leads_conn (s := s) (i := .getCapabilities ep) (congrArg Host.Outcome.next (answered h))
    exact ⟨t, eq, congrArg SpdmConn.stage conn, rest⟩
  · obtain ⟨t, eq, conn, rest⟩ := leads_conn (s := s) (i := .negotiateAlgorithms ep) (congrArg Host.Outcome.next (answered h))
    exact ⟨t, eq, congrArg SpdmConn.stage conn, rest⟩
  · refine ⟨leads_mctp (congrArg Host.Outcome.next (answered h)), fun off len hl => leads_mctp ?_, fun slot off len hs => leads_mctp ?_, fun nonce => ?_,
      fun nonce signed => leads_mctp (congrArg Host.Outcome.next (answered h)), fun i nonce signed h1 h5 => leads_mctp ?_, fun r few => ?_, fun r many => leads_mctp ?_⟩
    · refine congrArg Host.Outcome.next ((answered h).trans ?_)
      dsimp only
      rw [if_neg (by omega)]
      rfl
    · refine congrArg Host.Outcome.next ((answered h).trans ?_)
      dsimp only
      rw [if_pos (.inl hs)]
      rfl
    · obtain ⟨t, eq, conn, rest⟩ := leads_conn (s := s) (i := .challenge ep 0 nonce) (congrArg Host.Outcome.next (answered h))
      exact ⟨t, eq, congrArg SpdmConn.challenged conn, rest⟩
    · refine congrArg Host.Outcome.next ((answered h).trans ?_)
      dsimp only
      rw [if_neg (by omega), if_neg (by omega), if_neg (by omega)]
      rfl
    · have eq : exec (.keyExchange ep r) s = .next (State.spdm { s with mgmt := { s.mgmt with
          sessions := s.mgmt.sessions ++ [⟨r % 65536 + 65536 * s.mgmt.nextSession, ep, false, false, s.now, 0⟩], nextSession := s.mgmt.nextSession + 1 } } ep 0x64
          (bytesLe 4 (r % 65536 + 65536 * s.mgmt.nextSession) ++ Config.spdmAnswer 0x64 [r % 65536 + 65536 * s.mgmt.nextSession])) := by
        refine congrArg Host.Outcome.next ((answered h).trans ?_)
        dsimp only
        rw [if_neg (by omega)]
      exact ⟨_, eq, rfl, Within.keeps (.trans (State.emit_within (by decide)) (.step (by decide) (.mgmt s _) .rfl))⟩
    · refine congrArg Host.Outcome.next ((answered h).trans ?_)
      dsimp only
      rw [if_pos many]
      rfl
  · exact congrArg Host.Outcome.next (State.spdmReq_early on hep h)
  · subst hx
    refine ⟨fun est => begun_leads on hs est, fun est => ?_⟩
    obtain ⟨beat, update, ended, given, withheld, once⟩ := established_leads on hs est
    exact ⟨beat, update, ended, given, withheld, once, fun key fresh len blank small => provisionOwner_writes on hs est fresh len blank small⟩
  · have alive : (s.session id).any (fun x => decide (x.lastBeat + 120 * sTicks ≤ s.now)) = false := by
      rw [hs, Option.any_some, decide_eq_false (by omega)]
    show Host.Outcome.next (if _ then _ else _) = _
    rw [if_neg (by rw [alive]; exact Bool.false_ne_true)]
  · have over' : (s.session id).any (fun x => decide (x.lastBeat + 120 * sTicks ≤ s.now)) = true := by
      rw [hs, Option.any_some, decide_eq_true h]
    have eq : exec (.sessionHeartbeatTimeout id) s = .next (s.dropSession id) := congrArg Host.Outcome.next (if_pos over')
    exact ⟨_, eq, State.session_dropSession, fun y hy ne => List.mem_filter.mpr ⟨hy, by simpa using ne⟩, Within.keeps (State.dropSession_within (by decide))⟩

end Sys2Proof.Machine
end

section
/-! Debt that becomes die operations (O30). -/

namespace Sys2Proof.Machine

section
variable {s t u : State} {L : List Part} {d k n g b : ℕ} {o op : DieOp} {p : Profile}

/-! ### Operations that join a die's plan -/

/-- A new operation changes the numbering, the die's queue and what waits for a later frame, and takes nothing away. -/
theorem State.pushDieOp_plt : ∃ q l, (s.pushDieOp d op).plt = { s.plt with nextOp := s.plt.nextOp + 1, queue := q, later := l } ∧
    ∀ j o, s.waiting j o → (s.pushDieOp d op).waiting j o := by
  have kept : ∀ j o, j = d → s.waiting j o → (s.pushDieOp d op).waiting j o := fun j o e h => e ▸ State.pushDieOp_waiting (.inr (e ▸ h))
  have appended : ∀ (w j : ℕ) (o : DieOp), s.waiting j o → o ∈ s.dieQueue j ∨ ∃ v, (v, j, o) ∈ s.plt.later ++ [(w, d, op)] := fun w j o h =>
    h.imp_right fun ⟨v, hv⟩ => ⟨v, List.mem_append_left _ hv⟩
  unfold State.pushDieOp at kept ⊢
  extract_lets _ v at kept ⊢
  split
  · exact ⟨_, _, rfl, fun j o h => appended _ j o h⟩
  · next hq =>
    rw [if_neg hq] at kept
    split
    · next y hy =>
      rw [hy] at kept
      obtain ⟨p, hp, ins⟩ := Option.bind_eq_some_iff.mp hy
      unfold State.insertOp at ins
      extract_lets q q' at ins
      split at ins
      · obtain rfl := Option.some.inj ins
        refine ⟨_, _, rfl, fun j o h => ?_⟩
        by_cases e : j = d
        · exact kept j o e h
        · refine h.imp_left fun hm => ?_
          show o ∈ tabGet (fun _ => []) (tabSet (fun _ => []) v.plt.queue d q') j
          rw [tabGet_set_ne _ _ _ e]
          exact hm
      · exact absurd ins nofun
    · exact ⟨_, _, rfl, fun j o h => appended _ j o h⟩

/-- A die's debt of the frame taken out of the book. -/
def State.payDebt (s : State) (d : ℕ) : State := { s with plt := { s.plt with debt := tabSet (fun _ => 0) s.plt.debt (bkKey s.plt.frame d) 0 } }

theorem State.payDebt_debtNow {j : ℕ} : (s.payDebt d).debtNow j = if j = d then 0 else s.debtNow j := by
  show tabGet (fun _ => 0) (tabSet (fun _ => 0) s.plt.debt (bkKey s.plt.frame d) 0) (bkKey s.plt.frame j) = _
  by_cases h : j = d
  · rw [h, if_pos rfl, tabGet_set_self]
  · rw [if_neg h, tabGet_set_ne _ _ _ (by unfold bkKey; omega)]
    rfl

/-- What the debt of one die becomes (R163). -/
structure converted (s t : State) (d : ℕ) : Prop where
  within : Within [.plt] t s
  excess : t.plt.excess = s.plt.excess
  frame : t.plt.frame = s.plt.frame
  next : s.plt.nextOp ≤ t.plt.nextOp
  waits : ∀ j o, s.waiting j o → t.waiting j o
  zero : t.debtNow d = 0
  others : ∀ j, j ≠ d → t.debtNow j = s.debtNow j
  paid : ∃ o, t.waiting d o ∧ (o.kind = 4 ∨ o.kind = 2) ∧ s.plt.nextOp ≤ o.id

/-- One die's debt of the frame, converted. -/
def State.convertDie (s : State) (d : ℕ) : State :=
  let t := if s.eraseDue d then s.pushErase d else (s.pushOp d 4 (s.debtNow d) (s.plt.frameAt + msTicks)).convert d (s.debtNow d)
  t.payDebt d

/-- An operation pushed, whatever else of the plan it changes beside the debt. -/
theorem converted.of_push (hu : u.plt.excess = (s.pushDieOp d op).plt.excess ∧ u.plt.frame = (s.pushDieOp d op).plt.frame ∧
      u.plt.nextOp = (s.pushDieOp d op).plt.nextOp ∧ u.plt.debt = (s.pushDieOp d op).plt.debt ∧
      u.plt.queue = (s.pushDieOp d op).plt.queue ∧ u.plt.later = (s.pushDieOp d op).plt.later) (w : Within [.plt] u s)
    (hk : op.kind = 4 ∨ op.kind = 2) (hid : op.id = s.plt.nextOp) :
    converted s (u.payDebt d) d := by
  obtain ⟨excess, frame, next, debt, queue, later⟩ := hu
  obtain ⟨q, l, plt, kept⟩ := State.pushDieOp_plt (s := s) (d := d) (op := op)
  have waits : ∀ {j : ℕ} {o : DieOp}, (s.pushDieOp d op).waiting j o → (u.payDebt d).waiting j o := fun {j o} h => by
    unfold State.waiting State.dieQueue at h ⊢
    rw [show (u.payDebt d).plt.queue = _ from queue, show (u.payDebt d).plt.later = _ from later]
    exact h
  have same : u.plt.frame = s.plt.frame := by rw [frame, plt]
  refine ⟨.step (by decide) (.plt u _) w, ?_, same, ?_, fun j o h => waits (kept j o h), State.payDebt_debtNow.trans (if_pos rfl), fun j ne => ?_,
    ⟨op, waits (State.pushDieOp_waiting (.inl rfl)), hk, hid.ge⟩⟩
  · show u.plt.excess = _
    rw [excess, plt]
  · show _ ≤ u.plt.nextOp
    rw [next, plt]
    exact Nat.le_succ _
  · rw [State.payDebt_debtNow, if_neg ne, State.debtNow, same, debt, plt]
    rfl

theorem State.convertDie_spec (hp : s.profileOf d = some p) : converted s (s.convertDie d) d := by
  unfold State.convertDie
  by_cases h : s.eraseDue d = true
  · rw [if_pos h]
    refine .of_push (op := s.newOp d 2 p.tBERS (s.now + 64 * msTicks)) ?_ (State.pushErase_within (by decide)) (.inr rfl) rfl
    unfold State.pushErase
    rw [hp]
    exact ⟨rfl, rfl, rfl, rfl, rfl, rfl⟩
  · rw [if_neg h]
    exact .of_push (op := s.newOp d 4 (s.debtNow d) (s.plt.frameAt + msTicks)) ⟨rfl, rfl, rfl, rfl, rfl, rfl⟩
      ((State.convert_within (by decide)).trans (State.pushOp_within (by decide))) (.inl rfl) rfl

/-- The debt of several dies, converted one after the other. -/
theorem State.convertDies_spec (l : List ℕ) : ∀ s : State, (∀ d ∈ l, (s.profileOf d).isSome = true) →
    Within [.plt] (l.foldl (fun t d => t.convertDie d) s) s ∧ (l.foldl (fun t d => t.convertDie d) s).plt.excess = s.plt.excess ∧
      (∀ j o, s.waiting j o → (l.foldl (fun t d => t.convertDie d) s).waiting j o) ∧
      (∀ d, s.debtNow d = 0 ∨ d ∈ l → (l.foldl (fun t d => t.convertDie d) s).debtNow d = 0) ∧
      ∀ d ∈ l, ∃ o, (l.foldl (fun t d => t.convertDie d) s).waiting d o ∧ (o.kind = 4 ∨ o.kind = 2) ∧ s.plt.nextOp ≤ o.id := by
  induction l with
  | nil => exact fun s _ => ⟨.rfl, rfl, fun _ _ h => h, fun d h => h.elim id (fun m => absurd m List.not_mem_nil), fun d m => absurd m List.not_mem_nil⟩
  | cons a l ih =>
    intro s hl
    obtain ⟨p, hp⟩ := Option.isSome_iff_exists.mp (hl a List.mem_cons_self)
    have one := State.convertDie_spec hp
    obtain ⟨w, excess, waits, zero, paid⟩ := ih (s.convertDie a) fun d hd => by
      rw [one.within.profileOf (by decide)]
      exact hl d (List.mem_cons_of_mem _ hd)
    refine ⟨w.trans one.within, excess.trans one.excess, fun j o h => waits j o (one.waits j o h), fun d h => zero d ?_, fun d hd => ?_⟩
    · by_cases e : d = a
      · exact .inl (e ▸ one.zero)
      · rcases h with h | h
        · exact .inl ((one.others d e).trans h)
        · exact .inr ((List.mem_cons.mp h).resolve_left e)
    · rcases List.mem_cons.mp hd with e | hd
      · obtain ⟨o, ho, kind, id⟩ := one.paid
        exact ⟨o, waits d o (e ▸ ho), kind, id⟩
      · obtain ⟨o, ho, kind, id⟩ := paid d hd
        exact ⟨o, ho, kind, one.next.trans id⟩


theorem tabGet_foldl_set {f : ℕ → ℕ} (l : List ℕ) : ∀ (m : Tab ℕ) (j : ℕ),
    tabGet (fun _ => 0) (l.foldl (fun t d => tabSet (fun _ => 0) t d (f d)) m) j = if j ∈ l then f j else tabGet (fun _ => 0) m j := by
  induction l with
  | nil => exact fun _ _ => rfl
  | cons a l ih =>
    intro m j
    rw [List.foldl_cons, ih]
    by_cases e : j = a
    · subst e
      simp
    · rw [tabGet_set_ne _ _ _ e]
      simp [e]

/-- The part of a group's debt that each of its dies has to take. -/
def State.debtEach (s : State) (g : ℕ) : ℕ := ceilDiv (s.victimWork g) (max 1 (s.members g).length)
/-- What of it the die has converted and not carried out. -/
def State.underWay (s : State) (g d : ℕ) : ℕ := min (s.debtEach g) (tabGet (fun _ => 0) s.plt.converted d)
/-- The debt booked or converted for a die falls short of its part (R163). -/
def State.fallsShort (s : State) (g d : ℕ) : Prop :=
  s.debtAhead d + tabGet (fun _ => 0) s.plt.excess d + s.underWay g d < s.debtEach g

/-- The frame's debt of a group's dies converted. -/
def State.convertGroup (s : State) (g : ℕ) : State :=
  (((s.members g).map Prod.fst).filter (fun d => decide (0 < s.debtNow d))).foldl (fun t d => t.convertDie d) s

theorem exec_debtConversion (hg : g < 128) : exec (.debtConversion g) s =
    .next (if (((s.members g).map Prod.fst).filter (fun d => decide (s.debtAhead d + tabGet (fun _ => 0) s.plt.excess d + s.underWay g d < s.debtEach g))).isEmpty
      then s.convertGroup g
      else ({ s.convertGroup g with plt := { (s.convertGroup g).plt with
        excess := (((s.members g).map Prod.fst).filter
          (fun d => decide (s.debtAhead d + tabGet (fun _ => 0) s.plt.excess d + s.underWay g d < s.debtEach g))).foldl
          (fun t d => tabSet (fun _ => 0) t d (s.debtEach g - s.debtAhead d - s.underWay g d)) s.plt.excess } } : State).event
        F.PLT_EVENTS_DEBT_OVERRUN 0 g) := by
  have each : ceilDiv (s.victimWork g) (max 1 ((s.members g).map Prod.fst).length) = s.debtEach g := by rw [List.length_map]; rfl
  show execDebtConversion g s = _
  unfold execDebtConversion
  rw [if_neg (by omega)]
  dsimp only
  rw [each]
  rfl

theorem State.convertGroup_spec : Within [.plt] (s.convertGroup g) s ∧ (s.convertGroup g).plt.excess = s.plt.excess ∧
    ∀ m ∈ s.members g, (s.convertGroup g).debtNow m.1 = 0 ∧ (0 < s.debtNow m.1 →
      ∃ o, (o ∈ (s.convertGroup g).dieQueue m.1 ∨ ∃ w, (w, m.1, o) ∈ (s.convertGroup g).plt.later) ∧ (o.kind = 4 ∨ o.kind = 2) ∧ s.plt.nextOp ≤ o.id) := by
  have profiled : ∀ d ∈ ((s.members g).map Prod.fst).filter (fun d => decide (0 < s.debtNow d)), (s.profileOf d).isSome = true := fun d hd => by
    obtain ⟨m, hm, rfl⟩ := List.mem_map.mp (List.mem_of_mem_filter hd)
    unfold State.members at hm
    obtain ⟨e, -, he⟩ := List.mem_filterMap.mp hm
    split at he
    · obtain ⟨p, hp, rfl⟩ := Option.map_eq_some_iff.mp he
      rw [hp]
      rfl
    · exact absurd he nofun
  obtain ⟨w, excess, -, zero, paid⟩ := State.convertDies_spec _ s profiled
  have due : ∀ m ∈ s.members g, 0 < s.debtNow m.1 → m.1 ∈ ((s.members g).map Prod.fst).filter (fun d => decide (0 < s.debtNow d)) := fun m hm h =>
    List.mem_filter.mpr ⟨List.mem_map.mpr ⟨m, hm, rfl⟩, decide_eq_true h⟩
  refine ⟨w, excess, fun m hm => ⟨zero m.1 ?_, fun h => paid m.1 (due m hm h)⟩⟩
  rcases Nat.eq_zero_or_pos (s.debtNow m.1) with h | h
  · exact .inl h
  · exact .inr (due m hm h)

theorem debtConversion_leads (hg : g < 128) :
    ((∀ m ∈ s.members g, ¬ s.fallsShort g m.1) → leads (.debtConversion g) s fun t =>
      ((∀ m ∈ s.members g, t.debtNow m.1 = 0 ∧ (0 < s.debtNow m.1 →
        ∃ o, (o ∈ t.dieQueue m.1 ∨ ∃ w, (w, m.1, o) ∈ t.plt.later) ∧ (o.kind = 4 ∨ o.kind = 2) ∧ s.plt.nextOp ≤ o.id)) ∧ t.svy = s.svy) ∧
      t.plt.excess = s.plt.excess ∧ keepsBut [.plt] s t) ∧
    ((∃ m ∈ s.members g, s.fallsShort g m.1) → leads (.debtConversion g) s fun t =>
      ((∀ m ∈ s.members g, t.debtNow m.1 = 0 ∧ (0 < s.debtNow m.1 →
        ∃ o, (o ∈ t.dieQueue m.1 ∨ ∃ w, (w, m.1, o) ∈ t.plt.later) ∧ (o.kind = 4 ∨ o.kind = 2) ∧ s.plt.nextOp ≤ o.id)) ∧ t.svy = s.svy) ∧
      t.fld F.PLT_EVENTS_DEBT_OVERRUN 0 = 1 ∧
      (∀ m ∈ s.members g, s.fallsShort g m.1 → tabGet (fun _ => 0) t.plt.excess m.1 = s.debtEach g - s.debtAhead m.1 - s.underWay g m.1) ∧
      keepsBut (([.plt, .reg .PLT_EVENTS] : List Part) ++ eventParts) s t) := by
  obtain ⟨l, hl⟩ : ∃ l, l = ((s.members g).map Prod.fst).filter
    (fun d => decide (s.debtAhead d + tabGet (fun _ => 0) s.plt.excess d + s.underWay g d < s.debtEach g)) := ⟨_, rfl⟩
  have short : ∀ m ∈ s.members g, s.fallsShort g m.1 → m.1 ∈ l := fun m hm h => by
    rw [hl]
    exact List.mem_filter.mpr ⟨List.mem_map.mpr ⟨m, hm, rfl⟩, decide_eq_true h⟩
  obtain ⟨w, excess, paid⟩ := State.convertGroup_spec (s := s) (g := g)
  have run := exec_debtConversion (s := s) hg
  rw [← hl] at run
  refine ⟨fun h => ?_, fun ⟨m, hm, h⟩ => ?_⟩
  · have none : l = [] := by
      rw [hl, List.filter_eq_nil_iff]
      intro d hd
      obtain ⟨m, hm, rfl⟩ := List.mem_map.mp hd
      simpa [State.fallsShort] using h m hm
    rw [none, List.isEmpty_nil, if_pos rfl] at run
    exact ⟨_, run, ⟨paid, w.keeps .svy (by decide)⟩, excess, w.keeps⟩
  · have some : ¬ l.isEmpty = true := fun e => by
      rw [List.isEmpty_iff] at e
      exact absurd (short m hm h) (by rw [e]; exact List.not_mem_nil)
    rw [if_neg some] at run
    obtain ⟨v, hv⟩ : ∃ v : State, v = { s.convertGroup g with plt := { (s.convertGroup g).plt with
        excess := l.foldl (fun t d => tabSet (fun _ => 0) t d (s.debtEach g - s.debtAhead d - s.underWay g d)) s.plt.excess } } := ⟨_, rfl⟩
    rw [← hv] at run
    have e : Within (.reg .PLT_EVENTS :: eventParts) (v.event F.PLT_EVENTS_DEBT_OVERRUN 0 g) v := State.event_within (by decide) (by decide)
    have plt : (v.event F.PLT_EVENTS_DEBT_OVERRUN 0 g).plt = v.plt := e.keeps .plt (by decide)
    have vw : Within [.plt] v s := by
      rw [hv]
      exact .step (by decide) (.plt (s.convertGroup g) _) w
    refine ⟨_, run, ⟨fun m hm => ?_, (e.keeps .svy (by decide)).trans (vw.keeps .svy (by decide))⟩, State.fld_event (by decide) rfl (by decide), fun m hm h => ?_,
      Within.keeps (.trans (e.mono (by decide)) (vw.mono (by decide)))⟩
    · unfold State.debtNow State.dieQueue
      rw [plt, hv]
      exact paid m hm
    · rw [plt, hv]
      exact (tabGet_foldl_set (f := fun d => s.debtEach g - s.debtAhead d - s.underWay g d) l s.plt.excess m.1).trans (if_pos (short m hm h))

end

end Sys2Proof.Machine
end

section
/-! Upkeep (O30). -/

namespace Sys2Proof.Machine

section
variable {s t u : State} {L : List Part} {b sh n row key old new a : ℕ} {x : Band}

/-! ### The rows a band has lost -/

/-- No band's list of lost rows has changed. -/
def sameLost (s t : State) : Prop := ∀ b, (t.bandRec b).lost = (s.bandRec b).lost

theorem sameLost.refl (s : State) : sameLost s s := fun _ => rfl
theorem sameLost.trans (h : sameLost s t) (k : sameLost t u) : sameLost s u := fun b => (k b).trans (h b)
theorem sameLost.of_within (h : Within L t s) (hs : .svy ∉ L) : sameLost s t := fun b => by
  rw [State.bandRec, State.bandRec, show t.svy = s.svy from h.keeps .svy hs]
theorem sameLost.foldl {α : Type} {f : State → α → State} {l : List α} (h : ∀ u x, sameLost u (f u x)) : sameLost s (l.foldl f s) := by
  induction l generalizing s with
  | nil => exact .refl s
  | cons x l ih => exact (h s x).trans ih

theorem State.setBand_sameLost (h : x.lost = (s.bandRec b).lost) : sameLost s (s.setBand b x) := fun c => by
  by_cases e : c = b
  · rw [e, State.bandRec_setBand, h]
  · rw [State.bandRec_setBand_ne e]

theorem State.moveBand_sameLost (h : x.lost = (s.bandRec b).lost) : sameLost s (s.moveBand b x) := State.setBand_sameLost h

theorem State.drainBand_sameLost : sameLost s (s.drainBand b) := by
  have moved : sameLost s (s.moveBand b { s.bandRec b with st := .drained }) := State.moveBand_sameLost rfl
  have unqueued : ∀ u : State, sameLost u (u.unqueue b) := fun _ _ => rfl
  have dropped : Within [.plt] (s.drainBand b) ((s.moveBand b { s.bandRec b with st := .drained }).unqueue b) := State.dropOwed_within (by decide)
  exact moved.trans ((unqueued _).trans (.of_within dropped (by decide)))

theorem State.validDown_sameLost : sameLost s (s.validDown a n) := by
  unfold State.validDown State.drainIf
  extract_lets b x y
  have counted : sameLost s (s.setBand b { x with valid := x.valid - n }) := State.setBand_sameLost rfl
  split
  · exact counted.trans State.drainBand_sameLost
  · exact counted

theorem State.leaveOld_sameLost {x : Ent} : sameLost s (s.leaveOld key x) := by
  unfold State.leaveOld
  split
  · exact State.validDown_sameLost
  · exact .of_within (L := [.pwr, .atl]) (State.supersede_within (by decide)) (by decide)
  · exact .refl s
  · exact .refl s

theorem State.sweepSeg_sameLost : sameLost s (s.sweepSeg n) := by
  unfold State.sweepSeg
  exact (sameLost.foldl fun u e => State.leaveOld_sameLost.trans
    (.of_within (L := [.atl]) (State.setEnt_within (by decide)) (by decide)) : sameLost s _)

theorem State.putEnt_sameLost {x : Ent} : sameLost s (s.putEnt key x) := by
  unfold State.putEnt
  extract_lets k v w
  have swept : sameLost s v := by
    unfold v
    split
    · exact State.sweepSeg_sameLost
    · exact .refl s
  have put : Within [.atl] ((w.setEnt key x).markDirty k) w := (State.markDirty_within (by decide)).trans (State.setEnt_within (by decide))
  exact swept.trans (State.leaveOld_sameLost.trans (.of_within put (by decide)))

theorem State.putAll_sameLost {ty : ℕ} {l : List (ℕ × Ent × ℕ)} : sameLost s (s.putAll ty l) := by
  unfold State.putAll
  extract_lets v
  have put : sameLost s v := .foldl fun u e => State.putEnt_sameLost
  have journal {k p i m : ℕ} {l : List (ℕ × Ent × ℕ)} : sameLost v (v.journal k p i m l) :=
    .of_within (State.journal_within fun _ h => h) (by decide)
  split
  · exact put
  · split
    · exact put.trans journal
    · exact put.trans journal

theorem State.swapAll_sameLost {ty : ℕ} {l : List (ℕ × Ent × ℕ)} : sameLost s (s.swapAll ty l) := by
  unfold State.swapAll
  extract_lets q
  split
  · exact .refl s
  · split
    · next u e => exact (sameLost.of_within (L := [.atl]) (State.readySegs_within (by decide) _ e) (by decide)).trans State.putAll_sameLost
    · exact .of_within (L := [.atl]) (State.queueUpd_within (by decide)) (by decide)

theorem State.poisonIu_sameLost : sameLost s (s.poisonIu key n) := by
  unfold State.poisonIu
  have closed : Within closeAsmParts ((s.closeSlots fun k => decide (k = key)).setPoison key 0) s :=
    (State.setPoison_within (by decide)).trans (State.closeSlots_within fun _ h => h)
  exact (sameLost.of_within closed (by decide)).trans State.swapAll_sameLost

theorem State.queueRefresh_sameLost {front : Bool} : sameLost s (s.queueRefresh b n front) := by
  have moved : sameLost s (s.moveBand b { s.bandRec b with reason := n }) := State.moveBand_sameLost rfl
  unfold State.queueRefresh
  dsimp only
  split
  · exact .refl s
  · split
    · split
      · exact moved
      · exact .refl s
    · exact moved

/-- A row that is lost is in its band's list, with its event (R194). -/
theorem State.rowLost_spec {erased : List ℕ} (h : row ∉ (s.bandRec b).lost) :
    row ∈ ((s.rowLost b row erased).bandRec b).lost ∧ (s.rowLost b row erased).fld F.PAR_EVENTS_LOST_STRIPE 0 = 1 := by
  obtain ⟨r, hr⟩ : ∃ r, r = s.rowLost b row erased := ⟨_, rfl⟩
  rw [← hr]
  unfold State.rowLost at hr
  extract_lets x data ks fs v w m src w2 w3 w4 w5 at hr
  rw [if_neg (show ¬ x.lost.contains row = true by simpa using h)] at hr
  have listed : row ∈ (v.bandRec b).lost := by
    have moved : v.bandRec b = _ := State.bandRec_setBand
    rw [moved]
    exact List.mem_cons_self
  have poisoned : sameLost v w := .foldl fun u k => State.poisonIu_sameLost
  have noted : Within (([.par, .reg .PAR_EVENTS] : List Part) ++ eventParts) w2 w :=
    .ite (State.event_within (by decide) (by decide)) (.step (by decide) (.par w _) .rfl)
  have written : Within (([.par, .reg .PAR_EVENTS] : List Part) ++ eventParts) w3 w := (State.record_within (by decide)).trans noted
  have counted : Within (([.media, .par, .reg .PAR_EVENTS, .reg .PAR_LOST] : List Part) ++ eventParts) w4 w :=
    (State.event_within (by decide) (by decide)).trans ((State.mediaCount_within (by decide)).trans
      ((State.bump_within (by decide)).trans (written.mono (by decide))))
  have told : Within adminParts w5 w4 := Within.foldl fun u f => State.asyncEvent_within fun _ h => h
  have lost : row ∈ (w5.bandRec b).lost := by
    rw [sameLost.of_within told (by decide) b, sameLost.of_within counted (by decide) b, poisoned b]
    exact listed
  have event : w5.fld F.PAR_EVENTS_LOST_STRIPE 0 = 1 := (told.fld (by decide)).trans (State.fld_event (by decide) rfl (by decide))
  split at hr <;> rw [hr]
  · have queued : Within [.plt, .atl, .svy] (w5.queueRefresh b 3 true) w5 := State.queueRefresh_within (by decide)
    exact ⟨(State.queueRefresh_sameLost b).symm ▸ lost, (queued.fld (by decide)).trans event⟩
  · exact ⟨lost, event⟩

/-! ### Relocation -/

/-- A read of a VICTIM band is counted and queues nothing. -/
theorem State.countReads_victim (h : (s.bandRec b).st = .victim) :
    Within [.svy] (s.countReads b sh n) s ∧ ((s.countReads b sh n).bandRec b).st = .victim := by
  unfold State.countReads
  extract_lets x c c' v lim
  have counted : v.bandRec b = { x with reads := tabSet (fun _ => 0) x.reads sh c' } := State.bandRec_setBand
  rw [if_neg (by rw [h]; decide), if_neg (by rw [show x.st = .victim from h]; simp)]
  exact ⟨State.setBand_within (by decide), by rw [counted]; exact h⟩

theorem State.countReads_victims {l : List ℕ} (h : (s.bandRec b).st = .victim) :
    Within [.svy] (l.foldl (fun u k => u.countReads b (dieSheet k) 1) s) s := by
  induction l generalizing s with
  | nil => exact .rfl
  | cons k l ih =>
    obtain ⟨w, st⟩ := State.countReads_victim (sh := dieSheet k) (n := 1) h
    exact (ih st).trans w

/-- The read of a relocation, directly or by detour, only counts reads of the VICTIM. -/
theorem State.relocRead_victim (h : (s.bandRec (s.bandOfAddr a)).st = .victim) (ht : s.relocRead a = some t) : Within [.svy] t s := by
  unfold State.relocRead at ht
  dsimp only at ht
  split at ht
  · obtain rfl := Option.some.inj ht
    exact (State.countReads_victim h).1
  · split at ht
    · exact absurd ht nofun
    · obtain rfl := Option.some.inj ht
      exact State.countReads_victims h

/-- What a relocation must meet to be carried out at all. -/
structure relocates (s : State) (old new : ℕ) : Prop where
  victim : (s.bandRec (s.bandOfAddr (old % 2 ^ 36))).st = .victim
  data : s.dataIn new 1 = true
  group : s.bandOfAddr (new % 2 ^ 36) % 128 = s.relocGroup (s.bandOfAddr (old % 2 ^ 36) % 128)
  layout : (s.bandRec (s.bandOfAddr (new % 2 ^ 36))).layoutGen = s.par.layoutGen

variable {pool iu : ℕ}

theorem exec_relocation (h : relocates s old new)
    (next : s.lookup (iuKey pool iu) = mappedAt old → s.nextValid (s.bandOfAddr (old % 2 ^ 36)) = some (iuKey pool iu)) :
    (∀ t, s.relocRead (old % 2 ^ 36) = some t → ∃ g n, exec (.relocation pool iu old new) s =
      .next (((t.reseal (iuKey pool iu) old new false).relocate (iuKey pool iu) old new).carriedOut g n)) ∧
    (s.relocRead (old % 2 ^ 36) = none → ∃ erased, exec (.relocation pool iu old new) s =
      .next (s.rowLost (s.bandOfAddr (old % 2 ^ 36)) (s.pageOfAddr (old % 2 ^ 36)) erased)) := by
  obtain ⟨victim, data, group, layout⟩ := h
  have on : ¬ ((s.bandRec (s.bandOfAddr (old % 2 ^ 36))).st ≠ .victim ∨ s.dataIn new 1 = false ∨
      s.bandOfAddr (new % 2 ^ 36) % 128 ≠ s.relocGroup (s.bandOfAddr (old % 2 ^ 36) % 128) ∨
      (s.bandRec (s.bandOfAddr (new % 2 ^ 36))).layoutGen ≠ s.par.layoutGen) := by
    rw [victim, data, group, layout]
    simp
  have first : ¬ (s.lookup (iuKey pool iu) = mappedAt old ∧ s.nextValid (s.bandOfAddr (old % 2 ^ 36)) ≠ some (iuKey pool iu)) :=
    fun ⟨h, k⟩ => k (next h)
  have run : exec (.relocation pool iu old new) s = execRelocation pool iu old new s := rfl
  unfold execRelocation at run
  dsimp only at run
  rw [if_neg on, if_neg first] at run
  refine ⟨fun t ht => ?_, fun hn => ?_⟩
  · rw [ht] at run
    exact ⟨_, _, run⟩
  · rw [hn] at run
    exact ⟨_, run⟩

/-- A relocation swaps the entry that names the old place, with its record; an entry that has changed is a failure that is counted. -/
theorem relocation_reads (h : relocates s old new) (hs : (s.readySegs [segOfIu (iuKey pool iu)]).isSome = true)
    (hr : (s.relocRead (old % 2 ^ 36)).isSome = true) :
    (s.lookup (iuKey pool iu) = mappedAt old → s.nextValid (s.bandOfAddr (old % 2 ^ 36)) = some (iuKey pool iu) →
      leads (.relocation pool iu old new) s fun t => t.lookup (iuKey pool iu) = mappedAt new ∧
        (∀ k, k ≠ iuKey pool iu → t.lookup k = s.lookup k) ∧ t.atl.jseq = (s.atl.jseq + 1) % 2 ^ 48 ∧ keepsBut (.cip :: .plt :: mapParts) s t) ∧
    (s.lookup (iuKey pool iu) ≠ mappedAt old → leads (.relocation pool iu old new) s fun t =>
      t.atl.ent = s.atl.ent ∧ t.atl.jseq = s.atl.jseq ∧
      t.fld F.ATL_CAS_FAIL_COUNT 0 = satAdd (2 ^ 32 - 1) (s.fld F.ATL_CAS_FAIL_COUNT 0) 1 ∧
      keepsBut [.atl, .cip, .out, .plt, .svy, .reg .ATL_CAS_FAIL] s t) := by
  obtain ⟨r, hr⟩ := Option.isSome_iff_exists.mp hr
  let u := r.reseal (iuKey pool iu) old new false
  have wu : Within [.cip, .out, .svy] u s := (State.reseal_within (by decide)).trans ((State.relocRead_victim h.victim hr).mono (by decide))
  have atl : u.atl = s.atl := wu.keeps .atl (by decide)
  have ready : (u.readySegs [segOfIu (iuKey pool iu)]).isSome = true :=
    (sameAtlas.of_within wu (by decide) (by decide) (by decide)).ready (wu.keeps (.reg .ATL_STEER) (by decide)) hs
  obtain ⟨v, hv⟩ := Option.isSome_iff_exists.mp ready
  have same := State.readySegs_sameMap hv
  have ents : sameEnts s v := (sameEnts.of_eq atl).trans same.ents
  have relocate : u.relocate (iuKey pool iu) old new = v.relocateEnt (iuKey pool iu) old new (u.dataEpoch new) := by
    unfold State.relocate
    dsimp only
    rw [hv]
  have carried {g n : ℕ} {w : State} : Within [.plt] (w.carriedOut g n) w := State.carriedOut_within (by decide)
  refine ⟨fun hl next => ?_, fun hl => ?_⟩
  · obtain ⟨g, n, run⟩ := (exec_relocation h fun _ => next).1 r hr
    have hit : u.relocate (iuKey pool iu) old new = v.mapTo (iuKey pool iu) new (u.dataEpoch new) := relocate.trans (if_pos (ents.lookup.trans hl))
    have sw : swapped s (v.mapTo (iuKey pool iu) new (u.dataEpoch new)) (iuKey pool iu) (mappedAt new) := .of_ents ents State.mapTo_swapped
    have w : Within (.plt :: mapParts) (v.mapTo (iuKey pool iu) new (u.dataEpoch new)) u := State.mapTo_within.trans (same.within.mono (by decide))
    rw [show r.reseal (iuKey pool iu) old new false = u from rfl, hit] at run
    exact ⟨_, run, (sw.lookup _).trans (if_pos rfl), fun k hk => (sw.lookup k).trans (if_neg hk), sw.jseq,
      ((carried.mono (by decide)).trans ((w.mono (by decide)).trans (wu.mono (by decide)))).keeps⟩
  · obtain ⟨g, n, run⟩ := (exec_relocation h fun e => absurd e hl).1 r hr
    have miss : u.relocate (iuKey pool iu) old new = v.casFail := relocate.trans (if_neg (by rw [ents.lookup]; exact hl))
    rw [show r.reseal (iuKey pool iu) old new false = u from rfl, miss] at run
    refine ⟨_, run, ents.ent, ents.queue.jseq, ?_,
      ((carried.mono (by decide)).trans ((State.casFail_within (by decide)).trans ((same.within.mono (by decide)).trans (wu.mono (by decide))))).keeps⟩
    rw [carried.fld (by decide), State.casFail, State.fld_bump (by decide), same.within.fld (by decide), wu.fld (by decide)]
    rfl

theorem relocation_loses (h : relocates s old new)
    (next : s.nextValid (s.bandOfAddr (old % 2 ^ 36)) = some (iuKey pool iu)) (hr : s.relocRead (old % 2 ^ 36) = none)
    (fresh : s.pageOfAddr (old % 2 ^ 36) ∉ (s.bandRec (s.bandOfAddr (old % 2 ^ 36))).lost) : leads (.relocation pool iu old new) s fun t =>
      s.pageOfAddr (old % 2 ^ 36) ∈ (t.bandRec (s.bandOfAddr (old % 2 ^ 36))).lost ∧ t.fld F.PAR_EVENTS_LOST_STRIPE 0 = 1 ∧
      keepsBut (([.cpls, .ctls, .media, .par, .plt, .til, .reg .PAR_EVENTS, .reg .PAR_LOST, .reg .TIL_POOL_WM] : List Part) ++ mapParts) s t := by
  obtain ⟨erased, run⟩ := (exec_relocation h fun _ => next).2 hr
  obtain ⟨lost, event⟩ := State.rowLost_spec (erased := erased) fresh
  exact ⟨_, run, lost, event, Within.keeps (State.rowLost_within (by decide))⟩

theorem relocation_ignored (h : (s.bandRec (s.bandOfAddr (old % 2 ^ 36))).st ≠ .victim ∨
    (s.bandRec (s.bandOfAddr (new % 2 ^ 36))).layoutGen ≠ s.par.layoutGen) : exec (.relocation pool iu old new) s = .next s := by
  show execRelocation pool iu old new s = _
  unfold execRelocation
  dsimp only
  rw [if_pos (h.imp_right fun h => .inr (.inr h))]

end

section
variable {s t u : State} {b d page i j was m : ℕ} {first : Bool}

/-! ### The published figures -/

theorem foldl_add_eq_zero {l : List (ℕ × ℕ)} (h : ∀ e ∈ l, e.1 = 0) : ∀ n, l.foldl (fun n e => n + e.1) n = n := by
  induction l with
  | nil => exact fun _ => rfl
  | cons e l ih =>
    intro n
    rw [List.foldl_cons, h e List.mem_cons_self]
    exact ih (fun e he => h e (List.mem_cons_of_mem _ he)) n

/-- The bytes of the window are moved into the history; the booked estimate stays at most A_MAX (R176). -/
theorem waEstimate_leads : leads .waEstimate s fun t => t.svy.hostBytes = 0 ∧ t.svy.relocBytes = 0 ∧
    t.svy.waHist = ((s.svy.hostBytes, s.svy.relocBytes) :: s.svy.waHist).take (10 * s.fld F.SVY_GC_CFG_WA_WINDOW_S 0) ∧
    t.svy.aBooked ≤ 256 * s.fld F.SVY_GC_CFG_A_MAX 0 ∧ ((∀ e ∈ t.svy.waHist, e.1 = 0) → t.svy.aMeas = 256) ∧
    t.svy.band = s.svy.band ∧ keepsBut [.svy] s t := by
  obtain ⟨t, run, ht⟩ : ∃ t, exec .waEstimate s = .next t ∧ .next t = execWaEstimate s := ⟨_, rfl, rfl⟩
  have one : waOne * 256 / waOne = 256 := by decide
  unfold execWaEstimate at ht
  extract_lets hist h r amax meas pred v booked at ht
  obtain rfl := Host.Outcome.next.inj ht
  refine ⟨_, run, rfl, rfl, rfl, ?_, fun zero => ?_, rfl, Within.keeps (.step (by decide) (.svy s _) .rfl)⟩
  · have le : booked ≤ amax * waOne := Nat.min_le_left ..
    calc booked * 256 / waOne ≤ amax * waOne * 256 / waOne := Nat.div_le_div_right (Nat.mul_le_mul_right _ le)
      _ = 256 * amax * waOne / waOne := by ring_nf
      _ = 256 * amax := Nat.mul_div_cancel _ (by decide)
  · have none : h = 0 := foldl_add_eq_zero zero 0
    have quiet : meas = waOne := if_pos none
    calc min 65535 (meas * 256 / waOne) = min 65535 256 := by rw [quiet, one]
      _ = 256 := rfl

theorem State.rg_setFld_ne {f : Fld} {v : ℕ} {r : Reg} (h : i ≠ j) : (s.setFld f i v).rg r j = s.rg r j :=
  State.rg_setReg_ne _ (.inr h.symm)

theorem State.rg_event_ne {f : Fld} {sub : ℕ} {r : Reg} (h : i ≠ j) (hr : .reg r ∉ eventParts) : (s.event f i sub).rg r j = s.rg r j := by
  unfold State.event
  split
  · rfl
  · extract_lets s1 n s2 s3
    have h2 : Within eventParts s2 s1 := .ite (State.emit_within (by decide)) .rfl
    have h3 : Within eventParts s3 s1 := (Within.ite (State.record_within (by decide)) .rfl).trans h2
    have h4 : Within eventParts (if n.vector = 1 then s3.signalPfs else if n.vector = 2 then s3.signalMbx i else s3) s1 :=
      (Within.ite (State.signalPfs_within (by decide) (by decide)) (.ite (State.signalMbx_within (by decide) (by decide)) .rfl)).trans h3
    exact (h4.keeps (.reg r) hr j).trans (State.rg_setFld_ne h)

/-- The figure falls below a mark that it was not below before. -/
def crosses (level was m : ℕ) (first : Bool) : Prop := m < level ∧ (first = true ∨ level ≤ was)

/-- A mark that is crossed sets its bit and counts; any other keeps its register, and no mark touches another's (R165). -/
theorem State.freeMark_crossed (h : crosses (s.fld F.SVY_FREE_WM_LEVEL i) was m first) :
    (s.freeMark i was m first).fld F.SVY_FREE_WM_CROSSED i = 1 ∧
    (s.freeMark i was m first).fld F.SVY_FREE_WM_COUNT i = satAdd 65535 (s.fld F.SVY_FREE_WM_COUNT i) 1 := by
  have mark : s.freeMark i was m first = (s.bump F.SVY_FREE_WM_COUNT i 1).event F.SVY_FREE_WM_CROSSED i 0 := if_pos h
  rw [mark]
  exact ⟨State.fld_event (by decide) rfl (by decide), (State.fld_event_ne (.inr (.inr (.inl (by decide)))) (by decide)).trans (State.fld_bump (by decide))⟩

theorem State.freeMark_uncrossed (h : ¬ crosses (s.fld F.SVY_FREE_WM_LEVEL i) was m first) : s.freeMark i was m first = s :=
  if_neg h

theorem State.freeMark_rg_ne (h : i ≠ j) : (s.freeMark i was m first).rg .SVY_FREE_WM j = s.rg .SVY_FREE_WM j := by
  unfold State.freeMark
  dsimp only
  split
  · exact (State.rg_event_ne h (by decide)).trans (State.rg_setFld_ne h)
  · rfl

theorem State.freeMarks_spec : ∀ (l : List ℕ) (s : State), l.Nodup →
    ((∀ i, i ∉ l → (l.foldl (fun u i => u.freeMark i was m first) s).rg .SVY_FREE_WM i = s.rg .SVY_FREE_WM i) ∧
    ∀ i ∈ l, (crosses (s.fld F.SVY_FREE_WM_LEVEL i) was m first →
        (l.foldl (fun u i => u.freeMark i was m first) s).fld F.SVY_FREE_WM_CROSSED i = 1 ∧
        (l.foldl (fun u i => u.freeMark i was m first) s).fld F.SVY_FREE_WM_COUNT i = satAdd 65535 (s.fld F.SVY_FREE_WM_COUNT i) 1) ∧
      (¬ crosses (s.fld F.SVY_FREE_WM_LEVEL i) was m first →
        (l.foldl (fun u i => u.freeMark i was m first) s).rg .SVY_FREE_WM i = s.rg .SVY_FREE_WM i))
  | [], s, _ => ⟨fun _ _ => rfl, fun i hi => absurd hi List.not_mem_nil⟩
  | k :: l, s, nodup => by
    obtain ⟨hk, nodup⟩ := List.nodup_cons.mp nodup
    obtain ⟨out, mem⟩ := State.freeMarks_spec l (s.freeMark k was m first) nodup
    refine ⟨fun i hi => ?_, fun i hi => ?_⟩
    · exact (out i fun h => hi (List.mem_cons_of_mem _ h)).trans (State.freeMark_rg_ne fun e => hi (e ▸ List.mem_cons_self))
    · rcases List.mem_cons.mp hi with rfl | hi
      · have last := out i hk
        refine ⟨fun h => ?_, fun h => last.trans (by rw [State.freeMark_uncrossed h])⟩
        obtain ⟨crossed, count⟩ := State.freeMark_crossed h
        exact ⟨(State.fld_eq_of_rg last).trans crossed, (State.fld_eq_of_rg last).trans count⟩
      · have same := State.freeMark_rg_ne (s := s) (was := was) (m := m) (first := first) (show k ≠ i from fun e => hk (e ▸ hi))
        have level := State.fld_eq_of_rg (f := F.SVY_FREE_WM_LEVEL) same
        have count := State.fld_eq_of_rg (f := F.SVY_FREE_WM_COUNT) same
        obtain ⟨yes, no⟩ := mem i hi
        rw [level, count] at yes
        rw [level] at no
        exact ⟨yes, fun h => (no h).trans same⟩

/-- MIN_FREE is published; what its marks make of it stands after (R165). -/
theorem minFreePublish_leads : leads .minFreePublish s fun t => t.svy.published = true ∧ t.svy.minFree = s.minFreeNow ∧
    (∀ i, i < 3 →
      (crosses (s.fld F.SVY_FREE_WM_LEVEL i) s.svy.minFree s.minFreeNow (!s.svy.published) → t.fld F.SVY_FREE_WM_CROSSED i = 1 ∧
        t.fld F.SVY_FREE_WM_COUNT i = satAdd 65535 (s.fld F.SVY_FREE_WM_COUNT i) 1) ∧
      (¬ crosses (s.fld F.SVY_FREE_WM_LEVEL i) s.svy.minFree s.minFreeNow (!s.svy.published) → t.rg .SVY_FREE_WM i = s.rg .SVY_FREE_WM i)) ∧
    t.svy.band = s.svy.band ∧ keepsBut (([.svy, .reg .SVY_FREE_WM, .reg .SVY_MEDIA_EVENTS] : List Part) ++ eventParts) s t := by
  obtain ⟨v, hv⟩ : ∃ v : State, v = { s with svy := { s.svy with published := true, minFree := s.minFreeNow } } := ⟨_, rfl⟩
  obtain ⟨w, hw⟩ : ∃ w, w = (List.range 3).foldl (fun u i => u.freeMark i s.svy.minFree s.minFreeNow (!s.svy.published)) v := ⟨_, rfl⟩
  have run : exec .minFreePublish s = .next w.stopWrites := by
    rw [hw, hv]
    rfl
  have wv : Within [.svy] v s := by
    rw [hv]
    exact .step (by decide) (.svy s _) .rfl
  have ww : Within (.reg .SVY_FREE_WM :: eventParts) w v := by
    rw [hw]
    exact Within.foldl fun u i => State.freeMark_within (by decide)
  obtain ⟨x, stopped, kept⟩ : ∃ x, w.stopWrites.svy = { w.svy with writesStopped := x } ∧
      Within (([.svy, .reg .SVY_MEDIA_EVENTS] : List Part) ++ eventParts) w.stopWrites w := by
    unfold State.stopWrites
    extract_lets can
    split
    · exact ⟨_, rfl, .rfl⟩
    · have e := State.event_within (t := { w with svy := { w.svy with writesStopped := true } }) (f := F.SVY_MEDIA_EVENTS_WRITES_STOPPED) (i := 0)
        (sub := 0) (L := .reg .SVY_MEDIA_EVENTS :: eventParts) (by decide) (by decide)
      exact ⟨true, e.keeps .svy (by decide), (e.mono (by decide)).trans (.step (by decide) (.svy w _) .rfl)⟩
  have svy : w.stopWrites.svy = { s.svy with published := true, minFree := s.minFreeNow, writesStopped := x } := by
    rw [stopped, show w.svy = v.svy from ww.keeps .svy (by decide), hv]
  refine ⟨_, run, by rw [svy], by rw [svy], fun i hi => ?_, by rw [svy], (kept.mono (by decide) |>.trans ((ww.mono (by decide)).trans (wv.mono (by decide)))).keeps⟩
  obtain ⟨yes, no⟩ := (State.freeMarks_spec (was := s.svy.minFree) (m := s.minFreeNow) (first := !s.svy.published) (List.range 3) v List.nodup_range).2 i
    (List.mem_range.mpr hi)
  rw [← hw, wv.fld (f := F.SVY_FREE_WM_LEVEL) (by decide), wv.fld (f := F.SVY_FREE_WM_COUNT) (by decide)] at yes
  rw [← hw, wv.fld (f := F.SVY_FREE_WM_LEVEL) (by decide)] at no
  have rg := kept.keeps (.reg .SVY_FREE_WM) (by decide) i
  refine ⟨fun h => ?_, fun h => rg.trans ((no h).trans (wv.keeps (.reg .SVY_FREE_WM) (by decide) i))⟩
  obtain ⟨crossed, count⟩ := yes h
  exact ⟨(State.fld_eq_of_rg rg).trans crossed, (State.fld_eq_of_rg rg).trans count⟩

/-! ### Retention samples -/

theorem State.readSides_plain {p : Profile} : Share.plain ⟨d, p.tR, s.readSides d p⟩ := by
  intro e he
  unfold State.readSides at he
  simp only [List.mem_cons, List.not_mem_nil, or_false] at he
  rcases he with rfl | rfl | rfl | rfl <;> simp

/-- The due sample that comes first is stamped on its band, and its read is booked or owed (R173). -/
theorem retentionSample_leads (first : s.firstSample = some b) (room : s.svy.sampledNow < s.fld F.SVY_SCAN_CFG_SCAN_MAX 0)
    (place : s.sampleOfBand b = some (d, page)) : leads (.retentionSample b) s fun t => (t.bandRec b).samples = (s.bandRec b).samples + 1 ∧
      (t.bandRec b).sampledAt = s.datumTime ∧ t.svy.sampling = s.svy.sampling ++ [(b, d, page)] ∧
      (∀ k, k ≠ b → t.bandRec k = s.bandRec k) ∧ keepsBut [.plt, .svy] s t := by
  obtain ⟨v, hv⟩ : ∃ v, v = s.setBand b { s.bandRec b with samples := (s.bandRec b).samples + 1, sampledAt := s.datumTime } := ⟨_, rfl⟩
  obtain ⟨w, hw⟩ : ∃ w : State, w = { v with svy := { v.svy with sampling := v.svy.sampling ++ [(b, d, page)], sampledNow := v.svy.sampledNow + 1 } } := ⟨_, rfl⟩
  have booked : ∃ t, exec (.retentionSample b) s = .next t ∧ Within [.plt] t w := by
    have run : exec (.retentionSample b) s = execRetentionSample b s := rfl
    unfold execRetentionSample at run
    dsimp only at run
    rw [if_neg (by rw [first]; simp; omega), place] at run
    dsimp only at run
    rw [← hv, ← hw] at run
    split at run
    · exact ⟨_, run, .rfl⟩
    · split at run
      · next u bs hu =>
        exact ⟨_, run, (State.enterDebt_within (by decide)).trans (State.spreadShare_booked State.readSides_plain 64 hu).within⟩
      · exact ⟨_, run, State.oweDie_within (by decide)⟩
  obtain ⟨t, run, kept⟩ := booked
  have band : ∀ k, t.bandRec k = v.bandRec k := fun k => by
    rw [State.bandRec, show t.svy = w.svy from kept.keeps .svy (by decide), hw]
    rfl
  have own : v.bandRec b = { s.bandRec b with samples := (s.bandRec b).samples + 1, sampledAt := s.datumTime } := by rw [hv, State.bandRec_setBand]
  have wv : Within [.svy] v s := by
    rw [hv]
    exact State.setBand_within (by decide)
  have ww : Within [.svy] w v := by
    rw [hw]
    exact .step (by decide) (.svy v _) .rfl
  refine ⟨t, run, by rw [band, own], by rw [band, own], ?_, fun k hk => by rw [band, hv, State.bandRec_setBand_ne hk],
    ((kept.mono (by decide)).trans ((ww.trans wv).mono (by decide))).keeps⟩
  rw [show t.svy = w.svy from kept.keeps .svy (by decide), hw, hv]
  rfl

end

/-- Settles O30: each clause from the lemma of its command above: the debt of a group's dies converted one after the other, a relocation by what its
read and its entry allow, and the figures that are published. -/
theorem upkeepBooksDebtAndPublishes : Obligations.UpkeepBooksDebtAndPublishes := by
  intro s
  refine ⟨fun g hg => ?_, fun pool iu old new => ?_, waEstimate_leads, ?_, fun b d page first room place => retentionSample_leads first room place⟩
  · obtain ⟨meets, short⟩ := debtConversion_leads (s := s) hg
    exact ⟨meets, short⟩
  · refine ⟨fun victim data group layout ready => ⟨fun look next read => ?_, fun look read => ?_, fun look next none fresh => ?_⟩, relocation_ignored⟩
    · exact (relocation_reads ⟨victim, data, group, layout⟩ ready read).1 look next
    · exact (relocation_reads ⟨victim, data, group, layout⟩ ready read).2 look
    · exact relocation_loses ⟨victim, data, group, layout⟩ next none fresh
  · obtain ⟨t, run, published, minFree, marks, band, kept⟩ := minFreePublish_leads (s := s)
    refine ⟨t, run, published, minFree, fun i hi => ?_, band, kept⟩
    have iff : crosses (s.fld F.SVY_FREE_WM_LEVEL i) s.svy.minFree s.minFreeNow (!s.svy.published) ↔
        s.minFreeNow < s.fld F.SVY_FREE_WM_LEVEL i ∧ (s.svy.published = false ∨ s.fld F.SVY_FREE_WM_LEVEL i ≤ s.svy.minFree) := by
      unfold crosses
      rw [Bool.not_eq_true']
    obtain ⟨yes, no⟩ := marks i hi
    exact ⟨fun h => yes (iff.mpr h), fun h => no fun k => h (iff.mp k)⟩

end Sys2Proof.Machine
end

section
/-! T-words and die contexts (O35, O36). -/

namespace Sys2Proof.Machine

section

/-- A running read of one IU of die 0, with no detour and no second member; a codeword of the target has failed to decode already. -/
def failedRead : Cmd :=
  { newCmd ⟨0, 1, 0, 1, 0, 0, false, false, false, 0, 0, false, none, 0, 0⟩ 2 .read 0 0 0 0 [] with
    phase := .running
    ius := [⟨0, 0, 0, 0, 0, true, [(0, 0)], none, none, false, none, [], [(0, 1)]⟩] }

/-- Die 0 runs an array operation that its profile allows no suspension of, while the read waits for it. -/
def unsuspendable (x : Ctx) : State :=
  { State.reset with
    cmds := [failedRead]
    fch := { State.reset.fch with
      die := [(0, { Die.reset with profile := some 0 })]
      profile := [(0, some (profileOfRecord 0 []))] }
    trv := { State.reset.trv with ctx := [(0, { x with st := .running, long := 1 })], ucode := [(0, { Ucode.reset with ram := [(0, 2 ^ 88 + 2 ^ 18)] })] } }

/-- Refutes O35: a CMD word drives the suspend opcode, the suspend is refused and the reads that waited for it are planned again; the read of die 0
has no path left and is lost, and its page stands erased in the record of its band. The statement's frame keeps the bands. -/
theorem not_tWordsRunAndAreChecked : ¬ Obligations.TWordsRunAndAreChecked := by
  unfold Obligations.TWordsRunAndAreChecked
  intro h
  obtain ⟨-, runs⟩ := h (unsuspendable { Ctx.reset with pc := 0xE00 }) 0 (2 ^ 88 + 2 ^ 18) .clean
  have holds : carried (unsuspendable { Ctx.reset with pc := 0xE00 }) 0 (2 ^ 88 + 2 ^ 18) .clean := by
    refine ⟨?_, ?_, ?_, ?_, ?_⟩ <;> decide +kernel
  obtain ⟨-, -, -, -, -, -, cmd, -⟩ := runs holds
  obtain ⟨-, opcodes⟩ := cmd 0 (by decide +kernel) (by decide +kernel)
  obtain ⟨-, -, refused, -⟩ := opcodes _ rfl
  obtain ⟨t, eq, u, ⟨-, -, -, -, -, frame⟩, ht⟩ := refused (.inl rfl) rfl (by decide +kernel)
  rw [if_pos (by decide +kernel)] at ht
  obtain rfl : _ = t := Host.Outcome.next.inj eq
  have same : (_ : Svy) = (unsuspendable { Ctx.reset with pc := 0xE00 }).svy := frame .svy (by decide)
  rw [← ht] at same
  exact absurd (congrArg Svy.band same) (by decide +kernel)

/-- Refutes O36: a SUSPEND is refused and the reads that waited for it are planned again; the read of die 0 has no path left and is lost, and its
page stands erased in the record of its band. The statement's frame keeps the bands. -/
theorem not_dieContextsTakeTheirRequests : ¬ Obligations.DieContextsTakeTheirRequests := by
  unfold Obligations.DieContextsTakeTheirRequests
  intro h
  obtain ⟨-, -, -, -, suspend, -⟩ := h (unsuspendable Ctx.reset) 0 0 (by decide) (by decide)
  obtain ⟨-, -, refused, -⟩ := suspend (by decide) rfl (by decide) rfl
  obtain ⟨t, eq, -, -, frame⟩ := refused rfl (by decide) rfl (by decide +kernel) false
  obtain rfl : _ = t := Host.Outcome.next.inj eq
  have same : (_ : Svy) = (unsuspendable Ctx.reset).svy := frame .svy (by decide)
  exact absurd (congrArg Svy.band same) (by decide +kernel)

end

end Sys2Proof.Machine
end

section
/-! What the housekeeping of the map leaves of its pools and namespaces. -/

namespace Sys2Proof.Machine

section
variable {s t u : State} {L : List Part} {k key a b n p : ℕ}

/-! ### What the housekeeping of the map leaves of its pools and namespaces -/

/-- What the updates of the map and the closing of assembly slots may change: their watermarks write no record (Table 04-8, Table 14-3). -/
def quietParts : List Part := [.atl, .fns, .out, .plt, .pwr, .svy, .til, .reg .ATL_JRNL_WM, .reg .TIL_POOL_WM]

/-- A change of the map that leaves its pools and its namespaces. -/
structure quietMap (s t : State) : Prop where
  within : Within quietParts t s
  ns : t.atl.ns = s.atl.ns
  pools : t.atl.pools = s.atl.pools

theorem quietMap.refl (s : State) : quietMap s s := ⟨.rfl, rfl, rfl⟩
theorem quietMap.trans (h : quietMap s t) (k : quietMap t u) : quietMap s u := ⟨k.within.trans h.within, k.ns.trans h.ns, k.pools.trans h.pools⟩
theorem quietMap.of_within (h : Within L t s) (hl : L ⊆ quietParts) (ha : .atl ∉ L) : quietMap s t :=
  ⟨h.mono hl, by rw [show t.atl = s.atl from h.keeps .atl ha], by rw [show t.atl = s.atl from h.keeps .atl ha]⟩
theorem quietMap.foldl {α : Type} {f : State → α → State} {l : List α} (h : ∀ u x, quietMap u (f u x)) : quietMap s (l.foldl f s) := by
  induction l generalizing s with
  | nil => exact .refl s
  | cons x l ih => exact (h s x).trans ih

theorem quietMap.nsOf (h : quietMap s t) : t.nsOf n = s.nsOf n := by rw [State.nsOf, State.nsOf, h.ns]
theorem quietMap.poolOf (h : quietMap s t) : t.poolOf p = s.poolOf p := by rw [State.poolOf, State.poolOf, h.pools]

/-! The journal -/

theorem State.journalMark_quiet : Within [.fns, .out, .reg .ATL_JRNL_WM] (s.journalMark a b) s := by
  unfold State.journalMark
  extract_lets l
  exact .ite ((State.event_within_of_noRecord (by decide) (by decide)).trans (State.bump_within (by decide))) .rfl

theorem State.journal_within_quiet {kind pool iu arg : ℕ} {items : List (ℕ × Ent × ℕ)} :
    Within [.atl, .fns, .out, .plt, .reg .ATL_JRNL_WM] (s.journal kind pool iu arg items) s := by
  unfold State.journal
  extract_lets q b r n fills src v
  have owed : Within [.plt] (if fills = true then v.oweMap (2 ^ 20) else v) v := .ite (State.oweMap_within (by decide)) .rfl
  exact (State.journalMark_quiet.mono (by decide)).trans ((owed.mono (by decide)).trans (.step (by decide) (.atl s _) .rfl))

theorem State.journal_quiet {kind pool iu arg : ℕ} {items : List (ℕ × Ent × ℕ)} : quietMap s (s.journal kind pool iu arg items) := by
  obtain ⟨bytes, full, atl⟩ := State.journal_atl (s := s) (kind := kind) (pool := pool) (iu := iu) (arg := arg) (items := items)
  exact ⟨State.journal_within_quiet.mono (by decide), by rw [atl], by rw [atl]⟩

/-! Entries and segments -/

theorem State.setStage_quiet {x : Option Stage} : quietMap s (s.setStage a x) := ⟨State.setStage_within (by decide), rfl, rfl⟩

theorem State.freeSlot_quiet : quietMap s (s.freeSlot a) := by
  unfold State.freeSlot
  split
  · split
    · exact State.setStage_quiet.trans ⟨.step (by decide) (.pwr (s.setStage a none) _) .rfl, rfl, rfl⟩
    · exact .refl s
  · exact .refl s

theorem State.leaveOld_quiet {x : Ent} : quietMap s (s.leaveOld key x) := by
  have w : Within quietParts (s.leaveOld key x) s := State.leaveOld_within (by decide)
  unfold State.leaveOld at w ⊢
  split at w
  · unfold State.validDown State.drainIf at w ⊢
    dsimp only at w ⊢
    split at w
    · next h => rw [if_pos h]; exact ⟨w, rfl, rfl⟩
    · next h => rw [if_neg h]; exact ⟨w, rfl, rfl⟩
  · unfold State.supersede
    split
    · exact State.setStage_quiet.trans State.freeSlot_quiet
    · exact .refl s
  · exact .refl s
  · exact .refl s

theorem State.setEnt_quiet {x : Ent} : quietMap s (s.setEnt key x) := ⟨State.setEnt_within (by decide), rfl, rfl⟩

theorem State.markDirty_quiet : quietMap s (s.markDirty k) := by
  refine ⟨State.markDirty_within (by decide), ?_, ?_⟩ <;>
  · unfold State.markDirty
    split <;> rfl

theorem State.sweepSeg_quiet : quietMap s (s.sweepSeg k) := by
  have emptied : quietMap s ((s.atl.ent.filter fun e => decide (segOfIu e.1 = k)).foldl (fun s e => (s.leaveOld e.1 e.2).setEnt e.1 Ent.reset) s) :=
    .foldl fun u e => State.leaveOld_quiet.trans State.setEnt_quiet
  exact ⟨State.sweepSeg_within (by decide), emptied.ns, emptied.pools⟩

theorem State.putEnt_quiet {x : Ent} : quietMap s (s.putEnt key x) := by
  unfold State.putEnt
  extract_lets k v w
  have swept : quietMap s v := by
    unfold v
    split
    · exact State.sweepSeg_quiet
    · exact .refl s
  exact swept.trans (State.leaveOld_quiet.trans (State.setEnt_quiet.trans State.markDirty_quiet))

theorem State.putAll_quiet {ty : ℕ} {l : List (ℕ × Ent × ℕ)} : quietMap s (s.putAll ty l) := by
  unfold State.putAll
  extract_lets v
  have put : quietMap s v := .foldl fun u e => State.putEnt_quiet
  split
  · exact put
  · split
    · exact put.trans State.journal_quiet
    · exact put.trans State.journal_quiet

theorem State.queueUpd_quiet {q : QUpd} : quietMap s (s.queueUpd q) := ⟨State.queueUpd_within (by decide), rfl, rfl⟩

theorem State.swapAll_quiet {ty : ℕ} {l : List (ℕ × Ent × ℕ)} : quietMap s (s.swapAll ty l) := by
  unfold State.swapAll
  extract_lets q
  split
  · exact .refl s
  · split
    · next u e =>
      have w := (State.readySegs_sameMap e).within
      obtain ⟨x, y, z, rfl⟩ := State.readySegs_sameMap e
      exact (⟨w.mono (by decide), rfl, rfl⟩ : quietMap s _).trans State.putAll_quiet
    · exact State.queueUpd_quiet

theorem State.discardSeg_quiet : quietMap s (s.discardSeg k) := by
  have set : quietMap s (s.setSeg k { s.segOf k with discarded := true }) := ⟨State.setSeg_within (by decide), rfl, rfl⟩
  unfold State.discardSeg
  split
  · exact State.queueUpd_quiet
  · exact set.trans (State.markDirty_quiet.trans State.journal_quiet)

/-! Assembly slots -/

theorem State.setTPool_quiet {x : TPool} : Within [.fns, .out, .til, .reg .TIL_POOL_WM] (s.setTPool p x) s := by
  unfold State.setTPool
  extract_lets was l src v
  have put : Within [.fns, .out, .til, .reg .TIL_POOL_WM] v s := .step (by decide) (.til s _) .rfl
  exact .ite ((State.event_within_of_noRecord (by decide) (by decide)).trans ((State.bump_within (by decide)).trans put)) put

theorem State.releaseExtra_quiet {x : Booking} : Within [.fns, .out, .pwr, .til, .reg .TIL_POOL_WM] (s.releaseExtra x) s := by
  unfold State.releaseExtra
  refine .ite (.step (by decide) (.pwr s _) .rfl) (.ite ?_ .rfl)
  split
  · exact State.setTPool_quiet.mono (by decide)
  · exact .rfl

theorem State.unbook_quiet {l : List Booking} : Within [.fns, .out, .plt, .pwr, .til, .reg .TIL_POOL_WM] (s.unbook l) s := by
  unfold State.unbook
  extract_lets v mark
  have released : Within [.fns, .out, .plt, .pwr, .til, .reg .TIL_POOL_WM] v s := Within.foldl fun u x => State.releaseExtra_quiet.mono (by decide)
  exact .step (by decide) (.plt v _) released

theorem State.dropRmw_quiet {l : List Booking} : Within [.fns, .out, .plt, .pwr, .til, .reg .TIL_POOL_WM] (s.dropRmw key l) s := by
  unfold State.dropRmw
  extract_lets keep
  exact State.unbook_quiet.trans (.step (by decide) (.plt s _) .rfl)

theorem State.closeAsm_quiet {x : Assembly} {used : Bool} : quietMap s (s.closeAsm x used) := by
  have core := State.closeAsm_core (s := s) (a := x) (used := used)
  refine ⟨?_, (congrArg Atlas.ns core : (s.closeAsm x used).atl.coreView.ns = s.atl.coreView.ns),
    (congrArg Atlas.pools core : (s.closeAsm x used).atl.coreView.pools = s.atl.coreView.pools)⟩
  unfold State.closeAsm
  extract_lets v1 v2 v3 v4
  have h1 : Within quietParts v1 s := .ite (State.unholdSlot_within (by decide)) .rfl
  have h2 : Within quietParts v2 v1 := by
    unfold v2
    split
    · exact State.unpinBand_within (by decide)
    · exact .rfl
  have h3 : Within quietParts v3 v2 := .ite (State.unbook_quiet.mono (by decide)) (State.dropRmw_quiet.mono (by decide))
  have h4 : Within quietParts v4 v3 := State.dropAsm_within (by decide)
  exact .step (by decide) (.atl v4 _) (h4.trans (h3.trans (h2.trans h1)))

theorem State.closeSlots_quiet {f : ℕ → Bool} : quietMap s (s.closeSlots f) := .foldl fun _ _ => State.closeAsm_quiet

/-! Whole ranges -/

theorem State.discardRanges_quiet {segs ius : List ℕ} : quietMap s (s.discardRanges segs ius) := by
  unfold State.discardRanges
  extract_lets hit v w src x
  have closed : quietMap s v := State.closeSlots_quiet
  have marked : quietMap v w := .foldl fun _ _ => State.discardSeg_quiet
  have cleared : quietMap w x := ⟨.step (by decide) (.atl w _) .rfl, rfl, rfl⟩
  have swapped : quietMap x (x.discardIus ius) := .foldl fun _ _ => State.swapAll_quiet
  exact closed.trans (marked.trans (cleared.trans swapped))

theorem State.newSlot_quiet {fn bytes by_ : ℕ} : quietMap s (s.newSlot fn key bytes by_).2 := ⟨State.newSlot_within (by decide), rfl, rfl⟩

theorem State.setPoison_quiet : quietMap s (s.setPoison key n) := ⟨State.setPoison_within (by decide), rfl, rfl⟩

theorem State.holdSlot_quiet : quietMap s (s.holdSlot a) := by
  refine ⟨State.holdSlot_within (by decide), ?_, ?_⟩ <;>
  · unfold State.holdSlot
    split <;> rfl

theorem State.stageIu_quiet {x : Ns} {c : Cmd} {mask j : ℕ} : quietMap s (s.stageIu x c key mask j).1 := by
  unfold State.stageIu
  extract_lets full bytes marks present v1 r1 v2 src prev v3 r2 band asm v4 v5
  split
  · have closed : quietMap s v1 := by
      unfold v1
      split
      · exact State.closeAsm_quiet
      · exact .refl s
    exact closed.trans (State.newSlot_quiet.trans State.setPoison_quiet)
  · split
    · next y hy =>
      have dropped : quietMap s ((s.setPoison key marks).dropAsm key) := State.setPoison_quiet.trans ⟨State.dropAsm_within (by decide), rfl, rfl⟩
      have rmw : quietMap ((s.setPoison key marks).dropAsm key) v2 := .of_within State.dropRmw_quiet (by decide) (by decide)
      extract_lets joined
      split
      · exact dropped.trans (rmw.trans State.closeAsm_quiet)
      · exact dropped.trans (rmw.trans ⟨.step (by decide) (.atl v2 _) .rfl, rfl, rfl⟩)
    · have held : quietMap s v3 := by
        unfold v3
        split
        · exact State.holdSlot_quiet
        · exact .refl s
      have pinned : quietMap r2.2 v4 := by
        unfold v4
        clear_value band
        split
        · exact ⟨State.pinBand_within (by decide), rfl, rfl⟩
        · exact .refl _
      exact held.trans (State.newSlot_quiet.trans (pinned.trans (State.setPoison_quiet.trans ⟨.step (by decide) (.atl v5 _) .rfl, rfl, rfl⟩)))

theorem State.discardFrom_quiet {x : Ns} {id lo : ℕ} : quietMap s (s.discardFrom x id lo) := by
  unfold State.discardFrom
  exact State.discardRanges_quiet.trans (.foldl fun _ _ => State.stageIu_quiet.trans State.swapAll_quiet)

theorem State.discardNs_quiet {x : Ns} : quietMap s (s.discardNs x) := State.discardRanges_quiet

theorem State.journalPool_quiet : quietMap s (s.journalPool p) := State.journal_quiet

end

end Sys2Proof.Machine
end

section
/-! Pools and namespaces (O39). -/

namespace Sys2Proof.Machine

section
variable {s t u : State} {L : List Part} {k p n id slot : ℕ} {x : Pool} {y : Ns} {q : MbxReq}

/-! ### Pools and their segments -/

theorem State.journalPool_segOf : (s.journalPool p).segOf k = s.segOf k := by
  unfold State.journalPool
  extract_lets arg
  obtain ⟨_, _, atl⟩ := State.journal_atl (s := s) (kind := 6) (pool := p) (iu := 0) (arg := arg) (items := [])
  rw [State.segOf, State.segOf, atl]

/-- A pool's geometry and its journal record (R109). -/
def State.putPool (s : State) (p : ℕ) (x : Option Pool) : State := (s.setPool p x).journalPool p

theorem State.journalPool_within_quiet : Within [.atl, .fns, .out, .plt, .reg .ATL_JRNL_WM] (s.journalPool p) s := State.journal_within_quiet

theorem State.putPool_spec {x : Option Pool} : Within [.atl, .fns, .out, .plt, .reg .ATL_JRNL_WM] (s.putPool p x) s ∧ (s.putPool p x).poolOf p = x ∧
    ∀ k, k ≠ p → (s.putPool p x).poolOf k = s.poolOf k := by
  have kept : ∀ k, (s.putPool p x).poolOf k = (s.setPool p x).poolOf k := fun k => State.journalPool_quiet.poolOf
  exact ⟨State.journalPool_within_quiet.trans (State.setPool_within (by decide)), (kept p).trans State.poolOf_setPool,
    fun k hk => (kept k).trans (State.poolOf_setPool_ne hk)⟩

/-- A sweep sets its own segment's descriptor and no other (R139). -/
theorem State.sweepSeg_segOf {j : ℕ} (h : j ≠ k) : (s.sweepSeg k).segOf j = s.segOf j := by
  unfold State.sweepSeg
  extract_lets mine u src v
  obtain ⟨-, seg, -⟩ := State.unmapAll_spec mine s
  have emptied : u.segOf j = s.segOf j := congrArg (fun m => tabGet _ m j) seg
  exact (State.segOf_setSeg_ne h).trans emptied

theorem State.sweepSegs_segOf {j : ℕ} (l : List (ℕ × Seg)) : ∀ s : State, (∀ e ∈ l, e.1 ≠ j) →
    (l.foldl (fun (u : State) e => u.sweepSeg e.1) s).segOf j = s.segOf j := by
  induction l with
  | nil => exact fun _ _ => rfl
  | cons e l ih =>
    intro s h
    rw [List.foldl_cons, ih _ fun e he => h e (List.mem_cons_of_mem _ he)]
    exact State.sweepSeg_segOf (Ne.symm (h e List.mem_cons_self))

/-- A segment that a pool gives up is of the pool and at its bound or past it. -/
def givenUp (p n k : ℕ) : Prop := k / 2 ^ 32 = p ∧ n ≤ k % 2 ^ 32

theorem State.dropSegs_spec : Within [.atl, .plt, .pwr, .svy] (s.dropSegs p n) s ∧ (∀ k, (s.dropSegs p n).poolOf k = s.poolOf k) ∧
    ∀ k, (givenUp p n k → (s.dropSegs p n).segOf k = Seg.reset) ∧ (¬ givenUp p n k → (s.dropSegs p n).segOf k = s.segOf k) := by
  refine ⟨State.dropSegs_within (by decide), ?_⟩
  unfold State.dropSegs
  extract_lets gone u
  have swept : quietMap s u := .foldl fun _ _ => State.sweepSeg_quiet
  refine ⟨fun k => swept.poolOf, fun k => ⟨fun h => ?_, fun h => ?_⟩⟩
  · have goes : gone k = true := decide_eq_true h
    exact (tabGet_filterKey (p := fun k => !gone k)).trans (if_neg (by rw [goes]; decide))
  · have stays : gone k = false := decide_eq_false h
    refine ((tabGet_filterKey (p := fun k => !gone k)).trans (if_pos (by rw [stays]; rfl))).trans ?_
    refine State.sweepSegs_segOf _ s fun e he ek => ?_
    have out := (List.mem_filter.mp he).2
    rw [ek, stays] at out
    exact absurd out (by simp)

/-- A pool with another geometry, the segments past its bound given up, and its journal record. -/
def State.cutPool (s : State) (p : ℕ) (x : Option Pool) (n : ℕ) : State := ((s.setPool p x).dropSegs p n).journalPool p

theorem State.cutPool_spec {x : Option Pool} : Within [.atl, .fns, .out, .plt, .pwr, .svy, .reg .ATL_JRNL_WM] (s.cutPool p x n) s ∧
    ((s.cutPool p x n).poolOf p = x ∧ ∀ k, k ≠ p → (s.cutPool p x n).poolOf k = s.poolOf k) ∧
    ∀ k, (s.cutPool p x n).segOf k = if k / 2 ^ 32 = p ∧ n ≤ k % 2 ^ 32 then Seg.reset else s.segOf k := by
  obtain ⟨w, pools, segs⟩ := State.dropSegs_spec (s := s.setPool p x) (p := p) (n := n)
  have kept : ∀ k, (s.cutPool p x n).poolOf k = (s.setPool p x).poolOf k := fun k => State.journalPool_quiet.poolOf.trans (pools k)
  have seg : ∀ k, (s.cutPool p x n).segOf k = ((s.setPool p x).dropSegs p n).segOf k := fun k => State.journalPool_segOf
  refine ⟨(State.journalPool_within_quiet.mono (by decide)).trans ((w.mono (by decide)).trans (State.setPool_within (by decide))),
    ⟨(kept p).trans State.poolOf_setPool, fun k hk => (kept k).trans (State.poolOf_setPool_ne hk)⟩, fun k => (seg k).trans ?_⟩
  split
  · next h => exact (segs k).1 h
  · next h => exact (segs k).2 h

/-! ### Namespaces -/

theorem mem_insertUp {a : ℕ} {l : List ℕ} {f : ℕ} : f ∈ insertUp a l ↔ f = a ∨ f ∈ l := by
  induction l with
  | nil => exact List.mem_singleton.trans (by simp)
  | cons b l ih =>
    unfold insertUp
    split
    · exact List.mem_cons
    · split
      · next e => subst e; simp
      · rw [List.mem_cons, ih, List.mem_cons]
        tauto

theorem State.nsNotice_nsOf {l : List ℕ} : (s.nsNotice id l).nsOf k = s.nsOf k := by
  have w : Within adminParts (s.nsNotice id l) s := State.nsNotice_within fun _ h => h
  rw [State.nsOf, State.nsOf, show (s.nsNotice id l).atl = s.atl from w.keeps .atl (by decide)]

/-- A new namespace, and the count of those ever made. -/
def State.addNs (s : State) (k : ℕ) (y : Ns) : State :=
  { s.setNs k (some y) with atl := { (s.setNs k (some y)).atl with nsCount := s.atl.nsCount + 1 } }

/-- The key slot of a namespace bound to it (R470). -/
def State.bindKey (s : State) (k : ℕ) (y : Ns) : State := if y.cipher ≠ 0 then s.bindKeySlot y.slot k else s

theorem State.bindKey_spec : Within [.cip] (s.bindKey k y) s ∧ (y.cipher ≠ 0 → (s.bindKey k y).kslot y.slot = { s.kslot y.slot with nsid := k }) ∧
    ∀ j, y.cipher = 0 ∨ j ≠ y.slot → (s.bindKey k y).kslot j = s.kslot j := by
  unfold State.bindKey
  split
  · next h => exact ⟨State.bindKeySlot_within (by decide), fun _ => State.kslot_setKslot, fun j hj => State.kslot_setKslot_ne (hj.resolve_left h)⟩
  · next h => exact ⟨.rfl, fun k => absurd k h, fun _ _ => rfl⟩

theorem Within.nsOf (h : Within L t s) (ha : .atl ∉ L) : t.nsOf k = s.nsOf k :=
  congrArg (fun a : Atlas => tabGet (fun _ => none) a.ns k) (h.keeps .atl ha)

/-- What the end of a long operation changes; no mailbox among it. -/
theorem State.opDone_within_resp {h : Option ℕ} {r : ℕ} {l : List ℕ} :
    Within [.fns, .mgmt, .ops, .out, .reg .CHR_ALERT_STATUS, .reg .MBX_EVENTS] (s.opDone h r l) s := by
  have event : ∀ (u : State) i, Within [.fns, .mgmt, .ops, .out, .reg .CHR_ALERT_STATUS, .reg .MBX_EVENTS] (u.mbEvent i F.MBX_EVENTS_OP_DONE) u := fun u i => by
    unfold State.mbEvent
    exact .ite (State.mbxEvent_within rfl (by decide)) (.ite (State.alert_within (by decide) (by decide) (by decide)) .rfl)
  unfold State.opDone
  split
  · exact .rfl
  · split
    · exact .rfl
    · exact (event _ _).trans (.step (by decide) (.ops s _) .rfl)

/-- A request that changes one namespace and notifies a function of it (R421). -/
theorem leads_noticed {i : Instr} {f : ReqForm} {op g : ℕ} {x : Option Ns} {body : State → State} (hq : carriedOut s q f)
    (he : exec i s = .next (s.serve q f body)) (hb : body s = ((s.setNs id x).nsNotice id [g]).respond q op Ms.success false [])
    (set : Within [.atl] (s.setNs id x) s) : leads i s fun t => answers s t q op Ms.success false [] ∧ (∀ k, t.nsOf k = (s.setNs id x).nsOf k) ∧
      keepsBut (([.atl, .cpls, .ctls] : List Part) ++ mbxParts) s t := by
  have told : Within adminParts ((s.setNs id x).nsNotice id [g]) (s.setNs id x) := State.nsNotice_within fun _ h => h
  exact leads_respond hq he hb ((told.mono (by decide)).trans (set.mono (by decide) : Within (adminParts ++ [.atl]) _ s)) (by decide) fun t ht =>
    ⟨fun k => (ht.nsOf (by decide)).trans State.nsNotice_nsOf,
      Within.keeps (.trans (ht.mono (by decide)) ((told.mono (by decide)).trans (set.mono (by decide))))⟩

/-- The key slot of a namespace that is deleted: unbound, without its keys (R420). -/
def KSlot.unbound (k : KSlot) : KSlot := { k with nsid := 0, cur := none, shadow := none, fenced := false, cursor := 0, waits := [], handle := none }

/-- The key of a namespace that is deleted goes, with the sweep that uses it. -/
def State.dropKey (s : State) (y : Ns) : State :=
  if y.cipher ≠ 0 then (s.setKslot y.slot (s.kslot y.slot).unbound).opDone (s.kslot y.slot).handle Ms.mode (bytesLe 4 0) else s

theorem State.dropKey_spec : Within [.cip, .fns, .mgmt, .ops, .out, .reg .CHR_ALERT_STATUS, .reg .MBX_EVENTS] (s.dropKey y) s ∧
    (y.cipher ≠ 0 → (s.dropKey y).kslot y.slot = (s.kslot y.slot).unbound) ∧
    ∀ j, y.cipher = 0 ∨ j ≠ y.slot → (s.dropKey y).kslot j = s.kslot j := by
  unfold State.dropKey
  split
  · next h =>
    have done := State.opDone_within_resp (s := s.setKslot y.slot (s.kslot y.slot).unbound) (h := (s.kslot y.slot).handle) (r := Ms.mode) (l := bytesLe 4 0)
    exact ⟨(done.mono (by decide)).trans (State.setKslot_within (by decide)), fun _ => (done.kslot (by decide) _).trans State.kslot_setKslot,
      fun j hj => (done.kslot (by decide) j).trans (State.kslot_setKslot_ne (hj.resolve_left h))⟩
  · next h => exact ⟨.rfl, fun k => absurd k h, fun _ _ => rfl⟩

end

/-- Settles O39: each request by the refusal it meets, or by what its change leaves: the pools and segments, the namespaces, the key slots. -/
theorem poolsAndNamespacesAreMadeChangedAndListed : Obligations.PoolsAndNamespacesAreMadeChangedAndListed := by
  unfold Obligations.PoolsAndNamespacesAreMadeChangedAndListed
  intro s q p segs id others
  refine ⟨fun hq hp hi hm h4 hs => ⟨fun none fits => ?_, fun some => ?_, fun none full => ?_⟩, fun hq hp h1 hs x hx => ⟨fun room fits => ?_, fun inUse => ?_⟩,
    fun hq hp some => ⟨fun empty => ?_, fun inUse => ?_⟩, fun hq => ?_, fun hq h4 hs n hn => ⟨fun room => ?_, fun grows full => ?_⟩,
    fun hq n hn => ⟨fun free => ?_, fun inUse => ?_⟩, fun hq n hn => ?_, fun hq n hn => ⟨fun mem => ?_, fun out => ?_⟩, fun hq => ?_,
    fun hq => ⟨fun n hn => ?_, fun none => ?_⟩⟩
  · obtain ⟨w, own, rest⟩ := State.putPool_spec (s := s) (p := p) (x := some ⟨decide (q.payload.getD 1 0 = 1),
      if le q.payload 2 2 = 0 then 4095 else le q.payload 2 2, segs⟩)
    obtain ⟨t, eq, ans, pools, keep⟩ := leads_respond (i := .poolCreate q) (P := fun t => (∀ k, t.poolOf k = _) ∧
      keepsBut (.atl :: .plt :: .reg .ATL_JRNL_WM :: mbxParts) s t) hq rfl (by
        dsimp only
        rw [if_neg (by omega), none, if_neg (by decide), fits, if_neg (by decide)]
        rfl) w (by decide) fun t ht =>
      ⟨fun k => congrArg (fun a : Atlas => tabGet _ a.pools k) (ht.keeps .atl (by decide)), Within.keeps (.trans (ht.mono (by decide)) (w.mono (by decide)))⟩
    exact ⟨t, eq, (pools p).trans own, fun k hk => (pools k).trans (rest k hk), ans, keep⟩
  · refine leads_answer hq rfl ?_
    dsimp only
    rw [if_neg (by omega), if_pos (Option.isSome_iff_ne_none.mpr some)]
    rfl
  · refine leads_answer hq rfl ?_
    dsimp only
    rw [if_neg (by omega), none, if_neg (by decide), full, if_pos (by decide)]
    rfl
  · obtain ⟨w, ⟨own, rest⟩, cut⟩ := State.cutPool_spec (s := s) (p := p) (x := some { x with segs := segs }) (n := segs)
    obtain ⟨t, eq, ans, pools, seg, keep⟩ := leads_respond (i := .poolResize q) (P := fun t => (∀ k, t.poolOf k = _) ∧ (∀ k, t.segOf k = _) ∧
      keepsBut (([.atl, .plt, .pwr, .svy, .reg .ATL_JRNL_WM] : List Part) ++ mbxParts) s t) hq rfl (by
        dsimp only
        rw [if_neg (by omega), hx]
        dsimp only
        rw [if_neg (fun h => by obtain ⟨n, hn, h⟩ := List.any_eq_true.mp h; exact absurd (of_decide_eq_true h) (not_lt.mpr (room n hn))), if_neg (fun ⟨h, k⟩ => by rw [fits.resolve_left (by omega)] at k; exact absurd k (by decide))]
        rfl) w (by decide) fun t ht =>
      ⟨fun k => congrArg (fun a : Atlas => tabGet _ a.pools k) (ht.keeps .atl (by decide)), fun k => congrArg (fun a : Atlas => tabGet _ a.seg k) (ht.keeps .atl (by decide)),
        Within.keeps (.trans (ht.mono (by decide)) (w.mono (by decide)))⟩
    exact ⟨t, eq, (pools p).trans own, fun k hk => (pools k).trans (rest k hk), fun k => (seg k).trans (cut k), ans, keep⟩
  · refine leads_answer hq rfl ?_
    dsimp only
    rw [if_neg (by omega), hx]
    dsimp only
    obtain ⟨n, hn, lt⟩ := inUse
    rw [if_pos (List.any_eq_true.mpr ⟨n, hn, decide_eq_true lt⟩)]
    rfl
  · obtain ⟨w, ⟨own, rest⟩, cut⟩ := State.cutPool_spec (s := s) (p := p) (x := none) (n := 0)
    obtain ⟨t, eq, ans, pools, seg, keep⟩ := leads_respond (i := .poolDelete q) (P := fun t => (∀ k, t.poolOf k = _) ∧ (∀ k, t.segOf k = _) ∧
      keepsBut (([.atl, .plt, .pwr, .svy, .reg .ATL_JRNL_WM] : List Part) ++ mbxParts) s t) hq rfl (by
        dsimp only
        rw [if_neg (by omega), if_neg (fun h => some (Option.isNone_iff_eq_none.mp h)), show s.nsIn (q.payload.getD 0 0) = [] from empty, if_neg (by decide)]
        rfl) w (by decide) fun t ht =>
      ⟨fun k => congrArg (fun a : Atlas => tabGet _ a.pools k) (ht.keeps .atl (by decide)), fun k => congrArg (fun a : Atlas => tabGet _ a.seg k) (ht.keeps .atl (by decide)),
        Within.keeps (.trans (ht.mono (by decide)) (w.mono (by decide)))⟩
    exact ⟨t, eq, (pools p).trans own, fun k hk => (pools k).trans (rest k hk), fun k => (seg k).trans ((cut k).trans (if_congr (by omega) rfl rfl)), ans, keep⟩
  · refine leads_answer hq rfl ?_
    dsimp only
    rw [if_neg (by omega), if_neg (fun h => some (Option.isNone_iff_eq_none.mp h)), if_pos (show (!(s.nsIn p).isEmpty) = true by rw [List.isEmpty_eq_false_iff.mpr inUse]; rfl)]
    rfl
  · intro lbaf pi ci slot free hp hl hpi hci hslot h6 h8 x hx size wide guard key
    have valid : ¬ (32 ≤ p ∨ 4 ≤ lbaf ∨ pi = 2 ∨ 4 ≤ pi ∨ 3 ≤ ci ∨ 1024 ≤ slot ∨ le q.payload 6 2 ≠ 0 ∨ le q.payload 8 8 = 0) := by omega
    have format : ¬ (x.iuBytes < lbaBytes lbaf ∨ (ci = 2 ∧ lbaf < 2) ∨ (pi ≠ 0 ∧ lbaf % 2 = 0)) := by
      rintro (h | h | h)
      · exact absurd h (not_lt.mpr size)
      · exact absurd (wide h.1) (not_le.mpr h.2)
      · exact absurd (guard h.1) (by omega)
    have order : ¬ (ci ≠ 0 ∧ s.isKN = true) := fun h => by rw [(key h.1).1] at h; exact absurd h.2 (by decide)
    have ready : ¬ (ci ≠ 0 ∧ (!s.slotReady slot ci) = true) := fun h => by rw [(key h.1).2.1] at h; exact absurd h.2 (by decide)
    have unbound : ¬ (ci ≠ 0 ∧ (tabGet (fun _ => KSlot.reset) s.cip.slot slot).nsid ≠ 0) := fun h => h.2 (key h.1).2.2
    refine ⟨fun k b hk hb => ?_, fun hk => ?_⟩
    · obtain ⟨y, hy⟩ : ∃ y : Ns, y = ⟨p, lbaf, pi, ci, slot, le q.payload 8 8, b, [], s.atl.nsCount + 1, none⟩ := ⟨_, rfl⟩
      have made : Within [.atl] (s.addNs k y) s := .step (by decide) (.atl (s.setNs k (some y)) _) (State.setNs_within (by decide))
      obtain ⟨bound, own, rest⟩ := State.bindKey_spec (s := s.addNs k y) (k := k) (y := y)
      obtain ⟨t, eq, ans, atl, slots, keep⟩ := leads_respond (i := .nsCreate q) (P := fun t => t.atl = _ ∧ (∀ j, t.kslot j = _) ∧
        keepsBut (.atl :: .cip :: mbxParts) s t) hq rfl (u := (s.addNs k y).bindKey k y) (by
          dsimp only
          rw [if_neg valid, show s.poolOf (q.payload.getD 0 0) = some x from hx]
          dsimp only
          rw [if_neg format, if_neg order, if_neg ready, if_neg unbound, hk]
          dsimp only
          rw [hb, hy]
          rfl) ((bound.mono (by decide)).trans (made.mono (by decide) : Within [.atl, .cip] _ s)) (by decide) fun t ht =>
        ⟨(ht.keeps .atl (by decide)).trans (bound.keeps .atl (by decide)), ht.kslot (by decide),
          Within.keeps (.trans (ht.mono (by decide)) ((bound.mono (by decide)).trans (made.mono (by decide))))⟩
      have nsOf : ∀ n, t.nsOf n = (s.setNs k (some y)).nsOf n := fun n =>
        (congrArg (fun a : Atlas => tabGet (fun _ => none) a.ns n) atl : t.nsOf n = (s.addNs k y).nsOf n)
      have same : ∀ j, (s.addNs k y).kslot j = s.kslot j := made.kslot (by decide)
      have cipher : y.cipher = ci := congrArg Ns.cipher hy
      have place : y.slot = slot := congrArg Ns.slot hy
      rw [cipher, place] at own rest
      exact ⟨t, eq, (nsOf k).trans (State.nsOf_setNs.trans (congrArg some hy)), fun n hn => (nsOf n).trans (State.nsOf_setNs_ne hn), congrArg Atlas.nsCount atl,
        fun h => (slots slot).trans ((own h).trans (by rw [same])), fun j hj => (slots j).trans ((rest j hj).trans (same j)), ans, keep⟩
    · refine leads_answer hq rfl ?_
      dsimp only
      rw [if_neg valid, show s.poolOf (q.payload.getD 0 0) = some x from hx]
      dsimp only
      rw [if_neg format, if_neg order, if_neg ready, if_neg unbound, hk]
      rfl
  · have cut : quietMap s (if segs < n.nlba then s.discardFrom n id segs else s) := by
      split
      · exact State.discardFrom_quiet
      · exact .refl s
    obtain ⟨v, hv⟩ : ∃ v, v = if segs < n.nlba then s.discardFrom n id segs else s := ⟨_, rfl⟩
    rw [← hv] at cut
    have set : Within [.atl] (v.setNs id (some { n with nlba := segs })) v := State.setNs_within (by decide)
    have told : Within adminParts ((v.setNs id (some { n with nlba := segs })).nsNotice id n.attached) (v.setNs id (some { n with nlba := segs })) :=
      State.nsNotice_within fun _ h => h
    have fits : ¬ (n.nlba < segs ∧ (((s.poolOf n.pool).map fun x => x.segs * 819).getD 0 < n.base + s.iuCount { n with nlba := segs } ∨
        ((s.nsIn n.pool).any fun m => decide (n.base < m.base ∧ m.base < n.base + s.iuCount { n with nlba := segs })) = true)) := by
      rintro ⟨grows, h⟩
      obtain ⟨⟨x, hx, fit⟩, clear⟩ := room grows
      rcases h with h | h
      · rw [hx] at h
        exact absurd h (not_lt.mpr fit)
      · obtain ⟨m, hm, h⟩ := List.any_eq_true.mp h
        obtain ⟨above, below⟩ := of_decide_eq_true h
        exact (clear m hm).elim (fun h => absurd above (not_lt.mpr h)) (fun h => absurd below (not_lt.mpr h))
    obtain ⟨t, eq, ans, nsOf, keep⟩ := leads_respond (i := .nsResize q) (P := fun t => (∀ k, t.nsOf k = _) ∧
      keepsBut (([.atl, .cpls, .ctls, .plt, .pwr, .svy, .til, .reg .ATL_JRNL_WM, .reg .TIL_POOL_WM] : List Part) ++ mbxParts) s t) hq rfl
      (u := (v.setNs id (some { n with nlba := segs })).nsNotice id n.attached) (by
        dsimp only
        rw [if_neg (fun h => h.elim (absurd h4) hs), show s.nsOf (le q.payload 0 4) = some n from hn]
        dsimp only
        rw [if_neg fits, hv]) ((told.mono (by decide)).trans ((set.mono (by decide)).trans (cut.within.mono (by decide) : Within (adminParts ++ quietParts) v s))) (by decide) fun t ht =>
      ⟨fun k => (ht.nsOf (by decide)).trans State.nsNotice_nsOf,
        Within.keeps (.trans (ht.mono (by decide)) ((told.mono (by decide)).trans ((set.mono (by decide)).trans (cut.within.mono (by decide)))))⟩
    exact ⟨t, eq, (nsOf id).trans State.nsOf_setNs, fun k hk => (nsOf k).trans ((State.nsOf_setNs_ne hk).trans cut.nsOf), ans, keep⟩
  · have clash : n.nlba < segs ∧ (((s.poolOf n.pool).map fun x => x.segs * 819).getD 0 < n.base + s.iuCount { n with nlba := segs } ∨
        ((s.nsIn n.pool).any fun m => decide (n.base < m.base ∧ m.base < n.base + s.iuCount { n with nlba := segs })) = true) := by
      refine ⟨grows, full.imp (fun ⟨small, big⟩ => ?_) fun ⟨m, hm, h⟩ => List.any_eq_true.mpr ⟨m, hm, decide_eq_true h⟩⟩
      cases hx : s.poolOf n.pool with
      | none => exact Nat.pos_of_ne_zero big
      | some x => exact small x hx
    refine leads_answer hq rfl ?_
    dsimp only
    rw [if_neg (fun h => h.elim (absurd h4) hs), show s.nsOf (le q.payload 0 4) = some n from hn]
    dsimp only
    rw [if_pos clash]
    rfl
  · obtain ⟨bound, own, rest⟩ := State.dropKey_spec (s := s.discardNs n) (y := n)
    have gone : quietMap s (s.discardNs n) := State.discardNs_quiet
    have erased : Within [.atl] (((s.discardNs n).dropKey n).setNs id none) ((s.discardNs n).dropKey n) := State.setNs_within (by decide)
    obtain ⟨t, eq, ans, nsOf, slots, keep⟩ := leads_respond (i := .nsDelete q) (P := fun t => (∀ k, t.nsOf k = _) ∧ (∀ j, t.kslot j = _) ∧
      keepsBut (([.atl, .cip, .plt, .pwr, .svy, .til, .reg .ATL_JRNL_WM, .reg .TIL_POOL_WM] : List Part) ++ mbxParts) s t) hq rfl
      (u := ((s.discardNs n).dropKey n).setNs id none) (by
        dsimp only
        rw [show s.nsOf (le q.payload 0 4) = some n from hn]
        dsimp only
        rw [free, if_neg (by decide)]
        rfl) ((erased.mono (by decide)).trans ((bound.mono (by decide)).trans
          (gone.within.mono (by decide) : Within ([.cip, .mgmt, .ops, .reg .CHR_ALERT_STATUS, .reg .MBX_EVENTS] ++ quietParts) _ s))) (by decide) fun t ht =>
      ⟨fun k => ht.nsOf (by decide), fun j => (ht.kslot (by decide) j).trans (erased.kslot (by decide) j),
        Within.keeps (.trans (ht.mono (by decide)) ((erased.mono (by decide)).trans ((bound.mono (by decide)).trans (gone.within.mono (by decide)))))⟩
    have same : ∀ j, (s.discardNs n).kslot j = s.kslot j := gone.within.kslot (by decide)
    refine ⟨t, eq, (nsOf id).trans State.nsOf_setNs, fun k hk => (nsOf k).trans ((State.nsOf_setNs_ne hk).trans ((bound.nsOf (by decide)).trans gone.nsOf)),
      fun h => ?_, fun j hj => (slots j).trans ((rest j hj).trans (same j)), ans, keep⟩
    rw [slots, own h, same]
    exact ⟨rfl, rfl, rfl, rfl⟩
  · refine leads_answer hq rfl ?_
    dsimp only
    rw [show s.nsOf (le q.payload 0 4) = some n from hn]
    dsimp only
    rw [List.isEmpty_eq_false_iff.mpr inUse, if_pos (by decide)]
    rfl
  · have set : Within [.atl] (s.setNs id (some { n with attached := insertUp (q.payload.getD 4 0) n.attached })) s := State.setNs_within (by decide)
    obtain ⟨t, eq, ans, nsOf, keep⟩ := leads_noticed (i := .nsAttach q) hq rfl (by
      dsimp only
      rw [show s.nsOf (le q.payload 0 4) = some n from hn]) set
    exact ⟨t, eq, ⟨_, (nsOf id).trans State.nsOf_setNs, fun f => mem_insertUp⟩, fun k hk => (nsOf k).trans (State.nsOf_setNs_ne hk), ans, keep⟩
  · have set : Within [.atl] (s.setNs id (some { n with attached := n.attached.filter fun k => decide (k ≠ q.payload.getD 4 0) })) s :=
      State.setNs_within (by decide)
    obtain ⟨t, eq, ans, nsOf, keep⟩ := leads_noticed (i := .nsDetach q) hq rfl (by
      dsimp only
      rw [show s.nsOf (le q.payload 0 4) = some n from hn]
      dsimp only
      rw [List.contains_iff_mem.mpr mem, if_neg (by decide)]) set
    exact ⟨t, eq, ⟨_, (nsOf id).trans State.nsOf_setNs, fun f => by rw [List.mem_filter, decide_eq_true_iff, and_comm]⟩,
      fun k hk => (nsOf k).trans (State.nsOf_setNs_ne hk), ans, keep⟩
  · refine leads_answer hq rfl ?_
    dsimp only
    rw [show s.nsOf (le q.payload 0 4) = some n from hn]
    dsimp only
    rw [if_pos (by simpa using out)]
    rfl
  · obtain ⟨t, eq, ans, keep⟩ := leads_answer (i := .nsList q) hq rfl rfl
    refine ⟨t, eq, ⟨_, ans, List.length_take_le .., fun n hn => ?_⟩, keep⟩
    obtain ⟨e, he, h⟩ := List.mem_filterMap.mp (List.mem_of_mem_take hn)
    split at h
    · next c => exact Option.some.inj h ▸ ⟨c.2, e, he, rfl, Option.isSome_iff_ne_none.mp c.1⟩
    · exact absurd h nofun
  · refine leads_answer hq rfl ?_
    rw [show s.nsOf (le q.payload 0 4) = some n from hn]
  · refine leads_answer hq rfl ?_
    rw [show s.nsOf (le q.payload 0 4) = Option.none from none]
    rfl

end Sys2Proof.Machine
end
